-- ==== Sys2Proof/Word.lean ====
section
/-! DEFINITION. Sys2Proof/Word.lean: the word types of the register space (R12, 00_scope.md): words of 16 bits, and the
bytes of the store array, the load window and the CAN payloads. -/
namespace Sys2Proof

/-- A register word (R12). Bit 15 is the most significant bit (R11). -/
abbrev Word := BitVec 16

/-- A byte of the store array, an image or a frame payload. -/
abbrev Byte := BitVec 8

end Sys2Proof
end

