-- ==== Sys2Proof/Frame.lean ====
section
/-! DEFINITION. Sys2Proof/Frame.lean: what a command carries in one operand of several parts: an edge with the time its level is
held, the straps, and the content of the frames of the Clove link (Tables PAIR-3 and PAIR-4, 14_pair.md), part by part, in the
encodings of the registers they copy. A command carries a MIRROR frame, and the link engine builds each kind. -/
namespace Sys2Proof

/-- What an input takes at an edge, and for how many ns it then holds it, as a glitch filter sees it (R251, R284). -/
structure Held (α : Type) where
  val : α
  ns : Nat
  deriving DecidableEq, Repr

/-- An edge of a seed input: the input, the level it takes and for how many ns it holds it (R320). -/
structure SeedPulse where
  input : Fin 24
  level : Bool
  ns : Nat
  deriving DecidableEq, Repr

/-- The straps at the lands (R479, R480): BOOTSEL, PAIR_ID, and those that are left open or do not hold their level in the window
(bits 0 and 1 BOOTSEL, bit 2 PAIR_ID). -/
structure Straps where
  boot : Fin 4
  id : Fin 2
  opens : BitVec 3
  deriving DecidableEq, Repr

/-- A low level of RST_N of `width` ns (R482), and the straps as the lands carry them from it on (R480). -/
structure ResetLow where
  width : Nat
  straps : Straps
  deriving DecidableEq, Repr

/-- The first supply of AON (R113): VMAIN stands above VMAIN_OK or VBAK feeds alone, and the straps at the lands (R480). -/
structure PowerOn where
  vmainOk : Bool
  straps : Straps
  deriving DecidableEq, Repr

/-- A schedule record of a mirror frame (Table PAIR-4, bytes 1,848 to 2,359). -/
structure MirrorRec where
  index : Nat
  held : Bool
  act : Nat
  value : Word
  s : Nat
  mask : Nat
  fired : Nat
  deriving DecidableEq, Repr

/-- The axis part of a mirror frame (Table PAIR-4, bytes 688 to 1,839): AX_STAT, ref in 1/16 rpm, AX_SPD_SET,
AX_CUR_SET_0 to _2, AX_GS_RATE, AX_GS_CTL, the reversal wait in ms, the speed integrator and three current or channel
integrators, AX_ANGLE and AX_CONF. -/
structure MirrorAxis where
  stat : Word
  ref : Int
  spdSet : Word
  curSet : List Word
  rate : Word
  gsCtl : Word
  waitMs : Nat
  iS : Int
  iC : List Int
  angle : Word
  conf : Word
  deriving DecidableEq, Repr

/-- The timer part of a mirror frame (bytes 304 to 687): the words PWM_CMPA to _C, PWM_HRA to _C, PWM_CHEN, PWM_FORCE
and cmp_src. -/
structure MirrorTimer where
  cmp : List Word
  hr : List Word
  chen : Word
  force : Word
  src : Bool
  deriving DecidableEq, Repr

/-- The bank part of a mirror frame (bytes 176 to 303): armed, domain on, the run bits of its timers, the five reaction
flags of byte 1, and per half-bridge PROT_CHFLT[5:0] with the stuck flags in [7:6]. -/
structure MirrorBank where
  armed : Bool
  on : Bool
  run : List Bool
  react : Nat
  flt : List Nat
  deriving DecidableEq, Repr

/-- A MIRROR frame (R425, R426): its sequence number, its slot tick T, the handover flag, and the parts of Table PAIR-4. -/
structure Mirror where
  seq : Nat
  t : Nat
  handover : Bool
  pairId : Bool
  imgId : Nat
  imgCrc : Nat
  /-- FUS_EST_0 to _9. -/
  fus : List Word
  /-- The 1/256 mm residue of s. -/
  residue : Nat
  rev : Bool
  /-- FUS_WHL_CNT_0 to _3, 32 bits. -/
  whl : List Nat
  recHead0 : Word
  recHead1 : Word
  storeSeq : Nat
  jevn : Nat
  /-- The 16 configuration check words (R427). -/
  check : List Nat
  banks : List MirrorBank
  timers : List MirrorTimer
  axes : List MirrorAxis
  schState : Nat
  recs : List MirrorRec
  deriving DecidableEq, Repr

/-- A STATUS frame (Table PAIR-3): its sequence number and slot tick, the sequence of the last MIRROR applied, the ready mask,
PAIR_CFGMIS, REC_HEAD_0, and the flags sync, lockout and device-wide fault. -/
structure StatusFrame where
  seq : Nat
  t : Nat
  applied : Nat
  ready : Word
  cfgmis : Word
  recHead0 : Word
  sync : Bool
  lockout : Bool
  fault : Bool
  deriving DecidableEq, Repr

/-- A HELLO frame (Table PAIR-3): its sequence number and slot tick, PAIR_ID, IMG_ID, IMG_CRC, bank_img, the seeding flag,
IMG_BANKTAG_0 to _7, and the flags owner and lockout. -/
structure HelloFrame where
  seq : Nat
  t : Nat
  pairId : Bool
  imgId : Nat
  imgCrc : Nat
  bankImg : Byte
  seeding : Bool
  tags : List Word
  owner : Bool
  lockout : Bool
  deriving DecidableEq, Repr

end Sys2Proof
end

