-- ==== Sys2Proof/Syntax.lean ====
section
/-! DEFINITION. Sys2Proof/Syntax.lean: the commands the block takes, one constructor per row of spec/opcode_table.json with
the operands the row needs: indices, the words a frame carries, and what only the outside world knows (a measured value,
an instant inside the tick, how long an input stayed at a level). `at'` is always the PWM clock, 0 to 199, inside the
present tick (200 PWM clocks of 5 ns make one tick, R91 of 03_time_and_order.md). -/
namespace Sys2Proof

/-- A command waiting for the block, or an event that happens to it. -/
inductive Instr
  /-- REGISTER_WRITE (R515): A write to a register that has no row of its own stores its writable fields, saturates bounded fields and ignores its RO and closed IL bits. -/
  | registerWrite (at' : Fin 200) (a : Word) (d : Word)
  /-- MULTIWORD_LATCH_READ (R124): A read of the lowest word of a multi-word quantity latches its higher words of the same instant. -/
  | multiwordLatchRead (a : Word)
  /-- NOP (R116): A NOP frame carries the header word alone and returns the status word. -/
  | nop (hdr : Word)
  /-- READ (R121): A READ frame samples consecutive addresses and returns them with a CRC. -/
  | read (hdr : Word) (addr : Word) (words : Nat)
  /-- READ_FIXED (R121): A READ_FIXED frame samples one address repeatedly and returns the words with a CRC. -/
  | readFixed (hdr : Word) (addr : Word) (words : Nat)
  /-- WRITE (R119): A WRITE frame whose CRC checks good is accepted and applies all its words to consecutive addresses in the tick of acceptance. -/
  | write (at' : Fin 200) (hdr : Word) (addr : Word) (body : List Word)
  /-- WRITE_FIXED (R119): A WRITE_FIXED frame whose CRC checks good is accepted and applies all its words to one address in order. -/
  | writeFixed (at' : Fin 200) (hdr : Word) (addr : Word) (body : List Word)
  /-- SPI_HEADER_TRUNCATED (R120): An SCS_N rise before the header word is complete is treated as a truncated write frame and discarded. -/
  | spiHeaderTruncated (edges : Fin 16)
  /-- TICK (R93): Each 1 µs tick increments TB and advances the UTC microseconds count with the frequency correction. -/
  | tick
  /-- INTERNAL_SECOND_BOUNDARY (R96): The microseconds count passing 999,999 makes a second boundary that resets it and increments the seconds count. -/
  | internalSecondBoundary
  /-- PPS_EDGE (R98): A PPS edge is stamped, judged against the nearer boundary and moves the PPS discipline state machine. -/
  | ppsEdge
  /-- PPS_TIMEOUT (R98): 1,500,000 ticks without an accepted edge take LOCKED to HOLDOVER with PPS_LOST. -/
  | ppsTimeout
  /-- TIME_APPLY (R99): A write of apply sets apply_pend so that the next second boundary loads TIME_SET_SEC. -/
  | timeApply
  /-- RELOCK (R98): A write of relock sends the PPS discipline to ACQUIRE with n := 0. -/
  | relock
  /-- TIME_SNAPSHOT_READ (R100): A read of TIME_USEC_LO latches the microseconds, seconds and TB of one tick into the snapshot latch. -/
  | timeSnapshotRead
  /-- TIME_TB_READ (R101): A read of TIME_TB_0 latches TIME_TB_1 and TIME_TB_2 without touching the snapshot latch. -/
  | timeTbRead
  /-- MONITOR_WINDOW_END (R110): At the end of each 192-cycle RC window the reference and core counts are judged and CLK_FAULT flags set. -/
  | monitorWindowEnd (ref : Word) (core : Word) (lost : Bool)
  /-- PLL_UNLOCK (R111): The PLL lock detector sets pll_unlock within 10 µs of lock loss, treated as a clock failure. -/
  | pllUnlock
  /-- TICK_RESTORE (R112): A write of tick_restore returns the tick to the reference if it has passed every window for 1 ms. -/
  | tickRestore
  /-- IMAGE_LOAD (R70): The IMAGE_LOAD doorbell latches IMG_LDCTL and queues an image-class long operation. -/
  | imageLoad
  /-- OP_UNKNOWN_CODE (R144): A doorbell with an op code not in Table HOST-7 is refused with UNKNOWN and takes no slot. -/
  | opUnknownCode (op : Byte)
  /-- IMAGE_VERIFY_DONE (R71): The image checks end, either at the first failing check or after check 15 with the image staged. -/
  | imageVerifyDone
  /-- WHOLE_IMAGE_SWAP (R73): At the swap tick a whole image replaces the structure, switches every domain off and resets the image-dependent blocks. -/
  | wholeImageSwap
  /-- BANK_IMAGE_SWAP (R75): At the swap tick a bank image replaces one bank's content and raises IMG_LOADED and BANK_RECONF. -/
  | bankImageSwap
  /-- SLOT_WRITE_BURST (R406): A slot write programs one burst of up to 256 bytes per ms or erases one slot sector. -/
  | slotWriteBurst (ok : Bool)
  /-- IMG_KEYDATA_WRITE (R80): A write to IMG_KEYDATA stores the next key word and adds to the word count. -/
  | imgKeydataWrite (d : Word)
  /-- KEY_CMD_ARM (R80): A write of 0x00C3 to IMG_KEYCMD opens a key programming sequence. -/
  | keyCmdArm
  /-- KEY_CMD_PROGRAM (R80): A write of 0x003C directly after 0x00C3 with 16 words written starts key programming, otherwise sets key_err. -/
  | keyCmdProgram
  /-- KEY_PROGRAM_DONE (R80): Key programming and verification end, setting state PROGRAMMED or DAMAGED and loading IMG_KEYCHK. -/
  | keyProgramDone (ok : Bool)
  /-- SHUNT_CAL (R272): The SHUNT_CAL doorbell queues calibration of the shunt offsets of the banks in its mask. -/
  | shuntCal
  /-- DLINE_CAL (R170): The DLINE_CAL doorbell queues measurement of every live delay line of the banks in its mask. -/
  | dlineCal
  /-- SELF_TEST (R462): The SELF_TEST doorbell queues the mechanism tests selected in P0. -/
  | selfTest
  /-- MOTOR_ID (R271): The MOTOR_ID doorbell queues identification of Rs, Ld, Lq and flux linkage of one axis. -/
  | motorId
  /-- COMPACT (R402): The COMPACT doorbell queues compaction of every journal sector holding dead bytes. -/
  | compact
  /-- OP_START (R137): A queued operation starts when its class becomes free, after its preconditions are checked. -/
  | opStart (slot : Fin 8)
  /-- OP_PARTIAL (R140): An operation publishes a partial value into a result entry, moving its slot to PARTIAL. -/
  | opPartial (slot : Fin 8) (entry : Fin 8) (value : BitVec 32) (progress : Byte)
  /-- OP_END (R138): An operation reaches DONE, FAILED or ABORTED and raises OP_END. -/
  | opEnd (slot : Fin 8) (model : Bool) (vals : List (BitVec 32))
  /-- OP_TIMEOUT (R143): Running time beyond the maximum of Table HOST-7 ends the operation FAILED with TIMEOUT. -/
  | opTimeout (slot : Fin 8)
  /-- OP_RELEASE (R141): A ticket written to OP_RELEASE frees a terminal slot whose generation matches. -/
  | opRelease (d : Word)
  /-- OP_ABORT (R142): A ticket written to OP_ABORT aborts a queued or running slot at its next safe step. -/
  | opAbort (d : Word)
  /-- CAN_RX (R129): A received CAN frame is stamped and stored in the lowest-index matching empty receive buffer. -/
  | canRx (c : Fin 2) (ide : Bool) (fdf : Bool) (brs : Bool) (id : BitVec 29) (dlc : Fin 16) (data : List Byte) (sof : Nat)
  /-- CAN_TXREQ (R131): A write of 1 to CANc_TXREQ makes a transmit buffer pending. -/
  | canTxreq (c : Fin 2) (hi : Bool) (d : Word)
  /-- CAN_TX_DONE (R131): A successful transmission clears the pending bit and raises CANc_TX. -/
  | canTxDone (c : Fin 2) (m : Fin 32) (sof : Nat)
  /-- CAN_TX_FAIL (R131): A failed or lost transmission is retried, or with single = 1 stops pending with err or lost set. -/
  | canTxFail (c : Fin 2) (m : Fin 32) (lost : Bool) (lec : Fin 8)
  /-- CAN_TXABORT (R131): A write of 1 to CANc_TXABORT ends a pending buffer before its next start of frame. -/
  | canTxabort (c : Fin 2) (hi : Bool) (d : Word)
  /-- CAN_ERROR_STATE_CHANGE (R133): A change of fault-confinement state updates CANc_STAT and raises CANc_ERR. -/
  | canErrorStateChange (c : Fin 2) (st : Fin 3) (sync : Bool) (rec : Byte) (tec : Byte) (lec : Fin 8)
  /-- CAN_BUSOFF_RECOVERY (R133): Bus-off recovery completes after 128 occurrences of 11 recessive bits. -/
  | canBusoffRecovery (c : Fin 2)
  /-- LOAD_ALL (R157): A PWM_LOADALL write arms the named timers, copying their shadows into the armed stage. -/
  | loadAll (at' : Fin 200) (hi : Bool) (d : Word)
  /-- TIMER_START (R162): A PWM_RUN bit set to 1 schedules its timer's start edge 4 PWM clocks later. -/
  | timerStart (at' : Fin 200) (t : Fin 24)
  /-- TIMER_STOP (R162): A PWM_RUN bit set to 0 stops its timer at the next wrap. -/
  | timerStop (at' : Fin 200) (t : Fin 24)
  /-- START_EDGE (R162): At the start edge the counter is 0, the shadows are taken and any pending stage is discarded. -/
  | startEdge (t : Fin 24)
  /-- TIMER_WRAP (R159): The counter returns to 0 after PER, firing the wrap event and taking direct registers, forces and pending transfers. -/
  | timerWrap (t : Fin 24)
  /-- COMPARE_MATCH (R155): The counter reaching CMPr turns the channel's command from HIGH to LOW. -/
  | compareMatch (t : Fin 24) (r : Fin 3)
  /-- TRIGGER_COMPARE (R173): The counter reaching TRGn fires its event to the routed destinations. -/
  | triggerCompare (t : Fin 24) (n : Fin 4)
  /-- REFRESH_PULSE_END (R163): After tREF of LOW the refresh pulse ends and the period's own command follows. -/
  | refreshPulseEnd (t : Fin 24) (r : Fin 3)
  /-- DLC_CAL_CYCLE (R169): Every 1 ms each bank measures its replica line and forms a new delay-line table. -/
  | dlcCalCycle (b : Fin 8) (ok : Bool) (bias : Byte) (tapdly : Word) (taps : List (BitVec 6))
  /-- COMMAND_CHANGE (R182): A new command from the precedence table reaches the driver of a half-bridge. -/
  | commandChange (at' : Fin 200) (h : Fin 72)
  /-- TURN_ON_START (R189): A gate turn-on begins once its command holds, the complementary gate is off and tDEADMIN has passed. -/
  | turnOnStart (at' : Fin 200) (h : Fin 72) (hi : Bool)
  /-- GATE_OFF_SENSED (R193): A gate falling below VGS_OFF releases the handshake and stops the tHSTO timer. -/
  | gateOffSensed (at' : Fin 200) (h : Fin 72) (hi : Bool)
  /-- TGMIN_EXPIRY (R190): After tGMIN of turn-on a waiting turn-off command begins. -/
  | tgminExpiry (at' : Fin 200) (h : Fin 72) (hi : Bool)
  /-- GATE_STUCK (R191): tHSTO expiring before the gate falls detects GATE_STUCK and starts the axis fault reaction. -/
  | gateStuck (at' : Fin 200) (h : Fin 72) (hi : Bool)
  /-- GATE_FGN (R194): A gate sensed above VGS_OFF for tFGN without a turn-on of the Z2472 is a foreign rise. -/
  | gateFgn (at' : Fin 200) (h : Fin 72) (hi : Bool)
  /-- FLOAT_ENTRY (R184): A pin float condition commands phase Hi-Z on all nine half-bridges of the bank. -/
  | floatEntry (at' : Fin 200) (b : Fin 8)
  /-- FLOAT_OUTPUT_DISABLE (R184): Output stages are disabled when every gate is off or 800 ns after the float condition. -/
  | floatOutputDisable (at' : Fin 200) (b : Fin 8)
  /-- FLOAT_EXIT_HOLD_END (R184): After leaving pin float the driver follows commands once its first 100 ns in phase Hi-Z end. -/
  | floatExitHoldEnd (at' : Fin 200) (b : Fin 8)
  /-- VDRV_UV (R200): VDRV_b falling below its threshold puts the bank in phase Hi-Z with self-biased clamps and raises GATE_UV. -/
  | vdrvUv (at' : Fin 200) (b : Fin 8)
  /-- VCP_UV (R201): VCP_b falling below its threshold turns every high side off and takes each slot's safe state. -/
  | vcpUv (at' : Fin 200) (b : Fin 8)
  /-- BST_UV (R203): A bootstrap supply below its threshold blocks the high side, counts GATE_BSTUVCNT and raises BST_UV. -/
  | bstUv (at' : Fin 200) (h : Fin 72)
  /-- SUPPLY_RISE (R199): A gate supply rising above its rising threshold sets vdrv_ok, cp_ok or bst_ok and arms its lock-out. -/
  | supplyRise (which : Fin 3) (i : Fin 72)
  /-- GSUP_FLT_CLEAR (R202): A write of 1 to vdrv_uv or vcp_uv releases the lock-out if the supply is above its rising threshold. -/
  | gsupFltClear (b : Fin 8) (d : Word)
  /-- DDP_INPUT_EDGE (R204): A filtered DDP PULSE or ENABLE edge replaces the timer command of its half-bridge. -/
  | ddpInputEdge (at' : Fin 200) (en : Bool) (i : Fin 9) (level : Bool) (width : Nat)
  /-- DSBL_EXPIRY (R215): The blanking time tDSBL ends and the desaturation comparator output starts to count. -/
  | dsblExpiry (at' : Fin 200) (h : Fin 72) (hi : Bool)
  /-- DESAT (R215): VDS above VDSTH for tDSDG after blanking detects DESAT and starts the axis reaction. -/
  | desat (at' : Fin 200) (h : Fin 72) (hi : Bool)
  /-- HARD_SHORT_ARM (R216): The hard-short comparator arms 200 ns after the turn-on start. -/
  | hardShortArm (at' : Fin 200) (h : Fin 72) (hi : Bool)
  /-- HARD_SHORT (R216): VDS above 6 V for 40 ns while armed detects HARD_SHORT. -/
  | hardShort (at' : Fin 200) (h : Fin 72) (hi : Bool)
  /-- PLATEAU (R217): The plateau timer reaching tPLAT before the gate nears its supply detects PLATEAU. -/
  | plateau (at' : Fin 200) (h : Fin 72) (hi : Bool)
  /-- PROT_CHFLT_CLEAR (R224): A write of 1 clears a detector flag set in an earlier tick. -/
  | protChfltClear (b : Fin 8) (i : Fin 9) (d : Word)
  /-- TRIP_RECOGNISED (R226): TRIP_b high for tTRIPF puts the bank in phase Hi-Z and raises BANK_TRIP with cause TRIP. -/
  | tripRecognised (at' : Fin 200) (b : Fin 8) (high : Nat)
  /-- TRIP_RELEASE (R226): With latch = 0 the trip reaction ends when TRIP_b falls low. -/
  | tripRelease (b : Fin 8)
  /-- BLANK_WINDOW_END (R227): The bank blanking window closes and a held assertion starts its filtering. -/
  | blankWindowEnd (at' : Fin 200) (b : Fin 8)
  /-- CURRENT_LIMIT_TRIP (R228): A current-limit comparator trip commands LOW or phase Hi-Z until the next wrap. -/
  | currentLimitTrip (at' : Fin 200) (h : Fin 72) (high : Nat)
  /-- CHOPPER_ON (R229): VM_b above VOV1_ON for the filter time turns the bank's chopper on. -/
  | chopperOn (at' : Fin 200) (b : Fin 8)
  /-- CHOPPER_OFF (R229): VM_b below VOV1_OFF for the filter time turns the bank's chopper off. -/
  | chopperOff (at' : Fin 200) (b : Fin 8)
  /-- VOV2 (R229): VM_b above VOV2 for the filter time takes the bank's vov2 reaction and raises BANK_TRIP. -/
  | vov2 (at' : Fin 200) (b : Fin 8)
  /-- CHOP_LONG (R231): The chopper staying on longer than PROT_CHOPMAX sets chop_long and raises PROT_WARN. -/
  | chopLong (b : Fin 8)
  /-- OTS (R445): The over-temperature comparator trip takes each slot's safe state and raises BANK_TRIP with cause OTS. -/
  | ots (at' : Fin 200) (b : Fin 8)
  /-- PROT_BFLT_CLEAR (R229): A write of 1 to a PROT_BFLT flag releases its bank reaction when its release condition holds. -/
  | protBfltClear (b : Fin 8) (d : Word)
  /-- ESTOP (R232): A recognised ESTOP_N disarms every bank, takes every slot to its safe state and raises ESTOP. -/
  | estop (at' : Fin 200) (width : Nat)
  /-- ESTOP_RELEASE (R232): ESTOP_N returning high leaves the banks unarmed until the host arms them. -/
  | estopRelease
  /-- ENGINE_STEP (R242): A routed engine loop tick runs a current step, and on every spd_div-th one a speed step, writing the compare stage. -/
  | engineStep (at' : Fin 200) (a : Fin 24)
  /-- CONVERTER_START (R247): A routed start makes a converter run its sequence, or is lost if the converter is busy. -/
  | converterStart (c : Fin 24)
  /-- CONVERSION_DONE (R247): A conversion ends and loads its result, background register or sequence count. -/
  | conversionDone (at' : Fin 200) (c : Fin 24) (code : BitVec 12)
  /-- HALL_EDGE (R251): A Hall edge to a state, held for a time, updates the axis sector and acts on the engine at once where
  it passes the filter. -/
  | hallEdge (a : Fin 24) (h : Held (Fin 8))
  /-- ENCODER_EDGE (R252): An encoder edge to a level, held for a time, updates the count modulo AX_ENC_CPR where it passes the
  filter. -/
  | encoderEdge (a : Fin 24) (track : Fin 3) (level : Held Bool)
  /-- AXIS_START (R258): AX_CMD START on a stopped axis in an armed bank checks the mode and begins start-up or RUN. -/
  | axisStart (a : Fin 24)
  /-- AXIS_STOP (R257): AX_CMD STOP ramps the axis to 0 at AX_DEC or stops it at once from the start-up states. -/
  | axisStop (a : Fin 24)
  /-- AXIS_COAST (R257): AX_CMD COAST clears CHEN and drops the axis to STOPPED at once. -/
  | axisCoast (a : Fin 24)
  /-- AXIS_STALL_CLEAR (R266): A write of the stall bit of AX_CMD clears the FLAG stall. -/
  | axisStallClear (a : Fin 24)
  /-- ALIGN_DONE (R257): AX_TALIGN elapsing ends ALIGN and moves the axis to RAMP or RUN. -/
  | alignDone (a : Fin 24)
  /-- RETRY_WAIT_END (R257): 100 ms in RETRY_WAIT end and the axis restarts as from START. -/
  | retryWaitEnd (a : Fin 24)
  /-- STALL_DETECTED (R265): A stall criterion holding for its time counts a stall and takes the STOP, RETRY or FLAG reaction. -/
  | stallDetected (a : Fin 24) (crit : Fin 3)
  /-- WHEEL_COUNT (R286): A wheel edge to a level, held for a time, is filtered, checked for plausibility and accepted, rejected or
  accompanied by an inserted count. -/
  | wheelCount (n : Fin 4) (trackB : Bool) (level : Held Bool)
  /-- GNSS_SENTENCE (R287): A received NMEA sentence is checked and gives speed and course samples or FUS_GNSS_FIX. -/
  | gnssSentence (bytes : List Byte) (framing : Bool) (dollar : Nat)
  /-- IMU_TRIGGER (R290): A fusion instant or IMU_DRDY edge starts the inertial-unit read sequence, or is lost if one runs. -/
  | imuTrigger
  /-- IMU_SEQ_DONE (R290): The inertial-unit sequence ends and its scaled values become samples. -/
  | imuSeqDone (rx : List (BitVec 16))
  /-- SENT_FRAME (R291): A SENT frame is decoded and checked, loading FUS_ANGLE_n or counting an error. -/
  | sentFrame (n : Fin 2) (pulses : List Nat)
  /-- HOST_INJECT (R292): The FUS_HINJ kind word commits a host speed or yaw-rate sample with its extended stamp. -/
  | hostInject (d : Word)
  /-- FUSION_PUBLICATION (R293): At t_k + D the fused estimate is computed and published and schedule predictions are made. -/
  | fusionPublication
  /-- SCHEDULE_COMMIT (R303): A pending target whose predicted time is within tCOMMIT is frozen to a committed tick. -/
  | scheduleCommit (i : Fin 256) (n : Fin 24)
  /-- SCHEDULE_FIRE (R305): At its committed tick a target's action is applied in class 4 and its position error recorded. -/
  | scheduleFire (at' : Fin 200) (i : Fin 256) (n : Fin 24)
  /-- SCHED_LATE_FIRE (R306): A target already at or past s_e fires in the next tick and counts as late. -/
  | schedLateFire (at' : Fin 200) (i : Fin 256) (n : Fin 24)
  /-- SCHEDULE_INSERT (R302): The SCH_IN_0 write inserts an entry at the lowest free index or refuses it with SCHED_FULL. -/
  | scheduleInsert (d : Word)
  /-- SCH_SECT_ON (R307): SCH_SECT action ON applies the ON action to every named target at once. -/
  | schSectOn (at' : Fin 200)
  /-- SCH_SECT_OFF (R307): SCH_SECT action OFF applies the OFF action to every named target at once. -/
  | schSectOff (at' : Fin 200)
  /-- SCH_SECT_RATE (R307): SCH_SECT action RATE writes the value to every named target at once. -/
  | schSectRate (at' : Fin 200)
  /-- SCH_CANCEL (R309): SCH_CANCEL removes the unfired targets of one entry and frees its index. -/
  | schCancel (i : Fin 256)
  /-- SCH_CANCEL_ALL (R309): SCH_CANCEL with all = 1 removes every entry. -/
  | schCancelAll
  /-- SEED_EDGE (R320): A seed edge to a level, held for a time, enters the row's observed buffer where it is a leading edge that
  passes the filter, outside the dead time. -/
  | seedEdge (x : SeedPulse)
  /-- ASSOCIATION_EPOCH_CLOSE (R321): At each epoch close a batch is built for each row and queued for the solver. -/
  | associationEpochClose
  /-- SOLVE_START (R332): The solver takes the next queued batch when it is free. -/
  | solveStart
  /-- SOLVE_DONE (R327): A solve ends and publishes matches, skips, extras and counters for the row. -/
  | solveDone (ok : Bool) (dur : Word)
  /-- SOLVER_STORE_CLEARED (R336): After a solver fault the working store is cleared and the solver continues with the next batch. -/
  | solverStoreCleared
  /-- SOL_CLR_COUNTERS (R339): SOL_CLR bit 0 clears the row's cumulative counters. -/
  | solClrCounters (r : Fin 24)
  /-- SOL_CLR_WINDOW (R339): SOL_CLR bit 1 clears the row's current window. -/
  | solClrWindow (r : Fin 24)
  /-- EVT_STAT_CLEAR (R342): A write of 1 to an EVT_STAT bit clears it if it was set in an earlier tick. -/
  | evtStatClear (g : Fin 8) (d : Word)
  /-- RECORD_WRITE (R345): A record is written into its partition slot by the end of the following tick. -/
  | recordWrite
  /-- RECORDER_FREEZE (R352): A write of freeze = 1 freezes the recorder at the end of the tick, routing records to the hold FIFO. -/
  | recorderFreeze
  /-- RECORDER_THAW (R353): A write of freeze = 0 ends the freeze and starts the drain. -/
  | recorderThaw
  /-- FREEZE_TIMEOUT (R353): 100 ms after it took effect the freeze ends by itself. -/
  | freezeTimeout
  /-- HOLD_FIFO_DRAIN (R353): The hold FIFO drains into the partitions, at most 64 records per tick, then raises REC_THAW. -/
  | holdFifoDrain
  /-- REC_CLR (R363): A write of 0x00C5 to REC_CLR empties the general partition. -/
  | recClr
  /-- HOST_MARK (R357): The REC_MARK_0 write commits and raises HOST_MARK. -/
  | hostMark (d : Word)
  /-- VMAIN_FAIL (R371): VMAIN below VMAIN_FAIL for tFAILF starts the hand-over: disarm, safe states and PWR_LOSS. -/
  | vmainFail (at' : Fin 200) (vmain : Word) (vbak : Word)
  /-- HANDOVER_STEP (R371): At each timed point after t0 the hand-over switches domains off and at 40 µs starts the flush. -/
  | handoverStep (at' : Fin 200)
  /-- CRITICAL_WINDOW_END (R373): At t0 + 200 µs the critical window ends and the dwell starts if VMAIN is at or above VMAIN_OK. -/
  | criticalWindowEnd
  /-- FLUSH_END (R374): The flush ends, moving CORE to VMAIN, off, or to a warm restart. -/
  | flushEnd
  /-- VMAIN_OK_RISE (R375): VMAIN rising to VMAIN_OK during a hand-over starts the dwell. -/
  | vmainOkRise
  /-- VMAIN_BOUNCE (R376): A fall below VMAIN_FAIL after reaching VMAIN_OK during a hand-over counts a bounce and stops the dwell. -/
  | vmainBounce
  /-- DWELL_COMPLETE (R375): The 20 ms dwell completes and the device restarts warm or powers CORE on. -/
  | dwellComplete
  /-- VBAK_MIN_LOSS (R384): VBAK below its VBAK_MIN threshold during a hand-over takes CORE and AON off into DOWN. -/
  | vbakMinLoss
  /-- BANK_HOLD_END (R372): tBHOLD or a VDRV lock-out ends the driver die's hold and the bank enters pin float. -/
  | bankHoldEnd (at' : Fin 200) (b : Fin 8)
  /-- AON_POWER_ON (R113): The first application of VMAIN or VBAK resets TB, UTC, the power and store blocks and starts the mount. -/
  | aonPowerOn (x : PowerOn)
  /-- STORE_MOUNT_DONE (R405): The journal mount ends, fixing the head and sequence numbers and releasing held commands. -/
  | storeMountDone
  /-- DOMAIN_SWITCH_ON (R367): Setting PWR_DOM_REQ bits starts the switch-on sequence of those domains. -/
  | domainSwitchOn (at' : Fin 200) (dom : Fin 12)
  /-- DOMAIN_SWITCH_OFF (R367): Clearing PWR_DOM_REQ bits switches those domains off, disarming a bank first. -/
  | domainSwitchOff (at' : Fin 200) (dom : Fin 12)
  /-- DOMAIN_START (R367): The next domain of the on-order starts 20 µs after the previous one. -/
  | domainStart (dom : Fin 12)
  /-- DOMAIN_READY (R367): A started domain becomes ready, and the last one raises DOMAIN_SW. -/
  | domainReady (dom : Fin 12)
  /-- ENERGY_ESTIMATE (R379): Every 1 ms the stored energy is computed from VBAK and compared with the required energy. -/
  | energyEstimate (vmain : Word) (vbak : Word) (vio : Word)
  /-- VIO_UV (R384): VIO below VIO_UV clears vio_ok and takes the device-wide supply reaction. -/
  | vioUv (at' : Fin 200) (vio : Word)
  /-- STORE_WRITE (R393): The STORE_WR_0 WRITE command loads the host write stage with a key and payload. -/
  | storeWrite (len : Byte)
  /-- STORE_DELETE (R395): The STORE_WR_0 DELETE command stages a tombstone for the key. -/
  | storeDelete
  /-- STORE_READ (R396): A key written to STORE_RD starts a read of its committed value. -/
  | storeRead (key : Fin 1024)
  /-- STORE_READ_DONE (R396): The read fills STORE_RBUF and sets STORE_RRES to FOUND or ABSENT. -/
  | storeReadDone
  /-- STORE_APPEND (R398): The next queued event record or staged host record is appended at the head when its turn comes. -/
  | storeAppend
  /-- PROGRAM_BURST_DONE (R400): A program burst is read back before the next, a failure resealing the head and raising STORE_ERR. -/
  | programBurstDone (ok : Bool)
  /-- COMPACTION_STEP (R401): A compaction step copies the victim's live records, releases it and erases it. -/
  | compactionStep
  /-- BACKGROUND_COMPACTION (R402): STORE_FREE below the low mark starts background compaction steps. -/
  | backgroundCompaction
  /-- PAIR_OWN_IN_CHANGE (R417): A change of PAIR_OWN_IN updates the partner's role as seen by this device. -/
  | pairOwnInChange (at' : Fin 200) (level : Bool) (equal : Bool)
  /-- PAIR_CLAIM (R420): PAIR_OWN_IN released for tCLAIM makes a standby claim ownership with every bank unarmed. -/
  | pairClaim (at' : Fin 200)
  /-- GATE_CHECK_PASS (R419): All 18 gates below VGS_OFF for tGCHK let a bank of an owner leave pin float. -/
  | gateCheckPass (at' : Fin 200) (b : Fin 8)
  /-- LANE_ALIGNED (R424): 64 valid symbols align a receive lane. -/
  | laneAligned (lane : Fin 2)
  /-- LANE_ALIGNMENT_LOST (R424): 8 invalid symbols within 64 lose alignment, returning to TRAIN or to LOST. -/
  | laneAlignmentLost (lane : Fin 2)
  /-- LINK_SLOT (R425): At each 100 µs slot the device sends HELLO, MIRROR or STATUS by state and role. -/
  | linkSlot
  /-- HELLO_RECEIVED (R425): A compatible HELLO frame takes the link to UP and raises LINK_UP. -/
  | helloReceived (pairId : Bool) (imgId : BitVec 32) (imgCrc : BitVec 32) (bankImg : Byte) (tags : List Word) (owner : Bool) (lockout : Bool)
  /-- MIRROR_RECEIVED (R430): A good MIRROR frame is applied to the standby's registers, engines and queue. -/
  | mirrorReceived (at' : Fin 200) (good : Bool) (start : Nat) (f : Mirror)
  /-- STATUS_RECEIVED (R429): A good STATUS frame updates the owner's partner_ready. -/
  | statusReceived (seq : BitVec 32) (ready : Byte) (cfgmis : Word) (head0 : Word) (sync : Bool) (lockout : Bool) (fault : Bool)
  /-- FRAME_MISSED (R428): No good frame within 101 µs counts a miss; three take the link to LOST. -/
  | frameMissed (at' : Fin 200)
  /-- LINK_RETRY_END (R428): tRETRY elapsing in LOST returns the link to TRAIN. -/
  | linkRetryEnd
  /-- RELEASE_SEQUENCE_RECEIVED (R433): A received release sequence starts PAIR_OWN_IN qualification for a hot takeover. -/
  | releaseSequenceReceived (at' : Fin 200) (cause : Byte)
  /-- TAKEOVER_QUALIFIED (R433): PAIR_OWN_IN released for 2 µs after the release makes the standby owner. -/
  | takeoverQualified (at' : Fin 200)
  /-- TAKEOVER_COMMIT (R433): The new owner commits the state of its last applied frame and starts the gate checks. -/
  | takeoverCommit (at' : Fin 200)
  /-- HANDOVER (R435): PAIR_CMD HANDOVER on a ready owner sets the handover flag in the next MIRROR frame. -/
  | handover
  /-- HANDOVER_RELEASE (R435): After the handover frame's K29.7 the owner releases with cause REL_HOST. -/
  | handoverRelease (at' : Fin 200)
  /-- CLEAR_LOCK (R422): PAIR_CMD CLEAR_LOCK ends a lockout. -/
  | clearLock
  /-- SUPERVISOR_MISMATCH (R449): A mismatch between the two supervisor channels is a supervisor fault with the device-wide reaction. -/
  | supervisorMismatch (at' : Fin 200) (group : Word)
  /-- SCRUB_PASS (R450): A scrub pass over the image completes, counting SAFE_SCRUBCNT or detecting a scrub failure. -/
  | scrubPass (at' : Fin 200) (ok : Bool) (a : Word)
  /-- RAM_SEC (R451): The RAM sweep corrects a single-bit error or takes the double-bit reaction of its RAM class. -/
  | ramSec (at' : Fin 200) (inst : Byte) (a : Word) (double : Bool)
  /-- PLAUS_TRIP (R452): The phase-current sum above SAFE_PLTHR for 1 ms takes the axis safe state and sets SAFE_PLFLT. -/
  | plausTrip (at' : Fin 200) (a : Fin 24)
  /-- DIE_LINK_LOSS (R454): Five missing check frames from driver die k disarm its banks and raise SAFE_DEV with DIE_LINK. -/
  | dieLinkLoss (at' : Fin 200) (k : Fin 4)
  /-- DIE_LINK_RESTORE (R454): 1 ms of good check frames returns die_ok[k] to 1. -/
  | dieLinkRestore (k : Fin 4)
  /-- WATCHDOG_ENABLE (R455): A SAFE_WDCFG write with en = 1 starts the watchdog until the next reset release. -/
  | watchdogEnable (d : Word)
  /-- WATCHDOG_KICK (R455): A SAFE_WDKICK write is judged and accepted or raises WDOG early. -/
  | watchdogKick (at' : Fin 200) (d : Word)
  /-- WDOG_LATE (R455): Elapsed time exceeding tmax raises WDOG late and the device-wide reaction. -/
  | wdogLate (at' : Fin 200)
  /-- SAFE_CLR (R447): A write of 0x00C1 clears SAFE_STAT.dev if its clear condition holds. -/
  | safeClr
  /-- SAFE_PLFLT_CLEAR (R452): A write of 1 to a SAFE_PLFLT bit releases the plausibility reaction at the next wrap. -/
  | safePlfltClear (hi : Bool) (d : Word)
  /-- ARM_PREPARE (R457): A write of 0x00A5 to BANK_ARM opens an arming sequence for 10 ms. -/
  | armPrepare (b : Fin 8)
  /-- ARM_COMPLETE (R457): A write of 0x005A after 0x00A5 judges the interlocks and arms the bank or refuses it. -/
  | armComplete (at' : Fin 200) (b : Fin 8)
  /-- DISARM (R457): A write of 0x0000 to BANK_ARM disarms the bank with cause 0x01. -/
  | disarm (at' : Fin 200) (b : Fin 8)
  /-- STARTUP_TEST_DONE (R462): The start-up mechanism tests end and set mech to PASSED or FAILED. -/
  | startupTestDone (failed : BitVec 5)
  /-- RST_N_ASSERT (R482): A recognised RST_N low puts the device in reset, floating every bank. -/
  | rstNAssert (at' : Fin 200) (low : ResetLow)
  /-- RESET_RELEASE (R481): The end of the last reset source reads the straps, raises RESET and starts the device as standby. -/
  | resetRelease
  /-- SOFTWARE_RESET (R489): 0x5A3C then 0xC3A5 to SYS_SWRST in one frame starts a software reset. -/
  | softwareReset (at' : Fin 200)
  /-- TAP_EXTEST (R484): The EXTEST instruction holds the device in reset and drives boundary outputs. -/
  | tapExtest (at' : Fin 200)
  /-- TAP_HIGHZ (R484): The HIGHZ instruction holds the device in reset with boundary outputs floating. -/
  | tapHighz (at' : Fin 200)
  /-- TAP_CLAMP (R484): The CLAMP instruction holds the device in reset with the boundary register driving. -/
  | tapClamp (at' : Fin 200)
  /-- TAP_IDCODE (R484): The IDCODE instruction selects the IDCODE 0x1247_2D35 while the device runs. -/
  | tapIdcode
  /-- TAP_SAMPLE_PRELOAD (R484): The SAMPLE/PRELOAD instruction samples the boundary register while the device runs. -/
  | tapSamplePreload (cells : Nat)
  /-- TAP_BYPASS (R484): The BYPASS instruction, or a reserved code, selects the bypass register. -/
  | tapBypass
  /-- TAP_RESET (R484): TRST_N low or five TCK cycles with TMS high reset the TAP and load IDCODE. -/
  | tapReset
  /-- GATE_PLATEAU_REACHED (R217): The plateau comparator of a gate that is turning on reports VGS at or above its supply minus 2 V, which stops the plateau timer. -/
  | gatePlateauReached (h : Fin 72) (hi : Bool)
  /-- SALIENCY_DONE (R259): The sixth saliency pulse and its current decay end, the rotor angle is estimated and the axis passes from SALIENCY to ALIGN. -/
  | saliencyDone (a : Fin 24) (peaks : List (BitVec 16))
  /-- VMAIN_OK_FALL (R375): VMAIN falling below VMAIN_OK but not below VMAIN_FAIL during a hand-over stops the dwell, and in HOLD it switches CORE off into BACKUP. -/
  | vmainOkFall
  /-- VIO_OK_RISE (R384): VIO rising back above the VIO_UV rising threshold while the device runs sets vio_ok and ends the ignoring of the VIO-level inputs. -/
  | vioOkRise
  deriving DecidableEq, Repr

end Sys2Proof
end

