-- ==== Sys2Proof/Decode.lean ====
section
/-! DEFINITION. Sys2Proof/Decode.lean: the command a word of the opcode table spells. No row of spec/opcode_table.json
gives its command any bits, so no word spells one. -/
namespace Sys2Proof

/-- The command that the table's bits spell: none, for every word (spec/opcode_table.json gives no row bits). -/
def decodeTableWord (_nbits _w : Nat) : Option Instr := none

/-- No word of the table spells a command. -/
theorem decodeTableWord_none (n w : Nat) : decodeTableWord n w = none := rfl

end Sys2Proof
end

