-- ==== Sys2Proof/Config.lean ====
section
/-! DEFINITION. Sys2Proof/Config.lean: what an implementation or a part fixes and the spec does not, and the free values.
Every constant here is opaque: no statement can rest on a value of it. A free value is a function of the counter
`State.free`, so that each use takes a fresh one (notes/assumptions/4.md). -/
namespace Sys2Proof.Config

/-- A choice between two behaviours that the spec leaves open (R142, R204, R232, R480), and the neighbour a value takes
where the spec states no rounding, or no rule for a tie (notes/assumptions/11.md). -/
opaque freeBool : Nat → Bool

/-- A register value that the spec leaves open. -/
opaque freeWord : Nat → Word

/-- The legal writes whose effect stands for an UNPREDICTABLE result in one block (R20, R21): addresses and values. -/
opaque freeWrites : Nat → List (Nat × Word)

/-- The factory trim of DLC_OFS_i of each half-bridge (R179). -/
opaque dlcTrim : Nat → Word

/-- PROT_TEMP for a code of the temperature entry of a bank: the spec gives the sensor no scale (Over-temperature, 07;
notes/assumptions/12.md). -/
opaque tempOf : Nat → Nat → Word

/-- Sine and cosine of an angle in turns and the square root, which the transforms of R254 use and for which the spec
states no word length (notes/assumptions/13.md). -/
opaque sinT : Rat → Rat
opaque cosT : Rat → Rat
opaque sqrtQ : Rat → Rat

/-- The duty of a voltage while VM_b reads 0, for which R254 and R256 give no quotient (notes/assumptions/13.md). -/
opaque noVm : Rat → Rat

end Sys2Proof.Config
end

