-- ==== Sys2Proof/Machine/Addr.lean ====
section
/-! DEFINITION. Sys2Proof/Machine/Addr.lean: the address of every register instance, one function per register name, its
arguments the instance indices in the order of the register table's row (bank registers: the bank first). -/
namespace Sys2Proof.Machine.A

/-- R3 00_scope.md. -/
def ID_PART : Nat := 0x0000
/-- R3 00_scope.md. -/
def ID_REV : Nat := 0x0001
/-- R489 16_lands_reset.md. -/
def SYS_BOOT : Nat := 0x0002
/-- R489 16_lands_reset.md. -/
def SYS_RSTCNT : Nat := 0x0003
/-- R489 16_lands_reset.md. -/
def SYS_SWRST : Nat := 0x0004
/-- R489 16_lands_reset.md. -/
def SYS_PINALT : Nat := 0x0005
/-- R48 01_device_map.md. -/
def SYS_SLOTMAP (i : Nat) : Nat := 0x0010 + i
/-- R48 01_device_map.md. -/
def SYS_DDP : Nat := 0x0018
/-- R48 01_device_map.md. -/
def SYS_HBMAP01 (i j : Nat) : Nat := 0x0020 + 0x3 * i + j
/-- R48 01_device_map.md. -/
def SYS_HBMAP2 (i : Nat) : Nat := 0x0022 + 0x3 * i
/-- Table IMG-12 02_juniper_image.md. -/
def IMG_STATUS : Nat := 0x0040
/-- Table IMG-13 02_juniper_image.md. -/
def IMG_REJECT : Nat := 0x0041
/-- Table IMG-13 02_juniper_image.md. -/
def IMG_LDCTL : Nat := 0x0042
/-- R81 02_juniper_image.md. -/
def IMG_PAGE : Nat := 0x0043
/-- Table IMG-14 02_juniper_image.md. -/
def IMG_ID (i : Nat) : Nat := 0x0044 + i
/-- Table IMG-14 02_juniper_image.md. -/
def IMG_VER (i : Nat) : Nat := 0x0046 + i
/-- Table IMG-14 02_juniper_image.md. -/
def IMG_LEN (i : Nat) : Nat := 0x0048 + i
/-- Table IMG-14 02_juniper_image.md. -/
def IMG_CRC (i : Nat) : Nat := 0x004A + i
/-- R78 02_juniper_image.md. -/
def IMG_LIMSAT : Nat := 0x004C
/-- R78 02_juniper_image.md. -/
def IMG_LIMLAST : Nat := 0x004D
/-- R80 02_juniper_image.md. -/
def IMG_KEYSTAT : Nat := 0x004E
/-- R80 02_juniper_image.md. -/
def IMG_KEYCHK : Nat := 0x004F
/-- R80 02_juniper_image.md. -/
def IMG_KEYDATA : Nat := 0x0050
/-- R80 02_juniper_image.md. -/
def IMG_KEYCMD : Nat := 0x0051
/-- R75 02_juniper_image.md. -/
def IMG_BANKTAG (i : Nat) : Nat := 0x0058 + i
/-- R157 05_pwm_timers.md. -/
def PWM_LOADALL_LO : Nat := 0x0080
/-- R157 05_pwm_timers.md. -/
def PWM_LOADALL_HI : Nat := 0x0081
/-- R159 05_pwm_timers.md. -/
def PWM_LDPEND_LO : Nat := 0x0082
/-- R159 05_pwm_timers.md. -/
def PWM_LDPEND_HI : Nat := 0x0083
/-- R162 05_pwm_timers.md. -/
def PWM_RUN_LO : Nat := 0x0084
/-- R162 05_pwm_timers.md. -/
def PWM_RUN_HI : Nat := 0x0085
/-- Table TIME-8 03_time_and_order.md. -/
def CLK_STATUS : Nat := 0x0100
/-- R110 03_time_and_order.md. -/
def CLK_FAULT : Nat := 0x0101
/-- R110 03_time_and_order.md. -/
def CLK_REFCNT : Nat := 0x0102
/-- R110 03_time_and_order.md. -/
def CLK_CORECNT : Nat := 0x0103
/-- R112 03_time_and_order.md. -/
def CLK_CTL : Nat := 0x0104
/-- Table TIME-9 03_time_and_order.md. -/
def TIME_STATUS : Nat := 0x0108
/-- Table TIME-9 03_time_and_order.md. -/
def TIME_CTL : Nat := 0x0109
/-- R99 03_time_and_order.md. -/
def TIME_APPLY : Nat := 0x010A
/-- R98 03_time_and_order.md. -/
def TIME_FERR : Nat := 0x010B
/-- R98 03_time_and_order.md. -/
def TIME_PPSERR : Nat := 0x010C
/-- R98 03_time_and_order.md. -/
def TIME_PPSREJ : Nat := 0x010D
/-- R100 03_time_and_order.md. -/
def TIME_SNAP (i : Nat) : Nat := 0x0110 + i
/-- R101 03_time_and_order.md. -/
def TIME_TB (i : Nat) : Nat := 0x0118 + i
/-- R99 03_time_and_order.md. -/
def TIME_SET_SEC (i : Nat) : Nat := 0x0120 + i
/-- R123 04_host_link.md. -/
def HOST_STATUS : Nat := 0x0200
/-- R120 04_host_link.md. -/
def HOST_ERR : Nat := 0x0201
/-- R120 04_host_link.md. -/
def HOST_CRCCNT : Nat := 0x0202
/-- R119 04_host_link.md. -/
def HOST_FRAMES : Nat := 0x0203
/-- R123 04_host_link.md. -/
def HOST_SUMMARY : Nat := 0x0204
/-- R136 04_host_link.md. -/
def OP_PARAM (i : Nat) : Nat := 0x0210 + i
/-- R136 04_host_link.md. -/
def OP_CMD : Nat := 0x0218
/-- Table HOST-13 04_host_link.md. -/
def OP_TICKET : Nat := 0x0219
/-- R141 04_host_link.md. -/
def OP_RELEASE : Nat := 0x021A
/-- R142 04_host_link.md. -/
def OP_ABORT : Nat := 0x021B
/-- R144 04_host_link.md. -/
def OP_QFULLCNT : Nat := 0x021C
/-- Table HOST-12 04_host_link.md. -/
def OP_SLOTS : Nat := 0x021D
/-- Table HOST-14 04_host_link.md. -/
def OP_STAT (i : Nat) : Nat := 0x0220 + 0x4 * i
/-- Table HOST-14 04_host_link.md. -/
def OP_INFO (i : Nat) : Nat := 0x0221 + 0x4 * i
/-- Table HOST-14 04_host_link.md. -/
def OP_OUTC (i : Nat) : Nat := 0x0222 + 0x4 * i
/-- R139 04_host_link.md. -/
def OP_AGE (i : Nat) : Nat := 0x0223 + 0x4 * i
/-- R140 04_host_link.md. -/
def OP_RES (i j : Nat) : Nat := 0x0280 + 0x4 * i + j
/-- R341 11_events_recorder.md. -/
def EVT_STAT (i : Nat) : Nat := 0x0400 + i
/-- R343 11_events_recorder.md. -/
def EVT_MASK (i : Nat) : Nat := 0x0408 + i
/-- R344 11_events_recorder.md. -/
def EVT_REC_0 : Nat := 0x0410
/-- R344 11_events_recorder.md. -/
def EVT_REC_1 : Nat := 0x0411
/-- R344 11_events_recorder.md. -/
def EVT_REC_2 : Nat := 0x0412
/-- R344 11_events_recorder.md. -/
def EVT_REC_3 : Nat := 0x0413
/-- R344 11_events_recorder.md. -/
def EVT_REC_47 (i : Nat) : Nat := 0x0414 + i
/-- R343 11_events_recorder.md. -/
def EVT_GROUPS : Nat := 0x0418
/-- R352 11_events_recorder.md. -/
def REC_CTL : Nat := 0x0600
/-- Table EVT-10 11_events_recorder.md. -/
def REC_STAT : Nat := 0x0601
/-- R349 11_events_recorder.md. -/
def REC_HEAD (i : Nat) : Nat := 0x0602 + i
/-- R344 11_events_recorder.md. -/
def REC_CFG : Nat := 0x0604
/-- R346 11_events_recorder.md. -/
def REC_DROP_CNT : Nat := 0x0605
/-- R352 11_events_recorder.md. -/
def REC_HOLDOVF_CNT : Nat := 0x0606
/-- R363 11_events_recorder.md. -/
def REC_CLR : Nat := 0x0607
/-- R357 11_events_recorder.md. -/
def REC_MARK (i : Nat) : Nat := 0x0608 + i
/-- Table EVT-10 11_events_recorder.md. -/
def REC_RTSEL : Nat := 0x060A
/-- R347 11_events_recorder.md. -/
def REC_RT (i : Nat) : Nat := 0x060B + i
/-- Table PWR-7 12_supplies_holdup.md. -/
def PWR_STAT : Nat := 0x0800
/-- Table PWR-7 12_supplies_holdup.md. -/
def PWR_START : Nat := 0x0801
/-- Table PWR-7 12_supplies_holdup.md. -/
def PWR_CFG : Nat := 0x0802
/-- R366 12_supplies_holdup.md. -/
def PWR_VFAIL : Nat := 0x0803
/-- R366 12_supplies_holdup.md. -/
def PWR_VOK : Nat := 0x0804
/-- R379 12_supplies_holdup.md. -/
def PWR_HCAP : Nat := 0x0805
/-- R379 12_supplies_holdup.md. -/
def PWR_VBAKMIN : Nat := 0x0806
/-- R380 12_supplies_holdup.md. -/
def PWR_VBAKLOW : Nat := 0x0807
/-- R381 12_supplies_holdup.md. -/
def PWR_VCHG : Nat := 0x0808
/-- R381 12_supplies_holdup.md. -/
def PWR_ICHG : Nat := 0x0809
/-- R380 12_supplies_holdup.md. -/
def PWR_EMARGIN : Nat := 0x080A
/-- R372 12_supplies_holdup.md. -/
def PWR_BHOLD : Nat := 0x080B
/-- R367 12_supplies_holdup.md. -/
def PWR_DOM_REQ : Nat := 0x0810
/-- R367 12_supplies_holdup.md. -/
def PWR_DOM_STAT : Nat := 0x0811
/-- R368 12_supplies_holdup.md. -/
def PWR_DOM_AVAIL : Nat := 0x0812
/-- Table PWR-7 12_supplies_holdup.md. -/
def PWR_VMAIN : Nat := 0x0818
/-- Table PWR-7 12_supplies_holdup.md. -/
def PWR_VBAK : Nat := 0x0819
/-- Table PWR-7 12_supplies_holdup.md. -/
def PWR_VIO : Nat := 0x081A
/-- R379 12_supplies_holdup.md. -/
def PWR_ESTORED : Nat := 0x081B
/-- R380 12_supplies_holdup.md. -/
def PWR_EREQ : Nat := 0x081C
/-- R382 12_supplies_holdup.md. -/
def PWR_LOSSCNT : Nat := 0x0820
/-- R376 12_supplies_holdup.md. -/
def PWR_BOUNCECNT : Nat := 0x0821
/-- R382 12_supplies_holdup.md. -/
def PWR_LASTOUT : Nat := 0x0822
/-- R382 12_supplies_holdup.md. -/
def PWR_LASTBNC : Nat := 0x0823
/-- R374 12_supplies_holdup.md. -/
def PWR_FLUSHT : Nat := 0x0824
/-- R372 12_supplies_holdup.md. -/
def PWR_BHOLD_ST : Nat := 0x0825
/-- Table STORE-9 13_journal_store.md. -/
def STORE_STAT : Nat := 0x0A00
/-- Table STORE-9 13_journal_store.md. -/
def STORE_FREE : Nat := 0x0A01
/-- Table STORE-9 13_journal_store.md. -/
def STORE_LIVE : Nat := 0x0A02
/-- Table STORE-9 13_journal_store.md. -/
def STORE_KEYS : Nat := 0x0A03
/-- R402 13_journal_store.md. -/
def STORE_COMPCFG : Nat := 0x0A04
/-- Table STORE-9 13_journal_store.md. -/
def STORE_SEQ (i : Nat) : Nat := 0x0A05 + i
/-- R393 13_journal_store.md. -/
def STORE_WR (i : Nat) : Nat := 0x0A08 + i
/-- R394 13_journal_store.md. -/
def STORE_WRES : Nat := 0x0A0A
/-- R396 13_journal_store.md. -/
def STORE_RD : Nat := 0x0A0B
/-- R396 13_journal_store.md. -/
def STORE_RRES : Nat := 0x0A0C
/-- R396 13_journal_store.md. -/
def STORE_RSEQ (i : Nat) : Nat := 0x0A0D + i
/-- R397 13_journal_store.md. -/
def STORE_JLOST : Nat := 0x0A10
/-- R411 13_journal_store.md. -/
def STORE_ERRCNT : Nat := 0x0A11
/-- R411 13_journal_store.md. -/
def STORE_ECCCNT : Nat := 0x0A12
/-- R412 13_journal_store.md. -/
def STORE_ERRLAST : Nat := 0x0A13
/-- R399 13_journal_store.md. -/
def STORE_DEFCNT : Nat := 0x0A14
/-- R394 13_journal_store.md. -/
def STORE_BUSYCNT : Nat := 0x0A15
/-- R397 13_journal_store.md. -/
def STORE_JEVN : Nat := 0x0A16
/-- R399 13_journal_store.md. -/
def STORE_EJQ : Nat := 0x0A17
/-- Table STORE-9 13_journal_store.md. -/
def STORE_WEARMAX : Nat := 0x0A18
/-- Table STORE-9 13_journal_store.md. -/
def STORE_WEARMIN : Nat := 0x0A19
/-- Table STORE-9 13_journal_store.md. -/
def STORE_VIEW : Nat := 0x0A1A
/-- R393 13_journal_store.md. -/
def STORE_WBUF (i : Nat) : Nat := 0xA000 + i
/-- R396 13_journal_store.md. -/
def STORE_RBUF (i : Nat) : Nat := 0xA080 + i
/-- R388 13_journal_store.md. -/
def STORE_SECTOR (i : Nat) : Nat := 0xA800 + i
/-- R428 14_pair.md. -/
def PAIR_CTL : Nat := 0x0C00
/-- Table PAIR-9 14_pair.md. -/
def PAIR_STAT : Nat := 0x0C01
/-- R435 14_pair.md. -/
def PAIR_CMD : Nat := 0x0C02
/-- R435 14_pair.md. -/
def PAIR_CMDRES : Nat := 0x0C03
/-- R429 14_pair.md. -/
def PAIR_RDY : Nat := 0x0C04
/-- R427 14_pair.md. -/
def PAIR_CFGMIS : Nat := 0x0C05
/-- R428 14_pair.md. -/
def PAIR_RETRY : Nat := 0x0C06
/-- R428 14_pair.md. -/
def PAIR_MISSCNT : Nat := 0x0C07
/-- R430 14_pair.md. -/
def PAIR_CRCCNT : Nat := 0x0C08
/-- R426 14_pair.md. -/
def PAIR_MIRLAG : Nat := 0x0C09
/-- R433 14_pair.md. -/
def PAIR_TAKECNT : Nat := 0x0C0A
/-- R433 14_pair.md. -/
def PAIR_LASTGAP : Nat := 0x0C0B
/-- Table PAIR-9 14_pair.md. -/
def PAIR_LASTCAUSE : Nat := 0x0C0C
/-- R419 14_pair.md. -/
def PAIR_WAIT : Nat := 0x0C0D
/-- Table PAIR-9 14_pair.md. -/
def PAIR_FSEQ (i : Nat) : Nat := 0x0C10 + i
/-- R430 14_pair.md. -/
def PAIR_TBOFS (i : Nat) : Nat := 0x0C12 + i
/-- R431 14_pair.md. -/
def PAIR_PRECHEAD : Nat := 0x0C15
/-- R431 14_pair.md. -/
def PAIR_PSTSEQ (i : Nat) : Nat := 0x0C16 + i
/-- Table SAFE-7 15_safety.md. -/
def SAFE_STAT : Nat := 0x0E00
/-- R447 15_safety.md. -/
def SAFE_CAUSE : Nat := 0x0E01
/-- R447 15_safety.md. -/
def SAFE_CLR : Nat := 0x0E02
/-- R456 15_safety.md. -/
def SAFE_FLTEN : Nat := 0x0E03
/-- R447 15_safety.md. -/
def SAFE_DETAIL : Nat := 0x0E04
/-- R455 15_safety.md. -/
def SAFE_WDCFG : Nat := 0x0E08
/-- R455 15_safety.md. -/
def SAFE_WDKICK : Nat := 0x0E09
/-- R455 15_safety.md. -/
def SAFE_WDSTAT : Nat := 0x0E0A
/-- R452 15_safety.md. -/
def SAFE_PLTHR : Nat := 0x0E10
/-- R452 15_safety.md. -/
def SAFE_PLFLT_LO : Nat := 0x0E12
/-- R452 15_safety.md. -/
def SAFE_PLFLT_HI : Nat := 0x0E13
/-- R450 15_safety.md. -/
def SAFE_SCRUBCNT : Nat := 0x0E18
/-- R451 15_safety.md. -/
def SAFE_RAMSEC : Nat := 0x0E19
/-- Table MOTION-10 09_ground_motion_sections.md. -/
def FUS_CTL : Nat := 0x1000
/-- R293 09_ground_motion_sections.md. -/
def FUS_EPOCH : Nat := 0x1001
/-- R294 09_ground_motion_sections.md. -/
def FUS_HORIZON : Nat := 0x1002
/-- R314 09_ground_motion_sections.md. -/
def FUS_STAT : Nat := 0x1003
/-- R293 09_ground_motion_sections.md. -/
def FUS_PUBCNT : Nat := 0x1004
/-- R295 09_ground_motion_sections.md. -/
def FUS_W (i : Nat) : Nat := 0x1008 + i
/-- R284 09_ground_motion_sections.md. -/
def FUS_WHL_DPC (i : Nat) : Nat := 0x1010 + 0x2 * i
/-- R284 09_ground_motion_sections.md. -/
def FUS_WHL_CFG (i : Nat) : Nat := 0x1011 + 0x2 * i
/-- R287 09_ground_motion_sections.md. -/
def FUS_GNSS_CFG : Nat := 0x1018
/-- R291 09_ground_motion_sections.md. -/
def FUS_SENT_OFS (i : Nat) : Nat := 0x101A + 0x2 * i
/-- R291 09_ground_motion_sections.md. -/
def FUS_SENT_SCL (i : Nat) : Nat := 0x101B + 0x2 * i
/-- R292 09_ground_motion_sections.md. -/
def FUS_HINJ_0 : Nat := 0x1020
/-- R292 09_ground_motion_sections.md. -/
def FUS_HINJ (i : Nat) : Nat := 0x1021 + i
/-- Table MOTION-10 09_ground_motion_sections.md. -/
def FUS_EST (i : Nat) : Nat := 0x1040 + i
/-- R299 09_ground_motion_sections.md. -/
def FUS_LIVE_S (i : Nat) : Nat := 0x1050 + i
/-- R291 09_ground_motion_sections.md. -/
def FUS_ANGLE (i : Nat) : Nat := 0x1052 + i
/-- R291 09_ground_motion_sections.md. -/
def FUS_SENT_STAT : Nat := 0x1054
/-- Table MOTION-10 09_ground_motion_sections.md. -/
def FUS_IN_AGE (i : Nat) : Nat := 0x1058 + i
/-- Table MOTION-10 09_ground_motion_sections.md. -/
def FUS_IN_V (i : Nat) : Nat := 0x1062 + i
/-- R286 09_ground_motion_sections.md. -/
def FUS_WHL_NOISE (i : Nat) : Nat := 0x1068 + i
/-- R286 09_ground_motion_sections.md. -/
def FUS_WHL_INS (i : Nat) : Nat := 0x106C + i
/-- R287 09_ground_motion_sections.md. -/
def FUS_GNSS_ERR : Nat := 0x1070
/-- R288 09_ground_motion_sections.md. -/
def FUS_GNSS_FIX : Nat := 0x1071
/-- R290 09_ground_motion_sections.md. -/
def FUS_IMU_LOST : Nat := 0x1072
/-- R291 09_ground_motion_sections.md. -/
def FUS_SENT_ERR (i : Nat) : Nat := 0x1073 + i
/-- R290 09_ground_motion_sections.md. -/
def FUS_IMU (i : Nat) : Nat := 0x1079 + i
/-- R284 09_ground_motion_sections.md. -/
def FUS_WHL_CNT (i j : Nat) : Nat := 0x1080 + 0x2 * i + j
/-- R304 09_ground_motion_sections.md. -/
def SCH_CTL : Nat := 0x1400
/-- Table MOTION-11 09_ground_motion_sections.md. -/
def SCH_STAT : Nat := 0x1401
/-- R302 09_ground_motion_sections.md. -/
def SCH_IN_RES : Nat := 0x1402
/-- R309 09_ground_motion_sections.md. -/
def SCH_CANCEL : Nat := 0x1403
/-- R307 09_ground_motion_sections.md. -/
def SCH_SECT_0 : Nat := 0x1404
/-- R307 09_ground_motion_sections.md. -/
def SCH_SECT_1 : Nat := 0x1405
/-- R307 09_ground_motion_sections.md. -/
def SCH_SECT_2 : Nat := 0x1406
/-- R307 09_ground_motion_sections.md. -/
def SCH_SECT_3 : Nat := 0x1407
/-- R302 09_ground_motion_sections.md. -/
def SCH_IN_0 : Nat := 0x1408
/-- R302 09_ground_motion_sections.md. -/
def SCH_IN_12 (i : Nat) : Nat := 0x1409 + i
/-- R302 09_ground_motion_sections.md. -/
def SCH_IN_3 : Nat := 0x140B
/-- R302 09_ground_motion_sections.md. -/
def SCH_IN_45 (i : Nat) : Nat := 0x140C + i
/-- R301 09_ground_motion_sections.md. -/
def SCH_STATE_LO : Nat := 0x1410
/-- R301 09_ground_motion_sections.md. -/
def SCH_STATE_HI : Nat := 0x1411
/-- R302 09_ground_motion_sections.md. -/
def SCH_FULLCNT : Nat := 0x1412
/-- R306 09_ground_motion_sections.md. -/
def SCH_LATECNT : Nat := 0x1413
/-- R308 09_ground_motion_sections.md. -/
def SCH_UNCOMCNT : Nat := 0x1414
/-- R305 09_ground_motion_sections.md. -/
def SCH_LAST (i : Nat) : Nat := 0x1418 + i
/-- Table MOTION-11 09_ground_motion_sections.md. -/
def SCH_VIEW_IDX : Nat := 0x1420
/-- Table MOTION-11 09_ground_motion_sections.md. -/
def SCH_VIEW (i : Nat) : Nat := 0x1421 + i
/-- R300 09_ground_motion_sections.md. -/
def SCH_TGT (i : Nat) : Nat := 0x1440 + 0x4 * i
/-- R300 09_ground_motion_sections.md. -/
def SCH_LEAD (i : Nat) : Nat := 0x1441 + 0x4 * i
/-- R300 09_ground_motion_sections.md. -/
def SCH_ON (i : Nat) : Nat := 0x1442 + 0x4 * i
/-- R321 10_drop_association.md. -/
def SOL_CTL : Nat := 0x1800
/-- R323 10_drop_association.md. -/
def SOL_GMAX : Nat := 0x1801
/-- R320 10_drop_association.md. -/
def SOL_SEEDCFG : Nat := 0x1802
/-- R330 10_drop_association.md. -/
def SOL_ADAPT : Nat := 0x1803
/-- R329 10_drop_association.md. -/
def SOL_WIN : Nat := 0x1804
/-- R331 10_drop_association.md. -/
def SOL_BLOCK : Nat := 0x1805
/-- Table DROP-5 10_drop_association.md. -/
def SOL_STAT : Nat := 0x1806
/-- R332 10_drop_association.md. -/
def SOL_LATECNT : Nat := 0x1807
/-- R336 10_drop_association.md. -/
def SOL_FAULTCNT : Nat := 0x1808
/-- Table DROP-5 10_drop_association.md. -/
def SOL_TRACE : Nat := 0x1809
/-- Table DROP-5 10_drop_association.md. -/
def SOL_TMAX : Nat := 0x180A
/-- R317 10_drop_association.md. -/
def SOL_MAP (i : Nat) : Nat := 0x1810 + i
/-- R330 10_drop_association.md. -/
def SOL_FALL (i : Nat) : Nat := 0x1900 + 0x40 * i
/-- R330 10_drop_association.md. -/
def SOL_FEST (i : Nat) : Nat := 0x1901 + 0x40 * i
/-- R318 10_drop_association.md. -/
def SOL_PHASE (i : Nat) : Nat := 0x1902 + 0x40 * i
/-- Table DROP-6 10_drop_association.md. -/
def SOL_RSTAT (i : Nat) : Nat := 0x1903 + 0x40 * i
/-- R327 10_drop_association.md. -/
def SOL_LAST_N (i : Nat) : Nat := 0x1904 + 0x40 * i
/-- R327 10_drop_association.md. -/
def SOL_LAST_M (i : Nat) : Nat := 0x1905 + 0x40 * i
/-- R327 10_drop_association.md. -/
def SOL_LAST_ERR (i : Nat) : Nat := 0x1906 + 0x40 * i
/-- R327 10_drop_association.md. -/
def SOL_LAST_RMS (i : Nat) : Nat := 0x1907 + 0x40 * i
/-- R327 10_drop_association.md. -/
def SOL_CNT (i j : Nat) : Nat := 0x1908 + 0x40 * i + j
/-- R339 10_drop_association.md. -/
def SOL_CLR (i : Nat) : Nat := 0x1910 + 0x40 * i
/-- R329 10_drop_association.md. -/
def SOL_RATES (i j : Nat) : Nat := 0x1911 + 0x40 * i + j
/-- R329 10_drop_association.md. -/
def SOL_WINCNT (i : Nat) : Nat := 0x1916 + 0x40 * i
/-- R333 10_drop_association.md. -/
def SOL_SEEDOVF (i : Nat) : Nat := 0x1917 + 0x40 * i
/-- R333 10_drop_association.md. -/
def SOL_EXPOVF (i : Nat) : Nat := 0x1918 + 0x40 * i
/-- R322 10_drop_association.md. -/
def SOL_BATCHOVF (i : Nat) : Nat := 0x1919 + 0x40 * i
/-- R331 10_drop_association.md. -/
def SOL_RUNSKIP (i : Nat) : Nat := 0x191A + 0x40 * i
/-- R327 10_drop_association.md. -/
def SOL_EPOCHCNT (i : Nat) : Nat := 0x191B + 0x40 * i
/-- R329 10_drop_association.md. -/
def SOL_HIST (i j : Nat) : Nat := 0x1920 + 0x40 * i + j
/-- Table DROP-7 10_drop_association.md. -/
def SOL_TRACE_E (i : Nat) : Nat := 0x1F00 + i
/-- Table DROP-7 10_drop_association.md. -/
def SOL_TRACE_O (i : Nat) : Nat := 0x1F20 + i
/-- Table DROP-7 10_drop_association.md. -/
def SOL_TRACE_N : Nat := 0x1F40
/-- Table HOST-15 04_host_link.md. -/
def CAN_CTL (i : Nat) : Nat := 0x4000 + 0x2000 * i
/-- R128 04_host_link.md. -/
def CAN_NBT (i : Nat) : Nat := 0x4001 + 0x2000 * i
/-- R128 04_host_link.md. -/
def CAN_NBT2 (i : Nat) : Nat := 0x4002 + 0x2000 * i
/-- R128 04_host_link.md. -/
def CAN_DBT (i : Nat) : Nat := 0x4003 + 0x2000 * i
/-- R128 04_host_link.md. -/
def CAN_DBT2 (i : Nat) : Nat := 0x4004 + 0x2000 * i
/-- Table HOST-15 04_host_link.md. -/
def CAN_TDC (i : Nat) : Nat := 0x4005 + 0x2000 * i
/-- R133 04_host_link.md. -/
def CAN_STAT (i : Nat) : Nat := 0x4008 + 0x2000 * i
/-- Table HOST-15 04_host_link.md. -/
def CAN_ERRCNT (i : Nat) : Nat := 0x4009 + 0x2000 * i
/-- Table HOST-15 04_host_link.md. -/
def CAN_LEC (i : Nat) : Nat := 0x400A + 0x2000 * i
/-- R130 04_host_link.md. -/
def CAN_RXLOST (i : Nat) : Nat := 0x400B + 0x2000 * i
/-- R131 04_host_link.md. -/
def CAN_TXREQ (i j : Nat) : Nat := 0x400C + 0x2000 * i + j
/-- R131 04_host_link.md. -/
def CAN_TXABORT (i j : Nat) : Nat := 0x400E + 0x2000 * i + j
/-- Table HOST-16 04_host_link.md. -/
def BUF_CFG (i j : Nat) : Nat := 0x4100 + 0x2000 * i + 0x40 * j
/-- Table HOST-16 04_host_link.md. -/
def BUF_ID_LO (i j : Nat) : Nat := 0x4101 + 0x2000 * i + 0x40 * j
/-- Table HOST-16 04_host_link.md. -/
def BUF_ID_HI (i j : Nat) : Nat := 0x4102 + 0x2000 * i + 0x40 * j
/-- Table HOST-16 04_host_link.md. -/
def BUF_MASK_LO (i j : Nat) : Nat := 0x4103 + 0x2000 * i + 0x40 * j
/-- Table HOST-16 04_host_link.md. -/
def BUF_MASK_HI (i j : Nat) : Nat := 0x4104 + 0x2000 * i + 0x40 * j
/-- Table HOST-16 04_host_link.md. -/
def BUF_STAT (i j : Nat) : Nat := 0x4105 + 0x2000 * i + 0x40 * j
/-- R132 04_host_link.md. -/
def BUF_STAMP0 (i j : Nat) : Nat := 0x4106 + 0x2000 * i + 0x40 * j
/-- R132 04_host_link.md. -/
def BUF_STAMP1 (i j : Nat) : Nat := 0x4107 + 0x2000 * i + 0x40 * j
/-- R132 04_host_link.md. -/
def BUF_STAMP2 (i j : Nat) : Nat := 0x4108 + 0x2000 * i + 0x40 * j
/-- Table HOST-16 04_host_link.md. -/
def BUF_DATA (i j k : Nat) : Nat := 0x4109 + 0x2000 * i + 0x40 * j + k
/-- R81 02_juniper_image.md. -/
def IMG_WINDOW (i : Nat) : Nat := 0x8000 + i
/-- R347 11_events_recorder.md. -/
def REC_WINDOW (i : Nat) : Nat := 0xC000 + i
/-- R457 15_safety.md. -/
def BANK_ARM (b : Nat) : Nat := 0x2000 + 0x400 * b
/-- R457 15_safety.md. -/
def BANK_ARMSTAT (b : Nat) : Nat := 0x2001 + 0x400 * b
/-- R212 06_gate_drivers.md. -/
def GSUP_STAT (b : Nat) : Nat := 0x2010 + 0x400 * b
/-- R202 06_gate_drivers.md. -/
def GSUP_FLT (b : Nat) : Nat := 0x2011 + 0x400 * b
/-- R193 06_gate_drivers.md. -/
def GSEN_HS (b : Nat) : Nat := 0x2012 + 0x400 * b
/-- R193 06_gate_drivers.md. -/
def GSEN_LS (b : Nat) : Nat := 0x2013 + 0x400 * b
/-- R194 06_gate_drivers.md. -/
def GSEN_FGN (b : Nat) : Nat := 0x2014 + 0x400 * b
/-- Table PWM-9 05_pwm_timers.md. -/
def PWM_CTL (b i : Nat) : Nat := 0x2040 + 0x400 * b + 0x40 * i
/-- R154 05_pwm_timers.md. -/
def PWM_PER (b i : Nat) : Nat := 0x2041 + 0x400 * b + 0x40 * i
/-- R155 05_pwm_timers.md. -/
def PWM_CMP (b i j : Nat) : Nat := 0x2042 + 0x400 * b + 0x40 * i + j
/-- R167 05_pwm_timers.md. -/
def PWM_HR (b i j : Nat) : Nat := 0x2045 + 0x400 * b + 0x40 * i + j
/-- R155 05_pwm_timers.md. -/
def PWM_CHEN (b i : Nat) : Nat := 0x2048 + 0x400 * b + 0x40 * i
/-- R173 05_pwm_timers.md. -/
def PWM_TRG (b i j : Nat) : Nat := 0x2049 + 0x400 * b + 0x40 * i + j
/-- R164 05_pwm_timers.md. -/
def PWM_MINP (b i : Nat) : Nat := 0x204D + 0x400 * b + 0x40 * i
/-- R171 05_pwm_timers.md. -/
def PWM_FORCE (b i : Nat) : Nat := 0x204E + 0x400 * b + 0x40 * i
/-- R163 05_pwm_timers.md. -/
def PWM_REF (b i : Nat) : Nat := 0x204F + 0x400 * b + 0x40 * i
/-- R153 05_pwm_timers.md. -/
def PWM_CNT (b i : Nat) : Nat := 0x2050 + 0x400 * b + 0x40 * i
/-- Table PWM-9 05_pwm_timers.md. -/
def PWM_STAT (b i : Nat) : Nat := 0x2051 + 0x400 * b + 0x40 * i
/-- R160 05_pwm_timers.md. -/
def PWM_ARMREP (b i : Nat) : Nat := 0x2052 + 0x400 * b + 0x40 * i
/-- R164 05_pwm_timers.md. -/
def PWM_FILTCNT (b i : Nat) : Nat := 0x2053 + 0x400 * b + 0x40 * i
/-- R168 05_pwm_timers.md. -/
def PWM_DPHASE (b i : Nat) : Nat := 0x2054 + 0x400 * b + 0x40 * i
/-- Table PWM-8 05_pwm_timers.md. -/
def PWM_ACT (b i j : Nat) : Nat := 0x2060 + 0x400 * b + 0x40 * i + j
/-- R186 06_gate_drivers.md. -/
def GATE_IDRV_HS (b i : Nat) : Nat := 0x2100 + 0x400 * b + 0x10 * i
/-- R186 06_gate_drivers.md. -/
def GATE_IDRV_LS (b i : Nat) : Nat := 0x2101 + 0x400 * b + 0x10 * i
/-- R189 06_gate_drivers.md. -/
def GATE_DT (b i : Nat) : Nat := 0x2102 + 0x400 * b + 0x10 * i
/-- R205 06_gate_drivers.md. -/
def GATE_AMP (b i : Nat) : Nat := 0x2103 + 0x400 * b + 0x10 * i
/-- Table GATE-8 06_gate_drivers.md. -/
def GATE_STAT (b i : Nat) : Nat := 0x2104 + 0x400 * b + 0x10 * i
/-- R191 06_gate_drivers.md. -/
def GATE_FLT (b i : Nat) : Nat := 0x2105 + 0x400 * b + 0x10 * i
/-- R203 06_gate_drivers.md. -/
def GATE_BSTUVCNT (b i : Nat) : Nat := 0x2106 + 0x400 * b + 0x10 * i
/-- R186 06_gate_drivers.md. -/
def GATE_RANGE (b i : Nat) : Nat := 0x2107 + 0x400 * b + 0x10 * i
/-- R188 06_gate_drivers.md. -/
def GATE_SOFT (b i : Nat) : Nat := 0x2108 + 0x400 * b + 0x10 * i
/-- R227 07_power_stage_protection.md. -/
def PROT_BLANK (b : Nat) : Nat := 0x21A0 + 0x400 * b
/-- R226 07_power_stage_protection.md. -/
def PROT_TRIPCFG (b : Nat) : Nat := 0x21A1 + 0x400 * b
/-- R229 07_power_stage_protection.md. -/
def PROT_VOV1_ON (b : Nat) : Nat := 0x21A2 + 0x400 * b
/-- R229 07_power_stage_protection.md. -/
def PROT_VOV1_OFF (b : Nat) : Nat := 0x21A3 + 0x400 * b
/-- R229 07_power_stage_protection.md. -/
def PROT_VOV2 (b : Nat) : Nat := 0x21A4 + 0x400 * b
/-- R231 07_power_stage_protection.md. -/
def PROT_CHOPMAX (b : Nat) : Nat := 0x21A5 + 0x400 * b
/-- R445 15_safety.md; Table PROT-7 07_power_stage_protection.md. -/
def PROT_OTW (b : Nat) : Nat := 0x21A6 + 0x400 * b
/-- Table PROT-7 07_power_stage_protection.md. -/
def PROT_TEMP (b : Nat) : Nat := 0x21A7 + 0x400 * b
/-- Table PROT-7 07_power_stage_protection.md. -/
def PROT_VM (b : Nat) : Nat := 0x21A8 + 0x400 * b
/-- Table PROT-7 07_power_stage_protection.md. -/
def PROT_BSTAT (b : Nat) : Nat := 0x21A9 + 0x400 * b
/-- Table PROT-7 07_power_stage_protection.md. -/
def PROT_BFLT (b : Nat) : Nat := 0x21AA + 0x400 * b
/-- R228 07_power_stage_protection.md. -/
def PROT_ILIMCNT (b : Nat) : Nat := 0x21AB + 0x400 * b
/-- R215 07_power_stage_protection.md. -/
def PROT_DS (b i : Nat) : Nat := 0x21B0 + 0x400 * b + 0x2 * i
/-- R215 07_power_stage_protection.md. -/
def PROT_DG (b i : Nat) : Nat := 0x21B1 + 0x400 * b + 0x2 * i
/-- R218 07_power_stage_protection.md. -/
def PROT_CHFLT (b i : Nat) : Nat := 0x21C8 + 0x400 * b + i
/-- R228 07_power_stage_protection.md. -/
def PROT_ILIM (b i : Nat) : Nat := 0x21D8 + 0x400 * b + i
/-- Table PROT-7 07_power_stage_protection.md. -/
def PROT_AXSTAT (b i : Nat) : Nat := 0x21E4 + 0x400 * b + i
/-- R228 07_power_stage_protection.md. -/
def PROT_AXCFG (b i : Nat) : Nat := 0x21E8 + 0x400 * b + i
/-- R258 08_axes.md. -/
def AX_CMD (b i : Nat) : Nat := 0x2200 + 0x400 * b + 0x60 * i
/-- Table AXIS-8 08_axes.md. -/
def AX_MODE (b i : Nat) : Nat := 0x2201 + 0x400 * b + 0x60 * i
/-- Table AXIS-8 08_axes.md. -/
def AX_STAT (b i : Nat) : Nat := 0x2202 + 0x400 * b + 0x60 * i
/-- Table AXIS-7 08_axes.md. -/
def AX_SPD_SET (b i : Nat) : Nat := 0x2203 + 0x400 * b + 0x60 * i
/-- Table AXIS-7 08_axes.md. -/
def AX_CUR_SET (b i j : Nat) : Nat := 0x2204 + 0x400 * b + 0x60 * i + j
/-- Table AXIS-7 08_axes.md. -/
def AX_ACC (b i : Nat) : Nat := 0x2207 + 0x400 * b + 0x60 * i
/-- Table AXIS-7 08_axes.md. -/
def AX_DEC (b i : Nat) : Nat := 0x2208 + 0x400 * b + 0x60 * i
/-- R263 08_axes.md. -/
def AX_REVD (b i : Nat) : Nat := 0x2209 + 0x400 * b + 0x60 * i
/-- R263 08_axes.md. -/
def AX_SPD_MAX (b i : Nat) : Nat := 0x220A + 0x400 * b + 0x60 * i
/-- R256 08_axes.md. -/
def AX_IMAX (b i : Nat) : Nat := 0x220B + 0x400 * b + 0x60 * i
/-- R256 08_axes.md. -/
def AX_KP_I (b i : Nat) : Nat := 0x220C + 0x400 * b + 0x60 * i
/-- R256 08_axes.md. -/
def AX_KI_I (b i : Nat) : Nat := 0x220D + 0x400 * b + 0x60 * i
/-- R256 08_axes.md. -/
def AX_KP_S (b i : Nat) : Nat := 0x220E + 0x400 * b + 0x60 * i
/-- R256 08_axes.md. -/
def AX_KI_S (b i : Nat) : Nat := 0x220F + 0x400 * b + 0x60 * i
/-- R242 08_axes.md. -/
def AX_LOOP (b i : Nat) : Nat := 0x2210 + 0x400 * b + 0x60 * i
/-- Table AXIS-7 08_axes.md. -/
def AX_POLES (b i : Nat) : Nat := 0x2211 + 0x400 * b + 0x60 * i
/-- R251 08_axes.md. -/
def AX_HALLCFG (b i : Nat) : Nat := 0x2212 + 0x400 * b + 0x60 * i
/-- R252 08_axes.md. -/
def AX_ENCCFG (b i : Nat) : Nat := 0x2213 + 0x400 * b + 0x60 * i
/-- R252 08_axes.md. -/
def AX_ENC_CPR (b i : Nat) : Nat := 0x2214 + 0x400 * b + 0x60 * i
/-- R252 08_axes.md. -/
def AX_ENC_OFS (b i : Nat) : Nat := 0x2215 + 0x400 * b + 0x60 * i
/-- R253 08_axes.md. -/
def AX_ADV (b i : Nat) : Nat := 0x2216 + 0x400 * b + 0x60 * i
/-- R254 08_axes.md. -/
def AX_DMAX (b i : Nat) : Nat := 0x2217 + 0x400 * b + 0x60 * i
/-- R271 08_axes.md. -/
def AX_MOT (b i j : Nat) : Nat := 0x2218 + 0x400 * b + 0x60 * i + j
/-- R248 08_axes.md. -/
def AX_ISCALE (b i : Nat) : Nat := 0x221C + 0x400 * b + 0x60 * i
/-- R259 08_axes.md. -/
def AX_SALCFG (b i : Nat) : Nat := 0x221D + 0x400 * b + 0x60 * i
/-- R259 08_axes.md. -/
def AX_IALIGN (b i : Nat) : Nat := 0x221E + 0x400 * b + 0x60 * i
/-- R259 08_axes.md. -/
def AX_TALIGN (b i : Nat) : Nat := 0x221F + 0x400 * b + 0x60 * i
/-- R259 08_axes.md. -/
def AX_IRAMP (b i : Nat) : Nat := 0x2220 + 0x400 * b + 0x60 * i
/-- R259 08_axes.md. -/
def AX_RAMP_ACC (b i : Nat) : Nat := 0x2221 + 0x400 * b + 0x60 * i
/-- R259 08_axes.md. -/
def AX_RAMP_END (b i : Nat) : Nat := 0x2222 + 0x400 * b + 0x60 * i
/-- R260 08_axes.md. -/
def AX_NHAND (b i : Nat) : Nat := 0x2223 + 0x400 * b + 0x60 * i
/-- R260 08_axes.md. -/
def AX_CONF_THR (b i : Nat) : Nat := 0x2224 + 0x400 * b + 0x60 * i
/-- R261 08_axes.md. -/
def AX_NRETRY (b i : Nat) : Nat := 0x2225 + 0x400 * b + 0x60 * i
/-- R265 08_axes.md. -/
def AX_STALLCFG (b i : Nat) : Nat := 0x2226 + 0x400 * b + 0x60 * i
/-- R265 08_axes.md. -/
def AX_TSTALL (b i : Nat) : Nat := 0x2227 + 0x400 * b + 0x60 * i
/-- R265 08_axes.md. -/
def AX_NMIN (b i : Nat) : Nat := 0x2228 + 0x400 * b + 0x60 * i
/-- R265 08_axes.md. -/
def AX_STALL_ERR (b i : Nat) : Nat := 0x2229 + 0x400 * b + 0x60 * i
/-- R265 08_axes.md. -/
def AX_TSTALLDET (b i : Nat) : Nat := 0x222A + 0x400 * b + 0x60 * i
/-- R264 08_axes.md. -/
def AX_IHOLD (b i : Nat) : Nat := 0x222B + 0x400 * b + 0x60 * i
/-- R267 08_axes.md. -/
def AX_GS_RATE (b i : Nat) : Nat := 0x2230 + 0x400 * b + 0x60 * i
/-- R267 08_axes.md. -/
def AX_GS_CELLS (b i : Nat) : Nat := 0x2231 + 0x400 * b + 0x60 * i
/-- R267 08_axes.md. -/
def AX_GS_GEAR (b i : Nat) : Nat := 0x2232 + 0x400 * b + 0x60 * i
/-- R267 08_axes.md. -/
def AX_GS_LAT (b i : Nat) : Nat := 0x2233 + 0x400 * b + 0x60 * i
/-- R268 08_axes.md. -/
def AX_GS_CTL (b i : Nat) : Nat := 0x2234 + 0x400 * b + 0x60 * i
/-- R255 08_axes.md. -/
def AX_SPD (b i : Nat) : Nat := 0x2240 + 0x400 * b + 0x60 * i
/-- R263 08_axes.md. -/
def AX_REF (b i : Nat) : Nat := 0x2241 + 0x400 * b + 0x60 * i
/-- R263 08_axes.md. -/
def AX_TARGET (b i : Nat) : Nat := 0x2242 + 0x400 * b + 0x60 * i
/-- R254 08_axes.md. -/
def AX_ID (b i : Nat) : Nat := 0x2243 + 0x400 * b + 0x60 * i
/-- R254 08_axes.md. -/
def AX_IQ (b i : Nat) : Nat := 0x2244 + 0x400 * b + 0x60 * i
/-- R254 08_axes.md. -/
def AX_VD (b i : Nat) : Nat := 0x2245 + 0x400 * b + 0x60 * i
/-- R254 08_axes.md. -/
def AX_VQ (b i : Nat) : Nat := 0x2246 + 0x400 * b + 0x60 * i
/-- R252 08_axes.md. -/
def AX_ANGLE (b i : Nat) : Nat := 0x2247 + 0x400 * b + 0x60 * i
/-- R260 08_axes.md. -/
def AX_CONF (b i : Nat) : Nat := 0x2248 + 0x400 * b + 0x60 * i
/-- R251 08_axes.md. -/
def AX_HALL (b i : Nat) : Nat := 0x2249 + 0x400 * b + 0x60 * i
/-- R252 08_axes.md. -/
def AX_ENCPOS (b i : Nat) : Nat := 0x224A + 0x400 * b + 0x60 * i
/-- Table AXIS-7 08_axes.md. -/
def AX_STARTS (b i : Nat) : Nat := 0x224B + 0x400 * b + 0x60 * i
/-- R265 08_axes.md. -/
def AX_STALLCNT (b i : Nat) : Nat := 0x224C + 0x400 * b + 0x60 * i
/-- R243 08_axes.md. -/
def AX_SKIPCNT (b i : Nat) : Nat := 0x224D + 0x400 * b + 0x60 * i
/-- R244 08_axes.md. -/
def AX_LATECNT (b i : Nat) : Nat := 0x224E + 0x400 * b + 0x60 * i
/-- R250 08_axes.md. -/
def AX_STALECNT (b i : Nat) : Nat := 0x224F + 0x400 * b + 0x60 * i
/-- R270 08_axes.md. -/
def AX_IC (b i j : Nat) : Nat := 0x2250 + 0x400 * b + 0x60 * i + j
/-- R276 08_axes.md. -/
def AX_HALLERR (b i : Nat) : Nat := 0x2253 + 0x400 * b + 0x60 * i
/-- Table AXIS-9 08_axes.md. -/
def CONV_STAT (b : Nat) : Nat := 0x2320 + 0x400 * b
/-- R247 08_axes.md. -/
def CONV_OVRCNT (b i : Nat) : Nat := 0x2321 + 0x400 * b + i
/-- R247 08_axes.md. -/
def CONV_SEQCNT (b i : Nat) : Nat := 0x2324 + 0x400 * b + i
/-- R272 08_axes.md. -/
def CONV_OFS (b i : Nat) : Nat := 0x2328 + 0x400 * b + i
/-- Table AXIS-9 08_axes.md. -/
def CONV_REF (b : Nat) : Nat := 0x2332 + 0x400 * b
/-- Table AXIS-9 08_axes.md. -/
def CONV_SN (b i : Nat) : Nat := 0x2338 + 0x400 * b + i
/-- R248 08_axes.md. -/
def CONV_RES (b i j : Nat) : Nat := 0x2350 + 0x400 * b + 0x10 * i + j
/-- R169 05_pwm_timers.md. -/
def DLC_CTL (b : Nat) : Nat := 0x2380 + 0x400 * b
/-- R169 05_pwm_timers.md. -/
def DLC_STAT (b : Nat) : Nat := 0x2381 + 0x400 * b
/-- Table PWM-10 05_pwm_timers.md. -/
def DLC_TAPDLY (b : Nat) : Nat := 0x2382 + 0x400 * b
/-- R178 05_pwm_timers.md. -/
def DLC_FAILCNT (b : Nat) : Nat := 0x2383 + 0x400 * b
/-- R178 05_pwm_timers.md. -/
def DLC_AGE (b : Nat) : Nat := 0x2384 + 0x400 * b
/-- Table PWM-10 05_pwm_timers.md. -/
def DLC_BIAS (b : Nat) : Nat := 0x2385 + 0x400 * b
/-- R170 05_pwm_timers.md. -/
def DLC_OFS (b i : Nat) : Nat := 0x2388 + 0x400 * b + i
/-- Table PWM-10 05_pwm_timers.md. -/
def DLC_TBL (b i : Nat) : Nat := 0x23C0 + 0x400 * b + i

end Sys2Proof.Machine.A
end

