-- ==== Sys2Proof/Machine/RegTable.lean ====
section
/-! DEFINITION. Sys2Proof/Machine/RegTable.lean: every register word of the spec, one row per register name, with its
address, its reset value and its fields (access, range, sign). The rows follow the register tables of the chapters; the
rule or table each row is read from is in the comment that ends it. -/
namespace Sys2Proof.Machine

/-- The access codes of Table SCOPE-4 (R14, 00_scope.md). -/
inductive Access
  | RW | RO | WO | W1C | W1S | IL | SC
  deriving DecidableEq, Repr

/-- One field of a register word: its bits, its access and the range its table states (R21; the full range where the
table states none). `signed` says the range and the image's LIMITS compare as two's complement. -/
structure Fld where
  hi : Nat
  lo : Nat
  acc : Access
  min : Nat
  max : Nat
  signed : Bool
  deriving DecidableEq, Repr

/-- A field over its full range. -/
def fld (hi lo : Nat) (acc : Access) : Fld := ⟨hi, lo, acc, 0, 2 ^ (hi - lo + 1) - 1, false⟩

/-- A field with a stated range. -/
def fldR (hi lo : Nat) (acc : Access) (mn mx : Nat) : Fld := ⟨hi, lo, acc, mn, mx, false⟩

/-- A signed field over its full range. -/
def fldS (hi lo : Nat) (acc : Access) : Fld := ⟨hi, lo, acc, 0, 2 ^ (hi - lo + 1) - 1, true⟩

/-- The blocks of the address map (Table MAP-5, 01_device_map.md); `unassigned` answers for R38. -/
inductive Blk
  | sys | time | host | evt | recorder | pwr | store | storew | pair | safe | fus | sch | sol | can | win | recw | bank | unassigned
  deriving DecidableEq, Repr

/-- The register names of the spec. A name with indices stands for all its instances. -/
inductive Reg
  | ID_PART | ID_REV | SYS_BOOT | SYS_RSTCNT | SYS_SWRST | SYS_PINALT | SYS_SLOTMAP | SYS_DDP
  | SYS_HBMAP01 | SYS_HBMAP2 | IMG_STATUS | IMG_REJECT | IMG_LDCTL | IMG_PAGE | IMG_ID | IMG_VER
  | IMG_LEN | IMG_CRC | IMG_LIMSAT | IMG_LIMLAST | IMG_KEYSTAT | IMG_KEYCHK | IMG_KEYDATA | IMG_KEYCMD
  | IMG_BANKTAG | PWM_LOADALL_LO | PWM_LOADALL_HI | PWM_LDPEND_LO | PWM_LDPEND_HI | PWM_RUN_LO | PWM_RUN_HI | CLK_STATUS
  | CLK_FAULT | CLK_REFCNT | CLK_CORECNT | CLK_CTL | TIME_STATUS | TIME_CTL | TIME_APPLY | TIME_FERR
  | TIME_PPSERR | TIME_PPSREJ | TIME_SNAP | TIME_TB | TIME_SET_SEC | HOST_STATUS | HOST_ERR | HOST_CRCCNT
  | HOST_FRAMES | HOST_SUMMARY | OP_PARAM | OP_CMD | OP_TICKET | OP_RELEASE | OP_ABORT | OP_QFULLCNT
  | OP_SLOTS | OP_STAT | OP_INFO | OP_OUTC | OP_AGE | OP_RES | EVT_STAT | EVT_MASK
  | EVT_REC_0 | EVT_REC_1 | EVT_REC_2 | EVT_REC_3 | EVT_REC_47 | EVT_GROUPS | REC_CTL | REC_STAT
  | REC_HEAD | REC_CFG | REC_DROP_CNT | REC_HOLDOVF_CNT | REC_CLR | REC_MARK | REC_RTSEL | REC_RT
  | PWR_STAT | PWR_START | PWR_CFG | PWR_VFAIL | PWR_VOK | PWR_HCAP | PWR_VBAKMIN | PWR_VBAKLOW
  | PWR_VCHG | PWR_ICHG | PWR_EMARGIN | PWR_BHOLD | PWR_DOM_REQ | PWR_DOM_STAT | PWR_DOM_AVAIL | PWR_VMAIN
  | PWR_VBAK | PWR_VIO | PWR_ESTORED | PWR_EREQ | PWR_LOSSCNT | PWR_BOUNCECNT | PWR_LASTOUT | PWR_LASTBNC
  | PWR_FLUSHT | PWR_BHOLD_ST | STORE_STAT | STORE_FREE | STORE_LIVE | STORE_KEYS | STORE_COMPCFG | STORE_SEQ
  | STORE_WR | STORE_WRES | STORE_RD | STORE_RRES | STORE_RSEQ | STORE_JLOST | STORE_ERRCNT | STORE_ECCCNT
  | STORE_ERRLAST | STORE_DEFCNT | STORE_BUSYCNT | STORE_JEVN | STORE_EJQ | STORE_WEARMAX | STORE_WEARMIN | STORE_VIEW
  | STORE_WBUF | STORE_RBUF | STORE_SECTOR | PAIR_CTL | PAIR_STAT | PAIR_CMD | PAIR_CMDRES | PAIR_RDY
  | PAIR_CFGMIS | PAIR_RETRY | PAIR_MISSCNT | PAIR_CRCCNT | PAIR_MIRLAG | PAIR_TAKECNT | PAIR_LASTGAP | PAIR_LASTCAUSE
  | PAIR_WAIT | PAIR_FSEQ | PAIR_TBOFS | PAIR_PRECHEAD | PAIR_PSTSEQ | SAFE_STAT | SAFE_CAUSE | SAFE_CLR
  | SAFE_FLTEN | SAFE_DETAIL | SAFE_WDCFG | SAFE_WDKICK | SAFE_WDSTAT | SAFE_PLTHR | SAFE_PLFLT_LO | SAFE_PLFLT_HI
  | SAFE_SCRUBCNT | SAFE_RAMSEC | FUS_CTL | FUS_EPOCH | FUS_HORIZON | FUS_STAT | FUS_PUBCNT | FUS_W
  | FUS_WHL_DPC | FUS_WHL_CFG | FUS_GNSS_CFG | FUS_SENT_OFS | FUS_SENT_SCL | FUS_HINJ_0 | FUS_HINJ | FUS_EST
  | FUS_LIVE_S | FUS_ANGLE | FUS_SENT_STAT | FUS_IN_AGE | FUS_IN_V | FUS_WHL_NOISE | FUS_WHL_INS | FUS_GNSS_ERR
  | FUS_GNSS_FIX | FUS_IMU_LOST | FUS_SENT_ERR | FUS_IMU | FUS_WHL_CNT | SCH_CTL | SCH_STAT | SCH_IN_RES
  | SCH_CANCEL | SCH_SECT_0 | SCH_SECT_1 | SCH_SECT_2 | SCH_SECT_3 | SCH_IN_0 | SCH_IN_12 | SCH_IN_3
  | SCH_IN_45 | SCH_STATE_LO | SCH_STATE_HI | SCH_FULLCNT | SCH_LATECNT | SCH_UNCOMCNT | SCH_LAST | SCH_VIEW_IDX
  | SCH_VIEW | SCH_TGT | SCH_LEAD | SCH_ON | SOL_CTL | SOL_GMAX | SOL_SEEDCFG | SOL_ADAPT
  | SOL_WIN | SOL_BLOCK | SOL_STAT | SOL_LATECNT | SOL_FAULTCNT | SOL_TRACE | SOL_TMAX | SOL_MAP
  | SOL_FALL | SOL_FEST | SOL_PHASE | SOL_RSTAT | SOL_LAST_N | SOL_LAST_M | SOL_LAST_ERR | SOL_LAST_RMS
  | SOL_CNT | SOL_CLR | SOL_RATES | SOL_WINCNT | SOL_SEEDOVF | SOL_EXPOVF | SOL_BATCHOVF | SOL_RUNSKIP
  | SOL_EPOCHCNT | SOL_HIST | SOL_TRACE_E | SOL_TRACE_O | SOL_TRACE_N | CAN_CTL | CAN_NBT | CAN_NBT2
  | CAN_DBT | CAN_DBT2 | CAN_TDC | CAN_STAT | CAN_ERRCNT | CAN_LEC | CAN_RXLOST | CAN_TXREQ
  | CAN_TXABORT | BUF_CFG | BUF_ID_LO | BUF_ID_HI | BUF_MASK_LO | BUF_MASK_HI | BUF_STAT | BUF_STAMP0
  | BUF_STAMP1 | BUF_STAMP2 | BUF_DATA | IMG_WINDOW | REC_WINDOW | BANK_ARM | BANK_ARMSTAT | GSUP_STAT
  | GSUP_FLT | GSEN_HS | GSEN_LS | GSEN_FGN | PWM_CTL | PWM_PER | PWM_CMP | PWM_HR
  | PWM_CHEN | PWM_TRG | PWM_MINP | PWM_FORCE | PWM_REF | PWM_CNT | PWM_STAT | PWM_ARMREP
  | PWM_FILTCNT | PWM_DPHASE | PWM_ACT | GATE_IDRV_HS | GATE_IDRV_LS | GATE_DT | GATE_AMP | GATE_STAT
  | GATE_FLT | GATE_BSTUVCNT | GATE_RANGE | GATE_SOFT | PROT_BLANK | PROT_TRIPCFG | PROT_VOV1_ON | PROT_VOV1_OFF
  | PROT_VOV2 | PROT_CHOPMAX | PROT_OTW | PROT_TEMP | PROT_VM | PROT_BSTAT | PROT_BFLT | PROT_ILIMCNT
  | PROT_DS | PROT_DG | PROT_CHFLT | PROT_ILIM | PROT_AXSTAT | PROT_AXCFG | AX_CMD | AX_MODE
  | AX_STAT | AX_SPD_SET | AX_CUR_SET | AX_ACC | AX_DEC | AX_REVD | AX_SPD_MAX | AX_IMAX
  | AX_KP_I | AX_KI_I | AX_KP_S | AX_KI_S | AX_LOOP | AX_POLES | AX_HALLCFG | AX_ENCCFG
  | AX_ENC_CPR | AX_ENC_OFS | AX_ADV | AX_DMAX | AX_MOT | AX_ISCALE | AX_SALCFG | AX_IALIGN
  | AX_TALIGN | AX_IRAMP | AX_RAMP_ACC | AX_RAMP_END | AX_NHAND | AX_CONF_THR | AX_NRETRY | AX_STALLCFG
  | AX_TSTALL | AX_NMIN | AX_STALL_ERR | AX_TSTALLDET | AX_IHOLD | AX_GS_RATE | AX_GS_CELLS | AX_GS_GEAR
  | AX_GS_LAT | AX_GS_CTL | AX_SPD | AX_REF | AX_TARGET | AX_ID | AX_IQ | AX_VD
  | AX_VQ | AX_ANGLE | AX_CONF | AX_HALL | AX_ENCPOS | AX_STARTS | AX_STALLCNT | AX_SKIPCNT
  | AX_LATECNT | AX_STALECNT | AX_IC | AX_HALLERR | CONV_STAT | CONV_OVRCNT | CONV_SEQCNT | CONV_OFS
  | CONV_REF | CONV_SN | CONV_RES | DLC_CTL | DLC_STAT | DLC_TAPDLY | DLC_FAILCNT | DLC_AGE
  | DLC_BIAS | DLC_OFS | DLC_TBL
  deriving DecidableEq, Repr

/-- One row of a register table: `dims` are the (count, stride) of its indices, the largest stride first, so that instance
`[i, j]` lies at `base + i * stride₀ + j * stride₁`. -/
structure RegRow where
  reg : Reg
  base : Nat
  dims : List (Nat × Nat)
  reset : BitVec 16
  fields : List Fld
  deriving DecidableEq, Repr

/-- Registers of the system and identity block, part 1. -/
def rows_sys0 : List RegRow := [
  ⟨.ID_PART, 0x0000, [], 0x2472, [fld 15 0 .RO]⟩, -- R3 00_scope.md: part
  ⟨.ID_REV, 0x0001, [], 0x0001, [fld 15 0 .RO]⟩, -- R3 00_scope.md: rev
  ⟨.SYS_BOOT, 0x0002, [], 0x0000, [fld 15 15 .RO, fld 14 14 .RO, fld 2 2 .RO, fld 1 0 .RO]⟩, -- R489 16_lands_reset.md: swrst tap pair_id bootsel
  ⟨.SYS_RSTCNT, 0x0003, [], 0x0000, [fld 15 0 .W1C]⟩, -- R489 16_lands_reset.md: count
  ⟨.SYS_SWRST, 0x0004, [], 0x0000, [fld 15 0 .WO]⟩, -- R489 16_lands_reset.md: key
  ⟨.SYS_PINALT, 0x0005, [], 0x0000, [fld 9 0 .RO]⟩, -- R489 16_lands_reset.md: alt
  ⟨.SYS_SLOTMAP, 0x0010, [(8, 1)], 0x0000, [fld 14 10 .RO, fld 9 5 .RO, fld 4 0 .RO]⟩, -- R48 01_device_map.md: slot2 slot1 slot0
  ⟨.SYS_DDP, 0x0018, [], 0x0000, [fld 15 15 .RO, fld 2 0 .RO]⟩, -- R48 01_device_map.md: en bank
  ⟨.SYS_HBMAP01, 0x0020, [(8, 3), (2, 1)], 0x3333, [fld 15 0 .RO]⟩, -- R48 01_device_map.md: map
  ⟨.SYS_HBMAP2, 0x0022, [(8, 3)], 0x0003, [fld 3 0 .RO]⟩, -- R48 01_device_map.md: map
  ⟨.IMG_STATUS, 0x0040, [], 0x0000, [fld 15 13 .RO, fld 12 11 .RO, fld 10 10 .RO, fld 9 9 .RO, fld 8 8 .RO, fld 7 0 .RO]⟩, -- Table IMG-12 02_juniper_image.md: state src fallback seeding wlock bank_img
  ⟨.IMG_REJECT, 0x0041, [], 0x0000, [fld 9 8 .RO, fld 7 0 .RO]⟩, -- Table IMG-13 02_juniper_image.md: source code
  ⟨.IMG_LDCTL, 0x0042, [], 0x0000, [fldR 15 14 .RW 0 2, fldR 13 12 .RW 0 2]⟩, -- Table IMG-13 02_juniper_image.md: src dest
  ⟨.IMG_PAGE, 0x0043, [], 0x0000, [fld 2 0 .RW]⟩, -- R81 02_juniper_image.md: page
  ⟨.IMG_ID, 0x0044, [(2, 1)], 0x0000, [fld 15 0 .RO]⟩, -- Table IMG-14 02_juniper_image.md: w
  ⟨.IMG_VER, 0x0046, [(2, 1)], 0x0000, [fld 15 0 .RO]⟩, -- Table IMG-14 02_juniper_image.md: w
  ⟨.IMG_LEN, 0x0048, [(2, 1)], 0x0000, [fld 15 0 .RO]⟩, -- Table IMG-14 02_juniper_image.md: w
  ⟨.IMG_CRC, 0x004A, [(2, 1)], 0x0000, [fld 15 0 .RO]⟩, -- Table IMG-14 02_juniper_image.md: w
  ⟨.IMG_LIMSAT, 0x004C, [], 0x0000, [fld 15 0 .W1C]⟩, -- R78 02_juniper_image.md: count
  ⟨.IMG_LIMLAST, 0x004D, [], 0x0000, [fld 15 0 .RO]⟩  -- R78 02_juniper_image.md: addr
  ]

/-- Registers of the system and identity block, part 2. -/
def rows_sys1 : List RegRow := [
  ⟨.IMG_KEYSTAT, 0x004E, [], 0x0000, [fld 2 2 .W1C, fld 1 0 .RO]⟩, -- R80 02_juniper_image.md: key_err state
  ⟨.IMG_KEYCHK, 0x004F, [], 0x0000, [fld 15 0 .RO]⟩, -- R80 02_juniper_image.md: kcv
  ⟨.IMG_KEYDATA, 0x0050, [], 0x0000, [fld 15 0 .WO]⟩, -- R80 02_juniper_image.md: word
  ⟨.IMG_KEYCMD, 0x0051, [], 0x0000, [fld 15 0 .WO]⟩, -- R80 02_juniper_image.md: cmd
  ⟨.IMG_BANKTAG, 0x0058, [(8, 1)], 0x0000, [fld 15 0 .RO]⟩, -- R75 02_juniper_image.md: tag
  ⟨.PWM_LOADALL_LO, 0x0080, [], 0x0000, [fld 15 0 .WO]⟩, -- R157 05_pwm_timers.md: arm
  ⟨.PWM_LOADALL_HI, 0x0081, [], 0x0000, [fld 7 0 .WO]⟩, -- R157 05_pwm_timers.md: arm
  ⟨.PWM_LDPEND_LO, 0x0082, [], 0x0000, [fld 15 0 .RO]⟩, -- R159 05_pwm_timers.md: pend
  ⟨.PWM_LDPEND_HI, 0x0083, [], 0x0000, [fld 7 0 .RO]⟩, -- R159 05_pwm_timers.md: pend
  ⟨.PWM_RUN_LO, 0x0084, [], 0x0000, [fld 15 0 .RW]⟩, -- R162 05_pwm_timers.md: run
  ⟨.PWM_RUN_HI, 0x0085, [], 0x0000, [fld 7 0 .RW]⟩  -- R162 05_pwm_timers.md: run
  ]

/-- All registers of the system and identity block. -/
def rows_sys : List RegRow := rows_sys0 ++ rows_sys1

/-- Registers of the clocks and time block. -/
def rows_time : List RegRow := [
  ⟨.CLK_STATUS, 0x0100, [], 0x0007, [fld 4 4 .RO, fld 3 3 .RO, fld 2 2 .RO, fld 1 1 .RO, fld 0 0 .RO]⟩, -- Table TIME-8 03_time_and_order.md: lowdrive tick_src ref_ok core_ok pll_lock
  ⟨.CLK_FAULT, 0x0101, [], 0x0000, [fld 3 3 .W1C, fld 2 2 .W1C, fld 1 1 .W1C, fld 0 0 .W1C]⟩, -- R110 03_time_and_order.md: rc_fail pll_unlock core_drift ref_drift
  ⟨.CLK_REFCNT, 0x0102, [], 0x0000, [fld 15 0 .RO]⟩, -- R110 03_time_and_order.md: count
  ⟨.CLK_CORECNT, 0x0103, [], 0x0000, [fld 15 0 .RO]⟩, -- R110 03_time_and_order.md: count
  ⟨.CLK_CTL, 0x0104, [], 0x0000, [fld 0 0 .SC]⟩, -- R112 03_time_and_order.md: tick_restore
  ⟨.TIME_STATUS, 0x0108, [], 0x0000, [fld 5 4 .RO, fld 3 3 .RO, fld 2 2 .RO, fld 0 0 .RO]⟩, -- Table TIME-9 03_time_and_order.md: pps_state tb_degraded apply_pend utc_valid
  ⟨.TIME_CTL, 0x0109, [], 0x0032, [fld 8 8 .SC, fldR 7 0 .RW 1 255]⟩, -- Table TIME-9 03_time_and_order.md: relock pps_win
  ⟨.TIME_APPLY, 0x010A, [], 0x0000, [fld 0 0 .SC]⟩, -- R99 03_time_and_order.md: apply
  ⟨.TIME_FERR, 0x010B, [], 0x0000, [fld 15 0 .RO]⟩, -- R98 03_time_and_order.md: ferr
  ⟨.TIME_PPSERR, 0x010C, [], 0x0000, [fld 15 0 .RO]⟩, -- R98 03_time_and_order.md: err
  ⟨.TIME_PPSREJ, 0x010D, [], 0x0000, [fld 15 0 .W1C]⟩, -- R98 03_time_and_order.md: count
  ⟨.TIME_SNAP, 0x0110, [(7, 1)], 0x0000, [fld 15 0 .RO]⟩, -- R100 03_time_and_order.md: w
  ⟨.TIME_TB, 0x0118, [(3, 1)], 0x0000, [fld 15 0 .RO]⟩, -- R101 03_time_and_order.md: w
  ⟨.TIME_SET_SEC, 0x0120, [(2, 1)], 0x0000, [fld 15 0 .RW]⟩  -- R99 03_time_and_order.md: w
  ]

/-- Registers of the host and long operations block. -/
def rows_host : List RegRow := [
  ⟨.HOST_STATUS, 0x0200, [], 0x0000, [fld 15 0 .RO]⟩, -- R123 04_host_link.md: w
  ⟨.HOST_ERR, 0x0201, [], 0x0000, [fld 1 1 .W1C, fld 0 0 .W1C]⟩, -- R120 04_host_link.md: trunc crcerr
  ⟨.HOST_CRCCNT, 0x0202, [], 0x0000, [fld 15 0 .W1C]⟩, -- R120 04_host_link.md: count
  ⟨.HOST_FRAMES, 0x0203, [], 0x0000, [fld 15 0 .RO]⟩, -- R119 04_host_link.md: count
  ⟨.HOST_SUMMARY, 0x0204, [], 0x0000, [fld 15 0 .RO]⟩, -- R123 04_host_link.md: w
  ⟨.OP_PARAM, 0x0210, [(8, 1)], 0x0000, [fld 15 0 .RW]⟩, -- R136 04_host_link.md: w
  ⟨.OP_CMD, 0x0218, [], 0x0000, [fld 15 8 .WO]⟩, -- R136 04_host_link.md: op
  ⟨.OP_TICKET, 0x0219, [], 0x0000, [fld 15 14 .RO, fld 7 3 .RO, fld 2 0 .RO]⟩, -- Table HOST-13 04_host_link.md: result gen slot
  ⟨.OP_RELEASE, 0x021A, [], 0x0000, [fld 7 0 .WO]⟩, -- R141 04_host_link.md: ticket
  ⟨.OP_ABORT, 0x021B, [], 0x0000, [fld 7 0 .WO]⟩, -- R142 04_host_link.md: ticket
  ⟨.OP_QFULLCNT, 0x021C, [], 0x0000, [fld 15 0 .W1C]⟩, -- R144 04_host_link.md: count
  ⟨.OP_SLOTS, 0x021D, [], 0x0000, [fld 15 0 .RO]⟩, -- Table HOST-12 04_host_link.md: w
  ⟨.OP_STAT, 0x0220, [(8, 4)], 0x0000, [fld 15 13 .RO, fld 12 11 .RO, fld 7 0 .RO]⟩, -- Table HOST-14 04_host_link.md: state class progress
  ⟨.OP_INFO, 0x0221, [(8, 4)], 0x0000, [fld 15 8 .RO, fld 7 3 .RO]⟩, -- Table HOST-14 04_host_link.md: op gen
  ⟨.OP_OUTC, 0x0222, [(8, 4)], 0x0000, [fld 15 8 .RO, fld 7 0 .RO]⟩, -- Table HOST-14 04_host_link.md: fail npart
  ⟨.OP_AGE, 0x0223, [(8, 4)], 0x0000, [fld 15 0 .RO]⟩, -- R139 04_host_link.md: ms
  ⟨.OP_RES, 0x0280, [(64, 4), (3, 1)], 0x0000, [fld 15 0 .RO]⟩  -- R140 04_host_link.md: w
  ]

/-- Registers of the events and interrupts block. -/
def rows_evt : List RegRow := [
  ⟨.EVT_STAT, 0x0400, [(8, 1)], 0x0000, [fld 15 0 .W1C]⟩, -- R341 11_events_recorder.md: w
  ⟨.EVT_MASK, 0x0408, [(8, 1)], 0x0000, [fld 15 0 .RW]⟩, -- R343 11_events_recorder.md: w
  ⟨.EVT_REC_0, 0x0410, [], 0x0008, [fld 15 0 .RW]⟩, -- R344 11_events_recorder.md: w
  ⟨.EVT_REC_1, 0x0411, [], 0x0201, [fld 15 0 .RW]⟩, -- R344 11_events_recorder.md: w
  ⟨.EVT_REC_2, 0x0412, [], 0x0017, [fld 15 0 .RW]⟩, -- R344 11_events_recorder.md: w
  ⟨.EVT_REC_3, 0x0413, [], 0x8000, [fld 15 0 .RW]⟩, -- R344 11_events_recorder.md: w
  ⟨.EVT_REC_47, 0x0414, [(4, 1)], 0x2F2F, [fld 15 0 .RW]⟩, -- R344 11_events_recorder.md: w
  ⟨.EVT_GROUPS, 0x0418, [], 0x0000, [fld 15 0 .RO]⟩  -- R343 11_events_recorder.md: w
  ]

/-- Registers of the recorder block. -/
def rows_recorder : List RegRow := [
  ⟨.REC_CTL, 0x0600, [], 0x0000, [fld 0 0 .RW]⟩, -- R352 11_events_recorder.md: freeze
  ⟨.REC_STAT, 0x0601, [], 0x0000, [fld 15 15 .RO, fld 14 14 .RO, fld 6 0 .RO]⟩, -- Table EVT-10 11_events_recorder.md: frozen draining fifo
  ⟨.REC_HEAD, 0x0602, [(2, 1)], 0x0000, [fld 15 0 .RO]⟩, -- R349 11_events_recorder.md: w
  ⟨.REC_CFG, 0x0604, [], 0x0000, [fld 15 0 .RO]⟩, -- R344 11_events_recorder.md: p
  ⟨.REC_DROP_CNT, 0x0605, [], 0x0000, [fld 15 0 .W1C]⟩, -- R346 11_events_recorder.md: count
  ⟨.REC_HOLDOVF_CNT, 0x0606, [], 0x0000, [fld 15 0 .W1C]⟩, -- R352 11_events_recorder.md: count
  ⟨.REC_CLR, 0x0607, [], 0x0000, [fld 15 0 .WO]⟩, -- R363 11_events_recorder.md: key
  ⟨.REC_MARK, 0x0608, [(2, 1)], 0x0000, [fld 15 0 .WO]⟩, -- R357 11_events_recorder.md: w
  ⟨.REC_RTSEL, 0x060A, [], 0x0000, [fld 10 0 .RW]⟩, -- Table EVT-10 11_events_recorder.md: slot
  ⟨.REC_RT, 0x060B, [(2, 1)], 0x0000, [fld 15 0 .RO]⟩  -- R347 11_events_recorder.md: w
  ]

/-- Registers of the power and domains block, part 1. -/
def rows_pwr0 : List RegRow := [
  ⟨.PWR_STAT, 0x0800, [], 0x0080, [fld 15 7 .RO]⟩, -- Table PWR-7 12_supplies_holdup.md: w
  ⟨.PWR_START, 0x0801, [], 0x0000, [fld 1 0 .RO]⟩, -- Table PWR-7 12_supplies_holdup.md: start
  ⟨.PWR_CFG, 0x0802, [], 0x0000, [fld 15 15 .RW]⟩, -- Table PWR-7 12_supplies_holdup.md: bak_mode
  ⟨.PWR_VFAIL, 0x0803, [], 0x0005, [fldR 7 0 .RW 0 200]⟩, -- R366 12_supplies_holdup.md: code
  ⟨.PWR_VOK, 0x0804, [], 0x000A, [fldR 7 0 .RW 0 200]⟩, -- R366 12_supplies_holdup.md: code
  ⟨.PWR_HCAP, 0x0805, [], 0x0000, [fld 15 0 .RW]⟩, -- R379 12_supplies_holdup.md: mf
  ⟨.PWR_VBAKMIN, 0x0806, [], 0x010E, [fldR 15 0 .RW 270 550]⟩, -- R379 12_supplies_holdup.md: v
  ⟨.PWR_VBAKLOW, 0x0807, [], 0x014A, [fldR 15 0 .RW 270 550]⟩, -- R380 12_supplies_holdup.md: v
  ⟨.PWR_VCHG, 0x0808, [], 0x010E, [fldR 15 0 .RW 270 550]⟩, -- R381 12_supplies_holdup.md: v
  ⟨.PWR_ICHG, 0x0809, [], 0x0000, [fldR 4 0 .RW 0 25]⟩, -- R381 12_supplies_holdup.md: i
  ⟨.PWR_EMARGIN, 0x080A, [], 0x000A, [fld 15 0 .RW]⟩, -- R380 12_supplies_holdup.md: e
  ⟨.PWR_BHOLD, 0x080B, [], 0x0032, [fld 7 0 .RW]⟩, -- R372 12_supplies_holdup.md: ms
  ⟨.PWR_DOM_REQ, 0x0810, [], 0x0000, [fld 11 0 .RW]⟩, -- R367 12_supplies_holdup.md: req
  ⟨.PWR_DOM_STAT, 0x0811, [], 0x0000, [fld 15 15 .RO, fld 11 0 .RO]⟩, -- R367 12_supplies_holdup.md: busy on
  ⟨.PWR_DOM_AVAIL, 0x0812, [], 0x0DFF, [fld 11 0 .RO]⟩, -- R368 12_supplies_holdup.md: avail
  ⟨.PWR_VMAIN, 0x0818, [], 0x0000, [fld 15 0 .RO]⟩, -- Table PWR-7 12_supplies_holdup.md: v
  ⟨.PWR_VBAK, 0x0819, [], 0x0000, [fld 15 0 .RO]⟩, -- Table PWR-7 12_supplies_holdup.md: v
  ⟨.PWR_VIO, 0x081A, [], 0x0000, [fld 15 0 .RO]⟩, -- Table PWR-7 12_supplies_holdup.md: v
  ⟨.PWR_ESTORED, 0x081B, [], 0x0000, [fld 15 0 .RO]⟩, -- R379 12_supplies_holdup.md: e
  ⟨.PWR_EREQ, 0x081C, [], 0x000A, [fld 15 0 .RO]⟩  -- R380 12_supplies_holdup.md: e
  ]

/-- Registers of the power and domains block, part 2. -/
def rows_pwr1 : List RegRow := [
  ⟨.PWR_LOSSCNT, 0x0820, [], 0x0000, [fld 15 0 .W1C]⟩, -- R382 12_supplies_holdup.md: count
  ⟨.PWR_BOUNCECNT, 0x0821, [], 0x0000, [fld 15 0 .W1C]⟩, -- R376 12_supplies_holdup.md: count
  ⟨.PWR_LASTOUT, 0x0822, [], 0x0000, [fld 15 0 .RO]⟩, -- R382 12_supplies_holdup.md: ms
  ⟨.PWR_LASTBNC, 0x0823, [], 0x0000, [fld 15 0 .RO]⟩, -- R382 12_supplies_holdup.md: n
  ⟨.PWR_FLUSHT, 0x0824, [], 0x0000, [fld 15 0 .RO]⟩, -- R374 12_supplies_holdup.md: t
  ⟨.PWR_BHOLD_ST, 0x0825, [], 0x0000, [fld 7 0 .RO]⟩  -- R372 12_supplies_holdup.md: held
  ]

/-- All registers of the power and domains block. -/
def rows_pwr : List RegRow := rows_pwr0 ++ rows_pwr1

/-- Registers of the store block, part 1. -/
def rows_store0 : List RegRow := [
  ⟨.STORE_STAT, 0x0A00, [], 0x0000, [fld 15 0 .RO]⟩, -- Table STORE-9 13_journal_store.md: w
  ⟨.STORE_FREE, 0x0A01, [], 0x0000, [fld 15 0 .RO]⟩, -- Table STORE-9 13_journal_store.md: w
  ⟨.STORE_LIVE, 0x0A02, [], 0x0000, [fld 15 0 .RO]⟩, -- Table STORE-9 13_journal_store.md: w
  ⟨.STORE_KEYS, 0x0A03, [], 0x0000, [fld 15 0 .RO]⟩, -- Table STORE-9 13_journal_store.md: w
  ⟨.STORE_COMPCFG, 0x0A04, [], 0x1008, [fld 15 8 .RW, fld 7 0 .RW]⟩, -- R402 13_journal_store.md: high low
  ⟨.STORE_SEQ, 0x0A05, [(2, 1)], 0x0000, [fld 15 0 .RO]⟩, -- Table STORE-9 13_journal_store.md: w
  ⟨.STORE_WR, 0x0A08, [(2, 1)], 0x0000, [fld 15 0 .WO]⟩, -- R393 13_journal_store.md: w
  ⟨.STORE_WRES, 0x0A0A, [], 0x0000, [fld 15 13 .RO, fld 12 11 .RO, fld 9 0 .RO]⟩, -- R394 13_journal_store.md: state refusal key
  ⟨.STORE_RD, 0x0A0B, [], 0x0000, [fld 9 0 .WO]⟩, -- R396 13_journal_store.md: key
  ⟨.STORE_RRES, 0x0A0C, [], 0x0000, [fld 15 14 .RO, fld 13 13 .RO, fld 7 0 .RO]⟩, -- R396 13_journal_store.md: res pend len
  ⟨.STORE_RSEQ, 0x0A0D, [(2, 1)], 0x0000, [fld 15 0 .RO]⟩, -- R396 13_journal_store.md: w
  ⟨.STORE_JLOST, 0x0A10, [], 0x0000, [fld 15 0 .W1C]⟩, -- R397 13_journal_store.md: count
  ⟨.STORE_ERRCNT, 0x0A11, [], 0x0000, [fld 15 0 .W1C]⟩, -- R411 13_journal_store.md: count
  ⟨.STORE_ECCCNT, 0x0A12, [], 0x0000, [fld 15 0 .W1C]⟩, -- R411 13_journal_store.md: count
  ⟨.STORE_ERRLAST, 0x0A13, [], 0x0000, [fld 15 0 .RO]⟩, -- R412 13_journal_store.md: w
  ⟨.STORE_DEFCNT, 0x0A14, [], 0x0000, [fld 15 0 .W1C]⟩, -- R399 13_journal_store.md: count
  ⟨.STORE_BUSYCNT, 0x0A15, [], 0x0000, [fld 15 0 .W1C]⟩, -- R394 13_journal_store.md: count
  ⟨.STORE_JEVN, 0x0A16, [], 0x0000, [fld 6 0 .RO]⟩, -- R397 13_journal_store.md: i
  ⟨.STORE_EJQ, 0x0A17, [], 0x0000, [fld 15 0 .RO]⟩, -- R399 13_journal_store.md: e
  ⟨.STORE_WEARMAX, 0x0A18, [], 0x0000, [fld 15 0 .RO]⟩  -- Table STORE-9 13_journal_store.md: w
  ]

/-- Registers of the store block, part 2. -/
def rows_store1 : List RegRow := [
  ⟨.STORE_WEARMIN, 0x0A19, [], 0x0000, [fld 15 0 .RO]⟩, -- Table STORE-9 13_journal_store.md: w
  ⟨.STORE_VIEW, 0x0A1A, [], 0x0000, [fld 7 0 .RW]⟩  -- Table STORE-9 13_journal_store.md: sector
  ]

/-- All registers of the store block. -/
def rows_store : List RegRow := rows_store0 ++ rows_store1

/-- Registers of the store window block. -/
def rows_storew : List RegRow := [
  ⟨.STORE_WBUF, 0xA000, [(128, 1)], 0x0000, [fld 15 0 .RW]⟩, -- R393 13_journal_store.md: w
  ⟨.STORE_RBUF, 0xA080, [(128, 1)], 0x0000, [fld 15 0 .RO]⟩, -- R396 13_journal_store.md: w
  ⟨.STORE_SECTOR, 0xA800, [(2048, 1)], 0x0000, [fld 15 0 .RO]⟩  -- R388 13_journal_store.md: w
  ]

/-- Registers of the pair block. -/
def rows_pair : List RegRow := [
  ⟨.PAIR_CTL, 0x0C00, [], 0x0A00, [fldR 15 8 .RW 1 100, fld 0 0 .RW]⟩, -- R428 14_pair.md: tretry en
  ⟨.PAIR_STAT, 0x0C01, [], 0x0000, [fld 15 2 .RO]⟩, -- Table PAIR-9 14_pair.md: w
  ⟨.PAIR_CMD, 0x0C02, [], 0x0000, [fld 15 0 .WO]⟩, -- R435 14_pair.md: cmd
  ⟨.PAIR_CMDRES, 0x0C03, [], 0x0000, [fld 15 14 .RO, fld 1 0 .RO]⟩, -- R435 14_pair.md: res cmd
  ⟨.PAIR_RDY, 0x0C04, [], 0x0000, [fld 15 8 .RO, fld 7 0 .RO]⟩, -- R429 14_pair.md: own partner
  ⟨.PAIR_CFGMIS, 0x0C05, [], 0x0000, [fld 15 0 .RO]⟩, -- R427 14_pair.md: w
  ⟨.PAIR_RETRY, 0x0C06, [], 0x0000, [fld 15 0 .RO]⟩, -- R428 14_pair.md: ms
  ⟨.PAIR_MISSCNT, 0x0C07, [], 0x0000, [fld 15 0 .W1C]⟩, -- R428 14_pair.md: count
  ⟨.PAIR_CRCCNT, 0x0C08, [], 0x0000, [fld 15 0 .W1C]⟩, -- R430 14_pair.md: count
  ⟨.PAIR_MIRLAG, 0x0C09, [], 0x0000, [fld 15 0 .W1C]⟩, -- R426 14_pair.md: count
  ⟨.PAIR_TAKECNT, 0x0C0A, [], 0x0000, [fld 15 0 .W1C]⟩, -- R433 14_pair.md: count
  ⟨.PAIR_LASTGAP, 0x0C0B, [], 0x0000, [fld 15 0 .RO]⟩, -- R433 14_pair.md: t
  ⟨.PAIR_LASTCAUSE, 0x0C0C, [], 0x0000, [fld 15 8 .RO, fld 7 0 .RO]⟩, -- Table PAIR-9 14_pair.md: own recv
  ⟨.PAIR_WAIT, 0x0C0D, [], 0x0000, [fld 7 0 .RO]⟩, -- R419 14_pair.md: banks
  ⟨.PAIR_FSEQ, 0x0C10, [(2, 1)], 0x0000, [fld 15 0 .RO]⟩, -- Table PAIR-9 14_pair.md: w
  ⟨.PAIR_TBOFS, 0x0C12, [(3, 1)], 0x0000, [fld 15 0 .RO]⟩, -- R430 14_pair.md: w
  ⟨.PAIR_PRECHEAD, 0x0C15, [], 0x0000, [fld 15 0 .RO]⟩, -- R431 14_pair.md: w
  ⟨.PAIR_PSTSEQ, 0x0C16, [(2, 1)], 0x0000, [fld 15 0 .RO]⟩  -- R431 14_pair.md: w
  ]

/-- Registers of the safety block. -/
def rows_safe : List RegRow := [
  ⟨.SAFE_STAT, 0x0E00, [], 0x5000, [fld 15 10 .RO, fld 3 0 .RO]⟩, -- Table SAFE-7 15_safety.md: w die_ok
  ⟨.SAFE_CAUSE, 0x0E01, [], 0x0000, [fld 15 8 .RO, fld 7 0 .RO]⟩, -- R447 15_safety.md: detail code
  ⟨.SAFE_CLR, 0x0E02, [], 0x0000, [fld 15 0 .WO]⟩, -- R447 15_safety.md: key
  ⟨.SAFE_FLTEN, 0x0E03, [], 0x001F, [fld 4 0 .RW]⟩, -- R456 15_safety.md: en
  ⟨.SAFE_DETAIL, 0x0E04, [], 0x0000, [fld 15 0 .RO]⟩, -- R447 15_safety.md: w
  ⟨.SAFE_WDCFG, 0x0E08, [], 0x0064, [fld 15 15 .RW, fldR 14 8 .RW 0 99, fldR 6 0 .RW 1 100]⟩, -- R455 15_safety.md: en tmin tmax
  ⟨.SAFE_WDKICK, 0x0E09, [], 0x0000, [fld 15 0 .WO]⟩, -- R455 15_safety.md: key
  ⟨.SAFE_WDSTAT, 0x0E0A, [], 0x0000, [fld 15 8 .RO, fld 0 0 .RO]⟩, -- R455 15_safety.md: e next
  ⟨.SAFE_PLTHR, 0x0E10, [], 0x0800, [fldR 15 0 .IL 1 32767]⟩, -- R452 15_safety.md: thr
  ⟨.SAFE_PLFLT_LO, 0x0E12, [], 0x0000, [fld 15 0 .W1C]⟩, -- R452 15_safety.md: a
  ⟨.SAFE_PLFLT_HI, 0x0E13, [], 0x0000, [fld 7 0 .W1C]⟩, -- R452 15_safety.md: a
  ⟨.SAFE_SCRUBCNT, 0x0E18, [], 0x0000, [fld 15 0 .RO]⟩, -- R450 15_safety.md: count
  ⟨.SAFE_RAMSEC, 0x0E19, [], 0x0000, [fld 15 0 .W1C]⟩  -- R451 15_safety.md: count
  ]

/-- Registers of the fusion block, part 1. -/
def rows_fus0 : List RegRow := [
  ⟨.FUS_CTL, 0x1000, [], 0x0008, [fld 3 3 .RW, fld 2 2 .RW, fldR 1 0 .RW 0 2]⟩, -- Table MOTION-10 09_ground_motion_sections.md: hdg_gnss artic dir
  ⟨.FUS_EPOCH, 0x1001, [], 0x0502, [fldR 14 8 .RW 0 99, fldR 3 0 .RW 1 10]⟩, -- R293 09_ground_motion_sections.md: delay epoch
  ⟨.FUS_HORIZON, 0x1002, [], 0x00C8, [fldR 15 0 .RW 10 1000]⟩, -- R294 09_ground_motion_sections.md: h
  ⟨.FUS_STAT, 0x1003, [], 0x0000, [fld 0 0 .W1C]⟩, -- R314 09_ground_motion_sections.md: s_gap
  ⟨.FUS_PUBCNT, 0x1004, [], 0x0000, [fld 15 0 .RO]⟩, -- R293 09_ground_motion_sections.md: count
  ⟨.FUS_W, 0x1008, [(6, 1)], 0x0010, [fld 7 0 .RW]⟩, -- R295 09_ground_motion_sections.md: w
  ⟨.FUS_WHL_DPC, 0x1010, [(4, 2)], 0x2710, [fldR 15 0 .RW 1 65535]⟩, -- R284 09_ground_motion_sections.md: um
  ⟨.FUS_WHL_CFG, 0x1011, [(4, 2)], 0x0100, [fld 8 8 .RW, fld 4 4 .RW, fld 3 0 .RW]⟩, -- R284 09_ground_motion_sections.md: plaus_en rev filt
  ⟨.FUS_GNSS_CFG, 0x1018, [], 0x6413, [fld 15 8 .RW, fld 4 4 .RW, fld 2 0 .RW]⟩, -- R287 09_ground_motion_sections.md: lat pps_stamp baud
  ⟨.FUS_SENT_OFS, 0x101A, [(2, 2)], 0x0800, [fld 11 0 .RW]⟩, -- R291 09_ground_motion_sections.md: ofs
  ⟨.FUS_SENT_SCL, 0x101B, [(2, 2)], 0x0100, [fldS 15 0 .RW]⟩, -- R291 09_ground_motion_sections.md: scl
  ⟨.FUS_HINJ_0, 0x1020, [], 0x0000, [fld 1 0 .WO]⟩, -- R292 09_ground_motion_sections.md: kind
  ⟨.FUS_HINJ, 0x1021, [(3, 1)], 0x0000, [fld 15 0 .WO]⟩, -- R292 09_ground_motion_sections.md: w
  ⟨.FUS_EST, 0x1040, [(10, 1)], 0x0000, [fld 15 0 .RO]⟩, -- Table MOTION-10 09_ground_motion_sections.md: w
  ⟨.FUS_LIVE_S, 0x1050, [(2, 1)], 0x0000, [fld 15 0 .RO]⟩, -- R299 09_ground_motion_sections.md: w
  ⟨.FUS_ANGLE, 0x1052, [(2, 1)], 0x0000, [fld 15 0 .RO]⟩, -- R291 09_ground_motion_sections.md: w
  ⟨.FUS_SENT_STAT, 0x1054, [], 0x0000, [fld 7 0 .RO]⟩, -- R291 09_ground_motion_sections.md: s
  ⟨.FUS_IN_AGE, 0x1058, [(9, 1)], 0xFFFF, [fld 15 0 .RO]⟩, -- Table MOTION-10 09_ground_motion_sections.md: ms
  ⟨.FUS_IN_V, 0x1062, [(6, 1)], 0x0000, [fld 15 0 .RO]⟩, -- Table MOTION-10 09_ground_motion_sections.md: v
  ⟨.FUS_WHL_NOISE, 0x1068, [(4, 1)], 0x0000, [fld 15 0 .W1C]⟩  -- R286 09_ground_motion_sections.md: count
  ]

/-- Registers of the fusion block, part 2. -/
def rows_fus1 : List RegRow := [
  ⟨.FUS_WHL_INS, 0x106C, [(4, 1)], 0x0000, [fld 15 0 .W1C]⟩, -- R286 09_ground_motion_sections.md: count
  ⟨.FUS_GNSS_ERR, 0x1070, [], 0x0000, [fld 15 0 .W1C]⟩, -- R287 09_ground_motion_sections.md: count
  ⟨.FUS_GNSS_FIX, 0x1071, [], 0x0000, [fld 11 0 .RO]⟩, -- R288 09_ground_motion_sections.md: fix
  ⟨.FUS_IMU_LOST, 0x1072, [], 0x0000, [fld 15 0 .W1C]⟩, -- R290 09_ground_motion_sections.md: count
  ⟨.FUS_SENT_ERR, 0x1073, [(2, 1)], 0x0000, [fld 15 0 .W1C]⟩, -- R291 09_ground_motion_sections.md: count
  ⟨.FUS_IMU, 0x1079, [(5, 1)], 0x0000, [fld 15 0 .RO]⟩, -- R290 09_ground_motion_sections.md: w
  ⟨.FUS_WHL_CNT, 0x1080, [(4, 2), (2, 1)], 0x0000, [fld 15 0 .RO]⟩  -- R284 09_ground_motion_sections.md: w
  ]

/-- All registers of the fusion block. -/
def rows_fus : List RegRow := rows_fus0 ++ rows_fus1

/-- Registers of the schedule block, part 1. -/
def rows_sch0 : List RegRow := [
  ⟨.SCH_CTL, 0x1400, [], 0x0505, [fld 15 8 .RW, fldR 4 0 .RW 1 20]⟩, -- R304 09_ground_motion_sections.md: vstop tcommit
  ⟨.SCH_STAT, 0x1401, [], 0x0000, [fld 8 0 .RO]⟩, -- Table MOTION-11 09_ground_motion_sections.md: held
  ⟨.SCH_IN_RES, 0x1402, [], 0x0000, [fld 15 14 .RO, fld 7 0 .RO]⟩, -- R302 09_ground_motion_sections.md: res index
  ⟨.SCH_CANCEL, 0x1403, [], 0x0000, [fld 8 8 .WO, fld 7 0 .WO]⟩, -- R309 09_ground_motion_sections.md: all index
  ⟨.SCH_SECT_0, 0x1404, [], 0x0000, [fld 1 0 .WO]⟩, -- R307 09_ground_motion_sections.md: act
  ⟨.SCH_SECT_1, 0x1405, [], 0x0000, [fld 15 0 .WO]⟩, -- R307 09_ground_motion_sections.md: mask
  ⟨.SCH_SECT_2, 0x1406, [], 0x0000, [fld 7 0 .WO]⟩, -- R307 09_ground_motion_sections.md: mask
  ⟨.SCH_SECT_3, 0x1407, [], 0x0000, [fld 15 0 .WO]⟩, -- R307 09_ground_motion_sections.md: value
  ⟨.SCH_IN_0, 0x1408, [], 0x0000, [fld 15 14 .WO]⟩, -- R302 09_ground_motion_sections.md: act
  ⟨.SCH_IN_12, 0x1409, [(2, 1)], 0x0000, [fld 15 0 .WO]⟩, -- R302 09_ground_motion_sections.md: w
  ⟨.SCH_IN_3, 0x140B, [], 0x0000, [fld 7 0 .WO]⟩, -- R302 09_ground_motion_sections.md: mask
  ⟨.SCH_IN_45, 0x140C, [(2, 1)], 0x0000, [fld 15 0 .WO]⟩, -- R302 09_ground_motion_sections.md: w
  ⟨.SCH_STATE_LO, 0x1410, [], 0x0000, [fld 15 0 .RO]⟩, -- R301 09_ground_motion_sections.md: w
  ⟨.SCH_STATE_HI, 0x1411, [], 0x0000, [fld 7 0 .RO]⟩, -- R301 09_ground_motion_sections.md: w
  ⟨.SCH_FULLCNT, 0x1412, [], 0x0000, [fld 15 0 .W1C]⟩, -- R302 09_ground_motion_sections.md: count
  ⟨.SCH_LATECNT, 0x1413, [], 0x0000, [fld 15 0 .W1C]⟩, -- R306 09_ground_motion_sections.md: count
  ⟨.SCH_UNCOMCNT, 0x1414, [], 0x0000, [fld 15 0 .W1C]⟩, -- R308 09_ground_motion_sections.md: count
  ⟨.SCH_LAST, 0x1418, [(5, 1)], 0x0000, [fld 15 0 .RO]⟩, -- R305 09_ground_motion_sections.md: w
  ⟨.SCH_VIEW_IDX, 0x1420, [], 0x0000, [fld 7 0 .RW]⟩, -- Table MOTION-11 09_ground_motion_sections.md: index
  ⟨.SCH_VIEW, 0x1421, [(7, 1)], 0x0000, [fld 15 0 .RO]⟩  -- Table MOTION-11 09_ground_motion_sections.md: w
  ]

/-- Registers of the schedule block, part 2. -/
def rows_sch1 : List RegRow := [
  ⟨.SCH_TGT, 0x1440, [(24, 4)], 0x0000, [fld 15 14 .RW, fldR 12 8 .RW 0 23, fld 2 0 .RW]⟩, -- R300 09_ground_motion_sections.md: kind number sel
  ⟨.SCH_LEAD, 0x1441, [(24, 4)], 0x0000, [fldR 15 0 .RW 0 10000]⟩, -- R300 09_ground_motion_sections.md: lead
  ⟨.SCH_ON, 0x1442, [(24, 4)], 0x0000, [fld 15 0 .RW]⟩  -- R300 09_ground_motion_sections.md: on
  ]

/-- All registers of the schedule block. -/
def rows_sch : List RegRow := rows_sch0 ++ rows_sch1

/-- Registers of the solver and seed block, part 1. -/
def rows_sol0 : List RegRow := [
  ⟨.SOL_CTL, 0x1800, [], 0x0019, [fldR 6 0 .RW 10 100]⟩, -- R321 10_drop_association.md: epoch
  ⟨.SOL_GMAX, 0x1801, [], 0x2710, [fldR 15 0 .RW 100 65535]⟩, -- R323 10_drop_association.md: g
  ⟨.SOL_SEEDCFG, 0x1802, [], 0x050A, [fld 15 15 .RW, fld 13 8 .RW, fld 7 0 .RW]⟩, -- R320 10_drop_association.md: pol filt dead
  ⟨.SOL_ADAPT, 0x1803, [], 0x0432, [fldR 11 8 .RW 0 8, fld 7 0 .RW]⟩, -- R330 10_drop_association.md: k fwin
  ⟨.SOL_WIN, 0x1804, [], 0x0064, [fldR 15 0 .RW 10 1000]⟩, -- R329 10_drop_association.md: nwin
  ⟨.SOL_BLOCK, 0x1805, [], 0x000A, [fld 7 0 .RW]⟩, -- R331 10_drop_association.md: n
  ⟨.SOL_STAT, 0x1806, [], 0x0000, [fld 15 15 .RO, fld 12 8 .RO, fld 4 0 .RO]⟩, -- Table DROP-5 10_drop_association.md: solving queued rows
  ⟨.SOL_LATECNT, 0x1807, [], 0x0000, [fld 15 0 .W1C]⟩, -- R332 10_drop_association.md: count
  ⟨.SOL_FAULTCNT, 0x1808, [], 0x0000, [fld 15 0 .W1C]⟩, -- R336 10_drop_association.md: count
  ⟨.SOL_TRACE, 0x1809, [], 0x0000, [fld 15 15 .RW, fld 4 0 .RW]⟩, -- Table DROP-5 10_drop_association.md: en row
  ⟨.SOL_TMAX, 0x180A, [], 0x0000, [fld 15 0 .W1C]⟩, -- Table DROP-5 10_drop_association.md: t
  ⟨.SOL_MAP, 0x1810, [(24, 1)], 0xFFFF, [fld 15 0 .RO]⟩, -- R317 10_drop_association.md: w
  ⟨.SOL_FALL, 0x1900, [(24, 64)], 0x2710, [fld 15 0 .RW]⟩, -- R330 10_drop_association.md: f
  ⟨.SOL_FEST, 0x1901, [(24, 64)], 0x0000, [fld 15 0 .RO]⟩, -- R330 10_drop_association.md: f
  ⟨.SOL_PHASE, 0x1902, [(24, 64)], 0x0000, [fld 15 0 .RW]⟩, -- R318 10_drop_association.md: phi
  ⟨.SOL_RSTAT, 0x1903, [(24, 64)], 0x0000, [fld 15 15 .RO, fld 14 14 .RO, fld 13 13 .W1C, fld 6 0 .RO]⟩, -- Table DROP-6 10_drop_association.md: active blocked fall_lim exp
  ⟨.SOL_LAST_N, 0x1904, [(24, 64)], 0x0000, [fld 13 8 .RO, fld 5 0 .RO]⟩, -- R327 10_drop_association.md: m k
  ⟨.SOL_LAST_M, 0x1905, [(24, 64)], 0x0000, [fld 5 0 .RO]⟩, -- R327 10_drop_association.md: n
  ⟨.SOL_LAST_ERR, 0x1906, [(24, 64)], 0x0000, [fld 15 0 .RO]⟩, -- R327 10_drop_association.md: e
  ⟨.SOL_LAST_RMS, 0x1907, [(24, 64)], 0x0000, [fld 15 0 .RO]⟩  -- R327 10_drop_association.md: e
  ]

/-- Registers of the solver and seed block, part 2. -/
def rows_sol1 : List RegRow := [
  ⟨.SOL_CNT, 0x1908, [(24, 64), (8, 1)], 0x0000, [fld 15 0 .RO]⟩, -- R327 10_drop_association.md: w
  ⟨.SOL_CLR, 0x1910, [(24, 64)], 0x0000, [fld 1 0 .WO]⟩, -- R339 10_drop_association.md: clr
  ⟨.SOL_RATES, 0x1911, [(24, 64), (5, 1)], 0x0000, [fld 15 0 .RO]⟩, -- R329 10_drop_association.md: w
  ⟨.SOL_WINCNT, 0x1916, [(24, 64)], 0x0000, [fld 15 0 .RO]⟩, -- R329 10_drop_association.md: w
  ⟨.SOL_SEEDOVF, 0x1917, [(24, 64)], 0x0000, [fld 15 0 .W1C]⟩, -- R333 10_drop_association.md: count
  ⟨.SOL_EXPOVF, 0x1918, [(24, 64)], 0x0000, [fld 15 0 .W1C]⟩, -- R333 10_drop_association.md: count
  ⟨.SOL_BATCHOVF, 0x1919, [(24, 64)], 0x0000, [fld 15 0 .W1C]⟩, -- R322 10_drop_association.md: count
  ⟨.SOL_RUNSKIP, 0x191A, [(24, 64)], 0x0000, [fld 15 0 .RO]⟩, -- R331 10_drop_association.md: n
  ⟨.SOL_EPOCHCNT, 0x191B, [(24, 64)], 0x0000, [fld 15 0 .RO]⟩, -- R327 10_drop_association.md: w
  ⟨.SOL_HIST, 0x1920, [(24, 64), (16, 1)], 0x0000, [fld 15 0 .RO]⟩, -- R329 10_drop_association.md: w
  ⟨.SOL_TRACE_E, 0x1F00, [(32, 1)], 0x0000, [fld 15 0 .RO]⟩, -- Table DROP-7 10_drop_association.md: w
  ⟨.SOL_TRACE_O, 0x1F20, [(32, 1)], 0x0000, [fld 15 0 .RO]⟩, -- Table DROP-7 10_drop_association.md: w
  ⟨.SOL_TRACE_N, 0x1F40, [], 0x0000, [fld 15 0 .RO]⟩  -- Table DROP-7 10_drop_association.md: w
  ]

/-- All registers of the solver and seed block. -/
def rows_sol : List RegRow := rows_sol0 ++ rows_sol1

/-- Registers of the CAN FD block, part 1. -/
def rows_can0 : List RegRow := [
  ⟨.CAN_CTL, 0x4000, [(2, 8192)], 0x8000, [fld 15 15 .RW, fld 14 14 .RW, fld 13 13 .RW, fld 12 12 .RW, fld 11 11 .RW, fld 10 10 .RW, fld 9 9 .RW]⟩, -- Table HOST-15 04_host_link.md: init listen loop fd_en brs_en tdc_en rec_auto
  ⟨.CAN_NBT, 0x4001, [(2, 8192)], 0x0E09, [fld 15 8 .RW, fld 7 0 .RW]⟩, -- R128 04_host_link.md: tseg1 brp
  ⟨.CAN_NBT2, 0x4002, [(2, 8192)], 0x0303, [fld 14 8 .RW, fld 6 0 .RW]⟩, -- R128 04_host_link.md: tseg2 sjw
  ⟨.CAN_DBT, 0x4003, [(2, 8192)], 0x1200, [fld 12 8 .RW, fld 4 0 .RW]⟩, -- R128 04_host_link.md: tseg1 brp
  ⟨.CAN_DBT2, 0x4004, [(2, 8192)], 0x0404, [fld 11 8 .RW, fld 3 0 .RW]⟩, -- R128 04_host_link.md: tseg2 sjw
  ⟨.CAN_TDC, 0x4005, [(2, 8192)], 0x0014, [fld 6 0 .RW]⟩, -- Table HOST-15 04_host_link.md: ofs
  ⟨.CAN_STAT, 0x4008, [(2, 8192)], 0x0000, [fld 15 14 .RO, fld 13 13 .RO]⟩, -- R133 04_host_link.md: state sync
  ⟨.CAN_ERRCNT, 0x4009, [(2, 8192)], 0x0000, [fld 15 8 .RO, fld 7 0 .RO]⟩, -- Table HOST-15 04_host_link.md: rec tec
  ⟨.CAN_LEC, 0x400A, [(2, 8192)], 0x0000, [fld 2 0 .W1C]⟩, -- Table HOST-15 04_host_link.md: lec
  ⟨.CAN_RXLOST, 0x400B, [(2, 8192)], 0x0000, [fld 15 0 .W1C]⟩, -- R130 04_host_link.md: count
  ⟨.CAN_TXREQ, 0x400C, [(2, 8192), (2, 1)], 0x0000, [fld 15 0 .W1S]⟩, -- R131 04_host_link.md: w
  ⟨.CAN_TXABORT, 0x400E, [(2, 8192), (2, 1)], 0x0000, [fld 15 0 .W1S]⟩, -- R131 04_host_link.md: w
  ⟨.BUF_CFG, 0x4100, [(2, 8192), (32, 64)], 0x0000, [fld 15 15 .RW, fld 14 14 .RW, fld 13 13 .RW, fld 12 12 .RW, fld 11 11 .RW, fld 10 10 .RW, fld 9 9 .RW, fld 7 4 .RW]⟩, -- Table HOST-16 04_host_link.md: en dir ide fdf brs ovw single dlc
  ⟨.BUF_ID_LO, 0x4101, [(2, 8192), (32, 64)], 0x0000, [fld 15 0 .RW]⟩, -- Table HOST-16 04_host_link.md: w
  ⟨.BUF_ID_HI, 0x4102, [(2, 8192), (32, 64)], 0x0000, [fld 12 0 .RW]⟩, -- Table HOST-16 04_host_link.md: w
  ⟨.BUF_MASK_LO, 0x4103, [(2, 8192), (32, 64)], 0x0000, [fld 15 0 .RW]⟩, -- Table HOST-16 04_host_link.md: w
  ⟨.BUF_MASK_HI, 0x4104, [(2, 8192), (32, 64)], 0x0000, [fld 12 0 .RW]⟩, -- Table HOST-16 04_host_link.md: w
  ⟨.BUF_STAT, 0x4105, [(2, 8192), (32, 64)], 0x0000, [fld 15 15 .W1C, fld 14 14 .W1C, fld 13 13 .W1C, fld 12 12 .W1C, fld 3 0 .RO]⟩, -- Table HOST-16 04_host_link.md: full ovr lost err dlc
  ⟨.BUF_STAMP0, 0x4106, [(2, 8192), (32, 64)], 0x0000, [fld 15 0 .RO]⟩, -- R132 04_host_link.md: w
  ⟨.BUF_STAMP1, 0x4107, [(2, 8192), (32, 64)], 0x0000, [fld 15 0 .RO]⟩  -- R132 04_host_link.md: w
  ]

/-- Registers of the CAN FD block, part 2. -/
def rows_can1 : List RegRow := [
  ⟨.BUF_STAMP2, 0x4108, [(2, 8192), (32, 64)], 0x0000, [fld 15 0 .RO]⟩, -- R132 04_host_link.md: w
  ⟨.BUF_DATA, 0x4109, [(2, 8192), (32, 64), (32, 1)], 0x0000, [fld 15 0 .RW]⟩  -- Table HOST-16 04_host_link.md: w
  ]

/-- All registers of the CAN FD block. -/
def rows_can : List RegRow := rows_can0 ++ rows_can1

/-- Registers of the image load window block. -/
def rows_win : List RegRow := [
  ⟨.IMG_WINDOW, 0x8000, [(8192, 1)], 0x0000, [fld 15 0 .WO]⟩  -- R81 02_juniper_image.md: w
  ]

/-- Registers of the recorder window block. -/
def rows_recw : List RegRow := [
  ⟨.REC_WINDOW, 0xC000, [(16384, 1)], 0x0000, [fld 15 0 .RO]⟩  -- R347 11_events_recorder.md: w
  ]

/-- Registers of the bank block, part 1. -/
def rows_bank0 : List RegRow := [
  ⟨.BANK_ARM, 0x2000, [(8, 1024)], 0x0000, [fld 15 0 .WO]⟩, -- R457 15_safety.md: key
  ⟨.BANK_ARMSTAT, 0x2001, [(8, 1024)], 0x0000, [fld 15 15 .RO, fld 14 14 .RO, fld 7 0 .RO]⟩, -- R457 15_safety.md: armed pend cause
  ⟨.GSUP_STAT, 0x2010, [(8, 1024)], 0x0000, [fld 15 15 .RO, fld 14 14 .RO, fld 13 13 .RO, fld 12 12 .RO, fld 8 0 .RO]⟩, -- R212 06_gate_drivers.md: cp_on cp_ok vdrv_ok mode bst_ok
  ⟨.GSUP_FLT, 0x2011, [(8, 1024)], 0x0000, [fld 1 1 .W1C, fld 0 0 .W1C]⟩, -- R202 06_gate_drivers.md: vcp_uv vdrv_uv
  ⟨.GSEN_HS, 0x2012, [(8, 1024)], 0x0000, [fld 8 0 .RO]⟩, -- R193 06_gate_drivers.md: hs
  ⟨.GSEN_LS, 0x2013, [(8, 1024)], 0x0000, [fld 8 0 .RO]⟩, -- R193 06_gate_drivers.md: ls
  ⟨.GSEN_FGN, 0x2014, [(8, 1024)], 0x0000, [fld 8 0 .RO]⟩, -- R194 06_gate_drivers.md: fgn
  ⟨.PWM_CTL, 0x2040, [(8, 1024), (3, 64)], 0x0000, [fld 15 15 .RW, fldR 3 0 .RW 0 8]⟩, -- Table PWM-9 05_pwm_timers.md: cmp_src psc
  ⟨.PWM_PER, 0x2041, [(8, 1024), (3, 64)], 0x0F9F, [fldR 15 0 .RW 1 65534]⟩, -- R154 05_pwm_timers.md: per
  ⟨.PWM_CMP, 0x2042, [(8, 1024), (3, 64), (3, 1)], 0x0000, [fld 15 0 .RW]⟩, -- R155 05_pwm_timers.md: cmp
  ⟨.PWM_HR, 0x2045, [(8, 1024), (3, 64), (3, 1)], 0x0000, [fld 5 0 .RW]⟩, -- R167 05_pwm_timers.md: hr
  ⟨.PWM_CHEN, 0x2048, [(8, 1024), (3, 64)], 0x0000, [fld 2 0 .RW]⟩, -- R155 05_pwm_timers.md: en
  ⟨.PWM_TRG, 0x2049, [(8, 1024), (3, 64), (4, 1)], 0xFFFF, [fld 15 0 .RW]⟩, -- R173 05_pwm_timers.md: trg
  ⟨.PWM_MINP, 0x204D, [(8, 1024), (3, 64)], 0x0000, [fld 8 8 .RW, fld 7 0 .RW]⟩, -- R164 05_pwm_timers.md: mode tminp
  ⟨.PWM_FORCE, 0x204E, [(8, 1024), (3, 64)], 0x0000, [fldR 8 6 .RW 0 4, fldR 5 3 .RW 0 4, fldR 2 0 .RW 0 4]⟩, -- R171 05_pwm_timers.md: r2 r1 r0
  ⟨.PWM_REF, 0x204F, [(8, 1024), (3, 64)], 0x0728, [fld 13 8 .RW, fldR 7 0 .RW 10 255]⟩, -- R163 05_pwm_timers.md: nref tref
  ⟨.PWM_CNT, 0x2050, [(8, 1024), (3, 64)], 0x0000, [fld 15 0 .RO]⟩, -- R153 05_pwm_timers.md: cnt
  ⟨.PWM_STAT, 0x2051, [(8, 1024), (3, 64)], 0x0000, [fld 15 15 .RO, fld 14 14 .RO, fld 13 13 .RO, fld 12 12 .RO, fld 5 0 .RO]⟩, -- Table PWM-9 05_pwm_timers.md: running hrmode pend src out
  ⟨.PWM_ARMREP, 0x2052, [(8, 1024), (3, 64)], 0x0000, [fld 15 0 .W1C]⟩, -- R160 05_pwm_timers.md: count
  ⟨.PWM_FILTCNT, 0x2053, [(8, 1024), (3, 64)], 0x0000, [fld 15 0 .W1C]⟩  -- R164 05_pwm_timers.md: count
  ]

/-- Registers of the bank block, part 2. -/
def rows_bank1 : List RegRow := [
  ⟨.PWM_DPHASE, 0x2054, [(8, 1024), (3, 64)], 0x0000, [fld 3 0 .RO]⟩, -- R168 05_pwm_timers.md: k
  ⟨.PWM_ACT, 0x2060, [(8, 1024), (3, 64), (16, 1)], 0x0000, [fld 15 0 .RO]⟩, -- Table PWM-8 05_pwm_timers.md: w
  ⟨.GATE_IDRV_HS, 0x2100, [(8, 1024), (9, 16)], 0x0000, [fld 7 4 .RW, fld 3 0 .RW]⟩, -- R186 06_gate_drivers.md: src snk
  ⟨.GATE_IDRV_LS, 0x2101, [(8, 1024), (9, 16)], 0x0000, [fld 7 4 .RW, fld 3 0 .RW]⟩, -- R186 06_gate_drivers.md: src snk
  ⟨.GATE_DT, 0x2102, [(8, 1024), (9, 16)], 0x0014, [fld 7 0 .IL]⟩, -- R189 06_gate_drivers.md: tdead
  ⟨.GATE_AMP, 0x2103, [(8, 1024), (9, 16)], 0x0000, [fld 1 0 .RW]⟩, -- R205 06_gate_drivers.md: gain
  ⟨.GATE_STAT, 0x2104, [(8, 1024), (9, 16)], 0x0300, [fld 15 15 .RO, fld 14 14 .RO, fld 13 13 .RO, fld 12 12 .RO, fld 9 8 .RO]⟩, -- Table GATE-8 06_gate_drivers.md: hs_sense ls_sense wait bst_ok state
  ⟨.GATE_FLT, 0x2105, [(8, 1024), (9, 16)], 0x0000, [fld 4 4 .W1C, fld 3 3 .W1C, fld 2 2 .W1C, fld 1 1 .W1C, fld 0 0 .W1C]⟩, -- R191 06_gate_drivers.md: ls_fgn hs_fgn bst_uv ls_stuck hs_stuck
  ⟨.GATE_BSTUVCNT, 0x2106, [(8, 1024), (9, 16)], 0x0000, [fld 15 0 .W1C]⟩, -- R203 06_gate_drivers.md: count
  ⟨.GATE_RANGE, 0x2107, [(8, 1024), (9, 16)], 0x0000, [fld 15 12 .RO, fld 11 8 .RO, fld 7 4 .RO, fld 3 0 .RO]⟩, -- R186 06_gate_drivers.md: src_max src_min snk_max snk_min
  ⟨.GATE_SOFT, 0x2108, [(8, 1024), (9, 16)], 0x0000, [fld 3 0 .RO]⟩, -- R188 06_gate_drivers.md: soft
  ⟨.PROT_BLANK, 0x21A0, [(8, 1024)], 0x0032, [fld 7 0 .IL]⟩, -- R227 07_power_stage_protection.md: tblank
  ⟨.PROT_TRIPCFG, 0x21A1, [(8, 1024)], 0x0105, [fld 8 8 .IL, fld 5 0 .IL]⟩, -- R226 07_power_stage_protection.md: latch filt
  ⟨.PROT_VOV1_ON, 0x21A2, [(8, 1024)], 0x00B8, [fldR 7 0 .RW 0 220]⟩, -- R229 07_power_stage_protection.md: code
  ⟨.PROT_VOV1_OFF, 0x21A3, [(8, 1024)], 0x00B0, [fldR 7 0 .RW 0 220]⟩, -- R229 07_power_stage_protection.md: code
  ⟨.PROT_VOV2, 0x21A4, [(8, 1024)], 0x00D0, [fldR 7 0 .RW 0 220]⟩, -- R229 07_power_stage_protection.md: code
  ⟨.PROT_CHOPMAX, 0x21A5, [(8, 1024)], 0x0000, [fld 7 0 .RW]⟩, -- R231 07_power_stage_protection.md: ms
  ⟨.PROT_OTW, 0x21A6, [(8, 1024)], 0x007D, [fldR 7 0 .RW 80 150]⟩, -- R445 15_safety.md; Table PROT-7 07_power_stage_protection.md: degc
  ⟨.PROT_TEMP, 0x21A7, [(8, 1024)], 0x0000, [fld 15 0 .RO]⟩, -- Table PROT-7 07_power_stage_protection.md: temp
  ⟨.PROT_VM, 0x21A8, [(8, 1024)], 0x0000, [fld 15 0 .RO]⟩  -- Table PROT-7 07_power_stage_protection.md: vm
  ]

/-- Registers of the bank block, part 3. -/
def rows_bank2 : List RegRow := [
  ⟨.PROT_BSTAT, 0x21A9, [(8, 1024)], 0x0000, [fld 15 9 .RO]⟩, -- Table PROT-7 07_power_stage_protection.md: w
  ⟨.PROT_BFLT, 0x21AA, [(8, 1024)], 0x0000, [fld 5 5 .W1C, fld 4 4 .W1C, fld 3 3 .W1C, fld 2 2 .W1C, fld 1 1 .W1C, fld 0 0 .W1C]⟩, -- Table PROT-7 07_power_stage_protection.md: chop_long otw ots vov2 trip ilim
  ⟨.PROT_ILIMCNT, 0x21AB, [(8, 1024)], 0x0000, [fld 15 0 .W1C]⟩, -- R228 07_power_stage_protection.md: count
  ⟨.PROT_DS, 0x21B0, [(8, 1024), (9, 2)], 0x040A, [fld 12 8 .IL, fld 4 0 .IL]⟩, -- R215 07_power_stage_protection.md: tdsbl vdsth
  ⟨.PROT_DG, 0x21B1, [(8, 1024), (9, 2)], 0x0304, [fld 11 8 .IL, fldR 4 0 .IL 0 20]⟩, -- R215 07_power_stage_protection.md: tplat tdsdg
  ⟨.PROT_CHFLT, 0x21C8, [(8, 1024), (9, 1)], 0x0000, [fld 14 12 .RO, fld 11 11 .RO, fld 8 8 .W1C, fld 5 5 .W1C, fld 4 4 .W1C, fld 3 3 .W1C, fld 2 2 .W1C, fld 1 1 .W1C, fld 0 0 .W1C]⟩, -- R218 07_power_stage_protection.md: first side cbc plat_hs plat_ls hard_hs hard_ls desat_hs desat_ls
  ⟨.PROT_ILIM, 0x21D8, [(8, 1024), (9, 1)], 0x00F0, [fld 7 0 .IL]⟩, -- R228 07_power_stage_protection.md: thr
  ⟨.PROT_AXSTAT, 0x21E4, [(8, 1024), (3, 1)], 0x0000, [fld 15 14 .RO, fld 13 12 .RO, fld 3 2 .RO, fld 1 1 .RO, fld 0 0 .W1C]⟩, -- Table PROT-7 07_power_stage_protection.md: reaction safe act held asc_lost
  ⟨.PROT_AXCFG, 0x21E8, [(8, 1024), (3, 1)], 0x0001, [fldR 1 0 .IL 0 2]⟩, -- R228 07_power_stage_protection.md: cbc
  ⟨.AX_CMD, 0x2200, [(8, 1024), (3, 96)], 0x0000, [fld 3 3 .WO, fldR 2 0 .WO 0 3]⟩, -- R258 08_axes.md: stallclr cmd
  ⟨.AX_MODE, 0x2201, [(8, 1024), (3, 96)], 0x0000, [fldR 15 14 .RW 0 2, fld 8 8 .RW, fld 7 7 .RW, fldR 3 0 .RW 0 7]⟩, -- Table AXIS-8 08_axes.md: src sal_en enc_keep mode
  ⟨.AX_STAT, 0x2202, [(8, 1024), (3, 96)], 0x0000, [fld 15 0 .RO]⟩, -- Table AXIS-8 08_axes.md: w
  ⟨.AX_SPD_SET, 0x2203, [(8, 1024), (3, 96)], 0x0000, [fldS 15 0 .RW]⟩, -- Table AXIS-7 08_axes.md: set
  ⟨.AX_CUR_SET, 0x2204, [(8, 1024), (3, 96), (3, 1)], 0x0000, [fldS 15 0 .RW]⟩, -- Table AXIS-7 08_axes.md: set
  ⟨.AX_ACC, 0x2207, [(8, 1024), (3, 96)], 0x03E8, [fldR 15 0 .RW 1 65535]⟩, -- Table AXIS-7 08_axes.md: acc
  ⟨.AX_DEC, 0x2208, [(8, 1024), (3, 96)], 0x03E8, [fldR 15 0 .RW 1 65535]⟩, -- Table AXIS-7 08_axes.md: dec
  ⟨.AX_REVD, 0x2209, [(8, 1024), (3, 96)], 0x0000, [fld 7 0 .RW]⟩, -- R263 08_axes.md: ms
  ⟨.AX_SPD_MAX, 0x220A, [(8, 1024), (3, 96)], 0x0BB8, [fldR 15 0 .RW 1 32767]⟩, -- R263 08_axes.md: max
  ⟨.AX_IMAX, 0x220B, [(8, 1024), (3, 96)], 0x2000, [fldR 15 0 .RW 0 32767]⟩, -- R256 08_axes.md: i
  ⟨.AX_KP_I, 0x220C, [(8, 1024), (3, 96)], 0x0000, [fld 15 0 .RW]⟩  -- R256 08_axes.md: k
  ]

/-- Registers of the bank block, part 4. -/
def rows_bank3 : List RegRow := [
  ⟨.AX_KI_I, 0x220D, [(8, 1024), (3, 96)], 0x0000, [fld 15 0 .RW]⟩, -- R256 08_axes.md: k
  ⟨.AX_KP_S, 0x220E, [(8, 1024), (3, 96)], 0x0000, [fld 15 0 .RW]⟩, -- R256 08_axes.md: k
  ⟨.AX_KI_S, 0x220F, [(8, 1024), (3, 96)], 0x0000, [fld 15 0 .RW]⟩, -- R256 08_axes.md: k
  ⟨.AX_LOOP, 0x2210, [(8, 1024), (3, 96)], 0x0000, [fld 7 4 .RW, fld 3 0 .RW]⟩, -- R242 08_axes.md: loop_div spd_div
  ⟨.AX_POLES, 0x2211, [(8, 1024), (3, 96)], 0x0001, [fldR 5 0 .RW 1 32]⟩, -- Table AXIS-7 08_axes.md: n
  ⟨.AX_HALLCFG, 0x2212, [(8, 1024), (3, 96)], 0x0020, [fld 7 4 .RW, fld 3 3 .RW, fldR 2 0 .RW 0 5]⟩, -- R251 08_axes.md: filt rev ofs
  ⟨.AX_ENCCFG, 0x2213, [(8, 1024), (3, 96)], 0x0000, [fld 1 1 .RW, fld 0 0 .RW]⟩, -- R252 08_axes.md: rev index_en
  ⟨.AX_ENC_CPR, 0x2214, [(8, 1024), (3, 96)], 0x1000, [fldR 15 0 .RW 4 65532]⟩, -- R252 08_axes.md: cpr
  ⟨.AX_ENC_OFS, 0x2215, [(8, 1024), (3, 96)], 0x0000, [fld 15 0 .RW]⟩, -- R252 08_axes.md: ofs
  ⟨.AX_ADV, 0x2216, [(8, 1024), (3, 96)], 0x001E, [fldR 5 0 .RW 0 60]⟩, -- R253 08_axes.md: deg
  ⟨.AX_DMAX, 0x2217, [(8, 1024), (3, 96)], 0x7333, [fldR 15 0 .RW 16384 32767]⟩, -- R254 08_axes.md: d
  ⟨.AX_MOT, 0x2218, [(8, 1024), (3, 96), (4, 1)], 0x0000, [fld 15 0 .RW]⟩, -- R271 08_axes.md: w
  ⟨.AX_ISCALE, 0x221C, [(8, 1024), (3, 96)], 0x0000, [fld 15 0 .RW]⟩, -- R248 08_axes.md: i
  ⟨.AX_SALCFG, 0x221D, [(8, 1024), (3, 96)], 0x4032, [fld 15 8 .RW, fldR 7 0 .RW 1 255]⟩, -- R259 08_axes.md: volt tsal
  ⟨.AX_IALIGN, 0x221E, [(8, 1024), (3, 96)], 0x0000, [fldR 15 0 .RW 0 32767]⟩, -- R259 08_axes.md: i
  ⟨.AX_TALIGN, 0x221F, [(8, 1024), (3, 96)], 0x0064, [fldR 15 0 .RW 1 65535]⟩, -- R259 08_axes.md: ms
  ⟨.AX_IRAMP, 0x2220, [(8, 1024), (3, 96)], 0x0000, [fldR 15 0 .RW 0 32767]⟩, -- R259 08_axes.md: i
  ⟨.AX_RAMP_ACC, 0x2221, [(8, 1024), (3, 96)], 0x01F4, [fldR 15 0 .RW 1 65535]⟩, -- R259 08_axes.md: acc
  ⟨.AX_RAMP_END, 0x2222, [(8, 1024), (3, 96)], 0x01F4, [fldR 15 0 .RW 1 32767]⟩, -- R259 08_axes.md: n
  ⟨.AX_NHAND, 0x2223, [(8, 1024), (3, 96)], 0x012C, [fldR 15 0 .RW 1 32767]⟩  -- R260 08_axes.md: n
  ]

/-- Registers of the bank block, part 5. -/
def rows_bank4 : List RegRow := [
  ⟨.AX_CONF_THR, 0x2224, [(8, 1024), (3, 96)], 0x00C0, [fld 7 0 .RW]⟩, -- R260 08_axes.md: thr
  ⟨.AX_NRETRY, 0x2225, [(8, 1024), (3, 96)], 0x0003, [fld 2 0 .RW]⟩, -- R261 08_axes.md: n
  ⟨.AX_STALLCFG, 0x2226, [(8, 1024), (3, 96)], 0x0070, [fld 6 6 .RW, fld 5 5 .RW, fld 4 4 .RW, fldR 1 0 .RW 0 2]⟩, -- R265 08_axes.md: err_en conf_en edge_en react
  ⟨.AX_TSTALL, 0x2227, [(8, 1024), (3, 96)], 0x00C8, [fldR 15 0 .RW 1 65535]⟩, -- R265 08_axes.md: ms
  ⟨.AX_NMIN, 0x2228, [(8, 1024), (3, 96)], 0x0032, [fldR 15 0 .RW 0 32767]⟩, -- R265 08_axes.md: n
  ⟨.AX_STALL_ERR, 0x2229, [(8, 1024), (3, 96)], 0x01F4, [fldR 15 0 .RW 1 32767]⟩, -- R265 08_axes.md: n
  ⟨.AX_TSTALLDET, 0x222A, [(8, 1024), (3, 96)], 0x01F4, [fldR 15 0 .RW 1 65535]⟩, -- R265 08_axes.md: ms
  ⟨.AX_IHOLD, 0x222B, [(8, 1024), (3, 96)], 0x0000, [fldR 15 0 .RW 0 32767]⟩, -- R264 08_axes.md: i
  ⟨.AX_GS_RATE, 0x2230, [(8, 1024), (3, 96)], 0x0000, [fld 15 0 .RW]⟩, -- R267 08_axes.md: rate
  ⟨.AX_GS_CELLS, 0x2231, [(8, 1024), (3, 96)], 0x0001, [fldR 7 0 .RW 1 255]⟩, -- R267 08_axes.md: n
  ⟨.AX_GS_GEAR, 0x2232, [(8, 1024), (3, 96)], 0x0100, [fldR 15 0 .RW 1 65535]⟩, -- R267 08_axes.md: g
  ⟨.AX_GS_LAT, 0x2233, [(8, 1024), (3, 96)], 0x0000, [fldS 15 0 .RW]⟩, -- R267 08_axes.md: y
  ⟨.AX_GS_CTL, 0x2234, [(8, 1024), (3, 96)], 0x0002, [fld 2 2 .RW, fld 1 1 .RW, fld 0 0 .RW]⟩, -- R268 08_axes.md: rev tc_en sect_on
  ⟨.AX_SPD, 0x2240, [(8, 1024), (3, 96)], 0x0000, [fld 15 0 .RO]⟩, -- R255 08_axes.md: spd
  ⟨.AX_REF, 0x2241, [(8, 1024), (3, 96)], 0x0000, [fld 15 0 .RO]⟩, -- R263 08_axes.md: ref
  ⟨.AX_TARGET, 0x2242, [(8, 1024), (3, 96)], 0x0000, [fld 15 0 .RO]⟩, -- R263 08_axes.md: tgt
  ⟨.AX_ID, 0x2243, [(8, 1024), (3, 96)], 0x0000, [fld 15 0 .RO]⟩, -- R254 08_axes.md: w
  ⟨.AX_IQ, 0x2244, [(8, 1024), (3, 96)], 0x0000, [fld 15 0 .RO]⟩, -- R254 08_axes.md: w
  ⟨.AX_VD, 0x2245, [(8, 1024), (3, 96)], 0x0000, [fld 15 0 .RO]⟩, -- R254 08_axes.md: w
  ⟨.AX_VQ, 0x2246, [(8, 1024), (3, 96)], 0x0000, [fld 15 0 .RO]⟩  -- R254 08_axes.md: w
  ]

/-- Registers of the bank block, part 6. -/
def rows_bank5 : List RegRow := [
  ⟨.AX_ANGLE, 0x2247, [(8, 1024), (3, 96)], 0x0000, [fld 15 0 .RO]⟩, -- R252 08_axes.md: w
  ⟨.AX_CONF, 0x2248, [(8, 1024), (3, 96)], 0x0000, [fld 7 0 .RO]⟩, -- R260 08_axes.md: c
  ⟨.AX_HALL, 0x2249, [(8, 1024), (3, 96)], 0x0000, [fld 6 4 .RO, fld 2 0 .RO]⟩, -- R251 08_axes.md: sector h
  ⟨.AX_ENCPOS, 0x224A, [(8, 1024), (3, 96)], 0x0000, [fld 15 0 .RO]⟩, -- R252 08_axes.md: w
  ⟨.AX_STARTS, 0x224B, [(8, 1024), (3, 96)], 0x0000, [fld 15 0 .W1C]⟩, -- Table AXIS-7 08_axes.md: count
  ⟨.AX_STALLCNT, 0x224C, [(8, 1024), (3, 96)], 0x0000, [fld 15 0 .W1C]⟩, -- R265 08_axes.md: count
  ⟨.AX_SKIPCNT, 0x224D, [(8, 1024), (3, 96)], 0x0000, [fld 15 0 .W1C]⟩, -- R243 08_axes.md: count
  ⟨.AX_LATECNT, 0x224E, [(8, 1024), (3, 96)], 0x0000, [fld 15 0 .W1C]⟩, -- R244 08_axes.md: count
  ⟨.AX_STALECNT, 0x224F, [(8, 1024), (3, 96)], 0x0000, [fld 15 0 .W1C]⟩, -- R250 08_axes.md: count
  ⟨.AX_IC, 0x2250, [(8, 1024), (3, 96), (3, 1)], 0x0000, [fld 15 0 .RO]⟩, -- R270 08_axes.md: w
  ⟨.AX_HALLERR, 0x2253, [(8, 1024), (3, 96)], 0x0000, [fld 15 0 .W1C]⟩, -- R276 08_axes.md: count
  ⟨.CONV_STAT, 0x2320, [(8, 1024)], 0x0000, [fld 6 4 .RO, fld 2 0 .RO]⟩, -- Table AXIS-9 08_axes.md: bg seq
  ⟨.CONV_OVRCNT, 0x2321, [(8, 1024), (3, 1)], 0x0000, [fld 15 0 .W1C]⟩, -- R247 08_axes.md: count
  ⟨.CONV_SEQCNT, 0x2324, [(8, 1024), (3, 1)], 0x0000, [fld 15 0 .RO]⟩, -- R247 08_axes.md: count
  ⟨.CONV_OFS, 0x2328, [(8, 1024), (9, 1)], 0x0000, [fldS 15 0 .RW]⟩, -- R272 08_axes.md: ofs
  ⟨.CONV_REF, 0x2332, [(8, 1024)], 0x0000, [fld 15 0 .RO]⟩, -- Table AXIS-9 08_axes.md: w
  ⟨.CONV_SN, 0x2338, [(8, 1024), (9, 1)], 0x0000, [fld 15 0 .RO]⟩, -- Table AXIS-9 08_axes.md: w
  ⟨.CONV_RES, 0x2350, [(8, 1024), (3, 16), (16, 1)], 0x0000, [fld 15 0 .RO]⟩, -- R248 08_axes.md: w
  ⟨.DLC_CTL, 0x2380, [(8, 1024)], 0x0001, [fld 0 0 .RW]⟩, -- R169 05_pwm_timers.md: bg_en
  ⟨.DLC_STAT, 0x2381, [(8, 1024)], 0x0000, [fld 15 15 .W1C, fld 14 14 .RO, fld 7 0 .RO]⟩  -- R169 05_pwm_timers.md: fault valid gen
  ]

/-- Registers of the bank block, part 7. -/
def rows_bank6 : List RegRow := [
  ⟨.DLC_TAPDLY, 0x2382, [(8, 1024)], 0x0000, [fld 15 0 .RO]⟩, -- Table PWM-10 05_pwm_timers.md: w
  ⟨.DLC_FAILCNT, 0x2383, [(8, 1024)], 0x0000, [fld 15 0 .W1C]⟩, -- R178 05_pwm_timers.md: count
  ⟨.DLC_AGE, 0x2384, [(8, 1024)], 0x0000, [fld 15 0 .RO]⟩, -- R178 05_pwm_timers.md: ms
  ⟨.DLC_BIAS, 0x2385, [(8, 1024)], 0x0000, [fld 7 0 .RO]⟩, -- Table PWM-10 05_pwm_timers.md: b
  ⟨.DLC_OFS, 0x2388, [(8, 1024), (9, 1)], 0x0000, [fld 15 0 .RO]⟩, -- R170 05_pwm_timers.md: w
  ⟨.DLC_TBL, 0x23C0, [(8, 1024), (64, 1)], 0x0000, [fld 5 0 .RO]⟩  -- Table PWM-10 05_pwm_timers.md: t
  ]

/-- All registers of the bank block. -/
def rows_bank : List RegRow := rows_bank0 ++ rows_bank1 ++ rows_bank2 ++ rows_bank3 ++ rows_bank4 ++ rows_bank5 ++ rows_bank6

/-- The block an address lies in (R36, Table MAP-5). -/
def blkOf (a : Nat) : Blk :=
  if a < 0x100 then .sys else if a < 0x200 then .time else if a < 0x400 then .host
  else if a < 0x600 then .evt else if a < 0x800 then .recorder else if a < 0xA00 then .pwr
  else if a < 0xC00 then .store else if a < 0xE00 then .pair else if a < 0x1000 then .safe
  else if a < 0x1400 then .fus else if a < 0x1800 then .sch else if a < 0x2000 then .sol
  else if a < 0x4000 then .bank else if a < 0x8000 then .can else if a < 0xA000 then .win
  else if a < 0xC000 then .storew else if a < 0x10000 then .recw else .unassigned

/-- The rows of a block. -/
def rowsOf : Blk → List RegRow
  | .sys => rows_sys
  | .time => rows_time
  | .host => rows_host
  | .evt => rows_evt
  | .recorder => rows_recorder
  | .pwr => rows_pwr
  | .store => rows_store
  | .storew => rows_storew
  | .pair => rows_pair
  | .safe => rows_safe
  | .fus => rows_fus
  | .sch => rows_sch
  | .sol => rows_sol
  | .can => rows_can
  | .win => rows_win
  | .recw => rows_recw
  | .bank => rows_bank
  | .unassigned => []

/-- The indices of the instance at offset `off` of a row, if the offset is one. -/
def dimIdx : List (Nat × Nat) → Nat → Option (List Nat)
  | [], off => if off = 0 then some [] else none
  | (n, st) :: ds, off =>
    if off / st < n then (dimIdx ds (off % st)).map (off / st :: ·) else none

/-- The instance indices of address `a` in row `r`, if the row holds it. -/
def RegRow.idx (r : RegRow) (a : Nat) : Option (List Nat) :=
  if a < r.base then none else dimIdx r.dims (a - r.base)

/-- The row of a list that holds the address, with the instance indices. -/
def findRow : List RegRow → Nat → Option (RegRow × List Nat)
  | [], _ => none
  | r :: rs, a =>
    match r.idx a with
    | some ix => some (r, ix)
    | none => findRow rs a

/-- The register at an address, with its indices; none for an address no chapter assigns (R38). -/
def lookup (a : Nat) : Option (RegRow × List Nat) := findRow (rowsOf (blkOf a)) a

/-- The reset value of the word at an address (R15); 0 for an address that no chapter assigns (R38). -/
def resetOf (a : Nat) : BitVec 16 :=
  match lookup a with
  | some (r, _) => r.reset
  | none => 0#16

end Sys2Proof.Machine
end

