-- ==== Sys2Proof/Machine/State.lean ====
section
/-! DEFINITION. Sys2Proof/Machine/State.lean: everything the spec gives the device to hold, as plain data, the reasons a
command can stop, and the state after reset. Each field's docstring names the rule of spec/ it stands for and its reset
value. The register words themselves are the sparse map `State.regs` over the register tables of RegTable.lean. -/
namespace Sys2Proof.Machine

/-! ### Clocks, time base and UTC (03_time_and_order.md) -/

/-- States of the PPS discipline (Table TIME-2, TIME_STATUS.pps_state). -/
inductive Pps
  | off | acquire | locked | holdover
  deriving DecidableEq, Repr

/-- The time base, the UTC clock, the PPS discipline and the clock generator (R90 to R114). -/
structure Clk where
  /-- Ticks of the 1 µs tick since AON power-on; TB is this count modulo 2^48 (R93). Reset 0 (R113). -/
  ticks : Nat
  /-- UTC seconds, 32 bits (R94). Reset 0 (R113). -/
  sec : Nat
  /-- UTC microseconds, 0 to 999,999, 20 bits (R94, R95). Reset 0 (R113). -/
  usec : Nat
  /-- Ticks since the second boundary that began the second: k of R95. Reset 0 (R113). -/
  k : Nat
  /-- Tick of the second boundary before that one (R289). Reset 0 (R113). -/
  bndPrev : Nat
  /-- N = 1,000,000 + f, held for the second that runs (R95). Reset 1,000,000 (TIME_FERR is 0, R108, R113). -/
  n : Nat
  /-- A second boundary has been taken in the present tick (R96: at most one per tick). Reset false. -/
  bndNow : Bool
  /-- PPS state (R98). Reset OFF (R113). -/
  pps : Pps
  /-- n of Table TIME-2. Reset 0. -/
  ppsN : Nat
  /-- Tick of the last edge that the machine took or accepted (I counts from it, R98). Reset 0. -/
  lastEdge : Nat
  /-- TIME_STATUS.apply_pend (R99). Reset 0 (R113, Table TIME-9). -/
  applyPend : Bool
  /-- TIME_STATUS.utc_valid (R99). Reset 0 (R113). -/
  utcValid : Bool
  /-- TIME_STATUS.tb_degraded (R112). Reset 0 (Table TIME-9). -/
  degraded : Bool
  /-- CLK_STATUS.tick_src: the tick runs from the RC monitor (R112). Reset 0 (Table TIME-8). -/
  tickRc : Bool
  /-- CLK_STATUS.ref_ok. Reset 1 (Table TIME-8). -/
  refOk : Bool
  /-- CLK_STATUS.core_ok. Reset 1 (Table TIME-8). -/
  coreOk : Bool
  /-- CLK_STATUS.pll_lock. Reset 1 (R114). -/
  pllLock : Bool
  /-- pll_lock has read 1 throughout the present monitor window (R111). Reset true (R114). -/
  lockHeld : Bool
  /-- CLK_STATUS.lowdrive (R92). Reset 0 (Table TIME-8). -/
  lowdrive : Bool
  /-- Tick at which the latest failed reference window ended; the 1 ms of R112 count from it. Reset 0. -/
  lastBad : Nat
  /-- Tick at which the latest failed window of either clock ended, for the clear of CLOCK (Table SAFE-4). Reset 0. -/
  lastBadAny : Nat
  deriving DecidableEq, Repr

/-! ### Host link and long operations (04_host_link.md) -/

/-- The SPI slave: what it returned, the read latches and the staged words (R115 to R125). -/
structure Link where
  /-- The words returned on MISO in the latest frame, position 0 first (R117). Reset empty. -/
  miso : List Word
  /-- The read latches, by the address of each latched higher word (R124); an absent entry holds the reset value. Reset empty (R152). -/
  latch : List (Nat × Word)
  /-- The staged higher words, by address (R125); an absent entry holds the reset value. Reset empty (R152). -/
  stage : List (Nat × Word)
  deriving DecidableEq, Repr

/-- States of a ticket slot (Table HOST-8, OP_STAT.state). -/
inductive OpState
  | free | queued | running | part | done | failed | aborted
  deriving DecidableEq, Repr

/-- One result entry (R140): valid, tag and the 32-bit value. -/
structure OpRes where
  valid : Bool
  tag : Nat
  val : Nat
  deriving DecidableEq, Repr

/-- One ticket slot (R136 to R143). Every field reads 0 while the slot is FREE (Table HOST-8). -/
structure OpSlot where
  /-- OP_STAT.state. Reset FREE (R152). -/
  st : OpState
  /-- OP_INFO.op, 8 bits. Reset 0 (Table HOST-14). -/
  op : Nat
  /-- OP_INFO.gen, 5 bits. Reset 0 (Table HOST-14). -/
  gen : Nat
  /-- The latched OP_PARAM words (R136); for IMAGE_LOAD the latched IMG_LDCTL follows them (R70). Reset empty. -/
  params : List Word
  /-- OP_STAT.progress, 8 bits (R139). Reset 0. -/
  progress : Nat
  /-- OP_OUTC.fail, 8 bits (Table HOST-9). Reset 0. -/
  fail : Nat
  /-- OP_OUTC.npart, saturated at 255 (R139). Reset 0. -/
  npart : Nat
  /-- Tick of the doorbell; OP_AGE counts from it (R139). Reset 0. -/
  since : Nat
  /-- Tick at which the operation started, and the ticks it has been deferred by the energy gate (fail code TIMEOUT). Reset 0. -/
  started : Nat
  deferred : Nat
  /-- An abort waits for the operation's next safe step (R142), with the fail code it will end with. Reset none. -/
  abort : Option Nat
  /-- What the operation has finished: SHUNT_CAL the channels of bank b in digit b to base 16 (R272); DLINE_CAL and
  SELF_TEST bit b, once asked for (R170, R462). Reset 0. -/
  work : Nat
  /-- The result entries e0 to e7 (R140). Reset all zero (R152). -/
  res : Vector OpRes 8
  deriving DecidableEq, Repr

/-- The long-operation sequencer (R135 to R146). -/
structure Ops where
  slots : Vector OpSlot 8
  /-- QUEUED slots in the order of their doorbells (R137). Reset empty (R152). -/
  order : List Nat
  /-- The next generation number, 5 bits (R136). Reset 0 (R152). -/
  gen : Nat
  deriving DecidableEq, Repr

/-- Fault-confinement state of a CAN controller (R133, CAN_STAT). -/
inductive CanSt
  | active | passive | busOff
  deriving DecidableEq, Repr

/-- One CAN FD controller beside its registers (R126 to R133). -/
structure Can where
  /-- CAN_STAT[15:14]. Reset error-active (Table HOST-15). -/
  st : CanSt
  /-- CAN_STAT[13]. Reset 0 (Table HOST-15). -/
  sync : Bool
  /-- CAN_ERRCNT[15:8], 8 bits. Reset 0. -/
  recErr : Nat
  /-- CAN_ERRCNT[7:0], 8 bits. Reset 0. -/
  txErr : Nat
  /-- Pending transmit buffers, 32 bits (CAN_TXREQ, R131). Reset 0. -/
  pend : BitVec 32
  /-- Tick since which each buffer is pending (R131: the winner is chosen at its start of frame). Reset 0. -/
  since : Vector Nat 32
  /-- Aborts waiting for a frame on the bus (CAN_TXABORT, R131), 32 bits. Reset 0. -/
  abort : BitVec 32
  /-- An aborted buffer whose frame has turned out to be on the bus: it stops when the frame ends (R131). Reset none. -/
  bus : Option Nat
  /-- Bus-off recovery runs (R133). Reset false. -/
  recovering : Bool
  /-- Bit-timing words taken into account: NBT, NBT2, DBT, DBT2, TDC as last seen while init = 1 (R128). Reset as their registers. -/
  timing : List Word
  deriving DecidableEq, Repr

/-! ### Events and recorder (11_events_recorder.md) -/

/-- Severities (R344, Table EVT-1 word 4). -/
inductive Sev
  | info | warn | fault | safety
  deriving DecidableEq, Repr

/-- One raising that makes a record (R344): its TB, its place in its tick (R104, R516), source, severity and data words; `jq`
is what was decided for the journal (R356): none while it is still to be decided, else whether it was queued. -/
structure Raised where
  tb : Nat
  place : Nat
  src : Nat
  sev : Sev
  d0 : Word
  d1 : Word
  jq : Option Bool
  deriving DecidableEq, Repr

/-- One record of a partition (Table EVT-1) with its repeat-time word (R347). -/
structure Record where
  seq : Nat
  ev : Raised
  prot : Bool
  held : Bool
  jq : Bool
  rep : Nat
  rtime : Nat
  deriving DecidableEq, Repr

/-- One entry of the hold FIFO with its repeats (R352). -/
structure HoldEntry where
  ev : Raised
  rep : Nat
  lastTb : Nat
  deriving DecidableEq, Repr

/-- Why a freeze ended (R353, REC_THAW data word 0: 0 host, 1 timeout, 2 image swap, 3 hand-over, 4 reset). -/
inductive ThawCause
  | host | timeout | swap | handover | reset
  deriving DecidableEq, Repr

/-- The event recorder beside its registers (R344 to R362). -/
structure Recorder where
  /-- P, the size of the protected partition, 0 to 2,048 (REC_CFG). Reset 0 (R362). -/
  p : Nat
  /-- The occupied slots in rising order (R347). Reset empty (R362). -/
  slots : List (Nat × Record)
  /-- New records made; REC_HEAD_0 reads it modulo 65,536 (R349). Reset 0 (R362). -/
  seq : Nat
  /-- Protected writes, modulo 65,536 (REC_HEAD_1, R346). Reset 0 (R362). -/
  head1 : Nat
  /-- Slot of the last record of the general partition (R348). Reset none. -/
  lastG : Option Nat
  /-- Slot of the last record of the protected partition (R348). Reset none. -/
  lastP : Option Nat
  /-- Raisings whose record is due (R355), oldest first. Reset empty. -/
  due : List Raised
  /-- The hold FIFO, at most 64 entries, oldest first (R352). Reset empty (R362). -/
  fifo : List HoldEntry
  /-- REC_STAT.frozen. Reset 0 (Table EVT-10). -/
  frozen : Bool
  /-- A freeze accepted in this tick, or during a drain, waits (R352, R353). Reset false. -/
  freezePend : Bool
  /-- REC_STAT.draining. Reset 0 (Table EVT-10). -/
  draining : Bool
  /-- Tick at which the freeze took effect (R353). Reset 0. -/
  frozeAt : Nat
  /-- Cause of the freeze's end, while its REC_THAW is still to be raised (R353). Reset none. -/
  thaw : Option ThawCause
  /-- Entries drained since the freeze ended (REC_THAW data word 1). Reset 0. -/
  drained : Nat
  /-- New records and repeats written in the present tick (R354). Reset 0. -/
  wrote : Nat
  /-- REC_HOLDOVF is due once the FIFO has drained (R352). Reset false. -/
  ovf : Bool
  deriving DecidableEq, Repr

/-- A register whose value acts some PWM clocks after its write (R156, R187): the value as its older writes left it, and
the later writes with their instants, oldest first. -/
structure Delayed where
  base : Word
  log : List (Nat × Word)
  deriving DecidableEq, Repr

/-! ### PWM timers (05_pwm_timers.md) -/

/-- The three commands of a timer channel (before R155). -/
inductive ChCmd
  | low | high | hiz
  deriving DecidableEq, Repr

/-- One channel of a timer (R155 to R171). -/
structure Chan where
  /-- The channel's own command now (rows 6 to 9 of Table PWM-4). Reset phase Hi-Z (a stopped timer, R162, R179). -/
  cmd : ChCmd
  /-- PWM clock of the compare match due in this period, if one is (R155). Reset none. -/
  fallAt : Option Nat
  /-- Fine part of the falling edge, in 1/64 PWM clock, and the physical tap of the channel's line that gives it (R167). Reset 0. -/
  taps : Nat
  tap : Nat
  /-- PWM clock at which the running refresh pulse ends, and the command that follows it (R163). Reset none. -/
  refEnd : Option Nat
  after : ChCmd
  /-- Consecutive fully-on periods, 0 to NREF (R163). Reset NREF of PWM_REF, 8. -/
  refCnt : Nat
  /-- The command HOLD keeps (R171). Reset phase Hi-Z. -/
  kept : ChCmd
  /-- The force in effect, 3 bits (R171). Reset NORMAL. -/
  force : Nat
  /-- A row above the forces has driven the channel in this period (R163). Reset true (the timer is stopped). -/
  above : Bool
  deriving DecidableEq, Repr

/-- The armed stage of LOAD-ALL (R157): the arm instant in PWM clocks, the timer words copied and whether the compare
group is among them. -/
structure Stage where
  at' : Nat
  words : List Word
  cmp : Bool
  deriving DecidableEq, Repr

/-- One PWM timer beside its shadow registers (R153 to R176). -/
structure Timer where
  /-- The timer runs (PWM_STAT.running). Reset false (R179). -/
  run : Bool
  /-- It stops at its next wrap (R162). Reset false. -/
  stopping : Bool
  /-- PWM clock of the start edge to come (R162). Reset none. -/
  startAt : Option Nat
  /-- PWM clock of the wrap or start edge that began the present period (R153). Reset 0. -/
  base : Nat
  /-- The words in effect, PWM_ACT_0 to PWM_ACT_15 (Table PWM-8). Reset 0x0000 each (Table PWM-8). -/
  act : Vector Word 16
  /-- The armed stage (R157). Reset empty (R179). -/
  stage : Option Stage
  /-- The writes of the axis logic that have not transferred: instant and the words of the block, of which +2 to +8 count
  (R161), oldest first. Reset empty. -/
  cmpStage : List (Nat × List Word)
  /-- PWM_CTL, of which cmp_src is direct, PWM_FORCE and PWM_REF as written, with the instants (R156). Reset as their
  registers (Table PWM-8). -/
  ctl : Delayed
  force : Delayed
  ref : Delayed
  /-- The on-times that compare and fraction commanded in the period just ended, in 1/64 of a count (R254). Reset 0. -/
  lastOn : Vector Nat 3
  /-- Dither phase k, 4 bits (R168, PWM_DPHASE). Reset 0. -/
  phase : Nat
  /-- Generation of the calibration table in use, and its code-to-tap maps for the lines of the three channels (R167, R169).
  Reset 0, empty. -/
  tbl : Nat
  map : Vector (List Nat) 3
  /-- Bit n: TRGn has fired in the present period (R173). Reset 0. -/
  fired : Nat
  /-- Its three channels (R155). Reset phase Hi-Z. -/
  ch : Vector Chan 3
  deriving DecidableEq, Repr

/-! ### Gate drivers (06_gate_drivers.md) -/

/-- What drives a half-bridge (Table GATE-1). -/
inductive HbCmd
  | low | high | hiz | float
  deriving DecidableEq, Repr

/-- The side of a half-bridge. -/
inductive Side
  | low | high
  deriving DecidableEq, Repr

/-- One gate of a half-bridge (R182 to R194, R214 to R217). -/
structure Gate where
  /-- The switch is driven on (R214). Reset false (R211). -/
  on : Bool
  /-- PWM clock of the latest turn-on start (R214). Reset 0. -/
  onAt : Nat
  /-- PWM clock of the latest turn-off start (R189). Reset 0. -/
  offAt : Nat
  /-- The tHSTO timer of that turn-off runs (R191). Reset false. -/
  hsto : Bool
  /-- The off comparator reports the gate above VGS_OFF (R193). Reset 0 (Table GATE-8). -/
  sensed : Bool
  /-- Sensed below VGS_OFF since the latest turn-off began, or never driven since the domain came on (R194). Reset true. -/
  fell : Bool
  /-- The plateau comparator has reported since the turn-on start (R217). Reset false. -/
  plateau : Bool
  /-- A turn-on waits for the handshake (R189). Reset false. -/
  wait : Bool
  /-- A turn-off command waits for tGMIN (R190). Reset false. -/
  offPend : Bool
  /-- The latest turn-off runs at the soft-off step (R219). Reset false. -/
  soft : Bool
  /-- The off clamp has engaged (R183). Reset false. -/
  clamp : Bool
  /-- Step code of the latest edge (R185, R187). Reset 0. -/
  step : Nat
  /-- GATE_IDRV of this gate as written, with the instants (R187). Reset 0. -/
  idrv : Delayed
  /-- PROT_DS and PROT_DG as taken at the turn-on start (R215). Reset 0. -/
  ds : Word
  dg : Word
  /-- The blanking time tDSBL has passed since the turn-on start (R215). Reset false. -/
  counts : Bool
  /-- The hard-short comparator is armed (R216). Reset false. -/
  armed : Bool
  deriving DecidableEq, Repr

/-- One half-bridge (R181 to R207, R228). -/
structure HalfB where
  hs : Gate
  ls : Gate
  /-- The command the driver follows (Table GATE-1). Reset pin float (R48, R211). -/
  cmd : HbCmd
  /-- The bootstrap supply is not locked out (GATE_STAT.bst_ok, R203). Reset 0 (Table GATE-8). -/
  bst : Bool
  /-- The present HIGH interval is blocked or was cut short by the lock-out (R203). Reset false. -/
  bstCut : Bool
  /-- The cycle-by-cycle limit holds the half-bridge until the next wrap: the command it gives (R228). Reset none. -/
  limit : Option HbCmd
  /-- A HIZ_LOCAL fault reaction holds this half-bridge (R221). Reset false. -/
  loc : Bool
  /-- Released by row 2, waiting for the wrap that returns it to the timer, with the command it keeps (R177). Reset none. -/
  back : Option HbCmd
  /-- The offset DLINE_CAL measured for the line; none: the factory trim (R170, R179). Reset none. -/
  dlcOfs : Option Word
  /-- Latest shunt-amplifier result, Q15 (R250). Reset 0. -/
  shunt : Word
  /-- Tick of the latest change of GATE_AMP.gain (R208). Reset none. -/
  ampAt : Option Nat
  deriving DecidableEq, Repr

/-! ### Banks: supplies, protection, converters, calibration, arming -/

/-- How a bank stands towards pin float (R184). -/
inductive FloatSt
  /-- output stages disabled -/
  | floating
  /-- phase Hi-Z commanded, output stages to be disabled -/
  | entering
  /-- output stages enabled, the 100 ns hold runs -/
  | leaving
  /-- output stages enabled -/
  | driven
  deriving DecidableEq, Repr

/-- One converter of a bank (R247 to R250). -/
structure Conv where
  /-- Starts that its routed source has fired and the converter has not taken yet (R57, R173). Reset 0. -/
  due : Nat
  /-- Entry of the sequence that converts now. Reset none (R280). -/
  run : Option Nat
  /-- The reserved slot at the end of a sequence converts (R249). Reset false. -/
  resv : Bool
  /-- Place in the background list (Table AXIS-2). Reset 0. -/
  bgPos : Nat
  /-- Conversions completed in a row without a completed background one (R249). Reset 0. -/
  row : Nat
  deriving DecidableEq, Repr

/-- One bank beside its registers (06, 07, 08, 15). -/
structure Bank where
  /-- The bank is armed (BANK_ARMSTAT.armed). Reset 0 (R48). -/
  armed : Bool
  /-- Tick of a 0x00A5 that awaits its 0x005A (BANK_ARMSTAT[14], R457). Reset none. -/
  prep : Option Nat
  /-- BANK_ARMSTAT.cause (R457, R458). Reset 0. -/
  cause : Nat
  /-- Reset floating (R48, R211). -/
  flt : FloatSt
  /-- PWM clock at which the float condition arose or ended (R184). Reset 0. -/
  fltAt : Nat
  /-- VDRV_b and VCP_b above their rising thresholds (GSUP_STAT, R199). Reset 0 (Table GATE-7). -/
  vdrvOk : Bool
  vcpOk : Bool
  /-- They have risen since the domain came on, so that their lock-outs are armed (R199). Reset false. -/
  vdrvSeen : Bool
  vcpSeen : Bool
  /-- The latched lock-outs in force (R200, R201). Reset false. -/
  vdrvLock : Bool
  vcpLock : Bool
  /-- PROT_BSTAT.trip_in: TRIP_b recognised now (R226). Reset 0. -/
  tripIn : Bool
  /-- Row 2 causes in force: TRIP_b, VOV2, OTS, ESTOP_N, a device-wide reaction, die-link loss, hand-over (R233). Reset false. -/
  trip : Bool
  vov2 : Bool
  ots : Bool
  estop : Bool
  dev : Bool
  die : Bool
  hand : Bool
  /-- VM_b above VOV1_ON now (PROT_BSTAT.vov1), and below VOV1_OFF now (R229). Reset 0. -/
  vov1 : Bool
  vmLow : Bool
  /-- PROT_BSTAT.chop, the tick since which it is on, and whether its CHOP_LONG has been reported (R231). Reset 0. -/
  chop : Bool
  chopAt : Nat
  chopLong : Bool
  /-- VOV1_ON, VOV1_OFF and VOV2 codes in use (R229). Reset as their registers. -/
  vovOn : Word
  vovOff : Word
  vov2c : Word
  /-- PROT_TEMP is above PROT_OTW (Over-temperature). Reset false. -/
  warm : Bool
  /-- Blanking windows, open or of late: start and end in PWM clocks, oldest first (R227). Reset empty. -/
  blank : List (Nat × Nat)
  /-- DLC_STAT.valid and gen, tick of the last good table (R169, R178). Reset 0 (Table PWM-10). -/
  dlcValid : Bool
  dlcGen : Nat
  dlcAt : Nat
  /-- The code-to-tap maps of the nine live lines in the latest good table (R169). Reset empty. -/
  dlcMap : Vector (List Nat) 9
  /-- Tick of the latest calibration cycle since the domain came on (R169). Reset none. -/
  dlcCyc : Option Nat
  /-- Latest VM_b result, Q15 of 60 V (R250). Reset 0. -/
  vmRaw : Word
  /-- The converter fault stands, with the consecutive internal-reference results outside and inside their range (R453).
  Reset false, 0. -/
  convFlt : Bool
  refBad : Nat
  refGood : Nat
  /-- SHUNT_CAL: the sum and the number of the results of the channel it takes now (R272). Reset 0. -/
  calSum : Int
  calCnt : Nat
  /-- The driver die holds the bank under the hand-over hold, until this tick (R372). Reset none. -/
  hold : Option Nat
  /-- Its three converters (R247). Reset idle. -/
  conv : Vector Conv 3
  deriving DecidableEq, Repr

/-! ### Axes (08_axes.md) -/

/-- Axis states (AX_STAT.state, Table AXIS-8). -/
inductive AxSt
  | stopped | saliency | align | ramp | run | retryWait | ident
  deriving DecidableEq, Repr

/-- Causes of a stop (AX_STAT.cause, Table AXIS-8). -/
inductive AxCause
  | none | host | startFail | stall | hall | enc | adc | fault | phaseLost | disarm | safe | config
  deriving DecidableEq, Repr

/-- The fault reaction an axis is held in (Table PROT-2, PROT_AXSTAT.act). -/
inductive React
  | none | hiz | ascLow | ascHigh
  deriving DecidableEq, Repr

/-- The saliency step of an axis (R259): the pulse it is at (0 to 5; 6 when all are done), whether the decay after it runs, the PWM
clock at which pulse or decay began, and the peak of the first pulse. -/
structure Sal where
  idx : Nat
  low : Bool
  since : Option Nat
  peak : Nat
  deriving DecidableEq, Repr

/-- The steps of MOTOR_ID on an axis (R271): the step 0 to 3, whether its second half runs (the full test current of step 0, phase
Hi-Z of step 3), the PWM clock at which the step began and at which a voltage step began, and AX_VD as it held I_T. -/
structure Ident where
  stage : Nat
  half : Bool
  since : Option Nat
  on : Option Nat
  vd : Int
  deriving DecidableEq, Repr

/-- One axis, slot j of bank b, beside its registers (R242 to R280) and its fault reaction (R221). -/
structure Axis where
  /-- AX_STAT.state and cause. Reset STOPPED, NONE (R280). -/
  st : AxSt
  cause : AxCause
  /-- AX_STAT.retries, 3 bits (R257, R261). Reset 0. -/
  retries : Nat
  /-- last_dir: 0 NONE, 1 forward, -1 reverse (R263). Reset NONE (R280). -/
  lastDir : Int
  /-- zero_time in PWM clocks (R263). Reset 0. -/
  zeroT : Nat
  /-- The reference, in 1/16 rpm divided by 2·10^8, so that ACC·Δt is exact (R263). Reset 0. -/
  ref : Int
  /-- The target in 1/16 rpm (R263). Reset 0. -/
  tgt : Int
  /-- stopping of Table AXIS-4; AX_STAT.dwell, stall, ilim, hand. Reset 0 (Table AXIS-8). -/
  stopping : Bool
  dwell : Bool
  stall : Bool
  ilim : Bool
  hand : Bool
  /-- Tick at which the present state was entered, and since which the axis is in RUN without a break (R257). Reset 0. -/
  since : Nat
  runAt : Nat
  /-- Engine loop ticks that its routed source has fired and the engine has not taken yet (R57, R173). Reset 0. -/
  tickDue : Nat
  /-- Routed ticks since the last current step, current steps since the last speed step (R242). Reset 0. -/
  loopCnt : Nat
  spdCnt : Nat
  /-- PWM clocks of the last current and speed steps (R243, R263). Reset none (R280). -/
  lastCur : Option Nat
  lastSpd : Option Nat
  /-- Integrators of the id, iq or six-step, and speed loops, and of the three channel loops (R256). Reset 0 (R280). -/
  iD : Int
  iQ : Int
  iS : Int
  iC : Vector Int 3
  /-- The I/f speed, in the unit of `ref` (R259). Reset 0. -/
  ifs : Int
  /-- The current reference of the speed loop in Q15, and the angle held in RUN with ref = 0 (R256, R264). Reset 0. -/
  iref : Int
  holdAng : Rat
  /-- The angle of the I/f drive, of ALIGN or of the present source, in 1/65,536 electrical turn (R254, R259). Reset 0. -/
  ang : Rat
  /-- The present sector, 0 to 5, of the six-step and Hall modes (R251, R253). Reset 0. -/
  sector : Nat
  /-- Direction of the latest commutation edge: 1 forward, -1 reverse, 0 none yet (R255). Reset 0. -/
  edgeDir : Int
  /-- Consecutive filtered Hall readings of 0 or 7 (R276). Reset 0. -/
  hallBad : Nat
  /-- Ticks of the latest commutation edges, newest first, at most 6 (R255). Reset empty. -/
  edges : List Nat
  /-- The first index edge has come (R252). Reset false. -/
  encIdx : Bool
  /-- Encoder counts since the domain came on, not wrapped, and their values at the latest speed steps with the PWM clocks,
  newest first, at most 9 (R255). Reset 0, empty. -/
  encTot : Int
  encHist : List (Int × Nat)
  /-- Consecutive stale current steps, and whether a shunt result has completed since the last step (R250, R277). Reset 0. -/
  stale : Nat
  gotShunt : Bool
  /-- Tick of the latest Hall, zero-crossing or encoder edge (R265). Reset 0. -/
  edgeAt : Nat
  /-- SIX_STEP_BEMF: the sector in which the latest zero crossing came (R253). Reset 0. -/
  edgeSec : Nat
  /-- Ticks since which |ref| exceeds AX_NMIN and the conf and err criteria hold (R265), and the sum of the phase currents exceeds SAFE_PLTHR (R452). Reset none. -/
  nminAt : Option Nat
  confAt : Option Nat
  errAt : Option Nat
  plAt : Option Nat
  /-- Electrical angle run at the I/f speed while the handover condition has held, in 1/65,536 turn (R260). Reset none. -/
  handAcc : Option Rat
  /-- Whether a commutation edge came in each of the last 8 sectors, newest first, and in the present one (R260). Reset empty, false. -/
  conf8 : List Bool
  edgeIn : Bool
  /-- SIX_STEP_BEMF: tick at which the present sector began, its predecessor's duration, the tick at which the next
  one begins once its crossing has come (R253). Reset 0, none. -/
  secAt : Nat
  secDur : Nat
  nextSec : Option Nat
  /-- The fault reaction in force (Table PROT-2). Reset none (R240). -/
  react : React
  /-- Side of an ASC that another row 2 cause closes (R222). Reset none. -/
  safeSide : Option Side
  /-- The plausibility safe state holds the axis (R452). Reset false. -/
  plaus : Bool
  /-- The axis held an ASC on its low side, by its own reaction, when VCP_b was locked out (Table PROT-6). Reset false. -/
  vcpKeep : Bool
  /-- Tick of the latest START that took the axis out of STOPPED (R208). Reset none. -/
  startAt : Option Nat
  /-- The saliency step and the steps of MOTOR_ID under way (R259, R271). Reset at their beginnings. -/
  sal : Sal
  ident : Ident
  /-- MOTOR_ID has ended: at the next current step the axis takes its hold state and then STOPPED, with this cause (R271,
  Table AXIS-4). Reset none. -/
  parked : Option AxCause
  /-- The previous current step was in RAMP or RUN, its tick and its AX_ANGLE (R318). Reset false, 0. -/
  prevRun : Bool
  prevTick : Nat
  prevAng : Word
  deriving DecidableEq, Repr

/-! ### Ground motion and schedule (09_ground_motion_sections.md) -/

/-- A sample: its stamp and its value (R283). -/
structure Sample where
  t : Nat
  v : Rat
  deriving DecidableEq, Repr

/-- One wheel channel (R284 to R286). -/
structure Wheel where
  /-- Accepted counts, signed; FUS_WHL_CNT is this modulo 2^32 (R284). Reset 0. -/
  cnt : Int
  /-- Accepted counts with their ticks, newest first, as far back as the interpolation of R294 looks. Reset empty. -/
  log : List (Nat × Int)
  /-- Tick of the last accepted count, the interval that ended there and its sign (R285). Reset none, 0, 0. -/
  last : Option Nat
  iLast : Rat
  sgn : Int
  /-- The last accepted intervals, at most 4 (R286). Reset empty (R315: n_hist = 0). -/
  hist : List Rat
  deriving DecidableEq, Repr

/-- A source as it was fused at t_k: its index in Table MOTION-3, its weight, its distance at t_k in counts for a wheel or its speed (R299). -/
structure Fused where
  x : Nat
  w : Nat
  d : Rat
  deriving DecidableEq, Repr

/-- Fusion beside its registers (R282 to R299). -/
structure Fusion where
  wheels : Vector Wheel 4
  /-- Samples, newest first: GNSS speed and course, IMU yaw rate and longitudinal acceleration, host speed and yaw rate (R288 to R292). Reset empty. -/
  gnss : List Sample
  course : List Sample
  imuYaw : List Sample
  imuAcc : List Sample
  hostV : List Sample
  hostYaw : List Sample
  /-- SENT angle samples (R291). Reset empty. -/
  sent : Vector (List Sample) 2
  /-- Length of the previous calibration pulse of each SENT input in 10 ns (R291). Reset none. -/
  sentCal : Vector (Option Nat) 2
  /-- Tick of "$" and stamp of the last RMC or GGA (R289). Reset none. -/
  lastFix : Option (Nat × Nat)
  /-- A running inertial sequence: its stamp (R290). Reset none. -/
  imu : Option Nat
  /-- The latest fusion instant published (R293). Reset none. -/
  tk : Option Nat
  /-- The next fusion instant, and E and D it is published with (R293). Reset 0, 2, 5 (FUS_EPOCH). -/
  next : Nat
  epoch : Nat
  delay : Nat
  /-- Writes of FUS_EPOCH still to take effect, oldest first: the instant of the old setting at which each does, and its
  value (R293). Reset empty. -/
  newSet : List (Nat × Word)
  /-- s_k in 1/256 mm (R295). Reset 0 (R315). -/
  s : Int
  /-- v_k in mm/s before rounding (R295). Reset 0. -/
  v : Rat
  /-- a_k in mm/s² and ω_k in 0.01 °/s before rounding (R295, R297). Reset 0. -/
  a : Rat
  yaw : Rat
  /-- The heading in 1/65,536 turn before rounding (R297). Reset 0. -/
  hdg : Rat
  /-- A GNSS course correction has been made since D_FUS came on (Table MOTION-3). Reset false. -/
  hdgValid : Bool
  /-- The fused direction is reverse (R296). Reset false. -/
  rev : Bool
  /-- The sources fused at t_k (R299). Reset empty. -/
  fused : List Fused
  /-- Quality word of the latest publication (Table MOTION-3). Reset 0. -/
  qual : Word
  /-- Speeds of the sources at the previous instant, by index (R295). Reset empty. -/
  prevV : List (Nat × Rat)
  /-- FUS_ANGLE_0 at the previous instant, if it was fresh (R297). Reset none. -/
  prevAngle : Option Rat
  /-- Wheel distances at the previous instant, in counts (R295). Reset empty. -/
  prevD : List (Nat × Rat)
  /-- D_FUS has been on since the last reset: when it comes on again FUS_STAT.s_gap is set (R314). Reset false (R315). -/
  ran : Bool
  deriving DecidableEq, Repr

/-- State of one target of an entry (Table MOTION-6). -/
inductive TgtSt
  /-- with the time predicted at the latest publication, in ticks (R304) -/
  | pending (pred : Option Rat)
  | committed (at' : Nat)
  | late (at' : Nat)
  | fired
  deriving DecidableEq, Repr

/-- One schedule entry (R302). -/
structure Entry where
  act : Nat
  value : Word
  s : Nat
  /-- The named targets in rising order with their states. -/
  tgts : List (Nat × TgtSt)
  deriving DecidableEq, Repr

/-- The schedule queue (R300 to R309). -/
structure Sched where
  /-- The held entries by index, rising, at most 256 (R302). Reset empty (R315). -/
  q : List (Nat × Entry)
  /-- Indices that changed since their last record in a mirror frame, oldest first (R426). Reset empty. -/
  dirty : List Nat
  deriving DecidableEq, Repr

/-! ### Seed drop association (10_drop_association.md) -/

/-- One expected or observed event: its time and its carry mark (R322, R326). -/
structure Drop where
  t : Nat
  carried : Bool
  deriving DecidableEq, Repr

/-- A queued batch with the close and gate it was built with (R322, R332, Table DROP-4). -/
structure Batch where
  tj : Nat
  gate : Nat
  exps : List Drop
  obs : List Drop
  deriving DecidableEq, Repr

/-- A row of the solver beside its registers (R317 to R339). -/
structure SolRow where
  /-- P in cells, and h (R318). Reset 0 (R319). -/
  p : Rat
  h : Int
  /-- The buffers of expected and observed events, at most 64 each (R322). Reset empty. -/
  exps : List Drop
  obs : List Drop
  /-- The latest expected events: the tick at which each was produced and its time, newest first (R328). Reset empty. -/
  made : List (Nat × Nat)
  /-- The previous resolved observed event (R328). Reset none. -/
  lastObs : Option Nat
  /-- F_r in µs (R330). Reset 100,000 (SOL_FALL × 10 µs, R338). -/
  fall : Rat
  /-- SOL_RSTAT.blocked: the run of skips has reached SOL_BLOCK.n (R331). Reset false. -/
  blocked : Bool
  /-- The batch that waits for the solver (R332). Reset none. -/
  batch : Option Batch
  /-- Window sums (R328): expected, matches, skips, extras, N_q, Σq, Σq², bins. Reset 0. -/
  wE : Nat
  wM : Nat
  wS : Nat
  wX : Nat
  wN : Nat
  wQ : Rat
  wQ2 : Rat
  wH : List Nat
  deriving DecidableEq, Repr

/-- The solver (R320, R321, R332). -/
structure Solver where
  rows : Vector SolRow 24
  /-- Stamp of the last accepted leading edge of each seed input (R320). Reset none. -/
  seeds : Vector (Option Nat) 24
  /-- Rows with a queued batch, in order of arrival (R332). Reset empty. -/
  queue : List Nat
  /-- The row whose batch is being solved, with the batch and its start in ticks (R332). Reset none. -/
  solving : Option (Nat × Batch)
  /-- The working store is being cleared (R336). Reset false. -/
  paused : Bool
  /-- The next close and the epoch in ms it belongs to (R321). Reset 0, 25. -/
  next : Nat
  epoch : Nat
  deriving DecidableEq, Repr

/-! ### Juniper image (02_juniper_image.md) -/

/-- One LIMITS entry (R61). -/
structure Limit where
  addr : Nat
  lsb : Nat
  width : Nat
  signed : Bool
  min : Word
  max : Word
  deriving DecidableEq, Repr

/-- One XBAR route: destination kind and index, source kind and index (R57). -/
structure Route where
  dk : Nat
  di : Nat
  sk : Nat
  si : Nat
  deriving DecidableEq, Repr

/-- One slot as AXIS_CFG and the slot map give it (Tables MAP-13, IMG-6). -/
structure SlotCfg where
  type : Nat
  count : Nat
  reaction : Nat
  hold : Nat
  safe : Nat
  deriving DecidableEq, Repr

/-- One DRIVE_RANGE entry (R55). -/
structure DriveCfg where
  srcMax : Nat
  srcMin : Nat
  snkMax : Nat
  snkMin : Nat
  soft : Nat
  deriving DecidableEq, Repr

/-- What an image fixes for one bank (R53 to R57, R61, R62, R66). -/
structure BankCfg where
  slotmap : Word
  hbmap : List Word
  supply : Nat
  hires : Nat
  hsto : Nat
  slots : List SlotCfg
  vov2 : Nat
  brk : Nat
  drive : List DriveCfg
  /-- The converter entry lists n0, n1 and n2 long (R56). -/
  conv : List (List Nat)
  /-- The XBAR routes of the bank (R57). -/
  routes : List Route
  /-- Its LIMITS entries (R61). -/
  limits : List Limit
  /-- Its image-locked fields that are open, by address and mask (R62). -/
  opens : List (Nat × Word)
  /-- Its PRESET words, by address (R66). -/
  presets : List (Nat × Word)
  deriving DecidableEq, Repr

/-- One IMU_SEQ step (R59). -/
structure ImuStep where
  tx : Nat
  rxLen : Nat
  dest : Nat
  scale : Int
  offset : Int
  deriving DecidableEq, Repr

/-- IMU_SEQ (R59). -/
structure ImuCfg where
  mode : Nat
  div : Nat
  trig : Nat
  steps : List ImuStep
  deriving DecidableEq, Repr

/-- The internal form of an active whole image, with the bank images laid over it (R49 to R66, R72, R75). -/
structure ImageCfg where
  id : Nat
  ver : Nat
  len : Nat
  crc : Nat
  seeding : Bool
  banks : List BankCfg
  routes : List Route
  limits : List Limit
  opens : List (Nat × Word)
  presets : List (Nat × Word)
  /-- FUSION_CFG bytes 0 to 8 (R58). -/
  fus : List Nat
  /-- IMU_SEQ, where the image has one (R59). -/
  imu : Option ImuCfg
  /-- SOLVER_CFG: seed input and meter axis of each row (R60). -/
  rows : List (Nat × Nat)
  /-- PIN_ALT selections, group and alternate (R63, R474). -/
  pinAlt : List (Nat × Nat)
  /-- Size P of the protected partition, and the bank that the direct drive port commands, where it is enabled. -/
  recP : Nat
  ddpEn : Bool
  ddpBank : Nat
  deriving DecidableEq, Repr

/-- What a load has staged: a whole image, or one bank of it with its tag (R72, R75). -/
inductive Staged
  | whole (c : ImageCfg)
  | bank (b : Nat) (c : BankCfg) (tag : Word)
  deriving DecidableEq, Repr

/-- A running image-class load (R70 to R79, R89): the ticket slot it belongs to (none for the boot load), source, destination and progress. -/
structure Load where
  slot : Option Nat
  src : Nat
  dest : Nat
  /-- Checks 1 to 15 have passed: what is staged, and whether its bank staging runs (IMG_STATUS STAGING). -/
  staged : Option Staged
  /-- Boot load: the second slot is being tried, and the code of the first rejection (R89). -/
  second : Option Nat
  /-- Slot write: sectors erased and bytes programmed so far (R79, R406). -/
  erased : Nat
  done : Nat
  /-- The bytes to be written (R79). -/
  bytes : List Byte
  /-- Length and stored CRC-32 of the image that has passed its checks (Table HOST-7). -/
  len : Nat
  crc : Nat
  /-- A read-back of the slot write has not matched (R79). -/
  bad : Bool
  /-- An abort has stopped the slot write; the erase of the slot's first sector is still to come (R142). -/
  stopping : Bool
  deriving DecidableEq, Repr

/-- State of the key slot (IMG_KEYSTAT.state). -/
inductive KeySt
  | blank | programmed | damaged
  deriving DecidableEq, Repr

/-- The image function beside its registers (R49 to R89). -/
structure Img where
  /-- The active image (R72). Reset none (R48). -/
  active : Option ImageCfg
  /-- IMG_STATUS.src, fallback and bank_img. Reset 0 (Table IMG-12). -/
  src : Nat
  fallback : Bool
  bankImg : BitVec 8
  /-- The load window, 131,072 bytes (R81): bytes that differ from 0. Reset empty. -/
  window : List Host.Cell
  /-- The image-class load that runs (R70, R89). Reset none. -/
  load : Option Load
  /-- A whole image has been swapped in since the last scrub failure (Table SAFE-4). Reset false. -/
  swapped : Bool
  /-- State of the key slot (R80). Reset BLANK (one-time-programmable, not set by a reset). -/
  keySt : KeySt
  /-- Its bytes k0 to k31. Reset empty. -/
  key : List Byte
  /-- Words written to IMG_KEYDATA since reset or the last sequence, at most 17 kept (R80). Reset empty. -/
  keyWords : List Word
  /-- 0x00C3 was the last write to IMG_KEYCMD (R80). Reset false. -/
  keyArm : Bool
  /-- Programming and verification run in AON (R80). Reset false. -/
  keyRun : Bool
  deriving DecidableEq, Repr

/-! ### Supplies and hold-up (12_supplies_holdup.md) -/

/-- States of the hold-up manager (Table PWR-3). -/
inductive PwrSt
  | main | critical | flush | hold | backup | down
  deriving DecidableEq, Repr

/-- The hold-up manager and the switched domains beside their registers (R364 to R386). -/
structure Pwr where
  st : PwrSt
  /-- Tick t0 of the hand-over (R366). Reset 0. -/
  t0 : Nat
  /-- Steps of Table PWR-2 taken, 0 to 5 (R371). Reset 0. -/
  step : Nat
  /-- The dwell's start, while it runs (R375). Reset none. -/
  dwell : Option Nat
  /-- VMAIN at or above VMAIN_OK (PWR_STAT[7]); VIO above VIO_UV, and the tick since which. After reset release true (R482). -/
  vmainOk : Bool
  vioOk : Bool
  vioAt : Nat
  /-- PWR_STAT.vio_ok has been judged since the AON power-on: until the first tick the bit shows its reset value 0 (Table PWR-7).
  Reset false. -/
  vioSeen : Bool
  /-- The PWR_RESTORE of a warm restart is still to be raised (R377). Reset false. -/
  restore : Bool
  /-- VMAIN has reached VMAIN_OK since t0 or the previous bounce (R376). Reset false. -/
  bounceArm : Bool
  /-- Bounces of this hand-over, saturated (R376, R382). Reset 0. -/
  bounces : Nat
  /-- PWR_STAT.hlow and VBAK below PWR_VBAKLOW (R380). Reset 0 (Table PWR-7). -/
  hlow : Bool
  vbakLow : Bool
  /-- VBAK_LOW is armed: VBAK has been 50 mV above the threshold since the last one (R380). Reset true. -/
  vbakArm : Bool
  /-- PWR_STAT.charger on (R381). Reset 0. -/
  charger : Bool
  /-- AON and CORE run from VBAK (R371). Reset false. -/
  onVbak : Bool
  /-- CORE is powered (R376, Table PWR-3). Reset true. -/
  core : Bool
  /-- Domains on, 12 bits in the order of Table EVT-3 (PWR_DOM_STAT). Reset 0 (R48). -/
  on : BitVec 12
  /-- The running switch-on sequence: domains and the ticks of their starts (R367). Reset empty. -/
  starts : List (Nat × Nat)
  /-- The domain starts already done in that sequence (DOMAIN_START), by domain. Reset empty. -/
  begun : List Nat
  /-- The flush of the latest hand-over has ended (R374). Reset true. -/
  flushed : Bool
  /-- A request changed while a sequence ran (R370). Reset false. -/
  changed : Bool
  /-- Cause of the DOMAIN_SW to be raised when the requested set is reached. Reset 0. -/
  swCause : Nat
  deriving DecidableEq, Repr

/-! ### Journal store (13_journal_store.md) -/

/-- STORE_WRES.state (Table STORE-4). -/
inductive WState
  | none | pending | busy | deferred | committed | failed
  deriving DecidableEq, Repr

/-- An event record in the journal queue (R397): its words 0 to 6, its place of arrival, its state as in Table STORE-4, the
record sequence number and word 7 it was first programmed with, whether its COMMIT_DEFER has been raised (R399) and whether
one append of it has failed (R412). -/
structure JEvent where
  words : List Word
  order : Nat
  st : WState
  put : Option (Nat × Word)
  told : Bool
  tried : Bool
  deriving DecidableEq, Repr

/-- The loaded host stage: key, payload (empty for a tombstone), its record sequence number, its place of arrival (R393),
and the two marks as for an event record. -/
structure HostStage where
  key : Nat
  words : List Word
  seq : Nat
  order : Nat
  told : Bool
  tried : Bool
  deriving DecidableEq, Repr

/-- A burst in progress, to be verified by PROGRAM_BURST_DONE (R400). `marker` is the byte address of the marker that follows
the burst, or none while the marker itself is the burst. -/
inductive Burst
  /-- an event record or the host record -/
  | record (host : Bool) (sector : Nat) (marker : Option Nat)
  /-- a sector header, for an append or for a compaction step -/
  | header (sector : Nat) (comp : Bool) (marker : Option Nat)
  /-- a compaction copy -/
  | copy (sector : Nat) (marker : Option Nat)
  /-- the release marker of the victim -/
  | release (victim : Nat)
  deriving DecidableEq, Repr

/-- Why a compaction step runs: background compaction, the operation COMPACT, an exhausted space (R402, R403), or a sector that
the mount has marked for erase (R405). -/
inductive CompWhy
  | background | operation | exhausted | cleanup
  deriving DecidableEq, Repr

/-- A running compaction step (R401): the victim, the byte offsets of the records still to be copied, whether the victim is
released, whether its erase runs. -/
structure Comp where
  victim : Nat
  todo : List Nat
  released : Bool
  erasing : Bool
  why : CompWhy
  /-- The record that is copied now has failed its read-back once (R412). -/
  tried : Bool
  deriving DecidableEq, Repr

/-- The store controller beside its registers (R387 to R414). -/
structure Store where
  /-- The 1 MiB array: bytes that do not read erased (0xFF), addresses rising (R387). Reset empty (an erased array). -/
  mem : List Host.Cell
  /-- The mount runs (STORE_STAT MOUNT). Reset true (R405, R413). -/
  mounting : Bool
  /-- Head sector and the byte at which its next record goes (R398). Reset none. -/
  head : Option Nat
  pos : Nat
  /-- Next record sequence number and next sector sequence number, 32 bits (R391, R398). Reset 0. -/
  seq : Nat
  secSeq : Nat
  /-- Erase counts of the journal sectors 64 to 223 (R398, R405). Reset 0. -/
  wear : Vector Nat 160
  /-- Sectors marked for erase and sectors retired until the next mount (R405, R412). Reset empty. -/
  toErase : List Nat
  retired : List Nat
  /-- The head is sealed: the next append opens a fresh sector (R405, R412). Reset false. -/
  sealed : Bool
  /-- STORE_WRES.state (R394). Reset none. -/
  wst : WState
  /-- STORE_WRES.refusal and key. Reset 0. -/
  refusal : Nat
  wkey : Nat
  /-- The host stage (R393). Reset none. -/
  stage : Option HostStage
  /-- The journal queue, at most 32 (R397). Reset empty. -/
  jq : List JEvent
  /-- The arrival counter of queue and stage (R398). Reset 0. -/
  order : Nat
  /-- Event records lost since the previous event record was committed (word 7, R397). Reset 0. -/
  lost : Nat
  /-- A raising has found the queue full since STORE_JLOST was last cleared: its JRNL_OVF has been raised (R397). Reset false. -/
  full : Bool
  /-- The read in progress (STORE_RD, R396) and the key of the latest read. Reset none, 0. -/
  rd : Option Nat
  rkey : Nat
  /-- The burst in progress, and whether it is a marker that waits for the energy gate (R399). Reset none, false. -/
  burst : Option Burst
  gateWait : Bool
  /-- Byte address and length of the burst last programmed (R400, R404). Reset 0, 0. -/
  span : Nat × Nat
  /-- The compaction step that runs (R401). Reset none. -/
  comp : Option Comp
  /-- Background compaction is on (STORE_STAT[10], R402). Reset false. -/
  back : Bool
  /-- Sectors copied by the running COMPACT (Table HOST-7). Reset 0. -/
  copied : Nat
  deriving DecidableEq, Repr

/-! ### Redundant pair (14_pair.md) -/

/-- Link states (PAIR_STAT.link, Table PAIR-5b). -/
inductive LinkSt
  | off | train | hello | up | lost
  deriving DecidableEq, Repr

/-- The steps of a hot takeover (Table PAIR-6). -/
inductive TakeSt
  /-- the release has been seen; PAIR_OWN_IN is being qualified -/
  | seen
  /-- the role has passed; the state commit is to come -/
  | owner
  /-- committed; no bank has left pin float yet -/
  | committed
  deriving DecidableEq, Repr

/-- The pair engine beside its registers (R415 to R442). -/
structure Pair where
  /-- Owner (PAIR_STAT.owner); false is standby (R417). Reset standby (R441). -/
  owner : Bool
  /-- State of the Clove link (Table PAIR-5b). Reset OFF. -/
  link : LinkSt
  /-- Alignment of the two receive lanes (R424). Reset false. -/
  lane0 : Bool
  lane1 : Bool
  /-- PAIR_OWN_IN, and the PWM clock since which it has read so without a break (R419, R420). Reset released. -/
  ownIn : Bool
  ownAt : Nat
  /-- PWM clock of this device's own claim, for the 10 µs of R421. Reset none. -/
  claimAt : Option Nat
  /-- PAIR_STAT.lockout, idclash and ownfault (Table PAIR-9). Reset 0. -/
  lockout : Bool
  idclash : Bool
  ownfault : Bool
  /-- A HANDOVER by the host waits (R435). Reset false. -/
  handPend : Bool
  /-- PAIR_STAT.sync, and of the partner: it is ready, and its HELLO is compatible (R425, R429). Reset 0. -/
  sync : Bool
  partnerReady : Bool
  compat : Bool
  /-- Schedule indices covered since UP, a bit each (R429). Reset 0. -/
  cover : Nat
  /-- Consecutive missed frames (R428). Reset 0. -/
  missed : Nat
  /-- End of the last good frame, or the last counted miss, in ticks (R428). Reset 0. -/
  frameAt : Nat
  /-- Tick at which the link went to LOST (R428). Reset 0. -/
  lostAt : Nat
  /-- Frame sequence number of the frames this device sends, 32 bits (R425). Reset 0. -/
  txSeq : Nat
  /-- Last MIRROR sequence sent or applied (PAIR_FSEQ). Reset 0. -/
  fseq : Nat
  /-- Next index of the round-robin of schedule records (R426). Reset 0. -/
  robin : Nat
  /-- The MIRROR, STATUS and HELLO frames last sent in a slot, with their content (R425, R426). Reset none. -/
  tx : Option Mirror
  txStatus : Option StatusFrame
  txHello : Option HelloFrame
  /-- A MIRROR frame started last at this tick (cause 8 of Table PAIR-5). Reset 0. -/
  mirrorAt : Nat
  /-- PAIR_TBOFS, 48 bits signed (R430). Reset 0. -/
  tbOfs : Nat
  /-- Causes: this device's last role change and the last release received (PAIR_LASTCAUSE). Reset 0. -/
  ownCause : Nat
  relCause : Nat
  /-- A hot takeover in progress, with the PWM clock at which the release was seen and its cause (Table PAIR-6). Reset none. -/
  take : Option TakeSt
  takeAt : Nat
  takeCause : Nat
  /-- Gate check of each bank: PWM clock since which all 18 gates sense low (R419). Reset none. -/
  gchk : Vector (Option Nat) 8
  /-- Partner banks ready (PAIR_RDY[7:0]). Reset 0. -/
  rdy : BitVec 8
  deriving DecidableEq, Repr

/-! ### Functional safety (15_safety.md) and lands (16_lands_reset.md) -/

/-- SAFE_STAT.mech (R462). -/
inductive Mech
  | testing | passed | failed
  deriving DecidableEq, Repr

/-- The safety supervisor beside its registers (R443 to R466). -/
structure Safe where
  /-- SAFE_STAT.dev. Reset 0 (R464). -/
  dev : Bool
  /-- SAFE_STAT.mech: the start-up tests run, have passed or failed (R462). Reset running. -/
  mech : Mech
  /-- Tick of the latest device-wide detection (R447), and of the reaction that stands. Reset 0. -/
  lastAt : Option Nat
  causeAt : Nat
  /-- SAFE_STAT.watchdog running; tick of the last service; the next expected value is 0x005C; a service accepted since the reaction; late already judged. Reset not running (R464). -/
  wdRun : Bool
  wdAt : Nat
  wdNext : Bool
  wdServed : Bool
  wdLate : Bool
  /-- SAFE_STAT.die_ok, 4 bits. Reset 0 (Table SAFE-7). -/
  dieOk : BitVec 4
  /-- ESTOP_N recognised active (SAFE_STAT[10]). Reset 0. -/
  estop : Bool
  deriving DecidableEq, Repr

/-- Instructions of the test port (Table LAND-9). -/
inductive TapInstr
  | extest | samplePreload | idcode | highz | clamp | bypass
  deriving DecidableEq, Repr

/-- Straps, reset sources, test port and input levels that no register holds (16_lands_reset.md). -/
structure Lands where
  /-- The strap levels at the lands (R479). Reset 10 and 0 (DESIGN CHOICE, notes/assumptions/5.md). -/
  strapBoot : Nat
  strapPair : Nat
  /-- The straps that are left open or do not hold their level in the window of R480: bits 0 and 1 BOOTSEL, bit 2 PAIR_ID. Reset none. -/
  strapOpen : BitVec 3
  /-- The straps as read at the last reset release (R479). Reset 10 and 0 (DESIGN CHOICE, notes/assumptions/5.md). -/
  bootsel : Nat
  pairId : Nat
  /-- The device is in reset (R481). Reset false. -/
  inReset : Bool
  /-- Sources that hold or held this reset: RST_N, software, test port (R481). Reset false. -/
  rstN : Bool
  sw : Bool
  tapHold : Bool
  /-- A reset waits that R383 defers until the flush ends. Reset false. -/
  deferred : Bool
  /-- SYS_BOOT.swrst and tap. Reset 0. -/
  lastSw : Bool
  lastTap : Bool
  /-- The kind of start that the reset in force, or the last one, reports (Table LAND-8). Reset 0. -/
  start : Nat
  /-- The instruction of the test port (Table LAND-9). Reset IDCODE. -/
  tap : TapInstr
  /-- Boundary cells captured and preloaded, as the TAP last shifted them (R484). Reset 0. -/
  boundary : Nat
  /-- Word last shifted out on TDO (R484). Reset 0. -/
  tdo : Nat
  /-- DDP PULSE and ENABLE inputs after their filters, 9 bits each (R204). Reset 0. -/
  ddpPul : BitVec 9
  ddpEn : BitVec 9
  /-- HALL(3a) to HALL(3a+2) of axis a, bit 0 HALL(3a), and WHLnA and WHLnB in bits 2n and 2n + 1, after their filters (R251, R252,
  R284). Reset high, since an open input has a pull-up (R251, R283; DEDUCED, notes/assumptions/33.md). -/
  hall : Vector (BitVec 3) 24
  whl : BitVec 8
  /-- The level of PPS (R97). Reset low, since an open input has a pull-down (R475; DEDUCED, notes/assumptions/33.md). -/
  pps : Bool
  /-- PWM clock of the last pulse of each TRGO land (Table LAND-5). Reset none. -/
  trgo : Vector (Option Nat) 4
  deriving DecidableEq, Repr

/-! ### Outcomes -/

/-- Why a command ends in a fault. No command of this device does: the spec gives every row of the table its effect, and
a command whose condition does not hold leaves the state as it is (notes/assumptions/2.md). Safe. -/
inductive Fault
  deriving DecidableEq, Repr

/-- Why a command is refused. -/
inductive Refusal
  /-- Raised by an arm of `exec` whose meaning has not been written. Safe: the machine stops. -/
  | notModelled (mnemonic : String)
  deriving DecidableEq, Repr

/-! ### The device -/

/-- The state of the device (R20 to R24 and every chapter). -/
structure State where
  /-- The commands that wait, first in first out (the model's own). Reset empty. -/
  pending : List Instr
  /-- The register words that do not hold their reset value, by address, addresses rising (R12, R15). Reset empty. -/
  regs : List (Nat × Word)
  /-- The model's own counter: the place of the next free value in the functions of Config. Reset 0 (DESIGN CHOICE, notes/assumptions/4.md). -/
  free : Nat
  /-- W1C flag bits set in the present tick, by address: a clear does not reach them (R224, R342, R452). Reset empty. -/
  fresh : List (Nat × Word)
  /-- The blocks of the device, each with its own reset. -/
  clk : Clk
  link : Link
  ops : Ops
  can : Vector Can 2
  rcd : Recorder
  tim : Vector Timer 24
  hb : Vector HalfB 72
  bank : Vector Bank 8
  ax : Vector Axis 24
  fus : Fusion
  sched : Sched
  sol : Solver
  img : Img
  pwr : Pwr
  store : Store
  pair : Pair
  safe : Safe
  lands : Lands
  deriving DecidableEq, Repr

/-! ### The state after reset -/

def Clk.reset : Clk :=
  { ticks := 0, sec := 0, usec := 0, k := 0, bndPrev := 0, n := 1000000, bndNow := false, pps := .off, ppsN := 0, lastEdge := 0,
    applyPend := false, utcValid := false, degraded := false, tickRc := false, refOk := true, coreOk := true,
    pllLock := true, lockHeld := true, lowdrive := false, lastBad := 0, lastBadAny := 0 }

def Link.reset : Link := { miso := [], latch := [], stage := [] }

def OpRes.reset : OpRes := { valid := false, tag := 0, val := 0 }

def OpSlot.reset : OpSlot :=
  { st := .free, op := 0, gen := 0, params := [], progress := 0, fail := 0, npart := 0, since := 0, started := 0,
    deferred := 0, abort := none, work := 0, res := Vector.replicate 8 OpRes.reset }

def Ops.reset : Ops := { slots := Vector.replicate 8 OpSlot.reset, order := [], gen := 0 }

def Can.reset : Can :=
  { st := .active, sync := false, recErr := 0, txErr := 0, pend := 0, since := Vector.replicate 32 0, abort := 0,
    bus := none, recovering := false, timing := [0x0E09, 0x0303, 0x1200, 0x0404, 0x0014] }

def Recorder.reset : Recorder :=
  { p := 0, slots := [], seq := 0, head1 := 0, lastG := none, lastP := none, due := [], fifo := [], frozen := false,
    freezePend := false, draining := false, frozeAt := 0, thaw := none, drained := 0, wrote := 0, ovf := false }

def Chan.reset : Chan :=
  { cmd := .hiz, fallAt := none, taps := 0, tap := 0, refEnd := none, after := .hiz, refCnt := 8, kept := .hiz, force := 0,
    above := true }

def Timer.reset : Timer :=
  { run := false, stopping := false, startAt := none, base := 0, act := Vector.replicate 16 0, stage := none,
    cmpStage := [], ctl := ⟨0, []⟩, force := ⟨0, []⟩, ref := ⟨0x0728, []⟩, lastOn := Vector.replicate 3 0, phase := 0, tbl := 0,
    map := Vector.replicate 3 [], fired := 0, ch := Vector.replicate 3 Chan.reset }

def Gate.reset : Gate :=
  { on := false, onAt := 0, offAt := 0, hsto := false, sensed := false, fell := true, plateau := false, wait := false,
    offPend := false, soft := false, clamp := false, step := 0, idrv := ⟨0, []⟩, ds := 0, dg := 0,
    counts := false, armed := false }

def HalfB.reset : HalfB :=
  { hs := Gate.reset, ls := Gate.reset, cmd := .float, bst := false, bstCut := false, limit := none, loc := false,
    back := none, dlcOfs := none, shunt := 0, ampAt := none }

def Conv.reset : Conv := { due := 0, run := none, resv := false, bgPos := 0, row := 0 }

def Bank.reset : Bank :=
  { armed := false, prep := none, cause := 0, flt := .floating, fltAt := 0, vdrvOk := false, vcpOk := false,
    vdrvSeen := false, vcpSeen := false, vdrvLock := false, vcpLock := false, tripIn := false, trip := false,
    vov2 := false, ots := false, estop := false, dev := false, die := false, hand := false, vov1 := false, vmLow := false,
    chop := false, chopAt := 0, chopLong := false, vovOn := 0xB8, vovOff := 0xB0,
    vov2c := 0xD0, warm := false, blank := [], dlcValid := false, dlcGen := 0, dlcAt := 0, dlcMap := Vector.replicate 9 [], dlcCyc := none,
    vmRaw := 0, convFlt := false, refBad := 0, refGood := 0, calSum := 0, calCnt := 0, hold := none, conv := Vector.replicate 3 Conv.reset }

def Sal.reset : Sal := { idx := 0, low := false, since := none, peak := 0 }

def Ident.reset : Ident := { stage := 0, half := false, since := none, on := none, vd := 0 }

def Axis.reset : Axis :=
  { st := .stopped, cause := .none, retries := 0, lastDir := 0, zeroT := 0, ref := 0, tgt := 0, stopping := false,
    dwell := false, stall := false, ilim := false, hand := false, since := 0, runAt := 0, tickDue := 0, loopCnt := 0, spdCnt := 0,
    lastCur := none, lastSpd := none, iD := 0, iQ := 0, iS := 0, iC := Vector.replicate 3 0, ifs := 0, iref := 0, holdAng := 0, ang := 0,
    sector := 0, edgeDir := 0, hallBad := 0, edges := [], encIdx := false, encTot := 0, encHist := [], stale := 0, gotShunt := false,
    edgeAt := 0, edgeSec := 0, nminAt := none, confAt := none, errAt := none, plAt := none, handAcc := none, conf8 := [], edgeIn := false, secAt := 0, secDur := 0,
    nextSec := none, react := .none, safeSide := none, plaus := false, vcpKeep := false, startAt := none, sal := Sal.reset, ident := Ident.reset, parked := none, prevRun := false, prevTick := 0,
    prevAng := 0 }

def Wheel.reset : Wheel := { cnt := 0, log := [], last := none, iLast := 0, sgn := 0, hist := [] }

def Fusion.reset : Fusion :=
  { wheels := Vector.replicate 4 Wheel.reset, gnss := [], course := [], imuYaw := [], imuAcc := [], hostV := [],
    hostYaw := [], sent := Vector.replicate 2 [], sentCal := Vector.replicate 2 none, lastFix := none, imu := none,
    tk := none, next := 0, epoch := 2, delay := 5, newSet := [], s := 0, v := 0, a := 0, yaw := 0, hdg := 0,
    hdgValid := false, rev := false, fused := [], qual := 0, prevV := [], prevAngle := none, prevD := [], ran := false }

def Sched.reset : Sched := { q := [], dirty := [] }

def SolRow.reset : SolRow :=
  { p := 0, h := 0, exps := [], obs := [], made := [], lastObs := none, fall := 100000, blocked := false, batch := none,
    wE := 0, wM := 0, wS := 0, wX := 0, wN := 0, wQ := 0, wQ2 := 0, wH := List.replicate 16 0 }

def Solver.reset : Solver :=
  { rows := Vector.replicate 24 SolRow.reset, seeds := Vector.replicate 24 none, queue := [], solving := none,
    paused := false, next := 0, epoch := 25 }

def Img.reset : Img :=
  { active := none, src := 0, fallback := false, bankImg := 0, window := [], load := none, swapped := false,
    keySt := .blank, key := [], keyWords := [], keyArm := false, keyRun := false }

def Pwr.reset : Pwr :=
  { st := .main, t0 := 0, step := 0, dwell := none, vmainOk := true, vioOk := true, vioAt := 0, vioSeen := false, restore := false, bounceArm := false,
    bounces := 0, hlow := false, vbakLow := false, vbakArm := true, charger := false, onVbak := false, core := true,
    on := 0, starts := [], begun := [], flushed := true, changed := false, swCause := 0 }

def Store.reset : Store :=
  { mem := [], mounting := true, head := none, pos := 0, seq := 0, secSeq := 0, wear := Vector.replicate 160 0,
    toErase := [], retired := [], sealed := false, wst := .none, refusal := 0, wkey := 0, stage := none, jq := [],
    order := 0, lost := 0, full := false, rd := none, rkey := 0, burst := none, gateWait := false, span := (0, 0), comp := none,
    back := false, copied := 0 }

def Pair.reset : Pair :=
  { owner := false, link := .off, lane0 := false, lane1 := false, ownIn := false, ownAt := 0, claimAt := none,
    lockout := false, idclash := false, ownfault := false, handPend := false, sync := false, partnerReady := false,
    compat := false, cover := 0, missed := 0, frameAt := 0, lostAt := 0, txSeq := 0, fseq := 0, robin := 0, tx := none,
    txStatus := none, txHello := none,
    mirrorAt := 0, tbOfs := 0, ownCause := 0, relCause := 0, take := none, takeAt := 0, takeCause := 0,
    gchk := Vector.replicate 8 none, rdy := 0 }

def Safe.reset : Safe :=
  { dev := false, mech := .testing, lastAt := none, causeAt := 0, wdRun := false, wdAt := 0, wdNext := false, wdServed := false,
    wdLate := false, dieOk := 0, estop := false }

def Lands.reset : Lands :=
  { strapBoot := 2, strapPair := 0, strapOpen := 0, bootsel := 2, pairId := 0, inReset := false, rstN := false, sw := false,
    tapHold := false, deferred := false, lastSw := false, lastTap := false, start := 0, tap := .idcode, boundary := 0,
    tdo := 0, ddpPul := 0, ddpEn := 0, hall := Vector.replicate 24 7, whl := 0xFF, pps := false,
    trgo := Vector.replicate 4 none }

/-- The device right after the reset release that ends an AON power-on (R113, R152, R179, R211, R240, R280, R315, R338,
R362, R385, R413, R441, R464, R481): PWR_START reads 00, RESET has been raised. The straps read 10 and 0 (DESIGN CHOICE,
notes/assumptions/5.md). -/
def State.reset : State :=
  { pending := [], regs := [(0x0002, 0x0002), (0x0400, 0x0001)], free := 0, fresh := [], clk := Clk.reset,
    link := Link.reset, ops := Ops.reset, can := Vector.replicate 2 Can.reset, rcd := Recorder.reset,
    tim := Vector.replicate 24 Timer.reset, hb := Vector.replicate 72 HalfB.reset, bank := Vector.replicate 8 Bank.reset,
    ax := Vector.replicate 24 Axis.reset, fus := Fusion.reset, sched := Sched.reset, sol := Solver.reset,
    img := Img.reset, pwr := Pwr.reset, store := Store.reset, pair := Pair.reset, safe := Safe.reset,
    lands := Lands.reset }

end Sys2Proof.Machine
end

