-- ==== Sys2Proof/Machine/Operands.lean ====
section
/-! DEFINITION. Sys2Proof/Machine/Operands.lean: the operand forms of the spec: fields of a 16-bit word (R11), signed and
fractional readings of a word (R8), quantities of several words (R13), and the indices of Table SCOPE-3. -/
namespace Sys2Proof.Machine

/-! ### Words and fields -/

/-- A natural number as a word, modulo 2^16. -/
def w16 (n : Nat) : Word := BitVec.ofNat 16 n

/-- An integer as a word, two's complement. -/
def wInt (z : Int) : Word := BitVec.ofInt 16 z

/-- Bit `i` of a word (R11). -/
def bit (w : Word) (i : Nat) : Bool := w.getLsbD i

/-- The field [hi:lo] of a word (R11). -/
def field (w : Word) (hi lo : Nat) : Nat := w.toNat / 2 ^ lo % 2 ^ (hi + 1 - lo)

/-- The mask of the field [hi:lo]. -/
def maskW (hi lo : Nat) : Word := w16 ((2 ^ (hi + 1 - lo) - 1) * 2 ^ lo)

/-- The word with its field [hi:lo] replaced. -/
def setField (w : Word) (hi lo n : Nat) : Word :=
  (w &&& ~~~ maskW hi lo) ||| w16 (n % 2 ^ (hi + 1 - lo) * 2 ^ lo)

/-- The word with bit `i` alone. -/
def bitW (i : Nat) : Word := w16 (2 ^ i)

/-- 1 for true, 0 for false. -/
def b2n (b : Bool) : Nat := if b then 1 else 0

/-- A word from its bits, bit 0 first. -/
def ofBits (bs : List Bool) : Word := w16 (bs.foldr (fun b n => b2n b + 2 * n) 0)

/-- Bit `i` of a natural number. -/
def natBit (n i : Nat) : Bool := n / 2 ^ i % 2 == 1

/-! ### Signed values, saturation, rounding -/

/-- An integer held within −32,768 to 32,767. -/
def satS (z : Int) : Int := max (-32768) (min 32767 z)

/-- A number held at 65,535. -/
def satU (n : Nat) : Nat := min n 65535

/-- A number held at 255. -/
def sat8 (n : Nat) : Nat := min n 255

/-- An integer held within two bounds. -/
def clampI (lo hi z : Int) : Int := max lo (min hi z)

/-- A word read as a 16-bit two's-complement number (R8). -/
def sInt (w : Word) : Int := w.toInt

/-- A 32-bit number read as two's complement. -/
def s32 (n : Nat) : Int := (BitVec.ofNat 32 n).toInt

/-- The 32-bit pattern of an integer. -/
def u32 (z : Int) : Nat := (BitVec.ofInt 32 z).toNat

/-- Word `i` of a quantity of several words, the lowest word first (R13). -/
def wordOf (n i : Nat) : Word := w16 (n / 65536 ^ i)

/-- The quantity two words hold, the lowest word first (R13). -/
def quant2 (lo hi : Word) : Nat := lo.toNat + 65536 * hi.toNat

/-- The signed difference of two time stamps modulo 2^48 (R93). -/
def tbDiff (a b : Nat) : Int := (BitVec.ofInt 48 ((a : Int) - b)).toInt

/-! ### Indices (Table SCOPE-3) -/

/-- The bank of a half-bridge: HB(9b) to HB(9b+8) belong to bank b. -/
def hbBank (h : Fin 72) : Fin 8 := ⟨h.val / 9, by omega⟩

/-- The index of a half-bridge in its bank. -/
def hbIn (h : Fin 72) : Fin 9 := ⟨h.val % 9, by omega⟩

/-- Half-bridge `i` of bank `b`. -/
def hbOf (b : Fin 8) (i : Fin 9) : Fin 72 := ⟨9 * b.val + i.val, by omega⟩

/-- The bank of an axis, a timer or a converter: 3b to 3b+2 belong to bank b. -/
def axBank (a : Fin 24) : Fin 8 := ⟨a.val / 3, by omega⟩

/-- The slot of an axis, and the place of a timer or a converter in its bank. -/
def axSlot (a : Fin 24) : Fin 3 := ⟨a.val % 3, by omega⟩

/-- Axis, timer or converter `j` of bank `b`. -/
def axOf (b : Fin 8) (j : Fin 3) : Fin 24 := ⟨3 * b.val + j.val, by omega⟩

/-- The half-bridges of a bank in index order. -/
def hbsOf (b : Fin 8) : List (Fin 72) := (List.finRange 9).map (hbOf b)

/-- The axes, timers or converters of a bank in index order. -/
def axesOf (b : Fin 8) : List (Fin 24) := (List.finRange 3).map (axOf b)

end Sys2Proof.Machine
end

