-- ==== Sys2Proof/Machine/Ops.lean ====
section
/-! DEFINITION. Sys2Proof/Machine/Ops.lean: the named operations over the state: the sparse map of register words, one
setter for each part of State, the instants of the time base, and free values. -/
namespace Sys2Proof.Machine

/-! ### Lists of pairs in rising order of their first component -/

/-- The value at key `k`. -/
def mapGet {α : Type} : List (Nat × α) → Nat → Option α
  | [], _ => none
  | (k', v) :: r, k => if k' = k then some v else mapGet r k

/-- The list without key `k`. -/
def mapDel {α : Type} : List (Nat × α) → Nat → List (Nat × α)
  | [], _ => []
  | (k', v) :: r, k => if k' = k then mapDel r k else (k', v) :: mapDel r k

/-- The list with `k` at `v`, put before the first greater key; `k` must not be in it. -/
def mapIns {α : Type} : List (Nat × α) → Nat → α → List (Nat × α)
  | [], k, v => [(k, v)]
  | (k', v') :: r, k, v => if k < k' then (k, v) :: (k', v') :: r else (k', v') :: mapIns r k v

/-- The list with key `k` set to `v`. -/
def mapPut {α : Type} (m : List (Nat × α)) (k : Nat) (v : α) : List (Nat × α) := mapIns (mapDel m k) k v

/-! ### Register words (R12, R15) -/

/-- The stored word at an address; the reset value where the map lists none (R15). -/
def State.rd (s : State) (a : Nat) : Word := (mapGet s.regs a).getD (resetOf a)

/-- The state with a stored word set; a word at its reset value is not listed. -/
def State.wr (s : State) (a : Nat) (v : Word) : State :=
  { s with regs := if v = resetOf a then mapDel s.regs a else mapPut s.regs a v }

/-- Set the stored words from address `a` on. -/
def State.wrs (s : State) (a : Nat) : List Word → State
  | [] => s
  | v :: vs => (s.wr a v).wrs (a + 1) vs

/-- The stored words of `n` addresses from `a` on. -/
def State.rds (s : State) (a n : Nat) : List Word := (List.range n).map (fun i => s.rd (a + i))

/-- Store a quantity of `n` words, the lowest first (R13). -/
def State.wrQ (s : State) (a n q : Nat) : State := s.wrs a ((List.range n).map (wordOf q))

/-- The two-word quantity stored at `a` (R13). -/
def State.rdQ2 (s : State) (a : Nat) : Nat := quant2 (s.rd a) (s.rd (a + 1))

/-- The stored words between two addresses at their reset values (R15). -/
def State.clearRange (s : State) (lo hi : Nat) : State :=
  { s with regs := s.regs.filter (fun p => ¬ (lo ≤ p.1 ∧ p.1 < hi)) }

/-! ### Parts of the state -/

def State.modClk (s : State) (f : Clk → Clk) : State := { s with clk := f s.clk }
def State.modLink (s : State) (f : Link → Link) : State := { s with link := f s.link }
def State.modOps (s : State) (f : Ops → Ops) : State := { s with ops := f s.ops }
def State.modRcd (s : State) (f : Recorder → Recorder) : State := { s with rcd := f s.rcd }
def State.modFus (s : State) (f : Fusion → Fusion) : State := { s with fus := f s.fus }
def State.modSched (s : State) (f : Sched → Sched) : State := { s with sched := f s.sched }
def State.modSol (s : State) (f : Solver → Solver) : State := { s with sol := f s.sol }
def State.modImg (s : State) (f : Img → Img) : State := { s with img := f s.img }
def State.modPwr (s : State) (f : Pwr → Pwr) : State := { s with pwr := f s.pwr }
def State.modStore (s : State) (f : Store → Store) : State := { s with store := f s.store }
def State.modPair (s : State) (f : Pair → Pair) : State := { s with pair := f s.pair }
def State.modSafe (s : State) (f : Safe → Safe) : State := { s with safe := f s.safe }
def State.modLands (s : State) (f : Lands → Lands) : State := { s with lands := f s.lands }
def State.modCan (s : State) (c : Fin 2) (f : Can → Can) : State := { s with can := s.can.set c (f s.can[c]) }
def State.modTim (s : State) (t : Fin 24) (f : Timer → Timer) : State := { s with tim := s.tim.set t (f s.tim[t]) }
def State.modHb (s : State) (h : Fin 72) (f : HalfB → HalfB) : State := { s with hb := s.hb.set h (f s.hb[h]) }
def State.modBank (s : State) (b : Fin 8) (f : Bank → Bank) : State := { s with bank := s.bank.set b (f s.bank[b]) }
def State.modAx (s : State) (a : Fin 24) (f : Axis → Axis) : State := { s with ax := s.ax.set a (f s.ax[a]) }
def State.modSlot (s : State) (i : Fin 8) (f : OpSlot → OpSlot) : State :=
  s.modOps (fun o => { o with slots := o.slots.set i (f o.slots[i]) })
def State.modConv (s : State) (c : Fin 24) (f : Conv → Conv) : State :=
  s.modBank (axBank c) (fun k => { k with conv := k.conv.set (axSlot c) (f k.conv[axSlot c]) })
def State.modRow (s : State) (r : Fin 24) (f : SolRow → SolRow) : State :=
  s.modSol (fun o => { o with rows := o.rows.set r (f o.rows[r]) })

/-- Apply an operation to each index in order. -/
def State.each {α : Type} (s : State) (l : List α) (f : State → α → State) : State := l.foldl f s

/-! ### Time -/

/-- The time base as its 48 bits show it (R93). -/
def State.tb (s : State) : Nat := s.clk.ticks % 2 ^ 48

/-- An instant inside the present tick, in PWM clocks of 5 ns since AON power-on (R91, R93). -/
def State.clkAt (s : State) (at' : Fin 200) : Nat := 200 * s.clk.ticks + at'.val

/-- The first PWM clock after the present tick. -/
def State.tickEnd (s : State) : Nat := 200 * (s.clk.ticks + 1)

/-! ### Free values -/

/-- The state after one free value has been taken. -/
def State.took (s : State) : State := { s with free := s.free + 1 }

/-- The nearest integer; of two equally near ones a free value takes one, where the spec says "rounded" and no more
(notes/assumptions/11.md). -/
def State.round (s : State) (x : Rat) : State × Int :=
  let n := (x + 1 / 2).floor
  if x + 1 / 2 = n then (s.took, if Config.freeBool s.free then n else n - 1) else (s, n)

/-- One of the two integers around a value, where the spec states no rounding (notes/assumptions/11.md). -/
def State.quant (s : State) (x : Rat) : State × Int :=
  if x = x.floor then (s, x.floor) else (s.took, if Config.freeBool s.free then x.floor else x.floor + 1)

/-- One element of a list of equally good candidates. -/
def State.pick {α : Type} (s : State) (l : List α) : State × Option α :=
  match l with
  | [] => (s, none)
  | [x] => (s, some x)
  | l => (s.took, l[(Config.freeWord s.free).toNat % l.length]?)

/-- A free number from 0 to `n`. -/
def State.freeUpTo (s : State) (n : Nat) : State × Nat := (s.took, (Config.freeWord s.free).toNat % (n + 1))

/-! ### Read latches and staged words (R13, R124, R125) -/

/-- A latched higher word; before any latching read it holds the reset value (R124). -/
def State.latched (s : State) (a : Nat) : Word := (mapGet s.link.latch a).getD (resetOf a)

/-- Latch a higher word. -/
def State.setLatch (s : State) (a : Nat) (v : Word) : State :=
  s.modLink (fun l => { l with latch := mapPut l.latch a v })

/-- A staged higher word; before any write it holds the reset value (R125). -/
def State.staged (s : State) (a : Nat) : Word := (mapGet s.link.stage a).getD (resetOf a)

/-- Stage a higher word (R125). -/
def State.setStaged (s : State) (a : Nat) (v : Word) : State :=
  s.modLink (fun l => { l with stage := mapPut l.stage a v })

/-! ### Domains (Table MAP-4; bits as in Table EVT-3) -/

/-- Domain `d` is on: 0 to 7 D_B0 to D_B7, 8 D_FUS, 9 D_SOL, 10 D_LNK, 11 D_CAN. -/
def State.dom (s : State) (d : Nat) : Bool := s.pwr.on.getLsbD d

/-- The domain whose engines a block belongs to (Table MAP-5); none for CORE and AON. -/
def domOfAddr (a : Nat) : Option Nat :=
  match blkOf a with
  | .bank => some ((a - 0x2000) / 0x400)
  | .fus => some 8
  | .sch => some 8
  | .sol => some 9
  | .pair => some 10
  | .can => some 11
  | _ => none

/-! ### CORE runs -/

/-- CORE is powered and the device is not in reset (R481, Table PWR-3). -/
def State.up (s : State) : Bool := s.pwr.core && !s.lands.inReset

/-- What only a running CORE does: in reset and with CORE off it does not happen (notes/assumptions/2.md). -/
def State.whenUp (s : State) (f : State → State) : State := if s.up then f s else s

/-- The first tick after tick `t` at which TB, modulo 2^48, is a multiple of `step` (R93). -/
def tbNext (t step : Nat) : Nat :=
  let tb := t % 2 ^ 48
  let n := (tb / step + 1) * step
  if n < 2 ^ 48 then t - tb + n else t - tb + 2 ^ 48

/-- The VIO-level inputs are heard: VIO is above VIO_UV (R384). -/
def State.hears (s : State) : Bool := s.pwr.vioOk

/-- What a host command does: the SPI is heard and CORE runs (R384, R481, notes/assumptions/2.md). -/
def State.whenHost (s : State) (f : State → State) : State := if s.up && s.hears then f s else s

end Sys2Proof.Machine
end

