-- ==== Sys2Proof/Machine/Flags.lean ====
section
/-! DEFINITION. Sys2Proof/Machine/Flags.lean: every flag and counter computation the spec gives: W1C flags with the
tick of their latest setting, counters that saturate or wrap, and their clearing. -/
namespace Sys2Proof.Machine

/-- The flag bits of a word set in the present tick (R224, R342, R452). -/
def State.freshAt (s : State) (a : Nat) : Word := (mapGet s.fresh a).getD 0

/-- Set flags of a word, and remember that the present tick set them. -/
def State.setFlags (s : State) (a : Nat) (m : Word) : State :=
  let s := s.wr a (s.rd a ||| m)
  { s with fresh := mapPut s.fresh a (s.freshAt a ||| m) }

/-- Clear the flags of a word written as 1, but those set in the present tick (R224, R342, R452). -/
def State.clrFlags (s : State) (a : Nat) (m : Word) : State :=
  s.wr a (s.rd a &&& ~~~ (m &&& ~~~ s.freshAt a))

/-- Clear the bits of a W1C word that are written as 1 (Table SCOPE-4). -/
def State.w1c (s : State) (a : Nat) (m : Word) : State := s.wr a (s.rd a &&& ~~~ m)

/-- Count one more, staying at 0xFFFF. -/
def State.satInc (s : State) (a : Nat) : State := s.wr a (w16 (satU ((s.rd a).toNat + 1)))

/-- Count one more, modulo 2^16. -/
def State.wrapInc (s : State) (a : Nat) : State := s.wr a (s.rd a + 1)

/-- Count `n` more, staying at 0xFFFF. -/
def State.satAdd (s : State) (a n : Nat) : State := s.wr a (w16 (satU ((s.rd a).toNat + n)))

end Sys2Proof.Machine
end

