-- ==== Sys2Proof/Machine/Events.lean ====
section
/-! DEFINITION. Sys2Proof/Machine/Events.lean: the event sources of Tables EVT-2 to EVT-6 and the operations that raise an
event: the status bit (R341), the record (R344 to R355), the hold FIFO (R352, R354) and the journal queue (R356, R397). -/
namespace Sys2Proof.Machine

/-! ### Sources and severities (Tables EVT-2 to EVT-6) -/

/-- An event name: its source number and its severity (R340, R344). -/
structure EvName where
  src : Nat
  sev : Sev
  deriving DecidableEq, Repr

def evRESET : EvName := ⟨0, .info⟩
def evHOST_CRC : EvName := ⟨1, .warn⟩
def evOP_END : EvName := ⟨2, .info⟩
def evCLK_FAIL : EvName := ⟨3, .safety⟩
def evPPS_LOCK : EvName := ⟨4, .info⟩
def evPPS_REJECT : EvName := ⟨5, .warn⟩
def evPPS_LOST : EvName := ⟨6, .warn⟩
def evTIME_APPLIED : EvName := ⟨7, .info⟩
def evIMG_LOADED : EvName := ⟨8, .info⟩
def evIMG_REJECT : EvName := ⟨9, .warn⟩
def evIMG_FALLBACK : EvName := ⟨10, .warn⟩
def evLIMIT_SAT : EvName := ⟨11, .info⟩
def evHOST_MARK : EvName := ⟨12, .info⟩
def evPWR_LOSS : EvName := ⟨16, .fault⟩
def evPWR_RESTORE : EvName := ⟨17, .info⟩
def evPWR_BOUNCE : EvName := ⟨18, .warn⟩
def evDOMAIN_SW : EvName := ⟨19, .info⟩
def evVBAK_LOW : EvName := ⟨20, .warn⟩
def evHOLDUP_LOW : EvName := ⟨21, .warn⟩
def evCOMMIT_DEFER : EvName := ⟨22, .warn⟩
def evSTORE_BUSY : EvName := ⟨23, .info⟩
def evCOMPACT_DONE : EvName := ⟨24, .info⟩
def evSTORE_ERR : EvName := ⟨25, .fault⟩
def evJRNL_OVF : EvName := ⟨26, .warn⟩
def evREC_DROP : EvName := ⟨27, .warn⟩
def evREC_HOLDOVF : EvName := ⟨28, .warn⟩
def evREC_THAW : EvName := ⟨29, .info⟩
def evESTOP : EvName := ⟨32, .safety⟩
def evSAFE_DEV : EvName := ⟨33, .safety⟩
def evWDOG : EvName := ⟨34, .safety⟩
def evRAM_SEC : EvName := ⟨35, .warn⟩
def evCONTENTION : EvName := ⟨36, .safety⟩
def evPAIR_OWNER : EvName := ⟨37, .info⟩
def evLINK_DOWN : EvName := ⟨38, .warn⟩
def evLINK_UP : EvName := ⟨39, .info⟩
def evCAN_RX (c : Fin 2) : EvName := ⟨40 + 4 * c.val, .info⟩
def evCAN_TX (c : Fin 2) : EvName := ⟨41 + 4 * c.val, .info⟩
def evCAN_ERR (c : Fin 2) : EvName := ⟨42 + 4 * c.val, .warn⟩
def evCAN_OVR (c : Fin 2) : EvName := ⟨43 + 4 * c.val, .warn⟩
def evWHL_NOISE : EvName := ⟨48, .info⟩
def evWHL_INSERT : EvName := ⟨49, .info⟩
def evGNSS_ERR : EvName := ⟨50, .warn⟩
def evIMU_ERR : EvName := ⟨51, .warn⟩
def evSENT_ERR : EvName := ⟨52, .warn⟩
def evFUS_STALE : EvName := ⟨53, .warn⟩
def evSCHED_FIRE : EvName := ⟨54, .info⟩
def evSCHED_LATE : EvName := ⟨55, .warn⟩
def evSCHED_FULL : EvName := ⟨56, .warn⟩
def evSCHED_UNCOMMIT : EvName := ⟨57, .info⟩
def evHOST_SECT : EvName := ⟨58, .info⟩
def evSOLVER_LATE : EvName := ⟨59, .warn⟩
def evSEED_BLOCK : EvName := ⟨60, .warn⟩
def evSEED_OVF : EvName := ⟨61, .warn⟩
def evFALL_LIM : EvName := ⟨62, .info⟩
def evSOL_FAULT : EvName := ⟨63, .fault⟩
def evPS_SHORT (b : Fin 8) : EvName := ⟨64 + 8 * b.val, .safety⟩
def evGATE_STUCK (b : Fin 8) : EvName := ⟨65 + 8 * b.val, .safety⟩
def evGATE_FGN (b : Fin 8) : EvName := ⟨65 + 8 * b.val, .warn⟩
def evBANK_TRIP (b : Fin 8) : EvName := ⟨66 + 8 * b.val, .safety⟩
def evGATE_UV (b : Fin 8) : EvName := ⟨67 + 8 * b.val, .fault⟩
def evBST_UV (b : Fin 8) : EvName := ⟨67 + 8 * b.val, .warn⟩
def evPROT_WARN (b : Fin 8) : EvName := ⟨68 + 8 * b.val, .warn⟩
def evAXIS_FAULT (b : Fin 8) : EvName := ⟨69 + 8 * b.val, .fault⟩
def evAXIS_WARN (b : Fin 8) : EvName := ⟨69 + 8 * b.val, .warn⟩
def evBANK_CFG (b : Fin 8) : EvName := ⟨70 + 8 * b.val, .info⟩
def evARM_REPLACED (b : Fin 8) : EvName := ⟨71 + 8 * b.val, .info⟩
def evDLCAL_FAULT (b : Fin 8) : EvName := ⟨71 + 8 * b.val, .warn⟩

/-- The severity field of record word 4 (Table EVT-1). -/
def Sev.code : Sev → Nat
  | .info => 0
  | .warn => 1
  | .fault => 2
  | .safety => 3

/-- FAULT and SAFETY records go to the protected partition and to the journal (R344, R356). -/
def Sev.high (v : Sev) : Bool := 2 ≤ v.code

/-! ### Where a record goes -/

/-- The record goes to the protected partition (R344): P is its size, 2,048 − P that of the general one. -/
def toProt (p : Nat) (v : Sev) : Bool := if v.high then p != 0 else 2048 ≤ p

/-- Two raisings a repeat compares: source and both data words (R348). -/
def sameEv (x y : Raised) : Bool := x.src == y.src && x.d0 == y.d0 && x.d1 == y.d1

/-- The slots of a partition: first and one past the last (R344). -/
def partRange (p : Nat) (prot : Bool) : Nat × Nat := if prot then (0, min p 2048) else (p, 2048)

/-- The record a slot holds. -/
def Recorder.at (r : Recorder) (n : Nat) : Option Record := mapGet r.slots n

/-- The lowest-numbered free slot from `lo` on, among `n` slots. -/
def Recorder.freeSlot (r : Recorder) : Nat → Nat → Option Nat
  | _, 0 => none
  | lo, n + 1 => if (r.at lo).isNone then some lo else r.freeSlot (lo + 1) n

/-- The oldest of a list of records, by the count at which each was made. -/
def oldest : List (Nat × Record) → Option Nat
  | [] => none
  | (n, x) :: rest =>
    match oldest rest with
    | none => some n
    | some m => if rest.all (fun q => x.seq ≤ q.2.seq) then some n else some m

/-- The slot a new record of severity `v` takes: the lowest free one, else the one it may overwrite (R345, R346). -/
def Recorder.target (r : Recorder) (prot : Bool) (v : Sev) : Option Nat :=
  let (lo, hi) := partRange r.p prot
  match r.freeSlot lo (hi - lo) with
  | some n => some n
  | none =>
    oldest (r.slots.filter (fun q => lo ≤ q.1 && q.1 < hi && (!prot || q.2.ev.sev.code ≤ v.code)))

/-- The last record of a partition (R348). -/
def Recorder.last (r : Recorder) (prot : Bool) : Option Raised :=
  match (if prot then r.lastP else r.lastG) with
  | none => none
  | some n => (r.at n).map (·.ev)

/-- The time from one 48-bit stamp to a later one, modulo 2^48 (R93, R107). -/
def tbSince (first now : Nat) : Nat := (now + 2 ^ 48 - first) % 2 ^ 48

/-- The repeat-time word: ms from the first occurrence to the repeat, saturated (R347). -/
def repTime (first now : Nat) : Nat := satU (tbSince first now / 1000)

/-! ### The place of an event in its tick (R104, R516, Table TIME-3) -/

/-- The ranks of one tick: Table TIME-3's classes 1 to 5, the engine results of class 6 (R516), the host frames of class 6
(arrival order decides among them), and what comes after class 6; RESET comes first of all. -/
inductive Rank
  | reset | safety | supply | motion | schedule | sample | engine | host | after
  deriving DecidableEq, Repr

/-- The place of a rank's `k`-th member. -/
def Rank.at (r : Rank) (k : Nat) : Nat := r.ctorIdx * 1024 + k

/-- The place of a disarm's or refusal's BANK_ARM by its cause (Table SAFE-5): safety reactions, the hand-over, else a host
frame. -/
def armPlace (src cause : Nat) : Nat :=
  if cause = 2 || cause = 3 || cause = 6 || cause = 7 || cause = 8 then Rank.safety.at src
  else if cause = 4 then Rank.supply.at src
  else Rank.host.at 0

/-- The place of a bank's event (Table EVT-6). -/
def bankPlace (e : EvName) (d0 d1 : Word) : Nat :=
  match (e.src - 64) % 8 with
  | 0 => Rank.safety.at e.src
  | 1 => Rank.safety.at e.src
  | 2 => Rank.safety.at e.src
  | 3 => Rank.supply.at e.src
  | 5 =>
    if e.sev.high then Rank.safety.at e.src
    else if field d1 3 0 = 4 then Rank.motion.at (4 + d0.toNat)
    else Rank.engine.at e.src
  | 6 => if field d0 15 8 = 2 then armPlace e.src (field d1 15 8) else Rank.engine.at e.src
  | 7 => if field d0 15 8 = 1 then Rank.host.at 0 else Rank.engine.at e.src
  | _ => Rank.engine.at e.src

/-- The place of an event in its tick, by its cause: Table TIME-3 for the members of its classes, R516 for every other
(notes/assumptions/28.md). -/
def evPlace (e : EvName) (d0 d1 : Word) : Nat :=
  if 64 ≤ e.src then bankPlace e d0 d1
  else
    match e.src with
    | 0 => Rank.reset.at 0
    | 1 => Rank.host.at 0
    | 3 => Rank.safety.at 3
    | 4 => Rank.motion.at 28
    | 5 => Rank.motion.at 28
    | 6 => Rank.motion.at 28
    | 7 => Rank.motion.at 28
    | 11 => Rank.host.at 0
    | 12 => Rank.host.at 0
    | 16 => Rank.supply.at 16
    | 17 => Rank.engine.at 19
    | 18 => Rank.supply.at 18
    | 19 => if d0 = 0 && d1 = 1 then Rank.supply.at 19 else Rank.engine.at 19
    | 32 => Rank.safety.at 32
    | 33 => Rank.safety.at 33
    | 34 => Rank.safety.at 34
    | 36 => Rank.safety.at 36
    | 37 => if d1 = 4 || d1 = 7 then Rank.safety.at 37 else if d1 = 5 then Rank.supply.at 0 else Rank.engine.at 37
    | 48 => Rank.motion.at d0.toNat
    | 49 => Rank.motion.at d0.toNat
    | 50 => Rank.sample.at 26
    | 51 => Rank.sample.at 27
    | 52 => Rank.sample.at (24 + d0.toNat)
    | 53 => Rank.sample.at 28
    | 54 => Rank.schedule.at (d0.toNat / 256)
    | 55 => Rank.schedule.at (d0.toNat / 256)
    | 56 => Rank.host.at 0
    | 57 => Rank.sample.at 28
    | 58 => Rank.host.at 0
    | 59 => Rank.after.at 0
    | 61 => if d1 = 0 then Rank.sample.at d0.toNat else Rank.engine.at 61
    | n => Rank.engine.at n

/-! ### The journal queue (R397) -/

/-- Word 4 of a record as made (Table EVT-1). -/
def recWord4 (r : Raised) (prot held jq : Bool) : Word :=
  w16 (r.sev.code * 2 ^ 14 + b2n prot * 2 ^ 13 + b2n held * 2 ^ 12 + b2n jq * 2 ^ 11 + 2 ^ 10 + r.src % 128)

/-- Set the status bit of a source (R341). -/
def State.setEvt (s : State) (src : Nat) : State := s.setFlags (A.EVT_STAT (src / 16)) (bitW (src % 16))

/-- A raising of this source and severity makes a record (R344). -/
def State.records (s : State) (src : Nat) (v : Sev) : Bool :=
  v == .safety ||
  bit (s.rd (if src / 16 = 0 then A.EVT_REC_0 else if src / 16 = 1 then A.EVT_REC_1
    else if src / 16 = 2 then A.EVT_REC_2 else if src / 16 = 3 then A.EVT_REC_3 else A.EVT_REC_47 (src / 16 - 4)))
    (src % 16)

/-- A record that is due enters the hold FIFO: during a freeze or a drain, behind other entries, or beyond 64 in its tick
(R352, R354). -/
def State.viaFifo (s : State) : Bool :=
  s.rcd.frozen || s.rcd.draining || !s.rcd.fifo.isEmpty || 64 ≤ s.rcd.wrote

/-- Put a raising into the hold FIFO: a repeat of its newest entry, a new entry, or a loss (R352). -/
def Recorder.push (r : Recorder) (x : Raised) : Recorder × Bool :=
  match r.fifo.getLast? with
  | some e =>
    if sameEv e.ev x then
      ({ r with fifo := r.fifo.dropLast ++ [{ e with rep := e.rep + 1, lastTb := x.tb }] }, false)
    else if r.fifo.length < 64 then ({ r with fifo := r.fifo ++ [⟨x, 0, x.tb⟩] }, false)
    else (r, true)
  | none => ({ r with fifo := [⟨x, 0, x.tb⟩] }, false)

/-- Put a raising into the hold FIFO and count a loss; the first loss since the counter was cleared makes REC_HOLDOVF due
(R352). -/
def State.fifoIn (s : State) (x : Raised) : State :=
  match s.rcd.push x with
  | (r, false) => { s with rcd := r }
  | (_, true) =>
    let s := if s.rd A.REC_HOLDOVF_CNT = 0 then s.modRcd (fun r => { r with ovf := true }) else s
    s.satInc A.REC_HOLDOVF_CNT

/-- Raise an event at a place of its tick: its status bit, and its record on the way to the recorder (R341, R344). -/
def State.raiseAt (s : State) (p : Nat) (e : EvName) (d0 d1 : Word) : State :=
  let s := s.setEvt e.src
  if s.records e.src e.sev then
    s.modRcd (fun r => { r with due := r.due ++ [⟨s.tb, p, e.src, e.sev, d0, d1, if e.sev.high then none else some false⟩] })
  else s

/-- Raise an event at the place its cause has (R341, R344, R516). -/
def State.raise (s : State) (e : EvName) (d0 d1 : Word) : State := s.raiseAt (evPlace e d0 d1) e d0 d1

/-- Queue an event record for the journal: its words 0 to 6, or a loss that is counted; the first queue-full loss since
STORE_JLOST was last cleared raises JRNL_OVF (R397). -/
def State.jqueue (s : State) (x : Raised) (prot held : Bool) (seq : Word) : State :=
  if s.store.jq.length < 32 then
    s.modStore (fun t =>
      { t with
        jq := t.jq ++ [⟨[recWord4 x prot held true, wordOf x.tb 0, wordOf x.tb 1, wordOf x.tb 2, x.d0, x.d1, seq],
          t.order, .pending, none, false, false⟩]
        order := t.order + 1 })
  else
    let first := !s.store.full
    let s := (s.satInc A.STORE_JLOST).modStore (fun t => { t with lost := t.lost + 1, full := true })
    if first then s.raise evJRNL_OVF 0 0 else s

/-- The raising that one bound for a partition is compared with when it enters the FIFO: the newest entry for that partition,
else its last record (R356). -/
def Recorder.prior (r : Recorder) (prot : Bool) : Option Raised :=
  match (r.fifo.filter (fun e => toProt r.p e.ev.sev == prot)).getLast? with
  | some e => some e.ev
  | none => r.last prot

/-- A raising repeats the one it is compared with. -/
def repeats (y : Option Raised) (x : Raised) : Bool :=
  match y with
  | some y => sameEv y x
  | none => false

/-- Put a due record into the hold FIFO. A FAULT or SAFETY raising that is no repeat is queued for the journal, whether or
not it finds the FIFO full (R352, R356). -/
def State.holdRec (s : State) (x : Raised) : State :=
  if x.jq.isSome then s.fifoIn x
  else
    let prot := toProt s.rcd.p x.sev
    let rep := repeats (s.rcd.prior prot) x
    let s := if rep then s else s.jqueue x prot true 0xFFFF
    s.fifoIn { x with jq := some (!rep) }

/-! ### Writing records (R345 to R349) -/

/-- Add `n` repeats, the latest at `tb`, to the record in slot `k` (R348). -/
def Recorder.repeatAt (r : Recorder) (k n tb : Nat) : Recorder :=
  match r.at k with
  | none => r
  | some x => { r with slots := mapPut r.slots k { x with rep := satU (x.rep + n), rtime := repTime x.ev.tb tb } }

/-- Write one raising with `n` repeats into the recorder: a repeat of its partition's last record, a new record, or a drop
(R345, R346, R348); a FAULT or SAFETY record that is no repeat is queued for the journal (R356). -/
def State.writeRec (s : State) (x : Raised) (held : Bool) (n lastTb : Nat) : State :=
  let prot := toProt s.rcd.p x.sev
  let lastSlot := if prot then s.rcd.lastP else s.rcd.lastG
  match repeats (s.rcd.last prot) x, lastSlot with
  | true, some k => s.modRcd (fun r => r.repeatAt k (n + 1) lastTb)
  | _, _ =>
    let wants := x.sev.high && x.jq.isNone
    let jq := wants || x.jq == some true
    match s.rcd.target prot x.sev with
    | none =>
      let first := s.rd A.REC_DROP_CNT = 0
      let s := s.satInc A.REC_DROP_CNT
      let s := if wants then s.jqueue x prot held 0xFFFF else s
      if first then s.raise evREC_DROP (w16 x.src) 0 else s
    | some k =>
      let seq := s.rcd.seq
      let new : Record := ⟨seq, x, prot, held, jq, satU n, if n = 0 then 0 else repTime x.tb lastTb⟩
      let s := s.modRcd (fun r =>
        { r with
          slots := mapPut r.slots k new
          seq := r.seq + 1
          head1 := if prot then r.head1 + 1 else r.head1
          lastP := if prot then some k else if r.lastP = some k then none else r.lastP
          lastG := if prot then (if r.lastG = some k then none else r.lastG) else some k })
      if wants then s.jqueue x prot held (w16 seq) else s

/-- The earlier of two due records of one tick: the lesser place, of equal places the first raised (R104). -/
def sooner (x y : Raised) : Raised := if y.tb = x.tb ∧ y.place < x.place then y else x

/-- The due record that is next: of the tick of the oldest one, the one whose place comes first (R104, R355). -/
def nextDue : List Raised → Option Raised
  | [] => none
  | x :: xs => some (xs.foldl sooner x)

/-- Make the next due record (R355): into its slot, or into the hold FIFO (R352, R354). -/
def State.writeDue (s : State) : State :=
  match nextDue s.rcd.due with
  | none => s
  | some x =>
    let s := s.modRcd (fun r => { r with due := r.due.erase x })
    if s.viaFifo then s.holdRec x
    else (s.modRcd (fun r => { r with wrote := r.wrote + 1 })).writeRec x false 0 x.tb

/-- Make the `n` next due records. -/
def State.writeDueN (s : State) : Nat → State
  | 0 => s
  | n + 1 => s.writeDue.writeDueN n

/-- Make every record that is due now, and the JRNL_OVF and the REC_DROP that this can raise (R355). -/
def State.flushDue (s : State) : State := s.writeDueN (s.rcd.due.length + 2)

/-! ### Freeze and drain (R352 to R354) -/

/-- The cause word of REC_THAW (R353). -/
def ThawCause.code : ThawCause → Nat
  | .host => 0
  | .timeout => 1
  | .swap => 2
  | .handover => 3
  | .reset => 4

/-- With the FIFO empty again: REC_HOLDOVF, then REC_THAW of a freeze that has ended (R352, R353, R354, R516). -/
def State.drainDone (s : State) : State :=
  if s.rcd.frozen || !s.rcd.fifo.isEmpty then s
  else
    let s := if s.rcd.ovf then (s.modRcd (fun r => { r with ovf := false })).raise evREC_HOLDOVF 0 0 else s
    match s.rcd.thaw with
    | none => s
    | some c =>
      let n := s.rcd.drained
      (s.modRcd (fun r => { r with draining := false, thaw := none, drained := 0 })).raise evREC_THAW (w16 c.code) (w16 n)

/-- Drain one entry of the FIFO into its partition, held = 1 (R353). -/
def State.drainOne (s : State) : State :=
  match s.rcd.fifo with
  | [] => s
  | e :: rest =>
    (s.modRcd (fun r => { r with fifo := rest, wrote := r.wrote + 1, drained := r.drained + 1 })).writeRec e.ev true e.rep
      e.lastTb

/-- Drain up to `n` entries. -/
def State.drainN (s : State) : Nat → State
  | 0 => s
  | n + 1 => s.drainOne.drainN n

/-- Drain what the tick's bound of 64 leaves, and report the end of the drain (R353, R354). -/
def State.drain (s : State) : State :=
  if s.rcd.frozen then s
  else if s.rcd.fifo.isEmpty && s.rcd.thaw.isNone then s
  else (s.drainN (min s.rcd.fifo.length (64 - s.rcd.wrote))).drainDone

/-- End a freeze for one of the five causes of R353; what was raised before belongs to the freeze, and the drain follows. -/
def State.thaw (s : State) (c : ThawCause) : State :=
  let s := s.modRcd (fun r => { r with freezePend := false })
  if s.rcd.frozen then
    (s.flushDue.modRcd (fun r => { r with frozen := false, draining := true, thaw := some c, drained := 0 })).drainDone
  else s

/-- Empty the recorder's slots and forget the last records; the counters go on (R73, R351, R362). -/
def Recorder.clear (r : Recorder) : Recorder := { r with slots := [], lastG := none, lastP := none }

/-- Raise the event AXIS with the severity its cause has (Table EVT-6). -/
def State.raiseAxis (s : State) (b : Fin 8) (fault : Bool) (d0 d1 : Word) : State :=
  s.raise (if fault then evAXIS_FAULT b else evAXIS_WARN b) d0 d1

/-! ### The meanings of the recorder's commands -/

/-- EVT_STAT_CLEAR (R342): clear the bits of EVT_STAT_g written as 1, but those set in this tick. -/
def evtStatClear (g : Fin 8) (d : Word) (s : State) : State := s.clrFlags (A.EVT_STAT g) d

/-- A write of 0x00C5 to REC_CLR empties the general partition and its repeat-time words (Table EVT-10, R348); records of
earlier actions of the tick are made first (R104). -/
def recClr (s : State) : State :=
  let s := s.flushDue
  s.modRcd (fun r => { r with slots := r.slots.filter (fun q => q.1 < r.p), lastG := none })

/-- The write of REC_MARK_0 raises HOST_MARK with the two words (R357). -/
def hostMark (d hi : Word) (s : State) : State := s.raise evHOST_MARK d hi

/-- A write of 1 to REC_CTL.freeze: the freeze acts at the end of the tick, or after a running drain (R352, R353). -/
def recFreeze (s : State) : State :=
  if s.rcd.frozen then s else s.modRcd (fun r => { r with freezePend := true })

/-- The freeze that waits takes effect at the end of its tick (R352). -/
def State.applyFreeze (s : State) : State :=
  if s.rcd.freezePend && !s.rcd.draining && s.rcd.fifo.isEmpty then
    s.modRcd (fun r => { r with frozen := true, freezePend := false, frozeAt := s.clk.ticks })
  else s

/-- RECORD_WRITE (R345, R346, R348, R355): the oldest due record is written. -/
def execRecordWrite (s : State) : Host.Outcome State Fault Refusal := .next (s.whenUp (fun s => s.writeDue))

/-- RECORDER_FREEZE (R352). -/
def execRecorderFreeze (s : State) : Host.Outcome State Fault Refusal := .next (s.whenHost (fun s => recFreeze s))

/-- RECORDER_THAW (R353): a write of 0 to REC_CTL.freeze ends a freeze, and a freeze that waits does not come. -/
def execRecorderThaw (s : State) : Host.Outcome State Fault Refusal := .next (s.whenHost (fun s => s.thaw .host))

/-- FREEZE_TIMEOUT (R353): 100 ms of TB after the freeze took effect, it ends. -/
def execFreezeTimeout (s : State) : Host.Outcome State Fault Refusal :=
  .next (s.whenUp (fun s =>
      if s.rcd.frozen && 100000 ≤ s.clk.ticks - s.rcd.frozeAt then s.thaw .timeout else s))

/-- HOLD_FIFO_DRAIN (R353, R354). -/
def execHoldFifoDrain (s : State) : Host.Outcome State Fault Refusal := .next (s.whenUp (fun s => s.drain))

/-- REC_CLR (Table EVT-10). -/
def execRecClr (s : State) : Host.Outcome State Fault Refusal := .next (s.whenHost (fun s => recClr s))

/-- HOST_MARK (R357): data word 1 is the staged REC_MARK_1. -/
def execHostMark (d : Word) (s : State) : Host.Outcome State Fault Refusal :=
  .next (s.whenHost (fun s => hostMark d (s.staged (A.REC_MARK 1)) s))

/-- EVT_STAT_CLEAR (R342). -/
def execEvtStatClear (g : Fin 8) (d : Word) (s : State) : Host.Outcome State Fault Refusal := .next (s.whenHost (fun s => evtStatClear g d s))

end Sys2Proof.Machine
end

