-- ==== Sys2Proof/Machine/Structure.lean ====
section
/-! DEFINITION. Sys2Proof/Machine/Structure.lean: what the active image fixes (R28 to R34, R39, R53 to R66): slot types,
the half-bridges of a slot, supply and delay-line modes, reactions, routes, limits and open fields. -/
namespace Sys2Proof.Machine

/-- A bank as it stands without an image: all slots UNUSED, every half-bridge unassigned (R48). -/
def BankCfg.none : BankCfg :=
  { slotmap := 0, hbmap := [0x3333, 0x3333, 0x0003], supply := 0, hires := 0, hsto := 0, slots := [], vov2 := 0, brk := 0,
    drive := [], conv := [], routes := [], limits := [], opens := [], presets := [] }

/-- What the active image fixes for a bank; BankCfg.none without one. -/
def State.cfg (s : State) (b : Fin 8) : BankCfg :=
  match s.img.active with
  | .none => BankCfg.none
  | some c => c.banks[b.val]?.getD BankCfg.none

/-! ### Slots (Tables MAP-1, MAP-13, MAP-14) -/

/-- The slot types of Table MAP-1. -/
inductive SlotType
  | unused | threePhase | hBridge | single | chopper
  deriving DecidableEq, Repr

/-- The slot type of a slot code's [2:0] (Table MAP-13); a reserved code stands for no slot. -/
def slotTypeOf (n : Nat) : SlotType :=
  if n = 1 then .threePhase else if n = 2 then .hBridge else if n = 3 then .single else if n = 4 then .chopper else .unused

/-- The type of slot `j`. -/
def BankCfg.typeOf (c : BankCfg) (j : Fin 3) : SlotType := slotTypeOf (field c.slotmap (5 * j.val + 2) (5 * j.val))

/-- The half-bridge count of slot `j`. -/
def BankCfg.countOf (c : BankCfg) (j : Fin 3) : Nat := field c.slotmap (5 * j.val + 4) (5 * j.val + 3)

/-- The nibble of SYS_HBMAP that describes half-bridge `i` of the bank (Table MAP-14). -/
def BankCfg.nibble (c : BankCfg) (i : Nat) : Nat := field (c.hbmap[i / 4]?.getD 0) (4 * (i % 4) + 3) (4 * (i % 4))

/-- The slot and role of half-bridge `i`; none when it is unassigned (R32). -/
def BankCfg.place (c : BankCfg) (i : Fin 9) : Option (Fin 3 × Fin 3) :=
  let n := c.nibble i
  if hs : n % 4 < 3 then
    if hr : n / 4 < 3 then some (⟨n % 4, hs⟩, ⟨n / 4, hr⟩) else .none
  else .none

/-- The half-bridges of slot `j` by role (R31). -/
def BankCfg.role (c : BankCfg) (j r : Fin 3) : Option (Fin 9) := (List.finRange 9).find? (fun i => c.place i == some (j, r))

/-- The type of an axis' slot (R30). -/
def State.axType (s : State) (a : Fin 24) : SlotType := (s.cfg (axBank a)).typeOf (axSlot a)

/-- The slot entry is an axis (R30): THREE_PHASE, H_BRIDGE or SINGLE. -/
def State.isAxis (s : State) (a : Fin 24) : Bool :=
  match s.axType a with
  | .threePhase => true
  | .hBridge => true
  | .single => true
  | _ => false

/-- The half-bridges of an axis in role order (R31). -/
def State.axHbs (s : State) (a : Fin 24) : List (Fin 72) :=
  (List.finRange 3).filterMap (fun r => ((s.cfg (axBank a)).role (axSlot a) r).map (hbOf (axBank a)))

/-- The half-bridge of a role of an axis. -/
def State.axHb (s : State) (a : Fin 24) (r : Fin 3) : Option (Fin 72) :=
  ((s.cfg (axBank a)).role (axSlot a) r).map (hbOf (axBank a))

/-- The axis (or CHOPPER slot) and role that a half-bridge belongs to. -/
def State.hbAxis (s : State) (h : Fin 72) : Option (Fin 24 × Fin 3) :=
  ((s.cfg (hbBank h)).place (hbIn h)).map (fun p => (axOf (hbBank h) p.1, p.2))

/-- AXIS_CFG of an axis (Table IMG-6); all zero without an image. -/
def State.axCfg (s : State) (a : Fin 24) : SlotCfg :=
  (s.cfg (axBank a)).slots[(axSlot a).val]?.getD ⟨0, 0, 0, 0, 0⟩

/-- The bank is a charge-pump bank (BANK_MAP.supply). -/
def State.cpBank (s : State) (b : Fin 8) : Bool := (s.cfg b).supply == 1

/-- The timer runs in dither mode (BANK_MAP.hires). -/
def State.dither (s : State) (t : Fin 24) : Bool := natBit (s.cfg (axBank t)).hires (axSlot t).val

/-- DRIVE_RANGE of a half-bridge (R55); all zero without an image. -/
def State.drive (s : State) (h : Fin 72) : DriveCfg :=
  (s.cfg (hbBank h)).drive[(hbIn h).val]?.getD ⟨0, 0, 0, 0, 0⟩

/-- Where the direct drive port goes (R65). -/
def State.ddpAt (s : State) : Option Nat :=
  match s.img.active with
  | .none => .none
  | some c => if c.ddpEn then some c.ddpBank else .none

/-- The direct drive port replaces the timer outputs of this bank (R33). -/
def State.ddpBank (s : State) (b : Fin 8) : Bool := s.ddpAt == some b.val

/-- Byte `i` of FUSION_CFG (R58); 0 without an image. -/
def State.fusCfg (s : State) (i : Nat) : Nat :=
  match s.img.active with
  | .none => 0
  | some c => c.fus[i]?.getD 0

/-- The image enables PPS (R58). -/
def State.ppsEn (s : State) : Bool := natBit (s.fusCfg 4) 1

/-- The image makes PPS active on its falling edge (R58). -/
def State.ppsFalls (s : State) : Bool := natBit (s.fusCfg 4) 2

/-- All routes of the image: the device section's and the banks' (R57). -/
def State.routes (s : State) : List Route :=
  match s.img.active with
  | .none => []
  | some c => c.routes ++ c.banks.flatMap (·.routes)

/-- The source routed to a destination (R57). -/
def State.routeTo (s : State) (dk di : Nat) : Option (Nat × Nat) :=
  (s.routes.find? (fun r => r.dk == dk && r.di == di)).map (fun r => (r.sk, r.si))

/-- The destinations a source starts, kind and index (R57). -/
def State.routedFrom (s : State) (sk si : Nat) : List (Nat × Nat) :=
  (s.routes.filter (fun r => r.sk == sk && r.si == si)).map (fun r => (r.dk, r.di))

/-! ### Limits and open fields (R61, R62, R66, R77) -/

/-- The LIMITS entries of the image. -/
def State.limits (s : State) : List Limit :=
  match s.img.active with
  | .none => []
  | some c => c.limits ++ c.banks.flatMap (·.limits)

/-- The LIMITS entry that bounds the field [hi:lo] of the word at `a` (R61). -/
def State.limitOf (s : State) (a hi lo : Nat) : Option Limit :=
  s.limits.find? (fun l => l.addr == a && lo ≤ l.lsb && l.lsb + l.width ≤ hi + 1)

/-- The bits of the word at `a` that OPEN sections open (R62). -/
def State.openMask (s : State) (a : Nat) : Word :=
  match s.img.active with
  | .none => 0
  | some c =>
    ((c.opens ++ c.banks.flatMap (·.opens)).filter (fun p => p.1 == a)).foldl (fun m p => m ||| p.2) 0

/-- The solver row that counts on an axis and the one a seed input feeds (R60). -/
def State.solRows (s : State) : List (Nat × Nat) :=
  match s.img.active with
  | .none => []
  | some c => c.rows

/-- The alternate a land group takes (R63). -/
def State.landAlt (s : State) (g : Nat) : Nat :=
  match s.img.active with
  | .none => 0
  | some c => ((c.pinAlt.find? (fun p => p.1 == g)).map (·.2)).getD 0

end Sys2Proof.Machine
end

