-- ==== Sys2Proof/Machine/Tickets.lean ====
section
/-! DEFINITION. Sys2Proof/Machine/Tickets.lean: the ticket slots of long operations (R135 to R143): states, classes, and
the end of an operation. The operations themselves are in LongOps.lean. -/
namespace Sys2Proof.Machine

/-- The state field of OP_STAT_s (Table HOST-14). -/
def OpState.code : OpState → Nat
  | .free => 0
  | .queued => 1
  | .running => 2
  | .part => 3
  | .done => 4
  | .failed => 5
  | .aborted => 6

/-- DONE, FAILED or ABORTED (Table HOST-8). -/
def OpState.terminal (x : OpState) : Bool := 4 ≤ x.code

/-- RUNNING or PARTIAL (Table HOST-8). -/
def OpState.active (x : OpState) : Bool := x == .running || x == .part

/-! ### Operations (Table HOST-7) -/

def opIMAGE_LOAD : Nat := 0x01
def opSHUNT_CAL : Nat := 0x11
def opDLINE_CAL : Nat := 0x12
def opSELF_TEST : Nat := 0x13
def opMOTOR_ID : Nat := 0x21
def opCOMPACT : Nat := 0x31

/-- The op codes of Table HOST-7. -/
def opCodes : List Nat := [opIMAGE_LOAD, opSHUNT_CAL, opDLINE_CAL, opSELF_TEST, opMOTOR_ID, opCOMPACT]

/-- The class field of OP_STAT_s (Tables HOST-7, HOST-14). -/
def opClass (op : Nat) : Nat :=
  if op = opIMAGE_LOAD then 0 else if op = opCOMPACT then 1 else if op = opMOTOR_ID then 3 else 2

/-! ### Fail codes (Table HOST-9) -/

def failREJECTED : Nat := 1
def failPRECOND : Nat := 2
def failINTERRUPTED : Nat := 3
def failTIMEOUT : Nat := 4
def failSTORE : Nat := 5
def failPOWER : Nat := 6
def failHOST : Nat := 7
def failTEST : Nat := 8
def failMODEL : Nat := 9

/-! ### Slots -/

/-- The slots in index order. -/
def allSlots : List (Fin 8) := List.finRange 8

/-- The ticket value of a slot (Table HOST-13, bits [7:0]). -/
def OpSlot.ticket (x : OpSlot) (i : Fin 8) : Nat := 8 * x.gen + i.val

/-- Parameter `k` of a slot. -/
def OpSlot.param (x : OpSlot) (k : Nat) : Word := x.params[k]?.getD 0

/-- The slot that runs an operation, if one does; a class runs at most one (R137). -/
def State.running (s : State) (op : Nat) : Option (Fin 8) :=
  allSlots.find? (fun i => s.ops.slots[i].op == op && s.ops.slots[i].st.active)

/-- An operation reaches a final state: OP_END is raised (R138, R139, R143). -/
def State.endSlot (s : State) (i : Fin 8) (st : OpState) (fail : Nat) : State :=
  let x := s.ops.slots[i]
  let s := s.modSlot i (fun x =>
    { x with st := st, fail := fail, abort := none, progress := if st = .done then 255 else x.progress })
  let s := s.modOps (fun o => { o with order := o.order.filter (· != i.val) })
  s.raise evOP_END (w16 (x.ticket i)) (w16 (st.code * 256 + fail))

/-- A partial value is published into an entry (R138 to R140). -/
def State.publishPart (s : State) (i e : Fin 8) (v progress : Nat) : State :=
  s.modSlot i (fun x =>
    { x with
      st := .part, npart := min 255 (x.npart + 1), progress := min 254 progress
      res := x.res.set e { x.res[e] with tag := min 255 (x.res[e].tag + 1), val := v % 2 ^ 32 } })

/-- A final value is published into an entry (R140). -/
def State.publishFinal (s : State) (i e : Fin 8) (v : Nat) : State :=
  s.modSlot i (fun x => { x with res := x.res.set e { x.res[e] with valid := true, val := v % 2 ^ 32 } })

/-- A running operation is interrupted: an abort that waits ends it ABORTED with its own code (R142, R150), else it ends FAILED
with INTERRUPTED. -/
def State.interrupt (s : State) (i : Fin 8) : State :=
  match s.ops.slots[i].abort with
  | some f => s.endSlot i .aborted f
  | none => s.endSlot i .failed failINTERRUPTED

/-- The running operation `op`, if one runs, is interrupted. -/
def State.failOp (s : State) (op : Nat) : State :=
  match s.running op with
  | none => s
  | some i => s.interrupt i

/-- The bank mask of a running calibration covers bank `b`: P0[7:0] (Table HOST-7). -/
def OpSlot.masks (x : OpSlot) (b : Fin 8) : Bool := bit (x.param 0) b.val

/-- The axis a MOTOR_ID slot names (P0, Table HOST-7). -/
def OpSlot.axis (x : OpSlot) : Nat := (x.param 0).toNat

/-- SHUNT_CAL has done all nine channels of a bank (R272). -/
def OpSlot.shuntDone (x : OpSlot) (b : Fin 8) : Bool := 9 ≤ x.work / 16 ^ b.val % 16

/-- Whether a calibration that reports no progress has finished its work on bank `b` is open until it is asked; the answer
is a free value that then stands (R170, R462, notes/assumptions/9.md). -/
def State.unitDone (s : State) (i : Fin 8) (b : Fin 8) : State × Bool :=
  if natBit s.ops.slots[i].work b.val then (s, true)
  else if Config.freeBool s.free then
    ((s.modSlot i (fun x => { x with work := x.work + 2 ^ b.val })).took, true)
  else (s.took, false)

/-- The operation `op` runs and masks bank `b`. -/
def State.runsOn (s : State) (op : Nat) (b : Fin 8) : Option (Fin 8) :=
  match s.running op with
  | none => none
  | some i => if s.ops.slots[i].masks b then some i else none

/-- SHUNT_CAL ends INTERRUPTED when a bank of its mask that it has not finished is taken from it (Tables HOST-9,
HOST-11). -/
def State.cutShuntCal (s : State) (b : Fin 8) : State :=
  match s.runsOn opSHUNT_CAL b with
  | none => s
  | some i => if s.ops.slots[i].shuntDone b then s else s.interrupt i

/-- DLINE_CAL has measured lines of the banks in its mask: all nine of a bank it has finished, of the others a free choice,
and each takes a new offset, whose value the spec leaves to the part (R170, notes/assumptions/9.md). -/
def State.measureLines (s : State) (x : OpSlot) (all : Bool) : State :=
  s.each ((List.finRange 72).filter (fun h => x.masks (hbBank h))) (fun s h =>
    let did := all || natBit x.work (hbBank h).val || Config.freeBool s.free
    let s := s.took
    (if did then s.modHb h (fun y => { y with dlcOfs := some (Config.freeWord s.free) }) else s).took)

/-- DLINE_CAL ends INTERRUPTED when a bank of its mask whose lines it has not all measured is armed or switched off
(R170, Table HOST-9). -/
def State.cutDlineCal (s : State) (b : Fin 8) : State :=
  match s.runsOn opDLINE_CAL b with
  | none => s
  | some i =>
    match s.unitDone i b with
    | (s, true) => s
    | (s, false) => (s.measureLines s.ops.slots[i] false).interrupt i

/-- A bank test of SELF_TEST is requested (Table SAFE-9, bits 5 to 10). -/
def OpSlot.bankTests (x : OpSlot) : Bool := field (x.param 0) 10 5 != 0

/-- SELF_TEST ends INTERRUPTED when a bank whose requested bank tests have not all ended is armed or switched off
(R462, Table HOST-9). -/
def State.cutSelfTest (s : State) (b : Fin 8) : State :=
  match s.running opSELF_TEST with
  | none => s
  | some i =>
    if s.ops.slots[i].bankTests then
      match s.unitDone i b with
      | (s, true) => s
      | (s, false) => s.interrupt i
    else s

end Sys2Proof.Machine
end

