-- ==== Sys2Proof/Machine/Drive.lean ====
section
/-! DEFINITION. Sys2Proof/Machine/Drive.lean: what commands each half-bridge (Table PWM-4), how a command reaches the two
gates (R182 to R191), the side of an active short (R222), pin float (Table SCOPE-6, R184), the stop of an axis (R278) and
the disarming of a bank (R457, R458). -/
namespace Sys2Proof.Machine

/-! ### Registers with a delayed effect (R156, R187) -/

/-- The value that acts at PWM clock `t`: the latest write at least 4 clocks before it. -/
def Delayed.at (d : Delayed) (t : Nat) : Word :=
  d.log.foldl (fun v p => if p.1 + 4 ≤ t then p.2 else v) d.base

/-- The register with the writes that act at `t` taken up. -/
def Delayed.settle (d : Delayed) (t : Nat) : Delayed := ⟨d.at t, d.log.filter (fun p => t < p.1 + 4)⟩

/-- A write at PWM clock `t`. -/
def Delayed.write (d : Delayed) (t : Nat) (v : Word) : Delayed :=
  let d := d.settle t
  { d with log := d.log ++ [(t, v)] }

/-! ### Gates and half-bridges -/

/-- A gate of a half-bridge. -/
def HalfB.gate (x : HalfB) (side : Side) : Gate :=
  match side with
  | .low => x.ls
  | .high => x.hs

/-- The other side of a half-bridge. -/
def Side.other : Side → Side
  | .low => .high
  | .high => .low

/-- The side a command's Boolean names: true is the high side. -/
def sideOf (hi : Bool) : Side := if hi then .high else .low

/-- Change one gate. -/
def State.modGate (s : State) (h : Fin 72) (side : Side) (f : Gate → Gate) : State :=
  s.modHb h (fun x =>
    match side with
    | .low => { x with ls := f x.ls }
    | .high => { x with hs := f x.hs })

/-- A word of a half-bridge's registers, by the address function of its row: bank, then index in the bank. -/
def State.hbReg (s : State) (f : Nat → Nat → Nat) (h : Fin 72) : Word := s.rd (f (hbBank h).val (hbIn h).val)

/-- A detector flag of Table PROT-7 or GATE_STUCK stands on that side of a half-bridge: the "fault flag" of R222. -/
def State.faulted (s : State) (h : Fin 72) (side : Side) : Bool :=
  let f := s.hbReg A.PROT_CHFLT h
  let g := s.hbReg A.GATE_FLT h
  match side with
  | .low => bit f 0 || bit f 2 || bit f 4 || bit g 1
  | .high => bit f 1 || bit f 3 || bit f 5 || bit g 0

/-- Any fault flag stands on a half-bridge (R225). -/
def State.anyFault (s : State) (h : Fin 72) : Bool := s.faulted h .low || s.faulted h .high

/-- The side an ASC of an axis closes; `follows` is the side of the fault it follows, if it follows one (R222). -/
def State.ascSide (s : State) (a : Fin 24) (follows : Option Side) : Option Side :=
  let hbs := s.axHbs a
  let b := s.bank[axBank a]
  let lowOk := !hbs.any (fun h => s.faulted h .low)
  let highOk := !hbs.any (fun h => s.faulted h .high) && !b.vcpLock
  if b.vdrvLock then none
  else
    match follows with
    | some .high => if lowOk then some .low else none
    | some .low => if highOk then some .high else none
    | none => if lowOk then some .low else if highOk then some .high else none

/-! ### Precedence (Table PWM-4) -/

/-- The command that closes a side. -/
def ascCmd : Option Side → HbCmd
  | none => .hiz
  | some .low => .low
  | some .high => .high

/-- The slot can take ASC (Table IMG-6). -/
def SlotType.canAsc (x : SlotType) : Bool := x == .threePhase || x == .hBridge

/-- A cause puts the slots of the bank into their safe state (R201, R232, R443, R446, R453, R454, Over-temperature). -/
def Bank.safeCause (k : Bank) : Bool := k.vcpLock || k.ots || k.estop || k.dev || k.die || k.hand || k.convFlt

/-- A cause puts the slot of this axis into its safe state. A VCP_b lock-out that met a low-side ASC of the axis's own reaction
changes nothing there (Table PROT-6). -/
def Bank.safeOf (k : Bank) (x : Axis) : Bool :=
  Bank.safeCause { k with vcpLock := k.vcpLock && !(x.vcpKeep && x.react == .ascLow) }

/-- An ASC without a faulted switch of its own is commanded on the axis: a safe state or the VOV2 reaction (R222). -/
def State.wantsAsc (s : State) (a : Fin 24) : Bool :=
  let k := s.bank[axBank a]
  (s.axType a).canAsc &&
    (((k.safeOf s.ax[a] || s.ax[a].plaus) && (s.axCfg a).safe == 1) || (k.vov2 && (s.cfg (axBank a)).vov2 == 1))

/-- The commands that the causes of row 2 give a half-bridge, side by side (R233). -/
def State.row2 (s : State) (h : Fin 72) : List HbCmd :=
  let k := s.bank[hbBank h]
  let all := (if k.trip || k.vdrvLock || s.hb[h].loc then [HbCmd.hiz] else [])
  match s.hbAxis h with
  | none => if k.safeCause || k.vov2 then .hiz :: all else all
  | some (a, _) =>
    let x := s.ax[a]
    let react := match x.react with
      | .none => []
      | .hiz => [HbCmd.hiz]
      | .ascLow => [.low]
      | .ascHigh => [.high]
    let safe := if k.safeOf x || x.plaus then
      [if (s.axType a).canAsc && (s.axCfg a).safe == 1 then ascCmd x.safeSide else .hiz] else []
    let vov := if k.vov2 then
      [if (s.axType a).canAsc && (s.cfg (hbBank h)).vov2 == 1 then ascCmd x.safeSide else .hiz] else []
    all ++ react ++ safe ++ vov

/-- The command of row 2: phase Hi-Z wins over ASC (R233); none when no cause stands. -/
def State.row2Cmd (s : State) (h : Fin 72) : Option HbCmd :=
  match s.row2 h with
  | [] => none
  | c :: cs => if (c :: cs).contains .hiz then some .hiz else some c

/-- The command of a timer channel. -/
def ChCmd.hb : ChCmd → HbCmd
  | .low => .low
  | .high => .high
  | .hiz => .hiz

/-- The DDP pair of a half-bridge (R33, R204). -/
def State.ddpCmd (s : State) (h : Fin 72) : HbCmd :=
  if s.lands.ddpEn.getLsbD (hbIn h).val then
    if s.lands.ddpPul.getLsbD (hbIn h).val then .high else .low
  else .hiz

/-- The chopper drives this slot (R229, R230; AXIS_CFG.brk of Table IMG-6). -/
def State.chops (s : State) (a : Fin 24) : Bool :=
  let brk := (s.cfg (axBank a)).brk
  (s.bank[axBank a]).chop && brk % 4 == 2 && brk / 4 % 4 == (axSlot a).val

/-- Some slot of the bank is used; in a bank whose three slots are all UNUSED every half-bridge stays in phase Hi-Z and no
converter runs (R41). -/
def State.bankUsed (s : State) (b : Fin 8) : Bool := (axesOf b).any (fun a => s.axType a != .unused)

/-- What the DDP gives a half-bridge of the bank it is routed to (row 5): the pair, or the command that it keeps after row 2 has
released it, until the next wrap of its running timer as for a timer command (R177, R204). A half-bridge that no slot holds
follows its pair too: R33 names all nine pairs, R32 phase Hi-Z for such a half-bridge (DESIGN CHOICE, notes/assumptions/30.md). -/
def State.ddpDrive (s : State) (h : Fin 72) : HbCmd :=
  match s.hbAxis h with
  | none => s.ddpCmd h
  | some (a, _) => if s.tim[a].run then s.hb[h].back.getD (s.ddpCmd h) else s.ddpCmd h

/-- The row and command of a half-bridge that rows 3 to 9 of Table PWM-4 give; the timer's own rows 6 to 9 are one. A
half-bridge that row 2 has released keeps its command until the next wrap of its running timer (R177). The cycle-by-cycle
limit overlays rows 5 to 9 (R228), and a locked-out bootstrap supply turns HIGH into phase Hi-Z (R203). -/
def State.lowRows (s : State) (h : Fin 72) : Nat × HbCmd :=
  let k := s.bank[hbBank h]
  let x := s.hb[h]
  let lim (c : HbCmd) : HbCmd := x.limit.getD c
  match s.hbAxis h with
  | none =>
    if !k.armed then (4, .hiz)
    else if s.ddpBank (hbBank h) && s.bankUsed (hbBank h) then (5, lim (s.ddpDrive h))
    else (6, .hiz)
  | some (a, r) =>
    if s.axType a == .chopper then (3, if s.chops a then .low else .hiz)
    else if !k.armed then (4, .hiz)
    else if s.ddpBank (hbBank h) then (5, lim (s.ddpDrive h))
    else if s.tim[a].run then (6, lim (x.back.getD (s.tim[a].ch[r].cmd.hb)))
    else (6, lim .hiz)

/-- The row and command that drive a half-bridge now (R172, Table PWM-4). -/
def State.select (s : State) (h : Fin 72) : Nat × HbCmd :=
  match (s.bank[hbBank h]).flt with
  | .floating => (1, .float)
  | .entering => (1, .hiz)
  | .leaving => (1, .hiz)
  | .driven =>
    match s.row2Cmd h with
    | some c => (2, if c = .high ∧ (!s.hb[h].bst || s.hb[h].bstCut) then .hiz else c)
    | none =>
      let (n, c) := s.lowRows h
      (n, if c = .high ∧ (!s.hb[h].bst || s.hb[h].bstCut) then .hiz else c)

/-- A row above the forces drives the half-bridge of a timer channel (rows 1 to 5 of Table PWM-4, R163). -/
def State.aboveForces (s : State) (h : Fin 72) : Bool := (s.select h).1 ≤ 5

/-! ### From command to gates (R182 to R191) -/

/-- A switching edge opens the bank's blanking window (R227). -/
def State.openBlank (s : State) (b : Fin 8) (t : Nat) : State :=
  let w := 2 * field (s.rd (A.PROT_BLANK b.val)) 7 0
  s.modBank b (fun k => { k with blank := k.blank.filter (fun p => t ≤ p.2 + 1024) ++ [(t, t + w)] })

/-- The driver starts to turn a gate off at its sink or soft-off step and starts tHSTO (R183, R188, R191). -/
def State.turnOff (s : State) (t : Nat) (h : Fin 72) (side : Side) (soft : Bool) : State :=
  if (s.hb[h].gate side).on then
    let s := s.modGate h side (fun g =>
      { g with
        on := false, offAt := t, hsto := true, fell := false, wait := false, offPend := false, soft := soft, clamp := false
        step := if soft then (s.drive h).soft else field (g.idrv.at t) 3 0 })
    s.openBlank (hbBank h) t
  else s.modGate h side (fun g => { g with wait := false, offPend := false })

/-- Command a gate off: at once for rows 1 and 2 or after tGMIN, else the turn-off waits for tGMIN (R190). -/
def State.gateOff (s : State) (t : Nat) (h : Fin 72) (side : Side) (urgent : Bool) : State :=
  let g := s.hb[h].gate side
  if g.on && !urgent && t < g.onAt + 4 then s.modGate h side (fun g => { g with wait := false, offPend := true })
  else s.turnOff t h side false

/-- Command a gate on: the turn-on waits for the handshake of R189; a gate that is on stays on. -/
def State.gateOn (s : State) (h : Fin 72) (side : Side) : State :=
  s.modGate h side (fun g => if g.on then { g with offPend := false } else { g with wait := true })

/-- A command reaches the driver of a half-bridge (R182, R189, R190). -/
def State.deliver (s : State) (t : Nat) (h : Fin 72) (urgent : Bool) (c : HbCmd) : State :=
  let s := s.modHb h (fun x => { x with cmd := c })
  match c with
  | .high => (s.gateOff t h .low urgent).gateOn h .high
  | .low => (s.gateOff t h .high urgent).gateOn h .low
  | _ => (s.gateOff t h .low urgent).gateOff t h .high urgent

/-- Note that a row above the forces drives the channel of a half-bridge in this period (R163). -/
def State.markAbove (s : State) (h : Fin 72) : State :=
  match s.hbAxis h with
  | none => s
  | some (a, r) => s.modTim a (fun x => { x with ch := x.ch.set r { x.ch[r] with above := true } })

/-- A HIGH command that the bootstrap lock-out blocks: the interval is counted once (R203). -/
def State.bstBlock (s : State) (h : Fin 72) : State :=
  let b := hbBank h
  let i := (hbIn h).val
  let s := (s.modHb h (fun x => { x with bstCut := true })).satInc (A.GATE_BSTUVCNT b.val i)
  if bit (s.rd (A.GATE_FLT b.val i)) 2 then s
  else (s.setFlags (A.GATE_FLT b.val i) (bitW 2)).raise (evBST_UV b) (w16 (3 * 256 + i)) (s.rd (A.GSUP_FLT b.val))

/-- What rows 2 to 9 command, before the bootstrap lock-out turns a HIGH into phase Hi-Z (R203). -/
def State.wanted (s : State) (h : Fin 72) : HbCmd :=
  match s.row2Cmd h with
  | some c => c
  | none => (s.lowRows h).2

/-- A row 2 command, or a higher one, that leaves the driver where it is ends a wait for tGMIN: the turn-off starts at once
(R190, R208). -/
def State.urge (s : State) (t : Nat) (h : Fin 72) : State :=
  s.each [Side.low, Side.high] (fun s side =>
    let g := s.hb[h].gate side
    if g.on && g.offPend then s.turnOff t h side false else s)

/-- Bring the driver of a half-bridge to the command that Table PWM-4 selects now (R172, R182). A HIGH interval that the
bootstrap lock-out blocks is counted (R203), and its mark ends with the interval. -/
def State.redrive (s : State) (t : Nat) (h : Fin 72) : State :=
  let s :=
    if (s.bank[hbBank h]).flt = .driven then
      if s.wanted h = .high then
        if s.hb[h].bst || s.hb[h].bstCut then s else s.bstBlock h
      else s.modHb h (fun x => { x with bstCut := false })
    else s
  let (row, c) := s.select h
  let s := if row ≤ 5 then s.markAbove h else s
  if s.hb[h].cmd = c then (if row ≤ 2 then s.urge t h else s) else s.deliver t h (row ≤ 2) c

/-- Bring every half-bridge of a bank to its command. -/
def State.redriveBank (s : State) (t : Nat) (b : Fin 8) : State := s.each (hbsOf b) (fun s h => s.redrive t h)

/-- Bring every half-bridge of an axis to its command. -/
def State.redriveAxis (s : State) (t : Nat) (a : Fin 24) : State := s.each (s.axHbs a) (fun s h => s.redrive t h)

/-- A half-bridge that row 2 releases keeps its command until the next wrap (R177). -/
def State.release (s : State) (h : Fin 72) (old : Option HbCmd) : State :=
  match old, s.row2Cmd h with
  | some c, none => s.modHb h (fun x => { x with back := some c })
  | _, _ => s

/-- Change the causes of row 2 on a set of half-bridges, release those that no cause holds any more, and bring each to its
command (R177, R221, R233). -/
def State.reRow2 (s : State) (t : Nat) (hbs : List (Fin 72)) (f : State → State) : State :=
  let old := hbs.map (fun h => (h, s.row2Cmd h))
  let s := f s
  let s := s.each old (fun s p => s.release p.1 p.2)
  s.each hbs (fun s h => s.redrive t h)

/-! ### Pin float (R18, R184, Table SCOPE-6) -/

/-- A row of Table SCOPE-6 that gives pin float applies to the bank, the gate check of R419 apart; the hold of R372 stands
above the rows that the driver die does not see (R476). -/
def State.floatCond (s : State) (b : Fin 8) : Bool :=
  s.pair.lockout || ((s.bank[b]).hold.isNone && (s.lands.inReset || !s.pair.owner || !s.dom b.val))

/-- The bank enters pin float: phase Hi-Z on all nine half-bridges first (R184). -/
def State.enterFloat (s : State) (t : Nat) (b : Fin 8) : State :=
  if (s.bank[b]).flt = .driven ∨ (s.bank[b]).flt = .leaving then
    (s.modBank b (fun k => { k with flt := .entering, fltAt := t })).redriveBank t b
  else s

/-- Judge the pin float condition of a bank. -/
def State.refloat (s : State) (t : Nat) (b : Fin 8) : State := if s.floatCond b then s.enterFloat t b else s

/-- The output stages of the bank are disabled (R184); the tHSTO timers of turn-offs that are not complete run on (R191). -/
def State.disableStages (s : State) (b : Fin 8) : State :=
  let s := s.modBank b (fun k => { k with flt := .floating })
  s.each (hbsOf b) (fun s h =>
    s.modHb h (fun x =>
      { x with
        cmd := .float
        hs := { x.hs with on := false, wait := false, offPend := false, clamp := false }
        ls := { x.ls with on := false, wait := false, offPend := false, clamp := false } }))

/-- The output stages of the bank are enabled: every gate sinks and is clamped (R183, R184). -/
def State.enableStages (s : State) (b : Fin 8) : State :=
  s.each (hbsOf b) (fun s h =>
    s.modHb h (fun x => { x with hs := { x.hs with clamp := true }, ls := { x.ls with clamp := true } }))

/-! ### The stop of an axis (R257, R278, R279) -/

/-- The cause field of AX_STAT (Table AXIS-8). -/
def AxCause.code : AxCause → Nat
  | .none => 0
  | .host => 1
  | .startFail => 2
  | .stall => 3
  | .hall => 4
  | .enc => 5
  | .adc => 6
  | .fault => 7
  | .phaseLost => 8
  | .disarm => 9
  | .safe => 10
  | .config => 11

/-- The causes that make AXIS a FAULT event (Table EVT-6). -/
def AxCause.isFault : AxCause → Bool
  | .fault => true
  | .phaseLost => true
  | .safe => true
  | _ => false

/-- An axis enters STOPPED: its integrators are cleared, and a cause other than NONE and HOST raises AXIS (R278, R279). -/
def State.toStopped (s : State) (a : Fin 24) (c : AxCause) : State :=
  let s := s.modAx a (fun x =>
    { x with
      st := .stopped, cause := c, stopping := false, dwell := false, ilim := false, hand := false
      iD := 0, iQ := 0, iS := 0, iC := Vector.replicate 3 0, confAt := none, errAt := none, handAcc := none, stale := 0
      parked := none })
  match c with
  | .none => s
  | .host => s
  | c => s.raiseAxis (axBank a) c.isFault (w16 a.val) (w16 c.code)

/-- A protection reaction, a disarm or a safe state stops an axis that is not STOPPED; MOTOR_ID on it ends INTERRUPTED
(R278, Table AXIS-6, Table HOST-11). -/
def State.stopAxis (s : State) (a : Fin 24) (c : AxCause) : State :=
  if s.ax[a].st = .stopped then s
  else
    let s := if s.ax[a].st = .ident ∧ s.ax[a].parked = none then s.failOp opMOTOR_ID else s
    s.toStopped a c

/-! ### Arming state (R457, R458) -/

/-- The BANK_ARM event of a bank (R458, Table EVT-6). -/
def State.raiseArm (s : State) (b : Fin 8) : State :=
  let k := s.bank[b]
  s.raise (evBANK_CFG b) (w16 (2 * 256 + b.val)) (w16 (k.cause * 256 + b2n k.armed))

/-- Disarm a bank with a cause of Table SAFE-5, its axes stopping with `stop`: the operations that hold the bank, armed or not, end
INTERRUPTED (Tables HOST-9, HOST-11). A bank that is not armed raises no event (R458). -/
def State.disarm (s : State) (t : Nat) (b : Fin 8) (cause : Nat) (stop : AxCause) : State :=
  let s := (s.each (axesOf b) (fun s a => s.stopAxis a stop)).cutShuntCal b
  if (s.bank[b]).armed then
    let s := s.modBank b (fun k => { k with armed := false, cause := cause })
    (s.raiseArm b).redriveBank t b
  else s

end Sys2Proof.Machine
end

