-- ==== Sys2Proof/Machine/Reactions.lean ====
section
/-! DEFINITION. Sys2Proof/Machine/Reactions.lean: axis reactions and their release (R218 to R225), bank-wide causes of row 2
(R233), the loss of an active short (R201, R223), the release of pair ownership (R431a) and CONTENTION (R422). -/
namespace Sys2Proof.Machine

/-! ### Active shorts -/

/-- The reaction that closes a side (Table PROT-2). -/
def reactOf : Option Side → React
  | none => .hiz
  | some .low => .ascLow
  | some .high => .ascHigh

/-- An axis holds an ASC, by its own reaction or by a safe state. -/
def State.holdsAsc (s : State) (a : Fin 24) : Bool :=
  s.ax[a].react == .ascLow || s.ax[a].react == .ascHigh || (s.wantsAsc a && s.ax[a].safeSide.isSome)

/-- An axis holds an ASC on its high side. -/
def State.holdsAscHigh (s : State) (a : Fin 24) : Bool :=
  s.ax[a].react == .ascHigh || (s.wantsAsc a && s.ax[a].safeSide == some .high)

/-- An ASC finds no usable side: phase Hi-Z, asc_lost and PROT_WARN with ASC_LOST (R201, R223). -/
def State.loseAsc (s : State) (a : Fin 24) : State :=
  let b := axBank a
  let j := (axSlot a).val
  let s := s.modAx a (fun x =>
    { x with react := if x.react = .ascLow ∨ x.react = .ascHigh then .hiz else x.react, safeSide := none })
  (s.setFlags (A.PROT_AXSTAT b.val j) (bitW 0)).raise (evPROT_WARN b) (w16 (2 * 256 + j)) (s.rd (A.PROT_BFLT b.val))

/-- A half-bridge whose HIGH the bootstrap lock-out blocks or cuts short has that interval counted, once (R203). -/
def State.countCut (s : State) (h : Fin 72) : State :=
  if (s.bank[hbBank h]).flt = .driven ∧ s.wanted h = .high ∧ s.hb[h].bst = false ∧ s.hb[h].bstCut = false then s.bstBlock h
  else s

/-- An ASC on the high side needs every bootstrap supply of the axis (R223); each HIGH that it loses is counted (R203). -/
def State.ascSupply (s : State) (a : Fin 24) : State :=
  if s.holdsAscHigh a && (s.axHbs a).any (fun h => !s.hb[h].bst) then (s.each (s.axHbs a) State.countCut).loseAsc a else s

/-- The ASC of a safe state or of VOV2 chooses its side when it begins, and forgets it when it ends (R222). -/
def State.sideFor (s : State) (a : Fin 24) (before : Bool) : State :=
  if s.wantsAsc a then
    if before then s else (s.modAx a (fun x => { x with safeSide := s.ascSide a none })).ascSupply a
  else s.modAx a (fun x => { x with safeSide := none })

/-- An ASC in force chooses its side again after a new fault or a VCP_b lock-out (R201, R222, Table PROT-2); `follows` is
the side of a new fault of the axis, if there is one. -/
def State.rejudge (s : State) (a : Fin 24) (follows : Option Side) : State :=
  let held := s.holdsAsc a
  let x := s.ax[a]
  let react := match x.react with
    | .ascLow => reactOf (s.ascSide a (some (follows.getD .high)))
    | .ascHigh => reactOf (s.ascSide a (some (follows.getD .low)))
    | r => r
  let side := if s.wantsAsc a && x.safeSide.isSome then s.ascSide a none else x.safeSide
  let s := s.modAx a (fun x => { x with react := react, safeSide := side })
  if held && !s.holdsAsc a then s.loseAsc a else s.ascSupply a

/-! ### Bank-wide causes of row 2 -/

/-- Set or clear causes of row 2 of a bank; each ASC that begins chooses its side, and each half-bridge takes its command
(R222, R233). -/
def State.bankCause (s : State) (t : Nat) (b : Fin 8) (f : Bank → Bank) : State :=
  let before := (axesOf b).map (fun a => (a, s.wantsAsc a))
  s.reRow2 t (hbsOf b) (fun s => (s.modBank b f).each before (fun s p => s.sideFor p.1 p.2))

/-- A protection reaction on a bank stops its THREE_PHASE and H_BRIDGE axes with cause FAULT and ends a shunt calibration
of the bank (R278, Table HOST-11). -/
def State.stopByFault (s : State) (b : Fin 8) : State :=
  (s.each (axesOf b) (fun s a => if (s.axType a).canAsc then s.stopAxis a .fault else s)).cutShuntCal b

/-! ### Axis reactions (R218 to R225) -/

/-- The axis state after a fault on one of its switches (Tables PROT-1, PROT-2). -/
def State.takeReaction (s : State) (a : Fin 24) (h : Fin 72) (side : Side) : State :=
  let r := (s.axCfg a).reaction
  if r = 0 ∨ s.axType a = .chopper then s.modHb h (fun x => { x with loc := true })
  else if r = 1 then s.modAx a (fun x => { x with react := .hiz })
  else
    match s.ax[a].react with
    | .none => (s.modAx a (fun x => { x with react := reactOf (s.ascSide a (some side)) })).ascSupply a
    | _ => s

/-- How the axis engine takes a reaction (R278, Table AXIS-6): a THREE_PHASE or H_BRIDGE axis stops; a channel of a SINGLE
slot has its integrator cleared and pauses. -/
def State.engineFault (s : State) (a : Fin 24) (r : Fin 3) : State :=
  match s.axType a with
  | .threePhase => s.stopAxis a (if (s.axCfg a).reaction = 0 then .phaseLost else .fault)
  | .hBridge => s.stopAxis a (if (s.axCfg a).reaction = 0 then .phaseLost else .fault)
  | .single => s.modAx a (fun x => { x with iC := x.iC.set r 0 })
  | _ => s

/-- A faulted switch turns off at its soft-off step, also where the reaction to another fault of this PWM clock has begun to turn
it off at its sink step (R219, R233). -/
def State.softOff (s : State) (t : Nat) (h : Fin 72) (side : Side) : State :=
  if (s.hb[h].gate side).on then s.turnOff t h side true
  else s.modGate h side (fun g => { g with wait := false, offPend := false, soft := true, step := (s.drive h).soft })

/-- The reaction of the axis to a fault on a switch of half-bridge `h` (R192, R219, R221): the faulted switch turns off at
its soft-off step, unless it is stuck, and every half-bridge takes its command at the same PWM clock (R234). A half-bridge
of no slot takes phase Hi-Z by itself. A shunt calibration of the bank ends (Table HOST-11). -/
def State.axisReaction (s : State) (t : Nat) (h : Fin 72) (side : Side) (stuck : Bool) : State :=
  let s := (if stuck then s else s.softOff t h side).cutShuntCal (hbBank h)
  match s.hbAxis h with
  | none => s.reRow2 t [h] (fun s => s.modHb h (fun x => { x with loc := true }))
  | some (a, r) =>
    let s := s.reRow2 t (s.axHbs a) (fun s => (s.takeReaction a h side).rejudge a (some side))
    s.engineFault a r

/-- The detector flags and `first` of PROT_CHFLT_i after detector `k` (0 DESAT, 1 HARD_SHORT, 2 PLATEAU) trips on a side
(R218, Table PROT-7). `same` says that another detector tripped first on the switch at the same PWM clock. -/
def chfltAfter (w : Word) (k : Nat) (side : Side) (same : Bool) : Word :=
  let hi := b2n (side == .high)
  let w' := w ||| bitW (2 * k + hi)
  if field w 5 0 = 0 then setField (setField w' 14 12 (k + 1)) 11 11 hi
  else if same && field w 11 11 == hi && k + 1 < field w 14 12 then setField w' 14 12 (k + 1)
  else w'

/-- A detector trips (R218, R220): its flag, PS_SHORT, and the reaction if no detector has tripped on the switch before. -/
def State.detect (s : State) (t : Nat) (h : Fin 72) (side : Side) (k : Nat) : State :=
  let b := (hbBank h).val
  let i := (hbIn h).val
  let w := s.rd (A.PROT_CHFLT b i)
  let g := s.hb[h].gate side
  let fstBit := (field w 14 12 - 1) * 2 + b2n (side == .high)
  let same := !g.on && bit (s.freshAt (A.PROT_CHFLT b i)) fstBit
  let w' := chfltAfter w k side same
  let s := (s.setFlags (A.PROT_CHFLT b i) (bitW (2 * k + b2n (side == .high)))).wr (A.PROT_CHFLT b i) w'
  let s := s.raise (evPS_SHORT (hbBank h)) (w16 h.val) (w' &&& 0x783F)
  if g.on || !g.soft then s.axisReaction t h side false else s

/-- A switch is driven on, or a fault reaction began to turn it off at this very PWM clock: its detectors trip at that edge too
(R214, R218, R234). -/
def State.checked (s : State) (t : Nat) (h : Fin 72) (side : Side) : Bool :=
  let g := s.hb[h].gate side
  g.on || (g.offAt == t && (g.soft || (s.row2Cmd h).isSome))

/-- Release the fault reactions of a bank whose flags are clear (R225). -/
def State.releaseFaults (s : State) (t : Nat) (b : Fin 8) : State :=
  s.reRow2 t (hbsOf b) (fun s =>
    let s := s.each (hbsOf b) (fun s h => if s.anyFault h then s else s.modHb h (fun x => { x with loc := false }))
    s.each (axesOf b) (fun s a =>
      if (s.axHbs a).any (fun h => s.anyFault h) then s
      else s.modAx a (fun x => { x with react := .none, vcpKeep := false })))

/-! ### Ownership and contention (R419, R422, R431a) -/

/-- All 18 gates of a bank are sensed below VGS_OFF (R419). -/
def State.gatesLow (s : State) (b : Fin 8) : Bool :=
  (hbsOf b).all (fun h => !s.hb[h].hs.sensed && !s.hb[h].ls.sensed)

/-- The gate check of a bank starts when its conditions hold, and starts again when one breaks (R419). -/
def State.gateCheck (s : State) (t : Nat) (b : Fin 8) : State :=
  let ok := s.pair.owner && !s.pair.lockout && !s.lands.inReset && !s.pair.ownIn && s.dom b.val &&
    (s.bank[b]).flt == .floating && s.pair.take != some .seen && s.pair.take != some .owner && s.gatesLow b
  let v := if ok then some ((s.pair.gchk[b]).getD (max t (s.pair.ownAt + 400))) else none
  s.modPair (fun p => { p with gchk := p.gchk.set b v })

/-- The eight banks. -/
def allBanks : List (Fin 8) := List.finRange 8

/-- The owner's partner is ready now: as the latest STATUS frame shows, with every armed bank (R429). -/
def State.partnerOk (s : State) : Bool :=
  s.pair.partnerReady && allBanks.all (fun b => !(s.bank[b]).armed || s.pair.rdy.getLsbD b.val)

/-- Judge the pin float condition and the gate check of every bank. -/
def State.refloatAll (s : State) (t : Nat) : State :=
  (s.each allBanks (fun s b => s.refloat t b)).each allBanks (fun s b => s.gateCheck t b)

/-- The driver die's hold of a bank ends (R372): its safe state is released, and the bank enters pin float unless it is a bank
that Table SCOPE-6 leaves driven. -/
def State.endHold (s : State) (t : Nat) (b : Fin 8) : State :=
  if (s.bank[b]).hold.isSome || (s.bank[b]).hand then
    (s.bankCause t b (fun k => { k with hand := false, hold := none })).refloat t b
  else s

/-- The device becomes standby and raises PAIR_OWNER; every bank enters pin float (R431a). A release during a takeover
carries cause ABANDON (Table PAIR-8). -/
def State.releaseOwner (s : State) (t : Nat) (cause : Nat) : State :=
  let cause := if s.pair.take.isSome then 10 else cause
  let s := s.modPair (fun p =>
    { p with owner := false, ownCause := cause, handPend := false, partnerReady := false, take := none, claimAt := none })
  (s.raise evPAIR_OWNER 0 (w16 cause)).refloatAll t

/-- CONTENTION (R422): every bank enters pin float and is disarmed, which ends a shunt calibration, an owner releases, and the
device is in lockout. -/
def State.contention (s : State) (t : Nat) (h : Fin 72) : State :=
  let s := s.raise evCONTENTION (w16 (hbBank h).val) (bitW (hbIn h).val)
  let s := s.modPair (fun p => { p with lockout := true })
  let s := if s.pair.owner then s.releaseOwner t 7 else s.refloatAll t
  s.each allBanks (fun s b => s.disarm t b 6 .disarm)

end Sys2Proof.Machine
end

