-- ==== Sys2Proof/Machine/Gates.lean ====
section
/-! DEFINITION. Sys2Proof/Machine/Gates.lean: the gate channels: commands at the driver, the handshake, gate sense, pin
float, gate supplies and the direct drive port (06_gate_drivers.md). `at'` is the PWM clock at which the driver begins. -/
namespace Sys2Proof.Machine

/-! ### Commands and the handshake (R182 to R192) -/

/-- The sense comparators of a bank run: the domain is on or the driver die holds the bank (R193). -/
def State.senseOn (s : State) (b : Fin 8) : Bool := (s.dom b.val && !s.lands.inReset) || (s.bank[b]).hold.isSome

/-- COMMAND_CHANGE (R182, R190): the command that Table PWM-4 selects reaches the driver. -/
def execCommandChange (at' : Fin 200) (h : Fin 72) (s : State) : Host.Outcome State Fault Refusal :=
  .next (s.redrive (s.clkAt at') h)

/-- tDEADMIN of a half-bridge in PWM clocks (R189). -/
def State.tdead (s : State) (h : Fin 72) : Nat := field (s.hbReg A.GATE_DT h) 7 0

/-- The three conditions of a turn-on hold (R189). -/
def State.mayTurnOn (s : State) (t : Nat) (h : Fin 72) (side : Side) : Bool :=
  let c := s.hb[h].gate side.other
  (s.hb[h].gate side).wait && !c.on && !c.sensed && c.offAt + s.tdead h ≤ t

/-- The turn-on of a gate begins (R183, R189, R214). -/
def State.turnOn (s : State) (t : Nat) (h : Fin 72) (side : Side) : State :=
  let s := s.modGate h side (fun g =>
    { g with
      on := true, onAt := t, wait := false, offPend := false, hsto := false, soft := false, clamp := false, sensed := true
      plateau := false, counts := false, armed := false
      ds := s.hbReg A.PROT_DS h, dg := s.hbReg A.PROT_DG h, step := field (g.idrv.at t) 7 4 })
  s.openBlank (hbBank h) t

/-- TURN_ON_START (R189). -/
def execTurnOnStart (at' : Fin 200) (h : Fin 72) (hi : Bool) (s : State) : Host.Outcome State Fault Refusal :=
  .next (if s.mayTurnOn (s.clkAt at') h (sideOf hi) then s.turnOn (s.clkAt at') h (sideOf hi) else s)

/-- TGMIN_EXPIRY (R190): the turn-off that waited for tGMIN begins. -/
def execTgminExpiry (at' : Fin 200) (h : Fin 72) (hi : Bool) (s : State) : Host.Outcome State Fault Refusal :=
  let g := s.hb[h].gate (sideOf hi)
  .next (if g.on && g.offPend && g.onAt + 4 ≤ s.clkAt at' then s.turnOff (s.clkAt at') h (sideOf hi) false else s)

/-- The gate is sensed below VGS_OFF (R183, R189, R191, R193): a turn-off is complete, and its clamp engages while the output
stages are enabled. -/
def gateOffSensed (t : Nat) (h : Fin 72) (side : Side) (s : State) : State :=
  let enabled := (s.bank[hbBank h]).flt != .floating
  let s := s.modGate h side (fun g =>
    if g.on then { g with sensed := false } else { g with sensed := false, hsto := false, fell := true, clamp := enabled })
  s.gateCheck t (hbBank h)

/-- GATE_OFF_SENSED (R193): the comparators run while the domain is on or the driver die holds the bank. -/
def execGateOffSensed (at' : Fin 200) (h : Fin 72) (hi : Bool) (s : State) : Host.Outcome State Fault Refusal :=
  .next (if s.senseOn (hbBank h) then gateOffSensed (s.clkAt at') h (sideOf hi) s else s)

/-- tHSTO in PWM clocks (R191). -/
def State.thsto (s : State) (b : Fin 8) : Nat := if (s.cfg b).hsto = 1 then 800 else 400

/-- GATE_STUCK (R191, R192): tHSTO has run out before the gate fell; the gate sinks on at its sink step, also where its turn-off
began at the soft-off step (R219). -/
def gateStuck (t : Nat) (h : Fin 72) (side : Side) (s : State) : State :=
  let b := hbBank h
  let i := (hbIn h).val
  let s := s.modGate h side (fun g =>
    { g with hsto := false, soft := false, step := if g.soft then field (g.idrv.at t) 3 0 else g.step })
  let s := s.modGate h side.other (fun g => { g with wait := false })
  let s := s.setFlags (A.GATE_FLT b.val i) (bitW (b2n (side == .low)))
  let s := s.raise (evGATE_STUCK b) (w16 (256 + i)) (s.rd (A.GATE_FLT b.val i))
  let s := s.axisReaction t h side true
  if s.hb[h].cmd = (s.select h).2 then s.deliver t h true (s.select h).2 else s

/-- GATE_STUCK (R191). -/
def execGateStuck (at' : Fin 200) (h : Fin 72) (hi : Bool) (s : State) : Host.Outcome State Fault Refusal :=
  let g := s.hb[h].gate (sideOf hi)
  .next (if s.senseOn (hbBank h) && g.hsto && !g.on && g.offAt + s.thsto (hbBank h) ≤ s.clkAt at' then gateStuck (s.clkAt at') h (sideOf hi) s
    else s)

/-! ### Gate sense (R193, R194) -/

/-- A foreign rise is CONTENTION: in an owner's bank outside pin float, or during a gate check (R422). -/
def State.contends (s : State) (b : Fin 8) : Bool :=
  s.pair.owner && ((s.bank[b]).flt != .floating || (s.pair.gchk[b]).isSome)

/-- GATE_FGN (R194, R418, R422): a foreign rise. -/
def gateFgn (t : Nat) (h : Fin 72) (side : Side) (s : State) : State :=
  let b := hbBank h
  let i := (hbIn h).val
  let hit := s.contends b
  let s := s.modGate h side (fun g => { g with sensed := true, fell := false })
  let s := s.setFlags (A.GATE_FLT b.val i) (bitW (if side = .high then 3 else 4))
  let s := s.raise (evGATE_FGN b) (w16 (2 * 256 + i)) (s.rd (A.GATE_FLT b.val i))
  let s := s.gateCheck t b
  if hit then s.contention t h else s

/-- GATE_FGN (R193, R194): in a standby the check is suspended (R418), and the comparator follows the partner's edge. -/
def execGateFgn (at' : Fin 200) (h : Fin 72) (hi : Bool) (s : State) : Host.Outcome State Fault Refusal :=
  let g := s.hb[h].gate (sideOf hi)
  .next (if s.senseOn (hbBank h) && g.fell && !g.on then
      if s.pair.owner then gateFgn (s.clkAt at') h (sideOf hi) s
      else (s.modGate h (sideOf hi) (fun g => { g with sensed := true, fell := false })).gateCheck (s.clkAt at') (hbBank h)
    else s)

/-! ### Pin float (R184) -/

/-- FLOAT_ENTRY (R184): a pin float condition of Table SCOPE-6 takes the bank out of its driven state. -/
def execFloatEntry (at' : Fin 200) (b : Fin 8) (s : State) : Host.Outcome State Fault Refusal :=
  .next (s.refloat (s.clkAt at') b)

/-- FLOAT_OUTPUT_DISABLE (R184): every gate is off, or 800 ns have passed. -/
def execFloatOutputDisable (at' : Fin 200) (b : Fin 8) (s : State) : Host.Outcome State Fault Refusal :=
  .next (if (s.bank[b]).flt = .entering ∧ (s.gatesLow b = true ∨ (s.bank[b]).fltAt + 160 ≤ s.clkAt at') then
      (s.disableStages b).gateCheck (s.clkAt at') b
    else s)

/-- FLOAT_EXIT_HOLD_END (R184): after 100 ns in phase Hi-Z the driver follows commands. -/
def execFloatExitHoldEnd (at' : Fin 200) (b : Fin 8) (s : State) : Host.Outcome State Fault Refusal :=
  .next (if (s.bank[b]).flt = .leaving ∧ (s.bank[b]).fltAt + 20 ≤ s.clkAt at' then
      (s.modBank b (fun k => { k with flt := .driven })).redriveBank (s.clkAt at') b
    else s)

/-- The bank leaves pin float: its output stages are enabled in phase Hi-Z, every gate sinking and clamped (R184), and its
chopper may run again, which begins a new time on (R230, R231). -/
def State.leaveFloat (s : State) (t : Nat) (b : Fin 8) : State :=
  let now := s.clk.ticks
  let s := s.modBank b (fun k => { k with flt := .leaving, fltAt := t, chopAt := now, chopLong := false })
  (s.enableStages b).redriveBank t b

/-! ### Gate supplies (R199 to R203) -/

/-- VDRV_UV (R199, R200): the latched lock-out, once it is armed; it ends a hold of the bank (R372). -/
def vdrvUv (t : Nat) (b : Fin 8) (s : State) : State :=
  let k := s.bank[b]
  let s := s.modBank b (fun k => { k with vdrvOk := false })
  if k.vdrvSeen && !k.vdrvLock then
    let s := s.setFlags (A.GSUP_FLT b.val) (bitW 0)
    let s := (s.raise (evGATE_UV b) 0x01FF (s.rd (A.GSUP_FLT b.val))).bankCause t b (fun k => { k with vdrvLock := true })
    if (s.bank[b]).hold.isSome then s.endHold t b else s
  else s

/-- VDRV_UV (R200). -/
def execVdrvUv (at' : Fin 200) (b : Fin 8) (s : State) : Host.Outcome State Fault Refusal :=
  .next (if s.senseOn b then vdrvUv (s.clkAt at') b s else s)

/-- VCP_UV (R201): in charge-pump mode the slots take their safe states with the high side unusable; a low-side ASC of an axis's
own reaction stays (Table PROT-6). -/
def vcpUv (t : Nat) (b : Fin 8) (s : State) : State :=
  let k := s.bank[b]
  let s := s.modBank b (fun k => { k with vcpOk := false })
  if k.vcpSeen && !k.vcpLock then
    let s := s.setFlags (A.GSUP_FLT b.val) (bitW 1)
    let s := s.raise (evGATE_UV b) 0x02FF (s.rd (A.GSUP_FLT b.val))
    let s := s.each (axesOf b) (fun s a => s.modAx a (fun x => { x with vcpKeep := x.react == .ascLow }))
    let s := s.bankCause t b (fun k => { k with vcpLock := true })
    s.each (axesOf b) (fun s a =>
      let old := (s.axHbs a).map (fun h => h)
      s.reRow2 t old (fun s =>
        let s := s.rejudge a none
        if s.wantsAsc a && s.ax[a].safeSide.isNone && (s.axCfg a).safe == 1 && !bit (s.rd (A.PROT_AXSTAT b.val (axSlot a).val)) 0
        then s.loseAsc a else s))
  else s

/-- VCP_UV (R201). -/
def execVcpUv (at' : Fin 200) (b : Fin 8) (s : State) : Host.Outcome State Fault Refusal :=
  .next (if s.senseOn b && s.cpBank b then vcpUv (s.clkAt at') b s else s)

/-- BST_UV (R203, R223): the high side turns off, a HIGH gives phase Hi-Z, and an ASC on the high side is lost. -/
def bstUv (t : Nat) (h : Fin 72) (s : State) : State :=
  let s := s.modHb h (fun x => { x with bst := false })
  let s := s.countCut h
  match s.hbAxis h with
  | none => s.redrive t h
  | some (a, _) => s.reRow2 t (s.axHbs a) (fun s => s.ascSupply a)

/-- BST_UV (R203). -/
def execBstUv (at' : Fin 200) (h : Fin 72) (s : State) : Host.Outcome State Fault Refusal :=
  .next (if s.senseOn (hbBank h) && s.hb[h].bst then bstUv (s.clkAt at') h s else s)

/-- A gate supply rises above its rising threshold: VDRV_b, VCP_b in charge-pump mode, or BSThh (R199). -/
def supplyRise (which : Fin 3) (i : Fin 72) (s : State) : State :=
  if which = 2 then
    if s.senseOn (hbBank i) then s.modHb i (fun x => { x with bst := true }) else s
  else if hb : i.val < 8 then
    let b : Fin 8 := ⟨i.val, hb⟩
    if s.senseOn b = false then s
    else if which = 0 then s.modBank b (fun k => { k with vdrvOk := true, vdrvSeen := true })
    else if s.cpBank b then s.modBank b (fun k => { k with vcpOk := true, vcpSeen := true })
    else s
  else s

/-- SUPPLY_RISE (R199). -/
def execSupplyRise (which : Fin 3) (i : Fin 72) (s : State) : Host.Outcome State Fault Refusal :=
  .next (supplyRise which i s)

/-- A write of 1 to vdrv_uv or vcp_uv releases the lock-out if its supply is above its rising threshold (R202). -/
def gsupFltClear (b : Fin 8) (d : Word) (s : State) : State :=
  let k := s.bank[b]
  let m := (if k.vdrvOk then d &&& bitW 0 else 0) ||| (if k.vcpOk then d &&& bitW 1 else 0)
  let s := s.clrFlags (A.GSUP_FLT b.val) m
  let f := s.rd (A.GSUP_FLT b.val)
  s.bankCause (200 * s.clk.ticks) b (fun k => { k with vdrvLock := k.vdrvLock && bit f 0, vcpLock := k.vcpLock && bit f 1 })

/-! ### Direct drive port (R33, R204) -/

/-- A pulse that may or may not pass a filter (R204, R232): shorter than `lo` it is removed, longer than `hi` it passes, and
between them a free value decides. -/
def State.passes (s : State) (width lo hi : Nat) : State × Bool :=
  if width < lo then (s, false) else if hi < width then (s, true) else (s.took, Config.freeBool s.free)

/-- An edge of a DDP input takes the level (R204). -/
def State.setDdp (s : State) (en : Bool) (i : Fin 9) (level : Bool) : State :=
  s.modLands (fun l =>
    let put (w : BitVec 9) : BitVec 9 := if level then w ||| BitVec.twoPow 9 i.val else w &&& ~~~ BitVec.twoPow 9 i.val
    if en then { l with ddpEn := put l.ddpEn } else { l with ddpPul := put l.ddpPul })

/-- DDP_INPUT_EDGE (R204): an edge whose level lasts `width` ns passes the glitch filter and commands its half-bridge. -/
def execDdpInputEdge (at' : Fin 200) (en : Bool) (i : Fin 9) (level : Bool) (width : Nat) (s : State) :
    Host.Outcome State Fault Refusal :=
  .next (if s.hears then
      match s.passes width 5 10 with
      | (s, false) => s
      | (s, true) =>
        let s := s.setDdp en i level
        match s.ddpAt with
        | none => s
        | some b => if hb : b < 8 then s.redrive (s.clkAt at') (hbOf ⟨b, hb⟩ i) else s
    else s)

end Sys2Proof.Machine
end

