-- ==== Sys2Proof/Machine/Protect.lean ====
section
/-! DEFINITION. Sys2Proof/Machine/Protect.lean: the detectors, the trip input, the current limit, over-voltage, the brake
chopper and over-temperature (07_power_stage_protection.md). ESTOP_N is in Supervisor.lean. -/
namespace Sys2Proof.Machine

/-! ### Detectors (R213 to R220) -/

/-- tDSBL of a gate in PWM clocks, as taken at its turn-on start (R215). -/
def Gate.tdsbl (g : Gate) : Nat := 40 * (field g.ds 12 8 + 1)

/-- tDSDG of a gate in PWM clocks (R215). -/
def Gate.tdsdg (g : Gate) : Nat := 10 * field g.dg 4 0

/-- tPLAT of a gate in PWM clocks (R217). -/
def Gate.tplat (g : Gate) : Nat := 100 * (field g.dg 11 8 + 1)

/-- DSBL_EXPIRY (R215): from now on the desaturation comparator counts. -/
def execDsblExpiry (at' : Fin 200) (h : Fin 72) (hi : Bool) (s : State) : Host.Outcome State Fault Refusal :=
  let g := s.hb[h].gate (sideOf hi)
  .next (if g.on && g.onAt + g.tdsbl ≤ s.clkAt at' then s.modGate h (sideOf hi) (fun g => { g with counts := true }) else s)

/-- DESAT (R215, R218). -/
def execDesat (at' : Fin 200) (h : Fin 72) (hi : Bool) (s : State) : Host.Outcome State Fault Refusal :=
  let g := s.hb[h].gate (sideOf hi)
  let t := s.clkAt at'
  .next (if s.checked t h (sideOf hi) && g.counts && g.onAt + g.tdsbl + g.tdsdg ≤ t then s.detect t h (sideOf hi) 0 else s)

/-- HARD_SHORT_ARM (R216): 200 ns after the turn-on start. -/
def execHardShortArm (at' : Fin 200) (h : Fin 72) (hi : Bool) (s : State) : Host.Outcome State Fault Refusal :=
  let g := s.hb[h].gate (sideOf hi)
  .next (if g.on && g.onAt + 40 ≤ s.clkAt at' then s.modGate h (sideOf hi) (fun g => { g with armed := true }) else s)

/-- HARD_SHORT (R216, R218): 40 ns above 6 V while armed. -/
def execHardShort (at' : Fin 200) (h : Fin 72) (hi : Bool) (s : State) : Host.Outcome State Fault Refusal :=
  let g := s.hb[h].gate (sideOf hi)
  let t := s.clkAt at'
  .next (if s.checked t h (sideOf hi) && g.armed && g.onAt + 48 ≤ t then s.detect t h (sideOf hi) 1 else s)

/-- PLATEAU (R217, R218): the plateau timer reaches tPLAT. -/
def execPlateau (at' : Fin 200) (h : Fin 72) (hi : Bool) (s : State) : Host.Outcome State Fault Refusal :=
  let g := s.hb[h].gate (sideOf hi)
  let t := s.clkAt at'
  .next (if s.checked t h (sideOf hi) && !g.plateau && g.onAt + g.tplat ≤ t then s.detect t h (sideOf hi) 2 else s)

/-- GATE_PLATEAU_REACHED (R217): the plateau timer stops. -/
def execGatePlateauReached (h : Fin 72) (hi : Bool) (s : State) : Host.Outcome State Fault Refusal :=
  .next (if (s.hb[h].gate (sideOf hi)).on then s.modGate h (sideOf hi) (fun g => { g with plateau := true }) else s)

/-- A write to PROT_CHFLT_i (R224, R225): `first` reads 000 once [5:0] are clear. -/
def protChfltClear (b : Fin 8) (i : Fin 9) (d : Word) (s : State) : State :=
  let a := A.PROT_CHFLT b.val i.val
  let s := s.clrFlags a (d &&& 0x013F)
  let w := s.rd a
  let s := if field w 5 0 = 0 then s.wr a (w &&& bitW 8) else s
  s.releaseFaults (200 * s.clk.ticks) b

/-! ### Trip input and blanking (R226, R227) -/

/-- Where the judgement of an assertion whose first high sample falls at `f` begins: at `f`, or at the end of the window that
holds it (R227). R227 speaks of one window; where several open windows overlap there, it is the first opened (DESIGN CHOICE,
notes/assumptions/31.md). -/
def Bank.judgeFrom (k : Bank) (f : Nat) : Nat :=
  match k.blank.find? (fun p => p.1 ≤ f && f < p.2) with
  | none => f
  | some p => p.2

/-- TRIP_b is recognised (R226). -/
def tripRecognised (t : Nat) (b : Fin 8) (s : State) : State :=
  let s := s.modBank b (fun k => { k with tripIn := true })
  let s := s.setFlags (A.PROT_BFLT b.val) (bitW 1)
  let s := s.raise (evBANK_TRIP b) (w16 (256 + b.val)) (s.rd (A.PROT_VM b.val))
  (s.bankCause t b (fun k => { k with trip := true })).stopByFault b

/-- TRIP_RECOGNISED (R226, R227): TRIP_b has been high for `high` PWM clocks. -/
def execTripRecognised (at' : Fin 200) (b : Fin 8) (high : Nat) (s : State) : Host.Outcome State Fault Refusal :=
  let t := s.clkAt at'
  let filt := 2 * field (s.rd (A.PROT_TRIPCFG b.val)) 5 0
  .next (if s.hears && s.senseOn b && !(s.bank[b]).tripIn && (s.bank[b]).judgeFrom (t - high) + filt ≤ t then
      tripRecognised t b s
    else s)

/-- TRIP_b falls low (R226): the reaction ends, unless it is latched and the host has not cleared its flag yet. -/
def tripRelease (b : Fin 8) (s : State) : State :=
  let s := s.modBank b (fun k => { k with tripIn := false })
  if bit (s.rd (A.PROT_TRIPCFG b.val)) 8 && bit (s.rd (A.PROT_BFLT b.val)) 1 then s
  else s.bankCause (200 * s.clk.ticks) b (fun k => { k with trip := false })

/-- TRIP_RELEASE (R226), while the VIO-level inputs are heard (R384). -/
def execTripRelease (b : Fin 8) (s : State) : Host.Outcome State Fault Refusal :=
  .next (if s.hears then tripRelease b s else s)

/-- BLANK_WINDOW_END (R227): the windows that have ended and hold no assertion that can still be judged are forgotten. -/
def execBlankWindowEnd (at' : Fin 200) (b : Fin 8) (s : State) : Host.Outcome State Fault Refusal :=
  .next (s.modBank b (fun k => { k with blank := k.blank.filter (fun p => s.clkAt at' ≤ p.2 + 1024) }))

/-! ### Cycle-by-cycle current limit (R228) -/

/-- A half-bridge is limited until its timer's next wrap (R228). -/
def limitHb (t : Nat) (h : Fin 72) (c : HbCmd) (s : State) : State :=
  let b := hbBank h
  let i := (hbIn h).val
  let s := (s.modHb h (fun x => { x with limit := some c })).satInc (A.PROT_ILIMCNT b.val)
  let s :=
    if bit (s.rd (A.PROT_BFLT b.val)) 0 then s
    else
      let s := (s.setFlags (A.PROT_BFLT b.val) (bitW 0)).setFlags (A.PROT_CHFLT b.val i) (bitW 8)
      s.raise (evPROT_WARN b) (w16 (256 + i)) (s.rd (A.PROT_BFLT b.val))
  s.redrive t h

/-- CURRENT_LIMIT_TRIP (R227, R228): the comparator has been high for `high` PWM clocks; it acts on rows 5 to 9: a DDP
command, or a running timer's. -/
def execCurrentLimitTrip (at' : Fin 200) (h : Fin 72) (high : Nat) (s : State) : Host.Outcome State Fault Refusal :=
  let t := s.clkAt at'
  let b := hbBank h
  .next (match s.hbAxis h with
    | none => s
    | some (a, _) =>
      let cbc := field (s.rd (A.PROT_AXCFG b.val (axSlot a).val)) 1 0
      let row := (s.select h).1
      if s.dom b.val && (row == 5 || (5 ≤ row && s.tim[a].run)) && s.hb[h].limit.isNone &&
          field (s.hbReg A.PROT_ILIM h) 7 0 != 0 && (s.bank[b]).judgeFrom (t - high) ≤ t then
        if cbc = 1 then limitHb t h .low s else if cbc = 2 then limitHb t h .hiz s else s
      else s)

/-! ### Over-voltage and the brake chopper (R229 to R231) -/

/-- CHOPPER_ON (R229): VM_b has stayed above VOV1_ON. In a bank whose image names no chopper, PROT_BSTAT.chop and the time of
R231 follow all the same, and nothing chops (DESIGN CHOICE, notes/assumptions/31.md). -/
def execChopperOn (at' : Fin 200) (b : Fin 8) (s : State) : Host.Outcome State Fault Refusal :=
  let now := s.clk.ticks
  .next (if s.senseOn b then
      (s.modBank b (fun k =>
        { k with vov1 := true, vmLow := false, chop := true, chopAt := if k.chop then k.chopAt else now })).redriveBank
        (s.clkAt at') b
    else s)

/-- VM_b has stayed below VOV1_OFF (R229): the chopper turns off, and a VOV2 reaction whose flag the host has cleared ends. -/
def chopperOff (t : Nat) (b : Fin 8) (s : State) : State :=
  let s := s.modBank b (fun k => { k with vov1 := false, vmLow := true, chop := false, chopLong := false })
  let f := s.rd (A.PROT_BFLT b.val)
  (s.bankCause t b (fun k => { k with vov2 := k.vov2 && bit f 2 })).redriveBank t b

/-- CHOPPER_OFF (R229). -/
def execChopperOff (at' : Fin 200) (b : Fin 8) (s : State) : Host.Outcome State Fault Refusal :=
  .next (if s.senseOn b then chopperOff (s.clkAt at') b s else s)

/-- VOV2 (R229): the bank takes its vov2 reaction. -/
def vov2 (t : Nat) (b : Fin 8) (s : State) : State :=
  let s := s.modBank b (fun k => { k with vmLow := false })
  if (s.bank[b]).vov2 && bit (s.rd (A.PROT_BFLT b.val)) 2 then s
  else
    let s := s.setFlags (A.PROT_BFLT b.val) (bitW 2)
    let s := s.raise (evBANK_TRIP b) (w16 (2 * 256 + b.val)) (s.rd (A.PROT_VM b.val))
    (s.bankCause t b (fun k => { k with vov2 := true })).stopByFault b

/-- VOV2 (R229). -/
def execVov2 (at' : Fin 200) (b : Fin 8) (s : State) : Host.Outcome State Fault Refusal :=
  .next (if s.senseOn b then vov2 (s.clkAt at') b s else s)

/-- The chopper of a bank runs: it is on, and the bank's gates are not in pin float (R230). -/
def Bank.chopping (k : Bank) : Bool := k.chop && k.flt != .floating

/-- The level of BRK_b: high while the bank chops through it, else held low; none while it floats, in reset, with the domain off
and in a standby (R230, R418, R441; AXIS_CFG.brk of Table IMG-6). -/
def State.brkOut (s : State) (b : Fin 8) : Option Bool :=
  if s.senseOn b && s.pair.owner then some ((s.bank[b]).chopping && (s.cfg b).brk % 4 == 1) else none

/-- CHOP_LONG (R231): the chopper has stayed on longer than PROT_CHOPMAX. -/
def execChopLong (b : Fin 8) (s : State) : Host.Outcome State Fault Refusal :=
  let k := s.bank[b]
  let mx := field (s.rd (A.PROT_CHOPMAX b.val)) 7 0
  .next (if k.chopping && !k.chopLong && mx != 0 && 1000 * mx < s.clk.ticks - k.chopAt then
      let s := (s.modBank b (fun k => { k with chopLong := true })).setFlags (A.PROT_BFLT b.val) (bitW 5)
      s.raise (evPROT_WARN b) (w16 (3 * 256)) (s.rd (A.PROT_BFLT b.val))
    else s)

/-! ### Over-temperature -/

/-- The OTS comparator trips (Over-temperature, Table SAFE-2). -/
def ots (t : Nat) (b : Fin 8) (s : State) : State :=
  let s := s.setFlags (A.PROT_BFLT b.val) (bitW 3)
  let s := s.raise (evBANK_TRIP b) (w16 (3 * 256 + b.val)) (s.rd (A.PROT_TEMP b.val))
  (s.bankCause t b (fun k => { k with ots := true })).stopByFault b

/-- OTS (R445). -/
def execOts (at' : Fin 200) (b : Fin 8) (s : State) : Host.Outcome State Fault Refusal :=
  .next (if s.senseOn b && !(s.bank[b]).ots then ots (s.clkAt at') b s else s)

/-- The junction is below the OTS release threshold, as far as PROT_TEMP tells (Table PROT-5: release at 135 to 145 °C, the
reading within 4 °C); between the bounds a free value decides (notes/assumptions/10.md). -/
def State.cooled (s : State) (b : Fin 8) : State × Bool :=
  let temp := sInt (s.rd (A.PROT_TEMP b.val))
  if temp < 131 * 8 then (s, true) else if 149 * 8 < temp then (s, false) else (s.took, Config.freeBool s.free)

/-- An OTS reaction whose flag the host has cleared ends once the junction is below its release threshold (Over-temperature). -/
def State.judgeOts (s : State) (t : Nat) (b : Fin 8) : State :=
  if (s.bank[b]).ots && !bit (s.rd (A.PROT_BFLT b.val)) 3 then
    match s.cooled b with
    | (s, true) => s.bankCause t b (fun k => { k with ots := false })
    | (s, false) => s
  else s

/-- A write to PROT_BFLT: each flag set in an earlier tick clears; the reactions of trip, vov2 and ots hold on until their
conditions have ended too (R224, R226, R229, Over-temperature). -/
def protBfltClear (b : Fin 8) (d : Word) (s : State) : State :=
  let a := A.PROT_BFLT b.val
  let t := 200 * s.clk.ticks
  let s := s.clrFlags a (d &&& 0x003F)
  let f := s.rd a
  let s := s.bankCause t b (fun k =>
    { k with trip := k.trip && (bit f 1 || k.tripIn), vov2 := k.vov2 && (bit f 2 || !k.vmLow) })
  s.judgeOts t b

end Sys2Proof.Machine
end

