-- ==== Sys2Proof/Machine/Time.lean ====
section
/-! DEFINITION. Sys2Proof/Machine/Time.lean: the tick, the UTC clock, second boundaries, the PPS discipline and the time
words (R93 to R102, R107 to R109, R113). The clock monitor's commands, which take the device-wide reaction, are in
Supervisor.lean; the tick itself, which ends the work of many blocks, in Tick.lean. -/
namespace Sys2Proof.Machine

/-- TIME_FERR in 1/16 ppm (R98). -/
def State.ferr (s : State) : Int := sInt (s.rd A.TIME_FERR)

/-- N = 1,000,000 + f with f = TIME_FERR / 16 rounded towards zero (R95, R98). -/
def secLen (ferr : Int) : Nat := (1000000 + ferr.tdiv 16).toNat

/-- ⌊k × 1,000,000 / N⌋: what the microseconds count reads in the k-th tick of its second (R95). -/
def usecAt (k n : Nat) : Nat := k * 1000000 / n

/-- The internal boundary is due: the count would reach 1,000,000 (R95, R96). -/
def State.boundaryDue (s : State) : Bool := 1000000 ≤ usecAt s.clk.k s.clk.n

/-- Take a second boundary in this tick; `inc` says whether the seconds count increments (R96). A pending TIME_APPLY takes
effect at it (R99). -/
def State.secBoundary (s : State) (inc : Bool) : State :=
  let n := secLen s.ferr
  let s := if inc then s.modClk (fun c => { c with bndPrev := c.ticks - c.k }) else s
  if s.clk.applyPend then
    let v := s.rdQ2 (A.TIME_SET_SEC 0)
    (s.modClk (fun c =>
      { c with sec := v, usec := 0, k := 0, n := n, bndNow := true, applyPend := false, utcValid := true })).raise
      evTIME_APPLIED (wordOf v 0) (wordOf v 1)
  else
    s.modClk (fun c =>
      { c with sec := if inc then (c.sec + 1) % 2 ^ 32 else c.sec, usec := 0, k := 0, n := n, bndNow := true })

/-- The internal second boundary, when the count passes 999,999 and no edge has made the tick's boundary (R96). -/
def State.internalBoundary (s : State) : State :=
  if s.boundaryDue && !s.clk.bndNow then s.secBoundary true else s

/-- The time part of a tick: TB counts one (R93); the microseconds count follows (R95); a boundary that falls into the new
tick is taken in it, ahead of every host command of the tick (R96, R106). An edge of the same tick finds the phase error 0
and makes no second boundary of its own (R96). -/
def State.tickTime (s : State) : State :=
  (s.modClk (fun c =>
    { c with
      ticks := c.ticks + 1
      k := c.k + 1
      usec := min (usecAt (c.k + 1) c.n) 999999
      bndNow := false })).internalBoundary

/-- The phase error of an edge in this tick: against the last boundary or the predicted one, whichever is nearer, a tie to
the predicted one (R98). -/
def phaseErr (k n : Nat) : Int :=
  let past : Int := k
  let ahead : Int := (k : Int) - n
  if past.natAbs < ahead.natAbs then past else ahead

/-- The boundary of an accepted edge (R96): a positive error moves the boundary that was taken, any other makes it. -/
def State.edgeBoundary (s : State) (e : Int) : State :=
  if 0 < e then s.secBoundary false else s.secBoundary (!s.clk.bndNow)

/-- Store TIME_FERR within ±4,000 (R98, R107). -/
def State.setFerr (s : State) (f : Int) : State := s.wr A.TIME_FERR (wInt (clampI (-4000) 4000 f))

/-- I lies halfway between two counts of whole seconds, where R98's "nearest" leaves the choice (notes/assumptions/11.md). -/
def ppsTie (i : Nat) : Bool := i % 1000000 == 500000

/-- m of Table TIME-2: I / 1,000,000 rounded to the nearest integer, a tie as `up` says, and at least 1. -/
def ppsM (i : Nat) (up : Bool) : Nat :=
  max 1 (if ppsTie i && !up then i / 1000000 else (i + 500000) / 1000000)

/-- The update of TIME_FERR at an accepted edge (Table TIME-2), rounded towards zero. -/
def ferrUpdate (f : Int) (i : Nat) (up : Bool) : Int :=
  let m : Int := ppsM i up
  (3 * f * m + 16 * ((i : Int) - m * 1000000)).tdiv (4 * m)

/-- An edge rejected in LOCKED or HOLDOVER (Table TIME-2). -/
def State.ppsReject (s : State) : State := (s.satInc A.TIME_PPSREJ).raise evPPS_REJECT (s.rd A.TIME_PPSERR) 0

/-- An edge accepted in LOCKED or HOLDOVER (Table TIME-2); a free value takes m at a tie. -/
def State.ppsAccept (s : State) (e : Int) : State :=
  let i := s.clk.ticks - s.clk.lastEdge
  let up := Config.freeBool s.free
  let s := if ppsTie i then s.took else s
  ((s.setFerr (ferrUpdate s.ferr i up)).edgeBoundary e).modClk (fun c => { c with lastEdge := s.clk.ticks })

/-- An edge of PPS to the given level; the sampled input takes the edge whose polarity the image selects (R97,
R98, Table TIME-2). -/
def ppsEdge (level : Bool) (s : State) : State :=
  if s.clk.pps = .off || !s.ppsEn || level == s.ppsFalls || s.clk.lowdrive then s
  else
    let e := phaseErr s.clk.k s.clk.n
    let s := s.wr A.TIME_PPSERR (wInt (clampI (-32767) 32767 e))
    let within := e.natAbs ≤ field (s.rd A.TIME_CTL) 7 0
    match s.clk.pps with
    | .off => s
    | .acquire =>
      let i := s.clk.ticks - s.clk.lastEdge
      let d : Int := (i : Int) - 1000000
      if s.clk.ppsN = 0 || 250 < d.natAbs then
        (s.edgeBoundary e).modClk (fun c => { c with ppsN := 1, lastEdge := s.clk.ticks })
      else
        let s := ((s.setFerr (16 * d)).edgeBoundary e).modClk (fun c =>
          { c with ppsN := c.ppsN + 1, lastEdge := s.clk.ticks })
        if 3 ≤ s.clk.ppsN then
          (s.modClk (fun c => { c with pps := .locked })).raise evPPS_LOCK (s.rd A.TIME_FERR) (s.rd A.TIME_PPSERR)
        else s
    | .locked => if within then s.ppsAccept e else s.ppsReject
    | .holdover =>
      if within then
        let s := (s.ppsAccept e).modClk (fun c => { c with pps := .locked })
        s.raise evPPS_LOCK (s.rd A.TIME_FERR) (s.rd A.TIME_PPSERR)
      else s.ppsReject

/-- LOCKED to HOLDOVER with PPS_LOST, in the place of its cause (Table TIME-2, R516). -/
def State.ppsLost (s : State) (place : Nat) : State :=
  (s.modClk (fun c => { c with pps := .holdover })).raiseAt place evPPS_LOST (s.rd A.TIME_FERR) 0

/-- Reference loss or entry to backup: LOCKED to HOLDOVER, n := 0 in ACQUIRE (Table TIME-2, R112); the place is that of the
cause, class 1 or 2, by event source number (R104). -/
def State.ppsBreak (s : State) (r : Rank) : State :=
  match s.clk.pps with
  | .locked => s.ppsLost (r.at 6)
  | .acquire => s.modClk (fun c => { c with ppsN := 0 })
  | _ => s

/-- The PPS state after a whole-image swap (R113): OFF or ACQUIRE by the new image's FUSION_CFG. -/
def State.ppsAtSwap (s : State) : State :=
  s.modClk (fun c => { c with pps := if s.ppsEn then .acquire else .off, ppsN := 0 })

/-- Relock (Table TIME-2): n := 0, ACQUIRE, from any state. -/
def relock (s : State) : State := s.modClk (fun c => { c with pps := .acquire, ppsN := 0 })

/-- TIME_APPLY.apply (R99): the apply waits for the next second boundary. -/
def timeApply (s : State) : State := s.modClk (fun c => { c with applyPend := true })

/-- The seven words of the time snapshot now (R100). -/
def State.snapWords (s : State) : List Word :=
  [wordOf s.clk.usec 0, wordOf s.clk.usec 1, wordOf s.clk.sec 0, wordOf s.clk.sec 1, wordOf s.tb 0, wordOf s.tb 1,
    wordOf s.tb 2]

/-- Latch the higher words of a quantity, `a` being the address of its lowest word (R124). -/
def State.latchWords (s : State) (a : Nat) : List Word → State
  | [] => s
  | v :: vs => (s.setLatch a v).latchWords (a + 1) vs

/-- A read of TIME_USEC_LO loads the snapshot latch (R100). -/
def snapshot (s : State) : State := s.latchWords (A.TIME_SNAP 0) s.snapWords

/-- A read of TIME_TB_0 latches TIME_TB_1 and TIME_TB_2 (R101). -/
def tbLatch (s : State) : State := s.latchWords (A.TIME_TB 1) [wordOf s.tb 1, wordOf s.tb 2]

/-- INTERNAL_SECOND_BOUNDARY (R96). -/
def execInternalSecondBoundary (s : State) : Host.Outcome State Fault Refusal := .next s.internalBoundary

/-- PPS_EDGE (R98): the land takes the other level (notes/assumptions/33.md). -/
def execPpsEdge (s : State) : Host.Outcome State Fault Refusal :=
  let level := !s.lands.pps
  let s := s.modLands (fun l => { l with pps := level })
  .next (if s.hears then ppsEdge level s else s)

/-- PPS_TIMEOUT (R98): 1,500,000 ticks since the last accepted edge take LOCKED to HOLDOVER. -/
def execPpsTimeout (s : State) : Host.Outcome State Fault Refusal :=
  .next (if s.clk.pps = .locked ∧ 1500000 ≤ s.clk.ticks - s.clk.lastEdge then s.ppsLost (Rank.motion.at 28) else s)

/-- TIME_APPLY (R99). -/
def execTimeApply (s : State) : Host.Outcome State Fault Refusal := .next (s.whenHost (fun s => timeApply s))

/-- RELOCK (R98). -/
def execRelock (s : State) : Host.Outcome State Fault Refusal := .next (s.whenHost (fun s => relock s))

/-- TIME_SNAPSHOT_READ (R100). -/
def execTimeSnapshotRead (s : State) : Host.Outcome State Fault Refusal := .next (s.whenHost (fun s => snapshot s))

/-- TIME_TB_READ (R101). -/
def execTimeTbRead (s : State) : Host.Outcome State Fault Refusal := .next (s.whenHost (fun s => tbLatch s))

/-- TICK_RESTORE (R112): the tick returns to the reference once every window has passed for 1 ms; before that the write has
no effect. -/
def tickRestore (s : State) : State :=
  if s.clk.tickRc && s.clk.refOk && 1000 ≤ s.clk.ticks - s.clk.lastBad then
    s.modClk (fun c => { c with tickRc := false })
  else s

/-- TICK_RESTORE (R112). -/
def execTickRestore (s : State) : Host.Outcome State Fault Refusal := .next (s.whenHost (fun s => tickRestore s))

end Sys2Proof.Machine
end

