-- ==== Sys2Proof/Machine/Supervisor.lean ====
section
/-! DEFINITION. Sys2Proof/Machine/Supervisor.lean: the device-wide reaction, arming and its interlocks, ESTOP_N, the host
watchdog, scrub, plausibility, the driver-die link, the start-up test (15_safety.md) and the clock monitor that feeds them
(R110 to R112 of 03_time_and_order.md). -/
namespace Sys2Proof.Machine

/-! ### The device-wide reaction (R446, R447) -/

/-- Causes of Table SAFE-4. -/
def causeCLOCK : Nat := 1
def causeSUPERVISOR : Nat := 2
def causeSCRUB : Nat := 3
def causeRAM : Nat := 4
def causeWATCHDOG : Nat := 5
def causeVIO : Nat := 6
def causeDIE_LINK : Nat := 7
def causePLAUS : Nat := 8
def causeCONV : Nat := 9

/-- The event source whose number ranks a cause within a tick (Tables TIME-3, SAFE-8): CLK_FAIL, WDOG or SAFE_DEV. -/
def causeSrc (c : Nat) : Nat := if c = causeCLOCK then 3 else if c = causeWATCHDOG then 34 else 33

/-- SAFE_DEV with a cause and its detail (Table EVT-4). -/
def State.raiseSafeDev (s : State) (cause detail : Nat) : State := s.raise evSAFE_DEV (w16 cause) (w16 detail)

/-- SAFE_CAUSE and SAFE_DETAIL take the first cause of a reaction; of two in one tick, the lower event source number
(R447, Table SAFE-8). -/
def State.latchCause (s : State) (cause detail : Nat) : State :=
  let now := s.clk.ticks
  let take := !s.safe.dev || (s.safe.causeAt == now && causeSrc cause < causeSrc (field (s.rd A.SAFE_CAUSE) 7 0))
  let s := s.modSafe (fun x => { x with dev := true, lastAt := some now, causeAt := if take then now else x.causeAt })
  if take then (s.wr A.SAFE_CAUSE (w16 (detail % 256 * 256 + cause))).wr A.SAFE_DETAIL (w16 detail) else s

/-- The device-wide reaction at PWM clock `t` (R446). It abandons a takeover, in each of its steps (Table PAIR-8). -/
def State.deviceWide (s : State) (t cause detail : Nat) : State :=
  let ready := s.partnerOk
  let s := (s.latchCause cause detail).raiseSafeDev cause detail
  let s := s.each allBanks (fun s b =>
    let s := s.each (axesOf b) (fun s a => s.stopAxis a .safe)
    (s.bankCause t b (fun k => { k with dev := true })).disarm t b 3 .safe)
  let s := (s.failOp opMOTOR_ID).failOp opSHUNT_CAL
  if s.pair.take.isSome || (s.pair.owner && ready) then s.releaseOwner t 4 else s

/-- The clear condition of Table SAFE-4 for the latched cause. -/
def State.clearable (s : State) : Bool :=
  let now := s.clk.ticks
  let c := field (s.rd A.SAFE_CAUSE) 7 0
  if c = causeCLOCK then
    s.clk.refOk && s.clk.coreOk && 1000 ≤ now - s.clk.lastBadAny && s.rd A.CLK_FAULT == 0
  else if c = causeSCRUB then s.img.swapped
  else if c = causeWATCHDOG then s.safe.wdServed
  else if c = causeVIO then s.pwr.vioOk && 1000 ≤ now - s.pwr.vioAt
  else false

/-- A write of 0x00C1 to SAFE_CLR (R447). -/
def safeClr (s : State) : State :=
  let recent := match s.safe.lastAt with
    | none => false
    | some n => s.clk.ticks < n + 2
  if s.safe.dev && s.clearable && !recent then
    let s := s.modSafe (fun x => { x with dev := false })
    s.each allBanks (fun s b => s.bankCause (200 * s.clk.ticks) b (fun k => { k with dev := false }))
  else s

/-- SAFE_CLR (R447). -/
def execSafeClr (s : State) : Host.Outcome State Fault Refusal := .next (s.whenHost (fun s => safeClr s))

/-! ### Clock monitor (R110 to R112) -/

/-- CLK_FAULT flags that go from 0 to 1 are a clock failure (R110). Flags that one window sets together make one failure, with
one CLK_FAIL and one reaction (DESIGN CHOICE, notes/assumptions/29.md). -/
def State.clockFlags (s : State) (t : Nat) (m : Word) : State :=
  if m &&& ~~~ s.rd A.CLK_FAULT = 0 then s
  else
    let s := s.setFlags A.CLK_FAULT m
    let s := s.raise evCLK_FAIL (s.rd A.CLK_FAULT) (s.rd A.CLK_REFCNT)
    s.deviceWide t causeCLOCK (s.rd A.CLK_FAULT).toNat

/-- The direction in which a count leaves its range (Table TIME-6): 0 inside, 1 below, 2 above. -/
def countOut (n lo hi : Nat) : Nat := if n < lo then 1 else if hi < n then 2 else 0

/-- The end of a monitor window (R110 to R112): counts, flags and, when the reference is lost, the tick's new source. After a
loss of lock, pll_lock reads 1 again at the end of the first window with both counts in range: the spec names no instant
(DESIGN CHOICE, notes/assumptions/29.md). -/
def monitorWindow (ref core : Word) (lost : Bool) (s : State) : State :=
  let r := countOut ref.toNat 420 540
  let c := countOut core.toNat 2100 2700
  let s := (s.wr A.CLK_REFCNT ref).wr A.CLK_CORECNT core
  let rc := r ≠ 0 ∧ r = c ∧ s.clk.lockHeld = true
  let now := s.clk.ticks
  let s := s.modClk (fun k =>
    { k with
      refOk := r = 0, coreOk := c = 0, pllLock := k.pllLock || (r = 0 && c = 0)
      lastBad := if r = 0 then k.lastBad else now, lastBadAny := if r = 0 ∧ c = 0 then k.lastBadAny else now })
  let s := s.modClk (fun k => { k with lockHeld := k.pllLock })
  let s := s.clockFlags (200 * now) ((if r = 0 then 0 else 1) ||| (if c = 0 then 0 else 2) ||| (if rc then 8 else 0))
  if lost && r ≠ 0 && !s.clk.tickRc then (s.modClk (fun k => { k with tickRc := true, degraded := true })).ppsBreak .safety
  else s

/-- MONITOR_WINDOW_END (R110): the monitor runs in CORE. -/
def execMonitorWindowEnd (ref core : Word) (lost : Bool) (s : State) : Host.Outcome State Fault Refusal :=
  .next (s.whenUp (monitorWindow ref core lost))

/-- PLL_UNLOCK (R111). -/
def execPllUnlock (s : State) : Host.Outcome State Fault Refusal :=
  .next (s.whenUp fun s =>
    (s.modClk (fun k => { k with pllLock := false, lockHeld := false })).clockFlags (200 * s.clk.ticks) (bitW 2))

/-! ### Supervisor and scrub (R449, R450) -/

/-- SUPERVISOR_MISMATCH (R449). -/
def execSupervisorMismatch (at' : Fin 200) (group : Word) (s : State) : Host.Outcome State Fault Refusal :=
  .next (s.whenUp (fun s => s.deviceWide (s.clkAt at') causeSUPERVISOR group.toNat))

/-- The base address of the block that holds an address (Table MAP-5). -/
def blockBase (a : Nat) : Nat :=
  match blkOf a with
  | .sys => 0x0000
  | .time => 0x0100
  | .host => 0x0200
  | .evt => 0x0400
  | .recorder => 0x0600
  | .pwr => 0x0800
  | .store => 0x0A00
  | .pair => 0x0C00
  | .safe => 0x0E00
  | .fus => 0x1000
  | .sch => 0x1400
  | .sol => 0x1800
  | .bank => a - a % 0x400
  | .can => 0x4000
  | .win => 0x8000
  | .storew => 0xA000
  | .recw => 0xC000
  | .unassigned => 0

/-- The block of a bank whose bank image is being staged holds an address: its scrub is suspended (R450, Table IMG-10). -/
def State.scrubOff (s : State) (a : Nat) : Bool :=
  match s.img.load with
  | none => false
  | some l =>
    match l.staged with
    | some (.bank b _ _) => blkOf a == .bank && (a - 0x2000) / 0x400 == b
    | _ => false

/-- SCRUB_PASS (R450): a pass over the active image ends; a mismatch at address `a` is a scrub failure. -/
def execScrubPass (at' : Fin 200) (ok : Bool) (a : Word) (s : State) : Host.Outcome State Fault Refusal :=
  .next (s.whenUp (fun s =>
      if s.img.active.isNone then s
    else
      let s := s.wrapInc A.SAFE_SCRUBCNT
      if ok || s.scrubOff a.toNat then s
      else (s.modImg (fun x => { x with swapped := false })).deviceWide (s.clkAt at') causeSCRUB (blockBase a.toNat)))

/-! ### Plausibility (R452) -/

/-- The SAFE_PLFLT word and bit of an axis (Table SAFE-7). -/
def plfltAddr (a : Fin 24) : Nat := if a.val < 16 then A.SAFE_PLFLT_LO else A.SAFE_PLFLT_HI
def plfltBit (a : Fin 24) : Nat := a.val % 16

/-- Change whether the plausibility safe state holds an axis (R452). -/
def State.setPlaus (s : State) (t : Nat) (a : Fin 24) (v : Bool) : State :=
  let before := s.wantsAsc a
  s.reRow2 t (s.axHbs a) (fun s => (s.modAx a (fun x => { x with plaus := v })).sideFor a before)

/-- The phase-current sum has exceeded SAFE_PLTHR in every current step of 1 ms (R452). -/
def plausTrip (t : Nat) (a : Fin 24) (s : State) : State :=
  let s := s.setFlags (plfltAddr a) (bitW (plfltBit a))
  let s := (s.raiseSafeDev causePLAUS a.val).setPlaus t a true
  (s.stopAxis a .fault).modAx a (fun x => { x with plAt := none })

/-- PLAUS_TRIP (R452). -/
def execPlausTrip (at' : Fin 200) (a : Fin 24) (s : State) : Host.Outcome State Fault Refusal :=
  .next (match s.ax[a].plAt with
    | none => s
    | some n => if 1000 ≤ s.clk.ticks - n then plausTrip (s.clkAt at') a s else s)

/-- A write to SAFE_PLFLT_LO or _HI (R452): the axes whose bits clear are released. -/
def safePlfltClear (hi : Bool) (d : Word) (s : State) : State :=
  let adr := if hi then A.SAFE_PLFLT_HI else A.SAFE_PLFLT_LO
  let s := s.clrFlags adr d
  s.each ((List.finRange 24).filter (fun a => plfltAddr a == adr && bit d (plfltBit a))) (fun s a =>
    if bit (s.rd adr) (plfltBit a) || !s.ax[a].plaus then s else s.setPlaus (200 * s.clk.ticks) a false)

/-! ### Driver-die link (R454) -/

/-- The two banks of a driver die. -/
def dieBanks (k : Fin 4) : List (Fin 8) := [⟨2 * k.val, by omega⟩, ⟨2 * k.val + 1, by omega⟩]

/-- The driver die of a bank. -/
def bankDie (b : Fin 8) : Fin 4 := ⟨b.val / 2, by omega⟩

/-- Five missing check frames of die `k` (R238, R454). -/
def dieLinkLoss (t : Nat) (k : Fin 4) (s : State) : State :=
  let s := s.modSafe (fun x => { x with dieOk := x.dieOk &&& ~~~ BitVec.twoPow 4 k.val })
  let s := s.raiseSafeDev causeDIE_LINK k.val
  s.each (dieBanks k) (fun s b =>
    (s.bankCause t b (fun x => { x with die := true })).disarm t b 7 .disarm)

/-- DIE_LINK_LOSS (R454). -/
def execDieLinkLoss (at' : Fin 200) (k : Fin 4) (s : State) : Host.Outcome State Fault Refusal :=
  .next (s.whenUp (fun s =>
      if s.safe.dieOk.getLsbD k.val then dieLinkLoss (s.clkAt at') k s else s))

/-- DIE_LINK_RESTORE (R454): 1 ms of good frames. -/
def execDieLinkRestore (k : Fin 4) (s : State) : Host.Outcome State Fault Refusal :=
  let s := s.modSafe (fun x => { x with dieOk := x.dieOk ||| BitVec.twoPow 4 k.val })
  .next (s.whenUp (fun s =>
      s.each (dieBanks k) (fun s b => s.bankCause (200 * s.clk.ticks) b (fun x => { x with die := false }))))

/-! ### Host watchdog (R455) -/

/-- tmin and tmax in ticks. -/
def State.wdMin (s : State) : Nat := 1000 * field (s.rd A.SAFE_WDCFG) 14 8
def State.wdMax (s : State) : Nat := 1000 * field (s.rd A.SAFE_WDCFG) 6 0

/-- The elapsed time e, in ticks of TB. -/
def State.wdElapsed (s : State) : Nat := s.clk.ticks - s.safe.wdAt

/-- WDOG of a kind, with the device-wide reaction (R455). -/
def State.wdog (s : State) (t kind : Nat) : State :=
  let s := s.modSafe (fun x => { x with wdServed := false })
  (s.deviceWide t causeWATCHDOG kind).raise evWDOG (w16 kind) 0

/-- A write to SAFE_WDCFG (R455, Table SAFE-3): no effect while the watchdog runs; en = 1 starts it. -/
def safeWdcfg (d : Word) (s : State) : State :=
  if s.safe.wdRun then s
  else
    let s := s.wr A.SAFE_WDCFG d
    if bit d 15 then
      s.modSafe (fun x => { x with wdRun := true, wdAt := s.clk.ticks, wdNext := false, wdLate := false })
    else s

/-- Late, judged once until the next accepted service (R455). -/
def wdogLate (t : Nat) (s : State) : State :=
  if s.safe.wdRun && !s.safe.wdLate && s.wdMax < s.wdElapsed then
    (s.modSafe (fun x => { x with wdLate := true })).wdog t 2
  else s

/-- A service of the watchdog (R455). -/
def watchdogKick (t : Nat) (d : Word) (s : State) : State :=
  if s.safe.wdRun then
    let expected : Word := if s.safe.wdNext then 0x005C else 0x00A3
    let s :=
      if d ≠ expected ∨ s.wdElapsed < s.wdMin then s.wdog t 1
      else s.modSafe (fun x => { x with wdAt := s.clk.ticks, wdNext := !x.wdNext, wdServed := true, wdLate := false })
    wdogLate t s
  else s

/-- WATCHDOG_KICK (R455). -/
def execWatchdogKick (at' : Fin 200) (d : Word) (s : State) : Host.Outcome State Fault Refusal :=
  .next (s.whenHost (fun s => watchdogKick (s.clkAt at') d s))

/-- WDOG_LATE (R455). -/
def execWdogLate (at' : Fin 200) (s : State) : Host.Outcome State Fault Refusal := .next (s.whenUp (fun s => wdogLate (s.clkAt at') s))

/-! ### ESTOP_N (R232) -/

/-- A recognised ESTOP_N (R232). -/
def estop (t : Nat) (s : State) : State :=
  if s.safe.estop then s
  else
    let armed := ofBits (allBanks.map (fun b => (s.bank[b]).armed))
    let s := (s.modSafe (fun x => { x with estop := true })).raise evESTOP armed 0
    s.each allBanks (fun s b =>
      let s := s.each (axesOf b) (fun s a => s.stopAxis a .safe)
      (s.bankCause t b (fun k => { k with estop := true })).disarm t b 2 .safe)

/-- ESTOP (R232): a low pulse of `width` ns; shorter than 300 ns it is removed, longer than 500 ns it passes. In reset the level alone
is taken, for the release to judge (R240, R486). -/
def execEstop (at' : Fin 200) (width : Nat) (s : State) : Host.Outcome State Fault Refusal :=
  .next (if s.hears then
      match s.passes width 300 500 with
      | (s, false) => s
      | (s, true) => if s.up then estop (s.clkAt at') s else s.modSafe (fun x => { x with estop := true })
    else s)

/-- ESTOP_RELEASE (R232): heard while VIO is above VIO_UV (R384). -/
def execEstopRelease (s : State) : Host.Outcome State Fault Refusal :=
  .next (if s.safe.estop && s.hears then
      let s := s.modSafe (fun x => { x with estop := false })
      s.each allBanks (fun s b => s.bankCause (200 * s.clk.ticks) b (fun k => { k with estop := false }))
    else s)

/-! ### Arming (R457 to R459) -/

/-- A device on which a BANK_ARM sequence has no effect: a synchronised standby (R432). -/
def State.armDead (s : State) : Bool := !s.pair.owner && s.pair.sync

/-- A write of 0x00A5 to BANK_ARM (R457). -/
def armPrepare (b : Fin 8) (s : State) : State :=
  if s.armDead then s else s.modBank b (fun k => { k with prep := some s.clk.ticks })

/-- A 0x00A5 no more than 10 ms old awaits its 0x005A (R457). -/
def State.prepared (s : State) (b : Fin 8) : Bool :=
  match (s.bank[b]).prep with
  | none => false
  | some n => s.clk.ticks - n ≤ 10000

/-- The refusal of a completing arm, in the order of Table SAFE-3; 0 when no interlock refuses it. -/
def State.armRefusal (s : State) (b : Fin 8) : Nat :=
  let k := s.bank[b]
  if s.img.active.isNone then 0x87
  else if !s.dom b.val || s.pwr.st != .main then 0x81
  else if !k.vdrvOk || k.vdrvLock then 0x82
  else if s.cpBank b && (!k.vcpOk || k.vcpLock) then 0x83
  else if s.safe.estop then 0x84
  else if s.safe.dev then 0x85
  else if !s.safe.wdRun then 0x86
  else if s.safe.mech != .passed then 0x88
  else if !s.safe.dieOk.getLsbD (bankDie b).val then 0x89
  else if k.convFlt then 0x8A
  else if !s.prepared b then 0x8B
  else 0

/-- A write of 0x005A to BANK_ARM: the bank is armed or the arm is refused (R457, R458). An arm ends DLINE_CAL and
SELF_TEST on the bank (R170, R462). -/
def armComplete (t : Nat) (b : Fin 8) (s : State) : State :=
  if s.armDead then s
  else
    let c := s.armRefusal b
    let s := s.modBank b (fun k => { k with prep := none, cause := c, armed := k.armed || c == 0 })
    let s := s.raiseArm b
    if c = 0 then ((s.cutDlineCal b).cutSelfTest b).redriveBank t b else s

/-- A write of 0x0000 to BANK_ARM (R457): it always reports. -/
def hostDisarm (t : Nat) (b : Fin 8) (s : State) : State :=
  if s.armDead then s
  else
    let s := s.modBank b (fun k => { k with prep := none })
    if (s.bank[b]).armed then s.disarm t b 1 .disarm
    else ((s.modBank b (fun k => { k with cause := 1 })).raiseArm b).cutShuntCal b

/-! ### Start-up test (R462) -/

/-- STARTUP_TEST_DONE (R462): the tests of bits 0 to 4 end. -/
def execStartupTestDone (failed : BitVec 5) (s : State) : Host.Outcome State Fault Refusal :=
  .next (s.whenUp (fun s =>
      if s.safe.mech = .testing then
      s.modSafe (fun x => { x with mech := if failed = 0 then .passed else .failed })
    else s))

end Sys2Proof.Machine
end

