-- ==== Sys2Proof/Machine/Convert.lean ====
section
/-! DEFINITION. Sys2Proof/Machine/Convert.lean: the converters of a bank: sequences, the background list, results, the
converter fault and the zero crossings that switch-node results show (R247 to R250, R253, R453). -/
namespace Sys2Proof.Machine

/-! ### Axis registers and modes (Tables AXIS-1, AXIS-7, AXIS-8) -/

/-- The address of a word of an axis block, by the address function of its row: bank, then slot. -/
def axAddr (f : Nat → Nat → Nat) (a : Fin 24) : Nat := f (axBank a).val (axSlot a).val

/-- A word of an axis block. -/
def State.axReg (s : State) (f : Nat → Nat → Nat) (a : Fin 24) : Word := s.rd (axAddr f a)

/-- The modes of Table AXIS-1. -/
inductive AxMode
  | none | openLoop | sixHall | sixBemf | focHall | focEnc | focObs | coil
  deriving DecidableEq, Repr

/-- The mode of a code of AX_MODE[3:0]; a reserved code cannot be written and stands for NONE. -/
def axModeOf (n : Nat) : AxMode :=
  match n with
  | 1 => .openLoop
  | 2 => .sixHall
  | 3 => .sixBemf
  | 4 => .focHall
  | 5 => .focEnc
  | 6 => .focObs
  | 7 => .coil
  | _ => .none

/-- The mode of an axis. -/
def State.axMode (s : State) (a : Fin 24) : AxMode := axModeOf (field (s.axReg A.AX_MODE a) 3 0)

/-- The set-point source: 0 SPEED, 1 GROUND, 2 CURRENT (Table AXIS-8). -/
def State.axSrc (s : State) (a : Fin 24) : Nat := field (s.axReg A.AX_MODE a) 15 14

/-- The modes that start as R259 states. -/
def AxMode.sensorless (m : AxMode) : Bool := m == .focObs || m == .sixBemf

/-- The modes that read the Hall sector. -/
def AxMode.hall (m : AxMode) : Bool := m == .sixHall || m == .focHall

/-- The six-step modes. -/
def AxMode.six (m : AxMode) : Bool := m == .sixHall || m == .sixBemf

/-- The axis has a speed reference: the source is SPEED or GROUND (R263). -/
def State.hasRef (s : State) (a : Fin 24) : Bool := s.axMode a != .coil && s.axSrc a != 2

/-! ### Conversion lists (R56, R249, Table AXIS-2) -/

/-- The entry bytes of a converter's sequence (R56). -/
def State.convSeq (s : State) (c : Fin 24) : List Nat := ((s.cfg (axBank c)).conv[(axSlot c).val]?).getD []

/-- The entry byte of a kind and channel (R56). -/
def convEntry (kind chan : Nat) : Nat := 32 * kind + chan

/-- The background list of a converter (Table AXIS-2). -/
def bgList (c : Fin 24) : List Nat :=
  if (axSlot c).val = 0 then [convEntry 2 0, convEntry 4 0]
  else if (axSlot c).val = 1 then [convEntry 3 0, convEntry 4 0]
  else (List.range 9).map (convEntry 1)

/-- An entry of this kind and half-bridge stands in the bank's CONV_SEQ (R246). -/
def State.convHas (s : State) (kind : Nat) (h : Fin 72) : Bool :=
  (s.cfg (hbBank h)).conv.any (fun l => l.contains (convEntry kind (hbIn h).val))

/-- The block address of converter `c` among the per-converter words. -/
def convAddr (f : Nat → Nat → Nat) (c : Fin 24) : Nat := f (axBank c).val (axSlot c).val

/-! ### Sectors and commutation edges (R251, R253, R255) -/

/-- The sector after another in a direction. -/
def sectorStep (k : Nat) (dir : Int) : Nat := (((k : Int) + (if dir < 0 then 5 else 1)) % 6).toNat

/-- The PWM, LOW and floating phases of a sector, forward (Table AXIS-3): U, V and W are roles 0, 1 and 2. -/
def sectorPhases (k : Nat) : Fin 3 × Fin 3 × Fin 3 :=
  match k with
  | 0 => (1, 2, 0)
  | 1 => (1, 0, 2)
  | 2 => (2, 0, 1)
  | 3 => (2, 1, 0)
  | 4 => (0, 1, 2)
  | _ => (0, 2, 1)

/-- An axis notes a commutation edge in a direction at tick `now`: the window of R255 holds the last six edges, and a change
of direction begins it anew (DEDUCED, notes/assumptions/14.md). -/
def Axis.edge (x : Axis) (now : Nat) (dir : Int) : Axis :=
  { x with
    edges := if dir = x.edgeDir then (now :: x.edges).take 6 else [now]
    edgeDir := dir, edgeAt := now, edgeIn := true }

/-- The direction in which an axis turns: the sign of its reference, else of its last one (R253, R263). -/
def Axis.dir (x : Axis) : Int := if x.ref ≠ 0 then x.ref.sign else if x.lastDir ≠ 0 then x.lastDir else 1

/-- A switch-node result of a half-bridge goes from `old` to `new`: a crossing of VM_b/2 by the floating phase in the
expected direction, once the first quarter of the sector has passed, is a commutation edge (R253). In even sectors the
floating phase falls, in odd ones it rises (DEDUCED from Table AXIS-3, notes/assumptions/14.md). -/
def State.bemfCross (s : State) (h : Fin 72) (old new : Word) : State :=
  match s.hbAxis h with
  | none => s
  | some (a, r) =>
    let x := s.ax[a]
    let now := s.clk.ticks
    let half := (s.bank[axBank a]).vmRaw.toNat
    let cross := if x.sector % 2 = 0 then half ≤ 2 * old.toNat && 2 * new.toNat < half
      else 2 * old.toNat < half && half ≤ 2 * new.toNat
    if s.axMode a == .sixBemf && (x.st == .run || x.st == .ramp) && (sectorPhases x.sector).2.2 == r && x.nextSec.isNone
        && !x.edgeIn && x.secAt + x.secDur / 4 ≤ now && cross then
      let adv := field (s.axReg A.AX_ADV a) 5 0
      s.modAx a (fun x => { x.edge now x.dir with nextSec := some (now + adv * x.secDur / 60), edgeSec := x.sector })
    else s

/-! ### Results (R248, R250) -/

/-- The result word of a 12-bit code (R248). -/
def State.convWord (s : State) (b : Fin 8) (entry : Nat) (n : Nat) : Word :=
  if entry / 32 = 0 then wInt (satS (16 * n - 32768 - sInt (s.rd (A.CONV_OFS b.val (entry % 16))))) else w16 (8 * n)

/-- The converter fault of a bank begins (R453). -/
def State.convFault (s : State) (t : Nat) (b : Fin 8) : State :=
  let s := s.bankCause t b (fun k => { k with convFlt := true })
  (s.disarm t b 8 .disarm).raiseSafeDev causeCONV b.val

/-- An internal-reference result (R453). -/
def State.refResult (s : State) (t : Nat) (b : Fin 8) (w : Word) : State :=
  let s := s.wr (A.CONV_REF b.val) w
  let good := 0x3EB8 ≤ w.toNat && w.toNat ≤ 0x4148
  let s := s.modBank b (fun k =>
    if good then { k with refBad := 0, refGood := min 4 (k.refGood + 1) }
    else { k with refBad := min 4 (k.refBad + 1), refGood := 0 })
  let k := s.bank[b]
  if !k.convFlt && k.refBad == 4 then s.convFault t b
  else if k.convFlt && k.refGood == 4 then s.bankCause t b (fun k => { k with convFlt := false })
  else s

/-- A temperature result: PROT_TEMP, the end of an OTS reaction that waits for it, and the warning when it rises above PROT_OTW
(Over-temperature, 07). -/
def State.tempResult (s : State) (t : Nat) (b : Fin 8) (n : Nat) : State :=
  let w := Config.tempOf b.val n
  let s := (s.wr (A.PROT_TEMP b.val) w).judgeOts t b
  let above : Bool := 8 * (field (s.rd (A.PROT_OTW b.val)) 7 0 : Int) < sInt w
  let rise := above && !(s.bank[b]).warm
  let s := s.modBank b (fun k => { k with warm := above })
  if rise then
    let s := s.setFlags (A.PROT_BFLT b.val) (bitW 4)
    s.raise (evPROT_WARN b) (w16 (4 * 256)) (s.rd (A.PROT_BFLT b.val))
  else s

/-- PROT_BSTAT.vov1 as a VM_b result of `v` times 10 mV shows it: VM_b above VOV1_ON, whose threshold lies within 2 % of its code
(R229, Table PROT-5); inside that band a free value decides (notes/assumptions/31.md). -/
def State.vov1Seen (s : State) (b : Fin 8) (v : Int) : State :=
  let th : Int := 1000 + 25 * (field (s.bank[b]).vovOn 7 0 : Nat)
  if 100 * v < 98 * th then s.modBank b (fun k => { k with vov1 := false })
  else if 102 * th < 100 * v then s.modBank b (fun k => { k with vov1 := true })
  else s.took.modBank b (fun k => { k with vov1 := Config.freeBool s.free })

/-- A VM_b result: PROT_VM in 10 mV, of a full scale of 60 V. -/
def State.vmResult (s : State) (b : Fin 8) (w : Word) : State :=
  let s := s.modBank b (fun k => { k with vmRaw := w })
  match s.round ((6000 : Rat) * w.toNat / 32768) with
  | (s, v) => (s.wr (A.PROT_VM b.val) (wInt v)).vov1Seen b v

/-- Load what a result of an entry gives beside CONV_RES: background results and sequence entries of the same kinds alike
(R249, R250). -/
def State.loadLatest (s : State) (t : Nat) (b : Fin 8) (entry n : Nat) : State :=
  let w := s.convWord b entry n
  let k := entry / 32
  if k = 2 then s.vmResult b w
  else if k = 3 then s.tempResult t b n
  else if k = 4 then s.refResult t b w
  else if hi : entry % 16 < 9 then
    let h := hbOf b ⟨entry % 16, hi⟩
    if k = 0 then
      let s := s.modHb h (fun x => { x with shunt := w })
      match s.hbAxis h with
      | none => s
      | some (a, _) => s.modAx a (fun x => { x with gotShunt := true })
    else
      let old := s.rd (A.CONV_SN b.val (hbIn h).val)
      (s.wr (A.CONV_SN b.val (hbIn h).val) w).bemfCross h old w
  else s

/-! ### The commands -/

/-- The converters of a bank run: its domain is on, and a slot of it is used (R41, R280). -/
def State.convOn (s : State) (b : Fin 8) : Bool := s.dom b.val && s.bankUsed b

/-- A routed start of a converter (R247, R249): a background conversion is aborted by it. -/
def convStart (c : Fin 24) (s : State) : State :=
  let v := (s.bank[axBank c]).conv[axSlot c]
  let s := s.modConv c (fun v => { v with due := v.due - 1 })
  if v.run.isSome || v.resv then s.satInc (convAddr A.CONV_OVRCNT c) else s.modConv c (fun v => { v with run := some 0 })

/-- CONVERTER_START (R247): the converter takes a start that its routed source has fired (R57, R173). -/
def execConverterStart (c : Fin 24) (s : State) : Host.Outcome State Fault Refusal :=
  .next (if s.convOn (axBank c) && (s.routeTo 1 c.val).isSome && (s.bank[axBank c]).conv[axSlot c].due != 0 then convStart c s
    else s)

/-- A conversion of entry `k` of the sequence ends (R247, R249). -/
def seqDone (t : Nat) (c : Fin 24) (k n : Nat) (s : State) : State :=
  let seq := s.convSeq c
  let entry := seq[k]?.getD 0
  let last := seq.length ≤ k + 1
  let row := (s.bank[axBank c]).conv[axSlot c].row + 1
  let s := s.wr (A.CONV_RES (axBank c).val (axSlot c).val (k % 16)) (s.convWord (axBank c) entry n)
  let s := s.modConv c (fun v =>
    { v with run := if last then none else some (k + 1), resv := last && 63 + seq.length ≤ row, row := row })
  let s := if last then s.wrapInc (convAddr A.CONV_SEQCNT c) else s
  s.loadLatest t (axBank c) entry n

/-- A background conversion ends, in idle time or in a reserved slot (R249). -/
def bgDone (t : Nat) (c : Fin 24) (n : Nat) (s : State) : State :=
  let l := bgList c
  let entry := l[(s.bank[axBank c]).conv[axSlot c].bgPos]?.getD 0
  let s := s.modConv c (fun v => { v with resv := false, bgPos := (v.bgPos + 1) % l.length, row := 0 })
  s.loadLatest t (axBank c) entry n

/-- A channel of SHUNT_CAL is done: an abort that waits takes effect (R142, R272). -/
def State.calChannel (s : State) (i : Fin 8) (b : Fin 8) : State :=
  let s := s.modSlot i (fun x => { x with work := x.work + 16 ^ b.val })
  match s.ops.slots[i].abort with
  | none => s
  | some f => s.endSlot i .aborted f

/-- A result of the channel that SHUNT_CAL takes in idle time: before the offset, it adds to the channel's sum, and of 256 the mean
becomes CONV_OFS_i (R272; DEDUCED, notes/assumptions/9.md). -/
def calDone (c : Fin 24) (i : Fin 8) (n : Nat) (s : State) : State :=
  let b := axBank c
  let k := min (s.ops.slots[i].work / 16 ^ b.val % 16) 8
  let s := s.modConv c (fun v => { v with row := v.row + 1 })
  let s := s.modBank b (fun y => { y with calSum := y.calSum + (16 * n - 32768 : Int), calCnt := y.calCnt + 1 })
  if (s.bank[b]).calCnt < 256 then s
  else
    match s.quant (((s.bank[b]).calSum : Rat) / 256) with
    | (s, m) => ((s.wr (A.CONV_OFS b.val k) (wInt m)).modBank b (fun y => { y with calSum := 0, calCnt := 0 })).calChannel i b

/-- A conversion in idle time ends: of the background list, or of SHUNT_CAL while it has channels of the bank to do; which of the two
an idle converter takes is open (R249, R272, notes/assumptions/9.md). -/
def idleDone (t : Nat) (c : Fin 24) (n : Nat) (s : State) : State :=
  match s.runsOn opSHUNT_CAL (axBank c) with
  | none => bgDone t c n s
  | some i =>
    if s.ops.slots[i].shuntDone (axBank c) then bgDone t c n s
    else if Config.freeBool s.free then calDone c i n s.took else bgDone t c n s.took

/-- CONVERSION_DONE (R247 to R249): the conversion that runs ends with a 12-bit code. -/
def execConversionDone (at' : Fin 200) (c : Fin 24) (code : BitVec 12) (s : State) : Host.Outcome State Fault Refusal :=
  .next (if s.convOn (axBank c) then
      match (s.bank[axBank c]).conv[axSlot c].run with
      | some k => seqDone (s.clkAt at') c k code.toNat s
      | none =>
        if (s.bank[axBank c]).conv[axSlot c].resv then bgDone (s.clkAt at') c code.toNat s
        else idleDone (s.clkAt at') c code.toNat s
    else s)

end Sys2Proof.Machine
end

