-- ==== Sys2Proof/Machine/Seeds.lean ====
section
/-! DEFINITION. Sys2Proof/Machine/Seeds.lean: the event buffers of the solver rows: expected releases from the meter axes
(R318, R319) and observed seeds (R320), with their bounds (R322, R333). -/
namespace Sys2Proof.Machine

/-- D_SOL is on. -/
def State.solOn (s : State) : Bool := s.dom 9

/-- The rows of the image: those that exist (R317). -/
def State.rowCount (s : State) : Nat := s.solRows.length

/-- Put an event into a buffer in time order; equal times keep the order of production (R322). -/
def insertDrop (d : Drop) : List Drop → List Drop
  | [] => [d]
  | x :: r => if d.t < x.t then d :: x :: r else x :: insertDrop d r

/-- An expected event of row `r` with time `t`: it enters the buffer, or is dropped at its bound (R322, R333). -/
def State.expect (s : State) (r : Fin 24) (t : Nat) : State :=
  let s := s.modRow r (fun x => { x with made := (s.clk.ticks, t) :: x.made })
  if s.sol.rows[r].exps.length < 64 then s.modRow r (fun x => { x with exps := insertDrop ⟨t, false⟩ x.exps })
  else (s.satInc (A.SOL_EXPOVF r.val)).raise evSEED_OVF (w16 r.val) 1

/-- An observed event of row `r` at the present tick (R320, R333). -/
def State.observe (s : State) (r : Fin 24) : State :=
  if s.sol.rows[r].obs.length < 64 then
    s.modRow r (fun x => { x with obs := insertDrop ⟨s.clk.ticks, false⟩ x.obs })
  else (s.satInc (A.SOL_SEEDOVF r.val)).raise evSEED_OVF (w16 r.val) 0

/-- φ of a row in cells (R318). -/
def State.rowPhi (s : State) (r : Fin 24) : Rat := (s.rd (A.SOL_PHASE r.val)).toNat / 65536

/-- The next cells of a row are released, `n` of them, P having moved from `p0` at tick `t0` to `p1` at tick `t1` (R318). -/
def State.releaseCells (s : State) (r : Fin 24) (t0 t1 : Nat) (p0 p1 : Rat) : Nat → State
  | 0 => s
  | n + 1 =>
    let s := s.modRow r (fun x => { x with h := x.h + 1 })
    let h := s.sol.rows[r].h
    let rel : Rat := t0 + ((t1 : Rat) - t0) * (h + s.rowPhi r - p0) / (p1 - p0)
    match s.round (rel + s.sol.rows[r].fall) with
    | (s, t) => (s.expect r t.toNat).releaseCells r t0 t1 p0 p1 n

/-- The update of a row at a current step of its meter axis: the angle went from `a0` at tick `t0` to `a1` now (R318). -/
def State.meterRow (s : State) (r : Fin 24) (a : Fin 24) (t0 : Nat) (a0 a1 : Word) : State :=
  let cells := field (s.axReg A.AX_GS_CELLS a) 7 0
  let den := 65536 * field (s.axReg A.AX_POLES a) 5 0 * (s.axReg A.AX_GS_GEAR a).toNat
  let p0 := s.sol.rows[r].p
  let p1 := p0 + (sInt (a1 - a0) * cells * 256 : Rat) / den
  let s := s.modRow r (fun x => { x with p := p1 })
  let n := ((p1 - s.rowPhi r).floor - s.sol.rows[r].h).toNat
  s.releaseCells r t0 s.clk.ticks p0 p1 n

/-- The rows that count on an axis (R60, R317). -/
def State.rowsOf (s : State) (a : Fin 24) : List (Fin 24) :=
  (List.finRange 24).filter (fun r => (s.solRows[r.val]?).any (fun p => p.2 == a.val))

/-- The rows that a seed input feeds. -/
def State.rowsFrom (s : State) (i : Fin 24) : List (Fin 24) :=
  (List.finRange 24).filter (fun r => (s.solRows[r.val]?).any (fun p => p.1 == i.val))

/-- Expected releases at a current step of an axis (R318, R319): both this step and the previous one were in RAMP or RUN. -/
def State.meterStep (s : State) (a : Fin 24) : State :=
  let x := s.ax[a]
  let on := x.st == .ramp || x.st == .run
  let ang := s.axReg A.AX_ANGLE a
  let s := if s.solOn && on && x.prevRun then
      s.each (s.rowsOf a) (fun s r => s.meterRow r a x.prevTick x.prevAng ang)
    else s
  s.modAx a (fun x => { x with prevRun := on, prevTick := s.clk.ticks, prevAng := ang })

/-- A seed input is outside the dead time of its last accepted leading edge (R320). -/
def State.seedOpen (s : State) (i : Fin 24) : Bool :=
  match s.sol.seeds[i] with
  | none => true
  | some n => 100 * field (s.rd A.SOL_SEEDCFG) 7 0 ≤ s.clk.ticks - n

/-- A filtered leading edge of a seed input outside the dead time is an observed event (R320). -/
def seedEdge (i : Fin 24) (s : State) : State :=
  if s.seedOpen i then
    let s := s.modSol (fun o => { o with seeds := o.seeds.set i (some s.clk.ticks) })
    s.each (s.rowsFrom i) (fun s r => s.observe r)
  else s

/-- An edge to `level` that holds it for `held` ns is a leading edge that the filter passes (R320). -/
def State.seedLeads (s : State) (level : Bool) (held : Nat) : Bool :=
  let w := s.rd A.SOL_SEEDCFG
  level == bit w 15 && decide (1000 * field w 13 8 ≤ held)

/-- SEED_EDGE (R320). -/
def execSeedEdge (x : SeedPulse) (s : State) : Host.Outcome State Fault Refusal :=
  .next (if s.hears && s.solOn && s.seedLeads x.level x.ns then seedEdge x.input s else s)

end Sys2Proof.Machine
end

