-- ==== Sys2Proof/Machine/Axes.lean ====
section
/-! DEFINITION. Sys2Proof/Machine/Axes.lean: the axis state machine (Table AXIS-4), the ramp limiter (R263), the
ground-slaved target (R267, R268), measured speed (R255), stalls (R265, R266), Hall and encoder inputs (R251, R252, R276).
The engine step itself is in Engine.lean. -/
namespace Sys2Proof.Machine

/-! ### Units -/

/-- The number of units of `Axis.ref` in 1/16 rpm: with it ACC·Δt is a whole number (R263). -/
def refUnit : Int := 200000000

/-- Whole rpm in units of `Axis.ref`. -/
def rpmRef (n : Int) : Int := n * 16 * refUnit

/-- A value of `Axis.ref` in rpm. -/
def refRpm (x : Int) : Rat := (x : Rat) / (16 * refUnit)

/-- AX_REF and AX_TARGET in ms, PWM clocks in a millisecond, ticks in a millisecond. -/
def msClks (n : Nat) : Nat := 200000 * n
def msTicks (n : Nat) : Nat := 1000 * n

/-- A signed integer with the magnitude of `n` and the sign of `d`. -/
def withSign (d n : Int) : Int := if d < 0 then -n else n

/-! ### The START check (R246, Table AXIS-1) -/

/-- Sources a mode allows: SPEED and GROUND, CURRENT too, or CURRENT alone. -/
def AxMode.allows (m : AxMode) (src : Nat) : Bool :=
  match m with
  | .none => false
  | .openLoop => src < 2
  | .sixHall => src < 3
  | .sixBemf => src < 2
  | .focHall => src < 3
  | .focEnc => src < 3
  | .focObs => src < 2
  | .coil => src == 2

/-- The slot types a mode runs on. -/
def AxMode.runsOn (m : AxMode) (ty : SlotType) : Bool :=
  match m with
  | .none => false
  | .coil => ty == .hBridge || ty == .single
  | _ => ty == .threePhase

/-- The converter entries a mode needs (Table AXIS-1). -/
def State.convOk (s : State) (a : Fin 24) : Bool :=
  let hbs := s.axHbs a
  let shunts := (hbs.filter (s.convHas 0)).length
  match s.axMode a with
  | .none => false
  | .sixHall => shunts == hbs.length
  | .sixBemf => shunts == hbs.length && hbs.all (s.convHas 1)
  | .coil => shunts == hbs.length
  | _ => 2 ≤ shunts

/-- The motor words FOC_OBS needs are not zero (R246). -/
def State.motorOk (s : State) (a : Fin 24) : Bool :=
  s.axMode a != .focObs ||
    (s.axReg A.AX_ISCALE a != 0 && (List.range 4).all (fun k => s.axReg (fun b j => A.AX_MOT b j k) a != 0))

/-- A START passes R246. -/
def State.startOk (s : State) (a : Fin 24) : Bool :=
  let m := s.axMode a
  m.runsOn (s.axType a) && m.allows (s.axSrc a) && (s.routeTo 2 a.val).isSome && s.convOk a && s.motorOk a

/-! ### Start and stop (R257, R258, Table AXIS-4) -/

/-- The state a START leads to (Table AXIS-4). -/
def State.firstState (s : State) (a : Fin 24) : AxSt :=
  let m := s.axMode a
  let md := s.axReg A.AX_MODE a
  if m.sensorless && bit md 8 then .saliency
  else if m.sensorless || m == .openLoop || (m == .focEnc && !bit md 7) then .align
  else .run

/-- The axis begins as from START: the start-up states or RUN, its loops at 0 (Table AXIS-4). -/
def State.startUp (s : State) (a : Fin 24) : State :=
  let st := s.firstState a
  let now := s.clk.ticks
  let s := s.modAx a (fun x =>
    { x with
      st := st, since := now, runAt := now, ref := 0, tgt := 0, stopping := false, dwell := false, ilim := false, hand := false
      iD := 0, iQ := 0, iS := 0, iC := Vector.replicate 3 0, iref := 0, ifs := 0, holdAng := x.ang, sal := Sal.reset
      ang := if st = .saliency ∨ st = .align then 0 else x.ang
      nminAt := none, confAt := none, errAt := none, handAcc := none, stale := 0, hallBad := 0, nextSec := none })
  s.satInc (axAddr A.AX_STARTS a)

/-- START on a STOPPED axis (R246, R258, R272, Table SAFE-3). -/
def axisStart (a : Fin 24) (s : State) : State :=
  let b := axBank a
  if s.ax[a].st ≠ .stopped then s
  else if !(s.bank[b]).armed then s.modAx a (fun x => { x with cause := .disarm })
  else if s.startOk a then
    let now := s.clk.ticks
    ((s.cutShuntCal b).modAx a (fun x => { x with retries := 0, lastDir := 0, zeroT := 0, startAt := some now })).startUp a
  else (s.satInc (axAddr A.AX_STARTS a)).toStopped a .config

/-- The slot of a MOTOR_ID on an axis that is in IDENT. -/
def State.identSlot (s : State) (a : Fin 24) : Option (Fin 8) :=
  match s.running opMOTOR_ID with
  | none => none
  | some i => if s.ops.slots[i].axis = a.val then some i else none

/-- A controlled stop begins: from here on the target is 0, and AX_TARGET reads it (Table AXIS-4). -/
def State.beginStop (s : State) (a : Fin 24) : State :=
  (s.modAx a (fun x => { x with stopping := true, tgt := 0 })).wr (axAddr A.AX_TARGET a) 0

/-- STOP (R257, Table AXIS-4): a controlled stop from RUN and of an OPEN_LOOP axis, an immediate one from the start-up states; in
IDENT MOTOR_ID ends ABORTED with HOST, and the axis takes its hold state before it stops. -/
def axisStop (a : Fin 24) (s : State) : State :=
  let x := s.ax[a]
  match x.st with
  | .stopped => s
  | .ident =>
    match s.identSlot a with
    | none => s
    | some i => (s.endSlot i .aborted failHOST).modAx a (fun x => { x with parked := some .host })
  | .run => if x.stopping then s else s.beginStop a
  | .ramp =>
    if x.stopping then s
    else if s.axMode a = .openLoop then s.beginStop a
    else s.toStopped a .host
  | _ => s.toStopped a .host

/-- COAST (R257, Table AXIS-4): the axis drops at once; MOTOR_ID on it ends ABORTED with HOST. -/
def axisCoast (a : Fin 24) (s : State) : State :=
  match s.ax[a].st with
  | .stopped => s
  | .ident =>
    let s := match s.identSlot a with
      | none => s
      | some i => s.endSlot i .aborted failHOST
    s.toStopped a .host
  | _ => s.toStopped a .host

/-- The stall bit of AX_CMD (R266). -/
def stallClear (a : Fin 24) (s : State) : State := s.modAx a (fun x => { x with stall := false })

/-- A standby that follows its partner: its axes take no transition of their own (R431). -/
def State.following (s : State) : Bool := !s.pair.owner && s.pair.link == .up

/-- Go to RETRY_WAIT, in phase Hi-Z (R261, R266). -/
def State.toRetry (s : State) (a : Fin 24) : State :=
  s.modAx a (fun x =>
    { x with
      st := .retryWait, since := s.clk.ticks, retries := x.retries + 1, stopping := false, dwell := false, hand := false
      ilim := false, iD := 0, iQ := 0, iS := 0, iC := Vector.replicate 3 0, ref := 0, ifs := 0, iref := 0 })

/-- AX_NRETRY. -/
def State.nretry (s : State) (a : Fin 24) : Nat := field (s.axReg A.AX_NRETRY a) 2 0

/-- A start fails at AX_RAMP_END (R261). -/
def State.startFail (s : State) (a : Fin 24) : State :=
  if s.ax[a].retries < s.nretry a then s.toRetry a else s.toStopped a .startFail

/-! ### The target (R263, R267, R268, R274) -/

/-- π to 40 digits; the whole mm/s that R267 takes do not depend on the rest. -/
def piQ : Rat := 31415926535897932384626433832795028841971 / 10000000000000000000000000000000000000000

/-- v_row of R267 in whole mm/s, from the fused speed and yaw rate of the latest epoch. -/
def State.vRow (s : State) (a : Fin 24) : State × Int :=
  let y : Rat := if bit (s.axReg A.AX_GS_CTL a) 1 then sInt (s.axReg A.AX_GS_LAT a) else 0
  s.round (s.fus.v + s.fus.yaw * y * piQ / 18000)

/-- The ground-slaved target in 1/16 rpm before its clamp (R267, R268). -/
def State.groundTarget (s : State) (a : Fin 24) : State × Int :=
  let ctl := s.axReg A.AX_GS_CTL a
  if !bit ctl 0 || !bit (s.rd (A.FUS_EST 0)) 15 || !s.dom 8 || s.fus.v ≤ 0 then (s, 0)
  else
    match s.vRow a with
    | (s, v) =>
      if v ≤ 0 then (s, 0)
      else
        let rpm : Rat := (60 * v * (s.axReg A.AX_GS_RATE a).toNat * (s.axReg A.AX_GS_GEAR a).toNat : Rat) /
          (1000 * 256 * field (s.axReg A.AX_GS_CELLS a) 7 0 * 256)
        match s.round (16 * rpm) with
        | (s, n) => (s, if bit ctl 2 then -n else n)

/-- The target of the source in 1/16 rpm, clamped to ±AX_SPD_MAX (R263, R274). -/
def State.target (s : State) (a : Fin 24) : State × Int :=
  let mx : Int := 16 * (s.axReg A.AX_SPD_MAX a).toNat
  if s.axSrc a = 0 then (s, clampI (-mx) mx (16 * sInt (s.axReg A.AX_SPD_SET a)))
  else
    match s.groundTarget a with
    | (s, n) => (s, clampI (-mx) mx n)

/-! ### The ramp limiter (R263) -/

/-- One update of the limiter with the target in 1/16 rpm, ACC and DEC in rpm/s, Δt in PWM clocks and tREVD in PWM clocks. The wait of
a reversal runs until the step that finds tREVD over; a target of 0 lets it run on (R263). -/
def Axis.limit (x : Axis) (tgt : Int) (acc dec dt revd : Nat) : Axis :=
  let t := tgt * refUnit
  let up : Int := 16 * acc * dt
  let dn : Int := 16 * dec * dt
  let r := x.ref
  let ref :=
    if r ≠ 0 ∧ (t = 0 ∨ t.sign ≠ r.sign) then withSign r (max 0 (r.natAbs - dn))
    else if r ≠ 0 then
      if r.natAbs < t.natAbs then withSign r (min t.natAbs (r.natAbs + up)) else withSign r (max t.natAbs (r.natAbs - dn))
    else if t ≠ 0 ∧ (x.lastDir = 0 ∨ t.sign = x.lastDir ∨ revd ≤ x.zeroT) then withSign t (min t.natAbs up)
    else 0
  let zt := if ref = 0 then x.zeroT + dt else 0
  { x with
    ref := ref, tgt := tgt, zeroT := zt, lastDir := if ref = 0 then x.lastDir else ref.sign
    dwell := ref = 0 && x.lastDir ≠ 0 && x.zeroT < revd && (if t = 0 then x.dwell else t.sign ≠ x.lastDir) }

/-- The limiter's step of an axis; AX_REF and AX_TARGET show both rounded to whole rpm (R263). -/
def State.limiter (s : State) (a : Fin 24) (tgt : Int) (dt : Nat) : State :=
  let acc := (s.axReg A.AX_ACC a).toNat
  let dec := (s.axReg A.AX_DEC a).toNat
  let revd := msClks (field (s.axReg A.AX_REVD a) 7 0)
  let s := s.modAx a (fun x => x.limit tgt acc dec dt revd)
  match s.round (refRpm s.ax[a].ref) with
  | (s, r) =>
    match s.round ((tgt : Rat) / 16) with
    | (s, g) => (s.wr (axAddr A.AX_REF a) (wInt r)).wr (axAddr A.AX_TARGET a) (wInt g)

/-! ### Measured speed (R255) -/

/-- Pole pairs of an axis. -/
def State.poles (s : State) (a : Fin 24) : Nat := field (s.axReg A.AX_POLES a) 5 0

/-- Speed from the last commutation edges in rpm: n intervals of a sixth of an electrical turn between n + 1 edges; 0 when
no edge has come within AX_TSTALL (R255). -/
def State.edgeSpeed (s : State) (a : Fin 24) : Rat :=
  let x := s.ax[a]
  match x.edges, x.edges.getLast? with
  | t1 :: _, some t0 =>
    if msTicks (s.axReg A.AX_TSTALL a).toNat < s.clk.ticks - t1 || t1 ≤ t0 then 0
    else (x.edgeDir * (x.edges.length - 1 : Nat) * 60000000 : Rat) / (6 * (t1 - t0 : Nat) * s.poles a)
  | _, _ => 0

/-- Speed from the encoder's count change over the last speed steps in rpm (R255). -/
def State.encSpeed (s : State) (a : Fin 24) : Rat :=
  let x := s.ax[a]
  match x.encHist, x.encHist.getLast? with
  | (c1, t1) :: _, some (c0, t0) =>
    if t1 ≤ t0 then 0
    else ((c1 - c0) * 60 * 200000000 : Rat) / ((s.axReg A.AX_ENC_CPR a).toNat * (t1 - t0 : Nat))
  | _, _ => 0

/-- Measure AX_SPD (R255); the observer's speed is a free value. -/
def State.measure (s : State) (a : Fin 24) : State :=
  let x := s.ax[a]
  let m := s.axMode a
  let put (s : State) (v : Rat) : State :=
    match s.round v with
    | (s, n) => s.wr (axAddr A.AX_SPD a) (wInt (satS n))
  if m = .openLoop ∨ x.st = .ramp then put s (refRpm x.ifs)
  else
    match m with
    | .sixHall => put s (s.edgeSpeed a)
    | .sixBemf => put s (s.edgeSpeed a)
    | .focHall => put s (s.edgeSpeed a)
    | .focEnc => put s (s.encSpeed a)
    | .focObs => s.took.wr (axAddr A.AX_SPD a) (Config.freeWord s.free)
    | _ => put s 0

/-! ### Stalls (R265, R266) -/

/-- Since when a condition holds. -/
def since (old : Option Nat) (now : Nat) (c : Bool) : Option Nat := if c then some (old.getD now) else none

/-- Follow the conditions of the three criteria, while the axis is in RUN (R265). -/
def State.watchStall (s : State) (a : Fin 24) : State :=
  let now := s.clk.ticks
  let run := s.ax[a].st == .run
  let ref := s.ax[a].ref
  let spd := sInt (s.axReg A.AX_SPD a)
  let nmin := rpmRef (s.axReg A.AX_NMIN a).toNat
  let err := rpmRef (s.axReg A.AX_STALL_ERR a).toNat
  let low := field (s.axReg A.AX_CONF a) 7 0 < field (s.axReg A.AX_CONF_THR a) 7 0
  s.modAx a (fun x =>
    { x with
      nminAt := since x.nminAt now (run && nmin < ref.natAbs)
      confAt := since x.confAt now (run && low)
      errAt := since x.errAt now (run && err < (ref - rpmRef spd).natAbs) })

/-- A time of at least `n` ms has passed since `at'`. -/
def lasted (at' : Option Nat) (now n : Nat) : Bool :=
  match at' with
  | none => false
  | some t => msTicks n ≤ now - t

/-- A criterion holds for its time and is enabled: 0 edge, 1 conf, 2 err (R265). -/
def State.stallHolds (s : State) (a : Fin 24) (crit : Fin 3) : Bool :=
  let x := s.ax[a]
  let now := s.clk.ticks
  let m := s.axMode a
  let tstall := (s.axReg A.AX_TSTALL a).toNat
  bit (s.axReg A.AX_STALLCFG a) (4 + crit.val) && x.st == .run &&
    (if crit = 0 then
      (m.hall || m == .sixBemf || m == .focEnc) && lasted x.nminAt now tstall && msTicks tstall ≤ now - x.edgeAt
    else if crit = 1 then m.sensorless && lasted x.confAt now tstall
    else s.hasRef a && lasted x.errAt now (s.axReg A.AX_TSTALLDET a).toNat)

/-- The reaction to a stall (R265, R266); the criteria restart after it. -/
def stall (a : Fin 24) (s : State) : State :=
  let react := field (s.axReg A.AX_STALLCFG a) 1 0
  let s := (s.satInc (axAddr A.AX_STALLCNT a)).modAx a (fun x => { x with nminAt := none, confAt := none, errAt := none })
  if react = 2 then
    (s.modAx a (fun x => { x with stall := true })).raiseAxis (axBank a) false (w16 a.val) (w16 (0x8000 + AxCause.stall.code))
  else if react = 1 && s.ax[a].retries < s.nretry a then s.toRetry a
  else s.toStopped a .stall

/-! ### Hall and encoder inputs (R251, R252, R276) -/

/-- The position of a Hall state in the forward sequence 1, 3, 2, 6, 4, 5 (R251); none for 0 and 7. -/
def hallPos (h : Nat) : Option Nat :=
  match h with
  | 1 => some 0
  | 3 => some 1
  | 2 => some 2
  | 6 => some 3
  | 4 => some 4
  | 5 => some 5
  | _ => none

/-- The sector of a Hall state (R251). -/
def State.hallSector (s : State) (a : Fin 24) (h : Nat) : Option Nat :=
  let cfg := s.axReg A.AX_HALLCFG a
  (hallPos h).map (fun p => if bit cfg 3 then (field cfg 2 0 + 6 - p) % 6 else (p + field cfg 2 0) % 6)

/-- A reading of the filtered Hall state: two readings of 0 or 7 in a row stop the axis in a Hall mode, MOTOR_ID on it too (R276). -/
def State.hallRead (s : State) (a : Fin 24) (h : Nat) : State :=
  let bad := (hallPos h).isNone
  let s := s.modAx a (fun x => { x with hallBad := if bad then x.hallBad + 1 else 0 })
  let x := s.ax[a]
  if 2 ≤ x.hallBad && (s.axMode a).hall && !s.following then s.stopAxis a .hall else s

/-- A filtered Hall edge (R251, R255, R276): the new state, its sector, and the commutation edge it makes. -/
def hallEdge (a : Fin 24) (h : Fin 8) (s : State) : State :=
  let now := s.clk.ticks
  let old := s.hallSector a (field (s.axReg A.AX_HALL a) 2 0)
  let new := s.hallSector a h.val
  let s := match new with
    | none => s.wr (axAddr A.AX_HALL a) (setField (s.axReg A.AX_HALL a) 2 0 h.val)
    | some k =>
      let s := s.wr (axAddr A.AX_HALL a) (w16 (k * 16 + h.val))
      let s := if (s.axMode a).hall then s.modAx a (fun x => { x with sector := k }) else s
      match old with
      | none => s.modAx a (fun x => { x with edges := [now], edgeDir := 0, edgeAt := now })
      | some j =>
        let d := (k + 6 - j) % 6
        if d = 0 then s
        else if d = 1 then s.modAx a (fun x => x.edge now 1)
        else if d = 5 then s.modAx a (fun x => x.edge now (-1))
        else (s.satInc (axAddr A.AX_HALLERR a)).modAx a (fun x => { x with edges := [now], edgeAt := now })
  s.hallRead a h.val

/-- The sector of an axis follows its Hall state under the settings in force (R251). -/
def State.hallConfig (s : State) (x : Fin 24) : State :=
  let w := s.axReg A.AX_HALL x
  match s.hallSector x (field w 2 0) with
  | none => s
  | some k =>
    let s := s.wr (axAddr A.AX_HALL x) (setField w 6 4 k)
    if (s.axMode x).hall then s.modAx x (fun y => { y with sector := k }) else s

/-- The lands of an axis take new levels. -/
def State.setHall (s : State) (a : Fin 24) (h : BitVec 3) : State := s.modLands (fun l => { l with hall := l.hall.set a h })

/-- As its bank domain comes on, AX_HALL shows the levels at the lands of an axis (R251, R280). -/
def State.hallStart (s : State) (a : Fin 24) : State :=
  (s.wr (axAddr A.AX_HALL a) (w16 (s.lands.hall[a]).toNat)).hallConfig a

/-- The place of two encoder tracks in the order in which A leads B. -/
def quadPos (a b : Bool) : Nat := if a then (if b then 2 else 1) else (if b then 3 else 0)

/-- An edge of track A or B (R252): four counts a line, modulo AX_ENC_CPR; A leading B counts up (DEDUCED,
notes/assumptions/14.md). -/
def encoderCount (a : Fin 24) (trackB level : Bool) (s : State) : State :=
  let oa := s.lands.hall[a].getLsbD 0
  let ob := s.lands.hall[a].getLsbD 1
  let na := if trackB then oa else level
  let nb := if trackB then level else ob
  let d := (quadPos na nb + 4 - quadPos oa ob) % 4
  let step : Int := if d = 1 then 1 else if d = 3 then -1 else 0
  let step := if bit (s.axReg A.AX_ENCCFG a) 1 then -step else step
  let cpr : Int := (s.axReg A.AX_ENC_CPR a).toNat
  let cnt : Int := (s.axReg A.AX_ENCPOS a).toNat
  let s := s.wr (axAddr A.AX_ENCPOS a) (wInt ((cnt + step) % cpr))
  s.modAx a (fun x =>
    { x with encTot := x.encTot + step, edgeAt := if step = 0 then x.edgeAt else s.clk.ticks })

/-- An index edge (R252, R276). -/
def encoderIndex (a : Fin 24) (s : State) : State :=
  let x := s.ax[a]
  let cpr := (s.axReg A.AX_ENC_CPR a).toNat
  let cnt := (s.axReg A.AX_ENCPOS a).toNat
  if !x.encIdx then (s.modAx a (fun x => { x with encIdx := true })).wr (axAddr A.AX_ENCPOS a) 0
  else if 4 < min cnt (cpr - cnt) && !s.following then s.stopAxis a .enc
  else s

/-! ### Start-up steps (R257, R259) -/

/-- The angles of the six saliency pulses in electrical degrees (R259). -/
def salAngles : List Nat := [0, 180, 60, 240, 120, 300]

/-- The angle of a pulse of a saliency step: the pair with the largest summed peak, and of it the larger peak; equally
large ones are a free choice (R259). -/
def State.salAngle (s : State) (peaks : List (BitVec 16)) : State × Nat :=
  let pk (k : Nat) : Nat := (peaks[k]?.getD 0).toNat
  let sum (p : Nat) : Nat := pk (2 * p) + pk (2 * p + 1)
  let best := max (sum 0) (max (sum 1) (sum 2))
  match s.pick ([0, 1, 2].filter (fun p => sum p == best)) with
  | (s, p) =>
    let p := p.getD 0
    let top := max (pk (2 * p)) (pk (2 * p + 1))
    match s.pick ([2 * p, 2 * p + 1].filter (fun k => pk k == top)) with
    | (s, k) => (s, salAngles[k.getD 0]?.getD 0)

/-- Six saliency pulses are done (R259): the angle is estimated and ALIGN begins. -/
def saliencyDone (a : Fin 24) (peaks : List (BitVec 16)) (s : State) : State :=
  match s.salAngle peaks with
  | (s, deg) =>
    s.modAx a (fun x => { x with st := .align, since := s.clk.ticks, ang := (65536 * deg : Rat) / 360 })

/-- The encoder's electrical angle before AX_ENC_OFS, in 1/65,536 turn (R252). -/
def State.encAngle (s : State) (a : Fin 24) : Rat :=
  ((s.axReg A.AX_ENCPOS a).toNat * s.poles a * 65536 : Rat) / (s.axReg A.AX_ENC_CPR a).toNat

/-- AX_TALIGN has elapsed (Table AXIS-4): FOC_ENC takes the aligned angle as 0; a sensorless or OPEN_LOOP axis ramps. -/
def alignDone (a : Fin 24) (s : State) : State :=
  let now := s.clk.ticks
  let m := s.axMode a
  if m.sensorless || m == .openLoop then
    s.modAx a (fun x => { x with st := .ramp, since := now, ifs := 0, handAcc := none })
  else
    match s.round (-(s.encAngle a)) with
    | (s, n) =>
      (s.wr (axAddr A.AX_ENC_OFS a) (wInt n)).modAx a (fun x =>
        { x with st := .run, since := now, runAt := now, ang := 0, holdAng := 0 })

/-! ### The commands -/

/-- The engine of an axis' bank runs, and with it the axis registers act (R280, Table MAP-10). -/
def State.axOn (s : State) (a : Fin 24) : Bool := s.dom (axBank a).val

/-- An edge of a Hall land whose level lasts `held` ns passes the glitch filter of filt × 200 ns, which lies within 20 ns of it (R251,
Table AXIS-5); inside that band a free value decides. -/
def State.hallPass (s : State) (a : Fin 24) (held : Nat) : State × Bool :=
  let w := 200 * field (s.axReg A.AX_HALLCFG a) 7 4
  if w = 0 then (s, true) else s.passes held (w - 20) (w + 20)

/-- HALL_EDGE (R251): the Hall state after an edge, through the filter; the lands carry the encoder in FOC_ENC (R252). -/
def execHallEdge (a : Fin 24) (h : Held (Fin 8)) (s : State) : Host.Outcome State Fault Refusal :=
  .next (if !s.hears then s
    else if s.axOn a then
      match s.hallPass a h.ns with
      | (s, true) => (if s.axMode a = .focEnc then s else hallEdge a h.val s).setHall a (BitVec.ofNat 3 h.val.val)
      | (s, false) => s
    else s.setHall a (BitVec.ofNat 3 h.val.val))

/-- A filtered edge of an encoder track (R252): track 0 is A, 1 is B, 2 the index Z, whose rising edge acts with index_en = 1. -/
def encoderEdge (a : Fin 24) (track : Fin 3) (level : Bool) (s : State) : State :=
  if track = 2 then if level && bit (s.axReg A.AX_ENCCFG a) 0 then encoderIndex a s else s
  else encoderCount a (track = 1) level s

/-- The levels of an axis's lands after an edge of one of them. -/
def State.hallAfter (s : State) (a : Fin 24) (track : Fin 3) (level : Bool) : BitVec 3 :=
  if level then s.lands.hall[a] ||| BitVec.twoPow 3 track.val else s.lands.hall[a] &&& ~~~ BitVec.twoPow 3 track.val

/-- ENCODER_EDGE (R252): an edge of a track, through the filter of the land (R251). -/
def execEncoderEdge (a : Fin 24) (track : Fin 3) (level : Held Bool) (s : State) : Host.Outcome State Fault Refusal :=
  .next (if !s.hears then s
    else if s.axOn a then
      match s.hallPass a level.ns with
      | (s, true) =>
        let h := s.hallAfter a track level.val
        (if s.axMode a = .focEnc then encoderEdge a track level.val s else s).setHall a h
      | (s, false) => s
    else s.setHall a (s.hallAfter a track level.val))

/-- ALIGN_DONE (R257). -/
def execAlignDone (a : Fin 24) (s : State) : Host.Outcome State Fault Refusal :=
  .next (if s.ax[a].st == .align && !s.following && msTicks (s.axReg A.AX_TALIGN a).toNat ≤ s.clk.ticks - s.ax[a].since then
      alignDone a s
    else s)

/-- RETRY_WAIT_END (R257): 100 ms in RETRY_WAIT. -/
def execRetryWaitEnd (a : Fin 24) (s : State) : Host.Outcome State Fault Refusal :=
  .next (if s.ax[a].st == .retryWait && !s.following && msTicks 100 ≤ s.clk.ticks - s.ax[a].since then s.startUp a else s)

/-- STALL_DETECTED (R265, R266): crit 0 edge, 1 conf, 2 err. -/
def execStallDetected (a : Fin 24) (crit : Fin 3) (s : State) : Host.Outcome State Fault Refusal :=
  .next (if s.stallHolds a crit && !s.following then stall a s else s)

/-- The least time of the six pulses, in ticks: tSAL each (R259). -/
def State.salTicks (s : State) (a : Fin 24) : Nat := 6 * field (s.axReg A.AX_SALCFG a) 7 0

/-- SALIENCY_DONE (R259): not before the six pulses can have ended. -/
def execSaliencyDone (a : Fin 24) (peaks : List (BitVec 16)) (s : State) : Host.Outcome State Fault Refusal :=
  .next (if s.ax[a].st == .saliency && !s.following && s.salTicks a ≤ s.clk.ticks - s.ax[a].since then saliencyDone a peaks s else s)

end Sys2Proof.Machine
end

