-- ==== Sys2Proof/Machine/Bytes.lean ====
section
/-! DEFINITION. Sys2Proof/Machine/Bytes.lean: byte arrays held as sparse cells (the store array, R387, and the load window,
R81), little-endian numbers, and the CRC-32 of R67. -/
namespace Sys2Proof.Machine

/-- The byte at an address of an array whose unlisted bytes read `d`. -/
def cellRd (d : Byte) (m : List Host.Cell) (a : Nat) : Byte := (mapGet m a).getD d

/-- The array with one byte set; a byte at `d` is not listed. -/
def cellWr (d : Byte) (m : List Host.Cell) (a : Nat) (b : Byte) : List Host.Cell :=
  if b = d then mapDel m a else mapPut m a b

/-- The array with bytes set from an address on. -/
def cellWrs (d : Byte) (m : List Host.Cell) (a : Nat) : List Byte → List Host.Cell
  | [] => m
  | b :: bs => cellWrs d (cellWr d m a b) (a + 1) bs

/-- `n` bytes from an address on. -/
def cellRds (d : Byte) (m : List Host.Cell) (a n : Nat) : List Byte := (List.range n).map (fun i => cellRd d m (a + i))

/-- Addresses rise strictly and no listed byte reads as an unlisted one. -/
def cellsOk (d : Byte) : List Host.Cell → Bool
  | [] => true
  | [x] => x.2 != d
  | x :: y :: r => x.2 != d && x.1 < y.1 && cellsOk d (y :: r)

/-- The low `n` bytes of a number, the lowest first. -/
def leBytes (n x : Nat) : List Byte := (List.range n).map (fun i => BitVec.ofNat 8 (x / 256 ^ i))

/-- The number that bytes spell, the lowest first. -/
def leNat : List Byte → Nat
  | [] => 0
  | b :: bs => b.toNat + 256 * leNat bs

/-- The bytes of words, the low byte of each first. -/
def wordBytes (ws : List Word) : List Byte := ws.flatMap (fun w => leBytes 2 w.toNat)

/-- One bit of the reflected CRC-32. -/
def crcBit (c : BitVec 32) : BitVec 32 := if c.getLsbD 0 then (c >>> 1) ^^^ 0xEDB88320#32 else c >>> 1

/-- One byte of the reflected CRC-32. -/
def crcByte (c : BitVec 32) (b : Byte) : BitVec 32 :=
  crcBit (crcBit (crcBit (crcBit (crcBit (crcBit (crcBit (crcBit (c ^^^ b.setWidth 32))))))))

/-- CRC-32 of IEEE 802.3 (R67). -/
def crc32 (l : List Byte) : Nat := (l.foldl crcByte 0xFFFFFFFF#32 ^^^ 0xFFFFFFFF#32).toNat

end Sys2Proof.Machine
end

