-- ==== Sys2Proof/Machine/Pwm.lean ====
section
/-! DEFINITION. Sys2Proof/Machine/Pwm.lean: the 24 PWM timers: start, stop, wrap, transfers, the plan of a period, refresh
pulses, the minimum pulse filter, forces, trigger compares and the delay-line calibration (05_pwm_timers.md). -/
namespace Sys2Proof.Machine

/-! ### The words of a timer (Tables PWM-2, PWM-8) -/

/-- The address of the word at an offset of a timer block. -/
def timAddr (t : Fin 24) (k : Nat) : Nat := A.PWM_CTL (axBank t).val (axSlot t).val + k

/-- The sixteen shadow words of a timer. -/
def State.shadows (s : State) (t : Fin 24) : List Word := s.rds (timAddr t 0) 16

/-- Offsets of the frame group, PWM_CTL.psc apart (Table PWM-2). -/
def frameOff (k : Nat) : Bool := k == 1 || (9 ≤ k && k ≤ 13)

/-- Offsets of the compare group (Table PWM-2). -/
def compareOff (k : Nat) : Bool := 2 ≤ k && k ≤ 8

/-- The words in effect after the frame group of `w` transfers. -/
def takeFrame (act : Vector Word 16) (w : List Word) : Vector Word 16 :=
  Vector.ofFn (fun k : Fin 16 =>
    if k.val = 0 then setField act[k] 3 0 (field (w[0]?.getD 0) 3 0)
    else if frameOff k.val then w[k.val]?.getD 0 else act[k])

/-- The words in effect after the compare group of `w` transfers. -/
def takeCompare (act : Vector Word 16) (w : List Word) : Vector Word 16 :=
  Vector.ofFn (fun k : Fin 16 => if compareOff k.val then w[k.val]?.getD 0 else act[k])

/-- The words in effect after the direct registers are taken at PWM clock `t` (R156). -/
def takeDirect (x : Timer) (t : Nat) : Vector Word 16 :=
  Vector.ofFn (fun k : Fin 16 =>
    if k.val = 0 then setField x.act[k] 15 15 (b2n (bit (x.ctl.at t) 15))
    else if k.val = 14 then x.force.at t
    else if k.val = 15 then x.ref.at t
    else x.act[k])

/-- cmp_src in effect is AXIS (R161). -/
def srcAxis (act : Vector Word 16) : Bool := bit act[0] 15

/-- P, the prescaler in effect (R153, R154). -/
def prescale (act : Vector Word 16) : Nat := 2 ^ field act[0] 3 0

/-- The length of a period in PWM clocks (R153). -/
def periodClks (act : Vector Word 16) : Nat := ((act[1]).toNat + 1) * prescale act

/-- The next wrap of a running timer (R153). -/
def Timer.nextWrap (x : Timer) : Nat := x.base + periodClks x.act

/-- NREF and tREF in PWM clocks in effect (R163). -/
def nref (act : Vector Word 16) : Nat := field act[15] 13 8 + 1
def trefClks (act : Vector Word 16) : Nat := 2 * field act[15] 7 0

/-! ### The command of a period (R155, R164 to R168) -/

/-- The reverse of four bits (R168). -/
def rev4 (k : Nat) : Nat := b2n (natBit k 0) * 8 + b2n (natBit k 1) * 4 + b2n (natBit k 2) * 2 + b2n (natBit k 3)

/-- The on-time that compare and fraction of role `r` command, in 1/64 of a PWM clock (R155, R166 to R168). -/
def onTime (act : Vector Word 16) (r : Fin 3) (phase : Nat) (dith line : Bool) : Nat :=
  let per := (act[1]).toNat
  let cmp := (act[r.val + 2]).toNat
  let hr := field (act[r.val + 5]) 5 0
  if cmp = 0 then 0
  else if per < cmp then periodClks act * 64
  else if field act[0] 3 0 ≠ 0 then cmp * prescale act * 64
  else if dith then (if rev4 phase < hr % 16 then cmp + 1 else cmp) * 64
  else if line then cmp * 64 + hr
  else cmp * 64

/-- The minimum pulse filter on an on-time of a period `per`, all in 1/64 of a PWM clock: the on-time it leaves and the
changes it makes (R164). -/
def minPulse (w : Word) (per on : Nat) : Nat × Nat :=
  let tm := field w 7 0 * 64
  if tm = 0 ∨ on = 0 then (on, 0)
  else
    let (on, n) := if on < tm then (if bit w 8 then (tm, 1) else (0, 1)) else (on, 0)
    if 0 < on ∧ on < per ∧ per - on < tm then (per, n + 1) else (on, n)

/-- What rows 7 to 9 command a channel in a period before the refresh pulse: Hi-Z throughout, or an on-time in 1/64 of a
PWM clock, with the changes of the filter (R155, R164, R171). -/
def chanPlan (act : Vector Word 16) (r : Fin 3) (force : Nat) (kept : ChCmd) (phase : Nat) (dith line : Bool) :
    Option Nat × Nat :=
  let per := periodClks act * 64
  if force = 1 then (none, 0)
  else if force = 2 then (some per, 0)
  else if force = 3 then (some 0, 0)
  else if force = 4 then
    match kept with
    | .hiz => (none, 0)
    | .low => (some 0, 0)
    | .high => (some per, 0)
  else if bit act[8] r.val then
    let (on, n) := minPulse act[13] per (onTime act r phase dith line)
    (some on, n)
  else (none, 0)

/-- The force that a wrap takes, and what HOLD keeps from the period that it ends (R171). -/
def Chan.takeForce (c : Chan) (act : Vector Word 16) (r : Fin 3) : Nat × ChCmd :=
  let force := field act[14] (3 * r.val + 2) (3 * r.val)
  (force, if force = 4 ∧ c.force ≠ 4 then c.cmd else c.kept)

/-- A channel at the PWM clock `w` that begins a period: force, hold, plan and refresh (R155 to R171). `start` says a start
edge, `boot` a bootstrap-only bank, `now` that a row above the forces drives the half-bridge at `w`, `line` that the channel's
delay line places the fraction with the code-to-tap map `map` (R167). -/
def Chan.begin (c : Chan) (act : Vector Word 16) (r : Fin 3) (w phase : Nat) (map : List Nat)
    (dith line start boot now : Bool) : Chan × Nat :=
  let (force, kept) := c.takeForce act r
  let cnt := if start || c.above then nref act else c.refCnt
  let base : Chan := { c with force := force, kept := kept, above := now, fallAt := none, taps := 0, tap := 0, refEnd := none }
  match chanPlan act r force kept phase dith line with
  | (none, n) => ({ base with cmd := .hiz, refCnt := nref act }, n)
  | (some on, n) =>
    if on = 0 then ({ base with cmd := .low, refCnt := nref act }, n)
    else if on = periodClks act * 64 then
      if boot ∧ nref act ≤ cnt ∧ now = false then
        ({ base with cmd := .low, refEnd := some (w + trefClks act), after := .high, refCnt := 0 }, n)
      else ({ base with cmd := .high, refCnt := if now then nref act else min (cnt + 1) (nref act) }, n)
    else ({ base with cmd := .high, fallAt := some (w + on / 64), taps := on % 64, refCnt := nref act
                      tap := if line then (map[on % 64]?).getD 0 else 0 }, n)

/-- A channel of a timer that stops (R162, R163); the stopping wrap takes a force as any other wrap does (R171). -/
def Chan.stopped (c : Chan) (act : Vector Word 16) (r : Fin 3) : Chan :=
  let (force, kept) := c.takeForce act r
  { c with
    cmd := .hiz, fallAt := none, taps := 0, tap := 0, refEnd := none, refCnt := nref act, above := true, force := force
    kept := kept }

/-! ### Events of a timer (R173) -/

/-- An event of a crossbar source at one of its destinations: the start of a converter or an engine loop tick, which that unit
then takes, or a pulse of a trigger land (R57, R173, Table IMG-7). -/
def State.trigAt (s : State) (dk di w : Nat) : State :=
  if h : dk = 1 ∧ di < 24 then s.modConv ⟨di, h.2⟩ (fun v => { v with due := v.due + 1 })
  else if h : dk = 2 ∧ di < 24 then s.modAx ⟨di, h.2⟩ (fun x => { x with tickDue := x.tickDue + 1 })
  else if h : dk = 3 ∧ di < 4 then s.modLands (fun l => { l with trgo := l.trgo.set di (some w) h.2 })
  else s

/-- An event of a crossbar source reaches every destination routed to it (R57, R173). -/
def State.trig (s : State) (sk si w : Nat) : State := s.each (s.routedFrom sk si) (fun s p => s.trigAt p.1 p.2 w)

/-! ### Wraps and start edges (R156 to R163) -/

/-- A row above the forces drives channel `r` of a timer now. -/
def State.chAbove (s : State) (t : Fin 24) (r : Fin 3) : Bool :=
  match s.axHb t r with
  | none => true
  | some h => s.aboveForces h

/-- Whether the line of channel `r` of a timer carries a fraction in the period that begins: a good table exists, and DLINE_CAL does
not measure the line (R167, R170, R178). Which line of a bank it measures now is open (notes/assumptions/9.md). -/
def State.lineOf (s : State) (t : Fin 24) (r : Fin 3) : State × Bool :=
  let valid := (s.bank[axBank t]).dlcValid
  match s.axHb t r, s.runsOn opDLINE_CAL (axBank t) with
  | some _, some i =>
    if natBit s.ops.slots[i].work (axBank t).val then (s, valid) else (s.took, valid && !Config.freeBool s.free)
  | _, _ => (s, valid)

/-- A timer takes the latest table of its bank at a wrap (R169). -/
def State.takeTable (s : State) (t : Fin 24) : State :=
  let k := s.bank[axBank t]
  if k.dlcValid && !s.dither t then
    let m := Vector.ofFn (fun r : Fin 3 => match s.axHb t r with
      | none => []
      | some h => k.dlcMap[hbIn h])
    s.modTim t (fun x => { x with tbl := k.dlcGen, map := m })
  else s

/-- Begin a period of a timer at PWM clock `w` with the words `act`; `start` says a start edge (R155, R162 to R171). -/
def State.beginPeriod (s : State) (t : Fin 24) (w : Nat) (act : Vector Word 16) (start : Bool) : State :=
  let boot := !s.cpBank (axBank t)
  let dith := s.dither t
  let s := (s.takeTable t).modTim t (fun x =>
    { x with
      act := act, base := w, phase := if start then 0 else (x.phase + 1) % 16, fired := 0
      ctl := x.ctl.settle w, force := x.force.settle w, ref := x.ref.settle w })
  s.each (List.finRange 3) (fun s r =>
    match s.lineOf t r with
    | (s, carries) =>
      let x := s.tim[t]
      let (c, n) := x.ch[r].begin act r w x.phase x.map[r] dith carries start boot (s.chAbove t r)
      (s.modTim t (fun x => { x with ch := x.ch.set r c })).satAdd (timAddr t 0x13) n)

/-- The half-bridges of a timer leave what held them until this wrap: the released command (R177) and the cycle-by-cycle
limit (R228). -/
def State.freeHbs (s : State) (t : Fin 24) : State :=
  s.each (s.axHbs t) (fun s h => s.modHb h (fun x => { x with back := none, limit := none }))

/-- The writes of the axis logic that count at a wrap or start edge `w`: one made while cmp_src = HOST was in effect is discarded
(R161). -/
def Timer.axisWrites (x : Timer) (w : Nat) : List (Nat × List Word) :=
  x.cmpStage.filter (fun p => srcAxis x.act || w ≤ p.1)

/-- The latest write of the axis logic at least 4 PWM clocks before `w` (R161). -/
def Timer.ripe (x : Timer) (w : Nat) : Option (List Word) :=
  ((x.axisWrites w).filter (fun p => p.1 + 4 ≤ w)).getLast?.map (·.2)

/-- The writes of the axis logic that stay after `w`, under the source in effect from `w` on: AXIS keeps those too young for `w`,
HOST those whose instant is still to come (R161). -/
def Timer.unripe (x : Timer) (w : Nat) (axis : Bool) : List (Nat × List Word) :=
  (x.axisWrites w).filter (fun p => if axis then w < p.1 + 4 else w ≤ p.1)

/-- The words in effect and the stages left after the transfers of a wrap `w` (R159, R161, Table PWM-6). -/
def Timer.transfer (x : Timer) (w : Nat) : Timer :=
  let act := takeDirect x w
  let axis := srcAxis act
  let (act, stage) := match x.stage with
    | none => (act, none)
    | some g =>
      if g.at' + 4 ≤ w then
        let act := takeFrame act g.words
        (if g.cmp && !axis then takeCompare act g.words else act, none)
      else (act, some g)
  let act := if axis then
      match x.ripe w with
      | none => act
      | some ws => takeCompare act ws
    else act
  { x with
    act := act, stage := stage, cmpStage := x.unripe w axis
    lastOn := Vector.ofFn (fun r : Fin 3 => (x.act[r.val + 2]).toNat * 64 + field (x.act[r.val + 5]) 5 0) }

/-- A wrap of a running timer at PWM clock `w`: table swap, transfers, then the new period, or the stop (R159, R162,
R169). -/
def State.wrap (s : State) (t : Fin 24) (w : Nat) : State :=
  let stopping := s.tim[t].stopping
  let s := (s.freeHbs t).modTim t (fun x => x.transfer w)
  let act := s.tim[t].act
  let s :=
    if stopping then
      (s.takeTable t).modTim t (fun x =>
        { x with
          run := false, stopping := false, base := w, phase := (x.phase + 1) % 16, fired := 0
          ctl := x.ctl.settle w, force := x.force.settle w, ref := x.ref.settle w
          ch := Vector.ofFn (fun r : Fin 3 => x.ch[r].stopped act r) })
    else s.beginPeriod t w act false
  s.trig 2 t.val w

/-- The start edge of a timer at PWM clock `e` (R162). The compare stage that it takes obeys the 4 PWM clocks of R161 as at a wrap
(DESIGN CHOICE, notes/assumptions/32.md). -/
def State.startEdge (s : State) (t : Fin 24) (e : Nat) : State :=
  let x := s.tim[t]
  let act := takeFrame (takeDirect x e) (s.shadows t)
  let act :=
    if srcAxis act then
      match x.ripe e with
      | none => act
      | some ws => takeCompare act ws
    else takeCompare act (s.shadows t)
  let s := (s.freeHbs t).modTim t (fun x =>
    { x with
      run := true, stopping := false, startAt := none, stage := none, cmpStage := x.unripe e (srcAxis act) })
  (s.beginPeriod t e act true).trig 2 t.val e

/-! ### Arming, starting and stopping (R157 to R162) -/

/-- The bank domain of a timer is on. -/
def State.timOn (s : State) (t : Fin 24) : Bool := s.dom (axBank t).val

/-- Arm one timer at PWM clock `a` (R157, R160); a timer of a bank whose domain is off is not armed (R45). -/
def State.armTimer (s : State) (a : Nat) (t : Fin 24) : State :=
  if s.timOn t then
    let old := s.tim[t].stage
    let w := s.shadows t
    let s := s.modTim t (fun x => { x with stage := some ⟨a, w, !srcAxis x.act⟩ })
    match old with
    | none => s
    | some _ => (s.satInc (timAddr t 0x12)).raise (evARM_REPLACED (axBank t)) (w16 (256 + t.val)) 0
  else s

/-- The timers that the bits of a PWM_LOADALL or PWM_RUN word name (R157, R162). -/
def wordTimers (hi : Bool) (d : Word) : List (Fin 24) :=
  (List.finRange 24).filter (fun t => if hi then 16 ≤ t.val && bit d (t.val - 16) else t.val < 16 && bit d t.val)

/-- A PWM_LOADALL word arms the timers it names, lower number first (R157). -/
def loadAll (a : Nat) (hi : Bool) (d : Word) (s : State) : State := s.each (wordTimers hi d) (fun s t => s.armTimer a t)

/-- The PWM_RUN word of a timer and its bit. -/
def runAddr (t : Fin 24) : Nat := if t.val < 16 then A.PWM_RUN_LO else A.PWM_RUN_HI
def runBit (t : Fin 24) : Nat := t.val % 16

/-- The PWM_RUN bit of a timer. -/
def State.runSet (s : State) (t : Fin 24) : Bool := bit (s.rd (runAddr t)) (runBit t)

/-- Write one PWM_RUN bit at PWM clock `a` (R162): a bit set to 1 starts the timer 4 PWM clocks later or cancels its stop;
a bit set to 0 stops it at its next wrap. R162 does not say what it does to a start edge still to come: it cancels it (DESIGN
CHOICE, notes/assumptions/32.md). -/
def State.setRun (s : State) (a : Nat) (t : Fin 24) (v : Bool) : State :=
  let old := s.runSet t
  let s := s.wr (runAddr t) (setField (s.rd (runAddr t)) (runBit t) (runBit t) (b2n v))
  if old = v ∨ s.timOn t = false then s
  else if v then
    s.modTim t (fun x => if x.run then { x with stopping := false } else { x with startAt := some (a + 4) })
  else s.modTim t (fun x => if x.run then { x with stopping := true } else { x with startAt := none })

/-- Every timer of a bank whose PWM_RUN bit is 1 starts 4 PWM clocks after `a`: the domain comes on, or a bank image is
swapped in (R162). -/
def State.startBank (s : State) (a : Nat) (b : Fin 8) : State :=
  s.each (axesOf b) (fun s t =>
    s.modTim t (fun _ =>
      { Timer.reset with
        startAt := if s.runSet t then some (a + 4) else none
        ctl := ⟨s.rd (timAddr t 0), []⟩, force := ⟨s.rd (timAddr t 14), []⟩, ref := ⟨s.rd (timAddr t 15), []⟩
        ch := Vector.ofFn (fun _ : Fin 3 => { Chan.reset with refCnt := field (s.rd (timAddr t 15)) 13 8 + 1 }) }))

/-- The bank domain goes off: its timers stop and their stages are discarded (R45, R162). -/
def State.stopBank (s : State) (b : Fin 8) : State :=
  s.each (axesOf b) (fun s t =>
    s.modTim t (fun x => { Timer.reset with ctl := x.ctl, force := x.force, ref := x.ref }))

/-! ### The meanings of the timer commands -/

/-- START_EDGE (R162): the start edge that is due in this tick. -/
def execStartEdge (t : Fin 24) (s : State) : Host.Outcome State Fault Refusal :=
  .next (match s.tim[t].startAt with
    | none => s
    | some e => if e < s.tickEnd then s.startEdge t e else s)

/-- TIMER_WRAP (R159, R162): the wrap that is due in this tick. -/
def execTimerWrap (t : Fin 24) (s : State) : Host.Outcome State Fault Refusal :=
  .next (if s.tim[t].run ∧ s.tim[t].nextWrap < s.tickEnd then s.wrap t s.tim[t].nextWrap else s)

/-- COMPARE_MATCH (R155): the end of the on-time that is due in this tick. -/
def execCompareMatch (t : Fin 24) (r : Fin 3) (s : State) : Host.Outcome State Fault Refusal :=
  .next (match (s.tim[t].ch[r]).fallAt with
    | none => s
    | some f =>
      if f < s.tickEnd then
        s.modTim t (fun x => { x with ch := x.ch.set r { x.ch[r] with cmd := .low, fallAt := none } })
      else s)

/-- TRIGGER_COMPARE (R173): TRGn fires once a period, when the counter takes its value. -/
def execTriggerCompare (t : Fin 24) (n : Fin 4) (s : State) : Host.Outcome State Fault Refusal :=
  let x := s.tim[t]
  let trg := (x.act[n.val + 9]).toNat
  let w := x.base + trg * prescale x.act
  .next (if x.run ∧ trg ≤ (x.act[1]).toNat ∧ w < s.tickEnd ∧ natBit x.fired n.val = false then
      (s.modTim t (fun x => { x with fired := x.fired + 2 ^ n.val })).trig 1 (4 * t.val + n.val) w
    else s)

/-- REFRESH_PULSE_END (R163): the period's own command follows. -/
def execRefreshPulseEnd (t : Fin 24) (r : Fin 3) (s : State) : Host.Outcome State Fault Refusal :=
  .next (match (s.tim[t].ch[r]).refEnd with
    | none => s
    | some e =>
      if e < s.tickEnd then
        s.modTim t (fun x => { x with ch := x.ch.set r { x.ch[r] with cmd := x.ch[r].after, refEnd := none } })
      else s)

/-- The physical tap of a live line for a code: the replica's tap less the line's offset in whole taps `k`, kept on the line (R167,
R169; DEDUCED, notes/assumptions/32.md). -/
def lineTap (taps : List (BitVec 6)) (k : Int) (code : Nat) : Nat :=
  (max 0 (min 63 (((taps[code]?).getD 0).toNat - k))).toNat

/-- The code-to-tap map of each live line of a bank, corrected by the line's offset (R169); a measured line's new offset acts from
here on (Table PWM-6). -/
def State.lineMaps (s : State) (b : Fin 8) (taps : List (BitVec 6)) : State :=
  s.each (hbsOf b) (fun s h =>
    match s.round ((sInt (s.hb[h].dlcOfs.getD (Config.dlcTrim h.val)) : Rat) / 16) with
    | (s, k) => s.modBank b (fun y => { y with dlcMap := y.dlcMap.set (hbIn h) ((List.range 64).map (lineTap taps k)) }))

/-- A calibration cycle of a bank's replica line (R169, R178): a new table with its line maps, or a failure. -/
def dlcCycle (b : Fin 8) (ok : Bool) (bias : Byte) (tapdly : Word) (taps : List (BitVec 6)) (s : State) : State :=
  let s := s.modBank b (fun k => { k with dlcCyc := some s.clk.ticks })
  if ok then
    let s := (s.wr (A.DLC_BIAS b.val) (w16 bias.toNat)).wr (A.DLC_TAPDLY b.val) tapdly
    let s := s.wrs (A.DLC_TBL b.val 0) ((List.range 64).map (fun i => w16 ((taps[i]?.getD 0).toNat)))
    let s := s.lineMaps b taps
    s.modBank b (fun k => { k with dlcValid := true, dlcGen := (k.dlcGen + 1) % 256, dlcAt := s.clk.ticks })
  else
    ((s.setFlags (A.DLC_STAT b.val) (bitW 15)).satInc (A.DLC_FAILCNT b.val)).raise (evDLCAL_FAULT b)
      (w16 (2 * 256 + 3 * b.val)) 0

/-- DLC_CAL_CYCLE (R169, R178): every 1 ms while bg_en = 1 and the bank domain is on. -/
def execDlcCalCycle (b : Fin 8) (ok : Bool) (bias : Byte) (tapdly : Word) (taps : List (BitVec 6)) (s : State) :
    Host.Outcome State Fault Refusal :=
  let due := match (s.bank[b]).dlcCyc with
    | none => true
    | some n => 1000 ≤ s.clk.ticks - n
  .next (if s.dom b.val && bit (s.rd (A.DLC_CTL b.val)) 0 && due then dlcCycle b ok bias tapdly taps s else s)

end Sys2Proof.Machine
end

