-- ==== Sys2Proof/Machine/Engine.lean ====
section
/-! DEFINITION. Sys2Proof/Machine/Engine.lean: the bank engine's step (R242 to R245): stale results, the phase-current check,
the speed step, the angle, the current loops of each mode, hand-over and start failure, and the write of the compare stage
(R250, R252 to R264, R270, R277, R452). -/
namespace Sys2Proof.Machine

/-! ### Currents and voltages -/

/-- The latest shunt result of a role's half-bridge, Q15 (R250). -/
def State.roleCurrent (s : State) (a : Fin 24) (r : Fin 3) : Int :=
  match s.axHb a r with
  | none => 0
  | some h => sInt s.hb[h].shunt

/-- The roles of an axis whose shunts the bank converts. -/
def State.shuntRoles (s : State) (a : Fin 24) : List (Fin 3) :=
  (List.finRange 3).filter (fun r =>
    match s.axHb a r with
    | none => false
    | some h => s.convHas 0 h)

/-- Phase current `r`, given the two roles that are measured. -/
def phaseFrom (l : List (Fin 3)) (cur : Fin 3 → Int) (r : Fin 3) : Int :=
  if l.contains r then cur r else -(l.map cur).sum

/-- The phase currents that FOC uses: of three converted phases the two with the lowest duty in the period just ended, of
equally long ones a free choice; the third follows from their sum (R254). -/
def State.currents (s : State) (a : Fin 24) : State × (Fin 3 → Int) :=
  let l := s.shuntRoles a
  if l.length = 3 then
    let on (r : Fin 3) : Nat := s.tim[a].lastOn[r]
    let top := max (on 0) (max (on 1) (on 2))
    match s.pick (l.filter (fun r => on r == top)) with
    | (s, x) => (s, phaseFrom (l.filter (fun r => some r ≠ x)) (s.roleCurrent a))
  else (s, phaseFrom l (s.roleCurrent a))

/-- VM_b in Q15 of 60 V (R250). -/
def State.vm (s : State) (a : Fin 24) : Int := (s.bank[axBank a]).vmRaw.toNat

/-- The duty of a voltage (R254, R256). -/
def overVm (v : Rat) (vm : Int) : Rat := if vm = 0 then Config.noVm v else v / vm

/-- AX_DMAX as a duty. -/
def State.dmax (s : State) (a : Fin 24) : Rat := (s.axReg A.AX_DMAX a).toNat / 32768

/-- A duty held within 0 and AX_DMAX. -/
def clampDuty (mx d : Rat) : Rat := if d < 0 then 0 else if mx < d then mx else d

/-- An integrator word: 32 bits (R274; Table PAIR-4 gives the length). -/
def sat32 (z : Int) : Int := clampI (-2147483648) 2147483647 z

/-- KP_I·e + I in Q15 of 60 V, the integrator in 1/65,536 of it (R256). -/
def piOut (kp e i : Int) : Rat := (kp * e : Rat) / 4096 + (i : Rat) / 65536

/-- The current limit on a reference (R256): the clamped value and whether the clamp acts. -/
def State.limitCur (s : State) (a : Fin 24) (i : Int) : Int × Bool :=
  let mx : Int := (s.axReg A.AX_IMAX a).toNat
  (clampI (-mx) mx i, mx < i.natAbs)

/-- Store a signed Q15 value whose rounding the spec does not state. -/
def State.wrQuant (s : State) (adr : Nat) (x : Rat) : State :=
  match s.quant x with
  | (s, n) => s.wr adr (wInt (satS n))

/-! ### Field-oriented control (R254) -/

/-- The duties of a voltage vector at an angle in 1/65,536 turn, before the clamp: inverse Park transform and min-max
injection (R254). -/
def vectorDuties (ang vd vq : Rat) (vm : Int) : List Rat :=
  let c := Config.cosT (ang / 65536)
  let n := Config.sinT (ang / 65536)
  let va := vd * c - vq * n
  let vb := vd * n + vq * c
  let h := Config.sqrtQ 3 / 2
  let u := va
  let v := -va / 2 + h * vb
  let w := -va / 2 - h * vb
  let mid := (max u (max v w) + min u (min v w)) / 2
  [u, v, w].map (fun p => 1 / 2 + overVm (p - mid) vm)

/-- One FOC step at an angle with references on both axes: the clamped duties (R254, R256). -/
def State.foc (s : State) (a : Fin 24) (ang : Rat) (idRef iqRef : Int) : State × List Rat :=
  match s.currents a with
  | (s, i) =>
    let al : Rat := i 0
    let be : Rat := ((i 1 - i 2 : Int) : Rat) / Config.sqrtQ 3
    let c := Config.cosT (ang / 65536)
    let n := Config.sinT (ang / 65536)
    match s.quant (al * c + be * n) with
    | (s, id) =>
      match s.quant (be * c - al * n) with
      | (s, iq) =>
        let kp : Int := (s.axReg A.AX_KP_I a).toNat
        let ki : Int := (s.axReg A.AX_KI_I a).toNat
        let ed := idRef - id
        let eq := iqRef - iq
        let vm := s.vm a
        let vd0 := piOut kp ed s.ax[a].iD
        let vq0 := piOut kp eq s.ax[a].iQ
        let sq := 3 * (vd0 * vd0 + vq0 * vq0)
        let high : Bool := (vm * vm : Rat) < sq
        let k : Rat := if high then vm / Config.sqrtQ sq else 1
        let raw := vectorDuties ang (k * vd0) (k * vq0) vm
        let duties := raw.map (clampDuty (s.dmax a))
        let hold := high || duties != raw
        let s := if hold then s
          else s.modAx a (fun x => { x with iD := sat32 (x.iD + ki * ed), iQ := sat32 (x.iQ + ki * eq) })
        let s := (s.wr (axAddr A.AX_ID a) (wInt (satS id))).wr (axAddr A.AX_IQ a) (wInt (satS iq))
        ((s.wrQuant (axAddr A.AX_VD a) (k * vd0)).wrQuant (axAddr A.AX_VQ a) (k * vq0), duties)

/-! ### Six-step (R253) -/

/-- One six-step step: the duties and CHEN, the LOW-phase current regulated to `iref` (R253, R256). -/
def State.sixStep (s : State) (a : Fin 24) (iref dir : Int) : State × List Rat × Nat :=
  let (p, l, f) := sectorPhases s.ax[a].sector
  let (p, l) := if dir < 0 then (l, p) else (p, l)
  let meas := -(s.roleCurrent a l)
  let e := iref - meas
  let kp : Int := (s.axReg A.AX_KP_I a).toNat
  let ki : Int := (s.axReg A.AX_KI_I a).toNat
  let vm := s.vm a
  let raw := overVm (piOut kp e s.ax[a].iQ) vm
  let d := clampDuty (s.dmax a) raw
  let s := if d ≠ raw then s else s.modAx a (fun x => { x with iQ := sat32 (x.iQ + ki * e) })
  let s := (s.wr (axAddr A.AX_IQ a) (wInt (satS meas))).wrQuant (axAddr A.AX_VQ a) (d * vm)
  (s, (List.finRange 3).map (fun r => if r = p then d else 0), 7 - 2 ^ f.val)

/-! ### Coil mode (R270) -/

/-- Channel `c` of a COIL axis pauses while a row 2 reaction holds its half-bridge (Table AXIS-6). -/
def State.paused (s : State) (a : Fin 24) (c : Fin 3) : Bool :=
  match s.axHb a c with
  | none => true
  | some h => (s.row2Cmd h).isSome

/-- AX_IC_c reports the latest current of each channel of the slot (R270). -/
def State.reportCoil (s : State) (a : Fin 24) : State :=
  s.each ((List.finRange 3).filter (fun c => (s.axHb a c).isSome)) (fun s c =>
    s.wr (axAddr (fun b j => A.AX_IC b j c.val) a) (wInt (s.roleCurrent a c)))

/-- One channel loop: reference `ref` before the limit, measured current, integrator `c`; the duty (R256, R270). -/
def State.coilLoop (s : State) (a : Fin 24) (c : Fin 3) (ref meas : Int) : State × Rat :=
  let (i, lim) := s.limitCur a ref
  let e := i - meas
  let kp : Int := (s.axReg A.AX_KP_I a).toNat
  let ki : Int := (s.axReg A.AX_KI_I a).toNat
  let raw := overVm (piOut kp e s.ax[a].iC[c]) (s.vm a)
  let d := clampDuty (s.dmax a) raw
  (s.modAx a (fun x =>
    { x with iC := if d ≠ raw then x.iC else x.iC.set c (sat32 (x.iC[c] + ki * e)), ilim := x.ilim || lim }), d)

/-- The set-point of a channel. -/
def State.curSet (s : State) (a : Fin 24) (c : Nat) : Int := sInt (s.axReg (fun b j => A.AX_CUR_SET b j c) a)

/-- One channel of a SINGLE slot: a paused one is LOW with its integrator at 0 (R270, Table AXIS-6). -/
def State.singleStep (s : State) (a : Fin 24) (c : Fin 3) : State × Rat :=
  if (s.axHb a c).isNone then (s, 0)
  else if s.paused a c then (s.modAx a (fun x => { x with iC := x.iC.set c 0 }), 0)
  else s.coilLoop a c (max 0 (s.curSet a c.val)) (s.roleCurrent a c)

/-- One COIL step: the duties of the roles (R270). An H_BRIDGE regulates its LOW leg, whose shunt result is negated as in
R253 (DEDUCED, notes/assumptions/14.md). -/
def State.coilStep (s : State) (a : Fin 24) : State × List Rat :=
  let s := (s.reportCoil a).modAx a (fun x => { x with ilim := false })
  if s.axType a = .hBridge then
    let sp := s.curSet a 0
    let low : Fin 3 := if sp < 0 then 0 else 1
    match s.coilLoop a 0 sp.natAbs (-(s.roleCurrent a low)) with
    | (s, d) => (s, if sp < 0 then [0, d, 0] else [d, 0, 0])
  else
    match s.singleStep a 0 with
    | (s, d0) =>
      match s.singleStep a 1 with
      | (s, d1) =>
        match s.singleStep a 2 with
        | (s, d2) => (s, [d0, d1, d2])

/-! ### The compare stage (R161, R244) -/

/-- CHEN of all roles of an axis. -/
def State.chenAll (s : State) (a : Fin 24) : Nat := 2 ^ (s.axHbs a).length - 1

/-- Compare and fraction words of a duty (R244, R254): compare = duty × (PER + 1), its remainder in the timer's
high-resolution mode; the prescaler allows a fraction only at code 0 (R166). -/
def State.cmpOf (s : State) (a : Fin 24) (d : Rat) : State × Word × Word :=
  let act := s.tim[a].act
  let x := d * ((act[1]).toNat + 1 : Nat)
  let c := x.floor
  if field act[0] 3 0 ≠ 0 then (s, wInt c, 0)
  else
    let n : Int := if s.dither a then 16 else 64
    match s.quant ((x - c) * n) with
    | (s, q) => if q = n then (s, wInt (c + 1), 0) else (s, wInt c, wInt q)

/-- The first wrap of a timer after PWM clock `t`. -/
def Timer.wrapAfter (x : Timer) (t : Nat) : Nat :=
  if t < x.nextWrap then x.nextWrap else x.nextWrap + ((t - x.nextWrap) / periodClks x.act + 1) * periodClks x.act

/-- The axis logic writes the compare group at PWM clock `i`; writes that a later one has replaced, and those made under
cmp_src = HOST, are dropped (R161). -/
def Timer.writeStage (x : Timer) (t i : Nat) (ws : List Word) : Timer :=
  let l := x.axisWrites t
  let ripe := (l.filter (fun p => p.1 + 4 ≤ t)).getLast?
  { x with cmpStage := ripe.toList ++ l.filter (fun p => t < p.1 + 4) ++ [(i, ws)] }

/-- The longest time from a tick to the compare-stage write, in PWM clocks (Table AXIS-5): the step itself, 0.4 µs more for a speed
step, and the steps of the bank's other axes queued ahead. -/
def State.stepClks (s : State) (a : Fin 24) (spd : Bool) : Nat :=
  let m := s.axMode a
  let own := (if m.six || m == .coil then 200 else 320) + (if spd then 80 else 0)
  own + 400 * ((axesOf (axBank a)).filter (fun x => x != a && s.isAxis x && (s.routeTo 2 x.val).isSome)).length

/-- The end of a step (R244, R245): the compare group of the slot's timer goes to the compare stage, at an instant within the bound of
R273; a write that misses the first wrap after its tick is late. One that its instant finds under cmp_src = HOST is discarded
(R161). -/
def State.writeCompare (s : State) (t : Nat) (a : Fin 24) (spd : Bool) (duties : List Rat) (chen : Nat) : State :=
  let du (k : Nat) : Rat := duties[k]?.getD 0
  match s.cmpOf a (du 0) with
  | (s, c0, h0) =>
    match s.cmpOf a (du 1) with
    | (s, c1, h1) =>
      match s.cmpOf a (du 2) with
      | (s, c2, h2) =>
        match s.freeUpTo (s.stepClks a spd) with
        | (s, dly) =>
          let late := s.tim[a].run && s.tim[a].wrapAfter t < t + dly + 4
          let s := s.modTim a (fun x => x.writeStage t (t + dly) [0, 0, c0, c1, c2, h0, h1, h2, w16 chen])
          if late && srcAxis s.tim[a].act then s.satInc (axAddr A.AX_LATECNT a) else s

/-! ### Angles (R251 to R255, R259) -/

/-- An angle modulo one turn. -/
def modTurn (x : Rat) : Rat := x - 65536 * (x / 65536).floor

/-- The angle that a speed in `Axis.ref` units covers in a time of PWM clocks, in 1/65,536 electrical turn. -/
def State.turned (s : State) (a : Fin 24) (v : Int) (dt : Nat) : Rat :=
  refRpm v * s.poles a * dt * 65536 / (60 * 200000000)

/-- The FOC_HALL angle: the boundary of the last edge, advanced by speed × elapsed time and held within the sector (R254);
before any edge it is free within the sector. -/
def State.hallAngle (s : State) (a : Fin 24) : State × Rat :=
  let x := s.ax[a]
  let mid : Rat := (65536 * x.sector : Rat) / 6
  let half : Rat := 65536 / 12
  if x.edgeDir = 0 then
    match s.freeUpTo 10922 with
    | (s, n) => (s, modTurn (mid - half + n))
  else
    let adv : Rat := s.edgeSpeed a * s.poles a * (s.clk.ticks - x.edgeAt : Nat) * 65536 / 60000000
    let raw := mid - x.edgeDir * half + adv
    (s, modTurn (max (mid - half) (min (mid + half) raw)))

/-- The sector of an angle: sector k means 60°·k ± 30° (R251). -/
def sectorOf (ang : Rat) : Nat := (((ang + 65536 / 12) * 6 / 65536).floor % 6).toNat

/-- A new sector of a SIX_STEP_BEMF axis begins at tick `at'` (R253, R260). -/
def Axis.enterSector (x : Axis) (k at' : Nat) : Axis :=
  { x with
    sector := k, conf8 := (x.edgeIn :: x.conf8).take 8, edgeIn := false, secDur := at' - x.secAt, secAt := at', nextSec := none }

/-- Advance the angle source of an axis by a step `dt` PWM clocks after the previous one, and show it in AX_ANGLE. -/
def State.angleStep (s : State) (a : Fin 24) (dt : Nat) : State :=
  let x := s.ax[a]
  let m := s.axMode a
  let now := s.clk.ticks
  let s := match x.st with
    | .saliency => s
    | .align => s
    | .ramp =>
      let ang := modTurn (x.ang + s.turned a x.ifs dt)
      s.modAx a (fun x =>
        let x := { x with ang := ang }
        if m = AxMode.sixBemf ∧ x.sector ≠ sectorOf ang then x.enterSector (sectorOf ang) now else x)
    | _ =>
      match m with
      | .sixHall => s.modAx a (fun x => { x with ang := (65536 * x.sector : Rat) / 6 })
      | .sixBemf =>
        s.modAx a (fun x =>
          let x := match x.nextSec with
            | none => x
            | some n => if n ≤ now then x.enterSector (sectorStep x.sector x.dir) n else x
          { x with ang := (65536 * x.sector : Rat) / 6 })
      | .focHall =>
        match s.hallAngle a with
        | (s, g) => s.modAx a (fun x => { x with ang := g })
      | .focEnc => s.modAx a (fun x => { x with ang := modTurn (s.encAngle a + (s.axReg A.AX_ENC_OFS a).toNat) })
      | .focObs =>
        if x.st = AxSt.run ∧ x.ref ≠ 0 then s.took.modAx a (fun x => { x with ang := (Config.freeWord s.free).toNat }) else s
      | _ => s
  let shown : Rat := if m.six then (65536 * s.ax[a].sector : Rat) / 6 else s.ax[a].ang
  match s.round shown with
  | (s, n) => s.wr (axAddr A.AX_ANGLE a) (wInt n)

/-- AX_CONF (R260): the observer's is a free value. -/
def State.confStep (s : State) (a : Fin 24) : State :=
  let x := s.ax[a]
  if x.st ≠ .run ∧ x.st ≠ .ramp then s
  else
    match s.axMode a with
    | .focObs => s.took.wr (axAddr A.AX_CONF a) (Config.freeWord s.free &&& 0xFF)
    | .sixBemf => s.wrQuant (axAddr A.AX_CONF a) ((255 * x.conf8.count true : Rat) / 8)
    | _ => s

/-! ### Speed step (R242, R256, R257, R259, R263) -/

/-- The speed loop (R256): e in whole rpm from AX_REF and AX_SPD (DEDUCED, notes/assumptions/14.md). -/
def State.speedLoop (s : State) (a : Fin 24) : State :=
  let e := sInt (s.axReg A.AX_REF a) - sInt (s.axReg A.AX_SPD a)
  let kp : Int := (s.axReg A.AX_KP_S a).toNat
  let ki : Int := (s.axReg A.AX_KI_S a).toNat
  match s.quant ((kp * e + s.ax[a].iS : Rat) / 2) with
  | (s, u) =>
    let (i, lim) := s.limitCur a u
    s.modAx a (fun x => { x with iref := i, ilim := lim, iS := if lim then x.iS else sat32 (x.iS + ki * e) })

/-- AX_RAMP_END and AX_NHAND in `Axis.ref` units. -/
def State.rampEnd (s : State) (a : Fin 24) : Int := rpmRef (s.axReg A.AX_RAMP_END a).toNat
def State.nhand (s : State) (a : Fin 24) : Int := rpmRef (s.axReg A.AX_NHAND a).toNat

/-- The I/f speed rises at AX_RAMP_ACC in the direction of the reference, up to |ref| or AX_RAMP_END (R259); whether it
reached AX_RAMP_END while it rose (R262). -/
def State.rampStep (s : State) (a : Fin 24) (dt : Nat) : State × Bool :=
  let x := s.ax[a]
  let cur : Int := if x.ifs.sign = x.ref.sign then x.ifs.natAbs else 0
  let new := min (min (x.ref.natAbs : Int) (s.rampEnd a)) (cur + 16 * (s.axReg A.AX_RAMP_ACC a).toNat * dt)
  (s.modAx a (fun x => { x with ifs := withSign x.ref new }), cur < new && s.rampEnd a ≤ new)

/-- A sensorless axis that drops below ¾·AX_NHAND returns to RAMP, in I/f from the present angle and speed (R262). -/
def State.backToRamp (s : State) (a : Fin 24) : State :=
  let spd := rpmRef (sInt (s.axReg A.AX_SPD a))
  s.modAx a (fun x =>
    { x with st := .ramp, since := s.clk.ticks, ifs := spd, hand := false, handAcc := none, ilim := false })

/-- What follows from the reference after the limiter (Table AXIS-4); `parked` is whether the axis was parked before it. The
answer says whether the I/f speed has reached AX_RAMP_END. -/
def State.afterLimit (s : State) (a : Fin 24) (dt : Nat) (parked : Bool) : State × Bool :=
  let x := s.ax[a]
  let m := s.axMode a
  let now := s.clk.ticks
  if x.ref = 0 then
    if x.stopping then (s.toStopped a .host, false)
    else if x.st = .ramp then
      (s.modAx a (fun x => { x with st := .run, since := now, runAt := now, ifs := 0, holdAng := x.ang }), false)
    else (if parked then s else s.modAx a (fun x => { x with holdAng := x.ang, hand := false, ilim := false }), false)
  else if x.st = .ramp then s.rampStep a dt
  else if parked && (m.sensorless || m == .openLoop) then (s.startUp a, false)
  else if m.sensorless && 4 * (x.ref.natAbs : Int) < 3 * s.nhand a then (s.backToRamp a, false)
  else (s.speedLoop a, false)

/-- The target as AX_TARGET shows it (R263). -/
def State.showTarget (s : State) (a : Fin 24) : State :=
  match s.target a with
  | (s, tgt) =>
    match s.round ((tgt : Rat) / 16) with
    | (s, g) => (s.modAx a (fun x => { x with tgt := tgt })).wr (axAddr A.AX_TARGET a) (wInt g)

/-- The speed part of a step (R242): the encoder history, then in RAMP and RUN the limiter and what follows from it; in the start-up
states the target alone updates (Table AXIS-6). An axis
with a current set-point has no reference: a STOP ends it here (DEDUCED, notes/assumptions/14.md). -/
def State.speedStep (s : State) (t : Nat) (a : Fin 24) : State × Bool :=
  let x := s.ax[a]
  let dt := match x.lastSpd with
    | none => 0
    | some p => t - p
  let s := s.modAx a (fun x => { x with lastSpd := some t, encHist := ((x.encTot, t) :: x.encHist).take 9 })
  if s.following || x.st == .stopped || x.st == .ident then (s, false)
  else if x.st ≠ .ramp ∧ x.st ≠ .run then (if s.hasRef a then s.showTarget a else s, false)
  else if s.hasRef a then
    match (if x.stopping then (s, 0) else s.target a) with
    | (s, tgt) => (s.limiter a tgt dt).afterLimit a dt (x.st = .run && x.ref = 0)
  else if x.stopping then (s.toStopped a .host, false)
  else (s, false)

/-! ### Checks at each current step -/

/-- Stale results (R250, R277): a stale step counts in every state, and eight in a row stop an axis that is not STOPPED. -/
def State.staleStep (s : State) (a : Fin 24) : State :=
  let fresh := s.ax[a].gotShunt
  let s := s.modAx a (fun x => { x with gotShunt := false })
  if fresh then s.modAx a (fun x => { x with stale := 0 })
  else
    let s := (s.satInc (axAddr A.AX_STALECNT a)).modAx a (fun x => { x with stale := x.stale + 1 })
    if 8 ≤ s.ax[a].stale && !s.following then s.stopAxis a .adc else s

/-- The phase-current check (R452): since when the sum has exceeded SAFE_PLTHR. -/
def State.plausStep (s : State) (a : Fin 24) : State :=
  if s.axType a == .threePhase && (s.shuntRoles a).length == 3 && s.ax[a].st != .stopped then
    let sum := s.roleCurrent a 0 + s.roleCurrent a 1 + s.roleCurrent a 2
    s.modAx a (fun x => { x with plAt := since x.plAt s.clk.ticks ((s.rd A.SAFE_PLTHR).toNat < sum.natAbs) })
  else s.modAx a (fun x => { x with plAt := none })

/-- The estimated speed in rpm and angle of a sensorless axis (R254, R255, R260): in SIX_STEP_BEMF from the commutation edges, the rotor
at 60°·k as the floating phase of sector k crosses (DEDUCED, notes/assumptions/14.md); the observer's are free values. -/
def State.estimated (s : State) (a : Fin 24) : State × Rat × Rat :=
  if s.axMode a = .sixBemf then
    let v := s.edgeSpeed a
    let x := s.ax[a]
    (s, v, modTurn ((65536 * x.edgeSec : Rat) / 6 + v * s.poles a * (s.clk.ticks - x.edgeAt : Nat) * 65536 / 60000000))
  else
    let spd := sInt (Config.freeWord s.free)
    let s := s.took
    (s.took, (spd : Rat), ((Config.freeWord s.free).toNat : Rat))

/-- The handover condition (R260) at a step `dt` PWM clocks after the previous one. While |target| < AX_NHAND no handover is
attempted (R259). -/
def State.handoverStep (s : State) (a : Fin 24) (dt : Nat) : State :=
  let x := s.ax[a]
  if x.st = .ramp ∧ (s.axMode a).sensorless = true ∧ x.stopping = false ∧ s.nhand a ≤ x.tgt.natAbs * refUnit then
    match s.estimated a with
    | (s, spd, est) =>
    let d := modTurn (est - x.ang)
    let near : Bool := d ≤ 65536 / 12 || 65536 - 65536 / 12 ≤ d
    let good := refRpm (s.nhand a) ≤ spd * x.ifs.sign && near &&
      field (s.axReg A.AX_CONF_THR a) 7 0 ≤ field (s.axReg A.AX_CONF a) 7 0
    let acc := if good then some ((x.handAcc.getD 0) + s.turned a x.ifs.natAbs dt) else none
    let s := s.modAx a (fun x => { x with handAcc := acc })
    match acc with
    | none => s
    | some g =>
      if 8 * 65536 ≤ g then
        let now := s.clk.ticks
        let iramp : Int := (s.axReg A.AX_IRAMP a).toNat
        s.modAx a (fun x =>
          { x with
            st := .run, since := now, runAt := now, hand := true, handAcc := none, ref := x.ifs
            iS := sat32 (withSign x.ifs (2 * iramp)), iref := withSign x.ifs iramp, ang := est })
      else s
  else s

/-- One second of continuous RUN returns the retry count to 0 (R257). -/
def State.retryStep (s : State) (a : Fin 24) : State :=
  if s.ax[a].st = .run ∧ msTicks 1000 ≤ s.clk.ticks - s.ax[a].runAt then s.modAx a (fun x => { x with retries := 0 }) else s

/-! ### The output of a step -/

/-- The hold state of an axis (R264; AXIS_CFG.hold: 0 phase Hi-Z, 1 ASC, 2 current hold). -/
def State.holdOut (s : State) (a : Fin 24) : State × List Rat × Nat :=
  let h := (s.axCfg a).hold
  if h = 1 then (s, [0, 0, 0], s.chenAll a)
  else if h = 2 then
    match s.foc a s.ax[a].holdAng (s.axReg A.AX_IHOLD a).toNat 0 with
    | (s, d) => (s, d, s.chenAll a)
  else (s, [0, 0, 0], 0)

/-- The largest of an axis's phase currents. -/
def State.topCurrent (s : State) (a : Fin 24) : Nat :=
  ((List.finRange 3).map (fun r => (s.roleCurrent a r).natAbs)).foldl max 0

/-- The saliency step at PWM clock `t`, with the largest phase current `i` and tSAL of `w` PWM clocks (R259): a pulse lasts tSAL; the decay
after it lasts until the current is below 1/64 of the first peak, or for 2·tSAL. A step finds what has ended since the step
before (DEDUCED, notes/assumptions/14.md). -/
def Sal.next (x : Sal) (t i w : Nat) : Sal :=
  match x.since with
  | none => { x with since := some t }
  | some f =>
    if 6 ≤ x.idx then x
    else if x.low then
      if 64 * i < x.peak ∨ f + 2 * w ≤ t then { x with idx := x.idx + 1, low := false, since := some t } else x
    else if f + w ≤ t then { x with low := true, since := some (f + w), peak := if x.idx = 0 then i else x.peak }
    else x

/-- A step in SALIENCY (R259): a pulse of AX_SALCFG.volt/256 × VM_b at the angle of the present one, or every phase LOW. -/
def State.salOut (s : State) (t : Nat) (a : Fin 24) : State × List Rat × Nat :=
  let i := s.topCurrent a
  let w := 200 * field (s.axReg A.AX_SALCFG a) 7 0
  let s := s.modAx a (fun x => { x with sal := x.sal.next t i w })
  let y := s.ax[a].sal
  match (if y.low then none else salAngles[y.idx]?) with
  | none => (s, [0, 0, 0], s.chenAll a)
  | some deg =>
    let v : Rat := (field (s.axReg A.AX_SALCFG a) 15 8 : Rat) * s.vm a / 256
    (s, (vectorDuties ((65536 * deg : Rat) / 360) v 0 (s.vm a)).map (clampDuty (s.dmax a)), s.chenAll a)

/-! ### MOTOR_ID (R271) -/

/-- The step of MOTOR_ID at PWM clock `t`. Each step publishes its own entry; when one that has published goes over to the next is
open (notes/assumptions/9.md). -/
def State.identStage (s : State) (t : Nat) (a : Fin 24) (i : Fin 8) : State :=
  let y := s.ax[a].ident
  let seen (k : Nat) : Bool := ((s.ops.slots[i]).res[(⟨k % 8, Nat.mod_lt _ (by decide)⟩ : Fin 8)]).tag != 0
  let known := if seen 3 then 3 else if seen 2 then 2 else if seen 1 then 1 else 0
  let go (s : State) (k : Nat) : State :=
    s.modAx a (fun x => { x with ident := { x.ident with stage := k, half := false, since := some t, on := none } })
  match y.since with
  | none => go s 0
  | some _ =>
    if y.stage < known then go s known
    else if y.stage < 3 ∧ seen y.stage = true ∧ Config.freeBool s.free = true then go s.took (y.stage + 1)
    else s.took

/-- The test current I_T in Q15 of AX_ISCALE (R271): P1 in mA, AX_ISCALE in 10 mA. -/
def State.testCurrent (s : State) (a : Fin 24) (i : Fin 8) : State × Int :=
  let full : Nat := 10 * (s.axReg A.AX_ISCALE a).toNat
  s.round (if full = 0 then 0 else (32768 * ((s.ops.slots[i]).param 1).toNat : Rat) / full)

/-- Step 1 (R271): I_T/2 and then I_T at 0°, each for 100 ms after settling, whose time is open. -/
def State.identHold (s : State) (t : Nat) (a : Fin 24) (it : Int) : State × List Rat × Nat :=
  let y := s.ax[a].ident
  let half := y.half || ((y.since.getD t) + 20000000 ≤ t && Config.freeBool s.free)
  match s.took.quant (if half then it else (it : Rat) / 2) with
  | (s, ref) =>
    match s.foc a 0 ref 0 with
    | (s, d) =>
      let v := sInt (s.axReg A.AX_VD a)
      (s.modAx a (fun x => { x with ident := { x.ident with half := half, vd := if half then v else x.ident.vd } }), d, s.chenAll a)

/-- Steps 2 and 3 (R271): voltage steps at 0° and 90° of half the voltage that held I_T, those at 90° cut at 1 ms; when a step begins,
when one at 0° ends, and whether the phases are LOW or in phase Hi-Z between two of them is open. -/
def State.identPulse (s : State) (t : Nat) (a : Fin 24) (deg : Nat) : State × List Rat × Nat :=
  let y := s.ax[a].ident
  let cut : Bool := match y.on with
    | none => false
    | some f => deg == 90 && f + 200000 ≤ t
  let on := !cut && Config.freeBool s.free
  let rest := if Config.freeBool (s.free + 1) then s.chenAll a else 0
  let s := s.took.took.modAx a (fun x =>
    { x with ident := { x.ident with on := if on then some (x.ident.on.getD t) else none } })
  if on then
    (s, (vectorDuties ((65536 * deg : Rat) / 360) ((y.vd : Rat) / 2) 0 (s.vm a)).map (clampDuty (s.dmax a)), s.chenAll a)
  else (s, [0, 0, 0], rest)

/-- Step 4 (R271): the rotor is spun in I/f at I_T, up to 50 Hz electrical, then the phases take phase Hi-Z; how fast the angle advances
and when it ends is open. -/
def State.identSpin (s : State) (a : Fin 24) (dt : Nat) (it : Int) : State × List Rat × Nat :=
  let half := s.ax[a].ident.half || Config.freeBool s.free
  let adv : Rat := (50 * dt * (Config.freeWord (s.free + 1)).toNat : Rat) / 200000000
  let s := s.took.took.modAx a (fun x => { x with ident := { x.ident with half := half }, ang := modTurn (x.ang + adv) })
  if half then (s, [0, 0, 0], 0)
  else
    match s.foc a s.ax[a].ang it 0 with
    | (s, d) => (s, d, s.chenAll a)

/-- A step in IDENT (R271): the four steps of MOTOR_ID, or the hold state once it has ended (Table AXIS-4). -/
def State.identOut (s : State) (t : Nat) (a : Fin 24) (dt : Nat) : State × List Rat × Nat :=
  match s.identSlot a with
  | none => s.holdOut a
  | some i =>
    match (s.identStage t a i).testCurrent a i with
    | (s, it) =>
      match s.ax[a].ident.stage with
      | 0 => s.identHold t a it
      | 1 => s.identPulse t a 0
      | 2 => s.identPulse t a 90
      | _ => s.identSpin a dt it

/-- After the step that gave the hold state, an axis whose MOTOR_ID has ended is STOPPED (Table AXIS-4). -/
def State.identLeave (s : State) (a : Fin 24) : State :=
  match s.ax[a].st, s.ax[a].parked with
  | .ident, some c => s.toStopped a c
  | _, _ => s

/-- The current reference of a FOC or six-step axis: the speed loop's, or the set-point of source CURRENT (R254, R256). -/
def State.currentRef (s : State) (a : Fin 24) : State × Int :=
  if s.axSrc a = 2 then
    let (i, lim) := s.limitCur a (s.curSet a 0)
    (s.modAx a (fun x => { x with ilim := lim }), i)
  else (s, s.ax[a].iref)

/-- A step in RUN that is not parked. -/
def State.runOut (s : State) (a : Fin 24) : State × List Rat × Nat :=
  let m := s.axMode a
  if m = .coil then
    match s.coilStep a with
    | (s, d) => (s, d, s.chenAll a)
  else
    match s.currentRef a with
    | (s, i) =>
      if m.six then
        let dir := if s.axSrc a = 2 then (if i < 0 then -1 else 1) else s.ax[a].dir
        s.sixStep a (i * dir) dir
      else
        match s.foc a s.ax[a].ang 0 i with
        | (s, d) => (s, d, s.chenAll a)

/-- A step in RAMP (R253, R259): the current AX_IRAMP at the I/f angle; in SIX_STEP_BEMF the sector of that angle selects the phases, so
that the floating one shows its crossings. -/
def State.rampOut (s : State) (a : Fin 24) : State × List Rat × Nat :=
  let i : Int := (s.axReg A.AX_IRAMP a).toNat
  if s.axMode a = .sixBemf then s.sixStep a i s.ax[a].dir
  else
    match s.foc a s.ax[a].ang i 0 with
    | (s, d) => (s, d, s.chenAll a)

/-- The duties and CHEN of a step at PWM clock `t`, `dt` after the previous one, by the state of the axis (R253, R254, R257, R259,
R264, R270, R271). -/
def State.output (s : State) (t : Nat) (a : Fin 24) (dt : Nat) : State × List Rat × Nat :=
  let x := s.ax[a]
  match x.st with
  | .stopped => (s, [0, 0, 0], 0)
  | .retryWait => (s, [0, 0, 0], 0)
  | .saliency => s.salOut t a
  | .align =>
    match s.foc a x.ang (s.axReg A.AX_IALIGN a).toNat 0 with
    | (s, d) => (s, d, s.chenAll a)
  | .ramp => s.rampOut a
  | .run => if s.hasRef a && x.ref == 0 then s.holdOut a else s.runOut a
  | .ident => s.identOut t a dt

/-! ### The step (R242 to R244) -/

/-- A current step at PWM clock `t`, with a speed step first when `spd` (R242). -/
def State.engineRun (s : State) (t : Nat) (a : Fin 24) (spd : Bool) : State :=
  let dt := match s.ax[a].lastCur with
    | none => 0
    | some p => t - p
  let s := s.modAx a (fun x => { x with lastCur := some t })
  let s := (s.staleStep a).plausStep a
  let s := if (s.axMode a).hall then s.hallRead a (field (s.axReg A.AX_HALL a) 2 0) else s
  let s := s.measure a
  match (if spd then s.speedStep t a else (s, false)) with
  | (s, ended) =>
    let s := (s.angleStep a dt).confStep a
    let s :=
      if s.following then s
      else
        let s := s.handoverStep a dt
        let s := if ended && (s.axMode a).sensorless && s.ax[a].st == .ramp then s.startFail a else s
        let s := (s.watchStall a).retryStep a
        match s.output t a dt with
        | (s, d, chen) => (s.writeCompare t a spd d chen).identLeave a
    s.meterStep a

/-- An engine loop tick at PWM clock `t` (R242, R243). -/
def engineTick (t : Nat) (a : Fin 24) (s : State) : State :=
  let x := s.ax[a]
  let loop := s.axReg A.AX_LOOP a
  let takes := x.loopCnt = 0 ∨ field loop 7 4 < x.loopCnt
  let s := s.modAx a (fun x =>
    { x with loopCnt := if takes then (if field loop 7 4 = 0 then 0 else 1) else (x.loopCnt + 1) % (field loop 7 4 + 1) })
  let soon : Bool := match x.lastCur with
    | none => false
    | some p => decide (t < p + 4960)
  if takes then
    if soon then s.satInc (axAddr A.AX_SKIPCNT a)
    else
      let spd := x.spdCnt = 0 ∨ field loop 3 0 < x.spdCnt
      let s := s.modAx a (fun x =>
        { x with spdCnt := if spd then (if field loop 3 0 = 0 then 0 else 1) else (x.spdCnt + 1) % (field loop 3 0 + 1) })
      s.engineRun t a spd
  else s

/-- ENGINE_STEP (R242): the engine takes a loop tick that the axis's routed source has fired (R57, R173). -/
def execEngineStep (at' : Fin 200) (a : Fin 24) (s : State) : Host.Outcome State Fault Refusal :=
  .next (if s.axOn a && s.isAxis a && (s.routeTo 2 a.val).isSome && s.ax[a].tickDue != 0 then
      engineTick (s.clkAt at') a (s.modAx a (fun x => { x with tickDue := x.tickDue - 1 }))
    else s)

end Sys2Proof.Machine
end

