-- ==== Sys2Proof/Machine/Regs.lean ====
section
/-! DEFINITION. Sys2Proof/Machine/Regs.lean: what a legal host write stores: writable fields (R14, R515), LIMITS saturation
(R78), drive ranges (R186), registers of a domain that is off (Table MAP-10), and the timer and gate registers that act after
their write (R156, R187). What a write starts beside storing is in Write.lean. -/
namespace Sys2Proof.Machine

/-- The bits of a field. -/
def Fld.mask (f : Fld) : Word := maskW f.hi f.lo

/-- The image opens an IL field (R62, R77). -/
def State.opened (s : State) (a : Nat) (f : Fld) : Bool := f.acc == .IL && s.openMask a &&& f.mask == f.mask

/-- A writable field of a word (R515). -/
def State.writable (s : State) (a : Nat) (f : Fld) : Bool :=
  match f.acc with
  | .RO => false
  | .IL => s.opened a f
  | _ => true

/-- A field whose written value is stored: RW, or an opened IL field. -/
def State.stores (s : State) (a : Nat) (f : Fld) : Bool := f.acc == .RW || s.opened a f

/-- The value of a field lies in its stated range. -/
def Fld.inRange (f : Fld) (d : Word) : Bool :=
  let v := field d f.hi f.lo
  f.acc == .W1C || f.acc == .W1S || (f.min ≤ v && v ≤ f.max)

/-- The bits that no field of a word claims (R16). -/
def reservedBits (fs : List Fld) : Word := ~~~ fs.foldl (fun m f => m ||| f.mask) 0

/-- A write to a word of these fields is no host error by the value alone: no reserved bit, a writable field, every
writable field in its range (R21, R515). -/
def State.legalBits (s : State) (a : Nat) (fs : List Fld) (d : Word) : Bool :=
  d &&& reservedBits fs == 0 && fs.any (s.writable a) && (fs.filter (s.writable a)).all (fun f => f.inRange d)

/-! ### Saturation (R78, R186) -/

/-- A field value read in the signedness of a LIMITS entry. -/
def Limit.read (l : Limit) (v : Nat) : Int := if l.signed then (BitVec.ofNat l.width v).toInt else v

/-- The bounds of a LIMITS entry as numbers (R61). -/
def Limit.lo (l : Limit) : Int := if l.signed then l.min.toInt else l.min.toNat
def Limit.hi (l : Limit) : Int := if l.signed then l.max.toInt else l.max.toNat

/-- A word held within one LIMITS entry, and whether that changed it. -/
def Limit.apply (l : Limit) (w : Word) : Word × Bool :=
  let top := l.lsb + l.width - 1
  let v := l.read (field w top l.lsb)
  if l.lo ≤ v ∧ v ≤ l.hi then (w, false)
  else
    let n := if v < l.lo then l.lo else l.hi
    (setField w top l.lsb (BitVec.ofInt 16 n).toNat, true)

/-- The LIMITS entries that bound stored fields of a word. -/
def State.limitsAt (s : State) (a : Nat) (fs : List Fld) : List Limit :=
  s.limits.filter (fun l => l.addr == a && fs.any (fun f => s.stores a f && f.lo ≤ l.lsb && l.lsb + l.width ≤ f.hi + 1))

/-- A word held within a list of LIMITS entries, and how many fields that changed. -/
def applyLimits (w : Word) : List Limit → Word × Nat
  | [] => (w, 0)
  | l :: ls =>
    let (w, n) := applyLimits w ls
    match l.apply w with
    | (w, true) => (w, n + 1)
    | (w, false) => (w, n)

/-- A step field held within its drive range (R186). -/
def holdStep (w : Word) (hi lo mn mx : Nat) : Word × Nat :=
  let v := field w hi lo
  if v < mn then (setField w hi lo mn, 1) else if mx < v then (setField w hi lo mx, 1) else (w, 0)

/-- A GATE_IDRV word of a half-bridge held within its DRIVE_RANGE (R55, R186). -/
def State.holdDrive (s : State) (h : Fin 72) (w : Word) : Word × Nat :=
  let d := s.drive h
  let (w, n) := holdStep w 7 4 d.srcMin d.srcMax
  let (w, m) := holdStep w 3 0 d.snkMin d.snkMax
  (w, n + m)

/-- The half-bridge of bank `b`, index `i`, read from a register's indices. -/
def hbIx (ix : List Nat) : Fin 72 := ⟨(9 * (ix[0]?.getD 0) + ix[1]?.getD 0) % 72, Nat.mod_lt _ (by decide)⟩

/-- The axis, timer or converter of bank `b`, place `j`, read from a register's indices. -/
def axIx (ix : List Nat) : Fin 24 := ⟨(3 * (ix[0]?.getD 0) + ix[1]?.getD 0) % 24, Nat.mod_lt _ (by decide)⟩

/-- The bank read from a register's indices. -/
def bankIx (ix : List Nat) : Fin 8 := ⟨(ix[0]?.getD 0) % 8, Nat.mod_lt _ (by decide)⟩

/-- Report `n` saturations of the word at `a` with the value stored (R78). -/
def State.reportSat (s : State) (a : Nat) (v : Word) : Nat → State
  | 0 => s
  | n + 1 => (((s.satInc A.IMG_LIMSAT).wr A.IMG_LIMLAST (w16 a)).raise evLIMIT_SAT (w16 a) v).reportSat a v n

/-! ### Storing a word -/

/-- The word at `a` after its fields take a written value: RW and opened IL fields store it, W1C bits clear and W1S bits set
while the domain is on (R14, Table MAP-10). The flags that a clear in the tick of their setting leaves (R224, R342, R452)
have operations of their own. -/
def State.newWord (s : State) (a : Nat) (on : Bool) (d : Word) : List Fld → Word
  | [] => s.rd a
  | f :: fs =>
    let w := s.newWord a on d fs
    if s.stores a f then (w &&& ~~~ f.mask) ||| (d &&& f.mask)
    else if !on then w
    else if f.acc = .W1C then w &&& ~~~ (d &&& f.mask)
    else if f.acc = .W1S then w ||| (d &&& f.mask)
    else w

/-- The domain of an address is on; CORE and AON always are. BANK_ARM is judged in CORE, where a domain that is off makes a
refusal (Table SAFE-3). -/
def State.addrOn (s : State) (a : Nat) : Bool :=
  match domOfAddr a with
  | none => true
  | some d => s.dom d || (blkOf a == .bank && a % 0x400 == 0)

/-- The registers that act some clocks after their write take it up (R156, R187). -/
def State.delayedWrite (s : State) (t : Nat) (r : Reg) (ix : List Nat) (v : Word) : State :=
  match r with
  | .PWM_CTL => s.modTim (axIx ix) (fun x => { x with ctl := x.ctl.write t v })
  | .PWM_FORCE => s.modTim (axIx ix) (fun x => { x with force := x.force.write t v })
  | .PWM_REF => s.modTim (axIx ix) (fun x => { x with ref := x.ref.write t v })
  | .GATE_IDRV_HS => s.modGate (hbIx ix) .high (fun g => { g with idrv := g.idrv.write t v })
  | .GATE_IDRV_LS => s.modGate (hbIx ix) .low (fun g => { g with idrv := g.idrv.write t v })
  | _ => s

/-- A legal write of a word at PWM clock `t` as far as it stores (R14, R78, R186, R515, Table MAP-10); an address no chapter
assigns has no effect (R38). -/
def State.storeWord (s : State) (t a : Nat) (d : Word) : State :=
  match lookup a with
  | none => s
  | some (row, ix) =>
    let (d, n) := applyLimits d (s.limitsAt a row.fields)
    let (d, m) := match row.reg with
      | .GATE_IDRV_HS => s.holdDrive (hbIx ix) d
      | .GATE_IDRV_LS => s.holdDrive (hbIx ix) d
      | _ => (d, 0)
    let v := s.newWord a (s.addrOn a) d row.fields
    let s := (s.wr a v).delayedWrite t row.reg ix v
    s.reportSat a v (n + m)

end Sys2Proof.Machine
end

