-- ==== Sys2Proof/Machine/Fusion.lean ====
section
/-! DEFINITION. Sys2Proof/Machine/Fusion.lean: the ground-motion inputs and their fusion (R282 to R299, R313 to R316). -/
namespace Sys2Proof.Machine

/-- D_FUS is on. -/
def State.fusOn (s : State) : Bool := s.dom 8

/-- H in µs (R294). -/
def State.horizon (s : State) : Nat := 1000 * (s.rd A.FUS_HORIZON).toNat

/-- A number held within two bounds. -/
def clampQ (lo hi x : Rat) : Rat := if x < lo then lo else if hi < x then hi else x

/-- The smaller of two numbers. -/
def minQ (x y : Rat) : Rat := if x ≤ y then x else y

/-! ### Fused direction (R296) -/

/-- FUS_WHL_CFG of a wheel channel. -/
def State.whlCfg (s : State) (n : Fin 4) : Word := s.rd (A.FUS_WHL_CFG n.val)

/-- The weight of a speed source: 0 to 3 the wheels, 4 the GNSS, 5 the host speed. -/
def State.weight (s : State) (x : Nat) : Nat := field (s.rd (A.FUS_W x)) 7 0

/-- Sum of the signs of the last accepted counts of the quadrature wheels with weight. -/
def State.wheelSigns (s : State) : Int :=
  ((List.finRange 4).map (fun n => if s.fusCfg n.val = 1 ∧ 0 < s.weight n.val then s.fus.wheels[n].sgn else 0)).sum

/-- The sign of the newest host speed sample that is fresh at tick `t`; 0 where there is none (R296). -/
def State.hostSign (s : State) (t : Nat) : Int :=
  match s.fus.hostV with
  | [] => 0
  | x :: _ => if t ≤ x.t + s.horizon then (if x.v < 0 then -1 else if 0 < x.v then 1 else 0) else 0

/-- The fused direction at tick `t` is reverse (R296). -/
def State.reverseAt (s : State) (t : Nat) : Bool :=
  match field (s.rd A.FUS_CTL) 1 0 with
  | 1 => false
  | 2 => true
  | _ =>
    if s.wheelSigns ≠ 0 then s.wheelSigns < 0
    else if s.hostSign t ≠ 0 then s.hostSign t < 0
    else s.fus.rev

/-- The fused direction follows its inputs (R296). -/
def State.redirect (s : State) (t : Nat) : State := s.modFus (fun f => { f with rev := s.reverseAt t })

/-! ### Wheel channels (R284 to R286) -/

/-- The history of accepted intervals with one more, at most 4 (R286). -/
def pushI (i : Rat) (h : List Rat) : List Rat := (i :: h).take 4

/-- The mean of the accepted intervals (R286). -/
def meanI (h : List Rat) : Rat := h.sum / h.length

/-- Accept one count of sign `d` at tick `t`, `i` after the previous one (R284, R286). -/
def State.acceptCount (s : State) (n : Fin 4) (d : Int) (t : Nat) (i : Rat) : State :=
  let s := s.modFus (fun f =>
    let w := f.wheels[n]
    let w' : Wheel :=
      { w with
        cnt := w.cnt + d, log := (t, w.cnt + d) :: w.log, last := some t, iLast := i, sgn := d
        hist := if w.last.isNone then w.hist else if w.sgn = d then pushI i w.hist else [] }
    { f with wheels := f.wheels.set n w' })
  s.wrQ (A.FUS_WHL_CNT n.val 0) 2 (u32 (s.fus.wheels[n].cnt))

/-- One new count of sign `d` passes the procedure of R286. -/
def State.newCount (s : State) (n : Fin 4) (d : Int) : State :=
  let w := s.fus.wheels[n]
  let now := s.clk.ticks
  match w.last with
  | none => s.acceptCount n d now 0
  | some t0 =>
    let i : Rat := (now - t0 : Nat)
    let ie := meanI w.hist
    let dpc : Rat := (s.rd (A.FUS_WHL_DPC n.val)).toNat
    let data := w16 (satU (now - t0))
    if bit (s.whlCfg n) 8 && w.hist.length == 4 && w.sgn == d && decide (300 * ie ≤ 1000 * dpc) then
      if 10 * i < 4 * ie then (s.satInc (A.FUS_WHL_NOISE n.val)).raise evWHL_NOISE (w16 n.val) data
      else if 16 * ie ≤ 10 * i ∧ 10 * i ≤ 24 * ie then
        match s.quant (t0 + i / 2) with
        | (s, tm) =>
          let s := (s.acceptCount n d tm.toNat (i / 2)).acceptCount n d now (i / 2)
          (s.satInc (A.FUS_WHL_INS n.val)).raise evWHL_INSERT (w16 n.val) data
      else s.acceptCount n d now i
    else s.acceptCount n d now i

/-- The sign of the count that an edge gives, 0 for none (R284): quadrature counts every edge, A leading B positive; a single
track counts rising edges of A with the sign of the fused direction. -/
def State.edgeCount (s : State) (n : Fin 4) (trackB level : Bool) : Int :=
  let oa := s.lands.whl.getLsbD (2 * n.val)
  let ob := s.lands.whl.getLsbD (2 * n.val + 1)
  let na := if trackB then oa else level
  let nb := if trackB then level else ob
  let d : Int :=
    if s.fusCfg n.val = 1 then
      match (quadPos na nb + 4 - quadPos oa ob) % 4 with
      | 1 => 1
      | 3 => -1
      | _ => 0
    else if s.fusCfg n.val = 2 && !trackB && level && !oa then (if s.reverseAt s.clk.ticks then -1 else 1)
    else 0
  if bit (s.whlCfg n) 4 then -d else d

/-- A wheel land takes a level. -/
def State.setWhl (s : State) (n : Fin 4) (trackB level : Bool) : State :=
  let m := BitVec.twoPow 8 (2 * n.val + b2n trackB)
  s.modLands (fun l => { l with whl := if level then l.whl ||| m else l.whl &&& ~~~ m })

/-- A filtered edge of a wheel track. -/
def wheelEdge (n : Fin 4) (trackB level : Bool) (s : State) : State :=
  let d := s.edgeCount n trackB level
  let s := s.setWhl n trackB level
  if d = 0 then s else (s.newCount n d).redirect s.clk.ticks

/-- An edge whose level lasts `held` ns passes the glitch filter of filt µs; 0 turns it off (R284). -/
def State.whlPass (s : State) (n : Fin 4) (held : Nat) : Bool := 1000 * field (s.whlCfg n) 3 0 ≤ held

/-- WHEEL_COUNT (R284, R286): an edge that the filter passes counts where the image enables the channel and D_FUS is on
(R282). -/
def execWheelCount (n : Fin 4) (trackB : Bool) (level : Held Bool) (s : State) : Host.Outcome State Fault Refusal :=
  .next (if !s.hears then s
    else if s.fusOn && s.fusCfg n.val != 0 then (if s.whlPass n level.ns then wheelEdge n trackB level.val s else s)
    else s.setWhl n trackB level.val)

/-! ### Samples (R283, R288) -/

/-- A sample among its kind, newest first; an equal stamp replaces (R288). -/
def putSample (x : Sample) : List Sample → List Sample
  | [] => [x]
  | y :: r => if y.t < x.t then x :: y :: r else if y.t = x.t then x :: r else y :: putSample x r

/-! ### GNSS sentences (R287 to R289) -/

/-- Values of a NMEA sentence's characters. -/
def chDollar : Nat := 0x24
def chStar : Nat := 0x2A
def chComma : Nat := 0x2C
def chDot : Nat := 0x2E

/-- The value of a hexadecimal digit. -/
def hexVal (c : Nat) : Option Nat :=
  if 48 ≤ c ∧ c ≤ 57 then some (c - 48)
  else if 65 ≤ c ∧ c ≤ 70 then some (c - 55)
  else if 97 ≤ c ∧ c ≤ 102 then some (c - 87)
  else none

/-- The body between "$" and "*hh" CR LF, where the frame of the sentence is whole and its checksum matches (R287). -/
def nmeaBody (l : List Nat) : Option (List Nat) :=
  if 82 < l.length then none
  else
    match l, l.reverse with
    | d :: _, 10 :: 13 :: h0 :: h1 :: st :: r =>
      if d = chDollar ∧ st = chStar ∧ 6 ≤ l.length then
        let body := r.reverse.drop 1
        match hexVal h1, hexVal h0 with
        | some a, some b => if body.foldl (fun x y => x ^^^ y) 0 = 16 * a + b then some body else none
        | _, _ => none
      else none
    | _, _ => none

/-- The comma-separated fields of a body. -/
def nmeaFields : List Nat → List (List Nat)
  | [] => [[]]
  | c :: r =>
    match nmeaFields r with
    | [] => [[c]]
    | f :: fs => if c = chComma then [] :: f :: fs else (c :: f) :: fs

/-- The number of the decimal digits of a list, the most significant first; none where a character is no digit. -/
def decNat : List Nat → Nat → Option Nat
  | [], n => some n
  | c :: r, n => if 48 ≤ c ∧ c ≤ 57 then decNat r (10 * n + (c - 48)) else none

/-- The digits after the decimal point. -/
def afterDot (l : List Nat) : List Nat := (l.dropWhile (fun c => c != chDot)).drop 1

/-- A decimal field; none for an empty or malformed one (R287). -/
def decQ (l : List Nat) : Option Rat :=
  if l.isEmpty then none
  else
    match decNat (l.takeWhile (fun c => c != chDot)) 0, decNat (afterDot l) 0 with
    | some i, some f => some (i + (f : Rat) / (10 ^ (afterDot l).length : Nat))
    | _, _ => none

/-- The field `i` of a sentence; empty where it is absent. -/
def nmeaField (fs : List (List Nat)) (i : Nat) : List Nat := (fs[i]?).getD []

/-- The fractional part of a time field in µs; none for an absent time (R289). -/
def fracUs (l : List Nat) : Option Rat :=
  if l.isEmpty then none
  else (decNat (afterDot l) 0).map (fun f => (f : Rat) * 1000000 / (10 ^ (afterDot l).length : Nat))

/-- The tick of the last second boundary at or before a tick near the present one (R289). -/
def State.boundaryBefore (s : State) (t : Nat) : Nat :=
  let b := s.clk.ticks - s.clk.k
  if b ≤ t then b else s.clk.bndPrev

/-- The stamp that the tick of "$" less the latency gives (R289). -/
def State.latStamp (s : State) (dollar : Nat) : Nat := dollar - 1000 * field (s.rd A.FUS_GNSS_CFG) 15 8

/-- The stamp of an RMC or GGA sentence (R289). -/
def State.fixStamp (s : State) (dollar : Nat) (time : List Nat) : State × Nat :=
  if bit (s.rd A.FUS_GNSS_CFG) 4 && (s.clk.pps == .locked || s.clk.pps == .holdover) then
    match fracUs time with
    | none => (s, s.latStamp dollar)
    | some q =>
      match s.quant q with
      | (s, f) =>
        let st := s.boundaryBefore dollar + f.toNat
        (s, if dollar < st then st - 1000000 else st)
  else (s, s.latStamp dollar)

/-- The stamp of a VTG sentence (R289). -/
def State.vtgStamp (s : State) (dollar : Nat) : Nat :=
  match s.fus.lastFix with
  | none => s.latStamp dollar
  | some (d, st) => if dollar - d ≤ 50000 then st else s.latStamp dollar

/-- A speed in mm/s before rounding, and a course in degrees, become samples (R288). -/
def State.gnssSample (s : State) (st : Nat) (v course : Option Rat) : State :=
  let s := match v with
    | none => s
    | some q =>
      match s.round q with
      | (s, n) =>
        let n : Int := if s.reverseAt s.clk.ticks then -n else n
        s.modFus (fun f => { f with gnss := putSample ⟨st, n⟩ f.gnss })
  match course with
  | none => s
  | some c => s.modFus (fun f => { f with course := putSample ⟨st, c * 65536 / 360⟩ f.course })

/-- The accepted sentence, by its formatter (Table MOTION-2). -/
def State.gnssFields (s : State) (fs : List (List Nat)) (dollar : Nat) : State :=
  let fld := nmeaField fs
  let name := (fld 0).drop 2
  if (fld 0).length ≠ 5 then s
  else if name = [0x52, 0x4D, 0x43] then
    match s.fixStamp dollar (fld 1) with
    | (s, st) =>
      let s := s.modFus (fun f => { f with lastFix := some (dollar, st) })
      if fld 2 ≠ [0x41] ∨ fld 12 = [0x4E] then s
      else s.gnssSample st ((decQ (fld 7)).map (· * (514444 / 1000))) (decQ (fld 8))
  else if name = [0x47, 0x47, 0x41] then
    match s.fixStamp dollar (fld 1) with
    | (s, st) =>
      let s := s.modFus (fun f => { f with lastFix := some (dollar, st) })
      let w := s.rd A.FUS_GNSS_FIX
      let w := match decNat (fld 7) 0 with
        | some n => if fld 7 = [] then w else setField w 11 4 (sat8 n)
        | none => w
      let w := match decNat (fld 6) 0 with
        | some n => if fld 6 = [] then w else setField w 3 0 (min n 15)
        | none => w
      s.wr A.FUS_GNSS_FIX w
  else if name = [0x56, 0x54, 0x47] then
    match decQ (fld 7) with
    | none => s
    | some v =>
      if fld 9 = [0x4E] then s
      else s.gnssSample (s.vtgStamp dollar) (some (v * (277778 / 1000))) (decQ (fld 1))
  else s

/-- A received sentence (R287). -/
def gnssSentence (bytes : List Byte) (framing : Bool) (dollar : Nat) (s : State) : State :=
  match (if framing then none else nmeaBody (bytes.map (·.toNat))) with
  | some body => s.gnssFields (nmeaFields body) dollar
  | none =>
    let s := s.satInc A.FUS_GNSS_ERR
    s.raise evGNSS_ERR 0 (s.rd A.FUS_GNSS_ERR)

/-- GNSS_SENTENCE (R282, R287): the image enables the UART. -/
def execGnssSentence (bytes : List Byte) (framing : Bool) (dollar : Nat) (s : State) : Host.Outcome State Fault Refusal :=
  .next (if s.fusOn && s.hears && natBit (s.fusCfg 4) 0 && dollar ≤ s.clk.ticks then gnssSentence bytes framing dollar s else s)

/-! ### Inertial unit (R290) -/

/-- IMU_SEQ of the image. -/
def State.imuCfg (s : State) : Option ImuCfg := s.img.active.bind (·.imu)

/-- A trigger: a sequence starts, or the trigger is lost while one runs (R290). -/
def imuTrigger (s : State) : State :=
  if s.fus.imu.isSome then
    let s := s.satInc A.FUS_IMU_LOST
    s.raise evIMU_ERR 0 (s.rd A.FUS_IMU_LOST)
  else s.modFus (fun f => { f with imu := some s.clk.ticks })

/-- A fusion instant, where the sequence is bound to it, or an IMU_DRDY edge (R59, R290). -/
def State.imuMay (s : State) (c : ImuCfg) : Bool := c.trig == 1 || s.clk.ticks % (1000 * s.fus.epoch) == 0

/-- IMU_TRIGGER (R282, R290): the image enables the unit, and this device does not follow its partner (R431). -/
def execImuTrigger (s : State) : Host.Outcome State Fault Refusal :=
  .next (match s.imuCfg with
    | none => s
    | some c => if s.fusOn && s.hears && s.fusCfg 5 == 1 && !s.following && s.imuMay c then imuTrigger s else s)

/-- A number as a 16-bit signed word; one that does not fit has no stated result (notes/assumptions/11.md). -/
def State.fitS (s : State) (n : Int) : State × Word :=
  if -32768 ≤ n ∧ n ≤ 32767 then (s, wInt n) else (s.took, Config.freeWord s.free)

/-- The received bytes of a step as a number: 16 bits for two bytes, 8 bits for one (R290). -/
def imuRaw (len : Nat) (w : BitVec 16) : Int := if len = 1 then (w.setWidth 8).toInt else w.toInt

/-- The result of one step: FUS_IMU_d, and a sample where it enters fusion (R290). A yaw rate saturates (Table MOTION-7). -/
def State.imuStep (s : State) (st : Nat) (p : ImuStep) (w : BitVec 16) : State :=
  if p.rxLen = 0 ∨ p.dest = 0 ∨ 5 < p.dest then s
  else
    match s.quant (((imuRaw p.rxLen w + p.offset) * p.scale : Int) / 256) with
    | (s, n) =>
      match s.fitS (if p.dest = 1 then clampI (-32767) 32767 n else n) with
      | (s, v) =>
        let s := s.wr (A.FUS_IMU (p.dest - 1)) v
        s.modFus (fun f =>
          { f with
            imuYaw := if p.dest = 1 then putSample ⟨st, sInt v⟩ f.imuYaw else f.imuYaw
            imuAcc := if p.dest = 2 then putSample ⟨st, sInt v⟩ f.imuAcc else f.imuAcc })

/-- The results of the steps with the words they received; a step without bytes takes none. -/
def State.imuSteps (s : State) (st : Nat) : List ImuStep → List (BitVec 16) → State
  | p :: ps, w :: ws => (s.imuStep st p w).imuSteps st ps ws
  | _, _ => s

/-- IMU_SEQ_DONE (R290): the sequence ends; `rx` holds what each step received. -/
def execImuSeqDone (rx : List (BitVec 16)) (s : State) : Host.Outcome State Fault Refusal :=
  .next (match s.fus.imu, s.imuCfg with
    | some st, some c =>
      if s.fusOn then (s.modFus (fun f => { f with imu := none })).imuSteps st c.steps rx else s
    | _, _ => s)

/-! ### SENT (R291) -/

/-- Multiply a CRC nibble by x⁴ modulo x⁴ + x³ + x² + 1. -/
def crc4x (c : Nat) : Nat :=
  [0, 13, 7, 10, 14, 3, 9, 4, 1, 12, 6, 11, 15, 2, 8, 5][c % 16]?.getD 0

/-- The CRC of six data nibbles and a trailing zero nibble, seed 0101 (R291). -/
def sentCrc (l : List Nat) : Nat := crc4x (l.foldl (fun c d => crc4x c ^^^ d) 5)

/-- The nibbles of the pulses, at `cal` per 56 ticks; none where a pulse is outside 12 to 27 ticks. -/
def State.sentNibbles (s : State) (cal : Nat) : List Nat → State × Option (List Nat)
  | [] => (s, some [])
  | p :: r =>
    match s.round ((p : Rat) * 56 / cal) with
    | (s, n) =>
      match s.sentNibbles cal r with
      | (s, none) => (s, none)
      | (s, some l) => (s, if 12 ≤ n ∧ n ≤ 27 then some ((n - 12).toNat :: l) else none)

/-- A calibration pulse of `cal` × 10 ns is accepted: within ±20 % of the nominal tick and 1/64 of the previous one (R291). -/
def calOk (cal nominal : Nat) (prev : Option Nat) : Bool :=
  5600 * nominal * 8 ≤ 10 * cal && 10 * cal ≤ 5600 * nominal * 12 && cal != 0 &&
    (match prev with
      | none => true
      | some p => decide (64 * (max cal p - min cal p) ≤ p))

/-- A good frame: its status nibble and data nibbles 1 to 3 (R291). -/
def State.sentGood (s : State) (n : Fin 2) (st d1 d2 d3 : Nat) : State :=
  let r : Int := (256 * d1 + 16 * d2 + d3 : Nat)
  let ang := (r - field (s.rd (A.FUS_SENT_OFS n.val)) 11 0) * sInt (s.rd (A.FUS_SENT_SCL n.val))
  match s.quant ((ang : Rat) / 256) with
  | (s, q) =>
    match s.fitS q with
    | (s, v) =>
      let s := (s.wr (A.FUS_ANGLE n.val) v).wr A.FUS_SENT_STAT
        (setField (s.rd A.FUS_SENT_STAT) (4 * n.val + 3) (4 * n.val) st)
      s.modFus (fun f => { f with sent := f.sent.set n (putSample ⟨s.clk.ticks, sInt v⟩ f.sent[n]) })

/-- A discarded frame (R291). -/
def State.sentBad (s : State) (n : Fin 2) : State :=
  let s := s.satInc (A.FUS_SENT_ERR n.val)
  s.raise evSENT_ERR (w16 n.val) (s.rd (A.FUS_SENT_ERR n.val))

/-- A SENT frame: calibration pulse, status, six data nibbles and CRC, in 10 ns; a pause pulse may follow (R291). -/
def sentFrame (n : Fin 2) (pulses : List Nat) (s : State) : State :=
  match pulses with
  | [] => s.sentBad n
  | cal :: r =>
    let ok := calOk cal (s.fusCfg (6 + n.val)) s.fus.sentCal[n] && (r.length == 8 || r.length == 9)
    let s := s.modFus (fun f => { f with sentCal := f.sentCal.set n (some cal) })
    if !ok then s.sentBad n
    else
      match s.sentNibbles cal (r.take 8) with
      | (s, some (st :: d1 :: d2 :: d3 :: l)) =>
        if (l.drop 3).head? = some (sentCrc (d1 :: d2 :: d3 :: l.take 3)) then s.sentGood n st d1 d2 d3 else s.sentBad n
      | (s, _) => s.sentBad n

/-- SENT_FRAME (R282, R291). -/
def execSentFrame (n : Fin 2) (pulses : List Nat) (s : State) : Host.Outcome State Fault Refusal :=
  .next (if s.fusOn && s.hears && s.fusCfg (6 + n.val) != 0 then sentFrame n pulses s else s)

/-! ### Host-injected samples (R292) -/

/-- A 32-bit stamp extended to the most recent tick with those low bits; one that would lie after the present is the
present (R292). -/
def extStamp (now lo : Nat) : Nat :=
  let back := (now + 2 ^ 32 - lo % 2 ^ 32) % 2 ^ 32
  if now < back then now else now - back

/-- FUS_HINJ_0 is written with kind 01 or 10 (R292). -/
def hostInject (d : Word) (s : State) : State :=
  let st := extStamp s.clk.ticks (quant2 (s.staged (A.FUS_HINJ 1)) (s.staged (A.FUS_HINJ 2)))
  let x : Sample := ⟨st, sInt (s.staged (A.FUS_HINJ 0))⟩
  if natBit (s.fusCfg 8) 0 then
    match field d 1 0 with
    | 1 => (s.modFus (fun f => { f with hostV := putSample x f.hostV })).redirect s.clk.ticks
    | 2 => s.modFus (fun f => { f with hostYaw := putSample x f.hostYaw })
    | _ => s
  else s

/-- HOST_INJECT (R292). -/
def execHostInject (d : Word) (s : State) : Host.Outcome State Fault Refusal := .next (s.whenHost (fun s => if s.fusOn then hostInject d s else s))

/-! ### Values at a fusion instant (R285, R294) -/

/-- The difference of two values; of courses the shortest signed one. -/
def diffQ (ring : Bool) (a b : Rat) : Rat :=
  if ring then (a - b) - 65536 * ((a - b) / 65536 + 1 / 2).floor else a - b

/-- The slope of the two newest samples per µs, held within ±5,000 per second (R294). -/
def slope (ring : Bool) : List Sample → Rat
  | x :: y :: _ => clampQ (-1 / 200) (1 / 200) (diffQ ring x.v y.v / ((x.t : Int) - y.t : Int))
  | _ => 0

/-- The value of a sampled source at `tk`, and whether it is extrapolated; none where it is STALE (R294). -/
def sampleAt (ring : Bool) (l : List Sample) (tk dly h : Nat) : Option (Rat × Bool) :=
  match (l.filter (fun x => tk < x.t && x.t ≤ tk + dly)).getLast?, l.find? (fun x => x.t ≤ tk) with
  | some a, some b => some (b.v + diffQ ring a.v b.v * (tk - b.t : Nat) / (a.t - b.t : Nat), false)
  | _, _ =>
    match l.filter (fun x => x.t ≤ tk + dly) with
    | [] => none
    | x :: r => if tk ≤ x.t + h then some (x.v + slope ring (x :: r) * ((tk : Int) - x.t : Int), x.t != tk) else none

/-- D_n in counts at `t`, no count after it: at most one count ahead of the last tooth (R285). -/
def Wheel.ahead (w : Wheel) (t0 : Nat) (c : Int) (t : Nat) : Rat :=
  if w.iLast = 0 then c else c + w.sgn * minQ 1 ((t - t0 : Nat) / w.iLast)

/-- D_n in counts at the present tick `t` (R285, R299). -/
def Wheel.live (w : Wheel) (t : Nat) : Rat :=
  match w.last with
  | none => w.cnt
  | some t0 => w.ahead t0 w.cnt t

/-- D_n in counts and the speed in counts per µs at `tk` (R285, R294). -/
def Wheel.atInstant (w : Wheel) (tk dly h : Nat) : Rat × Rat :=
  match (w.log.filter (fun p => tk < p.1 && p.1 ≤ tk + dly)).getLast?, w.log.find? (fun p => p.1 ≤ tk) with
  | some (t1, c1), some (t0, c0) =>
    let v : Rat := ((c1 - c0 : Int) : Rat) / (t1 - t0 : Nat)
    (c0 + v * (tk - t0 : Nat), v)
  | some (_, c1), none => (c1 - w.sgn, 0)
  | none, some (t0, c0) =>
    let v : Rat :=
      if w.iLast = 0 ∨ h < tk - t0 then 0
      else if tk = t0 then w.sgn / w.iLast
      else w.sgn * minQ (1 / w.iLast) (1 / (tk - t0 : Nat))
    (w.ahead t0 c0 tk, v)
  | none, none => (w.cnt, 0)

/-! ### The estimate (R295 to R298) -/

/-- A fresh speed source at a fusion instant: index and weight of FUS_W, speed in mm/s, distance increment in mm, what
`Fused` keeps of it, and whether it was extrapolated. -/
structure Reading where
  x : Nat
  w : Nat
  v : Rat
  δ : Rat
  d : Rat
  ext : Bool
  deriving DecidableEq, Repr

/-- The value of an index in a list of readings of the previous instant. -/
def prevOf (l : List (Nat × Rat)) (x : Nat) : Option Rat := mapGet l x

/-- The wheel channel at `tk` (R285, R295). -/
def State.wheelReading (s : State) (n : Fin 4) (tk : Nat) : Reading :=
  let p := s.fus.wheels[n].atInstant tk (100 * s.fus.delay) s.horizon
  let mm : Rat := (s.rd (A.FUS_WHL_DPC n.val)).toNat / 1000
  { x := n.val, w := s.weight n.val, v := p.2 * mm * 1000000, δ := (p.1 - (prevOf s.fus.prevD n.val).getD p.1) * mm,
    d := p.1, ext := false }

/-- A sampled speed source at `tk`, if it is fresh (R294, R295). -/
def State.sampleReading (s : State) (x : Nat) (l : List Sample) (tk : Nat) : Option Reading :=
  (sampleAt false l tk (100 * s.fus.delay) s.horizon).map (fun p =>
    { x := x, w := s.weight x, v := p.1, δ := ((prevOf s.fus.prevV x).getD p.1 + p.1) / 2 * s.fus.epoch / 1000, d := p.1,
      ext := p.2 })

/-- The fresh speed sources at `tk`: the enabled wheels, the GNSS and the host (R295). -/
def State.readings (s : State) (tk : Nat) : List Reading :=
  ((List.finRange 4).filter (fun n => s.fusCfg n.val != 0)).map (fun n => s.wheelReading n tk) ++
    (s.sampleReading 4 s.fus.gnss tk).toList ++ (s.sampleReading 5 s.fus.hostV tk).toList

/-- The weighted mean of the readings with weight; 0 where there is none (R295). -/
def mean (l : List Reading) (f : Reading → Rat) : Rat :=
  (l.map (fun r => r.w * f r)).sum / (l.map (fun r => (r.w : Rat))).sum

/-- The quality word's fresh bits (Table MOTION-3). -/
def State.freshBits (s : State) (tk : Nat) (l : List Reading) : Word :=
  let fresh (x : List Sample) : Bool := (sampleAt false x tk (100 * s.fus.delay) s.horizon).isSome
  ofBits [l.any (·.x == 0), l.any (·.x == 1), l.any (·.x == 2), l.any (·.x == 3), l.any (·.x == 4),
    fresh s.fus.imuYaw || fresh s.fus.imuAcc, fresh s.fus.sent[0], fresh s.fus.sent[1],
    l.any (·.x == 5) || fresh s.fus.hostYaw]

/-- The samples that later instants can look at: those after `tk` and the two newest at or before it (R294). -/
def prune (tk : Nat) (l : List Sample) : List Sample :=
  l.filter (fun x => tk < x.t) ++ (l.filter (fun x => x.t ≤ tk)).take 2

/-- The count log likewise: one count at or before `tk` is enough. -/
def Wheel.prune (w : Wheel) (tk : Nat) : Wheel :=
  { w with log := w.log.filter (fun p => tk < p.1) ++ (w.log.filter (fun p => p.1 ≤ tk)).take 1 }

/-- The next fusion instant after `tk`, and the setting of E and D from then on (R293). -/
def Fusion.advance (f : Fusion) (tk : Nat) : Fusion :=
  match f.newSet with
  | (t, w) :: r =>
    if t ≤ tk then
      let e := field w 3 0
      { f with epoch := e, delay := field w 14 8, newSet := r, next := tbNext tk (1000 * e) }
    else { f with next := tbNext tk (1000 * f.epoch) }
  | [] => { f with next := tbNext tk (1000 * f.epoch) }

/-- FUS_EPOCH is written while D_FUS is on: it takes effect at the next instant of the setting in force (R293). -/
def State.setEpoch (s : State) (w : Word) : State :=
  s.modFus (fun f =>
    let done := f.newSet.filter (fun p => p.1 ≤ s.clk.ticks)
    let e := 1000 * ((done.getLast?.map (fun p => field p.2 3 0)).getD f.epoch)
    { f with newSet := done ++ [(tbNext s.clk.ticks e, w)] })

/-- The change of SENT0's angle over the epoch, per second, where FUS_CTL.artic takes it, and whether the angle is extrapolated
(R297, R298). -/
def State.articAt (s : State) (ang : Option (Rat × Bool)) : Rat × Bool :=
  match ang, s.fus.prevAngle with
  | some a, some b => if bit (s.rd A.FUS_CTL) 2 then ((a.1 - b) * 1000 / s.fus.epoch, a.2) else (0, false)
  | _, _ => (0, false)

/-- ω_k before its saturation, whether it comes from a fresh source, whether a value it is made of was extrapolated, and the angle of
SENT0 that the next epoch compares with (R297, R298); 0 where no yaw rate is fresh. -/
def State.yawAt (s : State) (tk : Nat) : Rat × Bool × Bool × Option Rat :=
  let at' (l : List Sample) := sampleAt false l tk (100 * s.fus.delay) s.horizon
  let ang := at' s.fus.sent[0]
  let sub := s.articAt ang
  match (at' s.fus.imuYaw).or (at' s.fus.hostYaw) with
  | some p => (p.1 - sub.1, true, p.2 || sub.2, ang.map (·.1))
  | none => (0, false, false, ang.map (·.1))

/-- The heading after one epoch at ω, whether a GNSS course corrected it, and whether that was extrapolated (R297, R298). -/
def State.headingAt (s : State) (tk : Nat) (v yaw : Rat) : Rat × Bool × Bool :=
  let h := s.fus.hdg - yaw * s.fus.epoch * 65536 / 36000000
  let wrap (x : Rat) : Rat := x - 65536 * (x / 65536).floor
  match sampleAt true s.fus.course tk (100 * s.fus.delay) s.horizon with
  | none => (wrap h, false, false)
  | some p =>
    if bit (s.rd A.FUS_CTL) 3 && decide (v ≤ -1000 ∨ 1000 ≤ v) then
      (wrap (h + diffQ true p.1 h / 16), true, p.2)
    else (wrap h, false, false)

/-- Round a number, saturate it at ±32,767 and store it. -/
def State.wrRound (s : State) (a : Nat) (x : Rat) : State :=
  match s.round (clampQ (-32767) 32767 x) with
  | (s, n) => s.wr a (wInt n)

/-- FUS_IN_V of the fresh speed sources (Table MOTION-10). -/
def State.wrInV (s : State) (l : List Reading) : State := s.each l (fun s r => s.wrRound (A.FUS_IN_V (r.x % 6)) r.v)

/-- The estimate of the fusion instant `tk` (R294 to R298): the state with it published, in class 5 of the tick. -/
def State.estimate (s : State) (tk : Nat) : State :=
  let s := s.redirect tk
  let all := s.readings tk
  let l := all.filter (fun r => 0 < r.w)
  let e : Rat := s.fus.epoch
  let v := clampQ (-32767) 32767 (mean l (·.v))
  let acc := sampleAt false s.fus.imuAcc tk (100 * s.fus.delay) s.horizon
  let a := clampQ (-32767) 32767 (match acc with
    | some p => p.1
    | none => (v - s.fus.v) * 1000 / e)
  let y := s.yawAt tk
  let yaw := clampQ (-32767) 32767 y.1
  let h := s.headingAt tk v yaw
  let fresh := s.freshBits tk all
  let before := s.fus.qual &&& 0x01FF
  let ext := l.any (·.ext) || (acc.map (·.2)).getD false || y.2.2.1 || h.2.2
  let qual := fresh ||| ofBits (List.replicate 9 false ++
    [ext, false, false, s.fus.rev, s.fus.hdgValid || h.2.1, y.2.1, !l.isEmpty])
  match s.quant (256 * mean l (·.δ)) with
  | (s, ds) =>
    let s := s.modFus (fun f =>
      { f with
        tk := some tk, s := (f.s + ds) % 2 ^ 40, v := v, a := a, yaw := yaw, hdg := h.1, hdgValid := f.hdgValid || h.2.1
        fused := l.map (fun r => ⟨r.x, r.w, r.d⟩), qual := qual, prevAngle := y.2.2.2
        prevV := (all.filter (fun r => 4 ≤ r.x)).map (fun r => (r.x, r.v))
        prevD := (all.filter (fun r => r.x < 4)).map (fun r => (r.x, r.d))
        wheels := f.wheels.map (·.prune tk), gnss := prune tk f.gnss, course := prune tk f.course
        imuYaw := prune tk f.imuYaw, imuAcc := prune tk f.imuAcc, hostV := prune tk f.hostV
        hostYaw := prune tk f.hostYaw, sent := f.sent.map (prune tk) })
    let s := (s.wr (A.FUS_EST 0) qual).wrQ (A.FUS_EST 1) 2 (s.fus.s / 256).toNat
    let s := ((s.wrRound (A.FUS_EST 3) v).wrRound (A.FUS_EST 4) a).wrRound (A.FUS_EST 5) yaw
    let s := match s.round h.1 with
      | (s, n) => s.wr (A.FUS_EST 6) (wInt n)
    let s := (s.wrQ (A.FUS_EST 7) 3 (tk % 2 ^ 48)).wrInV all
    let s := s.wrapInc A.FUS_PUBCNT
    let s := if before &&& ~~~ fresh = 0 then s else s.raise evFUS_STALE before fresh
    s.modFus (fun f => f.advance tk)

/-! ### Live position (R299) -/

/-- What one fused source has added since `tk`, in mm (R299). -/
def State.delta (s : State) (tk : Nat) (r : Fused) : Rat :=
  let t := s.clk.ticks
  if h : r.x < 4 then
    (s.fus.wheels[r.x].live t - r.d) * (s.rd (A.FUS_WHL_DPC r.x)).toNat / 1000
  else
    let dt : Rat := (t - tk : Nat) / 1000000
    r.d * dt + s.fus.a * dt * dt / 2

/-- s(t) in mm at the present tick, not reduced modulo 2^32 (R299). -/
def State.liveS (s : State) : Rat :=
  let base : Rat := (s.fus.s : Rat) / 256
  match s.fus.tk with
  | none => base
  | some tk =>
    base + (s.fus.fused.map (fun r => r.w * s.delta tk r)).sum / (s.fus.fused.map (fun r => (r.w : Rat))).sum

/-! ### D_FUS on (R43, R314, R315) -/

/-- D_FUS has come on: the inputs start afresh, s continues from its held value and the first instant is the first whose
publication is still to come. -/
def State.fusStart (s : State) : State :=
  let w := s.rd A.FUS_EPOCH
  let e := 1000 * field w 3 0
  let dly := field w 14 8
  let s := (s.clearRange (A.FUS_EST 0) 0x1100).wr A.FUS_STAT (w16 (b2n s.fus.ran))
  let s := s.wr A.FUS_PUBCNT 0
  s.modFus (fun f =>
    { Fusion.reset with
      s := f.s, v := f.v, hdg := f.hdg, rev := f.rev, epoch := field w 3 0, delay := dly
      next := if s.clk.ticks < 100 * dly then 0 else tbNext (s.clk.ticks - 100 * dly) e
      prevD := (List.range 4).map (fun n => (n, (0 : Rat))), ran := true })

end Sys2Proof.Machine
end

