-- ==== Sys2Proof/Machine/Schedule.lean ====
section
/-! DEFINITION. Sys2Proof/Machine/Schedule.lean: the section schedule (R300 to R312) and the fusion publication that drives
it (R293, R304, R306, R308). -/
namespace Sys2Proof.Machine

/-! ### Actions on targets (R300, R301) -/

/-- The three actions of an entry: 1 ON, 2 OFF, 3 RATE. -/
def actON : Nat := 1
def actOFF : Nat := 2
def actRATE : Nat := 3

/-- Axis or timer `n`. -/
def fin24 (n : Nat) : Fin 24 := ⟨n % 24, Nat.mod_lt _ (by decide)⟩

/-- A binding to a ground-slaved axis (Table MOTION-5, kind 01). -/
def State.actAxis (s : State) (t : Nat) (a : Fin 24) (act : Nat) (v : Word) : State :=
  if act = actRATE then s.storeWord t (axAddr A.AX_GS_RATE a) v
  else
    let adr := axAddr A.AX_GS_CTL a
    s.storeWord t adr (setField (s.rd adr) 0 0 (b2n (act = actON)))

/-- A binding to COIL channels (kind 10). -/
def State.actCoil (s : State) (t : Nat) (a : Fin 24) (sel : Word) (v : Word) : State :=
  s.each ((List.range 3).filter (fun c => bit sel c)) (fun s c => s.storeWord t (axAddr (fun b j => A.AX_CUR_SET b j c) a) v)

/-- A binding to timer roles (kind 11). -/
def State.actTimer (s : State) (t : Nat) (x : Fin 24) (sel : Word) (act : Nat) (v : Word) : State :=
  let roles := (List.range 3).filter (fun r => bit sel r)
  if act = actRATE then (s.each roles (fun s r => s.storeWord t (timAddr x (2 + r)) v)).armTimer t x
  else
    let w := roles.foldl (fun w r => setField w (3 * r + 2) (3 * r) (if act = actON then 0 else 1)) (s.rd (timAddr x 14))
    s.storeWord t (timAddr x 14) w

/-- The registers that an action on a target writes (Table MOTION-5). -/
def State.actBinding (s : State) (t : Nat) (n : Fin 24) (act : Nat) (v : Word) : State :=
  let w := s.rd (A.SCH_TGT n.val)
  let x := fin24 (field w 12 8)
  match field w 15 14 with
  | 1 => s.actAxis t x act v
  | 2 => s.actCoil t x w (if act = actRATE then v else if act = actON then s.rd (A.SCH_ON n.val) else 0)
  | 3 => s.actTimer t x w act v
  | _ => s

/-- The SCH_STATE word of a target. -/
def schStateAddr (n : Fin 24) : Nat := if n.val < 16 then A.SCH_STATE_LO else A.SCH_STATE_HI

/-- An action on a target at PWM clock `t` (R301). -/
def State.applyAct (s : State) (t : Nat) (n : Fin 24) (act : Nat) (v : Word) : State :=
  let s := s.actBinding t n act v
  if act = actRATE then s
  else s.wr (schStateAddr n) (setField (s.rd (schStateAddr n)) (n.val % 16) (n.val % 16) (b2n (act = actON)))

/-! ### Positions (R304 to R306, R311) -/

/-- A difference of positions in mm modulo 2^32 as a signed value (R311). -/
def wrapPos (x : Rat) : Rat := x - 4294967296 * (x / 4294967296 + 1 / 2).floor

/-- L_n in 0.1 ms. -/
def State.lead (s : State) (n : Nat) : Nat := (s.rd (A.SCH_LEAD n)).toNat

/-- The anticipated position of target `n` at the latest publication: s_k + v_k·L_n in mm (R306). -/
def State.anticipated (s : State) (n : Nat) : Rat := (s.fus.s : Rat) / 256 + s.fus.v * s.lead n / 10000

/-- Target `n` of an entry at `se` is at or past it at the latest publication (R306). -/
def State.isLate (s : State) (se n : Nat) : Bool := wrapPos (se - s.anticipated n) ≤ 0

/-- The predicted firing time in ticks (R304). -/
def State.predict (s : State) (tk se n : Nat) : Rat :=
  tk + wrapPos (se - (s.fus.s : Rat) / 256) / s.fus.v * 1000000 - 100 * s.lead n

/-! ### The queue (R302, R303) -/

/-- An index whose record the mirror must carry again (R426). -/
def markDirty (i : Nat) (l : List Nat) : List Nat := if l.contains i then l else l ++ [i]

/-- Entry `i` replaced. -/
def State.setEntry (s : State) (i : Nat) (e : Entry) : State :=
  s.modSched (fun x => { x with q := mapPut x.q i e, dirty := markDirty i x.dirty })

/-- Entry `i` removed. -/
def State.delEntry (s : State) (i : Nat) : State :=
  s.modSched (fun x => { x with q := mapDel x.q i, dirty := markDirty i x.dirty })

/-- Target `n` of an entry. -/
def Entry.tgt (e : Entry) (n : Nat) : Option TgtSt := mapGet e.tgts n

/-- Set target `n` of an entry; the entry retires when its last target has fired (R303). -/
def State.setTgt (s : State) (i n : Nat) (x : TgtSt) : State :=
  match mapGet s.sched.q i with
  | none => s
  | some e =>
    let l := e.tgts.map (fun p => if p.1 = n then (n, x) else p)
    if l.all (fun p => p.2 == .fired) then s.delEntry i else s.setEntry i { e with tgts := l }

/-- The targets a mask names, in rising order. -/
def maskTargets (mask : Nat) : List Nat := (List.range 24).filter (fun n => natBit mask n)

/-- The lowest free index (R302). -/
def State.freeIndex (s : State) : Option Nat := (List.range 256).find? (fun i => (mapGet s.sched.q i).isNone)

/-- An entry's targets at insertion: one already at or past its position fires in the next tick (R306). -/
def State.newTargets (s : State) (mask se : Nat) : List (Nat × TgtSt) :=
  (maskTargets mask).map (fun n => (n, if s.isLate se n then .late (s.clk.ticks + 1) else .pending none))

/-- Insert an entry (R302). -/
def State.insert (s : State) (act mask se : Nat) (v : Word) : State :=
  match s.freeIndex with
  | none =>
    ((s.wr A.SCH_IN_RES 0x8000).satInc A.SCH_FULLCNT).raise evSCHED_FULL (w16 s.sched.q.length) 0
  | some i =>
    let l := s.newTargets mask se
    let late := l.any (fun p => match p.2 with
      | .late _ => true
      | _ => false)
    (s.setEntry i ⟨act, v, se, l⟩).wr A.SCH_IN_RES (w16 ((if late then 49152 else 16384) + i))

/-- The mask staged in two words of SCH_IN or SCH_SECT. -/
def State.stagedMask (s : State) (lo hi : Nat) : Nat := quant2 (s.staged lo) (s.staged hi) % 2 ^ 24

/-- SCH_IN_0 is written with an action and a mask that names a target: the staged words make an entry (R302). -/
def scheduleInsert (d : Word) (s : State) : State :=
  s.insert (field d 15 14) (s.stagedMask (A.SCH_IN_12 1) A.SCH_IN_3)
    (quant2 (s.staged (A.SCH_IN_45 0)) (s.staged (A.SCH_IN_45 1))) (s.staged (A.SCH_IN_12 0))

/-- The queue is cleared (R303, R314, R315). -/
def State.clearQueue (s : State) : State :=
  s.modSched (fun x => { q := [], dirty := x.q.foldl (fun l p => markDirty p.1 l) x.dirty })

/-! ### Commit and firing (R303 to R306) -/

/-- tCOMMIT in ticks. -/
def State.tcommit (s : State) : Nat := 1000 * field (s.rd A.SCH_CTL) 4 0

/-- A pending target whose predicted time is within tCOMMIT is committed to max(T, t + 1) (R303, R304). -/
def scheduleCommit (i : Fin 256) (n : Fin 24) (s : State) : State :=
  match (mapGet s.sched.q i.val).bind (·.tgt n.val) with
  | some (.pending (some p)) =>
    if p - (s.clk.ticks : Rat) ≤ s.tcommit then
      match s.quant p with
      | (s, t) => s.setTgt i.val n.val (.committed (max t.toNat (s.clk.ticks + 1)))
    else s
  | _ => s

/-- SCHEDULE_COMMIT (R303, R304); a standby that follows its partner commits nothing (R431). -/
def execScheduleCommit (i : Fin 256) (n : Fin 24) (s : State) : Host.Outcome State Fault Refusal :=
  .next (if s.fusOn && !s.following then scheduleCommit i n s else s)

/-- Fire target `n` of entry `i` at PWM clock `t`: the action is applied and the error recorded (R305, R306). -/
def State.fire (s : State) (t : Nat) (i : Fin 256) (n : Fin 24) (e : Entry) (late : Bool) : State :=
  let s := s.applyAct t n e.act e.value
  match s.round (wrapPos (e.s - (s.liveS + s.fus.v * s.lead n.val / 10000))) with
  | (s, err) =>
    let ew := wInt (clampI (-32767) 32767 err)
    let iw := w16 (256 * i.val + n.val)
    let s := s.wrs (A.SCH_LAST 0)
      [w16 (32768 * b2n late + i.val), w16 n.val, ew, wordOf s.tb 0, wordOf s.tb 1]
    let s := (s.raise evSCHED_FIRE iw ew).setTgt i.val n.val .fired
    if late then (s.satInc A.SCH_LATECNT).raise evSCHED_LATE iw ew else s

/-- A committed target fires at its committed tick (R305). -/
def scheduleFire (t : Nat) (i : Fin 256) (n : Fin 24) (s : State) : State :=
  match mapGet s.sched.q i.val with
  | none => s
  | some e =>
    match e.tgt n.val with
    | some (.committed c) => if c ≤ s.clk.ticks then s.fire t i n e false else s
    | _ => s

/-- SCHEDULE_FIRE (R305). -/
def execScheduleFire (at' : Fin 200) (i : Fin 256) (n : Fin 24) (s : State) : Host.Outcome State Fault Refusal :=
  .next (if s.fusOn && !s.following then scheduleFire (s.clkAt at') i n s else s)

/-- A target found at or past its position fires in the next tick (R306). -/
def schedLateFire (t : Nat) (i : Fin 256) (n : Fin 24) (s : State) : State :=
  match mapGet s.sched.q i.val with
  | none => s
  | some e =>
    match e.tgt n.val with
    | some (.late c) => if c ≤ s.clk.ticks then s.fire t i n e true else s
    | _ => s

/-- SCHED_LATE_FIRE (R306). -/
def execSchedLateFire (at' : Fin 200) (i : Fin 256) (n : Fin 24) (s : State) : Host.Outcome State Fault Refusal :=
  .next (if s.fusOn && !s.following then schedLateFire (s.clkAt at') i n s else s)

/-! ### Host section commands and cancels (R307, R309) -/

/-- SCH_SECT_0 is written: the action is applied to every named target (R307). -/
def schSect (t act : Nat) (s : State) : State :=
  let mask := s.stagedMask A.SCH_SECT_1 A.SCH_SECT_2
  let v := s.staged A.SCH_SECT_3
  let s := s.each (maskTargets mask) (fun s n => s.applyAct t (fin24 n) act v)
  s.raise evHOST_SECT (wordOf mask 0) (w16 (16384 * act + mask / 65536))

/-- SCH_SECT_ON (R307). -/
def execSchSectOn (at' : Fin 200) (s : State) : Host.Outcome State Fault Refusal :=
  .next (s.whenHost (fun s => if s.fusOn then schSect (s.clkAt at') actON s else s))

/-- SCH_SECT_OFF (R307). -/
def execSchSectOff (at' : Fin 200) (s : State) : Host.Outcome State Fault Refusal :=
  .next (s.whenHost (fun s => if s.fusOn then schSect (s.clkAt at') actOFF s else s))

/-- SCH_SECT_RATE (R307). -/
def execSchSectRate (at' : Fin 200) (s : State) : Host.Outcome State Fault Refusal :=
  .next (s.whenHost (fun s => if s.fusOn then schSect (s.clkAt at') actRATE s else s))

/-- Remove what has not fired of entry `i`, and free its index (R309). -/
def schCancel (i : Nat) (s : State) : State := if (mapGet s.sched.q i).isSome then s.delEntry i else s

/-- SCH_CANCEL (R309). -/
def execSchCancel (i : Fin 256) (s : State) : Host.Outcome State Fault Refusal :=
  .next (s.whenHost (fun s => if s.fusOn then schCancel i.val s else s))

/-- SCH_CANCEL_ALL (R309). -/
def execSchCancelAll (s : State) : Host.Outcome State Fault Refusal := .next (s.whenHost (fun s => if s.fusOn then s.clearQueue else s))

/-! ### The publication (R293, R304, R306, R308) -/

/-- The stop condition of R308 at the latest publication. -/
def State.stopCond (s : State) : Bool :=
  !bit s.fus.qual 15 || s.fus.rev || decide (s.fus.v ≤ 10 * field (s.rd A.SCH_CTL) 15 8)

/-- A target of an entry after a publication of `tk` in the present tick: a stop returns later commits to PENDING, an
anticipated position at or past s_e fires in the next tick, any other pending target is predicted anew. -/
def State.republish (s : State) (stop : Bool) (tk se : Nat) (p : Nat × TgtSt) : Nat × TgtSt :=
  let pend : TgtSt :=
    if s.isLate se p.1 then .late (s.clk.ticks + 1)
    else .pending (if stop then none else some (s.predict tk se p.1))
  match p.2 with
  | .pending _ => (p.1, pend)
  | .committed c => if stop && decide (s.clk.ticks < c) then (p.1, pend) else p
  | _ => p

/-- Targets of an entry that a stop returns to PENDING (R308). -/
def State.returned (s : State) (e : Entry) : Nat :=
  (e.tgts.filter (fun p => match p.2 with
    | .committed c => decide (s.clk.ticks < c)
    | _ => false)).length

/-- The schedule's part of a publication of `tk` (R304, R306, R308). -/
def State.reschedule (s : State) (tk : Nat) : State :=
  let stop := s.stopCond
  let q := s.sched.q
  let n := (q.map (fun p => s.returned p.2)).sum
  let q' := q.map (fun p => (p.1, { p.2 with tgts := p.2.tgts.map (s.republish stop tk p.2.s) }))
  let s := s.modSched (fun x => { x with q := q' })
  if stop ∧ n ≠ 0 then (s.satInc A.SCH_UNCOMCNT).raise evSCHED_UNCOMMIT 0 (w16 n) else s

/-- The publication of the next fusion instant (R293); a standby that follows its partner takes part with its estimate
alone (R431). -/
def fusionPublication (s : State) : State :=
  let tk := s.fus.next
  let s := s.estimate tk
  if s.following then s else s.reschedule tk

/-- FUSION_PUBLICATION (R293): at tick t_k + D. -/
def execFusionPublication (s : State) : Host.Outcome State Fault Refusal :=
  .next (if s.fusOn && decide (s.fus.next + 100 * s.fus.delay ≤ s.clk.ticks) then fusionPublication s else s)

end Sys2Proof.Machine
end

