-- ==== Sys2Proof/Machine/Solver.lean ====
section
/-! DEFINITION. Sys2Proof/Machine/Solver.lean: seed drop association: epoch closes and batches (R321, R322, R332), the
assignment (R323, R324), its resolution (R326), the results of a row (R327 to R331), failures (R336) and clears (R339). -/
namespace Sys2Proof.Machine

/-! ### Integer square roots -/

/-- The largest number not above √n, found bit by bit from bit `k` down, `r` holding the bits found. -/
def isqrtBits (n : Nat) : Nat → Nat → Nat
  | 0, r => r
  | k + 1, r => let c := r + 2 ^ k; if c * c ≤ n then isqrtBits n k c else isqrtBits n k r

/-- √x to the nearest integer, x below 2^62; a tie takes a free neighbour (notes/assumptions/11.md). -/
def State.roundSqrt (s : State) (x : Rat) : State × Nat :=
  let y := 4 * x
  let r := isqrtBits y.floor.toNat 32 0
  let n := (r + 1) / 2
  if y = ((2 * n - 1 : Nat) : Rat) * (2 * n - 1 : Nat) ∧ 0 < n then (s.took, if Config.freeBool s.free then n else n - 1)
  else (s, n)

/-! ### The assignment (R323, R324) -/

/-- A cost with the list a_0, a_1, … that has it. -/
abbrev Choice := Nat × List Nat

/-- One list comes before another of equal length in lexicographic order. -/
def lexLt : List Nat → List Nat → Bool
  | x :: xs, y :: ys => x < y || (x == y && lexLt xs ys)
  | _, _ => false

/-- The better of two choices: the lower cost, of equal costs the lexicographically smaller list (R324). -/
def better (x y : Choice) : Choice := if y.1 < x.1 ∨ (y.1 = x.1 ∧ lexLt y.2 x.2) then y else x

/-- |t_o − t_e| in µs (R323). -/
def timeGap (a b : Nat) : Nat := max a b - min a b

/-- The best choices for the expected events from one at time `te` on, for every tail of the observed events, given those
for the expected events after it (`prev`, one entry for each tail). The first expected event is unpaired, or the first
observed event is unpaired, or the two are paired if the gate permits it (R323). -/
def assignRow (g te : Nat) : List (Nat × Nat) → List Choice → List Choice
  | (i, obsT) :: os, p :: p' :: ps =>
    let rest := assignRow g te os (p' :: ps)
    let c := timeGap obsT te
    let none' : Choice := (g + p.1, 32 :: p.2)
    let best := match rest with
      | [] => none'
      | r :: _ => better (g + r.1, r.2) none'
    (if c ≤ g then better (c + p'.1, i :: p'.2) best else best) :: rest
  | _, p :: _ => [(g + p.1, 32 :: p.2)]
  | _, [] => []

/-- With no expected event left every observed event of a tail stays unpaired. -/
def assignBase (g : Nat) : List (Nat × Nat) → List Choice
  | [] => [(0, [])]
  | _ :: os =>
    match assignBase g os with
    | [] => []
    | c :: cs => (g + c.1, []) :: c :: cs

/-- Events numbered from `n`, with their times. -/
def numbered : List Drop → Nat → List (Nat × Nat)
  | [], _ => []
  | d :: ds, n => (n, d.t) :: numbered ds (n + 1)

/-- The list a_0 to a_{m−1} of the assignment of least cost, 32 for an unpaired expected event (R324). Both lists are in
time order, so that exchanging the partners of two pairs that cross never costs more, keeps the gate and makes the list
smaller: a choice without crossings is the one sought (notes/assumptions/16.md). -/
def assign (g : Nat) (exps obs : List Drop) : List Nat :=
  match exps.foldr (fun e prev => assignRow g e.t (numbered obs 0) prev) (assignBase g (numbered obs 0)) with
  | c :: _ => c.2
  | [] => []

/-! ### Batches (R321, R322, R332) -/

/-- A batch's share of a buffer: the earliest events at or before `tj`, at most 32. -/
def batchOf (tj : Nat) (l : List Drop) : List Drop := (l.filter (fun d => d.t ≤ tj)).take 32

/-- What stays in the buffer. -/
def batchRest (tj : Nat) (l : List Drop) : List Drop :=
  (l.filter (fun d => d.t ≤ tj)).drop 32 ++ l.filter (fun d => tj < d.t)

/-- Events put back into their buffer. -/
def putBack (ds l : List Drop) : List Drop := ds.foldr insertDrop l

/-- Build the batch of row `r` at the close `tj`; a batch of the row still queued is rebuilt with it (R322, R332). -/
def State.buildBatch (s : State) (tj : Nat) (r : Fin 24) : State :=
  let x := s.sol.rows[r]
  let late := x.batch.isSome
  let exps := putBack ((x.batch.map (·.exps)).getD []) x.exps
  let obs := putBack ((x.batch.map (·.obs)).getD []) x.obs
  let many := 32 < (exps.filter (fun d => d.t ≤ tj)).length || 32 < (obs.filter (fun d => d.t ≤ tj)).length
  let b : Batch := ⟨tj, (s.rd A.SOL_GMAX).toNat, batchOf tj exps, batchOf tj obs⟩
  let s := s.modRow r (fun x => { x with exps := batchRest tj exps, obs := batchRest tj obs, batch := some b })
  let s := if many then s.satInc (A.SOL_BATCHOVF r.val) else s
  if late then (s.satInc A.SOL_LATECNT).raise evSOLVER_LATE (w16 r.val) 0
  else s.modSol (fun o => { o with queue := o.queue ++ [r.val] })

/-- The rows that exist (R317). -/
def State.rowList (s : State) : List (Fin 24) := (List.finRange 24).filter (fun r => r.val < s.rowCount)

/-- A close: one batch for each row, in row order; a written epoch takes effect after it (R321). -/
def epochClose (s : State) : State :=
  let tj := s.sol.next
  let s := s.each s.rowList (fun s r => s.buildBatch tj r)
  let a := field (s.rd A.SOL_CTL) 6 0
  s.modSol (fun o => { o with epoch := a, next := tbNext tj (1000 * a) })

/-- ASSOCIATION_EPOCH_CLOSE (R321). -/
def execAssociationEpochClose (s : State) : Host.Outcome State Fault Refusal :=
  .next (if s.solOn && decide (s.sol.next ≤ s.clk.ticks) then epochClose s else s)

/-- The free solver takes the front batch of its queue (R332). -/
def solveStart (s : State) : State :=
  match s.sol.queue with
  | [] => s
  | n :: q =>
    let r := fin24 n
    match s.sol.rows[r].batch with
    | none => s.modSol (fun o => { o with queue := q })
    | some b => (s.modRow r (fun x => { x with batch := none })).modSol (fun o => { o with queue := q, solving := some (n, b) })

/-- A SELF_TEST of the solver runs (R332, R462). -/
def State.testsSolver (s : State) : Bool :=
  match s.running opSELF_TEST with
  | none => false
  | some i => bit (s.ops.slots[i].param 0) 11

/-- SOLVE_START (R332): the solver is on, free and not paused. -/
def execSolveStart (s : State) : Host.Outcome State Fault Refusal :=
  .next (if s.solOn && s.sol.solving.isNone && !s.sol.paused && !s.testsSolver then solveStart s else s)

/-! ### Resolution (R326) -/

/-- How an event of a batch is resolved: an expected event with the error of its match, a skip or carried; an observed one
with its partner, an extra or carried. -/
inductive Fate
  | matched (partner : Nat) (err : Int)
  | alone
  | carried
  deriving DecidableEq, Repr

/-- An unpaired event is carried once, when it lies after t_j − G (R326). -/
def Batch.lone (b : Batch) (d : Drop) : Fate := if !d.carried && b.tj < d.t + b.gate then .carried else .alone

/-- The expected events with their fates. -/
def Batch.expFates (b : Batch) (a : List Nat) : List (Drop × Fate) :=
  (b.exps.zip a).map (fun p =>
    match b.obs[p.2]? with
    | some o => (p.1, .matched p.2 ((o.t : Int) - p.1.t))
    | none => (p.1, b.lone p.1))

/-- The expected event paired with observed event `o`. -/
def partnerOf (o : Nat) : List Nat → Nat → Option Nat
  | [], _ => none
  | x :: xs, e => if x = o then some e else partnerOf o xs (e + 1)

/-- The observed events with their fates. -/
def Batch.obsFates (b : Batch) (a : List Nat) : List (Drop × Fate) :=
  (numbered b.obs 0).zip b.obs |>.map (fun p =>
    match partnerOf p.1.1 a 0 with
    | some e => (p.2, .matched e 0)
    | none => (p.2, b.lone p.2))

/-- A fate is a match. -/
def Fate.isMatch : Fate → Bool
  | .matched _ _ => true
  | _ => false

/-- How many events share a fate. -/
def countFate (p : Fate → Bool) (l : List (Drop × Fate)) : Nat := (l.filter (fun x => p x.2)).length

/-- The errors of the matches. -/
def errorsOf (l : List (Drop × Fate)) : List Int :=
  l.filterMap (fun p => match p.2 with
    | .matched _ e => some e
    | _ => none)

/-- Put carried events back into their buffers, at whose bound they are dropped like new ones (R326, R333). -/
def State.carryExp (s : State) (r : Fin 24) (d : Drop) : State :=
  if s.sol.rows[r].exps.length < 64 then s.modRow r (fun x => { x with exps := insertDrop { d with carried := true } x.exps })
  else (s.satInc (A.SOL_EXPOVF r.val)).raise evSEED_OVF (w16 r.val) 1

def State.carryObs (s : State) (r : Fin 24) (d : Drop) : State :=
  if s.sol.rows[r].obs.length < 64 then s.modRow r (fun x => { x with obs := insertDrop { d with carried := true } x.obs })
  else (s.satInc (A.SOL_SEEDOVF r.val)).raise evSEED_OVF (w16 r.val) 0

/-- The carried events of a list of fates. -/
def carriedOf (l : List (Drop × Fate)) : List Drop := (l.filter (fun p => p.2 == .carried)).map (·.1)

/-! ### Spacing (R328) -/

/-- I_nom at an observed time: the interval between the two latest expected events produced at or before it. -/
def SolRow.nominal (x : SolRow) (t : Nat) : Option Nat :=
  match x.made.filter (fun p => p.1 ≤ t) with
  | a :: b :: _ => some (timeGap a.2 b.2)
  | _ => none

/-- Bin `k` one more. -/
def bumpBin (h : List Nat) (k : Nat) : List Nat := h.set k ((h[k]?.getD 0) + 1)

/-- A resolved observed event at `t` gives a spacing ratio to the window (R328). A ratio below 0 has no stated bin, and an
interval of 0 no stated ratio (notes/assumptions/16.md). -/
def State.spacing (s : State) (r : Fin 24) (t : Nat) : State :=
  let x := s.sol.rows[r]
  let s := match x.lastObs, x.nominal t with
    | some t0, some (n + 1) =>
      let q : Rat := ((t : Int) - t0 : Int) / (n + 1 : Nat)
      let k := min 15 (8 * q).floor
      let sk : State × Nat := if k < 0 then s.freeUpTo 15 else (s, k.toNat)
      sk.1.modRow r (fun x =>
        let mid := decide (1 ≤ 2 * q) && decide (2 * q < 3)
        { x with
          wH := bumpBin x.wH sk.2, wN := if mid then x.wN + 1 else x.wN
          wQ := if mid then x.wQ + q else x.wQ, wQ2 := if mid then x.wQ2 + q * q else x.wQ2 })
    | _, _ => s
  s.modRow r (fun x => { x with lastObs := some t })

/-! ### Blocked row (R331) -/

/-- A resolved observed event ends a run of skips. -/
def State.runObs (s : State) (r : Fin 24) : State :=
  (s.wr (A.SOL_RUNSKIP r.val) 0).modRow r (fun x => { x with blocked := false })

/-- One more skip in the run; the row is blocked when the run reaches SOL_BLOCK.n. -/
def State.runSkip (s : State) (r : Fin 24) : State :=
  let s := s.satInc (A.SOL_RUNSKIP r.val)
  let n := field (s.rd A.SOL_BLOCK) 7 0
  if n ≠ 0 ∧ n ≤ (s.rd (A.SOL_RUNSKIP r.val)).toNat ∧ !s.sol.rows[r].blocked then
    (s.modRow r (fun x => { x with blocked := true })).raise evSEED_BLOCK (w16 r.val) 0
  else s

/-- The resolved events of a batch in time order, the expected of equal times first: an observed event (true) or a skip. -/
def insertRun (t : Nat) (o : Bool) : List (Nat × Bool) → List (Nat × Bool)
  | [] => [(t, o)]
  | (u, x) :: l => if t < u ∨ (t = u ∧ !o) then (t, o) :: (u, x) :: l else (u, x) :: insertRun t o l

def runOf (es os : List (Drop × Fate)) : List (Nat × Bool) :=
  let skips := (es.filter (fun p => p.2 == .alone)).map (fun p => p.1.t)
  let seen := (os.filter (fun p => p.2 != .carried)).map (fun p => p.1.t)
  skips.foldr (fun t l => insertRun t false l) (seen.foldr (fun t l => insertRun t true l) [])

/-! ### Results of a row (R327, R329, R330) -/

/-- Add to a cumulative 32-bit counter. -/
def State.addQ2 (s : State) (a n : Nat) : State := s.wrQ a 2 ((s.rdQ2 a + n) % 2 ^ 32)

/-- A ratio in 1/10,000, to the nearest, at most 10,000; 0 where E = 0 (R329). -/
def State.rate (s : State) (a n e : Nat) : State :=
  if e = 0 then s.wr a 0
  else
    match s.round ((n : Rat) * 10000 / e) with
    | (s, v) => s.wr a (w16 (min 10000 v.toNat))

/-- Publish the window and start a new one (R329). -/
def State.publishWindow (s : State) (r : Fin 24) : State :=
  let x := s.sol.rows[r]
  let s := ((s.rate (A.SOL_RATES r.val 0) x.wM x.wE).rate (A.SOL_RATES r.val 1) x.wS x.wE).rate
    (A.SOL_RATES r.val 2) x.wX x.wE
  let s :=
    if x.wN < 2 ∨ x.wQ = 0 then (s.wr (A.SOL_RATES r.val 3) 0).wr (A.SOL_RATES r.val 4) 0
    else
      let m := x.wQ / x.wN
      let var := x.wQ2 / x.wN - m * m
      match s.roundSqrt (var * 1000000 / (m * m)) with
      | (s, cv) =>
        match s.round (m * 1000) with
        | (s, qm) =>
          (s.wr (A.SOL_RATES r.val 3) (w16 (min 10000 cv))).wr (A.SOL_RATES r.val 4) (w16 (min 10000 qm.toNat))
  let s := s.wrs (A.SOL_HIST r.val 0) ((List.range 16).map (fun k => w16 (satU (x.wH[k]?.getD 0))))
  let s := s.wrapInc (A.SOL_WINCNT r.val)
  s.modRow r (fun x =>
    { x with wE := 0, wM := 0, wS := 0, wX := 0, wN := 0, wQ := 0, wQ2 := 0, wH := List.replicate 16 0 })

/-- SOL_FEST of a row: F_r in whole 10 µs (R330). -/
def State.fest (s : State) (r : Fin 24) : Word := w16 (satU (s.sol.rows[r].fall / 10).floor.toNat)

/-- The fall-time estimate moves by the mean error of the matches (R330). -/
def State.adapt (s : State) (r : Fin 24) (mean : Rat) : State :=
  let k := field (s.rd A.SOL_ADAPT) 11 8
  if k = 0 then s
  else
    let base : Rat := 10 * (s.rd (A.SOL_FALL r.val)).toNat
    let win : Rat := 1000 * field (s.rd A.SOL_ADAPT) 7 0
    let f := s.sol.rows[r].fall + mean / (2 ^ k : Nat)
    let f' := clampQ (base - win) (base + win) f
    let s := s.modRow r (fun x => { x with fall := f' })
    if f = f' ∨ bit (s.rd (A.SOL_RSTAT r.val)) 13 then s
    else (s.setFlags (A.SOL_RSTAT r.val) 0x2000).raise evFALL_LIM (w16 r.val) (s.fest r)

/-- SOL_LAST of a row (R327); with no match the mean and the RMS have no stated value. -/
def State.lastResults (s : State) (r : Fin 24) (m k : Nat) (errs : List Int) : State :=
  let s := (s.wr (A.SOL_LAST_N r.val) (w16 (256 * m + k))).wr (A.SOL_LAST_M r.val) (w16 errs.length)
  let n : Rat := errs.length
  if errs.isEmpty then
    (s.took.took.wr (A.SOL_LAST_ERR r.val) (Config.freeWord s.free)).wr (A.SOL_LAST_RMS r.val) (Config.freeWord (s.free + 1))
  else
    match s.round ((errs.sum : Int) / n) with
    | (s, e) =>
      match s.roundSqrt (((errs.map (fun x => x * x)).sum : Int) / n) with
      | (s, q) =>
        (s.wr (A.SOL_LAST_ERR r.val) (wInt (clampI (-32767) 32767 e))).wr (A.SOL_LAST_RMS r.val) (w16 (min 32767 q))

/-- The trace word of an expected and of an observed event (Table DROP-7). -/
def Fate.expTrace : Fate → Word
  | .matched _ e => wInt (clampI (-32767) 32767 e)
  | .alone => 0x8000
  | .carried => 0x8001

def Fate.obsTrace : Fate → Word
  | .matched p _ => w16 p
  | .alone => 0x8000
  | .carried => 0x4000

/-- The trace of the row that SOL_TRACE names (Table DROP-7). -/
def State.trace (s : State) (r : Fin 24) (es os : List (Drop × Fate)) : State :=
  let c := s.rd A.SOL_TRACE
  if bit c 15 ∧ field c 4 0 = r.val then
    let pad (l : List Word) : List Word := (l ++ List.replicate 32 0).take 32
    ((s.wrs (A.SOL_TRACE_E 0) (pad (es.map (·.2.expTrace)))).wrs (A.SOL_TRACE_O 0) (pad (os.map (·.2.obsTrace)))).wr
      A.SOL_TRACE_N (w16 (32768 + 256 * es.length + os.length))
  else s

/-- Produced expected events that no observed event still to be resolved can look back past (R328). -/
def State.pruneMade (s : State) (r : Fin 24) : State :=
  s.modRow r (fun x =>
    let obs := x.obs ++ ((x.batch.map (·.obs)).getD [])
    let t := obs.foldl (fun m d => min m d.t) s.clk.ticks
    { x with made := x.made.filter (fun p => t < p.1) ++ (x.made.filter (fun p => p.1 ≤ t)).take 2 })

/-- Publish a solved batch (R326 to R331). -/
def State.publish (s : State) (r : Fin 24) (b : Batch) : State :=
  let a := assign b.gate b.exps b.obs
  let es := b.expFates a
  let os := b.obsFates a
  let errs := errorsOf es
  let skips := countFate (· == .alone) es
  let extras := countFate (· == .alone) os
  let s := s.each (carriedOf es) (fun s d => s.carryExp r d)
  let s := s.each (carriedOf os) (fun s d => s.carryObs r d)
  let s := s.lastResults r b.exps.length b.obs.length errs
  let s := (((s.addQ2 (A.SOL_CNT r.val 0) (errs.length + skips)).addQ2 (A.SOL_CNT r.val 2) errs.length).addQ2
    (A.SOL_CNT r.val 4) skips).addQ2 (A.SOL_CNT r.val 6) extras
  let s := s.modRow r (fun x =>
    { x with wE := x.wE + errs.length + skips, wM := x.wM + errs.length, wS := x.wS + skips, wX := x.wX + extras })
  let s := s.each ((os.filter (fun p => p.2 != .carried)).map (·.1.t)) (fun s t => s.spacing r t)
  let s := s.each (runOf es os) (fun s p => if p.2 then s.runObs r else s.runSkip r)
  let s := if (s.rd A.SOL_WIN).toNat ≤ s.sol.rows[r].wE then s.publishWindow r else s
  let s := if errs.isEmpty then s else s.adapt r ((errs.sum : Int) / (errs.length : Rat))
  ((s.trace r es os).wrapInc (A.SOL_EPOCHCNT r.val)).pruneMade r

/-- A failed self-check, or a double-bit error in the solver RAM, discards the batch; the working store is being cleared
until SOLVER_STORE_CLEARED (R336). -/
def State.solverFault (s : State) (r : Nat) : State :=
  let s := s.modSol (fun o => { o with solving := none, paused := true })
  (s.satInc A.SOL_FAULTCNT).raise evSOL_FAULT (w16 r) 0

/-- A solve ends: `dur` is its length in 100 ns (Table DROP-5). -/
def solveDone (ok : Bool) (dur : Word) (s : State) : State :=
  match s.sol.solving with
  | none => s
  | some (n, b) =>
    let s := s.wr A.SOL_TMAX (w16 (max (s.rd A.SOL_TMAX).toNat dur.toNat))
    if ok then (s.modSol (fun o => { o with solving := none })).publish (fin24 n) b else s.solverFault n

/-- SOLVE_DONE (R327, R336). -/
def execSolveDone (ok : Bool) (dur : Word) (s : State) : Host.Outcome State Fault Refusal :=
  .next (if s.solOn then solveDone ok dur s else s)

/-- SOLVER_STORE_CLEARED (R336): the solver goes on. -/
def execSolverStoreCleared (s : State) : Host.Outcome State Fault Refusal :=
  .next (if s.solOn then s.modSol (fun o => { o with paused := false }) else s)

/-! ### Clears and registers (R330, R339) -/

/-- SOL_CLR bit 0: the cumulative counters. -/
def solClrCounters (r : Fin 24) (s : State) : State := s.wrs (A.SOL_CNT r.val 0) (List.replicate 8 0)

/-- SOL_CLR bit 1: the window. -/
def solClrWindow (r : Fin 24) (s : State) : State :=
  s.modRow r (fun x =>
    { x with wE := 0, wM := 0, wS := 0, wX := 0, wN := 0, wQ := 0, wQ2 := 0, wH := List.replicate 16 0 })

/-- SOL_CLR_COUNTERS (R339); a row that does not exist has no counters (R317). -/
def execSolClrCounters (r : Fin 24) (s : State) : Host.Outcome State Fault Refusal :=
  .next (s.whenHost (fun s => if s.solOn && r.val < s.rowCount then solClrCounters r s else s))

/-- SOL_CLR_WINDOW (R339). -/
def execSolClrWindow (r : Fin 24) (s : State) : Host.Outcome State Fault Refusal :=
  .next (s.whenHost (fun s => if s.solOn && r.val < s.rowCount then solClrWindow r s else s))

/-- A write of SOL_FALL_r sets F_r (R330). -/
def State.setFall (s : State) (r : Fin 24) : State :=
  s.modRow r (fun x => { x with fall := 10 * (s.rd (A.SOL_FALL r.val)).toNat })

/-- D_SOL has come on (R43, R338). -/
def State.solStart (s : State) : State :=
  let a := field (s.rd A.SOL_CTL) 6 0
  let s := s.each (List.finRange 24) (fun s r =>
    ((s.clearRange (A.SOL_FEST r.val) (A.SOL_PHASE r.val)).clearRange (A.SOL_RSTAT r.val) (A.SOL_RSTAT r.val + 0x3d)).modRow r
      (fun _ => { SolRow.reset with fall := 10 * (s.rd (A.SOL_FALL r.val)).toNat }))
  let s := (((s.wr A.SOL_LATECNT 0).wr A.SOL_FAULTCNT 0).wr A.SOL_TMAX 0).clearRange (A.SOL_TRACE_E 0) 0x1F41
  s.modSol (fun o => { Solver.reset with rows := o.rows, epoch := a, next := tbNext s.clk.ticks (1000 * a) })

end Sys2Proof.Machine
end

