-- ==== Sys2Proof/Machine/Store.lean ====
section
/-! DEFINITION. Sys2Proof/Machine/Store.lean: the journal store (R387 to R414). The array is as the bursts leave it; what the
journal holds is always read from the array. A compaction step is taken burst by burst, so that appends go between its
bursts (R403). -/
namespace Sys2Proof.Machine

/-! ### The array (R387 to R391) -/

/-- The marker M (R389). -/
def markerM : Nat := 0x3C3CA5A5

/-- The byte address of a sector. -/
def secBase (s : Nat) : Nat := 4096 * s

/-- The journal sectors (Table STORE-1). -/
def jSectors : List Nat := (List.range 160).map (· + 64)

/-- Bytes of the store array; an erased byte reads 0xFF. -/
def State.arr (s : State) (a n : Nat) : List Byte := cellRds 0xFF s.store.mem a n

/-- A 32-bit field of the array. -/
def State.arr32 (s : State) (a : Nat) : Nat := leNat (s.arr a 4)

/-- A sector in which every byte reads 0xFF. -/
def State.secErased (s : State) (n : Nat) : Bool :=
  s.store.mem.all (fun c => c.1 < secBase n || secBase (n + 1) ≤ c.1)

/-- Phase 1 of a sector header is good: magic and header CRC (R405). -/
def State.phase1 (s : State) (n : Nat) : Bool :=
  s.arr (secBase n) 4 == [0x4A, 0x53, 0x45, 0x43] && s.arr32 (secBase n + 12) == crc32 (s.arr (secBase n) 12)

/-- A sector that holds valid records: open marker set, release marker not set (R389, R405). -/
def State.secValid (s : State) (n : Nat) : Bool :=
  s.phase1 n && s.arr32 (secBase n + 16) == markerM && s.arr32 (secBase n + 20) != markerM

/-- The size of a record of `n` payload words (R390). -/
def recSize (n : Nat) : Nat := 16 + 4 * ((n + 1) / 2)

/-- A record as it lies in the array: its byte address, key, payload words, sequence number, whether its marker is set and
whether its CRC matches (R390, R391). -/
structure RecAt where
  addr : Nat
  key : Nat
  n : Nat
  seq : Nat
  mark : Bool
  crcOk : Bool
  deriving DecidableEq, Repr

/-- A committed record (R391). -/
def RecAt.ok (x : RecAt) : Bool := x.mark && x.crcOk

/-- The marker at a byte address is being programmed: it is not set yet (R389, R396). -/
def State.marking (s : State) (a : Nat) : Bool := s.store.burst.isSome && !s.store.gateWait && s.store.span == (a, 4)

/-- The record at a byte address, if its header can be read and it fits in its sector. -/
def State.recAt (s : State) (a : Nat) : Option RecAt :=
  let k := leNat (s.arr a 2)
  let n := leNat (s.arr (a + 2) 1)
  let size := recSize n
  if leNat (s.arr (a + 3) 1) ≠ 0x4A ∨ 128 < n ∨ k / 1024 % 32 ≠ 0 ∨ 4096 < a % 4096 + size then none
  else
    some ⟨a, k % 1024, n, s.arr32 (a + 4), s.arr32 (a + size - 4) == markerM && !s.marking (a + size - 4),
      s.arr32 (a + size - 8) == crc32 (s.arr a (size - 8))⟩

/-- The records of a sector from an address on, where the scan stopped, and whether it stopped at an unreadable header
(R405). -/
def State.scan (s : State) : Nat → Nat → List RecAt × Nat × Bool
  | 0, a => ([], a, false)
  | fuel + 1, a =>
    if a % 4096 = 0 ∨ 4080 < a % 4096 then ([], a, false)
    else
      match s.recAt a with
      | none => ([], a, s.arr a 8 != List.replicate 8 0xFF)
      | some x =>
        let r := s.scan fuel (a + recSize x.n)
        (x :: r.1, r.2)

/-- The records of a sector. -/
def State.secScan (s : State) (n : Nat) : List RecAt × Nat × Bool := s.scan 256 (secBase n + 32)

/-- Every record of the valid journal sectors. -/
def State.allRecs (s : State) : List RecAt := (jSectors.filter s.secValid).flatMap (fun n => (s.secScan n).1)

/-- Sequence number `a` is above `b`: signed difference modulo 2^32 (R391). -/
def seqAbove (a b : Nat) : Bool := 0 < s32 (a + 2 ^ 32 - b % 2 ^ 32)

/-- The committed record of the highest sequence number of a key (R391). -/
def newestOf (l : List RecAt) (key : Nat) : Option RecAt :=
  (l.filter (fun x => x.ok && x.key == key)).foldl (fun m x => match m with
    | none => some x
    | some y => if seqAbove x.seq y.seq then some x else some y) none

/-- The record that gives a key's value; none for a key without a value (R391). -/
def State.valueOf (s : State) (key : Nat) : Option RecAt := (newestOf s.allRecs key).filter (fun x => x.n != 0)

/-- The payload of a record. -/
def State.payload (s : State) (x : RecAt) : List Word :=
  (List.range x.n).map (fun i => w16 (leNat (s.arr (x.addr + 8 + 2 * i) 2)))

/-- A record is live: it gives its key's value (R391, R401). A tombstone gives none (notes/assumptions/17.md). -/
def liveIn (l : List RecAt) (x : RecAt) : Bool :=
  x.ok && x.n != 0 && !l.any (fun y => y.ok && y.key == x.key && seqAbove y.seq x.seq)

/-- Erased journal sectors: neither retired nor waiting for their erase (R405, R412). -/
def State.erasedSecs (s : State) : List Nat :=
  jSectors.filter (fun n => s.secErased n && !s.store.retired.contains n && !s.store.toErase.contains n &&
    !(s.store.comp.any (fun c => c.erasing && c.victim == n)))

/-- STORE_FREE: erased journal sectors outside the reserve of two (R398). -/
def State.storeFree (s : State) : Nat := s.erasedSecs.length - 2

/-- The erase count of a journal sector. -/
def State.wearOf (s : State) (n : Nat) : Nat := s.store.wear.toList[n - 64]?.getD 0

/-! ### The bytes of a record -/

/-- The bytes of a record without its marker (Table STORE-3). -/
def recBytes (key : Nat) (copy : Bool) (ws : List Word) (seq : Nat) : List Byte :=
  let body := leBytes 2 (key + 32768 * b2n copy) ++ leBytes 1 ws.length ++ [0x4A] ++ leBytes 4 seq ++ wordBytes ws ++
    (if ws.length % 2 = 1 then [0, 0] else [])
  body ++ leBytes 4 (crc32 body)

/-! ### The energy gate (R399) -/

/-- E_burst of a burst of `n` bytes in mJ. -/
def burstCost (n : Nat) : Nat := (n + 255) / 256

/-- The gate is open for a burst that costs `c` mJ. -/
def State.gateOpen (s : State) (c : Nat) : Bool := 10 + (s.rd A.PWR_EMARGIN).toNat + c ≤ (s.rd A.PWR_ESTORED).toNat

/-- E_JQ (R399). -/
def State.ejq (s : State) : Nat :=
  s.store.jq.length * burstCost (recSize 8) + ((s.store.stage.map (fun h => burstCost (recSize h.words.length))).getD 0)

/-! ### What waits to be appended (R397, R398) -/

/-- The item whose turn comes next. -/
inductive Item
  | event (e : JEvent)
  | host (h : HostStage)
  deriving DecidableEq, Repr

/-- The store's flush runs: from t0 + 40 µs to its end (R371, R374). -/
def State.flushing (s : State) : Bool := !s.pwr.flushed && 5 ≤ s.pwr.step

/-- The next item: in order of arrival (R398); in the flush the journal queue before the stage (R407). -/
def State.nextItem (s : State) : Option Item :=
  match s.store.jq, s.store.stage with
  | e :: _, some h => if s.flushing || e.order < h.order then some (.event e) else some (.host h)
  | e :: _, none => some (.event e)
  | [], some h => some (.host h)
  | [], none => none

/-- The key of an item. -/
def State.itemKey (s : State) : Item → Nat
  | .event _ => 896 + field (s.rd A.STORE_JEVN) 6 0
  | .host h => h.key

/-- The payload of an item: an event record ends with the count of lost event records (R397). -/
def State.itemWords (s : State) : Item → List Word
  | .event e => e.words ++ [(e.put.map (fun p => p.2)).getD (w16 (satU s.store.lost))]
  | .host h => h.words

/-- The state of an item (Table STORE-4). -/
def State.itemSt (s : State) : Item → WState
  | .event e => e.st
  | .host _ => s.store.wst

/-- Its COMMIT_DEFER has been raised. -/
def Item.told : Item → Bool
  | .event e => e.told
  | .host h => h.told

/-- The front event record and the stage changed. -/
def State.modFront (s : State) (f : JEvent → JEvent) : State :=
  s.modStore (fun t => match t.jq with
    | e :: r => { t with jq := f e :: r }
    | [] => t)

def State.modStage (s : State) (f : HostStage → HostStage) : State := s.modStore (fun t => { t with stage := t.stage.map f })

/-- The state of the item whose turn it is becomes `w`. -/
def State.setItem (s : State) (it : Item) (w : WState) : State :=
  match it with
  | .event _ => s.modFront (fun e => { e with st := w })
  | .host _ => s.modStore (fun t => { t with wst := w })

/-- A closed gate defers an item (R399). -/
def State.deferItem (s : State) (it : Item) : State :=
  let d0 := w16 (s.itemKey it)
  let d1 := w16 (s.itemWords it).length
  let s := s.setItem it .deferred
  if it.told then s
  else
    let s := match it with
      | .event _ => s.modFront (fun e => { e with told := true })
      | .host _ => s.modStage (fun h => { h with told := true })
    (s.satInc A.STORE_DEFCNT).raise evCOMMIT_DEFER d0 d1

/-- An item finds no room: it goes BUSY (R394, R403). -/
def State.busyItem (s : State) (it : Item) : State :=
  ((s.setItem it .busy).satInc A.STORE_BUSYCNT).raise evSTORE_BUSY (w16 (s.itemKey it)) 0


/-- An item waits for room. -/
def State.anyBusy (s : State) : Bool := s.store.wst == .busy || s.store.jq.any (fun e => e.st == .busy)

/-! ### Programming (R398, R400) -/

/-- Program bytes at an address; the burst is to be verified. -/
def State.program (s : State) (a : Nat) (bs : List Byte) (b : Burst) : State :=
  s.modStore (fun t => { t with mem := cellWrs 0xFF t.mem a bs, burst := some b, span := (a, bs.length) })

/-- A burst that is cut short, or does not read back, has programmed its bytes up to a free place, at most the first `n`; the rest
still read erased (R404, R412; DESIGN CHOICE, notes/assumptions/34.md). -/
def State.tear (s : State) (n : Nat) : State :=
  match s.freeUpTo n with
  | (s, k) =>
    s.modStore (fun t => { t with mem := cellWrs 0xFF t.mem (t.span.1 + k) (List.replicate (t.span.2 - k) 0xFF) })

/-- Erase the bytes of a sector. -/
def State.eraseBytes (s : State) (n : Nat) : State :=
  s.modStore (fun t => { t with mem := t.mem.filter (fun c => c.1 < secBase n || secBase (n + 1) ≤ c.1) })

/-- The head can take a record of `n` bytes. -/
def State.headFits (s : State) (n : Nat) : Option Nat :=
  match s.store.head with
  | none => none
  | some h => if s.store.sealed || 4096 < s.store.pos + n then none else some h

/-- The erased sectors of the lowest erase count (R398). -/
def State.leastWorn (s : State) (l : List Nat) : List Nat :=
  l.filter (fun n => l.all (fun m => s.wearOf n ≤ s.wearOf m))

/-- Open a fresh sector: phase 1 of its header is programmed (R398). -/
def State.openSector (s : State) (n : Nat) (comp : Bool) : State :=
  let h := [0x4A, 0x53, 0x45, 0x43] ++ leBytes 4 s.store.secSeq ++ leBytes 4 (s.wearOf n)
  let s := s.program (secBase n) (h ++ leBytes 4 (crc32 h)) (.header n comp (some (secBase n + 16)))
  s.modStore (fun t => { t with secSeq := (t.secSeq + 1) % 2 ^ 32 })

/-- Program a record at the head without its marker. -/
def State.putRecord (s : State) (h : Nat) (bs : List Byte) (b : Nat → Burst) : State :=
  let a := secBase h + s.store.pos
  (s.program a bs (b (a + bs.length))).modStore (fun t => { t with pos := t.pos + bs.length + 4 })

/-- An event record takes its sequence number and its word 7 when it is first programmed. -/
def State.takeSeq (s : State) (it : Item) : State × Nat :=
  match it with
  | .host h => (s, h.seq)
  | .event e =>
    match e.put with
    | some p => (s, p.1)
    | none =>
      let n := s.store.seq
      let w := w16 (satU s.store.lost)
      ((s.modFront (fun e => { e with put := some (n, w) })).modStore (fun t => { t with seq := (n + 1) % 2 ^ 32 }), n)

/-- The next record, or the smallest where none waits, fits in the head or in an erased sector outside the reserve (R398). -/
def State.hasRoom (s : State) : Bool :=
  (s.headFits ((s.nextItem.map (fun it => recSize (s.itemWords it).length)).getD (recSize 0))).isSome || 2 < s.erasedSecs.length

/-- Where a step has made room, the items that waited for it are pending again (R394). -/
def State.wakeBusy (s : State) : State :=
  if s.hasRoom then
    s.modStore (fun t =>
      { t with
        wst := if t.wst = .busy then .pending else t.wst
        jq := t.jq.map (fun e => if e.st = .busy then { e with st := .pending } else e) })
  else s

/-- Begin the erase of a marked sector (R405). -/
def State.startErase (s : State) (n : Nat) : State :=
  if s.gateOpen 2 then
    (s.eraseBytes n).modStore (fun t =>
      { t with toErase := t.toErase.filter (· != n), comp := some ⟨n, [], true, true, .cleanup, false⟩ })
  else s

/-- The stage is done with (Table STORE-4). -/
def State.endStage (s : State) (w : WState) : State := s.modStore (fun t => { t with wst := w, stage := none })

/-- The first free burst of an append: a marked sector is erased, the record is programmed at the head, or a fresh sector is
opened; without room the item goes BUSY (R394, R398, R403, R405). -/
def State.appendItem (s : State) (it : Item) : State :=
  let ws := s.itemWords it
  let size := recSize ws.length
  if s.store.comp.any (fun c => c.why == .cleanup) then s
  else
    match s.store.toErase with
    | n :: _ => if s.gateOpen 2 then (if s.store.comp.isSome then s else s.startErase n) else s.deferItem it
    | [] =>
      match s.headFits size with
      | some h =>
        if s.gateOpen (burstCost size) then
          match s.takeSeq it with
          | (s, n) =>
            let host := match it with
              | .host _ => true
              | .event _ => false
            s.putRecord h (recBytes (s.itemKey it) false ws n) (fun m => .record host h (some m))
        else s.deferItem it
      | none =>
        if s.erasedSecs.length ≤ 2 then s.busyItem it
        else if s.gateOpen 1 then
          match s.pick (s.leastWorn s.erasedSecs) with
          | (s, some n) => s.openSector n false
          | (s, none) => s
        else s.deferItem it

/-- The turn of the next item (R398): a delete of a key without a value completes without programming (R395). -/
def storeAppend (s : State) : State :=
  match s.nextItem with
  | none => s
  | some it =>
    if s.itemSt it ≠ .pending then s
    else
      match it with
      | .host h => if h.words.isEmpty && (s.valueOf h.key).isNone then s.endStage .committed else s.appendItem it
      | .event _ => s.appendItem it

/-- The bursts that compaction programs (R401). -/
def Burst.compacts : Burst → Bool
  | .copy _ _ => true
  | .header _ c _ => c
  | _ => false

/-- An append that is due while a marker of compaction waits at the closed gate is deferred too (R399, R403). -/
def State.appendLate (s : State) : State :=
  match s.nextItem with
  | none => s
  | some it =>
    if s.store.gateWait && s.store.burst.any Burst.compacts && s.itemSt it == .pending && !s.gateOpen 1 then s.deferItem it
    else s

/-- STORE_APPEND (R398, R403): the mount has ended and no burst is in progress; in the flush a compaction step in progress goes
first (R374, R407). -/
def execStoreAppend (s : State) : Host.Outcome State Fault Refusal :=
  .next (if s.pwr.core && !s.store.mounting && !(s.flushing && s.store.comp.isSome) then
      if s.store.burst.isNone then storeAppend s else s.appendLate
    else s)

/-! ### Verification (R400, R411, R412) -/

/-- A STORE_ERR with its sector and cause (R412, Table STORE-9). -/
def State.storeErr (s : State) (sector cause : Nat) : State :=
  (s.wr A.STORE_ERRLAST (w16 sector)).raise evSTORE_ERR (w16 sector) (w16 cause)

/-- Program the marker of the burst that has read back, or let it wait for the gate (R399, R400). -/
def State.startMarker (s : State) (a : Nat) (b : Burst) : State :=
  if s.gateOpen 1 then (s.program a (leBytes 4 markerM) b).modStore (fun t => { t with gateWait := false })
  else
    let s := s.modStore (fun t => { t with burst := some b, gateWait := true })
    match b, s.nextItem with
    | .record _ _ _, some it => s.deferItem it
    | .header _ false _, some it => s.deferItem it
    | _, _ => s

/-- The address of the marker a waiting burst programs: the end of what stands at the head, or of the header. -/
def State.markerAddr (s : State) : Burst → Nat
  | .record _ n _ => secBase n + s.store.pos - 4
  | .copy n _ => secBase n + s.store.pos - 4
  | .header n _ _ => secBase n + 16
  | .release n => secBase n + 20

/-- An item's record is committed (R394, R397). -/
def State.commitItem (s : State) (host : Bool) : State :=
  if host then s.endStage .committed
  else
    match s.store.jq with
    | [] => s
    | e :: r =>
      let w7 := (((e.put.map (fun p : Nat × Word => p.2)).getD 0 : Word)).toNat
      (s.wr A.STORE_JEVN (w16 ((field (s.rd A.STORE_JEVN) 6 0 + 1) % 128))).modStore (fun t =>
        { t with jq := r, lost := if w7 = 65535 then 0 else t.lost - w7 })

/-- A burst of an item fails: the head is sealed and the item is appended once more; a second failure ends it (R412). -/
def State.failItem (s : State) (host : Bool) (sector : Nat) : State :=
  let s := (s.modStore (fun t => { t with sealed := true })).storeErr sector 2
  if host then
    match s.store.stage with
    | none => s
    | some h => if h.tried then s.endStage .failed else s.modStage (fun h => { h with tried := true })
  else
    match s.store.jq with
    | [] => s
    | e :: r =>
      if e.tried then (s.satInc A.STORE_JLOST).modStore (fun t => { t with jq := r, lost := t.lost + 1 })
      else s.modFront (fun e => { e with tried := true })

/-- The item a failed header burst was for. -/
def State.failNext (s : State) (sector : Nat) : State :=
  match s.nextItem with
  | some (.host _) => s.failItem true sector
  | some (.event _) => s.failItem false sector
  | none => s.storeErr sector 2

/-- A step of compaction ends without its erase; COMPACT ends FAILED with STORE, or ABORTED where an abort waits (R143, R412,
Table HOST-9). -/
def State.failComp (s : State) : State :=
  let op := s.store.comp.any (fun c => c.why == .operation)
  let s := s.modStore (fun t => { t with comp := none })
  if op then
    match s.running opCOMPACT with
    | none => s
    | some i =>
      match s.ops.slots[i].abort with
      | some f => s.endSlot i .aborted f
      | none => s.endSlot i .failed failSTORE
  else s

/-- A burst of a copy fails: the head is sealed and the record is copied once more; a second failure ends the step (R412). -/
def State.failCopy (s : State) (sector : Nat) : State :=
  let s := (s.modStore (fun t => { t with sealed := true })).storeErr sector 2
  if s.store.comp.any (fun c => c.tried) then s.failComp
  else s.modStore (fun t => { t with comp := t.comp.map (fun c => { c with tried := true }) })

/-- A burst has read back right (R400). -/
def State.burstGood (s : State) (b : Burst) : State :=
  match b with
  | .record h n (some a) => s.startMarker a (.record h n none)
  | .record h _ none => (s.modStore (fun t => { t with burst := none })).commitItem h
  | .header n c (some a) => s.startMarker a (.header n c none)
  | .header n _ none => s.modStore (fun t => { t with burst := none, head := some n, pos := 32, sealed := false })
  | .copy n (some a) => s.startMarker a (.copy n none)
  | .copy _ none =>
    s.modStore (fun t => { t with burst := none, comp := t.comp.map (fun c => { c with todo := c.todo.drop 1, tried := false }) })
  | .release _ => s.modStore (fun t => { t with burst := none, comp := t.comp.map (fun c => { c with released := true }) })

/-- A burst has not read back right (R412): not all of its bytes stand in the array, and a sector whose header failed is marked
for erase. -/
def State.burstBad (s : State) (b : Burst) : State :=
  let s := (s.tear (s.store.span.2 - 1)).modStore (fun t => { t with burst := none })
  match b with
  | .record h n _ => s.failItem h n
  | .header n c _ =>
    let s := s.modStore (fun t => { t with toErase := t.toErase ++ [n] })
    if c then s.failCopy n else s.failNext n
  | .copy n _ => s.failCopy n
  | .release n => (s.storeErr n 2).failComp

/-- The erase of a sector ends: its erase count rises, or it is retired until the next mount, and items go on if there is room now
(R394, R401, R412). -/
def State.eraseDone (s : State) (c : Comp) (ok : Bool) : State :=
  let s := s.modStore (fun t =>
    { t with
      comp := none
      retired := if ok then t.retired else t.retired ++ [c.victim]
      wear := if h : c.victim - 64 < 160 then t.wear.set (c.victim - 64) (t.wear[c.victim - 64] + 1) else t.wear
      copied := if c.why = .operation then t.copied + 1 else t.copied })
  let s := s.modStore (fun t => { t with back := t.back && s.storeFree < field (s.rd A.STORE_COMPCFG) 15 8 })
  (if ok then s else s.storeErr c.victim 3).wakeBusy

/-- The burst in progress ends, or else the erase in progress (R400, R412). -/
def programBurstDone (ok : Bool) (s : State) : State :=
  match s.store.burst with
  | some b => if s.store.gateWait then s else if ok then s.burstGood b else s.burstBad b
  | none =>
    match s.store.comp with
    | some c => if c.erasing then s.eraseDone c ok else s
    | none => s

/-- PROGRAM_BURST_DONE (R400). -/
def execProgramBurstDone (ok : Bool) (s : State) : Host.Outcome State Fault Refusal := .next (programBurstDone ok s)

/-- At an update of E a waiting marker is programmed and a deferred item is pending again, if the gate is open for it (R394,
R399). -/
def State.retryGate (s : State) : State :=
  let s := match s.store.gateWait, s.store.burst with
    | true, some b =>
      if s.gateOpen 1 then
        (s.program (s.markerAddr b) (leBytes 4 markerM) b).modStore (fun t => { t with gateWait := false })
      else s
    | _, _ => s
  match s.nextItem with
  | none => s
  | some it =>
    let c := match s.headFits (recSize (s.itemWords it).length) with
      | some _ => burstCost (recSize (s.itemWords it).length)
      | none => 1
    let c := if s.store.burst.isSome then 1 else if s.store.toErase.isEmpty then c else 2
    if s.itemSt it = .deferred ∧ s.gateOpen c then s.setItem it .pending else s

/-! ### Compaction (R401 to R403) -/

/-- The sectors a step may reclaim: valid and not the head (R401). -/
def State.sealedSecs (s : State) : List Nat := jSectors.filter (fun n => s.secValid n && s.store.head != some n)

/-- The live bytes of a sector. -/
def State.liveBytes (s : State) (all : List RecAt) (n : Nat) : Nat :=
  (((s.secScan n).1.filter (liveIn all)).map (fun x => recSize x.n)).sum

/-- A sector holds dead bytes: a record that is not live, or a scan that stopped at an unreadable header. -/
def State.hasDead (s : State) (all : List RecAt) (n : Nat) : Bool :=
  (s.secScan n).1.any (fun x => !liveIn all x) || (s.secScan n).2.2

/-- The sectors that COMPACT still has to take (R402). -/
def State.deadSecs (s : State) : List Nat := let all := s.allRecs; s.sealedSecs.filter (s.hasDead all)

/-- The least of a list by a measure. -/
def leastBy (f : Nat → Nat) (l : List Nat) : List Nat := l.filter (fun n => l.all (fun m => f n ≤ f m))

/-- The victim among candidates: fewest live bytes, then lowest erase count (R401); what is then equal is free. -/
def State.victim (s : State) (l : List Nat) : State × Option Nat :=
  let all := s.allRecs
  s.pick (leastBy s.wearOf (leastBy (s.liveBytes all) l))

/-- The erase counts of the journal sectors differ by more than 4,096 (R402). -/
def State.wornApart (s : State) : Bool :=
  s.store.wear.toList.any (fun x => s.store.wear.toList.any (fun y => y + 4096 < x))

/-- Why a step would start now: an exhausted space, the operation COMPACT, or background compaction (R402, R403); in a
hand-over only the first (R407). -/
def State.compWhy (s : State) : Option CompWhy :=
  let op := match s.running opCOMPACT with
    | some i => s.ops.slots[i].abort.isNone
    | none => false
  if s.anyBusy then some .exhausted
  else if s.pwr.st ≠ .main then none
  else if (s.running opCOMPACT).isSome then (if op then some .operation else none)
  else if s.store.back then some .background
  else none

/-- Begin a step on its victim: the live records are to be copied (R401). -/
def State.startComp (s : State) (w : CompWhy) : State :=
  let r := match w with
    | .operation => s.victim s.deadSecs
    | .background =>
      if s.wornApart && s.hasRoom then s.pick (leastBy s.wearOf s.sealedSecs) else s.victim s.sealedSecs
    | _ => s.victim s.sealedSecs
  match r with
  | (s, none) => s
  | (s, some v) =>
    let all := s.allRecs
    let todo := ((s.secScan v).1.filter (liveIn all)).map (fun x => x.addr - secBase v)
    s.modStore (fun t => { t with comp := some ⟨v, todo, false, false, w, false⟩ })

/-- E_burst of the next burst of a running step: a copy at the head, or the header of a fresh sector for it; the release marker; the
erase (R399, R401). -/
def State.compCost (s : State) (c : Comp) : Nat :=
  match c.todo with
  | o :: _ =>
    match s.recAt (secBase c.victim + o) with
    | none => 0
    | some x => if (s.headFits (recSize x.n)).isSome then burstCost (recSize x.n) else 1
  | [] => if c.released then 2 else 1

/-- The gate refuses the next burst of a step that waits for it (R399). -/
def State.compHeld (s : State) : Bool :=
  s.store.burst.isNone && s.store.comp.any (fun c => !c.erasing && !s.gateOpen (s.compCost c))

/-- The next burst of a running step past the gate (R401): a copy at the head, which may open a reserve sector; the release marker;
the erase. -/
def State.compNext (s : State) (c : Comp) : State :=
  match c.todo with
  | o :: _ =>
    match s.recAt (secBase c.victim + o) with
    | none => s.modStore (fun t => { t with comp := t.comp.map (fun c => { c with todo := c.todo.drop 1 }) })
    | some x =>
      match s.headFits (recSize x.n) with
      | some h => s.putRecord h (recBytes x.key true (s.payload x) x.seq) (fun m => .copy h (some m))
      | none =>
        match s.pick (s.leastWorn s.erasedSecs) with
        | (s, some n) => s.openSector n true
        | (s, none) => s
  | [] =>
    if c.released then (s.eraseBytes c.victim).modStore (fun t => { t with comp := some { c with erasing := true } })
    else s.program (secBase c.victim + 20) (leBytes 4 markerM) (.release c.victim)

/-- The next burst of a running step (R401), which passes the gate. -/
def State.compBurst (s : State) (c : Comp) : State := if s.gateOpen (s.compCost c) then s.compNext c else s

/-- The next part of the compaction engine's work (R401, R405). -/
def compactionStep (s : State) : State :=
  match s.store.comp with
  | some c => if c.erasing then s else s.compBurst c
  | none =>
    match s.store.toErase with
    | n :: _ => s.startErase n
    | [] =>
      match s.compWhy with
      | none => s
      | some w =>
        let s := s.startComp w
        match s.store.comp with
        | some c => s.compBurst c
        | none => s

/-- An append is due, or a compaction step runs or is due, and passes the gate: a slot write waits for it (R406). -/
def State.storeDue (s : State) : Bool :=
  !s.store.mounting && (s.nextItem.any (fun it => s.itemSt it == .pending) ||
    (match s.store.comp, s.compWhy with
      | some _, _ => !s.compHeld
      | none, none => false
      | none, some .operation => !s.deadSecs.isEmpty
      | none, some _ => !s.sealedSecs.isEmpty))

/-- COMPACTION_STEP (R401): at a burst boundary. -/
def execCompactionStep (s : State) : Host.Outcome State Fault Refusal :=
  .next (if s.pwr.core && !s.store.mounting && s.store.burst.isNone then compactionStep s else s)

/-- Background compaction starts below the low mark (R402). -/
def backgroundCompaction (s : State) : State :=
  if s.storeFree < field (s.rd A.STORE_COMPCFG) 7 0 then s.modStore (fun t => { t with back := true }) else s

/-- BACKGROUND_COMPACTION (R402). -/
def execBackgroundCompaction (s : State) : Host.Outcome State Fault Refusal :=
  .next (if !s.store.mounting && (s.running opCOMPACT).isNone then backgroundCompaction s else s)

/-! ### Host commands (R393, R395, R396) -/

/-- Load the stage with a write or a tombstone, or refuse: the stage is held, or the mount runs (STAGE, 1), or the key belongs to
the event ring (KEY, 2) (R393, R395, R405). -/
def State.loadStage (s : State) (words : List Word) : State :=
  let key := field (s.staged (A.STORE_WR 1)) 9 0
  let held := match s.store.wst with
    | .pending => true
    | .busy => true
    | .deferred => true
    | _ => false
  if held || s.store.mounting then s.modStore (fun t => { t with refusal := 1 })
  else if 896 ≤ key then s.modStore (fun t => { t with refusal := 2 })
  else
    s.modStore (fun t =>
      { t with
        stage := some ⟨key, words, t.seq, t.order, false, false⟩
        wst := .pending, refusal := 0, wkey := key, seq := (t.seq + 1) % 2 ^ 32, order := t.order + 1 })

/-- STORE_WR_0 is written with op WRITE and a legal length (R393). -/
def storeWrite (len : Nat) (s : State) : State := s.loadStage (s.rds (A.STORE_WBUF 0) len)

/-- STORE_DELETE (R395). -/
def execStoreDelete (s : State) : Host.Outcome State Fault Refusal := .next (s.whenHost (fun s => s.loadStage []))

/-- A read of a key starts (R396). -/
def storeRead (key : Nat) (s : State) : State :=
  (s.wr A.STORE_RRES 0x4000).modStore (fun t => { t with rd := some key, rkey := key })

/-- STORE_READ (R396). -/
def execStoreRead (key : Fin 1024) (s : State) : Host.Outcome State Fault Refusal := .next (s.whenHost (fun s => storeRead key.val s))

/-- Count and report a record with its marker set and a bad CRC (R411). -/
def State.badRecord (s : State) (x : RecAt) : State := (s.satInc A.STORE_ERRCNT).storeErr (x.addr / 4096) 1

/-- A read ends: the key's value, or ABSENT (R396). -/
def storeReadDone (key : Nat) (s : State) : State :=
  let s := s.each (s.allRecs.filter (fun x => x.mark && !x.crcOk && x.key == key)) (fun s x => s.badRecord x)
  let s := s.modStore (fun t => { t with rd := none })
  match s.valueOf key with
  | none => s.wr A.STORE_RRES 0xC000
  | some x =>
    let ws := s.payload x
    let s := s.wrs (A.STORE_RBUF 0) ((ws ++ List.replicate 128 0).take 128)
    (s.wrQ (A.STORE_RSEQ 0) 2 x.seq).wr A.STORE_RRES (w16 (32768 + x.n))

/-- STORE_READ_DONE (R396); a read waits for the mount (R405). -/
def execStoreReadDone (s : State) : Host.Outcome State Fault Refusal :=
  .next (match s.store.rd with
    | none => s
    | some k => if s.store.mounting then s else storeReadDone k s)

/-! ### Mount (R405) -/

/-- The highest of a list by sequence number. -/
def newestSeq (l : List Nat) : Option Nat :=
  l.foldl (fun m n => match m with
    | none => some n
    | some k => if seqAbove n k then some n else some k) none

/-- A valid sector of the highest sector sequence number. -/
def State.mountHead (s : State) : Option Nat :=
  (jSectors.filter s.secValid).foldl (fun m n => match m with
    | none => some n
    | some k => if seqAbove (s.arr32 (secBase n + 4)) (s.arr32 (secBase k + 4)) then some n else some k) none

/-- The erase count that a sector's own header gives. -/
def State.headerWear (s : State) (n : Nat) : Option Nat := if s.phase1 n then some (s.arr32 (secBase n + 8)) else none

/-- The mount ends: head, sequence numbers, event key, erase counts and the sectors marked for erase (R405). -/
def storeMount (s : State) : State :=
  let recs := s.allRecs
  let good := recs.filter (·.ok)
  let head := s.mountHead
  let stop := (head.map s.secScan).map (·.2)
  let wears := jSectors.map s.headerWear
  let top := (wears.filterMap id).foldl max 0
  let wear : Vector Nat 160 := Vector.ofFn (fun i => ((wears[i.val]?).getD none).getD top)
  let evs := good.filter (fun x => 896 ≤ x.key)
  let last := evs.foldl (fun m x => match m with
    | none => some x
    | some y => if seqAbove x.seq y.seq then some x else some y) none
  let secs := (jSectors.filter s.phase1).map (fun n => s.arr32 (secBase n + 4))
  let s := s.modStore (fun t =>
    { t with
      mounting := false, head := head, pos := ((stop.map (·.1)).getD 0) % 4096
      seq := ((newestSeq (good.map (·.seq))).map (fun n => (n + 1) % 2 ^ 32)).getD 0
      secSeq := ((newestSeq secs).map (fun n => (n + 1) % 2 ^ 32)).getD 0
      wear := wear, toErase := jSectors.filter (fun n => !s.secErased n && !s.secValid n), retired := []
      sealed := (stop.map (·.2)).getD false || (stop.map (fun p => p.1 % 4096 == 0)).getD false, burst := none, gateWait := false, comp := none, back := false })
  let s := s.wr A.STORE_JEVN (match last with
    | none => 0
    | some x => w16 ((x.key - 896 + 1) % 128))
  s.each (recs.filter (fun x => x.mark && !x.crcOk)) (fun s x => s.badRecord x)

/-- STORE_MOUNT_DONE (R405). -/
def execStoreMountDone (s : State) : Host.Outcome State Fault Refusal := .next (if s.store.mounting then storeMount s else s)

/-! ### Losses of the queue and the stage (R397, R407, R413) -/

/-- CORE powers off: what is still unwritten counts in STORE_JLOST; event records count for word 7 too
(notes/assumptions/17.md). -/
def State.dropItems (s : State) : State :=
  let n := s.store.jq.length
  let m := b2n s.store.stage.isSome
  let s := s.satAdd A.STORE_JLOST (n + m)
  s.modStore (fun t =>
    { t with
      jq := [], stage := none, lost := t.lost + n, wst := if m = 1 then .none else t.wst
      burst := match t.burst with
        | some (.record _ _ _) => none
        | some (.header _ false _) => none
        | b => b
      gateWait := false })

end Sys2Proof.Machine
end

