-- ==== Sys2Proof/Machine/Domains.lean ====
section
/-! DEFINITION. Sys2Proof/Machine/Domains.lean: the switched power domains (R35, R43 to R45, R367 to R370): what a domain
loses when it goes off, how its engines start when it comes on, and the switch-on sequence. -/
namespace Sys2Proof.Machine

/-! ### Status words at a domain's start (R43) -/

/-- The bits of a word that a domain start keeps: its RW and IL fields. -/
def keptBits (fs : List Fld) : Word :=
  fs.foldl (fun m f => if f.acc = .RW ∨ f.acc = .IL then m ||| f.mask else m) 0

/-- A word at a domain start: status and result fields at their reset values (R43). -/
def statusReset (a : Nat) (v : Word) : Word :=
  match lookup a with
  | none => v
  | some (row, _) => (v &&& keptBits row.fields) ||| (resetOf a &&& ~~~ keptBits row.fields)

/-- Status and result fields of the words from `lo` up to `hi` at their reset values (R43). -/
def State.clearStatus (s : State) (lo hi : Nat) : State :=
  { s with regs := s.regs.filterMap (fun p =>
      if lo ≤ p.1 ∧ p.1 < hi then
        if statusReset p.1 p.2 = resetOf p.1 then none else some (p.1, statusReset p.1 p.2)
      else some p) }

/-- The base address of a bank block. -/
def bankBase (b : Fin 8) : Nat := 0x2000 + 0x400 * b.val

/-! ### Availability (R42, R368) -/

/-- PWR_DOM_AVAIL: the domains that can come on. -/
def State.domAvail (s : State) : BitVec 12 :=
  match s.img.active with
  | none => 0xDFF
  | some c => if c.seeding then 0xFFF else 0xDFF

/-- The domains that are requested and can come on. -/
def State.domWant (s : State) : BitVec 12 := (s.rd A.PWR_DOM_REQ).setWidth 12 &&& s.domAvail

/-- Bit `d` of a set of domains. -/
def domBit (d : Nat) : BitVec 12 := BitVec.twoPow 12 d

/-- The on-order of R367. -/
def onOrder : List Nat := [11, 10, 8, 9, 0, 1, 2, 3, 4, 5, 6, 7]

/-- DOMAIN_SW with the domains that are on and a cause (Table EVT-3). -/
def State.raiseDomSw (s : State) (cause : Nat) : State := s.raise evDOMAIN_SW (s.pwr.on.setWidth 16) (w16 cause)

/-! ### The link (R428) -/

/-- The link leaves UP: LINK_DOWN, sync and partner_ready cleared (Table PAIR-5b). -/
def State.linkDown (s : State) (next : LinkSt) (cause : Nat) : State :=
  let s := s.modPair (fun p =>
    { p with link := next, sync := false, partnerReady := false, missed := 0, cover := 0, lostAt := s.clk.ticks, tx := none, rdy := 0 })
  s.raise evLINK_DOWN (w16 cause) 0

/-- en = 0 or D_LNK off: the link is OFF, with LINK_DOWN if it was UP (Table PAIR-5b). -/
def State.linkOff (s : State) : State :=
  let s := if s.pair.link = .up then s.linkDown .off 3 else s
  s.modPair (fun p => { p with link := .off, lane0 := false, lane1 := false, compat := false })

/-- en = 1 and D_LNK on: OFF to TRAIN (Table PAIR-5b). -/
def State.linkJudge (s : State) : State :=
  if s.dom 10 && bit (s.rd A.PAIR_CTL) 0 then
    if s.pair.link = .off then s.modPair (fun p => { p with link := .train, lane0 := false, lane1 := false }) else s
  else if s.pair.link = .off then s else s.linkOff

/-! ### Going off (R44, R45, R314, R369, Table HOST-9, Table HOST-11) -/

/-- The whole entry of a bank into pin float, phase Hi-Z first and then the output stages off, for a domain that goes off only
after it (R184, R369); a bank that its driver die holds stays as it is (R372). -/
def State.floatFirst (s : State) (t : Nat) (b : Fin 8) : State :=
  if (s.bank[b]).hold.isSome || (s.bank[b]).flt == .floating then s else (s.enterFloat t b).disableStages b

/-- The bank domain goes off (R45, R369): the operations that use the bank end INTERRUPTED, an armed bank is disarmed first
with cause 0x05 (Table SAFE-3), the bank enters pin float, and then the domain goes off with its timers and axes. The domain
may go off up to 10 µs later; in the model it goes off with the end of the entry (DEDUCED, notes/assumptions/18.md). -/
def State.bankOff (s : State) (t : Nat) (b : Fin 8) : State :=
  let s := (s.disarm t b 5 .disarm).floatFirst t b
  let s := (((s.cutShuntCal b).cutDlineCal b).cutSelfTest b).modPwr (fun p => { p with on := p.on &&& ~~~ domBit b.val })
  let s := (s.stopBank b).modBank b (fun k => { k with conv := Vector.replicate 3 Conv.reset, chop := k.chop && k.hold.isSome })
  (s.refloat t b).gateCheck t b

/-- A SELF_TEST that pauses the solver loses it with D_SOL, unless its solver test has ended (notes/assumptions/9.md). -/
def State.cutSolverTest (s : State) : State :=
  if s.testsSolver then
    if Config.freeBool s.free then s.took else s.took.failOp opSELF_TEST
  else s

/-- A domain goes off. With D_FUS off the quality word marks the fused outputs invalid (Table MAP-11). -/
def State.domOff (s : State) (t d : Nat) : State :=
  if hb : d < 8 then s.bankOff t ⟨d, hb⟩
  else
    let s := s.modPwr (fun p => { p with on := p.on &&& ~~~ domBit d })
    if d = 8 then s.clearQueue.modFus (fun f => { f with imu := none, qual := f.qual &&& 0x1FFF })
    else if d = 9 then
      s.cutSolverTest.modSol (fun o =>
        { Solver.reset with rows := o.rows.map (fun r => { SolRow.reset with fall := r.fall }), epoch := o.epoch, next := o.next })
    else if d = 10 then s.linkOff
    else s.modCan 0 (fun _ => Can.reset) |>.modCan 1 (fun _ => Can.reset)

/-! ### Coming on (R43, R179, R211, R240, R280, R315, R338, R152) -/

/-- A bank as its domain comes on: monitors and flags start anew; what CORE and the driver die hold stays. -/
def Bank.start (k : Bank) : Bank :=
  let held := k.hold.isSome
  { Bank.reset with
    flt := k.flt, fltAt := k.fltAt, estop := k.estop, dev := k.dev, die := k.die
    hand := k.hand, hold := k.hold, vdrvOk := held && k.vdrvOk, vcpOk := held && k.vcpOk
    vdrvSeen := held && k.vdrvSeen, vcpSeen := held && k.vcpSeen }

/-- A half-bridge as its bank domain comes on; the gates that the driver die holds go on as they are (R372). -/
def HalfB.start (x : HalfB) (held : Bool) : HalfB :=
  if held then { x with limit := none, loc := false, back := none, dlcOfs := none, shunt := 0 } else HalfB.reset

/-- The gates of a bank take their step registers (R43, R187). -/
def State.loadSteps (s : State) (b : Fin 8) : State :=
  s.each (hbsOf b) (fun s h =>
    s.modHb h (fun x =>
      { x with
        hs := { x.hs with idrv := ⟨s.hbReg A.GATE_IDRV_HS h, []⟩ }
        ls := { x.ls with idrv := ⟨s.hbReg A.GATE_IDRV_LS h, []⟩ } }))

/-- The engines of a bank start: monitors, timers, axes and converters from their retained registers. Its timers start 4 PWM clocks
after the boundary of the first tick that begins after the domain is ready (R162). -/
def State.startEngines (s : State) (t : Nat) (b : Fin 8) : State :=
  let held := (s.bank[b]).hold.isSome
  let s := s.each (hbsOf b) (fun s h => s.modHb h (fun x => x.start held))
  let s := s.each (axesOf b) (fun s a => s.modAx a (fun x => { Axis.reset with safeSide := if held then x.safeSide else none, plaus := x.plaus }))
  let s := s.modBank b (fun k =>
    { k.start with
      vovOn := s.rd (A.PROT_VOV1_ON b.val), vovOff := s.rd (A.PROT_VOV1_OFF b.val), vov2c := s.rd (A.PROT_VOV2 b.val) })
  let s := s.each (axesOf b) (fun s a => (s.sideFor a held).hallStart a)
  ((s.loadSteps b).startBank s.tickEnd b).redriveBank t b

/-- The bank domain comes on. -/
def State.bankOn (s : State) (t : Nat) (b : Fin 8) : State :=
  let s := (s.clearStatus (bankBase b) (bankBase b + 0x400)).modPwr (fun p => { p with on := p.on ||| domBit b.val })
  (s.startEngines t b).gateCheck t b

/-- The three words of SCH_STATE and the schedule's own fields; SCH_STATE keeps its value (R314). -/
def State.clearSchedule (s : State) : State :=
  let lo := s.rd A.SCH_STATE_LO
  let hi := s.rd A.SCH_STATE_HI
  ((s.clearStatus 0x1400 0x1800).wr A.SCH_STATE_LO lo).wr A.SCH_STATE_HI hi

/-- Both CAN controllers come up with CANc_CTL.init = 1 (R152). -/
def State.canStart (s : State) (c : Fin 2) : State :=
  (s.wr (A.CAN_CTL c.val) (s.rd (A.CAN_CTL c.val) ||| bitW 15)).modCan c (fun _ =>
    { Can.reset with timing := s.rds (A.CAN_NBT c.val) 5 })

/-- A domain comes on. -/
def State.domOn (s : State) (t d : Nat) : State :=
  if hb : d < 8 then s.bankOn t ⟨d, hb⟩
  else
    let s := s.modPwr (fun p => { p with on := p.on ||| domBit d })
    if d = 8 then (s.clearStatus 0x1000 0x1400).clearSchedule.fusStart
    else if d = 9 then (s.clearStatus 0x1800 0x2000).solStart
    else if d = 10 then (s.clearStatus 0x0C00 0x0E00).linkJudge
    else ((s.clearStatus 0x4000 0x8000).canStart 0).canStart 1

/-! ### The sequence (R367, R368, R370) -/

/-- PWR_RESTORE of a warm restart, once its domains are on and DOMAIN_SW has been raised (R377, Table PWR-8): the outage and the
bounces that PWR_LASTOUT and PWR_LASTBNC hold. -/
def State.sayRestored (s : State) : State :=
  if s.pwr.restore then
    (s.modPwr (fun p => { p with restore := false })).raise evPWR_RESTORE (s.rd A.PWR_LASTOUT) (s.rd A.PWR_LASTBNC)
  else s

/-- A switch-on sequence runs (PWR_DOM_STAT.busy). -/
def State.domBusy (s : State) : Bool := !s.pwr.starts.isEmpty || !s.pwr.begun.isEmpty

/-- Take the request in PWR_DOM_REQ (R367, R370): clears act at once, and sets start the sequence; one that changes while a
sequence runs is taken when that ends, and one written outside MAIN waits for the warm restart. -/
def State.applyReq (s : State) (t cause : Nat) : State :=
  if s.pwr.st ≠ .main then s
  else if s.domBusy then s.modPwr (fun p => { p with changed := true })
  else
    let want := s.domWant
    let on := s.pwr.on
    let offs := (List.range 12).filter (fun d => on.getLsbD d && !want.getLsbD d)
    let ons := onOrder.filter (fun d => want.getLsbD d && !on.getLsbD d)
    let s := s.each offs (fun s d => s.domOff t d)
    let now := s.clk.ticks
    if ons.isEmpty then
      if offs.isEmpty && cause = 0 then s else (s.raiseDomSw cause).sayRestored
    else
      s.modPwr (fun p => { p with starts := ons.zipIdx.map (fun q => (q.1, now + 20 * q.2)), swCause := cause })

/-- Every switched domain goes off, and a running sequence ends (R73, R368, R483). -/
def State.allOff (s : State) (t : Nat) : State :=
  let s := s.modPwr (fun p => { p with starts := [], begun := [], changed := false })
  s.each ((List.range 12).filter (fun d => s.pwr.on.getLsbD d)) (fun s d => s.domOff t d)

/-- A write to PWR_DOM_REQ (R367). -/
def writeDomReq (t : Nat) (d : Word) (s : State) : State := (s.wr A.PWR_DOM_REQ (d &&& 0x0FFF)).applyReq t 0

/-- DOMAIN_SWITCH_ON (R367): the request bit of a domain is set. -/
def execDomainSwitchOn (at' : Fin 200) (dom : Fin 12) (s : State) : Host.Outcome State Fault Refusal :=
  .next (s.whenHost (fun s => writeDomReq (s.clkAt at') (s.rd A.PWR_DOM_REQ ||| bitW dom.val) s))

/-- DOMAIN_SWITCH_OFF (R367): the request bit of a domain is cleared. -/
def execDomainSwitchOff (at' : Fin 200) (dom : Fin 12) (s : State) : Host.Outcome State Fault Refusal :=
  .next (s.whenHost (fun s => writeDomReq (s.clkAt at') (s.rd A.PWR_DOM_REQ &&& ~~~ bitW dom.val) s))

/-- DOMAIN_START (R367): the domain whose turn has come starts. -/
def execDomainStart (dom : Fin 12) (s : State) : Host.Outcome State Fault Refusal :=
  .next (if s.pwr.starts.any (fun p => p.1 == dom.val && decide (p.2 ≤ s.clk.ticks)) then
      s.modPwr (fun p =>
        { p with starts := p.starts.filter (fun q => q.1 != dom.val), begun := p.begun ++ [dom.val] })
    else s)

/-- A started domain is ready; with the last one the requested set is reached, and a request that changed meanwhile is taken
(R367, R370). -/
def domainReady (d : Nat) (s : State) : State :=
  let t := 200 * s.clk.ticks
  let s := (s.domOn t d).modPwr (fun p => { p with begun := p.begun.filter (· != d) })
  if s.domBusy then s
  else
    let again := s.pwr.changed
    let s := ((s.raiseDomSw s.pwr.swCause).modPwr (fun p => { p with changed := false, swCause := 0 })).sayRestored
    if again then s.applyReq t 0 else s

/-- DOMAIN_READY (R367). -/
def execDomainReady (dom : Fin 12) (s : State) : Host.Outcome State Fault Refusal :=
  .next (if s.pwr.begun.contains dom.val then domainReady dom.val s else s)

end Sys2Proof.Machine
end

