-- ==== Sys2Proof/Machine/Sha.lean ====
section
/-! DEFINITION. Sys2Proof/Machine/Sha.lean: SHA-256 and HMAC-SHA-256 over bytes, which R68 takes from FIPS 180-4 and FIPS
198-1, for the image tag and the key check value (R68, R80). -/
namespace Sys2Proof.Machine

/-- A word of SHA-256. -/
abbrev W32 := BitVec 32

/-- The k-th root of `m`, rounded down: `x` holds its bits from 2^n up, and the lower ones follow one by one. -/
def rootBits (k m : Nat) : Nat → Nat → Nat
  | 0, x => x
  | n + 1, x => rootBits k m n (if (x + 2 ^ n) ^ k ≤ m then x + 2 ^ n else x)

/-- The first 32 fraction bits of the k-th root of a number below 512 (FIPS 180-4, the origin of its constants). -/
def rootFrac (k p : Nat) : W32 := BitVec.ofNat 32 (rootBits k (p * 2 ^ (32 * k)) 37 0)

/-- The primes below 312: the first 64. -/
def shaPrimes : List Nat := (List.range 312).filter (fun n => 2 ≤ n && (List.range 16).all (fun d => d + 2 == n || n % (d + 2) != 0))

/-- The round constants: the cube roots of the first 64 primes (FIPS 180-4). -/
def shaK : List W32 := shaPrimes.map (rootFrac 3)

/-- The eight working words. -/
structure ShaSt where
  a : W32
  b : W32
  c : W32
  d : W32
  e : W32
  f : W32
  g : W32
  h : W32
  deriving DecidableEq, Repr

/-- Eight working words from a list. -/
def ShaSt.ofList (l : List W32) : ShaSt :=
  let w (i : Nat) : W32 := l[i]?.getD 0
  ⟨w 0, w 1, w 2, w 3, w 4, w 5, w 6, w 7⟩

/-- The working words in order. -/
def ShaSt.toList (s : ShaSt) : List W32 := [s.a, s.b, s.c, s.d, s.e, s.f, s.g, s.h]

/-- The initial hash value: the square roots of the first eight primes (FIPS 180-4). -/
def shaInit : ShaSt := ShaSt.ofList ((shaPrimes.take 8).map (rootFrac 2))

/-- The exclusive or of a word turned right by each of some counts. -/
def turned (x : W32) (l : List Nat) : W32 := l.foldl (fun y n => y ^^^ x.rotateRight n) 0

/-- One round with a constant and a schedule word. -/
def shaRound (s : ShaSt) (k w : W32) : ShaSt :=
  let choice := s.g ^^^ (s.e &&& (s.f ^^^ s.g))
  let major := (s.a &&& s.b) ||| (s.c &&& (s.a ||| s.b))
  let x := s.h + turned s.e [6, 11, 25] + choice + k + w
  { a := x + turned s.a [2, 13, 22] + major, b := s.a, c := s.b, d := s.c, e := s.d + x, f := s.e, g := s.f, h := s.g }

/-- The word that joins a schedule of sixteen words. -/
def shaNext (ws : List W32) : W32 :=
  let w (i : Nat) : W32 := ws[i]?.getD 0
  w 0 + (turned (w 1) [7, 18] ^^^ (w 1 >>> 3)) + w 9 + (turned (w 14) [17, 19] ^^^ (w 14 >>> 10))

/-- The rounds of a block: the next sixteen schedule words, oldest first, and the constants still to come. -/
def shaRounds : List W32 → List W32 → ShaSt → ShaSt
  | [], _, s => s
  | k :: ks, ws, s => shaRounds ks (ws.drop 1 ++ [shaNext ws]) (shaRound s k (ws[0]?.getD 0))

/-- A word from four bytes, the first the most significant. -/
def beWord (l : List Byte) : W32 := BitVec.ofNat 32 (l.foldl (fun n b => 256 * n + b.toNat) 0)

/-- The sixteen words of a block. -/
def blockWords (l : List Byte) : List W32 := (List.range 16).map (fun i => beWord ((l.drop (4 * i)).take 4))

/-- The hash value after a block of 64 bytes. -/
def shaBlock (h : ShaSt) (l : List Byte) : ShaSt :=
  ShaSt.ofList (List.zipWith (· + ·) h.toList (shaRounds shaK (blockWords l) h).toList)

/-- The hash value after `n` blocks of a message. -/
def shaBlocks : Nat → List Byte → ShaSt → ShaSt
  | 0, _, h => h
  | n + 1, l, h => shaBlocks n (l.drop 64) (shaBlock h (l.take 64))

/-- Big-endian bytes of a number. -/
def beBytes (n x : Nat) : List Byte := (leBytes n x).reverse

/-- A message with its padding and its length in bits. -/
def shaPad (l : List Byte) : List Byte :=
  l ++ [0x80] ++ List.replicate ((119 - l.length % 64) % 64) 0 ++ beBytes 8 (8 * l.length)

/-- SHA-256 (FIPS 180-4). -/
def sha256 (l : List Byte) : List Byte :=
  let m := shaPad l
  (shaBlocks (m.length / 64) m shaInit).toList.flatMap (fun w => beBytes 4 w.toNat)

/-- HMAC-SHA-256 with a key of at most 64 bytes (FIPS 198-1). -/
def hmac (key msg : List Byte) : List Byte :=
  let k := key ++ List.replicate (64 - key.length) 0
  sha256 (k.map (· ^^^ 0x5C) ++ sha256 (k.map (· ^^^ 0x36) ++ msg))

end Sys2Proof.Machine
end

