-- ==== Sys2Proof/Machine/ImageForm.lean ====
section
/-! DEFINITION. Sys2Proof/Machine/ImageForm.lean: the byte format of a Juniper image (R49 to R66) and checks 1 to 15 of Table
IMG-8 (02_juniper_image.md). Reserved bytes and bits of a payload are judged with R51, as SECTION (notes/assumptions/19.md). -/
namespace Sys2Proof.Machine

/-! ### Bytes -/

/-- Byte `i`, and the fields of two and four bytes from it on, little-endian (R49). -/
def u8 (l : List Byte) (i : Nat) : Nat := (l[i]?.getD 0).toNat
def u16 (l : List Byte) (i : Nat) : Nat := u8 l i + 256 * u8 l (i + 1)
def u32at (l : List Byte) (i : Nat) : Nat := u16 l i + 65536 * u16 l (i + 2)

/-- A list cut into pieces of `k`, at most `n` of them. -/
def pieces (k : Nat) : Nat → List Byte → List (List Byte)
  | 0, _ => []
  | n + 1, l => if l.isEmpty then [] else l.take k :: pieces k n (l.drop k)

/-- The pieces of a payload. -/
def cut (k : Nat) (l : List Byte) : List (List Byte) := pieces k l.length l

/-- Bytes from `lo` up to `hi` are 0. -/
def zeros (l : List Byte) (lo hi : Nat) : Bool := ((l.drop lo).take (hi - lo)).all (· == 0)

/-! ### Sections (R51, R52, Tables IMG-3, IMG-4) -/

/-- A section. -/
structure Sect where
  type : Nat
  bank : Nat
  sflags : Nat
  pay : List Byte
  deriving DecidableEq, Repr

/-- The sections of a byte string, exactly `n` of them; none when they overrun it or do not fill it. -/
def sections : Nat → List Byte → Option (List Sect)
  | 0, l => if l.isEmpty then some [] else none
  | n + 1, l =>
    let len := u32at l 4
    let rest := l.drop 8
    if l.length < 8 ∨ rest.length < len ∨ len % 4 ≠ 0 then none
    else (sections n (rest.drop len)).map (fun r => ⟨u16 l 0, u8 l 2, u8 l 3, rest.take len⟩ :: r)

/-- Where a section type may stand: in banks, in the device section; its least and greatest length and its step. -/
def sectRule (type : Nat) : Option (Bool × Bool × Nat × Nat × Nat) :=
  match type with
  | 1 => some (true, false, 16, 16, 4)
  | 2 => some (true, false, 16, 16, 4)
  | 3 => some (true, false, 36, 36, 4)
  | 4 => some (true, false, 52, 52, 4)
  | 5 => some (true, true, 4, 128, 4)
  | 6 => some (false, true, 16, 16, 4)
  | 7 => some (false, true, 16, 136, 8)
  | 8 => some (false, true, 52, 52, 4)
  | 9 => some (true, true, 8, 512, 8)
  | 10 => some (true, true, 4, 256, 4)
  | 11 => some (false, true, 4, 64, 4)
  | 12 => some (false, true, 4, 4, 4)
  | 13 => some (false, true, 4, 4, 4)
  | 14 => some (true, true, 4, 512, 4)
  | _ => none

/-- Reserved bits of a payload are 0 (R51). -/
def Sect.reserved0 (x : Sect) : Bool :=
  let p := x.pay
  match x.type with
  | 1 => u16 p 0 < 32768 && u16 p 6 < 16 && u8 p 9 < 8 && zeros p 11 16
  | 2 => u8 p 3 == 0 && u8 p 7 == 0 && u8 p 11 == 0 && u8 p 13 < 16 && zeros p 14 16
  | 3 => (cut 4 p).all (fun e => u8 e 2 < 16 && u8 e 3 == 0)
  | 4 => u8 p 3 == 0 && (p.drop 4).all (fun e => e.toNat / 16 % 2 == 0)
  | 6 => zeros p 9 16
  | 7 => zeros p 4 8
  | 8 => zeros p 1 4
  | 9 => (cut 8 p).all (fun e => u8 e 3 / 16 % 8 == 0)
  | 12 => zeros p 2 4
  | 13 => zeros p 2 4
  | _ => true

/-- A section is right by itself (R51, R52). -/
def Sect.ok (x : Sect) : Bool :=
  match sectRule x.type with
  | none => false
  | some (inBank, inDev, mn, mx, step) =>
    x.sflags == 0 && ((inBank && x.bank < 8) || (inDev && x.bank == 0xFF)) && mn ≤ x.pay.length && x.pay.length ≤ mx &&
      x.pay.length % step == 0 && x.reserved0

/-- The section of a type and bank value. -/
def sectOf (l : List Sect) (type bank : Nat) : Option Sect := l.find? (fun x => x.type == type && x.bank == bank)

/-- Its payload; empty without one. -/
def payOf (l : List Sect) (type bank : Nat) : List Byte := ((sectOf l type bank).map (·.pay)).getD []

/-- No pair of type and bank value appears twice (R52). -/
def noTwice : List Sect → Bool
  | [] => true
  | x :: r => !r.any (fun y => y.type == x.type && y.bank == x.bank) && noTwice r

/-- The bank values an image replaces. -/
def imgBanks (l : List Byte) : List Nat := if u8 l 16 = 1 then [u8 l 17] else List.range 8

/-- The section types a bank image may hold (R52). -/
def bankTypes : List Nat := [1, 2, 3, 4, 5, 9, 10, 14]

/-- The header fits R50. -/
def headerOk (l : List Byte) : Bool :=
  let whole := u8 l 16 == 0
  let bank := u8 l 16 == 1
  ((whole && u8 l 17 == 0xFF) || (bank && u8 l 17 ≤ 7)) && 1 ≤ u16 l 18 && u16 l 18 ≤ 512 &&
    (whole || (u32at l 20 == 0 && u8 l 33 == 0)) && (bank || u32at l 28 == 0) && u8 l 33 ≤ 1 && zeros l 34 64

/-- The sections fit R52. -/
def sectionsOk (l : List Byte) (ss : List Sect) : Bool :=
  let whole := u8 l 16 == 0
  let need (t b : Nat) : Bool := (sectOf ss t b).isSome
  ss.all Sect.ok && noTwice ss &&
    (imgBanks l).all (fun b => need 1 b && need 2 b && need 3 b && need 4 b) &&
    if whole then
      need 6 0xFF && need 12 0xFF && (need 7 0xFF == (u8 (payOf ss 6 0xFF) 5 != 0)) && (need 8 0xFF == (u8 l 33 % 2 == 1))
    else ss.all (fun x => bankTypes.contains x.type && x.bank == u8 l 17)

/-! ### Reading the sections -/

/-- A slot entry (Tables IMG-5, IMG-6). -/
def slotCfg (slotmap : Word) (p : List Byte) (j : Nat) : SlotCfg :=
  ⟨field slotmap (5 * j + 2) (5 * j), field slotmap (5 * j + 4) (5 * j + 3), u8 p (4 * j), u8 p (4 * j + 1), u8 p (4 * j + 2)⟩

/-- A LIMITS entry (R61). -/
def limitOfBytes (e : List Byte) : Limit :=
  ⟨u16 e 0, u8 e 2, u8 e 3 % 16 + 1, natBit (u8 e 3) 7, w16 (u16 e 4), w16 (u16 e 6)⟩

/-- Entries of a word address and a word (R62, R66). -/
def pairsOf (p : List Byte) : List (Nat × Word) := (cut 4 p).map (fun e => (u16 e 0, w16 (u16 e 2)))

/-- Routes (R57). -/
def routesOf (p : List Byte) : List Route := (cut 4 p).map (fun e => ⟨u8 e 0, u8 e 1, u8 e 2, u8 e 3⟩)

/-- The converter lists (R56). -/
def convOf (p : List Byte) : List (List Nat) :=
  (List.range 3).map (fun c => ((p.drop (4 + 16 * c)).take (u8 p c)).map (·.toNat))

/-- The bank part of an image (R53 to R57, R61, R62, R66). -/
def bankOf (ss : List Sect) (b : Nat) : BankCfg :=
  let m := payOf ss 1 b
  let x := payOf ss 2 b
  let sm := w16 (u16 m 0)
  { slotmap := sm, hbmap := [w16 (u16 m 2), w16 (u16 m 4), w16 (u16 m 6)], supply := u8 m 8, hires := u8 m 9, hsto := u8 m 10
    slots := (List.range 3).map (slotCfg sm x), vov2 := u8 x 12, brk := u8 x 13
    drive := (cut 4 (payOf ss 3 b)).map (fun e => ⟨u8 e 0 / 16, u8 e 0 % 16, u8 e 1 / 16, u8 e 1 % 16, u8 e 2 % 16⟩)
    conv := convOf (payOf ss 4 b), routes := routesOf (payOf ss 5 b), limits := (cut 8 (payOf ss 9 b)).map limitOfBytes
    opens := pairsOf (payOf ss 10 b), presets := pairsOf (payOf ss 14 b) }

/-- A 16-bit two's-complement field. -/
def s16 (l : List Byte) (i : Nat) : Int := sInt (w16 (u16 l i))

/-- IMU_SEQ (R59). -/
def imuOf (p : List Byte) : ImuCfg :=
  ⟨u8 p 0, u8 p 1, u8 p 3, (cut 8 (p.drop 8)).map (fun e => ⟨u8 e 0 * 256 + u8 e 1, u8 e 2, u8 e 3, s16 e 4, s16 e 6⟩)⟩

/-- The entries of PIN_ALT without a final padding entry (R63). -/
def pinAltOf (p : List Byte) : List (Nat × Nat) :=
  let l := (cut 2 p).map (fun e => (u8 e 0, u8 e 1))
  if l.getLast? = some (0xFF, 0xFF) then l.dropLast else l

/-- The rows of SOLVER_CFG: seed input and meter axis (R60). -/
def rowsOfBytes (p : List Byte) : List (Nat × Nat) :=
  ((cut 2 (p.drop 4)).take (u8 p 0)).map (fun e => (u8 e 0, u8 e 1))

/-- The internal form of a whole image. -/
def formOf (l : List Byte) (ss : List Sect) : ImageCfg :=
  let len := u32at l 8
  { id := u32at l 20, ver := u32at l 24, len := len, crc := u32at l (len - 20), seeding := u8 l 33 % 2 == 1
    banks := (List.range 8).map (bankOf ss), routes := routesOf (payOf ss 5 0xFF)
    limits := (cut 8 (payOf ss 9 0xFF)).map limitOfBytes, opens := pairsOf (payOf ss 10 0xFF)
    presets := pairsOf (payOf ss 14 0xFF), fus := (payOf ss 6 0xFF).map (·.toNat)
    imu := (sectOf ss 7 0xFF).map (fun x => imuOf x.pay), rows := rowsOfBytes (payOf ss 8 0xFF)
    pinAlt := pinAltOf (payOf ss 11 0xFF), recP := u16 (payOf ss 12 0xFF) 0, ddpEn := u8 (payOf ss 13 0xFF) 0 == 1
    ddpBank := u8 (payOf ss 13 0xFF) 1 }

/-! ### STRUCTURE and REACTION (R53, R54) -/

/-- The half-bridges that a slot takes are its roles 0 to n − 1, each once (R53). -/
def BankCfg.slotOk (c : BankCfg) (j : Fin 3) : Bool :=
  let n := c.countOf j
  let code := field c.slotmap (5 * j.val + 2) (5 * j.val)
  let roles := (List.finRange 9).filterMap (fun i => if c.nibble i.val % 4 = j.val then some (c.nibble i.val / 4) else Option.none)
  code ≤ 4 &&
    (match slotTypeOf code with
      | .unused => n == 0
      | .threePhase => n == 3
      | .hBridge => n == 2
      | .single => 1 ≤ n && n ≤ 3
      | .chopper => n == 1) &&
    roles.length == n && (List.range n).all (fun r => roles.contains r)

/-- R29 and R53. -/
def BankCfg.structOk (c : BankCfg) : Bool :=
  (List.finRange 3).all c.slotOk && (List.finRange 9).all (fun i => c.nibble i.val % 4 ≠ 3 || c.nibble i.val == 3)

/-- A slot entry of AXIS_CFG fits Table IMG-6. -/
def SlotCfg.ok (x : SlotCfg) : Bool :=
  let ty := slotTypeOf x.type
  (x.reaction == 0 || (x.reaction == 1 && ty != .unused) || (x.reaction == 2 && ty.canAsc)) &&
    (x.hold == 0 || (x.hold == 1 && ty.canAsc) || (x.hold == 2 && ty == .threePhase)) &&
    (x.safe == 0 || (x.safe == 1 && ty.canAsc))

/-- R54. -/
def BankCfg.reactOk (c : BankCfg) : Bool :=
  c.slots.all SlotCfg.ok && c.vov2 ≤ 1 &&
    (if c.brk % 4 = 2 then ((c.slots[c.brk / 4]?).map (fun x => x.type == 4)).getD false else c.brk < 2)

/-! ### RANGE (R55, R56, R58, R59, R61, R64, R66) -/

/-- A DRIVE_RANGE entry (R55). -/
def DriveCfg.ok (x : DriveCfg) : Bool := x.srcMin ≤ x.srcMax && x.snkMin ≤ x.snkMax && x.soft ≤ x.snkMin

/-- A converter entry byte (R56). -/
def convEntryOk (e : Nat) : Bool := e / 32 ≤ 4 && (if e / 32 ≤ 1 then e % 16 ≤ 8 else e % 16 == 0)

/-- CONV_SEQ (R56). -/
def convSeqOk (p : List Byte) : Bool :=
  (List.range 3).all (fun c =>
    let l := (p.drop (4 + 16 * c)).take 16
    1 ≤ u8 p c && u8 p c ≤ 16 && (l.take (u8 p c)).all (fun e => convEntryOk e.toNat) && (l.drop (u8 p c)).all (· == 0))

/-- An address follows the bank rule of R61. -/
def bankRule (bank a : Nat) : Bool :=
  if bank < 8 then 0x2000 + 0x400 * bank ≤ a && a < 0x2400 + 0x400 * bank else a < 0x2000 || 0x4000 ≤ a

/-- The fields of the word at an address. -/
def fieldsAt (a : Nat) : List Fld := ((lookup a).map (fun p => p.1.fields)).getD []

/-- The bits of IL fields of the word at an address. -/
def ilMask (a : Nat) : Word := (fieldsAt a).foldl (fun m f => if f.acc = .IL then m ||| f.mask else m) 0

/-- A bound of a LIMITS entry is an encoding of a field of its width, sign-extended if signed (R61, Table IMG-8). -/
def Limit.encodes (l : Limit) (v : Int) : Bool :=
  if l.signed then -(2 ^ (l.width - 1) : Int) ≤ v && v < 2 ^ (l.width - 1) else v < 2 ^ l.width

/-- A LIMITS entry by itself (R61). -/
def Limit.ok (l : Limit) (bank : Nat) : Bool :=
  l.lsb + l.width ≤ 16 && l.encodes l.lo && l.encodes l.hi && l.lo ≤ l.hi && bankRule bank l.addr &&
    (fieldsAt l.addr).any (fun f => (f.acc == .RW || f.acc == .IL) && f.lo ≤ l.lsb && l.lsb + l.width ≤ f.hi + 1)

/-- Two entries overlap in bits. -/
def Limit.overlaps (x y : Limit) : Bool := x.addr == y.addr && x.lsb < y.lsb + y.width && y.lsb < x.lsb + x.width

/-- No two entries overlap. -/
def noOverlap : List Limit → Bool
  | [] => true
  | x :: r => !r.any x.overlaps && noOverlap r

/-- The LIMITS entries of an image, with the bank values of their sections. -/
def limitsOf (ss : List Sect) : List (Nat × Limit) :=
  (ss.filter (fun x => x.type == 9)).flatMap (fun x => (cut 8 x.pay).map (fun e => (x.bank, limitOfBytes e)))

/-- The PRESET entries of an image, with the bank values of their sections. -/
def presetsOf (ss : List Sect) : List (Nat × Nat × Word) :=
  (ss.filter (fun x => x.type == 14)).flatMap (fun x => (pairsOf x.pay).map (fun p => (x.bank, p)))

/-- A PRESET entry (R66). The image value of an IL field that no PRESET entry names is the Reset value of its table, and is not held
against the LIMITS entries: R66 states its conditions of the entries (DESIGN CHOICE, notes/assumptions/19.md). -/
def presetOk (lims : List Limit) (p : Nat × Nat × Word) : Bool :=
  let (bank, a, v) := p
  ilMask a != 0 && v &&& ~~~ ilMask a == 0 && bankRule bank a &&
    ((fieldsAt a).filter (fun f => f.acc == .IL)).all (fun f => f.inRange v) &&
    (lims.filter (fun l => l.addr == a && (maskW (l.lsb + l.width - 1) l.lsb &&& ilMask a != 0))).all (fun l =>
      let x := l.read (field v (l.lsb + l.width - 1) l.lsb)
      l.lo ≤ x && x ≤ l.hi)

/-- No value appears twice. -/
def distinct : List Nat → Bool
  | [] => true
  | x :: r => !r.contains x && distinct r

/-- FUSION_CFG (R58). -/
def fusionOk (p : List Byte) : Bool :=
  (List.range 4).all (fun i => u8 p i ≤ 2) && u8 p 4 < 8 && u8 p 5 ≤ 1 &&
    [6, 7].all (fun i => u8 p i == 0 || (3 ≤ u8 p i && u8 p i ≤ 90)) && u8 p 8 ≤ 1

/-- IMU_SEQ (R59). -/
def imuOk (p : List Byte) : Bool :=
  let c := imuOf p
  u8 p 0 ≤ 3 && u8 p 1 ≤ 249 && 1 ≤ u8 p 2 && u8 p 2 ≤ 16 && u8 p 3 ≤ 1 && p.length == 8 + 8 * u8 p 2 &&
    c.steps.all (fun x => x.rxLen ≤ 2 && x.dest ≤ 5) && distinct ((c.steps.map (·.dest)).filter (· != 0))

/-- The values of a bank's sections lie in their encodings (R53, R55, R56). -/
def bankRangeOk (ss : List Sect) (b : Nat) : Bool :=
  let c := bankOf ss b
  c.supply ≤ 1 && c.hsto ≤ 1 && c.drive.all DriveCfg.ok && convSeqOk (payOf ss 4 b)

/-- Check 11. -/
def rangeOk (l : List Byte) (ss : List Sect) : Bool :=
  let lims := limitsOf ss
  let pres := presetsOf ss
  (imgBanks l).all (bankRangeOk ss) && lims.all (fun p => p.2.ok p.1) && noOverlap (lims.map (·.2)) &&
    pres.all (presetOk (lims.map (·.2))) && distinct (pres.map (fun p => p.2.1)) &&
    (u8 l 16 == 1 ||
      (fusionOk (payOf ss 6 0xFF) && (sectOf ss 7 0xFF).all (fun x => imuOk x.pay) &&
        u16 (payOf ss 12 0xFF) 0 % 64 == 0 && u16 (payOf ss 12 0xFF) 0 ≤ 2048))

/-! ### ROUTE, OPEN and SOLVER (R57, R60, R62, R63, R65, R474) -/

/-- A route stands in the right section and names what Table IMG-7 lists (R57). -/
def routeOk (alt : List (Nat × Nat)) (bank : Nat) (r : Route) : Bool :=
  (if r.sk = 1 then r.si < 96 else if r.sk = 2 then r.si < 24 else (r.sk == 3 || r.sk == 4) && r.si == 0) &&
    if r.dk = 1 ∨ r.dk = 2 then
      let t := if r.sk = 1 then r.si / 4 else r.si
      r.di < 24 && bank == r.di / 3 && r.sk ≤ 2 && t / 3 == bank
    else r.dk == 3 && r.di < 4 && bank == 0xFF && alt.contains (0, 1)

/-- The routes of an image, with the bank values of their sections. -/
def allRoutes (ss : List Sect) : List (Nat × Route) :=
  (ss.filter (fun x => x.type == 5)).flatMap (fun x => (routesOf x.pay).map (fun r => (x.bank, r)))

/-- Check 12. -/
def routesOk (l : List Byte) (ss : List Sect) : Bool :=
  let rs := allRoutes ss
  let alt := pinAltOf (payOf ss 11 0xFF)
  alt.all (fun p => p.1 ≤ 4 && p.2 ≤ 1) && distinct (alt.map (·.1)) && u8 (payOf ss 13 0xFF) 0 ≤ 1 &&
    u8 (payOf ss 13 0xFF) 1 ≤ 7 && rs.all (fun p => routeOk alt p.1 p.2) &&
    distinct (rs.map (fun p => 256 * p.2.dk + p.2.di)) &&
    (imgBanks l).all (fun b =>
      (List.finRange 3).all (fun j =>
        (bankOf ss b).typeOf j != .threePhase || rs.any (fun p => p.2.dk == 2 && p.2.di == 3 * b + j.val)))

/-- An OPEN entry opens whole IL fields (R62). -/
def openOk (bank : Nat) (p : Nat × Word) : Bool :=
  bankRule bank p.1 && p.2 &&& ~~~ ilMask p.1 == 0 &&
    ((fieldsAt p.1).filter (fun f => f.acc == .IL)).all (fun f => p.2 &&& f.mask == 0 || p.2 &&& f.mask == f.mask)

/-- Check 13. -/
def opensOk (ss : List Sect) : Bool :=
  (ss.filter (fun x => x.type == 10)).all (fun x => (pairsOf x.pay).all (openOk x.bank))

/-- An axis of a list of banks is a THREE_PHASE slot. -/
def threePhaseIn (banks : List BankCfg) (a : Nat) : Bool :=
  match banks[a / 3]? with
  | none => false
  | some c => c.typeOf ⟨a % 3, Nat.mod_lt _ (by decide)⟩ == .threePhase

/-- SOLVER_CFG (R60). -/
def solverOk (p : List Byte) (banks : List BankCfg) : Bool :=
  let rows := rowsOfBytes p
  1 ≤ u8 p 0 && u8 p 0 ≤ 24 && rows.all (fun r => r.1 ≤ 23 && r.2 ≤ 23 && threePhaseIn banks r.2) &&
    distinct (rows.map (·.1)) && (p.drop (4 + 2 * u8 p 0)).all (· == 0xFF)

/-! ### The checks (Table IMG-8) -/

/-- R53, R54 for every bank of the image. -/
def structAll (l : List Byte) (ss : List Sect) : Bool := (imgBanks l).all (fun b => (bankOf ss b).structOk)
def reactAll (l : List Byte) (ss : List Sect) : Bool := (imgBanks l).all (fun b => (bankOf ss b).reactOk)

/-- The base of a bank image is the active image (check 14). -/
def State.baseOk (s : State) (l : List Byte) : Bool :=
  u8 l 16 == 0 || (s.img.active.any (fun c => u32at l 28 == c.id))

/-- Check 15: SOLVER_CFG of a whole image; the meter axes of the active image in a bank that is replaced. -/
def State.solverCheck (s : State) (l : List Byte) (ss : List Sect) : Bool :=
  if u8 l 16 = 0 then (sectOf ss 8 0xFF).all (fun x => solverOk x.pay ((List.range 8).map (bankOf ss)))
  else s.solRows.all (fun r => r.2 / 3 ≠ u8 l 17 || threePhaseIn ((List.range 8).map (bankOf ss)) r.2)

/-- Checks 8 to 15 on an image whose bytes have authenticated: 0, or the code of the first that fails. -/
def State.contentCode (s : State) (l : List Byte) : Nat :=
  let len := u32at l 8
  match (if headerOk l then sections (u16 l 18) ((l.take (len - 20)).drop 64) else none) with
  | none => 8
  | some ss =>
    if !sectionsOk l ss then 8
    else if !structAll l ss then 9
    else if !reactAll l ss then 10
    else if !rangeOk l ss then 11
    else if !routesOk l ss then 12
    else if !opensOk ss then 13
    else if !s.baseOk l then 14
    else if !s.solverCheck l ss then 15
    else 0

/-- Checks 1 to 15 of Table IMG-8 on the bytes of a source, whose length is 131,072: 0, or the code of the first that
fails. -/
def State.imageCode (s : State) (slot : Bool) (l : List Byte) : Nat :=
  let len := u32at l 8
  if slot && l.take 4 == [0xFF, 0xFF, 0xFF, 0xFF] then 1
  else if l.take 4 ≠ [0x4A, 0x4E, 0x50, 0x52] ∨ u16 l 4 ≠ 1 ∨ u16 l 6 ≠ 64 ∨ len % 4 ≠ 0 ∨ len < 84 ∨ 131072 < len then 2
  else if s.img.keySt ≠ .programmed then 3
  else if crc32 (l.take (len - 20)) ≠ u32at l (len - 20) then 4
  else if (hmac s.img.key (l.take (len - 16))).take 16 ≠ (l.drop (len - 16)).take 16 ∨ u8 l 32 ≠ 0 then 5
  else if u16 l 12 ≠ 0x2472 then 6
  else if !natBit (u16 l 14) ((resetOf A.ID_REV).toNat - 1) then 7
  else s.contentCode l

/-- What checks 1 to 15 stage. -/
def stagedOf (l : List Byte) : Staged :=
  let len := u32at l 8
  let ss := (sections (u16 l 18) ((l.take (len - 20)).drop 64)).getD []
  if u8 l 16 = 0 then .whole (formOf l ss) else .bank (u8 l 17) (bankOf ss (u8 l 17)) (w16 (u16 l (len - 16)))

end Sys2Proof.Machine
end

