-- ==== Sys2Proof/Machine/Image.lean ====
section
/-! DEFINITION. Sys2Proof/Machine/Image.lean: loading, swapping and writing images, and the key slot (R70 to R89 of
02_juniper_image.md). The doorbell IMAGE_LOAD is in Write.lean. -/
namespace Sys2Proof.Machine

/-! ### Loads (R70, R71, R89) -/

/-- The byte address of an image slot: 0 slot A, 1 slot B (Table STORE-1). -/
def slotBase (n : Nat) : Nat := 131072 * n

/-- Bytes of a source: 0 slot A, 1 slot B, 2 the load window (Table IMG-13). -/
def State.srcBytes (s : State) (src n : Nat) : List Byte :=
  if src < 2 then s.arr (slotBase src) n else cellRds 0 s.img.window 0 n

/-- What the checks read of a source: as many bytes as its header names, and never more than the source holds. -/
def State.source (s : State) (src : Nat) : List Byte :=
  let len := u32at (s.srcBytes src 64) 8
  s.srcBytes src (if len ≤ 131072 then max 64 len else 64)

/-- A load begins: of a ticket slot, or the boot load. -/
def State.beginLoad (s : State) (slot : Option Nat) (src dest : Nat) : State :=
  s.modImg (fun x => { x with load := some ⟨slot, src, dest, none, none, 0, 0, [], 0, 0, false, false⟩ })

/-- The ticket slot of a load. -/
def Load.ticket (l : Load) : Option (Fin 8) :=
  match l.slot with
  | none => none
  | some n => if h : n < 8 then some ⟨n, h⟩ else none

/-- The load is over. -/
def State.endLoad (s : State) : State := s.modImg (fun x => { x with load := none })

/-- IMG_REJECT and its event (R86, Table IMG-13). -/
def State.imgReject (s : State) (src code : Nat) : State :=
  (s.wr A.IMG_REJECT (w16 (src * 256 + code))).raise evIMG_REJECT (w16 code) (w16 src)

/-- A load fails with a code of Table IMG-8: the operation ends FAILED, and the boot load goes on to its second slot (R71, R86,
R89). -/
def State.failLoad (s : State) (l : Load) (code : Nat) : State :=
  let s := s.imgReject l.src code
  match l.ticket with
  | some i => s.endLoad.endSlot i .failed (if code = 0x11 then failSTORE else failREJECTED)
  | none =>
    match l.second with
    | some _ => s.endLoad
    | none => s.modImg (fun x => { x with load := some { l with src := 1 - l.src, second := some code, staged := none } })

/-- The load succeeds: the final values of Table HOST-7, and DONE. -/
def State.doneLoad (s : State) (l : Load) : State :=
  let s := s.endLoad
  match l.ticket with
  | none => s
  | some i => ((s.publishFinal i 0 l.len).publishFinal i 1 l.crc).endSlot i .done 0

/-- How far a load of `len` bytes is, in units of 1/256 (R139): the bytes taken in by the checks and, for a slot as destination, the
bytes erased and programmed, of all of them (DESIGN CHOICE, notes/assumptions/9.md). -/
def Load.progress (l : Load) (len : Nat) : Nat :=
  if l.dest = 0 then 254 else 254 * (len + 4096 * l.erased + l.done) / (2 * len + 131072)

/-- The bytes verified are published once more when the CRC and tag checks end (R71). -/
def State.verified (s : State) (l : Load) (code len : Nat) : State :=
  match l.ticket with
  | none => s
  | some i => if code = 0 ∨ 4 ≤ code then s.publishPart i 0 len (max (s.ops.slots[i]).progress (l.progress len)) else s

/-- The checks end (R71): the image is staged, or its bytes are to be written to a slot, or the load fails. -/
def imageVerifyDone (s : State) : State :=
  match s.img.load with
  | none => s
  | some l =>
    if l.staged.isSome || !l.bytes.isEmpty then s
    else
      let bs := s.source l.src
      let code := s.imageCode (l.src < 2) bs
      let len := u32at bs 8
      let s := s.verified l code len
      if code = 0 then
        let l := { l with len := len, crc := u32at bs (len - 20) }
        s.modImg (fun x =>
          { x with load := some (if l.dest = 0 then { l with staged := some (stagedOf bs) } else { l with bytes := bs }) })
      else s.failLoad l code

/-- IMAGE_VERIFY_DONE (R71). -/
def execImageVerifyDone (s : State) : Host.Outcome State Fault Refusal := .next (s.whenUp (fun s => imageVerifyDone s))

/-! ### Image values (R66, R77, R186) -/

/-- An IL word takes its image value: the PRESET value in its IL fields (R66). -/
def State.takePreset (s : State) (p : Nat × Word) : State :=
  s.wr p.1 ((s.rd p.1 &&& ~~~ ilMask p.1) ||| (p.2 &&& ilMask p.1))

/-- The read-back registers of a bank's structure (Tables MAP-13, MAP-14). -/
def State.showBank (s : State) (b : Fin 8) (c : BankCfg) : State :=
  let w (k : Nat) : Word := c.hbmap[k]?.getD 0
  (((s.wr (A.SYS_SLOTMAP b.val) c.slotmap).wr (A.SYS_HBMAP01 b.val 0) (w 0)).wr (A.SYS_HBMAP01 b.val 1) (w 1)).wr
    (A.SYS_HBMAP2 b.val) (w 2)

/-- The step registers of a half-bridge take the least steps of its range (R186). -/
def State.leastSteps (s : State) (b : Fin 8) : State :=
  s.each (hbsOf b) (fun s h =>
    let d := s.drive h
    let v := w16 (16 * d.srcMin + d.snkMin)
    (s.wr (A.GATE_IDRV_HS b.val (hbIn h).val) v).wr (A.GATE_IDRV_LS b.val (hbIn h).val) v)

/-- The registers of a bank block at their reset values, then at the image values (R73, R75). -/
def State.bankValues (s : State) (b : Fin 8) (ps : List (Nat × Word)) : State :=
  ((s.clearRange (bankBase b) (bankBase b + 0x400)).each ps (fun s p => s.takePreset p)).leastSteps b

/-! ### The whole-image swap (R72, R73, R76) -/

/-- What a swap leaves of an axis: no safety reaction is undone (R24); under a structure in which the axis cannot close an ASC, its
ASC goes on as phase Hi-Z (notes/assumptions/19.md). -/
def Axis.swapped (x : Axis) (asc : Bool) : Axis :=
  { Axis.reset with plaus := x.plaus, react := if x.react = .none ∨ asc then x.react else .hiz, vcpKeep := x.vcpKeep }

/-- What a bank swap leaves of a half-bridge: its gates, and its own fault reaction (R24, R75). -/
def HalfB.swapped (x : HalfB) : HalfB := { x.start true with loc := x.loc }

/-- The engines of the blocks that a whole-image swap resets (R73, R113, R315, R338). -/
def State.resetBlocks (s : State) : State :=
  let s := ((s.clearRange 0x1000 0x8000).clearRange 0x0C00 0x0E00).wr A.SAFE_PLTHR (resetOf A.SAFE_PLTHR)
  let s := (s.modFus (fun _ => Fusion.reset)).modSched (fun _ => Sched.reset)
  let s := ((s.modSol (fun _ => Solver.reset)).modCan 0 (fun _ => Can.reset)).modCan 1 (fun _ => Can.reset)
  let s := s.modPair (fun p => { p with tbOfs := 0, fseq := 0, ownCause := 0, relCause := 0, rdy := 0 })
  s.each allBanks (fun s b =>
    let s := s.modBank b (fun k => { k.start with cause := 0, prep := none })
    let s := s.each (hbsOf b) (fun s h => s.modHb h (fun x => x.start true))
    (s.each (axesOf b) (fun s a => s.modAx a (fun x => { Axis.reset with safeSide := x.safeSide, plaus := x.plaus }))).stopBank b)

/-- Identity and structure registers of a whole image (Tables IMG-14, MAP-13 to MAP-15, LAND-13). -/
def State.showImage (s : State) (c : ImageCfg) : State :=
  let s := (((s.wrQ (A.IMG_ID 0) 2 c.id).wrQ (A.IMG_VER 0) 2 c.ver).wrQ (A.IMG_LEN 0) 2 c.len).wrQ (A.IMG_CRC 0) 2 c.crc
  let s := s.wrs (A.IMG_BANKTAG 0) (List.replicate 8 0)
  let s := s.wr A.SYS_DDP (w16 (32768 * b2n c.ddpEn + c.ddpBank))
  let s := s.wr A.SYS_PINALT (w16 ((List.range 5).map (fun g => s.landAlt g * 4 ^ g)).sum)
  s.each allBanks (fun s b => s.showBank b (c.banks[b.val]?.getD BankCfg.none))

/-- A whole image is swapped in (R73, R76). `cleared` of IMG_LOADED says that the recorder was cleared. -/
def State.wholeSwap (s : State) (c : ImageCfg) (src : Nat) (fallback : Bool) : State :=
  let t := 200 * s.clk.ticks
  let s := ((s.allOff t).wr A.PWR_DOM_REQ 0).resetBlocks
  let s := s.modImg (fun x =>
    { x with active := some c, src := src + 1, fallback := fallback, bankImg := 0, swapped := true })
  let s := s.showImage c
  let s := s.each allBanks (fun s b => s.bankValues b (c.banks[b.val]?.getD BankCfg.none).presets)
  let s := (s.each c.presets (fun s p => s.takePreset p)).ppsAtSwap
  let s := s.each allBanks (fun s b => (s.loadSteps b).redriveBank t b)
  let clear := c.recP ≠ s.rcd.p
  let s := if clear then (s.thaw .swap).flushDue.modRcd (fun r => { r.clear with p := c.recP }) else s
  (s.raiseDomSw 2).raise evIMG_LOADED 0x00FF (w16 (b2n clear))

/-- Some bank is armed (the interlock of R72). -/
def State.anyArmed (s : State) : Bool := allBanks.any (fun b => (s.bank[b]).armed)

/-- The boot load has taken its second slot (R89). -/
def State.bootFallback (s : State) (l : Load) : State :=
  match l.slot, l.second with
  | none, some code => s.raise evIMG_FALLBACK (w16 l.src) (w16 code)
  | _, _ => s

/-- The swap tick of a whole image (R72, R73). -/
def wholeImageSwap (l : Load) (c : ImageCfg) (s : State) : State :=
  if s.anyArmed then s.failLoad l 0x10
  else ((s.wholeSwap c l.src (l.slot.isNone && l.second.isSome)).bootFallback l).doneLoad l

/-- WHOLE_IMAGE_SWAP (R73). -/
def execWholeImageSwap (s : State) : Host.Outcome State Fault Refusal :=
  .next (s.whenUp (fun s =>
      match s.img.load with
    | none => s
    | some l =>
      match l.staged with
      | some (.whole c) => wholeImageSwap l c s
      | _ => s))

/-! ### The bank-image swap (R72, R75) -/

/-- A bank after its structure has been replaced: what holds a reaction stays, though its flag reads its reset value (R24, R75,
Table IMG-10), the rest starts anew (notes/assumptions/19.md). -/
def Bank.swap (k : Bank) : Bank :=
  { k with
    prep := none, cause := 0, warm := false, blank := [], dlcValid := false, dlcGen := 0, dlcAt := 0, dlcMap := Vector.replicate 9 [], dlcCyc := none
    vmRaw := 0, chopLong := false, vovOn := 0xB8, vovOff := 0xB0, vov2c := 0xD0, refBad := 0, refGood := 0
    conv := Vector.replicate 3 Conv.reset }

/-- A bank image is swapped in (R75): the bank's content is replaced, its registers take reset and image values, and its
engines start anew if its domain is on. -/
def State.bankSwap (s : State) (b : Fin 8) (c : BankCfg) (tag : Word) : State :=
  let t := 200 * s.clk.ticks
  let s := s.modImg (fun x =>
    { x with
      active := x.active.map (fun i => { i with banks := i.banks.set b.val c })
      bankImg := x.bankImg ||| BitVec.twoPow 8 b.val })
  let s := ((s.showBank b c).wr (A.IMG_BANKTAG b.val) tag).bankValues b c.presets
  let s := s.modBank b Bank.swap
  let s := s.each (hbsOf b) (fun s h => s.modHb h HalfB.swapped)
  let s := s.each (axesOf b) (fun s a => s.modAx a (fun x => x.swapped (s.axType a).canAsc))
  let s := s.each (axesOf b) (fun s a => (s.sideFor a false).rejudge a none)
  let s := s.loadSteps b
  let s := (if s.dom b.val then s.startBank t b else s.stopBank b).redriveBank t b
  (s.raise evIMG_LOADED (w16 (256 + b.val)) 0).raise (evBANK_CFG b) (w16 (256 + b.val)) tag

/-- The swap tick of a bank image (R72, R75); the operations that hold the bank's axes end INTERRUPTED with it. -/
def bankImageSwap (l : Load) (b : Fin 8) (c : BankCfg) (tag : Word) (s : State) : State :=
  if (s.bank[b]).armed then s.failLoad l 0x10 else (s.bankSwap b c tag).doneLoad l

/-- BANK_IMAGE_SWAP (R75). -/
def execBankImageSwap (s : State) : Host.Outcome State Fault Refusal :=
  .next (s.whenUp (fun s =>
      match s.img.load with
    | none => s
    | some l =>
      match l.staged with
      | some (.bank n c tag) => if h : n < 8 then bankImageSwap l ⟨n, h⟩ c tag s else s
      | _ => s))

/-! ### Writing slots (R79, R142, R406) -/

/-- The first sector of the destination slot. -/
def Load.firstSec (l : Load) : Nat := 32 * (l.dest - 1)

/-- `n` bytes that the spec leaves open: what a burst that does not read back has left. -/
def State.freeBytes (s : State) (n : Nat) : State × List Byte :=
  ({ s with free := s.free + n }, (List.range n).map (fun k => (Config.freeWord (s.free + k)).setWidth 8))

/-- Change the running load. -/
def State.modLoad (s : State) (f : Load → Load) : State := s.modImg (fun x => { x with load := x.load.map f })

/-- An aborted slot write ends: the slot's first sector is erased unless it already is, past the energy gate (R142). -/
def State.stopWrite (s : State) (l : Load) (i : Fin 8) (fail : Nat) : State :=
  if s.secErased l.firstSec then s.endLoad.endSlot i .aborted fail
  else if s.gateOpen 2 then (s.eraseBytes l.firstSec).endLoad.endSlot i .aborted fail
  else s.modLoad (fun l => { l with stopping := true })

/-- The next sector erase or program burst of a slot write, with what it leaves. -/
def State.writePart (s : State) (l : Load) (ok : Bool) : State × Load :=
  if l.erased < 32 then (s.eraseBytes (l.firstSec + l.erased), { l with erased := l.erased + 1, bad := l.bad || !ok })
  else
    let part := (l.bytes.drop l.done).take 256
    match (if ok then (s, part) else s.freeBytes part.length) with
    | (s, bs) =>
      (s.modStore (fun t => { t with mem := cellWrs 0xFF t.mem (slotBase (l.dest - 1) + l.done) bs }),
        { l with done := l.done + part.length, bad := l.bad || !ok })

/-- What the next part of a slot write costs in mJ (Table STORE-6, R399). -/
def Load.cost (l : Load) : Nat := if l.erased < 32 then 2 else burstCost (min 256 (l.bytes.length - l.done))

/-- One burst or erase of a slot write ends (R79, R406). -/
def slotWriteBurst (l : Load) (i : Fin 8) (ok : Bool) (s : State) : State :=
  let abort := s.ops.slots[i].abort
  if l.stopping then s.stopWrite l i (abort.getD failHOST)
  else if s.gateOpen l.cost then
    match s.writePart l ok with
    | (s, l) =>
      let s := (s.modImg (fun x => { x with load := some l })).modSlot i (fun x => { x with progress := max x.progress (l.progress l.len) })
      match abort with
      | some f => s.stopWrite l i f
      | none => if l.done < l.bytes.length then s else if l.bad then s.failLoad l 0x11 else s.doneLoad l
  else s

/-- SLOT_WRITE_BURST (R406): at a burst boundary of the store, where neither an append nor a compaction step goes before it. -/
def execSlotWriteBurst (ok : Bool) (s : State) : Host.Outcome State Fault Refusal :=
  .next (s.whenUp (fun s =>
      match s.img.load with
    | none => s
    | some l =>
      match l.ticket with
      | some i => if !l.bytes.isEmpty && s.store.burst.isNone && !s.storeDue then slotWriteBurst l i ok s else s
      | none => s))

/-! ### Key programming (R80, R88) -/

/-- The key slot takes words and commands: BLANK, and no programming runs. -/
def State.keyOpen (s : State) : Bool := s.img.keySt == .blank && !s.img.keyRun

/-- A write to IMG_KEYDATA (R80). -/
def imgKeydataWrite (d : Word) (s : State) : State :=
  if s.keyOpen then s.modImg (fun x => { x with keyWords := (x.keyWords ++ [d]).take 17 }) else s

/-- IMG_KEYDATA_WRITE (R80). -/
def execImgKeydataWrite (d : Word) (s : State) : Host.Outcome State Fault Refusal := .next (s.whenHost (fun s => imgKeydataWrite d s))

/-- A broken or incomplete sequence (R80). -/
def State.keyBroken (s : State) : State :=
  (s.setFlags A.IMG_KEYSTAT (bitW 2)).modImg (fun x => { x with keyWords := [], keyArm := false })

/-- A write to IMG_KEYCMD (R80). -/
def keyCmd (d : Word) (s : State) : State :=
  if !s.keyOpen then s
  else if d = 0x00C3 ∧ s.img.keyArm = false then s.modImg (fun x => { x with keyArm := true })
  else if d = 0x003C ∧ s.img.keyArm = true ∧ s.img.keyWords.length = 16 then
    s.modImg (fun x => { x with keyRun := true, key := wordBytes x.keyWords, keyWords := [], keyArm := false })
  else s.keyBroken

/-- KEY_CMD_ARM (R80). -/
def execKeyCmdArm (s : State) : Host.Outcome State Fault Refusal := .next (s.whenHost (fun s => keyCmd 0x00C3 s))

/-- KEY_CMD_PROGRAM (R80). -/
def execKeyCmdProgram (s : State) : Host.Outcome State Fault Refusal := .next (s.whenHost (fun s => keyCmd 0x003C s))

/-- Programming and verification end (R80, R88). The check value of a damaged key is not stated: a free value. -/
def keyProgramDone (ok : Bool) (s : State) : State :=
  let s := s.modImg (fun x => { x with keyRun := false, keySt := if ok then .programmed else .damaged })
  let st := s.rd A.IMG_KEYSTAT &&& bitW 2
  if ok then
    (s.wr A.IMG_KEYSTAT (st ||| 1)).wr A.IMG_KEYCHK (w16 (u16 (hmac s.img.key (List.replicate 16 0)) 0))
  else (s.took.wr A.IMG_KEYSTAT (st ||| 2)).wr A.IMG_KEYCHK (Config.freeWord s.free)

/-- KEY_PROGRAM_DONE (R80). -/
def execKeyProgramDone (ok : Bool) (s : State) : Host.Outcome State Fault Refusal :=
  .next (if s.img.keyRun then keyProgramDone ok s else s)

end Sys2Proof.Machine
end

