-- ==== Sys2Proof/Machine/LongOps.lean ====
section
/-! DEFINITION. Sys2Proof/Machine/LongOps.lean: the long-operation sequencer (R135 to R146 of 04_host_link.md): doorbells, the
start of an operation, its partial and final values, aborts, time-outs and releases. -/
namespace Sys2Proof.Machine

/-! ### Doorbells (R135, R136, R144) -/

/-- The OP_PARAM words. -/
def State.opParams (s : State) : List Word := s.rds (A.OP_PARAM 0) 8

/-- The parameter words that Table HOST-7 lets an operation take: the others must be 0 (R135). -/
def paramsOk (op : Nat) (ps : List Word) : Bool :=
  let p (k : Nat) : Word := ps[k]?.getD 0
  let rest (k : Nat) : Bool := (ps.drop k).all (· == 0)
  if op = opSHUNT_CAL ∨ op = opDLINE_CAL then p 0 &&& 0xFF00 == 0 && rest 1
  else if op = opSELF_TEST then p 0 &&& 0xF000 == 0 && rest 1
  else if op = opMOTOR_ID then
    (p 0).toNat ≤ 23 && 100 ≤ (p 1).toNat && (p 1).toNat ≤ 30000 && 1 ≤ (p 2).toNat && (p 2).toNat ≤ 32 && rest 3
  else rest 0

/-- A slot to be written from itself: IMG_LDCTL names one slot as source and destination (notes/assumptions/19.md). -/
def ldctlOk (w : Word) : Bool := field w 13 12 != field w 15 14 + 1

/-- The doorbell is no host error (R21, R135): the op code is judged first, then the bound of eight slots (R144, R145), and
only then the parameters. -/
def State.doorbellOk (s : State) (op : Nat) : Bool :=
  !opCodes.contains op || allSlots.all (fun i => s.ops.slots[i].st != .free) || (paramsOk op s.opParams && (op != opIMAGE_LOAD || ldctlOk (s.rd A.IMG_LDCTL)))

/-- An operation of the class runs, or the boot load occupies the image class (R137). -/
def State.classBusy (s : State) (c : Nat) : Bool :=
  (c == 0 && s.img.load.isSome) ||
    allSlots.any (fun i => s.ops.slots[i].st.active && opClass s.ops.slots[i].op == c)

/-- The first QUEUED slot of a class, in the order of the doorbells (R137). -/
def State.firstOf (s : State) (c : Nat) : Option Nat :=
  s.ops.order.find? (fun n => if h : n < 8 then opClass s.ops.slots[(⟨n, h⟩ : Fin 8)].op == c else false)

/-! ### Preconditions and starts (R135, R271, R462) -/

/-- The banks of a mask. -/
def OpSlot.banks (x : OpSlot) : List (Fin 8) := allBanks.filter x.masks

/-- No axis of the bank runs: each is STOPPED. -/
def State.axesStopped (s : State) (b : Fin 8) : Bool := (axesOf b).all (fun a => s.ax[a].st == .stopped)

/-- The axis that MOTOR_ID names. -/
def OpSlot.motor (x : OpSlot) : Fin 24 := ⟨x.axis % 24, Nat.mod_lt _ (by decide)⟩

/-- The preconditions of R135, with those of R271 (I_T is at most 0.9 of AX_ISCALE, P1 in mA, AX_ISCALE in 10 mA) and R462. -/
def State.opReady (s : State) (x : OpSlot) : Bool :=
  if x.op = opSHUNT_CAL then x.banks.all (fun b => s.dom b.val && s.axesStopped b)
  else if x.op = opDLINE_CAL then x.banks.all (fun b => s.dom b.val && !(s.bank[b]).armed)
  else if x.op = opSELF_TEST then
    (!x.bankTests || allBanks.all (fun b => !(s.dom b.val && (s.bank[b]).armed))) && (!bit (x.param 0) 11 || s.dom 9)
  else if x.op = opMOTOR_ID then
    let a := x.motor
    s.axType a == .threePhase && (s.bank[axBank a]).armed && s.ax[a].st == .stopped &&
      (x.param 1).toNat ≤ 9 * (s.axReg A.AX_ISCALE a).toNat
  else true

/-- An operation begins to run; IMAGE_LOAD with BOOTSEL = 11 ends with FORMAT (R83). -/
def State.beginOp (s : State) (i : Fin 8) : State :=
  let x := s.ops.slots[i]
  let now := s.clk.ticks
  let s := s.modOps (fun o => { o with order := o.order.filter (· != i.val) })
  let s := s.modSlot i (fun x => { x with st := .running, started := now, deferred := 0 })
  if x.op = opIMAGE_LOAD then
    let w := x.param 8
    if s.lands.bootsel = 3 then (s.imgReject (field w 15 14) 0x02).endSlot i .failed failREJECTED
    else s.beginLoad (some i.val) (field w 15 14) (field w 13 12)
  else if x.op = opMOTOR_ID then
    s.modAx x.motor (fun y => { y with st := .ident, cause := .none, since := now, ang := 0, ident := Ident.reset })
  else if x.op = opSHUNT_CAL then s.each x.banks (fun s b => s.modBank b (fun y => { y with calSum := 0, calCnt := 0 }))
  else if x.op = opCOMPACT then s.modStore (fun t => { t with copied := 0 })
  else s

/-- A QUEUED slot starts: its preconditions are checked (Table HOST-8). -/
def State.startOp (s : State) (i : Fin 8) : State :=
  if s.opReady s.ops.slots[i] then s.beginOp i else s.endSlot i .failed failPRECOND

/-- Start a slot whose turn it is (R137). -/
def opStart (i : Fin 8) (s : State) : State :=
  let x := s.ops.slots[i]
  let c := opClass x.op
  if x.st = .queued ∧ s.classBusy c = false ∧ s.firstOf c = some i.val then s.startOp i else s

/-- OP_START (R137). -/
def execOpStart (slot : Fin 8) (s : State) : Host.Outcome State Fault Refusal := .next (s.whenUp (fun s => opStart slot s))

/-- A doorbell (R136, R144): the lowest free slot with the next generation number, the parameters latched; it starts at once if
its class is idle (R137, R146). -/
def doorbell (op : Nat) (s : State) : State :=
  if opCodes.contains op then
    match allSlots.find? (fun i => s.ops.slots[i].st == .free) with
    | none => (s.satInc A.OP_QFULLCNT).wr A.OP_TICKET 0x8000
    | some i =>
      let gen := s.ops.gen
      let x : OpSlot :=
        { OpSlot.reset with
          st := .queued, op := op, gen := gen, since := s.clk.ticks
          params := if op = opIMAGE_LOAD then s.opParams ++ [s.rd A.IMG_LDCTL] else s.opParams }
      let s := (s.modSlot i (fun _ => x)).modOps (fun o => { o with gen := (gen + 1) % 32, order := o.order ++ [i.val] })
      opStart i (s.wr A.OP_TICKET (w16 (0x4000 + x.ticket i)))
  else s.wr A.OP_TICKET 0xC000

/-- OP_UNKNOWN_CODE (R144): a doorbell with a code that Table HOST-7 does not name. -/
def execOpUnknownCode (op : Byte) (s : State) : Host.Outcome State Fault Refusal :=
  .next (s.whenHost (fun s => if opCodes.contains op.toNat then s else doorbell op.toNat s))

/-! ### Ends (R138, R142, R143) -/

/-- An operation ends ABORTED or FAILED, with what it leaves: a load is dropped, the measured lines keep their offsets, the
axis of MOTOR_ID takes its hold state, from which its engine brings it to STOPPED (R74, R170, R271, Table AXIS-4). -/
def State.dropOp (s : State) (i : Fin 8) (st : OpState) (fail : Nat) : State :=
  let x := s.ops.slots[i]
  if x.op = opIMAGE_LOAD then s.endLoad.endSlot i st fail
  else if x.op = opDLINE_CAL then (s.measureLines x false).endSlot i st fail
  else if x.op = opMOTOR_ID then
    (s.endSlot i st fail).modAx x.motor (fun y =>
      if y.st = .ident then { y with parked := some (if fail = failHOST then .host else .none) } else y)
  else s.endSlot i st fail

/-- The slot write has begun to erase: its first sector erase starts as soon as the checks have passed, unless the energy gate
defers it (R79, R142). -/
def State.writing (s : State) : Bool :=
  match s.img.load with
  | none => false
  | some l => !l.bytes.isEmpty && (l.erased != 0 || s.gateOpen l.cost)

/-- A step of COMPACT runs (R142). -/
def State.compacting (s : State) : Bool :=
  match s.store.comp with
  | none => false
  | some c => c.why == .operation

/-- An abort of a QUEUED or running slot, at once or at the operation's next safe step (R142, Table HOST-8). -/
def State.abortSlot (s : State) (i : Fin 8) (fail : Nat) : State :=
  let x := s.ops.slots[i]
  if x.st = .queued then s.endSlot i .aborted fail
  else if x.st.active then
    let wait := if x.op = opIMAGE_LOAD then s.writing else if x.op = opCOMPACT then s.compacting else x.op != opMOTOR_ID
    if wait then s.modSlot i (fun x => { x with abort := some (x.abort.getD fail) }) else s.dropOp i .aborted fail
  else s

/-- The slot a ticket value names, if its generation matches and it is not FREE (R141, R142). -/
def State.ticketSlot (s : State) (d : Word) : Option (Fin 8) :=
  let i : Fin 8 := ⟨field d 2 0 % 8, Nat.mod_lt _ (by decide)⟩
  if s.ops.slots[i].st != .free && s.ops.slots[i].gen == field d 7 3 then some i else none

/-- A write to OP_ABORT (R142). -/
def opAbort (d : Word) (s : State) : State :=
  match s.ticketSlot d with
  | none => s
  | some i => s.abortSlot i failHOST

/-- The release of a slot that is not terminal, its generation matching, is a host error (R141). -/
def State.releaseOk (s : State) (d : Word) : Bool :=
  match s.ticketSlot d with
  | none => true
  | some i => s.ops.slots[i].st.terminal

/-- A write to OP_RELEASE (R141): a terminal slot becomes FREE, and all it shows reads 0. -/
def opRelease (d : Word) (s : State) : State :=
  match s.ticketSlot d with
  | none => s
  | some i => if s.ops.slots[i].st.terminal then s.modSlot i (fun _ => OpSlot.reset) else s

/-! ### Partial values (R138 to R140, R71, R271, R272, R402) -/

/-- The bytes verified so far, a further 1,024 of them (R71); none while the checks of Table IMG-8 read no more. -/
def State.moreVerified (s : State) (i : Fin 8) : Option Nat :=
  match s.img.load with
  | none => none
  | some l =>
    let bs := s.source l.src
    let code := s.imageCode (l.src < 2) bs
    let n := ((s.ops.slots[i]).res[(0 : Fin 8)]).val + 1024
    if l.ticket = some i ∧ l.staged.isNone ∧ l.bytes.isEmpty ∧ (code = 0 ∨ 4 ≤ code) ∧ n ≤ bs.length then some n else none

/-- A running operation publishes a partial value, SHUNT_CAL the channels it has done of a bank (Table HOST-7). DLINE_CAL and SELF_TEST have no partial values: only their progress moves (R139), and an abort that waits takes effect at the line or test they stand
at (R142). -/
def opPartial (i e : Fin 8) (v progress : Nat) (s : State) : State :=
  let x := s.ops.slots[i]
  if !x.st.active then s
  else if x.op = opIMAGE_LOAD then
    match s.moreVerified i with
    | none => s
    | some n => if e = 0 then s.publishPart i 0 n progress else s
  else if x.op = opSHUNT_CAL then
    if x.masks e && v == x.work / 16 ^ e.val % 16 && x.res[e].val < v then s.publishPart i e v progress else s
  else if x.op = opMOTOR_ID then if e.val < 4 then s.publishPart i e v progress else s
  else if x.op = opCOMPACT then if e = 0 then s.publishPart i 0 s.store.copied progress else s
  else
    match x.abort with
    | none => s.modSlot i (fun x => { x with progress := min 254 progress })
    | some f => s.dropOp i .aborted f

/-- OP_PARTIAL (R140). -/
def execOpPartial (slot entry : Fin 8) (value : BitVec 32) (progress : Byte) (s : State) : Host.Outcome State Fault Refusal :=
  .next (s.whenUp (fun s => opPartial slot entry value.toNat progress.toNat s))

/-! ### Final values (Table HOST-7) -/

/-- Value `k` of a list of 32-bit values. -/
def valAt (vals : List (BitVec 32)) (k : Nat) : Nat := (vals[k]?.getD 0).toNat

/-- The largest offset of a bank's channels (Table HOST-7). -/
def State.maxOffset (s : State) (b : Fin 8) : Nat :=
  ((List.range 9).map (fun j => (sInt (s.rd (A.CONV_OFS b.val j))).natAbs)).foldl max 0

/-- The tests that a SELF_TEST runs: each bank test once for each bank whose domain is on (R462). -/
def State.testCount (s : State) (x : OpSlot) : Nat :=
  let m := x.param 0
  let n (l : List Nat) : Nat := (l.filter (bit m)).length
  n [0, 1, 2, 3, 4, 11] + n [5, 6, 7, 8, 9, 10] * (allBanks.filter (fun b => s.dom b.val)).length

/-- What a SELF_TEST leaves in SAFE_STAT.mech (R462). -/
def mechAfter (old : Mech) (mask failed : Nat) : Mech :=
  if failed % 32 ≠ 0 then .failed else if old = .failed ∧ mask % 32 = 31 then .passed else old

/-- MOTOR_ID's result is outside the range of its register (R271). -/
def outOfMot (vals : List (BitVec 32)) : Bool := (List.range 4).any (fun k => 65535 < valAt vals k)

/-- An operation has done its work (Table HOST-7): its final values, and its final state. -/
def State.finishOp (s : State) (i : Fin 8) (model : Bool) (vals : List (BitVec 32)) : State :=
  let x := s.ops.slots[i]
  if x.op = opSHUNT_CAL then
    if x.banks.all x.shuntDone then
      (s.each x.banks (fun s b => s.publishFinal i b (s.maxOffset b))).endSlot i .done 0
    else s
  else if x.op = opDLINE_CAL then
    let s := s.measureLines x true
    (s.each x.banks (fun s b => s.publishFinal i b (valAt vals b.val))).endSlot i .done 0
  else if x.op = opSELF_TEST then
    let mask := (x.param 0).toNat
    let failed := Nat.land (valAt vals 0) mask
    let s := (s.publishFinal i 0 failed).publishFinal i 1 (s.testCount x)
    let s := s.modSafe (fun y => { y with mech := mechAfter y.mech mask failed })
    if failed = 0 then s.endSlot i .done 0 else s.endSlot i .failed failTEST
  else if x.op = opMOTOR_ID then
    let ok := model && !outOfMot vals
    let s := s.each (allSlots.filter (fun e => e.val < 4 && (ok || e.val < vals.length))) (fun s e => s.publishFinal i e (valAt vals e.val))
    if ok then s.dropOp i .done 0 else s.dropOp i .failed failMODEL
  else if x.op = opCOMPACT then
    if s.deadSecs.isEmpty && !s.compacting then
      let n := s.storeFree
      ((s.publishFinal i 0 n).endSlot i .done 0).raise evCOMPACT_DONE (w16 n) (w16 s.store.copied)
    else s
  else s

/-- The end of an operation that is not an image load: an abort that waits has reached its safe step, or the work is done
(R138, R142). -/
def opEnd (i : Fin 8) (model : Bool) (vals : List (BitVec 32)) (s : State) : State :=
  let x := s.ops.slots[i]
  if !x.st.active || x.op == opIMAGE_LOAD then s
  else
    match x.abort with
    | some f => if x.op = opCOMPACT ∧ s.compacting then s else s.dropOp i .aborted f
    | none => s.finishOp i model vals

/-- OP_END (R138). -/
def execOpEnd (slot : Fin 8) (model : Bool) (vals : List (BitVec 32)) (s : State) : Host.Outcome State Fault Refusal :=
  .next (s.whenUp (fun s => opEnd slot model vals s))

/-! ### Time-outs (R143, Tables HOST-7, IMG-9) -/

/-- The longest running time of an operation, in ticks. -/
def State.maxTicks (s : State) (x : OpSlot) : Nat :=
  if x.op = opIMAGE_LOAD then
    match s.img.load with
    | none => 0
    | some l =>
      let len := u32at (s.srcBytes l.src 64) 8
      let staged := match l.staged with
        | some (.bank _ _ _) => 50
        | _ => 0
      500 + (if l.src < 2 then 35 else 15) * len / 1024 + staged + (if l.dest = 0 then 0 else 2000000)
  else if x.op = opSHUNT_CAL then 20000 * x.banks.length
  else if x.op = opDLINE_CAL then 5000 * x.banks.length
  else if x.op = opSELF_TEST then 50000
  else if x.op = opMOTOR_ID then 10000000
  else 1500000

/-- A running operation has passed its maximum, energy-gate deferral not counted. -/
def State.overdue (s : State) (x : OpSlot) : Bool := s.maxTicks x + x.deferred < s.clk.ticks - x.started

/-- OP_TIMEOUT (R143). -/
def execOpTimeout (slot : Fin 8) (s : State) : Host.Outcome State Fault Refusal :=
  let x := s.ops.slots[slot]
  .next (s.whenUp (fun s =>
      if x.st.active && s.overdue x then s.dropOp slot .failed failTIMEOUT else s))

/-- The energy gate defers a running operation in this tick: the next erase or burst of a slot write, or of COMPACT's step
(R399, Table HOST-7). -/
def State.gateHolds (s : State) (x : OpSlot) : Bool :=
  if x.op = opIMAGE_LOAD then
    match s.img.load with
    | none => false
    | some l => !l.bytes.isEmpty && !s.gateOpen (if l.stopping then 2 else l.cost)
  else if x.op = opCOMPACT then s.compacting && (s.compHeld || s.store.gateWait)
  else false

/-- Count the tick against the energy gate for the operations that it defers. -/
def State.countDeferred (s : State) : State :=
  s.each allSlots (fun s i =>
    if s.ops.slots[i].st.active && s.gateHolds s.ops.slots[i] then
      s.modSlot i (fun x => { x with deferred := x.deferred + 1 })
    else s)

/-! ### What a queued or running load locks (Table IMG-10) -/

/-- The slots that hold a queued or running IMAGE_LOAD. -/
def State.loads (s : State) : List OpSlot :=
  (allSlots.map (fun i => s.ops.slots[i])).filter (fun x => x.op == opIMAGE_LOAD && (x.st == .queued || x.st.active))

/-- The bank whose block a queued or running load of a bank image locks, by the header of its source. -/
def State.lockedBank (s : State) (b : Nat) : Bool :=
  s.loads.any (fun x =>
    field (x.param 8) 13 12 == 0 &&
      (let h := s.srcBytes (field (x.param 8) 15 14) 64
       u8 h 16 == 1 && u8 h 17 == b))

/-- A load from the window is queued or running. -/
def State.windowLocked (s : State) : Bool := s.loads.any (fun x => field (x.param 8) 15 14 == 2)

end Sys2Proof.Machine
end

