-- ==== Sys2Proof/Machine/Pair.lean ====
section
/-! DEFINITION. Sys2Proof/Machine/Pair.lean: the redundant pair (14_pair.md): roles and claims, the gate check, the link and
its frames, following the owner, and the hot takeover. The release of ownership is in Reactions.lean, the link's down states
in Domains.lean. -/
namespace Sys2Proof.Machine

/-! ### Role changes (R417, R420, R421, R440) -/

/-- The device takes a role: PAIR_OWNER with its cause (Table PAIR-5). -/
def State.takeRole (s : State) (owner : Bool) (cause : Nat) : State :=
  (s.modPair (fun p => { p with owner := owner, ownCause := cause })).raise evPAIR_OWNER (w16 (b2n owner)) (w16 cause)

/-- An ownfault or an idclash is found: PAIR_OWNER with the role unchanged (R440). -/
def State.ownFault (s : State) : State :=
  if s.pair.ownfault then s
  else (s.modPair (fun p => { p with ownfault := true })).raise evPAIR_OWNER (w16 (b2n s.pair.owner)) 0

/-- Equal PAIR_ID straps are found (R421, R425). -/
def State.idClash (s : State) : State :=
  if s.pair.idclash then s
  else (s.modPair (fun p => { p with idclash := true })).raise evPAIR_OWNER (w16 (b2n s.pair.owner)) 0

/-- An arm made while standby is undone by the claim (R420); Table SAFE-5 has no cause for it (notes/assumptions/21.md). -/
def State.unarm (s : State) (t : Nat) (b : Fin 8) : State :=
  if (s.bank[b]).armed then
    let s := s.each (axesOf b) (fun s a => s.stopAxis a .disarm)
    ((s.cutShuntCal b).modBank b (fun k => { k with armed := false })).redriveBank t b
  else s

/-- tCLAIM in PWM clocks (R420). -/
def State.tclaim (s : State) : Nat := if s.lands.pairId = 0 then 200000 else 4000000

/-- The claim of R420 at PWM clock `t`. -/
def pairClaim (t : Nat) (s : State) : State :=
  let s := (s.each allBanks (fun s b => s.unarm t b)).modPair (fun p => { p with claimAt := some t })
  (s.takeRole true 1).refloatAll t

/-- PAIR_CLAIM (R420): not in lockout, after an identity clash (R421), or while frames of an owner arrive (Table PAIR-8). -/
def execPairClaim (at' : Fin 200) (s : State) : Host.Outcome State Fault Refusal :=
  let p := s.pair
  .next (if s.up && !p.owner && !p.lockout && !p.idclash && !p.ownIn && p.take.isNone &&
      !(p.ownfault && p.link == .up) && decide (p.ownAt + s.tclaim ≤ s.clkAt at') then
      pairClaim (s.clkAt at') s
    else s)

/-- The window of R421 in which PAIR_OWN_IN asserting is a collision of claims: 10 µs. -/
def State.collides (s : State) (t : Nat) : Bool :=
  match s.pair.claimAt with
  | none => false
  | some c => s.pair.owner && t ≤ c + 2000

/-- PAIR_OWN_IN changes (R417 to R421); the owner it shows is not silent (R434). `equal` says that both straps of the pair read the same. -/
def pairOwnInChange (t : Nat) (level equal : Bool) (s : State) : State :=
  if s.pair.ownIn = level then s
  else
    let s := s.modPair (fun p =>
      { p with
        ownIn := level, ownAt := t
        take := if level = true ∧ p.take = some .seen ∧ p.takeCause = 3 then none else p.take })
    let s :=
      if level && s.collides t then
        if equal then (s.modPair (fun p => { p with idclash := true })).releaseOwner t 9
        else if s.lands.pairId = 1 then s.releaseOwner t 9
        else s
      else s
    s.each allBanks (fun s b => s.gateCheck t b)

/-- PAIR_OWN_IN_CHANGE (R417, R419, R421), while the VIO-level inputs are heard (R384). -/
def execPairOwnInChange (at' : Fin 200) (level equal : Bool) (s : State) : Host.Outcome State Fault Refusal :=
  .next (if !s.hears then s else if s.up then pairOwnInChange (s.clkAt at') level equal s
    else if s.pair.ownIn = level then s
    else s.modPair (fun p => { p with ownIn := level, ownAt := s.clkAt at' }))

/-- An owner sees PAIR_OWN_IN asserted for 2 µs outside a claim window (Table PAIR-8), judged at PWM clock `t`. -/
def State.watchOwnIn (s : State) (t : Nat) : State :=
  let from' := match s.pair.claimAt with
    | none => s.pair.ownAt
    | some c => max s.pair.ownAt (c + 2000)
  if s.pair.owner && s.pair.ownIn && decide (from' + 400 ≤ t) then s.ownFault else s

/-! ### Gate check (R419) -/

/-- Some bank's domain is on. -/
def State.anyBankOn (s : State) : Bool := allBanks.any (fun b => s.dom b.val)

/-- Every timer of an armed bank whose PWM_RUN bit is 1 restarts at one start edge (Table PAIR-6, R162). -/
def State.restartTimers (s : State) (t : Nat) : State :=
  s.each (List.finRange 24) (fun s x =>
    if (s.bank[axBank x]).armed && s.timOn x && s.runSet x then
      s.modTim x (fun y => { y with run := false, stopping := false, startAt := some (t + 4) })
    else s)

/-- The first bank leaves pin float in a takeover: PAIR_LASTGAP in 0.1 µs, and the timers restart (R433, Table PAIR-6). -/
def State.takeDone (s : State) (t : Nat) : State :=
  if s.pair.take = some .committed then
    let s := s.wr A.PAIR_LASTGAP (w16 (satU ((t - s.pair.takeAt) / 20)))
    (s.restartTimers t).modPair (fun p => { p with take := none })
  else s

/-- A bank of the owner leaves pin float (R184, R419). -/
def gateCheckPass (t : Nat) (b : Fin 8) (s : State) : State :=
  let s := s.takeDone t
  let s := s.modPair (fun p => { p with gchk := p.gchk.set b none })
  s.leaveFloat t b

/-- GATE_CHECK_PASS (R419): the gates have been sensed low for tGCHK. -/
def execGateCheckPass (at' : Fin 200) (b : Fin 8) (s : State) : Host.Outcome State Fault Refusal :=
  .next (match s.pair.gchk[b] with
    | none => s
    | some t0 => if t0 + 400 ≤ s.clkAt at' then gateCheckPass (s.clkAt at') b s else s)

/-! ### Lanes and link states (R424, R428) -/

/-- LANE_ALIGNED (R424): with both lanes aligned, TRAIN passes to HELLO; OFF and LOST ignore what they receive. -/
def execLaneAligned (lane : Fin 2) (s : State) : Host.Outcome State Fault Refusal :=
  .next (if s.pair.link = .off ∨ s.pair.link = .lost then s
    else
      s.modPair (fun p =>
        let p := if lane = 0 then { p with lane0 := true } else { p with lane1 := true }
        if p.link = .train ∧ p.lane0 = true ∧ p.lane1 = true then { p with link := .hello } else p))

/-- LANE_ALIGNMENT_LOST (R424, Table PAIR-5b). -/
def execLaneAlignmentLost (lane : Fin 2) (s : State) : Host.Outcome State Fault Refusal :=
  let s := s.modPair (fun p => if lane = 0 then { p with lane0 := false } else { p with lane1 := false })
  .next (match s.pair.link with
    | .train => s
    | .hello => s.modPair (fun p => { p with link := .train })
    | .up => s.linkDown .lost 2
    | _ => s)

/-- tRETRY in ticks (R428). -/
def State.tretry (s : State) : Nat := 100000 * field (s.rd A.PAIR_CTL) 15 8

/-- LINK_RETRY_END (R428). -/
def execLinkRetryEnd (s : State) : Host.Outcome State Fault Refusal :=
  .next (if s.pair.link = .lost ∧ s.tretry ≤ s.clk.ticks - s.pair.lostAt then
      s.modPair (fun p => { p with link := .train, lane0 := false, lane1 := false })
    else s)

/-! ### Configuration check words (R427) -/

/-- The mirrored fields of a register, which the check words leave out. -/
def mirroredBits (r : Reg) : Word :=
  match r with
  | .PWM_CMP => 0xFFFF
  | .PWM_HR => 0xFFFF
  | .PWM_CHEN => 0xFFFF
  | .PWM_FORCE => 0xFFFF
  | .PWM_CTL => 0x8000
  | .AX_SPD_SET => 0xFFFF
  | .AX_CUR_SET => 0xFFFF
  | .AX_GS_RATE => 0xFFFF
  | .AX_GS_CTL => 0xFFFF
  | _ => 0

/-- The RW bits of a word. -/
def rwBits (fs : List Fld) : Word := fs.foldl (fun m f => if f.acc = .RW then m ||| f.mask else m) 0

/-- The words of a region: addresses from `lo`, `n` of them, of the registers that `keep` names. -/
def State.regionWords (s : State) (lo n : Nat) (keep : Reg → Bool) : List Word :=
  (List.range n).filterMap (fun k =>
    match lookup (lo + k) with
    | none => none
    | some (row, _) =>
      let m := rwBits row.fields &&& ~~~ mirroredBits row.reg
      if m ≠ 0 ∧ keep row.reg = true then some (s.rd (lo + k) &&& m) else none)

/-- Check word `c` (R427). -/
def State.checkWord (s : State) (c : Nat) : Nat :=
  let all (_ : Reg) : Bool := true
  let sch (r : Reg) : Bool := r == .SCH_CTL || r == .SCH_TGT || r == .SCH_LEAD || r == .SCH_ON
  let evt (r : Reg) : Bool :=
    r == .EVT_MASK || r == .EVT_REC_0 || r == .EVT_REC_1 || r == .EVT_REC_2 || r == .EVT_REC_3 || r == .EVT_REC_47
  if c < 8 then crc32 (wordBytes (s.regionWords (0x2000 + 0x400 * c) 0x400 all))
  else if c = 8 then crc32 (wordBytes (s.regionWords 0x1000 0x400 all))
  else if c = 9 then crc32 (wordBytes (s.regionWords 0x1400 0x400 sch))
  else if c = 10 then crc32 (wordBytes (s.regionWords 0x1800 0x800 all))
  else if c = 11 then crc32 (wordBytes (s.regionWords 0x0400 0x200 evt))
  else 0

/-- The 16 check words. -/
def State.checkWords (s : State) : List Nat := (List.range 16).map s.checkWord

/-! ### The mirror frame (R426) -/

/-- The codes of AX_STAT.state (Table AXIS-8). -/
def AxSt.code : AxSt → Nat
  | .stopped => 0
  | .saliency => 1
  | .align => 2
  | .ramp => 3
  | .run => 4
  | .retryWait => 5
  | .ident => 6

/-- The state an AX_STAT code stands for. -/
def axStOf (n : Nat) : AxSt :=
  if n = 1 then .saliency else if n = 2 then .align else if n = 3 then .ramp else if n = 4 then .run
  else if n = 5 then .retryWait else if n = 6 then .ident else .stopped

/-- The cause an AX_STAT code stands for. -/
def axCauseOf (n : Nat) : AxCause :=
  if n = 1 then .host else if n = 2 then .startFail else if n = 3 then .stall else if n = 4 then .hall
  else if n = 5 then .enc else if n = 6 then .adc else if n = 7 then .fault else if n = 8 then .phaseLost
  else if n = 9 then .disarm else if n = 10 then .safe else if n = 11 then .config else .none

/-- AX_STAT of an axis (Table AXIS-8). -/
def State.axStat (s : State) (a : Fin 24) : Word :=
  let x := s.ax[a]
  w16 (x.st.code * 2 ^ 13 + x.cause.code * 2 ^ 9 + b2n (x.lastDir < 0) * 2 ^ 8 +
    b2n (x.st == .run && s.hasRef a && x.ref == 0) * 2 ^ 7 + b2n x.dwell * 2 ^ 6 + b2n x.stall * 2 ^ 5 + b2n x.ilim * 2 ^ 4 +
    b2n x.hand * 2 ^ 3 + x.retries % 8)

/-- The axis works on channel integrators: a SINGLE slot, or COIL mode. -/
def State.byChannel (s : State) (a : Fin 24) : Bool := s.axType a == .single || s.axMode a == .coil

/-- The axis part of a frame. -/
def State.mirrorAxis (s : State) (a : Fin 24) : MirrorAxis :=
  let x := s.ax[a]
  { stat := s.axStat a, ref := x.ref / refUnit, spdSet := s.axReg A.AX_SPD_SET a
    curSet := (List.range 3).map (fun c => s.axReg (fun b j => A.AX_CUR_SET b j c) a)
    rate := s.axReg A.AX_GS_RATE a, gsCtl := s.axReg A.AX_GS_CTL a, waitMs := x.zeroT / 200000, iS := x.iS
    iC := if s.byChannel a then x.iC.toList else [x.iD, x.iQ, 0]
    angle := s.axReg A.AX_ANGLE a, conf := s.axReg A.AX_CONF a }

/-- The timer part of a frame. -/
def State.mirrorTimer (s : State) (t : Fin 24) : MirrorTimer :=
  { cmp := s.rds (timAddr t 2) 3, hr := s.rds (timAddr t 5) 3, chen := s.rd (timAddr t 8), force := s.rd (timAddr t 14)
    src := bit (s.rd (timAddr t 0)) 15 }

/-- The bank part of a frame. -/
def State.mirrorBank (s : State) (b : Fin 8) : MirrorBank :=
  let f := s.rd (A.PROT_BFLT b.val)
  let g := s.rd (A.GSUP_FLT b.val)
  { armed := (s.bank[b]).armed, on := s.dom b.val, run := (axesOf b).map s.runSet
    react := b2n (bit f 1) + 2 * b2n (bit f 2) + 4 * b2n (bit f 3) + 8 * b2n (bit g 0) + 16 * b2n (bit g 1)
    flt := (hbsOf b).map (fun h => field (s.hbReg A.PROT_CHFLT h) 5 0 + 64 * field (s.hbReg A.GATE_FLT h) 1 0) }

/-- The mask of a list of target numbers. -/
def maskOf (l : List Nat) : Nat := (l.map (fun n => 2 ^ n)).sum

/-- The record of a schedule index. -/
def State.mirrorRec (s : State) (i : Nat) : MirrorRec :=
  match mapGet s.sched.q i with
  | none => ⟨i, false, 0, 0, 0, 0, 0⟩
  | some e => ⟨i, true, e.act, e.value, e.s, maskOf (e.tgts.map (·.1)), maskOf ((e.tgts.filter (fun p => p.2 == .fired)).map (·.1))⟩

/-- The indices of the frame's 32 records: the changed ones in index order, then the round-robin. -/
def State.mirrorIdx (s : State) : List Nat :=
  let d := ((List.range 256).filter s.sched.dirty.contains).take 32
  d ++ (List.range (32 - d.length)).map (fun k => (s.pair.robin + k) % 256)

/-- The frame of this slot (Table PAIR-4). -/
def State.mirror (s : State) : Mirror :=
  { seq := s.pair.txSeq, t := s.tb, handover := s.pair.handPend, pairId := s.lands.pairId == 1
    imgId := s.rdQ2 (A.IMG_ID 0), imgCrc := s.rdQ2 (A.IMG_CRC 0), fus := s.rds (A.FUS_EST 0) 10
    residue := (s.fus.s % 256).toNat, rev := s.fus.rev, whl := s.fus.wheels.toList.map (fun w => u32 w.cnt)
    recHead0 := w16 s.rcd.seq, recHead1 := w16 s.rcd.head1, storeSeq := s.store.seq, jevn := (s.rd A.STORE_JEVN).toNat
    check := s.checkWords, banks := allBanks.map s.mirrorBank, timers := (List.finRange 24).map s.mirrorTimer
    axes := (List.finRange 24).map s.mirrorAxis, schState := s.rdQ2 A.SCH_STATE_LO, recs := s.mirrorIdx.map s.mirrorRec }

/-- An owner starts the MIRROR frame of its slot (R425, R426). -/
def State.sendMirror (s : State) : State :=
  let f := s.mirror
  let late := s.sched.dirty.length - 32
  let fresh := min 32 s.sched.dirty.length
  let s := s.modSched (fun q => { q with dirty := ((List.range 256).filter q.dirty.contains).drop 32 })
  (s.satAdd A.PAIR_MIRLAG late).modPair (fun p =>
    { p with tx := some f, fseq := f.seq, mirrorAt := s.clk.ticks, robin := (p.robin + (32 - fresh)) % 256 })

/-- A standby bank is ready (R429). -/
def State.bankReady (s : State) (b : Fin 8) : Bool :=
  let k := s.bank[b]
  s.dom b.val && k.vdrvOk && (!s.cpBank b || k.vcpOk) && !k.vdrvLock && !k.vcpLock &&
    (hbsOf b).all (fun h => (s.row2 h).isEmpty) && !bit (s.rd A.PAIR_CFGMIS) b.val

/-- The STATUS frame of this slot (Table PAIR-3). -/
def State.statusFrame (s : State) : StatusFrame :=
  { seq := s.pair.txSeq, t := s.tb, applied := s.pair.fseq, ready := ofBits (allBanks.map s.bankReady)
    cfgmis := s.rd A.PAIR_CFGMIS, recHead0 := w16 s.rcd.seq, sync := s.pair.sync, lockout := s.pair.lockout, fault := s.safe.dev }

/-- The HELLO frame of this slot (Table PAIR-3). -/
def State.helloFrame (s : State) : HelloFrame :=
  { seq := s.pair.txSeq, t := s.tb, pairId := s.lands.pairId == 1, imgId := s.rdQ2 (A.IMG_ID 0), imgCrc := s.rdQ2 (A.IMG_CRC 0)
    bankImg := s.img.bankImg, seeding := s.img.active.any (fun c => c.seeding), tags := s.rds (A.IMG_BANKTAG 0) 8
    owner := s.pair.owner, lockout := s.pair.lockout }

/-- The frame that a device in HELLO or in UP starts in its slot (R425): HELLO, or MIRROR as owner and STATUS as standby. -/
def State.sendFrame (s : State) : State :=
  if s.pair.link = .hello then s.modPair (fun p => { p with txHello := some s.helloFrame })
  else if s.pair.owner = true then s.sendMirror
  else s.modPair (fun p => { p with txStatus := some s.statusFrame })

/-- LINK_SLOT (R425): at every TB multiple of 100 µs a device in HELLO or UP starts one frame. -/
def linkSlot (s : State) : State :=
  if s.pair.link = .up ∨ s.pair.link = .hello then
    s.sendFrame.modPair (fun p => { p with txSeq := (p.txSeq + 1) % 2 ^ 32 })
  else s

/-- LINK_SLOT (R425). -/
def execLinkSlot (s : State) : Host.Outcome State Fault Refusal := .next (if s.tb % 100 = 0 then linkSlot s else s)

/-- An owner in UP that has started no MIRROR frame for 250 µs releases (Table PAIR-5, cause 8). -/
def State.keepAlive (s : State) (t : Nat) : State :=
  if s.pair.owner && s.pair.link == .up && decide (250 ≤ s.clk.ticks - s.pair.mirrorAt) then s.releaseOwner t 8 else s

/-! ### HELLO and STATUS (R425, R428, R429) -/

/-- The link enters UP (Table PAIR-5b). -/
def State.linkUp (s : State) : State :=
  let now := s.clk.ticks
  (s.modPair (fun p =>
    { p with
      link := .up, compat := true, missed := 0, frameAt := now, mirrorAt := now, cover := 0, sync := false
      partnerReady := false, rdy := 0 })).raise evLINK_UP 0 0

/-- Two HELLO frames are compatible (R425). -/
def State.helloMatches (s : State) (pairId : Bool) (imgId imgCrc bankImg : Nat) (tags : List Word) : Bool :=
  imgId == s.rdQ2 (A.IMG_ID 0) && imgCrc == s.rdQ2 (A.IMG_CRC 0) && bankImg == s.img.bankImg.toNat &&
    tags == s.rds (A.IMG_BANKTAG 0) 8 && pairId != (s.lands.pairId == 1)

/-- A good HELLO frame (R425, R440). -/
def helloReceived (pairId : Bool) (imgId imgCrc bankImg : Nat) (tags : List Word) (owner : Bool) (s : State) : State :=
  let s := if pairId = (s.lands.pairId == 1) then s.idClash else s
  let s := if !owner && s.pair.ownIn then s.ownFault else s
  let ok := s.helloMatches pairId imgId imgCrc bankImg tags
  let s := s.modPair (fun p => { p with compat := ok })
  if ok && s.pair.link == .hello then s.linkUp else s

/-- HELLO_RECEIVED (R425): in HELLO, where the partner's HELLO decides, and in UP, which it does not change. -/
def execHelloReceived (pairId : Bool) (imgId imgCrc : BitVec 32) (bankImg : Byte) (tags : List Word) (owner lockout : Bool)
    (s : State) : Host.Outcome State Fault Refusal :=
  let _ := lockout
  .next (if s.pair.link = .hello ∨ s.pair.link = .up then
      helloReceived pairId imgId.toNat imgCrc.toNat bankImg.toNat tags owner s
    else s)

/-- STATUS_RECEIVED (R429): what the latest STATUS frame of the standby shows its owner. -/
def execStatusReceived (seq : BitVec 32) (ready : Byte) (cfgmis head0 : Word) (sync lockout fault : Bool) (s : State) :
    Host.Outcome State Fault Refusal :=
  let _ := (seq, cfgmis)
  .next (if s.pair.link = .up ∧ s.pair.owner = true then
      (s.wr A.PAIR_PRECHEAD head0).modPair (fun p =>
        { p with missed := 0, frameAt := s.clk.ticks, rdy := ready, partnerReady := sync && !lockout && !fault })
    else s)

/-! ### Following the owner (R430) -/

/-- A fused estimate is taken over: the words of FUS_EST with t_k translated, s with its residue, the speed, acceleration,
yaw rate and heading they show, the direction (R430). -/
def State.loadFusion (s : State) (f : Mirror) : State :=
  let w (k : Nat) : Word := f.fus[k]?.getD 0
  let tk := (w 7).toNat + 65536 * (w 8).toNat + 65536 ^ 2 * (w 9).toNat + s.pair.tbOfs
  let now := s.clk.ticks
  let s := ((s.wrs (A.FUS_EST 0) (f.fus.take 7)).wrQ (A.FUS_EST 7) 3 tk)
  s.modFus (fun x =>
    { x with
      s := 256 * quant2 (w 1) (w 2) + f.residue % 256, v := sInt (w 3), a := sInt (w 4), yaw := sInt (w 5)
      hdg := (w 6).toNat, qual := w 0, hdgValid := bit (w 0) 13, rev := f.rev
      tk := some (now - (now + 2 ^ 48 - tk % 2 ^ 48) % 2 ^ 48) })

/-- A wheel count is set; counts already taken move with it. -/
def Wheel.shift (x : Wheel) (d : Int) : Wheel := { x with cnt := x.cnt + d, log := x.log.map (fun p => (p.1, p.2 + d)) }

/-- The wheel counts of a frame (R430). -/
def State.loadWheels (s : State) (f : Mirror) : State :=
  s.each (List.finRange 4) (fun s n =>
    let c := f.whl[n.val]?.getD 0
    let d := s32 (c + 2 ^ 32 - u32 (s.fus.wheels[n]).cnt)
    s.modFus (fun x =>
      { x with
        wheels := x.wheels.set n ((x.wheels[n]).shift d)
        fused := x.fused.map (fun r => if r.x = n.val then { r with d := r.d + d } else r)
        prevD := x.prevD.map (fun p => if p.1 = n.val then (p.1, p.2 + d) else p) }))

/-- The bank part of a frame: the arm state, the PWM_RUN bits, the reaction flags beside the bank's own reactions, and the
detector and stuck flags, as latched flags (R430). -/
def State.loadBank (s : State) (t : Nat) (b : Fin 8) (m : MirrorBank) : State :=
  let k := s.bank[b]
  let fl (i : Nat) : Bool := natBit m.react i
  let f := s.rd (A.PROT_BFLT b.val)
  let g := s.rd (A.GSUP_FLT b.val)
  let bf := ofBits [false, fl 0 || (k.trip && bit f 1), fl 1 || (k.vov2 && bit f 2), fl 2 || (k.ots && bit f 3)]
  let gf := ofBits [fl 3 || (k.vdrvLock && bit g 0), fl 4 || (k.vcpLock && bit g 1)]
  let s := s.wr (A.PROT_BFLT b.val) ((s.rd (A.PROT_BFLT b.val) &&& ~~~ maskW 3 1) ||| bf)
  let s := s.wr (A.GSUP_FLT b.val) ((s.rd (A.GSUP_FLT b.val) &&& ~~~ maskW 1 0) ||| gf)
  let s := s.each (hbsOf b) (fun s h =>
    let n := m.flt[(hbIn h).val]?.getD 0
    let s := s.wr (A.PROT_CHFLT b.val (hbIn h).val) (setField (s.hbReg A.PROT_CHFLT h) 5 0 n)
    s.wr (A.GATE_FLT b.val (hbIn h).val) (setField (s.hbReg A.GATE_FLT h) 1 0 (n / 64)))
  let s := (s.modBank b (fun k => { k with armed := m.armed })).releaseFaults t b
  let s := s.each (axesOf b) (fun s x => s.setRun t x (m.run[(axSlot x).val]?.getD false))
  s.redriveBank t b

/-- The timer part of a frame (R430). -/
def State.loadTimer (s : State) (t : Nat) (x : Fin 24) (m : MirrorTimer) : State :=
  let s := ((s.wrs (timAddr x 2) (m.cmp.take 3)).wrs (timAddr x 5) (m.hr.take 3)).wr (timAddr x 8) m.chen
  let ctl := setField (s.rd (timAddr x 0)) 15 15 (b2n m.src)
  let s := (s.wr (timAddr x 14) m.force).wr (timAddr x 0) ctl
  s.modTim x (fun y => { y with force := y.force.write t m.force, ctl := y.ctl.write t ctl })

/-- The axis part of a frame (R430). -/
def State.loadAxis (s : State) (a : Fin 24) (m : MirrorAxis) : State :=
  let put (f : Nat → Nat → Nat) (v : Word) (s : State) : State := s.wr (axAddr f a) v
  let s := put A.AX_GS_CTL m.gsCtl (put A.AX_GS_RATE m.rate (put A.AX_SPD_SET m.spdSet s))
  let s := put A.AX_CONF m.conf (put A.AX_ANGLE m.angle (s.wrs (axAddr (fun b j => A.AX_CUR_SET b j 0) a) (m.curSet.take 3)))
  let i (k : Nat) : Int := m.iC[k]?.getD 0
  let chan := s.byChannel a
  let st := axStOf (field m.stat 15 13)
  s.modAx a (fun x =>
    { x with
      st := st, cause := axCauseOf (field m.stat 12 9)
      since := if st = x.st then x.since else s.clk.ticks
      lastDir := if bit m.stat 8 then -1 else if x.lastDir < 0 then 1 else x.lastDir
      dwell := bit m.stat 6, stall := bit m.stat 5, ilim := bit m.stat 4, hand := bit m.stat 3, retries := field m.stat 2 0
      ref := m.ref * refUnit, zeroT := 200000 * m.waitMs, iS := m.iS, ang := m.angle.toNat
      iD := if chan then x.iD else i 0, iQ := if chan then x.iQ else i 1
      iC := if chan then Vector.ofFn (fun c : Fin 3 => i c.val) else x.iC })

/-- A schedule record of a frame: a held entry with its targets PENDING or FIRED, or a free index (R430). -/
def State.loadRec (s : State) (r : MirrorRec) : State :=
  s.modSched (fun q =>
    { q with
      q := if r.held then
          mapPut q.q r.index ⟨r.act, r.value, r.s,
            (maskTargets r.mask).map (fun n => (n, if natBit r.fired n then TgtSt.fired else .pending none))⟩
        else mapDel q.q r.index })

/-- The 256 schedule indices covered. -/
def allCovered : Nat := 2 ^ 256 - 1

/-- The set of covered indices with the records of a frame (R429). -/
def coverWith (c : Nat) (l : List MirrorRec) : Nat := l.foldl (fun c r => Nat.lor c (2 ^ (r.index % 256))) c

/-- A good MIRROR frame is applied (R427, R429, R430): `start` is the tick of its K27.7. -/
def State.applyMirror (s : State) (t start : Nat) (f : Mirror) : State :=
  let s := s.modPair (fun p =>
    { p with
      missed := 0, frameAt := s.clk.ticks, fseq := f.seq % 2 ^ 32
      tbOfs := (start + 2 ^ 48 - 1 + (2 ^ 48 - f.t % 2 ^ 48)) % 2 ^ 48 })
  let s := (s.wr A.PAIR_PRECHEAD f.recHead0).wrQ (A.PAIR_PSTSEQ 0) 2 f.storeSeq
  let s := (s.loadFusion f).loadWheels f
  let s := s.each allBanks (fun s b => match f.banks[b.val]? with | none => s | some m => s.loadBank t b m)
  let s := s.each (List.finRange 24) (fun s x => match f.timers[x.val]? with | none => s | some m => s.loadTimer t x m)
  let s := s.each (List.finRange 24) (fun s a => match f.axes[a.val]? with | none => s | some m => s.loadAxis a m)
  let s := (s.wrQ A.SCH_STATE_LO 2 f.schState).each f.recs State.loadRec
  let mis := ofBits (s.checkWords.zipIdx.map (fun p => p.1 != f.check[p.2]?.getD 0))
  let s := s.wr A.PAIR_CFGMIS mis
  s.modPair (fun p =>
    let c := coverWith p.cover f.recs
    { p with cover := c, sync := p.sync || c == allCovered })

/-- MIRROR_RECEIVED (R430): a standby in UP applies a good frame; one cut short or broken is discarded and counted. Frames that
arrive while PAIR_OWN_IN reads released without a release sequence set ownfault (Table PAIR-8). -/
def execMirrorReceived (at' : Fin 200) (good : Bool) (start : Nat) (f : Mirror) (s : State) :
    Host.Outcome State Fault Refusal :=
  .next (if s.pair.link = .up ∧ s.pair.owner = false then
      if good then
        let s := if !s.pair.ownIn && s.pair.take.isNone then s.ownFault else s
        s.applyMirror (s.clkAt at') start f
      else s.satInc A.PAIR_CRCCNT
    else s)

/-! ### Takeover (R433, R434, Table PAIR-6) -/

/-- The standby becomes owner in a hot takeover: its cause, PAIR_TAKECNT, and the link's frames by the new role. -/
def State.takeOwner (s : State) (t cause : Nat) : State :=
  let now := s.clk.ticks
  let s := (s.satInc A.PAIR_TAKECNT).modPair (fun p =>
    { p with
      take := some .owner, takeCause := cause, claimAt := none, sync := false, cover := 0, missed := 0, frameAt := now
      mirrorAt := now, partnerReady := false })
  (s.takeRole true cause).refloatAll t

/-- The standby may take over hot (R433, R434). -/
def State.mayTake (s : State) : Bool := !s.pair.owner && s.pair.link == .up && s.pair.sync && !s.pair.lockout

/-- PAIR_OWN_IN has read released for 2 µs at PWM clock `t`, counted from `since'` at the earliest. -/
def State.ownReleased (s : State) (t since' : Nat) : Bool := !s.pair.ownIn && decide (max s.pair.ownAt since' + 400 ≤ t)

/-- The standby declares the owner silent at PWM clock `t` (R434): it takes over at once where PAIR_OWN_IN has read released for
2 µs, and once it has where it reads released for less (Table PAIR-8, DEDUCED: notes/assumptions/21.md). -/
def State.takeSilent (s : State) (t : Nat) : State :=
  if s.mayTake && !s.pair.ownIn then
    if s.ownReleased t 0 then (s.modPair (fun p => { p with takeAt := t })).takeOwner t 3
    else s.modPair (fun p => { p with take := some .seen, takeAt := p.ownAt, takeCause := 3 })
  else s

/-- A miss is counted; at the third the standby takes over a silent owner, or the link is lost (R428, R434). -/
def frameMissed (t : Nat) (s : State) : State :=
  let s := (s.satInc A.PAIR_MISSCNT).modPair (fun p => { p with missed := p.missed + 1, frameAt := s.clk.ticks })
  if s.pair.missed < 3 then s
  else (s.takeSilent t).linkDown .lost 1

/-- FRAME_MISSED (R428): no good frame of the expected kind within 101 µs. -/
def execFrameMissed (at' : Fin 200) (s : State) : Host.Outcome State Fault Refusal :=
  .next (if s.pair.link = .up ∧ 101 ≤ s.clk.ticks - s.pair.frameAt then frameMissed (s.clkAt at') s else s)

/-- A release sequence with a cause is received (R422, R433). -/
def releaseSequence (t cause : Nat) (s : State) : State :=
  let s := s.modPair (fun p => { p with relCause := cause })
  if cause = 7 then
    if s.pair.owner then s
    else (s.modPair (fun p => { p with lockout := true, take := none })).refloatAll t
  else if (cause = 4 ∨ cause = 5 ∨ cause = 6 ∨ cause = 8) ∧ s.mayTake = true then
    s.modPair (fun p => { p with take := some .seen, takeAt := t, takeCause := 2 })
  else s

/-- RELEASE_SEQUENCE_RECEIVED (R433): OFF and LOST ignore every symbol. -/
def execReleaseSequenceReceived (at' : Fin 200) (cause : Byte) (s : State) : Host.Outcome State Fault Refusal :=
  .next (if s.pair.link = .off ∨ s.pair.link = .lost then s else releaseSequence (s.clkAt at') cause.toNat s)

/-- TAKEOVER_QUALIFIED (R433): PAIR_OWN_IN has read released for 2 µs since the release. -/
def execTakeoverQualified (at' : Fin 200) (s : State) : Host.Outcome State Fault Refusal :=
  .next (if s.pair.take = some .seen ∧ s.pair.lockout = false ∧ s.ownReleased (s.clkAt at') s.pair.takeAt = true then
      s.takeOwner (s.clkAt at') s.pair.takeCause
    else s)

/-- Every target of the queue is PENDING or FIRED at the state commit. -/
def Entry.uncommit (e : Entry) : Entry :=
  { e with tgts := e.tgts.map (fun p => (p.1, if p.2 = .fired then .fired else .pending none)) }

/-- An axis at the state commit: the start-up states start again with their retry count, an axis in IDENT stops (Table
PAIR-6). -/
def State.commitAxis (s : State) (a : Fin 24) : State :=
  let x := s.ax[a]
  match x.st with
  | .stopped => s
  | .run => s.modAx a (fun x => { x with lastCur := none, lastSpd := none, runAt := s.clk.ticks })
  | .ident => s.toStopped a .safe
  | _ => (s.startUp a).modAx a (fun y => { y with retries := x.retries })

/-- Reactions held under mirrored flags stay in force at the state commit (Table PAIR-6). -/
def State.commitReactions (s : State) (t : Nat) (b : Fin 8) : State :=
  let f := s.rd (A.PROT_BFLT b.val)
  let g := s.rd (A.GSUP_FLT b.val)
  let latch := bit (s.rd (A.PROT_TRIPCFG b.val)) 8
  let s := s.bankCause t b (fun k =>
    { k with
      trip := k.trip || (bit f 1 && (latch || k.tripIn)), vov2 := k.vov2 || bit f 2, ots := k.ots || bit f 3
      vdrvLock := k.vdrvLock || bit g 0, vcpLock := k.vcpLock || bit g 1 })
  s.reRow2 t (hbsOf b) (fun s =>
    s.each (hbsOf b) (fun s h =>
      if s.anyFault h then
        let side : Side := if s.faulted h .high then .high else .low
        match s.hbAxis h with
        | none => s.modHb h (fun x => { x with loc := true })
        | some (a, _) => s.takeReaction a h side
      else s))

/-- The state commit of a hot takeover (R433). -/
def takeoverCommit (t : Nat) (s : State) : State :=
  let s := s.modSched (fun q => { q with q := q.q.map (fun p => (p.1, p.2.uncommit)) })
  let s := s.each (List.finRange 24) State.commitAxis
  let s := s.each allBanks (fun s b => s.commitReactions t b)
  let s := match s.imuCfg with
    | none => s
    | some _ => if s.fusOn && s.fusCfg 5 == 1 && s.fus.imu.isNone then imuTrigger s else s
  let s := s.modPair (fun p => { p with take := if s.anyBankOn then some .committed else none })
  s.refloatAll t

/-- TAKEOVER_COMMIT (R433): the new owner commits once its role has passed. -/
def execTakeoverCommit (at' : Fin 200) (s : State) : Host.Outcome State Fault Refusal :=
  .next (if s.pair.take = some .owner then takeoverCommit (s.clkAt at') s else s)

/-! ### Host commands (R422, R435) -/

/-- HANDOVER (R435, Table PAIR-8). -/
def handover (s : State) : State :=
  if !s.pair.owner then s.wr A.PAIR_CMDRES 0xC001
  else if s.pair.handPend then s
  else if s.pair.link = .up ∧ s.partnerOk = true then
    (s.wr A.PAIR_CMDRES 0x4001).modPair (fun p => { p with handPend := true })
  else s.wr A.PAIR_CMDRES 0x8001

/-- HANDOVER (R435). -/
def execHandover (s : State) : Host.Outcome State Fault Refusal := .next (s.whenHost (fun s => if s.dom 10 then handover s else s))

/-- HANDOVER_RELEASE (R435): the K29.7 of the handover frame has been sent. -/
def execHandoverRelease (at' : Fin 200) (s : State) : Host.Outcome State Fault Refusal :=
  let t := s.clkAt at'
  .next (match s.pair.tx with
    | none => s
    | some f =>
      if s.pair.owner && s.pair.handPend && f.handover && decide (200 * s.pair.mirrorAt + 15380 ≤ t) then s.releaseOwner t 6
      else s)

/-- CLEAR_LOCK (R422). -/
def clearLock (s : State) : State :=
  if s.pair.lockout then
    ((s.wr A.PAIR_CMDRES 0x4002).modPair (fun p => { p with lockout := false })).refloatAll (200 * s.clk.ticks)
  else s

/-- CLEAR_LOCK (R422). -/
def execClearLock (s : State) : Host.Outcome State Fault Refusal := .next (s.whenHost (fun s => if s.dom 10 then clearLock s else s))

end Sys2Proof.Machine
end

