-- ==== Sys2Proof/Machine/Can.lean ====
section
/-! DEFINITION. Sys2Proof/Machine/Can.lean: the two CAN FD controllers as their registers and buffers show them (R126 to R133 of
04_host_link.md). What happens on the bus arrives as commands. -/
namespace Sys2Proof.Machine

/-! ### Controllers and buffers (Tables HOST-15, HOST-16) -/

/-- A bit of CANc_CTL: 15 init, 14 listen, 13 loop, 12 fd_en, 11 brs_en, 10 tdc_en, 9 rec_auto. -/
def State.canCtl (s : State) (c : Fin 2) (i : Nat) : Bool := bit (s.rd (A.CAN_CTL c.val)) i

/-- The controller takes part on the bus: D_CAN is on, init = 0, not bus-off (R133, R152). -/
def State.canOn (s : State) (c : Fin 2) : Bool := s.dom 11 && !s.canCtl c 15 && (s.can[c]).st != .busOff

/-- The 32 buffers. -/
def allBufs : List (Fin 32) := List.finRange 32

/-- BUF_CFG and BUF_STAT of a buffer. -/
def State.bufCfg (s : State) (c : Fin 2) (m : Fin 32) : Word := s.rd (A.BUF_CFG c.val m.val)
def State.bufStat (s : State) (c : Fin 2) (m : Fin 32) : Word := s.rd (A.BUF_STAT c.val m.val)

/-- BUF_ID and BUF_MASK in the layout of the buffer's identifier type. -/
def State.bufId (s : State) (c : Fin 2) (m : Fin 32) (ide : Bool) : Nat :=
  s.rdQ2 (A.BUF_ID_LO c.val m.val) % 2 ^ (if ide then 29 else 11)
def State.bufMask (s : State) (c : Fin 2) (m : Fin 32) (ide : Bool) : Nat :=
  s.rdQ2 (A.BUF_MASK_LO c.val m.val) % 2 ^ (if ide then 29 else 11)

/-- The number of data bytes of a DLC (ISO 11898-1). -/
def dlcBytes (fdf : Bool) (n : Nat) : Nat :=
  if n ≤ 8 then n else if !fdf then 8 else ([12, 16, 20, 24, 32, 48, 64] : List Nat)[n - 9]?.getD 64

/-! ### Reception (R129, R130, R132) -/

/-- A frame matches a receive buffer (R129). -/
def State.canMatches (s : State) (c : Fin 2) (ide : Bool) (id : Nat) (m : Fin 32) : Bool :=
  let w := s.bufCfg c m
  let x := id % 2 ^ (if ide then 29 else 11)
  bit w 15 && !bit w 14 && bit w 13 == ide && Nat.land (Nat.xor x (s.bufId c m ide)) (s.bufMask c m ide) == 0

/-- A data byte of a buffer. -/
def State.setByte (s : State) (c : Fin 2) (m : Fin 32) (k : Nat) (v : Byte) : State :=
  let a := A.BUF_DATA c.val m.val (k / 2)
  s.wr a (if k % 2 = 0 then setField (s.rd a) 7 0 v.toNat else setField (s.rd a) 15 8 v.toNat)

/-- A frame is stored in a buffer; bytes that it does not carry keep their values. -/
def State.storeFrame (s : State) (c : Fin 2) (m : Fin 32) (fdf brs : Bool) (id dlc : Nat) (data : List Byte) (sof : Nat)
    (ovr : Bool) : State :=
  let cfg := setField (setField (s.bufCfg c m) 12 12 (b2n fdf)) 11 11 (b2n brs)
  let st := setField (s.bufStat c m) 3 0 dlc ||| bitW 15 ||| (if ovr then bitW 14 else 0)
  let s := (((s.wrQ (A.BUF_ID_LO c.val m.val) 2 id).wr (A.BUF_CFG c.val m.val) cfg).wr (A.BUF_STAT c.val m.val) st).wrQ
    (A.BUF_STAMP0 c.val m.val) 3 (sof % 2 ^ 48)
  s.each ((data.take (dlcBytes fdf dlc)).zipIdx) (fun s p => s.setByte c m p.2 p.1)

/-- A received frame (R129, R130). -/
def canReceive (c : Fin 2) (ide fdf brs : Bool) (id dlc : Nat) (data : List Byte) (sof : Nat) (s : State) : State :=
  let ms := allBufs.filter (s.canMatches c ide id)
  match ms.find? (fun m => !bit (s.bufStat c m) 15) with
  | some m => (s.storeFrame c m fdf brs id dlc data sof false).raise (evCAN_RX c) (w16 m.val) 0
  | none =>
    match ms with
    | [] => s
    | m :: _ =>
      if bit (s.bufCfg c m) 10 then
        (s.storeFrame c m fdf brs id dlc data sof true).raise (evCAN_OVR c) (w16 m.val) 0
      else s.satInc (A.CAN_RXLOST c.val)

/-- CAN_RX (R129): an FD frame needs fd_en; internal loopback does not hear the bus. -/
def execCanRx (c : Fin 2) (ide fdf brs : Bool) (id : BitVec 29) (dlc : Fin 16) (data : List Byte) (sof : Nat) (s : State) :
    Host.Outcome State Fault Refusal :=
  .next (if s.canOn c && s.hears && !s.canCtl c 13 && (!fdf || s.canCtl c 12) && decide (sof ≤ s.clk.ticks) then
      canReceive c ide fdf brs id.toNat dlc.val data sof s
    else s)

/-! ### Transmission (R131, R132) -/

/-- Buffer `m` is pending, and its abort waits. -/
def Can.isPend (x : Can) (m : Fin 32) : Bool := x.pend.getLsbD m.val
def Can.isAbort (x : Can) (m : Fin 32) : Bool := x.abort.getLsbD m.val

/-- The buffer stops pending, its abort with it. -/
def Can.stop (x : Can) (m : Fin 32) : Can :=
  { x with
    pend := x.pend &&& ~~~ BitVec.twoPow 32 m.val, abort := x.abort &&& ~~~ BitVec.twoPow 32 m.val
    bus := if x.bus = some m.val then none else x.bus }

/-- The place of a buffer's frame in arbitration: the base identifier, a 29-bit identifier behind an 11-bit one, the extension,
then the index (R131). -/
def State.arbKey (s : State) (c : Fin 2) (m : Fin 32) : Nat :=
  let ide := bit (s.bufCfg c m) 13
  let id := s.bufId c m ide
  (if ide then (id / 2 ^ 18) * 2 ^ 19 + 2 ^ 18 + id % 2 ^ 18 else id * 2 ^ 19) * 32 + m.val

/-- The pending buffers at tick `t`. -/
def State.pendingAt (s : State) (c : Fin 2) (t : Nat) : List (Fin 32) :=
  allBufs.filter (fun m => (s.can[c]).isPend m && decide ((s.can[c]).since[m] ≤ t))

/-- The buffer whose frame the controller sends first among those pending at tick `t` (R131). -/
def State.winner (s : State) (c : Fin 2) (t : Nat) : Option (Fin 32) :=
  let l := s.pendingAt c t
  l.find? (fun m => l.all (fun n => s.arbKey c m ≤ s.arbKey c n))

/-- The buffers that a word of CANc_TXREQ or CANc_TXABORT names. -/
def wordBufs (hi : Bool) (d : Word) : List (Fin 32) :=
  allBufs.filter (fun m => (m.val / 16 == 1) == hi && bit d (m.val % 16))

/-- A write to CANc_TXREQ (R131): the transmit buffers named become pending. A buffer that is not enabled (en = 0) is none that
can be sent and does not become pending (DESIGN CHOICE, notes/assumptions/22.md). -/
def canTxreq (c : Fin 2) (hi : Bool) (d : Word) (s : State) : State :=
  s.each ((wordBufs hi d).filter (fun m => bit (s.bufCfg c m) 15 && bit (s.bufCfg c m) 14 && !(s.can[c]).isPend m)) (fun s m =>
    s.modCan c (fun x => { x with pend := x.pend ||| BitVec.twoPow 32 m.val, since := x.since.set m s.clk.ticks }))

/-- CAN_TXREQ (R131). -/
def execCanTxreq (c : Fin 2) (hi : Bool) (d : Word) (s : State) : Host.Outcome State Fault Refusal :=
  .next (s.whenHost (fun s => if s.dom 11 then canTxreq c hi d s else s))

/-- A write to CANc_TXABORT (R131): the aborts of the pending buffers named wait for their effect. -/
def canTxabort (c : Fin 2) (hi : Bool) (d : Word) (s : State) : State :=
  s.each ((wordBufs hi d).filter (s.can[c]).isPend) (fun s m =>
    s.modCan c (fun x => { x with abort := x.abort ||| BitVec.twoPow 32 m.val }))

/-- CAN_TXABORT (R131). -/
def execCanTxabort (c : Fin 2) (hi : Bool) (d : Word) (s : State) : Host.Outcome State Fault Refusal :=
  .next (s.whenHost (fun s => if s.dom 11 then canTxabort c hi d s else s))

/-- The frame of a pending buffer may be on the bus: it has won arbitration at some tick since it is pending, and then also at the
first of them, for a buffer that has stopped pending takes no part (R131). -/
def State.mayBeOnBus (s : State) (c : Fin 2) (m : Fin 32) : Bool :=
  s.canOn c && s.winner c ((s.can[c]).since[m]) == some m

/-- The aborts that take effect by the next tick (R131): a buffer stops pending unless its frame is on the bus. Of a frame that
may be, no register tells: a free value, which then stands until the frame ends. -/
def State.settleAborts (s : State) (c : Fin 2) : State :=
  s.each (allBufs.filter (s.can[c]).isAbort) (fun s m =>
    if (s.can[c]).bus = some m.val ∧ s.canOn c = true then s
    else if (s.can[c]).bus = none ∧ s.mayBeOnBus c m = true then
      if Config.freeBool s.free then s.took.modCan c (fun x => { x with bus := some m.val })
      else s.took.modCan c (fun x => x.stop m)
    else s.modCan c (fun x => x.stop m))

/-- The data bytes of a transmit buffer. -/
def State.bufBytes (s : State) (c : Fin 2) (m : Fin 32) (n : Nat) : List Byte :=
  (List.range n).map (fun k =>
    let w := s.rd (A.BUF_DATA c.val m.val (k / 2))
    (if k % 2 = 0 then w else w >>> 8).setWidth 8)

/-- A frame has been transmitted (R131, R132); internal loopback receives it. -/
def canTxDone (c : Fin 2) (m : Fin 32) (sof : Nat) (s : State) : State :=
  let s := (s.modCan c (fun x => x.stop m)).wrQ (A.BUF_STAMP0 c.val m.val) 3 (sof % 2 ^ 48)
  let s := s.raise (evCAN_TX c) (w16 m.val) 0
  if s.canCtl c 13 then
    let w := s.bufCfg c m
    let n := field w 7 4
    canReceive c (bit w 13) (bit w 12) (bit w 11) (s.bufId c m (bit w 13)) n (s.bufBytes c m (dlcBytes (bit w 12) n)) sof s
  else s

/-- CAN_TX_DONE (R131): the winner of the buffers pending at the start of frame, in a controller that may transmit. A buffer
with fdf = 1 is sent as such also while fd_en = 0: the spec says nothing of it (DESIGN CHOICE, notes/assumptions/22.md). -/
def execCanTxDone (c : Fin 2) (m : Fin 32) (sof : Nat) (s : State) : Host.Outcome State Fault Refusal :=
  .next (if s.canOn c && !s.canCtl c 14 && decide (sof ≤ s.clk.ticks) && s.winner c sof == some m then canTxDone c m sof s else s)

/-- CANc_LEC takes a last error (Table HOST-15). -/
def State.setLec (s : State) (c : Fin 2) (lec : Nat) : State := if lec = 0 then s else s.wr (A.CAN_LEC c.val) (w16 (lec % 8))

/-- A transmission fails or loses arbitration (R131): retried, unless single is 1 or an abort waits. -/
def canTxFail (c : Fin 2) (m : Fin 32) (lost : Bool) (lec : Nat) (s : State) : State :=
  let s := if lost then s else s.setLec c lec
  if bit (s.bufCfg c m) 9 then
    (s.wr (A.BUF_STAT c.val m.val) (s.bufStat c m ||| bitW (if lost then 13 else 12))).modCan c (fun x => x.stop m)
  else if (s.can[c]).isAbort m then s.modCan c (fun x => x.stop m)
  else s.modCan c (fun x => if x.bus = some m.val then { x with bus := none } else x)

/-- CAN_TX_FAIL (R131). -/
def execCanTxFail (c : Fin 2) (m : Fin 32) (lost : Bool) (lec : Fin 8) (s : State) : Host.Outcome State Fault Refusal :=
  .next (if s.canOn c && !s.canCtl c 14 && (s.can[c]).isPend m then canTxFail c m lost lec.val s else s)

/-! ### Fault confinement (R133) -/

/-- CANc_STAT and CANc_ERRCNT (Table HOST-15). -/
def State.canStat (s : State) (c : Fin 2) : Word :=
  let x := s.can[c]
  w16 ((match x.st with | .active => 0 | .passive => 1 | .busOff => 2) * 2 ^ 14 + b2n x.sync * 2 ^ 13)
def State.canErrcnt (s : State) (c : Fin 2) : Word := w16 (sat8 (s.can[c]).recErr * 256 + sat8 (s.can[c]).txErr)

/-- The state a code of CAN_ERROR_STATE_CHANGE names. -/
def canStOf (n : Fin 3) : CanSt := if n.val = 0 then .active else if n.val = 1 then .passive else .busOff

/-- CANc_ERR with CANc_STAT and CANc_LEC (Table EVT-4). -/
def State.raiseCanErr (s : State) (c : Fin 2) : State := s.raise (evCAN_ERR c) (s.canStat c) (s.rd (A.CAN_LEC c.val))

/-- The controller's error counts and state change (R133); with rec_auto = 1 the recovery from bus-off starts at once. -/
def canState (c : Fin 2) (st : CanSt) (sync : Bool) (rec tec lec : Nat) (s : State) : State :=
  let old := (s.can[c]).st
  let auto := s.canCtl c 9
  let s := (s.setLec c lec).modCan c (fun x =>
    { x with st := st, sync := sync, recErr := rec, txErr := tec, recovering := st == .busOff && auto })
  if st = old then s else s.raiseCanErr c

/-- CAN_ERROR_STATE_CHANGE (R133): bus-off is left by recovery only. -/
def execCanErrorStateChange (c : Fin 2) (st : Fin 3) (sync : Bool) (rec tec : Byte) (lec : Fin 8) (s : State) :
    Host.Outcome State Fault Refusal :=
  .next (if s.canOn c then canState c (canStOf st) sync rec.toNat tec.toNat lec.val s else s)

/-- CAN_BUSOFF_RECOVERY (R133): 128 occurrences of 11 recessive bits while recovery runs. -/
def execCanBusoffRecovery (c : Fin 2) (s : State) : Host.Outcome State Fault Refusal :=
  .next (if s.dom 11 && (s.can[c]).st == .busOff && (s.can[c]).recovering then canState c .active (s.can[c]).sync 0 0 0 s else s)

/-! ### Host settings (R128, R133) -/

/-- The bit-timing words. -/
def State.canTiming (s : State) (c : Fin 2) : List Word := s.rds (A.CAN_NBT c.val) 5

/-- Bit lengths in CAN clocks of 20 ns: arbitration and data phase (R128). -/
def nbtClks (w w2 : Word) : Nat := (field w 7 0 + 1) * (1 + (field w 15 8 + 1) + (field w2 14 8 + 1))
def dbtClks (w w2 : Word) : Nat := (field w 4 0 + 1) * (1 + (field w 12 8 + 1) + (field w2 11 8 + 1))

/-- The settings are no host error (R128): NBT, NBT2, DBT, DBT2 and brs_en. -/
def timingOk (n n2 d d2 : Word) (brs : Bool) : Bool :=
  50 ≤ nbtClks n n2 && 10 ≤ dbtClks d d2 && field n2 6 0 ≤ field n2 14 8 && field d2 3 0 ≤ field d2 11 8 &&
    (!brs || dbtClks d d2 ≤ nbtClks n n2)

/-- What follows a write to CANc_CTL or a bit-timing register (R128, R133): while init = 1 the timing is taken into account; init
going from 1 to 0 starts the recovery from bus-off. -/
def State.canSettings (s : State) (c : Fin 2) (initBefore : Bool) : State :=
  let init := s.canCtl c 15
  let s := if init then s.modCan c (fun x => { x with timing := s.canTiming c }) else s
  if initBefore && !init && (s.can[c]).st == .busOff then s.modCan c (fun x => { x with recovering := true }) else s

end Sys2Proof.Machine
end

