-- ==== Sys2Proof/Machine/Reset.lean ====
section
/-! DEFINITION. Sys2Proof/Machine/Reset.lean: resets and their release, the straps, and the test port (R479 to R489 of
16_lands_reset.md). The starts from the hold-up manager's states are in Power.lean. -/
namespace Sys2Proof.Machine

/-! ### Kinds of start (Table LAND-8), as PWR_START shows them -/

def startAON : Nat := 0
def startCORE : Nat := 1
def startRST : Nat := 2
def startWARM : Nat := 3

/-- Data word 0 of RESET for a kind of start (Table LAND-8). -/
def startData (k : Nat) : Nat := max 1 k

/-! ### The start of a reset (R481, R483, R476) -/

/-- CORE lets go of everything but what AON and the recorder hold: operations, loads, images, banks and domains (R483). The
disarms report no cause, since Table SAFE-5 has none for a reset (notes/assumptions/23.md). -/
def State.dropCore (s : State) (t : Nat) : State :=
  let s := s.modOps (fun _ => Ops.reset)
  let s := s.each allBanks (fun s b => s.unarm t b)
  let s := ((s.refloatAll t).allOff t).wr A.PWR_DOM_REQ 0
  s.modImg (fun x => { x with active := none, src := 0, fallback := false, bankImg := 0, load := none })

/-- The start of a reset of the RST_N kind at PWM clock `t` (R483): the driver dies are told that it is intended, so no hold
goes on (R476). -/
def State.resetNow (s : State) (t : Nat) : State :=
  let s := s.modLands (fun l =>
    { l with inReset := true, start := startRST, deferred := false, lastSw := l.sw, lastTap := l.tapHold })
  (s.each allBanks (fun s b => s.endHold t b)).dropCore t

/-- A source of reset begins (R481, R486): it starts a reset, joins one, or waits for the end of a flush (R383). With CORE off
there is nothing to reset. -/
def State.resetFrom (s : State) (t : Nat) : State :=
  if s.lands.inReset then
    s.modLands (fun l => { l with lastSw := l.lastSw || l.sw, lastTap := l.lastTap || l.tapHold })
  else if s.pwr.st = .critical ∨ s.pwr.st = .flush then s.modLands (fun l => { l with deferred := true })
  else if s.pwr.core then s.resetNow t
  else s

/-- The lands carry these straps from now on (R479, R480). -/
def State.strapped (s : State) (x : Straps) : State :=
  s.modLands (fun l => { l with strapBoot := x.boot.val, strapPair := x.id.val, strapOpen := x.opens })

/-- RST_N_ASSERT (R482): a low level, with the straps that its reset will read; one of 100 ns to 1 µs may or may not be
recognised. -/
def execRstNAssert (at' : Fin 200) (low : ResetLow) (s : State) : Host.Outcome State Fault Refusal :=
  .next (if s.hears then
      match s.passes low.width 100 999 with
      | (s, false) => s
      | (s, true) => ((s.strapped low.straps).modLands (fun l => { l with rstN := s.pwr.core })).resetFrom (s.clkAt at')
    else s)

/-- SYS_SWRST's sequence starts a software reset (R489). -/
def softwareReset (t : Nat) (s : State) : State := (s.modLands (fun l => { l with sw := true })).resetFrom t

/-- SOFTWARE_RESET (R489). -/
def execSoftwareReset (at' : Fin 200) (s : State) : Host.Outcome State Fault Refusal :=
  .next (s.whenHost (softwareReset (s.clkAt at')))

/-! ### What a start resets (Table LAND-8) -/

/-- IMG_KEYSTAT and IMG_KEYCHK of the key slot (R80). -/
def State.showKey (s : State) (chk : Word) : State :=
  match s.img.keySt with
  | .blank => s
  | .programmed => (s.wr A.IMG_KEYSTAT 1).wr A.IMG_KEYCHK chk
  | .damaged => (s.wr A.IMG_KEYSTAT 2).wr A.IMG_KEYCHK chk

/-- Registers of CORE and of the switched domains at their reset values; the time words, the power and the store registers
stand (R113, R385, R413), and so does SYS_RSTCNT (R489). -/
def State.resetRegs (s : State) : State :=
  let cnt := s.rd A.SYS_RSTCNT
  let chk := s.rd A.IMG_KEYCHK
  let s := ((s.clearRange 0x0000 0x0108).clearRange 0x0200 0x0800).clearRange 0x0C00 0x8000
  (s.wr A.SYS_RSTCNT cnt).showKey chk

/-- A bank's engines at their reset state; its gates and a driver die's hold go on (R372, R476). -/
def State.resetBank (s : State) (b : Fin 8) : State :=
  let s := s.modBank b (fun k =>
    { k.start with cause := 0, prep := none, estop := false, dev := false, die := false })
  let s := s.each (hbsOf b) (fun s h => s.modHb h (fun x => x.start true))
  s.each (axesOf b) (fun s a =>
    (s.modAx a (fun x => { Axis.reset with safeSide := x.safeSide })).modTim a (fun _ => Timer.reset))

/-- Engines of CORE and of the switched domains at their reset state (R152, R179, R211, R240, R280, R315, R338, R441, R464). -/
def State.resetEngines (s : State) : State :=
  let s := (((s.modLink (fun _ => Link.reset)).modOps (fun _ => Ops.reset)).modCan 0 (fun _ => Can.reset)).modCan 1
    (fun _ => Can.reset)
  let s := ((s.modFus (fun _ => Fusion.reset)).modSched (fun _ => Sched.reset)).modSol (fun _ => Solver.reset)
  let s := s.modImg (fun x => { x with load := none, swapped := false, keyWords := [], keyArm := false })
  let s := s.modClk (fun c => { c with refOk := true, coreOk := true, pllLock := true, lockHeld := true })
  s.each allBanks (fun s b => s.resetBank b)

/-- The role starts anew (R441): the level of PAIR_OWN_IN stands, and tCLAIM counts from the release. -/
def State.resetRole (s : State) : State :=
  s.modPair (fun p => { Pair.reset with ownIn := p.ownIn, ownAt := 200 * s.clk.ticks })

/-- The supervisor starts anew (R464): ESTOP_N is sampled from the release on, and one that is low is raised (R486). -/
def State.resetSafety (s : State) : State :=
  let low := s.safe.estop
  let s := s.modSafe (fun _ => Safe.reset)
  let s := ((s.wr A.SAFE_FLTEN (resetOf A.SAFE_FLTEN)).wr A.SAFE_WDCFG (resetOf A.SAFE_WDCFG))
  let s := s.each allBanks (fun s b =>
    s.bankCause (200 * s.clk.ticks) b (fun k => { k with estop := false, dev := false, die := false }))
  if low then estop (200 * s.clk.ticks) s else s

/-- One strap as it is read: its level, or 0 or 1 by a free value where it is open or has changed in its window (R480). -/
def State.strapRead (s : State) (i : Nat) (level : Bool) : Bool :=
  if s.lands.strapOpen.getLsbD i then Config.freeBool (s.free + i) else level

/-- Read BOOTSEL and PAIR_ID (R479, R480). -/
def State.readStraps (s : State) : State :=
  let l := s.lands
  let lo := s.strapRead 0 (natBit l.strapBoot 0)
  let hi := s.strapRead 1 (natBit l.strapBoot 1)
  let id := s.strapRead 2 (natBit l.strapPair 0)
  { s with free := s.free + 3 }.modLands (fun l => { l with bootsel := b2n lo + 2 * b2n hi, pairId := b2n id })

/-- Every start (R362, R479, R481): the event registers at their reset values, the straps read, and RESET raised after a drain
that a freeze's end owes (R353, R354). -/
def State.announce (s : State) (kind : Nat) : State :=
  let s := (s.clearRange 0x0400 0x0600).thaw .reset
  let s := s.readStraps.modLands (fun l =>
    { l with inReset := false, rstN := false, sw := false, tapHold := false, deferred := false })
  let l := s.lands
  let s := s.wr A.SYS_BOOT (w16 (32768 * b2n l.lastSw + 16384 * b2n l.lastTap + 4 * l.pairId + l.bootsel))
  let s := s.wr A.PWR_START (w16 kind)
  s.raise evRESET (w16 (startData kind)) (w16 (2 * l.bootsel + l.pairId))

/-- The boot load of R89. -/
def State.boot (s : State) : State := if s.lands.bootsel < 2 then s.beginLoad none s.lands.bootsel 0 else s

/-- A release of the kinds AON power-on, CORE power-on and RST_N (Table LAND-8). -/
def State.release' (s : State) (kind : Nat) : State :=
  let s := (s.resetRegs.resetEngines).resetRole
  let s := if kind = startRST then s.satInc A.SYS_RSTCNT else s
  (s.announce kind).resetSafety.boot

/-- The hand-over has ended: its outage and bounces go into the registers (R377, R382). -/
def State.outage (s : State) : State :=
  (s.wr A.PWR_LASTOUT (w16 (satU ((s.clk.ticks - s.pwr.t0) / 1000)))).wr A.PWR_LASTBNC (w16 s.pwr.bounces)

/-- The release that ends a CORE power-on: PWR_RESTORE reports the hand-over it ends (R378). A start that no hand-over went
before has none to report (notes/assumptions/18.md). -/
def State.restored (s : State) : State :=
  if 5 ≤ s.pwr.step then
    let s := s.outage
    s.raise evPWR_RESTORE (s.rd A.PWR_LASTOUT) (s.rd A.PWR_LASTBNC)
  else s

/-- The end of the last source of a reset (R481, R482): the test port does not hold it, VMAIN carries CORE, and after a
power-on VIO is up too. -/
def resetRelease (s : State) : State :=
  let kind := s.lands.start
  if s.lands.inReset && !s.lands.tapHold && s.pwr.core && s.pwr.st == .main && (kind == startRST || s.pwr.vioOk) then
    if kind = startCORE then (s.release' kind).restored else s.release' kind
  else s

/-- RESET_RELEASE (R481). -/
def execResetRelease (s : State) : Host.Outcome State Fault Refusal := .next (resetRelease s)

/-! ### Test port (R484, Table LAND-9) -/

/-- The device identification word of the IDCODE instruction (Table LAND-9). -/
def idcode : Nat := 0x12472D35

/-- The test port works while VIO is up (R25, R484). -/
def State.tapOn (s : State) : Bool := s.pwr.vioOk

/-- An instruction that holds the device in reset (Table LAND-9, R486). -/
def tapHolds (t : Nat) (i : TapInstr) (s : State) : State :=
  if s.tapOn then (s.modLands (fun l => { l with tap := i, tapHold := true })).resetFrom t else s

/-- An instruction under which the device runs: a hold of the test port ends. -/
def tapRuns (i : TapInstr) (s : State) : State :=
  if s.tapOn then s.modLands (fun l => { l with tap := i, tapHold := false }) else s

/-- TAP_EXTEST (R484). -/
def execTapExtest (at' : Fin 200) (s : State) : Host.Outcome State Fault Refusal := .next (tapHolds (s.clkAt at') .extest s)

/-- TAP_HIGHZ (R484). -/
def execTapHighz (at' : Fin 200) (s : State) : Host.Outcome State Fault Refusal := .next (tapHolds (s.clkAt at') .highz s)

/-- TAP_CLAMP (R484). -/
def execTapClamp (at' : Fin 200) (s : State) : Host.Outcome State Fault Refusal := .next (tapHolds (s.clkAt at') .clamp s)

/-- TAP_IDCODE (R484): the word is shifted out. -/
def execTapIdcode (s : State) : Host.Outcome State Fault Refusal :=
  .next (if s.tapOn then (tapRuns .idcode s).modLands (fun l => { l with tdo := idcode }) else s)

/-- TAP_SAMPLE_PRELOAD (R484): the cells sampled and preloaded, as the board drives and shifts them. -/
def execTapSamplePreload (cells : Nat) (s : State) : Host.Outcome State Fault Refusal :=
  .next (if s.tapOn then (tapRuns .samplePreload s).modLands (fun l => { l with boundary := cells }) else s)

/-- TAP_BYPASS (R484): BYPASS, or a reserved code. -/
def execTapBypass (s : State) : Host.Outcome State Fault Refusal := .next (tapRuns .bypass s)

/-- TAP_RESET (R484): the TAP alone resets, to IDCODE. -/
def execTapReset (s : State) : Host.Outcome State Fault Refusal := .next (tapRuns .idcode s)

end Sys2Proof.Machine
end

