-- ==== Sys2Proof/Machine/Power.lean ====
section
/-! DEFINITION. Sys2Proof/Machine/Power.lean: the hold-up manager: the energy estimate, the hand-over from VMAIN to VBAK, the
flush, the dwell and the restarts (R364 to R386 of 12_supplies_holdup.md). The switched domains are in Domains.lean. -/
namespace Sys2Proof.Machine

/-! ### Energy (R379 to R381) -/

/-- E in mJ for VBAK in 10 mV: ½·C·(VBAK² − Vmin²) with C in mF, or all of a battery (R379). -/
def State.energy (s : State) (vbak : Nat) : Nat :=
  let vmin := (s.rd A.PWR_VBAKMIN).toNat
  if bit (s.rd A.PWR_CFG) 15 then (if vmin ≤ vbak then 65535 else 0)
  else if vmin < vbak then satU ((s.rd A.PWR_HCAP).toNat * (vbak ^ 2 - vmin ^ 2) / 20000)
  else 0

/-- E_req in mJ (R380). -/
def State.ereq (s : State) : Nat := 10 + (s.rd A.PWR_EMARGIN).toNat + s.ejq

/-- The latest measurements and the energy they show (R379). -/
def State.measured (s : State) (vmain vbak : Word) : State :=
  ((s.wr A.PWR_VMAIN vmain).wr A.PWR_VBAK vbak).wr A.PWR_ESTORED (w16 (s.energy vbak.toNat))

/-- HOLDUP_LOW when E falls below E_req in MAIN, and PWR_STAT.hlow (R380). -/
def State.judgeEnergy (s : State) : State :=
  let e := (s.rd A.PWR_ESTORED).toNat
  let low := decide (e < s.ereq)
  let fell := low && !s.pwr.hlow && s.pwr.st == .main
  let s := s.modPwr (fun p => { p with hlow := low })
  if fell then s.raise evHOLDUP_LOW (w16 e) (w16 (satU s.ereq)) else s

/-- VBAK_LOW when VBAK falls below PWR_VBAKLOW in MAIN; armed again 50 mV above it (R380, notes/assumptions/18.md). -/
def State.judgeVbak (s : State) (vbak : Nat) : State :=
  let thr := (s.rd A.PWR_VBAKLOW).toNat
  let low := decide (vbak < thr)
  let fires := low && s.pwr.vbakArm && s.pwr.st == .main
  let s := s.modPwr (fun p =>
    { p with vbakLow := low, vbakArm := if fires then false else p.vbakArm || decide (thr + 5 ≤ vbak) })
  if fires then s.raise evVBAK_LOW (w16 vbak) 0 else s

/-- The charger (R381): on below PWR_VCHG − 50 mV, off from PWR_VCHG on. -/
def State.judgeCharger (s : State) (vbak : Nat) : State :=
  let top := (s.rd A.PWR_VCHG).toNat
  let may := s.pwr.st == .main && !bit (s.rd A.PWR_CFG) 15 && field (s.rd A.PWR_ICHG) 4 0 != 0
  s.modPwr (fun p =>
    { p with charger := may && (if vbak + 5 < top then true else if top ≤ vbak then false else p.charger) })

/-- The charger after a write to one of its settings, with the latest measurement of VBAK (R381). -/
def State.chargerNow (s : State) : State := s.judgeCharger (s.rd A.PWR_VBAK).toNat

/-- The estimate of every 1 ms (R379 to R381); deferred writes see the new E (R394, R399). -/
def energyEstimate (vmain vbak vio : Word) (s : State) : State :=
  let s := (s.measured vmain vbak).wr A.PWR_VIO vio
  (((s.judgeEnergy).judgeVbak vbak.toNat).judgeCharger vbak.toNat).retryGate

/-- ENERGY_ESTIMATE (R379): AON runs in every state but DOWN. -/
def execEnergyEstimate (vmain vbak vio : Word) (s : State) : Host.Outcome State Fault Refusal :=
  .next (if s.pwr.st = .down then s else energyEstimate vmain vbak vio s)

/-! ### VIO (R384) -/

/-- VIO falls below VIO_UV (R384): the device-wide supply reaction while CORE runs. -/
def vioUv (t : Nat) (vio : Word) (s : State) : State :=
  if s.pwr.vioOk then
    let s := (s.modPwr (fun p => { p with vioOk := false })).wr A.PWR_VIO vio
    s.whenUp (fun s => s.deviceWide t causeVIO vio.toNat)
  else s

/-- VIO_UV (R384). -/
def execVioUv (at' : Fin 200) (vio : Word) (s : State) : Host.Outcome State Fault Refusal := .next (vioUv (s.clkAt at') vio s)

/-- VIO_OK_RISE (R384). -/
def execVioOkRise (s : State) : Host.Outcome State Fault Refusal :=
  .next (if s.pwr.vioOk then s else s.modPwr (fun p => { p with vioOk := true, vioAt := s.clk.ticks }))

/-! ### t0 (R366, R371, Table PWR-2) -/

/-- Every operation that waits or runs ends ABORTED with POWER at its safe step (R150). -/
def State.abortAll (s : State) : State := s.each allSlots (fun s i => s.abortSlot i failPOWER)

/-- The boot load, an image-class operation without a ticket, ends before its swap (R74, R85, R89). -/
def State.abortBoot (s : State) : State :=
  match s.img.load with
  | none => s
  | some l => if l.slot = none then s.endLoad else s

/-- The banks at t0 (Table PWR-2): disarmed, the slots of an owner in their safe states, the axes stopped with cause SAFE. -/
def State.banksSafe (s : State) (t : Nat) : State :=
  let owner := s.pair.owner
  s.each allBanks (fun s b =>
    let s := s.each (axesOf b) (fun s a => s.stopAxis a .safe)
    let s := if owner then s.bankCause t b (fun k => { k with hand := true }) else s
    s.disarm t b 4 .safe)

/-- VMAIN fails: the hand-over starts (R371); writes that the gate has deferred see the E of t0 (R379, R394); an owner whose partner is ready gives its ownership away (Table PAIR-5). -/
def vmainFail (t : Nat) (vmain vbak : Word) (s : State) : State :=
  if s.pwr.st = .main then
    let ready := s.partnerOk
    let s := s.modPwr (fun p =>
      { p with
        st := .critical, t0 := s.clk.ticks, step := 0, dwell := none, vmainOk := false, bounceArm := false, bounces := 0
        starts := [], begun := [], flushed := false })
    let s := (((s.measured vmain vbak).satInc A.PWR_LOSSCNT).abortAll).abortBoot
    let s := (((s.banksSafe t).thaw .handover).raise evPWR_LOSS vmain vbak).retryGate
    if s.pair.take.isSome || (s.pair.owner && ready) then s.releaseOwner t 5 else s
  else s

/-- VMAIN_FAIL (R371). -/
def execVmainFail (at' : Fin 200) (vmain vbak : Word) (s : State) : Host.Outcome State Fault Refusal :=
  .next (vmainFail (s.clkAt at') vmain vbak s)

/-! ### The steps after t0 (Table PWR-2, R372) -/

/-- A driver die takes over the safe state of its bank, or the bank's hold ends at once (R372). -/
def State.holdBank (s : State) (t : Nat) (b : Fin 8) : State :=
  let ms := field (s.rd A.PWR_BHOLD) 7 0
  if s.pair.owner && (s.bank[b]).hand && s.dom b.val && ms != 0 then
    s.modBank b (fun k => { k with hold := some (s.pwr.t0 + 1000 * ms) })
  else s.endHold t b

/-- The control-die halves of the banks go off (Table PWR-2). -/
def State.banksDown (s : State) (t : Nat) : State :=
  s.each allBanks (fun s b =>
    let s := s.holdBank t b
    if s.dom b.val then s.domOff t b.val else s)

/-- A switched domain goes off if it is on. -/
def State.downIf (s : State) (t d : Nat) : State := if s.dom d then s.domOff t d else s

/-- The instants of the steps after t0, in µs; the power path has moved at most 5 µs after it (Table PWR-2). -/
def stepAt (n : Nat) : Nat := if n = 0 then 0 else 10 * n

/-- The next step of the hand-over (Table PWR-2). -/
def State.handStep (s : State) (t : Nat) : State :=
  let n := s.pwr.step
  let s := s.modPwr (fun p => { p with step := n + 1 })
  if n = 0 then s.modPwr (fun p => { p with onVbak := true, charger := false })
  else if n = 1 then (s.downIf t 11).downIf t 9
  else if n = 2 then s.downIf t 8
  else if n = 3 then s.downIf t 10
  else (s.banksDown t).raiseDomSw 1

/-- HANDOVER_STEP (R371). -/
def execHandoverStep (at' : Fin 200) (s : State) : Host.Outcome State Fault Refusal :=
  .next (if s.pwr.st = .critical ∧ s.pwr.step < 5 ∧ s.pwr.t0 + stepAt s.pwr.step ≤ s.clk.ticks then
      s.handStep (s.clkAt at')
    else s)

/-- BANK_HOLD_END (R372): tBHOLD after t0, measured by the driver die where AON does not run. -/
def execBankHoldEnd (at' : Fin 200) (b : Fin 8) (s : State) : Host.Outcome State Fault Refusal :=
  .next (match (s.bank[b]).hold with
    | none => s
    | some n => if s.pwr.st = .down ∨ n ≤ s.clk.ticks then s.endHold (s.clkAt at') b else s)

/-! ### Restarts (R377, R378, R382) -/

/-- A warm restart has its outage in the registers at once and its PWR_RESTORE when its domains are on (R377, Table PWR-8). -/
def State.restoreLater (s : State) : State :=
  if 5 ≤ s.pwr.step then s.outage.modPwr (fun p => { p with restore := true }) else s

/-- VMAIN carries CORE and AON again. -/
def State.toMain (s : State) : State :=
  (s.modPwr (fun p => { p with st := .main, dwell := none, onVbak := false, core := true })).modClk (fun c =>
    { c with lowdrive := false, pllLock := true, lockHeld := true })

/-- A warm restart (R377); in a reset that holds, only the supply returns. -/
def State.warmRestart (s : State) : State :=
  let s := s.toMain
  if s.lands.inReset then s
  else
    let s := s.modLands (fun l => { l with lastSw := false, lastTap := false })
    let s := ((s.resetRole).announce startWARM).resetSafety
    ((s.refloatAll (200 * s.clk.ticks)).restoreLater).applyReq (200 * s.clk.ticks) 1

/-- A CORE power-on from BACKUP (R378): the recorder, the journal queue and the stage are empty (R362, R413), and its reset is released at once unless a source holds it (R482). -/
def State.corePowerOn (s : State) : State :=
  let s := (s.toMain.modRcd (fun _ => Recorder.reset)).modStore (fun t => { t with jq := [], stage := none })
  if s.pwr.vioOk && !s.lands.rstN && !s.lands.tapHold then (s.release' startCORE).restored else s

/-- CORE goes off: what lies in its RAM is lost (R150, R362, R374, R407, R413), and a switched-off CORE is in reset. -/
def State.coreOff (s : State) (t : Nat) : State :=
  let s := s.dropItems.modLands (fun l =>
    { l with inReset := true, start := startCORE, rstN := false, sw := false, deferred := false, lastSw := false, lastTap := false })
  let s := (s.modPwr (fun p => { p with core := false, flushed := true })).modPair (fun p =>
    { p with owner := false, take := none, claimAt := none })
  (((s.dropCore t).ppsBreak .supply).modImg (fun x => { x with window := [] })).modClk (fun c => { c with lowdrive := true })

/-- CORE off, into BACKUP (Table PWR-3). -/
def State.toBackup (s : State) (t : Nat) : State := (s.coreOff t).modPwr (fun p => { p with st := .backup })

/-! ### The flush, the window and the dwell (R373 to R376, Table PWR-3) -/

/-- The dwell has run its 20 ms (R375). -/
def State.dwelt (s : State) : Bool :=
  match s.pwr.dwell with
  | none => false
  | some d => d + 20000 ≤ s.clk.ticks

/-- From the end of both window and flush (Table PWR-3); a deferred reset acts now (R383). -/
def State.afterFlush (s : State) (t : Nat) : State :=
  let s := if s.lands.deferred then s.resetNow t else s
  if s.dwelt then s.warmRestart
  else if s.pwr.dwell.isSome then s.modPwr (fun p => { p with st := .hold, onVbak := false })
  else s.toBackup t

/-- CRITICAL_WINDOW_END (R373). -/
def criticalWindowEnd (s : State) : State :=
  let s := s.modPwr (fun p => { p with st := .flush, dwell := if p.vmainOk then some s.clk.ticks else none })
  if s.pwr.flushed then s.afterFlush (200 * s.clk.ticks) else s

/-- CRITICAL_WINDOW_END (R373): 200 µs after t0. -/
def execCriticalWindowEnd (s : State) : Host.Outcome State Fault Refusal :=
  .next (if s.pwr.st = .critical ∧ 5 ≤ s.pwr.step ∧ s.pwr.t0 + 200 ≤ s.clk.ticks then criticalWindowEnd s else s)

/-- Nothing is left for the flush to write (R374). -/
def State.flushedAll (s : State) : Bool :=
  s.store.jq.isEmpty && s.store.stage.isNone && s.store.burst.isNone && s.store.comp.isNone

/-- The gate has refused the flush's next burst (R374). -/
def State.flushRefused (s : State) : Bool :=
  s.store.gateWait || s.compHeld || (s.store.burst.isNone && s.store.comp.isNone && s.nextItem.any (fun it => s.itemSt it == .deferred))

/-- The flush ends (R374): PWR_FLUSHT counts from t0 in 0.1 ms (notes/assumptions/18.md). -/
def flushEnd (t : Nat) (s : State) : State :=
  let s := s.wr A.PWR_FLUSHT (w16 (satU ((s.clk.ticks - s.pwr.t0) / 100)))
  let s := s.modPwr (fun p => { p with flushed := true })
  if s.pwr.st = .flush then s.afterFlush t else s

/-- FLUSH_END (R374). -/
def execFlushEnd (s : State) : Host.Outcome State Fault Refusal :=
  .next (if s.flushing && (s.flushedAll || s.flushRefused || s.pwr.t0 + 100000 ≤ s.clk.ticks) then
      flushEnd (200 * s.clk.ticks) s
    else s)

/-- VMAIN rises to VMAIN_OK (R375, R376): in the critical window it only arms the bounce count (R373). After a power-on with VBAK
alone there is no hand-over whose bounces count; in MAIN only PWR_STAT[7] follows (Table PWR-7). -/
def vmainOkRise (s : State) : State :=
  if s.pwr.st = .down ∨ s.pwr.vmainOk then s
  else if s.pwr.st = .main then s.modPwr (fun p => { p with vmainOk := true })
  else
    s.modPwr (fun p =>
      { p with
        vmainOk := true, bounceArm := p.st != .backup || p.step != 0
        dwell := if p.st = .critical then none else some s.clk.ticks })

/-- VMAIN_OK_RISE (R375). -/
def execVmainOkRise (s : State) : Host.Outcome State Fault Refusal := .next (vmainOkRise s)

/-- VMAIN falls below VMAIN_OK (R375): the dwell stops, and HOLD ends in BACKUP (Table PWR-3); in MAIN only PWR_STAT[7] follows
(Table PWR-7). -/
def vmainOkFall (s : State) : State :=
  if s.pwr.st = .down then s
  else if s.pwr.st = .main then s.modPwr (fun p => { p with vmainOk := false })
  else
    let s := s.modPwr (fun p => { p with vmainOk := false, dwell := none })
    if s.pwr.st = .hold then s.toBackup (200 * s.clk.ticks) else s

/-- VMAIN_OK_FALL (R375). -/
def execVmainOkFall (s : State) : Host.Outcome State Fault Refusal := .next (vmainOkFall s)

/-- A fall below VMAIN_FAIL in a hand-over: a bounce if VMAIN had reached VMAIN_OK (R376, R382). -/
def vmainBounce (s : State) : State :=
  if s.pwr.st = .main ∨ s.pwr.st = .down then s
  else
    let s := vmainOkFall s
    if s.pwr.bounceArm then
      let s := s.modPwr (fun p => { p with bounceArm := false, bounces := satU (p.bounces + 1) })
      (s.satInc A.PWR_BOUNCECNT).raise evPWR_BOUNCE 0 0
    else s

/-- VMAIN_BOUNCE (R376). -/
def execVmainBounce (s : State) : Host.Outcome State Fault Refusal := .next (vmainBounce s)

/-- DWELL_COMPLETE (R375, Table PWR-3): in FLUSH the restart waits for the flush (Table PWR-6). -/
def execDwellComplete (s : State) : Host.Outcome State Fault Refusal :=
  .next (if s.dwelt then
      if s.pwr.st = .hold then s.warmRestart else if s.pwr.st = .backup then s.corePowerOn else s
    else s)

/-! ### DOWN and the AON power-on (R113, R376, R384, R385) -/

/-- VBAK below its VBAK_MIN threshold in a hand-over (Table PWR-3, R384): the driver dies that had not yet taken over hold their
banks from now on (R372). -/
def vbakMinLoss (s : State) : State :=
  let t := 200 * s.clk.ticks
  let s := if s.pwr.st = .critical ∧ s.pwr.step < 5 then s.banksDown t else s
  ((s.allOff t).coreOff t).modPwr (fun p => { p with st := .down, dwell := none })

/-- VBAK_MIN_LOSS (R384). -/
def execVbakMinLoss (s : State) : Host.Outcome State Fault Refusal :=
  .next (if s.pwr.st = .main ∨ s.pwr.st = .down then s else vbakMinLoss s)

/-- A driver die's hold across the loss of AON: the die alone times it, and its supply monitors stay armed (R200, R372). -/
def Bank.held (k : Bank) : Bank :=
  let held := k.hold.isSome
  { Bank.reset with
    flt := k.flt, fltAt := 0, hand := k.hand, hold := k.hold.map (fun _ => 0), vdrvOk := held && k.vdrvOk
    vcpOk := held && k.vcpOk, vdrvSeen := held && k.vdrvSeen, vcpSeen := held && k.vcpSeen }

/-- A loss of AON power while key programming runs leaves the slot BLANK, if no key bit had yet been programmed, or DAMAGED
(R80): which of them, and the check value of a damaged key, are free values. -/
def State.keyCut (s : State) : State :=
  if s.img.keyRun then
    let blank := Config.freeBool s.free
    let s := s.took.modImg (fun x =>
      { x with keyRun := false, keySt := if blank then .blank else .damaged, key := if blank then [] else x.key })
    if blank then s else s.took.wr A.IMG_KEYCHK (Config.freeWord s.free)
  else s

/-- A half-bridge across the loss of AON, its times counted anew. -/
def HalfB.held (x : HalfB) : HalfB :=
  let y := HalfB.start x true
  { y with hs := { y.hs with onAt := 0, offAt := 0 }, ls := { y.ls with onAt := 0, offAt := 0 } }

/-- AON powers on (R113, R362, R385, R404, R405): all of State.reset, but what is no state of CORE and AON: the array, the key,
the levels at the lands, the test port, and what the driver dies hold. -/
def aonPowerOn (vmainOk : Bool) (s : State) : State :=
  let r := State.reset
  { r with
    pending := s.pending
    free := s.free
    regs := s.regs.filter (fun p => p.1 == A.IMG_KEYCHK)
    hb := s.hb.map HalfB.held
    bank := s.bank.map Bank.held
    ax := s.ax.map (fun x => { Axis.reset with safeSide := x.safeSide })
    img := { r.img with keySt := s.img.keySt, key := s.img.key }
    store := { r.store with mem := s.store.mem }
    pair := { r.pair with ownIn := s.pair.ownIn }
    safe := { r.safe with estop := s.safe.estop }
    clk := { r.clk with lowdrive := !vmainOk }
    pwr :=
      { r.pwr with
        st := if vmainOk then .main else .backup, vmainOk := vmainOk, vioOk := s.pwr.vioOk, core := vmainOk
        onVbak := !vmainOk, step := 0 }
    lands :=
      { s.lands with
        inReset := true, start := if vmainOk then startAON else startCORE, rstN := false, sw := false, deferred := false
        lastSw := false, lastTap := false } }

/-- What the erase of a sector leaves that is cut short: a header that is garbage, neither phase 1 nor erased, and free bytes
(R404, Table STORE-5). -/
def State.garble (s : State) (n : Nat) : State :=
  match s.freeBytes 4096 with
  | (s, bs) =>
    s.modStore (fun t =>
      { t with mem := cellWrs 0xFF t.mem (secBase n) (((bs.headD 0 &&& 0x7F) ||| 0x01) :: bs.drop 1) })

/-- A loss of AON power cuts short the burst and the erase in progress (R404, Table STORE-5). -/
def State.storeCut (s : State) : State :=
  let s := if s.store.burst.isSome && !s.store.gateWait then s.tear s.store.span.2 else s
  match s.store.comp with
  | some c => if c.erasing then s.garble c.victim else s
  | none => s

/-- AON_POWER_ON (R113). -/
def execAonPowerOn (x : PowerOn) (s : State) : Host.Outcome State Fault Refusal :=
  .next ((aonPowerOn x.vmainOk s.storeCut.keyCut).strapped x.straps)

end Sys2Proof.Machine
end

