-- ==== Sys2Proof/Machine/Ram.lean ====
section
/-! DEFINITION. Sys2Proof/Machine/Ram.lean: the RAM sweep (R451, Table SAFE-10) and the double-bit reactions of the recorder
(R361), the solver (R336) and the store queue. -/
namespace Sys2Proof.Machine

/-- The recorder slot that a word of the recorder RAM belongs to: eight window words a slot, then one repeat-time word each
(R347; the spec gives the instance no other layout, notes/assumptions/24.md). -/
def ramSlot (a : Nat) : Nat := if a < 16384 then a / 8 else a - 16384

/-- A double-bit error in a record empties its slot (R361). -/
def Recorder.loseSlot (r : Recorder) (n : Nat) : Recorder :=
  { r with
    slots := mapDel r.slots n
    lastG := if r.lastG = some n then none else r.lastG
    lastP := if r.lastP = some n then none else r.lastP }

/-- A double-bit error in the hold FIFO discards an entry, counted as a loss (R361, R352); which of the entries a word belongs
to is open (notes/assumptions/24.md). -/
def State.loseFifo (s : State) : State :=
  match s.pick (List.range s.rcd.fifo.length) with
  | (s, none) => s
  | (s, some k) =>
    let s := if s.rd A.REC_HOLDOVF_CNT = 0 then s.modRcd (fun r => { r with ovf := true }) else s
    (s.satInc A.REC_HOLDOVF_CNT).modRcd (fun r => { r with fifo := r.fifo.eraseIdx k })

/-- The burst in progress programs an item: the front event record, or the host stage. -/
def Burst.carries (b : Burst) (host : Bool) : Bool :=
  match b with
  | .record h _ _ => h == host
  | _ => false

/-- The burst of a lost item stops before its marker. -/
def State.dropBurst (s : State) (host : Bool) : State :=
  match s.store.burst with
  | none => s
  | some b => if b.carries host then s.modStore (fun t => { t with burst := none, gateWait := false }) else s

/-- A double-bit error in the store queue and host stage (R451): an event record is lost and counted, the stage ends FAILED;
which of them a word belongs to is open (notes/assumptions/24.md). -/
def State.loseItem (s : State) : State :=
  let n := s.store.jq.length
  match s.pick (List.range (n + b2n s.store.stage.isSome)) with
  | (s, none) => s
  | (s, some k) =>
    if k < n then
      let s := if k = 0 then s.dropBurst false else s
      (s.satInc A.STORE_JLOST).modStore (fun t => { t with jq := t.jq.eraseIdx k, lost := t.lost + 1 })
    else (s.dropBurst true).endStage .failed

/-- The row whose batch the solver holds; 0 while it holds none (SOL_FAULT's data word). -/
def State.solvingRow (s : State) : Nat :=
  match s.sol.solving with
  | none => 0
  | some p => p.1

/-- A double-bit error takes the reaction of its RAM class (R451). -/
def State.doubleBit (s : State) (t inst a : Nat) : State :=
  if inst = 4 then s.modRcd (fun r => r.loseSlot (ramSlot a))
  else if inst = 5 then s.loseFifo
  else if inst = 6 then (if s.solOn then s.solverFault s.solvingRow else s)
  else if inst = 7 then s.loseItem
  else s.deviceWide t causeRAM inst

/-- The instance numbers of Table SAFE-10. -/
def ramInst (n : Nat) : Bool := n < 8 || (16 ≤ n && n < 32)

/-- RAM_SEC and its count for a corrected single-bit error, the reaction for a double-bit one (R451). -/
def ramSec (t inst : Nat) (a : Word) (double : Bool) (s : State) : State :=
  if !ramInst inst then s
  else if double then s.doubleBit t inst a.toNat
  else (s.satInc A.SAFE_RAMSEC).raise evRAM_SEC (w16 inst) a

/-- RAM_SEC (R451, R361, R336). -/
def execRamSec (at' : Fin 200) (inst : Byte) (a : Word) (double : Bool) (s : State) : Host.Outcome State Fault Refusal :=
  .next (s.whenUp (ramSec (s.clkAt at') inst.toNat a double))

end Sys2Proof.Machine
end

