-- ==== Sys2Proof/Machine/Read.lean ====
section
/-! DEFINITION. Sys2Proof/Machine/Read.lean: what a read of a register word returns (R14, Table MAP-10): the status words
that the device forms at the read, the read latches of quantities of several words (R13, R124), the words of the sector
view and of the recorder window, the status and summary words (R123) and FLT_N and IRQ_N (R134, R456). -/
namespace Sys2Proof.Machine

/-! ### FLT_N and IRQ_N -/

/-- Some word of the half-bridges of banks that are on has one of these bits set. -/
def State.anyHbFlag (s : State) (f : Nat → Nat → Nat) (m : Word) : Bool :=
  allBanks.any (fun b => s.dom b.val && (List.range 9).any (fun i => s.rd (f b.val i) &&& m != 0))

/-- The conditions that SAFE_FLTEN enables, bit 0 first (Table SAFE-7). -/
def State.fltConds (s : State) : List Bool :=
  [s.anyHbFlag A.PROT_CHFLT 0x003F, allBanks.any (fun b => (s.bank[b]).trip || (s.bank[b]).vov2 || (s.bank[b]).ots),
    s.anyHbFlag A.GATE_FLT 0x0003, s.pair.lockout, s.safe.dieOk != 15]

/-- FLT_N is asserted (R456). -/
def State.fltN (s : State) : Bool :=
  s.safe.dev || s.safe.mech != .passed || ofBits s.fltConds &&& s.rd A.SAFE_FLTEN != 0

/-- Group `g` alone would assert IRQ_N (Table HOST-5). -/
def State.irqGroup (s : State) (g : Nat) : Bool := s.rd (A.EVT_STAT g) &&& s.rd (A.EVT_MASK g) != 0

/-- IRQ_N is asserted (R134). -/
def State.irqN (s : State) : Bool := (List.range 8).any s.irqGroup

/-! ### Host and long operations -/

/-- A byte with one bit per slot. -/
def State.slotBits (s : State) (f : OpSlot → Bool) : Nat := (ofBits (allSlots.map (fun i => f s.ops.slots[i]))).toNat

/-- The status word (Table HOST-4). -/
def State.statusWord (s : State) : Word :=
  ofBits (allBanks.map (fun b => (s.bank[b]).armed) ++
    [allSlots.all (fun i => s.ops.slots[i].st != .free), allSlots.any (fun i => s.ops.slots[i].st.terminal),
      s.img.active.isSome, s.pair.owner, s.safe.estop, s.irqN, s.fltN, s.rd A.HOST_ERR != 0])

/-- The summary word (Table HOST-5). -/
def State.summaryWord (s : State) : Word :=
  w16 (256 * (ofBits ((List.range 8).map s.irqGroup)).toNat + s.slotBits (·.st.terminal))

/-- OP_STAT_s, OP_INFO_s, OP_OUTC_s and OP_AGE_s (Table HOST-14, R139); all 0 while the slot is FREE. -/
def OpSlot.words (x : OpSlot) (now : Nat) : List Word :=
  if x.st = .free then [0, 0, 0, 0]
  else
    [w16 (x.st.code * 8192 + opClass x.op * 2048 + x.progress % 256), w16 (x.op * 256 + x.gen * 8),
      w16 (x.fail * 256 + x.npart % 256), w16 (satU ((now - x.since) / 1000))]

/-- The three words of a result entry (R140). -/
def OpRes.words (x : OpRes) : List Word := [w16 (32768 * b2n x.valid + x.tag % 256), wordOf x.val 0, wordOf x.val 1]

/-- Word `k` of a list; 0 beyond its end. -/
def nth (l : List Word) (k : Nat) : Word := l[k]?.getD 0

/-- The ticket slot a register index names. -/
def slotIx (n : Nat) : Fin 8 := ⟨n % 8, Nat.mod_lt _ (by decide)⟩

/-! ### Clocks, image, power -/

/-- pps_state (Table TIME-9). -/
def Pps.code : Pps → Nat
  | .off => 0
  | .acquire => 1
  | .locked => 2
  | .holdover => 3

/-- CLK_STATUS (Table TIME-8). -/
def Clk.statusWord (c : Clk) : Word := ofBits [c.pllLock, c.coreOk, c.refOk, c.tickRc, c.lowdrive]

/-- TIME_STATUS (Table TIME-9). -/
def Clk.timeWord (c : Clk) : Word := w16 (c.pps.code * 16) ||| ofBits [c.utcValid, false, c.applyPend, c.degraded]

/-- IMG_STATUS.state (Table IMG-12): a slot write is WRITING, a staged bank image STAGING, every other load LOADING. -/
def State.imgState (s : State) : Nat :=
  match s.img.load with
  | none => if s.img.active.isSome then 2 else 0
  | some l =>
    if !l.bytes.isEmpty then 4
    else match l.staged with
      | some (.bank _ _ _) => 3
      | _ => 1

/-- IMG_STATUS (Table IMG-12). -/
def State.imgStatus (s : State) : Word :=
  let seeding := match s.img.active with
    | none => false
    | some c => c.seeding
  w16 (s.imgState * 8192 + s.img.src % 4 * 2048 + b2n s.img.fallback * 1024 + b2n seeding * 512 +
    b2n s.windowLocked * 256 + s.img.bankImg.toNat)

/-- PWR_STAT.state (Table PWR-7); no host reads it in BACKUP or DOWN. -/
def PwrSt.code : PwrSt → Nat
  | .main => 0
  | .critical => 1
  | .flush => 2
  | .hold => 3
  | .backup => 3
  | .down => 3

/-- PWR_STAT (Table PWR-7); `low` says whether E is below E_req now (R380). -/
def Pwr.statusWord (p : Pwr) (low : Bool) : Word :=
  w16 (p.st.code * 8192) ||| ofBits (List.replicate 7 false ++
    [p.vmainOk, p.vioOk && p.vioSeen, p.charger, p.vbakLow, low, p.dwell.isSome])

/-! ### Store -/

/-- The code of a stage state (STORE_WRES, Table STORE-9). -/
def WState.code : WState → Nat
  | .none => 0
  | .pending => 1
  | .busy => 2
  | .deferred => 3
  | .committed => 4
  | .failed => 5

/-- STORE_STAT.state (Table STORE-9): the mount, a burst of an append, a compaction step, a slot write, or IDLE. -/
def State.storeState (s : State) : Nat :=
  if s.store.mounting then 1
  else
    let append := match s.store.burst with
      | some (.record _ _ _) => true
      | some (.header _ comp _) => !comp
      | _ => false
    if append then 2 else if s.store.comp.isSome then 3
    else match s.img.load with
      | some l => if l.bytes.isEmpty then 0 else 4
      | none => 0

/-- STORE_STAT (Table STORE-9). -/
def State.storeStat (s : State) : Word :=
  let t := s.store
  let defers := t.wst == .deferred || t.jq.any (fun e => e.st == .deferred)
  w16 (s.storeState * 8192 + b2n (s.storeState != 0) * 4096 + b2n defers * 2048 + b2n t.back * 1024 + t.jq.length % 64)

/-- STORE_RRES: the stored result, with pend while the stage holds an uncommitted write of the key read (R396). -/
def State.storeRres (s : State) : Word :=
  let w := s.rd A.STORE_RRES
  let pend := w != 0 && (match s.store.stage with
    | none => false
    | some h => h.key == s.store.rkey)
  setField w 13 13 (b2n pend)

/-- The keys that have a value, each once. -/
def State.keysHeld (s : State) : List Nat :=
  let all := s.allRecs
  (all.filter (fun x => x.n != 0 && liveIn all x)).map (·.key)

/-- The live bytes of the journal. -/
def State.journalLive (s : State) : Nat :=
  let all := s.allRecs
  ((all.filter (fun x => x.n != 0 && liveIn all x)).map (fun x => recSize x.n)).sum

/-- A word of the sector view (Table STORE-9); a vendor sector reads 0 (R388). -/
def State.sectorWord (s : State) (k : Nat) : Word :=
  let n := field (s.rd A.STORE_VIEW) 7 0
  if 224 ≤ n then 0 else w16 (leNat (s.arr (4096 * n + 2 * k) 2))

/-! ### Recorder -/

/-- The eight window words of a record (Table EVT-1). -/
def Record.words (x : Record) : List Word :=
  [w16 x.seq, wordOf x.ev.tb 0, wordOf x.ev.tb 1, wordOf x.ev.tb 2, recWord4 x.ev x.prot x.held x.jq, x.ev.d0, x.ev.d1,
    w16 x.rep]

/-- Word `w` of record slot `n`; an empty slot reads 0 (R347). -/
def State.recWord (s : State) (n w : Nat) : Word :=
  match s.rcd.at n with
  | none => 0
  | some x => nth x.words w

/-- REC_RT: sequence number and repeat time of the slot that REC_RTSEL names. -/
def State.recRt (s : State) (w : Nat) : Word :=
  match s.rcd.at (field (s.rd A.REC_RTSEL) 10 0) with
  | none => 0
  | some x => if w = 0 then w16 x.seq else w16 x.rtime

/-! ### Pair, safety and banks -/

/-- PAIR_STAT.link (Table PAIR-9). -/
def LinkSt.code : LinkSt → Nat
  | .off => 0
  | .train => 1
  | .hello => 2
  | .up => 3
  | .lost => 4

/-- PAIR_STAT (Table PAIR-9). -/
def State.pairStat (s : State) : Word :=
  let p := s.pair
  w16 (p.link.code * 8192) ||| ofBits [false, false, p.handPend, p.ownfault, p.idclash, p.owner, p.ownIn, s.lands.pairId == 1,
    p.lockout, p.compat, p.partnerReady, p.sync, p.owner]

/-- The banks of an owner that wait to leave pin float (R419, Table SCOPE-6). -/
def State.pairWait (s : State) : Word :=
  ofBits (allBanks.map (fun b => s.pair.owner && !s.pair.lockout && s.dom b.val && (s.bank[b]).flt == .floating))

/-- What is left of tRETRY, in ms; a started ms counts or not (notes/assumptions/11.md). -/
def State.retryLeft (s : State) : Nat :=
  if s.pair.link = .lost then
    (s.tretry - (s.clk.ticks - s.pair.lostAt) + (if Config.freeBool s.free then 999 else 0)) / 1000
  else 0

/-- SAFE_STAT.mech (Table SAFE-7). -/
def Mech.code : Mech → Nat
  | .testing => 1
  | .passed => 2
  | .failed => 3

/-- SAFE_STAT (Table SAFE-7). -/
def State.safeStat (s : State) : Word :=
  w16 (b2n s.safe.dev * 32768 + b2n s.fltN * 16384 + s.safe.mech.code * 4096 + b2n s.safe.wdRun * 2048 +
    b2n s.safe.estop * 1024 + s.safe.dieOk.toNat)

/-- SAFE_WDSTAT (Table SAFE-7). -/
def State.wdStat (s : State) : Word :=
  if s.safe.wdRun then w16 (sat8 (s.wdElapsed / 1000) * 256 + b2n s.safe.wdNext) else 0

/-- BANK_ARMSTAT (Table SAFE-7). -/
def State.armStat (s : State) (b : Fin 8) : Word :=
  w16 (b2n (s.bank[b]).armed * 32768 + b2n (s.prepared b) * 16384 + (s.bank[b]).cause)

/-- A word with one bit for each half-bridge of a bank. -/
def State.hbBits (s : State) (b : Fin 8) (f : Fin 72 → Bool) : Word := let _ := s; ofBits ((hbsOf b).map f)

/-- GSUP_STAT (Table GATE-7). -/
def State.gsupStat (s : State) (b : Fin 8) : Word :=
  let k := s.bank[b]
  s.hbBits b (fun h => s.hb[h].bst) |||
    w16 (b2n (s.cpBank b) * 32768 + b2n k.vcpOk * 16384 + b2n k.vdrvOk * 8192 + b2n (s.cpBank b) * 4096)

/-- GATE_STAT.state (Table GATE-8). -/
def HbCmd.code : HbCmd → Nat
  | .low => 0
  | .high => 1
  | .hiz => 2
  | .float => 3

/-- GATE_STAT (Table GATE-8). -/
def HalfB.statusWord (x : HalfB) : Word :=
  w16 (b2n x.hs.sensed * 32768 + b2n x.ls.sensed * 16384 + b2n (x.hs.wait || x.ls.wait) * 8192 + b2n x.bst * 4096 +
    x.cmd.code * 256)

/-- GATE_RANGE (Table GATE-8). -/
def DriveCfg.rangeWord (d : DriveCfg) : Word := w16 (d.srcMax * 4096 + d.srcMin * 256 + d.snkMax * 16 + d.snkMin)

/-- PROT_BSTAT (Table PROT-7). -/
def Bank.statusWord (k : Bank) : Word :=
  w16 (b2n k.tripIn * 32768 + b2n k.chopping * 16384 + b2n k.vov1 * 8192 + b2n k.vov2 * 4096 + b2n k.trip * 2048 +
    b2n k.ots * 1024 + b2n k.estop * 512)

/-- PROT_AXSTAT.act (Table PROT-7): the command of row 2 on the axis, whichever reaction gives it (DEDUCED,
notes/assumptions/26.md). -/
def State.actCode (s : State) (a : Fin 24) : Nat :=
  let cs := (s.axHbs a).filterMap s.row2Cmd
  if cs.isEmpty then 0 else if cs.contains .low then 2 else if cs.contains .high then 3 else 1

/-- The axis is in HELD_HIZ or HELD_ASC (Table PROT-2), a HIZ_LOCAL reaction of one of its half-bridges included. -/
def State.heldAx (s : State) (a : Fin 24) : Bool := s.ax[a].react != .none || (s.axHbs a).any (fun h => s.hb[h].loc)

/-- PROT_AXSTAT (Table PROT-7). -/
def State.axStatProt (s : State) (a : Fin 24) (w : Word) : Word :=
  let c := s.axCfg a
  w16 (c.reaction % 4 * 16384 + c.safe % 4 * 4096 + s.actCode a * 4 + b2n (s.heldAx a) * 2) ||| (w &&& 1)

/-! ### Timers and converters -/

/-- PWM_CNT at PWM clock `t` (R153, R154). -/
def Timer.count (x : Timer) (t : Nat) : Word :=
  if x.run then w16 (min ((t - x.base) / prescale x.act) (x.act[1]).toNat) else 0

/-- The out field of a channel (Table PWM-9): 11 while rows 1 to 5 drive its half-bridge. -/
def State.outCode (s : State) (t : Fin 24) (r : Fin 3) : Nat :=
  let own := match (s.tim[t]).ch[r].cmd with
    | .low => 0
    | .high => 1
    | .hiz => 2
  match s.axHb t r with
  | none => own
  | some h => if s.aboveForces h then 3 else own

/-- PWM_STAT (Table PWM-9). -/
def State.pwmStat (s : State) (t : Fin 24) : Word :=
  let x := s.tim[t]
  w16 (b2n x.run * 32768 + b2n (s.dither t) * 16384 + b2n x.stage.isSome * 8192 + b2n (srcAxis x.act) * 4096 +
    s.outCode t 2 * 16 + s.outCode t 1 * 4 + s.outCode t 0)

/-- PWM_LDPEND_LO and _HI. -/
def State.ldpend (s : State) (hi : Bool) : Word :=
  ofBits (((List.finRange 24).filter (fun t => decide (16 ≤ t.val) == hi)).map (fun t => (s.tim[t]).stage.isSome))

/-- CONV_STAT (Table AXIS-9): a converter that runs, with no sequence, works through its background list (R249). -/
def Bank.convStat (k : Bank) (on : Bool) : Word :=
  ofBits ((List.finRange 3).map (fun c => k.conv[c].run.isSome) ++ [false] ++
    (List.finRange 3).map (fun c => on && k.conv[c].run.isNone))

/-- DLC_AGE (Table PWM-10). -/
def Bank.dlcAge (k : Bank) (now : Nat) : Word := if k.dlcValid then w16 (satU ((now - k.dlcAt) / 1000)) else 0xFFFF

/-! ### Ground motion, schedule, solver -/

/-- The stamp of the newest sample of an input of Table MOTION-3. -/
def State.newestSample (s : State) (x : Nat) : Option Nat :=
  let f := s.fus
  let stamps (l : List Sample) : Option Nat := (l.map (·.t)).max?
  if h : x < 4 then f.wheels[x].last
  else if x = 4 then stamps (f.gnss ++ f.course)
  else if x = 5 then stamps (f.imuYaw ++ f.imuAcc)
  else if x = 6 then stamps f.sent[0]
  else if x = 7 then stamps f.sent[1]
  else stamps (f.hostV ++ f.hostYaw)

/-- FUS_IN_AGE_x in ms (Table MOTION-10). -/
def State.inAge (s : State) (x : Nat) : Word :=
  match s.newestSample x with
  | none => 0xFFFF
  | some t => w16 (satU ((s.clk.ticks - t) / 1000))

/-- FUS_LIVE_S: s(t) in mm modulo 2^32, with the fraction left out (R299, notes/assumptions/15.md). -/
def State.liveWord (s : State) (k : Nat) : Word := wordOf (s.liveS.floor % 2 ^ 32).toNat k

/-- The targets of an entry in some states, as a mask. -/
def Entry.mask (e : Entry) (f : TgtSt → Bool) : Nat := maskOf ((e.tgts.filter (fun p => f p.2)).map (·.1))

/-- The words SCH_VIEW_0 to SCH_VIEW_6 of an entry (Table MOTION-11). -/
def Entry.viewWords (e : Entry) : List Word :=
  let pend := e.mask (fun t => match t with
    | .pending _ => true
    | .late _ => true
    | _ => false)
  let com := e.mask (fun t => match t with
    | .committed _ => true
    | _ => false)
  [w16 (32768 + e.act), wordOf e.s 0, wordOf e.s 1, e.value, wordOf pend 0, wordOf com 0,
    w16 (com / 65536 % 256 * 256 + pend / 65536 % 256)]

/-- SCH_VIEW_k: the entry that SCH_VIEW_IDX names; 0 where none is held. -/
def State.schView (s : State) (k : Nat) : Word :=
  match mapGet s.sched.q (field (s.rd A.SCH_VIEW_IDX) 7 0) with
  | none => 0
  | some e => nth e.viewWords k

/-- SOL_STAT (Table DROP-5). -/
def State.solStat (s : State) : Word :=
  w16 (b2n s.sol.solving.isSome * 32768 + s.sol.queue.length % 32 * 256 + s.rowCount % 32)

/-- SOL_MAP_r (Table DROP-5). -/
def State.solMap (s : State) (r : Nat) : Word :=
  match s.solRows[r]? with
  | none => 0xFFFF
  | some (i, a) => w16 (a * 256 + i)

/-- SOL_RSTAT_r (Table DROP-6). -/
def State.solRstat (s : State) (r : Fin 24) (w : Word) : Word :=
  let x := s.sol.rows[r]
  let active := match s.solRows[r.val]? with
    | none => false
    | some (_, a) => let st := s.ax[fin24 a].st; st == .ramp || st == .run
  w16 (b2n active * 32768 + b2n x.blocked * 16384 + x.exps.length % 128) ||| (w &&& 0x2000)

/-! ### A register word -/

/-- The CAN controller a register index names. -/
def canIx (ix : List Nat) : Fin 2 := ⟨ix[0]?.getD 0 % 2, Nat.mod_lt _ (by decide)⟩

/-- The word of a 32-bit set that a _LO or _HI register shows. -/
def half32 (x : BitVec 32) (ix : List Nat) : Word := wordOf x.toNat (ix[1]?.getD 0)

/-- What the register holds or shows at PWM clock `t`, before its access codes: the words that the device forms at the read,
else the stored word. PWM_ACT of a timer that ran and was stopped keeps the words last in effect (DEDUCED,
notes/assumptions/26.md). -/
def State.live (s : State) (t : Nat) (r : Reg) (ix : List Nat) (a : Nat) : Word :=
  let w := s.rd a
  let i := ix[0]?.getD 0
  let b := bankIx ix
  let x := axIx ix
  let h := hbIx ix
  match r with
  | .IMG_STATUS => s.imgStatus
  | .IMG_WINDOW => 0
  | .PWM_LDPEND_LO => s.ldpend false
  | .PWM_LDPEND_HI => s.ldpend true
  | .CLK_STATUS => s.clk.statusWord
  | .TIME_STATUS => s.clk.timeWord
  | .TIME_SNAP => nth s.snapWords i
  | .TIME_TB => wordOf s.tb i
  | .HOST_STATUS => s.statusWord
  | .HOST_SUMMARY => s.summaryWord
  | .OP_SLOTS => w16 (256 * s.slotBits (·.st.terminal) + s.slotBits (·.st != .free))
  | .OP_STAT => nth (s.ops.slots[slotIx i].words s.clk.ticks) 0
  | .OP_INFO => nth (s.ops.slots[slotIx i].words s.clk.ticks) 1
  | .OP_OUTC => nth (s.ops.slots[slotIx i].words s.clk.ticks) 2
  | .OP_AGE => nth (s.ops.slots[slotIx i].words s.clk.ticks) 3
  | .OP_RES => nth (s.ops.slots[slotIx (i / 8)].res[slotIx i]).words (ix[1]?.getD 0)
  | .EVT_GROUPS =>
    w16 (256 * (ofBits ((List.range 8).map s.irqGroup)).toNat +
      (ofBits ((List.range 8).map (fun g => s.rd (A.EVT_STAT g) != 0))).toNat)
  | .REC_CTL => ofBits [s.rcd.frozen || s.rcd.freezePend]
  | .REC_STAT => w16 (b2n s.rcd.frozen * 32768 + b2n s.rcd.draining * 16384 + s.rcd.fifo.length)
  | .REC_HEAD => if i = 0 then w16 s.rcd.seq else w16 s.rcd.head1
  | .REC_CFG => w16 s.rcd.p
  | .REC_RT => s.recRt i
  | .REC_WINDOW => s.recWord (i / 8) (i % 8)
  | .PWR_STAT => s.pwr.statusWord (decide ((s.rd A.PWR_ESTORED).toNat < s.ereq))
  | .PWR_DOM_STAT => w16 (b2n s.domBusy * 32768 + s.pwr.on.toNat)
  | .PWR_DOM_AVAIL => w16 s.domAvail.toNat
  | .PWR_EREQ => w16 (satU s.ereq)
  | .PWR_BHOLD_ST => ofBits (allBanks.map (fun b => (s.bank[b]).hold.isSome))
  | .STORE_STAT => s.storeStat
  | .STORE_FREE => w16 s.storeFree
  | .STORE_LIVE => w16 (satU (s.journalLive / 64))
  | .STORE_KEYS => w16 s.keysHeld.length
  | .STORE_SEQ => wordOf s.store.seq i
  | .STORE_WRES => w16 (s.store.wst.code * 8192 + s.store.refusal * 2048 + s.store.wkey)
  | .STORE_RRES => s.storeRres
  | .STORE_EJQ => w16 (satU s.ejq)
  | .STORE_WEARMAX => w16 (satU ((s.store.wear.toList.max?.getD 0) / 64))
  | .STORE_WEARMIN => w16 (satU ((s.store.wear.toList.min?.getD 0) / 64))
  | .STORE_SECTOR => s.sectorWord i
  | .PAIR_STAT => s.pairStat
  | .PAIR_RDY => w16 (256 * (ofBits (allBanks.map s.bankReady)).toNat + s.pair.rdy.toNat)
  | .PAIR_RETRY => w16 s.retryLeft
  | .PAIR_LASTCAUSE => w16 (s.pair.ownCause * 256 + s.pair.relCause)
  | .PAIR_WAIT => s.pairWait
  | .PAIR_FSEQ => wordOf s.pair.fseq i
  | .PAIR_TBOFS => wordOf s.pair.tbOfs i
  | .SAFE_STAT => s.safeStat
  | .SAFE_WDSTAT => s.wdStat
  | .FUS_LIVE_S => s.liveWord i
  | .FUS_IN_AGE => s.inAge i
  | .SCH_STAT => w16 s.sched.q.length
  | .SCH_VIEW => s.schView i
  | .SOL_STAT => s.solStat
  | .SOL_MAP => s.solMap i
  | .SOL_FEST => s.fest (fin24 i)
  | .SOL_RSTAT => s.solRstat (fin24 i) w
  | .CAN_STAT => s.canStat (canIx ix)
  | .CAN_ERRCNT => s.canErrcnt (canIx ix)
  | .CAN_TXREQ => half32 (s.can[canIx ix]).pend ix
  | .CAN_TXABORT => half32 (s.can[canIx ix]).abort ix
  | .BANK_ARMSTAT => s.armStat b
  | .GSUP_STAT => s.gsupStat b
  | .GSEN_HS => s.hbBits b (fun h => s.hb[h].hs.sensed)
  | .GSEN_LS => s.hbBits b (fun h => s.hb[h].ls.sensed)
  | .GSEN_FGN => s.hbBits b (fun h => s.hbReg A.GATE_FLT h &&& 0x0018 != 0)
  | .PWM_CNT => (s.tim[x]).count t
  | .PWM_STAT => s.pwmStat x
  | .PWM_DPHASE => w16 (s.tim[x]).phase
  | .PWM_ACT => ((s.tim[x]).act.toList[ix[2]?.getD 0]?).getD 0
  | .GATE_STAT => s.hb[h].statusWord
  | .GATE_RANGE => (s.drive h).rangeWord
  | .GATE_SOFT => w16 (s.drive h).soft
  | .PROT_BSTAT => (s.bank[b]).statusWord
  | .PROT_AXSTAT => s.axStatProt x w
  | .AX_STAT => s.axStat x
  | .CONV_STAT => (s.bank[b]).convStat (s.convOn b)
  | .DLC_STAT => (w &&& 0x8000) ||| w16 (b2n (s.bank[b]).dlcValid * 16384 + (s.bank[b]).dlcGen)
  | .DLC_AGE => (s.bank[b]).dlcAge s.clk.ticks
  | .DLC_OFS => s.hb[h].dlcOfs.getD (Config.dlcTrim h.val)
  | .TIME_APPLY => ofBits [s.clk.applyPend]
  | _ => w

/-- The bits of a word that a read returns (R14, Table MAP-10): WO fields read 0, and with the domain off so do RO, W1C, W1S
and SC fields. The SC field TIME_APPLY.apply reads 1 until its boundary; every other SC action is over at once. -/
def readMask (on : Bool) (fs : List Fld) : Word :=
  fs.foldl (fun m f =>
    match f.acc with
    | .RW => m ||| f.mask
    | .IL => m ||| f.mask
    | .WO => m
    | _ => if on then m ||| f.mask else m) 0

/-- The active image is a spraying one. -/
def State.spraying (s : State) : Bool :=
  match s.img.active with
  | none => false
  | some c => !c.seeding

/-- A read finds the word's engine on. With a spraying image SOL_MAP_r reads 0xFFFF although D_SOL never comes on (Seeds and
images, 10). -/
def State.readOn (s : State) (r : Reg) (a : Nat) : Bool := s.addrOn a || (r == .SOL_MAP && s.spraying)

/-- A word of the block of a row that the active seeding image does not have: it reads 0 (R317). -/
def State.rowGone (s : State) (a : Nat) : Bool :=
  decide (0x1900 ≤ a) && decide (a < 0x1F00) && decide (s.rowCount ≤ (a - 0x1900) / 64) &&
    (match s.img.active with
    | none => false
    | some c => c.seeding)

/-- A word as a read of its own instant returns it; an address that no chapter assigns reads 0 (R38). -/
def State.shown (s : State) (t a : Nat) : Word :=
  match lookup a with
  | none => 0
  | some (row, ix) => if s.rowGone a then 0 else s.live t row.reg ix a &&& readMask (s.readOn row.reg a) row.fields

/-! ### Quantities of several words (R13, R124) -/

/-- The place of a word in the quantity it belongs to, and the words of that quantity; none for a word of its own. -/
def quantOf (r : Reg) (ix : List Nat) : Option (Nat × Nat) :=
  let i := ix[0]?.getD 0
  let j := ix[1]?.getD 0
  match r with
  | .IMG_ID => some (i, 2)
  | .IMG_VER => some (i, 2)
  | .IMG_LEN => some (i, 2)
  | .IMG_CRC => some (i, 2)
  | .TIME_SNAP => some (i, 7)
  | .TIME_TB => some (i, 3)
  | .TIME_SET_SEC => some (i, 2)
  | .OP_RES => some (j, 3)
  | .REC_HEAD => some (i, 2)
  | .REC_RT => some (i, 2)
  | .STORE_SEQ => some (i, 2)
  | .STORE_RSEQ => some (i, 2)
  | .PAIR_FSEQ => some (i, 2)
  | .PAIR_TBOFS => some (i, 3)
  | .PAIR_PSTSEQ => some (i, 2)
  | .FUS_EST => some (i, 10)
  | .FUS_LIVE_S => some (i, 2)
  | .FUS_WHL_CNT => some (j, 2)
  | .SCH_LAST => some (i, 5)
  | .SOL_CNT => some (j % 2, 2)
  | .BUF_ID_LO => some (0, 2)
  | .BUF_ID_HI => some (1, 2)
  | .BUF_MASK_LO => some (0, 2)
  | .BUF_MASK_HI => some (1, 2)
  | .BUF_STAMP0 => some (0, 3)
  | .BUF_STAMP1 => some (1, 3)
  | .BUF_STAMP2 => some (2, 3)
  | _ => none

/-- A word of the latch as a read returns it. -/
def State.latchShown (s : State) (a : Nat) : Word :=
  match lookup a with
  | none => 0
  | some (row, _) => s.latched a &&& readMask (s.addrOn a) row.fields

/-- A read of one word at PWM clock `t`: the lowest word of a quantity loads its latch, a higher word returns it (R124). -/
def State.readAt (s : State) (t a : Nat) : State × Word :=
  match lookup a with
  | none => (s, 0)
  | some (row, ix) =>
    match quantOf row.reg ix with
    | none => (s, s.shown t a)
    | some (0, n) => (s.latchWords (a + 1) ((List.range (n - 1)).map (fun k => s.shown t (a + 1 + k))), s.shown t a)
    | some (_, _) => (s, s.latchShown a)

/-- The PWM clock of the present tick at which a read samples: the spec does not say which (notes/assumptions/4.md). -/
def State.sampleAt (s : State) : Nat := 200 * s.clk.ticks + (Config.freeWord s.free).toNat % 200

/-- Reads of a list of addresses in order, all of one instant. -/
def State.readAll (s : State) (t : Nat) : List Nat → State × List Word
  | [] => (s, [])
  | a :: as =>
    match s.readAt t a with
    | (s, w) =>
      match s.readAll t as with
      | (s, ws) => (s, w :: ws)

end Sys2Proof.Machine
end

