-- ==== Sys2Proof/Machine/Write.lean ====
section
/-! DEFINITION. Sys2Proof/Machine/Write.lean: what a host write of one word does (R14, R20, R21, R38, R125, R515): whether
it is a host error, what it stores, and the operation that a write to its register starts. -/
namespace Sys2Proof.Machine

/-! ### Legality (R21) -/

/-- PWM_CTL, PWM_PER, PWM_MINP and PWM_REF of a timer with one word replaced: tMINP, and in a bootstrap-only bank tREF, are
at most half the period (R165). -/
def State.pulsesFit (s : State) (x : Fin 24) (k : Nat) (d : Word) : Bool :=
  let w (j : Nat) : Word := if j = k then d else s.rd (timAddr x j)
  let period := ((w 1).toNat + 1) * 2 ^ field (w 0) 3 0
  2 * field (w 13) 7 0 ≤ period && (s.cpBank (axBank x) || 4 * field (w 15) 7 0 ≤ period)

/-- The value alone makes no host error beside what its fields say: commands, keys and codes of the chapters. -/
def wordOk (r : Reg) (ix : List Nat) (d : Word) : Bool :=
  match r with
  | .REC_CLR => d == 0x00C5
  | .SAFE_CLR => d == 0x00C1
  | .SAFE_WDCFG => field d 14 8 < field d 6 0
  | .PAIR_CMD => d == 1 || d == 2
  | .BANK_ARM => d == 0x00A5 || d == 0x005A || d == 0
  | .FUS_EPOCH => field d 14 8 + 1 ≤ 10 * field d 3 0
  | .FUS_HINJ_0 => d == 1 || d == 2
  | .SCH_SECT_0 => field d 1 0 != 0
  | .SCH_IN_0 => field d 15 14 != 0
  | .STORE_WR =>
    if ix[0]?.getD 0 = 0 then
      field d 13 8 == 0 &&
        (if field d 15 14 = 1 then 1 ≤ field d 7 0 && field d 7 0 ≤ 128 else field d 15 14 == 2 && field d 7 0 == 0)
    else field d 15 10 == 0
  | .AX_ENC_CPR => d.toNat % 4 == 0
  | _ => true

/-- The write is legal in the present state (R21). A CAN controller is judged by the timing it has in account: with init = 1 what
its registers hold, else what it took while init was 1 (R128). -/
def State.legalNow (s : State) (a : Nat) (r : Reg) (ix : List Nat) (d : Word) : Bool :=
  let x := axIx ix
  match r with
  | .PWM_CTL => s.pulsesFit x 0 d
  | .PWM_PER => s.pulsesFit x 1 d
  | .PWM_MINP => s.pulsesFit x 13 d
  | .PWM_REF => s.pulsesFit x 15 d
  | .PWM_HR => !s.dither x || field d 5 4 == 0
  | .PWR_VFAIL => field d 7 0 + 5 ≤ field (s.rd A.PWR_VOK) 7 0
  | .PWR_VOK => field (s.rd A.PWR_VFAIL) 7 0 + 5 ≤ field d 7 0
  | .SOL_CTL => (s.rd A.SOL_GMAX).toNat ≤ 1000 * field d 6 0
  | .SOL_GMAX => d.toNat ≤ 1000 * field (s.rd A.SOL_CTL) 6 0
  | .SCH_IN_0 => s.stagedMask (A.SCH_IN_12 1) A.SCH_IN_3 != 0
  | .AX_MODE => s.ax[x].st == .stopped
  | .AX_CMD => field d 2 0 != 1 || s.ax[x].st == .stopped
  | .GATE_AMP =>
    s.rd a == d || (match s.hbAxis (hbIx ix) with
      | none => true
      | some p => s.ax[p.1].st == .stopped)
  | .OP_CMD => s.doorbellOk (field d 15 8)
  | .OP_RELEASE => s.releaseOk d
  | .IMG_WINDOW => !s.windowLocked
  | .CAN_CTL =>
    let w := if bit (s.rd a) 15 then s.canTiming (canIx ix) else (s.can[canIx ix]).timing
    bit d 15 || timingOk (nth w 0) (nth w 1) (nth w 2) (nth w 3) (bit d 11)
  | _ =>
    if blkOf a = .can ∧ 0x100 ≤ a % 0x2000 then !(s.can[canIx ix]).pend.getLsbD (ix[1]?.getD 0) else true

/-- The write of a word is no host error (R21). -/
def State.legal (s : State) (a : Nat) (d : Word) : Bool :=
  match lookup a with
  | none => true
  | some (row, ix) =>
    s.legalBits a row.fields d && wordOk row.reg ix d && s.legalNow a row.reg ix d &&
      (blkOf a != .bank || row.reg == .BANK_ARM || !s.lockedBank (bankIx ix).val)

/-! ### Quantities of several words (R13, R125) -/

/-- The word is a higher word of a written quantity. -/
def higher (r : Reg) (ix : List Nat) : Bool :=
  match r with
  | .TIME_SET_SEC => ix[0]?.getD 0 != 0
  | .BUF_ID_HI => true
  | .BUF_MASK_HI => true
  | .FUS_HINJ => true
  | .SCH_IN_12 => true
  | .SCH_IN_3 => true
  | .SCH_IN_45 => true
  | .SCH_SECT_1 => true
  | .SCH_SECT_2 => true
  | .SCH_SECT_3 => true
  | .STORE_WR => ix[0]?.getD 0 != 0
  | .REC_MARK => ix[0]?.getD 0 != 0
  | _ => false

/-- The lowest word of the quantity that a higher word belongs to (R13). -/
def lowOf (a : Nat) : Option Nat :=
  match lookup a with
  | none => none
  | some (row, ix) =>
    if higher row.reg ix then
      match row.reg with
      | .FUS_HINJ => some A.FUS_HINJ_0
      | .SCH_IN_12 => some A.SCH_IN_0
      | .SCH_IN_3 => some A.SCH_IN_0
      | .SCH_IN_45 => some A.SCH_IN_0
      | .SCH_SECT_1 => some A.SCH_SECT_0
      | .SCH_SECT_2 => some A.SCH_SECT_0
      | .SCH_SECT_3 => some A.SCH_SECT_0
      | _ => some (a - 1)
    else none

/-- A frame writes a higher word after its quantity's lowest word and does not write that one again: the multi-word write
breaks the order of R13 (R21). `before` and `later` are the addresses the frame writes before and after. -/
def breaksOrder (a : Nat) (before later : List Nat) : Bool :=
  match lowOf a with
  | none => false
  | some lo => before.contains lo && !later.contains lo

/-- The lowest word of a two-word stored quantity commits it (R125). -/
def State.commit2 (s : State) (t a : Nat) (d : Word) : State := (s.storeWord t a d).storeWord t (a + 1) (s.staged (a + 1))

/-- A written word held within the LIMITS entries that bound its stored fields, given to an operation that stores or stages it,
and the saturations reported with the value stored (R78). -/
def State.bounded (s : State) (a : Nat) (fs : List Fld) (d : Word) (f : Word → State → State) : State :=
  match applyLimits d (s.limitsAt a fs) with
  | (d, n) => (f d s).reportSat a d n

/-! ### Operations that writes start -/

/-- A half of the load window's bytes: word `n` of a page, its low byte at the lower address (R81). -/
def winWrite (n : Nat) (d : Word) (s : State) : State :=
  s.modImg (fun x =>
    { x with window := cellWrs 0 x.window (16384 * field (s.rd A.IMG_PAGE) 2 0 + 2 * n) (leBytes 2 d.toNat) })

/-- A PWM_RUN word: each of its bits starts or stops its timer (R162). -/
def runWord (t : Nat) (hi : Bool) (d : Word) (s : State) : State :=
  s.each ((List.finRange 24).filter (fun x => decide (16 ≤ x.val) == hi)) (fun s x => s.setRun t x (bit d (x.val % 16)))

/-- A write to GATE_FLT: the stuck flags set in this tick stay; a fault whose flags have gone is released (R224). -/
def gateFltClear (t : Nat) (h : Fin 72) (d : Word) (s : State) : State :=
  let a := A.GATE_FLT (hbBank h).val (hbIn h).val
  ((s.clrFlags a (d &&& 0x0003)).w1c a (d &&& 0x001C)).releaseFaults t (hbBank h)

/-- A write to GATE_AMP: the tick of it stands with the half-bridge (Table GATE-6). -/
def ampWrite (t a : Nat) (h : Fin 72) (d : Word) (s : State) : State :=
  (s.storeWord t a d).modHb h (fun x => { x with ampAt := some s.clk.ticks })

/-- A write to AX_CMD (R258, R266). -/
def axCmd (x : Fin 24) (d : Word) (s : State) : State :=
  let s := if bit d 3 then stallClear x s else s
  match field d 2 0 with
  | 1 => axisStart x s
  | 2 => axisStop x s
  | 3 => axisCoast x s
  | _ => s

/-- A write to BANK_ARM (R457, R458). -/
def armWrite (t : Nat) (b : Fin 8) (d : Word) (s : State) : State :=
  if d = 0x00A5 then armPrepare b s else if d = 0x005A then armComplete t b s else hostDisarm t b s

/-- A write to SOL_CLR (R339). -/
def solClr (r : Nat) (d : Word) (s : State) : State :=
  if r < s.rowCount then
    let s := if bit d 0 then solClrCounters (fin24 r) s else s
    if bit d 1 then solClrWindow (fin24 r) s else s
  else s

/-! ### The write of a word -/

/-- A write to a register of a block that has a domain of its own and starts an operation there. -/
def State.writeBlock (s : State) (t a : Nat) (d : Word) (r : Reg) (ix : List Nat) : State :=
  let i := ix[0]?.getD 0
  let b := bankIx ix
  let x := axIx ix
  match r with
  | .BANK_ARM => armWrite t b d s
  | .GSUP_FLT => gsupFltClear b d s
  | .GATE_FLT => gateFltClear t (hbIx ix) d s
  | .GATE_AMP => ampWrite t a (hbIx ix) d s
  | .PROT_BFLT => protBfltClear b d s
  | .PROT_CHFLT => protChfltClear b (hbIn (hbIx ix)) d s
  | .AX_CMD => axCmd x d s
  | .FUS_HINJ_0 => hostInject d s
  | .SCH_CANCEL => if bit d 8 then s.clearQueue else schCancel (field d 7 0) s
  | .SCH_SECT_0 => schSect t (field d 1 0) s
  | .SCH_IN_0 => scheduleInsert d s
  | .SOL_CLR => solClr i d s
  | .PAIR_CMD => if d = 1 then handover s else clearLock s
  | .CAN_TXREQ => canTxreq (canIx ix) (ix[1]?.getD 0 == 1) d s
  | .CAN_TXABORT => canTxabort (canIx ix) (ix[1]?.getD 0 == 1) d s
  | _ => s.storeWord t a d

/-- What follows a stored word of a block with a domain of its own. -/
def State.afterStore (s : State) (a : Nat) (r : Reg) (ix : List Nat) (before : Word) : State :=
  match r with
  | .PAIR_CTL => s.linkJudge
  | .FUS_EPOCH => if s.fusOn then s.setEpoch (s.rd a) else s
  | .SOL_FALL => if s.solOn then s.setFall (fin24 (ix[0]?.getD 0)) else s
  | .AX_MODE => if s.axOn (axIx ix) then s.hallConfig (axIx ix) else s
  | .AX_HALLCFG => if s.axOn (axIx ix) then s.hallConfig (axIx ix) else s
  | .CAN_CTL => if s.dom 11 then s.canSettings (canIx ix) (bit before 15) else s
  | .CAN_NBT => if s.dom 11 then s.canSettings (canIx ix) (bit (s.rd (A.CAN_CTL (canIx ix).val)) 15) else s
  | .CAN_NBT2 => if s.dom 11 then s.canSettings (canIx ix) (bit (s.rd (A.CAN_CTL (canIx ix).val)) 15) else s
  | .CAN_DBT => if s.dom 11 then s.canSettings (canIx ix) (bit (s.rd (A.CAN_CTL (canIx ix).val)) 15) else s
  | .CAN_DBT2 => if s.dom 11 then s.canSettings (canIx ix) (bit (s.rd (A.CAN_CTL (canIx ix).val)) 15) else s
  | .CAN_TDC => if s.dom 11 then s.canSettings (canIx ix) (bit (s.rd (A.CAN_CTL (canIx ix).val)) 15) else s
  | _ => s

/-- A write to STORE_JLOST: once the counter reads 0 again, the next queue-full loss raises JRNL_OVF (R397). -/
def jlostWrite (t : Nat) (d : Word) (s : State) : State :=
  let s := s.storeWord t A.STORE_JLOST d
  if s.rd A.STORE_JLOST = 0 then s.modStore (fun x => { x with full := false }) else s

/-- A write to REC_CTL (R352, R353). -/
def recCtl (d : Word) (s : State) : State := if bit d 0 then recFreeze s else s.thaw .host

/-- A write to a register of CORE or AON whose fields are `fs`. -/
def State.writeCore (s : State) (t a : Nat) (d : Word) (r : Reg) (ix : List Nat) (fs : List Fld) : State :=
  let i := ix[0]?.getD 0
  match r with
  | .IMG_KEYDATA => imgKeydataWrite d s
  | .IMG_KEYCMD => keyCmd d s
  | .IMG_WINDOW => winWrite i d s
  | .SYS_SWRST => s
  | .PWM_LOADALL_LO => loadAll t false d s
  | .PWM_LOADALL_HI => loadAll t true d s
  | .PWM_RUN_LO => s.bounded a fs d (runWord t false)
  | .PWM_RUN_HI => s.bounded a fs d (runWord t true)
  | .CLK_CTL => if bit d 0 then tickRestore s else s
  | .TIME_CTL => let s := s.storeWord t a d; if bit d 8 then relock s else s
  | .TIME_APPLY => if bit d 0 then timeApply s else s
  | .TIME_SET_SEC => s.commit2 t a d
  | .OP_CMD => doorbell (field d 15 8) s
  | .OP_RELEASE => opRelease d s
  | .OP_ABORT => opAbort d s
  | .EVT_STAT => evtStatClear (bankIx ix) d s
  | .REC_CTL => s.bounded a fs d recCtl
  | .REC_CLR => recClr s
  | .REC_MARK => hostMark d (s.staged (A.REC_MARK 1)) s
  | .PWR_DOM_REQ => s.bounded a fs d (writeDomReq t)
  | .PWR_ICHG => (s.storeWord t a d).chargerNow
  | .PWR_CFG => (s.storeWord t a d).chargerNow
  | .PWR_VCHG => (s.storeWord t a d).chargerNow
  | .STORE_JLOST => jlostWrite t d s
  | .STORE_WR => if field d 15 14 = 1 then storeWrite (field d 7 0) s else s.loadStage []
  | .STORE_RD => storeRead (field d 9 0) s
  | .SAFE_CLR => safeClr s
  | .SAFE_WDCFG => s.bounded a fs d safeWdcfg
  | .SAFE_WDKICK => watchdogKick t d s
  | .SAFE_PLFLT_LO => safePlfltClear false d s
  | .SAFE_PLFLT_HI => safePlfltClear true d s
  | _ => s.storeWord t a d

/-- A field of the word is RW or IL: with the domain off the word still stores (Table MAP-10). -/
def storing (fs : List Fld) : Bool := fs.any (fun f => f.acc == .RW || f.acc == .IL)

/-- The effect of a legal write of a word at PWM clock `t`. While the domain of its block is off, only what it stores
happens (Table MAP-10); an address that no chapter assigns has no effect (R38). -/
def State.writeLegal (s : State) (t a : Nat) (d : Word) : State :=
  match lookup a with
  | none => s
  | some (row, ix) =>
    if s.addrOn a || storing row.fields then
      if higher row.reg ix then s.bounded a row.fields d (fun d s => s.setStaged a d)
      else
        match domOfAddr a, row.reg with
        | none, r => s.writeCore t a d r ix row.fields
        | some _, .BUF_ID_LO => s.commit2 t a d
        | some _, .BUF_MASK_LO => s.commit2 t a d
        | some _, r => (s.writeBlock t a d r ix).afterStore a r ix (s.rd a)
    else s

/-! ### Host errors (R20, R21) -/

/-- The words of one timer in a bank block (Table PWM-8). -/
def inTimer (a : Nat) : Bool := blkOf a == .bank && 0x40 ≤ a % 0x400 && a % 0x400 < 0x100

/-- The words that an UNPREDICTABLE result of a write at `a` may reach: its block; of a bank block the same bank (R20); of a
timer's word that timer (R165, R174). -/
def sameBlock (a x : Nat) : Bool :=
  blkOf a == blkOf x && (blkOf a != .bank || a / 0x400 == x / 0x400) && (!inTimer a || a / 0x40 == x / 0x40)

/-- Registers whose writes reach a safety function, another block, the loaded image or the journal, none of which an
UNPREDICTABLE result affects (R20, notes/assumptions/25.md). -/
def spared (r : Reg) : Bool :=
  ([.BANK_ARM, .AX_CMD, .GSUP_FLT, .GATE_FLT, .IMG_KEYDATA, .IMG_KEYCMD, .SYS_SWRST, .PWM_LOADALL_LO, .PWM_LOADALL_HI, .PWM_RUN_LO,
    .PWM_RUN_HI, .OP_CMD, .OP_ABORT, .REC_MARK, .PWR_DOM_REQ, .STORE_WR, .PAIR_CMD, .SAFE_CLR, .SAFE_FLTEN, .SAFE_WDCFG,
    .SAFE_WDKICK, .SAFE_PLTHR, .SAFE_PLFLT_LO, .SAFE_PLFLT_HI, .SCH_SECT_0, .PROT_BFLT, .PROT_CHFLT, .PROT_VOV1_ON,
    .PROT_VOV1_OFF, .PROT_VOV2, .PROT_CHOPMAX, .PROT_OTW, .PROT_BLANK, .PROT_TRIPCFG, .PROT_DS, .PROT_DG, .PROT_ILIM,
    .PROT_AXCFG, .PROT_AXSTAT, .PROT_ILIMCNT] : List Reg).contains r

/-- A word that may be among the writes whose effect stands for an UNPREDICTABLE result of a host error at `a`: it is legal in
the state it meets. -/
def State.reaches (s : State) (a : Nat) (p : Nat × Word) : Bool :=
  sameBlock a p.1 &&
    (match lookup p.1 with
    | none => false
    | some (row, _) => !spared row.reg && s.legal p.1 p.2)

/-- A host error in the block of `a`: a free sequence of legal writes to that block (R20, R21, notes/assumptions/25.md). -/
def State.hostErr (s : State) (t a : Nat) : State :=
  s.took.each (Config.freeWrites s.free) (fun s p => if s.reaches a p then s.writeLegal t p.1 p.2 else s)

/-- A write to BANK_ARM of another value than its three cancels a pending 0x00A5 (R457). -/
def State.cancelArm (s : State) (a : Nat) : State :=
  match lookup a with
  | none => s
  | some (row, ix) => if row.reg = .BANK_ARM then s.modBank (bankIx ix) (fun k => { k with prep := none }) else s

/-- An interlock of Table SAFE-3 gives a write no effect, whatever its value: SAFE_WDCFG while the watchdog runs, BANK_ARM on a
synchronised standby (R22, R432, R455). -/
def State.barred (s : State) (a : Nat) : Bool :=
  match lookup a with
  | none => false
  | some (row, _) =>
    match row.reg with
    | .SAFE_WDCFG => s.safe.wdRun
    | .BANK_ARM => s.armDead
    | _ => false

/-- Axis `x` started in this tick (R258). -/
def State.startsNow (s : State) (x : Fin 24) : Bool := s.ax[x].startAt == some s.clk.ticks

/-- The half-bridges of axis `x` whose GATE_AMP was written in this tick (R208). -/
def State.ampsNow (s : State) (x : Fin 24) : List (Fin 72) :=
  (List.finRange 72).filter (fun h => s.hb[h].ampAt == some s.clk.ticks && (s.hbAxis h).map (·.1) == some x)

/-- A host error of GATE_AMP written in the tick in which its axis then starts: the gain that the write gave acts (R208). -/
def ampClash (t a : Nat) (d : Word) (s : State) : State :=
  match lookup a with
  | some (row, ix) =>
    if row.reg = .AX_CMD ∧ field d 2 0 = 1 ∧ s.startsNow (axIx ix) then
      s.each (s.ampsNow (axIx ix)) (fun s h =>
        let g := A.GATE_AMP (hbBank h).val (hbIn h).val
        (s.hostErr t g).storeWord t g (s.rd g))
    else s
  | none => s

/-- A write refused because its axis started earlier in the same tick: the gain acts (R208). -/
def ampLate (t a : Nat) (d : Word) (s : State) : State :=
  match lookup a with
  | some (row, ix) =>
    match row.reg, s.hbAxis (hbIx ix) with
    | .GATE_AMP, some p =>
      if s.startsNow p.1 && s.legalBits a row.fields d && !s.lockedBank (bankIx ix).val then ampWrite t a (hbIx ix) d s else s
    | _, _ => s
  | none => s

/-- A host write of one word at PWM clock `t`. -/
def State.writeWord (s : State) (t a : Nat) (d : Word) : State :=
  if s.barred a then s
  else if s.legal a d then ampClash t a d (s.writeLegal t a d) else ampLate t a d ((s.cancelArm a).hostErr t a)

/-- Host writes of a list of words, each at its address, in order (R119); a higher word behind its lowest one is a host error
(R13, R21). `before` are the addresses that the frame has written. -/
def State.writeWordsAfter (s : State) (t : Nat) (before : List Nat) : List (Nat × Word) → State
  | [] => s
  | p :: rest =>
    let s := if breaksOrder p.1 before (rest.map (·.1)) then s.hostErr t p.1 else s.writeWord t p.1 p.2
    s.writeWordsAfter t (p.1 :: before) rest

/-- Host writes of a frame's words. -/
def State.writeWords (s : State) (t : Nat) (l : List (Nat × Word)) : State := s.writeWordsAfter t [] l

end Sys2Proof.Machine
end

