-- ==== Sys2Proof/Machine/Host.lean ====
section
/-! DEFINITION. Sys2Proof/Machine/Host.lean: the SPI link of the host (R115 to R125, Tables HOST-1 to HOST-3), and the rows of
the opcode table that are host writes with a host error among their outcomes. Every host command acts only while CORE runs
and VIO is above VIO_UV (R384, R481; notes/assumptions/2.md). -/
namespace Sys2Proof.Machine

/-! ### The CRC of a frame (R118) -/

/-- One bit of CRC-16/CCITT-FALSE. -/
def crc16Bit (c : Word) : Word := if c.getLsbD 15 then (c <<< 1) ^^^ 0x1021 else c <<< 1

/-- One byte of CRC-16/CCITT-FALSE. -/
def crc16Byte (c : Word) (b : Nat) : Word :=
  crc16Bit (crc16Bit (crc16Bit (crc16Bit (crc16Bit (crc16Bit (crc16Bit (crc16Bit (c ^^^ w16 (256 * b)))))))))

/-- The CRC of words, each as two bytes, the high byte first (R118). -/
def crc16 (l : List Word) : Word := l.foldl (fun c w => crc16Byte (crc16Byte c (field w 15 8)) (field w 7 0)) 0xFFFF

/-! ### Headers (Tables HOST-1, HOST-2) -/

/-- The number of data words of a header. -/
def hdrWords (hdr : Word) : Nat := field hdr 12 8 + 1

/-- A reserved operation. -/
def hdrReserved (hdr : Word) : Bool := 5 ≤ field hdr 15 13

/-- A header that is a host error by R122. -/
def hdrBad (hdr : Word) : Bool := hdrReserved hdr || field hdr 7 0 != 0

/-- READ_FIXED and WRITE_FIXED keep their address (Table HOST-2). -/
def hdrFixed (hdr : Word) : Bool := 3 ≤ field hdr 15 13

/-- The address of data word `k`. -/
def wordAddr (fixed : Bool) (addr : Word) (k : Nat) : Nat := if fixed then addr.toNat else addr.toNat + k

/-- The burst passes 0xFFFF (R122). -/
def passesEnd (fixed : Bool) (addr : Word) (n : Nat) : Bool := !fixed && 0x10000 < addr.toNat + n

/-- The words of MISO that a frame of `words` clocked words returns: zero beyond its last position (R117). -/
def onMiso (l : List Word) (words : Nat) : List Word := (l ++ List.replicate words 0).take words

/-- Set the words returned on MISO. -/
def State.setMiso (s : State) (l : List Word) : State := s.modLink (fun x => { x with miso := l })

/-- `n` words of which the spec fixes none. -/
def State.freeWords (s : State) (n : Nat) : State × List Word :=
  ({ s with free := s.free + n }, (List.range n).map (fun k => Config.freeWord (s.free + k)))

/-! ### NOP, READ and READ_FIXED (R116, R117, R121) -/

/-- A NOP frame returns the status word; a length or a reserved bit is a host error in the host block (R122). -/
def nopFrame (hdr : Word) (s : State) : State :=
  let s := s.setMiso [s.statusWord]
  if hdr = 0 then s else s.hostErr (200 * s.clk.ticks) 0x0200

/-- A read frame of which `words` words are clocked: data word k is sampled during the word before it (R121). All words are
taken from one instant (notes/assumptions/4.md). -/
def readFrame (fixed : Bool) (hdr addr : Word) (words : Nat) (s : State) : State :=
  let n := hdrWords hdr
  let k := min n (words - 2)
  let front := [s.statusWord, s.summaryWord, 0]
  if hdrBad hdr || passesEnd fixed addr n then
    match (s.hostErr (200 * s.clk.ticks) addr.toNat).freeWords (n + 1) with
    | (s, ws) => s.setMiso (onMiso (front ++ ws) words)
  else
    match s.took.readAll s.sampleAt ((List.range k).map (wordAddr fixed addr)) with
    | (s, ws) => s.setMiso (onMiso (front ++ ws ++ (if k = n then [crc16 (hdr :: addr :: ws)] else [])) words)

/-! ### WRITE and WRITE_FIXED (R119, R120) -/

/-- A write frame is discarded (R120): `cause` is 1 for a bad CRC and 2 for a frame cut short. -/
def State.discard (s : State) (cause : Nat) : State :=
  ((s.setFlags A.HOST_ERR (bitW (cause - 1))).satInc A.HOST_CRCCNT).raise evHOST_CRC (w16 cause) 0

/-- The key pair of SYS_SWRST stands in consecutive words of a frame (R489). -/
def hasReset : List (Nat × Word) → Bool
  | x :: y :: r => (x == (A.SYS_SWRST, 0x5A3C) && y == (A.SYS_SWRST, 0xC3A5)) || hasReset (y :: r)
  | _ => false

/-- The addresses and words of a write frame. -/
def frameWrites (fixed : Bool) (addr : Word) (ws : List Word) : List (Nat × Word) :=
  ws.zipIdx.map (fun p => (wordAddr fixed addr p.2, p.1))

/-- An accepted write frame at PWM clock `t` (R119): HOST_FRAMES counts, and every word is written in order. -/
def State.accept (s : State) (t : Nat) (fixed : Bool) (hdr addr : Word) (ws : List Word) : State :=
  let s := s.wrapInc A.HOST_FRAMES
  if hdrBad hdr then s.hostErr t addr.toNat
  else
    let l := frameWrites fixed addr ws
    let s := s.writeWords t l
    if hasReset l then softwareReset t s else s

/-- A write frame of which the address and `body` were clocked; words after the CRC are ignored (R117). -/
def writeFrame (t : Nat) (fixed : Bool) (hdr addr : Word) (body : List Word) (s : State) : State :=
  let n := hdrWords hdr
  let s := s.setMiso (onMiso [s.statusWord, s.summaryWord] (2 + body.length))
  if hdrReserved hdr then s.hostErr t addr.toNat
  else if body.length ≤ n then s.discard 2
  else if nth body n = crc16 (hdr :: addr :: body.take n) then s.accept t fixed hdr addr (body.take n)
  else s.discard 1

/-- A frame is what its header's operation makes it (Table HOST-2): `body` are the words that follow the address on MOSI, and
`words` is how many words were clocked in all. -/
def spiFrame (t : Nat) (hdr addr : Word) (body : List Word) (words : Nat) (s : State) : State :=
  match field hdr 15 13 with
  | 0 => nopFrame hdr s
  | 1 => readFrame (hdrFixed hdr) hdr addr words s
  | 3 => readFrame (hdrFixed hdr) hdr addr words s
  | _ => writeFrame t (hdrFixed hdr) hdr addr body s

/-! ### The meanings of the frames and of the register rows -/

/-- REGISTER_WRITE (R14, R78, R515). -/
def execRegisterWrite (at' : Fin 200) (a d : Word) (s : State) : Host.Outcome State Fault Refusal :=
  .next (s.whenHost (fun s => s.writeWord (s.clkAt at') a.toNat d))

/-- MULTIWORD_LATCH_READ (R124). -/
def execMultiwordLatchRead (a : Word) (s : State) : Host.Outcome State Fault Refusal :=
  .next (s.whenHost (fun s => (s.took.readAt s.sampleAt a.toNat).1))

/-- NOP (R116): a frame of the header word alone. -/
def execNop (hdr : Word) (s : State) : Host.Outcome State Fault Refusal :=
  .next (s.whenHost (fun s => spiFrame (200 * s.clk.ticks) hdr 0 [] 1 s))

/-- READ (R121): `words` words are clocked; after the address MOSI carries zeros. -/
def execRead (hdr addr : Word) (words : Nat) (s : State) : Host.Outcome State Fault Refusal :=
  .next (s.whenHost (fun s => spiFrame (200 * s.clk.ticks) hdr addr (List.replicate (words - 2) 0) words s))

/-- READ_FIXED (R121): `words` words are clocked; after the address MOSI carries zeros. -/
def execReadFixed (hdr addr : Word) (words : Nat) (s : State) : Host.Outcome State Fault Refusal :=
  .next (s.whenHost (fun s => spiFrame (200 * s.clk.ticks) hdr addr (List.replicate (words - 2) 0) words s))

/-- WRITE (R119, R120). -/
def execWrite (at' : Fin 200) (hdr addr : Word) (body : List Word) (s : State) : Host.Outcome State Fault Refusal :=
  .next (s.whenHost (fun s => spiFrame (s.clkAt at') hdr addr body (2 + body.length) s))

/-- WRITE_FIXED (R119, R120). -/
def execWriteFixed (at' : Fin 200) (hdr addr : Word) (body : List Word) (s : State) : Host.Outcome State Fault Refusal :=
  .next (s.whenHost (fun s => spiFrame (s.clkAt at') hdr addr body (2 + body.length) s))

/-- SPI_HEADER_TRUNCATED (R120): with no SCLK edge at all the assertion is ignored. -/
def execSpiHeaderTruncated (edges : Fin 16) (s : State) : Host.Outcome State Fault Refusal :=
  .next (s.whenHost (fun s => if edges.val = 0 then s else s.discard 2))

/-! ### Rows that are one host write with a host error among its outcomes -/

/-- The write of a word at a PWM clock of the present tick, as a host command. -/
def State.hostWordAt (s : State) (t a : Nat) (d : Word) : State := s.whenHost (fun s => s.writeWord t a d)

/-- The write of a word at the first PWM clock of the present tick, as a host command. -/
def State.hostWord (s : State) (a : Nat) (d : Word) : State := s.hostWordAt (200 * s.clk.ticks) a d

/-- The doorbell of an operation, as a host command (R136). -/
def State.ring (s : State) (op : Nat) : State := s.hostWord A.OP_CMD (w16 (256 * op))

/-- IMAGE_LOAD (R70, R136). -/
def execImageLoad (s : State) : Host.Outcome State Fault Refusal := .next (s.ring opIMAGE_LOAD)

/-- SHUNT_CAL (R136, R272). -/
def execShuntCal (s : State) : Host.Outcome State Fault Refusal := .next (s.ring opSHUNT_CAL)

/-- DLINE_CAL (R136, R170). -/
def execDlineCal (s : State) : Host.Outcome State Fault Refusal := .next (s.ring opDLINE_CAL)

/-- SELF_TEST (R136, R462). -/
def execSelfTest (s : State) : Host.Outcome State Fault Refusal := .next (s.ring opSELF_TEST)

/-- MOTOR_ID (R136, R271). -/
def execMotorId (s : State) : Host.Outcome State Fault Refusal := .next (s.ring opMOTOR_ID)

/-- COMPACT (R136, R402). -/
def execCompact (s : State) : Host.Outcome State Fault Refusal := .next (s.ring opCOMPACT)

/-- OP_RELEASE (R141). -/
def execOpRelease (d : Word) (s : State) : Host.Outcome State Fault Refusal := .next (s.hostWord A.OP_RELEASE d)

/-- OP_ABORT (R142). -/
def execOpAbort (d : Word) (s : State) : Host.Outcome State Fault Refusal := .next (s.hostWord A.OP_ABORT d)

/-- LOAD_ALL (R157, R158, R160): a PWM_LOADALL word. -/
def execLoadAll (at' : Fin 200) (hi : Bool) (d : Word) (s : State) : Host.Outcome State Fault Refusal :=
  .next (s.hostWordAt (s.clkAt at') (if hi then A.PWM_LOADALL_HI else A.PWM_LOADALL_LO) d)

/-- A PWM_RUN word that gives one timer's bit a value and every other bit the value it has (R162). -/
def State.runWordWith (s : State) (t : Fin 24) (v : Bool) : Word := setField (s.rd (runAddr t)) (runBit t) (runBit t) (b2n v)

/-- TIMER_START (R162). -/
def execTimerStart (at' : Fin 200) (t : Fin 24) (s : State) : Host.Outcome State Fault Refusal :=
  .next (s.hostWordAt (s.clkAt at') (runAddr t) (s.runWordWith t true))

/-- TIMER_STOP (R162). -/
def execTimerStop (at' : Fin 200) (t : Fin 24) (s : State) : Host.Outcome State Fault Refusal :=
  .next (s.hostWordAt (s.clkAt at') (runAddr t) (s.runWordWith t false))

/-- AXIS_START (R246, R258). -/
def execAxisStart (a : Fin 24) (s : State) : Host.Outcome State Fault Refusal :=
  .next (s.hostWord (axAddr A.AX_CMD a) 1)

/-- AXIS_STOP (R257). -/
def execAxisStop (a : Fin 24) (s : State) : Host.Outcome State Fault Refusal := .next (s.hostWord (axAddr A.AX_CMD a) 2)

/-- AXIS_COAST (R257). -/
def execAxisCoast (a : Fin 24) (s : State) : Host.Outcome State Fault Refusal := .next (s.hostWord (axAddr A.AX_CMD a) 3)

/-- AXIS_STALL_CLEAR (R266). -/
def execAxisStallClear (a : Fin 24) (s : State) : Host.Outcome State Fault Refusal :=
  .next (s.hostWord (axAddr A.AX_CMD a) 8)

/-- PROT_BFLT_CLEAR (R226, R229). -/
def execProtBfltClear (b : Fin 8) (d : Word) (s : State) : Host.Outcome State Fault Refusal :=
  .next (s.hostWord (A.PROT_BFLT b.val) d)

/-- PROT_CHFLT_CLEAR (R224). -/
def execProtChfltClear (b : Fin 8) (i : Fin 9) (d : Word) (s : State) : Host.Outcome State Fault Refusal :=
  .next (s.hostWord (A.PROT_CHFLT b.val i.val) d)

/-- GSUP_FLT_CLEAR (R202). -/
def execGsupFltClear (b : Fin 8) (d : Word) (s : State) : Host.Outcome State Fault Refusal :=
  .next (s.hostWord (A.GSUP_FLT b.val) d)

/-- SAFE_PLFLT_CLEAR (R452). -/
def execSafePlfltClear (hi : Bool) (d : Word) (s : State) : Host.Outcome State Fault Refusal :=
  .next (s.hostWord (if hi then A.SAFE_PLFLT_HI else A.SAFE_PLFLT_LO) d)

/-- ARM_PREPARE (R457). -/
def execArmPrepare (b : Fin 8) (s : State) : Host.Outcome State Fault Refusal := .next (s.hostWord (A.BANK_ARM b.val) 0x00A5)

/-- ARM_COMPLETE (R457). -/
def execArmComplete (at' : Fin 200) (b : Fin 8) (s : State) : Host.Outcome State Fault Refusal :=
  .next (s.hostWordAt (s.clkAt at') (A.BANK_ARM b.val) 0x005A)

/-- DISARM (R457). -/
def execDisarm (at' : Fin 200) (b : Fin 8) (s : State) : Host.Outcome State Fault Refusal :=
  .next (s.hostWordAt (s.clkAt at') (A.BANK_ARM b.val) 0)

/-- SCHEDULE_INSERT (R302). -/
def execScheduleInsert (d : Word) (s : State) : Host.Outcome State Fault Refusal := .next (s.hostWord A.SCH_IN_0 d)

/-- STORE_WRITE (R393). -/
def execStoreWrite (len : Byte) (s : State) : Host.Outcome State Fault Refusal :=
  .next (s.hostWord (A.STORE_WR 0) (w16 (0x4000 + len.toNat)))

/-- WATCHDOG_ENABLE (R455). -/
def execWatchdogEnable (d : Word) (s : State) : Host.Outcome State Fault Refusal := .next (s.hostWord A.SAFE_WDCFG d)

end Sys2Proof.Machine
end

