-- ==== Sys2Proof/Machine/Tick.lean ====
section
/-! DEFINITION. Sys2Proof/Machine/Tick.lean: the 1 µs tick (R93, R95) and what the end of a tick does: the records that are
due, the drain and the freeze of the recorder (R352 to R355), the thresholds of R229, and the figures that count ticks. -/
namespace Sys2Proof.Machine

/-- The codes of VOV1_ON, VOV1_OFF and VOV2 that a bank's registers hold. -/
def State.vovCodes (s : State) (b : Fin 8) : Word × Word × Word :=
  (s.rd (A.PROT_VOV1_ON b.val), s.rd (A.PROT_VOV1_OFF b.val), s.rd (A.PROT_VOV2 b.val))

/-- The end of the tick for the voltage thresholds of a bank (R229): codes in order are taken; codes out of order are a host
error, the codes in use stay and the registers hold them again (R20, notes/assumptions/25.md). -/
def State.takeVov (s : State) (b : Fin 8) : State :=
  let k := s.bank[b]
  let c := s.vovCodes b
  if c = (k.vovOn, k.vovOff, k.vov2c) then s
  else if c.2.1.toNat < c.1.toNat ∧ c.1.toNat < c.2.2.toNat then
    s.modBank b (fun k => { k with vovOn := c.1, vovOff := c.2.1, vov2c := c.2.2 })
  else
    (((s.wr (A.PROT_VOV1_ON b.val) k.vovOn).wr (A.PROT_VOV1_OFF b.val) k.vovOff).wr (A.PROT_VOV2 b.val) k.vov2c).hostErr
      (200 * s.clk.ticks + 199) (A.PROT_VOV1_ON b.val)

/-- The end of the present tick in a running CORE. -/
def State.endTick (s : State) : State := ((s.each allBanks State.takeVov).flushDue).applyFreeze

/-- The start of a tick in a running CORE: the drain of the hold FIFO (R353, R354), aborts of transmit buffers, the operations that the energy gate defers, the owner's
watch on PAIR_OWN_IN and on its own frames (R131, R143, Tables PAIR-5, PAIR-8). -/
def State.startTick (s : State) : State :=
  let s := s.drain
  let s := s.each [0, 1] (fun s c => if s.dom 11 then s.settleAborts c else s)
  let s := s.countDeferred
  let t := 200 * s.clk.ticks
  (s.watchOwnIn t).keepAlive t

/-- A tick (R93, R95): the present tick ends and the next begins. -/
def tick (s : State) : State :=
  if s.pwr.st = .down then s
  else
    let s := (s.whenUp State.endTick).tickTime
    let s := { s with fresh := [] }
    let s := s.modPwr (fun p => { p with vioSeen := true })
    (s.modRcd (fun r => { r with wrote := 0 })).whenUp State.startTick

/-- TICK (R93, R95). -/
def execTick (s : State) : Host.Outcome State Fault Refusal := .next (tick s)

end Sys2Proof.Machine
end

