-- ==== Sys2Proof/Machine/Dispatch.lean ====
section
/-! DEFINITION. Sys2Proof/Machine/Dispatch.lean: the meaning of each command, one arm per row of spec/opcode_table.json. -/
namespace Sys2Proof.Machine

def exec (i : Instr) (s : State) : Host.Outcome State Fault Refusal :=
  match i with
  | .registerWrite at' a d => Sys2Proof.Machine.execRegisterWrite at' a d s
  | .multiwordLatchRead a => Sys2Proof.Machine.execMultiwordLatchRead a s
  | .nop hdr => Sys2Proof.Machine.execNop hdr s
  | .read hdr addr words => Sys2Proof.Machine.execRead hdr addr words s
  | .readFixed hdr addr words => Sys2Proof.Machine.execReadFixed hdr addr words s
  | .write at' hdr addr body => Sys2Proof.Machine.execWrite at' hdr addr body s
  | .writeFixed at' hdr addr body => Sys2Proof.Machine.execWriteFixed at' hdr addr body s
  | .spiHeaderTruncated edges => Sys2Proof.Machine.execSpiHeaderTruncated edges s
  | .tick => Sys2Proof.Machine.execTick s
  | .internalSecondBoundary => Sys2Proof.Machine.execInternalSecondBoundary s
  | .ppsEdge => Sys2Proof.Machine.execPpsEdge s
  | .ppsTimeout => Sys2Proof.Machine.execPpsTimeout s
  | .timeApply => Sys2Proof.Machine.execTimeApply s
  | .relock => Sys2Proof.Machine.execRelock s
  | .timeSnapshotRead => Sys2Proof.Machine.execTimeSnapshotRead s
  | .timeTbRead => Sys2Proof.Machine.execTimeTbRead s
  | .monitorWindowEnd ref core lost => Sys2Proof.Machine.execMonitorWindowEnd ref core lost s
  | .pllUnlock => Sys2Proof.Machine.execPllUnlock s
  | .tickRestore => Sys2Proof.Machine.execTickRestore s
  | .imageLoad => Sys2Proof.Machine.execImageLoad s
  | .opUnknownCode op => Sys2Proof.Machine.execOpUnknownCode op s
  | .imageVerifyDone => Sys2Proof.Machine.execImageVerifyDone s
  | .wholeImageSwap => Sys2Proof.Machine.execWholeImageSwap s
  | .bankImageSwap => Sys2Proof.Machine.execBankImageSwap s
  | .slotWriteBurst ok => Sys2Proof.Machine.execSlotWriteBurst ok s
  | .imgKeydataWrite d => Sys2Proof.Machine.execImgKeydataWrite d s
  | .keyCmdArm => Sys2Proof.Machine.execKeyCmdArm s
  | .keyCmdProgram => Sys2Proof.Machine.execKeyCmdProgram s
  | .keyProgramDone ok => Sys2Proof.Machine.execKeyProgramDone ok s
  | .shuntCal => Sys2Proof.Machine.execShuntCal s
  | .dlineCal => Sys2Proof.Machine.execDlineCal s
  | .selfTest => Sys2Proof.Machine.execSelfTest s
  | .motorId => Sys2Proof.Machine.execMotorId s
  | .compact => Sys2Proof.Machine.execCompact s
  | .opStart slot => Sys2Proof.Machine.execOpStart slot s
  | .opPartial slot entry value progress => Sys2Proof.Machine.execOpPartial slot entry value progress s
  | .opEnd slot model vals => Sys2Proof.Machine.execOpEnd slot model vals s
  | .opTimeout slot => Sys2Proof.Machine.execOpTimeout slot s
  | .opRelease d => Sys2Proof.Machine.execOpRelease d s
  | .opAbort d => Sys2Proof.Machine.execOpAbort d s
  | .canRx c ide fdf brs id dlc data sof => Sys2Proof.Machine.execCanRx c ide fdf brs id dlc data sof s
  | .canTxreq c hi d => Sys2Proof.Machine.execCanTxreq c hi d s
  | .canTxDone c m sof => Sys2Proof.Machine.execCanTxDone c m sof s
  | .canTxFail c m lost lec => Sys2Proof.Machine.execCanTxFail c m lost lec s
  | .canTxabort c hi d => Sys2Proof.Machine.execCanTxabort c hi d s
  | .canErrorStateChange c st sync rec tec lec => Sys2Proof.Machine.execCanErrorStateChange c st sync rec tec lec s
  | .canBusoffRecovery c => Sys2Proof.Machine.execCanBusoffRecovery c s
  | .loadAll at' hi d => Sys2Proof.Machine.execLoadAll at' hi d s
  | .timerStart at' t => Sys2Proof.Machine.execTimerStart at' t s
  | .timerStop at' t => Sys2Proof.Machine.execTimerStop at' t s
  | .startEdge t => Sys2Proof.Machine.execStartEdge t s
  | .timerWrap t => Sys2Proof.Machine.execTimerWrap t s
  | .compareMatch t r => Sys2Proof.Machine.execCompareMatch t r s
  | .triggerCompare t n => Sys2Proof.Machine.execTriggerCompare t n s
  | .refreshPulseEnd t r => Sys2Proof.Machine.execRefreshPulseEnd t r s
  | .dlcCalCycle b ok bias tapdly taps => Sys2Proof.Machine.execDlcCalCycle b ok bias tapdly taps s
  | .commandChange at' h => Sys2Proof.Machine.execCommandChange at' h s
  | .turnOnStart at' h hi => Sys2Proof.Machine.execTurnOnStart at' h hi s
  | .gateOffSensed at' h hi => Sys2Proof.Machine.execGateOffSensed at' h hi s
  | .tgminExpiry at' h hi => Sys2Proof.Machine.execTgminExpiry at' h hi s
  | .gateStuck at' h hi => Sys2Proof.Machine.execGateStuck at' h hi s
  | .gateFgn at' h hi => Sys2Proof.Machine.execGateFgn at' h hi s
  | .floatEntry at' b => Sys2Proof.Machine.execFloatEntry at' b s
  | .floatOutputDisable at' b => Sys2Proof.Machine.execFloatOutputDisable at' b s
  | .floatExitHoldEnd at' b => Sys2Proof.Machine.execFloatExitHoldEnd at' b s
  | .vdrvUv at' b => Sys2Proof.Machine.execVdrvUv at' b s
  | .vcpUv at' b => Sys2Proof.Machine.execVcpUv at' b s
  | .bstUv at' h => Sys2Proof.Machine.execBstUv at' h s
  | .supplyRise which idx => Sys2Proof.Machine.execSupplyRise which idx s
  | .gsupFltClear b d => Sys2Proof.Machine.execGsupFltClear b d s
  | .ddpInputEdge at' en idx level width => Sys2Proof.Machine.execDdpInputEdge at' en idx level width s
  | .dsblExpiry at' h hi => Sys2Proof.Machine.execDsblExpiry at' h hi s
  | .desat at' h hi => Sys2Proof.Machine.execDesat at' h hi s
  | .hardShortArm at' h hi => Sys2Proof.Machine.execHardShortArm at' h hi s
  | .hardShort at' h hi => Sys2Proof.Machine.execHardShort at' h hi s
  | .plateau at' h hi => Sys2Proof.Machine.execPlateau at' h hi s
  | .protChfltClear b idx d => Sys2Proof.Machine.execProtChfltClear b idx d s
  | .tripRecognised at' b high => Sys2Proof.Machine.execTripRecognised at' b high s
  | .tripRelease b => Sys2Proof.Machine.execTripRelease b s
  | .blankWindowEnd at' b => Sys2Proof.Machine.execBlankWindowEnd at' b s
  | .currentLimitTrip at' h high => Sys2Proof.Machine.execCurrentLimitTrip at' h high s
  | .chopperOn at' b => Sys2Proof.Machine.execChopperOn at' b s
  | .chopperOff at' b => Sys2Proof.Machine.execChopperOff at' b s
  | .vov2 at' b => Sys2Proof.Machine.execVov2 at' b s
  | .chopLong b => Sys2Proof.Machine.execChopLong b s
  | .ots at' b => Sys2Proof.Machine.execOts at' b s
  | .protBfltClear b d => Sys2Proof.Machine.execProtBfltClear b d s
  | .estop at' width => Sys2Proof.Machine.execEstop at' width s
  | .estopRelease => Sys2Proof.Machine.execEstopRelease s
  | .engineStep at' a => Sys2Proof.Machine.execEngineStep at' a s
  | .converterStart c => Sys2Proof.Machine.execConverterStart c s
  | .conversionDone at' c code => Sys2Proof.Machine.execConversionDone at' c code s
  | .hallEdge a h => Sys2Proof.Machine.execHallEdge a h s
  | .encoderEdge a track level => Sys2Proof.Machine.execEncoderEdge a track level s
  | .axisStart a => Sys2Proof.Machine.execAxisStart a s
  | .axisStop a => Sys2Proof.Machine.execAxisStop a s
  | .axisCoast a => Sys2Proof.Machine.execAxisCoast a s
  | .axisStallClear a => Sys2Proof.Machine.execAxisStallClear a s
  | .alignDone a => Sys2Proof.Machine.execAlignDone a s
  | .retryWaitEnd a => Sys2Proof.Machine.execRetryWaitEnd a s
  | .stallDetected a crit => Sys2Proof.Machine.execStallDetected a crit s
  | .wheelCount n trackB level => Sys2Proof.Machine.execWheelCount n trackB level s
  | .gnssSentence bytes framing dollar => Sys2Proof.Machine.execGnssSentence bytes framing dollar s
  | .imuTrigger => Sys2Proof.Machine.execImuTrigger s
  | .imuSeqDone rx => Sys2Proof.Machine.execImuSeqDone rx s
  | .sentFrame n pulses => Sys2Proof.Machine.execSentFrame n pulses s
  | .hostInject d => Sys2Proof.Machine.execHostInject d s
  | .fusionPublication => Sys2Proof.Machine.execFusionPublication s
  | .scheduleCommit idx n => Sys2Proof.Machine.execScheduleCommit idx n s
  | .scheduleFire at' idx n => Sys2Proof.Machine.execScheduleFire at' idx n s
  | .schedLateFire at' idx n => Sys2Proof.Machine.execSchedLateFire at' idx n s
  | .scheduleInsert d => Sys2Proof.Machine.execScheduleInsert d s
  | .schSectOn at' => Sys2Proof.Machine.execSchSectOn at' s
  | .schSectOff at' => Sys2Proof.Machine.execSchSectOff at' s
  | .schSectRate at' => Sys2Proof.Machine.execSchSectRate at' s
  | .schCancel idx => Sys2Proof.Machine.execSchCancel idx s
  | .schCancelAll => Sys2Proof.Machine.execSchCancelAll s
  | .seedEdge idx => Sys2Proof.Machine.execSeedEdge idx s
  | .associationEpochClose => Sys2Proof.Machine.execAssociationEpochClose s
  | .solveStart => Sys2Proof.Machine.execSolveStart s
  | .solveDone ok dur => Sys2Proof.Machine.execSolveDone ok dur s
  | .solverStoreCleared => Sys2Proof.Machine.execSolverStoreCleared s
  | .solClrCounters r => Sys2Proof.Machine.execSolClrCounters r s
  | .solClrWindow r => Sys2Proof.Machine.execSolClrWindow r s
  | .evtStatClear g d => Sys2Proof.Machine.execEvtStatClear g d s
  | .recordWrite => Sys2Proof.Machine.execRecordWrite s
  | .recorderFreeze => Sys2Proof.Machine.execRecorderFreeze s
  | .recorderThaw => Sys2Proof.Machine.execRecorderThaw s
  | .freezeTimeout => Sys2Proof.Machine.execFreezeTimeout s
  | .holdFifoDrain => Sys2Proof.Machine.execHoldFifoDrain s
  | .recClr => Sys2Proof.Machine.execRecClr s
  | .hostMark d => Sys2Proof.Machine.execHostMark d s
  | .vmainFail at' vmain vbak => Sys2Proof.Machine.execVmainFail at' vmain vbak s
  | .handoverStep at' => Sys2Proof.Machine.execHandoverStep at' s
  | .criticalWindowEnd => Sys2Proof.Machine.execCriticalWindowEnd s
  | .flushEnd => Sys2Proof.Machine.execFlushEnd s
  | .vmainOkRise => Sys2Proof.Machine.execVmainOkRise s
  | .vmainBounce => Sys2Proof.Machine.execVmainBounce s
  | .dwellComplete => Sys2Proof.Machine.execDwellComplete s
  | .vbakMinLoss => Sys2Proof.Machine.execVbakMinLoss s
  | .bankHoldEnd at' b => Sys2Proof.Machine.execBankHoldEnd at' b s
  | .aonPowerOn vmainOk => Sys2Proof.Machine.execAonPowerOn vmainOk s
  | .storeMountDone => Sys2Proof.Machine.execStoreMountDone s
  | .domainSwitchOn at' dom => Sys2Proof.Machine.execDomainSwitchOn at' dom s
  | .domainSwitchOff at' dom => Sys2Proof.Machine.execDomainSwitchOff at' dom s
  | .domainStart dom => Sys2Proof.Machine.execDomainStart dom s
  | .domainReady dom => Sys2Proof.Machine.execDomainReady dom s
  | .energyEstimate vmain vbak vio => Sys2Proof.Machine.execEnergyEstimate vmain vbak vio s
  | .vioUv at' vio => Sys2Proof.Machine.execVioUv at' vio s
  | .storeWrite len => Sys2Proof.Machine.execStoreWrite len s
  | .storeDelete => Sys2Proof.Machine.execStoreDelete s
  | .storeRead key => Sys2Proof.Machine.execStoreRead key s
  | .storeReadDone => Sys2Proof.Machine.execStoreReadDone s
  | .storeAppend => Sys2Proof.Machine.execStoreAppend s
  | .programBurstDone ok => Sys2Proof.Machine.execProgramBurstDone ok s
  | .compactionStep => Sys2Proof.Machine.execCompactionStep s
  | .backgroundCompaction => Sys2Proof.Machine.execBackgroundCompaction s
  | .pairOwnInChange at' level equal => Sys2Proof.Machine.execPairOwnInChange at' level equal s
  | .pairClaim at' => Sys2Proof.Machine.execPairClaim at' s
  | .gateCheckPass at' b => Sys2Proof.Machine.execGateCheckPass at' b s
  | .laneAligned lane => Sys2Proof.Machine.execLaneAligned lane s
  | .laneAlignmentLost lane => Sys2Proof.Machine.execLaneAlignmentLost lane s
  | .linkSlot => Sys2Proof.Machine.execLinkSlot s
  | .helloReceived pairId imgId imgCrc bankImg tags owner lockout => Sys2Proof.Machine.execHelloReceived pairId imgId imgCrc bankImg tags owner lockout s
  | .mirrorReceived at' good start f => Sys2Proof.Machine.execMirrorReceived at' good start f s
  | .statusReceived seq ready cfgmis head0 sync lockout fault => Sys2Proof.Machine.execStatusReceived seq ready cfgmis head0 sync lockout fault s
  | .frameMissed at' => Sys2Proof.Machine.execFrameMissed at' s
  | .linkRetryEnd => Sys2Proof.Machine.execLinkRetryEnd s
  | .releaseSequenceReceived at' cause => Sys2Proof.Machine.execReleaseSequenceReceived at' cause s
  | .takeoverQualified at' => Sys2Proof.Machine.execTakeoverQualified at' s
  | .takeoverCommit at' => Sys2Proof.Machine.execTakeoverCommit at' s
  | .handover => Sys2Proof.Machine.execHandover s
  | .handoverRelease at' => Sys2Proof.Machine.execHandoverRelease at' s
  | .clearLock => Sys2Proof.Machine.execClearLock s
  | .supervisorMismatch at' group => Sys2Proof.Machine.execSupervisorMismatch at' group s
  | .scrubPass at' ok a => Sys2Proof.Machine.execScrubPass at' ok a s
  | .ramSec at' inst a double => Sys2Proof.Machine.execRamSec at' inst a double s
  | .plausTrip at' a => Sys2Proof.Machine.execPlausTrip at' a s
  | .dieLinkLoss at' k => Sys2Proof.Machine.execDieLinkLoss at' k s
  | .dieLinkRestore k => Sys2Proof.Machine.execDieLinkRestore k s
  | .watchdogEnable d => Sys2Proof.Machine.execWatchdogEnable d s
  | .watchdogKick at' d => Sys2Proof.Machine.execWatchdogKick at' d s
  | .wdogLate at' => Sys2Proof.Machine.execWdogLate at' s
  | .safeClr => Sys2Proof.Machine.execSafeClr s
  | .safePlfltClear hi d => Sys2Proof.Machine.execSafePlfltClear hi d s
  | .armPrepare b => Sys2Proof.Machine.execArmPrepare b s
  | .armComplete at' b => Sys2Proof.Machine.execArmComplete at' b s
  | .disarm at' b => Sys2Proof.Machine.execDisarm at' b s
  | .startupTestDone failed => Sys2Proof.Machine.execStartupTestDone failed s
  | .rstNAssert at' width => Sys2Proof.Machine.execRstNAssert at' width s
  | .resetRelease => Sys2Proof.Machine.execResetRelease s
  | .softwareReset at' => Sys2Proof.Machine.execSoftwareReset at' s
  | .tapExtest at' => Sys2Proof.Machine.execTapExtest at' s
  | .tapHighz at' => Sys2Proof.Machine.execTapHighz at' s
  | .tapClamp at' => Sys2Proof.Machine.execTapClamp at' s
  | .tapIdcode => Sys2Proof.Machine.execTapIdcode s
  | .tapSamplePreload cells => Sys2Proof.Machine.execTapSamplePreload cells s
  | .tapBypass => Sys2Proof.Machine.execTapBypass s
  | .tapReset => Sys2Proof.Machine.execTapReset s
  | .gatePlateauReached h hi => Sys2Proof.Machine.execGatePlateauReached h hi s
  | .saliencyDone a peaks => Sys2Proof.Machine.execSaliencyDone a peaks s
  | .vmainOkFall => Sys2Proof.Machine.execVmainOkFall s
  | .vioOkRise => Sys2Proof.Machine.execVioOkRise s

end Sys2Proof.Machine
end

