-- ==== Sys2Proof/Machine/Order.lean ====
section
/-! DEFINITION. Sys2Proof/Machine/Order.lean: the order in which the device takes what happens in one tick (R104, R106, R516, Table
TIME-3): the place of each command, and how a command that is offered enters the queue. -/
namespace Sys2Proof.Machine

/-- The place of a command in its tick (R104, R516, Table TIME-3). A command without a place happens at a PWM clock or at a pin of
its own, and TICK begins a tick: nothing is offered past them (notes/assumptions/3.md). -/
def placeOf : Instr → Option Nat
  | .registerWrite _ _ _ => some (Rank.at .host 0)
  | .multiwordLatchRead _ => some (Rank.at .host 0)
  | .nop _ => some (Rank.at .host 0)
  | .read _ _ _ => some (Rank.at .host 0)
  | .readFixed _ _ _ => some (Rank.at .host 0)
  | .write _ _ _ _ => some (Rank.at .host 0)
  | .writeFixed _ _ _ _ => some (Rank.at .host 0)
  | .spiHeaderTruncated _ => some (Rank.at .host 0)
  | .tick => none
  | .internalSecondBoundary => some (Rank.at .motion 28)
  | .ppsEdge => some (Rank.at .motion 28)
  | .ppsTimeout => some (Rank.at .motion 28)
  | .timeApply => some (Rank.at .host 0)
  | .relock => some (Rank.at .host 0)
  | .timeSnapshotRead => some (Rank.at .host 0)
  | .timeTbRead => some (Rank.at .host 0)
  | .monitorWindowEnd _ _ _ => some (Rank.at .safety evCLK_FAIL.src)
  | .pllUnlock => some (Rank.at .safety evCLK_FAIL.src)
  | .tickRestore => some (Rank.at .host 0)
  | .imageLoad => some (Rank.at .host 0)
  | .opUnknownCode _ => some (Rank.at .host 0)
  | .imageVerifyDone => some (Rank.at .engine evIMG_REJECT.src)
  | .wholeImageSwap => some (Rank.at .engine 0)
  | .bankImageSwap => some (Rank.at .engine 0)
  | .slotWriteBurst _ => some (Rank.at .engine evOP_END.src)
  | .imgKeydataWrite _ => some (Rank.at .host 0)
  | .keyCmdArm => some (Rank.at .host 0)
  | .keyCmdProgram => some (Rank.at .host 0)
  | .keyProgramDone _ => some (Rank.at .engine evOP_END.src)
  | .shuntCal => some (Rank.at .host 0)
  | .dlineCal => some (Rank.at .host 0)
  | .selfTest => some (Rank.at .host 0)
  | .motorId => some (Rank.at .host 0)
  | .compact => some (Rank.at .host 0)
  | .opStart _ => some (Rank.at .engine evOP_END.src)
  | .opPartial _ _ _ _ => some (Rank.at .engine evOP_END.src)
  | .opEnd _ _ _ => some (Rank.at .engine evOP_END.src)
  | .opTimeout _ => some (Rank.at .engine evOP_END.src)
  | .opRelease _ => some (Rank.at .host 0)
  | .opAbort _ => some (Rank.at .host 0)
  | .canRx c _ _ _ _ _ _ _ => some (Rank.at .engine (evCAN_RX c).src)
  | .canTxreq _ _ _ => some (Rank.at .host 0)
  | .canTxDone c _ _ => some (Rank.at .engine (evCAN_TX c).src)
  | .canTxFail c _ _ _ => some (Rank.at .engine (evCAN_ERR c).src)
  | .canTxabort _ _ _ => some (Rank.at .host 0)
  | .canErrorStateChange c _ _ _ _ _ => some (Rank.at .engine (evCAN_ERR c).src)
  | .canBusoffRecovery c => some (Rank.at .engine (evCAN_ERR c).src)
  | .loadAll _ _ _ => some (Rank.at .host 0)
  | .timerStart _ _ => some (Rank.at .host 0)
  | .timerStop _ _ => some (Rank.at .host 0)
  | .startEdge _ => none
  | .timerWrap _ => none
  | .compareMatch _ _ => none
  | .triggerCompare _ _ => none
  | .refreshPulseEnd _ _ => none
  | .dlcCalCycle b _ _ _ _ => some (Rank.at .engine (evDLCAL_FAULT b).src)
  | .commandChange _ _ => none
  | .turnOnStart _ _ _ => none
  | .gateOffSensed _ _ _ => none
  | .tgminExpiry _ _ _ => none
  | .gateStuck _ h _ => some (Rank.at .safety (evGATE_STUCK (hbBank h)).src)
  | .gateFgn _ h _ => some (Rank.at .safety (evGATE_FGN (hbBank h)).src)
  | .floatEntry _ _ => none
  | .floatOutputDisable _ _ => none
  | .floatExitHoldEnd _ _ => none
  | .vdrvUv _ b => some (Rank.at .supply (evGATE_UV b).src)
  | .vcpUv _ b => some (Rank.at .supply (evGATE_UV b).src)
  | .bstUv _ h => some (Rank.at .supply (evBST_UV (hbBank h)).src)
  | .supplyRise _ _ => some (Rank.at .supply 1023)
  | .gsupFltClear _ _ => some (Rank.at .host 0)
  | .ddpInputEdge _ _ _ _ _ => none
  | .dsblExpiry _ _ _ => none
  | .desat _ h _ => some (Rank.at .safety (evPS_SHORT (hbBank h)).src)
  | .hardShortArm _ _ _ => none
  | .hardShort _ h _ => some (Rank.at .safety (evPS_SHORT (hbBank h)).src)
  | .plateau _ h _ => some (Rank.at .safety (evPS_SHORT (hbBank h)).src)
  | .protChfltClear _ _ _ => some (Rank.at .host 0)
  | .tripRecognised _ b _ => some (Rank.at .safety (evBANK_TRIP b).src)
  | .tripRelease b => some (Rank.at .safety (evBANK_TRIP b).src)
  | .blankWindowEnd _ _ => none
  | .currentLimitTrip _ _ _ => none
  | .chopperOn _ _ => none
  | .chopperOff _ _ => none
  | .vov2 _ b => some (Rank.at .safety (evBANK_TRIP b).src)
  | .chopLong b => some (Rank.at .engine (evPROT_WARN b).src)
  | .ots _ b => some (Rank.at .safety (evBANK_TRIP b).src)
  | .protBfltClear _ _ => some (Rank.at .host 0)
  | .estop _ _ => some (Rank.at .safety evESTOP.src)
  | .estopRelease => some (Rank.at .safety evESTOP.src)
  | .engineStep _ _ => none
  | .converterStart _ => none
  | .conversionDone _ _ _ => none
  | .hallEdge a _ => some (Rank.at .motion (4 + a.val))
  | .encoderEdge a _ _ => some (Rank.at .motion (4 + a.val))
  | .axisStart _ => some (Rank.at .host 0)
  | .axisStop _ => some (Rank.at .host 0)
  | .axisCoast _ => some (Rank.at .host 0)
  | .axisStallClear _ => some (Rank.at .host 0)
  | .alignDone a => some (Rank.at .engine (evAXIS_WARN (axBank a)).src)
  | .retryWaitEnd a => some (Rank.at .engine (evAXIS_WARN (axBank a)).src)
  | .stallDetected a _ => some (Rank.at .engine (evAXIS_WARN (axBank a)).src)
  | .wheelCount n _ _ => some (Rank.at .motion n.val)
  | .gnssSentence _ _ _ => some (Rank.at .sample 26)
  | .imuTrigger => some (Rank.at .sample 27)
  | .imuSeqDone _ => some (Rank.at .sample 27)
  | .sentFrame n _ => some (Rank.at .sample (24 + n.val))
  | .hostInject _ => some (Rank.at .sample 28)
  | .fusionPublication => some (Rank.at .sample 29)
  | .scheduleCommit _ _ => some (Rank.at .sample 29)
  | .scheduleFire _ i _ => some (Rank.at .schedule i.val)
  | .schedLateFire _ _ _ => some (Rank.at .sample 29)
  | .scheduleInsert _ => some (Rank.at .host 0)
  | .schSectOn _ => some (Rank.at .host 0)
  | .schSectOff _ => some (Rank.at .host 0)
  | .schSectRate _ => some (Rank.at .host 0)
  | .schCancel _ => some (Rank.at .host 0)
  | .schCancelAll => some (Rank.at .host 0)
  | .seedEdge x => some (Rank.at .sample x.input.val)
  | .associationEpochClose => some (Rank.at .after 0)
  | .solveStart => some (Rank.at .after 0)
  | .solveDone _ _ => some (Rank.at .engine evSOL_FAULT.src)
  | .solverStoreCleared => some (Rank.at .engine evSOL_FAULT.src)
  | .solClrCounters _ => some (Rank.at .host 0)
  | .solClrWindow _ => some (Rank.at .host 0)
  | .evtStatClear _ _ => some (Rank.at .host 0)
  | .recordWrite => some (Rank.at .after 1)
  | .recorderFreeze => some (Rank.at .host 0)
  | .recorderThaw => some (Rank.at .host 0)
  | .freezeTimeout => some (Rank.at .after 2)
  | .holdFifoDrain => some (Rank.at .engine evREC_HOLDOVF.src)
  | .recClr => some (Rank.at .host 0)
  | .hostMark _ => some (Rank.at .host 0)
  | .vmainFail _ _ _ => some (Rank.at .supply evPWR_LOSS.src)
  | .handoverStep _ => some (Rank.at .supply evPWR_LOSS.src)
  | .criticalWindowEnd => some (Rank.at .supply evPWR_LOSS.src)
  | .flushEnd => some (Rank.at .supply evPWR_LOSS.src)
  | .vmainOkRise => some (Rank.at .supply evPWR_BOUNCE.src)
  | .vmainBounce => some (Rank.at .supply evPWR_BOUNCE.src)
  | .dwellComplete => some (Rank.at .supply evPWR_BOUNCE.src)
  | .vbakMinLoss => some (Rank.at .supply evPWR_BOUNCE.src)
  | .bankHoldEnd _ _ => some (Rank.at .supply evPWR_BOUNCE.src)
  | .aonPowerOn _ => some (Rank.at .reset 0)
  | .storeMountDone => some (Rank.at .engine evSTORE_ERR.src)
  | .domainSwitchOn _ _ => some (Rank.at .host 0)
  | .domainSwitchOff _ _ => some (Rank.at .host 0)
  | .domainStart _ => some (Rank.at .supply evDOMAIN_SW.src)
  | .domainReady _ => some (Rank.at .engine evDOMAIN_SW.src)
  | .energyEstimate _ _ _ => some (Rank.at .engine evVBAK_LOW.src)
  | .vioUv _ _ => some (Rank.at .supply evPWR_BOUNCE.src)
  | .storeWrite _ => some (Rank.at .host 0)
  | .storeDelete => some (Rank.at .host 0)
  | .storeRead _ => some (Rank.at .host 0)
  | .storeReadDone => some (Rank.at .engine evSTORE_ERR.src)
  | .storeAppend => some (Rank.at .engine evCOMMIT_DEFER.src)
  | .programBurstDone _ => some (Rank.at .engine evSTORE_ERR.src)
  | .compactionStep => some (Rank.at .engine evSTORE_ERR.src)
  | .backgroundCompaction => some (Rank.at .engine evSTORE_ERR.src)
  | .pairOwnInChange _ _ _ => some (Rank.at .engine evPAIR_OWNER.src)
  | .pairClaim _ => some (Rank.at .engine evPAIR_OWNER.src)
  | .gateCheckPass _ _ => none
  | .laneAligned _ => some (Rank.at .engine evLINK_UP.src)
  | .laneAlignmentLost _ => some (Rank.at .engine evLINK_UP.src)
  | .linkSlot => some (Rank.at .engine evLINK_UP.src)
  | .helloReceived _ _ _ _ _ _ _ => some (Rank.at .engine evLINK_UP.src)
  | .mirrorReceived _ _ _ _ => some (Rank.at .engine evLINK_UP.src)
  | .statusReceived _ _ _ _ _ _ _ => some (Rank.at .engine evLINK_UP.src)
  | .frameMissed _ => some (Rank.at .engine evLINK_DOWN.src)
  | .linkRetryEnd => some (Rank.at .engine evLINK_UP.src)
  | .releaseSequenceReceived _ _ => some (Rank.at .engine evPAIR_OWNER.src)
  | .takeoverQualified _ => some (Rank.at .engine evPAIR_OWNER.src)
  | .takeoverCommit _ => some (Rank.at .engine evPAIR_OWNER.src)
  | .handover => some (Rank.at .host 0)
  | .handoverRelease _ => some (Rank.at .engine evPAIR_OWNER.src)
  | .clearLock => some (Rank.at .host 0)
  | .supervisorMismatch _ _ => some (Rank.at .safety evSAFE_DEV.src)
  | .scrubPass _ _ _ => some (Rank.at .safety evSAFE_DEV.src)
  | .ramSec _ _ _ _ => some (Rank.at .safety evSAFE_DEV.src)
  | .plausTrip _ _ => some (Rank.at .safety evSAFE_DEV.src)
  | .dieLinkLoss _ _ => some (Rank.at .safety evSAFE_DEV.src)
  | .dieLinkRestore _ => some (Rank.at .safety evSAFE_DEV.src)
  | .watchdogEnable _ => some (Rank.at .host 0)
  | .watchdogKick _ _ => some (Rank.at .host 0)
  | .wdogLate _ => some (Rank.at .safety evWDOG.src)
  | .safeClr => some (Rank.at .host 0)
  | .safePlfltClear _ _ => some (Rank.at .host 0)
  | .armPrepare _ => some (Rank.at .host 0)
  | .armComplete _ _ => some (Rank.at .host 0)
  | .disarm _ _ => some (Rank.at .host 0)
  | .startupTestDone _ => some (Rank.at .reset 0)
  | .rstNAssert _ _ => some (Rank.at .reset 0)
  | .resetRelease => some (Rank.at .reset 0)
  | .softwareReset _ => some (Rank.at .reset 0)
  | .tapExtest _ => none
  | .tapHighz _ => none
  | .tapClamp _ => none
  | .tapIdcode => none
  | .tapSamplePreload _ => none
  | .tapBypass => none
  | .tapReset => none
  | .gatePlateauReached _ _ => none
  | .saliencyDone a _ => some (Rank.at .engine (evAXIS_WARN (axBank a)).src)
  | .vmainOkFall => some (Rank.at .supply evPWR_BOUNCE.src)
  | .vioOkRise => some (Rank.at .supply evPWR_BOUNCE.src)

/-- A command is taken before another one that waits: both have places in the tick, and its own comes first. -/
def goesFirst (c x : Instr) : Bool :=
  match placeOf c, placeOf x with
  | some p, some q => p < q
  | _, _ => false

/-- A waiting queue, its newest command first, with a command put in its place: behind what comes no later than it (R104). -/
def putPlace (c : Instr) : List Instr → List Instr
  | [] => [c]
  | x :: l => if goesFirst c x then x :: putPlace c l else c :: x :: l

/-- What happens in a tick is offered to the device in any order, and the device takes it in the order of Table TIME-3; of equal
places the first offered comes first (R104, R516). -/
def State.offer (s : State) (c : Instr) : State := { s with pending := (putPlace c s.pending.reverse).reverse }

end Sys2Proof.Machine
end

