-- ==== Sys2Proof/Safety.lean ====
section
/-! DEFINITION. Sys2Proof/Safety.lean: what counts as a safe state of the device, and the parts of the state that a frame
names, in the terms claims use. -/
namespace Sys2Proof.Safety
open Sys2Proof.Machine

/-- No half-bridge has both its switches driven on (R189, R195). -/
def NoShootThrough (s : State) : Prop :=
  ∀ h : Fin 72, ¬ ((s.hb[h]).hs.on = true ∧ (s.hb[h]).ls.on = true)

/-- Every half-bridge of a bank in pin float has both switches off (R18, R184). -/
def FloatOff (s : State) : Prop :=
  ∀ h : Fin 72, (s.hb[h]).cmd = .float → (s.hb[h]).hs.on = false ∧ (s.hb[h]).ls.on = false

/-- From `s` to `t` the array loses the bytes of the burst last programmed from the `k`th on, which read erased; every other byte
is as before. -/
def PartBurst (s t : State) (k : Nat) : Prop :=
  ∀ a, cellRd 0xFF t.store.mem a =
    if s.store.span.1 + k ≤ a ∧ a < s.store.span.1 + s.store.span.2 then 0xFF else cellRd 0xFF s.store.mem a

/-- The array lacks a part of the burst last programmed, its last byte at least (R412). -/
def BurstTorn (s t : State) : Prop := ∃ k, PartBurst s t k ∧ (0 < s.store.span.2 → k < s.store.span.2)

/-- The status bit of an event source (R341). -/
def eventBit (s : State) (e : EvName) : Bool := bit (s.rd (A.EVT_STAT (e.src / 16))) (e.src % 16)

/-- Every row of the register tables. -/
def allRows : List RegRow :=
  rows_sys ++ rows_time ++ rows_host ++ rows_evt ++ rows_recorder ++ rows_pwr ++ rows_store ++ rows_storew ++ rows_pair ++
    rows_safe ++ rows_fus ++ rows_sch ++ rows_sol ++ rows_can ++ rows_win ++ rows_recw ++ rows_bank

/-- The address is that of an instance of the register `r`. -/
def isAt (r : Reg) (a : Nat) : Bool := allRows.any (fun w => decide (w.reg = r) && (w.idx a).isSome)

/-- Parts of the state that a command may change: registers by name (every instance) and by whole block (Table MAP-5), the
other fields of State by name. -/
structure Parts where
  regs : List Reg := []
  blks : List Blk := []
  free : Bool := false
  fresh : Bool := false
  clk : Bool := false
  link : Bool := false
  ops : Bool := false
  can : Bool := false
  rcd : Bool := false
  tim : Bool := false
  hb : Bool := false
  bank : Bool := false
  ax : Bool := false
  fus : Bool := false
  sched : Bool := false
  sol : Bool := false
  img : Bool := false
  pwr : Bool := false
  store : Bool := false
  pair : Bool := false
  safe : Bool := false
  lands : Bool := false
  /-- the bytes of the store array (R387), of the load window (R81) and the record slots (R347), apart from the rest of `store`,
  `img` and `rcd` -/
  mem : Bool := false
  win : Bool := false
  recs : Bool := false

/-- The register word at an address is one of the parts. -/
def Parts.covers (m : Parts) (a : Nat) : Bool := m.blks.contains (blkOf a) || m.regs.any (fun r => isAt r a)

/-- The parts cover every instance of a register. -/
def Parts.Has (m : Parts) (r : Reg) : Prop := ∀ a, isAt r a = true → m.covers a = true

/-- `t` differs from `s` in the parts `m` at most: every other register word, every other field and the queue are
unchanged. -/
structure Only (m : Parts) (s t : State) : Prop where
  pending : t.pending = s.pending
  regs : ∀ a, m.covers a = false → t.rd a = s.rd a
  free : m.free = false → t.free = s.free
  fresh : m.fresh = false → t.fresh = s.fresh
  clk : m.clk = false → t.clk = s.clk
  link : m.link = false → t.link = s.link
  ops : m.ops = false → t.ops = s.ops
  can : m.can = false → t.can = s.can
  rcd : m.rcd = false → t.rcd = s.rcd
  tim : m.tim = false → t.tim = s.tim
  hb : m.hb = false → t.hb = s.hb
  bank : m.bank = false → t.bank = s.bank
  ax : m.ax = false → t.ax = s.ax
  fus : m.fus = false → t.fus = s.fus
  sched : m.sched = false → t.sched = s.sched
  sol : m.sol = false → t.sol = s.sol
  img : m.img = false → t.img = s.img
  pwr : m.pwr = false → t.pwr = s.pwr
  store : m.store = false → t.store = s.store
  pair : m.pair = false → t.pair = s.pair
  safe : m.safe = false → t.safe = s.safe
  lands : m.lands = false → t.lands = s.lands
  mem : m.mem = false → t.store.mem = s.store.mem
  win : m.win = false → t.img.window = s.img.window
  recs : m.recs = false → t.rcd.slots = s.rcd.slots

/-! ### What each command may change -/

/-- Every block of the address map. -/
def allBlocks : List Blk :=
  [.sys, .time, .host, .evt, .recorder, .pwr, .store, .storew, .pair, .safe, .fus, .sch, .sol, .can, .win, .recw, .bank,
    .unassigned]

/-- What raising an event may change beside the parts `m`: its status bit and its record's way to the recorder (R341, R344). -/
def raising (m : Parts) : Parts := { m with regs := .EVT_STAT :: m.regs, fresh := true, rcd := true }

/-- What making due records may change beside the parts `m`: the slots, the hold FIFO, the journal queue and their loss counters
(R345, R346, R352, R356, R397). -/
def recording (m : Parts) : Parts :=
  raising { m with
    regs := .REC_HOLDOVF_CNT :: .REC_DROP_CNT :: .STORE_JLOST :: m.regs, store := true, recs := true }

/-- What a whole write path, or a tick of engine frames, may reach: all but the record of the lands and the bytes of
the store array. -/
def everything : Parts :=
  { blks := allBlocks, free := true, clk := true, link := true, ops := true, can := true, tim := true, hb := true,
    bank := true, ax := true, fus := true, sched := true, sol := true, img := true, pwr := true, pair := true, safe := true,
    win := true }

/-- What a reset of the main supply's domains may reach (16_lands_reset.md). -/
def resetReach : Parts :=
  { regs := [.GATE_BSTUVCNT, .GATE_FLT, .PWR_DOM_REQ], free := true, ops := true, can := true, tim := true, hb := true, bank := true, ax := true,
    fus := true, sched := true, sol := true, img := true, pwr := true, pair := true, lands := true }

/-- What switching a domain may reach (12_supplies_holdup.md). -/
def domainReach : Parts :=
  { regs := [.GATE_BSTUVCNT, .GATE_FLT], free := true, ops := true, can := true, tim := true, hb := true, bank := true, ax := true,
    fus := true, sched := true, sol := true, pwr := true, pair := true }

/-- The power stage: the timers, the half-bridges and the banks, with the
registers of a lost bootstrap supply. -/
def stageReach : Parts := { regs := [.GATE_BSTUVCNT, .GATE_FLT], tim := true, hb := true, bank := true }

/-- What a fault reaction may reach: the power stage, the axes and the long operations it ends. -/
def reactionReach : Parts :=
  { stageReach with regs := [.GATE_BSTUVCNT, .GATE_FLT, .PROT_AXSTAT], ops := true, ax := true }

/-- The parts of the state that a command may change. A part that is not listed is left alone by every form of the
command, whatever the state. -/
def mayChange : Instr → Parts
  | .registerWrite _ _ _ => recording everything
  | .multiwordLatchRead _ => { free := true, link := true }
  | .nop _ => recording { everything with lands := true }
  | .read _ _ _ => recording { everything with lands := true }
  | .readFixed _ _ _ => recording { everything with lands := true }
  | .write _ _ _ _ => recording { everything with lands := true }
  | .writeFixed _ _ _ _ => recording { everything with lands := true }
  | .spiHeaderTruncated _ => raising { regs := [.HOST_CRCCNT, .HOST_ERR] }
  | .tick => recording everything
  | .internalSecondBoundary => raising { clk := true }
  | .ppsEdge => raising { regs := [.TIME_FERR, .TIME_PPSERR, .TIME_PPSREJ], free := true, clk := true, lands := true }
  | .ppsTimeout => raising { clk := true }
  | .timeApply => { clk := true }
  | .relock => { clk := true }
  | .timeSnapshotRead => { link := true }
  | .timeTbRead => { link := true }
  | .monitorWindowEnd _ _ _ => raising
      { reactionReach with
        regs := [.CLK_CORECNT, .CLK_FAULT, .CLK_REFCNT, .GATE_BSTUVCNT, .GATE_FLT, .PROT_AXSTAT, .SAFE_CAUSE,
        .SAFE_DETAIL], clk := true, pair := true, safe := true }
  | .pllUnlock => raising
      { reactionReach with
        regs := [.CLK_FAULT, .GATE_BSTUVCNT, .GATE_FLT, .PROT_AXSTAT, .SAFE_CAUSE, .SAFE_DETAIL], clk := true,
        pair := true, safe := true }
  | .tickRestore => { clk := true }
  | .imageLoad => recording everything
  | .opUnknownCode _ => raising
      {
        regs := [.IMG_REJECT, .OP_QFULLCNT, .OP_TICKET], ops := true, bank := true, ax := true, img := true,
        store := true }
  | .imageVerifyDone => raising { regs := [.IMG_REJECT], ops := true, img := true }
  | .wholeImageSwap => recording { domainReach with blks := allBlocks, clk := true, img := true }
  | .bankImageSwap => raising { reactionReach with blks := allBlocks, img := true }
  | .slotWriteBurst _ => raising
      {
        regs := [.IMG_REJECT], free := true, ops := true, img := true, store := true, mem := true }
  | .imgKeydataWrite _ => { img := true }
  | .keyCmdArm => { regs := [.IMG_KEYSTAT], fresh := true, img := true }
  | .keyCmdProgram => { regs := [.IMG_KEYSTAT], fresh := true, img := true }
  | .keyProgramDone _ => { regs := [.IMG_KEYCHK, .IMG_KEYSTAT], free := true, img := true }
  | .shuntCal => recording everything
  | .dlineCal => recording everything
  | .selfTest => recording everything
  | .motorId => recording everything
  | .compact => recording everything
  | .opStart _ => raising { regs := [.IMG_REJECT], ops := true, bank := true, ax := true, img := true, store := true }
  | .opPartial _ _ _ _ => raising { free := true, ops := true, hb := true, ax := true, img := true }
  | .opEnd _ _ _ => raising { free := true, ops := true, hb := true, ax := true, img := true, safe := true }
  | .opTimeout _ => raising { free := true, ops := true, hb := true, ax := true, img := true }
  | .opRelease _ => recording everything
  | .opAbort _ => recording everything
  | .canRx _ _ _ _ _ _ _ _ => raising
      {
        regs := [.BUF_CFG, .BUF_DATA, .BUF_ID_HI, .BUF_ID_LO, .BUF_STAMP0, .BUF_STAMP1, .BUF_STAMP2, .BUF_STAT,
        .CAN_RXLOST] }
  | .canTxreq _ _ _ => { can := true }
  | .canTxDone _ _ _ => raising
      {
        regs := [.BUF_CFG, .BUF_DATA, .BUF_ID_HI, .BUF_ID_LO, .BUF_STAMP0, .BUF_STAMP1, .BUF_STAMP2, .BUF_STAT,
        .CAN_RXLOST], can := true }
  | .canTxFail _ _ _ _ => { regs := [.BUF_STAT, .CAN_LEC], can := true }
  | .canTxabort _ _ _ => { can := true }
  | .canErrorStateChange _ _ _ _ _ _ => raising { regs := [.CAN_LEC], can := true }
  | .canBusoffRecovery _ => raising { regs := [.CAN_LEC], can := true }
  | .loadAll _ _ _ => recording everything
  | .timerStart _ _ => recording everything
  | .timerStop _ _ => recording everything
  | .startEdge _ => 
      {
        regs := [.PWM_FILTCNT], free := true, tim := true, hb := true, bank := true, ax := true, lands := true }
  | .timerWrap _ => 
      {
        regs := [.PWM_FILTCNT], free := true, tim := true, hb := true, bank := true, ax := true, lands := true }
  | .compareMatch _ _ => { tim := true }
  | .triggerCompare _ _ => { tim := true, bank := true, ax := true, lands := true }
  | .refreshPulseEnd _ _ => { tim := true }
  | .dlcCalCycle _ _ _ _ _ => raising
      {
        regs := [.DLC_BIAS, .DLC_FAILCNT, .DLC_STAT, .DLC_TAPDLY, .DLC_TBL], free := true, bank := true }
  | .commandChange _ _ => raising stageReach
  | .turnOnStart _ _ _ => { hb := true, bank := true }
  | .gateOffSensed _ _ _ => { hb := true, pair := true }
  | .tgminExpiry _ _ _ => { hb := true, bank := true }
  | .gateStuck _ _ _ => raising reactionReach
  | .gateFgn _ _ _ => raising { stageReach with ops := true, ax := true, pair := true }
  | .floatEntry _ _ => raising stageReach
  | .floatOutputDisable _ _ => { hb := true, bank := true, pair := true }
  | .floatExitHoldEnd _ _ => raising stageReach
  | .vdrvUv _ _ => raising
      { stageReach with
        regs := [.GATE_BSTUVCNT, .GATE_FLT, .GSUP_FLT, .PROT_AXSTAT], ax := true }
  | .vcpUv _ _ => raising { stageReach with regs := [.GATE_BSTUVCNT, .GATE_FLT, .GSUP_FLT, .PROT_AXSTAT], ax := true }
  | .bstUv _ _ => raising { stageReach with regs := [.GATE_BSTUVCNT, .GATE_FLT, .PROT_AXSTAT], ax := true }
  | .supplyRise _ _ => { hb := true, bank := true }
  | .gsupFltClear _ _ => recording everything
  | .ddpInputEdge _ _ _ _ _ => raising { stageReach with free := true, lands := true }
  | .dsblExpiry _ _ _ => { hb := true }
  | .desat _ _ _ => raising { reactionReach with regs := [.GATE_BSTUVCNT, .GATE_FLT, .PROT_AXSTAT, .PROT_CHFLT] }
  | .hardShortArm _ _ _ => { hb := true }
  | .hardShort _ _ _ => raising { reactionReach with regs := [.GATE_BSTUVCNT, .GATE_FLT, .PROT_AXSTAT, .PROT_CHFLT] }
  | .plateau _ _ _ => raising { reactionReach with regs := [.GATE_BSTUVCNT, .GATE_FLT, .PROT_AXSTAT, .PROT_CHFLT] }
  | .protChfltClear _ _ _ => recording everything
  | .tripRecognised _ _ _ => raising
      { reactionReach with
        regs := [.GATE_BSTUVCNT, .GATE_FLT, .PROT_AXSTAT, .PROT_BFLT] }
  | .tripRelease _ => raising { stageReach with regs := [.GATE_BSTUVCNT, .GATE_FLT, .PROT_AXSTAT], ax := true }
  | .blankWindowEnd _ _ => { bank := true }
  | .currentLimitTrip _ _ _ => raising
      { stageReach with
        regs := [.GATE_BSTUVCNT, .GATE_FLT, .PROT_BFLT, .PROT_CHFLT, .PROT_ILIMCNT] }
  | .chopperOn _ _ => raising stageReach
  | .chopperOff _ _ => raising { stageReach with regs := [.GATE_BSTUVCNT, .GATE_FLT, .PROT_AXSTAT], ax := true }
  | .vov2 _ _ => raising { reactionReach with regs := [.GATE_BSTUVCNT, .GATE_FLT, .PROT_AXSTAT, .PROT_BFLT] }
  | .chopLong _ => raising { regs := [.PROT_BFLT], bank := true }
  | .ots _ _ => raising { reactionReach with regs := [.GATE_BSTUVCNT, .GATE_FLT, .PROT_AXSTAT, .PROT_BFLT] }
  | .protBfltClear _ _ => recording everything
  | .estop _ _ => raising { reactionReach with free := true, safe := true }
  | .estopRelease => raising
      { stageReach with
        regs := [.GATE_BSTUVCNT, .GATE_FLT, .PROT_AXSTAT], ax := true, safe := true }
  | .engineStep _ _ => raising
      {
        regs := [.AX_ANGLE, .AX_CONF, .AX_IC, .AX_ID, .AX_IQ, .AX_LATECNT, .AX_REF, .AX_SKIPCNT, .AX_SPD,
        .AX_STALECNT, .AX_STARTS, .AX_TARGET, .AX_VD, .AX_VQ, .SOL_EXPOVF], free := true, ops := true, tim := true,
        ax := true, sol := true }
  | .converterStart _ => { regs := [.CONV_OVRCNT], bank := true }
  | .conversionDone _ _ _ => raising
      { reactionReach with
        regs := [.CONV_OFS, .CONV_REF, .CONV_RES, .CONV_SEQCNT, .CONV_SN, .GATE_BSTUVCNT, .GATE_FLT, .PROT_AXSTAT,
        .PROT_BFLT, .PROT_TEMP, .PROT_VM], free := true }
  | .hallEdge _ _ => raising
      {
        regs := [.AX_HALL, .AX_HALLERR], free := true, ops := true, ax := true, lands := true }
  | .encoderEdge _ _ _ => raising { regs := [.AX_ENCPOS], free := true, ops := true, ax := true, lands := true }
  | .axisStart _ => recording everything
  | .axisStop _ => recording everything
  | .axisCoast _ => recording everything
  | .axisStallClear _ => recording everything
  | .alignDone _ => { regs := [.AX_ENC_OFS], free := true, ax := true }
  | .retryWaitEnd _ => { regs := [.AX_STARTS], ax := true }
  | .stallDetected _ _ => raising { regs := [.AX_STALLCNT], ax := true }
  | .wheelCount _ _ _ => raising
      {
        regs := [.FUS_WHL_CNT, .FUS_WHL_INS, .FUS_WHL_NOISE], free := true, fus := true, lands := true }
  | .gnssSentence _ _ _ => raising { regs := [.FUS_GNSS_ERR, .FUS_GNSS_FIX], free := true, fus := true }
  | .imuTrigger => raising { regs := [.FUS_IMU_LOST], fus := true }
  | .imuSeqDone _ => { regs := [.FUS_IMU], free := true, fus := true }
  | .sentFrame _ _ => raising { regs := [.FUS_ANGLE, .FUS_SENT_ERR, .FUS_SENT_STAT], free := true, fus := true }
  | .hostInject _ => { fus := true }
  | .fusionPublication => raising
      {
        regs := [.FUS_EST, .FUS_IN_V, .FUS_PUBCNT, .SCH_UNCOMCNT], free := true, fus := true, sched := true }
  | .scheduleCommit _ _ => { free := true, sched := true }
  | .scheduleFire _ _ _ => raising
      {
        regs := [.AX_CUR_SET, .AX_GS_CTL, .AX_GS_RATE, .IMG_LIMLAST, .IMG_LIMSAT, .PWM_ARMREP, .PWM_CMP, .PWM_FORCE,
        .SCH_LAST, .SCH_LATECNT, .SCH_STATE_HI, .SCH_STATE_LO], free := true, tim := true, hb := true, sched := true }
  | .schedLateFire _ _ _ => raising
      {
        regs := [.AX_CUR_SET, .AX_GS_CTL, .AX_GS_RATE, .IMG_LIMLAST, .IMG_LIMSAT, .PWM_ARMREP, .PWM_CMP, .PWM_FORCE,
        .SCH_LAST, .SCH_LATECNT, .SCH_STATE_HI, .SCH_STATE_LO], free := true, tim := true, hb := true, sched := true }
  | .scheduleInsert _ => recording everything
  | .schSectOn _ => raising
      {
        regs := [.AX_CUR_SET, .AX_GS_CTL, .AX_GS_RATE, .IMG_LIMLAST, .IMG_LIMSAT, .PWM_ARMREP, .PWM_CMP, .PWM_FORCE,
        .SCH_STATE_HI, .SCH_STATE_LO], tim := true, hb := true }
  | .schSectOff _ => raising
      {
        regs := [.AX_CUR_SET, .AX_GS_CTL, .AX_GS_RATE, .IMG_LIMLAST, .IMG_LIMSAT, .PWM_ARMREP, .PWM_CMP, .PWM_FORCE,
        .SCH_STATE_HI, .SCH_STATE_LO], tim := true, hb := true }
  | .schSectRate _ => raising
      {
        regs := [.AX_CUR_SET, .AX_GS_CTL, .AX_GS_RATE, .IMG_LIMLAST, .IMG_LIMSAT, .PWM_ARMREP, .PWM_CMP, .PWM_FORCE,
        .SCH_STATE_HI, .SCH_STATE_LO], tim := true, hb := true }
  | .schCancel _ => { sched := true }
  | .schCancelAll => { sched := true }
  | .seedEdge _ => raising { regs := [.SOL_SEEDOVF], sol := true }
  | .associationEpochClose => raising { regs := [.SOL_BATCHOVF, .SOL_LATECNT], sol := true }
  | .solveStart => { sol := true }
  | .solveDone _ _ => raising
      {
        regs := [.SOL_CNT, .SOL_EPOCHCNT, .SOL_EXPOVF, .SOL_FAULTCNT, .SOL_HIST, .SOL_LAST_ERR, .SOL_LAST_M,
        .SOL_LAST_N, .SOL_LAST_RMS, .SOL_RATES, .SOL_RSTAT, .SOL_RUNSKIP, .SOL_SEEDOVF, .SOL_TMAX, .SOL_TRACE_E,
        .SOL_TRACE_N, .SOL_TRACE_O, .SOL_WINCNT], free := true, sol := true }
  | .solverStoreCleared => { sol := true }
  | .solClrCounters _ => { regs := [.SOL_CNT] }
  | .solClrWindow _ => { sol := true }
  | .evtStatClear _ _ => { regs := [.EVT_STAT] }
  | .recordWrite => recording {}
  | .recorderFreeze => { rcd := true }
  | .recorderThaw => recording {}
  | .freezeTimeout => recording {}
  | .holdFifoDrain => recording {}
  | .recClr => recording {}
  | .hostMark _ => raising {}
  | .vmainFail _ _ _ => recording
      { reactionReach with
        regs := [.GATE_BSTUVCNT, .GATE_FLT, .PROT_AXSTAT, .PWR_ESTORED, .PWR_LOSSCNT, .PWR_VBAK, .PWR_VMAIN],
        free := true, img := true, pwr := true, pair := true, mem := true }
  | .handoverStep _ => raising { domainReach with regs := [.GATE_BSTUVCNT, .GATE_FLT, .PROT_AXSTAT] }
  | .criticalWindowEnd => recording
      { resetReach with
        regs := [.GATE_BSTUVCNT, .GATE_FLT, .PROT_AXSTAT, .PWR_DOM_REQ, .PWR_LASTBNC, .PWR_LASTOUT, .PWR_START,
        .SAFE_FLTEN, .SAFE_WDCFG, .SYS_BOOT], blks := [.evt], clk := true, safe := true, win := true }
  | .flushEnd => recording
      { resetReach with
        regs := [.GATE_BSTUVCNT, .GATE_FLT, .PROT_AXSTAT, .PWR_DOM_REQ, .PWR_FLUSHT, .PWR_LASTBNC, .PWR_LASTOUT,
        .PWR_START, .SAFE_FLTEN, .SAFE_WDCFG, .SYS_BOOT], blks := [.evt], clk := true, safe := true, win := true }
  | .vmainOkRise => { pwr := true }
  | .vmainBounce => raising
      { resetReach with
        regs := [.GATE_BSTUVCNT, .GATE_FLT, .PWR_BOUNCECNT, .PWR_DOM_REQ, .STORE_JLOST], clk := true, store := true,
        win := true }
  | .dwellComplete => recording { resetReach with blks := allBlocks, clk := true, link := true, safe := true }
  | .vbakMinLoss => raising
      { resetReach with
        regs := [.GATE_BSTUVCNT, .GATE_FLT, .PROT_AXSTAT, .PWR_DOM_REQ, .STORE_JLOST], clk := true, store := true,
        win := true }
  | .bankHoldEnd _ _ => raising { stageReach with regs := [.GATE_BSTUVCNT, .GATE_FLT, .PROT_AXSTAT], ax := true }
  | .aonPowerOn _ => recording { everything with lands := true, mem := true }
  | .storeMountDone => raising { regs := [.STORE_ERRCNT, .STORE_ERRLAST, .STORE_JEVN], store := true }
  | .domainSwitchOn _ _ => raising { domainReach with regs := [.GATE_BSTUVCNT, .GATE_FLT, .PWR_DOM_REQ] }
  | .domainSwitchOff _ _ => raising { domainReach with regs := [.GATE_BSTUVCNT, .GATE_FLT, .PWR_DOM_REQ] }
  | .domainStart _ => { pwr := true }
  | .domainReady _ => raising
      { domainReach with
        regs := [.AX_HALL, .CAN_CTL, .FUS_PUBCNT, .FUS_STAT, .GATE_BSTUVCNT, .GATE_FLT, .PROT_AXSTAT, .SCH_STATE_HI,
        .SCH_STATE_LO, .SOL_FAULTCNT, .SOL_FEST, .SOL_LATECNT, .SOL_RSTAT, .SOL_TMAX, .SOL_TRACE_E], blks := [.bank,
        .can, .fus, .pair, .sch, .sol] }
  | .energyEstimate _ _ _ => raising
      {
        regs := [.PWR_ESTORED, .PWR_VBAK, .PWR_VIO, .PWR_VMAIN], pwr := true, store := true, mem := true }
  | .vioUv _ _ => raising
      { reactionReach with
        regs := [.GATE_BSTUVCNT, .GATE_FLT, .PROT_AXSTAT, .PWR_VIO, .SAFE_CAUSE, .SAFE_DETAIL], pwr := true,
        pair := true, safe := true }
  | .storeWrite _ => recording everything
  | .storeDelete => { store := true }
  | .storeRead _ => { regs := [.STORE_RRES], store := true }
  | .storeReadDone => raising
      {
        regs := [.STORE_ERRCNT, .STORE_ERRLAST, .STORE_RBUF, .STORE_RRES, .STORE_RSEQ], store := true }
  | .storeAppend => raising { regs := [.STORE_BUSYCNT, .STORE_DEFCNT], free := true, store := true, mem := true }
  | .programBurstDone _ => raising
      {
        regs := [.STORE_DEFCNT, .STORE_ERRLAST, .STORE_JEVN, .STORE_JLOST], free := true, ops := true, store := true,
        mem := true }
  | .compactionStep => { free := true, store := true, mem := true }
  | .backgroundCompaction => { store := true }
  | .pairOwnInChange _ _ _ => raising { stageReach with pair := true }
  | .pairClaim _ => raising { stageReach with ops := true, ax := true, pair := true }
  | .gateCheckPass _ _ => raising { stageReach with regs := [.GATE_BSTUVCNT, .GATE_FLT, .PAIR_LASTGAP], pair := true }
  | .laneAligned _ => { pair := true }
  | .laneAlignmentLost _ => raising { pair := true }
  | .linkSlot => { regs := [.PAIR_MIRLAG], sched := true, pair := true }
  | .helloReceived _ _ _ _ _ _ _ => raising { pair := true }
  | .mirrorReceived _ _ _ _ => raising
      { stageReach with
        regs := [.AX_ANGLE, .AX_CONF, .AX_CUR_SET, .AX_GS_CTL, .AX_GS_RATE, .AX_SPD_SET, .FUS_EST, .GATE_BSTUVCNT,
        .GATE_FLT, .GSUP_FLT, .PAIR_CFGMIS, .PAIR_CRCCNT, .PAIR_PRECHEAD, .PAIR_PSTSEQ, .PROT_BFLT, .PROT_CHFLT,
        .PWM_CHEN, .PWM_CMP, .PWM_CTL, .PWM_FORCE, .PWM_HR, .PWM_RUN_HI, .PWM_RUN_LO, .SCH_STATE_HI, .SCH_STATE_LO],
        ax := true, fus := true, sched := true, pair := true }
  | .statusReceived _ _ _ _ _ _ _ => { regs := [.PAIR_PRECHEAD], pair := true }
  | .frameMissed _ => raising
      { stageReach with
        regs := [.GATE_BSTUVCNT, .GATE_FLT, .PAIR_MISSCNT, .PAIR_TAKECNT], pair := true }
  | .linkRetryEnd => { pair := true }
  | .releaseSequenceReceived _ _ => raising { stageReach with pair := true }
  | .takeoverQualified _ => raising
      { stageReach with
        regs := [.GATE_BSTUVCNT, .GATE_FLT, .PAIR_TAKECNT], pair := true }
  | .takeoverCommit _ => raising
      { stageReach with
        regs := [.AX_STARTS, .FUS_IMU_LOST, .GATE_BSTUVCNT, .GATE_FLT, .PROT_AXSTAT], ax := true, fus := true,
        sched := true, pair := true }
  | .handover => { regs := [.PAIR_CMDRES], pair := true }
  | .handoverRelease _ => raising { stageReach with pair := true }
  | .clearLock => raising { stageReach with regs := [.GATE_BSTUVCNT, .GATE_FLT, .PAIR_CMDRES], pair := true }
  | .supervisorMismatch _ _ => raising
      { reactionReach with
        regs := [.GATE_BSTUVCNT, .GATE_FLT, .PROT_AXSTAT, .SAFE_CAUSE, .SAFE_DETAIL], pair := true, safe := true }
  | .scrubPass _ _ _ => raising
      { reactionReach with
        regs := [.GATE_BSTUVCNT, .GATE_FLT, .PROT_AXSTAT, .SAFE_CAUSE, .SAFE_DETAIL, .SAFE_SCRUBCNT], img := true,
        pair := true, safe := true }
  | .ramSec _ _ _ _ => raising
      { reactionReach with
        regs := [.GATE_BSTUVCNT, .GATE_FLT, .PROT_AXSTAT, .REC_HOLDOVF_CNT, .SAFE_CAUSE, .SAFE_DETAIL, .SAFE_RAMSEC,
        .SOL_FAULTCNT, .STORE_JLOST], free := true, sol := true, store := true, pair := true, safe := true,
        recs := true }
  | .plausTrip _ _ => raising
      { reactionReach with
        regs := [.GATE_BSTUVCNT, .GATE_FLT, .PROT_AXSTAT, .SAFE_PLFLT_HI, .SAFE_PLFLT_LO] }
  | .dieLinkLoss _ _ => raising { reactionReach with safe := true }
  | .dieLinkRestore _ => raising
      { stageReach with
        regs := [.GATE_BSTUVCNT, .GATE_FLT, .PROT_AXSTAT], ax := true, safe := true }
  | .watchdogEnable _ => recording everything
  | .watchdogKick _ _ => raising
      { reactionReach with
        regs := [.GATE_BSTUVCNT, .GATE_FLT, .PROT_AXSTAT, .SAFE_CAUSE, .SAFE_DETAIL], pair := true, safe := true }
  | .wdogLate _ => raising
      { reactionReach with
        regs := [.GATE_BSTUVCNT, .GATE_FLT, .PROT_AXSTAT, .SAFE_CAUSE, .SAFE_DETAIL], pair := true, safe := true }
  | .safeClr => raising
      { stageReach with
        regs := [.GATE_BSTUVCNT, .GATE_FLT, .PROT_AXSTAT], ax := true, safe := true }
  | .safePlfltClear _ _ => recording everything
  | .armPrepare _ => recording everything
  | .armComplete _ _ => recording everything
  | .disarm _ _ => recording everything
  | .startupTestDone _ => { safe := true }
  | .rstNAssert _ _ => raising { resetReach with regs := [.GATE_BSTUVCNT, .GATE_FLT, .PROT_AXSTAT, .PWR_DOM_REQ] }
  | .resetRelease => recording
      { reactionReach with
        blks := allBlocks, free := true, clk := true, link := true, can := true, fus := true, sched := true,
        sol := true, img := true, pair := true, safe := true, lands := true }
  | .softwareReset _ => raising { resetReach with regs := [.GATE_BSTUVCNT, .GATE_FLT, .PROT_AXSTAT, .PWR_DOM_REQ] }
  | .tapExtest _ => raising { resetReach with regs := [.GATE_BSTUVCNT, .GATE_FLT, .PROT_AXSTAT, .PWR_DOM_REQ] }
  | .tapHighz _ => raising { resetReach with regs := [.GATE_BSTUVCNT, .GATE_FLT, .PROT_AXSTAT, .PWR_DOM_REQ] }
  | .tapClamp _ => raising { resetReach with regs := [.GATE_BSTUVCNT, .GATE_FLT, .PROT_AXSTAT, .PWR_DOM_REQ] }
  | .tapIdcode => { lands := true }
  | .tapSamplePreload _ => { lands := true }
  | .tapBypass => { lands := true }
  | .tapReset => { lands := true }
  | .gatePlateauReached _ _ => { hb := true }
  | .saliencyDone _ _ => { free := true, ax := true }
  | .vmainOkFall => raising
      { resetReach with
        regs := [.GATE_BSTUVCNT, .GATE_FLT, .PWR_DOM_REQ, .STORE_JLOST], clk := true, store := true, win := true }
  | .vioOkRise => { pwr := true }

/-- The functions of the device, by which claims group its commands. -/
inductive Function
  | hostLink | timeBase | image | longOps | can | pwm | gates | protection | axes | motion
  | schedule | association | recorder | supplies | store | pair | safety | reset
  deriving DecidableEq, Repr

/-- The function a command belongs to. -/
def functionOf : Instr → Function
  | .registerWrite _ _ _ => .hostLink
  | .multiwordLatchRead _ => .hostLink
  | .nop _ => .hostLink
  | .read _ _ _ => .hostLink
  | .readFixed _ _ _ => .hostLink
  | .write _ _ _ _ => .hostLink
  | .writeFixed _ _ _ _ => .hostLink
  | .spiHeaderTruncated _ => .hostLink
  | .tick => .timeBase
  | .internalSecondBoundary => .timeBase
  | .ppsEdge => .timeBase
  | .ppsTimeout => .timeBase
  | .timeApply => .timeBase
  | .relock => .timeBase
  | .timeSnapshotRead => .timeBase
  | .timeTbRead => .timeBase
  | .monitorWindowEnd _ _ _ => .timeBase
  | .pllUnlock => .timeBase
  | .tickRestore => .timeBase
  | .imageLoad => .image
  | .opUnknownCode _ => .longOps
  | .imageVerifyDone => .image
  | .wholeImageSwap => .image
  | .bankImageSwap => .image
  | .slotWriteBurst _ => .image
  | .imgKeydataWrite _ => .image
  | .keyCmdArm => .image
  | .keyCmdProgram => .image
  | .keyProgramDone _ => .image
  | .shuntCal => .longOps
  | .dlineCal => .longOps
  | .selfTest => .longOps
  | .motorId => .longOps
  | .compact => .longOps
  | .opStart _ => .longOps
  | .opPartial _ _ _ _ => .longOps
  | .opEnd _ _ _ => .longOps
  | .opTimeout _ => .longOps
  | .opRelease _ => .longOps
  | .opAbort _ => .longOps
  | .canRx _ _ _ _ _ _ _ _ => .can
  | .canTxreq _ _ _ => .can
  | .canTxDone _ _ _ => .can
  | .canTxFail _ _ _ _ => .can
  | .canTxabort _ _ _ => .can
  | .canErrorStateChange _ _ _ _ _ _ => .can
  | .canBusoffRecovery _ => .can
  | .loadAll _ _ _ => .pwm
  | .timerStart _ _ => .pwm
  | .timerStop _ _ => .pwm
  | .startEdge _ => .pwm
  | .timerWrap _ => .pwm
  | .compareMatch _ _ => .pwm
  | .triggerCompare _ _ => .pwm
  | .refreshPulseEnd _ _ => .pwm
  | .dlcCalCycle _ _ _ _ _ => .pwm
  | .commandChange _ _ => .gates
  | .turnOnStart _ _ _ => .gates
  | .gateOffSensed _ _ _ => .gates
  | .tgminExpiry _ _ _ => .gates
  | .gateStuck _ _ _ => .gates
  | .gateFgn _ _ _ => .gates
  | .floatEntry _ _ => .gates
  | .floatOutputDisable _ _ => .gates
  | .floatExitHoldEnd _ _ => .gates
  | .vdrvUv _ _ => .gates
  | .vcpUv _ _ => .gates
  | .bstUv _ _ => .gates
  | .supplyRise _ _ => .gates
  | .gsupFltClear _ _ => .gates
  | .ddpInputEdge _ _ _ _ _ => .gates
  | .dsblExpiry _ _ _ => .protection
  | .desat _ _ _ => .protection
  | .hardShortArm _ _ _ => .protection
  | .hardShort _ _ _ => .protection
  | .plateau _ _ _ => .protection
  | .protChfltClear _ _ _ => .protection
  | .tripRecognised _ _ _ => .protection
  | .tripRelease _ => .protection
  | .blankWindowEnd _ _ => .protection
  | .currentLimitTrip _ _ _ => .protection
  | .chopperOn _ _ => .protection
  | .chopperOff _ _ => .protection
  | .vov2 _ _ => .protection
  | .chopLong _ => .protection
  | .ots _ _ => .protection
  | .protBfltClear _ _ => .protection
  | .estop _ _ => .protection
  | .estopRelease => .protection
  | .engineStep _ _ => .axes
  | .converterStart _ => .axes
  | .conversionDone _ _ _ => .axes
  | .hallEdge _ _ => .axes
  | .encoderEdge _ _ _ => .axes
  | .axisStart _ => .axes
  | .axisStop _ => .axes
  | .axisCoast _ => .axes
  | .axisStallClear _ => .axes
  | .alignDone _ => .axes
  | .retryWaitEnd _ => .axes
  | .stallDetected _ _ => .axes
  | .wheelCount _ _ _ => .motion
  | .gnssSentence _ _ _ => .motion
  | .imuTrigger => .motion
  | .imuSeqDone _ => .motion
  | .sentFrame _ _ => .motion
  | .hostInject _ => .motion
  | .fusionPublication => .motion
  | .scheduleCommit _ _ => .schedule
  | .scheduleFire _ _ _ => .schedule
  | .schedLateFire _ _ _ => .schedule
  | .scheduleInsert _ => .schedule
  | .schSectOn _ => .schedule
  | .schSectOff _ => .schedule
  | .schSectRate _ => .schedule
  | .schCancel _ => .schedule
  | .schCancelAll => .schedule
  | .seedEdge _ => .association
  | .associationEpochClose => .association
  | .solveStart => .association
  | .solveDone _ _ => .association
  | .solverStoreCleared => .association
  | .solClrCounters _ => .association
  | .solClrWindow _ => .association
  | .evtStatClear _ _ => .recorder
  | .recordWrite => .recorder
  | .recorderFreeze => .recorder
  | .recorderThaw => .recorder
  | .freezeTimeout => .recorder
  | .holdFifoDrain => .recorder
  | .recClr => .recorder
  | .hostMark _ => .recorder
  | .vmainFail _ _ _ => .supplies
  | .handoverStep _ => .supplies
  | .criticalWindowEnd => .supplies
  | .flushEnd => .supplies
  | .vmainOkRise => .supplies
  | .vmainBounce => .supplies
  | .dwellComplete => .supplies
  | .vbakMinLoss => .supplies
  | .bankHoldEnd _ _ => .supplies
  | .aonPowerOn _ => .supplies
  | .storeMountDone => .supplies
  | .domainSwitchOn _ _ => .supplies
  | .domainSwitchOff _ _ => .supplies
  | .domainStart _ => .supplies
  | .domainReady _ => .supplies
  | .energyEstimate _ _ _ => .supplies
  | .vioUv _ _ => .supplies
  | .storeWrite _ => .store
  | .storeDelete => .store
  | .storeRead _ => .store
  | .storeReadDone => .store
  | .storeAppend => .store
  | .programBurstDone _ => .store
  | .compactionStep => .store
  | .backgroundCompaction => .store
  | .pairOwnInChange _ _ _ => .pair
  | .pairClaim _ => .pair
  | .gateCheckPass _ _ => .pair
  | .laneAligned _ => .pair
  | .laneAlignmentLost _ => .pair
  | .linkSlot => .pair
  | .helloReceived _ _ _ _ _ _ _ => .pair
  | .mirrorReceived _ _ _ _ => .pair
  | .statusReceived _ _ _ _ _ _ _ => .pair
  | .frameMissed _ => .pair
  | .linkRetryEnd => .pair
  | .releaseSequenceReceived _ _ => .pair
  | .takeoverQualified _ => .pair
  | .takeoverCommit _ => .pair
  | .handover => .pair
  | .handoverRelease _ => .pair
  | .clearLock => .pair
  | .supervisorMismatch _ _ => .safety
  | .scrubPass _ _ _ => .safety
  | .ramSec _ _ _ _ => .safety
  | .plausTrip _ _ => .safety
  | .dieLinkLoss _ _ => .safety
  | .dieLinkRestore _ => .safety
  | .watchdogEnable _ => .safety
  | .watchdogKick _ _ => .safety
  | .wdogLate _ => .safety
  | .safeClr => .safety
  | .safePlfltClear _ _ => .safety
  | .armPrepare _ => .safety
  | .armComplete _ _ => .safety
  | .disarm _ _ => .safety
  | .startupTestDone _ => .safety
  | .rstNAssert _ _ => .reset
  | .resetRelease => .reset
  | .softwareReset _ => .reset
  | .tapExtest _ => .reset
  | .tapHighz _ => .reset
  | .tapClamp _ => .reset
  | .tapIdcode => .reset
  | .tapSamplePreload _ => .reset
  | .tapBypass => .reset
  | .tapReset => .reset
  | .gatePlateauReached _ _ => .protection
  | .saliencyDone _ _ => .axes
  | .vmainOkFall => .supplies
  | .vioOkRise => .supplies

end Sys2Proof.Safety
end

