-- ==== Sys2Proof/Certificates/Slice0/Obligations.lean ====
section
/-! DEFINITION. Sys2Proof/Certificates/Slice0/Obligations.lean: the statements for the provers. Each says what a command of
the spec does: the next state it answers and what that state holds, over every state and every operand that meet the
hypotheses written out. -/
open Sys2Proof Sys2Proof.Machine Sys2Proof.Safety

/-! ### The queue and the time base (03_time_and_order.md) -/

/-- A step takes the command at the front of the queue and runs it on the state with the queue's rest; on an empty queue the
block idles (the model's choice, notes/assumptions/1.md). A command that is offered enters the queue in its place: behind the
commands that come no later than it in their tick, ahead of those that it goes before (notes/assumptions/3.md). -/
def Obligations.StepRunsTheFrontCommand : Prop :=
  (∀ (c : Instr) (rest : List Instr) (s : State), step { s with pending := c :: rest } = exec c { s with pending := rest }) ∧
  (∀ s : State, s.pending = [] → step s = .next s) ∧
  (∀ (s : State) (c : Instr), ∃ l r, s.pending = l ++ r ∧ s.offer c = { s with pending := l ++ c :: r } ∧
    (∀ x ∈ r, goesFirst c x = true) ∧ ∀ x ∈ l.getLast?, goesFirst c x = false)

/-- R93: while AON has its supply a tick counts the time base up by one, modulo 2^48; without it nothing happens. R95: in a
tick that begins no second the microseconds count reads k × 1,000,000 / N rounded down. A CORE that is off or in reset keeps
time as well. R96, R99: the internal second boundary, at a tick's own instant or as a command while it is due. Without a
pending TIME_APPLY the seconds count goes up by one modulo 2^32; with one, the seconds count takes TIME_SET_SEC, utc_valid
becomes 1 and TIME_APPLIED is raised. Both times the microseconds count returns to 0. A boundary that is not due changes
nothing. -/
def Obligations.TickAndSecondBoundary : Prop :=
  (∀ s : State, s.pwr.st = .down → exec .tick s = .next s) ∧
  (∀ s : State, s.pwr.st ≠ .down → ∃ t, exec .tick s = .next t ∧ t.tb = (s.tb + 1) % 2 ^ 48 ∧
    (usecAt (s.clk.k + 1) s.clk.n < 1000000 → t.clk.bndNow = false ∧ t.clk.k = s.clk.k + 1 ∧ t.clk.sec = s.clk.sec ∧
      t.clk.usec = usecAt (s.clk.k + 1) s.clk.n) ∧
    (1000000 ≤ usecAt (s.clk.k + 1) s.clk.n → t.clk.bndNow = true ∧ t.clk.k = 0 ∧ t.clk.usec = 0 ∧ t.clk.n = secLen s.ferr ∧
      (s.clk.applyPend = false → t.clk.sec = (s.clk.sec + 1) % 2 ^ 32) ∧
      (s.clk.applyPend = true → t.clk.sec = quant2 (s.rd (A.TIME_SET_SEC 0)) (s.rd (A.TIME_SET_SEC 1)) ∧
        t.clk.applyPend = false ∧ t.clk.utcValid = true ∧ eventBit t evTIME_APPLIED = true))) ∧
  (∀ s : State, s.boundaryDue = true → s.clk.bndNow = false → ∃ t, exec .internalSecondBoundary s = .next t ∧
    t.clk.usec = 0 ∧ t.clk.k = 0 ∧ t.clk.bndNow = true ∧ t.clk.n = secLen s.ferr ∧ t.clk.ticks = s.clk.ticks ∧
    (s.clk.applyPend = false → t.clk.sec = (s.clk.sec + 1) % 2 ^ 32) ∧
    (s.clk.applyPend = true → t.clk.sec = quant2 (s.rd (A.TIME_SET_SEC 0)) (s.rd (A.TIME_SET_SEC 1)) ∧
      t.clk.applyPend = false ∧ t.clk.utcValid = true ∧ eventBit t evTIME_APPLIED = true)) ∧
  (∀ s : State, s.boundaryDue = false ∨ s.clk.bndNow = true → exec .internalSecondBoundary s = .next s)

/-- R97, R98 (Table TIME-2): in LOCKED an edge of the image's polarity within the window is accepted: TIME_PPSERR takes its
phase error, TIME_FERR the update rule's value (with m free at a tie of the rounding, notes/assumptions/11.md), and the second
boundary is made; an edge outside the window changes no clock, counts in TIME_PPSREJ and raises PPS_REJECT. An edge of the
other polarity, or one without VIO, is not taken: only the level at the land changes. That each edge takes the land to its
other level is the model's reading (notes/assumptions/33.md). 1,500,000 ticks without an accepted edge take LOCKED to HOLDOVER
with PPS_LOST. R98 (Relock), R99, R100, R101, R112: the time commands of the host. TIME_APPLY waits for the next second boundary
and Relock starts acquiring anew, and neither changes anything else; TICK_RESTORE returns the tick to the reference once the
windows have passed for 1 ms, and has no effect before; the two reads latch the words that belong to one tick. -/
def Obligations.PpsAndTimeCommands : Prop :=
  ((∀ s : State, s.hears = true → s.lands.pps = s.ppsFalls → s.clk.pps = .locked → s.ppsEn = true → s.clk.lowdrive = false →
    (phaseErr s.clk.k s.clk.n).natAbs ≤ field (s.rd A.TIME_CTL) 7 0 → ∃ t, exec .ppsEdge s = .next t ∧
      t.rd A.TIME_PPSERR = wInt (clampI (-32767) 32767 (phaseErr s.clk.k s.clk.n)) ∧
      (∃ up, t.rd A.TIME_FERR = wInt (clampI (-4000) 4000 (ferrUpdate s.ferr (s.clk.ticks - s.clk.lastEdge) up))) ∧
      t.clk.pps = .locked ∧ t.clk.lastEdge = s.clk.ticks ∧ t.clk.usec = 0 ∧ t.clk.k = 0) ∧
  (∀ s : State, s.hears = true → s.lands.pps = s.ppsFalls → s.clk.pps = .locked → s.ppsEn = true → s.clk.lowdrive = false →
    field (s.rd A.TIME_CTL) 7 0 < (phaseErr s.clk.k s.clk.n).natAbs → ∃ t, exec .ppsEdge s = .next t ∧
      t.clk = s.clk ∧ t.rd A.TIME_PPSREJ = w16 (satU ((s.rd A.TIME_PPSREJ).toNat + 1)) ∧
      t.rd A.TIME_FERR = s.rd A.TIME_FERR ∧ eventBit t evPPS_REJECT = true) ∧
  (∀ s : State, s.lands.pps ≠ s.ppsFalls ∨ s.hears = false →
      exec .ppsEdge s = .next { s with lands := { s.lands with pps := !s.lands.pps } }) ∧
  (∀ s : State, s.clk.pps = .locked → 1500000 ≤ s.clk.ticks - s.clk.lastEdge → ∃ t, exec .ppsTimeout s = .next t ∧
      t.clk = { s.clk with pps := .holdover } ∧ eventBit t evPPS_LOST = true)) ∧
  (∀ s : State, s.up = true → s.hears = true →
    exec .timeApply s = .next { s with clk := { s.clk with applyPend := true } } ∧
    exec .relock s = .next { s with clk := { s.clk with pps := .acquire, ppsN := 0 } } ∧
    (s.clk.tickRc = true → s.clk.refOk = true → 1000 ≤ s.clk.ticks - s.clk.lastBad →
      exec .tickRestore s = .next { s with clk := { s.clk with tickRc := false } }) ∧
    (s.clk.refOk = false ∨ s.clk.ticks - s.clk.lastBad < 1000 → exec .tickRestore s = .next s) ∧
    (∃ t, exec .timeSnapshotRead s = .next t ∧
      (List.range 7).map (fun i => t.latched (A.TIME_SNAP i)) =
        [wordOf s.clk.usec 0, wordOf s.clk.usec 1, wordOf s.clk.sec 0, wordOf s.clk.sec 1, wordOf s.tb 0, wordOf s.tb 1,
          wordOf s.tb 2] ∧
      t.latched (A.TIME_TB 1) = s.latched (A.TIME_TB 1) ∧ t.latched (A.TIME_TB 2) = s.latched (A.TIME_TB 2)) ∧
    (∃ t, exec .timeTbRead s = .next t ∧ t.latched (A.TIME_TB 1) = wordOf s.tb 1 ∧ t.latched (A.TIME_TB 2) = wordOf s.tb 2 ∧
      ∀ i, i < 7 → t.latched (A.TIME_SNAP i) = s.latched (A.TIME_SNAP i)))

/-- R110 (Table TIME-6), R111, R446, R447: a monitor window writes both counts and shows whether each is in its range. A count
out of range sets its flag; a flag that goes from 0 to 1 is a clock failure: CLK_FAIL and SAFE_DEV are raised and the
device-wide reaction stands, with cause CLOCK where none stood before, and every bank is disarmed. A window with both counts
in range raises nothing and changes no flag. An unlocked PLL is a core clock failure; while its flag still stands it reacts no
second time. -/
def Obligations.ClockMonitor : Prop :=
  (∀ (s : State) (ref core : Word) (lost : Bool), s.up = true → ∃ t, exec (.monitorWindowEnd ref core lost) s = .next t ∧
    t.rd A.CLK_REFCNT = ref ∧ t.rd A.CLK_CORECNT = core ∧
    t.clk.refOk = decide (420 ≤ ref.toNat ∧ ref.toNat ≤ 540) ∧ t.clk.coreOk = decide (2100 ≤ core.toNat ∧ core.toNat ≤ 2700) ∧
    (ref.toNat < 420 ∨ 540 < ref.toNat → bit (t.rd A.CLK_FAULT) 0 = true) ∧
    (core.toNat < 2100 ∨ 2700 < core.toNat → bit (t.rd A.CLK_FAULT) 1 = true) ∧
    ((ref.toNat < 420 ∨ 540 < ref.toNat) ∧ bit (s.rd A.CLK_FAULT) 0 = false ∨
        (core.toNat < 2100 ∨ 2700 < core.toNat) ∧ bit (s.rd A.CLK_FAULT) 1 = false →
      eventBit t evCLK_FAIL = true ∧ eventBit t evSAFE_DEV = true ∧ t.safe.dev = true ∧
        (∀ b : Fin 8, t.bank[b].armed = false) ∧ (s.safe.dev = false → field (t.rd A.SAFE_CAUSE) 7 0 = causeCLOCK)) ∧
    (420 ≤ ref.toNat → ref.toNat ≤ 540 → 2100 ≤ core.toNat → core.toNat ≤ 2700 → t.rd A.CLK_FAULT = s.rd A.CLK_FAULT ∧
      t.rcd = s.rcd ∧ eventBit t evCLK_FAIL = eventBit s evCLK_FAIL ∧ t.safe = s.safe ∧ t.bank = s.bank)) ∧
  (∀ s : State, s.up = true → ∃ t, exec .pllUnlock s = .next t ∧ t.clk.pllLock = false ∧ bit (t.rd A.CLK_FAULT) 2 = true ∧
    (bit (s.rd A.CLK_FAULT) 2 = false → eventBit t evCLK_FAIL = true ∧ eventBit t evSAFE_DEV = true ∧ t.safe.dev = true ∧
      (∀ b : Fin 8, t.bank[b].armed = false) ∧ (s.safe.dev = false → field (t.rd A.SAFE_CAUSE) 7 0 = causeCLOCK)) ∧
    (bit (s.rd A.CLK_FAULT) 2 = true → t.regs = s.regs ∧ t.rcd = s.rcd ∧ t.safe = s.safe ∧ t.bank = s.bank))

/-! ### Gate drivers (06_gate_drivers.md) -/

/-- R183, R189, R214, R227: a turn-on that waits begins once the opposite gate is off, sensed low and its dead time has passed
since the turn-off; its detectors count from that instant, the bank's blanking window of PROT_BLANK opens at it, and the
opposite gate and every other half-bridge are left alone. Until then the turn-on is held. R183, R190, R191, R193: the turn-off
that waited for tGMIN of 20 ns begins when it expires and starts tHSTO, and not before; while the sense comparators run, a
gate that is sensed below VGS_OFF has completed its turn-off: tHSTO stops and, with the output stages enabled, the off clamp
engages. -/
def Obligations.GateHandshake : Prop :=
  (∀ (s : State) (at' : Fin 200) (h : Fin 72) (hi : Bool),
    (((s.hb[h]).gate (sideOf hi)).wait = true → ((s.hb[h]).gate (sideOf hi).other).on = false →
      ((s.hb[h]).gate (sideOf hi).other).sensed = false →
      ((s.hb[h]).gate (sideOf hi).other).offAt + field (s.hbReg A.GATE_DT h) 7 0 ≤ s.clkAt at' →
      ∃ t, exec (.turnOnStart at' h hi) s = .next t ∧
        ((t.hb[h]).gate (sideOf hi)).on = true ∧ ((t.hb[h]).gate (sideOf hi)).onAt = s.clkAt at' ∧
        ((t.hb[h]).gate (sideOf hi)).wait = false ∧ ((t.hb[h]).gate (sideOf hi)).sensed = true ∧
        ((t.hb[h]).gate (sideOf hi)).counts = false ∧ ((t.hb[h]).gate (sideOf hi)).armed = false ∧
        (s.clkAt at', s.clkAt at' + 2 * field (s.rd (A.PROT_BLANK (hbBank h).val)) 7 0) ∈ (t.bank[hbBank h]).blank ∧
        (t.hb[h]).gate (sideOf hi).other = (s.hb[h]).gate (sideOf hi).other ∧
        ∀ h' : Fin 72, h' ≠ h → t.hb[h'] = s.hb[h']) ∧
    ((((s.hb[h]).gate (sideOf hi).other).on = true ∨ ((s.hb[h]).gate (sideOf hi).other).sensed = true ∨
      s.clkAt at' < ((s.hb[h]).gate (sideOf hi).other).offAt + field (s.hbReg A.GATE_DT h) 7 0) →
      exec (.turnOnStart at' h hi) s = .next s)) ∧
  (∀ (s : State) (at' : Fin 200) (h : Fin 72) (hi : Bool),
    (((s.hb[h]).gate (sideOf hi)).on = true → ((s.hb[h]).gate (sideOf hi)).offPend = true →
      ((s.hb[h]).gate (sideOf hi)).onAt + 4 ≤ s.clkAt at' → ∃ t, exec (.tgminExpiry at' h hi) s = .next t ∧
        ((t.hb[h]).gate (sideOf hi)).on = false ∧ ((t.hb[h]).gate (sideOf hi)).offAt = s.clkAt at' ∧
        ((t.hb[h]).gate (sideOf hi)).hsto = true ∧ ((t.hb[h]).gate (sideOf hi)).offPend = false ∧
        (t.hb[h]).gate (sideOf hi).other = (s.hb[h]).gate (sideOf hi).other ∧
        ∀ h' : Fin 72, h' ≠ h → t.hb[h'] = s.hb[h']) ∧
    (s.clkAt at' < ((s.hb[h]).gate (sideOf hi)).onAt + 4 → exec (.tgminExpiry at' h hi) s = .next s) ∧
    (s.senseOn (hbBank h) = true → ∃ t, exec (.gateOffSensed at' h hi) s = .next t ∧
      ((t.hb[h]).gate (sideOf hi)).sensed = false ∧ ((t.hb[h]).gate (sideOf hi)).on = ((s.hb[h]).gate (sideOf hi)).on ∧
      (t.hb[h]).gate (sideOf hi).other = (s.hb[h]).gate (sideOf hi).other ∧
      (∀ h' : Fin 72, h' ≠ h → t.hb[h'] = s.hb[h']) ∧
      (((s.hb[h]).gate (sideOf hi)).on = false → ((t.hb[h]).gate (sideOf hi)).hsto = false ∧
        ((t.hb[h]).gate (sideOf hi)).fell = true ∧
        ((t.hb[h]).gate (sideOf hi)).clamp = decide ((s.bank[hbBank h]).flt ≠ .floating))) ∧
    (s.senseOn (hbBank h) = false → exec (.gateOffSensed at' h hi) s = .next s))

/-- R172, R182: when the command that Table PWM-4 selects changes, the driver of the half-bridge follows it; the other
half-bridges are left alone. A bank in pin float, or on its way in or out of it, follows no command of the other rows, and a
trip or a VDRV_b lock-out holds phase Hi-Z. R33, R204: an edge of a direct drive port input whose level lasts passes the
glitch filter and sets the level that the input commands with; a pulse shorter than 5 ns is removed. -/
def Obligations.DriverCommands : Prop :=
  (∀ (s : State) (at' : Fin 200) (h : Fin 72), ∃ t, exec (.commandChange at' h) s = .next t ∧
    (t.hb[h]).cmd = (s.select h).2 ∧ (∀ h' : Fin 72, h' ≠ h → t.hb[h'] = s.hb[h']) ∧
    ((s.bank[hbBank h]).flt = .floating → (t.hb[h]).cmd = .float) ∧
    ((s.bank[hbBank h]).flt = .entering ∨ (s.bank[hbBank h]).flt = .leaving → (t.hb[h]).cmd = .hiz) ∧
    ((s.bank[hbBank h]).flt = .driven → (s.bank[hbBank h]).trip = true ∨ (s.bank[hbBank h]).vdrvLock = true →
      (t.hb[h]).cmd = .hiz)) ∧
  (∀ (s : State) (at' : Fin 200) (i : Fin 9) (level : Bool) (width : Nat), s.hears = true →
    (10 < width → ∃ t, exec (.ddpInputEdge at' true i level width) s = .next t ∧ t.lands.ddpEn.getLsbD i.val = level ∧
      (∀ j : Fin 9, j ≠ i → t.lands.ddpEn.getLsbD j.val = s.lands.ddpEn.getLsbD j.val) ∧ t.lands.ddpPul = s.lands.ddpPul) ∧
    (10 < width → ∃ t, exec (.ddpInputEdge at' false i level width) s = .next t ∧ t.lands.ddpPul.getLsbD i.val = level ∧
      (∀ j : Fin 9, j ≠ i → t.lands.ddpPul.getLsbD j.val = s.lands.ddpPul.getLsbD j.val) ∧ t.lands.ddpEn = s.lands.ddpEn) ∧
    (width < 5 → ∀ en, exec (.ddpInputEdge at' en i level width) s = .next s))

/-- R18, R184: a pin float condition takes a driven bank out of its driven state with phase Hi-Z on its nine half-bridges;
with every gate sensed off, or 800 ns later, the output stages are disabled; 100 ns after the bank has begun to leave pin
float the driver of each half-bridge follows its command again, and not before. Without a pin float condition a bank stays as
it is. -/
def Obligations.PinFloat : Prop :=
  ∀ (s : State) (at' : Fin 200) (b : Fin 8),
    (s.floatCond b = true → (s.bank[b]).flt = .driven → ∃ t, exec (.floatEntry at' b) s = .next t ∧
      (t.bank[b]).flt = .entering ∧ (t.bank[b]).fltAt = s.clkAt at' ∧ ∀ i : Fin 9, (t.hb[hbOf b i]).cmd = .hiz) ∧
    (s.floatCond b = false → exec (.floatEntry at' b) s = .next s) ∧
    ((s.bank[b]).flt = .entering → s.gatesLow b = true ∨ (s.bank[b]).fltAt + 160 ≤ s.clkAt at' →
      ∃ t, exec (.floatOutputDisable at' b) s = .next t ∧ (t.bank[b]).flt = .floating ∧
        ∀ i : Fin 9, (t.hb[hbOf b i]).cmd = .float ∧ (t.hb[hbOf b i]).hs.on = false ∧ (t.hb[hbOf b i]).ls.on = false ∧
          (t.hb[hbOf b i]).hs.wait = false ∧ (t.hb[hbOf b i]).ls.wait = false) ∧
    ((s.bank[b]).flt = .entering → s.gatesLow b = false → s.clkAt at' < (s.bank[b]).fltAt + 160 →
      exec (.floatOutputDisable at' b) s = .next s) ∧
    ((s.bank[b]).flt = .leaving → (s.bank[b]).fltAt + 20 ≤ s.clkAt at' → ∃ t, exec (.floatExitHoldEnd at' b) s = .next t ∧
      (t.bank[b]).flt = .driven ∧ ∀ i : Fin 9, (t.hb[hbOf b i]).cmd = (t.select (hbOf b i)).2) ∧
    ((s.bank[b]).flt = .leaving → s.clkAt at' < (s.bank[b]).fltAt + 20 → exec (.floatExitHoldEnd at' b) s = .next s)

/-- R191, R192, R193, R194, R418, R422: a gate that has not fallen within tHSTO sets its GATE_STUCK flag and raises
GATE_STUCK, and none does before; a foreign rise in an owner sets its GATE_FGN flag and raises GATE_FGN, and in a bank outside
pin float it is CONTENTION: the device is in lockout, no longer owner, and every bank is disarmed. In a standby the comparator
follows the edge and nothing is reported. -/
def Obligations.GateFaults : Prop :=
  ∀ (s : State) (at' : Fin 200) (h : Fin 72) (hi : Bool),
    (s.senseOn (hbBank h) = true → ((s.hb[h]).gate (sideOf hi)).hsto = true → ((s.hb[h]).gate (sideOf hi)).on = false →
      ((s.hb[h]).gate (sideOf hi)).offAt + s.thsto (hbBank h) ≤ s.clkAt at' → ∃ t, exec (.gateStuck at' h hi) s = .next t ∧
        bit (t.rd (A.GATE_FLT (hbBank h).val (hbIn h).val)) (if hi then 0 else 1) = true ∧
        eventBit t (evGATE_STUCK (hbBank h)) = true) ∧
    (((s.hb[h]).gate (sideOf hi)).hsto = false ∨ s.clkAt at' < ((s.hb[h]).gate (sideOf hi)).offAt + s.thsto (hbBank h) →
      exec (.gateStuck at' h hi) s = .next s) ∧
    (s.senseOn (hbBank h) = true → ((s.hb[h]).gate (sideOf hi)).fell = true → ((s.hb[h]).gate (sideOf hi)).on = false →
      (s.pair.owner = true → ∃ t, exec (.gateFgn at' h hi) s = .next t ∧
        bit (t.rd (A.GATE_FLT (hbBank h).val (hbIn h).val)) (if hi then 3 else 4) = true ∧
        eventBit t (evGATE_FGN (hbBank h)) = true ∧
        ((s.bank[hbBank h]).flt ≠ .floating → eventBit t evCONTENTION = true ∧ t.pair.lockout = true ∧
          t.pair.owner = false ∧ ∀ b : Fin 8, (t.bank[b]).armed = false)) ∧
      (s.pair.owner = false → ∃ t, exec (.gateFgn at' h hi) s = .next t ∧ ((t.hb[h]).gate (sideOf hi)).sensed = true ∧
        ((t.hb[h]).gate (sideOf hi)).fell = false ∧ t.regs = s.regs ∧ t.rcd = s.rcd ∧ t.bank = s.bank)) ∧
    (s.senseOn (hbBank h) = false ∨ ((s.hb[h]).gate (sideOf hi)).fell = false ∨ ((s.hb[h]).gate (sideOf hi)).on = true →
      exec (.gateFgn at' h hi) s = .next s)

/-- R199, R200: an armed VDRV_b lock-out trips below the threshold: vdrv_ok reads 0, vdrv_uv is set, GATE_UV is raised and the
nine half-bridges of a driven bank take phase Hi-Z; a supply that has not risen yet trips nothing. R201: the VCP_b lock-out of
a bank in charge-pump mode, and of no other. R199, R202, R203: a supply above its rising threshold reads ok and arms its
lock-out; a legal write of 1 releases a lock-out whose supply has risen and leaves one whose supply has not; a bootstrap
supply that falls turns a HIGH into phase Hi-Z (over the states whose role table lists a half-bridge with the axis it gives
it). -/
def Obligations.GateSupplyMonitors : Prop :=
  (∀ (s : State) (at' : Fin 200) (b : Fin 8),
    (s.senseOn b = true → (s.bank[b]).vdrvSeen = true → (s.bank[b]).vdrvLock = false → (s.bank[b]).hold = none →
      ∃ t, exec (.vdrvUv at' b) s = .next t ∧ (t.bank[b]).vdrvOk = false ∧ (t.bank[b]).vdrvLock = true ∧
        bit (t.rd (A.GSUP_FLT b.val)) 0 = true ∧ eventBit t (evGATE_UV b) = true ∧
        ((s.bank[b]).flt = .driven → ∀ i : Fin 9, (t.hb[hbOf b i]).cmd = .hiz)) ∧
    (s.senseOn b = true → (s.bank[b]).vdrvSeen = false →
      exec (.vdrvUv at' b) s = .next (s.modBank b (fun k => { k with vdrvOk := false }))) ∧
    (s.senseOn b = true → s.cpBank b = true → (s.bank[b]).vcpSeen = true → (s.bank[b]).vcpLock = false →
      ∃ t, exec (.vcpUv at' b) s = .next t ∧ (t.bank[b]).vcpOk = false ∧ (t.bank[b]).vcpLock = true ∧
        bit (t.rd (A.GSUP_FLT b.val)) 1 = true ∧ eventBit t (evGATE_UV b) = true) ∧
    (s.cpBank b = false → exec (.vcpUv at' b) s = .next s)) ∧
  ((∀ (s : State) (i : Fin 72), s.senseOn (hbBank i) = true →
    exec (.supplyRise 2 i) s = .next (s.modHb i (fun x => { x with bst := true }))) ∧
  (∀ (s : State) (b : Fin 8), s.senseOn b = true →
    exec (.supplyRise 0 ⟨b.val, by omega⟩) s = .next (s.modBank b (fun k => { k with vdrvOk := true, vdrvSeen := true })) ∧
    (s.cpBank b = true →
      exec (.supplyRise 1 ⟨b.val, by omega⟩) s = .next (s.modBank b (fun k => { k with vcpOk := true, vcpSeen := true })))) ∧
  (∀ (s : State) (b : Fin 8) (d : Word), s.up = true → s.hears = true → s.dom b.val = true →
    s.legal (A.GSUP_FLT b.val) d = true → ∃ t, exec (.gsupFltClear b d) s = .next t ∧
      (bit d 0 = true → bit (s.freshAt (A.GSUP_FLT b.val)) 0 = false → (s.bank[b]).vdrvOk = true →
        (t.bank[b]).vdrvLock = false ∧ bit (t.rd (A.GSUP_FLT b.val)) 0 = false) ∧
      ((s.bank[b]).vdrvOk = false → bit (t.rd (A.GSUP_FLT b.val)) 0 = bit (s.rd (A.GSUP_FLT b.val)) 0 ∧
        (bit (s.rd (A.GSUP_FLT b.val)) 0 = true → (t.bank[b]).vdrvLock = (s.bank[b]).vdrvLock)) ∧
      (bit d 1 = true → bit (s.freshAt (A.GSUP_FLT b.val)) 1 = false → (s.bank[b]).vcpOk = true →
        (t.bank[b]).vcpLock = false ∧ bit (t.rd (A.GSUP_FLT b.val)) 1 = false) ∧
      ((s.bank[b]).vcpOk = false → bit (t.rd (A.GSUP_FLT b.val)) 1 = bit (s.rd (A.GSUP_FLT b.val)) 1 ∧
        (bit (s.rd (A.GSUP_FLT b.val)) 1 = true → (t.bank[b]).vcpLock = (s.bank[b]).vcpLock))) ∧
  (∀ (s : State) (at' : Fin 200) (h : Fin 72), s.senseOn (hbBank h) = true → (s.hb[h]).bst = true →
    (∀ a r, s.hbAxis h = some (a, r) → h ∈ s.axHbs a) →
    ∃ t, exec (.bstUv at' h) s = .next t ∧ (t.hb[h]).bst = false ∧ (t.hb[h]).cmd ≠ .high ∧
      ((s.select h).2 = .high → (t.hb[h]).cmd = .hiz)))

/-! ### Power stage protection (07_power_stage_protection.md) -/

/-- R215, R216, R217: the blanking time passed, the desaturation comparator counts; 200 ns after the turn-on start the
hard-short comparator is armed; a plateau that is reached stops the plateau timer. The other gate of the half-bridge is left
alone. R215 to R219: a detector that trips on a switch that is driven on sets its flag and `first` in PROT_CHFLT_i, raises
PS_SHORT and turns the switch off at once. -/
def Obligations.ShortCircuitDetectors : Prop :=
  (∀ (s : State) (at' : Fin 200) (h : Fin 72) (hi : Bool), ((s.hb[h]).gate (sideOf hi)).on = true →
    (((s.hb[h]).gate (sideOf hi)).onAt + ((s.hb[h]).gate (sideOf hi)).tdsbl ≤ s.clkAt at' →
      ∃ t, exec (.dsblExpiry at' h hi) s = .next t ∧
        (t.hb[h]).gate (sideOf hi) = { (s.hb[h]).gate (sideOf hi) with counts := true } ∧
        (t.hb[h]).gate (sideOf hi).other = (s.hb[h]).gate (sideOf hi).other) ∧
    (((s.hb[h]).gate (sideOf hi)).onAt + 40 ≤ s.clkAt at' → ∃ t, exec (.hardShortArm at' h hi) s = .next t ∧
        (t.hb[h]).gate (sideOf hi) = { (s.hb[h]).gate (sideOf hi) with armed := true } ∧
        (t.hb[h]).gate (sideOf hi).other = (s.hb[h]).gate (sideOf hi).other) ∧
    (∃ t, exec (.gatePlateauReached h hi) s = .next t ∧
        (t.hb[h]).gate (sideOf hi) = { (s.hb[h]).gate (sideOf hi) with plateau := true } ∧
        (t.hb[h]).gate (sideOf hi).other = (s.hb[h]).gate (sideOf hi).other)) ∧
  (∀ (s : State) (at' : Fin 200) (h : Fin 72) (hi : Bool) (c : Instr) (k : Nat),
    ((s.hb[h]).gate (sideOf hi)).on = true →
    (c = .desat at' h hi ∧ k = 0 ∧ ((s.hb[h]).gate (sideOf hi)).counts = true ∧
        ((s.hb[h]).gate (sideOf hi)).onAt + ((s.hb[h]).gate (sideOf hi)).tdsbl + ((s.hb[h]).gate (sideOf hi)).tdsdg ≤ s.clkAt at') ∨
      (c = .hardShort at' h hi ∧ k = 1 ∧ ((s.hb[h]).gate (sideOf hi)).armed = true ∧
        ((s.hb[h]).gate (sideOf hi)).onAt + 48 ≤ s.clkAt at') ∨
      (c = .plateau at' h hi ∧ k = 2 ∧ ((s.hb[h]).gate (sideOf hi)).plateau = false ∧
        ((s.hb[h]).gate (sideOf hi)).onAt + ((s.hb[h]).gate (sideOf hi)).tplat ≤ s.clkAt at') →
    ∃ t, exec c s = .next t ∧ bit (t.rd (A.PROT_CHFLT (hbBank h).val (hbIn h).val)) (2 * k + b2n hi) = true ∧
      (field (s.rd (A.PROT_CHFLT (hbBank h).val (hbIn h).val)) 5 0 = 0 →
        field (t.rd (A.PROT_CHFLT (hbBank h).val (hbIn h).val)) 14 12 = k + 1 ∧
        bit (t.rd (A.PROT_CHFLT (hbBank h).val (hbIn h).val)) 11 = hi) ∧
      eventBit t (evPS_SHORT (hbBank h)) = true ∧ ((t.hb[h]).gate (sideOf hi)).on = false ∧
      ((t.hb[h]).gate (sideOf hi)).offAt = s.clkAt at' ∧ ((t.hb[h]).gate (sideOf hi)).soft = true)

/-- R224, R225: a legal write to PROT_CHFLT_i clears the flags written as 1 but those set in this tick; `first` reads 000 once
[5:0] are clear; the fault reaction of a half-bridge, and of an axis, with no fault flag left is released. Over-temperature
and R224, R226, R229: the OTS comparator sets its flag, raises BANK_TRIP and holds the bank; a legal write of 1 to a flag of
PROT_BFLT, but in the tick that set it, clears the flag, and the reactions of trip, vov2 and ots end once their flag is clear
and their condition has ended, and neither before that. -/
def Obligations.ProtectionFlags : Prop :=
  (∀ (s : State) (b : Fin 8) (i : Fin 9) (d : Word), s.up = true → s.hears = true → s.dom b.val = true →
    s.legal (A.PROT_CHFLT b.val i.val) d = true → ∃ t, exec (.protChfltClear b i d) s = .next t ∧
      (∀ k, k < 6 → bit (t.rd (A.PROT_CHFLT b.val i.val)) k =
        (bit (s.rd (A.PROT_CHFLT b.val i.val)) k && !(bit d k && !bit (s.freshAt (A.PROT_CHFLT b.val i.val)) k))) ∧
      (field (t.rd (A.PROT_CHFLT b.val i.val)) 5 0 = 0 → field (t.rd (A.PROT_CHFLT b.val i.val)) 14 12 = 0 ∧
        (field (t.rd (A.GATE_FLT b.val i.val)) 1 0 = 0 → (t.hb[hbOf b i]).loc = false)) ∧
      ∀ a ∈ axesOf b, (∀ h ∈ s.axHbs a, t.anyFault h = false) → (t.ax[a]).react = .none) ∧
  ((∀ (s : State) (at' : Fin 200) (b : Fin 8), s.senseOn b = true → (s.bank[b]).ots = false →
    ∃ t, exec (.ots at' b) s = .next t ∧ (t.bank[b]).ots = true ∧ bit (t.rd (A.PROT_BFLT b.val)) 3 = true ∧
      eventBit t (evBANK_TRIP b) = true) ∧
  (∀ (s : State) (b : Fin 8) (d : Word), s.up = true → s.hears = true → s.dom b.val = true →
    s.legal (A.PROT_BFLT b.val) d = true → ∃ t, exec (.protBfltClear b d) s = .next t ∧
      (∀ k, k < 6 → bit (t.rd (A.PROT_BFLT b.val)) k =
        (bit (s.rd (A.PROT_BFLT b.val)) k && !(bit d k && !bit (s.freshAt (A.PROT_BFLT b.val)) k))) ∧
      (t.bank[b]).trip = ((s.bank[b]).trip && (bit (t.rd (A.PROT_BFLT b.val)) 1 || (s.bank[b]).tripIn)) ∧
      (t.bank[b]).vov2 = ((s.bank[b]).vov2 && (bit (t.rd (A.PROT_BFLT b.val)) 2 || !(s.bank[b]).vmLow)) ∧
      (bit (t.rd (A.PROT_BFLT b.val)) 3 = true → (t.bank[b]).ots = (s.bank[b]).ots) ∧
      (bit (t.rd (A.PROT_BFLT b.val)) 3 = false → sInt (s.rd (A.PROT_TEMP b.val)) < 131 * 8 → (t.bank[b]).ots = false)))

/-- R226, R227: TRIP_b recognised after its filter and outside every blanking window sets the trip flag, raises BANK_TRIP and
puts the nine half-bridges of a driven bank into phase Hi-Z; when it falls the reaction ends, unless the latch keeps it. R232,
R384: a low pulse on ESTOP_N longer than 500 ns raises ESTOP, disarms every bank and holds each in its safe state; one shorter
than 300 ns is removed; the release lifts the cause and arms nothing. While the inputs are not heard nothing changes. -/
def Obligations.TripAndEmergencyStop : Prop :=
  (∀ (s : State) (at' : Fin 200) (b : Fin 8) (high : Nat),
    (s.hears = true → s.senseOn b = true → (s.bank[b]).tripIn = false →
      (s.bank[b]).judgeFrom (s.clkAt at' - high) + 2 * field (s.rd (A.PROT_TRIPCFG b.val)) 5 0 ≤ s.clkAt at' →
      ∃ t, exec (.tripRecognised at' b high) s = .next t ∧ (t.bank[b]).tripIn = true ∧ (t.bank[b]).trip = true ∧
        bit (t.rd (A.PROT_BFLT b.val)) 1 = true ∧ eventBit t (evBANK_TRIP b) = true ∧
        ((s.bank[b]).flt = .driven → ∀ i : Fin 9, (t.hb[hbOf b i]).cmd = .hiz)) ∧
    (s.clkAt at' < (s.bank[b]).judgeFrom (s.clkAt at' - high) + 2 * field (s.rd (A.PROT_TRIPCFG b.val)) 5 0 →
      exec (.tripRecognised at' b high) s = .next s) ∧
    (s.hears = true → bit (s.rd (A.PROT_TRIPCFG b.val)) 8 = false ∨ bit (s.rd (A.PROT_BFLT b.val)) 1 = false →
      ∃ t, exec (.tripRelease b) s = .next t ∧ (t.bank[b]).tripIn = false ∧ (t.bank[b]).trip = false) ∧
    (s.hears = true → bit (s.rd (A.PROT_TRIPCFG b.val)) 8 = true → bit (s.rd (A.PROT_BFLT b.val)) 1 = true →
      exec (.tripRelease b) s = .next (s.modBank b (fun k => { k with tripIn := false })))) ∧
  ((∀ (s : State) (at' : Fin 200) (width : Nat), s.hears = true → s.up = true → s.safe.estop = false → 500 < width →
    ∃ t, exec (.estop at' width) s = .next t ∧ t.safe.estop = true ∧ eventBit t evESTOP = true ∧
      ∀ b : Fin 8, (t.bank[b]).armed = false ∧ (t.bank[b]).estop = true) ∧
  (∀ (s : State) (at' : Fin 200) (width : Nat), width < 300 → exec (.estop at' width) s = .next s) ∧
  (∀ s : State, s.hears = true → s.safe.estop = true → ∃ t, exec .estopRelease s = .next t ∧ t.safe.estop = false ∧
    ∀ b : Fin 8, (t.bank[b]).estop = false ∧ ((s.bank[b]).armed = false → (t.bank[b]).armed = false))) ∧
  (∀ s : State, s.hears = false → exec .estopRelease s = .next s ∧ (∀ b, exec (.tripRelease b) s = .next s) ∧
    (∀ at' b high, exec (.tripRecognised at' b high) s = .next s) ∧ ∀ at' width, exec (.estop at' width) s = .next s)

/-- R227: the end of a blanking window changes no judgement of an assertion: an assertion that begins in one of the windows is
judged from its end on, as before. R228: the cycle-by-cycle limit takes a half-bridge that row 5 or a running timer commands
to LOW or to phase Hi-Z, as AXCFG says; it counts, and the first of a clear flag sets the bank's and the half-bridge's flags
and raises PROT_WARN. A half-bridge that a row above commands, and one whose limit is off, is left alone. -/
def Obligations.CurrentLimit : Prop :=
  (∀ (s : State) (at' : Fin 200) (b : Fin 8), ∃ t, exec (.blankWindowEnd at' b) s = .next t ∧
    (∀ f : Nat, s.clkAt at' ≤ f + 1024 → (t.bank[b]).judgeFrom f = (s.bank[b]).judgeFrom f) ∧
    ∀ p ∈ (t.bank[b]).blank, p ∈ (s.bank[b]).blank) ∧
  (∀ (s : State) (at' : Fin 200) (h : Fin 72) (high : Nat) (a : Fin 24) (r : Fin 3),
    s.hbAxis h = some (a, r) → s.dom (hbBank h).val = true → (s.hb[h]).limit = none →
    field (s.hbReg A.PROT_ILIM h) 7 0 ≠ 0 → (s.select h).1 = 5 ∨ 5 < (s.select h).1 ∧ (s.tim[a]).run = true →
    (s.bank[hbBank h]).judgeFrom (s.clkAt at' - high) ≤ s.clkAt at' →
    (field (s.rd (A.PROT_AXCFG (hbBank h).val (axSlot a).val)) 1 0 = 1 ∨
      field (s.rd (A.PROT_AXCFG (hbBank h).val (axSlot a).val)) 1 0 = 2) →
    ∃ t, exec (.currentLimitTrip at' h high) s = .next t ∧
      (t.hb[h]).limit =
        some (if field (s.rd (A.PROT_AXCFG (hbBank h).val (axSlot a).val)) 1 0 = 1 then .low else .hiz) ∧
      some (t.hb[h]).cmd = (t.hb[h]).limit ∧
      t.rd (A.PROT_ILIMCNT (hbBank h).val) = w16 (satU ((s.rd (A.PROT_ILIMCNT (hbBank h).val)).toNat + 1)) ∧
      bit (t.rd (A.PROT_BFLT (hbBank h).val)) 0 = true ∧
      (bit (s.rd (A.PROT_BFLT (hbBank h).val)) 0 = false →
        bit (t.rd (A.PROT_CHFLT (hbBank h).val (hbIn h).val)) 8 = true ∧ eventBit t (evPROT_WARN (hbBank h)) = true)) ∧
  (∀ (s : State) (at' : Fin 200) (h : Fin 72) (high : Nat),
    (s.select h).1 < 5 ∨ field (s.hbReg A.PROT_ILIM h) 7 0 = 0 ∨ (s.hb[h]).limit.isSome = true →
      exec (.currentLimitTrip at' h high) s = .next s)

/-- R229, R230, R231: VOV1 turns the chopper on and off; VOV2 sets its flag, raises BANK_TRIP and takes the vov2 reaction; a
chopper on outside pin float for longer than PROT_CHOPMAX sets chop_long and raises PROT_WARN, and none does before. -/
def Obligations.OverVoltageAndChopper : Prop :=
  ∀ (s : State) (at' : Fin 200) (b : Fin 8),
    (s.senseOn b = true → ∃ t, exec (.chopperOn at' b) s = .next t ∧ (t.bank[b]).vov1 = true ∧ (t.bank[b]).chop = true) ∧
    (s.senseOn b = true → ∃ t, exec (.chopperOff at' b) s = .next t ∧ (t.bank[b]).vov1 = false ∧ (t.bank[b]).chop = false ∧
      (bit (s.rd (A.PROT_BFLT b.val)) 2 = false → (t.bank[b]).vov2 = false)) ∧
    (s.senseOn b = true → (s.bank[b]).vov2 = false ∨ bit (s.rd (A.PROT_BFLT b.val)) 2 = false →
      ∃ t, exec (.vov2 at' b) s = .next t ∧ (t.bank[b]).vov2 = true ∧ (t.bank[b]).vmLow = false ∧
        bit (t.rd (A.PROT_BFLT b.val)) 2 = true ∧ eventBit t (evBANK_TRIP b) = true) ∧
    ((s.bank[b]).chop = true → (s.bank[b]).flt ≠ .floating → (s.bank[b]).chopLong = false →
      field (s.rd (A.PROT_CHOPMAX b.val)) 7 0 ≠ 0 →
      1000 * field (s.rd (A.PROT_CHOPMAX b.val)) 7 0 < s.clk.ticks - (s.bank[b]).chopAt →
      ∃ t, exec (.chopLong b) s = .next t ∧ (t.bank[b]).chopLong = true ∧ bit (t.rd (A.PROT_BFLT b.val)) 5 = true ∧
        eventBit t (evPROT_WARN b) = true) ∧
    (s.clk.ticks - (s.bank[b]).chopAt ≤ 1000 * field (s.rd (A.PROT_CHOPMAX b.val)) 7 0 → exec (.chopLong b) s = .next s)

/-! ### Functional safety (15_safety.md) -/

/-- R446, R447, R449, R450: a supervisor mismatch and a scrub failure take the device-wide reaction: SAFE_STAT.dev, SAFE_DEV,
the cause and its detail when none stood before, and every bank disarmed. A scrub pass counts, and a good one changes nothing
else; a mismatch in the block of a bank whose bank image is being staged does not react (Table IMG-10). R447 (Table SAFE-4):
the clear ends the device-wide reaction when the condition of its cause holds and no detection is fresh; before that it has no
effect. It arms no bank. -/
def Obligations.DeviceWideReaction : Prop :=
  ((∀ (s : State) (at' : Fin 200) (group : Word), s.up = true → ∃ t, exec (.supervisorMismatch at' group) s = .next t ∧
    t.safe.dev = true ∧ eventBit t evSAFE_DEV = true ∧ (∀ b : Fin 8, (t.bank[b]).armed = false) ∧
    (s.safe.dev = false → field (t.rd A.SAFE_CAUSE) 7 0 = causeSUPERVISOR ∧ t.rd A.SAFE_DETAIL = group)) ∧
  (∀ (s : State) (at' : Fin 200) (a : Word), s.up = true → s.img.active.isSome = true →
    exec (.scrubPass at' true a) s = .next (s.wrapInc A.SAFE_SCRUBCNT) ∧
    (s.scrubOff a.toNat = true → exec (.scrubPass at' false a) s = .next (s.wrapInc A.SAFE_SCRUBCNT)) ∧
    (s.scrubOff a.toNat = false → ∃ t, exec (.scrubPass at' false a) s = .next t ∧
      t.rd A.SAFE_SCRUBCNT = s.rd A.SAFE_SCRUBCNT + 1 ∧ t.safe.dev = true ∧ eventBit t evSAFE_DEV = true ∧
      (∀ b : Fin 8, (t.bank[b]).armed = false) ∧
      (s.safe.dev = false → field (t.rd A.SAFE_CAUSE) 7 0 = causeSCRUB ∧
        t.rd A.SAFE_DETAIL = w16 (blockBase a.toNat))))) ∧
  (∀ s : State, s.up = true → s.hears = true →
    (s.safe.dev = true → s.clearable = true → (∀ n, s.safe.lastAt = some n → n + 2 ≤ s.clk.ticks) →
      ∃ t, exec .safeClr s = .next t ∧ t.safe.dev = false ∧ ∀ b : Fin 8, (t.bank[b]).dev = false ∧
        ((s.bank[b]).armed = false → (t.bank[b]).armed = false)) ∧
    (s.clearable = false → exec .safeClr s = .next s) ∧
    (∀ n, s.safe.lastAt = some n → s.clk.ticks < n + 2 → exec .safeClr s = .next s))

/-- R451, R361: a corrected single-bit error counts and raises RAM_SEC; a double-bit error in a record empties its slot, one
in a RAM of the device-wide class takes the device-wide reaction with cause RAM. R22, R455: SAFE_WDCFG starts the watchdog
and, whatever is written, has no effect while it runs; a service with the expected value inside the window is accepted and
expects the other value next; a wrong value or an early one, and a missed service, raise WDOG and take the device-wide
reaction. -/
def Obligations.RamErrorsAndWatchdog : Prop :=
  (∀ (s : State) (at' : Fin 200) (inst : Byte) (a : Word), s.up = true → ramInst inst.toNat = true →
    (∃ t, exec (.ramSec at' inst a false) s = .next t ∧
      t.rd A.SAFE_RAMSEC = w16 (satU ((s.rd A.SAFE_RAMSEC).toNat + 1)) ∧ eventBit t evRAM_SEC = true ∧ t.safe = s.safe) ∧
    (inst.toNat = 4 → ∃ t, exec (.ramSec at' inst a true) s = .next t ∧ t.rcd.at (ramSlot a.toNat) = none ∧
      (∀ n, n ≠ ramSlot a.toNat → t.rcd.at n = s.rcd.at n) ∧ t.safe = s.safe) ∧
    (inst.toNat < 4 ∨ 16 ≤ inst.toNat → ∃ t, exec (.ramSec at' inst a true) s = .next t ∧ t.safe.dev = true ∧
      eventBit t evSAFE_DEV = true ∧ (∀ b : Fin 8, (t.bank[b]).armed = false) ∧
      (s.safe.dev = false → field (t.rd A.SAFE_CAUSE) 7 0 = causeRAM ∧ t.rd A.SAFE_DETAIL = w16 inst.toNat))) ∧
  ((∀ (s : State) (d : Word), s.up = true → s.hears = true →
    (s.safe.wdRun = true → exec (.watchdogEnable d) s = .next s) ∧
    (s.safe.wdRun = false → s.legal A.SAFE_WDCFG d = true → (∀ l ∈ s.limits, l.addr ≠ A.SAFE_WDCFG) → bit d 15 = true →
      ∃ t, exec (.watchdogEnable d) s = .next t ∧ t.rd A.SAFE_WDCFG = d ∧
        t.safe.wdRun = true ∧ t.safe.wdAt = s.clk.ticks ∧ t.safe.wdNext = false)) ∧
  (∀ (s : State) (at' : Fin 200) (d : Word), s.up = true → s.hears = true → s.safe.wdRun = true →
    (d = (if s.safe.wdNext then 0x005C else 0x00A3) → s.wdMin ≤ s.wdElapsed → s.wdElapsed ≤ s.wdMax →
      ∃ t, exec (.watchdogKick at' d) s = .next t ∧
        t = { s with
          safe := { s.safe with wdAt := s.clk.ticks, wdNext := !s.safe.wdNext, wdServed := true, wdLate := false } }) ∧
    (d ≠ (if s.safe.wdNext then 0x005C else 0x00A3) ∨ s.wdElapsed < s.wdMin →
      ∃ t, exec (.watchdogKick at' d) s = .next t ∧ eventBit t evWDOG = true ∧ t.safe.dev = true ∧
        ∀ b : Fin 8, (t.bank[b]).armed = false)) ∧
  (∀ (s : State) (at' : Fin 200), s.up = true → s.safe.wdRun = true → s.safe.wdLate = false → s.wdMax < s.wdElapsed →
    ∃ t, exec (.wdogLate at') s = .next t ∧ t.safe.wdLate = true ∧ eventBit t evWDOG = true ∧ t.safe.dev = true ∧
      ∀ b : Fin 8, (t.bank[b]).armed = false))

/-- R452: a phase-current sum out of its bound for 1 ms sets the axis' flag, raises SAFE_DEV, stops the axis and holds it in
its safe state; a legal write of 1 to the flag, but in the tick that set it, releases the axis. R454: five missing check
frames of a driver die raise SAFE_DEV and disarm and hold its two banks; 1 ms of good frames lifts the cause and arms nothing.
-/
def Obligations.PlausibilityAndDieLink : Prop :=
  ((∀ (s : State) (at' : Fin 200) (a : Fin 24) (n : Nat), s.ax[a].plAt = some n → 1000 ≤ s.clk.ticks - n →
    ∃ t, exec (.plausTrip at' a) s = .next t ∧ bit (t.rd (plfltAddr a)) (plfltBit a) = true ∧
      eventBit t evSAFE_DEV = true ∧ t.ax[a].plaus = true ∧ t.ax[a].st = .stopped) ∧
  (∀ (s : State) (hi : Bool) (d : Word) (a : Fin 24), s.up = true → s.hears = true → decide (16 ≤ a.val) = hi →
    s.legal (if hi then A.SAFE_PLFLT_HI else A.SAFE_PLFLT_LO) d = true → bit d (plfltBit a) = true →
    bit (s.freshAt (plfltAddr a)) (plfltBit a) = false →
    ∃ t, exec (.safePlfltClear hi d) s = .next t ∧ bit (t.rd (plfltAddr a)) (plfltBit a) = false ∧ t.ax[a].plaus = false)) ∧
  (∀ (s : State) (k : Fin 4), s.up = true →
    (∀ at' : Fin 200, s.safe.dieOk.getLsbD k.val = true → ∃ t, exec (.dieLinkLoss at' k) s = .next t ∧
      t.safe.dieOk.getLsbD k.val = false ∧ eventBit t evSAFE_DEV = true ∧
      ∀ b ∈ dieBanks k, (t.bank[b]).die = true ∧ (t.bank[b]).armed = false) ∧
    (∃ t, exec (.dieLinkRestore k) s = .next t ∧ t.safe.dieOk.getLsbD k.val = true ∧
      ∀ b ∈ dieBanks k, (t.bank[b]).die = false ∧ ((s.bank[b]).armed = false → (t.bank[b]).armed = false)))

/-- R457, R458 (Table SAFE-3): 0x00A5 prepares; 0x005A within 10 ms arms the bank when every interlock allows it, and
otherwise reports the refusal with the bank's arming unchanged; 0x0000 disarms and reports. R22, R432: on a synchronised
standby the three writes have no effect. R462: the end of the start-up tests decides SAFE_STAT.mech, once. -/
def Obligations.ArmingABank : Prop :=
  (∀ (s : State) (b : Fin 8), s.up = true → s.hears = true → s.armDead = false →
    exec (.armPrepare b) s = .next (s.modBank b (fun k => { k with prep := some s.clk.ticks })) ∧
    (∀ (at' : Fin 200) (n : Nat), s.img.active.isSome = true → s.dom b.val = true → s.pwr.st = .main →
      (s.bank[b]).vdrvOk = true → (s.bank[b]).vdrvLock = false →
      (s.cpBank b = true → (s.bank[b]).vcpOk = true ∧ (s.bank[b]).vcpLock = false) → s.safe.estop = false →
      s.safe.dev = false → s.safe.wdRun = true → s.safe.mech = .passed → s.safe.dieOk.getLsbD (bankDie b).val = true →
      (s.bank[b]).convFlt = false → (s.bank[b]).prep = some n → s.clk.ticks - n ≤ 10000 →
      ∃ t, exec (.armComplete at' b) s = .next t ∧ (t.bank[b]).armed = true ∧ (t.bank[b]).cause = 0 ∧
        (t.bank[b]).prep = none ∧ eventBit t (evBANK_CFG b) = true) ∧
    (∀ at' : Fin 200, s.armRefusal b ≠ 0 → ∃ t, exec (.armComplete at' b) s = .next t ∧
      (t.bank[b]).armed = (s.bank[b]).armed ∧ (t.bank[b]).cause = s.armRefusal b ∧ (t.bank[b]).prep = none ∧
      eventBit t (evBANK_CFG b) = true) ∧
    (∀ at' : Fin 200, ∃ t, exec (.disarm at' b) s = .next t ∧ (t.bank[b]).armed = false ∧ (t.bank[b]).cause = 1 ∧
      (t.bank[b]).prep = none ∧ eventBit t (evBANK_CFG b) = true)) ∧
  (∀ (s : State) (b : Fin 8) (at' : Fin 200), s.armDead = true → exec (.armPrepare b) s = .next s ∧
    exec (.armComplete at' b) s = .next s ∧ exec (.disarm at' b) s = .next s) ∧
  (∀ (s : State) (failed : BitVec 5), s.up = true →
    (s.safe.mech = .testing → exec (.startupTestDone failed) s =
      .next { s with safe := { s.safe with mech := if failed = 0 then .passed else .failed } }) ∧
    (s.safe.mech ≠ .testing → exec (.startupTestDone failed) s = .next s))

/-- R457, R18: no command but a write to BANK_ARM, and a MIRROR frame that a standby applies, arms a bank: every other command
leaves each disarmed bank disarmed. The commands through which a write to BANK_ARM can come are those of the host link and the
row ARM_COMPLETE; the result of a host error arms no bank either (notes/assumptions/25.md). -/
def Obligations.OnlyArmingArms : Prop :=
  ∀ (i : Instr) (s t : State), exec i s = .next t → functionOf i ≠ .hostLink → (∀ at' b, i ≠ .armComplete at' b) →
    (∀ at' good start f, i ≠ .mirrorReceived at' good start f) →
    ∀ b : Fin 8, (s.bank[b]).armed = false → (t.bank[b]).armed = false

/-! ### PWM timers (05_pwm_timers.md) -/

/-- R157, R158, R160: a legal LOAD_ALL word arms each timer it names whose domain is on: its stage takes the timer's shadow
words at that instant, and a stage that was armed already is replaced, counted and reported. It touches no other timer. R162:
in a PWM_RUN word that no LIMITS entry bounds, a bit set to 1 starts the timer 4 PWM clocks later or cancels its stop, one set
to 0 stops it at its next wrap or cancels a start edge to come; a bit written with the value it has, and a timer whose domain
is off, change nothing in the timer. -/
def Obligations.ArmAndRunTimers : Prop :=
  (∀ (s : State) (at' : Fin 200) (hi : Bool) (d : Word), s.up = true → s.hears = true →
    s.legal (if hi then A.PWM_LOADALL_HI else A.PWM_LOADALL_LO) d = true → ∃ t, exec (.loadAll at' hi d) s = .next t ∧
    (∀ k : Fin 24, k ∉ wordTimers hi d → t.tim[k] = s.tim[k]) ∧
    (∀ k : Fin 24, k ∈ wordTimers hi d → s.timOn k = true →
      t.tim[k] = { s.tim[k] with stage := some ⟨s.clkAt at', s.shadows k, !srcAxis (s.tim[k]).act⟩ } ∧
      ((s.tim[k]).stage.isSome = true → eventBit t (evARM_REPLACED (axBank k)) = true ∧
        t.rd (timAddr k 0x12) = w16 (satU ((s.rd (timAddr k 0x12)).toNat + 1)))) ∧
    (∀ k : Fin 24, s.timOn k = false → t.tim[k] = s.tim[k])) ∧
  (∀ (s : State) (at' : Fin 200) (k : Fin 24), s.up = true → s.hears = true → (∀ l ∈ s.limits, l.addr ≠ runAddr k) →
    (s.legal (runAddr k) (s.runWordWith k true) = true → ∃ t, exec (.timerStart at' k) s = .next t ∧ t.runSet k = true ∧
      (∀ k' : Fin 24, k' ≠ k → t.runSet k' = s.runSet k') ∧
      (s.runSet k = true → t.tim = s.tim) ∧ (s.timOn k = false → t.tim = s.tim) ∧
      (s.runSet k = false → s.timOn k = true → (s.tim[k]).run = false →
        t.tim[k] = { s.tim[k] with startAt := some (s.clkAt at' + 4) }) ∧
      (s.runSet k = false → s.timOn k = true → (s.tim[k]).run = true → t.tim[k] = { s.tim[k] with stopping := false })) ∧
    (s.legal (runAddr k) (s.runWordWith k false) = true → ∃ t, exec (.timerStop at' k) s = .next t ∧ t.runSet k = false ∧
      (∀ k' : Fin 24, k' ≠ k → t.runSet k' = s.runSet k') ∧
      (s.runSet k = false → t.tim = s.tim) ∧ (s.timOn k = false → t.tim = s.tim) ∧
      (s.runSet k = true → s.timOn k = true → (s.tim[k]).run = false → t.tim[k] = { s.tim[k] with startAt := none }) ∧
      (s.runSet k = true → s.timOn k = true → (s.tim[k]).run = true → t.tim[k] = { s.tim[k] with stopping := true })))

/-- R153, R159, R162: at its start edge a timer runs with the period its shadow gives; at a wrap it takes an armed stage that
is 4 PWM clocks old and begins the next period, or stops with phase Hi-Z on its channels; the dither phase counts every wrap
(R168). A start edge or a wrap that is not due in this tick does nothing. -/
def Obligations.PeriodBoundaries : Prop :=
  ∀ (s : State) (k : Fin 24),
    (∀ e, (s.tim[k]).startAt = some e → e < s.tickEnd → ∃ t, exec (.startEdge k) s = .next t ∧ (t.tim[k]).run = true ∧
      (t.tim[k]).startAt = none ∧ (t.tim[k]).stopping = false ∧ (t.tim[k]).base = e ∧ (t.tim[k]).phase = 0 ∧
      (t.tim[k]).stage = none ∧ (t.tim[k]).act[1] = s.rd (timAddr k 1) ∧
      ∀ k' : Fin 24, k' ≠ k → t.tim[k'] = s.tim[k']) ∧
    ((s.tim[k]).run = true → (s.tim[k]).nextWrap < s.tickEnd → (s.tim[k]).stopping = false →
      ∃ t, exec (.timerWrap k) s = .next t ∧ (t.tim[k]).run = true ∧ (t.tim[k]).base = (s.tim[k]).nextWrap ∧
        (t.tim[k]).phase = ((s.tim[k]).phase + 1) % 16 ∧ (t.tim[k]).fired = 0 ∧
        (∀ g, (s.tim[k]).stage = some g → g.at' + 4 ≤ (s.tim[k]).nextWrap → (t.tim[k]).stage = none ∧
          (t.tim[k]).act[1] = g.words[1]?.getD 0) ∧
        (∀ g, (s.tim[k]).stage = some g → (s.tim[k]).nextWrap < g.at' + 4 → (t.tim[k]).stage = some g ∧
          (t.tim[k]).act[1] = (s.tim[k]).act[1]) ∧
        ∀ k' : Fin 24, k' ≠ k → t.tim[k'] = s.tim[k']) ∧
    ((s.tim[k]).run = true → (s.tim[k]).nextWrap < s.tickEnd → (s.tim[k]).stopping = true →
      ∃ t, exec (.timerWrap k) s = .next t ∧ (t.tim[k]).run = false ∧ (t.tim[k]).stopping = false ∧
        (t.tim[k]).phase = ((s.tim[k]).phase + 1) % 16 ∧
        (∀ r : Fin 3, ((t.tim[k]).ch[r]).cmd = .hiz ∧ ((t.tim[k]).ch[r]).fallAt = none) ∧
        ∀ k' : Fin 24, k' ≠ k → t.tim[k'] = s.tim[k']) ∧
    ((∀ e, (s.tim[k]).startAt = some e → s.tickEnd ≤ e) → exec (.startEdge k) s = .next s) ∧
    ((s.tim[k]).run = false ∨ s.tickEnd ≤ (s.tim[k]).nextWrap → exec (.timerWrap k) s = .next s)

/-- R155, R163, R173: within a period the compare match ends a channel's on-time with LOW, the end of a refresh pulse gives
the period's own command, and a trigger compare fires once: it pulses the trigger lands routed to it and starts the converters
and the engine loops routed to it. R169, R178: a calibration cycle that is due, with bg_en = 1 and the bank on, writes its
table, makes it valid and counts its generation up; one that fails sets DLC_STAT.fault, counts and raises DLCAL_FAULT, and the
table in use stays. -/
def Obligations.WithinAPeriod : Prop :=
  (∀ (s : State) (k : Fin 24),
    (∀ (r : Fin 3) (f : Nat), ((s.tim[k]).ch[r]).fallAt = some f → f < s.tickEnd → ∃ t, exec (.compareMatch k r) s = .next t ∧
      (t.tim[k]).ch[r] = { (s.tim[k]).ch[r] with cmd := .low, fallAt := none } ∧
      ∀ r' : Fin 3, r' ≠ r → (t.tim[k]).ch[r'] = (s.tim[k]).ch[r']) ∧
    (∀ (r : Fin 3) (e : Nat), ((s.tim[k]).ch[r]).refEnd = some e → e < s.tickEnd →
      ∃ t, exec (.refreshPulseEnd k r) s = .next t ∧
        (t.tim[k]).ch[r] = { (s.tim[k]).ch[r] with cmd := ((s.tim[k]).ch[r]).after, refEnd := none } ∧
        ∀ r' : Fin 3, r' ≠ r → (t.tim[k]).ch[r'] = (s.tim[k]).ch[r']) ∧
    (∀ (n : Fin 4) (w : Nat), w = (s.tim[k]).base + ((s.tim[k]).act[n.val + 9]).toNat * prescale (s.tim[k]).act →
      (s.tim[k]).run = true → ((s.tim[k]).act[n.val + 9]).toNat ≤ ((s.tim[k]).act[1]).toNat → w < s.tickEnd →
      (natBit (s.tim[k]).fired n.val = false → ∃ t, exec (.triggerCompare k n) s = .next t ∧
        natBit (t.tim[k]).fired n.val = true ∧
        (∀ d : Fin 4, (3, d.val) ∈ s.routedFrom 1 (4 * k.val + n.val) → t.lands.trgo[d] = some w) ∧
        ∀ a : Fin 24, ((1, a.val) ∈ s.routedFrom 1 (4 * k.val + n.val) →
            (((s.bank[axBank a]).conv[axSlot a]).due < ((t.bank[axBank a]).conv[axSlot a]).due)) ∧
          ((2, a.val) ∈ s.routedFrom 1 (4 * k.val + n.val) → (s.ax[a]).tickDue < (t.ax[a]).tickDue)) ∧
      (natBit (s.tim[k]).fired n.val = true → exec (.triggerCompare k n) s = .next s))) ∧
  (∀ (s : State) (b : Fin 8) (bias : Byte) (tapdly : Word) (taps : List (BitVec 6)), s.dom b.val = true →
    bit (s.rd (A.DLC_CTL b.val)) 0 = true → (∀ n, (s.bank[b]).dlcCyc = some n → 1000 ≤ s.clk.ticks - n) →
    (∃ t, exec (.dlcCalCycle b true bias tapdly taps) s = .next t ∧ t.rd (A.DLC_BIAS b.val) = w16 bias.toNat ∧
      t.rd (A.DLC_TAPDLY b.val) = tapdly ∧ (t.bank[b]).dlcValid = true ∧
      (t.bank[b]).dlcGen = ((s.bank[b]).dlcGen + 1) % 256 ∧
      ∀ i, i < 64 → t.rd (A.DLC_TBL b.val i) = w16 ((taps[i]?.getD 0).toNat)) ∧
    (∃ t, exec (.dlcCalCycle b false bias tapdly taps) s = .next t ∧ bit (t.rd (A.DLC_STAT b.val)) 15 = true ∧
      t.rd (A.DLC_FAILCNT b.val) = w16 (satU ((s.rd (A.DLC_FAILCNT b.val)).toNat + 1)) ∧
      eventBit t (evDLCAL_FAULT b) = true ∧ (t.bank[b]).dlcValid = (s.bank[b]).dlcValid ∧
      (t.bank[b]).dlcGen = (s.bank[b]).dlcGen ∧ ∀ i, i < 64 → t.rd (A.DLC_TBL b.val i) = s.rd (A.DLC_TBL b.val i)))

/-! ### The host link (04_host_link.md) -/

/-- R117, R119, R120: a write frame whose CRC checks good counts in HOST_FRAMES and writes its words in order to their
addresses, one word as a REGISTER_WRITE does; one whose CRC checks bad, or that ends before its CRC word is complete, writes
nothing, sets its HOST_ERR flag, counts in HOST_CRCCNT and raises HOST_CRC, and changes nothing else. A frame whose header is
cut short is discarded too, and one without an SCLK edge is ignored. R122: reserved header bits under a good CRC count in
HOST_FRAMES and are a host error; a reserved operation is a host error. -/
def Obligations.WriteFrames : Prop :=
  ∀ (s : State) (at' : Fin 200) (fixed : Bool) (hdr addr : Word) (ws : List Word), s.up = true → s.hears = true →
    field hdr 15 13 = (if fixed then 4 else 2) → ws.length = hdrWords hdr →
    (∀ (rest : List Word) (u : State),
      u = (s.setMiso (onMiso [s.statusWord, s.summaryWord] (3 + ws.length + rest.length))).wrapInc A.HOST_FRAMES →
      (hdrBad hdr = false →
        exec (if fixed then .writeFixed at' hdr addr (ws ++ crc16 (hdr :: addr :: ws) :: rest)
            else .write at' hdr addr (ws ++ crc16 (hdr :: addr :: ws) :: rest)) s =
          .next (if hasReset (frameWrites fixed addr ws)
            then softwareReset (s.clkAt at') (u.writeWords (s.clkAt at') (frameWrites fixed addr ws))
            else u.writeWords (s.clkAt at') (frameWrites fixed addr ws))) ∧
      (hdrBad hdr = true →
        exec (if fixed then .writeFixed at' hdr addr (ws ++ crc16 (hdr :: addr :: ws) :: rest)
            else .write at' hdr addr (ws ++ crc16 (hdr :: addr :: ws) :: rest)) s =
          .next (u.hostErr (s.clkAt at') addr.toNat)) ∧
      (hdrBad hdr = false → ∀ d, ws = [d] →
        exec (if fixed then .writeFixed at' hdr addr (d :: crc16 [hdr, addr, d] :: rest)
          else .write at' hdr addr (d :: crc16 [hdr, addr, d] :: rest)) s = exec (.registerWrite at' addr d) u) ∧
      (hdrBad hdr = false → ∀ i d, i < 8 → addr.toNat = A.OP_PARAM i → (∀ l ∈ s.limits, l.addr ≠ A.OP_PARAM i) → ws = [d] →
        ∃ t, exec (if fixed then .writeFixed at' hdr addr (d :: crc16 [hdr, addr, d] :: rest)
            else .write at' hdr addr (d :: crc16 [hdr, addr, d] :: rest)) s = .next t ∧
          t.rd (A.OP_PARAM i) = d ∧ t.rd A.HOST_FRAMES = s.rd A.HOST_FRAMES + 1 ∧
          ∀ a, a ≠ A.OP_PARAM i → a ≠ A.HOST_FRAMES → t.rd a = s.rd a)) ∧
    (∀ (c : Word) (rest : List Word), c ≠ crc16 (hdr :: addr :: ws) →
      ∃ t, exec (if fixed then .writeFixed at' hdr addr (ws ++ c :: rest) else .write at' hdr addr (ws ++ c :: rest)) s = .next t ∧
        bit (t.rd A.HOST_ERR) 0 = true ∧ t.rd A.HOST_CRCCNT = w16 (satU ((s.rd A.HOST_CRCCNT).toNat + 1)) ∧
        eventBit t evHOST_CRC = true ∧ Only (raising { regs := [.HOST_CRCCNT, .HOST_ERR], link := true }) s t) ∧
    (∀ k, k ≤ ws.length →
      ∃ t, exec (if fixed then .writeFixed at' hdr addr (ws.take k) else .write at' hdr addr (ws.take k)) s = .next t ∧
        bit (t.rd A.HOST_ERR) 1 = true ∧ t.rd A.HOST_CRCCNT = w16 (satU ((s.rd A.HOST_CRCCNT).toNat + 1)) ∧
        eventBit t evHOST_CRC = true ∧ Only (raising { regs := [.HOST_CRCCNT, .HOST_ERR], link := true }) s t) ∧
    (∀ (h' : Word) (body : List Word), 5 ≤ field h' 15 13 →
      exec (.write at' h' addr body) s = .next ((s.setMiso (onMiso [s.statusWord, s.summaryWord] (2 + body.length))).hostErr
        (s.clkAt at') addr.toNat)) ∧
    (∀ e : Fin 16, e.val ≠ 0 → ∃ t, exec (.spiHeaderTruncated e) s = .next t ∧ bit (t.rd A.HOST_ERR) 1 = true ∧
      t.rd A.HOST_CRCCNT = w16 (satU ((s.rd A.HOST_CRCCNT).toNat + 1)) ∧ eventBit t evHOST_CRC = true ∧
      Only (raising { regs := [.HOST_CRCCNT, .HOST_ERR] }) s t) ∧
    exec (.spiHeaderTruncated 0) s = .next s

/-- R116, R117, R121, R124: NOP returns the status word; a whole read frame returns status, summary, a zero word, the data
words of its addresses and the CRC over header, address and data; one word that stands alone is what a read shows, and its
frame changes nothing but MISO; a read of the lowest word of a quantity latches its higher words. The instant in the tick at
which the words are taken is free (notes/assumptions/4.md). -/
def Obligations.ReadFrames : Prop :=
  ∀ s : State, s.up = true → s.hears = true →
    exec (.nop 0) s = .next { s with link := { s.link with miso := [s.statusWord] } } ∧
    (∀ (fixed : Bool) (hdr addr : Word) (n : Nat), field hdr 15 13 = (if fixed then 3 else 1) → hdrBad hdr = false →
      hdrWords hdr = n → passesEnd fixed addr n = false →
      ∃ u ws, s.took.readAll s.sampleAt ((List.range n).map (wordAddr fixed addr)) = (u, ws) ∧ ws.length = n ∧
        exec (if fixed then .readFixed hdr addr (4 + n) else .read hdr addr (4 + n)) s =
          .next (u.setMiso ([s.statusWord, s.summaryWord, 0] ++ ws ++ [crc16 (hdr :: addr :: ws)]))) ∧
    (∀ (fixed : Bool) (hdr addr : Word) (row : RegRow) (ix : List Nat), field hdr 15 13 = (if fixed then 3 else 1) →
      hdrBad hdr = false → hdrWords hdr = 1 → lookup addr.toNat = some (row, ix) → quantOf row.reg ix = none →
      ∃ w, w = s.took.shown s.sampleAt addr.toNat ∧
        exec (if fixed then .readFixed hdr addr 5 else .read hdr addr 5) s =
          .next { s.took with
            link := { s.link with miso := [s.statusWord, s.summaryWord, 0, w, crc16 [hdr, addr, w]] } }) ∧
    (∀ (a : Word) (row : RegRow) (ix : List Nat) (n : Nat), lookup a.toNat = some (row, ix) →
      quantOf row.reg ix = some (0, n) → ∃ t, exec (.multiwordLatchRead a) s = .next t ∧
        t.link.miso = s.link.miso ∧ t.link.stage = s.link.stage ∧
        ∀ k, k < n - 1 → t.latched (a.toNat + 1 + k) = s.took.shown s.sampleAt (a.toNat + 1 + k)) ∧
    (∀ (a : Word) (row : RegRow) (ix : List Nat), lookup a.toNat = some (row, ix) → quantOf row.reg ix = none →
      exec (.multiwordLatchRead a) s = .next s.took)

/-- R14, R38, R78, R125: a write to a register of plain read-write bits stores the word and nothing else; a LIMITS entry holds
the value within its bounds, counts, and reports the word; a higher word of a quantity is staged and its lowest word commits
both; an address that no chapter assigns is not written. Nothing is written while VIO is low or CORE does not run. -/
def Obligations.RegisterWrites : Prop :=
  (∀ (s : State) (at' : Fin 200) (a d : Word), s.up = true → s.hears = true →
    (∀ (row : RegRow) (ix : List Nat), lookup a.toNat = some (row, ix) →
      row.reg ∈ ([.OP_PARAM, .EVT_MASK, .EVT_REC_0, .EVT_REC_1, .EVT_REC_2, .EVT_REC_3, .EVT_REC_47, .PWR_HCAP, .PWR_EMARGIN] :
        List Reg) →
      ((∀ l ∈ s.limits, l.addr ≠ a.toNat) → exec (.registerWrite at' a d) s = .next (s.wr a.toNat d)) ∧
      (∀ l : Limit, s.limits = [l] → l.addr = a.toNat → l.lsb = 0 → l.width = 16 → l.signed = false →
        l.min.toNat ≤ l.max.toNat → l.max.toNat < d.toNat → a.toNat < 0x400 →
        ∃ t, exec (.registerWrite at' a d) s = .next t ∧ t.rd a.toNat = l.max ∧ t.rd A.IMG_LIMLAST = a ∧
          t.rd A.IMG_LIMSAT = w16 (satU ((s.rd A.IMG_LIMSAT).toNat + 1)) ∧ eventBit t evLIMIT_SAT = true)) ∧
    (lookup a.toNat = none → exec (.registerWrite at' a d) s = .next s) ∧
    (a.toNat = A.TIME_SET_SEC 1 → (∀ l ∈ s.limits, l.addr ≠ A.TIME_SET_SEC 1) →
      ∃ t, exec (.registerWrite at' a d) s = .next t ∧ t.staged (A.TIME_SET_SEC 1) = d ∧
      t.regs = s.regs) ∧
    (a.toNat = A.TIME_SET_SEC 0 → (∀ l ∈ s.limits, l.addr ≠ A.TIME_SET_SEC 0 ∧ l.addr ≠ A.TIME_SET_SEC 1) →
      ∃ t, exec (.registerWrite at' a d) s = .next t ∧ t.rd (A.TIME_SET_SEC 0) = d ∧
        t.rd (A.TIME_SET_SEC 1) = s.staged (A.TIME_SET_SEC 1) ∧
        ∀ x, x ≠ A.TIME_SET_SEC 0 → x ≠ A.TIME_SET_SEC 1 → t.rd x = s.rd x)) ∧
  (∀ (s : State) (at' : Fin 200) (a d : Word), s.up = false ∨ s.hears = false → exec (.registerWrite at' a d) s = .next s)

/-! ### Images and the key slot (02_juniper_image.md) -/

/-- R71, R86: when the checks of a load end well its image is staged, or its bytes wait to be written to a slot; when a check
fails its code stands in IMG_REJECT, IMG_REJECT is raised and the operation ends FAILED. The active image stays.
R72, R73, R75: in the swap tick a staged image is refused with code 0x10 while a bank that it replaces is armed; else it
becomes the active image: a whole image ends the load and empties the schedule, a bank image replaces its bank and takes its
tag. -/
def Obligations.ImageChecksAndSwaps : Prop :=
  (∀ (s : State) (l : Load) (i : Fin 8), s.up = true → s.img.load = some l → l.staged = none → l.bytes = [] →
    l.slot = some i.val →
    (s.imageCode (l.src < 2) (s.source l.src) = 0 → ∃ t, exec .imageVerifyDone s = .next t ∧
      t.img.active = s.img.active ∧
      (l.dest = 0 → ∃ l', t.img.load = some l' ∧ l'.staged = some (stagedOf (s.source l.src)) ∧ l'.bytes = []) ∧
      (l.dest ≠ 0 → ∃ l', t.img.load = some l' ∧ l'.staged = none ∧ l'.bytes = s.source l.src)) ∧
    (s.imageCode (l.src < 2) (s.source l.src) ≠ 0 → ∃ t, exec .imageVerifyDone s = .next t ∧
      t.img.active = s.img.active ∧ t.img.load = none ∧ (t.ops.slots[i]).st = .failed ∧
      t.rd A.IMG_REJECT = w16 (l.src * 256 + s.imageCode (l.src < 2) (s.source l.src)) ∧ eventBit t evIMG_REJECT = true)) ∧
  (∀ (s : State) (l : Load), s.up = true → s.img.load = some l →
    (∀ c : ImageCfg, l.staged = some (.whole c) →
      (s.anyArmed = true → l.slot.isSome = true → ∃ t, exec .wholeImageSwap s = .next t ∧ t.img.active = s.img.active ∧
        t.rd A.IMG_REJECT = w16 (l.src * 256 + 0x10) ∧ eventBit t evIMG_REJECT = true ∧ t.bank = s.bank) ∧
      (s.anyArmed = false → ∃ t, exec .wholeImageSwap s = .next t ∧ t.img.active = some c ∧ t.img.load = none ∧
        t.img.bankImg = 0 ∧ t.sched.q = [] ∧ (∀ b : Fin 8, (t.bank[b]).armed = false) ∧ eventBit t evIMG_LOADED = true)) ∧
    (∀ (b : Fin 8) (c : BankCfg) (tag : Word), l.staged = some (.bank b.val c tag) →
      ((s.bank[b]).armed = true → l.slot.isSome = true → ∃ t, exec .bankImageSwap s = .next t ∧ t.img.active = s.img.active ∧
        t.rd A.IMG_REJECT = w16 (l.src * 256 + 0x10) ∧ eventBit t evIMG_REJECT = true ∧ t.bank = s.bank) ∧
      ((s.bank[b]).armed = false → ∃ t, exec .bankImageSwap s = .next t ∧
        t.img.active = s.img.active.map (fun i => { i with banks := i.banks.set b.val c }) ∧ t.img.load = none ∧
        t.img.bankImg.getLsbD b.val = true ∧ (t.bank[b]).armed = false ∧ eventBit t (evBANK_CFG b) = true)))

/-- R79, R406: the parts of a slot write: each of the slot's 32 sectors is erased, then the bytes are programmed; a closed
energy gate holds the next part back, and so does an append or a compaction step that is due. A part that did not read back ends the operation FAILED with STORE once all are done.
R80, R88: sixteen key words, 0x00C3 and 0x003C start the programming of a blank key slot, a broken sequence sets key_err and
drops the words; the end of the programming sets the key slot's state, and a programmed slot takes its check value. A slot
that is not blank takes neither words nor commands. -/
def Obligations.SlotAndKeyProgramming : Prop :=
  (∀ (s : State) (l : Load) (i : Fin 8), s.up = true → s.img.load = some l → l.slot = some i.val → l.bytes ≠ [] →
    s.store.burst = none → l.stopping = false →
    (s.gateOpen l.cost = false ∨ s.storeDue = true → ∀ ok, exec (.slotWriteBurst ok) s = .next s) ∧
    (s.gateOpen l.cost = true → s.storeDue = false → (s.ops.slots[i]).abort = none → l.done < l.bytes.length →
      (l.erased < 32 → ∃ t, exec (.slotWriteBurst true) s = .next t ∧ t.img.load = some { l with erased := l.erased + 1 } ∧
        (∀ k, k < 4096 → cellRd 0xFF t.store.mem (secBase (l.firstSec + l.erased) + k) = 0xFF) ∧
        ∀ a, a < secBase (l.firstSec + l.erased) ∨ secBase (l.firstSec + l.erased) + 4096 ≤ a →
          cellRd 0xFF t.store.mem a = cellRd 0xFF s.store.mem a) ∧
      (32 ≤ l.erased → ∃ t, exec (.slotWriteBurst true) s = .next t ∧
        (∀ k, k < 256 → l.done + k < l.bytes.length →
          cellRd 0xFF t.store.mem (slotBase (l.dest - 1) + l.done + k) = l.bytes[l.done + k]?.getD 0) ∧
        (∀ a, a < slotBase (l.dest - 1) + l.done ∨ slotBase (l.dest - 1) + l.done + min 256 (l.bytes.length - l.done) ≤ a →
          cellRd 0xFF t.store.mem a = cellRd 0xFF s.store.mem a) ∧
        (l.done + 256 < l.bytes.length → t.img.load = some { l with done := l.done + 256 }) ∧
        (l.bytes.length ≤ l.done + 256 → l.bad = false → t.img.load = none ∧ (t.ops.slots[i]).st = .done) ∧
        (l.bytes.length ≤ l.done + 256 → l.bad = true → t.img.load = none ∧ (t.ops.slots[i]).st = .failed ∧
          (t.ops.slots[i]).fail = failSTORE ∧ t.rd A.IMG_REJECT = w16 (l.src * 256 + 0x11)) ∧
        ∃ u, exec (.slotWriteBurst false) s = .next u ∧ ∀ l', u.img.load = some l' → l'.bad = true))) ∧
  ((∀ (s : State) (d : Word), s.up = true → s.hears = true →
    (s.keyOpen = true → ∃ t, exec (.imgKeydataWrite d) s = .next t ∧ t.img.keyWords = (s.img.keyWords ++ [d]).take 17 ∧
      t.img.key = s.img.key) ∧
    (s.keyOpen = false → exec (.imgKeydataWrite d) s = .next s ∧ exec .keyCmdArm s = .next s ∧
      exec .keyCmdProgram s = .next s)) ∧
  (∀ s : State, s.up = true → s.hears = true → s.keyOpen = true →
    (s.img.keyArm = false → exec .keyCmdArm s = .next { s with img := { s.img with keyArm := true } }) ∧
    (s.img.keyArm = true → s.img.keyWords.length = 16 → ∃ t, exec .keyCmdProgram s = .next t ∧ t.img.keyRun = true ∧
      t.img.key = wordBytes s.img.keyWords ∧ t.img.keyWords = [] ∧ t.img.keyArm = false) ∧
    (s.img.keyArm = false ∨ s.img.keyWords.length ≠ 16 → ∃ t, exec .keyCmdProgram s = .next t ∧
      bit (t.rd A.IMG_KEYSTAT) 2 = true ∧ t.img.keyWords = [] ∧ t.img.keyArm = false ∧ t.img.keyRun = false ∧
      t.img.key = s.img.key)) ∧
  (∀ s : State, s.img.keyRun = true →
    (∃ t, exec (.keyProgramDone true) s = .next t ∧ t.img.keySt = .programmed ∧ t.img.keyRun = false ∧
      field (t.rd A.IMG_KEYSTAT) 1 0 = 1 ∧ t.rd A.IMG_KEYCHK = w16 (u16 (hmac s.img.key (List.replicate 16 0)) 0)) ∧
    (∃ t, exec (.keyProgramDone false) s = .next t ∧ t.img.keySt = .damaged ∧ t.img.keyRun = false ∧
      field (t.rd A.IMG_KEYSTAT) 1 0 = 2)))

/-! ### Long operations (04_host_link.md) -/

/-- R136, R137, R144, R146: a doorbell takes the lowest free slot with the next generation number and returns its ticket; the
operation runs at once when its class is idle and its preconditions hold, ends FAILED with PRECOND when they do not, and is
QUEUED while its class is busy. With every slot taken the doorbell is refused and counted. -/
def Obligations.Doorbells : Prop :=
  ∀ (s : State) (p : Nat × Instr), s.up = true → s.hears = true →
    p ∈ ([(opIMAGE_LOAD, .imageLoad), (opSHUNT_CAL, .shuntCal), (opDLINE_CAL, .dlineCal), (opSELF_TEST, .selfTest),
      (opMOTOR_ID, .motorId), (opCOMPACT, .compact)] : List (Nat × Instr)) →
    s.legal A.OP_CMD (w16 (256 * p.1)) = true →
    (∀ i : Fin 8, (s.ops.slots[i]).st = .free → (∀ j : Fin 8, j < i → (s.ops.slots[j]).st ≠ .free) →
      ∃ t, exec p.2 s = .next t ∧ t.rd A.OP_TICKET = w16 (0x4000 + 8 * s.ops.gen + i.val) ∧
        t.ops.gen = (s.ops.gen + 1) % 32 ∧ (t.ops.slots[i]).op = p.1 ∧ (t.ops.slots[i]).gen = s.ops.gen ∧
        (∀ j : Fin 8, j ≠ i → t.ops.slots[j] = s.ops.slots[j]) ∧
        (s.classBusy (opClass p.1) = true → (t.ops.slots[i]).st = .queued ∧ t.ops.order = s.ops.order ++ [i.val]) ∧
        (s.classBusy (opClass p.1) = false → s.ops.order = [] → (p.1 = opIMAGE_LOAD → s.lands.bootsel ≠ 3) →
          (s.opReady { OpSlot.reset with op := p.1, params := s.opParams } = true → (t.ops.slots[i]).st = .running) ∧
          (s.opReady { OpSlot.reset with op := p.1, params := s.opParams } = false → (t.ops.slots[i]).st = .failed ∧
            (t.ops.slots[i]).fail = failPRECOND ∧ eventBit t evOP_END = true))) ∧
    ((∀ i : Fin 8, (s.ops.slots[i]).st ≠ .free) → ∃ t, exec p.2 s = .next t ∧ t.rd A.OP_TICKET = 0x8000 ∧ t.ops = s.ops ∧
      t.rd A.OP_QFULLCNT = w16 (satU ((s.rd A.OP_QFULLCNT).toNat + 1)))

/-- R137, R144: a code that names no operation is answered in OP_TICKET and takes no slot; a QUEUED slot starts when its class
is idle and it is the first of its class, and ends FAILED with PRECOND when a precondition does not hold. R141, R142: a
release by its ticket makes a terminal slot FREE with all it shows at 0, and is a host error while the operation is queued or
runs; an abort ends a QUEUED slot ABORTED with HOST, a running MOTOR_ID as well, whose axis goes to its hold state, and waits
for the next safe step of a running calibration or SELF_TEST; a ticket whose generation does not match has no effect. -/
def Obligations.OperationStartsAndAborts : Prop :=
  ((∀ (s : State) (op : Byte), s.up = true → s.hears = true → opCodes.contains op.toNat = false →
    exec (.opUnknownCode op) s = .next (s.wr A.OP_TICKET 0xC000)) ∧
  (∀ (s : State) (i : Fin 8), s.up = true → (s.ops.slots[i]).st = .queued →
    s.classBusy (opClass (s.ops.slots[i]).op) = false → s.firstOf (opClass (s.ops.slots[i]).op) = some i.val →
    ((s.ops.slots[i]).op ≠ opIMAGE_LOAD ∨ s.lands.bootsel ≠ 3 → s.opReady (s.ops.slots[i]) = true →
      ∃ t, exec (.opStart i) s = .next t ∧ (t.ops.slots[i]).st = .running ∧ (t.ops.slots[i]).started = s.clk.ticks ∧
        t.ops.order = s.ops.order.filter (· != i.val) ∧
        ((s.ops.slots[i]).op = opMOTOR_ID → (t.ax[(s.ops.slots[i]).motor]).st = .ident)) ∧
    (s.opReady (s.ops.slots[i]) = false → ∃ t, exec (.opStart i) s = .next t ∧ (t.ops.slots[i]).st = .failed ∧
      (t.ops.slots[i]).fail = failPRECOND ∧ eventBit t evOP_END = true))) ∧
  (∀ (s : State) (d : Word) (i : Fin 8), s.up = true → s.hears = true → i.val = field d 2 0 → field d 15 8 = 0 →
    ((s.ops.slots[i]).gen = field d 7 3 →
      ((s.ops.slots[i]).st.terminal = true → ∃ t, exec (.opRelease d) s = .next t ∧ t.ops.slots[i] = OpSlot.reset ∧
        (∀ j : Fin 8, j ≠ i → t.ops.slots[j] = s.ops.slots[j]) ∧ t.regs = s.regs) ∧
      ((s.ops.slots[i]).st.terminal = false → (s.ops.slots[i]).st ≠ .free →
        exec (.opRelease d) s = .next (s.hostErr (200 * s.clk.ticks) A.OP_RELEASE)) ∧
      ((s.ops.slots[i]).st = .queued → ∃ t, exec (.opAbort d) s = .next t ∧ (t.ops.slots[i]).st = .aborted ∧
        (t.ops.slots[i]).fail = failHOST ∧ t.ops.order = s.ops.order.filter (· != i.val) ∧ eventBit t evOP_END = true) ∧
      ((s.ops.slots[i]).st.active = true → (s.ops.slots[i]).op = opMOTOR_ID → ∃ t, exec (.opAbort d) s = .next t ∧
        (t.ops.slots[i]).st = .aborted ∧ (t.ops.slots[i]).fail = failHOST ∧ eventBit t evOP_END = true ∧
        ((s.ax[(s.ops.slots[i]).motor]).st = .ident → (t.ax[(s.ops.slots[i]).motor]).st = .ident ∧
          (t.ax[(s.ops.slots[i]).motor]).parked = some .host)) ∧
      ((s.ops.slots[i]).st.active = true → (s.ops.slots[i]).abort = none →
        (s.ops.slots[i]).op = opSHUNT_CAL ∨ (s.ops.slots[i]).op = opDLINE_CAL ∨ (s.ops.slots[i]).op = opSELF_TEST →
        ∃ t, exec (.opAbort d) s = .next t ∧ t.ops.slots[i] = { s.ops.slots[i] with abort := some failHOST } ∧
          t.regs = s.regs)) ∧
    ((s.ops.slots[i]).gen ≠ field d 7 3 → exec (.opRelease d) s = .next s ∧ exec (.opAbort d) s = .next s))

/-- R138, R139, R140, R143: a partial value of MOTOR_ID makes its slot PARTIAL and stands in its entry; its end makes the slot
DONE, and its axis is to take its hold state; of DLINE_CAL and SELF_TEST only the progress moves, and an abort that waits
takes effect there; SELF_TEST ends by the tests that failed, and an overdue operation ends FAILED with TIMEOUT. Each end
raises OP_END. -/
def Obligations.OperationEnds : Prop :=
  ∀ (s : State) (i : Fin 8), s.up = true → (s.ops.slots[i]).st.active = true →
    ((s.ops.slots[i]).op = opMOTOR_ID → (s.ops.slots[i]).abort = none →
      (∀ (e : Fin 8) (v : BitVec 32) (g : Byte), e.val < 4 → ∃ t, exec (.opPartial i e v g) s = .next t ∧
        (t.ops.slots[i]).st = .part ∧ ((t.ops.slots[i]).res[e]).val = v.toNat ∧
        (t.ops.slots[i]).npart = min 255 ((s.ops.slots[i]).npart + 1) ∧ (t.ops.slots[i]).progress = min 254 g.toNat) ∧
      (∀ vals : List (BitVec 32), outOfMot vals = false → ∃ t, exec (.opEnd i true vals) s = .next t ∧
        (t.ops.slots[i]).st = .done ∧ (t.ops.slots[i]).progress = 255 ∧ eventBit t evOP_END = true ∧
        ((s.ax[(s.ops.slots[i]).motor]).st = .ident → (t.ax[(s.ops.slots[i]).motor]).parked = some .none) ∧
        ∀ e : Fin 8, e.val < 4 → ((t.ops.slots[i]).res[e]).val = valAt vals e.val)) ∧
    ((s.ops.slots[i]).op = opDLINE_CAL ∨ (s.ops.slots[i]).op = opSELF_TEST →
      ∀ (e : Fin 8) (v : BitVec 32) (g : Byte),
        ((s.ops.slots[i]).abort = none → exec (.opPartial i e v g) s =
          .next (s.modSlot i (fun x => { x with progress := min 254 g.toNat }))) ∧
        (∀ f, (s.ops.slots[i]).abort = some f → ∃ t, exec (.opPartial i e v g) s = .next t ∧
          (t.ops.slots[i]).st = .aborted ∧ (t.ops.slots[i]).fail = f ∧ eventBit t evOP_END = true)) ∧
    ((s.ops.slots[i]).op = opSELF_TEST → (s.ops.slots[i]).abort = none → ∀ v : BitVec 32,
      ∃ t, exec (.opEnd i true [v]) s = .next t ∧ eventBit t evOP_END = true ∧
        (Nat.land v.toNat ((s.ops.slots[i]).param 0).toNat = 0 → (t.ops.slots[i]).st = .done) ∧
        (Nat.land v.toNat ((s.ops.slots[i]).param 0).toNat ≠ 0 → (t.ops.slots[i]).st = .failed ∧
          (t.ops.slots[i]).fail = failTEST)) ∧
    (s.overdue (s.ops.slots[i]) = true → ∃ t, exec (.opTimeout i) s = .next t ∧ (t.ops.slots[i]).st = .failed ∧
      (t.ops.slots[i]).fail = failTIMEOUT ∧ eventBit t evOP_END = true) ∧
    (s.overdue (s.ops.slots[i]) = false → exec (.opTimeout i) s = .next s)

/-! ### CAN (04_host_link.md) -/

/-- R129 to R133: a frame that matches goes to the lowest matching receive buffer that is not new, else it is lost and
counted; TXREQ makes an enabled transmit buffer pending (that en = 0 keeps it out is the model's choice,
notes/assumptions/22.md), TXABORT asks for its abort, the winner's frame that has been sent stops pending, a failed single
shot stops pending with its flag, and of the others one whose abort waits stops pending and one without goes on; the error
state follows the bus, and bus-off is left by recovery with both error counts 0. -/
def Obligations.CanControllers : Prop :=
  ∀ (s : State) (c : Fin 2),
    (∀ (ide fdf brs : Bool) (id : BitVec 29) (dlc : Fin 16) (data : List Byte) (sof : Nat), s.canOn c = true → s.hears = true →
      s.canCtl c 13 = false → (fdf = true → s.canCtl c 12 = true) → sof ≤ s.clk.ticks →
      (∀ m : Fin 32, s.canMatches c ide id.toNat m = true → bit (s.bufStat c m) 15 = false →
        (∀ m' : Fin 32, m' < m → s.canMatches c ide id.toNat m' = true → bit (s.bufStat c m') 15 = true) →
        ∃ t, exec (.canRx c ide fdf brs id dlc data sof) s = .next t ∧ bit (t.bufStat c m) 15 = true ∧
          field (t.bufStat c m) 3 0 = dlc.val ∧ t.rdQ2 (A.BUF_ID_LO c.val m.val) = id.toNat ∧
          eventBit t (evCAN_RX c) = true ∧ ∀ m' : Fin 32, m' ≠ m → t.bufStat c m' = s.bufStat c m') ∧
      ((∀ m : Fin 32, s.canMatches c ide id.toNat m = false) →
        exec (.canRx c ide fdf brs id dlc data sof) s = .next s) ∧
      (∀ m : Fin 32, s.canMatches c ide id.toNat m = true → (∀ m' : Fin 32, m' < m → s.canMatches c ide id.toNat m' = false) →
        (∀ m' : Fin 32, s.canMatches c ide id.toNat m' = true → bit (s.bufStat c m') 15 = true) → bit (s.bufCfg c m) 10 = false →
        ∃ t, exec (.canRx c ide fdf brs id dlc data sof) s = .next t ∧
          t.rd (A.CAN_RXLOST c.val) = w16 (satU ((s.rd (A.CAN_RXLOST c.val)).toNat + 1)) ∧
          ∀ a, a ≠ A.CAN_RXLOST c.val → t.rd a = s.rd a)) ∧
    (∀ (hi : Bool) (d : Word), s.up = true → s.hears = true → s.dom 11 = true →
      (∃ t, exec (.canTxreq c hi d) s = .next t ∧ ∀ m : Fin 32,
        (m ∈ wordBufs hi d → bit (s.bufCfg c m) 15 = true → bit (s.bufCfg c m) 14 = true → (t.can[c]).isPend m = true) ∧
        (m ∉ wordBufs hi d ∨ bit (s.bufCfg c m) 14 = false → (t.can[c]).isPend m = (s.can[c]).isPend m)) ∧
      (∃ t, exec (.canTxabort c hi d) s = .next t ∧ (t.can[c]).pend = (s.can[c]).pend ∧ ∀ m : Fin 32,
        (m ∈ wordBufs hi d → (s.can[c]).isPend m = true → (t.can[c]).isAbort m = true) ∧
        (m ∉ wordBufs hi d ∨ (s.can[c]).isPend m = false → (t.can[c]).isAbort m = (s.can[c]).isAbort m))) ∧
    (∀ (m : Fin 32) (sof : Nat), s.canOn c = true → s.canCtl c 14 = false → s.canCtl c 13 = false → sof ≤ s.clk.ticks →
      s.winner c sof = some m → ∃ t, exec (.canTxDone c m sof) s = .next t ∧ (t.can[c]).isPend m = false ∧
        t.rd (A.BUF_STAMP0 c.val m.val) = wordOf (sof % 2 ^ 48) 0 ∧ eventBit t (evCAN_TX c) = true ∧
        ∀ m' : Fin 32, m' ≠ m → (t.can[c]).isPend m' = (s.can[c]).isPend m') ∧
    (∀ (m : Fin 32) (lost : Bool) (lec : Fin 8), s.canOn c = true → s.canCtl c 14 = false → (s.can[c]).isPend m = true →
      ∃ t, exec (.canTxFail c m lost lec) s = .next t ∧
        (bit (s.bufCfg c m) 9 = true → (t.can[c]).isPend m = false ∧ bit (t.bufStat c m) (if lost then 13 else 12) = true) ∧
        (bit (s.bufCfg c m) 9 = false → (s.can[c]).isAbort m = true → (t.can[c]).isPend m = false) ∧
        (bit (s.bufCfg c m) 9 = false → (s.can[c]).isAbort m = false → (t.can[c]).isPend m = true)) ∧
    (∀ (st : Fin 3) (sync : Bool) (rec tec : Byte) (lec : Fin 8), s.canOn c = true →
      ∃ t, exec (.canErrorStateChange c st sync rec tec lec) s = .next t ∧ (t.can[c]).st = canStOf st ∧
        (t.can[c]).recErr = rec.toNat ∧ (t.can[c]).txErr = tec.toNat ∧
        (canStOf st ≠ (s.can[c]).st → eventBit t (evCAN_ERR c) = true)) ∧
    (s.dom 11 = true → (s.can[c]).st = .busOff → (s.can[c]).recovering = true → ∃ t, exec (.canBusoffRecovery c) s = .next t ∧
      (t.can[c]).st = .active ∧ (t.can[c]).recErr = 0 ∧ (t.can[c]).txErr = 0 ∧ eventBit t (evCAN_ERR c) = true)

/-! ### Axes (08_axes.md) -/

/-- R246, R257, R258, R266: START runs a STOPPED axis of an armed bank when its check passes, counts the start, and ends
STOPPED with CONFIG when it does not pass or with DISARM while the bank is not armed; STOP is controlled in RUN and in an
OPEN_LOOP ramp, where the target reads 0 from then on, immediate in the other start-up states, and ends a MOTOR_ID ABORTED;
COAST stops an axis in every state; the stall bit is cleared. Each is a legal write to AX_CMD of an axis whose domain is on;
for START no GATE_AMP of the axis was written in the same tick (R208). -/
def Obligations.AxisCommands : Prop :=
  ∀ (s : State) (a : Fin 24), s.up = true → s.hears = true → s.axOn a = true →
    (s.legal (axAddr A.AX_CMD a) 1 = true → s.ampsNow a = [] → (s.ax[a]).st = .stopped →
      ((s.bank[axBank a]).armed = true → s.startOk a = true → ∃ t, exec (.axisStart a) s = .next t ∧
        (t.ax[a]).st = s.firstState a ∧ (t.ax[a]).retries = 0 ∧ (t.ax[a]).ref = 0 ∧ (t.ax[a]).stopping = false ∧
        t.rd (axAddr A.AX_STARTS a) = w16 (satU ((s.rd (axAddr A.AX_STARTS a)).toNat + 1))) ∧
      ((s.bank[axBank a]).armed = true → s.startOk a = false → ∃ t, exec (.axisStart a) s = .next t ∧
        (t.ax[a]).st = .stopped ∧ (t.ax[a]).cause = .config ∧ eventBit t (evAXIS_WARN (axBank a)) = true ∧
        t.rd (axAddr A.AX_STARTS a) = w16 (satU ((s.rd (axAddr A.AX_STARTS a)).toNat + 1))) ∧
      ((s.bank[axBank a]).armed = false →
        exec (.axisStart a) s = .next (s.modAx a (fun x => { x with cause := .disarm })))) ∧
    ((s.ax[a]).st ≠ .stopped → s.legal (axAddr A.AX_CMD a) 1 = false) ∧
    (s.legal (axAddr A.AX_CMD a) 2 = true →
      ((s.ax[a]).stopping = false → (s.ax[a]).st = .run ∨ (s.ax[a]).st = .ramp ∧ s.axMode a = .openLoop →
        ∃ t, exec (.axisStop a) s = .next t ∧ (t.ax[a]).st = (s.ax[a]).st ∧ (t.ax[a]).stopping = true ∧ (t.ax[a]).tgt = 0 ∧
          t.rd (axAddr A.AX_TARGET a) = 0 ∧ ∀ a' : Fin 24, a' ≠ a → t.ax[a'] = s.ax[a']) ∧
      ((s.ax[a]).st = .saliency ∨ (s.ax[a]).st = .align ∨ (s.ax[a]).st = .retryWait ∨
          (s.ax[a]).st = .ramp ∧ (s.ax[a]).stopping = false ∧ s.axMode a ≠ .openLoop →
        ∃ t, exec (.axisStop a) s = .next t ∧ (t.ax[a]).st = .stopped ∧ (t.ax[a]).cause = .host) ∧
      (∀ i, (s.ax[a]).st = .ident → s.identSlot a = some i → ∃ t, exec (.axisStop a) s = .next t ∧
        (t.ops.slots[i]).st = .aborted ∧ (t.ops.slots[i]).fail = failHOST ∧ (t.ax[a]).parked = some .host) ∧
      ((s.ax[a]).st = .stopped → exec (.axisStop a) s = .next s)) ∧
    (s.legal (axAddr A.AX_CMD a) 3 = true →
      ((s.ax[a]).st = .stopped → exec (.axisCoast a) s = .next s) ∧
      ((s.ax[a]).st ≠ .stopped → ∃ t, exec (.axisCoast a) s = .next t ∧ (t.ax[a]).st = .stopped ∧ (t.ax[a]).cause = .host ∧
        ∀ a' : Fin 24, a' ≠ a → t.ax[a'] = s.ax[a'])) ∧
    (s.legal (axAddr A.AX_CMD a) 8 = true →
      exec (.axisStallClear a) s = .next (s.modAx a (fun x => { x with stall := false })))

/-- R242, R257, R259, R261, R265, R266 (Table AXIS-4): the transitions of an axis by time and by its inputs. Saliency leads to
ALIGN, not before its six pulses can have ended; ALIGN to RAMP in the sensorless and open-loop modes and to RUN in FOC_ENC;
RETRY_WAIT starts anew and counts; a stall counts and sets its bit, waits for a retry or stops the axis by the reaction
configured. A loop tick that its routed source has fired and that comes within 24.8 µs of the last step is skipped and
counted; a step of a STOPPED axis commands no duty and no channel; a step in IDENT gives the hold state once MOTOR_ID has
ended, and the axis is STOPPED. -/
def Obligations.AxisTransitions : Prop :=
  ∀ (s : State) (a : Fin 24), s.following = false →
    (∀ peaks, (s.ax[a]).st = .saliency → s.clk.ticks - (s.ax[a]).since < s.salTicks a →
      exec (.saliencyDone a peaks) s = .next s) ∧
    (∀ peaks, (s.ax[a]).st = .saliency → s.salTicks a ≤ s.clk.ticks - (s.ax[a]).since →
      ∃ t, exec (.saliencyDone a peaks) s = .next t ∧ (t.ax[a]).st = .align ∧
      (t.ax[a]).since = s.clk.ticks) ∧
    ((s.ax[a]).st = .align → msTicks (s.axReg A.AX_TALIGN a).toNat ≤ s.clk.ticks - (s.ax[a]).since →
      ((s.axMode a).sensorless = true ∨ s.axMode a = .openLoop → ∃ t, exec (.alignDone a) s = .next t ∧
        (t.ax[a]).st = .ramp ∧ (t.ax[a]).ifs = 0) ∧
      (s.axMode a = .focEnc → ∃ t, exec (.alignDone a) s = .next t ∧ (t.ax[a]).st = .run ∧ (t.ax[a]).runAt = s.clk.ticks)) ∧
    ((s.ax[a]).st = .align → s.clk.ticks - (s.ax[a]).since < msTicks (s.axReg A.AX_TALIGN a).toNat →
      exec (.alignDone a) s = .next s) ∧
    ((s.ax[a]).st = .retryWait → msTicks 100 ≤ s.clk.ticks - (s.ax[a]).since → ∃ t, exec (.retryWaitEnd a) s = .next t ∧
      (t.ax[a]).st = s.firstState a ∧ (t.ax[a]).retries = (s.ax[a]).retries ∧
      t.rd (axAddr A.AX_STARTS a) = w16 (satU ((s.rd (axAddr A.AX_STARTS a)).toNat + 1))) ∧
    (∀ crit : Fin 3, s.stallHolds a crit = true → ∃ t, exec (.stallDetected a crit) s = .next t ∧
      t.rd (axAddr A.AX_STALLCNT a) = w16 (satU ((s.rd (axAddr A.AX_STALLCNT a)).toNat + 1)) ∧
      (field (s.axReg A.AX_STALLCFG a) 1 0 = 2 → (t.ax[a]).stall = true ∧ (t.ax[a]).st = .run ∧
        eventBit t (evAXIS_WARN (axBank a)) = true) ∧
      (field (s.axReg A.AX_STALLCFG a) 1 0 = 1 → (s.ax[a]).retries < s.nretry a → (t.ax[a]).st = .retryWait ∧
        (t.ax[a]).retries = (s.ax[a]).retries + 1) ∧
      (field (s.axReg A.AX_STALLCFG a) 1 0 = 0 → (t.ax[a]).st = .stopped ∧ (t.ax[a]).cause = .stall)) ∧
    (∀ at' : Fin 200, (s.ax[a]).tickDue = 0 → exec (.engineStep at' a) s = .next s) ∧
    (∀ at' : Fin 200, s.axOn a = true → s.isAxis a = true → (s.routeTo 2 a.val).isSome = true → (s.ax[a]).tickDue ≠ 0 →
      (s.ax[a]).loopCnt = 0 →
      (∀ p, (s.ax[a]).lastCur = some p → s.clkAt at' < p + 4960 → ∃ t, exec (.engineStep at' a) s = .next t ∧
        t.rd (axAddr A.AX_SKIPCNT a) = w16 (satU ((s.rd (axAddr A.AX_SKIPCNT a)).toNat + 1)) ∧
        (t.ax[a]).lastCur = some p ∧ (t.ax[a]).tickDue = (s.ax[a]).tickDue - 1 ∧ t.tim = s.tim) ∧
      ((∀ p, (s.ax[a]).lastCur = some p → p + 4960 ≤ s.clkAt at') → (s.ax[a]).st = .ident → (s.ax[a]).parked.isSome = true →
        ∃ t, exec (.engineStep at' a) s = .next t ∧ (t.ax[a]).lastCur = some (s.clkAt at') ∧ (t.ax[a]).st = .stopped) ∧
      ((∀ p, (s.ax[a]).lastCur = some p → p + 4960 ≤ s.clkAt at') → (s.ax[a]).st = .stopped →
        ∃ t, exec (.engineStep at' a) s = .next t ∧ (t.ax[a]).lastCur = some (s.clkAt at') ∧ (t.ax[a]).st = .stopped ∧
          (srcAxis (s.tim[a]).act = true → (t.tim[a]).cmpStage.getLast?.any (fun p =>
            decide (s.clkAt at' ≤ p.1 ∧ p.1 ≤ s.clkAt at' + 1200) && p.2 == List.replicate 9 0) = true)))

/-- R247, R249, R251, R252, R276: a start that the routed source has fired begins the converter's sequence, or counts when one
runs; a conversion that ends stores its result, and the last one ends the sequence; without a fired start nothing begins. A
Hall edge whose level lasts through the filter shows its state and sector, the second bad reading in a row stops a Hall axis;
an encoder edge counts modulo AX_ENC_CPR, A leading B counting up (DEDUCED, notes/assumptions/14.md), and the first index edge
makes the count 0; an edge that the filter removes changes nothing. -/
def Obligations.ConvertersAndPosition : Prop :=
  (∀ (s : State) (c : Fin 24), s.convOn (axBank c) = true →
    ((s.routeTo 1 c.val).isSome = true → ((s.bank[axBank c]).conv[axSlot c]).due ≠ 0 →
      (((s.bank[axBank c]).conv[axSlot c]).resv = false → ((s.bank[axBank c]).conv[axSlot c]).run = none →
        ∃ t, exec (.converterStart c) s = .next t ∧ ((t.bank[axBank c]).conv[axSlot c]).run = some 0 ∧
          ((t.bank[axBank c]).conv[axSlot c]).due = ((s.bank[axBank c]).conv[axSlot c]).due - 1) ∧
      (((s.bank[axBank c]).conv[axSlot c]).run.isSome = true → ∃ t, exec (.converterStart c) s = .next t ∧
        t.rd (convAddr A.CONV_OVRCNT c) = w16 (satU ((s.rd (convAddr A.CONV_OVRCNT c)).toNat + 1)) ∧
        ((t.bank[axBank c]).conv[axSlot c]).run = ((s.bank[axBank c]).conv[axSlot c]).run)) ∧
    (((s.bank[axBank c]).conv[axSlot c]).due = 0 → exec (.converterStart c) s = .next s) ∧
    (∀ (at' : Fin 200) (k : Nat) (code : BitVec 12), ((s.bank[axBank c]).conv[axSlot c]).run = some k → k < 16 →
      ∃ t, exec (.conversionDone at' c code) s = .next t ∧
        t.rd (A.CONV_RES (axBank c).val (axSlot c).val k) =
          s.convWord (axBank c) ((s.convSeq c)[k]?.getD 0) code.toNat ∧
        (k + 1 < (s.convSeq c).length → ((t.bank[axBank c]).conv[axSlot c]).run = some (k + 1)) ∧
        ((s.convSeq c).length ≤ k + 1 → ((t.bank[axBank c]).conv[axSlot c]).run = none ∧
          t.rd (convAddr A.CONV_SEQCNT c) = s.rd (convAddr A.CONV_SEQCNT c) + 1))) ∧
  (∀ (s : State) (a : Fin 24) (held : Nat), s.hears = true → s.axOn a = true →
    (0 < field (s.axReg A.AX_HALLCFG a) 7 4 → held + 20 < 200 * field (s.axReg A.AX_HALLCFG a) 7 4 →
      (∀ h, exec (.hallEdge a ⟨h, held⟩) s = .next s) ∧
        ∀ track level, exec (.encoderEdge a track ⟨level, held⟩) s = .next s) ∧
    (field (s.axReg A.AX_HALLCFG a) 7 4 = 0 ∨ 200 * field (s.axReg A.AX_HALLCFG a) 7 4 + 20 < held →
      (s.axMode a ≠ .focEnc → ∀ h : Fin 8,
        (∀ k, s.hallSector a h.val = some k → ∃ t, exec (.hallEdge a ⟨h, held⟩) s = .next t ∧
          t.axReg A.AX_HALL a = w16 (k * 16 + h.val) ∧ (t.ax[a]).hallBad = 0 ∧ (t.ax[a]).st = (s.ax[a]).st) ∧
        (s.hallSector a h.val = none → (s.axMode a).hall = true → 1 ≤ (s.ax[a]).hallBad → (s.ax[a]).st ≠ .stopped →
          s.following = false → ∃ t, exec (.hallEdge a ⟨h, held⟩) s = .next t ∧ (t.ax[a]).st = .stopped ∧
            (t.ax[a]).cause = .hall)) ∧
      (s.axMode a = .focEnc → bit (s.axReg A.AX_ENCCFG a) 1 = false →
        ((s.lands.hall[a]).getLsbD 0 = false → (s.lands.hall[a]).getLsbD 1 = false →
          (∃ t, exec (.encoderEdge a 0 ⟨true, held⟩) s = .next t ∧
            t.axReg A.AX_ENCPOS a = wInt (((s.axReg A.AX_ENCPOS a).toNat + 1) % (s.axReg A.AX_ENC_CPR a).toNat) ∧
            (t.ax[a]).encTot = (s.ax[a]).encTot + 1 ∧ (t.lands.hall[a]).getLsbD 0 = true ∧
            (t.lands.hall[a]).getLsbD 1 = false) ∧
          (∃ t, exec (.encoderEdge a 1 ⟨true, held⟩) s = .next t ∧
            t.axReg A.AX_ENCPOS a =
              wInt ((((s.axReg A.AX_ENCPOS a).toNat : Int) - 1) % ((s.axReg A.AX_ENC_CPR a).toNat : Int)) ∧
            (t.ax[a]).encTot = (s.ax[a]).encTot - 1 ∧ (t.lands.hall[a]).getLsbD 0 = false ∧
            (t.lands.hall[a]).getLsbD 1 = true)) ∧
        (bit (s.axReg A.AX_ENCCFG a) 0 = true → (s.ax[a]).encIdx = false → ∃ t, exec (.encoderEdge a 2 ⟨true, held⟩) s = .next t ∧
          t.axReg A.AX_ENCPOS a = 0 ∧ (t.ax[a]).encIdx = true))))

/-! ### Ground motion and sections (09_ground_motion_sections.md) -/

/-- R284, R286, R287, R290, R291, R292: the inputs of the fusion. An edge of a wheel whose level the filter removes changes
nothing; a first count is accepted, a count far too early is noise and one of double length gains an inserted count; a
sentence whose frame fails is counted and a GGA sentence sets the fix word; a trigger starts an inertial sequence or is lost
while one runs, and its end gives the results of its steps; a SENT frame is checked by length and CRC; a host sample takes its
stamp. -/
def Obligations.MotionInputs : Prop :=
  ∀ s : State, s.fusOn = true → s.hears = true →
    (∀ (n : Fin 4) (trackB level : Bool) (held : Nat), s.fusCfg n.val ≠ 0 → held < 1000 * field (s.whlCfg n) 3 0 →
      exec (.wheelCount n trackB ⟨level, held⟩) s = .next s) ∧
    (∀ (n : Fin 4) (held : Nat), s.fusCfg n.val = 1 → bit (s.whlCfg n) 4 = false → 1000 * field (s.whlCfg n) 3 0 ≤ held →
      s.lands.whl.getLsbD (2 * n.val) = false → s.lands.whl.getLsbD (2 * n.val + 1) = false →
      ((s.fus.wheels[n]).last = none → ∃ t, exec (.wheelCount n false ⟨true, held⟩) s = .next t ∧
        t.lands.whl.getLsbD (2 * n.val) = true ∧ (t.fus.wheels[n]).cnt = (s.fus.wheels[n]).cnt + 1 ∧
        (t.fus.wheels[n]).last = some s.clk.ticks ∧
        (t.fus.wheels[n]).sgn = 1 ∧ t.rdQ2 (A.FUS_WHL_CNT n.val 0) = u32 ((s.fus.wheels[n]).cnt + 1)) ∧
      (∀ t0 : Nat, (s.fus.wheels[n]).last = some t0 → bit (s.whlCfg n) 8 = true → (s.fus.wheels[n]).hist.length = 4 →
        (s.fus.wheels[n]).sgn = 1 →
        300 * meanI (s.fus.wheels[n]).hist ≤ 1000 * ((s.rd (A.FUS_WHL_DPC n.val)).toNat : Rat) →
        (10 * ((s.clk.ticks - t0 : Nat) : Rat) < 4 * meanI (s.fus.wheels[n]).hist →
          ∃ t, exec (.wheelCount n false ⟨true, held⟩) s = .next t ∧ (t.fus.wheels[n]).cnt = (s.fus.wheels[n]).cnt ∧
            t.rd (A.FUS_WHL_NOISE n.val) = w16 (satU ((s.rd (A.FUS_WHL_NOISE n.val)).toNat + 1)) ∧
            eventBit t evWHL_NOISE = true) ∧
        (4 * meanI (s.fus.wheels[n]).hist ≤ 10 * ((s.clk.ticks - t0 : Nat) : Rat) →
          16 * meanI (s.fus.wheels[n]).hist ≤ 10 * ((s.clk.ticks - t0 : Nat) : Rat) →
          10 * ((s.clk.ticks - t0 : Nat) : Rat) ≤ 24 * meanI (s.fus.wheels[n]).hist →
          ∃ t, exec (.wheelCount n false ⟨true, held⟩) s = .next t ∧ (t.fus.wheels[n]).cnt = (s.fus.wheels[n]).cnt + 2 ∧
            t.rd (A.FUS_WHL_INS n.val) = w16 (satU ((s.rd (A.FUS_WHL_INS n.val)).toNat + 1)) ∧
            eventBit t evWHL_INSERT = true))) ∧
    (∀ (bytes : List Byte) (dollar : Nat), natBit (s.fusCfg 4) 0 = true → dollar ≤ s.clk.ticks →
      (nmeaBody (bytes.map (·.toNat)) = none → ∃ t, exec (.gnssSentence bytes false dollar) s = .next t ∧
        t.rd A.FUS_GNSS_ERR = w16 (satU ((s.rd A.FUS_GNSS_ERR).toNat + 1)) ∧ eventBit t evGNSS_ERR = true ∧
        t.fus = s.fus) ∧
      (∀ (body : List Nat) (n q : Nat), nmeaBody (bytes.map (·.toNat)) = some body →
        (nmeaField (nmeaFields body) 0).length = 5 → (nmeaField (nmeaFields body) 0).drop 2 = [0x47, 0x47, 0x41] →
        nmeaField (nmeaFields body) 7 ≠ [] → decNat (nmeaField (nmeaFields body) 7) 0 = some n →
        nmeaField (nmeaFields body) 6 ≠ [] → decNat (nmeaField (nmeaFields body) 6) 0 = some q →
        ∃ t, exec (.gnssSentence bytes false dollar) s = .next t ∧ field (t.rd A.FUS_GNSS_FIX) 11 4 = sat8 n ∧
          field (t.rd A.FUS_GNSS_FIX) 3 0 = min q 15 ∧ t.rd A.FUS_GNSS_ERR = s.rd A.FUS_GNSS_ERR)) ∧
    (∀ c : ImuCfg, s.imuCfg = some c →
      (s.fusCfg 5 = 1 → s.following = false → s.imuMay c = true →
        (s.fus.imu = none → exec .imuTrigger s = .next (s.modFus (fun f => { f with imu := some s.clk.ticks }))) ∧
        (s.fus.imu.isSome = true → ∃ t, exec .imuTrigger s = .next t ∧ t.fus = s.fus ∧
          t.rd A.FUS_IMU_LOST = w16 (satU ((s.rd A.FUS_IMU_LOST).toNat + 1)) ∧ eventBit t evIMU_ERR = true)) ∧
      (∀ (st : Nat) (tx : Nat) (w : BitVec 16), s.fus.imu = some st → c.steps = [⟨tx, 2, 1, 256, 0⟩] →
        ∃ t, exec (.imuSeqDone [w]) s = .next t ∧ t.fus.imu = none ∧
          t.rd (A.FUS_IMU 0) = wInt (clampI (-32767) 32767 w.toInt) ∧
          t.fus.imuYaw = putSample ⟨st, (clampI (-32767) 32767 w.toInt : Int)⟩ s.fus.imuYaw ∧ t.fus.imuAcc = s.fus.imuAcc)) ∧
    (∀ n : Fin 2, s.fusCfg (6 + n.val) ≠ 0 →
      (∀ (u st d1 d2 d3 d4 d5 d6 : Nat), calOk (56 * u) (s.fusCfg (6 + n.val)) (s.fus.sentCal[n]) = true →
        (∀ d ∈ [st, d1, d2, d3, d4, d5, d6], d < 16) →
        ∃ t, exec (.sentFrame n (56 * u :: [st, d1, d2, d3, d4, d5, d6, sentCrc [d1, d2, d3, d4, d5, d6]].map
            (fun d => u * (12 + d)))) s = .next t ∧
          field (t.rd A.FUS_SENT_STAT) (4 * n.val + 3) (4 * n.val) = st ∧
          t.rd (A.FUS_SENT_ERR n.val) = s.rd (A.FUS_SENT_ERR n.val)) ∧
      (∃ t, exec (.sentFrame n []) s = .next t ∧
        t.rd (A.FUS_SENT_ERR n.val) = w16 (satU ((s.rd (A.FUS_SENT_ERR n.val)).toNat + 1)) ∧ eventBit t evSENT_ERR = true ∧
        t.fus = s.fus)) ∧
    (∀ d : Word, s.up = true → natBit (s.fusCfg 8) 0 = true →
      (field d 1 0 = 1 → ∃ t, exec (.hostInject d) s = .next t ∧ t.fus.hostV = putSample
        ⟨extStamp s.clk.ticks (quant2 (s.staged (A.FUS_HINJ 1)) (s.staged (A.FUS_HINJ 2))), sInt (s.staged (A.FUS_HINJ 0))⟩
        s.fus.hostV ∧ t.fus.hostYaw = s.fus.hostYaw) ∧
      (field d 1 0 = 2 → ∃ t, exec (.hostInject d) s = .next t ∧ t.fus.hostYaw = putSample
        ⟨extStamp s.clk.ticks (quant2 (s.staged (A.FUS_HINJ 1)) (s.staged (A.FUS_HINJ 2))), sInt (s.staged (A.FUS_HINJ 0))⟩
        s.fus.hostYaw ∧ t.fus.hostV = s.fus.hostV))

/-- R293, R295, R298, R303 to R306: a publication gives the estimate of its fusion instant, with validity and speed 0 when no
source with weight is fresh, and sets the next instant, at the next multiple of E of TB modulo 2^48; a target whose predicted
time is within tCOMMIT is committed; a committed or late target fires in its tick: its section takes its state and SCH_LAST
and SCHED_FIRE tell of it. R302, R303, R306, R307: an insertion takes the lowest free index and answers with it, or is refused
and counted while the queue is full; a section command sets or clears the state of each target it names and of no other. -/
def Obligations.PublicationsAndSections : Prop :=
  ((∀ s : State, s.fusOn = true →
    (s.fus.next + 100 * s.fus.delay ≤ s.clk.ticks → ∃ t, exec .fusionPublication s = .next t ∧ t.fus.tk = some s.fus.next ∧
      t.rd A.FUS_PUBCNT = s.rd A.FUS_PUBCNT + 1 ∧ t.rd (A.FUS_EST 7) = wordOf (s.fus.next % 2 ^ 48) 0 ∧
      (s.fus.newSet = [] → 0 < s.fus.epoch → t.fus.epoch = s.fus.epoch ∧
        t.fus.next % 2 ^ 48 % (1000 * s.fus.epoch) = 0 ∧ s.fus.next < t.fus.next ∧
        t.fus.next ≤ s.fus.next + 1000 * s.fus.epoch) ∧
      ((∀ r ∈ s.readings s.fus.next, r.w = 0) → bit (t.rd (A.FUS_EST 0)) 15 = false ∧ t.rd (A.FUS_EST 3) = 0)) ∧
    (s.clk.ticks < s.fus.next + 100 * s.fus.delay → exec .fusionPublication s = .next s)) ∧
  (∀ (s : State) (i : Fin 256) (n : Fin 24) (e : Entry), s.fusOn = true → s.following = false →
    mapGet s.sched.q i.val = some e →
    (∀ p : Rat, e.tgt n.val = some (.pending (some p)) →
      (p - (s.clk.ticks : Rat) ≤ s.tcommit → ∃ t, exec (.scheduleCommit i n) s = .next t ∧
        ((mapGet t.sched.q i.val).bind (·.tgt n.val) = some (.committed (max p.floor.toNat (s.clk.ticks + 1))) ∨
          (mapGet t.sched.q i.val).bind (·.tgt n.val) = some (.committed (max (p.floor + 1).toNat (s.clk.ticks + 1))))) ∧
      ((s.tcommit : Rat) < p - (s.clk.ticks : Rat) → exec (.scheduleCommit i n) s = .next s)) ∧
    (∀ (at' : Fin 200) (c : Nat), e.tgt n.val = some (.committed c) →
      (c ≤ s.clk.ticks → ∃ t, exec (.scheduleFire at' i n) s = .next t ∧ eventBit t evSCHED_FIRE = true ∧
        (e.act ≠ actRATE → bit (t.rd (schStateAddr n)) (n.val % 16) = decide (e.act = actON)) ∧
        t.rd (A.SCH_LAST 0) = w16 i.val ∧ t.rd (A.SCH_LAST 1) = w16 n.val ∧
        (mapGet t.sched.q i.val = none ∨ (mapGet t.sched.q i.val).bind (·.tgt n.val) = some .fired)) ∧
      (s.clk.ticks < c → exec (.scheduleFire at' i n) s = .next s)) ∧
    (∀ (at' : Fin 200) (c : Nat), e.tgt n.val = some (.late c) → c ≤ s.clk.ticks →
      ∃ t, exec (.schedLateFire at' i n) s = .next t ∧ eventBit t evSCHED_FIRE = true ∧ eventBit t evSCHED_LATE = true ∧
        t.rd A.SCH_LATECNT = w16 (satU ((s.rd A.SCH_LATECNT).toNat + 1)) ∧
        (e.act ≠ actRATE → bit (t.rd (schStateAddr n)) (n.val % 16) = decide (e.act = actON)) ∧
        (mapGet t.sched.q i.val = none ∨ (mapGet t.sched.q i.val).bind (·.tgt n.val) = some .fired)))) ∧
  (∀ s : State, s.up = true → s.hears = true → s.fusOn = true →
    (∀ d : Word, s.legal A.SCH_IN_0 d = true →
      (∀ i, s.freeIndex = some i → ∃ t, exec (.scheduleInsert d) s = .next t ∧
        mapGet t.sched.q i = some ⟨field d 15 14, s.staged (A.SCH_IN_12 0),
          quant2 (s.staged (A.SCH_IN_45 0)) (s.staged (A.SCH_IN_45 1)),
          s.newTargets (s.stagedMask (A.SCH_IN_12 1) A.SCH_IN_3)
            (quant2 (s.staged (A.SCH_IN_45 0)) (s.staged (A.SCH_IN_45 1)))⟩ ∧
        (∀ j, j ≠ i → mapGet t.sched.q j = mapGet s.sched.q j) ∧
        ((∀ n, s.isLate (quant2 (s.staged (A.SCH_IN_45 0)) (s.staged (A.SCH_IN_45 1)) : Nat) n = false) →
          t.rd A.SCH_IN_RES = w16 (0x4000 + i))) ∧
      (s.freeIndex = none → ∃ t, exec (.scheduleInsert d) s = .next t ∧ t.sched = s.sched ∧ t.rd A.SCH_IN_RES = 0x8000 ∧
        t.rd A.SCH_FULLCNT = w16 (satU ((s.rd A.SCH_FULLCNT).toNat + 1)) ∧ eventBit t evSCHED_FULL = true)) ∧
    (∀ at' : Fin 200,
      (∃ t, exec (.schSectOn at') s = .next t ∧ eventBit t evHOST_SECT = true ∧ ∀ n : Fin 24,
        bit (t.rd (schStateAddr n)) (n.val % 16) =
          (natBit (s.stagedMask A.SCH_SECT_1 A.SCH_SECT_2) n.val || bit (s.rd (schStateAddr n)) (n.val % 16))) ∧
      (∃ t, exec (.schSectOff at') s = .next t ∧ eventBit t evHOST_SECT = true ∧ ∀ n : Fin 24,
        bit (t.rd (schStateAddr n)) (n.val % 16) =
          (!natBit (s.stagedMask A.SCH_SECT_1 A.SCH_SECT_2) n.val && bit (s.rd (schStateAddr n)) (n.val % 16))) ∧
      (∃ t, exec (.schSectRate at') s = .next t ∧ eventBit t evHOST_SECT = true ∧
        t.rd A.SCH_STATE_LO = s.rd A.SCH_STATE_LO ∧ t.rd A.SCH_STATE_HI = s.rd A.SCH_STATE_HI)))

/-! ### Seed drop association (10_drop_association.md) -/

/-- R320, R321, R322, R327, R332, R333, R336, R339: a leading edge whose level the filter passes, outside the dead time,
enters the buffer of each row it feeds, and no other edge does; a close builds a batch for each row and queues it, and the
next close is at the next multiple of A of TB modulo 2^48; the free solver takes the front batch; its result is counted and
published, and a failed self-check discards it; the two clears. -/
def Obligations.DropAssociation : Prop :=
  (∀ s : State, s.solOn = true →
    (∀ (i : Fin 24) (level : Bool) (held : Nat), s.hears = true →
      (level ≠ bit (s.rd A.SOL_SEEDCFG) 15 ∨ held < 1000 * field (s.rd A.SOL_SEEDCFG) 13 8 ∨ s.seedOpen i = false →
        exec (.seedEdge ⟨i, level, held⟩) s = .next s) ∧
      (level = bit (s.rd A.SOL_SEEDCFG) 15 → 1000 * field (s.rd A.SOL_SEEDCFG) 13 8 ≤ held → s.seedOpen i = true →
        ∃ t, exec (.seedEdge ⟨i, level, held⟩) s = .next t ∧ t.sol.seeds[i] = some s.clk.ticks ∧
        (∀ r ∈ s.rowsFrom i, (s.sol.rows[r]).obs.length < 64 →
          (t.sol.rows[r]).obs = insertDrop ⟨s.clk.ticks, false⟩ (s.sol.rows[r]).obs) ∧
        (∀ r ∈ s.rowsFrom i, 64 ≤ (s.sol.rows[r]).obs.length → (t.sol.rows[r]).obs = (s.sol.rows[r]).obs ∧
          t.rd (A.SOL_SEEDOVF r.val) = w16 (satU ((s.rd (A.SOL_SEEDOVF r.val)).toNat + 1)) ∧
          eventBit t evSEED_OVF = true) ∧
        (∀ r, r ∉ s.rowsFrom i → t.sol.rows[r] = s.sol.rows[r]))) ∧
    (s.sol.next ≤ s.clk.ticks → ∃ t, exec .associationEpochClose s = .next t ∧
      (0 < field (s.rd A.SOL_CTL) 6 0 → t.sol.next % 2 ^ 48 % (1000 * field (s.rd A.SOL_CTL) 6 0) = 0 ∧
        s.sol.next < t.sol.next ∧ t.sol.next ≤ s.sol.next + 1000 * field (s.rd A.SOL_CTL) 6 0) ∧
      (∀ r ∈ s.rowList, (s.sol.rows[r]).batch = none →
        (t.sol.rows[r]).batch = some ⟨s.sol.next, (s.rd A.SOL_GMAX).toNat, batchOf s.sol.next (s.sol.rows[r]).exps,
          batchOf s.sol.next (s.sol.rows[r]).obs⟩ ∧
        (t.sol.rows[r]).exps = batchRest s.sol.next (s.sol.rows[r]).exps ∧
        (t.sol.rows[r]).obs = batchRest s.sol.next (s.sol.rows[r]).obs) ∧
      ((∀ r : Fin 24, (s.sol.rows[r]).batch = none) → t.sol.queue = s.sol.queue ++ s.rowList.map (·.val))) ∧
    (s.clk.ticks < s.sol.next → exec .associationEpochClose s = .next s) ∧
    (∀ (n : Nat) (q : List Nat) (b : Batch), s.sol.solving = none → s.sol.paused = false → s.testsSolver = false →
      s.sol.queue = n :: q → (s.sol.rows[fin24 n]).batch = some b → ∃ t, exec .solveStart s = .next t ∧
        t.sol.solving = some (n, b) ∧ t.sol.queue = q ∧ (t.sol.rows[fin24 n]).batch = none) ∧
    (∀ (n : Nat) (b : Batch) (dur : Word), s.sol.solving = some (n, b) →
      (∃ t, exec (.solveDone true dur) s = .next t ∧ t.sol.solving = none ∧
        t.rd A.SOL_TMAX = w16 (max (s.rd A.SOL_TMAX).toNat dur.toNat) ∧
        t.rd (A.SOL_EPOCHCNT (fin24 n).val) = s.rd (A.SOL_EPOCHCNT (fin24 n).val) + 1 ∧
        t.rd (A.SOL_LAST_N (fin24 n).val) = w16 (256 * b.exps.length + b.obs.length) ∧
        t.rd (A.SOL_LAST_M (fin24 n).val) = w16 (errorsOf (b.expFates (assign b.gate b.exps b.obs))).length ∧
        t.rdQ2 (A.SOL_CNT (fin24 n).val 2) = (s.rdQ2 (A.SOL_CNT (fin24 n).val 2) +
          (errorsOf (b.expFates (assign b.gate b.exps b.obs))).length) % 2 ^ 32) ∧
      (∃ t, exec (.solveDone false dur) s = .next t ∧ t.sol.solving = none ∧ t.sol.paused = true ∧
        t.rd A.SOL_FAULTCNT = w16 (satU ((s.rd A.SOL_FAULTCNT).toNat + 1)) ∧ eventBit t evSOL_FAULT = true)) ∧
    exec .solverStoreCleared s = .next (s.modSol (fun o => { o with paused := false }))) ∧
  (∀ (s : State) (r : Fin 24), s.up = true → s.hears = true → s.solOn = true → r.val < s.rowCount →
    (∃ t, exec (.solClrCounters r) s = .next t ∧ ∀ k, k < 8 → t.rd (A.SOL_CNT r.val k) = 0) ∧
    (∃ t, exec (.solClrWindow r) s = .next t ∧ (t.sol.rows[r]).wE = 0 ∧ (t.sol.rows[r]).wM = 0 ∧ (t.sol.rows[r]).wS = 0 ∧
      (t.sol.rows[r]).wX = 0 ∧ (t.sol.rows[r]).wN = 0 ∧ t.regs = s.regs))

/-! ### Events and recorder (11_events_recorder.md) -/

/-- R341, R342, R344 to R348, R355: a status bit written as 1 is cleared but for one set in this tick; of the records that are
due that of the first place in its tick is next (R104, R516), and goes to the slot it may take with the next sequence number,
or counts as a repeat of its partition's last record; while it has to go to the hold FIFO no slot and no sequence number
changes; REC_CLR empties the general partition alone. R352, R353, R354: a freeze waits for the end of its tick; a thaw by the
host or after 100,000 ticks ends it, and REC_THAW follows when the FIFO is empty; a drain writes the FIFO's entries with held
= 1. -/
def Obligations.EventRecorder : Prop :=
  ((∀ (s : State) (g : Fin 8) (d : Word), s.up = true → s.hears = true → ∃ t, exec (.evtStatClear g d) s = .next t ∧
    (∀ i, i < 16 → bit (t.rd (A.EVT_STAT g.val)) i =
      (bit (s.rd (A.EVT_STAT g.val)) i && (!bit d i || bit (s.freshAt (A.EVT_STAT g.val)) i))) ∧
    ∀ a, a ≠ A.EVT_STAT g.val → t.rd a = s.rd a) ∧
  (∀ (s : State) (x : Raised), s.up = true → nextDue s.rcd.due = some x →
    (x ∈ s.rcd.due ∧ ∀ y ∈ s.rcd.due, y.tb = x.tb → x.place ≤ y.place) ∧
    (s.viaFifo = true → ∃ t, exec .recordWrite s = .next t ∧ t.rcd.slots = s.rcd.slots ∧ t.rcd.seq = s.rcd.seq) ∧
    (∀ k, s.viaFifo = false → (∀ y, s.rcd.last (toProt s.rcd.p x.sev) = some y → sameEv y x = false) →
      s.rcd.target (toProt s.rcd.p x.sev) x.sev = some k → (x.sev.high = false ∨ s.store.jq.length < 32) →
      ∃ t, exec .recordWrite s = .next t ∧ t.rcd.due = s.rcd.due.erase x ∧ t.rcd.seq = s.rcd.seq + 1 ∧
        (∀ n, n ≠ k → t.rcd.at n = s.rcd.at n) ∧
        ∃ r, t.rcd.at k = some r ∧ r.ev = x ∧ r.seq = s.rcd.seq ∧ r.held = false ∧ r.rep = 0 ∧
          r.prot = toProt s.rcd.p x.sev) ∧
    (∀ (k : Nat) (y : Record), s.viaFifo = false → (if toProt s.rcd.p x.sev then s.rcd.lastP else s.rcd.lastG) = some k →
      s.rcd.at k = some y → sameEv y.ev x = true → ∃ t, exec .recordWrite s = .next t ∧ t.rcd.due = s.rcd.due.erase x ∧
        t.rcd.seq = s.rcd.seq ∧ (t.rcd.at k).map (·.rep) = some (satU (y.rep + 1)) ∧
        (t.rcd.at k).map (·.rtime) = some (repTime y.ev.tb x.tb) ∧ ∀ n, n ≠ k → t.rcd.at n = s.rcd.at n)) ∧
  (∀ s : State, s.up = true → s.hears = true →
    (s.rcd.due = [] → ∃ t, exec .recClr s = .next t ∧ (∀ n, s.rcd.p ≤ n → t.rcd.at n = none) ∧
      (∀ n, n < s.rcd.p → t.rcd.at n = s.rcd.at n) ∧ t.rcd.seq = s.rcd.seq))) ∧
  ((∀ s : State, s.up = true → s.hears = true →
    (s.rcd.frozen = false → exec .recorderFreeze s = .next (s.modRcd (fun r => { r with freezePend := true }))) ∧
    (s.rcd.frozen = true → exec .recorderFreeze s = .next s) ∧
    (s.rcd.frozen = false → exec .recorderThaw s = .next (s.modRcd (fun r => { r with freezePend := false }))) ∧
    (s.rcd.frozen = true → s.rcd.due = [] → ∃ t, exec .recorderThaw s = .next t ∧ t.rcd.frozen = false ∧
      t.rcd.freezePend = false ∧
      (s.rcd.fifo ≠ [] → t.rcd.draining = true ∧ t.rcd.thaw = some .host ∧ t.rcd.fifo = s.rcd.fifo) ∧
      (s.rcd.fifo = [] → t.rcd.draining = false ∧ eventBit t evREC_THAW = true))) ∧
  (∀ s : State, s.up = true → s.rcd.frozen = true →
    (s.clk.ticks - s.rcd.frozeAt < 100000 → exec .freezeTimeout s = .next s) ∧
    (100000 ≤ s.clk.ticks - s.rcd.frozeAt → s.rcd.due = [] → ∃ t, exec .freezeTimeout s = .next t ∧ t.rcd.frozen = false ∧
      (s.rcd.fifo = [] → eventBit t evREC_THAW = true) ∧ (s.rcd.fifo ≠ [] → t.rcd.thaw = some .timeout)) ∧
    exec .holdFifoDrain s = .next s) ∧
  (∀ (s : State) (e : HoldEntry) (c : ThawCause) (k : Nat), s.up = true → s.rcd.frozen = false → s.rcd.fifo = [e] →
    s.rcd.thaw = some c → s.rcd.wrote < 64 → e.ev.sev.high = false →
    (∀ y, s.rcd.last (toProt s.rcd.p e.ev.sev) = some y → sameEv y e.ev = false) →
    s.rcd.target (toProt s.rcd.p e.ev.sev) e.ev.sev = some k → ∃ t, exec .holdFifoDrain s = .next t ∧ t.rcd.fifo = [] ∧
      t.rcd.draining = false ∧ eventBit t evREC_THAW = true ∧ (s.rcd.ovf = true → eventBit t evREC_HOLDOVF = true) ∧
      ∃ r, t.rcd.at k = some r ∧ r.ev = e.ev ∧ r.held = true ∧ r.rep = satU e.rep))

/-! ### Supplies and hold-up (12_supplies_holdup.md) -/

/-- R379, R380, R381, R384: the estimate of every 1 ms stores its measurements and E, raises HOLDUP_LOW and VBAK_LOW and
switches the charger; a VIO below VIO_UV takes the device-wide reaction, and VIO's return is noted.
R367, R368, R370 (Table PWR-5): the request bits; in MAIN and with no sequence running a cleared bit switches its domain off
at once and a set one puts the domain into the sequence; a domain whose turn has come starts, and a ready one is on, with
DOMAIN_SW at the end of the sequence, and behind it the PWR_RESTORE that a warm restart owes (R377). -/
def Obligations.EnergyAndDomains : Prop :=
  ((∀ (s : State) (vmain vbak vio : Word),
    (s.pwr.st = .down → exec (.energyEstimate vmain vbak vio) s = .next s) ∧
    (s.pwr.st ≠ .down → ∃ t, exec (.energyEstimate vmain vbak vio) s = .next t ∧ t.rd A.PWR_VMAIN = vmain ∧
      t.rd A.PWR_VBAK = vbak ∧ t.rd A.PWR_VIO = vio ∧ t.rd A.PWR_ESTORED = w16 (s.energy vbak.toNat) ∧
      (s.pwr.st = .main → s.pwr.hlow = false → s.energy vbak.toNat < s.ereq → eventBit t evHOLDUP_LOW = true) ∧
      (s.pwr.st = .main → s.pwr.vbakArm = true → vbak.toNat < (s.rd A.PWR_VBAKLOW).toNat → eventBit t evVBAK_LOW = true) ∧
      (s.pwr.st = .main → bit (s.rd A.PWR_CFG) 15 = false → field (s.rd A.PWR_ICHG) 4 0 ≠ 0 →
        (vbak.toNat + 5 < (s.rd A.PWR_VCHG).toNat → t.pwr.charger = true) ∧
        ((s.rd A.PWR_VCHG).toNat ≤ vbak.toNat → t.pwr.charger = false)) ∧
      (s.pwr.st ≠ .main ∨ bit (s.rd A.PWR_CFG) 15 = true ∨ field (s.rd A.PWR_ICHG) 4 0 = 0 → t.pwr.charger = false))) ∧
  (∀ (s : State) (at' : Fin 200) (vio : Word),
    (s.pwr.vioOk = false → exec (.vioUv at' vio) s = .next s) ∧
    (s.pwr.vioOk = true → s.up = true → ∃ t, exec (.vioUv at' vio) s = .next t ∧ t.pwr.vioOk = false ∧
      t.rd A.PWR_VIO = vio ∧ t.safe.dev = true ∧ eventBit t evSAFE_DEV = true ∧ (∀ b : Fin 8, (t.bank[b]).armed = false) ∧
      (s.safe.dev = false → field (t.rd A.SAFE_CAUSE) 7 0 = causeVIO))) ∧
  (∀ s : State, s.pwr.vioOk = false →
    exec .vioOkRise s = .next (s.modPwr (fun p => { p with vioOk := true, vioAt := s.clk.ticks })))) ∧
  ((∀ (s : State) (at' : Fin 200) (d : Fin 12), s.up = true → s.hears = true →
    (∃ t, exec (.domainSwitchOn at' d) s = .next t ∧ t.rd A.PWR_DOM_REQ = (s.rd A.PWR_DOM_REQ ||| bitW d.val) &&& 0x0FFF ∧
      (s.pwr.st = .main → s.domBusy = false → s.domAvail.getLsbD d.val = true → s.dom d.val = false →
        t.pwr.starts.any (fun p => p.1 == d.val) = true)) ∧
    (∃ t, exec (.domainSwitchOff at' d) s = .next t ∧
      t.rd A.PWR_DOM_REQ = (s.rd A.PWR_DOM_REQ &&& ~~~ bitW d.val) &&& 0x0FFF ∧
      (s.pwr.st = .main → s.domBusy = false → t.dom d.val = false))) ∧
  (∀ (s : State) (d : Fin 12) (n : Nat), (d.val, n) ∈ s.pwr.starts → n ≤ s.clk.ticks → exec (.domainStart d) s =
    .next (s.modPwr (fun p =>
      { p with starts := p.starts.filter (fun q => q.1 != d.val), begun := p.begun ++ [d.val] }))) ∧
  (∀ (s : State) (d : Fin 12), d.val ∈ s.pwr.begun → s.pwr.changed = false → ∃ t, exec (.domainReady d) s = .next t ∧
    t.dom d.val = true ∧ t.pwr.begun = s.pwr.begun.filter (· != d.val) ∧
    (s.pwr.starts = [] → s.pwr.begun = [d.val] → eventBit t evDOMAIN_SW = true ∧
      (s.pwr.restore = true → eventBit t evPWR_RESTORE = true ∧ t.pwr.restore = false))))

/-- R371 to R374 (Table PWR-2): at t0 the banks are disarmed, PWR_LOSSCNT counts, PWR_LOSS is raised and a boot load ends
before its swap (R85, R89); the power path moves and the domains go off at their instants; the window ends at t0 + 200 µs; the
end of the flush is shown in PWR_FLUSHT and lets the state machine go on; a driver die's hold ends at its instant. -/
def Obligations.HandOver : Prop :=
  (∀ (s : State) (at' : Fin 200) (vmain vbak : Word),
    (s.pwr.st = .main → ∃ t, exec (.vmainFail at' vmain vbak) s = .next t ∧ t.pwr.st = .critical ∧ t.pwr.t0 = s.clk.ticks ∧
      t.pwr.step = 0 ∧ t.pwr.vmainOk = false ∧ t.rd A.PWR_LOSSCNT = w16 (satU ((s.rd A.PWR_LOSSCNT).toNat + 1)) ∧
      t.rd A.PWR_VMAIN = vmain ∧ t.rd A.PWR_VBAK = vbak ∧ eventBit t evPWR_LOSS = true ∧
      (∀ l, s.img.load = some l → l.slot = none → t.img.load = none) ∧
      ∀ b : Fin 8, (t.bank[b]).armed = false) ∧
    (s.pwr.st ≠ .main → exec (.vmainFail at' vmain vbak) s = .next s)) ∧
  (∀ (s : State) (at' : Fin 200), s.pwr.st = .critical →
    (s.clk.ticks < s.pwr.t0 + stepAt s.pwr.step → exec (.handoverStep at') s = .next s) ∧
    (s.pwr.t0 + stepAt s.pwr.step ≤ s.clk.ticks → s.pwr.step < 5 → ∃ t, exec (.handoverStep at') s = .next t ∧
      t.pwr.step = s.pwr.step + 1 ∧ (s.pwr.step = 0 → t.pwr.onVbak = true ∧ t.pwr.charger = false) ∧
      (s.pwr.step = 1 → t.dom 11 = false ∧ t.dom 9 = false) ∧ (s.pwr.step = 2 → t.dom 8 = false) ∧
      (s.pwr.step = 3 → t.dom 10 = false) ∧
      (s.pwr.step = 4 → (∀ d, d < 8 → t.dom d = false) ∧ eventBit t evDOMAIN_SW = true))) ∧
  (∀ s : State, s.pwr.st = .critical → 5 ≤ s.pwr.step →
    (s.clk.ticks < s.pwr.t0 + 200 → exec .criticalWindowEnd s = .next s) ∧
    (s.pwr.t0 + 200 ≤ s.clk.ticks → s.pwr.flushed = false → exec .criticalWindowEnd s =
      .next (s.modPwr (fun p => { p with st := .flush, dwell := if p.vmainOk then some s.clk.ticks else none }))) ∧
    (s.pwr.t0 + 200 ≤ s.clk.ticks → s.pwr.flushed = true → s.lands.deferred = false → ∃ t,
      exec .criticalWindowEnd s = .next t ∧ t.pwr.st = if s.pwr.vmainOk then .hold else .backup)) ∧
  (∀ s : State, s.flushing = true → (s.flushedAll = true ∨ s.flushRefused = true ∨ s.pwr.t0 + 100000 ≤ s.clk.ticks) →
    (s.pwr.st = .critical → exec .flushEnd s = .next ((s.wr A.PWR_FLUSHT (w16 (satU ((s.clk.ticks - s.pwr.t0) / 100)))).modPwr
      (fun p => { p with flushed := true }))) ∧
    (s.pwr.st = .flush → s.lands.deferred = false → ∃ t, exec .flushEnd s = .next t ∧ t.pwr.flushed = true ∧
      t.rd A.PWR_FLUSHT = w16 (satU ((s.clk.ticks - s.pwr.t0) / 100)) ∧ (s.pwr.dwell = none → t.pwr.st = .backup) ∧
      (∀ d, s.pwr.dwell = some d → s.clk.ticks < d + 20000 → t.pwr.st = .hold) ∧
      (∀ d, s.pwr.dwell = some d → d + 20000 ≤ s.clk.ticks → t.pwr.st = .main))) ∧
  (∀ (s : State) (at' : Fin 200) (b : Fin 8) (n : Nat), (s.bank[b]).hold = some n →
    (n ≤ s.clk.ticks → ∃ t, exec (.bankHoldEnd at' b) s = .next t ∧ (t.bank[b]).hold = none ∧ (t.bank[b]).hand = false) ∧
    (s.clk.ticks < n → s.pwr.st ≠ .down → exec (.bankHoldEnd at' b) s = .next s))

/-- R375 to R378, R384, R385 (Tables PWR-3, LAND-8): the dwell; the bounce count, which a start with VBAK alone does not arm,
and in MAIN VMAIN_OK as PWR_STAT shows it; the warm restart from HOLD, whose PWR_RESTORE comes at once or waits for its domains;
the CORE power-on from BACKUP, the loss of VBAK, and the AON power-on, which keeps the array, the key and the waiting commands
alone, and gives the straps at the lands (notes/assumptions/5.md). -/
def Obligations.RestartsAndDown : Prop :=
  (∀ s : State, s.pwr.st ≠ .main → s.pwr.st ≠ .down →
    (s.pwr.vmainOk = false → exec .vmainOkRise s = .next (s.modPwr (fun p =>
      { p with
        vmainOk := true, bounceArm := p.st != .backup || p.step != 0
        dwell := if p.st = .critical then none else some s.clk.ticks }))) ∧
    (∃ t, exec .vmainOkFall s = .next t ∧ t.pwr.vmainOk = false ∧ t.pwr.dwell = none ∧
      t.pwr.st = if s.pwr.st = .hold then .backup else s.pwr.st) ∧
    (s.pwr.bounceArm = true → ∃ t, exec .vmainBounce s = .next t ∧ t.pwr.dwell = none ∧ t.pwr.bounceArm = false ∧
      t.pwr.bounces = satU (s.pwr.bounces + 1) ∧ t.rd A.PWR_BOUNCECNT = w16 (satU ((s.rd A.PWR_BOUNCECNT).toNat + 1)) ∧
      eventBit t evPWR_BOUNCE = true) ∧
    (∃ t, exec .vbakMinLoss s = .next t ∧ t.pwr.st = .down ∧ t.pwr.core = false ∧ t.pwr.on = 0 ∧ t.lands.inReset = true)) ∧
  (∀ s : State, s.pwr.st = .main →
    (s.pwr.vmainOk = false → exec .vmainOkRise s = .next (s.modPwr (fun p => { p with vmainOk := true }))) ∧
    exec .vmainOkFall s = .next (s.modPwr (fun p => { p with vmainOk := false })) ∧ exec .vmainBounce s = .next s) ∧
  (∀ (s : State) (d : Nat), s.pwr.dwell = some d → d + 20000 ≤ s.clk.ticks →
    (s.pwr.st = .hold → s.lands.inReset = false → ∃ t, exec .dwellComplete s = .next t ∧ t.pwr.st = .main ∧
      t.rd A.PWR_START = 3 ∧ eventBit t evRESET = true ∧ (5 ≤ s.pwr.step →
        (t.pwr.restore = true ∨ eventBit t evPWR_RESTORE = true) ∧
        t.rd A.PWR_LASTOUT = w16 (satU ((s.clk.ticks - s.pwr.t0) / 1000)) ∧ t.rd A.PWR_LASTBNC = w16 s.pwr.bounces)) ∧
    (s.pwr.st = .backup → s.pwr.vioOk = true → s.lands.rstN = false → s.lands.tapHold = false → ∃ t,
      exec .dwellComplete s = .next t ∧ t.pwr.st = .main ∧ t.up = true ∧ t.rd A.PWR_START = 1 ∧ eventBit t evRESET = true ∧
        (5 ≤ s.pwr.step → eventBit t evPWR_RESTORE = true)) ∧
    (s.pwr.st = .flush → exec .dwellComplete s = .next s)) ∧
  (∀ (s : State) (v : Bool) (x : Straps), s.img.keyRun = false → ∃ t, exec (.aonPowerOn ⟨v, x⟩) s = .next t ∧
    (s.store.burst = none → (∀ c, s.store.comp = some c → c.erasing = false) → t.store.mem = s.store.mem) ∧
    t.img.key = s.img.key ∧ t.img.keySt = s.img.keySt ∧ t.pending = s.pending ∧ t.clk.ticks = 0 ∧
    t.pwr.st = (if v then .main else .backup) ∧ t.pwr.core = v ∧ t.pwr.on = 0 ∧ t.lands.inReset = true ∧
    t.lands.strapBoot = x.boot.val ∧ t.lands.strapPair = x.id.val ∧ t.lands.strapOpen = x.opens ∧
    ∀ a, a ≠ A.IMG_KEYCHK → t.rd a = resetOf a)

/-! ### Journal store (13_journal_store.md) -/

/-- R393, R395, R396: a write and a delete load the stage with the next sequence number, or are refused with STAGE or KEY; a
read marks itself busy and ends with the value of the key, its length and its sequence number, or ABSENT. -/
def Obligations.StoreCommands : Prop :=
  (∀ (s : State) (len : Byte) (words : List Word) (i : Instr), s.up = true → s.hears = true →
    (i = .storeWrite len ∧ words = s.rds (A.STORE_WBUF 0) len.toNat ∧ s.legal (A.STORE_WR 0) (w16 (0x4000 + len.toNat)) = true ∨
      i = .storeDelete ∧ words = []) →
    (s.store.mounting = false → s.store.wst ≠ .pending → s.store.wst ≠ .busy → s.store.wst ≠ .deferred →
      (field (s.staged (A.STORE_WR 1)) 9 0 < 896 → exec i s = .next (s.modStore (fun t =>
        { t with
          stage := some ⟨field (s.staged (A.STORE_WR 1)) 9 0, words, t.seq, t.order, false, false⟩, wst := .pending
          refusal := 0, wkey := field (s.staged (A.STORE_WR 1)) 9 0, seq := (t.seq + 1) % 2 ^ 32, order := t.order + 1 }))) ∧
      (896 ≤ field (s.staged (A.STORE_WR 1)) 9 0 → exec i s = .next (s.modStore (fun t => { t with refusal := 2 })))) ∧
    (s.store.mounting = true ∨ s.store.wst = .pending ∨ s.store.wst = .busy ∨ s.store.wst = .deferred →
      exec i s = .next (s.modStore (fun t => { t with refusal := 1 })))) ∧
  (∀ (s : State) (key : Fin 1024), s.up = true → s.hears = true → ∃ t, exec (.storeRead key) s = .next t ∧
    t.rd A.STORE_RRES = 0x4000 ∧ t.store.rd = some key.val ∧ t.store.mem = s.store.mem) ∧
  (∀ (s : State) (key : Nat), s.store.rd = some key → s.store.mounting = false →
    (s.valueOf key = none → ∃ t, exec .storeReadDone s = .next t ∧ t.store.rd = none ∧ t.rd A.STORE_RRES = 0xC000) ∧
    (∀ x, s.valueOf key = some x → ∃ t, exec .storeReadDone s = .next t ∧ t.store.rd = none ∧
      t.rd A.STORE_RRES = w16 (32768 + x.n) ∧ t.rdQ2 (A.STORE_RSEQ 0) = x.seq ∧
      ∀ i, i < x.n → t.rd (A.STORE_RBUF i) = w16 (leNat (s.arr (x.addr + 8 + 2 * i) 2))))

/-- R397, R398, R400 to R403, R405: the oldest waiting item is programmed at the head when it fits and the gate is open, goes
BUSY when there is no room, and is deferred by a closed gate; a burst that read back is followed by its marker, and the marker
commits the item; of one that did not, the array lacks a part (the place is free: the model's choice, notes/assumptions/34.md);
a compaction that has copied its sector marks it for release and then erases it; a copy that does not read
back seals the head and is tried once more, and a second failure ends the step, with it a COMPACT as FAILED with STORE; the
mount. -/
def Obligations.StoreEngine : Prop :=
  (∀ (s : State) (h : HostStage), s.pwr.core = true → s.store.mounting = false → s.store.burst = none → s.store.comp = none →
    s.store.jq = [] → s.store.stage = some h → s.store.wst = .pending →
    (h.words = [] → s.valueOf h.key = none → exec .storeAppend s = .next (s.endStage .committed)) ∧
    (h.words ≠ [] → s.store.toErase = [] →
      (∀ n, s.headFits (recSize h.words.length) = some n →
        (s.gateOpen (burstCost (recSize h.words.length)) = true → ∃ t, exec .storeAppend s = .next t ∧
          t.store.mem = cellWrs 0xFF s.store.mem (secBase n + s.store.pos) (recBytes h.key false h.words h.seq) ∧
          t.store.burst.isSome = true) ∧
        (s.gateOpen (burstCost (recSize h.words.length)) = false → ∃ t, exec .storeAppend s = .next t ∧
          t.store.wst = .deferred ∧ t.store.mem = s.store.mem ∧ (h.told = false → eventBit t evCOMMIT_DEFER = true ∧
            t.rd A.STORE_DEFCNT = w16 (satU ((s.rd A.STORE_DEFCNT).toNat + 1))))) ∧
      (s.headFits (recSize h.words.length) = none → s.storeFree = 0 → ∃ t, exec .storeAppend s = .next t ∧
        t.store.wst = .busy ∧ t.store.mem = s.store.mem ∧ eventBit t evSTORE_BUSY = true ∧
        t.rd A.STORE_BUSYCNT = w16 (satU ((s.rd A.STORE_BUSYCNT).toNat + 1))))) ∧
  (∀ (s : State) (host : Bool) (n a : Nat), s.store.gateWait = false →
    (s.store.burst = some (.record host n (some a)) → s.gateOpen 1 = true → ∃ t, exec (.programBurstDone true) s = .next t ∧
      t.store.mem = cellWrs 0xFF s.store.mem a (leBytes 4 markerM) ∧ t.store.burst = some (.record host n none)) ∧
    (s.store.burst = some (.record true n none) → ∃ t, exec (.programBurstDone true) s = .next t ∧ t.store.burst = none ∧
      t.store.wst = .committed ∧ t.store.stage = none ∧ t.store.mem = s.store.mem) ∧
    (s.store.burst = some (.record host n none) ∨ s.store.burst = some (.record host n (some a)) → ∃ t,
      exec (.programBurstDone false) s = .next t ∧ t.store.burst = none ∧ t.store.sealed = true ∧
      t.rd A.STORE_ERRLAST = w16 n ∧ eventBit t evSTORE_ERR = true ∧ BurstTorn s t)) ∧
  (∀ (s : State) (c : Comp), s.pwr.core = true → s.store.mounting = false → s.store.burst = none →
    s.store.comp = some c → c.erasing = false → c.todo = [] →
    (c.released = false → s.gateOpen 1 = true → ∃ t, exec .compactionStep s = .next t ∧
      t.store.mem = cellWrs 0xFF s.store.mem (secBase c.victim + 20) (leBytes 4 markerM) ∧
      t.store.burst = some (.release c.victim)) ∧
    (c.released = true → s.gateOpen 2 = true → ∃ t, exec .compactionStep s = .next t ∧ t.secErased c.victim = true ∧
      (∀ a, a < secBase c.victim ∨ secBase (c.victim + 1) ≤ a → cellRd 0xFF t.store.mem a = cellRd 0xFF s.store.mem a) ∧
      ∃ c', t.store.comp = some c' ∧ c'.erasing = true)) ∧
  (∀ (s : State) (c : Comp) (n : Nat) (m : Option Nat), s.store.gateWait = false → s.store.burst = some (.copy n m) →
    s.store.comp = some c → ∃ t, exec (.programBurstDone false) s = .next t ∧ t.store.burst = none ∧ t.store.sealed = true ∧
      t.rd A.STORE_ERRLAST = w16 n ∧ eventBit t evSTORE_ERR = true ∧ BurstTorn s t ∧
      (c.tried = false → t.store.comp = some { c with tried := true }) ∧
      (c.tried = true → t.store.comp = none ∧ (c.why = .operation → ∀ i : Fin 8, s.running opCOMPACT = some i →
        (s.ops.slots[i]).abort = none → (t.ops.slots[i]).st = .failed ∧ (t.ops.slots[i]).fail = failSTORE))) ∧
  (∀ s : State, s.store.mounting = false → s.running opCOMPACT = none →
    (s.storeFree < field (s.rd A.STORE_COMPCFG) 7 0 →
      exec .backgroundCompaction s = .next (s.modStore (fun t => { t with back := true }))) ∧
    (field (s.rd A.STORE_COMPCFG) 7 0 ≤ s.storeFree → exec .backgroundCompaction s = .next s)) ∧
  (∀ s : State, s.store.mounting = true → ∃ t, exec .storeMountDone s = .next t ∧ t.store.mounting = false ∧
    t.store.mem = s.store.mem ∧ t.store.head = s.mountHead ∧
    t.store.toErase = jSectors.filter (fun n => !s.secErased n && !s.secValid n))

/-! ### The redundant pair (14_pair.md) -/

/-- R417 to R422, R435 (Tables PAIR-1, PAIR-5, PAIR-8): a new level of PAIR_OWN_IN is taken while VIO is up (R384), and a
collision of claims makes the device of the lower claim release; a claim after tCLAIM; the gate check; the host's HANDOVER and
CLEAR_LOCK and their results. -/
def Obligations.PairOwnership : Prop :=
  (∀ (s : State) (at' : Fin 200) (level equal : Bool), s.up = true →
    (s.hears = false ∨ s.pair.ownIn = level → exec (.pairOwnInChange at' level equal) s = .next s) ∧
    (s.hears = true → s.pair.ownIn ≠ level → ∃ t, exec (.pairOwnInChange at' level equal) s = .next t ∧ t.pair.ownIn = level ∧
      t.pair.ownAt = s.clkAt at' ∧
      (level = true → s.collides (s.clkAt at') = true → (equal = true ∨ s.lands.pairId = 1) →
        t.pair.owner = false ∧ eventBit t evPAIR_OWNER = true ∧ (equal = true → t.pair.idclash = true)) ∧
      (level = false ∨ s.collides (s.clkAt at') = false ∨ (equal = false ∧ s.lands.pairId ≠ 1) →
        t.pair.owner = s.pair.owner))) ∧
  (∀ (s : State) (at' : Fin 200), s.up = true → s.pair.owner = false → s.pair.lockout = false → s.pair.idclash = false →
    s.pair.ownIn = false → s.pair.take = none → (s.pair.ownfault = false ∨ s.pair.link ≠ .up) →
    (s.clkAt at' < s.pair.ownAt + s.tclaim → exec (.pairClaim at') s = .next s) ∧
    (s.pair.ownAt + s.tclaim ≤ s.clkAt at' → ∃ t, exec (.pairClaim at') s = .next t ∧ t.pair.owner = true ∧
      t.pair.ownCause = 1 ∧ t.pair.claimAt = some (s.clkAt at') ∧ eventBit t evPAIR_OWNER = true ∧
      ∀ b : Fin 8, (t.bank[b]).armed = false)) ∧
  (∀ (s : State) (at' : Fin 200) (b : Fin 8) (n : Nat), s.pair.gchk[b] = some n →
    (s.clkAt at' < n + 400 → exec (.gateCheckPass at' b) s = .next s) ∧
    (n + 400 ≤ s.clkAt at' → ∃ t, exec (.gateCheckPass at' b) s = .next t ∧ (t.bank[b]).flt = .leaving ∧
      t.pair.gchk[b] = none ∧ (s.pair.take = some .committed → t.pair.take = none ∧
        t.rd A.PAIR_LASTGAP = w16 (satU ((s.clkAt at' - s.pair.takeAt) / 20))))) ∧
  (∀ s : State, s.up = true → s.hears = true → s.dom 10 = true →
    (s.pair.owner = false → exec .handover s = .next (s.wr A.PAIR_CMDRES 0xC001)) ∧
    (s.pair.owner = true → s.pair.handPend = true → exec .handover s = .next s) ∧
    (s.pair.owner = true → s.pair.handPend = false → s.pair.link = .up → s.partnerOk = true → exec .handover s =
      .next ((s.wr A.PAIR_CMDRES 0x4001).modPair (fun p => { p with handPend := true }))) ∧
    (s.pair.owner = true → s.pair.handPend = false → (s.pair.link ≠ .up ∨ s.partnerOk = false) → exec .handover s =
      .next (s.wr A.PAIR_CMDRES 0x8001)) ∧
    (s.pair.lockout = false → exec .clearLock s = .next s) ∧
    (s.pair.lockout = true → ∃ t, exec .clearLock s = .next t ∧ t.pair.lockout = false ∧ t.rd A.PAIR_CMDRES = 0x4002)) ∧
  (∀ (s : State) (at' : Fin 200) (f : Mirror), s.pair.tx = some f → f.handover = true → s.pair.owner = true →
    s.pair.handPend = true → 200 * s.pair.mirrorAt + 15380 ≤ s.clkAt at' → ∃ t, exec (.handoverRelease at') s = .next t ∧
      t.pair.owner = false ∧ t.pair.handPend = false ∧ eventBit t evPAIR_OWNER = true ∧
      (s.pair.take = none → t.pair.ownCause = 6))

/-- R424, R425, R428 (Table PAIR-5b): the lanes and the link's states, one frame at each multiple of 100 µs with the content of
Table PAIR-3, the compatible HELLO that brings the link UP, and the third miss, at which a standby takes over a silent owner, or
begins to where PAIR_OWN_IN has read released for less than 2 µs (Table PAIR-8; for a release in an earlier tick the model's
reading, notes/assumptions/21.md). -/
def Obligations.PairLink : Prop :=
  (∀ s : State,
    (s.pair.link = .off ∨ s.pair.link = .lost → ∀ l : Fin 2, exec (.laneAligned l) s = .next s) ∧
    (s.pair.link = .train →
      (∃ t, exec (.laneAligned 0) s = .next t ∧ t.pair.lane0 = true ∧ t.pair.lane1 = s.pair.lane1 ∧
        t.pair.link = if s.pair.lane1 = true then .hello else .train) ∧
      (∃ t, exec (.laneAligned 1) s = .next t ∧ t.pair.lane1 = true ∧ t.pair.lane0 = s.pair.lane0 ∧
        t.pair.link = if s.pair.lane0 = true then .hello else .train)) ∧
    (∀ l : Fin 2, (s.pair.link = .hello → ∃ t, exec (.laneAlignmentLost l) s = .next t ∧ t.pair.link = .train) ∧
      (s.pair.link = .up → ∃ t, exec (.laneAlignmentLost l) s = .next t ∧ t.pair.link = .lost ∧ t.pair.sync = false ∧
        t.pair.lostAt = s.clk.ticks ∧ eventBit t evLINK_DOWN = true)) ∧
    (s.pair.link = .lost →
      (s.tretry ≤ s.clk.ticks - s.pair.lostAt → exec .linkRetryEnd s =
        .next (s.modPair (fun p => { p with link := .train, lane0 := false, lane1 := false }))) ∧
      (s.clk.ticks - s.pair.lostAt < s.tretry → exec .linkRetryEnd s = .next s)) ∧
    (s.tb % 100 ≠ 0 → exec .linkSlot s = .next s) ∧
    (s.tb % 100 = 0 → (s.pair.link = .up ∨ s.pair.link = .hello) → ∃ t, exec .linkSlot s = .next t ∧
      t.pair.txSeq = (s.pair.txSeq + 1) % 2 ^ 32 ∧ t.pair.link = s.pair.link ∧
      (s.pair.link = .hello → t.pair.txHello = some s.helloFrame) ∧
      (s.pair.link = .up → s.pair.owner = false → t.pair.txStatus = some s.statusFrame) ∧
      (s.pair.link = .up → s.pair.owner = true → t.pair.tx = some s.mirror ∧ t.pair.mirrorAt = s.clk.ticks))) ∧
  (∀ (s : State) (pairId : Bool) (imgId imgCrc : BitVec 32) (bankImg : Byte) (tags : List Word) (owner lockout : Bool),
    s.pair.link = .hello → ∃ t, exec (.helloReceived pairId imgId imgCrc bankImg tags owner lockout) s = .next t ∧
      t.pair.compat = s.helloMatches pairId imgId.toNat imgCrc.toNat bankImg.toNat tags ∧
      t.pair.link = (if t.pair.compat = true then .up else .hello) ∧
      (t.pair.compat = true → eventBit t evLINK_UP = true ∧ t.pair.sync = false) ∧
      (pairId = (s.lands.pairId == 1) → t.pair.idclash = true ∧ t.pair.compat = false) ∧
      (owner = false → s.pair.ownIn = true → t.pair.ownfault = true)) ∧
  (∀ (s : State) (at' : Fin 200), s.pair.link = .up →
    (s.clk.ticks - s.pair.frameAt < 101 → exec (.frameMissed at') s = .next s) ∧
    (101 ≤ s.clk.ticks - s.pair.frameAt → ∃ t, exec (.frameMissed at') s = .next t ∧
      t.rd A.PAIR_MISSCNT = w16 (satU ((s.rd A.PAIR_MISSCNT).toNat + 1)) ∧
      (s.pair.missed < 2 → t.pair.link = .up ∧ t.pair.missed = s.pair.missed + 1 ∧ t.pair.frameAt = s.clk.ticks) ∧
      (2 ≤ s.pair.missed → t.pair.link = .lost ∧ t.pair.sync = false ∧ eventBit t evLINK_DOWN = true ∧
        (s.mayTake = true → s.ownReleased (s.clkAt at') 0 = true → t.pair.owner = true ∧ t.pair.ownCause = 3 ∧
          t.rd A.PAIR_TAKECNT = w16 (satU ((s.rd A.PAIR_TAKECNT).toNat + 1))) ∧
        (s.mayTake = true → s.pair.ownIn = false → s.ownReleased (s.clkAt at') 0 = false →
          t.pair.take = some .seen ∧ t.pair.takeAt = s.pair.ownAt ∧ t.pair.takeCause = 3) ∧
        (s.mayTake = false ∨ s.ownReleased (s.clkAt at') 0 = false → t.pair.owner = s.pair.owner))))

/-- R429, R430, R433, R434 (Table PAIR-6): a good MIRROR frame shows the standby the owner's banks, timers and schedule, and
the 256th covered index makes it synchronised; a STATUS frame tells the owner; a release sequence starts the takeover, which
passes the role after 2 µs of a released PAIR_OWN_IN and then commits the state. A device-wide reaction or VMAIN_FAIL in any
step of the takeover abandons it (Table PAIR-8; before the role has passed the model's reading, notes/assumptions/21.md). -/
def Obligations.PairTakeover : Prop :=
  (∀ (s : State) (at' : Fin 200) (start : Nat) (f : Mirror), s.pair.link = .up → s.pair.owner = false →
    exec (.mirrorReceived at' false start f) s = .next (s.satInc A.PAIR_CRCCNT) ∧
    ∃ t, exec (.mirrorReceived at' true start f) s = .next t ∧ t.pair.missed = 0 ∧ t.pair.frameAt = s.clk.ticks ∧
      t.rd A.PAIR_PRECHEAD = f.recHead0 ∧ t.rdQ2 A.SCH_STATE_LO = f.schState % 2 ^ 32 ∧
      (∀ (b : Fin 8) (m : MirrorBank), f.banks[b.val]? = some m → (t.bank[b]).armed = m.armed) ∧
      (∀ (x : Fin 24) (m : MirrorTimer), f.timers[x.val]? = some m → t.rd (timAddr x 8) = m.chen) ∧
      t.pair.cover = coverWith s.pair.cover f.recs ∧ t.pair.sync = (s.pair.sync || t.pair.cover == allCovered)) ∧
  (∀ (s : State) (seq : BitVec 32) (ready : Byte) (cfgmis head0 : Word) (sync lockout fault : Bool), s.pair.link = .up →
    s.pair.owner = true → exec (.statusReceived seq ready cfgmis head0 sync lockout fault) s =
      .next ((s.wr A.PAIR_PRECHEAD head0).modPair (fun p =>
        { p with missed := 0, frameAt := s.clk.ticks, rdy := ready, partnerReady := sync && !lockout && !fault }))) ∧
  (∀ (s : State) (at' : Fin 200) (cause : Byte), s.pair.link ≠ .off → s.pair.link ≠ .lost →
    (cause.toNat = 7 → s.pair.owner = false → ∃ t, exec (.releaseSequenceReceived at' cause) s = .next t ∧
      t.pair.lockout = true ∧ t.pair.take = none ∧ t.pair.relCause = cause.toNat) ∧
    (cause.toNat = 4 ∨ cause.toNat = 5 ∨ cause.toNat = 6 ∨ cause.toNat = 8 → s.mayTake = true →
      exec (.releaseSequenceReceived at' cause) s = .next (s.modPair (fun p =>
        { p with relCause := cause.toNat, take := some .seen, takeAt := s.clkAt at', takeCause := 2 }))) ∧
    (cause.toNat ≠ 7 → s.mayTake = false → exec (.releaseSequenceReceived at' cause) s =
      .next (s.modPair (fun p => { p with relCause := cause.toNat })))) ∧
  (∀ (s : State) (at' : Fin 200), s.pair.take = some .seen → s.pair.lockout = false →
    (s.ownReleased (s.clkAt at') s.pair.takeAt = false → exec (.takeoverQualified at') s = .next s) ∧
    (s.ownReleased (s.clkAt at') s.pair.takeAt = true → ∃ t, exec (.takeoverQualified at') s = .next t ∧
      t.pair.owner = true ∧ t.pair.ownCause = s.pair.takeCause ∧ t.pair.take = some .owner ∧
      t.rd A.PAIR_TAKECNT = w16 (satU ((s.rd A.PAIR_TAKECNT).toNat + 1)) ∧ eventBit t evPAIR_OWNER = true)) ∧
  (∀ (s : State) (at' : Fin 200), s.pair.take = some .owner → ∃ t, exec (.takeoverCommit at') s = .next t ∧
    t.pair.take = (if s.anyBankOn = true then some .committed else none) ∧
    t.sched.q = s.sched.q.map (fun p => (p.1, p.2.uncommit)) ∧
    ∀ a : Fin 24, s.ax[a].st = .ident ∨ s.ax[a].st = .stopped → t.ax[a].st = .stopped) ∧
  (∀ (s : State) (at' : Fin 200) (group vmain vbak : Word), s.up = true → s.pwr.st = .main → s.pair.take.isSome = true →
    ∀ i ∈ [.supervisorMismatch at' group, .vmainFail at' vmain vbak], ∃ t, exec i s = .next t ∧ t.pair.owner = false ∧
      t.pair.take = none ∧ t.pair.ownCause = 10 ∧ eventBit t evPAIR_OWNER = true)

/-! ### Resets and the test port (16_lands_reset.md) -/

/-- R481 to R483, R486, R489, R383 (Table LAND-8): a source of reset starts one, which disarms the banks and switches every
domain off, or waits in a hand-over; the end of the last source releases the device with the straps read, PWR_START and RESET,
and a strap that is neither open nor changing in its window reads the level at its land (R480), which a recognised RST_N low
gives along with which straps are open (notes/assumptions/5.md). The registers of the fusion, the schedule, the solver and CAN
then hold their reset values. R484, R486 (Table LAND-9): EXTEST, HIGHZ and CLAMP hold the device in reset; under IDCODE,
SAMPLE/PRELOAD, BYPASS and after a TAP reset a hold ends, IDCODE shifts out its word and SAMPLE/PRELOAD its cells. Without VIO
the port does nothing. -/
def Obligations.ResetsAndTestPort : Prop :=
  ((∀ (s : State) (at' : Fin 200), s.up = true → s.hears = true →
    (∀ low, low.width < 100 → exec (.rstNAssert at' low) s = .next s) ∧
    (∀ low, 1000 ≤ low.width → ∃ t, exec (.rstNAssert at' low) s = .next t ∧ t.lands.strapBoot = low.straps.boot.val ∧
      t.lands.strapPair = low.straps.id.val ∧ t.lands.strapOpen = low.straps.opens) ∧
    (∀ i : Instr, (i = .softwareReset at' ∨ ∃ low, 1000 ≤ low.width ∧ i = .rstNAssert at' low) →
      (s.pwr.st ≠ .critical → s.pwr.st ≠ .flush → ∃ t, exec i s = .next t ∧ t.lands.inReset = true ∧
        t.lands.start = startRST ∧ (i = .softwareReset at' → t.lands.lastSw = true) ∧ t.up = false ∧ t.pwr.on = 0 ∧
        t.rd A.PWR_DOM_REQ = 0 ∧ t.img.active = none ∧ ∀ b : Fin 8, (t.bank[b]).armed = false) ∧
      (s.pwr.st = .critical ∨ s.pwr.st = .flush → ∃ t, exec i s = .next t ∧ t.lands.deferred = true ∧
        t.lands.inReset = false ∧ t.pwr = s.pwr ∧ t.bank = s.bank ∧ t.regs = s.regs))) ∧
  (∀ s : State, s.lands.inReset = true →
    (s.lands.tapHold = false → s.pwr.core = true → s.pwr.st = .main → (s.lands.start = startRST ∨ s.pwr.vioOk = true) →
      ∃ t, exec .resetRelease s = .next t ∧ t.up = true ∧ t.rd A.PWR_START = w16 s.lands.start ∧
        eventBit t evRESET = true ∧ t.lands.bootsel < 4 ∧ t.lands.pairId < 2 ∧
        (∀ k, k < 2 → s.lands.strapOpen.getLsbD k = false → natBit t.lands.bootsel k = natBit s.lands.strapBoot k) ∧
        (s.lands.strapOpen.getLsbD 2 = false → t.lands.pairId = b2n (natBit s.lands.strapPair 0)) ∧
        t.pair.owner = false ∧ (t.img.load.isSome = true ↔ t.lands.bootsel < 2) ∧
        (s.lands.start = startRST → t.rd A.SYS_RSTCNT = w16 (satU ((s.rd A.SYS_RSTCNT).toNat + 1))) ∧
        (s.lands.start ≠ startRST → t.rd A.SYS_RSTCNT = s.rd A.SYS_RSTCNT) ∧
        ∀ a, 0x1000 ≤ a → (a < 0x2000 ∨ 0x4000 ≤ a) → a < 0x8000 → t.rd a = resetOf a) ∧
    (s.lands.tapHold = true ∨ s.pwr.core = false ∨ s.pwr.st ≠ .main ∨ (s.lands.start ≠ startRST ∧ s.pwr.vioOk = false) →
      exec .resetRelease s = .next s))) ∧
  (∀ s : State,
    (s.pwr.vioOk = true →
      (∀ (at' : Fin 200) (p : Instr × TapInstr),
        p ∈ [(.tapExtest at', .extest), (.tapHighz at', .highz), (.tapClamp at', .clamp)] →
        ∃ t, exec p.1 s = .next t ∧ t.lands.tap = p.2 ∧ t.lands.tapHold = true ∧
          (s.up = true → s.pwr.st ≠ .critical → s.pwr.st ≠ .flush → t.lands.inReset = true ∧
            ∀ b : Fin 8, (t.bank[b]).armed = false)) ∧
      exec .tapIdcode s =
        .next (s.modLands (fun l => { l with tap := .idcode, tapHold := false, tdo := 0x12472D35 })) ∧
      (∀ cells, exec (.tapSamplePreload cells) s =
        .next (s.modLands (fun l => { l with tap := .samplePreload, tapHold := false, boundary := cells }))) ∧
      exec .tapBypass s = .next (s.modLands (fun l => { l with tap := .bypass, tapHold := false })) ∧
      exec .tapReset s = .next (s.modLands (fun l => { l with tap := .idcode, tapHold := false }))) ∧
    (s.pwr.vioOk = false → ∀ (at' : Fin 200) (i : Instr) (cells : Nat),
      i ∈ [.tapExtest at', .tapHighz at', .tapClamp at', .tapIdcode, .tapSamplePreload cells, .tapBypass, .tapReset] →
      exec i s = .next s))

/-! ### Frames -/

/-- Every command completes in every state, and its frame: it changes at most the registers, the blocks and the parts of the
state that `mayChange` lists for it; every other register word, every other part, every byte of the array and of the load
window where they are not listed, and the queue are as before. -/
def Obligations.FrameOfEveryCommand : Prop :=
  ∀ (i : Instr) (s : State), ∃ t, exec i s = .next t ∧ Only (mayChange i) s t

/-- Where the journal's commands store in the array, computed as the engine computes it: a record at the head, a header of 16
bytes in an erased sector, a marker at the burst's marker address or at a victim's release marker, an erase of a marked sector
or of the victim; an estimate of the energy or the start of a hand-over lets a marker go on that waited for the gate. Of a burst that
did not read back, the array lacks a part. R404 (Table STORE-5): a loss of AON leaves of the burst in progress a part and of the
erase in progress a garbage header, which is neither phase 1 nor erased. Which part stays, and that it stays in address order, is
the model's choice (notes/assumptions/34.md). Every other byte of the array is as before. -/
def Obligations.ArrayBytesStored : Prop :=
  ∀ s t : State,
    (exec .storeAppend s = .next t → t.store.mem = s.store.mem ∨
      (∃ h bs, s.store.head = some h ∧ s.store.pos + bs.length + 4 ≤ 4096 ∧
        t.store.mem = cellWrs 0xFF s.store.mem (secBase h + s.store.pos) bs) ∨
      (∃ n bs, n ∈ s.erasedSecs ∧ bs.length = 16 ∧ t.store.mem = cellWrs 0xFF s.store.mem (secBase n) bs) ∨
      (∃ n, n ∈ s.store.toErase ∧
        t.store.mem = s.store.mem.filter (fun c => c.1 < secBase n || secBase (n + 1) ≤ c.1))) ∧
    (∀ ok, exec (.programBurstDone ok) s = .next t → t.store.mem = s.store.mem ∨
      (ok = true ∧ ∃ a, ((∃ h n, s.store.burst = some (.record h n (some a))) ∨
        (∃ n c, s.store.burst = some (.header n c (some a))) ∨ (∃ n, s.store.burst = some (.copy n (some a)))) ∧
        t.store.mem = cellWrs 0xFF s.store.mem a (leBytes 4 markerM)) ∨
      (ok = false ∧ s.store.burst.isSome = true ∧ s.store.gateWait = false ∧ BurstTorn s t)) ∧
    (∀ x, exec (.aonPowerOn x) s = .next t →
      (∀ a, (s.store.burst.isSome = true → s.store.gateWait = false →
          a < s.store.span.1 ∨ s.store.span.1 + s.store.span.2 ≤ a) →
        (∀ c, s.store.comp = some c → c.erasing = true → a < secBase c.victim ∨ secBase (c.victim + 1) ≤ a) →
        cellRd 0xFF t.store.mem a = cellRd 0xFF s.store.mem a) ∧
      (s.store.burst.isSome = true → s.store.gateWait = false → (∀ c, s.store.comp = some c → c.erasing = false) →
        ∃ k, PartBurst s t k) ∧
      (∀ c, s.store.comp = some c → c.erasing = true → t.phase1 c.victim = false ∧ t.secErased c.victim = false)) ∧
    (∀ vmain vbak at' vio, exec (.energyEstimate vmain vbak vio) s = .next t ∨ exec (.vmainFail at' vmain vbak) s = .next t →
      t.store.mem = s.store.mem ∨ (s.store.gateWait = true ∧ ∃ b, s.store.burst = some b ∧
        t.store.mem = cellWrs 0xFF s.store.mem (s.markerAddr b) (leBytes 4 markerM))) ∧
    (exec .compactionStep s = .next t → t.store.mem = s.store.mem ∨
      (∃ h bs, s.store.head = some h ∧ s.store.pos + bs.length + 4 ≤ 4096 ∧
        t.store.mem = cellWrs 0xFF s.store.mem (secBase h + s.store.pos) bs) ∨
      (∃ n bs, n ∈ s.erasedSecs ∧ bs.length = 16 ∧ t.store.mem = cellWrs 0xFF s.store.mem (secBase n) bs) ∨
      (∃ n, ((∃ c, s.store.comp = some c ∧ c.victim = n) ∨ n ∈ s.sealedSecs) ∧
        t.store.mem = cellWrs 0xFF s.store.mem (secBase n + 20) (leBytes 4 markerM)) ∨
      (∃ n, ((∃ c, s.store.comp = some c ∧ c.victim = n) ∨ n ∈ s.store.toErase) ∧
        t.store.mem = s.store.mem.filter (fun c => c.1 < secBase n || secBase (n + 1) ≤ c.1)))

/-! ### Invariants -/

/-- R189, R195: no step turns on both switches of a half-bridge: whatever command is at the front, a device without
shoot-through is without it after the step. -/
def Obligations.NoShootThroughKept : Prop :=
  ∀ s t : State, NoShootThrough s → step s = .next t → NoShootThrough t

/-- R81, R387: the bytes of the array and of the load window stay in their canonical form: addresses rise strictly and no
listed byte equals what an unlisted one reads as. -/
def Obligations.ByteFormsKept : Prop :=
  ∀ s t : State, cellsOk 0xFF s.store.mem = true → cellsOk 0 s.img.window = true → step s = .next t →
    cellsOk 0xFF t.store.mem = true ∧ cellsOk 0 t.img.window = true

/-- R15, R481 (Table LAND-8): the device right after its reset: no command waits, no domain is on, no bank is armed, no
switch is on, RESET is the one event, every register but the two that a start writes shows the reset value of its table,
and the invariants hold. -/
def Obligations.StateAfterReset : Prop :=
  State.reset.pending = [] ∧ State.reset.up = true ∧ State.reset.pwr.on = 0 ∧
    (∀ b : Fin 8, (State.reset.bank[b]).armed = false) ∧
    (∀ h : Fin 72, (State.reset.hb[h]).hs.on = false ∧ (State.reset.hb[h]).ls.on = false) ∧
    eventBit State.reset evRESET = true ∧
    (∀ a, a ≠ A.SYS_BOOT → a ≠ A.EVT_STAT 0 → State.reset.rd a = resetOf a) ∧
    NoShootThrough State.reset ∧ cellsOk 0xFF State.reset.store.mem = true ∧ cellsOk 0 State.reset.img.window = true

/-! ### Rules stated whole -/

/-- R38: an address that no chapter assigns reads as 0x0000 and a write to it has no effect. A read frame of such an address
returns 0x0000 in its data word. -/
def Obligations.UnassignedAddresses : Prop :=
  ∀ (s : State) (at' : Fin 200) (a d : Word), s.up = true → s.hears = true → lookup a.toNat = none →
    exec (.registerWrite at' a d) s = .next s ∧ exec (.multiwordLatchRead a) s = .next s.took ∧
    (∀ t, s.shown t a.toNat = 0) ∧
    ∀ (fixed : Bool) (hdr : Word), field hdr 15 13 = (if fixed then 3 else 1) → hdrBad hdr = false → hdrWords hdr = 1 →
      exec (if fixed then .readFixed hdr a 5 else .read hdr a 5) s =
        .next { s.took with link := { s.link with miso := [s.statusWord, s.summaryWord, 0, 0, crc16 [hdr, a, 0]] } }

/-- R81: the load window exposes 16,384 bytes at a time, and IMG_PAGE selects page p: while no load from the window is queued
or running (Table IMG-10), a write to word 0x8000 + n stores image byte 16,384·p + 2n from its bits 7:0 and byte 16,384·p + 2n
+ 1 from its bits 15:8, and nothing else; pages 0 to 7 reach each of the 131,072 bytes; the window reads as 0x0000. -/
def Obligations.LoadWindowBytes : Prop :=
  ∀ (s : State) (at' : Fin 200) (a d : Word) (n : Nat), s.up = true → s.hears = true → n < 8192 → a.toNat = 0x8000 + n →
    (∀ t, s.shown t a.toNat = 0) ∧
    (∀ p, p = field (s.rd A.IMG_PAGE) 2 0 → 16384 * p + 2 * n + 1 < 131072 ∧ (s.windowLocked = false →
      ∃ t, exec (.registerWrite at' a d) s = .next t ∧
        cellRd 0 t.img.window (16384 * p + 2 * n) = d.setWidth 8 ∧
        cellRd 0 t.img.window (16384 * p + 2 * n + 1) = (d >>> 8).setWidth 8 ∧
        (∀ x, x ≠ 16384 * p + 2 * n → x ≠ 16384 * p + 2 * n + 1 → cellRd 0 t.img.window x = cellRd 0 s.img.window x) ∧
        t = { s with img := { s.img with window := t.img.window } }))

/-- R76: a whole image loaded later replaces every bank's content, and the device then clears every bank_img bit and every
IMG_BANKTAG_b. -/
def Obligations.WholeImageReplacesBanks : Prop :=
  ∀ (s : State) (l : Load) (c : ImageCfg), s.up = true → s.img.load = some l → l.staged = some (.whole c) →
    s.anyArmed = false → ∃ t, exec .wholeImageSwap s = .next t ∧ t.img.active = some c ∧ t.img.bankImg = 0 ∧
      ∀ b : Fin 8, t.rd (A.IMG_BANKTAG b.val) = 0

/-- R83: with BOOTSEL = 11, its lands neither open nor changing, the device loads no image at reset release, and ends every
IMAGE_LOAD FAILED with code FORMAT, at its doorbell or when its turn comes. -/
def Obligations.FactoryStrapLoadsNothing : Prop :=
  (∀ (s : State) (i : Fin 8), s.up = true → s.lands.bootsel = 3 → s.classBusy 0 = false →
    (s.hears = true → s.legal A.OP_CMD (w16 (256 * opIMAGE_LOAD)) = true → (s.ops.slots[i]).st = .free →
      (∀ j : Fin 8, j < i → (s.ops.slots[j]).st ≠ .free) → s.firstOf 0 = none →
      ∃ t, exec .imageLoad s = .next t ∧ (t.ops.slots[i]).st = .failed ∧ (t.ops.slots[i]).fail = failREJECTED ∧
        field (t.rd A.IMG_REJECT) 7 0 = 0x02 ∧ t.img = s.img) ∧
    ((s.ops.slots[i]).st = .queued → (s.ops.slots[i]).op = opIMAGE_LOAD → s.firstOf 0 = some i.val →
      ∃ t, exec (.opStart i) s = .next t ∧ (t.ops.slots[i]).st = .failed ∧ (t.ops.slots[i]).fail = failREJECTED ∧
        field (t.rd A.IMG_REJECT) 7 0 = 0x02 ∧ t.img = s.img)) ∧
  (∀ s : State, s.lands.inReset = true → s.lands.strapBoot = 3 → s.lands.strapOpen.toNat % 4 = 0 →
    s.img.load = none → ∃ t, exec .resetRelease s = .next t ∧ t.img.load = none ∧ t.img.active = s.img.active)

/-- R160: an arm, by a legal write, of a timer whose stage is still pending replaces the stage with the shadows at the new arm
instant, increments that timer's PWM_ARMREP, which saturates at 0xFFFF, and raises ARM_REPLACED of the timer's bank; nothing
of the replaced stage reaches the active registers or anything else of the timer. -/
def Obligations.PendingStageReplaced : Prop :=
  ∀ (s : State) (at' : Fin 200) (hi : Bool) (d : Word) (k : Fin 24), s.up = true → s.hears = true → k ∈ wordTimers hi d →
    s.legal (if hi then A.PWM_LOADALL_HI else A.PWM_LOADALL_LO) d = true →
    s.timOn k = true → (s.tim[k]).stage.isSome = true → ∃ t, exec (.loadAll at' hi d) s = .next t ∧
      t.tim[k] = { s.tim[k] with stage := some ⟨s.clkAt at', s.shadows k, !srcAxis (s.tim[k]).act⟩ } ∧
      t.rd (timAddr k 0x12) = w16 (satU ((s.rd (timAddr k 0x12)).toNat + 1)) ∧
      eventBit t (evARM_REPLACED (axBank k)) = true

/-- R309: SCH_CANCEL removes one entry with its targets that have not fired and frees the index; with all = 1 it removes every
entry; firings that have happened are not undone: nothing but the schedule's queue changes. -/
def Obligations.CancelledEntries : Prop :=
  ∀ s : State, s.up = true → s.hears = true → s.fusOn = true →
    (∀ i : Fin 256, ∃ t, exec (.schCancel i) s = .next t ∧ mapGet t.sched.q i.val = none ∧
      (∀ j, j ≠ i.val → mapGet t.sched.q j = mapGet s.sched.q j) ∧ t = { s with sched := t.sched }) ∧
    (∃ t, exec .schCancelAll s = .next t ∧ t.sched.q = [] ∧ t = { s with sched := t.sched })

/-- R357: the host raises HOST_MARK by writing REC_MARK_1 and then REC_MARK_0: the first stages its word, the write of
REC_MARK_0 is the row HOST_MARK, and the two words become data words 1 and 0 of the event's record. -/
def Obligations.HostMarks : Prop :=
  ∀ (s : State) (at' : Fin 200) (a d : Word), s.up = true → s.hears = true →
    (a.toNat = A.REC_MARK 1 → ∃ t, exec (.registerWrite at' a d) s = .next t ∧ t.staged (A.REC_MARK 1) = d ∧
      t.regs = s.regs ∧ t.rcd = s.rcd) ∧
    (a.toNat = A.REC_MARK 0 → exec (.registerWrite at' a d) s = exec (.hostMark d) s) ∧
    ∃ t, exec (.hostMark d) s = .next t ∧ eventBit t evHOST_MARK = true ∧
      (bit (s.rd A.EVT_REC_0) 12 = true →
        t.rcd.due = s.rcd.due ++ [⟨s.tb, Rank.host.at 0, 12, .info, d, s.staged (A.REC_MARK 1), some false⟩])

/-- R362: at a CORE power-on, from BACKUP or with AON, the recorder, the hold FIFO and the repeat-time words are empty, and
the sequence counter, REC_HEAD_1 and P are 0. -/
def Obligations.RecorderAtCorePowerOn : Prop :=
  ∀ s : State,
    (∀ d, s.pwr.dwell = some d → d + 20000 ≤ s.clk.ticks → s.pwr.st = .backup → ∃ t, exec .dwellComplete s = .next t ∧
      t.rcd.slots = [] ∧ t.rcd.fifo = [] ∧ t.rcd.seq = 0 ∧ t.rcd.head1 = 0 ∧ t.rcd.p = 0) ∧
    (∀ x, ∃ t, exec (.aonPowerOn x) s = .next t ∧ t.rcd.slots = [] ∧ t.rcd.fifo = [] ∧ t.rcd.seq = 0 ∧ t.rcd.head1 = 0 ∧
      t.rcd.p = 0)
end

