-- ==== Sys2Proof/Laws/State.lean ====
section
/-! SUPPORT. Sys2Proof/Laws/State.lean: the small lemmas of the state: what each setter leaves alone, reads after writes of
register words, and the parts of the state that an operation may change. -/
namespace Sys2Proof.Laws
set_option Elab.async false
set_option linter.unusedSimpArgs false
open Sys2Proof.Machine Sys2Proof.Safety

/-! ### Lists of pairs -/

theorem mapGet_mapDel {α : Type} (l : List (Nat × α)) (k j : Nat) :
    mapGet (mapDel l k) j = if j = k then none else mapGet l j := by
  induction l with
  | nil => simp [mapDel, mapGet]
  | cons p r ih =>
    obtain ⟨i, v⟩ := p
    by_cases h : i = k <;> by_cases h' : i = j <;> simp_all [mapDel, mapGet]

theorem mapGet_mapIns {α : Type} (l : List (Nat × α)) (k j : Nat) (v : α) (h : mapGet l k = none) :
    mapGet (mapIns l k v) j = if j = k then some v else mapGet l j := by
  induction l with
  | nil => simp [mapIns, mapGet, eq_comm]
  | cons p r ih =>
    obtain ⟨i, w⟩ := p
    by_cases hik : i = k
    · simp [mapGet, hik] at h
    · simp only [mapGet, hik, if_false] at h
      by_cases hl : k < i
      · simp [mapIns, hl, mapGet, eq_comm]
      · by_cases hij : i = j
        · subst hij; simp [mapIns, hl, mapGet, hik]
        · simp [mapIns, hl, mapGet, hij, ih h]

theorem mapGet_mapPut {α : Type} (l : List (Nat × α)) (k j : Nat) (v : α) :
    mapGet (mapPut l k v) j = if j = k then some v else mapGet l j := by
  rw [mapPut, mapGet_mapIns _ _ _ _ (by simp [mapGet_mapDel]), mapGet_mapDel]
  by_cases h : j = k <;> simp [h]

/-! ### Register words -/

/-- A stored word after one has been set (R12). -/
@[simp] theorem rd_wr (s : State) (a b : Nat) (v : Word) : (s.wr a v).rd b = if b = a then v else s.rd b := by
  unfold State.wr State.rd
  by_cases hv : v = resetOf a
  · by_cases h : b = a <;> simp [hv, h, mapGet_mapDel]
  · by_cases h : b = a <;> simp [hv, h, mapGet_mapPut]

/-- The stored words after several have been set from an address on. -/
theorem rd_wrs (l : List Word) : ∀ (s : State) (a b : Nat), b < a ∨ a + l.length ≤ b → (s.wrs a l).rd b = s.rd b := by
  induction l with
  | nil => intro s a b _; rfl
  | cons v vs ih =>
    intro s a b h
    simp only [List.length_cons] at h
    rw [State.wrs, ih _ _ _ (by omega), rd_wr, if_neg (by omega)]

/-! ### One lemma per part and setter -/

section modClk
variable (s : State) (f : Clk → Clk)
@[simp] theorem modClk_pending : (s.modClk f).pending = s.pending := rfl
@[simp] theorem modClk_regs : (s.modClk f).regs = s.regs := rfl
@[simp] theorem modClk_free : (s.modClk f).free = s.free := rfl
@[simp] theorem modClk_fresh : (s.modClk f).fresh = s.fresh := rfl
@[simp] theorem modClk_link : (s.modClk f).link = s.link := rfl
@[simp] theorem modClk_ops : (s.modClk f).ops = s.ops := rfl
@[simp] theorem modClk_can : (s.modClk f).can = s.can := rfl
@[simp] theorem modClk_rcd : (s.modClk f).rcd = s.rcd := rfl
@[simp] theorem modClk_tim : (s.modClk f).tim = s.tim := rfl
@[simp] theorem modClk_hb : (s.modClk f).hb = s.hb := rfl
@[simp] theorem modClk_bank : (s.modClk f).bank = s.bank := rfl
@[simp] theorem modClk_ax : (s.modClk f).ax = s.ax := rfl
@[simp] theorem modClk_fus : (s.modClk f).fus = s.fus := rfl
@[simp] theorem modClk_sched : (s.modClk f).sched = s.sched := rfl
@[simp] theorem modClk_sol : (s.modClk f).sol = s.sol := rfl
@[simp] theorem modClk_img : (s.modClk f).img = s.img := rfl
@[simp] theorem modClk_pwr : (s.modClk f).pwr = s.pwr := rfl
@[simp] theorem modClk_store : (s.modClk f).store = s.store := rfl
@[simp] theorem modClk_pair : (s.modClk f).pair = s.pair := rfl
@[simp] theorem modClk_safe : (s.modClk f).safe = s.safe := rfl
@[simp] theorem modClk_lands : (s.modClk f).lands = s.lands := rfl
@[simp] theorem modClk_clk : (s.modClk f).clk = f s.clk := rfl
@[simp] theorem modClk_rd (a : Nat) : (s.modClk f).rd a = s.rd a := rfl
end modClk

section modLink
variable (s : State) (f : Link → Link)
@[simp] theorem modLink_pending : (s.modLink f).pending = s.pending := rfl
@[simp] theorem modLink_regs : (s.modLink f).regs = s.regs := rfl
@[simp] theorem modLink_free : (s.modLink f).free = s.free := rfl
@[simp] theorem modLink_fresh : (s.modLink f).fresh = s.fresh := rfl
@[simp] theorem modLink_clk : (s.modLink f).clk = s.clk := rfl
@[simp] theorem modLink_ops : (s.modLink f).ops = s.ops := rfl
@[simp] theorem modLink_can : (s.modLink f).can = s.can := rfl
@[simp] theorem modLink_rcd : (s.modLink f).rcd = s.rcd := rfl
@[simp] theorem modLink_tim : (s.modLink f).tim = s.tim := rfl
@[simp] theorem modLink_hb : (s.modLink f).hb = s.hb := rfl
@[simp] theorem modLink_bank : (s.modLink f).bank = s.bank := rfl
@[simp] theorem modLink_ax : (s.modLink f).ax = s.ax := rfl
@[simp] theorem modLink_fus : (s.modLink f).fus = s.fus := rfl
@[simp] theorem modLink_sched : (s.modLink f).sched = s.sched := rfl
@[simp] theorem modLink_sol : (s.modLink f).sol = s.sol := rfl
@[simp] theorem modLink_img : (s.modLink f).img = s.img := rfl
@[simp] theorem modLink_pwr : (s.modLink f).pwr = s.pwr := rfl
@[simp] theorem modLink_store : (s.modLink f).store = s.store := rfl
@[simp] theorem modLink_pair : (s.modLink f).pair = s.pair := rfl
@[simp] theorem modLink_safe : (s.modLink f).safe = s.safe := rfl
@[simp] theorem modLink_lands : (s.modLink f).lands = s.lands := rfl
@[simp] theorem modLink_link : (s.modLink f).link = f s.link := rfl
@[simp] theorem modLink_rd (a : Nat) : (s.modLink f).rd a = s.rd a := rfl
end modLink

section modOps
variable (s : State) (f : Ops → Ops)
@[simp] theorem modOps_pending : (s.modOps f).pending = s.pending := rfl
@[simp] theorem modOps_regs : (s.modOps f).regs = s.regs := rfl
@[simp] theorem modOps_free : (s.modOps f).free = s.free := rfl
@[simp] theorem modOps_fresh : (s.modOps f).fresh = s.fresh := rfl
@[simp] theorem modOps_clk : (s.modOps f).clk = s.clk := rfl
@[simp] theorem modOps_link : (s.modOps f).link = s.link := rfl
@[simp] theorem modOps_can : (s.modOps f).can = s.can := rfl
@[simp] theorem modOps_rcd : (s.modOps f).rcd = s.rcd := rfl
@[simp] theorem modOps_tim : (s.modOps f).tim = s.tim := rfl
@[simp] theorem modOps_hb : (s.modOps f).hb = s.hb := rfl
@[simp] theorem modOps_bank : (s.modOps f).bank = s.bank := rfl
@[simp] theorem modOps_ax : (s.modOps f).ax = s.ax := rfl
@[simp] theorem modOps_fus : (s.modOps f).fus = s.fus := rfl
@[simp] theorem modOps_sched : (s.modOps f).sched = s.sched := rfl
@[simp] theorem modOps_sol : (s.modOps f).sol = s.sol := rfl
@[simp] theorem modOps_img : (s.modOps f).img = s.img := rfl
@[simp] theorem modOps_pwr : (s.modOps f).pwr = s.pwr := rfl
@[simp] theorem modOps_store : (s.modOps f).store = s.store := rfl
@[simp] theorem modOps_pair : (s.modOps f).pair = s.pair := rfl
@[simp] theorem modOps_safe : (s.modOps f).safe = s.safe := rfl
@[simp] theorem modOps_lands : (s.modOps f).lands = s.lands := rfl
@[simp] theorem modOps_ops : (s.modOps f).ops = f s.ops := rfl
@[simp] theorem modOps_rd (a : Nat) : (s.modOps f).rd a = s.rd a := rfl
end modOps

section modRcd
variable (s : State) (f : Recorder → Recorder)
@[simp] theorem modRcd_pending : (s.modRcd f).pending = s.pending := rfl
@[simp] theorem modRcd_regs : (s.modRcd f).regs = s.regs := rfl
@[simp] theorem modRcd_free : (s.modRcd f).free = s.free := rfl
@[simp] theorem modRcd_fresh : (s.modRcd f).fresh = s.fresh := rfl
@[simp] theorem modRcd_clk : (s.modRcd f).clk = s.clk := rfl
@[simp] theorem modRcd_link : (s.modRcd f).link = s.link := rfl
@[simp] theorem modRcd_ops : (s.modRcd f).ops = s.ops := rfl
@[simp] theorem modRcd_can : (s.modRcd f).can = s.can := rfl
@[simp] theorem modRcd_tim : (s.modRcd f).tim = s.tim := rfl
@[simp] theorem modRcd_hb : (s.modRcd f).hb = s.hb := rfl
@[simp] theorem modRcd_bank : (s.modRcd f).bank = s.bank := rfl
@[simp] theorem modRcd_ax : (s.modRcd f).ax = s.ax := rfl
@[simp] theorem modRcd_fus : (s.modRcd f).fus = s.fus := rfl
@[simp] theorem modRcd_sched : (s.modRcd f).sched = s.sched := rfl
@[simp] theorem modRcd_sol : (s.modRcd f).sol = s.sol := rfl
@[simp] theorem modRcd_img : (s.modRcd f).img = s.img := rfl
@[simp] theorem modRcd_pwr : (s.modRcd f).pwr = s.pwr := rfl
@[simp] theorem modRcd_store : (s.modRcd f).store = s.store := rfl
@[simp] theorem modRcd_pair : (s.modRcd f).pair = s.pair := rfl
@[simp] theorem modRcd_safe : (s.modRcd f).safe = s.safe := rfl
@[simp] theorem modRcd_lands : (s.modRcd f).lands = s.lands := rfl
@[simp] theorem modRcd_rcd : (s.modRcd f).rcd = f s.rcd := rfl
@[simp] theorem modRcd_rd (a : Nat) : (s.modRcd f).rd a = s.rd a := rfl
end modRcd

section modFus
variable (s : State) (f : Fusion → Fusion)
@[simp] theorem modFus_pending : (s.modFus f).pending = s.pending := rfl
@[simp] theorem modFus_regs : (s.modFus f).regs = s.regs := rfl
@[simp] theorem modFus_free : (s.modFus f).free = s.free := rfl
@[simp] theorem modFus_fresh : (s.modFus f).fresh = s.fresh := rfl
@[simp] theorem modFus_clk : (s.modFus f).clk = s.clk := rfl
@[simp] theorem modFus_link : (s.modFus f).link = s.link := rfl
@[simp] theorem modFus_ops : (s.modFus f).ops = s.ops := rfl
@[simp] theorem modFus_can : (s.modFus f).can = s.can := rfl
@[simp] theorem modFus_rcd : (s.modFus f).rcd = s.rcd := rfl
@[simp] theorem modFus_tim : (s.modFus f).tim = s.tim := rfl
@[simp] theorem modFus_hb : (s.modFus f).hb = s.hb := rfl
@[simp] theorem modFus_bank : (s.modFus f).bank = s.bank := rfl
@[simp] theorem modFus_ax : (s.modFus f).ax = s.ax := rfl
@[simp] theorem modFus_sched : (s.modFus f).sched = s.sched := rfl
@[simp] theorem modFus_sol : (s.modFus f).sol = s.sol := rfl
@[simp] theorem modFus_img : (s.modFus f).img = s.img := rfl
@[simp] theorem modFus_pwr : (s.modFus f).pwr = s.pwr := rfl
@[simp] theorem modFus_store : (s.modFus f).store = s.store := rfl
@[simp] theorem modFus_pair : (s.modFus f).pair = s.pair := rfl
@[simp] theorem modFus_safe : (s.modFus f).safe = s.safe := rfl
@[simp] theorem modFus_lands : (s.modFus f).lands = s.lands := rfl
@[simp] theorem modFus_fus : (s.modFus f).fus = f s.fus := rfl
@[simp] theorem modFus_rd (a : Nat) : (s.modFus f).rd a = s.rd a := rfl
end modFus

section modSched
variable (s : State) (f : Sched → Sched)
@[simp] theorem modSched_pending : (s.modSched f).pending = s.pending := rfl
@[simp] theorem modSched_regs : (s.modSched f).regs = s.regs := rfl
@[simp] theorem modSched_free : (s.modSched f).free = s.free := rfl
@[simp] theorem modSched_fresh : (s.modSched f).fresh = s.fresh := rfl
@[simp] theorem modSched_clk : (s.modSched f).clk = s.clk := rfl
@[simp] theorem modSched_link : (s.modSched f).link = s.link := rfl
@[simp] theorem modSched_ops : (s.modSched f).ops = s.ops := rfl
@[simp] theorem modSched_can : (s.modSched f).can = s.can := rfl
@[simp] theorem modSched_rcd : (s.modSched f).rcd = s.rcd := rfl
@[simp] theorem modSched_tim : (s.modSched f).tim = s.tim := rfl
@[simp] theorem modSched_hb : (s.modSched f).hb = s.hb := rfl
@[simp] theorem modSched_bank : (s.modSched f).bank = s.bank := rfl
@[simp] theorem modSched_ax : (s.modSched f).ax = s.ax := rfl
@[simp] theorem modSched_fus : (s.modSched f).fus = s.fus := rfl
@[simp] theorem modSched_sol : (s.modSched f).sol = s.sol := rfl
@[simp] theorem modSched_img : (s.modSched f).img = s.img := rfl
@[simp] theorem modSched_pwr : (s.modSched f).pwr = s.pwr := rfl
@[simp] theorem modSched_store : (s.modSched f).store = s.store := rfl
@[simp] theorem modSched_pair : (s.modSched f).pair = s.pair := rfl
@[simp] theorem modSched_safe : (s.modSched f).safe = s.safe := rfl
@[simp] theorem modSched_lands : (s.modSched f).lands = s.lands := rfl
@[simp] theorem modSched_sched : (s.modSched f).sched = f s.sched := rfl
@[simp] theorem modSched_rd (a : Nat) : (s.modSched f).rd a = s.rd a := rfl
end modSched

section modSol
variable (s : State) (f : Solver → Solver)
@[simp] theorem modSol_pending : (s.modSol f).pending = s.pending := rfl
@[simp] theorem modSol_regs : (s.modSol f).regs = s.regs := rfl
@[simp] theorem modSol_free : (s.modSol f).free = s.free := rfl
@[simp] theorem modSol_fresh : (s.modSol f).fresh = s.fresh := rfl
@[simp] theorem modSol_clk : (s.modSol f).clk = s.clk := rfl
@[simp] theorem modSol_link : (s.modSol f).link = s.link := rfl
@[simp] theorem modSol_ops : (s.modSol f).ops = s.ops := rfl
@[simp] theorem modSol_can : (s.modSol f).can = s.can := rfl
@[simp] theorem modSol_rcd : (s.modSol f).rcd = s.rcd := rfl
@[simp] theorem modSol_tim : (s.modSol f).tim = s.tim := rfl
@[simp] theorem modSol_hb : (s.modSol f).hb = s.hb := rfl
@[simp] theorem modSol_bank : (s.modSol f).bank = s.bank := rfl
@[simp] theorem modSol_ax : (s.modSol f).ax = s.ax := rfl
@[simp] theorem modSol_fus : (s.modSol f).fus = s.fus := rfl
@[simp] theorem modSol_sched : (s.modSol f).sched = s.sched := rfl
@[simp] theorem modSol_img : (s.modSol f).img = s.img := rfl
@[simp] theorem modSol_pwr : (s.modSol f).pwr = s.pwr := rfl
@[simp] theorem modSol_store : (s.modSol f).store = s.store := rfl
@[simp] theorem modSol_pair : (s.modSol f).pair = s.pair := rfl
@[simp] theorem modSol_safe : (s.modSol f).safe = s.safe := rfl
@[simp] theorem modSol_lands : (s.modSol f).lands = s.lands := rfl
@[simp] theorem modSol_sol : (s.modSol f).sol = f s.sol := rfl
@[simp] theorem modSol_rd (a : Nat) : (s.modSol f).rd a = s.rd a := rfl
end modSol

section modImg
variable (s : State) (f : Img → Img)
@[simp] theorem modImg_pending : (s.modImg f).pending = s.pending := rfl
@[simp] theorem modImg_regs : (s.modImg f).regs = s.regs := rfl
@[simp] theorem modImg_free : (s.modImg f).free = s.free := rfl
@[simp] theorem modImg_fresh : (s.modImg f).fresh = s.fresh := rfl
@[simp] theorem modImg_clk : (s.modImg f).clk = s.clk := rfl
@[simp] theorem modImg_link : (s.modImg f).link = s.link := rfl
@[simp] theorem modImg_ops : (s.modImg f).ops = s.ops := rfl
@[simp] theorem modImg_can : (s.modImg f).can = s.can := rfl
@[simp] theorem modImg_rcd : (s.modImg f).rcd = s.rcd := rfl
@[simp] theorem modImg_tim : (s.modImg f).tim = s.tim := rfl
@[simp] theorem modImg_hb : (s.modImg f).hb = s.hb := rfl
@[simp] theorem modImg_bank : (s.modImg f).bank = s.bank := rfl
@[simp] theorem modImg_ax : (s.modImg f).ax = s.ax := rfl
@[simp] theorem modImg_fus : (s.modImg f).fus = s.fus := rfl
@[simp] theorem modImg_sched : (s.modImg f).sched = s.sched := rfl
@[simp] theorem modImg_sol : (s.modImg f).sol = s.sol := rfl
@[simp] theorem modImg_pwr : (s.modImg f).pwr = s.pwr := rfl
@[simp] theorem modImg_store : (s.modImg f).store = s.store := rfl
@[simp] theorem modImg_pair : (s.modImg f).pair = s.pair := rfl
@[simp] theorem modImg_safe : (s.modImg f).safe = s.safe := rfl
@[simp] theorem modImg_lands : (s.modImg f).lands = s.lands := rfl
@[simp] theorem modImg_img : (s.modImg f).img = f s.img := rfl
@[simp] theorem modImg_rd (a : Nat) : (s.modImg f).rd a = s.rd a := rfl
end modImg

section modPwr
variable (s : State) (f : Pwr → Pwr)
@[simp] theorem modPwr_pending : (s.modPwr f).pending = s.pending := rfl
@[simp] theorem modPwr_regs : (s.modPwr f).regs = s.regs := rfl
@[simp] theorem modPwr_free : (s.modPwr f).free = s.free := rfl
@[simp] theorem modPwr_fresh : (s.modPwr f).fresh = s.fresh := rfl
@[simp] theorem modPwr_clk : (s.modPwr f).clk = s.clk := rfl
@[simp] theorem modPwr_link : (s.modPwr f).link = s.link := rfl
@[simp] theorem modPwr_ops : (s.modPwr f).ops = s.ops := rfl
@[simp] theorem modPwr_can : (s.modPwr f).can = s.can := rfl
@[simp] theorem modPwr_rcd : (s.modPwr f).rcd = s.rcd := rfl
@[simp] theorem modPwr_tim : (s.modPwr f).tim = s.tim := rfl
@[simp] theorem modPwr_hb : (s.modPwr f).hb = s.hb := rfl
@[simp] theorem modPwr_bank : (s.modPwr f).bank = s.bank := rfl
@[simp] theorem modPwr_ax : (s.modPwr f).ax = s.ax := rfl
@[simp] theorem modPwr_fus : (s.modPwr f).fus = s.fus := rfl
@[simp] theorem modPwr_sched : (s.modPwr f).sched = s.sched := rfl
@[simp] theorem modPwr_sol : (s.modPwr f).sol = s.sol := rfl
@[simp] theorem modPwr_img : (s.modPwr f).img = s.img := rfl
@[simp] theorem modPwr_store : (s.modPwr f).store = s.store := rfl
@[simp] theorem modPwr_pair : (s.modPwr f).pair = s.pair := rfl
@[simp] theorem modPwr_safe : (s.modPwr f).safe = s.safe := rfl
@[simp] theorem modPwr_lands : (s.modPwr f).lands = s.lands := rfl
@[simp] theorem modPwr_pwr : (s.modPwr f).pwr = f s.pwr := rfl
@[simp] theorem modPwr_rd (a : Nat) : (s.modPwr f).rd a = s.rd a := rfl
end modPwr

section modStore
variable (s : State) (f : Store → Store)
@[simp] theorem modStore_pending : (s.modStore f).pending = s.pending := rfl
@[simp] theorem modStore_regs : (s.modStore f).regs = s.regs := rfl
@[simp] theorem modStore_free : (s.modStore f).free = s.free := rfl
@[simp] theorem modStore_fresh : (s.modStore f).fresh = s.fresh := rfl
@[simp] theorem modStore_clk : (s.modStore f).clk = s.clk := rfl
@[simp] theorem modStore_link : (s.modStore f).link = s.link := rfl
@[simp] theorem modStore_ops : (s.modStore f).ops = s.ops := rfl
@[simp] theorem modStore_can : (s.modStore f).can = s.can := rfl
@[simp] theorem modStore_rcd : (s.modStore f).rcd = s.rcd := rfl
@[simp] theorem modStore_tim : (s.modStore f).tim = s.tim := rfl
@[simp] theorem modStore_hb : (s.modStore f).hb = s.hb := rfl
@[simp] theorem modStore_bank : (s.modStore f).bank = s.bank := rfl
@[simp] theorem modStore_ax : (s.modStore f).ax = s.ax := rfl
@[simp] theorem modStore_fus : (s.modStore f).fus = s.fus := rfl
@[simp] theorem modStore_sched : (s.modStore f).sched = s.sched := rfl
@[simp] theorem modStore_sol : (s.modStore f).sol = s.sol := rfl
@[simp] theorem modStore_img : (s.modStore f).img = s.img := rfl
@[simp] theorem modStore_pwr : (s.modStore f).pwr = s.pwr := rfl
@[simp] theorem modStore_pair : (s.modStore f).pair = s.pair := rfl
@[simp] theorem modStore_safe : (s.modStore f).safe = s.safe := rfl
@[simp] theorem modStore_lands : (s.modStore f).lands = s.lands := rfl
@[simp] theorem modStore_store : (s.modStore f).store = f s.store := rfl
@[simp] theorem modStore_rd (a : Nat) : (s.modStore f).rd a = s.rd a := rfl
end modStore

section modPair
variable (s : State) (f : Pair → Pair)
@[simp] theorem modPair_pending : (s.modPair f).pending = s.pending := rfl
@[simp] theorem modPair_regs : (s.modPair f).regs = s.regs := rfl
@[simp] theorem modPair_free : (s.modPair f).free = s.free := rfl
@[simp] theorem modPair_fresh : (s.modPair f).fresh = s.fresh := rfl
@[simp] theorem modPair_clk : (s.modPair f).clk = s.clk := rfl
@[simp] theorem modPair_link : (s.modPair f).link = s.link := rfl
@[simp] theorem modPair_ops : (s.modPair f).ops = s.ops := rfl
@[simp] theorem modPair_can : (s.modPair f).can = s.can := rfl
@[simp] theorem modPair_rcd : (s.modPair f).rcd = s.rcd := rfl
@[simp] theorem modPair_tim : (s.modPair f).tim = s.tim := rfl
@[simp] theorem modPair_hb : (s.modPair f).hb = s.hb := rfl
@[simp] theorem modPair_bank : (s.modPair f).bank = s.bank := rfl
@[simp] theorem modPair_ax : (s.modPair f).ax = s.ax := rfl
@[simp] theorem modPair_fus : (s.modPair f).fus = s.fus := rfl
@[simp] theorem modPair_sched : (s.modPair f).sched = s.sched := rfl
@[simp] theorem modPair_sol : (s.modPair f).sol = s.sol := rfl
@[simp] theorem modPair_img : (s.modPair f).img = s.img := rfl
@[simp] theorem modPair_pwr : (s.modPair f).pwr = s.pwr := rfl
@[simp] theorem modPair_store : (s.modPair f).store = s.store := rfl
@[simp] theorem modPair_safe : (s.modPair f).safe = s.safe := rfl
@[simp] theorem modPair_lands : (s.modPair f).lands = s.lands := rfl
@[simp] theorem modPair_pair : (s.modPair f).pair = f s.pair := rfl
@[simp] theorem modPair_rd (a : Nat) : (s.modPair f).rd a = s.rd a := rfl
end modPair

section modSafe
variable (s : State) (f : Safe → Safe)
@[simp] theorem modSafe_pending : (s.modSafe f).pending = s.pending := rfl
@[simp] theorem modSafe_regs : (s.modSafe f).regs = s.regs := rfl
@[simp] theorem modSafe_free : (s.modSafe f).free = s.free := rfl
@[simp] theorem modSafe_fresh : (s.modSafe f).fresh = s.fresh := rfl
@[simp] theorem modSafe_clk : (s.modSafe f).clk = s.clk := rfl
@[simp] theorem modSafe_link : (s.modSafe f).link = s.link := rfl
@[simp] theorem modSafe_ops : (s.modSafe f).ops = s.ops := rfl
@[simp] theorem modSafe_can : (s.modSafe f).can = s.can := rfl
@[simp] theorem modSafe_rcd : (s.modSafe f).rcd = s.rcd := rfl
@[simp] theorem modSafe_tim : (s.modSafe f).tim = s.tim := rfl
@[simp] theorem modSafe_hb : (s.modSafe f).hb = s.hb := rfl
@[simp] theorem modSafe_bank : (s.modSafe f).bank = s.bank := rfl
@[simp] theorem modSafe_ax : (s.modSafe f).ax = s.ax := rfl
@[simp] theorem modSafe_fus : (s.modSafe f).fus = s.fus := rfl
@[simp] theorem modSafe_sched : (s.modSafe f).sched = s.sched := rfl
@[simp] theorem modSafe_sol : (s.modSafe f).sol = s.sol := rfl
@[simp] theorem modSafe_img : (s.modSafe f).img = s.img := rfl
@[simp] theorem modSafe_pwr : (s.modSafe f).pwr = s.pwr := rfl
@[simp] theorem modSafe_store : (s.modSafe f).store = s.store := rfl
@[simp] theorem modSafe_pair : (s.modSafe f).pair = s.pair := rfl
@[simp] theorem modSafe_lands : (s.modSafe f).lands = s.lands := rfl
@[simp] theorem modSafe_safe : (s.modSafe f).safe = f s.safe := rfl
@[simp] theorem modSafe_rd (a : Nat) : (s.modSafe f).rd a = s.rd a := rfl
end modSafe

section modLands
variable (s : State) (f : Lands → Lands)
@[simp] theorem modLands_pending : (s.modLands f).pending = s.pending := rfl
@[simp] theorem modLands_regs : (s.modLands f).regs = s.regs := rfl
@[simp] theorem modLands_free : (s.modLands f).free = s.free := rfl
@[simp] theorem modLands_fresh : (s.modLands f).fresh = s.fresh := rfl
@[simp] theorem modLands_clk : (s.modLands f).clk = s.clk := rfl
@[simp] theorem modLands_link : (s.modLands f).link = s.link := rfl
@[simp] theorem modLands_ops : (s.modLands f).ops = s.ops := rfl
@[simp] theorem modLands_can : (s.modLands f).can = s.can := rfl
@[simp] theorem modLands_rcd : (s.modLands f).rcd = s.rcd := rfl
@[simp] theorem modLands_tim : (s.modLands f).tim = s.tim := rfl
@[simp] theorem modLands_hb : (s.modLands f).hb = s.hb := rfl
@[simp] theorem modLands_bank : (s.modLands f).bank = s.bank := rfl
@[simp] theorem modLands_ax : (s.modLands f).ax = s.ax := rfl
@[simp] theorem modLands_fus : (s.modLands f).fus = s.fus := rfl
@[simp] theorem modLands_sched : (s.modLands f).sched = s.sched := rfl
@[simp] theorem modLands_sol : (s.modLands f).sol = s.sol := rfl
@[simp] theorem modLands_img : (s.modLands f).img = s.img := rfl
@[simp] theorem modLands_pwr : (s.modLands f).pwr = s.pwr := rfl
@[simp] theorem modLands_store : (s.modLands f).store = s.store := rfl
@[simp] theorem modLands_pair : (s.modLands f).pair = s.pair := rfl
@[simp] theorem modLands_safe : (s.modLands f).safe = s.safe := rfl
@[simp] theorem modLands_lands : (s.modLands f).lands = f s.lands := rfl
@[simp] theorem modLands_rd (a : Nat) : (s.modLands f).rd a = s.rd a := rfl
end modLands

section modCan
variable (s : State) (i : Fin 2) (f : Can → Can)
@[simp] theorem modCan_pending : (s.modCan i f).pending = s.pending := rfl
@[simp] theorem modCan_regs : (s.modCan i f).regs = s.regs := rfl
@[simp] theorem modCan_free : (s.modCan i f).free = s.free := rfl
@[simp] theorem modCan_fresh : (s.modCan i f).fresh = s.fresh := rfl
@[simp] theorem modCan_clk : (s.modCan i f).clk = s.clk := rfl
@[simp] theorem modCan_link : (s.modCan i f).link = s.link := rfl
@[simp] theorem modCan_ops : (s.modCan i f).ops = s.ops := rfl
@[simp] theorem modCan_rcd : (s.modCan i f).rcd = s.rcd := rfl
@[simp] theorem modCan_tim : (s.modCan i f).tim = s.tim := rfl
@[simp] theorem modCan_hb : (s.modCan i f).hb = s.hb := rfl
@[simp] theorem modCan_bank : (s.modCan i f).bank = s.bank := rfl
@[simp] theorem modCan_ax : (s.modCan i f).ax = s.ax := rfl
@[simp] theorem modCan_fus : (s.modCan i f).fus = s.fus := rfl
@[simp] theorem modCan_sched : (s.modCan i f).sched = s.sched := rfl
@[simp] theorem modCan_sol : (s.modCan i f).sol = s.sol := rfl
@[simp] theorem modCan_img : (s.modCan i f).img = s.img := rfl
@[simp] theorem modCan_pwr : (s.modCan i f).pwr = s.pwr := rfl
@[simp] theorem modCan_store : (s.modCan i f).store = s.store := rfl
@[simp] theorem modCan_pair : (s.modCan i f).pair = s.pair := rfl
@[simp] theorem modCan_safe : (s.modCan i f).safe = s.safe := rfl
@[simp] theorem modCan_lands : (s.modCan i f).lands = s.lands := rfl
@[simp] theorem modCan_can : (s.modCan i f).can = s.can.set i (f s.can[i]) := rfl
@[simp] theorem modCan_rd (a : Nat) : (s.modCan i f).rd a = s.rd a := rfl
end modCan

section modTim
variable (s : State) (i : Fin 24) (f : Timer → Timer)
@[simp] theorem modTim_pending : (s.modTim i f).pending = s.pending := rfl
@[simp] theorem modTim_regs : (s.modTim i f).regs = s.regs := rfl
@[simp] theorem modTim_free : (s.modTim i f).free = s.free := rfl
@[simp] theorem modTim_fresh : (s.modTim i f).fresh = s.fresh := rfl
@[simp] theorem modTim_clk : (s.modTim i f).clk = s.clk := rfl
@[simp] theorem modTim_link : (s.modTim i f).link = s.link := rfl
@[simp] theorem modTim_ops : (s.modTim i f).ops = s.ops := rfl
@[simp] theorem modTim_can : (s.modTim i f).can = s.can := rfl
@[simp] theorem modTim_rcd : (s.modTim i f).rcd = s.rcd := rfl
@[simp] theorem modTim_hb : (s.modTim i f).hb = s.hb := rfl
@[simp] theorem modTim_bank : (s.modTim i f).bank = s.bank := rfl
@[simp] theorem modTim_ax : (s.modTim i f).ax = s.ax := rfl
@[simp] theorem modTim_fus : (s.modTim i f).fus = s.fus := rfl
@[simp] theorem modTim_sched : (s.modTim i f).sched = s.sched := rfl
@[simp] theorem modTim_sol : (s.modTim i f).sol = s.sol := rfl
@[simp] theorem modTim_img : (s.modTim i f).img = s.img := rfl
@[simp] theorem modTim_pwr : (s.modTim i f).pwr = s.pwr := rfl
@[simp] theorem modTim_store : (s.modTim i f).store = s.store := rfl
@[simp] theorem modTim_pair : (s.modTim i f).pair = s.pair := rfl
@[simp] theorem modTim_safe : (s.modTim i f).safe = s.safe := rfl
@[simp] theorem modTim_lands : (s.modTim i f).lands = s.lands := rfl
@[simp] theorem modTim_tim : (s.modTim i f).tim = s.tim.set i (f s.tim[i]) := rfl
@[simp] theorem modTim_rd (a : Nat) : (s.modTim i f).rd a = s.rd a := rfl
end modTim

section modHb
variable (s : State) (i : Fin 72) (f : HalfB → HalfB)
@[simp] theorem modHb_pending : (s.modHb i f).pending = s.pending := rfl
@[simp] theorem modHb_regs : (s.modHb i f).regs = s.regs := rfl
@[simp] theorem modHb_free : (s.modHb i f).free = s.free := rfl
@[simp] theorem modHb_fresh : (s.modHb i f).fresh = s.fresh := rfl
@[simp] theorem modHb_clk : (s.modHb i f).clk = s.clk := rfl
@[simp] theorem modHb_link : (s.modHb i f).link = s.link := rfl
@[simp] theorem modHb_ops : (s.modHb i f).ops = s.ops := rfl
@[simp] theorem modHb_can : (s.modHb i f).can = s.can := rfl
@[simp] theorem modHb_rcd : (s.modHb i f).rcd = s.rcd := rfl
@[simp] theorem modHb_tim : (s.modHb i f).tim = s.tim := rfl
@[simp] theorem modHb_bank : (s.modHb i f).bank = s.bank := rfl
@[simp] theorem modHb_ax : (s.modHb i f).ax = s.ax := rfl
@[simp] theorem modHb_fus : (s.modHb i f).fus = s.fus := rfl
@[simp] theorem modHb_sched : (s.modHb i f).sched = s.sched := rfl
@[simp] theorem modHb_sol : (s.modHb i f).sol = s.sol := rfl
@[simp] theorem modHb_img : (s.modHb i f).img = s.img := rfl
@[simp] theorem modHb_pwr : (s.modHb i f).pwr = s.pwr := rfl
@[simp] theorem modHb_store : (s.modHb i f).store = s.store := rfl
@[simp] theorem modHb_pair : (s.modHb i f).pair = s.pair := rfl
@[simp] theorem modHb_safe : (s.modHb i f).safe = s.safe := rfl
@[simp] theorem modHb_lands : (s.modHb i f).lands = s.lands := rfl
@[simp] theorem modHb_hb : (s.modHb i f).hb = s.hb.set i (f s.hb[i]) := rfl
@[simp] theorem modHb_rd (a : Nat) : (s.modHb i f).rd a = s.rd a := rfl
end modHb

section modBank
variable (s : State) (i : Fin 8) (f : Bank → Bank)
@[simp] theorem modBank_pending : (s.modBank i f).pending = s.pending := rfl
@[simp] theorem modBank_regs : (s.modBank i f).regs = s.regs := rfl
@[simp] theorem modBank_free : (s.modBank i f).free = s.free := rfl
@[simp] theorem modBank_fresh : (s.modBank i f).fresh = s.fresh := rfl
@[simp] theorem modBank_clk : (s.modBank i f).clk = s.clk := rfl
@[simp] theorem modBank_link : (s.modBank i f).link = s.link := rfl
@[simp] theorem modBank_ops : (s.modBank i f).ops = s.ops := rfl
@[simp] theorem modBank_can : (s.modBank i f).can = s.can := rfl
@[simp] theorem modBank_rcd : (s.modBank i f).rcd = s.rcd := rfl
@[simp] theorem modBank_tim : (s.modBank i f).tim = s.tim := rfl
@[simp] theorem modBank_hb : (s.modBank i f).hb = s.hb := rfl
@[simp] theorem modBank_ax : (s.modBank i f).ax = s.ax := rfl
@[simp] theorem modBank_fus : (s.modBank i f).fus = s.fus := rfl
@[simp] theorem modBank_sched : (s.modBank i f).sched = s.sched := rfl
@[simp] theorem modBank_sol : (s.modBank i f).sol = s.sol := rfl
@[simp] theorem modBank_img : (s.modBank i f).img = s.img := rfl
@[simp] theorem modBank_pwr : (s.modBank i f).pwr = s.pwr := rfl
@[simp] theorem modBank_store : (s.modBank i f).store = s.store := rfl
@[simp] theorem modBank_pair : (s.modBank i f).pair = s.pair := rfl
@[simp] theorem modBank_safe : (s.modBank i f).safe = s.safe := rfl
@[simp] theorem modBank_lands : (s.modBank i f).lands = s.lands := rfl
@[simp] theorem modBank_bank : (s.modBank i f).bank = s.bank.set i (f s.bank[i]) := rfl
@[simp] theorem modBank_rd (a : Nat) : (s.modBank i f).rd a = s.rd a := rfl
end modBank

section modAx
variable (s : State) (i : Fin 24) (f : Axis → Axis)
@[simp] theorem modAx_pending : (s.modAx i f).pending = s.pending := rfl
@[simp] theorem modAx_regs : (s.modAx i f).regs = s.regs := rfl
@[simp] theorem modAx_free : (s.modAx i f).free = s.free := rfl
@[simp] theorem modAx_fresh : (s.modAx i f).fresh = s.fresh := rfl
@[simp] theorem modAx_clk : (s.modAx i f).clk = s.clk := rfl
@[simp] theorem modAx_link : (s.modAx i f).link = s.link := rfl
@[simp] theorem modAx_ops : (s.modAx i f).ops = s.ops := rfl
@[simp] theorem modAx_can : (s.modAx i f).can = s.can := rfl
@[simp] theorem modAx_rcd : (s.modAx i f).rcd = s.rcd := rfl
@[simp] theorem modAx_tim : (s.modAx i f).tim = s.tim := rfl
@[simp] theorem modAx_hb : (s.modAx i f).hb = s.hb := rfl
@[simp] theorem modAx_bank : (s.modAx i f).bank = s.bank := rfl
@[simp] theorem modAx_fus : (s.modAx i f).fus = s.fus := rfl
@[simp] theorem modAx_sched : (s.modAx i f).sched = s.sched := rfl
@[simp] theorem modAx_sol : (s.modAx i f).sol = s.sol := rfl
@[simp] theorem modAx_img : (s.modAx i f).img = s.img := rfl
@[simp] theorem modAx_pwr : (s.modAx i f).pwr = s.pwr := rfl
@[simp] theorem modAx_store : (s.modAx i f).store = s.store := rfl
@[simp] theorem modAx_pair : (s.modAx i f).pair = s.pair := rfl
@[simp] theorem modAx_safe : (s.modAx i f).safe = s.safe := rfl
@[simp] theorem modAx_lands : (s.modAx i f).lands = s.lands := rfl
@[simp] theorem modAx_ax : (s.modAx i f).ax = s.ax.set i (f s.ax[i]) := rfl
@[simp] theorem modAx_rd (a : Nat) : (s.modAx i f).rd a = s.rd a := rfl
end modAx

section modSlot
variable (s : State) (i : Fin 8) (f : OpSlot → OpSlot)
@[simp] theorem modSlot_pending : (s.modSlot i f).pending = s.pending := rfl
@[simp] theorem modSlot_regs : (s.modSlot i f).regs = s.regs := rfl
@[simp] theorem modSlot_free : (s.modSlot i f).free = s.free := rfl
@[simp] theorem modSlot_fresh : (s.modSlot i f).fresh = s.fresh := rfl
@[simp] theorem modSlot_clk : (s.modSlot i f).clk = s.clk := rfl
@[simp] theorem modSlot_link : (s.modSlot i f).link = s.link := rfl
@[simp] theorem modSlot_can : (s.modSlot i f).can = s.can := rfl
@[simp] theorem modSlot_rcd : (s.modSlot i f).rcd = s.rcd := rfl
@[simp] theorem modSlot_tim : (s.modSlot i f).tim = s.tim := rfl
@[simp] theorem modSlot_hb : (s.modSlot i f).hb = s.hb := rfl
@[simp] theorem modSlot_bank : (s.modSlot i f).bank = s.bank := rfl
@[simp] theorem modSlot_ax : (s.modSlot i f).ax = s.ax := rfl
@[simp] theorem modSlot_fus : (s.modSlot i f).fus = s.fus := rfl
@[simp] theorem modSlot_sched : (s.modSlot i f).sched = s.sched := rfl
@[simp] theorem modSlot_sol : (s.modSlot i f).sol = s.sol := rfl
@[simp] theorem modSlot_img : (s.modSlot i f).img = s.img := rfl
@[simp] theorem modSlot_pwr : (s.modSlot i f).pwr = s.pwr := rfl
@[simp] theorem modSlot_store : (s.modSlot i f).store = s.store := rfl
@[simp] theorem modSlot_pair : (s.modSlot i f).pair = s.pair := rfl
@[simp] theorem modSlot_safe : (s.modSlot i f).safe = s.safe := rfl
@[simp] theorem modSlot_lands : (s.modSlot i f).lands = s.lands := rfl
@[simp] theorem modSlot_rd (a : Nat) : (s.modSlot i f).rd a = s.rd a := rfl
end modSlot

section modConv
variable (s : State) (i : Fin 24) (f : Conv → Conv)
@[simp] theorem modConv_pending : (s.modConv i f).pending = s.pending := rfl
@[simp] theorem modConv_regs : (s.modConv i f).regs = s.regs := rfl
@[simp] theorem modConv_free : (s.modConv i f).free = s.free := rfl
@[simp] theorem modConv_fresh : (s.modConv i f).fresh = s.fresh := rfl
@[simp] theorem modConv_clk : (s.modConv i f).clk = s.clk := rfl
@[simp] theorem modConv_link : (s.modConv i f).link = s.link := rfl
@[simp] theorem modConv_ops : (s.modConv i f).ops = s.ops := rfl
@[simp] theorem modConv_can : (s.modConv i f).can = s.can := rfl
@[simp] theorem modConv_rcd : (s.modConv i f).rcd = s.rcd := rfl
@[simp] theorem modConv_tim : (s.modConv i f).tim = s.tim := rfl
@[simp] theorem modConv_hb : (s.modConv i f).hb = s.hb := rfl
@[simp] theorem modConv_ax : (s.modConv i f).ax = s.ax := rfl
@[simp] theorem modConv_fus : (s.modConv i f).fus = s.fus := rfl
@[simp] theorem modConv_sched : (s.modConv i f).sched = s.sched := rfl
@[simp] theorem modConv_sol : (s.modConv i f).sol = s.sol := rfl
@[simp] theorem modConv_img : (s.modConv i f).img = s.img := rfl
@[simp] theorem modConv_pwr : (s.modConv i f).pwr = s.pwr := rfl
@[simp] theorem modConv_store : (s.modConv i f).store = s.store := rfl
@[simp] theorem modConv_pair : (s.modConv i f).pair = s.pair := rfl
@[simp] theorem modConv_safe : (s.modConv i f).safe = s.safe := rfl
@[simp] theorem modConv_lands : (s.modConv i f).lands = s.lands := rfl
@[simp] theorem modConv_rd (a : Nat) : (s.modConv i f).rd a = s.rd a := rfl
end modConv

section modRow
variable (s : State) (i : Fin 24) (f : SolRow → SolRow)
@[simp] theorem modRow_pending : (s.modRow i f).pending = s.pending := rfl
@[simp] theorem modRow_regs : (s.modRow i f).regs = s.regs := rfl
@[simp] theorem modRow_free : (s.modRow i f).free = s.free := rfl
@[simp] theorem modRow_fresh : (s.modRow i f).fresh = s.fresh := rfl
@[simp] theorem modRow_clk : (s.modRow i f).clk = s.clk := rfl
@[simp] theorem modRow_link : (s.modRow i f).link = s.link := rfl
@[simp] theorem modRow_ops : (s.modRow i f).ops = s.ops := rfl
@[simp] theorem modRow_can : (s.modRow i f).can = s.can := rfl
@[simp] theorem modRow_rcd : (s.modRow i f).rcd = s.rcd := rfl
@[simp] theorem modRow_tim : (s.modRow i f).tim = s.tim := rfl
@[simp] theorem modRow_hb : (s.modRow i f).hb = s.hb := rfl
@[simp] theorem modRow_bank : (s.modRow i f).bank = s.bank := rfl
@[simp] theorem modRow_ax : (s.modRow i f).ax = s.ax := rfl
@[simp] theorem modRow_fus : (s.modRow i f).fus = s.fus := rfl
@[simp] theorem modRow_sched : (s.modRow i f).sched = s.sched := rfl
@[simp] theorem modRow_img : (s.modRow i f).img = s.img := rfl
@[simp] theorem modRow_pwr : (s.modRow i f).pwr = s.pwr := rfl
@[simp] theorem modRow_store : (s.modRow i f).store = s.store := rfl
@[simp] theorem modRow_pair : (s.modRow i f).pair = s.pair := rfl
@[simp] theorem modRow_safe : (s.modRow i f).safe = s.safe := rfl
@[simp] theorem modRow_lands : (s.modRow i f).lands = s.lands := rfl
@[simp] theorem modRow_rd (a : Nat) : (s.modRow i f).rd a = s.rd a := rfl
end modRow

section wr
variable (s : State) (a : Nat) (v : Word)
@[simp] theorem wr_pending : (s.wr a v).pending = s.pending := rfl
@[simp] theorem wr_free : (s.wr a v).free = s.free := rfl
@[simp] theorem wr_fresh : (s.wr a v).fresh = s.fresh := rfl
@[simp] theorem wr_clk : (s.wr a v).clk = s.clk := rfl
@[simp] theorem wr_link : (s.wr a v).link = s.link := rfl
@[simp] theorem wr_ops : (s.wr a v).ops = s.ops := rfl
@[simp] theorem wr_can : (s.wr a v).can = s.can := rfl
@[simp] theorem wr_rcd : (s.wr a v).rcd = s.rcd := rfl
@[simp] theorem wr_tim : (s.wr a v).tim = s.tim := rfl
@[simp] theorem wr_hb : (s.wr a v).hb = s.hb := rfl
@[simp] theorem wr_bank : (s.wr a v).bank = s.bank := rfl
@[simp] theorem wr_ax : (s.wr a v).ax = s.ax := rfl
@[simp] theorem wr_fus : (s.wr a v).fus = s.fus := rfl
@[simp] theorem wr_sched : (s.wr a v).sched = s.sched := rfl
@[simp] theorem wr_sol : (s.wr a v).sol = s.sol := rfl
@[simp] theorem wr_img : (s.wr a v).img = s.img := rfl
@[simp] theorem wr_pwr : (s.wr a v).pwr = s.pwr := rfl
@[simp] theorem wr_store : (s.wr a v).store = s.store := rfl
@[simp] theorem wr_pair : (s.wr a v).pair = s.pair := rfl
@[simp] theorem wr_safe : (s.wr a v).safe = s.safe := rfl
@[simp] theorem wr_lands : (s.wr a v).lands = s.lands := rfl
end wr

@[simp] theorem modTim_get (s : State) (t u : Fin 24) (f : Timer → Timer) :
    (s.modTim t f).tim[u] = if t = u then f s.tim[t] else s.tim[u] := by
  simp [State.modTim, Vector.getElem_set, Fin.ext_iff]

@[simp] theorem modHb_get (s : State) (t u : Fin 72) (f : HalfB → HalfB) :
    (s.modHb t f).hb[u] = if t = u then f s.hb[t] else s.hb[u] := by
  simp [State.modHb, Vector.getElem_set, Fin.ext_iff]

@[simp] theorem modBank_get (s : State) (t u : Fin 8) (f : Bank → Bank) :
    (s.modBank t f).bank[u] = if t = u then f s.bank[t] else s.bank[u] := by
  simp [State.modBank, Vector.getElem_set, Fin.ext_iff]

@[simp] theorem modAx_get (s : State) (t u : Fin 24) (f : Axis → Axis) :
    (s.modAx t f).ax[u] = if t = u then f s.ax[t] else s.ax[u] := by
  simp [State.modAx, Vector.getElem_set, Fin.ext_iff]

@[simp] theorem modCan_get (s : State) (t u : Fin 2) (f : Can → Can) :
    (s.modCan t f).can[u] = if t = u then f s.can[t] else s.can[u] := by
  simp [State.modCan, Vector.getElem_set, Fin.ext_iff]

@[simp] theorem modSlot_get (s : State) (t u : Fin 8) (f : OpSlot → OpSlot) :
    (s.modSlot t f).ops.slots[u] = if t = u then f s.ops.slots[t] else s.ops.slots[u] := by
  simp [State.modSlot, Vector.getElem_set, Fin.ext_iff]

@[simp] theorem modRow_get (s : State) (t u : Fin 24) (f : SolRow → SolRow) :
    (s.modRow t f).sol.rows[u] = if t = u then f s.sol.rows[t] else s.sol.rows[u] := by
  simp [State.modRow, Vector.getElem_set, Fin.ext_iff]

/-! ### Frames -/

/-- The state with the parts `m` at their reset values and the registers it covers taken out: what a frame compares. -/
def forget (m : Parts) (s : State) : State :=
  { pending := s.pending
    regs := s.regs.filter (fun p => !m.covers p.1)
    free := if m.free then 0 else s.free
    fresh := if m.fresh then [] else s.fresh
    clk := if m.clk then Clk.reset else s.clk
    link := if m.link then Link.reset else s.link
    ops := if m.ops then Ops.reset else s.ops
    can := if m.can then Vector.replicate 2 Can.reset else s.can
    rcd := if m.rcd then { Recorder.reset with slots := if m.recs then [] else s.rcd.slots } else s.rcd
    tim := if m.tim then Vector.replicate 24 Timer.reset else s.tim
    hb := if m.hb then Vector.replicate 72 HalfB.reset else s.hb
    bank := if m.bank then Vector.replicate 8 Bank.reset else s.bank
    ax := if m.ax then Vector.replicate 24 Axis.reset else s.ax
    fus := if m.fus then Fusion.reset else s.fus
    sched := if m.sched then Sched.reset else s.sched
    sol := if m.sol then Solver.reset else s.sol
    img := if m.img then { Img.reset with window := if m.win then [] else s.img.window } else s.img
    pwr := if m.pwr then Pwr.reset else s.pwr
    store := if m.store then { Store.reset with mem := if m.mem then [] else s.store.mem } else s.store
    pair := if m.pair then Pair.reset else s.pair
    safe := if m.safe then Safe.reset else s.safe
    lands := if m.lands then Lands.reset else s.lands
  }

theorem covers_all {P : Parts} (h : ∀ b, b ∈ P.blks) (a : Nat) : P.covers a = true := by
  simp [Parts.covers, h]

theorem has_all {P : Parts} (h : ∀ b, b ∈ P.blks) (r : Reg) : P.Has r := fun a _ => covers_all h a

theorem has_of_mem {P : Parts} {r : Reg} (h : r ∈ P.regs) : P.Has r := by
  intro a ha
  have : P.regs.any (fun r => isAt r a) = true := List.any_eq_true.mpr ⟨r, h, ha⟩
  simp [Parts.covers, this]

theorem filter_mapDel {α : Type} (l : List (Nat × α)) (k : Nat) (P : Nat × α → Bool) (h : ∀ v, P (k, v) = false) :
    (mapDel l k).filter P = l.filter P := by
  induction l with
  | nil => rfl
  | cons p r ih =>
    obtain ⟨i, v⟩ := p
    by_cases hi : i = k
    · subst hi; simp [mapDel, ih, h]
    · simp [mapDel, hi, ih, List.filter_cons]

theorem filter_mapIns {α : Type} (l : List (Nat × α)) (k : Nat) (v : α) (P : Nat × α → Bool) (h : ∀ v, P (k, v) = false) :
    (mapIns l k v).filter P = l.filter P := by
  induction l with
  | nil => simp [mapIns, h]
  | cons p r ih =>
    obtain ⟨i, w⟩ := p
    by_cases hl : k < i <;> simp [mapIns, hl, h, ih, List.filter_cons]

theorem mapGet_filter {α : Type} (l : List (Nat × α)) (k : Nat) (P : Nat × α → Bool) (h : ∀ v, P (k, v) = true) :
    mapGet (l.filter P) k = mapGet l k := by
  induction l with
  | nil => rfl
  | cons p r ih =>
    obtain ⟨i, w⟩ := p
    by_cases hi : i = k
    · subst hi; simp [h, mapGet]
    · cases hp : P (i, w) <;> simp [hp, mapGet, hi, ih]

/-- Setting a register of `m` does not show outside `m`. -/
theorem wr_forget (m : Parts) (s : State) (a : Nat) (v : Word) (h : m.covers a = true) : forget m (s.wr a v) = forget m s := by
  unfold forget State.wr
  by_cases hv : v = resetOf a
  · simp only [hv, if_true]
    rw [filter_mapDel]
    simp [h]
  · simp only [hv, if_false, mapPut]
    rw [filter_mapIns, filter_mapDel] <;> simp [h]

theorem wrs_forget (m : Parts) (l : List Word) : ∀ (s : State) (a : Nat),
    (∀ i < l.length, m.covers (a + i) = true) → forget m (s.wrs a l) = forget m s := by
  induction l with
  | nil => intro s a _; rfl
  | cons v vs ih =>
    intro s a h
    rw [State.wrs, ih _ _ (fun i hi => by have := h (i + 1) (by simp; omega); rwa [Nat.add_assoc, Nat.add_comm 1 i]),
      wr_forget m s a v (by simpa using h 0 (by simp))]

theorem clearRange_forget (m : Parts) (s : State) (lo hi : Nat) (h : ∀ a, lo ≤ a → a < hi → m.covers a = true) :
    forget m (s.clearRange lo hi) = forget m s := by
  unfold forget State.clearRange
  simp only [List.filter_filter, State.mk.injEq, and_true, true_and]
  congr 1
  funext p
  by_cases hp : m.covers p.1 = true
  · simp [hp]
  · have : ¬ (lo ≤ p.1 ∧ p.1 < hi) := fun c => hp (h _ c.1 c.2)
    simp [hp, this]

theorem modClk_forget (m : Parts) (s : State) (f : Clk → Clk) (h : m.clk = true) :
    forget m (s.modClk f) = forget m s := by simp [forget, State.modClk, h]

theorem modLink_forget (m : Parts) (s : State) (f : Link → Link) (h : m.link = true) :
    forget m (s.modLink f) = forget m s := by simp [forget, State.modLink, h]

theorem modOps_forget (m : Parts) (s : State) (f : Ops → Ops) (h : m.ops = true) :
    forget m (s.modOps f) = forget m s := by simp [forget, State.modOps, h]

theorem modRcd_forget (m : Parts) (s : State) (f : Recorder → Recorder) (h : m.rcd = true)
    (hf : ∀ x, (f x).slots = x.slots) : forget m (s.modRcd f) = forget m s := by simp [forget, State.modRcd, h, hf]

theorem modRcd_forget_recs (m : Parts) (s : State) (f : Recorder → Recorder) (h : m.rcd = true) (hm : m.recs = true) :
    forget m (s.modRcd f) = forget m s := by simp [forget, State.modRcd, h, hm]

theorem modFus_forget (m : Parts) (s : State) (f : Fusion → Fusion) (h : m.fus = true) :
    forget m (s.modFus f) = forget m s := by simp [forget, State.modFus, h]

theorem modSched_forget (m : Parts) (s : State) (f : Sched → Sched) (h : m.sched = true) :
    forget m (s.modSched f) = forget m s := by simp [forget, State.modSched, h]

theorem modSol_forget (m : Parts) (s : State) (f : Solver → Solver) (h : m.sol = true) :
    forget m (s.modSol f) = forget m s := by simp [forget, State.modSol, h]

theorem modImg_forget (m : Parts) (s : State) (f : Img → Img) (h : m.img = true)
    (hf : ∀ x, (f x).window = x.window) : forget m (s.modImg f) = forget m s := by simp [forget, State.modImg, h, hf]

theorem modImg_forget_win (m : Parts) (s : State) (f : Img → Img) (h : m.img = true) (hm : m.win = true) :
    forget m (s.modImg f) = forget m s := by simp [forget, State.modImg, h, hm]

theorem modPwr_forget (m : Parts) (s : State) (f : Pwr → Pwr) (h : m.pwr = true) :
    forget m (s.modPwr f) = forget m s := by simp [forget, State.modPwr, h]

theorem modStore_forget (m : Parts) (s : State) (f : Store → Store) (h : m.store = true)
    (hf : ∀ x, (f x).mem = x.mem) : forget m (s.modStore f) = forget m s := by simp [forget, State.modStore, h, hf]

theorem modStore_forget_mem (m : Parts) (s : State) (f : Store → Store) (h : m.store = true) (hm : m.mem = true) :
    forget m (s.modStore f) = forget m s := by simp [forget, State.modStore, h, hm]

theorem modPair_forget (m : Parts) (s : State) (f : Pair → Pair) (h : m.pair = true) :
    forget m (s.modPair f) = forget m s := by simp [forget, State.modPair, h]

theorem modSafe_forget (m : Parts) (s : State) (f : Safe → Safe) (h : m.safe = true) :
    forget m (s.modSafe f) = forget m s := by simp [forget, State.modSafe, h]

theorem modLands_forget (m : Parts) (s : State) (f : Lands → Lands) (h : m.lands = true) :
    forget m (s.modLands f) = forget m s := by simp [forget, State.modLands, h]

theorem modCan_forget (m : Parts) (s : State) (i : Fin 2) (f : Can → Can) (h : m.can = true) :
    forget m (s.modCan i f) = forget m s := by simp [forget, State.modCan, h]

theorem modTim_forget (m : Parts) (s : State) (i : Fin 24) (f : Timer → Timer) (h : m.tim = true) :
    forget m (s.modTim i f) = forget m s := by simp [forget, State.modTim, h]

theorem modHb_forget (m : Parts) (s : State) (i : Fin 72) (f : HalfB → HalfB) (h : m.hb = true) :
    forget m (s.modHb i f) = forget m s := by simp [forget, State.modHb, h]

theorem modBank_forget (m : Parts) (s : State) (i : Fin 8) (f : Bank → Bank) (h : m.bank = true) :
    forget m (s.modBank i f) = forget m s := by simp [forget, State.modBank, h]

theorem modAx_forget (m : Parts) (s : State) (i : Fin 24) (f : Axis → Axis) (h : m.ax = true) :
    forget m (s.modAx i f) = forget m s := by simp [forget, State.modAx, h]

theorem modSlot_forget (m : Parts) (s : State) (i : Fin 8) (f : OpSlot → OpSlot) (h : m.ops = true) :
    forget m (s.modSlot i f) = forget m s := by simp [forget, State.modSlot, State.modOps, h]

theorem modConv_forget (m : Parts) (s : State) (i : Fin 24) (f : Conv → Conv) (h : m.bank = true) :
    forget m (s.modConv i f) = forget m s := by simp [forget, State.modConv, State.modBank, h]

theorem modRow_forget (m : Parts) (s : State) (i : Fin 24) (f : SolRow → SolRow) (h : m.sol = true) :
    forget m (s.modRow i f) = forget m s := by simp [forget, State.modRow, State.modSol, h]

theorem took_forget (m : Parts) (s : State) (h : m.free = true) : forget m s.took = forget m s := by
  simp [forget, State.took, h]

theorem setFree_forget (m : Parts) (s : State) (n : Nat) (h : m.free = true) :
    forget m { s with free := n } = forget m s := by
  simp [forget, h]

theorem setFresh_forget (m : Parts) (s : State) (l : List (Nat × Word)) (h : m.fresh = true) :
    forget m { s with fresh := l } = forget m s := by
  simp [forget, h]

theorem each_forget {α : Type} (m : Parts) (f : State → α → State) (l : List α) (h : ∀ s x, forget m (f s x) = forget m s) :
    ∀ s : State, forget m (s.each l f) = forget m s := by
  induction l with
  | nil => intro s; rfl
  | cons x xs ih => intro s; exact (ih (f s x)).trans (h s x)

theorem each_forget_mem {α : Type} (m : Parts) (f : State → α → State) (l : List α) :
    (∀ s, ∀ x ∈ l, forget m (f s x) = forget m s) → ∀ s : State, forget m (s.each l f) = forget m s := by
  induction l with
  | nil => intro _ s; rfl
  | cons x xs ih =>
    intro h s
    exact (ih (fun s y hy => h s y (List.mem_cons_of_mem _ hy)) (f s x)).trans (h s x (List.mem_cons_self ..))

theorem ite_forget (m : Parts) (c : Prop) [Decidable c] (s t : State) :
    forget m (if c then s else t) = if c then forget m s else forget m t := apply_ite (forget m) c s t

/-- A frame: equal outside `m` means that only `m` may have changed. -/
theorem only_of_forget {m : Parts} {s t : State} (h : forget m t = forget m s) : Only m s t := by
  have hp : ∀ {α : Type} (f : State → α), f (forget m t) = f (forget m s) := fun f => congrArg f h
  constructor
  · exact hp State.pending
  · intro a ha
    have := congrArg (fun l => mapGet l a) (hp State.regs)
    simp only [forget] at this
    rw [mapGet_filter _ _ _ (by simp [ha]), mapGet_filter _ _ _ (by simp [ha])] at this
    simp [State.rd, this]
  · intro hm; simpa [forget, hm] using hp State.free
  · intro hm; simpa [forget, hm] using hp State.fresh
  · intro hm; simpa [forget, hm] using hp State.clk
  · intro hm; simpa [forget, hm] using hp State.link
  · intro hm; simpa [forget, hm] using hp State.ops
  · intro hm; simpa [forget, hm] using hp State.can
  · intro hm; simpa [forget, hm] using hp State.rcd
  · intro hm; simpa [forget, hm] using hp State.tim
  · intro hm; simpa [forget, hm] using hp State.hb
  · intro hm; simpa [forget, hm] using hp State.bank
  · intro hm; simpa [forget, hm] using hp State.ax
  · intro hm; simpa [forget, hm] using hp State.fus
  · intro hm; simpa [forget, hm] using hp State.sched
  · intro hm; simpa [forget, hm] using hp State.sol
  · intro hm; simpa [forget, hm] using hp State.img
  · intro hm; simpa [forget, hm] using hp State.pwr
  · intro hm; simpa [forget, hm] using hp State.store
  · intro hm; simpa [forget, hm] using hp State.pair
  · intro hm; simpa [forget, hm] using hp State.safe
  · intro hm; simpa [forget, hm] using hp State.lands
  · intro hm; have := congrArg Store.mem (hp State.store); simp only [forget, hm] at this; split at this <;> simpa using this
  · intro hm; have := congrArg Img.window (hp State.img); simp only [forget, hm] at this; split at this <;> simpa using this
  · intro hm; have := congrArg Recorder.slots (hp State.rcd); simp only [forget, hm] at this; split at this <;> simpa using this

end Sys2Proof.Laws
end

