-- ==== Sys2Proof/Laws/FrameOps.lean ====
section
/-! SUPPORT. Sys2Proof/Laws/FrameOps.lean: which parts of the state each operation of Machine/Ops.lean may change. -/
namespace Sys2Proof.Laws
set_option Elab.async false
set_option linter.unusedSimpArgs false
open Sys2Proof.Machine Sys2Proof.Safety

theorem wrQ_forget (P : Parts) (s : State) (a n q : Nat) (h : ∀ i < n, P.covers (a + i) = true) :
    forget P (s.wrQ a n q) = forget P s :=
  wrs_forget P _ s a (by simpa using h)

/-! ### The block of each register (Table MAP-5) -/

theorem blkOf_sys {a : Nat} (h1 : 0x0 ≤ a) (h2 : a < 0x100) : blkOf a = .sys := by
  unfold blkOf
  rw [if_pos h2]

theorem blkOf_time {a : Nat} (h1 : 0x100 ≤ a) (h2 : a < 0x200) : blkOf a = .time := by
  unfold blkOf
  rw [if_neg (by omega), if_pos h2]

theorem blkOf_host {a : Nat} (h1 : 0x200 ≤ a) (h2 : a < 0x400) : blkOf a = .host := by
  unfold blkOf
  rw [if_neg (by omega), if_neg (by omega), if_pos h2]

theorem blkOf_evt {a : Nat} (h1 : 0x400 ≤ a) (h2 : a < 0x600) : blkOf a = .evt := by
  unfold blkOf
  rw [if_neg (by omega), if_neg (by omega), if_neg (by omega), if_pos h2]

theorem blkOf_recorder {a : Nat} (h1 : 0x600 ≤ a) (h2 : a < 0x800) : blkOf a = .recorder := by
  unfold blkOf
  rw [if_neg (by omega), if_neg (by omega), if_neg (by omega), if_neg (by omega), if_pos h2]

theorem blkOf_pwr {a : Nat} (h1 : 0x800 ≤ a) (h2 : a < 0xA00) : blkOf a = .pwr := by
  unfold blkOf
  rw [if_neg (by omega), if_neg (by omega), if_neg (by omega), if_neg (by omega), if_neg (by omega), if_pos h2]

theorem blkOf_store {a : Nat} (h1 : 0xA00 ≤ a) (h2 : a < 0xC00) : blkOf a = .store := by
  unfold blkOf
  rw [if_neg (by omega), if_neg (by omega), if_neg (by omega), if_neg (by omega), if_neg (by omega), if_neg (by omega), if_pos h2]

theorem blkOf_pair {a : Nat} (h1 : 0xC00 ≤ a) (h2 : a < 0xE00) : blkOf a = .pair := by
  unfold blkOf
  rw [if_neg (by omega), if_neg (by omega), if_neg (by omega), if_neg (by omega), if_neg (by omega), if_neg (by omega), if_neg (by omega), if_pos h2]

theorem blkOf_safe {a : Nat} (h1 : 0xE00 ≤ a) (h2 : a < 0x1000) : blkOf a = .safe := by
  unfold blkOf
  rw [if_neg (by omega), if_neg (by omega), if_neg (by omega), if_neg (by omega), if_neg (by omega), if_neg (by omega), if_neg (by omega), if_neg (by omega), if_pos h2]

theorem blkOf_fus {a : Nat} (h1 : 0x1000 ≤ a) (h2 : a < 0x1400) : blkOf a = .fus := by
  unfold blkOf
  rw [if_neg (by omega), if_neg (by omega), if_neg (by omega), if_neg (by omega), if_neg (by omega), if_neg (by omega), if_neg (by omega), if_neg (by omega), if_neg (by omega), if_pos h2]

theorem blkOf_sch {a : Nat} (h1 : 0x1400 ≤ a) (h2 : a < 0x1800) : blkOf a = .sch := by
  unfold blkOf
  rw [if_neg (by omega), if_neg (by omega), if_neg (by omega), if_neg (by omega), if_neg (by omega), if_neg (by omega), if_neg (by omega), if_neg (by omega), if_neg (by omega), if_neg (by omega), if_pos h2]

theorem blkOf_sol {a : Nat} (h1 : 0x1800 ≤ a) (h2 : a < 0x2000) : blkOf a = .sol := by
  unfold blkOf
  rw [if_neg (by omega), if_neg (by omega), if_neg (by omega), if_neg (by omega), if_neg (by omega), if_neg (by omega), if_neg (by omega), if_neg (by omega), if_neg (by omega), if_neg (by omega), if_neg (by omega), if_pos h2]

theorem blkOf_bank {a : Nat} (h1 : 0x2000 ≤ a) (h2 : a < 0x4000) : blkOf a = .bank := by
  unfold blkOf
  rw [if_neg (by omega), if_neg (by omega), if_neg (by omega), if_neg (by omega), if_neg (by omega), if_neg (by omega), if_neg (by omega), if_neg (by omega), if_neg (by omega), if_neg (by omega), if_neg (by omega), if_neg (by omega), if_pos h2]

theorem blkOf_can {a : Nat} (h1 : 0x4000 ≤ a) (h2 : a < 0x8000) : blkOf a = .can := by
  unfold blkOf
  rw [if_neg (by omega), if_neg (by omega), if_neg (by omega), if_neg (by omega), if_neg (by omega), if_neg (by omega), if_neg (by omega), if_neg (by omega), if_neg (by omega), if_neg (by omega), if_neg (by omega), if_neg (by omega), if_neg (by omega), if_pos h2]

theorem blkOf_win {a : Nat} (h1 : 0x8000 ≤ a) (h2 : a < 0xA000) : blkOf a = .win := by
  unfold blkOf
  rw [if_neg (by omega), if_neg (by omega), if_neg (by omega), if_neg (by omega), if_neg (by omega), if_neg (by omega), if_neg (by omega), if_neg (by omega), if_neg (by omega), if_neg (by omega), if_neg (by omega), if_neg (by omega), if_neg (by omega), if_neg (by omega), if_pos h2]

theorem blkOf_storew {a : Nat} (h1 : 0xA000 ≤ a) (h2 : a < 0xC000) : blkOf a = .storew := by
  unfold blkOf
  rw [if_neg (by omega), if_neg (by omega), if_neg (by omega), if_neg (by omega), if_neg (by omega), if_neg (by omega), if_neg (by omega), if_neg (by omega), if_neg (by omega), if_neg (by omega), if_neg (by omega), if_neg (by omega), if_neg (by omega), if_neg (by omega), if_neg (by omega), if_pos h2]

theorem blkOf_recw {a : Nat} (h1 : 0xC000 ≤ a) (h2 : a < 0x10000) : blkOf a = .recw := by
  unfold blkOf
  rw [if_neg (by omega), if_neg (by omega), if_neg (by omega), if_neg (by omega), if_neg (by omega), if_neg (by omega), if_neg (by omega), if_neg (by omega), if_neg (by omega), if_neg (by omega), if_neg (by omega), if_neg (by omega), if_neg (by omega), if_neg (by omega), if_neg (by omega), if_neg (by omega), if_pos h2]

/-! ### The registers of the frames -/

theorem dimIdx_nil : (dimIdx [] 0).isSome = true := rfl

theorem dimIdx_cons {n st i off : Nat} {ds : List (Nat × Nat)} (hi : i < n) (ho : off < st) (h : (dimIdx ds off).isSome = true) :
    (dimIdx ((n, st) :: ds) (st * i + off)).isSome = true := by
  have h0 : 0 < st := by omega
  rw [dimIdx, Nat.mul_add_div h0, Nat.div_eq_of_lt ho, Nat.add_zero, if_pos hi, Option.isSome_map, Nat.mul_add_mod,
    Nat.mod_eq_of_lt ho]
  exact h

theorem isAt_of {l : List RegRow} {r : Reg} {k : Nat} {w : RegRow} {a off : Nat} (hl : ∀ w ∈ l, w ∈ allRows)
    (hw : l[k]? = some w) (hr : w.reg = r) (ha : a = w.base + off) (h : (dimIdx w.dims off).isSome = true) :
    isAt r a = true := by
  subst hr
  refine List.any_eq_true.mpr ⟨w, hl w (List.mem_of_getElem? hw), ?_⟩
  have : (w.idx a).isSome = true := by
    unfold RegRow.idx
    rw [if_neg (by omega), show a - w.base = off from by omega]
    exact h
  simp [this]

theorem in_rows_bank0 : ∀ w ∈ rows_bank0, w ∈ allRows := by
  intro w h
  simp only [allRows, rows_bank, List.mem_append, h, true_or, or_true]

theorem in_rows_bank1 : ∀ w ∈ rows_bank1, w ∈ allRows := by
  intro w h
  simp only [allRows, rows_bank, List.mem_append, h, true_or, or_true]

theorem in_rows_bank2 : ∀ w ∈ rows_bank2, w ∈ allRows := by
  intro w h
  simp only [allRows, rows_bank, List.mem_append, h, true_or, or_true]

theorem in_rows_bank3 : ∀ w ∈ rows_bank3, w ∈ allRows := by
  intro w h
  simp only [allRows, rows_bank, List.mem_append, h, true_or, or_true]

theorem in_rows_bank4 : ∀ w ∈ rows_bank4, w ∈ allRows := by
  intro w h
  simp only [allRows, rows_bank, List.mem_append, h, true_or, or_true]

theorem in_rows_bank5 : ∀ w ∈ rows_bank5, w ∈ allRows := by
  intro w h
  simp only [allRows, rows_bank, List.mem_append, h, true_or, or_true]

theorem in_rows_bank6 : ∀ w ∈ rows_bank6, w ∈ allRows := by
  intro w h
  simp only [allRows, rows_bank, List.mem_append, h, true_or, or_true]

theorem in_rows_can0 : ∀ w ∈ rows_can0, w ∈ allRows := by
  intro w h
  simp only [allRows, rows_can, List.mem_append, h, true_or, or_true]

theorem in_rows_can1 : ∀ w ∈ rows_can1, w ∈ allRows := by
  intro w h
  simp only [allRows, rows_can, List.mem_append, h, true_or, or_true]

theorem in_rows_evt : ∀ w ∈ rows_evt, w ∈ allRows := by
  intro w h
  simp only [allRows, List.mem_append, h, true_or, or_true]

theorem in_rows_fus0 : ∀ w ∈ rows_fus0, w ∈ allRows := by
  intro w h
  simp only [allRows, rows_fus, List.mem_append, h, true_or, or_true]

theorem in_rows_fus1 : ∀ w ∈ rows_fus1, w ∈ allRows := by
  intro w h
  simp only [allRows, rows_fus, List.mem_append, h, true_or, or_true]

theorem in_rows_host : ∀ w ∈ rows_host, w ∈ allRows := by
  intro w h
  simp only [allRows, List.mem_append, h, true_or, or_true]

theorem in_rows_pair : ∀ w ∈ rows_pair, w ∈ allRows := by
  intro w h
  simp only [allRows, List.mem_append, h, true_or, or_true]

theorem in_rows_pwr0 : ∀ w ∈ rows_pwr0, w ∈ allRows := by
  intro w h
  simp only [allRows, rows_pwr, List.mem_append, h, true_or, or_true]

theorem in_rows_pwr1 : ∀ w ∈ rows_pwr1, w ∈ allRows := by
  intro w h
  simp only [allRows, rows_pwr, List.mem_append, h, true_or, or_true]

theorem in_rows_recorder : ∀ w ∈ rows_recorder, w ∈ allRows := by
  intro w h
  simp only [allRows, List.mem_append, h, true_or, or_true]

theorem in_rows_recw : ∀ w ∈ rows_recw, w ∈ allRows := by
  intro w h
  simp only [allRows, List.mem_append, h, true_or, or_true]

theorem in_rows_safe : ∀ w ∈ rows_safe, w ∈ allRows := by
  intro w h
  simp only [allRows, List.mem_append, h, true_or, or_true]

theorem in_rows_sch0 : ∀ w ∈ rows_sch0, w ∈ allRows := by
  intro w h
  simp only [allRows, rows_sch, List.mem_append, h, true_or, or_true]

theorem in_rows_sch1 : ∀ w ∈ rows_sch1, w ∈ allRows := by
  intro w h
  simp only [allRows, rows_sch, List.mem_append, h, true_or, or_true]

theorem in_rows_sol0 : ∀ w ∈ rows_sol0, w ∈ allRows := by
  intro w h
  simp only [allRows, rows_sol, List.mem_append, h, true_or, or_true]

theorem in_rows_sol1 : ∀ w ∈ rows_sol1, w ∈ allRows := by
  intro w h
  simp only [allRows, rows_sol, List.mem_append, h, true_or, or_true]

theorem in_rows_store0 : ∀ w ∈ rows_store0, w ∈ allRows := by
  intro w h
  simp only [allRows, rows_store, List.mem_append, h, true_or, or_true]

theorem in_rows_store1 : ∀ w ∈ rows_store1, w ∈ allRows := by
  intro w h
  simp only [allRows, rows_store, List.mem_append, h, true_or, or_true]

theorem in_rows_storew : ∀ w ∈ rows_storew, w ∈ allRows := by
  intro w h
  simp only [allRows, List.mem_append, h, true_or, or_true]

theorem in_rows_sys0 : ∀ w ∈ rows_sys0, w ∈ allRows := by
  intro w h
  simp only [allRows, rows_sys, List.mem_append, h, true_or, or_true]

theorem in_rows_sys1 : ∀ w ∈ rows_sys1, w ∈ allRows := by
  intro w h
  simp only [allRows, rows_sys, List.mem_append, h, true_or, or_true]

theorem in_rows_time : ∀ w ∈ rows_time, w ∈ allRows := by
  intro w h
  simp only [allRows, List.mem_append, h, true_or, or_true]

theorem in_rows_win : ∀ w ∈ rows_win, w ∈ allRows := by
  intro w h
  simp only [allRows, List.mem_append, h, true_or, or_true]

theorem covers_blk {P : Parts} {a : Nat} {b : Blk} (hb : blkOf a = b) (h : b ∈ P.blks) : P.covers a = true := by
  simp [Parts.covers, hb, h]

theorem cov_AX_ANGLE {P : Parts} (h : P.Has .AX_ANGLE) (i0 i1 : Nat) (h0 : i0 < 8) (h1 : i1 < 3) :
    P.covers (A.AX_ANGLE i0 i1) = true :=
  h _ (isAt_of (off := 1024 * i0 + (96 * i1 + 0)) in_rows_bank5 (k := 0) rfl rfl
    (by show A.AX_ANGLE i0 i1 = 8775 + _; unfold A.AX_ANGLE; omega) (dimIdx_cons h0 (by omega) (dimIdx_cons h1 (by omega) dimIdx_nil)))

theorem cov_AX_CONF {P : Parts} (h : P.Has .AX_CONF) (i0 i1 : Nat) (h0 : i0 < 8) (h1 : i1 < 3) :
    P.covers (A.AX_CONF i0 i1) = true :=
  h _ (isAt_of (off := 1024 * i0 + (96 * i1 + 0)) in_rows_bank5 (k := 1) rfl rfl
    (by show A.AX_CONF i0 i1 = 8776 + _; unfold A.AX_CONF; omega) (dimIdx_cons h0 (by omega) (dimIdx_cons h1 (by omega) dimIdx_nil)))

theorem cov_AX_CUR_SET {P : Parts} (h : P.Has .AX_CUR_SET) (i0 i1 i2 : Nat) (h0 : i0 < 8) (h1 : i1 < 3) (h2 : i2 < 3)
    :
    P.covers (A.AX_CUR_SET i0 i1 i2) = true :=
  h _ (isAt_of (off := 1024 * i0 + (96 * i1 + (1 * i2 + 0))) in_rows_bank2 (k := 13) rfl rfl
    (by show A.AX_CUR_SET i0 i1 i2 = 8708 + _; unfold A.AX_CUR_SET; omega) (dimIdx_cons h0 (by omega) (dimIdx_cons h1 (by omega) (dimIdx_cons h2 (by omega) dimIdx_nil))))

theorem cov_AX_ENCPOS {P : Parts} (h : P.Has .AX_ENCPOS) (i0 i1 : Nat) (h0 : i0 < 8) (h1 : i1 < 3) :
    P.covers (A.AX_ENCPOS i0 i1) = true :=
  h _ (isAt_of (off := 1024 * i0 + (96 * i1 + 0)) in_rows_bank5 (k := 3) rfl rfl
    (by show A.AX_ENCPOS i0 i1 = 8778 + _; unfold A.AX_ENCPOS; omega) (dimIdx_cons h0 (by omega) (dimIdx_cons h1 (by omega) dimIdx_nil)))

theorem cov_AX_ENC_OFS {P : Parts} (h : P.Has .AX_ENC_OFS) (i0 i1 : Nat) (h0 : i0 < 8) (h1 : i1 < 3) :
    P.covers (A.AX_ENC_OFS i0 i1) = true :=
  h _ (isAt_of (off := 1024 * i0 + (96 * i1 + 0)) in_rows_bank3 (k := 8) rfl rfl
    (by show A.AX_ENC_OFS i0 i1 = 8725 + _; unfold A.AX_ENC_OFS; omega) (dimIdx_cons h0 (by omega) (dimIdx_cons h1 (by omega) dimIdx_nil)))

theorem cov_AX_GS_CTL {P : Parts} (h : P.Has .AX_GS_CTL) (i0 i1 : Nat) (h0 : i0 < 8) (h1 : i1 < 3) :
    P.covers (A.AX_GS_CTL i0 i1) = true :=
  h _ (isAt_of (off := 1024 * i0 + (96 * i1 + 0)) in_rows_bank4 (k := 12) rfl rfl
    (by show A.AX_GS_CTL i0 i1 = 8756 + _; unfold A.AX_GS_CTL; omega) (dimIdx_cons h0 (by omega) (dimIdx_cons h1 (by omega) dimIdx_nil)))

theorem cov_AX_GS_RATE {P : Parts} (h : P.Has .AX_GS_RATE) (i0 i1 : Nat) (h0 : i0 < 8) (h1 : i1 < 3) :
    P.covers (A.AX_GS_RATE i0 i1) = true :=
  h _ (isAt_of (off := 1024 * i0 + (96 * i1 + 0)) in_rows_bank4 (k := 8) rfl rfl
    (by show A.AX_GS_RATE i0 i1 = 8752 + _; unfold A.AX_GS_RATE; omega) (dimIdx_cons h0 (by omega) (dimIdx_cons h1 (by omega) dimIdx_nil)))

theorem cov_AX_HALL {P : Parts} (h : P.Has .AX_HALL) (i0 i1 : Nat) (h0 : i0 < 8) (h1 : i1 < 3) :
    P.covers (A.AX_HALL i0 i1) = true :=
  h _ (isAt_of (off := 1024 * i0 + (96 * i1 + 0)) in_rows_bank5 (k := 2) rfl rfl
    (by show A.AX_HALL i0 i1 = 8777 + _; unfold A.AX_HALL; omega) (dimIdx_cons h0 (by omega) (dimIdx_cons h1 (by omega) dimIdx_nil)))

theorem cov_AX_HALLERR {P : Parts} (h : P.Has .AX_HALLERR) (i0 i1 : Nat) (h0 : i0 < 8) (h1 : i1 < 3) :
    P.covers (A.AX_HALLERR i0 i1) = true :=
  h _ (isAt_of (off := 1024 * i0 + (96 * i1 + 0)) in_rows_bank5 (k := 10) rfl rfl
    (by show A.AX_HALLERR i0 i1 = 8787 + _; unfold A.AX_HALLERR; omega) (dimIdx_cons h0 (by omega) (dimIdx_cons h1 (by omega) dimIdx_nil)))

theorem cov_AX_IC {P : Parts} (h : P.Has .AX_IC) (i0 i1 i2 : Nat) (h0 : i0 < 8) (h1 : i1 < 3) (h2 : i2 < 3) :
    P.covers (A.AX_IC i0 i1 i2) = true :=
  h _ (isAt_of (off := 1024 * i0 + (96 * i1 + (1 * i2 + 0))) in_rows_bank5 (k := 9) rfl rfl
    (by show A.AX_IC i0 i1 i2 = 8784 + _; unfold A.AX_IC; omega) (dimIdx_cons h0 (by omega) (dimIdx_cons h1 (by omega) (dimIdx_cons h2 (by omega) dimIdx_nil))))

theorem cov_AX_ID {P : Parts} (h : P.Has .AX_ID) (i0 i1 : Nat) (h0 : i0 < 8) (h1 : i1 < 3) :
    P.covers (A.AX_ID i0 i1) = true :=
  h _ (isAt_of (off := 1024 * i0 + (96 * i1 + 0)) in_rows_bank4 (k := 16) rfl rfl
    (by show A.AX_ID i0 i1 = 8771 + _; unfold A.AX_ID; omega) (dimIdx_cons h0 (by omega) (dimIdx_cons h1 (by omega) dimIdx_nil)))

theorem cov_AX_IQ {P : Parts} (h : P.Has .AX_IQ) (i0 i1 : Nat) (h0 : i0 < 8) (h1 : i1 < 3) :
    P.covers (A.AX_IQ i0 i1) = true :=
  h _ (isAt_of (off := 1024 * i0 + (96 * i1 + 0)) in_rows_bank4 (k := 17) rfl rfl
    (by show A.AX_IQ i0 i1 = 8772 + _; unfold A.AX_IQ; omega) (dimIdx_cons h0 (by omega) (dimIdx_cons h1 (by omega) dimIdx_nil)))

theorem cov_AX_LATECNT {P : Parts} (h : P.Has .AX_LATECNT) (i0 i1 : Nat) (h0 : i0 < 8) (h1 : i1 < 3) :
    P.covers (A.AX_LATECNT i0 i1) = true :=
  h _ (isAt_of (off := 1024 * i0 + (96 * i1 + 0)) in_rows_bank5 (k := 7) rfl rfl
    (by show A.AX_LATECNT i0 i1 = 8782 + _; unfold A.AX_LATECNT; omega) (dimIdx_cons h0 (by omega) (dimIdx_cons h1 (by omega) dimIdx_nil)))

theorem cov_AX_REF {P : Parts} (h : P.Has .AX_REF) (i0 i1 : Nat) (h0 : i0 < 8) (h1 : i1 < 3) :
    P.covers (A.AX_REF i0 i1) = true :=
  h _ (isAt_of (off := 1024 * i0 + (96 * i1 + 0)) in_rows_bank4 (k := 14) rfl rfl
    (by show A.AX_REF i0 i1 = 8769 + _; unfold A.AX_REF; omega) (dimIdx_cons h0 (by omega) (dimIdx_cons h1 (by omega) dimIdx_nil)))

theorem cov_AX_SKIPCNT {P : Parts} (h : P.Has .AX_SKIPCNT) (i0 i1 : Nat) (h0 : i0 < 8) (h1 : i1 < 3) :
    P.covers (A.AX_SKIPCNT i0 i1) = true :=
  h _ (isAt_of (off := 1024 * i0 + (96 * i1 + 0)) in_rows_bank5 (k := 6) rfl rfl
    (by show A.AX_SKIPCNT i0 i1 = 8781 + _; unfold A.AX_SKIPCNT; omega) (dimIdx_cons h0 (by omega) (dimIdx_cons h1 (by omega) dimIdx_nil)))

theorem cov_AX_SPD {P : Parts} (h : P.Has .AX_SPD) (i0 i1 : Nat) (h0 : i0 < 8) (h1 : i1 < 3) :
    P.covers (A.AX_SPD i0 i1) = true :=
  h _ (isAt_of (off := 1024 * i0 + (96 * i1 + 0)) in_rows_bank4 (k := 13) rfl rfl
    (by show A.AX_SPD i0 i1 = 8768 + _; unfold A.AX_SPD; omega) (dimIdx_cons h0 (by omega) (dimIdx_cons h1 (by omega) dimIdx_nil)))

theorem cov_AX_SPD_SET {P : Parts} (h : P.Has .AX_SPD_SET) (i0 i1 : Nat) (h0 : i0 < 8) (h1 : i1 < 3) :
    P.covers (A.AX_SPD_SET i0 i1) = true :=
  h _ (isAt_of (off := 1024 * i0 + (96 * i1 + 0)) in_rows_bank2 (k := 12) rfl rfl
    (by show A.AX_SPD_SET i0 i1 = 8707 + _; unfold A.AX_SPD_SET; omega) (dimIdx_cons h0 (by omega) (dimIdx_cons h1 (by omega) dimIdx_nil)))

theorem cov_AX_STALECNT {P : Parts} (h : P.Has .AX_STALECNT) (i0 i1 : Nat) (h0 : i0 < 8) (h1 : i1 < 3) :
    P.covers (A.AX_STALECNT i0 i1) = true :=
  h _ (isAt_of (off := 1024 * i0 + (96 * i1 + 0)) in_rows_bank5 (k := 8) rfl rfl
    (by show A.AX_STALECNT i0 i1 = 8783 + _; unfold A.AX_STALECNT; omega) (dimIdx_cons h0 (by omega) (dimIdx_cons h1 (by omega) dimIdx_nil)))

theorem cov_AX_STALLCNT {P : Parts} (h : P.Has .AX_STALLCNT) (i0 i1 : Nat) (h0 : i0 < 8) (h1 : i1 < 3) :
    P.covers (A.AX_STALLCNT i0 i1) = true :=
  h _ (isAt_of (off := 1024 * i0 + (96 * i1 + 0)) in_rows_bank5 (k := 5) rfl rfl
    (by show A.AX_STALLCNT i0 i1 = 8780 + _; unfold A.AX_STALLCNT; omega) (dimIdx_cons h0 (by omega) (dimIdx_cons h1 (by omega) dimIdx_nil)))

theorem cov_AX_STARTS {P : Parts} (h : P.Has .AX_STARTS) (i0 i1 : Nat) (h0 : i0 < 8) (h1 : i1 < 3) :
    P.covers (A.AX_STARTS i0 i1) = true :=
  h _ (isAt_of (off := 1024 * i0 + (96 * i1 + 0)) in_rows_bank5 (k := 4) rfl rfl
    (by show A.AX_STARTS i0 i1 = 8779 + _; unfold A.AX_STARTS; omega) (dimIdx_cons h0 (by omega) (dimIdx_cons h1 (by omega) dimIdx_nil)))

theorem cov_AX_TARGET {P : Parts} (h : P.Has .AX_TARGET) (i0 i1 : Nat) (h0 : i0 < 8) (h1 : i1 < 3) :
    P.covers (A.AX_TARGET i0 i1) = true :=
  h _ (isAt_of (off := 1024 * i0 + (96 * i1 + 0)) in_rows_bank4 (k := 15) rfl rfl
    (by show A.AX_TARGET i0 i1 = 8770 + _; unfold A.AX_TARGET; omega) (dimIdx_cons h0 (by omega) (dimIdx_cons h1 (by omega) dimIdx_nil)))

theorem cov_AX_VD {P : Parts} (h : P.Has .AX_VD) (i0 i1 : Nat) (h0 : i0 < 8) (h1 : i1 < 3) :
    P.covers (A.AX_VD i0 i1) = true :=
  h _ (isAt_of (off := 1024 * i0 + (96 * i1 + 0)) in_rows_bank4 (k := 18) rfl rfl
    (by show A.AX_VD i0 i1 = 8773 + _; unfold A.AX_VD; omega) (dimIdx_cons h0 (by omega) (dimIdx_cons h1 (by omega) dimIdx_nil)))

theorem cov_AX_VQ {P : Parts} (h : P.Has .AX_VQ) (i0 i1 : Nat) (h0 : i0 < 8) (h1 : i1 < 3) :
    P.covers (A.AX_VQ i0 i1) = true :=
  h _ (isAt_of (off := 1024 * i0 + (96 * i1 + 0)) in_rows_bank4 (k := 19) rfl rfl
    (by show A.AX_VQ i0 i1 = 8774 + _; unfold A.AX_VQ; omega) (dimIdx_cons h0 (by omega) (dimIdx_cons h1 (by omega) dimIdx_nil)))

theorem cov_BUF_CFG {P : Parts} (h : P.Has .BUF_CFG) (i0 i1 : Nat) (h0 : i0 < 2) (h1 : i1 < 32) :
    P.covers (A.BUF_CFG i0 i1) = true :=
  h _ (isAt_of (off := 8192 * i0 + (64 * i1 + 0)) in_rows_can0 (k := 12) rfl rfl
    (by show A.BUF_CFG i0 i1 = 16640 + _; unfold A.BUF_CFG; omega) (dimIdx_cons h0 (by omega) (dimIdx_cons h1 (by omega) dimIdx_nil)))

theorem cov_BUF_DATA {P : Parts} (h : P.Has .BUF_DATA) (i0 i1 i2 : Nat) (h0 : i0 < 2) (h1 : i1 < 32) (h2 : i2 < 32) :
    P.covers (A.BUF_DATA i0 i1 i2) = true :=
  h _ (isAt_of (off := 8192 * i0 + (64 * i1 + (1 * i2 + 0))) in_rows_can1 (k := 1) rfl rfl
    (by show A.BUF_DATA i0 i1 i2 = 16649 + _; unfold A.BUF_DATA; omega) (dimIdx_cons h0 (by omega) (dimIdx_cons h1 (by omega) (dimIdx_cons h2 (by omega) dimIdx_nil))))

theorem cov_BUF_ID_HI {P : Parts} (h : P.Has .BUF_ID_HI) (i0 i1 : Nat) (h0 : i0 < 2) (h1 : i1 < 32) :
    P.covers (A.BUF_ID_HI i0 i1) = true :=
  h _ (isAt_of (off := 8192 * i0 + (64 * i1 + 0)) in_rows_can0 (k := 14) rfl rfl
    (by show A.BUF_ID_HI i0 i1 = 16642 + _; unfold A.BUF_ID_HI; omega) (dimIdx_cons h0 (by omega) (dimIdx_cons h1 (by omega) dimIdx_nil)))

theorem cov_BUF_ID_LO {P : Parts} (h : P.Has .BUF_ID_LO) (i0 i1 : Nat) (h0 : i0 < 2) (h1 : i1 < 32) :
    P.covers (A.BUF_ID_LO i0 i1) = true :=
  h _ (isAt_of (off := 8192 * i0 + (64 * i1 + 0)) in_rows_can0 (k := 13) rfl rfl
    (by show A.BUF_ID_LO i0 i1 = 16641 + _; unfold A.BUF_ID_LO; omega) (dimIdx_cons h0 (by omega) (dimIdx_cons h1 (by omega) dimIdx_nil)))

theorem cov_BUF_STAMP0 {P : Parts} (h : P.Has .BUF_STAMP0) (i0 i1 : Nat) (h0 : i0 < 2) (h1 : i1 < 32) :
    P.covers (A.BUF_STAMP0 i0 i1) = true :=
  h _ (isAt_of (off := 8192 * i0 + (64 * i1 + 0)) in_rows_can0 (k := 18) rfl rfl
    (by show A.BUF_STAMP0 i0 i1 = 16646 + _; unfold A.BUF_STAMP0; omega) (dimIdx_cons h0 (by omega) (dimIdx_cons h1 (by omega) dimIdx_nil)))

theorem cov_BUF_STAMP1 {P : Parts} (h : P.Has .BUF_STAMP1) (i0 i1 : Nat) (h0 : i0 < 2) (h1 : i1 < 32) :
    P.covers (A.BUF_STAMP1 i0 i1) = true :=
  h _ (isAt_of (off := 8192 * i0 + (64 * i1 + 0)) in_rows_can0 (k := 19) rfl rfl
    (by show A.BUF_STAMP1 i0 i1 = 16647 + _; unfold A.BUF_STAMP1; omega) (dimIdx_cons h0 (by omega) (dimIdx_cons h1 (by omega) dimIdx_nil)))

theorem cov_BUF_STAMP2 {P : Parts} (h : P.Has .BUF_STAMP2) (i0 i1 : Nat) (h0 : i0 < 2) (h1 : i1 < 32) :
    P.covers (A.BUF_STAMP2 i0 i1) = true :=
  h _ (isAt_of (off := 8192 * i0 + (64 * i1 + 0)) in_rows_can1 (k := 0) rfl rfl
    (by show A.BUF_STAMP2 i0 i1 = 16648 + _; unfold A.BUF_STAMP2; omega) (dimIdx_cons h0 (by omega) (dimIdx_cons h1 (by omega) dimIdx_nil)))

theorem cov_BUF_STAT {P : Parts} (h : P.Has .BUF_STAT) (i0 i1 : Nat) (h0 : i0 < 2) (h1 : i1 < 32) :
    P.covers (A.BUF_STAT i0 i1) = true :=
  h _ (isAt_of (off := 8192 * i0 + (64 * i1 + 0)) in_rows_can0 (k := 17) rfl rfl
    (by show A.BUF_STAT i0 i1 = 16645 + _; unfold A.BUF_STAT; omega) (dimIdx_cons h0 (by omega) (dimIdx_cons h1 (by omega) dimIdx_nil)))

theorem cov_CAN_CTL {P : Parts} (h : P.Has .CAN_CTL) (i0 : Nat) (h0 : i0 < 2) :
    P.covers (A.CAN_CTL i0) = true :=
  h _ (isAt_of (off := 8192 * i0 + 0) in_rows_can0 (k := 0) rfl rfl
    (by show A.CAN_CTL i0 = 16384 + _; unfold A.CAN_CTL; omega) (dimIdx_cons h0 (by omega) dimIdx_nil))

theorem cov_CAN_LEC {P : Parts} (h : P.Has .CAN_LEC) (i0 : Nat) (h0 : i0 < 2) :
    P.covers (A.CAN_LEC i0) = true :=
  h _ (isAt_of (off := 8192 * i0 + 0) in_rows_can0 (k := 8) rfl rfl
    (by show A.CAN_LEC i0 = 16394 + _; unfold A.CAN_LEC; omega) (dimIdx_cons h0 (by omega) dimIdx_nil))

theorem cov_CAN_RXLOST {P : Parts} (h : P.Has .CAN_RXLOST) (i0 : Nat) (h0 : i0 < 2) :
    P.covers (A.CAN_RXLOST i0) = true :=
  h _ (isAt_of (off := 8192 * i0 + 0) in_rows_can0 (k := 9) rfl rfl
    (by show A.CAN_RXLOST i0 = 16395 + _; unfold A.CAN_RXLOST; omega) (dimIdx_cons h0 (by omega) dimIdx_nil))

theorem cov_CLK_CORECNT {P : Parts} (h : P.Has .CLK_CORECNT) : P.covers A.CLK_CORECNT = true :=
  h _ (isAt_of (off := 0) in_rows_time (k := 3) rfl rfl rfl rfl)

theorem cov_CLK_FAULT {P : Parts} (h : P.Has .CLK_FAULT) : P.covers A.CLK_FAULT = true :=
  h _ (isAt_of (off := 0) in_rows_time (k := 1) rfl rfl rfl rfl)

theorem cov_CLK_REFCNT {P : Parts} (h : P.Has .CLK_REFCNT) : P.covers A.CLK_REFCNT = true :=
  h _ (isAt_of (off := 0) in_rows_time (k := 2) rfl rfl rfl rfl)

theorem cov_CONV_OFS {P : Parts} (h : P.Has .CONV_OFS) (i0 i1 : Nat) (h0 : i0 < 8) (h1 : i1 < 9) :
    P.covers (A.CONV_OFS i0 i1) = true :=
  h _ (isAt_of (off := 1024 * i0 + (1 * i1 + 0)) in_rows_bank5 (k := 14) rfl rfl
    (by show A.CONV_OFS i0 i1 = 9000 + _; unfold A.CONV_OFS; omega) (dimIdx_cons h0 (by omega) (dimIdx_cons h1 (by omega) dimIdx_nil)))

theorem cov_CONV_OVRCNT {P : Parts} (h : P.Has .CONV_OVRCNT) (i0 i1 : Nat) (h0 : i0 < 8) (h1 : i1 < 3) :
    P.covers (A.CONV_OVRCNT i0 i1) = true :=
  h _ (isAt_of (off := 1024 * i0 + (1 * i1 + 0)) in_rows_bank5 (k := 12) rfl rfl
    (by show A.CONV_OVRCNT i0 i1 = 8993 + _; unfold A.CONV_OVRCNT; omega) (dimIdx_cons h0 (by omega) (dimIdx_cons h1 (by omega) dimIdx_nil)))

theorem cov_CONV_REF {P : Parts} (h : P.Has .CONV_REF) (i0 : Nat) (h0 : i0 < 8) :
    P.covers (A.CONV_REF i0) = true :=
  h _ (isAt_of (off := 1024 * i0 + 0) in_rows_bank5 (k := 15) rfl rfl
    (by show A.CONV_REF i0 = 9010 + _; unfold A.CONV_REF; omega) (dimIdx_cons h0 (by omega) dimIdx_nil))

theorem cov_CONV_RES {P : Parts} (h : P.Has .CONV_RES) (i0 i1 i2 : Nat) (h0 : i0 < 8) (h1 : i1 < 3) (h2 : i2 < 16) :
    P.covers (A.CONV_RES i0 i1 i2) = true :=
  h _ (isAt_of (off := 1024 * i0 + (16 * i1 + (1 * i2 + 0))) in_rows_bank5 (k := 17) rfl rfl
    (by show A.CONV_RES i0 i1 i2 = 9040 + _; unfold A.CONV_RES; omega) (dimIdx_cons h0 (by omega) (dimIdx_cons h1 (by omega) (dimIdx_cons h2 (by omega) dimIdx_nil))))

theorem cov_CONV_SEQCNT {P : Parts} (h : P.Has .CONV_SEQCNT) (i0 i1 : Nat) (h0 : i0 < 8) (h1 : i1 < 3) :
    P.covers (A.CONV_SEQCNT i0 i1) = true :=
  h _ (isAt_of (off := 1024 * i0 + (1 * i1 + 0)) in_rows_bank5 (k := 13) rfl rfl
    (by show A.CONV_SEQCNT i0 i1 = 8996 + _; unfold A.CONV_SEQCNT; omega) (dimIdx_cons h0 (by omega) (dimIdx_cons h1 (by omega) dimIdx_nil)))

theorem cov_CONV_SN {P : Parts} (h : P.Has .CONV_SN) (i0 i1 : Nat) (h0 : i0 < 8) (h1 : i1 < 9) :
    P.covers (A.CONV_SN i0 i1) = true :=
  h _ (isAt_of (off := 1024 * i0 + (1 * i1 + 0)) in_rows_bank5 (k := 16) rfl rfl
    (by show A.CONV_SN i0 i1 = 9016 + _; unfold A.CONV_SN; omega) (dimIdx_cons h0 (by omega) (dimIdx_cons h1 (by omega) dimIdx_nil)))

theorem cov_DLC_BIAS {P : Parts} (h : P.Has .DLC_BIAS) (i0 : Nat) (h0 : i0 < 8) :
    P.covers (A.DLC_BIAS i0) = true :=
  h _ (isAt_of (off := 1024 * i0 + 0) in_rows_bank6 (k := 3) rfl rfl
    (by show A.DLC_BIAS i0 = 9093 + _; unfold A.DLC_BIAS; omega) (dimIdx_cons h0 (by omega) dimIdx_nil))

theorem cov_DLC_FAILCNT {P : Parts} (h : P.Has .DLC_FAILCNT) (i0 : Nat) (h0 : i0 < 8) :
    P.covers (A.DLC_FAILCNT i0) = true :=
  h _ (isAt_of (off := 1024 * i0 + 0) in_rows_bank6 (k := 1) rfl rfl
    (by show A.DLC_FAILCNT i0 = 9091 + _; unfold A.DLC_FAILCNT; omega) (dimIdx_cons h0 (by omega) dimIdx_nil))

theorem cov_DLC_STAT {P : Parts} (h : P.Has .DLC_STAT) (i0 : Nat) (h0 : i0 < 8) :
    P.covers (A.DLC_STAT i0) = true :=
  h _ (isAt_of (off := 1024 * i0 + 0) in_rows_bank5 (k := 19) rfl rfl
    (by show A.DLC_STAT i0 = 9089 + _; unfold A.DLC_STAT; omega) (dimIdx_cons h0 (by omega) dimIdx_nil))

theorem cov_DLC_TAPDLY {P : Parts} (h : P.Has .DLC_TAPDLY) (i0 : Nat) (h0 : i0 < 8) :
    P.covers (A.DLC_TAPDLY i0) = true :=
  h _ (isAt_of (off := 1024 * i0 + 0) in_rows_bank6 (k := 0) rfl rfl
    (by show A.DLC_TAPDLY i0 = 9090 + _; unfold A.DLC_TAPDLY; omega) (dimIdx_cons h0 (by omega) dimIdx_nil))

theorem cov_DLC_TBL {P : Parts} (h : P.Has .DLC_TBL) (i0 i1 : Nat) (h0 : i0 < 8) (h1 : i1 < 64) :
    P.covers (A.DLC_TBL i0 i1) = true :=
  h _ (isAt_of (off := 1024 * i0 + (1 * i1 + 0)) in_rows_bank6 (k := 5) rfl rfl
    (by show A.DLC_TBL i0 i1 = 9152 + _; unfold A.DLC_TBL; omega) (dimIdx_cons h0 (by omega) (dimIdx_cons h1 (by omega) dimIdx_nil)))

theorem cov_EVT_STAT {P : Parts} (h : P.Has .EVT_STAT) (i0 : Nat) (h0 : i0 < 8) :
    P.covers (A.EVT_STAT i0) = true :=
  h _ (isAt_of (off := 1 * i0 + 0) in_rows_evt (k := 0) rfl rfl
    (by show A.EVT_STAT i0 = 1024 + _; unfold A.EVT_STAT; omega) (dimIdx_cons h0 (by omega) dimIdx_nil))

theorem cov_FUS_ANGLE {P : Parts} (h : P.Has .FUS_ANGLE) (i0 : Nat) (h0 : i0 < 2) :
    P.covers (A.FUS_ANGLE i0) = true :=
  h _ (isAt_of (off := 1 * i0 + 0) in_rows_fus0 (k := 15) rfl rfl
    (by show A.FUS_ANGLE i0 = 4178 + _; unfold A.FUS_ANGLE; omega) (dimIdx_cons h0 (by omega) dimIdx_nil))

theorem cov_FUS_EST {P : Parts} (h : P.Has .FUS_EST) (i0 : Nat) (h0 : i0 < 10) :
    P.covers (A.FUS_EST i0) = true :=
  h _ (isAt_of (off := 1 * i0 + 0) in_rows_fus0 (k := 13) rfl rfl
    (by show A.FUS_EST i0 = 4160 + _; unfold A.FUS_EST; omega) (dimIdx_cons h0 (by omega) dimIdx_nil))

theorem cov_FUS_GNSS_ERR {P : Parts} (h : P.Has .FUS_GNSS_ERR) : P.covers A.FUS_GNSS_ERR = true :=
  h _ (isAt_of (off := 0) in_rows_fus1 (k := 1) rfl rfl rfl rfl)

theorem cov_FUS_GNSS_FIX {P : Parts} (h : P.Has .FUS_GNSS_FIX) : P.covers A.FUS_GNSS_FIX = true :=
  h _ (isAt_of (off := 0) in_rows_fus1 (k := 2) rfl rfl rfl rfl)

theorem cov_FUS_IMU {P : Parts} (h : P.Has .FUS_IMU) (i0 : Nat) (h0 : i0 < 5) :
    P.covers (A.FUS_IMU i0) = true :=
  h _ (isAt_of (off := 1 * i0 + 0) in_rows_fus1 (k := 5) rfl rfl
    (by show A.FUS_IMU i0 = 4217 + _; unfold A.FUS_IMU; omega) (dimIdx_cons h0 (by omega) dimIdx_nil))

theorem cov_FUS_IMU_LOST {P : Parts} (h : P.Has .FUS_IMU_LOST) : P.covers A.FUS_IMU_LOST = true :=
  h _ (isAt_of (off := 0) in_rows_fus1 (k := 3) rfl rfl rfl rfl)

theorem cov_FUS_IN_V {P : Parts} (h : P.Has .FUS_IN_V) (i0 : Nat) (h0 : i0 < 6) :
    P.covers (A.FUS_IN_V i0) = true :=
  h _ (isAt_of (off := 1 * i0 + 0) in_rows_fus0 (k := 18) rfl rfl
    (by show A.FUS_IN_V i0 = 4194 + _; unfold A.FUS_IN_V; omega) (dimIdx_cons h0 (by omega) dimIdx_nil))

theorem cov_FUS_PUBCNT {P : Parts} (h : P.Has .FUS_PUBCNT) : P.covers A.FUS_PUBCNT = true :=
  h _ (isAt_of (off := 0) in_rows_fus0 (k := 4) rfl rfl rfl rfl)

theorem cov_FUS_SENT_ERR {P : Parts} (h : P.Has .FUS_SENT_ERR) (i0 : Nat) (h0 : i0 < 2) :
    P.covers (A.FUS_SENT_ERR i0) = true :=
  h _ (isAt_of (off := 1 * i0 + 0) in_rows_fus1 (k := 4) rfl rfl
    (by show A.FUS_SENT_ERR i0 = 4211 + _; unfold A.FUS_SENT_ERR; omega) (dimIdx_cons h0 (by omega) dimIdx_nil))

theorem cov_FUS_SENT_STAT {P : Parts} (h : P.Has .FUS_SENT_STAT) : P.covers A.FUS_SENT_STAT = true :=
  h _ (isAt_of (off := 0) in_rows_fus0 (k := 16) rfl rfl rfl rfl)

theorem cov_FUS_STAT {P : Parts} (h : P.Has .FUS_STAT) : P.covers A.FUS_STAT = true :=
  h _ (isAt_of (off := 0) in_rows_fus0 (k := 3) rfl rfl rfl rfl)

theorem cov_FUS_WHL_CNT {P : Parts} (h : P.Has .FUS_WHL_CNT) (i0 i1 : Nat) (h0 : i0 < 4) (h1 : i1 < 2) :
    P.covers (A.FUS_WHL_CNT i0 i1) = true :=
  h _ (isAt_of (off := 2 * i0 + (1 * i1 + 0)) in_rows_fus1 (k := 6) rfl rfl
    (by show A.FUS_WHL_CNT i0 i1 = 4224 + _; unfold A.FUS_WHL_CNT; omega) (dimIdx_cons h0 (by omega) (dimIdx_cons h1 (by omega) dimIdx_nil)))

theorem cov_FUS_WHL_INS {P : Parts} (h : P.Has .FUS_WHL_INS) (i0 : Nat) (h0 : i0 < 4) :
    P.covers (A.FUS_WHL_INS i0) = true :=
  h _ (isAt_of (off := 1 * i0 + 0) in_rows_fus1 (k := 0) rfl rfl
    (by show A.FUS_WHL_INS i0 = 4204 + _; unfold A.FUS_WHL_INS; omega) (dimIdx_cons h0 (by omega) dimIdx_nil))

theorem cov_FUS_WHL_NOISE {P : Parts} (h : P.Has .FUS_WHL_NOISE) (i0 : Nat) (h0 : i0 < 4) :
    P.covers (A.FUS_WHL_NOISE i0) = true :=
  h _ (isAt_of (off := 1 * i0 + 0) in_rows_fus0 (k := 19) rfl rfl
    (by show A.FUS_WHL_NOISE i0 = 4200 + _; unfold A.FUS_WHL_NOISE; omega) (dimIdx_cons h0 (by omega) dimIdx_nil))

theorem cov_GATE_BSTUVCNT {P : Parts} (h : P.Has .GATE_BSTUVCNT) (i0 i1 : Nat) (h0 : i0 < 8) (h1 : i1 < 9) :
    P.covers (A.GATE_BSTUVCNT i0 i1) = true :=
  h _ (isAt_of (off := 1024 * i0 + (16 * i1 + 0)) in_rows_bank1 (k := 8) rfl rfl
    (by show A.GATE_BSTUVCNT i0 i1 = 8454 + _; unfold A.GATE_BSTUVCNT; omega) (dimIdx_cons h0 (by omega) (dimIdx_cons h1 (by omega) dimIdx_nil)))

theorem cov_GATE_FLT {P : Parts} (h : P.Has .GATE_FLT) (i0 i1 : Nat) (h0 : i0 < 8) (h1 : i1 < 9) :
    P.covers (A.GATE_FLT i0 i1) = true :=
  h _ (isAt_of (off := 1024 * i0 + (16 * i1 + 0)) in_rows_bank1 (k := 7) rfl rfl
    (by show A.GATE_FLT i0 i1 = 8453 + _; unfold A.GATE_FLT; omega) (dimIdx_cons h0 (by omega) (dimIdx_cons h1 (by omega) dimIdx_nil)))

theorem cov_GATE_IDRV_HS {P : Parts} (h : P.Has .GATE_IDRV_HS) (i0 i1 : Nat) (h0 : i0 < 8) (h1 : i1 < 9) :
    P.covers (A.GATE_IDRV_HS i0 i1) = true :=
  h _ (isAt_of (off := 1024 * i0 + (16 * i1 + 0)) in_rows_bank1 (k := 2) rfl rfl
    (by show A.GATE_IDRV_HS i0 i1 = 8448 + _; unfold A.GATE_IDRV_HS; omega) (dimIdx_cons h0 (by omega) (dimIdx_cons h1 (by omega) dimIdx_nil)))

theorem cov_GATE_IDRV_LS {P : Parts} (h : P.Has .GATE_IDRV_LS) (i0 i1 : Nat) (h0 : i0 < 8) (h1 : i1 < 9) :
    P.covers (A.GATE_IDRV_LS i0 i1) = true :=
  h _ (isAt_of (off := 1024 * i0 + (16 * i1 + 0)) in_rows_bank1 (k := 3) rfl rfl
    (by show A.GATE_IDRV_LS i0 i1 = 8449 + _; unfold A.GATE_IDRV_LS; omega) (dimIdx_cons h0 (by omega) (dimIdx_cons h1 (by omega) dimIdx_nil)))

theorem cov_GSUP_FLT {P : Parts} (h : P.Has .GSUP_FLT) (i0 : Nat) (h0 : i0 < 8) :
    P.covers (A.GSUP_FLT i0) = true :=
  h _ (isAt_of (off := 1024 * i0 + 0) in_rows_bank0 (k := 3) rfl rfl
    (by show A.GSUP_FLT i0 = 8209 + _; unfold A.GSUP_FLT; omega) (dimIdx_cons h0 (by omega) dimIdx_nil))

theorem cov_HOST_CRCCNT {P : Parts} (h : P.Has .HOST_CRCCNT) : P.covers A.HOST_CRCCNT = true :=
  h _ (isAt_of (off := 0) in_rows_host (k := 2) rfl rfl rfl rfl)

theorem cov_HOST_ERR {P : Parts} (h : P.Has .HOST_ERR) : P.covers A.HOST_ERR = true :=
  h _ (isAt_of (off := 0) in_rows_host (k := 1) rfl rfl rfl rfl)

theorem cov_HOST_FRAMES {P : Parts} (h : P.Has .HOST_FRAMES) : P.covers A.HOST_FRAMES = true :=
  h _ (isAt_of (off := 0) in_rows_host (k := 3) rfl rfl rfl rfl)

theorem cov_IMG_BANKTAG {P : Parts} (h : P.Has .IMG_BANKTAG) (i0 : Nat) (h0 : i0 < 8) :
    P.covers (A.IMG_BANKTAG i0) = true :=
  h _ (isAt_of (off := 1 * i0 + 0) in_rows_sys1 (k := 4) rfl rfl
    (by show A.IMG_BANKTAG i0 = 88 + _; unfold A.IMG_BANKTAG; omega) (dimIdx_cons h0 (by omega) dimIdx_nil))

theorem cov_IMG_CRC {P : Parts} (h : P.Has .IMG_CRC) (i0 : Nat) (h0 : i0 < 2) :
    P.covers (A.IMG_CRC i0) = true :=
  h _ (isAt_of (off := 1 * i0 + 0) in_rows_sys0 (k := 17) rfl rfl
    (by show A.IMG_CRC i0 = 74 + _; unfold A.IMG_CRC; omega) (dimIdx_cons h0 (by omega) dimIdx_nil))

theorem cov_IMG_ID {P : Parts} (h : P.Has .IMG_ID) (i0 : Nat) (h0 : i0 < 2) :
    P.covers (A.IMG_ID i0) = true :=
  h _ (isAt_of (off := 1 * i0 + 0) in_rows_sys0 (k := 14) rfl rfl
    (by show A.IMG_ID i0 = 68 + _; unfold A.IMG_ID; omega) (dimIdx_cons h0 (by omega) dimIdx_nil))

theorem cov_IMG_KEYCHK {P : Parts} (h : P.Has .IMG_KEYCHK) : P.covers A.IMG_KEYCHK = true :=
  h _ (isAt_of (off := 0) in_rows_sys1 (k := 1) rfl rfl rfl rfl)

theorem cov_IMG_KEYSTAT {P : Parts} (h : P.Has .IMG_KEYSTAT) : P.covers A.IMG_KEYSTAT = true :=
  h _ (isAt_of (off := 0) in_rows_sys1 (k := 0) rfl rfl rfl rfl)

theorem cov_IMG_LEN {P : Parts} (h : P.Has .IMG_LEN) (i0 : Nat) (h0 : i0 < 2) :
    P.covers (A.IMG_LEN i0) = true :=
  h _ (isAt_of (off := 1 * i0 + 0) in_rows_sys0 (k := 16) rfl rfl
    (by show A.IMG_LEN i0 = 72 + _; unfold A.IMG_LEN; omega) (dimIdx_cons h0 (by omega) dimIdx_nil))

theorem cov_IMG_LIMLAST {P : Parts} (h : P.Has .IMG_LIMLAST) : P.covers A.IMG_LIMLAST = true :=
  h _ (isAt_of (off := 0) in_rows_sys0 (k := 19) rfl rfl rfl rfl)

theorem cov_IMG_LIMSAT {P : Parts} (h : P.Has .IMG_LIMSAT) : P.covers A.IMG_LIMSAT = true :=
  h _ (isAt_of (off := 0) in_rows_sys0 (k := 18) rfl rfl rfl rfl)

theorem cov_IMG_REJECT {P : Parts} (h : P.Has .IMG_REJECT) : P.covers A.IMG_REJECT = true :=
  h _ (isAt_of (off := 0) in_rows_sys0 (k := 11) rfl rfl rfl rfl)

theorem cov_IMG_VER {P : Parts} (h : P.Has .IMG_VER) (i0 : Nat) (h0 : i0 < 2) :
    P.covers (A.IMG_VER i0) = true :=
  h _ (isAt_of (off := 1 * i0 + 0) in_rows_sys0 (k := 15) rfl rfl
    (by show A.IMG_VER i0 = 70 + _; unfold A.IMG_VER; omega) (dimIdx_cons h0 (by omega) dimIdx_nil))

theorem cov_OP_QFULLCNT {P : Parts} (h : P.Has .OP_QFULLCNT) : P.covers A.OP_QFULLCNT = true :=
  h _ (isAt_of (off := 0) in_rows_host (k := 10) rfl rfl rfl rfl)

theorem cov_OP_TICKET {P : Parts} (h : P.Has .OP_TICKET) : P.covers A.OP_TICKET = true :=
  h _ (isAt_of (off := 0) in_rows_host (k := 7) rfl rfl rfl rfl)

theorem cov_PAIR_CFGMIS {P : Parts} (h : P.Has .PAIR_CFGMIS) : P.covers A.PAIR_CFGMIS = true :=
  h _ (isAt_of (off := 0) in_rows_pair (k := 5) rfl rfl rfl rfl)

theorem cov_PAIR_CMDRES {P : Parts} (h : P.Has .PAIR_CMDRES) : P.covers A.PAIR_CMDRES = true :=
  h _ (isAt_of (off := 0) in_rows_pair (k := 3) rfl rfl rfl rfl)

theorem cov_PAIR_CRCCNT {P : Parts} (h : P.Has .PAIR_CRCCNT) : P.covers A.PAIR_CRCCNT = true :=
  h _ (isAt_of (off := 0) in_rows_pair (k := 8) rfl rfl rfl rfl)

theorem cov_PAIR_LASTGAP {P : Parts} (h : P.Has .PAIR_LASTGAP) : P.covers A.PAIR_LASTGAP = true :=
  h _ (isAt_of (off := 0) in_rows_pair (k := 11) rfl rfl rfl rfl)

theorem cov_PAIR_MIRLAG {P : Parts} (h : P.Has .PAIR_MIRLAG) : P.covers A.PAIR_MIRLAG = true :=
  h _ (isAt_of (off := 0) in_rows_pair (k := 9) rfl rfl rfl rfl)

theorem cov_PAIR_MISSCNT {P : Parts} (h : P.Has .PAIR_MISSCNT) : P.covers A.PAIR_MISSCNT = true :=
  h _ (isAt_of (off := 0) in_rows_pair (k := 7) rfl rfl rfl rfl)

theorem cov_PAIR_PRECHEAD {P : Parts} (h : P.Has .PAIR_PRECHEAD) : P.covers A.PAIR_PRECHEAD = true :=
  h _ (isAt_of (off := 0) in_rows_pair (k := 16) rfl rfl rfl rfl)

theorem cov_PAIR_PSTSEQ {P : Parts} (h : P.Has .PAIR_PSTSEQ) (i0 : Nat) (h0 : i0 < 2) :
    P.covers (A.PAIR_PSTSEQ i0) = true :=
  h _ (isAt_of (off := 1 * i0 + 0) in_rows_pair (k := 17) rfl rfl
    (by show A.PAIR_PSTSEQ i0 = 3094 + _; unfold A.PAIR_PSTSEQ; omega) (dimIdx_cons h0 (by omega) dimIdx_nil))

theorem cov_PAIR_TAKECNT {P : Parts} (h : P.Has .PAIR_TAKECNT) : P.covers A.PAIR_TAKECNT = true :=
  h _ (isAt_of (off := 0) in_rows_pair (k := 10) rfl rfl rfl rfl)

theorem cov_PROT_AXSTAT {P : Parts} (h : P.Has .PROT_AXSTAT) (i0 i1 : Nat) (h0 : i0 < 8) (h1 : i1 < 3) :
    P.covers (A.PROT_AXSTAT i0 i1) = true :=
  h _ (isAt_of (off := 1024 * i0 + (1 * i1 + 0)) in_rows_bank2 (k := 7) rfl rfl
    (by show A.PROT_AXSTAT i0 i1 = 8676 + _; unfold A.PROT_AXSTAT; omega) (dimIdx_cons h0 (by omega) (dimIdx_cons h1 (by omega) dimIdx_nil)))

theorem cov_PROT_BFLT {P : Parts} (h : P.Has .PROT_BFLT) (i0 : Nat) (h0 : i0 < 8) :
    P.covers (A.PROT_BFLT i0) = true :=
  h _ (isAt_of (off := 1024 * i0 + 0) in_rows_bank2 (k := 1) rfl rfl
    (by show A.PROT_BFLT i0 = 8618 + _; unfold A.PROT_BFLT; omega) (dimIdx_cons h0 (by omega) dimIdx_nil))

theorem cov_PROT_CHFLT {P : Parts} (h : P.Has .PROT_CHFLT) (i0 i1 : Nat) (h0 : i0 < 8) (h1 : i1 < 9) :
    P.covers (A.PROT_CHFLT i0 i1) = true :=
  h _ (isAt_of (off := 1024 * i0 + (1 * i1 + 0)) in_rows_bank2 (k := 5) rfl rfl
    (by show A.PROT_CHFLT i0 i1 = 8648 + _; unfold A.PROT_CHFLT; omega) (dimIdx_cons h0 (by omega) (dimIdx_cons h1 (by omega) dimIdx_nil)))

theorem cov_PROT_ILIMCNT {P : Parts} (h : P.Has .PROT_ILIMCNT) (i0 : Nat) (h0 : i0 < 8) :
    P.covers (A.PROT_ILIMCNT i0) = true :=
  h _ (isAt_of (off := 1024 * i0 + 0) in_rows_bank2 (k := 2) rfl rfl
    (by show A.PROT_ILIMCNT i0 = 8619 + _; unfold A.PROT_ILIMCNT; omega) (dimIdx_cons h0 (by omega) dimIdx_nil))

theorem cov_PROT_TEMP {P : Parts} (h : P.Has .PROT_TEMP) (i0 : Nat) (h0 : i0 < 8) :
    P.covers (A.PROT_TEMP i0) = true :=
  h _ (isAt_of (off := 1024 * i0 + 0) in_rows_bank1 (k := 18) rfl rfl
    (by show A.PROT_TEMP i0 = 8615 + _; unfold A.PROT_TEMP; omega) (dimIdx_cons h0 (by omega) dimIdx_nil))

theorem cov_PROT_VM {P : Parts} (h : P.Has .PROT_VM) (i0 : Nat) (h0 : i0 < 8) :
    P.covers (A.PROT_VM i0) = true :=
  h _ (isAt_of (off := 1024 * i0 + 0) in_rows_bank1 (k := 19) rfl rfl
    (by show A.PROT_VM i0 = 8616 + _; unfold A.PROT_VM; omega) (dimIdx_cons h0 (by omega) dimIdx_nil))

theorem cov_PROT_VOV1_OFF {P : Parts} (h : P.Has .PROT_VOV1_OFF) (i0 : Nat) (h0 : i0 < 8) :
    P.covers (A.PROT_VOV1_OFF i0) = true :=
  h _ (isAt_of (off := 1024 * i0 + 0) in_rows_bank1 (k := 14) rfl rfl
    (by show A.PROT_VOV1_OFF i0 = 8611 + _; unfold A.PROT_VOV1_OFF; omega) (dimIdx_cons h0 (by omega) dimIdx_nil))

theorem cov_PROT_VOV1_ON {P : Parts} (h : P.Has .PROT_VOV1_ON) (i0 : Nat) (h0 : i0 < 8) :
    P.covers (A.PROT_VOV1_ON i0) = true :=
  h _ (isAt_of (off := 1024 * i0 + 0) in_rows_bank1 (k := 13) rfl rfl
    (by show A.PROT_VOV1_ON i0 = 8610 + _; unfold A.PROT_VOV1_ON; omega) (dimIdx_cons h0 (by omega) dimIdx_nil))

theorem cov_PROT_VOV2 {P : Parts} (h : P.Has .PROT_VOV2) (i0 : Nat) (h0 : i0 < 8) :
    P.covers (A.PROT_VOV2 i0) = true :=
  h _ (isAt_of (off := 1024 * i0 + 0) in_rows_bank1 (k := 15) rfl rfl
    (by show A.PROT_VOV2 i0 = 8612 + _; unfold A.PROT_VOV2; omega) (dimIdx_cons h0 (by omega) dimIdx_nil))

theorem cov_PWM_ARMREP {P : Parts} (h : P.Has .PWM_ARMREP) (i0 i1 : Nat) (h0 : i0 < 8) (h1 : i1 < 3) :
    P.covers (A.PWM_ARMREP i0 i1) = true :=
  h _ (isAt_of (off := 1024 * i0 + (64 * i1 + 0)) in_rows_bank0 (k := 18) rfl rfl
    (by show A.PWM_ARMREP i0 i1 = 8274 + _; unfold A.PWM_ARMREP; omega) (dimIdx_cons h0 (by omega) (dimIdx_cons h1 (by omega) dimIdx_nil)))

theorem cov_PWM_CHEN {P : Parts} (h : P.Has .PWM_CHEN) (i0 i1 : Nat) (h0 : i0 < 8) (h1 : i1 < 3) :
    P.covers (A.PWM_CHEN i0 i1) = true :=
  h _ (isAt_of (off := 1024 * i0 + (64 * i1 + 0)) in_rows_bank0 (k := 11) rfl rfl
    (by show A.PWM_CHEN i0 i1 = 8264 + _; unfold A.PWM_CHEN; omega) (dimIdx_cons h0 (by omega) (dimIdx_cons h1 (by omega) dimIdx_nil)))

theorem cov_PWM_CMP {P : Parts} (h : P.Has .PWM_CMP) (i0 i1 i2 : Nat) (h0 : i0 < 8) (h1 : i1 < 3) (h2 : i2 < 3) :
    P.covers (A.PWM_CMP i0 i1 i2) = true :=
  h _ (isAt_of (off := 1024 * i0 + (64 * i1 + (1 * i2 + 0))) in_rows_bank0 (k := 9) rfl rfl
    (by show A.PWM_CMP i0 i1 i2 = 8258 + _; unfold A.PWM_CMP; omega) (dimIdx_cons h0 (by omega) (dimIdx_cons h1 (by omega) (dimIdx_cons h2 (by omega) dimIdx_nil))))

theorem cov_PWM_CTL {P : Parts} (h : P.Has .PWM_CTL) (i0 i1 : Nat) (h0 : i0 < 8) (h1 : i1 < 3) :
    P.covers (A.PWM_CTL i0 i1) = true :=
  h _ (isAt_of (off := 1024 * i0 + (64 * i1 + 0)) in_rows_bank0 (k := 7) rfl rfl
    (by show A.PWM_CTL i0 i1 = 8256 + _; unfold A.PWM_CTL; omega) (dimIdx_cons h0 (by omega) (dimIdx_cons h1 (by omega) dimIdx_nil)))

theorem cov_PWM_FILTCNT {P : Parts} (h : P.Has .PWM_FILTCNT) (i0 i1 : Nat) (h0 : i0 < 8) (h1 : i1 < 3) :
    P.covers (A.PWM_FILTCNT i0 i1) = true :=
  h _ (isAt_of (off := 1024 * i0 + (64 * i1 + 0)) in_rows_bank0 (k := 19) rfl rfl
    (by show A.PWM_FILTCNT i0 i1 = 8275 + _; unfold A.PWM_FILTCNT; omega) (dimIdx_cons h0 (by omega) (dimIdx_cons h1 (by omega) dimIdx_nil)))

theorem cov_PWM_FORCE {P : Parts} (h : P.Has .PWM_FORCE) (i0 i1 : Nat) (h0 : i0 < 8) (h1 : i1 < 3) :
    P.covers (A.PWM_FORCE i0 i1) = true :=
  h _ (isAt_of (off := 1024 * i0 + (64 * i1 + 0)) in_rows_bank0 (k := 14) rfl rfl
    (by show A.PWM_FORCE i0 i1 = 8270 + _; unfold A.PWM_FORCE; omega) (dimIdx_cons h0 (by omega) (dimIdx_cons h1 (by omega) dimIdx_nil)))

theorem cov_PWM_HR {P : Parts} (h : P.Has .PWM_HR) (i0 i1 i2 : Nat) (h0 : i0 < 8) (h1 : i1 < 3) (h2 : i2 < 3) :
    P.covers (A.PWM_HR i0 i1 i2) = true :=
  h _ (isAt_of (off := 1024 * i0 + (64 * i1 + (1 * i2 + 0))) in_rows_bank0 (k := 10) rfl rfl
    (by show A.PWM_HR i0 i1 i2 = 8261 + _; unfold A.PWM_HR; omega) (dimIdx_cons h0 (by omega) (dimIdx_cons h1 (by omega) (dimIdx_cons h2 (by omega) dimIdx_nil))))

theorem cov_PWM_RUN_HI {P : Parts} (h : P.Has .PWM_RUN_HI) : P.covers A.PWM_RUN_HI = true :=
  h _ (isAt_of (off := 0) in_rows_sys1 (k := 10) rfl rfl rfl rfl)

theorem cov_PWM_RUN_LO {P : Parts} (h : P.Has .PWM_RUN_LO) : P.covers A.PWM_RUN_LO = true :=
  h _ (isAt_of (off := 0) in_rows_sys1 (k := 9) rfl rfl rfl rfl)

theorem cov_PWR_BOUNCECNT {P : Parts} (h : P.Has .PWR_BOUNCECNT) : P.covers A.PWR_BOUNCECNT = true :=
  h _ (isAt_of (off := 0) in_rows_pwr1 (k := 1) rfl rfl rfl rfl)

theorem cov_PWR_DOM_REQ {P : Parts} (h : P.Has .PWR_DOM_REQ) : P.covers A.PWR_DOM_REQ = true :=
  h _ (isAt_of (off := 0) in_rows_pwr0 (k := 12) rfl rfl rfl rfl)

theorem cov_PWR_ESTORED {P : Parts} (h : P.Has .PWR_ESTORED) : P.covers A.PWR_ESTORED = true :=
  h _ (isAt_of (off := 0) in_rows_pwr0 (k := 18) rfl rfl rfl rfl)

theorem cov_PWR_FLUSHT {P : Parts} (h : P.Has .PWR_FLUSHT) : P.covers A.PWR_FLUSHT = true :=
  h _ (isAt_of (off := 0) in_rows_pwr1 (k := 4) rfl rfl rfl rfl)

theorem cov_PWR_LASTBNC {P : Parts} (h : P.Has .PWR_LASTBNC) : P.covers A.PWR_LASTBNC = true :=
  h _ (isAt_of (off := 0) in_rows_pwr1 (k := 3) rfl rfl rfl rfl)

theorem cov_PWR_LASTOUT {P : Parts} (h : P.Has .PWR_LASTOUT) : P.covers A.PWR_LASTOUT = true :=
  h _ (isAt_of (off := 0) in_rows_pwr1 (k := 2) rfl rfl rfl rfl)

theorem cov_PWR_LOSSCNT {P : Parts} (h : P.Has .PWR_LOSSCNT) : P.covers A.PWR_LOSSCNT = true :=
  h _ (isAt_of (off := 0) in_rows_pwr1 (k := 0) rfl rfl rfl rfl)

theorem cov_PWR_START {P : Parts} (h : P.Has .PWR_START) : P.covers A.PWR_START = true :=
  h _ (isAt_of (off := 0) in_rows_pwr0 (k := 1) rfl rfl rfl rfl)

theorem cov_PWR_VBAK {P : Parts} (h : P.Has .PWR_VBAK) : P.covers A.PWR_VBAK = true :=
  h _ (isAt_of (off := 0) in_rows_pwr0 (k := 16) rfl rfl rfl rfl)

theorem cov_PWR_VIO {P : Parts} (h : P.Has .PWR_VIO) : P.covers A.PWR_VIO = true :=
  h _ (isAt_of (off := 0) in_rows_pwr0 (k := 17) rfl rfl rfl rfl)

theorem cov_PWR_VMAIN {P : Parts} (h : P.Has .PWR_VMAIN) : P.covers A.PWR_VMAIN = true :=
  h _ (isAt_of (off := 0) in_rows_pwr0 (k := 15) rfl rfl rfl rfl)

theorem cov_REC_DROP_CNT {P : Parts} (h : P.Has .REC_DROP_CNT) : P.covers A.REC_DROP_CNT = true :=
  h _ (isAt_of (off := 0) in_rows_recorder (k := 4) rfl rfl rfl rfl)

theorem cov_REC_HOLDOVF_CNT {P : Parts} (h : P.Has .REC_HOLDOVF_CNT) : P.covers A.REC_HOLDOVF_CNT = true :=
  h _ (isAt_of (off := 0) in_rows_recorder (k := 5) rfl rfl rfl rfl)

theorem cov_SAFE_CAUSE {P : Parts} (h : P.Has .SAFE_CAUSE) : P.covers A.SAFE_CAUSE = true :=
  h _ (isAt_of (off := 0) in_rows_safe (k := 1) rfl rfl rfl rfl)

theorem cov_SAFE_DETAIL {P : Parts} (h : P.Has .SAFE_DETAIL) : P.covers A.SAFE_DETAIL = true :=
  h _ (isAt_of (off := 0) in_rows_safe (k := 4) rfl rfl rfl rfl)

theorem cov_SAFE_FLTEN {P : Parts} (h : P.Has .SAFE_FLTEN) : P.covers A.SAFE_FLTEN = true :=
  h _ (isAt_of (off := 0) in_rows_safe (k := 3) rfl rfl rfl rfl)

theorem cov_SAFE_PLFLT_HI {P : Parts} (h : P.Has .SAFE_PLFLT_HI) : P.covers A.SAFE_PLFLT_HI = true :=
  h _ (isAt_of (off := 0) in_rows_safe (k := 10) rfl rfl rfl rfl)

theorem cov_SAFE_PLFLT_LO {P : Parts} (h : P.Has .SAFE_PLFLT_LO) : P.covers A.SAFE_PLFLT_LO = true :=
  h _ (isAt_of (off := 0) in_rows_safe (k := 9) rfl rfl rfl rfl)

theorem cov_SAFE_PLTHR {P : Parts} (h : P.Has .SAFE_PLTHR) : P.covers A.SAFE_PLTHR = true :=
  h _ (isAt_of (off := 0) in_rows_safe (k := 8) rfl rfl rfl rfl)

theorem cov_SAFE_RAMSEC {P : Parts} (h : P.Has .SAFE_RAMSEC) : P.covers A.SAFE_RAMSEC = true :=
  h _ (isAt_of (off := 0) in_rows_safe (k := 12) rfl rfl rfl rfl)

theorem cov_SAFE_SCRUBCNT {P : Parts} (h : P.Has .SAFE_SCRUBCNT) : P.covers A.SAFE_SCRUBCNT = true :=
  h _ (isAt_of (off := 0) in_rows_safe (k := 11) rfl rfl rfl rfl)

theorem cov_SAFE_WDCFG {P : Parts} (h : P.Has .SAFE_WDCFG) : P.covers A.SAFE_WDCFG = true :=
  h _ (isAt_of (off := 0) in_rows_safe (k := 5) rfl rfl rfl rfl)

theorem cov_SCH_FULLCNT {P : Parts} (h : P.Has .SCH_FULLCNT) : P.covers A.SCH_FULLCNT = true :=
  h _ (isAt_of (off := 0) in_rows_sch0 (k := 14) rfl rfl rfl rfl)

theorem cov_SCH_IN_RES {P : Parts} (h : P.Has .SCH_IN_RES) : P.covers A.SCH_IN_RES = true :=
  h _ (isAt_of (off := 0) in_rows_sch0 (k := 2) rfl rfl rfl rfl)

theorem cov_SCH_LAST {P : Parts} (h : P.Has .SCH_LAST) (i0 : Nat) (h0 : i0 < 5) :
    P.covers (A.SCH_LAST i0) = true :=
  h _ (isAt_of (off := 1 * i0 + 0) in_rows_sch0 (k := 17) rfl rfl
    (by show A.SCH_LAST i0 = 5144 + _; unfold A.SCH_LAST; omega) (dimIdx_cons h0 (by omega) dimIdx_nil))

theorem cov_SCH_LATECNT {P : Parts} (h : P.Has .SCH_LATECNT) : P.covers A.SCH_LATECNT = true :=
  h _ (isAt_of (off := 0) in_rows_sch0 (k := 15) rfl rfl rfl rfl)

theorem cov_SCH_STATE_HI {P : Parts} (h : P.Has .SCH_STATE_HI) : P.covers A.SCH_STATE_HI = true :=
  h _ (isAt_of (off := 0) in_rows_sch0 (k := 13) rfl rfl rfl rfl)

theorem cov_SCH_STATE_LO {P : Parts} (h : P.Has .SCH_STATE_LO) : P.covers A.SCH_STATE_LO = true :=
  h _ (isAt_of (off := 0) in_rows_sch0 (k := 12) rfl rfl rfl rfl)

theorem cov_SCH_UNCOMCNT {P : Parts} (h : P.Has .SCH_UNCOMCNT) : P.covers A.SCH_UNCOMCNT = true :=
  h _ (isAt_of (off := 0) in_rows_sch0 (k := 16) rfl rfl rfl rfl)

theorem cov_SOL_BATCHOVF {P : Parts} (h : P.Has .SOL_BATCHOVF) (i0 : Nat) (h0 : i0 < 24) :
    P.covers (A.SOL_BATCHOVF i0) = true :=
  h _ (isAt_of (off := 64 * i0 + 0) in_rows_sol1 (k := 6) rfl rfl
    (by show A.SOL_BATCHOVF i0 = 6425 + _; unfold A.SOL_BATCHOVF; omega) (dimIdx_cons h0 (by omega) dimIdx_nil))

theorem cov_SOL_CNT {P : Parts} (h : P.Has .SOL_CNT) (i0 i1 : Nat) (h0 : i0 < 24) (h1 : i1 < 8) :
    P.covers (A.SOL_CNT i0 i1) = true :=
  h _ (isAt_of (off := 64 * i0 + (1 * i1 + 0)) in_rows_sol1 (k := 0) rfl rfl
    (by show A.SOL_CNT i0 i1 = 6408 + _; unfold A.SOL_CNT; omega) (dimIdx_cons h0 (by omega) (dimIdx_cons h1 (by omega) dimIdx_nil)))

theorem cov_SOL_EPOCHCNT {P : Parts} (h : P.Has .SOL_EPOCHCNT) (i0 : Nat) (h0 : i0 < 24) :
    P.covers (A.SOL_EPOCHCNT i0) = true :=
  h _ (isAt_of (off := 64 * i0 + 0) in_rows_sol1 (k := 8) rfl rfl
    (by show A.SOL_EPOCHCNT i0 = 6427 + _; unfold A.SOL_EPOCHCNT; omega) (dimIdx_cons h0 (by omega) dimIdx_nil))

theorem cov_SOL_EXPOVF {P : Parts} (h : P.Has .SOL_EXPOVF) (i0 : Nat) (h0 : i0 < 24) :
    P.covers (A.SOL_EXPOVF i0) = true :=
  h _ (isAt_of (off := 64 * i0 + 0) in_rows_sol1 (k := 5) rfl rfl
    (by show A.SOL_EXPOVF i0 = 6424 + _; unfold A.SOL_EXPOVF; omega) (dimIdx_cons h0 (by omega) dimIdx_nil))

theorem cov_SOL_FAULTCNT {P : Parts} (h : P.Has .SOL_FAULTCNT) : P.covers A.SOL_FAULTCNT = true :=
  h _ (isAt_of (off := 0) in_rows_sol0 (k := 8) rfl rfl rfl rfl)

theorem cov_SOL_FEST {P : Parts} (h : P.Has .SOL_FEST) (i0 : Nat) (h0 : i0 < 24) :
    P.covers (A.SOL_FEST i0) = true :=
  h _ (isAt_of (off := 64 * i0 + 0) in_rows_sol0 (k := 13) rfl rfl
    (by show A.SOL_FEST i0 = 6401 + _; unfold A.SOL_FEST; omega) (dimIdx_cons h0 (by omega) dimIdx_nil))

theorem cov_SOL_HIST {P : Parts} (h : P.Has .SOL_HIST) (i0 i1 : Nat) (h0 : i0 < 24) (h1 : i1 < 16) :
    P.covers (A.SOL_HIST i0 i1) = true :=
  h _ (isAt_of (off := 64 * i0 + (1 * i1 + 0)) in_rows_sol1 (k := 9) rfl rfl
    (by show A.SOL_HIST i0 i1 = 6432 + _; unfold A.SOL_HIST; omega) (dimIdx_cons h0 (by omega) (dimIdx_cons h1 (by omega) dimIdx_nil)))

theorem cov_SOL_LAST_ERR {P : Parts} (h : P.Has .SOL_LAST_ERR) (i0 : Nat) (h0 : i0 < 24) :
    P.covers (A.SOL_LAST_ERR i0) = true :=
  h _ (isAt_of (off := 64 * i0 + 0) in_rows_sol0 (k := 18) rfl rfl
    (by show A.SOL_LAST_ERR i0 = 6406 + _; unfold A.SOL_LAST_ERR; omega) (dimIdx_cons h0 (by omega) dimIdx_nil))

theorem cov_SOL_LAST_M {P : Parts} (h : P.Has .SOL_LAST_M) (i0 : Nat) (h0 : i0 < 24) :
    P.covers (A.SOL_LAST_M i0) = true :=
  h _ (isAt_of (off := 64 * i0 + 0) in_rows_sol0 (k := 17) rfl rfl
    (by show A.SOL_LAST_M i0 = 6405 + _; unfold A.SOL_LAST_M; omega) (dimIdx_cons h0 (by omega) dimIdx_nil))

theorem cov_SOL_LAST_N {P : Parts} (h : P.Has .SOL_LAST_N) (i0 : Nat) (h0 : i0 < 24) :
    P.covers (A.SOL_LAST_N i0) = true :=
  h _ (isAt_of (off := 64 * i0 + 0) in_rows_sol0 (k := 16) rfl rfl
    (by show A.SOL_LAST_N i0 = 6404 + _; unfold A.SOL_LAST_N; omega) (dimIdx_cons h0 (by omega) dimIdx_nil))

theorem cov_SOL_LAST_RMS {P : Parts} (h : P.Has .SOL_LAST_RMS) (i0 : Nat) (h0 : i0 < 24) :
    P.covers (A.SOL_LAST_RMS i0) = true :=
  h _ (isAt_of (off := 64 * i0 + 0) in_rows_sol0 (k := 19) rfl rfl
    (by show A.SOL_LAST_RMS i0 = 6407 + _; unfold A.SOL_LAST_RMS; omega) (dimIdx_cons h0 (by omega) dimIdx_nil))

theorem cov_SOL_LATECNT {P : Parts} (h : P.Has .SOL_LATECNT) : P.covers A.SOL_LATECNT = true :=
  h _ (isAt_of (off := 0) in_rows_sol0 (k := 7) rfl rfl rfl rfl)

theorem cov_SOL_RATES {P : Parts} (h : P.Has .SOL_RATES) (i0 i1 : Nat) (h0 : i0 < 24) (h1 : i1 < 5) :
    P.covers (A.SOL_RATES i0 i1) = true :=
  h _ (isAt_of (off := 64 * i0 + (1 * i1 + 0)) in_rows_sol1 (k := 2) rfl rfl
    (by show A.SOL_RATES i0 i1 = 6417 + _; unfold A.SOL_RATES; omega) (dimIdx_cons h0 (by omega) (dimIdx_cons h1 (by omega) dimIdx_nil)))

theorem cov_SOL_RSTAT {P : Parts} (h : P.Has .SOL_RSTAT) (i0 : Nat) (h0 : i0 < 24) :
    P.covers (A.SOL_RSTAT i0) = true :=
  h _ (isAt_of (off := 64 * i0 + 0) in_rows_sol0 (k := 15) rfl rfl
    (by show A.SOL_RSTAT i0 = 6403 + _; unfold A.SOL_RSTAT; omega) (dimIdx_cons h0 (by omega) dimIdx_nil))

theorem cov_SOL_RUNSKIP {P : Parts} (h : P.Has .SOL_RUNSKIP) (i0 : Nat) (h0 : i0 < 24) :
    P.covers (A.SOL_RUNSKIP i0) = true :=
  h _ (isAt_of (off := 64 * i0 + 0) in_rows_sol1 (k := 7) rfl rfl
    (by show A.SOL_RUNSKIP i0 = 6426 + _; unfold A.SOL_RUNSKIP; omega) (dimIdx_cons h0 (by omega) dimIdx_nil))

theorem cov_SOL_SEEDOVF {P : Parts} (h : P.Has .SOL_SEEDOVF) (i0 : Nat) (h0 : i0 < 24) :
    P.covers (A.SOL_SEEDOVF i0) = true :=
  h _ (isAt_of (off := 64 * i0 + 0) in_rows_sol1 (k := 4) rfl rfl
    (by show A.SOL_SEEDOVF i0 = 6423 + _; unfold A.SOL_SEEDOVF; omega) (dimIdx_cons h0 (by omega) dimIdx_nil))

theorem cov_SOL_TMAX {P : Parts} (h : P.Has .SOL_TMAX) : P.covers A.SOL_TMAX = true :=
  h _ (isAt_of (off := 0) in_rows_sol0 (k := 10) rfl rfl rfl rfl)

theorem cov_SOL_TRACE_E {P : Parts} (h : P.Has .SOL_TRACE_E) (i0 : Nat) (h0 : i0 < 32) :
    P.covers (A.SOL_TRACE_E i0) = true :=
  h _ (isAt_of (off := 1 * i0 + 0) in_rows_sol1 (k := 10) rfl rfl
    (by show A.SOL_TRACE_E i0 = 7936 + _; unfold A.SOL_TRACE_E; omega) (dimIdx_cons h0 (by omega) dimIdx_nil))

theorem cov_SOL_TRACE_N {P : Parts} (h : P.Has .SOL_TRACE_N) : P.covers A.SOL_TRACE_N = true :=
  h _ (isAt_of (off := 0) in_rows_sol1 (k := 12) rfl rfl rfl rfl)

theorem cov_SOL_TRACE_O {P : Parts} (h : P.Has .SOL_TRACE_O) (i0 : Nat) (h0 : i0 < 32) :
    P.covers (A.SOL_TRACE_O i0) = true :=
  h _ (isAt_of (off := 1 * i0 + 0) in_rows_sol1 (k := 11) rfl rfl
    (by show A.SOL_TRACE_O i0 = 7968 + _; unfold A.SOL_TRACE_O; omega) (dimIdx_cons h0 (by omega) dimIdx_nil))

theorem cov_SOL_WINCNT {P : Parts} (h : P.Has .SOL_WINCNT) (i0 : Nat) (h0 : i0 < 24) :
    P.covers (A.SOL_WINCNT i0) = true :=
  h _ (isAt_of (off := 64 * i0 + 0) in_rows_sol1 (k := 3) rfl rfl
    (by show A.SOL_WINCNT i0 = 6422 + _; unfold A.SOL_WINCNT; omega) (dimIdx_cons h0 (by omega) dimIdx_nil))

theorem cov_STORE_BUSYCNT {P : Parts} (h : P.Has .STORE_BUSYCNT) : P.covers A.STORE_BUSYCNT = true :=
  h _ (isAt_of (off := 0) in_rows_store0 (k := 16) rfl rfl rfl rfl)

theorem cov_STORE_DEFCNT {P : Parts} (h : P.Has .STORE_DEFCNT) : P.covers A.STORE_DEFCNT = true :=
  h _ (isAt_of (off := 0) in_rows_store0 (k := 15) rfl rfl rfl rfl)

theorem cov_STORE_ERRCNT {P : Parts} (h : P.Has .STORE_ERRCNT) : P.covers A.STORE_ERRCNT = true :=
  h _ (isAt_of (off := 0) in_rows_store0 (k := 12) rfl rfl rfl rfl)

theorem cov_STORE_ERRLAST {P : Parts} (h : P.Has .STORE_ERRLAST) : P.covers A.STORE_ERRLAST = true :=
  h _ (isAt_of (off := 0) in_rows_store0 (k := 14) rfl rfl rfl rfl)

theorem cov_STORE_JEVN {P : Parts} (h : P.Has .STORE_JEVN) : P.covers A.STORE_JEVN = true :=
  h _ (isAt_of (off := 0) in_rows_store0 (k := 17) rfl rfl rfl rfl)

theorem cov_STORE_JLOST {P : Parts} (h : P.Has .STORE_JLOST) : P.covers A.STORE_JLOST = true :=
  h _ (isAt_of (off := 0) in_rows_store0 (k := 11) rfl rfl rfl rfl)

theorem cov_STORE_RBUF {P : Parts} (h : P.Has .STORE_RBUF) (i0 : Nat) (h0 : i0 < 128) :
    P.covers (A.STORE_RBUF i0) = true :=
  h _ (isAt_of (off := 1 * i0 + 0) in_rows_storew (k := 1) rfl rfl
    (by show A.STORE_RBUF i0 = 41088 + _; unfold A.STORE_RBUF; omega) (dimIdx_cons h0 (by omega) dimIdx_nil))

theorem cov_STORE_RRES {P : Parts} (h : P.Has .STORE_RRES) : P.covers A.STORE_RRES = true :=
  h _ (isAt_of (off := 0) in_rows_store0 (k := 9) rfl rfl rfl rfl)

theorem cov_STORE_RSEQ {P : Parts} (h : P.Has .STORE_RSEQ) (i0 : Nat) (h0 : i0 < 2) :
    P.covers (A.STORE_RSEQ i0) = true :=
  h _ (isAt_of (off := 1 * i0 + 0) in_rows_store0 (k := 10) rfl rfl
    (by show A.STORE_RSEQ i0 = 2573 + _; unfold A.STORE_RSEQ; omega) (dimIdx_cons h0 (by omega) dimIdx_nil))

theorem cov_SYS_BOOT {P : Parts} (h : P.Has .SYS_BOOT) : P.covers A.SYS_BOOT = true :=
  h _ (isAt_of (off := 0) in_rows_sys0 (k := 2) rfl rfl rfl rfl)

theorem cov_SYS_DDP {P : Parts} (h : P.Has .SYS_DDP) : P.covers A.SYS_DDP = true :=
  h _ (isAt_of (off := 0) in_rows_sys0 (k := 7) rfl rfl rfl rfl)

theorem cov_SYS_HBMAP01 {P : Parts} (h : P.Has .SYS_HBMAP01) (i0 i1 : Nat) (h0 : i0 < 8) (h1 : i1 < 2) :
    P.covers (A.SYS_HBMAP01 i0 i1) = true :=
  h _ (isAt_of (off := 3 * i0 + (1 * i1 + 0)) in_rows_sys0 (k := 8) rfl rfl
    (by show A.SYS_HBMAP01 i0 i1 = 32 + _; unfold A.SYS_HBMAP01; omega) (dimIdx_cons h0 (by omega) (dimIdx_cons h1 (by omega) dimIdx_nil)))

theorem cov_SYS_HBMAP2 {P : Parts} (h : P.Has .SYS_HBMAP2) (i0 : Nat) (h0 : i0 < 8) :
    P.covers (A.SYS_HBMAP2 i0) = true :=
  h _ (isAt_of (off := 3 * i0 + 0) in_rows_sys0 (k := 9) rfl rfl
    (by show A.SYS_HBMAP2 i0 = 34 + _; unfold A.SYS_HBMAP2; omega) (dimIdx_cons h0 (by omega) dimIdx_nil))

theorem cov_SYS_PINALT {P : Parts} (h : P.Has .SYS_PINALT) : P.covers A.SYS_PINALT = true :=
  h _ (isAt_of (off := 0) in_rows_sys0 (k := 5) rfl rfl rfl rfl)

theorem cov_SYS_RSTCNT {P : Parts} (h : P.Has .SYS_RSTCNT) : P.covers A.SYS_RSTCNT = true :=
  h _ (isAt_of (off := 0) in_rows_sys0 (k := 3) rfl rfl rfl rfl)

theorem cov_SYS_SLOTMAP {P : Parts} (h : P.Has .SYS_SLOTMAP) (i0 : Nat) (h0 : i0 < 8) :
    P.covers (A.SYS_SLOTMAP i0) = true :=
  h _ (isAt_of (off := 1 * i0 + 0) in_rows_sys0 (k := 6) rfl rfl
    (by show A.SYS_SLOTMAP i0 = 16 + _; unfold A.SYS_SLOTMAP; omega) (dimIdx_cons h0 (by omega) dimIdx_nil))

theorem cov_TIME_FERR {P : Parts} (h : P.Has .TIME_FERR) : P.covers A.TIME_FERR = true :=
  h _ (isAt_of (off := 0) in_rows_time (k := 8) rfl rfl rfl rfl)

theorem cov_TIME_PPSERR {P : Parts} (h : P.Has .TIME_PPSERR) : P.covers A.TIME_PPSERR = true :=
  h _ (isAt_of (off := 0) in_rows_time (k := 9) rfl rfl rfl rfl)

theorem cov_TIME_PPSREJ {P : Parts} (h : P.Has .TIME_PPSREJ) : P.covers A.TIME_PPSREJ = true :=
  h _ (isAt_of (off := 0) in_rows_time (k := 10) rfl rfl rfl rfl)

theorem round_forget (P : Parts) (s : State) (x : Rat) (h_free : P.free = true) :
    forget P (State.round s x).1 = forget P s := by
  unfold State.round
  try dsimp only
  (repeat' split) <;> first | with_reducible rfl | simp only [took_forget, Nat.reduceLT, ite_forget, ite_self, h_free,
      Fin.is_lt]

theorem round_eq {P : Parts} (s : State) (x : Rat) {t' : State} {v' : Int} (e : State.round s x = (t', v')) (h_free : P.free = true) :
    forget P t' = forget P s := by
  have := round_forget P s x h_free
  rwa [e] at this

theorem quant_forget (P : Parts) (s : State) (x : Rat) (h_free : P.free = true) :
    forget P (State.quant s x).1 = forget P s := by
  unfold State.quant
  try dsimp only
  (repeat' split) <;> first | with_reducible rfl | simp only [took_forget, Nat.reduceLT, ite_forget, ite_self, h_free,
      Fin.is_lt]

theorem quant_eq {P : Parts} (s : State) (x : Rat) {t' : State} {v' : Int} (e : State.quant s x = (t', v')) (h_free : P.free = true) :
    forget P t' = forget P s := by
  have := quant_forget P s x h_free
  rwa [e] at this

theorem pick_forget (P : Parts) {α : Type} (s : State) (l : List α) (h_free : P.free = true) :
    forget P (State.pick s l).1 = forget P s := by
  unfold State.pick
  try dsimp only
  (repeat' split) <;> first | with_reducible rfl | simp only [took_forget, Nat.reduceLT, ite_forget, ite_self, h_free,
      Fin.is_lt]

theorem pick_eq {P : Parts} {α : Type} (s : State) (l : List α) {t' : State} {v' : Option α} (e : State.pick s l = (t', v')) (h_free : P.free = true) :
    forget P t' = forget P s := by
  have := pick_forget P s l h_free
  rwa [e] at this

theorem freeUpTo_forget (P : Parts) (s : State) (n : Nat) (h_free : P.free = true) :
    forget P (State.freeUpTo s n).1 = forget P s := by
  unfold State.freeUpTo
  try dsimp only
  (repeat' split) <;> first | with_reducible rfl | simp only [took_forget, Nat.reduceLT, ite_forget, ite_self, h_free,
      Fin.is_lt]

theorem freeUpTo_eq {P : Parts} (s : State) (n : Nat) {t' : State} {v' : Nat} (e : State.freeUpTo s n = (t', v')) (h_free : P.free = true) :
    forget P t' = forget P s := by
  have := freeUpTo_forget P s n h_free
  rwa [e] at this

theorem setLatch_forget (P : Parts) (s : State) (a : Nat) (v : Word) (h_link : P.link = true) :
    forget P (State.setLatch s a v) = forget P s := by
  unfold State.setLatch
  try dsimp only
  (repeat' split) <;> first | with_reducible rfl | simp only [modLink_forget, Nat.reduceLT, ite_forget, ite_self,
      h_link, Fin.is_lt]

theorem setStaged_forget (P : Parts) (s : State) (a : Nat) (v : Word) (h_link : P.link = true) :
    forget P (State.setStaged s a v) = forget P s := by
  unfold State.setStaged
  try dsimp only
  (repeat' split) <;> first | with_reducible rfl | simp only [modLink_forget, Nat.reduceLT, ite_forget, ite_self,
      h_link, Fin.is_lt]

end Sys2Proof.Laws
end

