-- ==== Sys2Proof/Laws/FrameFlags.lean ====
section
/-! SUPPORT. Sys2Proof/Laws/FrameFlags.lean: which parts of the state each operation of Machine/Flags.lean may change. -/
namespace Sys2Proof.Laws
set_option Elab.async false
set_option linter.unusedSimpArgs false
open Sys2Proof.Machine Sys2Proof.Safety

theorem setFlags_forget (P : Parts) (s : State) (a : Nat) (w : Word) (h_fresh : P.fresh = true) (h : P.covers a = true) :
    forget P (s.setFlags a w) = forget P s := by
  rw [← wr_forget P s a (s.rd a ||| w) h]
  simp [forget, State.setFlags, h_fresh]

theorem clrFlags_forget (P : Parts) (s : State) (a : Nat) (w : Word) (h : P.covers a = true) :
    forget P (s.clrFlags a w) = forget P s := wr_forget P s a _ h

theorem w1c_forget (P : Parts) (s : State) (a : Nat) (w : Word) (h : P.covers a = true) :
    forget P (s.w1c a w) = forget P s := wr_forget P s a _ h

theorem satInc_forget (P : Parts) (s : State) (a : Nat) (h : P.covers a = true) : forget P (s.satInc a) = forget P s :=
  wr_forget P s a _ h

theorem wrapInc_forget (P : Parts) (s : State) (a : Nat) (h : P.covers a = true) : forget P (s.wrapInc a) = forget P s :=
  wr_forget P s a _ h

theorem satAdd_forget (P : Parts) (s : State) (a n : Nat) (h : P.covers a = true) : forget P (s.satAdd a n) = forget P s :=
  wr_forget P s a _ h


end Sys2Proof.Laws
end

