-- ==== Sys2Proof/Laws/FrameEvents.lean ====
section
/-! SUPPORT. Sys2Proof/Laws/FrameEvents.lean: which parts of the state each operation of Machine/Events.lean may change. -/
namespace Sys2Proof.Laws
set_option Elab.async false
set_option linter.unusedSimpArgs false
open Sys2Proof.Machine Sys2Proof.Safety

/-! ### What a raising may change -/

/-- `P` holds what raising an event may change: its status bit and its record's way to the recorder (R341, R344). -/
structure MayRaise (P : Parts) : Prop where
  rcd : P.rcd = true
  fresh : P.fresh = true
  evt : P.Has .EVT_STAT

/-- `P` holds what queueing a record for the journal may change: the queue, its loss counter and what JRNL_OVF raises
(R356, R397). -/
structure MayQueue (P : Parts) : Prop where
  raises : MayRaise P
  store : P.store = true
  jlost : P.Has .STORE_JLOST

/-- `P` holds what making a due record may change: the slots, the hold FIFO, the journal queue and their loss counters
(R345, R346, R352, R356). -/
structure MayRecord (P : Parts) : Prop where
  queue : MayQueue P
  recs : P.recs = true
  drop : P.Has .REC_DROP_CNT
  holdovf : P.Has .REC_HOLDOVF_CNT

theorem setEvt_forget (P : Parts) (s : State) (n : Nat) (hn : n < 128) (h : MayRaise P) :
    forget P (s.setEvt n) = forget P s :=
  setFlags_forget P s _ _ h.fresh (cov_EVT_STAT h.evt _ (by omega))

theorem push_slots (r : Recorder) (x : Raised) : (r.push x).1.slots = r.slots := by
  unfold Recorder.push
  repeat' split
  all_goals rfl

theorem fifoIn_forget (P : Parts) (s : State) (x : Raised) (h : P.rcd = true) (ho : P.Has .REC_HOLDOVF_CNT) :
    forget P (s.fifoIn x) = forget P s := by
  unfold State.fifoIn
  split
  · rename_i r e
    have : r.slots = s.rcd.slots := by rw [← push_slots s.rcd x, e]
    simp [forget, h, this]
  · dsimp only
    rw [satInc_forget P _ _ (cov_REC_HOLDOVF_CNT ho)]
    split
    · exact modRcd_forget P s _ h (by intro _; rfl)
    · rfl

theorem raiseAt_forget (P : Parts) (s : State) (p : Nat) (e : EvName) (d0 d1 : Word) (he : e.src < 128) (h : MayRaise P) :
    forget P (s.raiseAt p e d0 d1) = forget P s := by
  unfold State.raiseAt
  dsimp only
  split
  · rw [modRcd_forget P _ _ h.rcd (by intro _; rfl), setEvt_forget P s _ he h]
  · exact setEvt_forget P s _ he h

theorem raise_forget (P : Parts) (s : State) (e : EvName) (d0 d1 : Word) (he : e.src < 128) (h : MayRaise P) :
    forget P (s.raise e d0 d1) = forget P s := raiseAt_forget P s _ e d0 d1 he h

theorem jqueue_forget (P : Parts) (s : State) (x : Raised) (prot held : Bool) (seq : Word) (h : MayQueue P) :
    forget P (s.jqueue x prot held seq) = forget P s := by
  unfold State.jqueue
  dsimp only
  split
  · exact modStore_forget P s _ h.store (by intro _; rfl)
  · have e : forget P ((s.satInc A.STORE_JLOST).modStore (fun t => { t with lost := t.lost + 1, full := true })) =
        forget P s := by
      rw [modStore_forget P _ _ h.store (by intro _; rfl), satInc_forget P _ _ (cov_STORE_JLOST h.jlost)]
    split
    · rw [raise_forget P _ _ _ _ (by decide) h.raises, e]
    · exact e

theorem holdRec_forget (P : Parts) (s : State) (x : Raised) (h : MayRecord P) :
    forget P (s.holdRec x) = forget P s := by
  unfold State.holdRec
  dsimp only
  (repeat' split) <;>
    simp only [fifoIn_forget P _ _ h.queue.raises.rcd h.holdovf, jqueue_forget P _ _ _ _ _ h.queue]

theorem writeRec_forget (P : Parts) (s : State) (x : Raised) (held : Bool) (n t : Nat) (h : MayRecord P) :
    forget P (s.writeRec x held n t) = forget P s := by
  have hm := h.queue.raises.rcd
  unfold State.writeRec
  dsimp only
  split
  · exact modRcd_forget_recs P s _ hm h.recs
  · split
    · repeat' split
      all_goals simp only [raise_forget P _ evREC_DROP _ _ (by decide) h.queue.raises, jqueue_forget P _ _ _ _ _ h.queue,
        satInc_forget P _ A.REC_DROP_CNT (cov_REC_DROP_CNT h.drop)]
    · split
      · rw [jqueue_forget P _ _ _ _ _ h.queue, modRcd_forget_recs P _ _ hm h.recs]
      · exact modRcd_forget_recs P _ _ hm h.recs

theorem writeDue_forget (P : Parts) (s : State) (h : MayRecord P) : forget P s.writeDue = forget P s := by
  have hm := h.queue.raises.rcd
  unfold State.writeDue
  split
  · rfl
  · dsimp only
    split
    · rw [holdRec_forget P _ _ h, modRcd_forget P _ _ hm (by intro _; rfl)]
    · rw [writeRec_forget P _ _ _ _ _ h, modRcd_forget P _ _ hm (by intro _; rfl), modRcd_forget P _ _ hm (by intro _; rfl)]

theorem writeDueN_forget (P : Parts) (n : Nat) (h : MayRecord P) : ∀ s : State, forget P (s.writeDueN n) = forget P s := by
  induction n with
  | zero => intro s; rfl
  | succ n ih => intro s; rw [State.writeDueN, ih, writeDue_forget P s h]

theorem flushDue_forget (P : Parts) (s : State) (hrec : MayRecord P) :
    forget P s.flushDue = forget P s := writeDueN_forget P _ hrec s

theorem drainDone_forget (P : Parts) (s : State) (h : MayRaise P) : forget P s.drainDone = forget P s := by
  unfold State.drainDone
  dsimp only
  (repeat' split) <;> first | rfl | simp only [raise_forget P _ evREC_THAW _ _ (by decide) h, modRcd_forget, h.rcd,
    implies_true, raise_forget P _ evREC_HOLDOVF _ _ (by decide) h]

theorem drainOne_forget (P : Parts) (s : State) (h : MayRecord P) : forget P s.drainOne = forget P s := by
  unfold State.drainOne
  split
  · rfl
  · rw [writeRec_forget P _ _ _ _ _ h, modRcd_forget P _ _ h.queue.raises.rcd (by intro _; rfl)]

theorem drainN_forget (P : Parts) (n : Nat) (h : MayRecord P) : ∀ s : State, forget P (s.drainN n) = forget P s := by
  induction n with
  | zero => intro s; rfl
  | succ n ih => intro s; rw [State.drainN, ih, drainOne_forget P s h]

theorem drain_forget (P : Parts) (s : State) (hrec : MayRecord P) : forget P s.drain = forget P s := by
  unfold State.drain
  split
  · rfl
  · split
    · rfl
    · rw [drainDone_forget P _ hrec.queue.raises, drainN_forget P _ hrec]

theorem thaw_forget (P : Parts) (s : State) (c : ThawCause) (hrec : MayRecord P) :
    forget P (s.thaw c) = forget P s := by
  have hm := hrec.queue.raises
  unfold State.thaw
  dsimp only
  split
  · rw [drainDone_forget P _ hm, modRcd_forget P _ _ hm.rcd (by intro _; rfl), flushDue_forget P _ hrec,
      modRcd_forget P _ _ hm.rcd (by intro _; rfl)]
  · exact modRcd_forget P _ _ hm.rcd (by intro _; rfl)

theorem applyFreeze_forget (P : Parts) (s : State) (h : P.rcd = true) : forget P s.applyFreeze = forget P s := by
  unfold State.applyFreeze
  split
  · exact modRcd_forget P _ _ h (by intro _; rfl)
  · rfl

theorem raiseAxis_forget (P : Parts) (s : State) (b : Fin 8) (f : Bool) (d0 d1 : Word) (h : MayRaise P) :
    forget P (s.raiseAxis b f d0 d1) = forget P s := by
  unfold State.raiseAxis
  split <;> exact raise_forget P s _ d0 d1 (by simp only [evAXIS_FAULT, evAXIS_WARN]; omega) h

theorem recClr_forget (P : Parts) (s : State) (hrec : MayRecord P) : forget P (recClr s) = forget P s := by
  unfold recClr
  rw [modRcd_forget_recs P _ _ hrec.queue.raises.rcd hrec.recs, flushDue_forget P s hrec]

theorem evtStatClear_forget (P : Parts) (g : Fin 8) (d : Word) (s : State) (h : P.Has .EVT_STAT) :
    forget P (evtStatClear g d s) = forget P s :=
  clrFlags_forget P s _ d (cov_EVT_STAT h _ g.isLt)

theorem hostMark_forget (P : Parts) (d hi : Word) (s : State) (h : MayRaise P) :
    forget P (hostMark d hi s) = forget P s := raise_forget P s _ d hi (by decide) h

theorem recFreeze_forget (P : Parts) (s : State) (h : P.rcd = true) : forget P (recFreeze s) = forget P s := by
  unfold recFreeze
  split
  · rfl
  · exact modRcd_forget P s _ h (by intro _; rfl)

/-! ### The sources lie below 128 (Table EVT-2) -/

theorem evRESET_lt : evRESET.src < 128 := by decide
theorem evHOST_CRC_lt : evHOST_CRC.src < 128 := by decide
theorem evOP_END_lt : evOP_END.src < 128 := by decide
theorem evCLK_FAIL_lt : evCLK_FAIL.src < 128 := by decide
theorem evPPS_LOCK_lt : evPPS_LOCK.src < 128 := by decide
theorem evPPS_REJECT_lt : evPPS_REJECT.src < 128 := by decide
theorem evPPS_LOST_lt : evPPS_LOST.src < 128 := by decide
theorem evTIME_APPLIED_lt : evTIME_APPLIED.src < 128 := by decide
theorem evIMG_LOADED_lt : evIMG_LOADED.src < 128 := by decide
theorem evIMG_REJECT_lt : evIMG_REJECT.src < 128 := by decide
theorem evIMG_FALLBACK_lt : evIMG_FALLBACK.src < 128 := by decide
theorem evLIMIT_SAT_lt : evLIMIT_SAT.src < 128 := by decide
theorem evHOST_MARK_lt : evHOST_MARK.src < 128 := by decide
theorem evPWR_LOSS_lt : evPWR_LOSS.src < 128 := by decide
theorem evPWR_RESTORE_lt : evPWR_RESTORE.src < 128 := by decide
theorem evPWR_BOUNCE_lt : evPWR_BOUNCE.src < 128 := by decide
theorem evDOMAIN_SW_lt : evDOMAIN_SW.src < 128 := by decide
theorem evVBAK_LOW_lt : evVBAK_LOW.src < 128 := by decide
theorem evHOLDUP_LOW_lt : evHOLDUP_LOW.src < 128 := by decide
theorem evCOMMIT_DEFER_lt : evCOMMIT_DEFER.src < 128 := by decide
theorem evSTORE_BUSY_lt : evSTORE_BUSY.src < 128 := by decide
theorem evCOMPACT_DONE_lt : evCOMPACT_DONE.src < 128 := by decide
theorem evSTORE_ERR_lt : evSTORE_ERR.src < 128 := by decide
theorem evJRNL_OVF_lt : evJRNL_OVF.src < 128 := by decide
theorem evREC_DROP_lt : evREC_DROP.src < 128 := by decide
theorem evREC_HOLDOVF_lt : evREC_HOLDOVF.src < 128 := by decide
theorem evREC_THAW_lt : evREC_THAW.src < 128 := by decide
theorem evESTOP_lt : evESTOP.src < 128 := by decide
theorem evSAFE_DEV_lt : evSAFE_DEV.src < 128 := by decide
theorem evWDOG_lt : evWDOG.src < 128 := by decide
theorem evRAM_SEC_lt : evRAM_SEC.src < 128 := by decide
theorem evCONTENTION_lt : evCONTENTION.src < 128 := by decide
theorem evPAIR_OWNER_lt : evPAIR_OWNER.src < 128 := by decide
theorem evLINK_DOWN_lt : evLINK_DOWN.src < 128 := by decide
theorem evLINK_UP_lt : evLINK_UP.src < 128 := by decide
theorem evCAN_RX_lt (c : Fin 2) : (evCAN_RX c).src < 128 := by simp only [evCAN_RX]; omega
theorem evCAN_TX_lt (c : Fin 2) : (evCAN_TX c).src < 128 := by simp only [evCAN_TX]; omega
theorem evCAN_ERR_lt (c : Fin 2) : (evCAN_ERR c).src < 128 := by simp only [evCAN_ERR]; omega
theorem evCAN_OVR_lt (c : Fin 2) : (evCAN_OVR c).src < 128 := by simp only [evCAN_OVR]; omega
theorem evWHL_NOISE_lt : evWHL_NOISE.src < 128 := by decide
theorem evWHL_INSERT_lt : evWHL_INSERT.src < 128 := by decide
theorem evGNSS_ERR_lt : evGNSS_ERR.src < 128 := by decide
theorem evIMU_ERR_lt : evIMU_ERR.src < 128 := by decide
theorem evSENT_ERR_lt : evSENT_ERR.src < 128 := by decide
theorem evFUS_STALE_lt : evFUS_STALE.src < 128 := by decide
theorem evSCHED_FIRE_lt : evSCHED_FIRE.src < 128 := by decide
theorem evSCHED_LATE_lt : evSCHED_LATE.src < 128 := by decide
theorem evSCHED_FULL_lt : evSCHED_FULL.src < 128 := by decide
theorem evSCHED_UNCOMMIT_lt : evSCHED_UNCOMMIT.src < 128 := by decide
theorem evHOST_SECT_lt : evHOST_SECT.src < 128 := by decide
theorem evSOLVER_LATE_lt : evSOLVER_LATE.src < 128 := by decide
theorem evSEED_BLOCK_lt : evSEED_BLOCK.src < 128 := by decide
theorem evSEED_OVF_lt : evSEED_OVF.src < 128 := by decide
theorem evFALL_LIM_lt : evFALL_LIM.src < 128 := by decide
theorem evSOL_FAULT_lt : evSOL_FAULT.src < 128 := by decide
theorem evPS_SHORT_lt (b : Fin 8) : (evPS_SHORT b).src < 128 := by simp only [evPS_SHORT]; omega
theorem evGATE_STUCK_lt (b : Fin 8) : (evGATE_STUCK b).src < 128 := by simp only [evGATE_STUCK]; omega
theorem evGATE_FGN_lt (b : Fin 8) : (evGATE_FGN b).src < 128 := by simp only [evGATE_FGN]; omega
theorem evBANK_TRIP_lt (b : Fin 8) : (evBANK_TRIP b).src < 128 := by simp only [evBANK_TRIP]; omega
theorem evGATE_UV_lt (b : Fin 8) : (evGATE_UV b).src < 128 := by simp only [evGATE_UV]; omega
theorem evBST_UV_lt (b : Fin 8) : (evBST_UV b).src < 128 := by simp only [evBST_UV]; omega
theorem evPROT_WARN_lt (b : Fin 8) : (evPROT_WARN b).src < 128 := by simp only [evPROT_WARN]; omega
theorem evAXIS_FAULT_lt (b : Fin 8) : (evAXIS_FAULT b).src < 128 := by simp only [evAXIS_FAULT]; omega
theorem evAXIS_WARN_lt (b : Fin 8) : (evAXIS_WARN b).src < 128 := by simp only [evAXIS_WARN]; omega
theorem evBANK_CFG_lt (b : Fin 8) : (evBANK_CFG b).src < 128 := by simp only [evBANK_CFG]; omega
theorem evARM_REPLACED_lt (b : Fin 8) : (evARM_REPLACED b).src < 128 := by simp only [evARM_REPLACED]; omega
theorem evDLCAL_FAULT_lt (b : Fin 8) : (evDLCAL_FAULT b).src < 128 := by simp only [evDLCAL_FAULT]; omega


end Sys2Proof.Laws
end

