-- ==== Sys2Proof/Laws/FrameStructure.lean ====
section
/-! SUPPORT. Sys2Proof/Laws/FrameStructure.lean: which parts of the state each operation of Machine/Structure.lean may change. -/
namespace Sys2Proof.Laws
set_option Elab.async false
set_option linter.unusedSimpArgs false
open Sys2Proof.Machine Sys2Proof.Safety

end Sys2Proof.Laws
end

