-- ==== Sys2Proof/Laws/FrameTime.lean ====
section
/-! SUPPORT. Sys2Proof/Laws/FrameTime.lean: which parts of the state each operation of Machine/Time.lean may change. -/
namespace Sys2Proof.Laws
set_option Elab.async false
set_option linter.unusedSimpArgs false
open Sys2Proof.Machine Sys2Proof.Safety

theorem secBoundary_forget (P : Parts) (s : State) (inc : Bool) (hev : MayRaise P) (h_clk : P.clk = true) :
    forget P (State.secBoundary s inc) = forget P s := by
  unfold State.secBoundary
  try dsimp only
  (repeat' split) <;> first | with_reducible rfl | simp only [evTIME_APPLIED_lt, modClk_forget, raise_forget,
      Nat.reduceLT, ite_forget, ite_self, hev, hev.rcd, hev.fresh, hev.evt, h_clk, Fin.is_lt]

theorem internalBoundary_forget (P : Parts) (s : State) (hev : MayRaise P) (h_clk : P.clk = true) :
    forget P (State.internalBoundary s) = forget P s := by
  unfold State.internalBoundary
  try dsimp only
  (repeat' split) <;> first | with_reducible rfl | simp only [secBoundary_forget, Nat.reduceLT, ite_forget, ite_self,
      hev, hev.rcd, hev.fresh, hev.evt, h_clk, Fin.is_lt]

theorem tickTime_forget (P : Parts) (s : State) (hev : MayRaise P) (h_clk : P.clk = true) :
    forget P (State.tickTime s) = forget P s := by
  unfold State.tickTime
  try dsimp only
  (repeat' split) <;> first | with_reducible rfl | simp only [internalBoundary_forget, modClk_forget, Nat.reduceLT,
      ite_forget, ite_self, hev, hev.rcd, hev.fresh, hev.evt, h_clk, Fin.is_lt]

theorem edgeBoundary_forget (P : Parts) (s : State) (e : Int) (hev : MayRaise P) (h_clk : P.clk = true) :
    forget P (State.edgeBoundary s e) = forget P s := by
  unfold State.edgeBoundary
  try dsimp only
  (repeat' split) <;> first | with_reducible rfl | simp only [secBoundary_forget, Nat.reduceLT, ite_forget, ite_self,
      hev, hev.rcd, hev.fresh, hev.evt, h_clk, Fin.is_lt]

theorem setFerr_forget (P : Parts) (s : State) (f : Int) (r_TIME_FERR : P.Has .TIME_FERR) :
    forget P (State.setFerr s f) = forget P s := by
  unfold State.setFerr
  try dsimp only
  (repeat' split) <;> first | with_reducible rfl | simp only [wr_forget, cov_TIME_FERR, Nat.reduceLT, ite_forget,
      ite_self, r_TIME_FERR, Fin.is_lt]

theorem ppsReject_forget (P : Parts) (s : State) (hev : MayRaise P) (r_TIME_PPSREJ : P.Has .TIME_PPSREJ) :
    forget P (State.ppsReject s) = forget P s := by
  unfold State.ppsReject
  try dsimp only
  (repeat' split) <;> first | with_reducible rfl | simp only [evPPS_REJECT_lt, raise_forget, satInc_forget,
      cov_TIME_PPSREJ, Nat.reduceLT, ite_forget, ite_self, hev, hev.rcd, hev.fresh, hev.evt, r_TIME_PPSREJ, Fin.is_lt]

theorem ppsAccept_forget (P : Parts) (s : State) (e : Int) (hev : MayRaise P) (h_free : P.free = true) (h_clk : P.clk
    = true) (r_TIME_FERR : P.Has .TIME_FERR) :
    forget P (State.ppsAccept s e) = forget P s := by
  unfold State.ppsAccept
  try dsimp only
  (repeat' split) <;> first | with_reducible rfl | simp only [edgeBoundary_forget, modClk_forget, setFerr_forget,
      took_forget, Nat.reduceLT, ite_forget, ite_self, hev, hev.rcd, hev.fresh, hev.evt, h_free, h_clk, r_TIME_FERR,
      Fin.is_lt]

theorem ppsEdge_forget (P : Parts) (level : Bool) (s : State) (hev : MayRaise P) (h_free : P.free = true) (h_clk :
    P.clk = true) (r_TIME_FERR : P.Has .TIME_FERR) (r_TIME_PPSERR : P.Has .TIME_PPSERR) (r_TIME_PPSREJ : P.Has
    .TIME_PPSREJ) :
    forget P (ppsEdge level s) = forget P s := by
  unfold ppsEdge
  try dsimp only
  (repeat' split) <;> first | with_reducible rfl | simp only [edgeBoundary_forget, evPPS_LOCK_lt, modClk_forget,
      ppsAccept_forget, ppsReject_forget, raise_forget, setFerr_forget, wr_forget, cov_TIME_PPSERR, Nat.reduceLT,
      ite_forget, ite_self, hev, hev.rcd, hev.fresh, hev.evt, h_free, h_clk, r_TIME_FERR, r_TIME_PPSERR,
      r_TIME_PPSREJ, Fin.is_lt]

theorem ppsLost_forget (P : Parts) (s : State) (place : Nat) (hev : MayRaise P) (h_clk : P.clk = true) :
    forget P (State.ppsLost s place) = forget P s := by
  unfold State.ppsLost
  try dsimp only
  (repeat' split) <;> first | with_reducible rfl | simp only [evPPS_LOST_lt, modClk_forget, raiseAt_forget,
      Nat.reduceLT, ite_forget, ite_self, hev, hev.rcd, hev.fresh, hev.evt, h_clk, Fin.is_lt]

theorem ppsBreak_forget (P : Parts) (s : State) (r : Rank) (hev : MayRaise P) (h_clk : P.clk = true) :
    forget P (State.ppsBreak s r) = forget P s := by
  unfold State.ppsBreak
  try dsimp only
  (repeat' split) <;> first | with_reducible rfl | simp only [modClk_forget, ppsLost_forget, Nat.reduceLT, ite_forget,
      ite_self, hev, hev.rcd, hev.fresh, hev.evt, h_clk, Fin.is_lt]

theorem ppsAtSwap_forget (P : Parts) (s : State) (h_clk : P.clk = true) :
    forget P (State.ppsAtSwap s) = forget P s := by
  unfold State.ppsAtSwap
  try dsimp only
  (repeat' split) <;> first | with_reducible rfl | simp only [modClk_forget, Nat.reduceLT, ite_forget, ite_self,
      h_clk, Fin.is_lt]

theorem relock_forget (P : Parts) (s : State) (h_clk : P.clk = true) :
    forget P (relock s) = forget P s := by
  unfold relock
  try dsimp only
  (repeat' split) <;> first | with_reducible rfl | simp only [modClk_forget, Nat.reduceLT, ite_forget, ite_self,
      h_clk, Fin.is_lt]

theorem timeApply_forget (P : Parts) (s : State) (h_clk : P.clk = true) :
    forget P (timeApply s) = forget P s := by
  unfold timeApply
  try dsimp only
  (repeat' split) <;> first | with_reducible rfl | simp only [modClk_forget, Nat.reduceLT, ite_forget, ite_self,
      h_clk, Fin.is_lt]

theorem latchWords_forget (P : Parts) (s : State) (a : Nat) (x0 : List Word) (h_link : P.link = true) :
    forget P (State.latchWords s a x0) = forget P s := by
  induction x0 generalizing s a with
  | nil => rfl
  | cons v vs ih => rw [State.latchWords, ih, setLatch_forget P s a v h_link]

theorem snapshot_forget (P : Parts) (s : State) (h_link : P.link = true) :
    forget P (snapshot s) = forget P s := by
  unfold snapshot
  try dsimp only
  (repeat' split) <;> first | with_reducible rfl | simp only [latchWords_forget, Nat.reduceLT, ite_forget, ite_self,
      h_link, Fin.is_lt]

theorem tbLatch_forget (P : Parts) (s : State) (h_link : P.link = true) :
    forget P (tbLatch s) = forget P s := by
  unfold tbLatch
  try dsimp only
  (repeat' split) <;> first | with_reducible rfl | simp only [latchWords_forget, Nat.reduceLT, ite_forget, ite_self,
      h_link, Fin.is_lt]

theorem tickRestore_forget (P : Parts) (s : State) (h_clk : P.clk = true) :
    forget P (tickRestore s) = forget P s := by
  unfold tickRestore
  try dsimp only
  (repeat' split) <;> first | with_reducible rfl | simp only [modClk_forget, Nat.reduceLT, ite_forget, ite_self,
      h_clk, Fin.is_lt]

end Sys2Proof.Laws
end

