-- ==== Sys2Proof/Laws/FrameTickets.lean ====
section
/-! SUPPORT. Sys2Proof/Laws/FrameTickets.lean: which parts of the state each operation of Machine/Tickets.lean may change. -/
namespace Sys2Proof.Laws
set_option Elab.async false
set_option linter.unusedSimpArgs false
open Sys2Proof.Machine Sys2Proof.Safety

theorem endSlot_forget (P : Parts) (s : State) (i : Fin 8) (st : OpState) (fail : Nat) (hev : MayRaise P) (h_ops :
    P.ops = true) :
    forget P (State.endSlot s i st fail) = forget P s := by
  unfold State.endSlot
  try dsimp only
  (repeat' split) <;> first | with_reducible rfl | simp only [evOP_END_lt, modOps_forget, modSlot_forget,
      raise_forget, Nat.reduceLT, ite_forget, ite_self, hev, hev.rcd, hev.fresh, hev.evt, h_ops, Fin.is_lt]

theorem publishPart_forget (P : Parts) (s : State) (i e : Fin 8) (v progress : Nat) (h_ops : P.ops = true) :
    forget P (State.publishPart s i e v progress) = forget P s := by
  unfold State.publishPart
  try dsimp only
  (repeat' split) <;> first | with_reducible rfl | simp only [modSlot_forget, Nat.reduceLT, ite_forget, ite_self,
      h_ops, Fin.is_lt]

theorem publishFinal_forget (P : Parts) (s : State) (i e : Fin 8) (v : Nat) (h_ops : P.ops = true) :
    forget P (State.publishFinal s i e v) = forget P s := by
  unfold State.publishFinal
  try dsimp only
  (repeat' split) <;> first | with_reducible rfl | simp only [modSlot_forget, Nat.reduceLT, ite_forget, ite_self,
      h_ops, Fin.is_lt]

theorem interrupt_forget (P : Parts) (s : State) (i : Fin 8) (hev : MayRaise P) (h_ops : P.ops = true) :
    forget P (State.interrupt s i) = forget P s := by
  unfold State.interrupt
  try dsimp only
  (repeat' split) <;> first | with_reducible rfl | simp only [endSlot_forget, Nat.reduceLT, ite_forget, ite_self, hev,
      hev.rcd, hev.fresh, hev.evt, h_ops, Fin.is_lt]

theorem failOp_forget (P : Parts) (s : State) (op : Nat) (hev : MayRaise P) (h_ops : P.ops = true) :
    forget P (State.failOp s op) = forget P s := by
  unfold State.failOp
  try dsimp only
  (repeat' split) <;> first | with_reducible rfl | simp only [interrupt_forget, Nat.reduceLT, ite_forget, ite_self,
      hev, hev.rcd, hev.fresh, hev.evt, h_ops, Fin.is_lt]

theorem unitDone_forget (P : Parts) (s : State) (i : Fin 8) (b : Fin 8) (h_free : P.free = true) (h_ops : P.ops =
    true) :
    forget P (State.unitDone s i b).1 = forget P s := by
  unfold State.unitDone
  try dsimp only
  (repeat' split) <;> first | with_reducible rfl | simp only [modSlot_forget, took_forget, Nat.reduceLT, ite_forget,
      ite_self, h_free, h_ops, Fin.is_lt]

theorem unitDone_eq {P : Parts} (s : State) (i : Fin 8) (b : Fin 8) {t' : State} {v' : Bool} (e : State.unitDone s i b
    = (t', v')) (h_free : P.free = true) (h_ops : P.ops = true) :
    forget P t' = forget P s := by
  have := unitDone_forget P s i b h_free h_ops
  rwa [e] at this

theorem cutShuntCal_forget (P : Parts) (s : State) (b : Fin 8) (hev : MayRaise P) (h_ops : P.ops = true) :
    forget P (State.cutShuntCal s b) = forget P s := by
  unfold State.cutShuntCal
  try dsimp only
  (repeat' split) <;> first | with_reducible rfl | simp only [interrupt_forget, Nat.reduceLT, ite_forget, ite_self,
      hev, hev.rcd, hev.fresh, hev.evt, h_ops, Fin.is_lt]

theorem measureLines_forget (P : Parts) (s : State) (x : OpSlot) (all : Bool) (h_free : P.free = true) (h_hb : P.hb =
    true) :
    forget P (State.measureLines s x all) = forget P s := by
  unfold State.measureLines
  try dsimp only
  repeat' first
    | with_reducible rfl
    | split
    | (simp only [modHb_forget, took_forget, Nat.reduceLT, ite_forget, ite_self, h_free, h_hb, Fin.is_lt]; done)
    | with_reducible refine Eq.trans (each_forget P _ _ (fun s x => ?_) _) ?_
    | (simp only [modHb_forget, took_forget, Nat.reduceLT, ite_forget, ite_self, h_free, h_hb, Fin.is_lt])

theorem cutDlineCal_forget (P : Parts) (s : State) (b : Fin 8) (hev : MayRaise P) (h_free : P.free = true) (h_ops :
    P.ops = true) (h_hb : P.hb = true) :
    forget P (State.cutDlineCal s b) = forget P s := by
  unfold State.cutDlineCal
  try dsimp only
  repeat' first
    | with_reducible rfl
    | split
    | (simp only [interrupt_forget, measureLines_forget, Nat.reduceLT, ite_forget, ite_self, hev, hev.rcd, hev.fresh,
        hev.evt, h_free, h_ops, h_hb, Fin.is_lt]; done)
    | with_reducible exact unitDone_eq _ _ _ (by assumption) (by assumption) (by assumption)
    | with_reducible refine Eq.trans (unitDone_eq _ _ _ (by assumption) (by assumption) (by assumption)) ?_
    | with_reducible refine Eq.trans (each_forget P _ _ (fun s x => ?_) _) ?_
    | (simp only [interrupt_forget, measureLines_forget, Nat.reduceLT, ite_forget, ite_self, hev, hev.rcd, hev.fresh,
        hev.evt, h_free, h_ops, h_hb, Fin.is_lt])

theorem cutSelfTest_forget (P : Parts) (s : State) (b : Fin 8) (hev : MayRaise P) (h_free : P.free = true) (h_ops :
    P.ops = true) :
    forget P (State.cutSelfTest s b) = forget P s := by
  unfold State.cutSelfTest
  try dsimp only
  repeat' first
    | with_reducible rfl
    | split
    | (simp only [interrupt_forget, Nat.reduceLT, ite_forget, ite_self, hev, hev.rcd, hev.fresh, hev.evt, h_free,
        h_ops, Fin.is_lt]; done)
    | with_reducible exact unitDone_eq _ _ _ (by assumption) (by assumption) (by assumption)
    | with_reducible refine Eq.trans (unitDone_eq _ _ _ (by assumption) (by assumption) (by assumption)) ?_
    | with_reducible refine Eq.trans (each_forget P _ _ (fun s x => ?_) _) ?_
    | (simp only [interrupt_forget, Nat.reduceLT, ite_forget, ite_self, hev, hev.rcd, hev.fresh, hev.evt, h_free,
        h_ops, Fin.is_lt])

end Sys2Proof.Laws
end

