-- ==== Sys2Proof/Laws/FrameDrive.lean ====
section
/-! SUPPORT. Sys2Proof/Laws/FrameDrive.lean: which parts of the state each operation of Machine/Drive.lean may change. -/
namespace Sys2Proof.Laws
set_option Elab.async false
set_option linter.unusedSimpArgs false
open Sys2Proof.Machine Sys2Proof.Safety

theorem modGate_forget (P : Parts) (s : State) (h : Fin 72) (side : Side) (f : Gate → Gate) (h_hb : P.hb = true) :
    forget P (State.modGate s h side f) = forget P s := by
  unfold State.modGate
  try dsimp only
  (repeat' split) <;> first | with_reducible rfl | simp only [modHb_forget, Nat.reduceLT, ite_forget, ite_self, h_hb,
      Fin.is_lt]

theorem openBlank_forget (P : Parts) (s : State) (b : Fin 8) (t : Nat) (h_bank : P.bank = true) :
    forget P (State.openBlank s b t) = forget P s := by
  unfold State.openBlank
  try dsimp only
  (repeat' split) <;> first | with_reducible rfl | simp only [modBank_forget, Nat.reduceLT, ite_forget, ite_self,
      h_bank, Fin.is_lt]

theorem turnOff_forget (P : Parts) (s : State) (t : Nat) (h : Fin 72) (side : Side) (soft : Bool) (h_hb : P.hb = true)
    (h_bank : P.bank = true) :
    forget P (State.turnOff s t h side soft) = forget P s := by
  unfold State.turnOff
  try dsimp only
  (repeat' split) <;> first | with_reducible rfl | simp only [modGate_forget, openBlank_forget, Nat.reduceLT,
      ite_forget, ite_self, h_hb, h_bank, Fin.is_lt]

theorem gateOff_forget (P : Parts) (s : State) (t : Nat) (h : Fin 72) (side : Side) (urgent : Bool) (h_hb : P.hb =
    true) (h_bank : P.bank = true) :
    forget P (State.gateOff s t h side urgent) = forget P s := by
  unfold State.gateOff
  try dsimp only
  (repeat' split) <;> first | with_reducible rfl | simp only [modGate_forget, turnOff_forget, Nat.reduceLT,
      ite_forget, ite_self, h_hb, h_bank, Fin.is_lt]

theorem gateOn_forget (P : Parts) (s : State) (h : Fin 72) (side : Side) (h_hb : P.hb = true) :
    forget P (State.gateOn s h side) = forget P s := by
  unfold State.gateOn
  try dsimp only
  (repeat' split) <;> first | with_reducible rfl | simp only [modGate_forget, Nat.reduceLT, ite_forget, ite_self,
      h_hb, Fin.is_lt]

theorem deliver_forget (P : Parts) (s : State) (t : Nat) (h : Fin 72) (urgent : Bool) (c : HbCmd) (h_hb : P.hb = true)
    (h_bank : P.bank = true) :
    forget P (State.deliver s t h urgent c) = forget P s := by
  unfold State.deliver
  try dsimp only
  (repeat' split) <;> first | with_reducible rfl | simp only [gateOff_forget, gateOn_forget, modHb_forget,
      Nat.reduceLT, ite_forget, ite_self, h_hb, h_bank, Fin.is_lt]

theorem markAbove_forget (P : Parts) (s : State) (h : Fin 72) (h_tim : P.tim = true) :
    forget P (State.markAbove s h) = forget P s := by
  unfold State.markAbove
  try dsimp only
  (repeat' split) <;> first | with_reducible rfl | simp only [modTim_forget, Nat.reduceLT, ite_forget, ite_self,
      h_tim, Fin.is_lt]

theorem bstBlock_forget (P : Parts) (s : State) (h : Fin 72) (hev : MayRaise P) (h_hb : P.hb = true) (r_GATE_BSTUVCNT
    : P.Has .GATE_BSTUVCNT) (r_GATE_FLT : P.Has .GATE_FLT) :
    forget P (State.bstBlock s h) = forget P s := by
  unfold State.bstBlock
  try dsimp only
  (repeat' split) <;> first | with_reducible rfl | simp only [evBST_UV_lt, modHb_forget, raise_forget, satInc_forget,
      setFlags_forget, cov_GATE_BSTUVCNT, cov_GATE_FLT, Nat.reduceLT, ite_forget, ite_self, hev, hev.rcd, hev.fresh,
      hev.evt, h_hb, r_GATE_BSTUVCNT, r_GATE_FLT, Fin.is_lt]

theorem urge_forget (P : Parts) (s : State) (t : Nat) (h : Fin 72) (h_hb : P.hb = true) (h_bank : P.bank = true) :
    forget P (State.urge s t h) = forget P s := by
  unfold State.urge
  try dsimp only
  repeat' first
    | with_reducible rfl
    | split
    | (simp only [turnOff_forget, Nat.reduceLT, ite_forget, ite_self, h_hb, h_bank, Fin.is_lt]; done)
    | with_reducible refine Eq.trans (each_forget P _ _ (fun s x => ?_) _) ?_
    | (simp only [turnOff_forget, Nat.reduceLT, ite_forget, ite_self, h_hb, h_bank, Fin.is_lt])

theorem redrive_forget (P : Parts) (s : State) (t : Nat) (h : Fin 72) (hev : MayRaise P) (h_tim : P.tim = true) (h_hb
    : P.hb = true) (h_bank : P.bank = true) (r_GATE_BSTUVCNT : P.Has .GATE_BSTUVCNT) (r_GATE_FLT : P.Has .GATE_FLT) :
    forget P (State.redrive s t h) = forget P s := by
  unfold State.redrive
  try dsimp only
  (repeat' split) <;> first | with_reducible rfl | simp only [bstBlock_forget, deliver_forget, markAbove_forget,
      modHb_forget, urge_forget, Nat.reduceLT, ite_forget, ite_self, hev, hev.rcd, hev.fresh, hev.evt, h_tim, h_hb,
      h_bank, r_GATE_BSTUVCNT, r_GATE_FLT, Fin.is_lt]

theorem redriveBank_forget (P : Parts) (s : State) (t : Nat) (b : Fin 8) (hev : MayRaise P) (h_tim : P.tim = true)
    (h_hb : P.hb = true) (h_bank : P.bank = true) (r_GATE_BSTUVCNT : P.Has .GATE_BSTUVCNT) (r_GATE_FLT : P.Has
    .GATE_FLT) :
    forget P (State.redriveBank s t b) = forget P s := by
  unfold State.redriveBank
  try dsimp only
  repeat' first
    | with_reducible rfl
    | split
    | (simp only [redrive_forget, Nat.reduceLT, ite_forget, ite_self, hev, hev.rcd, hev.fresh, hev.evt, h_tim, h_hb,
        h_bank, r_GATE_BSTUVCNT, r_GATE_FLT, Fin.is_lt]; done)
    | with_reducible refine Eq.trans (each_forget P _ _ (fun s x => ?_) _) ?_
    | (simp only [redrive_forget, Nat.reduceLT, ite_forget, ite_self, hev, hev.rcd, hev.fresh, hev.evt, h_tim, h_hb,
        h_bank, r_GATE_BSTUVCNT, r_GATE_FLT, Fin.is_lt])

theorem redriveAxis_forget (P : Parts) (s : State) (t : Nat) (a : Fin 24) (hev : MayRaise P) (h_tim : P.tim = true)
    (h_hb : P.hb = true) (h_bank : P.bank = true) (r_GATE_BSTUVCNT : P.Has .GATE_BSTUVCNT) (r_GATE_FLT : P.Has
    .GATE_FLT) :
    forget P (State.redriveAxis s t a) = forget P s := by
  unfold State.redriveAxis
  try dsimp only
  repeat' first
    | with_reducible rfl
    | split
    | (simp only [redrive_forget, Nat.reduceLT, ite_forget, ite_self, hev, hev.rcd, hev.fresh, hev.evt, h_tim, h_hb,
        h_bank, r_GATE_BSTUVCNT, r_GATE_FLT, Fin.is_lt]; done)
    | with_reducible refine Eq.trans (each_forget P _ _ (fun s x => ?_) _) ?_
    | (simp only [redrive_forget, Nat.reduceLT, ite_forget, ite_self, hev, hev.rcd, hev.fresh, hev.evt, h_tim, h_hb,
        h_bank, r_GATE_BSTUVCNT, r_GATE_FLT, Fin.is_lt])

theorem release_forget (P : Parts) (s : State) (h : Fin 72) (old : Option HbCmd) (h_hb : P.hb = true) :
    forget P (State.release s h old) = forget P s := by
  unfold State.release
  try dsimp only
  (repeat' split) <;> first | with_reducible rfl | simp only [modHb_forget, Nat.reduceLT, ite_forget, ite_self, h_hb,
      Fin.is_lt]

theorem reRow2_forget (P : Parts) (s : State) (t : Nat) (hbs : List (Fin 72)) (f : State → State) (hev : MayRaise P)
    (h_tim : P.tim = true) (h_hb : P.hb = true) (h_bank : P.bank = true) (r_GATE_BSTUVCNT : P.Has .GATE_BSTUVCNT)
    (r_GATE_FLT : P.Has .GATE_FLT) (hf : ∀ s, forget P (f s) = forget P s) :
    forget P (State.reRow2 s t hbs f) = forget P s := by
  unfold State.reRow2
  dsimp only
  rw [each_forget P _ _ (fun s h => redrive_forget P s t h hev h_tim h_hb h_bank r_GATE_BSTUVCNT r_GATE_FLT)]
  exact (each_forget P _ _ (fun s (p : Fin 72 × Option HbCmd) => release_forget P s p.1 p.2 h_hb) _).trans (hf s)

theorem enterFloat_forget (P : Parts) (s : State) (t : Nat) (b : Fin 8) (hev : MayRaise P) (h_tim : P.tim = true)
    (h_hb : P.hb = true) (h_bank : P.bank = true) (r_GATE_BSTUVCNT : P.Has .GATE_BSTUVCNT) (r_GATE_FLT : P.Has
    .GATE_FLT) :
    forget P (State.enterFloat s t b) = forget P s := by
  unfold State.enterFloat
  try dsimp only
  (repeat' split) <;> first | with_reducible rfl | simp only [modBank_forget, redriveBank_forget, Nat.reduceLT,
      ite_forget, ite_self, hev, hev.rcd, hev.fresh, hev.evt, h_tim, h_hb, h_bank, r_GATE_BSTUVCNT, r_GATE_FLT,
      Fin.is_lt]

theorem refloat_forget (P : Parts) (s : State) (t : Nat) (b : Fin 8) (hev : MayRaise P) (h_tim : P.tim = true) (h_hb :
    P.hb = true) (h_bank : P.bank = true) (r_GATE_BSTUVCNT : P.Has .GATE_BSTUVCNT) (r_GATE_FLT : P.Has .GATE_FLT) :
    forget P (State.refloat s t b) = forget P s := by
  unfold State.refloat
  try dsimp only
  (repeat' split) <;> first | with_reducible rfl | simp only [enterFloat_forget, Nat.reduceLT, ite_forget, ite_self,
      hev, hev.rcd, hev.fresh, hev.evt, h_tim, h_hb, h_bank, r_GATE_BSTUVCNT, r_GATE_FLT, Fin.is_lt]

theorem disableStages_forget (P : Parts) (s : State) (b : Fin 8) (h_hb : P.hb = true) (h_bank : P.bank = true) :
    forget P (State.disableStages s b) = forget P s := by
  unfold State.disableStages
  try dsimp only
  repeat' first
    | with_reducible rfl
    | split
    | (simp only [modBank_forget, modHb_forget, Nat.reduceLT, ite_forget, ite_self, h_hb, h_bank, Fin.is_lt]; done)
    | with_reducible refine Eq.trans (each_forget P _ _ (fun s x => ?_) _) ?_
    | (simp only [modBank_forget, modHb_forget, Nat.reduceLT, ite_forget, ite_self, h_hb, h_bank, Fin.is_lt])

theorem enableStages_forget (P : Parts) (s : State) (b : Fin 8) (h_hb : P.hb = true) :
    forget P (State.enableStages s b) = forget P s := by
  unfold State.enableStages
  try dsimp only
  repeat' first
    | with_reducible rfl
    | split
    | (simp only [modHb_forget, Nat.reduceLT, ite_forget, ite_self, h_hb, Fin.is_lt]; done)
    | with_reducible refine Eq.trans (each_forget P _ _ (fun s x => ?_) _) ?_
    | (simp only [modHb_forget, Nat.reduceLT, ite_forget, ite_self, h_hb, Fin.is_lt])

theorem toStopped_forget (P : Parts) (s : State) (a : Fin 24) (c : AxCause) (hev : MayRaise P) (h_ax : P.ax = true) :
    forget P (State.toStopped s a c) = forget P s := by
  unfold State.toStopped
  try dsimp only
  (repeat' split) <;> first | with_reducible rfl | simp only [modAx_forget, raiseAxis_forget, Nat.reduceLT,
      ite_forget, ite_self, hev, hev.rcd, hev.fresh, hev.evt, h_ax, Fin.is_lt]

theorem stopAxis_forget (P : Parts) (s : State) (a : Fin 24) (c : AxCause) (hev : MayRaise P) (h_ops : P.ops = true)
    (h_ax : P.ax = true) :
    forget P (State.stopAxis s a c) = forget P s := by
  unfold State.stopAxis
  try dsimp only
  (repeat' split) <;> first | with_reducible rfl | simp only [failOp_forget, toStopped_forget, Nat.reduceLT,
      ite_forget, ite_self, hev, hev.rcd, hev.fresh, hev.evt, h_ops, h_ax, Fin.is_lt]

theorem raiseArm_forget (P : Parts) (s : State) (b : Fin 8) (hev : MayRaise P) :
    forget P (State.raiseArm s b) = forget P s := by
  unfold State.raiseArm
  try dsimp only
  (repeat' split) <;> first | with_reducible rfl | simp only [evBANK_CFG_lt, raise_forget, Nat.reduceLT, ite_forget,
      ite_self, hev, hev.rcd, hev.fresh, hev.evt, Fin.is_lt]

theorem disarm_forget (P : Parts) (s : State) (t : Nat) (b : Fin 8) (cause : Nat) (stop : AxCause) (hev : MayRaise P)
    (h_ops : P.ops = true) (h_tim : P.tim = true) (h_hb : P.hb = true) (h_bank : P.bank = true) (h_ax : P.ax = true)
    (r_GATE_BSTUVCNT : P.Has .GATE_BSTUVCNT) (r_GATE_FLT : P.Has .GATE_FLT) :
    forget P (State.disarm s t b cause stop) = forget P s := by
  unfold State.disarm
  try dsimp only
  repeat' first
    | with_reducible rfl
    | split
    | (simp only [cutShuntCal_forget, modBank_forget, raiseArm_forget, redriveBank_forget, stopAxis_forget,
        Nat.reduceLT, ite_forget, ite_self, hev, hev.rcd, hev.fresh, hev.evt, h_ops, h_tim, h_hb, h_bank, h_ax,
        r_GATE_BSTUVCNT, r_GATE_FLT, Fin.is_lt]; done)
    | with_reducible refine Eq.trans (each_forget P _ _ (fun s x => ?_) _) ?_
    | (simp only [cutShuntCal_forget, modBank_forget, raiseArm_forget, redriveBank_forget, stopAxis_forget,
        Nat.reduceLT, ite_forget, ite_self, hev, hev.rcd, hev.fresh, hev.evt, h_ops, h_tim, h_hb, h_bank, h_ax,
        r_GATE_BSTUVCNT, r_GATE_FLT, Fin.is_lt])

end Sys2Proof.Laws
end

