-- ==== Sys2Proof/Laws/FramePwm.lean ====
section
/-! SUPPORT. Sys2Proof/Laws/FramePwm.lean: which parts of the state each operation of Machine/Pwm.lean may change. -/
namespace Sys2Proof.Laws
set_option Elab.async false
set_option linter.unusedSimpArgs false
open Sys2Proof.Machine Sys2Proof.Safety

theorem cov_runAddr {P : Parts} (hl : P.Has .PWM_RUN_LO) (hh : P.Has .PWM_RUN_HI) (t : Fin 24) :
    P.covers (runAddr t) = true := by
  unfold runAddr; split
  · exact cov_PWM_RUN_LO hl
  · exact cov_PWM_RUN_HI hh

theorem cov_tim_ctl {P : Parts} (h : P.Has .PWM_CTL) (t : Fin 24) : P.covers (timAddr t 0) = true :=
  cov_PWM_CTL h _ _ (axBank t).isLt (axSlot t).isLt

theorem cov_tim_cmp {P : Parts} (h : P.Has .PWM_CMP) (t : Fin 24) (k : Nat) (hk : k < 3) : P.covers (timAddr t (2 + k)) = true := by
  rw [show timAddr t (2 + k) = A.PWM_CMP (axBank t).val (axSlot t).val k from by
    unfold timAddr A.PWM_CTL A.PWM_CMP; omega]
  exact cov_PWM_CMP h _ _ _ (axBank t).isLt (axSlot t).isLt hk

theorem cov_tim_hr {P : Parts} (h : P.Has .PWM_HR) (t : Fin 24) (k : Nat) (hk : k < 3) : P.covers (timAddr t (5 + k)) = true := by
  rw [show timAddr t (5 + k) = A.PWM_HR (axBank t).val (axSlot t).val k from by
    unfold timAddr A.PWM_CTL A.PWM_HR; omega]
  exact cov_PWM_HR h _ _ _ (axBank t).isLt (axSlot t).isLt hk

theorem cov_tim_chen {P : Parts} (h : P.Has .PWM_CHEN) (t : Fin 24) : P.covers (timAddr t 8) = true := by
  rw [show timAddr t 8 = A.PWM_CHEN (axBank t).val (axSlot t).val from by
    unfold timAddr A.PWM_CTL A.PWM_CHEN; omega]
  exact cov_PWM_CHEN h _ _ (axBank t).isLt (axSlot t).isLt

theorem cov_tim_force {P : Parts} (h : P.Has .PWM_FORCE) (t : Fin 24) : P.covers (timAddr t 14) = true := by
  rw [show timAddr t 14 = A.PWM_FORCE (axBank t).val (axSlot t).val from by
    unfold timAddr A.PWM_CTL A.PWM_FORCE; omega]
  exact cov_PWM_FORCE h _ _ (axBank t).isLt (axSlot t).isLt

theorem cov_tim_armrep {P : Parts} (h : P.Has .PWM_ARMREP) (t : Fin 24) : P.covers (timAddr t 18) = true := by
  rw [show timAddr t 18 = A.PWM_ARMREP (axBank t).val (axSlot t).val from by
    unfold timAddr A.PWM_CTL A.PWM_ARMREP; omega]
  exact cov_PWM_ARMREP h _ _ (axBank t).isLt (axSlot t).isLt

theorem cov_tim_filt {P : Parts} (h : P.Has .PWM_FILTCNT) (t : Fin 24) : P.covers (timAddr t 19) = true := by
  rw [show timAddr t 19 = A.PWM_FILTCNT (axBank t).val (axSlot t).val from by
    unfold timAddr A.PWM_CTL A.PWM_FILTCNT; omega]
  exact cov_PWM_FILTCNT h _ _ (axBank t).isLt (axSlot t).isLt

theorem trigAt_forget (P : Parts) (s : State) (dk di w : Nat) (h_bank : P.bank = true) (h_ax : P.ax = true) (h_lands :
    P.lands = true) :
    forget P (State.trigAt s dk di w) = forget P s := by
  unfold State.trigAt
  try dsimp only
  (repeat' split) <;> first | with_reducible rfl | simp only [modAx_forget, modConv_forget, modLands_forget,
      Nat.reduceLT, ite_forget, ite_self, h_bank, h_ax, h_lands, Fin.is_lt]

theorem trig_forget (P : Parts) (s : State) (sk si w : Nat) (h_bank : P.bank = true) (h_ax : P.ax = true) (h_lands :
    P.lands = true) :
    forget P (State.trig s sk si w) = forget P s := by
  unfold State.trig
  try dsimp only
  repeat' first
    | with_reducible rfl
    | split
    | (simp only [trigAt_forget, Nat.reduceLT, ite_forget, ite_self, h_bank, h_ax, h_lands, Fin.is_lt]; done)
    | with_reducible refine Eq.trans (each_forget P _ _ (fun s x => ?_) _) ?_
    | (simp only [trigAt_forget, Nat.reduceLT, ite_forget, ite_self, h_bank, h_ax, h_lands, Fin.is_lt])

theorem lineOf_forget (P : Parts) (s : State) (t : Fin 24) (r : Fin 3) (h_free : P.free = true) :
    forget P (State.lineOf s t r).1 = forget P s := by
  unfold State.lineOf
  try dsimp only
  (repeat' split) <;> first | with_reducible rfl | simp only [took_forget, Nat.reduceLT, ite_forget, ite_self, h_free,
      Fin.is_lt]

theorem lineOf_eq {P : Parts} (s : State) (t : Fin 24) (r : Fin 3) {t' : State} {v' : Bool} (e : State.lineOf s t r =
    (t', v')) (h_free : P.free = true) :
    forget P t' = forget P s := by
  have := lineOf_forget P s t r h_free
  rwa [e] at this

theorem takeTable_forget (P : Parts) (s : State) (t : Fin 24) (h_tim : P.tim = true) :
    forget P (State.takeTable s t) = forget P s := by
  unfold State.takeTable
  try dsimp only
  (repeat' split) <;> first | with_reducible rfl | simp only [modTim_forget, Nat.reduceLT, ite_forget, ite_self,
      h_tim, Fin.is_lt]

theorem beginPeriod_forget (P : Parts) (s : State) (t : Fin 24) (w : Nat) (act : Vector Word 16) (start : Bool)
    (h_free : P.free = true) (h_tim : P.tim = true) (r_PWM_FILTCNT : P.Has .PWM_FILTCNT) :
    forget P (State.beginPeriod s t w act start) = forget P s := by
  unfold State.beginPeriod
  try dsimp only
  repeat' first
    | with_reducible rfl
    | split
    | (simp only [lineOf_forget, modTim_forget, satAdd_forget, takeTable_forget, cov_tim_filt, Nat.reduceLT,
        ite_forget, ite_self, h_free, h_tim, r_PWM_FILTCNT, Fin.is_lt]; done)
    | with_reducible exact lineOf_eq _ _ _ (by assumption) (by assumption)
    | with_reducible refine Eq.trans (lineOf_eq _ _ _ (by assumption) (by assumption)) ?_
    | with_reducible refine Eq.trans (each_forget P _ _ (fun s x => ?_) _) ?_
    | (simp only [lineOf_forget, modTim_forget, satAdd_forget, takeTable_forget, cov_tim_filt, Nat.reduceLT,
        ite_forget, ite_self, h_free, h_tim, r_PWM_FILTCNT, Fin.is_lt])

theorem freeHbs_forget (P : Parts) (s : State) (t : Fin 24) (h_hb : P.hb = true) :
    forget P (State.freeHbs s t) = forget P s := by
  unfold State.freeHbs
  try dsimp only
  repeat' first
    | with_reducible rfl
    | split
    | (simp only [modHb_forget, Nat.reduceLT, ite_forget, ite_self, h_hb, Fin.is_lt]; done)
    | with_reducible refine Eq.trans (each_forget P _ _ (fun s x => ?_) _) ?_
    | (simp only [modHb_forget, Nat.reduceLT, ite_forget, ite_self, h_hb, Fin.is_lt])

theorem wrap_forget (P : Parts) (s : State) (t : Fin 24) (w : Nat) (h_free : P.free = true) (h_tim : P.tim = true)
    (h_hb : P.hb = true) (h_bank : P.bank = true) (h_ax : P.ax = true) (h_lands : P.lands = true) (r_PWM_FILTCNT :
    P.Has .PWM_FILTCNT) :
    forget P (State.wrap s t w) = forget P s := by
  unfold State.wrap
  try dsimp only
  (repeat' split) <;> first | with_reducible rfl | simp only [beginPeriod_forget, freeHbs_forget, modTim_forget,
      takeTable_forget, trig_forget, Nat.reduceLT, ite_forget, ite_self, h_free, h_tim, h_hb, h_bank, h_ax, h_lands,
      r_PWM_FILTCNT, Fin.is_lt]

theorem startEdge_forget (P : Parts) (s : State) (t : Fin 24) (e : Nat) (h_free : P.free = true) (h_tim : P.tim =
    true) (h_hb : P.hb = true) (h_bank : P.bank = true) (h_ax : P.ax = true) (h_lands : P.lands = true) (r_PWM_FILTCNT
    : P.Has .PWM_FILTCNT) :
    forget P (State.startEdge s t e) = forget P s := by
  unfold State.startEdge
  try dsimp only
  (repeat' split) <;> first | with_reducible rfl | simp only [beginPeriod_forget, freeHbs_forget, modTim_forget,
      trig_forget, Nat.reduceLT, ite_forget, ite_self, h_free, h_tim, h_hb, h_bank, h_ax, h_lands, r_PWM_FILTCNT,
      Fin.is_lt]

theorem armTimer_forget (P : Parts) (s : State) (a : Nat) (t : Fin 24) (hev : MayRaise P) (h_tim : P.tim = true)
    (r_PWM_ARMREP : P.Has .PWM_ARMREP) :
    forget P (State.armTimer s a t) = forget P s := by
  unfold State.armTimer
  try dsimp only
  (repeat' split) <;> first | with_reducible rfl | simp only [evARM_REPLACED_lt, modTim_forget, raise_forget,
      satInc_forget, cov_tim_armrep, Nat.reduceLT, ite_forget, ite_self, hev, hev.rcd, hev.fresh, hev.evt, h_tim,
      r_PWM_ARMREP, Fin.is_lt]

theorem loadAll_forget (P : Parts) (a : Nat) (hi : Bool) (d : Word) (s : State) (hev : MayRaise P) (h_tim : P.tim =
    true) (r_PWM_ARMREP : P.Has .PWM_ARMREP) :
    forget P (loadAll a hi d s) = forget P s := by
  unfold loadAll
  try dsimp only
  repeat' first
    | with_reducible rfl
    | split
    | (simp only [armTimer_forget, Nat.reduceLT, ite_forget, ite_self, hev, hev.rcd, hev.fresh, hev.evt, h_tim,
        r_PWM_ARMREP, Fin.is_lt]; done)
    | with_reducible refine Eq.trans (each_forget P _ _ (fun s x => ?_) _) ?_
    | (simp only [armTimer_forget, Nat.reduceLT, ite_forget, ite_self, hev, hev.rcd, hev.fresh, hev.evt, h_tim,
        r_PWM_ARMREP, Fin.is_lt])

theorem setRun_forget (P : Parts) (s : State) (a : Nat) (t : Fin 24) (v : Bool) (h_tim : P.tim = true) (r_PWM_RUN_HI :
    P.Has .PWM_RUN_HI) (r_PWM_RUN_LO : P.Has .PWM_RUN_LO) :
    forget P (State.setRun s a t v) = forget P s := by
  unfold State.setRun
  try dsimp only
  (repeat' split) <;> first | with_reducible rfl | simp only [modTim_forget, cov_runAddr, wr_forget, Nat.reduceLT,
      ite_forget, ite_self, h_tim, r_PWM_RUN_HI, r_PWM_RUN_LO, Fin.is_lt]

theorem startBank_forget (P : Parts) (s : State) (a : Nat) (b : Fin 8) (h_tim : P.tim = true) :
    forget P (State.startBank s a b) = forget P s := by
  unfold State.startBank
  try dsimp only
  repeat' first
    | with_reducible rfl
    | split
    | (simp only [modTim_forget, Nat.reduceLT, ite_forget, ite_self, h_tim, Fin.is_lt]; done)
    | with_reducible refine Eq.trans (each_forget P _ _ (fun s x => ?_) _) ?_
    | (simp only [modTim_forget, Nat.reduceLT, ite_forget, ite_self, h_tim, Fin.is_lt])

theorem stopBank_forget (P : Parts) (s : State) (b : Fin 8) (h_tim : P.tim = true) :
    forget P (State.stopBank s b) = forget P s := by
  unfold State.stopBank
  try dsimp only
  repeat' first
    | with_reducible rfl
    | split
    | (simp only [modTim_forget, Nat.reduceLT, ite_forget, ite_self, h_tim, Fin.is_lt]; done)
    | with_reducible refine Eq.trans (each_forget P _ _ (fun s x => ?_) _) ?_
    | (simp only [modTim_forget, Nat.reduceLT, ite_forget, ite_self, h_tim, Fin.is_lt])

theorem lineMaps_forget (P : Parts) (s : State) (b : Fin 8) (taps : List (BitVec 6)) (h_free : P.free = true) (h_bank
    : P.bank = true) :
    forget P (State.lineMaps s b taps) = forget P s := by
  unfold State.lineMaps
  try dsimp only
  repeat' first
    | with_reducible rfl
    | split
    | (simp only [modBank_forget, round_forget, Nat.reduceLT, ite_forget, ite_self, h_free, h_bank, Fin.is_lt]; done)
    | with_reducible exact round_eq _ _ (by assumption) (by assumption)
    | with_reducible refine Eq.trans (round_eq _ _ (by assumption) (by assumption)) ?_
    | with_reducible refine Eq.trans (each_forget P _ _ (fun s x => ?_) _) ?_
    | (simp only [modBank_forget, round_forget, Nat.reduceLT, ite_forget, ite_self, h_free, h_bank, Fin.is_lt])

theorem dlcCycle_forget (P : Parts) (b : Fin 8) (ok : Bool) (bias : Byte) (tapdly : Word) (taps : List (BitVec 6)) (s
    : State) (hev : MayRaise P) (h_free : P.free = true) (h_bank : P.bank = true) (r_DLC_BIAS : P.Has .DLC_BIAS)
    (r_DLC_FAILCNT : P.Has .DLC_FAILCNT) (r_DLC_STAT : P.Has .DLC_STAT) (r_DLC_TAPDLY : P.Has .DLC_TAPDLY) (r_DLC_TBL
    : P.Has .DLC_TBL) :
    forget P (dlcCycle b ok bias tapdly taps s) = forget P s := by
  have hw : ∀ s : State, forget P (s.wrs (A.DLC_TBL b.val 0) ((List.range 64).map (fun i => w16 ((taps[i]?.getD
      0).toNat)))) = forget P s := by
    intro s; apply wrs_forget; intro i hi
    have : i < 64 := Nat.lt_of_lt_of_le hi (by simp)
    rw [show A.DLC_TBL b.val 0 + i = A.DLC_TBL b.val (0 + i) from by unfold A.DLC_TBL; omega]; exact cov_DLC_TBL r_DLC_TBL
        _ _ (by omega) (by omega)
  unfold dlcCycle
  try dsimp only
  (repeat' split) <;> first | with_reducible rfl | simp only [evDLCAL_FAULT_lt, lineMaps_forget, modBank_forget,
      raise_forget, satInc_forget, setFlags_forget, wr_forget, cov_DLC_BIAS, cov_DLC_FAILCNT, cov_DLC_STAT,
      cov_DLC_TAPDLY, hw, Nat.reduceLT, ite_forget, ite_self, hev, hev.rcd, hev.fresh, hev.evt, h_free, h_bank,
      r_DLC_BIAS, r_DLC_FAILCNT, r_DLC_STAT, r_DLC_TAPDLY, r_DLC_TBL, Fin.is_lt]

end Sys2Proof.Laws
end

