-- ==== Sys2Proof/Laws/FrameReactions.lean ====
section
/-! SUPPORT. Sys2Proof/Laws/FrameReactions.lean: which parts of the state each operation of Machine/Reactions.lean may change. -/
namespace Sys2Proof.Laws
set_option Elab.async false
set_option linter.unusedSimpArgs false
open Sys2Proof.Machine Sys2Proof.Safety

theorem loseAsc_forget (P : Parts) (s : State) (a : Fin 24) (hev : MayRaise P) (h_ax : P.ax = true) (r_PROT_AXSTAT :
    P.Has .PROT_AXSTAT) :
    forget P (State.loseAsc s a) = forget P s := by
  unfold State.loseAsc
  try dsimp only
  (repeat' split) <;> first | with_reducible rfl | simp only [evPROT_WARN_lt, modAx_forget, raise_forget,
      setFlags_forget, cov_PROT_AXSTAT, Nat.reduceLT, ite_forget, ite_self, hev, hev.rcd, hev.fresh, hev.evt, h_ax,
      r_PROT_AXSTAT, Fin.is_lt]

theorem countCut_forget (P : Parts) (s : State) (h : Fin 72) (hev : MayRaise P) (h_hb : P.hb = true) (r_GATE_BSTUVCNT
    : P.Has .GATE_BSTUVCNT) (r_GATE_FLT : P.Has .GATE_FLT) :
    forget P (State.countCut s h) = forget P s := by
  unfold State.countCut
  try dsimp only
  (repeat' split) <;> first | with_reducible rfl | simp only [bstBlock_forget, Nat.reduceLT, ite_forget, ite_self,
      hev, hev.rcd, hev.fresh, hev.evt, h_hb, r_GATE_BSTUVCNT, r_GATE_FLT, Fin.is_lt]

theorem ascSupply_forget (P : Parts) (s : State) (a : Fin 24) (hev : MayRaise P) (h_hb : P.hb = true) (h_ax : P.ax =
    true) (r_GATE_BSTUVCNT : P.Has .GATE_BSTUVCNT) (r_GATE_FLT : P.Has .GATE_FLT) (r_PROT_AXSTAT : P.Has .PROT_AXSTAT)
    :
    forget P (State.ascSupply s a) = forget P s := by
  unfold State.ascSupply
  try dsimp only
  repeat' first
    | with_reducible rfl
    | split
    | (simp only [countCut_forget, loseAsc_forget, Nat.reduceLT, ite_forget, ite_self, hev, hev.rcd, hev.fresh,
        hev.evt, h_hb, h_ax, r_GATE_BSTUVCNT, r_GATE_FLT, r_PROT_AXSTAT, Fin.is_lt]; done)
    | with_reducible refine Eq.trans (each_forget P _ _ (fun s x => ?_) _) ?_
    | (simp only [countCut_forget, loseAsc_forget, Nat.reduceLT, ite_forget, ite_self, hev, hev.rcd, hev.fresh,
        hev.evt, h_hb, h_ax, r_GATE_BSTUVCNT, r_GATE_FLT, r_PROT_AXSTAT, Fin.is_lt])

theorem sideFor_forget (P : Parts) (s : State) (a : Fin 24) (before : Bool) (hev : MayRaise P) (h_hb : P.hb = true)
    (h_ax : P.ax = true) (r_GATE_BSTUVCNT : P.Has .GATE_BSTUVCNT) (r_GATE_FLT : P.Has .GATE_FLT) (r_PROT_AXSTAT :
    P.Has .PROT_AXSTAT) :
    forget P (State.sideFor s a before) = forget P s := by
  unfold State.sideFor
  try dsimp only
  (repeat' split) <;> first | with_reducible rfl | simp only [ascSupply_forget, modAx_forget, Nat.reduceLT,
      ite_forget, ite_self, hev, hev.rcd, hev.fresh, hev.evt, h_hb, h_ax, r_GATE_BSTUVCNT, r_GATE_FLT, r_PROT_AXSTAT,
      Fin.is_lt]

theorem rejudge_forget (P : Parts) (s : State) (a : Fin 24) (follows : Option Side) (hev : MayRaise P) (h_hb : P.hb =
    true) (h_ax : P.ax = true) (r_GATE_BSTUVCNT : P.Has .GATE_BSTUVCNT) (r_GATE_FLT : P.Has .GATE_FLT) (r_PROT_AXSTAT
    : P.Has .PROT_AXSTAT) :
    forget P (State.rejudge s a follows) = forget P s := by
  unfold State.rejudge
  try dsimp only
  (repeat' split) <;> first | with_reducible rfl | simp only [ascSupply_forget, loseAsc_forget, modAx_forget,
      Nat.reduceLT, ite_forget, ite_self, hev, hev.rcd, hev.fresh, hev.evt, h_hb, h_ax, r_GATE_BSTUVCNT, r_GATE_FLT,
      r_PROT_AXSTAT, Fin.is_lt]

theorem bankCause_forget (P : Parts) (s : State) (t : Nat) (b : Fin 8) (f : Bank → Bank) (hev : MayRaise P) (h_tim :
    P.tim = true) (h_hb : P.hb = true) (h_bank : P.bank = true) (h_ax : P.ax = true) (r_GATE_BSTUVCNT : P.Has
    .GATE_BSTUVCNT) (r_GATE_FLT : P.Has .GATE_FLT) (r_PROT_AXSTAT : P.Has .PROT_AXSTAT) :
    forget P (State.bankCause s t b f) = forget P s := by
  unfold State.bankCause
  try dsimp only
  repeat' first
    | with_reducible rfl
    | split
    | (simp only [modBank_forget, sideFor_forget, Nat.reduceLT, ite_forget, ite_self, hev, hev.rcd, hev.fresh,
        hev.evt, h_tim, h_hb, h_bank, h_ax, r_GATE_BSTUVCNT, r_GATE_FLT, r_PROT_AXSTAT, Fin.is_lt]; done)
    | with_reducible refine Eq.trans (reRow2_forget P _ _ _ _ hev h_tim h_hb h_bank r_GATE_BSTUVCNT r_GATE_FLT
        (fun s => ?_)) ?_
    | with_reducible refine Eq.trans (each_forget P _ _ (fun s x => ?_) _) ?_
    | (simp only [modBank_forget, sideFor_forget, Nat.reduceLT, ite_forget, ite_self, hev, hev.rcd, hev.fresh,
        hev.evt, h_tim, h_hb, h_bank, h_ax, r_GATE_BSTUVCNT, r_GATE_FLT, r_PROT_AXSTAT, Fin.is_lt])

theorem stopByFault_forget (P : Parts) (s : State) (b : Fin 8) (hev : MayRaise P) (h_ops : P.ops = true) (h_ax : P.ax
    = true) :
    forget P (State.stopByFault s b) = forget P s := by
  unfold State.stopByFault
  try dsimp only
  repeat' first
    | with_reducible rfl
    | split
    | (simp only [cutShuntCal_forget, stopAxis_forget, Nat.reduceLT, ite_forget, ite_self, hev, hev.rcd, hev.fresh,
        hev.evt, h_ops, h_ax, Fin.is_lt]; done)
    | with_reducible refine Eq.trans (each_forget P _ _ (fun s x => ?_) _) ?_
    | (simp only [cutShuntCal_forget, stopAxis_forget, Nat.reduceLT, ite_forget, ite_self, hev, hev.rcd, hev.fresh,
        hev.evt, h_ops, h_ax, Fin.is_lt])

theorem takeReaction_forget (P : Parts) (s : State) (a : Fin 24) (h : Fin 72) (side : Side) (hev : MayRaise P) (h_hb :
    P.hb = true) (h_ax : P.ax = true) (r_GATE_BSTUVCNT : P.Has .GATE_BSTUVCNT) (r_GATE_FLT : P.Has .GATE_FLT)
    (r_PROT_AXSTAT : P.Has .PROT_AXSTAT) :
    forget P (State.takeReaction s a h side) = forget P s := by
  unfold State.takeReaction
  try dsimp only
  (repeat' split) <;> first | with_reducible rfl | simp only [ascSupply_forget, modAx_forget, modHb_forget,
      Nat.reduceLT, ite_forget, ite_self, hev, hev.rcd, hev.fresh, hev.evt, h_hb, h_ax, r_GATE_BSTUVCNT, r_GATE_FLT,
      r_PROT_AXSTAT, Fin.is_lt]

theorem engineFault_forget (P : Parts) (s : State) (a : Fin 24) (r : Fin 3) (hev : MayRaise P) (h_ops : P.ops = true)
    (h_ax : P.ax = true) :
    forget P (State.engineFault s a r) = forget P s := by
  unfold State.engineFault
  try dsimp only
  (repeat' split) <;> first | with_reducible rfl | simp only [modAx_forget, stopAxis_forget, Nat.reduceLT, ite_forget,
      ite_self, hev, hev.rcd, hev.fresh, hev.evt, h_ops, h_ax, Fin.is_lt]

theorem softOff_forget (P : Parts) (s : State) (t : Nat) (h : Fin 72) (side : Side) (h_hb : P.hb = true) (h_bank :
    P.bank = true) :
    forget P (State.softOff s t h side) = forget P s := by
  unfold State.softOff
  try dsimp only
  repeat' first
    | with_reducible rfl
    | split
    | (simp only [modGate_forget, turnOff_forget, Nat.reduceLT, ite_forget, ite_self, h_hb, h_bank, Fin.is_lt]; done)
    | with_reducible refine Eq.trans (each_forget P _ _ (fun s x => ?_) _) ?_
    | (simp only [modGate_forget, turnOff_forget, Nat.reduceLT, ite_forget, ite_self, h_hb, h_bank, Fin.is_lt])

theorem axisReaction_forget (P : Parts) (s : State) (t : Nat) (h : Fin 72) (side : Side) (stuck : Bool) (hev :
    MayRaise P) (h_ops : P.ops = true) (h_tim : P.tim = true) (h_hb : P.hb = true) (h_bank : P.bank = true) (h_ax :
    P.ax = true) (r_GATE_BSTUVCNT : P.Has .GATE_BSTUVCNT) (r_GATE_FLT : P.Has .GATE_FLT) (r_PROT_AXSTAT : P.Has
    .PROT_AXSTAT) :
    forget P (State.axisReaction s t h side stuck) = forget P s := by
  unfold State.axisReaction
  try dsimp only
  repeat' first
    | with_reducible rfl
    | split
    | (simp only [cutShuntCal_forget, engineFault_forget, modHb_forget, rejudge_forget, softOff_forget,
        takeReaction_forget, Nat.reduceLT, ite_forget, ite_self, hev, hev.rcd, hev.fresh, hev.evt, h_ops, h_tim, h_hb,
        h_bank, h_ax, r_GATE_BSTUVCNT, r_GATE_FLT, r_PROT_AXSTAT, Fin.is_lt]; done)
    | with_reducible refine Eq.trans (reRow2_forget P _ _ _ _ hev h_tim h_hb h_bank r_GATE_BSTUVCNT r_GATE_FLT
        (fun s => ?_)) ?_
    | with_reducible refine Eq.trans (each_forget P _ _ (fun s x => ?_) _) ?_
    | (simp only [cutShuntCal_forget, engineFault_forget, modHb_forget, rejudge_forget, softOff_forget,
        takeReaction_forget, Nat.reduceLT, ite_forget, ite_self, hev, hev.rcd, hev.fresh, hev.evt, h_ops, h_tim, h_hb,
        h_bank, h_ax, r_GATE_BSTUVCNT, r_GATE_FLT, r_PROT_AXSTAT, Fin.is_lt])

theorem detect_forget (P : Parts) (s : State) (t : Nat) (h : Fin 72) (side : Side) (k : Nat) (hev : MayRaise P) (h_ops
    : P.ops = true) (h_tim : P.tim = true) (h_hb : P.hb = true) (h_bank : P.bank = true) (h_ax : P.ax = true)
    (r_GATE_BSTUVCNT : P.Has .GATE_BSTUVCNT) (r_GATE_FLT : P.Has .GATE_FLT) (r_PROT_AXSTAT : P.Has .PROT_AXSTAT)
    (r_PROT_CHFLT : P.Has .PROT_CHFLT) :
    forget P (State.detect s t h side k) = forget P s := by
  unfold State.detect
  try dsimp only
  (repeat' split) <;> first | with_reducible rfl | simp only [axisReaction_forget, evPS_SHORT_lt, raise_forget,
      setFlags_forget, wr_forget, cov_PROT_CHFLT, Nat.reduceLT, ite_forget, ite_self, hev, hev.rcd, hev.fresh,
      hev.evt, h_ops, h_tim, h_hb, h_bank, h_ax, r_GATE_BSTUVCNT, r_GATE_FLT, r_PROT_AXSTAT, r_PROT_CHFLT, Fin.is_lt]

theorem releaseFaults_forget (P : Parts) (s : State) (t : Nat) (b : Fin 8) (hev : MayRaise P) (h_tim : P.tim = true)
    (h_hb : P.hb = true) (h_bank : P.bank = true) (h_ax : P.ax = true) (r_GATE_BSTUVCNT : P.Has .GATE_BSTUVCNT)
    (r_GATE_FLT : P.Has .GATE_FLT) :
    forget P (State.releaseFaults s t b) = forget P s := by
  unfold State.releaseFaults
  try dsimp only
  repeat' first
    | with_reducible rfl
    | split
    | (simp only [modAx_forget, modHb_forget, Nat.reduceLT, ite_forget, ite_self, hev, hev.rcd, hev.fresh, hev.evt,
        h_tim, h_hb, h_bank, h_ax, r_GATE_BSTUVCNT, r_GATE_FLT, Fin.is_lt]; done)
    | with_reducible refine Eq.trans (reRow2_forget P _ _ _ _ hev h_tim h_hb h_bank r_GATE_BSTUVCNT r_GATE_FLT
        (fun s => ?_)) ?_
    | with_reducible refine Eq.trans (each_forget P _ _ (fun s x => ?_) _) ?_
    | (simp only [modAx_forget, modHb_forget, Nat.reduceLT, ite_forget, ite_self, hev, hev.rcd, hev.fresh, hev.evt,
        h_tim, h_hb, h_bank, h_ax, r_GATE_BSTUVCNT, r_GATE_FLT, Fin.is_lt])

theorem gateCheck_forget (P : Parts) (s : State) (t : Nat) (b : Fin 8) (h_pair : P.pair = true) :
    forget P (State.gateCheck s t b) = forget P s := by
  unfold State.gateCheck
  try dsimp only
  (repeat' split) <;> first | with_reducible rfl | simp only [modPair_forget, Nat.reduceLT, ite_forget, ite_self,
      h_pair, Fin.is_lt]

theorem refloatAll_forget (P : Parts) (s : State) (t : Nat) (hev : MayRaise P) (h_tim : P.tim = true) (h_hb : P.hb =
    true) (h_bank : P.bank = true) (h_pair : P.pair = true) (r_GATE_BSTUVCNT : P.Has .GATE_BSTUVCNT) (r_GATE_FLT :
    P.Has .GATE_FLT) :
    forget P (State.refloatAll s t) = forget P s := by
  unfold State.refloatAll
  try dsimp only
  repeat' first
    | with_reducible rfl
    | split
    | (simp only [gateCheck_forget, refloat_forget, Nat.reduceLT, ite_forget, ite_self, hev, hev.rcd, hev.fresh,
        hev.evt, h_tim, h_hb, h_bank, h_pair, r_GATE_BSTUVCNT, r_GATE_FLT, Fin.is_lt]; done)
    | with_reducible refine Eq.trans (each_forget P _ _ (fun s x => ?_) _) ?_
    | (simp only [gateCheck_forget, refloat_forget, Nat.reduceLT, ite_forget, ite_self, hev, hev.rcd, hev.fresh,
        hev.evt, h_tim, h_hb, h_bank, h_pair, r_GATE_BSTUVCNT, r_GATE_FLT, Fin.is_lt])

theorem endHold_forget (P : Parts) (s : State) (t : Nat) (b : Fin 8) (hev : MayRaise P) (h_tim : P.tim = true) (h_hb :
    P.hb = true) (h_bank : P.bank = true) (h_ax : P.ax = true) (r_GATE_BSTUVCNT : P.Has .GATE_BSTUVCNT) (r_GATE_FLT :
    P.Has .GATE_FLT) (r_PROT_AXSTAT : P.Has .PROT_AXSTAT) :
    forget P (State.endHold s t b) = forget P s := by
  unfold State.endHold
  try dsimp only
  (repeat' split) <;> first | with_reducible rfl | simp only [bankCause_forget, refloat_forget, Nat.reduceLT,
      ite_forget, ite_self, hev, hev.rcd, hev.fresh, hev.evt, h_tim, h_hb, h_bank, h_ax, r_GATE_BSTUVCNT, r_GATE_FLT,
      r_PROT_AXSTAT, Fin.is_lt]

theorem releaseOwner_forget (P : Parts) (s : State) (t : Nat) (cause : Nat) (hev : MayRaise P) (h_tim : P.tim = true)
    (h_hb : P.hb = true) (h_bank : P.bank = true) (h_pair : P.pair = true) (r_GATE_BSTUVCNT : P.Has .GATE_BSTUVCNT)
    (r_GATE_FLT : P.Has .GATE_FLT) :
    forget P (State.releaseOwner s t cause) = forget P s := by
  unfold State.releaseOwner
  try dsimp only
  (repeat' split) <;> first | with_reducible rfl | simp only [evPAIR_OWNER_lt, modPair_forget, raise_forget,
      refloatAll_forget, Nat.reduceLT, ite_forget, ite_self, hev, hev.rcd, hev.fresh, hev.evt, h_tim, h_hb, h_bank,
      h_pair, r_GATE_BSTUVCNT, r_GATE_FLT, Fin.is_lt]

theorem contention_forget (P : Parts) (s : State) (t : Nat) (h : Fin 72) (hev : MayRaise P) (h_ops : P.ops = true)
    (h_tim : P.tim = true) (h_hb : P.hb = true) (h_bank : P.bank = true) (h_ax : P.ax = true) (h_pair : P.pair = true)
    (r_GATE_BSTUVCNT : P.Has .GATE_BSTUVCNT) (r_GATE_FLT : P.Has .GATE_FLT) :
    forget P (State.contention s t h) = forget P s := by
  unfold State.contention
  try dsimp only
  repeat' first
    | with_reducible rfl
    | split
    | (simp only [disarm_forget, evCONTENTION_lt, modPair_forget, raise_forget, refloatAll_forget,
        releaseOwner_forget, Nat.reduceLT, ite_forget, ite_self, hev, hev.rcd, hev.fresh, hev.evt, h_ops, h_tim, h_hb,
        h_bank, h_ax, h_pair, r_GATE_BSTUVCNT, r_GATE_FLT, Fin.is_lt]; done)
    | with_reducible refine Eq.trans (each_forget P _ _ (fun s x => ?_) _) ?_
    | (simp only [disarm_forget, evCONTENTION_lt, modPair_forget, raise_forget, refloatAll_forget,
        releaseOwner_forget, Nat.reduceLT, ite_forget, ite_self, hev, hev.rcd, hev.fresh, hev.evt, h_ops, h_tim, h_hb,
        h_bank, h_ax, h_pair, r_GATE_BSTUVCNT, r_GATE_FLT, Fin.is_lt])

end Sys2Proof.Laws
end

