-- ==== Sys2Proof/Laws/FrameGates.lean ====
section
/-! SUPPORT. Sys2Proof/Laws/FrameGates.lean: which parts of the state each operation of Machine/Gates.lean may change. -/
namespace Sys2Proof.Laws
set_option Elab.async false
set_option linter.unusedSimpArgs false
open Sys2Proof.Machine Sys2Proof.Safety

theorem turnOn_forget (P : Parts) (s : State) (t : Nat) (h : Fin 72) (side : Side) (h_hb : P.hb = true) (h_bank :
    P.bank = true) :
    forget P (State.turnOn s t h side) = forget P s := by
  unfold State.turnOn
  try dsimp only
  (repeat' split) <;> first | with_reducible rfl | simp only [modGate_forget, openBlank_forget, Nat.reduceLT,
      ite_forget, ite_self, h_hb, h_bank, Fin.is_lt]

theorem gateOffSensed_forget (P : Parts) (t : Nat) (h : Fin 72) (side : Side) (s : State) (h_hb : P.hb = true) (h_pair
    : P.pair = true) :
    forget P (gateOffSensed t h side s) = forget P s := by
  unfold gateOffSensed
  try dsimp only
  (repeat' split) <;> first | with_reducible rfl | simp only [gateCheck_forget, modGate_forget, Nat.reduceLT,
      ite_forget, ite_self, h_hb, h_pair, Fin.is_lt]

theorem gateStuck_forget (P : Parts) (t : Nat) (h : Fin 72) (side : Side) (s : State) (hev : MayRaise P) (h_ops :
    P.ops = true) (h_tim : P.tim = true) (h_hb : P.hb = true) (h_bank : P.bank = true) (h_ax : P.ax = true)
    (r_GATE_BSTUVCNT : P.Has .GATE_BSTUVCNT) (r_GATE_FLT : P.Has .GATE_FLT) (r_PROT_AXSTAT : P.Has .PROT_AXSTAT) :
    forget P (gateStuck t h side s) = forget P s := by
  unfold gateStuck
  try dsimp only
  (repeat' split) <;> first | with_reducible rfl | simp only [axisReaction_forget, deliver_forget, evGATE_STUCK_lt,
      modGate_forget, raise_forget, setFlags_forget, cov_GATE_FLT, Nat.reduceLT, ite_forget, ite_self, hev, hev.rcd,
      hev.fresh, hev.evt, h_ops, h_tim, h_hb, h_bank, h_ax, r_GATE_BSTUVCNT, r_GATE_FLT, r_PROT_AXSTAT, Fin.is_lt]

theorem gateFgn_forget (P : Parts) (t : Nat) (h : Fin 72) (side : Side) (s : State) (hev : MayRaise P) (h_ops : P.ops
    = true) (h_tim : P.tim = true) (h_hb : P.hb = true) (h_bank : P.bank = true) (h_ax : P.ax = true) (h_pair : P.pair
    = true) (r_GATE_BSTUVCNT : P.Has .GATE_BSTUVCNT) (r_GATE_FLT : P.Has .GATE_FLT) :
    forget P (gateFgn t h side s) = forget P s := by
  unfold gateFgn
  try dsimp only
  (repeat' split) <;> first | with_reducible rfl | simp only [contention_forget, evGATE_FGN_lt, gateCheck_forget,
      modGate_forget, raise_forget, setFlags_forget, cov_GATE_FLT, Nat.reduceLT, ite_forget, ite_self, hev, hev.rcd,
      hev.fresh, hev.evt, h_ops, h_tim, h_hb, h_bank, h_ax, h_pair, r_GATE_BSTUVCNT, r_GATE_FLT, Fin.is_lt]

theorem leaveFloat_forget (P : Parts) (s : State) (t : Nat) (b : Fin 8) (hev : MayRaise P) (h_tim : P.tim = true)
    (h_hb : P.hb = true) (h_bank : P.bank = true) (r_GATE_BSTUVCNT : P.Has .GATE_BSTUVCNT) (r_GATE_FLT : P.Has
    .GATE_FLT) :
    forget P (State.leaveFloat s t b) = forget P s := by
  unfold State.leaveFloat
  try dsimp only
  (repeat' split) <;> first | with_reducible rfl | simp only [enableStages_forget, modBank_forget, redriveBank_forget,
      Nat.reduceLT, ite_forget, ite_self, hev, hev.rcd, hev.fresh, hev.evt, h_tim, h_hb, h_bank, r_GATE_BSTUVCNT,
      r_GATE_FLT, Fin.is_lt]

theorem vdrvUv_forget (P : Parts) (t : Nat) (b : Fin 8) (s : State) (hev : MayRaise P) (h_tim : P.tim = true) (h_hb :
    P.hb = true) (h_bank : P.bank = true) (h_ax : P.ax = true) (r_GATE_BSTUVCNT : P.Has .GATE_BSTUVCNT) (r_GATE_FLT :
    P.Has .GATE_FLT) (r_GSUP_FLT : P.Has .GSUP_FLT) (r_PROT_AXSTAT : P.Has .PROT_AXSTAT) :
    forget P (vdrvUv t b s) = forget P s := by
  unfold vdrvUv
  try dsimp only
  (repeat' split) <;> first | with_reducible rfl | simp only [bankCause_forget, endHold_forget, evGATE_UV_lt,
      modBank_forget, raise_forget, setFlags_forget, cov_GSUP_FLT, Nat.reduceLT, ite_forget, ite_self, hev, hev.rcd,
      hev.fresh, hev.evt, h_tim, h_hb, h_bank, h_ax, r_GATE_BSTUVCNT, r_GATE_FLT, r_GSUP_FLT, r_PROT_AXSTAT,
      Fin.is_lt]

theorem vcpUv_forget (P : Parts) (t : Nat) (b : Fin 8) (s : State) (hev : MayRaise P) (h_tim : P.tim = true) (h_hb :
    P.hb = true) (h_bank : P.bank = true) (h_ax : P.ax = true) (r_GATE_BSTUVCNT : P.Has .GATE_BSTUVCNT) (r_GATE_FLT :
    P.Has .GATE_FLT) (r_GSUP_FLT : P.Has .GSUP_FLT) (r_PROT_AXSTAT : P.Has .PROT_AXSTAT) :
    forget P (vcpUv t b s) = forget P s := by
  unfold vcpUv
  try dsimp only
  repeat' first
    | with_reducible rfl
    | split
    | (simp only [bankCause_forget, evGATE_UV_lt, loseAsc_forget, modAx_forget, modBank_forget, raise_forget,
        rejudge_forget, setFlags_forget, cov_GSUP_FLT, Nat.reduceLT, ite_forget, ite_self, hev, hev.rcd, hev.fresh,
        hev.evt, h_tim, h_hb, h_bank, h_ax, r_GATE_BSTUVCNT, r_GATE_FLT, r_GSUP_FLT, r_PROT_AXSTAT, Fin.is_lt]; done)
    | with_reducible refine Eq.trans (reRow2_forget P _ _ _ _ hev h_tim h_hb h_bank r_GATE_BSTUVCNT r_GATE_FLT
        (fun s => ?_)) ?_
    | with_reducible refine Eq.trans (each_forget P _ _ (fun s x => ?_) _) ?_
    | (simp only [bankCause_forget, evGATE_UV_lt, loseAsc_forget, modAx_forget, modBank_forget, raise_forget,
        rejudge_forget, setFlags_forget, cov_GSUP_FLT, Nat.reduceLT, ite_forget, ite_self, hev, hev.rcd, hev.fresh,
        hev.evt, h_tim, h_hb, h_bank, h_ax, r_GATE_BSTUVCNT, r_GATE_FLT, r_GSUP_FLT, r_PROT_AXSTAT, Fin.is_lt])

theorem bstUv_forget (P : Parts) (t : Nat) (h : Fin 72) (s : State) (hev : MayRaise P) (h_tim : P.tim = true) (h_hb :
    P.hb = true) (h_bank : P.bank = true) (h_ax : P.ax = true) (r_GATE_BSTUVCNT : P.Has .GATE_BSTUVCNT) (r_GATE_FLT :
    P.Has .GATE_FLT) (r_PROT_AXSTAT : P.Has .PROT_AXSTAT) :
    forget P (bstUv t h s) = forget P s := by
  unfold bstUv
  try dsimp only
  repeat' first
    | with_reducible rfl
    | split
    | (simp only [ascSupply_forget, countCut_forget, modHb_forget, redrive_forget, Nat.reduceLT, ite_forget, ite_self,
        hev, hev.rcd, hev.fresh, hev.evt, h_tim, h_hb, h_bank, h_ax, r_GATE_BSTUVCNT, r_GATE_FLT, r_PROT_AXSTAT,
        Fin.is_lt]; done)
    | with_reducible refine Eq.trans (reRow2_forget P _ _ _ _ hev h_tim h_hb h_bank r_GATE_BSTUVCNT r_GATE_FLT
        (fun s => ?_)) ?_
    | with_reducible refine Eq.trans (each_forget P _ _ (fun s x => ?_) _) ?_
    | (simp only [ascSupply_forget, countCut_forget, modHb_forget, redrive_forget, Nat.reduceLT, ite_forget, ite_self,
        hev, hev.rcd, hev.fresh, hev.evt, h_tim, h_hb, h_bank, h_ax, r_GATE_BSTUVCNT, r_GATE_FLT, r_PROT_AXSTAT,
        Fin.is_lt])

theorem supplyRise_forget (P : Parts) (which : Fin 3) (i : Fin 72) (s : State) (h_hb : P.hb = true) (h_bank : P.bank =
    true) :
    forget P (supplyRise which i s) = forget P s := by
  unfold supplyRise
  try dsimp only
  (repeat' split) <;> first | with_reducible rfl | simp only [modBank_forget, modHb_forget, Nat.reduceLT, ite_forget,
      ite_self, h_hb, h_bank, Fin.is_lt]

theorem gsupFltClear_forget (P : Parts) (b : Fin 8) (d : Word) (s : State) (hev : MayRaise P) (h_tim : P.tim = true)
    (h_hb : P.hb = true) (h_bank : P.bank = true) (h_ax : P.ax = true) (r_GATE_BSTUVCNT : P.Has .GATE_BSTUVCNT)
    (r_GATE_FLT : P.Has .GATE_FLT) (r_GSUP_FLT : P.Has .GSUP_FLT) (r_PROT_AXSTAT : P.Has .PROT_AXSTAT) :
    forget P (gsupFltClear b d s) = forget P s := by
  unfold gsupFltClear
  try dsimp only
  (repeat' split) <;> first | with_reducible rfl | simp only [bankCause_forget, clrFlags_forget, cov_GSUP_FLT,
      Nat.reduceLT, ite_forget, ite_self, hev, hev.rcd, hev.fresh, hev.evt, h_tim, h_hb, h_bank, h_ax,
      r_GATE_BSTUVCNT, r_GATE_FLT, r_GSUP_FLT, r_PROT_AXSTAT, Fin.is_lt]

theorem passes_forget (P : Parts) (s : State) (width lo hi : Nat) (h_free : P.free = true) :
    forget P (State.passes s width lo hi).1 = forget P s := by
  unfold State.passes
  try dsimp only
  (repeat' split) <;> first | with_reducible rfl | simp only [took_forget, Nat.reduceLT, ite_forget, ite_self, h_free,
      Fin.is_lt]

theorem passes_eq {P : Parts} (s : State) (width lo hi : Nat) {t' : State} {v' : Bool} (e : State.passes s width lo hi
    = (t', v')) (h_free : P.free = true) :
    forget P t' = forget P s := by
  have := passes_forget P s width lo hi h_free
  rwa [e] at this

theorem setDdp_forget (P : Parts) (s : State) (en : Bool) (i : Fin 9) (level : Bool) (h_lands : P.lands = true) :
    forget P (State.setDdp s en i level) = forget P s := by
  unfold State.setDdp
  try dsimp only
  (repeat' split) <;> first | with_reducible rfl | simp only [modLands_forget, Nat.reduceLT, ite_forget, ite_self,
      h_lands, Fin.is_lt]

end Sys2Proof.Laws
end

