-- ==== Sys2Proof/Laws/FrameProtect.lean ====
section
/-! SUPPORT. Sys2Proof/Laws/FrameProtect.lean: which parts of the state each operation of Machine/Protect.lean may change. -/
namespace Sys2Proof.Laws
set_option Elab.async false
set_option linter.unusedSimpArgs false
open Sys2Proof.Machine Sys2Proof.Safety

theorem protChfltClear_forget (P : Parts) (b : Fin 8) (i : Fin 9) (d : Word) (s : State) (hev : MayRaise P) (h_tim :
    P.tim = true) (h_hb : P.hb = true) (h_bank : P.bank = true) (h_ax : P.ax = true) (r_GATE_BSTUVCNT : P.Has
    .GATE_BSTUVCNT) (r_GATE_FLT : P.Has .GATE_FLT) (r_PROT_CHFLT : P.Has .PROT_CHFLT) :
    forget P (protChfltClear b i d s) = forget P s := by
  unfold protChfltClear
  try dsimp only
  (repeat' split) <;> first | with_reducible rfl | simp only [clrFlags_forget, releaseFaults_forget, wr_forget,
      cov_PROT_CHFLT, Nat.reduceLT, ite_forget, ite_self, hev, hev.rcd, hev.fresh, hev.evt, h_tim, h_hb, h_bank, h_ax,
      r_GATE_BSTUVCNT, r_GATE_FLT, r_PROT_CHFLT, Fin.is_lt]

theorem tripRecognised_forget (P : Parts) (t : Nat) (b : Fin 8) (s : State) (hev : MayRaise P) (h_ops : P.ops = true)
    (h_tim : P.tim = true) (h_hb : P.hb = true) (h_bank : P.bank = true) (h_ax : P.ax = true) (r_GATE_BSTUVCNT : P.Has
    .GATE_BSTUVCNT) (r_GATE_FLT : P.Has .GATE_FLT) (r_PROT_AXSTAT : P.Has .PROT_AXSTAT) (r_PROT_BFLT : P.Has
    .PROT_BFLT) :
    forget P (tripRecognised t b s) = forget P s := by
  unfold tripRecognised
  try dsimp only
  (repeat' split) <;> first | with_reducible rfl | simp only [bankCause_forget, evBANK_TRIP_lt, modBank_forget,
      raise_forget, setFlags_forget, stopByFault_forget, cov_PROT_BFLT, Nat.reduceLT, ite_forget, ite_self, hev,
      hev.rcd, hev.fresh, hev.evt, h_ops, h_tim, h_hb, h_bank, h_ax, r_GATE_BSTUVCNT, r_GATE_FLT, r_PROT_AXSTAT,
      r_PROT_BFLT, Fin.is_lt]

theorem tripRelease_forget (P : Parts) (b : Fin 8) (s : State) (hev : MayRaise P) (h_tim : P.tim = true) (h_hb : P.hb
    = true) (h_bank : P.bank = true) (h_ax : P.ax = true) (r_GATE_BSTUVCNT : P.Has .GATE_BSTUVCNT) (r_GATE_FLT : P.Has
    .GATE_FLT) (r_PROT_AXSTAT : P.Has .PROT_AXSTAT) :
    forget P (tripRelease b s) = forget P s := by
  unfold tripRelease
  try dsimp only
  (repeat' split) <;> first | with_reducible rfl | simp only [bankCause_forget, modBank_forget, Nat.reduceLT,
      ite_forget, ite_self, hev, hev.rcd, hev.fresh, hev.evt, h_tim, h_hb, h_bank, h_ax, r_GATE_BSTUVCNT, r_GATE_FLT,
      r_PROT_AXSTAT, Fin.is_lt]

theorem limitHb_forget (P : Parts) (t : Nat) (h : Fin 72) (c : HbCmd) (s : State) (hev : MayRaise P) (h_tim : P.tim =
    true) (h_hb : P.hb = true) (h_bank : P.bank = true) (r_GATE_BSTUVCNT : P.Has .GATE_BSTUVCNT) (r_GATE_FLT : P.Has
    .GATE_FLT) (r_PROT_BFLT : P.Has .PROT_BFLT) (r_PROT_CHFLT : P.Has .PROT_CHFLT) (r_PROT_ILIMCNT : P.Has
    .PROT_ILIMCNT) :
    forget P (limitHb t h c s) = forget P s := by
  unfold limitHb
  try dsimp only
  (repeat' split) <;> first | with_reducible rfl | simp only [evPROT_WARN_lt, modHb_forget, raise_forget,
      redrive_forget, satInc_forget, setFlags_forget, cov_PROT_BFLT, cov_PROT_CHFLT, cov_PROT_ILIMCNT, Nat.reduceLT,
      ite_forget, ite_self, hev, hev.rcd, hev.fresh, hev.evt, h_tim, h_hb, h_bank, r_GATE_BSTUVCNT, r_GATE_FLT,
      r_PROT_BFLT, r_PROT_CHFLT, r_PROT_ILIMCNT, Fin.is_lt]

theorem chopperOff_forget (P : Parts) (t : Nat) (b : Fin 8) (s : State) (hev : MayRaise P) (h_tim : P.tim = true)
    (h_hb : P.hb = true) (h_bank : P.bank = true) (h_ax : P.ax = true) (r_GATE_BSTUVCNT : P.Has .GATE_BSTUVCNT)
    (r_GATE_FLT : P.Has .GATE_FLT) (r_PROT_AXSTAT : P.Has .PROT_AXSTAT) :
    forget P (chopperOff t b s) = forget P s := by
  unfold chopperOff
  try dsimp only
  (repeat' split) <;> first | with_reducible rfl | simp only [bankCause_forget, modBank_forget, redriveBank_forget,
      Nat.reduceLT, ite_forget, ite_self, hev, hev.rcd, hev.fresh, hev.evt, h_tim, h_hb, h_bank, h_ax,
      r_GATE_BSTUVCNT, r_GATE_FLT, r_PROT_AXSTAT, Fin.is_lt]

theorem vov2_forget (P : Parts) (t : Nat) (b : Fin 8) (s : State) (hev : MayRaise P) (h_ops : P.ops = true) (h_tim :
    P.tim = true) (h_hb : P.hb = true) (h_bank : P.bank = true) (h_ax : P.ax = true) (r_GATE_BSTUVCNT : P.Has
    .GATE_BSTUVCNT) (r_GATE_FLT : P.Has .GATE_FLT) (r_PROT_AXSTAT : P.Has .PROT_AXSTAT) (r_PROT_BFLT : P.Has
    .PROT_BFLT) :
    forget P (vov2 t b s) = forget P s := by
  unfold vov2
  try dsimp only
  (repeat' split) <;> first | with_reducible rfl | simp only [bankCause_forget, evBANK_TRIP_lt, modBank_forget,
      raise_forget, setFlags_forget, stopByFault_forget, cov_PROT_BFLT, Nat.reduceLT, ite_forget, ite_self, hev,
      hev.rcd, hev.fresh, hev.evt, h_ops, h_tim, h_hb, h_bank, h_ax, r_GATE_BSTUVCNT, r_GATE_FLT, r_PROT_AXSTAT,
      r_PROT_BFLT, Fin.is_lt]

theorem ots_forget (P : Parts) (t : Nat) (b : Fin 8) (s : State) (hev : MayRaise P) (h_ops : P.ops = true) (h_tim :
    P.tim = true) (h_hb : P.hb = true) (h_bank : P.bank = true) (h_ax : P.ax = true) (r_GATE_BSTUVCNT : P.Has
    .GATE_BSTUVCNT) (r_GATE_FLT : P.Has .GATE_FLT) (r_PROT_AXSTAT : P.Has .PROT_AXSTAT) (r_PROT_BFLT : P.Has
    .PROT_BFLT) :
    forget P (ots t b s) = forget P s := by
  unfold ots
  try dsimp only
  (repeat' split) <;> first | with_reducible rfl | simp only [bankCause_forget, evBANK_TRIP_lt, raise_forget,
      setFlags_forget, stopByFault_forget, cov_PROT_BFLT, Nat.reduceLT, ite_forget, ite_self, hev, hev.rcd, hev.fresh,
      hev.evt, h_ops, h_tim, h_hb, h_bank, h_ax, r_GATE_BSTUVCNT, r_GATE_FLT, r_PROT_AXSTAT, r_PROT_BFLT, Fin.is_lt]

theorem cooled_forget (P : Parts) (s : State) (b : Fin 8) (h_free : P.free = true) :
    forget P (State.cooled s b).1 = forget P s := by
  unfold State.cooled
  try dsimp only
  repeat' first
    | with_reducible rfl
    | split
    | (simp only [took_forget, Nat.reduceLT, ite_forget, ite_self, h_free, Fin.is_lt]; done)
    | with_reducible refine Eq.trans (each_forget P _ _ (fun s x => ?_) _) ?_
    | (simp only [took_forget, Nat.reduceLT, ite_forget, ite_self, h_free, Fin.is_lt])

theorem cooled_eq {P : Parts} (s : State) (b : Fin 8) {t' : State} {v' : Bool} (e : State.cooled s b = (t', v'))
    (h_free : P.free = true) :
    forget P t' = forget P s := by
  have := cooled_forget P s b h_free
  rwa [e] at this

theorem judgeOts_forget (P : Parts) (s : State) (t : Nat) (b : Fin 8) (hev : MayRaise P) (h_free : P.free = true)
    (h_tim : P.tim = true) (h_hb : P.hb = true) (h_bank : P.bank = true) (h_ax : P.ax = true) (r_GATE_BSTUVCNT : P.Has
    .GATE_BSTUVCNT) (r_GATE_FLT : P.Has .GATE_FLT) (r_PROT_AXSTAT : P.Has .PROT_AXSTAT) :
    forget P (State.judgeOts s t b) = forget P s := by
  unfold State.judgeOts
  try dsimp only
  repeat' first
    | with_reducible rfl
    | split
    | (simp only [bankCause_forget, Nat.reduceLT, ite_forget, ite_self, hev, hev.rcd, hev.fresh, hev.evt, h_free,
        h_tim, h_hb, h_bank, h_ax, r_GATE_BSTUVCNT, r_GATE_FLT, r_PROT_AXSTAT, Fin.is_lt]; done)
    | with_reducible exact cooled_eq _ _ (by assumption) (by assumption)
    | with_reducible refine Eq.trans (cooled_eq _ _ (by assumption) (by assumption)) ?_
    | with_reducible refine Eq.trans (each_forget P _ _ (fun s x => ?_) _) ?_
    | (simp only [bankCause_forget, Nat.reduceLT, ite_forget, ite_self, hev, hev.rcd, hev.fresh, hev.evt, h_free,
        h_tim, h_hb, h_bank, h_ax, r_GATE_BSTUVCNT, r_GATE_FLT, r_PROT_AXSTAT, Fin.is_lt])

theorem protBfltClear_forget (P : Parts) (b : Fin 8) (d : Word) (s : State) (hev : MayRaise P) (h_free : P.free =
    true) (h_tim : P.tim = true) (h_hb : P.hb = true) (h_bank : P.bank = true) (h_ax : P.ax = true) (r_GATE_BSTUVCNT :
    P.Has .GATE_BSTUVCNT) (r_GATE_FLT : P.Has .GATE_FLT) (r_PROT_AXSTAT : P.Has .PROT_AXSTAT) (r_PROT_BFLT : P.Has
    .PROT_BFLT) :
    forget P (protBfltClear b d s) = forget P s := by
  unfold protBfltClear
  try dsimp only
  (repeat' split) <;> first | with_reducible rfl | simp only [bankCause_forget, clrFlags_forget, judgeOts_forget,
      cov_PROT_BFLT, Nat.reduceLT, ite_forget, ite_self, hev, hev.rcd, hev.fresh, hev.evt, h_free, h_tim, h_hb,
      h_bank, h_ax, r_GATE_BSTUVCNT, r_GATE_FLT, r_PROT_AXSTAT, r_PROT_BFLT, Fin.is_lt]

end Sys2Proof.Laws
end

