-- ==== Sys2Proof/Laws/FrameSupervisor.lean ====
section
/-! SUPPORT. Sys2Proof/Laws/FrameSupervisor.lean: which parts of the state each operation of Machine/Supervisor.lean may change. -/
namespace Sys2Proof.Laws
set_option Elab.async false
set_option linter.unusedSimpArgs false
open Sys2Proof.Machine Sys2Proof.Safety

theorem cov_plfltAddr {P : Parts} (hl : P.Has .SAFE_PLFLT_LO) (hh : P.Has .SAFE_PLFLT_HI) (a : Fin 24) :
    P.covers (plfltAddr a) = true := by
  unfold plfltAddr; split
  · exact cov_SAFE_PLFLT_LO hl
  · exact cov_SAFE_PLFLT_HI hh

theorem raiseSafeDev_forget (P : Parts) (s : State) (cause detail : Nat) (hev : MayRaise P) :
    forget P (State.raiseSafeDev s cause detail) = forget P s := by
  unfold State.raiseSafeDev
  try dsimp only
  (repeat' split) <;> first | with_reducible rfl | simp only [evSAFE_DEV_lt, raise_forget, Nat.reduceLT, ite_forget,
      ite_self, hev, hev.rcd, hev.fresh, hev.evt, Fin.is_lt]

theorem latchCause_forget (P : Parts) (s : State) (cause detail : Nat) (h_safe : P.safe = true) (r_SAFE_CAUSE : P.Has
    .SAFE_CAUSE) (r_SAFE_DETAIL : P.Has .SAFE_DETAIL) :
    forget P (State.latchCause s cause detail) = forget P s := by
  unfold State.latchCause
  try dsimp only
  (repeat' split) <;> first | with_reducible rfl | simp only [modSafe_forget, wr_forget, cov_SAFE_CAUSE,
      cov_SAFE_DETAIL, Nat.reduceLT, ite_forget, ite_self, h_safe, r_SAFE_CAUSE, r_SAFE_DETAIL, Fin.is_lt]

theorem deviceWide_forget (P : Parts) (s : State) (t cause detail : Nat) (hev : MayRaise P) (h_ops : P.ops = true)
    (h_tim : P.tim = true) (h_hb : P.hb = true) (h_bank : P.bank = true) (h_ax : P.ax = true) (h_pair : P.pair = true)
    (h_safe : P.safe = true) (r_GATE_BSTUVCNT : P.Has .GATE_BSTUVCNT) (r_GATE_FLT : P.Has .GATE_FLT) (r_PROT_AXSTAT :
    P.Has .PROT_AXSTAT) (r_SAFE_CAUSE : P.Has .SAFE_CAUSE) (r_SAFE_DETAIL : P.Has .SAFE_DETAIL) :
    forget P (State.deviceWide s t cause detail) = forget P s := by
  unfold State.deviceWide
  try dsimp only
  repeat' first
    | with_reducible rfl
    | split
    | (simp only [bankCause_forget, disarm_forget, failOp_forget, latchCause_forget, raiseSafeDev_forget,
        releaseOwner_forget, stopAxis_forget, Nat.reduceLT, ite_forget, ite_self, hev, hev.rcd, hev.fresh, hev.evt,
        h_ops, h_tim, h_hb, h_bank, h_ax, h_pair, h_safe, r_GATE_BSTUVCNT, r_GATE_FLT, r_PROT_AXSTAT, r_SAFE_CAUSE,
        r_SAFE_DETAIL, Fin.is_lt]; done)
    | with_reducible refine Eq.trans (each_forget P _ _ (fun s x => ?_) _) ?_
    | (simp only [bankCause_forget, disarm_forget, failOp_forget, latchCause_forget, raiseSafeDev_forget,
        releaseOwner_forget, stopAxis_forget, Nat.reduceLT, ite_forget, ite_self, hev, hev.rcd, hev.fresh, hev.evt,
        h_ops, h_tim, h_hb, h_bank, h_ax, h_pair, h_safe, r_GATE_BSTUVCNT, r_GATE_FLT, r_PROT_AXSTAT, r_SAFE_CAUSE,
        r_SAFE_DETAIL, Fin.is_lt])

theorem safeClr_forget (P : Parts) (s : State) (hev : MayRaise P) (h_tim : P.tim = true) (h_hb : P.hb = true) (h_bank
    : P.bank = true) (h_ax : P.ax = true) (h_safe : P.safe = true) (r_GATE_BSTUVCNT : P.Has .GATE_BSTUVCNT)
    (r_GATE_FLT : P.Has .GATE_FLT) (r_PROT_AXSTAT : P.Has .PROT_AXSTAT) :
    forget P (safeClr s) = forget P s := by
  unfold safeClr
  try dsimp only
  repeat' first
    | with_reducible rfl
    | split
    | (simp only [bankCause_forget, modSafe_forget, Nat.reduceLT, ite_forget, ite_self, hev, hev.rcd, hev.fresh,
        hev.evt, h_tim, h_hb, h_bank, h_ax, h_safe, r_GATE_BSTUVCNT, r_GATE_FLT, r_PROT_AXSTAT, Fin.is_lt]; done)
    | with_reducible refine Eq.trans (each_forget P _ _ (fun s x => ?_) _) ?_
    | (simp only [bankCause_forget, modSafe_forget, Nat.reduceLT, ite_forget, ite_self, hev, hev.rcd, hev.fresh,
        hev.evt, h_tim, h_hb, h_bank, h_ax, h_safe, r_GATE_BSTUVCNT, r_GATE_FLT, r_PROT_AXSTAT, Fin.is_lt])

theorem clockFlags_forget (P : Parts) (s : State) (t : Nat) (m : Word) (hev : MayRaise P) (h_ops : P.ops = true)
    (h_tim : P.tim = true) (h_hb : P.hb = true) (h_bank : P.bank = true) (h_ax : P.ax = true) (h_pair : P.pair = true)
    (h_safe : P.safe = true) (r_CLK_FAULT : P.Has .CLK_FAULT) (r_GATE_BSTUVCNT : P.Has .GATE_BSTUVCNT) (r_GATE_FLT :
    P.Has .GATE_FLT) (r_PROT_AXSTAT : P.Has .PROT_AXSTAT) (r_SAFE_CAUSE : P.Has .SAFE_CAUSE) (r_SAFE_DETAIL : P.Has
    .SAFE_DETAIL) :
    forget P (State.clockFlags s t m) = forget P s := by
  unfold State.clockFlags
  try dsimp only
  (repeat' split) <;> first | with_reducible rfl | simp only [deviceWide_forget, evCLK_FAIL_lt, raise_forget,
      setFlags_forget, cov_CLK_FAULT, Nat.reduceLT, ite_forget, ite_self, hev, hev.rcd, hev.fresh, hev.evt, h_ops,
      h_tim, h_hb, h_bank, h_ax, h_pair, h_safe, r_CLK_FAULT, r_GATE_BSTUVCNT, r_GATE_FLT, r_PROT_AXSTAT,
      r_SAFE_CAUSE, r_SAFE_DETAIL, Fin.is_lt]

theorem monitorWindow_forget (P : Parts) (ref core : Word) (lost : Bool) (s : State) (hev : MayRaise P) (h_clk : P.clk
    = true) (h_ops : P.ops = true) (h_tim : P.tim = true) (h_hb : P.hb = true) (h_bank : P.bank = true) (h_ax : P.ax =
    true) (h_pair : P.pair = true) (h_safe : P.safe = true) (r_CLK_CORECNT : P.Has .CLK_CORECNT) (r_CLK_FAULT : P.Has
    .CLK_FAULT) (r_CLK_REFCNT : P.Has .CLK_REFCNT) (r_GATE_BSTUVCNT : P.Has .GATE_BSTUVCNT) (r_GATE_FLT : P.Has
    .GATE_FLT) (r_PROT_AXSTAT : P.Has .PROT_AXSTAT) (r_SAFE_CAUSE : P.Has .SAFE_CAUSE) (r_SAFE_DETAIL : P.Has
    .SAFE_DETAIL) :
    forget P (monitorWindow ref core lost s) = forget P s := by
  unfold monitorWindow
  try dsimp only
  (repeat' split) <;> first | with_reducible rfl | simp only [clockFlags_forget, modClk_forget, ppsBreak_forget,
      wr_forget, cov_CLK_CORECNT, cov_CLK_REFCNT, Nat.reduceLT, ite_forget, ite_self, hev, hev.rcd, hev.fresh,
      hev.evt, h_clk, h_ops, h_tim, h_hb, h_bank, h_ax, h_pair, h_safe, r_CLK_CORECNT, r_CLK_FAULT, r_CLK_REFCNT,
      r_GATE_BSTUVCNT, r_GATE_FLT, r_PROT_AXSTAT, r_SAFE_CAUSE, r_SAFE_DETAIL, Fin.is_lt]

theorem setPlaus_forget (P : Parts) (s : State) (t : Nat) (a : Fin 24) (v : Bool) (hev : MayRaise P) (h_tim : P.tim =
    true) (h_hb : P.hb = true) (h_bank : P.bank = true) (h_ax : P.ax = true) (r_GATE_BSTUVCNT : P.Has .GATE_BSTUVCNT)
    (r_GATE_FLT : P.Has .GATE_FLT) (r_PROT_AXSTAT : P.Has .PROT_AXSTAT) :
    forget P (State.setPlaus s t a v) = forget P s := by
  unfold State.setPlaus
  try dsimp only
  repeat' first
    | with_reducible rfl
    | split
    | (simp only [modAx_forget, sideFor_forget, Nat.reduceLT, ite_forget, ite_self, hev, hev.rcd, hev.fresh, hev.evt,
        h_tim, h_hb, h_bank, h_ax, r_GATE_BSTUVCNT, r_GATE_FLT, r_PROT_AXSTAT, Fin.is_lt]; done)
    | with_reducible refine Eq.trans (reRow2_forget P _ _ _ _ hev h_tim h_hb h_bank r_GATE_BSTUVCNT r_GATE_FLT
        (fun s => ?_)) ?_
    | with_reducible refine Eq.trans (each_forget P _ _ (fun s x => ?_) _) ?_
    | (simp only [modAx_forget, sideFor_forget, Nat.reduceLT, ite_forget, ite_self, hev, hev.rcd, hev.fresh, hev.evt,
        h_tim, h_hb, h_bank, h_ax, r_GATE_BSTUVCNT, r_GATE_FLT, r_PROT_AXSTAT, Fin.is_lt])

theorem plausTrip_forget (P : Parts) (t : Nat) (a : Fin 24) (s : State) (hev : MayRaise P) (h_ops : P.ops = true)
    (h_tim : P.tim = true) (h_hb : P.hb = true) (h_bank : P.bank = true) (h_ax : P.ax = true) (r_GATE_BSTUVCNT : P.Has
    .GATE_BSTUVCNT) (r_GATE_FLT : P.Has .GATE_FLT) (r_PROT_AXSTAT : P.Has .PROT_AXSTAT) (r_SAFE_PLFLT_HI : P.Has
    .SAFE_PLFLT_HI) (r_SAFE_PLFLT_LO : P.Has .SAFE_PLFLT_LO) :
    forget P (plausTrip t a s) = forget P s := by
  unfold plausTrip
  try dsimp only
  (repeat' split) <;> first | with_reducible rfl | simp only [modAx_forget, cov_plfltAddr, raiseSafeDev_forget,
      setFlags_forget, setPlaus_forget, stopAxis_forget, Nat.reduceLT, ite_forget, ite_self, hev, hev.rcd, hev.fresh,
      hev.evt, h_ops, h_tim, h_hb, h_bank, h_ax, r_GATE_BSTUVCNT, r_GATE_FLT, r_PROT_AXSTAT, r_SAFE_PLFLT_HI,
      r_SAFE_PLFLT_LO, Fin.is_lt]

theorem safePlfltClear_forget (P : Parts) (hi : Bool) (d : Word) (s : State) (hev : MayRaise P) (h_tim : P.tim = true)
    (h_hb : P.hb = true) (h_bank : P.bank = true) (h_ax : P.ax = true) (r_GATE_BSTUVCNT : P.Has .GATE_BSTUVCNT)
    (r_GATE_FLT : P.Has .GATE_FLT) (r_PROT_AXSTAT : P.Has .PROT_AXSTAT) (r_SAFE_PLFLT_HI : P.Has .SAFE_PLFLT_HI)
    (r_SAFE_PLFLT_LO : P.Has .SAFE_PLFLT_LO) :
    forget P (safePlfltClear hi d s) = forget P s := by
  unfold safePlfltClear
  try dsimp only
  repeat' first
    | with_reducible rfl
    | split
    | (simp only [clrFlags_forget, setPlaus_forget, cov_SAFE_PLFLT_HI, cov_SAFE_PLFLT_LO, Nat.reduceLT, ite_forget,
        ite_self, hev, hev.rcd, hev.fresh, hev.evt, h_tim, h_hb, h_bank, h_ax, r_GATE_BSTUVCNT, r_GATE_FLT,
        r_PROT_AXSTAT, r_SAFE_PLFLT_HI, r_SAFE_PLFLT_LO, Fin.is_lt]; done)
    | with_reducible refine Eq.trans (each_forget P _ _ (fun s x => ?_) _) ?_
    | (simp only [clrFlags_forget, setPlaus_forget, cov_SAFE_PLFLT_HI, cov_SAFE_PLFLT_LO, Nat.reduceLT, ite_forget,
        ite_self, hev, hev.rcd, hev.fresh, hev.evt, h_tim, h_hb, h_bank, h_ax, r_GATE_BSTUVCNT, r_GATE_FLT,
        r_PROT_AXSTAT, r_SAFE_PLFLT_HI, r_SAFE_PLFLT_LO, Fin.is_lt])

theorem dieLinkLoss_forget (P : Parts) (t : Nat) (k : Fin 4) (s : State) (hev : MayRaise P) (h_ops : P.ops = true)
    (h_tim : P.tim = true) (h_hb : P.hb = true) (h_bank : P.bank = true) (h_ax : P.ax = true) (h_safe : P.safe = true)
    (r_GATE_BSTUVCNT : P.Has .GATE_BSTUVCNT) (r_GATE_FLT : P.Has .GATE_FLT) (r_PROT_AXSTAT : P.Has .PROT_AXSTAT) :
    forget P (dieLinkLoss t k s) = forget P s := by
  unfold dieLinkLoss
  try dsimp only
  repeat' first
    | with_reducible rfl
    | split
    | (simp only [bankCause_forget, disarm_forget, modSafe_forget, raiseSafeDev_forget, Nat.reduceLT, ite_forget,
        ite_self, hev, hev.rcd, hev.fresh, hev.evt, h_ops, h_tim, h_hb, h_bank, h_ax, h_safe, r_GATE_BSTUVCNT,
        r_GATE_FLT, r_PROT_AXSTAT, Fin.is_lt]; done)
    | with_reducible refine Eq.trans (each_forget P _ _ (fun s x => ?_) _) ?_
    | (simp only [bankCause_forget, disarm_forget, modSafe_forget, raiseSafeDev_forget, Nat.reduceLT, ite_forget,
        ite_self, hev, hev.rcd, hev.fresh, hev.evt, h_ops, h_tim, h_hb, h_bank, h_ax, h_safe, r_GATE_BSTUVCNT,
        r_GATE_FLT, r_PROT_AXSTAT, Fin.is_lt])

theorem wdog_forget (P : Parts) (s : State) (t kind : Nat) (hev : MayRaise P) (h_ops : P.ops = true) (h_tim : P.tim =
    true) (h_hb : P.hb = true) (h_bank : P.bank = true) (h_ax : P.ax = true) (h_pair : P.pair = true) (h_safe : P.safe
    = true) (r_GATE_BSTUVCNT : P.Has .GATE_BSTUVCNT) (r_GATE_FLT : P.Has .GATE_FLT) (r_PROT_AXSTAT : P.Has
    .PROT_AXSTAT) (r_SAFE_CAUSE : P.Has .SAFE_CAUSE) (r_SAFE_DETAIL : P.Has .SAFE_DETAIL) :
    forget P (State.wdog s t kind) = forget P s := by
  unfold State.wdog
  try dsimp only
  (repeat' split) <;> first | with_reducible rfl | simp only [deviceWide_forget, evWDOG_lt, modSafe_forget,
      raise_forget, Nat.reduceLT, ite_forget, ite_self, hev, hev.rcd, hev.fresh, hev.evt, h_ops, h_tim, h_hb, h_bank,
      h_ax, h_pair, h_safe, r_GATE_BSTUVCNT, r_GATE_FLT, r_PROT_AXSTAT, r_SAFE_CAUSE, r_SAFE_DETAIL, Fin.is_lt]

theorem safeWdcfg_forget (P : Parts) (d : Word) (s : State) (h_safe : P.safe = true) (r_SAFE_WDCFG : P.Has
    .SAFE_WDCFG) :
    forget P (safeWdcfg d s) = forget P s := by
  unfold safeWdcfg
  try dsimp only
  (repeat' split) <;> first | with_reducible rfl | simp only [modSafe_forget, wr_forget, cov_SAFE_WDCFG, Nat.reduceLT,
      ite_forget, ite_self, h_safe, r_SAFE_WDCFG, Fin.is_lt]

theorem wdogLate_forget (P : Parts) (t : Nat) (s : State) (hev : MayRaise P) (h_ops : P.ops = true) (h_tim : P.tim =
    true) (h_hb : P.hb = true) (h_bank : P.bank = true) (h_ax : P.ax = true) (h_pair : P.pair = true) (h_safe : P.safe
    = true) (r_GATE_BSTUVCNT : P.Has .GATE_BSTUVCNT) (r_GATE_FLT : P.Has .GATE_FLT) (r_PROT_AXSTAT : P.Has
    .PROT_AXSTAT) (r_SAFE_CAUSE : P.Has .SAFE_CAUSE) (r_SAFE_DETAIL : P.Has .SAFE_DETAIL) :
    forget P (wdogLate t s) = forget P s := by
  unfold wdogLate
  try dsimp only
  (repeat' split) <;> first | with_reducible rfl | simp only [modSafe_forget, wdog_forget, Nat.reduceLT, ite_forget,
      ite_self, hev, hev.rcd, hev.fresh, hev.evt, h_ops, h_tim, h_hb, h_bank, h_ax, h_pair, h_safe, r_GATE_BSTUVCNT,
      r_GATE_FLT, r_PROT_AXSTAT, r_SAFE_CAUSE, r_SAFE_DETAIL, Fin.is_lt]

theorem watchdogKick_forget (P : Parts) (t : Nat) (d : Word) (s : State) (hev : MayRaise P) (h_ops : P.ops = true)
    (h_tim : P.tim = true) (h_hb : P.hb = true) (h_bank : P.bank = true) (h_ax : P.ax = true) (h_pair : P.pair = true)
    (h_safe : P.safe = true) (r_GATE_BSTUVCNT : P.Has .GATE_BSTUVCNT) (r_GATE_FLT : P.Has .GATE_FLT) (r_PROT_AXSTAT :
    P.Has .PROT_AXSTAT) (r_SAFE_CAUSE : P.Has .SAFE_CAUSE) (r_SAFE_DETAIL : P.Has .SAFE_DETAIL) :
    forget P (watchdogKick t d s) = forget P s := by
  unfold watchdogKick
  try dsimp only
  (repeat' split) <;> first | with_reducible rfl | simp only [modSafe_forget, wdog_forget, wdogLate_forget,
      Nat.reduceLT, ite_forget, ite_self, hev, hev.rcd, hev.fresh, hev.evt, h_ops, h_tim, h_hb, h_bank, h_ax, h_pair,
      h_safe, r_GATE_BSTUVCNT, r_GATE_FLT, r_PROT_AXSTAT, r_SAFE_CAUSE, r_SAFE_DETAIL, Fin.is_lt]

theorem estop_forget (P : Parts) (t : Nat) (s : State) (hev : MayRaise P) (h_ops : P.ops = true) (h_tim : P.tim =
    true) (h_hb : P.hb = true) (h_bank : P.bank = true) (h_ax : P.ax = true) (h_safe : P.safe = true) (r_GATE_BSTUVCNT
    : P.Has .GATE_BSTUVCNT) (r_GATE_FLT : P.Has .GATE_FLT) (r_PROT_AXSTAT : P.Has .PROT_AXSTAT) :
    forget P (estop t s) = forget P s := by
  unfold estop
  try dsimp only
  repeat' first
    | with_reducible rfl
    | split
    | (simp only [bankCause_forget, disarm_forget, evESTOP_lt, modSafe_forget, raise_forget, stopAxis_forget,
        Nat.reduceLT, ite_forget, ite_self, hev, hev.rcd, hev.fresh, hev.evt, h_ops, h_tim, h_hb, h_bank, h_ax,
        h_safe, r_GATE_BSTUVCNT, r_GATE_FLT, r_PROT_AXSTAT, Fin.is_lt]; done)
    | with_reducible refine Eq.trans (each_forget P _ _ (fun s x => ?_) _) ?_
    | (simp only [bankCause_forget, disarm_forget, evESTOP_lt, modSafe_forget, raise_forget, stopAxis_forget,
        Nat.reduceLT, ite_forget, ite_self, hev, hev.rcd, hev.fresh, hev.evt, h_ops, h_tim, h_hb, h_bank, h_ax,
        h_safe, r_GATE_BSTUVCNT, r_GATE_FLT, r_PROT_AXSTAT, Fin.is_lt])

theorem armPrepare_forget (P : Parts) (b : Fin 8) (s : State) (h_bank : P.bank = true) :
    forget P (armPrepare b s) = forget P s := by
  unfold armPrepare
  try dsimp only
  (repeat' split) <;> first | with_reducible rfl | simp only [modBank_forget, Nat.reduceLT, ite_forget, ite_self,
      h_bank, Fin.is_lt]

theorem armComplete_forget (P : Parts) (t : Nat) (b : Fin 8) (s : State) (hev : MayRaise P) (h_free : P.free = true)
    (h_ops : P.ops = true) (h_tim : P.tim = true) (h_hb : P.hb = true) (h_bank : P.bank = true) (r_GATE_BSTUVCNT :
    P.Has .GATE_BSTUVCNT) (r_GATE_FLT : P.Has .GATE_FLT) :
    forget P (armComplete t b s) = forget P s := by
  unfold armComplete
  try dsimp only
  (repeat' split) <;> first | with_reducible rfl | simp only [cutDlineCal_forget, cutSelfTest_forget, modBank_forget,
      raiseArm_forget, redriveBank_forget, Nat.reduceLT, ite_forget, ite_self, hev, hev.rcd, hev.fresh, hev.evt,
      h_free, h_ops, h_tim, h_hb, h_bank, r_GATE_BSTUVCNT, r_GATE_FLT, Fin.is_lt]

theorem hostDisarm_forget (P : Parts) (t : Nat) (b : Fin 8) (s : State) (hev : MayRaise P) (h_ops : P.ops = true)
    (h_tim : P.tim = true) (h_hb : P.hb = true) (h_bank : P.bank = true) (h_ax : P.ax = true) (r_GATE_BSTUVCNT : P.Has
    .GATE_BSTUVCNT) (r_GATE_FLT : P.Has .GATE_FLT) :
    forget P (hostDisarm t b s) = forget P s := by
  unfold hostDisarm
  try dsimp only
  (repeat' split) <;> first | with_reducible rfl | simp only [cutShuntCal_forget, disarm_forget, modBank_forget,
      raiseArm_forget, Nat.reduceLT, ite_forget, ite_self, hev, hev.rcd, hev.fresh, hev.evt, h_ops, h_tim, h_hb,
      h_bank, h_ax, r_GATE_BSTUVCNT, r_GATE_FLT, Fin.is_lt]

end Sys2Proof.Laws
end

