-- ==== Sys2Proof/Laws/FrameConvert.lean ====
section
/-! SUPPORT. Sys2Proof/Laws/FrameConvert.lean: which parts of the state each operation of Machine/Convert.lean may change. -/
namespace Sys2Proof.Laws
set_option Elab.async false
set_option linter.unusedSimpArgs false
open Sys2Proof.Machine Sys2Proof.Safety

theorem cov_convRes {P : Parts} (h : P.Has .CONV_RES) (b : Fin 8) (j : Fin 3) (k : Nat) :
    P.covers (A.CONV_RES b.val j.val (k % 16)) = true :=
  cov_CONV_RES h _ _ _ b.isLt j.isLt (Nat.mod_lt _ (by decide))

theorem cov_convOfs {P : Parts} (h : P.Has .CONV_OFS) (b : Fin 8) (k : Nat) : P.covers (A.CONV_OFS b.val (min k 8)) = true :=
  cov_CONV_OFS h _ _ b.isLt (by omega)

theorem bemfCross_forget (P : Parts) (s : State) (h : Fin 72) (old new : Word) (h_ax : P.ax = true) :
    forget P (State.bemfCross s h old new) = forget P s := by
  unfold State.bemfCross
  try dsimp only
  (repeat' split) <;> first | with_reducible rfl | simp only [modAx_forget, Nat.reduceLT, ite_forget, ite_self, h_ax,
      Fin.is_lt]

theorem convFault_forget (P : Parts) (s : State) (t : Nat) (b : Fin 8) (hev : MayRaise P) (h_ops : P.ops = true)
    (h_tim : P.tim = true) (h_hb : P.hb = true) (h_bank : P.bank = true) (h_ax : P.ax = true) (r_GATE_BSTUVCNT : P.Has
    .GATE_BSTUVCNT) (r_GATE_FLT : P.Has .GATE_FLT) (r_PROT_AXSTAT : P.Has .PROT_AXSTAT) :
    forget P (State.convFault s t b) = forget P s := by
  unfold State.convFault
  try dsimp only
  (repeat' split) <;> first | with_reducible rfl | simp only [bankCause_forget, disarm_forget, raiseSafeDev_forget,
      Nat.reduceLT, ite_forget, ite_self, hev, hev.rcd, hev.fresh, hev.evt, h_ops, h_tim, h_hb, h_bank, h_ax,
      r_GATE_BSTUVCNT, r_GATE_FLT, r_PROT_AXSTAT, Fin.is_lt]

theorem refResult_forget (P : Parts) (s : State) (t : Nat) (b : Fin 8) (w : Word) (hev : MayRaise P) (h_ops : P.ops =
    true) (h_tim : P.tim = true) (h_hb : P.hb = true) (h_bank : P.bank = true) (h_ax : P.ax = true) (r_CONV_REF :
    P.Has .CONV_REF) (r_GATE_BSTUVCNT : P.Has .GATE_BSTUVCNT) (r_GATE_FLT : P.Has .GATE_FLT) (r_PROT_AXSTAT : P.Has
    .PROT_AXSTAT) :
    forget P (State.refResult s t b w) = forget P s := by
  unfold State.refResult
  try dsimp only
  (repeat' split) <;> first | with_reducible rfl | simp only [bankCause_forget, convFault_forget, modBank_forget,
      wr_forget, cov_CONV_REF, Nat.reduceLT, ite_forget, ite_self, hev, hev.rcd, hev.fresh, hev.evt, h_ops, h_tim,
      h_hb, h_bank, h_ax, r_CONV_REF, r_GATE_BSTUVCNT, r_GATE_FLT, r_PROT_AXSTAT, Fin.is_lt]

theorem tempResult_forget (P : Parts) (s : State) (t : Nat) (b : Fin 8) (n : Nat) (hev : MayRaise P) (h_free : P.free
    = true) (h_tim : P.tim = true) (h_hb : P.hb = true) (h_bank : P.bank = true) (h_ax : P.ax = true) (r_GATE_BSTUVCNT
    : P.Has .GATE_BSTUVCNT) (r_GATE_FLT : P.Has .GATE_FLT) (r_PROT_AXSTAT : P.Has .PROT_AXSTAT) (r_PROT_BFLT : P.Has
    .PROT_BFLT) (r_PROT_TEMP : P.Has .PROT_TEMP) :
    forget P (State.tempResult s t b n) = forget P s := by
  unfold State.tempResult
  try dsimp only
  (repeat' split) <;> first | with_reducible rfl | simp only [evPROT_WARN_lt, judgeOts_forget, modBank_forget,
      raise_forget, setFlags_forget, wr_forget, cov_PROT_BFLT, cov_PROT_TEMP, Nat.reduceLT, ite_forget, ite_self, hev,
      hev.rcd, hev.fresh, hev.evt, h_free, h_tim, h_hb, h_bank, h_ax, r_GATE_BSTUVCNT, r_GATE_FLT, r_PROT_AXSTAT,
      r_PROT_BFLT, r_PROT_TEMP, Fin.is_lt]

theorem vov1Seen_forget (P : Parts) (s : State) (b : Fin 8) (v : Int) (h_free : P.free = true) (h_bank : P.bank =
    true) :
    forget P (State.vov1Seen s b v) = forget P s := by
  unfold State.vov1Seen
  try dsimp only
  (repeat' split) <;> first | with_reducible rfl | simp only [modBank_forget, took_forget, Nat.reduceLT, ite_forget,
      ite_self, h_free, h_bank, Fin.is_lt]

theorem vmResult_forget (P : Parts) (s : State) (b : Fin 8) (w : Word) (h_free : P.free = true) (h_bank : P.bank =
    true) (r_PROT_VM : P.Has .PROT_VM) :
    forget P (State.vmResult s b w) = forget P s := by
  unfold State.vmResult
  try dsimp only
  (repeat' split) <;> first | with_reducible rfl | simp only [modBank_forget, round_forget, vov1Seen_forget,
      wr_forget, cov_PROT_VM, Nat.reduceLT, ite_forget, ite_self, h_free, h_bank, r_PROT_VM, Fin.is_lt]

theorem loadLatest_forget (P : Parts) (s : State) (t : Nat) (b : Fin 8) (entry n : Nat) (hev : MayRaise P) (h_free :
    P.free = true) (h_ops : P.ops = true) (h_tim : P.tim = true) (h_hb : P.hb = true) (h_bank : P.bank = true) (h_ax :
    P.ax = true) (r_CONV_REF : P.Has .CONV_REF) (r_CONV_SN : P.Has .CONV_SN) (r_GATE_BSTUVCNT : P.Has .GATE_BSTUVCNT)
    (r_GATE_FLT : P.Has .GATE_FLT) (r_PROT_AXSTAT : P.Has .PROT_AXSTAT) (r_PROT_BFLT : P.Has .PROT_BFLT) (r_PROT_TEMP
    : P.Has .PROT_TEMP) (r_PROT_VM : P.Has .PROT_VM) :
    forget P (State.loadLatest s t b entry n) = forget P s := by
  unfold State.loadLatest
  try dsimp only
  (repeat' split) <;> first | with_reducible rfl | simp only [bemfCross_forget, modAx_forget, modHb_forget,
      refResult_forget, tempResult_forget, vmResult_forget, wr_forget, cov_CONV_SN, Nat.reduceLT, ite_forget,
      ite_self, hev, hev.rcd, hev.fresh, hev.evt, h_free, h_ops, h_tim, h_hb, h_bank, h_ax, r_CONV_REF, r_CONV_SN,
      r_GATE_BSTUVCNT, r_GATE_FLT, r_PROT_AXSTAT, r_PROT_BFLT, r_PROT_TEMP, r_PROT_VM, Fin.is_lt]

theorem convStart_forget (P : Parts) (c : Fin 24) (s : State) (h_bank : P.bank = true) (r_CONV_OVRCNT : P.Has
    .CONV_OVRCNT) :
    forget P (convStart c s) = forget P s := by
  unfold convStart
  try dsimp only
  (repeat' split) <;> first | with_reducible rfl | simp only [modConv_forget, satInc_forget, cov_CONV_OVRCNT,
      convAddr, Nat.reduceLT, ite_forget, ite_self, h_bank, r_CONV_OVRCNT, Fin.is_lt]

theorem seqDone_forget (P : Parts) (t : Nat) (c : Fin 24) (k n : Nat) (s : State) (hev : MayRaise P) (h_free : P.free
    = true) (h_ops : P.ops = true) (h_tim : P.tim = true) (h_hb : P.hb = true) (h_bank : P.bank = true) (h_ax : P.ax =
    true) (r_CONV_REF : P.Has .CONV_REF) (r_CONV_RES : P.Has .CONV_RES) (r_CONV_SEQCNT : P.Has .CONV_SEQCNT)
    (r_CONV_SN : P.Has .CONV_SN) (r_GATE_BSTUVCNT : P.Has .GATE_BSTUVCNT) (r_GATE_FLT : P.Has .GATE_FLT)
    (r_PROT_AXSTAT : P.Has .PROT_AXSTAT) (r_PROT_BFLT : P.Has .PROT_BFLT) (r_PROT_TEMP : P.Has .PROT_TEMP) (r_PROT_VM
    : P.Has .PROT_VM) :
    forget P (seqDone t c k n s) = forget P s := by
  unfold seqDone
  try dsimp only
  (repeat' split) <;> first | with_reducible rfl | simp only [loadLatest_forget, modConv_forget, wr_forget,
      wrapInc_forget, cov_CONV_SEQCNT, convAddr, cov_convRes, Nat.reduceLT, ite_forget, ite_self, hev, hev.rcd,
      hev.fresh, hev.evt, h_free, h_ops, h_tim, h_hb, h_bank, h_ax, r_CONV_REF, r_CONV_RES, r_CONV_SEQCNT, r_CONV_SN,
      r_GATE_BSTUVCNT, r_GATE_FLT, r_PROT_AXSTAT, r_PROT_BFLT, r_PROT_TEMP, r_PROT_VM, Fin.is_lt]

theorem bgDone_forget (P : Parts) (t : Nat) (c : Fin 24) (n : Nat) (s : State) (hev : MayRaise P) (h_free : P.free =
    true) (h_ops : P.ops = true) (h_tim : P.tim = true) (h_hb : P.hb = true) (h_bank : P.bank = true) (h_ax : P.ax =
    true) (r_CONV_REF : P.Has .CONV_REF) (r_CONV_SN : P.Has .CONV_SN) (r_GATE_BSTUVCNT : P.Has .GATE_BSTUVCNT)
    (r_GATE_FLT : P.Has .GATE_FLT) (r_PROT_AXSTAT : P.Has .PROT_AXSTAT) (r_PROT_BFLT : P.Has .PROT_BFLT) (r_PROT_TEMP
    : P.Has .PROT_TEMP) (r_PROT_VM : P.Has .PROT_VM) :
    forget P (bgDone t c n s) = forget P s := by
  unfold bgDone
  try dsimp only
  (repeat' split) <;> first | with_reducible rfl | simp only [loadLatest_forget, modConv_forget, Nat.reduceLT,
      ite_forget, ite_self, hev, hev.rcd, hev.fresh, hev.evt, h_free, h_ops, h_tim, h_hb, h_bank, h_ax, r_CONV_REF,
      r_CONV_SN, r_GATE_BSTUVCNT, r_GATE_FLT, r_PROT_AXSTAT, r_PROT_BFLT, r_PROT_TEMP, r_PROT_VM, Fin.is_lt]

theorem calChannel_forget (P : Parts) (s : State) (i : Fin 8) (b : Fin 8) (hev : MayRaise P) (h_ops : P.ops = true) :
    forget P (State.calChannel s i b) = forget P s := by
  unfold State.calChannel
  try dsimp only
  (repeat' split) <;> first | with_reducible rfl | simp only [endSlot_forget, modSlot_forget, Nat.reduceLT,
      ite_forget, ite_self, hev, hev.rcd, hev.fresh, hev.evt, h_ops, Fin.is_lt]

theorem calDone_forget (P : Parts) (c : Fin 24) (i : Fin 8) (n : Nat) (s : State) (hev : MayRaise P) (h_free : P.free
    = true) (h_ops : P.ops = true) (h_bank : P.bank = true) (r_CONV_OFS : P.Has .CONV_OFS) :
    forget P (calDone c i n s) = forget P s := by
  unfold calDone
  try dsimp only
  (repeat' split) <;> first | with_reducible rfl | simp only [calChannel_forget, modBank_forget, modConv_forget,
      quant_forget, wr_forget, cov_convOfs, Nat.reduceLT, ite_forget, ite_self, hev, hev.rcd, hev.fresh, hev.evt,
      h_free, h_ops, h_bank, r_CONV_OFS, Fin.is_lt]

theorem idleDone_forget (P : Parts) (t : Nat) (c : Fin 24) (n : Nat) (s : State) (hev : MayRaise P) (h_free : P.free =
    true) (h_ops : P.ops = true) (h_tim : P.tim = true) (h_hb : P.hb = true) (h_bank : P.bank = true) (h_ax : P.ax =
    true) (r_CONV_OFS : P.Has .CONV_OFS) (r_CONV_REF : P.Has .CONV_REF) (r_CONV_SN : P.Has .CONV_SN) (r_GATE_BSTUVCNT
    : P.Has .GATE_BSTUVCNT) (r_GATE_FLT : P.Has .GATE_FLT) (r_PROT_AXSTAT : P.Has .PROT_AXSTAT) (r_PROT_BFLT : P.Has
    .PROT_BFLT) (r_PROT_TEMP : P.Has .PROT_TEMP) (r_PROT_VM : P.Has .PROT_VM) :
    forget P (idleDone t c n s) = forget P s := by
  unfold idleDone
  try dsimp only
  (repeat' split) <;> first | with_reducible rfl | simp only [bgDone_forget, calDone_forget, took_forget,
      Nat.reduceLT, ite_forget, ite_self, hev, hev.rcd, hev.fresh, hev.evt, h_free, h_ops, h_tim, h_hb, h_bank, h_ax,
      r_CONV_OFS, r_CONV_REF, r_CONV_SN, r_GATE_BSTUVCNT, r_GATE_FLT, r_PROT_AXSTAT, r_PROT_BFLT, r_PROT_TEMP,
      r_PROT_VM, Fin.is_lt]

end Sys2Proof.Laws
end

