-- ==== Sys2Proof/Laws/FrameSeeds.lean ====
section
/-! SUPPORT. Sys2Proof/Laws/FrameSeeds.lean: which parts of the state each operation of Machine/Seeds.lean may change. -/
namespace Sys2Proof.Laws
set_option Elab.async false
set_option linter.unusedSimpArgs false
open Sys2Proof.Machine Sys2Proof.Safety

theorem expect_forget (P : Parts) (s : State) (r : Fin 24) (t : Nat) (hev : MayRaise P) (h_sol : P.sol = true)
    (r_SOL_EXPOVF : P.Has .SOL_EXPOVF) :
    forget P (State.expect s r t) = forget P s := by
  unfold State.expect
  try dsimp only
  (repeat' split) <;> first | with_reducible rfl | simp only [evSEED_OVF_lt, modRow_forget, raise_forget,
      satInc_forget, cov_SOL_EXPOVF, Nat.reduceLT, ite_forget, ite_self, hev, hev.rcd, hev.fresh, hev.evt, h_sol,
      r_SOL_EXPOVF, Fin.is_lt]

theorem observe_forget (P : Parts) (s : State) (r : Fin 24) (hev : MayRaise P) (h_sol : P.sol = true) (r_SOL_SEEDOVF :
    P.Has .SOL_SEEDOVF) :
    forget P (State.observe s r) = forget P s := by
  unfold State.observe
  try dsimp only
  (repeat' split) <;> first | with_reducible rfl | simp only [evSEED_OVF_lt, modRow_forget, raise_forget,
      satInc_forget, cov_SOL_SEEDOVF, Nat.reduceLT, ite_forget, ite_self, hev, hev.rcd, hev.fresh, hev.evt, h_sol,
      r_SOL_SEEDOVF, Fin.is_lt]

theorem releaseCells_forget (P : Parts) (s : State) (r : Fin 24) (t0 t1 : Nat) (p0 p1 : Rat) (x0 : Nat) (hev :
    MayRaise P) (h_free : P.free = true) (h_sol : P.sol = true) (r_SOL_EXPOVF : P.Has .SOL_EXPOVF) :
    forget P (State.releaseCells s r t0 t1 p0 p1 x0) = forget P s := by
  induction x0 generalizing s with
  | zero => rfl
  | succ n ih =>
    unfold State.releaseCells
    dsimp only
    exact (ih _).trans ((expect_forget P _ r _ hev h_sol r_SOL_EXPOVF).trans ((round_forget P _ _ h_free).trans
      (modRow_forget P s r _ h_sol)))

theorem meterRow_forget (P : Parts) (s : State) (r : Fin 24) (a : Fin 24) (t0 : Nat) (a0 a1 : Word) (hev : MayRaise P)
    (h_free : P.free = true) (h_sol : P.sol = true) (r_SOL_EXPOVF : P.Has .SOL_EXPOVF) :
    forget P (State.meterRow s r a t0 a0 a1) = forget P s := by
  unfold State.meterRow
  try dsimp only
  (repeat' split) <;> first | with_reducible rfl | simp only [modRow_forget, releaseCells_forget, Nat.reduceLT,
      ite_forget, ite_self, hev, hev.rcd, hev.fresh, hev.evt, h_free, h_sol, r_SOL_EXPOVF, Fin.is_lt]

theorem meterStep_forget (P : Parts) (s : State) (a : Fin 24) (hev : MayRaise P) (h_free : P.free = true) (h_ax : P.ax
    = true) (h_sol : P.sol = true) (r_SOL_EXPOVF : P.Has .SOL_EXPOVF) :
    forget P (State.meterStep s a) = forget P s := by
  unfold State.meterStep
  try dsimp only
  repeat' first
    | with_reducible rfl
    | split
    | (simp only [meterRow_forget, modAx_forget, Nat.reduceLT, ite_forget, ite_self, hev, hev.rcd, hev.fresh, hev.evt,
        h_free, h_ax, h_sol, r_SOL_EXPOVF, Fin.is_lt]; done)
    | with_reducible refine Eq.trans (each_forget P _ _ (fun s x => ?_) _) ?_
    | (simp only [meterRow_forget, modAx_forget, Nat.reduceLT, ite_forget, ite_self, hev, hev.rcd, hev.fresh, hev.evt,
        h_free, h_ax, h_sol, r_SOL_EXPOVF, Fin.is_lt])

theorem seedEdge_forget (P : Parts) (i : Fin 24) (s : State) (hev : MayRaise P) (h_sol : P.sol = true) (r_SOL_SEEDOVF
    : P.Has .SOL_SEEDOVF) :
    forget P (seedEdge i s) = forget P s := by
  unfold seedEdge
  try dsimp only
  repeat' first
    | with_reducible rfl
    | split
    | (simp only [modSol_forget, observe_forget, Nat.reduceLT, ite_forget, ite_self, hev, hev.rcd, hev.fresh, hev.evt,
        h_sol, r_SOL_SEEDOVF, Fin.is_lt]; done)
    | with_reducible refine Eq.trans (each_forget P _ _ (fun s x => ?_) _) ?_
    | (simp only [modSol_forget, observe_forget, Nat.reduceLT, ite_forget, ite_self, hev, hev.rcd, hev.fresh, hev.evt,
        h_sol, r_SOL_SEEDOVF, Fin.is_lt])

end Sys2Proof.Laws
end

