-- ==== Sys2Proof/Laws/FrameAxes.lean ====
section
/-! SUPPORT. Sys2Proof/Laws/FrameAxes.lean: which parts of the state each operation of Machine/Axes.lean may change. -/
namespace Sys2Proof.Laws
set_option Elab.async false
set_option linter.unusedSimpArgs false
open Sys2Proof.Machine Sys2Proof.Safety

theorem startUp_forget (P : Parts) (s : State) (a : Fin 24) (h_ax : P.ax = true) (r_AX_STARTS : P.Has .AX_STARTS) :
    forget P (State.startUp s a) = forget P s := by
  unfold State.startUp
  try dsimp only
  (repeat' split) <;> first | with_reducible rfl | simp only [modAx_forget, satInc_forget, cov_AX_STARTS, axAddr,
      Nat.reduceLT, ite_forget, ite_self, h_ax, r_AX_STARTS, Fin.is_lt]

theorem axisStart_forget (P : Parts) (a : Fin 24) (s : State) (hev : MayRaise P) (h_ops : P.ops = true) (h_ax : P.ax =
    true) (r_AX_STARTS : P.Has .AX_STARTS) :
    forget P (axisStart a s) = forget P s := by
  unfold axisStart
  try dsimp only
  (repeat' split) <;> first | with_reducible rfl | simp only [cutShuntCal_forget, modAx_forget, satInc_forget,
      startUp_forget, toStopped_forget, cov_AX_STARTS, axAddr, Nat.reduceLT, ite_forget, ite_self, hev, hev.rcd,
      hev.fresh, hev.evt, h_ops, h_ax, r_AX_STARTS, Fin.is_lt]

theorem beginStop_forget (P : Parts) (s : State) (a : Fin 24) (h_ax : P.ax = true) (r_AX_TARGET : P.Has .AX_TARGET) :
    forget P (State.beginStop s a) = forget P s := by
  unfold State.beginStop
  try dsimp only
  (repeat' split) <;> first | with_reducible rfl | simp only [modAx_forget, wr_forget, cov_AX_TARGET, axAddr,
      Nat.reduceLT, ite_forget, ite_self, h_ax, r_AX_TARGET, Fin.is_lt]

theorem axisStop_forget (P : Parts) (a : Fin 24) (s : State) (hev : MayRaise P) (h_ops : P.ops = true) (h_ax : P.ax =
    true) (r_AX_TARGET : P.Has .AX_TARGET) :
    forget P (axisStop a s) = forget P s := by
  unfold axisStop
  try dsimp only
  (repeat' split) <;> first | with_reducible rfl | simp only [beginStop_forget, endSlot_forget, modAx_forget,
      toStopped_forget, Nat.reduceLT, ite_forget, ite_self, hev, hev.rcd, hev.fresh, hev.evt, h_ops, h_ax,
      r_AX_TARGET, Fin.is_lt]

theorem axisCoast_forget (P : Parts) (a : Fin 24) (s : State) (hev : MayRaise P) (h_ops : P.ops = true) (h_ax : P.ax =
    true) :
    forget P (axisCoast a s) = forget P s := by
  unfold axisCoast
  try dsimp only
  (repeat' split) <;> first | with_reducible rfl | simp only [endSlot_forget, toStopped_forget, Nat.reduceLT,
      ite_forget, ite_self, hev, hev.rcd, hev.fresh, hev.evt, h_ops, h_ax, Fin.is_lt]

theorem stallClear_forget (P : Parts) (a : Fin 24) (s : State) (h_ax : P.ax = true) :
    forget P (stallClear a s) = forget P s := by
  unfold stallClear
  try dsimp only
  (repeat' split) <;> first | with_reducible rfl | simp only [modAx_forget, Nat.reduceLT, ite_forget, ite_self, h_ax,
      Fin.is_lt]

theorem toRetry_forget (P : Parts) (s : State) (a : Fin 24) (h_ax : P.ax = true) :
    forget P (State.toRetry s a) = forget P s := by
  unfold State.toRetry
  try dsimp only
  (repeat' split) <;> first | with_reducible rfl | simp only [modAx_forget, Nat.reduceLT, ite_forget, ite_self, h_ax,
      Fin.is_lt]

theorem startFail_forget (P : Parts) (s : State) (a : Fin 24) (hev : MayRaise P) (h_ax : P.ax = true) :
    forget P (State.startFail s a) = forget P s := by
  unfold State.startFail
  try dsimp only
  (repeat' split) <;> first | with_reducible rfl | simp only [toRetry_forget, toStopped_forget, Nat.reduceLT,
      ite_forget, ite_self, hev, hev.rcd, hev.fresh, hev.evt, h_ax, Fin.is_lt]

theorem vRow_forget (P : Parts) (s : State) (a : Fin 24) (h_free : P.free = true) :
    forget P (State.vRow s a).1 = forget P s := by
  unfold State.vRow
  try dsimp only
  (repeat' split) <;> first | with_reducible rfl | simp only [round_forget, Nat.reduceLT, ite_forget, ite_self,
      h_free, Fin.is_lt]

theorem vRow_eq {P : Parts} (s : State) (a : Fin 24) {t' : State} {v' : Int} (e : State.vRow s a = (t', v')) (h_free :
    P.free = true) :
    forget P t' = forget P s := by
  have := vRow_forget P s a h_free
  rwa [e] at this

theorem groundTarget_forget (P : Parts) (s : State) (a : Fin 24) (h_free : P.free = true) :
    forget P (State.groundTarget s a).1 = forget P s := by
  unfold State.groundTarget
  try dsimp only
  (repeat' split) <;> first | with_reducible rfl | simp only [round_forget, vRow_forget, Nat.reduceLT, ite_forget,
      ite_self, h_free, Fin.is_lt]

theorem groundTarget_eq {P : Parts} (s : State) (a : Fin 24) {t' : State} {v' : Int} (e : State.groundTarget s a =
    (t', v')) (h_free : P.free = true) :
    forget P t' = forget P s := by
  have := groundTarget_forget P s a h_free
  rwa [e] at this

theorem target_forget (P : Parts) (s : State) (a : Fin 24) (h_free : P.free = true) :
    forget P (State.target s a).1 = forget P s := by
  unfold State.target
  try dsimp only
  (repeat' split) <;> first | with_reducible rfl | simp only [groundTarget_forget, Nat.reduceLT, ite_forget, ite_self,
      h_free, Fin.is_lt]

theorem target_eq {P : Parts} (s : State) (a : Fin 24) {t' : State} {v' : Int} (e : State.target s a = (t', v'))
    (h_free : P.free = true) :
    forget P t' = forget P s := by
  have := target_forget P s a h_free
  rwa [e] at this

theorem limiter_forget (P : Parts) (s : State) (a : Fin 24) (tgt : Int) (dt : Nat) (h_free : P.free = true) (h_ax :
    P.ax = true) (r_AX_REF : P.Has .AX_REF) (r_AX_TARGET : P.Has .AX_TARGET) :
    forget P (State.limiter s a tgt dt) = forget P s := by
  unfold State.limiter
  try dsimp only
  (repeat' split) <;> first | with_reducible rfl | simp only [modAx_forget, round_forget, wr_forget, cov_AX_REF,
      cov_AX_TARGET, axAddr, Nat.reduceLT, ite_forget, ite_self, h_free, h_ax, r_AX_REF, r_AX_TARGET, Fin.is_lt]

theorem measure_forget (P : Parts) (s : State) (a : Fin 24) (h_free : P.free = true) (r_AX_SPD : P.Has .AX_SPD) :
    forget P (State.measure s a) = forget P s := by
  unfold State.measure
  try dsimp only
  (repeat' split) <;> first | with_reducible rfl | simp only [round_forget, took_forget, wr_forget, cov_AX_SPD,
      axAddr, Nat.reduceLT, ite_forget, ite_self, h_free, r_AX_SPD, Fin.is_lt]

theorem watchStall_forget (P : Parts) (s : State) (a : Fin 24) (h_ax : P.ax = true) :
    forget P (State.watchStall s a) = forget P s := by
  unfold State.watchStall
  try dsimp only
  (repeat' split) <;> first | with_reducible rfl | simp only [modAx_forget, Nat.reduceLT, ite_forget, ite_self, h_ax,
      Fin.is_lt]

theorem stall_forget (P : Parts) (a : Fin 24) (s : State) (hev : MayRaise P) (h_ax : P.ax = true) (r_AX_STALLCNT :
    P.Has .AX_STALLCNT) :
    forget P (stall a s) = forget P s := by
  unfold stall
  try dsimp only
  (repeat' split) <;> first | with_reducible rfl | simp only [modAx_forget, raiseAxis_forget, satInc_forget,
      toRetry_forget, toStopped_forget, cov_AX_STALLCNT, axAddr, Nat.reduceLT, ite_forget, ite_self, hev, hev.rcd,
      hev.fresh, hev.evt, h_ax, r_AX_STALLCNT, Fin.is_lt]

theorem hallRead_forget (P : Parts) (s : State) (a : Fin 24) (h : Nat) (hev : MayRaise P) (h_ops : P.ops = true) (h_ax
    : P.ax = true) :
    forget P (State.hallRead s a h) = forget P s := by
  unfold State.hallRead
  try dsimp only
  (repeat' split) <;> first | with_reducible rfl | simp only [modAx_forget, stopAxis_forget, Nat.reduceLT, ite_forget,
      ite_self, hev, hev.rcd, hev.fresh, hev.evt, h_ops, h_ax, Fin.is_lt]

theorem hallEdge_forget (P : Parts) (a : Fin 24) (h : Fin 8) (s : State) (hev : MayRaise P) (h_ops : P.ops = true)
    (h_ax : P.ax = true) (r_AX_HALL : P.Has .AX_HALL) (r_AX_HALLERR : P.Has .AX_HALLERR) :
    forget P (hallEdge a h s) = forget P s := by
  unfold hallEdge
  try dsimp only
  (repeat' split) <;> first | with_reducible rfl | simp only [hallRead_forget, modAx_forget, satInc_forget, wr_forget,
      cov_AX_HALL, cov_AX_HALLERR, axAddr, Nat.reduceLT, ite_forget, ite_self, hev, hev.rcd, hev.fresh, hev.evt,
      h_ops, h_ax, r_AX_HALL, r_AX_HALLERR, Fin.is_lt]

theorem hallConfig_forget (P : Parts) (s : State) (x : Fin 24) (h_ax : P.ax = true) (r_AX_HALL : P.Has .AX_HALL) :
    forget P (State.hallConfig s x) = forget P s := by
  unfold State.hallConfig
  try dsimp only
  (repeat' split) <;> first | with_reducible rfl | simp only [modAx_forget, wr_forget, cov_AX_HALL, axAddr,
      Nat.reduceLT, ite_forget, ite_self, h_ax, r_AX_HALL, Fin.is_lt]

theorem setHall_forget (P : Parts) (s : State) (a : Fin 24) (h : BitVec 3) (h_lands : P.lands = true) :
    forget P (State.setHall s a h) = forget P s := by
  unfold State.setHall
  try dsimp only
  (repeat' split) <;> first | with_reducible rfl | simp only [modLands_forget, Nat.reduceLT, ite_forget, ite_self,
      h_lands, Fin.is_lt]

theorem hallStart_forget (P : Parts) (s : State) (a : Fin 24) (h_ax : P.ax = true) (r_AX_HALL : P.Has .AX_HALL) :
    forget P (State.hallStart s a) = forget P s := by
  unfold State.hallStart
  try dsimp only
  (repeat' split) <;> first | with_reducible rfl | simp only [hallConfig_forget, wr_forget, cov_AX_HALL, axAddr,
      Nat.reduceLT, ite_forget, ite_self, h_ax, r_AX_HALL, Fin.is_lt]

theorem encoderCount_forget (P : Parts) (a : Fin 24) (trackB level : Bool) (s : State) (h_ax : P.ax = true)
    (r_AX_ENCPOS : P.Has .AX_ENCPOS) :
    forget P (encoderCount a trackB level s) = forget P s := by
  unfold encoderCount
  try dsimp only
  (repeat' split) <;> first | with_reducible rfl | simp only [modAx_forget, wr_forget, cov_AX_ENCPOS, axAddr,
      Nat.reduceLT, ite_forget, ite_self, h_ax, r_AX_ENCPOS, Fin.is_lt]

theorem encoderIndex_forget (P : Parts) (a : Fin 24) (s : State) (hev : MayRaise P) (h_ops : P.ops = true) (h_ax :
    P.ax = true) (r_AX_ENCPOS : P.Has .AX_ENCPOS) :
    forget P (encoderIndex a s) = forget P s := by
  unfold encoderIndex
  try dsimp only
  (repeat' split) <;> first | with_reducible rfl | simp only [modAx_forget, stopAxis_forget, wr_forget, cov_AX_ENCPOS,
      axAddr, Nat.reduceLT, ite_forget, ite_self, hev, hev.rcd, hev.fresh, hev.evt, h_ops, h_ax, r_AX_ENCPOS,
      Fin.is_lt]

theorem salAngle_forget (P : Parts) (s : State) (peaks : List (BitVec 16)) (h_free : P.free = true) :
    forget P (State.salAngle s peaks).1 = forget P s := by
  unfold State.salAngle
  try dsimp only
  (repeat' split) <;> first | with_reducible rfl | simp only [pick_forget, Nat.reduceLT, ite_forget, ite_self, h_free,
      Fin.is_lt]

theorem salAngle_eq {P : Parts} (s : State) (peaks : List (BitVec 16)) {t' : State} {v' : Nat} (e : State.salAngle s
    peaks = (t', v')) (h_free : P.free = true) :
    forget P t' = forget P s := by
  have := salAngle_forget P s peaks h_free
  rwa [e] at this

theorem saliencyDone_forget (P : Parts) (a : Fin 24) (peaks : List (BitVec 16)) (s : State) (h_free : P.free = true)
    (h_ax : P.ax = true) :
    forget P (saliencyDone a peaks s) = forget P s := by
  unfold saliencyDone
  try dsimp only
  (repeat' split) <;> first | with_reducible rfl | simp only [modAx_forget, salAngle_forget, Nat.reduceLT, ite_forget,
      ite_self, h_free, h_ax, Fin.is_lt]

theorem alignDone_forget (P : Parts) (a : Fin 24) (s : State) (h_free : P.free = true) (h_ax : P.ax = true)
    (r_AX_ENC_OFS : P.Has .AX_ENC_OFS) :
    forget P (alignDone a s) = forget P s := by
  unfold alignDone
  try dsimp only
  (repeat' split) <;> first | with_reducible rfl | simp only [modAx_forget, round_forget, wr_forget, cov_AX_ENC_OFS,
      axAddr, Nat.reduceLT, ite_forget, ite_self, h_free, h_ax, r_AX_ENC_OFS, Fin.is_lt]

theorem hallPass_forget (P : Parts) (s : State) (a : Fin 24) (held : Nat) (h_free : P.free = true) :
    forget P (State.hallPass s a held).1 = forget P s := by
  unfold State.hallPass
  try dsimp only
  (repeat' split) <;> first | with_reducible rfl | simp only [passes_forget, Nat.reduceLT, ite_forget, ite_self,
      h_free, Fin.is_lt]

theorem hallPass_eq {P : Parts} (s : State) (a : Fin 24) (held : Nat) {t' : State} {v' : Bool} (e : State.hallPass s a
    held = (t', v')) (h_free : P.free = true) :
    forget P t' = forget P s := by
  have := hallPass_forget P s a held h_free
  rwa [e] at this

theorem encoderEdge_forget (P : Parts) (a : Fin 24) (track : Fin 3) (level : Bool) (s : State) (hev : MayRaise P)
    (h_ops : P.ops = true) (h_ax : P.ax = true) (r_AX_ENCPOS : P.Has .AX_ENCPOS) :
    forget P (encoderEdge a track level s) = forget P s := by
  unfold encoderEdge
  try dsimp only
  (repeat' split) <;> first | with_reducible rfl | simp only [encoderCount_forget, encoderIndex_forget, Nat.reduceLT,
      ite_forget, ite_self, hev, hev.rcd, hev.fresh, hev.evt, h_ops, h_ax, r_AX_ENCPOS, Fin.is_lt]

end Sys2Proof.Laws
end

