-- ==== Sys2Proof/Laws/FrameEngine.lean ====
section
/-! SUPPORT. Sys2Proof/Laws/FrameEngine.lean: which parts of the state each operation of Machine/Engine.lean may change. -/
namespace Sys2Proof.Laws
set_option Elab.async false
set_option linter.unusedSimpArgs false
open Sys2Proof.Machine Sys2Proof.Safety

theorem currents_forget (P : Parts) (s : State) (a : Fin 24) (h_free : P.free = true) :
    forget P (State.currents s a).1 = forget P s := by
  unfold State.currents
  try dsimp only
  (repeat' split) <;> first | with_reducible rfl | simp only [pick_forget, Nat.reduceLT, ite_forget, ite_self, h_free,
      Fin.is_lt]

theorem currents_eq {P : Parts} (s : State) (a : Fin 24) {t' : State} {v' : (Fin 3 → Int)} (e : State.currents s a =
    (t', v')) (h_free : P.free = true) :
    forget P t' = forget P s := by
  have := currents_forget P s a h_free
  rwa [e] at this

theorem wrQuant_forget (P : Parts) (s : State) (a : Nat) (x : Rat) (hf : P.free = true) (h : P.covers a = true) :
    forget P (s.wrQuant a x) = forget P s := by
  unfold State.wrQuant
  exact (wr_forget P _ a _ h).trans (quant_forget P s x hf)

theorem foc_forget (P : Parts) (s : State) (a : Fin 24) (ang : Rat) (idRef iqRef : Int) (h_free : P.free = true) (h_ax
    : P.ax = true) (r_AX_ID : P.Has .AX_ID) (r_AX_IQ : P.Has .AX_IQ) (r_AX_VD : P.Has .AX_VD) (r_AX_VQ : P.Has .AX_VQ)
    :
    forget P (State.foc s a ang idRef iqRef).1 = forget P s := by
  unfold State.foc
  try dsimp only
  (repeat' split) <;> first | with_reducible rfl | simp only [currents_forget, modAx_forget, quant_forget, wr_forget,
      wrQuant_forget, cov_AX_ID, cov_AX_IQ, cov_AX_VD, cov_AX_VQ, axAddr, Nat.reduceLT, ite_forget, ite_self, h_free,
      h_ax, r_AX_ID, r_AX_IQ, r_AX_VD, r_AX_VQ, Fin.is_lt]

theorem foc_eq {P : Parts} (s : State) (a : Fin 24) (ang : Rat) (idRef iqRef : Int) {t' : State} {v' : List Rat} (e :
    State.foc s a ang idRef iqRef = (t', v')) (h_free : P.free = true) (h_ax : P.ax = true) (r_AX_ID : P.Has .AX_ID)
    (r_AX_IQ : P.Has .AX_IQ) (r_AX_VD : P.Has .AX_VD) (r_AX_VQ : P.Has .AX_VQ) :
    forget P t' = forget P s := by
  have := foc_forget P s a ang idRef iqRef h_free h_ax r_AX_ID r_AX_IQ r_AX_VD r_AX_VQ
  rwa [e] at this

theorem sixStep_forget (P : Parts) (s : State) (a : Fin 24) (iref dir : Int) (h_free : P.free = true) (h_ax : P.ax =
    true) (r_AX_IQ : P.Has .AX_IQ) (r_AX_VQ : P.Has .AX_VQ) :
    forget P (State.sixStep s a iref dir).1 = forget P s := by
  unfold State.sixStep
  try dsimp only
  (repeat' split) <;> first | with_reducible rfl | simp only [modAx_forget, wr_forget, wrQuant_forget, cov_AX_IQ,
      cov_AX_VQ, axAddr, Nat.reduceLT, ite_forget, ite_self, h_free, h_ax, r_AX_IQ, r_AX_VQ, Fin.is_lt]

theorem sixStep_eq {P : Parts} (s : State) (a : Fin 24) (iref dir : Int) {t' : State} {v' : List Rat × Nat} (e :
    State.sixStep s a iref dir = (t', v')) (h_free : P.free = true) (h_ax : P.ax = true) (r_AX_IQ : P.Has .AX_IQ)
    (r_AX_VQ : P.Has .AX_VQ) :
    forget P t' = forget P s := by
  have := sixStep_forget P s a iref dir h_free h_ax r_AX_IQ r_AX_VQ
  rwa [e] at this

theorem reportCoil_forget (P : Parts) (s : State) (a : Fin 24) (r_AX_IC : P.Has .AX_IC) :
    forget P (State.reportCoil s a) = forget P s := by
  unfold State.reportCoil
  try dsimp only
  repeat' first
    | with_reducible rfl
    | split
    | (simp only [wr_forget, cov_AX_IC, axAddr, Nat.reduceLT, ite_forget, ite_self, r_AX_IC, Fin.is_lt]; done)
    | with_reducible refine Eq.trans (each_forget P _ _ (fun s x => ?_) _) ?_
    | (simp only [wr_forget, cov_AX_IC, axAddr, Nat.reduceLT, ite_forget, ite_self, r_AX_IC, Fin.is_lt])

theorem coilLoop_forget (P : Parts) (s : State) (a : Fin 24) (c : Fin 3) (ref meas : Int) (h_ax : P.ax = true) :
    forget P (State.coilLoop s a c ref meas).1 = forget P s := by
  unfold State.coilLoop
  try dsimp only
  (repeat' split) <;> first | with_reducible rfl | simp only [modAx_forget, Nat.reduceLT, ite_forget, ite_self, h_ax,
      Fin.is_lt]

theorem coilLoop_eq {P : Parts} (s : State) (a : Fin 24) (c : Fin 3) (ref meas : Int) {t' : State} {v' : Rat} (e :
    State.coilLoop s a c ref meas = (t', v')) (h_ax : P.ax = true) :
    forget P t' = forget P s := by
  have := coilLoop_forget P s a c ref meas h_ax
  rwa [e] at this

theorem singleStep_forget (P : Parts) (s : State) (a : Fin 24) (c : Fin 3) (h_ax : P.ax = true) :
    forget P (State.singleStep s a c).1 = forget P s := by
  unfold State.singleStep
  try dsimp only
  (repeat' split) <;> first | with_reducible rfl | simp only [coilLoop_forget, modAx_forget, Nat.reduceLT, ite_forget,
      ite_self, h_ax, Fin.is_lt]

theorem singleStep_eq {P : Parts} (s : State) (a : Fin 24) (c : Fin 3) {t' : State} {v' : Rat} (e : State.singleStep s
    a c = (t', v')) (h_ax : P.ax = true) :
    forget P t' = forget P s := by
  have := singleStep_forget P s a c h_ax
  rwa [e] at this

theorem coilStep_forget (P : Parts) (s : State) (a : Fin 24) (h_ax : P.ax = true) (r_AX_IC : P.Has .AX_IC) :
    forget P (State.coilStep s a).1 = forget P s := by
  unfold State.coilStep
  try dsimp only
  (repeat' split) <;> first | with_reducible rfl | simp only [coilLoop_forget, modAx_forget, reportCoil_forget,
      singleStep_forget, Nat.reduceLT, ite_forget, ite_self, h_ax, r_AX_IC, Fin.is_lt]

theorem coilStep_eq {P : Parts} (s : State) (a : Fin 24) {t' : State} {v' : List Rat} (e : State.coilStep s a = (t',
    v')) (h_ax : P.ax = true) (r_AX_IC : P.Has .AX_IC) :
    forget P t' = forget P s := by
  have := coilStep_forget P s a h_ax r_AX_IC
  rwa [e] at this

theorem cmpOf_forget (P : Parts) (s : State) (a : Fin 24) (d : Rat) (h_free : P.free = true) :
    forget P (State.cmpOf s a d).1 = forget P s := by
  unfold State.cmpOf
  try dsimp only
  (repeat' split) <;> first | with_reducible rfl | simp only [quant_forget, Nat.reduceLT, ite_forget, ite_self,
      h_free, Fin.is_lt]

theorem cmpOf_eq {P : Parts} (s : State) (a : Fin 24) (d : Rat) {t' : State} {v' : Word × Word} (e : State.cmpOf s a d
    = (t', v')) (h_free : P.free = true) :
    forget P t' = forget P s := by
  have := cmpOf_forget P s a d h_free
  rwa [e] at this

theorem writeCompare_forget (P : Parts) (s : State) (t : Nat) (a : Fin 24) (spd : Bool) (duties : List Rat) (chen :
    Nat) (h_free : P.free = true) (h_tim : P.tim = true) (r_AX_LATECNT : P.Has .AX_LATECNT) :
    forget P (State.writeCompare s t a spd duties chen) = forget P s := by
  unfold State.writeCompare
  try dsimp only
  (repeat' split) <;> first | with_reducible rfl | simp only [cmpOf_forget, freeUpTo_forget, modTim_forget,
      satInc_forget, cov_AX_LATECNT, axAddr, Nat.reduceLT, ite_forget, ite_self, h_free, h_tim, r_AX_LATECNT,
      Fin.is_lt]

theorem hallAngle_forget (P : Parts) (s : State) (a : Fin 24) (h_free : P.free = true) :
    forget P (State.hallAngle s a).1 = forget P s := by
  unfold State.hallAngle
  try dsimp only
  (repeat' split) <;> first | with_reducible rfl | simp only [freeUpTo_forget, Nat.reduceLT, ite_forget, ite_self,
      h_free, Fin.is_lt]

theorem hallAngle_eq {P : Parts} (s : State) (a : Fin 24) {t' : State} {v' : Rat} (e : State.hallAngle s a = (t', v'))
    (h_free : P.free = true) :
    forget P t' = forget P s := by
  have := hallAngle_forget P s a h_free
  rwa [e] at this

theorem angleStep_forget (P : Parts) (s : State) (a : Fin 24) (dt : Nat) (h_free : P.free = true) (h_ax : P.ax = true)
    (r_AX_ANGLE : P.Has .AX_ANGLE) :
    forget P (State.angleStep s a dt) = forget P s := by
  unfold State.angleStep
  try dsimp only
  (repeat' split) <;> first | with_reducible rfl | simp only [hallAngle_forget, modAx_forget, round_forget,
      took_forget, wr_forget, cov_AX_ANGLE, axAddr, Nat.reduceLT, ite_forget, ite_self, h_free, h_ax, r_AX_ANGLE,
      Fin.is_lt]

theorem confStep_forget (P : Parts) (s : State) (a : Fin 24) (h_free : P.free = true) (r_AX_CONF : P.Has .AX_CONF) :
    forget P (State.confStep s a) = forget P s := by
  unfold State.confStep
  try dsimp only
  (repeat' split) <;> first | with_reducible rfl | simp only [took_forget, wr_forget, wrQuant_forget, cov_AX_CONF,
      axAddr, Nat.reduceLT, ite_forget, ite_self, h_free, r_AX_CONF, Fin.is_lt]

theorem speedLoop_forget (P : Parts) (s : State) (a : Fin 24) (h_free : P.free = true) (h_ax : P.ax = true) :
    forget P (State.speedLoop s a) = forget P s := by
  unfold State.speedLoop
  try dsimp only
  (repeat' split) <;> first | with_reducible rfl | simp only [modAx_forget, quant_forget, Nat.reduceLT, ite_forget,
      ite_self, h_free, h_ax, Fin.is_lt]

theorem rampStep_forget (P : Parts) (s : State) (a : Fin 24) (dt : Nat) (h_ax : P.ax = true) :
    forget P (State.rampStep s a dt).1 = forget P s := by
  unfold State.rampStep
  try dsimp only
  (repeat' split) <;> first | with_reducible rfl | simp only [modAx_forget, Nat.reduceLT, ite_forget, ite_self, h_ax,
      Fin.is_lt]

theorem rampStep_eq {P : Parts} (s : State) (a : Fin 24) (dt : Nat) {t' : State} {v' : Bool} (e : State.rampStep s a
    dt = (t', v')) (h_ax : P.ax = true) :
    forget P t' = forget P s := by
  have := rampStep_forget P s a dt h_ax
  rwa [e] at this

theorem backToRamp_forget (P : Parts) (s : State) (a : Fin 24) (h_ax : P.ax = true) :
    forget P (State.backToRamp s a) = forget P s := by
  unfold State.backToRamp
  try dsimp only
  (repeat' split) <;> first | with_reducible rfl | simp only [modAx_forget, Nat.reduceLT, ite_forget, ite_self, h_ax,
      Fin.is_lt]

theorem afterLimit_forget (P : Parts) (s : State) (a : Fin 24) (dt : Nat) (parked : Bool) (hev : MayRaise P) (h_free :
    P.free = true) (h_ax : P.ax = true) (r_AX_STARTS : P.Has .AX_STARTS) :
    forget P (State.afterLimit s a dt parked).1 = forget P s := by
  unfold State.afterLimit
  try dsimp only
  (repeat' split) <;> first | with_reducible rfl | simp only [backToRamp_forget, modAx_forget, rampStep_forget,
      speedLoop_forget, startUp_forget, toStopped_forget, Nat.reduceLT, ite_forget, ite_self, hev, hev.rcd, hev.fresh,
      hev.evt, h_free, h_ax, r_AX_STARTS, Fin.is_lt]

theorem afterLimit_eq {P : Parts} (s : State) (a : Fin 24) (dt : Nat) (parked : Bool) {t' : State} {v' : Bool} (e :
    State.afterLimit s a dt parked = (t', v')) (hev : MayRaise P) (h_free : P.free = true) (h_ax : P.ax = true)
    (r_AX_STARTS : P.Has .AX_STARTS) :
    forget P t' = forget P s := by
  have := afterLimit_forget P s a dt parked hev h_free h_ax r_AX_STARTS
  rwa [e] at this

theorem showTarget_forget (P : Parts) (s : State) (a : Fin 24) (h_free : P.free = true) (h_ax : P.ax = true)
    (r_AX_TARGET : P.Has .AX_TARGET) :
    forget P (State.showTarget s a) = forget P s := by
  unfold State.showTarget
  try dsimp only
  (repeat' split) <;> first | with_reducible rfl | simp only [modAx_forget, round_forget, target_forget, wr_forget,
      cov_AX_TARGET, axAddr, Nat.reduceLT, ite_forget, ite_self, h_free, h_ax, r_AX_TARGET, Fin.is_lt]

theorem speedStep_forget (P : Parts) (s : State) (t : Nat) (a : Fin 24) (hev : MayRaise P) (h_free : P.free = true)
    (h_ax : P.ax = true) (r_AX_REF : P.Has .AX_REF) (r_AX_STARTS : P.Has .AX_STARTS) (r_AX_TARGET : P.Has .AX_TARGET)
    :
    forget P (State.speedStep s t a).1 = forget P s := by
  unfold State.speedStep
  try dsimp only
  (repeat' split) <;> first | with_reducible rfl | simp only [afterLimit_forget, limiter_forget, modAx_forget,
      showTarget_forget, target_forget, toStopped_forget, Nat.reduceLT, ite_forget, ite_self, hev, hev.rcd, hev.fresh,
      hev.evt, h_free, h_ax, r_AX_REF, r_AX_STARTS, r_AX_TARGET, Fin.is_lt]

theorem speedStep_eq {P : Parts} (s : State) (t : Nat) (a : Fin 24) {t' : State} {v' : Bool} (e : State.speedStep s t
    a = (t', v')) (hev : MayRaise P) (h_free : P.free = true) (h_ax : P.ax = true) (r_AX_REF : P.Has .AX_REF)
    (r_AX_STARTS : P.Has .AX_STARTS) (r_AX_TARGET : P.Has .AX_TARGET) :
    forget P t' = forget P s := by
  have := speedStep_forget P s t a hev h_free h_ax r_AX_REF r_AX_STARTS r_AX_TARGET
  rwa [e] at this

theorem staleStep_forget (P : Parts) (s : State) (a : Fin 24) (hev : MayRaise P) (h_ops : P.ops = true) (h_ax : P.ax =
    true) (r_AX_STALECNT : P.Has .AX_STALECNT) :
    forget P (State.staleStep s a) = forget P s := by
  unfold State.staleStep
  try dsimp only
  (repeat' split) <;> first | with_reducible rfl | simp only [modAx_forget, satInc_forget, stopAxis_forget,
      cov_AX_STALECNT, axAddr, Nat.reduceLT, ite_forget, ite_self, hev, hev.rcd, hev.fresh, hev.evt, h_ops, h_ax,
      r_AX_STALECNT, Fin.is_lt]

theorem plausStep_forget (P : Parts) (s : State) (a : Fin 24) (h_ax : P.ax = true) :
    forget P (State.plausStep s a) = forget P s := by
  unfold State.plausStep
  try dsimp only
  (repeat' split) <;> first | with_reducible rfl | simp only [modAx_forget, Nat.reduceLT, ite_forget, ite_self, h_ax,
      Fin.is_lt]

theorem estimated_forget (P : Parts) (s : State) (a : Fin 24) (h_free : P.free = true) :
    forget P (State.estimated s a).1 = forget P s := by
  unfold State.estimated
  try dsimp only
  (repeat' split) <;> first | with_reducible rfl | simp only [took_forget, Nat.reduceLT, ite_forget, ite_self, h_free,
      Fin.is_lt]

theorem estimated_eq {P : Parts} (s : State) (a : Fin 24) {t' : State} {v' : Rat × Rat} (e : State.estimated s a =
    (t', v')) (h_free : P.free = true) :
    forget P t' = forget P s := by
  have := estimated_forget P s a h_free
  rwa [e] at this

theorem handoverStep_forget (P : Parts) (s : State) (a : Fin 24) (dt : Nat) (h_free : P.free = true) (h_ax : P.ax =
    true) :
    forget P (State.handoverStep s a dt) = forget P s := by
  unfold State.handoverStep
  try dsimp only
  (repeat' split) <;> first | with_reducible rfl | simp only [estimated_forget, modAx_forget, Nat.reduceLT,
      ite_forget, ite_self, h_free, h_ax, Fin.is_lt]

theorem retryStep_forget (P : Parts) (s : State) (a : Fin 24) (h_ax : P.ax = true) :
    forget P (State.retryStep s a) = forget P s := by
  unfold State.retryStep
  try dsimp only
  (repeat' split) <;> first | with_reducible rfl | simp only [modAx_forget, Nat.reduceLT, ite_forget, ite_self, h_ax,
      Fin.is_lt]

theorem holdOut_forget (P : Parts) (s : State) (a : Fin 24) (h_free : P.free = true) (h_ax : P.ax = true) (r_AX_ID :
    P.Has .AX_ID) (r_AX_IQ : P.Has .AX_IQ) (r_AX_VD : P.Has .AX_VD) (r_AX_VQ : P.Has .AX_VQ) :
    forget P (State.holdOut s a).1 = forget P s := by
  unfold State.holdOut
  try dsimp only
  (repeat' split) <;> first | with_reducible rfl | simp only [foc_forget, Nat.reduceLT, ite_forget, ite_self, h_free,
      h_ax, r_AX_ID, r_AX_IQ, r_AX_VD, r_AX_VQ, Fin.is_lt]

theorem holdOut_eq {P : Parts} (s : State) (a : Fin 24) {t' : State} {v' : List Rat × Nat} (e : State.holdOut s a =
    (t', v')) (h_free : P.free = true) (h_ax : P.ax = true) (r_AX_ID : P.Has .AX_ID) (r_AX_IQ : P.Has .AX_IQ) (r_AX_VD
    : P.Has .AX_VD) (r_AX_VQ : P.Has .AX_VQ) :
    forget P t' = forget P s := by
  have := holdOut_forget P s a h_free h_ax r_AX_ID r_AX_IQ r_AX_VD r_AX_VQ
  rwa [e] at this

theorem salOut_forget (P : Parts) (s : State) (t : Nat) (a : Fin 24) (h_ax : P.ax = true) :
    forget P (State.salOut s t a).1 = forget P s := by
  unfold State.salOut
  try dsimp only
  (repeat' split) <;> first | with_reducible rfl | simp only [modAx_forget, Nat.reduceLT, ite_forget, ite_self, h_ax,
      Fin.is_lt]

theorem salOut_eq {P : Parts} (s : State) (t : Nat) (a : Fin 24) {t' : State} {v' : List Rat × Nat} (e : State.salOut
    s t a = (t', v')) (h_ax : P.ax = true) :
    forget P t' = forget P s := by
  have := salOut_forget P s t a h_ax
  rwa [e] at this

theorem identStage_forget (P : Parts) (s : State) (t : Nat) (a : Fin 24) (i : Fin 8) (h_free : P.free = true) (h_ax :
    P.ax = true) :
    forget P (State.identStage s t a i) = forget P s := by
  unfold State.identStage
  try dsimp only
  (repeat' split) <;> first | with_reducible rfl | simp only [modAx_forget, took_forget, Nat.reduceLT, ite_forget,
      ite_self, h_free, h_ax, Fin.is_lt]

theorem testCurrent_forget (P : Parts) (s : State) (a : Fin 24) (i : Fin 8) (h_free : P.free = true) :
    forget P (State.testCurrent s a i).1 = forget P s := by
  unfold State.testCurrent
  try dsimp only
  (repeat' split) <;> first | with_reducible rfl | simp only [round_forget, Nat.reduceLT, ite_forget, ite_self,
      h_free, Fin.is_lt]

theorem testCurrent_eq {P : Parts} (s : State) (a : Fin 24) (i : Fin 8) {t' : State} {v' : Int} (e : State.testCurrent
    s a i = (t', v')) (h_free : P.free = true) :
    forget P t' = forget P s := by
  have := testCurrent_forget P s a i h_free
  rwa [e] at this

theorem identHold_forget (P : Parts) (s : State) (t : Nat) (a : Fin 24) (it : Int) (h_free : P.free = true) (h_ax :
    P.ax = true) (r_AX_ID : P.Has .AX_ID) (r_AX_IQ : P.Has .AX_IQ) (r_AX_VD : P.Has .AX_VD) (r_AX_VQ : P.Has .AX_VQ) :
    forget P (State.identHold s t a it).1 = forget P s := by
  unfold State.identHold
  try dsimp only
  (repeat' split) <;> first | with_reducible rfl | simp only [foc_forget, modAx_forget, quant_forget, took_forget,
      Nat.reduceLT, ite_forget, ite_self, h_free, h_ax, r_AX_ID, r_AX_IQ, r_AX_VD, r_AX_VQ, Fin.is_lt]

theorem identHold_eq {P : Parts} (s : State) (t : Nat) (a : Fin 24) (it : Int) {t' : State} {v' : List Rat × Nat} (e :
    State.identHold s t a it = (t', v')) (h_free : P.free = true) (h_ax : P.ax = true) (r_AX_ID : P.Has .AX_ID)
    (r_AX_IQ : P.Has .AX_IQ) (r_AX_VD : P.Has .AX_VD) (r_AX_VQ : P.Has .AX_VQ) :
    forget P t' = forget P s := by
  have := identHold_forget P s t a it h_free h_ax r_AX_ID r_AX_IQ r_AX_VD r_AX_VQ
  rwa [e] at this

theorem identPulse_forget (P : Parts) (s : State) (t : Nat) (a : Fin 24) (deg : Nat) (h_free : P.free = true) (h_ax :
    P.ax = true) :
    forget P (State.identPulse s t a deg).1 = forget P s := by
  unfold State.identPulse
  try dsimp only
  (repeat' split) <;> first | with_reducible rfl | simp only [modAx_forget, took_forget, Nat.reduceLT, ite_forget,
      ite_self, h_free, h_ax, Fin.is_lt]

theorem identPulse_eq {P : Parts} (s : State) (t : Nat) (a : Fin 24) (deg : Nat) {t' : State} {v' : List Rat × Nat} (e
    : State.identPulse s t a deg = (t', v')) (h_free : P.free = true) (h_ax : P.ax = true) :
    forget P t' = forget P s := by
  have := identPulse_forget P s t a deg h_free h_ax
  rwa [e] at this

theorem identSpin_forget (P : Parts) (s : State) (a : Fin 24) (dt : Nat) (it : Int) (h_free : P.free = true) (h_ax :
    P.ax = true) (r_AX_ID : P.Has .AX_ID) (r_AX_IQ : P.Has .AX_IQ) (r_AX_VD : P.Has .AX_VD) (r_AX_VQ : P.Has .AX_VQ) :
    forget P (State.identSpin s a dt it).1 = forget P s := by
  unfold State.identSpin
  try dsimp only
  (repeat' split) <;> first | with_reducible rfl | simp only [foc_forget, modAx_forget, took_forget, Nat.reduceLT,
      ite_forget, ite_self, h_free, h_ax, r_AX_ID, r_AX_IQ, r_AX_VD, r_AX_VQ, Fin.is_lt]

theorem identSpin_eq {P : Parts} (s : State) (a : Fin 24) (dt : Nat) (it : Int) {t' : State} {v' : List Rat × Nat} (e
    : State.identSpin s a dt it = (t', v')) (h_free : P.free = true) (h_ax : P.ax = true) (r_AX_ID : P.Has .AX_ID)
    (r_AX_IQ : P.Has .AX_IQ) (r_AX_VD : P.Has .AX_VD) (r_AX_VQ : P.Has .AX_VQ) :
    forget P t' = forget P s := by
  have := identSpin_forget P s a dt it h_free h_ax r_AX_ID r_AX_IQ r_AX_VD r_AX_VQ
  rwa [e] at this

theorem identOut_forget (P : Parts) (s : State) (t : Nat) (a : Fin 24) (dt : Nat) (h_free : P.free = true) (h_ax :
    P.ax = true) (r_AX_ID : P.Has .AX_ID) (r_AX_IQ : P.Has .AX_IQ) (r_AX_VD : P.Has .AX_VD) (r_AX_VQ : P.Has .AX_VQ) :
    forget P (State.identOut s t a dt).1 = forget P s := by
  unfold State.identOut
  try dsimp only
  (repeat' split) <;> first | with_reducible rfl | simp only [holdOut_forget, identHold_forget, identPulse_forget,
      identSpin_forget, identStage_forget, testCurrent_forget, Nat.reduceLT, ite_forget, ite_self, h_free, h_ax,
      r_AX_ID, r_AX_IQ, r_AX_VD, r_AX_VQ, Fin.is_lt]

theorem identOut_eq {P : Parts} (s : State) (t : Nat) (a : Fin 24) (dt : Nat) {t' : State} {v' : List Rat × Nat} (e :
    State.identOut s t a dt = (t', v')) (h_free : P.free = true) (h_ax : P.ax = true) (r_AX_ID : P.Has .AX_ID)
    (r_AX_IQ : P.Has .AX_IQ) (r_AX_VD : P.Has .AX_VD) (r_AX_VQ : P.Has .AX_VQ) :
    forget P t' = forget P s := by
  have := identOut_forget P s t a dt h_free h_ax r_AX_ID r_AX_IQ r_AX_VD r_AX_VQ
  rwa [e] at this

theorem identLeave_forget (P : Parts) (s : State) (a : Fin 24) (hev : MayRaise P) (h_ax : P.ax = true) :
    forget P (State.identLeave s a) = forget P s := by
  unfold State.identLeave
  try dsimp only
  (repeat' split) <;> first | with_reducible rfl | simp only [toStopped_forget, Nat.reduceLT, ite_forget, ite_self,
      hev, hev.rcd, hev.fresh, hev.evt, h_ax, Fin.is_lt]

theorem currentRef_forget (P : Parts) (s : State) (a : Fin 24) (h_ax : P.ax = true) :
    forget P (State.currentRef s a).1 = forget P s := by
  unfold State.currentRef
  try dsimp only
  (repeat' split) <;> first | with_reducible rfl | simp only [modAx_forget, Nat.reduceLT, ite_forget, ite_self, h_ax,
      Fin.is_lt]

theorem currentRef_eq {P : Parts} (s : State) (a : Fin 24) {t' : State} {v' : Int} (e : State.currentRef s a = (t',
    v')) (h_ax : P.ax = true) :
    forget P t' = forget P s := by
  have := currentRef_forget P s a h_ax
  rwa [e] at this

theorem runOut_forget (P : Parts) (s : State) (a : Fin 24) (h_free : P.free = true) (h_ax : P.ax = true) (r_AX_IC :
    P.Has .AX_IC) (r_AX_ID : P.Has .AX_ID) (r_AX_IQ : P.Has .AX_IQ) (r_AX_VD : P.Has .AX_VD) (r_AX_VQ : P.Has .AX_VQ)
    :
    forget P (State.runOut s a).1 = forget P s := by
  unfold State.runOut
  try dsimp only
  (repeat' split) <;> first | with_reducible rfl | simp only [coilStep_forget, currentRef_forget, foc_forget,
      sixStep_forget, Nat.reduceLT, ite_forget, ite_self, h_free, h_ax, r_AX_IC, r_AX_ID, r_AX_IQ, r_AX_VD, r_AX_VQ,
      Fin.is_lt]

theorem runOut_eq {P : Parts} (s : State) (a : Fin 24) {t' : State} {v' : List Rat × Nat} (e : State.runOut s a = (t',
    v')) (h_free : P.free = true) (h_ax : P.ax = true) (r_AX_IC : P.Has .AX_IC) (r_AX_ID : P.Has .AX_ID) (r_AX_IQ :
    P.Has .AX_IQ) (r_AX_VD : P.Has .AX_VD) (r_AX_VQ : P.Has .AX_VQ) :
    forget P t' = forget P s := by
  have := runOut_forget P s a h_free h_ax r_AX_IC r_AX_ID r_AX_IQ r_AX_VD r_AX_VQ
  rwa [e] at this

theorem rampOut_forget (P : Parts) (s : State) (a : Fin 24) (h_free : P.free = true) (h_ax : P.ax = true) (r_AX_ID :
    P.Has .AX_ID) (r_AX_IQ : P.Has .AX_IQ) (r_AX_VD : P.Has .AX_VD) (r_AX_VQ : P.Has .AX_VQ) :
    forget P (State.rampOut s a).1 = forget P s := by
  unfold State.rampOut
  try dsimp only
  (repeat' split) <;> first | with_reducible rfl | simp only [foc_forget, sixStep_forget, Nat.reduceLT, ite_forget,
      ite_self, h_free, h_ax, r_AX_ID, r_AX_IQ, r_AX_VD, r_AX_VQ, Fin.is_lt]

theorem rampOut_eq {P : Parts} (s : State) (a : Fin 24) {t' : State} {v' : List Rat × Nat} (e : State.rampOut s a =
    (t', v')) (h_free : P.free = true) (h_ax : P.ax = true) (r_AX_ID : P.Has .AX_ID) (r_AX_IQ : P.Has .AX_IQ) (r_AX_VD
    : P.Has .AX_VD) (r_AX_VQ : P.Has .AX_VQ) :
    forget P t' = forget P s := by
  have := rampOut_forget P s a h_free h_ax r_AX_ID r_AX_IQ r_AX_VD r_AX_VQ
  rwa [e] at this

theorem output_forget (P : Parts) (s : State) (t : Nat) (a : Fin 24) (dt : Nat) (h_free : P.free = true) (h_ax : P.ax
    = true) (r_AX_IC : P.Has .AX_IC) (r_AX_ID : P.Has .AX_ID) (r_AX_IQ : P.Has .AX_IQ) (r_AX_VD : P.Has .AX_VD)
    (r_AX_VQ : P.Has .AX_VQ) :
    forget P (State.output s t a dt).1 = forget P s := by
  unfold State.output
  try dsimp only
  (repeat' split) <;> first | with_reducible rfl | simp only [foc_forget, holdOut_forget, identOut_forget,
      rampOut_forget, runOut_forget, salOut_forget, Nat.reduceLT, ite_forget, ite_self, h_free, h_ax, r_AX_IC,
      r_AX_ID, r_AX_IQ, r_AX_VD, r_AX_VQ, Fin.is_lt]

theorem output_eq {P : Parts} (s : State) (t : Nat) (a : Fin 24) (dt : Nat) {t' : State} {v' : List Rat × Nat} (e :
    State.output s t a dt = (t', v')) (h_free : P.free = true) (h_ax : P.ax = true) (r_AX_IC : P.Has .AX_IC) (r_AX_ID
    : P.Has .AX_ID) (r_AX_IQ : P.Has .AX_IQ) (r_AX_VD : P.Has .AX_VD) (r_AX_VQ : P.Has .AX_VQ) :
    forget P t' = forget P s := by
  have := output_forget P s t a dt h_free h_ax r_AX_IC r_AX_ID r_AX_IQ r_AX_VD r_AX_VQ
  rwa [e] at this

theorem engineRun_forget (P : Parts) (s : State) (t : Nat) (a : Fin 24) (spd : Bool) (hev : MayRaise P) (h_free :
    P.free = true) (h_ops : P.ops = true) (h_tim : P.tim = true) (h_ax : P.ax = true) (h_sol : P.sol = true)
    (r_AX_ANGLE : P.Has .AX_ANGLE) (r_AX_CONF : P.Has .AX_CONF) (r_AX_IC : P.Has .AX_IC) (r_AX_ID : P.Has .AX_ID)
    (r_AX_IQ : P.Has .AX_IQ) (r_AX_LATECNT : P.Has .AX_LATECNT) (r_AX_REF : P.Has .AX_REF) (r_AX_SPD : P.Has .AX_SPD)
    (r_AX_STALECNT : P.Has .AX_STALECNT) (r_AX_STARTS : P.Has .AX_STARTS) (r_AX_TARGET : P.Has .AX_TARGET) (r_AX_VD :
    P.Has .AX_VD) (r_AX_VQ : P.Has .AX_VQ) (r_SOL_EXPOVF : P.Has .SOL_EXPOVF) :
    forget P (State.engineRun s t a spd) = forget P s := by
  unfold State.engineRun
  try dsimp only
  (repeat' split) <;> first | with_reducible rfl | simp only [angleStep_forget, confStep_forget, hallRead_forget,
      handoverStep_forget, identLeave_forget, measure_forget, meterStep_forget, modAx_forget, output_forget,
      plausStep_forget, retryStep_forget, speedStep_forget, staleStep_forget, startFail_forget, watchStall_forget,
      writeCompare_forget, Nat.reduceLT, ite_forget, ite_self, hev, hev.rcd, hev.fresh, hev.evt, h_free, h_ops, h_tim,
      h_ax, h_sol, r_AX_ANGLE, r_AX_CONF, r_AX_IC, r_AX_ID, r_AX_IQ, r_AX_LATECNT, r_AX_REF, r_AX_SPD, r_AX_STALECNT,
      r_AX_STARTS, r_AX_TARGET, r_AX_VD, r_AX_VQ, r_SOL_EXPOVF, Fin.is_lt]

theorem engineTick_forget (P : Parts) (t : Nat) (a : Fin 24) (s : State) (hev : MayRaise P) (h_free : P.free = true)
    (h_ops : P.ops = true) (h_tim : P.tim = true) (h_ax : P.ax = true) (h_sol : P.sol = true) (r_AX_ANGLE : P.Has
    .AX_ANGLE) (r_AX_CONF : P.Has .AX_CONF) (r_AX_IC : P.Has .AX_IC) (r_AX_ID : P.Has .AX_ID) (r_AX_IQ : P.Has .AX_IQ)
    (r_AX_LATECNT : P.Has .AX_LATECNT) (r_AX_REF : P.Has .AX_REF) (r_AX_SKIPCNT : P.Has .AX_SKIPCNT) (r_AX_SPD : P.Has
    .AX_SPD) (r_AX_STALECNT : P.Has .AX_STALECNT) (r_AX_STARTS : P.Has .AX_STARTS) (r_AX_TARGET : P.Has .AX_TARGET)
    (r_AX_VD : P.Has .AX_VD) (r_AX_VQ : P.Has .AX_VQ) (r_SOL_EXPOVF : P.Has .SOL_EXPOVF) :
    forget P (engineTick t a s) = forget P s := by
  unfold engineTick
  try dsimp only
  (repeat' split) <;> first | with_reducible rfl | simp only [engineRun_forget, modAx_forget, satInc_forget,
      cov_AX_SKIPCNT, axAddr, Nat.reduceLT, ite_forget, ite_self, hev, hev.rcd, hev.fresh, hev.evt, h_free, h_ops,
      h_tim, h_ax, h_sol, r_AX_ANGLE, r_AX_CONF, r_AX_IC, r_AX_ID, r_AX_IQ, r_AX_LATECNT, r_AX_REF, r_AX_SKIPCNT,
      r_AX_SPD, r_AX_STALECNT, r_AX_STARTS, r_AX_TARGET, r_AX_VD, r_AX_VQ, r_SOL_EXPOVF, Fin.is_lt]

end Sys2Proof.Laws
end

