-- ==== Sys2Proof/Laws/FrameRegs.lean ====
section
/-! SUPPORT. Sys2Proof/Laws/FrameRegs.lean: which parts of the state each operation of Machine/Regs.lean may change. -/
namespace Sys2Proof.Laws
set_option Elab.async false
set_option linter.unusedSimpArgs false
open Sys2Proof.Machine Sys2Proof.Safety

theorem reportSat_forget (P : Parts) (s : State) (a : Nat) (v : Word) (x0 : Nat) (hev : MayRaise P) (r_IMG_LIMLAST :
    P.Has .IMG_LIMLAST) (r_IMG_LIMSAT : P.Has .IMG_LIMSAT) :
    forget P (State.reportSat s a v x0) = forget P s := by
  induction x0 generalizing s with
  | zero => rfl
  | succ n ih =>
    rw [State.reportSat, ih, raise_forget P _ _ _ _ evLIMIT_SAT_lt hev, wr_forget P _ _ _ (cov_IMG_LIMLAST r_IMG_LIMLAST),
      satInc_forget P _ _ (cov_IMG_LIMSAT r_IMG_LIMSAT)]

theorem delayedWrite_forget (P : Parts) (s : State) (t : Nat) (r : Reg) (ix : List Nat) (v : Word) (h_tim : P.tim =
    true) (h_hb : P.hb = true) :
    forget P (State.delayedWrite s t r ix v) = forget P s := by
  unfold State.delayedWrite
  try dsimp only
  (repeat' split) <;> first | with_reducible rfl | simp only [modGate_forget, modTim_forget, Nat.reduceLT, ite_forget,
      ite_self, h_tim, h_hb, Fin.is_lt]

theorem storeWord_forget (P : Parts) (s : State) (t a : Nat) (d : Word) (hev : MayRaise P) (h_tim : P.tim = true)
    (h_hb : P.hb = true) (r_IMG_LIMLAST : P.Has .IMG_LIMLAST) (r_IMG_LIMSAT : P.Has .IMG_LIMSAT) (h_a : P.covers a =
    true) :
    forget P (State.storeWord s t a d) = forget P s := by
  unfold State.storeWord
  split
  · rfl
  · dsimp only
    rw [reportSat_forget P _ _ _ _ hev r_IMG_LIMLAST r_IMG_LIMSAT, delayedWrite_forget P _ _ _ _ _ h_tim h_hb, wr_forget P _ _ _ h_a]

end Sys2Proof.Laws
end

