-- ==== Sys2Proof/Laws/FrameFusion.lean ====
section
/-! SUPPORT. Sys2Proof/Laws/FrameFusion.lean: which parts of the state each operation of Machine/Fusion.lean may change. -/
namespace Sys2Proof.Laws
set_option Elab.async false
set_option linter.unusedSimpArgs false
open Sys2Proof.Machine Sys2Proof.Safety

theorem redirect_forget (P : Parts) (s : State) (t : Nat) (h_fus : P.fus = true) :
    forget P (State.redirect s t) = forget P s := by
  unfold State.redirect
  try dsimp only
  (repeat' split) <;> first | with_reducible rfl | simp only [modFus_forget, Nat.reduceLT, ite_forget, ite_self,
      h_fus, Fin.is_lt]

theorem cov_inV {P : Parts} (h : P.Has .FUS_IN_V) (x : Nat) : P.covers (A.FUS_IN_V (x % 6)) = true :=
  cov_FUS_IN_V h _ (Nat.mod_lt _ (by decide))

theorem acceptCount_forget (P : Parts) (s : State) (n : Fin 4) (d : Int) (t : Nat) (i : Rat) (h_fus : P.fus = true)
    (r_FUS_WHL_CNT : P.Has .FUS_WHL_CNT) :
    forget P (State.acceptCount s n d t i) = forget P s := by
  have hw : ∀ (s : State) (v : Nat), forget P (s.wrQ (A.FUS_WHL_CNT n.val 0) 2 v) = forget P s := by
    intro s v; apply wrQ_forget; intro i hi
    rw [show A.FUS_WHL_CNT n.val 0 + i = A.FUS_WHL_CNT n.val (0 + i) from by unfold A.FUS_WHL_CNT; omega]; exact
        cov_FUS_WHL_CNT r_FUS_WHL_CNT _ _ (by omega) (by omega)
  unfold State.acceptCount
  try dsimp only
  (repeat' split) <;> first | with_reducible rfl | simp only [modFus_forget, hw, Nat.reduceLT, ite_forget, ite_self,
      h_fus, r_FUS_WHL_CNT, Fin.is_lt]

theorem newCount_forget (P : Parts) (s : State) (n : Fin 4) (d : Int) (hev : MayRaise P) (h_free : P.free = true)
    (h_fus : P.fus = true) (r_FUS_WHL_CNT : P.Has .FUS_WHL_CNT) (r_FUS_WHL_INS : P.Has .FUS_WHL_INS) (r_FUS_WHL_NOISE
    : P.Has .FUS_WHL_NOISE) :
    forget P (State.newCount s n d) = forget P s := by
  unfold State.newCount
  try dsimp only
  (repeat' split) <;> first | with_reducible rfl | simp only [acceptCount_forget, evWHL_INSERT_lt, evWHL_NOISE_lt,
      quant_forget, raise_forget, satInc_forget, cov_FUS_WHL_INS, cov_FUS_WHL_NOISE, Nat.reduceLT, ite_forget,
      ite_self, hev, hev.rcd, hev.fresh, hev.evt, h_free, h_fus, r_FUS_WHL_CNT, r_FUS_WHL_INS, r_FUS_WHL_NOISE,
      Fin.is_lt]

theorem setWhl_forget (P : Parts) (s : State) (n : Fin 4) (trackB level : Bool) (h_lands : P.lands = true) :
    forget P (State.setWhl s n trackB level) = forget P s := by
  unfold State.setWhl
  try dsimp only
  (repeat' split) <;> first | with_reducible rfl | simp only [modLands_forget, Nat.reduceLT, ite_forget, ite_self,
      h_lands, Fin.is_lt]

theorem wheelEdge_forget (P : Parts) (n : Fin 4) (trackB level : Bool) (s : State) (hev : MayRaise P) (h_free : P.free
    = true) (h_fus : P.fus = true) (h_lands : P.lands = true) (r_FUS_WHL_CNT : P.Has .FUS_WHL_CNT) (r_FUS_WHL_INS :
    P.Has .FUS_WHL_INS) (r_FUS_WHL_NOISE : P.Has .FUS_WHL_NOISE) :
    forget P (wheelEdge n trackB level s) = forget P s := by
  unfold wheelEdge
  try dsimp only
  (repeat' split) <;> first | with_reducible rfl | simp only [newCount_forget, redirect_forget, setWhl_forget,
      Nat.reduceLT, ite_forget, ite_self, hev, hev.rcd, hev.fresh, hev.evt, h_free, h_fus, h_lands, r_FUS_WHL_CNT,
      r_FUS_WHL_INS, r_FUS_WHL_NOISE, Fin.is_lt]

theorem fixStamp_forget (P : Parts) (s : State) (dollar : Nat) (time : List Nat) (h_free : P.free = true) :
    forget P (State.fixStamp s dollar time).1 = forget P s := by
  unfold State.fixStamp
  try dsimp only
  (repeat' split) <;> first | with_reducible rfl | simp only [quant_forget, Nat.reduceLT, ite_forget, ite_self,
      h_free, Fin.is_lt]

theorem fixStamp_eq {P : Parts} (s : State) (dollar : Nat) (time : List Nat) {t' : State} {v' : Nat} (e :
    State.fixStamp s dollar time = (t', v')) (h_free : P.free = true) :
    forget P t' = forget P s := by
  have := fixStamp_forget P s dollar time h_free
  rwa [e] at this

theorem gnssSample_forget (P : Parts) (s : State) (st : Nat) (v course : Option Rat) (h_free : P.free = true) (h_fus :
    P.fus = true) :
    forget P (State.gnssSample s st v course) = forget P s := by
  unfold State.gnssSample
  try dsimp only
  (repeat' split) <;> first | with_reducible rfl | simp only [modFus_forget, round_forget, Nat.reduceLT, ite_forget,
      ite_self, h_free, h_fus, Fin.is_lt]

theorem gnssFields_forget (P : Parts) (s : State) (fs : List (List Nat)) (dollar : Nat) (h_free : P.free = true)
    (h_fus : P.fus = true) (r_FUS_GNSS_FIX : P.Has .FUS_GNSS_FIX) :
    forget P (State.gnssFields s fs dollar) = forget P s := by
  unfold State.gnssFields
  try dsimp only
  (repeat' split) <;> first | with_reducible rfl | simp only [fixStamp_forget, gnssSample_forget, modFus_forget,
      wr_forget, cov_FUS_GNSS_FIX, Nat.reduceLT, ite_forget, ite_self, h_free, h_fus, r_FUS_GNSS_FIX, Fin.is_lt]

theorem gnssSentence_forget (P : Parts) (bytes : List Byte) (framing : Bool) (dollar : Nat) (s : State) (hev :
    MayRaise P) (h_free : P.free = true) (h_fus : P.fus = true) (r_FUS_GNSS_ERR : P.Has .FUS_GNSS_ERR) (r_FUS_GNSS_FIX
    : P.Has .FUS_GNSS_FIX) :
    forget P (gnssSentence bytes framing dollar s) = forget P s := by
  unfold gnssSentence
  try dsimp only
  (repeat' split) <;> first | with_reducible rfl | simp only [evGNSS_ERR_lt, gnssFields_forget, raise_forget,
      satInc_forget, cov_FUS_GNSS_ERR, Nat.reduceLT, ite_forget, ite_self, hev, hev.rcd, hev.fresh, hev.evt, h_free,
      h_fus, r_FUS_GNSS_ERR, r_FUS_GNSS_FIX, Fin.is_lt]

theorem imuTrigger_forget (P : Parts) (s : State) (hev : MayRaise P) (h_fus : P.fus = true) (r_FUS_IMU_LOST : P.Has
    .FUS_IMU_LOST) :
    forget P (imuTrigger s) = forget P s := by
  unfold imuTrigger
  try dsimp only
  (repeat' split) <;> first | with_reducible rfl | simp only [evIMU_ERR_lt, modFus_forget, raise_forget,
      satInc_forget, cov_FUS_IMU_LOST, Nat.reduceLT, ite_forget, ite_self, hev, hev.rcd, hev.fresh, hev.evt, h_fus,
      r_FUS_IMU_LOST, Fin.is_lt]

theorem fitS_forget (P : Parts) (s : State) (n : Int) (h_free : P.free = true) :
    forget P (State.fitS s n).1 = forget P s := by
  unfold State.fitS
  try dsimp only
  (repeat' split) <;> first | with_reducible rfl | simp only [took_forget, Nat.reduceLT, ite_forget, ite_self, h_free,
      Fin.is_lt]

theorem fitS_eq {P : Parts} (s : State) (n : Int) {t' : State} {v' : Word} (e : State.fitS s n = (t', v')) (h_free :
    P.free = true) :
    forget P t' = forget P s := by
  have := fitS_forget P s n h_free
  rwa [e] at this

theorem imuStep_forget (P : Parts) (s : State) (st : Nat) (p : ImuStep) (w : BitVec 16) (h_free : P.free = true)
    (h_fus : P.fus = true) (r_FUS_IMU : P.Has .FUS_IMU) :
    forget P (State.imuStep s st p w) = forget P s := by
  unfold State.imuStep
  split
  · rfl
  · have hb : P.covers (A.FUS_IMU (p.dest - 1)) = true := cov_FUS_IMU r_FUS_IMU _ (by omega)
    exact (modFus_forget P _ _ h_fus).trans ((wr_forget P _ _ _ hb).trans ((fitS_forget P _ _ h_free).trans
      (quant_forget P s _ h_free)))

theorem imuSteps_forget (P : Parts) (s : State) (st : Nat) (x0 : List ImuStep) (x1 : List (BitVec 16)) (h_free :
    P.free = true) (h_fus : P.fus = true) (r_FUS_IMU : P.Has .FUS_IMU) :
    forget P (State.imuSteps s st x0 x1) = forget P s := by
  induction x0 generalizing s x1 with
  | nil => rfl
  | cons p ps ih =>
    cases x1 with
    | nil => rfl
    | cons w ws => rw [State.imuSteps, ih, imuStep_forget P s st p w h_free h_fus r_FUS_IMU]

theorem sentNibbles_forget (P : Parts) (s : State) (cal : Nat) (x0 : List Nat) (h_free : P.free = true) :
    forget P (State.sentNibbles s cal x0).1 = forget P s := by
  induction x0 generalizing s with
  | nil => rfl
  | cons p r ih =>
    unfold State.sentNibbles
    dsimp only
    have h := ih (s.round ((p : Rat) * 56 / cal)).1
    split
    · rename_i e; rw [e] at h; exact h.trans (round_forget P s _ h_free)
    · rename_i e; rw [e] at h; exact h.trans (round_forget P s _ h_free)

theorem sentNibbles_eq {P : Parts} (s : State) (cal : Nat) (x0 : List Nat) {t' : State} {v' : Option (List Nat)} (e : State.sentNibbles s cal x0 = (t', v')) (h_free : P.free = true) :
    forget P t' = forget P s := by
  have := sentNibbles_forget P s cal x0 h_free
  rwa [e] at this

theorem sentGood_forget (P : Parts) (s : State) (n : Fin 2) (st d1 d2 d3 : Nat) (h_free : P.free = true) (h_fus :
    P.fus = true) (r_FUS_ANGLE : P.Has .FUS_ANGLE) (r_FUS_SENT_STAT : P.Has .FUS_SENT_STAT) :
    forget P (State.sentGood s n st d1 d2 d3) = forget P s := by
  unfold State.sentGood
  try dsimp only
  (repeat' split) <;> first | with_reducible rfl | simp only [fitS_forget, modFus_forget, quant_forget, wr_forget,
      cov_FUS_ANGLE, cov_FUS_SENT_STAT, Nat.reduceLT, ite_forget, ite_self, h_free, h_fus, r_FUS_ANGLE,
      r_FUS_SENT_STAT, Fin.is_lt]

theorem sentBad_forget (P : Parts) (s : State) (n : Fin 2) (hev : MayRaise P) (r_FUS_SENT_ERR : P.Has .FUS_SENT_ERR) :
    forget P (State.sentBad s n) = forget P s := by
  unfold State.sentBad
  try dsimp only
  (repeat' split) <;> first | with_reducible rfl | simp only [evSENT_ERR_lt, raise_forget, satInc_forget,
      cov_FUS_SENT_ERR, Nat.reduceLT, ite_forget, ite_self, hev, hev.rcd, hev.fresh, hev.evt, r_FUS_SENT_ERR,
      Fin.is_lt]

theorem sentFrame_forget (P : Parts) (n : Fin 2) (pulses : List Nat) (s : State) (hev : MayRaise P) (h_free : P.free =
    true) (h_fus : P.fus = true) (r_FUS_ANGLE : P.Has .FUS_ANGLE) (r_FUS_SENT_ERR : P.Has .FUS_SENT_ERR)
    (r_FUS_SENT_STAT : P.Has .FUS_SENT_STAT) :
    forget P (sentFrame n pulses s) = forget P s := by
  unfold sentFrame
  try dsimp only
  repeat' first
    | with_reducible rfl
    | split
    | (simp only [modFus_forget, sentBad_forget, sentGood_forget, Nat.reduceLT, ite_forget, ite_self, hev, hev.rcd,
        hev.fresh, hev.evt, h_free, h_fus, r_FUS_ANGLE, r_FUS_SENT_ERR, r_FUS_SENT_STAT, Fin.is_lt]; done)
    | with_reducible exact sentNibbles_eq _ _ _ (by assumption) (by assumption)
    | with_reducible refine Eq.trans (sentNibbles_eq _ _ _ (by assumption) (by assumption)) ?_
    | with_reducible refine Eq.trans (each_forget P _ _ (fun s x => ?_) _) ?_
    | (simp only [modFus_forget, sentBad_forget, sentGood_forget, Nat.reduceLT, ite_forget, ite_self, hev, hev.rcd,
        hev.fresh, hev.evt, h_free, h_fus, r_FUS_ANGLE, r_FUS_SENT_ERR, r_FUS_SENT_STAT, Fin.is_lt])

theorem hostInject_forget (P : Parts) (d : Word) (s : State) (h_fus : P.fus = true) :
    forget P (hostInject d s) = forget P s := by
  unfold hostInject
  try dsimp only
  (repeat' split) <;> first | with_reducible rfl | simp only [modFus_forget, redirect_forget, Nat.reduceLT,
      ite_forget, ite_self, h_fus, Fin.is_lt]

theorem setEpoch_forget (P : Parts) (s : State) (w : Word) (h_fus : P.fus = true) :
    forget P (State.setEpoch s w) = forget P s := by
  unfold State.setEpoch
  try dsimp only
  (repeat' split) <;> first | with_reducible rfl | simp only [modFus_forget, Nat.reduceLT, ite_forget, ite_self,
      h_fus, Fin.is_lt]

theorem wrRound_forget (P : Parts) (s : State) (a : Nat) (x : Rat) (hf : P.free = true) (h : P.covers a = true) :
    forget P (s.wrRound a x) = forget P s := by
  unfold State.wrRound
  exact (wr_forget P _ a _ h).trans (round_forget P s _ hf)

theorem wrInV_forget (P : Parts) (s : State) (l : List Reading) (h_free : P.free = true) (r_FUS_IN_V : P.Has
    .FUS_IN_V) :
    forget P (State.wrInV s l) = forget P s := by
  unfold State.wrInV
  try dsimp only
  repeat' first
    | with_reducible rfl
    | split
    | (simp only [wrRound_forget, cov_inV, Nat.reduceLT, ite_forget, ite_self, h_free, r_FUS_IN_V, Fin.is_lt]; done)
    | with_reducible refine Eq.trans (each_forget P _ _ (fun s x => ?_) _) ?_
    | (simp only [wrRound_forget, cov_inV, Nat.reduceLT, ite_forget, ite_self, h_free, r_FUS_IN_V, Fin.is_lt])

theorem estimate_forget (P : Parts) (s : State) (tk : Nat) (hev : MayRaise P) (h_free : P.free = true) (h_fus : P.fus
    = true) (r_FUS_EST : P.Has .FUS_EST) (r_FUS_IN_V : P.Has .FUS_IN_V) (r_FUS_PUBCNT : P.Has .FUS_PUBCNT) :
    forget P (State.estimate s tk) = forget P s := by
  have hw1 : ∀ (s : State) (v : Nat), forget P (s.wrQ (A.FUS_EST 1) 2 v) = forget P s := by
    intro s v; apply wrQ_forget; intro i hi
    rw [show A.FUS_EST 1 + i = A.FUS_EST (1 + i) from by unfold A.FUS_EST; omega]; exact cov_FUS_EST r_FUS_EST _ (by
        omega)
  have hw2 : ∀ (s : State) (v : Nat), forget P (s.wrQ (A.FUS_EST 7) 3 v) = forget P s := by
    intro s v; apply wrQ_forget; intro i hi
    rw [show A.FUS_EST 7 + i = A.FUS_EST (7 + i) from by unfold A.FUS_EST; omega]; exact cov_FUS_EST r_FUS_EST _ (by
        omega)
  unfold State.estimate
  try dsimp only
  (repeat' split) <;> first | with_reducible rfl | simp only [evFUS_STALE_lt, modFus_forget, quant_forget,
      raise_forget, redirect_forget, round_forget, wr_forget, wrInV_forget, wrRound_forget, wrapInc_forget,
      cov_FUS_EST, cov_FUS_PUBCNT, hw1, hw2, Nat.reduceLT, ite_forget, ite_self, hev, hev.rcd, hev.fresh, hev.evt,
      h_free, h_fus, r_FUS_EST, r_FUS_IN_V, r_FUS_PUBCNT, Fin.is_lt]

theorem fusStart_forget (P : Parts) (s : State) (h_fus : P.fus = true) (b_fus : Blk.fus ∈ P.blks) (r_FUS_PUBCNT :
    P.Has .FUS_PUBCNT) (r_FUS_STAT : P.Has .FUS_STAT) :
    forget P (State.fusStart s) = forget P s := by
  have hw : ∀ s : State, forget P (s.clearRange (A.FUS_EST 0) (0x1100)) = forget P s := by
    intro s; apply clearRange_forget; intro a h1 h2
    exact covers_blk (blkOf_fus (by unfold A.FUS_EST at h1; omega) (by omega)) b_fus
  unfold State.fusStart
  try dsimp only
  (repeat' split) <;> first | with_reducible rfl | simp only [modFus_forget, wr_forget, cov_FUS_PUBCNT, cov_FUS_STAT,
      hw, Nat.reduceLT, ite_forget, ite_self, h_fus, b_fus, r_FUS_PUBCNT, r_FUS_STAT, Fin.is_lt]

end Sys2Proof.Laws
end

