-- ==== Sys2Proof/Laws/FrameSchedule.lean ====
section
/-! SUPPORT. Sys2Proof/Laws/FrameSchedule.lean: which parts of the state each operation of Machine/Schedule.lean may change. -/
namespace Sys2Proof.Laws
set_option Elab.async false
set_option linter.unusedSimpArgs false
open Sys2Proof.Machine Sys2Proof.Safety

theorem cov_schStateAddr {P : Parts} (hl : P.Has .SCH_STATE_LO) (hh : P.Has .SCH_STATE_HI) (n : Fin 24) :
    P.covers (schStateAddr n) = true := by
  unfold schStateAddr; split
  · exact cov_SCH_STATE_LO hl
  · exact cov_SCH_STATE_HI hh

theorem actAxis_forget (P : Parts) (s : State) (t : Nat) (a : Fin 24) (act : Nat) (v : Word) (hev : MayRaise P) (h_tim
    : P.tim = true) (h_hb : P.hb = true) (r_AX_GS_CTL : P.Has .AX_GS_CTL) (r_AX_GS_RATE : P.Has .AX_GS_RATE)
    (r_IMG_LIMLAST : P.Has .IMG_LIMLAST) (r_IMG_LIMSAT : P.Has .IMG_LIMSAT) :
    forget P (State.actAxis s t a act v) = forget P s := by
  unfold State.actAxis
  have h1 : P.covers (axAddr A.AX_GS_RATE a) = true := cov_AX_GS_RATE r_AX_GS_RATE _ _ (Fin.is_lt _) (Fin.is_lt _)
  have h2 : P.covers (axAddr A.AX_GS_CTL a) = true := cov_AX_GS_CTL r_AX_GS_CTL _ _ (Fin.is_lt _) (Fin.is_lt _)
  dsimp only
  split
  · exact storeWord_forget P _ _ _ _ hev h_tim h_hb r_IMG_LIMLAST r_IMG_LIMSAT h1
  · exact storeWord_forget P _ _ _ _ hev h_tim h_hb r_IMG_LIMLAST r_IMG_LIMSAT h2

theorem actCoil_forget (P : Parts) (s : State) (t : Nat) (a : Fin 24) (sel : Word) (v : Word) (hev : MayRaise P)
    (h_tim : P.tim = true) (h_hb : P.hb = true) (r_AX_CUR_SET : P.Has .AX_CUR_SET) (r_IMG_LIMLAST : P.Has
    .IMG_LIMLAST) (r_IMG_LIMSAT : P.Has .IMG_LIMSAT) :
    forget P (State.actCoil s t a sel v) = forget P s := by
  unfold State.actCoil
  refine each_forget_mem P _ _ (fun s c hc => storeWord_forget P _ _ _ _ hev h_tim h_hb r_IMG_LIMLAST r_IMG_LIMSAT ?_) s
  have : c < 3 := by simpa using (List.mem_filter.mp hc).1
  exact cov_AX_CUR_SET r_AX_CUR_SET _ _ _ (Fin.is_lt _) (Fin.is_lt _) this

theorem actTimer_forget (P : Parts) (s : State) (t : Nat) (x : Fin 24) (sel : Word) (act : Nat) (v : Word) (hev :
    MayRaise P) (h_tim : P.tim = true) (h_hb : P.hb = true) (r_IMG_LIMLAST : P.Has .IMG_LIMLAST) (r_IMG_LIMSAT : P.Has
    .IMG_LIMSAT) (r_PWM_ARMREP : P.Has .PWM_ARMREP) (r_PWM_CMP : P.Has .PWM_CMP) (r_PWM_FORCE : P.Has .PWM_FORCE) :
    forget P (State.actTimer s t x sel act v) = forget P s := by
  unfold State.actTimer
  dsimp only
  split
  · rw [armTimer_forget P _ _ _ hev h_tim r_PWM_ARMREP]
    refine each_forget_mem P _ _ (fun s c hc => storeWord_forget P _ _ _ _ hev h_tim h_hb r_IMG_LIMLAST r_IMG_LIMSAT ?_) s
    exact cov_tim_cmp r_PWM_CMP _ _ (by simpa using (List.mem_filter.mp hc).1)
  · refine storeWord_forget P _ _ _ _ hev h_tim h_hb r_IMG_LIMLAST r_IMG_LIMSAT ?_
    exact cov_tim_force r_PWM_FORCE _

theorem actBinding_forget (P : Parts) (s : State) (t : Nat) (n : Fin 24) (act : Nat) (v : Word) (hev : MayRaise P)
    (h_tim : P.tim = true) (h_hb : P.hb = true) (r_AX_CUR_SET : P.Has .AX_CUR_SET) (r_AX_GS_CTL : P.Has .AX_GS_CTL)
    (r_AX_GS_RATE : P.Has .AX_GS_RATE) (r_IMG_LIMLAST : P.Has .IMG_LIMLAST) (r_IMG_LIMSAT : P.Has .IMG_LIMSAT)
    (r_PWM_ARMREP : P.Has .PWM_ARMREP) (r_PWM_CMP : P.Has .PWM_CMP) (r_PWM_FORCE : P.Has .PWM_FORCE) :
    forget P (State.actBinding s t n act v) = forget P s := by
  unfold State.actBinding
  try dsimp only
  (repeat' split) <;> first | with_reducible rfl | simp only [actAxis_forget, actCoil_forget, actTimer_forget,
      Nat.reduceLT, ite_forget, ite_self, hev, hev.rcd, hev.fresh, hev.evt, h_tim, h_hb, r_AX_CUR_SET, r_AX_GS_CTL,
      r_AX_GS_RATE, r_IMG_LIMLAST, r_IMG_LIMSAT, r_PWM_ARMREP, r_PWM_CMP, r_PWM_FORCE, Fin.is_lt]

theorem applyAct_forget (P : Parts) (s : State) (t : Nat) (n : Fin 24) (act : Nat) (v : Word) (hev : MayRaise P)
    (h_tim : P.tim = true) (h_hb : P.hb = true) (r_AX_CUR_SET : P.Has .AX_CUR_SET) (r_AX_GS_CTL : P.Has .AX_GS_CTL)
    (r_AX_GS_RATE : P.Has .AX_GS_RATE) (r_IMG_LIMLAST : P.Has .IMG_LIMLAST) (r_IMG_LIMSAT : P.Has .IMG_LIMSAT)
    (r_PWM_ARMREP : P.Has .PWM_ARMREP) (r_PWM_CMP : P.Has .PWM_CMP) (r_PWM_FORCE : P.Has .PWM_FORCE) (r_SCH_STATE_HI :
    P.Has .SCH_STATE_HI) (r_SCH_STATE_LO : P.Has .SCH_STATE_LO) :
    forget P (State.applyAct s t n act v) = forget P s := by
  unfold State.applyAct
  try dsimp only
  (repeat' split) <;> first | with_reducible rfl | simp only [actBinding_forget, cov_schStateAddr, wr_forget,
      Nat.reduceLT, ite_forget, ite_self, hev, hev.rcd, hev.fresh, hev.evt, h_tim, h_hb, r_AX_CUR_SET, r_AX_GS_CTL,
      r_AX_GS_RATE, r_IMG_LIMLAST, r_IMG_LIMSAT, r_PWM_ARMREP, r_PWM_CMP, r_PWM_FORCE, r_SCH_STATE_HI, r_SCH_STATE_LO,
      Fin.is_lt]

theorem setEntry_forget (P : Parts) (s : State) (i : Nat) (e : Entry) (h_sched : P.sched = true) :
    forget P (State.setEntry s i e) = forget P s := by
  unfold State.setEntry
  try dsimp only
  (repeat' split) <;> first | with_reducible rfl | simp only [modSched_forget, Nat.reduceLT, ite_forget, ite_self,
      h_sched, Fin.is_lt]

theorem delEntry_forget (P : Parts) (s : State) (i : Nat) (h_sched : P.sched = true) :
    forget P (State.delEntry s i) = forget P s := by
  unfold State.delEntry
  try dsimp only
  (repeat' split) <;> first | with_reducible rfl | simp only [modSched_forget, Nat.reduceLT, ite_forget, ite_self,
      h_sched, Fin.is_lt]

theorem setTgt_forget (P : Parts) (s : State) (i n : Nat) (x : TgtSt) (h_sched : P.sched = true) :
    forget P (State.setTgt s i n x) = forget P s := by
  unfold State.setTgt
  try dsimp only
  (repeat' split) <;> first | with_reducible rfl | simp only [delEntry_forget, setEntry_forget, Nat.reduceLT,
      ite_forget, ite_self, h_sched, Fin.is_lt]

theorem insert_forget (P : Parts) (s : State) (act mask se : Nat) (v : Word) (hev : MayRaise P) (h_sched : P.sched =
    true) (r_SCH_FULLCNT : P.Has .SCH_FULLCNT) (r_SCH_IN_RES : P.Has .SCH_IN_RES) :
    forget P (State.insert s act mask se v) = forget P s := by
  unfold State.insert
  try dsimp only
  (repeat' split) <;> first | with_reducible rfl | simp only [evSCHED_FULL_lt, raise_forget, satInc_forget,
      setEntry_forget, wr_forget, cov_SCH_FULLCNT, cov_SCH_IN_RES, Nat.reduceLT, ite_forget, ite_self, hev, hev.rcd,
      hev.fresh, hev.evt, h_sched, r_SCH_FULLCNT, r_SCH_IN_RES, Fin.is_lt]

theorem scheduleInsert_forget (P : Parts) (d : Word) (s : State) (hev : MayRaise P) (h_sched : P.sched = true)
    (r_SCH_FULLCNT : P.Has .SCH_FULLCNT) (r_SCH_IN_RES : P.Has .SCH_IN_RES) :
    forget P (scheduleInsert d s) = forget P s := by
  unfold scheduleInsert
  try dsimp only
  (repeat' split) <;> first | with_reducible rfl | simp only [insert_forget, Nat.reduceLT, ite_forget, ite_self, hev,
      hev.rcd, hev.fresh, hev.evt, h_sched, r_SCH_FULLCNT, r_SCH_IN_RES, Fin.is_lt]

theorem clearQueue_forget (P : Parts) (s : State) (h_sched : P.sched = true) :
    forget P (State.clearQueue s) = forget P s := by
  unfold State.clearQueue
  try dsimp only
  (repeat' split) <;> first | with_reducible rfl | simp only [modSched_forget, Nat.reduceLT, ite_forget, ite_self,
      h_sched, Fin.is_lt]

theorem scheduleCommit_forget (P : Parts) (i : Fin 256) (n : Fin 24) (s : State) (h_free : P.free = true) (h_sched :
    P.sched = true) :
    forget P (scheduleCommit i n s) = forget P s := by
  unfold scheduleCommit
  try dsimp only
  (repeat' split) <;> first | with_reducible rfl | simp only [quant_forget, setTgt_forget, Nat.reduceLT, ite_forget,
      ite_self, h_free, h_sched, Fin.is_lt]

theorem fire_forget (P : Parts) (s : State) (t : Nat) (i : Fin 256) (n : Fin 24) (e : Entry) (late : Bool) (hev :
    MayRaise P) (h_free : P.free = true) (h_tim : P.tim = true) (h_hb : P.hb = true) (h_sched : P.sched = true)
    (r_AX_CUR_SET : P.Has .AX_CUR_SET) (r_AX_GS_CTL : P.Has .AX_GS_CTL) (r_AX_GS_RATE : P.Has .AX_GS_RATE)
    (r_IMG_LIMLAST : P.Has .IMG_LIMLAST) (r_IMG_LIMSAT : P.Has .IMG_LIMSAT) (r_PWM_ARMREP : P.Has .PWM_ARMREP)
    (r_PWM_CMP : P.Has .PWM_CMP) (r_PWM_FORCE : P.Has .PWM_FORCE) (r_SCH_LAST : P.Has .SCH_LAST) (r_SCH_LATECNT :
    P.Has .SCH_LATECNT) (r_SCH_STATE_HI : P.Has .SCH_STATE_HI) (r_SCH_STATE_LO : P.Has .SCH_STATE_LO) :
    forget P (State.fire s t i n e late) = forget P s := by
  have hw : ∀ (s : State) (l : List Word), l.length ≤ 5 → forget P (s.wrs (A.SCH_LAST 0) l) = forget P s := by
    intro s l hl; apply wrs_forget; intro i hi
    rw [show A.SCH_LAST 0 + i = A.SCH_LAST (0 + i) from by unfold A.SCH_LAST; omega]; exact cov_SCH_LAST r_SCH_LAST _ (by
        omega)
  unfold State.fire
  try dsimp only
  (repeat' split) <;> first | with_reducible rfl | simp only [applyAct_forget, evSCHED_FIRE_lt, evSCHED_LATE_lt,
      raise_forget, round_forget, satInc_forget, setTgt_forget, cov_SCH_LATECNT, List.length_cons, List.length_nil,
      Nat.reduceAdd, Nat.le_refl, hw, Nat.reduceLT, ite_forget, ite_self, hev, hev.rcd, hev.fresh, hev.evt, h_free,
      h_tim, h_hb, h_sched, r_AX_CUR_SET, r_AX_GS_CTL, r_AX_GS_RATE, r_IMG_LIMLAST, r_IMG_LIMSAT, r_PWM_ARMREP,
      r_PWM_CMP, r_PWM_FORCE, r_SCH_LAST, r_SCH_LATECNT, r_SCH_STATE_HI, r_SCH_STATE_LO, Fin.is_lt]

theorem scheduleFire_forget (P : Parts) (t : Nat) (i : Fin 256) (n : Fin 24) (s : State) (hev : MayRaise P) (h_free :
    P.free = true) (h_tim : P.tim = true) (h_hb : P.hb = true) (h_sched : P.sched = true) (r_AX_CUR_SET : P.Has
    .AX_CUR_SET) (r_AX_GS_CTL : P.Has .AX_GS_CTL) (r_AX_GS_RATE : P.Has .AX_GS_RATE) (r_IMG_LIMLAST : P.Has
    .IMG_LIMLAST) (r_IMG_LIMSAT : P.Has .IMG_LIMSAT) (r_PWM_ARMREP : P.Has .PWM_ARMREP) (r_PWM_CMP : P.Has .PWM_CMP)
    (r_PWM_FORCE : P.Has .PWM_FORCE) (r_SCH_LAST : P.Has .SCH_LAST) (r_SCH_LATECNT : P.Has .SCH_LATECNT)
    (r_SCH_STATE_HI : P.Has .SCH_STATE_HI) (r_SCH_STATE_LO : P.Has .SCH_STATE_LO) :
    forget P (scheduleFire t i n s) = forget P s := by
  unfold scheduleFire
  try dsimp only
  (repeat' split) <;> first | with_reducible rfl | simp only [fire_forget, Nat.reduceLT, ite_forget, ite_self, hev,
      hev.rcd, hev.fresh, hev.evt, h_free, h_tim, h_hb, h_sched, r_AX_CUR_SET, r_AX_GS_CTL, r_AX_GS_RATE,
      r_IMG_LIMLAST, r_IMG_LIMSAT, r_PWM_ARMREP, r_PWM_CMP, r_PWM_FORCE, r_SCH_LAST, r_SCH_LATECNT, r_SCH_STATE_HI,
      r_SCH_STATE_LO, Fin.is_lt]

theorem schedLateFire_forget (P : Parts) (t : Nat) (i : Fin 256) (n : Fin 24) (s : State) (hev : MayRaise P) (h_free :
    P.free = true) (h_tim : P.tim = true) (h_hb : P.hb = true) (h_sched : P.sched = true) (r_AX_CUR_SET : P.Has
    .AX_CUR_SET) (r_AX_GS_CTL : P.Has .AX_GS_CTL) (r_AX_GS_RATE : P.Has .AX_GS_RATE) (r_IMG_LIMLAST : P.Has
    .IMG_LIMLAST) (r_IMG_LIMSAT : P.Has .IMG_LIMSAT) (r_PWM_ARMREP : P.Has .PWM_ARMREP) (r_PWM_CMP : P.Has .PWM_CMP)
    (r_PWM_FORCE : P.Has .PWM_FORCE) (r_SCH_LAST : P.Has .SCH_LAST) (r_SCH_LATECNT : P.Has .SCH_LATECNT)
    (r_SCH_STATE_HI : P.Has .SCH_STATE_HI) (r_SCH_STATE_LO : P.Has .SCH_STATE_LO) :
    forget P (schedLateFire t i n s) = forget P s := by
  unfold schedLateFire
  try dsimp only
  (repeat' split) <;> first | with_reducible rfl | simp only [fire_forget, Nat.reduceLT, ite_forget, ite_self, hev,
      hev.rcd, hev.fresh, hev.evt, h_free, h_tim, h_hb, h_sched, r_AX_CUR_SET, r_AX_GS_CTL, r_AX_GS_RATE,
      r_IMG_LIMLAST, r_IMG_LIMSAT, r_PWM_ARMREP, r_PWM_CMP, r_PWM_FORCE, r_SCH_LAST, r_SCH_LATECNT, r_SCH_STATE_HI,
      r_SCH_STATE_LO, Fin.is_lt]

theorem schSect_forget (P : Parts) (t act : Nat) (s : State) (hev : MayRaise P) (h_tim : P.tim = true) (h_hb : P.hb =
    true) (r_AX_CUR_SET : P.Has .AX_CUR_SET) (r_AX_GS_CTL : P.Has .AX_GS_CTL) (r_AX_GS_RATE : P.Has .AX_GS_RATE)
    (r_IMG_LIMLAST : P.Has .IMG_LIMLAST) (r_IMG_LIMSAT : P.Has .IMG_LIMSAT) (r_PWM_ARMREP : P.Has .PWM_ARMREP)
    (r_PWM_CMP : P.Has .PWM_CMP) (r_PWM_FORCE : P.Has .PWM_FORCE) (r_SCH_STATE_HI : P.Has .SCH_STATE_HI)
    (r_SCH_STATE_LO : P.Has .SCH_STATE_LO) :
    forget P (schSect t act s) = forget P s := by
  unfold schSect
  try dsimp only
  repeat' first
    | with_reducible rfl
    | split
    | (simp only [applyAct_forget, evHOST_SECT_lt, raise_forget, Nat.reduceLT, ite_forget, ite_self, hev, hev.rcd,
        hev.fresh, hev.evt, h_tim, h_hb, r_AX_CUR_SET, r_AX_GS_CTL, r_AX_GS_RATE, r_IMG_LIMLAST, r_IMG_LIMSAT,
        r_PWM_ARMREP, r_PWM_CMP, r_PWM_FORCE, r_SCH_STATE_HI, r_SCH_STATE_LO, Fin.is_lt]; done)
    | with_reducible refine Eq.trans (each_forget P _ _ (fun s x => ?_) _) ?_
    | (simp only [applyAct_forget, evHOST_SECT_lt, raise_forget, Nat.reduceLT, ite_forget, ite_self, hev, hev.rcd,
        hev.fresh, hev.evt, h_tim, h_hb, r_AX_CUR_SET, r_AX_GS_CTL, r_AX_GS_RATE, r_IMG_LIMLAST, r_IMG_LIMSAT,
        r_PWM_ARMREP, r_PWM_CMP, r_PWM_FORCE, r_SCH_STATE_HI, r_SCH_STATE_LO, Fin.is_lt])

theorem schCancel_forget (P : Parts) (i : Nat) (s : State) (h_sched : P.sched = true) :
    forget P (schCancel i s) = forget P s := by
  unfold schCancel
  try dsimp only
  (repeat' split) <;> first | with_reducible rfl | simp only [delEntry_forget, Nat.reduceLT, ite_forget, ite_self,
      h_sched, Fin.is_lt]

theorem reschedule_forget (P : Parts) (s : State) (tk : Nat) (hev : MayRaise P) (h_sched : P.sched = true)
    (r_SCH_UNCOMCNT : P.Has .SCH_UNCOMCNT) :
    forget P (State.reschedule s tk) = forget P s := by
  unfold State.reschedule
  try dsimp only
  (repeat' split) <;> first | with_reducible rfl | simp only [evSCHED_UNCOMMIT_lt, modSched_forget, raise_forget,
      satInc_forget, cov_SCH_UNCOMCNT, Nat.reduceLT, ite_forget, ite_self, hev, hev.rcd, hev.fresh, hev.evt, h_sched,
      r_SCH_UNCOMCNT, Fin.is_lt]

theorem fusionPublication_forget (P : Parts) (s : State) (hev : MayRaise P) (h_free : P.free = true) (h_fus : P.fus =
    true) (h_sched : P.sched = true) (r_FUS_EST : P.Has .FUS_EST) (r_FUS_IN_V : P.Has .FUS_IN_V) (r_FUS_PUBCNT : P.Has
    .FUS_PUBCNT) (r_SCH_UNCOMCNT : P.Has .SCH_UNCOMCNT) :
    forget P (fusionPublication s) = forget P s := by
  unfold fusionPublication
  try dsimp only
  (repeat' split) <;> first | with_reducible rfl | simp only [estimate_forget, reschedule_forget, Nat.reduceLT,
      ite_forget, ite_self, hev, hev.rcd, hev.fresh, hev.evt, h_free, h_fus, h_sched, r_FUS_EST, r_FUS_IN_V,
      r_FUS_PUBCNT, r_SCH_UNCOMCNT, Fin.is_lt]

end Sys2Proof.Laws
end

