-- ==== Sys2Proof/Laws/FrameSolver.lean ====
section
/-! SUPPORT. Sys2Proof/Laws/FrameSolver.lean: which parts of the state each operation of Machine/Solver.lean may change. -/
namespace Sys2Proof.Laws
set_option Elab.async false
set_option linter.unusedSimpArgs false
open Sys2Proof.Machine Sys2Proof.Safety

theorem roundSqrt_forget (P : Parts) (s : State) (x : Rat) (h_free : P.free = true) :
    forget P (State.roundSqrt s x).1 = forget P s := by
  unfold State.roundSqrt
  try dsimp only
  (repeat' split) <;> first | with_reducible rfl | simp only [took_forget, Nat.reduceLT, ite_forget, ite_self, h_free,
      Fin.is_lt]

theorem roundSqrt_eq {P : Parts} (s : State) (x : Rat) {t' : State} {v' : Nat} (e : State.roundSqrt s x = (t', v'))
    (h_free : P.free = true) :
    forget P t' = forget P s := by
  have := roundSqrt_forget P s x h_free
  rwa [e] at this

theorem buildBatch_forget (P : Parts) (s : State) (tj : Nat) (r : Fin 24) (hev : MayRaise P) (h_sol : P.sol = true)
    (r_SOL_BATCHOVF : P.Has .SOL_BATCHOVF) (r_SOL_LATECNT : P.Has .SOL_LATECNT) :
    forget P (State.buildBatch s tj r) = forget P s := by
  unfold State.buildBatch
  try dsimp only
  (repeat' split) <;> first | with_reducible rfl | simp only [evSOLVER_LATE_lt, modRow_forget, modSol_forget,
      raise_forget, satInc_forget, cov_SOL_BATCHOVF, cov_SOL_LATECNT, Nat.reduceLT, ite_forget, ite_self, hev,
      hev.rcd, hev.fresh, hev.evt, h_sol, r_SOL_BATCHOVF, r_SOL_LATECNT, Fin.is_lt]

theorem epochClose_forget (P : Parts) (s : State) (hev : MayRaise P) (h_sol : P.sol = true) (r_SOL_BATCHOVF : P.Has
    .SOL_BATCHOVF) (r_SOL_LATECNT : P.Has .SOL_LATECNT) :
    forget P (epochClose s) = forget P s := by
  unfold epochClose
  try dsimp only
  repeat' first
    | with_reducible rfl
    | split
    | (simp only [buildBatch_forget, modSol_forget, Nat.reduceLT, ite_forget, ite_self, hev, hev.rcd, hev.fresh,
        hev.evt, h_sol, r_SOL_BATCHOVF, r_SOL_LATECNT, Fin.is_lt]; done)
    | with_reducible refine Eq.trans (each_forget P _ _ (fun s x => ?_) _) ?_
    | (simp only [buildBatch_forget, modSol_forget, Nat.reduceLT, ite_forget, ite_self, hev, hev.rcd, hev.fresh,
        hev.evt, h_sol, r_SOL_BATCHOVF, r_SOL_LATECNT, Fin.is_lt])

theorem solveStart_forget (P : Parts) (s : State) (h_sol : P.sol = true) :
    forget P (solveStart s) = forget P s := by
  unfold solveStart
  try dsimp only
  (repeat' split) <;> first | with_reducible rfl | simp only [modRow_forget, modSol_forget, Nat.reduceLT, ite_forget,
      ite_self, h_sol, Fin.is_lt]

theorem carryExp_forget (P : Parts) (s : State) (r : Fin 24) (d : Drop) (hev : MayRaise P) (h_sol : P.sol = true)
    (r_SOL_EXPOVF : P.Has .SOL_EXPOVF) :
    forget P (State.carryExp s r d) = forget P s := by
  unfold State.carryExp
  try dsimp only
  (repeat' split) <;> first | with_reducible rfl | simp only [evSEED_OVF_lt, modRow_forget, raise_forget,
      satInc_forget, cov_SOL_EXPOVF, Nat.reduceLT, ite_forget, ite_self, hev, hev.rcd, hev.fresh, hev.evt, h_sol,
      r_SOL_EXPOVF, Fin.is_lt]

theorem carryObs_forget (P : Parts) (s : State) (r : Fin 24) (d : Drop) (hev : MayRaise P) (h_sol : P.sol = true)
    (r_SOL_SEEDOVF : P.Has .SOL_SEEDOVF) :
    forget P (State.carryObs s r d) = forget P s := by
  unfold State.carryObs
  try dsimp only
  (repeat' split) <;> first | with_reducible rfl | simp only [evSEED_OVF_lt, modRow_forget, raise_forget,
      satInc_forget, cov_SOL_SEEDOVF, Nat.reduceLT, ite_forget, ite_self, hev, hev.rcd, hev.fresh, hev.evt, h_sol,
      r_SOL_SEEDOVF, Fin.is_lt]

theorem spacing_forget (P : Parts) (s : State) (r : Fin 24) (t : Nat) (h_free : P.free = true) (h_sol : P.sol = true)
    :
    forget P (State.spacing s r t) = forget P s := by
  unfold State.spacing
  try dsimp only
  (repeat' split) <;> first | with_reducible rfl | simp only [freeUpTo_forget, modRow_forget, Nat.reduceLT,
      ite_forget, ite_self, h_free, h_sol, Fin.is_lt]

theorem runObs_forget (P : Parts) (s : State) (r : Fin 24) (h_sol : P.sol = true) (r_SOL_RUNSKIP : P.Has .SOL_RUNSKIP)
    :
    forget P (State.runObs s r) = forget P s := by
  unfold State.runObs
  try dsimp only
  (repeat' split) <;> first | with_reducible rfl | simp only [modRow_forget, wr_forget, cov_SOL_RUNSKIP, Nat.reduceLT,
      ite_forget, ite_self, h_sol, r_SOL_RUNSKIP, Fin.is_lt]

theorem runSkip_forget (P : Parts) (s : State) (r : Fin 24) (hev : MayRaise P) (h_sol : P.sol = true) (r_SOL_RUNSKIP :
    P.Has .SOL_RUNSKIP) :
    forget P (State.runSkip s r) = forget P s := by
  unfold State.runSkip
  try dsimp only
  (repeat' split) <;> first | with_reducible rfl | simp only [evSEED_BLOCK_lt, modRow_forget, raise_forget,
      satInc_forget, cov_SOL_RUNSKIP, Nat.reduceLT, ite_forget, ite_self, hev, hev.rcd, hev.fresh, hev.evt, h_sol,
      r_SOL_RUNSKIP, Fin.is_lt]

theorem addQ2_forget (P : Parts) (s : State) (a n : Nat) (h : ∀ i < 2, P.covers (a + i) = true) :
    forget P (s.addQ2 a n) = forget P s := wrQ_forget P s a 2 _ h

theorem rate_forget (P : Parts) (s : State) (a n e : Nat) (hf : P.free = true) (h : P.covers a = true) :
    forget P (s.rate a n e) = forget P s := by
  unfold State.rate
  split
  · exact wr_forget P s a _ h
  · exact (wr_forget P _ a _ h).trans (round_forget P s _ hf)

theorem publishWindow_forget (P : Parts) (s : State) (r : Fin 24) (h_free : P.free = true) (h_sol : P.sol = true)
    (r_SOL_HIST : P.Has .SOL_HIST) (r_SOL_RATES : P.Has .SOL_RATES) (r_SOL_WINCNT : P.Has .SOL_WINCNT) :
    forget P (State.publishWindow s r) = forget P s := by
  have hw : ∀ (s : State) (l : List Word), l.length ≤ 16 → forget P (s.wrs (A.SOL_HIST r.val 0) l) = forget P s := by
    intro s l hl; apply wrs_forget; intro i hi
    rw [show A.SOL_HIST r.val 0 + i = A.SOL_HIST r.val (0 + i) from by unfold A.SOL_HIST; omega]; exact cov_SOL_HIST
        r_SOL_HIST _ _ (by omega) (by omega)
  unfold State.publishWindow
  try dsimp only
  (repeat' split) <;> first | with_reducible rfl | simp only [modRow_forget, rate_forget, round_forget,
      roundSqrt_forget, wr_forget, wrapInc_forget, cov_SOL_RATES, cov_SOL_WINCNT, Nat.le_refl, List.length_map,
      List.length_range, hw, Nat.reduceLT, ite_forget, ite_self, h_free, h_sol, r_SOL_HIST, r_SOL_RATES, r_SOL_WINCNT,
      Fin.is_lt]

theorem adapt_forget (P : Parts) (s : State) (r : Fin 24) (mean : Rat) (hev : MayRaise P) (h_sol : P.sol = true)
    (r_SOL_RSTAT : P.Has .SOL_RSTAT) :
    forget P (State.adapt s r mean) = forget P s := by
  unfold State.adapt
  try dsimp only
  (repeat' split) <;> first | with_reducible rfl | simp only [evFALL_LIM_lt, modRow_forget, raise_forget,
      setFlags_forget, cov_SOL_RSTAT, Nat.reduceLT, ite_forget, ite_self, hev, hev.rcd, hev.fresh, hev.evt, h_sol,
      r_SOL_RSTAT, Fin.is_lt]

theorem lastResults_forget (P : Parts) (s : State) (r : Fin 24) (m k : Nat) (errs : List Int) (h_free : P.free = true)
    (r_SOL_LAST_ERR : P.Has .SOL_LAST_ERR) (r_SOL_LAST_M : P.Has .SOL_LAST_M) (r_SOL_LAST_N : P.Has .SOL_LAST_N)
    (r_SOL_LAST_RMS : P.Has .SOL_LAST_RMS) :
    forget P (State.lastResults s r m k errs) = forget P s := by
  unfold State.lastResults
  try dsimp only
  (repeat' split) <;> first | with_reducible rfl | simp only [round_forget, roundSqrt_forget, took_forget, wr_forget,
      cov_SOL_LAST_ERR, cov_SOL_LAST_M, cov_SOL_LAST_N, cov_SOL_LAST_RMS, Nat.reduceLT, ite_forget, ite_self, h_free,
      r_SOL_LAST_ERR, r_SOL_LAST_M, r_SOL_LAST_N, r_SOL_LAST_RMS, Fin.is_lt]

theorem trace_forget (P : Parts) (s : State) (r : Fin 24) (es os : List (Drop × Fate)) (r_SOL_TRACE_E : P.Has
    .SOL_TRACE_E) (r_SOL_TRACE_N : P.Has .SOL_TRACE_N) (r_SOL_TRACE_O : P.Has .SOL_TRACE_O) :
    forget P (State.trace s r es os) = forget P s := by
  have hw1 : ∀ (s : State) (l : List Word), l.length ≤ 32 → forget P (s.wrs (A.SOL_TRACE_E 0) l) = forget P s := by
    intro s l hl; apply wrs_forget; intro i hi
    rw [show A.SOL_TRACE_E 0 + i = A.SOL_TRACE_E (0 + i) from by unfold A.SOL_TRACE_E; omega]; exact cov_SOL_TRACE_E
        r_SOL_TRACE_E _ (by omega)
  have hw2 : ∀ (s : State) (l : List Word), l.length ≤ 32 → forget P (s.wrs (A.SOL_TRACE_O 0) l) = forget P s := by
    intro s l hl; apply wrs_forget; intro i hi
    rw [show A.SOL_TRACE_O 0 + i = A.SOL_TRACE_O (0 + i) from by unfold A.SOL_TRACE_O; omega]; exact cov_SOL_TRACE_O
        r_SOL_TRACE_O _ (by omega)
  unfold State.trace
  try dsimp only
  (repeat' split) <;> first | with_reducible rfl | simp only [wr_forget, cov_SOL_TRACE_N, Nat.min_le_left,
      List.length_take, hw1, hw2, Nat.reduceLT, ite_forget, ite_self, r_SOL_TRACE_E, r_SOL_TRACE_N, r_SOL_TRACE_O,
      Fin.is_lt]

theorem pruneMade_forget (P : Parts) (s : State) (r : Fin 24) (h_sol : P.sol = true) :
    forget P (State.pruneMade s r) = forget P s := by
  unfold State.pruneMade
  try dsimp only
  (repeat' split) <;> first | with_reducible rfl | simp only [modRow_forget, Nat.reduceLT, ite_forget, ite_self,
      h_sol, Fin.is_lt]

theorem publish_forget (P : Parts) (s : State) (r : Fin 24) (b : Batch) (hev : MayRaise P) (h_free : P.free = true)
    (h_sol : P.sol = true) (r_SOL_CNT : P.Has .SOL_CNT) (r_SOL_EPOCHCNT : P.Has .SOL_EPOCHCNT) (r_SOL_EXPOVF : P.Has
    .SOL_EXPOVF) (r_SOL_HIST : P.Has .SOL_HIST) (r_SOL_LAST_ERR : P.Has .SOL_LAST_ERR) (r_SOL_LAST_M : P.Has
    .SOL_LAST_M) (r_SOL_LAST_N : P.Has .SOL_LAST_N) (r_SOL_LAST_RMS : P.Has .SOL_LAST_RMS) (r_SOL_RATES : P.Has
    .SOL_RATES) (r_SOL_RSTAT : P.Has .SOL_RSTAT) (r_SOL_RUNSKIP : P.Has .SOL_RUNSKIP) (r_SOL_SEEDOVF : P.Has
    .SOL_SEEDOVF) (r_SOL_TRACE_E : P.Has .SOL_TRACE_E) (r_SOL_TRACE_N : P.Has .SOL_TRACE_N) (r_SOL_TRACE_O : P.Has
    .SOL_TRACE_O) (r_SOL_WINCNT : P.Has .SOL_WINCNT) :
    forget P (State.publish s r b) = forget P s := by
  have hw0 : ∀ (s : State) (v : Nat), forget P (s.addQ2 (A.SOL_CNT r.val 0) v) = forget P s := by
    intro s v; apply addQ2_forget; intro i hi
    rw [show A.SOL_CNT r.val 0 + i = A.SOL_CNT r.val (0 + i) from by unfold A.SOL_CNT; omega]; exact cov_SOL_CNT r_SOL_CNT
        _ _ (by omega) (by omega)
  have hw2 : ∀ (s : State) (v : Nat), forget P (s.addQ2 (A.SOL_CNT r.val 2) v) = forget P s := by
    intro s v; apply addQ2_forget; intro i hi
    rw [show A.SOL_CNT r.val 2 + i = A.SOL_CNT r.val (2 + i) from by unfold A.SOL_CNT; omega]; exact cov_SOL_CNT r_SOL_CNT
        _ _ (by omega) (by omega)
  have hw4 : ∀ (s : State) (v : Nat), forget P (s.addQ2 (A.SOL_CNT r.val 4) v) = forget P s := by
    intro s v; apply addQ2_forget; intro i hi
    rw [show A.SOL_CNT r.val 4 + i = A.SOL_CNT r.val (4 + i) from by unfold A.SOL_CNT; omega]; exact cov_SOL_CNT r_SOL_CNT
        _ _ (by omega) (by omega)
  have hw6 : ∀ (s : State) (v : Nat), forget P (s.addQ2 (A.SOL_CNT r.val 6) v) = forget P s := by
    intro s v; apply addQ2_forget; intro i hi
    rw [show A.SOL_CNT r.val 6 + i = A.SOL_CNT r.val (6 + i) from by unfold A.SOL_CNT; omega]; exact cov_SOL_CNT r_SOL_CNT
        _ _ (by omega) (by omega)
  unfold State.publish
  try dsimp only
  repeat' first
    | with_reducible rfl
    | split
    | (simp only [adapt_forget, carryExp_forget, carryObs_forget, lastResults_forget, modRow_forget, pruneMade_forget,
        publishWindow_forget, runObs_forget, runSkip_forget, spacing_forget, trace_forget, wrapInc_forget,
        cov_SOL_EPOCHCNT, hw0, hw2, hw4, hw6, Nat.reduceLT, ite_forget, ite_self, hev, hev.rcd, hev.fresh, hev.evt,
        h_free, h_sol, r_SOL_CNT, r_SOL_EPOCHCNT, r_SOL_EXPOVF, r_SOL_HIST, r_SOL_LAST_ERR, r_SOL_LAST_M,
        r_SOL_LAST_N, r_SOL_LAST_RMS, r_SOL_RATES, r_SOL_RSTAT, r_SOL_RUNSKIP, r_SOL_SEEDOVF, r_SOL_TRACE_E,
        r_SOL_TRACE_N, r_SOL_TRACE_O, r_SOL_WINCNT, Fin.is_lt]; done)
    | with_reducible refine Eq.trans (each_forget P _ _ (fun s x => ?_) _) ?_
    | (simp only [adapt_forget, carryExp_forget, carryObs_forget, lastResults_forget, modRow_forget, pruneMade_forget,
        publishWindow_forget, runObs_forget, runSkip_forget, spacing_forget, trace_forget, wrapInc_forget,
        cov_SOL_EPOCHCNT, hw0, hw2, hw4, hw6, Nat.reduceLT, ite_forget, ite_self, hev, hev.rcd, hev.fresh, hev.evt,
        h_free, h_sol, r_SOL_CNT, r_SOL_EPOCHCNT, r_SOL_EXPOVF, r_SOL_HIST, r_SOL_LAST_ERR, r_SOL_LAST_M,
        r_SOL_LAST_N, r_SOL_LAST_RMS, r_SOL_RATES, r_SOL_RSTAT, r_SOL_RUNSKIP, r_SOL_SEEDOVF, r_SOL_TRACE_E,
        r_SOL_TRACE_N, r_SOL_TRACE_O, r_SOL_WINCNT, Fin.is_lt])

theorem solverFault_forget (P : Parts) (s : State) (r : Nat) (hev : MayRaise P) (h_sol : P.sol = true) (r_SOL_FAULTCNT
    : P.Has .SOL_FAULTCNT) :
    forget P (State.solverFault s r) = forget P s := by
  unfold State.solverFault
  try dsimp only
  (repeat' split) <;> first | with_reducible rfl | simp only [evSOL_FAULT_lt, modSol_forget, raise_forget,
      satInc_forget, cov_SOL_FAULTCNT, Nat.reduceLT, ite_forget, ite_self, hev, hev.rcd, hev.fresh, hev.evt, h_sol,
      r_SOL_FAULTCNT, Fin.is_lt]

theorem solveDone_forget (P : Parts) (ok : Bool) (dur : Word) (s : State) (hev : MayRaise P) (h_free : P.free = true)
    (h_sol : P.sol = true) (r_SOL_CNT : P.Has .SOL_CNT) (r_SOL_EPOCHCNT : P.Has .SOL_EPOCHCNT) (r_SOL_EXPOVF : P.Has
    .SOL_EXPOVF) (r_SOL_FAULTCNT : P.Has .SOL_FAULTCNT) (r_SOL_HIST : P.Has .SOL_HIST) (r_SOL_LAST_ERR : P.Has
    .SOL_LAST_ERR) (r_SOL_LAST_M : P.Has .SOL_LAST_M) (r_SOL_LAST_N : P.Has .SOL_LAST_N) (r_SOL_LAST_RMS : P.Has
    .SOL_LAST_RMS) (r_SOL_RATES : P.Has .SOL_RATES) (r_SOL_RSTAT : P.Has .SOL_RSTAT) (r_SOL_RUNSKIP : P.Has
    .SOL_RUNSKIP) (r_SOL_SEEDOVF : P.Has .SOL_SEEDOVF) (r_SOL_TMAX : P.Has .SOL_TMAX) (r_SOL_TRACE_E : P.Has
    .SOL_TRACE_E) (r_SOL_TRACE_N : P.Has .SOL_TRACE_N) (r_SOL_TRACE_O : P.Has .SOL_TRACE_O) (r_SOL_WINCNT : P.Has
    .SOL_WINCNT) :
    forget P (solveDone ok dur s) = forget P s := by
  unfold solveDone
  try dsimp only
  (repeat' split) <;> first | with_reducible rfl | simp only [modSol_forget, publish_forget, solverFault_forget,
      wr_forget, cov_SOL_TMAX, Nat.reduceLT, ite_forget, ite_self, hev, hev.rcd, hev.fresh, hev.evt, h_free, h_sol,
      r_SOL_CNT, r_SOL_EPOCHCNT, r_SOL_EXPOVF, r_SOL_FAULTCNT, r_SOL_HIST, r_SOL_LAST_ERR, r_SOL_LAST_M, r_SOL_LAST_N,
      r_SOL_LAST_RMS, r_SOL_RATES, r_SOL_RSTAT, r_SOL_RUNSKIP, r_SOL_SEEDOVF, r_SOL_TMAX, r_SOL_TRACE_E,
      r_SOL_TRACE_N, r_SOL_TRACE_O, r_SOL_WINCNT, Fin.is_lt]

theorem solClrCounters_forget (P : Parts) (r : Fin 24) (s : State) (r_SOL_CNT : P.Has .SOL_CNT) :
    forget P (solClrCounters r s) = forget P s := by
  have hw : ∀ (s : State) (l : List Word), l.length ≤ 8 → forget P (s.wrs (A.SOL_CNT r.val 0) l) = forget P s := by
    intro s l hl; apply wrs_forget; intro i hi
    rw [show A.SOL_CNT r.val 0 + i = A.SOL_CNT r.val (0 + i) from by unfold A.SOL_CNT; omega]; exact cov_SOL_CNT r_SOL_CNT
        _ _ (by omega) (by omega)
  unfold solClrCounters
  try dsimp only
  (repeat' split) <;> first | with_reducible rfl | simp only [Nat.le_refl, List.length_replicate, hw, Nat.reduceLT,
      ite_forget, ite_self, r_SOL_CNT, Fin.is_lt]

theorem solClrWindow_forget (P : Parts) (r : Fin 24) (s : State) (h_sol : P.sol = true) :
    forget P (solClrWindow r s) = forget P s := by
  unfold solClrWindow
  try dsimp only
  (repeat' split) <;> first | with_reducible rfl | simp only [modRow_forget, Nat.reduceLT, ite_forget, ite_self,
      h_sol, Fin.is_lt]

theorem setFall_forget (P : Parts) (s : State) (r : Fin 24) (h_sol : P.sol = true) :
    forget P (State.setFall s r) = forget P s := by
  unfold State.setFall
  try dsimp only
  (repeat' split) <;> first | with_reducible rfl | simp only [modRow_forget, Nat.reduceLT, ite_forget, ite_self,
      h_sol, Fin.is_lt]

theorem solStart_forget (P : Parts) (s : State) (h_sol : P.sol = true) (b_sol : Blk.sol ∈ P.blks) (r_SOL_FAULTCNT :
    P.Has .SOL_FAULTCNT) (r_SOL_FEST : P.Has .SOL_FEST) (r_SOL_LATECNT : P.Has .SOL_LATECNT) (r_SOL_RSTAT : P.Has
    .SOL_RSTAT) (r_SOL_TMAX : P.Has .SOL_TMAX) (r_SOL_TRACE_E : P.Has .SOL_TRACE_E) :
    forget P (State.solStart s) = forget P s := by
  unfold State.solStart
  dsimp only
  have h1 : ∀ (s : State) (r : Fin 24), forget P (s.clearRange (A.SOL_FEST r.val) (A.SOL_PHASE r.val)) = forget P s := by
    intro s r; apply clearRange_forget; intro a h1 h2
    unfold A.SOL_FEST at h1; unfold A.SOL_PHASE at h2
    exact covers_blk (blkOf_sol (by omega) (by omega)) b_sol
  have h2 : ∀ (s : State) (r : Fin 24), forget P (s.clearRange (A.SOL_RSTAT r.val) (A.SOL_RSTAT r.val + 0x3d)) = forget P s := by
    intro s r; apply clearRange_forget; intro a h1 h2
    unfold A.SOL_RSTAT at h1 h2
    exact covers_blk (blkOf_sol (by omega) (by omega)) b_sol
  have h3 : ∀ s : State, forget P (s.clearRange (A.SOL_TRACE_E 0) 0x1F41) = forget P s := by
    intro s; apply clearRange_forget; intro a h1 h2
    unfold A.SOL_TRACE_E at h1
    exact covers_blk (blkOf_sol (by omega) (by omega)) b_sol
  simp only [modSol_forget, h_sol, h3, wr_forget, cov_SOL_LATECNT, cov_SOL_FAULTCNT, cov_SOL_TMAX, r_SOL_LATECNT,
    r_SOL_FAULTCNT, r_SOL_TMAX]
  refine each_forget P _ _ (fun s r => ?_) s
  simp only [modRow_forget, h_sol, h1, h2]

end Sys2Proof.Laws
end

