-- ==== Sys2Proof/Laws/FrameStore.lean ====
section
/-! SUPPORT. Sys2Proof/Laws/FrameStore.lean: which parts of the state each operation of Machine/Store.lean may change. -/
namespace Sys2Proof.Laws
set_option Elab.async false
set_option linter.unusedSimpArgs false
open Sys2Proof.Machine Sys2Proof.Safety

theorem modFront_forget (P : Parts) (s : State) (f : JEvent → JEvent) (h_store : P.store = true) :
    forget P (State.modFront s f) = forget P s := by
  unfold State.modFront
  refine modStore_forget P s _ h_store (fun x => ?_)
  split <;> rfl

theorem modStage_forget (P : Parts) (s : State) (f : HostStage → HostStage) (h_store : P.store = true) :
    forget P (State.modStage s f) = forget P s := by
  unfold State.modStage
  try dsimp only
  (repeat' split) <;> first | with_reducible rfl | simp only [modStore_forget, implies_true, Nat.reduceLT, ite_forget,
      ite_self, h_store, Fin.is_lt]

theorem setItem_forget (P : Parts) (s : State) (it : Item) (w : WState) (h_store : P.store = true) :
    forget P (State.setItem s it w) = forget P s := by
  unfold State.setItem
  try dsimp only
  (repeat' split) <;> first | with_reducible rfl | simp only [modFront_forget, modStore_forget, implies_true,
      Nat.reduceLT, ite_forget, ite_self, h_store, Fin.is_lt]

theorem deferItem_forget (P : Parts) (s : State) (it : Item) (hev : MayRaise P) (h_store : P.store = true)
    (r_STORE_DEFCNT : P.Has .STORE_DEFCNT) :
    forget P (State.deferItem s it) = forget P s := by
  unfold State.deferItem
  try dsimp only
  (repeat' split) <;> first | with_reducible rfl | simp only [evCOMMIT_DEFER_lt, modFront_forget, modStage_forget,
      raise_forget, satInc_forget, setItem_forget, cov_STORE_DEFCNT, Nat.reduceLT, ite_forget, ite_self, hev, hev.rcd,
      hev.fresh, hev.evt, h_store, r_STORE_DEFCNT, Fin.is_lt]

theorem busyItem_forget (P : Parts) (s : State) (it : Item) (hev : MayRaise P) (h_store : P.store = true)
    (r_STORE_BUSYCNT : P.Has .STORE_BUSYCNT) :
    forget P (State.busyItem s it) = forget P s := by
  unfold State.busyItem
  try dsimp only
  (repeat' split) <;> first | with_reducible rfl | simp only [evSTORE_BUSY_lt, raise_forget, satInc_forget,
      setItem_forget, cov_STORE_BUSYCNT, Nat.reduceLT, ite_forget, ite_self, hev, hev.rcd, hev.fresh, hev.evt,
      h_store, r_STORE_BUSYCNT, Fin.is_lt]

theorem program_forget (P : Parts) (s : State) (a : Nat) (bs : List Byte) (b : Burst) (h_store : P.store = true)
    (h_mem : P.mem = true) :
    forget P (State.program s a bs b) = forget P s := by
  unfold State.program
  try dsimp only
  (repeat' split) <;> first | with_reducible rfl | simp only [modStore_forget_mem, Nat.reduceLT, ite_forget, ite_self,
      h_store, h_mem, Fin.is_lt]

theorem tear_forget (P : Parts) (s : State) (n : Nat) (h_free : P.free = true) (h_store : P.store = true) (h_mem :
    P.mem = true) :
    forget P (State.tear s n) = forget P s := by
  unfold State.tear
  try dsimp only
  (repeat' split) <;> first | with_reducible rfl | simp only [freeUpTo_forget, modStore_forget_mem, Nat.reduceLT,
      ite_forget, ite_self, h_free, h_store, h_mem, Fin.is_lt]

theorem eraseBytes_forget (P : Parts) (s : State) (n : Nat) (h_store : P.store = true) (h_mem : P.mem = true) :
    forget P (State.eraseBytes s n) = forget P s := by
  unfold State.eraseBytes
  try dsimp only
  (repeat' split) <;> first | with_reducible rfl | simp only [modStore_forget_mem, Nat.reduceLT, ite_forget, ite_self,
      h_store, h_mem, Fin.is_lt]

theorem openSector_forget (P : Parts) (s : State) (n : Nat) (comp : Bool) (h_store : P.store = true) (h_mem : P.mem =
    true) :
    forget P (State.openSector s n comp) = forget P s := by
  unfold State.openSector
  try dsimp only
  (repeat' split) <;> first | with_reducible rfl | simp only [modStore_forget, program_forget, implies_true,
      Nat.reduceLT, ite_forget, ite_self, h_store, h_mem, Fin.is_lt]

theorem putRecord_forget (P : Parts) (s : State) (h : Nat) (bs : List Byte) (b : Nat → Burst) (h_store : P.store =
    true) (h_mem : P.mem = true) :
    forget P (State.putRecord s h bs b) = forget P s := by
  unfold State.putRecord
  try dsimp only
  (repeat' split) <;> first | with_reducible rfl | simp only [modStore_forget, program_forget, implies_true,
      Nat.reduceLT, ite_forget, ite_self, h_store, h_mem, Fin.is_lt]

theorem takeSeq_forget (P : Parts) (s : State) (it : Item) (h_store : P.store = true) :
    forget P (State.takeSeq s it).1 = forget P s := by
  unfold State.takeSeq
  try dsimp only
  (repeat' split) <;> first | with_reducible rfl | simp only [modFront_forget, modStore_forget, implies_true,
      Nat.reduceLT, ite_forget, ite_self, h_store, Fin.is_lt]

theorem takeSeq_eq {P : Parts} (s : State) (it : Item) {t' : State} {v' : Nat} (e : State.takeSeq s it = (t', v'))
    (h_store : P.store = true) :
    forget P t' = forget P s := by
  have := takeSeq_forget P s it h_store
  rwa [e] at this

theorem wakeBusy_forget (P : Parts) (s : State) (h_store : P.store = true) :
    forget P (State.wakeBusy s) = forget P s := by
  unfold State.wakeBusy
  try dsimp only
  (repeat' split) <;> first | with_reducible rfl | simp only [modStore_forget, implies_true, Nat.reduceLT, ite_forget,
      ite_self, h_store, Fin.is_lt]

theorem startErase_forget (P : Parts) (s : State) (n : Nat) (h_store : P.store = true) (h_mem : P.mem = true) :
    forget P (State.startErase s n) = forget P s := by
  unfold State.startErase
  try dsimp only
  (repeat' split) <;> first | with_reducible rfl | simp only [eraseBytes_forget, modStore_forget, implies_true,
      Nat.reduceLT, ite_forget, ite_self, h_store, h_mem, Fin.is_lt]

theorem endStage_forget (P : Parts) (s : State) (w : WState) (h_store : P.store = true) :
    forget P (State.endStage s w) = forget P s := by
  unfold State.endStage
  try dsimp only
  repeat' first
    | with_reducible rfl
    | split
    | (simp only [modStore_forget, implies_true, Nat.reduceLT, ite_forget, ite_self, h_store, Fin.is_lt]; done)
    | with_reducible refine Eq.trans (each_forget P _ _ (fun s x => ?_) _) ?_
    | (simp only [modStore_forget, implies_true, Nat.reduceLT, ite_forget, ite_self, h_store, Fin.is_lt])

theorem appendItem_forget (P : Parts) (s : State) (it : Item) (hev : MayRaise P) (h_free : P.free = true) (h_store :
    P.store = true) (h_mem : P.mem = true) (r_STORE_BUSYCNT : P.Has .STORE_BUSYCNT) (r_STORE_DEFCNT : P.Has
    .STORE_DEFCNT) :
    forget P (State.appendItem s it) = forget P s := by
  unfold State.appendItem
  try dsimp only
  repeat' first
    | with_reducible rfl
    | split
    | (simp only [busyItem_forget, deferItem_forget, openSector_forget, putRecord_forget, startErase_forget,
        takeSeq_forget, Nat.reduceLT, ite_forget, ite_self, hev, hev.rcd, hev.fresh, hev.evt, h_free, h_store, h_mem,
        r_STORE_BUSYCNT, r_STORE_DEFCNT, Fin.is_lt]; done)
    | with_reducible exact pick_eq _ _ (by assumption) (by assumption)
    | with_reducible exact takeSeq_eq _ _ (by assumption) (by assumption)
    | with_reducible refine Eq.trans (pick_eq _ _ (by assumption) (by assumption)) ?_
    | with_reducible refine Eq.trans (takeSeq_eq _ _ (by assumption) (by assumption)) ?_
    | with_reducible refine Eq.trans (each_forget P _ _ (fun s x => ?_) _) ?_
    | (simp only [busyItem_forget, deferItem_forget, openSector_forget, putRecord_forget, startErase_forget,
        takeSeq_forget, Nat.reduceLT, ite_forget, ite_self, hev, hev.rcd, hev.fresh, hev.evt, h_free, h_store, h_mem,
        r_STORE_BUSYCNT, r_STORE_DEFCNT, Fin.is_lt])

theorem storeAppend_forget (P : Parts) (s : State) (hev : MayRaise P) (h_free : P.free = true) (h_store : P.store =
    true) (h_mem : P.mem = true) (r_STORE_BUSYCNT : P.Has .STORE_BUSYCNT) (r_STORE_DEFCNT : P.Has .STORE_DEFCNT) :
    forget P (storeAppend s) = forget P s := by
  unfold storeAppend
  try dsimp only
  (repeat' split) <;> first | with_reducible rfl | simp only [appendItem_forget, endStage_forget, Nat.reduceLT,
      ite_forget, ite_self, hev, hev.rcd, hev.fresh, hev.evt, h_free, h_store, h_mem, r_STORE_BUSYCNT, r_STORE_DEFCNT,
      Fin.is_lt]

theorem appendLate_forget (P : Parts) (s : State) (hev : MayRaise P) (h_store : P.store = true) (r_STORE_DEFCNT :
    P.Has .STORE_DEFCNT) :
    forget P (State.appendLate s) = forget P s := by
  unfold State.appendLate
  try dsimp only
  (repeat' split) <;> first | with_reducible rfl | simp only [deferItem_forget, Nat.reduceLT, ite_forget, ite_self,
      hev, hev.rcd, hev.fresh, hev.evt, h_store, r_STORE_DEFCNT, Fin.is_lt]

theorem storeErr_forget (P : Parts) (s : State) (sector cause : Nat) (hev : MayRaise P) (r_STORE_ERRLAST : P.Has
    .STORE_ERRLAST) :
    forget P (State.storeErr s sector cause) = forget P s := by
  unfold State.storeErr
  try dsimp only
  (repeat' split) <;> first | with_reducible rfl | simp only [evSTORE_ERR_lt, raise_forget, wr_forget,
      cov_STORE_ERRLAST, Nat.reduceLT, ite_forget, ite_self, hev, hev.rcd, hev.fresh, hev.evt, r_STORE_ERRLAST,
      Fin.is_lt]

theorem startMarker_forget (P : Parts) (s : State) (a : Nat) (b : Burst) (hev : MayRaise P) (h_store : P.store = true)
    (h_mem : P.mem = true) (r_STORE_DEFCNT : P.Has .STORE_DEFCNT) :
    forget P (State.startMarker s a b) = forget P s := by
  unfold State.startMarker
  try dsimp only
  (repeat' split) <;> first | with_reducible rfl | simp only [deferItem_forget, modStore_forget, program_forget,
      implies_true, Nat.reduceLT, ite_forget, ite_self, hev, hev.rcd, hev.fresh, hev.evt, h_store, h_mem,
      r_STORE_DEFCNT, Fin.is_lt]

theorem commitItem_forget (P : Parts) (s : State) (host : Bool) (h_store : P.store = true) (r_STORE_JEVN : P.Has
    .STORE_JEVN) :
    forget P (State.commitItem s host) = forget P s := by
  unfold State.commitItem
  try dsimp only
  (repeat' split) <;> first | with_reducible rfl | simp only [endStage_forget, modStore_forget, wr_forget,
      cov_STORE_JEVN, implies_true, Nat.reduceLT, ite_forget, ite_self, h_store, r_STORE_JEVN, Fin.is_lt]

theorem failItem_forget (P : Parts) (s : State) (host : Bool) (sector : Nat) (hev : MayRaise P) (h_store : P.store =
    true) (r_STORE_ERRLAST : P.Has .STORE_ERRLAST) (r_STORE_JLOST : P.Has .STORE_JLOST) :
    forget P (State.failItem s host sector) = forget P s := by
  unfold State.failItem
  try dsimp only
  (repeat' split) <;> first | with_reducible rfl | simp only [endStage_forget, modFront_forget, modStage_forget,
      modStore_forget, satInc_forget, storeErr_forget, cov_STORE_JLOST, implies_true, Nat.reduceLT, ite_forget,
      ite_self, hev, hev.rcd, hev.fresh, hev.evt, h_store, r_STORE_ERRLAST, r_STORE_JLOST, Fin.is_lt]

theorem failNext_forget (P : Parts) (s : State) (sector : Nat) (hev : MayRaise P) (h_store : P.store = true)
    (r_STORE_ERRLAST : P.Has .STORE_ERRLAST) (r_STORE_JLOST : P.Has .STORE_JLOST) :
    forget P (State.failNext s sector) = forget P s := by
  unfold State.failNext
  try dsimp only
  (repeat' split) <;> first | with_reducible rfl | simp only [failItem_forget, storeErr_forget, Nat.reduceLT,
      ite_forget, ite_self, hev, hev.rcd, hev.fresh, hev.evt, h_store, r_STORE_ERRLAST, r_STORE_JLOST, Fin.is_lt]

theorem failComp_forget (P : Parts) (s : State) (hev : MayRaise P) (h_ops : P.ops = true) (h_store : P.store = true) :
    forget P (State.failComp s) = forget P s := by
  unfold State.failComp
  try dsimp only
  (repeat' split) <;> first | with_reducible rfl | simp only [endSlot_forget, modStore_forget, implies_true,
      Nat.reduceLT, ite_forget, ite_self, hev, hev.rcd, hev.fresh, hev.evt, h_ops, h_store, Fin.is_lt]

theorem failCopy_forget (P : Parts) (s : State) (sector : Nat) (hev : MayRaise P) (h_ops : P.ops = true) (h_store :
    P.store = true) (r_STORE_ERRLAST : P.Has .STORE_ERRLAST) :
    forget P (State.failCopy s sector) = forget P s := by
  unfold State.failCopy
  try dsimp only
  (repeat' split) <;> first | with_reducible rfl | simp only [failComp_forget, modStore_forget, storeErr_forget,
      implies_true, Nat.reduceLT, ite_forget, ite_self, hev, hev.rcd, hev.fresh, hev.evt, h_ops, h_store,
      r_STORE_ERRLAST, Fin.is_lt]

theorem burstGood_forget (P : Parts) (s : State) (b : Burst) (hev : MayRaise P) (h_store : P.store = true) (h_mem :
    P.mem = true) (r_STORE_DEFCNT : P.Has .STORE_DEFCNT) (r_STORE_JEVN : P.Has .STORE_JEVN) :
    forget P (State.burstGood s b) = forget P s := by
  unfold State.burstGood
  try dsimp only
  (repeat' split) <;> first | with_reducible rfl | simp only [commitItem_forget, modStore_forget, startMarker_forget,
      implies_true, Nat.reduceLT, ite_forget, ite_self, hev, hev.rcd, hev.fresh, hev.evt, h_store, h_mem,
      r_STORE_DEFCNT, r_STORE_JEVN, Fin.is_lt]

theorem burstBad_forget (P : Parts) (s : State) (b : Burst) (hev : MayRaise P) (h_free : P.free = true) (h_ops : P.ops
    = true) (h_store : P.store = true) (h_mem : P.mem = true) (r_STORE_ERRLAST : P.Has .STORE_ERRLAST) (r_STORE_JLOST
    : P.Has .STORE_JLOST) :
    forget P (State.burstBad s b) = forget P s := by
  unfold State.burstBad
  try dsimp only
  (repeat' split) <;> first | with_reducible rfl | simp only [failComp_forget, failCopy_forget, failItem_forget,
      failNext_forget, modStore_forget, storeErr_forget, tear_forget, implies_true, Nat.reduceLT, ite_forget,
      ite_self, hev, hev.rcd, hev.fresh, hev.evt, h_free, h_ops, h_store, h_mem, r_STORE_ERRLAST, r_STORE_JLOST,
      Fin.is_lt]

theorem eraseDone_forget (P : Parts) (s : State) (c : Comp) (ok : Bool) (hev : MayRaise P) (h_store : P.store = true)
    (r_STORE_ERRLAST : P.Has .STORE_ERRLAST) :
    forget P (State.eraseDone s c ok) = forget P s := by
  unfold State.eraseDone
  try dsimp only
  (repeat' split) <;> first | with_reducible rfl | simp only [modStore_forget, storeErr_forget, wakeBusy_forget,
      implies_true, Nat.reduceLT, ite_forget, ite_self, hev, hev.rcd, hev.fresh, hev.evt, h_store, r_STORE_ERRLAST,
      Fin.is_lt]

theorem programBurstDone_forget (P : Parts) (ok : Bool) (s : State) (hev : MayRaise P) (h_free : P.free = true) (h_ops
    : P.ops = true) (h_store : P.store = true) (h_mem : P.mem = true) (r_STORE_DEFCNT : P.Has .STORE_DEFCNT)
    (r_STORE_ERRLAST : P.Has .STORE_ERRLAST) (r_STORE_JEVN : P.Has .STORE_JEVN) (r_STORE_JLOST : P.Has .STORE_JLOST) :
    forget P (programBurstDone ok s) = forget P s := by
  unfold programBurstDone
  try dsimp only
  (repeat' split) <;> first | with_reducible rfl | simp only [burstBad_forget, burstGood_forget, eraseDone_forget,
      Nat.reduceLT, ite_forget, ite_self, hev, hev.rcd, hev.fresh, hev.evt, h_free, h_ops, h_store, h_mem,
      r_STORE_DEFCNT, r_STORE_ERRLAST, r_STORE_JEVN, r_STORE_JLOST, Fin.is_lt]

theorem retryGate_forget (P : Parts) (s : State) (h_store : P.store = true) (h_mem : P.mem = true) :
    forget P (State.retryGate s) = forget P s := by
  unfold State.retryGate
  try dsimp only
  (repeat' split) <;> first | with_reducible rfl | simp only [modStore_forget, program_forget, setItem_forget,
      implies_true, Nat.reduceLT, ite_forget, ite_self, h_store, h_mem, Fin.is_lt]

theorem victim_forget (P : Parts) (s : State) (l : List Nat) (h_free : P.free = true) :
    forget P (State.victim s l).1 = forget P s := by
  unfold State.victim
  try dsimp only
  (repeat' split) <;> first | with_reducible rfl | simp only [pick_forget, Nat.reduceLT, ite_forget, ite_self, h_free,
      Fin.is_lt]

theorem victim_eq {P : Parts} (s : State) (l : List Nat) {t' : State} {v' : Option Nat} (e : State.victim s l = (t',
    v')) (h_free : P.free = true) :
    forget P t' = forget P s := by
  have := victim_forget P s l h_free
  rwa [e] at this

theorem startComp_forget (P : Parts) (s : State) (w : CompWhy) (h_free : P.free = true) (h_store : P.store = true) :
    forget P (State.startComp s w) = forget P s := by
  unfold State.startComp
  dsimp only
  have hv : ∀ l : List Nat, forget P (s.victim l).1 = forget P s := fun l => victim_forget P s l h_free
  have hr : ∀ r : State × Option Nat, forget P r.1 = forget P s →
      forget P (match r with
        | (s, none) => s
        | (s, some v) => s.modStore (fun t => { t with comp := some ⟨v,
            ((s.secScan v).1.filter (liveIn s.allRecs)).map (fun x => x.addr - secBase v), false, false, w, false⟩ })) =
        forget P s := by
    intro r hr
    obtain ⟨s', o⟩ := r
    cases o with
    | none => exact hr
    | some v => exact (modStore_forget P _ _ h_store (by intro _; rfl)).trans hr
  apply hr
  split
  · exact hv _
  · split
    · exact pick_forget P s _ h_free
    · exact hv _
  · exact hv _

theorem compNext_forget (P : Parts) (s : State) (c : Comp) (h_free : P.free = true) (h_store : P.store = true) (h_mem
    : P.mem = true) :
    forget P (State.compNext s c) = forget P s := by
  unfold State.compNext
  try dsimp only
  repeat' first
    | with_reducible rfl
    | split
    | (simp only [eraseBytes_forget, modStore_forget, openSector_forget, program_forget, putRecord_forget,
        implies_true, Nat.reduceLT, ite_forget, ite_self, h_free, h_store, h_mem, Fin.is_lt]; done)
    | with_reducible exact pick_eq _ _ (by assumption) (by assumption)
    | with_reducible exact victim_eq _ _ (by assumption) (by assumption)
    | with_reducible refine Eq.trans (pick_eq _ _ (by assumption) (by assumption)) ?_
    | with_reducible refine Eq.trans (victim_eq _ _ (by assumption) (by assumption)) ?_
    | with_reducible refine Eq.trans (each_forget P _ _ (fun s x => ?_) _) ?_
    | (simp only [eraseBytes_forget, modStore_forget, openSector_forget, program_forget, putRecord_forget,
        implies_true, Nat.reduceLT, ite_forget, ite_self, h_free, h_store, h_mem, Fin.is_lt])

theorem compBurst_forget (P : Parts) (s : State) (c : Comp) (h_free : P.free = true) (h_store : P.store = true) (h_mem
    : P.mem = true) :
    forget P (State.compBurst s c) = forget P s := by
  unfold State.compBurst
  try dsimp only
  (repeat' split) <;> first | with_reducible rfl | simp only [compNext_forget, Nat.reduceLT, ite_forget, ite_self,
      h_free, h_store, h_mem, Fin.is_lt]

theorem compactionStep_forget (P : Parts) (s : State) (h_free : P.free = true) (h_store : P.store = true) (h_mem :
    P.mem = true) :
    forget P (compactionStep s) = forget P s := by
  unfold compactionStep
  try dsimp only
  (repeat' split) <;> first | with_reducible rfl | simp only [compBurst_forget, startComp_forget, startErase_forget,
      Nat.reduceLT, ite_forget, ite_self, h_free, h_store, h_mem, Fin.is_lt]

theorem backgroundCompaction_forget (P : Parts) (s : State) (h_store : P.store = true) :
    forget P (backgroundCompaction s) = forget P s := by
  unfold backgroundCompaction
  try dsimp only
  (repeat' split) <;> first | with_reducible rfl | simp only [modStore_forget, implies_true, Nat.reduceLT, ite_forget,
      ite_self, h_store, Fin.is_lt]

theorem loadStage_forget (P : Parts) (s : State) (words : List Word) (h_store : P.store = true) :
    forget P (State.loadStage s words) = forget P s := by
  unfold State.loadStage
  try dsimp only
  (repeat' split) <;> first | with_reducible rfl | simp only [modStore_forget, implies_true, Nat.reduceLT, ite_forget,
      ite_self, h_store, Fin.is_lt]

theorem storeWrite_forget (P : Parts) (len : Nat) (s : State) (h_store : P.store = true) :
    forget P (storeWrite len s) = forget P s := by
  unfold storeWrite
  try dsimp only
  (repeat' split) <;> first | with_reducible rfl | simp only [loadStage_forget, Nat.reduceLT, ite_forget, ite_self,
      h_store, Fin.is_lt]

theorem storeRead_forget (P : Parts) (key : Nat) (s : State) (h_store : P.store = true) (r_STORE_RRES : P.Has
    .STORE_RRES) :
    forget P (storeRead key s) = forget P s := by
  unfold storeRead
  try dsimp only
  (repeat' split) <;> first | with_reducible rfl | simp only [modStore_forget, wr_forget, cov_STORE_RRES,
      implies_true, Nat.reduceLT, ite_forget, ite_self, h_store, r_STORE_RRES, Fin.is_lt]

theorem badRecord_forget (P : Parts) (s : State) (x : RecAt) (hev : MayRaise P) (r_STORE_ERRCNT : P.Has .STORE_ERRCNT)
    (r_STORE_ERRLAST : P.Has .STORE_ERRLAST) :
    forget P (State.badRecord s x) = forget P s := by
  unfold State.badRecord
  try dsimp only
  (repeat' split) <;> first | with_reducible rfl | simp only [satInc_forget, storeErr_forget, cov_STORE_ERRCNT,
      Nat.reduceLT, ite_forget, ite_self, hev, hev.rcd, hev.fresh, hev.evt, r_STORE_ERRCNT, r_STORE_ERRLAST,
      Fin.is_lt]

theorem storeReadDone_forget (P : Parts) (key : Nat) (s : State) (hev : MayRaise P) (h_store : P.store = true)
    (r_STORE_ERRCNT : P.Has .STORE_ERRCNT) (r_STORE_ERRLAST : P.Has .STORE_ERRLAST) (r_STORE_RBUF : P.Has .STORE_RBUF)
    (r_STORE_RRES : P.Has .STORE_RRES) (r_STORE_RSEQ : P.Has .STORE_RSEQ) :
    forget P (storeReadDone key s) = forget P s := by
  have hw : ∀ (s : State) (l : List Word), l.length ≤ 128 → forget P (s.wrs (A.STORE_RBUF 0) l) = forget P s := by
    intro s l hl; apply wrs_forget; intro i hi
    rw [show A.STORE_RBUF 0 + i = A.STORE_RBUF (0 + i) from by unfold A.STORE_RBUF; omega]; exact cov_STORE_RBUF
        r_STORE_RBUF _ (by omega)
  have hq : ∀ (s : State) (v : Nat), forget P (s.wrQ (A.STORE_RSEQ 0) 2 v) = forget P s := by
    intro s v; apply wrQ_forget; intro i hi
    rw [show A.STORE_RSEQ 0 + i = A.STORE_RSEQ (0 + i) from by unfold A.STORE_RSEQ; omega]; exact cov_STORE_RSEQ
        r_STORE_RSEQ _ (by omega)
  unfold storeReadDone
  try dsimp only
  repeat' first
    | with_reducible rfl
    | split
    | (simp only [badRecord_forget, modStore_forget, wr_forget, cov_STORE_RRES, implies_true, Nat.min_le_left,
        List.length_take, hw, hq, Nat.reduceLT, ite_forget, ite_self, hev, hev.rcd, hev.fresh, hev.evt, h_store,
        r_STORE_ERRCNT, r_STORE_ERRLAST, r_STORE_RBUF, r_STORE_RRES, r_STORE_RSEQ, Fin.is_lt]; done)
    | with_reducible refine Eq.trans (each_forget P _ _ (fun s x => ?_) _) ?_
    | (simp only [badRecord_forget, modStore_forget, wr_forget, cov_STORE_RRES, implies_true, Nat.min_le_left,
        List.length_take, hw, hq, Nat.reduceLT, ite_forget, ite_self, hev, hev.rcd, hev.fresh, hev.evt, h_store,
        r_STORE_ERRCNT, r_STORE_ERRLAST, r_STORE_RBUF, r_STORE_RRES, r_STORE_RSEQ, Fin.is_lt])

theorem storeMount_forget (P : Parts) (s : State) (hev : MayRaise P) (h_store : P.store = true) (r_STORE_ERRCNT :
    P.Has .STORE_ERRCNT) (r_STORE_ERRLAST : P.Has .STORE_ERRLAST) (r_STORE_JEVN : P.Has .STORE_JEVN) :
    forget P (storeMount s) = forget P s := by
  unfold storeMount
  try dsimp only
  repeat' first
    | with_reducible rfl
    | split
    | (simp only [badRecord_forget, modStore_forget, wr_forget, cov_STORE_JEVN, implies_true, Nat.reduceLT,
        ite_forget, ite_self, hev, hev.rcd, hev.fresh, hev.evt, h_store, r_STORE_ERRCNT, r_STORE_ERRLAST,
        r_STORE_JEVN, Fin.is_lt]; done)
    | with_reducible refine Eq.trans (each_forget P _ _ (fun s x => ?_) _) ?_
    | (simp only [badRecord_forget, modStore_forget, wr_forget, cov_STORE_JEVN, implies_true, Nat.reduceLT,
        ite_forget, ite_self, hev, hev.rcd, hev.fresh, hev.evt, h_store, r_STORE_ERRCNT, r_STORE_ERRLAST,
        r_STORE_JEVN, Fin.is_lt])

theorem dropItems_forget (P : Parts) (s : State) (h_store : P.store = true) (r_STORE_JLOST : P.Has .STORE_JLOST) :
    forget P (State.dropItems s) = forget P s := by
  unfold State.dropItems
  try dsimp only
  (repeat' split) <;> first | with_reducible rfl | simp only [modStore_forget, satAdd_forget, cov_STORE_JLOST,
      implies_true, Nat.reduceLT, ite_forget, ite_self, h_store, r_STORE_JLOST, Fin.is_lt]

end Sys2Proof.Laws
end

