-- ==== Sys2Proof/Laws/FrameDomains.lean ====
section
/-! SUPPORT. Sys2Proof/Laws/FrameDomains.lean: which parts of the state each operation of Machine/Domains.lean may change. -/
namespace Sys2Proof.Laws
set_option Elab.async false
set_option linter.unusedSimpArgs false
open Sys2Proof.Machine Sys2Proof.Safety

theorem filterMap_filter_of {α : Type} (l : List α) (f : α → Option α) (P : α → Bool)
    (h : ∀ x, P x = true → f x = some x) (h' : ∀ x y, P x = false → f x = some y → P y = false) :
    (l.filterMap f).filter P = l.filter P := by
  induction l with
  | nil => rfl
  | cons x r ih =>
    cases hx : P x with
    | true => simp [List.filterMap_cons, h x hx, hx, ih]
    | false =>
      cases hf : f x with
      | none => simp [List.filterMap_cons, hf, hx, ih]
      | some y => simp [List.filterMap_cons, hf, hx, h' x y hx hf, ih]

theorem clearStatus_forget (P : Parts) (s : State) (lo hi : Nat) (h : ∀ a, lo ≤ a → a < hi → P.covers a = true) :
    forget P (s.clearStatus lo hi) = forget P s := by
  unfold forget State.clearStatus
  simp only [State.mk.injEq, and_true, true_and]
  apply filterMap_filter_of
  · intro p hp
    have : ¬ (lo ≤ p.1 ∧ p.1 < hi) := fun c => by
      simp [h p.1 c.1 c.2] at hp
    rw [if_neg this]
  · intro p q hp hq
    have hm : P.covers p.1 = true := by simpa using hp
    have he : q.1 = p.1 := by
      split at hq
      · split at hq
        · cases hq
        · cases hq; rfl
      · cases hq; rfl
    simpa [he] using hm

theorem raiseDomSw_forget (P : Parts) (s : State) (cause : Nat) (hev : MayRaise P) :
    forget P (State.raiseDomSw s cause) = forget P s := by
  unfold State.raiseDomSw
  try dsimp only
  (repeat' split) <;> first | with_reducible rfl | simp only [evDOMAIN_SW_lt, raise_forget, Nat.reduceLT, ite_forget,
      ite_self, hev, hev.rcd, hev.fresh, hev.evt, Fin.is_lt]

theorem linkDown_forget (P : Parts) (s : State) (next : LinkSt) (cause : Nat) (hev : MayRaise P) (h_pair : P.pair =
    true) :
    forget P (State.linkDown s next cause) = forget P s := by
  unfold State.linkDown
  try dsimp only
  (repeat' split) <;> first | with_reducible rfl | simp only [evLINK_DOWN_lt, modPair_forget, raise_forget,
      Nat.reduceLT, ite_forget, ite_self, hev, hev.rcd, hev.fresh, hev.evt, h_pair, Fin.is_lt]

theorem linkOff_forget (P : Parts) (s : State) (hev : MayRaise P) (h_pair : P.pair = true) :
    forget P (State.linkOff s) = forget P s := by
  unfold State.linkOff
  try dsimp only
  (repeat' split) <;> first | with_reducible rfl | simp only [linkDown_forget, modPair_forget, Nat.reduceLT,
      ite_forget, ite_self, hev, hev.rcd, hev.fresh, hev.evt, h_pair, Fin.is_lt]

theorem linkJudge_forget (P : Parts) (s : State) (hev : MayRaise P) (h_pair : P.pair = true) :
    forget P (State.linkJudge s) = forget P s := by
  unfold State.linkJudge
  try dsimp only
  (repeat' split) <;> first | with_reducible rfl | simp only [linkOff_forget, modPair_forget, Nat.reduceLT,
      ite_forget, ite_self, hev, hev.rcd, hev.fresh, hev.evt, h_pair, Fin.is_lt]

theorem floatFirst_forget (P : Parts) (s : State) (t : Nat) (b : Fin 8) (hev : MayRaise P) (h_tim : P.tim = true)
    (h_hb : P.hb = true) (h_bank : P.bank = true) (r_GATE_BSTUVCNT : P.Has .GATE_BSTUVCNT) (r_GATE_FLT : P.Has
    .GATE_FLT) :
    forget P (State.floatFirst s t b) = forget P s := by
  unfold State.floatFirst
  try dsimp only
  (repeat' split) <;> first | with_reducible rfl | simp only [disableStages_forget, enterFloat_forget, Nat.reduceLT,
      ite_forget, ite_self, hev, hev.rcd, hev.fresh, hev.evt, h_tim, h_hb, h_bank, r_GATE_BSTUVCNT, r_GATE_FLT,
      Fin.is_lt]

theorem bankOff_forget (P : Parts) (s : State) (t : Nat) (b : Fin 8) (hev : MayRaise P) (h_free : P.free = true)
    (h_ops : P.ops = true) (h_tim : P.tim = true) (h_hb : P.hb = true) (h_bank : P.bank = true) (h_ax : P.ax = true)
    (h_pwr : P.pwr = true) (h_pair : P.pair = true) (r_GATE_BSTUVCNT : P.Has .GATE_BSTUVCNT) (r_GATE_FLT : P.Has
    .GATE_FLT) :
    forget P (State.bankOff s t b) = forget P s := by
  unfold State.bankOff
  try dsimp only
  (repeat' split) <;> first | with_reducible rfl | simp only [cutDlineCal_forget, cutSelfTest_forget,
      cutShuntCal_forget, disarm_forget, floatFirst_forget, gateCheck_forget, modBank_forget, modPwr_forget,
      refloat_forget, stopBank_forget, Nat.reduceLT, ite_forget, ite_self, hev, hev.rcd, hev.fresh, hev.evt, h_free,
      h_ops, h_tim, h_hb, h_bank, h_ax, h_pwr, h_pair, r_GATE_BSTUVCNT, r_GATE_FLT, Fin.is_lt]

theorem cutSolverTest_forget (P : Parts) (s : State) (hev : MayRaise P) (h_free : P.free = true) (h_ops : P.ops =
    true) :
    forget P (State.cutSolverTest s) = forget P s := by
  unfold State.cutSolverTest
  try dsimp only
  (repeat' split) <;> first | with_reducible rfl | simp only [failOp_forget, took_forget, Nat.reduceLT, ite_forget,
      ite_self, hev, hev.rcd, hev.fresh, hev.evt, h_free, h_ops, Fin.is_lt]

theorem domOff_forget (P : Parts) (s : State) (t d : Nat) (hev : MayRaise P) (h_free : P.free = true) (h_ops : P.ops =
    true) (h_can : P.can = true) (h_tim : P.tim = true) (h_hb : P.hb = true) (h_bank : P.bank = true) (h_ax : P.ax =
    true) (h_fus : P.fus = true) (h_sched : P.sched = true) (h_sol : P.sol = true) (h_pwr : P.pwr = true) (h_pair :
    P.pair = true) (r_GATE_BSTUVCNT : P.Has .GATE_BSTUVCNT) (r_GATE_FLT : P.Has .GATE_FLT) :
    forget P (State.domOff s t d) = forget P s := by
  unfold State.domOff
  try dsimp only
  (repeat' split) <;> first | with_reducible rfl | simp only [bankOff_forget, clearQueue_forget, cutSolverTest_forget,
      linkOff_forget, modCan_forget, modFus_forget, modPwr_forget, modSol_forget, Nat.reduceLT, ite_forget, ite_self,
      hev, hev.rcd, hev.fresh, hev.evt, h_free, h_ops, h_can, h_tim, h_hb, h_bank, h_ax, h_fus, h_sched, h_sol, h_pwr,
      h_pair, r_GATE_BSTUVCNT, r_GATE_FLT, Fin.is_lt]

theorem loadSteps_forget (P : Parts) (s : State) (b : Fin 8) (h_hb : P.hb = true) :
    forget P (State.loadSteps s b) = forget P s := by
  unfold State.loadSteps
  try dsimp only
  repeat' first
    | with_reducible rfl
    | split
    | (simp only [modHb_forget, Nat.reduceLT, ite_forget, ite_self, h_hb, Fin.is_lt]; done)
    | with_reducible refine Eq.trans (each_forget P _ _ (fun s x => ?_) _) ?_
    | (simp only [modHb_forget, Nat.reduceLT, ite_forget, ite_self, h_hb, Fin.is_lt])

theorem startEngines_forget (P : Parts) (s : State) (t : Nat) (b : Fin 8) (hev : MayRaise P) (h_tim : P.tim = true)
    (h_hb : P.hb = true) (h_bank : P.bank = true) (h_ax : P.ax = true) (r_AX_HALL : P.Has .AX_HALL) (r_GATE_BSTUVCNT :
    P.Has .GATE_BSTUVCNT) (r_GATE_FLT : P.Has .GATE_FLT) (r_PROT_AXSTAT : P.Has .PROT_AXSTAT) :
    forget P (State.startEngines s t b) = forget P s := by
  unfold State.startEngines
  try dsimp only
  repeat' first
    | with_reducible rfl
    | split
    | (simp only [hallStart_forget, loadSteps_forget, modAx_forget, modBank_forget, modHb_forget, redriveBank_forget,
        sideFor_forget, startBank_forget, Nat.reduceLT, ite_forget, ite_self, hev, hev.rcd, hev.fresh, hev.evt, h_tim,
        h_hb, h_bank, h_ax, r_AX_HALL, r_GATE_BSTUVCNT, r_GATE_FLT, r_PROT_AXSTAT, Fin.is_lt]; done)
    | with_reducible refine Eq.trans (each_forget P _ _ (fun s x => ?_) _) ?_
    | (simp only [hallStart_forget, loadSteps_forget, modAx_forget, modBank_forget, modHb_forget, redriveBank_forget,
        sideFor_forget, startBank_forget, Nat.reduceLT, ite_forget, ite_self, hev, hev.rcd, hev.fresh, hev.evt, h_tim,
        h_hb, h_bank, h_ax, r_AX_HALL, r_GATE_BSTUVCNT, r_GATE_FLT, r_PROT_AXSTAT, Fin.is_lt])

theorem bankOn_forget (P : Parts) (s : State) (t : Nat) (b : Fin 8) (hev : MayRaise P) (h_tim : P.tim = true) (h_hb :
    P.hb = true) (h_bank : P.bank = true) (h_ax : P.ax = true) (h_pwr : P.pwr = true) (h_pair : P.pair = true) (b_bank
    : Blk.bank ∈ P.blks) (r_AX_HALL : P.Has .AX_HALL) (r_GATE_BSTUVCNT : P.Has .GATE_BSTUVCNT) (r_GATE_FLT : P.Has
    .GATE_FLT) (r_PROT_AXSTAT : P.Has .PROT_AXSTAT) :
    forget P (State.bankOn s t b) = forget P s := by
  have hw : ∀ s : State, forget P (s.clearStatus (bankBase b) (bankBase b + 0x400)) = forget P s := by
    intro s; apply clearStatus_forget; intro a h1 h2; unfold bankBase at h1 h2
    exact covers_blk (blkOf_bank (by omega) (by omega)) b_bank
  unfold State.bankOn
  try dsimp only
  (repeat' split) <;> first | with_reducible rfl | simp only [gateCheck_forget, modPwr_forget, startEngines_forget,
      hw, Nat.reduceLT, ite_forget, ite_self, hev, hev.rcd, hev.fresh, hev.evt, h_tim, h_hb, h_bank, h_ax, h_pwr,
      h_pair, b_bank, r_AX_HALL, r_GATE_BSTUVCNT, r_GATE_FLT, r_PROT_AXSTAT, Fin.is_lt]

theorem clearSchedule_forget (P : Parts) (s : State) (b_sch : Blk.sch ∈ P.blks) (r_SCH_STATE_HI : P.Has .SCH_STATE_HI)
    (r_SCH_STATE_LO : P.Has .SCH_STATE_LO) :
    forget P (State.clearSchedule s) = forget P s := by
  have hw : ∀ s : State, forget P (s.clearStatus (0x1400) (0x1800)) = forget P s := by
    intro s; apply clearStatus_forget; intro a h1 h2
    exact covers_blk (blkOf_sch (by omega) (by omega)) b_sch
  unfold State.clearSchedule
  try dsimp only
  (repeat' split) <;> first | with_reducible rfl | simp only [wr_forget, cov_SCH_STATE_HI, cov_SCH_STATE_LO, hw,
      Nat.reduceLT, ite_forget, ite_self, b_sch, r_SCH_STATE_HI, r_SCH_STATE_LO, Fin.is_lt]

theorem canStart_forget (P : Parts) (s : State) (c : Fin 2) (h_can : P.can = true) (r_CAN_CTL : P.Has .CAN_CTL) :
    forget P (State.canStart s c) = forget P s := by
  unfold State.canStart
  try dsimp only
  (repeat' split) <;> first | with_reducible rfl | simp only [modCan_forget, wr_forget, cov_CAN_CTL, Nat.reduceLT,
      ite_forget, ite_self, h_can, r_CAN_CTL, Fin.is_lt]

theorem domOn_forget (P : Parts) (s : State) (t d : Nat) (hev : MayRaise P) (h_can : P.can = true) (h_tim : P.tim =
    true) (h_hb : P.hb = true) (h_bank : P.bank = true) (h_ax : P.ax = true) (h_fus : P.fus = true) (h_sol : P.sol =
    true) (h_pwr : P.pwr = true) (h_pair : P.pair = true) (b_bank : Blk.bank ∈ P.blks) (b_can : Blk.can ∈ P.blks)
    (b_fus : Blk.fus ∈ P.blks) (b_pair : Blk.pair ∈ P.blks) (b_sch : Blk.sch ∈ P.blks) (b_sol : Blk.sol ∈ P.blks)
    (r_AX_HALL : P.Has .AX_HALL) (r_CAN_CTL : P.Has .CAN_CTL) (r_FUS_PUBCNT : P.Has .FUS_PUBCNT) (r_FUS_STAT : P.Has
    .FUS_STAT) (r_GATE_BSTUVCNT : P.Has .GATE_BSTUVCNT) (r_GATE_FLT : P.Has .GATE_FLT) (r_PROT_AXSTAT : P.Has
    .PROT_AXSTAT) (r_SCH_STATE_HI : P.Has .SCH_STATE_HI) (r_SCH_STATE_LO : P.Has .SCH_STATE_LO) (r_SOL_FAULTCNT :
    P.Has .SOL_FAULTCNT) (r_SOL_FEST : P.Has .SOL_FEST) (r_SOL_LATECNT : P.Has .SOL_LATECNT) (r_SOL_RSTAT : P.Has
    .SOL_RSTAT) (r_SOL_TMAX : P.Has .SOL_TMAX) (r_SOL_TRACE_E : P.Has .SOL_TRACE_E) :
    forget P (State.domOn s t d) = forget P s := by
  have hw1 : ∀ s : State, forget P (s.clearStatus (0x1000) (0x1400)) = forget P s := by
    intro s; apply clearStatus_forget; intro a h1 h2
    exact covers_blk (blkOf_fus (by omega) (by omega)) b_fus
  have hw2 : ∀ s : State, forget P (s.clearStatus (0x1800) (0x2000)) = forget P s := by
    intro s; apply clearStatus_forget; intro a h1 h2
    exact covers_blk (blkOf_sol (by omega) (by omega)) b_sol
  have hw3 : ∀ s : State, forget P (s.clearStatus (0x0C00) (0x0E00)) = forget P s := by
    intro s; apply clearStatus_forget; intro a h1 h2
    exact covers_blk (blkOf_pair (by omega) (by omega)) b_pair
  have hw4 : ∀ s : State, forget P (s.clearStatus (0x4000) (0x8000)) = forget P s := by
    intro s; apply clearStatus_forget; intro a h1 h2
    exact covers_blk (blkOf_can (by omega) (by omega)) b_can
  unfold State.domOn
  try dsimp only
  (repeat' split) <;> first | with_reducible rfl | simp only [bankOn_forget, canStart_forget, clearSchedule_forget,
      fusStart_forget, linkJudge_forget, modPwr_forget, solStart_forget, hw1, hw2, hw3, hw4, Nat.reduceLT, ite_forget,
      ite_self, hev, hev.rcd, hev.fresh, hev.evt, h_can, h_tim, h_hb, h_bank, h_ax, h_fus, h_sol, h_pwr, h_pair,
      b_bank, b_can, b_fus, b_pair, b_sch, b_sol, r_AX_HALL, r_CAN_CTL, r_FUS_PUBCNT, r_FUS_STAT, r_GATE_BSTUVCNT,
      r_GATE_FLT, r_PROT_AXSTAT, r_SCH_STATE_HI, r_SCH_STATE_LO, r_SOL_FAULTCNT, r_SOL_FEST, r_SOL_LATECNT,
      r_SOL_RSTAT, r_SOL_TMAX, r_SOL_TRACE_E, Fin.is_lt]

theorem sayRestored_forget (P : Parts) (s : State) (hev : MayRaise P) (h_pwr : P.pwr = true) :
    forget P (State.sayRestored s) = forget P s := by
  unfold State.sayRestored
  try dsimp only
  repeat' first
    | with_reducible rfl
    | split
    | (simp only [evPWR_RESTORE_lt, modPwr_forget, raise_forget, Nat.reduceLT, ite_forget, ite_self, hev, hev.rcd,
        hev.fresh, hev.evt, h_pwr, Fin.is_lt]; done)
    | with_reducible refine Eq.trans (each_forget P _ _ (fun s x => ?_) _) ?_
    | (simp only [evPWR_RESTORE_lt, modPwr_forget, raise_forget, Nat.reduceLT, ite_forget, ite_self, hev, hev.rcd,
        hev.fresh, hev.evt, h_pwr, Fin.is_lt])

theorem applyReq_forget (P : Parts) (s : State) (t cause : Nat) (hev : MayRaise P) (h_free : P.free = true) (h_ops :
    P.ops = true) (h_can : P.can = true) (h_tim : P.tim = true) (h_hb : P.hb = true) (h_bank : P.bank = true) (h_ax :
    P.ax = true) (h_fus : P.fus = true) (h_sched : P.sched = true) (h_sol : P.sol = true) (h_pwr : P.pwr = true)
    (h_pair : P.pair = true) (r_GATE_BSTUVCNT : P.Has .GATE_BSTUVCNT) (r_GATE_FLT : P.Has .GATE_FLT) :
    forget P (State.applyReq s t cause) = forget P s := by
  unfold State.applyReq
  try dsimp only
  repeat' first
    | with_reducible rfl
    | split
    | (simp only [domOff_forget, modPwr_forget, raiseDomSw_forget, sayRestored_forget, Nat.reduceLT, ite_forget,
        ite_self, hev, hev.rcd, hev.fresh, hev.evt, h_free, h_ops, h_can, h_tim, h_hb, h_bank, h_ax, h_fus, h_sched,
        h_sol, h_pwr, h_pair, r_GATE_BSTUVCNT, r_GATE_FLT, Fin.is_lt]; done)
    | with_reducible refine Eq.trans (each_forget P _ _ (fun s x => ?_) _) ?_
    | (simp only [domOff_forget, modPwr_forget, raiseDomSw_forget, sayRestored_forget, Nat.reduceLT, ite_forget,
        ite_self, hev, hev.rcd, hev.fresh, hev.evt, h_free, h_ops, h_can, h_tim, h_hb, h_bank, h_ax, h_fus, h_sched,
        h_sol, h_pwr, h_pair, r_GATE_BSTUVCNT, r_GATE_FLT, Fin.is_lt])

theorem allOff_forget (P : Parts) (s : State) (t : Nat) (hev : MayRaise P) (h_free : P.free = true) (h_ops : P.ops =
    true) (h_can : P.can = true) (h_tim : P.tim = true) (h_hb : P.hb = true) (h_bank : P.bank = true) (h_ax : P.ax =
    true) (h_fus : P.fus = true) (h_sched : P.sched = true) (h_sol : P.sol = true) (h_pwr : P.pwr = true) (h_pair :
    P.pair = true) (r_GATE_BSTUVCNT : P.Has .GATE_BSTUVCNT) (r_GATE_FLT : P.Has .GATE_FLT) :
    forget P (State.allOff s t) = forget P s := by
  unfold State.allOff
  try dsimp only
  repeat' first
    | with_reducible rfl
    | split
    | (simp only [domOff_forget, modPwr_forget, Nat.reduceLT, ite_forget, ite_self, hev, hev.rcd, hev.fresh, hev.evt,
        h_free, h_ops, h_can, h_tim, h_hb, h_bank, h_ax, h_fus, h_sched, h_sol, h_pwr, h_pair, r_GATE_BSTUVCNT,
        r_GATE_FLT, Fin.is_lt]; done)
    | with_reducible refine Eq.trans (each_forget P _ _ (fun s x => ?_) _) ?_
    | (simp only [domOff_forget, modPwr_forget, Nat.reduceLT, ite_forget, ite_self, hev, hev.rcd, hev.fresh, hev.evt,
        h_free, h_ops, h_can, h_tim, h_hb, h_bank, h_ax, h_fus, h_sched, h_sol, h_pwr, h_pair, r_GATE_BSTUVCNT,
        r_GATE_FLT, Fin.is_lt])

theorem writeDomReq_forget (P : Parts) (t : Nat) (d : Word) (s : State) (hev : MayRaise P) (h_free : P.free = true)
    (h_ops : P.ops = true) (h_can : P.can = true) (h_tim : P.tim = true) (h_hb : P.hb = true) (h_bank : P.bank = true)
    (h_ax : P.ax = true) (h_fus : P.fus = true) (h_sched : P.sched = true) (h_sol : P.sol = true) (h_pwr : P.pwr =
    true) (h_pair : P.pair = true) (r_GATE_BSTUVCNT : P.Has .GATE_BSTUVCNT) (r_GATE_FLT : P.Has .GATE_FLT)
    (r_PWR_DOM_REQ : P.Has .PWR_DOM_REQ) :
    forget P (writeDomReq t d s) = forget P s := by
  unfold writeDomReq
  try dsimp only
  (repeat' split) <;> first | with_reducible rfl | simp only [applyReq_forget, wr_forget, cov_PWR_DOM_REQ,
      Nat.reduceLT, ite_forget, ite_self, hev, hev.rcd, hev.fresh, hev.evt, h_free, h_ops, h_can, h_tim, h_hb, h_bank,
      h_ax, h_fus, h_sched, h_sol, h_pwr, h_pair, r_GATE_BSTUVCNT, r_GATE_FLT, r_PWR_DOM_REQ, Fin.is_lt]

theorem domainReady_forget (P : Parts) (d : Nat) (s : State) (hev : MayRaise P) (h_free : P.free = true) (h_ops :
    P.ops = true) (h_can : P.can = true) (h_tim : P.tim = true) (h_hb : P.hb = true) (h_bank : P.bank = true) (h_ax :
    P.ax = true) (h_fus : P.fus = true) (h_sched : P.sched = true) (h_sol : P.sol = true) (h_pwr : P.pwr = true)
    (h_pair : P.pair = true) (b_bank : Blk.bank ∈ P.blks) (b_can : Blk.can ∈ P.blks) (b_fus : Blk.fus ∈ P.blks)
    (b_pair : Blk.pair ∈ P.blks) (b_sch : Blk.sch ∈ P.blks) (b_sol : Blk.sol ∈ P.blks) (r_AX_HALL : P.Has .AX_HALL)
    (r_CAN_CTL : P.Has .CAN_CTL) (r_FUS_PUBCNT : P.Has .FUS_PUBCNT) (r_FUS_STAT : P.Has .FUS_STAT) (r_GATE_BSTUVCNT :
    P.Has .GATE_BSTUVCNT) (r_GATE_FLT : P.Has .GATE_FLT) (r_PROT_AXSTAT : P.Has .PROT_AXSTAT) (r_SCH_STATE_HI : P.Has
    .SCH_STATE_HI) (r_SCH_STATE_LO : P.Has .SCH_STATE_LO) (r_SOL_FAULTCNT : P.Has .SOL_FAULTCNT) (r_SOL_FEST : P.Has
    .SOL_FEST) (r_SOL_LATECNT : P.Has .SOL_LATECNT) (r_SOL_RSTAT : P.Has .SOL_RSTAT) (r_SOL_TMAX : P.Has .SOL_TMAX)
    (r_SOL_TRACE_E : P.Has .SOL_TRACE_E) :
    forget P (domainReady d s) = forget P s := by
  unfold domainReady
  try dsimp only
  (repeat' split) <;> first | with_reducible rfl | simp only [applyReq_forget, domOn_forget, modPwr_forget,
      raiseDomSw_forget, sayRestored_forget, Nat.reduceLT, ite_forget, ite_self, hev, hev.rcd, hev.fresh, hev.evt,
      h_free, h_ops, h_can, h_tim, h_hb, h_bank, h_ax, h_fus, h_sched, h_sol, h_pwr, h_pair, b_bank, b_can, b_fus,
      b_pair, b_sch, b_sol, r_AX_HALL, r_CAN_CTL, r_FUS_PUBCNT, r_FUS_STAT, r_GATE_BSTUVCNT, r_GATE_FLT,
      r_PROT_AXSTAT, r_SCH_STATE_HI, r_SCH_STATE_LO, r_SOL_FAULTCNT, r_SOL_FEST, r_SOL_LATECNT, r_SOL_RSTAT,
      r_SOL_TMAX, r_SOL_TRACE_E, Fin.is_lt]

end Sys2Proof.Laws
end

