-- ==== Sys2Proof/Laws/FrameImage.lean ====
section
/-! SUPPORT. Sys2Proof/Laws/FrameImage.lean: which parts of the state each operation of Machine/Image.lean may change. -/
namespace Sys2Proof.Laws
set_option Elab.async false
set_option linter.unusedSimpArgs false
open Sys2Proof.Machine Sys2Proof.Safety

theorem beginLoad_forget (P : Parts) (s : State) (slot : Option Nat) (src dest : Nat) (h_img : P.img = true) :
    forget P (State.beginLoad s slot src dest) = forget P s := by
  unfold State.beginLoad
  try dsimp only
  (repeat' split) <;> first | with_reducible rfl | simp only [modImg_forget, implies_true, Nat.reduceLT, ite_forget,
      ite_self, h_img, Fin.is_lt]

theorem endLoad_forget (P : Parts) (s : State) (h_img : P.img = true) :
    forget P (State.endLoad s) = forget P s := by
  unfold State.endLoad
  try dsimp only
  (repeat' split) <;> first | with_reducible rfl | simp only [modImg_forget, implies_true, Nat.reduceLT, ite_forget,
      ite_self, h_img, Fin.is_lt]

theorem imgReject_forget (P : Parts) (s : State) (src code : Nat) (hev : MayRaise P) (r_IMG_REJECT : P.Has
    .IMG_REJECT) :
    forget P (State.imgReject s src code) = forget P s := by
  unfold State.imgReject
  try dsimp only
  (repeat' split) <;> first | with_reducible rfl | simp only [evIMG_REJECT_lt, raise_forget, wr_forget,
      cov_IMG_REJECT, Nat.reduceLT, ite_forget, ite_self, hev, hev.rcd, hev.fresh, hev.evt, r_IMG_REJECT, Fin.is_lt]

theorem failLoad_forget (P : Parts) (s : State) (l : Load) (code : Nat) (hev : MayRaise P) (h_ops : P.ops = true)
    (h_img : P.img = true) (r_IMG_REJECT : P.Has .IMG_REJECT) :
    forget P (State.failLoad s l code) = forget P s := by
  unfold State.failLoad
  try dsimp only
  (repeat' split) <;> first | with_reducible rfl | simp only [endLoad_forget, endSlot_forget, imgReject_forget,
      modImg_forget, implies_true, Nat.reduceLT, ite_forget, ite_self, hev, hev.rcd, hev.fresh, hev.evt, h_ops, h_img,
      r_IMG_REJECT, Fin.is_lt]

theorem doneLoad_forget (P : Parts) (s : State) (l : Load) (hev : MayRaise P) (h_ops : P.ops = true) (h_img : P.img =
    true) :
    forget P (State.doneLoad s l) = forget P s := by
  unfold State.doneLoad
  try dsimp only
  (repeat' split) <;> first | with_reducible rfl | simp only [endLoad_forget, endSlot_forget, publishFinal_forget,
      Nat.reduceLT, ite_forget, ite_self, hev, hev.rcd, hev.fresh, hev.evt, h_ops, h_img, Fin.is_lt]

theorem verified_forget (P : Parts) (s : State) (l : Load) (code len : Nat) (h_ops : P.ops = true) :
    forget P (State.verified s l code len) = forget P s := by
  unfold State.verified
  try dsimp only
  (repeat' split) <;> first | with_reducible rfl | simp only [publishPart_forget, Nat.reduceLT, ite_forget, ite_self,
      h_ops, Fin.is_lt]

theorem imageVerifyDone_forget (P : Parts) (s : State) (hev : MayRaise P) (h_ops : P.ops = true) (h_img : P.img =
    true) (r_IMG_REJECT : P.Has .IMG_REJECT) :
    forget P (imageVerifyDone s) = forget P s := by
  unfold imageVerifyDone
  try dsimp only
  (repeat' split) <;> first | with_reducible rfl | simp only [failLoad_forget, modImg_forget, verified_forget,
      implies_true, Nat.reduceLT, ite_forget, ite_self, hev, hev.rcd, hev.fresh, hev.evt, h_ops, h_img, r_IMG_REJECT,
      Fin.is_lt]

theorem takePreset_forget (P : Parts) (s : State) (p : Nat × Word) (h_all : ∀ b, b ∈ P.blks) :
    forget P (State.takePreset s p) = forget P s := by
  unfold State.takePreset
  try dsimp only
  (repeat' split) <;> first | with_reducible rfl | simp only [wr_forget, covers_all h_all, Nat.reduceLT, ite_forget,
      ite_self, h_all, Fin.is_lt]

theorem showBank_forget (P : Parts) (s : State) (b : Fin 8) (c : BankCfg) (r_SYS_HBMAP01 : P.Has .SYS_HBMAP01)
    (r_SYS_HBMAP2 : P.Has .SYS_HBMAP2) (r_SYS_SLOTMAP : P.Has .SYS_SLOTMAP) :
    forget P (State.showBank s b c) = forget P s := by
  unfold State.showBank
  try dsimp only
  (repeat' split) <;> first | with_reducible rfl | simp only [wr_forget, cov_SYS_HBMAP01, cov_SYS_HBMAP2,
      cov_SYS_SLOTMAP, Nat.reduceLT, ite_forget, ite_self, r_SYS_HBMAP01, r_SYS_HBMAP2, r_SYS_SLOTMAP, Fin.is_lt]

theorem leastSteps_forget (P : Parts) (s : State) (b : Fin 8) (r_GATE_IDRV_HS : P.Has .GATE_IDRV_HS) (r_GATE_IDRV_LS :
    P.Has .GATE_IDRV_LS) :
    forget P (State.leastSteps s b) = forget P s := by
  unfold State.leastSteps
  try dsimp only
  repeat' first
    | with_reducible rfl
    | split
    | (simp only [wr_forget, cov_GATE_IDRV_HS, cov_GATE_IDRV_LS, Nat.reduceLT, ite_forget, ite_self, r_GATE_IDRV_HS,
        r_GATE_IDRV_LS, Fin.is_lt]; done)
    | with_reducible refine Eq.trans (each_forget P _ _ (fun s x => ?_) _) ?_
    | (simp only [wr_forget, cov_GATE_IDRV_HS, cov_GATE_IDRV_LS, Nat.reduceLT, ite_forget, ite_self, r_GATE_IDRV_HS,
        r_GATE_IDRV_LS, Fin.is_lt])

theorem bankValues_forget (P : Parts) (s : State) (b : Fin 8) (ps : List (Nat × Word)) (h_all : ∀ b, b ∈ P.blks) :
    forget P (State.bankValues s b ps) = forget P s := by
  unfold State.bankValues
  try dsimp only
  repeat' first
    | with_reducible rfl
    | split
    | (simp only [clearRange_forget, leastSteps_forget, takePreset_forget, implies_true, covers_all h_all, has_all
        h_all, Nat.reduceLT, ite_forget, ite_self, h_all, Fin.is_lt]; done)
    | with_reducible refine Eq.trans (each_forget P _ _ (fun s x => ?_) _) ?_
    | (simp only [clearRange_forget, leastSteps_forget, takePreset_forget, implies_true, covers_all h_all, has_all
        h_all, Nat.reduceLT, ite_forget, ite_self, h_all, Fin.is_lt])

theorem resetBlocks_forget (P : Parts) (s : State) (h_can : P.can = true) (h_tim : P.tim = true) (h_hb : P.hb = true)
    (h_bank : P.bank = true) (h_ax : P.ax = true) (h_fus : P.fus = true) (h_sched : P.sched = true) (h_sol : P.sol =
    true) (h_pair : P.pair = true) (h_all : ∀ b, b ∈ P.blks) :
    forget P (State.resetBlocks s) = forget P s := by
  unfold State.resetBlocks
  try dsimp only
  repeat' first
    | with_reducible rfl
    | split
    | (simp only [clearRange_forget, modAx_forget, modBank_forget, modCan_forget, modFus_forget, modHb_forget,
        modPair_forget, modSched_forget, modSol_forget, stopBank_forget, wr_forget, implies_true, covers_all h_all,
        Nat.reduceLT, ite_forget, ite_self, h_can, h_tim, h_hb, h_bank, h_ax, h_fus, h_sched, h_sol, h_pair, h_all,
        Fin.is_lt]; done)
    | with_reducible refine Eq.trans (each_forget P _ _ (fun s x => ?_) _) ?_
    | (simp only [clearRange_forget, modAx_forget, modBank_forget, modCan_forget, modFus_forget, modHb_forget,
        modPair_forget, modSched_forget, modSol_forget, stopBank_forget, wr_forget, implies_true, covers_all h_all,
        Nat.reduceLT, ite_forget, ite_self, h_can, h_tim, h_hb, h_bank, h_ax, h_fus, h_sched, h_sol, h_pair, h_all,
        Fin.is_lt])

theorem showImage_forget (P : Parts) (s : State) (c : ImageCfg) (r_IMG_BANKTAG : P.Has .IMG_BANKTAG) (r_IMG_CRC :
    P.Has .IMG_CRC) (r_IMG_ID : P.Has .IMG_ID) (r_IMG_LEN : P.Has .IMG_LEN) (r_IMG_VER : P.Has .IMG_VER) (r_SYS_DDP :
    P.Has .SYS_DDP) (r_SYS_HBMAP01 : P.Has .SYS_HBMAP01) (r_SYS_HBMAP2 : P.Has .SYS_HBMAP2) (r_SYS_PINALT : P.Has
    .SYS_PINALT) (r_SYS_SLOTMAP : P.Has .SYS_SLOTMAP) :
    forget P (State.showImage s c) = forget P s := by
  have hq0 : ∀ (s : State) (v : Nat), forget P (s.wrQ (A.IMG_ID 0) 2 v) = forget P s := by
    intro s v; apply wrQ_forget; intro i hi
    rw [show A.IMG_ID 0 + i = A.IMG_ID (0 + i) from by unfold A.IMG_ID; omega]; exact cov_IMG_ID r_IMG_ID _ (by omega)
  have hq1 : ∀ (s : State) (v : Nat), forget P (s.wrQ (A.IMG_VER 0) 2 v) = forget P s := by
    intro s v; apply wrQ_forget; intro i hi
    rw [show A.IMG_VER 0 + i = A.IMG_VER (0 + i) from by unfold A.IMG_VER; omega]; exact cov_IMG_VER r_IMG_VER _ (by
        omega)
  have hq2 : ∀ (s : State) (v : Nat), forget P (s.wrQ (A.IMG_LEN 0) 2 v) = forget P s := by
    intro s v; apply wrQ_forget; intro i hi
    rw [show A.IMG_LEN 0 + i = A.IMG_LEN (0 + i) from by unfold A.IMG_LEN; omega]; exact cov_IMG_LEN r_IMG_LEN _ (by
        omega)
  have hq3 : ∀ (s : State) (v : Nat), forget P (s.wrQ (A.IMG_CRC 0) 2 v) = forget P s := by
    intro s v; apply wrQ_forget; intro i hi
    rw [show A.IMG_CRC 0 + i = A.IMG_CRC (0 + i) from by unfold A.IMG_CRC; omega]; exact cov_IMG_CRC r_IMG_CRC _ (by
        omega)
  have hw : ∀ (s : State) (l : List Word), l.length ≤ 8 → forget P (s.wrs (A.IMG_BANKTAG 0) l) = forget P s := by
    intro s l hl; apply wrs_forget; intro i hi
    rw [show A.IMG_BANKTAG 0 + i = A.IMG_BANKTAG (0 + i) from by unfold A.IMG_BANKTAG; omega]; exact cov_IMG_BANKTAG
        r_IMG_BANKTAG _ (by omega)
  unfold State.showImage
  try dsimp only
  repeat' first
    | with_reducible rfl
    | split
    | (simp only [showBank_forget, wr_forget, cov_SYS_DDP, cov_SYS_PINALT, Nat.le_refl, List.length_replicate, hq0,
        hq1, hq2, hq3, hw, Nat.reduceLT, ite_forget, ite_self, r_IMG_BANKTAG, r_IMG_CRC, r_IMG_ID, r_IMG_LEN,
        r_IMG_VER, r_SYS_DDP, r_SYS_HBMAP01, r_SYS_HBMAP2, r_SYS_PINALT, r_SYS_SLOTMAP, Fin.is_lt]; done)
    | with_reducible refine Eq.trans (each_forget P _ _ (fun s x => ?_) _) ?_
    | (simp only [showBank_forget, wr_forget, cov_SYS_DDP, cov_SYS_PINALT, Nat.le_refl, List.length_replicate, hq0,
        hq1, hq2, hq3, hw, Nat.reduceLT, ite_forget, ite_self, r_IMG_BANKTAG, r_IMG_CRC, r_IMG_ID, r_IMG_LEN,
        r_IMG_VER, r_SYS_DDP, r_SYS_HBMAP01, r_SYS_HBMAP2, r_SYS_PINALT, r_SYS_SLOTMAP, Fin.is_lt])

theorem wholeSwap_forget (P : Parts) (s : State) (c : ImageCfg) (src : Nat) (fallback : Bool) (hrec : MayRecord P)
    (hev : MayRaise P) (h_free : P.free = true) (h_clk : P.clk = true) (h_ops : P.ops = true) (h_can : P.can = true)
    (h_tim : P.tim = true) (h_hb : P.hb = true) (h_bank : P.bank = true) (h_ax : P.ax = true) (h_fus : P.fus = true)
    (h_sched : P.sched = true) (h_sol : P.sol = true) (h_img : P.img = true) (h_pwr : P.pwr = true) (h_pair : P.pair =
    true) (h_all : ∀ b, b ∈ P.blks) :
    forget P (State.wholeSwap s c src fallback) = forget P s := by
  unfold State.wholeSwap
  try dsimp only
  repeat' first
    | with_reducible rfl
    | split
    | (simp only [allOff_forget, bankValues_forget, evIMG_LOADED_lt, flushDue_forget, loadSteps_forget, modImg_forget,
        ppsAtSwap_forget, raise_forget, raiseDomSw_forget, redriveBank_forget, resetBlocks_forget, showImage_forget,
        takePreset_forget, thaw_forget, wr_forget, implies_true, modRcd_forget_recs, covers_all h_all, has_all h_all,
        Nat.reduceLT, ite_forget, ite_self, hrec, hrec.queue.raises, hrec.queue, hrec.recs, hev, hev.rcd, hev.fresh,
        hev.evt, h_free, h_clk, h_ops, h_can, h_tim, h_hb, h_bank, h_ax, h_fus, h_sched, h_sol, h_img, h_pwr, h_pair,
        h_all, Fin.is_lt]; done)
    | with_reducible refine Eq.trans (each_forget P _ _ (fun s x => ?_) _) ?_
    | (simp only [allOff_forget, bankValues_forget, evIMG_LOADED_lt, flushDue_forget, loadSteps_forget, modImg_forget,
        ppsAtSwap_forget, raise_forget, raiseDomSw_forget, redriveBank_forget, resetBlocks_forget, showImage_forget,
        takePreset_forget, thaw_forget, wr_forget, implies_true, modRcd_forget_recs, covers_all h_all, has_all h_all,
        Nat.reduceLT, ite_forget, ite_self, hrec, hrec.queue.raises, hrec.queue, hrec.recs, hev, hev.rcd, hev.fresh,
        hev.evt, h_free, h_clk, h_ops, h_can, h_tim, h_hb, h_bank, h_ax, h_fus, h_sched, h_sol, h_img, h_pwr, h_pair,
        h_all, Fin.is_lt])

theorem bootFallback_forget (P : Parts) (s : State) (l : Load) (hev : MayRaise P) :
    forget P (State.bootFallback s l) = forget P s := by
  unfold State.bootFallback
  try dsimp only
  (repeat' split) <;> first | with_reducible rfl | simp only [evIMG_FALLBACK_lt, raise_forget, Nat.reduceLT,
      ite_forget, ite_self, hev, hev.rcd, hev.fresh, hev.evt, Fin.is_lt]

theorem wholeImageSwap_forget (P : Parts) (l : Load) (c : ImageCfg) (s : State) (hrec : MayRecord P) (h_free : P.free
    = true) (h_clk : P.clk = true) (h_ops : P.ops = true) (h_can : P.can = true) (h_tim : P.tim = true) (h_hb : P.hb =
    true) (h_bank : P.bank = true) (h_ax : P.ax = true) (h_fus : P.fus = true) (h_sched : P.sched = true) (h_sol :
    P.sol = true) (h_img : P.img = true) (h_pwr : P.pwr = true) (h_pair : P.pair = true) (h_all : ∀ b, b ∈ P.blks) :
    forget P (wholeImageSwap l c s) = forget P s := by
  unfold wholeImageSwap
  try dsimp only
  (repeat' split) <;> first | with_reducible rfl | simp only [bootFallback_forget, doneLoad_forget, failLoad_forget,
      wholeSwap_forget, implies_true, has_all h_all, Nat.reduceLT, ite_forget, ite_self, hrec, hrec.queue.raises,
      hrec.queue, hrec.recs, h_free, h_clk, h_ops, h_can, h_tim, h_hb, h_bank, h_ax, h_fus, h_sched, h_sol, h_img,
      h_pwr, h_pair, h_all, Fin.is_lt]

theorem bankSwap_forget (P : Parts) (s : State) (b : Fin 8) (c : BankCfg) (tag : Word) (hev : MayRaise P) (h_tim :
    P.tim = true) (h_hb : P.hb = true) (h_bank : P.bank = true) (h_ax : P.ax = true) (h_img : P.img = true) (h_all : ∀
    b, b ∈ P.blks) :
    forget P (State.bankSwap s b c tag) = forget P s := by
  unfold State.bankSwap
  try dsimp only
  repeat' first
    | with_reducible rfl
    | split
    | (simp only [bankValues_forget, evBANK_CFG_lt, evIMG_LOADED_lt, loadSteps_forget, modAx_forget, modBank_forget,
        modHb_forget, modImg_forget, raise_forget, redriveBank_forget, rejudge_forget, showBank_forget,
        sideFor_forget, startBank_forget, stopBank_forget, wr_forget, implies_true, covers_all h_all, has_all h_all,
        Nat.reduceLT, ite_forget, ite_self, hev, hev.rcd, hev.fresh, hev.evt, h_tim, h_hb, h_bank, h_ax, h_img, h_all,
        Fin.is_lt]; done)
    | with_reducible refine Eq.trans (each_forget P _ _ (fun s x => ?_) _) ?_
    | (simp only [bankValues_forget, evBANK_CFG_lt, evIMG_LOADED_lt, loadSteps_forget, modAx_forget, modBank_forget,
        modHb_forget, modImg_forget, raise_forget, redriveBank_forget, rejudge_forget, showBank_forget,
        sideFor_forget, startBank_forget, stopBank_forget, wr_forget, implies_true, covers_all h_all, has_all h_all,
        Nat.reduceLT, ite_forget, ite_self, hev, hev.rcd, hev.fresh, hev.evt, h_tim, h_hb, h_bank, h_ax, h_img, h_all,
        Fin.is_lt])

theorem bankImageSwap_forget (P : Parts) (l : Load) (b : Fin 8) (c : BankCfg) (tag : Word) (s : State) (hev : MayRaise
    P) (h_ops : P.ops = true) (h_tim : P.tim = true) (h_hb : P.hb = true) (h_bank : P.bank = true) (h_ax : P.ax =
    true) (h_img : P.img = true) (h_all : ∀ b, b ∈ P.blks) :
    forget P (bankImageSwap l b c tag s) = forget P s := by
  unfold bankImageSwap
  try dsimp only
  (repeat' split) <;> first | with_reducible rfl | simp only [bankSwap_forget, doneLoad_forget, failLoad_forget,
      implies_true, has_all h_all, Nat.reduceLT, ite_forget, ite_self, hev, hev.rcd, hev.fresh, hev.evt, h_ops, h_tim,
      h_hb, h_bank, h_ax, h_img, h_all, Fin.is_lt]

theorem freeBytes_forget (P : Parts) (s : State) (n : Nat) (h_free : P.free = true) :
    forget P (State.freeBytes s n).1 = forget P s := by
  unfold State.freeBytes
  try dsimp only
  (repeat' split) <;> first | with_reducible rfl | simp only [setFree_forget, Nat.reduceLT, ite_forget, ite_self,
      h_free, Fin.is_lt]

theorem freeBytes_eq {P : Parts} (s : State) (n : Nat) {t' : State} {v' : List Byte} (e : State.freeBytes s n = (t',
    v')) (h_free : P.free = true) :
    forget P t' = forget P s := by
  have := freeBytes_forget P s n h_free
  rwa [e] at this

theorem modLoad_forget (P : Parts) (s : State) (f : Load → Load) (h_img : P.img = true) :
    forget P (State.modLoad s f) = forget P s := by
  unfold State.modLoad
  try dsimp only
  (repeat' split) <;> first | with_reducible rfl | simp only [modImg_forget, implies_true, Nat.reduceLT, ite_forget,
      ite_self, h_img, Fin.is_lt]

theorem stopWrite_forget (P : Parts) (s : State) (l : Load) (i : Fin 8) (fail : Nat) (hev : MayRaise P) (h_ops : P.ops
    = true) (h_img : P.img = true) (h_store : P.store = true) (h_mem : P.mem = true) :
    forget P (State.stopWrite s l i fail) = forget P s := by
  unfold State.stopWrite
  try dsimp only
  (repeat' split) <;> first | with_reducible rfl | simp only [endLoad_forget, endSlot_forget, eraseBytes_forget,
      modLoad_forget, Nat.reduceLT, ite_forget, ite_self, hev, hev.rcd, hev.fresh, hev.evt, h_ops, h_img, h_store,
      h_mem, Fin.is_lt]

theorem writePart_forget (P : Parts) (s : State) (l : Load) (ok : Bool) (h_free : P.free = true) (h_store : P.store =
    true) (h_mem : P.mem = true) :
    forget P (State.writePart s l ok).1 = forget P s := by
  unfold State.writePart
  try dsimp only
  (repeat' split) <;> first | with_reducible rfl | simp only [eraseBytes_forget, freeBytes_forget,
      modStore_forget_mem, Nat.reduceLT, ite_forget, ite_self, h_free, h_store, h_mem, Fin.is_lt]

theorem writePart_eq {P : Parts} (s : State) (l : Load) (ok : Bool) {t' : State} {v' : Load} (e : State.writePart s l
    ok = (t', v')) (h_free : P.free = true) (h_store : P.store = true) (h_mem : P.mem = true) :
    forget P t' = forget P s := by
  have := writePart_forget P s l ok h_free h_store h_mem
  rwa [e] at this

theorem slotWriteBurst_forget (P : Parts) (l : Load) (i : Fin 8) (ok : Bool) (s : State) (hev : MayRaise P) (h_free :
    P.free = true) (h_ops : P.ops = true) (h_img : P.img = true) (h_store : P.store = true) (h_mem : P.mem = true)
    (r_IMG_REJECT : P.Has .IMG_REJECT) :
    forget P (slotWriteBurst l i ok s) = forget P s := by
  unfold slotWriteBurst
  try dsimp only
  (repeat' split) <;> first | with_reducible rfl | simp only [doneLoad_forget, failLoad_forget, modImg_forget,
      modSlot_forget, stopWrite_forget, writePart_forget, implies_true, Nat.reduceLT, ite_forget, ite_self, hev,
      hev.rcd, hev.fresh, hev.evt, h_free, h_ops, h_img, h_store, h_mem, r_IMG_REJECT, Fin.is_lt]

theorem imgKeydataWrite_forget (P : Parts) (d : Word) (s : State) (h_img : P.img = true) :
    forget P (imgKeydataWrite d s) = forget P s := by
  unfold imgKeydataWrite
  try dsimp only
  (repeat' split) <;> first | with_reducible rfl | simp only [modImg_forget, implies_true, Nat.reduceLT, ite_forget,
      ite_self, h_img, Fin.is_lt]

theorem keyBroken_forget (P : Parts) (s : State) (h_fresh : P.fresh = true) (h_img : P.img = true) (r_IMG_KEYSTAT :
    P.Has .IMG_KEYSTAT) :
    forget P (State.keyBroken s) = forget P s := by
  unfold State.keyBroken
  try dsimp only
  (repeat' split) <;> first | with_reducible rfl | simp only [modImg_forget, setFlags_forget, cov_IMG_KEYSTAT,
      implies_true, Nat.reduceLT, ite_forget, ite_self, h_fresh, h_img, r_IMG_KEYSTAT, Fin.is_lt]

theorem keyCmd_forget (P : Parts) (d : Word) (s : State) (h_fresh : P.fresh = true) (h_img : P.img = true)
    (r_IMG_KEYSTAT : P.Has .IMG_KEYSTAT) :
    forget P (keyCmd d s) = forget P s := by
  unfold keyCmd
  try dsimp only
  (repeat' split) <;> first | with_reducible rfl | simp only [keyBroken_forget, modImg_forget, implies_true,
      Nat.reduceLT, ite_forget, ite_self, h_fresh, h_img, r_IMG_KEYSTAT, Fin.is_lt]

theorem keyProgramDone_forget (P : Parts) (ok : Bool) (s : State) (h_free : P.free = true) (h_img : P.img = true)
    (r_IMG_KEYCHK : P.Has .IMG_KEYCHK) (r_IMG_KEYSTAT : P.Has .IMG_KEYSTAT) :
    forget P (keyProgramDone ok s) = forget P s := by
  unfold keyProgramDone
  try dsimp only
  (repeat' split) <;> first | with_reducible rfl | simp only [modImg_forget, took_forget, wr_forget, cov_IMG_KEYCHK,
      cov_IMG_KEYSTAT, implies_true, Nat.reduceLT, ite_forget, ite_self, h_free, h_img, r_IMG_KEYCHK, r_IMG_KEYSTAT,
      Fin.is_lt]

end Sys2Proof.Laws
end

