-- ==== Sys2Proof/Laws/FrameLongOps.lean ====
section
/-! SUPPORT. Sys2Proof/Laws/FrameLongOps.lean: which parts of the state each operation of Machine/LongOps.lean may change. -/
namespace Sys2Proof.Laws
set_option Elab.async false
set_option linter.unusedSimpArgs false
open Sys2Proof.Machine Sys2Proof.Safety

theorem beginOp_forget (P : Parts) (s : State) (i : Fin 8) (hev : MayRaise P) (h_ops : P.ops = true) (h_bank : P.bank
    = true) (h_ax : P.ax = true) (h_img : P.img = true) (h_store : P.store = true) (r_IMG_REJECT : P.Has .IMG_REJECT)
    :
    forget P (State.beginOp s i) = forget P s := by
  unfold State.beginOp
  try dsimp only
  repeat' first
    | with_reducible rfl
    | split
    | (simp only [beginLoad_forget, endSlot_forget, imgReject_forget, modAx_forget, modBank_forget, modOps_forget,
        modSlot_forget, modStore_forget, implies_true, Nat.reduceLT, ite_forget, ite_self, hev, hev.rcd, hev.fresh,
        hev.evt, h_ops, h_bank, h_ax, h_img, h_store, r_IMG_REJECT, Fin.is_lt]; done)
    | with_reducible refine Eq.trans (each_forget P _ _ (fun s x => ?_) _) ?_
    | (simp only [beginLoad_forget, endSlot_forget, imgReject_forget, modAx_forget, modBank_forget, modOps_forget,
        modSlot_forget, modStore_forget, implies_true, Nat.reduceLT, ite_forget, ite_self, hev, hev.rcd, hev.fresh,
        hev.evt, h_ops, h_bank, h_ax, h_img, h_store, r_IMG_REJECT, Fin.is_lt])

theorem startOp_forget (P : Parts) (s : State) (i : Fin 8) (hev : MayRaise P) (h_ops : P.ops = true) (h_bank : P.bank
    = true) (h_ax : P.ax = true) (h_img : P.img = true) (h_store : P.store = true) (r_IMG_REJECT : P.Has .IMG_REJECT)
    :
    forget P (State.startOp s i) = forget P s := by
  unfold State.startOp
  try dsimp only
  (repeat' split) <;> first | with_reducible rfl | simp only [beginOp_forget, endSlot_forget, Nat.reduceLT,
      ite_forget, ite_self, hev, hev.rcd, hev.fresh, hev.evt, h_ops, h_bank, h_ax, h_img, h_store, r_IMG_REJECT,
      Fin.is_lt]

theorem opStart_forget (P : Parts) (i : Fin 8) (s : State) (hev : MayRaise P) (h_ops : P.ops = true) (h_bank : P.bank
    = true) (h_ax : P.ax = true) (h_img : P.img = true) (h_store : P.store = true) (r_IMG_REJECT : P.Has .IMG_REJECT)
    :
    forget P (opStart i s) = forget P s := by
  unfold opStart
  try dsimp only
  (repeat' split) <;> first | with_reducible rfl | simp only [startOp_forget, Nat.reduceLT, ite_forget, ite_self, hev,
      hev.rcd, hev.fresh, hev.evt, h_ops, h_bank, h_ax, h_img, h_store, r_IMG_REJECT, Fin.is_lt]

theorem doorbell_forget (P : Parts) (op : Nat) (s : State) (hev : MayRaise P) (h_ops : P.ops = true) (h_bank : P.bank
    = true) (h_ax : P.ax = true) (h_img : P.img = true) (h_store : P.store = true) (r_IMG_REJECT : P.Has .IMG_REJECT)
    (r_OP_QFULLCNT : P.Has .OP_QFULLCNT) (r_OP_TICKET : P.Has .OP_TICKET) :
    forget P (doorbell op s) = forget P s := by
  unfold doorbell
  try dsimp only
  (repeat' split) <;> first | with_reducible rfl | simp only [modOps_forget, modSlot_forget, opStart_forget,
      satInc_forget, wr_forget, cov_OP_QFULLCNT, cov_OP_TICKET, Nat.reduceLT, ite_forget, ite_self, hev, hev.rcd,
      hev.fresh, hev.evt, h_ops, h_bank, h_ax, h_img, h_store, r_IMG_REJECT, r_OP_QFULLCNT, r_OP_TICKET, Fin.is_lt]

theorem dropOp_forget (P : Parts) (s : State) (i : Fin 8) (st : OpState) (fail : Nat) (hev : MayRaise P) (h_free :
    P.free = true) (h_ops : P.ops = true) (h_hb : P.hb = true) (h_ax : P.ax = true) (h_img : P.img = true) :
    forget P (State.dropOp s i st fail) = forget P s := by
  unfold State.dropOp
  try dsimp only
  (repeat' split) <;> first | with_reducible rfl | simp only [endLoad_forget, endSlot_forget, measureLines_forget,
      modAx_forget, Nat.reduceLT, ite_forget, ite_self, hev, hev.rcd, hev.fresh, hev.evt, h_free, h_ops, h_hb, h_ax,
      h_img, Fin.is_lt]

theorem abortSlot_forget (P : Parts) (s : State) (i : Fin 8) (fail : Nat) (hev : MayRaise P) (h_free : P.free = true)
    (h_ops : P.ops = true) (h_hb : P.hb = true) (h_ax : P.ax = true) (h_img : P.img = true) :
    forget P (State.abortSlot s i fail) = forget P s := by
  unfold State.abortSlot
  try dsimp only
  (repeat' split) <;> first | with_reducible rfl | simp only [dropOp_forget, endSlot_forget, modSlot_forget,
      Nat.reduceLT, ite_forget, ite_self, hev, hev.rcd, hev.fresh, hev.evt, h_free, h_ops, h_hb, h_ax, h_img,
      Fin.is_lt]

theorem opAbort_forget (P : Parts) (d : Word) (s : State) (hev : MayRaise P) (h_free : P.free = true) (h_ops : P.ops =
    true) (h_hb : P.hb = true) (h_ax : P.ax = true) (h_img : P.img = true) :
    forget P (opAbort d s) = forget P s := by
  unfold opAbort
  try dsimp only
  (repeat' split) <;> first | with_reducible rfl | simp only [abortSlot_forget, Nat.reduceLT, ite_forget, ite_self,
      hev, hev.rcd, hev.fresh, hev.evt, h_free, h_ops, h_hb, h_ax, h_img, Fin.is_lt]

theorem opRelease_forget (P : Parts) (d : Word) (s : State) (h_ops : P.ops = true) :
    forget P (opRelease d s) = forget P s := by
  unfold opRelease
  try dsimp only
  (repeat' split) <;> first | with_reducible rfl | simp only [modSlot_forget, Nat.reduceLT, ite_forget, ite_self,
      h_ops, Fin.is_lt]

theorem opPartial_forget (P : Parts) (i e : Fin 8) (v progress : Nat) (s : State) (hev : MayRaise P) (h_free : P.free
    = true) (h_ops : P.ops = true) (h_hb : P.hb = true) (h_ax : P.ax = true) (h_img : P.img = true) :
    forget P (opPartial i e v progress s) = forget P s := by
  unfold opPartial
  try dsimp only
  (repeat' split) <;> first | with_reducible rfl | simp only [dropOp_forget, modSlot_forget, publishPart_forget,
      Nat.reduceLT, ite_forget, ite_self, hev, hev.rcd, hev.fresh, hev.evt, h_free, h_ops, h_hb, h_ax, h_img,
      Fin.is_lt]

theorem finishOp_forget (P : Parts) (s : State) (i : Fin 8) (model : Bool) (vals : List (BitVec 32)) (hev : MayRaise
    P) (h_free : P.free = true) (h_ops : P.ops = true) (h_hb : P.hb = true) (h_ax : P.ax = true) (h_img : P.img =
    true) (h_safe : P.safe = true) :
    forget P (State.finishOp s i model vals) = forget P s := by
  unfold State.finishOp
  try dsimp only
  repeat' first
    | with_reducible rfl
    | split
    | (simp only [dropOp_forget, endSlot_forget, evCOMPACT_DONE_lt, measureLines_forget, modSafe_forget,
        publishFinal_forget, raise_forget, Nat.reduceLT, ite_forget, ite_self, hev, hev.rcd, hev.fresh, hev.evt,
        h_free, h_ops, h_hb, h_ax, h_img, h_safe, Fin.is_lt]; done)
    | with_reducible refine Eq.trans (each_forget P _ _ (fun s x => ?_) _) ?_
    | (simp only [dropOp_forget, endSlot_forget, evCOMPACT_DONE_lt, measureLines_forget, modSafe_forget,
        publishFinal_forget, raise_forget, Nat.reduceLT, ite_forget, ite_self, hev, hev.rcd, hev.fresh, hev.evt,
        h_free, h_ops, h_hb, h_ax, h_img, h_safe, Fin.is_lt])

theorem opEnd_forget (P : Parts) (i : Fin 8) (model : Bool) (vals : List (BitVec 32)) (s : State) (hev : MayRaise P)
    (h_free : P.free = true) (h_ops : P.ops = true) (h_hb : P.hb = true) (h_ax : P.ax = true) (h_img : P.img = true)
    (h_safe : P.safe = true) :
    forget P (opEnd i model vals s) = forget P s := by
  unfold opEnd
  try dsimp only
  (repeat' split) <;> first | with_reducible rfl | simp only [dropOp_forget, finishOp_forget, Nat.reduceLT,
      ite_forget, ite_self, hev, hev.rcd, hev.fresh, hev.evt, h_free, h_ops, h_hb, h_ax, h_img, h_safe, Fin.is_lt]

theorem countDeferred_forget (P : Parts) (s : State) (h_ops : P.ops = true) :
    forget P (State.countDeferred s) = forget P s := by
  unfold State.countDeferred
  try dsimp only
  repeat' first
    | with_reducible rfl
    | split
    | (simp only [modSlot_forget, Nat.reduceLT, ite_forget, ite_self, h_ops, Fin.is_lt]; done)
    | with_reducible refine Eq.trans (each_forget P _ _ (fun s x => ?_) _) ?_
    | (simp only [modSlot_forget, Nat.reduceLT, ite_forget, ite_self, h_ops, Fin.is_lt])

end Sys2Proof.Laws
end

