-- ==== Sys2Proof/Laws/FramePair.lean ====
section
/-! SUPPORT. Sys2Proof/Laws/FramePair.lean: which parts of the state each operation of Machine/Pair.lean may change. -/
namespace Sys2Proof.Laws
set_option Elab.async false
set_option linter.unusedSimpArgs false
open Sys2Proof.Machine Sys2Proof.Safety

theorem takeRole_forget (P : Parts) (s : State) (owner : Bool) (cause : Nat) (hev : MayRaise P) (h_pair : P.pair =
    true) :
    forget P (State.takeRole s owner cause) = forget P s := by
  unfold State.takeRole
  try dsimp only
  (repeat' split) <;> first | with_reducible rfl | simp only [evPAIR_OWNER_lt, modPair_forget, raise_forget,
      Nat.reduceLT, ite_forget, ite_self, hev, hev.rcd, hev.fresh, hev.evt, h_pair, Fin.is_lt]

theorem ownFault_forget (P : Parts) (s : State) (hev : MayRaise P) (h_pair : P.pair = true) :
    forget P (State.ownFault s) = forget P s := by
  unfold State.ownFault
  try dsimp only
  (repeat' split) <;> first | with_reducible rfl | simp only [evPAIR_OWNER_lt, modPair_forget, raise_forget,
      Nat.reduceLT, ite_forget, ite_self, hev, hev.rcd, hev.fresh, hev.evt, h_pair, Fin.is_lt]

theorem idClash_forget (P : Parts) (s : State) (hev : MayRaise P) (h_pair : P.pair = true) :
    forget P (State.idClash s) = forget P s := by
  unfold State.idClash
  try dsimp only
  (repeat' split) <;> first | with_reducible rfl | simp only [evPAIR_OWNER_lt, modPair_forget, raise_forget,
      Nat.reduceLT, ite_forget, ite_self, hev, hev.rcd, hev.fresh, hev.evt, h_pair, Fin.is_lt]

theorem unarm_forget (P : Parts) (s : State) (t : Nat) (b : Fin 8) (hev : MayRaise P) (h_ops : P.ops = true) (h_tim :
    P.tim = true) (h_hb : P.hb = true) (h_bank : P.bank = true) (h_ax : P.ax = true) (r_GATE_BSTUVCNT : P.Has
    .GATE_BSTUVCNT) (r_GATE_FLT : P.Has .GATE_FLT) :
    forget P (State.unarm s t b) = forget P s := by
  unfold State.unarm
  try dsimp only
  repeat' first
    | with_reducible rfl
    | split
    | (simp only [cutShuntCal_forget, modBank_forget, redriveBank_forget, stopAxis_forget, Nat.reduceLT, ite_forget,
        ite_self, hev, hev.rcd, hev.fresh, hev.evt, h_ops, h_tim, h_hb, h_bank, h_ax, r_GATE_BSTUVCNT, r_GATE_FLT,
        Fin.is_lt]; done)
    | with_reducible refine Eq.trans (each_forget P _ _ (fun s x => ?_) _) ?_
    | (simp only [cutShuntCal_forget, modBank_forget, redriveBank_forget, stopAxis_forget, Nat.reduceLT, ite_forget,
        ite_self, hev, hev.rcd, hev.fresh, hev.evt, h_ops, h_tim, h_hb, h_bank, h_ax, r_GATE_BSTUVCNT, r_GATE_FLT,
        Fin.is_lt])

theorem pairClaim_forget (P : Parts) (t : Nat) (s : State) (hev : MayRaise P) (h_ops : P.ops = true) (h_tim : P.tim =
    true) (h_hb : P.hb = true) (h_bank : P.bank = true) (h_ax : P.ax = true) (h_pair : P.pair = true) (r_GATE_BSTUVCNT
    : P.Has .GATE_BSTUVCNT) (r_GATE_FLT : P.Has .GATE_FLT) :
    forget P (pairClaim t s) = forget P s := by
  unfold pairClaim
  try dsimp only
  repeat' first
    | with_reducible rfl
    | split
    | (simp only [modPair_forget, refloatAll_forget, takeRole_forget, unarm_forget, Nat.reduceLT, ite_forget,
        ite_self, hev, hev.rcd, hev.fresh, hev.evt, h_ops, h_tim, h_hb, h_bank, h_ax, h_pair, r_GATE_BSTUVCNT,
        r_GATE_FLT, Fin.is_lt]; done)
    | with_reducible refine Eq.trans (each_forget P _ _ (fun s x => ?_) _) ?_
    | (simp only [modPair_forget, refloatAll_forget, takeRole_forget, unarm_forget, Nat.reduceLT, ite_forget,
        ite_self, hev, hev.rcd, hev.fresh, hev.evt, h_ops, h_tim, h_hb, h_bank, h_ax, h_pair, r_GATE_BSTUVCNT,
        r_GATE_FLT, Fin.is_lt])

theorem pairOwnInChange_forget (P : Parts) (t : Nat) (level equal : Bool) (s : State) (hev : MayRaise P) (h_tim :
    P.tim = true) (h_hb : P.hb = true) (h_bank : P.bank = true) (h_pair : P.pair = true) (r_GATE_BSTUVCNT : P.Has
    .GATE_BSTUVCNT) (r_GATE_FLT : P.Has .GATE_FLT) :
    forget P (pairOwnInChange t level equal s) = forget P s := by
  unfold pairOwnInChange
  try dsimp only
  repeat' first
    | with_reducible rfl
    | split
    | (simp only [gateCheck_forget, modPair_forget, releaseOwner_forget, Nat.reduceLT, ite_forget, ite_self, hev,
        hev.rcd, hev.fresh, hev.evt, h_tim, h_hb, h_bank, h_pair, r_GATE_BSTUVCNT, r_GATE_FLT, Fin.is_lt]; done)
    | with_reducible refine Eq.trans (each_forget P _ _ (fun s x => ?_) _) ?_
    | (simp only [gateCheck_forget, modPair_forget, releaseOwner_forget, Nat.reduceLT, ite_forget, ite_self, hev,
        hev.rcd, hev.fresh, hev.evt, h_tim, h_hb, h_bank, h_pair, r_GATE_BSTUVCNT, r_GATE_FLT, Fin.is_lt])

theorem watchOwnIn_forget (P : Parts) (s : State) (t : Nat) (hev : MayRaise P) (h_pair : P.pair = true) :
    forget P (State.watchOwnIn s t) = forget P s := by
  unfold State.watchOwnIn
  try dsimp only
  (repeat' split) <;> first | with_reducible rfl | simp only [ownFault_forget, Nat.reduceLT, ite_forget, ite_self,
      hev, hev.rcd, hev.fresh, hev.evt, h_pair, Fin.is_lt]

theorem restartTimers_forget (P : Parts) (s : State) (t : Nat) (h_tim : P.tim = true) :
    forget P (State.restartTimers s t) = forget P s := by
  unfold State.restartTimers
  try dsimp only
  repeat' first
    | with_reducible rfl
    | split
    | (simp only [modTim_forget, Nat.reduceLT, ite_forget, ite_self, h_tim, Fin.is_lt]; done)
    | with_reducible refine Eq.trans (each_forget P _ _ (fun s x => ?_) _) ?_
    | (simp only [modTim_forget, Nat.reduceLT, ite_forget, ite_self, h_tim, Fin.is_lt])

theorem takeDone_forget (P : Parts) (s : State) (t : Nat) (h_tim : P.tim = true) (h_pair : P.pair = true)
    (r_PAIR_LASTGAP : P.Has .PAIR_LASTGAP) :
    forget P (State.takeDone s t) = forget P s := by
  unfold State.takeDone
  try dsimp only
  (repeat' split) <;> first | with_reducible rfl | simp only [modPair_forget, restartTimers_forget, wr_forget,
      cov_PAIR_LASTGAP, Nat.reduceLT, ite_forget, ite_self, h_tim, h_pair, r_PAIR_LASTGAP, Fin.is_lt]

theorem gateCheckPass_forget (P : Parts) (t : Nat) (b : Fin 8) (s : State) (hev : MayRaise P) (h_tim : P.tim = true)
    (h_hb : P.hb = true) (h_bank : P.bank = true) (h_pair : P.pair = true) (r_GATE_BSTUVCNT : P.Has .GATE_BSTUVCNT)
    (r_GATE_FLT : P.Has .GATE_FLT) (r_PAIR_LASTGAP : P.Has .PAIR_LASTGAP) :
    forget P (gateCheckPass t b s) = forget P s := by
  unfold gateCheckPass
  try dsimp only
  (repeat' split) <;> first | with_reducible rfl | simp only [leaveFloat_forget, modPair_forget, takeDone_forget,
      Nat.reduceLT, ite_forget, ite_self, hev, hev.rcd, hev.fresh, hev.evt, h_tim, h_hb, h_bank, h_pair,
      r_GATE_BSTUVCNT, r_GATE_FLT, r_PAIR_LASTGAP, Fin.is_lt]

theorem sendMirror_forget (P : Parts) (s : State) (h_sched : P.sched = true) (h_pair : P.pair = true) (r_PAIR_MIRLAG :
    P.Has .PAIR_MIRLAG) :
    forget P (State.sendMirror s) = forget P s := by
  unfold State.sendMirror
  try dsimp only
  (repeat' split) <;> first | with_reducible rfl | simp only [modPair_forget, modSched_forget, satAdd_forget,
      cov_PAIR_MIRLAG, Nat.reduceLT, ite_forget, ite_self, h_sched, h_pair, r_PAIR_MIRLAG, Fin.is_lt]

theorem sendFrame_forget (P : Parts) (s : State) (h_sched : P.sched = true) (h_pair : P.pair = true) (r_PAIR_MIRLAG :
    P.Has .PAIR_MIRLAG) :
    forget P (State.sendFrame s) = forget P s := by
  unfold State.sendFrame
  try dsimp only
  (repeat' split) <;> first | with_reducible rfl | simp only [modPair_forget, sendMirror_forget, Nat.reduceLT,
      ite_forget, ite_self, h_sched, h_pair, r_PAIR_MIRLAG, Fin.is_lt]

theorem linkSlot_forget (P : Parts) (s : State) (h_sched : P.sched = true) (h_pair : P.pair = true) (r_PAIR_MIRLAG :
    P.Has .PAIR_MIRLAG) :
    forget P (linkSlot s) = forget P s := by
  unfold linkSlot
  try dsimp only
  (repeat' split) <;> first | with_reducible rfl | simp only [modPair_forget, sendFrame_forget, Nat.reduceLT,
      ite_forget, ite_self, h_sched, h_pair, r_PAIR_MIRLAG, Fin.is_lt]

theorem keepAlive_forget (P : Parts) (s : State) (t : Nat) (hev : MayRaise P) (h_tim : P.tim = true) (h_hb : P.hb =
    true) (h_bank : P.bank = true) (h_pair : P.pair = true) (r_GATE_BSTUVCNT : P.Has .GATE_BSTUVCNT) (r_GATE_FLT :
    P.Has .GATE_FLT) :
    forget P (State.keepAlive s t) = forget P s := by
  unfold State.keepAlive
  try dsimp only
  (repeat' split) <;> first | with_reducible rfl | simp only [releaseOwner_forget, Nat.reduceLT, ite_forget, ite_self,
      hev, hev.rcd, hev.fresh, hev.evt, h_tim, h_hb, h_bank, h_pair, r_GATE_BSTUVCNT, r_GATE_FLT, Fin.is_lt]

theorem linkUp_forget (P : Parts) (s : State) (hev : MayRaise P) (h_pair : P.pair = true) :
    forget P (State.linkUp s) = forget P s := by
  unfold State.linkUp
  try dsimp only
  (repeat' split) <;> first | with_reducible rfl | simp only [evLINK_UP_lt, modPair_forget, raise_forget,
      Nat.reduceLT, ite_forget, ite_self, hev, hev.rcd, hev.fresh, hev.evt, h_pair, Fin.is_lt]

theorem helloReceived_forget (P : Parts) (pairId : Bool) (imgId imgCrc bankImg : Nat) (tags : List Word) (owner :
    Bool) (s : State) (hev : MayRaise P) (h_pair : P.pair = true) :
    forget P (helloReceived pairId imgId imgCrc bankImg tags owner s) = forget P s := by
  unfold helloReceived
  try dsimp only
  (repeat' split) <;> first | with_reducible rfl | simp only [idClash_forget, linkUp_forget, modPair_forget,
      ownFault_forget, Nat.reduceLT, ite_forget, ite_self, hev, hev.rcd, hev.fresh, hev.evt, h_pair, Fin.is_lt]

theorem loadFusion_forget (P : Parts) (s : State) (f : Mirror) (h_fus : P.fus = true) (r_FUS_EST : P.Has .FUS_EST) :
    forget P (State.loadFusion s f) = forget P s := by
  have hw : ∀ (s : State) (l : List Word), l.length ≤ 7 → forget P (s.wrs (A.FUS_EST 0) l) = forget P s := by
    intro s l hl; apply wrs_forget; intro i hi
    rw [show A.FUS_EST 0 + i = A.FUS_EST (0 + i) from by unfold A.FUS_EST; omega]; exact cov_FUS_EST r_FUS_EST _ (by
        omega)
  have hq : ∀ (s : State) (v : Nat), forget P (s.wrQ (A.FUS_EST 7) 3 v) = forget P s := by
    intro s v; apply wrQ_forget; intro i hi
    rw [show A.FUS_EST 7 + i = A.FUS_EST (7 + i) from by unfold A.FUS_EST; omega]; exact cov_FUS_EST r_FUS_EST _ (by
        omega)
  unfold State.loadFusion
  try dsimp only
  (repeat' split) <;> first | with_reducible rfl | simp only [modFus_forget, Nat.min_le_left, List.length_take, hw,
      hq, Nat.reduceLT, ite_forget, ite_self, h_fus, r_FUS_EST, Fin.is_lt]

theorem loadWheels_forget (P : Parts) (s : State) (f : Mirror) (h_fus : P.fus = true) :
    forget P (State.loadWheels s f) = forget P s := by
  unfold State.loadWheels
  try dsimp only
  repeat' first
    | with_reducible rfl
    | split
    | (simp only [modFus_forget, Nat.reduceLT, ite_forget, ite_self, h_fus, Fin.is_lt]; done)
    | with_reducible refine Eq.trans (each_forget P _ _ (fun s x => ?_) _) ?_
    | (simp only [modFus_forget, Nat.reduceLT, ite_forget, ite_self, h_fus, Fin.is_lt])

theorem loadBank_forget (P : Parts) (s : State) (t : Nat) (b : Fin 8) (m : MirrorBank) (hev : MayRaise P) (h_tim :
    P.tim = true) (h_hb : P.hb = true) (h_bank : P.bank = true) (h_ax : P.ax = true) (r_GATE_BSTUVCNT : P.Has
    .GATE_BSTUVCNT) (r_GATE_FLT : P.Has .GATE_FLT) (r_GSUP_FLT : P.Has .GSUP_FLT) (r_PROT_BFLT : P.Has .PROT_BFLT)
    (r_PROT_CHFLT : P.Has .PROT_CHFLT) (r_PWM_RUN_HI : P.Has .PWM_RUN_HI) (r_PWM_RUN_LO : P.Has .PWM_RUN_LO) :
    forget P (State.loadBank s t b m) = forget P s := by
  unfold State.loadBank
  try dsimp only
  repeat' first
    | with_reducible rfl
    | split
    | (simp only [modBank_forget, redriveBank_forget, releaseFaults_forget, setRun_forget, wr_forget, cov_GATE_FLT,
        cov_GSUP_FLT, cov_PROT_BFLT, cov_PROT_CHFLT, Nat.reduceLT, ite_forget, ite_self, hev, hev.rcd, hev.fresh,
        hev.evt, h_tim, h_hb, h_bank, h_ax, r_GATE_BSTUVCNT, r_GATE_FLT, r_GSUP_FLT, r_PROT_BFLT, r_PROT_CHFLT,
        r_PWM_RUN_HI, r_PWM_RUN_LO, Fin.is_lt]; done)
    | with_reducible refine Eq.trans (each_forget P _ _ (fun s x => ?_) _) ?_
    | (simp only [modBank_forget, redriveBank_forget, releaseFaults_forget, setRun_forget, wr_forget, cov_GATE_FLT,
        cov_GSUP_FLT, cov_PROT_BFLT, cov_PROT_CHFLT, Nat.reduceLT, ite_forget, ite_self, hev, hev.rcd, hev.fresh,
        hev.evt, h_tim, h_hb, h_bank, h_ax, r_GATE_BSTUVCNT, r_GATE_FLT, r_GSUP_FLT, r_PROT_BFLT, r_PROT_CHFLT,
        r_PWM_RUN_HI, r_PWM_RUN_LO, Fin.is_lt])

theorem loadTimer_forget (P : Parts) (s : State) (t : Nat) (x : Fin 24) (m : MirrorTimer) (h_tim : P.tim = true)
    (r_PWM_CHEN : P.Has .PWM_CHEN) (r_PWM_CMP : P.Has .PWM_CMP) (r_PWM_CTL : P.Has .PWM_CTL) (r_PWM_FORCE : P.Has
    .PWM_FORCE) (r_PWM_HR : P.Has .PWM_HR) :
    forget P (State.loadTimer s t x m) = forget P s := by
  have hc : ∀ (s : State) (l : List Word), l.length ≤ 3 → forget P (s.wrs (timAddr x 2) l) = forget P s := by
    intro s l hl; apply wrs_forget; intro i hi
    rw [show timAddr x 2 + i = timAddr x (2 + i) from by unfold timAddr; omega]; exact cov_tim_cmp r_PWM_CMP _ _ (by
        omega)
  have hh : ∀ (s : State) (l : List Word), l.length ≤ 3 → forget P (s.wrs (timAddr x 5) l) = forget P s := by
    intro s l hl; apply wrs_forget; intro i hi
    rw [show timAddr x 5 + i = timAddr x (5 + i) from by unfold timAddr; omega]; exact cov_tim_hr r_PWM_HR _ _ (by omega)
  unfold State.loadTimer
  try dsimp only
  (repeat' split) <;> first | with_reducible rfl | simp only [modTim_forget, cov_tim_ctl, cov_tim_chen, cov_tim_force,
      wr_forget, Nat.min_le_left, List.length_take, hc, hh, Nat.reduceLT, ite_forget, ite_self, h_tim, r_PWM_CHEN,
      r_PWM_CMP, r_PWM_CTL, r_PWM_FORCE, r_PWM_HR, Fin.is_lt]

theorem loadAxis_forget (P : Parts) (s : State) (a : Fin 24) (m : MirrorAxis) (h_ax : P.ax = true) (r_AX_ANGLE : P.Has
    .AX_ANGLE) (r_AX_CONF : P.Has .AX_CONF) (r_AX_CUR_SET : P.Has .AX_CUR_SET) (r_AX_GS_CTL : P.Has .AX_GS_CTL)
    (r_AX_GS_RATE : P.Has .AX_GS_RATE) (r_AX_SPD_SET : P.Has .AX_SPD_SET) :
    forget P (State.loadAxis s a m) = forget P s := by
  have hw : ∀ (s : State) (l : List Word), l.length ≤ 3 → forget P (s.wrs (A.AX_CUR_SET (axBank a).val (axSlot a).val 0)
      l) = forget P s := by
    intro s l hl; apply wrs_forget; intro i hi
    rw [show A.AX_CUR_SET (axBank a).val (axSlot a).val 0 + i = A.AX_CUR_SET (axBank a).val (axSlot a).val i from by
        unfold A.AX_CUR_SET; omega]
    exact cov_AX_CUR_SET r_AX_CUR_SET _ _ _ (axBank a).isLt (axSlot a).isLt (by omega)
  unfold State.loadAxis
  try dsimp only
  (repeat' split) <;> first | with_reducible rfl | simp only [modAx_forget, wr_forget, cov_AX_ANGLE, cov_AX_CONF,
      cov_AX_GS_CTL, cov_AX_GS_RATE, cov_AX_SPD_SET, axAddr, Nat.min_le_left, List.length_take, hw, Nat.reduceLT,
      ite_forget, ite_self, h_ax, r_AX_ANGLE, r_AX_CONF, r_AX_CUR_SET, r_AX_GS_CTL, r_AX_GS_RATE, r_AX_SPD_SET,
      Fin.is_lt]

theorem loadRec_forget (P : Parts) (s : State) (r : MirrorRec) (h_sched : P.sched = true) :
    forget P (State.loadRec s r) = forget P s := by
  unfold State.loadRec
  try dsimp only
  (repeat' split) <;> first | with_reducible rfl | simp only [modSched_forget, Nat.reduceLT, ite_forget, ite_self,
      h_sched, Fin.is_lt]

theorem applyMirror_forget (P : Parts) (s : State) (t start : Nat) (f : Mirror) (hev : MayRaise P) (h_tim : P.tim =
    true) (h_hb : P.hb = true) (h_bank : P.bank = true) (h_ax : P.ax = true) (h_fus : P.fus = true) (h_sched : P.sched
    = true) (h_pair : P.pair = true) (r_AX_ANGLE : P.Has .AX_ANGLE) (r_AX_CONF : P.Has .AX_CONF) (r_AX_CUR_SET : P.Has
    .AX_CUR_SET) (r_AX_GS_CTL : P.Has .AX_GS_CTL) (r_AX_GS_RATE : P.Has .AX_GS_RATE) (r_AX_SPD_SET : P.Has
    .AX_SPD_SET) (r_FUS_EST : P.Has .FUS_EST) (r_GATE_BSTUVCNT : P.Has .GATE_BSTUVCNT) (r_GATE_FLT : P.Has .GATE_FLT)
    (r_GSUP_FLT : P.Has .GSUP_FLT) (r_PAIR_CFGMIS : P.Has .PAIR_CFGMIS) (r_PAIR_PRECHEAD : P.Has .PAIR_PRECHEAD)
    (r_PAIR_PSTSEQ : P.Has .PAIR_PSTSEQ) (r_PROT_BFLT : P.Has .PROT_BFLT) (r_PROT_CHFLT : P.Has .PROT_CHFLT)
    (r_PWM_CHEN : P.Has .PWM_CHEN) (r_PWM_CMP : P.Has .PWM_CMP) (r_PWM_CTL : P.Has .PWM_CTL) (r_PWM_FORCE : P.Has
    .PWM_FORCE) (r_PWM_HR : P.Has .PWM_HR) (r_PWM_RUN_HI : P.Has .PWM_RUN_HI) (r_PWM_RUN_LO : P.Has .PWM_RUN_LO)
    (r_SCH_STATE_HI : P.Has .SCH_STATE_HI) (r_SCH_STATE_LO : P.Has .SCH_STATE_LO) :
    forget P (State.applyMirror s t start f) = forget P s := by
  have hq1 : ∀ (s : State) (v : Nat), forget P (s.wrQ (A.PAIR_PSTSEQ 0) 2 v) = forget P s := by
    intro s v; apply wrQ_forget; intro i hi
    rw [show A.PAIR_PSTSEQ 0 + i = A.PAIR_PSTSEQ (0 + i) from by unfold A.PAIR_PSTSEQ; omega]; exact cov_PAIR_PSTSEQ
        r_PAIR_PSTSEQ _ (by omega)
  have hq2 : ∀ (s : State) (v : Nat), forget P (s.wrQ A.SCH_STATE_LO 2 v) = forget P s := by
    intro s v; apply wrQ_forget; intro i hi
    obtain rfl | rfl : i = 0 ∨ i = 1 := by omega
    · exact cov_SCH_STATE_LO r_SCH_STATE_LO
    · exact cov_SCH_STATE_HI r_SCH_STATE_HI
  unfold State.applyMirror
  try dsimp only
  repeat' first
    | with_reducible rfl
    | split
    | (simp only [loadAxis_forget, loadBank_forget, loadFusion_forget, loadRec_forget, loadTimer_forget,
        loadWheels_forget, modPair_forget, wr_forget, cov_PAIR_CFGMIS, cov_PAIR_PRECHEAD, hq1, hq2, Nat.reduceLT,
        ite_forget, ite_self, hev, hev.rcd, hev.fresh, hev.evt, h_tim, h_hb, h_bank, h_ax, h_fus, h_sched, h_pair,
        r_AX_ANGLE, r_AX_CONF, r_AX_CUR_SET, r_AX_GS_CTL, r_AX_GS_RATE, r_AX_SPD_SET, r_FUS_EST, r_GATE_BSTUVCNT,
        r_GATE_FLT, r_GSUP_FLT, r_PAIR_CFGMIS, r_PAIR_PRECHEAD, r_PAIR_PSTSEQ, r_PROT_BFLT, r_PROT_CHFLT, r_PWM_CHEN,
        r_PWM_CMP, r_PWM_CTL, r_PWM_FORCE, r_PWM_HR, r_PWM_RUN_HI, r_PWM_RUN_LO, r_SCH_STATE_HI, r_SCH_STATE_LO,
        Fin.is_lt]; done)
    | with_reducible refine Eq.trans (each_forget P _ _ (fun s x => ?_) _) ?_
    | (simp only [loadAxis_forget, loadBank_forget, loadFusion_forget, loadRec_forget, loadTimer_forget,
        loadWheels_forget, modPair_forget, wr_forget, cov_PAIR_CFGMIS, cov_PAIR_PRECHEAD, hq1, hq2, Nat.reduceLT,
        ite_forget, ite_self, hev, hev.rcd, hev.fresh, hev.evt, h_tim, h_hb, h_bank, h_ax, h_fus, h_sched, h_pair,
        r_AX_ANGLE, r_AX_CONF, r_AX_CUR_SET, r_AX_GS_CTL, r_AX_GS_RATE, r_AX_SPD_SET, r_FUS_EST, r_GATE_BSTUVCNT,
        r_GATE_FLT, r_GSUP_FLT, r_PAIR_CFGMIS, r_PAIR_PRECHEAD, r_PAIR_PSTSEQ, r_PROT_BFLT, r_PROT_CHFLT, r_PWM_CHEN,
        r_PWM_CMP, r_PWM_CTL, r_PWM_FORCE, r_PWM_HR, r_PWM_RUN_HI, r_PWM_RUN_LO, r_SCH_STATE_HI, r_SCH_STATE_LO,
        Fin.is_lt])

theorem takeOwner_forget (P : Parts) (s : State) (t cause : Nat) (hev : MayRaise P) (h_tim : P.tim = true) (h_hb :
    P.hb = true) (h_bank : P.bank = true) (h_pair : P.pair = true) (r_GATE_BSTUVCNT : P.Has .GATE_BSTUVCNT)
    (r_GATE_FLT : P.Has .GATE_FLT) (r_PAIR_TAKECNT : P.Has .PAIR_TAKECNT) :
    forget P (State.takeOwner s t cause) = forget P s := by
  unfold State.takeOwner
  try dsimp only
  (repeat' split) <;> first | with_reducible rfl | simp only [modPair_forget, refloatAll_forget, satInc_forget,
      takeRole_forget, cov_PAIR_TAKECNT, Nat.reduceLT, ite_forget, ite_self, hev, hev.rcd, hev.fresh, hev.evt, h_tim,
      h_hb, h_bank, h_pair, r_GATE_BSTUVCNT, r_GATE_FLT, r_PAIR_TAKECNT, Fin.is_lt]

theorem takeSilent_forget (P : Parts) (s : State) (t : Nat) (hev : MayRaise P) (h_tim : P.tim = true) (h_hb : P.hb =
    true) (h_bank : P.bank = true) (h_pair : P.pair = true) (r_GATE_BSTUVCNT : P.Has .GATE_BSTUVCNT) (r_GATE_FLT :
    P.Has .GATE_FLT) (r_PAIR_TAKECNT : P.Has .PAIR_TAKECNT) :
    forget P (State.takeSilent s t) = forget P s := by
  unfold State.takeSilent
  try dsimp only
  (repeat' split) <;> first | with_reducible rfl | simp only [modPair_forget, takeOwner_forget, Nat.reduceLT,
      ite_forget, ite_self, hev, hev.rcd, hev.fresh, hev.evt, h_tim, h_hb, h_bank, h_pair, r_GATE_BSTUVCNT,
      r_GATE_FLT, r_PAIR_TAKECNT, Fin.is_lt]

theorem frameMissed_forget (P : Parts) (t : Nat) (s : State) (hev : MayRaise P) (h_tim : P.tim = true) (h_hb : P.hb =
    true) (h_bank : P.bank = true) (h_pair : P.pair = true) (r_GATE_BSTUVCNT : P.Has .GATE_BSTUVCNT) (r_GATE_FLT :
    P.Has .GATE_FLT) (r_PAIR_MISSCNT : P.Has .PAIR_MISSCNT) (r_PAIR_TAKECNT : P.Has .PAIR_TAKECNT) :
    forget P (frameMissed t s) = forget P s := by
  unfold frameMissed
  try dsimp only
  (repeat' split) <;> first | with_reducible rfl | simp only [linkDown_forget, modPair_forget, satInc_forget,
      takeSilent_forget, cov_PAIR_MISSCNT, Nat.reduceLT, ite_forget, ite_self, hev, hev.rcd, hev.fresh, hev.evt,
      h_tim, h_hb, h_bank, h_pair, r_GATE_BSTUVCNT, r_GATE_FLT, r_PAIR_MISSCNT, r_PAIR_TAKECNT, Fin.is_lt]

theorem releaseSequence_forget (P : Parts) (t cause : Nat) (s : State) (hev : MayRaise P) (h_tim : P.tim = true) (h_hb
    : P.hb = true) (h_bank : P.bank = true) (h_pair : P.pair = true) (r_GATE_BSTUVCNT : P.Has .GATE_BSTUVCNT)
    (r_GATE_FLT : P.Has .GATE_FLT) :
    forget P (releaseSequence t cause s) = forget P s := by
  unfold releaseSequence
  try dsimp only
  (repeat' split) <;> first | with_reducible rfl | simp only [modPair_forget, refloatAll_forget, Nat.reduceLT,
      ite_forget, ite_self, hev, hev.rcd, hev.fresh, hev.evt, h_tim, h_hb, h_bank, h_pair, r_GATE_BSTUVCNT,
      r_GATE_FLT, Fin.is_lt]

theorem commitAxis_forget (P : Parts) (s : State) (a : Fin 24) (hev : MayRaise P) (h_ax : P.ax = true) (r_AX_STARTS :
    P.Has .AX_STARTS) :
    forget P (State.commitAxis s a) = forget P s := by
  unfold State.commitAxis
  try dsimp only
  (repeat' split) <;> first | with_reducible rfl | simp only [modAx_forget, startUp_forget, toStopped_forget,
      Nat.reduceLT, ite_forget, ite_self, hev, hev.rcd, hev.fresh, hev.evt, h_ax, r_AX_STARTS, Fin.is_lt]

theorem commitReactions_forget (P : Parts) (s : State) (t : Nat) (b : Fin 8) (hev : MayRaise P) (h_tim : P.tim = true)
    (h_hb : P.hb = true) (h_bank : P.bank = true) (h_ax : P.ax = true) (r_GATE_BSTUVCNT : P.Has .GATE_BSTUVCNT)
    (r_GATE_FLT : P.Has .GATE_FLT) (r_PROT_AXSTAT : P.Has .PROT_AXSTAT) :
    forget P (State.commitReactions s t b) = forget P s := by
  unfold State.commitReactions
  try dsimp only
  repeat' first
    | with_reducible rfl
    | split
    | (simp only [bankCause_forget, modHb_forget, takeReaction_forget, Nat.reduceLT, ite_forget, ite_self, hev,
        hev.rcd, hev.fresh, hev.evt, h_tim, h_hb, h_bank, h_ax, r_GATE_BSTUVCNT, r_GATE_FLT, r_PROT_AXSTAT,
        Fin.is_lt]; done)
    | with_reducible refine Eq.trans (reRow2_forget P _ _ _ _ hev h_tim h_hb h_bank r_GATE_BSTUVCNT r_GATE_FLT
        (fun s => ?_)) ?_
    | with_reducible refine Eq.trans (each_forget P _ _ (fun s x => ?_) _) ?_
    | (simp only [bankCause_forget, modHb_forget, takeReaction_forget, Nat.reduceLT, ite_forget, ite_self, hev,
        hev.rcd, hev.fresh, hev.evt, h_tim, h_hb, h_bank, h_ax, r_GATE_BSTUVCNT, r_GATE_FLT, r_PROT_AXSTAT,
        Fin.is_lt])

theorem takeoverCommit_forget (P : Parts) (t : Nat) (s : State) (hev : MayRaise P) (h_tim : P.tim = true) (h_hb : P.hb
    = true) (h_bank : P.bank = true) (h_ax : P.ax = true) (h_fus : P.fus = true) (h_sched : P.sched = true) (h_pair :
    P.pair = true) (r_AX_STARTS : P.Has .AX_STARTS) (r_FUS_IMU_LOST : P.Has .FUS_IMU_LOST) (r_GATE_BSTUVCNT : P.Has
    .GATE_BSTUVCNT) (r_GATE_FLT : P.Has .GATE_FLT) (r_PROT_AXSTAT : P.Has .PROT_AXSTAT) :
    forget P (takeoverCommit t s) = forget P s := by
  unfold takeoverCommit
  try dsimp only
  repeat' first
    | with_reducible rfl
    | split
    | (simp only [commitAxis_forget, commitReactions_forget, imuTrigger_forget, modPair_forget, modSched_forget,
        refloatAll_forget, Nat.reduceLT, ite_forget, ite_self, hev, hev.rcd, hev.fresh, hev.evt, h_tim, h_hb, h_bank,
        h_ax, h_fus, h_sched, h_pair, r_AX_STARTS, r_FUS_IMU_LOST, r_GATE_BSTUVCNT, r_GATE_FLT, r_PROT_AXSTAT,
        Fin.is_lt]; done)
    | with_reducible refine Eq.trans (each_forget P _ _ (fun s x => ?_) _) ?_
    | (simp only [commitAxis_forget, commitReactions_forget, imuTrigger_forget, modPair_forget, modSched_forget,
        refloatAll_forget, Nat.reduceLT, ite_forget, ite_self, hev, hev.rcd, hev.fresh, hev.evt, h_tim, h_hb, h_bank,
        h_ax, h_fus, h_sched, h_pair, r_AX_STARTS, r_FUS_IMU_LOST, r_GATE_BSTUVCNT, r_GATE_FLT, r_PROT_AXSTAT,
        Fin.is_lt])

theorem handover_forget (P : Parts) (s : State) (h_pair : P.pair = true) (r_PAIR_CMDRES : P.Has .PAIR_CMDRES) :
    forget P (handover s) = forget P s := by
  unfold handover
  try dsimp only
  (repeat' split) <;> first | with_reducible rfl | simp only [modPair_forget, wr_forget, cov_PAIR_CMDRES,
      Nat.reduceLT, ite_forget, ite_self, h_pair, r_PAIR_CMDRES, Fin.is_lt]

theorem clearLock_forget (P : Parts) (s : State) (hev : MayRaise P) (h_tim : P.tim = true) (h_hb : P.hb = true)
    (h_bank : P.bank = true) (h_pair : P.pair = true) (r_GATE_BSTUVCNT : P.Has .GATE_BSTUVCNT) (r_GATE_FLT : P.Has
    .GATE_FLT) (r_PAIR_CMDRES : P.Has .PAIR_CMDRES) :
    forget P (clearLock s) = forget P s := by
  unfold clearLock
  try dsimp only
  (repeat' split) <;> first | with_reducible rfl | simp only [modPair_forget, refloatAll_forget, wr_forget,
      cov_PAIR_CMDRES, Nat.reduceLT, ite_forget, ite_self, hev, hev.rcd, hev.fresh, hev.evt, h_tim, h_hb, h_bank,
      h_pair, r_GATE_BSTUVCNT, r_GATE_FLT, r_PAIR_CMDRES, Fin.is_lt]

end Sys2Proof.Laws
end

