-- ==== Sys2Proof/Laws/FrameCan.lean ====
section
/-! SUPPORT. Sys2Proof/Laws/FrameCan.lean: which parts of the state each operation of Machine/Can.lean may change. -/
namespace Sys2Proof.Laws
set_option Elab.async false
set_option linter.unusedSimpArgs false
open Sys2Proof.Machine Sys2Proof.Safety

theorem dlcBytes_le (fdf : Bool) (n : Nat) : dlcBytes fdf n ≤ 64 := by
  unfold dlcBytes
  split
  · omega
  · split
    · omega
    · generalize n - 9 = k
      match k with
      | 0 | 1 | 2 | 3 | 4 | 5 | 6 => decide
      | k + 7 => simp

theorem setByte_forget (P : Parts) (s : State) (c : Fin 2) (m : Fin 32) (k : Nat) (v : Byte) (hk : k < 64)
    (r_BUF_DATA : P.Has .BUF_DATA) : forget P (s.setByte c m k v) = forget P s := by
  unfold State.setByte
  exact wr_forget P s _ _ (cov_BUF_DATA r_BUF_DATA _ _ _ c.isLt m.isLt (by omega))

theorem storeFrame_forget (P : Parts) (s : State) (c : Fin 2) (m : Fin 32) (fdf brs : Bool) (id dlc : Nat) (data :
    List Byte) (sof : Nat) (ovr : Bool) (r_BUF_CFG : P.Has .BUF_CFG) (r_BUF_DATA : P.Has .BUF_DATA) (r_BUF_ID_HI :
    P.Has .BUF_ID_HI) (r_BUF_ID_LO : P.Has .BUF_ID_LO) (r_BUF_STAMP0 : P.Has .BUF_STAMP0) (r_BUF_STAMP1 : P.Has
    .BUF_STAMP1) (r_BUF_STAMP2 : P.Has .BUF_STAMP2) (r_BUF_STAT : P.Has .BUF_STAT) :
    forget P (State.storeFrame s c m fdf brs id dlc data sof ovr) = forget P s := by
  have h1 : ∀ (s : State) (v : Nat), forget P (s.wrQ (A.BUF_ID_LO c.val m.val) 2 v) = forget P s := by
    intro s v; apply wrQ_forget; intro i hi
    obtain rfl | rfl : i = 0 ∨ i = 1 := by omega
    · exact cov_BUF_ID_LO r_BUF_ID_LO _ _ c.isLt m.isLt
    · rw [show A.BUF_ID_LO c.val m.val + 1 = A.BUF_ID_HI c.val m.val from by unfold A.BUF_ID_LO A.BUF_ID_HI; omega]
      exact cov_BUF_ID_HI r_BUF_ID_HI _ _ c.isLt m.isLt
  have h2 : ∀ (s : State) (v : Nat), forget P (s.wrQ (A.BUF_STAMP0 c.val m.val) 3 v) = forget P s := by
    intro s v; apply wrQ_forget; intro i hi
    obtain rfl | rfl | rfl : i = 0 ∨ i = 1 ∨ i = 2 := by omega
    · exact cov_BUF_STAMP0 r_BUF_STAMP0 _ _ c.isLt m.isLt
    · rw [show A.BUF_STAMP0 c.val m.val + 1 = A.BUF_STAMP1 c.val m.val from by unfold A.BUF_STAMP0 A.BUF_STAMP1; omega]
      exact cov_BUF_STAMP1 r_BUF_STAMP1 _ _ c.isLt m.isLt
    · rw [show A.BUF_STAMP0 c.val m.val + 2 = A.BUF_STAMP2 c.val m.val from by unfold A.BUF_STAMP0 A.BUF_STAMP2; omega]
      exact cov_BUF_STAMP2 r_BUF_STAMP2 _ _ c.isLt m.isLt
  unfold State.storeFrame
  dsimp only
  refine (each_forget_mem P _ _ (fun s p hp => setByte_forget P s c m _ _ ?_ r_BUF_DATA) _).trans ?_
  · have := List.snd_lt_of_mem_zipIdx hp
    have := dlcBytes_le fdf dlc
    simp only [List.length_take] at *
    omega
  · simp only [h1, h2, wr_forget, cov_BUF_CFG, cov_BUF_STAT, r_BUF_CFG, r_BUF_STAT, Fin.is_lt]

theorem canReceive_forget (P : Parts) (c : Fin 2) (ide fdf brs : Bool) (id dlc : Nat) (data : List Byte) (sof : Nat)
    (s : State) (hev : MayRaise P) (r_BUF_CFG : P.Has .BUF_CFG) (r_BUF_DATA : P.Has .BUF_DATA) (r_BUF_ID_HI : P.Has
    .BUF_ID_HI) (r_BUF_ID_LO : P.Has .BUF_ID_LO) (r_BUF_STAMP0 : P.Has .BUF_STAMP0) (r_BUF_STAMP1 : P.Has .BUF_STAMP1)
    (r_BUF_STAMP2 : P.Has .BUF_STAMP2) (r_BUF_STAT : P.Has .BUF_STAT) (r_CAN_RXLOST : P.Has .CAN_RXLOST) :
    forget P (canReceive c ide fdf brs id dlc data sof s) = forget P s := by
  unfold canReceive
  try dsimp only
  (repeat' split) <;> first | with_reducible rfl | simp only [evCAN_OVR_lt, evCAN_RX_lt, raise_forget, satInc_forget,
      storeFrame_forget, cov_CAN_RXLOST, Nat.reduceLT, ite_forget, ite_self, hev, hev.rcd, hev.fresh, hev.evt,
      r_BUF_CFG, r_BUF_DATA, r_BUF_ID_HI, r_BUF_ID_LO, r_BUF_STAMP0, r_BUF_STAMP1, r_BUF_STAMP2, r_BUF_STAT,
      r_CAN_RXLOST, Fin.is_lt]

theorem canTxreq_forget (P : Parts) (c : Fin 2) (hi : Bool) (d : Word) (s : State) (h_can : P.can = true) :
    forget P (canTxreq c hi d s) = forget P s := by
  unfold canTxreq
  try dsimp only
  repeat' first
    | with_reducible rfl
    | split
    | (simp only [modCan_forget, Nat.reduceLT, ite_forget, ite_self, h_can, Fin.is_lt]; done)
    | with_reducible refine Eq.trans (each_forget P _ _ (fun s x => ?_) _) ?_
    | (simp only [modCan_forget, Nat.reduceLT, ite_forget, ite_self, h_can, Fin.is_lt])

theorem canTxabort_forget (P : Parts) (c : Fin 2) (hi : Bool) (d : Word) (s : State) (h_can : P.can = true) :
    forget P (canTxabort c hi d s) = forget P s := by
  unfold canTxabort
  try dsimp only
  repeat' first
    | with_reducible rfl
    | split
    | (simp only [modCan_forget, Nat.reduceLT, ite_forget, ite_self, h_can, Fin.is_lt]; done)
    | with_reducible refine Eq.trans (each_forget P _ _ (fun s x => ?_) _) ?_
    | (simp only [modCan_forget, Nat.reduceLT, ite_forget, ite_self, h_can, Fin.is_lt])

theorem settleAborts_forget (P : Parts) (s : State) (c : Fin 2) (h_free : P.free = true) (h_can : P.can = true) :
    forget P (State.settleAborts s c) = forget P s := by
  unfold State.settleAborts
  try dsimp only
  repeat' first
    | with_reducible rfl
    | split
    | (simp only [modCan_forget, took_forget, Nat.reduceLT, ite_forget, ite_self, h_free, h_can, Fin.is_lt]; done)
    | with_reducible refine Eq.trans (each_forget P _ _ (fun s x => ?_) _) ?_
    | (simp only [modCan_forget, took_forget, Nat.reduceLT, ite_forget, ite_self, h_free, h_can, Fin.is_lt])

theorem canTxDone_forget (P : Parts) (c : Fin 2) (m : Fin 32) (sof : Nat) (s : State) (hev : MayRaise P) (h_can :
    P.can = true) (r_BUF_CFG : P.Has .BUF_CFG) (r_BUF_DATA : P.Has .BUF_DATA) (r_BUF_ID_HI : P.Has .BUF_ID_HI)
    (r_BUF_ID_LO : P.Has .BUF_ID_LO) (r_BUF_STAMP0 : P.Has .BUF_STAMP0) (r_BUF_STAMP1 : P.Has .BUF_STAMP1)
    (r_BUF_STAMP2 : P.Has .BUF_STAMP2) (r_BUF_STAT : P.Has .BUF_STAT) (r_CAN_RXLOST : P.Has .CAN_RXLOST) :
    forget P (canTxDone c m sof s) = forget P s := by
  have hq : ∀ (s : State) (v : Nat), forget P (s.wrQ (A.BUF_STAMP0 c.val m.val) 3 v) = forget P s := by
    intro s v; apply wrQ_forget; intro i hi
    obtain rfl | rfl | rfl : i = 0 ∨ i = 1 ∨ i = 2 := by omega
    · exact cov_BUF_STAMP0 r_BUF_STAMP0 _ _ c.isLt m.isLt
    · rw [show A.BUF_STAMP0 c.val m.val + 1 = A.BUF_STAMP1 c.val m.val from by unfold A.BUF_STAMP0 A.BUF_STAMP1; omega]
      exact cov_BUF_STAMP1 r_BUF_STAMP1 _ _ c.isLt m.isLt
    · rw [show A.BUF_STAMP0 c.val m.val + 2 = A.BUF_STAMP2 c.val m.val from by unfold A.BUF_STAMP0 A.BUF_STAMP2; omega]
      exact cov_BUF_STAMP2 r_BUF_STAMP2 _ _ c.isLt m.isLt
  unfold canTxDone
  try dsimp only
  (repeat' split) <;> first | with_reducible rfl | simp only [canReceive_forget, evCAN_TX_lt, modCan_forget,
      raise_forget, hq, Nat.reduceLT, ite_forget, ite_self, hev, hev.rcd, hev.fresh, hev.evt, h_can, r_BUF_CFG,
      r_BUF_DATA, r_BUF_ID_HI, r_BUF_ID_LO, r_BUF_STAMP0, r_BUF_STAMP1, r_BUF_STAMP2, r_BUF_STAT, r_CAN_RXLOST,
      Fin.is_lt]

theorem setLec_forget (P : Parts) (s : State) (c : Fin 2) (lec : Nat) (r_CAN_LEC : P.Has .CAN_LEC) :
    forget P (State.setLec s c lec) = forget P s := by
  unfold State.setLec
  try dsimp only
  (repeat' split) <;> first | with_reducible rfl | simp only [wr_forget, cov_CAN_LEC, Nat.reduceLT, ite_forget,
      ite_self, r_CAN_LEC, Fin.is_lt]

theorem canTxFail_forget (P : Parts) (c : Fin 2) (m : Fin 32) (lost : Bool) (lec : Nat) (s : State) (h_can : P.can =
    true) (r_BUF_STAT : P.Has .BUF_STAT) (r_CAN_LEC : P.Has .CAN_LEC) :
    forget P (canTxFail c m lost lec s) = forget P s := by
  unfold canTxFail
  try dsimp only
  (repeat' split) <;> first | with_reducible rfl | simp only [modCan_forget, setLec_forget, wr_forget, cov_BUF_STAT,
      Nat.reduceLT, ite_forget, ite_self, h_can, r_BUF_STAT, r_CAN_LEC, Fin.is_lt]

theorem raiseCanErr_forget (P : Parts) (s : State) (c : Fin 2) (hev : MayRaise P) :
    forget P (State.raiseCanErr s c) = forget P s := by
  unfold State.raiseCanErr
  try dsimp only
  (repeat' split) <;> first | with_reducible rfl | simp only [evCAN_ERR_lt, raise_forget, Nat.reduceLT, ite_forget,
      ite_self, hev, hev.rcd, hev.fresh, hev.evt, Fin.is_lt]

theorem canState_forget (P : Parts) (c : Fin 2) (st : CanSt) (sync : Bool) (rec tec lec : Nat) (s : State) (hev :
    MayRaise P) (h_can : P.can = true) (r_CAN_LEC : P.Has .CAN_LEC) :
    forget P (canState c st sync rec tec lec s) = forget P s := by
  unfold canState
  try dsimp only
  (repeat' split) <;> first | with_reducible rfl | simp only [modCan_forget, raiseCanErr_forget, setLec_forget,
      Nat.reduceLT, ite_forget, ite_self, hev, hev.rcd, hev.fresh, hev.evt, h_can, r_CAN_LEC, Fin.is_lt]

theorem canSettings_forget (P : Parts) (s : State) (c : Fin 2) (initBefore : Bool) (h_can : P.can = true) :
    forget P (State.canSettings s c initBefore) = forget P s := by
  unfold State.canSettings
  try dsimp only
  (repeat' split) <;> first | with_reducible rfl | simp only [modCan_forget, Nat.reduceLT, ite_forget, ite_self,
      h_can, Fin.is_lt]

end Sys2Proof.Laws
end

