-- ==== Sys2Proof/Laws/FrameReset.lean ====
section
/-! SUPPORT. Sys2Proof/Laws/FrameReset.lean: which parts of the state each operation of Machine/Reset.lean may change. -/
namespace Sys2Proof.Laws
set_option Elab.async false
set_option linter.unusedSimpArgs false
open Sys2Proof.Machine Sys2Proof.Safety

theorem dropCore_forget (P : Parts) (s : State) (t : Nat) (hev : MayRaise P) (h_free : P.free = true) (h_ops : P.ops =
    true) (h_can : P.can = true) (h_tim : P.tim = true) (h_hb : P.hb = true) (h_bank : P.bank = true) (h_ax : P.ax =
    true) (h_fus : P.fus = true) (h_sched : P.sched = true) (h_sol : P.sol = true) (h_img : P.img = true) (h_pwr :
    P.pwr = true) (h_pair : P.pair = true) (r_GATE_BSTUVCNT : P.Has .GATE_BSTUVCNT) (r_GATE_FLT : P.Has .GATE_FLT)
    (r_PWR_DOM_REQ : P.Has .PWR_DOM_REQ) :
    forget P (State.dropCore s t) = forget P s := by
  unfold State.dropCore
  try dsimp only
  repeat' first
    | with_reducible rfl
    | split
    | (simp only [allOff_forget, modImg_forget, modOps_forget, refloatAll_forget, unarm_forget, wr_forget,
        cov_PWR_DOM_REQ, implies_true, Nat.reduceLT, ite_forget, ite_self, hev, hev.rcd, hev.fresh, hev.evt, h_free,
        h_ops, h_can, h_tim, h_hb, h_bank, h_ax, h_fus, h_sched, h_sol, h_img, h_pwr, h_pair, r_GATE_BSTUVCNT,
        r_GATE_FLT, r_PWR_DOM_REQ, Fin.is_lt]; done)
    | with_reducible refine Eq.trans (each_forget P _ _ (fun s x => ?_) _) ?_
    | (simp only [allOff_forget, modImg_forget, modOps_forget, refloatAll_forget, unarm_forget, wr_forget,
        cov_PWR_DOM_REQ, implies_true, Nat.reduceLT, ite_forget, ite_self, hev, hev.rcd, hev.fresh, hev.evt, h_free,
        h_ops, h_can, h_tim, h_hb, h_bank, h_ax, h_fus, h_sched, h_sol, h_img, h_pwr, h_pair, r_GATE_BSTUVCNT,
        r_GATE_FLT, r_PWR_DOM_REQ, Fin.is_lt])

theorem resetNow_forget (P : Parts) (s : State) (t : Nat) (hev : MayRaise P) (h_free : P.free = true) (h_ops : P.ops =
    true) (h_can : P.can = true) (h_tim : P.tim = true) (h_hb : P.hb = true) (h_bank : P.bank = true) (h_ax : P.ax =
    true) (h_fus : P.fus = true) (h_sched : P.sched = true) (h_sol : P.sol = true) (h_img : P.img = true) (h_pwr :
    P.pwr = true) (h_pair : P.pair = true) (h_lands : P.lands = true) (r_GATE_BSTUVCNT : P.Has .GATE_BSTUVCNT)
    (r_GATE_FLT : P.Has .GATE_FLT) (r_PROT_AXSTAT : P.Has .PROT_AXSTAT) (r_PWR_DOM_REQ : P.Has .PWR_DOM_REQ) :
    forget P (State.resetNow s t) = forget P s := by
  unfold State.resetNow
  try dsimp only
  repeat' first
    | with_reducible rfl
    | split
    | (simp only [dropCore_forget, endHold_forget, modLands_forget, Nat.reduceLT, ite_forget, ite_self, hev, hev.rcd,
        hev.fresh, hev.evt, h_free, h_ops, h_can, h_tim, h_hb, h_bank, h_ax, h_fus, h_sched, h_sol, h_img, h_pwr,
        h_pair, h_lands, r_GATE_BSTUVCNT, r_GATE_FLT, r_PROT_AXSTAT, r_PWR_DOM_REQ, Fin.is_lt]; done)
    | with_reducible refine Eq.trans (each_forget P _ _ (fun s x => ?_) _) ?_
    | (simp only [dropCore_forget, endHold_forget, modLands_forget, Nat.reduceLT, ite_forget, ite_self, hev, hev.rcd,
        hev.fresh, hev.evt, h_free, h_ops, h_can, h_tim, h_hb, h_bank, h_ax, h_fus, h_sched, h_sol, h_img, h_pwr,
        h_pair, h_lands, r_GATE_BSTUVCNT, r_GATE_FLT, r_PROT_AXSTAT, r_PWR_DOM_REQ, Fin.is_lt])

theorem resetFrom_forget (P : Parts) (s : State) (t : Nat) (hev : MayRaise P) (h_free : P.free = true) (h_ops : P.ops
    = true) (h_can : P.can = true) (h_tim : P.tim = true) (h_hb : P.hb = true) (h_bank : P.bank = true) (h_ax : P.ax =
    true) (h_fus : P.fus = true) (h_sched : P.sched = true) (h_sol : P.sol = true) (h_img : P.img = true) (h_pwr :
    P.pwr = true) (h_pair : P.pair = true) (h_lands : P.lands = true) (r_GATE_BSTUVCNT : P.Has .GATE_BSTUVCNT)
    (r_GATE_FLT : P.Has .GATE_FLT) (r_PROT_AXSTAT : P.Has .PROT_AXSTAT) (r_PWR_DOM_REQ : P.Has .PWR_DOM_REQ) :
    forget P (State.resetFrom s t) = forget P s := by
  unfold State.resetFrom
  try dsimp only
  (repeat' split) <;> first | with_reducible rfl | simp only [modLands_forget, resetNow_forget, Nat.reduceLT,
      ite_forget, ite_self, hev, hev.rcd, hev.fresh, hev.evt, h_free, h_ops, h_can, h_tim, h_hb, h_bank, h_ax, h_fus,
      h_sched, h_sol, h_img, h_pwr, h_pair, h_lands, r_GATE_BSTUVCNT, r_GATE_FLT, r_PROT_AXSTAT, r_PWR_DOM_REQ,
      Fin.is_lt]

theorem softwareReset_forget (P : Parts) (t : Nat) (s : State) (hev : MayRaise P) (h_free : P.free = true) (h_ops :
    P.ops = true) (h_can : P.can = true) (h_tim : P.tim = true) (h_hb : P.hb = true) (h_bank : P.bank = true) (h_ax :
    P.ax = true) (h_fus : P.fus = true) (h_sched : P.sched = true) (h_sol : P.sol = true) (h_img : P.img = true)
    (h_pwr : P.pwr = true) (h_pair : P.pair = true) (h_lands : P.lands = true) (r_GATE_BSTUVCNT : P.Has
    .GATE_BSTUVCNT) (r_GATE_FLT : P.Has .GATE_FLT) (r_PROT_AXSTAT : P.Has .PROT_AXSTAT) (r_PWR_DOM_REQ : P.Has
    .PWR_DOM_REQ) :
    forget P (softwareReset t s) = forget P s := by
  unfold softwareReset
  try dsimp only
  (repeat' split) <;> first | with_reducible rfl | simp only [modLands_forget, resetFrom_forget, Nat.reduceLT,
      ite_forget, ite_self, hev, hev.rcd, hev.fresh, hev.evt, h_free, h_ops, h_can, h_tim, h_hb, h_bank, h_ax, h_fus,
      h_sched, h_sol, h_img, h_pwr, h_pair, h_lands, r_GATE_BSTUVCNT, r_GATE_FLT, r_PROT_AXSTAT, r_PWR_DOM_REQ,
      Fin.is_lt]

theorem showKey_forget (P : Parts) (s : State) (chk : Word) (r_IMG_KEYCHK : P.Has .IMG_KEYCHK) (r_IMG_KEYSTAT : P.Has
    .IMG_KEYSTAT) :
    forget P (State.showKey s chk) = forget P s := by
  unfold State.showKey
  try dsimp only
  (repeat' split) <;> first | with_reducible rfl | simp only [wr_forget, cov_IMG_KEYCHK, cov_IMG_KEYSTAT,
      Nat.reduceLT, ite_forget, ite_self, r_IMG_KEYCHK, r_IMG_KEYSTAT, Fin.is_lt]

theorem resetRegs_forget (P : Parts) (s : State) (h_all : ∀ b, b ∈ P.blks) :
    forget P (State.resetRegs s) = forget P s := by
  unfold State.resetRegs
  try dsimp only
  (repeat' split) <;> first | with_reducible rfl | simp only [clearRange_forget, showKey_forget, wr_forget,
      implies_true, covers_all h_all, has_all h_all, Nat.reduceLT, ite_forget, ite_self, h_all, Fin.is_lt]

theorem resetBank_forget (P : Parts) (s : State) (b : Fin 8) (h_tim : P.tim = true) (h_hb : P.hb = true) (h_bank :
    P.bank = true) (h_ax : P.ax = true) :
    forget P (State.resetBank s b) = forget P s := by
  unfold State.resetBank
  try dsimp only
  repeat' first
    | with_reducible rfl
    | split
    | (simp only [modAx_forget, modBank_forget, modHb_forget, modTim_forget, Nat.reduceLT, ite_forget, ite_self,
        h_tim, h_hb, h_bank, h_ax, Fin.is_lt]; done)
    | with_reducible refine Eq.trans (each_forget P _ _ (fun s x => ?_) _) ?_
    | (simp only [modAx_forget, modBank_forget, modHb_forget, modTim_forget, Nat.reduceLT, ite_forget, ite_self,
        h_tim, h_hb, h_bank, h_ax, Fin.is_lt])

theorem resetEngines_forget (P : Parts) (s : State) (h_clk : P.clk = true) (h_link : P.link = true) (h_ops : P.ops =
    true) (h_can : P.can = true) (h_tim : P.tim = true) (h_hb : P.hb = true) (h_bank : P.bank = true) (h_ax : P.ax =
    true) (h_fus : P.fus = true) (h_sched : P.sched = true) (h_sol : P.sol = true) (h_img : P.img = true) :
    forget P (State.resetEngines s) = forget P s := by
  unfold State.resetEngines
  try dsimp only
  repeat' first
    | with_reducible rfl
    | split
    | (simp only [modCan_forget, modClk_forget, modFus_forget, modImg_forget, modLink_forget, modOps_forget,
        modSched_forget, modSol_forget, resetBank_forget, implies_true, Nat.reduceLT, ite_forget, ite_self, h_clk,
        h_link, h_ops, h_can, h_tim, h_hb, h_bank, h_ax, h_fus, h_sched, h_sol, h_img, Fin.is_lt]; done)
    | with_reducible refine Eq.trans (each_forget P _ _ (fun s x => ?_) _) ?_
    | (simp only [modCan_forget, modClk_forget, modFus_forget, modImg_forget, modLink_forget, modOps_forget,
        modSched_forget, modSol_forget, resetBank_forget, implies_true, Nat.reduceLT, ite_forget, ite_self, h_clk,
        h_link, h_ops, h_can, h_tim, h_hb, h_bank, h_ax, h_fus, h_sched, h_sol, h_img, Fin.is_lt])

theorem resetRole_forget (P : Parts) (s : State) (h_pair : P.pair = true) :
    forget P (State.resetRole s) = forget P s := by
  unfold State.resetRole
  try dsimp only
  repeat' first
    | with_reducible rfl
    | split
    | (simp only [modPair_forget, Nat.reduceLT, ite_forget, ite_self, h_pair, Fin.is_lt]; done)
    | with_reducible refine Eq.trans (each_forget P _ _ (fun s x => ?_) _) ?_
    | (simp only [modPair_forget, Nat.reduceLT, ite_forget, ite_self, h_pair, Fin.is_lt])

theorem resetSafety_forget (P : Parts) (s : State) (hev : MayRaise P) (h_ops : P.ops = true) (h_tim : P.tim = true)
    (h_hb : P.hb = true) (h_bank : P.bank = true) (h_ax : P.ax = true) (h_safe : P.safe = true) (r_GATE_BSTUVCNT :
    P.Has .GATE_BSTUVCNT) (r_GATE_FLT : P.Has .GATE_FLT) (r_PROT_AXSTAT : P.Has .PROT_AXSTAT) (r_SAFE_FLTEN : P.Has
    .SAFE_FLTEN) (r_SAFE_WDCFG : P.Has .SAFE_WDCFG) :
    forget P (State.resetSafety s) = forget P s := by
  unfold State.resetSafety
  try dsimp only
  repeat' first
    | with_reducible rfl
    | split
    | (simp only [bankCause_forget, estop_forget, modSafe_forget, wr_forget, cov_SAFE_FLTEN, cov_SAFE_WDCFG,
        Nat.reduceLT, ite_forget, ite_self, hev, hev.rcd, hev.fresh, hev.evt, h_ops, h_tim, h_hb, h_bank, h_ax,
        h_safe, r_GATE_BSTUVCNT, r_GATE_FLT, r_PROT_AXSTAT, r_SAFE_FLTEN, r_SAFE_WDCFG, Fin.is_lt]; done)
    | with_reducible refine Eq.trans (each_forget P _ _ (fun s x => ?_) _) ?_
    | (simp only [bankCause_forget, estop_forget, modSafe_forget, wr_forget, cov_SAFE_FLTEN, cov_SAFE_WDCFG,
        Nat.reduceLT, ite_forget, ite_self, hev, hev.rcd, hev.fresh, hev.evt, h_ops, h_tim, h_hb, h_bank, h_ax,
        h_safe, r_GATE_BSTUVCNT, r_GATE_FLT, r_PROT_AXSTAT, r_SAFE_FLTEN, r_SAFE_WDCFG, Fin.is_lt])

theorem strapped_forget (P : Parts) (s : State) (x : Straps) (h_lands : P.lands = true) :
    forget P (State.strapped s x) = forget P s := by
  unfold State.strapped
  simp only [modLands_forget, h_lands]

theorem readStraps_forget (P : Parts) (s : State) (h_free : P.free = true) (h_lands : P.lands = true) :
    forget P (State.readStraps s) = forget P s := by
  unfold State.readStraps
  try dsimp only
  (repeat' split) <;> first | with_reducible rfl | simp only [modLands_forget, setFree_forget, Nat.reduceLT,
      ite_forget, ite_self, h_free, h_lands, Fin.is_lt]

theorem announce_forget (P : Parts) (s : State) (kind : Nat) (hrec : MayRecord P) (h_free : P.free = true) (h_lands :
    P.lands = true) (b_evt : Blk.evt ∈ P.blks) (r_PWR_START : P.Has .PWR_START) (r_SYS_BOOT : P.Has .SYS_BOOT) :
    forget P (State.announce s kind) = forget P s := by
  have hw : ∀ s : State, forget P (s.clearRange 0x0400 0x0600) = forget P s := by
    intro s; apply clearRange_forget; intro a h1 h2
    exact covers_blk (blkOf_evt (by omega) (by omega)) b_evt
  unfold State.announce
  try dsimp only
  (repeat' split) <;> first | with_reducible rfl | simp only [evRESET_lt, modLands_forget, raise_forget,
      readStraps_forget, thaw_forget, wr_forget, cov_PWR_START, cov_SYS_BOOT, hw, Nat.reduceLT, ite_forget, ite_self,
      hrec, hrec.queue.raises, hrec.queue, hrec.recs, h_free, h_lands, b_evt, r_PWR_START, r_SYS_BOOT, Fin.is_lt]

theorem boot_forget (P : Parts) (s : State) (h_img : P.img = true) :
    forget P (State.boot s) = forget P s := by
  unfold State.boot
  try dsimp only
  (repeat' split) <;> first | with_reducible rfl | simp only [beginLoad_forget, Nat.reduceLT, ite_forget, ite_self,
      h_img, Fin.is_lt]

theorem releaseP_forget (P : Parts) (s : State) (kind : Nat) (hrec : MayRecord P) (h_free : P.free = true) (h_clk :
    P.clk = true) (h_link : P.link = true) (h_ops : P.ops = true) (h_can : P.can = true) (h_tim : P.tim = true) (h_hb
    : P.hb = true) (h_bank : P.bank = true) (h_ax : P.ax = true) (h_fus : P.fus = true) (h_sched : P.sched = true)
    (h_sol : P.sol = true) (h_img : P.img = true) (h_pair : P.pair = true) (h_safe : P.safe = true) (h_lands : P.lands
    = true) (h_all : ∀ b, b ∈ P.blks) :
    forget P (State.release' s kind) = forget P s := by
  unfold State.release'
  try dsimp only
  (repeat' split) <;> first | with_reducible rfl | simp only [announce_forget, boot_forget, resetEngines_forget,
      resetRegs_forget, resetRole_forget, resetSafety_forget, satInc_forget, implies_true, covers_all h_all, has_all
      h_all, Nat.reduceLT, ite_forget, ite_self, hrec, hrec.queue.raises, hrec.queue, hrec.recs, h_free, h_clk,
      h_link, h_ops, h_can, h_tim, h_hb, h_bank, h_ax, h_fus, h_sched, h_sol, h_img, h_pair, h_safe, h_lands, h_all,
      Fin.is_lt]

theorem outage_forget (P : Parts) (s : State) (r_PWR_LASTBNC : P.Has .PWR_LASTBNC) (r_PWR_LASTOUT : P.Has
    .PWR_LASTOUT) :
    forget P (State.outage s) = forget P s := by
  unfold State.outage
  try dsimp only
  (repeat' split) <;> first | with_reducible rfl | simp only [wr_forget, cov_PWR_LASTBNC, cov_PWR_LASTOUT,
      Nat.reduceLT, ite_forget, ite_self, r_PWR_LASTBNC, r_PWR_LASTOUT, Fin.is_lt]

theorem restored_forget (P : Parts) (s : State) (hev : MayRaise P) (r_PWR_LASTBNC : P.Has .PWR_LASTBNC) (r_PWR_LASTOUT
    : P.Has .PWR_LASTOUT) :
    forget P (State.restored s) = forget P s := by
  unfold State.restored
  try dsimp only
  (repeat' split) <;> first | with_reducible rfl | simp only [evPWR_RESTORE_lt, outage_forget, raise_forget,
      Nat.reduceLT, ite_forget, ite_self, hev, hev.rcd, hev.fresh, hev.evt, r_PWR_LASTBNC, r_PWR_LASTOUT, Fin.is_lt]

theorem resetRelease_forget (P : Parts) (s : State) (hrec : MayRecord P) (h_free : P.free = true) (h_clk : P.clk =
    true) (h_link : P.link = true) (h_ops : P.ops = true) (h_can : P.can = true) (h_tim : P.tim = true) (h_hb : P.hb =
    true) (h_bank : P.bank = true) (h_ax : P.ax = true) (h_fus : P.fus = true) (h_sched : P.sched = true) (h_sol :
    P.sol = true) (h_img : P.img = true) (h_pair : P.pair = true) (h_safe : P.safe = true) (h_lands : P.lands = true)
    (h_all : ∀ b, b ∈ P.blks) :
    forget P (resetRelease s) = forget P s := by
  unfold resetRelease
  try dsimp only
  (repeat' split) <;> first | with_reducible rfl | simp only [releaseP_forget, restored_forget, implies_true, has_all
      h_all, Nat.reduceLT, ite_forget, ite_self, hrec, hrec.queue.raises, hrec.queue, hrec.recs, h_free, h_clk,
      h_link, h_ops, h_can, h_tim, h_hb, h_bank, h_ax, h_fus, h_sched, h_sol, h_img, h_pair, h_safe, h_lands, h_all,
      Fin.is_lt]

theorem tapHolds_forget (P : Parts) (t : Nat) (i : TapInstr) (s : State) (hev : MayRaise P) (h_free : P.free = true)
    (h_ops : P.ops = true) (h_can : P.can = true) (h_tim : P.tim = true) (h_hb : P.hb = true) (h_bank : P.bank = true)
    (h_ax : P.ax = true) (h_fus : P.fus = true) (h_sched : P.sched = true) (h_sol : P.sol = true) (h_img : P.img =
    true) (h_pwr : P.pwr = true) (h_pair : P.pair = true) (h_lands : P.lands = true) (r_GATE_BSTUVCNT : P.Has
    .GATE_BSTUVCNT) (r_GATE_FLT : P.Has .GATE_FLT) (r_PROT_AXSTAT : P.Has .PROT_AXSTAT) (r_PWR_DOM_REQ : P.Has
    .PWR_DOM_REQ) :
    forget P (tapHolds t i s) = forget P s := by
  unfold tapHolds
  try dsimp only
  (repeat' split) <;> first | with_reducible rfl | simp only [modLands_forget, resetFrom_forget, Nat.reduceLT,
      ite_forget, ite_self, hev, hev.rcd, hev.fresh, hev.evt, h_free, h_ops, h_can, h_tim, h_hb, h_bank, h_ax, h_fus,
      h_sched, h_sol, h_img, h_pwr, h_pair, h_lands, r_GATE_BSTUVCNT, r_GATE_FLT, r_PROT_AXSTAT, r_PWR_DOM_REQ,
      Fin.is_lt]

theorem tapRuns_forget (P : Parts) (i : TapInstr) (s : State) (h_lands : P.lands = true) :
    forget P (tapRuns i s) = forget P s := by
  unfold tapRuns
  try dsimp only
  (repeat' split) <;> first | with_reducible rfl | simp only [modLands_forget, Nat.reduceLT, ite_forget, ite_self,
      h_lands, Fin.is_lt]

end Sys2Proof.Laws
end

