-- ==== Sys2Proof/Laws/FramePower.lean ====
section
/-! SUPPORT. Sys2Proof/Laws/FramePower.lean: which parts of the state each operation of Machine/Power.lean may change. -/
namespace Sys2Proof.Laws
set_option Elab.async false
set_option linter.unusedSimpArgs false
open Sys2Proof.Machine Sys2Proof.Safety

theorem measured_forget (P : Parts) (s : State) (vmain vbak : Word) (r_PWR_ESTORED : P.Has .PWR_ESTORED) (r_PWR_VBAK :
    P.Has .PWR_VBAK) (r_PWR_VMAIN : P.Has .PWR_VMAIN) :
    forget P (State.measured s vmain vbak) = forget P s := by
  unfold State.measured
  try dsimp only
  (repeat' split) <;> first | with_reducible rfl | simp only [wr_forget, cov_PWR_ESTORED, cov_PWR_VBAK, cov_PWR_VMAIN,
      Nat.reduceLT, ite_forget, ite_self, r_PWR_ESTORED, r_PWR_VBAK, r_PWR_VMAIN, Fin.is_lt]

theorem judgeEnergy_forget (P : Parts) (s : State) (hev : MayRaise P) (h_pwr : P.pwr = true) :
    forget P (State.judgeEnergy s) = forget P s := by
  unfold State.judgeEnergy
  try dsimp only
  (repeat' split) <;> first | with_reducible rfl | simp only [evHOLDUP_LOW_lt, modPwr_forget, raise_forget,
      Nat.reduceLT, ite_forget, ite_self, hev, hev.rcd, hev.fresh, hev.evt, h_pwr, Fin.is_lt]

theorem judgeVbak_forget (P : Parts) (s : State) (vbak : Nat) (hev : MayRaise P) (h_pwr : P.pwr = true) :
    forget P (State.judgeVbak s vbak) = forget P s := by
  unfold State.judgeVbak
  try dsimp only
  (repeat' split) <;> first | with_reducible rfl | simp only [evVBAK_LOW_lt, modPwr_forget, raise_forget,
      Nat.reduceLT, ite_forget, ite_self, hev, hev.rcd, hev.fresh, hev.evt, h_pwr, Fin.is_lt]

theorem judgeCharger_forget (P : Parts) (s : State) (vbak : Nat) (h_pwr : P.pwr = true) :
    forget P (State.judgeCharger s vbak) = forget P s := by
  unfold State.judgeCharger
  try dsimp only
  (repeat' split) <;> first | with_reducible rfl | simp only [modPwr_forget, Nat.reduceLT, ite_forget, ite_self,
      h_pwr, Fin.is_lt]

theorem chargerNow_forget (P : Parts) (s : State) (h_pwr : P.pwr = true) :
    forget P (State.chargerNow s) = forget P s := by
  unfold State.chargerNow
  try dsimp only
  (repeat' split) <;> first | with_reducible rfl | simp only [judgeCharger_forget, Nat.reduceLT, ite_forget, ite_self,
      h_pwr, Fin.is_lt]

theorem energyEstimate_forget (P : Parts) (vmain vbak vio : Word) (s : State) (hev : MayRaise P) (h_pwr : P.pwr =
    true) (h_store : P.store = true) (h_mem : P.mem = true) (r_PWR_ESTORED : P.Has .PWR_ESTORED) (r_PWR_VBAK : P.Has
    .PWR_VBAK) (r_PWR_VIO : P.Has .PWR_VIO) (r_PWR_VMAIN : P.Has .PWR_VMAIN) :
    forget P (energyEstimate vmain vbak vio s) = forget P s := by
  unfold energyEstimate
  try dsimp only
  (repeat' split) <;> first | with_reducible rfl | simp only [judgeCharger_forget, judgeEnergy_forget,
      judgeVbak_forget, measured_forget, retryGate_forget, wr_forget, cov_PWR_VIO, Nat.reduceLT, ite_forget, ite_self,
      hev, hev.rcd, hev.fresh, hev.evt, h_pwr, h_store, h_mem, r_PWR_ESTORED, r_PWR_VBAK, r_PWR_VIO, r_PWR_VMAIN,
      Fin.is_lt]

theorem vioUv_forget (P : Parts) (t : Nat) (vio : Word) (s : State) (hev : MayRaise P) (h_ops : P.ops = true) (h_tim :
    P.tim = true) (h_hb : P.hb = true) (h_bank : P.bank = true) (h_ax : P.ax = true) (h_pwr : P.pwr = true) (h_pair :
    P.pair = true) (h_safe : P.safe = true) (r_GATE_BSTUVCNT : P.Has .GATE_BSTUVCNT) (r_GATE_FLT : P.Has .GATE_FLT)
    (r_PROT_AXSTAT : P.Has .PROT_AXSTAT) (r_PWR_VIO : P.Has .PWR_VIO) (r_SAFE_CAUSE : P.Has .SAFE_CAUSE)
    (r_SAFE_DETAIL : P.Has .SAFE_DETAIL) :
    forget P (vioUv t vio s) = forget P s := by
  unfold vioUv State.whenUp
  try dsimp only
  (repeat' split) <;> first | with_reducible rfl | simp only [deviceWide_forget, modPwr_forget, wr_forget,
      cov_PWR_VIO, Nat.reduceLT, ite_forget, ite_self, hev, hev.rcd, hev.fresh, hev.evt, h_ops, h_tim, h_hb, h_bank,
      h_ax, h_pwr, h_pair, h_safe, r_GATE_BSTUVCNT, r_GATE_FLT, r_PROT_AXSTAT, r_PWR_VIO, r_SAFE_CAUSE, r_SAFE_DETAIL,
      Fin.is_lt]

theorem abortAll_forget (P : Parts) (s : State) (hev : MayRaise P) (h_free : P.free = true) (h_ops : P.ops = true)
    (h_hb : P.hb = true) (h_ax : P.ax = true) (h_img : P.img = true) :
    forget P (State.abortAll s) = forget P s := by
  unfold State.abortAll
  try dsimp only
  repeat' first
    | with_reducible rfl
    | split
    | (simp only [abortSlot_forget, Nat.reduceLT, ite_forget, ite_self, hev, hev.rcd, hev.fresh, hev.evt, h_free,
        h_ops, h_hb, h_ax, h_img, Fin.is_lt]; done)
    | with_reducible refine Eq.trans (each_forget P _ _ (fun s x => ?_) _) ?_
    | (simp only [abortSlot_forget, Nat.reduceLT, ite_forget, ite_self, hev, hev.rcd, hev.fresh, hev.evt, h_free,
        h_ops, h_hb, h_ax, h_img, Fin.is_lt])

theorem abortBoot_forget (P : Parts) (s : State) (h_img : P.img = true) :
    forget P (State.abortBoot s) = forget P s := by
  unfold State.abortBoot
  try dsimp only
  (repeat' split) <;> first | with_reducible rfl | simp only [endLoad_forget, Nat.reduceLT, ite_forget, ite_self,
      h_img, Fin.is_lt]

theorem banksSafe_forget (P : Parts) (s : State) (t : Nat) (hev : MayRaise P) (h_ops : P.ops = true) (h_tim : P.tim =
    true) (h_hb : P.hb = true) (h_bank : P.bank = true) (h_ax : P.ax = true) (r_GATE_BSTUVCNT : P.Has .GATE_BSTUVCNT)
    (r_GATE_FLT : P.Has .GATE_FLT) (r_PROT_AXSTAT : P.Has .PROT_AXSTAT) :
    forget P (State.banksSafe s t) = forget P s := by
  unfold State.banksSafe
  try dsimp only
  repeat' first
    | with_reducible rfl
    | split
    | (simp only [bankCause_forget, disarm_forget, stopAxis_forget, Nat.reduceLT, ite_forget, ite_self, hev, hev.rcd,
        hev.fresh, hev.evt, h_ops, h_tim, h_hb, h_bank, h_ax, r_GATE_BSTUVCNT, r_GATE_FLT, r_PROT_AXSTAT, Fin.is_lt];
        done)
    | with_reducible refine Eq.trans (each_forget P _ _ (fun s x => ?_) _) ?_
    | (simp only [bankCause_forget, disarm_forget, stopAxis_forget, Nat.reduceLT, ite_forget, ite_self, hev, hev.rcd,
        hev.fresh, hev.evt, h_ops, h_tim, h_hb, h_bank, h_ax, r_GATE_BSTUVCNT, r_GATE_FLT, r_PROT_AXSTAT, Fin.is_lt])

theorem vmainFail_forget (P : Parts) (t : Nat) (vmain vbak : Word) (s : State) (hrec : MayRecord P) (h_free : P.free =
    true) (h_ops : P.ops = true) (h_tim : P.tim = true) (h_hb : P.hb = true) (h_bank : P.bank = true) (h_ax : P.ax =
    true) (h_img : P.img = true) (h_pwr : P.pwr = true) (h_store : P.store = true) (h_pair : P.pair = true) (h_mem :
    P.mem = true) (r_GATE_BSTUVCNT : P.Has .GATE_BSTUVCNT) (r_GATE_FLT : P.Has .GATE_FLT) (r_PROT_AXSTAT : P.Has
    .PROT_AXSTAT) (r_PWR_ESTORED : P.Has .PWR_ESTORED) (r_PWR_LOSSCNT : P.Has .PWR_LOSSCNT) (r_PWR_VBAK : P.Has
    .PWR_VBAK) (r_PWR_VMAIN : P.Has .PWR_VMAIN) :
    forget P (vmainFail t vmain vbak s) = forget P s := by
  unfold vmainFail
  try dsimp only
  (repeat' split) <;> first | with_reducible rfl | simp only [abortAll_forget, abortBoot_forget, banksSafe_forget,
      evPWR_LOSS_lt, measured_forget, modPwr_forget, raise_forget, releaseOwner_forget, retryGate_forget,
      satInc_forget, thaw_forget, cov_PWR_LOSSCNT, Nat.reduceLT, ite_forget, ite_self, hrec, hrec.queue.raises,
      hrec.queue, hrec.recs, h_free, h_ops, h_tim, h_hb, h_bank, h_ax, h_img, h_pwr, h_store, h_pair, h_mem,
      r_GATE_BSTUVCNT, r_GATE_FLT, r_PROT_AXSTAT, r_PWR_ESTORED, r_PWR_LOSSCNT, r_PWR_VBAK, r_PWR_VMAIN, Fin.is_lt]

theorem holdBank_forget (P : Parts) (s : State) (t : Nat) (b : Fin 8) (hev : MayRaise P) (h_tim : P.tim = true) (h_hb
    : P.hb = true) (h_bank : P.bank = true) (h_ax : P.ax = true) (r_GATE_BSTUVCNT : P.Has .GATE_BSTUVCNT) (r_GATE_FLT
    : P.Has .GATE_FLT) (r_PROT_AXSTAT : P.Has .PROT_AXSTAT) :
    forget P (State.holdBank s t b) = forget P s := by
  unfold State.holdBank
  try dsimp only
  (repeat' split) <;> first | with_reducible rfl | simp only [endHold_forget, modBank_forget, Nat.reduceLT,
      ite_forget, ite_self, hev, hev.rcd, hev.fresh, hev.evt, h_tim, h_hb, h_bank, h_ax, r_GATE_BSTUVCNT, r_GATE_FLT,
      r_PROT_AXSTAT, Fin.is_lt]

theorem banksDown_forget (P : Parts) (s : State) (t : Nat) (hev : MayRaise P) (h_free : P.free = true) (h_ops : P.ops
    = true) (h_can : P.can = true) (h_tim : P.tim = true) (h_hb : P.hb = true) (h_bank : P.bank = true) (h_ax : P.ax =
    true) (h_fus : P.fus = true) (h_sched : P.sched = true) (h_sol : P.sol = true) (h_pwr : P.pwr = true) (h_pair :
    P.pair = true) (r_GATE_BSTUVCNT : P.Has .GATE_BSTUVCNT) (r_GATE_FLT : P.Has .GATE_FLT) (r_PROT_AXSTAT : P.Has
    .PROT_AXSTAT) :
    forget P (State.banksDown s t) = forget P s := by
  unfold State.banksDown
  try dsimp only
  repeat' first
    | with_reducible rfl
    | split
    | (simp only [domOff_forget, holdBank_forget, Nat.reduceLT, ite_forget, ite_self, hev, hev.rcd, hev.fresh,
        hev.evt, h_free, h_ops, h_can, h_tim, h_hb, h_bank, h_ax, h_fus, h_sched, h_sol, h_pwr, h_pair,
        r_GATE_BSTUVCNT, r_GATE_FLT, r_PROT_AXSTAT, Fin.is_lt]; done)
    | with_reducible refine Eq.trans (each_forget P _ _ (fun s x => ?_) _) ?_
    | (simp only [domOff_forget, holdBank_forget, Nat.reduceLT, ite_forget, ite_self, hev, hev.rcd, hev.fresh,
        hev.evt, h_free, h_ops, h_can, h_tim, h_hb, h_bank, h_ax, h_fus, h_sched, h_sol, h_pwr, h_pair,
        r_GATE_BSTUVCNT, r_GATE_FLT, r_PROT_AXSTAT, Fin.is_lt])

theorem downIf_forget (P : Parts) (s : State) (t d : Nat) (hev : MayRaise P) (h_free : P.free = true) (h_ops : P.ops =
    true) (h_can : P.can = true) (h_tim : P.tim = true) (h_hb : P.hb = true) (h_bank : P.bank = true) (h_ax : P.ax =
    true) (h_fus : P.fus = true) (h_sched : P.sched = true) (h_sol : P.sol = true) (h_pwr : P.pwr = true) (h_pair :
    P.pair = true) (r_GATE_BSTUVCNT : P.Has .GATE_BSTUVCNT) (r_GATE_FLT : P.Has .GATE_FLT) :
    forget P (State.downIf s t d) = forget P s := by
  unfold State.downIf
  try dsimp only
  (repeat' split) <;> first | with_reducible rfl | simp only [domOff_forget, Nat.reduceLT, ite_forget, ite_self, hev,
      hev.rcd, hev.fresh, hev.evt, h_free, h_ops, h_can, h_tim, h_hb, h_bank, h_ax, h_fus, h_sched, h_sol, h_pwr,
      h_pair, r_GATE_BSTUVCNT, r_GATE_FLT, Fin.is_lt]

theorem handStep_forget (P : Parts) (s : State) (t : Nat) (hev : MayRaise P) (h_free : P.free = true) (h_ops : P.ops =
    true) (h_can : P.can = true) (h_tim : P.tim = true) (h_hb : P.hb = true) (h_bank : P.bank = true) (h_ax : P.ax =
    true) (h_fus : P.fus = true) (h_sched : P.sched = true) (h_sol : P.sol = true) (h_pwr : P.pwr = true) (h_pair :
    P.pair = true) (r_GATE_BSTUVCNT : P.Has .GATE_BSTUVCNT) (r_GATE_FLT : P.Has .GATE_FLT) (r_PROT_AXSTAT : P.Has
    .PROT_AXSTAT) :
    forget P (State.handStep s t) = forget P s := by
  unfold State.handStep
  try dsimp only
  (repeat' split) <;> first | with_reducible rfl | simp only [banksDown_forget, downIf_forget, modPwr_forget,
      raiseDomSw_forget, Nat.reduceLT, ite_forget, ite_self, hev, hev.rcd, hev.fresh, hev.evt, h_free, h_ops, h_can,
      h_tim, h_hb, h_bank, h_ax, h_fus, h_sched, h_sol, h_pwr, h_pair, r_GATE_BSTUVCNT, r_GATE_FLT, r_PROT_AXSTAT,
      Fin.is_lt]

theorem restoreLater_forget (P : Parts) (s : State) (h_pwr : P.pwr = true) (r_PWR_LASTBNC : P.Has .PWR_LASTBNC)
    (r_PWR_LASTOUT : P.Has .PWR_LASTOUT) :
    forget P (State.restoreLater s) = forget P s := by
  unfold State.restoreLater
  try dsimp only
  (repeat' split) <;> first | with_reducible rfl | simp only [modPwr_forget, outage_forget, Nat.reduceLT, ite_forget,
      ite_self, h_pwr, r_PWR_LASTBNC, r_PWR_LASTOUT, Fin.is_lt]

theorem toMain_forget (P : Parts) (s : State) (h_clk : P.clk = true) (h_pwr : P.pwr = true) :
    forget P (State.toMain s) = forget P s := by
  unfold State.toMain
  try dsimp only
  (repeat' split) <;> first | with_reducible rfl | simp only [modClk_forget, modPwr_forget, Nat.reduceLT, ite_forget,
      ite_self, h_clk, h_pwr, Fin.is_lt]

theorem warmRestart_forget (P : Parts) (s : State) (hrec : MayRecord P) (h_free : P.free = true) (h_clk : P.clk =
    true) (h_ops : P.ops = true) (h_can : P.can = true) (h_tim : P.tim = true) (h_hb : P.hb = true) (h_bank : P.bank =
    true) (h_ax : P.ax = true) (h_fus : P.fus = true) (h_sched : P.sched = true) (h_sol : P.sol = true) (h_pwr : P.pwr
    = true) (h_pair : P.pair = true) (h_safe : P.safe = true) (h_lands : P.lands = true) (b_evt : Blk.evt ∈ P.blks)
    (r_GATE_BSTUVCNT : P.Has .GATE_BSTUVCNT) (r_GATE_FLT : P.Has .GATE_FLT) (r_PROT_AXSTAT : P.Has .PROT_AXSTAT)
    (r_PWR_LASTBNC : P.Has .PWR_LASTBNC) (r_PWR_LASTOUT : P.Has .PWR_LASTOUT) (r_PWR_START : P.Has .PWR_START)
    (r_SAFE_FLTEN : P.Has .SAFE_FLTEN) (r_SAFE_WDCFG : P.Has .SAFE_WDCFG) (r_SYS_BOOT : P.Has .SYS_BOOT) :
    forget P (State.warmRestart s) = forget P s := by
  unfold State.warmRestart
  try dsimp only
  (repeat' split) <;> first | with_reducible rfl | simp only [announce_forget, applyReq_forget, modLands_forget,
      refloatAll_forget, resetRole_forget, resetSafety_forget, restoreLater_forget, toMain_forget, Nat.reduceLT,
      ite_forget, ite_self, hrec, hrec.queue.raises, hrec.queue, hrec.recs, h_free, h_clk, h_ops, h_can, h_tim, h_hb,
      h_bank, h_ax, h_fus, h_sched, h_sol, h_pwr, h_pair, h_safe, h_lands, b_evt, r_GATE_BSTUVCNT, r_GATE_FLT,
      r_PROT_AXSTAT, r_PWR_LASTBNC, r_PWR_LASTOUT, r_PWR_START, r_SAFE_FLTEN, r_SAFE_WDCFG, r_SYS_BOOT, Fin.is_lt]

theorem corePowerOn_forget (P : Parts) (s : State) (hrec : MayRecord P) (hev : MayRaise P) (h_free : P.free = true)
    (h_clk : P.clk = true) (h_link : P.link = true) (h_ops : P.ops = true) (h_can : P.can = true) (h_tim : P.tim =
    true) (h_hb : P.hb = true) (h_bank : P.bank = true) (h_ax : P.ax = true) (h_fus : P.fus = true) (h_sched : P.sched
    = true) (h_sol : P.sol = true) (h_img : P.img = true) (h_pwr : P.pwr = true) (h_store : P.store = true) (h_pair :
    P.pair = true) (h_safe : P.safe = true) (h_lands : P.lands = true) (h_all : ∀ b, b ∈ P.blks) :
    forget P (State.corePowerOn s) = forget P s := by
  unfold State.corePowerOn
  try dsimp only
  (repeat' split) <;> first | with_reducible rfl | simp only [modStore_forget, releaseP_forget, restored_forget,
      toMain_forget, implies_true, modRcd_forget_recs, has_all h_all, Nat.reduceLT, ite_forget, ite_self, hrec,
      hrec.queue.raises, hrec.queue, hrec.recs, hev, hev.rcd, hev.fresh, hev.evt, h_free, h_clk, h_link, h_ops, h_can,
      h_tim, h_hb, h_bank, h_ax, h_fus, h_sched, h_sol, h_img, h_pwr, h_store, h_pair, h_safe, h_lands, h_all,
      Fin.is_lt]

theorem coreOff_forget (P : Parts) (s : State) (t : Nat) (hev : MayRaise P) (h_free : P.free = true) (h_clk : P.clk =
    true) (h_ops : P.ops = true) (h_can : P.can = true) (h_tim : P.tim = true) (h_hb : P.hb = true) (h_bank : P.bank =
    true) (h_ax : P.ax = true) (h_fus : P.fus = true) (h_sched : P.sched = true) (h_sol : P.sol = true) (h_img : P.img
    = true) (h_pwr : P.pwr = true) (h_store : P.store = true) (h_pair : P.pair = true) (h_lands : P.lands = true)
    (h_win : P.win = true) (r_GATE_BSTUVCNT : P.Has .GATE_BSTUVCNT) (r_GATE_FLT : P.Has .GATE_FLT) (r_PWR_DOM_REQ :
    P.Has .PWR_DOM_REQ) (r_STORE_JLOST : P.Has .STORE_JLOST) :
    forget P (State.coreOff s t) = forget P s := by
  unfold State.coreOff
  try dsimp only
  (repeat' split) <;> first | with_reducible rfl | simp only [dropCore_forget, dropItems_forget, modClk_forget,
      modImg_forget_win, modLands_forget, modPair_forget, modPwr_forget, ppsBreak_forget, Nat.reduceLT, ite_forget,
      ite_self, hev, hev.rcd, hev.fresh, hev.evt, h_free, h_clk, h_ops, h_can, h_tim, h_hb, h_bank, h_ax, h_fus,
      h_sched, h_sol, h_img, h_pwr, h_store, h_pair, h_lands, h_win, r_GATE_BSTUVCNT, r_GATE_FLT, r_PWR_DOM_REQ,
      r_STORE_JLOST, Fin.is_lt]

theorem toBackup_forget (P : Parts) (s : State) (t : Nat) (hev : MayRaise P) (h_free : P.free = true) (h_clk : P.clk =
    true) (h_ops : P.ops = true) (h_can : P.can = true) (h_tim : P.tim = true) (h_hb : P.hb = true) (h_bank : P.bank =
    true) (h_ax : P.ax = true) (h_fus : P.fus = true) (h_sched : P.sched = true) (h_sol : P.sol = true) (h_img : P.img
    = true) (h_pwr : P.pwr = true) (h_store : P.store = true) (h_pair : P.pair = true) (h_lands : P.lands = true)
    (h_win : P.win = true) (r_GATE_BSTUVCNT : P.Has .GATE_BSTUVCNT) (r_GATE_FLT : P.Has .GATE_FLT) (r_PWR_DOM_REQ :
    P.Has .PWR_DOM_REQ) (r_STORE_JLOST : P.Has .STORE_JLOST) :
    forget P (State.toBackup s t) = forget P s := by
  unfold State.toBackup
  try dsimp only
  (repeat' split) <;> first | with_reducible rfl | simp only [coreOff_forget, modPwr_forget, Nat.reduceLT, ite_forget,
      ite_self, hev, hev.rcd, hev.fresh, hev.evt, h_free, h_clk, h_ops, h_can, h_tim, h_hb, h_bank, h_ax, h_fus,
      h_sched, h_sol, h_img, h_pwr, h_store, h_pair, h_lands, h_win, r_GATE_BSTUVCNT, r_GATE_FLT, r_PWR_DOM_REQ,
      r_STORE_JLOST, Fin.is_lt]

theorem afterFlush_forget (P : Parts) (s : State) (t : Nat) (hrec : MayRecord P) (h_free : P.free = true) (h_clk :
    P.clk = true) (h_ops : P.ops = true) (h_can : P.can = true) (h_tim : P.tim = true) (h_hb : P.hb = true) (h_bank :
    P.bank = true) (h_ax : P.ax = true) (h_fus : P.fus = true) (h_sched : P.sched = true) (h_sol : P.sol = true)
    (h_img : P.img = true) (h_pwr : P.pwr = true) (h_store : P.store = true) (h_pair : P.pair = true) (h_safe : P.safe
    = true) (h_lands : P.lands = true) (h_win : P.win = true) (b_evt : Blk.evt ∈ P.blks) (r_GATE_BSTUVCNT : P.Has
    .GATE_BSTUVCNT) (r_GATE_FLT : P.Has .GATE_FLT) (r_PROT_AXSTAT : P.Has .PROT_AXSTAT) (r_PWR_DOM_REQ : P.Has
    .PWR_DOM_REQ) (r_PWR_LASTBNC : P.Has .PWR_LASTBNC) (r_PWR_LASTOUT : P.Has .PWR_LASTOUT) (r_PWR_START : P.Has
    .PWR_START) (r_SAFE_FLTEN : P.Has .SAFE_FLTEN) (r_SAFE_WDCFG : P.Has .SAFE_WDCFG) (r_STORE_JLOST : P.Has
    .STORE_JLOST) (r_SYS_BOOT : P.Has .SYS_BOOT) :
    forget P (State.afterFlush s t) = forget P s := by
  unfold State.afterFlush
  try dsimp only
  (repeat' split) <;> first | with_reducible rfl | simp only [modPwr_forget, resetNow_forget, toBackup_forget,
      warmRestart_forget, Nat.reduceLT, ite_forget, ite_self, hrec, hrec.queue.raises, hrec.queue, hrec.recs, h_free,
      h_clk, h_ops, h_can, h_tim, h_hb, h_bank, h_ax, h_fus, h_sched, h_sol, h_img, h_pwr, h_store, h_pair, h_safe,
      h_lands, h_win, b_evt, r_GATE_BSTUVCNT, r_GATE_FLT, r_PROT_AXSTAT, r_PWR_DOM_REQ, r_PWR_LASTBNC, r_PWR_LASTOUT,
      r_PWR_START, r_SAFE_FLTEN, r_SAFE_WDCFG, r_STORE_JLOST, r_SYS_BOOT, Fin.is_lt]

theorem criticalWindowEnd_forget (P : Parts) (s : State) (hrec : MayRecord P) (h_free : P.free = true) (h_clk : P.clk
    = true) (h_ops : P.ops = true) (h_can : P.can = true) (h_tim : P.tim = true) (h_hb : P.hb = true) (h_bank : P.bank
    = true) (h_ax : P.ax = true) (h_fus : P.fus = true) (h_sched : P.sched = true) (h_sol : P.sol = true) (h_img :
    P.img = true) (h_pwr : P.pwr = true) (h_store : P.store = true) (h_pair : P.pair = true) (h_safe : P.safe = true)
    (h_lands : P.lands = true) (h_win : P.win = true) (b_evt : Blk.evt ∈ P.blks) (r_GATE_BSTUVCNT : P.Has
    .GATE_BSTUVCNT) (r_GATE_FLT : P.Has .GATE_FLT) (r_PROT_AXSTAT : P.Has .PROT_AXSTAT) (r_PWR_DOM_REQ : P.Has
    .PWR_DOM_REQ) (r_PWR_LASTBNC : P.Has .PWR_LASTBNC) (r_PWR_LASTOUT : P.Has .PWR_LASTOUT) (r_PWR_START : P.Has
    .PWR_START) (r_SAFE_FLTEN : P.Has .SAFE_FLTEN) (r_SAFE_WDCFG : P.Has .SAFE_WDCFG) (r_STORE_JLOST : P.Has
    .STORE_JLOST) (r_SYS_BOOT : P.Has .SYS_BOOT) :
    forget P (criticalWindowEnd s) = forget P s := by
  unfold criticalWindowEnd
  try dsimp only
  (repeat' split) <;> first | with_reducible rfl | simp only [afterFlush_forget, modPwr_forget, Nat.reduceLT,
      ite_forget, ite_self, hrec, hrec.queue.raises, hrec.queue, hrec.recs, h_free, h_clk, h_ops, h_can, h_tim, h_hb,
      h_bank, h_ax, h_fus, h_sched, h_sol, h_img, h_pwr, h_store, h_pair, h_safe, h_lands, h_win, b_evt,
      r_GATE_BSTUVCNT, r_GATE_FLT, r_PROT_AXSTAT, r_PWR_DOM_REQ, r_PWR_LASTBNC, r_PWR_LASTOUT, r_PWR_START,
      r_SAFE_FLTEN, r_SAFE_WDCFG, r_STORE_JLOST, r_SYS_BOOT, Fin.is_lt]

theorem flushEnd_forget (P : Parts) (t : Nat) (s : State) (hrec : MayRecord P) (h_free : P.free = true) (h_clk : P.clk
    = true) (h_ops : P.ops = true) (h_can : P.can = true) (h_tim : P.tim = true) (h_hb : P.hb = true) (h_bank : P.bank
    = true) (h_ax : P.ax = true) (h_fus : P.fus = true) (h_sched : P.sched = true) (h_sol : P.sol = true) (h_img :
    P.img = true) (h_pwr : P.pwr = true) (h_store : P.store = true) (h_pair : P.pair = true) (h_safe : P.safe = true)
    (h_lands : P.lands = true) (h_win : P.win = true) (b_evt : Blk.evt ∈ P.blks) (r_GATE_BSTUVCNT : P.Has
    .GATE_BSTUVCNT) (r_GATE_FLT : P.Has .GATE_FLT) (r_PROT_AXSTAT : P.Has .PROT_AXSTAT) (r_PWR_DOM_REQ : P.Has
    .PWR_DOM_REQ) (r_PWR_FLUSHT : P.Has .PWR_FLUSHT) (r_PWR_LASTBNC : P.Has .PWR_LASTBNC) (r_PWR_LASTOUT : P.Has
    .PWR_LASTOUT) (r_PWR_START : P.Has .PWR_START) (r_SAFE_FLTEN : P.Has .SAFE_FLTEN) (r_SAFE_WDCFG : P.Has
    .SAFE_WDCFG) (r_STORE_JLOST : P.Has .STORE_JLOST) (r_SYS_BOOT : P.Has .SYS_BOOT) :
    forget P (flushEnd t s) = forget P s := by
  unfold flushEnd
  try dsimp only
  (repeat' split) <;> first | with_reducible rfl | simp only [afterFlush_forget, modPwr_forget, wr_forget,
      cov_PWR_FLUSHT, Nat.reduceLT, ite_forget, ite_self, hrec, hrec.queue.raises, hrec.queue, hrec.recs, h_free,
      h_clk, h_ops, h_can, h_tim, h_hb, h_bank, h_ax, h_fus, h_sched, h_sol, h_img, h_pwr, h_store, h_pair, h_safe,
      h_lands, h_win, b_evt, r_GATE_BSTUVCNT, r_GATE_FLT, r_PROT_AXSTAT, r_PWR_DOM_REQ, r_PWR_FLUSHT, r_PWR_LASTBNC,
      r_PWR_LASTOUT, r_PWR_START, r_SAFE_FLTEN, r_SAFE_WDCFG, r_STORE_JLOST, r_SYS_BOOT, Fin.is_lt]

theorem vmainOkRise_forget (P : Parts) (s : State) (h_pwr : P.pwr = true) :
    forget P (vmainOkRise s) = forget P s := by
  unfold vmainOkRise
  try dsimp only
  (repeat' split) <;> first | with_reducible rfl | simp only [modPwr_forget, Nat.reduceLT, ite_forget, ite_self,
      h_pwr, Fin.is_lt]

theorem vmainOkFall_forget (P : Parts) (s : State) (hev : MayRaise P) (h_free : P.free = true) (h_clk : P.clk = true)
    (h_ops : P.ops = true) (h_can : P.can = true) (h_tim : P.tim = true) (h_hb : P.hb = true) (h_bank : P.bank = true)
    (h_ax : P.ax = true) (h_fus : P.fus = true) (h_sched : P.sched = true) (h_sol : P.sol = true) (h_img : P.img =
    true) (h_pwr : P.pwr = true) (h_store : P.store = true) (h_pair : P.pair = true) (h_lands : P.lands = true) (h_win
    : P.win = true) (r_GATE_BSTUVCNT : P.Has .GATE_BSTUVCNT) (r_GATE_FLT : P.Has .GATE_FLT) (r_PWR_DOM_REQ : P.Has
    .PWR_DOM_REQ) (r_STORE_JLOST : P.Has .STORE_JLOST) :
    forget P (vmainOkFall s) = forget P s := by
  unfold vmainOkFall
  try dsimp only
  (repeat' split) <;> first | with_reducible rfl | simp only [modPwr_forget, toBackup_forget, Nat.reduceLT,
      ite_forget, ite_self, hev, hev.rcd, hev.fresh, hev.evt, h_free, h_clk, h_ops, h_can, h_tim, h_hb, h_bank, h_ax,
      h_fus, h_sched, h_sol, h_img, h_pwr, h_store, h_pair, h_lands, h_win, r_GATE_BSTUVCNT, r_GATE_FLT,
      r_PWR_DOM_REQ, r_STORE_JLOST, Fin.is_lt]

theorem vmainBounce_forget (P : Parts) (s : State) (hev : MayRaise P) (h_free : P.free = true) (h_clk : P.clk = true)
    (h_ops : P.ops = true) (h_can : P.can = true) (h_tim : P.tim = true) (h_hb : P.hb = true) (h_bank : P.bank = true)
    (h_ax : P.ax = true) (h_fus : P.fus = true) (h_sched : P.sched = true) (h_sol : P.sol = true) (h_img : P.img =
    true) (h_pwr : P.pwr = true) (h_store : P.store = true) (h_pair : P.pair = true) (h_lands : P.lands = true) (h_win
    : P.win = true) (r_GATE_BSTUVCNT : P.Has .GATE_BSTUVCNT) (r_GATE_FLT : P.Has .GATE_FLT) (r_PWR_BOUNCECNT : P.Has
    .PWR_BOUNCECNT) (r_PWR_DOM_REQ : P.Has .PWR_DOM_REQ) (r_STORE_JLOST : P.Has .STORE_JLOST) :
    forget P (vmainBounce s) = forget P s := by
  unfold vmainBounce
  try dsimp only
  (repeat' split) <;> first | with_reducible rfl | simp only [evPWR_BOUNCE_lt, modPwr_forget, raise_forget,
      satInc_forget, vmainOkFall_forget, cov_PWR_BOUNCECNT, Nat.reduceLT, ite_forget, ite_self, hev, hev.rcd,
      hev.fresh, hev.evt, h_free, h_clk, h_ops, h_can, h_tim, h_hb, h_bank, h_ax, h_fus, h_sched, h_sol, h_img, h_pwr,
      h_store, h_pair, h_lands, h_win, r_GATE_BSTUVCNT, r_GATE_FLT, r_PWR_BOUNCECNT, r_PWR_DOM_REQ, r_STORE_JLOST,
      Fin.is_lt]

theorem vbakMinLoss_forget (P : Parts) (s : State) (hev : MayRaise P) (h_free : P.free = true) (h_clk : P.clk = true)
    (h_ops : P.ops = true) (h_can : P.can = true) (h_tim : P.tim = true) (h_hb : P.hb = true) (h_bank : P.bank = true)
    (h_ax : P.ax = true) (h_fus : P.fus = true) (h_sched : P.sched = true) (h_sol : P.sol = true) (h_img : P.img =
    true) (h_pwr : P.pwr = true) (h_store : P.store = true) (h_pair : P.pair = true) (h_lands : P.lands = true) (h_win
    : P.win = true) (r_GATE_BSTUVCNT : P.Has .GATE_BSTUVCNT) (r_GATE_FLT : P.Has .GATE_FLT) (r_PROT_AXSTAT : P.Has
    .PROT_AXSTAT) (r_PWR_DOM_REQ : P.Has .PWR_DOM_REQ) (r_STORE_JLOST : P.Has .STORE_JLOST) :
    forget P (vbakMinLoss s) = forget P s := by
  unfold vbakMinLoss
  try dsimp only
  (repeat' split) <;> first | with_reducible rfl | simp only [allOff_forget, banksDown_forget, coreOff_forget,
      modPwr_forget, Nat.reduceLT, ite_forget, ite_self, hev, hev.rcd, hev.fresh, hev.evt, h_free, h_clk, h_ops,
      h_can, h_tim, h_hb, h_bank, h_ax, h_fus, h_sched, h_sol, h_img, h_pwr, h_store, h_pair, h_lands, h_win,
      r_GATE_BSTUVCNT, r_GATE_FLT, r_PROT_AXSTAT, r_PWR_DOM_REQ, r_STORE_JLOST, Fin.is_lt]

theorem keyCut_forget (P : Parts) (s : State) (h_free : P.free = true) (h_img : P.img = true) (r_IMG_KEYCHK : P.Has
    .IMG_KEYCHK) :
    forget P (State.keyCut s) = forget P s := by
  unfold State.keyCut
  try dsimp only
  (repeat' split) <;> first | with_reducible rfl | simp only [modImg_forget, took_forget, wr_forget, cov_IMG_KEYCHK,
      implies_true, Nat.reduceLT, ite_forget, ite_self, h_free, h_img, r_IMG_KEYCHK, Fin.is_lt]

theorem garble_forget (P : Parts) (s : State) (n : Nat) (h_free : P.free = true) (h_store : P.store = true) (h_mem :
    P.mem = true) :
    forget P (State.garble s n) = forget P s := by
  unfold State.garble
  try dsimp only
  (repeat' split) <;> first | with_reducible rfl | simp only [freeBytes_forget, modStore_forget_mem, Nat.reduceLT,
      ite_forget, ite_self, h_free, h_store, h_mem, Fin.is_lt]

theorem storeCut_forget (P : Parts) (s : State) (h_free : P.free = true) (h_store : P.store = true) (h_mem : P.mem =
    true) :
    forget P (State.storeCut s) = forget P s := by
  unfold State.storeCut
  try dsimp only
  (repeat' split) <;> first | with_reducible rfl | simp only [garble_forget, tear_forget, Nat.reduceLT, ite_forget,
      ite_self, h_free, h_store, h_mem, Fin.is_lt]

end Sys2Proof.Laws
end

