-- ==== Sys2Proof/Laws/FrameRam.lean ====
section
/-! SUPPORT. Sys2Proof/Laws/FrameRam.lean: which parts of the state each operation of Machine/Ram.lean may change. -/
namespace Sys2Proof.Laws
set_option Elab.async false
set_option linter.unusedSimpArgs false
open Sys2Proof.Machine Sys2Proof.Safety

theorem loseFifo_forget (P : Parts) (s : State) (h_free : P.free = true) (h_rcd : P.rcd = true) (r_REC_HOLDOVF_CNT :
    P.Has .REC_HOLDOVF_CNT) :
    forget P (State.loseFifo s) = forget P s := by
  unfold State.loseFifo
  try dsimp only
  repeat' first
    | with_reducible rfl
    | split
    | (simp only [modRcd_forget, satInc_forget, cov_REC_HOLDOVF_CNT, implies_true, Nat.reduceLT, ite_forget, ite_self,
        h_free, h_rcd, r_REC_HOLDOVF_CNT, Fin.is_lt]; done)
    | with_reducible exact pick_eq _ _ (by assumption) (by assumption)
    | with_reducible refine Eq.trans (pick_eq _ _ (by assumption) (by assumption)) ?_
    | with_reducible refine Eq.trans (each_forget P _ _ (fun s x => ?_) _) ?_
    | (simp only [modRcd_forget, satInc_forget, cov_REC_HOLDOVF_CNT, implies_true, Nat.reduceLT, ite_forget, ite_self,
        h_free, h_rcd, r_REC_HOLDOVF_CNT, Fin.is_lt])

theorem dropBurst_forget (P : Parts) (s : State) (host : Bool) (h_store : P.store = true) :
    forget P (State.dropBurst s host) = forget P s := by
  unfold State.dropBurst
  try dsimp only
  repeat' first
    | with_reducible rfl
    | split
    | (simp only [modStore_forget, implies_true, Nat.reduceLT, ite_forget, ite_self, h_store, Fin.is_lt]; done)
    | with_reducible refine Eq.trans (each_forget P _ _ (fun s x => ?_) _) ?_
    | (simp only [modStore_forget, implies_true, Nat.reduceLT, ite_forget, ite_self, h_store, Fin.is_lt])

theorem loseItem_forget (P : Parts) (s : State) (h_free : P.free = true) (h_store : P.store = true) (r_STORE_JLOST :
    P.Has .STORE_JLOST) :
    forget P (State.loseItem s) = forget P s := by
  unfold State.loseItem
  try dsimp only
  repeat' first
    | with_reducible rfl
    | split
    | (simp only [dropBurst_forget, endStage_forget, modStore_forget, satInc_forget, cov_STORE_JLOST, implies_true,
        Nat.reduceLT, ite_forget, ite_self, h_free, h_store, r_STORE_JLOST, Fin.is_lt]; done)
    | with_reducible exact pick_eq _ _ (by assumption) (by assumption)
    | with_reducible refine Eq.trans (pick_eq _ _ (by assumption) (by assumption)) ?_
    | with_reducible refine Eq.trans (each_forget P _ _ (fun s x => ?_) _) ?_
    | (simp only [dropBurst_forget, endStage_forget, modStore_forget, satInc_forget, cov_STORE_JLOST, implies_true,
        Nat.reduceLT, ite_forget, ite_self, h_free, h_store, r_STORE_JLOST, Fin.is_lt])

theorem doubleBit_forget (P : Parts) (s : State) (t inst a : Nat) (hev : MayRaise P) (h_free : P.free = true) (h_ops :
    P.ops = true) (h_tim : P.tim = true) (h_hb : P.hb = true) (h_bank : P.bank = true) (h_ax : P.ax = true) (h_sol :
    P.sol = true) (h_store : P.store = true) (h_pair : P.pair = true) (h_safe : P.safe = true) (h_recs : P.recs =
    true) (r_GATE_BSTUVCNT : P.Has .GATE_BSTUVCNT) (r_GATE_FLT : P.Has .GATE_FLT) (r_PROT_AXSTAT : P.Has .PROT_AXSTAT)
    (r_REC_HOLDOVF_CNT : P.Has .REC_HOLDOVF_CNT) (r_SAFE_CAUSE : P.Has .SAFE_CAUSE) (r_SAFE_DETAIL : P.Has
    .SAFE_DETAIL) (r_SOL_FAULTCNT : P.Has .SOL_FAULTCNT) (r_STORE_JLOST : P.Has .STORE_JLOST) :
    forget P (State.doubleBit s t inst a) = forget P s := by
  unfold State.doubleBit
  try dsimp only
  (repeat' split) <;> first | with_reducible rfl | simp only [deviceWide_forget, loseFifo_forget, loseItem_forget,
      solverFault_forget, modRcd_forget_recs, Nat.reduceLT, ite_forget, ite_self, hev, hev.rcd, hev.fresh, hev.evt,
      h_free, h_ops, h_tim, h_hb, h_bank, h_ax, h_sol, h_store, h_pair, h_safe, h_recs, r_GATE_BSTUVCNT, r_GATE_FLT,
      r_PROT_AXSTAT, r_REC_HOLDOVF_CNT, r_SAFE_CAUSE, r_SAFE_DETAIL, r_SOL_FAULTCNT, r_STORE_JLOST, Fin.is_lt]

theorem ramSec_forget (P : Parts) (t inst : Nat) (a : Word) (double : Bool) (s : State) (hev : MayRaise P) (h_free :
    P.free = true) (h_ops : P.ops = true) (h_tim : P.tim = true) (h_hb : P.hb = true) (h_bank : P.bank = true) (h_ax :
    P.ax = true) (h_sol : P.sol = true) (h_store : P.store = true) (h_pair : P.pair = true) (h_safe : P.safe = true)
    (h_recs : P.recs = true) (r_GATE_BSTUVCNT : P.Has .GATE_BSTUVCNT) (r_GATE_FLT : P.Has .GATE_FLT) (r_PROT_AXSTAT :
    P.Has .PROT_AXSTAT) (r_REC_HOLDOVF_CNT : P.Has .REC_HOLDOVF_CNT) (r_SAFE_CAUSE : P.Has .SAFE_CAUSE) (r_SAFE_DETAIL
    : P.Has .SAFE_DETAIL) (r_SAFE_RAMSEC : P.Has .SAFE_RAMSEC) (r_SOL_FAULTCNT : P.Has .SOL_FAULTCNT) (r_STORE_JLOST :
    P.Has .STORE_JLOST) :
    forget P (ramSec t inst a double s) = forget P s := by
  unfold ramSec
  try dsimp only
  (repeat' split) <;> first | with_reducible rfl | simp only [doubleBit_forget, evRAM_SEC_lt, raise_forget,
      satInc_forget, cov_SAFE_RAMSEC, Nat.reduceLT, ite_forget, ite_self, hev, hev.rcd, hev.fresh, hev.evt, h_free,
      h_ops, h_tim, h_hb, h_bank, h_ax, h_sol, h_store, h_pair, h_safe, h_recs, r_GATE_BSTUVCNT, r_GATE_FLT,
      r_PROT_AXSTAT, r_REC_HOLDOVF_CNT, r_SAFE_CAUSE, r_SAFE_DETAIL, r_SAFE_RAMSEC, r_SOL_FAULTCNT, r_STORE_JLOST,
      Fin.is_lt]

end Sys2Proof.Laws
end

