-- ==== Sys2Proof/Laws/FrameRead.lean ====
section
/-! SUPPORT. Sys2Proof/Laws/FrameRead.lean: which parts of the state each operation of Machine/Read.lean may change. -/
namespace Sys2Proof.Laws
set_option Elab.async false
set_option linter.unusedSimpArgs false
open Sys2Proof.Machine Sys2Proof.Safety

theorem readAt_forget (P : Parts) (s : State) (t a : Nat) (h_link : P.link = true) :
    forget P (State.readAt s t a).1 = forget P s := by
  unfold State.readAt
  try dsimp only
  (repeat' split) <;> first | with_reducible rfl | simp only [latchWords_forget, Nat.reduceLT, ite_forget, ite_self,
      h_link, Fin.is_lt]

theorem readAt_eq {P : Parts} (s : State) (t a : Nat) {t' : State} {v' : Word} (e : State.readAt s t a = (t', v'))
    (h_link : P.link = true) :
    forget P t' = forget P s := by
  have := readAt_forget P s t a h_link
  rwa [e] at this

theorem readAll_forget (P : Parts) (s : State) (t : Nat) (x0 : List Nat) (h_link : P.link = true) :
    forget P (State.readAll s t x0).1 = forget P s := by
  induction x0 generalizing s with
  | nil => rfl
  | cons a r ih => exact (ih (State.readAt s t a).1).trans (readAt_forget P s t a h_link)

theorem readAll_eq {P : Parts} (s : State) (t : Nat) (x0 : List Nat) {t' : State} {v' : List Word} (e : State.readAll s t x0 = (t', v')) (h_link : P.link = true) :
    forget P t' = forget P s := by
  have := readAll_forget P s t x0 h_link
  rwa [e] at this

end Sys2Proof.Laws
end

