-- ==== Sys2Proof/Laws/FrameWrite.lean ====
section
/-! SUPPORT. Sys2Proof/Laws/FrameWrite.lean: which parts of the state each operation of Machine/Write.lean may change. -/
namespace Sys2Proof.Laws
set_option Elab.async false
set_option linter.unusedSimpArgs false
open Sys2Proof.Machine Sys2Proof.Safety

theorem commit2_forget (P : Parts) (s : State) (t a : Nat) (d : Word) (hev : MayRaise P) (h_tim : P.tim = true) (h_hb
    : P.hb = true) (h_all : ∀ b, b ∈ P.blks) :
    forget P (State.commit2 s t a d) = forget P s := by
  unfold State.commit2
  try dsimp only
  (repeat' split) <;> first | with_reducible rfl | simp only [storeWord_forget, covers_all h_all, has_all h_all,
      Nat.reduceLT, ite_forget, ite_self, hev, hev.rcd, hev.fresh, hev.evt, h_tim, h_hb, h_all, Fin.is_lt]

theorem bounded_forget (P : Parts) (s : State) (a : Nat) (fs : List Fld) (d : Word) (f : Word → State → State)
    (hev : MayRaise P) (r_IMG_LIMLAST : P.Has .IMG_LIMLAST) (r_IMG_LIMSAT : P.Has .IMG_LIMSAT)
    (hf : ∀ v s, forget P (f v s) = forget P s) : forget P (s.bounded a fs d f) = forget P s := by
  unfold State.bounded
  dsimp only
  rw [reportSat_forget P _ _ _ _ hev r_IMG_LIMLAST r_IMG_LIMSAT, hf]

theorem winWrite_forget (P : Parts) (n : Nat) (d : Word) (s : State) (h_img : P.img = true) (h_win : P.win = true) :
    forget P (winWrite n d s) = forget P s := by
  unfold winWrite
  try dsimp only
  (repeat' split) <;> first | with_reducible rfl | simp only [modImg_forget_win, Nat.reduceLT, ite_forget, ite_self,
      h_img, h_win, Fin.is_lt]

theorem runWord_forget (P : Parts) (t : Nat) (hi : Bool) (d : Word) (s : State) (h_tim : P.tim = true) (r_PWM_RUN_HI :
    P.Has .PWM_RUN_HI) (r_PWM_RUN_LO : P.Has .PWM_RUN_LO) :
    forget P (runWord t hi d s) = forget P s := by
  unfold runWord
  try dsimp only
  repeat' first
    | with_reducible rfl
    | split
    | (simp only [setRun_forget, Nat.reduceLT, ite_forget, ite_self, h_tim, r_PWM_RUN_HI, r_PWM_RUN_LO, Fin.is_lt];
        done)
    | with_reducible refine Eq.trans (each_forget P _ _ (fun s x => ?_) _) ?_
    | (simp only [setRun_forget, Nat.reduceLT, ite_forget, ite_self, h_tim, r_PWM_RUN_HI, r_PWM_RUN_LO, Fin.is_lt])

theorem gateFltClear_forget (P : Parts) (t : Nat) (h : Fin 72) (d : Word) (s : State) (hev : MayRaise P) (h_tim :
    P.tim = true) (h_hb : P.hb = true) (h_bank : P.bank = true) (h_ax : P.ax = true) (r_GATE_BSTUVCNT : P.Has
    .GATE_BSTUVCNT) (r_GATE_FLT : P.Has .GATE_FLT) :
    forget P (gateFltClear t h d s) = forget P s := by
  unfold gateFltClear
  try dsimp only
  (repeat' split) <;> first | with_reducible rfl | simp only [clrFlags_forget, releaseFaults_forget, w1c_forget,
      cov_GATE_FLT, Nat.reduceLT, ite_forget, ite_self, hev, hev.rcd, hev.fresh, hev.evt, h_tim, h_hb, h_bank, h_ax,
      r_GATE_BSTUVCNT, r_GATE_FLT, Fin.is_lt]

theorem ampWrite_forget (P : Parts) (t a : Nat) (h : Fin 72) (d : Word) (s : State) (hev : MayRaise P) (h_tim : P.tim
    = true) (h_hb : P.hb = true) (h_all : ∀ b, b ∈ P.blks) :
    forget P (ampWrite t a h d s) = forget P s := by
  unfold ampWrite
  try dsimp only
  (repeat' split) <;> first | with_reducible rfl | simp only [modHb_forget, storeWord_forget, covers_all h_all,
      has_all h_all, Nat.reduceLT, ite_forget, ite_self, hev, hev.rcd, hev.fresh, hev.evt, h_tim, h_hb, h_all,
      Fin.is_lt]

theorem axCmd_forget (P : Parts) (x : Fin 24) (d : Word) (s : State) (hev : MayRaise P) (h_ops : P.ops = true) (h_ax :
    P.ax = true) (r_AX_STARTS : P.Has .AX_STARTS) (r_AX_TARGET : P.Has .AX_TARGET) :
    forget P (axCmd x d s) = forget P s := by
  unfold axCmd
  try dsimp only
  (repeat' split) <;> first | with_reducible rfl | simp only [axisCoast_forget, axisStart_forget, axisStop_forget,
      stallClear_forget, Nat.reduceLT, ite_forget, ite_self, hev, hev.rcd, hev.fresh, hev.evt, h_ops, h_ax,
      r_AX_STARTS, r_AX_TARGET, Fin.is_lt]

theorem armWrite_forget (P : Parts) (t : Nat) (b : Fin 8) (d : Word) (s : State) (hev : MayRaise P) (h_free : P.free =
    true) (h_ops : P.ops = true) (h_tim : P.tim = true) (h_hb : P.hb = true) (h_bank : P.bank = true) (h_ax : P.ax =
    true) (r_GATE_BSTUVCNT : P.Has .GATE_BSTUVCNT) (r_GATE_FLT : P.Has .GATE_FLT) :
    forget P (armWrite t b d s) = forget P s := by
  unfold armWrite
  try dsimp only
  (repeat' split) <;> first | with_reducible rfl | simp only [armComplete_forget, armPrepare_forget,
      hostDisarm_forget, Nat.reduceLT, ite_forget, ite_self, hev, hev.rcd, hev.fresh, hev.evt, h_free, h_ops, h_tim,
      h_hb, h_bank, h_ax, r_GATE_BSTUVCNT, r_GATE_FLT, Fin.is_lt]

theorem solClr_forget (P : Parts) (r : Nat) (d : Word) (s : State) (h_sol : P.sol = true) (r_SOL_CNT : P.Has .SOL_CNT)
    :
    forget P (solClr r d s) = forget P s := by
  unfold solClr
  try dsimp only
  (repeat' split) <;> first | with_reducible rfl | simp only [solClrCounters_forget, solClrWindow_forget,
      Nat.reduceLT, ite_forget, ite_self, h_sol, r_SOL_CNT, Fin.is_lt]

theorem writeBlock_forget (P : Parts) (s : State) (t a : Nat) (d : Word) (r : Reg) (ix : List Nat) (hev : MayRaise P)
    (h_free : P.free = true) (h_ops : P.ops = true) (h_can : P.can = true) (h_tim : P.tim = true) (h_hb : P.hb = true)
    (h_bank : P.bank = true) (h_ax : P.ax = true) (h_fus : P.fus = true) (h_sched : P.sched = true) (h_sol : P.sol =
    true) (h_pair : P.pair = true) (h_all : ∀ b, b ∈ P.blks) :
    forget P (State.writeBlock s t a d r ix) = forget P s := by
  unfold State.writeBlock
  try dsimp only
  (repeat' split) <;> first | with_reducible rfl | simp only [ampWrite_forget, armWrite_forget, axCmd_forget,
      canTxabort_forget, canTxreq_forget, clearLock_forget, clearQueue_forget, gateFltClear_forget,
      gsupFltClear_forget, handover_forget, hostInject_forget, protBfltClear_forget, protChfltClear_forget,
      schCancel_forget, schSect_forget, scheduleInsert_forget, solClr_forget, storeWord_forget, implies_true,
      covers_all h_all, has_all h_all, Nat.reduceLT, ite_forget, ite_self, hev, hev.rcd, hev.fresh, hev.evt, h_free,
      h_ops, h_can, h_tim, h_hb, h_bank, h_ax, h_fus, h_sched, h_sol, h_pair, h_all, Fin.is_lt]

theorem afterStore_forget (P : Parts) (s : State) (a : Nat) (r : Reg) (ix : List Nat) (before : Word) (hev : MayRaise
    P) (h_can : P.can = true) (h_ax : P.ax = true) (h_fus : P.fus = true) (h_sol : P.sol = true) (h_pair : P.pair =
    true) (r_AX_HALL : P.Has .AX_HALL) :
    forget P (State.afterStore s a r ix before) = forget P s := by
  unfold State.afterStore
  try dsimp only
  (repeat' split) <;> first | with_reducible rfl | simp only [canSettings_forget, hallConfig_forget, linkJudge_forget,
      setEpoch_forget, setFall_forget, Nat.reduceLT, ite_forget, ite_self, hev, hev.rcd, hev.fresh, hev.evt, h_can,
      h_ax, h_fus, h_sol, h_pair, r_AX_HALL, Fin.is_lt]

theorem jlostWrite_forget (P : Parts) (t : Nat) (d : Word) (s : State) (hev : MayRaise P) (h_tim : P.tim = true) (h_hb
    : P.hb = true) (h_store : P.store = true) (h_all : ∀ b, b ∈ P.blks) :
    forget P (jlostWrite t d s) = forget P s := by
  unfold jlostWrite
  try dsimp only
  (repeat' split) <;> first | with_reducible rfl | simp only [modStore_forget, storeWord_forget, implies_true,
      covers_all h_all, has_all h_all, Nat.reduceLT, ite_forget, ite_self, hev, hev.rcd, hev.fresh, hev.evt, h_tim,
      h_hb, h_store, h_all, Fin.is_lt]

theorem recCtl_forget (P : Parts) (d : Word) (s : State) (hrec : MayRecord P) (h_rcd : P.rcd = true) :
    forget P (recCtl d s) = forget P s := by
  unfold recCtl
  try dsimp only
  (repeat' split) <;> first | with_reducible rfl | simp only [recFreeze_forget, thaw_forget, Nat.reduceLT, ite_forget,
      ite_self, hrec, hrec.queue.raises, hrec.queue, hrec.recs, h_rcd, Fin.is_lt]

theorem writeCore_forget (P : Parts) (s : State) (t a : Nat) (d : Word) (r : Reg) (ix : List Nat) (fs : List Fld)
    (hrec : MayRecord P) (hev : MayRaise P) (h_free : P.free = true) (h_clk : P.clk = true) (h_ops : P.ops = true)
    (h_can : P.can = true) (h_tim : P.tim = true) (h_hb : P.hb = true) (h_bank : P.bank = true) (h_ax : P.ax = true)
    (h_fus : P.fus = true) (h_sched : P.sched = true) (h_sol : P.sol = true) (h_img : P.img = true) (h_pwr : P.pwr =
    true) (h_store : P.store = true) (h_pair : P.pair = true) (h_safe : P.safe = true) (h_win : P.win = true) (h_all :
    ∀ b, b ∈ P.blks) :
    forget P (State.writeCore s t a d r ix fs) = forget P s := by
  unfold State.writeCore
  try dsimp only
  have hev := hrec.queue.raises
  repeat' first
    | with_reducible rfl
    | split
    | (simp only [chargerNow_forget, commit2_forget, doorbell_forget, evtStatClear_forget, hostMark_forget,
        imgKeydataWrite_forget, jlostWrite_forget, keyCmd_forget, loadAll_forget, loadStage_forget, opAbort_forget,
        opRelease_forget, recClr_forget, recCtl_forget, relock_forget, runWord_forget, safeClr_forget,
        safePlfltClear_forget, safeWdcfg_forget, storeRead_forget, storeWord_forget, storeWrite_forget,
        tickRestore_forget, timeApply_forget, watchdogKick_forget, winWrite_forget, writeDomReq_forget, implies_true,
        covers_all h_all, has_all h_all, Nat.reduceLT, ite_forget, ite_self, hrec, hrec.queue.raises, hrec.queue,
        hrec.recs, hev, hev.rcd, hev.fresh, hev.evt, h_free, h_clk, h_ops, h_can, h_tim, h_hb, h_bank, h_ax, h_fus,
        h_sched, h_sol, h_img, h_pwr, h_store, h_pair, h_safe, h_win, h_all, Fin.is_lt]; done)
    | with_reducible refine Eq.trans (bounded_forget P _ _ _ _ _ hev (has_all h_all _) (has_all h_all _)
        (fun s x => ?_)) ?_
    | with_reducible refine Eq.trans (each_forget P _ _ (fun s x => ?_) _) ?_
    | (simp only [chargerNow_forget, commit2_forget, doorbell_forget, evtStatClear_forget, hostMark_forget,
        imgKeydataWrite_forget, jlostWrite_forget, keyCmd_forget, loadAll_forget, loadStage_forget, opAbort_forget,
        opRelease_forget, recClr_forget, recCtl_forget, relock_forget, runWord_forget, safeClr_forget,
        safePlfltClear_forget, safeWdcfg_forget, storeRead_forget, storeWord_forget, storeWrite_forget,
        tickRestore_forget, timeApply_forget, watchdogKick_forget, winWrite_forget, writeDomReq_forget, implies_true,
        covers_all h_all, has_all h_all, Nat.reduceLT, ite_forget, ite_self, hrec, hrec.queue.raises, hrec.queue,
        hrec.recs, hev, hev.rcd, hev.fresh, hev.evt, h_free, h_clk, h_ops, h_can, h_tim, h_hb, h_bank, h_ax, h_fus,
        h_sched, h_sol, h_img, h_pwr, h_store, h_pair, h_safe, h_win, h_all, Fin.is_lt])

theorem writeLegal_forget (P : Parts) (s : State) (t a : Nat) (d : Word) (hrec : MayRecord P) (hev : MayRaise P)
    (h_free : P.free = true) (h_clk : P.clk = true) (h_link : P.link = true) (h_ops : P.ops = true) (h_can : P.can =
    true) (h_tim : P.tim = true) (h_hb : P.hb = true) (h_bank : P.bank = true) (h_ax : P.ax = true) (h_fus : P.fus =
    true) (h_sched : P.sched = true) (h_sol : P.sol = true) (h_img : P.img = true) (h_pwr : P.pwr = true) (h_store :
    P.store = true) (h_pair : P.pair = true) (h_safe : P.safe = true) (h_win : P.win = true) (h_all : ∀ b, b ∈ P.blks)
    :
    forget P (State.writeLegal s t a d) = forget P s := by
  unfold State.writeLegal
  try dsimp only
  have hev := hrec.queue.raises
  repeat' first
    | with_reducible rfl
    | split
    | (simp only [afterStore_forget, commit2_forget, setStaged_forget, writeBlock_forget, writeCore_forget,
        implies_true, has_all h_all, Nat.reduceLT, ite_forget, ite_self, hrec, hrec.queue.raises, hrec.queue,
        hrec.recs, hev, hev.rcd, hev.fresh, hev.evt, h_free, h_clk, h_link, h_ops, h_can, h_tim, h_hb, h_bank, h_ax,
        h_fus, h_sched, h_sol, h_img, h_pwr, h_store, h_pair, h_safe, h_win, h_all, Fin.is_lt]; done)
    | with_reducible refine Eq.trans (bounded_forget P _ _ _ _ _ hev (has_all h_all _) (has_all h_all _)
        (fun s x => ?_)) ?_
    | with_reducible refine Eq.trans (each_forget P _ _ (fun s x => ?_) _) ?_
    | (simp only [afterStore_forget, commit2_forget, setStaged_forget, writeBlock_forget, writeCore_forget,
        implies_true, has_all h_all, Nat.reduceLT, ite_forget, ite_self, hrec, hrec.queue.raises, hrec.queue,
        hrec.recs, hev, hev.rcd, hev.fresh, hev.evt, h_free, h_clk, h_link, h_ops, h_can, h_tim, h_hb, h_bank, h_ax,
        h_fus, h_sched, h_sol, h_img, h_pwr, h_store, h_pair, h_safe, h_win, h_all, Fin.is_lt])

theorem hostErr_forget (P : Parts) (s : State) (t a : Nat) (hrec : MayRecord P) (h_free : P.free = true) (h_clk :
    P.clk = true) (h_link : P.link = true) (h_ops : P.ops = true) (h_can : P.can = true) (h_tim : P.tim = true) (h_hb
    : P.hb = true) (h_bank : P.bank = true) (h_ax : P.ax = true) (h_fus : P.fus = true) (h_sched : P.sched = true)
    (h_sol : P.sol = true) (h_img : P.img = true) (h_pwr : P.pwr = true) (h_store : P.store = true) (h_pair : P.pair =
    true) (h_safe : P.safe = true) (h_win : P.win = true) (h_all : ∀ b, b ∈ P.blks) :
    forget P (State.hostErr s t a) = forget P s := by
  unfold State.hostErr
  try dsimp only
  repeat' first
    | with_reducible rfl
    | split
    | (simp only [took_forget, writeLegal_forget, implies_true, Nat.reduceLT, ite_forget, ite_self, hrec,
        hrec.queue.raises, hrec.queue, hrec.recs, h_free, h_clk, h_link, h_ops, h_can, h_tim, h_hb, h_bank, h_ax,
        h_fus, h_sched, h_sol, h_img, h_pwr, h_store, h_pair, h_safe, h_win, h_all, Fin.is_lt]; done)
    | with_reducible refine Eq.trans (each_forget P _ _ (fun s x => ?_) _) ?_
    | (simp only [took_forget, writeLegal_forget, implies_true, Nat.reduceLT, ite_forget, ite_self, hrec,
        hrec.queue.raises, hrec.queue, hrec.recs, h_free, h_clk, h_link, h_ops, h_can, h_tim, h_hb, h_bank, h_ax,
        h_fus, h_sched, h_sol, h_img, h_pwr, h_store, h_pair, h_safe, h_win, h_all, Fin.is_lt])

theorem cancelArm_forget (P : Parts) (s : State) (a : Nat) (h_bank : P.bank = true) :
    forget P (State.cancelArm s a) = forget P s := by
  unfold State.cancelArm
  try dsimp only
  (repeat' split) <;> first | with_reducible rfl | simp only [modBank_forget, Nat.reduceLT, ite_forget, ite_self,
      h_bank, Fin.is_lt]

theorem ampClash_forget (P : Parts) (t a : Nat) (d : Word) (s : State) (hrec : MayRecord P) (h_free : P.free = true)
    (h_clk : P.clk = true) (h_link : P.link = true) (h_ops : P.ops = true) (h_can : P.can = true) (h_tim : P.tim =
    true) (h_hb : P.hb = true) (h_bank : P.bank = true) (h_ax : P.ax = true) (h_fus : P.fus = true) (h_sched : P.sched
    = true) (h_sol : P.sol = true) (h_img : P.img = true) (h_pwr : P.pwr = true) (h_store : P.store = true) (h_pair :
    P.pair = true) (h_safe : P.safe = true) (h_win : P.win = true) (h_all : ∀ b, b ∈ P.blks) :
    forget P (ampClash t a d s) = forget P s := by
  unfold ampClash
  try dsimp only
  repeat' first
    | with_reducible rfl
    | split
    | (simp only [hostErr_forget, storeWord_forget, covers_all h_all, has_all h_all, implies_true, Nat.reduceLT,
        ite_forget, ite_self, hrec, hrec.queue.raises, hrec.queue, hrec.recs, h_free, h_clk, h_link, h_ops, h_can,
        h_tim, h_hb, h_bank, h_ax, h_fus, h_sched, h_sol, h_img, h_pwr, h_store, h_pair, h_safe, h_win, h_all,
        Fin.is_lt]; done)
    | with_reducible refine Eq.trans (each_forget P _ _ (fun s x => ?_) _) ?_
    | (simp only [hostErr_forget, storeWord_forget, covers_all h_all, has_all h_all, implies_true, Nat.reduceLT,
        ite_forget, ite_self, hrec, hrec.queue.raises, hrec.queue, hrec.recs, h_free, h_clk, h_link, h_ops, h_can,
        h_tim, h_hb, h_bank, h_ax, h_fus, h_sched, h_sol, h_img, h_pwr, h_store, h_pair, h_safe, h_win, h_all,
        Fin.is_lt])

theorem ampLate_forget (P : Parts) (t a : Nat) (d : Word) (s : State) (hev : MayRaise P) (h_tim : P.tim = true) (h_hb
    : P.hb = true) (h_all : ∀ b, b ∈ P.blks) :
    forget P (ampLate t a d s) = forget P s := by
  unfold ampLate
  try dsimp only
  (repeat' split) <;> first | with_reducible rfl | simp only [ampWrite_forget, implies_true, Nat.reduceLT, ite_forget,
      ite_self, hev, hev.rcd, hev.fresh, hev.evt, h_tim, h_hb, h_all, Fin.is_lt]

theorem writeWord_forget (P : Parts) (s : State) (t a : Nat) (d : Word) (hrec : MayRecord P) (h_free : P.free = true)
    (h_clk : P.clk = true) (h_link : P.link = true) (h_ops : P.ops = true) (h_can : P.can = true) (h_tim : P.tim =
    true) (h_hb : P.hb = true) (h_bank : P.bank = true) (h_ax : P.ax = true) (h_fus : P.fus = true) (h_sched : P.sched
    = true) (h_sol : P.sol = true) (h_img : P.img = true) (h_pwr : P.pwr = true) (h_store : P.store = true) (h_pair :
    P.pair = true) (h_safe : P.safe = true) (h_win : P.win = true) (h_all : ∀ b, b ∈ P.blks) :
    forget P (State.writeWord s t a d) = forget P s := by
  unfold State.writeWord
  try dsimp only
  (repeat' split) <;> first | with_reducible rfl | simp only [ampClash_forget, ampLate_forget, cancelArm_forget,
      hostErr_forget, writeLegal_forget, implies_true, Nat.reduceLT, ite_forget, ite_self, hrec, hrec.queue.raises,
      hrec.queue, hrec.recs, h_free, h_clk, h_link, h_ops, h_can, h_tim, h_hb, h_bank, h_ax, h_fus, h_sched, h_sol,
      h_img, h_pwr, h_store, h_pair, h_safe, h_win, h_all, Fin.is_lt]

theorem writeWordsAfter_forget (P : Parts) (t : Nat) (l : List (Nat × Word)) (hrec : MayRecord P) (h_free : P.free = true)
    (h_clk : P.clk = true) (h_link : P.link = true) (h_ops : P.ops = true) (h_can : P.can = true) (h_tim : P.tim =
    true) (h_hb : P.hb = true) (h_bank : P.bank = true) (h_ax : P.ax = true) (h_fus : P.fus = true) (h_sched : P.sched
    = true) (h_sol : P.sol = true) (h_img : P.img = true) (h_pwr : P.pwr = true) (h_store : P.store = true) (h_pair :
    P.pair = true) (h_safe : P.safe = true) (h_win : P.win = true) (h_all : ∀ b, b ∈ P.blks) :
    ∀ (s : State) (before : List Nat), forget P (s.writeWordsAfter t before l) = forget P s := by
  induction l with
  | nil => intro s before; rfl
  | cons p rest ih =>
    intro s before
    rw [State.writeWordsAfter, ih]
    split
    · exact hostErr_forget P s t p.1 hrec h_free h_clk h_link h_ops h_can h_tim h_hb h_bank h_ax h_fus h_sched h_sol h_img h_pwr h_store h_pair h_safe h_win h_all
    · exact writeWord_forget P s t p.1 p.2
        hrec h_free h_clk h_link h_ops h_can h_tim h_hb h_bank h_ax h_fus h_sched h_sol h_img h_pwr h_store h_pair h_safe h_win h_all

theorem writeWords_forget (P : Parts) (s : State) (t : Nat) (l : List (Nat × Word)) (hrec : MayRecord P) (h_free : P.free = true)
    (h_clk : P.clk = true) (h_link : P.link = true) (h_ops : P.ops = true) (h_can : P.can = true) (h_tim : P.tim =
    true) (h_hb : P.hb = true) (h_bank : P.bank = true) (h_ax : P.ax = true) (h_fus : P.fus = true) (h_sched : P.sched
    = true) (h_sol : P.sol = true) (h_img : P.img = true) (h_pwr : P.pwr = true) (h_store : P.store = true) (h_pair :
    P.pair = true) (h_safe : P.safe = true) (h_win : P.win = true) (h_all : ∀ b, b ∈ P.blks) :
    forget P (s.writeWords t l) = forget P s :=
  writeWordsAfter_forget P t l hrec h_free h_clk h_link h_ops h_can h_tim h_hb h_bank h_ax h_fus h_sched h_sol h_img h_pwr h_store h_pair h_safe h_win h_all s []

end Sys2Proof.Laws
end

