-- ==== Sys2Proof/Laws/FrameHost.lean ====
section
/-! SUPPORT. Sys2Proof/Laws/FrameHost.lean: which parts of the state each operation of Machine/Host.lean may change. -/
namespace Sys2Proof.Laws
set_option Elab.async false
set_option linter.unusedSimpArgs false
open Sys2Proof.Machine Sys2Proof.Safety

theorem setMiso_forget (P : Parts) (s : State) (l : List Word) (h_link : P.link = true) :
    forget P (State.setMiso s l) = forget P s := by
  unfold State.setMiso
  try dsimp only
  (repeat' split) <;> first | with_reducible rfl | simp only [modLink_forget, Nat.reduceLT, ite_forget, ite_self,
      h_link, Fin.is_lt]

theorem freeWords_forget (P : Parts) (s : State) (n : Nat) (h_free : P.free = true) :
    forget P (State.freeWords s n).1 = forget P s := by
  unfold State.freeWords
  try dsimp only
  (repeat' split) <;> first | with_reducible rfl | simp only [setFree_forget, Nat.reduceLT, ite_forget, ite_self,
      h_free, Fin.is_lt]

theorem freeWords_eq {P : Parts} (s : State) (n : Nat) {t' : State} {v' : List Word} (e : State.freeWords s n = (t',
    v')) (h_free : P.free = true) :
    forget P t' = forget P s := by
  have := freeWords_forget P s n h_free
  rwa [e] at this

theorem nopFrame_forget (P : Parts) (hdr : Word) (s : State) (hrec : MayRecord P) (h_free : P.free = true) (h_clk :
    P.clk = true) (h_link : P.link = true) (h_ops : P.ops = true) (h_can : P.can = true) (h_tim : P.tim = true) (h_hb
    : P.hb = true) (h_bank : P.bank = true) (h_ax : P.ax = true) (h_fus : P.fus = true) (h_sched : P.sched = true)
    (h_sol : P.sol = true) (h_img : P.img = true) (h_pwr : P.pwr = true) (h_store : P.store = true) (h_pair : P.pair =
    true) (h_safe : P.safe = true) (h_win : P.win = true) (h_all : ∀ b, b ∈ P.blks) :
    forget P (nopFrame hdr s) = forget P s := by
  unfold nopFrame
  try dsimp only
  (repeat' split) <;> first | with_reducible rfl | simp only [hostErr_forget, setMiso_forget, implies_true,
      Nat.reduceLT, ite_forget, ite_self, hrec, hrec.queue.raises, hrec.queue, hrec.recs, h_free, h_clk, h_link,
      h_ops, h_can, h_tim, h_hb, h_bank, h_ax, h_fus, h_sched, h_sol, h_img, h_pwr, h_store, h_pair, h_safe, h_win,
      h_all, Fin.is_lt]

theorem readFrame_forget (P : Parts) (fixed : Bool) (hdr addr : Word) (words : Nat) (s : State) (hrec : MayRecord P)
    (h_free : P.free = true) (h_clk : P.clk = true) (h_link : P.link = true) (h_ops : P.ops = true) (h_can : P.can =
    true) (h_tim : P.tim = true) (h_hb : P.hb = true) (h_bank : P.bank = true) (h_ax : P.ax = true) (h_fus : P.fus =
    true) (h_sched : P.sched = true) (h_sol : P.sol = true) (h_img : P.img = true) (h_pwr : P.pwr = true) (h_store :
    P.store = true) (h_pair : P.pair = true) (h_safe : P.safe = true) (h_win : P.win = true) (h_all : ∀ b, b ∈ P.blks)
    :
    forget P (readFrame fixed hdr addr words s) = forget P s := by
  unfold readFrame
  try dsimp only
  (repeat' split) <;> first | with_reducible rfl | simp only [freeWords_forget, hostErr_forget, readAll_forget,
      setMiso_forget, took_forget, implies_true, Nat.reduceLT, ite_forget, ite_self, hrec, hrec.queue.raises,
      hrec.queue, hrec.recs, h_free, h_clk, h_link, h_ops, h_can, h_tim, h_hb, h_bank, h_ax, h_fus, h_sched, h_sol,
      h_img, h_pwr, h_store, h_pair, h_safe, h_win, h_all, Fin.is_lt]

theorem discard_forget (P : Parts) (s : State) (cause : Nat) (hev : MayRaise P) (r_HOST_CRCCNT : P.Has .HOST_CRCCNT)
    (r_HOST_ERR : P.Has .HOST_ERR) :
    forget P (State.discard s cause) = forget P s := by
  unfold State.discard
  try dsimp only
  (repeat' split) <;> first | with_reducible rfl | simp only [evHOST_CRC_lt, raise_forget, satInc_forget,
      setFlags_forget, cov_HOST_CRCCNT, cov_HOST_ERR, Nat.reduceLT, ite_forget, ite_self, hev, hev.rcd, hev.fresh,
      hev.evt, r_HOST_CRCCNT, r_HOST_ERR, Fin.is_lt]

theorem accept_forget (P : Parts) (s : State) (t : Nat) (fixed : Bool) (hdr addr : Word) (ws : List Word) (hrec :
    MayRecord P) (h_free : P.free = true) (h_clk : P.clk = true) (h_link : P.link = true) (h_ops : P.ops = true)
    (h_can : P.can = true) (h_tim : P.tim = true) (h_hb : P.hb = true) (h_bank : P.bank = true) (h_ax : P.ax = true)
    (h_fus : P.fus = true) (h_sched : P.sched = true) (h_sol : P.sol = true) (h_img : P.img = true) (h_pwr : P.pwr =
    true) (h_store : P.store = true) (h_pair : P.pair = true) (h_safe : P.safe = true) (h_lands : P.lands = true)
    (h_win : P.win = true) (h_all : ∀ b, b ∈ P.blks) :
    forget P (State.accept s t fixed hdr addr ws) = forget P s := by
  unfold State.accept
  try dsimp only
  (repeat' split) <;> first | with_reducible rfl | simp only [hostErr_forget, softwareReset_forget, wrapInc_forget,
      writeWords_forget, implies_true, covers_all h_all, has_all h_all, Nat.reduceLT, ite_forget, ite_self, hrec,
      hrec.queue.raises, hrec.queue, hrec.recs, h_free, h_clk, h_link, h_ops, h_can, h_tim, h_hb, h_bank, h_ax, h_fus,
      h_sched, h_sol, h_img, h_pwr, h_store, h_pair, h_safe, h_lands, h_win, h_all, Fin.is_lt]

theorem writeFrame_forget (P : Parts) (t : Nat) (fixed : Bool) (hdr addr : Word) (body : List Word) (s : State) (hrec
    : MayRecord P) (h_free : P.free = true) (h_clk : P.clk = true) (h_link : P.link = true) (h_ops : P.ops = true)
    (h_can : P.can = true) (h_tim : P.tim = true) (h_hb : P.hb = true) (h_bank : P.bank = true) (h_ax : P.ax = true)
    (h_fus : P.fus = true) (h_sched : P.sched = true) (h_sol : P.sol = true) (h_img : P.img = true) (h_pwr : P.pwr =
    true) (h_store : P.store = true) (h_pair : P.pair = true) (h_safe : P.safe = true) (h_lands : P.lands = true)
    (h_win : P.win = true) (h_all : ∀ b, b ∈ P.blks) :
    forget P (writeFrame t fixed hdr addr body s) = forget P s := by
  unfold writeFrame
  try dsimp only
  (repeat' split) <;> first | with_reducible rfl | simp only [accept_forget, discard_forget, hostErr_forget,
      setMiso_forget, implies_true, has_all h_all, Nat.reduceLT, ite_forget, ite_self, hrec, hrec.queue.raises,
      hrec.queue, hrec.recs, h_free, h_clk, h_link, h_ops, h_can, h_tim, h_hb, h_bank, h_ax, h_fus, h_sched, h_sol,
      h_img, h_pwr, h_store, h_pair, h_safe, h_lands, h_win, h_all, Fin.is_lt]

theorem spiFrame_forget (P : Parts) (t : Nat) (hdr addr : Word) (body : List Word) (words : Nat) (s : State) (hrec :
    MayRecord P) (h_free : P.free = true) (h_clk : P.clk = true) (h_link : P.link = true) (h_ops : P.ops = true)
    (h_can : P.can = true) (h_tim : P.tim = true) (h_hb : P.hb = true) (h_bank : P.bank = true) (h_ax : P.ax = true)
    (h_fus : P.fus = true) (h_sched : P.sched = true) (h_sol : P.sol = true) (h_img : P.img = true) (h_pwr : P.pwr =
    true) (h_store : P.store = true) (h_pair : P.pair = true) (h_safe : P.safe = true) (h_lands : P.lands = true)
    (h_win : P.win = true) (h_all : ∀ b, b ∈ P.blks) :
    forget P (spiFrame t hdr addr body words s) = forget P s := by
  unfold spiFrame
  try dsimp only
  (repeat' split) <;> first | with_reducible rfl | simp only [nopFrame_forget, readFrame_forget, writeFrame_forget,
      implies_true, Nat.reduceLT, ite_forget, ite_self, hrec, hrec.queue.raises, hrec.queue, hrec.recs, h_free, h_clk,
      h_link, h_ops, h_can, h_tim, h_hb, h_bank, h_ax, h_fus, h_sched, h_sol, h_img, h_pwr, h_store, h_pair, h_safe,
      h_lands, h_win, h_all, Fin.is_lt]

theorem hostWordAt_forget (P : Parts) (s : State) (t a : Nat) (d : Word) (hrec : MayRecord P) (h_free : P.free = true)
    (h_clk : P.clk = true) (h_link : P.link = true) (h_ops : P.ops = true) (h_can : P.can = true) (h_tim : P.tim =
    true) (h_hb : P.hb = true) (h_bank : P.bank = true) (h_ax : P.ax = true) (h_fus : P.fus = true) (h_sched : P.sched
    = true) (h_sol : P.sol = true) (h_img : P.img = true) (h_pwr : P.pwr = true) (h_store : P.store = true) (h_pair :
    P.pair = true) (h_safe : P.safe = true) (h_win : P.win = true) (h_all : ∀ b, b ∈ P.blks) :
    forget P (State.hostWordAt s t a d) = forget P s := by
  unfold State.hostWordAt State.whenHost
  try dsimp only
  (repeat' split) <;> first | with_reducible rfl | simp only [writeWord_forget, implies_true, Nat.reduceLT,
      ite_forget, ite_self, hrec, hrec.queue.raises, hrec.queue, hrec.recs, h_free, h_clk, h_link, h_ops, h_can,
      h_tim, h_hb, h_bank, h_ax, h_fus, h_sched, h_sol, h_img, h_pwr, h_store, h_pair, h_safe, h_win, h_all,
      Fin.is_lt]

theorem hostWord_forget (P : Parts) (s : State) (a : Nat) (d : Word) (hrec : MayRecord P) (h_free : P.free = true)
    (h_clk : P.clk = true) (h_link : P.link = true) (h_ops : P.ops = true) (h_can : P.can = true) (h_tim : P.tim =
    true) (h_hb : P.hb = true) (h_bank : P.bank = true) (h_ax : P.ax = true) (h_fus : P.fus = true) (h_sched : P.sched
    = true) (h_sol : P.sol = true) (h_img : P.img = true) (h_pwr : P.pwr = true) (h_store : P.store = true) (h_pair :
    P.pair = true) (h_safe : P.safe = true) (h_win : P.win = true) (h_all : ∀ b, b ∈ P.blks) :
    forget P (State.hostWord s a d) = forget P s := by
  unfold State.hostWord
  try dsimp only
  (repeat' split) <;> first | with_reducible rfl | simp only [hostWordAt_forget, implies_true, Nat.reduceLT,
      ite_forget, ite_self, hrec, hrec.queue.raises, hrec.queue, hrec.recs, h_free, h_clk, h_link, h_ops, h_can,
      h_tim, h_hb, h_bank, h_ax, h_fus, h_sched, h_sol, h_img, h_pwr, h_store, h_pair, h_safe, h_win, h_all,
      Fin.is_lt]

theorem ring_forget (P : Parts) (s : State) (op : Nat) (hrec : MayRecord P) (h_free : P.free = true) (h_clk : P.clk =
    true) (h_link : P.link = true) (h_ops : P.ops = true) (h_can : P.can = true) (h_tim : P.tim = true) (h_hb : P.hb =
    true) (h_bank : P.bank = true) (h_ax : P.ax = true) (h_fus : P.fus = true) (h_sched : P.sched = true) (h_sol :
    P.sol = true) (h_img : P.img = true) (h_pwr : P.pwr = true) (h_store : P.store = true) (h_pair : P.pair = true)
    (h_safe : P.safe = true) (h_win : P.win = true) (h_all : ∀ b, b ∈ P.blks) :
    forget P (State.ring s op) = forget P s := by
  unfold State.ring
  try dsimp only
  (repeat' split) <;> first | with_reducible rfl | simp only [hostWord_forget, implies_true, Nat.reduceLT, ite_forget,
      ite_self, hrec, hrec.queue.raises, hrec.queue, hrec.recs, h_free, h_clk, h_link, h_ops, h_can, h_tim, h_hb,
      h_bank, h_ax, h_fus, h_sched, h_sol, h_img, h_pwr, h_store, h_pair, h_safe, h_win, h_all, Fin.is_lt]

end Sys2Proof.Laws
end

