-- ==== Sys2Proof/Laws/FrameTick.lean ====
section
/-! SUPPORT. Sys2Proof/Laws/FrameTick.lean: which parts of the state each operation of Machine/Tick.lean may change. -/
namespace Sys2Proof.Laws
set_option Elab.async false
set_option linter.unusedSimpArgs false
open Sys2Proof.Machine Sys2Proof.Safety

theorem takeVov_forget (P : Parts) (s : State) (b : Fin 8) (hrec : MayRecord P) (h_free : P.free = true) (h_clk :
    P.clk = true) (h_link : P.link = true) (h_ops : P.ops = true) (h_can : P.can = true) (h_tim : P.tim = true) (h_hb
    : P.hb = true) (h_bank : P.bank = true) (h_ax : P.ax = true) (h_fus : P.fus = true) (h_sched : P.sched = true)
    (h_sol : P.sol = true) (h_img : P.img = true) (h_pwr : P.pwr = true) (h_store : P.store = true) (h_pair : P.pair =
    true) (h_safe : P.safe = true) (h_win : P.win = true) (h_all : ∀ b, b ∈ P.blks) :
    forget P (State.takeVov s b) = forget P s := by
  unfold State.takeVov
  try dsimp only
  (repeat' split) <;> first | with_reducible rfl | simp only [hostErr_forget, modBank_forget, wr_forget, implies_true,
      covers_all h_all, Nat.reduceLT, ite_forget, ite_self, hrec, hrec.queue.raises, hrec.queue, hrec.recs, h_free,
      h_clk, h_link, h_ops, h_can, h_tim, h_hb, h_bank, h_ax, h_fus, h_sched, h_sol, h_img, h_pwr, h_store, h_pair,
      h_safe, h_win, h_all, Fin.is_lt]

theorem endTick_forget (P : Parts) (s : State) (hrec : MayRecord P) (hev : MayRaise P) (h_free : P.free = true) (h_clk
    : P.clk = true) (h_link : P.link = true) (h_ops : P.ops = true) (h_can : P.can = true) (h_tim : P.tim = true)
    (h_hb : P.hb = true) (h_bank : P.bank = true) (h_ax : P.ax = true) (h_fus : P.fus = true) (h_sched : P.sched =
    true) (h_sol : P.sol = true) (h_img : P.img = true) (h_pwr : P.pwr = true) (h_store : P.store = true) (h_pair :
    P.pair = true) (h_safe : P.safe = true) (h_win : P.win = true) (h_all : ∀ b, b ∈ P.blks) :
    forget P (State.endTick s) = forget P s := by
  unfold State.endTick
  try dsimp only
  repeat' first
    | with_reducible rfl
    | split
    | (simp only [applyFreeze_forget, flushDue_forget, takeVov_forget, implies_true, Nat.reduceLT, ite_forget,
        ite_self, hrec, hrec.queue.raises, hrec.queue, hrec.recs, hev, hev.rcd, hev.fresh, hev.evt, h_free, h_clk,
        h_link, h_ops, h_can, h_tim, h_hb, h_bank, h_ax, h_fus, h_sched, h_sol, h_img, h_pwr, h_store, h_pair, h_safe,
        h_win, h_all, Fin.is_lt]; done)
    | with_reducible refine Eq.trans (each_forget P _ _ (fun s x => ?_) _) ?_
    | (simp only [applyFreeze_forget, flushDue_forget, takeVov_forget, implies_true, Nat.reduceLT, ite_forget,
        ite_self, hrec, hrec.queue.raises, hrec.queue, hrec.recs, hev, hev.rcd, hev.fresh, hev.evt, h_free, h_clk,
        h_link, h_ops, h_can, h_tim, h_hb, h_bank, h_ax, h_fus, h_sched, h_sol, h_img, h_pwr, h_store, h_pair, h_safe,
        h_win, h_all, Fin.is_lt])

theorem startTick_forget (P : Parts) (s : State) (hrec : MayRecord P) (h_free : P.free = true) (h_ops : P.ops = true)
    (h_can : P.can = true) (h_tim : P.tim = true) (h_hb : P.hb = true) (h_bank : P.bank = true) (h_pair : P.pair =
    true) (r_GATE_BSTUVCNT : P.Has .GATE_BSTUVCNT) (r_GATE_FLT : P.Has .GATE_FLT) :
    forget P (State.startTick s) = forget P s := by
  unfold State.startTick
  try dsimp only
  repeat' first
    | with_reducible rfl
    | split
    | (simp only [countDeferred_forget, drain_forget, keepAlive_forget, settleAborts_forget, watchOwnIn_forget,
        Nat.reduceLT, ite_forget, ite_self, hrec, hrec.queue.raises, hrec.queue, hrec.recs, h_free, h_ops, h_can,
        h_tim, h_hb, h_bank, h_pair, r_GATE_BSTUVCNT, r_GATE_FLT, Fin.is_lt]; done)
    | with_reducible refine Eq.trans (each_forget P _ _ (fun s x => ?_) _) ?_
    | (simp only [countDeferred_forget, drain_forget, keepAlive_forget, settleAborts_forget, watchOwnIn_forget,
        Nat.reduceLT, ite_forget, ite_self, hrec, hrec.queue.raises, hrec.queue, hrec.recs, h_free, h_ops, h_can,
        h_tim, h_hb, h_bank, h_pair, r_GATE_BSTUVCNT, r_GATE_FLT, Fin.is_lt])

theorem tick_forget (P : Parts) (s : State) (hrec : MayRecord P) (hev : MayRaise P) (h_free : P.free = true) (h_clk :
    P.clk = true) (h_link : P.link = true) (h_ops : P.ops = true) (h_can : P.can = true) (h_tim : P.tim = true) (h_hb
    : P.hb = true) (h_bank : P.bank = true) (h_ax : P.ax = true) (h_fus : P.fus = true) (h_sched : P.sched = true)
    (h_sol : P.sol = true) (h_img : P.img = true) (h_pwr : P.pwr = true) (h_store : P.store = true) (h_pair : P.pair =
    true) (h_safe : P.safe = true) (h_win : P.win = true) (h_all : ∀ b, b ∈ P.blks) :
    forget P (tick s) = forget P s := by
  unfold tick State.whenUp
  try dsimp only
  (repeat' split) <;> first | with_reducible rfl | simp only [endTick_forget, modPwr_forget, modRcd_forget,
      startTick_forget, tickTime_forget, implies_true, setFresh_forget, has_all h_all, Nat.reduceLT, ite_forget,
      ite_self, hrec, hrec.queue.raises, hrec.queue, hrec.recs, hev, hev.rcd, hev.fresh, hev.evt, h_free, h_clk,
      h_link, h_ops, h_can, h_tim, h_hb, h_bank, h_ax, h_fus, h_sched, h_sol, h_img, h_pwr, h_store, h_pair, h_safe,
      h_win, h_all, Fin.is_lt]

end Sys2Proof.Laws
end

