-- ==== Sys2Proof/Laws/Raise.lean ====
section
/-! SUPPORT. Sys2Proof/Laws/Raise.lean: what raising an event does: it sets the status bit of its source, keeps every other
status bit, makes its record due, and leaves alone everything outside the recorder and the event registers. -/
namespace Sys2Proof.Laws
set_option Elab.async false
set_option linter.unusedSimpArgs false
open Sys2Proof.Machine Sys2Proof.Safety

theorem mayRaise_raising (m : Parts) : MayRaise (raising m) := by
  refine ⟨rfl, rfl, has_of_mem ?_⟩
  simp [raising]

theorem mayRecord_recording (m : Parts) : MayRecord (recording m) := by
  refine ⟨⟨mayRaise_raising _, rfl, has_of_mem ?_⟩, rfl, has_of_mem ?_, has_of_mem ?_⟩ <;> simp [recording, raising]

/-- Raising an event changes the parts of `raising {}` at most. -/
theorem raise_only (s : State) (e : EvName) (d0 d1 : Word) (he : e.src < 128) : Only (raising {}) s (s.raise e d0 d1) :=
  only_of_forget (raise_forget _ s e d0 d1 he (mayRaise_raising _))

/-! ### Single status bits -/

theorem bit_bitW (k : Nat) (hk : k < 16) : bit (bitW k) k = true := by
  simp only [bit, bitW, w16]
  rw [BitVec.getLsbD_ofNat]
  simp [hk, Nat.testBit_two_pow_self]

theorem bit_or (v w : Word) (k : Nat) : bit (v ||| w) k = (bit v k || bit w k) := by simp [bit]

theorem EVT_STAT_inj {i j : Nat} (h : A.EVT_STAT i = A.EVT_STAT j) : i = j := by
  unfold A.EVT_STAT at h; omega

/-- Setting a status bit keeps every status bit and sets its own (R341). -/
theorem setEvt_eventBit (s : State) (n : Nat) (e : EvName) :
    eventBit (s.setEvt n) e = (eventBit s e || (decide (e.src / 16 = n / 16) && bit (bitW (n % 16)) (e.src % 16))) := by
  unfold eventBit State.setEvt State.setFlags
  show bit ((s.wr _ _).rd _) _ = _
  rw [rd_wr]
  by_cases h : A.EVT_STAT (e.src / 16) = A.EVT_STAT (n / 16)
  · rw [if_pos h, bit_or, EVT_STAT_inj h]; simp
  · rw [if_neg h]
    have : e.src / 16 ≠ n / 16 := fun c => h (by rw [c])
    simp [this]

theorem setEvt_self (s : State) (e : EvName) : eventBit (s.setEvt e.src) e = true := by
  rw [setEvt_eventBit]; simp [bit_bitW _ (Nat.mod_lt _ (by decide : 0 < 16))]

theorem setEvt_mono (s : State) (n : Nat) (e : EvName) (h : eventBit s e = true) : eventBit (s.setEvt n) e = true := by
  rw [setEvt_eventBit, h]; rfl

/-- A word outside the way of a raising is not touched by an operation that changes only the recorder, the journal queue
and the two loss counters. -/
theorem eventBit_of_rd {s t : State} (h : ∀ i, t.rd (A.EVT_STAT i) = s.rd (A.EVT_STAT i)) (e : EvName) :
    eventBit t e = eventBit s e := by unfold eventBit; rw [h]

theorem fifoIn_stat (s : State) (x : Raised) (i : Nat) (hi : i < 8) :
    (s.fifoIn x).rd (A.EVT_STAT i) = s.rd (A.EVT_STAT i) := by
  have hn : A.EVT_STAT i ≠ A.REC_HOLDOVF_CNT := by unfold A.EVT_STAT A.REC_HOLDOVF_CNT; omega
  unfold State.fifoIn
  split
  · rfl
  · unfold State.satInc
    rw [rd_wr, if_neg hn]
    split <;> rfl

theorem src_div_lt {e : EvName} (h : e.src < 128) : e.src / 16 < 8 := by omega

theorem fifoIn_eventBit (s : State) (x : Raised) (e : EvName) (he : e.src < 128) :
    eventBit (s.fifoIn x) e = eventBit s e := by unfold eventBit; rw [fifoIn_stat _ _ _ (src_div_lt he)]

/-- At any place, raising an event leaves the status bits as setting its own does (R341). -/
theorem raiseAt_eventBit (s : State) (p : Nat) (e e' : EvName) (d0 d1 : Word) :
    eventBit (s.raiseAt p e d0 d1) e' = eventBit (s.setEvt e.src) e' := by
  unfold State.raiseAt
  dsimp only
  split <;> rfl

/-- Raising an event leaves the status bits as setting its own does (R341). -/
theorem raise_eventBit (s : State) (e e' : EvName) (d0 d1 : Word) :
    eventBit (s.raise e d0 d1) e' = eventBit (s.setEvt e.src) e' := raiseAt_eventBit s _ e e' d0 d1

/-- Raising an event keeps every status bit that is set (R341). -/
theorem raise_mono (s : State) (e e' : EvName) (d0 d1 : Word) (h : eventBit s e' = true) :
    eventBit (s.raise e d0 d1) e' = true := by rw [raise_eventBit]; exact setEvt_mono s e.src e' h

/-- Raising an event sets its status bit (R341). -/
theorem raise_self (s : State) (e : EvName) (d0 d1 : Word) : eventBit (s.raise e d0 d1) e = true := by
  rw [raise_eventBit]; exact setEvt_self s e

theorem jqueue_mono (s : State) (x : Raised) (p h : Bool) (q : Word) (e : EvName) (he : e.src < 128)
    (hb : eventBit s e = true) : eventBit (s.jqueue x p h q) e = true := by
  have hj : eventBit ((s.satInc A.STORE_JLOST).modStore (fun t => { t with lost := t.lost + 1, full := true })) e =
      true := by
    rw [← hb]
    unfold eventBit State.satInc
    rw [modStore_rd, rd_wr, if_neg]
    have := src_div_lt he
    unfold A.EVT_STAT A.STORE_JLOST; omega
  unfold State.jqueue
  dsimp only
  split
  · exact hb
  · split
    · exact raise_mono _ _ _ _ _ hj
    · exact hj

/-- The record of a raising, if the recorder takes it, is the last that is due (R344). -/
theorem raise_due (s : State) (e : EvName) (d0 d1 : Word) :
    (s.raise e d0 d1).rcd.due = s.rcd.due ++ (if (s.setEvt e.src).records e.src e.sev then
      [⟨s.tb, evPlace e d0 d1, e.src, e.sev, d0, d1, if e.sev.high then none else some false⟩] else []) := by
  unfold State.raise State.raiseAt
  dsimp only
  split
  · rfl
  · exact (List.append_nil _).symm

/-! ### What a raising leaves alone -/

/-- `t` is `s` but for the registers, the flags set in the tick, the recorder and the store. -/
def Near (s t : State) : Prop := t = { s with regs := t.regs, fresh := t.fresh, rcd := t.rcd, store := t.store }

theorem Near.trans {s t u : State} (h : Near s t) (h' : Near t u) : Near s u := by
  unfold Near at *; rw [h', h]

theorem setEvt_near (s : State) (n : Nat) : Near s (s.setEvt n) := rfl

theorem fifoIn_near (s : State) (x : Raised) : Near s (s.fifoIn x) := by
  unfold State.fifoIn
  (repeat' split) <;> rfl

theorem raiseAt_near (s : State) (p : Nat) (e : EvName) (d0 d1 : Word) : Near s (s.raiseAt p e d0 d1) := by
  unfold State.raiseAt
  dsimp only
  split <;> rfl

theorem raise_near (s : State) (e : EvName) (d0 d1 : Word) : Near s (s.raise e d0 d1) := raiseAt_near s _ e d0 d1

theorem jqueue_near (s : State) (x : Raised) (p h : Bool) (q : Word) : Near s (s.jqueue x p h q) := by
  unfold State.jqueue
  dsimp only
  split
  · rfl
  · split
    · exact Near.trans (by rfl) (raise_near _ _ _ _)
    · rfl

section raise
variable (s : State) (e : EvName) (d0 d1 : Word)
@[simp] theorem raise_pending : (s.raise e d0 d1).pending = s.pending := by have h := raise_near s e d0 d1; rw [h]
@[simp] theorem raise_free : (s.raise e d0 d1).free = s.free := by have h := raise_near s e d0 d1; rw [h]
@[simp] theorem raise_clk : (s.raise e d0 d1).clk = s.clk := by have h := raise_near s e d0 d1; rw [h]
@[simp] theorem raise_link : (s.raise e d0 d1).link = s.link := by have h := raise_near s e d0 d1; rw [h]
@[simp] theorem raise_ops : (s.raise e d0 d1).ops = s.ops := by have h := raise_near s e d0 d1; rw [h]
@[simp] theorem raise_can : (s.raise e d0 d1).can = s.can := by have h := raise_near s e d0 d1; rw [h]
@[simp] theorem raise_tim : (s.raise e d0 d1).tim = s.tim := by have h := raise_near s e d0 d1; rw [h]
@[simp] theorem raise_hb : (s.raise e d0 d1).hb = s.hb := by have h := raise_near s e d0 d1; rw [h]
@[simp] theorem raise_bank : (s.raise e d0 d1).bank = s.bank := by have h := raise_near s e d0 d1; rw [h]
@[simp] theorem raise_ax : (s.raise e d0 d1).ax = s.ax := by have h := raise_near s e d0 d1; rw [h]
@[simp] theorem raise_fus : (s.raise e d0 d1).fus = s.fus := by have h := raise_near s e d0 d1; rw [h]
@[simp] theorem raise_sched : (s.raise e d0 d1).sched = s.sched := by have h := raise_near s e d0 d1; rw [h]
@[simp] theorem raise_sol : (s.raise e d0 d1).sol = s.sol := by have h := raise_near s e d0 d1; rw [h]
@[simp] theorem raise_img : (s.raise e d0 d1).img = s.img := by have h := raise_near s e d0 d1; rw [h]
@[simp] theorem raise_pwr : (s.raise e d0 d1).pwr = s.pwr := by have h := raise_near s e d0 d1; rw [h]
@[simp] theorem raise_pair : (s.raise e d0 d1).pair = s.pair := by have h := raise_near s e d0 d1; rw [h]
@[simp] theorem raise_safe : (s.raise e d0 d1).safe = s.safe := by have h := raise_near s e d0 d1; rw [h]
@[simp] theorem raise_lands : (s.raise e d0 d1).lands = s.lands := by have h := raise_near s e d0 d1; rw [h]
end raise

/-- An address outside the event, recorder and store blocks. -/
abbrev Apart (a : Nat) : Prop := a < 0x400 ∨ (0x800 ≤ a ∧ a < 0xA00) ∨ 0xC00 ≤ a

theorem setEvt_rd (s : State) (n a : Nat) (hn : n < 128) (h : Apart a) : (s.setEvt n).rd a = s.rd a := by
  show (s.wr _ _).rd a = _
  rw [rd_wr, if_neg]
  unfold Apart at h; unfold A.EVT_STAT; omega

theorem satInc_rd (s : State) (a b : Nat) (h : b ≠ a) : (s.satInc a).rd b = s.rd b := by
  unfold State.satInc; rw [rd_wr, if_neg h]

theorem fifoIn_rd (s : State) (x : Raised) (a : Nat) (h : Apart a) : (s.fifoIn x).rd a = s.rd a := by
  unfold State.fifoIn
  split
  · rfl
  · rw [satInc_rd _ _ _ (by unfold Apart at h; unfold A.REC_HOLDOVF_CNT; omega)]
    split <;> rfl

theorem raiseAt_rd (s : State) (p : Nat) (e : EvName) (d0 d1 : Word) (he : e.src < 128) (a : Nat) (h : Apart a) :
    (s.raiseAt p e d0 d1).rd a = s.rd a := by
  have hs := setEvt_rd s e.src a he h
  unfold State.raiseAt
  dsimp only
  split <;> exact hs

/-- Raising an event leaves the words outside the event, recorder and store blocks alone (R341). -/
theorem raise_rd (s : State) (e : EvName) (d0 d1 : Word) (he : e.src < 128) (a : Nat) (h : Apart a) :
    (s.raise e d0 d1).rd a = s.rd a := raiseAt_rd s _ e d0 d1 he a h

theorem jqueue_rd (s : State) (x : Raised) (p q : Bool) (w : Word) (a : Nat) (h : Apart a) :
    (s.jqueue x p q w).rd a = s.rd a := by
  have hj : ((s.satInc A.STORE_JLOST).modStore (fun t => { t with lost := t.lost + 1, full := true })).rd a = s.rd a := by
    rw [modStore_rd, satInc_rd _ _ _ (by unfold Apart at h; unfold A.STORE_JLOST; omega)]
  unfold State.jqueue
  dsimp only
  split
  · rfl
  · split
    · rw [raise_rd _ _ _ _ (by decide) _ h]; exact hj
    · exact hj

end Sys2Proof.Laws
end

