-- ==== Sys2Proof/Laws/Calm.lean ====
section
/-! SUPPORT. Sys2Proof/Laws/Calm.lean: the operations that drive no switch on and arm no bank. -/
namespace Sys2Proof.Laws
set_option Elab.async false
set_option linter.unusedSimpArgs false
open Sys2Proof.Machine Sys2Proof.Safety

/-- No switch is driven on in `t` that is not in `s`; with `arm`, no bank is armed in `t` that is not in `s`. -/
structure Calm (arm : Bool) (s t : State) : Prop where
  on : ∀ (h : Fin 72) (side : Side), ((t.hb[h]).gate side).on = true → ((s.hb[h]).gate side).on = true
  armed : arm = true → ∀ b : Fin 8, (t.bank[b]).armed = true → (s.bank[b]).armed = true

theorem Calm.refl (arm : Bool) (s : State) : Calm arm s s := ⟨fun _ _ h => h, fun _ _ h => h⟩

theorem Calm.trans {arm : Bool} {s t u : State} (h : Calm arm s t) (h' : Calm arm t u) : Calm arm s u :=
  ⟨fun x d c => h.on x d (h'.on x d c), fun e b c => h.armed e b (h'.armed e b c)⟩

theorem calm_of_eq {arm : Bool} {s t : State} (h1 : t.hb = s.hb) (h2 : t.bank = s.bank) : Calm arm s t :=
  ⟨fun x d c => by rwa [h1] at c, fun _ b c => by rwa [h2] at c⟩

/-- Every part but the half-bridges and the banks. -/
def quiet : Parts :=
  { everything with
    fresh := true, rcd := true, store := true, lands := true, mem := true, recs := true, hb := false, bank := false }

theorem quiet_all (b : Blk) : b ∈ quiet.blks := by cases b <;> decide

theorem quiet_has (r : Reg) : quiet.Has r := has_all quiet_all r

theorem quiet_raise : MayRaise quiet := ⟨rfl, rfl, quiet_has _⟩

theorem quiet_record : MayRecord quiet := ⟨⟨quiet_raise, rfl, quiet_has _⟩, rfl, quiet_has _, quiet_has _⟩

theorem calm_of_forget {arm : Bool} {s₀ s t : State} (h : forget quiet t = forget quiet s) (h₀ : Calm arm s₀ s) :
    Calm arm s₀ t :=
  h₀.trans (calm_of_eq (by have := congrArg State.hb h; simpa [forget, quiet, everything] using this)
    (by have := congrArg State.bank h; simpa [forget, quiet, everything] using this))

theorem each_calm {arm : Bool} {α : Type} {s₀ s : State} {l : List α} {f : State → α → State}
    (h : ∀ u x, Calm arm s₀ u → Calm arm s₀ (f u x)) (h₀ : Calm arm s₀ s) : Calm arm s₀ (s.each l f) := by
  induction l generalizing s with
  | nil => exact h₀
  | cons x xs ih => exact ih (h s x h₀)

theorem modHb_calm {arm : Bool} {s₀ s : State} {h : Fin 72} {f : HalfB → HalfB}
    (hf : ∀ x, ((f x).hs.on = true → x.hs.on = true) ∧ ((f x).ls.on = true → x.ls.on = true)) (h₀ : Calm arm s₀ s) :
    Calm arm s₀ (s.modHb h f) := by
  refine h₀.trans ?_
  refine ⟨fun u d c => ?_, fun _ _ c => c⟩
  rw [modHb_get] at c
  split at c
  · rename_i e; subst e
    cases d
    · exact (hf _).2 c
    · exact (hf _).1 c
  · exact c

theorem modGate_calm {arm : Bool} {s₀ s : State} {h : Fin 72} {side : Side} {f : Gate → Gate}
    (hf : ∀ g, (f g).on = true → g.on = true) (h₀ : Calm arm s₀ s) : Calm arm s₀ (s.modGate h side f) := by
  unfold State.modGate
  refine modHb_calm (fun x => ?_) h₀
  cases side
  · exact ⟨id, hf _⟩
  · exact ⟨hf _, id⟩

theorem modBank_calm {arm : Bool} {s₀ s : State} {b : Fin 8} {f : Bank → Bank} (hf : ∀ k, (f k).armed = true → k.armed = true)
    (h₀ : Calm arm s₀ s) : Calm arm s₀ (s.modBank b f) := by
  refine h₀.trans ?_
  refine ⟨fun _ _ c => c, fun _ u c => ?_⟩
  rw [modBank_get] at c
  split at c
  · rename_i e; subst e; exact hf _ c
  · exact c

theorem modBank_any {s₀ s : State} {b : Fin 8} {f : Bank → Bank} (h₀ : Calm false s₀ s) : Calm false s₀ (s.modBank b f) :=
  ⟨h₀.on, fun h => absurd h (by decide)⟩

theorem Calm.weak {arm : Bool} {s t : State} (h : Calm arm s t) : Calm false s t := ⟨h.on, fun h => absurd h (by decide)⟩

theorem modConv_calm {arm : Bool} {s₀ s : State} {c : Fin 24} {f : Conv → Conv} (h₀ : Calm arm s₀ s) : Calm arm s₀ (s.modConv c f) :=
  modBank_calm (fun _ h => h) h₀

theorem modClk_calm {arm : Bool} {s₀ s : State} {f : Clk → Clk} (h₀ : Calm arm s₀ s) : Calm arm s₀ (s.modClk f) := ⟨h₀.on, h₀.armed⟩

theorem modLink_calm {arm : Bool} {s₀ s : State} {f : Link → Link} (h₀ : Calm arm s₀ s) : Calm arm s₀ (s.modLink f) := ⟨h₀.on, h₀.armed⟩

theorem modOps_calm {arm : Bool} {s₀ s : State} {f : Ops → Ops} (h₀ : Calm arm s₀ s) : Calm arm s₀ (s.modOps f) := ⟨h₀.on, h₀.armed⟩

theorem modRcd_calm {arm : Bool} {s₀ s : State} {f : Recorder → Recorder} (h₀ : Calm arm s₀ s) : Calm arm s₀ (s.modRcd f) := ⟨h₀.on, h₀.armed⟩

theorem modFus_calm {arm : Bool} {s₀ s : State} {f : Fusion → Fusion} (h₀ : Calm arm s₀ s) : Calm arm s₀ (s.modFus f) := ⟨h₀.on, h₀.armed⟩

theorem modSched_calm {arm : Bool} {s₀ s : State} {f : Sched → Sched} (h₀ : Calm arm s₀ s) : Calm arm s₀ (s.modSched f) := ⟨h₀.on, h₀.armed⟩

theorem modSol_calm {arm : Bool} {s₀ s : State} {f : Solver → Solver} (h₀ : Calm arm s₀ s) : Calm arm s₀ (s.modSol f) := ⟨h₀.on, h₀.armed⟩

theorem modImg_calm {arm : Bool} {s₀ s : State} {f : Img → Img} (h₀ : Calm arm s₀ s) : Calm arm s₀ (s.modImg f) := ⟨h₀.on, h₀.armed⟩

theorem modPwr_calm {arm : Bool} {s₀ s : State} {f : Pwr → Pwr} (h₀ : Calm arm s₀ s) : Calm arm s₀ (s.modPwr f) := ⟨h₀.on, h₀.armed⟩

theorem modStore_calm {arm : Bool} {s₀ s : State} {f : Store → Store} (h₀ : Calm arm s₀ s) : Calm arm s₀ (s.modStore f) := ⟨h₀.on, h₀.armed⟩

theorem modPair_calm {arm : Bool} {s₀ s : State} {f : Pair → Pair} (h₀ : Calm arm s₀ s) : Calm arm s₀ (s.modPair f) := ⟨h₀.on, h₀.armed⟩

theorem modSafe_calm {arm : Bool} {s₀ s : State} {f : Safe → Safe} (h₀ : Calm arm s₀ s) : Calm arm s₀ (s.modSafe f) := ⟨h₀.on, h₀.armed⟩

theorem modLands_calm {arm : Bool} {s₀ s : State} {f : Lands → Lands} (h₀ : Calm arm s₀ s) : Calm arm s₀ (s.modLands f) := ⟨h₀.on, h₀.armed⟩

theorem strapped_calm {arm : Bool} {s₀ s : State} {x : Straps} (h₀ : Calm arm s₀ s) : Calm arm s₀ (s.strapped x) := ⟨h₀.on, h₀.armed⟩

theorem modCan_calm {arm : Bool} {s₀ s : State} {i : Fin 2} {f : Can → Can} (h₀ : Calm arm s₀ s) : Calm arm s₀ (s.modCan i f) :=
  ⟨h₀.on, h₀.armed⟩

theorem modTim_calm {arm : Bool} {s₀ s : State} {i : Fin 24} {f : Timer → Timer} (h₀ : Calm arm s₀ s) : Calm arm s₀ (s.modTim i f) :=
  ⟨h₀.on, h₀.armed⟩

theorem modAx_calm {arm : Bool} {s₀ s : State} {i : Fin 24} {f : Axis → Axis} (h₀ : Calm arm s₀ s) : Calm arm s₀ (s.modAx i f) :=
  ⟨h₀.on, h₀.armed⟩

theorem modSlot_calm {arm : Bool} {s₀ s : State} {i : Fin 8} {f : OpSlot → OpSlot} (h₀ : Calm arm s₀ s) : Calm arm s₀ (s.modSlot i f) :=
  ⟨h₀.on, h₀.armed⟩

theorem modRow_calm {arm : Bool} {s₀ s : State} {i : Fin 24} {f : SolRow → SolRow} (h₀ : Calm arm s₀ s) : Calm arm s₀ (s.modRow i f) :=
  ⟨h₀.on, h₀.armed⟩

theorem wr_calm {arm : Bool} {s₀ s : State} {a : Nat} {v : Word} (h₀ : Calm arm s₀ s) : Calm arm s₀ (s.wr a v) := ⟨h₀.on, h₀.armed⟩

theorem clearRange_calm {arm : Bool} {s₀ s : State} {a b : Nat} (h₀ : Calm arm s₀ s) : Calm arm s₀ (s.clearRange a b) := ⟨h₀.on, h₀.armed⟩

theorem clearStatus_calm {arm : Bool} {s₀ s : State} {a b : Nat} (h₀ : Calm arm s₀ s) : Calm arm s₀ (s.clearStatus a b) := ⟨h₀.on, h₀.armed⟩

theorem took_calm {arm : Bool} {s₀ s : State} (h₀ : Calm arm s₀ s) : Calm arm s₀ (s.took) := ⟨h₀.on, h₀.armed⟩

theorem setFree_calm {arm : Bool} {s₀ s : State} {n : Nat} (h₀ : Calm arm s₀ s) : Calm arm s₀ ({ s with free := n }) := ⟨h₀.on, h₀.armed⟩

theorem setFresh_calm {arm : Bool} {s₀ s : State} {l : List (Nat × Word)} (h₀ : Calm arm s₀ s) : Calm arm s₀ ({ s with fresh := l }) := ⟨h₀.on, h₀.armed⟩

theorem setFlags_calm {arm : Bool} {s₀ s : State} {a : Nat} {v : Word} (h₀ : Calm arm s₀ s) : Calm arm s₀ (s.setFlags a v) := ⟨h₀.on, h₀.armed⟩

theorem clrFlags_calm {arm : Bool} {s₀ s : State} {a : Nat} {v : Word} (h₀ : Calm arm s₀ s) : Calm arm s₀ (s.clrFlags a v) := ⟨h₀.on, h₀.armed⟩

theorem w1c_calm {arm : Bool} {s₀ s : State} {a : Nat} {v : Word} (h₀ : Calm arm s₀ s) : Calm arm s₀ (s.w1c a v) := ⟨h₀.on, h₀.armed⟩

theorem satInc_calm {arm : Bool} {s₀ s : State} {a : Nat} (h₀ : Calm arm s₀ s) : Calm arm s₀ (s.satInc a) := ⟨h₀.on, h₀.armed⟩

theorem wrapInc_calm {arm : Bool} {s₀ s : State} {a : Nat} (h₀ : Calm arm s₀ s) : Calm arm s₀ (s.wrapInc a) := ⟨h₀.on, h₀.armed⟩

theorem satAdd_calm {arm : Bool} {s₀ s : State} {a n : Nat} (h₀ : Calm arm s₀ s) : Calm arm s₀ (s.satAdd a n) := ⟨h₀.on, h₀.armed⟩

theorem wrs_calm {arm : Bool} {s₀ : State} {l : List Word} : ∀ {s : State} {a : Nat}, Calm arm s₀ s → Calm arm s₀ (s.wrs a l) := by
  induction l with
  | nil => intro s a h; exact h
  | cons v vs ih => intro s a h; exact ih (wr_calm h)

theorem wrQ_calm {arm : Bool} {s₀ s : State} {a n q : Nat} (h₀ : Calm arm s₀ s) : Calm arm s₀ (s.wrQ a n q) := wrs_calm h₀

theorem raise_calm {arm : Bool} {s₀ s : State} {e : EvName} {d0 d1 : Word} (h₀ : Calm arm s₀ s) : Calm arm s₀ (s.raise e d0 d1) :=
  h₀.trans (calm_of_eq (raise_hb _ _ _ _) (raise_bank _ _ _ _))

theorem raiseAt_calm {arm : Bool} {s₀ s : State} {p : Nat} {e : EvName} {d0 d1 : Word} (h₀ : Calm arm s₀ s) :
    Calm arm s₀ (s.raiseAt p e d0 d1) := by
  have h := raiseAt_near s p e d0 d1
  exact h₀.trans (calm_of_eq (by rw [h]) (by rw [h]))

theorem round_calm {arm : Bool} {s₀ : State} {s : State} {x : Rat} (h₀ : Calm arm s₀ s) : Calm arm s₀ (State.round s
    x).1 :=
  calm_of_forget (round_forget quiet s x rfl) h₀

theorem round_calm_eq {arm : Bool} {s₀ : State} {s : State} {x : Rat} {t' : State} {v' : Int} (e : State.round s x =
    (t', v')) (h₀ : Calm arm s₀ s) :
    Calm arm s₀ t' := by
  have : Calm arm s₀ (State.round s x).1 := round_calm h₀
  rwa [e] at this

theorem quant_calm {arm : Bool} {s₀ : State} {s : State} {x : Rat} (h₀ : Calm arm s₀ s) : Calm arm s₀ (State.quant s
    x).1 :=
  calm_of_forget (quant_forget quiet s x rfl) h₀

theorem quant_calm_eq {arm : Bool} {s₀ : State} {s : State} {x : Rat} {t' : State} {v' : Int} (e : State.quant s x =
    (t', v')) (h₀ : Calm arm s₀ s) :
    Calm arm s₀ t' := by
  have : Calm arm s₀ (State.quant s x).1 := quant_calm h₀
  rwa [e] at this

theorem pick_calm {arm : Bool} {s₀ : State} {α : Type} {s : State} {l : List α} (h₀ : Calm arm s₀ s) : Calm arm s₀
    (State.pick s l).1 :=
  calm_of_forget (pick_forget quiet s l rfl) h₀

theorem pick_calm_eq {arm : Bool} {s₀ : State} {α : Type} {s : State} {l : List α} {t' : State} {v' : Option α} (e :
    State.pick s l = (t', v')) (h₀ : Calm arm s₀ s) :
    Calm arm s₀ t' := by
  have : Calm arm s₀ (State.pick s l).1 := pick_calm h₀
  rwa [e] at this

theorem setStaged_calm {arm : Bool} {s₀ : State} {s : State} {a : Nat} {v : Word} (h₀ : Calm arm s₀ s) : Calm arm s₀
    (State.setStaged s a v) :=
  calm_of_forget (setStaged_forget quiet s a v rfl) h₀

theorem flushDue_calm {arm : Bool} {s₀ : State} {s : State} (h₀ : Calm arm s₀ s) : Calm arm s₀ (State.flushDue s) :=
  calm_of_forget (flushDue_forget quiet s quiet_record) h₀

theorem drain_calm {arm : Bool} {s₀ : State} {s : State} (h₀ : Calm arm s₀ s) : Calm arm s₀ (State.drain s) :=
  calm_of_forget (drain_forget quiet s quiet_record) h₀

theorem thaw_calm {arm : Bool} {s₀ : State} {s : State} {c : ThawCause} (h₀ : Calm arm s₀ s) : Calm arm s₀ (State.thaw
    s c) :=
  calm_of_forget (thaw_forget quiet s c quiet_record) h₀

theorem evtStatClear_calm {arm : Bool} {s₀ : State} {g : Fin 8} {d : Word} {s : State} (h₀ : Calm arm s₀ s) : Calm arm
    s₀ (evtStatClear g d s) :=
  calm_of_forget (evtStatClear_forget quiet g d s (quiet_has _)) h₀

theorem recClr_calm {arm : Bool} {s₀ : State} {s : State} (h₀ : Calm arm s₀ s) : Calm arm s₀ (recClr s) :=
  calm_of_forget (recClr_forget quiet s quiet_record) h₀

theorem hostMark_calm {arm : Bool} {s₀ : State} {d hi : Word} {s : State} (h₀ : Calm arm s₀ s) : Calm arm s₀ (hostMark
    d hi s) :=
  calm_of_forget (hostMark_forget quiet d hi s quiet_raise) h₀

theorem recFreeze_calm {arm : Bool} {s₀ : State} {s : State} (h₀ : Calm arm s₀ s) : Calm arm s₀ (recFreeze s) :=
  calm_of_forget (recFreeze_forget quiet s rfl) h₀

theorem applyFreeze_calm {arm : Bool} {s₀ : State} {s : State} (h₀ : Calm arm s₀ s) : Calm arm s₀ (State.applyFreeze
    s) :=
  calm_of_forget (applyFreeze_forget quiet s rfl) h₀

theorem tickTime_calm {arm : Bool} {s₀ : State} {s : State} (h₀ : Calm arm s₀ s) : Calm arm s₀ (State.tickTime s) :=
  calm_of_forget (tickTime_forget quiet s quiet_raise rfl) h₀

theorem ppsBreak_calm {arm : Bool} {s₀ : State} {s : State} {r : Rank} (h₀ : Calm arm s₀ s) : Calm arm s₀
    (State.ppsBreak s r) :=
  calm_of_forget (ppsBreak_forget quiet s r quiet_raise rfl) h₀

theorem ppsAtSwap_calm {arm : Bool} {s₀ : State} {s : State} (h₀ : Calm arm s₀ s) : Calm arm s₀ (State.ppsAtSwap s) :=
  calm_of_forget (ppsAtSwap_forget quiet s rfl) h₀

theorem relock_calm {arm : Bool} {s₀ : State} {s : State} (h₀ : Calm arm s₀ s) : Calm arm s₀ (relock s) :=
  calm_of_forget (relock_forget quiet s rfl) h₀

theorem timeApply_calm {arm : Bool} {s₀ : State} {s : State} (h₀ : Calm arm s₀ s) : Calm arm s₀ (timeApply s) :=
  calm_of_forget (timeApply_forget quiet s rfl) h₀

theorem tickRestore_calm {arm : Bool} {s₀ : State} {s : State} (h₀ : Calm arm s₀ s) : Calm arm s₀ (tickRestore s) :=
  calm_of_forget (tickRestore_forget quiet s rfl) h₀

theorem endSlot_calm {arm : Bool} {s₀ : State} {s : State} {i : Fin 8} {st : OpState} {fail : Nat} (h₀ : Calm arm s₀
    s) : Calm arm s₀ (State.endSlot s i st fail) :=
  calm_of_forget (endSlot_forget quiet s i st fail quiet_raise rfl) h₀

theorem publishFinal_calm {arm : Bool} {s₀ : State} {s : State} {i e : Fin 8} {v : Nat} (h₀ : Calm arm s₀ s) : Calm
    arm s₀ (State.publishFinal s i e v) :=
  calm_of_forget (publishFinal_forget quiet s i e v rfl) h₀

theorem interrupt_calm {arm : Bool} {s₀ : State} {s : State} {i : Fin 8} (h₀ : Calm arm s₀ s) : Calm arm s₀
    (State.interrupt s i) :=
  calm_of_forget (interrupt_forget quiet s i quiet_raise rfl) h₀

theorem failOp_calm {arm : Bool} {s₀ : State} {s : State} {op : Nat} (h₀ : Calm arm s₀ s) : Calm arm s₀ (State.failOp
    s op) :=
  calm_of_forget (failOp_forget quiet s op quiet_raise rfl) h₀

theorem unitDone_calm {arm : Bool} {s₀ : State} {s : State} {i : Fin 8} {b : Fin 8} (h₀ : Calm arm s₀ s) : Calm arm s₀
    (State.unitDone s i b).1 :=
  calm_of_forget (unitDone_forget quiet s i b rfl rfl) h₀

theorem unitDone_calm_eq {arm : Bool} {s₀ : State} {s : State} {i : Fin 8} {b : Fin 8} {t' : State} {v' : Bool} (e :
    State.unitDone s i b = (t', v')) (h₀ : Calm arm s₀ s) :
    Calm arm s₀ t' := by
  have : Calm arm s₀ (State.unitDone s i b).1 := unitDone_calm h₀
  rwa [e] at this

theorem cutShuntCal_calm {arm : Bool} {s₀ : State} {s : State} {b : Fin 8} (h₀ : Calm arm s₀ s) : Calm arm s₀
    (State.cutShuntCal s b) :=
  calm_of_forget (cutShuntCal_forget quiet s b quiet_raise rfl) h₀

theorem measureLines_calm {arm : Bool} {s₀ : State} {s : State} {x : OpSlot} {all : Bool} (h₀ : Calm arm s₀ s) :
    Calm arm s₀ (State.measureLines s x all) := by
  unfold State.measureLines
  try dsimp only
  repeat' first
    | with_reducible assumption
    | with_reducible refine each_calm (fun u x h₁ => ?_) ?_
    | with_reducible refine modHb_calm (by
        intro x
        constructor <;> intro h <;> first
          | exact h
          | (simp at h; done)
          | (simp at h; exact h)
          | (split at h <;> first | exact h | (simp at h; done))
          | (simp [HalfB.swapped, HalfB.start] at h; exact h)
          | (unfold HalfB.start at h; split at h <;> first | exact h | exact absurd h (by decide))) ?_
    | with_reducible apply took_calm
    | split
    | dsimp only

theorem cutDlineCal_calm {arm : Bool} {s₀ : State} {s : State} {b : Fin 8} (h₀ : Calm arm s₀ s) :
    Calm arm s₀ (State.cutDlineCal s b) := by
  unfold State.cutDlineCal
  try dsimp only
  repeat' first
    | with_reducible assumption
    | with_reducible apply interrupt_calm
    | with_reducible apply measureLines_calm
    | with_reducible refine unitDone_calm_eq (by assumption) ?_
    | with_reducible apply unitDone_calm
    | split
    | dsimp only

theorem cutSelfTest_calm {arm : Bool} {s₀ : State} {s : State} {b : Fin 8} (h₀ : Calm arm s₀ s) : Calm arm s₀
    (State.cutSelfTest s b) :=
  calm_of_forget (cutSelfTest_forget quiet s b quiet_raise rfl rfl) h₀

theorem openBlank_calm {arm : Bool} {s₀ : State} {s : State} {b : Fin 8} {t : Nat} (h₀ : Calm arm s₀ s) :
    Calm arm s₀ (State.openBlank s b t) := by
  unfold State.openBlank
  try dsimp only
  repeat' first
    | with_reducible assumption
    | with_reducible refine modBank_calm (by
        intro x h
        first
          | exact h
          | (simp only [Bank.swap] at h; exact h)
          | (simp [Bank.start, Bank.reset] at h; done)
          | (simp at h; done)
          | (simp at h; exact h)
          | (split at h <;> first | exact h | (simp at h; done))) ?_
    | split
    | dsimp only

theorem turnOff_calm {arm : Bool} {s₀ : State} {s : State} {t : Nat} {h : Fin 72} {side : Side} {soft : Bool} (h₀ :
    Calm arm s₀ s) :
    Calm arm s₀ (State.turnOff s t h side soft) := by
  unfold State.turnOff
  try dsimp only
  repeat' first
    | with_reducible assumption
    | with_reducible refine modGate_calm (by
        intro x h
        first
          | exact h
          | (simp at h; done)
          | (simp at h; exact h)
          | (split at h <;> first | exact h | (simp at h; done))) ?_
    | with_reducible apply openBlank_calm
    | split
    | dsimp only

theorem gateOff_calm {arm : Bool} {s₀ : State} {s : State} {t : Nat} {h : Fin 72} {side : Side} {urgent : Bool} (h₀ :
    Calm arm s₀ s) :
    Calm arm s₀ (State.gateOff s t h side urgent) := by
  unfold State.gateOff
  try dsimp only
  repeat' first
    | with_reducible assumption
    | with_reducible refine modGate_calm (by
        intro x h
        first
          | exact h
          | (simp at h; done)
          | (simp at h; exact h)
          | (split at h <;> first | exact h | (simp at h; done))) ?_
    | with_reducible apply turnOff_calm
    | split
    | dsimp only

theorem gateOn_calm {arm : Bool} {s₀ : State} {s : State} {h : Fin 72} {side : Side} (h₀ : Calm arm s₀ s) :
    Calm arm s₀ (State.gateOn s h side) := by
  unfold State.gateOn
  try dsimp only
  repeat' first
    | with_reducible assumption
    | with_reducible refine modGate_calm (by
        intro x h
        first
          | exact h
          | (simp at h; done)
          | (simp at h; exact h)
          | (split at h <;> first | exact h | (simp at h; done))) ?_
    | split
    | dsimp only

theorem deliver_calm {arm : Bool} {s₀ : State} {s : State} {t : Nat} {h : Fin 72} {urgent : Bool} {c : HbCmd} (h₀ :
    Calm arm s₀ s) :
    Calm arm s₀ (State.deliver s t h urgent c) := by
  unfold State.deliver
  try dsimp only
  repeat' first
    | with_reducible assumption
    | with_reducible refine modHb_calm (by
        intro x
        constructor <;> intro h <;> first
          | exact h
          | (simp at h; done)
          | (simp at h; exact h)
          | (split at h <;> first | exact h | (simp at h; done))
          | (simp [HalfB.swapped, HalfB.start] at h; exact h)
          | (unfold HalfB.start at h; split at h <;> first | exact h | exact absurd h (by decide))) ?_
    | with_reducible apply gateOff_calm
    | with_reducible apply gateOn_calm
    | split
    | dsimp only

theorem markAbove_calm {arm : Bool} {s₀ : State} {s : State} {h : Fin 72} (h₀ : Calm arm s₀ s) : Calm arm s₀
    (State.markAbove s h) :=
  calm_of_forget (markAbove_forget quiet s h rfl) h₀

theorem bstBlock_calm {arm : Bool} {s₀ : State} {s : State} {h : Fin 72} (h₀ : Calm arm s₀ s) :
    Calm arm s₀ (State.bstBlock s h) := by
  unfold State.bstBlock
  try dsimp only
  repeat' first
    | with_reducible assumption
    | with_reducible refine modHb_calm (by
        intro x
        constructor <;> intro h <;> first
          | exact h
          | (simp at h; done)
          | (simp at h; exact h)
          | (split at h <;> first | exact h | (simp at h; done))
          | (simp [HalfB.swapped, HalfB.start] at h; exact h)
          | (unfold HalfB.start at h; split at h <;> first | exact h | exact absurd h (by decide))) ?_
    | with_reducible apply raise_calm
    | with_reducible apply satInc_calm
    | with_reducible apply setFlags_calm
    | split
    | dsimp only

theorem urge_calm {arm : Bool} {s₀ : State} {s : State} {t : Nat} {h : Fin 72} (h₀ : Calm arm s₀ s) :
    Calm arm s₀ (State.urge s t h) := by
  unfold State.urge
  try dsimp only
  repeat' first
    | with_reducible assumption
    | with_reducible refine each_calm (fun u x h₁ => ?_) ?_
    | with_reducible apply turnOff_calm
    | split
    | dsimp only

theorem redrive_calm {arm : Bool} {s₀ : State} {s : State} {t : Nat} {h : Fin 72} (h₀ : Calm arm s₀ s) :
    Calm arm s₀ (State.redrive s t h) := by
  unfold State.redrive
  try dsimp only
  repeat' first
    | with_reducible assumption
    | with_reducible refine modHb_calm (by
        intro x
        constructor <;> intro h <;> first
          | exact h
          | (simp at h; done)
          | (simp at h; exact h)
          | (split at h <;> first | exact h | (simp at h; done))
          | (simp [HalfB.swapped, HalfB.start] at h; exact h)
          | (unfold HalfB.start at h; split at h <;> first | exact h | exact absurd h (by decide))) ?_
    | with_reducible apply bstBlock_calm
    | with_reducible apply deliver_calm
    | with_reducible apply markAbove_calm
    | with_reducible apply urge_calm
    | split
    | dsimp only

theorem redriveBank_calm {arm : Bool} {s₀ : State} {s : State} {t : Nat} {b : Fin 8} (h₀ : Calm arm s₀ s) :
    Calm arm s₀ (State.redriveBank s t b) := by
  unfold State.redriveBank
  try dsimp only
  repeat' first
    | with_reducible assumption
    | with_reducible refine each_calm (fun u x h₁ => ?_) ?_
    | with_reducible apply redrive_calm
    | split
    | dsimp only

theorem redriveAxis_calm {arm : Bool} {s₀ : State} {s : State} {t : Nat} {a : Fin 24} (h₀ : Calm arm s₀ s) :
    Calm arm s₀ (State.redriveAxis s t a) := by
  unfold State.redriveAxis
  try dsimp only
  repeat' first
    | with_reducible assumption
    | with_reducible refine each_calm (fun u x h₁ => ?_) ?_
    | with_reducible apply redrive_calm
    | split
    | dsimp only

theorem release_calm {arm : Bool} {s₀ : State} {s : State} {h : Fin 72} {old : Option HbCmd} (h₀ : Calm arm s₀ s) :
    Calm arm s₀ (State.release s h old) := by
  unfold State.release
  try dsimp only
  repeat' first
    | with_reducible assumption
    | with_reducible refine modHb_calm (by
        intro x
        constructor <;> intro h <;> first
          | exact h
          | (simp at h; done)
          | (simp at h; exact h)
          | (split at h <;> first | exact h | (simp at h; done))
          | (simp [HalfB.swapped, HalfB.start] at h; exact h)
          | (unfold HalfB.start at h; split at h <;> first | exact h | exact absurd h (by decide))) ?_
    | split
    | dsimp only

theorem reRow2_calm {arm : Bool} {s₀ : State} {s : State} {t : Nat} {hbs : List (Fin 72)} {f : State → State} (hf : ∀
    u, Calm arm s₀ u → Calm arm s₀ (f u)) (h₀ : Calm arm s₀ s) :
    Calm arm s₀ (State.reRow2 s t hbs f) := by
  unfold State.reRow2
  dsimp only
  refine each_calm (fun u x h₁ => redrive_calm h₁) ?_
  refine each_calm (fun u x h₁ => release_calm h₁) ?_
  exact hf s h₀

theorem enterFloat_calm {arm : Bool} {s₀ : State} {s : State} {t : Nat} {b : Fin 8} (h₀ : Calm arm s₀ s) :
    Calm arm s₀ (State.enterFloat s t b) := by
  unfold State.enterFloat
  try dsimp only
  repeat' first
    | with_reducible assumption
    | with_reducible refine modBank_calm (by
        intro x h
        first
          | exact h
          | (simp only [Bank.swap] at h; exact h)
          | (simp [Bank.start, Bank.reset] at h; done)
          | (simp at h; done)
          | (simp at h; exact h)
          | (split at h <;> first | exact h | (simp at h; done))) ?_
    | with_reducible apply redriveBank_calm
    | split
    | dsimp only

theorem refloat_calm {arm : Bool} {s₀ : State} {s : State} {t : Nat} {b : Fin 8} (h₀ : Calm arm s₀ s) :
    Calm arm s₀ (State.refloat s t b) := by
  unfold State.refloat
  try dsimp only
  repeat' first
    | with_reducible assumption
    | with_reducible apply enterFloat_calm
    | split
    | dsimp only

theorem disableStages_calm {arm : Bool} {s₀ : State} {s : State} {b : Fin 8} (h₀ : Calm arm s₀ s) :
    Calm arm s₀ (State.disableStages s b) := by
  unfold State.disableStages
  try dsimp only
  repeat' first
    | with_reducible assumption
    | with_reducible refine each_calm (fun u x h₁ => ?_) ?_
    | with_reducible refine modHb_calm (by
        intro x
        constructor <;> intro h <;> first
          | exact h
          | (simp at h; done)
          | (simp at h; exact h)
          | (split at h <;> first | exact h | (simp at h; done))
          | (simp [HalfB.swapped, HalfB.start] at h; exact h)
          | (unfold HalfB.start at h; split at h <;> first | exact h | exact absurd h (by decide))) ?_
    | with_reducible refine modBank_calm (by
        intro x h
        first
          | exact h
          | (simp only [Bank.swap] at h; exact h)
          | (simp [Bank.start, Bank.reset] at h; done)
          | (simp at h; done)
          | (simp at h; exact h)
          | (split at h <;> first | exact h | (simp at h; done))) ?_
    | split
    | dsimp only

theorem enableStages_calm {arm : Bool} {s₀ : State} {s : State} {b : Fin 8} (h₀ : Calm arm s₀ s) :
    Calm arm s₀ (State.enableStages s b) := by
  unfold State.enableStages
  try dsimp only
  repeat' first
    | with_reducible assumption
    | with_reducible refine each_calm (fun u x h₁ => ?_) ?_
    | with_reducible refine modHb_calm (by
        intro x
        constructor <;> intro h <;> first
          | exact h
          | (simp at h; done)
          | (simp at h; exact h)
          | (split at h <;> first | exact h | (simp at h; done))
          | (simp [HalfB.swapped, HalfB.start] at h; exact h)
          | (unfold HalfB.start at h; split at h <;> first | exact h | exact absurd h (by decide))) ?_
    | split
    | dsimp only

theorem toStopped_calm {arm : Bool} {s₀ : State} {s : State} {a : Fin 24} {c : AxCause} (h₀ : Calm arm s₀ s) : Calm
    arm s₀ (State.toStopped s a c) :=
  calm_of_forget (toStopped_forget quiet s a c quiet_raise rfl) h₀

theorem stopAxis_calm {arm : Bool} {s₀ : State} {s : State} {a : Fin 24} {c : AxCause} (h₀ : Calm arm s₀ s) : Calm arm
    s₀ (State.stopAxis s a c) :=
  calm_of_forget (stopAxis_forget quiet s a c quiet_raise rfl rfl) h₀

theorem raiseArm_calm {arm : Bool} {s₀ : State} {s : State} {b : Fin 8} (h₀ : Calm arm s₀ s) : Calm arm s₀
    (State.raiseArm s b) :=
  calm_of_forget (raiseArm_forget quiet s b quiet_raise) h₀

theorem disarm_calm {arm : Bool} {s₀ : State} {s : State} {t : Nat} {b : Fin 8} {cause : Nat} {stop : AxCause} (h₀ :
    Calm arm s₀ s) :
    Calm arm s₀ (State.disarm s t b cause stop) := by
  unfold State.disarm
  try dsimp only
  repeat' first
    | with_reducible assumption
    | with_reducible refine each_calm (fun u x h₁ => ?_) ?_
    | with_reducible refine modBank_calm (by
        intro x h
        first
          | exact h
          | (simp only [Bank.swap] at h; exact h)
          | (simp [Bank.start, Bank.reset] at h; done)
          | (simp at h; done)
          | (simp at h; exact h)
          | (split at h <;> first | exact h | (simp at h; done))) ?_
    | with_reducible apply cutShuntCal_calm
    | with_reducible apply raiseArm_calm
    | with_reducible apply redriveBank_calm
    | with_reducible apply stopAxis_calm
    | split
    | dsimp only

theorem trigAt_calm {arm : Bool} {s₀ : State} {s : State} {dk di w : Nat} (h₀ : Calm arm s₀ s) :
    Calm arm s₀ (State.trigAt s dk di w) := by
  unfold State.trigAt
  try dsimp only
  repeat' first
    | with_reducible assumption
    | with_reducible apply modAx_calm
    | with_reducible apply modConv_calm
    | with_reducible apply modLands_calm
    | split
    | dsimp only

theorem trig_calm {arm : Bool} {s₀ : State} {s : State} {sk si w : Nat} (h₀ : Calm arm s₀ s) :
    Calm arm s₀ (State.trig s sk si w) := by
  unfold State.trig
  try dsimp only
  repeat' first
    | with_reducible assumption
    | with_reducible refine each_calm (fun u x h₁ => ?_) ?_
    | with_reducible apply trigAt_calm
    | split
    | dsimp only

theorem takeTable_calm {arm : Bool} {s₀ : State} {s : State} {t : Fin 24} (h₀ : Calm arm s₀ s) : Calm arm s₀
    (State.takeTable s t) :=
  calm_of_forget (takeTable_forget quiet s t rfl) h₀

theorem beginPeriod_calm {arm : Bool} {s₀ : State} {s : State} {t : Fin 24} {w : Nat} {act : Vector Word 16} {start :
    Bool} (h₀ : Calm arm s₀ s) : Calm arm s₀ (State.beginPeriod s t w act start) :=
  calm_of_forget (beginPeriod_forget quiet s t w act start rfl rfl (quiet_has _)) h₀

theorem freeHbs_calm {arm : Bool} {s₀ : State} {s : State} {t : Fin 24} (h₀ : Calm arm s₀ s) :
    Calm arm s₀ (State.freeHbs s t) := by
  unfold State.freeHbs
  try dsimp only
  repeat' first
    | with_reducible assumption
    | with_reducible refine each_calm (fun u x h₁ => ?_) ?_
    | with_reducible refine modHb_calm (by
        intro x
        constructor <;> intro h <;> first
          | exact h
          | (simp at h; done)
          | (simp at h; exact h)
          | (split at h <;> first | exact h | (simp at h; done))
          | (simp [HalfB.swapped, HalfB.start] at h; exact h)
          | (unfold HalfB.start at h; split at h <;> first | exact h | exact absurd h (by decide))) ?_
    | split
    | dsimp only

theorem wrap_calm {arm : Bool} {s₀ : State} {s : State} {t : Fin 24} {w : Nat} (h₀ : Calm arm s₀ s) :
    Calm arm s₀ (State.wrap s t w) := by
  unfold State.wrap
  try dsimp only
  repeat' first
    | with_reducible assumption
    | with_reducible apply beginPeriod_calm
    | with_reducible apply freeHbs_calm
    | with_reducible apply modTim_calm
    | with_reducible apply takeTable_calm
    | with_reducible apply trig_calm
    | split
    | dsimp only

theorem startEdge_calm {arm : Bool} {s₀ : State} {s : State} {t : Fin 24} {e : Nat} (h₀ : Calm arm s₀ s) :
    Calm arm s₀ (State.startEdge s t e) := by
  unfold State.startEdge
  try dsimp only
  repeat' first
    | with_reducible assumption
    | with_reducible apply beginPeriod_calm
    | with_reducible apply freeHbs_calm
    | with_reducible apply modTim_calm
    | with_reducible apply trig_calm
    | split
    | dsimp only

theorem armTimer_calm {arm : Bool} {s₀ : State} {s : State} {a : Nat} {t : Fin 24} (h₀ : Calm arm s₀ s) : Calm arm s₀
    (State.armTimer s a t) :=
  calm_of_forget (armTimer_forget quiet s a t quiet_raise rfl (quiet_has _)) h₀

theorem loadAll_calm {arm : Bool} {s₀ : State} {a : Nat} {hi : Bool} {d : Word} {s : State} (h₀ : Calm arm s₀ s) :
    Calm arm s₀ (loadAll a hi d s) :=
  calm_of_forget (loadAll_forget quiet a hi d s quiet_raise rfl (quiet_has _)) h₀

theorem setRun_calm {arm : Bool} {s₀ : State} {s : State} {a : Nat} {t : Fin 24} {v : Bool} (h₀ : Calm arm s₀ s) :
    Calm arm s₀ (State.setRun s a t v) :=
  calm_of_forget (setRun_forget quiet s a t v rfl (quiet_has _) (quiet_has _)) h₀

theorem startBank_calm {arm : Bool} {s₀ : State} {s : State} {a : Nat} {b : Fin 8} (h₀ : Calm arm s₀ s) : Calm arm s₀
    (State.startBank s a b) :=
  calm_of_forget (startBank_forget quiet s a b rfl) h₀

theorem stopBank_calm {arm : Bool} {s₀ : State} {s : State} {b : Fin 8} (h₀ : Calm arm s₀ s) : Calm arm s₀
    (State.stopBank s b) :=
  calm_of_forget (stopBank_forget quiet s b rfl) h₀

theorem lineMaps_calm {arm : Bool} {s₀ : State} {s : State} {b : Fin 8} {taps : List (BitVec 6)} (h₀ : Calm arm s₀ s)
    :
    Calm arm s₀ (State.lineMaps s b taps) := by
  unfold State.lineMaps
  try dsimp only
  repeat' first
    | with_reducible assumption
    | with_reducible refine each_calm (fun u x h₁ => ?_) ?_
    | with_reducible refine modBank_calm (by
        intro x h
        first
          | exact h
          | (simp only [Bank.swap] at h; exact h)
          | (simp [Bank.start, Bank.reset] at h; done)
          | (simp at h; done)
          | (simp at h; exact h)
          | (split at h <;> first | exact h | (simp at h; done))) ?_
    | with_reducible refine round_calm_eq (by assumption) ?_
    | with_reducible apply round_calm
    | split
    | dsimp only

theorem dlcCycle_calm {arm : Bool} {s₀ : State} {b : Fin 8} {ok : Bool} {bias : Byte} {tapdly : Word} {taps : List
    (BitVec 6)} {s : State} (h₀ : Calm arm s₀ s) :
    Calm arm s₀ (dlcCycle b ok bias tapdly taps s) := by
  unfold dlcCycle
  try dsimp only
  repeat' first
    | with_reducible assumption
    | with_reducible refine modBank_calm (by
        intro x h
        first
          | exact h
          | (simp only [Bank.swap] at h; exact h)
          | (simp [Bank.start, Bank.reset] at h; done)
          | (simp at h; done)
          | (simp at h; exact h)
          | (split at h <;> first | exact h | (simp at h; done))) ?_
    | with_reducible apply lineMaps_calm
    | with_reducible apply raise_calm
    | with_reducible apply satInc_calm
    | with_reducible apply setFlags_calm
    | with_reducible apply wr_calm
    | with_reducible apply wrs_calm
    | split
    | dsimp only

theorem loseAsc_calm {arm : Bool} {s₀ : State} {s : State} {a : Fin 24} (h₀ : Calm arm s₀ s) : Calm arm s₀
    (State.loseAsc s a) :=
  calm_of_forget (loseAsc_forget quiet s a quiet_raise rfl (quiet_has _)) h₀

theorem countCut_calm {arm : Bool} {s₀ : State} {s : State} {h : Fin 72} (h₀ : Calm arm s₀ s) :
    Calm arm s₀ (State.countCut s h) := by
  unfold State.countCut
  try dsimp only
  repeat' first
    | with_reducible assumption
    | with_reducible apply bstBlock_calm
    | split
    | dsimp only

theorem ascSupply_calm {arm : Bool} {s₀ : State} {s : State} {a : Fin 24} (h₀ : Calm arm s₀ s) :
    Calm arm s₀ (State.ascSupply s a) := by
  unfold State.ascSupply
  try dsimp only
  repeat' first
    | with_reducible assumption
    | with_reducible refine each_calm (fun u x h₁ => ?_) ?_
    | with_reducible apply countCut_calm
    | with_reducible apply loseAsc_calm
    | split
    | dsimp only

theorem sideFor_calm {arm : Bool} {s₀ : State} {s : State} {a : Fin 24} {before : Bool} (h₀ : Calm arm s₀ s) :
    Calm arm s₀ (State.sideFor s a before) := by
  unfold State.sideFor
  try dsimp only
  repeat' first
    | with_reducible assumption
    | with_reducible apply ascSupply_calm
    | with_reducible apply modAx_calm
    | split
    | dsimp only

theorem rejudge_calm {arm : Bool} {s₀ : State} {s : State} {a : Fin 24} {follows : Option Side} (h₀ : Calm arm s₀ s) :
    Calm arm s₀ (State.rejudge s a follows) := by
  unfold State.rejudge
  try dsimp only
  repeat' first
    | with_reducible assumption
    | with_reducible apply ascSupply_calm
    | with_reducible apply loseAsc_calm
    | with_reducible apply modAx_calm
    | split
    | dsimp only

theorem bankCause_calm {arm : Bool} {s₀ : State} {s : State} {t : Nat} {b : Fin 8} {f : Bank → Bank} (hf : ∀ k, (f
    k).armed = true → k.armed = true) (h₀ : Calm arm s₀ s) :
    Calm arm s₀ (State.bankCause s t b f) := by
  unfold State.bankCause
  dsimp only
  refine reRow2_calm (fun u h₁ => ?_) h₀
  refine each_calm (fun u x h₁ => sideFor_calm h₁) ?_
  exact modBank_calm hf h₁

theorem stopByFault_calm {arm : Bool} {s₀ : State} {s : State} {b : Fin 8} (h₀ : Calm arm s₀ s) : Calm arm s₀
    (State.stopByFault s b) :=
  calm_of_forget (stopByFault_forget quiet s b quiet_raise rfl rfl) h₀

theorem takeReaction_calm {arm : Bool} {s₀ : State} {s : State} {a : Fin 24} {h : Fin 72} {side : Side} (h₀ : Calm arm
    s₀ s) :
    Calm arm s₀ (State.takeReaction s a h side) := by
  unfold State.takeReaction
  try dsimp only
  repeat' first
    | with_reducible assumption
    | with_reducible refine modHb_calm (by
        intro x
        constructor <;> intro h <;> first
          | exact h
          | (simp at h; done)
          | (simp at h; exact h)
          | (split at h <;> first | exact h | (simp at h; done))
          | (simp [HalfB.swapped, HalfB.start] at h; exact h)
          | (unfold HalfB.start at h; split at h <;> first | exact h | exact absurd h (by decide))) ?_
    | with_reducible apply ascSupply_calm
    | with_reducible apply modAx_calm
    | split
    | dsimp only

theorem engineFault_calm {arm : Bool} {s₀ : State} {s : State} {a : Fin 24} {r : Fin 3} (h₀ : Calm arm s₀ s) : Calm
    arm s₀ (State.engineFault s a r) :=
  calm_of_forget (engineFault_forget quiet s a r quiet_raise rfl rfl) h₀

theorem softOff_calm {arm : Bool} {s₀ : State} {s : State} {t : Nat} {h : Fin 72} {side : Side} (h₀ : Calm arm s₀ s) :
    Calm arm s₀ (State.softOff s t h side) := by
  unfold State.softOff
  try dsimp only
  repeat' first
    | with_reducible assumption
    | with_reducible refine modGate_calm (by
        intro x h
        first
          | exact h
          | (simp at h; done)
          | (simp at h; exact h)
          | (split at h <;> first | exact h | (simp at h; done))) ?_
    | with_reducible apply turnOff_calm
    | split
    | dsimp only

theorem axisReaction_calm {arm : Bool} {s₀ : State} {s : State} {t : Nat} {h : Fin 72} {side : Side} {stuck : Bool}
    (h₀ : Calm arm s₀ s) :
    Calm arm s₀ (State.axisReaction s t h side stuck) := by
  unfold State.axisReaction
  try dsimp only
  repeat' first
    | with_reducible assumption
    | with_reducible refine modHb_calm (by
        intro x
        constructor <;> intro h <;> first
          | exact h
          | (simp at h; done)
          | (simp at h; exact h)
          | (split at h <;> first | exact h | (simp at h; done))
          | (simp [HalfB.swapped, HalfB.start] at h; exact h)
          | (unfold HalfB.start at h; split at h <;> first | exact h | exact absurd h (by decide))) ?_
    | with_reducible refine reRow2_calm (fun u h₁ => ?_) ?_
    | with_reducible apply cutShuntCal_calm
    | with_reducible apply engineFault_calm
    | with_reducible apply rejudge_calm
    | with_reducible apply softOff_calm
    | with_reducible apply takeReaction_calm
    | split
    | dsimp only

theorem detect_calm {arm : Bool} {s₀ : State} {s : State} {t : Nat} {h : Fin 72} {side : Side} {k : Nat} (h₀ : Calm
    arm s₀ s) :
    Calm arm s₀ (State.detect s t h side k) := by
  unfold State.detect
  try dsimp only
  repeat' first
    | with_reducible assumption
    | with_reducible apply axisReaction_calm
    | with_reducible apply raise_calm
    | with_reducible apply setFlags_calm
    | with_reducible apply wr_calm
    | split
    | dsimp only

theorem releaseFaults_calm {arm : Bool} {s₀ : State} {s : State} {t : Nat} {b : Fin 8} (h₀ : Calm arm s₀ s) :
    Calm arm s₀ (State.releaseFaults s t b) := by
  unfold State.releaseFaults
  try dsimp only
  repeat' first
    | with_reducible assumption
    | with_reducible refine each_calm (fun u x h₁ => ?_) ?_
    | with_reducible refine modHb_calm (by
        intro x
        constructor <;> intro h <;> first
          | exact h
          | (simp at h; done)
          | (simp at h; exact h)
          | (split at h <;> first | exact h | (simp at h; done))
          | (simp [HalfB.swapped, HalfB.start] at h; exact h)
          | (unfold HalfB.start at h; split at h <;> first | exact h | exact absurd h (by decide))) ?_
    | with_reducible refine reRow2_calm (fun u h₁ => ?_) ?_
    | with_reducible apply modAx_calm
    | split
    | dsimp only

theorem gateCheck_calm {arm : Bool} {s₀ : State} {s : State} {t : Nat} {b : Fin 8} (h₀ : Calm arm s₀ s) : Calm arm s₀
    (State.gateCheck s t b) :=
  calm_of_forget (gateCheck_forget quiet s t b rfl) h₀

theorem refloatAll_calm {arm : Bool} {s₀ : State} {s : State} {t : Nat} (h₀ : Calm arm s₀ s) :
    Calm arm s₀ (State.refloatAll s t) := by
  unfold State.refloatAll
  try dsimp only
  repeat' first
    | with_reducible assumption
    | with_reducible refine each_calm (fun u x h₁ => ?_) ?_
    | with_reducible apply gateCheck_calm
    | with_reducible apply refloat_calm
    | split
    | dsimp only

theorem endHold_calm {arm : Bool} {s₀ : State} {s : State} {t : Nat} {b : Fin 8} (h₀ : Calm arm s₀ s) :
    Calm arm s₀ (State.endHold s t b) := by
  unfold State.endHold
  try dsimp only
  repeat' first
    | with_reducible assumption
    | with_reducible refine bankCause_calm (by
        intro x h
        first
          | exact h
          | (simp only [Bank.swap] at h; exact h)
          | (simp [Bank.start, Bank.reset] at h; done)
          | (simp at h; done)
          | (simp at h; exact h)
          | (split at h <;> first | exact h | (simp at h; done))) ?_
    | with_reducible apply refloat_calm
    | split
    | dsimp only

theorem releaseOwner_calm {arm : Bool} {s₀ : State} {s : State} {t : Nat} {cause : Nat} (h₀ : Calm arm s₀ s) :
    Calm arm s₀ (State.releaseOwner s t cause) := by
  unfold State.releaseOwner
  try dsimp only
  repeat' first
    | with_reducible assumption
    | with_reducible apply modPair_calm
    | with_reducible apply raise_calm
    | with_reducible apply refloatAll_calm
    | split
    | dsimp only

theorem contention_calm {arm : Bool} {s₀ : State} {s : State} {t : Nat} {h : Fin 72} (h₀ : Calm arm s₀ s) :
    Calm arm s₀ (State.contention s t h) := by
  unfold State.contention
  try dsimp only
  repeat' first
    | with_reducible assumption
    | with_reducible refine each_calm (fun u x h₁ => ?_) ?_
    | with_reducible apply disarm_calm
    | with_reducible apply modPair_calm
    | with_reducible apply raise_calm
    | with_reducible apply refloatAll_calm
    | with_reducible apply releaseOwner_calm
    | split
    | dsimp only

theorem gateOffSensed_calm {arm : Bool} {s₀ : State} {t : Nat} {h : Fin 72} {side : Side} {s : State} (h₀ : Calm arm
    s₀ s) :
    Calm arm s₀ (gateOffSensed t h side s) := by
  unfold gateOffSensed
  try dsimp only
  repeat' first
    | with_reducible assumption
    | with_reducible refine modGate_calm (by
        intro x h
        first
          | exact h
          | (simp at h; done)
          | (simp at h; exact h)
          | (split at h <;> first | exact h | (simp at h; done))) ?_
    | with_reducible apply gateCheck_calm
    | split
    | dsimp only

theorem gateStuck_calm {arm : Bool} {s₀ : State} {t : Nat} {h : Fin 72} {side : Side} {s : State} (h₀ : Calm arm s₀ s)
    :
    Calm arm s₀ (gateStuck t h side s) := by
  unfold gateStuck
  try dsimp only
  repeat' first
    | with_reducible assumption
    | with_reducible refine modGate_calm (by
        intro x h
        first
          | exact h
          | (simp at h; done)
          | (simp at h; exact h)
          | (split at h <;> first | exact h | (simp at h; done))) ?_
    | with_reducible apply axisReaction_calm
    | with_reducible apply deliver_calm
    | with_reducible apply raise_calm
    | with_reducible apply setFlags_calm
    | split
    | dsimp only

theorem gateFgn_calm {arm : Bool} {s₀ : State} {t : Nat} {h : Fin 72} {side : Side} {s : State} (h₀ : Calm arm s₀ s) :
    Calm arm s₀ (gateFgn t h side s) := by
  unfold gateFgn
  try dsimp only
  repeat' first
    | with_reducible assumption
    | with_reducible refine modGate_calm (by
        intro x h
        first
          | exact h
          | (simp at h; done)
          | (simp at h; exact h)
          | (split at h <;> first | exact h | (simp at h; done))) ?_
    | with_reducible apply contention_calm
    | with_reducible apply gateCheck_calm
    | with_reducible apply raise_calm
    | with_reducible apply setFlags_calm
    | split
    | dsimp only

theorem leaveFloat_calm {arm : Bool} {s₀ : State} {s : State} {t : Nat} {b : Fin 8} (h₀ : Calm arm s₀ s) :
    Calm arm s₀ (State.leaveFloat s t b) := by
  unfold State.leaveFloat
  try dsimp only
  repeat' first
    | with_reducible assumption
    | with_reducible refine modBank_calm (by
        intro x h
        first
          | exact h
          | (simp only [Bank.swap] at h; exact h)
          | (simp [Bank.start, Bank.reset] at h; done)
          | (simp at h; done)
          | (simp at h; exact h)
          | (split at h <;> first | exact h | (simp at h; done))) ?_
    | with_reducible apply enableStages_calm
    | with_reducible apply redriveBank_calm
    | split
    | dsimp only

theorem vdrvUv_calm {arm : Bool} {s₀ : State} {t : Nat} {b : Fin 8} {s : State} (h₀ : Calm arm s₀ s) :
    Calm arm s₀ (vdrvUv t b s) := by
  unfold vdrvUv
  try dsimp only
  repeat' first
    | with_reducible assumption
    | with_reducible refine modBank_calm (by
        intro x h
        first
          | exact h
          | (simp only [Bank.swap] at h; exact h)
          | (simp [Bank.start, Bank.reset] at h; done)
          | (simp at h; done)
          | (simp at h; exact h)
          | (split at h <;> first | exact h | (simp at h; done))) ?_
    | with_reducible refine bankCause_calm (by
        intro x h
        first
          | exact h
          | (simp only [Bank.swap] at h; exact h)
          | (simp [Bank.start, Bank.reset] at h; done)
          | (simp at h; done)
          | (simp at h; exact h)
          | (split at h <;> first | exact h | (simp at h; done))) ?_
    | with_reducible apply endHold_calm
    | with_reducible apply raise_calm
    | with_reducible apply setFlags_calm
    | split
    | dsimp only

theorem vcpUv_calm {arm : Bool} {s₀ : State} {t : Nat} {b : Fin 8} {s : State} (h₀ : Calm arm s₀ s) :
    Calm arm s₀ (vcpUv t b s) := by
  unfold vcpUv
  try dsimp only
  repeat' first
    | with_reducible assumption
    | with_reducible refine each_calm (fun u x h₁ => ?_) ?_
    | with_reducible refine modBank_calm (by
        intro x h
        first
          | exact h
          | (simp only [Bank.swap] at h; exact h)
          | (simp [Bank.start, Bank.reset] at h; done)
          | (simp at h; done)
          | (simp at h; exact h)
          | (split at h <;> first | exact h | (simp at h; done))) ?_
    | with_reducible refine bankCause_calm (by
        intro x h
        first
          | exact h
          | (simp only [Bank.swap] at h; exact h)
          | (simp [Bank.start, Bank.reset] at h; done)
          | (simp at h; done)
          | (simp at h; exact h)
          | (split at h <;> first | exact h | (simp at h; done))) ?_
    | with_reducible refine reRow2_calm (fun u h₁ => ?_) ?_
    | with_reducible apply loseAsc_calm
    | with_reducible apply modAx_calm
    | with_reducible apply raise_calm
    | with_reducible apply rejudge_calm
    | with_reducible apply setFlags_calm
    | split
    | dsimp only

theorem bstUv_calm {arm : Bool} {s₀ : State} {t : Nat} {h : Fin 72} {s : State} (h₀ : Calm arm s₀ s) :
    Calm arm s₀ (bstUv t h s) := by
  unfold bstUv
  try dsimp only
  repeat' first
    | with_reducible assumption
    | with_reducible refine modHb_calm (by
        intro x
        constructor <;> intro h <;> first
          | exact h
          | (simp at h; done)
          | (simp at h; exact h)
          | (split at h <;> first | exact h | (simp at h; done))
          | (simp [HalfB.swapped, HalfB.start] at h; exact h)
          | (unfold HalfB.start at h; split at h <;> first | exact h | exact absurd h (by decide))) ?_
    | with_reducible refine reRow2_calm (fun u h₁ => ?_) ?_
    | with_reducible apply ascSupply_calm
    | with_reducible apply countCut_calm
    | with_reducible apply redrive_calm
    | split
    | dsimp only

theorem supplyRise_calm {arm : Bool} {s₀ : State} {which : Fin 3} {i : Fin 72} {s : State} (h₀ : Calm arm s₀ s) :
    Calm arm s₀ (supplyRise which i s) := by
  unfold supplyRise
  try dsimp only
  repeat' first
    | with_reducible assumption
    | with_reducible refine modHb_calm (by
        intro x
        constructor <;> intro h <;> first
          | exact h
          | (simp at h; done)
          | (simp at h; exact h)
          | (split at h <;> first | exact h | (simp at h; done))
          | (simp [HalfB.swapped, HalfB.start] at h; exact h)
          | (unfold HalfB.start at h; split at h <;> first | exact h | exact absurd h (by decide))) ?_
    | with_reducible refine modBank_calm (by
        intro x h
        first
          | exact h
          | (simp only [Bank.swap] at h; exact h)
          | (simp [Bank.start, Bank.reset] at h; done)
          | (simp at h; done)
          | (simp at h; exact h)
          | (split at h <;> first | exact h | (simp at h; done))) ?_
    | split
    | dsimp only

theorem gsupFltClear_calm {arm : Bool} {s₀ : State} {b : Fin 8} {d : Word} {s : State} (h₀ : Calm arm s₀ s) :
    Calm arm s₀ (gsupFltClear b d s) := by
  unfold gsupFltClear
  try dsimp only
  repeat' first
    | with_reducible assumption
    | with_reducible refine bankCause_calm (by
        intro x h
        first
          | exact h
          | (simp only [Bank.swap] at h; exact h)
          | (simp [Bank.start, Bank.reset] at h; done)
          | (simp at h; done)
          | (simp at h; exact h)
          | (split at h <;> first | exact h | (simp at h; done))) ?_
    | with_reducible apply clrFlags_calm
    | split
    | dsimp only

theorem passes_calm {arm : Bool} {s₀ : State} {s : State} {width lo hi : Nat} (h₀ : Calm arm s₀ s) : Calm arm s₀
    (State.passes s width lo hi).1 :=
  calm_of_forget (passes_forget quiet s width lo hi rfl) h₀

theorem passes_calm_eq {arm : Bool} {s₀ : State} {s : State} {width lo hi : Nat} {t' : State} {v' : Bool} (e :
    State.passes s width lo hi = (t', v')) (h₀ : Calm arm s₀ s) :
    Calm arm s₀ t' := by
  have : Calm arm s₀ (State.passes s width lo hi).1 := passes_calm h₀
  rwa [e] at this

theorem setDdp_calm {arm : Bool} {s₀ : State} {s : State} {en : Bool} {i : Fin 9} {level : Bool} (h₀ : Calm arm s₀ s)
    : Calm arm s₀ (State.setDdp s en i level) :=
  calm_of_forget (setDdp_forget quiet s en i level rfl) h₀

theorem protChfltClear_calm {arm : Bool} {s₀ : State} {b : Fin 8} {i : Fin 9} {d : Word} {s : State} (h₀ : Calm arm s₀
    s) :
    Calm arm s₀ (protChfltClear b i d s) := by
  unfold protChfltClear
  try dsimp only
  repeat' first
    | with_reducible assumption
    | with_reducible apply clrFlags_calm
    | with_reducible apply releaseFaults_calm
    | with_reducible apply wr_calm
    | split
    | dsimp only

theorem tripRecognised_calm {arm : Bool} {s₀ : State} {t : Nat} {b : Fin 8} {s : State} (h₀ : Calm arm s₀ s) :
    Calm arm s₀ (tripRecognised t b s) := by
  unfold tripRecognised
  try dsimp only
  repeat' first
    | with_reducible assumption
    | with_reducible refine modBank_calm (by
        intro x h
        first
          | exact h
          | (simp only [Bank.swap] at h; exact h)
          | (simp [Bank.start, Bank.reset] at h; done)
          | (simp at h; done)
          | (simp at h; exact h)
          | (split at h <;> first | exact h | (simp at h; done))) ?_
    | with_reducible refine bankCause_calm (by
        intro x h
        first
          | exact h
          | (simp only [Bank.swap] at h; exact h)
          | (simp [Bank.start, Bank.reset] at h; done)
          | (simp at h; done)
          | (simp at h; exact h)
          | (split at h <;> first | exact h | (simp at h; done))) ?_
    | with_reducible apply raise_calm
    | with_reducible apply setFlags_calm
    | with_reducible apply stopByFault_calm
    | split
    | dsimp only

theorem tripRelease_calm {arm : Bool} {s₀ : State} {b : Fin 8} {s : State} (h₀ : Calm arm s₀ s) :
    Calm arm s₀ (tripRelease b s) := by
  unfold tripRelease
  try dsimp only
  repeat' first
    | with_reducible assumption
    | with_reducible refine modBank_calm (by
        intro x h
        first
          | exact h
          | (simp only [Bank.swap] at h; exact h)
          | (simp [Bank.start, Bank.reset] at h; done)
          | (simp at h; done)
          | (simp at h; exact h)
          | (split at h <;> first | exact h | (simp at h; done))) ?_
    | with_reducible refine bankCause_calm (by
        intro x h
        first
          | exact h
          | (simp only [Bank.swap] at h; exact h)
          | (simp [Bank.start, Bank.reset] at h; done)
          | (simp at h; done)
          | (simp at h; exact h)
          | (split at h <;> first | exact h | (simp at h; done))) ?_
    | split
    | dsimp only

theorem limitHb_calm {arm : Bool} {s₀ : State} {t : Nat} {h : Fin 72} {c : HbCmd} {s : State} (h₀ : Calm arm s₀ s) :
    Calm arm s₀ (limitHb t h c s) := by
  unfold limitHb
  try dsimp only
  repeat' first
    | with_reducible assumption
    | with_reducible refine modHb_calm (by
        intro x
        constructor <;> intro h <;> first
          | exact h
          | (simp at h; done)
          | (simp at h; exact h)
          | (split at h <;> first | exact h | (simp at h; done))
          | (simp [HalfB.swapped, HalfB.start] at h; exact h)
          | (unfold HalfB.start at h; split at h <;> first | exact h | exact absurd h (by decide))) ?_
    | with_reducible apply raise_calm
    | with_reducible apply redrive_calm
    | with_reducible apply satInc_calm
    | with_reducible apply setFlags_calm
    | split
    | dsimp only

theorem chopperOff_calm {arm : Bool} {s₀ : State} {t : Nat} {b : Fin 8} {s : State} (h₀ : Calm arm s₀ s) :
    Calm arm s₀ (chopperOff t b s) := by
  unfold chopperOff
  try dsimp only
  repeat' first
    | with_reducible assumption
    | with_reducible refine modBank_calm (by
        intro x h
        first
          | exact h
          | (simp only [Bank.swap] at h; exact h)
          | (simp [Bank.start, Bank.reset] at h; done)
          | (simp at h; done)
          | (simp at h; exact h)
          | (split at h <;> first | exact h | (simp at h; done))) ?_
    | with_reducible refine bankCause_calm (by
        intro x h
        first
          | exact h
          | (simp only [Bank.swap] at h; exact h)
          | (simp [Bank.start, Bank.reset] at h; done)
          | (simp at h; done)
          | (simp at h; exact h)
          | (split at h <;> first | exact h | (simp at h; done))) ?_
    | with_reducible apply redriveBank_calm
    | with_reducible apply vov2_calm
    | split
    | dsimp only

theorem vov2_calm {arm : Bool} {s₀ : State} {t : Nat} {b : Fin 8} {s : State} (h₀ : Calm arm s₀ s) :
    Calm arm s₀ (vov2 t b s) := by
  unfold vov2
  try dsimp only
  repeat' first
    | with_reducible assumption
    | with_reducible refine modBank_calm (by
        intro x h
        first
          | exact h
          | (simp only [Bank.swap] at h; exact h)
          | (simp [Bank.start, Bank.reset] at h; done)
          | (simp at h; done)
          | (simp at h; exact h)
          | (split at h <;> first | exact h | (simp at h; done))) ?_
    | with_reducible refine bankCause_calm (by
        intro x h
        first
          | exact h
          | (simp only [Bank.swap] at h; exact h)
          | (simp [Bank.start, Bank.reset] at h; done)
          | (simp at h; done)
          | (simp at h; exact h)
          | (split at h <;> first | exact h | (simp at h; done))) ?_
    | with_reducible apply raise_calm
    | with_reducible apply setFlags_calm
    | with_reducible apply stopByFault_calm
    | split
    | dsimp only

theorem ots_calm {arm : Bool} {s₀ : State} {t : Nat} {b : Fin 8} {s : State} (h₀ : Calm arm s₀ s) :
    Calm arm s₀ (ots t b s) := by
  unfold ots
  try dsimp only
  repeat' first
    | with_reducible assumption
    | with_reducible refine bankCause_calm (by
        intro x h
        first
          | exact h
          | (simp only [Bank.swap] at h; exact h)
          | (simp [Bank.start, Bank.reset] at h; done)
          | (simp at h; done)
          | (simp at h; exact h)
          | (split at h <;> first | exact h | (simp at h; done))) ?_
    | with_reducible apply raise_calm
    | with_reducible apply setFlags_calm
    | with_reducible apply stopByFault_calm
    | split
    | dsimp only

theorem cooled_calm {arm : Bool} {s₀ : State} {s : State} {b : Fin 8} (h₀ : Calm arm s₀ s) : Calm arm s₀ (State.cooled
    s b).1 :=
  calm_of_forget (cooled_forget quiet s b rfl) h₀

theorem cooled_calm_eq {arm : Bool} {s₀ : State} {s : State} {b : Fin 8} {t' : State} {v' : Bool} (e : State.cooled s
    b = (t', v')) (h₀ : Calm arm s₀ s) :
    Calm arm s₀ t' := by
  have : Calm arm s₀ (State.cooled s b).1 := cooled_calm h₀
  rwa [e] at this

theorem judgeOts_calm {arm : Bool} {s₀ : State} {s : State} {t : Nat} {b : Fin 8} (h₀ : Calm arm s₀ s) :
    Calm arm s₀ (State.judgeOts s t b) := by
  unfold State.judgeOts
  try dsimp only
  repeat' first
    | with_reducible assumption
    | with_reducible refine bankCause_calm (by
        intro x h
        first
          | exact h
          | (simp only [Bank.swap] at h; exact h)
          | (simp [Bank.start, Bank.reset] at h; done)
          | (simp at h; done)
          | (simp at h; exact h)
          | (split at h <;> first | exact h | (simp at h; done))) ?_
    | with_reducible refine cooled_calm_eq (by assumption) ?_
    | with_reducible apply cooled_calm
    | with_reducible apply ots_calm
    | split
    | dsimp only

theorem protBfltClear_calm {arm : Bool} {s₀ : State} {b : Fin 8} {d : Word} {s : State} (h₀ : Calm arm s₀ s) :
    Calm arm s₀ (protBfltClear b d s) := by
  unfold protBfltClear
  try dsimp only
  repeat' first
    | with_reducible assumption
    | with_reducible refine bankCause_calm (by
        intro x h
        first
          | exact h
          | (simp only [Bank.swap] at h; exact h)
          | (simp [Bank.start, Bank.reset] at h; done)
          | (simp at h; done)
          | (simp at h; exact h)
          | (split at h <;> first | exact h | (simp at h; done))) ?_
    | with_reducible apply clrFlags_calm
    | with_reducible apply judgeOts_calm
    | with_reducible apply vov2_calm
    | split
    | dsimp only

theorem raiseSafeDev_calm {arm : Bool} {s₀ : State} {s : State} {cause detail : Nat} (h₀ : Calm arm s₀ s) : Calm arm
    s₀ (State.raiseSafeDev s cause detail) :=
  calm_of_forget (raiseSafeDev_forget quiet s cause detail quiet_raise) h₀

theorem latchCause_calm {arm : Bool} {s₀ : State} {s : State} {cause detail : Nat} (h₀ : Calm arm s₀ s) : Calm arm s₀
    (State.latchCause s cause detail) :=
  calm_of_forget (latchCause_forget quiet s cause detail rfl (quiet_has _) (quiet_has _)) h₀

theorem deviceWide_calm {arm : Bool} {s₀ : State} {s : State} {t cause detail : Nat} (h₀ : Calm arm s₀ s) :
    Calm arm s₀ (State.deviceWide s t cause detail) := by
  unfold State.deviceWide
  try dsimp only
  repeat' first
    | with_reducible assumption
    | with_reducible refine each_calm (fun u x h₁ => ?_) ?_
    | with_reducible refine bankCause_calm (by
        intro x h
        first
          | exact h
          | (simp only [Bank.swap] at h; exact h)
          | (simp [Bank.start, Bank.reset] at h; done)
          | (simp at h; done)
          | (simp at h; exact h)
          | (split at h <;> first | exact h | (simp at h; done))) ?_
    | with_reducible apply disarm_calm
    | with_reducible apply failOp_calm
    | with_reducible apply latchCause_calm
    | with_reducible apply modPair_calm
    | with_reducible apply raiseSafeDev_calm
    | with_reducible apply releaseOwner_calm
    | with_reducible apply stopAxis_calm
    | split
    | dsimp only

theorem safeClr_calm {arm : Bool} {s₀ : State} {s : State} (h₀ : Calm arm s₀ s) :
    Calm arm s₀ (safeClr s) := by
  unfold safeClr
  try dsimp only
  repeat' first
    | with_reducible assumption
    | with_reducible refine each_calm (fun u x h₁ => ?_) ?_
    | with_reducible refine bankCause_calm (by
        intro x h
        first
          | exact h
          | (simp only [Bank.swap] at h; exact h)
          | (simp [Bank.start, Bank.reset] at h; done)
          | (simp at h; done)
          | (simp at h; exact h)
          | (split at h <;> first | exact h | (simp at h; done))) ?_
    | with_reducible apply modSafe_calm
    | split
    | dsimp only

theorem clockFlags_calm {arm : Bool} {s₀ : State} {s : State} {t : Nat} {m : Word} (h₀ : Calm arm s₀ s) :
    Calm arm s₀ (State.clockFlags s t m) := by
  unfold State.clockFlags
  try dsimp only
  repeat' first
    | with_reducible assumption
    | with_reducible apply deviceWide_calm
    | with_reducible apply raise_calm
    | with_reducible apply setFlags_calm
    | split
    | dsimp only

theorem monitorWindow_calm {arm : Bool} {s₀ : State} {ref core : Word} {lost : Bool} {s : State} (h₀ : Calm arm s₀ s)
    :
    Calm arm s₀ (monitorWindow ref core lost s) := by
  unfold monitorWindow
  try dsimp only
  repeat' first
    | with_reducible assumption
    | with_reducible apply clockFlags_calm
    | with_reducible apply modClk_calm
    | with_reducible apply ppsBreak_calm
    | with_reducible apply wr_calm
    | split
    | dsimp only

theorem setPlaus_calm {arm : Bool} {s₀ : State} {s : State} {t : Nat} {a : Fin 24} {v : Bool} (h₀ : Calm arm s₀ s) :
    Calm arm s₀ (State.setPlaus s t a v) := by
  unfold State.setPlaus
  try dsimp only
  repeat' first
    | with_reducible assumption
    | with_reducible refine reRow2_calm (fun u h₁ => ?_) ?_
    | with_reducible apply modAx_calm
    | with_reducible apply sideFor_calm
    | split
    | dsimp only

theorem plausTrip_calm {arm : Bool} {s₀ : State} {t : Nat} {a : Fin 24} {s : State} (h₀ : Calm arm s₀ s) :
    Calm arm s₀ (plausTrip t a s) := by
  unfold plausTrip
  try dsimp only
  repeat' first
    | with_reducible assumption
    | with_reducible apply modAx_calm
    | with_reducible apply raiseSafeDev_calm
    | with_reducible apply setFlags_calm
    | with_reducible apply setPlaus_calm
    | with_reducible apply stopAxis_calm
    | split
    | dsimp only

theorem safePlfltClear_calm {arm : Bool} {s₀ : State} {hi : Bool} {d : Word} {s : State} (h₀ : Calm arm s₀ s) :
    Calm arm s₀ (safePlfltClear hi d s) := by
  unfold safePlfltClear
  try dsimp only
  repeat' first
    | with_reducible assumption
    | with_reducible refine each_calm (fun u x h₁ => ?_) ?_
    | with_reducible apply clrFlags_calm
    | with_reducible apply setPlaus_calm
    | split
    | dsimp only

theorem dieLinkLoss_calm {arm : Bool} {s₀ : State} {t : Nat} {k : Fin 4} {s : State} (h₀ : Calm arm s₀ s) :
    Calm arm s₀ (dieLinkLoss t k s) := by
  unfold dieLinkLoss
  try dsimp only
  repeat' first
    | with_reducible assumption
    | with_reducible refine each_calm (fun u x h₁ => ?_) ?_
    | with_reducible refine bankCause_calm (by
        intro x h
        first
          | exact h
          | (simp only [Bank.swap] at h; exact h)
          | (simp [Bank.start, Bank.reset] at h; done)
          | (simp at h; done)
          | (simp at h; exact h)
          | (split at h <;> first | exact h | (simp at h; done))) ?_
    | with_reducible apply disarm_calm
    | with_reducible apply modSafe_calm
    | with_reducible apply raiseSafeDev_calm
    | split
    | dsimp only

theorem wdog_calm {arm : Bool} {s₀ : State} {s : State} {t kind : Nat} (h₀ : Calm arm s₀ s) :
    Calm arm s₀ (State.wdog s t kind) := by
  unfold State.wdog
  try dsimp only
  repeat' first
    | with_reducible assumption
    | with_reducible apply deviceWide_calm
    | with_reducible apply modSafe_calm
    | with_reducible apply raise_calm
    | split
    | dsimp only

theorem safeWdcfg_calm {arm : Bool} {s₀ : State} {d : Word} {s : State} (h₀ : Calm arm s₀ s) : Calm arm s₀ (safeWdcfg
    d s) :=
  calm_of_forget (safeWdcfg_forget quiet d s rfl (quiet_has _)) h₀

theorem wdogLate_calm {arm : Bool} {s₀ : State} {t : Nat} {s : State} (h₀ : Calm arm s₀ s) :
    Calm arm s₀ (wdogLate t s) := by
  unfold wdogLate
  try dsimp only
  repeat' first
    | with_reducible assumption
    | with_reducible apply modSafe_calm
    | with_reducible apply wdog_calm
    | split
    | dsimp only

theorem watchdogKick_calm {arm : Bool} {s₀ : State} {t : Nat} {d : Word} {s : State} (h₀ : Calm arm s₀ s) :
    Calm arm s₀ (watchdogKick t d s) := by
  unfold watchdogKick
  try dsimp only
  repeat' first
    | with_reducible assumption
    | with_reducible apply modSafe_calm
    | with_reducible apply wdog_calm
    | with_reducible apply wdogLate_calm
    | split
    | dsimp only

theorem estop_calm {arm : Bool} {s₀ : State} {t : Nat} {s : State} (h₀ : Calm arm s₀ s) :
    Calm arm s₀ (estop t s) := by
  unfold estop
  try dsimp only
  repeat' first
    | with_reducible assumption
    | with_reducible refine each_calm (fun u x h₁ => ?_) ?_
    | with_reducible refine bankCause_calm (by
        intro x h
        first
          | exact h
          | (simp only [Bank.swap] at h; exact h)
          | (simp [Bank.start, Bank.reset] at h; done)
          | (simp at h; done)
          | (simp at h; exact h)
          | (split at h <;> first | exact h | (simp at h; done))) ?_
    | with_reducible apply disarm_calm
    | with_reducible apply modSafe_calm
    | with_reducible apply raise_calm
    | with_reducible apply stopAxis_calm
    | split
    | dsimp only

theorem armPrepare_calm {arm : Bool} {s₀ : State} {b : Fin 8} {s : State} (h₀ : Calm arm s₀ s) :
    Calm arm s₀ (armPrepare b s) := by
  unfold armPrepare
  try dsimp only
  repeat' first
    | with_reducible assumption
    | with_reducible refine modBank_calm (by
        intro x h
        first
          | exact h
          | (simp only [Bank.swap] at h; exact h)
          | (simp [Bank.start, Bank.reset] at h; done)
          | (simp at h; done)
          | (simp at h; exact h)
          | (split at h <;> first | exact h | (simp at h; done))) ?_
    | split
    | dsimp only

theorem armComplete_calm {s₀ : State} {t : Nat} {b : Fin 8} {s : State} (h₀ : Calm false s₀ s) :
    Calm false s₀ (armComplete t b s) := by
  unfold armComplete
  try dsimp only
  repeat' first
    | with_reducible assumption
    | with_reducible apply modBank_any
    | with_reducible apply cutDlineCal_calm
    | with_reducible apply cutSelfTest_calm
    | with_reducible apply raiseArm_calm
    | with_reducible apply redriveBank_calm
    | split
    | dsimp only

theorem hostDisarm_calm {arm : Bool} {s₀ : State} {t : Nat} {b : Fin 8} {s : State} (h₀ : Calm arm s₀ s) :
    Calm arm s₀ (hostDisarm t b s) := by
  unfold hostDisarm
  try dsimp only
  repeat' first
    | with_reducible assumption
    | with_reducible refine modBank_calm (by
        intro x h
        first
          | exact h
          | (simp only [Bank.swap] at h; exact h)
          | (simp [Bank.start, Bank.reset] at h; done)
          | (simp at h; done)
          | (simp at h; exact h)
          | (split at h <;> first | exact h | (simp at h; done))) ?_
    | with_reducible apply cutShuntCal_calm
    | with_reducible apply disarm_calm
    | with_reducible apply raiseArm_calm
    | split
    | dsimp only

theorem bemfCross_calm {arm : Bool} {s₀ : State} {s : State} {h : Fin 72} {old new : Word} (h₀ : Calm arm s₀ s) : Calm
    arm s₀ (State.bemfCross s h old new) :=
  calm_of_forget (bemfCross_forget quiet s h old new rfl) h₀

theorem convFault_calm {arm : Bool} {s₀ : State} {s : State} {t : Nat} {b : Fin 8} (h₀ : Calm arm s₀ s) :
    Calm arm s₀ (State.convFault s t b) := by
  unfold State.convFault
  try dsimp only
  repeat' first
    | with_reducible assumption
    | with_reducible refine bankCause_calm (by
        intro x h
        first
          | exact h
          | (simp only [Bank.swap] at h; exact h)
          | (simp [Bank.start, Bank.reset] at h; done)
          | (simp at h; done)
          | (simp at h; exact h)
          | (split at h <;> first | exact h | (simp at h; done))) ?_
    | with_reducible apply disarm_calm
    | with_reducible apply raiseSafeDev_calm
    | split
    | dsimp only

theorem refResult_calm {arm : Bool} {s₀ : State} {s : State} {t : Nat} {b : Fin 8} {w : Word} (h₀ : Calm arm s₀ s) :
    Calm arm s₀ (State.refResult s t b w) := by
  unfold State.refResult
  try dsimp only
  repeat' first
    | with_reducible assumption
    | with_reducible refine modBank_calm (by
        intro x h
        first
          | exact h
          | (simp only [Bank.swap] at h; exact h)
          | (simp [Bank.start, Bank.reset] at h; done)
          | (simp at h; done)
          | (simp at h; exact h)
          | (split at h <;> first | exact h | (simp at h; done))) ?_
    | with_reducible refine bankCause_calm (by
        intro x h
        first
          | exact h
          | (simp only [Bank.swap] at h; exact h)
          | (simp [Bank.start, Bank.reset] at h; done)
          | (simp at h; done)
          | (simp at h; exact h)
          | (split at h <;> first | exact h | (simp at h; done))) ?_
    | with_reducible apply convFault_calm
    | with_reducible apply wr_calm
    | split
    | dsimp only

theorem tempResult_calm {arm : Bool} {s₀ : State} {s : State} {t : Nat} {b : Fin 8} {n : Nat} (h₀ : Calm arm s₀ s) :
    Calm arm s₀ (State.tempResult s t b n) := by
  unfold State.tempResult
  try dsimp only
  repeat' first
    | with_reducible assumption
    | with_reducible refine modBank_calm (by
        intro x h
        first
          | exact h
          | (simp only [Bank.swap] at h; exact h)
          | (simp [Bank.start, Bank.reset] at h; done)
          | (simp at h; done)
          | (simp at h; exact h)
          | (split at h <;> first | exact h | (simp at h; done))) ?_
    | with_reducible apply judgeOts_calm
    | with_reducible apply raise_calm
    | with_reducible apply setFlags_calm
    | with_reducible apply wr_calm
    | split
    | dsimp only

theorem vov1Seen_calm {arm : Bool} {s₀ : State} {s : State} {b : Fin 8} {v : Int} (h₀ : Calm arm s₀ s) :
    Calm arm s₀ (State.vov1Seen s b v) := by
  unfold State.vov1Seen
  try dsimp only
  repeat' first
    | with_reducible assumption
    | with_reducible refine modBank_calm (by
        intro x h
        first
          | exact h
          | (simp only [Bank.swap] at h; exact h)
          | (simp [Bank.start, Bank.reset] at h; done)
          | (simp at h; done)
          | (simp at h; exact h)
          | (split at h <;> first | exact h | (simp at h; done))) ?_
    | with_reducible apply took_calm
    | split
    | dsimp only

theorem vmResult_calm {arm : Bool} {s₀ : State} {s : State} {b : Fin 8} {w : Word} (h₀ : Calm arm s₀ s) :
    Calm arm s₀ (State.vmResult s b w) := by
  unfold State.vmResult
  try dsimp only
  repeat' first
    | with_reducible assumption
    | with_reducible refine modBank_calm (by
        intro x h
        first
          | exact h
          | (simp only [Bank.swap] at h; exact h)
          | (simp [Bank.start, Bank.reset] at h; done)
          | (simp at h; done)
          | (simp at h; exact h)
          | (split at h <;> first | exact h | (simp at h; done))) ?_
    | with_reducible refine round_calm_eq (by assumption) ?_
    | with_reducible apply round_calm
    | with_reducible apply vov1Seen_calm
    | with_reducible apply wr_calm
    | split
    | dsimp only

theorem loadLatest_calm {arm : Bool} {s₀ : State} {s : State} {t : Nat} {b : Fin 8} {entry n : Nat} (h₀ : Calm arm s₀
    s) :
    Calm arm s₀ (State.loadLatest s t b entry n) := by
  unfold State.loadLatest
  try dsimp only
  repeat' first
    | with_reducible assumption
    | with_reducible refine modHb_calm (by
        intro x
        constructor <;> intro h <;> first
          | exact h
          | (simp at h; done)
          | (simp at h; exact h)
          | (split at h <;> first | exact h | (simp at h; done))
          | (simp [HalfB.swapped, HalfB.start] at h; exact h)
          | (unfold HalfB.start at h; split at h <;> first | exact h | exact absurd h (by decide))) ?_
    | with_reducible apply bemfCross_calm
    | with_reducible apply modAx_calm
    | with_reducible apply refResult_calm
    | with_reducible apply tempResult_calm
    | with_reducible apply vmResult_calm
    | with_reducible apply wr_calm
    | split
    | dsimp only

theorem convStart_calm {arm : Bool} {s₀ : State} {c : Fin 24} {s : State} (h₀ : Calm arm s₀ s) :
    Calm arm s₀ (convStart c s) := by
  unfold convStart
  try dsimp only
  repeat' first
    | with_reducible assumption
    | with_reducible apply modConv_calm
    | with_reducible apply satInc_calm
    | split
    | dsimp only

theorem seqDone_calm {arm : Bool} {s₀ : State} {t : Nat} {c : Fin 24} {k n : Nat} {s : State} (h₀ : Calm arm s₀ s) :
    Calm arm s₀ (seqDone t c k n s) := by
  unfold seqDone
  try dsimp only
  repeat' first
    | with_reducible assumption
    | with_reducible apply loadLatest_calm
    | with_reducible apply modConv_calm
    | with_reducible apply wr_calm
    | with_reducible apply wrapInc_calm
    | split
    | dsimp only

theorem bgDone_calm {arm : Bool} {s₀ : State} {t : Nat} {c : Fin 24} {n : Nat} {s : State} (h₀ : Calm arm s₀ s) :
    Calm arm s₀ (bgDone t c n s) := by
  unfold bgDone
  try dsimp only
  repeat' first
    | with_reducible assumption
    | with_reducible apply loadLatest_calm
    | with_reducible apply modConv_calm
    | split
    | dsimp only

theorem calChannel_calm {arm : Bool} {s₀ : State} {s : State} {i : Fin 8} {b : Fin 8} (h₀ : Calm arm s₀ s) : Calm arm
    s₀ (State.calChannel s i b) :=
  calm_of_forget (calChannel_forget quiet s i b quiet_raise rfl) h₀

theorem calDone_calm {arm : Bool} {s₀ : State} {c : Fin 24} {i : Fin 8} {n : Nat} {s : State} (h₀ : Calm arm s₀ s) :
    Calm arm s₀ (calDone c i n s) := by
  unfold calDone
  try dsimp only
  repeat' first
    | with_reducible assumption
    | with_reducible refine modBank_calm (by
        intro x h
        first
          | exact h
          | (simp only [Bank.swap] at h; exact h)
          | (simp [Bank.start, Bank.reset] at h; done)
          | (simp at h; done)
          | (simp at h; exact h)
          | (split at h <;> first | exact h | (simp at h; done))) ?_
    | with_reducible apply calChannel_calm
    | with_reducible apply modConv_calm
    | with_reducible refine quant_calm_eq (by assumption) ?_
    | with_reducible apply quant_calm
    | with_reducible apply wr_calm
    | split
    | dsimp only

theorem idleDone_calm {arm : Bool} {s₀ : State} {t : Nat} {c : Fin 24} {n : Nat} {s : State} (h₀ : Calm arm s₀ s) :
    Calm arm s₀ (idleDone t c n s) := by
  unfold idleDone
  try dsimp only
  repeat' first
    | with_reducible assumption
    | with_reducible apply bgDone_calm
    | with_reducible apply calDone_calm
    | with_reducible apply took_calm
    | split
    | dsimp only

theorem startUp_calm {arm : Bool} {s₀ : State} {s : State} {a : Fin 24} (h₀ : Calm arm s₀ s) : Calm arm s₀
    (State.startUp s a) :=
  calm_of_forget (startUp_forget quiet s a rfl (quiet_has _)) h₀

theorem axisStart_calm {arm : Bool} {s₀ : State} {a : Fin 24} {s : State} (h₀ : Calm arm s₀ s) : Calm arm s₀
    (axisStart a s) :=
  calm_of_forget (axisStart_forget quiet a s quiet_raise rfl rfl (quiet_has _)) h₀

theorem axisStop_calm {arm : Bool} {s₀ : State} {a : Fin 24} {s : State} (h₀ : Calm arm s₀ s) : Calm arm s₀ (axisStop
    a s) :=
  calm_of_forget (axisStop_forget quiet a s quiet_raise rfl rfl (quiet_has _)) h₀

theorem axisCoast_calm {arm : Bool} {s₀ : State} {a : Fin 24} {s : State} (h₀ : Calm arm s₀ s) : Calm arm s₀
    (axisCoast a s) :=
  calm_of_forget (axisCoast_forget quiet a s quiet_raise rfl rfl) h₀

theorem stallClear_calm {arm : Bool} {s₀ : State} {a : Fin 24} {s : State} (h₀ : Calm arm s₀ s) : Calm arm s₀
    (stallClear a s) :=
  calm_of_forget (stallClear_forget quiet a s rfl) h₀

theorem hallStart_calm {arm : Bool} {s₀ : State} {s : State} {a : Fin 24} (h₀ : Calm arm s₀ s) : Calm arm s₀
    (State.hallStart s a) :=
  calm_of_forget (hallStart_forget quiet s a rfl (quiet_has _)) h₀

theorem reportSat_calm {arm : Bool} {s₀ : State} {s : State} {a : Nat} {v : Word} {x0 : Nat} (h₀ : Calm arm s₀ s) :
    Calm arm s₀ (State.reportSat s a v x0) :=
  calm_of_forget (reportSat_forget quiet s a v x0 quiet_raise (quiet_has _) (quiet_has _)) h₀

theorem delayedWrite_calm {arm : Bool} {s₀ : State} {s : State} {t : Nat} {r : Reg} {ix : List Nat} {v : Word} (h₀ :
    Calm arm s₀ s) :
    Calm arm s₀ (State.delayedWrite s t r ix v) := by
  unfold State.delayedWrite
  try dsimp only
  repeat' first
    | with_reducible assumption
    | with_reducible refine modGate_calm (by
        intro x h
        first
          | exact h
          | (simp at h; done)
          | (simp at h; exact h)
          | (split at h <;> first | exact h | (simp at h; done))) ?_
    | with_reducible apply modTim_calm
    | split
    | dsimp only

theorem storeWord_calm {arm : Bool} {s₀ : State} {s : State} {t a : Nat} {d : Word} (h₀ : Calm arm s₀ s) :
    Calm arm s₀ (State.storeWord s t a d) := by
  unfold State.storeWord
  try dsimp only
  repeat' first
    | with_reducible assumption
    | with_reducible apply delayedWrite_calm
    | with_reducible apply reportSat_calm
    | with_reducible apply wr_calm
    | split
    | dsimp only

theorem imuTrigger_calm {arm : Bool} {s₀ : State} {s : State} (h₀ : Calm arm s₀ s) : Calm arm s₀ (imuTrigger s) :=
  calm_of_forget (imuTrigger_forget quiet s quiet_raise rfl (quiet_has _)) h₀

theorem hostInject_calm {arm : Bool} {s₀ : State} {d : Word} {s : State} (h₀ : Calm arm s₀ s) : Calm arm s₀
    (hostInject d s) :=
  calm_of_forget (hostInject_forget quiet d s rfl) h₀

theorem fusStart_calm {arm : Bool} {s₀ : State} {s : State} (h₀ : Calm arm s₀ s) : Calm arm s₀ (State.fusStart s) :=
  calm_of_forget (fusStart_forget quiet s rfl (quiet_all _) (quiet_has _) (quiet_has _)) h₀

theorem actAxis_calm {arm : Bool} {s₀ : State} {s : State} {t : Nat} {a : Fin 24} {act : Nat} {v : Word} (h₀ : Calm
    arm s₀ s) :
    Calm arm s₀ (State.actAxis s t a act v) := by
  unfold State.actAxis
  try dsimp only
  repeat' first
    | with_reducible assumption
    | with_reducible apply storeWord_calm
    | split
    | dsimp only

theorem actCoil_calm {arm : Bool} {s₀ : State} {s : State} {t : Nat} {a : Fin 24} {sel : Word} {v : Word} (h₀ : Calm
    arm s₀ s) :
    Calm arm s₀ (State.actCoil s t a sel v) := by
  unfold State.actCoil
  try dsimp only
  repeat' first
    | with_reducible assumption
    | with_reducible refine each_calm (fun u x h₁ => ?_) ?_
    | with_reducible apply storeWord_calm
    | split
    | dsimp only

theorem actTimer_calm {arm : Bool} {s₀ : State} {s : State} {t : Nat} {x : Fin 24} {sel : Word} {act : Nat} {v : Word}
    (h₀ : Calm arm s₀ s) :
    Calm arm s₀ (State.actTimer s t x sel act v) := by
  unfold State.actTimer
  try dsimp only
  repeat' first
    | with_reducible assumption
    | with_reducible refine each_calm (fun u x h₁ => ?_) ?_
    | with_reducible apply armTimer_calm
    | with_reducible apply storeWord_calm
    | split
    | dsimp only

theorem actBinding_calm {arm : Bool} {s₀ : State} {s : State} {t : Nat} {n : Fin 24} {act : Nat} {v : Word} (h₀ : Calm
    arm s₀ s) :
    Calm arm s₀ (State.actBinding s t n act v) := by
  unfold State.actBinding
  try dsimp only
  repeat' first
    | with_reducible assumption
    | with_reducible apply actAxis_calm
    | with_reducible apply actCoil_calm
    | with_reducible apply actTimer_calm
    | split
    | dsimp only

theorem applyAct_calm {arm : Bool} {s₀ : State} {s : State} {t : Nat} {n : Fin 24} {act : Nat} {v : Word} (h₀ : Calm
    arm s₀ s) :
    Calm arm s₀ (State.applyAct s t n act v) := by
  unfold State.applyAct
  try dsimp only
  repeat' first
    | with_reducible assumption
    | with_reducible apply actBinding_calm
    | with_reducible apply wr_calm
    | split
    | dsimp only

theorem setTgt_calm {arm : Bool} {s₀ : State} {s : State} {i n : Nat} {x : TgtSt} (h₀ : Calm arm s₀ s) : Calm arm s₀
    (State.setTgt s i n x) :=
  calm_of_forget (setTgt_forget quiet s i n x rfl) h₀

theorem scheduleInsert_calm {arm : Bool} {s₀ : State} {d : Word} {s : State} (h₀ : Calm arm s₀ s) : Calm arm s₀
    (scheduleInsert d s) :=
  calm_of_forget (scheduleInsert_forget quiet d s quiet_raise rfl (quiet_has _) (quiet_has _)) h₀

theorem clearQueue_calm {arm : Bool} {s₀ : State} {s : State} (h₀ : Calm arm s₀ s) : Calm arm s₀ (State.clearQueue s) :=
  calm_of_forget (clearQueue_forget quiet s rfl) h₀

theorem fire_calm {arm : Bool} {s₀ : State} {s : State} {t : Nat} {i : Fin 256} {n : Fin 24} {e : Entry} {late : Bool}
    (h₀ : Calm arm s₀ s) :
    Calm arm s₀ (State.fire s t i n e late) := by
  unfold State.fire
  try dsimp only
  repeat' first
    | with_reducible assumption
    | with_reducible apply applyAct_calm
    | with_reducible apply raise_calm
    | with_reducible refine round_calm_eq (by assumption) ?_
    | with_reducible apply round_calm
    | with_reducible apply satInc_calm
    | with_reducible apply setTgt_calm
    | with_reducible apply wrs_calm
    | split
    | dsimp only

theorem scheduleFire_calm {arm : Bool} {s₀ : State} {t : Nat} {i : Fin 256} {n : Fin 24} {s : State} (h₀ : Calm arm s₀
    s) :
    Calm arm s₀ (scheduleFire t i n s) := by
  unfold scheduleFire
  try dsimp only
  repeat' first
    | with_reducible assumption
    | with_reducible apply fire_calm
    | split
    | dsimp only

theorem schedLateFire_calm {arm : Bool} {s₀ : State} {t : Nat} {i : Fin 256} {n : Fin 24} {s : State} (h₀ : Calm arm
    s₀ s) :
    Calm arm s₀ (schedLateFire t i n s) := by
  unfold schedLateFire
  try dsimp only
  repeat' first
    | with_reducible assumption
    | with_reducible apply fire_calm
    | split
    | dsimp only

theorem schSect_calm {arm : Bool} {s₀ : State} {t act : Nat} {s : State} (h₀ : Calm arm s₀ s) :
    Calm arm s₀ (schSect t act s) := by
  unfold schSect
  try dsimp only
  repeat' first
    | with_reducible assumption
    | with_reducible refine each_calm (fun u x h₁ => ?_) ?_
    | with_reducible apply applyAct_calm
    | with_reducible apply raise_calm
    | split
    | dsimp only

theorem schCancel_calm {arm : Bool} {s₀ : State} {i : Nat} {s : State} (h₀ : Calm arm s₀ s) : Calm arm s₀ (schCancel i
    s) :=
  calm_of_forget (schCancel_forget quiet i s rfl) h₀

theorem solverFault_calm {arm : Bool} {s₀ : State} {s : State} {r : Nat} (h₀ : Calm arm s₀ s) : Calm arm s₀
    (State.solverFault s r) :=
  calm_of_forget (solverFault_forget quiet s r quiet_raise rfl (quiet_has _)) h₀

theorem solStart_calm {arm : Bool} {s₀ : State} {s : State} (h₀ : Calm arm s₀ s) : Calm arm s₀ (State.solStart s) :=
  calm_of_forget (solStart_forget quiet s rfl (quiet_all _) (quiet_has _) (quiet_has _) (quiet_has _) (quiet_has _) (quiet_has _) (quiet_has _)) h₀

theorem program_calm {arm : Bool} {s₀ : State} {s : State} {a : Nat} {bs : List Byte} {b : Burst} (h₀ : Calm arm s₀ s)
    : Calm arm s₀ (State.program s a bs b) :=
  calm_of_forget (program_forget quiet s a bs b rfl rfl) h₀

theorem eraseBytes_calm {arm : Bool} {s₀ : State} {s : State} {n : Nat} (h₀ : Calm arm s₀ s) : Calm arm s₀
    (State.eraseBytes s n) :=
  calm_of_forget (eraseBytes_forget quiet s n rfl rfl) h₀

theorem openSector_calm {arm : Bool} {s₀ : State} {s : State} {n : Nat} {comp : Bool} (h₀ : Calm arm s₀ s) : Calm arm
    s₀ (State.openSector s n comp) :=
  calm_of_forget (openSector_forget quiet s n comp rfl rfl) h₀

theorem putRecord_calm {arm : Bool} {s₀ : State} {s : State} {h : Nat} {bs : List Byte} {b : Nat → Burst} (h₀ : Calm
    arm s₀ s) : Calm arm s₀ (State.putRecord s h bs b) :=
  calm_of_forget (putRecord_forget quiet s h bs b rfl rfl) h₀

theorem startErase_calm {arm : Bool} {s₀ : State} {s : State} {n : Nat} (h₀ : Calm arm s₀ s) : Calm arm s₀
    (State.startErase s n) :=
  calm_of_forget (startErase_forget quiet s n rfl rfl) h₀

theorem storeErr_calm {arm : Bool} {s₀ : State} {s : State} {sector cause : Nat} (h₀ : Calm arm s₀ s) : Calm arm s₀
    (State.storeErr s sector cause) :=
  calm_of_forget (storeErr_forget quiet s sector cause quiet_raise (quiet_has _)) h₀

theorem startMarker_calm {arm : Bool} {s₀ : State} {s : State} {a : Nat} {b : Burst} (h₀ : Calm arm s₀ s) : Calm arm
    s₀ (State.startMarker s a b) :=
  calm_of_forget (startMarker_forget quiet s a b quiet_raise rfl rfl (quiet_has _)) h₀

theorem commitItem_calm {arm : Bool} {s₀ : State} {s : State} {host : Bool} (h₀ : Calm arm s₀ s) : Calm arm s₀
    (State.commitItem s host) :=
  calm_of_forget (commitItem_forget quiet s host rfl (quiet_has _)) h₀

theorem failItem_calm {arm : Bool} {s₀ : State} {s : State} {host : Bool} {sector : Nat} (h₀ : Calm arm s₀ s) : Calm
    arm s₀ (State.failItem s host sector) :=
  calm_of_forget (failItem_forget quiet s host sector quiet_raise rfl (quiet_has _) (quiet_has _)) h₀

theorem failNext_calm {arm : Bool} {s₀ : State} {s : State} {sector : Nat} (h₀ : Calm arm s₀ s) : Calm arm s₀
    (State.failNext s sector) :=
  calm_of_forget (failNext_forget quiet s sector quiet_raise rfl (quiet_has _) (quiet_has _)) h₀

theorem burstGood_calm {arm : Bool} {s₀ : State} {s : State} {b : Burst} (h₀ : Calm arm s₀ s) : Calm arm s₀
    (State.burstGood s b) :=
  calm_of_forget (burstGood_forget quiet s b quiet_raise rfl rfl (quiet_has _) (quiet_has _)) h₀

theorem burstBad_calm {arm : Bool} {s₀ : State} {s : State} {b : Burst} (h₀ : Calm arm s₀ s) : Calm arm s₀
    (State.burstBad s b) :=
  calm_of_forget (burstBad_forget quiet s b quiet_raise rfl rfl rfl rfl (quiet_has _) (quiet_has _)) h₀

theorem eraseDone_calm {arm : Bool} {s₀ : State} {s : State} {c : Comp} {ok : Bool} (h₀ : Calm arm s₀ s) : Calm arm s₀
    (State.eraseDone s c ok) :=
  calm_of_forget (eraseDone_forget quiet s c ok quiet_raise rfl (quiet_has _)) h₀

theorem programBurstDone_calm {arm : Bool} {s₀ : State} {ok : Bool} {s : State} (h₀ : Calm arm s₀ s) : Calm arm s₀
    (programBurstDone ok s) :=
  calm_of_forget (programBurstDone_forget quiet ok s quiet_raise rfl rfl rfl rfl (quiet_has _) (quiet_has _) (quiet_has _) (quiet_has _)) h₀

theorem retryGate_calm {arm : Bool} {s₀ : State} {s : State} (h₀ : Calm arm s₀ s) : Calm arm s₀ (State.retryGate s) :=
  calm_of_forget (retryGate_forget quiet s rfl rfl) h₀

theorem victim_calm {arm : Bool} {s₀ : State} {s : State} {l : List Nat} (h₀ : Calm arm s₀ s) : Calm arm s₀
    (State.victim s l).1 :=
  calm_of_forget (victim_forget quiet s l rfl) h₀

theorem victim_calm_eq {arm : Bool} {s₀ : State} {s : State} {l : List Nat} {t' : State} {v' : Option Nat} (e :
    State.victim s l = (t', v')) (h₀ : Calm arm s₀ s) :
    Calm arm s₀ t' := by
  have : Calm arm s₀ (State.victim s l).1 := victim_calm h₀
  rwa [e] at this

theorem startComp_calm {arm : Bool} {s₀ : State} {s : State} {w : CompWhy} (h₀ : Calm arm s₀ s) : Calm arm s₀
    (State.startComp s w) :=
  calm_of_forget (startComp_forget quiet s w rfl rfl) h₀

theorem compBurst_calm {arm : Bool} {s₀ : State} {s : State} {c : Comp} (h₀ : Calm arm s₀ s) : Calm arm s₀
    (State.compBurst s c) :=
  calm_of_forget (compBurst_forget quiet s c rfl rfl rfl) h₀

theorem compactionStep_calm {arm : Bool} {s₀ : State} {s : State} (h₀ : Calm arm s₀ s) : Calm arm s₀ (compactionStep
    s) :=
  calm_of_forget (compactionStep_forget quiet s rfl rfl rfl) h₀

theorem loadStage_calm {arm : Bool} {s₀ : State} {s : State} {words : List Word} (h₀ : Calm arm s₀ s) : Calm arm s₀
    (State.loadStage s words) :=
  calm_of_forget (loadStage_forget quiet s words rfl) h₀

theorem storeWrite_calm {arm : Bool} {s₀ : State} {len : Nat} {s : State} (h₀ : Calm arm s₀ s) : Calm arm s₀
    (storeWrite len s) :=
  calm_of_forget (storeWrite_forget quiet len s rfl) h₀

theorem storeRead_calm {arm : Bool} {s₀ : State} {key : Nat} {s : State} (h₀ : Calm arm s₀ s) : Calm arm s₀ (storeRead
    key s) :=
  calm_of_forget (storeRead_forget quiet key s rfl (quiet_has _)) h₀

theorem dropItems_calm {arm : Bool} {s₀ : State} {s : State} (h₀ : Calm arm s₀ s) : Calm arm s₀ (State.dropItems s) :=
  calm_of_forget (dropItems_forget quiet s rfl (quiet_has _)) h₀

theorem raiseDomSw_calm {arm : Bool} {s₀ : State} {s : State} {cause : Nat} (h₀ : Calm arm s₀ s) : Calm arm s₀
    (State.raiseDomSw s cause) :=
  calm_of_forget (raiseDomSw_forget quiet s cause quiet_raise) h₀

theorem linkDown_calm {arm : Bool} {s₀ : State} {s : State} {next : LinkSt} {cause : Nat} (h₀ : Calm arm s₀ s) : Calm
    arm s₀ (State.linkDown s next cause) :=
  calm_of_forget (linkDown_forget quiet s next cause quiet_raise rfl) h₀

theorem linkOff_calm {arm : Bool} {s₀ : State} {s : State} (h₀ : Calm arm s₀ s) : Calm arm s₀ (State.linkOff s) :=
  calm_of_forget (linkOff_forget quiet s quiet_raise rfl) h₀

theorem linkJudge_calm {arm : Bool} {s₀ : State} {s : State} (h₀ : Calm arm s₀ s) : Calm arm s₀ (State.linkJudge s) :=
  calm_of_forget (linkJudge_forget quiet s quiet_raise rfl) h₀

theorem floatFirst_calm {arm : Bool} {s₀ : State} {s : State} {t : Nat} {b : Fin 8} (h₀ : Calm arm s₀ s) :
    Calm arm s₀ (State.floatFirst s t b) := by
  unfold State.floatFirst
  try dsimp only
  repeat' first
    | with_reducible assumption
    | with_reducible apply disableStages_calm
    | with_reducible apply enterFloat_calm
    | split
    | dsimp only

theorem bankOff_calm {arm : Bool} {s₀ : State} {s : State} {t : Nat} {b : Fin 8} (h₀ : Calm arm s₀ s) :
    Calm arm s₀ (State.bankOff s t b) := by
  unfold State.bankOff
  try dsimp only
  repeat' first
    | with_reducible assumption
    | with_reducible refine modBank_calm (by
        intro x h
        first
          | exact h
          | (simp only [Bank.swap] at h; exact h)
          | (simp [Bank.start, Bank.reset] at h; done)
          | (simp at h; done)
          | (simp at h; exact h)
          | (split at h <;> first | exact h | (simp at h; done))) ?_
    | with_reducible apply cutDlineCal_calm
    | with_reducible apply cutSelfTest_calm
    | with_reducible apply cutShuntCal_calm
    | with_reducible apply disarm_calm
    | with_reducible apply floatFirst_calm
    | with_reducible apply gateCheck_calm
    | with_reducible apply modPwr_calm
    | with_reducible apply refloat_calm
    | with_reducible apply stopBank_calm
    | split
    | dsimp only

theorem cutSolverTest_calm {arm : Bool} {s₀ : State} {s : State} (h₀ : Calm arm s₀ s) : Calm arm s₀
    (State.cutSolverTest s) :=
  calm_of_forget (cutSolverTest_forget quiet s quiet_raise rfl rfl) h₀

theorem domOff_calm {arm : Bool} {s₀ : State} {s : State} {t d : Nat} (h₀ : Calm arm s₀ s) :
    Calm arm s₀ (State.domOff s t d) := by
  unfold State.domOff
  try dsimp only
  repeat' first
    | with_reducible assumption
    | with_reducible apply bankOff_calm
    | with_reducible apply clearQueue_calm
    | with_reducible apply cutSolverTest_calm
    | with_reducible apply linkOff_calm
    | with_reducible apply modCan_calm
    | with_reducible apply modFus_calm
    | with_reducible apply modPwr_calm
    | with_reducible apply modSol_calm
    | split
    | dsimp only

theorem loadSteps_calm {arm : Bool} {s₀ : State} {s : State} {b : Fin 8} (h₀ : Calm arm s₀ s) :
    Calm arm s₀ (State.loadSteps s b) := by
  unfold State.loadSteps
  try dsimp only
  repeat' first
    | with_reducible assumption
    | with_reducible refine each_calm (fun u x h₁ => ?_) ?_
    | with_reducible refine modHb_calm (by
        intro x
        constructor <;> intro h <;> first
          | exact h
          | (simp at h; done)
          | (simp at h; exact h)
          | (split at h <;> first | exact h | (simp at h; done))
          | (simp [HalfB.swapped, HalfB.start] at h; exact h)
          | (unfold HalfB.start at h; split at h <;> first | exact h | exact absurd h (by decide))) ?_
    | split
    | dsimp only

theorem startEngines_calm {arm : Bool} {s₀ : State} {s : State} {t : Nat} {b : Fin 8} (h₀ : Calm arm s₀ s) :
    Calm arm s₀ (State.startEngines s t b) := by
  unfold State.startEngines
  try dsimp only
  repeat' first
    | with_reducible assumption
    | with_reducible refine each_calm (fun u x h₁ => ?_) ?_
    | with_reducible refine modHb_calm (by
        intro x
        constructor <;> intro h <;> first
          | exact h
          | (simp at h; done)
          | (simp at h; exact h)
          | (split at h <;> first | exact h | (simp at h; done))
          | (simp [HalfB.swapped, HalfB.start] at h; exact h)
          | (unfold HalfB.start at h; split at h <;> first | exact h | exact absurd h (by decide))) ?_
    | with_reducible refine modBank_calm (by
        intro x h
        first
          | exact h
          | (simp only [Bank.swap] at h; exact h)
          | (simp [Bank.start, Bank.reset] at h; done)
          | (simp at h; done)
          | (simp at h; exact h)
          | (split at h <;> first | exact h | (simp at h; done))) ?_
    | with_reducible apply hallStart_calm
    | with_reducible apply loadSteps_calm
    | with_reducible apply modAx_calm
    | with_reducible apply redriveBank_calm
    | with_reducible apply sideFor_calm
    | with_reducible apply startBank_calm
    | split
    | dsimp only

theorem bankOn_calm {arm : Bool} {s₀ : State} {s : State} {t : Nat} {b : Fin 8} (h₀ : Calm arm s₀ s) :
    Calm arm s₀ (State.bankOn s t b) := by
  unfold State.bankOn
  try dsimp only
  repeat' first
    | with_reducible assumption
    | with_reducible apply clearStatus_calm
    | with_reducible apply gateCheck_calm
    | with_reducible apply modPwr_calm
    | with_reducible apply startEngines_calm
    | split
    | dsimp only

theorem clearSchedule_calm {arm : Bool} {s₀ : State} {s : State} (h₀ : Calm arm s₀ s) : Calm arm s₀
    (State.clearSchedule s) :=
  calm_of_forget (clearSchedule_forget quiet s (quiet_all _) (quiet_has _) (quiet_has _)) h₀

theorem canStart_calm {arm : Bool} {s₀ : State} {s : State} {c : Fin 2} (h₀ : Calm arm s₀ s) : Calm arm s₀
    (State.canStart s c) :=
  calm_of_forget (canStart_forget quiet s c rfl (quiet_has _)) h₀

theorem domOn_calm {arm : Bool} {s₀ : State} {s : State} {t d : Nat} (h₀ : Calm arm s₀ s) :
    Calm arm s₀ (State.domOn s t d) := by
  unfold State.domOn
  try dsimp only
  repeat' first
    | with_reducible assumption
    | with_reducible apply bankOn_calm
    | with_reducible apply canStart_calm
    | with_reducible apply clearSchedule_calm
    | with_reducible apply clearStatus_calm
    | with_reducible apply fusStart_calm
    | with_reducible apply linkJudge_calm
    | with_reducible apply modPwr_calm
    | with_reducible apply solStart_calm
    | split
    | dsimp only

theorem sayRestored_calm {arm : Bool} {s₀ : State} {s : State} (h₀ : Calm arm s₀ s) : Calm arm s₀ (State.sayRestored
    s) :=
  calm_of_forget (sayRestored_forget quiet s quiet_raise rfl) h₀

theorem applyReq_calm {arm : Bool} {s₀ : State} {s : State} {t cause : Nat} (h₀ : Calm arm s₀ s) :
    Calm arm s₀ (State.applyReq s t cause) := by
  unfold State.applyReq
  try dsimp only
  repeat' first
    | with_reducible assumption
    | with_reducible refine each_calm (fun u x h₁ => ?_) ?_
    | with_reducible apply domOff_calm
    | with_reducible apply modPwr_calm
    | with_reducible apply raiseDomSw_calm
    | with_reducible apply sayRestored_calm
    | split
    | dsimp only

theorem allOff_calm {arm : Bool} {s₀ : State} {s : State} {t : Nat} (h₀ : Calm arm s₀ s) :
    Calm arm s₀ (State.allOff s t) := by
  unfold State.allOff
  try dsimp only
  repeat' first
    | with_reducible assumption
    | with_reducible refine each_calm (fun u x h₁ => ?_) ?_
    | with_reducible apply domOff_calm
    | with_reducible apply modPwr_calm
    | split
    | dsimp only

theorem writeDomReq_calm {arm : Bool} {s₀ : State} {t : Nat} {d : Word} {s : State} (h₀ : Calm arm s₀ s) :
    Calm arm s₀ (writeDomReq t d s) := by
  unfold writeDomReq
  try dsimp only
  repeat' first
    | with_reducible assumption
    | with_reducible apply applyReq_calm
    | with_reducible apply wr_calm
    | split
    | dsimp only

theorem domainReady_calm {arm : Bool} {s₀ : State} {d : Nat} {s : State} (h₀ : Calm arm s₀ s) :
    Calm arm s₀ (domainReady d s) := by
  unfold domainReady
  try dsimp only
  repeat' first
    | with_reducible assumption
    | with_reducible apply applyReq_calm
    | with_reducible apply domOn_calm
    | with_reducible apply modPwr_calm
    | with_reducible apply raiseDomSw_calm
    | with_reducible apply sayRestored_calm
    | split
    | dsimp only

theorem beginLoad_calm {arm : Bool} {s₀ : State} {s : State} {slot : Option Nat} {src dest : Nat} (h₀ : Calm arm s₀ s)
    : Calm arm s₀ (State.beginLoad s slot src dest) :=
  calm_of_forget (beginLoad_forget quiet s slot src dest rfl) h₀

theorem endLoad_calm {arm : Bool} {s₀ : State} {s : State} (h₀ : Calm arm s₀ s) : Calm arm s₀ (State.endLoad s) :=
  calm_of_forget (endLoad_forget quiet s rfl) h₀

theorem imgReject_calm {arm : Bool} {s₀ : State} {s : State} {src code : Nat} (h₀ : Calm arm s₀ s) : Calm arm s₀
    (State.imgReject s src code) :=
  calm_of_forget (imgReject_forget quiet s src code quiet_raise (quiet_has _)) h₀

theorem failLoad_calm {arm : Bool} {s₀ : State} {s : State} {l : Load} {code : Nat} (h₀ : Calm arm s₀ s) : Calm arm s₀
    (State.failLoad s l code) :=
  calm_of_forget (failLoad_forget quiet s l code quiet_raise rfl rfl (quiet_has _)) h₀

theorem doneLoad_calm {arm : Bool} {s₀ : State} {s : State} {l : Load} (h₀ : Calm arm s₀ s) : Calm arm s₀
    (State.doneLoad s l) :=
  calm_of_forget (doneLoad_forget quiet s l quiet_raise rfl rfl) h₀

theorem takePreset_calm {arm : Bool} {s₀ : State} {s : State} {p : Nat × Word} (h₀ : Calm arm s₀ s) : Calm arm s₀
    (State.takePreset s p) :=
  calm_of_forget (takePreset_forget quiet s p quiet_all) h₀

theorem showBank_calm {arm : Bool} {s₀ : State} {s : State} {b : Fin 8} {c : BankCfg} (h₀ : Calm arm s₀ s) : Calm arm
    s₀ (State.showBank s b c) :=
  calm_of_forget (showBank_forget quiet s b c (quiet_has _) (quiet_has _) (quiet_has _)) h₀

theorem bankValues_calm {arm : Bool} {s₀ : State} {s : State} {b : Fin 8} {ps : List (Nat × Word)} (h₀ : Calm arm s₀
    s) : Calm arm s₀ (State.bankValues s b ps) :=
  calm_of_forget (bankValues_forget quiet s b ps quiet_all) h₀

theorem resetBlocks_calm {arm : Bool} {s₀ : State} {s : State} (h₀ : Calm arm s₀ s) :
    Calm arm s₀ (State.resetBlocks s) := by
  unfold State.resetBlocks
  try dsimp only
  repeat' first
    | with_reducible assumption
    | with_reducible refine each_calm (fun u x h₁ => ?_) ?_
    | with_reducible refine modHb_calm (by
        intro x
        constructor <;> intro h <;> first
          | exact h
          | (simp at h; done)
          | (simp at h; exact h)
          | (split at h <;> first | exact h | (simp at h; done))
          | (simp [HalfB.swapped, HalfB.start] at h; exact h)
          | (unfold HalfB.start at h; split at h <;> first | exact h | exact absurd h (by decide))) ?_
    | with_reducible refine modBank_calm (by
        intro x h
        first
          | exact h
          | (simp only [Bank.swap] at h; exact h)
          | (simp [Bank.start, Bank.reset] at h; done)
          | (simp at h; done)
          | (simp at h; exact h)
          | (split at h <;> first | exact h | (simp at h; done))) ?_
    | with_reducible apply clearRange_calm
    | with_reducible apply modAx_calm
    | with_reducible apply modCan_calm
    | with_reducible apply modFus_calm
    | with_reducible apply modPair_calm
    | with_reducible apply modSched_calm
    | with_reducible apply modSol_calm
    | with_reducible apply stopBank_calm
    | with_reducible apply wr_calm
    | split
    | dsimp only

theorem showImage_calm {arm : Bool} {s₀ : State} {s : State} {c : ImageCfg} (h₀ : Calm arm s₀ s) : Calm arm s₀
    (State.showImage s c) :=
  calm_of_forget (showImage_forget quiet s c (quiet_has _) (quiet_has _) (quiet_has _) (quiet_has _) (quiet_has _) (quiet_has _) (quiet_has _) (quiet_has _) (quiet_has _) (quiet_has _)) h₀

theorem wholeSwap_calm {arm : Bool} {s₀ : State} {s : State} {c : ImageCfg} {src : Nat} {fallback : Bool} (h₀ : Calm
    arm s₀ s) :
    Calm arm s₀ (State.wholeSwap s c src fallback) := by
  unfold State.wholeSwap
  try dsimp only
  repeat' first
    | with_reducible assumption
    | with_reducible refine each_calm (fun u x h₁ => ?_) ?_
    | with_reducible apply allOff_calm
    | with_reducible apply bankValues_calm
    | with_reducible apply flushDue_calm
    | with_reducible apply loadSteps_calm
    | with_reducible apply modImg_calm
    | with_reducible apply modRcd_calm
    | with_reducible apply ppsAtSwap_calm
    | with_reducible apply raise_calm
    | with_reducible apply raiseDomSw_calm
    | with_reducible apply redriveBank_calm
    | with_reducible apply resetBlocks_calm
    | with_reducible apply showImage_calm
    | with_reducible apply takePreset_calm
    | with_reducible apply thaw_calm
    | with_reducible apply wr_calm
    | split
    | dsimp only

theorem bootFallback_calm {arm : Bool} {s₀ : State} {s : State} {l : Load} (h₀ : Calm arm s₀ s) : Calm arm s₀
    (State.bootFallback s l) :=
  calm_of_forget (bootFallback_forget quiet s l quiet_raise) h₀

theorem wholeImageSwap_calm {arm : Bool} {s₀ : State} {l : Load} {c : ImageCfg} {s : State} (h₀ : Calm arm s₀ s) :
    Calm arm s₀ (wholeImageSwap l c s) := by
  unfold wholeImageSwap
  try dsimp only
  repeat' first
    | with_reducible assumption
    | with_reducible apply bootFallback_calm
    | with_reducible apply doneLoad_calm
    | with_reducible apply failLoad_calm
    | with_reducible apply wholeSwap_calm
    | split
    | dsimp only

theorem bankSwap_calm {arm : Bool} {s₀ : State} {s : State} {b : Fin 8} {c : BankCfg} {tag : Word} (h₀ : Calm arm s₀
    s) :
    Calm arm s₀ (State.bankSwap s b c tag) := by
  unfold State.bankSwap
  try dsimp only
  repeat' first
    | with_reducible assumption
    | with_reducible refine each_calm (fun u x h₁ => ?_) ?_
    | with_reducible refine modHb_calm (by
        intro x
        constructor <;> intro h <;> first
          | exact h
          | (simp at h; done)
          | (simp at h; exact h)
          | (split at h <;> first | exact h | (simp at h; done))
          | (simp [HalfB.swapped, HalfB.start] at h; exact h)
          | (unfold HalfB.start at h; split at h <;> first | exact h | exact absurd h (by decide))) ?_
    | with_reducible refine modBank_calm (by
        intro x h
        first
          | exact h
          | (simp only [Bank.swap] at h; exact h)
          | (simp [Bank.start, Bank.reset] at h; done)
          | (simp at h; done)
          | (simp at h; exact h)
          | (split at h <;> first | exact h | (simp at h; done))) ?_
    | with_reducible apply bankValues_calm
    | with_reducible apply loadSteps_calm
    | with_reducible apply modAx_calm
    | with_reducible apply modImg_calm
    | with_reducible apply raise_calm
    | with_reducible apply redriveBank_calm
    | with_reducible apply rejudge_calm
    | with_reducible apply showBank_calm
    | with_reducible apply sideFor_calm
    | with_reducible apply startBank_calm
    | with_reducible apply stopBank_calm
    | with_reducible apply wr_calm
    | split
    | dsimp only

theorem bankImageSwap_calm {arm : Bool} {s₀ : State} {l : Load} {b : Fin 8} {c : BankCfg} {tag : Word} {s : State} (h₀
    : Calm arm s₀ s) :
    Calm arm s₀ (bankImageSwap l b c tag s) := by
  unfold bankImageSwap
  try dsimp only
  repeat' first
    | with_reducible assumption
    | with_reducible apply bankSwap_calm
    | with_reducible apply doneLoad_calm
    | with_reducible apply failLoad_calm
    | split
    | dsimp only

theorem imgKeydataWrite_calm {arm : Bool} {s₀ : State} {d : Word} {s : State} (h₀ : Calm arm s₀ s) : Calm arm s₀
    (imgKeydataWrite d s) :=
  calm_of_forget (imgKeydataWrite_forget quiet d s rfl) h₀

theorem keyCmd_calm {arm : Bool} {s₀ : State} {d : Word} {s : State} (h₀ : Calm arm s₀ s) : Calm arm s₀ (keyCmd d s) :=
  calm_of_forget (keyCmd_forget quiet d s rfl rfl (quiet_has _)) h₀

theorem beginOp_calm {arm : Bool} {s₀ : State} {s : State} {i : Fin 8} (h₀ : Calm arm s₀ s) :
    Calm arm s₀ (State.beginOp s i) := by
  unfold State.beginOp
  try dsimp only
  repeat' first
    | with_reducible assumption
    | with_reducible refine each_calm (fun u x h₁ => ?_) ?_
    | with_reducible refine modBank_calm (by
        intro x h
        first
          | exact h
          | (simp only [Bank.swap] at h; exact h)
          | (simp [Bank.start, Bank.reset] at h; done)
          | (simp at h; done)
          | (simp at h; exact h)
          | (split at h <;> first | exact h | (simp at h; done))) ?_
    | with_reducible apply beginLoad_calm
    | with_reducible apply endSlot_calm
    | with_reducible apply imgReject_calm
    | with_reducible apply modAx_calm
    | with_reducible apply modOps_calm
    | with_reducible apply modSlot_calm
    | with_reducible apply modStore_calm
    | split
    | dsimp only

theorem startOp_calm {arm : Bool} {s₀ : State} {s : State} {i : Fin 8} (h₀ : Calm arm s₀ s) :
    Calm arm s₀ (State.startOp s i) := by
  unfold State.startOp
  try dsimp only
  repeat' first
    | with_reducible assumption
    | with_reducible apply beginOp_calm
    | with_reducible apply endSlot_calm
    | split
    | dsimp only

theorem opStart_calm {arm : Bool} {s₀ : State} {i : Fin 8} {s : State} (h₀ : Calm arm s₀ s) :
    Calm arm s₀ (opStart i s) := by
  unfold opStart
  try dsimp only
  repeat' first
    | with_reducible assumption
    | with_reducible apply startOp_calm
    | split
    | dsimp only

theorem doorbell_calm {arm : Bool} {s₀ : State} {op : Nat} {s : State} (h₀ : Calm arm s₀ s) :
    Calm arm s₀ (doorbell op s) := by
  unfold doorbell
  try dsimp only
  repeat' first
    | with_reducible assumption
    | with_reducible apply modOps_calm
    | with_reducible apply modSlot_calm
    | with_reducible apply opStart_calm
    | with_reducible apply satInc_calm
    | with_reducible apply wr_calm
    | split
    | dsimp only

theorem dropOp_calm {arm : Bool} {s₀ : State} {s : State} {i : Fin 8} {st : OpState} {fail : Nat} (h₀ : Calm arm s₀ s)
    :
    Calm arm s₀ (State.dropOp s i st fail) := by
  unfold State.dropOp
  try dsimp only
  repeat' first
    | with_reducible assumption
    | with_reducible apply endLoad_calm
    | with_reducible apply endSlot_calm
    | with_reducible apply measureLines_calm
    | with_reducible apply modAx_calm
    | split
    | dsimp only

theorem abortSlot_calm {arm : Bool} {s₀ : State} {s : State} {i : Fin 8} {fail : Nat} (h₀ : Calm arm s₀ s) :
    Calm arm s₀ (State.abortSlot s i fail) := by
  unfold State.abortSlot
  try dsimp only
  repeat' first
    | with_reducible assumption
    | with_reducible apply dropOp_calm
    | with_reducible apply endSlot_calm
    | with_reducible apply modSlot_calm
    | split
    | dsimp only

theorem opAbort_calm {arm : Bool} {s₀ : State} {d : Word} {s : State} (h₀ : Calm arm s₀ s) :
    Calm arm s₀ (opAbort d s) := by
  unfold opAbort
  try dsimp only
  repeat' first
    | with_reducible assumption
    | with_reducible apply abortSlot_calm
    | split
    | dsimp only

theorem opRelease_calm {arm : Bool} {s₀ : State} {d : Word} {s : State} (h₀ : Calm arm s₀ s) : Calm arm s₀ (opRelease
    d s) :=
  calm_of_forget (opRelease_forget quiet d s rfl) h₀

theorem finishOp_calm {arm : Bool} {s₀ : State} {s : State} {i : Fin 8} {model : Bool} {vals : List (BitVec 32)} (h₀ :
    Calm arm s₀ s) :
    Calm arm s₀ (State.finishOp s i model vals) := by
  unfold State.finishOp
  try dsimp only
  repeat' first
    | with_reducible assumption
    | with_reducible refine each_calm (fun u x h₁ => ?_) ?_
    | with_reducible apply dropOp_calm
    | with_reducible apply endSlot_calm
    | with_reducible apply measureLines_calm
    | with_reducible apply modSafe_calm
    | with_reducible apply publishFinal_calm
    | with_reducible apply raise_calm
    | split
    | dsimp only

theorem opEnd_calm {arm : Bool} {s₀ : State} {i : Fin 8} {model : Bool} {vals : List (BitVec 32)} {s : State} (h₀ :
    Calm arm s₀ s) :
    Calm arm s₀ (opEnd i model vals s) := by
  unfold opEnd
  try dsimp only
  repeat' first
    | with_reducible assumption
    | with_reducible apply dropOp_calm
    | with_reducible apply finishOp_calm
    | split
    | dsimp only

theorem countDeferred_calm {arm : Bool} {s₀ : State} {s : State} (h₀ : Calm arm s₀ s) : Calm arm s₀
    (State.countDeferred s) :=
  calm_of_forget (countDeferred_forget quiet s rfl) h₀

theorem takeRole_calm {arm : Bool} {s₀ : State} {s : State} {owner : Bool} {cause : Nat} (h₀ : Calm arm s₀ s) : Calm
    arm s₀ (State.takeRole s owner cause) :=
  calm_of_forget (takeRole_forget quiet s owner cause quiet_raise rfl) h₀

theorem ownFault_calm {arm : Bool} {s₀ : State} {s : State} (h₀ : Calm arm s₀ s) : Calm arm s₀ (State.ownFault s) :=
  calm_of_forget (ownFault_forget quiet s quiet_raise rfl) h₀

theorem unarm_calm {arm : Bool} {s₀ : State} {s : State} {t : Nat} {b : Fin 8} (h₀ : Calm arm s₀ s) :
    Calm arm s₀ (State.unarm s t b) := by
  unfold State.unarm
  try dsimp only
  repeat' first
    | with_reducible assumption
    | with_reducible refine each_calm (fun u x h₁ => ?_) ?_
    | with_reducible refine modBank_calm (by
        intro x h
        first
          | exact h
          | (simp only [Bank.swap] at h; exact h)
          | (simp [Bank.start, Bank.reset] at h; done)
          | (simp at h; done)
          | (simp at h; exact h)
          | (split at h <;> first | exact h | (simp at h; done))) ?_
    | with_reducible apply cutShuntCal_calm
    | with_reducible apply disarm_calm
    | with_reducible apply redriveBank_calm
    | with_reducible apply stopAxis_calm
    | split
    | dsimp only

theorem pairClaim_calm {arm : Bool} {s₀ : State} {t : Nat} {s : State} (h₀ : Calm arm s₀ s) :
    Calm arm s₀ (pairClaim t s) := by
  unfold pairClaim
  try dsimp only
  repeat' first
    | with_reducible assumption
    | with_reducible refine each_calm (fun u x h₁ => ?_) ?_
    | with_reducible apply modPair_calm
    | with_reducible apply refloatAll_calm
    | with_reducible apply takeRole_calm
    | with_reducible apply unarm_calm
    | split
    | dsimp only

theorem pairOwnInChange_calm {arm : Bool} {s₀ : State} {t : Nat} {level equal : Bool} {s : State} (h₀ : Calm arm s₀ s)
    :
    Calm arm s₀ (pairOwnInChange t level equal s) := by
  unfold pairOwnInChange
  try dsimp only
  repeat' first
    | with_reducible assumption
    | with_reducible refine each_calm (fun u x h₁ => ?_) ?_
    | with_reducible apply gateCheck_calm
    | with_reducible apply modPair_calm
    | with_reducible apply releaseOwner_calm
    | split
    | dsimp only

theorem watchOwnIn_calm {arm : Bool} {s₀ : State} {s : State} {t : Nat} (h₀ : Calm arm s₀ s) : Calm arm s₀
    (State.watchOwnIn s t) :=
  calm_of_forget (watchOwnIn_forget quiet s t quiet_raise rfl) h₀

theorem takeDone_calm {arm : Bool} {s₀ : State} {s : State} {t : Nat} (h₀ : Calm arm s₀ s) : Calm arm s₀
    (State.takeDone s t) :=
  calm_of_forget (takeDone_forget quiet s t rfl rfl (quiet_has _)) h₀

theorem gateCheckPass_calm {arm : Bool} {s₀ : State} {t : Nat} {b : Fin 8} {s : State} (h₀ : Calm arm s₀ s) :
    Calm arm s₀ (gateCheckPass t b s) := by
  unfold gateCheckPass
  try dsimp only
  repeat' first
    | with_reducible assumption
    | with_reducible apply leaveFloat_calm
    | with_reducible apply modPair_calm
    | with_reducible apply takeDone_calm
    | split
    | dsimp only

theorem keepAlive_calm {arm : Bool} {s₀ : State} {s : State} {t : Nat} (h₀ : Calm arm s₀ s) :
    Calm arm s₀ (State.keepAlive s t) := by
  unfold State.keepAlive
  try dsimp only
  repeat' first
    | with_reducible assumption
    | with_reducible apply releaseOwner_calm
    | split
    | dsimp only

theorem loadFusion_calm {arm : Bool} {s₀ : State} {s : State} {f : Mirror} (h₀ : Calm arm s₀ s) : Calm arm s₀
    (State.loadFusion s f) :=
  calm_of_forget (loadFusion_forget quiet s f rfl (quiet_has _)) h₀

theorem loadWheels_calm {arm : Bool} {s₀ : State} {s : State} {f : Mirror} (h₀ : Calm arm s₀ s) : Calm arm s₀
    (State.loadWheels s f) :=
  calm_of_forget (loadWheels_forget quiet s f rfl) h₀

theorem loadBank_calm {s₀ : State} {s : State} {t : Nat} {b : Fin 8} {m : MirrorBank} (h₀ : Calm false s₀ s) :
    Calm false s₀ (State.loadBank s t b m) := by
  unfold State.loadBank
  try dsimp only
  repeat' first
    | with_reducible assumption
    | with_reducible refine each_calm (fun u x h₁ => ?_) ?_
    | with_reducible apply modBank_any
    | with_reducible apply ots_calm
    | with_reducible apply redriveBank_calm
    | with_reducible apply releaseFaults_calm
    | with_reducible apply setRun_calm
    | with_reducible apply vov2_calm
    | with_reducible apply wr_calm
    | split
    | dsimp only

theorem loadTimer_calm {arm : Bool} {s₀ : State} {s : State} {t : Nat} {x : Fin 24} {m : MirrorTimer} (h₀ : Calm arm
    s₀ s) : Calm arm s₀ (State.loadTimer s t x m) :=
  calm_of_forget (loadTimer_forget quiet s t x m rfl (quiet_has _) (quiet_has _) (quiet_has _) (quiet_has _) (quiet_has _)) h₀

theorem loadAxis_calm {arm : Bool} {s₀ : State} {s : State} {a : Fin 24} {m : MirrorAxis} (h₀ : Calm arm s₀ s) : Calm
    arm s₀ (State.loadAxis s a m) :=
  calm_of_forget (loadAxis_forget quiet s a m rfl (quiet_has _) (quiet_has _) (quiet_has _) (quiet_has _) (quiet_has _) (quiet_has _)) h₀

theorem loadRec_calm {arm : Bool} {s₀ : State} {s : State} {r : MirrorRec} (h₀ : Calm arm s₀ s) : Calm arm s₀
    (State.loadRec s r) :=
  calm_of_forget (loadRec_forget quiet s r rfl) h₀

theorem applyMirror_calm {s₀ : State} {s : State} {t start : Nat} {f : Mirror} (h₀ : Calm false s₀ s) :
    Calm false s₀ (State.applyMirror s t start f) := by
  unfold State.applyMirror
  try dsimp only
  repeat' first
    | with_reducible assumption
    | with_reducible refine each_calm (fun u x h₁ => ?_) ?_
    | with_reducible apply loadAxis_calm
    | with_reducible apply loadBank_calm
    | with_reducible apply loadFusion_calm
    | with_reducible apply loadRec_calm
    | with_reducible apply loadTimer_calm
    | with_reducible apply loadWheels_calm
    | with_reducible apply modPair_calm
    | with_reducible apply wr_calm
    | with_reducible apply wrQ_calm
    | split
    | dsimp only

theorem takeOwner_calm {arm : Bool} {s₀ : State} {s : State} {t cause : Nat} (h₀ : Calm arm s₀ s) :
    Calm arm s₀ (State.takeOwner s t cause) := by
  unfold State.takeOwner
  try dsimp only
  repeat' first
    | with_reducible assumption
    | with_reducible apply modPair_calm
    | with_reducible apply refloatAll_calm
    | with_reducible apply satInc_calm
    | with_reducible apply takeRole_calm
    | split
    | dsimp only

theorem takeSilent_calm {arm : Bool} {s₀ : State} {s : State} {t : Nat} (h₀ : Calm arm s₀ s) :
    Calm arm s₀ (State.takeSilent s t) := by
  unfold State.takeSilent
  try dsimp only
  repeat' first
    | with_reducible assumption
    | with_reducible apply modPair_calm
    | with_reducible apply takeOwner_calm
    | split
    | dsimp only

theorem frameMissed_calm {arm : Bool} {s₀ : State} {t : Nat} {s : State} (h₀ : Calm arm s₀ s) :
    Calm arm s₀ (frameMissed t s) := by
  unfold frameMissed
  try dsimp only
  repeat' first
    | with_reducible assumption
    | with_reducible apply linkDown_calm
    | with_reducible apply modPair_calm
    | with_reducible apply satInc_calm
    | with_reducible apply takeSilent_calm
    | split
    | dsimp only

theorem releaseSequence_calm {arm : Bool} {s₀ : State} {t cause : Nat} {s : State} (h₀ : Calm arm s₀ s) :
    Calm arm s₀ (releaseSequence t cause s) := by
  unfold releaseSequence
  try dsimp only
  repeat' first
    | with_reducible assumption
    | with_reducible apply modPair_calm
    | with_reducible apply refloatAll_calm
    | split
    | dsimp only

theorem commitAxis_calm {arm : Bool} {s₀ : State} {s : State} {a : Fin 24} (h₀ : Calm arm s₀ s) : Calm arm s₀
    (State.commitAxis s a) :=
  calm_of_forget (commitAxis_forget quiet s a quiet_raise rfl (quiet_has _)) h₀

theorem commitReactions_calm {arm : Bool} {s₀ : State} {s : State} {t : Nat} {b : Fin 8} (h₀ : Calm arm s₀ s) :
    Calm arm s₀ (State.commitReactions s t b) := by
  unfold State.commitReactions
  try dsimp only
  repeat' first
    | with_reducible assumption
    | with_reducible refine each_calm (fun u x h₁ => ?_) ?_
    | with_reducible refine modHb_calm (by
        intro x
        constructor <;> intro h <;> first
          | exact h
          | (simp at h; done)
          | (simp at h; exact h)
          | (split at h <;> first | exact h | (simp at h; done))
          | (simp [HalfB.swapped, HalfB.start] at h; exact h)
          | (unfold HalfB.start at h; split at h <;> first | exact h | exact absurd h (by decide))) ?_
    | with_reducible refine bankCause_calm (by
        intro x h
        first
          | exact h
          | (simp only [Bank.swap] at h; exact h)
          | (simp [Bank.start, Bank.reset] at h; done)
          | (simp at h; done)
          | (simp at h; exact h)
          | (split at h <;> first | exact h | (simp at h; done))) ?_
    | with_reducible refine reRow2_calm (fun u h₁ => ?_) ?_
    | with_reducible apply ots_calm
    | with_reducible apply takeReaction_calm
    | with_reducible apply vov2_calm
    | split
    | dsimp only

theorem takeoverCommit_calm {arm : Bool} {s₀ : State} {t : Nat} {s : State} (h₀ : Calm arm s₀ s) :
    Calm arm s₀ (takeoverCommit t s) := by
  unfold takeoverCommit
  try dsimp only
  repeat' first
    | with_reducible assumption
    | with_reducible refine each_calm (fun u x h₁ => ?_) ?_
    | with_reducible apply commitAxis_calm
    | with_reducible apply commitReactions_calm
    | with_reducible apply imuTrigger_calm
    | with_reducible apply modPair_calm
    | with_reducible apply modSched_calm
    | with_reducible apply refloatAll_calm
    | split
    | dsimp only

theorem handover_calm {arm : Bool} {s₀ : State} {s : State} (h₀ : Calm arm s₀ s) : Calm arm s₀ (handover s) :=
  calm_of_forget (handover_forget quiet s rfl (quiet_has _)) h₀

theorem clearLock_calm {arm : Bool} {s₀ : State} {s : State} (h₀ : Calm arm s₀ s) :
    Calm arm s₀ (clearLock s) := by
  unfold clearLock
  try dsimp only
  repeat' first
    | with_reducible assumption
    | with_reducible apply modPair_calm
    | with_reducible apply refloatAll_calm
    | with_reducible apply wr_calm
    | split
    | dsimp only

theorem canTxreq_calm {arm : Bool} {s₀ : State} {c : Fin 2} {hi : Bool} {d : Word} {s : State} (h₀ : Calm arm s₀ s) :
    Calm arm s₀ (canTxreq c hi d s) :=
  calm_of_forget (canTxreq_forget quiet c hi d s rfl) h₀

theorem canTxabort_calm {arm : Bool} {s₀ : State} {c : Fin 2} {hi : Bool} {d : Word} {s : State} (h₀ : Calm arm s₀ s)
    : Calm arm s₀ (canTxabort c hi d s) :=
  calm_of_forget (canTxabort_forget quiet c hi d s rfl) h₀

theorem settleAborts_calm {arm : Bool} {s₀ : State} {s : State} {c : Fin 2} (h₀ : Calm arm s₀ s) : Calm arm s₀
    (State.settleAborts s c) :=
  calm_of_forget (settleAborts_forget quiet s c rfl rfl) h₀

theorem dropCore_calm {arm : Bool} {s₀ : State} {s : State} {t : Nat} (h₀ : Calm arm s₀ s) :
    Calm arm s₀ (State.dropCore s t) := by
  unfold State.dropCore
  try dsimp only
  repeat' first
    | with_reducible assumption
    | with_reducible refine each_calm (fun u x h₁ => ?_) ?_
    | with_reducible apply allOff_calm
    | with_reducible apply modImg_calm
    | with_reducible apply modOps_calm
    | with_reducible apply refloatAll_calm
    | with_reducible apply unarm_calm
    | with_reducible apply wr_calm
    | split
    | dsimp only

theorem resetNow_calm {arm : Bool} {s₀ : State} {s : State} {t : Nat} (h₀ : Calm arm s₀ s) :
    Calm arm s₀ (State.resetNow s t) := by
  unfold State.resetNow
  try dsimp only
  repeat' first
    | with_reducible assumption
    | with_reducible refine each_calm (fun u x h₁ => ?_) ?_
    | with_reducible apply dropCore_calm
    | with_reducible apply endHold_calm
    | with_reducible apply modLands_calm
    | split
    | dsimp only

theorem resetFrom_calm {arm : Bool} {s₀ : State} {s : State} {t : Nat} (h₀ : Calm arm s₀ s) :
    Calm arm s₀ (State.resetFrom s t) := by
  unfold State.resetFrom
  try dsimp only
  repeat' first
    | with_reducible assumption
    | with_reducible apply modLands_calm
    | with_reducible apply resetNow_calm
    | split
    | dsimp only

theorem softwareReset_calm {arm : Bool} {s₀ : State} {t : Nat} {s : State} (h₀ : Calm arm s₀ s) :
    Calm arm s₀ (softwareReset t s) := by
  unfold softwareReset
  try dsimp only
  repeat' first
    | with_reducible assumption
    | with_reducible apply modLands_calm
    | with_reducible apply resetFrom_calm
    | split
    | dsimp only

theorem resetRegs_calm {arm : Bool} {s₀ : State} {s : State} (h₀ : Calm arm s₀ s) : Calm arm s₀ (State.resetRegs s) :=
  calm_of_forget (resetRegs_forget quiet s quiet_all) h₀

theorem resetBank_calm {arm : Bool} {s₀ : State} {s : State} {b : Fin 8} (h₀ : Calm arm s₀ s) :
    Calm arm s₀ (State.resetBank s b) := by
  unfold State.resetBank
  try dsimp only
  repeat' first
    | with_reducible assumption
    | with_reducible refine each_calm (fun u x h₁ => ?_) ?_
    | with_reducible refine modHb_calm (by
        intro x
        constructor <;> intro h <;> first
          | exact h
          | (simp at h; done)
          | (simp at h; exact h)
          | (split at h <;> first | exact h | (simp at h; done))
          | (simp [HalfB.swapped, HalfB.start] at h; exact h)
          | (unfold HalfB.start at h; split at h <;> first | exact h | exact absurd h (by decide))) ?_
    | with_reducible refine modBank_calm (by
        intro x h
        first
          | exact h
          | (simp only [Bank.swap] at h; exact h)
          | (simp [Bank.start, Bank.reset] at h; done)
          | (simp at h; done)
          | (simp at h; exact h)
          | (split at h <;> first | exact h | (simp at h; done))) ?_
    | with_reducible apply estop_calm
    | with_reducible apply modAx_calm
    | with_reducible apply modTim_calm
    | split
    | dsimp only

theorem resetEngines_calm {arm : Bool} {s₀ : State} {s : State} (h₀ : Calm arm s₀ s) :
    Calm arm s₀ (State.resetEngines s) := by
  unfold State.resetEngines
  try dsimp only
  repeat' first
    | with_reducible assumption
    | with_reducible refine each_calm (fun u x h₁ => ?_) ?_
    | with_reducible apply modCan_calm
    | with_reducible apply modClk_calm
    | with_reducible apply modFus_calm
    | with_reducible apply modImg_calm
    | with_reducible apply modLink_calm
    | with_reducible apply modOps_calm
    | with_reducible apply modSched_calm
    | with_reducible apply modSol_calm
    | with_reducible apply resetBank_calm
    | split
    | dsimp only

theorem resetRole_calm {arm : Bool} {s₀ : State} {s : State} (h₀ : Calm arm s₀ s) : Calm arm s₀ (State.resetRole s) :=
  calm_of_forget (resetRole_forget quiet s rfl) h₀

theorem resetSafety_calm {arm : Bool} {s₀ : State} {s : State} (h₀ : Calm arm s₀ s) :
    Calm arm s₀ (State.resetSafety s) := by
  unfold State.resetSafety
  try dsimp only
  repeat' first
    | with_reducible assumption
    | with_reducible refine each_calm (fun u x h₁ => ?_) ?_
    | with_reducible refine bankCause_calm (by
        intro x h
        first
          | exact h
          | (simp only [Bank.swap] at h; exact h)
          | (simp [Bank.start, Bank.reset] at h; done)
          | (simp at h; done)
          | (simp at h; exact h)
          | (split at h <;> first | exact h | (simp at h; done))) ?_
    | with_reducible apply estop_calm
    | with_reducible apply modSafe_calm
    | with_reducible apply wr_calm
    | split
    | dsimp only

theorem announce_calm {arm : Bool} {s₀ : State} {s : State} {kind : Nat} (h₀ : Calm arm s₀ s) : Calm arm s₀
    (State.announce s kind) :=
  calm_of_forget (announce_forget quiet s kind quiet_record rfl rfl (quiet_all _) (quiet_has _) (quiet_has _)) h₀

theorem boot_calm {arm : Bool} {s₀ : State} {s : State} (h₀ : Calm arm s₀ s) : Calm arm s₀ (State.boot s) :=
  calm_of_forget (boot_forget quiet s rfl) h₀

theorem releaseP_calm {arm : Bool} {s₀ : State} {s : State} {kind : Nat} (h₀ : Calm arm s₀ s) :
    Calm arm s₀ (State.release' s kind) := by
  unfold State.release'
  try dsimp only
  repeat' first
    | with_reducible assumption
    | with_reducible apply announce_calm
    | with_reducible apply boot_calm
    | with_reducible apply resetEngines_calm
    | with_reducible apply resetRegs_calm
    | with_reducible apply resetRole_calm
    | with_reducible apply resetSafety_calm
    | with_reducible apply satInc_calm
    | split
    | dsimp only

theorem restored_calm {arm : Bool} {s₀ : State} {s : State} (h₀ : Calm arm s₀ s) : Calm arm s₀ (State.restored s) :=
  calm_of_forget (restored_forget quiet s quiet_raise (quiet_has _) (quiet_has _)) h₀

theorem resetRelease_calm {arm : Bool} {s₀ : State} {s : State} (h₀ : Calm arm s₀ s) :
    Calm arm s₀ (resetRelease s) := by
  unfold resetRelease
  try dsimp only
  repeat' first
    | with_reducible assumption
    | with_reducible apply releaseP_calm
    | with_reducible apply restored_calm
    | split
    | dsimp only

theorem tapHolds_calm {arm : Bool} {s₀ : State} {t : Nat} {i : TapInstr} {s : State} (h₀ : Calm arm s₀ s) :
    Calm arm s₀ (tapHolds t i s) := by
  unfold tapHolds
  try dsimp only
  repeat' first
    | with_reducible assumption
    | with_reducible apply modLands_calm
    | with_reducible apply resetFrom_calm
    | split
    | dsimp only

theorem measured_calm {arm : Bool} {s₀ : State} {s : State} {vmain vbak : Word} (h₀ : Calm arm s₀ s) : Calm arm s₀
    (State.measured s vmain vbak) :=
  calm_of_forget (measured_forget quiet s vmain vbak (quiet_has _) (quiet_has _) (quiet_has _)) h₀

theorem chargerNow_calm {arm : Bool} {s₀ : State} {s : State} (h₀ : Calm arm s₀ s) : Calm arm s₀ (State.chargerNow s) :=
  calm_of_forget (chargerNow_forget quiet s rfl) h₀

theorem vioUv_calm {arm : Bool} {s₀ : State} {t : Nat} {vio : Word} {s : State} (h₀ : Calm arm s₀ s) :
    Calm arm s₀ (vioUv t vio s) := by
  unfold vioUv State.whenUp
  try dsimp only
  repeat' first
    | with_reducible assumption
    | with_reducible apply deviceWide_calm
    | with_reducible apply modPwr_calm
    | with_reducible apply wr_calm
    | split
    | dsimp only

theorem abortAll_calm {arm : Bool} {s₀ : State} {s : State} (h₀ : Calm arm s₀ s) :
    Calm arm s₀ (State.abortAll s) := by
  unfold State.abortAll
  try dsimp only
  repeat' first
    | with_reducible assumption
    | with_reducible refine each_calm (fun u x h₁ => ?_) ?_
    | with_reducible apply abortSlot_calm
    | split
    | dsimp only

theorem abortBoot_calm {arm : Bool} {s₀ : State} {s : State} (h₀ : Calm arm s₀ s) : Calm arm s₀ (State.abortBoot s) :=
  calm_of_forget (abortBoot_forget quiet s rfl) h₀

theorem banksSafe_calm {arm : Bool} {s₀ : State} {s : State} {t : Nat} (h₀ : Calm arm s₀ s) :
    Calm arm s₀ (State.banksSafe s t) := by
  unfold State.banksSafe
  try dsimp only
  repeat' first
    | with_reducible assumption
    | with_reducible refine each_calm (fun u x h₁ => ?_) ?_
    | with_reducible refine bankCause_calm (by
        intro x h
        first
          | exact h
          | (simp only [Bank.swap] at h; exact h)
          | (simp [Bank.start, Bank.reset] at h; done)
          | (simp at h; done)
          | (simp at h; exact h)
          | (split at h <;> first | exact h | (simp at h; done))) ?_
    | with_reducible apply disarm_calm
    | with_reducible apply stopAxis_calm
    | split
    | dsimp only

theorem vmainFail_calm {arm : Bool} {s₀ : State} {t : Nat} {vmain vbak : Word} {s : State} (h₀ : Calm arm s₀ s) :
    Calm arm s₀ (vmainFail t vmain vbak s) := by
  unfold vmainFail
  try dsimp only
  repeat' first
    | with_reducible assumption
    | with_reducible apply abortAll_calm
    | with_reducible apply abortBoot_calm
    | with_reducible apply banksSafe_calm
    | with_reducible apply handover_calm
    | with_reducible apply measured_calm
    | with_reducible apply modPair_calm
    | with_reducible apply modPwr_calm
    | with_reducible apply raise_calm
    | with_reducible apply releaseOwner_calm
    | with_reducible apply retryGate_calm
    | with_reducible apply satInc_calm
    | with_reducible apply thaw_calm
    | split
    | dsimp only

theorem holdBank_calm {arm : Bool} {s₀ : State} {s : State} {t : Nat} {b : Fin 8} (h₀ : Calm arm s₀ s) :
    Calm arm s₀ (State.holdBank s t b) := by
  unfold State.holdBank
  try dsimp only
  repeat' first
    | with_reducible assumption
    | with_reducible refine modBank_calm (by
        intro x h
        first
          | exact h
          | (simp only [Bank.swap] at h; exact h)
          | (simp [Bank.start, Bank.reset] at h; done)
          | (simp at h; done)
          | (simp at h; exact h)
          | (split at h <;> first | exact h | (simp at h; done))) ?_
    | with_reducible apply endHold_calm
    | split
    | dsimp only

theorem banksDown_calm {arm : Bool} {s₀ : State} {s : State} {t : Nat} (h₀ : Calm arm s₀ s) :
    Calm arm s₀ (State.banksDown s t) := by
  unfold State.banksDown
  try dsimp only
  repeat' first
    | with_reducible assumption
    | with_reducible refine each_calm (fun u x h₁ => ?_) ?_
    | with_reducible apply domOff_calm
    | with_reducible apply holdBank_calm
    | split
    | dsimp only

theorem downIf_calm {arm : Bool} {s₀ : State} {s : State} {t d : Nat} (h₀ : Calm arm s₀ s) :
    Calm arm s₀ (State.downIf s t d) := by
  unfold State.downIf
  try dsimp only
  repeat' first
    | with_reducible assumption
    | with_reducible apply domOff_calm
    | split
    | dsimp only

theorem handStep_calm {arm : Bool} {s₀ : State} {s : State} {t : Nat} (h₀ : Calm arm s₀ s) :
    Calm arm s₀ (State.handStep s t) := by
  unfold State.handStep
  try dsimp only
  repeat' first
    | with_reducible assumption
    | with_reducible apply banksDown_calm
    | with_reducible apply downIf_calm
    | with_reducible apply modPwr_calm
    | with_reducible apply raiseDomSw_calm
    | split
    | dsimp only

theorem restoreLater_calm {arm : Bool} {s₀ : State} {s : State} (h₀ : Calm arm s₀ s) : Calm arm s₀ (State.restoreLater
    s) :=
  calm_of_forget (restoreLater_forget quiet s rfl (quiet_has _) (quiet_has _)) h₀

theorem toMain_calm {arm : Bool} {s₀ : State} {s : State} (h₀ : Calm arm s₀ s) : Calm arm s₀ (State.toMain s) :=
  calm_of_forget (toMain_forget quiet s rfl rfl) h₀

theorem warmRestart_calm {arm : Bool} {s₀ : State} {s : State} (h₀ : Calm arm s₀ s) :
    Calm arm s₀ (State.warmRestart s) := by
  unfold State.warmRestart
  try dsimp only
  repeat' first
    | with_reducible assumption
    | with_reducible apply announce_calm
    | with_reducible apply applyReq_calm
    | with_reducible apply modLands_calm
    | with_reducible apply refloatAll_calm
    | with_reducible apply resetRole_calm
    | with_reducible apply resetSafety_calm
    | with_reducible apply restoreLater_calm
    | with_reducible apply toMain_calm
    | split
    | dsimp only

theorem corePowerOn_calm {arm : Bool} {s₀ : State} {s : State} (h₀ : Calm arm s₀ s) :
    Calm arm s₀ (State.corePowerOn s) := by
  unfold State.corePowerOn
  try dsimp only
  repeat' first
    | with_reducible assumption
    | with_reducible apply modRcd_calm
    | with_reducible apply modStore_calm
    | with_reducible apply releaseP_calm
    | with_reducible apply restored_calm
    | with_reducible apply toMain_calm
    | split
    | dsimp only

theorem coreOff_calm {arm : Bool} {s₀ : State} {s : State} {t : Nat} (h₀ : Calm arm s₀ s) :
    Calm arm s₀ (State.coreOff s t) := by
  unfold State.coreOff
  try dsimp only
  repeat' first
    | with_reducible assumption
    | with_reducible apply dropCore_calm
    | with_reducible apply dropItems_calm
    | with_reducible apply modClk_calm
    | with_reducible apply modImg_calm
    | with_reducible apply modLands_calm
    | with_reducible apply modPair_calm
    | with_reducible apply modPwr_calm
    | with_reducible apply ppsBreak_calm
    | split
    | dsimp only

theorem toBackup_calm {arm : Bool} {s₀ : State} {s : State} {t : Nat} (h₀ : Calm arm s₀ s) :
    Calm arm s₀ (State.toBackup s t) := by
  unfold State.toBackup
  try dsimp only
  repeat' first
    | with_reducible assumption
    | with_reducible apply coreOff_calm
    | with_reducible apply modPwr_calm
    | split
    | dsimp only

theorem afterFlush_calm {arm : Bool} {s₀ : State} {s : State} {t : Nat} (h₀ : Calm arm s₀ s) :
    Calm arm s₀ (State.afterFlush s t) := by
  unfold State.afterFlush
  try dsimp only
  repeat' first
    | with_reducible assumption
    | with_reducible apply modPwr_calm
    | with_reducible apply resetNow_calm
    | with_reducible apply toBackup_calm
    | with_reducible apply warmRestart_calm
    | split
    | dsimp only

theorem criticalWindowEnd_calm {arm : Bool} {s₀ : State} {s : State} (h₀ : Calm arm s₀ s) :
    Calm arm s₀ (criticalWindowEnd s) := by
  unfold criticalWindowEnd
  try dsimp only
  repeat' first
    | with_reducible assumption
    | with_reducible apply afterFlush_calm
    | with_reducible apply modPwr_calm
    | split
    | dsimp only

theorem flushEnd_calm {arm : Bool} {s₀ : State} {t : Nat} {s : State} (h₀ : Calm arm s₀ s) :
    Calm arm s₀ (flushEnd t s) := by
  unfold flushEnd
  try dsimp only
  repeat' first
    | with_reducible assumption
    | with_reducible apply afterFlush_calm
    | with_reducible apply modPwr_calm
    | with_reducible apply wr_calm
    | split
    | dsimp only

theorem vmainOkFall_calm {arm : Bool} {s₀ : State} {s : State} (h₀ : Calm arm s₀ s) :
    Calm arm s₀ (vmainOkFall s) := by
  unfold vmainOkFall
  try dsimp only
  repeat' first
    | with_reducible assumption
    | with_reducible apply modPwr_calm
    | with_reducible apply toBackup_calm
    | split
    | dsimp only

theorem vmainBounce_calm {arm : Bool} {s₀ : State} {s : State} (h₀ : Calm arm s₀ s) :
    Calm arm s₀ (vmainBounce s) := by
  unfold vmainBounce
  try dsimp only
  repeat' first
    | with_reducible assumption
    | with_reducible apply modPwr_calm
    | with_reducible apply raise_calm
    | with_reducible apply satInc_calm
    | with_reducible apply vmainOkFall_calm
    | split
    | dsimp only

theorem vbakMinLoss_calm {arm : Bool} {s₀ : State} {s : State} (h₀ : Calm arm s₀ s) :
    Calm arm s₀ (vbakMinLoss s) := by
  unfold vbakMinLoss
  try dsimp only
  repeat' first
    | with_reducible assumption
    | with_reducible apply allOff_calm
    | with_reducible apply banksDown_calm
    | with_reducible apply coreOff_calm
    | with_reducible apply modPwr_calm
    | split
    | dsimp only

theorem loseFifo_calm {arm : Bool} {s₀ : State} {s : State} (h₀ : Calm arm s₀ s) : Calm arm s₀ (State.loseFifo s) :=
  calm_of_forget (loseFifo_forget quiet s rfl rfl (quiet_has _)) h₀

theorem loseItem_calm {arm : Bool} {s₀ : State} {s : State} (h₀ : Calm arm s₀ s) : Calm arm s₀ (State.loseItem s) :=
  calm_of_forget (loseItem_forget quiet s rfl rfl (quiet_has _)) h₀

theorem doubleBit_calm {arm : Bool} {s₀ : State} {s : State} {t inst a : Nat} (h₀ : Calm arm s₀ s) :
    Calm arm s₀ (State.doubleBit s t inst a) := by
  unfold State.doubleBit
  try dsimp only
  repeat' first
    | with_reducible assumption
    | with_reducible apply deviceWide_calm
    | with_reducible apply loseFifo_calm
    | with_reducible apply loseItem_calm
    | with_reducible apply modRcd_calm
    | with_reducible apply solverFault_calm
    | split
    | dsimp only

theorem ramSec_calm {arm : Bool} {s₀ : State} {t inst : Nat} {a : Word} {double : Bool} {s : State} (h₀ : Calm arm s₀
    s) :
    Calm arm s₀ (ramSec t inst a double s) := by
  unfold ramSec
  try dsimp only
  repeat' first
    | with_reducible assumption
    | with_reducible apply doubleBit_calm
    | with_reducible apply raise_calm
    | with_reducible apply satInc_calm
    | split
    | dsimp only

theorem readAll_calm {arm : Bool} {s₀ : State} {s : State} {t : Nat} {x0 : List Nat} (h₀ : Calm arm s₀ s) : Calm arm
    s₀ (State.readAll s t x0).1 :=
  calm_of_forget (readAll_forget quiet s t x0 rfl) h₀

theorem commit2_calm {arm : Bool} {s₀ : State} {s : State} {t a : Nat} {d : Word} (h₀ : Calm arm s₀ s) :
    Calm arm s₀ (State.commit2 s t a d) := by
  unfold State.commit2
  try dsimp only
  repeat' first
    | with_reducible assumption
    | with_reducible apply storeWord_calm
    | split
    | dsimp only

theorem bounded_calm {arm : Bool} {s₀ : State} {s : State} {a : Nat} {fs : List Fld} {d : Word}
    {f : Word → State → State} (hf : ∀ v u, Calm arm s₀ u → Calm arm s₀ (f v u)) (h₀ : Calm arm s₀ s) :
    Calm arm s₀ (State.bounded s a fs d f) := by
  unfold State.bounded
  dsimp only
  exact reportSat_calm (hf _ s h₀)

theorem winWrite_calm {arm : Bool} {s₀ : State} {n : Nat} {d : Word} {s : State} (h₀ : Calm arm s₀ s) : Calm arm s₀
    (winWrite n d s) :=
  calm_of_forget (winWrite_forget quiet n d s rfl rfl) h₀

theorem runWord_calm {arm : Bool} {s₀ : State} {t : Nat} {hi : Bool} {d : Word} {s : State} (h₀ : Calm arm s₀ s) :
    Calm arm s₀ (runWord t hi d s) :=
  calm_of_forget (runWord_forget quiet t hi d s rfl (quiet_has _) (quiet_has _)) h₀

theorem gateFltClear_calm {arm : Bool} {s₀ : State} {t : Nat} {h : Fin 72} {d : Word} {s : State} (h₀ : Calm arm s₀ s)
    :
    Calm arm s₀ (gateFltClear t h d s) := by
  unfold gateFltClear
  try dsimp only
  repeat' first
    | with_reducible assumption
    | with_reducible apply clrFlags_calm
    | with_reducible apply releaseFaults_calm
    | with_reducible apply w1c_calm
    | split
    | dsimp only

theorem ampWrite_calm {arm : Bool} {s₀ : State} {t a : Nat} {h : Fin 72} {d : Word} {s : State} (h₀ : Calm arm s₀ s) :
    Calm arm s₀ (ampWrite t a h d s) := by
  unfold ampWrite
  try dsimp only
  repeat' first
    | with_reducible assumption
    | with_reducible refine modHb_calm (by
        intro x
        constructor <;> intro h <;> first
          | exact h
          | (simp at h; done)
          | (simp at h; exact h)
          | (split at h <;> first | exact h | (simp at h; done))
          | (simp [HalfB.swapped, HalfB.start] at h; exact h)
          | (unfold HalfB.start at h; split at h <;> first | exact h | exact absurd h (by decide))) ?_
    | with_reducible apply storeWord_calm
    | split
    | dsimp only

theorem axCmd_calm {arm : Bool} {s₀ : State} {x : Fin 24} {d : Word} {s : State} (h₀ : Calm arm s₀ s) : Calm arm s₀
    (axCmd x d s) :=
  calm_of_forget (axCmd_forget quiet x d s quiet_raise rfl rfl (quiet_has _) (quiet_has _)) h₀

theorem armWrite_calm {s₀ : State} {t : Nat} {b : Fin 8} {d : Word} {s : State} (h₀ : Calm false s₀ s) :
    Calm false s₀ (armWrite t b d s) := by
  unfold armWrite
  try dsimp only
  repeat' first
    | with_reducible assumption
    | with_reducible apply armComplete_calm
    | with_reducible apply armPrepare_calm
    | with_reducible apply hostDisarm_calm
    | split
    | dsimp only

theorem solClr_calm {arm : Bool} {s₀ : State} {r : Nat} {d : Word} {s : State} (h₀ : Calm arm s₀ s) : Calm arm s₀
    (solClr r d s) :=
  calm_of_forget (solClr_forget quiet r d s rfl (quiet_has _)) h₀

theorem writeBlock_calm {s₀ : State} {s : State} {t a : Nat} {d : Word} {r : Reg} {ix : List Nat} (h₀ : Calm false s₀
    s) :
    Calm false s₀ (State.writeBlock s t a d r ix) := by
  unfold State.writeBlock
  try dsimp only
  repeat' first
    | with_reducible assumption
    | with_reducible apply ampWrite_calm
    | with_reducible apply armWrite_calm
    | with_reducible apply axCmd_calm
    | with_reducible apply canTxabort_calm
    | with_reducible apply canTxreq_calm
    | with_reducible apply clearLock_calm
    | with_reducible apply clearQueue_calm
    | with_reducible apply gateFltClear_calm
    | with_reducible apply gsupFltClear_calm
    | with_reducible apply handover_calm
    | with_reducible apply hostInject_calm
    | with_reducible apply protBfltClear_calm
    | with_reducible apply protChfltClear_calm
    | with_reducible apply schCancel_calm
    | with_reducible apply schSect_calm
    | with_reducible apply scheduleInsert_calm
    | with_reducible apply solClr_calm
    | with_reducible apply storeWord_calm
    | split
    | dsimp only

theorem afterStore_calm {arm : Bool} {s₀ : State} {s : State} {a : Nat} {r : Reg} {ix : List Nat} {before : Word} (h₀
    : Calm arm s₀ s) : Calm arm s₀ (State.afterStore s a r ix before) :=
  calm_of_forget (afterStore_forget quiet s a r ix before quiet_raise rfl rfl rfl rfl rfl (quiet_has _)) h₀

theorem jlostWrite_calm {arm : Bool} {s₀ : State} {t : Nat} {d : Word} {s : State} (h₀ : Calm arm s₀ s) :
    Calm arm s₀ (jlostWrite t d s) := by
  unfold jlostWrite
  try dsimp only
  repeat' first
    | with_reducible assumption
    | with_reducible apply modStore_calm
    | with_reducible apply storeWord_calm
    | split
    | dsimp only

theorem recCtl_calm {arm : Bool} {s₀ : State} {d : Word} {s : State} (h₀ : Calm arm s₀ s) : Calm arm s₀ (recCtl d s) :=
  calm_of_forget (recCtl_forget quiet d s quiet_record rfl) h₀

theorem writeCore_calm {arm : Bool} {s₀ : State} {s : State} {t a : Nat} {d : Word} {r : Reg} {ix : List Nat} {fs :
    List Fld} (h₀ : Calm arm s₀ s) :
    Calm arm s₀ (State.writeCore s t a d r ix fs) := by
  unfold State.writeCore
  try dsimp only
  repeat' first
    | with_reducible assumption
    | with_reducible refine bounded_calm (fun v u h₁ => ?_) ?_
    | with_reducible apply chargerNow_calm
    | with_reducible apply commit2_calm
    | with_reducible apply doorbell_calm
    | with_reducible apply evtStatClear_calm
    | with_reducible apply hostMark_calm
    | with_reducible apply imgKeydataWrite_calm
    | with_reducible apply jlostWrite_calm
    | with_reducible apply keyCmd_calm
    | with_reducible apply loadAll_calm
    | with_reducible apply loadStage_calm
    | with_reducible apply opAbort_calm
    | with_reducible apply opRelease_calm
    | with_reducible apply recClr_calm
    | with_reducible apply recCtl_calm
    | with_reducible apply relock_calm
    | with_reducible apply runWord_calm
    | with_reducible apply safeClr_calm
    | with_reducible apply safePlfltClear_calm
    | with_reducible apply safeWdcfg_calm
    | with_reducible apply storeRead_calm
    | with_reducible apply storeWord_calm
    | with_reducible apply storeWrite_calm
    | with_reducible apply tickRestore_calm
    | with_reducible apply timeApply_calm
    | with_reducible apply watchdogKick_calm
    | with_reducible apply winWrite_calm
    | with_reducible apply writeDomReq_calm
    | split
    | dsimp only

theorem writeLegal_calm {s₀ : State} {s : State} {t a : Nat} {d : Word} (h₀ : Calm false s₀ s) :
    Calm false s₀ (State.writeLegal s t a d) := by
  unfold State.writeLegal
  try dsimp only
  repeat' first
    | with_reducible assumption
    | with_reducible refine bounded_calm (fun v u h₁ => ?_) ?_
    | with_reducible apply afterStore_calm
    | with_reducible apply commit2_calm
    | with_reducible apply setStaged_calm
    | with_reducible apply writeBlock_calm
    | with_reducible apply writeCore_calm
    | split
    | dsimp only

theorem hostErr_calm {s₀ : State} {s : State} {t a : Nat} (h₀ : Calm false s₀ s) :
    Calm false s₀ (State.hostErr s t a) := by
  unfold State.hostErr
  try dsimp only
  repeat' first
    | with_reducible assumption
    | with_reducible refine each_calm (fun u x h₁ => ?_) ?_
    | with_reducible apply took_calm
    | with_reducible apply writeLegal_calm
    | split
    | dsimp only

theorem cancelArm_calm {arm : Bool} {s₀ : State} {s : State} {a : Nat} (h₀ : Calm arm s₀ s) :
    Calm arm s₀ (State.cancelArm s a) := by
  unfold State.cancelArm
  try dsimp only
  repeat' first
    | with_reducible assumption
    | with_reducible refine modBank_calm (by
        intro x h
        first
          | exact h
          | (simp only [Bank.swap] at h; exact h)
          | (simp [Bank.start, Bank.reset] at h; done)
          | (simp at h; done)
          | (simp at h; exact h)
          | (split at h <;> first | exact h | (simp at h; done))) ?_
    | split
    | dsimp only

theorem ampClash_calm {s₀ : State} {t a : Nat} {d : Word} {s : State} (h₀ : Calm false s₀ s) :
    Calm false s₀ (ampClash t a d s) := by
  unfold ampClash
  try dsimp only
  repeat' first
    | with_reducible assumption
    | with_reducible refine each_calm (fun u x h₁ => ?_) ?_
    | with_reducible apply hostErr_calm
    | with_reducible apply storeWord_calm
    | split
    | dsimp only

theorem ampLate_calm {arm : Bool} {s₀ : State} {t a : Nat} {d : Word} {s : State} (h₀ : Calm arm s₀ s) :
    Calm arm s₀ (ampLate t a d s) := by
  unfold ampLate
  try dsimp only
  repeat' first
    | with_reducible assumption
    | with_reducible apply ampWrite_calm
    | split
    | dsimp only

theorem writeWord_calm {s₀ : State} {s : State} {t a : Nat} {d : Word} (h₀ : Calm false s₀ s) :
    Calm false s₀ (State.writeWord s t a d) := by
  unfold State.writeWord
  try dsimp only
  repeat' first
    | with_reducible assumption
    | with_reducible apply ampClash_calm
    | with_reducible apply ampLate_calm
    | with_reducible apply cancelArm_calm
    | with_reducible apply hostErr_calm
    | with_reducible apply writeLegal_calm
    | split
    | dsimp only

theorem writeWordsAfter_calm {s₀ : State} {t : Nat} {l : List (Nat × Word)} : ∀ {s : State} {before : List Nat},
    Calm false s₀ s → Calm false s₀ (s.writeWordsAfter t before l) := by
  induction l with
  | nil => intro s before h; exact h
  | cons p rest ih =>
    intro s before h
    rw [State.writeWordsAfter]
    refine ih ?_
    split
    · exact hostErr_calm h
    · exact writeWord_calm h

theorem writeWords_calm {s₀ : State} {s : State} {t : Nat} {l : List (Nat × Word)} (h₀ : Calm false s₀ s) :
    Calm false s₀ (s.writeWords t l) := writeWordsAfter_calm h₀

theorem setMiso_calm {arm : Bool} {s₀ : State} {s : State} {l : List Word} (h₀ : Calm arm s₀ s) : Calm arm s₀
    (State.setMiso s l) :=
  calm_of_forget (setMiso_forget quiet s l rfl) h₀

theorem freeWords_calm {arm : Bool} {s₀ : State} {s : State} {n : Nat} (h₀ : Calm arm s₀ s) : Calm arm s₀
    (State.freeWords s n).1 :=
  calm_of_forget (freeWords_forget quiet s n rfl) h₀

theorem freeWords_calm_eq {arm : Bool} {s₀ : State} {s : State} {n : Nat} {t' : State} {v' : List Word} (e :
    State.freeWords s n = (t', v')) (h₀ : Calm arm s₀ s) :
    Calm arm s₀ t' := by
  have : Calm arm s₀ (State.freeWords s n).1 := freeWords_calm h₀
  rwa [e] at this

theorem nopFrame_calm {s₀ : State} {hdr : Word} {s : State} (h₀ : Calm false s₀ s) :
    Calm false s₀ (nopFrame hdr s) := by
  unfold nopFrame
  try dsimp only
  repeat' first
    | with_reducible assumption
    | with_reducible apply hostErr_calm
    | with_reducible apply setMiso_calm
    | split
    | dsimp only

theorem readFrame_calm {s₀ : State} {fixed : Bool} {hdr addr : Word} {words : Nat} {s : State} (h₀ : Calm false s₀ s)
    :
    Calm false s₀ (readFrame fixed hdr addr words s) := by
  unfold readFrame
  try dsimp only
  repeat' first
    | with_reducible assumption
    | with_reducible refine freeWords_calm_eq (by assumption) ?_
    | with_reducible apply freeWords_calm
    | with_reducible apply hostErr_calm
    | with_reducible apply readAll_calm
    | with_reducible apply setMiso_calm
    | with_reducible apply took_calm
    | split
    | dsimp only

theorem discard_calm {arm : Bool} {s₀ : State} {s : State} {cause : Nat} (h₀ : Calm arm s₀ s) : Calm arm s₀
    (State.discard s cause) :=
  calm_of_forget (discard_forget quiet s cause quiet_raise (quiet_has _) (quiet_has _)) h₀

theorem accept_calm {s₀ : State} {s : State} {t : Nat} {fixed : Bool} {hdr addr : Word} {ws : List Word} (h₀ : Calm
    false s₀ s) :
    Calm false s₀ (State.accept s t fixed hdr addr ws) := by
  unfold State.accept
  try dsimp only
  repeat' first
    | with_reducible assumption
    | with_reducible apply hostErr_calm
    | with_reducible apply softwareReset_calm
    | with_reducible apply wrapInc_calm
    | with_reducible apply writeWords_calm
    | split
    | dsimp only

theorem writeFrame_calm {s₀ : State} {t : Nat} {fixed : Bool} {hdr addr : Word} {body : List Word} {s : State} (h₀ :
    Calm false s₀ s) :
    Calm false s₀ (writeFrame t fixed hdr addr body s) := by
  unfold writeFrame
  try dsimp only
  repeat' first
    | with_reducible assumption
    | with_reducible apply accept_calm
    | with_reducible apply discard_calm
    | with_reducible apply hostErr_calm
    | with_reducible apply setMiso_calm
    | split
    | dsimp only

theorem spiFrame_calm {s₀ : State} {t : Nat} {hdr addr : Word} {body : List Word} {words : Nat} {s : State} (h₀ : Calm
    false s₀ s) :
    Calm false s₀ (spiFrame t hdr addr body words s) := by
  unfold spiFrame
  try dsimp only
  repeat' first
    | with_reducible assumption
    | with_reducible apply nopFrame_calm
    | with_reducible apply readFrame_calm
    | with_reducible apply writeFrame_calm
    | split
    | dsimp only

theorem hostWordAt_calm {s₀ : State} {s : State} {t a : Nat} {d : Word} (h₀ : Calm false s₀ s) :
    Calm false s₀ (State.hostWordAt s t a d) := by
  unfold State.hostWordAt State.whenHost
  try dsimp only
  repeat' first
    | with_reducible assumption
    | with_reducible apply writeWord_calm
    | split
    | dsimp only

theorem hostWord_calm {s₀ : State} {s : State} {a : Nat} {d : Word} (h₀ : Calm false s₀ s) :
    Calm false s₀ (State.hostWord s a d) := by
  unfold State.hostWord
  try dsimp only
  repeat' first
    | with_reducible assumption
    | with_reducible apply hostWordAt_calm
    | split
    | dsimp only

theorem ring_calm {s₀ : State} {s : State} {op : Nat} (h₀ : Calm false s₀ s) :
    Calm false s₀ (State.ring s op) := by
  unfold State.ring
  try dsimp only
  repeat' first
    | with_reducible assumption
    | with_reducible apply hostWord_calm
    | split
    | dsimp only

theorem takeVov_calm {s₀ : State} {s : State} {b : Fin 8} (h₀ : Calm false s₀ s) :
    Calm false s₀ (State.takeVov s b) := by
  unfold State.takeVov
  try dsimp only
  repeat' first
    | with_reducible assumption
    | with_reducible apply modBank_any
    | with_reducible apply hostErr_calm
    | with_reducible apply wr_calm
    | split
    | dsimp only

theorem endTick_calm {s₀ : State} {s : State} (h₀ : Calm false s₀ s) :
    Calm false s₀ (State.endTick s) := by
  unfold State.endTick
  try dsimp only
  repeat' first
    | with_reducible assumption
    | with_reducible refine each_calm (fun u x h₁ => ?_) ?_
    | with_reducible apply applyFreeze_calm
    | with_reducible apply flushDue_calm
    | with_reducible apply takeVov_calm
    | split
    | dsimp only

theorem startTick_calm {arm : Bool} {s₀ : State} {s : State} (h₀ : Calm arm s₀ s) :
    Calm arm s₀ (State.startTick s) := by
  unfold State.startTick
  try dsimp only
  repeat' first
    | with_reducible assumption
    | with_reducible refine each_calm (fun u x h₁ => ?_) ?_
    | with_reducible apply countDeferred_calm
    | with_reducible apply drain_calm
    | with_reducible apply keepAlive_calm
    | with_reducible apply settleAborts_calm
    | with_reducible apply watchOwnIn_calm
    | split
    | dsimp only

theorem tick_calm {s₀ : State} {s : State} (h₀ : Calm false s₀ s) : Calm false s₀ (tick s) := by
  unfold tick
  split
  · exact h₀
  · have h₁ : Calm false s₀ (s.whenUp State.endTick) := by
      unfold State.whenUp
      split
      · exact endTick_calm h₀
      · exact h₀
    have h₂ := modRcd_calm (f := fun r => { r with wrote := 0 }) (modPwr_calm (f := fun p => { p with vioSeen := true })
      (setFresh_calm (l := []) (tickTime_calm h₁)))
    dsimp only
    generalize ((State.modPwr { (s.whenUp State.endTick).tickTime with fresh := [] } _).modRcd _) = u at h₂
    unfold State.whenUp
    split
    · exact startTick_calm h₂
    · exact h₂

end Sys2Proof.Laws
end

