-- ==== Sys2Proof/Laws/FrameExec.lean ====
section
/-! SUPPORT. Sys2Proof/Laws/FrameExec.lean: which parts of the state the meaning of each command may change. -/
namespace Sys2Proof.Laws
set_option Elab.async false
set_option linter.unusedSimpArgs false
open Sys2Proof.Machine Sys2Proof.Safety

theorem execRegisterWrite_forget (P : Parts) (at' : Fin 200) (a d : Word) (s : State) (t' : State) (hrec : MayRecord
    P) (h_free : P.free = true) (h_clk : P.clk = true) (h_link : P.link = true) (h_ops : P.ops = true) (h_can : P.can
    = true) (h_tim : P.tim = true) (h_hb : P.hb = true) (h_bank : P.bank = true) (h_ax : P.ax = true) (h_fus : P.fus =
    true) (h_sched : P.sched = true) (h_sol : P.sol = true) (h_img : P.img = true) (h_pwr : P.pwr = true) (h_store :
    P.store = true) (h_pair : P.pair = true) (h_safe : P.safe = true) (h_win : P.win = true) (h_all : ∀ b, b ∈ P.blks)
    (h' : execRegisterWrite at' a d s = .next t') : forget P t' = forget P s := by
  unfold execRegisterWrite at h'
  injection h' with h'; subst h'
  unfold State.whenHost
  try dsimp only
  (repeat' split) <;> first | with_reducible rfl | simp only [writeWord_forget, implies_true, Nat.reduceLT,
      ite_forget, ite_self, hrec, hrec.queue.raises, hrec.queue, hrec.recs, h_free, h_clk, h_link, h_ops, h_can,
      h_tim, h_hb, h_bank, h_ax, h_fus, h_sched, h_sol, h_img, h_pwr, h_store, h_pair, h_safe, h_win, h_all,
      Fin.is_lt]

theorem execMultiwordLatchRead_forget (P : Parts) (a : Word) (s : State) (t' : State) (h_free : P.free = true) (h_link
    : P.link = true) (h' : execMultiwordLatchRead a s = .next t') : forget P t' = forget P s := by
  unfold execMultiwordLatchRead at h'
  injection h' with h'; subst h'
  unfold State.whenHost
  try dsimp only
  (repeat' split) <;> first | with_reducible rfl | simp only [readAt_forget, took_forget, Nat.reduceLT, ite_forget,
      ite_self, h_free, h_link, Fin.is_lt]

theorem execNop_forget (P : Parts) (hdr : Word) (s : State) (t' : State) (hrec : MayRecord P) (h_free : P.free = true)
    (h_clk : P.clk = true) (h_link : P.link = true) (h_ops : P.ops = true) (h_can : P.can = true) (h_tim : P.tim =
    true) (h_hb : P.hb = true) (h_bank : P.bank = true) (h_ax : P.ax = true) (h_fus : P.fus = true) (h_sched : P.sched
    = true) (h_sol : P.sol = true) (h_img : P.img = true) (h_pwr : P.pwr = true) (h_store : P.store = true) (h_pair :
    P.pair = true) (h_safe : P.safe = true) (h_lands : P.lands = true) (h_win : P.win = true) (h_all : ∀ b, b ∈
    P.blks) (h' : execNop hdr s = .next t') : forget P t' = forget P s := by
  unfold execNop at h'
  injection h' with h'; subst h'
  unfold State.whenHost
  try dsimp only
  (repeat' split) <;> first | with_reducible rfl | simp only [spiFrame_forget, implies_true, Nat.reduceLT, ite_forget,
      ite_self, hrec, hrec.queue.raises, hrec.queue, hrec.recs, h_free, h_clk, h_link, h_ops, h_can, h_tim, h_hb,
      h_bank, h_ax, h_fus, h_sched, h_sol, h_img, h_pwr, h_store, h_pair, h_safe, h_lands, h_win, h_all, Fin.is_lt]

theorem execRead_forget (P : Parts) (hdr addr : Word) (words : Nat) (s : State) (t' : State) (hrec : MayRecord P)
    (h_free : P.free = true) (h_clk : P.clk = true) (h_link : P.link = true) (h_ops : P.ops = true) (h_can : P.can =
    true) (h_tim : P.tim = true) (h_hb : P.hb = true) (h_bank : P.bank = true) (h_ax : P.ax = true) (h_fus : P.fus =
    true) (h_sched : P.sched = true) (h_sol : P.sol = true) (h_img : P.img = true) (h_pwr : P.pwr = true) (h_store :
    P.store = true) (h_pair : P.pair = true) (h_safe : P.safe = true) (h_lands : P.lands = true) (h_win : P.win =
    true) (h_all : ∀ b, b ∈ P.blks) (h' : execRead hdr addr words s = .next t') : forget P t' = forget P s := by
  unfold execRead at h'
  injection h' with h'; subst h'
  unfold State.whenHost
  try dsimp only
  (repeat' split) <;> first | with_reducible rfl | simp only [spiFrame_forget, implies_true, Nat.reduceLT, ite_forget,
      ite_self, hrec, hrec.queue.raises, hrec.queue, hrec.recs, h_free, h_clk, h_link, h_ops, h_can, h_tim, h_hb,
      h_bank, h_ax, h_fus, h_sched, h_sol, h_img, h_pwr, h_store, h_pair, h_safe, h_lands, h_win, h_all, Fin.is_lt]

theorem execReadFixed_forget (P : Parts) (hdr addr : Word) (words : Nat) (s : State) (t' : State) (hrec : MayRecord P)
    (h_free : P.free = true) (h_clk : P.clk = true) (h_link : P.link = true) (h_ops : P.ops = true) (h_can : P.can =
    true) (h_tim : P.tim = true) (h_hb : P.hb = true) (h_bank : P.bank = true) (h_ax : P.ax = true) (h_fus : P.fus =
    true) (h_sched : P.sched = true) (h_sol : P.sol = true) (h_img : P.img = true) (h_pwr : P.pwr = true) (h_store :
    P.store = true) (h_pair : P.pair = true) (h_safe : P.safe = true) (h_lands : P.lands = true) (h_win : P.win =
    true) (h_all : ∀ b, b ∈ P.blks) (h' : execReadFixed hdr addr words s = .next t') : forget P t' = forget P s := by
  unfold execReadFixed at h'
  injection h' with h'; subst h'
  unfold State.whenHost
  try dsimp only
  (repeat' split) <;> first | with_reducible rfl | simp only [spiFrame_forget, implies_true, Nat.reduceLT, ite_forget,
      ite_self, hrec, hrec.queue.raises, hrec.queue, hrec.recs, h_free, h_clk, h_link, h_ops, h_can, h_tim, h_hb,
      h_bank, h_ax, h_fus, h_sched, h_sol, h_img, h_pwr, h_store, h_pair, h_safe, h_lands, h_win, h_all, Fin.is_lt]

theorem execWrite_forget (P : Parts) (at' : Fin 200) (hdr addr : Word) (body : List Word) (s : State) (t' : State)
    (hrec : MayRecord P) (h_free : P.free = true) (h_clk : P.clk = true) (h_link : P.link = true) (h_ops : P.ops =
    true) (h_can : P.can = true) (h_tim : P.tim = true) (h_hb : P.hb = true) (h_bank : P.bank = true) (h_ax : P.ax =
    true) (h_fus : P.fus = true) (h_sched : P.sched = true) (h_sol : P.sol = true) (h_img : P.img = true) (h_pwr :
    P.pwr = true) (h_store : P.store = true) (h_pair : P.pair = true) (h_safe : P.safe = true) (h_lands : P.lands =
    true) (h_win : P.win = true) (h_all : ∀ b, b ∈ P.blks) (h' : execWrite at' hdr addr body s = .next t') : forget P
    t' = forget P s := by
  unfold execWrite at h'
  injection h' with h'; subst h'
  unfold State.whenHost
  try dsimp only
  (repeat' split) <;> first | with_reducible rfl | simp only [spiFrame_forget, implies_true, Nat.reduceLT, ite_forget,
      ite_self, hrec, hrec.queue.raises, hrec.queue, hrec.recs, h_free, h_clk, h_link, h_ops, h_can, h_tim, h_hb,
      h_bank, h_ax, h_fus, h_sched, h_sol, h_img, h_pwr, h_store, h_pair, h_safe, h_lands, h_win, h_all, Fin.is_lt]

theorem execWriteFixed_forget (P : Parts) (at' : Fin 200) (hdr addr : Word) (body : List Word) (s : State) (t' :
    State) (hrec : MayRecord P) (h_free : P.free = true) (h_clk : P.clk = true) (h_link : P.link = true) (h_ops :
    P.ops = true) (h_can : P.can = true) (h_tim : P.tim = true) (h_hb : P.hb = true) (h_bank : P.bank = true) (h_ax :
    P.ax = true) (h_fus : P.fus = true) (h_sched : P.sched = true) (h_sol : P.sol = true) (h_img : P.img = true)
    (h_pwr : P.pwr = true) (h_store : P.store = true) (h_pair : P.pair = true) (h_safe : P.safe = true) (h_lands :
    P.lands = true) (h_win : P.win = true) (h_all : ∀ b, b ∈ P.blks) (h' : execWriteFixed at' hdr addr body s = .next
    t') : forget P t' = forget P s := by
  unfold execWriteFixed at h'
  injection h' with h'; subst h'
  unfold State.whenHost
  try dsimp only
  (repeat' split) <;> first | with_reducible rfl | simp only [spiFrame_forget, implies_true, Nat.reduceLT, ite_forget,
      ite_self, hrec, hrec.queue.raises, hrec.queue, hrec.recs, h_free, h_clk, h_link, h_ops, h_can, h_tim, h_hb,
      h_bank, h_ax, h_fus, h_sched, h_sol, h_img, h_pwr, h_store, h_pair, h_safe, h_lands, h_win, h_all, Fin.is_lt]

theorem execSpiHeaderTruncated_forget (P : Parts) (edges : Fin 16) (s : State) (t' : State) (hev : MayRaise P)
    (r_HOST_CRCCNT : P.Has .HOST_CRCCNT) (r_HOST_ERR : P.Has .HOST_ERR) (h' : execSpiHeaderTruncated edges s = .next
    t') : forget P t' = forget P s := by
  unfold execSpiHeaderTruncated at h'
  injection h' with h'; subst h'
  unfold State.whenHost
  try dsimp only
  (repeat' split) <;> first | with_reducible rfl | simp only [discard_forget, Nat.reduceLT, ite_forget, ite_self, hev,
      hev.rcd, hev.fresh, hev.evt, r_HOST_CRCCNT, r_HOST_ERR, Fin.is_lt]

theorem execTick_forget (P : Parts) (s : State) (t' : State) (hrec : MayRecord P) (h_free : P.free = true) (h_clk :
    P.clk = true) (h_link : P.link = true) (h_ops : P.ops = true) (h_can : P.can = true) (h_tim : P.tim = true) (h_hb
    : P.hb = true) (h_bank : P.bank = true) (h_ax : P.ax = true) (h_fus : P.fus = true) (h_sched : P.sched = true)
    (h_sol : P.sol = true) (h_img : P.img = true) (h_pwr : P.pwr = true) (h_store : P.store = true) (h_pair : P.pair =
    true) (h_safe : P.safe = true) (h_win : P.win = true) (h_all : ∀ b, b ∈ P.blks) (h' : execTick s = .next t') :
    forget P t' = forget P s := by
  unfold execTick at h'
  injection h' with h'; subst h'
  try dsimp only
  (repeat' split) <;> first | with_reducible rfl | simp only [tick_forget, implies_true, Nat.reduceLT, ite_forget,
      ite_self, hrec, hrec.queue.raises, hrec.queue, hrec.recs, h_free, h_clk, h_link, h_ops, h_can, h_tim, h_hb,
      h_bank, h_ax, h_fus, h_sched, h_sol, h_img, h_pwr, h_store, h_pair, h_safe, h_win, h_all, Fin.is_lt]

theorem execInternalSecondBoundary_forget (P : Parts) (s : State) (t' : State) (hev : MayRaise P) (h_clk : P.clk =
    true) (h' : execInternalSecondBoundary s = .next t') : forget P t' = forget P s := by
  unfold execInternalSecondBoundary at h'
  injection h' with h'; subst h'
  try dsimp only
  (repeat' split) <;> first | with_reducible rfl | simp only [internalBoundary_forget, Nat.reduceLT, ite_forget,
      ite_self, hev, hev.rcd, hev.fresh, hev.evt, h_clk, Fin.is_lt]

theorem execPpsEdge_forget (P : Parts) (s : State) (t' : State) (hev : MayRaise P) (h_free : P.free =
    true) (h_clk : P.clk = true) (h_lands : P.lands = true) (r_TIME_FERR : P.Has .TIME_FERR) (r_TIME_PPSERR : P.Has
    .TIME_PPSERR) (r_TIME_PPSREJ : P.Has .TIME_PPSREJ) (h' : execPpsEdge s = .next t') : forget P t' = forget P s := by
  unfold execPpsEdge at h'
  injection h' with h'; subst h'
  try dsimp only
  (repeat' split) <;> first | with_reducible rfl | simp only [ppsEdge_forget, modLands_forget, h_lands, Nat.reduceLT, ite_forget,
      ite_self, hev, hev.rcd, hev.fresh, hev.evt, h_free, h_clk, r_TIME_FERR, r_TIME_PPSERR, r_TIME_PPSREJ, Fin.is_lt]

theorem execPpsTimeout_forget (P : Parts) (s : State) (t' : State) (hev : MayRaise P) (h_clk : P.clk = true) (h' :
    execPpsTimeout s = .next t') : forget P t' = forget P s := by
  unfold execPpsTimeout at h'
  injection h' with h'; subst h'
  try dsimp only
  (repeat' split) <;> first | with_reducible rfl | simp only [ppsLost_forget, Nat.reduceLT, ite_forget, ite_self, hev,
      hev.rcd, hev.fresh, hev.evt, h_clk, Fin.is_lt]

theorem execTimeApply_forget (P : Parts) (s : State) (t' : State) (h_clk : P.clk = true) (h' : execTimeApply s = .next
    t') : forget P t' = forget P s := by
  unfold execTimeApply at h'
  injection h' with h'; subst h'
  unfold State.whenHost
  try dsimp only
  (repeat' split) <;> first | with_reducible rfl | simp only [timeApply_forget, Nat.reduceLT, ite_forget, ite_self,
      h_clk, Fin.is_lt]

theorem execRelock_forget (P : Parts) (s : State) (t' : State) (h_clk : P.clk = true) (h' : execRelock s = .next t') :
    forget P t' = forget P s := by
  unfold execRelock at h'
  injection h' with h'; subst h'
  unfold State.whenHost
  try dsimp only
  (repeat' split) <;> first | with_reducible rfl | simp only [relock_forget, Nat.reduceLT, ite_forget, ite_self,
      h_clk, Fin.is_lt]

theorem execTimeSnapshotRead_forget (P : Parts) (s : State) (t' : State) (h_link : P.link = true) (h' :
    execTimeSnapshotRead s = .next t') : forget P t' = forget P s := by
  unfold execTimeSnapshotRead at h'
  injection h' with h'; subst h'
  unfold State.whenHost
  try dsimp only
  (repeat' split) <;> first | with_reducible rfl | simp only [snapshot_forget, Nat.reduceLT, ite_forget, ite_self,
      h_link, Fin.is_lt]

theorem execTimeTbRead_forget (P : Parts) (s : State) (t' : State) (h_link : P.link = true) (h' : execTimeTbRead s =
    .next t') : forget P t' = forget P s := by
  unfold execTimeTbRead at h'
  injection h' with h'; subst h'
  unfold State.whenHost
  try dsimp only
  (repeat' split) <;> first | with_reducible rfl | simp only [tbLatch_forget, Nat.reduceLT, ite_forget, ite_self,
      h_link, Fin.is_lt]

theorem execMonitorWindowEnd_forget (P : Parts) (ref core : Word) (lost : Bool) (s : State) (t' : State) (hev :
    MayRaise P) (h_clk : P.clk = true) (h_ops : P.ops = true) (h_tim : P.tim = true) (h_hb : P.hb = true) (h_bank :
    P.bank = true) (h_ax : P.ax = true) (h_pair : P.pair = true) (h_safe : P.safe = true) (r_CLK_CORECNT : P.Has
    .CLK_CORECNT) (r_CLK_FAULT : P.Has .CLK_FAULT) (r_CLK_REFCNT : P.Has .CLK_REFCNT) (r_GATE_BSTUVCNT : P.Has
    .GATE_BSTUVCNT) (r_GATE_FLT : P.Has .GATE_FLT) (r_PROT_AXSTAT : P.Has .PROT_AXSTAT) (r_SAFE_CAUSE : P.Has
    .SAFE_CAUSE) (r_SAFE_DETAIL : P.Has .SAFE_DETAIL) (h' : execMonitorWindowEnd ref core lost s = .next t') : forget
    P t' = forget P s := by
  unfold execMonitorWindowEnd at h'
  injection h' with h'; subst h'
  unfold State.whenUp
  try dsimp only
  (repeat' split) <;> first | with_reducible rfl | simp only [monitorWindow_forget, Nat.reduceLT, ite_forget,
      ite_self, hev, hev.rcd, hev.fresh, hev.evt, h_clk, h_ops, h_tim, h_hb, h_bank, h_ax, h_pair, h_safe,
      r_CLK_CORECNT, r_CLK_FAULT, r_CLK_REFCNT, r_GATE_BSTUVCNT, r_GATE_FLT, r_PROT_AXSTAT, r_SAFE_CAUSE,
      r_SAFE_DETAIL, Fin.is_lt]

theorem execPllUnlock_forget (P : Parts) (s : State) (t' : State) (hev : MayRaise P) (h_clk : P.clk = true) (h_ops :
    P.ops = true) (h_tim : P.tim = true) (h_hb : P.hb = true) (h_bank : P.bank = true) (h_ax : P.ax = true) (h_pair :
    P.pair = true) (h_safe : P.safe = true) (r_CLK_FAULT : P.Has .CLK_FAULT) (r_GATE_BSTUVCNT : P.Has .GATE_BSTUVCNT)
    (r_GATE_FLT : P.Has .GATE_FLT) (r_PROT_AXSTAT : P.Has .PROT_AXSTAT) (r_SAFE_CAUSE : P.Has .SAFE_CAUSE)
    (r_SAFE_DETAIL : P.Has .SAFE_DETAIL) (h' : execPllUnlock s = .next t') : forget P t' = forget P s := by
  unfold execPllUnlock at h'
  injection h' with h'; subst h'
  unfold State.whenUp
  try dsimp only
  (repeat' split) <;> first | with_reducible rfl | simp only [clockFlags_forget, modClk_forget, Nat.reduceLT,
      ite_forget, ite_self, hev, hev.rcd, hev.fresh, hev.evt, h_clk, h_ops, h_tim, h_hb, h_bank, h_ax, h_pair, h_safe,
      r_CLK_FAULT, r_GATE_BSTUVCNT, r_GATE_FLT, r_PROT_AXSTAT, r_SAFE_CAUSE, r_SAFE_DETAIL, Fin.is_lt]

theorem execTickRestore_forget (P : Parts) (s : State) (t' : State) (h_clk : P.clk = true) (h' : execTickRestore s =
    .next t') : forget P t' = forget P s := by
  unfold execTickRestore at h'
  injection h' with h'; subst h'
  unfold State.whenHost
  try dsimp only
  (repeat' split) <;> first | with_reducible rfl | simp only [tickRestore_forget, Nat.reduceLT, ite_forget, ite_self,
      h_clk, Fin.is_lt]

theorem execImageLoad_forget (P : Parts) (s : State) (t' : State) (hrec : MayRecord P) (h_free : P.free = true) (h_clk
    : P.clk = true) (h_link : P.link = true) (h_ops : P.ops = true) (h_can : P.can = true) (h_tim : P.tim = true)
    (h_hb : P.hb = true) (h_bank : P.bank = true) (h_ax : P.ax = true) (h_fus : P.fus = true) (h_sched : P.sched =
    true) (h_sol : P.sol = true) (h_img : P.img = true) (h_pwr : P.pwr = true) (h_store : P.store = true) (h_pair :
    P.pair = true) (h_safe : P.safe = true) (h_win : P.win = true) (h_all : ∀ b, b ∈ P.blks) (h' : execImageLoad s =
    .next t') : forget P t' = forget P s := by
  unfold execImageLoad at h'
  injection h' with h'; subst h'
  try dsimp only
  (repeat' split) <;> first | with_reducible rfl | simp only [ring_forget, implies_true, Nat.reduceLT, ite_forget,
      ite_self, hrec, hrec.queue.raises, hrec.queue, hrec.recs, h_free, h_clk, h_link, h_ops, h_can, h_tim, h_hb,
      h_bank, h_ax, h_fus, h_sched, h_sol, h_img, h_pwr, h_store, h_pair, h_safe, h_win, h_all, Fin.is_lt]

theorem execOpUnknownCode_forget (P : Parts) (op : Byte) (s : State) (t' : State) (hev : MayRaise P) (h_ops : P.ops =
    true) (h_bank : P.bank = true) (h_ax : P.ax = true) (h_img : P.img = true) (h_store : P.store = true)
    (r_IMG_REJECT : P.Has .IMG_REJECT) (r_OP_QFULLCNT : P.Has .OP_QFULLCNT) (r_OP_TICKET : P.Has .OP_TICKET) (h' :
    execOpUnknownCode op s = .next t') : forget P t' = forget P s := by
  unfold execOpUnknownCode at h'
  injection h' with h'; subst h'
  unfold State.whenHost
  try dsimp only
  (repeat' split) <;> first | with_reducible rfl | simp only [doorbell_forget, Nat.reduceLT, ite_forget, ite_self,
      hev, hev.rcd, hev.fresh, hev.evt, h_ops, h_bank, h_ax, h_img, h_store, r_IMG_REJECT, r_OP_QFULLCNT, r_OP_TICKET,
      Fin.is_lt]

theorem execImageVerifyDone_forget (P : Parts) (s : State) (t' : State) (hev : MayRaise P) (h_ops : P.ops = true)
    (h_img : P.img = true) (r_IMG_REJECT : P.Has .IMG_REJECT) (h' : execImageVerifyDone s = .next t') : forget P t' =
    forget P s := by
  unfold execImageVerifyDone at h'
  injection h' with h'; subst h'
  unfold State.whenUp
  try dsimp only
  (repeat' split) <;> first | with_reducible rfl | simp only [imageVerifyDone_forget, Nat.reduceLT, ite_forget,
      ite_self, hev, hev.rcd, hev.fresh, hev.evt, h_ops, h_img, r_IMG_REJECT, Fin.is_lt]

theorem execWholeImageSwap_forget (P : Parts) (s : State) (t' : State) (hrec : MayRecord P) (h_free : P.free = true)
    (h_clk : P.clk = true) (h_ops : P.ops = true) (h_can : P.can = true) (h_tim : P.tim = true) (h_hb : P.hb = true)
    (h_bank : P.bank = true) (h_ax : P.ax = true) (h_fus : P.fus = true) (h_sched : P.sched = true) (h_sol : P.sol =
    true) (h_img : P.img = true) (h_pwr : P.pwr = true) (h_pair : P.pair = true) (h_all : ∀ b, b ∈ P.blks) (h' :
    execWholeImageSwap s = .next t') : forget P t' = forget P s := by
  unfold execWholeImageSwap at h'
  injection h' with h'; subst h'
  unfold State.whenUp
  try dsimp only
  (repeat' split) <;> first | with_reducible rfl | simp only [wholeImageSwap_forget, implies_true, Nat.reduceLT,
      ite_forget, ite_self, hrec, hrec.queue.raises, hrec.queue, hrec.recs, h_free, h_clk, h_ops, h_can, h_tim, h_hb,
      h_bank, h_ax, h_fus, h_sched, h_sol, h_img, h_pwr, h_pair, h_all, Fin.is_lt]

theorem execBankImageSwap_forget (P : Parts) (s : State) (t' : State) (hev : MayRaise P) (h_ops : P.ops = true) (h_tim
    : P.tim = true) (h_hb : P.hb = true) (h_bank : P.bank = true) (h_ax : P.ax = true) (h_img : P.img = true) (h_all :
    ∀ b, b ∈ P.blks) (h' : execBankImageSwap s = .next t') : forget P t' = forget P s := by
  unfold execBankImageSwap at h'
  injection h' with h'; subst h'
  unfold State.whenUp
  try dsimp only
  (repeat' split) <;> first | with_reducible rfl | simp only [bankImageSwap_forget, implies_true, Nat.reduceLT,
      ite_forget, ite_self, hev, hev.rcd, hev.fresh, hev.evt, h_ops, h_tim, h_hb, h_bank, h_ax, h_img, h_all,
      Fin.is_lt]

theorem execSlotWriteBurst_forget (P : Parts) (ok : Bool) (s : State) (t' : State) (hev : MayRaise P) (h_free : P.free
    = true) (h_ops : P.ops = true) (h_img : P.img = true) (h_store : P.store = true) (h_mem : P.mem = true)
    (r_IMG_REJECT : P.Has .IMG_REJECT) (h' : execSlotWriteBurst ok s = .next t') : forget P t' = forget P s := by
  unfold execSlotWriteBurst at h'
  injection h' with h'; subst h'
  unfold State.whenUp
  try dsimp only
  (repeat' split) <;> first | with_reducible rfl | simp only [slotWriteBurst_forget, Nat.reduceLT, ite_forget,
      ite_self, hev, hev.rcd, hev.fresh, hev.evt, h_free, h_ops, h_img, h_store, h_mem, r_IMG_REJECT, Fin.is_lt]

theorem execImgKeydataWrite_forget (P : Parts) (d : Word) (s : State) (t' : State) (h_img : P.img = true) (h' :
    execImgKeydataWrite d s = .next t') : forget P t' = forget P s := by
  unfold execImgKeydataWrite at h'
  injection h' with h'; subst h'
  unfold State.whenHost
  try dsimp only
  (repeat' split) <;> first | with_reducible rfl | simp only [imgKeydataWrite_forget, Nat.reduceLT, ite_forget,
      ite_self, h_img, Fin.is_lt]

theorem execKeyCmdArm_forget (P : Parts) (s : State) (t' : State) (h_fresh : P.fresh = true) (h_img : P.img = true)
    (r_IMG_KEYSTAT : P.Has .IMG_KEYSTAT) (h' : execKeyCmdArm s = .next t') : forget P t' = forget P s := by
  unfold execKeyCmdArm at h'
  injection h' with h'; subst h'
  unfold State.whenHost
  try dsimp only
  (repeat' split) <;> first | with_reducible rfl | simp only [keyCmd_forget, Nat.reduceLT, ite_forget, ite_self,
      h_fresh, h_img, r_IMG_KEYSTAT, Fin.is_lt]

theorem execKeyCmdProgram_forget (P : Parts) (s : State) (t' : State) (h_fresh : P.fresh = true) (h_img : P.img =
    true) (r_IMG_KEYSTAT : P.Has .IMG_KEYSTAT) (h' : execKeyCmdProgram s = .next t') : forget P t' = forget P s := by
  unfold execKeyCmdProgram at h'
  injection h' with h'; subst h'
  unfold State.whenHost
  try dsimp only
  (repeat' split) <;> first | with_reducible rfl | simp only [keyCmd_forget, Nat.reduceLT, ite_forget, ite_self,
      h_fresh, h_img, r_IMG_KEYSTAT, Fin.is_lt]

theorem execKeyProgramDone_forget (P : Parts) (ok : Bool) (s : State) (t' : State) (h_free : P.free = true) (h_img :
    P.img = true) (r_IMG_KEYCHK : P.Has .IMG_KEYCHK) (r_IMG_KEYSTAT : P.Has .IMG_KEYSTAT) (h' : execKeyProgramDone ok
    s = .next t') : forget P t' = forget P s := by
  unfold execKeyProgramDone at h'
  injection h' with h'; subst h'
  try dsimp only
  (repeat' split) <;> first | with_reducible rfl | simp only [keyProgramDone_forget, Nat.reduceLT, ite_forget,
      ite_self, h_free, h_img, r_IMG_KEYCHK, r_IMG_KEYSTAT, Fin.is_lt]

theorem execShuntCal_forget (P : Parts) (s : State) (t' : State) (hrec : MayRecord P) (h_free : P.free = true) (h_clk
    : P.clk = true) (h_link : P.link = true) (h_ops : P.ops = true) (h_can : P.can = true) (h_tim : P.tim = true)
    (h_hb : P.hb = true) (h_bank : P.bank = true) (h_ax : P.ax = true) (h_fus : P.fus = true) (h_sched : P.sched =
    true) (h_sol : P.sol = true) (h_img : P.img = true) (h_pwr : P.pwr = true) (h_store : P.store = true) (h_pair :
    P.pair = true) (h_safe : P.safe = true) (h_win : P.win = true) (h_all : ∀ b, b ∈ P.blks) (h' : execShuntCal s =
    .next t') : forget P t' = forget P s := by
  unfold execShuntCal at h'
  injection h' with h'; subst h'
  try dsimp only
  (repeat' split) <;> first | with_reducible rfl | simp only [ring_forget, implies_true, Nat.reduceLT, ite_forget,
      ite_self, hrec, hrec.queue.raises, hrec.queue, hrec.recs, h_free, h_clk, h_link, h_ops, h_can, h_tim, h_hb,
      h_bank, h_ax, h_fus, h_sched, h_sol, h_img, h_pwr, h_store, h_pair, h_safe, h_win, h_all, Fin.is_lt]

theorem execDlineCal_forget (P : Parts) (s : State) (t' : State) (hrec : MayRecord P) (h_free : P.free = true) (h_clk
    : P.clk = true) (h_link : P.link = true) (h_ops : P.ops = true) (h_can : P.can = true) (h_tim : P.tim = true)
    (h_hb : P.hb = true) (h_bank : P.bank = true) (h_ax : P.ax = true) (h_fus : P.fus = true) (h_sched : P.sched =
    true) (h_sol : P.sol = true) (h_img : P.img = true) (h_pwr : P.pwr = true) (h_store : P.store = true) (h_pair :
    P.pair = true) (h_safe : P.safe = true) (h_win : P.win = true) (h_all : ∀ b, b ∈ P.blks) (h' : execDlineCal s =
    .next t') : forget P t' = forget P s := by
  unfold execDlineCal at h'
  injection h' with h'; subst h'
  try dsimp only
  (repeat' split) <;> first | with_reducible rfl | simp only [ring_forget, implies_true, Nat.reduceLT, ite_forget,
      ite_self, hrec, hrec.queue.raises, hrec.queue, hrec.recs, h_free, h_clk, h_link, h_ops, h_can, h_tim, h_hb,
      h_bank, h_ax, h_fus, h_sched, h_sol, h_img, h_pwr, h_store, h_pair, h_safe, h_win, h_all, Fin.is_lt]

theorem execSelfTest_forget (P : Parts) (s : State) (t' : State) (hrec : MayRecord P) (h_free : P.free = true) (h_clk
    : P.clk = true) (h_link : P.link = true) (h_ops : P.ops = true) (h_can : P.can = true) (h_tim : P.tim = true)
    (h_hb : P.hb = true) (h_bank : P.bank = true) (h_ax : P.ax = true) (h_fus : P.fus = true) (h_sched : P.sched =
    true) (h_sol : P.sol = true) (h_img : P.img = true) (h_pwr : P.pwr = true) (h_store : P.store = true) (h_pair :
    P.pair = true) (h_safe : P.safe = true) (h_win : P.win = true) (h_all : ∀ b, b ∈ P.blks) (h' : execSelfTest s =
    .next t') : forget P t' = forget P s := by
  unfold execSelfTest at h'
  injection h' with h'; subst h'
  try dsimp only
  (repeat' split) <;> first | with_reducible rfl | simp only [ring_forget, implies_true, Nat.reduceLT, ite_forget,
      ite_self, hrec, hrec.queue.raises, hrec.queue, hrec.recs, h_free, h_clk, h_link, h_ops, h_can, h_tim, h_hb,
      h_bank, h_ax, h_fus, h_sched, h_sol, h_img, h_pwr, h_store, h_pair, h_safe, h_win, h_all, Fin.is_lt]

theorem execMotorId_forget (P : Parts) (s : State) (t' : State) (hrec : MayRecord P) (h_free : P.free = true) (h_clk :
    P.clk = true) (h_link : P.link = true) (h_ops : P.ops = true) (h_can : P.can = true) (h_tim : P.tim = true) (h_hb
    : P.hb = true) (h_bank : P.bank = true) (h_ax : P.ax = true) (h_fus : P.fus = true) (h_sched : P.sched = true)
    (h_sol : P.sol = true) (h_img : P.img = true) (h_pwr : P.pwr = true) (h_store : P.store = true) (h_pair : P.pair =
    true) (h_safe : P.safe = true) (h_win : P.win = true) (h_all : ∀ b, b ∈ P.blks) (h' : execMotorId s = .next t') :
    forget P t' = forget P s := by
  unfold execMotorId at h'
  injection h' with h'; subst h'
  try dsimp only
  (repeat' split) <;> first | with_reducible rfl | simp only [ring_forget, implies_true, Nat.reduceLT, ite_forget,
      ite_self, hrec, hrec.queue.raises, hrec.queue, hrec.recs, h_free, h_clk, h_link, h_ops, h_can, h_tim, h_hb,
      h_bank, h_ax, h_fus, h_sched, h_sol, h_img, h_pwr, h_store, h_pair, h_safe, h_win, h_all, Fin.is_lt]

theorem execCompact_forget (P : Parts) (s : State) (t' : State) (hrec : MayRecord P) (h_free : P.free = true) (h_clk :
    P.clk = true) (h_link : P.link = true) (h_ops : P.ops = true) (h_can : P.can = true) (h_tim : P.tim = true) (h_hb
    : P.hb = true) (h_bank : P.bank = true) (h_ax : P.ax = true) (h_fus : P.fus = true) (h_sched : P.sched = true)
    (h_sol : P.sol = true) (h_img : P.img = true) (h_pwr : P.pwr = true) (h_store : P.store = true) (h_pair : P.pair =
    true) (h_safe : P.safe = true) (h_win : P.win = true) (h_all : ∀ b, b ∈ P.blks) (h' : execCompact s = .next t') :
    forget P t' = forget P s := by
  unfold execCompact at h'
  injection h' with h'; subst h'
  try dsimp only
  (repeat' split) <;> first | with_reducible rfl | simp only [ring_forget, implies_true, Nat.reduceLT, ite_forget,
      ite_self, hrec, hrec.queue.raises, hrec.queue, hrec.recs, h_free, h_clk, h_link, h_ops, h_can, h_tim, h_hb,
      h_bank, h_ax, h_fus, h_sched, h_sol, h_img, h_pwr, h_store, h_pair, h_safe, h_win, h_all, Fin.is_lt]

theorem execOpStart_forget (P : Parts) (slot : Fin 8) (s : State) (t' : State) (hev : MayRaise P) (h_ops : P.ops =
    true) (h_bank : P.bank = true) (h_ax : P.ax = true) (h_img : P.img = true) (h_store : P.store = true)
    (r_IMG_REJECT : P.Has .IMG_REJECT) (h' : execOpStart slot s = .next t') : forget P t' = forget P s := by
  unfold execOpStart at h'
  injection h' with h'; subst h'
  unfold State.whenUp
  try dsimp only
  (repeat' split) <;> first | with_reducible rfl | simp only [opStart_forget, Nat.reduceLT, ite_forget, ite_self, hev,
      hev.rcd, hev.fresh, hev.evt, h_ops, h_bank, h_ax, h_img, h_store, r_IMG_REJECT, Fin.is_lt]

theorem execOpPartial_forget (P : Parts) (slot entry : Fin 8) (value : BitVec 32) (progress : Byte) (s : State) (t' :
    State) (hev : MayRaise P) (h_free : P.free = true) (h_ops : P.ops = true) (h_hb : P.hb = true) (h_ax : P.ax =
    true) (h_img : P.img = true) (h' : execOpPartial slot entry value progress s = .next t') : forget P t' = forget P
    s := by
  unfold execOpPartial at h'
  injection h' with h'; subst h'
  unfold State.whenUp
  try dsimp only
  (repeat' split) <;> first | with_reducible rfl | simp only [opPartial_forget, Nat.reduceLT, ite_forget, ite_self,
      hev, hev.rcd, hev.fresh, hev.evt, h_free, h_ops, h_hb, h_ax, h_img, Fin.is_lt]

theorem execOpEnd_forget (P : Parts) (slot : Fin 8) (model : Bool) (vals : List (BitVec 32)) (s : State) (t' : State)
    (hev : MayRaise P) (h_free : P.free = true) (h_ops : P.ops = true) (h_hb : P.hb = true) (h_ax : P.ax = true)
    (h_img : P.img = true) (h_safe : P.safe = true) (h' : execOpEnd slot model vals s = .next t') : forget P t' =
    forget P s := by
  unfold execOpEnd at h'
  injection h' with h'; subst h'
  unfold State.whenUp
  try dsimp only
  (repeat' split) <;> first | with_reducible rfl | simp only [opEnd_forget, Nat.reduceLT, ite_forget, ite_self, hev,
      hev.rcd, hev.fresh, hev.evt, h_free, h_ops, h_hb, h_ax, h_img, h_safe, Fin.is_lt]

theorem execOpTimeout_forget (P : Parts) (slot : Fin 8) (s : State) (t' : State) (hev : MayRaise P) (h_free : P.free =
    true) (h_ops : P.ops = true) (h_hb : P.hb = true) (h_ax : P.ax = true) (h_img : P.img = true) (h' : execOpTimeout
    slot s = .next t') : forget P t' = forget P s := by
  unfold execOpTimeout at h'
  injection h' with h'; subst h'
  unfold State.whenUp
  try dsimp only
  (repeat' split) <;> first | with_reducible rfl | simp only [dropOp_forget, Nat.reduceLT, ite_forget, ite_self, hev,
      hev.rcd, hev.fresh, hev.evt, h_free, h_ops, h_hb, h_ax, h_img, Fin.is_lt]

theorem execOpRelease_forget (P : Parts) (d : Word) (s : State) (t' : State) (hrec : MayRecord P) (h_free : P.free =
    true) (h_clk : P.clk = true) (h_link : P.link = true) (h_ops : P.ops = true) (h_can : P.can = true) (h_tim : P.tim
    = true) (h_hb : P.hb = true) (h_bank : P.bank = true) (h_ax : P.ax = true) (h_fus : P.fus = true) (h_sched :
    P.sched = true) (h_sol : P.sol = true) (h_img : P.img = true) (h_pwr : P.pwr = true) (h_store : P.store = true)
    (h_pair : P.pair = true) (h_safe : P.safe = true) (h_win : P.win = true) (h_all : ∀ b, b ∈ P.blks) (h' :
    execOpRelease d s = .next t') : forget P t' = forget P s := by
  unfold execOpRelease at h'
  injection h' with h'; subst h'
  try dsimp only
  (repeat' split) <;> first | with_reducible rfl | simp only [hostWord_forget, implies_true, Nat.reduceLT, ite_forget,
      ite_self, hrec, hrec.queue.raises, hrec.queue, hrec.recs, h_free, h_clk, h_link, h_ops, h_can, h_tim, h_hb,
      h_bank, h_ax, h_fus, h_sched, h_sol, h_img, h_pwr, h_store, h_pair, h_safe, h_win, h_all, Fin.is_lt]

theorem execOpAbort_forget (P : Parts) (d : Word) (s : State) (t' : State) (hrec : MayRecord P) (h_free : P.free =
    true) (h_clk : P.clk = true) (h_link : P.link = true) (h_ops : P.ops = true) (h_can : P.can = true) (h_tim : P.tim
    = true) (h_hb : P.hb = true) (h_bank : P.bank = true) (h_ax : P.ax = true) (h_fus : P.fus = true) (h_sched :
    P.sched = true) (h_sol : P.sol = true) (h_img : P.img = true) (h_pwr : P.pwr = true) (h_store : P.store = true)
    (h_pair : P.pair = true) (h_safe : P.safe = true) (h_win : P.win = true) (h_all : ∀ b, b ∈ P.blks) (h' :
    execOpAbort d s = .next t') : forget P t' = forget P s := by
  unfold execOpAbort at h'
  injection h' with h'; subst h'
  try dsimp only
  (repeat' split) <;> first | with_reducible rfl | simp only [hostWord_forget, implies_true, Nat.reduceLT, ite_forget,
      ite_self, hrec, hrec.queue.raises, hrec.queue, hrec.recs, h_free, h_clk, h_link, h_ops, h_can, h_tim, h_hb,
      h_bank, h_ax, h_fus, h_sched, h_sol, h_img, h_pwr, h_store, h_pair, h_safe, h_win, h_all, Fin.is_lt]

theorem execCanRx_forget (P : Parts) (c : Fin 2) (ide fdf brs : Bool) (id : BitVec 29) (dlc : Fin 16) (data : List
    Byte) (sof : Nat) (s : State) (t' : State) (hev : MayRaise P) (r_BUF_CFG : P.Has .BUF_CFG) (r_BUF_DATA : P.Has
    .BUF_DATA) (r_BUF_ID_HI : P.Has .BUF_ID_HI) (r_BUF_ID_LO : P.Has .BUF_ID_LO) (r_BUF_STAMP0 : P.Has .BUF_STAMP0)
    (r_BUF_STAMP1 : P.Has .BUF_STAMP1) (r_BUF_STAMP2 : P.Has .BUF_STAMP2) (r_BUF_STAT : P.Has .BUF_STAT) (r_CAN_RXLOST
    : P.Has .CAN_RXLOST) (h' : execCanRx c ide fdf brs id dlc data sof s = .next t') : forget P t' = forget P s := by
  unfold execCanRx at h'
  injection h' with h'; subst h'
  try dsimp only
  (repeat' split) <;> first | with_reducible rfl | simp only [canReceive_forget, Nat.reduceLT, ite_forget, ite_self,
      hev, hev.rcd, hev.fresh, hev.evt, r_BUF_CFG, r_BUF_DATA, r_BUF_ID_HI, r_BUF_ID_LO, r_BUF_STAMP0, r_BUF_STAMP1,
      r_BUF_STAMP2, r_BUF_STAT, r_CAN_RXLOST, Fin.is_lt]

theorem execCanTxreq_forget (P : Parts) (c : Fin 2) (hi : Bool) (d : Word) (s : State) (t' : State) (h_can : P.can =
    true) (h' : execCanTxreq c hi d s = .next t') : forget P t' = forget P s := by
  unfold execCanTxreq at h'
  injection h' with h'; subst h'
  unfold State.whenHost
  try dsimp only
  (repeat' split) <;> first | with_reducible rfl | simp only [canTxreq_forget, Nat.reduceLT, ite_forget, ite_self,
      h_can, Fin.is_lt]

theorem execCanTxDone_forget (P : Parts) (c : Fin 2) (m : Fin 32) (sof : Nat) (s : State) (t' : State) (hev : MayRaise
    P) (h_can : P.can = true) (r_BUF_CFG : P.Has .BUF_CFG) (r_BUF_DATA : P.Has .BUF_DATA) (r_BUF_ID_HI : P.Has
    .BUF_ID_HI) (r_BUF_ID_LO : P.Has .BUF_ID_LO) (r_BUF_STAMP0 : P.Has .BUF_STAMP0) (r_BUF_STAMP1 : P.Has .BUF_STAMP1)
    (r_BUF_STAMP2 : P.Has .BUF_STAMP2) (r_BUF_STAT : P.Has .BUF_STAT) (r_CAN_RXLOST : P.Has .CAN_RXLOST) (h' :
    execCanTxDone c m sof s = .next t') : forget P t' = forget P s := by
  unfold execCanTxDone at h'
  injection h' with h'; subst h'
  try dsimp only
  (repeat' split) <;> first | with_reducible rfl | simp only [canTxDone_forget, Nat.reduceLT, ite_forget, ite_self,
      hev, hev.rcd, hev.fresh, hev.evt, h_can, r_BUF_CFG, r_BUF_DATA, r_BUF_ID_HI, r_BUF_ID_LO, r_BUF_STAMP0,
      r_BUF_STAMP1, r_BUF_STAMP2, r_BUF_STAT, r_CAN_RXLOST, Fin.is_lt]

theorem execCanTxFail_forget (P : Parts) (c : Fin 2) (m : Fin 32) (lost : Bool) (lec : Fin 8) (s : State) (t' : State)
    (h_can : P.can = true) (r_BUF_STAT : P.Has .BUF_STAT) (r_CAN_LEC : P.Has .CAN_LEC) (h' : execCanTxFail c m lost
    lec s = .next t') : forget P t' = forget P s := by
  unfold execCanTxFail at h'
  injection h' with h'; subst h'
  try dsimp only
  (repeat' split) <;> first | with_reducible rfl | simp only [canTxFail_forget, Nat.reduceLT, ite_forget, ite_self,
      h_can, r_BUF_STAT, r_CAN_LEC, Fin.is_lt]

theorem execCanTxabort_forget (P : Parts) (c : Fin 2) (hi : Bool) (d : Word) (s : State) (t' : State) (h_can : P.can =
    true) (h' : execCanTxabort c hi d s = .next t') : forget P t' = forget P s := by
  unfold execCanTxabort at h'
  injection h' with h'; subst h'
  unfold State.whenHost
  try dsimp only
  (repeat' split) <;> first | with_reducible rfl | simp only [canTxabort_forget, Nat.reduceLT, ite_forget, ite_self,
      h_can, Fin.is_lt]

theorem execCanErrorStateChange_forget (P : Parts) (c : Fin 2) (st : Fin 3) (sync : Bool) (rec tec : Byte) (lec : Fin
    8) (s : State) (t' : State) (hev : MayRaise P) (h_can : P.can = true) (r_CAN_LEC : P.Has .CAN_LEC) (h' :
    execCanErrorStateChange c st sync rec tec lec s = .next t') : forget P t' = forget P s := by
  unfold execCanErrorStateChange at h'
  injection h' with h'; subst h'
  try dsimp only
  (repeat' split) <;> first | with_reducible rfl | simp only [canState_forget, Nat.reduceLT, ite_forget, ite_self,
      hev, hev.rcd, hev.fresh, hev.evt, h_can, r_CAN_LEC, Fin.is_lt]

theorem execCanBusoffRecovery_forget (P : Parts) (c : Fin 2) (s : State) (t' : State) (hev : MayRaise P) (h_can :
    P.can = true) (r_CAN_LEC : P.Has .CAN_LEC) (h' : execCanBusoffRecovery c s = .next t') : forget P t' = forget P s
    := by
  unfold execCanBusoffRecovery at h'
  injection h' with h'; subst h'
  try dsimp only
  (repeat' split) <;> first | with_reducible rfl | simp only [canState_forget, Nat.reduceLT, ite_forget, ite_self,
      hev, hev.rcd, hev.fresh, hev.evt, h_can, r_CAN_LEC, Fin.is_lt]

theorem execLoadAll_forget (P : Parts) (at' : Fin 200) (hi : Bool) (d : Word) (s : State) (t' : State) (hrec :
    MayRecord P) (h_free : P.free = true) (h_clk : P.clk = true) (h_link : P.link = true) (h_ops : P.ops = true)
    (h_can : P.can = true) (h_tim : P.tim = true) (h_hb : P.hb = true) (h_bank : P.bank = true) (h_ax : P.ax = true)
    (h_fus : P.fus = true) (h_sched : P.sched = true) (h_sol : P.sol = true) (h_img : P.img = true) (h_pwr : P.pwr =
    true) (h_store : P.store = true) (h_pair : P.pair = true) (h_safe : P.safe = true) (h_win : P.win = true) (h_all :
    ∀ b, b ∈ P.blks) (h' : execLoadAll at' hi d s = .next t') : forget P t' = forget P s := by
  unfold execLoadAll at h'
  injection h' with h'; subst h'
  try dsimp only
  (repeat' split) <;> first | with_reducible rfl | simp only [hostWordAt_forget, implies_true, Nat.reduceLT,
      ite_forget, ite_self, hrec, hrec.queue.raises, hrec.queue, hrec.recs, h_free, h_clk, h_link, h_ops, h_can,
      h_tim, h_hb, h_bank, h_ax, h_fus, h_sched, h_sol, h_img, h_pwr, h_store, h_pair, h_safe, h_win, h_all,
      Fin.is_lt]

theorem execTimerStart_forget (P : Parts) (at' : Fin 200) (t : Fin 24) (s : State) (t' : State) (hrec : MayRecord P)
    (h_free : P.free = true) (h_clk : P.clk = true) (h_link : P.link = true) (h_ops : P.ops = true) (h_can : P.can =
    true) (h_tim : P.tim = true) (h_hb : P.hb = true) (h_bank : P.bank = true) (h_ax : P.ax = true) (h_fus : P.fus =
    true) (h_sched : P.sched = true) (h_sol : P.sol = true) (h_img : P.img = true) (h_pwr : P.pwr = true) (h_store :
    P.store = true) (h_pair : P.pair = true) (h_safe : P.safe = true) (h_win : P.win = true) (h_all : ∀ b, b ∈ P.blks)
    (h' : execTimerStart at' t s = .next t') : forget P t' = forget P s := by
  unfold execTimerStart at h'
  injection h' with h'; subst h'
  try dsimp only
  (repeat' split) <;> first | with_reducible rfl | simp only [hostWordAt_forget, implies_true, Nat.reduceLT,
      ite_forget, ite_self, hrec, hrec.queue.raises, hrec.queue, hrec.recs, h_free, h_clk, h_link, h_ops, h_can,
      h_tim, h_hb, h_bank, h_ax, h_fus, h_sched, h_sol, h_img, h_pwr, h_store, h_pair, h_safe, h_win, h_all,
      Fin.is_lt]

theorem execTimerStop_forget (P : Parts) (at' : Fin 200) (t : Fin 24) (s : State) (t' : State) (hrec : MayRecord P)
    (h_free : P.free = true) (h_clk : P.clk = true) (h_link : P.link = true) (h_ops : P.ops = true) (h_can : P.can =
    true) (h_tim : P.tim = true) (h_hb : P.hb = true) (h_bank : P.bank = true) (h_ax : P.ax = true) (h_fus : P.fus =
    true) (h_sched : P.sched = true) (h_sol : P.sol = true) (h_img : P.img = true) (h_pwr : P.pwr = true) (h_store :
    P.store = true) (h_pair : P.pair = true) (h_safe : P.safe = true) (h_win : P.win = true) (h_all : ∀ b, b ∈ P.blks)
    (h' : execTimerStop at' t s = .next t') : forget P t' = forget P s := by
  unfold execTimerStop at h'
  injection h' with h'; subst h'
  try dsimp only
  (repeat' split) <;> first | with_reducible rfl | simp only [hostWordAt_forget, implies_true, Nat.reduceLT,
      ite_forget, ite_self, hrec, hrec.queue.raises, hrec.queue, hrec.recs, h_free, h_clk, h_link, h_ops, h_can,
      h_tim, h_hb, h_bank, h_ax, h_fus, h_sched, h_sol, h_img, h_pwr, h_store, h_pair, h_safe, h_win, h_all,
      Fin.is_lt]

theorem execStartEdge_forget (P : Parts) (t : Fin 24) (s : State) (t' : State) (h_free : P.free = true) (h_tim : P.tim
    = true) (h_hb : P.hb = true) (h_bank : P.bank = true) (h_ax : P.ax = true) (h_lands : P.lands = true)
    (r_PWM_FILTCNT : P.Has .PWM_FILTCNT) (h' : execStartEdge t s = .next t') : forget P t' = forget P s := by
  unfold execStartEdge at h'
  injection h' with h'; subst h'
  try dsimp only
  (repeat' split) <;> first | with_reducible rfl | simp only [startEdge_forget, Nat.reduceLT, ite_forget, ite_self,
      h_free, h_tim, h_hb, h_bank, h_ax, h_lands, r_PWM_FILTCNT, Fin.is_lt]

theorem execTimerWrap_forget (P : Parts) (t : Fin 24) (s : State) (t' : State) (h_free : P.free = true) (h_tim : P.tim
    = true) (h_hb : P.hb = true) (h_bank : P.bank = true) (h_ax : P.ax = true) (h_lands : P.lands = true)
    (r_PWM_FILTCNT : P.Has .PWM_FILTCNT) (h' : execTimerWrap t s = .next t') : forget P t' = forget P s := by
  unfold execTimerWrap at h'
  injection h' with h'; subst h'
  try dsimp only
  (repeat' split) <;> first | with_reducible rfl | simp only [wrap_forget, Nat.reduceLT, ite_forget, ite_self, h_free,
      h_tim, h_hb, h_bank, h_ax, h_lands, r_PWM_FILTCNT, Fin.is_lt]

theorem execCompareMatch_forget (P : Parts) (t : Fin 24) (r : Fin 3) (s : State) (t' : State) (h_tim : P.tim = true)
    (h' : execCompareMatch t r s = .next t') : forget P t' = forget P s := by
  unfold execCompareMatch at h'
  injection h' with h'; subst h'
  try dsimp only
  (repeat' split) <;> first | with_reducible rfl | simp only [modTim_forget, Nat.reduceLT, ite_forget, ite_self,
      h_tim, Fin.is_lt]

theorem execTriggerCompare_forget (P : Parts) (t : Fin 24) (n : Fin 4) (s : State) (t' : State) (h_tim : P.tim = true)
    (h_bank : P.bank = true) (h_ax : P.ax = true) (h_lands : P.lands = true) (h' : execTriggerCompare t n s = .next
    t') : forget P t' = forget P s := by
  unfold execTriggerCompare at h'
  injection h' with h'; subst h'
  try dsimp only
  (repeat' split) <;> first | with_reducible rfl | simp only [modTim_forget, trig_forget, Nat.reduceLT, ite_forget,
      ite_self, h_tim, h_bank, h_ax, h_lands, Fin.is_lt]

theorem execRefreshPulseEnd_forget (P : Parts) (t : Fin 24) (r : Fin 3) (s : State) (t' : State) (h_tim : P.tim =
    true) (h' : execRefreshPulseEnd t r s = .next t') : forget P t' = forget P s := by
  unfold execRefreshPulseEnd at h'
  injection h' with h'; subst h'
  try dsimp only
  (repeat' split) <;> first | with_reducible rfl | simp only [modTim_forget, Nat.reduceLT, ite_forget, ite_self,
      h_tim, Fin.is_lt]

theorem execDlcCalCycle_forget (P : Parts) (b : Fin 8) (ok : Bool) (bias : Byte) (tapdly : Word) (taps : List (BitVec
    6)) (s : State) (t' : State) (hev : MayRaise P) (h_free : P.free = true) (h_bank : P.bank = true) (r_DLC_BIAS :
    P.Has .DLC_BIAS) (r_DLC_FAILCNT : P.Has .DLC_FAILCNT) (r_DLC_STAT : P.Has .DLC_STAT) (r_DLC_TAPDLY : P.Has
    .DLC_TAPDLY) (r_DLC_TBL : P.Has .DLC_TBL) (h' : execDlcCalCycle b ok bias tapdly taps s = .next t') : forget P t'
    = forget P s := by
  unfold execDlcCalCycle at h'
  injection h' with h'; subst h'
  try dsimp only
  (repeat' split) <;> first | with_reducible rfl | simp only [dlcCycle_forget, Nat.reduceLT, ite_forget, ite_self,
      hev, hev.rcd, hev.fresh, hev.evt, h_free, h_bank, r_DLC_BIAS, r_DLC_FAILCNT, r_DLC_STAT, r_DLC_TAPDLY,
      r_DLC_TBL, Fin.is_lt]

theorem execCommandChange_forget (P : Parts) (at' : Fin 200) (h : Fin 72) (s : State) (t' : State) (hev : MayRaise P)
    (h_tim : P.tim = true) (h_hb : P.hb = true) (h_bank : P.bank = true) (r_GATE_BSTUVCNT : P.Has .GATE_BSTUVCNT)
    (r_GATE_FLT : P.Has .GATE_FLT) (h' : execCommandChange at' h s = .next t') : forget P t' = forget P s := by
  unfold execCommandChange at h'
  injection h' with h'; subst h'
  try dsimp only
  (repeat' split) <;> first | with_reducible rfl | simp only [redrive_forget, Nat.reduceLT, ite_forget, ite_self, hev,
      hev.rcd, hev.fresh, hev.evt, h_tim, h_hb, h_bank, r_GATE_BSTUVCNT, r_GATE_FLT, Fin.is_lt]

theorem execTurnOnStart_forget (P : Parts) (at' : Fin 200) (h : Fin 72) (hi : Bool) (s : State) (t' : State) (h_hb :
    P.hb = true) (h_bank : P.bank = true) (h' : execTurnOnStart at' h hi s = .next t') : forget P t' = forget P s :=
    by
  unfold execTurnOnStart at h'
  injection h' with h'; subst h'
  try dsimp only
  (repeat' split) <;> first | with_reducible rfl | simp only [turnOn_forget, Nat.reduceLT, ite_forget, ite_self, h_hb,
      h_bank, Fin.is_lt]

theorem execGateOffSensed_forget (P : Parts) (at' : Fin 200) (h : Fin 72) (hi : Bool) (s : State) (t' : State) (h_hb :
    P.hb = true) (h_pair : P.pair = true) (h' : execGateOffSensed at' h hi s = .next t') : forget P t' = forget P s :=
    by
  unfold execGateOffSensed at h'
  injection h' with h'; subst h'
  try dsimp only
  (repeat' split) <;> first | with_reducible rfl | simp only [gateOffSensed_forget, Nat.reduceLT, ite_forget,
      ite_self, h_hb, h_pair, Fin.is_lt]

theorem execTgminExpiry_forget (P : Parts) (at' : Fin 200) (h : Fin 72) (hi : Bool) (s : State) (t' : State) (h_hb :
    P.hb = true) (h_bank : P.bank = true) (h' : execTgminExpiry at' h hi s = .next t') : forget P t' = forget P s :=
    by
  unfold execTgminExpiry at h'
  injection h' with h'; subst h'
  try dsimp only
  (repeat' split) <;> first | with_reducible rfl | simp only [turnOff_forget, Nat.reduceLT, ite_forget, ite_self,
      h_hb, h_bank, Fin.is_lt]

theorem execGateStuck_forget (P : Parts) (at' : Fin 200) (h : Fin 72) (hi : Bool) (s : State) (t' : State) (hev :
    MayRaise P) (h_ops : P.ops = true) (h_tim : P.tim = true) (h_hb : P.hb = true) (h_bank : P.bank = true) (h_ax :
    P.ax = true) (r_GATE_BSTUVCNT : P.Has .GATE_BSTUVCNT) (r_GATE_FLT : P.Has .GATE_FLT) (r_PROT_AXSTAT : P.Has
    .PROT_AXSTAT) (h' : execGateStuck at' h hi s = .next t') : forget P t' = forget P s := by
  unfold execGateStuck at h'
  injection h' with h'; subst h'
  try dsimp only
  (repeat' split) <;> first | with_reducible rfl | simp only [gateStuck_forget, Nat.reduceLT, ite_forget, ite_self,
      hev, hev.rcd, hev.fresh, hev.evt, h_ops, h_tim, h_hb, h_bank, h_ax, r_GATE_BSTUVCNT, r_GATE_FLT, r_PROT_AXSTAT,
      Fin.is_lt]

theorem execGateFgn_forget (P : Parts) (at' : Fin 200) (h : Fin 72) (hi : Bool) (s : State) (t' : State) (hev :
    MayRaise P) (h_ops : P.ops = true) (h_tim : P.tim = true) (h_hb : P.hb = true) (h_bank : P.bank = true) (h_ax :
    P.ax = true) (h_pair : P.pair = true) (r_GATE_BSTUVCNT : P.Has .GATE_BSTUVCNT) (r_GATE_FLT : P.Has .GATE_FLT) (h'
    : execGateFgn at' h hi s = .next t') : forget P t' = forget P s := by
  unfold execGateFgn at h'
  injection h' with h'; subst h'
  try dsimp only
  (repeat' split) <;> first | with_reducible rfl | simp only [gateCheck_forget, gateFgn_forget, modGate_forget,
      Nat.reduceLT, ite_forget, ite_self, hev, hev.rcd, hev.fresh, hev.evt, h_ops, h_tim, h_hb, h_bank, h_ax, h_pair,
      r_GATE_BSTUVCNT, r_GATE_FLT, Fin.is_lt]

theorem execFloatEntry_forget (P : Parts) (at' : Fin 200) (b : Fin 8) (s : State) (t' : State) (hev : MayRaise P)
    (h_tim : P.tim = true) (h_hb : P.hb = true) (h_bank : P.bank = true) (r_GATE_BSTUVCNT : P.Has .GATE_BSTUVCNT)
    (r_GATE_FLT : P.Has .GATE_FLT) (h' : execFloatEntry at' b s = .next t') : forget P t' = forget P s := by
  unfold execFloatEntry at h'
  injection h' with h'; subst h'
  try dsimp only
  (repeat' split) <;> first | with_reducible rfl | simp only [refloat_forget, Nat.reduceLT, ite_forget, ite_self, hev,
      hev.rcd, hev.fresh, hev.evt, h_tim, h_hb, h_bank, r_GATE_BSTUVCNT, r_GATE_FLT, Fin.is_lt]

theorem execFloatOutputDisable_forget (P : Parts) (at' : Fin 200) (b : Fin 8) (s : State) (t' : State) (h_hb : P.hb =
    true) (h_bank : P.bank = true) (h_pair : P.pair = true) (h' : execFloatOutputDisable at' b s = .next t') : forget
    P t' = forget P s := by
  unfold execFloatOutputDisable at h'
  injection h' with h'; subst h'
  try dsimp only
  (repeat' split) <;> first | with_reducible rfl | simp only [disableStages_forget, gateCheck_forget, Nat.reduceLT,
      ite_forget, ite_self, h_hb, h_bank, h_pair, Fin.is_lt]

theorem execFloatExitHoldEnd_forget (P : Parts) (at' : Fin 200) (b : Fin 8) (s : State) (t' : State) (hev : MayRaise
    P) (h_tim : P.tim = true) (h_hb : P.hb = true) (h_bank : P.bank = true) (r_GATE_BSTUVCNT : P.Has .GATE_BSTUVCNT)
    (r_GATE_FLT : P.Has .GATE_FLT) (h' : execFloatExitHoldEnd at' b s = .next t') : forget P t' = forget P s := by
  unfold execFloatExitHoldEnd at h'
  injection h' with h'; subst h'
  try dsimp only
  (repeat' split) <;> first | with_reducible rfl | simp only [modBank_forget, redriveBank_forget, Nat.reduceLT,
      ite_forget, ite_self, hev, hev.rcd, hev.fresh, hev.evt, h_tim, h_hb, h_bank, r_GATE_BSTUVCNT, r_GATE_FLT,
      Fin.is_lt]

theorem execVdrvUv_forget (P : Parts) (at' : Fin 200) (b : Fin 8) (s : State) (t' : State) (hev : MayRaise P) (h_tim :
    P.tim = true) (h_hb : P.hb = true) (h_bank : P.bank = true) (h_ax : P.ax = true) (r_GATE_BSTUVCNT : P.Has
    .GATE_BSTUVCNT) (r_GATE_FLT : P.Has .GATE_FLT) (r_GSUP_FLT : P.Has .GSUP_FLT) (r_PROT_AXSTAT : P.Has .PROT_AXSTAT)
    (h' : execVdrvUv at' b s = .next t') : forget P t' = forget P s := by
  unfold execVdrvUv at h'
  injection h' with h'; subst h'
  try dsimp only
  (repeat' split) <;> first | with_reducible rfl | simp only [vdrvUv_forget, Nat.reduceLT, ite_forget, ite_self, hev,
      hev.rcd, hev.fresh, hev.evt, h_tim, h_hb, h_bank, h_ax, r_GATE_BSTUVCNT, r_GATE_FLT, r_GSUP_FLT, r_PROT_AXSTAT,
      Fin.is_lt]

theorem execVcpUv_forget (P : Parts) (at' : Fin 200) (b : Fin 8) (s : State) (t' : State) (hev : MayRaise P) (h_tim :
    P.tim = true) (h_hb : P.hb = true) (h_bank : P.bank = true) (h_ax : P.ax = true) (r_GATE_BSTUVCNT : P.Has
    .GATE_BSTUVCNT) (r_GATE_FLT : P.Has .GATE_FLT) (r_GSUP_FLT : P.Has .GSUP_FLT) (r_PROT_AXSTAT : P.Has .PROT_AXSTAT)
    (h' : execVcpUv at' b s = .next t') : forget P t' = forget P s := by
  unfold execVcpUv at h'
  injection h' with h'; subst h'
  try dsimp only
  (repeat' split) <;> first | with_reducible rfl | simp only [vcpUv_forget, Nat.reduceLT, ite_forget, ite_self, hev,
      hev.rcd, hev.fresh, hev.evt, h_tim, h_hb, h_bank, h_ax, r_GATE_BSTUVCNT, r_GATE_FLT, r_GSUP_FLT, r_PROT_AXSTAT,
      Fin.is_lt]

theorem execBstUv_forget (P : Parts) (at' : Fin 200) (h : Fin 72) (s : State) (t' : State) (hev : MayRaise P) (h_tim :
    P.tim = true) (h_hb : P.hb = true) (h_bank : P.bank = true) (h_ax : P.ax = true) (r_GATE_BSTUVCNT : P.Has
    .GATE_BSTUVCNT) (r_GATE_FLT : P.Has .GATE_FLT) (r_PROT_AXSTAT : P.Has .PROT_AXSTAT) (h' : execBstUv at' h s =
    .next t') : forget P t' = forget P s := by
  unfold execBstUv at h'
  injection h' with h'; subst h'
  try dsimp only
  (repeat' split) <;> first | with_reducible rfl | simp only [bstUv_forget, Nat.reduceLT, ite_forget, ite_self, hev,
      hev.rcd, hev.fresh, hev.evt, h_tim, h_hb, h_bank, h_ax, r_GATE_BSTUVCNT, r_GATE_FLT, r_PROT_AXSTAT, Fin.is_lt]

theorem execSupplyRise_forget (P : Parts) (which : Fin 3) (i : Fin 72) (s : State) (t' : State) (h_hb : P.hb = true)
    (h_bank : P.bank = true) (h' : execSupplyRise which i s = .next t') : forget P t' = forget P s := by
  unfold execSupplyRise at h'
  injection h' with h'; subst h'
  try dsimp only
  (repeat' split) <;> first | with_reducible rfl | simp only [supplyRise_forget, Nat.reduceLT, ite_forget, ite_self,
      h_hb, h_bank, Fin.is_lt]

theorem execGsupFltClear_forget (P : Parts) (b : Fin 8) (d : Word) (s : State) (t' : State) (hrec : MayRecord P)
    (h_free : P.free = true) (h_clk : P.clk = true) (h_link : P.link = true) (h_ops : P.ops = true) (h_can : P.can =
    true) (h_tim : P.tim = true) (h_hb : P.hb = true) (h_bank : P.bank = true) (h_ax : P.ax = true) (h_fus : P.fus =
    true) (h_sched : P.sched = true) (h_sol : P.sol = true) (h_img : P.img = true) (h_pwr : P.pwr = true) (h_store :
    P.store = true) (h_pair : P.pair = true) (h_safe : P.safe = true) (h_win : P.win = true) (h_all : ∀ b, b ∈ P.blks)
    (h' : execGsupFltClear b d s = .next t') : forget P t' = forget P s := by
  unfold execGsupFltClear at h'
  injection h' with h'; subst h'
  try dsimp only
  have hev := hrec.queue.raises
  repeat' first
    | with_reducible rfl
    | split
    | (simp only [hostWord_forget, implies_true, Nat.reduceLT, ite_forget, ite_self, hrec, hrec.queue.raises,
        hrec.queue, hrec.recs, h_free, h_clk, h_link, h_ops, h_can, h_tim, h_hb, h_bank, h_ax, h_fus, h_sched, h_sol,
        h_img, h_pwr, h_store, h_pair, h_safe, h_win, h_all, Fin.is_lt]; done)
    | with_reducible refine Eq.trans (each_forget P _ _ (fun s x => ?_) _) ?_
    | (simp only [hostWord_forget, implies_true, Nat.reduceLT, ite_forget, ite_self, hrec, hrec.queue.raises,
        hrec.queue, hrec.recs, h_free, h_clk, h_link, h_ops, h_can, h_tim, h_hb, h_bank, h_ax, h_fus, h_sched, h_sol,
        h_img, h_pwr, h_store, h_pair, h_safe, h_win, h_all, Fin.is_lt])

theorem execDdpInputEdge_forget (P : Parts) (at' : Fin 200) (en : Bool) (i : Fin 9) (level : Bool) (width : Nat) (s :
    State) (t' : State) (hev : MayRaise P) (h_free : P.free = true) (h_tim : P.tim = true) (h_hb : P.hb = true)
    (h_bank : P.bank = true) (h_lands : P.lands = true) (r_GATE_BSTUVCNT : P.Has .GATE_BSTUVCNT) (r_GATE_FLT : P.Has
    .GATE_FLT) (h' : execDdpInputEdge at' en i level width s = .next t') : forget P t' = forget P s := by
  unfold execDdpInputEdge at h'
  injection h' with h'; subst h'
  try dsimp only
  repeat' first
    | with_reducible rfl
    | split
    | (simp only [redrive_forget, setDdp_forget, Nat.reduceLT, ite_forget, ite_self, hev, hev.rcd, hev.fresh, hev.evt,
        h_free, h_tim, h_hb, h_bank, h_lands, r_GATE_BSTUVCNT, r_GATE_FLT, Fin.is_lt]; done)
    | with_reducible exact passes_eq _ _ _ _ (by assumption) (by assumption)
    | with_reducible refine Eq.trans (passes_eq _ _ _ _ (by assumption) (by assumption)) ?_
    | with_reducible refine Eq.trans (each_forget P _ _ (fun s x => ?_) _) ?_
    | (simp only [redrive_forget, setDdp_forget, Nat.reduceLT, ite_forget, ite_self, hev, hev.rcd, hev.fresh, hev.evt,
        h_free, h_tim, h_hb, h_bank, h_lands, r_GATE_BSTUVCNT, r_GATE_FLT, Fin.is_lt])

theorem execDsblExpiry_forget (P : Parts) (at' : Fin 200) (h : Fin 72) (hi : Bool) (s : State) (t' : State) (h_hb :
    P.hb = true) (h' : execDsblExpiry at' h hi s = .next t') : forget P t' = forget P s := by
  unfold execDsblExpiry at h'
  injection h' with h'; subst h'
  try dsimp only
  (repeat' split) <;> first | with_reducible rfl | simp only [modGate_forget, Nat.reduceLT, ite_forget, ite_self,
      h_hb, Fin.is_lt]

theorem execDesat_forget (P : Parts) (at' : Fin 200) (h : Fin 72) (hi : Bool) (s : State) (t' : State) (hev : MayRaise
    P) (h_ops : P.ops = true) (h_tim : P.tim = true) (h_hb : P.hb = true) (h_bank : P.bank = true) (h_ax : P.ax =
    true) (r_GATE_BSTUVCNT : P.Has .GATE_BSTUVCNT) (r_GATE_FLT : P.Has .GATE_FLT) (r_PROT_AXSTAT : P.Has .PROT_AXSTAT)
    (r_PROT_CHFLT : P.Has .PROT_CHFLT) (h' : execDesat at' h hi s = .next t') : forget P t' = forget P s := by
  unfold execDesat at h'
  injection h' with h'; subst h'
  try dsimp only
  (repeat' split) <;> first | with_reducible rfl | simp only [detect_forget, Nat.reduceLT, ite_forget, ite_self, hev,
      hev.rcd, hev.fresh, hev.evt, h_ops, h_tim, h_hb, h_bank, h_ax, r_GATE_BSTUVCNT, r_GATE_FLT, r_PROT_AXSTAT,
      r_PROT_CHFLT, Fin.is_lt]

theorem execHardShortArm_forget (P : Parts) (at' : Fin 200) (h : Fin 72) (hi : Bool) (s : State) (t' : State) (h_hb :
    P.hb = true) (h' : execHardShortArm at' h hi s = .next t') : forget P t' = forget P s := by
  unfold execHardShortArm at h'
  injection h' with h'; subst h'
  try dsimp only
  (repeat' split) <;> first | with_reducible rfl | simp only [modGate_forget, Nat.reduceLT, ite_forget, ite_self,
      h_hb, Fin.is_lt]

theorem execHardShort_forget (P : Parts) (at' : Fin 200) (h : Fin 72) (hi : Bool) (s : State) (t' : State) (hev :
    MayRaise P) (h_ops : P.ops = true) (h_tim : P.tim = true) (h_hb : P.hb = true) (h_bank : P.bank = true) (h_ax :
    P.ax = true) (r_GATE_BSTUVCNT : P.Has .GATE_BSTUVCNT) (r_GATE_FLT : P.Has .GATE_FLT) (r_PROT_AXSTAT : P.Has
    .PROT_AXSTAT) (r_PROT_CHFLT : P.Has .PROT_CHFLT) (h' : execHardShort at' h hi s = .next t') : forget P t' = forget
    P s := by
  unfold execHardShort at h'
  injection h' with h'; subst h'
  try dsimp only
  (repeat' split) <;> first | with_reducible rfl | simp only [detect_forget, Nat.reduceLT, ite_forget, ite_self, hev,
      hev.rcd, hev.fresh, hev.evt, h_ops, h_tim, h_hb, h_bank, h_ax, r_GATE_BSTUVCNT, r_GATE_FLT, r_PROT_AXSTAT,
      r_PROT_CHFLT, Fin.is_lt]

theorem execPlateau_forget (P : Parts) (at' : Fin 200) (h : Fin 72) (hi : Bool) (s : State) (t' : State) (hev :
    MayRaise P) (h_ops : P.ops = true) (h_tim : P.tim = true) (h_hb : P.hb = true) (h_bank : P.bank = true) (h_ax :
    P.ax = true) (r_GATE_BSTUVCNT : P.Has .GATE_BSTUVCNT) (r_GATE_FLT : P.Has .GATE_FLT) (r_PROT_AXSTAT : P.Has
    .PROT_AXSTAT) (r_PROT_CHFLT : P.Has .PROT_CHFLT) (h' : execPlateau at' h hi s = .next t') : forget P t' = forget P
    s := by
  unfold execPlateau at h'
  injection h' with h'; subst h'
  try dsimp only
  (repeat' split) <;> first | with_reducible rfl | simp only [detect_forget, Nat.reduceLT, ite_forget, ite_self, hev,
      hev.rcd, hev.fresh, hev.evt, h_ops, h_tim, h_hb, h_bank, h_ax, r_GATE_BSTUVCNT, r_GATE_FLT, r_PROT_AXSTAT,
      r_PROT_CHFLT, Fin.is_lt]

theorem execProtChfltClear_forget (P : Parts) (b : Fin 8) (i : Fin 9) (d : Word) (s : State) (t' : State) (hrec :
    MayRecord P) (h_free : P.free = true) (h_clk : P.clk = true) (h_link : P.link = true) (h_ops : P.ops = true)
    (h_can : P.can = true) (h_tim : P.tim = true) (h_hb : P.hb = true) (h_bank : P.bank = true) (h_ax : P.ax = true)
    (h_fus : P.fus = true) (h_sched : P.sched = true) (h_sol : P.sol = true) (h_img : P.img = true) (h_pwr : P.pwr =
    true) (h_store : P.store = true) (h_pair : P.pair = true) (h_safe : P.safe = true) (h_win : P.win = true) (h_all :
    ∀ b, b ∈ P.blks) (h' : execProtChfltClear b i d s = .next t') : forget P t' = forget P s := by
  unfold execProtChfltClear at h'
  injection h' with h'; subst h'
  try dsimp only
  (repeat' split) <;> first | with_reducible rfl | simp only [hostWord_forget, implies_true, Nat.reduceLT, ite_forget,
      ite_self, hrec, hrec.queue.raises, hrec.queue, hrec.recs, h_free, h_clk, h_link, h_ops, h_can, h_tim, h_hb,
      h_bank, h_ax, h_fus, h_sched, h_sol, h_img, h_pwr, h_store, h_pair, h_safe, h_win, h_all, Fin.is_lt]

theorem execTripRecognised_forget (P : Parts) (at' : Fin 200) (b : Fin 8) (high : Nat) (s : State) (t' : State) (hev :
    MayRaise P) (h_ops : P.ops = true) (h_tim : P.tim = true) (h_hb : P.hb = true) (h_bank : P.bank = true) (h_ax :
    P.ax = true) (r_GATE_BSTUVCNT : P.Has .GATE_BSTUVCNT) (r_GATE_FLT : P.Has .GATE_FLT) (r_PROT_AXSTAT : P.Has
    .PROT_AXSTAT) (r_PROT_BFLT : P.Has .PROT_BFLT) (h' : execTripRecognised at' b high s = .next t') : forget P t' =
    forget P s := by
  unfold execTripRecognised at h'
  injection h' with h'; subst h'
  try dsimp only
  (repeat' split) <;> first | with_reducible rfl | simp only [tripRecognised_forget, Nat.reduceLT, ite_forget,
      ite_self, hev, hev.rcd, hev.fresh, hev.evt, h_ops, h_tim, h_hb, h_bank, h_ax, r_GATE_BSTUVCNT, r_GATE_FLT,
      r_PROT_AXSTAT, r_PROT_BFLT, Fin.is_lt]

theorem execTripRelease_forget (P : Parts) (b : Fin 8) (s : State) (t' : State) (hev : MayRaise P) (h_tim : P.tim =
    true) (h_hb : P.hb = true) (h_bank : P.bank = true) (h_ax : P.ax = true) (r_GATE_BSTUVCNT : P.Has .GATE_BSTUVCNT)
    (r_GATE_FLT : P.Has .GATE_FLT) (r_PROT_AXSTAT : P.Has .PROT_AXSTAT) (h' : execTripRelease b s = .next t') : forget
    P t' = forget P s := by
  unfold execTripRelease at h'
  injection h' with h'; subst h'
  try dsimp only
  (repeat' split) <;> first | with_reducible rfl | simp only [tripRelease_forget, Nat.reduceLT, ite_forget, ite_self,
      hev, hev.rcd, hev.fresh, hev.evt, h_tim, h_hb, h_bank, h_ax, r_GATE_BSTUVCNT, r_GATE_FLT, r_PROT_AXSTAT,
      Fin.is_lt]

theorem execBlankWindowEnd_forget (P : Parts) (at' : Fin 200) (b : Fin 8) (s : State) (t' : State) (h_bank : P.bank =
    true) (h' : execBlankWindowEnd at' b s = .next t') : forget P t' = forget P s := by
  unfold execBlankWindowEnd at h'
  injection h' with h'; subst h'
  try dsimp only
  (repeat' split) <;> first | with_reducible rfl | simp only [modBank_forget, Nat.reduceLT, ite_forget, ite_self,
      h_bank, Fin.is_lt]

theorem execCurrentLimitTrip_forget (P : Parts) (at' : Fin 200) (h : Fin 72) (high : Nat) (s : State) (t' : State)
    (hev : MayRaise P) (h_tim : P.tim = true) (h_hb : P.hb = true) (h_bank : P.bank = true) (r_GATE_BSTUVCNT : P.Has
    .GATE_BSTUVCNT) (r_GATE_FLT : P.Has .GATE_FLT) (r_PROT_BFLT : P.Has .PROT_BFLT) (r_PROT_CHFLT : P.Has .PROT_CHFLT)
    (r_PROT_ILIMCNT : P.Has .PROT_ILIMCNT) (h' : execCurrentLimitTrip at' h high s = .next t') : forget P t' = forget
    P s := by
  unfold execCurrentLimitTrip at h'
  injection h' with h'; subst h'
  try dsimp only
  (repeat' split) <;> first | with_reducible rfl | simp only [limitHb_forget, Nat.reduceLT, ite_forget, ite_self, hev,
      hev.rcd, hev.fresh, hev.evt, h_tim, h_hb, h_bank, r_GATE_BSTUVCNT, r_GATE_FLT, r_PROT_BFLT, r_PROT_CHFLT,
      r_PROT_ILIMCNT, Fin.is_lt]

theorem execChopperOn_forget (P : Parts) (at' : Fin 200) (b : Fin 8) (s : State) (t' : State) (hev : MayRaise P)
    (h_tim : P.tim = true) (h_hb : P.hb = true) (h_bank : P.bank = true) (r_GATE_BSTUVCNT : P.Has .GATE_BSTUVCNT)
    (r_GATE_FLT : P.Has .GATE_FLT) (h' : execChopperOn at' b s = .next t') : forget P t' = forget P s := by
  unfold execChopperOn at h'
  injection h' with h'; subst h'
  try dsimp only
  (repeat' split) <;> first | with_reducible rfl | simp only [modBank_forget, redriveBank_forget, Nat.reduceLT,
      ite_forget, ite_self, hev, hev.rcd, hev.fresh, hev.evt, h_tim, h_hb, h_bank, r_GATE_BSTUVCNT, r_GATE_FLT,
      Fin.is_lt]

theorem execChopperOff_forget (P : Parts) (at' : Fin 200) (b : Fin 8) (s : State) (t' : State) (hev : MayRaise P)
    (h_tim : P.tim = true) (h_hb : P.hb = true) (h_bank : P.bank = true) (h_ax : P.ax = true) (r_GATE_BSTUVCNT : P.Has
    .GATE_BSTUVCNT) (r_GATE_FLT : P.Has .GATE_FLT) (r_PROT_AXSTAT : P.Has .PROT_AXSTAT) (h' : execChopperOff at' b s =
    .next t') : forget P t' = forget P s := by
  unfold execChopperOff at h'
  injection h' with h'; subst h'
  try dsimp only
  (repeat' split) <;> first | with_reducible rfl | simp only [chopperOff_forget, Nat.reduceLT, ite_forget, ite_self,
      hev, hev.rcd, hev.fresh, hev.evt, h_tim, h_hb, h_bank, h_ax, r_GATE_BSTUVCNT, r_GATE_FLT, r_PROT_AXSTAT,
      Fin.is_lt]

theorem execVov2_forget (P : Parts) (at' : Fin 200) (b : Fin 8) (s : State) (t' : State) (hev : MayRaise P) (h_ops :
    P.ops = true) (h_tim : P.tim = true) (h_hb : P.hb = true) (h_bank : P.bank = true) (h_ax : P.ax = true)
    (r_GATE_BSTUVCNT : P.Has .GATE_BSTUVCNT) (r_GATE_FLT : P.Has .GATE_FLT) (r_PROT_AXSTAT : P.Has .PROT_AXSTAT)
    (r_PROT_BFLT : P.Has .PROT_BFLT) (h' : execVov2 at' b s = .next t') : forget P t' = forget P s := by
  unfold execVov2 at h'
  injection h' with h'; subst h'
  try dsimp only
  (repeat' split) <;> first | with_reducible rfl | simp only [vov2_forget, Nat.reduceLT, ite_forget, ite_self, hev,
      hev.rcd, hev.fresh, hev.evt, h_ops, h_tim, h_hb, h_bank, h_ax, r_GATE_BSTUVCNT, r_GATE_FLT, r_PROT_AXSTAT,
      r_PROT_BFLT, Fin.is_lt]

theorem execChopLong_forget (P : Parts) (b : Fin 8) (s : State) (t' : State) (hev : MayRaise P) (h_bank : P.bank =
    true) (r_PROT_BFLT : P.Has .PROT_BFLT) (h' : execChopLong b s = .next t') : forget P t' = forget P s := by
  unfold execChopLong at h'
  injection h' with h'; subst h'
  try dsimp only
  (repeat' split) <;> first | with_reducible rfl | simp only [evPROT_WARN_lt, modBank_forget, raise_forget,
      setFlags_forget, cov_PROT_BFLT, Nat.reduceLT, ite_forget, ite_self, hev, hev.rcd, hev.fresh, hev.evt, h_bank,
      r_PROT_BFLT, Fin.is_lt]

theorem execOts_forget (P : Parts) (at' : Fin 200) (b : Fin 8) (s : State) (t' : State) (hev : MayRaise P) (h_ops :
    P.ops = true) (h_tim : P.tim = true) (h_hb : P.hb = true) (h_bank : P.bank = true) (h_ax : P.ax = true)
    (r_GATE_BSTUVCNT : P.Has .GATE_BSTUVCNT) (r_GATE_FLT : P.Has .GATE_FLT) (r_PROT_AXSTAT : P.Has .PROT_AXSTAT)
    (r_PROT_BFLT : P.Has .PROT_BFLT) (h' : execOts at' b s = .next t') : forget P t' = forget P s := by
  unfold execOts at h'
  injection h' with h'; subst h'
  try dsimp only
  (repeat' split) <;> first | with_reducible rfl | simp only [ots_forget, Nat.reduceLT, ite_forget, ite_self, hev,
      hev.rcd, hev.fresh, hev.evt, h_ops, h_tim, h_hb, h_bank, h_ax, r_GATE_BSTUVCNT, r_GATE_FLT, r_PROT_AXSTAT,
      r_PROT_BFLT, Fin.is_lt]

theorem execProtBfltClear_forget (P : Parts) (b : Fin 8) (d : Word) (s : State) (t' : State) (hrec : MayRecord P)
    (h_free : P.free = true) (h_clk : P.clk = true) (h_link : P.link = true) (h_ops : P.ops = true) (h_can : P.can =
    true) (h_tim : P.tim = true) (h_hb : P.hb = true) (h_bank : P.bank = true) (h_ax : P.ax = true) (h_fus : P.fus =
    true) (h_sched : P.sched = true) (h_sol : P.sol = true) (h_img : P.img = true) (h_pwr : P.pwr = true) (h_store :
    P.store = true) (h_pair : P.pair = true) (h_safe : P.safe = true) (h_win : P.win = true) (h_all : ∀ b, b ∈ P.blks)
    (h' : execProtBfltClear b d s = .next t') : forget P t' = forget P s := by
  unfold execProtBfltClear at h'
  injection h' with h'; subst h'
  try dsimp only
  have hev := hrec.queue.raises
  repeat' first
    | with_reducible rfl
    | split
    | (simp only [hostWord_forget, implies_true, Nat.reduceLT, ite_forget, ite_self, hrec, hrec.queue.raises,
        hrec.queue, hrec.recs, h_free, h_clk, h_link, h_ops, h_can, h_tim, h_hb, h_bank, h_ax, h_fus, h_sched, h_sol,
        h_img, h_pwr, h_store, h_pair, h_safe, h_win, h_all, Fin.is_lt]; done)
    | with_reducible refine Eq.trans (each_forget P _ _ (fun s x => ?_) _) ?_
    | (simp only [hostWord_forget, implies_true, Nat.reduceLT, ite_forget, ite_self, hrec, hrec.queue.raises,
        hrec.queue, hrec.recs, h_free, h_clk, h_link, h_ops, h_can, h_tim, h_hb, h_bank, h_ax, h_fus, h_sched, h_sol,
        h_img, h_pwr, h_store, h_pair, h_safe, h_win, h_all, Fin.is_lt])

theorem execEstop_forget (P : Parts) (at' : Fin 200) (width : Nat) (s : State) (t' : State) (hev : MayRaise P) (h_free
    : P.free = true) (h_ops : P.ops = true) (h_tim : P.tim = true) (h_hb : P.hb = true) (h_bank : P.bank = true) (h_ax
    : P.ax = true) (h_safe : P.safe = true) (r_GATE_BSTUVCNT : P.Has .GATE_BSTUVCNT) (r_GATE_FLT : P.Has .GATE_FLT)
    (r_PROT_AXSTAT : P.Has .PROT_AXSTAT) (h' : execEstop at' width s = .next t') : forget P t' = forget P s := by
  unfold execEstop at h'
  injection h' with h'; subst h'
  try dsimp only
  repeat' first
    | with_reducible rfl
    | split
    | (simp only [estop_forget, modSafe_forget, Nat.reduceLT, ite_forget, ite_self, hev, hev.rcd, hev.fresh, hev.evt,
        h_free, h_ops, h_tim, h_hb, h_bank, h_ax, h_safe, r_GATE_BSTUVCNT, r_GATE_FLT, r_PROT_AXSTAT, Fin.is_lt];
        done)
    | with_reducible exact passes_eq _ _ _ _ (by assumption) (by assumption)
    | with_reducible refine Eq.trans (passes_eq _ _ _ _ (by assumption) (by assumption)) ?_
    | with_reducible refine Eq.trans (each_forget P _ _ (fun s x => ?_) _) ?_
    | (simp only [estop_forget, modSafe_forget, Nat.reduceLT, ite_forget, ite_self, hev, hev.rcd, hev.fresh, hev.evt,
        h_free, h_ops, h_tim, h_hb, h_bank, h_ax, h_safe, r_GATE_BSTUVCNT, r_GATE_FLT, r_PROT_AXSTAT, Fin.is_lt])

theorem execEstopRelease_forget (P : Parts) (s : State) (t' : State) (hev : MayRaise P) (h_tim : P.tim = true) (h_hb :
    P.hb = true) (h_bank : P.bank = true) (h_ax : P.ax = true) (h_safe : P.safe = true) (r_GATE_BSTUVCNT : P.Has
    .GATE_BSTUVCNT) (r_GATE_FLT : P.Has .GATE_FLT) (r_PROT_AXSTAT : P.Has .PROT_AXSTAT) (h' : execEstopRelease s =
    .next t') : forget P t' = forget P s := by
  unfold execEstopRelease at h'
  injection h' with h'; subst h'
  try dsimp only
  repeat' first
    | with_reducible rfl
    | split
    | (simp only [bankCause_forget, modSafe_forget, Nat.reduceLT, ite_forget, ite_self, hev, hev.rcd, hev.fresh,
        hev.evt, h_tim, h_hb, h_bank, h_ax, h_safe, r_GATE_BSTUVCNT, r_GATE_FLT, r_PROT_AXSTAT, Fin.is_lt]; done)
    | with_reducible refine Eq.trans (each_forget P _ _ (fun s x => ?_) _) ?_
    | (simp only [bankCause_forget, modSafe_forget, Nat.reduceLT, ite_forget, ite_self, hev, hev.rcd, hev.fresh,
        hev.evt, h_tim, h_hb, h_bank, h_ax, h_safe, r_GATE_BSTUVCNT, r_GATE_FLT, r_PROT_AXSTAT, Fin.is_lt])

theorem execEngineStep_forget (P : Parts) (at' : Fin 200) (a : Fin 24) (s : State) (t' : State) (hev : MayRaise P)
    (h_free : P.free = true) (h_ops : P.ops = true) (h_tim : P.tim = true) (h_ax : P.ax = true) (h_sol : P.sol = true)
    (r_AX_ANGLE : P.Has .AX_ANGLE) (r_AX_CONF : P.Has .AX_CONF) (r_AX_IC : P.Has .AX_IC) (r_AX_ID : P.Has .AX_ID)
    (r_AX_IQ : P.Has .AX_IQ) (r_AX_LATECNT : P.Has .AX_LATECNT) (r_AX_REF : P.Has .AX_REF) (r_AX_SKIPCNT : P.Has
    .AX_SKIPCNT) (r_AX_SPD : P.Has .AX_SPD) (r_AX_STALECNT : P.Has .AX_STALECNT) (r_AX_STARTS : P.Has .AX_STARTS)
    (r_AX_TARGET : P.Has .AX_TARGET) (r_AX_VD : P.Has .AX_VD) (r_AX_VQ : P.Has .AX_VQ) (r_SOL_EXPOVF : P.Has
    .SOL_EXPOVF) (h' : execEngineStep at' a s = .next t') : forget P t' = forget P s := by
  unfold execEngineStep at h'
  injection h' with h'; subst h'
  try dsimp only
  (repeat' split) <;> first | with_reducible rfl | simp only [engineTick_forget, modAx_forget, Nat.reduceLT,
      ite_forget, ite_self, hev, hev.rcd, hev.fresh, hev.evt, h_free, h_ops, h_tim, h_ax, h_sol, r_AX_ANGLE,
      r_AX_CONF, r_AX_IC, r_AX_ID, r_AX_IQ, r_AX_LATECNT, r_AX_REF, r_AX_SKIPCNT, r_AX_SPD, r_AX_STALECNT,
      r_AX_STARTS, r_AX_TARGET, r_AX_VD, r_AX_VQ, r_SOL_EXPOVF, Fin.is_lt]

theorem execConverterStart_forget (P : Parts) (c : Fin 24) (s : State) (t' : State) (h_bank : P.bank = true)
    (r_CONV_OVRCNT : P.Has .CONV_OVRCNT) (h' : execConverterStart c s = .next t') : forget P t' = forget P s := by
  unfold execConverterStart at h'
  injection h' with h'; subst h'
  try dsimp only
  (repeat' split) <;> first | with_reducible rfl | simp only [convStart_forget, Nat.reduceLT, ite_forget, ite_self,
      h_bank, r_CONV_OVRCNT, Fin.is_lt]

theorem execConversionDone_forget (P : Parts) (at' : Fin 200) (c : Fin 24) (code : BitVec 12) (s : State) (t' : State)
    (hev : MayRaise P) (h_free : P.free = true) (h_ops : P.ops = true) (h_tim : P.tim = true) (h_hb : P.hb = true)
    (h_bank : P.bank = true) (h_ax : P.ax = true) (r_CONV_OFS : P.Has .CONV_OFS) (r_CONV_REF : P.Has .CONV_REF)
    (r_CONV_RES : P.Has .CONV_RES) (r_CONV_SEQCNT : P.Has .CONV_SEQCNT) (r_CONV_SN : P.Has .CONV_SN) (r_GATE_BSTUVCNT
    : P.Has .GATE_BSTUVCNT) (r_GATE_FLT : P.Has .GATE_FLT) (r_PROT_AXSTAT : P.Has .PROT_AXSTAT) (r_PROT_BFLT : P.Has
    .PROT_BFLT) (r_PROT_TEMP : P.Has .PROT_TEMP) (r_PROT_VM : P.Has .PROT_VM) (h' : execConversionDone at' c code s =
    .next t') : forget P t' = forget P s := by
  unfold execConversionDone at h'
  injection h' with h'; subst h'
  try dsimp only
  repeat' first
    | with_reducible rfl
    | split
    | (simp only [bgDone_forget, idleDone_forget, seqDone_forget, Nat.reduceLT, ite_forget, ite_self, hev, hev.rcd,
        hev.fresh, hev.evt, h_free, h_ops, h_tim, h_hb, h_bank, h_ax, r_CONV_OFS, r_CONV_REF, r_CONV_RES,
        r_CONV_SEQCNT, r_CONV_SN, r_GATE_BSTUVCNT, r_GATE_FLT, r_PROT_AXSTAT, r_PROT_BFLT, r_PROT_TEMP, r_PROT_VM,
        Fin.is_lt]; done)
    | with_reducible refine Eq.trans (each_forget P _ _ (fun s x => ?_) _) ?_
    | (simp only [bgDone_forget, idleDone_forget, seqDone_forget, Nat.reduceLT, ite_forget, ite_self, hev, hev.rcd,
        hev.fresh, hev.evt, h_free, h_ops, h_tim, h_hb, h_bank, h_ax, r_CONV_OFS, r_CONV_REF, r_CONV_RES,
        r_CONV_SEQCNT, r_CONV_SN, r_GATE_BSTUVCNT, r_GATE_FLT, r_PROT_AXSTAT, r_PROT_BFLT, r_PROT_TEMP, r_PROT_VM,
        Fin.is_lt])

theorem execHallEdge_forget (P : Parts) (a : Fin 24) (h : Held (Fin 8)) (s : State) (t' : State) (hev : MayRaise
    P) (h_free : P.free = true) (h_ops : P.ops = true) (h_ax : P.ax = true) (h_lands : P.lands = true) (r_AX_HALL :
    P.Has .AX_HALL) (r_AX_HALLERR : P.Has .AX_HALLERR) (h' : execHallEdge a h s = .next t') : forget P t' =
    forget P s := by
  unfold execHallEdge at h'
  injection h' with h'; subst h'
  try dsimp only
  repeat' first
    | with_reducible rfl
    | split
    | (simp only [hallEdge_forget, setHall_forget, Nat.reduceLT, ite_forget, ite_self, hev, hev.rcd, hev.fresh,
        hev.evt, h_free, h_ops, h_ax, h_lands, r_AX_HALL, r_AX_HALLERR, Fin.is_lt]; done)
    | with_reducible exact hallPass_eq _ _ _ (by assumption) (by assumption)
    | with_reducible refine Eq.trans (hallPass_eq _ _ _ (by assumption) (by assumption)) ?_
    | with_reducible refine Eq.trans (each_forget P _ _ (fun s x => ?_) _) ?_
    | (simp only [hallEdge_forget, setHall_forget, Nat.reduceLT, ite_forget, ite_self, hev, hev.rcd, hev.fresh,
        hev.evt, h_free, h_ops, h_ax, h_lands, r_AX_HALL, r_AX_HALLERR, Fin.is_lt])

theorem execEncoderEdge_forget (P : Parts) (a : Fin 24) (track : Fin 3) (level : Held Bool) (s : State) (t' :
    State) (hev : MayRaise P) (h_free : P.free = true) (h_ops : P.ops = true) (h_ax : P.ax = true) (h_lands : P.lands
    = true) (r_AX_ENCPOS : P.Has .AX_ENCPOS) (h' : execEncoderEdge a track level s = .next t') : forget P t' =
    forget P s := by
  unfold execEncoderEdge at h'
  injection h' with h'; subst h'
  try dsimp only
  repeat' first
    | with_reducible rfl
    | split
    | (simp only [encoderEdge_forget, setHall_forget, Nat.reduceLT, ite_forget, ite_self, hev, hev.rcd, hev.fresh,
        hev.evt, h_free, h_ops, h_ax, h_lands, r_AX_ENCPOS, Fin.is_lt]; done)
    | with_reducible exact hallPass_eq _ _ _ (by assumption) (by assumption)
    | with_reducible refine Eq.trans (hallPass_eq _ _ _ (by assumption) (by assumption)) ?_
    | with_reducible refine Eq.trans (each_forget P _ _ (fun s x => ?_) _) ?_
    | (simp only [encoderEdge_forget, setHall_forget, Nat.reduceLT, ite_forget, ite_self, hev, hev.rcd, hev.fresh,
        hev.evt, h_free, h_ops, h_ax, h_lands, r_AX_ENCPOS, Fin.is_lt])

theorem execAxisStart_forget (P : Parts) (a : Fin 24) (s : State) (t' : State) (hrec : MayRecord P) (h_free : P.free =
    true) (h_clk : P.clk = true) (h_link : P.link = true) (h_ops : P.ops = true) (h_can : P.can = true) (h_tim : P.tim
    = true) (h_hb : P.hb = true) (h_bank : P.bank = true) (h_ax : P.ax = true) (h_fus : P.fus = true) (h_sched :
    P.sched = true) (h_sol : P.sol = true) (h_img : P.img = true) (h_pwr : P.pwr = true) (h_store : P.store = true)
    (h_pair : P.pair = true) (h_safe : P.safe = true) (h_win : P.win = true) (h_all : ∀ b, b ∈ P.blks) (h' :
    execAxisStart a s = .next t') : forget P t' = forget P s := by
  unfold execAxisStart at h'
  injection h' with h'; subst h'
  try dsimp only
  (repeat' split) <;> first | with_reducible rfl | simp only [hostWord_forget, axAddr, implies_true, Nat.reduceLT,
      ite_forget, ite_self, hrec, hrec.queue.raises, hrec.queue, hrec.recs, h_free, h_clk, h_link, h_ops, h_can,
      h_tim, h_hb, h_bank, h_ax, h_fus, h_sched, h_sol, h_img, h_pwr, h_store, h_pair, h_safe, h_win, h_all,
      Fin.is_lt]

theorem execAxisStop_forget (P : Parts) (a : Fin 24) (s : State) (t' : State) (hrec : MayRecord P) (h_free : P.free =
    true) (h_clk : P.clk = true) (h_link : P.link = true) (h_ops : P.ops = true) (h_can : P.can = true) (h_tim : P.tim
    = true) (h_hb : P.hb = true) (h_bank : P.bank = true) (h_ax : P.ax = true) (h_fus : P.fus = true) (h_sched :
    P.sched = true) (h_sol : P.sol = true) (h_img : P.img = true) (h_pwr : P.pwr = true) (h_store : P.store = true)
    (h_pair : P.pair = true) (h_safe : P.safe = true) (h_win : P.win = true) (h_all : ∀ b, b ∈ P.blks) (h' :
    execAxisStop a s = .next t') : forget P t' = forget P s := by
  unfold execAxisStop at h'
  injection h' with h'; subst h'
  try dsimp only
  (repeat' split) <;> first | with_reducible rfl | simp only [hostWord_forget, axAddr, implies_true, Nat.reduceLT,
      ite_forget, ite_self, hrec, hrec.queue.raises, hrec.queue, hrec.recs, h_free, h_clk, h_link, h_ops, h_can,
      h_tim, h_hb, h_bank, h_ax, h_fus, h_sched, h_sol, h_img, h_pwr, h_store, h_pair, h_safe, h_win, h_all,
      Fin.is_lt]

theorem execAxisCoast_forget (P : Parts) (a : Fin 24) (s : State) (t' : State) (hrec : MayRecord P) (h_free : P.free =
    true) (h_clk : P.clk = true) (h_link : P.link = true) (h_ops : P.ops = true) (h_can : P.can = true) (h_tim : P.tim
    = true) (h_hb : P.hb = true) (h_bank : P.bank = true) (h_ax : P.ax = true) (h_fus : P.fus = true) (h_sched :
    P.sched = true) (h_sol : P.sol = true) (h_img : P.img = true) (h_pwr : P.pwr = true) (h_store : P.store = true)
    (h_pair : P.pair = true) (h_safe : P.safe = true) (h_win : P.win = true) (h_all : ∀ b, b ∈ P.blks) (h' :
    execAxisCoast a s = .next t') : forget P t' = forget P s := by
  unfold execAxisCoast at h'
  injection h' with h'; subst h'
  try dsimp only
  (repeat' split) <;> first | with_reducible rfl | simp only [hostWord_forget, axAddr, implies_true, Nat.reduceLT,
      ite_forget, ite_self, hrec, hrec.queue.raises, hrec.queue, hrec.recs, h_free, h_clk, h_link, h_ops, h_can,
      h_tim, h_hb, h_bank, h_ax, h_fus, h_sched, h_sol, h_img, h_pwr, h_store, h_pair, h_safe, h_win, h_all,
      Fin.is_lt]

theorem execAxisStallClear_forget (P : Parts) (a : Fin 24) (s : State) (t' : State) (hrec : MayRecord P) (h_free :
    P.free = true) (h_clk : P.clk = true) (h_link : P.link = true) (h_ops : P.ops = true) (h_can : P.can = true)
    (h_tim : P.tim = true) (h_hb : P.hb = true) (h_bank : P.bank = true) (h_ax : P.ax = true) (h_fus : P.fus = true)
    (h_sched : P.sched = true) (h_sol : P.sol = true) (h_img : P.img = true) (h_pwr : P.pwr = true) (h_store : P.store
    = true) (h_pair : P.pair = true) (h_safe : P.safe = true) (h_win : P.win = true) (h_all : ∀ b, b ∈ P.blks) (h' :
    execAxisStallClear a s = .next t') : forget P t' = forget P s := by
  unfold execAxisStallClear at h'
  injection h' with h'; subst h'
  try dsimp only
  (repeat' split) <;> first | with_reducible rfl | simp only [hostWord_forget, axAddr, implies_true, Nat.reduceLT,
      ite_forget, ite_self, hrec, hrec.queue.raises, hrec.queue, hrec.recs, h_free, h_clk, h_link, h_ops, h_can,
      h_tim, h_hb, h_bank, h_ax, h_fus, h_sched, h_sol, h_img, h_pwr, h_store, h_pair, h_safe, h_win, h_all,
      Fin.is_lt]

theorem execAlignDone_forget (P : Parts) (a : Fin 24) (s : State) (t' : State) (h_free : P.free = true) (h_ax : P.ax =
    true) (r_AX_ENC_OFS : P.Has .AX_ENC_OFS) (h' : execAlignDone a s = .next t') : forget P t' = forget P s := by
  unfold execAlignDone at h'
  injection h' with h'; subst h'
  try dsimp only
  (repeat' split) <;> first | with_reducible rfl | simp only [alignDone_forget, Nat.reduceLT, ite_forget, ite_self,
      h_free, h_ax, r_AX_ENC_OFS, Fin.is_lt]

theorem execRetryWaitEnd_forget (P : Parts) (a : Fin 24) (s : State) (t' : State) (h_ax : P.ax = true) (r_AX_STARTS :
    P.Has .AX_STARTS) (h' : execRetryWaitEnd a s = .next t') : forget P t' = forget P s := by
  unfold execRetryWaitEnd at h'
  injection h' with h'; subst h'
  try dsimp only
  (repeat' split) <;> first | with_reducible rfl | simp only [startUp_forget, Nat.reduceLT, ite_forget, ite_self,
      h_ax, r_AX_STARTS, Fin.is_lt]

theorem execStallDetected_forget (P : Parts) (a : Fin 24) (crit : Fin 3) (s : State) (t' : State) (hev : MayRaise P)
    (h_ax : P.ax = true) (r_AX_STALLCNT : P.Has .AX_STALLCNT) (h' : execStallDetected a crit s = .next t') : forget P
    t' = forget P s := by
  unfold execStallDetected at h'
  injection h' with h'; subst h'
  try dsimp only
  (repeat' split) <;> first | with_reducible rfl | simp only [stall_forget, Nat.reduceLT, ite_forget, ite_self, hev,
      hev.rcd, hev.fresh, hev.evt, h_ax, r_AX_STALLCNT, Fin.is_lt]

theorem execWheelCount_forget (P : Parts) (n : Fin 4) (trackB : Bool) (level : Held Bool) (s : State) (t' : State) (hev
    : MayRaise P) (h_free : P.free = true) (h_fus : P.fus = true) (h_lands : P.lands = true) (r_FUS_WHL_CNT : P.Has
    .FUS_WHL_CNT) (r_FUS_WHL_INS : P.Has .FUS_WHL_INS) (r_FUS_WHL_NOISE : P.Has .FUS_WHL_NOISE) (h' : execWheelCount n
    trackB level s = .next t') : forget P t' = forget P s := by
  unfold execWheelCount at h'
  injection h' with h'; subst h'
  try dsimp only
  (repeat' split) <;> first | with_reducible rfl | simp only [setWhl_forget, wheelEdge_forget, Nat.reduceLT,
      ite_forget, ite_self, hev, hev.rcd, hev.fresh, hev.evt, h_free, h_fus, h_lands, r_FUS_WHL_CNT, r_FUS_WHL_INS,
      r_FUS_WHL_NOISE, Fin.is_lt]

theorem execGnssSentence_forget (P : Parts) (bytes : List Byte) (framing : Bool) (dollar : Nat) (s : State) (t' :
    State) (hev : MayRaise P) (h_free : P.free = true) (h_fus : P.fus = true) (r_FUS_GNSS_ERR : P.Has .FUS_GNSS_ERR)
    (r_FUS_GNSS_FIX : P.Has .FUS_GNSS_FIX) (h' : execGnssSentence bytes framing dollar s = .next t') : forget P t' =
    forget P s := by
  unfold execGnssSentence at h'
  injection h' with h'; subst h'
  try dsimp only
  (repeat' split) <;> first | with_reducible rfl | simp only [gnssSentence_forget, Nat.reduceLT, ite_forget, ite_self,
      hev, hev.rcd, hev.fresh, hev.evt, h_free, h_fus, r_FUS_GNSS_ERR, r_FUS_GNSS_FIX, Fin.is_lt]

theorem execImuTrigger_forget (P : Parts) (s : State) (t' : State) (hev : MayRaise P) (h_fus : P.fus = true)
    (r_FUS_IMU_LOST : P.Has .FUS_IMU_LOST) (h' : execImuTrigger s = .next t') : forget P t' = forget P s := by
  unfold execImuTrigger at h'
  injection h' with h'; subst h'
  try dsimp only
  (repeat' split) <;> first | with_reducible rfl | simp only [imuTrigger_forget, Nat.reduceLT, ite_forget, ite_self,
      hev, hev.rcd, hev.fresh, hev.evt, h_fus, r_FUS_IMU_LOST, Fin.is_lt]

theorem execImuSeqDone_forget (P : Parts) (rx : List (BitVec 16)) (s : State) (t' : State) (h_free : P.free = true)
    (h_fus : P.fus = true) (r_FUS_IMU : P.Has .FUS_IMU) (h' : execImuSeqDone rx s = .next t') : forget P t' = forget P
    s := by
  unfold execImuSeqDone at h'
  injection h' with h'; subst h'
  try dsimp only
  (repeat' split) <;> first | with_reducible rfl | simp only [imuSteps_forget, modFus_forget, Nat.reduceLT,
      ite_forget, ite_self, h_free, h_fus, r_FUS_IMU, Fin.is_lt]

theorem execSentFrame_forget (P : Parts) (n : Fin 2) (pulses : List Nat) (s : State) (t' : State) (hev : MayRaise P)
    (h_free : P.free = true) (h_fus : P.fus = true) (r_FUS_ANGLE : P.Has .FUS_ANGLE) (r_FUS_SENT_ERR : P.Has
    .FUS_SENT_ERR) (r_FUS_SENT_STAT : P.Has .FUS_SENT_STAT) (h' : execSentFrame n pulses s = .next t') : forget P t' =
    forget P s := by
  unfold execSentFrame at h'
  injection h' with h'; subst h'
  try dsimp only
  (repeat' split) <;> first | with_reducible rfl | simp only [sentFrame_forget, Nat.reduceLT, ite_forget, ite_self,
      hev, hev.rcd, hev.fresh, hev.evt, h_free, h_fus, r_FUS_ANGLE, r_FUS_SENT_ERR, r_FUS_SENT_STAT, Fin.is_lt]

theorem execHostInject_forget (P : Parts) (d : Word) (s : State) (t' : State) (h_fus : P.fus = true) (h' :
    execHostInject d s = .next t') : forget P t' = forget P s := by
  unfold execHostInject at h'
  injection h' with h'; subst h'
  unfold State.whenHost
  try dsimp only
  (repeat' split) <;> first | with_reducible rfl | simp only [hostInject_forget, Nat.reduceLT, ite_forget, ite_self,
      h_fus, Fin.is_lt]

theorem execFusionPublication_forget (P : Parts) (s : State) (t' : State) (hev : MayRaise P) (h_free : P.free = true)
    (h_fus : P.fus = true) (h_sched : P.sched = true) (r_FUS_EST : P.Has .FUS_EST) (r_FUS_IN_V : P.Has .FUS_IN_V)
    (r_FUS_PUBCNT : P.Has .FUS_PUBCNT) (r_SCH_UNCOMCNT : P.Has .SCH_UNCOMCNT) (h' : execFusionPublication s = .next
    t') : forget P t' = forget P s := by
  unfold execFusionPublication at h'
  injection h' with h'; subst h'
  try dsimp only
  (repeat' split) <;> first | with_reducible rfl | simp only [fusionPublication_forget, Nat.reduceLT, ite_forget,
      ite_self, hev, hev.rcd, hev.fresh, hev.evt, h_free, h_fus, h_sched, r_FUS_EST, r_FUS_IN_V, r_FUS_PUBCNT,
      r_SCH_UNCOMCNT, Fin.is_lt]

theorem execScheduleCommit_forget (P : Parts) (i : Fin 256) (n : Fin 24) (s : State) (t' : State) (h_free : P.free =
    true) (h_sched : P.sched = true) (h' : execScheduleCommit i n s = .next t') : forget P t' = forget P s := by
  unfold execScheduleCommit at h'
  injection h' with h'; subst h'
  try dsimp only
  (repeat' split) <;> first | with_reducible rfl | simp only [scheduleCommit_forget, Nat.reduceLT, ite_forget,
      ite_self, h_free, h_sched, Fin.is_lt]

theorem execScheduleFire_forget (P : Parts) (at' : Fin 200) (i : Fin 256) (n : Fin 24) (s : State) (t' : State) (hev :
    MayRaise P) (h_free : P.free = true) (h_tim : P.tim = true) (h_hb : P.hb = true) (h_sched : P.sched = true)
    (r_AX_CUR_SET : P.Has .AX_CUR_SET) (r_AX_GS_CTL : P.Has .AX_GS_CTL) (r_AX_GS_RATE : P.Has .AX_GS_RATE)
    (r_IMG_LIMLAST : P.Has .IMG_LIMLAST) (r_IMG_LIMSAT : P.Has .IMG_LIMSAT) (r_PWM_ARMREP : P.Has .PWM_ARMREP)
    (r_PWM_CMP : P.Has .PWM_CMP) (r_PWM_FORCE : P.Has .PWM_FORCE) (r_SCH_LAST : P.Has .SCH_LAST) (r_SCH_LATECNT :
    P.Has .SCH_LATECNT) (r_SCH_STATE_HI : P.Has .SCH_STATE_HI) (r_SCH_STATE_LO : P.Has .SCH_STATE_LO) (h' :
    execScheduleFire at' i n s = .next t') : forget P t' = forget P s := by
  unfold execScheduleFire at h'
  injection h' with h'; subst h'
  try dsimp only
  (repeat' split) <;> first | with_reducible rfl | simp only [scheduleFire_forget, Nat.reduceLT, ite_forget, ite_self,
      hev, hev.rcd, hev.fresh, hev.evt, h_free, h_tim, h_hb, h_sched, r_AX_CUR_SET, r_AX_GS_CTL, r_AX_GS_RATE,
      r_IMG_LIMLAST, r_IMG_LIMSAT, r_PWM_ARMREP, r_PWM_CMP, r_PWM_FORCE, r_SCH_LAST, r_SCH_LATECNT, r_SCH_STATE_HI,
      r_SCH_STATE_LO, Fin.is_lt]

theorem execSchedLateFire_forget (P : Parts) (at' : Fin 200) (i : Fin 256) (n : Fin 24) (s : State) (t' : State) (hev
    : MayRaise P) (h_free : P.free = true) (h_tim : P.tim = true) (h_hb : P.hb = true) (h_sched : P.sched = true)
    (r_AX_CUR_SET : P.Has .AX_CUR_SET) (r_AX_GS_CTL : P.Has .AX_GS_CTL) (r_AX_GS_RATE : P.Has .AX_GS_RATE)
    (r_IMG_LIMLAST : P.Has .IMG_LIMLAST) (r_IMG_LIMSAT : P.Has .IMG_LIMSAT) (r_PWM_ARMREP : P.Has .PWM_ARMREP)
    (r_PWM_CMP : P.Has .PWM_CMP) (r_PWM_FORCE : P.Has .PWM_FORCE) (r_SCH_LAST : P.Has .SCH_LAST) (r_SCH_LATECNT :
    P.Has .SCH_LATECNT) (r_SCH_STATE_HI : P.Has .SCH_STATE_HI) (r_SCH_STATE_LO : P.Has .SCH_STATE_LO) (h' :
    execSchedLateFire at' i n s = .next t') : forget P t' = forget P s := by
  unfold execSchedLateFire at h'
  injection h' with h'; subst h'
  try dsimp only
  (repeat' split) <;> first | with_reducible rfl | simp only [schedLateFire_forget, Nat.reduceLT, ite_forget,
      ite_self, hev, hev.rcd, hev.fresh, hev.evt, h_free, h_tim, h_hb, h_sched, r_AX_CUR_SET, r_AX_GS_CTL,
      r_AX_GS_RATE, r_IMG_LIMLAST, r_IMG_LIMSAT, r_PWM_ARMREP, r_PWM_CMP, r_PWM_FORCE, r_SCH_LAST, r_SCH_LATECNT,
      r_SCH_STATE_HI, r_SCH_STATE_LO, Fin.is_lt]

theorem execScheduleInsert_forget (P : Parts) (d : Word) (s : State) (t' : State) (hrec : MayRecord P) (h_free :
    P.free = true) (h_clk : P.clk = true) (h_link : P.link = true) (h_ops : P.ops = true) (h_can : P.can = true)
    (h_tim : P.tim = true) (h_hb : P.hb = true) (h_bank : P.bank = true) (h_ax : P.ax = true) (h_fus : P.fus = true)
    (h_sched : P.sched = true) (h_sol : P.sol = true) (h_img : P.img = true) (h_pwr : P.pwr = true) (h_store : P.store
    = true) (h_pair : P.pair = true) (h_safe : P.safe = true) (h_win : P.win = true) (h_all : ∀ b, b ∈ P.blks) (h' :
    execScheduleInsert d s = .next t') : forget P t' = forget P s := by
  unfold execScheduleInsert at h'
  injection h' with h'; subst h'
  try dsimp only
  (repeat' split) <;> first | with_reducible rfl | simp only [hostWord_forget, implies_true, Nat.reduceLT, ite_forget,
      ite_self, hrec, hrec.queue.raises, hrec.queue, hrec.recs, h_free, h_clk, h_link, h_ops, h_can, h_tim, h_hb,
      h_bank, h_ax, h_fus, h_sched, h_sol, h_img, h_pwr, h_store, h_pair, h_safe, h_win, h_all, Fin.is_lt]

theorem execSchSectOn_forget (P : Parts) (at' : Fin 200) (s : State) (t' : State) (hev : MayRaise P) (h_tim : P.tim =
    true) (h_hb : P.hb = true) (r_AX_CUR_SET : P.Has .AX_CUR_SET) (r_AX_GS_CTL : P.Has .AX_GS_CTL) (r_AX_GS_RATE :
    P.Has .AX_GS_RATE) (r_IMG_LIMLAST : P.Has .IMG_LIMLAST) (r_IMG_LIMSAT : P.Has .IMG_LIMSAT) (r_PWM_ARMREP : P.Has
    .PWM_ARMREP) (r_PWM_CMP : P.Has .PWM_CMP) (r_PWM_FORCE : P.Has .PWM_FORCE) (r_SCH_STATE_HI : P.Has .SCH_STATE_HI)
    (r_SCH_STATE_LO : P.Has .SCH_STATE_LO) (h' : execSchSectOn at' s = .next t') : forget P t' = forget P s := by
  unfold execSchSectOn at h'
  injection h' with h'; subst h'
  unfold State.whenHost
  try dsimp only
  (repeat' split) <;> first | with_reducible rfl | simp only [schSect_forget, Nat.reduceLT, ite_forget, ite_self, hev,
      hev.rcd, hev.fresh, hev.evt, h_tim, h_hb, r_AX_CUR_SET, r_AX_GS_CTL, r_AX_GS_RATE, r_IMG_LIMLAST, r_IMG_LIMSAT,
      r_PWM_ARMREP, r_PWM_CMP, r_PWM_FORCE, r_SCH_STATE_HI, r_SCH_STATE_LO, Fin.is_lt]

theorem execSchSectOff_forget (P : Parts) (at' : Fin 200) (s : State) (t' : State) (hev : MayRaise P) (h_tim : P.tim =
    true) (h_hb : P.hb = true) (r_AX_CUR_SET : P.Has .AX_CUR_SET) (r_AX_GS_CTL : P.Has .AX_GS_CTL) (r_AX_GS_RATE :
    P.Has .AX_GS_RATE) (r_IMG_LIMLAST : P.Has .IMG_LIMLAST) (r_IMG_LIMSAT : P.Has .IMG_LIMSAT) (r_PWM_ARMREP : P.Has
    .PWM_ARMREP) (r_PWM_CMP : P.Has .PWM_CMP) (r_PWM_FORCE : P.Has .PWM_FORCE) (r_SCH_STATE_HI : P.Has .SCH_STATE_HI)
    (r_SCH_STATE_LO : P.Has .SCH_STATE_LO) (h' : execSchSectOff at' s = .next t') : forget P t' = forget P s := by
  unfold execSchSectOff at h'
  injection h' with h'; subst h'
  unfold State.whenHost
  try dsimp only
  (repeat' split) <;> first | with_reducible rfl | simp only [schSect_forget, Nat.reduceLT, ite_forget, ite_self, hev,
      hev.rcd, hev.fresh, hev.evt, h_tim, h_hb, r_AX_CUR_SET, r_AX_GS_CTL, r_AX_GS_RATE, r_IMG_LIMLAST, r_IMG_LIMSAT,
      r_PWM_ARMREP, r_PWM_CMP, r_PWM_FORCE, r_SCH_STATE_HI, r_SCH_STATE_LO, Fin.is_lt]

theorem execSchSectRate_forget (P : Parts) (at' : Fin 200) (s : State) (t' : State) (hev : MayRaise P) (h_tim : P.tim
    = true) (h_hb : P.hb = true) (r_AX_CUR_SET : P.Has .AX_CUR_SET) (r_AX_GS_CTL : P.Has .AX_GS_CTL) (r_AX_GS_RATE :
    P.Has .AX_GS_RATE) (r_IMG_LIMLAST : P.Has .IMG_LIMLAST) (r_IMG_LIMSAT : P.Has .IMG_LIMSAT) (r_PWM_ARMREP : P.Has
    .PWM_ARMREP) (r_PWM_CMP : P.Has .PWM_CMP) (r_PWM_FORCE : P.Has .PWM_FORCE) (r_SCH_STATE_HI : P.Has .SCH_STATE_HI)
    (r_SCH_STATE_LO : P.Has .SCH_STATE_LO) (h' : execSchSectRate at' s = .next t') : forget P t' = forget P s := by
  unfold execSchSectRate at h'
  injection h' with h'; subst h'
  unfold State.whenHost
  try dsimp only
  (repeat' split) <;> first | with_reducible rfl | simp only [schSect_forget, Nat.reduceLT, ite_forget, ite_self, hev,
      hev.rcd, hev.fresh, hev.evt, h_tim, h_hb, r_AX_CUR_SET, r_AX_GS_CTL, r_AX_GS_RATE, r_IMG_LIMLAST, r_IMG_LIMSAT,
      r_PWM_ARMREP, r_PWM_CMP, r_PWM_FORCE, r_SCH_STATE_HI, r_SCH_STATE_LO, Fin.is_lt]

theorem execSchCancel_forget (P : Parts) (i : Fin 256) (s : State) (t' : State) (h_sched : P.sched = true) (h' :
    execSchCancel i s = .next t') : forget P t' = forget P s := by
  unfold execSchCancel at h'
  injection h' with h'; subst h'
  unfold State.whenHost
  try dsimp only
  (repeat' split) <;> first | with_reducible rfl | simp only [schCancel_forget, Nat.reduceLT, ite_forget, ite_self,
      h_sched, Fin.is_lt]

theorem execSchCancelAll_forget (P : Parts) (s : State) (t' : State) (h_sched : P.sched = true) (h' : execSchCancelAll
    s = .next t') : forget P t' = forget P s := by
  unfold execSchCancelAll at h'
  injection h' with h'; subst h'
  unfold State.whenHost
  try dsimp only
  (repeat' split) <;> first | with_reducible rfl | simp only [clearQueue_forget, Nat.reduceLT, ite_forget, ite_self,
      h_sched, Fin.is_lt]

theorem execSeedEdge_forget (P : Parts) (x : SeedPulse) (s : State) (t' : State) (hev :
    MayRaise P) (h_sol : P.sol = true) (r_SOL_SEEDOVF : P.Has .SOL_SEEDOVF) (h' : execSeedEdge x s = .next
    t') : forget P t' = forget P s := by
  unfold execSeedEdge at h'
  injection h' with h'; subst h'
  try dsimp only
  (repeat' split) <;> first | with_reducible rfl | simp only [seedEdge_forget, Nat.reduceLT, ite_forget, ite_self,
      hev, hev.rcd, hev.fresh, hev.evt, h_sol, r_SOL_SEEDOVF, Fin.is_lt]

theorem execAssociationEpochClose_forget (P : Parts) (s : State) (t' : State) (hev : MayRaise P) (h_sol : P.sol =
    true) (r_SOL_BATCHOVF : P.Has .SOL_BATCHOVF) (r_SOL_LATECNT : P.Has .SOL_LATECNT) (h' : execAssociationEpochClose
    s = .next t') : forget P t' = forget P s := by
  unfold execAssociationEpochClose at h'
  injection h' with h'; subst h'
  try dsimp only
  (repeat' split) <;> first | with_reducible rfl | simp only [epochClose_forget, Nat.reduceLT, ite_forget, ite_self,
      hev, hev.rcd, hev.fresh, hev.evt, h_sol, r_SOL_BATCHOVF, r_SOL_LATECNT, Fin.is_lt]

theorem execSolveStart_forget (P : Parts) (s : State) (t' : State) (h_sol : P.sol = true) (h' : execSolveStart s =
    .next t') : forget P t' = forget P s := by
  unfold execSolveStart at h'
  injection h' with h'; subst h'
  try dsimp only
  (repeat' split) <;> first | with_reducible rfl | simp only [solveStart_forget, Nat.reduceLT, ite_forget, ite_self,
      h_sol, Fin.is_lt]

theorem execSolveDone_forget (P : Parts) (ok : Bool) (dur : Word) (s : State) (t' : State) (hev : MayRaise P) (h_free
    : P.free = true) (h_sol : P.sol = true) (r_SOL_CNT : P.Has .SOL_CNT) (r_SOL_EPOCHCNT : P.Has .SOL_EPOCHCNT)
    (r_SOL_EXPOVF : P.Has .SOL_EXPOVF) (r_SOL_FAULTCNT : P.Has .SOL_FAULTCNT) (r_SOL_HIST : P.Has .SOL_HIST)
    (r_SOL_LAST_ERR : P.Has .SOL_LAST_ERR) (r_SOL_LAST_M : P.Has .SOL_LAST_M) (r_SOL_LAST_N : P.Has .SOL_LAST_N)
    (r_SOL_LAST_RMS : P.Has .SOL_LAST_RMS) (r_SOL_RATES : P.Has .SOL_RATES) (r_SOL_RSTAT : P.Has .SOL_RSTAT)
    (r_SOL_RUNSKIP : P.Has .SOL_RUNSKIP) (r_SOL_SEEDOVF : P.Has .SOL_SEEDOVF) (r_SOL_TMAX : P.Has .SOL_TMAX)
    (r_SOL_TRACE_E : P.Has .SOL_TRACE_E) (r_SOL_TRACE_N : P.Has .SOL_TRACE_N) (r_SOL_TRACE_O : P.Has .SOL_TRACE_O)
    (r_SOL_WINCNT : P.Has .SOL_WINCNT) (h' : execSolveDone ok dur s = .next t') : forget P t' = forget P s := by
  unfold execSolveDone at h'
  injection h' with h'; subst h'
  try dsimp only
  (repeat' split) <;> first | with_reducible rfl | simp only [solveDone_forget, Nat.reduceLT, ite_forget, ite_self,
      hev, hev.rcd, hev.fresh, hev.evt, h_free, h_sol, r_SOL_CNT, r_SOL_EPOCHCNT, r_SOL_EXPOVF, r_SOL_FAULTCNT,
      r_SOL_HIST, r_SOL_LAST_ERR, r_SOL_LAST_M, r_SOL_LAST_N, r_SOL_LAST_RMS, r_SOL_RATES, r_SOL_RSTAT, r_SOL_RUNSKIP,
      r_SOL_SEEDOVF, r_SOL_TMAX, r_SOL_TRACE_E, r_SOL_TRACE_N, r_SOL_TRACE_O, r_SOL_WINCNT, Fin.is_lt]

theorem execSolverStoreCleared_forget (P : Parts) (s : State) (t' : State) (h_sol : P.sol = true) (h' :
    execSolverStoreCleared s = .next t') : forget P t' = forget P s := by
  unfold execSolverStoreCleared at h'
  injection h' with h'; subst h'
  try dsimp only
  (repeat' split) <;> first | with_reducible rfl | simp only [modSol_forget, Nat.reduceLT, ite_forget, ite_self,
      h_sol, Fin.is_lt]

theorem execSolClrCounters_forget (P : Parts) (r : Fin 24) (s : State) (t' : State) (r_SOL_CNT : P.Has .SOL_CNT) (h' :
    execSolClrCounters r s = .next t') : forget P t' = forget P s := by
  unfold execSolClrCounters at h'
  injection h' with h'; subst h'
  unfold State.whenHost
  try dsimp only
  (repeat' split) <;> first | with_reducible rfl | simp only [solClrCounters_forget, Nat.reduceLT, ite_forget,
      ite_self, r_SOL_CNT, Fin.is_lt]

theorem execSolClrWindow_forget (P : Parts) (r : Fin 24) (s : State) (t' : State) (h_sol : P.sol = true) (h' :
    execSolClrWindow r s = .next t') : forget P t' = forget P s := by
  unfold execSolClrWindow at h'
  injection h' with h'; subst h'
  unfold State.whenHost
  try dsimp only
  (repeat' split) <;> first | with_reducible rfl | simp only [solClrWindow_forget, Nat.reduceLT, ite_forget, ite_self,
      h_sol, Fin.is_lt]

theorem execEvtStatClear_forget (P : Parts) (g : Fin 8) (d : Word) (s : State) (t' : State) (r_EVT_STAT : P.Has
    .EVT_STAT) (h' : execEvtStatClear g d s = .next t') : forget P t' = forget P s := by
  unfold execEvtStatClear at h'
  injection h' with h'; subst h'
  unfold State.whenHost
  try dsimp only
  (repeat' split) <;> first | with_reducible rfl | simp only [evtStatClear_forget, Nat.reduceLT, ite_forget, ite_self,
      r_EVT_STAT, Fin.is_lt]

theorem execRecordWrite_forget (P : Parts) (s : State) (t' : State) (hrec : MayRecord P) (h' : execRecordWrite s =
    .next t') : forget P t' = forget P s := by
  unfold execRecordWrite at h'
  injection h' with h'; subst h'
  unfold State.whenUp
  try dsimp only
  (repeat' split) <;> first | with_reducible rfl | simp only [writeDue_forget, Nat.reduceLT, ite_forget, ite_self,
      hrec, hrec.queue.raises, hrec.queue, hrec.recs, Fin.is_lt]

theorem execRecorderFreeze_forget (P : Parts) (s : State) (t' : State) (h_rcd : P.rcd = true) (h' : execRecorderFreeze
    s = .next t') : forget P t' = forget P s := by
  unfold execRecorderFreeze at h'
  injection h' with h'; subst h'
  unfold State.whenHost
  try dsimp only
  (repeat' split) <;> first | with_reducible rfl | simp only [recFreeze_forget, Nat.reduceLT, ite_forget, ite_self,
      h_rcd, Fin.is_lt]

theorem execRecorderThaw_forget (P : Parts) (s : State) (t' : State) (hrec : MayRecord P) (h' : execRecorderThaw s =
    .next t') : forget P t' = forget P s := by
  unfold execRecorderThaw at h'
  injection h' with h'; subst h'
  unfold State.whenHost
  try dsimp only
  (repeat' split) <;> first | with_reducible rfl | simp only [thaw_forget, Nat.reduceLT, ite_forget, ite_self, hrec,
      hrec.queue.raises, hrec.queue, hrec.recs, Fin.is_lt]

theorem execFreezeTimeout_forget (P : Parts) (s : State) (t' : State) (hrec : MayRecord P) (h' : execFreezeTimeout s =
    .next t') : forget P t' = forget P s := by
  unfold execFreezeTimeout at h'
  injection h' with h'; subst h'
  unfold State.whenUp
  try dsimp only
  (repeat' split) <;> first | with_reducible rfl | simp only [thaw_forget, Nat.reduceLT, ite_forget, ite_self, hrec,
      hrec.queue.raises, hrec.queue, hrec.recs, Fin.is_lt]

theorem execHoldFifoDrain_forget (P : Parts) (s : State) (t' : State) (hrec : MayRecord P) (h' : execHoldFifoDrain s =
    .next t') : forget P t' = forget P s := by
  unfold execHoldFifoDrain at h'
  injection h' with h'; subst h'
  unfold State.whenUp
  try dsimp only
  (repeat' split) <;> first | with_reducible rfl | simp only [drain_forget, Nat.reduceLT, ite_forget, ite_self, hrec,
      hrec.queue.raises, hrec.queue, hrec.recs, Fin.is_lt]

theorem execRecClr_forget (P : Parts) (s : State) (t' : State) (hrec : MayRecord P) (h' : execRecClr s = .next t') :
    forget P t' = forget P s := by
  unfold execRecClr at h'
  injection h' with h'; subst h'
  unfold State.whenHost
  try dsimp only
  (repeat' split) <;> first | with_reducible rfl | simp only [recClr_forget, Nat.reduceLT, ite_forget, ite_self, hrec,
      hrec.queue.raises, hrec.queue, hrec.recs, Fin.is_lt]

theorem execHostMark_forget (P : Parts) (d : Word) (s : State) (t' : State) (hev : MayRaise P) (h' : execHostMark d s
    = .next t') : forget P t' = forget P s := by
  unfold execHostMark at h'
  injection h' with h'; subst h'
  unfold State.whenHost
  try dsimp only
  (repeat' split) <;> first | with_reducible rfl | simp only [hostMark_forget, Nat.reduceLT, ite_forget, ite_self,
      hev, hev.rcd, hev.fresh, hev.evt, Fin.is_lt]

theorem execVmainFail_forget (P : Parts) (at' : Fin 200) (vmain vbak : Word) (s : State) (t' : State) (hrec :
    MayRecord P) (h_free : P.free = true) (h_ops : P.ops = true) (h_tim : P.tim = true) (h_hb : P.hb = true) (h_bank :
    P.bank = true) (h_ax : P.ax = true) (h_img : P.img = true) (h_pwr : P.pwr = true) (h_store : P.store = true)
    (h_pair : P.pair = true) (h_mem : P.mem = true) (r_GATE_BSTUVCNT : P.Has .GATE_BSTUVCNT) (r_GATE_FLT : P.Has
    .GATE_FLT) (r_PROT_AXSTAT : P.Has .PROT_AXSTAT) (r_PWR_ESTORED : P.Has .PWR_ESTORED) (r_PWR_LOSSCNT : P.Has
    .PWR_LOSSCNT) (r_PWR_VBAK : P.Has .PWR_VBAK) (r_PWR_VMAIN : P.Has .PWR_VMAIN) (h' : execVmainFail at' vmain vbak s
    = .next t') : forget P t' = forget P s := by
  unfold execVmainFail at h'
  injection h' with h'; subst h'
  try dsimp only
  (repeat' split) <;> first | with_reducible rfl | simp only [vmainFail_forget, Nat.reduceLT, ite_forget, ite_self,
      hrec, hrec.queue.raises, hrec.queue, hrec.recs, h_free, h_ops, h_tim, h_hb, h_bank, h_ax, h_img, h_pwr, h_store,
      h_pair, h_mem, r_GATE_BSTUVCNT, r_GATE_FLT, r_PROT_AXSTAT, r_PWR_ESTORED, r_PWR_LOSSCNT, r_PWR_VBAK,
      r_PWR_VMAIN, Fin.is_lt]

theorem execHandoverStep_forget (P : Parts) (at' : Fin 200) (s : State) (t' : State) (hev : MayRaise P) (h_free :
    P.free = true) (h_ops : P.ops = true) (h_can : P.can = true) (h_tim : P.tim = true) (h_hb : P.hb = true) (h_bank :
    P.bank = true) (h_ax : P.ax = true) (h_fus : P.fus = true) (h_sched : P.sched = true) (h_sol : P.sol = true)
    (h_pwr : P.pwr = true) (h_pair : P.pair = true) (r_GATE_BSTUVCNT : P.Has .GATE_BSTUVCNT) (r_GATE_FLT : P.Has
    .GATE_FLT) (r_PROT_AXSTAT : P.Has .PROT_AXSTAT) (h' : execHandoverStep at' s = .next t') : forget P t' = forget P
    s := by
  unfold execHandoverStep at h'
  injection h' with h'; subst h'
  try dsimp only
  (repeat' split) <;> first | with_reducible rfl | simp only [handStep_forget, Nat.reduceLT, ite_forget, ite_self,
      hev, hev.rcd, hev.fresh, hev.evt, h_free, h_ops, h_can, h_tim, h_hb, h_bank, h_ax, h_fus, h_sched, h_sol, h_pwr,
      h_pair, r_GATE_BSTUVCNT, r_GATE_FLT, r_PROT_AXSTAT, Fin.is_lt]

theorem execCriticalWindowEnd_forget (P : Parts) (s : State) (t' : State) (hrec : MayRecord P) (h_free : P.free =
    true) (h_clk : P.clk = true) (h_ops : P.ops = true) (h_can : P.can = true) (h_tim : P.tim = true) (h_hb : P.hb =
    true) (h_bank : P.bank = true) (h_ax : P.ax = true) (h_fus : P.fus = true) (h_sched : P.sched = true) (h_sol :
    P.sol = true) (h_img : P.img = true) (h_pwr : P.pwr = true) (h_store : P.store = true) (h_pair : P.pair = true)
    (h_safe : P.safe = true) (h_lands : P.lands = true) (h_win : P.win = true) (b_evt : Blk.evt ∈ P.blks)
    (r_GATE_BSTUVCNT : P.Has .GATE_BSTUVCNT) (r_GATE_FLT : P.Has .GATE_FLT) (r_PROT_AXSTAT : P.Has .PROT_AXSTAT)
    (r_PWR_DOM_REQ : P.Has .PWR_DOM_REQ) (r_PWR_LASTBNC : P.Has .PWR_LASTBNC) (r_PWR_LASTOUT : P.Has .PWR_LASTOUT)
    (r_PWR_START : P.Has .PWR_START) (r_SAFE_FLTEN : P.Has .SAFE_FLTEN) (r_SAFE_WDCFG : P.Has .SAFE_WDCFG)
    (r_STORE_JLOST : P.Has .STORE_JLOST) (r_SYS_BOOT : P.Has .SYS_BOOT) (h' : execCriticalWindowEnd s = .next t') :
    forget P t' = forget P s := by
  unfold execCriticalWindowEnd at h'
  injection h' with h'; subst h'
  try dsimp only
  (repeat' split) <;> first | with_reducible rfl | simp only [criticalWindowEnd_forget, Nat.reduceLT, ite_forget,
      ite_self, hrec, hrec.queue.raises, hrec.queue, hrec.recs, h_free, h_clk, h_ops, h_can, h_tim, h_hb, h_bank,
      h_ax, h_fus, h_sched, h_sol, h_img, h_pwr, h_store, h_pair, h_safe, h_lands, h_win, b_evt, r_GATE_BSTUVCNT,
      r_GATE_FLT, r_PROT_AXSTAT, r_PWR_DOM_REQ, r_PWR_LASTBNC, r_PWR_LASTOUT, r_PWR_START, r_SAFE_FLTEN, r_SAFE_WDCFG,
      r_STORE_JLOST, r_SYS_BOOT, Fin.is_lt]

theorem execFlushEnd_forget (P : Parts) (s : State) (t' : State) (hrec : MayRecord P) (h_free : P.free = true) (h_clk
    : P.clk = true) (h_ops : P.ops = true) (h_can : P.can = true) (h_tim : P.tim = true) (h_hb : P.hb = true) (h_bank
    : P.bank = true) (h_ax : P.ax = true) (h_fus : P.fus = true) (h_sched : P.sched = true) (h_sol : P.sol = true)
    (h_img : P.img = true) (h_pwr : P.pwr = true) (h_store : P.store = true) (h_pair : P.pair = true) (h_safe : P.safe
    = true) (h_lands : P.lands = true) (h_win : P.win = true) (b_evt : Blk.evt ∈ P.blks) (r_GATE_BSTUVCNT : P.Has
    .GATE_BSTUVCNT) (r_GATE_FLT : P.Has .GATE_FLT) (r_PROT_AXSTAT : P.Has .PROT_AXSTAT) (r_PWR_DOM_REQ : P.Has
    .PWR_DOM_REQ) (r_PWR_FLUSHT : P.Has .PWR_FLUSHT) (r_PWR_LASTBNC : P.Has .PWR_LASTBNC) (r_PWR_LASTOUT : P.Has
    .PWR_LASTOUT) (r_PWR_START : P.Has .PWR_START) (r_SAFE_FLTEN : P.Has .SAFE_FLTEN) (r_SAFE_WDCFG : P.Has
    .SAFE_WDCFG) (r_STORE_JLOST : P.Has .STORE_JLOST) (r_SYS_BOOT : P.Has .SYS_BOOT) (h' : execFlushEnd s = .next t')
    : forget P t' = forget P s := by
  unfold execFlushEnd at h'
  injection h' with h'; subst h'
  try dsimp only
  (repeat' split) <;> first | with_reducible rfl | simp only [flushEnd_forget, Nat.reduceLT, ite_forget, ite_self,
      hrec, hrec.queue.raises, hrec.queue, hrec.recs, h_free, h_clk, h_ops, h_can, h_tim, h_hb, h_bank, h_ax, h_fus,
      h_sched, h_sol, h_img, h_pwr, h_store, h_pair, h_safe, h_lands, h_win, b_evt, r_GATE_BSTUVCNT, r_GATE_FLT,
      r_PROT_AXSTAT, r_PWR_DOM_REQ, r_PWR_FLUSHT, r_PWR_LASTBNC, r_PWR_LASTOUT, r_PWR_START, r_SAFE_FLTEN,
      r_SAFE_WDCFG, r_STORE_JLOST, r_SYS_BOOT, Fin.is_lt]

theorem execVmainOkRise_forget (P : Parts) (s : State) (t' : State) (h_pwr : P.pwr = true) (h' : execVmainOkRise s =
    .next t') : forget P t' = forget P s := by
  unfold execVmainOkRise at h'
  injection h' with h'; subst h'
  try dsimp only
  (repeat' split) <;> first | with_reducible rfl | simp only [vmainOkRise_forget, Nat.reduceLT, ite_forget, ite_self,
      h_pwr, Fin.is_lt]

theorem execVmainBounce_forget (P : Parts) (s : State) (t' : State) (hev : MayRaise P) (h_free : P.free = true) (h_clk
    : P.clk = true) (h_ops : P.ops = true) (h_can : P.can = true) (h_tim : P.tim = true) (h_hb : P.hb = true) (h_bank
    : P.bank = true) (h_ax : P.ax = true) (h_fus : P.fus = true) (h_sched : P.sched = true) (h_sol : P.sol = true)
    (h_img : P.img = true) (h_pwr : P.pwr = true) (h_store : P.store = true) (h_pair : P.pair = true) (h_lands :
    P.lands = true) (h_win : P.win = true) (r_GATE_BSTUVCNT : P.Has .GATE_BSTUVCNT) (r_GATE_FLT : P.Has .GATE_FLT)
    (r_PWR_BOUNCECNT : P.Has .PWR_BOUNCECNT) (r_PWR_DOM_REQ : P.Has .PWR_DOM_REQ) (r_STORE_JLOST : P.Has .STORE_JLOST)
    (h' : execVmainBounce s = .next t') : forget P t' = forget P s := by
  unfold execVmainBounce at h'
  injection h' with h'; subst h'
  try dsimp only
  (repeat' split) <;> first | with_reducible rfl | simp only [vmainBounce_forget, Nat.reduceLT, ite_forget, ite_self,
      hev, hev.rcd, hev.fresh, hev.evt, h_free, h_clk, h_ops, h_can, h_tim, h_hb, h_bank, h_ax, h_fus, h_sched, h_sol,
      h_img, h_pwr, h_store, h_pair, h_lands, h_win, r_GATE_BSTUVCNT, r_GATE_FLT, r_PWR_BOUNCECNT, r_PWR_DOM_REQ,
      r_STORE_JLOST, Fin.is_lt]

theorem execDwellComplete_forget (P : Parts) (s : State) (t' : State) (hrec : MayRecord P) (h_free : P.free = true)
    (h_clk : P.clk = true) (h_link : P.link = true) (h_ops : P.ops = true) (h_can : P.can = true) (h_tim : P.tim =
    true) (h_hb : P.hb = true) (h_bank : P.bank = true) (h_ax : P.ax = true) (h_fus : P.fus = true) (h_sched : P.sched
    = true) (h_sol : P.sol = true) (h_img : P.img = true) (h_pwr : P.pwr = true) (h_store : P.store = true) (h_pair :
    P.pair = true) (h_safe : P.safe = true) (h_lands : P.lands = true) (h_all : ∀ b, b ∈ P.blks) (h' :
    execDwellComplete s = .next t') : forget P t' = forget P s := by
  unfold execDwellComplete at h'
  injection h' with h'; subst h'
  try dsimp only
  (repeat' split) <;> first | with_reducible rfl | simp only [corePowerOn_forget, warmRestart_forget, implies_true,
      has_all h_all, Nat.reduceLT, ite_forget, ite_self, hrec, hrec.queue.raises, hrec.queue, hrec.recs, h_free,
      h_clk, h_link, h_ops, h_can, h_tim, h_hb, h_bank, h_ax, h_fus, h_sched, h_sol, h_img, h_pwr, h_store, h_pair,
      h_safe, h_lands, h_all, Fin.is_lt]

theorem execVbakMinLoss_forget (P : Parts) (s : State) (t' : State) (hev : MayRaise P) (h_free : P.free = true) (h_clk
    : P.clk = true) (h_ops : P.ops = true) (h_can : P.can = true) (h_tim : P.tim = true) (h_hb : P.hb = true) (h_bank
    : P.bank = true) (h_ax : P.ax = true) (h_fus : P.fus = true) (h_sched : P.sched = true) (h_sol : P.sol = true)
    (h_img : P.img = true) (h_pwr : P.pwr = true) (h_store : P.store = true) (h_pair : P.pair = true) (h_lands :
    P.lands = true) (h_win : P.win = true) (r_GATE_BSTUVCNT : P.Has .GATE_BSTUVCNT) (r_GATE_FLT : P.Has .GATE_FLT)
    (r_PROT_AXSTAT : P.Has .PROT_AXSTAT) (r_PWR_DOM_REQ : P.Has .PWR_DOM_REQ) (r_STORE_JLOST : P.Has .STORE_JLOST) (h'
    : execVbakMinLoss s = .next t') : forget P t' = forget P s := by
  unfold execVbakMinLoss at h'
  injection h' with h'; subst h'
  try dsimp only
  (repeat' split) <;> first | with_reducible rfl | simp only [vbakMinLoss_forget, Nat.reduceLT, ite_forget, ite_self,
      hev, hev.rcd, hev.fresh, hev.evt, h_free, h_clk, h_ops, h_can, h_tim, h_hb, h_bank, h_ax, h_fus, h_sched, h_sol,
      h_img, h_pwr, h_store, h_pair, h_lands, h_win, r_GATE_BSTUVCNT, r_GATE_FLT, r_PROT_AXSTAT, r_PWR_DOM_REQ,
      r_STORE_JLOST, Fin.is_lt]

theorem execBankHoldEnd_forget (P : Parts) (at' : Fin 200) (b : Fin 8) (s : State) (t' : State) (hev : MayRaise P)
    (h_tim : P.tim = true) (h_hb : P.hb = true) (h_bank : P.bank = true) (h_ax : P.ax = true) (r_GATE_BSTUVCNT : P.Has
    .GATE_BSTUVCNT) (r_GATE_FLT : P.Has .GATE_FLT) (r_PROT_AXSTAT : P.Has .PROT_AXSTAT) (h' : execBankHoldEnd at' b s
    = .next t') : forget P t' = forget P s := by
  unfold execBankHoldEnd at h'
  injection h' with h'; subst h'
  try dsimp only
  (repeat' split) <;> first | with_reducible rfl | simp only [endHold_forget, Nat.reduceLT, ite_forget, ite_self, hev,
      hev.rcd, hev.fresh, hev.evt, h_tim, h_hb, h_bank, h_ax, r_GATE_BSTUVCNT, r_GATE_FLT, r_PROT_AXSTAT, Fin.is_lt]

theorem execStoreMountDone_forget (P : Parts) (s : State) (t' : State) (hev : MayRaise P) (h_store : P.store = true)
    (r_STORE_ERRCNT : P.Has .STORE_ERRCNT) (r_STORE_ERRLAST : P.Has .STORE_ERRLAST) (r_STORE_JEVN : P.Has .STORE_JEVN)
    (h' : execStoreMountDone s = .next t') : forget P t' = forget P s := by
  unfold execStoreMountDone at h'
  injection h' with h'; subst h'
  try dsimp only
  (repeat' split) <;> first | with_reducible rfl | simp only [storeMount_forget, Nat.reduceLT, ite_forget, ite_self,
      hev, hev.rcd, hev.fresh, hev.evt, h_store, r_STORE_ERRCNT, r_STORE_ERRLAST, r_STORE_JEVN, Fin.is_lt]

theorem execDomainSwitchOn_forget (P : Parts) (at' : Fin 200) (dom : Fin 12) (s : State) (t' : State) (hev : MayRaise
    P) (h_free : P.free = true) (h_ops : P.ops = true) (h_can : P.can = true) (h_tim : P.tim = true) (h_hb : P.hb =
    true) (h_bank : P.bank = true) (h_ax : P.ax = true) (h_fus : P.fus = true) (h_sched : P.sched = true) (h_sol :
    P.sol = true) (h_pwr : P.pwr = true) (h_pair : P.pair = true) (r_GATE_BSTUVCNT : P.Has .GATE_BSTUVCNT) (r_GATE_FLT
    : P.Has .GATE_FLT) (r_PWR_DOM_REQ : P.Has .PWR_DOM_REQ) (h' : execDomainSwitchOn at' dom s = .next t') : forget P
    t' = forget P s := by
  unfold execDomainSwitchOn at h'
  injection h' with h'; subst h'
  unfold State.whenHost
  try dsimp only
  (repeat' split) <;> first | with_reducible rfl | simp only [writeDomReq_forget, Nat.reduceLT, ite_forget, ite_self,
      hev, hev.rcd, hev.fresh, hev.evt, h_free, h_ops, h_can, h_tim, h_hb, h_bank, h_ax, h_fus, h_sched, h_sol, h_pwr,
      h_pair, r_GATE_BSTUVCNT, r_GATE_FLT, r_PWR_DOM_REQ, Fin.is_lt]

theorem execDomainSwitchOff_forget (P : Parts) (at' : Fin 200) (dom : Fin 12) (s : State) (t' : State) (hev : MayRaise
    P) (h_free : P.free = true) (h_ops : P.ops = true) (h_can : P.can = true) (h_tim : P.tim = true) (h_hb : P.hb =
    true) (h_bank : P.bank = true) (h_ax : P.ax = true) (h_fus : P.fus = true) (h_sched : P.sched = true) (h_sol :
    P.sol = true) (h_pwr : P.pwr = true) (h_pair : P.pair = true) (r_GATE_BSTUVCNT : P.Has .GATE_BSTUVCNT) (r_GATE_FLT
    : P.Has .GATE_FLT) (r_PWR_DOM_REQ : P.Has .PWR_DOM_REQ) (h' : execDomainSwitchOff at' dom s = .next t') : forget P
    t' = forget P s := by
  unfold execDomainSwitchOff at h'
  injection h' with h'; subst h'
  unfold State.whenHost
  try dsimp only
  (repeat' split) <;> first | with_reducible rfl | simp only [writeDomReq_forget, Nat.reduceLT, ite_forget, ite_self,
      hev, hev.rcd, hev.fresh, hev.evt, h_free, h_ops, h_can, h_tim, h_hb, h_bank, h_ax, h_fus, h_sched, h_sol, h_pwr,
      h_pair, r_GATE_BSTUVCNT, r_GATE_FLT, r_PWR_DOM_REQ, Fin.is_lt]

theorem execDomainStart_forget (P : Parts) (dom : Fin 12) (s : State) (t' : State) (h_pwr : P.pwr = true) (h' :
    execDomainStart dom s = .next t') : forget P t' = forget P s := by
  unfold execDomainStart at h'
  injection h' with h'; subst h'
  try dsimp only
  (repeat' split) <;> first | with_reducible rfl | simp only [modPwr_forget, Nat.reduceLT, ite_forget, ite_self,
      h_pwr, Fin.is_lt]

theorem execDomainReady_forget (P : Parts) (dom : Fin 12) (s : State) (t' : State) (hev : MayRaise P) (h_free : P.free
    = true) (h_ops : P.ops = true) (h_can : P.can = true) (h_tim : P.tim = true) (h_hb : P.hb = true) (h_bank : P.bank
    = true) (h_ax : P.ax = true) (h_fus : P.fus = true) (h_sched : P.sched = true) (h_sol : P.sol = true) (h_pwr :
    P.pwr = true) (h_pair : P.pair = true) (b_bank : Blk.bank ∈ P.blks) (b_can : Blk.can ∈ P.blks) (b_fus : Blk.fus ∈
    P.blks) (b_pair : Blk.pair ∈ P.blks) (b_sch : Blk.sch ∈ P.blks) (b_sol : Blk.sol ∈ P.blks) (r_AX_HALL : P.Has
    .AX_HALL) (r_CAN_CTL : P.Has .CAN_CTL) (r_FUS_PUBCNT : P.Has .FUS_PUBCNT) (r_FUS_STAT : P.Has .FUS_STAT)
    (r_GATE_BSTUVCNT : P.Has .GATE_BSTUVCNT) (r_GATE_FLT : P.Has .GATE_FLT) (r_PROT_AXSTAT : P.Has .PROT_AXSTAT)
    (r_SCH_STATE_HI : P.Has .SCH_STATE_HI) (r_SCH_STATE_LO : P.Has .SCH_STATE_LO) (r_SOL_FAULTCNT : P.Has
    .SOL_FAULTCNT) (r_SOL_FEST : P.Has .SOL_FEST) (r_SOL_LATECNT : P.Has .SOL_LATECNT) (r_SOL_RSTAT : P.Has
    .SOL_RSTAT) (r_SOL_TMAX : P.Has .SOL_TMAX) (r_SOL_TRACE_E : P.Has .SOL_TRACE_E) (h' : execDomainReady dom s =
    .next t') : forget P t' = forget P s := by
  unfold execDomainReady at h'
  injection h' with h'; subst h'
  try dsimp only
  (repeat' split) <;> first | with_reducible rfl | simp only [domainReady_forget, Nat.reduceLT, ite_forget, ite_self,
      hev, hev.rcd, hev.fresh, hev.evt, h_free, h_ops, h_can, h_tim, h_hb, h_bank, h_ax, h_fus, h_sched, h_sol, h_pwr,
      h_pair, b_bank, b_can, b_fus, b_pair, b_sch, b_sol, r_AX_HALL, r_CAN_CTL, r_FUS_PUBCNT, r_FUS_STAT,
      r_GATE_BSTUVCNT, r_GATE_FLT, r_PROT_AXSTAT, r_SCH_STATE_HI, r_SCH_STATE_LO, r_SOL_FAULTCNT, r_SOL_FEST,
      r_SOL_LATECNT, r_SOL_RSTAT, r_SOL_TMAX, r_SOL_TRACE_E, Fin.is_lt]

theorem execEnergyEstimate_forget (P : Parts) (vmain vbak vio : Word) (s : State) (t' : State) (hev : MayRaise P)
    (h_pwr : P.pwr = true) (h_store : P.store = true) (h_mem : P.mem = true) (r_PWR_ESTORED : P.Has .PWR_ESTORED)
    (r_PWR_VBAK : P.Has .PWR_VBAK) (r_PWR_VIO : P.Has .PWR_VIO) (r_PWR_VMAIN : P.Has .PWR_VMAIN) (h' :
    execEnergyEstimate vmain vbak vio s = .next t') : forget P t' = forget P s := by
  unfold execEnergyEstimate at h'
  injection h' with h'; subst h'
  try dsimp only
  (repeat' split) <;> first | with_reducible rfl | simp only [energyEstimate_forget, Nat.reduceLT, ite_forget,
      ite_self, hev, hev.rcd, hev.fresh, hev.evt, h_pwr, h_store, h_mem, r_PWR_ESTORED, r_PWR_VBAK, r_PWR_VIO,
      r_PWR_VMAIN, Fin.is_lt]

theorem execVioUv_forget (P : Parts) (at' : Fin 200) (vio : Word) (s : State) (t' : State) (hev : MayRaise P) (h_ops :
    P.ops = true) (h_tim : P.tim = true) (h_hb : P.hb = true) (h_bank : P.bank = true) (h_ax : P.ax = true) (h_pwr :
    P.pwr = true) (h_pair : P.pair = true) (h_safe : P.safe = true) (r_GATE_BSTUVCNT : P.Has .GATE_BSTUVCNT)
    (r_GATE_FLT : P.Has .GATE_FLT) (r_PROT_AXSTAT : P.Has .PROT_AXSTAT) (r_PWR_VIO : P.Has .PWR_VIO) (r_SAFE_CAUSE :
    P.Has .SAFE_CAUSE) (r_SAFE_DETAIL : P.Has .SAFE_DETAIL) (h' : execVioUv at' vio s = .next t') : forget P t' =
    forget P s := by
  unfold execVioUv at h'
  injection h' with h'; subst h'
  try dsimp only
  (repeat' split) <;> first | with_reducible rfl | simp only [vioUv_forget, Nat.reduceLT, ite_forget, ite_self, hev,
      hev.rcd, hev.fresh, hev.evt, h_ops, h_tim, h_hb, h_bank, h_ax, h_pwr, h_pair, h_safe, r_GATE_BSTUVCNT,
      r_GATE_FLT, r_PROT_AXSTAT, r_PWR_VIO, r_SAFE_CAUSE, r_SAFE_DETAIL, Fin.is_lt]

theorem execStoreWrite_forget (P : Parts) (len : Byte) (s : State) (t' : State) (hrec : MayRecord P) (h_free : P.free
    = true) (h_clk : P.clk = true) (h_link : P.link = true) (h_ops : P.ops = true) (h_can : P.can = true) (h_tim :
    P.tim = true) (h_hb : P.hb = true) (h_bank : P.bank = true) (h_ax : P.ax = true) (h_fus : P.fus = true) (h_sched :
    P.sched = true) (h_sol : P.sol = true) (h_img : P.img = true) (h_pwr : P.pwr = true) (h_store : P.store = true)
    (h_pair : P.pair = true) (h_safe : P.safe = true) (h_win : P.win = true) (h_all : ∀ b, b ∈ P.blks) (h' :
    execStoreWrite len s = .next t') : forget P t' = forget P s := by
  unfold execStoreWrite at h'
  injection h' with h'; subst h'
  try dsimp only
  (repeat' split) <;> first | with_reducible rfl | simp only [hostWord_forget, implies_true, Nat.reduceLT, ite_forget,
      ite_self, hrec, hrec.queue.raises, hrec.queue, hrec.recs, h_free, h_clk, h_link, h_ops, h_can, h_tim, h_hb,
      h_bank, h_ax, h_fus, h_sched, h_sol, h_img, h_pwr, h_store, h_pair, h_safe, h_win, h_all, Fin.is_lt]

theorem execStoreDelete_forget (P : Parts) (s : State) (t' : State) (h_store : P.store = true) (h' : execStoreDelete s
    = .next t') : forget P t' = forget P s := by
  unfold execStoreDelete at h'
  injection h' with h'; subst h'
  unfold State.whenHost
  try dsimp only
  (repeat' split) <;> first | with_reducible rfl | simp only [loadStage_forget, Nat.reduceLT, ite_forget, ite_self,
      h_store, Fin.is_lt]

theorem execStoreRead_forget (P : Parts) (key : Fin 1024) (s : State) (t' : State) (h_store : P.store = true)
    (r_STORE_RRES : P.Has .STORE_RRES) (h' : execStoreRead key s = .next t') : forget P t' = forget P s := by
  unfold execStoreRead at h'
  injection h' with h'; subst h'
  unfold State.whenHost
  try dsimp only
  (repeat' split) <;> first | with_reducible rfl | simp only [storeRead_forget, Nat.reduceLT, ite_forget, ite_self,
      h_store, r_STORE_RRES, Fin.is_lt]

theorem execStoreReadDone_forget (P : Parts) (s : State) (t' : State) (hev : MayRaise P) (h_store : P.store = true)
    (r_STORE_ERRCNT : P.Has .STORE_ERRCNT) (r_STORE_ERRLAST : P.Has .STORE_ERRLAST) (r_STORE_RBUF : P.Has .STORE_RBUF)
    (r_STORE_RRES : P.Has .STORE_RRES) (r_STORE_RSEQ : P.Has .STORE_RSEQ) (h' : execStoreReadDone s = .next t') :
    forget P t' = forget P s := by
  unfold execStoreReadDone at h'
  injection h' with h'; subst h'
  try dsimp only
  (repeat' split) <;> first | with_reducible rfl | simp only [storeReadDone_forget, Nat.reduceLT, ite_forget,
      ite_self, hev, hev.rcd, hev.fresh, hev.evt, h_store, r_STORE_ERRCNT, r_STORE_ERRLAST, r_STORE_RBUF,
      r_STORE_RRES, r_STORE_RSEQ, Fin.is_lt]

theorem execStoreAppend_forget (P : Parts) (s : State) (t' : State) (hev : MayRaise P) (h_free : P.free = true)
    (h_store : P.store = true) (h_mem : P.mem = true) (r_STORE_BUSYCNT : P.Has .STORE_BUSYCNT) (r_STORE_DEFCNT : P.Has
    .STORE_DEFCNT) (h' : execStoreAppend s = .next t') : forget P t' = forget P s := by
  unfold execStoreAppend at h'
  injection h' with h'; subst h'
  try dsimp only
  (repeat' split) <;> first | with_reducible rfl | simp only [appendLate_forget, storeAppend_forget, Nat.reduceLT,
      ite_forget, ite_self, hev, hev.rcd, hev.fresh, hev.evt, h_free, h_store, h_mem, r_STORE_BUSYCNT, r_STORE_DEFCNT,
      Fin.is_lt]

theorem execProgramBurstDone_forget (P : Parts) (ok : Bool) (s : State) (t' : State) (hev : MayRaise P) (h_free : P.free
    = true) (h_ops : P.ops = true) (h_store : P.store = true) (h_mem : P.mem = true) (r_STORE_DEFCNT : P.Has
    .STORE_DEFCNT) (r_STORE_ERRLAST : P.Has .STORE_ERRLAST) (r_STORE_JEVN : P.Has .STORE_JEVN) (r_STORE_JLOST : P.Has
    .STORE_JLOST) (h' : execProgramBurstDone ok s = .next t') : forget P t' = forget P s := by
  unfold execProgramBurstDone at h'
  injection h' with h'; subst h'
  try dsimp only
  (repeat' split) <;> first | with_reducible rfl | simp only [programBurstDone_forget, Nat.reduceLT, ite_forget,
      ite_self, hev, hev.rcd, hev.fresh, hev.evt, h_free, h_ops, h_store, h_mem, r_STORE_DEFCNT, r_STORE_ERRLAST,
      r_STORE_JEVN, r_STORE_JLOST, Fin.is_lt]

theorem execCompactionStep_forget (P : Parts) (s : State) (t' : State) (h_free : P.free = true) (h_store : P.store =
    true) (h_mem : P.mem = true) (h' : execCompactionStep s = .next t') : forget P t' = forget P s := by
  unfold execCompactionStep at h'
  injection h' with h'; subst h'
  try dsimp only
  (repeat' split) <;> first | with_reducible rfl | simp only [compactionStep_forget, Nat.reduceLT, ite_forget,
      ite_self, h_free, h_store, h_mem, Fin.is_lt]

theorem execBackgroundCompaction_forget (P : Parts) (s : State) (t' : State) (h_store : P.store = true) (h' :
    execBackgroundCompaction s = .next t') : forget P t' = forget P s := by
  unfold execBackgroundCompaction at h'
  injection h' with h'; subst h'
  try dsimp only
  (repeat' split) <;> first | with_reducible rfl | simp only [backgroundCompaction_forget, Nat.reduceLT, ite_forget,
      ite_self, h_store, Fin.is_lt]

theorem execPairOwnInChange_forget (P : Parts) (at' : Fin 200) (level equal : Bool) (s : State) (t' : State) (hev :
    MayRaise P) (h_tim : P.tim = true) (h_hb : P.hb = true) (h_bank : P.bank = true) (h_pair : P.pair = true)
    (r_GATE_BSTUVCNT : P.Has .GATE_BSTUVCNT) (r_GATE_FLT : P.Has .GATE_FLT) (h' : execPairOwnInChange at' level equal
    s = .next t') : forget P t' = forget P s := by
  unfold execPairOwnInChange at h'
  injection h' with h'; subst h'
  try dsimp only
  (repeat' split) <;> first | with_reducible rfl | simp only [modPair_forget, pairOwnInChange_forget, Nat.reduceLT,
      ite_forget, ite_self, hev, hev.rcd, hev.fresh, hev.evt, h_tim, h_hb, h_bank, h_pair, r_GATE_BSTUVCNT,
      r_GATE_FLT, Fin.is_lt]

theorem execPairClaim_forget (P : Parts) (at' : Fin 200) (s : State) (t' : State) (hev : MayRaise P) (h_ops : P.ops =
    true) (h_tim : P.tim = true) (h_hb : P.hb = true) (h_bank : P.bank = true) (h_ax : P.ax = true) (h_pair : P.pair =
    true) (r_GATE_BSTUVCNT : P.Has .GATE_BSTUVCNT) (r_GATE_FLT : P.Has .GATE_FLT) (h' : execPairClaim at' s = .next
    t') : forget P t' = forget P s := by
  unfold execPairClaim at h'
  injection h' with h'; subst h'
  try dsimp only
  (repeat' split) <;> first | with_reducible rfl | simp only [pairClaim_forget, Nat.reduceLT, ite_forget, ite_self,
      hev, hev.rcd, hev.fresh, hev.evt, h_ops, h_tim, h_hb, h_bank, h_ax, h_pair, r_GATE_BSTUVCNT, r_GATE_FLT,
      Fin.is_lt]

theorem execGateCheckPass_forget (P : Parts) (at' : Fin 200) (b : Fin 8) (s : State) (t' : State) (hev : MayRaise P)
    (h_tim : P.tim = true) (h_hb : P.hb = true) (h_bank : P.bank = true) (h_pair : P.pair = true) (r_GATE_BSTUVCNT :
    P.Has .GATE_BSTUVCNT) (r_GATE_FLT : P.Has .GATE_FLT) (r_PAIR_LASTGAP : P.Has .PAIR_LASTGAP) (h' :
    execGateCheckPass at' b s = .next t') : forget P t' = forget P s := by
  unfold execGateCheckPass at h'
  injection h' with h'; subst h'
  try dsimp only
  (repeat' split) <;> first | with_reducible rfl | simp only [gateCheckPass_forget, Nat.reduceLT, ite_forget,
      ite_self, hev, hev.rcd, hev.fresh, hev.evt, h_tim, h_hb, h_bank, h_pair, r_GATE_BSTUVCNT, r_GATE_FLT,
      r_PAIR_LASTGAP, Fin.is_lt]

theorem execLaneAligned_forget (P : Parts) (lane : Fin 2) (s : State) (t' : State) (h_pair : P.pair = true) (h' :
    execLaneAligned lane s = .next t') : forget P t' = forget P s := by
  unfold execLaneAligned at h'
  injection h' with h'; subst h'
  try dsimp only
  (repeat' split) <;> first | with_reducible rfl | simp only [modPair_forget, Nat.reduceLT, ite_forget, ite_self,
      h_pair, Fin.is_lt]

theorem execLaneAlignmentLost_forget (P : Parts) (lane : Fin 2) (s : State) (t' : State) (hev : MayRaise P) (h_pair :
    P.pair = true) (h' : execLaneAlignmentLost lane s = .next t') : forget P t' = forget P s := by
  unfold execLaneAlignmentLost at h'
  injection h' with h'; subst h'
  try dsimp only
  (repeat' split) <;> first | with_reducible rfl | simp only [linkDown_forget, modPair_forget, Nat.reduceLT,
      ite_forget, ite_self, hev, hev.rcd, hev.fresh, hev.evt, h_pair, Fin.is_lt]

theorem execLinkSlot_forget (P : Parts) (s : State) (t' : State) (h_sched : P.sched = true) (h_pair : P.pair = true)
    (r_PAIR_MIRLAG : P.Has .PAIR_MIRLAG) (h' : execLinkSlot s = .next t') : forget P t' = forget P s := by
  unfold execLinkSlot at h'
  injection h' with h'; subst h'
  try dsimp only
  (repeat' split) <;> first | with_reducible rfl | simp only [linkSlot_forget, Nat.reduceLT, ite_forget, ite_self,
      h_sched, h_pair, r_PAIR_MIRLAG, Fin.is_lt]

theorem execHelloReceived_forget (P : Parts) (pairId : Bool) (imgId imgCrc : BitVec 32) (bankImg : Byte) (tags : List
    Word) (owner lockout : Bool) (s : State) (t' : State) (hev : MayRaise P) (h_pair : P.pair = true) (h' :
    execHelloReceived pairId imgId imgCrc bankImg tags owner lockout s = .next t') : forget P t' = forget P s := by
  unfold execHelloReceived at h'
  injection h' with h'; subst h'
  try dsimp only
  (repeat' split) <;> first | with_reducible rfl | simp only [helloReceived_forget, Nat.reduceLT, ite_forget,
      ite_self, hev, hev.rcd, hev.fresh, hev.evt, h_pair, Fin.is_lt]

theorem execMirrorReceived_forget (P : Parts) (at' : Fin 200) (good : Bool) (start : Nat) (f : Mirror) (s : State) (t'
    : State) (hev : MayRaise P) (h_tim : P.tim = true) (h_hb : P.hb = true) (h_bank : P.bank = true) (h_ax : P.ax =
    true) (h_fus : P.fus = true) (h_sched : P.sched = true) (h_pair : P.pair = true) (r_AX_ANGLE : P.Has .AX_ANGLE)
    (r_AX_CONF : P.Has .AX_CONF) (r_AX_CUR_SET : P.Has .AX_CUR_SET) (r_AX_GS_CTL : P.Has .AX_GS_CTL) (r_AX_GS_RATE :
    P.Has .AX_GS_RATE) (r_AX_SPD_SET : P.Has .AX_SPD_SET) (r_FUS_EST : P.Has .FUS_EST) (r_GATE_BSTUVCNT : P.Has
    .GATE_BSTUVCNT) (r_GATE_FLT : P.Has .GATE_FLT) (r_GSUP_FLT : P.Has .GSUP_FLT) (r_PAIR_CFGMIS : P.Has .PAIR_CFGMIS)
    (r_PAIR_CRCCNT : P.Has .PAIR_CRCCNT) (r_PAIR_PRECHEAD : P.Has .PAIR_PRECHEAD) (r_PAIR_PSTSEQ : P.Has .PAIR_PSTSEQ)
    (r_PROT_BFLT : P.Has .PROT_BFLT) (r_PROT_CHFLT : P.Has .PROT_CHFLT) (r_PWM_CHEN : P.Has .PWM_CHEN) (r_PWM_CMP :
    P.Has .PWM_CMP) (r_PWM_CTL : P.Has .PWM_CTL) (r_PWM_FORCE : P.Has .PWM_FORCE) (r_PWM_HR : P.Has .PWM_HR)
    (r_PWM_RUN_HI : P.Has .PWM_RUN_HI) (r_PWM_RUN_LO : P.Has .PWM_RUN_LO) (r_SCH_STATE_HI : P.Has .SCH_STATE_HI)
    (r_SCH_STATE_LO : P.Has .SCH_STATE_LO) (h' : execMirrorReceived at' good start f s = .next t') : forget P t' =
    forget P s := by
  unfold execMirrorReceived at h'
  injection h' with h'; subst h'
  try dsimp only
  (repeat' split) <;> first | with_reducible rfl | simp only [applyMirror_forget, ownFault_forget, satInc_forget,
      cov_PAIR_CRCCNT, Nat.reduceLT, ite_forget, ite_self, hev, hev.rcd, hev.fresh, hev.evt, h_tim, h_hb, h_bank,
      h_ax, h_fus, h_sched, h_pair, r_AX_ANGLE, r_AX_CONF, r_AX_CUR_SET, r_AX_GS_CTL, r_AX_GS_RATE, r_AX_SPD_SET,
      r_FUS_EST, r_GATE_BSTUVCNT, r_GATE_FLT, r_GSUP_FLT, r_PAIR_CFGMIS, r_PAIR_CRCCNT, r_PAIR_PRECHEAD,
      r_PAIR_PSTSEQ, r_PROT_BFLT, r_PROT_CHFLT, r_PWM_CHEN, r_PWM_CMP, r_PWM_CTL, r_PWM_FORCE, r_PWM_HR, r_PWM_RUN_HI,
      r_PWM_RUN_LO, r_SCH_STATE_HI, r_SCH_STATE_LO, Fin.is_lt]

theorem execStatusReceived_forget (P : Parts) (seq : BitVec 32) (ready : Byte) (cfgmis head0 : Word) (sync lockout
    fault : Bool) (s : State) (t' : State) (h_pair : P.pair = true) (r_PAIR_PRECHEAD : P.Has .PAIR_PRECHEAD) (h' :
    execStatusReceived seq ready cfgmis head0 sync lockout fault s = .next t') : forget P t' = forget P s := by
  unfold execStatusReceived at h'
  injection h' with h'; subst h'
  try dsimp only
  (repeat' split) <;> first | with_reducible rfl | simp only [modPair_forget, wr_forget, cov_PAIR_PRECHEAD,
      Nat.reduceLT, ite_forget, ite_self, h_pair, r_PAIR_PRECHEAD, Fin.is_lt]

theorem execFrameMissed_forget (P : Parts) (at' : Fin 200) (s : State) (t' : State) (hev : MayRaise P) (h_tim : P.tim
    = true) (h_hb : P.hb = true) (h_bank : P.bank = true) (h_pair : P.pair = true) (r_GATE_BSTUVCNT : P.Has
    .GATE_BSTUVCNT) (r_GATE_FLT : P.Has .GATE_FLT) (r_PAIR_MISSCNT : P.Has .PAIR_MISSCNT) (r_PAIR_TAKECNT : P.Has
    .PAIR_TAKECNT) (h' : execFrameMissed at' s = .next t') : forget P t' = forget P s := by
  unfold execFrameMissed at h'
  injection h' with h'; subst h'
  try dsimp only
  (repeat' split) <;> first | with_reducible rfl | simp only [frameMissed_forget, Nat.reduceLT, ite_forget, ite_self,
      hev, hev.rcd, hev.fresh, hev.evt, h_tim, h_hb, h_bank, h_pair, r_GATE_BSTUVCNT, r_GATE_FLT, r_PAIR_MISSCNT,
      r_PAIR_TAKECNT, Fin.is_lt]

theorem execLinkRetryEnd_forget (P : Parts) (s : State) (t' : State) (h_pair : P.pair = true) (h' : execLinkRetryEnd s
    = .next t') : forget P t' = forget P s := by
  unfold execLinkRetryEnd at h'
  injection h' with h'; subst h'
  try dsimp only
  (repeat' split) <;> first | with_reducible rfl | simp only [modPair_forget, Nat.reduceLT, ite_forget, ite_self,
      h_pair, Fin.is_lt]

theorem execReleaseSequenceReceived_forget (P : Parts) (at' : Fin 200) (cause : Byte) (s : State) (t' : State) (hev :
    MayRaise P) (h_tim : P.tim = true) (h_hb : P.hb = true) (h_bank : P.bank = true) (h_pair : P.pair = true)
    (r_GATE_BSTUVCNT : P.Has .GATE_BSTUVCNT) (r_GATE_FLT : P.Has .GATE_FLT) (h' : execReleaseSequenceReceived at'
    cause s = .next t') : forget P t' = forget P s := by
  unfold execReleaseSequenceReceived at h'
  injection h' with h'; subst h'
  try dsimp only
  (repeat' split) <;> first | with_reducible rfl | simp only [releaseSequence_forget, Nat.reduceLT, ite_forget,
      ite_self, hev, hev.rcd, hev.fresh, hev.evt, h_tim, h_hb, h_bank, h_pair, r_GATE_BSTUVCNT, r_GATE_FLT, Fin.is_lt]

theorem execTakeoverQualified_forget (P : Parts) (at' : Fin 200) (s : State) (t' : State) (hev : MayRaise P) (h_tim :
    P.tim = true) (h_hb : P.hb = true) (h_bank : P.bank = true) (h_pair : P.pair = true) (r_GATE_BSTUVCNT : P.Has
    .GATE_BSTUVCNT) (r_GATE_FLT : P.Has .GATE_FLT) (r_PAIR_TAKECNT : P.Has .PAIR_TAKECNT) (h' : execTakeoverQualified
    at' s = .next t') : forget P t' = forget P s := by
  unfold execTakeoverQualified at h'
  injection h' with h'; subst h'
  try dsimp only
  (repeat' split) <;> first | with_reducible rfl | simp only [takeOwner_forget, Nat.reduceLT, ite_forget, ite_self,
      hev, hev.rcd, hev.fresh, hev.evt, h_tim, h_hb, h_bank, h_pair, r_GATE_BSTUVCNT, r_GATE_FLT, r_PAIR_TAKECNT,
      Fin.is_lt]

theorem execTakeoverCommit_forget (P : Parts) (at' : Fin 200) (s : State) (t' : State) (hev : MayRaise P) (h_tim :
    P.tim = true) (h_hb : P.hb = true) (h_bank : P.bank = true) (h_ax : P.ax = true) (h_fus : P.fus = true) (h_sched :
    P.sched = true) (h_pair : P.pair = true) (r_AX_STARTS : P.Has .AX_STARTS) (r_FUS_IMU_LOST : P.Has .FUS_IMU_LOST)
    (r_GATE_BSTUVCNT : P.Has .GATE_BSTUVCNT) (r_GATE_FLT : P.Has .GATE_FLT) (r_PROT_AXSTAT : P.Has .PROT_AXSTAT) (h' :
    execTakeoverCommit at' s = .next t') : forget P t' = forget P s := by
  unfold execTakeoverCommit at h'
  injection h' with h'; subst h'
  try dsimp only
  (repeat' split) <;> first | with_reducible rfl | simp only [takeoverCommit_forget, Nat.reduceLT, ite_forget,
      ite_self, hev, hev.rcd, hev.fresh, hev.evt, h_tim, h_hb, h_bank, h_ax, h_fus, h_sched, h_pair, r_AX_STARTS,
      r_FUS_IMU_LOST, r_GATE_BSTUVCNT, r_GATE_FLT, r_PROT_AXSTAT, Fin.is_lt]

theorem execHandover_forget (P : Parts) (s : State) (t' : State) (h_pair : P.pair = true) (r_PAIR_CMDRES : P.Has
    .PAIR_CMDRES) (h' : execHandover s = .next t') : forget P t' = forget P s := by
  unfold execHandover at h'
  injection h' with h'; subst h'
  unfold State.whenHost
  try dsimp only
  (repeat' split) <;> first | with_reducible rfl | simp only [handover_forget, Nat.reduceLT, ite_forget, ite_self,
      h_pair, r_PAIR_CMDRES, Fin.is_lt]

theorem execHandoverRelease_forget (P : Parts) (at' : Fin 200) (s : State) (t' : State) (hev : MayRaise P) (h_tim :
    P.tim = true) (h_hb : P.hb = true) (h_bank : P.bank = true) (h_pair : P.pair = true) (r_GATE_BSTUVCNT : P.Has
    .GATE_BSTUVCNT) (r_GATE_FLT : P.Has .GATE_FLT) (h' : execHandoverRelease at' s = .next t') : forget P t' = forget
    P s := by
  unfold execHandoverRelease at h'
  injection h' with h'; subst h'
  try dsimp only
  (repeat' split) <;> first | with_reducible rfl | simp only [releaseOwner_forget, Nat.reduceLT, ite_forget, ite_self,
      hev, hev.rcd, hev.fresh, hev.evt, h_tim, h_hb, h_bank, h_pair, r_GATE_BSTUVCNT, r_GATE_FLT, Fin.is_lt]

theorem execClearLock_forget (P : Parts) (s : State) (t' : State) (hev : MayRaise P) (h_tim : P.tim = true) (h_hb :
    P.hb = true) (h_bank : P.bank = true) (h_pair : P.pair = true) (r_GATE_BSTUVCNT : P.Has .GATE_BSTUVCNT)
    (r_GATE_FLT : P.Has .GATE_FLT) (r_PAIR_CMDRES : P.Has .PAIR_CMDRES) (h' : execClearLock s = .next t') : forget P
    t' = forget P s := by
  unfold execClearLock at h'
  injection h' with h'; subst h'
  unfold State.whenHost
  try dsimp only
  (repeat' split) <;> first | with_reducible rfl | simp only [clearLock_forget, Nat.reduceLT, ite_forget, ite_self,
      hev, hev.rcd, hev.fresh, hev.evt, h_tim, h_hb, h_bank, h_pair, r_GATE_BSTUVCNT, r_GATE_FLT, r_PAIR_CMDRES,
      Fin.is_lt]

theorem execSupervisorMismatch_forget (P : Parts) (at' : Fin 200) (group : Word) (s : State) (t' : State) (hev :
    MayRaise P) (h_ops : P.ops = true) (h_tim : P.tim = true) (h_hb : P.hb = true) (h_bank : P.bank = true) (h_ax :
    P.ax = true) (h_pair : P.pair = true) (h_safe : P.safe = true) (r_GATE_BSTUVCNT : P.Has .GATE_BSTUVCNT)
    (r_GATE_FLT : P.Has .GATE_FLT) (r_PROT_AXSTAT : P.Has .PROT_AXSTAT) (r_SAFE_CAUSE : P.Has .SAFE_CAUSE)
    (r_SAFE_DETAIL : P.Has .SAFE_DETAIL) (h' : execSupervisorMismatch at' group s = .next t') : forget P t' = forget P
    s := by
  unfold execSupervisorMismatch at h'
  injection h' with h'; subst h'
  unfold State.whenUp
  try dsimp only
  (repeat' split) <;> first | with_reducible rfl | simp only [deviceWide_forget, Nat.reduceLT, ite_forget, ite_self,
      hev, hev.rcd, hev.fresh, hev.evt, h_ops, h_tim, h_hb, h_bank, h_ax, h_pair, h_safe, r_GATE_BSTUVCNT, r_GATE_FLT,
      r_PROT_AXSTAT, r_SAFE_CAUSE, r_SAFE_DETAIL, Fin.is_lt]

theorem execScrubPass_forget (P : Parts) (at' : Fin 200) (ok : Bool) (a : Word) (s : State) (t' : State) (hev :
    MayRaise P) (h_ops : P.ops = true) (h_tim : P.tim = true) (h_hb : P.hb = true) (h_bank : P.bank = true) (h_ax :
    P.ax = true) (h_img : P.img = true) (h_pair : P.pair = true) (h_safe : P.safe = true) (r_GATE_BSTUVCNT : P.Has
    .GATE_BSTUVCNT) (r_GATE_FLT : P.Has .GATE_FLT) (r_PROT_AXSTAT : P.Has .PROT_AXSTAT) (r_SAFE_CAUSE : P.Has
    .SAFE_CAUSE) (r_SAFE_DETAIL : P.Has .SAFE_DETAIL) (r_SAFE_SCRUBCNT : P.Has .SAFE_SCRUBCNT) (h' : execScrubPass at'
    ok a s = .next t') : forget P t' = forget P s := by
  unfold execScrubPass at h'
  injection h' with h'; subst h'
  unfold State.whenUp
  try dsimp only
  (repeat' split) <;> first | with_reducible rfl | simp only [deviceWide_forget, modImg_forget, wrapInc_forget,
      cov_SAFE_SCRUBCNT, implies_true, Nat.reduceLT, ite_forget, ite_self, hev, hev.rcd, hev.fresh, hev.evt, h_ops,
      h_tim, h_hb, h_bank, h_ax, h_img, h_pair, h_safe, r_GATE_BSTUVCNT, r_GATE_FLT, r_PROT_AXSTAT, r_SAFE_CAUSE,
      r_SAFE_DETAIL, r_SAFE_SCRUBCNT, Fin.is_lt]

theorem execRamSec_forget (P : Parts) (at' : Fin 200) (inst : Byte) (a : Word) (double : Bool) (s : State) (t' :
    State) (hev : MayRaise P) (h_free : P.free = true) (h_ops : P.ops = true) (h_tim : P.tim = true) (h_hb : P.hb =
    true) (h_bank : P.bank = true) (h_ax : P.ax = true) (h_sol : P.sol = true) (h_store : P.store = true) (h_pair :
    P.pair = true) (h_safe : P.safe = true) (h_recs : P.recs = true) (r_GATE_BSTUVCNT : P.Has .GATE_BSTUVCNT)
    (r_GATE_FLT : P.Has .GATE_FLT) (r_PROT_AXSTAT : P.Has .PROT_AXSTAT) (r_REC_HOLDOVF_CNT : P.Has .REC_HOLDOVF_CNT)
    (r_SAFE_CAUSE : P.Has .SAFE_CAUSE) (r_SAFE_DETAIL : P.Has .SAFE_DETAIL) (r_SAFE_RAMSEC : P.Has .SAFE_RAMSEC)
    (r_SOL_FAULTCNT : P.Has .SOL_FAULTCNT) (r_STORE_JLOST : P.Has .STORE_JLOST) (h' : execRamSec at' inst a double s =
    .next t') : forget P t' = forget P s := by
  unfold execRamSec at h'
  injection h' with h'; subst h'
  unfold State.whenUp
  try dsimp only
  (repeat' split) <;> first | with_reducible rfl | simp only [ramSec_forget, Nat.reduceLT, ite_forget, ite_self, hev,
      hev.rcd, hev.fresh, hev.evt, h_free, h_ops, h_tim, h_hb, h_bank, h_ax, h_sol, h_store, h_pair, h_safe, h_recs,
      r_GATE_BSTUVCNT, r_GATE_FLT, r_PROT_AXSTAT, r_REC_HOLDOVF_CNT, r_SAFE_CAUSE, r_SAFE_DETAIL, r_SAFE_RAMSEC,
      r_SOL_FAULTCNT, r_STORE_JLOST, Fin.is_lt]

theorem execPlausTrip_forget (P : Parts) (at' : Fin 200) (a : Fin 24) (s : State) (t' : State) (hev : MayRaise P)
    (h_ops : P.ops = true) (h_tim : P.tim = true) (h_hb : P.hb = true) (h_bank : P.bank = true) (h_ax : P.ax = true)
    (r_GATE_BSTUVCNT : P.Has .GATE_BSTUVCNT) (r_GATE_FLT : P.Has .GATE_FLT) (r_PROT_AXSTAT : P.Has .PROT_AXSTAT)
    (r_SAFE_PLFLT_HI : P.Has .SAFE_PLFLT_HI) (r_SAFE_PLFLT_LO : P.Has .SAFE_PLFLT_LO) (h' : execPlausTrip at' a s =
    .next t') : forget P t' = forget P s := by
  unfold execPlausTrip at h'
  injection h' with h'; subst h'
  try dsimp only
  (repeat' split) <;> first | with_reducible rfl | simp only [plausTrip_forget, Nat.reduceLT, ite_forget, ite_self,
      hev, hev.rcd, hev.fresh, hev.evt, h_ops, h_tim, h_hb, h_bank, h_ax, r_GATE_BSTUVCNT, r_GATE_FLT, r_PROT_AXSTAT,
      r_SAFE_PLFLT_HI, r_SAFE_PLFLT_LO, Fin.is_lt]

theorem execDieLinkLoss_forget (P : Parts) (at' : Fin 200) (k : Fin 4) (s : State) (t' : State) (hev : MayRaise P)
    (h_ops : P.ops = true) (h_tim : P.tim = true) (h_hb : P.hb = true) (h_bank : P.bank = true) (h_ax : P.ax = true)
    (h_safe : P.safe = true) (r_GATE_BSTUVCNT : P.Has .GATE_BSTUVCNT) (r_GATE_FLT : P.Has .GATE_FLT) (r_PROT_AXSTAT :
    P.Has .PROT_AXSTAT) (h' : execDieLinkLoss at' k s = .next t') : forget P t' = forget P s := by
  unfold execDieLinkLoss at h'
  injection h' with h'; subst h'
  unfold State.whenUp
  try dsimp only
  (repeat' split) <;> first | with_reducible rfl | simp only [dieLinkLoss_forget, Nat.reduceLT, ite_forget, ite_self,
      hev, hev.rcd, hev.fresh, hev.evt, h_ops, h_tim, h_hb, h_bank, h_ax, h_safe, r_GATE_BSTUVCNT, r_GATE_FLT,
      r_PROT_AXSTAT, Fin.is_lt]

theorem execDieLinkRestore_forget (P : Parts) (k : Fin 4) (s : State) (t' : State) (hev : MayRaise P) (h_tim : P.tim =
    true) (h_hb : P.hb = true) (h_bank : P.bank = true) (h_ax : P.ax = true) (h_safe : P.safe = true) (r_GATE_BSTUVCNT
    : P.Has .GATE_BSTUVCNT) (r_GATE_FLT : P.Has .GATE_FLT) (r_PROT_AXSTAT : P.Has .PROT_AXSTAT) (h' :
    execDieLinkRestore k s = .next t') : forget P t' = forget P s := by
  unfold execDieLinkRestore at h'
  injection h' with h'; subst h'
  unfold State.whenUp
  try dsimp only
  repeat' first
    | with_reducible rfl
    | split
    | (simp only [bankCause_forget, modSafe_forget, Nat.reduceLT, ite_forget, ite_self, hev, hev.rcd, hev.fresh,
        hev.evt, h_tim, h_hb, h_bank, h_ax, h_safe, r_GATE_BSTUVCNT, r_GATE_FLT, r_PROT_AXSTAT, Fin.is_lt]; done)
    | with_reducible refine Eq.trans (each_forget P _ _ (fun s x => ?_) _) ?_
    | (simp only [bankCause_forget, modSafe_forget, Nat.reduceLT, ite_forget, ite_self, hev, hev.rcd, hev.fresh,
        hev.evt, h_tim, h_hb, h_bank, h_ax, h_safe, r_GATE_BSTUVCNT, r_GATE_FLT, r_PROT_AXSTAT, Fin.is_lt])

theorem execWatchdogEnable_forget (P : Parts) (d : Word) (s : State) (t' : State) (hrec : MayRecord P) (h_free :
    P.free = true) (h_clk : P.clk = true) (h_link : P.link = true) (h_ops : P.ops = true) (h_can : P.can = true)
    (h_tim : P.tim = true) (h_hb : P.hb = true) (h_bank : P.bank = true) (h_ax : P.ax = true) (h_fus : P.fus = true)
    (h_sched : P.sched = true) (h_sol : P.sol = true) (h_img : P.img = true) (h_pwr : P.pwr = true) (h_store : P.store
    = true) (h_pair : P.pair = true) (h_safe : P.safe = true) (h_win : P.win = true) (h_all : ∀ b, b ∈ P.blks) (h' :
    execWatchdogEnable d s = .next t') : forget P t' = forget P s := by
  unfold execWatchdogEnable at h'
  injection h' with h'; subst h'
  try dsimp only
  (repeat' split) <;> first | with_reducible rfl | simp only [hostWord_forget, implies_true, Nat.reduceLT, ite_forget,
      ite_self, hrec, hrec.queue.raises, hrec.queue, hrec.recs, h_free, h_clk, h_link, h_ops, h_can, h_tim, h_hb,
      h_bank, h_ax, h_fus, h_sched, h_sol, h_img, h_pwr, h_store, h_pair, h_safe, h_win, h_all, Fin.is_lt]

theorem execWatchdogKick_forget (P : Parts) (at' : Fin 200) (d : Word) (s : State) (t' : State) (hev : MayRaise P)
    (h_ops : P.ops = true) (h_tim : P.tim = true) (h_hb : P.hb = true) (h_bank : P.bank = true) (h_ax : P.ax = true)
    (h_pair : P.pair = true) (h_safe : P.safe = true) (r_GATE_BSTUVCNT : P.Has .GATE_BSTUVCNT) (r_GATE_FLT : P.Has
    .GATE_FLT) (r_PROT_AXSTAT : P.Has .PROT_AXSTAT) (r_SAFE_CAUSE : P.Has .SAFE_CAUSE) (r_SAFE_DETAIL : P.Has
    .SAFE_DETAIL) (h' : execWatchdogKick at' d s = .next t') : forget P t' = forget P s := by
  unfold execWatchdogKick at h'
  injection h' with h'; subst h'
  unfold State.whenHost
  try dsimp only
  (repeat' split) <;> first | with_reducible rfl | simp only [watchdogKick_forget, Nat.reduceLT, ite_forget, ite_self,
      hev, hev.rcd, hev.fresh, hev.evt, h_ops, h_tim, h_hb, h_bank, h_ax, h_pair, h_safe, r_GATE_BSTUVCNT, r_GATE_FLT,
      r_PROT_AXSTAT, r_SAFE_CAUSE, r_SAFE_DETAIL, Fin.is_lt]

theorem execWdogLate_forget (P : Parts) (at' : Fin 200) (s : State) (t' : State) (hev : MayRaise P) (h_ops : P.ops =
    true) (h_tim : P.tim = true) (h_hb : P.hb = true) (h_bank : P.bank = true) (h_ax : P.ax = true) (h_pair : P.pair =
    true) (h_safe : P.safe = true) (r_GATE_BSTUVCNT : P.Has .GATE_BSTUVCNT) (r_GATE_FLT : P.Has .GATE_FLT)
    (r_PROT_AXSTAT : P.Has .PROT_AXSTAT) (r_SAFE_CAUSE : P.Has .SAFE_CAUSE) (r_SAFE_DETAIL : P.Has .SAFE_DETAIL) (h' :
    execWdogLate at' s = .next t') : forget P t' = forget P s := by
  unfold execWdogLate at h'
  injection h' with h'; subst h'
  unfold State.whenUp
  try dsimp only
  (repeat' split) <;> first | with_reducible rfl | simp only [wdogLate_forget, Nat.reduceLT, ite_forget, ite_self,
      hev, hev.rcd, hev.fresh, hev.evt, h_ops, h_tim, h_hb, h_bank, h_ax, h_pair, h_safe, r_GATE_BSTUVCNT, r_GATE_FLT,
      r_PROT_AXSTAT, r_SAFE_CAUSE, r_SAFE_DETAIL, Fin.is_lt]

theorem execSafeClr_forget (P : Parts) (s : State) (t' : State) (hev : MayRaise P) (h_tim : P.tim = true) (h_hb : P.hb
    = true) (h_bank : P.bank = true) (h_ax : P.ax = true) (h_safe : P.safe = true) (r_GATE_BSTUVCNT : P.Has
    .GATE_BSTUVCNT) (r_GATE_FLT : P.Has .GATE_FLT) (r_PROT_AXSTAT : P.Has .PROT_AXSTAT) (h' : execSafeClr s = .next
    t') : forget P t' = forget P s := by
  unfold execSafeClr at h'
  injection h' with h'; subst h'
  unfold State.whenHost
  try dsimp only
  (repeat' split) <;> first | with_reducible rfl | simp only [safeClr_forget, Nat.reduceLT, ite_forget, ite_self, hev,
      hev.rcd, hev.fresh, hev.evt, h_tim, h_hb, h_bank, h_ax, h_safe, r_GATE_BSTUVCNT, r_GATE_FLT, r_PROT_AXSTAT,
      Fin.is_lt]

theorem execSafePlfltClear_forget (P : Parts) (hi : Bool) (d : Word) (s : State) (t' : State) (hrec : MayRecord P) (h_free : P.free =
    true) (h_clk : P.clk = true) (h_link : P.link = true) (h_ops : P.ops = true) (h_can : P.can = true) (h_tim : P.tim
    = true) (h_hb : P.hb = true) (h_bank : P.bank = true) (h_ax : P.ax = true) (h_fus : P.fus = true) (h_sched :
    P.sched = true) (h_sol : P.sol = true) (h_img : P.img = true) (h_pwr : P.pwr = true) (h_store : P.store = true)
    (h_pair : P.pair = true) (h_safe : P.safe = true) (h_win : P.win = true) (h_all : ∀ b, b ∈ P.blks) (h' :
    execSafePlfltClear hi d s = .next t') : forget P t' = forget P s := by
  unfold execSafePlfltClear at h'
  injection h' with h'; subst h'
  try dsimp only
  (repeat' split) <;> first | with_reducible rfl | simp only [hostWord_forget, implies_true, Nat.reduceLT, ite_forget,
      ite_self, hrec, hrec.queue.raises, hrec.queue, hrec.recs, h_free, h_clk, h_link, h_ops, h_can, h_tim, h_hb,
      h_bank, h_ax, h_fus, h_sched, h_sol, h_img, h_pwr, h_store, h_pair, h_safe, h_win, h_all, Fin.is_lt]

theorem execArmPrepare_forget (P : Parts) (b : Fin 8) (s : State) (t' : State) (hrec : MayRecord P) (h_free : P.free =
    true) (h_clk : P.clk = true) (h_link : P.link = true) (h_ops : P.ops = true) (h_can : P.can = true) (h_tim : P.tim
    = true) (h_hb : P.hb = true) (h_bank : P.bank = true) (h_ax : P.ax = true) (h_fus : P.fus = true) (h_sched :
    P.sched = true) (h_sol : P.sol = true) (h_img : P.img = true) (h_pwr : P.pwr = true) (h_store : P.store = true)
    (h_pair : P.pair = true) (h_safe : P.safe = true) (h_win : P.win = true) (h_all : ∀ b, b ∈ P.blks) (h' :
    execArmPrepare b s = .next t') : forget P t' = forget P s := by
  unfold execArmPrepare at h'
  injection h' with h'; subst h'
  try dsimp only
  (repeat' split) <;> first | with_reducible rfl | simp only [hostWord_forget, implies_true, Nat.reduceLT, ite_forget,
      ite_self, hrec, hrec.queue.raises, hrec.queue, hrec.recs, h_free, h_clk, h_link, h_ops, h_can, h_tim, h_hb,
      h_bank, h_ax, h_fus, h_sched, h_sol, h_img, h_pwr, h_store, h_pair, h_safe, h_win, h_all, Fin.is_lt]

theorem execArmComplete_forget (P : Parts) (at' : Fin 200) (b : Fin 8) (s : State) (t' : State) (hrec : MayRecord P)
    (h_free : P.free = true) (h_clk : P.clk = true) (h_link : P.link = true) (h_ops : P.ops = true) (h_can : P.can =
    true) (h_tim : P.tim = true) (h_hb : P.hb = true) (h_bank : P.bank = true) (h_ax : P.ax = true) (h_fus : P.fus =
    true) (h_sched : P.sched = true) (h_sol : P.sol = true) (h_img : P.img = true) (h_pwr : P.pwr = true) (h_store :
    P.store = true) (h_pair : P.pair = true) (h_safe : P.safe = true) (h_win : P.win = true) (h_all : ∀ b, b ∈ P.blks)
    (h' : execArmComplete at' b s = .next t') : forget P t' = forget P s := by
  unfold execArmComplete at h'
  injection h' with h'; subst h'
  try dsimp only
  (repeat' split) <;> first | with_reducible rfl | simp only [hostWordAt_forget, implies_true, Nat.reduceLT,
      ite_forget, ite_self, hrec, hrec.queue.raises, hrec.queue, hrec.recs, h_free, h_clk, h_link, h_ops, h_can,
      h_tim, h_hb, h_bank, h_ax, h_fus, h_sched, h_sol, h_img, h_pwr, h_store, h_pair, h_safe, h_win, h_all,
      Fin.is_lt]

theorem execDisarm_forget (P : Parts) (at' : Fin 200) (b : Fin 8) (s : State) (t' : State) (hrec : MayRecord P)
    (h_free : P.free = true) (h_clk : P.clk = true) (h_link : P.link = true) (h_ops : P.ops = true) (h_can : P.can =
    true) (h_tim : P.tim = true) (h_hb : P.hb = true) (h_bank : P.bank = true) (h_ax : P.ax = true) (h_fus : P.fus =
    true) (h_sched : P.sched = true) (h_sol : P.sol = true) (h_img : P.img = true) (h_pwr : P.pwr = true) (h_store :
    P.store = true) (h_pair : P.pair = true) (h_safe : P.safe = true) (h_win : P.win = true) (h_all : ∀ b, b ∈ P.blks)
    (h' : execDisarm at' b s = .next t') : forget P t' = forget P s := by
  unfold execDisarm at h'
  injection h' with h'; subst h'
  try dsimp only
  (repeat' split) <;> first | with_reducible rfl | simp only [hostWordAt_forget, implies_true, Nat.reduceLT,
      ite_forget, ite_self, hrec, hrec.queue.raises, hrec.queue, hrec.recs, h_free, h_clk, h_link, h_ops, h_can,
      h_tim, h_hb, h_bank, h_ax, h_fus, h_sched, h_sol, h_img, h_pwr, h_store, h_pair, h_safe, h_win, h_all,
      Fin.is_lt]

theorem execStartupTestDone_forget (P : Parts) (failed : BitVec 5) (s : State) (t' : State) (h_safe : P.safe = true)
    (h' : execStartupTestDone failed s = .next t') : forget P t' = forget P s := by
  unfold execStartupTestDone at h'
  injection h' with h'; subst h'
  unfold State.whenUp
  try dsimp only
  repeat' first
    | with_reducible rfl
    | split
    | (simp only [modSafe_forget, Nat.reduceLT, ite_forget, ite_self, h_safe, Fin.is_lt]; done)
    | with_reducible refine Eq.trans (each_forget P _ _ (fun s x => ?_) _) ?_
    | (simp only [modSafe_forget, Nat.reduceLT, ite_forget, ite_self, h_safe, Fin.is_lt])

theorem execRstNAssert_forget (P : Parts) (at' : Fin 200) (low : ResetLow) (s : State) (t' : State) (hev : MayRaise P)
    (h_free : P.free = true) (h_ops : P.ops = true) (h_can : P.can = true) (h_tim : P.tim = true) (h_hb : P.hb = true)
    (h_bank : P.bank = true) (h_ax : P.ax = true) (h_fus : P.fus = true) (h_sched : P.sched = true) (h_sol : P.sol =
    true) (h_img : P.img = true) (h_pwr : P.pwr = true) (h_pair : P.pair = true) (h_lands : P.lands = true)
    (r_GATE_BSTUVCNT : P.Has .GATE_BSTUVCNT) (r_GATE_FLT : P.Has .GATE_FLT) (r_PROT_AXSTAT : P.Has .PROT_AXSTAT)
    (r_PWR_DOM_REQ : P.Has .PWR_DOM_REQ) (h' : execRstNAssert at' low s = .next t') : forget P t' = forget P s := by
  unfold execRstNAssert at h'
  injection h' with h'; subst h'
  try dsimp only
  repeat' first
    | with_reducible rfl
    | split
    | (simp only [modLands_forget, strapped_forget, resetFrom_forget, Nat.reduceLT, ite_forget, ite_self, hev, hev.rcd, hev.fresh,
        hev.evt, h_free, h_ops, h_can, h_tim, h_hb, h_bank, h_ax, h_fus, h_sched, h_sol, h_img, h_pwr, h_pair,
        h_lands, r_GATE_BSTUVCNT, r_GATE_FLT, r_PROT_AXSTAT, r_PWR_DOM_REQ, Fin.is_lt]; done)
    | with_reducible exact passes_eq _ _ _ _ (by assumption) (by assumption)
    | with_reducible refine Eq.trans (passes_eq _ _ _ _ (by assumption) (by assumption)) ?_
    | with_reducible refine Eq.trans (each_forget P _ _ (fun s x => ?_) _) ?_
    | (simp only [modLands_forget, strapped_forget, resetFrom_forget, Nat.reduceLT, ite_forget, ite_self, hev, hev.rcd, hev.fresh,
        hev.evt, h_free, h_ops, h_can, h_tim, h_hb, h_bank, h_ax, h_fus, h_sched, h_sol, h_img, h_pwr, h_pair,
        h_lands, r_GATE_BSTUVCNT, r_GATE_FLT, r_PROT_AXSTAT, r_PWR_DOM_REQ, Fin.is_lt])

theorem execResetRelease_forget (P : Parts) (s : State) (t' : State) (hrec : MayRecord P)
    (h_free : P.free = true) (h_clk : P.clk = true) (h_link : P.link = true) (h_ops : P.ops = true) (h_can : P.can =
    true) (h_tim : P.tim = true) (h_hb : P.hb = true) (h_bank : P.bank = true) (h_ax : P.ax = true) (h_fus : P.fus =
    true) (h_sched : P.sched = true) (h_sol : P.sol = true) (h_img : P.img = true) (h_pair : P.pair = true) (h_safe :
    P.safe = true) (h_lands : P.lands = true) (h_all : ∀ b, b ∈ P.blks) (h' : execResetRelease s = .next
    t') : forget P t' = forget P s := by
  unfold execResetRelease at h'
  injection h' with h'; subst h'
  try dsimp only
  (repeat' split) <;> first | with_reducible rfl | simp only [resetRelease_forget, implies_true,
      Nat.reduceLT, ite_forget, ite_self, hrec, hrec.queue.raises, hrec.queue, hrec.recs, h_free, h_clk, h_link,
      h_ops, h_can, h_tim, h_hb, h_bank, h_ax, h_fus, h_sched, h_sol, h_img, h_pair, h_safe, h_lands, h_all,
      Fin.is_lt]

theorem execSoftwareReset_forget (P : Parts) (at' : Fin 200) (s : State) (t' : State) (hev : MayRaise P) (h_free :
    P.free = true) (h_ops : P.ops = true) (h_can : P.can = true) (h_tim : P.tim = true) (h_hb : P.hb = true) (h_bank :
    P.bank = true) (h_ax : P.ax = true) (h_fus : P.fus = true) (h_sched : P.sched = true) (h_sol : P.sol = true)
    (h_img : P.img = true) (h_pwr : P.pwr = true) (h_pair : P.pair = true) (h_lands : P.lands = true) (r_GATE_BSTUVCNT
    : P.Has .GATE_BSTUVCNT) (r_GATE_FLT : P.Has .GATE_FLT) (r_PROT_AXSTAT : P.Has .PROT_AXSTAT) (r_PWR_DOM_REQ : P.Has
    .PWR_DOM_REQ) (h' : execSoftwareReset at' s = .next t') : forget P t' = forget P s := by
  unfold execSoftwareReset at h'
  injection h' with h'; subst h'
  unfold State.whenHost
  try dsimp only
  (repeat' split) <;> first | with_reducible rfl | simp only [softwareReset_forget, Nat.reduceLT, ite_forget,
      ite_self, hev, hev.rcd, hev.fresh, hev.evt, h_free, h_ops, h_can, h_tim, h_hb, h_bank, h_ax, h_fus, h_sched,
      h_sol, h_img, h_pwr, h_pair, h_lands, r_GATE_BSTUVCNT, r_GATE_FLT, r_PROT_AXSTAT, r_PWR_DOM_REQ, Fin.is_lt]

theorem execTapExtest_forget (P : Parts) (at' : Fin 200) (s : State) (t' : State) (hev : MayRaise P) (h_free : P.free
    = true) (h_ops : P.ops = true) (h_can : P.can = true) (h_tim : P.tim = true) (h_hb : P.hb = true) (h_bank : P.bank
    = true) (h_ax : P.ax = true) (h_fus : P.fus = true) (h_sched : P.sched = true) (h_sol : P.sol = true) (h_img :
    P.img = true) (h_pwr : P.pwr = true) (h_pair : P.pair = true) (h_lands : P.lands = true) (r_GATE_BSTUVCNT : P.Has
    .GATE_BSTUVCNT) (r_GATE_FLT : P.Has .GATE_FLT) (r_PROT_AXSTAT : P.Has .PROT_AXSTAT) (r_PWR_DOM_REQ : P.Has
    .PWR_DOM_REQ) (h' : execTapExtest at' s = .next t') : forget P t' = forget P s := by
  unfold execTapExtest at h'
  injection h' with h'; subst h'
  try dsimp only
  (repeat' split) <;> first | with_reducible rfl | simp only [tapHolds_forget, Nat.reduceLT, ite_forget, ite_self,
      hev, hev.rcd, hev.fresh, hev.evt, h_free, h_ops, h_can, h_tim, h_hb, h_bank, h_ax, h_fus, h_sched, h_sol, h_img,
      h_pwr, h_pair, h_lands, r_GATE_BSTUVCNT, r_GATE_FLT, r_PROT_AXSTAT, r_PWR_DOM_REQ, Fin.is_lt]

theorem execTapHighz_forget (P : Parts) (at' : Fin 200) (s : State) (t' : State) (hev : MayRaise P) (h_free : P.free =
    true) (h_ops : P.ops = true) (h_can : P.can = true) (h_tim : P.tim = true) (h_hb : P.hb = true) (h_bank : P.bank =
    true) (h_ax : P.ax = true) (h_fus : P.fus = true) (h_sched : P.sched = true) (h_sol : P.sol = true) (h_img : P.img
    = true) (h_pwr : P.pwr = true) (h_pair : P.pair = true) (h_lands : P.lands = true) (r_GATE_BSTUVCNT : P.Has
    .GATE_BSTUVCNT) (r_GATE_FLT : P.Has .GATE_FLT) (r_PROT_AXSTAT : P.Has .PROT_AXSTAT) (r_PWR_DOM_REQ : P.Has
    .PWR_DOM_REQ) (h' : execTapHighz at' s = .next t') : forget P t' = forget P s := by
  unfold execTapHighz at h'
  injection h' with h'; subst h'
  try dsimp only
  (repeat' split) <;> first | with_reducible rfl | simp only [tapHolds_forget, Nat.reduceLT, ite_forget, ite_self,
      hev, hev.rcd, hev.fresh, hev.evt, h_free, h_ops, h_can, h_tim, h_hb, h_bank, h_ax, h_fus, h_sched, h_sol, h_img,
      h_pwr, h_pair, h_lands, r_GATE_BSTUVCNT, r_GATE_FLT, r_PROT_AXSTAT, r_PWR_DOM_REQ, Fin.is_lt]

theorem execTapClamp_forget (P : Parts) (at' : Fin 200) (s : State) (t' : State) (hev : MayRaise P) (h_free : P.free =
    true) (h_ops : P.ops = true) (h_can : P.can = true) (h_tim : P.tim = true) (h_hb : P.hb = true) (h_bank : P.bank =
    true) (h_ax : P.ax = true) (h_fus : P.fus = true) (h_sched : P.sched = true) (h_sol : P.sol = true) (h_img : P.img
    = true) (h_pwr : P.pwr = true) (h_pair : P.pair = true) (h_lands : P.lands = true) (r_GATE_BSTUVCNT : P.Has
    .GATE_BSTUVCNT) (r_GATE_FLT : P.Has .GATE_FLT) (r_PROT_AXSTAT : P.Has .PROT_AXSTAT) (r_PWR_DOM_REQ : P.Has
    .PWR_DOM_REQ) (h' : execTapClamp at' s = .next t') : forget P t' = forget P s := by
  unfold execTapClamp at h'
  injection h' with h'; subst h'
  try dsimp only
  (repeat' split) <;> first | with_reducible rfl | simp only [tapHolds_forget, Nat.reduceLT, ite_forget, ite_self,
      hev, hev.rcd, hev.fresh, hev.evt, h_free, h_ops, h_can, h_tim, h_hb, h_bank, h_ax, h_fus, h_sched, h_sol, h_img,
      h_pwr, h_pair, h_lands, r_GATE_BSTUVCNT, r_GATE_FLT, r_PROT_AXSTAT, r_PWR_DOM_REQ, Fin.is_lt]

theorem execTapIdcode_forget (P : Parts) (s : State) (t' : State) (h_lands : P.lands = true) (h' : execTapIdcode s =
    .next t') : forget P t' = forget P s := by
  unfold execTapIdcode at h'
  injection h' with h'; subst h'
  try dsimp only
  (repeat' split) <;> first | with_reducible rfl | simp only [modLands_forget, tapRuns_forget, Nat.reduceLT,
      ite_forget, ite_self, h_lands, Fin.is_lt]

theorem execTapSamplePreload_forget (P : Parts) (cells : Nat) (s : State) (t' : State) (h_lands : P.lands = true) (h'
    : execTapSamplePreload cells s = .next t') : forget P t' = forget P s := by
  unfold execTapSamplePreload at h'
  injection h' with h'; subst h'
  try dsimp only
  (repeat' split) <;> first | with_reducible rfl | simp only [modLands_forget, tapRuns_forget, Nat.reduceLT,
      ite_forget, ite_self, h_lands, Fin.is_lt]

theorem execTapBypass_forget (P : Parts) (s : State) (t' : State) (h_lands : P.lands = true) (h' : execTapBypass s =
    .next t') : forget P t' = forget P s := by
  unfold execTapBypass at h'
  injection h' with h'; subst h'
  try dsimp only
  (repeat' split) <;> first | with_reducible rfl | simp only [tapRuns_forget, Nat.reduceLT, ite_forget, ite_self,
      h_lands, Fin.is_lt]

theorem execTapReset_forget (P : Parts) (s : State) (t' : State) (h_lands : P.lands = true) (h' : execTapReset s =
    .next t') : forget P t' = forget P s := by
  unfold execTapReset at h'
  injection h' with h'; subst h'
  try dsimp only
  (repeat' split) <;> first | with_reducible rfl | simp only [tapRuns_forget, Nat.reduceLT, ite_forget, ite_self,
      h_lands, Fin.is_lt]

theorem execGatePlateauReached_forget (P : Parts) (h : Fin 72) (hi : Bool) (s : State) (t' : State) (h_hb : P.hb =
    true) (h' : execGatePlateauReached h hi s = .next t') : forget P t' = forget P s := by
  unfold execGatePlateauReached at h'
  injection h' with h'; subst h'
  try dsimp only
  (repeat' split) <;> first | with_reducible rfl | simp only [modGate_forget, Nat.reduceLT, ite_forget, ite_self,
      h_hb, Fin.is_lt]

theorem execSaliencyDone_forget (P : Parts) (a : Fin 24) (peaks : List (BitVec 16)) (s : State) (t' : State) (h_free :
    P.free = true) (h_ax : P.ax = true) (h' : execSaliencyDone a peaks s = .next t') : forget P t' = forget P s := by
  unfold execSaliencyDone at h'
  injection h' with h'; subst h'
  try dsimp only
  (repeat' split) <;> first | with_reducible rfl | simp only [saliencyDone_forget, Nat.reduceLT, ite_forget, ite_self,
      h_free, h_ax, Fin.is_lt]

theorem execVmainOkFall_forget (P : Parts) (s : State) (t' : State) (hev : MayRaise P) (h_free : P.free = true) (h_clk
    : P.clk = true) (h_ops : P.ops = true) (h_can : P.can = true) (h_tim : P.tim = true) (h_hb : P.hb = true) (h_bank
    : P.bank = true) (h_ax : P.ax = true) (h_fus : P.fus = true) (h_sched : P.sched = true) (h_sol : P.sol = true)
    (h_img : P.img = true) (h_pwr : P.pwr = true) (h_store : P.store = true) (h_pair : P.pair = true) (h_lands :
    P.lands = true) (h_win : P.win = true) (r_GATE_BSTUVCNT : P.Has .GATE_BSTUVCNT) (r_GATE_FLT : P.Has .GATE_FLT)
    (r_PWR_DOM_REQ : P.Has .PWR_DOM_REQ) (r_STORE_JLOST : P.Has .STORE_JLOST) (h' : execVmainOkFall s = .next t') :
    forget P t' = forget P s := by
  unfold execVmainOkFall at h'
  injection h' with h'; subst h'
  try dsimp only
  (repeat' split) <;> first | with_reducible rfl | simp only [vmainOkFall_forget, Nat.reduceLT, ite_forget, ite_self,
      hev, hev.rcd, hev.fresh, hev.evt, h_free, h_clk, h_ops, h_can, h_tim, h_hb, h_bank, h_ax, h_fus, h_sched, h_sol,
      h_img, h_pwr, h_store, h_pair, h_lands, h_win, r_GATE_BSTUVCNT, r_GATE_FLT, r_PWR_DOM_REQ, r_STORE_JLOST,
      Fin.is_lt]

theorem execVioOkRise_forget (P : Parts) (s : State) (t' : State) (h_pwr : P.pwr = true) (h' : execVioOkRise s = .next
    t') : forget P t' = forget P s := by
  unfold execVioOkRise at h'
  injection h' with h'; subst h'
  try dsimp only
  (repeat' split) <;> first | with_reducible rfl | simp only [modPwr_forget, Nat.reduceLT, ite_forget, ite_self,
      h_pwr, Fin.is_lt]

end Sys2Proof.Laws
end

