-- ==== Sys2Proof/Laws/CalmExec.lean ====
section
/-! SUPPORT. Sys2Proof/Laws/CalmExec.lean: the commands that drive no switch on, and those that arm no bank. -/
namespace Sys2Proof.Laws
set_option Elab.async false
set_option linter.unusedSimpArgs false
open Sys2Proof.Machine Sys2Proof.Safety

theorem execRegisterWrite_calm {at' : Fin 200} {a d : Word} {s : State} {t' : State} (h' : execRegisterWrite at' a d s
    = .next t') : Calm false s t' := by
  have h₀ := Calm.refl false s
  unfold execRegisterWrite at h'
  injection h' with h'; subst h'
  unfold State.whenHost
  try dsimp only
  repeat' first
    | with_reducible assumption
    | with_reducible apply writeWord_calm
    | split
    | dsimp only

theorem execNop_calm {hdr : Word} {s : State} {t' : State} (h' : execNop hdr s = .next t') : Calm false s t' := by
  have h₀ := Calm.refl false s
  unfold execNop at h'
  injection h' with h'; subst h'
  unfold State.whenHost
  try dsimp only
  repeat' first
    | with_reducible assumption
    | with_reducible apply spiFrame_calm
    | split
    | dsimp only

theorem execRead_calm {hdr addr : Word} {words : Nat} {s : State} {t' : State} (h' : execRead hdr addr words s = .next
    t') : Calm false s t' := by
  have h₀ := Calm.refl false s
  unfold execRead at h'
  injection h' with h'; subst h'
  unfold State.whenHost
  try dsimp only
  repeat' first
    | with_reducible assumption
    | with_reducible apply spiFrame_calm
    | split
    | dsimp only

theorem execReadFixed_calm {hdr addr : Word} {words : Nat} {s : State} {t' : State} (h' : execReadFixed hdr addr words
    s = .next t') : Calm false s t' := by
  have h₀ := Calm.refl false s
  unfold execReadFixed at h'
  injection h' with h'; subst h'
  unfold State.whenHost
  try dsimp only
  repeat' first
    | with_reducible assumption
    | with_reducible apply spiFrame_calm
    | split
    | dsimp only

theorem execWrite_calm {at' : Fin 200} {hdr addr : Word} {body : List Word} {s : State} {t' : State} (h' : execWrite
    at' hdr addr body s = .next t') : Calm false s t' := by
  have h₀ := Calm.refl false s
  unfold execWrite at h'
  injection h' with h'; subst h'
  unfold State.whenHost
  try dsimp only
  repeat' first
    | with_reducible assumption
    | with_reducible apply spiFrame_calm
    | split
    | dsimp only

theorem execWriteFixed_calm {at' : Fin 200} {hdr addr : Word} {body : List Word} {s : State} {t' : State} (h' :
    execWriteFixed at' hdr addr body s = .next t') : Calm false s t' := by
  have h₀ := Calm.refl false s
  unfold execWriteFixed at h'
  injection h' with h'; subst h'
  unfold State.whenHost
  try dsimp only
  repeat' first
    | with_reducible assumption
    | with_reducible apply spiFrame_calm
    | split
    | dsimp only

theorem execTick_calm {s : State} {t' : State} (h' : execTick s = .next t') : Calm false s t' := by
  have h₀ := Calm.refl false s
  unfold execTick at h'
  injection h' with h'; subst h'
  try dsimp only
  repeat' first
    | with_reducible assumption
    | with_reducible apply tick_calm
    | split
    | dsimp only

theorem execMonitorWindowEnd_calm {arm : Bool} {ref core : Word} {lost : Bool} {s : State} {t' : State} (h' :
    execMonitorWindowEnd ref core lost s = .next t') : Calm arm s t' := by
  have h₀ := Calm.refl arm s
  unfold execMonitorWindowEnd at h'
  injection h' with h'; subst h'
  unfold State.whenUp
  try dsimp only
  repeat' first
    | with_reducible assumption
    | with_reducible apply monitorWindow_calm
    | split
    | dsimp only

theorem execPllUnlock_calm {arm : Bool} {s : State} {t' : State} (h' : execPllUnlock s = .next t') : Calm arm s t' :=
    by
  have h₀ := Calm.refl arm s
  unfold execPllUnlock at h'
  injection h' with h'; subst h'
  unfold State.whenUp
  try dsimp only
  repeat' first
    | with_reducible assumption
    | with_reducible apply clockFlags_calm
    | with_reducible apply modClk_calm
    | split
    | dsimp only

theorem execImageLoad_calm {s : State} {t' : State} (h' : execImageLoad s = .next t') : Calm false s t' := by
  have h₀ := Calm.refl false s
  unfold execImageLoad at h'
  injection h' with h'; subst h'
  try dsimp only
  repeat' first
    | with_reducible assumption
    | with_reducible apply ring_calm
    | split
    | dsimp only

theorem execWholeImageSwap_calm {arm : Bool} {s : State} {t' : State} (h' : execWholeImageSwap s = .next t') : Calm
    arm s t' := by
  have h₀ := Calm.refl arm s
  unfold execWholeImageSwap at h'
  injection h' with h'; subst h'
  unfold State.whenUp
  try dsimp only
  repeat' first
    | with_reducible assumption
    | with_reducible apply wholeImageSwap_calm
    | split
    | dsimp only

theorem execBankImageSwap_calm {arm : Bool} {s : State} {t' : State} (h' : execBankImageSwap s = .next t') : Calm arm
    s t' := by
  have h₀ := Calm.refl arm s
  unfold execBankImageSwap at h'
  injection h' with h'; subst h'
  unfold State.whenUp
  try dsimp only
  repeat' first
    | with_reducible assumption
    | with_reducible apply bankImageSwap_calm
    | split
    | dsimp only

theorem execShuntCal_calm {s : State} {t' : State} (h' : execShuntCal s = .next t') : Calm false s t' := by
  have h₀ := Calm.refl false s
  unfold execShuntCal at h'
  injection h' with h'; subst h'
  try dsimp only
  repeat' first
    | with_reducible assumption
    | with_reducible apply ring_calm
    | split
    | dsimp only

theorem execDlineCal_calm {s : State} {t' : State} (h' : execDlineCal s = .next t') : Calm false s t' := by
  have h₀ := Calm.refl false s
  unfold execDlineCal at h'
  injection h' with h'; subst h'
  try dsimp only
  repeat' first
    | with_reducible assumption
    | with_reducible apply ring_calm
    | split
    | dsimp only

theorem execSelfTest_calm {s : State} {t' : State} (h' : execSelfTest s = .next t') : Calm false s t' := by
  have h₀ := Calm.refl false s
  unfold execSelfTest at h'
  injection h' with h'; subst h'
  try dsimp only
  repeat' first
    | with_reducible assumption
    | with_reducible apply ring_calm
    | split
    | dsimp only

theorem execMotorId_calm {s : State} {t' : State} (h' : execMotorId s = .next t') : Calm false s t' := by
  have h₀ := Calm.refl false s
  unfold execMotorId at h'
  injection h' with h'; subst h'
  try dsimp only
  repeat' first
    | with_reducible assumption
    | with_reducible apply ring_calm
    | split
    | dsimp only

theorem execCompact_calm {s : State} {t' : State} (h' : execCompact s = .next t') : Calm false s t' := by
  have h₀ := Calm.refl false s
  unfold execCompact at h'
  injection h' with h'; subst h'
  try dsimp only
  repeat' first
    | with_reducible assumption
    | with_reducible apply ring_calm
    | split
    | dsimp only

theorem execOpEnd_calm {arm : Bool} {slot : Fin 8} {model : Bool} {vals : List (BitVec 32)} {s : State} {t' : State}
    (h' : execOpEnd slot model vals s = .next t') : Calm arm s t' := by
  have h₀ := Calm.refl arm s
  unfold execOpEnd at h'
  injection h' with h'; subst h'
  unfold State.whenUp
  try dsimp only
  repeat' first
    | with_reducible assumption
    | with_reducible apply opEnd_calm
    | split
    | dsimp only

theorem execOpTimeout_calm {arm : Bool} {slot : Fin 8} {s : State} {t' : State} (h' : execOpTimeout slot s = .next t')
    : Calm arm s t' := by
  have h₀ := Calm.refl arm s
  unfold execOpTimeout at h'
  injection h' with h'; subst h'
  unfold State.whenUp
  try dsimp only
  repeat' first
    | with_reducible assumption
    | with_reducible apply dropOp_calm
    | split
    | dsimp only

theorem execOpRelease_calm {d : Word} {s : State} {t' : State} (h' : execOpRelease d s = .next t') : Calm false s t'
    := by
  have h₀ := Calm.refl false s
  unfold execOpRelease at h'
  injection h' with h'; subst h'
  try dsimp only
  repeat' first
    | with_reducible assumption
    | with_reducible apply hostWord_calm
    | split
    | dsimp only

theorem execOpAbort_calm {d : Word} {s : State} {t' : State} (h' : execOpAbort d s = .next t') : Calm false s t'
    := by
  have h₀ := Calm.refl false s
  unfold execOpAbort at h'
  injection h' with h'; subst h'
  try dsimp only
  repeat' first
    | with_reducible assumption
    | with_reducible apply hostWord_calm
    | split
    | dsimp only

theorem execStartEdge_calm {arm : Bool} {t : Fin 24} {s : State} {t' : State} (h' : execStartEdge t s = .next t') :
    Calm arm s t' := by
  have h₀ := Calm.refl arm s
  unfold execStartEdge at h'
  injection h' with h'; subst h'
  try dsimp only
  repeat' first
    | with_reducible assumption
    | with_reducible apply startEdge_calm
    | split
    | dsimp only

theorem execTimerWrap_calm {arm : Bool} {t : Fin 24} {s : State} {t' : State} (h' : execTimerWrap t s = .next t') :
    Calm arm s t' := by
  have h₀ := Calm.refl arm s
  unfold execTimerWrap at h'
  injection h' with h'; subst h'
  try dsimp only
  repeat' first
    | with_reducible assumption
    | with_reducible apply wrap_calm
    | split
    | dsimp only

theorem execDlcCalCycle_calm {arm : Bool} {b : Fin 8} {ok : Bool} {bias : Byte} {tapdly : Word} {taps : List (BitVec
    6)} {s : State} {t' : State} (h' : execDlcCalCycle b ok bias tapdly taps s = .next t') : Calm arm s t' := by
  have h₀ := Calm.refl arm s
  unfold execDlcCalCycle at h'
  injection h' with h'; subst h'
  try dsimp only
  repeat' first
    | with_reducible assumption
    | with_reducible apply dlcCycle_calm
    | split
    | dsimp only

theorem execCommandChange_calm {arm : Bool} {at' : Fin 200} {h : Fin 72} {s : State} {t' : State} (h' :
    execCommandChange at' h s = .next t') : Calm arm s t' := by
  have h₀ := Calm.refl arm s
  unfold execCommandChange at h'
  injection h' with h'; subst h'
  try dsimp only
  repeat' first
    | with_reducible assumption
    | with_reducible apply redrive_calm
    | split
    | dsimp only

theorem execGateOffSensed_calm {arm : Bool} {at' : Fin 200} {h : Fin 72} {hi : Bool} {s : State} {t' : State} (h' :
    execGateOffSensed at' h hi s = .next t') : Calm arm s t' := by
  have h₀ := Calm.refl arm s
  unfold execGateOffSensed at h'
  injection h' with h'; subst h'
  try dsimp only
  repeat' first
    | with_reducible assumption
    | with_reducible apply gateOffSensed_calm
    | split
    | dsimp only

theorem execTgminExpiry_calm {arm : Bool} {at' : Fin 200} {h : Fin 72} {hi : Bool} {s : State} {t' : State} (h' :
    execTgminExpiry at' h hi s = .next t') : Calm arm s t' := by
  have h₀ := Calm.refl arm s
  unfold execTgminExpiry at h'
  injection h' with h'; subst h'
  try dsimp only
  repeat' first
    | with_reducible assumption
    | with_reducible apply turnOff_calm
    | split
    | dsimp only

theorem execGateStuck_calm {arm : Bool} {at' : Fin 200} {h : Fin 72} {hi : Bool} {s : State} {t' : State} (h' :
    execGateStuck at' h hi s = .next t') : Calm arm s t' := by
  have h₀ := Calm.refl arm s
  unfold execGateStuck at h'
  injection h' with h'; subst h'
  try dsimp only
  repeat' first
    | with_reducible assumption
    | with_reducible apply gateStuck_calm
    | split
    | dsimp only

theorem execGateFgn_calm {arm : Bool} {at' : Fin 200} {h : Fin 72} {hi : Bool} {s : State} {t' : State} (h' :
    execGateFgn at' h hi s = .next t') : Calm arm s t' := by
  have h₀ := Calm.refl arm s
  unfold execGateFgn at h'
  injection h' with h'; subst h'
  try dsimp only
  repeat' first
    | with_reducible assumption
    | with_reducible refine modGate_calm (by
        intro x h
        first
          | exact h
          | (simp at h; done)
          | (simp at h; exact h)
          | (split at h <;> first | exact h | (simp at h; done))) ?_
    | with_reducible apply gateCheck_calm
    | with_reducible apply gateFgn_calm
    | split
    | dsimp only

theorem execFloatEntry_calm {arm : Bool} {at' : Fin 200} {b : Fin 8} {s : State} {t' : State} (h' : execFloatEntry at'
    b s = .next t') : Calm arm s t' := by
  have h₀ := Calm.refl arm s
  unfold execFloatEntry at h'
  injection h' with h'; subst h'
  try dsimp only
  repeat' first
    | with_reducible assumption
    | with_reducible apply refloat_calm
    | split
    | dsimp only

theorem execFloatOutputDisable_calm {arm : Bool} {at' : Fin 200} {b : Fin 8} {s : State} {t' : State} (h' :
    execFloatOutputDisable at' b s = .next t') : Calm arm s t' := by
  have h₀ := Calm.refl arm s
  unfold execFloatOutputDisable at h'
  injection h' with h'; subst h'
  try dsimp only
  repeat' first
    | with_reducible assumption
    | with_reducible apply disableStages_calm
    | with_reducible apply gateCheck_calm
    | split
    | dsimp only

theorem execFloatExitHoldEnd_calm {arm : Bool} {at' : Fin 200} {b : Fin 8} {s : State} {t' : State} (h' :
    execFloatExitHoldEnd at' b s = .next t') : Calm arm s t' := by
  have h₀ := Calm.refl arm s
  unfold execFloatExitHoldEnd at h'
  injection h' with h'; subst h'
  try dsimp only
  repeat' first
    | with_reducible assumption
    | with_reducible refine modBank_calm (by
        intro x h
        first
          | exact h
          | (simp only [Bank.swap] at h; exact h)
          | (simp [Bank.start, Bank.reset] at h; done)
          | (simp at h; done)
          | (simp at h; exact h)
          | (split at h <;> first | exact h | (simp at h; done))) ?_
    | with_reducible apply redriveBank_calm
    | split
    | dsimp only

theorem execVdrvUv_calm {arm : Bool} {at' : Fin 200} {b : Fin 8} {s : State} {t' : State} (h' : execVdrvUv at' b s =
    .next t') : Calm arm s t' := by
  have h₀ := Calm.refl arm s
  unfold execVdrvUv at h'
  injection h' with h'; subst h'
  try dsimp only
  repeat' first
    | with_reducible assumption
    | with_reducible apply vdrvUv_calm
    | split
    | dsimp only

theorem execVcpUv_calm {arm : Bool} {at' : Fin 200} {b : Fin 8} {s : State} {t' : State} (h' : execVcpUv at' b s =
    .next t') : Calm arm s t' := by
  have h₀ := Calm.refl arm s
  unfold execVcpUv at h'
  injection h' with h'; subst h'
  try dsimp only
  repeat' first
    | with_reducible assumption
    | with_reducible apply vcpUv_calm
    | split
    | dsimp only

theorem execBstUv_calm {arm : Bool} {at' : Fin 200} {h : Fin 72} {s : State} {t' : State} (h' : execBstUv at' h s =
    .next t') : Calm arm s t' := by
  have h₀ := Calm.refl arm s
  unfold execBstUv at h'
  injection h' with h'; subst h'
  try dsimp only
  repeat' first
    | with_reducible assumption
    | with_reducible apply bstUv_calm
    | split
    | dsimp only

theorem execSupplyRise_calm {arm : Bool} {which : Fin 3} {i : Fin 72} {s : State} {t' : State} (h' : execSupplyRise
    which i s = .next t') : Calm arm s t' := by
  have h₀ := Calm.refl arm s
  unfold execSupplyRise at h'
  injection h' with h'; subst h'
  try dsimp only
  repeat' first
    | with_reducible assumption
    | with_reducible apply supplyRise_calm
    | split
    | dsimp only

theorem execGsupFltClear_calm {b : Fin 8} {d : Word} {s : State} {t' : State} (h' : execGsupFltClear b d s = .next t')
    : Calm false s t' := by
  have h₀ := Calm.refl false s
  unfold execGsupFltClear at h'
  injection h' with h'; subst h'
  try dsimp only
  repeat' first
    | with_reducible assumption
    | with_reducible apply hostWord_calm
    | split
    | dsimp only

theorem execDdpInputEdge_calm {arm : Bool} {at' : Fin 200} {en : Bool} {i : Fin 9} {level : Bool} {width : Nat} {s :
    State} {t' : State} (h' : execDdpInputEdge at' en i level width s = .next t') : Calm arm s t' := by
  have h₀ := Calm.refl arm s
  unfold execDdpInputEdge at h'
  injection h' with h'; subst h'
  try dsimp only
  repeat' first
    | with_reducible assumption
    | with_reducible refine passes_calm_eq (by assumption) ?_
    | with_reducible apply passes_calm
    | with_reducible apply redrive_calm
    | with_reducible apply setDdp_calm
    | split
    | dsimp only

theorem execDsblExpiry_calm {arm : Bool} {at' : Fin 200} {h : Fin 72} {hi : Bool} {s : State} {t' : State} (h' :
    execDsblExpiry at' h hi s = .next t') : Calm arm s t' := by
  have h₀ := Calm.refl arm s
  unfold execDsblExpiry at h'
  injection h' with h'; subst h'
  try dsimp only
  repeat' first
    | with_reducible assumption
    | with_reducible refine modGate_calm (by
        intro x h
        first
          | exact h
          | (simp at h; done)
          | (simp at h; exact h)
          | (split at h <;> first | exact h | (simp at h; done))) ?_
    | split
    | dsimp only

theorem execDesat_calm {arm : Bool} {at' : Fin 200} {h : Fin 72} {hi : Bool} {s : State} {t' : State} (h' : execDesat
    at' h hi s = .next t') : Calm arm s t' := by
  have h₀ := Calm.refl arm s
  unfold execDesat at h'
  injection h' with h'; subst h'
  try dsimp only
  repeat' first
    | with_reducible assumption
    | with_reducible apply detect_calm
    | split
    | dsimp only

theorem execHardShortArm_calm {arm : Bool} {at' : Fin 200} {h : Fin 72} {hi : Bool} {s : State} {t' : State} (h' :
    execHardShortArm at' h hi s = .next t') : Calm arm s t' := by
  have h₀ := Calm.refl arm s
  unfold execHardShortArm at h'
  injection h' with h'; subst h'
  try dsimp only
  repeat' first
    | with_reducible assumption
    | with_reducible refine modGate_calm (by
        intro x h
        first
          | exact h
          | (simp at h; done)
          | (simp at h; exact h)
          | (split at h <;> first | exact h | (simp at h; done))) ?_
    | split
    | dsimp only

theorem execHardShort_calm {arm : Bool} {at' : Fin 200} {h : Fin 72} {hi : Bool} {s : State} {t' : State} (h' :
    execHardShort at' h hi s = .next t') : Calm arm s t' := by
  have h₀ := Calm.refl arm s
  unfold execHardShort at h'
  injection h' with h'; subst h'
  try dsimp only
  repeat' first
    | with_reducible assumption
    | with_reducible apply detect_calm
    | split
    | dsimp only

theorem execPlateau_calm {arm : Bool} {at' : Fin 200} {h : Fin 72} {hi : Bool} {s : State} {t' : State} (h' :
    execPlateau at' h hi s = .next t') : Calm arm s t' := by
  have h₀ := Calm.refl arm s
  unfold execPlateau at h'
  injection h' with h'; subst h'
  try dsimp only
  repeat' first
    | with_reducible assumption
    | with_reducible apply detect_calm
    | split
    | dsimp only

theorem execProtChfltClear_calm {b : Fin 8} {i : Fin 9} {d : Word} {s : State} {t' : State} (h' : execProtChfltClear b
    i d s = .next t') : Calm false s t' := by
  have h₀ := Calm.refl false s
  unfold execProtChfltClear at h'
  injection h' with h'; subst h'
  try dsimp only
  repeat' first
    | with_reducible assumption
    | with_reducible apply hostWord_calm
    | split
    | dsimp only

theorem execTripRecognised_calm {arm : Bool} {at' : Fin 200} {b : Fin 8} {high : Nat} {s : State} {t' : State} (h' :
    execTripRecognised at' b high s = .next t') : Calm arm s t' := by
  have h₀ := Calm.refl arm s
  unfold execTripRecognised at h'
  injection h' with h'; subst h'
  try dsimp only
  repeat' first
    | with_reducible assumption
    | with_reducible apply tripRecognised_calm
    | split
    | dsimp only

theorem execTripRelease_calm {arm : Bool} {b : Fin 8} {s : State} {t' : State} (h' : execTripRelease b s = .next t') :
    Calm arm s t' := by
  have h₀ := Calm.refl arm s
  unfold execTripRelease at h'
  injection h' with h'; subst h'
  try dsimp only
  repeat' first
    | with_reducible assumption
    | with_reducible apply tripRelease_calm
    | split
    | dsimp only

theorem execBlankWindowEnd_calm {arm : Bool} {at' : Fin 200} {b : Fin 8} {s : State} {t' : State} (h' :
    execBlankWindowEnd at' b s = .next t') : Calm arm s t' := by
  have h₀ := Calm.refl arm s
  unfold execBlankWindowEnd at h'
  injection h' with h'; subst h'
  try dsimp only
  repeat' first
    | with_reducible assumption
    | with_reducible refine modBank_calm (by
        intro x h
        first
          | exact h
          | (simp only [Bank.swap] at h; exact h)
          | (simp [Bank.start, Bank.reset] at h; done)
          | (simp at h; done)
          | (simp at h; exact h)
          | (split at h <;> first | exact h | (simp at h; done))) ?_
    | split
    | dsimp only

theorem execCurrentLimitTrip_calm {arm : Bool} {at' : Fin 200} {h : Fin 72} {high : Nat} {s : State} {t' : State} (h'
    : execCurrentLimitTrip at' h high s = .next t') : Calm arm s t' := by
  have h₀ := Calm.refl arm s
  unfold execCurrentLimitTrip at h'
  injection h' with h'; subst h'
  try dsimp only
  repeat' first
    | with_reducible assumption
    | with_reducible apply limitHb_calm
    | split
    | dsimp only

theorem execChopperOn_calm {arm : Bool} {at' : Fin 200} {b : Fin 8} {s : State} {t' : State} (h' : execChopperOn at' b
    s = .next t') : Calm arm s t' := by
  have h₀ := Calm.refl arm s
  unfold execChopperOn at h'
  injection h' with h'; subst h'
  try dsimp only
  repeat' first
    | with_reducible assumption
    | with_reducible refine modBank_calm (by
        intro x h
        first
          | exact h
          | (simp only [Bank.swap] at h; exact h)
          | (simp [Bank.start, Bank.reset] at h; done)
          | (simp at h; done)
          | (simp at h; exact h)
          | (split at h <;> first | exact h | (simp at h; done))) ?_
    | with_reducible apply redriveBank_calm
    | split
    | dsimp only

theorem execChopperOff_calm {arm : Bool} {at' : Fin 200} {b : Fin 8} {s : State} {t' : State} (h' : execChopperOff at'
    b s = .next t') : Calm arm s t' := by
  have h₀ := Calm.refl arm s
  unfold execChopperOff at h'
  injection h' with h'; subst h'
  try dsimp only
  repeat' first
    | with_reducible assumption
    | with_reducible apply chopperOff_calm
    | split
    | dsimp only

theorem execVov2_calm {arm : Bool} {at' : Fin 200} {b : Fin 8} {s : State} {t' : State} (h' : execVov2 at' b s = .next
    t') : Calm arm s t' := by
  have h₀ := Calm.refl arm s
  unfold execVov2 at h'
  injection h' with h'; subst h'
  try dsimp only
  repeat' first
    | with_reducible assumption
    | with_reducible apply vov2_calm
    | split
    | dsimp only

theorem execChopLong_calm {arm : Bool} {b : Fin 8} {s : State} {t' : State} (h' : execChopLong b s = .next t') : Calm
    arm s t' := by
  have h₀ := Calm.refl arm s
  unfold execChopLong at h'
  injection h' with h'; subst h'
  try dsimp only
  repeat' first
    | with_reducible assumption
    | with_reducible refine modBank_calm (by
        intro x h
        first
          | exact h
          | (simp only [Bank.swap] at h; exact h)
          | (simp [Bank.start, Bank.reset] at h; done)
          | (simp at h; done)
          | (simp at h; exact h)
          | (split at h <;> first | exact h | (simp at h; done))) ?_
    | with_reducible apply raise_calm
    | with_reducible apply setFlags_calm
    | split
    | dsimp only

theorem execOts_calm {arm : Bool} {at' : Fin 200} {b : Fin 8} {s : State} {t' : State} (h' : execOts at' b s = .next
    t') : Calm arm s t' := by
  have h₀ := Calm.refl arm s
  unfold execOts at h'
  injection h' with h'; subst h'
  try dsimp only
  repeat' first
    | with_reducible assumption
    | with_reducible apply ots_calm
    | split
    | dsimp only

theorem execProtBfltClear_calm {b : Fin 8} {d : Word} {s : State} {t' : State} (h' : execProtBfltClear b d s = .next
    t') : Calm false s t' := by
  have h₀ := Calm.refl false s
  unfold execProtBfltClear at h'
  injection h' with h'; subst h'
  try dsimp only
  repeat' first
    | with_reducible assumption
    | with_reducible apply hostWord_calm
    | split
    | dsimp only

theorem execEstop_calm {arm : Bool} {at' : Fin 200} {width : Nat} {s : State} {t' : State} (h' : execEstop at' width s
    = .next t') : Calm arm s t' := by
  have h₀ := Calm.refl arm s
  unfold execEstop at h'
  injection h' with h'; subst h'
  try dsimp only
  repeat' first
    | with_reducible assumption
    | with_reducible apply estop_calm
    | with_reducible apply modSafe_calm
    | with_reducible refine passes_calm_eq (by assumption) ?_
    | with_reducible apply passes_calm
    | split
    | dsimp only

theorem execEstopRelease_calm {arm : Bool} {s : State} {t' : State} (h' : execEstopRelease s = .next t') : Calm arm s
    t' := by
  have h₀ := Calm.refl arm s
  unfold execEstopRelease at h'
  injection h' with h'; subst h'
  try dsimp only
  repeat' first
    | with_reducible assumption
    | with_reducible refine each_calm (fun u x h₁ => ?_) ?_
    | with_reducible refine bankCause_calm (by
        intro x h
        first
          | exact h
          | (simp only [Bank.swap] at h; exact h)
          | (simp [Bank.start, Bank.reset] at h; done)
          | (simp at h; done)
          | (simp at h; exact h)
          | (split at h <;> first | exact h | (simp at h; done))) ?_
    | with_reducible apply estop_calm
    | with_reducible apply modSafe_calm
    | split
    | dsimp only

theorem execConverterStart_calm {arm : Bool} {c : Fin 24} {s : State} {t' : State} (h' : execConverterStart c s =
    .next t') : Calm arm s t' := by
  have h₀ := Calm.refl arm s
  unfold execConverterStart at h'
  injection h' with h'; subst h'
  try dsimp only
  repeat' first
    | with_reducible assumption
    | with_reducible apply convStart_calm
    | split
    | dsimp only

theorem execConversionDone_calm {arm : Bool} {at' : Fin 200} {c : Fin 24} {code : BitVec 12} {s : State} {t' : State}
    (h' : execConversionDone at' c code s = .next t') : Calm arm s t' := by
  have h₀ := Calm.refl arm s
  unfold execConversionDone at h'
  injection h' with h'; subst h'
  try dsimp only
  repeat' first
    | with_reducible assumption
    | with_reducible apply bgDone_calm
    | with_reducible apply idleDone_calm
    | with_reducible apply seqDone_calm
    | split
    | dsimp only

theorem execAxisStart_calm {a : Fin 24} {s : State} {t' : State} (h' : execAxisStart a s = .next t') : Calm false s t'
    := by
  have h₀ := Calm.refl false s
  unfold execAxisStart at h'
  injection h' with h'; subst h'
  try dsimp only
  repeat' first
    | with_reducible assumption
    | with_reducible apply hostWord_calm
    | split
    | dsimp only

theorem execScheduleFire_calm {arm : Bool} {at' : Fin 200} {i : Fin 256} {n : Fin 24} {s : State} {t' : State} (h' :
    execScheduleFire at' i n s = .next t') : Calm arm s t' := by
  have h₀ := Calm.refl arm s
  unfold execScheduleFire at h'
  injection h' with h'; subst h'
  try dsimp only
  repeat' first
    | with_reducible assumption
    | with_reducible apply scheduleFire_calm
    | split
    | dsimp only

theorem execSchedLateFire_calm {arm : Bool} {at' : Fin 200} {i : Fin 256} {n : Fin 24} {s : State} {t' : State} (h' :
    execSchedLateFire at' i n s = .next t') : Calm arm s t' := by
  have h₀ := Calm.refl arm s
  unfold execSchedLateFire at h'
  injection h' with h'; subst h'
  try dsimp only
  repeat' first
    | with_reducible assumption
    | with_reducible apply schedLateFire_calm
    | split
    | dsimp only

theorem execScheduleInsert_calm {d : Word} {s : State} {t' : State} (h' : execScheduleInsert d s = .next t') : Calm
    false s t' := by
  have h₀ := Calm.refl false s
  unfold execScheduleInsert at h'
  injection h' with h'; subst h'
  try dsimp only
  repeat' first
    | with_reducible assumption
    | with_reducible apply hostWord_calm
    | split
    | dsimp only

theorem execSchSectOn_calm {arm : Bool} {at' : Fin 200} {s : State} {t' : State} (h' : execSchSectOn at' s = .next t')
    : Calm arm s t' := by
  have h₀ := Calm.refl arm s
  unfold execSchSectOn at h'
  injection h' with h'; subst h'
  unfold State.whenHost
  try dsimp only
  repeat' first
    | with_reducible assumption
    | with_reducible apply schSect_calm
    | split
    | dsimp only

theorem execSchSectOff_calm {arm : Bool} {at' : Fin 200} {s : State} {t' : State} (h' : execSchSectOff at' s = .next
    t') : Calm arm s t' := by
  have h₀ := Calm.refl arm s
  unfold execSchSectOff at h'
  injection h' with h'; subst h'
  unfold State.whenHost
  try dsimp only
  repeat' first
    | with_reducible assumption
    | with_reducible apply schSect_calm
    | split
    | dsimp only

theorem execSchSectRate_calm {arm : Bool} {at' : Fin 200} {s : State} {t' : State} (h' : execSchSectRate at' s = .next
    t') : Calm arm s t' := by
  have h₀ := Calm.refl arm s
  unfold execSchSectRate at h'
  injection h' with h'; subst h'
  unfold State.whenHost
  try dsimp only
  repeat' first
    | with_reducible assumption
    | with_reducible apply schSect_calm
    | split
    | dsimp only

theorem execVmainFail_calm {arm : Bool} {at' : Fin 200} {vmain vbak : Word} {s : State} {t' : State} (h' :
    execVmainFail at' vmain vbak s = .next t') : Calm arm s t' := by
  have h₀ := Calm.refl arm s
  unfold execVmainFail at h'
  injection h' with h'; subst h'
  try dsimp only
  repeat' first
    | with_reducible assumption
    | with_reducible apply vmainFail_calm
    | split
    | dsimp only

theorem execHandoverStep_calm {arm : Bool} {at' : Fin 200} {s : State} {t' : State} (h' : execHandoverStep at' s =
    .next t') : Calm arm s t' := by
  have h₀ := Calm.refl arm s
  unfold execHandoverStep at h'
  injection h' with h'; subst h'
  try dsimp only
  repeat' first
    | with_reducible assumption
    | with_reducible apply handStep_calm
    | split
    | dsimp only

theorem execCriticalWindowEnd_calm {arm : Bool} {s : State} {t' : State} (h' : execCriticalWindowEnd s = .next t') :
    Calm arm s t' := by
  have h₀ := Calm.refl arm s
  unfold execCriticalWindowEnd at h'
  injection h' with h'; subst h'
  try dsimp only
  repeat' first
    | with_reducible assumption
    | with_reducible apply criticalWindowEnd_calm
    | split
    | dsimp only

theorem execFlushEnd_calm {arm : Bool} {s : State} {t' : State} (h' : execFlushEnd s = .next t') : Calm arm s t' := by
  have h₀ := Calm.refl arm s
  unfold execFlushEnd at h'
  injection h' with h'; subst h'
  try dsimp only
  repeat' first
    | with_reducible assumption
    | with_reducible apply flushEnd_calm
    | split
    | dsimp only

theorem execVmainBounce_calm {arm : Bool} {s : State} {t' : State} (h' : execVmainBounce s = .next t') : Calm arm s t'
    := by
  have h₀ := Calm.refl arm s
  unfold execVmainBounce at h'
  injection h' with h'; subst h'
  try dsimp only
  repeat' first
    | with_reducible assumption
    | with_reducible apply vmainBounce_calm
    | split
    | dsimp only

theorem execDwellComplete_calm {arm : Bool} {s : State} {t' : State} (h' : execDwellComplete s = .next t') : Calm arm
    s t' := by
  have h₀ := Calm.refl arm s
  unfold execDwellComplete at h'
  injection h' with h'; subst h'
  try dsimp only
  repeat' first
    | with_reducible assumption
    | with_reducible apply corePowerOn_calm
    | with_reducible apply warmRestart_calm
    | split
    | dsimp only

theorem execVbakMinLoss_calm {arm : Bool} {s : State} {t' : State} (h' : execVbakMinLoss s = .next t') : Calm arm s t'
    := by
  have h₀ := Calm.refl arm s
  unfold execVbakMinLoss at h'
  injection h' with h'; subst h'
  try dsimp only
  repeat' first
    | with_reducible assumption
    | with_reducible apply vbakMinLoss_calm
    | split
    | dsimp only

theorem execBankHoldEnd_calm {arm : Bool} {at' : Fin 200} {b : Fin 8} {s : State} {t' : State} (h' : execBankHoldEnd
    at' b s = .next t') : Calm arm s t' := by
  have h₀ := Calm.refl arm s
  unfold execBankHoldEnd at h'
  injection h' with h'; subst h'
  try dsimp only
  repeat' first
    | with_reducible assumption
    | with_reducible apply endHold_calm
    | split
    | dsimp only

theorem execDomainSwitchOn_calm {arm : Bool} {at' : Fin 200} {dom : Fin 12} {s : State} {t' : State} (h' :
    execDomainSwitchOn at' dom s = .next t') : Calm arm s t' := by
  have h₀ := Calm.refl arm s
  unfold execDomainSwitchOn at h'
  injection h' with h'; subst h'
  unfold State.whenHost
  try dsimp only
  repeat' first
    | with_reducible assumption
    | with_reducible apply writeDomReq_calm
    | split
    | dsimp only

theorem execDomainSwitchOff_calm {arm : Bool} {at' : Fin 200} {dom : Fin 12} {s : State} {t' : State} (h' :
    execDomainSwitchOff at' dom s = .next t') : Calm arm s t' := by
  have h₀ := Calm.refl arm s
  unfold execDomainSwitchOff at h'
  injection h' with h'; subst h'
  unfold State.whenHost
  try dsimp only
  repeat' first
    | with_reducible assumption
    | with_reducible apply writeDomReq_calm
    | split
    | dsimp only

theorem execDomainReady_calm {arm : Bool} {dom : Fin 12} {s : State} {t' : State} (h' : execDomainReady dom s = .next
    t') : Calm arm s t' := by
  have h₀ := Calm.refl arm s
  unfold execDomainReady at h'
  injection h' with h'; subst h'
  try dsimp only
  repeat' first
    | with_reducible assumption
    | with_reducible apply domainReady_calm
    | split
    | dsimp only

theorem execVioUv_calm {arm : Bool} {at' : Fin 200} {vio : Word} {s : State} {t' : State} (h' : execVioUv at' vio s =
    .next t') : Calm arm s t' := by
  have h₀ := Calm.refl arm s
  unfold execVioUv at h'
  injection h' with h'; subst h'
  try dsimp only
  repeat' first
    | with_reducible assumption
    | with_reducible apply vioUv_calm
    | split
    | dsimp only

theorem execStoreWrite_calm {len : Byte} {s : State} {t' : State} (h' : execStoreWrite len s = .next t') : Calm false
    s t' := by
  have h₀ := Calm.refl false s
  unfold execStoreWrite at h'
  injection h' with h'; subst h'
  try dsimp only
  repeat' first
    | with_reducible assumption
    | with_reducible apply hostWord_calm
    | split
    | dsimp only

theorem execProgramBurstDone_calm {arm : Bool} {ok : Bool} {s : State} {t' : State} (h' : execProgramBurstDone ok s =
    .next t') : Calm arm s t' := by
  have h₀ := Calm.refl arm s
  unfold execProgramBurstDone at h'
  injection h' with h'; subst h'
  try dsimp only
  repeat' first
    | with_reducible assumption
    | with_reducible apply programBurstDone_calm
    | split
    | dsimp only

theorem execCompactionStep_calm {arm : Bool} {s : State} {t' : State} (h' : execCompactionStep s = .next t') : Calm
    arm s t' := by
  have h₀ := Calm.refl arm s
  unfold execCompactionStep at h'
  injection h' with h'; subst h'
  try dsimp only
  repeat' first
    | with_reducible assumption
    | with_reducible apply compactionStep_calm
    | split
    | dsimp only

theorem execPairOwnInChange_calm {arm : Bool} {at' : Fin 200} {level equal : Bool} {s : State} {t' : State} (h' :
    execPairOwnInChange at' level equal s = .next t') : Calm arm s t' := by
  have h₀ := Calm.refl arm s
  unfold execPairOwnInChange at h'
  injection h' with h'; subst h'
  try dsimp only
  repeat' first
    | with_reducible assumption
    | with_reducible apply modPair_calm
    | with_reducible apply pairOwnInChange_calm
    | split
    | dsimp only

theorem execPairClaim_calm {arm : Bool} {at' : Fin 200} {s : State} {t' : State} (h' : execPairClaim at' s = .next t')
    : Calm arm s t' := by
  have h₀ := Calm.refl arm s
  unfold execPairClaim at h'
  injection h' with h'; subst h'
  try dsimp only
  repeat' first
    | with_reducible assumption
    | with_reducible apply pairClaim_calm
    | split
    | dsimp only

theorem execGateCheckPass_calm {arm : Bool} {at' : Fin 200} {b : Fin 8} {s : State} {t' : State} (h' :
    execGateCheckPass at' b s = .next t') : Calm arm s t' := by
  have h₀ := Calm.refl arm s
  unfold execGateCheckPass at h'
  injection h' with h'; subst h'
  try dsimp only
  repeat' first
    | with_reducible assumption
    | with_reducible apply gateCheckPass_calm
    | split
    | dsimp only

theorem execMirrorReceived_calm {at' : Fin 200} {good : Bool} {start : Nat} {f : Mirror} {s : State} {t' : State} (h'
    : execMirrorReceived at' good start f s = .next t') : Calm false s t' := by
  have h₀ := Calm.refl false s
  unfold execMirrorReceived at h'
  injection h' with h'; subst h'
  try dsimp only
  repeat' first
    | with_reducible assumption
    | with_reducible apply applyMirror_calm
    | with_reducible apply ownFault_calm
    | with_reducible apply satInc_calm
    | split
    | dsimp only

theorem execFrameMissed_calm {arm : Bool} {at' : Fin 200} {s : State} {t' : State} (h' : execFrameMissed at' s = .next
    t') : Calm arm s t' := by
  have h₀ := Calm.refl arm s
  unfold execFrameMissed at h'
  injection h' with h'; subst h'
  try dsimp only
  repeat' first
    | with_reducible assumption
    | with_reducible apply frameMissed_calm
    | split
    | dsimp only

theorem execReleaseSequenceReceived_calm {arm : Bool} {at' : Fin 200} {cause : Byte} {s : State} {t' : State} (h' :
    execReleaseSequenceReceived at' cause s = .next t') : Calm arm s t' := by
  have h₀ := Calm.refl arm s
  unfold execReleaseSequenceReceived at h'
  injection h' with h'; subst h'
  try dsimp only
  repeat' first
    | with_reducible assumption
    | with_reducible apply releaseSequence_calm
    | split
    | dsimp only

theorem execTakeoverQualified_calm {arm : Bool} {at' : Fin 200} {s : State} {t' : State} (h' : execTakeoverQualified
    at' s = .next t') : Calm arm s t' := by
  have h₀ := Calm.refl arm s
  unfold execTakeoverQualified at h'
  injection h' with h'; subst h'
  try dsimp only
  repeat' first
    | with_reducible assumption
    | with_reducible apply takeOwner_calm
    | split
    | dsimp only

theorem execTakeoverCommit_calm {arm : Bool} {at' : Fin 200} {s : State} {t' : State} (h' : execTakeoverCommit at' s =
    .next t') : Calm arm s t' := by
  have h₀ := Calm.refl arm s
  unfold execTakeoverCommit at h'
  injection h' with h'; subst h'
  try dsimp only
  repeat' first
    | with_reducible assumption
    | with_reducible apply takeoverCommit_calm
    | split
    | dsimp only

theorem execHandoverRelease_calm {arm : Bool} {at' : Fin 200} {s : State} {t' : State} (h' : execHandoverRelease at' s
    = .next t') : Calm arm s t' := by
  have h₀ := Calm.refl arm s
  unfold execHandoverRelease at h'
  injection h' with h'; subst h'
  try dsimp only
  repeat' first
    | with_reducible assumption
    | with_reducible apply handover_calm
    | with_reducible apply releaseOwner_calm
    | split
    | dsimp only

theorem execClearLock_calm {arm : Bool} {s : State} {t' : State} (h' : execClearLock s = .next t') : Calm arm s t' :=
    by
  have h₀ := Calm.refl arm s
  unfold execClearLock at h'
  injection h' with h'; subst h'
  unfold State.whenHost
  try dsimp only
  repeat' first
    | with_reducible assumption
    | with_reducible apply clearLock_calm
    | split
    | dsimp only

theorem execSupervisorMismatch_calm {arm : Bool} {at' : Fin 200} {group : Word} {s : State} {t' : State} (h' :
    execSupervisorMismatch at' group s = .next t') : Calm arm s t' := by
  have h₀ := Calm.refl arm s
  unfold execSupervisorMismatch at h'
  injection h' with h'; subst h'
  unfold State.whenUp
  try dsimp only
  repeat' first
    | with_reducible assumption
    | with_reducible apply deviceWide_calm
    | split
    | dsimp only

theorem execScrubPass_calm {arm : Bool} {at' : Fin 200} {ok : Bool} {a : Word} {s : State} {t' : State} (h' :
    execScrubPass at' ok a s = .next t') : Calm arm s t' := by
  have h₀ := Calm.refl arm s
  unfold execScrubPass at h'
  injection h' with h'; subst h'
  unfold State.whenUp
  try dsimp only
  repeat' first
    | with_reducible assumption
    | with_reducible apply deviceWide_calm
    | with_reducible apply modImg_calm
    | with_reducible apply wrapInc_calm
    | split
    | dsimp only

theorem execRamSec_calm {arm : Bool} {at' : Fin 200} {inst : Byte} {a : Word} {double : Bool} {s : State} {t' : State}
    (h' : execRamSec at' inst a double s = .next t') : Calm arm s t' := by
  have h₀ := Calm.refl arm s
  unfold execRamSec at h'
  injection h' with h'; subst h'
  unfold State.whenUp
  try dsimp only
  repeat' first
    | with_reducible assumption
    | with_reducible apply ramSec_calm
    | split
    | dsimp only

theorem execPlausTrip_calm {arm : Bool} {at' : Fin 200} {a : Fin 24} {s : State} {t' : State} (h' : execPlausTrip at'
    a s = .next t') : Calm arm s t' := by
  have h₀ := Calm.refl arm s
  unfold execPlausTrip at h'
  injection h' with h'; subst h'
  try dsimp only
  repeat' first
    | with_reducible assumption
    | with_reducible apply plausTrip_calm
    | split
    | dsimp only

theorem execDieLinkLoss_calm {arm : Bool} {at' : Fin 200} {k : Fin 4} {s : State} {t' : State} (h' : execDieLinkLoss
    at' k s = .next t') : Calm arm s t' := by
  have h₀ := Calm.refl arm s
  unfold execDieLinkLoss at h'
  injection h' with h'; subst h'
  unfold State.whenUp
  try dsimp only
  repeat' first
    | with_reducible assumption
    | with_reducible apply dieLinkLoss_calm
    | split
    | dsimp only

theorem execDieLinkRestore_calm {arm : Bool} {k : Fin 4} {s : State} {t' : State} (h' : execDieLinkRestore k s = .next
    t') : Calm arm s t' := by
  have h₀ := Calm.refl arm s
  unfold execDieLinkRestore at h'
  injection h' with h'; subst h'
  unfold State.whenUp
  try dsimp only
  repeat' first
    | with_reducible assumption
    | with_reducible refine each_calm (fun u x h₁ => ?_) ?_
    | with_reducible refine bankCause_calm (by
        intro x h
        first
          | exact h
          | (simp only [Bank.swap] at h; exact h)
          | (simp [Bank.start, Bank.reset] at h; done)
          | (simp at h; done)
          | (simp at h; exact h)
          | (split at h <;> first | exact h | (simp at h; done))) ?_
    | with_reducible apply modSafe_calm
    | split
    | dsimp only

theorem execWatchdogEnable_calm {d : Word} {s : State} {t' : State} (h' : execWatchdogEnable d s = .next t') : Calm
    false s t' := by
  have h₀ := Calm.refl false s
  unfold execWatchdogEnable at h'
  injection h' with h'; subst h'
  try dsimp only
  repeat' first
    | with_reducible assumption
    | with_reducible apply hostWord_calm
    | split
    | dsimp only

theorem execWatchdogKick_calm {arm : Bool} {at' : Fin 200} {d : Word} {s : State} {t' : State} (h' : execWatchdogKick
    at' d s = .next t') : Calm arm s t' := by
  have h₀ := Calm.refl arm s
  unfold execWatchdogKick at h'
  injection h' with h'; subst h'
  unfold State.whenHost
  try dsimp only
  repeat' first
    | with_reducible assumption
    | with_reducible apply watchdogKick_calm
    | split
    | dsimp only

theorem execWdogLate_calm {arm : Bool} {at' : Fin 200} {s : State} {t' : State} (h' : execWdogLate at' s = .next t') :
    Calm arm s t' := by
  have h₀ := Calm.refl arm s
  unfold execWdogLate at h'
  injection h' with h'; subst h'
  unfold State.whenUp
  try dsimp only
  repeat' first
    | with_reducible assumption
    | with_reducible apply wdogLate_calm
    | split
    | dsimp only

theorem execSafeClr_calm {arm : Bool} {s : State} {t' : State} (h' : execSafeClr s = .next t') : Calm arm s t' := by
  have h₀ := Calm.refl arm s
  unfold execSafeClr at h'
  injection h' with h'; subst h'
  unfold State.whenHost
  try dsimp only
  repeat' first
    | with_reducible assumption
    | with_reducible apply safeClr_calm
    | split
    | dsimp only

theorem execSafePlfltClear_calm {hi : Bool} {d : Word} {s : State} {t' : State} (h' : execSafePlfltClear hi d s = .next t') : Calm false s t'
    := by
  have h₀ := Calm.refl false s
  unfold execSafePlfltClear at h'
  injection h' with h'; subst h'
  try dsimp only
  repeat' first
    | with_reducible assumption
    | with_reducible apply hostWord_calm
    | split
    | dsimp only

theorem execArmPrepare_calm {b : Fin 8} {s : State} {t' : State} (h' : execArmPrepare b s = .next t') : Calm false s
    t' := by
  have h₀ := Calm.refl false s
  unfold execArmPrepare at h'
  injection h' with h'; subst h'
  try dsimp only
  repeat' first
    | with_reducible assumption
    | with_reducible apply hostWord_calm
    | split
    | dsimp only

theorem execArmComplete_calm {at' : Fin 200} {b : Fin 8} {s : State} {t' : State} (h' : execArmComplete at' b s =
    .next t') : Calm false s t' := by
  have h₀ := Calm.refl false s
  unfold execArmComplete at h'
  injection h' with h'; subst h'
  try dsimp only
  repeat' first
    | with_reducible assumption
    | with_reducible apply hostWordAt_calm
    | split
    | dsimp only

theorem execDisarm_calm {at' : Fin 200} {b : Fin 8} {s : State} {t' : State} (h' : execDisarm at' b s = .next t') :
    Calm false s t' := by
  have h₀ := Calm.refl false s
  unfold execDisarm at h'
  injection h' with h'; subst h'
  try dsimp only
  repeat' first
    | with_reducible assumption
    | with_reducible apply hostWordAt_calm
    | split
    | dsimp only

theorem execRstNAssert_calm {arm : Bool} {at' : Fin 200} {low : ResetLow} {s : State} {t' : State} (h' : execRstNAssert
    at' low s = .next t') : Calm arm s t' := by
  have h₀ := Calm.refl arm s
  unfold execRstNAssert at h'
  injection h' with h'; subst h'
  try dsimp only
  repeat' first
    | with_reducible assumption
    | with_reducible apply modLands_calm
    | with_reducible apply strapped_calm
    | with_reducible refine passes_calm_eq (by assumption) ?_
    | with_reducible apply passes_calm
    | with_reducible apply resetFrom_calm
    | split
    | dsimp only

theorem execResetRelease_calm {arm : Bool} {s : State} {t' : State} (h' : execResetRelease s = .next t') : Calm arm s t' := by
  have h₀ := Calm.refl arm s
  unfold execResetRelease at h'
  injection h' with h'; subst h'
  try dsimp only
  repeat' first
    | with_reducible assumption
    | with_reducible apply resetRelease_calm
    | split
    | dsimp only

theorem execSoftwareReset_calm {arm : Bool} {at' : Fin 200} {s : State} {t' : State} (h' : execSoftwareReset at' s =
    .next t') : Calm arm s t' := by
  have h₀ := Calm.refl arm s
  unfold execSoftwareReset at h'
  injection h' with h'; subst h'
  unfold State.whenHost
  try dsimp only
  repeat' first
    | with_reducible assumption
    | with_reducible apply softwareReset_calm
    | split
    | dsimp only

theorem execTapExtest_calm {arm : Bool} {at' : Fin 200} {s : State} {t' : State} (h' : execTapExtest at' s = .next t')
    : Calm arm s t' := by
  have h₀ := Calm.refl arm s
  unfold execTapExtest at h'
  injection h' with h'; subst h'
  try dsimp only
  repeat' first
    | with_reducible assumption
    | with_reducible apply tapHolds_calm
    | split
    | dsimp only

theorem execTapHighz_calm {arm : Bool} {at' : Fin 200} {s : State} {t' : State} (h' : execTapHighz at' s = .next t') :
    Calm arm s t' := by
  have h₀ := Calm.refl arm s
  unfold execTapHighz at h'
  injection h' with h'; subst h'
  try dsimp only
  repeat' first
    | with_reducible assumption
    | with_reducible apply tapHolds_calm
    | split
    | dsimp only

theorem execTapClamp_calm {arm : Bool} {at' : Fin 200} {s : State} {t' : State} (h' : execTapClamp at' s = .next t') :
    Calm arm s t' := by
  have h₀ := Calm.refl arm s
  unfold execTapClamp at h'
  injection h' with h'; subst h'
  try dsimp only
  repeat' first
    | with_reducible assumption
    | with_reducible apply tapHolds_calm
    | split
    | dsimp only

theorem execGatePlateauReached_calm {arm : Bool} {h : Fin 72} {hi : Bool} {s : State} {t' : State} (h' :
    execGatePlateauReached h hi s = .next t') : Calm arm s t' := by
  have h₀ := Calm.refl arm s
  unfold execGatePlateauReached at h'
  injection h' with h'; subst h'
  try dsimp only
  repeat' first
    | with_reducible assumption
    | with_reducible refine modGate_calm (by
        intro x h
        first
          | exact h
          | (simp at h; done)
          | (simp at h; exact h)
          | (split at h <;> first | exact h | (simp at h; done))) ?_
    | split
    | dsimp only

theorem execVmainOkFall_calm {arm : Bool} {s : State} {t' : State} (h' : execVmainOkFall s = .next t') : Calm arm s t'
    := by
  have h₀ := Calm.refl arm s
  unfold execVmainOkFall at h'
  injection h' with h'; subst h'
  try dsimp only
  repeat' first
    | with_reducible assumption
    | with_reducible apply vmainOkFall_calm
    | split
    | dsimp only

end Sys2Proof.Laws
end

