-- ==== Sys2Proof/Laws/Cells.lean ====
section
/-! SUPPORT. Sys2Proof/Laws/Cells.lean: the byte arrays (R81, R387): what a read gives after a write, and that every operation
on the array and on the load window keeps their canonical form. -/
namespace Sys2Proof.Laws
set_option Elab.async false
set_option linter.unusedSimpArgs false
open Sys2Proof.Machine

/-! ### The canonical form -/

/-- The canonical form, said of the whole list: addresses rise strictly and no listed byte reads as an unlisted one. -/
def Rising (d : Byte) (m : List Host.Cell) : Prop := m.Pairwise (fun x y => x.1 < y.1) ∧ ∀ x ∈ m, x.2 ≠ d

theorem cellsOk_iff (d : Byte) (m : List Host.Cell) : cellsOk d m = true ↔ Rising d m := by
  induction m with
  | nil => simp [cellsOk, Rising]
  | cons x r ih =>
    cases r with
    | nil => simp [cellsOk, Rising]
    | cons y q =>
      simp only [cellsOk, Bool.and_eq_true, bne_iff_ne, decide_eq_true_eq, ih, Rising, List.pairwise_cons,
        List.forall_mem_cons]
      constructor
      · rintro ⟨⟨hx, hxy⟩, ⟨hy, hq⟩, hd⟩
        exact ⟨⟨⟨hxy, fun z hz => Nat.lt_trans hxy (hy z hz)⟩, hy, hq⟩, hx, hd⟩
      · rintro ⟨⟨⟨hxy, -⟩, hy, hq⟩, hx, hd⟩
        exact ⟨⟨hx, hxy⟩, ⟨hy, hq⟩, hd⟩

theorem rising_filter {d : Byte} {m : List Host.Cell} (p : Host.Cell → Bool) (h : Rising d m) : Rising d (m.filter p) :=
  ⟨h.1.filter p, fun x hx => h.2 x (List.mem_filter.1 hx).1⟩

theorem mapDel_eq_filter {α : Type} (m : List (Nat × α)) (a : Nat) : mapDel m a = m.filter (fun x => x.1 != a) := by
  induction m with
  | nil => rfl
  | cons x r ih =>
    obtain ⟨k, v⟩ := x
    by_cases h : k = a <;> simp [mapDel, h, ih]

theorem mem_mapIns {α : Type} {m : List (Nat × α)} {a : Nat} {v : α} {x : Nat × α} :
    x ∈ mapIns m a v ↔ x = (a, v) ∨ x ∈ m := by
  induction m with
  | nil => simp [mapIns]
  | cons y r ih =>
    obtain ⟨k, w⟩ := y
    by_cases h : a < k
    · simp [mapIns, h]
    · simp only [mapIns, h, if_false, List.mem_cons, ih]
      exact or_left_comm

theorem rising_mapIns {d b : Byte} {m : List Host.Cell} {a : Nat} (hb : b ≠ d) (h : Rising d m) (ha : ∀ x ∈ m, x.1 ≠ a) :
    Rising d (mapIns m a b) := by
  refine ⟨?_, fun x hx => ?_⟩
  · obtain ⟨hp, -⟩ := h
    induction m with
    | nil => simp [mapIns]
    | cons y r ih =>
      obtain ⟨k, w⟩ := y
      obtain ⟨hk, hr⟩ := List.pairwise_cons.1 hp
      by_cases hlt : a < k
      · simp only [mapIns, hlt, if_true]
        exact List.pairwise_cons.2 ⟨fun z hz => by
          rcases List.mem_cons.1 hz with rfl | hz
          · exact hlt
          · exact Nat.lt_trans hlt (hk z hz), hp⟩
      · simp only [mapIns, hlt, if_false]
        have hka : k < a := by have := ha (k, w) (by simp); simp at this; omega
        refine List.pairwise_cons.2 ⟨fun z hz => ?_, ih (fun x hx => ha x (by simp [hx])) hr⟩
        rcases mem_mapIns.1 hz with rfl | hz
        · exact hka
        · exact hk z hz
  · rcases mem_mapIns.1 hx with rfl | hx
    · exact hb
    · exact h.2 x hx

/-! ### Writing and reading -/

/-- Every write keeps the canonical form. -/
theorem cellsOk_cellWr {d : Byte} {m : List Host.Cell} (a : Nat) (b : Byte) (h : cellsOk d m = true) :
    cellsOk d (cellWr d m a b) = true := by
  rw [cellsOk_iff] at *
  unfold cellWr mapPut
  rw [mapDel_eq_filter]
  split
  · exact rising_filter _ h
  · rename_i hb
    exact rising_mapIns hb (rising_filter _ h) (fun x hx => by simpa using (List.mem_filter.1 hx).2)

theorem cellsOk_cellWrs {d : Byte} (bs : List Byte) : ∀ {m : List Host.Cell} (a : Nat), cellsOk d m = true →
    cellsOk d (cellWrs d m a bs) = true := by
  induction bs with
  | nil => exact fun _ h => h
  | cons b bs ih => exact fun a h => ih (a + 1) (cellsOk_cellWr a b h)

theorem cellsOk_filter {d : Byte} {m : List Host.Cell} (p : Host.Cell → Bool) (h : cellsOk d m = true) :
    cellsOk d (m.filter p) = true := by
  rw [cellsOk_iff] at *
  exact rising_filter p h

/-- A read after a write: the byte written at its address, every other byte as before. -/
theorem cellRd_cellWr (d : Byte) (m : List Host.Cell) (a x : Nat) (b : Byte) :
    cellRd d (cellWr d m a b) x = if x = a then b else cellRd d m x := by
  unfold cellRd cellWr
  by_cases hb : b = d <;> by_cases hx : x = a <;> simp [hb, hx, mapGet_mapDel, mapGet_mapPut]

/-- A read outside the bytes written gives the byte from before. -/
theorem cellRd_cellWrs_of_out (d : Byte) (bs : List Byte) : ∀ (m : List Host.Cell) (a x : Nat), x < a ∨ a + bs.length ≤ x →
    cellRd d (cellWrs d m a bs) x = cellRd d m x := by
  induction bs with
  | nil => intro m a x _; rfl
  | cons b bs ih =>
    intro m a x h
    simp only [List.length_cons] at h
    rw [cellWrs, ih _ _ _ (by omega), cellRd_cellWr, if_neg (by omega)]

/-- A read within the bytes written gives the byte written there. -/
theorem cellRd_cellWrs_of_in (d : Byte) (bs : List Byte) : ∀ (m : List Host.Cell) (a k : Nat) (h : k < bs.length),
    cellRd d (cellWrs d m a bs) (a + k) = bs[k] := by
  induction bs with
  | nil => intro m a k h; simp at h
  | cons b bs ih =>
    intro m a k h
    cases k with
    | zero => rw [cellWrs, cellRd_cellWrs_of_out _ _ _ _ _ (by omega), cellRd_cellWr]; simp
    | succ n =>
      have := ih (cellWr d m a b) (a + 1) n (by simpa using h)
      rw [cellWrs, show a + (n + 1) = a + 1 + n by omega, this]; simp

/-! ### The operations on the array and the window -/

theorem program_ok {s : State} (a : Nat) (bs : List Byte) (b : Burst) (h : cellsOk 0xFF s.store.mem = true) :
    cellsOk 0xFF (s.program a bs b).store.mem = true := cellsOk_cellWrs bs a h

theorem eraseBytes_ok {s : State} (n : Nat) (h : cellsOk 0xFF s.store.mem = true) :
    cellsOk 0xFF (s.eraseBytes n).store.mem = true := cellsOk_filter _ h

theorem tear_ok {s : State} (n : Nat) (h : cellsOk 0xFF s.store.mem = true) : cellsOk 0xFF (s.tear n).store.mem = true :=
  cellsOk_cellWrs _ _ h

theorem garble_ok {s : State} (n : Nat) (h : cellsOk 0xFF s.store.mem = true) :
    cellsOk 0xFF (s.garble n).store.mem = true := by
  unfold State.garble
  generalize (4096 : Nat) = m
  exact cellsOk_cellWrs _ _ h

/-- A loss of AON keeps the form of the array. -/
theorem storeCut_ok {s : State} (h : cellsOk 0xFF s.store.mem = true) : cellsOk 0xFF s.storeCut.store.mem = true := by
  unfold State.storeCut
  have h' : cellsOk 0xFF (if s.store.burst.isSome && !s.store.gateWait then s.tear s.store.span.2 else s).store.mem = true := by
    split
    · exact tear_ok _ h
    · exact h
  dsimp only
  split
  · split
    · exact garble_ok _ h'
    · exact h'
  · exact h'

theorem writePart_ok {s : State} (l : Load) (ok : Bool) (h : cellsOk 0xFF s.store.mem = true) :
    cellsOk 0xFF (s.writePart l ok).1.store.mem = true := by
  unfold State.writePart
  split
  · exact eraseBytes_ok _ h
  · cases ok <;> exact cellsOk_cellWrs _ _ h

theorem winWrite_ok {s : State} (n : Nat) (d : Word) (h : cellsOk 0 s.img.window = true) :
    cellsOk 0 (winWrite n d s).img.window = true := cellsOk_cellWrs _ _ h

theorem reset_bytes_ok : cellsOk 0xFF State.reset.store.mem = true ∧ cellsOk 0 State.reset.img.window = true := ⟨rfl, rfl⟩

end Sys2Proof.Laws
end

