-- ==== Sys2Proof/Laws/Rings.lean ====
section
/-! SUPPORT. Sys2Proof/Laws/Rings.lean: the operations of the power stage, the supervisor and the clocks clear no status bit
and no latched flag: an event that has been raised stays raised (R341), a flag that has been set stays set. -/
namespace Sys2Proof.Laws
set_option Elab.async false
set_option linter.unusedSimpArgs false
open Sys2Proof.Machine Sys2Proof.Safety

/-- Words whose bits these operations only set: the status bits and the latched flags of gates, gate supplies, banks, axes,
plausibility and clocks. -/
def Sticky (a : Nat) : Prop :=
  (∃ i, i < 8 ∧ a = A.EVT_STAT i) ∨ (∃ b, b < 8 ∧ ∃ i, i < 9 ∧ a = A.GATE_FLT b i) ∨ (∃ b, b < 8 ∧ a = A.GSUP_FLT b) ∨
    (∃ b, b < 8 ∧ a = A.PROT_BFLT b) ∨ (∃ b, b < 8 ∧ ∃ j, j < 3 ∧ a = A.PROT_AXSTAT b j) ∨ a = A.SAFE_PLFLT_LO ∨
    a = A.SAFE_PLFLT_HI ∨ a = A.CLK_FAULT

theorem sticky_stat {i : Nat} (h : i < 8) : Sticky (A.EVT_STAT i) := .inl ⟨i, h, rfl⟩
theorem sticky_gate (b : Fin 8) (i : Fin 9) : Sticky (A.GATE_FLT b.val i.val) := .inr (.inl ⟨_, b.isLt, _, i.isLt, rfl⟩)
theorem sticky_gsup (b : Fin 8) : Sticky (A.GSUP_FLT b.val) := .inr (.inr (.inl ⟨_, b.isLt, rfl⟩))
theorem sticky_bflt (b : Fin 8) : Sticky (A.PROT_BFLT b.val) := .inr (.inr (.inr (.inl ⟨_, b.isLt, rfl⟩)))
theorem sticky_axstat (b : Fin 8) (j : Fin 3) : Sticky (A.PROT_AXSTAT b.val j.val) :=
  .inr (.inr (.inr (.inr (.inl ⟨_, b.isLt, _, j.isLt, rfl⟩))))
theorem sticky_clk : Sticky A.CLK_FAULT := .inr (.inr (.inr (.inr (.inr (.inr (.inr rfl))))))

theorem ns_TIME_PPSREJ : ¬ Sticky (A.TIME_PPSREJ) := by
  rintro (⟨i', hi, e⟩ | ⟨b', hb, i', hi, e⟩ | ⟨b', hb, e⟩ | ⟨b', hb, e⟩ | ⟨b', hb, i', hi, e⟩ | e | e | e) <;>
    simp only [A.TIME_PPSREJ, A.EVT_STAT, A.GATE_FLT, A.GSUP_FLT, A.PROT_BFLT, A.PROT_AXSTAT, A.SAFE_PLFLT_LO,
      A.SAFE_PLFLT_HI, A.CLK_FAULT] at e <;> omega

theorem ns_TIME_PPSERR : ¬ Sticky (A.TIME_PPSERR) := by
  rintro (⟨i', hi, e⟩ | ⟨b', hb, i', hi, e⟩ | ⟨b', hb, e⟩ | ⟨b', hb, e⟩ | ⟨b', hb, i', hi, e⟩ | e | e | e) <;>
    simp only [A.TIME_PPSERR, A.EVT_STAT, A.GATE_FLT, A.GSUP_FLT, A.PROT_BFLT, A.PROT_AXSTAT, A.SAFE_PLFLT_LO,
      A.SAFE_PLFLT_HI, A.CLK_FAULT] at e <;> omega

theorem ns_TIME_FERR : ¬ Sticky (A.TIME_FERR) := by
  rintro (⟨i', hi, e⟩ | ⟨b', hb, i', hi, e⟩ | ⟨b', hb, e⟩ | ⟨b', hb, e⟩ | ⟨b', hb, i', hi, e⟩ | e | e | e) <;>
    simp only [A.TIME_FERR, A.EVT_STAT, A.GATE_FLT, A.GSUP_FLT, A.PROT_BFLT, A.PROT_AXSTAT, A.SAFE_PLFLT_LO,
      A.SAFE_PLFLT_HI, A.CLK_FAULT] at e <;> omega

theorem ns_CLK_REFCNT : ¬ Sticky (A.CLK_REFCNT) := by
  rintro (⟨i', hi, e⟩ | ⟨b', hb, i', hi, e⟩ | ⟨b', hb, e⟩ | ⟨b', hb, e⟩ | ⟨b', hb, i', hi, e⟩ | e | e | e) <;>
    simp only [A.CLK_REFCNT, A.EVT_STAT, A.GATE_FLT, A.GSUP_FLT, A.PROT_BFLT, A.PROT_AXSTAT, A.SAFE_PLFLT_LO,
      A.SAFE_PLFLT_HI, A.CLK_FAULT] at e <;> omega

theorem ns_CLK_CORECNT : ¬ Sticky (A.CLK_CORECNT) := by
  rintro (⟨i', hi, e⟩ | ⟨b', hb, i', hi, e⟩ | ⟨b', hb, e⟩ | ⟨b', hb, e⟩ | ⟨b', hb, i', hi, e⟩ | e | e | e) <;>
    simp only [A.CLK_CORECNT, A.EVT_STAT, A.GATE_FLT, A.GSUP_FLT, A.PROT_BFLT, A.PROT_AXSTAT, A.SAFE_PLFLT_LO,
      A.SAFE_PLFLT_HI, A.CLK_FAULT] at e <;> omega

theorem ns_SAFE_CAUSE : ¬ Sticky (A.SAFE_CAUSE) := by
  rintro (⟨i', hi, e⟩ | ⟨b', hb, i', hi, e⟩ | ⟨b', hb, e⟩ | ⟨b', hb, e⟩ | ⟨b', hb, i', hi, e⟩ | e | e | e) <;>
    simp only [A.SAFE_CAUSE, A.EVT_STAT, A.GATE_FLT, A.GSUP_FLT, A.PROT_BFLT, A.PROT_AXSTAT, A.SAFE_PLFLT_LO,
      A.SAFE_PLFLT_HI, A.CLK_FAULT] at e <;> omega

theorem ns_SAFE_DETAIL : ¬ Sticky (A.SAFE_DETAIL) := by
  rintro (⟨i', hi, e⟩ | ⟨b', hb, i', hi, e⟩ | ⟨b', hb, e⟩ | ⟨b', hb, e⟩ | ⟨b', hb, i', hi, e⟩ | e | e | e) <;>
    simp only [A.SAFE_DETAIL, A.EVT_STAT, A.GATE_FLT, A.GSUP_FLT, A.PROT_BFLT, A.PROT_AXSTAT, A.SAFE_PLFLT_LO,
      A.SAFE_PLFLT_HI, A.CLK_FAULT] at e <;> omega

theorem ns_REC_DROP_CNT : ¬ Sticky (A.REC_DROP_CNT) := by
  rintro (⟨i', hi, e⟩ | ⟨b', hb, i', hi, e⟩ | ⟨b', hb, e⟩ | ⟨b', hb, e⟩ | ⟨b', hb, i', hi, e⟩ | e | e | e) <;>
    simp only [A.REC_DROP_CNT, A.EVT_STAT, A.GATE_FLT, A.GSUP_FLT, A.PROT_BFLT, A.PROT_AXSTAT, A.SAFE_PLFLT_LO,
      A.SAFE_PLFLT_HI, A.CLK_FAULT] at e <;> omega

theorem ns_REC_HOLDOVF_CNT : ¬ Sticky (A.REC_HOLDOVF_CNT) := by
  rintro (⟨i', hi, e⟩ | ⟨b', hb, i', hi, e⟩ | ⟨b', hb, e⟩ | ⟨b', hb, e⟩ | ⟨b', hb, i', hi, e⟩ | e | e | e) <;>
    simp only [A.REC_HOLDOVF_CNT, A.EVT_STAT, A.GATE_FLT, A.GSUP_FLT, A.PROT_BFLT, A.PROT_AXSTAT, A.SAFE_PLFLT_LO,
      A.SAFE_PLFLT_HI, A.CLK_FAULT] at e <;> omega

theorem ns_STORE_JLOST : ¬ Sticky (A.STORE_JLOST) := by
  rintro (⟨i', hi, e⟩ | ⟨b', hb, i', hi, e⟩ | ⟨b', hb, e⟩ | ⟨b', hb, e⟩ | ⟨b', hb, i', hi, e⟩ | e | e | e) <;>
    simp only [A.STORE_JLOST, A.EVT_STAT, A.GATE_FLT, A.GSUP_FLT, A.PROT_BFLT, A.PROT_AXSTAT, A.SAFE_PLFLT_LO,
      A.SAFE_PLFLT_HI, A.CLK_FAULT] at e <;> omega

theorem ns_PROT_ILIMCNT (b : Fin 8) : ¬ Sticky (A.PROT_ILIMCNT b.val) := by
  rintro (⟨i', hi, e⟩ | ⟨b', hb, i', hi, e⟩ | ⟨b', hb, e⟩ | ⟨b', hb, e⟩ | ⟨b', hb, i', hi, e⟩ | e | e | e) <;>
    simp only [A.PROT_ILIMCNT, A.EVT_STAT, A.GATE_FLT, A.GSUP_FLT, A.PROT_BFLT, A.PROT_AXSTAT, A.SAFE_PLFLT_LO,
      A.SAFE_PLFLT_HI, A.CLK_FAULT] at e <;> (have := b.isLt; omega)

theorem ns_GATE_BSTUVCNT (b : Fin 8) (i : Fin 9) : ¬ Sticky (A.GATE_BSTUVCNT b.val i.val) := by
  rintro (⟨i', hi, e⟩ | ⟨b', hb, i', hi, e⟩ | ⟨b', hb, e⟩ | ⟨b', hb, e⟩ | ⟨b', hb, i', hi, e⟩ | e | e | e) <;>
    simp only [A.GATE_BSTUVCNT, A.EVT_STAT, A.GATE_FLT, A.GSUP_FLT, A.PROT_BFLT, A.PROT_AXSTAT, A.SAFE_PLFLT_LO,
      A.SAFE_PLFLT_HI, A.CLK_FAULT] at e <;> (have := b.isLt; have := i.isLt; omega)

theorem ns_PROT_CHFLT (b : Fin 8) (i : Fin 9) : ¬ Sticky (A.PROT_CHFLT b.val i.val) := by
  rintro (⟨i', hi, e⟩ | ⟨b', hb, i', hi, e⟩ | ⟨b', hb, e⟩ | ⟨b', hb, e⟩ | ⟨b', hb, i', hi, e⟩ | e | e | e) <;>
    simp only [A.PROT_CHFLT, A.EVT_STAT, A.GATE_FLT, A.GSUP_FLT, A.PROT_BFLT, A.PROT_AXSTAT, A.SAFE_PLFLT_LO,
      A.SAFE_PLFLT_HI, A.CLK_FAULT] at e <;> (have := b.isLt; have := i.isLt; omega)

theorem ns_arm (t : Fin 24) : ¬ Sticky (timAddr t 18) := by
  rintro (⟨i', hi, e⟩ | ⟨b', hb, i', hi, e⟩ | ⟨b', hb, e⟩ | ⟨b', hb, e⟩ | ⟨b', hb, i', hi, e⟩ | e | e | e) <;>
    simp only [timAddr, A.PWM_CTL, A.EVT_STAT, A.GATE_FLT, A.GSUP_FLT, A.PROT_BFLT, A.PROT_AXSTAT, A.SAFE_PLFLT_LO,
      A.SAFE_PLFLT_HI, A.CLK_FAULT] at e <;> (have := (axBank t).isLt; have := (axSlot t).isLt; omega)

/-- Every sticky bit set in `s` is set in `t`. -/
def Rings (s t : State) : Prop := ∀ a k, Sticky a → bit (s.rd a) k = true → bit (t.rd a) k = true

theorem Rings.refl (s : State) : Rings s s := fun _ _ _ h => h

theorem Rings.trans {s t u : State} (h : Rings s t) (h' : Rings t u) : Rings s u := fun a k ha b => h' a k ha (h a k ha b)

/-- An event that has been raised stays raised. -/
theorem Rings.event {s t : State} (h : Rings s t) {e : EvName} (he : e.src < 128) (b : eventBit s e = true) :
    eventBit t e = true := h _ _ (sticky_stat (by omega)) b

/-- Every part but the sticky words, so far as the operations below need it. -/
def mute : Parts :=
  { free := true, fresh := true, clk := true, link := true, ops := true, can := true, rcd := true, tim := true, hb := true
    bank := true, ax := true, fus := true, sched := true, sol := true, img := true, pwr := true, store := true, pair := true
    safe := true, lands := true, mem := true, win := true, recs := true }

theorem rings_of_eq {s₀ s t : State} (h : ∀ a, Sticky a → t.rd a = s.rd a) (h₀ : Rings s₀ s) : Rings s₀ t :=
  h₀.trans (fun a k ha b => by rw [h a ha]; exact b)

theorem rings_of_forget {s₀ s t : State} (h : forget mute t = forget mute s) (h₀ : Rings s₀ s) : Rings s₀ t :=
  rings_of_eq (fun a _ => (only_of_forget h).regs a (by simp [Parts.covers, mute])) h₀

theorem each_rings {α : Type} {s₀ s : State} {l : List α} {f : State → α → State}
    (h : ∀ u x, Rings s₀ u → Rings s₀ (f u x)) (h₀ : Rings s₀ s) : Rings s₀ (s.each l f) := by
  induction l generalizing s with
  | nil => exact h₀
  | cons x xs ih => exact ih (h s x h₀)

theorem wr_rings {s₀ s : State} {a : Nat} {v : Word} (ha : ¬ Sticky a) (h₀ : Rings s₀ s) : Rings s₀ (s.wr a v) :=
  rings_of_eq (fun b hb => by rw [rd_wr, if_neg (fun c => ha (by rw [← c]; exact hb))]) h₀

theorem setFlags_rings {s₀ s : State} {a : Nat} {v : Word} (h₀ : Rings s₀ s) : Rings s₀ (s.setFlags a v) := by
  refine h₀.trans (fun b k _ h => ?_)
  show bit ((s.wr _ _).rd b) k = true
  rw [rd_wr]
  split
  · rename_i e; subst e; rw [bit_or, h]; rfl
  · exact h

theorem setEvt_rings {s₀ s : State} {n : Nat} (h₀ : Rings s₀ s) : Rings s₀ (s.setEvt n) := setFlags_rings h₀

theorem satInc_rings {s₀ s : State} {a : Nat} (ha : ¬ Sticky a) (h₀ : Rings s₀ s) : Rings s₀ (s.satInc a) := wr_rings ha h₀

theorem modRcd_rings {s₀ s : State} {f : Recorder → Recorder} (h₀ : Rings s₀ s) : Rings s₀ (s.modRcd f) := h₀

theorem modStore_rings {s₀ s : State} {f : Store → Store} (h₀ : Rings s₀ s) : Rings s₀ (s.modStore f) := h₀

theorem fifoIn_rings {s₀ s : State} {x : Raised} (h₀ : Rings s₀ s) : Rings s₀ (s.fifoIn x) := by
  unfold State.fifoIn
  split
  · exact h₀
  · refine satInc_rings ns_REC_HOLDOVF_CNT ?_
    split
    · exact modRcd_rings h₀
    · exact h₀

theorem raiseAt_rings {s₀ s : State} {p : Nat} {e : EvName} {d0 d1 : Word} (h₀ : Rings s₀ s) :
    Rings s₀ (s.raiseAt p e d0 d1) := by
  have h : Rings s₀ (s.setEvt e.src) := setEvt_rings h₀
  unfold State.raiseAt
  dsimp only
  split
  · exact modRcd_rings h
  · exact h

theorem raise_rings {s₀ s : State} {e : EvName} {d0 d1 : Word} (h₀ : Rings s₀ s) : Rings s₀ (s.raise e d0 d1) :=
  raiseAt_rings h₀

theorem jqueue_rings {s₀ s : State} {x : Raised} {p h : Bool} {q : Word} (h₀ : Rings s₀ s) : Rings s₀ (s.jqueue x p h q) := by
  have hj : Rings s₀ (s.satInc A.STORE_JLOST) := satInc_rings ns_STORE_JLOST h₀
  unfold State.jqueue
  dsimp only
  split
  · exact modStore_rings h₀
  · split
    · exact raise_rings (modStore_rings hj)
    · exact modStore_rings hj

theorem wrapInc_rings {s₀ s : State} {a : Nat} (ha : ¬ Sticky a) (h₀ : Rings s₀ s) : Rings s₀ (s.wrapInc a) := wr_rings ha h₀

theorem satAdd_rings {s₀ s : State} {a n : Nat} (ha : ¬ Sticky a) (h₀ : Rings s₀ s) : Rings s₀ (s.satAdd a n) := wr_rings ha h₀

theorem modClk_rings {s₀ s : State} {f : Clk → Clk} (h₀ : Rings s₀ s) : Rings s₀ (s.modClk f) := h₀

theorem modLink_rings {s₀ s : State} {f : Link → Link} (h₀ : Rings s₀ s) : Rings s₀ (s.modLink f) := h₀

theorem modOps_rings {s₀ s : State} {f : Ops → Ops} (h₀ : Rings s₀ s) : Rings s₀ (s.modOps f) := h₀

theorem modFus_rings {s₀ s : State} {f : Fusion → Fusion} (h₀ : Rings s₀ s) : Rings s₀ (s.modFus f) := h₀

theorem modSched_rings {s₀ s : State} {f : Sched → Sched} (h₀ : Rings s₀ s) : Rings s₀ (s.modSched f) := h₀

theorem modSol_rings {s₀ s : State} {f : Solver → Solver} (h₀ : Rings s₀ s) : Rings s₀ (s.modSol f) := h₀

theorem modImg_rings {s₀ s : State} {f : Img → Img} (h₀ : Rings s₀ s) : Rings s₀ (s.modImg f) := h₀

theorem modPwr_rings {s₀ s : State} {f : Pwr → Pwr} (h₀ : Rings s₀ s) : Rings s₀ (s.modPwr f) := h₀

theorem modPair_rings {s₀ s : State} {f : Pair → Pair} (h₀ : Rings s₀ s) : Rings s₀ (s.modPair f) := h₀

theorem modSafe_rings {s₀ s : State} {f : Safe → Safe} (h₀ : Rings s₀ s) : Rings s₀ (s.modSafe f) := h₀

theorem modLands_rings {s₀ s : State} {f : Lands → Lands} (h₀ : Rings s₀ s) : Rings s₀ (s.modLands f) := h₀

theorem modCan_rings {s₀ s : State} {i : Fin 2} {f : Can → Can} (h₀ : Rings s₀ s) : Rings s₀ (s.modCan i f) := h₀

theorem modTim_rings {s₀ s : State} {i : Fin 24} {f : Timer → Timer} (h₀ : Rings s₀ s) : Rings s₀ (s.modTim i f) := h₀

theorem modAx_rings {s₀ s : State} {i : Fin 24} {f : Axis → Axis} (h₀ : Rings s₀ s) : Rings s₀ (s.modAx i f) := h₀

theorem modSlot_rings {s₀ s : State} {i : Fin 8} {f : OpSlot → OpSlot} (h₀ : Rings s₀ s) : Rings s₀ (s.modSlot i f) := h₀

theorem modRow_rings {s₀ s : State} {i : Fin 24} {f : SolRow → SolRow} (h₀ : Rings s₀ s) : Rings s₀ (s.modRow i f) := h₀

theorem modHb_rings {s₀ s : State} {i : Fin 72} {f : HalfB → HalfB} (h₀ : Rings s₀ s) : Rings s₀ (s.modHb i f) := h₀

theorem modBank_rings {s₀ s : State} {i : Fin 8} {f : Bank → Bank} (h₀ : Rings s₀ s) : Rings s₀ (s.modBank i f) := h₀

theorem modConv_rings {s₀ s : State} {i : Fin 24} {f : Conv → Conv} (h₀ : Rings s₀ s) : Rings s₀ (s.modConv i f) := h₀

theorem modGate_rings {s₀ s : State} {h : Fin 72} {side : Side} {f : Gate → Gate} (h₀ : Rings s₀ s) :
    Rings s₀ (s.modGate h side f) := h₀

theorem took_rings {s₀ s : State} (h₀ : Rings s₀ s) : Rings s₀ s.took := h₀

theorem writeRec_rings {s₀ : State} {s : State} {x : Raised} {held : Bool} {n lastTb : Nat} (h₀ : Rings s₀ s) : Rings s₀ (State.writeRec s x held n lastTb) := by
  unfold State.writeRec
  try dsimp only
  repeat' first
    | with_reducible assumption
    | with_reducible apply jqueue_rings
    | with_reducible apply modRcd_rings
    | with_reducible apply raise_rings
    | with_reducible refine satInc_rings (ns_REC_DROP_CNT) ?_
    | split
    | dsimp only

theorem holdRec_rings {s₀ : State} {s : State} {x : Raised} (h₀ : Rings s₀ s) : Rings s₀ (State.holdRec s x) := by
  unfold State.holdRec
  try dsimp only
  repeat' first
    | with_reducible assumption
    | with_reducible apply fifoIn_rings
    | with_reducible apply jqueue_rings
    | split
    | dsimp only

theorem writeDue_rings {s₀ : State} {s : State} (h₀ : Rings s₀ s) : Rings s₀ (State.writeDue s) := by
  unfold State.writeDue
  try dsimp only
  repeat' first
    | with_reducible assumption
    | with_reducible apply holdRec_rings
    | with_reducible apply modRcd_rings
    | with_reducible apply writeRec_rings
    | split
    | dsimp only

theorem writeDueN_rings {s₀ : State} {s : State} {x0 : Nat} (h₀ : Rings s₀ s) :
    Rings s₀ (State.writeDueN s x0) :=
    by
  induction x0 generalizing s with
  | zero => exact h₀
  | succ n ih => exact ih (writeDue_rings h₀)

theorem flushDue_rings {s₀ : State} {s : State} (h₀ : Rings s₀ s) :
    Rings s₀ (State.flushDue s) := by
  unfold State.flushDue
  try dsimp only
  repeat' first
    | with_reducible assumption
    | with_reducible apply writeDueN_rings
    | split
    | dsimp only

theorem drainDone_rings {s₀ : State} {s : State} (h₀ : Rings s₀ s) : Rings s₀ (State.drainDone s) := by
  unfold State.drainDone
  try dsimp only
  repeat' first
    | with_reducible assumption
    | with_reducible apply modRcd_rings
    | with_reducible apply raise_rings
    | split
    | dsimp only

theorem drainOne_rings {s₀ : State} {s : State} (h₀ : Rings s₀ s) :
    Rings s₀ (State.drainOne s) := by
  unfold State.drainOne
  try dsimp only
  repeat' first
    | with_reducible assumption
    | with_reducible apply modRcd_rings
    | with_reducible apply writeRec_rings
    | split
    | dsimp only

theorem drainN_rings {s₀ : State} {s : State} {x0 : Nat} (h₀ : Rings s₀ s) :
    Rings s₀ (State.drainN s x0) := by
  induction x0 generalizing s with
  | zero => exact h₀
  | succ n ih => exact ih (drainOne_rings h₀)

theorem drain_rings {s₀ : State} {s : State} (h₀ : Rings s₀ s) :
    Rings s₀ (State.drain s) := by
  unfold State.drain
  try dsimp only
  repeat' first
    | with_reducible assumption
    | with_reducible apply drainDone_rings
    | with_reducible apply drainN_rings
    | split
    | dsimp only

theorem thaw_rings {s₀ : State} {s : State} {c : ThawCause} (h₀ : Rings s₀ s) : Rings s₀ (State.thaw s c) := by
  unfold State.thaw
  try dsimp only
  repeat' first
    | with_reducible assumption
    | with_reducible apply drainDone_rings
    | with_reducible apply flushDue_rings
    | with_reducible apply modRcd_rings
    | split
    | dsimp only

theorem raiseAxis_rings {s₀ : State} {s : State} {b : Fin 8} {fault : Bool} {d0 d1 : Word} (h₀ : Rings s₀ s) :
    Rings s₀ (State.raiseAxis s b fault d0 d1) := by
  unfold State.raiseAxis
  exact raise_rings h₀

theorem recClr_rings {s₀ : State} {s : State} (h₀ : Rings s₀ s) :
    Rings s₀ (recClr s) := by
  unfold recClr
  try dsimp only
  repeat' first
    | with_reducible assumption
    | with_reducible apply flushDue_rings
    | with_reducible apply modRcd_rings
    | split
    | dsimp only

theorem hostMark_rings {s₀ : State} {d hi : Word} {s : State} (h₀ : Rings s₀ s) :
    Rings s₀ (hostMark d hi s) := by
  unfold hostMark
  try dsimp only
  repeat' first
    | with_reducible assumption
    | with_reducible apply raise_rings
    | split
    | dsimp only

theorem secBoundary_rings {s₀ : State} {s : State} {inc : Bool} (h₀ : Rings s₀ s) :
    Rings s₀ (State.secBoundary s
    inc) := by
  unfold State.secBoundary
  try dsimp only
  repeat' first
    | with_reducible assumption
    | with_reducible apply modClk_rings
    | with_reducible apply raise_rings
    | split
    | dsimp only

theorem internalBoundary_rings {s₀ : State} {s : State} (h₀ : Rings s₀ s) :
    Rings s₀ (State.internalBoundary s) :=
    by
  unfold State.internalBoundary
  try dsimp only
  repeat' first
    | with_reducible assumption
    | with_reducible apply secBoundary_rings
    | split
    | dsimp only

theorem tickTime_rings {s₀ : State} {s : State} (h₀ : Rings s₀ s) :
    Rings s₀ (State.tickTime s) := by
  unfold State.tickTime
  try dsimp only
  repeat' first
    | with_reducible assumption
    | with_reducible apply internalBoundary_rings
    | with_reducible apply modClk_rings
    | split
    | dsimp only

theorem edgeBoundary_rings {s₀ : State} {s : State} {e : Int} (h₀ : Rings s₀ s) :
    Rings s₀ (State.edgeBoundary s
    e) := by
  unfold State.edgeBoundary
  try dsimp only
  repeat' first
    | with_reducible assumption
    | with_reducible apply secBoundary_rings
    | split
    | dsimp only

theorem setFerr_rings {s₀ : State} {s : State} {f : Int} (h₀ : Rings s₀ s) :
    Rings s₀ (State.setFerr s f) := by
  unfold State.setFerr
  try dsimp only
  repeat' first
    | with_reducible assumption
    | with_reducible refine wr_rings (ns_TIME_FERR) ?_
    | split
    | dsimp only

theorem ppsReject_rings {s₀ : State} {s : State} (h₀ : Rings s₀ s) :
    Rings s₀ (State.ppsReject s) := by
  unfold State.ppsReject
  try dsimp only
  repeat' first
    | with_reducible assumption
    | with_reducible apply raise_rings
    | with_reducible refine satInc_rings (ns_TIME_PPSERR) ?_
    | with_reducible refine satInc_rings (ns_TIME_PPSREJ) ?_
    | split
    | dsimp only

theorem ppsAccept_rings {s₀ : State} {s : State} {e : Int} (h₀ : Rings s₀ s) : Rings s₀ (State.ppsAccept s e) := by
  unfold State.ppsAccept
  try dsimp only
  repeat' first
    | with_reducible assumption
    | with_reducible apply edgeBoundary_rings
    | with_reducible apply modClk_rings
    | with_reducible apply setFerr_rings
    | with_reducible apply took_rings
    | split
    | dsimp only

theorem ppsEdge_rings {s₀ : State} {level : Bool} {s : State} (h₀ : Rings s₀ s) : Rings s₀ (ppsEdge level s) := by
  unfold ppsEdge
  try dsimp only
  repeat' first
    | with_reducible assumption
    | with_reducible apply edgeBoundary_rings
    | with_reducible apply modClk_rings
    | with_reducible apply ppsAccept_rings
    | with_reducible apply ppsReject_rings
    | with_reducible apply raise_rings
    | with_reducible apply setFerr_rings
    | with_reducible refine wr_rings (ns_TIME_PPSERR) ?_
    | with_reducible refine wr_rings (ns_TIME_FERR) ?_
    | split
    | dsimp only

theorem ppsLost_rings {s₀ : State} {s : State} {place : Nat} (h₀ : Rings s₀ s) : Rings s₀ (State.ppsLost s place) := by
  unfold State.ppsLost
  try dsimp only
  repeat' first
    | with_reducible assumption
    | with_reducible apply modClk_rings
    | with_reducible apply raiseAt_rings
    | split
    | dsimp only

theorem ppsBreak_rings {s₀ : State} {s : State} {r : Rank} (h₀ : Rings s₀ s) : Rings s₀ (State.ppsBreak s r) := by
  unfold State.ppsBreak
  try dsimp only
  repeat' first
    | with_reducible assumption
    | with_reducible apply modClk_rings
    | with_reducible apply ppsLost_rings
    | split
    | dsimp only

theorem endSlot_rings {s₀ : State} {s : State} {i : Fin 8} {st : OpState} {fail : Nat} (h₀ : Rings s₀ s) :
    Rings
    s₀ (State.endSlot s i st fail) := by
  unfold State.endSlot
  try dsimp only
  repeat' first
    | with_reducible assumption
    | with_reducible apply modOps_rings
    | with_reducible apply modSlot_rings
    | with_reducible apply raise_rings
    | split
    | dsimp only

theorem interrupt_rings {s₀ : State} {s : State} {i : Fin 8} (h₀ : Rings s₀ s) :
    Rings s₀ (State.interrupt s i) :=
    by
  unfold State.interrupt
  try dsimp only
  repeat' first
    | with_reducible assumption
    | with_reducible apply endSlot_rings
    | split
    | dsimp only

theorem failOp_rings {s₀ : State} {s : State} {op : Nat} (h₀ : Rings s₀ s) :
    Rings s₀ (State.failOp s op) := by
  unfold State.failOp
  try dsimp only
  repeat' first
    | with_reducible assumption
    | with_reducible apply interrupt_rings
    | split
    | dsimp only

theorem unitDone_rings {s₀ : State} {s : State} {i : Fin 8} {b : Fin 8} (h₀ : Rings s₀ s) : Rings s₀ (State.unitDone s
    i b).1 :=
  rings_of_forget (unitDone_forget mute s i b rfl rfl) h₀

theorem unitDone_rings_eq {s₀ : State} {s : State} {i : Fin 8} {b : Fin 8} {t' : State} {v' : Bool} (e :
    State.unitDone s i b = (t', v')) (h₀ : Rings s₀ s) :
    Rings s₀ t' := by
  have : Rings s₀ (State.unitDone s i b).1 := unitDone_rings h₀
  rwa [e] at this

theorem cutShuntCal_rings {s₀ : State} {s : State} {b : Fin 8} (h₀ : Rings s₀ s) :
    Rings s₀ (State.cutShuntCal s
    b) := by
  unfold State.cutShuntCal
  try dsimp only
  repeat' first
    | with_reducible assumption
    | with_reducible apply interrupt_rings
    | split
    | dsimp only

theorem measureLines_rings {s₀ : State} {s : State} {x : OpSlot} {all : Bool} (h₀ : Rings s₀ s) : Rings s₀
    (State.measureLines s x all) :=
  rings_of_forget (measureLines_forget mute s x all rfl rfl) h₀

theorem cutDlineCal_rings {s₀ : State} {s : State} {b : Fin 8} (h₀ : Rings s₀ s) :
    Rings s₀ (State.cutDlineCal s
    b) := by
  unfold State.cutDlineCal
  try dsimp only
  repeat' first
    | with_reducible assumption
    | with_reducible apply interrupt_rings
    | with_reducible apply measureLines_rings
    | with_reducible refine unitDone_rings_eq (by assumption) ?_
    | with_reducible apply unitDone_rings
    | split
    | dsimp only

theorem cutSelfTest_rings {s₀ : State} {s : State} {b : Fin 8} (h₀ : Rings s₀ s) :
    Rings s₀ (State.cutSelfTest s
    b) := by
  unfold State.cutSelfTest
  try dsimp only
  repeat' first
    | with_reducible assumption
    | with_reducible apply interrupt_rings
    | with_reducible refine unitDone_rings_eq (by assumption) ?_
    | with_reducible apply unitDone_rings
    | split
    | dsimp only

theorem turnOff_rings {s₀ : State} {s : State} {t : Nat} {h : Fin 72} {side : Side} {soft : Bool} (h₀ : Rings s₀ s) :
    Rings s₀ (State.turnOff s t h side soft) :=
  rings_of_forget (turnOff_forget mute s t h side soft rfl rfl) h₀

theorem deliver_rings {s₀ : State} {s : State} {t : Nat} {h : Fin 72} {urgent : Bool} {c : HbCmd} (h₀ : Rings s₀ s) :
    Rings s₀ (State.deliver s t h urgent c) :=
  rings_of_forget (deliver_forget mute s t h urgent c rfl rfl) h₀

theorem markAbove_rings {s₀ : State} {s : State} {h : Fin 72} (h₀ : Rings s₀ s) : Rings s₀ (State.markAbove s h) :=
  rings_of_forget (markAbove_forget mute s h rfl) h₀

theorem bstBlock_rings {s₀ : State} {s : State} {h : Fin 72} (h₀ : Rings s₀ s) :
    Rings s₀ (State.bstBlock s h) :=
    by
  unfold State.bstBlock
  try dsimp only
  repeat' first
    | with_reducible assumption
    | with_reducible apply modHb_rings
    | with_reducible apply raise_rings
    | with_reducible refine satInc_rings (ns_GATE_BSTUVCNT _ _) ?_
    | with_reducible apply setFlags_rings
    | split
    | dsimp only

theorem urge_rings {s₀ : State} {s : State} {t : Nat} {h : Fin 72} (h₀ : Rings s₀ s) : Rings s₀ (State.urge s t h) := by
  unfold State.urge
  try dsimp only
  repeat' first
    | with_reducible assumption
    | with_reducible refine each_rings (fun u x h₁ => ?_) ?_
    | with_reducible apply turnOff_rings
    | split
    | dsimp only

theorem redrive_rings {s₀ : State} {s : State} {t : Nat} {h : Fin 72} (h₀ : Rings s₀ s) : Rings s₀ (State.redrive s t h) := by
  unfold State.redrive
  try dsimp only
  repeat' first
    | with_reducible assumption
    | with_reducible apply bstBlock_rings
    | with_reducible apply deliver_rings
    | with_reducible apply markAbove_rings
    | with_reducible apply modHb_rings
    | with_reducible apply urge_rings
    | split
    | dsimp only

theorem redriveBank_rings {s₀ : State} {s : State} {t : Nat} {b : Fin 8} (h₀ : Rings s₀ s) :
    Rings s₀
    (State.redriveBank s t b) := by
  unfold State.redriveBank
  try dsimp only
  repeat' first
    | with_reducible assumption
    | with_reducible refine each_rings (fun u x h₁ => ?_) ?_
    | with_reducible apply redrive_rings
    | split
    | dsimp only

theorem redriveAxis_rings {s₀ : State} {s : State} {t : Nat} {a : Fin 24} (h₀ : Rings s₀ s) :
    Rings s₀
    (State.redriveAxis s t a) := by
  unfold State.redriveAxis
  try dsimp only
  repeat' first
    | with_reducible assumption
    | with_reducible refine each_rings (fun u x h₁ => ?_) ?_
    | with_reducible apply redrive_rings
    | split
    | dsimp only

theorem release_rings {s₀ : State} {s : State} {h : Fin 72} {old : Option HbCmd} (h₀ : Rings s₀ s) : Rings s₀
    (State.release s h old) :=
  rings_of_forget (release_forget mute s h old rfl) h₀

theorem reRow2_rings {s₀ : State} {s : State} {t : Nat} {hbs : List (Fin 72)} {f : State → State} (hf : ∀ u, Rings s₀
    u → Rings s₀ (f u)) (h₀ : Rings s₀ s) :
    Rings s₀ (State.reRow2 s t hbs f) := by
  unfold State.reRow2
  dsimp only
  refine each_rings (fun u x h₁ => redrive_rings h₁) ?_
  refine each_rings (fun u x h₁ => release_rings h₁) ?_
  exact hf s h₀

theorem enterFloat_rings {s₀ : State} {s : State} {t : Nat} {b : Fin 8} (h₀ : Rings s₀ s) :
    Rings s₀
    (State.enterFloat s t b) := by
  unfold State.enterFloat
  try dsimp only
  repeat' first
    | with_reducible assumption
    | with_reducible apply modBank_rings
    | with_reducible apply redriveBank_rings
    | split
    | dsimp only

theorem refloat_rings {s₀ : State} {s : State} {t : Nat} {b : Fin 8} (h₀ : Rings s₀ s) :
    Rings s₀ (State.refloat s
    t b) := by
  unfold State.refloat
  try dsimp only
  repeat' first
    | with_reducible assumption
    | with_reducible apply enterFloat_rings
    | split
    | dsimp only

theorem toStopped_rings {s₀ : State} {s : State} {a : Fin 24} {c : AxCause} (h₀ : Rings s₀ s) :
    Rings s₀
    (State.toStopped s a c) := by
  unfold State.toStopped
  try dsimp only
  repeat' first
    | with_reducible assumption
    | with_reducible apply modAx_rings
    | with_reducible apply raiseAxis_rings
    | split
    | dsimp only

theorem stopAxis_rings {s₀ : State} {s : State} {a : Fin 24} {c : AxCause} (h₀ : Rings s₀ s) :
    Rings s₀
    (State.stopAxis s a c) := by
  unfold State.stopAxis
  try dsimp only
  repeat' first
    | with_reducible assumption
    | with_reducible apply failOp_rings
    | with_reducible apply toStopped_rings
    | split
    | dsimp only

theorem raiseArm_rings {s₀ : State} {s : State} {b : Fin 8} (h₀ : Rings s₀ s) :
    Rings s₀ (State.raiseArm s b) :=
    by
  unfold State.raiseArm
  try dsimp only
  repeat' first
    | with_reducible assumption
    | with_reducible apply raise_rings
    | split
    | dsimp only

theorem disarm_rings {s₀ : State} {s : State} {t : Nat} {b : Fin 8} {cause : Nat} {stop : AxCause} (h₀ : Rings s₀ s)
    :
    Rings s₀ (State.disarm s t b cause stop) := by
  unfold State.disarm
  try dsimp only
  repeat' first
    | with_reducible assumption
    | with_reducible apply cutShuntCal_rings
    | with_reducible refine each_rings (fun u x h₁ => ?_) ?_
    | with_reducible apply modBank_rings
    | with_reducible apply raiseArm_rings
    | with_reducible apply redriveBank_rings
    | with_reducible apply stopAxis_rings
    | split
    | dsimp only

theorem armTimer_rings {s₀ : State} {s : State} {a : Nat} {t : Fin 24} (h₀ : Rings s₀ s) :
    Rings s₀
    (State.armTimer s a t) := by
  unfold State.armTimer
  try dsimp only
  repeat' first
    | with_reducible assumption
    | with_reducible apply modTim_rings
    | with_reducible apply raise_rings
    | with_reducible refine satInc_rings (ns_arm _) ?_
    | split
    | dsimp only

theorem loadAll_rings {s₀ : State} {a : Nat} {hi : Bool} {d : Word} {s : State} (h₀ : Rings s₀ s) :
    Rings s₀
    (loadAll a hi d s) := by
  unfold loadAll
  try dsimp only
  repeat' first
    | with_reducible assumption
    | with_reducible apply armTimer_rings
    | with_reducible refine each_rings (fun u x h₁ => ?_) ?_
    | split
    | dsimp only

theorem loseAsc_rings {s₀ : State} {s : State} {a : Fin 24} (h₀ : Rings s₀ s) :
    Rings s₀ (State.loseAsc s a) := by
  unfold State.loseAsc
  try dsimp only
  repeat' first
    | with_reducible assumption
    | with_reducible apply modAx_rings
    | with_reducible apply raise_rings
    | with_reducible apply setFlags_rings
    | split
    | dsimp only

theorem countCut_rings {s₀ : State} {s : State} {h : Fin 72} (h₀ : Rings s₀ s) : Rings s₀ (State.countCut s h) := by
  unfold State.countCut
  try dsimp only
  repeat' first
    | with_reducible assumption
    | with_reducible apply bstBlock_rings
    | split
    | dsimp only

theorem ascSupply_rings {s₀ : State} {s : State} {a : Fin 24} (h₀ : Rings s₀ s) : Rings s₀ (State.ascSupply s a) := by
  unfold State.ascSupply
  try dsimp only
  repeat' first
    | with_reducible assumption
    | with_reducible apply countCut_rings
    | with_reducible refine each_rings (fun u x h₁ => ?_) ?_
    | with_reducible apply loseAsc_rings
    | split
    | dsimp only

theorem sideFor_rings {s₀ : State} {s : State} {a : Fin 24} {before : Bool} (h₀ : Rings s₀ s) :
    Rings s₀
    (State.sideFor s a before) := by
  unfold State.sideFor
  try dsimp only
  repeat' first
    | with_reducible assumption
    | with_reducible apply ascSupply_rings
    | with_reducible apply modAx_rings
    | split
    | dsimp only

theorem rejudge_rings {s₀ : State} {s : State} {a : Fin 24} {follows : Option Side} (h₀ : Rings s₀ s) :
    Rings s₀
    (State.rejudge s a follows) := by
  unfold State.rejudge
  try dsimp only
  repeat' first
    | with_reducible assumption
    | with_reducible apply ascSupply_rings
    | with_reducible apply loseAsc_rings
    | with_reducible apply modAx_rings
    | split
    | dsimp only

theorem bankCause_rings {s₀ : State} {s : State} {t : Nat} {b : Fin 8} {f : Bank → Bank} (h₀ : Rings s₀ s) :
    Rings
    s₀ (State.bankCause s t b f) := by
  unfold State.bankCause
  try dsimp only
  repeat' first
    | with_reducible assumption
    | with_reducible refine each_rings (fun u x h₁ => ?_) ?_
    | with_reducible apply modBank_rings
    | with_reducible refine reRow2_rings (fun u h₁ => ?_) ?_
    | with_reducible apply sideFor_rings
    | split
    | dsimp only

theorem stopByFault_rings {s₀ : State} {s : State} {b : Fin 8} (h₀ : Rings s₀ s) :
    Rings s₀ (State.stopByFault s
    b) := by
  unfold State.stopByFault
  try dsimp only
  repeat' first
    | with_reducible assumption
    | with_reducible apply cutShuntCal_rings
    | with_reducible refine each_rings (fun u x h₁ => ?_) ?_
    | with_reducible apply stopAxis_rings
    | split
    | dsimp only

theorem takeReaction_rings {s₀ : State} {s : State} {a : Fin 24} {h : Fin 72} {side : Side} (h₀ : Rings s₀ s) :
    Rings s₀ (State.takeReaction s a h side) := by
  unfold State.takeReaction
  try dsimp only
  repeat' first
    | with_reducible assumption
    | with_reducible apply ascSupply_rings
    | with_reducible apply modAx_rings
    | with_reducible apply modHb_rings
    | split
    | dsimp only

theorem engineFault_rings {s₀ : State} {s : State} {a : Fin 24} {r : Fin 3} (h₀ : Rings s₀ s) :
    Rings s₀
    (State.engineFault s a r) := by
  unfold State.engineFault
  try dsimp only
  repeat' first
    | with_reducible assumption
    | with_reducible apply modAx_rings
    | with_reducible apply stopAxis_rings
    | split
    | dsimp only

theorem softOff_rings {s₀ : State} {s : State} {t : Nat} {h : Fin 72} {side : Side} (h₀ : Rings s₀ s) : Rings s₀ (State.softOff s t h side) := by
  unfold State.softOff
  try dsimp only
  repeat' first
    | with_reducible assumption
    | with_reducible apply modGate_rings
    | with_reducible apply turnOff_rings
    | split
    | dsimp only

theorem axisReaction_rings {s₀ : State} {s : State} {t : Nat} {h : Fin 72} {side : Side} {stuck : Bool} (h₀ : Rings s₀ s) : Rings s₀ (State.axisReaction s t h side stuck) := by
  unfold State.axisReaction
  try dsimp only
  repeat' first
    | with_reducible assumption
    | with_reducible apply cutShuntCal_rings
    | with_reducible apply engineFault_rings
    | with_reducible apply modHb_rings
    | with_reducible refine reRow2_rings (fun u h₁ => ?_) ?_
    | with_reducible apply rejudge_rings
    | with_reducible apply softOff_rings
    | with_reducible apply takeReaction_rings
    | split
    | dsimp only

theorem detect_rings {s₀ : State} {s : State} {t : Nat} {h : Fin 72} {side : Side} {k : Nat} (h₀ : Rings s₀ s) :
    Rings s₀ (State.detect s t h side k) := by
  unfold State.detect
  try dsimp only
  repeat' first
    | with_reducible assumption
    | with_reducible apply axisReaction_rings
    | with_reducible apply raise_rings
    | with_reducible apply setFlags_rings
    | with_reducible refine wr_rings (ns_PROT_CHFLT _ _) ?_
    | split
    | dsimp only

theorem releaseFaults_rings {s₀ : State} {s : State} {t : Nat} {b : Fin 8} (h₀ : Rings s₀ s) :
    Rings s₀
    (State.releaseFaults s t b) := by
  unfold State.releaseFaults
  try dsimp only
  repeat' first
    | with_reducible assumption
    | with_reducible refine each_rings (fun u x h₁ => ?_) ?_
    | with_reducible apply modAx_rings
    | with_reducible apply modHb_rings
    | with_reducible refine reRow2_rings (fun u h₁ => ?_) ?_
    | split
    | dsimp only

theorem gateCheck_rings {s₀ : State} {s : State} {t : Nat} {b : Fin 8} (h₀ : Rings s₀ s) : Rings s₀ (State.gateCheck s
    t b) :=
  rings_of_forget (gateCheck_forget mute s t b rfl) h₀

theorem refloatAll_rings {s₀ : State} {s : State} {t : Nat} (h₀ : Rings s₀ s) :
    Rings s₀ (State.refloatAll s t) :=
    by
  unfold State.refloatAll
  try dsimp only
  repeat' first
    | with_reducible assumption
    | with_reducible refine each_rings (fun u x h₁ => ?_) ?_
    | with_reducible apply gateCheck_rings
    | with_reducible apply refloat_rings
    | split
    | dsimp only

theorem endHold_rings {s₀ : State} {s : State} {t : Nat} {b : Fin 8} (h₀ : Rings s₀ s) :
    Rings s₀ (State.endHold s
    t b) := by
  unfold State.endHold
  try dsimp only
  repeat' first
    | with_reducible assumption
    | with_reducible apply bankCause_rings
    | with_reducible apply refloat_rings
    | split
    | dsimp only

theorem releaseOwner_rings {s₀ : State} {s : State} {t : Nat} {cause : Nat} (h₀ : Rings s₀ s) :
    Rings s₀
    (State.releaseOwner s t cause) := by
  unfold State.releaseOwner
  try dsimp only
  repeat' first
    | with_reducible assumption
    | with_reducible apply modPair_rings
    | with_reducible apply raise_rings
    | with_reducible apply refloatAll_rings
    | split
    | dsimp only

theorem contention_rings {s₀ : State} {s : State} {t : Nat} {h : Fin 72} (h₀ : Rings s₀ s) :
    Rings s₀
    (State.contention s t h) := by
  unfold State.contention
  try dsimp only
  repeat' first
    | with_reducible assumption
    | with_reducible apply disarm_rings
    | with_reducible refine each_rings (fun u x h₁ => ?_) ?_
    | with_reducible apply modPair_rings
    | with_reducible apply raise_rings
    | with_reducible apply refloatAll_rings
    | with_reducible apply releaseOwner_rings
    | split
    | dsimp only

theorem gateStuck_rings {s₀ : State} {t : Nat} {h : Fin 72} {side : Side} {s : State} (h₀ : Rings s₀ s) :
    Rings s₀
    (gateStuck t h side s) := by
  unfold gateStuck
  try dsimp only
  repeat' first
    | with_reducible assumption
    | with_reducible apply axisReaction_rings
    | with_reducible apply deliver_rings
    | with_reducible apply modGate_rings
    | with_reducible apply raise_rings
    | with_reducible apply setFlags_rings
    | split
    | dsimp only

theorem gateFgn_rings {s₀ : State} {t : Nat} {h : Fin 72} {side : Side} {s : State} (h₀ : Rings s₀ s) :
    Rings s₀
    (gateFgn t h side s) := by
  unfold gateFgn
  try dsimp only
  repeat' first
    | with_reducible assumption
    | with_reducible apply contention_rings
    | with_reducible apply gateCheck_rings
    | with_reducible apply modGate_rings
    | with_reducible apply raise_rings
    | with_reducible apply setFlags_rings
    | split
    | dsimp only

theorem vdrvUv_rings {s₀ : State} {t : Nat} {b : Fin 8} {s : State} (h₀ : Rings s₀ s) :
    Rings s₀ (vdrvUv t b s) :=
    by
  unfold vdrvUv
  try dsimp only
  repeat' first
    | with_reducible assumption
    | with_reducible apply bankCause_rings
    | with_reducible apply endHold_rings
    | with_reducible apply modBank_rings
    | with_reducible apply raise_rings
    | with_reducible apply setFlags_rings
    | split
    | dsimp only

theorem vcpUv_rings {s₀ : State} {t : Nat} {b : Fin 8} {s : State} (h₀ : Rings s₀ s) : Rings s₀ (vcpUv t b s) := by
  unfold vcpUv
  try dsimp only
  repeat' first
    | with_reducible assumption
    | with_reducible apply bankCause_rings
    | with_reducible refine each_rings (fun u x h₁ => ?_) ?_
    | with_reducible apply loseAsc_rings
    | with_reducible apply modAx_rings
    | with_reducible apply modBank_rings
    | with_reducible apply raise_rings
    | with_reducible refine reRow2_rings (fun u h₁ => ?_) ?_
    | with_reducible apply rejudge_rings
    | with_reducible apply setFlags_rings
    | split
    | dsimp only

theorem bstUv_rings {s₀ : State} {t : Nat} {h : Fin 72} {s : State} (h₀ : Rings s₀ s) : Rings s₀ (bstUv t h s) := by
  unfold bstUv
  try dsimp only
  repeat' first
    | with_reducible assumption
    | with_reducible apply ascSupply_rings
    | with_reducible apply countCut_rings
    | with_reducible apply modHb_rings
    | with_reducible refine reRow2_rings (fun u h₁ => ?_) ?_
    | with_reducible apply redrive_rings
    | split
    | dsimp only

theorem tripRecognised_rings {s₀ : State} {t : Nat} {b : Fin 8} {s : State} (h₀ : Rings s₀ s) :
    Rings s₀
    (tripRecognised t b s) := by
  unfold tripRecognised
  try dsimp only
  repeat' first
    | with_reducible assumption
    | with_reducible apply bankCause_rings
    | with_reducible apply modBank_rings
    | with_reducible apply raise_rings
    | with_reducible apply setFlags_rings
    | with_reducible apply stopByFault_rings
    | split
    | dsimp only

theorem tripRelease_rings {s₀ : State} {b : Fin 8} {s : State} (h₀ : Rings s₀ s) :
    Rings s₀ (tripRelease b s) :=
    by
  unfold tripRelease
  try dsimp only
  repeat' first
    | with_reducible assumption
    | with_reducible apply bankCause_rings
    | with_reducible apply modBank_rings
    | split
    | dsimp only

theorem limitHb_rings {s₀ : State} {t : Nat} {h : Fin 72} {c : HbCmd} {s : State} (h₀ : Rings s₀ s) :
    Rings s₀
    (limitHb t h c s) := by
  unfold limitHb
  try dsimp only
  repeat' first
    | with_reducible assumption
    | with_reducible apply modHb_rings
    | with_reducible apply raise_rings
    | with_reducible apply redrive_rings
    | with_reducible refine satInc_rings (ns_PROT_CHFLT _ _) ?_
    | with_reducible refine satInc_rings (ns_PROT_ILIMCNT _) ?_
    | with_reducible apply setFlags_rings
    | split
    | dsimp only

theorem vov2_rings {s₀ : State} {t : Nat} {b : Fin 8} {s : State} (h₀ : Rings s₀ s) :
    Rings s₀ (vov2 t b s) := by
  unfold vov2
  try dsimp only
  repeat' first
    | with_reducible assumption
    | with_reducible apply bankCause_rings
    | with_reducible apply modBank_rings
    | with_reducible apply raise_rings
    | with_reducible apply setFlags_rings
    | with_reducible apply stopByFault_rings
    | split
    | dsimp only

theorem ots_rings {s₀ : State} {t : Nat} {b : Fin 8} {s : State} (h₀ : Rings s₀ s) :
    Rings s₀ (ots t b s) := by
  unfold ots
  try dsimp only
  repeat' first
    | with_reducible assumption
    | with_reducible apply bankCause_rings
    | with_reducible apply raise_rings
    | with_reducible apply setFlags_rings
    | with_reducible apply stopByFault_rings
    | split
    | dsimp only

theorem cooled_rings {s₀ : State} {s : State} {b : Fin 8} (h₀ : Rings s₀ s) : Rings s₀ (State.cooled s b).1 :=
  rings_of_forget (cooled_forget mute s b rfl) h₀

theorem cooled_rings_eq {s₀ : State} {s : State} {b : Fin 8} {t' : State} {v' : Bool} (e : State.cooled s b = (t',
    v')) (h₀ : Rings s₀ s) :
    Rings s₀ t' := by
  have : Rings s₀ (State.cooled s b).1 := cooled_rings h₀
  rwa [e] at this

theorem raiseSafeDev_rings {s₀ : State} {s : State} {cause detail : Nat} (h₀ : Rings s₀ s) :
    Rings s₀
    (State.raiseSafeDev s cause detail) := by
  unfold State.raiseSafeDev
  try dsimp only
  repeat' first
    | with_reducible assumption
    | with_reducible apply raise_rings
    | split
    | dsimp only

theorem latchCause_rings {s₀ : State} {s : State} {cause detail : Nat} (h₀ : Rings s₀ s) :
    Rings s₀
    (State.latchCause s cause detail) := by
  unfold State.latchCause
  try dsimp only
  repeat' first
    | with_reducible assumption
    | with_reducible apply modSafe_rings
    | with_reducible refine wr_rings (ns_SAFE_CAUSE) ?_
    | with_reducible refine wr_rings (ns_SAFE_DETAIL) ?_
    | split
    | dsimp only

theorem deviceWide_rings {s₀ : State} {s : State} {t cause detail : Nat} (h₀ : Rings s₀ s) :
    Rings s₀
    (State.deviceWide s t cause detail) := by
  unfold State.deviceWide
  try dsimp only
  repeat' first
    | with_reducible assumption
    | with_reducible apply bankCause_rings
    | with_reducible apply disarm_rings
    | with_reducible refine each_rings (fun u x h₁ => ?_) ?_
    | with_reducible apply failOp_rings
    | with_reducible apply latchCause_rings
    | with_reducible apply modPair_rings
    | with_reducible apply raiseSafeDev_rings
    | with_reducible apply releaseOwner_rings
    | with_reducible apply stopAxis_rings
    | split
    | dsimp only

theorem safeClr_rings {s₀ : State} {s : State} (h₀ : Rings s₀ s) :
    Rings s₀ (safeClr s) := by
  unfold safeClr
  try dsimp only
  repeat' first
    | with_reducible assumption
    | with_reducible apply bankCause_rings
    | with_reducible refine each_rings (fun u x h₁ => ?_) ?_
    | with_reducible apply modSafe_rings
    | split
    | dsimp only

theorem clockFlags_rings {s₀ : State} {s : State} {t : Nat} {m : Word} (h₀ : Rings s₀ s) :
    Rings s₀
    (State.clockFlags s t m) := by
  unfold State.clockFlags
  try dsimp only
  repeat' first
    | with_reducible assumption
    | with_reducible apply deviceWide_rings
    | with_reducible apply raise_rings
    | with_reducible apply setFlags_rings
    | split
    | dsimp only

theorem monitorWindow_rings {s₀ : State} {ref core : Word} {lost : Bool} {s : State} (h₀ : Rings s₀ s) : Rings s₀ (monitorWindow ref core lost s) := by
  unfold monitorWindow
  try dsimp only
  repeat' first
    | with_reducible assumption
    | with_reducible apply clockFlags_rings
    | with_reducible apply modClk_rings
    | with_reducible apply ppsBreak_rings
    | with_reducible refine wr_rings (ns_CLK_REFCNT) ?_
    | with_reducible refine wr_rings (ns_CLK_CORECNT) ?_
    | split
    | dsimp only

theorem setPlaus_rings {s₀ : State} {s : State} {t : Nat} {a : Fin 24} {v : Bool} (h₀ : Rings s₀ s) :
    Rings s₀
    (State.setPlaus s t a v) := by
  unfold State.setPlaus
  try dsimp only
  repeat' first
    | with_reducible assumption
    | with_reducible apply modAx_rings
    | with_reducible refine reRow2_rings (fun u h₁ => ?_) ?_
    | with_reducible apply sideFor_rings
    | split
    | dsimp only

theorem plausTrip_rings {s₀ : State} {t : Nat} {a : Fin 24} {s : State} (h₀ : Rings s₀ s) :
    Rings s₀ (plausTrip t
    a s) := by
  unfold plausTrip
  try dsimp only
  repeat' first
    | with_reducible assumption
    | with_reducible apply modAx_rings
    | with_reducible apply raiseSafeDev_rings
    | with_reducible apply setFlags_rings
    | with_reducible apply setPlaus_rings
    | with_reducible apply stopAxis_rings
    | split
    | dsimp only

theorem dieLinkLoss_rings {s₀ : State} {t : Nat} {k : Fin 4} {s : State} (h₀ : Rings s₀ s) :
    Rings s₀ (dieLinkLoss
    t k s) := by
  unfold dieLinkLoss
  try dsimp only
  repeat' first
    | with_reducible assumption
    | with_reducible apply bankCause_rings
    | with_reducible apply disarm_rings
    | with_reducible refine each_rings (fun u x h₁ => ?_) ?_
    | with_reducible apply modSafe_rings
    | with_reducible apply raiseSafeDev_rings
    | split
    | dsimp only

theorem wdog_rings {s₀ : State} {s : State} {t kind : Nat} (h₀ : Rings s₀ s) :
    Rings s₀ (State.wdog s t kind) :=
    by
  unfold State.wdog
  try dsimp only
  repeat' first
    | with_reducible assumption
    | with_reducible apply deviceWide_rings
    | with_reducible apply modSafe_rings
    | with_reducible apply raise_rings
    | split
    | dsimp only

theorem wdogLate_rings {s₀ : State} {t : Nat} {s : State} (h₀ : Rings s₀ s) :
    Rings s₀ (wdogLate t s) := by
  unfold wdogLate
  try dsimp only
  repeat' first
    | with_reducible assumption
    | with_reducible apply modSafe_rings
    | with_reducible apply wdog_rings
    | split
    | dsimp only

theorem watchdogKick_rings {s₀ : State} {t : Nat} {d : Word} {s : State} (h₀ : Rings s₀ s) :
    Rings s₀
    (watchdogKick t d s) := by
  unfold watchdogKick
  try dsimp only
  repeat' first
    | with_reducible assumption
    | with_reducible apply modSafe_rings
    | with_reducible apply wdog_rings
    | with_reducible apply wdogLate_rings
    | split
    | dsimp only

theorem estop_rings {s₀ : State} {t : Nat} {s : State} (h₀ : Rings s₀ s) :
    Rings s₀ (estop t s) := by
  unfold estop
  try dsimp only
  repeat' first
    | with_reducible assumption
    | with_reducible apply bankCause_rings
    | with_reducible apply disarm_rings
    | with_reducible refine each_rings (fun u x h₁ => ?_) ?_
    | with_reducible apply modSafe_rings
    | with_reducible apply raise_rings
    | with_reducible apply stopAxis_rings
    | split
    | dsimp only

theorem armComplete_rings {s₀ : State} {t : Nat} {b : Fin 8} {s : State} (h₀ : Rings s₀ s) :
    Rings s₀ (armComplete
    t b s) := by
  unfold armComplete
  try dsimp only
  repeat' first
    | with_reducible assumption
    | with_reducible apply cutDlineCal_rings
    | with_reducible apply cutSelfTest_rings
    | with_reducible apply modBank_rings
    | with_reducible apply raiseArm_rings
    | with_reducible apply redriveBank_rings
    | split
    | dsimp only

theorem hostDisarm_rings {s₀ : State} {t : Nat} {b : Fin 8} {s : State} (h₀ : Rings s₀ s) : Rings s₀ (hostDisarm t b s) := by
  unfold hostDisarm
  try dsimp only
  repeat' first
    | with_reducible assumption
    | with_reducible apply cutShuntCal_rings
    | with_reducible apply disarm_rings
    | with_reducible apply modBank_rings
    | with_reducible apply raiseArm_rings
    | split
    | dsimp only

end Sys2Proof.Laws
end

