-- ==== Sys2Proof/Laws/Supervisor.lean ====
section
/-! SUPPORT. Sys2Proof/Laws/Supervisor.lean: what disarming a bank and the device-wide reaction do, once for every command that
takes them (R446, R447, R457, R458). -/
namespace Sys2Proof.Laws
set_option Elab.async false
set_option linter.unusedSimpArgs false
open Sys2Proof.Machine Sys2Proof.Safety

/-- A bank that is disarmed stays disarmed. -/
theorem Calm.off {s t : State} (h : Calm true s t) {b : Fin 8} (h' : (s.bank[b]).armed = false) : (t.bank[b]).armed = false := by
  cases e : (t.bank[b]).armed
  · rfl
  · exact ((Bool.eq_false_iff.mp h') (h.armed rfl b e)).elim

/-- After a disarm the bank is disarmed (R457). -/
theorem disarm_off (s : State) (t : Nat) (b : Fin 8) (cause : Nat) (stop : AxCause) :
    ((s.disarm t b cause stop).bank[b]).armed = false := by
  unfold State.disarm
  dsimp only
  split
  · refine Calm.off (redriveBank_calm (raiseArm_calm (Calm.refl true _))) ?_
    rw [modBank_get, if_pos rfl]
  · rename_i h; simpa using h

/-- Disarming bank after bank leaves each of them disarmed. -/
theorem each_off {f : State → Fin 8 → State} (hf : ∀ s b, Calm true s (f s b)) (hb : ∀ s b, ((f s b).bank[b]).armed = false)
    (l : List (Fin 8)) : ∀ s : State, ∀ b ∈ l, ((s.each l f).bank[b]).armed = false := by
  induction l with
  | nil => intro s b h; cases h
  | cons x xs ih =>
    intro s b h
    by_cases hx : b ∈ xs
    · exact ih (f s x) b hx
    · have hbx : b = x := by simpa [hx] using h
      subst hbx
      show (((f s b).each xs f).bank[b]).armed = false
      exact Calm.off (each_calm (fun u y h₁ => h₁.trans (hf u y)) (Calm.refl true _)) (hb s b)

theorem mem_allBanks (b : Fin 8) : b ∈ allBanks := List.mem_finRange b

/-- What the device-wide reaction changes after its cause is latched. -/
def dwParts : Parts := raising { reactionReach with pair := true }

/-- The device-wide reaction sets SAFE_STAT.dev and latches its cause; nothing after that touches either (R446, R447). -/
theorem deviceWide_latch (s : State) (t cause detail : Nat) :
    forget dwParts (s.deviceWide t cause detail) = forget dwParts (s.latchCause cause detail) := by
  have hev : MayRaise dwParts := mayRaise_raising _
  have r1 : dwParts.Has .GATE_BSTUVCNT := has_of_mem (by decide)
  have r2 : dwParts.Has .GATE_FLT := has_of_mem (by decide)
  have r3 : dwParts.Has .PROT_AXSTAT := has_of_mem (by decide)
  have hs : ∀ (u : State) (b : Fin 8), forget dwParts
      (((u.each (axesOf b) (fun s a => s.stopAxis a .safe)).bankCause t b (fun k => { k with dev := true })).disarm t b 3 .safe)
      = forget dwParts u := by
    intro u b
    rw [disarm_forget _ _ _ _ _ _ hev rfl rfl rfl rfl rfl r1 r2, bankCause_forget _ _ _ _ _ hev rfl rfl rfl rfl r1 r2 r3,
      each_forget _ _ _ (fun s a => stopAxis_forget _ _ _ _ hev rfl rfl)]
  unfold State.deviceWide
  dsimp only
  (repeat' split) <;>
    simp only [releaseOwner_forget _ _ _ _ hev rfl rfl rfl rfl r1 r2, modPair_forget _ _ _ (show dwParts.pair = true from rfl),
      failOp_forget _ _ _ hev rfl, each_forget _ _ _ hs, raiseSafeDev_forget _ _ _ _ hev]

theorem deviceWide_safe (s : State) (t cause detail : Nat) :
    (s.deviceWide t cause detail).safe = (s.latchCause cause detail).safe :=
  (only_of_forget (deviceWide_latch s t cause detail)).safe rfl

theorem deviceWide_rd (s : State) (t cause detail a : Nat) (ha : dwParts.covers a = false) :
    (s.deviceWide t cause detail).rd a = (s.latchCause cause detail).rd a :=
  (only_of_forget (deviceWide_latch s t cause detail)).regs a ha

theorem latchCause_dev (s : State) (cause detail : Nat) : (s.latchCause cause detail).safe.dev = true := by
  unfold State.latchCause; dsimp only; split <;> rfl

/-- The reaction stands after it has been taken (R446). -/
theorem deviceWide_dev (s : State) (t cause detail : Nat) : (s.deviceWide t cause detail).safe.dev = true := by
  rw [deviceWide_safe, latchCause_dev]

/-- The first cause is latched with its detail (R447). -/
theorem deviceWide_cause (s : State) (t cause detail : Nat) (h : s.safe.dev = false) :
    (s.deviceWide t cause detail).rd A.SAFE_CAUSE = w16 (detail % 256 * 256 + cause) ∧
      (s.deviceWide t cause detail).rd A.SAFE_DETAIL = w16 detail := by
  have hc : dwParts.covers A.SAFE_CAUSE = false := by decide +kernel
  have hd : dwParts.covers A.SAFE_DETAIL = false := by decide +kernel
  rw [deviceWide_rd _ _ _ _ _ hc, deviceWide_rd _ _ _ _ _ hd]
  have hne : A.SAFE_CAUSE ≠ A.SAFE_DETAIL := by decide
  unfold State.latchCause
  simp [h, hne]

/-- Every bank is disarmed (R446). -/
theorem deviceWide_off (s : State) (t cause detail : Nat) (b : Fin 8) :
    ((s.deviceWide t cause detail).bank[b]).armed = false := by
  have key : ∀ u : State, ((u.each allBanks (fun s b =>
      ((s.each (axesOf b) (fun s a => s.stopAxis a .safe)).bankCause t b (fun k => { k with dev := true })).disarm t b 3
        .safe)).bank[b]).armed = false := by
    intro u
    refine each_off ?_ (fun s b => disarm_off _ _ _ _ _) allBanks u b (mem_allBanks b)
    intro s c
    exact disarm_calm (bankCause_calm (fun _ h => h) (each_calm (fun u x h₁ => stopAxis_calm h₁) (Calm.refl true s)))
  unfold State.deviceWide
  dsimp only
  (repeat' split)
  · exact Calm.off (releaseOwner_calm (failOp_calm (failOp_calm (Calm.refl true _)))) (key _)
  · exact Calm.off (failOp_calm (failOp_calm (Calm.refl true _))) (key _)

/-- SAFE_DEV is raised (R447). -/
theorem deviceWide_rings_dev (s : State) (t cause detail : Nat) :
    eventBit (s.deviceWide t cause detail) evSAFE_DEV = true := by
  have h0 : ∀ u : State, eventBit (u.raiseSafeDev cause detail) evSAFE_DEV = true := fun u => raise_self _ _ _ _
  have hr : ∀ (u v : State), Rings u v → eventBit u evSAFE_DEV = true → eventBit v evSAFE_DEV = true :=
    fun u v h => h.event (by decide)
  have key : ∀ u : State, Rings u (u.each allBanks (fun s b =>
      ((s.each (axesOf b) (fun s a => s.stopAxis a .safe)).bankCause t b (fun k => { k with dev := true })).disarm t b 3
        .safe)) := fun u => each_rings (fun v c h₁ => disarm_rings (bankCause_rings (each_rings (fun w x h₂ => stopAxis_rings h₂) h₁)))
          (Rings.refl u)
  unfold State.deviceWide
  dsimp only
  (repeat' split)
  · exact hr _ _ (releaseOwner_rings (failOp_rings (failOp_rings (key _)))) (h0 _)
  · exact hr _ _ (failOp_rings (failOp_rings (key _))) (h0 _)

end Sys2Proof.Laws
end

