-- ==== Sys2Proof/Laws/Drive.lean ====
section
/-! SUPPORT. Sys2Proof/Laws/Drive.lean: what bringing a half-bridge to its command does (R172, R182 to R191): the command it
then follows, and what it leaves alone. -/
namespace Sys2Proof.Laws
set_option Elab.async false
set_option linter.unusedSimpArgs false
open Sys2Proof.Machine Sys2Proof.Safety

/-! ### Banks: only the blanking windows change -/

/-- The banks of `t` are those of `s` but for their blanking windows. -/
def SameBanks (s t : State) : Prop := ∀ b : Fin 8, t.bank[b] = { (s.bank[b]) with blank := (t.bank[b]).blank }

theorem SameBanks.refl (s : State) : SameBanks s s := fun _ => rfl

theorem SameBanks.trans {s t u : State} (h : SameBanks s t) (h' : SameBanks t u) : SameBanks s u := by
  intro b; rw [h' b, h b]

theorem sameBanks_of_eq {s t u : State} (h : u.bank = t.bank) (h₀ : SameBanks s t) : SameBanks s u := by
  intro b; rw [h]; exact h₀ b

theorem openBlank_same {s₀ s : State} {b : Fin 8} {t : Nat} (h₀ : SameBanks s₀ s) : SameBanks s₀ (s.openBlank b t) := by
  refine h₀.trans (fun c => ?_)
  unfold State.openBlank
  dsimp only
  rw [modBank_get]
  split
  · rename_i e; subst e; rfl
  · rfl

theorem turnOff_same {s₀ s : State} {t : Nat} {h : Fin 72} {d : Side} {f : Bool} (h₀ : SameBanks s₀ s) :
    SameBanks s₀ (s.turnOff t h d f) := by
  unfold State.turnOff
  split
  · exact openBlank_same (sameBanks_of_eq rfl h₀)
  · exact sameBanks_of_eq rfl h₀

theorem gateOff_same {s₀ s : State} {t : Nat} {h : Fin 72} {d : Side} {f : Bool} (h₀ : SameBanks s₀ s) :
    SameBanks s₀ (s.gateOff t h d f) := by
  unfold State.gateOff
  dsimp only
  split
  · exact sameBanks_of_eq rfl h₀
  · exact turnOff_same h₀

theorem deliver_same {s₀ s : State} {t : Nat} {h : Fin 72} {f : Bool} {c : HbCmd} (h₀ : SameBanks s₀ s) :
    SameBanks s₀ (s.deliver t h f c) := by
  have h1 : SameBanks s₀ (s.modHb h (fun x => { x with cmd := c })) := sameBanks_of_eq rfl h₀
  unfold State.deliver
  dsimp only
  split
  · exact sameBanks_of_eq rfl (gateOff_same h1)
  · exact sameBanks_of_eq rfl (gateOff_same h1)
  · exact gateOff_same (gateOff_same h1)

theorem markAbove_bank (s : State) (h : Fin 72) : (s.markAbove h).bank = s.bank := by
  unfold State.markAbove; split <;> rfl

theorem markAbove_hb (s : State) (h : Fin 72) : (s.markAbove h).hb = s.hb := by
  unfold State.markAbove; split <;> rfl

theorem bstBlock_bank (s : State) (h : Fin 72) : (s.bstBlock h).bank = s.bank := by
  unfold State.bstBlock; dsimp only; split
  · rfl
  · rw [raise_bank]; rfl

theorem each_same {α : Type} {s₀ s : State} {l : List α} {f : State → α → State}
    (hf : ∀ u x, SameBanks s₀ u → SameBanks s₀ (f u x)) (h₀ : SameBanks s₀ s) : SameBanks s₀ (s.each l f) := by
  induction l generalizing s with
  | nil => exact h₀
  | cons x xs ih => exact ih (hf s x h₀)

theorem urge_same {s₀ s : State} {t : Nat} {h : Fin 72} (h₀ : SameBanks s₀ s) : SameBanks s₀ (s.urge t h) := by
  unfold State.urge
  refine each_same (fun u x h₁ => ?_) h₀
  dsimp only
  split
  · exact turnOff_same h₁
  · exact h₁

theorem redrive_same {s₀ s : State} {t : Nat} {h : Fin 72} (h₀ : SameBanks s₀ s) : SameBanks s₀ (s.redrive t h) := by
  unfold State.redrive
  dsimp only
  have h1 : SameBanks s₀ (if (s.bank[hbBank h]).flt = .driven then
      if s.wanted h = .high then if s.hb[h].bst || s.hb[h].bstCut then s else s.bstBlock h
      else s.modHb h (fun x => { x with bstCut := false }) else s) := by
    split
    · split
      · split
        · exact h₀
        · exact sameBanks_of_eq (bstBlock_bank _ _) h₀
      · exact sameBanks_of_eq rfl h₀
    · exact h₀
  generalize (if (s.bank[hbBank h]).flt = .driven then
      if s.wanted h = .high then if s.hb[h].bst || s.hb[h].bstCut then s else s.bstBlock h
      else s.modHb h (fun x => { x with bstCut := false }) else s) = u at h1 ⊢
  generalize u.select h = rc
  have h2 : SameBanks s₀ (if rc.1 ≤ 5 then u.markAbove h else u) := by
    split
    · exact sameBanks_of_eq (markAbove_bank _ _) h1
    · exact h1
  generalize (if rc.1 ≤ 5 then u.markAbove h else u) = v at h2 ⊢
  split
  · split
    · exact urge_same h2
    · exact h2
  · exact deliver_same h2

theorem release_same {s₀ s : State} {h : Fin 72} {o : Option HbCmd} (h₀ : SameBanks s₀ s) : SameBanks s₀ (s.release h o) := by
  unfold State.release
  split
  · exact sameBanks_of_eq rfl h₀
  · exact h₀

theorem reRow2_same {s : State} {t : Nat} {l : List (Fin 72)} {f : State → State} : SameBanks (f s) (s.reRow2 t l f) := by
  unfold State.reRow2
  dsimp only
  exact each_same (fun u x h₁ => redrive_same h₁) (each_same (fun u x h₁ => release_same h₁) (SameBanks.refl _))

theorem loseAsc_bank (s : State) (a : Fin 24) : (s.loseAsc a).bank = s.bank := by
  unfold State.loseAsc; dsimp only; rw [raise_bank]; rfl

theorem countCut_bank (s : State) (h : Fin 72) : (s.countCut h).bank = s.bank := by
  unfold State.countCut; split
  · exact bstBlock_bank _ _
  · rfl

theorem each_bank {α : Type} (l : List α) (f : State → α → State) (hf : ∀ u x, (f u x).bank = u.bank) :
    ∀ s : State, (s.each l f).bank = s.bank := by
  induction l with
  | nil => exact fun _ => rfl
  | cons x xs ih => exact fun s => (ih (f s x)).trans (hf s x)

theorem ascSupply_bank (s : State) (a : Fin 24) : (s.ascSupply a).bank = s.bank := by
  unfold State.ascSupply; split
  · rw [loseAsc_bank, each_bank _ _ countCut_bank]
  · rfl

theorem sideFor_bank (s : State) (a : Fin 24) (w : Bool) : (s.sideFor a w).bank = s.bank := by
  unfold State.sideFor; split
  · split
    · rfl
    · rw [ascSupply_bank]; rfl
  · rfl

/-- A cause of row 2 is set or cleared on its bank; every bank keeps everything else but its blanking windows. -/
theorem bankCause_same (s : State) (t : Nat) (b : Fin 8) (f : Bank → Bank) :
    SameBanks (s.modBank b f) (s.bankCause t b f) := by
  unfold State.bankCause
  dsimp only
  refine SameBanks.trans ?_ reRow2_same
  exact each_same (fun u x h₁ => sameBanks_of_eq (sideFor_bank _ _ _) h₁) (SameBanks.refl _)

/-! ### Half-bridges -/

theorem openBlank_hb (s : State) (b : Fin 8) (t : Nat) : (s.openBlank b t).hb = s.hb := rfl

theorem bstBlock_hb (s : State) (h : Fin 72) :
    (s.bstBlock h).hb = (s.modHb h (fun x => { x with bstCut := true })).hb := by
  unfold State.bstBlock; dsimp only; split
  · rfl
  · rw [raise_hb]; rfl

theorem modGate_other (s : State) (h h' : Fin 72) (d : Side) (f : Gate → Gate) (n : h ≠ h') :
    (s.modGate h d f).hb[h'] = s.hb[h'] := by
  unfold State.modGate; rw [modHb_get, if_neg n]

theorem turnOff_other (s : State) (t : Nat) (h h' : Fin 72) (d : Side) (f : Bool) (n : h ≠ h') :
    (s.turnOff t h d f).hb[h'] = s.hb[h'] := by
  unfold State.turnOff
  split
  · simp only [openBlank_hb]
    exact modGate_other _ _ _ _ _ n
  · exact modGate_other _ _ _ _ _ n

theorem gateOff_other (s : State) (t : Nat) (h h' : Fin 72) (d : Side) (f : Bool) (n : h ≠ h') :
    (s.gateOff t h d f).hb[h'] = s.hb[h'] := by
  unfold State.gateOff
  dsimp only
  split
  · exact modGate_other _ _ _ _ _ n
  · exact turnOff_other _ _ _ _ _ _ n

/-- A command at the driver of a half-bridge leaves the others alone. -/
theorem deliver_other (s : State) (t : Nat) (h h' : Fin 72) (f : Bool) (c : HbCmd) (n : h ≠ h') :
    (s.deliver t h f c).hb[h'] = s.hb[h'] := by
  unfold State.deliver
  dsimp only
  split
  · rw [show ∀ u : State, (u.gateOn h .high).hb[h'] = u.hb[h'] from fun u => modGate_other _ _ _ _ _ n,
      gateOff_other _ _ _ _ _ _ n, modHb_get, if_neg n]
  · rw [show ∀ u : State, (u.gateOn h .low).hb[h'] = u.hb[h'] from fun u => modGate_other _ _ _ _ _ n,
      gateOff_other _ _ _ _ _ _ n, modHb_get, if_neg n]
  · rw [gateOff_other _ _ _ _ _ _ n, gateOff_other _ _ _ _ _ _ n, modHb_get, if_neg n]

/-- What a half-bridge holds beside its gates. -/
def HalfB.rest (x : HalfB) : HalfB := { x with hs := Gate.reset, ls := Gate.reset }

theorem modGate_rest (s : State) (h : Fin 72) (d : Side) (f : Gate → Gate) :
    HalfB.rest (s.modGate h d f).hb[h] = HalfB.rest s.hb[h] := by
  unfold State.modGate
  rw [modHb_get, if_pos rfl]
  cases d <;> rfl

theorem turnOff_rest (s : State) (t : Nat) (h : Fin 72) (d : Side) (f : Bool) :
    HalfB.rest (s.turnOff t h d f).hb[h] = HalfB.rest s.hb[h] := by
  unfold State.turnOff
  split
  · simp only [openBlank_hb]
    exact modGate_rest _ _ _ _
  · exact modGate_rest _ _ _ _

theorem gateOff_rest (s : State) (t : Nat) (h : Fin 72) (d : Side) (f : Bool) :
    HalfB.rest (s.gateOff t h d f).hb[h] = HalfB.rest s.hb[h] := by
  unfold State.gateOff
  dsimp only
  split
  · exact modGate_rest _ _ _ _
  · exact turnOff_rest _ _ _ _ _

theorem deliver_rest (s : State) (t : Nat) (h : Fin 72) (f : Bool) (c : HbCmd) :
    HalfB.rest (s.deliver t h f c).hb[h] = { (HalfB.rest s.hb[h]) with cmd := c } := by
  have h0 : HalfB.rest ((s.modHb h (fun x => { x with cmd := c })).hb[h]) = { (HalfB.rest s.hb[h]) with cmd := c } := by
    rw [modHb_get, if_pos rfl]; rfl
  unfold State.deliver
  dsimp only
  split
  · rw [show ∀ u : State, HalfB.rest (u.gateOn h .high).hb[h] = HalfB.rest u.hb[h] from fun u => modGate_rest _ _ _ _,
      gateOff_rest, h0]
  · rw [show ∀ u : State, HalfB.rest (u.gateOn h .low).hb[h] = HalfB.rest u.hb[h] from fun u => modGate_rest _ _ _ _,
      gateOff_rest, h0]
  · rw [gateOff_rest, gateOff_rest, h0]

theorem deliver_cmd (s : State) (t : Nat) (h : Fin 72) (f : Bool) (c : HbCmd) : (s.deliver t h f c).hb[h].cmd = c := by
  have := congrArg HalfB.cmd (deliver_rest s t h f c)
  exact this

theorem each_hb_get {α : Type} {h : Fin 72} {β : Type} (g : HalfB → β) (l : List α) (f : State → α → State)
    (hf : ∀ u x, g (f u x).hb[h] = g u.hb[h]) : ∀ s : State, g (s.each l f).hb[h] = g s.hb[h] := by
  induction l with
  | nil => exact fun _ => rfl
  | cons x xs ih => exact fun s => (ih (f s x)).trans (hf s x)

/-- Ending the minimum times of a half-bridge's pending turn-offs leaves the others alone. -/
theorem urge_other (s : State) (t : Nat) (h h' : Fin 72) (n : h ≠ h') : (s.urge t h).hb[h'] = s.hb[h'] := by
  unfold State.urge
  refine each_hb_get id _ _ (fun u x => ?_) s
  dsimp only [id]
  split
  · exact turnOff_other _ _ _ _ _ _ n
  · rfl

theorem urge_rest (s : State) (t : Nat) (h : Fin 72) : HalfB.rest (s.urge t h).hb[h] = HalfB.rest s.hb[h] := by
  unfold State.urge
  refine each_hb_get HalfB.rest _ _ (fun u x => ?_) s
  dsimp only
  split
  · exact turnOff_rest _ _ _ _ _
  · rfl

theorem urge_cmd (s : State) (t : Nat) (h : Fin 72) : (s.urge t h).hb[h].cmd = s.hb[h].cmd := by
  have e := congrArg HalfB.cmd (urge_rest s t h)
  exact e

/-- Bringing a half-bridge to its command leaves the others alone. -/
theorem redrive_other (s : State) (t : Nat) (h h' : Fin 72) (n : h ≠ h') : (s.redrive t h).hb[h'] = s.hb[h'] := by
  unfold State.redrive
  dsimp only
  have h1 : (if (s.bank[hbBank h]).flt = .driven then
      if s.wanted h = .high then if s.hb[h].bst || s.hb[h].bstCut then s else s.bstBlock h
      else s.modHb h (fun x => { x with bstCut := false }) else s).hb[h'] = s.hb[h'] := by
    split
    · split
      · split
        · rfl
        · simp only [bstBlock_hb]
          rw [modHb_get, if_neg n]
      · rw [modHb_get, if_neg n]
    · rfl
  generalize (if (s.bank[hbBank h]).flt = .driven then
      if s.wanted h = .high then if s.hb[h].bst || s.hb[h].bstCut then s else s.bstBlock h
      else s.modHb h (fun x => { x with bstCut := false }) else s) = u at h1 ⊢
  generalize u.select h = rc
  have h2 : (if rc.1 ≤ 5 then u.markAbove h else u).hb[h'] = s.hb[h'] := by
    split
    · simp only [markAbove_hb]; exact h1
    · exact h1
  generalize (if rc.1 ≤ 5 then u.markAbove h else u) = v at h2 ⊢
  split
  · split
    · rw [urge_other _ _ _ _ n]; exact h2
    · exact h2
  · rw [deliver_other _ _ _ _ _ _ n]; exact h2

/-- A half-bridge of a bank in pin float, on its way in or out of it, or held by a cause that gives phase Hi-Z takes the
command of that row. -/
theorem redrive_cmd (s : State) (t : Nat) (h : Fin 72) (c : HbCmd) (n : Nat)
    (hs : ∀ u : State, SameBanks s u → u.ax = s.ax → u.img = s.img → u.hb[h].loc = s.hb[h].loc → u.select h = (n, c)) :
    (s.redrive t h).hb[h].cmd = c := by
  unfold State.redrive
  dsimp only
  have h1 : ∀ v : State, v = (if (s.bank[hbBank h]).flt = .driven then
      if s.wanted h = .high then if s.hb[h].bst || s.hb[h].bstCut then s else s.bstBlock h
      else s.modHb h (fun x => { x with bstCut := false }) else s) →
      SameBanks s v ∧ v.ax = s.ax ∧ v.img = s.img ∧ v.hb[h].loc = s.hb[h].loc := by
    intro v e
    subst e
    split
    · split
      · split
        · exact ⟨SameBanks.refl _, rfl, rfl, rfl⟩
        · refine ⟨sameBanks_of_eq (bstBlock_bank _ _) (SameBanks.refl _), ?_⟩
          refine ⟨?_, ?_, ?_⟩
          · unfold State.bstBlock; dsimp only; split
            · rfl
            · rw [raise_ax]; rfl
          · unfold State.bstBlock; dsimp only; split
            · rfl
            · rw [raise_img]; rfl
          · simp only [bstBlock_hb]
            rw [modHb_get, if_pos rfl]
      · refine ⟨sameBanks_of_eq rfl (SameBanks.refl _), rfl, rfl, ?_⟩
        rw [modHb_get, if_pos rfl]
    · exact ⟨SameBanks.refl _, rfl, rfl, rfl⟩
  generalize (if (s.bank[hbBank h]).flt = .driven then
      if s.wanted h = .high then if s.hb[h].bst || s.hb[h].bstCut then s else s.bstBlock h
      else s.modHb h (fun x => { x with bstCut := false }) else s) = u at h1 ⊢
  obtain ⟨a1, a2, a3, a4⟩ := h1 u rfl
  rw [hs u a1 a2 a3 a4]
  dsimp only
  generalize (if n ≤ 5 then u.markAbove h else u) = v
  split
  · rename_i e
    split
    · rw [urge_cmd]; exact e
    · exact e
  · exact deliver_cmd _ _ _ _ _

theorem redrive_ax (s : State) (t : Nat) (h : Fin 72) : (s.redrive t h).ax = s.ax :=
  (only_of_forget (redrive_forget (raising stageReach) s t h (mayRaise_raising _) rfl rfl rfl (has_of_mem (by decide))
    (has_of_mem (by decide)))).ax rfl

theorem redrive_img (s : State) (t : Nat) (h : Fin 72) : (s.redrive t h).img = s.img :=
  (only_of_forget (redrive_forget (raising stageReach) s t h (mayRaise_raising _) rfl rfl rfl (has_of_mem (by decide))
    (has_of_mem (by decide)))).img rfl

/-- Half-bridges whose row is fixed by their banks, axes and image all take its command. -/
theorem each_redrive_cmd (t : Nat) (n : Nat) (c : HbCmd) (l : List (Fin 72)) : ∀ s : State,
    (∀ h ∈ l, ∀ u : State, SameBanks s u → u.ax = s.ax → u.img = s.img → u.select h = (n, c)) →
    ∀ h ∈ l, (s.each l (fun s h => s.redrive t h)).hb[h].cmd = c := by
  induction l with
  | nil => intro s _ h hm; cases hm
  | cons x xs ih =>
    intro s H h hm
    have step : ∀ h ∈ xs, ((s.redrive t x).each xs (fun s h => s.redrive t h)).hb[h].cmd = c :=
      ih (s.redrive t x) (fun y hy u a b d =>
        H y (List.mem_cons_of_mem _ hy) u ((redrive_same (SameBanks.refl s)).trans a) (b.trans (redrive_ax _ _ _))
          (d.trans (redrive_img _ _ _)))
    show ((s.redrive t x).each xs (fun s h => s.redrive t h)).hb[h].cmd = c
    by_cases hx : h ∈ xs
    · exact step h hx
    · have e : h = x := by simpa [hx] using hm
      subst e
      have keep : ∀ (ys : List (Fin 72)) (v : State), h ∉ ys → (v.each ys (fun s h => s.redrive t h)).hb[h] = v.hb[h] := by
        intro ys
        induction ys with
        | nil => intro v _; rfl
        | cons y yt iy =>
          intro v hv
          show ((v.redrive t y).each yt (fun s h => s.redrive t h)).hb[h] = v.hb[h]
          rw [iy _ (fun c => hv (List.mem_cons_of_mem _ c)),
            redrive_other _ _ _ _ (fun c => hv (by rw [c]; exact List.mem_cons_self))]
      rw [keep xs _ hx]
      exact redrive_cmd s t h c n (fun u a b d _ => H h List.mem_cons_self u a b d)

/-- A trip input or a driver-supply lock-out that stands gives every half-bridge of a driven bank phase Hi-Z (R233). -/
theorem select_hiz {s : State} {b : Fin 8} (hf : (s.bank[b]).flt = .driven)
    (hc : (s.bank[b]).trip = true ∨ (s.bank[b]).vdrvLock = true) {h : Fin 72} (hb : hbBank h = b) : s.select h = (2, .hiz) := by
  subst hb
  have hd : ((s.bank[hbBank h]).trip || (s.bank[hbBank h]).vdrvLock || s.hb[h].loc) = true := by
    cases hc with
    | inl e => rw [e]; rfl
    | inr e => rw [e, Bool.or_true]; rfl
  have hr : ∃ l, s.row2 h = l ∧ (∃ c r, l = c :: r) ∧ l.contains .hiz = true := by
    unfold State.row2
    dsimp only
    rw [if_pos hd]
    split
    · split
      · exact ⟨_, rfl, ⟨_, _, rfl⟩, by decide⟩
      · exact ⟨_, rfl, ⟨_, _, rfl⟩, by decide⟩
    · exact ⟨_, rfl, ⟨_, _, rfl⟩, rfl⟩
  have hc2 : s.row2Cmd h = some .hiz := by
    obtain ⟨l, e, ⟨c, r, e'⟩, hl⟩ := hr
    unfold State.row2Cmd
    rw [e, e']
    rw [e'] at hl
    dsimp only
    rw [if_pos hl]
  unfold State.select
  rw [hf]
  dsimp only
  rw [hc2]
  rfl

theorem mem_hbsOf {b : Fin 8} {h : Fin 72} (m : h ∈ hbsOf b) : hbBank h = b := by
  unfold hbsOf at m
  obtain ⟨i, _, e⟩ := List.mem_map.mp m
  subst e
  unfold hbBank hbOf
  apply Fin.ext
  show (9 * b.val + i.val) / 9 = b.val
  omega

theorem hbOf_mem (b : Fin 8) (i : Fin 9) : hbOf b i ∈ hbsOf b := List.mem_map.mpr ⟨i, List.mem_finRange i, rfl⟩

/-- Setting the trip input's cause or the driver-supply lock-out of a driven bank puts its nine half-bridges into phase
Hi-Z (R200, R226, R233). -/
theorem bankCause_hiz (s : State) (t : Nat) (b : Fin 8) (f : Bank → Bank) (hf : (f s.bank[b]).flt = .driven)
    (hc : (f s.bank[b]).trip = true ∨ (f s.bank[b]).vdrvLock = true) {h : Fin 72} (hb : h ∈ hbsOf b) :
    (s.bankCause t b f).hb[h].cmd = .hiz := by
  unfold State.bankCause State.reRow2
  dsimp only
  refine each_redrive_cmd t 2 .hiz (hbsOf b) _ ?_ h hb
  intro y hy u hu _ _
  have base : SameBanks (s.modBank b f) u := by
    refine SameBanks.trans ?_ hu
    refine each_same (fun u x h₁ => release_same h₁) ?_
    exact each_same (fun u x h₁ => sameBanks_of_eq (sideFor_bank _ _ _) h₁) (SameBanks.refl _)
  have e := base b
  rw [modBank_get, if_pos rfl] at e
  refine select_hiz (b := b) (by rw [e]; exact hf) ?_ (mem_hbsOf hy)
  rw [e]; exact hc

end Sys2Proof.Laws
end

