-- ==== Sys2Proof/WellFormed.lean ====
section
/-! DEFINITION. Sys2Proof/WellFormed.lean: the commands that the spec lets a sender form. A command that is not well-formed
names no write, frame or event of the spec; `exec` gives it the outcome its operands spell all the same. -/
namespace Sys2Proof

/-- The op field of a header word (Table HOST-1). -/
def headerOp (hdr : Word) : Nat := hdr.toNat / 8192

/-- The operation codes of Table HOST-7. -/
def namedOps : List Nat := [0x01, 0x11, 0x12, 0x13, 0x21, 0x31]

/-- The DLC codes of ISO 11898-1: the number of data bytes. -/
def dlcLength (fdf : Bool) (dlc : Fin 16) : Nat :=
  if dlc.val ≤ 8 then dlc.val
  else if fdf then ([12, 16, 20, 24, 32, 48, 64] : List Nat)[dlc.val - 9]?.getD 64 else 8

/-- The parts of a mirror frame have the lengths of Table PAIR-4. -/
def Mirror.sized (f : Mirror) : Bool :=
  f.fus.length == 10 && f.whl.length == 4 && f.check.length == 16 && f.banks.length == 8 && f.timers.length == 24 &&
    f.axes.length == 24 && decide (f.recs.length ≤ 32)

/-- The word sets no bit at or above `n`. -/
def below (d : Word) (n : Nat) : Bool := decide (d.toNat < 2 ^ n)

/-- SAFE_WDCFG as R455 allows it: tmin below tmax, tmax 1 to 100, bit 7 reserved. -/
def wdcfgOk (d : Word) : Bool :=
  let tmin := d.toNat / 256 % 128
  let tmax := d.toNat % 128
  decide (tmin < tmax) && decide (tmax ≤ 100) && !d.getLsbD 7

/-- A command that the spec lets a sender form. -/
def Instr.wf : Instr → Bool
  | .nop hdr => headerOp hdr == 0
  | .read hdr _ words => headerOp hdr == 1 && decide (1 ≤ words)
  | .readFixed hdr _ words => headerOp hdr == 3 && decide (1 ≤ words)
  | .write _ hdr _ _ => headerOp hdr == 2
  | .writeFixed _ hdr _ _ => headerOp hdr == 4
  | .opUnknownCode op => !namedOps.contains op.toNat
  | .opEnd _ _ vals => decide (vals.length ≤ 8)
  | .opRelease d => below d 8
  | .opAbort d => below d 8
  | .canRx _ ide fdf brs id dlc data _ =>
    (ide || decide (id.toNat < 2048)) && (fdf || !brs) && data.length == dlcLength fdf dlc
  | .loadAll _ hi d => !hi || below d 8
  | .dlcCalCycle _ _ _ _ taps => taps.length == 64
  | .supplyRise which i => which.val == 2 || decide (i.val < 8)
  | .gsupFltClear _ d => below d 2
  | .protChfltClear _ _ d => d &&& 0x80C0 == 0
  | .protBfltClear _ d => below d 6
  | .saliencyDone _ peaks => peaks.length == 6
  | .hostInject d => d == 1 || d == 2
  | .scheduleInsert d => d.toNat % 16384 == 0 && d != 0
  | .storeWrite len => decide (1 ≤ len.toNat) && decide (len.toNat ≤ 128)
  | .watchdogEnable d => wdcfgOk d
  | .safePlfltClear hi d => !hi || below d 8
  | .helloReceived _ _ _ _ tags _ _ => tags.length == 8
  | .mirrorReceived _ _ _ f => f.sized
  | _ => true

end Sys2Proof
end

