-- ==== Sys2Proof/Tests/Slice0.lean ====
section
/-! SUPPORT. Sys2Proof/Tests/Slice0.lean: a smoke test of WellFormed, with an ill-formed command for each of its checks, and for
each statement concrete states and operands that meet its hypotheses, one for every clause, at the boundaries of their ranges. -/
namespace Sys2Proof.Tests
set_option Elab.async false
open Sys2Proof Sys2Proof.Machine Sys2Proof.Safety

/-! ### Well-formed commands -/

/-- A MIRROR frame of the right lengths. -/
def aBank : MirrorBank := { armed := false, on := true, run := [true, false, false], react := 0, flt := List.replicate 9 0 }
def aTimer : MirrorTimer := { cmp := [0, 0, 0], hr := [0, 0, 0], chen := 5, force := 0, src := false }
def anAxis : MirrorAxis :=
  { stat := 0, ref := 0, spdSet := 0, curSet := [0, 0, 0], rate := 0, gsCtl := 0, waitMs := 0, iS := 0, iC := [0, 0, 0],
    angle := 0, conf := 0 }
def aFrame : Mirror :=
  { seq := 7, t := 100, handover := false, pairId := true, imgId := 0, imgCrc := 0, fus := List.replicate 10 0, residue := 0,
    rev := false, whl := [0, 0, 0, 0], recHead0 := 9, recHead1 := 0, storeSeq := 3, jevn := 0, check := List.replicate 16 0,
    banks := List.replicate 8 aBank, timers := List.replicate 24 aTimer, axes := List.replicate 24 anAxis,
    schState := 0x00020001, recs := [⟨0, false, 0, 0, 0, 0, 0⟩] }

theorem test_wf_frames : (Instr.nop 0).wf = true ∧ (Instr.nop 0x2000).wf = false ∧ (Instr.read 0x2000 0 1).wf = true ∧
    (Instr.read 0x2000 0 0).wf = false ∧ (Instr.readFixed 0x6000 0 1).wf = true ∧ (Instr.readFixed 0x4000 0 1).wf = false ∧
    (Instr.write 0 0x4000 0 []).wf = true ∧ (Instr.write 0 0x8000 0 []).wf = false ∧
    (Instr.writeFixed 0 0x8000 0 []).wf = true ∧ (Instr.writeFixed 0 0x4000 0 []).wf = false := by decide

theorem test_wf_operations : (Instr.opUnknownCode 0x02).wf = true ∧ (Instr.opUnknownCode 0x31).wf = false ∧
    (Instr.opEnd 0 true (List.replicate 8 0)).wf = true ∧ (Instr.opEnd 0 true (List.replicate 9 0)).wf = false ∧
    (Instr.opRelease 0x00FF).wf = true ∧ (Instr.opRelease 0x0100).wf = false ∧ (Instr.opAbort 0x00FF).wf = true ∧
    (Instr.opAbort 0x0100).wf = false := by decide

theorem test_wf_can : (Instr.canRx 0 true true true 0x800 9 (List.replicate 12 0) 0).wf = true ∧
    (Instr.canRx 0 false false false 0x7FF 8 (List.replicate 8 0) 0).wf = true ∧
    (Instr.canRx 0 false false false 0x800 8 (List.replicate 8 0) 0).wf = false ∧
    (Instr.canRx 0 false false true 0 8 (List.replicate 8 0) 0).wf = false ∧
    (Instr.canRx 0 false false false 0 9 (List.replicate 9 0) 0).wf = false := by decide

theorem test_wf_registers : (Instr.loadAll 0 true 0x00FF).wf = true ∧ (Instr.loadAll 0 true 0x0100).wf = false ∧
    (Instr.supplyRise 1 7).wf = true ∧ (Instr.supplyRise 1 8).wf = false ∧ (Instr.supplyRise 2 71).wf = true ∧
    (Instr.gsupFltClear 0 3).wf = true ∧ (Instr.gsupFltClear 0 4).wf = false ∧ (Instr.protChfltClear 0 0 0x7F3F).wf = true ∧
    (Instr.protChfltClear 0 0 0x0040).wf = false ∧ (Instr.protBfltClear 0 0x3F).wf = true ∧
    (Instr.protBfltClear 0 0x40).wf = false ∧ (Instr.safePlfltClear true 0x00FF).wf = true ∧
    (Instr.safePlfltClear true 0x0100).wf = false := by decide

theorem test_wf_commands : (Instr.hostInject 2).wf = true ∧ (Instr.hostInject 3).wf = false ∧
    (Instr.scheduleInsert 0x4000).wf = true ∧ (Instr.scheduleInsert 0).wf = false ∧ (Instr.scheduleInsert 0x4001).wf = false ∧
    (Instr.storeWrite 1).wf = true ∧ (Instr.storeWrite 128).wf = true ∧ (Instr.storeWrite 0).wf = false ∧
    (Instr.storeWrite 129).wf = false ∧ (Instr.watchdogEnable 0x8064).wf = true ∧ (Instr.watchdogEnable 0x8065).wf = false ∧
    (Instr.watchdogEnable 0x8A0A).wf = false ∧ (Instr.watchdogEnable 0x80E4).wf = false := by decide

theorem test_wf_lengths : (Instr.dlcCalCycle 0 true 0 0 (List.replicate 64 0)).wf = true ∧
    (Instr.dlcCalCycle 0 true 0 0 []).wf = false ∧ (Instr.saliencyDone 0 (List.replicate 6 0)).wf = true ∧
    (Instr.saliencyDone 0 []).wf = false ∧ (Instr.helloReceived true 0 0 0 (List.replicate 8 0) true false).wf = true ∧
    (Instr.helloReceived true 0 0 0 [] true false).wf = false ∧ (Instr.mirrorReceived 0 true 0 aFrame).wf = true ∧
    (Instr.mirrorReceived 0 true 0 { aFrame with fus := [] }).wf = false ∧
    (Instr.mirrorReceived 0 true 0 { aFrame with whl := [] }).wf = false ∧
    (Instr.mirrorReceived 0 true 0 { aFrame with check := [] }).wf = false ∧
    (Instr.mirrorReceived 0 true 0 { aFrame with banks := [] }).wf = false ∧
    (Instr.mirrorReceived 0 true 0 { aFrame with timers := [] }).wf = false ∧
    (Instr.mirrorReceived 0 true 0 { aFrame with axes := [] }).wf = false ∧
    (Instr.mirrorReceived 0 true 0 { aFrame with recs := List.replicate 33 ⟨0, false, 0, 0, 0, 0, 0⟩ }).wf = false := by decide

/-! ### States for the witnesses -/

/-- An image with bank 0 as a charge-pump bank: a THREE_PHASE slot on HB00 to HB02 with its loop tick and its converter routed, and
a SINGLE slot on HB03; seed input 0 feeds row 0. -/
def aSlot : SlotCfg := ⟨1, 3, 1, 0, 0⟩
def bank0 : BankCfg :=
  { BankCfg.none with
    slotmap := 0x0179, hbmap := [0x1840, 0x3333, 0x0003], supply := 1, slots := [aSlot, ⟨3, 1, 0, 0, 0⟩]
    conv := [[0, 1, 2], [3], [4]], drive := List.replicate 9 ⟨15, 0, 15, 0, 2⟩ }
def anImage : ImageCfg :=
  { id := 5, ver := 1, len := 84, crc := 0, seeding := true, banks := bank0 :: List.replicate 7 BankCfg.none
    routes := [⟨1, 0, 1, 0⟩, ⟨2, 0, 1, 1⟩, ⟨3, 2, 1, 1⟩], limits := [], opens := [], presets := []
    fus := [1, 1, 0, 0, 3, 1, 3, 0, 1], imu := some ⟨0, 1, 1, [⟨0, 2, 1, 256, 0⟩]⟩, rows := [(0, 0)], pinAlt := []
    recP := 16, ddpEn := false, ddpBank := 0 }

/-- Every domain on, an active image, an owner, and bank 0 driven; time stands at 10 s. -/
def base : State :=
  { State.reset with
    clk := { Clk.reset with ticks := 10000000 }
    img := { Img.reset with active := some anImage }
    pwr := { Pwr.reset with on := 0xFFF }
    pair := { Pair.reset with owner := true }
    bank := State.reset.bank.set 0 { Bank.reset with flt := .driven } }


/-! ### Witnesses: the queue and the time base -/

def due (pend : Bool) : State := base.modClk (fun c => { c with k := 1000000, applyPend := pend })
def locked (k : Nat) : State :=
  (base.wr A.TIME_CTL 100).modClk (fun c => { c with pps := .locked, k := k, lastEdge := 9000000 })

theorem witness_StepRunsTheFrontCommand : base.pending = [] := rfl

theorem witness_TickAndSecondBoundary : base.pwr.st ≠ .down ∧ base.boundaryDue = false ∧ (due false).boundaryDue = true ∧
    (due false).clk.bndNow = false ∧ (due false).clk.applyPend = false ∧ (due true).boundaryDue = true ∧
    (due true).clk.bndNow = false ∧ (due true).clk.applyPend = true := by decide +kernel

theorem witness_PpsAndTimeCommands :
    (locked 100).hears = true ∧ (locked 100).lands.pps = (locked 100).ppsFalls ∧ (locked 100).clk.pps = .locked ∧ (locked 100).ppsEn = true ∧
    (locked 100).clk.lowdrive = false ∧
    (phaseErr (locked 100).clk.k (locked 100).clk.n).natAbs = field ((locked 100).rd A.TIME_CTL) 7 0 ∧
    (locked 101).hears = true ∧ (locked 101).lands.pps = (locked 101).ppsFalls ∧
    ((locked 101).modLands (fun l => { l with pps := true })).lands.pps ≠ (locked 101).ppsFalls ∧
    (locked 101).clk.pps = .locked ∧ (locked 101).ppsEn = true ∧ (locked 101).clk.lowdrive = false ∧
    field ((locked 101).rd A.TIME_CTL) 7 0 < (phaseErr (locked 101).clk.k (locked 101).clk.n).natAbs ∧
    1500000 = ((locked 0).modClk (fun c => { c with lastEdge := 8500000 })).clk.ticks - 8500000 ∧
    base.up = true ∧ base.hears = true ∧
    (let s := base.modClk (fun c => { c with tickRc := true, lastBad := 9999000 });
      s.clk.tickRc = true ∧ s.clk.refOk = true ∧ 1000 = s.clk.ticks - s.clk.lastBad) := by decide +kernel

theorem witness_ClockMonitor : base.up = true ∧ 420 ≤ (420 : Word).toNat ∧ (2700 : Word).toNat ≤ 2700 ∧
    (541 : Word).toNat > 540 ∧ bit (base.rd A.CLK_FAULT) 0 = false ∧ bit (base.rd A.CLK_FAULT) 2 = false ∧
    base.safe.dev = false := by decide +kernel

/-! ### Witnesses: gate drivers -/

/-- A turn-on of GL of HB00 that waits 0 or more PWM clocks for its dead time. -/
def waiting (off : Nat) : State :=
  base.modHb 0 (fun x => { x with ls := { x.ls with wait := true }, hs := { x.hs with offAt := off } })
def opposed : State := base.modHb 0 (fun x => { x with ls := { x.ls with wait := true }, hs := { x.hs with on := true } })
/-- GH of HB00 turned on 4 PWM clocks ago with a turn-off that waits. -/
def minOn : State := base.modHb 0 (fun x => { x with hs := { x.hs with on := true, onAt := 2000000000 - 4, offPend := true } })

theorem witness_GateHandshake :
    (((waiting 0).hb[0]).gate (sideOf false)).wait = true ∧
    (((waiting 0).hb[0]).gate (sideOf false).other).on = false ∧
    (((waiting 0).hb[0]).gate (sideOf false).other).sensed = false ∧
    (((waiting 0).hb[0]).gate (sideOf false).other).offAt + field ((waiting 0).hbReg A.GATE_DT 0) 7 0 ≤ (waiting 0).clkAt 0 ∧
    ((opposed.hb[0]).gate (sideOf false).other).on = true ∧
    (waiting 2000000100).clkAt 0 <
      (((waiting 2000000100).hb[0]).gate (sideOf false).other).offAt + field ((waiting 2000000100).hbReg A.GATE_DT 0) 7 0 ∧
    ((minOn.hb[0]).gate (sideOf true)).on = true ∧ ((minOn.hb[0]).gate (sideOf true)).offPend = true ∧
    ((minOn.hb[0]).gate (sideOf true)).onAt + 4 = minOn.clkAt 0 ∧
    ((base.hb[0]).gate (sideOf true)).on = false ∧ base.senseOn (hbBank 0) = true ∧
    (base.modPwr (fun p => { p with on := 0 })).senseOn (hbBank 0) = false := by decide +kernel

theorem witness_DriverCommands :
    (base.bank[hbBank 9]).flt = .floating ∧
    ((base.modBank 0 (fun k => { k with flt := .entering })).bank[hbBank 0]).flt = .entering ∧
    (let s := base.modBank 0 (fun k => { k with trip := true }); (s.bank[hbBank 0]).flt = .driven ∧ (s.bank[hbBank 0]).trip = true) ∧
    base.hears = true ∧ 10 < 11 ∧ 4 < 5 := by decide +kernel

/-- Bank 0 on its way into, and out of, pin float since a PWM clock. -/
def entering (t : Nat) (sensed : Bool) : State :=
  (base.modBank 0 (fun k => { k with flt := .entering, fltAt := t })).modHb 0 (fun x => { x with hs := { x.hs with sensed := sensed } })
def leaving (t : Nat) : State := base.modBank 0 (fun k => { k with flt := .leaving, fltAt := t })

theorem witness_PinFloat :
    (let s := base.modPair (fun p => { p with owner := false }); s.floatCond 0 = true ∧ (s.bank[0]).flt = .driven) ∧
    ((entering 0 false).bank[0]).flt = .entering ∧ (entering 2000000000 false).gatesLow 0 = true ∧
    (entering (2000000000 - 160) true).gatesLow 0 = false ∧
    ((entering (2000000000 - 160) true).bank[0]).fltAt + 160 = (entering 0 true).clkAt 0 ∧
    (entering (2000000000 - 159) true).clkAt 0 < ((entering (2000000000 - 159) true).bank[0]).fltAt + 160 ∧
    ((leaving (2000000000 - 20)).bank[0]).flt = .leaving ∧
    ((leaving (2000000000 - 20)).bank[0]).fltAt + 20 = (leaving 0).clkAt 0 ∧
    (leaving 0).clkAt 0 < ((leaving (2000000000 - 19)).bank[0]).fltAt + 20 := by decide +kernel

/-- A gate that has not fallen, and one that rises on its own. -/
def stuck : State := base.modHb 0 (fun x => { x with hs := { x.hs with hsto := true, offAt := 0 } })

theorem witness_GateFaults :
    ((stuck.hb[0]).gate (sideOf true)).hsto = true ∧ ((stuck.hb[0]).gate (sideOf true)).on = false ∧
    ((stuck.hb[0]).gate (sideOf true)).offAt + stuck.thsto (hbBank 0) ≤ stuck.clkAt 0 ∧
    base.senseOn (hbBank 0) = true ∧ base.pair.owner = true ∧ ((base.hb[0]).gate (sideOf true)).fell = true ∧
    ((base.hb[0]).gate (sideOf true)).on = false ∧ (base.bank[hbBank 0]).flt = .driven ∧
    State.reset.pair.owner = false := by decide +kernel

/-- The gate supplies of bank 0 as the monitors see them. -/
def supplies (ok seen : Bool) : State :=
  base.modBank 0 (fun k => { k with vdrvOk := ok, vdrvSeen := seen, vcpOk := ok, vcpSeen := seen, vdrvLock := false, vcpLock := false })
def lockedOut (ok : Bool) : State :=
  (base.wr (A.GSUP_FLT 0) 1).modBank 0 (fun k => { k with vdrvOk := ok, vdrvSeen := true, vdrvLock := true })
def boot (h : Fin 72) : State := base.modHb h (fun x => { x with bst := true })

theorem witness_GateSupplyMonitors :
    (supplies true true).senseOn 0 = true ∧ ((supplies true true).bank[0]).vdrvSeen = true ∧
    ((supplies true true).bank[0]).vdrvLock = false ∧ ((supplies true true).bank[0]).hold = none ∧
    ((supplies true true).bank[0]).flt = .driven ∧ ((supplies false false).bank[0]).vdrvSeen = false ∧
    (supplies true true).cpBank 0 = true ∧ ((supplies true true).bank[0]).vcpSeen = true ∧
    ((supplies true true).bank[0]).vcpLock = false ∧ (supplies true true).cpBank 1 = false ∧
    (lockedOut true).up = true ∧ (lockedOut true).hears = true ∧ bit (1 : Word) 0 = true ∧
    bit ((lockedOut true).freshAt (A.GSUP_FLT 0)) 0 = false ∧ ((lockedOut true).bank[0]).vdrvOk = true ∧
    ((lockedOut false).bank[0]).vdrvOk = false ∧ (lockedOut true).dom 0 = true ∧ (lockedOut true).legal (A.GSUP_FLT 0) 1 = true ∧
    (lockedOut false).legal (A.GSUP_FLT 0) 3 = true ∧ (boot 4).senseOn (hbBank 4) = true ∧ ((boot 4).hb[4]).bst = true ∧
    (boot 4).hbAxis 4 = none ∧ ((boot 0).hb[0]).bst = true ∧ (boot 0).hbAxis 0 = some (0, 0) ∧ 0 ∈ (boot 0).axHbs 0 ∧
    ((boot 0).bank[hbBank 0]).flt = .driven := by decide +kernel

/-! ### Witnesses: protection -/

/-- GH of HB00 on since 1,000 PWM clocks, its detectors counting. -/
def onGate (counts plateau : Bool) : State :=
  base.modHb 0 (fun x =>
    { x with hs := { x.hs with on := true, onAt := 2000000000 - 1000, counts := counts, armed := counts, plateau := plateau } })

theorem witness_ShortCircuitDetectors :
    (((onGate false false).hb[0]).gate (sideOf true)).on = true ∧
    (((onGate false false).hb[0]).gate (sideOf true)).onAt + (((onGate false false).hb[0]).gate (sideOf true)).tdsbl ≤
      (onGate false false).clkAt 0 ∧
    (((onGate false false).hb[0]).gate (sideOf true)).onAt + 40 ≤ (onGate false false).clkAt 0 ∧
    (((onGate true false).hb[0]).gate (sideOf true)).counts = true ∧
    (((onGate true false).hb[0]).gate (sideOf true)).onAt + (((onGate true false).hb[0]).gate (sideOf true)).tdsbl +
      (((onGate true false).hb[0]).gate (sideOf true)).tdsdg ≤ (onGate true false).clkAt 0 ∧
    (((onGate true false).hb[0]).gate (sideOf true)).armed = true ∧
    (((onGate true false).hb[0]).gate (sideOf true)).onAt + 48 ≤ (onGate true false).clkAt 0 ∧
    (((onGate true false).hb[0]).gate (sideOf true)).plateau = false ∧
    (((onGate true false).hb[0]).gate (sideOf true)).onAt + (((onGate true false).hb[0]).gate (sideOf true)).tplat ≤
      (onGate true false).clkAt 0 ∧
    field ((onGate true false).rd (A.PROT_CHFLT (hbBank 0).val (hbIn 0).val)) 5 0 = 0 := by decide +kernel

/-- The TRIP_0 and VOV2 reactions of bank 0 held, with their conditions present or gone. -/
def reacting (tripIn vmLow : Bool) : State :=
  (base.wr (A.PROT_BFLT 0) 6).modBank 0 (fun k => { k with trip := true, tripIn := tripIn, vov2 := true, vmLow := vmLow })

theorem witness_ProtectionFlags :
    base.up = true ∧ base.hears = true ∧ base.senseOn 0 = true ∧ (base.bank[0]).ots = false ∧ bit (6 : Word) 3 = false ∧
    base.dom 0 = true ∧ base.legal (A.PROT_CHFLT 0 8) 0x003F = true ∧ (reacting false true).legal (A.PROT_BFLT 0) 6 = true ∧
    bit (6 : Word) 1 = true ∧ bit (6 : Word) 2 = true ∧ ((reacting false true).bank[0]).tripIn = false ∧
    bit ((reacting false true).freshAt (A.PROT_BFLT 0)) 1 = false ∧ ((reacting false true).bank[0]).vmLow = true ∧
    bit ((reacting false true).freshAt (A.PROT_BFLT 0)) 2 = false ∧ ((reacting true false).bank[0]).tripIn = true ∧
    ((reacting true false).bank[0]).vov2 = true ∧ ((reacting true false).bank[0]).vmLow = false := by decide +kernel

def tripFilter : State := base.wr (A.PROT_TRIPCFG 0) 5
def tripped (cfg : Word) : State :=
  ((base.wr (A.PROT_TRIPCFG 0) cfg).wr (A.PROT_BFLT 0) 2).modBank 0 (fun k => { k with tripIn := true, trip := true })

theorem witness_TripAndEmergencyStop :
    tripFilter.hears = true ∧ tripFilter.senseOn 0 = true ∧ (tripFilter.bank[0]).tripIn = false ∧
    (tripFilter.bank[0]).judgeFrom (tripFilter.clkAt 0 - 10) + 2 * field (tripFilter.rd (A.PROT_TRIPCFG 0)) 5 0 =
      tripFilter.clkAt 0 ∧
    tripFilter.clkAt 0 <
      (tripFilter.bank[0]).judgeFrom (tripFilter.clkAt 0 - 9) + 2 * field (tripFilter.rd (A.PROT_TRIPCFG 0)) 5 0 ∧
    bit ((tripped 0).rd (A.PROT_TRIPCFG 0)) 8 = false ∧ bit ((tripped 0x0100).rd (A.PROT_TRIPCFG 0)) 8 = true ∧
    bit ((tripped 0x0100).rd (A.PROT_BFLT 0)) 1 = true ∧ base.up = true ∧ base.safe.estop = false ∧ 500 < 501 ∧ 299 < 300 ∧
    (base.modSafe (fun x => { x with estop := true })).safe.estop = true ∧
    (base.modPwr (fun p => { p with vioOk := false })).hears = false := by decide +kernel

def limiting (cfg : Word) : State :=
  (((base.wr (A.PROT_ILIM 0 0) 0x40).wr (A.PROT_AXCFG 0 0) cfg).modTim 0 (fun x => { x with run := true })).modBank 0
    (fun k => { k with armed := true })
/-- The same bank with the direct drive port routed to it. -/
def direct : State :=
  (limiting 1).modImg (fun x => { x with active := some { anImage with ddpEn := true, ddpBank := 0 } })

theorem witness_CurrentLimit :
    (limiting 1).hbAxis 0 = some (0, 0) ∧ (limiting 1).dom (hbBank 0).val = true ∧ ((limiting 1).tim[0]).run = true ∧
    ((limiting 1).hb[0]).limit = none ∧ field ((limiting 1).hbReg A.PROT_ILIM 0) 7 0 ≠ 0 ∧ 5 < ((limiting 1).select 0).1 ∧
    (direct.select 0).1 = 5 ∧ direct.hbAxis 0 = some (0, 0) ∧ (base.select 9).1 < 5 ∧ field ((base.wr (A.PROT_ILIM 0 0) 0).hbReg A.PROT_ILIM 0) 7 0 = 0 ∧
    ((base.modHb 0 (fun x => { x with limit := some .low })).hb[0]).limit.isSome = true ∧
    ((limiting 1).bank[hbBank 0]).judgeFrom ((limiting 1).clkAt 0 - 0) ≤ (limiting 1).clkAt 0 ∧
    field ((limiting 1).rd (A.PROT_AXCFG (hbBank 0).val (axSlot 0).val)) 1 0 = 1 ∧
    field ((limiting 2).rd (A.PROT_AXCFG (hbBank 0).val (axSlot 0).val)) 1 0 = 2 ∧
    bit ((limiting 1).rd (A.PROT_BFLT (hbBank 0).val)) 0 = false ∧ base.clkAt 0 ≤ (base.clkAt 0 - 1024) + 1024 := by
  decide +kernel

def chopping : State := (base.wr (A.PROT_CHOPMAX 0) 1).modBank 0 (fun k => { k with chop := true, chopAt := 9998999 })

theorem witness_OverVoltageAndChopper :
    base.senseOn 0 = true ∧ (base.bank[0]).vov2 = false ∧ (chopping.bank[0]).chop = true ∧ (chopping.bank[0]).flt = .driven ∧
    (chopping.bank[0]).chopLong = false ∧ field (chopping.rd (A.PROT_CHOPMAX 0)) 7 0 ≠ 0 ∧
    1000 * field (chopping.rd (A.PROT_CHOPMAX 0)) 7 0 + 1 = chopping.clk.ticks - (chopping.bank[0]).chopAt := by
  decide +kernel

/-! ### Witnesses: functional safety -/

/-- The device-wide reaction stands since 3 ticks with a cause. -/
def held (cause : Nat) (at' : Nat) : State :=
  ((base.wr A.SAFE_CAUSE (w16 cause)).modSafe (fun x => { x with dev := true, lastAt := some at' })).modClk
    (fun c => { c with lastBadAny := 9999000 })

/-- A load of ticket slot 0 from the window, and one whose bank image for bank 0 is staged. -/
def aLoad : Load := ⟨some 0, 2, 0, none, none, 0, 0, [], 0, 0, false, false⟩
def staging : State :=
  base.modImg (fun x => { x with load := some { aLoad with staged := some (.bank 0 BankCfg.none 7) } })

theorem witness_DeviceWideReaction : staging.scrubOff (0x2000 : Word).toNat = true ∧ staging.up = true ∧
    staging.img.active.isSome = true ∧ staging.scrubOff (0x2400 : Word).toNat = false ∧ base.up = true ∧ base.img.active.isSome = true ∧ base.safe.dev = false ∧
    base.hears = true ∧ (held causeCLOCK 9999998).safe.dev = true ∧ (held causeCLOCK 9999998).clearable = true ∧
    (held causeCLOCK 9999998).safe.lastAt = some 9999998 ∧ 9999998 + 2 = (held causeCLOCK 9999998).clk.ticks ∧
    (held causeSUPERVISOR 0).clearable = false := by decide +kernel

/-- The watchdog runs since a tick with tmin 1 ms and tmax 10 ms. -/
def watched (at' : Nat) (next late : Bool) : State :=
  (base.wr A.SAFE_WDCFG 0x810A).modSafe (fun x => { x with wdRun := true, wdAt := at', wdNext := next, wdLate := late })

theorem witness_RamErrorsAndWatchdog : base.up = true ∧ base.hears = true ∧ ramInst (0 : Byte).toNat = true ∧
    ramInst (4 : Byte).toNat = true ∧ (4 : Byte).toNat = 4 ∧ ramInst (31 : Byte).toNat = true ∧ (3 : Byte).toNat < 4 ∧
    16 ≤ (16 : Byte).toNat ∧ base.safe.dev = false ∧ base.legal A.SAFE_WDCFG 0x8064 = true ∧ base.limits = [] ∧
    (watched 9999000 false false).safe.wdRun = true ∧ base.safe.wdRun = false ∧ bit (0x8064 : Word) 15 = true ∧
    (watched 9999000 false false).safe.wdNext = false ∧
    (watched 9999000 false false).wdMin = (watched 9999000 false false).wdElapsed ∧
    (watched 9990000 true false).wdElapsed = (watched 9990000 true false).wdMax ∧
    (watched 9999001 false false).wdElapsed < (watched 9999001 false false).wdMin ∧
    (watched 9989999 false false).safe.wdLate = false ∧
    (watched 9989999 false false).wdMax < (watched 9989999 false false).wdElapsed := by decide +kernel

def implausible : State := (base.wr A.SAFE_PLFLT_LO 1).modAx 0 (fun x => { x with plAt := some 9999000, plaus := true })

theorem witness_PlausibilityAndDieLink : implausible.ax[0].plAt = some 9999000 ∧ 1000 = implausible.clk.ticks - 9999000 ∧
    implausible.up = true ∧ implausible.hears = true ∧ decide (16 ≤ (0 : Fin 24).val) = false ∧
    decide (16 ≤ (16 : Fin 24).val) = true ∧ bit (1 : Word) (plfltBit 0) = true ∧ bit (1 : Word) (plfltBit 16) = true ∧
    implausible.legal A.SAFE_PLFLT_LO 1 = true ∧ implausible.legal A.SAFE_PLFLT_HI 1 = true ∧
    bit (implausible.freshAt (plfltAddr 0)) (plfltBit 0) = false ∧
    (base.modSafe (fun x => { x with dieOk := 15 })).safe.dieOk.getLsbD (0 : Fin 4).val = true := by decide +kernel

/-- Bank 0 ready to be armed, prepared at a tick. -/
def armable (at' : Nat) : State :=
  (base.modBank 0 (fun k => { k with vdrvOk := true, vcpOk := true, prep := some at' })).modSafe
    (fun x => { x with wdRun := true, mech := .passed, dieOk := 15 })

theorem witness_ArmingABank :
    (armable 9990000).up = true ∧ (armable 9990000).hears = true ∧ (armable 9990000).armDead = false ∧
    (armable 9990000).img.active.isSome = true ∧ (armable 9990000).dom 0 = true ∧ (armable 9990000).pwr.st = .main ∧
    ((armable 9990000).bank[0]).vdrvOk = true ∧ ((armable 9990000).bank[0]).vdrvLock = false ∧
    ((armable 9990000).bank[0]).vcpOk = true ∧ ((armable 9990000).bank[0]).vcpLock = false ∧
    (armable 9990000).safe.estop = false ∧ (armable 9990000).safe.dev = false ∧ (armable 9990000).safe.wdRun = true ∧
    (armable 9990000).safe.mech = .passed ∧ (armable 9990000).safe.dieOk.getLsbD (bankDie 0).val = true ∧
    ((armable 9990000).bank[0]).convFlt = false ∧ ((armable 9990000).bank[0]).prep = some 9990000 ∧
    (armable 9990000).clk.ticks - 9990000 = 10000 ∧ (armable 9989999).armRefusal 0 ≠ 0 ∧ base.armRefusal 0 ≠ 0 ∧
    (base.modPair (fun p => { p with owner := false, sync := true })).armDead = true ∧
    base.safe.mech = .testing ∧ (armable 0).safe.mech ≠ .testing := by decide +kernel

theorem witness_OnlyArmingArms : functionOf (.startEdge 0) = .pwm ∧ (∃ t, exec (.startEdge 0) base = .next t) ∧
    (base.bank[0]).armed = false := by
  refine ⟨rfl, ⟨_, rfl⟩, by decide +kernel⟩

/-! ### Witnesses: PWM timers -/

def running (stop : Bool) : State :=
  (base.wr A.PWM_RUN_LO 1).modTim 0 (fun x =>
    { x with
      run := true, stopping := stop, base := 1999999000, act := x.act.set 1 999, stage := some ⟨0, [0, 7], true⟩ })
def starting (e : Nat) : State := base.modTim 0 (fun x => { x with startAt := some e })
def dark : State := base.modPwr (fun p => { p with on := 0 })

theorem witness_ArmAndRunTimers : base.up = true ∧ base.hears = true ∧ (0 : Fin 24) ∈ wordTimers false 1 ∧
    base.legal A.PWM_LOADALL_LO 1 = true ∧ base.legal A.PWM_LOADALL_HI 0x0080 = true ∧ base.limits = [] ∧
    base.legal (runAddr 0) (base.runWordWith 0 true) = true ∧ base.legal (runAddr 23) (base.runWordWith 23 false) = true ∧
    (1 : Fin 24) ∉ wordTimers false 1 ∧ (16 : Fin 24) ∈ wordTimers true 1 ∧ base.timOn 0 = true ∧
    ((running false).tim[0]).stage.isSome = true ∧ dark.timOn 0 = false ∧ (running false).runSet 0 = true ∧
    base.runSet 0 = false ∧ (base.tim[0]).run = false ∧
    ((base.modTim 0 (fun x => { x with run := true })).tim[0]).run = true ∧ ((running false).tim[0]).run = true ∧
    ((base.wr A.PWM_RUN_LO 1).tim[0]).run = false ∧ (base.wr A.PWM_RUN_LO 1).runSet 0 = true := by decide +kernel

theorem witness_PeriodBoundaries :
    ((starting 2000000199).tim[0]).startAt = some 2000000199 ∧ 2000000199 < (starting 0).tickEnd ∧
    ((running false).tim[0]).run = true ∧ ((running false).tim[0]).nextWrap < (running false).tickEnd ∧
    ((running false).tim[0]).stopping = false ∧ ((running true).tim[0]).stopping = true ∧
    ((running false).tim[0]).stage = some ⟨0, [0, 7], true⟩ ∧ 0 + 4 ≤ ((running false).tim[0]).nextWrap ∧
    (let s := (running false).modTim 0 (fun x => { x with stage := some ⟨1999999997, [0, 7], true⟩ });
      (s.tim[0]).stage = some ⟨1999999997, [0, 7], true⟩ ∧ (s.tim[0]).nextWrap < 1999999997 + 4) ∧
    (base.tim[0]).startAt = none ∧ ((starting 2000000200).tim[0]).startAt = some 2000000200 ∧
    (starting 2000000200).tickEnd = 2000000200 ∧ (base.tim[0]).run = false := by decide +kernel

/-- Channel 0 of timer 0 with an edge to come at a PWM clock. -/
def edges (f : Nat) : State :=
  base.modTim 0 (fun x => { x with ch := x.ch.set 0 { x.ch[0] with fallAt := some f, refEnd := some f } })
/-- Timer 0 runs, and its trigger 1 matches at the tick's first PWM clock. -/
def triggering (fired : Nat) : State :=
  base.modTim 0 (fun x =>
    { x with run := true, base := 2000000000 - 5, act := (x.act.set 1 999).set 10 5, fired := fired })

theorem witness_WithinAPeriod :
    (((edges 2000000199).tim[0]).ch[0]).fallAt = some 2000000199 ∧ (((edges 2000000199).tim[0]).ch[0]).refEnd = some 2000000199 ∧
    2000000199 < (edges 0).tickEnd ∧ ((triggering 0).tim[0]).run = true ∧
    (((triggering 0).tim[0]).act[(1 : Fin 4).val + 9]).toNat ≤ (((triggering 0).tim[0]).act[1]).toNat ∧
    ((triggering 0).tim[0]).base + (((triggering 0).tim[0]).act[(1 : Fin 4).val + 9]).toNat * prescale ((triggering 0).tim[0]).act <
      (triggering 0).tickEnd ∧
    natBit ((triggering 0).tim[0]).fired 1 = false ∧ natBit ((triggering 2).tim[0]).fired 1 = true ∧
    (3, (2 : Fin 4).val) ∈ (triggering 0).routedFrom 1 (4 * (0 : Fin 24).val + (1 : Fin 4).val) ∧
    (2, (0 : Fin 24).val) ∈ (triggering 0).routedFrom 1 1 ∧ (1, (0 : Fin 24).val) ∈ (triggering 0).routedFrom 1 0 ∧
    base.dom 0 = true ∧ bit (base.rd (A.DLC_CTL 0)) 0 = true ∧
    (base.bank[0]).dlcCyc = none := by decide +kernel

/-! ### Witnesses: the host link -/

theorem witness_WriteFrames : base.up = true ∧ base.hears = true ∧ hdrBad 0x4000 = false ∧ hdrWords 0x4000 = 1 ∧
    field 0x4000 15 13 = 2 ∧ field 0x8000 15 13 = 4 ∧ hdrWords 0x8200 = 3 ∧ hdrBad 0x8200 = false ∧ hdrBad 0x4001 = true ∧
    hdrWords 0x4001 = 1 ∧ field 0x4001 15 13 = 2 ∧ 5 ≤ field 0xA000 15 13 ∧
    (w16 (A.OP_PARAM 7)).toNat = A.OP_PARAM 7 ∧ base.limits = [] ∧ (0 : Word) ≠ crc16 [0x4000, w16 (A.OP_PARAM 7), 5] ∧
    (15 : Fin 16).val ≠ 0 := by decide +kernel

theorem witness_ReadFrames : base.up = true ∧ base.hears = true ∧ hdrBad 0x2000 = false ∧ hdrWords 0x2000 = 1 ∧
    field 0x2000 15 13 = 1 ∧ field 0x6000 15 13 = 3 ∧ hdrBad 0x6300 = false ∧ hdrWords 0x6300 = 4 ∧
    passesEnd true 0xFFFF 4 = false ∧ passesEnd false 0xFFFC 4 = false ∧ passesEnd false 0xFFFD 4 = true ∧
    (lookup A.ID_PART).map (fun p => quantOf p.1.reg p.2) = some none ∧
    (lookup (A.TIME_TB 0)).map (fun p => quantOf p.1.reg p.2) = some (some (0, 3)) := by decide +kernel

/-- The image bounds OP_PARAM_0 to 5. -/
def bounded : State :=
  base.modImg (fun x => { x with active := some { anImage with limits := [⟨A.OP_PARAM 0, 0, 16, false, 0, 5⟩] } })

theorem witness_RegisterWrites : base.up = true ∧ base.hears = true ∧
    (lookup (w16 (A.OP_PARAM 0)).toNat).map (·.1.reg) = some .OP_PARAM ∧
    (lookup (w16 A.PWR_EMARGIN).toNat).map (·.1.reg) = some .PWR_EMARGIN ∧ base.limits = [] ∧
    bounded.limits = [⟨A.OP_PARAM 0, 0, 16, false, 0, 5⟩] ∧ (w16 (A.OP_PARAM 0)).toNat = A.OP_PARAM 0 ∧
    (0 : Word).toNat ≤ (5 : Word).toNat ∧ (5 : Word).toNat < (6 : Word).toNat ∧ (w16 (A.OP_PARAM 0)).toNat < 0x400 ∧
    lookup (0x00FF : Word).toNat = none ∧ (w16 (A.TIME_SET_SEC 1)).toNat = A.TIME_SET_SEC 1 ∧
    (w16 (A.TIME_SET_SEC 0)).toNat = A.TIME_SET_SEC 0 ∧ dark.up = true ∧
    (base.modPwr (fun p => { p with vioOk := false })).hears = false ∧
    (base.modLands (fun l => { l with inReset := true })).up = false := by decide +kernel

/-! ### Witnesses: images -/

/-- A bank image for bank 1 on the active image, spelt byte by byte from Tables IMG-2 to IMG-6: every slot UNUSED, each converter
with the internal reference; then its CRC-32 and its tag. -/
def imageHead : List Byte :=
  [0x4A, 0x4E, 0x50, 0x52, 1, 0, 64, 0, 236, 0, 0, 0, 0x72, 0x24, 0xFF, 0xFF, 1, 1, 4, 0, 0, 0, 0, 0, 1, 0, 0, 0, 5, 0, 0, 0] ++
    List.replicate 32 0
def imageSects : List Byte :=
  [1, 0, 1, 0, 16, 0, 0, 0, 0, 0, 0x33, 0x33, 0x33, 0x33, 3, 0] ++ List.replicate 8 0 ++
    [2, 0, 1, 0, 16, 0, 0, 0] ++ List.replicate 16 0 ++
    [3, 0, 1, 0, 36, 0, 0, 0] ++ List.replicate 36 0 ++
    [4, 0, 1, 0, 52, 0, 0, 0, 1, 1, 1, 0, 0x80] ++ List.replicate 15 0 ++ [0x80] ++ List.replicate 15 0 ++ [0x80] ++
      List.replicate 15 0
def aKey : List Byte := List.replicate 32 0x11
def imageBytes : List Byte :=
  let body := imageHead ++ imageSects
  let body := body ++ leBytes 4 (crc32 body)
  body ++ (hmac aKey body).take 16
/-- The image stands in the load window, its key in the key slot, and a load of it runs. -/
def imageLoading (l : Load) (bytes : List Byte) : State :=
  base.modImg (fun x => { x with load := some l, window := cellWrs 0 [] 0 bytes, keySt := .programmed, key := aKey })

/-- An image as it is staged. -/
def stagedWhole : Load := { aLoad with staged := some (.whole anImage) }
def stagedBank : Load := { aLoad with staged := some (.bank 0 bank0 7) }
def loading (l : Load) (armed : Bool) : State := (imageLoading l []).modBank 0 (fun k => { k with armed := armed })

set_option maxRecDepth 100000 in
theorem witness_ImageChecks : (imageLoading aLoad imageBytes).up = true ∧
    (imageLoading aLoad imageBytes).imageCode false ((imageLoading aLoad imageBytes).source 2) = 0 := by decide +kernel
theorem witness_ImageRejected : (imageLoading aLoad []).imageCode false ((imageLoading aLoad []).source 2) ≠ 0 := by decide +kernel
theorem witness_ImageSwaps : (loading stagedWhole true).anyArmed = true ∧ (loading stagedWhole false).anyArmed = false ∧
    (loading stagedBank true).up = true ∧ ((loading stagedBank true).bank[0]).armed = true ∧
    ((loading stagedBank false).bank[0]).armed = false ∧ stagedBank.staged = some (.bank (0 : Fin 8).val bank0 7) ∧
    stagedWhole.slot.isSome = true ∧ aLoad.staged = none ∧ aLoad.bytes = [] ∧ aLoad.slot = some (0 : Fin 8).val ∧
    aLoad.dest = 0 ∧ { aLoad with dest := 1 }.dest ≠ 0 := by decide +kernel

/-- A slot write of 300 bytes to slot A, `done` bytes and `erased` sectors on, with energy. -/
def writing (erased done : Nat) (e : Word) : State :=
  (imageLoading { aLoad with dest := 1, bytes := List.replicate 300 0xA5, erased := erased, done := done } []).wr A.PWR_ESTORED e
def keyed (words : Nat) (arm run : Bool) : State :=
  base.modImg (fun x => { x with keyWords := List.replicate words 0x1234, keyArm := arm, keyRun := run, key := aKey })

theorem witness_SlotAndKeyProgramming : (writing 0 0 1000).up = true ∧ (writing 0 0 1000).store.burst = none ∧
    (let s := (writing 32 0 1000).modStore (fun t => { t with mounting := false });
      s.store.mounting = false ∧ s.storeDue = false ∧
      (s.modStore (fun t => { t with stage := some ⟨5, [1], 9, 1, false, false⟩, wst := .pending })).storeDue = true) ∧
    (let l := { aLoad with dest := 1, bytes := List.replicate 300 0xA5, erased := 31, done := 0 };
      (writing 31 0 0).img.load = some l ∧ (writing 31 0 0).gateOpen l.cost = false ∧ (writing 31 0 1000).gateOpen l.cost = true ∧
      ((writing 31 0 1000).ops.slots[0]).abort = none ∧ l.done < l.bytes.length ∧ l.erased < 32 ∧ l.stopping = false) ∧
    (let l := { aLoad with dest := 1, bytes := List.replicate 300 0xA5, erased := 32, done := 0 };
      (writing 32 0 1000).gateOpen l.cost = true ∧ 32 ≤ l.erased ∧ l.done + 256 < l.bytes.length) ∧
    (let l := { aLoad with dest := 1, bytes := List.replicate 300 0xA5, erased := 32, done := 256 };
      (writing 32 256 1000).gateOpen l.cost = true ∧ l.bytes.length ≤ l.done + 256 ∧ l.bad = false ∧
      ((writing 32 256 1000).modImg (fun x => { x with load := some { l with bad := true } })).img.load = some { l with bad := true }) ∧
    (keyed 16 true false).keyOpen = true ∧ (keyed 16 true true).keyOpen = false ∧ (keyed 0 false false).img.keyArm = false ∧
    (keyed 16 true false).img.keyArm = true ∧ (keyed 16 true false).img.keyWords.length = 16 ∧
    (keyed 17 true false).img.keyWords.length ≠ 16 ∧ (keyed 0 false true).img.keyRun = true := by decide +kernel

/-! ### Witnesses: long operations -/

/-- Bank 0 armed, axis 0 STOPPED, with parameters for MOTOR_ID on axis 0 in OP_PARAM. -/
def identReady : State :=
  (((base.wr (A.OP_PARAM 1) 100).wr (A.OP_PARAM 2) 1).wr (A.AX_ISCALE 0 0) 12).modBank 0 (fun k => { k with armed := true })
/-- All eight slots hold operations. -/
def slotsFull (x : OpSlot) (order : List Nat) (s : State) : State :=
  s.modOps (fun o => { o with slots := Vector.replicate 8 x, order := order })
def slotWith (x : OpSlot) (order : List Nat) (s : State) : State := (s.modSlot 0 (fun _ => x)).modOps (fun o => { o with order := order })
def anOp (st : OpState) (op : Nat) : OpSlot :=
  { OpSlot.reset with st := st, op := op, gen := 3, params := [0, 100, 1, 0, 0, 0, 0, 0] }

theorem witness_Doorbells : identReady.up = true ∧ identReady.hears = true ∧
    identReady.legal A.OP_CMD (w16 (256 * opMOTOR_ID)) = true ∧ base.legal A.OP_CMD (w16 (256 * opIMAGE_LOAD)) = true ∧
    base.legal A.OP_CMD (w16 (256 * opSHUNT_CAL)) = true ∧ base.legal A.OP_CMD (w16 (256 * opDLINE_CAL)) = true ∧
    base.legal A.OP_CMD (w16 (256 * opSELF_TEST)) = true ∧ base.legal A.OP_CMD (w16 (256 * opCOMPACT)) = true ∧
    (base.ops.slots[0]).st = .free ∧ identReady.classBusy (opClass opMOTOR_ID) = false ∧ identReady.ops.order = [] ∧
    identReady.opReady { OpSlot.reset with op := opMOTOR_ID, params := identReady.opParams } = true ∧
    (identReady.modBank 0 (fun k => { k with armed := false })).opReady
      { OpSlot.reset with op := opMOTOR_ID, params := identReady.opParams } = false ∧
    (slotWith (anOp .running opMOTOR_ID) [] base).classBusy (opClass opMOTOR_ID) = true ∧ base.lands.bootsel ≠ 3 ∧
    (∀ i : Fin 8, ((slotsFull (anOp .done opCOMPACT) [] base).ops.slots[i]).st ≠ .free) := by decide +kernel

theorem witness_OperationStartsAndAborts : opCodes.contains (0 : Byte).toNat = false ∧
    (let s := slotWith (anOp .queued opMOTOR_ID) [0] identReady;
      s.up = true ∧ (s.ops.slots[0]).st = .queued ∧ s.classBusy (opClass (s.ops.slots[0]).op) = false ∧
      s.firstOf (opClass (s.ops.slots[0]).op) = some (0 : Fin 8).val ∧ s.opReady (s.ops.slots[0]) = true) ∧
    (slotWith (anOp .queued opMOTOR_ID) [0] base).opReady (anOp .queued opMOTOR_ID) = false ∧
    (0 : Fin 8).val = field (0x0018 : Word) 2 0 ∧ field (0x0018 : Word) 15 8 = 0 ∧
    (anOp .queued opMOTOR_ID).st.terminal = false ∧ (anOp .queued opMOTOR_ID).st ≠ .free ∧
    (anOp .running opSHUNT_CAL).st.active = true ∧ (anOp .running opSHUNT_CAL).abort = none ∧
    (((base.modAx 0 (fun x => { x with st := .ident })).ax[(anOp .running opMOTOR_ID).motor]).st = .ident) ∧
    (anOp .queued opMOTOR_ID).gen = field (0x0018 : Word) 7 3 ∧ (anOp .queued opMOTOR_ID).gen ≠ field (0x0010 : Word) 7 3 ∧
    (anOp .done opMOTOR_ID).st.terminal = true ∧ (anOp .running opMOTOR_ID).st.active = true ∧
    (anOp .running opMOTOR_ID).abort = none := by decide +kernel

def runningOp (op started : Nat) : State := slotWith { anOp .running op with started := started } [] base

theorem witness_OperationEnds : (runningOp opMOTOR_ID 0).up = true ∧ ((runningOp opMOTOR_ID 0).ops.slots[0]).st.active = true ∧
    ((runningOp opMOTOR_ID 0).ops.slots[0]).op = opMOTOR_ID ∧ ((runningOp opMOTOR_ID 0).ops.slots[0]).abort = none ∧
    ((runningOp opDLINE_CAL 0).ops.slots[0]).op = opDLINE_CAL ∧ ((runningOp opDLINE_CAL 0).ops.slots[0]).abort = none ∧
    { anOp .running opDLINE_CAL with abort := some failPOWER }.st.active = true ∧
    ((base.modAx 0 (fun x => { x with st := .ident })).ax[((runningOp opMOTOR_ID 0).ops.slots[0]).motor]).st = .ident ∧
    (3 : Fin 8).val < 4 ∧ outOfMot [65535, 1, 1, 1] = false ∧ ((runningOp opSELF_TEST 0).ops.slots[0]).op = opSELF_TEST ∧
    Nat.land (0 : BitVec 32).toNat (((slotWith { anOp .running opSELF_TEST with params := [1] } [] base).ops.slots[0]).param 0).toNat = 0 ∧
    Nat.land (1 : BitVec 32).toNat (((slotWith { anOp .running opSELF_TEST with params := [1] } [] base).ops.slots[0]).param 0).toNat ≠ 0 ∧
    (runningOp opSELF_TEST 9949999).overdue ((runningOp opSELF_TEST 9949999).ops.slots[0]) = true ∧
    (runningOp opSELF_TEST 9950000).overdue ((runningOp opSELF_TEST 9950000).ops.slots[0]) = false := by decide +kernel

/-! ### Witnesses: CAN and axes -/

/-- Controller 0 on the bus with receive buffers 0 and 1 for identifier 5, of which `news` have a frame, and a pending single-shot
transmit buffer 2. -/
def canBus (news : Nat) (cfg : Word) : State :=
  let s := (((((base.wr (A.CAN_CTL 0) 0x1000).wr (A.BUF_CFG 0 0) cfg).wr (A.BUF_CFG 0 1) 0x8000).wr (A.BUF_ID_LO 0 0) 5).wr
    (A.BUF_ID_LO 0 1) 5).wr (A.BUF_CFG 0 2) 0xC200
  let s := (s.wr (A.BUF_MASK_LO 0 0) 0x7FF).wr (A.BUF_MASK_LO 0 1) 0x7FF
  let s := if 1 ≤ news then s.wr (A.BUF_STAT 0 0) 0x8000 else s
  let s := if 2 ≤ news then s.wr (A.BUF_STAT 0 1) 0x8000 else s
  s.modCan 0 (fun x => { x with pend := 4 })

theorem witness_CanControllers :
    (let s := canBus 1 0x8000;
      s.canOn 0 = true ∧ s.hears = true ∧ s.canCtl 0 13 = false ∧ s.canCtl 0 12 = true ∧ 10000000 ≤ s.clk.ticks ∧
      s.canMatches 0 false (5 : BitVec 29).toNat 1 = true ∧ bit (s.bufStat 0 1) 15 = false ∧
      (∀ m' : Fin 32, m' < 1 → s.canMatches 0 false (5 : BitVec 29).toNat m' = true → bit (s.bufStat 0 m') 15 = true) ∧
      (∀ m : Fin 32, s.canMatches 0 false (6 : BitVec 29).toNat m = false)) ∧
    (let s := canBus 2 0x8000;
      s.canMatches 0 false (5 : BitVec 29).toNat 0 = true ∧
      (∀ m' : Fin 32, m' < 0 → s.canMatches 0 false (5 : BitVec 29).toNat m' = false) ∧
      (∀ m' : Fin 32, s.canMatches 0 false (5 : BitVec 29).toNat m' = true → bit (s.bufStat 0 m') 15 = true) ∧
      bit (s.bufCfg 0 0) 10 = false) ∧
    (let s := canBus 0 0x8000;
      s.up = true ∧ s.dom 11 = true ∧ 2 ∈ wordBufs false 4 ∧ bit (s.bufCfg 0 2) 15 = true ∧ bit (s.bufCfg 0 2) 14 = true ∧
      31 ∈ wordBufs true 0x8000 ∧ 31 ∉ wordBufs false 4 ∧ bit (s.bufCfg 0 1) 14 = false ∧ (s.can[0]).isPend 2 = true ∧
      (s.can[0]).isPend 3 = false ∧ s.canCtl 0 14 = false ∧ s.winner 0 10000000 = some 2 ∧ bit (s.bufCfg 0 2) 9 = true) ∧
    (let s := ((canBus 0 0x8000).wr (A.BUF_CFG 0 2) 0xC000).modCan 0 (fun x => { x with abort := 4 });
      (s.can[0]).isPend 2 = true ∧ bit (s.bufCfg 0 2) 9 = false ∧ (s.can[0]).isAbort 2 = true ∧ ((canBus 0 0).can[0]).isAbort 2 = false) ∧
    (let s := (canBus 0 0).modCan 0 (fun x => { x with st := .busOff, recovering := true });
      (s.can[0]).st = .busOff ∧ (s.can[0]).recovering = true) ∧ canStOf 2 ≠ .active := by decide +kernel

/-- Axis 0 in a mode and a state, its bank armed. -/
def axisIn (mode : Word) (st : AxSt) (armed : Bool) : State :=
  ((base.wr (A.AX_MODE 0 0) mode).modBank 0 (fun k => { k with armed := armed })).modAx 0 (fun x => { x with st := st })

theorem witness_AxisCommands : (axisIn 1 .stopped true).axOn 0 = true ∧ (axisIn 1 .stopped true).legal (axAddr A.AX_CMD 0) 1 = true ∧
    ((axisIn 1 .stopped true).bank[axBank 0]).armed = true ∧ (axisIn 1 .stopped true).startOk 0 = true ∧
    (axisIn 0 .stopped true).startOk 0 = false ∧ ((axisIn 1 .stopped false).bank[axBank 0]).armed = false ∧
    ((axisIn 1 .run true).ax[0]).st = .run ∧ ((axisIn 1 .align true).ax[0]).st = .align ∧
    ((axisIn 6 .saliency true).ax[0]).st = .saliency ∧ ((axisIn 6 .retryWait true).ax[0]).st = .retryWait ∧
    (axisIn 1 .ramp true).hears = true ∧ (axisIn 1 .stopped true).ampsNow 0 = [] ∧
    (axisIn 1 .run true).legal (axAddr A.AX_CMD 0) 2 = true ∧ (axisIn 1 .run true).legal (axAddr A.AX_CMD 0) 3 = true ∧
    (axisIn 1 .run true).legal (axAddr A.AX_CMD 0) 8 = true ∧ ((axisIn 1 .run true).ax[0]).stopping = false ∧
    ((axisIn 1 .ramp true).ax[0]).stopping = false ∧ (axisIn 1 .ramp true).axMode 0 = .openLoop ∧
    (axisIn 6 .ramp true).axMode 0 ≠ .openLoop ∧
    (slotWith (anOp .running opMOTOR_ID) [] (axisIn 1 .ident true)).identSlot 0 = some 0 := by decide +kernel

/-- Axis 0 in RUN with a Hall stall as long as AX_TSTALL, and a reaction. -/
def stalling (react : Word) : State :=
  (((axisIn 2 .run true).wr (A.AX_STALLCFG 0 0) react).wr (A.AX_TSTALL 0 0) 5).modAx 0 (fun x =>
    { x with nminAt := some 9995000, edgeAt := 9995000 })

theorem witness_AxisTransitions : base.following = false ∧ ((axisIn 6 .saliency true).ax[0]).st = .saliency ∧
    (let s := ((axisIn 6 .saliency true).wr (A.AX_SALCFG 0 0) 10).modAx 0 (fun x => { x with since := 9999940 });
      s.salTicks 0 = s.clk.ticks - (s.ax[0]).since ∧ s.salTicks 0 ≠ 0) ∧
    (let s := ((axisIn 6 .saliency true).wr (A.AX_SALCFG 0 0) 10).modAx 0 (fun x => { x with since := 9999941 });
      s.clk.ticks - (s.ax[0]).since < s.salTicks 0) ∧
    (let s := (axisIn 1 .align true).modAx 0 (fun x => { x with since := 9900000 });
      (s.ax[0]).st = .align ∧ msTicks (s.axReg A.AX_TALIGN 0).toNat = s.clk.ticks - (s.ax[0]).since ∧ s.axMode 0 = .openLoop) ∧
    ((axisIn 6 .align true).axMode 0).sensorless = true ∧ (axisIn 5 .align true).axMode 0 = .focEnc ∧
    (let s := (axisIn 1 .align true).modAx 0 (fun x => { x with since := 9900001 });
      s.clk.ticks - (s.ax[0]).since < msTicks (s.axReg A.AX_TALIGN 0).toNat) ∧
    (let s := (axisIn 1 .retryWait true).modAx 0 (fun x => { x with since := 9900000 });
      (s.ax[0]).st = .retryWait ∧ msTicks 100 = s.clk.ticks - (s.ax[0]).since) ∧
    (stalling 0x0012).stallHolds 0 0 = true ∧ field ((stalling 0x0012).axReg A.AX_STALLCFG 0) 1 0 = 2 ∧
    (stalling 0x0011).stallHolds 0 0 = true ∧ field ((stalling 0x0011).axReg A.AX_STALLCFG 0) 1 0 = 1 ∧
    ((stalling 0x0011).ax[0]).retries < (stalling 0x0011).nretry 0 ∧ (stalling 0x0010).stallHolds 0 0 = true ∧
    field ((stalling 0x0010).axReg A.AX_STALLCFG 0) 1 0 = 0 ∧
    (base.ax[0]).tickDue = 0 ∧
    (let s := base.modAx 0 (fun x => { x with tickDue := 1, st := .ident, parked := some .none });
      s.axOn 0 = true ∧ (s.ax[0]).tickDue ≠ 0 ∧ (s.ax[0]).lastCur = none ∧ (s.ax[0]).st = .ident ∧ (s.ax[0]).parked.isSome = true) ∧
    (let s := base.modAx 0 (fun x => { x with lastCur := some (base.clkAt 0 - 4959), tickDue := 1 });
      s.axOn 0 = true ∧ s.isAxis 0 = true ∧ (s.routeTo 2 (0 : Fin 24).val).isSome = true ∧ (s.ax[0]).loopCnt = 0 ∧
      (s.ax[0]).lastCur = some (base.clkAt 0 - 4959) ∧ s.clkAt 0 < (base.clkAt 0 - 4959) + 4960) ∧
    (let s := (base.modTim 0 (fun x => { x with act := x.act.set 0 0x8000 })).modAx 0 (fun x =>
        { x with lastCur := some (base.clkAt 0 - 4960) });
      base.clkAt 0 - 4960 + 4960 ≤ s.clkAt 0 ∧ (s.ax[0]).st = .stopped ∧ srcAxis (s.tim[0]).act = true) := by decide +kernel

def converting (k : Option Nat) : State := base.modBank 0 (fun b => { b with conv := b.conv.set 0 { b.conv[0] with run := k } })

theorem witness_ConvertersAndPosition : base.convOn (axBank 0) = true ∧ (base.routeTo 1 (0 : Fin 24).val).isSome = true ∧
    (((base.modConv 0 (fun v => { v with due := 1 })).bank[axBank 0]).conv[axSlot 0]).due ≠ 0 ∧
    ((base.bank[axBank 0]).conv[axSlot 0]).due = 0 ∧ base.hears = true ∧ field ((base.wr (A.AX_HALLCFG 0 0) 0).axReg A.AX_HALLCFG 0) 7 4 = 0 ∧
    (let s := base.wr (A.AX_HALLCFG 0 0) 0x0010; 0 < field (s.axReg A.AX_HALLCFG 0) 7 4 ∧
      179 + 20 < 200 * field (s.axReg A.AX_HALLCFG 0) 7 4 ∧ 200 * field (s.axReg A.AX_HALLCFG 0) 7 4 + 20 < 221) ∧
    ((base.bank[axBank 0]).conv[axSlot 0]).resv = false ∧ ((base.bank[axBank 0]).conv[axSlot 0]).run = none ∧
    (((converting (some 1)).bank[axBank 0]).conv[axSlot 0]).run = some 1 ∧ 1 + 1 < ((converting (some 1)).convSeq 0).length ∧
    (((converting (some 2)).bank[axBank 0]).conv[axSlot 0]).run = some 2 ∧ ((converting (some 2)).convSeq 0).length = 2 + 1 ∧
    (axisIn 2 .run true).axOn 0 = true ∧ (axisIn 2 .run true).axMode 0 ≠ .focEnc ∧
    ((axisIn 2 .run true).hallSector 0 (5 : Fin 8).val).isSome = true ∧ (axisIn 2 .run true).hallSector 0 (0 : Fin 8).val = none ∧
    (axisIn 2 .run true).hallSector 0 (7 : Fin 8).val = none ∧ ((axisIn 2 .run true).axMode 0).hall = true ∧
    (((axisIn 2 .run true).modAx 0 (fun x => { x with hallBad := 1 })).ax[0]).hallBad = 1 ∧
    (axisIn 2 .run true).following = false ∧
    (let s := ((axisIn 5 .run true).wr (A.AX_ENCCFG 0 0) 1).modLands (fun l => { l with hall := l.hall.set 0 0 });
      s.axMode 0 = .focEnc ∧ bit (s.axReg A.AX_ENCCFG 0) 1 = false ∧ (s.lands.hall[0]).getLsbD 0 = false ∧
      (s.lands.hall[0]).getLsbD 1 = false ∧
      bit (s.axReg A.AX_ENCCFG 0) 0 = true ∧ (s.ax[0]).encIdx = false) := by decide +kernel

/-! ### Witnesses: ground motion, schedule and drop association -/

/-- Wheel 0 with four intervals of 200 µs, its last count at a tick. -/
def wheelAt (t0 : Nat) : State :=
  base.modFus (fun f =>
    { f with wheels := f.wheels.set 0 { f.wheels[0] with last := some t0, hist := [200, 200, 200, 200], sgn := 1 } })
/-- The inertial unit enabled with one step, a sequence running or not. -/
def imuState (run : Option Nat) : State :=
  base.modFus (fun f => { f with imu := run })
/-- "$GPGGA,,,,,,1,12*48" with its line end: fix quality 1, 12 satellites. -/
def aGga : List Byte :=
  [0x24, 0x47, 0x50, 0x47, 0x47, 0x41, 0x2C, 0x2C, 0x2C, 0x2C, 0x2C, 0x2C, 0x31, 0x2C, 0x31, 0x32, 0x2A, 0x34, 0x38, 0x0D, 0x0A]

theorem witness_MotionInputs : base.fusOn = true ∧ base.hears = true ∧ base.fusCfg (0 : Fin 4).val = 1 ∧
    bit (base.whlCfg 0) 4 = false ∧ 1000 * field (base.whlCfg 0) 3 0 ≤ 15000 ∧
    (let s := base.wr (A.FUS_WHL_CFG 0) 2; s.fusCfg (0 : Fin 4).val ≠ 0 ∧ 1999 < 1000 * field (s.whlCfg 0) 3 0) ∧
    (let s := base.modLands (fun l => { l with whl := 0 });
      s.lands.whl.getLsbD (2 * (3 : Fin 4).val) = false ∧ s.lands.whl.getLsbD (2 * (3 : Fin 4).val + 1) = false) ∧ (base.fus.wheels[0]).last = none ∧
    (let w := (wheelAt 9999921).fus.wheels[0];
      w.last = some 9999921 ∧ bit ((wheelAt 9999921).whlCfg 0) 8 = true ∧ w.hist.length = 4 ∧ w.sgn = 1 ∧
      300 * meanI w.hist ≤ 1000 * (((wheelAt 9999921).rd (A.FUS_WHL_DPC (0 : Fin 4).val)).toNat : Rat) ∧
      10 * (((wheelAt 9999921).clk.ticks - 9999921 : Nat) : Rat) < 4 * meanI w.hist) ∧
    (let w := (wheelAt 9999680).fus.wheels[0];
      w.last = some 9999680 ∧ 4 * meanI w.hist ≤ 10 * ((10000000 - 9999680 : Nat) : Rat) ∧
      16 * meanI w.hist ≤ 10 * ((10000000 - 9999680 : Nat) : Rat)) ∧
    10 * ((10000000 - 9999520 : Nat) : Rat) ≤ 24 * meanI ((wheelAt 9999520).fus.wheels[0]).hist ∧
    natBit (base.fusCfg 4) 0 = true ∧ nmeaBody (([] : List Byte).map (·.toNat)) = none ∧
    ((nmeaBody (aGga.map (·.toNat))).any (fun body =>
      (nmeaField (nmeaFields body) 0).length == 5 && (nmeaField (nmeaFields body) 0).drop 2 == [0x47, 0x47, 0x41] &&
      nmeaField (nmeaFields body) 7 != [] && (decNat (nmeaField (nmeaFields body) 7) 0) == some 12 &&
      nmeaField (nmeaFields body) 6 != [] && (decNat (nmeaField (nmeaFields body) 6) 0) == some 1)) = true ∧
    base.imuCfg = some ⟨0, 1, 1, [⟨0, 2, 1, 256, 0⟩]⟩ ∧ base.fusCfg 5 = 1 ∧ base.following = false ∧
    base.imuMay ⟨0, 1, 1, [⟨0, 2, 1, 256, 0⟩]⟩ = true ∧ (imuState none).fus.imu = none ∧
    (imuState (some 9999000)).fus.imu = some 9999000 ∧ base.fusCfg (6 + (0 : Fin 2).val) ≠ 0 ∧
    calOk (56 * 300) (base.fusCfg (6 + (0 : Fin 2).val)) (base.fus.sentCal[(0 : Fin 2)]) = true ∧
    (∀ d ∈ [0, 15, 1, 2, 3, 4, 5], d < 16) ∧ base.up = true ∧ natBit (base.fusCfg 8) 0 = true ∧
    field (1 : Word) 1 0 = 1 ∧ field (2 : Word) 1 0 = 2 := by decide +kernel

/-- A schedule with entry 3 for targets 0 and 23, which are in a state. -/
def scheduled (x : TgtSt) : State :=
  (base.wr A.SCH_CTL 0x0005).modSched (fun q => { q with q := [(3, ⟨actON, 7, 1000, [(0, x), (23, x)]⟩)] })
/-- A full schedule. -/
def fullSched : State :=
  base.modSched (fun q => { q with q := (List.range 256).map (fun i => (i, ⟨actON, 0, 1000, [(0, .pending none)]⟩)) })

theorem witness_PublicationsAndSections : base.fusOn = true ∧
    (let s := ((base.wr (A.FUS_W 0) 0).wr (A.FUS_W 1) 0).modFus (fun f => { f with next := 9999500 });
      s.fus.next + 100 * s.fus.delay = s.clk.ticks ∧ s.fus.newSet = [] ∧ 0 < s.fus.epoch ∧ (∀ r ∈ s.readings s.fus.next, r.w = 0)) ∧
    (let s := base.modFus (fun f => { f with next := 9999501 }); s.clk.ticks < s.fus.next + 100 * s.fus.delay) ∧
    base.following = false ∧
    (let s := scheduled (.pending (some 10005000));
      (mapGet s.sched.q (3 : Fin 256).val).bind (·.tgt (23 : Fin 24).val) = some (.pending (some 10005000)) ∧
      (10005000 : Rat) - (s.clk.ticks : Rat) ≤ s.tcommit ∧ (s.tcommit : Rat) < (10005000 + 1 / 2) - (s.clk.ticks : Rat)) ∧
    (mapGet (scheduled (.committed 10000000)).sched.q (3 : Fin 256).val).bind (·.tgt (0 : Fin 24).val) = some (.committed 10000000) ∧
    10000000 ≤ base.clk.ticks ∧ base.clk.ticks < 10000001 ∧
    (mapGet (scheduled (.late 10000000)).sched.q (3 : Fin 256).val).bind (·.tgt (0 : Fin 24).val) = some (.late 10000000) ∧
    base.up = true ∧ base.hears = true ∧ base.legal A.SCH_IN_0 0x4000 = false ∧
    (base.modLink (fun l => { l with stage := [(A.SCH_IN_12 1, 1)] })).legal A.SCH_IN_0 0x4000 = true ∧
    base.freeIndex = some 0 ∧ (scheduled .fired).freeIndex = some 0 ∧ fullSched.freeIndex = none ∧
    (∀ n ∈ List.range 24, base.isLate (1000 : Nat) n = false) := by decide +kernel

/-- Row 0 with a batch and the solver at work or free. -/
def aBatch : Batch := ⟨9975000, 500, [⟨9970000, false⟩], [⟨9970100, false⟩, ⟨9971000, false⟩]⟩
def solving (x : Option (Nat × Batch)) (q : List Nat) : State :=
  base.modSol (fun o => { o with solving := x, queue := q, rows := o.rows.set 0 { o.rows[0] with batch := some aBatch } })

theorem witness_DropAssociation : base.solOn = true ∧ base.hears = true ∧ base.seedOpen 0 = true ∧
    (let s := base.wr A.SOL_SEEDCFG 0x8505; true = bit (s.rd A.SOL_SEEDCFG) 15 ∧ false ≠ bit (s.rd A.SOL_SEEDCFG) 15 ∧
      1000 * field (s.rd A.SOL_SEEDCFG) 13 8 = 5000 ∧ s.seedOpen 23 = true) ∧ 0 < field (base.rd A.SOL_CTL) 6 0 ∧
    (base.modSol (fun o => { o with seeds := o.seeds.set 0 (some 10000000) })).seedOpen 0 = false ∧
    0 ∈ base.rowsFrom 0 ∧ 1 ∉ base.rowsFrom 0 ∧ (base.sol.rows[0]).obs.length < 64 ∧
    ((base.modSol (fun o => { o with rows := o.rows.set 0 { o.rows[0] with obs := List.replicate 64 ⟨9, false⟩ } })).sol.rows[0]).obs.length =
      64 ∧ base.sol.next ≤ base.clk.ticks ∧ 0 ∈ base.rowList ∧ (base.sol.rows[0]).batch = none ∧
    (∀ r : Fin 24, (base.sol.rows[r]).batch = none) ∧
    base.clk.ticks < (base.modSol (fun o => { o with next := 10000001 })).sol.next ∧ (solving none [0]).sol.solving = none ∧
    (solving none [0]).sol.paused = false ∧ (solving none [0]).testsSolver = false ∧ (solving none [0]).sol.queue = 0 :: [] ∧
    ((solving none [0]).sol.rows[fin24 0]).batch = some aBatch ∧ (solving (some (0, aBatch)) []).sol.solving = some (0, aBatch) ∧
    base.up = true ∧ (0 : Fin 24).val < base.rowCount := by decide +kernel

/-! ### Witnesses: events, supplies -/

def anEvent : Raised := ⟨9999000, Rank.host.at 0, 12, .info, 1, 2, some false⟩
def aRecord : Record := ⟨0, anEvent, false, false, false, 0, 0⟩
/-- A recorder with a due raising, and one record in slot 0 of the general partition or none. -/
def recording (slots : List (Nat × Record)) : State :=
  base.modRcd (fun r =>
    { r with due := [anEvent], slots := slots, lastG := if slots.isEmpty then none else some 0 })
def frozenAt (n : Nat) (fifo : List HoldEntry) : State :=
  base.modRcd (fun r => { r with frozen := true, frozeAt := n, fifo := fifo })
def drainingOne : State :=
  base.modRcd (fun r => { r with draining := true, fifo := [⟨anEvent, 0, 9999000⟩], thaw := some .host })

theorem witness_EventRecorder : base.up = true ∧ base.hears = true ∧ (recording []).rcd.due = anEvent :: [] ∧
    nextDue (recording []).rcd.due = some anEvent ∧ (recording []).viaFifo = false ∧ (frozenAt 0 []).viaFifo = true ∧
    nextDue [anEvent, { anEvent with place := 5 }] = some { anEvent with place := 5 } ∧
    (recording []).rcd.last (toProt (recording []).rcd.p anEvent.sev) = none ∧
    (recording []).rcd.target (toProt (recording []).rcd.p anEvent.sev) anEvent.sev = some 0 ∧ anEvent.sev.high = false ∧
    (recording []).store.jq.length < 32 ∧
    (if toProt (recording [(0, aRecord)]).rcd.p anEvent.sev then (recording [(0, aRecord)]).rcd.lastP
      else (recording [(0, aRecord)]).rcd.lastG) = some 0 ∧
    (recording [(0, aRecord)]).rcd.at 0 = some aRecord ∧ sameEv aRecord.ev anEvent = true ∧ base.rcd.due = [] ∧
    base.rcd.frozen = false ∧ (frozenAt 0 []).rcd.frozen = true ∧ (frozenAt 0 []).rcd.fifo = [] ∧
    (frozenAt 0 [⟨anEvent, 0, 0⟩]).rcd.fifo ≠ [] ∧ (frozenAt 9900001 []).clk.ticks - (frozenAt 9900001 []).rcd.frozeAt < 100000 ∧
    100000 = (frozenAt 9900000 []).clk.ticks - (frozenAt 9900000 []).rcd.frozeAt ∧ drainingOne.rcd.frozen = false ∧
    drainingOne.rcd.fifo = [⟨anEvent, 0, 9999000⟩] ∧ drainingOne.rcd.thaw = some .host ∧ drainingOne.rcd.ovf = false ∧
    drainingOne.rcd.wrote < 64 ∧ drainingOne.up = true ∧
    drainingOne.rcd.last (toProt drainingOne.rcd.p anEvent.sev) = none ∧
    drainingOne.rcd.target (toProt drainingOne.rcd.p anEvent.sev) anEvent.sev = some 0 := by decide +kernel

def powered (f : Pwr → Pwr) : State := base.modPwr f

theorem witness_EnergyAndDomains : (powered (fun p => { p with st := .down })).pwr.st = .down ∧ base.pwr.st = .main ∧
    base.pwr.hlow = false ∧ base.energy (0 : Word).toNat < base.ereq ∧ base.pwr.vbakArm = true ∧
    (0 : Word).toNat < (base.rd A.PWR_VBAKLOW).toNat ∧ bit (base.rd A.PWR_CFG) 15 = false ∧
    field ((base.wr A.PWR_ICHG 5).rd A.PWR_ICHG) 4 0 ≠ 0 ∧ (0 : Word).toNat + 5 < (base.rd A.PWR_VCHG).toNat ∧
    (base.rd A.PWR_VCHG).toNat ≤ (0xFFFF : Word).toNat ∧ (powered (fun p => { p with st := .hold })).pwr.st ≠ .main ∧
    bit ((base.wr A.PWR_CFG 0x8000).rd A.PWR_CFG) 15 = true ∧ field ((base.wr A.PWR_ICHG 0).rd A.PWR_ICHG) 4 0 = 0 ∧
    (powered (fun p => { p with vioOk := false })).pwr.vioOk = false ∧ base.pwr.vioOk = true ∧ base.up = true ∧
    base.safe.dev = false ∧ base.hears = true ∧ base.domBusy = false ∧ base.domAvail.getLsbD (11 : Fin 12).val = true ∧
    (powered (fun p => { p with on := 0 })).dom (11 : Fin 12).val = false ∧
    (let s := powered (fun p => { p with starts := [(11, 10000000)], begun := [10] });
      ((11 : Fin 12).val, 10000000) ∈ s.pwr.starts ∧ 10000000 ≤ s.clk.ticks ∧ (10 : Fin 12).val ∈ s.pwr.begun ∧
      s.pwr.changed = false) ∧
    (powered (fun p => { p with begun := [10], restore := true })).pwr.restore = true ∧
    (powered (fun p => { p with begun := [10] })).pwr.starts = [] ∧
    (powered (fun p => { p with begun := [10] })).pwr.begun = [(10 : Fin 12).val] := by decide +kernel

/-- A hand-over since a tick, `n` steps on. -/
def handing (st : PwrSt) (n t0 : Nat) (flushed : Bool) (dwell : Option Nat) : State :=
  powered (fun p => { p with st := st, step := n, t0 := t0, flushed := flushed, dwell := dwell })

theorem witness_HandOver : ((base.modImg (fun x => { x with load := some { aLoad with slot := none } })).img.load = some
    { aLoad with slot := none }) ∧ base.pwr.st = .main ∧ (handing .hold 5 0 true none).pwr.st ≠ .main ∧
    (handing .critical 1 9999991 false none).pwr.st = .critical ∧
    (handing .critical 1 9999991 false none).clk.ticks < (handing .critical 1 9999991 false none).pwr.t0 +
      stepAt (handing .critical 1 9999991 false none).pwr.step ∧
    (∀ n ∈ [0, 1, 2, 3, 4], (handing .critical n 9999960 false none).pwr.t0 +
      stepAt (handing .critical n 9999960 false none).pwr.step ≤ base.clk.ticks ∧ n < 5) ∧
    5 ≤ (handing .critical 5 9999800 false none).pwr.step ∧ base.clk.ticks < 9999801 + 200 ∧
    (handing .critical 5 9999800 false none).pwr.t0 + 200 = base.clk.ticks ∧ base.lands.deferred = false ∧
    (handing .critical 5 9999800 true none).pwr.flushed = true ∧ (handing .critical 5 9999800 false none).flushing = true ∧
    (handing .critical 5 9999800 false none).flushedAll = true ∧ (handing .flush 5 0 false none).flushing = true ∧
    (handing .flush 5 0 false none).pwr.dwell = none ∧ (handing .flush 5 0 false (some 9980001)).pwr.dwell = some 9980001 ∧
    base.clk.ticks < 9980001 + 20000 ∧ 9980000 + 20000 ≤ base.clk.ticks ∧
    (let s := base.modBank 0 (fun k => { k with hold := some 10000000 });
      (s.bank[0]).hold = some 10000000 ∧ 10000000 ≤ s.clk.ticks ∧ s.pwr.st ≠ .down) := by decide +kernel

theorem witness_RestartsAndDown : (handing .backup 5 0 true none).pwr.st ≠ .main ∧ (handing .backup 5 0 true none).pwr.st ≠ .down ∧
    (powered (fun p => { p with st := .hold, vmainOk := false })).pwr.vmainOk = false ∧
    base.pwr.st = .main ∧ (powered (fun p => { p with vmainOk := false })).pwr.vmainOk = false ∧
    (powered (fun p => { p with st := .hold, bounceArm := true })).pwr.bounceArm = true ∧
    (handing .hold 5 0 true (some 9980000)).pwr.dwell = some 9980000 ∧ 9980000 + 20000 = base.clk.ticks ∧
    (handing .hold 5 0 true (some 9980000)).lands.inReset = false ∧ 5 ≤ (handing .hold 5 0 true (some 9980000)).pwr.step ∧
    (handing .backup 5 0 true (some 9980000)).pwr.st = .backup ∧ base.pwr.vioOk = true ∧ base.lands.rstN = false ∧
    base.lands.tapHold = false ∧ (handing .flush 5 0 false (some 9980000)).pwr.st = .flush ∧ base.img.keyRun = false := by
  decide +kernel

/-! ### Witnesses: journal store -/

/-- A mounted store with an open head sector 64 at a byte, an item on the stage, and energy. -/
def storing (pos : Nat) (words : List Word) (e : Word) : State :=
  (base.wr A.PWR_ESTORED e).modStore (fun t =>
    { t with
      mounting := false, head := some 64, pos := pos, stage := some ⟨5, words, 9, 1, false, false⟩, wst := .pending })
/-- One byte is programmed in each of 158 journal sectors, so that no sector is free. -/
def fullArray : List Host.Cell := (List.range 158).map (fun n => (secBase (64 + n), 0))
/-- One committed record of two words under key 5 in sector 64. -/
def withRecord : State :=
  let head := [0x4A, 0x53, 0x45, 0x43] ++ leBytes 8 0
  let bytes := head ++ leBytes 4 (crc32 head) ++ leBytes 4 markerM
  let rec' := recBytes 5 false [0x1234, 0xABCD] 7 ++ leBytes 4 markerM
  base.modStore (fun t =>
    { t with
      mounting := false, head := some 64, mem := cellWrs 0xFF (cellWrs 0xFF [] (secBase 64) bytes) (secBase 64 + 32) rec' })

theorem witness_StoreCommands : base.up = true ∧ base.hears = true ∧
    (1 : Byte).toNat = 1 ∧ (storing 24 [] 0).legal (A.STORE_WR 0) (w16 (0x4000 + (1 : Byte).toNat)) = true ∧
    (let s := base.modStore (fun t => { t with mounting := false });
      s.store.mounting = false ∧ s.store.wst ≠ .pending ∧ s.store.wst ≠ .busy ∧ s.store.wst ≠ .deferred ∧
      field (s.staged (A.STORE_WR 1)) 9 0 < 896 ∧
      s.legal (A.STORE_WR 0) (w16 (0x4000 + (128 : Byte).toNat)) = true) ∧
    896 ≤ field ((base.modLink (fun l => { l with stage := [(A.STORE_WR 1, 896)] })).staged (A.STORE_WR 1)) 9 0 ∧
    (storing 24 [1] 0).store.wst = .pending ∧
    (let s := withRecord.modStore (fun t => { t with rd := some 4 });
      s.store.rd = some 4 ∧ s.store.mounting = false ∧ s.valueOf 4 = none) := by decide +kernel
set_option maxRecDepth 100000 in
theorem witness_StoreRead : ((withRecord.modStore (fun t => { t with rd := some 5 })).valueOf 5).map (fun x => (x.n, x.seq)) =
    some (2, 7) := by decide +kernel

theorem witness_StoreEngine :
    (let s := storing 24 [] 1000;
      s.pwr.core = true ∧ s.store.mounting = false ∧ s.store.burst = none ∧ s.store.comp = none ∧ s.store.jq = [] ∧
      s.store.stage = some ⟨5, [], 9, 1, false, false⟩ ∧ s.store.wst = .pending ∧ s.valueOf 5 = none) ∧
    (storing 4076 [1, 2] 1000).store.toErase = [] ∧ (storing 4076 [1, 2] 1000).headFits (recSize ([1, 2] : List Word).length) = some 64 ∧
    (storing 4076 [1, 2] 1000).gateOpen (burstCost (recSize ([1, 2] : List Word).length)) = true ∧
    (storing 4076 [1, 2] 0).gateOpen (burstCost (recSize ([1, 2] : List Word).length)) = false ∧
    (storing 4077 [1, 2] 1000).headFits (recSize ([1, 2] : List Word).length) = none ∧
    ((storing 4077 [1, 2] 1000).modStore (fun t => { t with mem := fullArray })).storeFree = 0 ∧
    (storing 24 [1] 1000).store.gateWait = false ∧
    (let s := (storing 24 [1] 1000).modStore (fun t => { t with burst := some (.record true 64 (some 262184)) });
      s.store.burst = some (.record true 64 (some 262184)) ∧ s.gateOpen 1 = true) ∧
    ((storing 24 [1] 1000).modStore (fun t => { t with burst := some (.record true 64 none) })).store.burst =
      some (.record true 64 none) ∧
    (let s := (storing 24 [1] 1000).modStore (fun t => { t with comp := some ⟨70, [], false, false, .background, false⟩ });
      s.pwr.core = true ∧ s.store.comp = some ⟨70, [], false, false, .background, false⟩ ∧ s.gateOpen 1 = true ∧ s.gateOpen 2 = true) ∧
    ((storing 24 [1] 1000).modStore (fun t => { t with comp := some ⟨70, [], true, false, .background, false⟩ })).store.comp =
      some ⟨70, [], true, false, .background, false⟩ ∧
    (let s := slotWith (anOp .running opCOMPACT) [] ((storing 24 [1] 1000).modStore (fun t =>
        { t with burst := some (.copy 65 none), comp := some ⟨70, [32], false, false, .operation, true⟩ }));
      s.store.gateWait = false ∧ s.store.burst = some (.copy 65 none) ∧
      s.store.comp = some ⟨70, [32], false, false, .operation, true⟩ ∧ s.running opCOMPACT = some 0 ∧
      (s.ops.slots[(0 : Fin 8)]).abort = none) ∧
    (storing 24 [1] 1000).running opCOMPACT = none ∧
    ((storing 24 [1] 1000).modStore (fun t => { t with mem := fullArray })).storeFree <
      field ((storing 24 [1] 1000).rd A.STORE_COMPCFG) 7 0 ∧
    field ((storing 24 [1] 1000).rd A.STORE_COMPCFG) 7 0 ≤ (storing 24 [1] 1000).storeFree ∧ base.store.mounting = true := by
  decide +kernel

/-! ### Witnesses: the redundant pair -/

def paired (f : Pair → Pair) : State := base.modPair f

theorem witness_PairOwnership : (base.modPwr (fun p => { p with vioOk := false })).hears = false ∧ base.up = true ∧ base.pair.ownIn = false ∧ (base.modLands (fun l => { l with pairId := 1 })).lands.pairId = 1 ∧
    (let s := paired (fun p => { p with claimAt := some (base.clkAt 0 - 2000) });
      s.pair.owner = true ∧ s.collides (s.clkAt 0) = true ∧ s.collides (s.clkAt 1) = false) ∧
    (let s := paired (fun p => { p with owner := false, ownAt := base.clkAt 0 - base.tclaim });
      s.pair.owner = false ∧ s.pair.lockout = false ∧ s.pair.idclash = false ∧ s.pair.ownIn = false ∧ s.pair.take = none ∧
      s.pair.ownfault = false ∧ s.pair.ownAt + s.tclaim = s.clkAt 0) ∧
    (let s := paired (fun p => { p with owner := false, ownAt := base.clkAt 0 - base.tclaim + 1 });
      s.clkAt 0 < s.pair.ownAt + s.tclaim) ∧
    (let s := paired (fun p => { p with gchk := p.gchk.set 0 (some (base.clkAt 0 - 400)), take := some .committed });
      s.pair.gchk[0] = some (base.clkAt 0 - 400) ∧ (base.clkAt 0 - 400) + 400 ≤ s.clkAt 0 ∧ s.pair.take = some .committed ∧
      s.clkAt 0 < (base.clkAt 0 - 399) + 400) ∧
    base.hears = true ∧ base.dom 10 = true ∧ (paired (fun p => { p with handPend := true })).pair.handPend = true ∧
    base.pair.handPend = false ∧
    (let s := paired (fun p => { p with link := .up, partnerReady := true }); s.pair.link = .up ∧ s.partnerOk = true) ∧
    base.pair.link ≠ .up ∧ base.partnerOk = false ∧ (paired (fun p => { p with lockout := true })).pair.lockout = true ∧
    base.pair.lockout = false ∧
    (let s := paired (fun p =>
        { p with tx := some { aFrame with handover := true }, handPend := true, mirrorAt := 9999923 });
      s.pair.tx = some { aFrame with handover := true } ∧ ({ aFrame with handover := true } : Mirror).handover = true ∧
      s.pair.owner = true ∧ s.pair.handPend = true ∧ 200 * s.pair.mirrorAt + 15380 ≤ s.clkAt 0 ∧ s.pair.take = none) := by
  decide +kernel

theorem witness_PairLink : base.pair.link = .off ∧ (paired (fun p => { p with link := .train })).pair.link = .train ∧
    (paired (fun p => { p with link := .hello })).pair.link = .hello ∧ (paired (fun p => { p with link := .up })).pair.link = .up ∧
    (let s := paired (fun p => { p with link := .lost, lostAt := 10000000 - base.tretry });
      s.pair.link = .lost ∧ s.tretry = s.clk.ticks - s.pair.lostAt) ∧
    (let s := paired (fun p => { p with link := .lost, lostAt := 10000001 - base.tretry });
      s.clk.ticks - s.pair.lostAt < s.tretry) ∧
    base.tb % 100 = 0 ∧ (base.modClk (fun c => { c with ticks := 10000001 })).tb % 100 ≠ 0 ∧
    (paired (fun p => { p with link := .up })).pair.owner = true ∧
    (true = (base.lands.pairId == 1) ∨ false = (base.lands.pairId == 1)) ∧
    (paired (fun p => { p with ownIn := true })).pair.ownIn = true ∧
    (let s := paired (fun p => { p with link := .up, frameAt := 9999900 }); s.clk.ticks - s.pair.frameAt < 101) ∧
    (let s := paired (fun p => { p with link := .up, frameAt := 9999899, missed := 2, owner := false, sync := true });
      101 = s.clk.ticks - s.pair.frameAt ∧ 2 ≤ s.pair.missed ∧ s.mayTake = true ∧ s.ownReleased (s.clkAt 0) 0 = true) ∧
    (let s := paired (fun p =>
        { p with link := .up, frameAt := 9999899, missed := 2, owner := false, sync := true, ownAt := base.clkAt 0 - 399 });
      s.mayTake = true ∧ s.pair.ownIn = false ∧ s.ownReleased (s.clkAt 0) 0 = false) ∧
    (paired (fun p => { p with link := .up, frameAt := 9999899, missed := 1 })).pair.missed < 2 ∧
    (paired (fun p => { p with link := .up, frameAt := 9999899, missed := 2 })).mayTake = false := by decide +kernel

def following : State := paired (fun p => { p with link := .up, owner := false, sync := true })

theorem witness_PairTakeover : following.pair.link = .up ∧ following.pair.owner = false ∧ aFrame.banks[(0 : Fin 8).val]? = some aBank ∧
    aFrame.timers[(23 : Fin 24).val]? = some aTimer ∧ (paired (fun p => { p with link := .up })).pair.owner = true ∧
    following.pair.link ≠ .off ∧ following.pair.link ≠ .lost ∧ (7 : Byte).toNat = 7 ∧ (8 : Byte).toNat = 8 ∧
    following.mayTake = true ∧ base.mayTake = false ∧
    (let s := following.modPair (fun p => { p with take := some .seen, takeAt := base.clkAt 0 - 400 });
      s.pair.take = some .seen ∧ s.pair.lockout = false ∧ s.ownReleased (s.clkAt 0) s.pair.takeAt = true) ∧
    (let s := following.modPair (fun p => { p with take := some .seen, takeAt := base.clkAt 0 - 399 });
      s.ownReleased (s.clkAt 0) s.pair.takeAt = false) ∧
    (following.modPair (fun p => { p with take := some .owner })).pair.take = some .owner ∧
    (let s := following.modPair (fun p => { p with take := some .seen });
      s.up = true ∧ s.pwr.st = .main ∧ s.pair.take.isSome = true) ∧
    (base.ax[(0 : Fin 24)]).st = .stopped := by decide +kernel

/-! ### Witnesses: resets, frames, invariants -/

/-- The device in reset, from a source. -/
def inReset (start : Nat) (vio : Bool) : State :=
  ((base.modLands (fun l => { l with inReset := true, start := start })).modPwr (fun p => { p with vioOk := vio })).modImg
    (fun x => { x with active := none })

theorem witness_ResetsAndTestPort : base.up = true ∧ base.hears = true ∧ 99 < 100 ∧ 1000 ≤ 1000 ∧ base.pwr.st ≠ .critical ∧
    base.pwr.st ≠ .flush ∧ (powered (fun p => { p with st := .critical })).pwr.st = .critical ∧
    (powered (fun p => { p with st := .flush })).pwr.st = .flush ∧ (inReset startRST false).lands.inReset = true ∧
    (inReset startRST false).img.active = none ∧ (inReset startRST false).lands.strapOpen.getLsbD 0 = false ∧
    ((inReset startRST false).modLands (fun l => { l with strapOpen := 3 })).lands.strapOpen.getLsbD 2 = false ∧
    (inReset startRST false).lands.tapHold = false ∧ (inReset startRST false).pwr.core = true ∧
    (inReset startRST false).pwr.st = .main ∧ (inReset startRST false).lands.start = startRST ∧
    (inReset 1 true).lands.start ≠ startRST ∧ (inReset 1 true).pwr.vioOk = true ∧ (inReset 1 false).pwr.vioOk = false ∧
    (base.modLands (fun l => { l with tapHold := true })).lands.tapHold = true ∧
    (base.modPwr (fun p => { p with core := false })).pwr.core = false ∧ base.pwr.vioOk = true := by decide +kernel

theorem witness_FrameOfEveryCommand : ∃ t, exec (.canTxreq 0 false 4) (canBus 0 0x8000) = .next t := ⟨_, rfl⟩

theorem witness_ArrayBytesCut :
    (let s := (storing 32 [1] 1000).modStore (fun t => { t with burst := some (.release 70), span := (secBase 70 + 20, 4) });
      s.store.burst.isSome = true ∧ s.store.gateWait = false ∧ s.store.comp = none ∧ s.store.span.1 + 4 ≤ secBase 71) ∧
    (let s := (storing 32 [1] 1000).modStore (fun t => { t with comp := some ⟨70, [], true, true, .background, false⟩ });
      s.store.comp = some ⟨70, [], true, true, .background, false⟩) := by decide +kernel

theorem witness_ArrayBytesStored : (∃ t, exec .storeAppend (storing 32 [1] 1000) = .next t) ∧
    (∃ t, exec (.programBurstDone true) (storing 32 [1] 1000) = .next t) ∧
    (∃ t, exec (.programBurstDone false) (storing 32 [1] 1000) = .next t) ∧
    (∃ t, exec (.aonPowerOn ⟨true, ⟨2, 0, 0⟩⟩) (storing 32 [1] 1000) = .next t) ∧
    (∃ t, exec (.energyEstimate 0 0 0) (storing 32 [1] 1000) = .next t) ∧
    (∃ t, exec (.vmainFail 0 0 0) (storing 32 [1] 1000) = .next t) ∧
    ∃ t, exec .compactionStep (storing 32 [1] 1000) = .next t :=
  ⟨⟨_, rfl⟩, ⟨_, rfl⟩, ⟨_, rfl⟩, ⟨_, rfl⟩, ⟨_, rfl⟩, ⟨_, rfl⟩, ⟨_, rfl⟩⟩

theorem witness_NoShootThroughKept : NoShootThrough State.reset ∧
    ∃ t, step { State.reset with pending := [.startEdge 0] } = .next t := ⟨by unfold NoShootThrough; decide +kernel, ⟨_, rfl⟩⟩

theorem witness_ByteFormsKept : cellsOk 0xFF (storing 32 [1] 1000).store.mem = true ∧
    cellsOk 0xFF [(3, 0), (4, 0xFE)] = true ∧ cellsOk 0xFF [(3, 0xFF)] = false ∧ cellsOk 0 [(4, 1), (3, 1)] = false ∧
    cellsOk 0 (storing 32 [1] 1000).img.window = true ∧ ∃ t, step { base with pending := [.storeAppend] } = .next t :=
  ⟨by decide +kernel, by decide +kernel, by decide +kernel, by decide +kernel, by decide +kernel, ⟨_, rfl⟩⟩

/-! ### Witnesses: rules stated whole -/

theorem witness_UnassignedAddresses : base.up = true ∧ base.hears = true ∧ lookup (0x00FF : Word).toNat = none ∧
    lookup (0x7FFF : Word).toNat = none ∧ hdrBad 0x2000 = false ∧ hdrWords 0x2000 = 1 ∧
    field 0x2000 15 13 = 1 ∧ field 0x6000 15 13 = 3 ∧ hdrBad 0x6000 = false ∧ hdrWords 0x6000 = 1 := by decide +kernel

theorem witness_WholeImageReplacesBanks : (loading stagedWhole false).up = true ∧
    (loading stagedWhole false).img.load = some stagedWhole ∧ stagedWhole.staged = some (.whole anImage) ∧
    (loading stagedWhole false).anyArmed = false := by decide +kernel

/-- The factory strap is set. -/
def factory (s : State) : State := s.modLands (fun l => { l with bootsel := 3 })

theorem witness_FactoryStrapLoadsNothing : (factory base).up = true ∧ (factory base).lands.bootsel = 3 ∧
    (factory base).classBusy 0 = false ∧ (factory base).hears = true ∧
    (factory base).legal A.OP_CMD (w16 (256 * opIMAGE_LOAD)) = true ∧ ((factory base).ops.slots[(0 : Fin 8)]).st = .free ∧
    (factory base).firstOf 0 = none ∧
    (let s := slotWith (anOp .queued opIMAGE_LOAD) [0] (factory base);
      s.classBusy 0 = false ∧ (s.ops.slots[(0 : Fin 8)]).st = .queued ∧ (s.ops.slots[(0 : Fin 8)]).op = opIMAGE_LOAD ∧
      s.firstOf 0 = some (0 : Fin 8).val) ∧
    (let s := (inReset startRST true).modLands (fun l => { l with strapBoot := 3, strapOpen := 4 });
      s.lands.inReset = true ∧ s.lands.strapBoot = 3 ∧ s.lands.strapOpen.toNat % 4 = 0 ∧ s.img.load = none) := by decide +kernel

theorem witness_PendingStageReplaced : (running false).up = true ∧ (running false).hears = true ∧
    (running false).legal A.PWM_LOADALL_LO 1 = true ∧ (0 : Fin 24) ∈ wordTimers false 1 ∧ (running false).timOn 0 = true ∧ ((running false).tim[(0 : Fin 24)]).stage.isSome = true := by
  decide +kernel

theorem witness_CancelledEntries : (scheduled .fired).up = true ∧ (scheduled .fired).hears = true ∧
    (scheduled .fired).fusOn = true ∧ (mapGet (scheduled .fired).sched.q (3 : Fin 256).val).isSome = true := by decide +kernel

theorem witness_HostMarks : base.up = true ∧ base.hears = true ∧ (w16 (A.REC_MARK 1)).toNat = A.REC_MARK 1 ∧
    (w16 (A.REC_MARK 0)).toNat = A.REC_MARK 0 ∧
    bit ((base.wr A.EVT_REC_0 0x1000).rd A.EVT_REC_0) 12 = true := by decide +kernel

theorem witness_RecorderAtCorePowerOn : (handing .backup 5 0 true (some 9980000)).pwr.dwell = some 9980000 ∧
    9980000 + 20000 ≤ (handing .backup 5 0 true (some 9980000)).clk.ticks ∧
    (handing .backup 5 0 true (some 9980000)).pwr.st = .backup := by decide +kernel

theorem witness_LoadWindowBytes : base.up = true ∧ base.hears = true ∧ (8191 : Nat) < 8192 ∧
    (0x9FFF : Word).toNat = 0x8000 + 8191 ∧ (7 : Nat) = field ((base.wr A.IMG_PAGE 7).rd A.IMG_PAGE) 2 0 ∧
    base.windowLocked = false := by decide +kernel

end Sys2Proof.Tests
end

section
/-! SUPPORT. Host accesses to an address that no chapter assigns (R38), and the one-word read frame of R121 on which the
statement about them rests. -/
namespace Sys2Proof.Proofs
open Sys2Proof.Machine

/-! ### Host commands that are heard -/

theorem whenHost_of_hears {s : State} (hup : s.up = true) (hears : s.hears = true) (f : State → State) :
    s.whenHost f = f s := by
  simp [State.whenHost, hup, hears]

/-! ### Read frames (R117, R121) -/

/-- One word never passes the end of the address space (R122). -/
@[simp] theorem passesEnd_oneWord (fixed : Bool) (a : Word) : passesEnd fixed a 1 = false := by
  cases fixed with
  | true => rfl
  | false =>
    have := a.isLt
    simp [passesEnd]
    omega

@[simp] theorem wordAddr_zero (fixed : Bool) (a : Word) : wordAddr fixed a 0 = a.toNat := by
  cases fixed <;> rfl

/-- A header of READ or READ_FIXED makes its frame the read frame of that form (Table HOST-2). -/
theorem spiFrame_of_readHeader {fixed : Bool} {hdr : Word} (hop : field hdr 15 13 = if fixed then 3 else 1)
    (t : Nat) (a : Word) (body : List Word) (words : Nat) (s : State) :
    spiFrame t hdr a body words s = readFrame fixed hdr a words s := by
  cases fixed <;> simp_all [spiFrame, hdrFixed]

theorem exec_readFrame {fixed : Bool} {hdr : Word} {s : State} (hup : s.up = true) (hears : s.hears = true)
    (hop : field hdr 15 13 = if fixed then 3 else 1) (a : Word) (words : Nat) :
    exec (if fixed then .readFixed hdr a words else .read hdr a words) s = .next (readFrame fixed hdr a words s) := by
  cases fixed
  · change execRead hdr a words s = _
    rw [execRead, whenHost_of_hears hup hears, spiFrame_of_readHeader hop]
  · change execReadFixed hdr a words s = _
    rw [execReadFixed, whenHost_of_hears hup hears, spiFrame_of_readHeader hop]

/-- The whole frame of one data word: what `readAt` answers stands between the two front words with their zero word and
the CRC. -/
theorem readFrame_oneWord {hdr : Word} (hgood : hdrBad hdr = false) (hone : hdrWords hdr = 1) (fixed : Bool) (a : Word)
    {s u : State} {w : Word} (hread : s.took.readAt s.sampleAt a.toNat = (u, w)) :
    readFrame fixed hdr a 5 s = u.setMiso [s.statusWord, s.summaryWord, 0, w, crc16 [hdr, a, w]] := by
  simp [readFrame, hgood, hone, State.readAll, hread, onMiso]

/-! ### Addresses that no chapter assigns (R38) -/

section Unassigned
variable {a : Nat} (hnone : lookup a = none)
include hnone

theorem shown_of_unassigned (s : State) (t : Nat) : s.shown t a = 0 := by
  simp [State.shown, hnone]

theorem readAt_of_unassigned (s : State) (t : Nat) : s.readAt t a = (s, 0) := by
  simp [State.readAt, hnone]

/-- No interlock bars the write and no value of it is a host error. -/
theorem write_of_unassigned_allowed (s : State) (d : Word) : s.barred a = false ∧ s.legal a d = true := by
  simp [State.barred, State.legal, hnone]

theorem writeWord_of_unassigned (s : State) (t : Nat) (d : Word) : s.writeWord t a d = s := by
  obtain ⟨hfree, hlegal⟩ := write_of_unassigned_allowed hnone s d
  have hstore : s.writeLegal t a d = s := by simp [State.writeLegal, hnone]
  have hclash : ampClash t a d s = s := by simp [ampClash, hnone]
  simp [State.writeWord, hfree, hlegal, hstore, hclash]

end Unassigned

/-- Settles O53: the three accesses of the host all end in `lookup`, which finds no register at the address. -/
theorem unassignedAddresses : Obligations.UnassignedAddresses := by
  intro s at' a d hup hears hnone
  refine ⟨?write, ?latchRead, fun t => shown_of_unassigned hnone s t, ?readFrame⟩
  case write =>
    change execRegisterWrite at' a d s = _
    rw [execRegisterWrite, whenHost_of_hears hup hears, writeWord_of_unassigned hnone]
  case latchRead =>
    change execMultiwordLatchRead a s = _
    rw [execMultiwordLatchRead, whenHost_of_hears hup hears, readAt_of_unassigned hnone]
  case readFrame =>
    intro fixed hdr hop hgood hone
    rw [exec_readFrame hup hears hop,
      readFrame_oneWord hgood hone fixed a (readAt_of_unassigned hnone s.took s.sampleAt)]
    rfl

end Sys2Proof.Proofs
end

section
/-! SUPPORT. A legal host write of a CORE word that starts an operation of its own, and the bytes of the load window (R81). -/
namespace Sys2Proof.Proofs
open Sys2Proof.Machine

/-! ### Legal writes of CORE words -/

section CoreWord
variable {s : State} {a : Nat} {row : RegRow} {ix : List Nat} (hrow : lookup a = some (row, ix))
include hrow

theorem not_barred (hwd : row.reg ≠ .SAFE_WDCFG) (harm : row.reg ≠ .BANK_ARM) : s.barred a = false := by
  simp [State.barred, hrow]

theorem ampClash_eq_self (hcmd : row.reg ≠ .AX_CMD) (t : Nat) (d : Word) : ampClash t a d s = s := by
  simp [ampClash, hrow, hcmd]

theorem writeLegal_core (hcore : domOfAddr a = none) (hlow : higher row.reg ix = false) (t : Nat) (d : Word) :
    s.writeLegal t a d = s.writeCore t a d row.reg ix row.fields := by
  simp [State.writeLegal, State.addrOn, hrow, hcore, hlow]

/-- A legal write of a CORE word that no interlock guards is the operation of its register (R14, R22). -/
theorem writeWord_core {d : Word} (hwd : row.reg ≠ .SAFE_WDCFG) (harm : row.reg ≠ .BANK_ARM) (hcmd : row.reg ≠ .AX_CMD)
    (hcore : domOfAddr a = none) (hlow : higher row.reg ix = false) (hlegal : s.legal a d = true) (t : Nat) :
    s.writeWord t a d = s.writeCore t a d row.reg ix row.fields := by
  simp [State.writeWord, not_barred hrow hwd harm, hlegal, ampClash_eq_self hrow hcmd,
    writeLegal_core hrow hcore hlow]

end CoreWord

/-! ### The words of the load window (R81) -/

/-- The row of the load window's words. -/
def windowRow : RegRow := ⟨.IMG_WINDOW, 0x8000, [(8192, 1)], 0x0000, [fld 15 0 .WO]⟩

theorem windowRow_reg : windowRow.reg = .IMG_WINDOW := rfl

/-- Every value of a window word is legal: its one field fills the word. -/
theorem legalBits_window (s : State) (a : Nat) (d : Word) : s.legalBits a windowRow.fields d = true := by
  have hmask : reservedBits windowRow.fields = 0 := by decide
  have hrange : field d 15 0 ≤ 65535 := by simp only [field]; omega
  simp [State.legalBits, hmask]
  simp [windowRow, fld, State.writable, Fld.inRange, hrange]

section Window
variable {n : Nat} (hn : n < 8192)
include hn

theorem blkOf_window : blkOf (0x8000 + n) = .win := Laws.blkOf_win (by omega) (by omega)

theorem windowRow_idx : windowRow.idx (0x8000 + n) = some [n] := by
  have hge : ¬ 0x8000 + n < windowRow.base := Nat.not_lt.2 (Nat.le_add_right ..)
  have hoff : 0x8000 + n - windowRow.base = n := Nat.add_sub_cancel_left ..
  have hdims : windowRow.dims = [(8192, 1)] := rfl
  rw [RegRow.idx, if_neg hge, hoff, hdims, dimIdx, Nat.div_one, if_pos hn, Nat.mod_one]
  rfl

theorem lookup_window : lookup (0x8000 + n) = some (windowRow, [n]) := by
  rw [lookup, blkOf_window hn]
  change findRow [windowRow] (0x8000 + n) = _
  rw [findRow, windowRow_idx hn]

theorem shown_window (s : State) (t : Nat) : s.shown t (0x8000 + n) = 0 := by
  simp [State.shown, lookup_window hn, windowRow, readMask, fld]

theorem legal_window {s : State} (hopen : s.windowLocked = false) (d : Word) : s.legal (0x8000 + n) d = true := by
  have hbits := legalBits_window s (0x8000 + n) d
  simp [State.legal, lookup_window hn, hbits, blkOf_window hn, windowRow_reg, wordOk, State.legalNow, hopen]

/-- A write of a window word, while no load from the window is queued or running, stores its two bytes (Table IMG-10). -/
theorem writeWord_window {s : State} (hopen : s.windowLocked = false) (t : Nat) (d : Word) :
    s.writeWord t (0x8000 + n) d = winWrite n d s :=
  writeWord_core (lookup_window hn) nofun nofun nofun (by rw [domOfAddr, blkOf_window hn]) rfl
    (legal_window hn hopen d) t

end Window

/-- The two bytes that a word stores, the lower first, and every other byte as before. -/
theorem cellRd_storedWord (m : List Host.Cell) (a : Nat) (d : Word) :
    cellRd 0 (cellWrs 0 m a (leBytes 2 d.toNat)) a = d.setWidth 8 ∧
      cellRd 0 (cellWrs 0 m a (leBytes 2 d.toNat)) (a + 1) = (d >>> 8).setWidth 8 ∧
      ∀ x, x ≠ a → x ≠ a + 1 → cellRd 0 (cellWrs 0 m a (leBytes 2 d.toNat)) x = cellRd 0 m x := by
  have hlow := Laws.cellRd_cellWrs_of_in 0 (leBytes 2 d.toNat) m a 0 (by simp [leBytes])
  have hhigh := Laws.cellRd_cellWrs_of_in 0 (leBytes 2 d.toNat) m a 1 (by simp [leBytes])
  refine ⟨hlow.trans ?low, hhigh.trans ?high, fun x hx hx' =>
    Laws.cellRd_cellWrs_of_out 0 (leBytes 2 d.toNat) m a x (by simp [leBytes]; omega)⟩
  case low => apply BitVec.eq_of_toNat_eq; simp [leBytes]
  case high => apply BitVec.eq_of_toNat_eq; simp [leBytes, Nat.shiftRight_eq_div_pow]

/-- Settles O54: the address names the window's one row, so the write is `winWrite`, which stores the word's two bytes. -/
theorem loadWindowBytes : Obligations.LoadWindowBytes := by
  intro s at' a d n hup hears hn ha
  rw [ha]
  refine ⟨shown_window hn s, fun p hp => ⟨?inImage, fun hopen => ⟨winWrite n d s, ?write, ?bytes⟩⟩⟩
  case inImage =>
    have : p < 8 := by rw [hp, field]; omega
    omega
  case write =>
    change execRegisterWrite at' a d s = _
    rw [execRegisterWrite, whenHost_of_hears hup hears, ha, writeWord_window hn hopen]
  case bytes =>
    obtain ⟨hlow, hhigh, hrest⟩ := cellRd_storedWord s.img.window (16384 * p + 2 * n) d
    subst hp
    exact ⟨hlow, hhigh, hrest, rfl⟩

end Sys2Proof.Proofs
end

section
/-! SUPPORT. What stands after the swap of a whole image (R73, R76): the image's configuration is the active one, and no bank
image and no bank tag stands. -/
namespace Sys2Proof.Proofs
open Sys2Proof.Machine Sys2Proof.Safety Sys2Proof.Laws

/-- The whole image `c` is active and no bank image stands beside it (R76). -/
structure WholeOnly (c : ImageCfg) (s : State) : Prop where
  active : s.img.active = some c
  noBankImg : s.img.bankImg = 0
  noTag : ∀ b : Fin 8, s.rd (A.IMG_BANKTAG b.val) = 0

/-- What a swap may change once the image stands: the structure and bank registers, the engines, the clock, the operations and
the recorder, but neither the image nor a bank tag. -/
def swapTail : Parts :=
  recording
    { regs := [.SYS_DDP, .SYS_PINALT, .SYS_SLOTMAP, .SYS_HBMAP01, .SYS_HBMAP2, .GATE_IDRV_HS, .GATE_IDRV_LS,
        .GATE_BSTUVCNT, .GATE_FLT]
      blks := [.bank], clk := true, ops := true, tim := true, hb := true, bank := true }

theorem swapTail_has {r : Reg} (h : r ∈ swapTail.regs) : swapTail.Has r := has_of_mem h

theorem swapTail_records : MayRecord swapTail := mayRecord_recording _

theorem swapTail_raises : MayRaise swapTail := mayRaise_raising _

theorem bankTag_not_in_swapTail (b : Fin 8) : swapTail.covers (A.IMG_BANKTAG b.val) = false := by
  revert b; decide +kernel

theorem ilMask_bankTag (b : Fin 8) : ilMask (A.IMG_BANKTAG b.val) = 0 := by
  revert b; decide +kernel

namespace WholeOnly
variable {c : ImageCfg} {s t : State}

/-- A step within `swapTail` leaves a whole image alone. -/
theorem of_frame (hs : WholeOnly c s) (hframe : forget swapTail t = forget swapTail s) : WholeOnly c t := by
  have honly := only_of_forget hframe
  have himg := honly.img rfl
  exact ⟨by rw [himg, hs.active], by rw [himg, hs.noBankImg],
    fun b => by rw [honly.regs _ (bankTag_not_in_swapTail b), hs.noTag b]⟩

theorem each {α : Type} {f : State → α → State} (hf : ∀ {s x}, WholeOnly c s → WholeOnly c (f s x)) (l : List α) :
    ∀ {s}, WholeOnly c s → WholeOnly c (s.each l f) := by
  induction l with
  | nil => exact fun hs => hs
  | cons x xs ih => exact fun hs => ih (hf hs)

/-! ### The steps of a swap -/

/-- An IL word takes its image value where it has IL fields only; a bank tag has none (R66). -/
theorem takePreset (hs : WholeOnly c s) (p : Nat × Word) : WholeOnly c (s.takePreset p) where
  active := hs.active
  noBankImg := hs.noBankImg
  noTag b := by
    rw [State.takePreset, rd_wr]
    split
    · next h => simp [← h, hs.noTag b, ilMask_bankTag b]
    · exact hs.noTag b

theorem showBank (hs : WholeOnly c s) (b : Fin 8) (k : BankCfg) : WholeOnly c (s.showBank b k) :=
  hs.of_frame (showBank_forget _ _ _ _ (swapTail_has (by decide)) (swapTail_has (by decide)) (swapTail_has (by decide)))

theorem bankValues (hs : WholeOnly c s) (b : Fin 8) (ps : List (Nat × Word)) : WholeOnly c (s.bankValues b ps) := by
  have hclear : WholeOnly c (s.clearRange (bankBase b) (bankBase b + 0x400)) :=
    hs.of_frame (clearRange_forget _ _ _ _ fun a hlo hhi =>
      covers_blk (blkOf_bank (by unfold bankBase at hlo; omega) (by unfold bankBase at hhi; omega)) (by decide))
  exact (WholeOnly.each (fun h => h.takePreset _) ps hclear).of_frame
    (leastSteps_forget _ _ _ (swapTail_has (by decide)) (swapTail_has (by decide)))

theorem redrive (hs : WholeOnly c s) (t : Nat) (b : Fin 8) : WholeOnly c ((s.loadSteps b).redriveBank t b) :=
  (hs.of_frame (loadSteps_forget _ _ _ rfl)).of_frame (redriveBank_forget _ _ _ _ swapTail_raises rfl rfl rfl
    (swapTail_has (by decide)) (swapTail_has (by decide)))

theorem raise (hs : WholeOnly c s) {e : EvName} (he : e.src < 128) (d0 d1 : Word) : WholeOnly c (s.raise e d0 d1) :=
  hs.of_frame (raise_forget _ _ _ _ _ he swapTail_raises)

/-- The recorder is cleared where the image changes its partition (R73). -/
theorem clearRecorder (hs : WholeOnly c s) (f : Recorder → Recorder) :
    WholeOnly c ((s.thaw .swap).flushDue.modRcd f) :=
  ((hs.of_frame (thaw_forget _ _ _ swapTail_records)).of_frame (flushDue_forget _ _ swapTail_records)).of_frame
    (modRcd_forget_recs _ _ _ rfl rfl)

theorem bootFallback (hs : WholeOnly c s) (l : Load) : WholeOnly c (s.bootFallback l) :=
  hs.of_frame (bootFallback_forget _ _ _ swapTail_raises)

/-- The end of a load takes away the load and leaves the image. -/
theorem endLoad (hs : WholeOnly c s) : WholeOnly c s.endLoad := ⟨hs.active, hs.noBankImg, hs.noTag⟩

theorem doneLoad (hs : WholeOnly c s) (l : Load) : WholeOnly c (s.doneLoad l) := by
  unfold State.doneLoad
  dsimp only
  split
  · exact hs.endLoad
  · exact ((hs.endLoad.of_frame (publishFinal_forget _ _ _ _ _ rfl)).of_frame
      (publishFinal_forget _ _ _ _ _ rfl)).of_frame (endSlot_forget _ _ _ _ _ swapTail_raises rfl)

end WholeOnly

/-! ### The swap -/

theorem wrs_img (l : List Word) : ∀ (s : State) (a : Nat), (s.wrs a l).img = s.img := by
  induction l with
  | nil => exact fun _ _ => rfl
  | cons v vs ih => exact fun s a => ih (s.wr a v) (a + 1)

/-- The words of a stretch that is set to one value read that value. -/
theorem rd_wrs_replicate (v : Word) : ∀ (n : Nat) (s : State) (a k : Nat), k < n →
    (s.wrs a (List.replicate n v)).rd (a + k) = v := by
  intro n
  induction n with
  | zero => exact fun s a k hk => absurd hk (Nat.not_lt_zero k)
  | succ n ih =>
    intro s a k hk
    rw [List.replicate_succ, State.wrs]
    cases k with
    | zero => rw [rd_wrs _ _ _ _ (by omega)]; simp
    | succ k => rw [show a + (k + 1) = a + 1 + k by omega]; exact ih _ _ _ (by omega)

/-- The tags are cleared with the identity of the image, once its configuration is the active one (R75, R76). -/
theorem showImage_wholeOnly {c : ImageCfg} {s : State} (hactive : s.img.active = some c) (hnone : s.img.bankImg = 0) :
    WholeOnly c (s.showImage c) := by
  have htags : ∀ u : State, u.img = s.img → WholeOnly c (u.wrs (A.IMG_BANKTAG 0) (List.replicate 8 0)) := fun u hu =>
    ⟨by rw [wrs_img, hu, hactive], by rw [wrs_img, hu, hnone], fun b => rd_wrs_replicate 0 8 u _ _ b.isLt⟩
  refine WholeOnly.each (fun h => h.showBank _ _) _ ?_
  refine WholeOnly.of_frame (WholeOnly.of_frame (htags _ ?_) (wr_forget _ _ _ _ ?_)) (wr_forget _ _ _ _ ?_)
  · simp only [State.wrQ, wrs_img]
  · exact cov_SYS_DDP (swapTail_has (by decide))
  · exact cov_SYS_PINALT (swapTail_has (by decide))

/-- A swapped-in image is the active one, and no bank image stands beside it (R73, R76). -/
theorem wholeSwap_wholeOnly (s : State) (c : ImageCfg) (src : Nat) (fallback : Bool) :
    WholeOnly c (s.wholeSwap c src fallback) := by
  unfold State.wholeSwap
  extract_lets t s₁ s₂ s₃ s₄ s₅ s₆ clear s₇
  have h₃ : WholeOnly c s₃ := showImage_wholeOnly rfl rfl
  have h₄ : WholeOnly c s₄ := WholeOnly.each (fun h => h.bankValues _ _) _ h₃
  have h₅ : WholeOnly c s₅ :=
    (WholeOnly.each (fun h => h.takePreset _) _ h₄).of_frame (ppsAtSwap_forget _ _ rfl)
  have h₆ : WholeOnly c s₆ := WholeOnly.each (fun h => h.redrive _ _) _ h₅
  have h₇ : WholeOnly c s₇ := by
    unfold s₇
    split
    · exact h₆.clearRecorder _
    · exact h₆
  exact (h₇.of_frame (raiseDomSw_forget _ _ _ swapTail_raises)).raise (by decide) _ _

/-- Settles O55: with no bank armed the staged image is swapped in, and what follows in the swap tick writes neither the
image nor a bank tag. -/
theorem wholeImageReplacesBanks : Obligations.WholeImageReplacesBanks := by
  intro s l c hup hload hstaged hdisarmed
  have hexec : exec .wholeImageSwap s = .next (wholeImageSwap l c s) := by
    change execWholeImageSwap s = _
    simp [execWholeImageSwap, State.whenUp, hup, hload, hstaged]
  have hwhole : WholeOnly c (wholeImageSwap l c s) := by
    rw [wholeImageSwap, hdisarmed]
    exact ((wholeSwap_wholeOnly s c _ _).bootFallback l).doneLoad l
  exact ⟨_, hexec, hwhole.active, hwhole.noBankImg, hwhole.noTag⟩

end Sys2Proof.Proofs
end

section
/-! SUPPORT. IMAGE_LOAD under the factory strap (R83): its doorbell, its turn, and its end FAILED with code FORMAT; and the
release from reset, which begins no boot load. -/
namespace Sys2Proof.Proofs
open Sys2Proof.Machine Sys2Proof.Safety Sys2Proof.Laws

/-! ### The end of an operation (R138, R139) -/

section EndSlot
variable (s : State) (i : Fin 8) (st : OpState) (fail : Nat)

@[simp] theorem endSlot_img : (s.endSlot i st fail).img = s.img := by simp [State.endSlot]

theorem endSlot_rd (a : Nat) (h : Apart a) : (s.endSlot i st fail).rd a = s.rd a := by
  rw [State.endSlot, raise_rd _ _ _ _ (by decide) _ h]
  simp

@[simp] theorem endSlot_st : ((s.endSlot i st fail).ops.slots[i]).st = st := by
  simp [State.endSlot, State.modSlot]

@[simp] theorem endSlot_fail : ((s.endSlot i st fail).ops.slots[i]).fail = fail := by
  simp [State.endSlot, State.modSlot]

end EndSlot

/-! ### A rejected image (R86) -/

section ImgReject
variable (s : State) (src code : Nat)

@[simp] theorem imgReject_img : (s.imgReject src code).img = s.img := by simp [State.imgReject]

theorem imgReject_rd : (s.imgReject src code).rd A.IMG_REJECT = w16 (src * 256 + code) := by
  rw [State.imgReject, raise_rd _ _ _ _ (by decide) _ (by decide)]
  simp

theorem imgReject_code (h : code < 256) : field ((s.imgReject src code).rd A.IMG_REJECT) 7 0 = code := by
  rw [imgReject_rd]
  simp only [field, w16, BitVec.toNat_ofNat]
  omega

end ImgReject

/-- The IMAGE_LOAD of slot `i` has ended FAILED with code FORMAT and no load has begun (R83, R86). -/
structure FormatRefused (i : Fin 8) (s t : State) : Prop where
  failed : (t.ops.slots[i]).st = .failed
  rejected : (t.ops.slots[i]).fail = failREJECTED
  format : field (t.rd A.IMG_REJECT) 7 0 = 0x02
  sameImg : t.img = s.img

theorem beginOp_factory {s : State} {i : Fin 8} (hop : (s.ops.slots[i]).op = opIMAGE_LOAD) (hboot : s.lands.bootsel = 3) :
    FormatRefused i s (s.beginOp i) := by
  simp only [State.beginOp, hop, if_true, modSlot_lands, modOps_lands, hboot]
  exact ⟨endSlot_st .., endSlot_fail ..,
    by rw [endSlot_rd _ _ _ _ _ (by decide), imgReject_code _ _ _ (by decide)], by simp⟩

/-- No precondition bars IMAGE_LOAD (R135). -/
theorem opReady_imageLoad (s : State) {x : OpSlot} (hop : x.op = opIMAGE_LOAD) : s.opReady x = true := by
  rw [State.opReady, hop]; rfl

/-- A queued IMAGE_LOAD whose turn it is ends at once under the factory strap (R83, R137). -/
theorem opStart_factory {s : State} {i : Fin 8} (hqueued : (s.ops.slots[i]).st = .queued)
    (hop : (s.ops.slots[i]).op = opIMAGE_LOAD) (hidle : s.classBusy 0 = false) (hturn : s.firstOf 0 = some i.val)
    (hboot : s.lands.bootsel = 3) : FormatRefused i s (opStart i s) := by
  have hclass : opClass (s.ops.slots[i]).op = 0 := by rw [hop]; rfl
  have hstart : opStart i s = s.beginOp i := by
    simp only [opStart, hclass, hqueued, hidle, hturn, State.startOp, opReady_imageLoad s hop, and_self, if_true]
  rw [hstart]
  exact beginOp_factory hop hboot

/-! ### The doorbell (R136, R137) -/

/-- The slot that a doorbell fills. -/
def newSlot (s : State) (op : Nat) : OpSlot :=
  { OpSlot.reset with
    st := .queued, op := op, gen := s.ops.gen, since := s.clk.ticks
    params := if op = opIMAGE_LOAD then s.opParams ++ [s.rd A.IMG_LDCTL] else s.opParams }

@[simp] theorem newSlot_op (s : State) (op : Nat) : (newSlot s op).op = op := rfl

@[simp] theorem newSlot_st (s : State) (op : Nat) : (newSlot s op).st = .queued := rfl

/-- The state in which a doorbell that fills slot `i` asks for its start. -/
def enqueued (s : State) (op : Nat) (i : Fin 8) : State :=
  ((s.modSlot i (fun _ => newSlot s op)).modOps
    (fun o => { o with gen := (s.ops.gen + 1) % 32, order := o.order ++ [i.val] })).wr A.OP_TICKET
      (w16 (0x4000 + (newSlot s op).ticket i))

/-- A doorbell takes the lowest free slot and asks for its start (R136, R137). -/
theorem doorbell_lowestFree {s : State} {op : Nat} {i : Fin 8} (hop : opCodes.contains op = true)
    (hfree : (s.ops.slots[i]).st = .free) (hlowest : ∀ j : Fin 8, j < i → (s.ops.slots[j]).st ≠ .free) :
    doorbell op s = opStart i (enqueued s op i) := by
  have hfind : allSlots.find? (fun j => s.ops.slots[j].st == .free) = some i :=
    List.find?_eq_some_iff_getElem.2 ⟨by simpa using hfree, i.val, by simp [allSlots], by simp [allSlots],
      fun j hj => by simpa [allSlots] using hlowest ⟨j, by omega⟩ hj⟩
  simp only [doorbell, hop, if_true, hfind]
  rfl

section Enqueued
variable (s : State) (op : Nat) (i : Fin 8)

theorem enqueued_slot : (enqueued s op i).ops.slots[i] = newSlot s op := by
  simp [enqueued, State.modSlot]

theorem enqueued_otherSlot {j : Fin 8} (h : j ≠ i) : (enqueued s op i).ops.slots[j] = s.ops.slots[j] := by
  have : i.val ≠ j.val := fun c => h (Fin.ext c.symm)
  simp [enqueued, State.modSlot, this]

theorem enqueued_order : (enqueued s op i).ops.order = s.ops.order ++ [i.val] := rfl

variable {s op i}

/-- A queued slot occupies no class (R137). -/
theorem enqueued_classIdle {c : Nat} (hidle : s.classBusy c = false) : (enqueued s op i).classBusy c = false := by
  simp only [State.classBusy, Bool.or_eq_false_iff, List.any_eq_false] at hidle ⊢
  refine ⟨hidle.1, fun j hj => ?_⟩
  by_cases h : j = i
  · subst h
    rw [enqueued_slot]
    simp [OpState.active]
  · rw [enqueued_otherSlot s op i h]
    exact hidle.2 j hj

/-- With no slot of its class queued before it, a slot is the first of its class. -/
theorem enqueued_first (hnone : s.firstOf (opClass op) = none) : (enqueued s op i).firstOf (opClass op) = some i.val := by
  rw [State.firstOf, List.find?_eq_none] at hnone
  rw [State.firstOf, enqueued_order, List.find?_append]
  cases hfind : s.ops.order.find? _ with
  | none => simpa using congrArg (fun x => opClass x.op) (enqueued_slot s op i)
  | some n =>
    have hn : n = i.val := by
      refine Decidable.byContradiction fun hne => ?_
      have hclass := List.find?_some hfind
      have hold := hnone n (List.mem_of_find?_eq_some hfind)
      split at hclass
      · next hlt =>
        rw [enqueued_otherSlot s op i (fun c => hne (congrArg Fin.val c))] at hclass
        exact hold (by rw [dif_pos hlt]; exact hclass)
      · contradiction
    simp [hn]

end Enqueued

/-! ### The write of OP_CMD -/

/-- A legal doorbell of IMAGE_LOAD writes OP_CMD, whose operation is the doorbell (R136). -/
theorem ring_imageLoad {s : State} (hup : s.up = true) (hears : s.hears = true)
    (hlegal : s.legal A.OP_CMD (w16 (256 * opIMAGE_LOAD)) = true) : s.ring opIMAGE_LOAD = doorbell opIMAGE_LOAD s := by
  have hrow : lookup A.OP_CMD = some (⟨.OP_CMD, 0x0218, [], 0x0000, [fld 15 8 .WO]⟩, []) := by decide
  rw [State.ring, State.hostWord, State.hostWordAt, whenHost_of_hears hup hears,
    writeWord_core hrow nofun nofun nofun (by decide) rfl hlegal]
  rfl

theorem doorbell_factory {s : State} {i : Fin 8} (hboot : s.lands.bootsel = 3) (hidle : s.classBusy 0 = false)
    (hfree : (s.ops.slots[i]).st = .free) (hlowest : ∀ j : Fin 8, j < i → (s.ops.slots[j]).st ≠ .free)
    (hnone : s.firstOf 0 = none) : FormatRefused i s (doorbell opIMAGE_LOAD s) := by
  rw [doorbell_lowestFree (by decide) hfree hlowest]
  have hstart : FormatRefused i (enqueued s opIMAGE_LOAD i) (opStart i (enqueued s opIMAGE_LOAD i)) :=
    opStart_factory (by rw [enqueued_slot, newSlot_st]) (by rw [enqueued_slot, newSlot_op]) (enqueued_classIdle hidle)
      (enqueued_first hnone) hboot
  exact ⟨hstart.failed, hstart.rejected, hstart.format, hstart.sameImg⟩

/-! ### The release from reset (R479, R481, R483) -/

/-- What a release may change beside the lands and the image. -/
def releaseRest : Parts := recording { everything with img := false, win := false }

theorem releaseRest_blks (b : Blk) : b ∈ releaseRest.blks := by cases b <;> decide

theorem releaseRest_covers (a : Nat) : releaseRest.covers a = true := covers_all releaseRest_blks a

theorem releaseRest_has (r : Reg) : releaseRest.Has r := has_all releaseRest_blks r

theorem releaseRest_records : MayRecord releaseRest := mayRecord_recording _

theorem releaseRest_raises : MayRaise releaseRest := mayRaise_raising _

theorem frame_img_lands {s t : State} (hframe : forget releaseRest t = forget releaseRest s) :
    t.img = s.img ∧ t.lands = s.lands :=
  ⟨(only_of_forget hframe).img rfl, (only_of_forget hframe).lands rfl⟩

/-- The engines start anew, and a load ends with them (R483). -/
theorem resetEngines_img_lands (s : State) : (s.resetEngines).img.load = none ∧
    (s.resetEngines).img.active = s.img.active ∧ (s.resetEngines).lands = s.lands := by
  unfold State.resetEngines
  extract_lets s₁ s₂ s₃ s₄
  obtain ⟨himg, hlands⟩ := frame_img_lands (each_forget releaseRest (fun s b => s.resetBank b) allBanks
    (fun s b => resetBank_forget _ s b rfl rfl rfl rfl) s₄)
  rw [himg, hlands]
  simp [s₄, s₃, s₂, s₁]

/-- A strap that is held in its window is read at its level (R480). -/
theorem strapRead_held {s : State} {k : Nat} (h : s.lands.strapOpen.getLsbD k = false) (level : Bool) :
    s.strapRead k level = level := by
  simp [State.strapRead, h]

theorem readStraps_factory {s : State} (hboot : s.lands.strapBoot = 3) (hheld : s.lands.strapOpen.toNat % 4 = 0) :
    s.readStraps.lands.bootsel = 3 := by
  have hbits : ∀ x : BitVec 3, x.toNat % 4 = 0 → x.getLsbD 0 = false ∧ x.getLsbD 1 = false := by decide
  obtain ⟨h0, h1⟩ := hbits _ hheld
  simp [State.readStraps, strapRead_held h0, strapRead_held h1, hboot, natBit, b2n]

theorem readStraps_img (s : State) : s.readStraps.img = s.img := by simp [State.readStraps]

/-- Every start reads the straps and leaves the image alone (R479). -/
theorem announce_factory {s : State} (kind : Nat) (hboot : s.lands.strapBoot = 3)
    (hheld : s.lands.strapOpen.toNat % 4 = 0) :
    (s.announce kind).img = s.img ∧ (s.announce kind).lands.bootsel = 3 := by
  unfold State.announce
  extract_lets s₁ s₂ l s₃ s₄
  have hthaw : forget releaseRest s₁ = forget releaseRest s :=
    (thaw_forget _ _ _ releaseRest_records).trans (clearRange_forget _ _ _ _ fun a _ _ => releaseRest_covers a)
  obtain ⟨himg, hlands⟩ := frame_img_lands hthaw
  have hstraps := readStraps_factory (s := s₁) (by rw [hlands, hboot]) (by rw [hlands, hheld])
  simp [s₄, s₃, s₂, hstraps, readStraps_img, himg]

/-- A release under the factory strap starts no boot load and keeps the active image (R83, R89). -/
theorem release_factory {s : State} (kind : Nat) (hboot : s.lands.strapBoot = 3)
    (hheld : s.lands.strapOpen.toNat % 4 = 0) :
    (s.release' kind).img.load = none ∧ (s.release' kind).img.active = s.img.active := by
  unfold State.release'
  extract_lets s₁ s₂
  have hregs := frame_img_lands (resetRegs_forget releaseRest s releaseRest_blks)
  obtain ⟨hload, hactive, hlands⟩ := resetEngines_img_lands s.resetRegs
  have hcount : forget releaseRest s₂ = forget releaseRest s.resetRegs.resetEngines := by
    have hrole := resetRole_forget releaseRest s.resetRegs.resetEngines rfl
    unfold s₂
    split
    · exact (satInc_forget _ _ _ (releaseRest_covers _)).trans hrole
    · exact hrole
  obtain ⟨himg₂, hlands₂⟩ := frame_img_lands hcount
  have hl₂ : s₂.lands = s.lands := by rw [hlands₂, hlands, hregs.2]
  obtain ⟨himg, hbootsel⟩ := announce_factory (s := s₂) kind (by rw [hl₂, hboot]) (by rw [hl₂, hheld])
  obtain ⟨himgS, hlandsS⟩ := frame_img_lands (resetSafety_forget releaseRest (s₂.announce kind) releaseRest_raises rfl rfl
    rfl rfl rfl rfl (releaseRest_has _) (releaseRest_has _) (releaseRest_has _) (releaseRest_has _) (releaseRest_has _))
  have hnoBoot : (s₂.announce kind).resetSafety.boot = (s₂.announce kind).resetSafety := by
    simp [State.boot, hlandsS, hbootsel]
  rw [hnoBoot, himgS, himg, himg₂]
  exact ⟨hload, hactive.trans (by rw [hregs.1])⟩

theorem resetRelease_factory {s : State} (hboot : s.lands.strapBoot = 3) (hheld : s.lands.strapOpen.toNat % 4 = 0)
    (hload : s.img.load = none) :
    (resetRelease s).img.load = none ∧ (resetRelease s).img.active = s.img.active := by
  have hrelease := release_factory (s := s) s.lands.start hboot hheld
  have hrestored := frame_img_lands
    (restored_forget releaseRest (s.release' s.lands.start) releaseRest_raises (releaseRest_has _) (releaseRest_has _))
  unfold resetRelease
  dsimp only
  split
  · split
    · rw [hrestored.1]; exact hrelease
    · exact hrelease
  · exact ⟨hload, rfl⟩

/-- Settles O56: a doorbell and a turn both come to `beginOp`, which rejects the image with FORMAT, and the release reads
the straps before it would begin the boot load. -/
theorem factoryStrapLoadsNothing : Obligations.FactoryStrapLoadsNothing := by
  refine ⟨fun s i hup hboot hidle => ⟨?doorbell, ?turn⟩, ?release⟩
  case doorbell =>
    intro hears hlegal hfree hlowest hnone
    obtain ⟨hfailed, hrejected, hformat, himg⟩ := doorbell_factory hboot hidle hfree hlowest hnone
    refine ⟨doorbell opIMAGE_LOAD s, ?_, hfailed, hrejected, hformat, himg⟩
    change execImageLoad s = _
    rw [execImageLoad, ring_imageLoad hup hears hlegal]
  case turn =>
    intro hqueued hop hturn
    obtain ⟨hfailed, hrejected, hformat, himg⟩ := opStart_factory hqueued hop hidle hturn hboot
    refine ⟨opStart i s, ?_, hfailed, hrejected, hformat, himg⟩
    change execOpStart i s = _
    simp [execOpStart, State.whenUp, hup]
  case release =>
    intro s _ hboot hheld hload
    exact ⟨resetRelease s, rfl, resetRelease_factory hboot hheld hload⟩

end Sys2Proof.Proofs
end

section
/-! SUPPORT. Arming timers by a PWM_LOADALL word (R157, R158, R160): what one arm changes, that it leaves every other timer
alone, and what the whole word does to a timer whose stage is pending. -/
namespace Sys2Proof.Proofs
open Sys2Proof.Machine Sys2Proof.Safety Sys2Proof.Laws

/-! ### The words of a timer block (Table PWM-8) -/

/-- The words of a timer block lie outside the event, recorder and store blocks. -/
theorem timAddr_apart (k : Fin 24) (j : Nat) : Apart (timAddr k j) := by
  simp only [timAddr, A.PWM_CTL]; omega

/-- The blocks of two timers have no word in common. -/
theorem timAddr_ne {k x : Fin 24} (h : k ≠ x) {i j : Nat} (hi : i < 0x40) (hj : j < 0x40) : timAddr k i ≠ timAddr x j := by
  have : k.val ≠ x.val := fun c => h (Fin.ext c)
  simp only [timAddr, A.PWM_CTL, axBank, axSlot]; omega

/-! ### One arm (R157, R160) -/

section Arm
variable (s : State) (a : Nat) (x : Fin 24)

/-- The timer with its shadows staged at PWM clock `a` (R157). -/
def armedTimer : Timer := { s.tim[x] with stage := some ⟨a, s.shadows x, !srcAxis (s.tim[x]).act⟩ }

theorem armTimer_off (hoff : s.timOn x = false) : s.armTimer a x = s := by simp [State.armTimer, hoff]

/-- An arm of a timer without a stage only stages the shadows (R157). -/
theorem armTimer_first (hon : s.timOn x = true) (hnone : (s.tim[x]).stage = none) :
    s.armTimer a x = s.modTim x (fun _ => armedTimer s a x) := by
  simp only [State.armTimer, hon, if_true, hnone]
  rfl

/-- An arm of a timer with a stage also counts and reports (R160). -/
theorem armTimer_pending (hon : s.timOn x = true) (hpending : (s.tim[x]).stage.isSome = true) :
    s.armTimer a x = ((s.modTim x (fun _ => armedTimer s a x)).satInc (timAddr x 0x12)).raise (evARM_REPLACED (axBank x))
      (w16 (256 + x.val)) 0 := by
  obtain ⟨_, hold⟩ := Option.isSome_iff_exists.1 hpending
  simp only [State.armTimer, hon, if_true, hold]
  rfl

/-- The new stage stands, the arm is counted and ARM_REPLACED is raised (R160). -/
theorem armTimer_replaces (hon : s.timOn x = true) (hpending : (s.tim[x]).stage.isSome = true) :
    (s.armTimer a x).tim[x] = armedTimer s a x ∧
      (s.armTimer a x).rd (timAddr x 0x12) = w16 (satU ((s.rd (timAddr x 0x12)).toNat + 1)) ∧
      eventBit (s.armTimer a x) (evARM_REPLACED (axBank x)) = true := by
  rw [armTimer_pending s a x hon hpending, raise_rd _ _ _ _ (evARM_REPLACED_lt _) _ (timAddr_apart x _)]
  exact ⟨by simp [State.satInc], by simp [State.satInc], raise_self _ _ _ _⟩

end Arm

/-! ### Arms of other timers -/

/-- Timer `k`, the words of its block and its bank's supply are the same in both states. -/
structure TimerKept (k : Fin 24) (s t : State) : Prop where
  tim : t.tim[k] = s.tim[k]
  words : ∀ j < 0x40, t.rd (timAddr k j) = s.rd (timAddr k j)
  supply : t.timOn k = s.timOn k

namespace TimerKept
variable {k : Fin 24} {s t u : State}

theorem refl (k : Fin 24) (s : State) : TimerKept k s s := ⟨rfl, fun _ _ => rfl, rfl⟩

theorem trans (h : TimerKept k s t) (h' : TimerKept k t u) : TimerKept k s u :=
  ⟨h'.tim.trans h.tim, fun j hj => (h'.words j hj).trans (h.words j hj), h'.supply.trans h.supply⟩

theorem shadows (h : TimerKept k s t) : t.shadows k = s.shadows k :=
  List.map_congr_left fun j hj => h.words j (Nat.lt_trans (List.mem_range.1 hj) (by decide))

theorem armedTimer (h : TimerKept k s t) (a : Nat) : armedTimer t a k = armedTimer s a k := by
  simp only [Proofs.armedTimer, h.tim, h.shadows]

theorem modTim {x : Fin 24} (hne : k ≠ x) (s : State) (f : Timer → Timer) : TimerKept k s (s.modTim x f) := by
  have : x.val ≠ k.val := fun c => hne (Fin.ext c.symm)
  exact ⟨by simp [this], fun _ _ => rfl, rfl⟩

theorem countArm {x : Fin 24} (hne : k ≠ x) (s : State) : TimerKept k s (s.satInc (timAddr x 0x12)) :=
  ⟨rfl, fun _ hj => satInc_rd _ _ _ (timAddr_ne hne hj (by decide)), rfl⟩

theorem raise (k : Fin 24) (s : State) {e : EvName} (he : e.src < 128) (d0 d1 : Word) : TimerKept k s (s.raise e d0 d1) :=
  ⟨by simp, fun j _ => raise_rd _ _ _ _ he _ (timAddr_apart k j), by simp [State.timOn, State.dom]⟩

/-- An arm leaves every other timer alone (R157). -/
theorem armTimer {x : Fin 24} (hne : k ≠ x) (s : State) (a : Nat) : TimerKept k s (s.armTimer a x) := by
  cases hon : s.timOn x with
  | false => rw [armTimer_off s a x hon]; exact refl k s
  | true =>
    cases hstage : (s.tim[x]).stage with
    | none => rw [armTimer_first s a x hon hstage]; exact modTim hne s _
    | some _ =>
      rw [armTimer_pending s a x hon (by rw [hstage]; rfl)]
      exact ((modTim hne s _).trans (countArm hne _)).trans (raise k _ (evARM_REPLACED_lt _) _ _)

theorem armEach (a : Nat) {l : List (Fin 24)} (hnot : k ∉ l) (s : State) :
    TimerKept k s (s.each l fun s x => s.armTimer a x) := by
  induction l generalizing s with
  | nil => exact refl k s
  | cons x xs ih =>
    obtain ⟨hne, hrest⟩ := not_or.1 (mt List.mem_cons.2 hnot)
    exact (armTimer hne s a).trans (ih hrest _)

end TimerKept

/-! ### The PWM_LOADALL word (R157) -/

theorem wordTimers_nodup (hi : Bool) (d : Word) : (wordTimers hi d).Nodup := (List.nodup_finRange 24).filter _

/-- A timer that a word names is armed once, between the arms of other timers (R157). -/
theorem loadAll_split {hi : Bool} {d : Word} {k : Fin 24} (hk : k ∈ wordTimers hi d) (a : Nat) (s : State) :
    ∃ before, TimerKept k s before ∧ TimerKept k (before.armTimer a k) (loadAll a hi d s) ∧
      Rings (before.armTimer a k) (loadAll a hi d s) := by
  obtain ⟨lower, higher, hsplit⟩ := List.append_of_mem hk
  have hnodup := wordTimers_nodup hi d
  rw [hsplit, List.nodup_append, List.nodup_cons] at hnodup
  obtain ⟨-, ⟨hhigher, -⟩, hapart⟩ := hnodup
  have hlower : k ∉ lower := fun hmem => hapart k hmem k List.mem_cons_self rfl
  have hrun : loadAll a hi d s = (((s.each lower fun s x => s.armTimer a x).armTimer a k).each higher
      fun s x => s.armTimer a x) := by
    simp only [loadAll, hsplit, State.each, List.foldl_append, List.foldl_cons]
  rw [hrun]
  exact ⟨_, .armEach a hlower s, .armEach a hhigher _, each_rings (fun _ _ h => armTimer_rings h) (Rings.refl _)⟩

/-- A legal PWM_LOADALL word that is heard arms the timers it names (R157). -/
theorem exec_loadAll {s : State} {hi : Bool} {d : Word} (hup : s.up = true) (hears : s.hears = true)
    (hlegal : s.legal (if hi then A.PWM_LOADALL_HI else A.PWM_LOADALL_LO) d = true) (at' : Fin 200) :
    exec (.loadAll at' hi d) s = .next (loadAll (s.clkAt at') hi d s) := by
  change execLoadAll at' hi d s = _
  rw [execLoadAll, State.hostWordAt, whenHost_of_hears hup hears]
  cases hi with
  | false =>
    have hrow : lookup A.PWM_LOADALL_LO = some (⟨.PWM_LOADALL_LO, 0x0080, [], 0x0000, [fld 15 0 .WO]⟩, []) := by decide
    rw [if_neg (by decide), writeWord_core hrow nofun nofun nofun (by decide) rfl hlegal]
    rfl
  | true =>
    have hrow : lookup A.PWM_LOADALL_HI = some (⟨.PWM_LOADALL_HI, 0x0081, [], 0x0000, [fld 7 0 .WO]⟩, []) := by decide
    rw [if_pos rfl, writeWord_core hrow nofun nofun nofun (by decide) rfl hlegal]
    rfl

/-- Settles O57: the arms before and after its own in the word keep the timer and its words, and a raised event stays. -/
theorem pendingStageReplaced : Obligations.PendingStageReplaced := by
  intro s at' hi d k hup hears hk hlegal hon hpending
  obtain ⟨before, hbefore, hafter, hrings⟩ := loadAll_split hk (s.clkAt at') s
  obtain ⟨hstaged, hcounted, hraised⟩ := armTimer_replaces before (s.clkAt at') k (hbefore.supply.trans hon)
    (by rw [hbefore.tim, hpending])
  refine ⟨_, exec_loadAll hup hears hlegal at', ?_, ?_, hrings.event (evARM_REPLACED_lt _) hraised⟩
  · rw [hafter.tim, hstaged, hbefore.armedTimer]
    rfl
  · rw [hafter.words 0x12 (by decide), hcounted, hbefore.words 0x12 (by decide)]

end Sys2Proof.Proofs
end

section
/-! SUPPORT. The cancel of schedule entries (R309): what is left of the queue, and that nothing outside the schedule moves. -/
namespace Sys2Proof.Proofs
open Sys2Proof.Machine Sys2Proof.Laws

/-! ### The queue after a cancel -/

/-- The removal is conditional on an entry at `i`, but an index that is free already reads `none`: one equation serves both. -/
theorem mapGet_schCancel (i j : Nat) (s : State) :
    mapGet (schCancel i s).sched.q j = if j = i then none else mapGet s.sched.q j := by
  unfold schCancel
  split
  case isTrue => exact mapGet_mapDel s.sched.q i j
  case isFalse hfree =>
    split
    next hij => rw [hij, ← Option.not_isSome_iff_eq_none]; exact hfree
    next => rfl

@[simp] theorem mapGet_schCancel_same (i : Nat) (s : State) : mapGet (schCancel i s).sched.q i = none := by
  rw [mapGet_schCancel, if_pos rfl]

theorem mapGet_schCancel_of_ne {i j : Nat} (hji : j ≠ i) (s : State) :
    mapGet (schCancel i s).sched.q j = mapGet s.sched.q j := by
  rw [mapGet_schCancel, if_neg hji]

@[simp] theorem clearQueue_q (s : State) : s.clearQueue.sched.q = [] := rfl

/-! ### What a cancel leaves alone -/

theorem schCancel_eq_withSched (i : Nat) (s : State) : schCancel i s = { s with sched := (schCancel i s).sched } := by
  unfold schCancel
  split <;> rfl

theorem clearQueue_eq_withSched (s : State) : s.clearQueue = { s with sched := s.clearQueue.sched } := rfl

/-! ### The commands, heard while the schedule's domain is on -/

theorem exec_schCancel {s : State} (hup : s.up = true) (hears : s.hears = true) (hfus : s.fusOn = true) (i : Fin 256) :
    exec (.schCancel i) s = .next (schCancel i.val s) := by
  change execSchCancel i s = _
  rw [execSchCancel, whenHost_of_hears hup hears, if_pos hfus]

theorem exec_schCancelAll {s : State} (hup : s.up = true) (hears : s.hears = true) (hfus : s.fusOn = true) :
    exec .schCancelAll s = .next s.clearQueue := by
  change execSchCancelAll s = _
  rw [execSchCancelAll, whenHost_of_hears hup hears, if_pos hfus]

/-- Settles O58: a heard cancel removes the entry from the queue, or empties it, and touches the schedule alone. -/
theorem cancelledEntries : Obligations.CancelledEntries := by
  intro s hup hears hfus
  constructor
  · intro i
    exact ⟨_, exec_schCancel hup hears hfus i, mapGet_schCancel_same i s, fun _ hji => mapGet_schCancel_of_ne hji s,
      schCancel_eq_withSched i s⟩
  · exact ⟨_, exec_schCancelAll hup hears hfus, clearQueue_q s, clearQueue_eq_withSched s⟩

end Sys2Proof.Proofs
end

section
/-! SUPPORT. The recorder after a CORE power-on (R362, R378): what follows its reset in the release raises events, whose records
become due, and writes neither a slot nor the hold FIFO nor a counter of the recorder. -/
namespace Sys2Proof.Proofs
open Sys2Proof.Machine Sys2Proof.Safety Sys2Proof.Laws

/-! ### A recorder to which nothing but due records is added -/

/-- The recorder is `r`, but for the raisings whose record is due (R344, R355). -/
def RecorderBut (r : Recorder) (s : State) : Prop := s.rcd = { r with due := s.rcd.due }

/-- Every part but the recorder. -/
def besidesRecorder : Parts := { everything with fresh := true, store := true, lands := true, mem := true }

theorem besidesRecorder_all (b : Blk) : b ∈ besidesRecorder.blks := by cases b <;> decide

/-- A raising adds at most its record to those that are due (R344). -/
theorem raise_rcd (s : State) (e : EvName) (d0 d1 : Word) :
    (s.raise e d0 d1).rcd = { s.rcd with due := (s.raise e d0 d1).rcd.due } := by
  unfold State.raise State.raiseAt
  dsimp only
  split <;> rfl

theorem clearRange_rcd (s : State) (lo hi : Nat) : (s.clearRange lo hi).rcd = s.rcd := rfl

/-- Without a freeze there is none to end (R353). -/
theorem thaw_rcd {s : State} {c : ThawCause} (hfrozen : s.rcd.frozen = false) (hpend : s.rcd.freezePend = false) :
    (s.thaw c).rcd = s.rcd :=
  calc (s.thaw c).rcd = { s.rcd with freezePend := false } := by simp [State.thaw, hfrozen]
    _ = s.rcd := by rw [← hpend]

namespace RecorderBut
variable {r : Recorder} {s t : State}

theorem of_rcd_eq (hs : RecorderBut r s) (hrcd : t.rcd = s.rcd) : RecorderBut r t := by
  rw [RecorderBut, hrcd]; exact hs

theorem of_frame (hs : RecorderBut r s) (hframe : forget besidesRecorder t = forget besidesRecorder s) : RecorderBut r t :=
  hs.of_rcd_eq ((only_of_forget hframe).rcd rfl)

theorem each {α : Type} {f : State → α → State} (hf : ∀ {u x}, RecorderBut r u → RecorderBut r (f u x)) {l : List α} :
    ∀ {s}, RecorderBut r s → RecorderBut r (s.each l f) := by
  induction l with
  | nil => exact fun hs => hs
  | cons x xs ih => exact fun hs => ih (hf hs)

theorem raise {e : EvName} {d0 d1 : Word} (hs : RecorderBut r s) : RecorderBut r (s.raise e d0 d1) := by
  rw [RecorderBut, raise_rcd, hs]

/-! ### Half-bridges and their commands -/

theorem bstBlock {h : Fin 72} (hs : RecorderBut r s) : RecorderBut r (s.bstBlock h) := by
  unfold State.bstBlock
  dsimp only
  split
  · exact hs.of_rcd_eq rfl
  · exact .raise (hs.of_rcd_eq rfl)

theorem urge {t : Nat} {h : Fin 72} (hs : RecorderBut r s) : RecorderBut r (s.urge t h) := by
  refine .each (fun {u side} hu => ?_) hs
  dsimp only
  split
  · exact hu.of_frame (turnOff_forget _ _ _ _ _ _ rfl rfl)
  · exact hu

theorem redrive {t : Nat} {h : Fin 72} (hs : RecorderBut r s) : RecorderBut r (s.redrive t h) := by
  unfold State.redrive
  extract_lets blocked
  have hblocked : RecorderBut r blocked := by
    unfold blocked
    split
    · split
      · split
        · exact hs
        · exact hs.bstBlock
      · exact hs.of_rcd_eq rfl
    · exact hs
  split
  next row c _ =>
    extract_lets marked
    have hmarked : RecorderBut r marked := by
      unfold marked
      split
      · exact hblocked.of_frame (markAbove_forget _ _ _ rfl)
      · exact hblocked
    split
    · split
      · exact hmarked.urge
      · exact hmarked
    · exact hmarked.of_frame (deliver_forget _ _ _ _ _ _ rfl rfl)

theorem redriveBank {t : Nat} {b : Fin 8} (hs : RecorderBut r s) : RecorderBut r (s.redriveBank t b) := .each .redrive hs

theorem reRow2 {f : State → State} {t : Nat} {hbs : List (Fin 72)} (hf : RecorderBut r (f s)) :
    RecorderBut r (s.reRow2 t hbs f) :=
  .each .redrive (.each (fun hu => hu.of_frame (release_forget _ _ _ _ rfl)) hf)

/-! ### Causes of a bank, and the active shorts that they begin or end -/

theorem loseAsc {a : Fin 24} (hs : RecorderBut r s) : RecorderBut r (s.loseAsc a) := by
  unfold State.loseAsc
  exact .raise (hs.of_rcd_eq rfl)

theorem countCut {h : Fin 72} (hs : RecorderBut r s) : RecorderBut r (s.countCut h) := by
  unfold State.countCut
  split
  · exact hs.bstBlock
  · exact hs

theorem ascSupply {a : Fin 24} (hs : RecorderBut r s) : RecorderBut r (s.ascSupply a) := by
  unfold State.ascSupply
  split
  · exact (RecorderBut.each .countCut hs).loseAsc
  · exact hs

theorem sideFor {a : Fin 24} {before : Bool} (hs : RecorderBut r s) : RecorderBut r (s.sideFor a before) := by
  unfold State.sideFor
  split
  · split
    · exact hs
    · exact .ascSupply (hs.of_rcd_eq rfl)
  · exact hs.of_rcd_eq rfl

theorem bankCause {t : Nat} {b : Fin 8} {f : Bank → Bank} (hs : RecorderBut r s) : RecorderBut r (s.bankCause t b f) := by
  unfold State.bankCause
  exact .reRow2 (.each .sideFor (hs.of_rcd_eq rfl))

/-! ### Ends of operations, stops of axes and disarms -/

theorem endSlot {i : Fin 8} {st : OpState} {fail : Nat} (hs : RecorderBut r s) : RecorderBut r (s.endSlot i st fail) := by
  unfold State.endSlot
  exact .raise (hs.of_rcd_eq rfl)

theorem interrupt {i : Fin 8} (hs : RecorderBut r s) : RecorderBut r (s.interrupt i) := by
  unfold State.interrupt
  split
  · exact hs.endSlot
  · exact hs.endSlot

theorem failOp {op : Nat} (hs : RecorderBut r s) : RecorderBut r (s.failOp op) := by
  unfold State.failOp
  split
  · exact hs
  · exact hs.interrupt

theorem cutShuntCal {b : Fin 8} (hs : RecorderBut r s) : RecorderBut r (s.cutShuntCal b) := by
  unfold State.cutShuntCal
  split
  · exact hs
  · split
    · exact hs
    · exact hs.interrupt

theorem toStopped {a : Fin 24} {c : AxCause} (hs : RecorderBut r s) : RecorderBut r (s.toStopped a c) := by
  unfold State.toStopped
  dsimp only
  split
  · exact hs.of_rcd_eq rfl
  · exact hs.of_rcd_eq rfl
  · exact .raise (hs.of_rcd_eq rfl)

theorem stopAxis {a : Fin 24} {c : AxCause} (hs : RecorderBut r s) : RecorderBut r (s.stopAxis a c) := by
  unfold State.stopAxis
  split
  · exact hs
  · dsimp only
    split
    · exact hs.failOp.toStopped
    · exact hs.toStopped

theorem raiseArm {b : Fin 8} (hs : RecorderBut r s) : RecorderBut r (s.raiseArm b) := hs.raise

theorem disarm {t : Nat} {b : Fin 8} {cause : Nat} {stop : AxCause} (hs : RecorderBut r s) :
    RecorderBut r (s.disarm t b cause stop) := by
  have hstopped : RecorderBut r ((s.each (axesOf b) fun s a => s.stopAxis a stop).cutShuntCal b) :=
    (RecorderBut.each .stopAxis hs).cutShuntCal
  unfold State.disarm
  dsimp only
  split
  · exact .redriveBank (.raiseArm (hstopped.of_rcd_eq (modBank_rcd ..)))
  · exact hstopped

theorem estop {t : Nat} (hs : RecorderBut r s) : RecorderBut r (estop t s) := by
  unfold Machine.estop
  split
  · exact hs
  · exact .each (fun hu => (RecorderBut.each .stopAxis hu).bankCause.disarm) (.raise (hs.of_rcd_eq rfl))

/-! ### The release (R362, R479, R481) -/

theorem resetSafety (hs : RecorderBut r s) : RecorderBut r s.resetSafety := by
  unfold State.resetSafety
  extract_lets low supervisor enables cleared
  have hcleared : RecorderBut r cleared := .each .bankCause (hs.of_rcd_eq rfl)
  split
  · exact hcleared.estop
  · exact hcleared

/-- Of a start's announcement a recorder that is not frozen sees the event RESET alone (R353, R479). -/
theorem announce {kind : Nat} (hs : RecorderBut r s) (hfrozen : r.frozen = false) (hpend : r.freezePend = false) :
    RecorderBut r (s.announce kind) := by
  have hthaw : RecorderBut r ((s.clearRange 0x0400 0x0600).thaw .reset) :=
    hs.of_rcd_eq (thaw_rcd (by rw [clearRange_rcd, hs]; exact hfrozen) (by rw [clearRange_rcd, hs]; exact hpend))
  unfold State.announce
  exact .raise (hthaw.of_rcd_eq rfl)

theorem boot (hs : RecorderBut r s) : RecorderBut r s.boot := hs.of_frame (boot_forget _ _ rfl)

theorem release' {kind : Nat} (hs : RecorderBut r s) (hfrozen : r.frozen = false) (hpend : r.freezePend = false) :
    RecorderBut r (s.release' kind) := by
  have hreset : RecorderBut r s.resetRegs.resetEngines.resetRole :=
    ((hs.of_frame (resetRegs_forget _ _ besidesRecorder_all)).of_frame
      (resetEngines_forget _ _ rfl rfl rfl rfl rfl rfl rfl rfl rfl rfl rfl rfl)).of_frame (resetRole_forget _ _ rfl)
  unfold State.release'
  dsimp only
  split
  · exact ((hreset.of_rcd_eq (wr_rcd ..)).announce hfrozen hpend).resetSafety.boot
  · exact (hreset.announce hfrozen hpend).resetSafety.boot

theorem restored (hs : RecorderBut r s) : RecorderBut r s.restored := by
  unfold State.restored
  split
  · exact .raise (hs.of_rcd_eq rfl)
  · exact hs

end RecorderBut

/-- A CORE power-on resets the recorder, and its release only raises events (R362, R378). -/
theorem corePowerOn_recorder (s : State) : RecorderBut Recorder.reset s.corePowerOn := by
  unfold State.corePowerOn
  extract_lets started
  have hstarted : RecorderBut Recorder.reset started := rfl
  split
  · exact (hstarted.release' rfl rfl).restored
  · exact hstarted

/-- An AON power-on gives the recorder its reset state, whatever a cut burst or key programming leaves elsewhere (R113, R362). -/
theorem aonPowerOn_recorder (v : Bool) (x : Straps) (s : State) : ((aonPowerOn v s).strapped x).rcd = Recorder.reset := rfl

/-- A dwell that has run its 20 ms in BACKUP powers CORE on (R375, R378). -/
theorem exec_dwellComplete_backup {s : State} {d : Nat} (hdwell : s.pwr.dwell = some d) (hlong : d + 20000 ≤ s.clk.ticks)
    (hbackup : s.pwr.st = .backup) : exec .dwellComplete s = .next s.corePowerOn := by
  change execDwellComplete s = _
  simp [execDwellComplete, State.dwelt, hdwell, hlong, hbackup]

/-- Settles O60: CORE's power-on from BACKUP resets the recorder and then only raises events; AON's gives it its reset state. -/
theorem recorderAtCorePowerOn : Obligations.RecorderAtCorePowerOn := by
  intro s
  constructor
  · intro d hdwell hlong hbackup
    refine ⟨_, exec_dwellComplete_backup hdwell hlong hbackup, ?_⟩
    rw [corePowerOn_recorder s]
    exact ⟨rfl, rfl, rfl, rfl, rfl⟩
  · intro x
    refine ⟨_, rfl, ?_⟩
    rw [aonPowerOn_recorder]
    exact ⟨rfl, rfl, rfl, rfl, rfl⟩

end Sys2Proof.Proofs
end

section
/-! SUPPORT. The frame of every command: each completes and changes at most what `mayChange` lists for it. -/
namespace Sys2Proof.Proofs
open Sys2Proof.Machine Sys2Proof.Safety Sys2Proof.Laws

/-- Every command completes (notes/assumptions/2.md). -/
theorem exec_completes (i : Instr) (s : State) : ∃ t, exec i s = .next t := by
  cases i <;> exact ⟨_, rfl⟩

theorem mem_allBlocks (b : Blk) : b ∈ allBlocks := by cases b <;> decide

theorem has_of_listed {P : Parts} {r : Reg} (h : decide (r ∈ P.regs ∨ P.blks = allBlocks) = true) : P.Has r := by
  rcases of_decide_eq_true h with hmem | hall
  · exact has_of_mem hmem
  · exact has_all (by rw [hall]; exact mem_allBlocks) r

/-- What an AON power-on may change: everything but the queue. -/
abbrev aonReach : Parts := recording { everything with lands := true, mem := true }

theorem aonPowerOn_forget (v : Bool) (s : State) : forget aonReach (aonPowerOn v s) = forget aonReach s := by
  have hregs (l : List (Nat × Word)) : l.filter (fun p => !aonReach.covers p.1) = [] := by
    simp [covers_all (P := aonReach) mem_allBlocks]
  simp only [forget, hregs]
  rfl

theorem execAonPowerOn_forget {x : PowerOn} {s t : State} (h' : execAonPowerOn x s = .next t) :
    forget aonReach t = forget aonReach s := by
  injection h' with h'
  rw [← h', strapped_forget _ _ _ rfl, aonPowerOn_forget, keyCut_forget _ _ rfl rfl (has_all mem_allBlocks _),
    storeCut_forget _ _ rfl rfl rfl]

theorem exec_forget {i : Instr} {s t : State} (h : exec i s = .next t) :
    forget (mayChange i) t = forget (mayChange i) s := by
  cases i
  case' registerWrite => apply execRegisterWrite_forget (h' := h)
  case' multiwordLatchRead => apply execMultiwordLatchRead_forget (h' := h)
  case' nop => apply execNop_forget (h' := h)
  case' read => apply execRead_forget (h' := h)
  case' readFixed => apply execReadFixed_forget (h' := h)
  case' write => apply execWrite_forget (h' := h)
  case' writeFixed => apply execWriteFixed_forget (h' := h)
  case' spiHeaderTruncated => apply execSpiHeaderTruncated_forget (h' := h)
  case' tick => apply execTick_forget (h' := h)
  case' internalSecondBoundary => apply execInternalSecondBoundary_forget (h' := h)
  case' ppsEdge => apply execPpsEdge_forget (h' := h)
  case' ppsTimeout => apply execPpsTimeout_forget (h' := h)
  case' timeApply => apply execTimeApply_forget (h' := h)
  case' relock => apply execRelock_forget (h' := h)
  case' timeSnapshotRead => apply execTimeSnapshotRead_forget (h' := h)
  case' timeTbRead => apply execTimeTbRead_forget (h' := h)
  case' monitorWindowEnd => apply execMonitorWindowEnd_forget (h' := h)
  case' pllUnlock => apply execPllUnlock_forget (h' := h)
  case' tickRestore => apply execTickRestore_forget (h' := h)
  case' imageLoad => apply execImageLoad_forget (h' := h)
  case' opUnknownCode => apply execOpUnknownCode_forget (h' := h)
  case' imageVerifyDone => apply execImageVerifyDone_forget (h' := h)
  case' wholeImageSwap => apply execWholeImageSwap_forget (h' := h)
  case' bankImageSwap => apply execBankImageSwap_forget (h' := h)
  case' slotWriteBurst => apply execSlotWriteBurst_forget (h' := h)
  case' imgKeydataWrite => apply execImgKeydataWrite_forget (h' := h)
  case' keyCmdArm => apply execKeyCmdArm_forget (h' := h)
  case' keyCmdProgram => apply execKeyCmdProgram_forget (h' := h)
  case' keyProgramDone => apply execKeyProgramDone_forget (h' := h)
  case' shuntCal => apply execShuntCal_forget (h' := h)
  case' dlineCal => apply execDlineCal_forget (h' := h)
  case' selfTest => apply execSelfTest_forget (h' := h)
  case' motorId => apply execMotorId_forget (h' := h)
  case' compact => apply execCompact_forget (h' := h)
  case' opStart => apply execOpStart_forget (h' := h)
  case' opPartial => apply execOpPartial_forget (h' := h)
  case' opEnd => apply execOpEnd_forget (h' := h)
  case' opTimeout => apply execOpTimeout_forget (h' := h)
  case' opRelease => apply execOpRelease_forget (h' := h)
  case' opAbort => apply execOpAbort_forget (h' := h)
  case' canRx => apply execCanRx_forget (h' := h)
  case' canTxreq => apply execCanTxreq_forget (h' := h)
  case' canTxDone => apply execCanTxDone_forget (h' := h)
  case' canTxFail => apply execCanTxFail_forget (h' := h)
  case' canTxabort => apply execCanTxabort_forget (h' := h)
  case' canErrorStateChange => apply execCanErrorStateChange_forget (h' := h)
  case' canBusoffRecovery => apply execCanBusoffRecovery_forget (h' := h)
  case' loadAll => apply execLoadAll_forget (h' := h)
  case' timerStart => apply execTimerStart_forget (h' := h)
  case' timerStop => apply execTimerStop_forget (h' := h)
  case' startEdge => apply execStartEdge_forget (h' := h)
  case' timerWrap => apply execTimerWrap_forget (h' := h)
  case' compareMatch => apply execCompareMatch_forget (h' := h)
  case' triggerCompare => apply execTriggerCompare_forget (h' := h)
  case' refreshPulseEnd => apply execRefreshPulseEnd_forget (h' := h)
  case' dlcCalCycle => apply execDlcCalCycle_forget (h' := h)
  case' commandChange => apply execCommandChange_forget (h' := h)
  case' turnOnStart => apply execTurnOnStart_forget (h' := h)
  case' gateOffSensed => apply execGateOffSensed_forget (h' := h)
  case' tgminExpiry => apply execTgminExpiry_forget (h' := h)
  case' gateStuck => apply execGateStuck_forget (h' := h)
  case' gateFgn => apply execGateFgn_forget (h' := h)
  case' floatEntry => apply execFloatEntry_forget (h' := h)
  case' floatOutputDisable => apply execFloatOutputDisable_forget (h' := h)
  case' floatExitHoldEnd => apply execFloatExitHoldEnd_forget (h' := h)
  case' vdrvUv => apply execVdrvUv_forget (h' := h)
  case' vcpUv => apply execVcpUv_forget (h' := h)
  case' bstUv => apply execBstUv_forget (h' := h)
  case' supplyRise => apply execSupplyRise_forget (h' := h)
  case' gsupFltClear => apply execGsupFltClear_forget (h' := h)
  case' ddpInputEdge => apply execDdpInputEdge_forget (h' := h)
  case' dsblExpiry => apply execDsblExpiry_forget (h' := h)
  case' desat => apply execDesat_forget (h' := h)
  case' hardShortArm => apply execHardShortArm_forget (h' := h)
  case' hardShort => apply execHardShort_forget (h' := h)
  case' plateau => apply execPlateau_forget (h' := h)
  case' protChfltClear => apply execProtChfltClear_forget (h' := h)
  case' tripRecognised => apply execTripRecognised_forget (h' := h)
  case' tripRelease => apply execTripRelease_forget (h' := h)
  case' blankWindowEnd => apply execBlankWindowEnd_forget (h' := h)
  case' currentLimitTrip => apply execCurrentLimitTrip_forget (h' := h)
  case' chopperOn => apply execChopperOn_forget (h' := h)
  case' chopperOff => apply execChopperOff_forget (h' := h)
  case' vov2 => apply execVov2_forget (h' := h)
  case' chopLong => apply execChopLong_forget (h' := h)
  case' ots => apply execOts_forget (h' := h)
  case' protBfltClear => apply execProtBfltClear_forget (h' := h)
  case' estop => apply execEstop_forget (h' := h)
  case' estopRelease => apply execEstopRelease_forget (h' := h)
  case' engineStep => apply execEngineStep_forget (h' := h)
  case' converterStart => apply execConverterStart_forget (h' := h)
  case' conversionDone => apply execConversionDone_forget (h' := h)
  case' hallEdge => apply execHallEdge_forget (h' := h)
  case' encoderEdge => apply execEncoderEdge_forget (h' := h)
  case' axisStart => apply execAxisStart_forget (h' := h)
  case' axisStop => apply execAxisStop_forget (h' := h)
  case' axisCoast => apply execAxisCoast_forget (h' := h)
  case' axisStallClear => apply execAxisStallClear_forget (h' := h)
  case' alignDone => apply execAlignDone_forget (h' := h)
  case' retryWaitEnd => apply execRetryWaitEnd_forget (h' := h)
  case' stallDetected => apply execStallDetected_forget (h' := h)
  case' wheelCount => apply execWheelCount_forget (h' := h)
  case' gnssSentence => apply execGnssSentence_forget (h' := h)
  case' imuTrigger => apply execImuTrigger_forget (h' := h)
  case' imuSeqDone => apply execImuSeqDone_forget (h' := h)
  case' sentFrame => apply execSentFrame_forget (h' := h)
  case' hostInject => apply execHostInject_forget (h' := h)
  case' fusionPublication => apply execFusionPublication_forget (h' := h)
  case' scheduleCommit => apply execScheduleCommit_forget (h' := h)
  case' scheduleFire => apply execScheduleFire_forget (h' := h)
  case' schedLateFire => apply execSchedLateFire_forget (h' := h)
  case' scheduleInsert => apply execScheduleInsert_forget (h' := h)
  case' schSectOn => apply execSchSectOn_forget (h' := h)
  case' schSectOff => apply execSchSectOff_forget (h' := h)
  case' schSectRate => apply execSchSectRate_forget (h' := h)
  case' schCancel => apply execSchCancel_forget (h' := h)
  case' schCancelAll => apply execSchCancelAll_forget (h' := h)
  case' seedEdge => apply execSeedEdge_forget (h' := h)
  case' associationEpochClose => apply execAssociationEpochClose_forget (h' := h)
  case' solveStart => apply execSolveStart_forget (h' := h)
  case' solveDone => apply execSolveDone_forget (h' := h)
  case' solverStoreCleared => apply execSolverStoreCleared_forget (h' := h)
  case' solClrCounters => apply execSolClrCounters_forget (h' := h)
  case' solClrWindow => apply execSolClrWindow_forget (h' := h)
  case' evtStatClear => apply execEvtStatClear_forget (h' := h)
  case' recordWrite => apply execRecordWrite_forget (h' := h)
  case' recorderFreeze => apply execRecorderFreeze_forget (h' := h)
  case' recorderThaw => apply execRecorderThaw_forget (h' := h)
  case' freezeTimeout => apply execFreezeTimeout_forget (h' := h)
  case' holdFifoDrain => apply execHoldFifoDrain_forget (h' := h)
  case' recClr => apply execRecClr_forget (h' := h)
  case' hostMark => apply execHostMark_forget (h' := h)
  case' vmainFail => apply execVmainFail_forget (h' := h)
  case' handoverStep => apply execHandoverStep_forget (h' := h)
  case' criticalWindowEnd => apply execCriticalWindowEnd_forget (h' := h)
  case' flushEnd => apply execFlushEnd_forget (h' := h)
  case' vmainOkRise => apply execVmainOkRise_forget (h' := h)
  case' vmainBounce => apply execVmainBounce_forget (h' := h)
  case' dwellComplete => apply execDwellComplete_forget (h' := h)
  case' vbakMinLoss => apply execVbakMinLoss_forget (h' := h)
  case' bankHoldEnd => apply execBankHoldEnd_forget (h' := h)
  case' aonPowerOn => apply execAonPowerOn_forget (h' := h)
  case' storeMountDone => apply execStoreMountDone_forget (h' := h)
  case' domainSwitchOn => apply execDomainSwitchOn_forget (h' := h)
  case' domainSwitchOff => apply execDomainSwitchOff_forget (h' := h)
  case' domainStart => apply execDomainStart_forget (h' := h)
  case' domainReady => apply execDomainReady_forget (h' := h)
  case' energyEstimate => apply execEnergyEstimate_forget (h' := h)
  case' vioUv => apply execVioUv_forget (h' := h)
  case' storeWrite => apply execStoreWrite_forget (h' := h)
  case' storeDelete => apply execStoreDelete_forget (h' := h)
  case' storeRead => apply execStoreRead_forget (h' := h)
  case' storeReadDone => apply execStoreReadDone_forget (h' := h)
  case' storeAppend => apply execStoreAppend_forget (h' := h)
  case' programBurstDone => apply execProgramBurstDone_forget (h' := h)
  case' compactionStep => apply execCompactionStep_forget (h' := h)
  case' backgroundCompaction => apply execBackgroundCompaction_forget (h' := h)
  case' pairOwnInChange => apply execPairOwnInChange_forget (h' := h)
  case' pairClaim => apply execPairClaim_forget (h' := h)
  case' gateCheckPass => apply execGateCheckPass_forget (h' := h)
  case' laneAligned => apply execLaneAligned_forget (h' := h)
  case' laneAlignmentLost => apply execLaneAlignmentLost_forget (h' := h)
  case' linkSlot => apply execLinkSlot_forget (h' := h)
  case' helloReceived => apply execHelloReceived_forget (h' := h)
  case' mirrorReceived => apply execMirrorReceived_forget (h' := h)
  case' statusReceived => apply execStatusReceived_forget (h' := h)
  case' frameMissed => apply execFrameMissed_forget (h' := h)
  case' linkRetryEnd => apply execLinkRetryEnd_forget (h' := h)
  case' releaseSequenceReceived => apply execReleaseSequenceReceived_forget (h' := h)
  case' takeoverQualified => apply execTakeoverQualified_forget (h' := h)
  case' takeoverCommit => apply execTakeoverCommit_forget (h' := h)
  case' handover => apply execHandover_forget (h' := h)
  case' handoverRelease => apply execHandoverRelease_forget (h' := h)
  case' clearLock => apply execClearLock_forget (h' := h)
  case' supervisorMismatch => apply execSupervisorMismatch_forget (h' := h)
  case' scrubPass => apply execScrubPass_forget (h' := h)
  case' ramSec => apply execRamSec_forget (h' := h)
  case' plausTrip => apply execPlausTrip_forget (h' := h)
  case' dieLinkLoss => apply execDieLinkLoss_forget (h' := h)
  case' dieLinkRestore => apply execDieLinkRestore_forget (h' := h)
  case' watchdogEnable => apply execWatchdogEnable_forget (h' := h)
  case' watchdogKick => apply execWatchdogKick_forget (h' := h)
  case' wdogLate => apply execWdogLate_forget (h' := h)
  case' safeClr => apply execSafeClr_forget (h' := h)
  case' safePlfltClear => apply execSafePlfltClear_forget (h' := h)
  case' armPrepare => apply execArmPrepare_forget (h' := h)
  case' armComplete => apply execArmComplete_forget (h' := h)
  case' disarm => apply execDisarm_forget (h' := h)
  case' startupTestDone => apply execStartupTestDone_forget (h' := h)
  case' rstNAssert => apply execRstNAssert_forget (h' := h)
  case' resetRelease => apply execResetRelease_forget (h' := h)
  case' softwareReset => apply execSoftwareReset_forget (h' := h)
  case' tapExtest => apply execTapExtest_forget (h' := h)
  case' tapHighz => apply execTapHighz_forget (h' := h)
  case' tapClamp => apply execTapClamp_forget (h' := h)
  case' tapIdcode => apply execTapIdcode_forget (h' := h)
  case' tapSamplePreload => apply execTapSamplePreload_forget (h' := h)
  case' tapBypass => apply execTapBypass_forget (h' := h)
  case' tapReset => apply execTapReset_forget (h' := h)
  case' gatePlateauReached => apply execGatePlateauReached_forget (h' := h)
  case' saliencyDone => apply execSaliencyDone_forget (h' := h)
  case' vmainOkFall => apply execVmainOkFall_forget (h' := h)
  case' vioOkRise => apply execVioOkRise_forget (h' := h)
  any_goals exact mayRaise_raising _
  any_goals exact mayRecord_recording _
  any_goals exact mem_allBlocks
  any_goals exact has_of_listed rfl
  any_goals rfl
  any_goals exact List.mem_of_elem_eq_true rfl
  -- what is left are operands that the meaning does not read
  all_goals exact default

/-- A command changes at most the parts that `mayChange` lists for it. -/
theorem exec_only {i : Instr} {s t : State} (h : exec i s = .next t) : Only (mayChange i) s t :=
  only_of_forget (exec_forget h)

/-- Settles O48: every arm of `exec` answers a next state, and each has its frame. -/
theorem frameOfEveryCommand : Obligations.FrameOfEveryCommand := by
  intro i s
  obtain ⟨t, h⟩ := exec_completes i s
  exact ⟨t, h, exec_only h⟩

end Sys2Proof.Proofs
end

section
/-! SUPPORT. Commands that arm no bank (R18, R457) and switches that are driven on (R189, R195): a write arms a bank only
through BANK_ARM with 0x005A, and a switch comes on only by its turn-on. -/
namespace Sys2Proof.Proofs
open Sys2Proof.Machine Sys2Proof.Safety Sys2Proof.Laws

/-! ### Writes that arm no bank (R457) -/

/-- A write of `d` at `a` is not the one of BANK_ARM that arms. -/
def Armless (a : Nat) (d : Word) : Prop := ∀ row ix, lookup a = some (row, ix) → row.reg = .BANK_ARM → d ≠ 0x005A

theorem armless_of_value {a : Nat} {d : Word} (hd : d ≠ 0x005A) : Armless a d := fun _ _ _ _ => hd

theorem armless_of_reg {a : Nat} {d : Word} {r : Reg} (ha : (lookup a).map (·.1.reg) = some r) (hr : r ≠ .BANK_ARM) :
    Armless a d := by
  intro row ix hrow hreg
  rw [hrow] at ha
  exact absurd (Option.some.inj ha ▸ hreg) hr

section Writes
variable {arm : Bool} {s₀ s : State} {t a : Nat} {d : Word}

theorem armWrite_armless {b : Fin 8} (hd : d ≠ 0x005A) (h₀ : Calm arm s₀ s) : Calm arm s₀ (armWrite t b d s) := by
  unfold armWrite
  rw [if_neg hd]
  split
  · exact armPrepare_calm h₀
  · exact hostDisarm_calm h₀

theorem writeBlock_armless {r : Reg} {ix : List Nat} (hd : r = .BANK_ARM → d ≠ 0x005A) (h₀ : Calm arm s₀ s) :
    Calm arm s₀ (s.writeBlock t a d r ix) := by
  unfold State.writeBlock
  dsimp only
  split
  · exact armWrite_armless (hd rfl) h₀
  · exact gsupFltClear_calm h₀
  · exact gateFltClear_calm h₀
  · exact ampWrite_calm h₀
  · exact protBfltClear_calm h₀
  · exact protChfltClear_calm h₀
  · exact axCmd_calm h₀
  · exact hostInject_calm h₀
  · split
    · exact clearQueue_calm h₀
    · exact schCancel_calm h₀
  · exact schSect_calm h₀
  · exact scheduleInsert_calm h₀
  · exact solClr_calm h₀
  · split
    · exact handover_calm h₀
    · exact clearLock_calm h₀
  · exact canTxreq_calm h₀
  · exact canTxabort_calm h₀
  · exact storeWord_calm h₀

theorem writeLegal_armless (hd : Armless a d) (h₀ : Calm arm s₀ s) : Calm arm s₀ (s.writeLegal t a d) := by
  unfold State.writeLegal
  split
  · exact h₀
  next row ix hrow =>
    split
    · split
      · exact bounded_calm (fun _ _ => setStaged_calm) h₀
      · split
        · exact writeCore_calm h₀
        · exact commit2_calm h₀
        · exact commit2_calm h₀
        · exact afterStore_calm (writeBlock_armless (hd row ix hrow) h₀)
    · exact h₀

/-- The result of a host error spares BANK_ARM (R20, notes/assumptions/25.md). -/
theorem armless_of_reaches {p : Nat × Word} (h : s.reaches a p = true) : Armless p.1 p.2 := by
  intro row ix hrow hreg
  simp [State.reaches, hrow, hreg, spared] at h

theorem hostErr_armless (h₀ : Calm arm s₀ s) : Calm arm s₀ (s.hostErr t a) := by
  refine each_calm (fun u p hu => ?_) (took_calm h₀)
  split
  next hreach => exact writeLegal_armless (armless_of_reaches hreach) hu
  · exact hu

theorem ampClash_armless (h₀ : Calm arm s₀ s) : Calm arm s₀ (ampClash t a d s) := by
  unfold ampClash
  split
  · split
    · exact each_calm (fun _ _ hu => storeWord_calm (hostErr_armless hu)) h₀
    · exact h₀
  · exact h₀

theorem writeWord_armless (hd : Armless a d) (h₀ : Calm arm s₀ s) : Calm arm s₀ (s.writeWord t a d) := by
  unfold State.writeWord
  split
  · exact h₀
  · split
    · exact ampClash_armless (writeLegal_armless hd h₀)
    · exact ampLate_calm (hostErr_armless (cancelArm_calm h₀))

theorem hostWordAt_armless (hd : Armless a d) (h₀ : Calm arm s₀ s) : Calm arm s₀ (s.hostWordAt t a d) := by
  unfold State.hostWordAt State.whenHost
  split
  · exact writeWord_armless hd h₀
  · exact h₀

theorem takeVov_armless {b : Fin 8} (h₀ : Calm arm s₀ s) : Calm arm s₀ (s.takeVov b) := by
  unfold State.takeVov
  dsimp only
  split
  · exact h₀
  · split
    · exact modBank_calm (fun _ h => h) h₀
    · exact hostErr_armless (wr_calm (wr_calm (wr_calm h₀)))

theorem whenUp_calm {f : State → State} (hf : ∀ {u}, Calm arm s₀ u → Calm arm s₀ (f u)) (h₀ : Calm arm s₀ s) :
    Calm arm s₀ (s.whenUp f) := by
  unfold State.whenUp
  split
  · exact hf h₀
  · exact h₀

theorem tick_armless (h₀ : Calm arm s₀ s) : Calm arm s₀ (tick s) := by
  have hend {u : State} (hu : Calm arm s₀ u) : Calm arm s₀ u.endTick :=
    applyFreeze_calm (flushDue_calm (each_calm (fun _ _ => takeVov_armless) hu))
  unfold tick
  split
  · exact h₀
  · exact whenUp_calm startTick_calm (modRcd_calm (modPwr_calm (setFresh_calm (tickTime_calm (whenUp_calm hend h₀)))))

end Writes

/-! ### The registers of the rows that are one host write -/

theorem reg_GSUP_FLT : ∀ b : Fin 8, (lookup (A.GSUP_FLT b.val)).map (·.1.reg) = some .GSUP_FLT := by decide +kernel

theorem reg_PROT_BFLT : ∀ b : Fin 8, (lookup (A.PROT_BFLT b.val)).map (·.1.reg) = some .PROT_BFLT := by decide +kernel

theorem reg_PROT_CHFLT : ∀ (b : Fin 8) (i : Fin 9), (lookup (A.PROT_CHFLT b.val i.val)).map (·.1.reg) = some .PROT_CHFLT := by
  decide +kernel

theorem reg_runAddr (k : Fin 24) :
    (lookup (runAddr k)).map (·.1.reg) = some (if k.val < 16 then .PWM_RUN_LO else .PWM_RUN_HI) := by
  revert k; decide +kernel

theorem reg_loadAll (hi : Bool) : (lookup (if hi then A.PWM_LOADALL_HI else A.PWM_LOADALL_LO)).map (·.1.reg) =
    some (if hi then .PWM_LOADALL_HI else .PWM_LOADALL_LO) := by cases hi <;> decide

theorem reg_plflt (hi : Bool) : (lookup (if hi then A.SAFE_PLFLT_HI else A.SAFE_PLFLT_LO)).map (·.1.reg) =
    some (if hi then .SAFE_PLFLT_HI else .SAFE_PLFLT_LO) := by cases hi <;> decide

/-! ### Every command but a turn-on drives no switch on, and arms a bank only by BANK_ARM -/

/-- Commands through which no write to BANK_ARM comes and that are no MIRROR frame. -/
def armless : Instr → Bool
  | .armComplete _ _ => false
  | .mirrorReceived _ _ _ _ => false
  | i => functionOf i != .hostLink

theorem calm_of_frame {arm : Bool} {i : Instr} {s t : State} (hhb : (mayChange i).hb = false) (hbank : (mayChange i).bank = false)
    (h : exec i s = .next t) : Calm arm s t :=
  calm_of_eq ((exec_only h).hb hhb) ((exec_only h).bank hbank)

theorem calm_of_hostWord {arm : Bool} {s u : State} {t a : Nat} {d : Word} (hd : Armless a d)
    (h : (.next (s.hostWordAt t a d) : Host.Outcome State Fault Refusal) = .next u) : Calm arm s u := by
  injection h with h
  exact h ▸ hostWordAt_armless hd (Calm.refl arm s)

theorem tick_of_next {arm : Bool} {s u : State} (h : execTick s = .next u) : Calm arm s u := by
  injection h with h
  exact h ▸ tick_armless (Calm.refl arm s)

section Rows
variable {arm : Bool} {s t : State}

theorem execOpUnknownCode_calm {op : Byte} (h : execOpUnknownCode op s = .next t) : Calm arm s t := by
  injection h with h
  rw [← h]
  unfold State.whenHost
  split
  · split
    · exact Calm.refl arm s
    · exact doorbell_calm (Calm.refl arm s)
  · exact Calm.refl arm s

theorem execOpStart_calm {i : Fin 8} (h : execOpStart i s = .next t) : Calm arm s t := by
  injection h with h
  exact h ▸ whenUp_calm opStart_calm (Calm.refl arm s)

theorem publishPart_calm {s₀ : State} {i e : Fin 8} {v progress : Nat} (h₀ : Calm arm s₀ s) :
    Calm arm s₀ (s.publishPart i e v progress) := calm_of_forget (publishPart_forget quiet _ _ _ _ _ rfl) h₀

theorem ite_publish_calm {s₀ : State} {i e : Fin 8} {v progress : Nat} {c : Prop} [Decidable c] (h₀ : Calm arm s₀ s) :
    Calm arm s₀ (if c then s.publishPart i e v progress else s) := by
  split
  · exact publishPart_calm h₀
  · exact h₀

theorem opPartial_calm {s₀ : State} {i e : Fin 8} {v progress : Nat} (h₀ : Calm arm s₀ s) :
    Calm arm s₀ (opPartial i e v progress s) := by
  unfold opPartial
  dsimp only
  split
  · exact h₀
  split
  · split
    · exact h₀
    · exact ite_publish_calm h₀
  split
  · exact ite_publish_calm h₀
  split
  · exact ite_publish_calm h₀
  split
  · exact ite_publish_calm h₀
  split
  · exact modSlot_calm h₀
  · exact dropOp_calm h₀

theorem execOpPartial_calm {i e : Fin 8} {v : BitVec 32} {g : Byte} (h : execOpPartial i e v g s = .next t) : Calm arm s t := by
  injection h with h
  exact h ▸ whenUp_calm opPartial_calm (Calm.refl arm s)

theorem execTriggerCompare_calm {k : Fin 24} {n : Fin 4} (h : execTriggerCompare k n s = .next t) : Calm arm s t := by
  injection h with h
  rw [← h]
  split
  · exact trig_calm (modTim_calm (Calm.refl arm s))
  · exact Calm.refl arm s

theorem HalfB.held_on (x : HalfB) : (HalfB.held x).hs.on = x.hs.on ∧ (HalfB.held x).ls.on = x.ls.on := ⟨rfl, rfl⟩

theorem Bank.held_armed (k : Bank) : (Bank.held k).armed = false := rfl

/-- AON powers on with the switches as the driver dies hold them and with no bank armed (R113, R372). -/
theorem aonPowerOn_calm {s₀ : State} {v : Bool} (h₀ : Calm arm s₀ s) : Calm arm s₀ (aonPowerOn v s) := by
  refine ⟨fun h side hon => h₀.on h side ?_, fun _ b harmed => ?_⟩
  · have hget : (aonPowerOn v s).hb[h] = HalfB.held s.hb[h] := by simp [aonPowerOn]
    rw [hget] at hon
    cases side <;> exact hon
  · have hget : (aonPowerOn v s).bank[b] = Bank.held s.bank[b] := by simp [aonPowerOn]
    rw [hget, Bank.held_armed] at harmed
    exact absurd harmed Bool.false_ne_true

theorem execAonPowerOn_calm {x : PowerOn} (h : execAonPowerOn x s = .next t) : Calm arm s t := by
  injection h with h
  rw [← h]
  refine strapped_calm (aonPowerOn_calm (calm_of_forget ?_ (Calm.refl arm s)))
  rw [keyCut_forget _ _ rfl rfl (quiet_has _), storeCut_forget _ _ rfl rfl rfl]

end Rows

/-- Every command but a turn-on drives no switch on; the commands without a way to BANK_ARM and the MIRROR frames arm no bank. -/
theorem exec_calm {i : Instr} {s t : State} (hon : ∀ at' h hi, i ≠ .turnOnStart at' h hi) (h : exec i s = .next t) :
    Calm (armless i) s t := by
  cases i with
  | registerWrite => exact execRegisterWrite_calm h
  | multiwordLatchRead | spiHeaderTruncated | internalSecondBoundary | ppsEdge | ppsTimeout | timeApply | relock
  | timeSnapshotRead | timeTbRead | tickRestore | imageVerifyDone | slotWriteBurst | imgKeydataWrite | keyCmdArm
  | keyCmdProgram | keyProgramDone | canRx | canTxreq | canTxDone | canTxFail | canTxabort | canErrorStateChange
  | canBusoffRecovery | compareMatch | refreshPulseEnd | engineStep | hallEdge | encoderEdge | alignDone
  | retryWaitEnd | stallDetected | wheelCount | gnssSentence | imuTrigger | imuSeqDone | sentFrame | hostInject
  | fusionPublication | scheduleCommit | schCancel | schCancelAll | seedEdge | associationEpochClose | solveStart
  | solveDone | solverStoreCleared | solClrCounters | solClrWindow | evtStatClear | recordWrite | recorderFreeze
  | recorderThaw | freezeTimeout | holdFifoDrain | recClr | hostMark | vmainOkRise | storeMountDone | domainStart
  | energyEstimate | storeDelete | storeRead | storeReadDone | storeAppend | backgroundCompaction | laneAligned
  | laneAlignmentLost | linkSlot | helloReceived | statusReceived | linkRetryEnd | handover | startupTestDone
  | tapIdcode | tapSamplePreload | tapBypass | tapReset | saliencyDone | vioOkRise => exact calm_of_frame rfl rfl h
  | nop => exact execNop_calm h
  | read => exact execRead_calm h
  | readFixed => exact execReadFixed_calm h
  | write => exact execWrite_calm h
  | writeFixed => exact execWriteFixed_calm h
  | tick => exact tick_of_next h
  | monitorWindowEnd => exact execMonitorWindowEnd_calm h
  | pllUnlock => exact execPllUnlock_calm h
  | imageLoad | shuntCal | dlineCal | selfTest | motorId | compact
    => exact calm_of_hostWord (armless_of_reg (r := .OP_CMD) (by decide) nofun) h
  | opUnknownCode => exact execOpUnknownCode_calm h
  | wholeImageSwap => exact execWholeImageSwap_calm h
  | bankImageSwap => exact execBankImageSwap_calm h
  | opStart => exact execOpStart_calm h
  | opPartial => exact execOpPartial_calm h
  | opEnd => exact execOpEnd_calm h
  | opTimeout => exact execOpTimeout_calm h
  | opRelease => exact calm_of_hostWord (armless_of_reg (r := .OP_RELEASE) (by decide) nofun) h
  | opAbort => exact calm_of_hostWord (armless_of_reg (r := .OP_ABORT) (by decide) nofun) h
  | loadAll => exact calm_of_hostWord (armless_of_reg (reg_loadAll _) (by split <;> nofun)) h
  | timerStart | timerStop => exact calm_of_hostWord (armless_of_reg (reg_runAddr _) (by split <;> nofun)) h
  | startEdge => exact execStartEdge_calm h
  | timerWrap => exact execTimerWrap_calm h
  | triggerCompare => exact execTriggerCompare_calm h
  | dlcCalCycle => exact execDlcCalCycle_calm h
  | commandChange => exact execCommandChange_calm h
  | turnOnStart => exact absurd rfl (hon _ _ _)
  | gateOffSensed => exact execGateOffSensed_calm h
  | tgminExpiry => exact execTgminExpiry_calm h
  | gateStuck => exact execGateStuck_calm h
  | gateFgn => exact execGateFgn_calm h
  | floatEntry => exact execFloatEntry_calm h
  | floatOutputDisable => exact execFloatOutputDisable_calm h
  | floatExitHoldEnd => exact execFloatExitHoldEnd_calm h
  | vdrvUv => exact execVdrvUv_calm h
  | vcpUv => exact execVcpUv_calm h
  | bstUv => exact execBstUv_calm h
  | supplyRise => exact execSupplyRise_calm h
  | gsupFltClear => exact calm_of_hostWord (armless_of_reg (reg_GSUP_FLT _) nofun) h
  | ddpInputEdge => exact execDdpInputEdge_calm h
  | dsblExpiry => exact execDsblExpiry_calm h
  | desat => exact execDesat_calm h
  | hardShortArm => exact execHardShortArm_calm h
  | hardShort => exact execHardShort_calm h
  | plateau => exact execPlateau_calm h
  | protChfltClear => exact calm_of_hostWord (armless_of_reg (reg_PROT_CHFLT _ _) nofun) h
  | tripRecognised => exact execTripRecognised_calm h
  | tripRelease => exact execTripRelease_calm h
  | blankWindowEnd => exact execBlankWindowEnd_calm h
  | currentLimitTrip => exact execCurrentLimitTrip_calm h
  | chopperOn => exact execChopperOn_calm h
  | chopperOff => exact execChopperOff_calm h
  | vov2 => exact execVov2_calm h
  | chopLong => exact execChopLong_calm h
  | ots => exact execOts_calm h
  | protBfltClear => exact calm_of_hostWord (armless_of_reg (reg_PROT_BFLT _) nofun) h
  | estop => exact execEstop_calm h
  | estopRelease => exact execEstopRelease_calm h
  | converterStart => exact execConverterStart_calm h
  | conversionDone => exact execConversionDone_calm h
  | axisStart | axisStop | axisCoast | axisStallClear | armPrepare | disarm
    => exact calm_of_hostWord (armless_of_value (by decide)) h
  | scheduleFire => exact execScheduleFire_calm h
  | schedLateFire => exact execSchedLateFire_calm h
  | scheduleInsert => exact calm_of_hostWord (armless_of_reg (r := .SCH_IN_0) (by decide) nofun) h
  | schSectOn => exact execSchSectOn_calm h
  | schSectOff => exact execSchSectOff_calm h
  | schSectRate => exact execSchSectRate_calm h
  | vmainFail => exact execVmainFail_calm h
  | handoverStep => exact execHandoverStep_calm h
  | criticalWindowEnd => exact execCriticalWindowEnd_calm h
  | flushEnd => exact execFlushEnd_calm h
  | vmainBounce => exact execVmainBounce_calm h
  | dwellComplete => exact execDwellComplete_calm h
  | vbakMinLoss => exact execVbakMinLoss_calm h
  | bankHoldEnd => exact execBankHoldEnd_calm h
  | aonPowerOn => exact execAonPowerOn_calm h
  | domainSwitchOn => exact execDomainSwitchOn_calm h
  | domainSwitchOff => exact execDomainSwitchOff_calm h
  | domainReady => exact execDomainReady_calm h
  | vioUv => exact execVioUv_calm h
  | storeWrite => exact calm_of_hostWord (armless_of_reg (r := .STORE_WR) (by decide) nofun) h
  | programBurstDone => exact execProgramBurstDone_calm h
  | compactionStep => exact execCompactionStep_calm h
  | pairOwnInChange => exact execPairOwnInChange_calm h
  | pairClaim => exact execPairClaim_calm h
  | gateCheckPass => exact execGateCheckPass_calm h
  | mirrorReceived => exact execMirrorReceived_calm h
  | frameMissed => exact execFrameMissed_calm h
  | releaseSequenceReceived => exact execReleaseSequenceReceived_calm h
  | takeoverQualified => exact execTakeoverQualified_calm h
  | takeoverCommit => exact execTakeoverCommit_calm h
  | handoverRelease => exact execHandoverRelease_calm h
  | clearLock => exact execClearLock_calm h
  | supervisorMismatch => exact execSupervisorMismatch_calm h
  | scrubPass => exact execScrubPass_calm h
  | ramSec => exact execRamSec_calm h
  | plausTrip => exact execPlausTrip_calm h
  | dieLinkLoss => exact execDieLinkLoss_calm h
  | dieLinkRestore => exact execDieLinkRestore_calm h
  | watchdogEnable => exact calm_of_hostWord (armless_of_reg (r := .SAFE_WDCFG) (by decide) nofun) h
  | watchdogKick => exact execWatchdogKick_calm h
  | wdogLate => exact execWdogLate_calm h
  | safeClr => exact execSafeClr_calm h
  | safePlfltClear => exact calm_of_hostWord (armless_of_reg (reg_plflt _) (by split <;> nofun)) h
  | armComplete => exact execArmComplete_calm h
  | rstNAssert => exact execRstNAssert_calm h
  | resetRelease => exact execResetRelease_calm h
  | softwareReset => exact execSoftwareReset_calm h
  | tapExtest => exact execTapExtest_calm h
  | tapHighz => exact execTapHighz_calm h
  | tapClamp => exact execTapClamp_calm h
  | gatePlateauReached => exact execGatePlateauReached_calm h
  | vmainOkFall => exact execVmainOkFall_calm h

/-! ### The turn-on (R189) -/

theorem openBlank_armed (s : State) (b b' : Fin 8) (t : Nat) : ((s.openBlank b t).bank[b']).armed = (s.bank[b']).armed :=
  (congrArg Bank.armed (openBlank_same (t := t) (b := b) (SameBanks.refl s) b') :)

theorem turnOnStart_cases {at' : Fin 200} {h : Fin 72} {hi : Bool} {s t : State} (he : exec (.turnOnStart at' h hi) s = .next t) :
    t = s ∨ s.mayTurnOn (s.clkAt at') h (sideOf hi) = true ∧ t = s.turnOn (s.clkAt at') h (sideOf hi) := by
  change execTurnOnStart at' h hi s = _ at he
  injection he with he
  split at he
  next hmay => exact .inr ⟨hmay, he.symm⟩
  · exact .inl he.symm

theorem turnOn_armed (s : State) (t : Nat) (h : Fin 72) (d : Side) (b : Fin 8) :
    ((s.turnOn t h d).bank[b]).armed = (s.bank[b]).armed := openBlank_armed _ _ _ _

/-- A turn-on begins only while the opposite switch is off. -/
theorem mayTurnOn_other_off {s : State} {t : Nat} {h : Fin 72} {d : Side} (hmay : s.mayTurnOn t h d = true) :
    ((s.hb[h]).gate d.other).on = false := by
  simp only [State.mayTurnOn, Bool.and_eq_true, Bool.not_eq_true'] at hmay
  obtain ⟨⟨⟨-, hoff⟩, -⟩, -⟩ := hmay
  exact hoff

theorem turnOn_noShootThrough {s : State} {t : Nat} {h : Fin 72} {d : Side} (hs : NoShootThrough s)
    (hmay : s.mayTurnOn t h d = true) : NoShootThrough (s.turnOn t h d) := by
  intro h'
  by_cases hne : h = h'
  · subst hne
    have hoff := mayTurnOn_other_off hmay
    have hb : (s.turnOn t h d).hb = (s.modGate h d _).hb := openBlank_hb _ _ _
    rw [hb, State.modGate, modHb_get, if_pos rfl]
    cases d <;> simp_all [HalfB.gate, Side.other]
  · have hb : (s.turnOn t h d).hb[h'] = s.hb[h'] := by
      show ((State.modGate s h d _).openBlank _ _).hb[h'] = _
      rw [openBlank_hb, modGate_other _ _ _ _ _ hne]
    rw [hb]
    exact hs h'

/-! ### The statements -/

theorem noShootThrough_of_calm {arm : Bool} {s t : State} (hcalm : Calm arm s t) (hs : NoShootThrough s) : NoShootThrough t :=
  fun h hboth => hs h ⟨hcalm.on h .high hboth.1, hcalm.on h .low hboth.2⟩

theorem exec_noShootThrough {i : Instr} {s t : State} (hs : NoShootThrough s) (he : exec i s = .next t) : NoShootThrough t := by
  by_cases hon : ∃ at' h hi, i = .turnOnStart at' h hi
  · obtain ⟨at', h, hi, rfl⟩ := hon
    rcases turnOnStart_cases he with rfl | ⟨hmay, rfl⟩
    · exact hs
    · exact turnOn_noShootThrough hs hmay
  · have hon : ∀ at' h hi, i ≠ .turnOnStart at' h hi := fun at' h hi heq => hon ⟨at', h, hi, heq⟩
    exact noShootThrough_of_calm (exec_calm hon he) hs

/-- A step runs one command or idles. -/
theorem step_cases {s t : State} (h : step s = .next t) :
    t = s ∨ ∃ c rest, s.pending = c :: rest ∧ exec c { s with pending := rest } = .next t := by
  unfold step at h
  split at h
  · injection h with h
    exact .inl h.symm
  next c rest hq => exact .inr ⟨c, rest, hq, h⟩

/-- Settles O50: a switch comes on only by its turn-on, which waits until the opposite switch is off. -/
theorem noShootThroughKept : Obligations.NoShootThroughKept := by
  intro s t hs hstep
  rcases step_cases hstep with rfl | ⟨c, rest, -, he⟩
  · exact hs
  · exact exec_noShootThrough (s := { s with pending := rest }) hs he

/-- Settles O19: outside the host link and ARM_COMPLETE no write meets BANK_ARM with 0x005A, and nothing else but a MIRROR frame
sets the armed bit. -/
theorem onlyArmingArms : Obligations.OnlyArmingArms := by
  intro i s t he hlink hcomplete hmirror b hoff
  by_cases hon : ∃ at' h hi, i = .turnOnStart at' h hi
  · obtain ⟨at', h, hi, rfl⟩ := hon
    rcases turnOnStart_cases he with rfl | ⟨-, rfl⟩
    · exact hoff
    · rw [turnOn_armed, hoff]
  · have hon : ∀ at' h hi, i ≠ .turnOnStart at' h hi := fun at' h hi heq => hon ⟨at', h, hi, heq⟩
    have hquiet : armless i = true := by
      unfold armless
      split
      · exact absurd rfl (hcomplete _ _)
      · exact absurd rfl (hmirror _ _ _ _)
      · exact bne_iff_ne.2 hlink
    cases harmed : (t.bank[b]).armed with
    | false => rfl
    | true => exact absurd ((exec_calm hon he).armed hquiet b harmed) (by rw [hoff]; exact Bool.false_ne_true)

end Sys2Proof.Proofs
end


section
/-! SUPPORT. The step and the queue (R104, R516), the state after reset (R15, R481), and the host's mark (R357). -/
namespace Sys2Proof.Proofs
open Sys2Proof.Machine Sys2Proof.Safety Sys2Proof.Laws

/-! ### The queue (R104) -/

/-- A command put in its place stands behind the newer commands that it goes before, and ahead of one that it does not. -/
theorem putPlace_split (c : Instr) (q : List Instr) : ∃ l r, q = l ++ r ∧ putPlace c q = l ++ c :: r ∧
    (∀ x ∈ l, goesFirst c x = true) ∧ ∀ x ∈ r.head?, goesFirst c x = false := by
  induction q with
  | nil => exact ⟨[], [], rfl, rfl, nofun, nofun⟩
  | cons x q ih =>
    obtain ⟨l, r, hq, hput, hl, hr⟩ := ih
    by_cases hx : goesFirst c x = true
    · refine ⟨x :: l, r, by rw [hq]; rfl, by rw [putPlace, if_pos hx, hput]; rfl, ?_, hr⟩
      exact fun y hy => (List.mem_cons.1 hy).elim (fun h => h ▸ hx) (hl y)
    · refine ⟨[], x :: q, rfl, by rw [putPlace, if_neg hx]; rfl, nofun, ?_⟩
      intro y hy
      cases Option.mem_some.1 hy
      exact Bool.eq_false_iff.2 hx

/-- Settles O1: `step` takes the queue apart, and an offered command is put in its place in the queue read from its end. -/
theorem stepRunsTheFrontCommand : Obligations.StepRunsTheFrontCommand := by
  refine ⟨fun c rest s => rfl, fun s h => by rw [step, h], fun s c => ?_⟩
  obtain ⟨l, r, hq, hput, hl, hr⟩ := putPlace_split c s.pending.reverse
  refine ⟨r.reverse, l.reverse, ?_, ?_, fun x hx => hl x (List.mem_reverse.1 hx), fun x hx => hr x ?_⟩
  · rw [← List.reverse_append, ← hq, List.reverse_reverse]
  · rw [State.offer, hput]; simp
  · rwa [List.getLast?_reverse] at hx

/-! ### The state after reset (R15) -/

/-- Only SYS_BOOT and the status bit of RESET are listed after a reset: every other word reads its reset value. -/
theorem rd_reset {a : Nat} (hboot : a ≠ A.SYS_BOOT) (hstat : a ≠ A.EVT_STAT 0) : State.reset.rd a = resetOf a := by
  have h : mapGet State.reset.regs a = none := by
    change mapGet [(A.SYS_BOOT, _), (A.EVT_STAT 0, _)] a = none
    rw [mapGet, if_neg hboot.symm, mapGet, if_neg hstat.symm]
    rfl
  rw [State.rd, h]
  rfl

/-- Settles O52: `State.reset` is written out, and each clause reads it. -/
theorem stateAfterReset : Obligations.StateAfterReset := by
  obtain ⟨hmem, hwin⟩ := reset_bytes_ok
  have hgates : ∀ h : Fin 72, (State.reset.hb[h]).hs.on = false ∧ (State.reset.hb[h]).ls.on = false := by
    decide +kernel
  refine ⟨rfl, rfl, rfl, by decide +kernel, hgates, by decide +kernel, fun a => rd_reset, ?_, hmem, hwin⟩
  intro h ⟨hon, _⟩
  exact Bool.noConfusion ((hgates h).1.symm.trans hon)

/-! ### The host's mark (R357) -/

/-- The row of the two REC_MARK words. -/
def markRow : RegRow := ⟨.REC_MARK, 0x0608, [(2, 1)], 0x0000, [fld 15 0 .WO]⟩

/-- Every value of a word with one write-only field of 16 bits is legal. -/
theorem legalBits_writeOnly (s : State) (a : Nat) (d : Word) : s.legalBits a [fld 15 0 .WO] d = true := by
  have hmask : reservedBits [fld 15 0 .WO] = 0 := by decide
  have hrange : field d 15 0 ≤ 65535 := by simp only [field]; omega
  simp [State.legalBits, hmask]
  simp [fld, State.writable, Fld.inRange, hrange]

/-- No LIMITS entry bounds a word that stores no field (R61). -/
theorem limitsAt_writeOnly (s : State) (a : Nat) : s.limitsAt a [fld 15 0 .WO] = [] := by
  simp [State.limitsAt, State.stores, State.opened, fld]

theorem lookup_mark (i : Fin 2) : lookup (A.REC_MARK i.val) = some (markRow, [i.val]) := by
  revert i; decide

theorem legal_mark (i : Fin 2) (s : State) (d : Word) : s.legal (A.REC_MARK i.val) d = true := by
  have hblk : blkOf (A.REC_MARK i.val) ≠ .bank ∧ blkOf (A.REC_MARK i.val) ≠ .can := by revert i; decide
  have hbits := legalBits_writeOnly s (A.REC_MARK i.val) d
  simp [State.legal, lookup_mark, markRow, hbits, wordOk, State.legalNow, hblk]

theorem writeWord_mark1 (s : State) (t : Nat) (d : Word) :
    s.writeWord t (A.REC_MARK 1) d = s.setStaged (A.REC_MARK 1) d := by
  have hrow : lookup (A.REC_MARK 1) = some (markRow, [1]) := lookup_mark 1
  have hon : s.addrOn (A.REC_MARK 1) = true := rfl
  have hlegal : s.legal (A.REC_MARK 1) d = true := legal_mark 1 s d
  have hstage : s.writeLegal t (A.REC_MARK 1) d = s.setStaged (A.REC_MARK 1) d := by
    simp [State.writeLegal, hrow, hon, markRow, higher, State.bounded, limitsAt_writeOnly, applyLimits, State.reportSat]
  simp [State.writeWord, not_barred hrow nofun nofun, hlegal, ampClash_eq_self hrow nofun, hstage]

theorem writeWord_mark0 (s : State) (t : Nat) (d : Word) :
    s.writeWord t (A.REC_MARK 0) d = hostMark d (s.staged (A.REC_MARK 1)) s :=
  writeWord_core (lookup_mark 0) nofun nofun nofun (by decide) rfl (legal_mark 0 s d) t

/-- Settles O59: a write of REC_MARK_1 stages its word, and that of REC_MARK_0 is the row HOST_MARK, which raises. -/
theorem hostMarks : Obligations.HostMarks := by
  intro s at' a d hup hears
  refine ⟨fun ha => ⟨s.setStaged (A.REC_MARK 1) d, ?_, ?_, rfl, rfl⟩, fun ha => ?_,
    hostMark d (s.staged (A.REC_MARK 1)) s, ?_, raise_self .., fun hrec => ?_⟩
  · change execRegisterWrite at' a d s = _
    rw [execRegisterWrite, whenHost_of_hears hup hears, ha, writeWord_mark1]
  · rw [State.setStaged, State.staged, modLink_link, mapGet_mapPut, if_pos rfl]
    rfl
  · change execRegisterWrite at' a d s = execHostMark d s
    rw [execRegisterWrite, execHostMark, whenHost_of_hears hup hears, whenHost_of_hears hup hears, ha, writeWord_mark0]
  · change execHostMark d s = _
    rw [execHostMark, whenHost_of_hears hup hears]
  · have hrecords : (s.setEvt evHOST_MARK.src).records evHOST_MARK.src evHOST_MARK.sev = true := by
      change (_ || bit ((s.wr (A.EVT_STAT 0) _).rd A.EVT_REC_0) 12) = true
      rw [rd_wr, if_neg (by decide), hrec, Bool.or_true]
    rw [hostMark, raise_due, if_pos hrecords]
    rfl

end Sys2Proof.Proofs
end


section
/-! SUPPORT. The bytes of the load window and of the array (R81, R387): which operations store in them, and that every step keeps
their canonical form. -/
namespace Sys2Proof.Proofs
open Sys2Proof.Machine Sys2Proof.Safety Sys2Proof.Laws

/-! ### Operations that store no byte -/

/-- Every part of the state but the bytes of the load window and of the array. -/
def beyondBytes : Parts := recording { everything with lands := true, win := false }

/-- All that an operation's frame lemma asks of the parts, but the two byte arrays. -/
theorem beyondBytes_parts : MayRecord beyondBytes ∧ MayRaise beyondBytes ∧ (∀ b, b ∈ beyondBytes.blks) ∧
    (∀ r, beyondBytes.Has r) ∧ (∀ a, beyondBytes.covers a = true) ∧ beyondBytes.free = true ∧ beyondBytes.fresh = true ∧
    beyondBytes.clk = true ∧ beyondBytes.link = true ∧ beyondBytes.ops = true ∧ beyondBytes.can = true ∧
    beyondBytes.rcd = true ∧ beyondBytes.tim = true ∧ beyondBytes.hb = true ∧ beyondBytes.bank = true ∧
    beyondBytes.ax = true ∧ beyondBytes.fus = true ∧ beyondBytes.sched = true ∧ beyondBytes.sol = true ∧
    beyondBytes.img = true ∧ beyondBytes.pwr = true ∧ beyondBytes.store = true ∧ beyondBytes.pair = true ∧
    beyondBytes.safe = true ∧ beyondBytes.lands = true ∧ beyondBytes.recs = true := by
  have hblks : ∀ b, b ∈ beyondBytes.blks := mem_allBlocks
  exact ⟨mayRecord_recording _, mayRaise_raising _, hblks, has_all hblks, covers_all hblks, rfl, rfl, rfl, rfl, rfl, rfl, rfl,
    rfl, rfl, rfl, rfl, rfl, rfl, rfl, rfl, rfl, rfl, rfl, rfl, rfl, rfl⟩

/-- An operation stores no byte: it changes other parts at most. -/
abbrev Byteless (s t : State) : Prop := forget beyondBytes t = forget beyondBytes s

theorem Byteless.mem {s t : State} (h : Byteless s t) : t.store.mem = s.store.mem := (only_of_forget h).mem rfl

theorem Byteless.window {s t : State} (h : Byteless s t) : t.img.window = s.img.window := (only_of_forget h).win rfl

/-! ### Host writes: only a window word stores in the window (R81) -/

section Window
variable {s : State} {t a : Nat} {d : Word}

theorem bounded_byteless {fs : List Fld} {f : Word → State → State} (hf : ∀ d (s : State), Byteless s (f d s)) :
    Byteless s (s.bounded a fs d f) := by
  obtain ⟨-, hraise, -, hhas, -⟩ := beyondBytes_parts
  exact bounded_forget _ _ _ _ _ _ hraise (hhas _) (hhas _) hf

/-- A write of a CORE or AON word stores no byte unless the word is one of the window's. -/
theorem writeCore_byteless {r : Reg} (hr : r ≠ .IMG_WINDOW) {ix : List Nat} {fs : List Fld} :
    Byteless s (s.writeCore t a d r ix fs) := by
  unfold State.writeCore
  dsimp only
  split
  case h_1 => simp only [Byteless, imgKeydataWrite_forget, beyondBytes_parts]
  case h_2 => simp only [Byteless, keyCmd_forget, beyondBytes_parts]
  case h_3 => exact absurd rfl hr
  case h_4 => rfl
  case h_5 => simp only [Byteless, loadAll_forget, beyondBytes_parts]
  case h_6 => simp only [Byteless, loadAll_forget, beyondBytes_parts]
  case h_7 => exact bounded_byteless fun _ _ => by simp only [Byteless, runWord_forget, beyondBytes_parts]
  case h_8 => exact bounded_byteless fun _ _ => by simp only [Byteless, runWord_forget, beyondBytes_parts]
  case h_9 => split <;> simp only [Byteless, tickRestore_forget, beyondBytes_parts]
  case h_10 => split <;> simp only [Byteless, relock_forget, storeWord_forget, beyondBytes_parts]
  case h_11 => split <;> simp only [Byteless, timeApply_forget, beyondBytes_parts]
  case h_12 => simp only [Byteless, commit2_forget, beyondBytes_parts, implies_true]
  case h_13 => simp only [Byteless, doorbell_forget, beyondBytes_parts]
  case h_14 => simp only [Byteless, opRelease_forget, beyondBytes_parts]
  case h_15 => simp only [Byteless, opAbort_forget, beyondBytes_parts]
  case h_16 => simp only [Byteless, evtStatClear_forget, beyondBytes_parts]
  case h_17 => exact bounded_byteless fun _ _ => by simp only [Byteless, recCtl_forget, beyondBytes_parts]
  case h_18 => simp only [Byteless, recClr_forget, beyondBytes_parts]
  case h_19 => simp only [Byteless, hostMark_forget, beyondBytes_parts]
  case h_20 => exact bounded_byteless fun _ _ => by simp only [Byteless, writeDomReq_forget, beyondBytes_parts]
  case h_21 => simp only [Byteless, chargerNow_forget, storeWord_forget, beyondBytes_parts]
  case h_22 => simp only [Byteless, chargerNow_forget, storeWord_forget, beyondBytes_parts]
  case h_23 => simp only [Byteless, chargerNow_forget, storeWord_forget, beyondBytes_parts]
  case h_24 => simp only [Byteless, jlostWrite_forget, beyondBytes_parts, implies_true]
  case h_25 => split <;> simp only [Byteless, storeWrite_forget, loadStage_forget, beyondBytes_parts]
  case h_26 => simp only [Byteless, storeRead_forget, beyondBytes_parts]
  case h_27 => simp only [Byteless, safeClr_forget, beyondBytes_parts]
  case h_28 => exact bounded_byteless fun _ _ => by simp only [Byteless, safeWdcfg_forget, beyondBytes_parts]
  case h_29 => simp only [Byteless, watchdogKick_forget, beyondBytes_parts]
  case h_30 => simp only [Byteless, safePlfltClear_forget, beyondBytes_parts]
  case h_31 => simp only [Byteless, safePlfltClear_forget, beyondBytes_parts]
  case h_32 => simp only [Byteless, storeWord_forget, beyondBytes_parts]

/-- The load window's bytes are in their canonical form (R81). -/
def WindowOk (s : State) : Prop := cellsOk 0 s.img.window = true

theorem WindowOk.byteless {u : State} (h : WindowOk s) (hb : Byteless s u) : WindowOk u := by
  rw [WindowOk, hb.window]
  exact h

theorem WindowOk.each {α : Type} {f : State → α → State} (hf : ∀ s x, WindowOk s → WindowOk (f s x)) (l : List α) :
    ∀ {s}, WindowOk s → WindowOk (s.each l f) := by
  induction l with
  | nil => exact fun h => h
  | cons x l ih => exact fun h => ih (hf _ x h)

theorem writeLegal_windowOk (h : WindowOk s) : WindowOk (s.writeLegal t a d) := by
  unfold State.writeLegal
  split
  · exact h
  next row ix _ =>
    split
    · split
      · exact h.byteless (bounded_byteless fun _ _ => by simp only [Byteless, setStaged_forget, beyondBytes_parts])
      · split
        · by_cases hr : row.reg = .IMG_WINDOW
          · rw [hr]
            exact winWrite_ok _ _ h
          · exact h.byteless (writeCore_byteless hr)
        · exact h.byteless (by simp only [Byteless, commit2_forget, beyondBytes_parts, implies_true])
        · exact h.byteless (by simp only [Byteless, commit2_forget, beyondBytes_parts, implies_true])
        · exact h.byteless (by simp only [Byteless, afterStore_forget, writeBlock_forget, beyondBytes_parts, implies_true])
    · exact h

theorem hostErr_windowOk (h : WindowOk s) : WindowOk (s.hostErr t a) := by
  refine WindowOk.each (fun u p hu => ?_) _ (h.byteless (took_forget _ _ rfl))
  split
  · exact writeLegal_windowOk hu
  · exact hu

theorem ampClash_windowOk (h : WindowOk s) : WindowOk (ampClash t a d s) := by
  unfold ampClash
  split
  · split
    · refine WindowOk.each (fun u x hu => ?_) _ h
      have herr : WindowOk (u.hostErr t (A.GATE_AMP (hbBank x).val (hbIn x).val)) := hostErr_windowOk hu
      exact herr.byteless (by simp only [Byteless, storeWord_forget, beyondBytes_parts])
    · exact h
  · exact h

theorem writeWord_windowOk (h : WindowOk s) : WindowOk (s.writeWord t a d) := by
  unfold State.writeWord
  split
  · exact h
  · split
    · exact ampClash_windowOk (writeLegal_windowOk h)
    · have hcancel : WindowOk (s.cancelArm a) := h.byteless (by simp only [Byteless, cancelArm_forget, beyondBytes_parts])
      have herr : WindowOk ((s.cancelArm a).hostErr t a) := hostErr_windowOk hcancel
      exact herr.byteless (by simp only [Byteless, ampLate_forget, beyondBytes_parts, implies_true])

theorem hostWordAt_windowOk (h : WindowOk s) : WindowOk (s.hostWordAt t a d) := by
  unfold State.hostWordAt State.whenHost
  split
  · exact writeWord_windowOk h
  · exact h

theorem writeWordsAfter_windowOk (l : List (Nat × Word)) : ∀ {s : State} (before : List Nat), WindowOk s →
    WindowOk (s.writeWordsAfter t before l) := by
  induction l with
  | nil => exact fun _ h => h
  | cons p l ih =>
    intro s before h
    refine ih _ ?_
    split
    · exact hostErr_windowOk h
    · exact writeWord_windowOk h

/-! ### Frames and ticks -/

theorem writeFrame_windowOk {fixed : Bool} {hdr addr : Word} {body : List Word} (h : WindowOk s) :
    WindowOk (writeFrame t fixed hdr addr body s) := by
  have hmiso {u : State} (hu : WindowOk u) (l : List Word) : WindowOk (u.setMiso l) :=
    hu.byteless (by simp only [Byteless, setMiso_forget, beyondBytes_parts])
  have hdiscard {u : State} (hu : WindowOk u) (n : Nat) : WindowOk (u.discard n) :=
    hu.byteless (by simp only [Byteless, discard_forget, beyondBytes_parts])
  have haccept {u : State} (hu : WindowOk u) (ws : List Word) : WindowOk (u.accept t fixed hdr addr ws) := by
    have hcount : WindowOk (u.wrapInc A.HOST_FRAMES) :=
      hu.byteless (by simp only [Byteless, wrapInc_forget, beyondBytes_parts])
    unfold State.accept
    dsimp only
    split
    · exact hostErr_windowOk hcount
    · have hwords (l : List (Nat × Word)) : WindowOk ((u.wrapInc A.HOST_FRAMES).writeWords t l) :=
        writeWordsAfter_windowOk _ _ hcount
      split
      · exact (hwords (frameWrites fixed addr ws)).byteless (by simp only [Byteless, softwareReset_forget, beyondBytes_parts])
      · exact hwords _
  unfold writeFrame
  dsimp only
  split
  · exact hostErr_windowOk (hmiso h _)
  split
  · exact hdiscard (hmiso h _) 2
  split
  · exact haccept (hmiso h _) _
  · exact hdiscard (hmiso h _) 1

theorem readFrame_windowOk {fixed : Bool} {hdr addr : Word} {words : Nat} (h : WindowOk s) :
    WindowOk (readFrame fixed hdr addr words s) := by
  unfold readFrame
  dsimp only
  split
  · have herr : WindowOk (s.hostErr (200 * s.clk.ticks) addr.toNat) := hostErr_windowOk h
    exact herr.byteless (by simp only [Byteless, setMiso_forget, freeWords_forget, beyondBytes_parts])
  · exact h.byteless (by simp only [Byteless, setMiso_forget, readAll_forget, took_forget, beyondBytes_parts])

theorem spiFrame_windowOk {hdr addr : Word} {body : List Word} {words : Nat} (h : WindowOk s) :
    WindowOk (spiFrame t hdr addr body words s) := by
  unfold spiFrame
  split
  · unfold nopFrame
    have hmiso : WindowOk (s.setMiso [s.statusWord]) :=
      h.byteless (by simp only [Byteless, setMiso_forget, beyondBytes_parts])
    dsimp only
    split
    · exact hmiso
    · exact hostErr_windowOk hmiso
  · exact readFrame_windowOk h
  · exact readFrame_windowOk h
  · exact writeFrame_windowOk h

theorem whenHost_windowOk {f : State → State} (hf : ∀ {u}, WindowOk u → WindowOk (f u)) (h : WindowOk s) :
    WindowOk (s.whenHost f) := by
  unfold State.whenHost
  split
  · exact hf h
  · exact h

theorem whenUp_windowOk {f : State → State} (hf : ∀ {u}, WindowOk u → WindowOk (f u)) (h : WindowOk s) :
    WindowOk (s.whenUp f) := by
  unfold State.whenUp
  split
  · exact hf h
  · exact h

theorem takeVov_windowOk {b : Fin 8} (h : WindowOk s) : WindowOk (s.takeVov b) := by
  unfold State.takeVov
  dsimp only
  split
  · exact h
  · split
    · exact h.byteless (modBank_forget _ _ _ _ rfl)
    · exact hostErr_windowOk (h.byteless (by simp only [Byteless, wr_forget, beyondBytes_parts]))

theorem tick_windowOk (h : WindowOk s) : WindowOk (tick s) := by
  have hend {u : State} (hu : WindowOk u) : WindowOk u.endTick := by
    have hvov : WindowOk (u.each allBanks State.takeVov) := WindowOk.each (fun _ _ => takeVov_windowOk) allBanks hu
    exact hvov.byteless (by
      simp only [Byteless, State.endTick, applyFreeze_forget, flushDue_forget, beyondBytes_parts])
  unfold tick
  split
  · exact h
  · refine whenUp_windowOk (fun hu => hu.byteless ?_) ((whenUp_windowOk hend h).byteless ?_)
    · simp only [Byteless, startTick_forget, beyondBytes_parts]
    · simp only [Byteless, tickTime_forget, modPwr_forget, modRcd_forget_recs, setFresh_forget, beyondBytes_parts]

/-! ### A CORE that goes off (R374) -/

/-- A CORE that goes off leaves the window empty. -/
theorem coreOff_windowOk : WindowOk (s.coreOff t) := rfl

theorem toBackup_windowOk : WindowOk (s.toBackup t) := rfl

theorem afterFlush_windowOk (h : WindowOk s) : WindowOk (s.afterFlush t) := by
  have hreset : WindowOk (if s.lands.deferred then s.resetNow t else s) := by
    split
    · exact h.byteless (by simp only [Byteless, resetNow_forget, beyondBytes_parts])
    · exact h
  unfold State.afterFlush
  dsimp only
  generalize (if s.lands.deferred then s.resetNow t else s) = u at hreset
  split
  · exact hreset.byteless (by simp only [Byteless, warmRestart_forget, beyondBytes_parts])
  · split
    · exact hreset.byteless (by simp only [Byteless, modPwr_forget, beyondBytes_parts])
    · exact toBackup_windowOk

theorem vmainOkFall_windowOk (h : WindowOk s) : WindowOk (vmainOkFall s) := by
  unfold vmainOkFall
  dsimp only
  split
  · exact h
  split
  · exact h
  split
  · exact toBackup_windowOk
  · exact h

theorem vmainBounce_windowOk (h : WindowOk s) : WindowOk (vmainBounce s) := by
  unfold vmainBounce
  dsimp only
  split
  · exact h
  · have hfall := vmainOkFall_windowOk h
    split
    · exact hfall.byteless (by
        simp only [Byteless, raise_forget, satInc_forget, modPwr_forget, beyondBytes_parts, evPWR_BOUNCE_lt])
    · exact hfall

theorem criticalWindowEnd_windowOk (h : WindowOk s) : WindowOk (criticalWindowEnd s) := by
  unfold criticalWindowEnd
  dsimp only
  split
  · exact afterFlush_windowOk h
  · exact h

theorem flushEnd_windowOk (h : WindowOk s) : WindowOk (flushEnd t s) := by
  unfold flushEnd
  dsimp only
  split
  · exact afterFlush_windowOk h
  · exact h

end Window

/-! ### Every command -/

theorem windowOk_of_next {u t : State} (h : (.next u : Host.Outcome State Fault Refusal) = .next t) (hu : WindowOk u) :
    WindowOk t := by
  injection h with h
  exact h ▸ hu

theorem windowOk_of_frame {i : Instr} {s t : State} (hwin : (mayChange i).win = false) (h : exec i s = .next t)
    (hs : WindowOk s) : WindowOk t := by
  rw [WindowOk, (exec_only h).win hwin]
  exact hs

/-- Every command keeps the canonical form of the window's bytes: a host write stores in it, a CORE off empties it, and no other
command reaches it. -/
theorem exec_windowOk {i : Instr} {s t : State} (h : exec i s = .next t) (hs : WindowOk s) : WindowOk t := by
  cases i
  case registerWrite => exact windowOk_of_next h (whenHost_windowOk writeWord_windowOk hs)
  case nop | read | readFixed | write | writeFixed =>
    exact windowOk_of_next h (whenHost_windowOk spiFrame_windowOk hs)
  case tick => exact windowOk_of_next h (tick_windowOk hs)
  case imageLoad | shuntCal | dlineCal | selfTest | motorId | compact | opRelease | opAbort | loadAll | timerStart | timerStop |
      axisStart | axisStop | axisCoast | axisStallClear | protBfltClear | protChfltClear | gsupFltClear | safePlfltClear |
      armPrepare | armComplete | disarm | scheduleInsert | storeWrite | watchdogEnable =>
    exact windowOk_of_next h (hostWordAt_windowOk hs)
  case criticalWindowEnd =>
    refine windowOk_of_next h ?_
    split
    · exact criticalWindowEnd_windowOk hs
    · exact hs
  case flushEnd =>
    refine windowOk_of_next h ?_
    split
    · exact flushEnd_windowOk hs
    · exact hs
  case vmainBounce => exact windowOk_of_next h (vmainBounce_windowOk hs)
  case vmainOkFall => exact windowOk_of_next h (vmainOkFall_windowOk hs)
  case vbakMinLoss =>
    refine windowOk_of_next h ?_
    split
    · exact hs
    · exact rfl
  case aonPowerOn => exact windowOk_of_next h rfl
  all_goals exact windowOk_of_frame rfl h hs

end Sys2Proof.Proofs
end


section
/-! SUPPORT. The bytes that the journal's commands store in the array (R387, R398 to R404). -/
namespace Sys2Proof.Proofs
open Sys2Proof.Machine Sys2Proof.Safety Sys2Proof.Laws

/-! ### The stores of the engine -/

section Stores
variable (s : State)

@[simp] theorem program_mem (a : Nat) (bs : List Byte) (b : Burst) :
    (s.program a bs b).store.mem = cellWrs 0xFF s.store.mem a bs := rfl

@[simp] theorem putRecord_mem (h : Nat) (bs : List Byte) (b : Nat → Burst) :
    (s.putRecord h bs b).store.mem = cellWrs 0xFF s.store.mem (secBase h + s.store.pos) bs := rfl

@[simp] theorem eraseBytes_mem (n : Nat) :
    (s.eraseBytes n).store.mem = s.store.mem.filter (fun c => c.1 < secBase n || secBase (n + 1) ≤ c.1) := rfl

@[simp] theorem leBytes_length (n x : Nat) : (leBytes n x).length = n := by simp [leBytes]

/-- A fresh sector takes a header of 16 bytes (R398). -/
theorem openSector_mem (n : Nat) (comp : Bool) :
    ∃ bs : List Byte, bs.length = 16 ∧ (s.openSector n comp).store.mem = cellWrs 0xFF s.store.mem (secBase n) bs :=
  ⟨_, by simp, rfl⟩

/-- The bytes of a record without its marker fill its size but four (R390). -/
theorem recBytes_length (key : Nat) (copy : Bool) (ws : List Word) (seq : Nat) :
    (recBytes key copy ws seq).length + 4 = recSize ws.length := by
  have hwords : (wordBytes ws).length = 2 * ws.length := by
    induction ws with
    | nil => rfl
    | cons w ws ih =>
      have hcons : (wordBytes (w :: ws)).length = (wordBytes ws).length + 2 := rfl
      rw [hcons, ih, List.length_cons]
      omega
  unfold recBytes recSize
  split <;> simp [hwords] <;> omega

variable {s}

/-- A head that can take a record is the store's head, and the record ends within the sector (R398). -/
theorem headFits_eq_some {n h : Nat} (hfits : s.headFits n = some h) : s.store.head = some h ∧ s.store.pos + n ≤ 4096 := by
  unfold State.headFits at hfits
  split at hfits
  · exact absurd hfits (by simp)
  next h' hhead =>
    split at hfits
    · exact absurd hfits (by simp)
    next hopen =>
      simp only [Bool.or_eq_true, decide_eq_true_eq, not_or, Nat.not_lt] at hopen
      exact ⟨hhead.trans hfits, hopen.2⟩

/-- What `pick` answers is one of the list. -/
theorem pick_mem {α : Type} {l : List α} {u : State} {x : α} (h : s.pick l = (u, some x)) : x ∈ l := by
  unfold State.pick at h
  split at h
  · simp at h
  · simp at h
    simp [h]
  · exact List.mem_of_getElem? (Prod.mk.inj h).2

theorem pick_store {α : Type} {l : List α} {u : State} {x : Option α} (h : s.pick l = (u, x)) : u.store = s.store :=
  (only_of_forget (pick_eq (P := { free := true }) s l h rfl)).store rfl

theorem leastWorn_subset {l : List Nat} {n : Nat} (h : n ∈ s.leastWorn l) : n ∈ l := (List.mem_filter.1 h).1

/-! ### Appends (R398) -/

/-- What one free burst of an append stores: nothing, a record at the head, the header of an erased sector, or the erase of a
marked one. -/
def AppendStores (s t : State) : Prop :=
  t.store.mem = s.store.mem ∨
    (∃ h bs, s.store.head = some h ∧ s.store.pos + bs.length + 4 ≤ 4096 ∧
      t.store.mem = cellWrs 0xFF s.store.mem (secBase h + s.store.pos) bs) ∨
    (∃ n bs, n ∈ s.erasedSecs ∧ bs.length = 16 ∧ t.store.mem = cellWrs 0xFF s.store.mem (secBase n) bs) ∨
    (∃ n, n ∈ s.store.toErase ∧ t.store.mem = s.store.mem.filter (fun c => c.1 < secBase n || secBase (n + 1) ≤ c.1))

theorem deferItem_mem (it : Item) : (s.deferItem it).store.mem = s.store.mem :=
  Byteless.mem (by simp only [Byteless, deferItem_forget, beyondBytes_parts])

theorem startErase_mem (n : Nat) : (s.startErase n).store.mem = s.store.mem ∨
    (s.startErase n).store.mem = s.store.mem.filter (fun c => c.1 < secBase n || secBase (n + 1) ≤ c.1) := by
  unfold State.startErase
  split
  · exact .inr rfl
  · exact .inl rfl

theorem takeSeq_store {it : Item} {u : State} {n : Nat} (h : s.takeSeq it = (u, n)) :
    u.store.mem = s.store.mem ∧ u.store.pos = s.store.pos := by
  unfold State.takeSeq at h
  split at h
  · obtain ⟨rfl, -⟩ := Prod.mk.inj h
    exact ⟨rfl, rfl⟩
  · split at h
    · obtain ⟨rfl, -⟩ := Prod.mk.inj h
      exact ⟨rfl, rfl⟩
    · obtain ⟨rfl, -⟩ := Prod.mk.inj h
      simp only [State.modFront, modStore_store]
      split <;> exact ⟨rfl, rfl⟩

theorem appendItem_stores (it : Item) : AppendStores s (s.appendItem it) := by
  unfold State.appendItem
  dsimp only
  split
  · exact .inl rfl
  split
  next n rest hmarked =>
    split
    · split
      · exact .inl rfl
      · exact (startErase_mem n).imp_right fun h => .inr (.inr ⟨n, by simp [hmarked], h⟩)
    · exact .inl (deferItem_mem it)
  split
  next h hfits =>
    split
    · cases htake : s.takeSeq it with
      | mk u n =>
        obtain ⟨hmem, hpos⟩ := takeSeq_store htake
        obtain ⟨hhead, hroom⟩ := headFits_eq_some hfits
        refine .inr (.inl ⟨h, _, hhead, ?_, by rw [putRecord_mem, hmem, hpos]⟩)
        rw [Nat.add_assoc, recBytes_length]
        exact hroom
    · exact .inl (deferItem_mem it)
  split
  · exact .inl (Byteless.mem (by simp only [Byteless, busyItem_forget, beyondBytes_parts]))
  split
  · split
    next u n hpick =>
      obtain ⟨bs, hlen, hmem⟩ := openSector_mem u n false
      exact .inr (.inr (.inl ⟨n, bs, leastWorn_subset (pick_mem hpick), hlen, by rw [hmem, pick_store hpick]⟩))
    next u hpick => exact .inl (by rw [pick_store hpick])
  · exact .inl (deferItem_mem it)

theorem storeAppend_stores : AppendStores s (storeAppend s) := by
  unfold storeAppend
  split
  · exact .inl rfl
  split
  · exact .inl rfl
  split
  · split
    · exact .inl rfl
    · exact appendItem_stores _
  · exact appendItem_stores _

theorem appendLate_mem : s.appendLate.store.mem = s.store.mem := by
  unfold State.appendLate
  split
  · rfl
  · split
    · exact deferItem_mem _
    · rfl

theorem execStoreAppend_stores {t : State} (h : exec .storeAppend s = .next t) : AppendStores s t := by
  change execStoreAppend s = _ at h
  injection h with h
  rw [← h]
  split
  · split
    · exact storeAppend_stores
    · exact .inl appendLate_mem
  · exact .inl rfl

/-! ### The end of a burst (R400, R412) -/

/-- A burst of the store engine has its marker to come at `a`. -/
def MarkerDue (s : State) (a : Nat) : Prop :=
  (∃ h n, s.store.burst = some (.record h n (some a))) ∨ (∃ n c, s.store.burst = some (.header n c (some a))) ∨
    (∃ n, s.store.burst = some (.copy n (some a)))

theorem startMarker_mem (a : Nat) (b : Burst) : (s.startMarker a b).store.mem = s.store.mem ∨
    (s.startMarker a b).store.mem = cellWrs 0xFF s.store.mem a (leBytes 4 markerM) := by
  unfold State.startMarker
  dsimp only
  split
  · exact .inr rfl
  · left
    split
    · exact deferItem_mem _
    · exact deferItem_mem _
    · rfl

theorem commitItem_mem (host : Bool) : (s.commitItem host).store.mem = s.store.mem :=
  Byteless.mem (by simp only [Byteless, commitItem_forget, beyondBytes_parts])

/-- A burst that has read back stores nothing but the marker that it still lacks. -/
theorem burstGood_mem {b : Burst} (hb : s.store.burst = some b) : (s.burstGood b).store.mem = s.store.mem ∨
    ∃ a, MarkerDue s a ∧ (s.burstGood b).store.mem = cellWrs 0xFF s.store.mem a (leBytes 4 markerM) := by
  unfold State.burstGood
  split
  case h_1 h n a => exact (startMarker_mem a _).imp_right fun h' => ⟨a, .inl ⟨h, n, hb⟩, h'⟩
  case h_2 h n => exact .inl (commitItem_mem _)
  case h_3 n c a => exact (startMarker_mem a _).imp_right fun h' => ⟨a, .inr (.inl ⟨n, c, hb⟩), h'⟩
  case h_4 => exact .inl rfl
  case h_5 n a => exact (startMarker_mem a _).imp_right fun h' => ⟨a, .inr (.inr ⟨n, hb⟩), h'⟩
  case h_6 => exact .inl rfl
  case h_7 => exact .inl rfl

/-- A burst that has not read back leaves the array without a part of it. -/
theorem burstBad_mem (b : Burst) : (s.burstBad b).store.mem = (s.tear (s.store.span.2 - 1)).store.mem := by
  have hkept {u v : State} (h : Byteless u v) (hu : u.store.mem = (s.tear (s.store.span.2 - 1)).store.mem) :
      v.store.mem = (s.tear (s.store.span.2 - 1)).store.mem := h.mem.trans hu
  have hend : ((s.tear (s.store.span.2 - 1)).modStore (fun t => { t with burst := none })).store.mem =
      (s.tear (s.store.span.2 - 1)).store.mem := rfl
  unfold State.burstBad
  dsimp only
  split
  · exact hkept (by simp only [Byteless, failItem_forget, beyondBytes_parts]) hend
  · split
    · exact hkept (by simp only [Byteless, failCopy_forget, modStore_forget, beyondBytes_parts, implies_true]) hend
    · exact hkept (by simp only [Byteless, failNext_forget, modStore_forget, beyondBytes_parts, implies_true]) hend
  · exact hkept (by simp only [Byteless, failCopy_forget, beyondBytes_parts]) hend
  · exact hkept (by simp only [Byteless, failComp_forget, storeErr_forget, beyondBytes_parts]) hend

/-- What the end of a burst stores. -/
theorem programBurstDone_mem (ok : Bool) : (programBurstDone ok s).store.mem = s.store.mem ∨
    (ok = true ∧ ∃ a, MarkerDue s a ∧ (programBurstDone ok s).store.mem = cellWrs 0xFF s.store.mem a (leBytes 4 markerM)) ∨
    (ok = false ∧ s.store.burst.isSome = true ∧ s.store.gateWait = false ∧
      (programBurstDone ok s).store.mem = (s.tear (s.store.span.2 - 1)).store.mem) := by
  unfold programBurstDone
  split
  next b hb =>
    split
    · exact .inl rfl
    next hgate =>
      cases ok with
      | true => exact (burstGood_mem hb).imp_right fun h => .inl ⟨rfl, h⟩
      | false => exact .inr (.inr ⟨rfl, by rw [hb]; rfl, Bool.eq_false_iff.2 hgate, burstBad_mem b⟩)
  · split
    · split
      · exact .inl (Byteless.mem (by simp only [Byteless, eraseDone_forget, beyondBytes_parts]))
      · exact .inl rfl
    · exact .inl rfl

/-! ### Bursts and erases that are cut short (R404) -/

/-- The place from which a torn burst lacks its bytes. -/
def tornAt (s : State) (n : Nat) : Nat := (s.freeUpTo n).2

theorem tornAt_le (n : Nat) : tornAt s n ≤ n := Nat.le_of_lt_succ (Nat.mod_lt _ (Nat.succ_pos n))

/-- Bytes that read erased from `a` on, and every other byte as before. -/
theorem cellRd_erased (m : List Host.Cell) (a n x : Nat) :
    cellRd 0xFF (cellWrs 0xFF m a (List.replicate n 0xFF)) x = if a ≤ x ∧ x < a + n then 0xFF else cellRd 0xFF m x := by
  split
  next h =>
    obtain ⟨k, rfl⟩ := Nat.exists_eq_add_of_le h.1
    rw [cellRd_cellWrs_of_in 0xFF _ m a k (by rw [List.length_replicate]; omega), List.getElem_replicate]
  next h => exact cellRd_cellWrs_of_out 0xFF _ m a x (by rw [List.length_replicate]; omega)

/-- A torn burst lacks its bytes from a free place on, at most the `n`th (R404, R412). -/
theorem tear_part (n : Nat) (hn : n ≤ s.store.span.2) : PartBurst s (s.tear n) (tornAt s n) := by
  intro a
  have hk := tornAt_le (s := s) n
  change cellRd 0xFF (cellWrs 0xFF s.store.mem (s.store.span.1 + tornAt s n)
    (List.replicate (s.store.span.2 - tornAt s n) 0xFF)) a = _
  rw [cellRd_erased, Nat.add_assoc, Nat.add_sub_cancel' (Nat.le_trans hk hn)]

theorem tear_torn : BurstTorn s (s.tear (s.store.span.2 - 1)) := by
  have hk := tornAt_le (s := s) (s.store.span.2 - 1)
  exact ⟨_, tear_part _ (Nat.sub_le ..), fun _ => by omega⟩

/-- A torn burst leaves the bytes outside the burst alone. -/
theorem tear_other (n a : Nat) (hn : n ≤ s.store.span.2) (ha : a < s.store.span.1 ∨ s.store.span.1 + s.store.span.2 ≤ a) :
    cellRd 0xFF (s.tear n).store.mem a = cellRd 0xFF s.store.mem a := by
  rw [tear_part n hn, if_neg (by omega)]

/-- The `m` bytes that the erase of a sector leaves which is cut short. -/
def garbage (s : State) (m : Nat) : List Byte :=
  ((s.freeBytes m).2.headD 0 &&& 0x7F ||| 0x01) :: (s.freeBytes m).2.drop 1

theorem garbage_length (m : Nat) (hm : 0 < m) : (garbage s m).length = m := by
  simp [garbage, State.freeBytes]
  omega

theorem garble_mem (n : Nat) : (s.garble n).store.mem = cellWrs 0xFF s.store.mem (secBase n) (garbage s 4096) := by
  unfold State.garble
  generalize (4096 : Nat) = m
  rfl

/-- A cut erase leaves the bytes outside its sector alone. -/
theorem garble_other (n a : Nat) (ha : a < secBase n ∨ secBase (n + 1) ≤ a) :
    cellRd 0xFF (s.garble n).store.mem a = cellRd 0xFF s.store.mem a := by
  rw [garble_mem]
  refine cellRd_cellWrs_of_out 0xFF _ _ _ _ ?_
  rw [garbage_length 4096 (by omega)]
  unfold secBase at *
  omega

/-- The first byte of a sector whose erase was cut short: bit 7 is 0 and bit 0 is 1. -/
theorem garble_first (n : Nat) : ∃ b : Byte, cellRd 0xFF (s.garble n).store.mem (secBase n) = b &&& 0x7F ||| 0x01 := by
  refine ⟨(s.freeBytes 4096).2.headD 0, ?_⟩
  rw [garble_mem]
  generalize (4096 : Nat) = m
  exact cellRd_cellWrs_of_in 0xFF (garbage s m) s.store.mem (secBase n) 0 (by simp [garbage])

theorem garbled_ne (b : Byte) : b &&& 0x7F ||| 0x01 ≠ 0x4A ∧ b &&& 0x7F ||| 0x01 ≠ 0xFF := by
  revert b; decide

theorem mem_of_mapGet {α : Type} {l : List (Nat × α)} {k : Nat} {v : α} (h : mapGet l k = some v) : (k, v) ∈ l := by
  induction l with
  | nil => simp [mapGet] at h
  | cons x l ih =>
    obtain ⟨k', w⟩ := x
    rw [mapGet] at h
    split at h
    next heq =>
      cases h
      rw [heq]
      exact List.mem_cons_self
    · exact List.mem_cons_of_mem _ (ih h)

/-- A sector that does not read erased at its first byte is not erased. -/
theorem not_secErased {n : Nat} (h : cellRd 0xFF s.store.mem (secBase n) ≠ 0xFF) : s.secErased n = false := by
  cases hget : mapGet s.store.mem (secBase n) with
  | none => simp [cellRd, hget] at h
  | some b =>
    refine Bool.eq_false_iff.2 fun hall => ?_
    have hout := List.all_eq_true.1 hall _ (mem_of_mapGet hget)
    rw [Bool.or_eq_true, decide_eq_true_eq, decide_eq_true_eq, secBase, secBase] at hout
    omega

/-- A sector without the magic's first byte has no good phase 1. -/
theorem not_phase1 {n : Nat} (h : cellRd 0xFF s.store.mem (secBase n) ≠ 0x4A) : s.phase1 n = false := by
  have harr : (s.arr (secBase n) 4).head? = some (cellRd 0xFF s.store.mem (secBase n)) := rfl
  refine Bool.eq_false_iff.2 fun hmagic => h ?_
  obtain ⟨hmagic, -⟩ := (Bool.and_eq_true _ _).mp hmagic
  rw [eq_of_beq hmagic] at harr
  exact (Option.some.inj harr).symm

/-- A sector whose erase was cut short is neither phase 1 nor erased (R404, Table STORE-5). -/
theorem garble_header (n : Nat) : (s.garble n).phase1 n = false ∧ (s.garble n).secErased n = false := by
  obtain ⟨b, hb⟩ := garble_first (s := s) n
  obtain ⟨hmagic, herased⟩ := garbled_ne b
  exact ⟨not_phase1 (hb ▸ hmagic), not_secErased (hb ▸ herased)⟩

theorem phase1_of_mem {t : State} (h : t.store.mem = s.store.mem) (n : Nat) :
    t.phase1 n = s.phase1 n ∧ t.secErased n = s.secErased n := by
  unfold State.phase1 State.secErased State.arr32 State.arr
  rw [h]
  exact ⟨rfl, rfl⟩

/-- A loss of AON leaves the array as the cut leaves it (R385, R404). -/
theorem execAonPowerOn_mem {x : PowerOn} {t : State} (h : exec (.aonPowerOn x) s = .next t) :
    t.store.mem = s.storeCut.store.mem := by
  change execAonPowerOn x s = _ at h
  injection h with h
  rw [← h]
  change s.storeCut.keyCut.store.mem = _
  exact Byteless.mem (by simp only [Byteless, keyCut_forget, beyondBytes_parts])

/-! ### The energy gate (R399) -/

/-- A waiting marker goes on where the gate is open for it, and nothing else is stored. -/
theorem retryGate_mem : s.retryGate.store.mem = s.store.mem ∨ (s.store.gateWait = true ∧ ∃ b, s.store.burst = some b ∧
    s.retryGate.store.mem = cellWrs 0xFF s.store.mem (s.markerAddr b) (leBytes 4 markerM)) := by
  unfold State.retryGate
  extract_lets u
  have hu : u.store.mem = s.store.mem ∨ (s.store.gateWait = true ∧ ∃ b, s.store.burst = some b ∧
      u.store.mem = cellWrs 0xFF s.store.mem (s.markerAddr b) (leBytes 4 markerM)) := by
    unfold u
    split
    next b hgate hb =>
      split
      · exact .inr ⟨hgate, b, hb, rfl⟩
      · exact .inl rfl
    · exact .inl rfl
  clear_value u
  have hitem (it : Item) (p : Prop) [Decidable p] :
      (if p then u.setItem it .pending else u).store.mem = u.store.mem := by
    split
    · exact Byteless.mem (by simp only [Byteless, setItem_forget, beyondBytes_parts])
    · rfl
  split
  · exact hu
  · dsimp only
    rw [hitem]
    exact hu

/-- The array and the burst that waits for its marker are as before. -/
structure SameBurst (s t : State) : Prop where
  mem : t.store.mem = s.store.mem
  burst : t.store.burst = s.store.burst
  gateWait : t.store.gateWait = s.store.gateWait
  pos : t.store.pos = s.store.pos

theorem SameBurst.of_store {t : State} (h : t.store = s.store) : SameBurst s t := by
  constructor <;> rw [h]

theorem SameBurst.trans {t u : State} (h : SameBurst s t) (h' : SameBurst t u) : SameBurst s u :=
  ⟨h'.mem.trans h.mem, h'.burst.trans h.burst, h'.gateWait.trans h.gateWait, h'.pos.trans h.pos⟩

theorem SameBurst.after {t u : State} (h' : SameBurst u t) (h : u.store = s.store) : SameBurst s t :=
  (SameBurst.of_store h).trans h'

theorem raise_store (e : EvName) (d0 d1 : Word) : (s.raise e d0 d1).store = s.store := by
  unfold State.raise State.raiseAt
  dsimp only
  split <;> rfl

theorem fifoIn_store (x : Raised) : (s.fifoIn x).store = s.store := by
  unfold State.fifoIn
  split
  · rfl
  · dsimp only
    split <;> rfl

theorem jqueue_sameBurst (x : Raised) (p h : Bool) (q : Word) : SameBurst s (s.jqueue x p h q) := by
  unfold State.jqueue
  dsimp only
  split
  · exact ⟨rfl, rfl, rfl, rfl⟩
  · have hlost : SameBurst s ((s.satInc A.STORE_JLOST).modStore (fun t => { t with lost := t.lost + 1, full := true })) :=
      ⟨rfl, rfl, rfl, rfl⟩
    split
    · exact hlost.trans (.of_store (raise_store ..))
    · exact hlost

theorem holdRec_sameBurst (x : Raised) : SameBurst s (s.holdRec x) := by
  unfold State.holdRec
  dsimp only
  split
  · exact .of_store (fifoIn_store x)
  · split
    · exact .of_store (fifoIn_store _)
    · exact (jqueue_sameBurst ..).trans (.of_store (fifoIn_store _))

theorem writeRec_sameBurst (x : Raised) (held : Bool) (n lastTb : Nat) : SameBurst s (s.writeRec x held n lastTb) := by
  have hsame : SameBurst s s := .of_store rfl
  unfold State.writeRec
  dsimp only
  split
  · exact .of_store rfl
  split
  · have hdrop : SameBurst s (s.satInc A.REC_DROP_CNT) := .of_store rfl
    have hjq : SameBurst s (if x.sev.high && x.jq.isNone then
        (s.satInc A.REC_DROP_CNT).jqueue x (toProt s.rcd.p x.sev) held 0xFFFF else s.satInc A.REC_DROP_CNT) := by
      split
      · exact hdrop.trans (jqueue_sameBurst ..)
      · exact hdrop
    split
    · exact hjq.trans (.of_store (raise_store ..))
    · exact hjq
  · split
    · exact (jqueue_sameBurst ..).after rfl
    · exact .of_store rfl

theorem writeDue_sameBurst : SameBurst s s.writeDue := by
  unfold State.writeDue
  split
  · exact .of_store rfl
  · dsimp only
    split
    · exact (holdRec_sameBurst _).after rfl
    · exact (writeRec_sameBurst ..).after rfl

theorem writeDueN_sameBurst (n : Nat) : ∀ {s : State}, SameBurst s (s.writeDueN n) := by
  induction n with
  | zero => exact .of_store rfl
  | succ n ih => exact writeDue_sameBurst.trans ih

theorem drainDone_store : s.drainDone.store = s.store := by
  have hovf : (if s.rcd.ovf then (s.modRcd (fun r => { r with ovf := false })).raise evREC_HOLDOVF 0 0 else s).store =
      s.store := by
    split
    · exact raise_store ..
    · rfl
  unfold State.drainDone
  dsimp only
  split
  · rfl
  · split
    · exact hovf
    · exact (raise_store ..).trans hovf

/-- The end of a freeze makes records, whose event records may enter the journal queue, but programs nothing. -/
theorem thaw_sameBurst (c : ThawCause) : SameBurst s (s.thaw c) := by
  unfold State.thaw
  dsimp only
  split
  · have hflush : SameBurst s (s.modRcd (fun r => { r with freezePend := false })).flushDue :=
      (writeDueN_sameBurst _).after rfl
    exact hflush.trans (.of_store (drainDone_store.trans rfl))
  · exact .of_store rfl

/-- What opening the gate stores. -/
def GateStores (s t : State) : Prop :=
  t.store.mem = s.store.mem ∨ (s.store.gateWait = true ∧ ∃ b, s.store.burst = some b ∧
    t.store.mem = cellWrs 0xFF s.store.mem (s.markerAddr b) (leBytes 4 markerM))

theorem GateStores.of_sameBurst {u : State} (h : SameBurst s u) : GateStores s u.retryGate := by
  have hmarker (b : Burst) : u.markerAddr b = s.markerAddr b := by
    cases b <;> simp [State.markerAddr, h.pos]
  obtain hsame | ⟨hgate, b, hb, hstored⟩ := retryGate_mem (s := u)
  · exact .inl (hsame.trans h.mem)
  · exact .inr ⟨h.gateWait ▸ hgate, b, h.burst ▸ hb, by rw [hstored, hmarker, h.mem]⟩

/-- Every part of the state but the store engine. -/
def beyondStore : Parts := raising { everything with lands := true }

theorem sameBurst_of_frame {u : State} (h : forget beyondStore u = forget beyondStore s) : SameBurst s u :=
  .of_store ((only_of_forget h).store rfl)

theorem beyondStore_parts : MayRaise beyondStore ∧ (∀ r, beyondStore.Has r) ∧ (∀ a, beyondStore.covers a = true) ∧
    beyondStore.free = true ∧ beyondStore.ops = true ∧ beyondStore.tim = true ∧ beyondStore.hb = true ∧
    beyondStore.bank = true ∧ beyondStore.ax = true ∧ beyondStore.img = true ∧ beyondStore.pwr = true := by
  have hblks : ∀ b, b ∈ beyondStore.blks := mem_allBlocks
  exact ⟨mayRaise_raising _, has_all hblks, covers_all hblks, rfl, rfl, rfl, rfl, rfl, rfl, rfl, rfl⟩

theorem energyEstimate_stores (vmain vbak vio : Word) : GateStores s (energyEstimate vmain vbak vio s) := by
  refine GateStores.of_sameBurst (sameBurst_of_frame ?_)
  simp only [judgeCharger_forget, judgeVbak_forget, judgeEnergy_forget, wr_forget, measured_forget, beyondStore_parts]

theorem vmainFail_stores (t : Nat) (vmain vbak : Word) : GateStores s (vmainFail t vmain vbak s) := by
  unfold vmainFail
  dsimp only
  split
  · have hfirst {u : State} (hu : u.store = s.store) : SameBurst s ((((((u.measured vmain vbak).satInc A.PWR_LOSSCNT).abortAll).abortBoot).banksSafe t).thaw .handover) := by
      refine SameBurst.trans (SameBurst.trans (.of_store hu) (sameBurst_of_frame ?_)) (thaw_sameBurst _)
      simp only [banksSafe_forget, abortBoot_forget, abortAll_forget, satInc_forget, measured_forget, beyondStore_parts]
    have hgate := GateStores.of_sameBurst ((hfirst (u := s.modPwr (fun p =>
      { p with
        st := .critical, t0 := s.clk.ticks, step := 0, dwell := none, vmainOk := false, bounceArm := false, bounces := 0
        starts := [], begun := [], flushed := false })) rfl).trans (.of_store (raise_store evPWR_LOSS vmain vbak)))
    split
    · unfold GateStores at *
      rwa [Byteless.mem (releaseOwner_forget beyondBytes _ t 5 beyondBytes_parts.2.1 rfl rfl rfl rfl
        (beyondBytes_parts.2.2.2.1 _) (beyondBytes_parts.2.2.2.1 _))]
    · exact hgate
  · exact .inl rfl

/-! ### Compaction (R401 to R403) -/

/-- What one step of compaction stores: nothing, a copy at the head, a header, a release marker, or an erase. -/
def CompactionStores (s t : State) : Prop :=
  t.store.mem = s.store.mem ∨
    (∃ h bs, s.store.head = some h ∧ s.store.pos + bs.length + 4 ≤ 4096 ∧
      t.store.mem = cellWrs 0xFF s.store.mem (secBase h + s.store.pos) bs) ∨
    (∃ n bs, n ∈ s.erasedSecs ∧ bs.length = 16 ∧ t.store.mem = cellWrs 0xFF s.store.mem (secBase n) bs) ∨
    (∃ n, ((∃ c, s.store.comp = some c ∧ c.victim = n) ∨ n ∈ s.sealedSecs) ∧
      t.store.mem = cellWrs 0xFF s.store.mem (secBase n + 20) (leBytes 4 markerM)) ∨
    (∃ n, ((∃ c, s.store.comp = some c ∧ c.victim = n) ∨ n ∈ s.store.toErase) ∧
      t.store.mem = s.store.mem.filter (fun c => c.1 < secBase n || secBase (n + 1) ≤ c.1))

/-- The copy of a record fits where its record fits: its payload has the record's length. -/
theorem payload_length (x : RecAt) : (s.payload x).length = x.n := by simp [State.payload]

/-- The next burst of a step on `c`: what it stores, where the victim has not been released yet its release marker. -/
theorem compNext_mem (c : Comp) : (s.compNext c).store.mem = s.store.mem ∨
    (∃ h bs, s.store.head = some h ∧ s.store.pos + bs.length + 4 ≤ 4096 ∧
      (s.compNext c).store.mem = cellWrs 0xFF s.store.mem (secBase h + s.store.pos) bs) ∨
    (∃ n bs, n ∈ s.erasedSecs ∧ bs.length = 16 ∧ (s.compNext c).store.mem = cellWrs 0xFF s.store.mem (secBase n) bs) ∨
    (c.released = false ∧ (s.compNext c).store.mem = cellWrs 0xFF s.store.mem (secBase c.victim + 20) (leBytes 4 markerM)) ∨
    (c.released = true ∧ (s.compNext c).store.mem =
      s.store.mem.filter (fun x => x.1 < secBase c.victim || secBase (c.victim + 1) ≤ x.1)) := by
  unfold State.compNext
  split
  · split
    · exact .inl rfl
    next x hx =>
      split
      next h hfits =>
        obtain ⟨hhead, hroom⟩ := headFits_eq_some hfits
        refine .inr (.inl ⟨h, _, hhead, ?_, rfl⟩)
        rw [Nat.add_assoc, recBytes_length, payload_length]
        exact hroom
      · split
        next u n hpick =>
          obtain ⟨bs, hlen, hmem⟩ := openSector_mem u n true
          exact .inr (.inr (.inl ⟨n, bs, leastWorn_subset (pick_mem hpick), hlen, by rw [hmem, pick_store hpick]⟩))
        next u hpick => exact .inl (by rw [pick_store hpick])
  · split
    next hreleased => exact .inr (.inr (.inr (.inr ⟨hreleased, rfl⟩)))
    next hreleased => exact .inr (.inr (.inr (.inl ⟨Bool.eq_false_iff.2 hreleased, rfl⟩)))

theorem leastBy_subset {f : Nat → Nat} {l : List Nat} {n : Nat} (h : n ∈ leastBy f l) : n ∈ l := (List.mem_filter.1 h).1

theorem victim_mem {l : List Nat} {u : State} {n : Nat} (h : s.victim l = (u, some n)) : n ∈ l :=
  leastBy_subset (leastBy_subset (pick_mem h))

theorem victim_store {l : List Nat} {u : State} {x : Option Nat} (h : s.victim l = (u, x)) : u.store = s.store := pick_store h

/-- A step begins on a sealed sector, which it has not released, or finds none. -/
theorem startComp_store (w : CompWhy) : (s.startComp w).store = s.store ∨
    ∃ c, c.victim ∈ s.sealedSecs ∧ c.released = false ∧ c.erasing = false ∧
      (s.startComp w).store = { s.store with comp := some c } := by
  have hdead {n : Nat} (h : n ∈ s.deadSecs) : n ∈ s.sealedSecs := (List.mem_filter.1 h).1
  unfold State.startComp
  extract_lets r
  have hr : r.1.store = s.store ∧ ∀ v, r.2 = some v → v ∈ s.sealedSecs := by
    unfold r
    split
    · exact ⟨victim_store rfl, fun v hv => hdead (victim_mem (Prod.ext rfl hv))⟩
    · split
      · exact ⟨pick_store rfl, fun v hv => leastBy_subset (pick_mem (Prod.ext rfl hv))⟩
      · exact ⟨victim_store rfl, fun v hv => victim_mem (Prod.ext rfl hv)⟩
    · exact ⟨victim_store rfl, fun v hv => victim_mem (Prod.ext rfl hv)⟩
  clear_value r
  obtain ⟨hstore, hvictim⟩ := hr
  split
  · exact .inl hstore
  next u v =>
    right
    extract_lets all todo
    refine ⟨⟨v, todo, false, false, w, false⟩, hvictim v rfl, rfl, rfl, ?_⟩
    rw [modStore_store, hstore]

/-- The erased sectors where a step that erases nothing runs are those from before it. -/
theorem erasedSecs_of_store {u : State} {c : Comp} (hnone : s.store.comp = none) (herasing : c.erasing = false)
    (hu : u.store = { s.store with comp := some c }) : u.erasedSecs = s.erasedSecs := by
  unfold State.erasedSecs State.secErased
  rw [hu, hnone]
  simp [herasing]

theorem compBurst_stores {c : Comp} (hc : s.store.comp = some c) : CompactionStores s (s.compBurst c) := by
  unfold State.compBurst
  split
  · obtain h | h | h | ⟨-, h⟩ | ⟨-, h⟩ := compNext_mem (s := s) c
    · exact .inl h
    · exact .inr (.inl h)
    · exact .inr (.inr (.inl h))
    · exact .inr (.inr (.inr (.inl ⟨_, .inl ⟨c, hc, rfl⟩, h⟩)))
    · exact .inr (.inr (.inr (.inr ⟨_, .inl ⟨c, hc, rfl⟩, h⟩)))
  · exact .inl rfl

/-- The first burst of a step that begins now. -/
theorem firstBurst_stores {u : State} {c : Comp} (hnone : s.store.comp = none) (hvictim : c.victim ∈ s.sealedSecs)
    (hreleased : c.released = false) (herasing : c.erasing = false) (hu : u.store = { s.store with comp := some c }) :
    CompactionStores s (u.compBurst c) := by
  have hmem : u.store.mem = s.store.mem := by rw [hu]
  have hhead : u.store.head = s.store.head ∧ u.store.pos = s.store.pos := by rw [hu]; exact ⟨rfl, rfl⟩
  unfold State.compBurst
  split
  · have h := compNext_mem (s := u) c
    rw [hmem, hhead.1, hhead.2, erasedSecs_of_store hnone herasing hu] at h
    obtain h | h | h | ⟨-, h⟩ | ⟨h, -⟩ := h
    · exact .inl h
    · exact .inr (.inl h)
    · exact .inr (.inr (.inl h))
    · exact .inr (.inr (.inr (.inl ⟨_, .inr hvictim, h⟩)))
    · rw [hreleased] at h
      exact Bool.noConfusion h
  · exact .inl hmem

theorem compactionStep_stores : CompactionStores s (compactionStep s) := by
  unfold compactionStep
  split
  next c hc =>
    split
    · exact .inl rfl
    · exact compBurst_stores hc
  next hnone =>
    split
    next n rest hmarked =>
      exact (startErase_mem n).imp_right fun h => .inr (.inr (.inr ⟨n, .inr (by simp [hmarked]), h⟩))
    · split
      · exact .inl rfl
      next w _ =>
        dsimp only
        obtain hstore | ⟨c, hvictim, hreleased, herasing, hstore⟩ := startComp_store (s := s) w
        · rw [hstore, hnone]
          exact .inl (by rw [hstore])
        · rw [hstore]
          exact firstBurst_stores hnone hvictim hreleased herasing hstore

/-! ### The loss of AON (R404) -/

/-- The burst in progress is cut short. -/
def cutBurst (s : State) : State :=
  if s.store.burst.isSome && !s.store.gateWait then s.tear s.store.span.2 else s

theorem cutBurst_comp : (cutBurst s).store.comp = s.store.comp := by
  unfold cutBurst
  split <;> rfl

theorem cutBurst_part (hburst : s.store.burst.isSome = true) (hgate : s.store.gateWait = false) :
    ∃ k, PartBurst s (cutBurst s) k := by
  unfold cutBurst
  rw [if_pos (by simp [hburst, hgate])]
  exact ⟨_, tear_part _ (Nat.le_refl _)⟩

theorem cutBurst_other {a : Nat} (ha : s.store.burst.isSome = true → s.store.gateWait = false →
    a < s.store.span.1 ∨ s.store.span.1 + s.store.span.2 ≤ a) :
    cellRd 0xFF (cutBurst s).store.mem a = cellRd 0xFF s.store.mem a := by
  unfold cutBurst
  split
  next hcut =>
    simp only [Bool.and_eq_true, Bool.not_eq_true'] at hcut
    exact tear_other _ _ (Nat.le_refl _) (ha hcut.1 hcut.2)
  · rfl

theorem storeCut_of_erasing {c : Comp} (hc : s.store.comp = some c) (herasing : c.erasing = true) :
    s.storeCut = (cutBurst s).garble c.victim := by
  change (match (cutBurst s).store.comp with
    | some c => if c.erasing then (cutBurst s).garble c.victim else cutBurst s
    | none => cutBurst s) = _
  rw [cutBurst_comp, hc]
  exact if_pos herasing

theorem storeCut_of_not_erasing (h : ∀ c, s.store.comp = some c → c.erasing = false) : s.storeCut = cutBurst s := by
  change (match (cutBurst s).store.comp with
    | some c => if c.erasing then (cutBurst s).garble c.victim else cutBurst s
    | none => cutBurst s) = _
  rw [cutBurst_comp]
  split
  next c hc => rw [if_neg (by rw [h c hc]; exact Bool.false_ne_true)]
  · rfl

/-- The step in progress, if one, erases a sector or it does not. -/
theorem erasing_or_not (s : State) : (∃ c, s.store.comp = some c ∧ c.erasing = true) ∨
    ∀ c, s.store.comp = some c → c.erasing = false := by
  by_cases h : ∃ c, s.store.comp = some c ∧ c.erasing = true
  · exact .inl h
  · exact .inr fun c hc => Bool.eq_false_iff.2 fun he => h ⟨c, hc, he⟩

theorem storeCut_other {a : Nat} (hburst : s.store.burst.isSome = true → s.store.gateWait = false →
      a < s.store.span.1 ∨ s.store.span.1 + s.store.span.2 ≤ a)
    (hcomp : ∀ c, s.store.comp = some c → c.erasing = true → a < secBase c.victim ∨ secBase (c.victim + 1) ≤ a) :
    cellRd 0xFF s.storeCut.store.mem a = cellRd 0xFF s.store.mem a := by
  obtain ⟨c, hc, herasing⟩ | hnot := erasing_or_not s
  · rw [storeCut_of_erasing hc herasing, garble_other _ _ (hcomp c hc herasing), cutBurst_other hburst]
  · rw [storeCut_of_not_erasing hnot, cutBurst_other hburst]

end Stores

/-! ### The statements -/

/-- The array does not change form by what an append, a compaction step or the gate stores. -/
theorem arrayOk_of_append {s t : State} (hs : cellsOk 0xFF s.store.mem = true) (h : AppendStores s t) :
    cellsOk 0xFF t.store.mem = true := by
  obtain h | ⟨_, bs, -, -, h⟩ | ⟨_, bs, -, -, h⟩ | ⟨_, -, h⟩ := h <;> rw [h]
  · exact hs
  · exact cellsOk_cellWrs bs _ hs
  · exact cellsOk_cellWrs bs _ hs
  · exact cellsOk_filter _ hs

theorem arrayOk_of_compaction {s t : State} (hs : cellsOk 0xFF s.store.mem = true) (h : CompactionStores s t) :
    cellsOk 0xFF t.store.mem = true := by
  obtain h | ⟨_, bs, -, -, h⟩ | ⟨_, bs, -, -, h⟩ | ⟨_, -, h⟩ | ⟨_, -, h⟩ := h <;> rw [h]
  · exact hs
  · exact cellsOk_cellWrs bs _ hs
  · exact cellsOk_cellWrs bs _ hs
  · exact cellsOk_cellWrs _ _ hs
  · exact cellsOk_filter _ hs

theorem arrayOk_of_gate {s t : State} (hs : cellsOk 0xFF s.store.mem = true) (h : GateStores s t) :
    cellsOk 0xFF t.store.mem = true := by
  obtain h | ⟨-, _, -, h⟩ := h <;> rw [h]
  · exact hs
  · exact cellsOk_cellWrs _ _ hs

theorem execEnergyEstimate_stores {s t : State} {vmain vbak vio : Word}
    (h : exec (.energyEstimate vmain vbak vio) s = .next t) : GateStores s t := by
  change execEnergyEstimate vmain vbak vio s = _ at h
  injection h with h
  rw [← h]
  split
  · exact .inl rfl
  · exact energyEstimate_stores ..

theorem execVmainFail_stores {s t : State} {at' : Fin 200} {vmain vbak : Word}
    (h : exec (.vmainFail at' vmain vbak) s = .next t) : GateStores s t := by
  change execVmainFail at' vmain vbak s = _ at h
  injection h with h
  exact h ▸ vmainFail_stores ..

theorem execCompactionStep_stores {s t : State} (h : exec .compactionStep s = .next t) : CompactionStores s t := by
  change execCompactionStep s = _ at h
  injection h with h
  rw [← h]
  split
  · exact compactionStep_stores
  · exact .inl rfl

theorem execProgramBurstDone_eq {s t : State} {ok : Bool} (h : exec (.programBurstDone ok) s = .next t) :
    programBurstDone ok s = t := by
  change execProgramBurstDone ok s = _ at h
  injection h

/-- Settles O49: each command's stores are those of the one burst, erase or cut that it comes to. -/
theorem arrayBytesStored : Obligations.ArrayBytesStored := by
  intro s t
  refine ⟨execStoreAppend_stores, fun ok h => ?burst, fun x h => ?cut, fun vmain vbak at' vio h => ?gate,
    execCompactionStep_stores⟩
  case burst =>
    rw [← execProgramBurstDone_eq h]
    obtain hsame | hmarker | ⟨hok, hburst, hgate, htorn⟩ := programBurstDone_mem (s := s) ok
    · exact .inl hsame
    · exact .inr (.inl hmarker)
    · obtain ⟨k, hpart, hk⟩ := tear_torn (s := s)
      exact .inr (.inr ⟨hok, hburst, hgate, k, fun a => by rw [htorn]; exact hpart a, hk⟩)
  case cut =>
    have hmem := execAonPowerOn_mem h
    refine ⟨fun a hburst hcomp => ?_, fun hburst hgate hnot => ?_, fun c hc herasing => ?_⟩
    · rw [hmem, storeCut_other hburst hcomp]
    · obtain ⟨k, hpart⟩ := cutBurst_part hburst hgate
      exact ⟨k, fun a => by rw [hmem, storeCut_of_not_erasing hnot]; exact hpart a⟩
    · obtain ⟨hphase, herased⟩ := phase1_of_mem hmem c.victim
      rw [hphase, herased, storeCut_of_erasing hc herasing]
      exact garble_header _
  case gate => exact h.elim execEnergyEstimate_stores execVmainFail_stores

/-- The abort of a slot write keeps the form of the array (R142). -/
theorem stopWrite_arrayOk {s : State} (l : Load) (i : Fin 8) (fail : Nat) (hs : cellsOk 0xFF s.store.mem = true) :
    cellsOk 0xFF (s.stopWrite l i fail).store.mem = true := by
  have hend (u : State) : (u.endLoad.endSlot i .aborted fail).store.mem = u.store.mem :=
    Byteless.mem (by simp only [Byteless, endSlot_forget, endLoad_forget, beyondBytes_parts])
  unfold State.stopWrite
  split
  · rw [hend]
    exact hs
  split
  · rw [hend]
    exact eraseBytes_ok _ hs
  · exact hs

/-- A part of a slot write keeps the form of the array (R79). -/
theorem slotWriteBurst_arrayOk {s : State} (l : Load) (i : Fin 8) (ok : Bool) (hs : cellsOk 0xFF s.store.mem = true) :
    cellsOk 0xFF (slotWriteBurst l i ok s).store.mem = true := by
  have hkept {u v : State} (h : Byteless u v) (hu : cellsOk 0xFF u.store.mem = true) : cellsOk 0xFF v.store.mem = true := by
    rw [h.mem]
    exact hu
  unfold slotWriteBurst
  dsimp only
  split
  · exact stopWrite_arrayOk _ _ _ hs
  split
  · have hpart := writePart_ok l ok hs
    generalize s.writePart l ok = p at hpart
    obtain ⟨u, l'⟩ := p
    have hload : cellsOk 0xFF ((u.modImg (fun x => { x with load := some l' })).modSlot i
      (fun x => { x with progress := max x.progress (l'.progress l'.len) })).store.mem = true := hpart
    dsimp only
    split
    · exact stopWrite_arrayOk _ _ _ hload
    split
    · exact hload
    split
    · exact hkept (by simp only [Byteless, failLoad_forget, beyondBytes_parts]) hload
    · exact hkept (by simp only [Byteless, doneLoad_forget, beyondBytes_parts]) hload
  · exact hs

theorem execSlotWriteBurst_arrayOk {s t : State} {ok : Bool} (h : exec (.slotWriteBurst ok) s = .next t)
    (hs : cellsOk 0xFF s.store.mem = true) : cellsOk 0xFF t.store.mem = true := by
  change execSlotWriteBurst ok s = _ at h
  injection h with h
  rw [← h]
  unfold State.whenUp
  dsimp only
  split
  · split
    · exact hs
    · split
      · split
        · exact slotWriteBurst_arrayOk _ _ _ hs
        · exact hs
      · exact hs
  · exact hs

/-- The canonical form of the array is kept by every command. -/
theorem exec_arrayOk {i : Instr} {s t : State} (h : exec i s = .next t) (hs : cellsOk 0xFF s.store.mem = true) :
    cellsOk 0xFF t.store.mem = true := by
  have hframe (hmem : (mayChange i).mem = false) : cellsOk 0xFF t.store.mem = true := by
    rw [(exec_only h).mem hmem]
    exact hs
  cases i
  case slotWriteBurst ok => exact execSlotWriteBurst_arrayOk h hs
  case storeAppend => exact arrayOk_of_append hs (execStoreAppend_stores h)
  case compactionStep => exact arrayOk_of_compaction hs (execCompactionStep_stores h)
  case energyEstimate => exact arrayOk_of_gate hs (execEnergyEstimate_stores h)
  case vmainFail => exact arrayOk_of_gate hs (execVmainFail_stores h)
  case aonPowerOn =>
    rw [execAonPowerOn_mem h]
    exact storeCut_ok hs
  case programBurstDone ok =>
    rw [← execProgramBurstDone_eq h]
    obtain h | ⟨-, a, -, h⟩ | ⟨-, -, -, h⟩ := programBurstDone_mem (s := s) ok <;> rw [h]
    · exact hs
    · exact cellsOk_cellWrs _ _ hs
    · exact tear_ok _ hs
  all_goals exact hframe rfl

/-- Settles O51: an idle step changes nothing, and every command keeps both forms. -/
theorem byteFormsKept : Obligations.ByteFormsKept := by
  intro s t hmem hwin h
  unfold step at h
  split at h
  · injection h with h
    exact h ▸ ⟨hmem, hwin⟩
  · exact ⟨exec_arrayOk h hmem, exec_windowOk h hwin⟩

end Sys2Proof.Proofs
end


section
/-! SUPPORT. What the end and the start of a tick leave alone: a host error of a bank's thresholds stays in the bank (R20, R229),
and no engine's work at a tick reaches the clock (R93). -/
namespace Sys2Proof.Proofs
open Sys2Proof.Machine Sys2Proof.Safety Sys2Proof.Laws

/-! ### Rows of a bank's block -/

theorem mem_of_findRow {a : Nat} {row : RegRow} {ix : List Nat} (l : List RegRow) (h : findRow l a = some (row, ix)) :
    row ∈ l := by
  induction l with
  | nil => exact absurd h (by simp [findRow])
  | cons r l ih =>
    rw [findRow] at h
    split at h
    · cases h
      exact List.mem_cons_self
    · exact List.mem_cons_of_mem _ (ih h)

/-- The row of an address is one of its block. -/
theorem row_mem_of_lookup {a : Nat} {row : RegRow} {ix : List Nat} (h : lookup a = some (row, ix)) :
    row ∈ rowsOf (blkOf a) := mem_of_findRow _ h

/-- Registers whose writes start an operation of a block with a domain of its own, but GATE_AMP. -/
def startsOp : Reg → Bool
  | .BANK_ARM | .GSUP_FLT | .GATE_FLT | .PROT_BFLT | .PROT_CHFLT | .AX_CMD | .FUS_HINJ_0 | .SCH_CANCEL | .SCH_SECT_0
  | .SCH_IN_0 | .SOL_CLR | .PAIR_CMD | .CAN_TXREQ | .CAN_TXABORT => true
  | _ => false

/-- Of a bank's registers a host error spares those that start an operation (R20, notes/assumptions/25.md). -/
theorem bank_startsOp_spared : ∀ row ∈ rows_bank, spared row.reg = false → startsOp row.reg = false := by decide +kernel

/-- Registers of which another block takes up what a write has stored. -/
def actsAfter : Reg → Bool
  | .PAIR_CTL | .FUS_EPOCH | .SOL_FALL | .CAN_CTL | .CAN_NBT | .CAN_NBT2 | .CAN_DBT | .CAN_DBT2 | .CAN_TDC => true
  | _ => false

theorem bank_afterStore : ∀ row ∈ rows_bank, actsAfter row.reg = false ∧ row.reg ≠ .BUF_ID_LO ∧ row.reg ≠ .BUF_MASK_LO := by
  decide +kernel

/-! ### A host error in a bank's block (R20) -/

/-- What the end of a tick may reach: the words and the engines of the banks, the LIMITS report, and the recorder. -/
def tickReach : Parts :=
  recording { regs := [.IMG_LIMSAT, .IMG_LIMLAST, .AX_HALL, .GATE_BSTUVCNT, .GATE_FLT], blks := [.bank], free := true, link := true
              ops := true, can := true, tim := true, hb := true, bank := true, ax := true, pair := true }

theorem tickReach_parts : MayRecord tickReach ∧ MayRaise tickReach ∧ tickReach.Has .IMG_LIMLAST ∧ tickReach.Has .IMG_LIMSAT ∧
    tickReach.Has .AX_HALL ∧ tickReach.Has .GATE_BSTUVCNT ∧ tickReach.Has .GATE_FLT ∧ tickReach.free = true ∧
    tickReach.link = true ∧ tickReach.ops = true ∧ tickReach.can = true ∧ tickReach.tim = true ∧ tickReach.hb = true ∧
    tickReach.bank = true ∧ tickReach.ax = true ∧ tickReach.pair = true ∧ tickReach.fresh = true ∧ tickReach.rcd = true := by
  exact ⟨mayRecord_recording _, mayRaise_raising _, has_of_mem (by decide), has_of_mem (by decide),
    has_of_mem (by decide), has_of_mem (by decide), has_of_mem (by decide), rfl, rfl, rfl, rfl, rfl, rfl, rfl, rfl, rfl, rfl, rfl⟩

theorem tickReach_bank {a : Nat} (h : blkOf a = .bank) : tickReach.covers a = true := covers_blk h (by decide)

/-- A step stays within the end of a tick's reach. -/
abbrev TickCalm (s t : State) : Prop := forget tickReach t = forget tickReach s

section BankWrite
variable {s : State} {t a : Nat} {d : Word} (ha : blkOf a = .bank)
include ha

theorem storeWord_tickCalm : TickCalm s (s.storeWord t a d) := by
  simp only [TickCalm, storeWord_forget, tickReach_parts, tickReach_bank ha]

theorem writeBlock_tickCalm {r : Reg} {ix : List Nat} (hr : startsOp r = false) : TickCalm s (s.writeBlock t a d r ix) := by
  have hamp (h : Fin 72) : TickCalm s (ampWrite t a h d s) :=
    (modHb_forget _ _ _ _ rfl).trans (storeWord_tickCalm ha)
  unfold State.writeBlock
  dsimp only
  split
  case h_4 => exact hamp _
  case h_16 => exact storeWord_tickCalm ha
  all_goals exact absurd hr (by decide)

omit ha in
/-- What a bank's word has stored is taken up by an axis' Hall settings at most. -/
theorem afterStore_tickCalm {r : Reg} {ix : List Nat} {w : Word} (hr : actsAfter r = false) :
    TickCalm s (s.afterStore a r ix w) := by
  unfold State.afterStore
  split
  case h_4 | h_5 => split <;> simp only [TickCalm, hallConfig_forget, tickReach_parts]
  case h_12 => rfl
  all_goals exact absurd hr (by decide)

/-- A legal write of a bank's word that starts no operation stays in the bank's reach. -/
theorem writeLegal_tickCalm {row : RegRow} {ix : List Nat} (hrow : lookup a = some (row, ix))
    (hspared : spared row.reg = false) : TickCalm s (s.writeLegal t a d) := by
  have hmem : row ∈ rows_bank := by
    have := row_mem_of_lookup hrow
    rwa [ha] at this
  have hop := bank_startsOp_spared row hmem hspared
  obtain ⟨hacts, hid, hmask⟩ := bank_afterStore row hmem
  have hdom : domOfAddr a = some ((a - 0x2000) / 0x400) := by rw [domOfAddr, ha]
  unfold State.writeLegal
  rw [hrow]
  dsimp only
  split
  · split
    · refine bounded_forget _ _ _ _ _ _ tickReach_parts.2.1 tickReach_parts.2.2.1 tickReach_parts.2.2.2.1 fun _ _ => ?_
      simp only [setStaged_forget, tickReach_parts]
    · rw [hdom]
      split
      next h => exact absurd h (by simp)
      next h => exact absurd h hid
      next h => exact absurd h hmask
      · exact (afterStore_tickCalm hacts).trans (writeBlock_tickCalm ha hop)
  · rfl

/-- The result of a host error in a bank's block stays in the bank's reach (R20). -/
theorem hostErr_tickCalm : TickCalm s (s.hostErr t a) := by
  refine (each_forget _ _ _ (fun u p => ?_) _).trans (took_forget _ _ rfl)
  split
  next hreach =>
    simp only [State.reaches, Bool.and_eq_true] at hreach
    obtain ⟨hblock, hword⟩ := hreach
    have hbank : blkOf p.1 = .bank := by
      simp only [sameBlock, Bool.and_eq_true, beq_iff_eq] at hblock
      rw [← hblock.1.1, ha]
    split at hword
    · exact absurd hword Bool.false_ne_true
    next row ix hrow =>
      simp only [Bool.and_eq_true, Bool.not_eq_true'] at hword
      exact writeLegal_tickCalm hbank hrow hword.1
  · rfl

end BankWrite

/-! ### The ends of a tick (R93, R229) -/

theorem blkOf_thresholds (b : Fin 8) : blkOf (A.PROT_VOV1_ON b.val) = .bank ∧ blkOf (A.PROT_VOV1_OFF b.val) = .bank ∧
    blkOf (A.PROT_VOV2 b.val) = .bank := by revert b; decide +kernel

theorem takeVov_tickCalm (s : State) (b : Fin 8) : TickCalm s (s.takeVov b) := by
  obtain ⟨hon, hoff, hvov2⟩ := blkOf_thresholds b
  unfold State.takeVov
  dsimp only
  split
  · rfl
  · split
    · simp only [TickCalm, modBank_forget, tickReach_parts]
    · refine (hostErr_tickCalm hon).trans ?_
      simp only [wr_forget, tickReach_bank hon, tickReach_bank hoff, tickReach_bank hvov2]

theorem endTick_tickCalm (s : State) : TickCalm s s.endTick := by
  simp only [TickCalm, State.endTick, applyFreeze_forget, flushDue_forget, tickReach_parts]
  exact each_forget _ _ _ takeVov_tickCalm _

theorem startTick_tickCalm (s : State) : TickCalm s s.startTick := by
  simp only [TickCalm, startTick_forget, tickReach_parts]

theorem whenUp_tickCalm {f : State → State} (hf : ∀ s, TickCalm s (f s)) (s : State) : TickCalm s (s.whenUp f) := by
  unfold State.whenUp
  split
  · exact hf s
  · rfl

theorem TickCalm.clk {s t : State} (h : TickCalm s t) : t.clk = s.clk := (only_of_forget h).clk rfl

theorem TickCalm.rd {s t : State} (h : TickCalm s t) {a : Nat} (ha : tickReach.covers a = false) : t.rd a = s.rd a :=
  (only_of_forget h).regs a ha

/-! ### The status bits at the start of a tick -/

theorem ownFault_rings {s₀ s : State} (h : Rings s₀ s) : Rings s₀ s.ownFault := by
  unfold State.ownFault
  split
  · exact h
  · exact raise_rings (modPair_rings h)

theorem watchOwnIn_rings {s₀ s : State} {t : Nat} (h : Rings s₀ s) : Rings s₀ (s.watchOwnIn t) := by
  unfold State.watchOwnIn
  extract_lets since
  split
  · exact ownFault_rings h
  · exact h

theorem keepAlive_rings {s₀ s : State} {t : Nat} (h : Rings s₀ s) : Rings s₀ (s.keepAlive t) := by
  unfold State.keepAlive
  split
  · exact releaseOwner_rings h
  · exact h

/-- The start of a tick clears no status bit. -/
theorem startTick_rings {s₀ s : State} (h : Rings s₀ s) : Rings s₀ s.startTick := by
  have habort {u : State} (c : Fin 2) (hu : Rings s₀ u) : Rings s₀ (if u.dom 11 then u.settleAborts c else u) := by
    split
    · exact rings_of_forget (settleAborts_forget mute _ _ rfl rfl) hu
    · exact hu
  have hcan : Rings s₀ (s.drain.each [0, 1] (fun s c => if s.dom 11 then s.settleAborts c else s)) :=
    each_rings (fun _ c => habort c) (drain_rings h)
  have hcount := rings_of_forget (countDeferred_forget mute _ rfl) hcan
  exact keepAlive_rings (watchOwnIn_rings hcount)

/-! ### Second boundaries (R95, R96, R99) -/

/-- What an internal second boundary does to the clock, and the event of a TIME_APPLY that takes effect at it. -/
theorem secBoundary_true (s : State) : (s.secBoundary true).clk.usec = 0 ∧ (s.secBoundary true).clk.k = 0 ∧
    (s.secBoundary true).clk.bndNow = true ∧ (s.secBoundary true).clk.n = secLen s.ferr ∧
    (s.secBoundary true).clk.ticks = s.clk.ticks ∧
    (s.clk.applyPend = false → (s.secBoundary true).clk.sec = (s.clk.sec + 1) % 2 ^ 32) ∧
    (s.clk.applyPend = true →
      (s.secBoundary true).clk.sec = quant2 (s.rd (A.TIME_SET_SEC 0)) (s.rd (A.TIME_SET_SEC 1)) ∧
      (s.secBoundary true).clk.applyPend = false ∧ (s.secBoundary true).clk.utcValid = true ∧
      eventBit (s.secBoundary true) evTIME_APPLIED = true) := by
  cases hpend : s.clk.applyPend with
  | true =>
    have happly : s.secBoundary true = (((s.modClk (fun c => { c with bndPrev := c.ticks - c.k })).modClk (fun c =>
        { c with
          sec := s.rdQ2 (A.TIME_SET_SEC 0), usec := 0, k := 0, n := secLen s.ferr, bndNow := true, applyPend := false
          utcValid := true })).raise evTIME_APPLIED (wordOf (s.rdQ2 (A.TIME_SET_SEC 0)) 0)
        (wordOf (s.rdQ2 (A.TIME_SET_SEC 0)) 1)) := if_pos hpend
    rw [happly, raise_clk]
    exact ⟨rfl, rfl, rfl, rfl, rfl, nofun, fun _ => ⟨rfl, rfl, rfl, raise_self ..⟩⟩
  | false =>
    have hcount : s.secBoundary true = (s.modClk (fun c => { c with bndPrev := c.ticks - c.k })).modClk (fun c =>
        { c with sec := (c.sec + 1) % 2 ^ 32, usec := 0, k := 0, n := secLen s.ferr, bndNow := true }) :=
      if_neg (by rw [if_pos rfl, modClk_clk, hpend]; exact Bool.false_ne_true)
    rw [hcount]
    exact ⟨rfl, rfl, rfl, rfl, rfl, fun _ => rfl, nofun⟩

theorem internalBoundary_of_due {s : State} (hdue : s.boundaryDue = true) (hnow : s.clk.bndNow = false) :
    s.internalBoundary = s.secBoundary true := by simp [State.internalBoundary, hdue, hnow]

/-- The clock of a tick before its own second boundary (R93, R95). -/
def tickClk (c : Clk) : Clk :=
  { c with ticks := c.ticks + 1, k := c.k + 1, usec := min (usecAt (c.k + 1) c.n) 999999, bndNow := false }

theorem tickTime_eq (s : State) : s.tickTime = (s.modClk tickClk).internalBoundary := by
  unfold State.tickTime
  congr 1

theorem boundaryDue_tickClk (s : State) :
    (s.modClk tickClk).boundaryDue = decide (1000000 ≤ usecAt (s.clk.k + 1) s.clk.n) := by
  unfold State.boundaryDue
  rw [modClk_clk]
  congr 1

/-- A tick that begins no second counts (R95). -/
theorem tickTime_count {s : State} (h : usecAt (s.clk.k + 1) s.clk.n < 1000000) : s.tickTime = s.modClk tickClk := by
  rw [tickTime_eq, State.internalBoundary, boundaryDue_tickClk, decide_eq_false (Nat.not_le.2 h)]
  rfl

/-- A tick in which the count reaches a second makes its boundary (R96). -/
theorem tickTime_boundary {s : State} (h : 1000000 ≤ usecAt (s.clk.k + 1) s.clk.n) :
    s.tickTime = (s.modClk tickClk).secBoundary true := by
  rw [tickTime_eq]
  exact internalBoundary_of_due (by rw [boundaryDue_tickClk]; exact decide_eq_true h) rfl

/-- A new tick has set no flag and made no record yet. -/
def freshTick (s : State) : State :=
  (({ s with fresh := [] } : State).modPwr (fun p => { p with vioSeen := true })).modRcd (fun r => { r with wrote := 0 })

theorem freshTick_clk (s : State) : (freshTick s).clk = s.clk := rfl

theorem freshTick_rings (s : State) : Rings s (freshTick s) :=
  modRcd_rings (modPwr_rings (rings_of_forget (setFresh_forget mute s [] rfl) (Rings.refl s)))

theorem tick_of_run {s : State} (h : s.pwr.st ≠ .down) :
    tick s = (freshTick (s.whenUp State.endTick).tickTime).whenUp State.startTick := by
  unfold tick
  exact if_neg h

theorem whenUp_startTick_rings {s u : State} (h : Rings s u) : Rings s (u.whenUp State.startTick) := by
  unfold State.whenUp
  split
  · exact startTick_rings h
  · exact h

/-- The running clock of a tick, and the status bits after its time part, stand at its end. -/
theorem tick_spec {s : State} (h : s.pwr.st ≠ .down) : ∃ u : State, TickCalm s u ∧ (tick s).clk = u.tickTime.clk ∧
    Rings u.tickTime (tick s) := by
  refine ⟨s.whenUp State.endTick, whenUp_tickCalm endTick_tickCalm s, ?_, ?_⟩
  · exact (congrArg State.clk (tick_of_run h)).trans
      ((whenUp_tickCalm startTick_tickCalm _).clk.trans (freshTick_clk _))
  · rw [tick_of_run h]
    exact whenUp_startTick_rings (freshTick_rings _)

theorem secLen_tickCalm {s u : State} (h : TickCalm s u) : secLen u.ferr = secLen s.ferr := by
  unfold State.ferr
  rw [h.rd (by decide +kernel)]

/-- Settles O2: a tick's ends leave the clock alone, and its time part is the count or the boundary. -/
theorem tickAndSecondBoundary : Obligations.TickAndSecondBoundary := by
  refine ⟨fun s hdown => ?down, fun s hrun => ⟨tick s, rfl, ?run⟩, fun s hdue hnow => ⟨s.secBoundary true, ?due, ?_⟩,
    fun s hnot => ?notDue⟩
  case down =>
    change execTick s = _
    rw [execTick, tick, if_pos hdown]
  case run =>
    obtain ⟨u, hcalm, hclk, hrings⟩ := tick_spec hrun
    have hferr := secLen_tickCalm hcalm
    have hset0 := hcalm.rd (a := A.TIME_SET_SEC 0) (by decide +kernel)
    have hset1 := hcalm.rd (a := A.TIME_SET_SEC 1) (by decide +kernel)
    obtain hless | hmore := Nat.lt_or_ge (usecAt (s.clk.k + 1) s.clk.n) 1000000
    · have hcount := tickTime_count (s := u) (by rwa [hcalm.clk])
      rw [State.tb, hclk, hcount, modClk_clk, hcalm.clk]
      refine ⟨?_, fun _ => ⟨rfl, rfl, rfl, ?_⟩, fun h => absurd hless (Nat.not_lt.2 h)⟩
      · unfold State.tb tickClk
        dsimp only
        omega
      · exact Nat.min_eq_left (Nat.le_of_lt_succ hless)
    · have hbnd := tickTime_boundary (s := u) (by rwa [hcalm.clk])
      obtain ⟨husec, hk, hnow, hn, hticks, hcount, happly⟩ := secBoundary_true (u.modClk tickClk)
      rw [State.tb, hclk, hbnd, hticks, husec, hk, hnow, hn]
      refine ⟨?_, fun h => absurd h (Nat.not_lt.2 hmore), fun _ => ⟨rfl, rfl, rfl, hferr, fun hp => ?_, fun hp => ?_⟩⟩
      · rw [modClk_clk, hcalm.clk]
        unfold State.tb tickClk
        dsimp only
        omega
      · rw [hcount (by rw [modClk_clk, hcalm.clk]; exact hp), modClk_clk, hcalm.clk]
        rfl
      · obtain ⟨hsec, hpend, hutc, hevent⟩ := happly (by rw [modClk_clk, hcalm.clk]; exact hp)
        rw [modClk_rd, modClk_rd, hset0, hset1] at hsec
        exact ⟨hsec, hpend, hutc, (hbnd ▸ hrings).event (by decide) hevent⟩
  case due =>
    change execInternalSecondBoundary s = _
    rw [execInternalSecondBoundary, internalBoundary_of_due hdue hnow]
  case notDue =>
    change execInternalSecondBoundary s = _
    rw [execInternalSecondBoundary, State.internalBoundary, if_neg]
    obtain h | h := hnot <;> simp [h]
  · exact secBoundary_true s

end Sys2Proof.Proofs
end


section
/-! SUPPORT. PPS edges and the time commands of the host (R97 to R101, R112). -/
namespace Sys2Proof.Proofs
open Sys2Proof.Machine Sys2Proof.Safety Sys2Proof.Laws

/-! ### Accepted and rejected edges (Table TIME-2) -/

/-- Every second boundary returns the count to 0; beside the clock it changes the event of a TIME_APPLY at most. -/
theorem secBoundary_keeps (s : State) (inc : Bool) : (s.secBoundary inc).clk.usec = 0 ∧ (s.secBoundary inc).clk.k = 0 ∧
    (s.secBoundary inc).clk.pps = s.clk.pps ∧ ∀ a, Apart a → (s.secBoundary inc).rd a = s.rd a := by
  have hpps : ∀ u : State, u = (if inc then s.modClk (fun c => { c with bndPrev := c.ticks - c.k }) else s) →
      u.clk.pps = s.clk.pps ∧ ∀ a, u.rd a = s.rd a := by
    rintro u rfl
    cases inc <;> exact ⟨rfl, fun _ => rfl⟩
  unfold State.secBoundary
  extract_lets n u
  obtain ⟨hpps, hrd⟩ := hpps u rfl
  split
  · refine ⟨by rw [raise_clk]; rfl, by rw [raise_clk]; rfl, by rw [raise_clk]; exact hpps, fun a ha => ?_⟩
    rw [raise_rd _ _ _ _ (by decide) a ha, modClk_rd, hrd]
  · exact ⟨rfl, rfl, hpps, fun a _ => hrd a⟩

theorem edgeBoundary_keeps (s : State) (e : Int) : (s.edgeBoundary e).clk.usec = 0 ∧ (s.edgeBoundary e).clk.k = 0 ∧
    (s.edgeBoundary e).clk.pps = s.clk.pps ∧ ∀ a, Apart a → (s.edgeBoundary e).rd a = s.rd a := by
  unfold State.edgeBoundary
  split <;> exact secBoundary_keeps _ _

/-- An accepted edge makes the second boundary and updates TIME_FERR; m at a tie is free (notes/assumptions/11.md). -/
theorem ppsAccept_spec (s : State) (e : Int) : (s.ppsAccept e).clk.usec = 0 ∧ (s.ppsAccept e).clk.k = 0 ∧
    (s.ppsAccept e).clk.pps = s.clk.pps ∧ (s.ppsAccept e).clk.lastEdge = s.clk.ticks ∧
    (s.ppsAccept e).rd A.TIME_PPSERR = s.rd A.TIME_PPSERR ∧
    ∃ up, (s.ppsAccept e).rd A.TIME_FERR =
      wInt (clampI (-4000) 4000 (ferrUpdate s.ferr (s.clk.ticks - s.clk.lastEdge) up)) := by
  have htook : ∀ u : State, u = (if ppsTie (s.clk.ticks - s.clk.lastEdge) then s.took else s) →
      u.clk = s.clk ∧ ∀ a, u.rd a = s.rd a := by
    rintro u rfl
    split <;> exact ⟨rfl, fun _ => rfl⟩
  unfold State.ppsAccept
  extract_lets i up u
  obtain ⟨hclk, hrd⟩ := htook u rfl
  obtain ⟨husec, hk, hpps, hkeep⟩ := edgeBoundary_keeps (u.setFerr (ferrUpdate u.ferr i up)) e
  have hferr : u.ferr = s.ferr := by rw [State.ferr, hrd]; rfl
  refine ⟨husec, hk, hpps.trans (congrArg Clk.pps hclk), congrArg Clk.ticks hclk, ?_, up, ?_⟩
  · rw [modClk_rd, hkeep _ (by decide), State.setFerr, rd_wr, if_neg (by decide), hrd]
  · rw [modClk_rd, hkeep _ (by decide), State.setFerr, rd_wr, if_pos rfl, hferr]

/-- The phase error of an edge is stored, and in LOCKED it decides between acceptance and rejection. -/
theorem ppsEdge_locked {s : State} {level : Bool} (hpps : s.clk.pps = .locked) (hen : s.ppsEn = true)
    (hlevel : level ≠ s.ppsFalls) (hdrive : s.clk.lowdrive = false) :
    ppsEdge level s =
      if (phaseErr s.clk.k s.clk.n).natAbs ≤ field (s.rd A.TIME_CTL) 7 0 then
        (s.wr A.TIME_PPSERR (wInt (clampI (-32767) 32767 (phaseErr s.clk.k s.clk.n)))).ppsAccept
          (phaseErr s.clk.k s.clk.n)
      else (s.wr A.TIME_PPSERR (wInt (clampI (-32767) 32767 (phaseErr s.clk.k s.clk.n)))).ppsReject := by
  have hctl (w : Word) : (s.wr A.TIME_PPSERR w).rd A.TIME_CTL = s.rd A.TIME_CTL := by rw [rd_wr, if_neg (by decide)]
  simp [ppsEdge, hpps, hen, hlevel, hdrive, hctl]

/-- An edge within the window is accepted (R98, Table TIME-2). -/
theorem ppsEdge_accepted {s : State} {level : Bool} (hpps : s.clk.pps = .locked) (hen : s.ppsEn = true)
    (hlevel : level ≠ s.ppsFalls) (hdrive : s.clk.lowdrive = false)
    (hwithin : (phaseErr s.clk.k s.clk.n).natAbs ≤ field (s.rd A.TIME_CTL) 7 0) :
    (ppsEdge level s).rd A.TIME_PPSERR = wInt (clampI (-32767) 32767 (phaseErr s.clk.k s.clk.n)) ∧
    (∃ up, (ppsEdge level s).rd A.TIME_FERR =
      wInt (clampI (-4000) 4000 (ferrUpdate s.ferr (s.clk.ticks - s.clk.lastEdge) up))) ∧
    (ppsEdge level s).clk.pps = .locked ∧ (ppsEdge level s).clk.lastEdge = s.clk.ticks ∧
    (ppsEdge level s).clk.usec = 0 ∧ (ppsEdge level s).clk.k = 0 := by
  rw [ppsEdge_locked hpps hen hlevel hdrive, if_pos hwithin]
  generalize hu : s.wr A.TIME_PPSERR (wInt (clampI (-32767) 32767 (phaseErr s.clk.k s.clk.n))) = u
  have hclk : u.clk = s.clk := by rw [← hu]; rfl
  have hferr : u.ferr = s.ferr := by rw [← hu, State.ferr, rd_wr, if_neg (by decide)]; rfl
  obtain ⟨husec, hk, hlocked, hlast, herr, up, hup⟩ := ppsAccept_spec u (phaseErr s.clk.k s.clk.n)
  rw [hclk] at hlocked hlast hup
  rw [hferr] at hup
  refine ⟨?_, ⟨up, hup⟩, hlocked.trans hpps, hlast, husec, hk⟩
  rw [herr, ← hu, rd_wr, if_pos rfl]

/-- An edge outside the window is rejected (R98, Table TIME-2). -/
theorem ppsEdge_rejected {s : State} {level : Bool} (hpps : s.clk.pps = .locked) (hen : s.ppsEn = true)
    (hlevel : level ≠ s.ppsFalls) (hdrive : s.clk.lowdrive = false)
    (hout : field (s.rd A.TIME_CTL) 7 0 < (phaseErr s.clk.k s.clk.n).natAbs) :
    (ppsEdge level s).clk = s.clk ∧ (ppsEdge level s).rd A.TIME_PPSREJ = w16 (satU ((s.rd A.TIME_PPSREJ).toNat + 1)) ∧
    (ppsEdge level s).rd A.TIME_FERR = s.rd A.TIME_FERR ∧ eventBit (ppsEdge level s) evPPS_REJECT = true := by
  rw [ppsEdge_locked hpps hen hlevel hdrive, if_neg (Nat.not_le.2 hout), State.ppsReject]
  refine ⟨by rw [raise_clk]; rfl, ?_, ?_, raise_self ..⟩
  · rw [raise_rd _ _ _ _ (by decide) _ (by decide), State.satInc, rd_wr, if_pos rfl, rd_wr, if_neg (by decide)]
  · rw [raise_rd _ _ _ _ (by decide) _ (by decide), satInc_rd _ _ _ (by decide), rd_wr, if_neg (by decide)]

theorem ppsEdge_sameLevel {s : State} {level : Bool} (hlevel : level = s.ppsFalls) : ppsEdge level s = s := by
  simp [ppsEdge, hlevel]

/-- The state with the land of PPS at its other level. -/
abbrev ppsFlipped (s : State) : State := { s with lands := { s.lands with pps := !s.lands.pps } }

theorem execPpsEdge_of_hears {s : State} (hears : s.hears = true) :
    exec .ppsEdge s = .next (ppsEdge (!s.lands.pps) (ppsFlipped s)) := by
  change execPpsEdge s = _
  have hears' : (s.modLands (fun l => { l with pps := !s.lands.pps })).hears = true := hears
  simp only [execPpsEdge, hears', if_true]
  rfl

/-! ### Latches of a read (R100, R101) -/

theorem latched_setLatch (s : State) (a b : Nat) (v : Word) :
    (s.setLatch a v).latched b = if b = a then v else s.latched b := by
  unfold State.latched State.setLatch
  rw [modLink_link, mapGet_mapPut]
  split <;> rfl

/-- The words of a quantity stand in the latches from its address on, and no other latch moves. -/
theorem latched_latchWords (ws : List Word) : ∀ (s : State) (a b : Nat),
    (s.latchWords a ws).latched b = if a ≤ b then (ws[b - a]?).getD (s.latched b) else s.latched b := by
  induction ws with
  | nil => intro s a b; simp [State.latchWords]
  | cons w ws ih =>
    intro s a b
    rw [State.latchWords, ih, latched_setLatch]
    obtain hlt | rfl | hgt := Nat.lt_trichotomy b a
    · rw [if_neg (by omega), if_neg (by omega), if_neg (by omega)]
    · rw [if_neg (Nat.not_succ_le_self _), if_pos rfl, if_pos (Nat.le_refl _), Nat.sub_self]
      rfl
    · obtain ⟨k, rfl⟩ := Nat.exists_eq_add_of_lt hgt
      have h1 : a + k + 1 - a = k + 1 := by omega
      have h2 : a + k + 1 - (a + 1) = k := by omega
      rw [if_pos (show a + 1 ≤ a + k + 1 by omega), if_pos (show a ≤ a + k + 1 by omega),
        if_neg (show a + k + 1 ≠ a by omega), h1, h2, List.getElem?_cons_succ]

theorem whenHost_eq {s : State} (hup : s.up = true) (hears : s.hears = true) (f : State → State) {u : State} (hu : f s = u) :
    (.next (s.whenHost f) : Host.Outcome State Fault Refusal) = .next u := by
  rw [whenHost_of_hears hup hears, hu]

theorem bool_not_ne : ∀ b : Bool, (!b) ≠ b := by decide

/-- Settles O3: each edge and each command of the time base, by the case of its definition that its premises choose. -/
theorem ppsAndTimeCommands : Obligations.PpsAndTimeCommands := by
  refine ⟨⟨fun s hears hland hpps hen hdrive hwithin => ?accepted, fun s hears hland hpps hen hdrive hout => ?rejected,
    fun s hnot => ?notTaken, fun s hpps hlate => ?timeout⟩, fun s hup hears => ?commands⟩
  case accepted =>
    exact ⟨_, execPpsEdge_of_hears hears,
      ppsEdge_accepted (s := ppsFlipped s) hpps hen (by rw [hland]; exact bool_not_ne _) hdrive hwithin⟩
  case rejected =>
    exact ⟨_, execPpsEdge_of_hears hears,
      ppsEdge_rejected (s := ppsFlipped s) hpps hen (by rw [hland]; exact bool_not_ne _) hdrive hout⟩
  case notTaken =>
    cases hears : s.hears with
    | false =>
      change execPpsEdge s = _
      have hears' : (s.modLands (fun l => { l with pps := !s.lands.pps })).hears = false := hears
      simp only [execPpsEdge, hears']
      rfl
    | true =>
      rw [execPpsEdge_of_hears hears, ppsEdge_sameLevel]
      have hland : s.lands.pps ≠ s.ppsFalls := hnot.resolve_right (by simp [hears])
      exact (Bool.eq_not_of_ne (Ne.symm hland)).symm
  case timeout =>
    refine ⟨s.ppsLost (Rank.motion.at 28), ?_, ?_, ?_⟩
    · change execPpsTimeout s = _
      rw [execPpsTimeout, if_pos ⟨hpps, hlate⟩]
    · have h := raiseAt_near (s.modClk (fun c => { c with pps := .holdover })) (Rank.motion.at 28) evPPS_LOST
        (s.rd A.TIME_FERR) 0
      rw [State.ppsLost, h]
      rfl
    · rw [State.ppsLost, raiseAt_eventBit]
      exact setEvt_self ..
  case commands =>
    refine ⟨whenHost_eq hup hears _ rfl, whenHost_eq hup hears _ rfl, fun hrc href hok => whenHost_eq hup hears _ ?_,
      fun hnot => whenHost_eq hup hears _ ?_, ⟨_, whenHost_eq hup hears _ rfl, ?_⟩, ⟨_, whenHost_eq hup hears _ rfl, ?_⟩⟩
    · rw [tickRestore, if_pos (by simp [hrc, href, hok])]
      rfl
    · rw [tickRestore, if_neg]
      obtain h | h := hnot
      · simp [h]
      · simp [Nat.not_le.2 h]
    · have hlatched (b : Nat) : (snapshot s).latched b =
          if A.TIME_SNAP 0 ≤ b then (s.snapWords[b - A.TIME_SNAP 0]?).getD (s.latched b) else s.latched b :=
        latched_latchWords s.snapWords s (A.TIME_SNAP 0) b
      refine ⟨?_, ?_, ?_⟩
      · simp only [hlatched]
        rfl
      · rw [hlatched]
        rfl
      · rw [hlatched]
        rfl
    · have hlatched (b : Nat) : (tbLatch s).latched b =
          if A.TIME_TB 1 ≤ b then ([wordOf s.tb 1, wordOf s.tb 2][b - A.TIME_TB 1]?).getD (s.latched b)
          else s.latched b := latched_latchWords [wordOf s.tb 1, wordOf s.tb 2] s (A.TIME_TB 1) b
      refine ⟨by rw [hlatched]; rfl, by rw [hlatched]; rfl, fun i hi => ?_⟩
      rw [hlatched, if_neg (by unfold A.TIME_TB A.TIME_SNAP; omega)]

/-! ### The clock monitor (R110, R111) -/

/-- The low byte of SAFE_CAUSE is the cause (Table SAFE-4). -/
theorem field_cause (detail cause : Nat) (h : cause < 256) : field (w16 (detail % 256 * 256 + cause)) 7 0 = cause := by
  simp only [field, w16, BitVec.toNat_ofNat]
  omega

/-- Of a device-wide reaction with a first cause, SAFE_CAUSE shows it (R447). -/
theorem deviceWide_field (s : State) (t cause detail : Nat) (hc : cause < 256) (h : s.safe.dev = false) :
    field ((s.deviceWide t cause detail).rd A.SAFE_CAUSE) 7 0 = cause := by
  rw [(deviceWide_cause s t cause detail h).1, field_cause _ _ hc]

theorem latchCause_rd (s : State) (cause detail a : Nat) (hc : a ≠ A.SAFE_CAUSE) (hd : a ≠ A.SAFE_DETAIL) :
    (s.latchCause cause detail).rd a = s.rd a := by
  unfold State.latchCause
  extract_lets now take u
  split
  · rw [rd_wr, if_neg hd, rd_wr, if_neg hc]
    rfl
  · rfl

theorem latchCause_clk (s : State) (cause detail : Nat) : (s.latchCause cause detail).clk = s.clk := by
  unfold State.latchCause
  extract_lets now take u
  split <;> rfl

theorem deviceWide_clk (s : State) (t cause detail : Nat) : (s.deviceWide t cause detail).clk = s.clk :=
  ((only_of_forget (deviceWide_latch s t cause detail)).clk rfl).trans (latchCause_clk ..)

/-- The device-wide reaction as the clock monitor takes it (R110, R446, R447): raised, standing, and with every bank disarmed. -/
structure ClockFailed (s t : State) : Prop where
  clkFail : eventBit t evCLK_FAIL = true
  safeDev : eventBit t evSAFE_DEV = true
  dev : t.safe.dev = true
  disarmed : ∀ b : Fin 8, (t.bank[b]).armed = false
  cause : s.safe.dev = false → field (t.rd A.SAFE_CAUSE) 7 0 = causeCLOCK

theorem bit_eq_false_of_and_not {m w : Word} (h : m &&& ~~~ w = 0) {k : Nat} (hk : k < 16) (hm : bit m k = true) :
    bit w k = true := by
  have := congrArg (BitVec.getLsbD · k) h
  simp only [BitVec.getLsbD_and, BitVec.getLsbD_not] at this
  simp only [bit] at hm ⊢
  simpa [hm, hk] using this

section ClockFlags
variable (s : State) (t : Nat) (m : Word)

/-- Flags that all stand already react no second time (R110). -/
theorem clockFlags_of_none {s : State} {m : Word} (h : m &&& ~~~ s.rd A.CLK_FAULT = 0) : s.clockFlags t m = s := if_pos h

/-- Flags of which one goes from 0 to 1 are a clock failure (R110). -/
theorem clockFlags_of_new {s : State} {m : Word} (h : m &&& ~~~ s.rd A.CLK_FAULT ≠ 0) :
    ClockFailed s (s.clockFlags t m) := by
  unfold State.clockFlags
  rw [if_neg h]
  extract_lets u v
  have hsafe : v.safe = s.safe := raise_safe ..
  refine ⟨?_, deviceWide_rings_dev .., deviceWide_dev .., fun b => deviceWide_off _ _ _ _ b, fun hdev => ?_⟩
  · exact (deviceWide_rings (Rings.refl v)).event (by decide) (raise_self ..)
  · exact deviceWide_field _ _ _ _ (by decide) (by rw [hsafe]; exact hdev)

theorem clockFlags_clk : (s.clockFlags t m).clk = s.clk := by
  unfold State.clockFlags
  split
  · rfl
  · rw [deviceWide_clk, raise_clk]
    rfl

/-- The two counts stand through a clock failure. -/
theorem clockFlags_rd {a : Nat} (hreach : dwParts.covers a = false) (hapart : Apart a) (hf : a ≠ A.CLK_FAULT)
    (hc : a ≠ A.SAFE_CAUSE) (hd : a ≠ A.SAFE_DETAIL) : (s.clockFlags t m).rd a = s.rd a := by
  unfold State.clockFlags
  split
  · rfl
  · rw [deviceWide_rd _ _ _ _ _ hreach, latchCause_rd _ _ _ _ hc hd, raise_rd _ _ _ _ (by decide) _ hapart]
    change (s.wr _ _).rd a = _
    rw [rd_wr, if_neg hf]

/-- Every flag of a window stands after it. -/
theorem clockFlags_fault {k : Nat} (hk : k < 16) (hm : bit m k = true) :
    bit ((s.clockFlags t m).rd A.CLK_FAULT) k = true := by
  by_cases h : m &&& ~~~ s.rd A.CLK_FAULT = 0
  · rw [clockFlags_of_none t h]
    exact bit_eq_false_of_and_not h hk hm
  · have hset : bit ((s.setFlags A.CLK_FAULT m).rd A.CLK_FAULT) k = true := by
      change bit ((s.wr _ _).rd _) k = true
      rw [rd_wr, if_pos rfl, bit_or, hm, Bool.or_true]
    unfold State.clockFlags
    rw [if_neg h]
    extract_lets u v
    exact (deviceWide_rings (raise_rings (Rings.refl u))) _ _ sticky_clk hset

end ClockFlags

theorem countOut_eq_zero {n lo hi : Nat} : countOut n lo hi = 0 ↔ lo ≤ n ∧ n ≤ hi := by
  unfold countOut
  split
  · simp; omega
  · split <;> simp <;> omega

/-- The flags of a window: which count is out of its range, and whether both left it alike (Table TIME-6). -/
def windowFlags (r c : Nat) (rc : Prop) [Decidable rc] : Word :=
  (if r = 0 then 0 else 1) ||| (if c = 0 then 0 else 2) ||| (if rc then 8 else 0)

theorem windowFlags_ref {r c : Nat} {rc : Prop} [Decidable rc] (h : r ≠ 0) : bit (windowFlags r c rc) 0 = true := by
  unfold windowFlags
  rw [if_neg h]
  split <;> split <;> decide

theorem windowFlags_core {r c : Nat} {rc : Prop} [Decidable rc] (h : c ≠ 0) : bit (windowFlags r c rc) 1 = true := by
  unfold windowFlags
  rw [if_neg h]
  split <;> split <;> decide

theorem windowFlags_good {r c : Nat} {rc : Prop} [Decidable rc] (hr : r = 0) (hc : c = 0) (hrc : ¬ rc) :
    windowFlags r c rc = 0 := by
  unfold windowFlags
  rw [if_pos hr, if_pos hc, if_neg hrc]
  rfl

/-- The state that a window has measured, before its flags. -/
def measuredClock (ref core : Word) (s : State) : State :=
  ((((s.wr A.CLK_REFCNT ref).wr A.CLK_CORECNT core).modClk (fun k =>
    { k with
      refOk := countOut ref.toNat 420 540 = 0, coreOk := countOut core.toNat 2100 2700 = 0
      pllLock := k.pllLock || (countOut ref.toNat 420 540 = 0 && countOut core.toNat 2100 2700 = 0)
      lastBad := if countOut ref.toNat 420 540 = 0 then k.lastBad else s.clk.ticks
      lastBadAny := if countOut ref.toNat 420 540 = 0 ∧ countOut core.toNat 2100 2700 = 0 then k.lastBadAny
        else s.clk.ticks }))).modClk (fun k => { k with lockHeld := k.pllLock })

/-- The tick takes its other source where the reference is lost (R112). -/
def sourceLost (lost : Bool) (r : Nat) (s : State) : State :=
  if lost && r ≠ 0 && !s.clk.tickRc then (s.modClk (fun k => { k with tickRc := true, degraded := true })).ppsBreak .safety
  else s

theorem monitorWindow_eq (ref core : Word) (lost : Bool) (s : State) :
    monitorWindow ref core lost s = sourceLost lost (countOut ref.toNat 420 540)
      ((measuredClock ref core s).clockFlags (200 * s.clk.ticks)
        (windowFlags (countOut ref.toNat 420 540) (countOut core.toNat 2100 2700)
          (countOut ref.toNat 420 540 ≠ 0 ∧ countOut ref.toNat 420 540 = countOut core.toNat 2100 2700 ∧
            s.clk.lockHeld = true))) := rfl

/-- A lost source changes the clock's source and the PPS state and raises PPS_LOST at most. -/
structure SourceOnly (s t : State) : Prop where
  refOk : t.clk.refOk = s.clk.refOk
  coreOk : t.clk.coreOk = s.clk.coreOk
  safe : t.safe = s.safe
  bank : t.bank = s.bank
  rd : ∀ a, Apart a → t.rd a = s.rd a
  rings : Rings s t

theorem raiseAt_sourceOnly {s : State} {p : Nat} {e : EvName} (he : e.src < 128) {d0 d1 : Word} :
    SourceOnly s (s.raiseAt p e d0 d1) := by
  have hnear : s.raiseAt p e d0 d1 = _ := raiseAt_near s p e d0 d1
  exact ⟨by rw [hnear], by rw [hnear], by rw [hnear], by rw [hnear], fun a ha => raiseAt_rd _ _ _ _ _ he a ha,
    raiseAt_rings (Rings.refl s)⟩

theorem SourceOnly.after_clk {s t : State} {f : Clk → Clk} (href : (f s.clk).refOk = s.clk.refOk)
    (hcore : (f s.clk).coreOk = s.clk.coreOk) (h : SourceOnly (s.modClk f) t) : SourceOnly s t :=
  ⟨h.refOk.trans href, h.coreOk.trans hcore, h.safe, h.bank, h.rd, h.rings⟩

theorem sourceLost_only (lost : Bool) (r : Nat) (s : State) : SourceOnly s (sourceLost lost r s) := by
  have hrefl (u : State) : SourceOnly u u := ⟨rfl, rfl, rfl, rfl, fun _ _ => rfl, Rings.refl u⟩
  unfold sourceLost
  split
  · refine SourceOnly.after_clk (f := fun k => { k with tickRc := true, degraded := true }) rfl rfl ?_
    unfold State.ppsBreak
    split
    · exact SourceOnly.after_clk (f := fun k => { k with pps := .holdover }) rfl rfl (raiseAt_sourceOnly (by decide))
    · exact SourceOnly.after_clk (f := fun k => { k with ppsN := 0 }) rfl rfl (hrefl _)
    · exact hrefl _
  · exact hrefl s

theorem ClockFailed.later {s u t : State} (h : ClockFailed s u) (hlater : SourceOnly u t) : ClockFailed s t where
  clkFail := hlater.rings.event (by decide) h.clkFail
  safeDev := hlater.rings.event (by decide) h.safeDev
  dev := by rw [hlater.safe]; exact h.dev
  disarmed b := by rw [hlater.bank]; exact h.disarmed b
  cause hdev := by rw [hlater.rd _ (by decide)]; exact h.cause hdev

theorem whenUp_of_up {s : State} (hup : s.up = true) (f : State → State) : s.whenUp f = f s := if_pos hup

theorem ClockFailed.parts {s t : State} (h : ClockFailed s t) : eventBit t evCLK_FAIL = true ∧ eventBit t evSAFE_DEV = true ∧
    t.safe.dev = true ∧ (∀ b : Fin 8, (t.bank[b]).armed = false) ∧
    (s.safe.dev = false → field (t.rd A.SAFE_CAUSE) 7 0 = causeCLOCK) :=
  ⟨h.clkFail, h.safeDev, h.dev, h.disarmed, h.cause⟩

/-- A flag of the window that does not stand yet is a new one. -/
theorem newFlag {m w : Word} {k : Nat} (hk : k < 16) (hm : bit m k = true) (hw : bit w k = false) : m &&& ~~~ w ≠ 0 :=
  fun h => Bool.noConfusion ((bit_eq_false_of_and_not h hk hm).symm.trans hw)

/-- The window's words stand at its end. -/
theorem monitorWindow_counts (ref core : Word) (lost : Bool) (s : State) :
    (monitorWindow ref core lost s).rd A.CLK_REFCNT = ref ∧ (monitorWindow ref core lost s).rd A.CLK_CORECNT = core ∧
    (monitorWindow ref core lost s).clk.refOk = decide (420 ≤ ref.toNat ∧ ref.toNat ≤ 540) ∧
    (monitorWindow ref core lost s).clk.coreOk = decide (2100 ≤ core.toNat ∧ core.toNat ≤ 2700) := by
  rw [monitorWindow_eq]
  have hlast := sourceLost_only lost (countOut ref.toNat 420 540)
      ((measuredClock ref core s).clockFlags (200 * s.clk.ticks)
        (windowFlags (countOut ref.toNat 420 540) (countOut core.toNat 2100 2700)
          (countOut ref.toNat 420 540 ≠ 0 ∧ countOut ref.toNat 420 540 = countOut core.toNat 2100 2700 ∧
            s.clk.lockHeld = true)))
  have href : (measuredClock ref core s).rd A.CLK_REFCNT = ref := by
    unfold measuredClock
    rw [modClk_rd, modClk_rd, rd_wr, if_neg (by decide), rd_wr, if_pos rfl]
  have hcore : (measuredClock ref core s).rd A.CLK_CORECNT = core := by
    unfold measuredClock
    rw [modClk_rd, modClk_rd, rd_wr, if_pos rfl]
  refine ⟨?_, ?_, ?_, ?_⟩
  · rw [hlast.rd _ (by decide), clockFlags_rd _ _ _ (by decide +kernel) (by decide) (by decide) (by decide) (by decide), href]
  · rw [hlast.rd _ (by decide), clockFlags_rd _ _ _ (by decide +kernel) (by decide) (by decide) (by decide) (by decide), hcore]
  · rw [hlast.refOk, clockFlags_clk]
    exact decide_eq_decide.2 countOut_eq_zero
  · rw [hlast.coreOk, clockFlags_clk]
    exact decide_eq_decide.2 countOut_eq_zero

/-- The clocks without the PLL's lock (R111). -/
def unlocked (s : State) : State := s.modClk (fun k => { k with pllLock := false, lockHeld := false })

/-- A single flag that stands is no new one. -/
theorem oldFlag {w : Word} {k : Nat} (hw : bit w k = true) : bitW k &&& ~~~ w = 0 := by
  have htwo : bitW k = BitVec.twoPow 16 k := by
    apply BitVec.eq_of_toNat_eq
    simp [bitW, w16, BitVec.toNat_twoPow]
  rw [htwo, BitVec.twoPow_and, BitVec.getLsbD_not]
  simp only [bit] at hw
  simp [hw]

/-- Settles O4: the window's flags go through `clockFlags`, and what follows them touches neither them nor the reaction. -/
theorem clockMonitor : Obligations.ClockMonitor := by
  refine ⟨fun s ref core lost hup => ⟨monitorWindow ref core lost s, ?_, ?_⟩, fun s hup => ⟨(unlocked s).clockFlags (200 * s.clk.ticks) (bitW 2), ?_, ?_⟩⟩
  · change execMonitorWindowEnd ref core lost s = _
    rw [execMonitorWindowEnd, whenUp_of_up hup]
  · obtain ⟨href, hcore, hrefOk, hcoreOk⟩ := monitorWindow_counts ref core lost s
    refine ⟨href, hcore, hrefOk, hcoreOk, ?_⟩
    rw [monitorWindow_eq]
    generalize hm : windowFlags (countOut ref.toNat 420 540) (countOut core.toNat 2100 2700)
          (countOut ref.toNat 420 540 ≠ 0 ∧ countOut ref.toNat 420 540 = countOut core.toNat 2100 2700 ∧
            s.clk.lockHeld = true) = m
    have hrefFlag (h : ref.toNat < 420 ∨ 540 < ref.toNat) : bit m 0 = true := by
      rw [← hm]
      exact windowFlags_ref fun h0 => by have := countOut_eq_zero.1 h0; omega
    have hcoreFlag (h : core.toNat < 2100 ∨ 2700 < core.toNat) : bit m 1 = true := by
      rw [← hm]
      exact windowFlags_core fun h0 => by have := countOut_eq_zero.1 h0; omega
    have hlast := sourceLost_only lost (countOut ref.toNat 420 540)
      ((measuredClock ref core s).clockFlags (200 * s.clk.ticks) m)
    have hfault : (measuredClock ref core s).rd A.CLK_FAULT = s.rd A.CLK_FAULT := by
      unfold measuredClock
      rw [modClk_rd, modClk_rd, rd_wr, if_neg (by decide), rd_wr, if_neg (by decide)]
    have hfailed (h : m &&& ~~~ s.rd A.CLK_FAULT ≠ 0) : ClockFailed s (sourceLost lost (countOut ref.toNat 420 540)
        ((measuredClock ref core s).clockFlags (200 * s.clk.ticks) m)) := by
      have h' := clockFlags_of_new (200 * s.clk.ticks) (s := measuredClock ref core s) (by rwa [hfault])
      exact ClockFailed.later ⟨h'.clkFail, h'.safeDev, h'.dev, h'.disarmed, h'.cause⟩ hlast
    refine ⟨fun h => ?_, fun h => ?_, fun h => ?_, fun hrlo hrhi hclo hchi => ?_⟩
    · rw [hlast.rd _ (by decide)]
      exact clockFlags_fault _ _ _ (by omega) (hrefFlag h)
    · rw [hlast.rd _ (by decide)]
      exact clockFlags_fault _ _ _ (by omega) (hcoreFlag h)
    · obtain ⟨hout, hclear⟩ | ⟨hout, hclear⟩ := h
      · exact (hfailed (newFlag (by omega) (hrefFlag hout) hclear)).parts
      · exact (hfailed (newFlag (by omega) (hcoreFlag hout) hclear)).parts
    · have hr : countOut ref.toNat 420 540 = 0 := countOut_eq_zero.2 ⟨hrlo, hrhi⟩
      have hc : countOut core.toNat 2100 2700 = 0 := countOut_eq_zero.2 ⟨hclo, hchi⟩
      have hzero : m = 0 := by
        rw [← hm]
        exact windowFlags_good hr hc fun h => h.1 hr
      rw [clockFlags_of_none _ (by rw [hzero]; simp), sourceLost, if_neg (by simp [hr])]
      refine ⟨hfault, rfl, ?_, rfl, rfl⟩
      unfold eventBit measuredClock
      rw [modClk_rd, modClk_rd, rd_wr, if_neg (by decide), rd_wr, if_neg (by decide)]
  · change execPllUnlock s = _
    rw [execPllUnlock, whenUp_of_up hup]
    rfl
  · refine ⟨by rw [clockFlags_clk]; rfl, clockFlags_fault _ _ _ (by omega) (by decide), fun h => ?_, fun h => ?_⟩
    · obtain ⟨hclk, hsafe, hdev, hoff, hcause⟩ := clockFlags_of_new (200 * s.clk.ticks)
        (s := unlocked s) (m := bitW 2)
        (newFlag (k := 2) (by omega) (by decide) h)
      exact ⟨hclk, hsafe, hdev, hoff, hcause⟩
    · rw [clockFlags_of_none _ (s := unlocked s) (oldFlag h)]
      exact ⟨rfl, rfl, rfl, rfl⟩

end Sys2Proof.Proofs
end

section
/-! SUPPORT. Proofs of the gate drivers: what a turn-on, a turn-off and a new command do to the gates of a half-bridge, and
what the selection of Table PWM-4 reads. -/
namespace Sys2Proof.Proofs
set_option Elab.async false
open Sys2Proof.Machine Sys2Proof.Safety Sys2Proof.Laws

/-! ### Gates -/

theorem modGate_gate (s : State) (h : Fin 72) (d : Side) (f : Gate → Gate) :
    (s.modGate h d f).hb[h].gate d = f (s.hb[h].gate d) := by
  unfold State.modGate
  rw [modHb_get, if_pos rfl]
  cases d <;> rfl

theorem modGate_gate_other (s : State) (h : Fin 72) (d : Side) (f : Gate → Gate) :
    (s.modGate h d f).hb[h].gate d.other = s.hb[h].gate d.other := by
  unfold State.modGate
  rw [modHb_get, if_pos rfl]
  cases d <;> rfl

theorem gateCheck_hb (s : State) (t : Nat) (b : Fin 8) : (s.gateCheck t b).hb = s.hb := rfl

theorem gateCheck_bank (s : State) (t : Nat) (b : Fin 8) : (s.gateCheck t b).bank = s.bank := rfl

/-- The window that a switching edge opens is listed in its bank (R227). -/
theorem openBlank_mem (s : State) (b : Fin 8) (t : Nat) :
    (t, t + 2 * field (s.rd (A.PROT_BLANK b.val)) 7 0) ∈ ((s.openBlank b t).bank[b]).blank := by
  unfold State.openBlank
  dsimp only
  rw [modBank_get, if_pos rfl]
  exact List.mem_append_right _ (List.mem_singleton.mpr rfl)

theorem turnOff_of_on {s : State} {t : Nat} {h : Fin 72} {d : Side} {f : Bool} (hon : (s.hb[h].gate d).on = true) :
    ((s.turnOff t h d f).hb[h].gate d).on = false ∧ ((s.turnOff t h d f).hb[h].gate d).offAt = t ∧
      ((s.turnOff t h d f).hb[h].gate d).hsto = true ∧ ((s.turnOff t h d f).hb[h].gate d).offPend = false ∧
      ((s.turnOff t h d f).hb[h].gate d).soft = f ∧ ((s.turnOff t h d f).hb[h].gate d).wait = false := by
  unfold State.turnOff
  rw [if_pos hon]
  simp only [openBlank_hb, modGate_gate, and_self]

theorem turnOff_gate_other (s : State) (t : Nat) (h : Fin 72) (d : Side) (f : Bool) :
    (s.turnOff t h d f).hb[h].gate d.other = s.hb[h].gate d.other := by
  unfold State.turnOff
  split
  · simp only [openBlank_hb, modGate_gate_other]
  · exact modGate_gate_other _ _ _ _

theorem mayTurnOn_of {s : State} {t : Nat} {h : Fin 72} {d : Side} (hw : (s.hb[h].gate d).wait = true)
    (hoff : (s.hb[h].gate d.other).on = false) (hlow : (s.hb[h].gate d.other).sensed = false)
    (hdt : (s.hb[h].gate d.other).offAt + field (s.hbReg A.GATE_DT h) 7 0 ≤ t) : s.mayTurnOn t h d = true := by
  unfold State.mayTurnOn State.tdead
  simp [-Fin.getElem_fin, hw, hoff, hlow, hdt]

theorem mayTurnOn_held {s : State} {t : Nat} {h : Fin 72} {d : Side} (hh : (s.hb[h].gate d.other).on = true ∨
    (s.hb[h].gate d.other).sensed = true ∨ t < (s.hb[h].gate d.other).offAt + field (s.hbReg A.GATE_DT h) 7 0) :
    s.mayTurnOn t h d = false := by
  unfold State.mayTurnOn State.tdead
  rcases hh with hon | hs | hlt
  · simp [-Fin.getElem_fin, hon]
  · simp [-Fin.getElem_fin, hs]
  · simp [-Fin.getElem_fin, Nat.not_le.mpr hlt]

/-! ### Turn-on and turn-off (R183, R189 to R193) -/

theorem turnOn_spec (s : State) (t : Nat) (h : Fin 72) (d : Side) :
    ((s.turnOn t h d).hb[h].gate d).on = true ∧ ((s.turnOn t h d).hb[h].gate d).onAt = t ∧
      ((s.turnOn t h d).hb[h].gate d).wait = false ∧ ((s.turnOn t h d).hb[h].gate d).sensed = true ∧
      ((s.turnOn t h d).hb[h].gate d).counts = false ∧ ((s.turnOn t h d).hb[h].gate d).armed = false ∧
      (t, t + 2 * field (s.rd (A.PROT_BLANK (hbBank h).val)) 7 0) ∈ ((s.turnOn t h d).bank[hbBank h]).blank ∧
      (s.turnOn t h d).hb[h].gate d.other = s.hb[h].gate d.other ∧
      ∀ h' : Fin 72, h' ≠ h → (s.turnOn t h d).hb[h'] = s.hb[h'] := by
  unfold State.turnOn
  simp only [openBlank_hb, modGate_gate, modGate_gate_other, true_and]
  exact ⟨openBlank_mem _ _ _, fun h' n => modGate_other _ _ _ _ _ n.symm⟩

theorem gateOffSensed_spec (t : Nat) (h : Fin 72) (d : Side) (s : State) :
    ((gateOffSensed t h d s).hb[h].gate d).sensed = false ∧
      ((gateOffSensed t h d s).hb[h].gate d).on = (s.hb[h].gate d).on ∧
      (gateOffSensed t h d s).hb[h].gate d.other = s.hb[h].gate d.other ∧
      (∀ h' : Fin 72, h' ≠ h → (gateOffSensed t h d s).hb[h'] = s.hb[h']) ∧
      ((s.hb[h].gate d).on = false → ((gateOffSensed t h d s).hb[h].gate d).hsto = false ∧
        ((gateOffSensed t h d s).hb[h].gate d).fell = true ∧
        ((gateOffSensed t h d s).hb[h].gate d).clamp = decide ((s.bank[hbBank h]).flt ≠ .floating)) := by
  unfold gateOffSensed
  simp only [gateCheck_hb, modGate_gate, modGate_gate_other, true_and]
  refine ⟨?_, ?_, fun h' n => modGate_other _ _ _ _ _ n.symm, fun hoff => ?_⟩
  · split <;> rfl
  · split <;> rfl
  · rw [hoff]
    refine ⟨rfl, rfl, ?_⟩
    cases (s.bank[hbBank h]).flt <;> rfl

/-- Settles O5: the handshake's three conditions and the two timers, each through the rule of its gate operation. -/
theorem gateHandshake : Obligations.GateHandshake := by
  unfold Obligations.GateHandshake
  refine ⟨fun s at' h hi => ⟨fun hw hoff hlow hdt => ?_, fun hh => ?_⟩, fun s at' h hi => ⟨fun hon hp hle => ?_, fun hlt => ?_,
    fun hs => ?_, fun hs => ?_⟩⟩
  · refine ⟨s.turnOn (s.clkAt at') h (sideOf hi), ?_, turnOn_spec _ _ _ _⟩
    change execTurnOnStart at' h hi s = _
    rw [execTurnOnStart, if_pos (mayTurnOn_of hw hoff hlow hdt)]
  · change execTurnOnStart at' h hi s = _
    rw [execTurnOnStart, mayTurnOn_held hh]
    rfl
  · refine ⟨s.turnOff (s.clkAt at') h (sideOf hi) false, ?_, ?_⟩
    · change execTgminExpiry at' h hi s = _
      simp [-Fin.getElem_fin, execTgminExpiry, hon, hp, hle]
    · obtain ⟨h1, h2, h3, h4, _⟩ := turnOff_of_on (t := s.clkAt at') (f := false) hon
      exact ⟨h1, h2, h3, h4, turnOff_gate_other _ _ _ _ _, fun h' n => turnOff_other _ _ _ _ _ _ n.symm⟩
  · change execTgminExpiry at' h hi s = _
    simp [-Fin.getElem_fin, execTgminExpiry, Nat.not_le.mpr hlt]
  · refine ⟨gateOffSensed (s.clkAt at') h (sideOf hi) s, ?_, gateOffSensed_spec _ _ _ _⟩
    change execGateOffSensed at' h hi s = _
    rw [execGateOffSensed, if_pos hs]
  · change execGateOffSensed at' h hi s = _
    simp [-Fin.getElem_fin, execGateOffSensed, hs]

/-! ### What the selection of Table PWM-4 reads (R172) -/

/-- What the causes of row 2 read for half-bridge `h` is in `t` as in `s` (R233). -/
structure Causes (h : Fin 72) (s t : State) : Prop where
  img : t.img = s.img
  ax : t.ax = s.ax
  bank : SameBanks s t
  loc : t.hb[h].loc = s.hb[h].loc

/-- What the rows of Table PWM-4 read for half-bridge `h` is in `t` as in `s`. -/
structure Wants (h : Fin 72) (s t : State) : Prop extends Causes h s t where
  lands : t.lands = s.lands
  run : ∀ a : Fin 24, t.tim[a].run = s.tim[a].run
  ch : ∀ (a : Fin 24) (r : Fin 3), t.tim[a].ch[r].cmd = s.tim[a].ch[r].cmd
  limit : t.hb[h].limit = s.hb[h].limit
  back : t.hb[h].back = s.hb[h].back

/-- What the selection reads for half-bridge `h` is in `t` as in `s`, the mark of a blocked HIGH interval apart. -/
structure Steers (h : Fin 72) (s t : State) : Prop extends Wants h s t where
  bst : t.hb[h].bst = s.hb[h].bst

theorem Causes.refl (h : Fin 72) (s : State) : Causes h s s := ⟨rfl, rfl, SameBanks.refl s, rfl⟩

theorem Causes.trans {h : Fin 72} {s t u : State} (a : Causes h s t) (b : Causes h t u) : Causes h s u :=
  ⟨b.img.trans a.img, b.ax.trans a.ax, a.bank.trans b.bank, b.loc.trans a.loc⟩

theorem Wants.refl (h : Fin 72) (s : State) : Wants h s s :=
  ⟨Causes.refl h s, rfl, fun _ => rfl, fun _ _ => rfl, rfl, rfl⟩

theorem Wants.trans {h : Fin 72} {s t u : State} (a : Wants h s t) (b : Wants h t u) : Wants h s u :=
  ⟨a.toCauses.trans b.toCauses, b.lands.trans a.lands, fun x => (b.run x).trans (a.run x),
    fun x r => (b.ch x r).trans (a.ch x r), b.limit.trans a.limit, b.back.trans a.back⟩

theorem Steers.refl (h : Fin 72) (s : State) : Steers h s s := ⟨Wants.refl h s, rfl⟩

theorem Steers.trans {h : Fin 72} {s t u : State} (a : Steers h s t) (b : Steers h t u) : Steers h s u :=
  ⟨a.toWants.trans b.toWants, b.bst.trans a.bst⟩

section Reads
variable {h : Fin 72} {s t : State} (k : Causes h s t)
include k

theorem Causes.cfg (b : Fin 8) : t.cfg b = s.cfg b := by unfold State.cfg; rw [k.img]

theorem Causes.hbAxis : t.hbAxis h = s.hbAxis h := by unfold State.hbAxis; rw [k.cfg]

theorem Causes.axType (a : Fin 24) : t.axType a = s.axType a := by unfold State.axType; rw [k.cfg]

theorem Causes.axCfg (a : Fin 24) : t.axCfg a = s.axCfg a := by unfold State.axCfg; rw [k.cfg]

theorem Causes.ddpBank (b : Fin 8) : t.ddpBank b = s.ddpBank b := by unfold State.ddpBank State.ddpAt; rw [k.img]

theorem Causes.bankUsed (b : Fin 8) : t.bankUsed b = s.bankUsed b := by
  unfold State.bankUsed; simp only [k.axType]

theorem Causes.chops (a : Fin 24) : t.chops a = s.chops a := by
  unfold State.chops; rw [k.cfg, k.bank]

theorem Causes.flt : (t.bank[hbBank h]).flt = (s.bank[hbBank h]).flt := by rw [k.bank]

theorem Causes.row2 : t.row2 h = s.row2 h := by
  unfold State.row2
  simp only [k.hbAxis, k.axType, k.axCfg, k.cfg, k.ax, k.loc]
  rw [k.bank]
  rfl

theorem Causes.row2Cmd : t.row2Cmd h = s.row2Cmd h := by unfold State.row2Cmd; rw [k.row2]

end Reads

section Rows
variable {h : Fin 72} {s t : State} (k : Wants h s t)
include k

theorem Wants.ddpCmd : t.ddpCmd h = s.ddpCmd h := by unfold State.ddpCmd; rw [k.lands]

theorem Wants.ddpDrive : t.ddpDrive h = s.ddpDrive h := by
  unfold State.ddpDrive; simp only [k.hbAxis, k.ddpCmd, k.run, k.back]

theorem Wants.lowRows : t.lowRows h = s.lowRows h := by
  unfold State.lowRows
  simp only [k.hbAxis, k.axType, k.ddpBank, k.bankUsed, k.ddpDrive, k.chops, k.limit, k.back, k.run, k.ch]
  rw [k.bank]

theorem Wants.wanted : t.wanted h = s.wanted h := by unfold State.wanted; rw [k.row2Cmd, k.lowRows]

end Rows

/-- The command selected in a driven bank: what is wanted, a HIGH that the bootstrap lock-out blocks apart (R203). -/
theorem select_driven {s : State} {h : Fin 72} (hf : (s.bank[hbBank h]).flt = .driven) :
    (s.select h).2 = if s.wanted h = .high ∧ (!s.hb[h].bst || s.hb[h].bstCut) then .hiz else s.wanted h := by
  unfold State.select State.wanted
  rw [hf]
  dsimp only
  cases s.row2Cmd h with
  | none => rfl
  | some c => rfl

/-- The same is selected where the mark of a blocked HIGH interval is the same, or decides nothing. -/
theorem Steers.select {h : Fin 72} {s t : State} (k : Steers h s t)
    (hc : (s.bank[hbBank h]).flt = .driven → s.wanted h = .high → s.hb[h].bst = true → t.hb[h].bstCut = s.hb[h].bstCut) :
    (t.select h).2 = (s.select h).2 := by
  cases hf : (s.bank[hbBank h]).flt with
  | driven =>
    rw [select_driven (k.flt.trans hf), select_driven hf, k.wanted, k.bst]
    by_cases hw : s.wanted h = .high
    · cases hb : s.hb[h].bst with
      | false => rfl
      | true => rw [hc hf hw hb]
    · rw [if_neg (fun c => hw c.1), if_neg (fun c => hw c.1)]
  | entering => unfold State.select; rw [k.flt, hf]
  | floating => unfold State.select; rw [k.flt, hf]
  | leaving => unfold State.select; rw [k.flt, hf]

/-! ### A command at the driver changes nothing that the selection reads -/

/-- What the selection reads of a half-bridge, the mark of a blocked HIGH interval apart. -/
def HalfB.steer (x : HalfB) : Bool × Option HbCmd × Option HbCmd × Bool := (x.loc, x.limit, x.back, x.bst)

/-- Where only half-bridges and blanking windows change, and those only in what the selection does not read. -/
theorem steers_of_hb {h : Fin 72} {s t : State} (hi : t.img = s.img) (ha : t.ax = s.ax) (hl : t.lands = s.lands)
    (hb : SameBanks s t) (ht : t.tim = s.tim) (hr : HalfB.steer t.hb[h] = HalfB.steer s.hb[h]) :
    Steers h s t :=
  ⟨⟨⟨hi, ha, hb, congrArg Prod.fst hr⟩, hl, fun _ => by rw [ht], fun _ _ => by rw [ht], congrArg (·.2.1) hr,
    congrArg (·.2.2.1) hr⟩, congrArg (·.2.2.2) hr⟩

theorem modGate_steers (s : State) (h h' : Fin 72) (d : Side) (f : Gate → Gate) : Steers h' s (s.modGate h d f) := by
  refine steers_of_hb rfl rfl rfl (SameBanks.refl s) rfl ?_
  by_cases n : h = h'
  · subst n
    have e := congrArg HalfB.steer (modGate_rest s h d f)
    exact e
  · rw [modGate_other _ _ _ _ _ n]

theorem openBlank_steers (s : State) (b : Fin 8) (t : Nat) (h' : Fin 72) : Steers h' s (s.openBlank b t) :=
  steers_of_hb rfl rfl rfl (openBlank_same (SameBanks.refl s)) rfl rfl

theorem turnOff_steers (s : State) (t : Nat) (h h' : Fin 72) (d : Side) (f : Bool) : Steers h' s (s.turnOff t h d f) := by
  unfold State.turnOff
  split
  · exact (modGate_steers _ _ _ _ _).trans (openBlank_steers _ _ _ _)
  · exact modGate_steers _ _ _ _ _

theorem gateOff_steers (s : State) (t : Nat) (h h' : Fin 72) (d : Side) (f : Bool) : Steers h' s (s.gateOff t h d f) := by
  unfold State.gateOff
  dsimp only
  split
  · exact modGate_steers _ _ _ _ _
  · exact turnOff_steers _ _ _ _ _ _

theorem modCmd_steers (s : State) (h h' : Fin 72) (c : HbCmd) : Steers h' s (s.modHb h (fun x => { x with cmd := c })) := by
  refine steers_of_hb rfl rfl rfl (SameBanks.refl s) rfl ?_
  rw [modHb_get]
  split
  · subst h'; rfl
  · rfl

theorem modCut_steers (s : State) (h h' : Fin 72) (c : Bool) :
    Steers h' s (s.modHb h (fun x => { x with bstCut := c })) := by
  refine steers_of_hb rfl rfl rfl (SameBanks.refl s) rfl ?_
  rw [modHb_get]
  split
  · subst h'; rfl
  · rfl

theorem deliver_steers (s : State) (t : Nat) (h h' : Fin 72) (f : Bool) (c : HbCmd) : Steers h' s (s.deliver t h f c) := by
  have hc := modCmd_steers s h h' c
  unfold State.deliver
  dsimp only
  split
  · exact (hc.trans (gateOff_steers _ _ _ _ _ _)).trans (modGate_steers _ _ _ _ _)
  · exact (hc.trans (gateOff_steers _ _ _ _ _ _)).trans (modGate_steers _ _ _ _ _)
  · exact (hc.trans (gateOff_steers _ _ _ _ _ _)).trans (gateOff_steers _ _ _ _ _ _)

theorem each_steers {α : Type} {h : Fin 72} {f : State → α → State} (hf : ∀ u x, Steers h u (f u x)) (l : List α) :
    ∀ s : State, Steers h s (s.each l f) := by
  induction l with
  | nil => exact fun s => Steers.refl h s
  | cons x xs ih => exact fun s => (hf s x).trans (ih (f s x))

theorem urge_steers (s : State) (t : Nat) (h h' : Fin 72) : Steers h' s (s.urge t h) := by
  unfold State.urge
  refine each_steers (fun u x => ?_) _ s
  dsimp only
  split
  · exact turnOff_steers _ _ _ _ _ _
  · exact Steers.refl _ _

theorem markAbove_steers (s : State) (h h' : Fin 72) : Steers h' s (s.markAbove h) := by
  unfold State.markAbove
  split
  · exact Steers.refl _ _
  · rename_i a r _
    refine ⟨⟨⟨rfl, rfl, SameBanks.refl s, rfl⟩, rfl, fun x => ?_, fun x q => ?_, rfl, rfl⟩, rfl⟩
    · rw [modTim_get]
      split
      · subst x; rfl
      · rfl
    · rw [modTim_get]
      split
      · subst x
        show ((s.tim[a].ch.set r.val { s.tim[a].ch[r] with above := true })[q.val]).cmd = _
        rw [Vector.getElem_set]
        split
        · rename_i e
          rw [← Fin.ext e]
        · rfl
      · rfl

theorem bstBlock_tim (s : State) (h : Fin 72) : (s.bstBlock h).tim = s.tim := by
  unfold State.bstBlock; dsimp only; split
  · rfl
  · rw [raise_tim]; rfl

theorem bstBlock_img (s : State) (h : Fin 72) : (s.bstBlock h).img = s.img := by
  unfold State.bstBlock; dsimp only; split
  · rfl
  · rw [raise_img]; rfl

theorem bstBlock_ax (s : State) (h : Fin 72) : (s.bstBlock h).ax = s.ax := by
  unfold State.bstBlock; dsimp only; split
  · rfl
  · rw [raise_ax]; rfl

theorem bstBlock_lands (s : State) (h : Fin 72) : (s.bstBlock h).lands = s.lands := by
  unfold State.bstBlock; dsimp only; split
  · rfl
  · rw [raise_lands]; rfl

theorem bstBlock_steers (s : State) (h h' : Fin 72) : Steers h' s (s.bstBlock h) := by
  refine steers_of_hb (bstBlock_img _ _) (bstBlock_ax _ _) (bstBlock_lands _ _)
    (sameBanks_of_eq (bstBlock_bank _ _) (SameBanks.refl s)) (bstBlock_tim _ _) ?_
  simp only [bstBlock_hb]
  rw [modHb_get]
  split
  · subst h'; rfl
  · rfl

/-- The mark that a HIGH interval is blocked, as a new command takes it up (R203). -/
def State.cutMark (s : State) (h : Fin 72) : State :=
  if (s.bank[hbBank h]).flt = .driven then
    if s.wanted h = .high then
      if s.hb[h].bst || s.hb[h].bstCut then s else s.bstBlock h
    else s.modHb h (fun x => { x with bstCut := false })
  else s

theorem redrive_eq (s : State) (t : Nat) (h : Fin 72) : s.redrive t h =
    let u := State.cutMark s h
    let v := if (u.select h).1 ≤ 5 then u.markAbove h else u
    if v.hb[h].cmd = (u.select h).2 then (if (u.select h).1 ≤ 2 then v.urge t h else v)
    else v.deliver t h ((u.select h).1 ≤ 2) (u.select h).2 := rfl

theorem cutMark_steers (s : State) (h h' : Fin 72) : Steers h' s (State.cutMark s h) := by
  unfold State.cutMark
  split
  · split
    · split
      · exact Steers.refl _ _
      · exact bstBlock_steers _ _ _
    · exact modCut_steers _ _ _ _
  · exact Steers.refl _ _

/-- The mark does not change what is selected: where it is set, the bootstrap supply is low already. -/
theorem cutMark_select (s : State) (h : Fin 72) : ((State.cutMark s h).select h).2 = (s.select h).2 := by
  refine (cutMark_steers s h h).select (fun hf hw hb => ?_)
  unfold State.cutMark
  simp only [hf, hw, hb, if_true, Bool.true_or]

theorem redrive_steers (s : State) (t : Nat) (h h' : Fin 72) : Steers h' s (s.redrive t h) := by
  rw [redrive_eq]
  extract_lets u v
  have hv : Steers h' s v := by
    refine (cutMark_steers s h h').trans ?_
    show Steers h' u v
    unfold v
    split
    · exact markAbove_steers _ _ _
    · exact Steers.refl _ _
  split
  · split
    · exact hv.trans (urge_steers _ _ _ _)
    · exact hv
  · exact hv.trans (deliver_steers _ _ _ _ _ _)

/-- The driver follows the command selected. -/
theorem redrive_follows (s : State) (t : Nat) (h : Fin 72) : (s.redrive t h).hb[h].cmd = (s.select h).2 := by
  rw [redrive_eq]
  extract_lets u v
  refine Eq.trans ?_ (cutMark_select s h)
  show _ = (u.select h).2
  split
  · rename_i e
    split
    · rw [urge_cmd]; exact e
    · exact e
  · exact deliver_cmd _ _ _ _ _

theorem markAbove_cut (s : State) (h h' : Fin 72) : (s.markAbove h).hb[h'].bstCut = s.hb[h'].bstCut := by
  rw [markAbove_hb]

/-- What is selected does not change as drivers follow their commands. -/
theorem redrive_select (s : State) (t : Nat) (h h' : Fin 72) : ((s.redrive t h).select h').2 = (s.select h').2 := by
  refine (redrive_steers s t h h').select (fun hf hw hb => ?_)
  by_cases n : h = h'
  · subst n
    have hc : State.cutMark s h = s := by
      unfold State.cutMark
      simp only [hf, hw, hb, if_true, Bool.true_or]
    rw [redrive_eq, hc]
    extract_lets u v
    have hv : v.hb[h].bstCut = s.hb[h].bstCut := by
      unfold v
      split
      · exact markAbove_cut _ _ _
      · rfl
    split
    · split
      · exact (congrArg HalfB.bstCut (urge_rest v t h) :).trans hv
      · exact hv
    · exact (congrArg HalfB.bstCut (deliver_rest v t h _ _) :).trans hv
  · rw [redrive_other _ _ _ _ n]

theorem each_redrive_select (t : Nat) (l : List (Fin 72)) (h : Fin 72) : ∀ s : State,
    ((s.each l (fun s h => s.redrive t h)).select h).2 = (s.select h).2 := by
  induction l with
  | nil => exact fun _ => rfl
  | cons x xs ih => exact fun s => (ih (s.redrive t x)).trans (redrive_select s t x h)

theorem each_redrive_other (t : Nat) (l : List (Fin 72)) (h : Fin 72) (hm : h ∉ l) : ∀ s : State,
    (s.each l (fun s h => s.redrive t h)).hb[h] = s.hb[h] := by
  induction l with
  | nil => exact fun _ => rfl
  | cons x xs ih =>
    intro s
    rw [List.mem_cons, not_or] at hm
    exact (ih hm.2 (s.redrive t x)).trans (redrive_other _ _ _ _ (fun c => hm.1 c.symm))

/-- The drivers of a list of half-bridges, brought to their commands one after the other, all follow what is selected. -/
theorem each_redrive_follows (t : Nat) (l : List (Fin 72)) : ∀ s : State, ∀ h ∈ l,
    (s.each l (fun s h => s.redrive t h)).hb[h].cmd = (s.select h).2 := by
  induction l with
  | nil => intro s h hm; cases hm
  | cons x xs ih =>
    intro s h hm
    show ((s.redrive t x).each xs (fun s h => s.redrive t h)).hb[h].cmd = _
    by_cases hx : h ∈ xs
    · rw [ih _ h hx, redrive_select]
    · obtain rfl : h = x := by simpa [hx] using hm
      rw [each_redrive_other t xs h hx, redrive_follows]

/-! ### Pin float and the trip in the selection -/

theorem select_floating {s : State} {h : Fin 72} (hf : (s.bank[hbBank h]).flt = .floating) : s.select h = (1, .float) := by
  unfold State.select; rw [hf]

theorem select_moving {s : State} {h : Fin 72} (hf : (s.bank[hbBank h]).flt = .entering ∨ (s.bank[hbBank h]).flt = .leaving) :
    s.select h = (1, .hiz) := by
  unfold State.select
  rcases hf with e | e <;> rw [e]

/-! ### The direct drive port (R204) -/

theorem passes_long {s : State} {w lo hi : Nat} (h : hi < w) (hlo : lo ≤ hi) : s.passes w lo hi = (s, true) := by
  unfold State.passes
  rw [if_neg (by omega), if_pos h]

theorem passes_short {s : State} {w lo hi : Nat} (h : w < lo) : s.passes w lo hi = (s, false) := by
  unfold State.passes
  rw [if_pos h]

/-- Setting or clearing one of nine inputs. -/
theorem putBit9 (w : BitVec 9) (i j : Fin 9) (level : Bool) :
    (if level then w ||| BitVec.twoPow 9 i.val else w &&& ~~~ BitVec.twoPow 9 i.val).getLsbD j.val =
      if j = i then level else w.getLsbD j.val := by
  have hj := j.isLt
  by_cases e : j = i
  · subst e
    cases level <;> simp
  · cases level <;> simp [e, Fin.val_inj]

theorem setDdp_en (s : State) (i : Fin 9) (level : Bool) : (s.setDdp true i level).lands =
    { s.lands with ddpEn := if level then s.lands.ddpEn ||| BitVec.twoPow 9 i.val
      else s.lands.ddpEn &&& ~~~ BitVec.twoPow 9 i.val } := rfl

theorem setDdp_pul (s : State) (i : Fin 9) (level : Bool) : (s.setDdp false i level).lands =
    { s.lands with ddpPul := if level then s.lands.ddpPul ||| BitVec.twoPow 9 i.val
      else s.lands.ddpPul &&& ~~~ BitVec.twoPow 9 i.val } := rfl

/-- An edge that passes the glitch filter sets its input and nothing else at the lands. -/
theorem ddpInputEdge_lands {s : State} (at' : Fin 200) (en : Bool) (i : Fin 9) (level : Bool) {width : Nat}
    (hears : s.hears = true) (hw : 10 < width) :
    ∃ t, exec (.ddpInputEdge at' en i level width) s = .next t ∧ t.lands = (s.setDdp en i level).lands := by
  change ∃ t, execDdpInputEdge at' en i level width s = _ ∧ _
  rw [execDdpInputEdge, if_pos hears, passes_long hw (by omega)]
  refine ⟨_, rfl, ?_⟩
  dsimp only
  split
  · rfl
  · split
    · exact (redrive_steers _ _ _ 0).lands
    · rfl

theorem ddpInputEdge_short (s : State) (at' : Fin 200) (en : Bool) (i : Fin 9) (level : Bool) {width : Nat}
    (hears : s.hears = true) (hw : width < 5) : exec (.ddpInputEdge at' en i level width) s = .next s := by
  change execDdpInputEdge at' en i level width s = _
  rw [execDdpInputEdge, if_pos hears, passes_short hw]

/-- Settles O6: the driver follows what is selected, and an input edge that passes sets one bit of its word. -/
theorem driverCommands : Obligations.DriverCommands := by
  unfold Obligations.DriverCommands
  refine ⟨fun s at' h => ⟨s.redrive (s.clkAt at') h, rfl, redrive_follows _ _ _,
    fun h' n => redrive_other _ _ _ _ n.symm, fun hf => ?_, fun hf => ?_, fun hf hc => ?_⟩,
    fun s at' i level width hears => ⟨fun hw => ?_, fun hw => ?_, fun hw en => ddpInputEdge_short s at' en i level hears hw⟩⟩
  · rw [redrive_follows, select_floating hf]
  · rw [redrive_follows, select_moving hf]
  · rw [redrive_follows, select_hiz hf hc rfl]
  · obtain ⟨t, ht, hl⟩ := ddpInputEdge_lands at' true i level hears hw
    rw [setDdp_en] at hl
    refine ⟨t, ht, ?_, fun j n => ?_, by rw [hl]⟩
    · rw [hl, putBit9, if_pos rfl]
    · rw [hl, putBit9, if_neg n]
  · obtain ⟨t, ht, hl⟩ := ddpInputEdge_lands at' false i level hears hw
    rw [setDdp_pul] at hl
    refine ⟨t, ht, ?_, fun j n => ?_, by rw [hl]⟩
    · rw [hl, putBit9, if_pos rfl]
    · rw [hl, putBit9, if_neg n]

/-! ### Pin float (R18, R184) -/

theorem redriveBank_follows (s : State) (t : Nat) (b : Fin 8) (i : Fin 9) :
    ((s.redriveBank t b).hb[hbOf b i]).cmd = (s.select (hbOf b i)).2 :=
  each_redrive_follows t _ s _ (hbOf_mem b i)

theorem redriveBank_select (s : State) (t : Nat) (b : Fin 8) (h : Fin 72) :
    ((s.redriveBank t b).select h).2 = (s.select h).2 := each_redrive_select t _ h s

theorem redriveBank_same (s : State) (t : Nat) (b : Fin 8) : SameBanks s (s.redriveBank t b) :=
  each_same (fun _ _ h₁ => redrive_same h₁) (SameBanks.refl s)

theorem hbBank_hbOf (b : Fin 8) (i : Fin 9) : hbBank (hbOf b i) = b := mem_hbsOf (hbOf_mem b i)

theorem enterFloat_driven {s : State} {t : Nat} {b : Fin 8} (hf : (s.bank[b]).flt = .driven) :
    ((s.enterFloat t b).bank[b]).flt = .entering ∧ ((s.enterFloat t b).bank[b]).fltAt = t ∧
      ∀ i : Fin 9, ((s.enterFloat t b).hb[hbOf b i]).cmd = .hiz := by
  unfold State.enterFloat
  rw [if_pos (Or.inl hf)]
  refine ⟨?_, ?_, fun i => ?_⟩
  · rw [redriveBank_same, modBank_get, if_pos rfl]
  · rw [redriveBank_same, modBank_get, if_pos rfl]
  · rw [redriveBank_follows, select_moving (Or.inl ?_)]
    simp only [hbBank_hbOf, modBank_get, if_true]

/-- What a change of half-bridges always makes true holds of each that is listed. -/
theorem each_modHb {P : HalfB → Prop} {f : HalfB → HalfB} (hf : ∀ x, P (f x)) (l : List (Fin 72)) : ∀ s : State, ∀ h ∈ l,
    P (s.each l (fun s h => s.modHb h f)).hb[h] := by
  have keep : ∀ (l : List (Fin 72)) (s : State) (h : Fin 72), P s.hb[h] → P (s.each l (fun s h => s.modHb h f)).hb[h] := by
    intro l
    induction l with
    | nil => exact fun _ _ hp => hp
    | cons x xs ih =>
      intro s h hp
      refine ih (s.modHb x f) h ?_
      rw [modHb_get]
      split
      · exact hf _
      · exact hp
  induction l with
  | nil => intro s h hm; cases hm
  | cons x xs ih =>
    intro s h hm
    rcases List.mem_cons.mp hm with rfl | hx
    · refine keep xs _ h ?_
      rw [modHb_get, if_pos rfl]
      exact hf _
    · exact ih _ h hx

theorem each_modHb_bank (f : HalfB → HalfB) (l : List (Fin 72)) (s : State) :
    (s.each l (fun s h => s.modHb h f)).bank = s.bank :=
  each_bank l (fun s h => s.modHb h f) (fun _ _ => rfl) s

theorem disableStages_flt (s : State) (b : Fin 8) : ((s.disableStages b).bank[b]).flt = .floating := by
  unfold State.disableStages
  dsimp only
  rw [each_modHb_bank, modBank_get, if_pos rfl]

theorem disableStages_hb (s : State) (b : Fin 8) (i : Fin 9) : ((s.disableStages b).hb[hbOf b i]).cmd = .float ∧
    ((s.disableStages b).hb[hbOf b i]).hs.on = false ∧ ((s.disableStages b).hb[hbOf b i]).ls.on = false ∧
    ((s.disableStages b).hb[hbOf b i]).hs.wait = false ∧ ((s.disableStages b).hb[hbOf b i]).ls.wait = false :=
  each_modHb (P := fun x => x.cmd = .float ∧ x.hs.on = false ∧ x.ls.on = false ∧ x.hs.wait = false ∧ x.ls.wait = false)
    (fun _ => ⟨rfl, rfl, rfl, rfl, rfl⟩) _ _ _ (hbOf_mem b i)

theorem refloat_of_cond {s : State} {b : Fin 8} (t : Nat) (hc : s.floatCond b = true) : s.refloat t b = s.enterFloat t b := by
  unfold State.refloat; rw [if_pos hc]

theorem refloat_of_none {s : State} {b : Fin 8} (t : Nat) (hc : s.floatCond b = false) : s.refloat t b = s := by
  unfold State.refloat; rw [hc]; rfl

/-- Settles O7: each of the three commands runs its operation exactly when its condition holds. -/
theorem pinFloat : Obligations.PinFloat := by
  unfold Obligations.PinFloat
  refine fun s at' b => ⟨fun hc hf => ?_, fun hc => ?_, fun hf hd => ?_, fun hf hg hlt => ?_, fun hf hle => ?_, fun hf hlt => ?_⟩
  · refine ⟨s.enterFloat (s.clkAt at') b, ?_, enterFloat_driven hf⟩
    change execFloatEntry at' b s = _
    rw [execFloatEntry, refloat_of_cond _ hc]
  · change execFloatEntry at' b s = _
    rw [execFloatEntry, refloat_of_none _ hc]
  · refine ⟨(s.disableStages b).gateCheck (s.clkAt at') b, ?_, ?_⟩
    · change execFloatOutputDisable at' b s = _
      rw [execFloatOutputDisable, if_pos ⟨hf, hd⟩]
    · simp only [gateCheck_bank, gateCheck_hb]
      exact ⟨disableStages_flt s b, disableStages_hb s b⟩
  · change execFloatOutputDisable at' b s = _
    rw [execFloatOutputDisable, if_neg]
    rintro ⟨_, hl | hl⟩
    · rw [hg] at hl; cases hl
    · omega
  · refine ⟨(s.modBank b (fun k => { k with flt := .driven })).redriveBank (s.clkAt at') b, ?_, ?_, fun i => ?_⟩
    · change execFloatExitHoldEnd at' b s = _
      rw [execFloatExitHoldEnd, if_pos ⟨hf, hle⟩]
    · rw [redriveBank_same, modBank_get, if_pos rfl]
    · rw [redriveBank_follows, redriveBank_select]
  · change execFloatExitHoldEnd at' b s = _
    rw [execFloatExitHoldEnd, if_neg]
    rintro ⟨_, hl⟩
    omega

end Sys2Proof.Proofs
end

section
/-! SUPPORT. Proofs of the gate drivers' faults and supplies: the flags and events that they raise, contention, and the
lock-outs of the gate supplies. -/
namespace Sys2Proof.Proofs
set_option Elab.async false
open Sys2Proof.Machine Sys2Proof.Safety Sys2Proof.Laws

/-! ### Flags and events that stay -/

theorem setFlags_bit (s : State) (a : Nat) {m : Word} {k : Nat} (hm : bit m k = true) :
    bit ((s.setFlags a m).rd a) k = true := by
  show bit ((s.wr a (s.rd a ||| m)).rd a) k = true
  rw [rd_wr, if_pos rfl, bit_or, hm, Bool.or_true]

/-- A flag set in the course of an operation that clears no sticky word stands at its end. -/
theorem flag_of_rings {s t : State} {a : Nat} {m : Word} {k : Nat} (h : Rings (s.setFlags a m) t) (ha : Sticky a)
    (hm : bit m k = true) : bit (t.rd a) k = true := h a k ha (setFlags_bit s a hm)

/-- An event raised in the course of an operation that clears no status bit stands at its end. -/
theorem raised_of_rings {s t : State} {e : EvName} {d0 d1 : Word} (h : Rings (s.raise e d0 d1) t) (he : e.src < 128) :
    eventBit t e = true := h.event he (raise_self _ _ _ _)

/-- A value that no step of a series changes. -/
theorem each_keeps {α β : Type} (g : State → β) {f : State → α → State} (hf : ∀ u x, g (f u x) = g u) (l : List α) :
    ∀ s : State, g (s.each l f) = g s := by
  induction l with
  | nil => exact fun _ => rfl
  | cons x xs ih => exact fun s => (ih (f s x)).trans (hf s x)

/-! ### GATE_STUCK (R191, R192) -/

theorem gateStuck_spec (t : Nat) (h : Fin 72) (hi : Bool) (s : State) :
    bit ((gateStuck t h (sideOf hi) s).rd (A.GATE_FLT (hbBank h).val (hbIn h).val)) (if hi then 0 else 1) = true ∧
      eventBit (gateStuck t h (sideOf hi) s) (evGATE_STUCK (hbBank h)) = true := by
  have hb := (hbBank h).isLt
  unfold gateStuck
  extract_lets b i s1 s2 s3 s4 s5
  have h5 : Rings s4 s5 := axisReaction_rings (Rings.refl _)
  have hend : Rings s5 (if s5.hb[h].cmd = (s5.select h).2 then s5.deliver t h true (s5.select h).2 else s5) := by
    split
    · exact deliver_rings (Rings.refl _)
    · exact Rings.refl _
  have h4 : Rings s3 s4 := raise_rings (Rings.refl _)
  refine ⟨flag_of_rings ((h4.trans h5).trans hend) (sticky_gate (hbBank h) (hbIn h)) ?_,
    raised_of_rings (h5.trans hend) (by show 65 + 8 * (hbBank h).val < 128; omega)⟩
  cases hi <;> decide

/-! ### Contention (R422) -/

theorem refloat_pair (s : State) (t : Nat) (b : Fin 8) : (s.refloat t b).pair = s.pair :=
  (only_of_forget (refloat_forget (raising stageReach) s t b (mayRaise_raising _) rfl rfl rfl (has_of_mem (by decide))
    (has_of_mem (by decide)))).pair rfl

theorem disarm_pair (s : State) (t : Nat) (b : Fin 8) (c : Nat) (k : AxCause) : (s.disarm t b c k).pair = s.pair :=
  (only_of_forget (disarm_forget (raising reactionReach) s t b c k (mayRaise_raising _) rfl rfl rfl rfl rfl
    (has_of_mem (by decide)) (has_of_mem (by decide)))).pair rfl

theorem refloatAll_owner (s : State) (t : Nat) : (s.refloatAll t).pair.owner = s.pair.owner := by
  unfold State.refloatAll
  rw [each_keeps (fun u => u.pair.owner) (f := fun s b => s.gateCheck t b) (fun _ _ => rfl)]
  exact each_keeps (fun u => u.pair.owner) (fun u b => congrArg Pair.owner (refloat_pair u t b)) _ s

theorem refloatAll_lockout (s : State) (t : Nat) : (s.refloatAll t).pair.lockout = s.pair.lockout := by
  unfold State.refloatAll
  rw [each_keeps (fun u => u.pair.lockout) (f := fun s b => s.gateCheck t b) (fun _ _ => rfl)]
  exact each_keeps (fun u => u.pair.lockout) (fun u b => congrArg Pair.lockout (refloat_pair u t b)) _ s

theorem releaseOwner_owner (s : State) (t c : Nat) : (s.releaseOwner t c).pair.owner = false := by
  unfold State.releaseOwner
  dsimp only
  rw [refloatAll_owner, raise_pair]
  rfl

theorem releaseOwner_lockout (s : State) (t c : Nat) : (s.releaseOwner t c).pair.lockout = s.pair.lockout := by
  unfold State.releaseOwner
  dsimp only
  rw [refloatAll_lockout, raise_pair]
  rfl

theorem contention_spec (s : State) (t : Nat) (h : Fin 72) (ho : s.pair.owner = true) :
    eventBit (s.contention t h) evCONTENTION = true ∧ (s.contention t h).pair.lockout = true ∧
      (s.contention t h).pair.owner = false ∧ ∀ b : Fin 8, ((s.contention t h).bank[b]).armed = false := by
  unfold State.contention
  extract_lets s1 s2 s3
  have e3 : s3 = s2.releaseOwner t 7 := if_pos ((congrArg Pair.owner (raise_pair s _ _ _)).trans ho)
  have h3 : Rings s1 s3 := by rw [e3]; exact releaseOwner_rings (modPair_rings (Rings.refl _))
  have hd : Rings s3 (s3.each allBanks (fun s b => s.disarm t b 6 .disarm)) :=
    each_rings (fun _ _ h₁ => disarm_rings h₁) (Rings.refl _)
  have hp : (s3.each allBanks (fun s b => s.disarm t b 6 .disarm)).pair = s3.pair :=
    each_keeps State.pair (fun u b => disarm_pair u t b 6 .disarm) _ s3
  refine ⟨raised_of_rings (h3.trans hd) (by decide), ?_, ?_, fun b => ?_⟩
  · rw [hp, e3, releaseOwner_lockout]; rfl
  · rw [hp, e3, releaseOwner_owner]
  · exact each_off (fun s c => disarm_calm (Calm.refl true s)) (fun s b => disarm_off _ _ _ _ _) allBanks s3 b (mem_allBanks b)

theorem contends_of_driven {s : State} {b : Fin 8} (ho : s.pair.owner = true) (hf : (s.bank[b]).flt ≠ .floating) :
    s.contends b = true := by
  unfold State.contends
  rw [ho, bne_iff_ne.mpr hf]
  rfl

/-- A foreign rise that contends is CONTENTION, with its flag and its event (R194, R422). -/
theorem gateFgn_spec (t : Nat) (h : Fin 72) (hi : Bool) (s : State) :
    bit ((gateFgn t h (sideOf hi) s).rd (A.GATE_FLT (hbBank h).val (hbIn h).val)) (if hi then 3 else 4) = true ∧
      eventBit (gateFgn t h (sideOf hi) s) (evGATE_FGN (hbBank h)) = true ∧
      (s.pair.owner = true → s.contends (hbBank h) = true →
        eventBit (gateFgn t h (sideOf hi) s) evCONTENTION = true ∧ (gateFgn t h (sideOf hi) s).pair.lockout = true ∧
        (gateFgn t h (sideOf hi) s).pair.owner = false ∧
        ∀ b : Fin 8, ((gateFgn t h (sideOf hi) s).bank[b]).armed = false) := by
  have hb := (hbBank h).isLt
  unfold gateFgn
  extract_lets b i hit s1 s2 s3 s4
  have hend : Rings s3 (if hit then s4.contention t h else s4) := by
    have h4 : Rings s3 s4 := gateCheck_rings (Rings.refl _)
    split
    · exact contention_rings h4
    · exact h4
  have h3 : Rings s2 s3 := raise_rings (Rings.refl _)
  refine ⟨flag_of_rings (h3.trans hend) (sticky_gate (hbBank h) (hbIn h)) ?_,
    raised_of_rings hend (by show 65 + 8 * (hbBank h).val < 128; omega), fun ho hc => ?_⟩
  · cases hi <;> decide
  · rw [if_pos hc]
    refine contention_spec s4 t h ?_
    show s3.pair.owner = true
    exact (congrArg Pair.owner (raise_pair s2 _ _ _)).trans ho

/-- Settles O8: the two faults through their operations, the standby by the comparator alone. -/
theorem gateFaults : Obligations.GateFaults := by
  unfold Obligations.GateFaults
  refine fun s at' h hi => ⟨fun hs hh hoff hle => ?_, fun hn => ?_, fun hs hf hoff => ⟨fun ho => ?_, fun ho => ?_⟩, fun hn => ?_⟩
  · refine ⟨gateStuck (s.clkAt at') h (sideOf hi) s, ?_, gateStuck_spec _ _ _ _⟩
    change execGateStuck at' h hi s = _
    simp only [execGateStuck, hs, hh, hoff, hle, decide_true, Bool.not_false, Bool.and_true, if_true]
  · change execGateStuck at' h hi s = _
    rcases hn with hh | hlt
    · simp only [execGateStuck, hh, Bool.and_false, Bool.false_and, Bool.false_eq_true, if_false]
    · simp only [execGateStuck, Nat.not_le.mpr hlt, decide_false, Bool.and_false, Bool.false_eq_true, if_false]
  · obtain ⟨hflag, hev, hc⟩ := gateFgn_spec (s.clkAt at') h hi s
    refine ⟨gateFgn (s.clkAt at') h (sideOf hi) s, ?_, hflag, hev, fun hd => hc ho (contends_of_driven ho hd)⟩
    change execGateFgn at' h hi s = _
    simp only [execGateFgn, hs, hf, hoff, ho, Bool.not_false, Bool.and_true, if_true]
  · refine ⟨(s.modGate h (sideOf hi) (fun g => { g with sensed := true, fell := false })).gateCheck (s.clkAt at') (hbBank h),
      ?_, ?_⟩
    · change execGateFgn at' h hi s = _
      simp only [execGateFgn, hs, hf, hoff, ho, Bool.not_false, Bool.and_true, if_true, Bool.false_eq_true, if_false]
    · simp only [gateCheck_hb, modGate_gate, true_and]
      exact ⟨rfl, rfl, rfl⟩
  · change execGateFgn at' h hi s = _
    rcases hn with hs | hf | hon
    · simp only [execGateFgn, hs, Bool.false_and, Bool.false_eq_true, if_false]
    · simp only [execGateFgn, hf, Bool.and_false, Bool.false_and, Bool.false_eq_true, if_false]
    · simp only [execGateFgn, hon, Bool.not_true, Bool.and_false, Bool.false_eq_true, if_false]

end Sys2Proof.Proofs
end

section
/-! SUPPORT. Proofs of the gate supplies: the lock-outs of VDRV_b, VCP_b and the bootstrap supplies, the legal write that
releases them, and what a legal write of a word of a domain's block does. -/
namespace Sys2Proof.Proofs
set_option Elab.async false
open Sys2Proof.Machine Sys2Proof.Safety Sys2Proof.Laws

/-! ### The words of a cause of row 2 -/

/-- A change of a bank's causes reaches only the power stage, the axes and their words. -/
theorem bankCause_rd (s : State) (t : Nat) (b : Fin 8) (f : Bank → Bank) {a : Nat}
    (ha : (raising reactionReach).covers a = false) : (s.bankCause t b f).rd a = s.rd a :=
  (only_of_forget (bankCause_forget (raising reactionReach) s t b f (mayRaise_raising _) rfl rfl rfl rfl
    (has_of_mem (by decide)) (has_of_mem (by decide)) (has_of_mem (by decide)))).regs a ha

theorem bankCause_self (s : State) (t : Nat) (b : Fin 8) (f : Bank → Bank) :
    ∃ w, (s.bankCause t b f).bank[b] = { (f s.bank[b]) with blank := w } := by
  refine ⟨((s.bankCause t b f).bank[b]).blank, ?_⟩
  have e := bankCause_same s t b f b
  rw [modBank_get, if_pos rfl] at e
  exact e

theorem rejudge_bank (s : State) (a : Fin 24) (o : Option Side) : (s.rejudge a o).bank = s.bank := by
  unfold State.rejudge
  extract_lets held x react side s1
  have h1 : s1.bank = s.bank := rfl
  by_cases hl : (held && !s1.holdsAsc a) = true
  · rw [if_pos hl, loseAsc_bank, h1]
  · rw [if_neg hl, ascSupply_bank, h1]

/-! ### VDRV_b and VCP_b (R199 to R201) -/

theorem vdrvUv_trip {s : State} {t : Nat} {b : Fin 8} (hseen : (s.bank[b]).vdrvSeen = true)
    (hlock : (s.bank[b]).vdrvLock = false) (hhold : (s.bank[b]).hold = none) :
    ((vdrvUv t b s).bank[b]).vdrvOk = false ∧ ((vdrvUv t b s).bank[b]).vdrvLock = true ∧
      bit ((vdrvUv t b s).rd (A.GSUP_FLT b.val)) 0 = true ∧ eventBit (vdrvUv t b s) (evGATE_UV b) = true ∧
      ((s.bank[b]).flt = .driven → ∀ i : Fin 9, ((vdrvUv t b s).hb[hbOf b i]).cmd = .hiz) := by
  unfold vdrvUv
  extract_lets k s1 s2 s3
  have hb3 : (s2.raise (evGATE_UV b) 0x01FF (s2.rd (A.GSUP_FLT b.val))).bank[b] =
      { (s.bank[b]) with vdrvOk := false } := by
    have hs2 : s2.bank = s1.bank := rfl
    rw [raise_bank, hs2, modBank_get, if_pos rfl]
  obtain ⟨w, hw⟩ : ∃ w, s3.bank[b] = { (s.bank[b]) with vdrvOk := false, vdrvLock := true, blank := w } := by
    obtain ⟨w, hw⟩ := bankCause_self (s2.raise (evGATE_UV b) 0x01FF (s2.rd (A.GSUP_FLT b.val))) t b
      (fun k => { k with vdrvLock := true })
    exact ⟨w, by rw [hb3] at hw; exact hw⟩
  have hh : ¬ (s3.bank[b]).hold.isSome := by rw [hw]; simp only [hhold]; decide
  rw [if_pos (by rw [show k.vdrvSeen = true from hseen, show k.vdrvLock = false from hlock]; rfl), if_neg hh]
  have h3 : Rings (s2.raise (evGATE_UV b) 0x01FF (s2.rd (A.GSUP_FLT b.val))) s3 := bankCause_rings (Rings.refl _)
  refine ⟨by rw [hw], by rw [hw], flag_of_rings ((raise_rings (Rings.refl _)).trans h3) (sticky_gsup b) (by decide),
    raised_of_rings h3 (by show 67 + 8 * b.val < 128; omega), fun hf i => ?_⟩
  exact bankCause_hiz _ t b _ (by rw [hb3]; exact hf) (Or.inr rfl) (hbOf_mem b i)

theorem vdrvUv_unseen {s : State} {t : Nat} {b : Fin 8} (hseen : (s.bank[b]).vdrvSeen = false) :
    vdrvUv t b s = s.modBank b (fun k => { k with vdrvOk := false }) := by
  unfold vdrvUv
  extract_lets k s1 s2 s3
  rw [if_neg (by rw [show k.vdrvSeen = false from hseen, Bool.false_and]; decide)]

theorem vcpUv_trip {s : State} {t : Nat} {b : Fin 8} (hseen : (s.bank[b]).vcpSeen = true)
    (hlock : (s.bank[b]).vcpLock = false) :
    ((vcpUv t b s).bank[b]).vcpOk = false ∧ ((vcpUv t b s).bank[b]).vcpLock = true ∧
      bit ((vcpUv t b s).rd (A.GSUP_FLT b.val)) 1 = true ∧ eventBit (vcpUv t b s) (evGATE_UV b) = true := by
  unfold vcpUv
  extract_lets k s1 s2 s3 s4 s5
  rw [if_pos (by rw [show k.vcpSeen = true from hseen, show k.vcpLock = false from hlock]; rfl)]
  have hb4 : (s4.bank[b]).vcpOk = false := by
    show ((s3.each _ _).bank[b]).vcpOk = _
    rw [each_bank (axesOf b) (fun s a => s.modAx a (fun x => { x with vcpKeep := x.react == .ascLow })) (fun _ _ => rfl)]
    have hs2 : s2.bank = s1.bank := rfl
    rw [raise_bank, hs2, modBank_get, if_pos rfl]
  obtain ⟨w, hw⟩ := bankCause_self s4 t b (fun k => { k with vcpLock := true })
  have h4 : Rings s3 s4 := each_rings (fun _ _ h₁ => modAx_rings h₁) (Rings.refl _)
  have h5 : Rings s4 s5 := bankCause_rings (Rings.refl _)
  generalize hend : s5.each (axesOf b) _ = u
  have hlast : SameBanks s5 u ∧ Rings s5 u := by
    subst hend
    refine ⟨each_same (fun v a h₁ => SameBanks.trans (sameBanks_of_eq ?_ h₁) reRow2_same) (SameBanks.refl _),
      each_rings (fun v a h₁ => reRow2_rings (fun w hw₁ => ?_) h₁) (Rings.refl _)⟩
    · dsimp only
      split
      · rw [loseAsc_bank, rejudge_bank]
      · rw [rejudge_bank]
    · dsimp only
      split
      · exact loseAsc_rings (rejudge_rings hw₁)
      · exact rejudge_rings hw₁
  obtain ⟨hu, hr⟩ := hlast
  have hk : u.bank[b] = { (s4.bank[b]) with vcpLock := true, blank := (u.bank[b]).blank } := by
    rw [hu b, show s5.bank[b] = _ from hw]
  have h3 : Rings s2 s3 := raise_rings (Rings.refl _)
  refine ⟨by rw [hk]; exact hb4, by rw [hk], ?_, ?_⟩
  · exact flag_of_rings (((h3.trans h4).trans h5).trans hr) (sticky_gsup b) (by decide)
  · exact raised_of_rings ((h4.trans h5).trans hr) (by show 67 + 8 * b.val < 128; omega)

/-! ### Legal writes of words of a domain's block (R14, Table MAP-10) -/

/-- The operation and the indices of the register at `a`. -/
def regAt (a : Nat) : Option (Reg × List Nat) := (lookup a).map (fun p => (p.1.reg, p.2))

/-- Registers whose legal write is judged or followed up in a way of its own. -/
def judgedApart (r : Reg) : Bool := ([.SAFE_WDCFG, .BANK_ARM, .AX_CMD, .BUF_ID_LO, .BUF_MASK_LO] : List Reg).contains r

section BlockWord
variable {s : State} {a n : Nat} {r : Reg} {ix : List Nat} (hat : regAt a = some (r, ix))
include hat

theorem lookup_of_regAt : ∃ row, lookup a = some (row, ix) ∧ row.reg = r := by
  unfold regAt at hat
  obtain ⟨⟨row, ix'⟩, hl, e⟩ := Option.map_eq_some_iff.mp hat
  obtain ⟨rfl, rfl⟩ := Prod.mk.inj e
  exact ⟨row, hl, rfl⟩

/-- With the domain of its block on, a legal word does what its register does. -/
theorem writeWord_block (hj : judgedApart r = false) (hlow : higher r ix = false) (hdom : domOfAddr a = some n)
    (hon : s.dom n = true) {d : Word} (hl : s.legal a d = true) (t : Nat) :
    s.writeWord t a d = (s.writeBlock t a d r ix).afterStore a r ix (s.rd a) := by
  obtain ⟨row, hrow, rfl⟩ := lookup_of_regAt hat
  have hne : ∀ x, x ∈ ([.SAFE_WDCFG, .BANK_ARM, .AX_CMD, .BUF_ID_LO, .BUF_MASK_LO] : List Reg) → row.reg ≠ x := by
    rintro x hx rfl
    rw [judgedApart, List.contains_iff_mem.mpr hx] at hj
    cases hj
  have hbar : s.barred a = false := not_barred hrow (hne _ (by decide)) (hne _ (by decide))
  have haddr : s.addrOn a = true := by simp [State.addrOn, hdom, hon]
  simp only [State.writeWord, hbar, hl, ampClash_eq_self hrow (hne .AX_CMD (by decide)), State.writeLegal, hrow, hlow, haddr,
    hdom, Bool.true_or, Bool.false_eq_true, if_true, if_false]
  split
  · rename_i c; cases c
  · rename_i c; exact absurd c (hne .BUF_ID_LO (by decide))
  · rename_i c; exact absurd c (hne .BUF_MASK_LO (by decide))
  · rfl

end BlockWord

theorem hostWord_of_hears {s : State} (hup : s.up = true) (hears : s.hears = true) (a : Nat) (d : Word) :
    s.hostWord a d = s.writeWord (200 * s.clk.ticks) a d := by
  unfold State.hostWord State.hostWordAt
  exact whenHost_of_hears hup hears _

/-! ### The release of a supply's lock-out (R202) -/

theorem clrFlags_bit (s : State) (a : Nat) (m : Word) {k : Nat} (hk : k < 16) :
    bit ((s.clrFlags a m).rd a) k = (bit (s.rd a) k && !(bit m k && !bit (s.freshAt a) k)) := by
  show bit ((s.wr a _).rd a) k = _
  rw [rd_wr, if_pos rfl]
  simp [bit, hk]

theorem clrFlags_bank (s : State) (a : Nat) (m : Word) : (s.clrFlags a m).bank = s.bank := rfl

theorem bit_and (v w : Word) (k : Nat) : bit (v &&& w) k = (bit v k && bit w k) := by simp [bit]

/-- A single-bit mask has its own bit alone. -/
theorem bit_mask (j : Nat) {k : Nat} (hk : k < 16) : bit (bitW j) k = decide (j = k) := by
  simp only [bit, bitW, w16, BitVec.getLsbD_ofNat, Nat.testBit_two_pow, hk, decide_true, Bool.true_and]

theorem bit_zero (k : Nat) : bit (0#16) k = false := by simp [bit]

theorem gsup_at : ∀ b : Fin 8, regAt (A.GSUP_FLT b.val) = some (.GSUP_FLT, [b.val]) ∧
    domOfAddr (A.GSUP_FLT b.val) = some b.val ∧ bankIx [b.val] = b ∧
    (raising reactionReach).covers (A.GSUP_FLT b.val) = false := by decide +kernel

/-- The flags that a write to GSUP_FLT names and whose supply has risen. -/
def gsupMask (k : Bank) (d : Word) : Word := (if k.vdrvOk then d &&& bitW 0 else 0) ||| (if k.vcpOk then d &&& bitW 1 else 0)

theorem gsupMask_vdrv (k : Bank) (d : Word) : bit (gsupMask k d) 0 = (k.vdrvOk && bit d 0) := by
  unfold gsupMask
  cases k.vdrvOk <;> cases k.vcpOk <;> simp [bit_or, bit_and, bit_zero, bit_mask]

theorem gsupMask_vcp (k : Bank) (d : Word) : bit (gsupMask k d) 1 = (k.vcpOk && bit d 1) := by
  unfold gsupMask
  cases k.vdrvOk <;> cases k.vcpOk <;> simp [bit_or, bit_and, bit_zero, bit_mask]

theorem gsupFltClear_spec (b : Fin 8) (d : Word) (s : State) :
    (∀ k, k < 16 → bit ((gsupFltClear b d s).rd (A.GSUP_FLT b.val)) k = (bit (s.rd (A.GSUP_FLT b.val)) k &&
      !(bit (gsupMask s.bank[b] d) k && !bit (s.freshAt (A.GSUP_FLT b.val)) k))) ∧
    ((gsupFltClear b d s).bank[b]).vdrvLock =
      ((s.bank[b]).vdrvLock && bit ((gsupFltClear b d s).rd (A.GSUP_FLT b.val)) 0) ∧
    ((gsupFltClear b d s).bank[b]).vcpLock =
      ((s.bank[b]).vcpLock && bit ((gsupFltClear b d s).rd (A.GSUP_FLT b.val)) 1) := by
  unfold gsupFltClear
  extract_lets k m s1 f
  have hrd : ∀ g, (s1.bankCause (200 * s1.clk.ticks) b g).rd (A.GSUP_FLT b.val) = f :=
    fun g => bankCause_rd _ _ _ _ (gsup_at b).2.2.2
  obtain ⟨w, hw⟩ := bankCause_self s1 (200 * s1.clk.ticks) b
    (fun k => { k with vdrvLock := k.vdrvLock && bit f 0, vcpLock := k.vcpLock && bit f 1 })
  have hs1 : s1.bank = s.bank := rfl
  rw [hrd]
  refine ⟨fun j hj => clrFlags_bit s _ m hj, ?_, ?_⟩
  · rw [hw, hs1]
  · rw [hw, hs1]

theorem exec_gsupFltClear {s : State} (hup : s.up = true) (hears : s.hears = true) (b : Fin 8) {d : Word}
    (hdom : s.dom b.val = true) (hl : s.legal (A.GSUP_FLT b.val) d = true) :
    exec (.gsupFltClear b d) s = .next (gsupFltClear b d s) := by
  obtain ⟨hat, hd, hix, _⟩ := gsup_at b
  change execGsupFltClear b d s = _
  rw [execGsupFltClear, hostWord_of_hears hup hears, writeWord_block hat (by decide) rfl hd hdom hl]
  show Host.Outcome.next (gsupFltClear (bankIx [b.val]) d s) = _
  rw [hix]

/-! ### The bootstrap supplies (R203, R223) -/

/-- A HIGH that the bootstrap lock-out blocks is never selected. -/
theorem select_ne_high {s : State} {h : Fin 72} (hb : s.hb[h].bst = false) : (s.select h).2 ≠ .high := by
  cases hf : (s.bank[hbBank h]).flt with
  | driven =>
    rw [select_driven hf, hb]
    split
    · exact nofun
    · rename_i c
      exact fun hw => c ⟨hw, rfl⟩
  | entering => rw [select_moving (Or.inl hf)]; exact nofun
  | floating => rw [select_floating hf]; exact nofun
  | leaving => rw [select_moving (Or.inr hf)]; exact nofun

theorem select_blocked {s : State} {h : Fin 72} (hf : (s.bank[hbBank h]).flt = .driven) (hb : s.hb[h].bst = false)
    (hw : s.wanted h = .high) : (s.select h).2 = .hiz := by
  rw [select_driven hf, hb, hw]
  rfl

theorem select_hiz_of_row2 {s : State} {h : Fin 72} (hf : (s.bank[hbBank h]).flt = .driven) (hw : s.row2Cmd h = some .hiz) :
    (s.select h).2 = .hiz := by
  have hwd : s.wanted h = .hiz := by unfold State.wanted; rw [hw]
  rw [select_driven hf, hwd]
  rfl

theorem wanted_of_high {s : State} {h : Fin 72} (hs : (s.select h).2 = .high) :
    (s.bank[hbBank h]).flt = .driven ∧ s.wanted h = .high := by
  cases hf : (s.bank[hbBank h]).flt with
  | driven =>
    rw [select_driven hf] at hs
    refine ⟨rfl, ?_⟩
    split at hs
    · cases hs
    · exact hs
  | entering => rw [select_moving (Or.inl hf)] at hs; cases hs
  | floating => rw [select_floating hf] at hs; cases hs
  | leaving => rw [select_moving (Or.inr hf)] at hs; cases hs

theorem axBank_of_hbAxis {s : State} {h : Fin 72} {a : Fin 24} {r : Fin 3} (ha : s.hbAxis h = some (a, r)) :
    axBank a = hbBank h := by
  unfold State.hbAxis at ha
  obtain ⟨⟨j, r'⟩, _, e⟩ := Option.map_eq_some_iff.mp ha
  obtain ⟨rfl, rfl⟩ := Prod.mk.inj e
  apply Fin.ext
  show (axOf (hbBank h) j).val / 3 = (hbBank h).val
  show (3 * (hbBank h).val + j.val) / 3 = (hbBank h).val
  omega

theorem ascCmd_high {o : Option Side} (h : ascCmd o = .high) : o = some .high := by
  cases o with
  | none => cases h
  | some d => cases d with
    | low => cases h
    | high => rfl

/-- A HIGH that row 2 gives a half-bridge of an axis is an active short of the axis on its high side. -/
theorem holdsAscHigh_of_row2 {s : State} {h : Fin 72} {a : Fin 24} {r : Fin 3} (ha : s.hbAxis h = some (a, r))
    (hm : HbCmd.high ∈ s.row2 h) : s.holdsAscHigh a = true := by
  have hbk := axBank_of_hbAxis ha
  unfold State.row2 at hm
  simp only [ha, ← hbk, List.mem_append] at hm
  unfold State.holdsAscHigh State.wantsAsc
  rcases hm with ((hall | hreact) | hsafe) | hvov
  · split at hall <;> simp at hall
  · cases e : s.ax[a].react <;> simp [-Fin.getElem_fin, e] at hreact
    rfl
  · split at hsafe
    · rename_i hcause
      split at hsafe
      · rename_i hcan
        obtain ⟨hc, hs⟩ := Bool.and_eq_true_iff.mp hcan
        have hside := ascCmd_high (List.mem_singleton.mp hsafe).symm
        simp only [hc, hs, hcause, hside, Bool.true_and, Bool.true_or, beq_self_eq_true, Bool.or_true]
      · simp at hsafe
    · simp at hsafe
  · split at hvov
    · rename_i hcause
      split at hvov
      · rename_i hcan
        obtain ⟨hc, hs⟩ := Bool.and_eq_true_iff.mp hcan
        have hside := ascCmd_high (List.mem_singleton.mp hvov).symm
        simp only [hc, hs, hcause, hside, Bool.true_and, Bool.or_true, beq_self_eq_true]
      · simp at hvov
    · simp at hvov

theorem row2Cmd_of_hiz {s : State} {h : Fin 72} (hm : HbCmd.hiz ∈ s.row2 h) : s.row2Cmd h = some .hiz := by
  unfold State.row2Cmd
  cases e : s.row2 h with
  | nil => rw [e] at hm; cases hm
  | cons c cs =>
    rw [e] at hm
    dsimp only
    rw [if_pos (List.contains_iff_mem.mpr hm)]

theorem mem_of_row2Cmd {s : State} {h : Fin 72} {c : HbCmd} (hc : s.row2Cmd h = some c) : c ∈ s.row2 h := by
  unfold State.row2Cmd at hc
  cases e : s.row2 h with
  | nil => rw [e] at hc; cases hc
  | cons x xs =>
    rw [e] at hc
    dsimp only at hc
    split at hc
    · rename_i hz
      cases hc
      exact List.contains_iff_mem.mp hz
    · cases hc
      exact List.mem_cons_self

/-- The axis after an active short has been lost (R223). -/
theorem loseAsc_ax (s : State) (a : Fin 24) : (s.loseAsc a).ax[a] = { s.ax[a] with
    react := if s.ax[a].react = .ascLow ∨ s.ax[a].react = .ascHigh then .hiz else s.ax[a].react, safeSide := none } := by
  unfold State.loseAsc
  extract_lets b j s1
  have h1 : (s1.setFlags (A.PROT_AXSTAT b.val j) (bitW 0)).ax = s1.ax := rfl
  rw [raise_ax, h1, modAx_get, if_pos rfl]

theorem loseAsc_img (s : State) (a : Fin 24) : (s.loseAsc a).img = s.img := by
  unfold State.loseAsc
  extract_lets b j s1
  exact raise_img _ _ _ _

/-- An active short on the high side that is lost leaves phase Hi-Z on the half-bridges of the axis (R223). -/
theorem row2Cmd_loseAsc {s : State} {h : Fin 72} {a : Fin 24} {r : Fin 3} (ha : s.hbAxis h = some (a, r))
    (hh : s.holdsAscHigh a = true) : (s.loseAsc a).row2Cmd h = some .hiz := by
  have hbk := axBank_of_hbAxis ha
  have hcfg : ∀ b, (s.loseAsc a).cfg b = s.cfg b := fun b => by unfold State.cfg; rw [loseAsc_img]
  have hty : (s.loseAsc a).axType a = s.axType a := by unfold State.axType; rw [hcfg]
  have hac : (s.loseAsc a).axCfg a = s.axCfg a := by unfold State.axCfg; rw [hcfg]
  have hha : (s.loseAsc a).hbAxis h = some (a, r) := by rw [← ha]; unfold State.hbAxis; rw [hcfg]
  refine row2Cmd_of_hiz ?_
  unfold State.row2
  simp only [hha, hty, hac, hcfg, loseAsc_bank, loseAsc_ax, ← hbk, List.mem_append]
  by_cases hr : s.ax[a].react = .ascLow ∨ s.ax[a].react = .ascHigh
  · exact Or.inl (Or.inl (Or.inr (by simp only [if_pos hr]; decide)))
  · have hsafe : ∀ k : Bank, k.safeOf { s.ax[a] with
        react := if s.ax[a].react = .ascLow ∨ s.ax[a].react = .ascHigh then .hiz else s.ax[a].react, safeSide := none } =
        k.safeOf s.ax[a] := fun k => by unfold Bank.safeOf; rw [if_neg hr]
    have hn : (s.ax[a].react == .ascHigh) = false := by
      rw [beq_eq_false_iff_ne]; exact fun c => hr (Or.inr c)
    unfold State.holdsAscHigh State.wantsAsc at hh
    simp only [hn, Bool.false_or, Bool.and_eq_true, Bool.or_eq_true] at hh
    obtain ⟨⟨hcan, ⟨hc, hs⟩ | ⟨hv, hs⟩⟩, _⟩ := hh
    · refine Or.inl (Or.inr ?_)
      rw [hsafe, if_pos (Bool.or_eq_true_iff.mpr hc), if_pos (by rw [hcan, hs]; rfl)]
      decide
    · refine Or.inr ?_
      rw [if_pos hv, if_pos (by rw [hcan, hs]; rfl)]
      decide

/-- A release changes what a half-bridge commands for its own axis alone (R177). -/
theorem release_eq (s : State) (h : Fin 72) (o : Option HbCmd) :
    s.release h o = s ∨ ∃ c, o = some c ∧ s.release h o = s.modHb h (fun x => { x with back := some c }) := by
  unfold State.release
  split
  · exact Or.inr ⟨_, rfl, rfl⟩
  · exact Or.inl rfl

theorem modBack_get (s : State) (h h' : Fin 72) (o : Option HbCmd) :
    (s.modHb h (fun x => { x with back := o })).hb[h'] =
      if h = h' then { s.hb[h'] with back := o } else s.hb[h'] := by
  rw [modHb_get]
  split
  · subst h'; rfl
  · rfl

/-- What row 2 reads stays at a release. -/
theorem release_causes (s : State) (h h' : Fin 72) (o : Option HbCmd) : Causes h' s (s.release h o) := by
  rcases release_eq s h o with e | ⟨c, _, e⟩ <;> rw [e]
  · exact Causes.refl _ _
  · refine ⟨rfl, rfl, SameBanks.refl s, ?_⟩
    rw [modBack_get]
    split <;> rfl

theorem release_bst (s : State) (h h' : Fin 72) (o : Option HbCmd) :
    (s.release h o).hb[h'].bst = s.hb[h'].bst := by
  rcases release_eq s h o with e | ⟨c, _, e⟩
  · simp only [e]
  · simp only [e, modBack_get]
    split <;> rfl

/-- No command is released on a half-bridge that row 2 did not hold. -/
theorem release_wants (s : State) (h h' : Fin 72) (o : Option HbCmd) (ho : h = h' → o = none) :
    Wants h' s (s.release h o) := by
  rcases release_eq s h o with e | ⟨c, hc, e⟩ <;> rw [e]
  · exact Wants.refl _ _
  · have n : h ≠ h' := fun c' => by rw [ho c'] at hc; cases hc
    refine ⟨⟨rfl, rfl, SameBanks.refl s, ?_⟩, rfl, fun _ => rfl, fun _ _ => rfl, ?_, ?_⟩ <;>
      rw [modBack_get, if_neg n]

theorem modBst_wants (s : State) (h : Fin 72) (v : Bool) : Wants h s (s.modHb h (fun x => { x with bst := v })) := by
  refine ⟨⟨rfl, rfl, SameBanks.refl s, ?_⟩, rfl, fun _ => rfl, fun _ _ => rfl, ?_, ?_⟩ <;>
    rw [modHb_get, if_pos rfl]

theorem countCut_steers (s : State) (h h' : Fin 72) : Steers h' s (s.countCut h) := by
  unfold State.countCut
  split
  · exact bstBlock_steers _ _ _
  · exact Steers.refl _ _

theorem loseAsc_hb (s : State) (a : Fin 24) : (s.loseAsc a).hb = s.hb := by
  unfold State.loseAsc
  extract_lets b j s1
  exact raise_hb _ _ _ _

/-- Supplies that an active short lacks leave the bootstrap supply itself alone. -/
theorem ascSupply_bst (s : State) (a : Fin 24) (h : Fin 72) : (s.ascSupply a).hb[h].bst = s.hb[h].bst := by
  unfold State.ascSupply
  split
  · simp only [loseAsc_hb]
    exact (each_steers (h := h) (fun u x => countCut_steers u x h) _ s).bst
  · rfl

/-- What a change of the causes on a list of half-bridges leaves commanded: what is selected after the releases. -/
theorem reRow2_follows {s : State} {t : Nat} {l : List (Fin 72)} {f : State → State} {h : Fin 72} (hm : h ∈ l) :
    ∃ u, u = (f s).each (l.map (fun h => (h, s.row2Cmd h))) (fun s p => s.release p.1 p.2) ∧
      Steers h u (s.reRow2 t l f) ∧ (s.reRow2 t l f).hb[h].cmd = (u.select h).2 :=
  ⟨_, rfl, each_steers (fun u x => redrive_steers u t x h) l _, each_redrive_follows t l _ h hm⟩

section Releases
variable (l : List (Fin 72 × Option HbCmd)) (h : Fin 72)

theorem each_release_causes : ∀ s : State, Causes h s (s.each l (fun s p => s.release p.1 p.2)) := by
  induction l with
  | nil => exact fun s => Causes.refl h s
  | cons p ps ih => exact fun s => (release_causes s p.1 h p.2).trans (ih (s.release p.1 p.2))

theorem each_release_bst : ∀ s : State, (s.each l (fun s p => s.release p.1 p.2)).hb[h].bst = s.hb[h].bst := by
  induction l with
  | nil => exact fun _ => rfl
  | cons p ps ih => exact fun s => (ih (s.release p.1 p.2)).trans (release_bst s p.1 h p.2)

theorem each_release_wants (hl : ∀ p ∈ l, p.1 = h → p.2 = none) :
    ∀ s : State, Wants h s (s.each l (fun s p => s.release p.1 p.2)) := by
  induction l with
  | nil => exact fun s => Wants.refl h s
  | cons p ps ih =>
    exact fun s => (release_wants s p.1 h p.2 (hl p List.mem_cons_self)).trans
      (ih (fun q hq => hl q (List.mem_cons_of_mem _ hq)) (s.release p.1 p.2))

end Releases

theorem holdsAscHigh_of_causes {s t : State} {h : Fin 72} (k : Causes h s t) (a : Fin 24) :
    t.holdsAscHigh a = s.holdsAscHigh a := by
  unfold State.holdsAscHigh State.wantsAsc
  simp only [k.ax, k.axType, k.axCfg, k.cfg]
  rw [k.bank]
  rfl

/-- An active short on the high side that a half-bridge without bootstrap supply takes part in is lost. -/
theorem ascSupply_lost {s : State} {h : Fin 72} {a : Fin 24} (hm : h ∈ s.axHbs a) (hb : s.hb[h].bst = false)
    (hh : s.holdsAscHigh a = true) : ∃ u, Steers h s u ∧ u.holdsAscHigh a = true ∧ s.ascSupply a = u.loseAsc a := by
  refine ⟨s.each (s.axHbs a) State.countCut, each_steers (fun u x => countCut_steers u x h) _ s, ?_, ?_⟩
  · rw [holdsAscHigh_of_causes (each_steers (h := h) (fun u x => countCut_steers u x h) _ s).toCauses, hh]
  · unfold State.ascSupply
    rw [if_pos]
    rw [hh, Bool.true_and]
    exact List.any_eq_true.mpr ⟨h, hm, by rw [hb]; rfl⟩

theorem ascSupply_kept {s : State} {a : Fin 24} (hh : s.holdsAscHigh a = false) : s.ascSupply a = s := by
  unfold State.ascSupply
  rw [hh]
  rfl

/-- The supply of a half-bridge of no axis falls, or of one of an axis: the driver follows a selection in which the supply is
low, and where HIGH was selected before it gives phase Hi-Z (R203, R223). -/
theorem bstUv_selects (t : Nat) (h : Fin 72) (s : State) (hax : ∀ a r, s.hbAxis h = some (a, r) → h ∈ s.axHbs a) :
    ∃ u : State, u.hb[h].bst = false ∧ Steers h u (bstUv t h s) ∧ (bstUv t h s).hb[h].cmd = (u.select h).2 ∧
      ((s.select h).2 = .high → (u.select h).2 = .hiz) := by
  unfold bstUv
  extract_lets s1 s2
  have hw : Wants h s s2 := (modBst_wants s h false).trans (countCut_steers s1 h h).toWants
  have hb2 : s2.hb[h].bst = false := by
    rw [(countCut_steers s1 h h).bst]
    show (s.modHb h _).hb[h].bst = false
    rw [modHb_get, if_pos rfl]
  cases ha : s2.hbAxis h with
  | none =>
    refine ⟨s2, hb2, redrive_steers s2 t h h, redrive_follows s2 t h, fun hs => ?_⟩
    obtain ⟨hf, hhi⟩ := wanted_of_high hs
    exact select_blocked (hw.flt.trans hf) hb2 (hw.wanted.trans hhi)
  | some p =>
    obtain ⟨a, r⟩ := p
    dsimp only
    have ha0 : s.hbAxis h = some (a, r) := hw.hbAxis.symm.trans ha
    have hm : h ∈ s2.axHbs a := by
      have e : s2.axHbs a = s.axHbs a := by unfold State.axHbs; rw [hw.cfg]
      rw [e]; exact hax a r ha0
    obtain ⟨u, hu, hst, hcmd⟩ := reRow2_follows (s := s2) (t := t) (f := fun s => s.ascSupply a) hm
    have hub : u.hb[h].bst = false := by
      rw [hu, each_release_bst]
      exact (ascSupply_bst s2 a h).trans hb2
    refine ⟨u, hub, hst, hcmd, fun hs => ?_⟩
    obtain ⟨hf, hhi⟩ := wanted_of_high hs
    have hc := each_release_causes ((s2.axHbs a).map (fun h => (h, s2.row2Cmd h))) h (s2.ascSupply a)
    rw [← hu] at hc
    have hf2 : ((s2.ascSupply a).bank[hbBank h]).flt = .driven := by
      rw [ascSupply_bank]; exact hw.flt.trans hf
    cases hasc : s2.holdsAscHigh a with
    | true =>
      obtain ⟨v, hv, hvh, e⟩ := ascSupply_lost hm hb2 hasc
      refine select_hiz_of_row2 (hc.flt.trans hf2) ?_
      rw [hc.row2Cmd, e]
      exact row2Cmd_loseAsc (hv.hbAxis.trans ha) hvh
    | false =>
      rw [ascSupply_kept hasc] at hu
      have hn : s2.row2Cmd h = none := by
        cases e : s2.row2Cmd h with
        | none => rfl
        | some c =>
          have hcw : s2.wanted h = c := by unfold State.wanted; rw [e]
          rw [hw.wanted, hhi] at hcw
          subst hcw
          rw [holdsAscHigh_of_row2 ha (mem_of_row2Cmd e)] at hasc
          cases hasc
      have huw : Wants h s2 u := by
        rw [hu]
        refine each_release_wants _ _ (fun p hp he => ?_) s2
        obtain ⟨x, _, rfl⟩ := List.mem_map.mp hp
        exact (congrArg s2.row2Cmd he).trans hn
      exact select_blocked (huw.flt.trans (hw.flt.trans hf)) hub (huw.wanted.trans (hw.wanted.trans hhi))

/-- Settles O9: the lock-outs by the causes they set, the release by the mask of its write, and a fallen bootstrap supply by
what the selection gives without it. -/
theorem gateSupplyMonitors : Obligations.GateSupplyMonitors := by
  unfold Obligations.GateSupplyMonitors
  refine ⟨fun s at' b => ⟨fun hs hseen hl hh => ?_, fun hs hseen => ?_, fun hs hcp hseen hl => ?_, fun hcp => ?_⟩,
    fun s i hs => ?_, fun s b hs => ⟨?_, fun hcp => ?_⟩, fun s b d hup hears hdom hl => ?_, fun s at' h hs hb hax => ?_⟩
  · refine ⟨vdrvUv (s.clkAt at') b s, ?_, vdrvUv_trip hseen hl hh⟩
    change execVdrvUv at' b s = _
    rw [execVdrvUv, if_pos hs]
  · change execVdrvUv at' b s = _
    rw [execVdrvUv, if_pos hs, vdrvUv_unseen hseen]
  · refine ⟨vcpUv (s.clkAt at') b s, ?_, vcpUv_trip hseen hl⟩
    change execVcpUv at' b s = _
    rw [execVcpUv, hs, hcp]
    rfl
  · change execVcpUv at' b s = _
    rw [execVcpUv, hcp, Bool.and_false]
    rfl
  · change execSupplyRise 2 i s = _
    rw [execSupplyRise, supplyRise, if_pos rfl, if_pos hs]
  · change execSupplyRise 0 _ s = _
    have h8 := b.isLt
    simp [execSupplyRise, supplyRise, hs]
  · change execSupplyRise 1 _ s = _
    simp [execSupplyRise, supplyRise, hs, hcp]
  · obtain ⟨hbit, hv, hc⟩ := gsupFltClear_spec b d s
    refine ⟨gsupFltClear b d s, exec_gsupFltClear hup hears b hdom hl, fun hd hfr hok => ?_, fun hok => ?_,
      fun hd hfr hok => ?_, fun hok => ?_⟩
    · have h0 : bit ((gsupFltClear b d s).rd (A.GSUP_FLT b.val)) 0 = false := by
        rw [hbit 0 (by decide), gsupMask_vdrv, hok, hd, hfr]; simp
      exact ⟨by rw [hv, h0, Bool.and_false], h0⟩
    · have h0 : bit ((gsupFltClear b d s).rd (A.GSUP_FLT b.val)) 0 = bit (s.rd (A.GSUP_FLT b.val)) 0 := by
        rw [hbit 0 (by decide), gsupMask_vdrv, hok]; simp
      exact ⟨h0, fun hset => by rw [hv, h0, hset, Bool.and_true]⟩
    · have h1 : bit ((gsupFltClear b d s).rd (A.GSUP_FLT b.val)) 1 = false := by
        rw [hbit 1 (by decide), gsupMask_vcp, hok, hd, hfr]; simp
      exact ⟨by rw [hc, h1, Bool.and_false], h1⟩
    · have h1 : bit ((gsupFltClear b d s).rd (A.GSUP_FLT b.val)) 1 = bit (s.rd (A.GSUP_FLT b.val)) 1 := by
        rw [hbit 1 (by decide), gsupMask_vcp, hok]; simp
      exact ⟨h1, fun hset => by rw [hc, h1, hset, Bool.and_true]⟩
  · obtain ⟨u, hub, hst, hcmd, hhi⟩ := bstUv_selects (s.clkAt at') h s hax
    refine ⟨bstUv (s.clkAt at') h s, ?_, hst.bst.trans hub, ?_, fun hsel => hcmd.trans (hhi hsel)⟩
    · change execBstUv at' h s = _
      rw [execBstUv, hs, hb]
      rfl
    · rw [hcmd]; exact select_ne_high hub

end Sys2Proof.Proofs
end

section
/-! SUPPORT. Proofs of the short-circuit detectors: bits and fields of a word, and a gate that has been turned off. -/
namespace Sys2Proof.Proofs
set_option Elab.async false
open Sys2Proof.Machine Sys2Proof.Safety Sys2Proof.Laws

/-! ### Bits and fields of a word (R11) -/

theorem testBit_field (w : Word) (hi lo j : Nat) :
    (field w hi lo).testBit j = (decide (j < hi + 1 - lo) && bit w (lo + j)) := by
  unfold field bit
  rw [Nat.testBit_mod_two_pow, Nat.testBit_div_two_pow, BitVec.testBit_toNat, Nat.add_comm j lo]

theorem bit_setField (w : Word) {hi lo k : Nat} (n : Nat) (hl : lo ≤ hi) (hk : k < 16) :
    bit (setField w hi lo n) k = if lo ≤ k ∧ k ≤ hi then n.testBit (k - lo) else bit w k := by
  unfold setField maskW w16 bit
  simp only [BitVec.getLsbD_or, BitVec.getLsbD_and, BitVec.getLsbD_not, BitVec.getLsbD_ofNat, Nat.testBit_mul_two_pow,
    Nat.testBit_two_pow_sub_one, Nat.testBit_mod_two_pow, hk, decide_true, Bool.true_and]
  by_cases h1 : lo ≤ k
  · by_cases h2 : k ≤ hi
    · have h3 : k - lo < hi + 1 - lo := by omega
      simp [h1, h2, h3]
    · have h3 : ¬ k - lo < hi + 1 - lo := by omega
      simp [h1, h2, h3]
  · simp [h1]

theorem field_setField (w : Word) {hi lo n : Nat} (hh : hi < 16) (hl : lo ≤ hi) (hn : n < 2 ^ (hi + 1 - lo)) :
    field (setField w hi lo n) hi lo = n := by
  refine Nat.eq_of_testBit_eq (fun j => ?_)
  rw [testBit_field]
  by_cases hj : j < hi + 1 - lo
  · rw [bit_setField _ _ hl (by omega), if_pos (by omega)]
    simp [hj]
  · rw [Nat.testBit_lt_two_pow (Nat.lt_of_lt_of_le hn (Nat.pow_le_pow_right (by decide) (by omega)))]
    simp [hj]

theorem field_setField_apart (w : Word) {hi lo n h l : Nat} (hl : lo ≤ hi) (hb : h < 16)
    (ha : h < lo ∨ hi < l) : field (setField w hi lo n) h l = field w h l := by
  refine Nat.eq_of_testBit_eq (fun j => ?_)
  rw [testBit_field, testBit_field]
  by_cases hj : j < h + 1 - l
  · rw [bit_setField _ _ hl (by omega), if_neg (by omega)]
  · simp [hj]

/-- PROT_CHFLT_i after a trip has the flag of the detector on its side; the first trip is named (R218). -/
theorem chfltAfter_spec (w : Word) {k : Nat} (side : Side) (same : Bool) (hk : k ≤ 2) :
    bit (chfltAfter w k side same) (2 * k + b2n (side == .high)) = true ∧
      (field w 5 0 = 0 → field (chfltAfter w k side same) 14 12 = k + 1 ∧
        bit (chfltAfter w k side same) 11 = (side == .high)) := by
  have hb : b2n (side == .high) ≤ 1 := by cases side <;> decide
  have hself : bit (w ||| bitW (2 * k + b2n (side == .high))) (2 * k + b2n (side == .high)) = true := by
    rw [bit_or, bit_bitW _ (by omega), Bool.or_true]
  unfold chfltAfter
  extract_lets hi w'
  by_cases h0 : field w 5 0 = 0
  · rw [if_pos h0]
    refine ⟨?_, fun _ => ⟨?_, ?_⟩⟩
    · rw [bit_setField _ _ (by decide) (by omega), if_neg (by omega),
        bit_setField _ _ (by decide) (by omega), if_neg (by omega)]
      exact hself
    · rw [field_setField_apart _ (by decide) (by decide) (by omega),
        field_setField _ (by decide) (by decide) (by omega)]
    · rw [bit_setField _ _ (by decide) (by decide), if_pos (by omega)]
      show hi.testBit 0 = _
      cases side <;> decide
  · rw [if_neg h0]
    refine ⟨?_, fun c => absurd c h0⟩
    split
    · rw [bit_setField _ _ (by decide) (by omega), if_neg (by omega)]
      exact hself
    · exact hself

/-! ### A gate that a fault reaction has turned off -/

/-- The gate of that side has been turned off at clock `t` at its soft-off step. -/
def SoftOffAt (h : Fin 72) (d : Side) (t : Nat) (s : State) : Prop :=
  (s.hb[h].gate d).on = false ∧ (s.hb[h].gate d).offAt = t ∧ (s.hb[h].gate d).soft = true

theorem eq_other_of_ne : {d d' : Side} → d' ≠ d → d = d'.other
  | .low, .low, e => absurd rfl e
  | .low, .high, _ => rfl
  | .high, .low, _ => rfl
  | .high, .high, e => absurd rfl e

section Stays
variable {h : Fin 72} {d : Side} {t : Nat}

theorem softOffAt_of_gate {s u : State} (hg : u.hb[h].gate d = s.hb[h].gate d) (k : SoftOffAt h d t s) :
    SoftOffAt h d t u := by
  unfold SoftOffAt; rw [hg]; exact k

theorem softOffAt_of_hb {s u : State} (hg : u.hb = s.hb) (k : SoftOffAt h d t s) : SoftOffAt h d t u :=
  softOffAt_of_gate (by rw [hg]) k

/-- A change of gates that turns none on and changes no turn-off. -/
theorem modGate_softOffAt {s : State} {h' : Fin 72} {d' : Side} {f : Gate → Gate}
    (hf : ∀ g : Gate, g.on = false → (f g).on = false ∧ (f g).offAt = g.offAt ∧ (f g).soft = g.soft) (k : SoftOffAt h d t s) :
    SoftOffAt h d t (s.modGate h' d' f) := by
  by_cases n : h' = h
  · subst n
    by_cases e : d' = d
    · subst e
      obtain ⟨h1, h2, h3⟩ := hf _ k.1
      unfold SoftOffAt
      rw [modGate_gate]
      exact ⟨h1, h2.trans k.2.1, h3.trans k.2.2⟩
    · have e' : d = d'.other := eq_other_of_ne e
      subst e'
      exact softOffAt_of_gate (modGate_gate_other _ _ _ _) k
  · exact softOffAt_of_gate (by rw [modGate_other _ _ _ _ _ n]) k

theorem turnOff_softOffAt {s : State} {h' : Fin 72} {d' : Side} {t' : Nat} {f : Bool} (k : SoftOffAt h d t s) :
    SoftOffAt h d t (s.turnOff t' h' d' f) := by
  by_cases n : h' = h
  · subst n
    by_cases e : d' = d
    · subst e
      unfold State.turnOff
      rw [if_neg (by rw [k.1]; decide)]
      exact modGate_softOffAt (fun g hg => ⟨hg, rfl, rfl⟩) k
    · have e' : d = d'.other := eq_other_of_ne e
      subst e'
      exact softOffAt_of_gate (turnOff_gate_other _ _ _ _ _) k
  · exact softOffAt_of_gate (by rw [turnOff_other _ _ _ _ _ _ n]) k

theorem gateOff_softOffAt {s : State} {h' : Fin 72} {d' : Side} {t' : Nat} {f : Bool} (k : SoftOffAt h d t s) :
    SoftOffAt h d t (s.gateOff t' h' d' f) := by
  unfold State.gateOff
  dsimp only
  split
  · exact modGate_softOffAt (fun g hg => ⟨hg, rfl, rfl⟩) k
  · exact turnOff_softOffAt k

theorem gateOn_softOffAt {s : State} {h' : Fin 72} {d' : Side} (k : SoftOffAt h d t s) :
    SoftOffAt h d t (s.gateOn h' d') := by
  refine modGate_softOffAt (fun g hg => ?_) k
  rw [if_neg (by rw [hg]; decide)]
  exact ⟨hg, rfl, rfl⟩

theorem modHb_softOffAt {s : State} {h' : Fin 72} {f : HalfB → HalfB} (hf : ∀ x : HalfB, (f x).hs = x.hs ∧ (f x).ls = x.ls)
    (k : SoftOffAt h d t s) : SoftOffAt h d t (s.modHb h' f) := by
  refine softOffAt_of_gate ?_ k
  rw [modHb_get]
  split
  · subst h'
    cases d
    · exact (hf _).2
    · exact (hf _).1
  · rfl

theorem deliver_softOffAt {s : State} {h' : Fin 72} {t' : Nat} {f : Bool} {c : HbCmd} (k : SoftOffAt h d t s) :
    SoftOffAt h d t (s.deliver t' h' f c) := by
  have hc : SoftOffAt h d t (s.modHb h' (fun x => { x with cmd := c })) := modHb_softOffAt (fun _ => ⟨rfl, rfl⟩) k
  unfold State.deliver
  dsimp only
  split
  · exact gateOn_softOffAt (gateOff_softOffAt hc)
  · exact gateOn_softOffAt (gateOff_softOffAt hc)
  · exact gateOff_softOffAt (gateOff_softOffAt hc)

theorem each_softOffAt {α : Type} {f : State → α → State} (hf : ∀ u x, SoftOffAt h d t u → SoftOffAt h d t (f u x))
    (l : List α) {s : State} (k : SoftOffAt h d t s) : SoftOffAt h d t (s.each l f) := by
  induction l generalizing s with
  | nil => exact k
  | cons x xs ih => exact ih (hf s x k)

theorem urge_softOffAt {s : State} {h' : Fin 72} {t' : Nat} (k : SoftOffAt h d t s) : SoftOffAt h d t (s.urge t' h') := by
  unfold State.urge
  refine each_softOffAt (fun u x hu => ?_) _ k
  dsimp only
  split
  · exact turnOff_softOffAt hu
  · exact hu

theorem bstBlock_softOffAt {s : State} {h' : Fin 72} (k : SoftOffAt h d t s) : SoftOffAt h d t (s.bstBlock h') :=
  softOffAt_of_hb (bstBlock_hb s h') (modHb_softOffAt (fun _ => ⟨rfl, rfl⟩) k)

theorem redrive_softOffAt {s : State} {h' : Fin 72} {t' : Nat} (k : SoftOffAt h d t s) :
    SoftOffAt h d t (s.redrive t' h') := by
  rw [redrive_eq]
  extract_lets u v
  have hu : SoftOffAt h d t u := by
    unfold u State.cutMark
    split
    · split
      · split
        · exact k
        · exact bstBlock_softOffAt k
      · exact modHb_softOffAt (fun _ => ⟨rfl, rfl⟩) k
    · exact k
  have hv : SoftOffAt h d t v := by
    unfold v
    split
    · exact softOffAt_of_hb (markAbove_hb _ _) hu
    · exact hu
  split
  · split
    · exact urge_softOffAt hv
    · exact hv
  · exact deliver_softOffAt hv

theorem release_softOffAt {s : State} {h' : Fin 72} {o : Option HbCmd} (k : SoftOffAt h d t s) :
    SoftOffAt h d t (s.release h' o) := by
  rcases release_eq s h' o with e | ⟨c, _, e⟩ <;> rw [e]
  · exact k
  · exact modHb_softOffAt (fun _ => ⟨rfl, rfl⟩) k

theorem reRow2_softOffAt {s : State} {l : List (Fin 72)} {f : State → State} {t' : Nat} (k : SoftOffAt h d t (f s)) :
    SoftOffAt h d t (s.reRow2 t' l f) := by
  unfold State.reRow2
  exact each_softOffAt (fun _ _ hu => redrive_softOffAt hu) _ (each_softOffAt (fun _ _ hu => release_softOffAt hu) _ k)

theorem ascSupply_softOffAt {s : State} {a : Fin 24} (k : SoftOffAt h d t s) : SoftOffAt h d t (s.ascSupply a) := by
  unfold State.ascSupply
  split
  · refine softOffAt_of_hb (loseAsc_hb _ _) (each_softOffAt (fun u x hu => ?_) _ k)
    unfold State.countCut
    split
    · exact bstBlock_softOffAt hu
    · exact hu
  · exact k

theorem rejudge_softOffAt {s : State} {a : Fin 24} {o : Option Side} (k : SoftOffAt h d t s) :
    SoftOffAt h d t (s.rejudge a o) := by
  unfold State.rejudge
  extract_lets held x react side s1
  have h1 : SoftOffAt h d t s1 := k
  by_cases hl : (held && !s1.holdsAsc a) = true
  · rw [if_pos hl]
    exact softOffAt_of_hb (loseAsc_hb _ _) h1
  · rw [if_neg hl]
    exact ascSupply_softOffAt h1

theorem takeReaction_softOffAt {s : State} {a : Fin 24} {h' : Fin 72} {d' : Side} (k : SoftOffAt h d t s) :
    SoftOffAt h d t (s.takeReaction a h' d') := by
  unfold State.takeReaction
  dsimp only
  split
  · exact modHb_softOffAt (fun _ => ⟨rfl, rfl⟩) k
  · split
    · exact k
    · split
      · exact ascSupply_softOffAt k
      · exact k

theorem engineFault_hb (s : State) (a : Fin 24) (r : Fin 3) : (s.engineFault a r).hb = s.hb :=
  (only_of_forget (engineFault_forget (raising { reactionReach with hb := false, bank := false, tim := false }) s a r
    (mayRaise_raising _) rfl rfl)).hb rfl

theorem cutShuntCal_hb (s : State) (b : Fin 8) : (s.cutShuntCal b).hb = s.hb :=
  (only_of_forget (cutShuntCal_forget (raising { reactionReach with hb := false, bank := false, tim := false }) s b
    (mayRaise_raising _) rfl)).hb rfl

/-- The reaction of the axis to a fault on a switch that was on turns it off at its soft-off step (R219). -/
theorem axisReaction_softOffAt {s : State} (hon : (s.hb[h].gate d).on = true) :
    SoftOffAt h d t (s.axisReaction t h d false) := by
  unfold State.axisReaction
  have h0 : SoftOffAt h d t ((s.softOff t h d).cutShuntCal (hbBank h)) := by
    refine softOffAt_of_hb (cutShuntCal_hb _ _) ?_
    unfold State.softOff
    rw [if_pos hon]
    obtain ⟨h1, h2, _, _, h5, _⟩ := turnOff_of_on (t := t) (f := true) hon
    exact ⟨h1, h2, h5⟩
  rw [if_neg (by decide)]
  dsimp only
  split
  · exact reRow2_softOffAt (modHb_softOffAt (fun _ => ⟨rfl, rfl⟩) h0)
  · exact softOffAt_of_hb (engineFault_hb _ _ _) (reRow2_softOffAt (rejudge_softOffAt (takeReaction_softOffAt h0)))

end Stays

/-! ### A detector that trips (R215 to R219) -/

theorem chflt_clear : ∀ (b : Fin 8) (i : Fin 9), (raising reactionReach).covers (A.PROT_CHFLT b.val i.val) = false := by
  decide +kernel

theorem axisReaction_rd (s : State) (t : Nat) (h : Fin 72) (d : Side) (f : Bool) {a : Nat}
    (ha : (raising reactionReach).covers a = false) : (s.axisReaction t h d f).rd a = s.rd a :=
  (only_of_forget (axisReaction_forget (raising reactionReach) s t h d f (mayRaise_raising _) rfl rfl rfl rfl rfl
    (has_of_mem (by decide)) (has_of_mem (by decide)) (has_of_mem (by decide)))).regs a ha

theorem chflt_apart (b : Fin 8) (i : Fin 9) : Apart (A.PROT_CHFLT b.val i.val) := by
  refine Or.inr (Or.inr ?_)
  unfold A.PROT_CHFLT
  omega

theorem detect_spec {s : State} {t : Nat} {h : Fin 72} {d : Side} {k : Nat}
    (hon : (s.hb[h].gate d).on = true) :
    (∃ same, (s.detect t h d k).rd (A.PROT_CHFLT (hbBank h).val (hbIn h).val) =
      chfltAfter (s.rd (A.PROT_CHFLT (hbBank h).val (hbIn h).val)) k d same) ∧
    eventBit (s.detect t h d k) (evPS_SHORT (hbBank h)) = true ∧ SoftOffAt h d t (s.detect t h d k) := by
  have hb := (hbBank h).isLt
  unfold State.detect
  extract_lets b i w g fstBit same w' s1 s2
  have hsrc : (evPS_SHORT (hbBank h)).src < 128 := by show 64 + 8 * (hbBank h).val < 128; omega
  have hhb : s2.hb = s.hb := raise_hb _ _ _ _
  rw [if_pos (by rw [show g.on = true from hon]; rfl)]
  refine ⟨⟨same, ?_⟩, raised_of_rings (axisReaction_rings (Rings.refl _)) hsrc, axisReaction_softOffAt (by rw [hhb]; exact hon)⟩
  rw [axisReaction_rd _ _ _ _ _ (chflt_clear _ _), raise_rd _ _ _ _ hsrc _ (chflt_apart _ _), rd_wr, if_pos rfl]

theorem sideOf_high (hi : Bool) : (sideOf hi == .high) = hi := by cases hi <;> decide

/-- Settles O10: the three timers change one field of the gate; the three detectors are one operation, told apart by their
index. -/
theorem shortCircuitDetectors : Obligations.ShortCircuitDetectors := by
  unfold Obligations.ShortCircuitDetectors
  refine ⟨fun s at' h hi hon => ⟨fun hle => ?_, fun hle => ?_, ?_⟩, fun s at' h hi c k hon hcase => ?_⟩
  · refine ⟨s.modGate h (sideOf hi) (fun g => { g with counts := true }), ?_, modGate_gate _ _ _ _, modGate_gate_other _ _ _ _⟩
    change execDsblExpiry at' h hi s = _
    simp only [execDsblExpiry, hon, hle, decide_true, Bool.and_self, if_true]
  · refine ⟨s.modGate h (sideOf hi) (fun g => { g with armed := true }), ?_, modGate_gate _ _ _ _, modGate_gate_other _ _ _ _⟩
    change execHardShortArm at' h hi s = _
    simp only [execHardShortArm, hon, hle, decide_true, Bool.and_self, if_true]
  · refine ⟨s.modGate h (sideOf hi) (fun g => { g with plateau := true }), ?_, modGate_gate _ _ _ _, modGate_gate_other _ _ _ _⟩
    change execGatePlateauReached h hi s = _
    simp only [execGatePlateauReached, hon, if_true]
  · have hch : s.checked (s.clkAt at') h (sideOf hi) = true := by
      simp only [State.checked, hon, Bool.true_or]
    obtain ⟨hk, hex⟩ : k ≤ 2 ∧ exec c s = .next (s.detect (s.clkAt at') h (sideOf hi) k) := by
      rcases hcase with ⟨rfl, rfl, hg, hle⟩ | ⟨rfl, rfl, hg, hle⟩ | ⟨rfl, rfl, hg, hle⟩
      · refine ⟨by decide, ?_⟩
        change execDesat at' h hi s = _
        simp only [execDesat, hch, hg, hle, decide_true, Bool.and_self, if_true]
      · refine ⟨by decide, ?_⟩
        change execHardShort at' h hi s = _
        simp only [execHardShort, hch, hg, hle, decide_true, Bool.and_self, if_true]
      · refine ⟨by decide, ?_⟩
        change execPlateau at' h hi s = _
        simp only [execPlateau, hch, hg, hle, decide_true, Bool.not_false, Bool.and_self, if_true]
    obtain ⟨⟨same, hw⟩, hev, hoff, hat, hsoft⟩ := detect_spec (t := s.clkAt at') (k := k) hon
    have hword := chfltAfter_spec (s.rd (A.PROT_CHFLT (hbBank h).val (hbIn h).val)) (sideOf hi) same hk
    rw [sideOf_high, ← hw] at hword
    exact ⟨_, hex, hword.1, hword.2, hev, hoff, hat, hsoft⟩

end Sys2Proof.Proofs
end

section
/-! SUPPORT. Proofs of the protection flags: their clearing, the release of the reactions that they held, over-temperature. -/
namespace Sys2Proof.Proofs
set_option Elab.async false
open Sys2Proof.Machine Sys2Proof.Safety Sys2Proof.Laws

/-! ### A series of operations that makes something true -/

/-- What one operation of a series makes true, and every other keeps, holds at its end. -/
theorem each_makes {α : Type} {f : State → α → State} {I P : State → Prop} (hI : ∀ u y, I u → I (f u y))
    (stay : ∀ u y, I u → P u → P (f u y)) {x : α} (make : ∀ u, I u → P (f u x)) {l : List α} (hx : x ∈ l) :
    ∀ {s : State}, I s → P (s.each l f) := by
  have keep : ∀ (l : List α) (s : State), I s → P s → P (s.each l f) := by
    intro l
    induction l with
    | nil => exact fun _ _ hp => hp
    | cons y ys ih => exact fun s hi hp => ih (f s y) (hI s y hi) (stay s y hi hp)
  induction l with
  | nil => cases hx
  | cons y ys ih =>
    intro s hi
    rcases List.mem_cons.mp hx with rfl | hm
    · exact keep ys _ (hI s x hi) (make s hi)
    · exact ih hm (hI s y hi)

/-! ### Fault flags of a half-bridge (R222, R225) -/

theorem bit_of_field_zero {w : Word} {hi lo k : Nat} (h : field w hi lo = 0) (h1 : lo ≤ k) (h2 : k ≤ hi) :
    bit w k = false := by
  have e := testBit_field w hi lo (k - lo)
  rw [h, Nat.zero_testBit, decide_eq_true (by omega), Bool.true_and, Nat.add_sub_cancel' h1] at e
  exact e.symm

theorem field_zero_of_bits {w : Word} {hi lo : Nat} (h : ∀ k, lo ≤ k → k ≤ hi → bit w k = false) : field w hi lo = 0 := by
  refine Nat.eq_of_testBit_eq (fun j => ?_)
  rw [testBit_field, Nat.zero_testBit]
  by_cases hj : j < hi + 1 - lo
  · rw [h _ (by omega) (by omega), Bool.and_false]
  · rw [decide_eq_false hj, Bool.false_and]

/-- A half-bridge without a fault where its detector flags are the same and its gate flags were set no less has none. -/
theorem anyFault_back {s t : State} {h : Fin 72} (hc : t.hbReg A.PROT_CHFLT h = s.hbReg A.PROT_CHFLT h) (hr : Rings s t)
    (ht : t.anyFault h = false) : s.anyFault h = false := by
  have hg : ∀ k, bit (t.hbReg A.GATE_FLT h) k = false → bit (s.hbReg A.GATE_FLT h) k = false := by
    intro k hk
    refine Bool.eq_false_iff.2 fun hn => ?_
    have := hr _ k (sticky_gate (hbBank h) (hbIn h)) hn
    rw [show t.rd _ = t.hbReg A.GATE_FLT h from rfl, hk] at this
    cases this
  unfold State.anyFault State.faulted at ht ⊢
  simp only [Bool.or_eq_false_iff, hc] at ht ⊢
  obtain ⟨⟨h1, g1⟩, h2, g0⟩ := ht
  exact ⟨⟨h1, hg 1 g1⟩, h2, hg 0 g0⟩

theorem hbIn_hbOf (b : Fin 8) (i : Fin 9) : hbIn (hbOf b i) = i := by
  apply Fin.ext
  show (9 * b.val + i.val) % 9 = i.val
  omega

theorem anyFault_of_fields {s : State} {b : Fin 8} {i : Fin 9} (hc : field (s.rd (A.PROT_CHFLT b.val i.val)) 5 0 = 0)
    (hg : field (s.rd (A.GATE_FLT b.val i.val)) 1 0 = 0) : s.anyFault (hbOf b i) = false := by
  have hbits : ∀ k, k ≤ 5 → bit (s.rd (A.PROT_CHFLT b.val i.val)) k = false :=
    fun k hk => bit_of_field_zero hc (Nat.zero_le k) hk
  unfold State.anyFault State.faulted State.hbReg
  simp only [hbBank_hbOf, hbIn_hbOf, hbits 0, hbits 1, hbits 2, hbits 3, hbits 4, hbits 5,
    bit_of_field_zero hg (Nat.zero_le 0) (by omega), bit_of_field_zero hg (Nat.zero_le 1) (by omega), Nat.reduceLeDiff,
    Bool.or_self, Nat.zero_le, Nat.le_refl]

theorem anyFault_of_rd {s t : State} (h : Fin 72) (hr : t.regs = s.regs) : t.anyFault h = s.anyFault h := by
  unfold State.anyFault State.faulted State.hbReg State.rd
  rw [hr]

/-! ### The release of fault reactions (R225) -/

/-- The locks and reactions of the half-bridges and axes of a bank that no fault flag holds any more are taken back. -/
def State.unlock (s : State) (b : Fin 8) : State :=
  (s.each (hbsOf b) (fun s h => if s.anyFault h then s else s.modHb h (fun x => { x with loc := false }))).each (axesOf b)
    (fun s a => if (s.axHbs a).any (fun h => s.anyFault h) then s
      else s.modAx a (fun x => { x with react := .none, vcpKeep := false }))

theorem releaseFaults_eq (s : State) (t : Nat) (b : Fin 8) :
    s.releaseFaults t b = s.reRow2 t (hbsOf b) (fun s => State.unlock s b) := rfl

theorem unlock_loc {s : State} {b : Fin 8} {h : Fin 72} (hm : h ∈ hbsOf b) (hf : s.anyFault h = false) :
    (State.unlock s b).hb[h].loc = false := by
  have hax : ∀ u : State, (u.each (axesOf b) (fun s a => if (s.axHbs a).any (fun h => s.anyFault h) then s
      else s.modAx a (fun x => { x with react := .none, vcpKeep := false }))).hb = u.hb := by
    intro u
    refine each_keeps State.hb (fun v a => ?_) _ u
    split <;> rfl
  unfold State.unlock
  rw [hax]
  refine each_makes (I := fun u => u.regs = s.regs) (P := fun u => u.hb[h].loc = false) (x := h) ?_ ?_ ?_ hm rfl
  · intro u y hu
    split
    · exact hu
    · exact hu
  · intro u y _ hp
    split
    · exact hp
    · rw [modHb_get]
      split
      · subst y; rfl
      · exact hp
  · intro u hu
    rw [if_neg (by rw [anyFault_of_rd h hu, hf]; decide), modHb_get, if_pos rfl]

theorem unlock_regs (s : State) (b : Fin 8) : (State.unlock s b).regs = s.regs := by
  unfold State.unlock
  refine (each_keeps State.regs (fun v a => ?_) _ _).trans (each_keeps State.regs (fun v a => ?_) _ s) <;> split <;> rfl

theorem unlock_react {s : State} {b : Fin 8} {a : Fin 24} (hm : a ∈ axesOf b) (hf : ∀ h ∈ s.axHbs a, s.anyFault h = false) :
    ((State.unlock s b).ax[a]).react = .none := by
  unfold State.unlock
  have h0 : ∀ u : State, u = s.each (hbsOf b) (fun s h => if s.anyFault h then s else s.modHb h (fun x => { x with loc := false })) →
      u.regs = s.regs ∧ u.img = s.img := by
    rintro u rfl
    constructor
    · refine each_keeps State.regs (fun v a => ?_) _ s
      split <;> rfl
    · refine each_keeps State.img (fun v a => ?_) _ s
      split <;> rfl
  refine each_makes (I := fun u => u.regs = s.regs ∧ u.img = s.img) (P := fun u => (u.ax[a]).react = .none) (x := a)
    ?_ ?_ ?_ hm (h0 _ rfl)
  · intro u y hu
    split
    · exact hu
    · exact hu
  · intro u y _ hp
    split
    · exact hp
    · rw [modAx_get]
      split
      · subst y; rfl
      · exact hp
  · intro u hu
    have hax : u.axHbs a = s.axHbs a := by unfold State.axHbs State.cfg; rw [hu.2]
    have hno : (u.axHbs a).any (fun h => u.anyFault h) = false := by
      rw [hax, List.any_eq_false]
      intro x hx
      rw [anyFault_of_rd x hu.1, hf x hx]
      decide
    rw [hno, if_neg (by decide), modAx_get, if_pos rfl]

/-- A release on a list of half-bridges, with the changes of causes before it. -/
theorem reRow2_steers (s : State) (t : Nat) (l : List (Fin 72)) (f : State → State) (h : Fin 72) :
    Causes h (f s) (s.reRow2 t l f) :=
  (each_release_causes _ h (f s)).trans (each_steers (fun u x => redrive_steers u t x h) l _).toCauses

theorem reRow2_ringsFrom (s : State) (t : Nat) (l : List (Fin 72)) (f : State → State) (hf : Rings s (f s)) :
    Rings s (s.reRow2 t l f) := by
  unfold State.reRow2
  exact each_rings (fun _ _ h₁ => redrive_rings h₁) (each_rings (fun _ _ h₁ => release_rings h₁) hf)

theorem releaseFaults_causes (s : State) (t : Nat) (b : Fin 8) (h : Fin 72) :
    Causes h (State.unlock s b) (s.releaseFaults t b) := reRow2_steers s t (hbsOf b) (fun s => State.unlock s b) h

theorem releaseFaults_rd (s : State) (t : Nat) (b : Fin 8) {a : Nat} (ha : (raising reactionReach).covers a = false) :
    (s.releaseFaults t b).rd a = s.rd a :=
  (only_of_forget (releaseFaults_forget (raising reactionReach) s t b (mayRaise_raising _) rfl rfl rfl rfl
    (has_of_mem (by decide)) (has_of_mem (by decide)))).regs a ha

/-! ### PROT_CHFLT_i (R224) -/

theorem chflt_at : ∀ (b : Fin 8) (i : Fin 9), regAt (A.PROT_CHFLT b.val i.val) = some (.PROT_CHFLT, [b.val, i.val]) ∧
    domOfAddr (A.PROT_CHFLT b.val i.val) = some b.val ∧ bankIx [b.val, i.val] = b ∧ hbIn (hbIx [b.val, i.val]) = i := by
  decide +kernel

theorem exec_protChfltClear {s : State} (hup : s.up = true) (hears : s.hears = true) (b : Fin 8) (i : Fin 9) {d : Word}
    (hdom : s.dom b.val = true) (hl : s.legal (A.PROT_CHFLT b.val i.val) d = true) :
    exec (.protChfltClear b i d) s = .next (protChfltClear b i d s) := by
  obtain ⟨hat, hd, hix, hin⟩ := chflt_at b i
  change Host.Outcome.next (s.hostWord (A.PROT_CHFLT b.val i.val) d) = _
  rw [hostWord_of_hears hup hears, writeWord_block hat (by decide) rfl hd hdom hl]
  show Host.Outcome.next (protChfltClear (bankIx [b.val, i.val]) (hbIn (hbIx [b.val, i.val])) d s) = _
  rw [hix, hin]

/-- The word that a legal write to PROT_CHFLT_i leaves (R224). -/
def chfltCleared (s : State) (b : Fin 8) (i : Fin 9) (d : Word) : State :=
  let a := A.PROT_CHFLT b.val i.val
  let u := s.clrFlags a (d &&& 0x013F)
  if field (u.rd a) 5 0 = 0 then u.wr a (u.rd a &&& bitW 8) else u

theorem chfltCleared_bit (s : State) (b : Fin 8) (i : Fin 9) (d : Word) {k : Nat} (hk : k < 6) :
    bit ((chfltCleared s b i d).rd (A.PROT_CHFLT b.val i.val)) k = (bit (s.rd (A.PROT_CHFLT b.val i.val)) k &&
      !(bit d k && !bit (s.freshAt (A.PROT_CHFLT b.val i.val)) k)) := by
  have hm : bit (d &&& 0x013F) k = bit d k := by
    rw [bit_and]
    have : bit 0x013F k = true := (by decide : ∀ k < 6, bit 0x013F k = true) k hk
    rw [this, Bool.and_true]
  have hc := clrFlags_bit s (A.PROT_CHFLT b.val i.val) (d &&& 0x013F) (k := k) (by omega)
  rw [hm] at hc
  unfold chfltCleared
  extract_lets a u
  split
  · rename_i h0
    rw [rd_wr, if_pos rfl, bit_and, bit_mask 8 (by omega), decide_eq_false (by omega), Bool.and_false, ← hc]
    exact (bit_of_field_zero h0 (by omega) (by omega)).symm
  · exact hc

theorem chfltCleared_first (s : State) (b : Fin 8) (i : Fin 9) (d : Word)
    (h0 : field ((chfltCleared s b i d).rd (A.PROT_CHFLT b.val i.val)) 5 0 = 0) :
    field ((chfltCleared s b i d).rd (A.PROT_CHFLT b.val i.val)) 14 12 = 0 := by
  unfold chfltCleared at h0 ⊢
  extract_lets at h0 ⊢
  split at h0
  · rename_i hz
    rw [if_pos hz, rd_wr, if_pos rfl]
    refine field_zero_of_bits (fun k h1 h2 => ?_)
    rw [bit_and, bit_mask 8 (by omega), decide_eq_false (by omega), Bool.and_false]
  · rename_i hz
    exact absurd h0 hz

theorem protChfltClear_eq (b : Fin 8) (i : Fin 9) (d : Word) (s : State) :
    ∃ t, protChfltClear b i d s = (chfltCleared s b i d).releaseFaults t b := by
  unfold protChfltClear chfltCleared
  exact ⟨_, rfl⟩

theorem chfltCleared_img (s : State) (b : Fin 8) (i : Fin 9) (d : Word) : (chfltCleared s b i d).img = s.img := by
  unfold chfltCleared
  extract_lets a u
  split <;> rfl

/-- The three effects of a legal write to PROT_CHFLT_i. -/
theorem protChfltClear_spec (b : Fin 8) (i : Fin 9) (d : Word) (s : State) :
    (∀ k, k < 6 → bit ((protChfltClear b i d s).rd (A.PROT_CHFLT b.val i.val)) k =
        (bit (s.rd (A.PROT_CHFLT b.val i.val)) k && !(bit d k && !bit (s.freshAt (A.PROT_CHFLT b.val i.val)) k))) ∧
      (field ((protChfltClear b i d s).rd (A.PROT_CHFLT b.val i.val)) 5 0 = 0 →
        field ((protChfltClear b i d s).rd (A.PROT_CHFLT b.val i.val)) 14 12 = 0 ∧
        (field ((protChfltClear b i d s).rd (A.GATE_FLT b.val i.val)) 1 0 = 0 →
          ((protChfltClear b i d s).hb[hbOf b i]).loc = false)) ∧
      ∀ a ∈ axesOf b, (∀ h ∈ s.axHbs a, (protChfltClear b i d s).anyFault h = false) →
        ((protChfltClear b i d s).ax[a]).react = .none := by
  obtain ⟨t, e⟩ := protChfltClear_eq b i d s
  rw [e]
  generalize hu : chfltCleared s b i d = u
  have hrd : (u.releaseFaults t b).rd (A.PROT_CHFLT b.val i.val) = u.rd (A.PROT_CHFLT b.val i.val) :=
    releaseFaults_rd u t b (chflt_clear b i)
  have hrings : Rings u (u.releaseFaults t b) := releaseFaults_rings (Rings.refl u)
  have hcs := releaseFaults_causes u t b
  have hback : ∀ h, (u.releaseFaults t b).anyFault h = false → u.anyFault h = false :=
    fun h => anyFault_back (releaseFaults_rd u t b (chflt_clear (hbBank h) (hbIn h))) hrings
  rw [hrd]
  subst hu
  refine ⟨fun k hk => chfltCleared_bit s b i d hk, fun h0 => ⟨chfltCleared_first s b i d h0, fun hg => ?_⟩, fun a ha hall => ?_⟩
  · rw [(hcs (hbOf b i)).loc]
    exact unlock_loc (hbOf_mem b i) (hback _ (anyFault_of_fields (by rw [hrd]; exact h0) hg))
  · rw [(hcs 0).ax]
    refine unlock_react ha (fun h hh => hback h (hall h ?_))
    have e : (chfltCleared s b i d).axHbs a = s.axHbs a := by unfold State.axHbs State.cfg; rw [chfltCleared_img]
    rwa [e] at hh

/-! ### Over-temperature and PROT_BFLT (R224, R226, R229) -/

theorem stopByFault_bank (s : State) (b : Fin 8) : (s.stopByFault b).bank = s.bank :=
  (only_of_forget (stopByFault_forget (raising { reactionReach with hb := false, bank := false, tim := false }) s b
    (mayRaise_raising _) rfl rfl)).bank rfl

theorem stopByFault_hb (s : State) (b : Fin 8) : (s.stopByFault b).hb = s.hb :=
  (only_of_forget (stopByFault_forget (raising { reactionReach with hb := false, bank := false, tim := false }) s b
    (mayRaise_raising _) rfl rfl)).hb rfl

/-- A bank's protection flag with its event, its cause of row 2 and the stop of its axes: the shape of a trip (R226, R229,
Over-temperature). -/
theorem bankTrip_spec (s : State) (t : Nat) (b : Fin 8) (f : Bank → Bank) {m d0 d1 : Word} {k : Nat} (hm : bit m k = true) :
    ∀ u, u = (((s.setFlags (A.PROT_BFLT b.val) m).raise (evBANK_TRIP b) d0 d1).bankCause t b f).stopByFault b →
    (∃ w, u.bank[b] = { (f s.bank[b]) with blank := w }) ∧ bit (u.rd (A.PROT_BFLT b.val)) k = true ∧
      eventBit u (evBANK_TRIP b) = true ∧
      ((f s.bank[b]).flt = .driven → (f s.bank[b]).trip = true ∨ (f s.bank[b]).vdrvLock = true →
        ∀ i : Fin 9, (u.hb[hbOf b i]).cmd = .hiz) := by
  rintro u rfl
  generalize hv : (s.setFlags (A.PROT_BFLT b.val) m).raise (evBANK_TRIP b) d0 d1 = v
  have hvb : v.bank = s.bank := by subst hv; exact raise_bank _ _ _ _
  have hr : Rings v ((v.bankCause t b f).stopByFault b) := stopByFault_rings (bankCause_rings (Rings.refl v))
  obtain ⟨w, hw⟩ := bankCause_self v t b f
  have hfr : Rings (s.setFlags (A.PROT_BFLT b.val) m) v := by subst hv; exact raise_rings (Rings.refl _)
  refine ⟨⟨w, ?_⟩, flag_of_rings (hfr.trans hr) (sticky_bflt b) hm, ?_, fun hf hc i => ?_⟩
  · rw [stopByFault_bank, hw, hvb]
  · subst hv
    exact raised_of_rings hr (by show 66 + 8 * b.val < 128; omega)
  · simp only [stopByFault_hb]
    refine bankCause_hiz v t b f ?_ ?_ (hbOf_mem b i)
    · rw [hvb]; exact hf
    · rw [hvb]; exact hc

theorem ots_spec (s : State) (t : Nat) (b : Fin 8) : ((ots t b s).bank[b]).ots = true ∧
    bit ((ots t b s).rd (A.PROT_BFLT b.val)) 3 = true ∧ eventBit (ots t b s) (evBANK_TRIP b) = true := by
  obtain ⟨⟨w, hw⟩, hflag, hev, _⟩ := bankTrip_spec s t b (fun k => { k with ots := true }) (m := bitW 3) (k := 3)
    (by decide) (ots t b s) rfl
  exact ⟨by rw [hw], hflag, hev⟩

theorem bflt_at : ∀ b : Fin 8, regAt (A.PROT_BFLT b.val) = some (.PROT_BFLT, [b.val]) ∧
    domOfAddr (A.PROT_BFLT b.val) = some b.val ∧ bankIx [b.val] = b ∧
    (raising reactionReach).covers (A.PROT_BFLT b.val) = false ∧ (raising reactionReach).covers (A.PROT_TEMP b.val) = false ∧
    A.PROT_TEMP b.val ≠ A.PROT_BFLT b.val := by decide +kernel

theorem exec_protBfltClear {s : State} (hup : s.up = true) (hears : s.hears = true) (b : Fin 8) {d : Word}
    (hdom : s.dom b.val = true) (hl : s.legal (A.PROT_BFLT b.val) d = true) :
    exec (.protBfltClear b d) s = .next (protBfltClear b d s) := by
  obtain ⟨hat, hd, hix, _⟩ := bflt_at b
  change Host.Outcome.next (s.hostWord (A.PROT_BFLT b.val) d) = _
  rw [hostWord_of_hears hup hears, writeWord_block hat (by decide) rfl hd hdom hl]
  show Host.Outcome.next (protBfltClear (bankIx [b.val]) d s) = _
  rw [hix]

/-- The judgement of an OTS reaction keeps the flags and every other cause of the bank; while its flag stands it does
nothing, and a cold junction ends it (Over-temperature). -/
theorem judgeOts_spec (s : State) (t : Nat) (b : Fin 8) :
    (∃ o w, (s.judgeOts t b).bank[b] = { (s.bank[b]) with ots := o, blank := w } ∧
      (bit (s.rd (A.PROT_BFLT b.val)) 3 = true → o = (s.bank[b]).ots) ∧
      (bit (s.rd (A.PROT_BFLT b.val)) 3 = false → sInt (s.rd (A.PROT_TEMP b.val)) < 131 * 8 → o = false)) ∧
    (s.judgeOts t b).rd (A.PROT_BFLT b.val) = s.rd (A.PROT_BFLT b.val) := by
  obtain ⟨_, _, _, hcov, _⟩ := bflt_at b
  have hsame : ∃ w, s.bank[b] = { (s.bank[b]) with ots := (s.bank[b]).ots, blank := w } := ⟨_, rfl⟩
  obtain ⟨w₀, hw₀⟩ := hsame
  unfold State.judgeOts
  by_cases hc : ((s.bank[b]).ots && !bit (s.rd (A.PROT_BFLT b.val)) 3) = true
  · rw [if_pos hc]
    obtain ⟨hots, hb3⟩ := Bool.and_eq_true_iff.mp hc
    have hb3' : bit (s.rd (A.PROT_BFLT b.val)) 3 = false := by simpa using hb3
    have hcool : (s.cooled b).1.bank = s.bank ∧ (s.cooled b).1.regs = s.regs ∧
        (sInt (s.rd (A.PROT_TEMP b.val)) < 131 * 8 → (s.cooled b).2 = true) := by
      unfold State.cooled
      dsimp only
      split
      · exact ⟨rfl, rfl, fun _ => rfl⟩
      · rename_i hn
        split <;> exact ⟨rfl, rfl, fun h => absurd h hn⟩
    obtain ⟨hcb, hcr, hct⟩ := hcool
    have hrd : ∀ a, (s.cooled b).1.rd a = s.rd a := fun a => by unfold State.rd; rw [hcr]
    cases hv : s.cooled b with
    | mk u v =>
      rw [hv] at hcb hrd hct
      cases v with
      | true =>
        obtain ⟨w, hw⟩ := bankCause_self u t b (fun k => { k with ots := false })
        refine ⟨⟨false, w, by rw [hw, hcb], fun h => ?_, fun _ _ => rfl⟩, ?_⟩
        · rw [hb3'] at h; cases h
        · exact (bankCause_rd u t b _ hcov).trans (hrd _)
      | false =>
        refine ⟨⟨(s.bank[b]).ots, w₀, by rw [hcb]; exact hw₀, fun _ => rfl, fun _ hcold => ?_⟩, hrd _⟩
        cases hct hcold
  · rw [if_neg hc]
    refine ⟨⟨(s.bank[b]).ots, w₀, hw₀, fun _ => rfl, fun h3 _ => ?_⟩, rfl⟩
    rw [h3] at hc
    simpa using hc

theorem protBfltClear_spec (b : Fin 8) (d : Word) (s : State) :
    (∀ k, k < 6 → bit ((protBfltClear b d s).rd (A.PROT_BFLT b.val)) k =
        (bit (s.rd (A.PROT_BFLT b.val)) k && !(bit d k && !bit (s.freshAt (A.PROT_BFLT b.val)) k))) ∧
      ((protBfltClear b d s).bank[b]).trip =
        ((s.bank[b]).trip && (bit ((protBfltClear b d s).rd (A.PROT_BFLT b.val)) 1 || (s.bank[b]).tripIn)) ∧
      ((protBfltClear b d s).bank[b]).vov2 =
        ((s.bank[b]).vov2 && (bit ((protBfltClear b d s).rd (A.PROT_BFLT b.val)) 2 || !(s.bank[b]).vmLow)) ∧
      (bit ((protBfltClear b d s).rd (A.PROT_BFLT b.val)) 3 = true → ((protBfltClear b d s).bank[b]).ots = (s.bank[b]).ots) ∧
      (bit ((protBfltClear b d s).rd (A.PROT_BFLT b.val)) 3 = false → sInt (s.rd (A.PROT_TEMP b.val)) < 131 * 8 →
        ((protBfltClear b d s).bank[b]).ots = false) := by
  obtain ⟨_, _, _, hcov, hcovT, hne⟩ := bflt_at b
  unfold protBfltClear
  extract_lets a t s1 f s2
  obtain ⟨w, hw⟩ := bankCause_self s1 t b
    (fun k => { k with trip := k.trip && (bit f 1 || k.tripIn), vov2 := k.vov2 && (bit f 2 || !k.vmLow) })
  have hs1 : s1.bank = s.bank := rfl
  rw [hs1] at hw
  have hf : s2.rd (A.PROT_BFLT b.val) = f := bankCause_rd s1 t b _ hcov
  have hT : s2.rd (A.PROT_TEMP b.val) = s.rd (A.PROT_TEMP b.val) := by
    refine (bankCause_rd s1 t b _ hcovT).trans ?_
    show (s.wr _ _).rd _ = _
    rw [rd_wr, if_neg hne]
  obtain ⟨⟨o, w', hj, h3, h3'⟩, hrd⟩ := judgeOts_spec s2 t b
  rw [show s2.bank[b] = _ from hw] at hj h3
  rw [hrd, hf]
  rw [hf] at h3 h3'
  rw [hT] at h3'
  refine ⟨fun k hk => ?_, by rw [hj], by rw [hj], fun h => by rw [hj]; exact h3 h, fun h hc => by rw [hj]; exact h3' h hc⟩
  have hm : bit (d &&& 0x003F) k = bit d k := by
    rw [bit_and]
    have : bit 0x003F k = true := (by decide : ∀ k < 6, bit 0x003F k = true) k hk
    rw [this, Bool.and_true]
  rw [← hm]
  exact clrFlags_bit s _ _ (by omega)

/-- Settles O11: the two writes by what they leave of their words, the reactions by the flags that are left. -/
theorem protectionFlags : Obligations.ProtectionFlags := by
  unfold Obligations.ProtectionFlags
  refine ⟨fun s b i d hup hears hdom hl => ⟨_, exec_protChfltClear hup hears b i hdom hl, protChfltClear_spec b i d s⟩,
    fun s at' b hs hots => ⟨ots (s.clkAt at') b s, ?_, ots_spec s _ b⟩,
    fun s b d hup hears hdom hl => ⟨_, exec_protBfltClear hup hears b hdom hl, protBfltClear_spec b d s⟩⟩
  change execOts at' b s = _
  simp only [execOts, hs, hots, Bool.not_false, Bool.and_self, if_true]

end Sys2Proof.Proofs
end

section
/-! SUPPORT. Proofs of the trip input, ESTOP_N, the current limit, over-voltage and the chopper: what a cause of a bank's safe
state and a disarm leave of every bank. -/
namespace Sys2Proof.Proofs
set_option Elab.async false
open Sys2Proof.Machine Sys2Proof.Safety Sys2Proof.Laws

/-! ### Banks but for their arming -/

/-- The banks of `t` are those of `s` but for their arming, its cause and their blanking windows. -/
def SameHeld (s t : State) : Prop := ∀ b : Fin 8, t.bank[b] =
  { (s.bank[b]) with armed := (t.bank[b]).armed, cause := (t.bank[b]).cause, blank := (t.bank[b]).blank }

theorem SameHeld.refl (s : State) : SameHeld s s := fun _ => rfl

theorem SameHeld.trans {s t u : State} (h : SameHeld s t) (h' : SameHeld t u) : SameHeld s u := by
  intro b; rw [h' b, h b]

theorem sameHeld_of_bank {s t : State} (h : t.bank = s.bank) : SameHeld s t := by
  intro b; rw [h]

theorem sameHeld_of_same {s t : State} (h : SameBanks s t) : SameHeld s t := by
  intro b; rw [h b]

theorem stopAxis_bank (s : State) (a : Fin 24) (c : AxCause) : (s.stopAxis a c).bank = s.bank :=
  (only_of_forget (stopAxis_forget (raising { reactionReach with hb := false, bank := false, tim := false }) s a c
    (mayRaise_raising _) rfl rfl)).bank rfl

theorem cutShuntCal_bank (s : State) (b : Fin 8) : (s.cutShuntCal b).bank = s.bank :=
  (only_of_forget (cutShuntCal_forget (raising { reactionReach with hb := false, bank := false, tim := false }) s b
    (mayRaise_raising _) rfl)).bank rfl

theorem raiseArm_bank (s : State) (b : Fin 8) : (s.raiseArm b).bank = s.bank := raise_bank _ _ _ _

theorem disarm_held (s : State) (t : Nat) (b : Fin 8) (c : Nat) (k : AxCause) : SameHeld s (s.disarm t b c k) := by
  unfold State.disarm
  extract_lets s1 s2
  have h1 : s1.bank = s.bank := by
    unfold s1
    rw [cutShuntCal_bank, each_bank _ _ (fun u x => stopAxis_bank u x k)]
  split
  · refine SameHeld.trans ?_ (sameHeld_of_same (redriveBank_same _ _ _))
    intro x
    rw [raiseArm_bank]
    unfold s2
    rw [modBank_get, h1]
    split
    · subst x; rfl
    · rfl
  · exact sameHeld_of_bank h1

/-- The step of a device-wide stop: the axes of a bank stop, the bank takes a cause and is disarmed. -/
def holdAndDisarm (t : Nat) (f : Bank → Bank) (cause : Nat) (stop : AxCause) (s : State) (b : Fin 8) : State :=
  ((s.each (axesOf b) (fun s a => s.stopAxis a stop)).bankCause t b f).disarm t b cause stop

theorem holdAndDisarm_held (t : Nat) (f : Bank → Bank) (c : Nat) (k : AxCause) (s : State) (b : Fin 8) :
    SameHeld (s.modBank b f) (holdAndDisarm t f c k s b) := by
  unfold holdAndDisarm
  generalize hu : s.each (axesOf b) (fun s a => s.stopAxis a k) = u
  have hub : u.bank = s.bank := by rw [← hu]; exact each_bank _ _ (fun v x => stopAxis_bank v x k) s
  refine SameHeld.trans ?_ (disarm_held _ _ _ _ _)
  refine SameHeld.trans ?_ (sameHeld_of_same (bankCause_same u t b f))
  refine sameHeld_of_bank ?_
  show u.bank.set b _ = s.bank.set b _
  rw [hub]

theorem holdAndDisarm_calm (t : Nat) (f : Bank → Bank) (hf : ∀ x, (f x).armed = true → x.armed = true) (c : Nat)
    (k : AxCause) (s : State) (b : Fin 8) : Calm true s (holdAndDisarm t f c k s b) :=
  disarm_calm (bankCause_calm hf (each_calm (fun _ _ h₁ => stopAxis_calm h₁) (Calm.refl true s)))

theorem holdAndDisarm_rings (t : Nat) (f : Bank → Bank) (c : Nat) (k : AxCause) (s : State) (b : Fin 8) :
    Rings s (holdAndDisarm t f c k s b) :=
  disarm_rings (bankCause_rings (each_rings (fun _ _ h₁ => stopAxis_rings h₁) (Rings.refl s)))

theorem bankCause_safe (s : State) (t : Nat) (b : Fin 8) (f : Bank → Bank) : (s.bankCause t b f).safe = s.safe :=
  (only_of_forget (bankCause_forget (raising reactionReach) s t b f (mayRaise_raising _) rfl rfl rfl rfl
    (has_of_mem (by decide)) (has_of_mem (by decide)) (has_of_mem (by decide)))).safe rfl

theorem disarm_safe (s : State) (t : Nat) (b : Fin 8) (c : Nat) (k : AxCause) : (s.disarm t b c k).safe = s.safe :=
  (only_of_forget (disarm_forget (raising reactionReach) s t b c k (mayRaise_raising _) rfl rfl rfl rfl rfl
    (has_of_mem (by decide)) (has_of_mem (by decide)))).safe rfl

theorem stopAxis_safe (s : State) (a : Fin 24) (c : AxCause) : (s.stopAxis a c).safe = s.safe :=
  (only_of_forget (stopAxis_forget (raising reactionReach) s a c (mayRaise_raising _) rfl rfl)).safe rfl

theorem holdAndDisarm_safe (t : Nat) (f : Bank → Bank) (c : Nat) (k : AxCause) (s : State) (b : Fin 8) :
    (holdAndDisarm t f c k s b).safe = s.safe := by
  unfold holdAndDisarm
  rw [disarm_safe, bankCause_safe, each_keeps State.safe (fun u x => stopAxis_safe u x k)]

/-- A cause set on bank after bank stands on each. -/
theorem each_hold_sets {P : Bank → Prop} {f : Bank → Bank} {g : State → Fin 8 → State}
    (hg : ∀ s b, SameHeld (s.modBank b f) (g s b)) (hset : ∀ x, P (f x))
    (hkeep : ∀ x ar ca w, P { x with armed := ar, cause := ca, blank := w } ↔ P x) {l : List (Fin 8)} {b : Fin 8}
    (hb : b ∈ l) (s : State) : P (s.each l g).bank[b] := by
  refine each_makes (I := fun _ => True) (P := fun u => P u.bank[b]) (x := b) (fun _ _ _ => trivial) (fun u y _ hp => ?_)
    (fun u _ => ?_) hb trivial
  · rw [hg u y b, hkeep, modBank_get]
    split
    · exact hset _
    · exact hp
  · rw [hg u b b, hkeep, modBank_get, if_pos rfl]
    exact hset _

theorem holdAndDisarm_off (t : Nat) (f : Bank → Bank) (c : Nat) (k : AxCause) (s : State) (b : Fin 8) :
    ((holdAndDisarm t f c k s b).bank[b]).armed = false := disarm_off _ _ _ _ _

/-- After a stop of every bank each is disarmed. -/
theorem each_hold_off {t : Nat} {f : Bank → Bank} {c : Nat} {k : AxCause} (hf : ∀ x, (f x).armed = true → x.armed = true)
    (s : State) (b : Fin 8) : ((s.each allBanks (holdAndDisarm t f c k)).bank[b]).armed = false :=
  each_off (f := holdAndDisarm t f c k) (holdAndDisarm_calm t f hf c k) (holdAndDisarm_off t f c k) allBanks s b
    (mem_allBanks b)

/-- A cause taken back on bank after bank stands on none. -/
theorem each_cause_sets {P : Bank → Prop} {g : State → Nat} {f : Bank → Bank} (hset : ∀ x, P (f x))
    (hkeep : ∀ x ar ca w, P { x with armed := ar, cause := ca, blank := w } ↔ P x) {l : List (Fin 8)} {b : Fin 8}
    (hb : b ∈ l) (s : State) : P (s.each l (fun u b => u.bankCause (g u) b f)).bank[b] :=
  each_hold_sets (fun s b => sameHeld_of_same (bankCause_same s (g s) b f)) hset hkeep hb s

/-! ### TRIP_b (R226, R227) -/

theorem tripRecognised_spec (t : Nat) (b : Fin 8) (s : State) : ((tripRecognised t b s).bank[b]).tripIn = true ∧
    ((tripRecognised t b s).bank[b]).trip = true ∧ bit ((tripRecognised t b s).rd (A.PROT_BFLT b.val)) 1 = true ∧
    eventBit (tripRecognised t b s) (evBANK_TRIP b) = true ∧
    ((s.bank[b]).flt = .driven → ∀ i : Fin 9, ((tripRecognised t b s).hb[hbOf b i]).cmd = .hiz) := by
  obtain ⟨⟨w, hw⟩, hflag, hev, hcmd⟩ := bankTrip_spec (s.modBank b (fun k => { k with tripIn := true })) t b
    (fun k => { k with trip := true }) (m := bitW 1) (k := 1) (by decide) (tripRecognised t b s) rfl
  rw [modBank_get, if_pos rfl] at hw hcmd
  exact ⟨by rw [hw], by rw [hw], hflag, hev, fun hf => hcmd hf (Or.inl rfl)⟩

theorem tripRelease_spec {b : Fin 8} {s : State}
    (hn : bit (s.rd (A.PROT_TRIPCFG b.val)) 8 = false ∨ bit (s.rd (A.PROT_BFLT b.val)) 1 = false) :
    ((tripRelease b s).bank[b]).tripIn = false ∧ ((tripRelease b s).bank[b]).trip = false := by
  unfold tripRelease
  extract_lets s1
  have hrd : ∀ a, s1.rd a = s.rd a := fun _ => rfl
  obtain ⟨w, hw⟩ := bankCause_self s1 (200 * s1.clk.ticks) b (fun k => { k with trip := false })
  have hk : s1.bank[b] = { (s.bank[b]) with tripIn := false } := by
    show (s.modBank b _).bank[b] = _
    rw [modBank_get, if_pos rfl]
  rw [hk] at hw
  rw [if_neg, hw]
  · exact ⟨rfl, rfl⟩
  · rw [hrd, hrd, Bool.and_eq_true]
    rintro ⟨h8, h1⟩
    rcases hn with h | h
    · rw [h] at h8; cases h8
    · rw [h] at h1; cases h1

theorem tripRelease_latched {b : Fin 8} {s : State} (h8 : bit (s.rd (A.PROT_TRIPCFG b.val)) 8 = true)
    (h1 : bit (s.rd (A.PROT_BFLT b.val)) 1 = true) :
    tripRelease b s = s.modBank b (fun k => { k with tripIn := false }) := by
  unfold tripRelease
  extract_lets s1
  have hrd : ∀ a, s1.rd a = s.rd a := fun _ => rfl
  rw [if_pos (by rw [hrd, hrd, h8, h1]; rfl)]

/-! ### ESTOP_N (R232) -/

theorem estop_eq {s : State} (t : Nat) (h : s.safe.estop = false) : ∃ armed, estop t s =
    ((s.modSafe (fun x => { x with estop := true })).raise evESTOP armed 0).each allBanks
      (holdAndDisarm t (fun k => { k with estop := true }) 2 .safe) := by
  unfold estop
  rw [if_neg (by rw [h]; decide)]
  exact ⟨_, rfl⟩

theorem estop_spec {s : State} (t : Nat) (h : s.safe.estop = false) : (estop t s).safe.estop = true ∧
    eventBit (estop t s) evESTOP = true ∧
    ∀ b : Fin 8, ((estop t s).bank[b]).armed = false ∧ ((estop t s).bank[b]).estop = true := by
  obtain ⟨armed, e⟩ := estop_eq t h
  rw [e]
  generalize hu : (s.modSafe (fun x => { x with estop := true })).raise evESTOP armed 0 = u
  refine ⟨?_, ?_, fun b => ⟨?_, ?_⟩⟩
  · rw [each_keeps State.safe (fun v x => holdAndDisarm_safe t _ 2 .safe v x), ← hu, raise_safe]
    rfl
  · subst hu
    exact raised_of_rings (each_rings (fun v x h₁ => h₁.trans (holdAndDisarm_rings t _ 2 .safe v x)) (Rings.refl _)) (by decide)
  · exact each_hold_off (t := t) (f := fun k => { k with estop := true }) (c := 2) (k := .safe) (fun _ h => h) u b
  · exact each_hold_sets (P := fun k => k.estop = true) (holdAndDisarm_held t (fun k => { k with estop := true }) 2 .safe)
      (fun _ => rfl) (fun _ _ _ _ => Iff.rfl) (mem_allBanks b) u

/-- The cause ESTOP is taken back on every bank (R232). -/
def liftEstop (s : State) : State :=
  (s.modSafe (fun x => { x with estop := false })).each allBanks
    (fun s b => s.bankCause (200 * s.clk.ticks) b (fun k => { k with estop := false }))

theorem liftEstop_safe (s : State) : (liftEstop s).safe.estop = false := by
  unfold liftEstop
  rw [each_keeps State.safe (f := fun s b => s.bankCause (200 * s.clk.ticks) b (fun k => { k with estop := false }))
    (fun v x => bankCause_safe _ _ _ _)]
  rfl

theorem liftEstop_cause (s : State) (b : Fin 8) : ((liftEstop s).bank[b]).estop = false :=
  each_cause_sets (P := fun k => k.estop = false) (g := fun s => 200 * s.clk.ticks) (f := fun k => { k with estop := false })
    (fun _ => rfl) (fun _ _ _ _ => Iff.rfl) (mem_allBanks b) (s.modSafe (fun x => { x with estop := false }))

theorem liftEstop_off (s : State) (b : Fin 8) (h : (s.bank[b]).armed = false) : ((liftEstop s).bank[b]).armed = false := by
  have hc : Calm true (s.modSafe (fun x => { x with estop := false })) (liftEstop s) :=
    each_calm (fun v x h₁ => bankCause_calm (fun _ h => h) h₁) (Calm.refl true _)
  exact hc.off h

/-- Settles O12: the trip input and ESTOP_N through the causes they set and take back. -/
theorem tripAndEmergencyStop : Obligations.TripAndEmergencyStop := by
  unfold Obligations.TripAndEmergencyStop
  refine ⟨fun s at' b high => ⟨fun hears hs hin hle => ?_, fun hlt => ?_, fun hears hn => ?_, fun hears h8 h1 => ?_⟩,
    ⟨fun s at' width hears hup he hw => ?_, fun s at' width hw => ?_, fun s hears he => ?_⟩, fun s hears => ⟨?_, fun b => ?_,
      fun at' b high => ?_, fun at' width => ?_⟩⟩
  · refine ⟨tripRecognised (s.clkAt at') b s, ?_, tripRecognised_spec _ b s⟩
    change execTripRecognised at' b high s = _
    simp only [execTripRecognised, hears, hs, hin, hle, Bool.not_false, decide_true, Bool.and_self, if_true]
  · change execTripRecognised at' b high s = _
    simp only [execTripRecognised, Nat.not_le.mpr hlt, decide_false, Bool.and_false, Bool.false_eq_true, if_false]
  · refine ⟨tripRelease b s, ?_, tripRelease_spec hn⟩
    change execTripRelease b s = _
    rw [execTripRelease, if_pos hears]
  · change execTripRelease b s = _
    rw [execTripRelease, if_pos hears, tripRelease_latched h8 h1]
  · refine ⟨estop (s.clkAt at') s, ?_, estop_spec _ he⟩
    change execEstop at' width s = _
    rw [execEstop, if_pos hears, passes_long hw (by omega)]
    simp only [hup, if_true]
  · change execEstop at' width s = _
    rw [execEstop, passes_short hw]
    simp only [ite_self]
  · refine ⟨liftEstop s, ?_, liftEstop_safe s, fun b => ⟨liftEstop_cause s b, liftEstop_off s b⟩⟩
    change execEstopRelease s = _
    rw [execEstopRelease, he, hears]
    rfl
  · change execEstopRelease s = _
    rw [execEstopRelease, hears, Bool.and_false]
    rfl
  · change execTripRelease b s = _
    rw [execTripRelease, hears]
    rfl
  · change execTripRecognised at' b high s = _
    simp only [execTripRecognised, hears, Bool.false_and, Bool.false_eq_true, if_false]
  · change execEstop at' width s = _
    rw [execEstop, hears]
    rfl

/-! ### Blanking windows and the current limit (R227, R228) -/

/-- The windows that are forgotten hold no instant that can still be judged. -/
theorem judgeFrom_filter (k : Bank) (t f : Nat) (hf : t ≤ f + 1024) :
    Bank.judgeFrom { k with blank := k.blank.filter (fun p => t ≤ p.2 + 1024) } f = k.judgeFrom f := by
  unfold Bank.judgeFrom
  dsimp only
  rw [List.find?_filter]
  congr 1
  refine congrArg (fun q => List.find? q k.blank) (funext fun p => ?_)
  by_cases h : f < p.2
  · simp only [decide_eq_true (by omega : t ≤ p.2 + 1024), true_and, Bool.decide_eq_true]
  · simp only [h, decide_false, Bool.and_false, Bool.false_eq_true, and_false]

/-- A timer row or the direct drive port commands a half-bridge: nothing above them does (Table PWM-4). -/
theorem select_row_low {s : State} {h : Fin 72} (hr : 5 ≤ (s.select h).1) :
    (s.bank[hbBank h]).flt = .driven ∧ s.row2Cmd h = none ∧ (s.lowRows h).1 = (s.select h).1 := by
  unfold State.select at hr ⊢
  cases hf : (s.bank[hbBank h]).flt with
  | driven =>
    rw [hf] at hr
    dsimp only at hr ⊢
    cases hc : s.row2Cmd h with
    | none => exact ⟨rfl, rfl, rfl⟩
    | some c => rw [hc] at hr; dsimp only at hr; omega
  | entering => rw [hf] at hr; dsimp only at hr; omega
  | floating => rw [hf] at hr; dsimp only at hr; omega
  | leaving => rw [hf] at hr; dsimp only at hr; omega

/-- A limited half-bridge of a timer row or of the direct drive port takes the limit's command (R228). -/
theorem lowRows_limited {s u : State} {h : Fin 72} {a : Fin 24} {r : Fin 3} {c : HbCmd} (k : Causes h s u)
    (hrun : u.tim[a].run = s.tim[a].run) (ha : s.hbAxis h = some (a, r)) (hl : u.hb[h].limit = some c)
    (hrow : (s.lowRows h).1 = 5 ∨ 5 < (s.lowRows h).1 ∧ s.tim[a].run = true) : (u.lowRows h).2 = c := by
  have harm : (u.bank[hbBank h]).armed = (s.bank[hbBank h]).armed := by rw [k.bank]
  unfold State.lowRows at hrow ⊢
  simp only [ha] at hrow
  simp only [k.hbAxis, ha, k.axType, k.ddpBank, harm, hrun, hl, Option.getD_some]
  split at hrow
  · rcases hrow with e | ⟨e, _⟩ <;> omega
  · rename_i h1
    rw [if_neg h1]
    split at hrow
    · rcases hrow with e | ⟨e, _⟩ <;> omega
    · rename_i h2
      rw [if_neg h2]
      split at hrow
      · rename_i h3
        rw [if_pos h3]
      · rename_i h3
        rw [if_neg h3]
        split <;> rfl

/-- The flags and the count of a current limit, before the driver follows it (R228). -/
def limitMark (h : Fin 72) (c : HbCmd) (s : State) : State :=
  let b := hbBank h
  let s := (s.modHb h (fun x => { x with limit := some c })).satInc (A.PROT_ILIMCNT b.val)
  if bit (s.rd (A.PROT_BFLT b.val)) 0 then s
  else
    let s := (s.setFlags (A.PROT_BFLT b.val) (bitW 0)).setFlags (A.PROT_CHFLT b.val (hbIn h).val) (bitW 8)
    s.raise (evPROT_WARN b) (w16 (256 + (hbIn h).val)) (s.rd (A.PROT_BFLT b.val))

theorem limitHb_eq (t : Nat) (h : Fin 72) (c : HbCmd) (s : State) : limitHb t h c s = (limitMark h c s).redrive t h := rfl

theorem limit_words : ∀ b : Fin 8, A.PROT_BFLT b.val ≠ A.PROT_ILIMCNT b.val ∧
    (raising reactionReach).covers (A.PROT_ILIMCNT b.val) = false := by decide +kernel

theorem limit_chflt (b : Fin 8) (i : Fin 9) : A.PROT_ILIMCNT b.val ≠ A.PROT_CHFLT b.val i.val := by
  unfold A.PROT_ILIMCNT A.PROT_CHFLT; omega

theorem limitMark_spec (h : Fin 72) (c : HbCmd) (s : State) :
    (limitMark h c s).rd (A.PROT_ILIMCNT (hbBank h).val) = w16 (satU ((s.rd (A.PROT_ILIMCNT (hbBank h).val)).toNat + 1)) ∧
      bit ((limitMark h c s).rd (A.PROT_BFLT (hbBank h).val)) 0 = true ∧
      (bit (s.rd (A.PROT_BFLT (hbBank h).val)) 0 = false →
        bit ((limitMark h c s).rd (A.PROT_CHFLT (hbBank h).val (hbIn h).val)) 8 = true ∧
        eventBit (limitMark h c s) (evPROT_WARN (hbBank h)) = true) ∧
      (limitMark h c s).hb[h].limit = some c ∧ Causes h s (limitMark h c s) ∧
      ∀ a : Fin 24, (limitMark h c s).tim[a].run = s.tim[a].run := by
  have hb := (hbBank h).isLt
  obtain ⟨hne, _⟩ := limit_words (hbBank h)
  have hnc := limit_chflt (hbBank h) (hbIn h)
  unfold limitMark
  extract_lets b s1 s2
  have h1c : s1.rd (A.PROT_ILIMCNT b.val) = w16 (satU ((s.rd (A.PROT_ILIMCNT b.val)).toNat + 1)) := by
    show ((s.modHb h _).wr _ _).rd _ = _
    rw [rd_wr, if_pos rfl]
    rfl
  have h1b : s1.rd (A.PROT_BFLT b.val) = s.rd (A.PROT_BFLT b.val) := by
    show ((s.modHb h _).wr _ _).rd _ = _
    rw [rd_wr, if_neg hne]
    rfl
  have h1h : s1.hb[h] = { s.hb[h] with limit := some c } := by
    have e : s1.hb = (s.modHb h (fun x => { x with limit := some c })).hb := rfl
    rw [e, modHb_get, if_pos rfl]
  have h1s : Causes h s s1 := ⟨rfl, rfl, SameBanks.refl s, by rw [h1h]⟩
  rw [h1b]
  by_cases hset : bit (s.rd (A.PROT_BFLT b.val)) 0 = true
  · rw [if_pos hset]
    refine ⟨h1c, by rw [h1b]; exact hset, fun hn => ?_, by rw [h1h], h1s, fun _ => rfl⟩
    rw [show A.PROT_BFLT (hbBank h).val = A.PROT_BFLT b.val from rfl, hset] at hn
    cases hn
  · rw [if_neg hset]
    have hsrc : (evPROT_WARN b).src < 128 := by show 68 + 8 * (hbBank h).val < 128; omega
    have hap : ∀ x, 0xC00 ≤ x → Apart x := fun x hx => Or.inr (Or.inr hx)
    have hr : Rings (s1.setFlags (A.PROT_BFLT b.val) (bitW 0)) (s2.raise (evPROT_WARN b) (w16 (256 + (hbIn h).val))
        (s2.rd (A.PROT_BFLT b.val))) := raise_rings (setFlags_rings (Rings.refl _))
    refine ⟨?_, flag_of_rings hr (sticky_bflt b) (by decide), fun _ => ⟨?_, raise_self _ _ _ _⟩, ?_, ?_, fun _ => ?_⟩
    · rw [raise_rd _ _ _ _ hsrc _ (hap _ (by unfold A.PROT_ILIMCNT; omega))]
      show (((s1.wr _ _).setFlags _ _).rd _) = _
      show ((State.wr _ _ _).rd _) = _
      rw [rd_wr, if_neg hnc]
      show (s1.wr _ _).rd _ = _
      rw [rd_wr, if_neg hne.symm]
      exact h1c
    · rw [raise_rd _ _ _ _ hsrc _ (hap _ (by unfold A.PROT_CHFLT; omega))]
      exact setFlags_bit _ _ (by decide)
    · rw [raise_hb]
      show s1.hb[h].limit = _
      rw [h1h]
    · refine h1s.trans ⟨raise_img _ _ _ _, raise_ax _ _ _ _, sameBanks_of_eq (raise_bank _ _ _ _) (SameBanks.refl s1), ?_⟩
      rw [raise_hb]
      rfl
    · rw [raise_tim]
      rfl

theorem redrive_rd (s : State) (t : Nat) (h : Fin 72) {a : Nat} (ha : (raising reactionReach).covers a = false) :
    (s.redrive t h).rd a = s.rd a :=
  (only_of_forget (redrive_forget (raising reactionReach) s t h (mayRaise_raising _) rfl rfl rfl (has_of_mem (by decide))
    (has_of_mem (by decide)))).regs a ha

theorem limitHb_spec {s : State} {t : Nat} {h : Fin 72} {a : Fin 24} {r : Fin 3} {c : HbCmd} (hc : c = .low ∨ c = .hiz)
    (ha : s.hbAxis h = some (a, r)) (hrow : (s.select h).1 = 5 ∨ 5 < (s.select h).1 ∧ s.tim[a].run = true) :
    ((limitHb t h c s).hb[h]).limit = some c ∧ some ((limitHb t h c s).hb[h]).cmd = ((limitHb t h c s).hb[h]).limit ∧
      (limitHb t h c s).rd (A.PROT_ILIMCNT (hbBank h).val) = w16 (satU ((s.rd (A.PROT_ILIMCNT (hbBank h).val)).toNat + 1)) ∧
      bit ((limitHb t h c s).rd (A.PROT_BFLT (hbBank h).val)) 0 = true ∧
      (bit (s.rd (A.PROT_BFLT (hbBank h).val)) 0 = false →
        bit ((limitHb t h c s).rd (A.PROT_CHFLT (hbBank h).val (hbIn h).val)) 8 = true ∧
        eventBit (limitHb t h c s) (evPROT_WARN (hbBank h)) = true) := by
  have hb := (hbBank h).isLt
  rw [limitHb_eq]
  obtain ⟨hcnt, hflag, hev, hl, hk, hrun⟩ := limitMark_spec h c s
  generalize limitMark h c s = u at hcnt hflag hev hl hk hrun
  have hst := redrive_steers u t h h
  have hr : Rings u (u.redrive t h) := redrive_rings (Rings.refl u)
  obtain ⟨hf, hn, hlow⟩ := select_row_low (s := s) (h := h) (by omega)
  rw [← hlow] at hrow
  have hwant : u.wanted h = c := by
    unfold State.wanted
    rw [hk.row2Cmd, hn]
    exact lowRows_limited hk (hrun a) ha hl hrow
  have hcmd : ((u.redrive t h).hb[h]).cmd = c := by
    rw [redrive_follows, select_driven (hk.flt.trans hf), hwant, if_neg]
    rintro ⟨e, _⟩
    rcases hc with rfl | rfl <;> cases e
  refine ⟨hst.limit.trans hl, by rw [hcmd, hst.limit, hl], ?_, hr _ _ (sticky_bflt _) hflag, fun h0 => ⟨?_, ?_⟩⟩
  · rw [redrive_rd _ _ _ (limit_words _).2]; exact hcnt
  · rw [redrive_rd _ _ _ (chflt_clear _ _)]; exact (hev h0).1
  · exact hr.event (by show 68 + 8 * (hbBank h).val < 128; omega) (hev h0).2

/-- Settles O13: what is forgotten is judged no more, and a limited half-bridge is one operation for both of its commands. -/
theorem currentLimit : Obligations.CurrentLimit := by
  unfold Obligations.CurrentLimit
  refine ⟨fun s at' b => ?_, fun s at' h high a r ha hdom hlim hthr hrow hj hcfg => ?_, fun s at' h high hn => ?_⟩
  · refine ⟨s.modBank b (fun k => { k with blank := k.blank.filter (fun p => s.clkAt at' ≤ p.2 + 1024) }), rfl, ?_, ?_⟩
    · intro f hf
      rw [modBank_get, if_pos rfl]
      exact judgeFrom_filter _ _ _ hf
    · intro p hp
      rw [modBank_get, if_pos rfl] at hp
      exact (List.mem_filter.mp hp).1
  · have hgo : (s.dom (hbBank h).val && ((s.select h).1 == 5 || (5 ≤ (s.select h).1 && s.tim[a].run)) &&
        s.hb[h].limit.isNone && field (s.hbReg A.PROT_ILIM h) 7 0 != 0 &&
        (s.bank[hbBank h]).judgeFrom (s.clkAt at' - high) ≤ s.clkAt at') = true := by
      have hr : ((s.select h).1 == 5 || (5 ≤ (s.select h).1 && s.tim[a].run)) = true := by
        rcases hrow with e | ⟨e, hrun⟩
        · rw [e]; rfl
        · rw [hrun, decide_eq_true (by omega : 5 ≤ (s.select h).1)]; simp
      simp only [hdom, hr, hlim, Option.isNone_none, bne_iff_ne.mpr hthr, hj, decide_true, Bool.and_self]
    rcases hcfg with h1 | h2
    · refine ⟨limitHb (s.clkAt at') h .low s, ?_, ?_⟩
      · change execCurrentLimitTrip at' h high s = _
        simp only [execCurrentLimitTrip, ha, hgo, h1, if_true]
      · rw [if_pos h1]
        exact limitHb_spec (Or.inl rfl) ha hrow
    · have h1 : field (s.rd (A.PROT_AXCFG (hbBank h).val (axSlot a).val)) 1 0 ≠ 1 := by omega
      refine ⟨limitHb (s.clkAt at') h .hiz s, ?_, ?_⟩
      · change execCurrentLimitTrip at' h high s = _
        simp only [execCurrentLimitTrip, ha, hgo, h2, if_true]
        rfl
      · rw [if_neg h1]
        exact limitHb_spec (Or.inr rfl) ha hrow
  · change execCurrentLimitTrip at' h high s = _
    rw [execCurrentLimitTrip]
    cases ha : s.hbAxis h with
    | none => rfl
    | some p =>
      dsimp only
      rw [if_neg]
      simp only [Bool.and_eq_true, Bool.or_eq_true, beq_iff_eq, decide_eq_true_eq, bne_iff_ne, Option.isNone_iff_eq_none]
      rintro ⟨⟨⟨⟨_, hr⟩, hl⟩, hthr⟩, _⟩
      rcases hn with hlt | h0 | hs
      · omega
      · exact hthr h0
      · rw [hl] at hs; cases hs

/-! ### Over-voltage and the chopper (R229 to R231) -/

theorem chopperOff_spec (t : Nat) (b : Fin 8) (s : State) : ((chopperOff t b s).bank[b]).vov1 = false ∧
    ((chopperOff t b s).bank[b]).chop = false ∧
    (bit (s.rd (A.PROT_BFLT b.val)) 2 = false → ((chopperOff t b s).bank[b]).vov2 = false) := by
  unfold chopperOff
  extract_lets s1 f
  have hf : f = s.rd (A.PROT_BFLT b.val) := rfl
  obtain ⟨w, hw⟩ := bankCause_self s1 t b (fun k => { k with vov2 := k.vov2 && bit f 2 })
  have hk : s1.bank[b] = { (s.bank[b]) with vov1 := false, vmLow := true, chop := false, chopLong := false } := by
    unfold s1
    rw [modBank_get, if_pos rfl]
  rw [hk] at hw
  rw [redriveBank_same _ t b b, hw]
  exact ⟨rfl, rfl, fun h2 => by rw [hf, h2, Bool.and_false]⟩

theorem vov2_spec {t : Nat} {b : Fin 8} {s : State} (hn : (s.bank[b]).vov2 = false ∨ bit (s.rd (A.PROT_BFLT b.val)) 2 = false) :
    ((vov2 t b s).bank[b]).vov2 = true ∧ ((vov2 t b s).bank[b]).vmLow = false ∧
      bit ((vov2 t b s).rd (A.PROT_BFLT b.val)) 2 = true ∧ eventBit (vov2 t b s) (evBANK_TRIP b) = true := by
  have hk : (s.modBank b (fun k => { k with vmLow := false })).bank[b] = { (s.bank[b]) with vmLow := false } := by
    rw [modBank_get, if_pos rfl]
  have hno : ¬ (((s.modBank b (fun k => { k with vmLow := false })).bank[b]).vov2 &&
      bit ((s.modBank b (fun k => { k with vmLow := false })).rd (A.PROT_BFLT b.val)) 2) = true := by
    rw [hk, modBank_rd, Bool.and_eq_true]
    rintro ⟨h1, h2⟩
    rcases hn with h | h
    · rw [h] at h1; cases h1
    · rw [h] at h2; cases h2
  obtain ⟨⟨w, hw⟩, hflag, hev, _⟩ := bankTrip_spec (s.modBank b (fun k => { k with vmLow := false })) t b
    (fun k => { k with vov2 := true }) (m := bitW 2) (k := 2) (by decide) (vov2 t b s) (by unfold vov2; exact if_neg hno)
  rw [hk] at hw
  exact ⟨by rw [hw], by rw [hw], hflag, hev⟩

/-- The chopper has stayed on outside pin float for longer than PROT_CHOPMAX and has not been reported (R231). -/
def chopOverdue (s : State) (b : Fin 8) : Bool :=
  (s.bank[b]).chopping && !(s.bank[b]).chopLong && field (s.rd (A.PROT_CHOPMAX b.val)) 7 0 != 0 &&
    1000 * field (s.rd (A.PROT_CHOPMAX b.val)) 7 0 < s.clk.ticks - (s.bank[b]).chopAt

/-- The report of a chopper that has stayed on too long. -/
def reportChop (s : State) (b : Fin 8) : State :=
  let s := (s.modBank b (fun k => { k with chopLong := true })).setFlags (A.PROT_BFLT b.val) (bitW 5)
  s.raise (evPROT_WARN b) (w16 (3 * 256)) (s.rd (A.PROT_BFLT b.val))

theorem exec_chopLong (s : State) (b : Fin 8) :
    exec (.chopLong b) s = .next (if chopOverdue s b then reportChop s b else s) := rfl

theorem reportChop_spec (s : State) (b : Fin 8) : ((reportChop s b).bank[b]).chopLong = true ∧
    bit ((reportChop s b).rd (A.PROT_BFLT b.val)) 5 = true ∧ eventBit (reportChop s b) (evPROT_WARN b) = true := by
  unfold reportChop
  extract_lets s1
  have hb : s1.bank = (s.modBank b (fun k => { k with chopLong := true })).bank := rfl
  refine ⟨?_, flag_of_rings (raise_rings (Rings.refl _)) (sticky_bflt b) (by decide), raise_self _ _ _ _⟩
  rw [raise_bank, hb, modBank_get, if_pos rfl]

/-- Settles O14: each command by the fields of the bank that it sets. -/
theorem overVoltageAndChopper : Obligations.OverVoltageAndChopper := by
  unfold Obligations.OverVoltageAndChopper
  refine fun s at' b => ⟨fun hs => ?_, fun hs => ?_, fun hs hn => ?_, fun hc hf hl hm hlt => ?_, fun hle => ?_⟩
  · refine ⟨(s.modBank b (fun k => { k with
      vov1 := true, vmLow := false, chop := true, chopAt := if k.chop then k.chopAt else s.clk.ticks })).redriveBank
        (s.clkAt at') b, ?_, ?_, ?_⟩
    · change execChopperOn at' b s = _
      rw [execChopperOn, if_pos hs]
    · rw [redriveBank_same _ _ b b, modBank_get, if_pos rfl]
    · rw [redriveBank_same _ _ b b, modBank_get, if_pos rfl]
  · refine ⟨chopperOff (s.clkAt at') b s, ?_, chopperOff_spec _ b s⟩
    change execChopperOff at' b s = _
    rw [execChopperOff, if_pos hs]
  · refine ⟨vov2 (s.clkAt at') b s, ?_, vov2_spec hn⟩
    change execVov2 at' b s = _
    rw [execVov2, if_pos hs]
  · have hdue : chopOverdue s b = true := by
      simp only [chopOverdue, Bank.chopping, hc, hl, bne_iff_ne.mpr hf, bne_iff_ne.mpr hm, hlt, decide_true, Bool.not_false,
        Bool.and_self]
    exact ⟨reportChop s b, by rw [exec_chopLong, if_pos hdue], reportChop_spec s b⟩
  · have hdue : chopOverdue s b = false := by
      simp only [chopOverdue, Nat.not_lt.mpr hle, decide_false, Bool.and_false]
    rw [exec_chopLong, hdue]
    rfl

end Sys2Proof.Proofs
end

section
/-! SUPPORT. Proofs of the device-wide reaction's other sources, its clear, the RAM errors and the host watchdog. -/
namespace Sys2Proof.Proofs
set_option Elab.async false
open Sys2Proof.Machine Sys2Proof.Safety Sys2Proof.Laws

/-! ### The device-wide reaction (R446, R447, R449, R450) -/

theorem deviceWide_detail (s : State) (t cause detail : Nat) (h : s.safe.dev = false) :
    (s.deviceWide t cause detail).rd A.SAFE_DETAIL = w16 detail := (deviceWide_cause s t cause detail h).2

theorem w16_toNat (w : Word) : w16 w.toNat = w := BitVec.ofNat_toNat (m := 16) w |>.trans (BitVec.setWidth_eq w)

/-- A word that the reaction does not write. -/
theorem deviceWide_keeps (s : State) (t cause detail a : Nat) (ha : dwParts.covers a = false) (hc : a ≠ A.SAFE_CAUSE)
    (hd : a ≠ A.SAFE_DETAIL) : (s.deviceWide t cause detail).rd a = s.rd a :=
  (deviceWide_rd s t cause detail a ha).trans (latchCause_rd s cause detail a hc hd)

/-- The reaction with its cause latched where none stood: what every source shows. -/
theorem deviceWide_shows (s : State) (t cause detail : Nat) (hc : cause < 256) :
    (s.deviceWide t cause detail).safe.dev = true ∧ eventBit (s.deviceWide t cause detail) evSAFE_DEV = true ∧
      (∀ b : Fin 8, ((s.deviceWide t cause detail).bank[b]).armed = false) ∧
      (s.safe.dev = false → field ((s.deviceWide t cause detail).rd A.SAFE_CAUSE) 7 0 = cause ∧
        (s.deviceWide t cause detail).rd A.SAFE_DETAIL = w16 detail) :=
  ⟨deviceWide_dev _ _ _ _, deviceWide_rings_dev _ _ _ _, deviceWide_off _ _ _ _,
    fun h => ⟨deviceWide_field _ _ _ _ hc h, deviceWide_detail _ _ _ _ h⟩⟩

/-- A scrub pass that found a mismatch at `a`. -/
def scrubFailed (s : State) (t a : Nat) : State :=
  ((s.wrapInc A.SAFE_SCRUBCNT).modImg (fun x => { x with swapped := false })).deviceWide t causeSCRUB (blockBase a)

theorem scrubFailed_shows (s : State) (t a : Nat) :
    (scrubFailed s t a).rd A.SAFE_SCRUBCNT = s.rd A.SAFE_SCRUBCNT + 1 ∧ (scrubFailed s t a).safe.dev = true ∧
      eventBit (scrubFailed s t a) evSAFE_DEV = true ∧ (∀ b : Fin 8, ((scrubFailed s t a).bank[b]).armed = false) ∧
      (s.safe.dev = false → field ((scrubFailed s t a).rd A.SAFE_CAUSE) 7 0 = causeSCRUB ∧
        (scrubFailed s t a).rd A.SAFE_DETAIL = w16 (blockBase a)) := by
  unfold scrubFailed
  refine ⟨?_, deviceWide_shows _ t causeSCRUB (blockBase a) (by decide)⟩
  rw [deviceWide_keeps _ _ _ _ _ (by decide +kernel) (by decide) (by decide), modImg_rd]
  show (s.wr _ _).rd _ = _
  rw [rd_wr, if_pos rfl]

theorem exec_scrubPass {s : State} (hup : s.up = true) (hact : s.img.active.isSome = true) (at' : Fin 200) (ok : Bool)
    (a : Word) : exec (.scrubPass at' ok a) s = .next (if ok || s.scrubOff a.toNat then s.wrapInc A.SAFE_SCRUBCNT
      else scrubFailed s (s.clkAt at') a.toNat) := by
  have hn : ¬ s.img.active.isNone = true := by
    cases h : s.img.active with
    | none => rw [h] at hact; cases hact
    | some c => exact Bool.false_ne_true
  change execScrubPass at' ok a s = _
  rw [execScrubPass, whenUp_of_up hup]
  dsimp only
  rw [if_neg hn]
  rfl

/-- The cause DEV is taken back on every bank (R447). -/
def liftDev (s : State) : State :=
  (s.modSafe (fun x => { x with dev := false })).each allBanks
    (fun s b => s.bankCause (200 * s.clk.ticks) b (fun k => { k with dev := false }))

theorem liftDev_safe (s : State) : (liftDev s).safe.dev = false := by
  unfold liftDev
  rw [each_keeps State.safe (f := fun s b => s.bankCause (200 * s.clk.ticks) b (fun k => { k with dev := false }))
    (fun v x => bankCause_safe _ _ _ _)]
  rfl

theorem liftDev_cause (s : State) (b : Fin 8) : ((liftDev s).bank[b]).dev = false :=
  each_cause_sets (P := fun k => k.dev = false) (g := fun s => 200 * s.clk.ticks) (f := fun k => { k with dev := false })
    (fun _ => rfl) (fun _ _ _ _ => Iff.rfl) (mem_allBanks b) (s.modSafe (fun x => { x with dev := false }))

theorem liftDev_off (s : State) (b : Fin 8) (h : (s.bank[b]).armed = false) : ((liftDev s).bank[b]).armed = false := by
  have hc : Calm true (s.modSafe (fun x => { x with dev := false })) (liftDev s) :=
    each_calm (fun v x h₁ => bankCause_calm (fun _ h => h) h₁) (Calm.refl true _)
  exact hc.off h

/-- A detection in this tick or the one before. -/
def freshDetection (s : State) : Bool :=
  match s.safe.lastAt with
  | none => false
  | some n => s.clk.ticks < n + 2

theorem safeClr_eq (s : State) :
    safeClr s = if s.safe.dev && s.clearable && !freshDetection s then liftDev s else s := rfl

theorem exec_safeClr {s : State} (hup : s.up = true) (hears : s.hears = true) : exec .safeClr s = .next (safeClr s) := by
  change execSafeClr s = _
  rw [execSafeClr, whenHost_of_hears hup hears]

/-- Settles O15: every source is the one reaction with its cause; the clear takes the cause back bank by bank. -/
theorem deviceWideReaction : Obligations.DeviceWideReaction := by
  unfold Obligations.DeviceWideReaction
  refine ⟨⟨fun s at' group hup => ?_, fun s at' a hup hact => ⟨?_, fun hoff => ?_, fun hoff => ?_⟩⟩,
    fun s hup hears => ⟨fun hdev hcl hlast => ?_, fun hcl => ?_, fun n hn hlt => ?_⟩⟩
  · obtain ⟨h1, h2, h3, h4⟩ := deviceWide_shows s (s.clkAt at') causeSUPERVISOR group.toNat (by decide)
    refine ⟨s.deviceWide (s.clkAt at') causeSUPERVISOR group.toNat, ?_, h1, h2, h3, fun h => ?_⟩
    · change execSupervisorMismatch at' group s = _
      rw [execSupervisorMismatch, whenUp_of_up hup]
    · exact ⟨(h4 h).1, (h4 h).2.trans (w16_toNat group)⟩
  · rw [exec_scrubPass hup hact]
    rfl
  · rw [exec_scrubPass hup hact, hoff]
    rfl
  · refine ⟨scrubFailed s (s.clkAt at') a.toNat, ?_, scrubFailed_shows s _ _⟩
    rw [exec_scrubPass hup hact, hoff]
    simp only [Bool.or_self, Bool.false_eq_true, if_false]
  · have hfr : freshDetection s = false := by
      unfold freshDetection
      cases hl : s.safe.lastAt with
      | none => rfl
      | some n => exact decide_eq_false (Nat.not_lt.mpr (hlast n hl))
    refine ⟨liftDev s, ?_, liftDev_safe s, fun b => ⟨liftDev_cause s b, liftDev_off s b⟩⟩
    rw [exec_safeClr hup hears, safeClr_eq, hdev, hcl, hfr]
    rfl
  · rw [exec_safeClr hup hears, safeClr_eq, hcl, Bool.and_false, Bool.false_and]
    rfl
  · have hfr : freshDetection s = true := by
      unfold freshDetection
      rw [hn]
      exact decide_eq_true hlt
    rw [exec_safeClr hup hears, safeClr_eq, hfr, Bool.not_true, Bool.and_false]
    rfl

/-! ### RAM errors (R451, R361) -/

theorem exec_ramSec {s : State} (hup : s.up = true) (at' : Fin 200) {inst : Byte} (hi : ramInst inst.toNat = true) (a : Word)
    (double : Bool) : exec (.ramSec at' inst a double) s = .next (if double then s.doubleBit (s.clkAt at') inst.toNat a.toNat
      else (s.satInc A.SAFE_RAMSEC).raise evRAM_SEC (w16 inst.toNat) a) := by
  change execRamSec at' inst a double s = _
  rw [execRamSec, whenUp_of_up hup, ramSec, hi]
  rfl

theorem loseSlot_at (r : Recorder) (n j : Nat) : (r.loseSlot n).at j = if j = n then none else r.at j :=
  mapGet_mapDel r.slots n j

/-! ### The host watchdog (R455) -/

/-- WDOG with the device-wide reaction. -/
theorem wdog_spec (s : State) (t kind : Nat) : eventBit (s.wdog t kind) evWDOG = true ∧ (s.wdog t kind).safe.dev = true ∧
    ∀ b : Fin 8, ((s.wdog t kind).bank[b]).armed = false := by
  unfold State.wdog
  extract_lets s1
  refine ⟨raise_self _ _ _ _, ?_, fun b => ?_⟩
  · rw [raise_safe]; exact deviceWide_dev _ _ _ _
  · rw [raise_bank]; exact deviceWide_off _ _ _ _ b

theorem wdogLate_eq (t : Nat) (s : State) : wdogLate t s = s ∨ wdogLate t s = (s.modSafe (fun x => { x with wdLate := true })).wdog t 2 := by
  unfold wdogLate
  split
  · exact Or.inr rfl
  · exact Or.inl rfl

/-- What a wrong or an early service shows, a missed service judged behind it or not. -/
theorem wdogLate_shows {t : Nat} {s : State} (h : eventBit s evWDOG = true ∧ s.safe.dev = true ∧
    ∀ b : Fin 8, (s.bank[b]).armed = false) : eventBit (wdogLate t s) evWDOG = true ∧ (wdogLate t s).safe.dev = true ∧
    ∀ b : Fin 8, ((wdogLate t s).bank[b]).armed = false := by
  rcases wdogLate_eq t s with e | e <;> rw [e]
  · exact h
  · exact wdog_spec _ _ _

/-- A missed service is judged once: the mark stands after the reaction. -/
theorem wdog_late (s : State) (t kind : Nat) : (s.wdog t kind).safe.wdLate = s.safe.wdLate := by
  unfold State.wdog
  extract_lets s1
  rw [raise_safe, deviceWide_safe]
  unfold State.latchCause
  extract_lets now take u
  split <;> rfl

theorem exec_watchdogKick {s : State} (hup : s.up = true) (hears : s.hears = true) (at' : Fin 200) (d : Word) :
    exec (.watchdogKick at' d) s = .next (watchdogKick (s.clkAt at') d s) := by
  change execWatchdogKick at' d s = _
  rw [execWatchdogKick, whenHost_of_hears hup hears]

/-- The watchdog after an accepted service. -/
def served (s : State) : State :=
  { s with safe := { s.safe with wdAt := s.clk.ticks, wdNext := !s.safe.wdNext, wdServed := true, wdLate := false } }

theorem wdogLate_served (s : State) (t : Nat) : wdogLate t (served s) = served s := by
  unfold wdogLate
  have h : (served s).wdElapsed = 0 := Nat.sub_self _
  rw [h, decide_eq_false (Nat.not_lt_zero _), Bool.and_false]
  rfl

theorem watchdogKick_accepted {s : State} {t : Nat} {d : Word} (hrun : s.safe.wdRun = true)
    (hd : d = (if s.safe.wdNext then 0x005C else 0x00A3)) (hmin : s.wdMin ≤ s.wdElapsed) :
    watchdogKick t d s = served s := by
  unfold watchdogKick
  extract_lets expected s1
  have h1 : s1 = served s := if_neg fun h => h.elim (· hd) (Nat.not_lt.2 hmin)
  rw [if_pos hrun, h1, wdogLate_served]

theorem watchdogKick_refused {s : State} {t : Nat} {d : Word} (hrun : s.safe.wdRun = true)
    (hbad : d ≠ (if s.safe.wdNext then 0x005C else 0x00A3) ∨ s.wdElapsed < s.wdMin) :
    watchdogKick t d s = wdogLate t (s.wdog t 1) := by
  unfold watchdogKick
  extract_lets expected s1
  have h1 : s1 = s.wdog t 1 := if_pos hbad
  rw [if_pos hrun, h1]

/-! ### SAFE_WDCFG (R22, R455) -/

/-- The row of SAFE_WDCFG. -/
theorem wdcfg_row : ∃ row, lookup A.SAFE_WDCFG = some (row, []) ∧ row.reg = .SAFE_WDCFG := by
  have h : regAt A.SAFE_WDCFG = some (.SAFE_WDCFG, []) := by decide +kernel
  exact lookup_of_regAt h

theorem exec_watchdogEnable {s : State} (hup : s.up = true) (hears : s.hears = true) (d : Word) :
    exec (.watchdogEnable d) s = .next (s.writeWord (200 * s.clk.ticks) A.SAFE_WDCFG d) := by
  change execWatchdogEnable d s = _
  rw [execWatchdogEnable, hostWord_of_hears hup hears]

theorem barred_wdcfg (s : State) : s.barred A.SAFE_WDCFG = s.safe.wdRun := by
  obtain ⟨row, hrow, hreg⟩ := wdcfg_row
  simp [State.barred, hrow, hreg]

theorem limitsAt_free {s : State} {a : Nat} (h : ∀ l ∈ s.limits, l.addr ≠ a) (fs : List Fld) : s.limitsAt a fs = [] := by
  unfold State.limitsAt
  rw [List.filter_eq_nil_iff]
  intro l hl
  rw [beq_eq_false_iff_ne.mpr (h l hl), Bool.false_and]
  exact Bool.false_ne_true

/-- A word that no LIMITS entry bounds is taken as it is (R78). -/
theorem bounded_free {s : State} {a : Nat} (h : ∀ l ∈ s.limits, l.addr ≠ a) (fs : List Fld) (d : Word)
    (f : Word → State → State) : s.bounded a fs d f = f d s := by
  unfold State.bounded
  rw [limitsAt_free h]
  rfl

theorem writeWord_wdcfg {s : State} {d : Word} (hrun : s.safe.wdRun = false) (hl : s.legal A.SAFE_WDCFG d = true)
    (hlim : ∀ l ∈ s.limits, l.addr ≠ A.SAFE_WDCFG) (t : Nat) : s.writeWord t A.SAFE_WDCFG d = safeWdcfg d s := by
  obtain ⟨row, hrow, hreg⟩ := wdcfg_row
  have hne : row.reg ≠ .AX_CMD := by rw [hreg]; exact nofun
  have hcore : s.writeLegal t A.SAFE_WDCFG d = safeWdcfg d s := by
    rw [writeLegal_core hrow (by decide) (by rw [hreg]; rfl), hreg]
    exact bounded_free hlim row.fields d safeWdcfg
  simp only [State.writeWord, barred_wdcfg, hrun, Bool.false_eq_true, if_false, hl, if_true, ampClash_eq_self hrow hne, hcore]

theorem safeWdcfg_enabled {s : State} {d : Word} (hrun : s.safe.wdRun = false) (hen : bit d 15 = true) :
    (safeWdcfg d s).rd A.SAFE_WDCFG = d ∧ (safeWdcfg d s).safe.wdRun = true ∧ (safeWdcfg d s).safe.wdAt = s.clk.ticks ∧
      (safeWdcfg d s).safe.wdNext = false := by
  unfold safeWdcfg
  rw [if_neg (by rw [hrun]; decide)]
  dsimp only
  rw [if_pos hen, modSafe_rd, rd_wr, if_pos rfl]
  exact ⟨rfl, rfl, rfl, rfl⟩

/-- Settles O16: RAM errors by their class; the watchdog's enable, its service and its miss by one reaction. -/
theorem ramErrorsAndWatchdog : Obligations.RamErrorsAndWatchdog := by
  unfold Obligations.RamErrorsAndWatchdog
  refine ⟨fun s at' inst a hup hi => ⟨?_, fun h4 => ?_, fun hdw => ?_⟩,
    fun s d hup hears => ⟨fun hrun => ?_, fun hrun hl hlim hen => ?_⟩,
    fun s at' d hup hears hrun => ⟨fun hd hmin _ => ?_, fun hbad => ?_⟩, fun s at' hup hrun hlate hlt => ?_⟩
  · refine ⟨(s.satInc A.SAFE_RAMSEC).raise evRAM_SEC (w16 inst.toNat) a, ?_, ?_, raise_self _ _ _ _, raise_safe _ _ _ _⟩
    · rw [exec_ramSec hup at' hi]
      rfl
    · rw [raise_rd _ _ _ _ (by decide) _ (by unfold Apart; decide)]
      show (s.wr _ _).rd _ = _
      rw [rd_wr, if_pos rfl]
  · refine ⟨s.modRcd (fun r => r.loseSlot (ramSlot a.toNat)), ?_, ?_, fun n hn => ?_, rfl⟩
    · rw [exec_ramSec hup at' hi, if_pos rfl, State.doubleBit, if_pos h4]
    · exact (loseSlot_at _ _ _).trans (if_pos rfl)
    · exact (loseSlot_at _ _ _).trans (if_neg hn)
  · refine ⟨s.deviceWide (s.clkAt at') causeRAM inst.toNat, ?_, deviceWide_shows s _ causeRAM _ (by decide)⟩
    rw [exec_ramSec hup at' hi, if_pos rfl, State.doubleBit, if_neg (by omega), if_neg (by omega), if_neg (by omega),
      if_neg (by unfold ramInst at hi; simp at hi; omega)]
  · rw [exec_watchdogEnable hup hears, State.writeWord, barred_wdcfg, if_pos hrun]
  · refine ⟨safeWdcfg d s, ?_, safeWdcfg_enabled hrun hen⟩
    rw [exec_watchdogEnable hup hears, writeWord_wdcfg hrun hl hlim]
  · refine ⟨served s, ?_, rfl⟩
    rw [exec_watchdogKick hup hears, watchdogKick_accepted hrun hd hmin]
  · refine ⟨wdogLate (s.clkAt at') (s.wdog (s.clkAt at') 1), ?_, wdogLate_shows (wdog_spec _ _ _)⟩
    rw [exec_watchdogKick hup hears, watchdogKick_refused hrun hbad]
  · refine ⟨(s.modSafe (fun x => { x with wdLate := true })).wdog (s.clkAt at') 2, ?_, wdog_late _ _ _, wdog_spec _ _ _⟩
    change execWdogLate at' s = _
    have hdue : (s.safe.wdRun && !s.safe.wdLate && s.wdMax < s.wdElapsed) = true := by
      rw [hrun, hlate, decide_eq_true hlt]; rfl
    rw [execWdogLate, whenUp_of_up hup, wdogLate, if_pos hdue]

end Sys2Proof.Proofs
end

section
/-! SUPPORT. Proofs of the plausibility check of an axis and of the link to a driver die. -/
namespace Sys2Proof.Proofs
set_option Elab.async false
open Sys2Proof.Machine Sys2Proof.Safety Sys2Proof.Laws

/-! ### The plausibility hold of an axis (R452) -/

theorem countCut_ax (s : State) (h : Fin 72) : (s.countCut h).ax = s.ax := (countCut_steers s h 0).ax

theorem loseAsc_plaus (s : State) (a a' : Fin 24) : ((s.loseAsc a).ax[a']).plaus = (s.ax[a']).plaus := by
  unfold State.loseAsc
  extract_lets b j s1
  have h1 : (s1.setFlags (A.PROT_AXSTAT b.val j) (bitW 0)).ax = s1.ax := rfl
  rw [raise_ax, h1, modAx_get]
  split
  · subst a'; rfl
  · rfl

theorem ascSupply_plaus (s : State) (a a' : Fin 24) : ((s.ascSupply a).ax[a']).plaus = (s.ax[a']).plaus := by
  unfold State.ascSupply
  split
  · rw [loseAsc_plaus, each_keeps State.ax countCut_ax]
  · rfl

theorem modSide_plaus (s : State) (a a' : Fin 24) (o : Option Side) :
    ((s.modAx a (fun x => { x with safeSide := o })).ax[a']).plaus = (s.ax[a']).plaus := by
  rw [modAx_get]
  split
  · subst a'; rfl
  · rfl

theorem sideFor_plaus (s : State) (a a' : Fin 24) (v : Bool) : ((s.sideFor a v).ax[a']).plaus = (s.ax[a']).plaus := by
  unfold State.sideFor
  split
  · split
    · rfl
    · rw [ascSupply_plaus, modSide_plaus]
  · exact modSide_plaus _ _ _ _

/-- The hold is set or taken back on its axis and on no other. -/
theorem setPlaus_plaus (s : State) (t : Nat) (a a' : Fin 24) (v : Bool) :
    ((s.setPlaus t a v).ax[a']).plaus = if a = a' then v else (s.ax[a']).plaus := by
  unfold State.setPlaus
  extract_lets before
  rw [(reRow2_steers s t (s.axHbs a) (fun s => (s.modAx a (fun x => { x with plaus := v })).sideFor a before) 0).ax,
    sideFor_plaus, modAx_get]
  split <;> rfl

theorem toStopped_ax (s : State) (a : Fin 24) (c : AxCause) : ((s.toStopped a c).ax[a]).st = .stopped ∧
    ((s.toStopped a c).ax[a]).plaus = (s.ax[a]).plaus := by
  unfold State.toStopped
  extract_lets s1
  have h1 : ∀ u : State, u.ax = s1.ax → (u.ax[a]).st = .stopped ∧ (u.ax[a]).plaus = (s.ax[a]).plaus := by
    intro u hu
    rw [hu]
    unfold s1
    rw [modAx_get, if_pos rfl]
    exact ⟨rfl, rfl⟩
  split
  · exact h1 _ rfl
  · exact h1 _ rfl
  · refine h1 _ ?_
    unfold State.raiseAxis
    split <;> exact raise_ax _ _ _ _

theorem failOp_ax (s : State) (op : Nat) : (s.failOp op).ax = s.ax :=
  (only_of_forget (failOp_forget (raising { ops := true }) s op (mayRaise_raising _) rfl)).ax rfl

theorem stopAxis_ax (s : State) (a : Fin 24) (c : AxCause) : ((s.stopAxis a c).ax[a]).st = .stopped ∧
    ((s.stopAxis a c).ax[a]).plaus = (s.ax[a]).plaus := by
  unfold State.stopAxis
  split
  · rename_i h
    exact ⟨h, rfl⟩
  · extract_lets s1
    have h1 : s1.ax = s.ax := by
      unfold s1
      split
      · exact failOp_ax _ _
      · rfl
    have h2 := toStopped_ax s1 a c
    rw [h1] at h2
    exact h2

theorem sticky_plflt (a : Fin 24) : Sticky (plfltAddr a) := by
  unfold plfltAddr
  split
  · exact .inr (.inr (.inr (.inr (.inr (.inl rfl)))))
  · exact .inr (.inr (.inr (.inr (.inr (.inr (.inl rfl))))))

theorem plausTrip_spec (t : Nat) (a : Fin 24) (s : State) :
    bit ((plausTrip t a s).rd (plfltAddr a)) (plfltBit a) = true ∧ eventBit (plausTrip t a s) evSAFE_DEV = true ∧
      ((plausTrip t a s).ax[a]).plaus = true ∧ ((plausTrip t a s).ax[a]).st = .stopped := by
  unfold plausTrip
  extract_lets s1 s2
  have h2 : Rings (s1.raiseSafeDev causePLAUS a.val) s2 := setPlaus_rings (Rings.refl _)
  have h3 : Rings s2 ((s2.stopAxis a .fault).modAx a (fun x => { x with plAt := none })) :=
    modAx_rings (stopAxis_rings (Rings.refl s2))
  have h1 : Rings s1 (s1.raiseSafeDev causePLAUS a.val) := raise_rings (Rings.refl s1)
  have hp2 : (s2.ax[a]).plaus = true := by
    unfold s2
    rw [setPlaus_plaus, if_pos rfl]
  obtain ⟨hst, hpl⟩ := stopAxis_ax s2 a .fault
  refine ⟨flag_of_rings ((h1.trans h2).trans h3) (sticky_plflt a) (bit_bitW _ (Nat.mod_lt _ (by decide))),
    raised_of_rings (h2.trans h3) (by decide), ?_, ?_⟩
  · rw [modAx_get, if_pos rfl]
    exact hpl.trans hp2
  · rw [modAx_get, if_pos rfl]
    exact hst

/-! ### The clearing of a plausibility flag (R452) -/

/-- The word of the plausibility flags that the command names. -/
def plfltWord (hi : Bool) : Nat := if hi then A.SAFE_PLFLT_HI else A.SAFE_PLFLT_LO

theorem plfltAddr_eq (a : Fin 24) : plfltAddr a = plfltWord (decide (16 ≤ a.val)) := by
  unfold plfltAddr plfltWord
  by_cases h : a.val < 16
  · rw [if_pos h, if_neg (by simp [h])]
  · rw [if_neg h, if_pos (by simp; omega)]

theorem pl_at (hi : Bool) : regAt (plfltWord hi) = some (if hi then .SAFE_PLFLT_HI else .SAFE_PLFLT_LO, []) ∧
    domOfAddr (plfltWord hi) = none ∧ (raising reactionReach).covers (plfltWord hi) = false := by
  revert hi; decide +kernel

theorem exec_safePlfltClear {s : State} (hup : s.up = true) (hears : s.hears = true) (hi : Bool) {d : Word}
    (hl : s.legal (plfltWord hi) d = true) : exec (.safePlfltClear hi d) s = .next (safePlfltClear hi d s) := by
  obtain ⟨hat, hdom, _⟩ := pl_at hi
  obtain ⟨row, hrow, hreg⟩ := lookup_of_regAt hat
  have hne : row.reg ≠ .SAFE_WDCFG ∧ row.reg ≠ .BANK_ARM ∧ row.reg ≠ .AX_CMD ∧ higher row.reg [] = false := by
    rw [hreg]; cases hi <;> decide
  obtain ⟨h1, h2, h3, h4⟩ := hne
  change Host.Outcome.next (s.hostWord (plfltWord hi) d) = _
  rw [hostWord_of_hears hup hears, writeWord_core hrow h1 h2 h3 hdom h4 hl, hreg]
  cases hi <;> rfl

theorem setPlaus_rd (s : State) (t : Nat) (a : Fin 24) (v : Bool) (hi : Bool) :
    (s.setPlaus t a v).rd (plfltWord hi) = s.rd (plfltWord hi) :=
  (only_of_forget (setPlaus_forget (raising reactionReach) s t a v (mayRaise_raising _) rfl rfl rfl rfl
    (has_of_mem (by decide)) (has_of_mem (by decide)) (has_of_mem (by decide)))).regs _ (pl_at hi).2.2

theorem safePlfltClear_spec {s : State} {d : Word} {a : Fin 24} (hd : bit d (plfltBit a) = true)
    (hf : bit (s.freshAt (plfltAddr a)) (plfltBit a) = false) :
    bit ((safePlfltClear (decide (16 ≤ a.val)) d s).rd (plfltAddr a)) (plfltBit a) = false ∧
      ((safePlfltClear (decide (16 ≤ a.val)) d s).ax[a]).plaus = false := by
  rw [plfltAddr_eq] at hf ⊢
  generalize hhi : decide (16 ≤ a.val) = hi at hf ⊢
  have hk : plfltBit a < 16 := Nat.mod_lt _ (by decide)
  unfold safePlfltClear
  extract_lets adr s1
  have hadr : plfltWord hi = adr := rfl
  have h1 : bit (s1.rd adr) (plfltBit a) = false := by
    have e := clrFlags_bit s adr d hk
    rw [← hadr, hd, hf, hadr] at e
    simpa using e
  have hm : a ∈ (List.finRange 24).filter (fun a => plfltAddr a == adr && bit d (plfltBit a)) := by
    refine List.mem_filter.mpr ⟨List.mem_finRange a, ?_⟩
    rw [plfltAddr_eq, hhi, hadr, hd, beq_self_eq_true]
    rfl
  have hrd : ∀ (u : State) (y : Fin 24), ((if bit (u.rd adr) (plfltBit y) || !(u.ax[y]).plaus then u
      else u.setPlaus (200 * u.clk.ticks) y false) : State).rd adr = u.rd adr := by
    intro u y
    split
    · rfl
    · exact setPlaus_rd u _ y false hi
  rw [hadr]
  constructor
  · rw [each_keeps (fun u => u.rd adr) hrd]
    exact h1
  · refine each_makes (I := fun u => u.rd adr = s1.rd adr) (P := fun u => (u.ax[a]).plaus = false) (x := a) ?_ ?_ ?_ hm rfl
    · exact fun u y hu => (hrd u y).trans hu
    · intro u y _ hp
      split
      · exact hp
      · rw [setPlaus_plaus]
        split
        · rfl
        · exact hp
    · intro u hu
      rw [hu, h1, Bool.false_or]
      split
      · rename_i hn
        simpa using hn
      · rw [setPlaus_plaus, if_pos rfl]

/-! ### The link to a driver die (R454) -/

/-- The step of a lost die link: a bank of the die is held and disarmed. -/
def dieHold (t : Nat) (s : State) (b : Fin 8) : State :=
  (s.bankCause t b (fun x => { x with die := true })).disarm t b 7 .disarm

theorem dieHold_held (t : Nat) (s : State) (b : Fin 8) :
    SameHeld (s.modBank b (fun x => { x with die := true })) (dieHold t s b) :=
  (sameHeld_of_same (bankCause_same s t b _)).trans (disarm_held _ _ _ _ _)

theorem dieHold_off (t : Nat) (s : State) (b : Fin 8) : ((dieHold t s b).bank[b]).armed = false := disarm_off _ _ _ _ _

theorem dieHold_calm (t : Nat) (s : State) (b : Fin 8) : Calm true s (dieHold t s b) :=
  disarm_calm (bankCause_calm (fun _ h => h) (Calm.refl true s))

theorem dieHold_safe (t : Nat) (s : State) (b : Fin 8) : (dieHold t s b).safe = s.safe := by
  unfold dieHold
  rw [disarm_safe, bankCause_safe]

theorem dieHold_rings (t : Nat) (s : State) (b : Fin 8) : Rings s (dieHold t s b) :=
  disarm_rings (bankCause_rings (Rings.refl s))

theorem dieLinkLoss_eq (t : Nat) (k : Fin 4) (s : State) : dieLinkLoss t k s =
    ((s.modSafe (fun x => { x with dieOk := x.dieOk &&& ~~~ BitVec.twoPow 4 k.val })).raiseSafeDev causeDIE_LINK
      k.val).each (dieBanks k) (dieHold t) := rfl

theorem dieBit_clear (w : BitVec 4) (k : Fin 4) : (w &&& ~~~ BitVec.twoPow 4 k.val).getLsbD k.val = false := by
  simp

theorem dieBit_set (w : BitVec 4) (k : Fin 4) : (w ||| BitVec.twoPow 4 k.val).getLsbD k.val = true := by
  simp

theorem dieLinkLoss_spec (t : Nat) (k : Fin 4) (s : State) : (dieLinkLoss t k s).safe.dieOk.getLsbD k.val = false ∧
    eventBit (dieLinkLoss t k s) evSAFE_DEV = true ∧
    ∀ b ∈ dieBanks k, ((dieLinkLoss t k s).bank[b]).die = true ∧ ((dieLinkLoss t k s).bank[b]).armed = false := by
  rw [dieLinkLoss_eq]
  refine ⟨?_, ?_, fun b hb => ⟨?_, ?_⟩⟩
  · rw [each_keeps State.safe (dieHold_safe t)]
    exact (congrArg (fun x : Safe => x.dieOk.getLsbD k.val) (raise_safe _ _ _ _)).trans (dieBit_clear _ k)
  · exact raised_of_rings (each_rings (fun v x h₁ => h₁.trans (dieHold_rings t v x)) (Rings.refl _)) (by decide)
  · exact each_hold_sets (P := fun k => k.die = true) (dieHold_held t) (fun _ => rfl) (fun _ _ _ _ => Iff.rfl) hb _
  · exact each_off (dieHold_calm t) (dieHold_off t) (dieBanks k) _ b hb

/-- The cause DIE is taken back on both banks of a die (R454). -/
def liftDie (k : Fin 4) (s : State) : State :=
  (s.modSafe (fun x => { x with dieOk := x.dieOk ||| BitVec.twoPow 4 k.val })).each (dieBanks k)
    (fun s b => s.bankCause (200 * s.clk.ticks) b (fun x => { x with die := false }))

theorem liftDie_spec (k : Fin 4) (s : State) : (liftDie k s).safe.dieOk.getLsbD k.val = true ∧
    ∀ b ∈ dieBanks k, ((liftDie k s).bank[b]).die = false ∧
      ((s.bank[b]).armed = false → ((liftDie k s).bank[b]).armed = false) := by
  have hc : Calm true (s.modSafe (fun x => { x with dieOk := x.dieOk ||| BitVec.twoPow 4 k.val })) (liftDie k s) :=
    each_calm (fun v x h₁ => bankCause_calm (fun _ h => h) h₁) (Calm.refl true _)
  refine ⟨?_, fun b hb => ⟨?_, fun h => hc.off h⟩⟩
  · unfold liftDie
    rw [each_keeps State.safe (f := fun s b => s.bankCause (200 * s.clk.ticks) b (fun x => { x with die := false }))
      (fun v x => bankCause_safe _ _ _ _)]
    exact dieBit_set _ k
  · exact each_cause_sets (P := fun k => k.die = false) (g := fun s => 200 * s.clk.ticks)
      (f := fun x => { x with die := false }) (fun _ => rfl) (fun _ _ _ _ => Iff.rfl) hb _

/-- Settles O17: the axis' hold through the one operation that sets it, the die's banks through their cause. -/
theorem plausibilityAndDieLink : Obligations.PlausibilityAndDieLink := by
  unfold Obligations.PlausibilityAndDieLink
  refine ⟨⟨fun s at' a n hn hle => ?_, fun s hi d a hup hears hhi hl hd hf => ?_⟩, fun s k hup => ⟨fun at' hok => ?_, ?_⟩⟩
  · refine ⟨plausTrip (s.clkAt at') a s, ?_, plausTrip_spec _ a s⟩
    change execPlausTrip at' a s = _
    simp only [execPlausTrip, hn, hle, if_true]
  · subst hhi
    exact ⟨_, exec_safePlfltClear hup hears _ hl, safePlfltClear_spec hd hf⟩
  · refine ⟨dieLinkLoss (s.clkAt at') k s, ?_, dieLinkLoss_spec _ k s⟩
    change execDieLinkLoss at' k s = _
    rw [execDieLinkLoss, whenUp_of_up hup, if_pos hok]
  · refine ⟨liftDie k s, ?_, liftDie_spec k s⟩
    change execDieLinkRestore k s = _
    rw [execDieLinkRestore]
    exact congrArg Host.Outcome.next (whenUp_of_up (s := s.modSafe _) hup _)

end Sys2Proof.Proofs
end

section
/-! SUPPORT. Proofs of the arming of a bank: the three writes to BANK_ARM, and the end of the start-up tests. -/
namespace Sys2Proof.Proofs
set_option Elab.async false
open Sys2Proof.Machine Sys2Proof.Safety Sys2Proof.Laws

/-! ### Writes to BANK_ARM (R457) -/

theorem lookup_arm : ∀ b : Fin 8, lookup (A.BANK_ARM b.val) = some (⟨.BANK_ARM, 0x2000, [(8, 1024)], 0x0000, [fld 15 0 .WO]⟩,
    [b.val]) ∧ domOfAddr (A.BANK_ARM b.val) = some b.val ∧ blkOf (A.BANK_ARM b.val) = .bank ∧
    A.BANK_ARM b.val % 0x400 = 0 ∧ bankIx [b.val] = b := by decide +kernel

/-- The three values are legal, and what they do is judged in CORE, whatever the bank's domain (Table SAFE-3). -/
theorem writeWord_arm {s : State} (b : Fin 8) {d : Word} (hd : d = 0x00A5 ∨ d = 0x005A ∨ d = 0) (t : Nat) :
    s.writeWord t (A.BANK_ARM b.val) d = if s.armDead then s else armWrite t b d s := by
  obtain ⟨hrow, hdom, hblk, hmod, hix⟩ := lookup_arm b
  have hok : wordOk .BANK_ARM [b.val] d = true := by rcases hd with rfl | rfl | rfl <;> rfl
  have hl : s.legal (A.BANK_ARM b.val) d = true := by
    simp [State.legal, hrow, legalBits_writeOnly, hok, State.legalNow, hblk]
  have hbar : s.barred (A.BANK_ARM b.val) = s.armDead := by simp [State.barred, hrow]
  have hw : s.writeLegal t (A.BANK_ARM b.val) d = armWrite t b d s := by
    simp [State.writeLegal, hrow, State.addrOn, hdom, hblk, hmod, higher, State.writeBlock, State.afterStore, hix]
  simp only [State.writeWord, hbar, hl, ampClash_eq_self hrow nofun, hw, if_true]

theorem hostWordAt_of_hears {s : State} (hup : s.up = true) (hears : s.hears = true) (t a : Nat) (d : Word) :
    s.hostWordAt t a d = s.writeWord t a d := by
  unfold State.hostWordAt
  exact whenHost_of_hears hup hears _

theorem exec_armPrepare {s : State} (hup : s.up = true) (hears : s.hears = true) (b : Fin 8) :
    exec (.armPrepare b) s = .next (if s.armDead then s else s.modBank b (fun k => { k with prep := some s.clk.ticks })) := by
  change execArmPrepare b s = _
  rw [execArmPrepare, hostWord_of_hears hup hears, writeWord_arm b (Or.inl rfl)]
  unfold armWrite armPrepare
  rw [if_pos rfl]
  split <;> rfl

theorem exec_armComplete {s : State} (hup : s.up = true) (hears : s.hears = true) (at' : Fin 200) (b : Fin 8) :
    exec (.armComplete at' b) s = .next (if s.armDead then s else armComplete (s.clkAt at') b s) := by
  change execArmComplete at' b s = _
  rw [execArmComplete, hostWordAt_of_hears hup hears, writeWord_arm b (Or.inr (Or.inl rfl))]
  rfl

theorem exec_disarm {s : State} (hup : s.up = true) (hears : s.hears = true) (at' : Fin 200) (b : Fin 8) :
    exec (.disarm at' b) s = .next (if s.armDead then s else hostDisarm (s.clkAt at') b s) := by
  change execDisarm at' b s = _
  rw [execDisarm, hostWordAt_of_hears hup hears, writeWord_arm b (Or.inr (Or.inr rfl))]
  rfl

/-- On a synchronised standby the three writes have no effect, heard or not (R22, R432). -/
theorem hostWordAt_dead {s : State} (hn : s.armDead = true) (b : Fin 8) {d : Word} (hd : d = 0x00A5 ∨ d = 0x005A ∨ d = 0)
    (t : Nat) : s.hostWordAt t (A.BANK_ARM b.val) d = s := by
  unfold State.hostWordAt State.whenHost
  split
  · exact (writeWord_arm b hd t).trans (if_pos hn)
  · rfl

/-! ### What arming and disarming leave of the bank (R457, R458) -/

theorem raiseArm_event (s : State) (b : Fin 8) : eventBit (s.raiseArm b) (evBANK_CFG b) = true := raise_self _ _ _ _

theorem armSrc (b : Fin 8) : (evBANK_CFG b).src < 128 := by show 70 + 8 * b.val < 128; omega

theorem cutDlineCal_bank (s : State) (b : Fin 8) : (s.cutDlineCal b).bank = s.bank :=
  (only_of_forget (cutDlineCal_forget (raising { free := true, ops := true, hb := true }) s b (mayRaise_raising _) rfl rfl
    rfl)).bank rfl

theorem cutSelfTest_bank (s : State) (b : Fin 8) : (s.cutSelfTest b).bank = s.bank :=
  (only_of_forget (cutSelfTest_forget (raising { free := true, ops := true }) s b (mayRaise_raising _) rfl rfl)).bank rfl

theorem armComplete_spec {t : Nat} {b : Fin 8} {s : State} (hn : s.armDead = false) :
    ((armComplete t b s).bank[b]).armed = ((s.bank[b]).armed || s.armRefusal b == 0) ∧
      ((armComplete t b s).bank[b]).cause = s.armRefusal b ∧ ((armComplete t b s).bank[b]).prep = none ∧
      eventBit (armComplete t b s) (evBANK_CFG b) = true := by
  unfold armComplete
  rw [if_neg (by rw [hn]; decide)]
  extract_lets c s1 s2
  have h2 : s2.bank[b] = { (s.bank[b]) with prep := none, cause := c, armed := (s.bank[b]).armed || c == 0 } := by
    unfold s2
    rw [raiseArm_bank]
    unfold s1
    rw [modBank_get, if_pos rfl]
  have hc : s.armRefusal b = c := rfl
  rw [hc]
  by_cases h0 : c = 0
  · rw [if_pos h0]
    have hb : (((s2.cutDlineCal b).cutSelfTest b).redriveBank t b).bank[b] =
        { (s2.bank[b]) with blank := ((((s2.cutDlineCal b).cutSelfTest b).redriveBank t b).bank[b]).blank } := by
      have e := redriveBank_same ((s2.cutDlineCal b).cutSelfTest b) t b b
      rw [cutSelfTest_bank, cutDlineCal_bank] at e
      exact e
    rw [hb, h2]
    refine ⟨rfl, rfl, rfl, ?_⟩
    have hr : Rings s2 (((s2.cutDlineCal b).cutSelfTest b).redriveBank t b) :=
      redriveBank_rings (cutSelfTest_rings (cutDlineCal_rings (Rings.refl s2)))
    exact hr.event (armSrc b) (raiseArm_event s1 b)
  · rw [if_neg h0, h2]
    exact ⟨rfl, rfl, rfl, raiseArm_event s1 b⟩

/-- A bank that was armed shows the cause of its disarm, and the event of it (R458). -/
theorem disarm_armed {s : State} {t : Nat} {b : Fin 8} {c : Nat} {k : AxCause} (ha : (s.bank[b]).armed = true) :
    (∃ w, (s.disarm t b c k).bank[b] = { (s.bank[b]) with armed := false, cause := c, blank := w }) ∧
      eventBit (s.disarm t b c k) (evBANK_CFG b) = true := by
  unfold State.disarm
  extract_lets s1 s2
  have h1 : s1.bank = s.bank := by
    unfold s1
    rw [cutShuntCal_bank, each_bank _ _ (fun u x => stopAxis_bank u x k)]
  have h2 : (s2.raiseArm b).bank[b] = { (s.bank[b]) with armed := false, cause := c } := by
    rw [raiseArm_bank]
    unfold s2
    rw [modBank_get, if_pos rfl, h1]
  have ha1 : (s1.bank[b]).armed = true := by rw [h1]; exact ha
  rw [if_pos ha1]
  refine ⟨⟨(((s2.raiseArm b).redriveBank t b).bank[b]).blank, ?_⟩, ?_⟩
  · rw [redriveBank_same (s2.raiseArm b) t b b, h2]
  · exact (redriveBank_rings (Rings.refl (s2.raiseArm b))).event (armSrc b) (raiseArm_event s2 b)

theorem hostDisarm_spec {t : Nat} {b : Fin 8} {s : State} (hn : s.armDead = false) :
    ((hostDisarm t b s).bank[b]).armed = false ∧ ((hostDisarm t b s).bank[b]).cause = 1 ∧
      ((hostDisarm t b s).bank[b]).prep = none ∧ eventBit (hostDisarm t b s) (evBANK_CFG b) = true := by
  unfold hostDisarm
  rw [if_neg (by rw [hn]; decide)]
  extract_lets s1
  have h1 : s1.bank[b] = { (s.bank[b]) with prep := none } := by
    unfold s1
    rw [modBank_get, if_pos rfl]
  by_cases ha : (s1.bank[b]).armed = true
  · rw [if_pos ha]
    obtain ⟨⟨w, hw⟩, hev⟩ := disarm_armed (t := t) (c := 1) (k := .disarm) ha
    rw [hw, h1]
    exact ⟨rfl, rfl, rfl, hev⟩
  · rw [if_neg ha, cutShuntCal_bank, raiseArm_bank, modBank_get, if_pos rfl]
    refine ⟨by simpa using ha, rfl, by rw [h1], ?_⟩
    exact (cutShuntCal_rings (Rings.refl _)).event (armSrc b) (raiseArm_event _ b)

/-- With every interlock of Table SAFE-3 met an arm is not refused. -/
theorem armRefusal_none {s : State} {b : Fin 8} {n : Nat} (himg : s.img.active.isSome = true) (hdom : s.dom b.val = true)
    (hmain : s.pwr.st = .main) (hvd : (s.bank[b]).vdrvOk = true) (hvl : (s.bank[b]).vdrvLock = false)
    (hcp : s.cpBank b = true → (s.bank[b]).vcpOk = true ∧ (s.bank[b]).vcpLock = false) (hes : s.safe.estop = false)
    (hdev : s.safe.dev = false) (hwd : s.safe.wdRun = true) (hmech : s.safe.mech = .passed)
    (hdie : s.safe.dieOk.getLsbD (bankDie b).val = true) (hcv : (s.bank[b]).convFlt = false)
    (hprep : (s.bank[b]).prep = some n) (hage : s.clk.ticks - n ≤ 10000) : s.armRefusal b = 0 := by
  have himg' : s.img.active.isNone = false := by
    cases h : s.img.active with
    | none => rw [h] at himg; cases himg
    | some c => rfl
  have hcp' : (s.cpBank b && (!(s.bank[b]).vcpOk || (s.bank[b]).vcpLock)) = false := by
    cases h : s.cpBank b with
    | false => rfl
    | true => obtain ⟨h1, h2⟩ := hcp h; rw [h1, h2]; rfl
  have hmain' : (s.pwr.st != .main) = false := by rw [hmain]; rfl
  have hmech' : (s.safe.mech != .passed) = false := by rw [hmech]; rfl
  have hprepd : s.prepared b = true := by
    unfold State.prepared
    rw [hprep]
    exact decide_eq_true hage
  unfold State.armRefusal
  simp only [himg', hdom, hmain', hvd, hvl, hcp', hes, hdev, hwd, hmech', hdie, hcv, hprepd, Bool.not_true, Bool.or_self,
    Bool.false_eq_true, if_false]

/-- Settles O18: the three writes through their operations; the tests' end is judged while they run. -/
theorem armingABank : Obligations.ArmingABank := by
  unfold Obligations.ArmingABank
  refine ⟨fun s b hup hears hn => ⟨?_, ?_, fun at' href => ?_, fun at' => ?_⟩, fun s b at' hd => ⟨?_, ?_, ?_⟩,
    fun s failed hup => ⟨fun ht => ?_, fun ht => ?_⟩⟩
  · rw [exec_armPrepare hup hears, hn]
    rfl
  · intro at' n himg hdom hmain hvd hvl hcp hes hdev hwd hmech hdie hcv hprep hage
    have h0 := armRefusal_none himg hdom hmain hvd hvl hcp hes hdev hwd hmech hdie hcv hprep hage
    obtain ⟨h1, h2, h3, h4⟩ := armComplete_spec (t := s.clkAt at') (b := b) hn
    refine ⟨armComplete (s.clkAt at') b s, by rw [exec_armComplete hup hears, hn]; rfl, ?_, by rw [h2, h0], h3, h4⟩
    rw [h1, h0, beq_self_eq_true, Bool.or_true]
  · obtain ⟨h1, h2, h3, h4⟩ := armComplete_spec (t := s.clkAt at') (b := b) hn
    refine ⟨armComplete (s.clkAt at') b s, by rw [exec_armComplete hup hears, hn]; rfl, ?_, h2, h3, h4⟩
    rw [h1, beq_eq_false_iff_ne.mpr href, Bool.or_false]
  · exact ⟨hostDisarm (s.clkAt at') b s, by rw [exec_disarm hup hears, hn]; rfl, hostDisarm_spec hn⟩
  · exact congrArg Host.Outcome.next (hostWordAt_dead hd b (Or.inl rfl) _)
  · exact congrArg Host.Outcome.next (hostWordAt_dead hd b (Or.inr (Or.inl rfl)) _)
  · exact congrArg Host.Outcome.next (hostWordAt_dead hd b (Or.inr (Or.inr rfl)) _)
  · change execStartupTestDone failed s = _
    rw [execStartupTestDone, whenUp_of_up hup, if_pos ht]
    rfl
  · change execStartupTestDone failed s = _
    rw [execStartupTestDone, whenUp_of_up hup, if_neg ht]

end Sys2Proof.Proofs
end

section
/-! SUPPORT. Proofs of the PWM timers: the words that arm, start and stop them, their start edges and wraps, and what happens
within a period. -/
namespace Sys2Proof.Proofs
set_option Elab.async false
open Sys2Proof.Machine Sys2Proof.Safety Sys2Proof.Laws

/-! ### The PWM_RUN words (R162) -/

/-- The words of the device, its timers and its supplies are the same in both states. -/
structure RunKept (s t : State) : Prop where
  rd : ∀ a, t.rd a = s.rd a
  tim : t.tim = s.tim
  pwr : t.pwr = s.pwr

theorem RunKept.refl (s : State) : RunKept s s := ⟨fun _ => rfl, rfl, rfl⟩

theorem RunKept.trans {s t u : State} (h : RunKept s t) (h' : RunKept t u) : RunKept s u :=
  ⟨fun a => (h'.rd a).trans (h.rd a), h'.tim.trans h.tim, h'.pwr.trans h.pwr⟩

theorem RunKept.runSet {s t : State} (h : RunKept s t) (k : Fin 24) : t.runSet k = s.runSet k := by
  unfold State.runSet; rw [h.rd]

theorem runBit_lt (k : Fin 24) : runBit k < 16 := Nat.mod_lt _ (by decide)

theorem testBit_b2n (v : Bool) : (b2n v).testBit 0 = v := by cases v <;> rfl

/-- A bit of a word set to the value it has leaves the word. -/
theorem setField_bit_self (w : Word) (i : Nat) : setField w i i (b2n (bit w i)) = w := by
  refine BitVec.eq_of_getLsbD_eq (fun j hj => ?_)
  have h := bit_setField w (b2n (bit w i)) (Nat.le_refl i) hj
  rw [show (setField w i i (b2n (bit w i))).getLsbD j = _ from h]
  split
  · obtain rfl : i = j := by omega
    rw [Nat.sub_self, testBit_b2n]
    rfl
  · rfl

/-- A PWM_RUN bit written with the value it has changes nothing (R162). -/
theorem setRun_same {u : State} {x : Fin 24} {v : Bool} (a : Nat) (h : u.runSet x = v) : RunKept u (u.setRun a x v) := by
  unfold State.setRun
  rw [if_pos (Or.inl h)]
  refine ⟨fun b => ?_, rfl, rfl⟩
  rw [rd_wr]
  split
  · rename_i e
    rw [e, ← h]
    exact setField_bit_self _ _
  · rfl

theorem each_setRun_same {a : Nat} {d : Word} (l : List (Fin 24)) : ∀ u : State, (∀ x ∈ l, u.runSet x = bit d (runBit x)) →
    RunKept u (u.each l (fun s x => s.setRun a x (bit d (runBit x)))) := by
  induction l with
  | nil => exact fun u _ => RunKept.refl u
  | cons x xs ih =>
    intro u h
    have h1 := setRun_same a (h x List.mem_cons_self)
    exact h1.trans (ih _ (fun y hy => (h1.runSet y).trans (h y (List.mem_cons_of_mem _ hy))))

/-- The timers of the half of a PWM_RUN word. -/
def halfTimers (hi : Bool) : List (Fin 24) := (List.finRange 24).filter (fun x => decide (16 ≤ x.val) == hi)

theorem runWord_eq (t : Nat) (hi : Bool) (d : Word) (s : State) :
    runWord t hi d s = s.each (halfTimers hi) (fun s x => s.setRun t x (bit d (runBit x))) := rfl

theorem runBit_inj {x k : Fin 24} (hx : decide (16 ≤ x.val) = decide (16 ≤ k.val)) (h : runBit x = runBit k) : x = k := by
  unfold runBit at h
  apply Fin.ext
  have h1 := x.isLt
  have h2 := k.isLt
  have hx' : 16 ≤ x.val ↔ 16 ≤ k.val := decide_eq_decide.mp hx
  omega

theorem runAddr_eq_iff (x k : Fin 24) : runAddr x = runAddr k ↔ decide (16 ≤ x.val) = decide (16 ≤ k.val) := by
  unfold runAddr
  rw [decide_eq_decide]
  by_cases h1 : x.val < 16 <;> by_cases h2 : k.val < 16
  · simp only [h1, h2, if_true, true_iff]; omega
  · simp only [h1, h2, if_true, if_false]
    exact ⟨fun c => absurd c (by decide), fun c => absurd c (by omega)⟩
  · simp only [h1, h2, if_true, if_false]
    exact ⟨fun c => absurd c (by decide), fun c => absurd c (by omega)⟩
  · simp only [h1, h2, if_false, true_iff]; omega

/-- The word with the bit of one timer replaced has every other timer's bit as it was. -/
theorem runWordWith_bit (s : State) {k x : Fin 24} (v : Bool) (hx : decide (16 ≤ x.val) = decide (16 ≤ k.val)) :
    bit (s.runWordWith k v) (runBit x) = if x = k then v else s.runSet x := by
  unfold State.runWordWith
  rw [bit_setField _ _ (Nat.le_refl _) (runBit_lt x)]
  by_cases e : x = k
  · subst e
    rw [if_pos ⟨Nat.le_refl _, Nat.le_refl _⟩, if_pos rfl, Nat.sub_self, testBit_b2n]
  · rw [if_neg (fun c => e (runBit_inj hx (Nat.le_antisymm c.2 c.1))), if_neg e]
    unfold State.runSet
    rw [(runAddr_eq_iff x k).mpr hx]

theorem setRun_rd (u : State) (a : Nat) (k : Fin 24) (v : Bool) (b : Nat) : (u.setRun a k v).rd b =
    if b = runAddr k then u.runWordWith k v else u.rd b := by
  have h : (u.setRun a k v).regs = (u.wr (runAddr k) (u.runWordWith k v)).regs := by
    unfold State.setRun
    dsimp only
    split
    · rfl
    · split <;> rfl
  unfold State.rd
  rw [h]
  exact rd_wr _ _ _ _

theorem setRun_runSet (u : State) (a : Nat) (k x : Fin 24) (v : Bool) :
    (u.setRun a k v).runSet x = if x = k then v else u.runSet x := by
  by_cases hx : decide (16 ≤ x.val) = decide (16 ≤ k.val)
  · rw [← runWordWith_bit u v hx]
    unfold State.runSet
    rw [setRun_rd, if_pos ((runAddr_eq_iff x k).mpr hx)]
  · have hne : x ≠ k := fun c => hx (by rw [c])
    unfold State.runSet
    rw [setRun_rd, if_neg (fun c => hx ((runAddr_eq_iff x k).mp c)), if_neg hne]

/-- A PWM_RUN word that differs from the present one in the bit of one timer is the write of that bit (R162). -/
theorem runWord_one (t : Nat) (k : Fin 24) (v : Bool) (s : State) :
    ∃ b, RunKept s b ∧ RunKept (b.setRun t k v) (runWord t (decide (16 ≤ k.val)) (s.runWordWith k v) s) := by
  rw [runWord_eq]
  have hmem : ∀ x, x ∈ halfTimers (decide (16 ≤ k.val)) → decide (16 ≤ x.val) = decide (16 ≤ k.val) := by
    intro x hx
    exact beq_iff_eq.mp (List.mem_filter.mp hx).2
  have hk : k ∈ halfTimers (decide (16 ≤ k.val)) := List.mem_filter.mpr ⟨List.mem_finRange k, beq_self_eq_true _⟩
  have hnodup : (halfTimers (decide (16 ≤ k.val))).Nodup := (List.nodup_finRange 24).filter _
  generalize halfTimers (decide (16 ≤ k.val)) = l at hmem hk hnodup ⊢
  obtain ⟨lower, higher, rfl⟩ := List.append_of_mem hk
  rw [List.nodup_append, List.nodup_cons] at hnodup
  obtain ⟨-, ⟨hhigher, -⟩, hapart⟩ := hnodup
  have hlower : k ∉ lower := fun h => hapart k h k List.mem_cons_self rfl
  have hbit : ∀ x ∈ lower ++ k :: higher, bit (s.runWordWith k v) (runBit x) = if x = k then v else s.runSet x :=
    fun x hx => runWordWith_bit s v (hmem x hx)
  have hrun : ∀ (d : Word), s.each (lower ++ k :: higher) (fun s x => s.setRun t x (bit d (runBit x))) =
      ((s.each lower (fun s x => s.setRun t x (bit d (runBit x)))).setRun t k (bit d (runBit k))).each higher
        (fun s x => s.setRun t x (bit d (runBit x))) := by
    intro d
    simp only [State.each, List.foldl_append, List.foldl_cons]
  rw [hrun, hbit k hk, if_pos rfl]
  have h1 : RunKept s (s.each lower (fun s' x => s'.setRun t x (bit (s.runWordWith k v) (runBit x)))) := by
    refine each_setRun_same lower s (fun x hx => ?_)
    rw [hbit x (List.mem_append_left _ hx), if_neg (fun c => hlower (by rw [← c]; exact hx))]
  refine ⟨_, h1, each_setRun_same higher _ (fun x hx => ?_)⟩
  have hxk : x ≠ k := fun c => hhigher (by rw [← c]; exact hx)
  rw [setRun_runSet, if_neg hxk, h1.runSet, hbit x (List.mem_append_right _ (List.mem_cons_of_mem _ hx)), if_neg hxk]

theorem timOn_of_pwr {s t : State} (h : t.pwr = s.pwr) (k : Fin 24) : t.timOn k = s.timOn k := by
  unfold State.timOn State.dom; rw [h]

/-- What a PWM_RUN bit does to its timer (R162). -/
def runTimer (a : Nat) (v : Bool) (x : Timer) : Timer :=
  if v then (if x.run then { x with stopping := false } else { x with startAt := some (a + 4) })
  else (if x.run then { x with stopping := true } else { x with startAt := none })

theorem setRun_tim (u : State) (a : Nat) (k : Fin 24) (v : Bool) : (u.setRun a k v).tim =
    if u.runSet k = v ∨ u.timOn k = false then u.tim else (u.modTim k (runTimer a v)).tim := by
  unfold State.setRun
  extract_lets old w
  have hon : w.timOn k = u.timOn k := rfl
  have hold : old = u.runSet k := rfl
  rw [hon, hold]
  by_cases h : u.runSet k = v ∨ u.timOn k = false
  · rw [if_pos h, if_pos h]
    rfl
  · rw [if_neg h, if_neg h]
    cases v <;> rfl

/-- The word as a whole: the bit, the other bits and the timer. -/
theorem runWord_spec (t : Nat) (k : Fin 24) (v : Bool) (s : State) :
    ∀ u, u = runWord t (decide (16 ≤ k.val)) (s.runWordWith k v) s → u.runSet k = v ∧
      (∀ k' : Fin 24, k' ≠ k → u.runSet k' = s.runSet k') ∧ (s.runSet k = v → u.tim = s.tim) ∧
      (s.timOn k = false → u.tim = s.tim) ∧
      (s.runSet k = !v → s.timOn k = true → u.tim[k] = runTimer t v s.tim[k]) := by
  rintro u rfl
  obtain ⟨b, hb, hu⟩ := runWord_one t k v s
  have htim := hu.tim.trans (setRun_tim b t k v)
  rw [hb.runSet, timOn_of_pwr hb.pwr, hb.tim] at htim
  refine ⟨?_, fun k' hk' => ?_, fun h => ?_, fun h => ?_, fun h hon => ?_⟩
  · rw [hu.runSet, setRun_runSet, if_pos rfl]
  · rw [hu.runSet, setRun_runSet, if_neg hk', hb.runSet]
  · rw [htim, if_pos (Or.inl h)]
  · rw [htim, if_pos (Or.inr h)]
  · rw [htim, if_neg, modTim_get, if_pos rfl, hb.tim]
    rintro (c | c)
    · rw [h] at c; cases v <;> cases c
    · rw [hon] at c; cases c

theorem run_at (hi : Bool) : regAt (if hi then A.PWM_RUN_HI else A.PWM_RUN_LO) =
    some (if hi then .PWM_RUN_HI else .PWM_RUN_LO, []) ∧ domOfAddr (if hi then A.PWM_RUN_HI else A.PWM_RUN_LO) = none := by
  revert hi; decide +kernel

theorem runAddr_eq (k : Fin 24) : runAddr k = if decide (16 ≤ k.val) then A.PWM_RUN_HI else A.PWM_RUN_LO := by
  unfold runAddr
  by_cases h : k.val < 16
  · rw [if_pos h, if_neg (by simp [h])]
  · rw [if_neg h, if_pos (by simp; omega)]

/-- A PWM_RUN word that no LIMITS entry bounds starts and stops the timers its bits name (R162). -/
theorem writeWord_run {s : State} (k : Fin 24) {d : Word} (hlim : ∀ l ∈ s.limits, l.addr ≠ runAddr k)
    (hl : s.legal (runAddr k) d = true) (t : Nat) : s.writeWord t (runAddr k) d = runWord t (decide (16 ≤ k.val)) d s := by
  rw [runAddr_eq] at hlim hl ⊢
  generalize decide (16 ≤ k.val) = hi at hlim hl ⊢
  obtain ⟨hat, hdom⟩ := run_at hi
  obtain ⟨row, hrow, hreg⟩ := lookup_of_regAt hat
  have hne : row.reg ≠ .SAFE_WDCFG ∧ row.reg ≠ .BANK_ARM ∧ row.reg ≠ .AX_CMD ∧ higher row.reg [] = false := by
    rw [hreg]; cases hi <;> decide
  obtain ⟨h1, h2, h3, h4⟩ := hne
  rw [writeWord_core hrow h1 h2 h3 hdom h4 hl, hreg]
  cases hi with
  | false => exact bounded_free hlim row.fields d (runWord t false)
  | true => exact bounded_free hlim row.fields d (runWord t true)

theorem loadAll_tim (a : Nat) (hi : Bool) (d : Word) (s : State) (k : Fin 24) :
    (k ∉ wordTimers hi d → (loadAll a hi d s).tim[k] = s.tim[k]) ∧
      (k ∈ wordTimers hi d → s.timOn k = true → (loadAll a hi d s).tim[k] = armedTimer s a k ∧
        ((s.tim[k]).stage.isSome = true → eventBit (loadAll a hi d s) (evARM_REPLACED (axBank k)) = true ∧
          (loadAll a hi d s).rd (timAddr k 0x12) = w16 (satU ((s.rd (timAddr k 0x12)).toNat + 1)))) ∧
      (s.timOn k = false → (loadAll a hi d s).tim[k] = s.tim[k]) := by
  refine ⟨fun hk => (TimerKept.armEach a hk s).tim, fun hk hon => ?_, fun hoff => ?_⟩
  · obtain ⟨b, hb, ha, hr⟩ := loadAll_split hk a s
    have hbon : b.timOn k = true := hb.supply.trans hon
    cases hst : (s.tim[k]).stage with
    | none =>
      refine ⟨?_, fun c => by cases c⟩
      rw [ha.tim, armTimer_first b a k hbon (by rw [hb.tim, hst]), modTim_get, if_pos rfl, hb.armedTimer]
    | some g =>
      obtain ⟨h1, h2, h3⟩ := armTimer_replaces b a k hbon (by rw [hb.tim, hst]; rfl)
      refine ⟨by rw [ha.tim, h1, hb.armedTimer], fun _ => ⟨hr.event (evARM_REPLACED_lt _) h3, ?_⟩⟩
      rw [ha.words 0x12 (by decide), h2, hb.words 0x12 (by decide)]
  · by_cases hk : k ∈ wordTimers hi d
    · obtain ⟨b, hb, ha, _⟩ := loadAll_split hk a s
      rw [ha.tim, armTimer_off b a k (hb.supply.trans hoff), hb.tim]
    · exact (TimerKept.armEach a hk s).tim

/-- Settles O20: the arms of the word's timers by the lemmas of the stage; a word with one bit changed as the write of that
bit. -/
theorem armAndRunTimers : Obligations.ArmAndRunTimers := by
  unfold Obligations.ArmAndRunTimers
  refine ⟨fun s at' hi d hup hears hl => ⟨_, exec_loadAll hup hears hl at', fun k => (loadAll_tim _ hi d s k).1,
    fun k => (loadAll_tim _ hi d s k).2.1, fun k => (loadAll_tim _ hi d s k).2.2⟩,
    fun s at' k hup hears hlim => ⟨fun hl => ?_, fun hl => ?_⟩⟩
  · obtain ⟨h1, h2, h3, h4, h5⟩ := runWord_spec (s.clkAt at') k true s _ rfl
    refine ⟨_, ?_, h1, h2, h3, h4, fun h hon hr => ?_, fun h hon hr => ?_⟩
    · change execTimerStart at' k s = _
      rw [execTimerStart, hostWordAt_of_hears hup hears, writeWord_run k hlim hl]
    · rw [h5 h hon, runTimer, if_pos rfl, if_neg (by rw [hr]; decide)]
    · rw [h5 h hon, runTimer, if_pos rfl, if_pos hr]
  · obtain ⟨h1, h2, h3, h4, h5⟩ := runWord_spec (s.clkAt at') k false s _ rfl
    refine ⟨_, ?_, h1, h2, h3, h4, fun h hon hr => ?_, fun h hon hr => ?_⟩
    · change execTimerStop at' k s = _
      rw [execTimerStop, hostWordAt_of_hears hup hears, writeWord_run k hlim hl]
    · rw [h5 h hon, runTimer, if_neg (by decide), if_neg (by rw [hr]; decide)]
    · rw [h5 h hon, runTimer, if_neg (by decide), if_pos hr]

end Sys2Proof.Proofs
end

section
/-! SUPPORT. Proofs of the period boundaries of a timer: start edges and wraps. -/
namespace Sys2Proof.Proofs
set_option Elab.async false
open Sys2Proof.Machine Sys2Proof.Safety Sys2Proof.Laws

/-! ### The words in effect (R159, R161) -/

theorem takeFrame_period (act : Vector Word 16) (w : List Word) : (takeFrame act w)[1] = w[1]?.getD 0 := by
  unfold takeFrame
  rw [Vector.getElem_ofFn]
  rfl

theorem takeCompare_period (act : Vector Word 16) (w : List Word) : (takeCompare act w)[1] = act[1] := by
  unfold takeCompare
  rw [Vector.getElem_ofFn]
  rfl

theorem takeDirect_period (x : Timer) (t : Nat) : (takeDirect x t)[1] = x.act[1] := by
  unfold takeDirect
  rw [Vector.getElem_ofFn]
  rfl

/-! ### Timers through the parts of a boundary -/

theorem freeHbs_tim (s : State) (k : Fin 24) : (s.freeHbs k).tim = s.tim :=
  each_keeps State.tim (f := fun s h => s.modHb h (fun x => { x with back := none, limit := none })) (fun _ _ => rfl) _ s

theorem trigAt_tim (s : State) (dk di w : Nat) : (s.trigAt dk di w).tim = s.tim := by
  unfold State.trigAt
  split
  · rfl
  · split
    · rfl
    · split <;> rfl

theorem trig_tim (s : State) (sk si w : Nat) : (s.trig sk si w).tim = s.tim :=
  each_keeps State.tim (f := fun (s : State) (p : Nat × Nat) => s.trigAt p.1 p.2 w) (fun u p => trigAt_tim u p.1 p.2 w) _ s

/-- Another timer is left alone. -/
theorem modTim_other (s : State) {k k' : Fin 24} (n : k' ≠ k) (f : Timer → Timer) : (s.modTim k f).tim[k'] = s.tim[k'] := by
  rw [modTim_get, if_neg (fun c => n c.symm)]

/-- The table that a timer takes at a boundary changes its table and its maps alone (R169). -/
theorem takeTable_tim (s : State) (k : Fin 24) : (∃ g m, (s.takeTable k).tim[k] = { s.tim[k] with tbl := g, map := m }) ∧
    ∀ k' : Fin 24, k' ≠ k → (s.takeTable k).tim[k'] = s.tim[k'] := by
  unfold State.takeTable
  dsimp only
  split
  · refine ⟨⟨_, _, by rw [modTim_get, if_pos rfl]⟩, fun k' n => modTim_other _ n _⟩
  · exact ⟨⟨_, _, rfl⟩, fun _ _ => rfl⟩

theorem lineOf_tim (s : State) (k : Fin 24) (r : Fin 3) : (s.lineOf k r).1.tim = s.tim := by
  unfold State.lineOf
  dsimp only
  split
  · split <;> rfl
  · rfl

/-- The plan of one channel changes the channels of its timer alone. -/
theorem planChannel_tim (s : State) (k : Fin 24) (c : Vector Chan 3) (a n : Nat) :
    ((s.modTim k (fun x => { x with ch := c })).satAdd a n).tim[k] = { s.tim[k] with ch := c } ∧
      ∀ k' : Fin 24, k' ≠ k → ((s.modTim k (fun x => { x with ch := c })).satAdd a n).tim[k'] = s.tim[k'] := by
  have h : ((s.modTim k (fun x => { x with ch := c })).satAdd a n).tim = (s.modTim k (fun x => { x with ch := c })).tim := rfl
  rw [h]
  exact ⟨by rw [modTim_get, if_pos rfl], fun k' n => modTim_other _ n _⟩

/-- Only the channels of timer `k` differ. -/
def PlanOf (k : Fin 24) (s t : State) : Prop :=
  (∃ c, t.tim[k] = { s.tim[k] with ch := c }) ∧ ∀ k' : Fin 24, k' ≠ k → t.tim[k'] = s.tim[k']

theorem PlanOf.trans {k : Fin 24} {s t u : State} (h : PlanOf k s t) (h' : PlanOf k t u) : PlanOf k s u := by
  obtain ⟨⟨c, hc⟩, ho⟩ := h
  obtain ⟨⟨c', hc'⟩, ho'⟩ := h'
  exact ⟨⟨c', by rw [hc', hc]⟩, fun k' n => (ho' k' n).trans (ho k' n)⟩

theorem each_plan {k : Fin 24} {f : State → Fin 3 → State} (hf : ∀ u r, PlanOf k u (f u r)) (l : List (Fin 3)) :
    ∀ s : State, PlanOf k s (s.each l f) := by
  induction l with
  | nil => exact fun s => ⟨⟨_, rfl⟩, fun _ _ => rfl⟩
  | cons r rs ih => exact fun s => (hf s r).trans (ih (f s r))

/-- The step of `beginPeriod` that plans one channel (R155 to R171). -/
def planRole (k : Fin 24) (w : Nat) (act : Vector Word 16) (start boot dith : Bool) (s : State) (r : Fin 3) : State :=
  match s.lineOf k r with
  | (s, carries) =>
    let x := s.tim[k]
    let (c, n) := x.ch[r].begin act r w x.phase x.map[r] dith carries start boot (s.chAbove k r)
    (s.modTim k (fun x => { x with ch := x.ch.set r c })).satAdd (timAddr k 0x13) n

theorem planRole_plan (k : Fin 24) (w : Nat) (act : Vector Word 16) (start boot dith : Bool) (s : State) (r : Fin 3) :
    PlanOf k s (planRole k w act start boot dith s r) := by
  have hl := lineOf_tim s k r
  unfold planRole
  cases hv : s.lineOf k r with
  | mk v carries =>
    have hl' : v.tim = s.tim := by rw [hv] at hl; exact hl
    dsimp only
    have hp := planChannel_tim v k
    exact ⟨⟨_, (hp _ _ _).1.trans (by rw [hl'])⟩, fun k' n => ((hp _ _ _).2 k' n).trans (by rw [hl'])⟩

/-- What the begin of a period at `w` with the words `act` makes of a timer, but for its table and its channels. -/
def Begun (w : Nat) (act : Vector Word 16) (start : Bool) (x y : Timer) : Prop :=
  ∃ g m c, y = { x with
    act := act, base := w, phase := if start then 0 else (x.phase + 1) % 16, fired := 0
    ctl := x.ctl.settle w, force := x.force.settle w, ref := x.ref.settle w, tbl := g, map := m, ch := c }

/-- What the begin of a period sets in its timer, and that it leaves the others (R155, R162, R168). -/
theorem beginPeriod_tim (s : State) (k : Fin 24) (w : Nat) (act : Vector Word 16) (start : Bool) :
    Begun w act start s.tim[k] (s.beginPeriod k w act start).tim[k] ∧
    ∀ k' : Fin 24, k' ≠ k → (s.beginPeriod k w act start).tim[k'] = s.tim[k'] := by
  obtain ⟨⟨g, m, hg⟩, ho⟩ := takeTable_tim s k
  unfold State.beginPeriod
  extract_lets boot dith s1
  obtain ⟨⟨c, hc⟩, hco⟩ := each_plan (planRole_plan k w act start boot dith) (List.finRange 3) s1
  refine ⟨⟨g, m, c, hc.trans ?_⟩, fun k' n => (hco k' n).trans ?_⟩
  · unfold s1
    rw [modTim_get, if_pos rfl, hg]
  · unfold s1
    rw [modTim_other _ n, ho k' n]

/-! ### The transfers of a wrap (R159) -/

/-- A write of the axis logic that a transfer takes leaves the period (R161). -/
theorem laterCompare_period (act : Vector Word 16) (axis : Bool) (ws : Option (List Word)) :
    (if axis then match ws with
      | none => act
      | some l => takeCompare act l
      else act)[1] = act[1] := by
  cases axis
  · rfl
  · cases ws with
    | none => rfl
    | some l => exact takeCompare_period act l

theorem transfer_period_of_ripe (x : Timer) {g : Stage} {w : Nat} (hg : x.stage = some g) (h : g.at' + 4 ≤ w) :
    (x.transfer w).stage = none ∧ (x.transfer w).act[1] = g.words[1]?.getD 0 := by
  unfold Timer.transfer
  rw [hg]
  simp only [if_pos h, true_and]
  refine (laterCompare_period _ _ _).trans ?_
  split
  · rw [takeCompare_period, takeFrame_period]
  · rw [takeFrame_period]

theorem transfer_period_of_young (x : Timer) {g : Stage} {w : Nat} (hg : x.stage = some g) (h : w < g.at' + 4) :
    (x.transfer w).stage = some g ∧ (x.transfer w).act[1] = x.act[1] := by
  unfold Timer.transfer
  rw [hg]
  simp only [if_neg (Nat.not_le.mpr h), true_and]
  exact (laterCompare_period _ _ _).trans (takeDirect_period x w)

theorem transfer_keeps (x : Timer) (w : Nat) : (x.transfer w).run = x.run ∧ (x.transfer w).phase = x.phase := ⟨rfl, rfl⟩

/-! ### Start edges and wraps -/

/-- A part of a boundary that turns timer `k` from `x` to `y` and leaves the others. -/
def Turns (k : Fin 24) (s t : State) (f : Timer → Timer) : Prop :=
  t.tim[k] = f s.tim[k] ∧ ∀ k' : Fin 24, k' ≠ k → t.tim[k'] = s.tim[k']

theorem freeThen_turns (s : State) (k : Fin 24) (f : Timer → Timer) : Turns k s ((s.freeHbs k).modTim k f) f := by
  constructor
  · rw [modTim_get, if_pos rfl, freeHbs_tim]
  · intro k' n
    rw [modTim_other _ n, freeHbs_tim]

/-- The period that a start edge takes is the one its shadow gives (R162). -/
theorem shadows_period (s : State) (k : Fin 24) : (s.shadows k)[1]?.getD 0 = s.rd (timAddr k 1) := rfl

/-- A start edge runs its timer from `e` on with the period of its shadow and leaves the other timers (R153, R162). -/
theorem startEdge_tim (s : State) (k : Fin 24) (e : Nat) :
    (∃ act x, act[1] = s.rd (timAddr k 1) ∧ x.run = true ∧ x.stopping = false ∧ x.startAt = none ∧ x.stage = none ∧
      Begun e act true x (s.startEdge k e).tim[k]) ∧
    ∀ k' : Fin 24, k' ≠ k → (s.startEdge k e).tim[k'] = s.tim[k'] := by
  unfold State.startEdge
  extract_lets x act0 act s1
  have hact : act[1] = s.rd (timAddr k 1) := by
    unfold act act0
    cases srcAxis (takeFrame (takeDirect x e) (s.shadows k))
    · simpa [takeFrame_period, takeCompare_period] using shadows_period s k
    · cases x.ripe e <;> simpa [takeFrame_period, takeCompare_period] using shadows_period s k
  obtain ⟨hself, hother⟩ := freeThen_turns s k (fun x =>
    { x with run := true, stopping := false, startAt := none, stage := none, cmpStage := x.unripe e (srcAxis act) })
  obtain ⟨hb, hbo⟩ := beginPeriod_tim s1 k e act true
  rw [trig_tim]
  exact ⟨⟨act, s1.tim[k], hact, by rw [hself], by rw [hself], by rw [hself], by rw [hself], hb⟩,
    fun k' n => (hbo k' n).trans (hother k' n)⟩

/-- A wrap of a timer that does not stop begins a period with the words that the transfers give (R159). -/
theorem wrap_tim (s : State) (k : Fin 24) (w : Nat) (hs : (s.tim[k]).stopping = false) :
    Begun w (s.tim[k].transfer w).act false (s.tim[k].transfer w) (s.wrap k w).tim[k] ∧
    ∀ k' : Fin 24, k' ≠ k → (s.wrap k w).tim[k'] = s.tim[k'] := by
  obtain ⟨hself, hother⟩ := freeThen_turns s k (fun x => x.transfer w)
  unfold State.wrap
  extract_lets st s1 act s2
  have h2 : s2 = s1.beginPeriod k w act false := if_neg (by unfold st; rw [hs]; simp)
  obtain ⟨hb, hbo⟩ := beginPeriod_tim s1 k w act false
  have hact : act = (s.tim[k].transfer w).act := congrArg Timer.act hself
  rw [trig_tim, h2]
  rw [hact] at hb ⊢
  rw [show s1.tim[k] = s.tim[k].transfer w from hself] at hb
  exact ⟨hb, fun k' n => (hact ▸ hbo k' n).trans (hother k' n)⟩

/-- A wrap of a timer that stops leaves it stopped, each of its channels at phase Hi-Z (R162). -/
theorem wrap_stops (s : State) (k : Fin 24) (w : Nat) (hs : (s.tim[k]).stopping = true) :
    ((s.wrap k w).tim[k]).run = false ∧ ((s.wrap k w).tim[k]).stopping = false ∧
      ((s.wrap k w).tim[k]).phase = ((s.tim[k]).phase + 1) % 16 ∧
      (∀ r : Fin 3, (((s.wrap k w).tim[k]).ch[r]).cmd = .hiz ∧ (((s.wrap k w).tim[k]).ch[r]).fallAt = none) ∧
    ∀ k' : Fin 24, k' ≠ k → (s.wrap k w).tim[k'] = s.tim[k'] := by
  obtain ⟨hself, hother⟩ := freeThen_turns s k (fun x => x.transfer w)
  unfold State.wrap
  extract_lets st s1 act s2
  obtain ⟨⟨g, m, hg⟩, hgo⟩ := takeTable_tim s1 k
  have hs1 : s1.tim[k] = s.tim[k].transfer w := hself
  have h2 : s2 = _ := if_pos (by unfold st; rw [hs])
  rw [trig_tim, h2]
  refine ⟨?_, ?_, ?_, fun r => ?_, fun k' n => ?_⟩
  · rw [modTim_get, if_pos rfl]
  · rw [modTim_get, if_pos rfl]
  · rw [modTim_get, if_pos rfl, hg, hs1]
    rfl
  · rw [modTim_get, if_pos rfl]
    simp [Vector.getElem_ofFn, Chan.stopped]
  · rw [modTim_other _ n, hgo k' n]
    exact hother k' n

/-- Settles O21: the start edge, the wrap that begins a period, the wrap that stops the timer, and the boundaries not due. -/
theorem periodBoundaries : Obligations.PeriodBoundaries := by
  intro s k
  refine ⟨fun e he hlt => ?_, fun hrun hdue hst => ?_, fun hrun hdue hst => ?_, fun hnot => ?_, fun hnot => ?_⟩
  · obtain ⟨⟨act, x, hact, hrun, hstop, hat', hstage, g, m, c, hb⟩, ho⟩ := startEdge_tim s k e
    refine ⟨s.startEdge k e, ?_, ?_⟩
    · change execStartEdge k s = _
      simp only [execStartEdge, he, if_pos hlt]
    · rw [hb]
      exact ⟨hrun, hat', hstop, rfl, rfl, hstage, hact, ho⟩
  · obtain ⟨⟨g, m, c, hb⟩, ho⟩ := wrap_tim s k (s.tim[k]).nextWrap hst
    refine ⟨s.wrap k (s.tim[k]).nextWrap, ?_, ?_⟩
    · change execTimerWrap k s = _
      rw [execTimerWrap, if_pos ⟨hrun, hdue⟩]
    · rw [hb]
      exact ⟨hrun, rfl, rfl, rfl, fun g' hg' hr => transfer_period_of_ripe _ hg' hr,
        fun g' hg' hr => transfer_period_of_young _ hg' hr, ho⟩
  · refine ⟨s.wrap k (s.tim[k]).nextWrap, ?_, wrap_stops s k _ hst⟩
    change execTimerWrap k s = _
    rw [execTimerWrap, if_pos ⟨hrun, hdue⟩]
  · change execStartEdge k s = _
    unfold execStartEdge
    cases he : (s.tim[k]).startAt with
    | none => rfl
    | some e => simp only [if_neg (Nat.not_lt.mpr (hnot e he))]
  · change execTimerWrap k s = _
    rw [execTimerWrap, if_neg]
    rintro ⟨hrun, hdue⟩
    rcases hnot with h | h
    · exact absurd (hrun.symm.trans h) (by decide)
    · omega

end Sys2Proof.Proofs
end

section
/-! SUPPORT. Proofs of what happens within a period of a timer, and of the calibration cycle of a replica line. -/
namespace Sys2Proof.Proofs
set_option Elab.async false
open Sys2Proof.Machine Sys2Proof.Safety Sys2Proof.Laws

/-! ### One channel of a timer (R155, R163) -/

theorem modChan_ch (s : State) (k : Fin 24) (r : Fin 3) (f : Chan → Chan) :
    ((s.modTim k (fun x => { x with ch := x.ch.set r (f x.ch[r]) })).tim[k]).ch[r] = f (s.tim[k]).ch[r] ∧
      ∀ r' : Fin 3, r' ≠ r →
        ((s.modTim k (fun x => { x with ch := x.ch.set r (f x.ch[r]) })).tim[k]).ch[r'] = (s.tim[k]).ch[r'] := by
  rw [modTim_get, if_pos rfl]
  exact ⟨Vector.getElem_set_self _, fun r' n => Vector.getElem_set_ne r.isLt r'.isLt (fun c => n (Fin.ext c.symm))⟩

/-! ### Trigger compares (R173) -/

theorem trigAt_land (s : State) (d : Fin 4) (w : Nat) : (s.trigAt 3 d.val w).lands.trgo[d] = some w := by
  unfold State.trigAt
  rw [dif_neg (by omega), dif_neg (by omega), dif_pos ⟨rfl, d.isLt⟩]
  exact Vector.getElem_set_self _

theorem trigAt_land_stays (s : State) (p : Nat × Nat) (d : Fin 4) {w : Nat} (h : s.lands.trgo[d] = some w) :
    (s.trigAt p.1 p.2 w).lands.trgo[d] = some w := by
  unfold State.trigAt
  split
  · exact h
  · split
    · exact h
    · split
      next hp =>
        by_cases hd : p.2 = d.val
        · simp [hd]
        · exact (Vector.getElem_set_ne hp.2 d.isLt hd).trans h
      · exact h

/-- The starts that wait for the converter of an axis. -/
def convDue (a : Fin 24) (s : State) : Nat := ((s.bank[axBank a]).conv[axSlot a]).due

theorem modConv_due (s : State) (c a : Fin 24) :
    convDue a (s.modConv c (fun v => { v with due := v.due + 1 })) = if c = a then convDue a s + 1 else convDue a s := by
  unfold convDue State.modConv
  rw [modBank_get]
  by_cases hb : axBank c = axBank a
  · rw [if_pos hb]
    by_cases hc : c = a
    · subst hc
      rw [if_pos rfl]
      simp
    · have hs : (axSlot c).val ≠ (axSlot a).val := by
        intro h
        have hv : c.val / 3 = a.val / 3 := congrArg Fin.val hb
        have hm : c.val % 3 = a.val % 3 := h
        exact hc (Fin.ext (by omega))
      rw [if_neg hc, hb]
      exact congrArg Conv.due (Vector.getElem_set_ne (axSlot c).isLt (axSlot a).isLt hs)
  · rw [if_neg hb, if_neg (fun c => hb (by rw [c]))]

theorem trigAt_conv (s : State) (a : Fin 24) (w : Nat) : convDue a (s.trigAt 1 a.val w) = convDue a s + 1 := by
  unfold State.trigAt
  rw [dif_pos ⟨rfl, a.isLt⟩, modConv_due, if_pos rfl]

theorem trigAt_conv_grows (s : State) (p : Nat × Nat) (a : Fin 24) (w : Nat) : convDue a s ≤ convDue a (s.trigAt p.1 p.2 w) := by
  unfold State.trigAt
  split
  · rw [modConv_due]
    split <;> omega
  · split
    · exact Nat.le_refl _
    · split <;> exact Nat.le_refl _

theorem trigAt_ax (s : State) (a : Fin 24) (w : Nat) :
    ((s.trigAt 2 a.val w).ax[a]).tickDue = (s.ax[a]).tickDue + 1 := by
  unfold State.trigAt
  rw [dif_neg (by omega), dif_pos ⟨rfl, a.isLt⟩, modAx_get, if_pos rfl]

theorem trigAt_ax_grows (s : State) (p : Nat × Nat) (a : Fin 24) (w : Nat) :
    (s.ax[a]).tickDue ≤ ((s.trigAt p.1 p.2 w).ax[a]).tickDue := by
  unfold State.trigAt
  split
  · exact Nat.le_refl _
  · split
    · rw [modAx_get]
      split
      next h => rw [← h]; exact Nat.le_succ _
      · exact Nat.le_refl _
    · split <;> exact Nat.le_refl _

/-- A count that no step of a series lowers and one step raises is raised by the series. -/
theorem each_raises {α : Type} (g : State → Nat) {f : State → α → State} (grows : ∀ u y, g u ≤ g (f u y)) {x : α}
    (lifts : ∀ u, g u < g (f u x)) {l : List α} (hx : x ∈ l) (s : State) : g s < g (s.each l f) :=
  each_makes (I := fun u => g s ≤ g u) (P := fun u => g s < g u) (fun u y h => Nat.le_trans h (grows u y))
    (fun u y _ h => Nat.lt_of_lt_of_le h (grows u y)) (fun u h => Nat.lt_of_le_of_lt h (lifts u)) hx (Nat.le_refl _)

/-- An event of a crossbar source pulses the lands, starts the converters and the loops that are routed to it (R57, R173). -/
theorem trig_reaches (s : State) (sk si w : Nat) :
    (∀ d : Fin 4, (3, d.val) ∈ s.routedFrom sk si → (s.trig sk si w).lands.trgo[d] = some w) ∧
    ∀ a : Fin 24, ((1, a.val) ∈ s.routedFrom sk si → convDue a s < convDue a (s.trig sk si w)) ∧
      ((2, a.val) ∈ s.routedFrom sk si → (s.ax[a]).tickDue < ((s.trig sk si w).ax[a]).tickDue) := by
  refine ⟨fun d hd => ?_, fun a => ⟨fun ha => ?_, fun ha => ?_⟩⟩
  · exact each_makes (f := fun (u : State) (p : Nat × Nat) => u.trigAt p.1 p.2 w) (I := fun _ => True)
      (P := fun u => u.lands.trgo[d] = some w) (fun _ _ _ => trivial) (fun u p _ h => trigAt_land_stays u p d h)
      (fun u _ => trigAt_land u d w) hd trivial
  · exact each_raises (convDue a) (f := fun (u : State) (p : Nat × Nat) => u.trigAt p.1 p.2 w)
      (fun u p => trigAt_conv_grows u p a w) (fun u => by rw [trigAt_conv]; omega) ha s
  · exact each_raises (fun u => (u.ax[a]).tickDue) (f := fun (u : State) (p : Nat × Nat) => u.trigAt p.1 p.2 w)
      (fun u p => trigAt_ax_grows u p a w) (fun u => by rw [trigAt_ax]; omega) ha s

theorem natBit_add_pow {x n : Nat} (h : natBit x n = false) : natBit (x + 2 ^ n) n = true := by
  unfold natBit at h ⊢
  have hp : 0 < 2 ^ n := Nat.two_pow_pos n
  rw [Nat.add_div_right _ hp]
  simp only [beq_eq_false_iff_ne, beq_iff_eq] at h ⊢
  omega

/-! ### The calibration cycle (R169, R178) -/

theorem rd_wrs_at (l : List Word) : ∀ (s : State) (a i : Nat) (hi : i < l.length), (s.wrs a l).rd (a + i) = l[i] := by
  induction l with
  | nil => exact fun _ _ _ hi => absurd hi (Nat.not_lt_zero _)
  | cons v vs ih =>
    intro s a i hi
    cases i with
    | zero => rw [State.wrs, rd_wrs _ _ _ _ (Or.inl (by omega)), rd_wr, if_pos (Nat.add_zero a)]; rfl
    | succ j =>
      rw [State.wrs, show a + (j + 1) = a + 1 + j by omega, ih _ _ _ (by simpa using hi)]
      rfl

/-- Flags set in a word leave the others. -/
theorem setFlags_rd (s : State) {a c : Nat} (h : c ≠ a) {m : Word} : (s.setFlags a m).rd c = s.rd c := by
  show (s.wr a (s.rd a ||| m)).rd c = _
  rw [rd_wr, if_neg h]

theorem wrs_bank (l : List Word) : ∀ (s : State) (a : Nat), (s.wrs a l).bank = s.bank := by
  induction l with
  | nil => exact fun _ _ => rfl
  | cons v vs ih => exact fun s a => ih (s.wr a v) (a + 1)

/-- A rounding takes at most a free value. -/
theorem round_rd (s : State) (x : Rat) (a : Nat) : (s.round x).1.rd a = s.rd a ∧ (s.round x).1.bank = s.bank := by
  unfold State.round
  dsimp only
  split <;> exact ⟨rfl, rfl⟩

/-- The maps of the live lines change no word, and of their bank the maps alone (R169). -/
theorem lineMaps_keeps (s : State) (b : Fin 8) (taps : List (BitVec 6)) :
    (∀ a, (s.lineMaps b taps).rd a = s.rd a) ∧ ((s.lineMaps b taps).bank[b]).dlcGen = (s.bank[b]).dlcGen := by
  have hstep : ∀ (u : State) (h : Fin 72), ∃ (v : State) (y : Bank → Vector (List Nat) 9), (v.rd = u.rd ∧ v.bank = u.bank) ∧
      (match u.round ((sInt (u.hb[h].dlcOfs.getD (Config.dlcTrim h.val)) : Rat) / 16) with
        | (s, k) => s.modBank b (fun y => { y with dlcMap := y.dlcMap.set (hbIn h) ((List.range 64).map (lineTap taps k)) })) =
      v.modBank b (fun x => { x with dlcMap := y x }) := by
    intro u h
    refine ⟨_, fun x => x.dlcMap.set (hbIn h) ((List.range 64).map (lineTap taps _)), ⟨?_, ?_⟩, rfl⟩
    · exact funext fun a => (round_rd u _ a).1
    · exact (round_rd u _ 0).2
  constructor
  · intro a
    refine each_keeps (fun u => u.rd a) (fun u h => ?_) _ s
    obtain ⟨v, y, ⟨hr, _⟩, hv⟩ := hstep u h
    exact (congrArg (fun w : State => w.rd a) hv).trans (congrFun hr a)
  · refine each_keeps (fun u => (u.bank[b]).dlcGen) (fun u h => ?_) _ s
    obtain ⟨v, y, ⟨_, hb⟩, hv⟩ := hstep u h
    refine (congrArg (fun w : State => (w.bank[b]).dlcGen) hv).trans ?_
    rw [modBank_get, if_pos rfl, hb]

/-- A calibration cycle that is due runs (R178). -/
theorem exec_dlcCalCycle {s : State} {b : Fin 8} (ok : Bool) (bias : Byte) (tapdly : Word) (taps : List (BitVec 6))
    (hon : s.dom b.val = true) (hbg : bit (s.rd (A.DLC_CTL b.val)) 0 = true)
    (hdue : ∀ n, (s.bank[b]).dlcCyc = some n → 1000 ≤ s.clk.ticks - n) :
    exec (.dlcCalCycle b ok bias tapdly taps) s = .next (dlcCycle b ok bias tapdly taps s) := by
  change execDlcCalCycle b ok bias tapdly taps s = _
  unfold execDlcCalCycle
  rw [hon, hbg]
  cases hc : (s.bank[b]).dlcCyc with
  | none => rfl
  | some n => simp only [decide_eq_true (hdue n hc), Bool.and_self, if_true]

/-- A cycle that succeeds writes its table, makes it valid and counts its generation (R169). -/
theorem dlcCycle_good (s : State) (b : Fin 8) (bias : Byte) (tapdly : Word) (taps : List (BitVec 6)) :
    (dlcCycle b true bias tapdly taps s).rd (A.DLC_BIAS b.val) = w16 bias.toNat ∧
      (dlcCycle b true bias tapdly taps s).rd (A.DLC_TAPDLY b.val) = tapdly ∧
      ((dlcCycle b true bias tapdly taps s).bank[b]).dlcValid = true ∧
      ((dlcCycle b true bias tapdly taps s).bank[b]).dlcGen = ((s.bank[b]).dlcGen + 1) % 256 ∧
      ∀ i, i < 64 → (dlcCycle b true bias tapdly taps s).rd (A.DLC_TBL b.val i) = w16 ((taps[i]?.getD 0).toNat) := by
  unfold dlcCycle
  extract_lets s1 s2 s3 s4
  obtain ⟨hrd, hgen⟩ := lineMaps_keeps s3 b taps
  rw [if_pos rfl]
  have hlen : ((List.range 64).map (fun i => w16 ((taps[i]?.getD 0).toNat))).length = 64 := by simp
  refine ⟨?_, ?_, ?_, ?_, fun i hi => ?_⟩
  · rw [modBank_rd, hrd, rd_wrs _ _ _ _ (Or.inl (by unfold A.DLC_BIAS A.DLC_TBL; omega)), rd_wr,
      if_neg (by unfold A.DLC_BIAS A.DLC_TAPDLY; omega), rd_wr, if_pos rfl]
  · rw [modBank_rd, hrd, rd_wrs _ _ _ _ (Or.inl (by unfold A.DLC_TAPDLY A.DLC_TBL; omega)), rd_wr, if_pos rfl]
  · rw [modBank_get, if_pos rfl]
  · rw [modBank_get, if_pos rfl]
    have h3 : s3.bank = s1.bank := wrs_bank _ _ _
    have h1 : (s1.bank[b]).dlcGen = (s.bank[b]).dlcGen := by
      unfold s1
      rw [modBank_get, if_pos rfl]
    show ((s4.bank[b]).dlcGen + 1) % 256 = _
    rw [hgen, h3, h1]
  · rw [modBank_rd, hrd, show A.DLC_TBL b.val i = A.DLC_TBL b.val 0 + i by unfold A.DLC_TBL; omega,
      rd_wrs_at _ _ _ _ (by rw [hlen]; exact hi)]
    simp

/-- A cycle that fails is told of, and leaves the table in use (R169, R178). -/
theorem dlcCycle_bad (s : State) (b : Fin 8) (bias : Byte) (tapdly : Word) (taps : List (BitVec 6)) :
    bit ((dlcCycle b false bias tapdly taps s).rd (A.DLC_STAT b.val)) 15 = true ∧
      (dlcCycle b false bias tapdly taps s).rd (A.DLC_FAILCNT b.val) =
        w16 (satU ((s.rd (A.DLC_FAILCNT b.val)).toNat + 1)) ∧
      eventBit (dlcCycle b false bias tapdly taps s) (evDLCAL_FAULT b) = true ∧
      ((dlcCycle b false bias tapdly taps s).bank[b]).dlcValid = (s.bank[b]).dlcValid ∧
      ((dlcCycle b false bias tapdly taps s).bank[b]).dlcGen = (s.bank[b]).dlcGen ∧
      ∀ i, i < 64 → (dlcCycle b false bias tapdly taps s).rd (A.DLC_TBL b.val i) = s.rd (A.DLC_TBL b.val i) := by
  have hb := b.isLt
  have hsrc : (evDLCAL_FAULT b).src < 128 := by unfold evDLCAL_FAULT; dsimp only; omega
  unfold dlcCycle
  extract_lets s1 s2 s3 s4
  rw [if_neg (by decide)]
  refine ⟨?_, ?_, raise_self _ _ _ _, ?_, ?_, fun i hi => ?_⟩
  · rw [raise_rd _ _ _ _ hsrc _ (by unfold Apart A.DLC_STAT; omega), satInc_rd _ _ _ (by unfold A.DLC_STAT A.DLC_FAILCNT; omega)]
    exact setFlags_bit _ _ (by decide)
  · rw [raise_rd _ _ _ _ hsrc _ (by unfold Apart A.DLC_FAILCNT; omega), State.satInc, rd_wr, if_pos rfl,
      setFlags_rd _ (by unfold A.DLC_STAT A.DLC_FAILCNT; omega)]
    rfl
  · rw [raise_bank]
    show ((s1.bank[b]).dlcValid) = _
    unfold s1
    rw [modBank_get, if_pos rfl]
  · rw [raise_bank]
    show ((s1.bank[b]).dlcGen) = _
    unfold s1
    rw [modBank_get, if_pos rfl]
  · rw [raise_rd _ _ _ _ hsrc _ (by unfold Apart A.DLC_TBL; omega), satInc_rd _ _ _ (by unfold A.DLC_TBL A.DLC_FAILCNT; omega),
      setFlags_rd _ (by unfold A.DLC_STAT A.DLC_TBL; omega)]
    rfl

/-- Settles O22: compare match, refresh end and trigger of a period, and the two ends of a calibration cycle. -/
theorem withinAPeriod : Obligations.WithinAPeriod := by
  refine ⟨fun s k => ⟨fun r f hf hlt => ?_, fun r e he hlt => ?_, fun n w hw hrun hper hlt => ⟨fun hfired => ?_, fun hfired => ?_⟩⟩,
    fun s b bias tapdly taps hon hbg hdue => ⟨?_, ?_⟩⟩
  · refine ⟨_, ?_, modChan_ch s k r (fun c => { c with cmd := .low, fallAt := none })⟩
    change execCompareMatch k r s = _
    simp only [execCompareMatch, hf, if_pos hlt]
  · refine ⟨_, ?_, modChan_ch s k r (fun c => { c with cmd := c.after, refEnd := none })⟩
    change execRefreshPulseEnd k r s = _
    simp only [execRefreshPulseEnd, he, if_pos hlt]
  · obtain ⟨hland, hax⟩ :=
      trig_reaches (s.modTim k (fun x => { x with fired := x.fired + 2 ^ n.val })) 1 (4 * k.val + n.val) w
    refine ⟨(s.modTim k (fun x => { x with fired := x.fired + 2 ^ n.val })).trig 1 (4 * k.val + n.val) w, ?_, ?_, hland, hax⟩
    · change execTriggerCompare k n s = _
      rw [execTriggerCompare, if_pos ⟨hrun, hper, hw ▸ hlt, hfired⟩, ← hw]
    · rw [trig_tim, modTim_get, if_pos rfl]
      exact natBit_add_pow hfired
  · change execTriggerCompare k n s = _
    rw [execTriggerCompare, if_neg]
    rintro ⟨-, -, -, h⟩
    exact absurd (hfired.symm.trans h) (by decide)
  · exact ⟨_, exec_dlcCalCycle true bias tapdly taps hon hbg hdue, dlcCycle_good s b bias tapdly taps⟩
  · exact ⟨_, exec_dlcCalCycle false bias tapdly taps hon hbg hdue, dlcCycle_bad s b bias tapdly taps⟩

end Sys2Proof.Proofs
end

section
/-! SUPPORT. Proofs of the writes of plain words (R14, R78, R125), and of read and write frames (R116 to R124). -/
namespace Sys2Proof.Proofs
set_option Elab.async false
open Sys2Proof.Machine Sys2Proof.Safety Sys2Proof.Laws

/-! ### Words of one plain read-write field (R14) -/

/-- The fields of a word that stores every bit. -/
def plainFields : List Fld := [fld 15 0 .RW]

theorem field_word (d : Word) : field d 15 0 = d.toNat := by
  have := d.isLt
  simp only [field]
  omega

theorem legalBits_plain (s : State) (a : Nat) (d : Word) : s.legalBits a plainFields d = true := by
  have hmask : reservedBits plainFields = 0 := by decide
  have hrange : field d 15 0 ≤ 65535 := by simp only [field]; omega
  simp [State.legalBits, hmask]
  simp [plainFields, fld, State.writable, Fld.inRange, hrange]

theorem newWord_plain (s : State) (a : Nat) (on : Bool) (d : Word) : s.newWord a on d plainFields = d := by
  have hm : Fld.mask ⟨15, 0, .RW, 0, 65535, false⟩ = BitVec.allOnes 16 := by decide
  have h : d &&& BitVec.allOnes 16 = d := BitVec.and_allOnes
  simpa [State.newWord, plainFields, State.stores, hm, fld] using h

/-- Registers that act some clocks after their write, or hold the drive ranges (R156, R186, R187). -/
def actsLater (r : Reg) : Bool := ([.PWM_CTL, .PWM_FORCE, .PWM_REF, .GATE_IDRV_HS, .GATE_IDRV_LS] : List Reg).contains r

section PlainWord
variable {a : Nat} {row : RegRow} {ix : List Nat} (hrow : lookup a = some (row, ix)) (hf : row.fields = plainFields)
  (hl : actsLater row.reg = false)
include hrow hf hl

/-- A plain word takes the written value held within its LIMITS entries, and each entry that changed it is reported (R78). -/
theorem storeWord_plain (s : State) (t : Nat) (d : Word) : s.storeWord t a d =
    (s.wr a (applyLimits d (s.limitsAt a plainFields)).1).reportSat a (applyLimits d (s.limitsAt a plainFields)).1
      (applyLimits d (s.limitsAt a plainFields)).2 := by
  have hne : ∀ r, r ∈ ([.PWM_CTL, .PWM_FORCE, .PWM_REF, .GATE_IDRV_HS, .GATE_IDRV_LS] : List Reg) → row.reg ≠ r := by
    rintro r hr rfl
    rw [actsLater, List.contains_iff_mem.mpr hr] at hl
    cases hl
  unfold State.storeWord
  rw [hrow]
  dsimp only
  rw [hf]
  generalize applyLimits d (s.limitsAt a plainFields) = p
  obtain ⟨v, n⟩ := p
  dsimp only
  split
  · rename_i c; exact absurd c (hne _ (by decide))
  · rename_i c; exact absurd c (hne _ (by decide))
  · dsimp only
    rw [newWord_plain]
    unfold State.delayedWrite
    split
    · rename_i c; exact absurd c (hne _ (by decide))
    · rename_i c; exact absurd c (hne _ (by decide))
    · rename_i c; exact absurd c (hne _ (by decide))
    · rename_i c; exact absurd c (hne _ (by decide))
    · rename_i c; exact absurd c (hne _ (by decide))
    · rfl

/-- A plain word that no LIMITS entry bounds takes the written value, and nothing else changes. -/
theorem storeWord_plain_free {s : State} (h : ∀ l ∈ s.limits, l.addr ≠ a) (t : Nat) (d : Word) :
    s.storeWord t a d = s.wr a d := by
  rw [storeWord_plain hrow hf hl, limitsAt_free h]
  rfl

end PlainWord

/-- The registers of plain read-write bits that the statement names. -/
def plainRegs : List Reg :=
  [.OP_PARAM, .EVT_MASK, .EVT_REC_0, .EVT_REC_1, .EVT_REC_2, .EVT_REC_3, .EVT_REC_47, .PWR_HCAP, .PWR_EMARGIN]

theorem plain_rows : ∀ k ∈ [Blk.sys, .time, .host, .evt, .recorder, .pwr, .store, .storew, .pair, .safe, .fus, .sch, .sol, .can,
      .win, .recw, .bank, .unassigned],
    ∀ row ∈ rowsOf k, row.reg ∈ plainRegs → row.fields = plainFields ∧ k ∈ [Blk.host, .evt, .pwr] := by decide +kernel

theorem plain_row {a : Nat} {row : RegRow} {ix : List Nat} (hrow : lookup a = some (row, ix)) (hr : row.reg ∈ plainRegs) :
    row.fields = plainFields ∧ blkOf a ∈ [Blk.host, .evt, .pwr] :=
  plain_rows (blkOf a) (by cases blkOf a <;> decide) row (row_mem_of_lookup hrow) hr

theorem plain_reg : ∀ r ∈ plainRegs, r ≠ .SAFE_WDCFG ∧ r ≠ .BANK_ARM ∧ r ≠ .AX_CMD ∧ actsLater r = false := by decide

theorem plain_cases {r : Reg} (hr : r ∈ plainRegs) : r = .OP_PARAM ∨ r = .EVT_MASK ∨ r = .EVT_REC_0 ∨ r = .EVT_REC_1 ∨
    r = .EVT_REC_2 ∨ r = .EVT_REC_3 ∨ r = .EVT_REC_47 ∨ r = .PWR_HCAP ∨ r = .PWR_EMARGIN := by
  simpa only [plainRegs, List.mem_cons, List.not_mem_nil, or_false] using hr

/-- A write of one of those registers stores its word. -/
theorem writeWord_plain {s : State} {a : Nat} {row : RegRow} {ix : List Nat} (hrow : lookup a = some (row, ix))
    (hr : row.reg ∈ plainRegs) (t : Nat) (d : Word) : s.writeWord t a d = s.storeWord t a d := by
  obtain ⟨hf, hblk⟩ := plain_row hrow hr
  obtain ⟨h1, h2, h3, -⟩ := plain_reg _ hr
  have hb : blkOf a ≠ .bank ∧ blkOf a ≠ .can ∧ domOfAddr a = none := by
    unfold domOfAddr
    revert hblk
    generalize blkOf a = k
    intro hblk
    simp only [List.mem_cons, List.not_mem_nil, or_false] at hblk
    rcases hblk with rfl | rfl | rfl <;> exact ⟨nofun, nofun, rfl⟩
  obtain ⟨hbank, hcan, hdom⟩ := hb
  have hlow : higher row.reg ix = false := by
    revert hr
    generalize row.reg = r
    intro hr
    rcases plain_cases hr with rfl | rfl | rfl | rfl | rfl | rfl | rfl | rfl | rfl <;> rfl
  have hlegal : s.legal a d = true := by
    have hbits := legalBits_plain s a d
    have hword : wordOk row.reg ix d = true ∧ s.legalNow a row.reg ix d = true := by
      revert hr
      generalize row.reg = r
      intro hr
      rcases plain_cases hr with rfl | rfl | rfl | rfl | rfl | rfl | rfl | rfl | rfl <;> simp [wordOk, State.legalNow, hcan]
    simp [State.legal, hrow, hf, hbits, hword, hbank]
  rw [writeWord_core hrow h1 h2 h3 hdom hlow hlegal]
  revert hr
  generalize row.reg = r
  intro hr
  rcases plain_cases hr with rfl | rfl | rfl | rfl | rfl | rfl | rfl | rfl | rfl <;> rfl

theorem exec_registerWrite {s : State} (hup : s.up = true) (hears : s.hears = true) (at' : Fin 200) (a d : Word) :
    exec (.registerWrite at' a d) s = .next (s.writeWord (s.clkAt at') a.toNat d) := by
  change execRegisterWrite at' a d s = _
  rw [execRegisterWrite, whenHost_of_hears hup hears]

/-! ### A LIMITS entry on a whole word (R78) -/

/-- An unsigned entry over a whole word holds a greater value at its upper bound. -/
theorem applyLimits_whole {l : Limit} (hlsb : l.lsb = 0) (hw : l.width = 16) (hs : l.signed = false)
    (hmin : l.min.toNat ≤ l.max.toNat) {d : Word} (hd : l.max.toNat < d.toNat) : applyLimits d [l] = (l.max, 1) := by
  have hread : l.read (field d 15 0) = (d.toNat : Int) := by
    rw [Limit.read, hs, field_word]
    rfl
  have hhi : l.hi = (l.max.toNat : Int) := by
    rw [Limit.hi, hs]
    rfl
  have hlo : l.lo = (l.min.toNat : Int) := by
    rw [Limit.lo, hs]
    rfl
  have hset : setField d 15 0 l.max.toNat = l.max := by
    have hm : maskW 15 0 = BitVec.allOnes 16 := by decide
    have := l.max.isLt
    rw [setField, hm, BitVec.not_allOnes, BitVec.and_zero, BitVec.zero_or, Nat.mod_eq_of_lt (by omega)]
    simp [w16]
  have happ : l.apply d = (l.max, true) := by
    unfold Limit.apply
    rw [hlsb, hw]
    simp only [Nat.zero_add, Nat.reduceSub, hread, hhi, hlo]
    rw [if_neg (by omega), if_neg (by omega), BitVec.ofInt_natCast, BitVec.ofNat_toNat, BitVec.setWidth_eq, hset]
  simp [applyLimits, happ]

theorem limitsAt_one {s : State} {a : Nat} {l : Limit} (hs : s.limits = [l]) (ha : l.addr = a) (hlsb : l.lsb = 0)
    (hw : l.width = 16) : s.limitsAt a plainFields = [l] := by
  simp [State.limitsAt, hs, ha, hlsb, hw, plainFields, fld, State.stores]

/-! ### A quantity of two words (R125) -/

/-- The row of the two words of TIME_SET_SEC. -/
def setSecRow : RegRow := ⟨.TIME_SET_SEC, 0x0120, [(2, 1)], 0x0000, [fld 15 0 .RW]⟩

theorem lookup_setSec (i : Fin 2) : lookup (A.TIME_SET_SEC i.val) = some (setSecRow, [i.val]) := by
  revert i; decide

theorem legal_setSec (i : Fin 2) (s : State) (d : Word) : s.legal (A.TIME_SET_SEC i.val) d = true := by
  have hblk : blkOf (A.TIME_SET_SEC i.val) ≠ .bank ∧ blkOf (A.TIME_SET_SEC i.val) ≠ .can := by revert i; decide
  have hbits : s.legalBits (A.TIME_SET_SEC i.val) [fld 15 0 .RW] d = true := legalBits_plain s (A.TIME_SET_SEC i.val) d
  simp [State.legal, lookup_setSec, setSecRow, hbits, wordOk, State.legalNow, hblk]

theorem writeWord_setSec1 {s : State} (h : ∀ l ∈ s.limits, l.addr ≠ A.TIME_SET_SEC 1) (t : Nat) (d : Word) :
    s.writeWord t (A.TIME_SET_SEC 1) d = s.setStaged (A.TIME_SET_SEC 1) d := by
  have hrow : lookup (A.TIME_SET_SEC 1) = some (setSecRow, [1]) := lookup_setSec 1
  have hlegal : s.legal (A.TIME_SET_SEC 1) d = true := legal_setSec 1 s d
  have hstage : s.writeLegal t (A.TIME_SET_SEC 1) d = s.setStaged (A.TIME_SET_SEC 1) d := by
    have hon : s.addrOn (A.TIME_SET_SEC 1) = true := rfl
    have hb := bounded_free h setSecRow.fields d (fun d s => s.setStaged (A.TIME_SET_SEC 1) d)
    simp [State.writeLegal, hrow, hon, hb, show higher setSecRow.reg [1] = true from rfl]
  simp [State.writeWord, not_barred hrow nofun nofun, hlegal, ampClash_eq_self hrow nofun, hstage]

theorem writeWord_setSec0 {s : State} (h : ∀ l ∈ s.limits, l.addr ≠ A.TIME_SET_SEC 0 ∧ l.addr ≠ A.TIME_SET_SEC 1) (t : Nat)
    (d : Word) : s.writeWord t (A.TIME_SET_SEC 0) d =
      (s.wr (A.TIME_SET_SEC 0) d).wr (A.TIME_SET_SEC 1) (s.staged (A.TIME_SET_SEC 1)) := by
  have hrow : lookup (A.TIME_SET_SEC 0) = some (setSecRow, [0]) := lookup_setSec 0
  have hrow1 : lookup (A.TIME_SET_SEC 1) = some (setSecRow, [1]) := lookup_setSec 1
  have hlegal : s.legal (A.TIME_SET_SEC 0) d = true := legal_setSec 0 s d
  rw [writeWord_core hrow nofun nofun nofun (by decide) rfl hlegal]
  show (s.storeWord t (A.TIME_SET_SEC 0) d).storeWord t (A.TIME_SET_SEC 1) (s.staged (A.TIME_SET_SEC 1)) = _
  rw [storeWord_plain_free hrow rfl rfl (fun l hl => (h l hl).1),
    storeWord_plain_free (s := s.wr (A.TIME_SET_SEC 0) d) hrow1 rfl rfl (fun l hl => (h l hl).2)]

/-- Settles O25: plain words by `storeWord_plain`, with and without a LIMITS entry; TIME_SET_SEC for the quantity. -/
theorem registerWrites : Obligations.RegisterWrites := by
  refine ⟨fun s at' a d hup hears => ⟨fun row ix hrow hr => ⟨fun hlim => ?_, fun l hl ha hlsb hw hs hmin hmax hlow => ?_⟩,
    fun hnone => ?_, fun ha hlim => ?_, fun ha hlim => ?_⟩, fun s at' a d hdown => ?_⟩
  · obtain ⟨hf, -⟩ := plain_row hrow hr
    obtain ⟨-, -, -, hlater⟩ := plain_reg _ hr
    rw [exec_registerWrite hup hears, writeWord_plain hrow hr, storeWord_plain_free hrow hf hlater hlim]
  · obtain ⟨hf, hblk⟩ := plain_row hrow hr
    obtain ⟨-, -, -, hlater⟩ := plain_reg _ hr
    have hne : a.toNat ≠ A.IMG_LIMSAT ∧ a.toNat ≠ A.IMG_LIMLAST := by
      constructor <;> (intro c; rw [c] at hblk; revert hblk; decide)
    obtain ⟨hsat, hlast⟩ := hne
    have hst : s.writeWord (s.clkAt at') a.toNat d =
        (((s.wr a.toNat l.max).satInc A.IMG_LIMSAT).wr A.IMG_LIMLAST (w16 a.toNat)).raise evLIMIT_SAT (w16 a.toNat) l.max := by
      rw [writeWord_plain hrow hr, storeWord_plain hrow hf hlater, limitsAt_one hl ha hlsb hw, applyLimits_whole hlsb hw hs hmin hmax]
      rfl
    refine ⟨_, by rw [exec_registerWrite hup hears, hst], ?_, ?_, ?_, raise_self _ _ _ _⟩
    · rw [raise_rd _ _ _ _ (by decide) _ (Or.inl hlow), rd_wr, if_neg hlast, satInc_rd _ _ _ hsat, rd_wr, if_pos rfl]
    · rw [raise_rd _ _ _ _ (by decide) _ (by unfold Apart; decide), rd_wr, if_pos rfl]
      simp [w16]
    · rw [raise_rd _ _ _ _ (by decide) _ (by unfold Apart; decide), rd_wr, if_neg (by decide), State.satInc, rd_wr, if_pos rfl,
        rd_wr, if_neg (Ne.symm hsat)]
  · rw [exec_registerWrite hup hears, writeWord_of_unassigned hnone]
  · refine ⟨s.setStaged (A.TIME_SET_SEC 1) d, by rw [exec_registerWrite hup hears, ha, writeWord_setSec1 hlim], ?_, rfl⟩
    rw [State.setStaged, State.staged, modLink_link, mapGet_mapPut, if_pos rfl]
    rfl
  · refine ⟨_, by rw [exec_registerWrite hup hears, ha, writeWord_setSec0 hlim], ?_, ?_, fun x h0 h1 => ?_⟩
    · rw [rd_wr, if_neg (by decide), rd_wr, if_pos rfl]
    · rw [rd_wr, if_pos rfl]
    · rw [rd_wr, if_neg h1, rd_wr, if_neg h0]
  · change execRegisterWrite at' a d s = _
    have hno : (s.up && s.hears) = false := by rcases hdown with h | h <;> simp [h]
    rw [execRegisterWrite, State.whenHost, hno]
    rfl

/-! ### Read frames (R116, R117, R121, R124) -/

theorem readAll_length (t : Nat) (l : List Nat) : ∀ s : State, (s.readAll t l).2.length = l.length := by
  induction l with
  | nil => exact fun _ => rfl
  | cons a as ih =>
    intro s
    unfold State.readAll
    cases h : s.readAt t a with
    | mk u w =>
      cases h' : u.readAll t as with
      | mk v ws =>
        have hlen := ih u
        rw [h'] at hlen
        dsimp only at hlen ⊢
        rw [h']
        exact congrArg (· + 1) hlen

/-- A word of its own is read as it is shown. -/
theorem readAt_alone {s : State} {a : Nat} {row : RegRow} {ix : List Nat} (hrow : lookup a = some (row, ix))
    (hq : quantOf row.reg ix = none) (t : Nat) : s.readAt t a = (s, s.shown t a) := by
  simp [State.readAt, hrow, hq]

/-- A read of the lowest word of a quantity of `n` words latches its higher words (R124). -/
theorem readAt_lowest {s : State} {a n : Nat} {row : RegRow} {ix : List Nat} (hrow : lookup a = some (row, ix))
    (hq : quantOf row.reg ix = some (0, n)) (t : Nat) : (s.readAt t a).1 =
      s.latchWords (a + 1) ((List.range (n - 1)).map (fun k => s.shown t (a + 1 + k))) := by
  simp [State.readAt, hrow, hq]

theorem setLatch_latched (s : State) (a b : Nat) (v : Word) :
    (s.setLatch a v).latched b = if b = a then v else s.latched b := by
  unfold State.setLatch State.latched
  rw [modLink_link, mapGet_mapPut]
  split <;> rfl

theorem latchWords_low (l : List Word) : ∀ (s : State) (a b : Nat), b < a → (s.latchWords a l).latched b = s.latched b := by
  induction l with
  | nil => exact fun _ _ _ _ => rfl
  | cons v vs ih =>
    intro s a b h
    rw [State.latchWords, ih _ _ _ (by omega), setLatch_latched, if_neg (by omega)]

theorem latchWords_at (l : List Word) : ∀ (s : State) (a k : Nat) (hk : k < l.length),
    (s.latchWords a l).latched (a + k) = l[k] := by
  induction l with
  | nil => exact fun _ _ _ hk => absurd hk (Nat.not_lt_zero _)
  | cons v vs ih =>
    intro s a k hk
    rw [State.latchWords]
    cases k with
    | zero => rw [latchWords_low _ _ _ _ (by omega), setLatch_latched, if_pos (Nat.add_zero a)]; rfl
    | succ j =>
      rw [show a + (j + 1) = a + 1 + j by omega, ih _ _ _ (by simpa using hk)]
      rfl

theorem latchWords_link (l : List Word) : ∀ (s : State) (a : Nat), (s.latchWords a l).link.miso = s.link.miso ∧
    (s.latchWords a l).link.stage = s.link.stage := by
  induction l with
  | nil => exact fun _ _ => ⟨rfl, rfl⟩
  | cons v vs ih => exact fun s a => ih (s.setLatch a v) (a + 1)

theorem exec_latchRead {s : State} (hup : s.up = true) (hears : s.hears = true) (a : Word) :
    exec (.multiwordLatchRead a) s = .next (s.took.readAt s.sampleAt a.toNat).1 := by
  change execMultiwordLatchRead a s = _
  rw [execMultiwordLatchRead, whenHost_of_hears hup hears]

/-- Settles O24: NOP, a whole read frame, a frame of one word, and the latch of a quantity's higher words. -/
theorem readFrames : Obligations.ReadFrames := by
  intro s hup hears
  refine ⟨?_, fun fixed hdr addr n hop hgood hn hend => ?_, fun fixed hdr addr row ix hop hgood hone hrow hq => ?_,
    fun a row ix n hrow hq => ?_, fun a row ix hrow hq => ?_⟩
  · change execNop 0 s = _
    rw [execNop, whenHost_of_hears hup hears]
    rfl
  · obtain ⟨u, ws, hread⟩ : ∃ u ws, s.took.readAll s.sampleAt ((List.range n).map (wordAddr fixed addr)) = (u, ws) :=
      ⟨_, _, rfl⟩
    have hlen : ws.length = n := by
      have := readAll_length s.sampleAt ((List.range n).map (wordAddr fixed addr)) s.took
      simpa [hread] using this
    refine ⟨u, ws, hread, hlen, ?_⟩
    rw [exec_readFrame hup hears hop]
    have hmin : min n (4 + n - 2) = n := by omega
    simp only [readFrame, hgood, hn, hend, Bool.or_self, Bool.false_eq_true, if_false, hmin, hread, if_true]
    congr 2
    rw [onMiso, List.take_append_of_le_length (by simp [hlen]; omega), List.take_of_length_le (by simp [hlen]; omega)]
  · refine ⟨_, rfl, ?_⟩
    rw [exec_readFrame hup hears hop, readFrame_oneWord hgood hone fixed addr (readAt_alone hrow hq _)]
    rfl
  · refine ⟨_, exec_latchRead hup hears a, ?_⟩
    rw [readAt_lowest hrow hq]
    obtain ⟨hm, hs⟩ := latchWords_link ((List.range (n - 1)).map (fun k => s.took.shown s.sampleAt (a.toNat + 1 + k))) s.took
      (a.toNat + 1)
    refine ⟨hm, hs, fun k hk => ?_⟩
    rw [latchWords_at _ _ _ _ (by simpa using hk)]
    simp
  · rw [exec_latchRead hup hears, readAt_alone hrow hq]

/-! ### Write frames (R117, R119, R120, R122) -/

/-- A write frame is `writeFrame` of its body. -/
theorem exec_writeFrame {s : State} (hup : s.up = true) (hears : s.hears = true) {fixed : Bool} {hdr : Word}
    (hop : field hdr 15 13 = if fixed then 4 else 2) (at' : Fin 200) (addr : Word) (body : List Word) :
    exec (if fixed then .writeFixed at' hdr addr body else .write at' hdr addr body) s =
      .next (writeFrame (s.clkAt at') fixed hdr addr body s) := by
  cases fixed
  · change execWrite at' hdr addr body s = _
    rw [execWrite, whenHost_of_hears hup hears]
    simp [spiFrame, hop, hdrFixed]
  · change execWriteFixed at' hdr addr body s = _
    rw [execWriteFixed, whenHost_of_hears hup hears]
    simp [spiFrame, hop, hdrFixed]

section WriteFrame
variable {fixed : Bool} {hdr addr : Word} {ws : List Word} (hop : field hdr 15 13 = if fixed then 4 else 2)
include hop

theorem not_hdrReserved : hdrReserved hdr = false := by
  unfold hdrReserved
  rw [hop]
  cases fixed <;> rfl

variable (hlen : ws.length = hdrWords hdr)
include hlen

omit hop in
theorem nth_body (c : Word) (rest : List Word) : nth (ws ++ c :: rest) (hdrWords hdr) = c := by
  simp [nth, ← hlen]

omit hop in
theorem take_body (c : Word) (rest : List Word) : (ws ++ c :: rest).take (hdrWords hdr) = ws := by
  rw [← hlen, List.take_left']
  rfl

/-- A frame whose CRC checks good is accepted (R119). -/
theorem writeFrame_good (t : Nat) (rest : List Word) (s : State) :
    writeFrame t fixed hdr addr (ws ++ crc16 (hdr :: addr :: ws) :: rest) s =
      (s.setMiso (onMiso [s.statusWord, s.summaryWord] (3 + ws.length + rest.length))).accept t fixed hdr addr ws := by
  have hshort : ¬ (ws ++ crc16 (hdr :: addr :: ws) :: rest).length ≤ hdrWords hdr := by simp [← hlen]
  have hwords : 2 + (ws ++ crc16 (hdr :: addr :: ws) :: rest).length = 3 + ws.length + rest.length := by simp; omega
  simp only [writeFrame, not_hdrReserved hop, Bool.false_eq_true, if_false, if_neg hshort, nth_body hlen, take_body hlen,
    if_true, hwords]

/-- A frame whose CRC checks bad is discarded (R120). -/
theorem writeFrame_badCrc (t : Nat) {c : Word} (hc : c ≠ crc16 (hdr :: addr :: ws)) (rest : List Word) (s : State) :
    ∃ l, writeFrame t fixed hdr addr (ws ++ c :: rest) s = (s.setMiso l).discard 1 := by
  have hshort : ¬ (ws ++ c :: rest).length ≤ hdrWords hdr := by simp [← hlen]
  refine ⟨onMiso [s.statusWord, s.summaryWord] (2 + (ws ++ c :: rest).length), ?_⟩
  simp only [writeFrame, not_hdrReserved hop, Bool.false_eq_true, if_false, if_neg hshort, nth_body hlen, take_body hlen,
    if_neg hc]

/-- A frame that ends before its CRC word is complete is discarded (R120). -/
theorem writeFrame_short (t k : Nat) (s : State) :
    ∃ l, writeFrame t fixed hdr addr (ws.take k) s = (s.setMiso l).discard 2 := by
  have hshort : (ws.take k).length ≤ hdrWords hdr := hlen ▸ List.length_take_le' k ws
  refine ⟨onMiso [s.statusWord, s.summaryWord] (2 + (ws.take k).length), ?_⟩
  simp only [writeFrame, not_hdrReserved hop, Bool.false_eq_true, if_false, if_pos hshort]

end WriteFrame

/-- A discarded frame is told of and writes nothing (R120). -/
theorem discard_spec (s : State) (l : List Word) (cause : Fin 2) :
    bit (((s.setMiso l).discard (cause.val + 1)).rd A.HOST_ERR) cause.val = true ∧
      ((s.setMiso l).discard (cause.val + 1)).rd A.HOST_CRCCNT = w16 (satU ((s.rd A.HOST_CRCCNT).toNat + 1)) ∧
      eventBit ((s.setMiso l).discard (cause.val + 1)) evHOST_CRC = true ∧
      Only (raising { regs := [.HOST_CRCCNT, .HOST_ERR], link := true }) s ((s.setMiso l).discard (cause.val + 1)) := by
  unfold State.discard
  refine ⟨?_, ?_, raise_self _ _ _ _, ?_⟩
  · rw [raise_rd _ _ _ _ (by decide) _ (by unfold Apart; decide), satInc_rd _ _ _ (by decide)]
    exact setFlags_bit _ _ (by rw [Nat.add_sub_cancel]; revert cause; decide)
  · rw [raise_rd _ _ _ _ (by decide) _ (by unfold Apart; decide), State.satInc, rd_wr, if_pos rfl, setFlags_rd _ (by decide)]
    rfl
  · refine only_of_forget ((discard_forget (raising { regs := [.HOST_CRCCNT, .HOST_ERR], link := true }) (s.setMiso l)
      (cause.val + 1) (mayRaise_raising _) (has_of_mem (by decide)) (has_of_mem (by decide))).trans ?_)
    exact setMiso_forget _ _ _ rfl

/-- One word alone breaks no order (R13). -/
theorem breaksOrder_alone (a : Nat) : breaksOrder a [] [] = false := by
  unfold breaksOrder
  split <;> rfl

theorem writeWords_one (s : State) (t a : Nat) (d : Word) : s.writeWords t [(a, d)] = s.writeWord t a d := by
  simp [State.writeWords, State.writeWordsAfter, breaksOrder_alone]

theorem frameWrites_one (fixed : Bool) (addr d : Word) : frameWrites fixed addr [d] = [(addr.toNat, d)] := by
  cases fixed <;> simp [frameWrites, wordAddr]

/-- The row of the eight operation parameters. -/
theorem lookup_opParam : ∀ i : Fin 8, regAt (A.OP_PARAM i.val) = some (.OP_PARAM, [i.val]) := by decide

/-- An accepted frame of good header (R119). -/
theorem accept_good {hdr : Word} (hgood : hdrBad hdr = false) (s : State) (t : Nat) (fixed : Bool) (addr : Word) (ws : List Word) :
    s.accept t fixed hdr addr ws = if hasReset (frameWrites fixed addr ws)
      then softwareReset t ((s.wrapInc A.HOST_FRAMES).writeWords t (frameWrites fixed addr ws))
      else (s.wrapInc A.HOST_FRAMES).writeWords t (frameWrites fixed addr ws) := by
  simp only [State.accept, hgood, Bool.false_eq_true, if_false]

/-- Settles O23: a good frame is accepted, a bad or short one discarded, and a bad header is a host error. -/
theorem writeFrames : Obligations.WriteFrames := by
  intro s at' fixed hdr addr ws hup hears hop hlen
  refine ⟨fun rest u hu => ?_, fun c rest hc => ?_, fun k _ => ?_, fun h' body hres => ?_, fun e he => ?_, ?_⟩
  · have hexec : exec (if fixed then .writeFixed at' hdr addr (ws ++ crc16 (hdr :: addr :: ws) :: rest)
        else .write at' hdr addr (ws ++ crc16 (hdr :: addr :: ws) :: rest)) s =
        .next ((s.setMiso (onMiso [s.statusWord, s.summaryWord] (3 + ws.length + rest.length))).accept (s.clkAt at') fixed hdr
          addr ws) := by
      rw [exec_writeFrame hup hears hop, writeFrame_good hop hlen]
    have hone : hdrBad hdr = false → ∀ d, ws = [d] →
        exec (if fixed then .writeFixed at' hdr addr (d :: crc16 [hdr, addr, d] :: rest)
          else .write at' hdr addr (d :: crc16 [hdr, addr, d] :: rest)) s =
        .next (u.writeWord (s.clkAt at') addr.toNat d) := by
      rintro hgood d rfl
      refine hexec.trans ?_
      rw [accept_good hgood, ← hu, frameWrites_one, writeWords_one]
      rfl
    refine ⟨fun hgood => ?_, fun hbad => ?_, fun hgood d hd => ?_, fun hgood i d hi ha hlim hd => ?_⟩
    · rw [hexec, accept_good hgood, ← hu]
    · rw [hexec, State.accept, ← hu]
      simp only [hbad, if_true]
    · have huu : u.up = true ∧ u.hears = true ∧ u.clkAt at' = s.clkAt at' := by subst hu; exact ⟨hup, hears, rfl⟩
      obtain ⟨h1, h2, h3⟩ := huu
      rw [hone hgood d hd, exec_registerWrite h1 h2, h3]
    · obtain ⟨row, hrow, hreg⟩ := lookup_of_regAt (lookup_opParam ⟨i, hi⟩)
      have hr : row.reg ∈ plainRegs := by rw [hreg]; decide
      obtain ⟨hf, -⟩ := plain_row hrow hr
      obtain ⟨-, -, -, hlater⟩ := plain_reg _ hr
      have hfree : ∀ l ∈ u.limits, l.addr ≠ A.OP_PARAM i := by subst hu; exact hlim
      have hne : A.OP_PARAM i ≠ A.HOST_FRAMES := by unfold A.OP_PARAM A.HOST_FRAMES; omega
      have hw : u.writeWord (s.clkAt at') addr.toNat d = u.wr (A.OP_PARAM i) d := by
        rw [ha]
        exact (writeWord_plain hrow hr _ d).trans (storeWord_plain_free hrow hf hlater hfree _ d)
      have hurd : ∀ a, u.rd a = if a = A.HOST_FRAMES then s.rd A.HOST_FRAMES + 1 else s.rd a := by
        intro a
        subst hu
        exact rd_wr _ _ _ _
      refine ⟨_, by rw [hone hgood d hd, hw], ?_, ?_, fun a h1 h2 => ?_⟩
      · rw [rd_wr, if_pos rfl]
      · rw [rd_wr, if_neg (Ne.symm hne), hurd, if_pos rfl]
      · rw [rd_wr, if_neg h1, hurd, if_neg h2]
  · obtain ⟨l, hl⟩ := writeFrame_badCrc hop hlen (s.clkAt at') hc rest s
    exact ⟨(s.setMiso l).discard 1, by rw [exec_writeFrame hup hears hop, hl], discard_spec s l 0⟩
  · obtain ⟨l, hl⟩ := writeFrame_short (addr := addr) hop hlen (s.clkAt at') k s
    exact ⟨(s.setMiso l).discard 2, by rw [exec_writeFrame hup hears hop, hl], discard_spec s l 1⟩
  · change execWrite at' h' addr body s = _
    rw [execWrite, whenHost_of_hears hup hears]
    have hres' : hdrReserved h' = true := by simpa [hdrReserved] using hres
    have hspi : ∀ t words, spiFrame t h' addr body words s = writeFrame t (hdrFixed h') h' addr body s := by
      intro t words
      unfold spiFrame
      split
      · omega
      · omega
      · omega
      · rfl
    rw [hspi, writeFrame]
    simp only [hres', if_true]
  · refine ⟨s.discard 2, ?_, ?_⟩
    · change execSpiHeaderTruncated e s = _
      rw [execSpiHeaderTruncated, whenHost_of_hears hup hears, if_neg he]
    · obtain ⟨h1, h2, h3, -⟩ := discard_spec s s.link.miso 1
      exact ⟨h1, h2, h3, only_of_forget (discard_forget _ _ _ (mayRaise_raising _) (has_of_mem (by decide))
        (has_of_mem (by decide)))⟩
  · change execSpiHeaderTruncated 0 s = _
    rw [execSpiHeaderTruncated, whenHost_of_hears hup hears]
    rfl

end Sys2Proof.Proofs
end

section
/-! SUPPORT. Proofs of the end of an image's checks and of the swap ticks (R71 to R75, R86). -/
namespace Sys2Proof.Proofs
set_option Elab.async false
open Sys2Proof.Machine Sys2Proof.Safety Sys2Proof.Laws

/-! ### The ends of a load (R71, R86) -/

theorem endSlot_event (s : State) (i : Fin 8) (st : OpState) (fail : Nat) : eventBit (s.endSlot i st fail) evOP_END = true := by
  unfold State.endSlot
  exact raise_self _ _ _ _

theorem endSlot_bank (s : State) (i : Fin 8) (st : OpState) (fail : Nat) : (s.endSlot i st fail).bank = s.bank := by
  unfold State.endSlot
  rw [raise_bank]
  rfl

/-- A load with a ticket slot of the device ends in that slot. -/
theorem ticket_of_slot {l : Load} {i : Fin 8} (h : l.slot = some i.val) : l.ticket = some i := by
  unfold Load.ticket
  rw [h]
  dsimp only
  rw [dif_pos i.isLt]

theorem ticket_of_boot {l : Load} (h : l.slot = none) : l.ticket = none := by
  unfold Load.ticket
  rw [h]

theorem doneLoad_img (s : State) (l : Load) : (s.doneLoad l).img = { s.img with load := none } := by
  unfold State.doneLoad
  dsimp only
  split
  · rfl
  · rw [endSlot_img]
    rfl

/-- A load that fails leaves the active image and the banks, and its code stands in IMG_REJECT (R86). -/
theorem failLoad_spec (s : State) (l : Load) (code : Nat) : (s.failLoad l code).img.active = s.img.active ∧
    (s.failLoad l code).rd A.IMG_REJECT = w16 (l.src * 256 + code) ∧ eventBit (s.failLoad l code) evIMG_REJECT = true ∧
    (s.failLoad l code).bank = s.bank := by
  have hreject : eventBit (s.imgReject l.src code) evIMG_REJECT = true := raise_self _ _ _ _
  have hbank : (s.imgReject l.src code).bank = s.bank := by
    unfold State.imgReject
    rw [raise_bank]
    rfl
  have hact : (s.imgReject l.src code).img.active = s.img.active := congrArg Img.active (imgReject_img s l.src code)
  have hrd := imgReject_rd s l.src code
  unfold State.failLoad
  dsimp only
  generalize s.imgReject l.src code = u at *
  split
  · refine ⟨?_, ?_, ?_, ?_⟩
    · rw [endSlot_img]
      exact hact
    · rw [endSlot_rd _ _ _ _ _ (by unfold Apart; decide)]
      exact hrd
    · exact (endSlot_rings (Rings.refl u.endLoad)).event (by decide) hreject
    · rw [endSlot_bank]
      exact hbank
  · split
    · exact ⟨hact, hrd, hreject, hbank⟩
    · exact ⟨hact, hrd, hreject, hbank⟩

/-- A load of a ticket slot that fails ends it FAILED (R86). -/
theorem failLoad_slot (s : State) {l : Load} {i : Fin 8} (h : l.slot = some i.val) (code : Nat) :
    (s.failLoad l code).img.load = none ∧ ((s.failLoad l code).ops.slots[i]).st = .failed ∧
      ((s.failLoad l code).ops.slots[i]).fail = (if code = 0x11 then failSTORE else failREJECTED) := by
  unfold State.failLoad
  rw [ticket_of_slot h]
  dsimp only
  refine ⟨?_, endSlot_st _ _ _ _, endSlot_fail _ _ _ _⟩
  rw [endSlot_img]
  rfl

theorem verified_img (s : State) (l : Load) (code len : Nat) : (s.verified l code len).img = s.img := by
  unfold State.verified
  split
  · rfl
  · split <;> rfl

/-! ### The whole-image swap (R72, R73) -/

/-- The parts that the swap of a whole image may change behind its reset of the schedule. -/
def besideSched : Parts := recording { everything with sched := false }

theorem besideSched_blks (b : Blk) : b ∈ besideSched.blks := by cases b <;> decide

theorem besideSched_has (r : Reg) : besideSched.Has r := has_all besideSched_blks r

theorem besideSched_records : MayRecord besideSched := mayRecord_recording _

theorem besideSched_raises : MayRaise besideSched := mayRaise_raising _

theorem sched_of_frame {s t : State} (h : forget besideSched t = forget besideSched s) : t.sched = s.sched :=
  (only_of_forget h).sched rfl

theorem resetBlocks_sched (s : State) : (s.resetBlocks).sched = Sched.reset := by
  unfold State.resetBlocks
  extract_lets s1 s2 s3 s4
  refine (each_keeps State.sched (fun u b => ?_) allBanks s4).trans rfl
  refine sched_of_frame ((stopBank_forget _ _ _ rfl).trans ((each_forget _ _ _ (fun v a => modAx_forget _ _ _ _ rfl) _).trans
    ((each_forget _ _ _ (fun v h => modHb_forget _ _ _ _ rfl) _).trans (modBank_forget _ _ _ _ rfl))))

/-- The schedule is empty after the swap of a whole image (R73). -/
theorem wholeSwap_sched (s : State) (c : ImageCfg) (src : Nat) (fallback : Bool) :
    (s.wholeSwap c src fallback).sched = Sched.reset := by
  unfold State.wholeSwap
  extract_lets t s₁ s₂ s₃ s₄ s₅ s₆ clear s₇
  have h₃ : s₃.sched = Sched.reset := by
    refine (sched_of_frame (showImage_forget _ s₂ c (besideSched_has _) (besideSched_has _) (besideSched_has _) (besideSched_has _)
      (besideSched_has _) (besideSched_has _) (besideSched_has _) (besideSched_has _) (besideSched_has _)
      (besideSched_has _))).trans ?_
    unfold s₂
    rw [modImg_sched]
    exact resetBlocks_sched _
  have h₄ : forget besideSched s₄ = forget besideSched s₃ := each_forget _ _ _ (fun u b => bankValues_forget _ _ _ _ besideSched_blks) _
  have h₅ : forget besideSched s₅ = forget besideSched s₄ :=
    (ppsAtSwap_forget _ _ rfl).trans (each_forget _ _ _ (fun u p => takePreset_forget _ _ _ besideSched_blks) _)
  have h₆ : forget besideSched s₆ = forget besideSched s₅ := each_forget _ _ _ (fun u b =>
    (redriveBank_forget _ _ _ _ besideSched_raises rfl rfl rfl (besideSched_has _) (besideSched_has _)).trans
      (loadSteps_forget _ _ _ rfl)) _
  have h₇ : forget besideSched s₇ = forget besideSched s₆ := by
    unfold s₇
    split
    · exact (modRcd_forget_recs _ _ _ rfl rfl).trans
        ((flushDue_forget _ _ besideSched_records).trans (thaw_forget _ _ _ besideSched_records))
    · rfl
  have hend := (raise_forget besideSched (s₇.raiseDomSw 2) evIMG_LOADED 0x00FF (w16 (b2n clear)) (by decide)
    besideSched_raises).trans (raiseDomSw_forget _ _ _ besideSched_raises)
  exact (sched_of_frame (hend.trans (h₇.trans (h₆.trans (h₅.trans h₄))))).trans h₃

/-! ### The bank-image swap (R72, R75) -/

/-- The swap of a bank image changes the bank's configuration in the active image and notes the bank (R75). -/
theorem bankSwap_img (s : State) (b : Fin 8) (c : BankCfg) (tag : Word) : (s.bankSwap b c tag).img =
    { s.img with
      active := s.img.active.map (fun i => { i with banks := i.banks.set b.val c })
      bankImg := s.img.bankImg ||| BitVec.twoPow 8 b.val } := by
  unfold State.bankSwap
  extract_lets t s₁ s₂ s₃ s₄ s₅ s₆ s₇ s₈
  have h₂ : forget releaseRest s₂ = forget releaseRest s₁ := (bankValues_forget _ _ _ _ releaseRest_blks).trans
    ((wr_forget _ _ _ _ (releaseRest_covers _)).trans
      (showBank_forget _ _ _ _ (releaseRest_has _) (releaseRest_has _) (releaseRest_has _)))
  have h₃ : forget releaseRest s₃ = forget releaseRest s₂ := modBank_forget _ _ _ _ rfl
  have h₄ : forget releaseRest s₄ = forget releaseRest s₃ := each_forget _ _ _ (fun u h => modHb_forget _ _ _ _ rfl) _
  have h₅ : forget releaseRest s₅ = forget releaseRest s₄ := each_forget _ _ _ (fun u h => modAx_forget _ _ _ _ rfl) _
  have h₆ : forget releaseRest s₆ = forget releaseRest s₅ := each_forget _ _ _ (fun u a =>
    (rejudge_forget _ _ _ _ releaseRest_raises rfl rfl (releaseRest_has _) (releaseRest_has _) (releaseRest_has _)).trans
      (sideFor_forget _ _ _ _ releaseRest_raises rfl rfl (releaseRest_has _) (releaseRest_has _) (releaseRest_has _))) _
  have h₇ : forget releaseRest s₇ = forget releaseRest s₆ := loadSteps_forget _ _ _ rfl
  have h₈ : forget releaseRest s₈ = forget releaseRest s₇ := by
    refine (redriveBank_forget _ _ _ _ releaseRest_raises rfl rfl rfl (releaseRest_has _) (releaseRest_has _)).trans ?_
    split
    · exact startBank_forget _ _ _ _ rfl
    · exact stopBank_forget _ _ _ rfl
  obtain ⟨himg, -⟩ := frame_img_lands (h₈.trans (h₇.trans (h₆.trans (h₅.trans (h₄.trans (h₃.trans h₂))))))
  rw [raise_img, raise_img, himg]
  rfl

theorem doneLoad_rings (s : State) (l : Load) : Rings s (s.doneLoad l) := by
  unfold State.doneLoad
  dsimp only
  split
  · exact Rings.refl s
  · exact endSlot_rings (Rings.refl s)

theorem bootFallback_rings (s : State) (l : Load) : Rings s (s.bootFallback l) := by
  unfold State.bootFallback
  split
  · exact raise_rings (Rings.refl s)
  · exact Rings.refl s

/-! ### The end of an image's checks (R71, R86) -/

section Verify
variable {s : State} {l : Load} (hload : s.img.load = some l) (hst : l.staged = none) (hby : l.bytes = [])
include hload hst hby

/-- The checks have ended well: the image is staged, or its bytes wait for their slot. -/
theorem imageVerifyDone_good (hcode : s.imageCode (l.src < 2) (s.source l.src) = 0) :
    (imageVerifyDone s).img.active = s.img.active ∧
    (l.dest = 0 → ∃ l', (imageVerifyDone s).img.load = some l' ∧ l'.staged = some (stagedOf (s.source l.src)) ∧ l'.bytes = []) ∧
    (l.dest ≠ 0 → ∃ l', (imageVerifyDone s).img.load = some l' ∧ l'.staged = none ∧ l'.bytes = s.source l.src) := by
  unfold imageVerifyDone
  rw [hload]
  simp only [hst, hby, Option.isSome_none, List.isEmpty_nil, Bool.not_true, Bool.or_self, Bool.false_eq_true, if_false, hcode,
    if_true]
  have hv : (s.verified l 0 (u32at (s.source l.src) 8)).img.active = s.img.active :=
    congrArg Img.active (verified_img s l 0 (u32at (s.source l.src) 8))
  refine ⟨hv, fun hd => ?_, fun hd => ?_⟩
  · rw [if_pos hd]
    exact ⟨_, rfl, rfl, rfl⟩
  · rw [if_neg hd]
    exact ⟨_, rfl, rfl, rfl⟩

/-- A check has failed: its code stands in IMG_REJECT and the operation ends FAILED. -/
theorem imageVerifyDone_bad {i : Fin 8} (hslot : l.slot = some i.val) (hcode : s.imageCode (l.src < 2) (s.source l.src) ≠ 0) :
    (imageVerifyDone s).img.active = s.img.active ∧ (imageVerifyDone s).img.load = none ∧
    ((imageVerifyDone s).ops.slots[i]).st = .failed ∧
    (imageVerifyDone s).rd A.IMG_REJECT = w16 (l.src * 256 + s.imageCode (l.src < 2) (s.source l.src)) ∧
    eventBit (imageVerifyDone s) evIMG_REJECT = true := by
  have himg := verified_img s l (s.imageCode (l.src < 2) (s.source l.src)) (u32at (s.source l.src) 8)
  have hfail : imageVerifyDone s =
      (s.verified l (s.imageCode (l.src < 2) (s.source l.src)) (u32at (s.source l.src) 8)).failLoad l
        (s.imageCode (l.src < 2) (s.source l.src)) := by
    unfold imageVerifyDone
    rw [hload]
    simp only [hst, hby, Option.isSome_none, List.isEmpty_nil, Bool.not_true, Bool.or_self, Bool.false_eq_true, if_false,
      if_neg hcode]
  obtain ⟨ha, hr, he, -⟩ := failLoad_spec (s.verified l (s.imageCode (l.src < 2) (s.source l.src)) (u32at (s.source l.src) 8)) l
    (s.imageCode (l.src < 2) (s.source l.src))
  obtain ⟨hl, hf, -⟩ := failLoad_slot (s.verified l (s.imageCode (l.src < 2) (s.source l.src)) (u32at (s.source l.src) 8)) hslot
    (s.imageCode (l.src < 2) (s.source l.src))
  rw [hfail]
  exact ⟨ha.trans (congrArg Img.active himg), hl, hf, hr, he⟩

end Verify

/-! ### The swap ticks (R72, R73, R75) -/

section Swap
variable {s : State} {l : Load} (hup : s.up = true) (hload : s.img.load = some l)
include hup hload

theorem exec_wholeImageSwap {c : ImageCfg} (hst : l.staged = some (.whole c)) :
    exec .wholeImageSwap s = .next (wholeImageSwap l c s) := by
  change execWholeImageSwap s = _
  rw [execWholeImageSwap, whenUp_of_up hup, hload]
  simp only [hst]

theorem exec_bankImageSwap {b : Fin 8} {c : BankCfg} {tag : Word} (hst : l.staged = some (.bank b.val c tag)) :
    exec .bankImageSwap s =
      .next (if (s.bank[b]).armed = true then s.failLoad l 0x10 else (s.bankSwap b c tag).doneLoad l) := by
  change execBankImageSwap s = _
  rw [execBankImageSwap, whenUp_of_up hup, hload]
  simp only [hst, dif_pos b.isLt, bankImageSwap, Fin.eta]

/-- A whole image swapped in: the schedule is empty, the banks' images are the image's own, and no bank is armed. -/
theorem wholeImage_swapped {c : ImageCfg} (hst : l.staged = some (.whole c)) (harm : s.anyArmed = false) :
    (wholeImageSwap l c s).img.active = some c ∧ (wholeImageSwap l c s).img.load = none ∧
    (wholeImageSwap l c s).img.bankImg = 0 ∧ (wholeImageSwap l c s).sched.q = [] ∧
    (∀ b : Fin 8, ((wholeImageSwap l c s).bank[b]).armed = false) ∧ eventBit (wholeImageSwap l c s) evIMG_LOADED = true := by
  have hexec := exec_wholeImageSwap hup hload hst
  have hswap : wholeImageSwap l c s = ((s.wholeSwap c l.src (l.slot.isNone && l.second.isSome)).bootFallback l).doneLoad l := by
    simp only [wholeImageSwap, harm, Bool.false_eq_true, if_false]
  have hwhole := ((wholeSwap_wholeOnly s c l.src (l.slot.isNone && l.second.isSome)).bootFallback l).doneLoad l
  refine ⟨by rw [hswap]; exact hwhole.active, by rw [hswap, doneLoad_img], by rw [hswap]; exact hwhole.noBankImg, ?_,
    fun b => ?_, ?_⟩
  · have h1 : ∀ u : State, (u.doneLoad l).sched = u.sched := fun u =>
      sched_of_frame (doneLoad_forget _ _ _ besideSched_raises rfl rfl)
    have h2 : ∀ u : State, (u.bootFallback l).sched = u.sched := fun u =>
      sched_of_frame (bootFallback_forget _ _ _ besideSched_raises)
    rw [hswap, h1, h2, wholeSwap_sched]
    rfl
  · refine onlyArmingArms .wholeImageSwap s _ hexec nofun (fun _ _ => nofun) (fun _ _ _ _ => nofun) b ?_
    have := List.any_eq_false.mp harm b (List.mem_finRange b)
    simpa using this
  · rw [hswap]
    refine ((bootFallback_rings _ l).trans (doneLoad_rings _ l)).event (by decide) ?_
    unfold State.wholeSwap
    extract_lets t s₁ s₂ s₃ s₄ s₅ s₆ clear s₇
    exact raise_self _ _ _ _

/-- A bank image swapped in replaces its bank's image alone. -/
theorem bankImage_swapped {b : Fin 8} {c : BankCfg} {tag : Word} (hst : l.staged = some (.bank b.val c tag))
    (harm : (s.bank[b]).armed = false) : ∃ t, exec .bankImageSwap s = .next t ∧
      t.img.active = s.img.active.map (fun i => { i with banks := i.banks.set b.val c }) ∧ t.img.load = none ∧
      t.img.bankImg.getLsbD b.val = true ∧ (t.bank[b]).armed = false ∧ eventBit t (evBANK_CFG b) = true := by
  have hexec : exec .bankImageSwap s = .next ((s.bankSwap b c tag).doneLoad l) := by
    rw [exec_bankImageSwap hup hload hst, harm, if_neg nofun]
  refine ⟨_, hexec, by rw [doneLoad_img, bankSwap_img], by rw [doneLoad_img], ?_, ?_, ?_⟩
  · rw [doneLoad_img, bankSwap_img]
    simp
  · exact onlyArmingArms .bankImageSwap s _ hexec nofun (fun _ _ => nofun) (fun _ _ _ _ => nofun) b harm
  · refine (doneLoad_rings _ l).event (by unfold evBANK_CFG; dsimp only; omega) ?_
    unfold State.bankSwap
    extract_lets t s₁ s₂ s₃ s₄ s₅ s₆ s₇ s₈
    exact raise_self _ _ _ _

end Swap

/-- Settles O26: the checks' end by its code, and the swap ticks by whether a bank that they replace is armed. -/
theorem imageChecksAndSwaps : Obligations.ImageChecksAndSwaps := by
  refine ⟨fun s l i hup hload hst hby hslot => ?_, fun s l hup hload => ⟨fun c hst => ⟨fun harm hs => ⟨s.failLoad l 0x10, ?_,
    failLoad_spec s l 0x10⟩, fun harm => ⟨_, exec_wholeImageSwap hup hload hst, wholeImage_swapped hup hload hst harm⟩⟩,
    fun b c tag hst => ⟨fun harm hs => ⟨s.failLoad l 0x10, ?_, failLoad_spec s l 0x10⟩,
      fun harm => bankImage_swapped hup hload hst harm⟩⟩⟩
  · have hexec : exec .imageVerifyDone s = .next (imageVerifyDone s) := by
      change execImageVerifyDone s = _
      rw [execImageVerifyDone, whenUp_of_up hup]
    exact ⟨fun hcode => ⟨_, hexec, imageVerifyDone_good hload hst hby hcode⟩,
      fun hcode => ⟨_, hexec, imageVerifyDone_bad hload hst hby hslot hcode⟩⟩
  · rw [exec_wholeImageSwap hup hload hst]
    simp only [wholeImageSwap, harm, if_true]
  · rw [exec_bankImageSwap hup hload hst, if_pos harm]

end Sys2Proof.Proofs
end

section
/-! SUPPORT. Proofs of the parts of a slot write (R79, R406) and of key programming (R80, R88). -/
namespace Sys2Proof.Proofs
set_option Elab.async false
open Sys2Proof.Machine Sys2Proof.Safety Sys2Proof.Laws

/-! ### The parts of a slot write (R79) -/

theorem mapGet_filter_out {α : Type} (l : List (Nat × α)) (k : Nat) (P : Nat × α → Bool) (h : ∀ v, P (k, v) = false) :
    mapGet (l.filter P) k = none := by
  induction l with
  | nil => rfl
  | cons x xs ih =>
    obtain ⟨n, v⟩ := x
    rw [List.filter_cons]
    split
    next hp =>
      have hne : n ≠ k := by
        rintro rfl
        rw [h v] at hp
        cases hp
      rw [mapGet, if_neg hne, ih]
    · exact ih

/-- Every byte of an erased sector reads erased, and every other byte as before. -/
theorem eraseBytes_rd (s : State) (n a : Nat) : cellRd 0xFF (s.eraseBytes n).store.mem a =
    if a < secBase n ∨ secBase n + 4096 ≤ a then cellRd 0xFF s.store.mem a else 0xFF := by
  have hnext : secBase (n + 1) = secBase n + 4096 := by unfold secBase; omega
  rw [eraseBytes_mem, hnext]
  unfold cellRd
  split
  next h => rw [mapGet_filter _ _ _ (fun v => by simpa using h)]
  next h =>
    rw [mapGet_filter_out _ _ _ (fun v => by simpa using h)]
    rfl

/-- The state once the part `p` has been written: the load has moved on, and so has the progress of its slot. -/
def partWritten (i : Fin 8) (p : State × Load) : State :=
  (p.1.modImg (fun x => { x with load := some p.2 })).modSlot i
    (fun x => { x with progress := max x.progress (p.2.progress p.2.len) })

theorem partWritten_mem (i : Fin 8) (p : State × Load) : (partWritten i p).store.mem = p.1.store.mem := rfl

theorem partWritten_load (i : Fin 8) (p : State × Load) : (partWritten i p).img.load = some p.2 := rfl

theorem failLoad_mem (s : State) (l : Load) (code : Nat) : (s.failLoad l code).store.mem = s.store.mem :=
  Byteless.mem (by simp only [Byteless, failLoad_forget, beyondBytes_parts])

theorem doneLoad_mem (s : State) (l : Load) : (s.doneLoad l).store.mem = s.store.mem :=
  Byteless.mem (by simp only [Byteless, doneLoad_forget, beyondBytes_parts])

section SlotWrite
variable {s : State} {l : Load} {i : Fin 8}

theorem writePart_erase (he : l.erased < 32) (ok : Bool) : s.writePart l ok =
    (s.eraseBytes (l.firstSec + l.erased), { l with erased := l.erased + 1, bad := l.bad || !ok }) := by
  rw [State.writePart, if_pos he]

theorem writePart_program (he : 32 ≤ l.erased) : s.writePart l true =
    (s.modStore (fun t => { t with
      mem := cellWrs 0xFF t.mem (slotBase (l.dest - 1) + l.done) ((l.bytes.drop l.done).take 256) }),
      { l with done := l.done + ((l.bytes.drop l.done).take 256).length, bad := l.bad || !true }) := by
  rw [State.writePart, if_neg (by omega)]
  rfl

/-- A part that does not read back marks the load (R79). -/
theorem writePart_bad : (s.writePart l false).2.bad = true ∧ (s.writePart l false).2.slot = l.slot := by
  unfold State.writePart
  split
  · exact ⟨Bool.or_true _, rfl⟩
  · exact ⟨Bool.or_true _, rfl⟩

variable (hstop : l.stopping = false)
include hstop

theorem slotWriteBurst_held (hgate : s.gateOpen l.cost = false) (ok : Bool) : slotWriteBurst l i ok s = s := by
  simp only [slotWriteBurst, hstop, hgate, Bool.false_eq_true, if_false]

/-- With the gate open and no abort a part is written, and after the last one the operation ends (R79). -/
theorem slotWriteBurst_part (hgate : s.gateOpen l.cost = true) (habort : (s.ops.slots[i]).abort = none) (ok : Bool) :
    slotWriteBurst l i ok s =
      if (s.writePart l ok).2.done < (s.writePart l ok).2.bytes.length then partWritten i (s.writePart l ok)
      else if (s.writePart l ok).2.bad then (partWritten i (s.writePart l ok)).failLoad (s.writePart l ok).2 0x11
      else (partWritten i (s.writePart l ok)).doneLoad (s.writePart l ok).2 := by
  unfold slotWriteBurst
  simp only [hstop, hgate, habort, Bool.false_eq_true, if_false, if_true]
  rfl

end SlotWrite

/-- A part of a slot write is written at a burst boundary that neither an append nor a compaction step takes (R406). -/
theorem exec_slotWriteBurst {s : State} {l : Load} {i : Fin 8} (hup : s.up = true) (hload : s.img.load = some l)
    (hslot : l.slot = some i.val) (hby : l.bytes ≠ []) (hburst : s.store.burst = none) (hdue : s.storeDue = false) (ok : Bool) :
    exec (.slotWriteBurst ok) s = .next (slotWriteBurst l i ok s) := by
  change execSlotWriteBurst ok s = _
  rw [execSlotWriteBurst, whenUp_of_up hup, hload]
  have hne : l.bytes.isEmpty = false := List.isEmpty_eq_false_iff.mpr hby
  simp only [ticket_of_slot hslot, hne, hburst, hdue, Option.isNone_none, Bool.not_false, Bool.and_self, if_true]

theorem exec_slotWriteBurst_due {s : State} (hdue : s.storeDue = true) (ok : Bool) : exec (.slotWriteBurst ok) s = .next s := by
  change execSlotWriteBurst ok s = _
  rw [execSlotWriteBurst]
  unfold State.whenUp
  split
  · dsimp only
    split
    · rfl
    · split
      · simp [hdue]
      · rfl
  · rfl

theorem part_length (l : Load) : ((l.bytes.drop l.done).take 256).length = min 256 (l.bytes.length - l.done) := by simp

/-- A byte that a program burst of a slot write has written, and the bytes it leaves (R79). -/
theorem program_rd (m : List Host.Cell) (l : Load) (base a : Nat) :
    (∀ k, k < 256 → l.done + k < l.bytes.length → a = base + l.done + k →
      cellRd 0xFF (cellWrs 0xFF m (base + l.done) ((l.bytes.drop l.done).take 256)) a = l.bytes[l.done + k]?.getD 0) ∧
    (a < base + l.done ∨ base + l.done + min 256 (l.bytes.length - l.done) ≤ a →
      cellRd 0xFF (cellWrs 0xFF m (base + l.done) ((l.bytes.drop l.done).take 256)) a = cellRd 0xFF m a) := by
  constructor
  · rintro k hk hlt rfl
    rw [cellRd_cellWrs_of_in 0xFF _ m (base + l.done) k (by rw [part_length]; omega)]
    rw [List.getElem_take, List.getElem_drop, List.getElem?_eq_getElem hlt]
    rfl
  · intro h
    rw [cellRd_cellWrs_of_out 0xFF _ m _ a (by rw [part_length]; omega)]

/-! ### Key programming (R80, R88) -/

theorem exec_keyCmd {s : State} (hup : s.up = true) (hears : s.hears = true) :
    exec .keyCmdArm s = .next (keyCmd 0x00C3 s) ∧ exec .keyCmdProgram s = .next (keyCmd 0x003C s) := by
  constructor
  · change execKeyCmdArm s = _
    rw [execKeyCmdArm, whenHost_of_hears hup hears]
  · change execKeyCmdProgram s = _
    rw [execKeyCmdProgram, whenHost_of_hears hup hears]

theorem keyRun_of_open {s : State} (h : s.keyOpen = true) : s.img.keyRun = false := by
  unfold State.keyOpen at h
  rw [Bool.and_eq_true] at h
  simpa using h.2

/-- The key slot's state field under the bit of key_err that stays. -/
theorem field_keyState (w : Word) (n : Nat) (hn : n < 4) : field ((w &&& bitW 2) ||| w16 n) 1 0 = n := by
  have h : (((w &&& bitW 2) ||| w16 n) : Word).toNat % 4 = n := by
    have hb : (w &&& bitW 2).toNat % 4 = 0 := by
      rw [BitVec.toNat_and, show (bitW 2).toNat = 4 from rfl, show 4 = 2 ^ 2 from rfl, Nat.and_mod_two_pow]
      exact Nat.and_zero _
    have hm : ∀ x y : Nat, (x ||| y) % 2 ^ 2 = (x % 2 ^ 2) ||| (y % 2 ^ 2) := fun x y => Nat.or_mod_two_pow
    have hw : (w16 n).toNat = n := by
      rw [w16, BitVec.toNat_ofNat, Nat.mod_eq_of_lt (by omega)]
    rw [BitVec.toNat_or, show 4 = 2 ^ 2 from rfl, hm, show 2 ^ 2 = 4 from rfl, hb, hw, Nat.zero_or, Nat.mod_eq_of_lt hn]
  simpa [field] using h

section Slot
variable {s : State} {l : Load} {i : Fin 8} (hup : s.up = true) (hload : s.img.load = some l) (hslot : l.slot = some i.val)
  (hby : l.bytes ≠ []) (hburst : s.store.burst = none) (hstop : l.stopping = false)
include hup hload hslot hby hburst hstop

/-- A closed gate, or a burst of the store that is due, holds the next part back (R406). -/
theorem slotWrite_held (hheld : s.gateOpen l.cost = false ∨ s.storeDue = true) (ok : Bool) :
    exec (.slotWriteBurst ok) s = .next s := by
  rcases Bool.eq_false_or_eq_true s.storeDue with hd | hd
  · exact exec_slotWriteBurst_due hd ok
  · rcases hheld with hg | hd'
    · rw [exec_slotWriteBurst hup hload hslot hby hburst hd, slotWriteBurst_held hstop hg]
    · exact absurd (hd.symm.trans hd') (by decide)

variable (hgate : s.gateOpen l.cost = true) (hdue : s.storeDue = false) (habort : (s.ops.slots[i]).abort = none)
include hgate hdue habort

/-- The erase of the next sector of the slot (R79). -/
theorem slotWrite_erases (hlt : l.done < l.bytes.length) (he : l.erased < 32) :
    ∃ t, exec (.slotWriteBurst true) s = .next t ∧ t.img.load = some { l with erased := l.erased + 1 } ∧
      (∀ k, k < 4096 → cellRd 0xFF t.store.mem (secBase (l.firstSec + l.erased) + k) = 0xFF) ∧
      ∀ a, a < secBase (l.firstSec + l.erased) ∨ secBase (l.firstSec + l.erased) + 4096 ≤ a →
        cellRd 0xFF t.store.mem a = cellRd 0xFF s.store.mem a := by
  refine ⟨_, exec_slotWriteBurst hup hload hslot hby hburst hdue true, ?_⟩
  rw [slotWriteBurst_part hstop hgate habort, writePart_erase he]
  rw [if_pos hlt, partWritten_load, partWritten_mem]
  refine ⟨by simp, fun k hk => ?_, fun a ha => ?_⟩
  · rw [eraseBytes_rd, if_neg (by omega)]
  · rw [eraseBytes_rd, if_pos ha]

/-- A part that does not read back marks the load (R79). -/
theorem slotWrite_bad : ∃ u, exec (.slotWriteBurst false) s = .next u ∧ ∀ l', u.img.load = some l' → l'.bad = true := by
  refine ⟨_, exec_slotWriteBurst hup hload hslot hby hburst hdue false, fun l' hl' => ?_⟩
  obtain ⟨hb, hs⟩ := writePart_bad (s := s) (l := l)
  rw [slotWriteBurst_part hstop hgate habort] at hl'
  split at hl'
  · rw [partWritten_load] at hl'
    cases hl'
    exact hb
  · rw [(failLoad_slot _ (hs.trans hslot) 0x11).1] at hl'
    cases hl'

omit hup hload hslot hby hburst hdue in
/-- What a part stores stands in the array, whether the load goes on or ends with it. -/
theorem slotWrite_mem : (slotWriteBurst l i true s).store.mem = (partWritten i (s.writePart l true)).store.mem := by
  rw [slotWriteBurst_part hstop hgate habort]
  split
  · rfl
  · split
    · exact failLoad_mem _ _ _
    · exact doneLoad_mem _ _

omit hup hload hby hburst hdue in
/-- The end of a slot write after its last part: DONE, or FAILED with STORE where a part did not read back (R79). -/
theorem slotWrite_ends (he : 32 ≤ l.erased) (hlast : l.bytes.length ≤ l.done + 256) :
    (l.bad = false → (slotWriteBurst l i true s).img.load = none ∧ ((slotWriteBurst l i true s).ops.slots[i]).st = .done) ∧
    (l.bad = true → (slotWriteBurst l i true s).img.load = none ∧ ((slotWriteBurst l i true s).ops.slots[i]).st = .failed ∧
      ((slotWriteBurst l i true s).ops.slots[i]).fail = failSTORE ∧
      (slotWriteBurst l i true s).rd A.IMG_REJECT = w16 (l.src * 256 + 0x11)) := by
  have hdone : ¬ (s.writePart l true).2.done < (s.writePart l true).2.bytes.length := by
    have hpart := part_length l
    rw [writePart_program he]
    dsimp only
    omega
  have hbad : (s.writePart l true).2.bad = l.bad := by
    rw [writePart_program he]
    simp
  have hsl : (s.writePart l true).2.slot = some i.val := by
    rw [writePart_program he]
    exact hslot
  have hsrc : (s.writePart l true).2.src = l.src := by rw [writePart_program he]
  rw [slotWriteBurst_part hstop hgate habort, if_neg hdone, hbad]
  refine ⟨fun hb => ?_, fun hb => ?_⟩
  · rw [hb, if_neg nofun, doneLoad_img]
    refine ⟨rfl, ?_⟩
    unfold State.doneLoad
    dsimp only
    rw [ticket_of_slot hsl]
    exact endSlot_st _ _ _ _
  · rw [hb, if_pos rfl]
    obtain ⟨h1, h2, h3⟩ := failLoad_slot (partWritten i (s.writePart l true)) hsl 0x11
    obtain ⟨-, h4, -⟩ := failLoad_spec (partWritten i (s.writePart l true)) (s.writePart l true).2 0x11
    rw [hsrc] at h4
    exact ⟨h1, h2, h3, h4⟩

omit hup hload hslot hby hburst hdue in
/-- A part that is not the last moves the load on (R79). -/
theorem slotWrite_goesOn (he : 32 ≤ l.erased) (hmore : l.done + 256 < l.bytes.length) :
    (slotWriteBurst l i true s).img.load = some { l with done := l.done + 256 } := by
  have hpart := part_length l
  rw [slotWriteBurst_part hstop hgate habort, if_pos (by rw [writePart_program he]; dsimp only; omega), partWritten_load,
    writePart_program he, hpart, Nat.min_eq_left (by omega)]
  simp

omit hup hload hslot hby hburst hdue in
/-- The bytes of a part stand in the slot, and every other byte as before (R79). -/
theorem slotWrite_bytes (he : 32 ≤ l.erased) (a : Nat) :
    (∀ k, k < 256 → l.done + k < l.bytes.length → a = slotBase (l.dest - 1) + l.done + k →
      cellRd 0xFF (slotWriteBurst l i true s).store.mem a = l.bytes[l.done + k]?.getD 0) ∧
    (a < slotBase (l.dest - 1) + l.done ∨ slotBase (l.dest - 1) + l.done + min 256 (l.bytes.length - l.done) ≤ a →
      cellRd 0xFF (slotWriteBurst l i true s).store.mem a = cellRd 0xFF s.store.mem a) := by
  rw [slotWrite_mem hstop hgate habort, partWritten_mem, writePart_program he]
  exact program_rd s.store.mem l (slotBase (l.dest - 1)) a

end Slot

/-! ### The key slot (R80, R88) -/

section Key
variable {s : State} (hup : s.up = true) (hears : s.hears = true)
include hup hears

theorem exec_keydata (d : Word) : exec (.imgKeydataWrite d) s = .next (imgKeydataWrite d s) := by
  change execImgKeydataWrite d s = _
  rw [execImgKeydataWrite, whenHost_of_hears hup hears]

/-- A key slot that is not open takes neither words nor commands (R80). -/
theorem keyClosed (hclosed : s.keyOpen = false) (d : Word) :
    exec (.imgKeydataWrite d) s = .next s ∧ exec .keyCmdArm s = .next s ∧ exec .keyCmdProgram s = .next s := by
  obtain ⟨h1, h2⟩ := exec_keyCmd hup hears
  have hk : ∀ d, keyCmd d s = s := fun d => by simp [keyCmd, hclosed]
  refine ⟨?_, by rw [h1, hk], by rw [h2, hk]⟩
  rw [exec_keydata hup hears]
  simp [imgKeydataWrite, hclosed]

/-- A broken sequence sets key_err and drops the words (R80). -/
theorem keyBroken_spec (hopen : s.keyOpen = true) (hbad : s.img.keyArm = false ∨ s.img.keyWords.length ≠ 16) :
    ∃ t, exec .keyCmdProgram s = .next t ∧ bit (t.rd A.IMG_KEYSTAT) 2 = true ∧ t.img.keyWords = [] ∧ t.img.keyArm = false ∧
      t.img.keyRun = false ∧ t.img.key = s.img.key := by
  refine ⟨_, (exec_keyCmd hup hears).2, ?_⟩
  have hbroken : keyCmd 0x003C s = s.keyBroken := by
    unfold keyCmd
    rw [hopen]
    simp only [Bool.not_true, Bool.false_eq_true, if_false]
    rw [if_neg (by rintro ⟨h, -⟩; exact absurd h (by decide)), if_neg]
    rintro ⟨-, ha, hl⟩
    rcases hbad with h | h
    · exact absurd (ha.symm.trans h) (by decide)
    · exact h hl
  rw [hbroken]
  exact ⟨setFlags_bit _ _ (by decide), rfl, rfl, keyRun_of_open hopen, rfl⟩

end Key

/-- The end of the programming of the key slot (R80, R88). -/
theorem keyDone {s : State} (hrun : s.img.keyRun = true) :
    (∃ t, exec (.keyProgramDone true) s = .next t ∧ t.img.keySt = .programmed ∧ t.img.keyRun = false ∧
      field (t.rd A.IMG_KEYSTAT) 1 0 = 1 ∧ t.rd A.IMG_KEYCHK = w16 (u16 (hmac s.img.key (List.replicate 16 0)) 0)) ∧
    (∃ t, exec (.keyProgramDone false) s = .next t ∧ t.img.keySt = .damaged ∧ t.img.keyRun = false ∧
      field (t.rd A.IMG_KEYSTAT) 1 0 = 2) := by
  have hexec (ok : Bool) : exec (.keyProgramDone ok) s = .next (keyProgramDone ok s) := by
    change execKeyProgramDone ok s = _
    rw [execKeyProgramDone, if_pos hrun]
  refine ⟨⟨_, hexec true, rfl, rfl, ?_, ?_⟩, ⟨_, hexec false, rfl, rfl, ?_⟩⟩
  · show field (((_ : State).wr A.IMG_KEYCHK _).rd A.IMG_KEYSTAT) 1 0 = 1
    rw [rd_wr, if_neg (by decide), rd_wr, if_pos rfl]
    exact field_keyState _ 1 (by decide)
  · show ((_ : State).wr A.IMG_KEYCHK _).rd A.IMG_KEYCHK = _
    rw [rd_wr, if_pos rfl]
    rfl
  · show field (((_ : State).wr A.IMG_KEYCHK _).rd A.IMG_KEYSTAT) 1 0 = 2
    rw [rd_wr, if_neg (by decide), rd_wr, if_pos rfl]
    exact field_keyState _ 2 (by decide)

/-- Settles O27: a part by the sector or the bytes it writes; the key slot by its open state. -/
theorem slotAndKeyProgramming : Obligations.SlotAndKeyProgramming := by
  refine ⟨fun s l i hup hload hslot hby hburst hstop => ⟨fun hheld ok => slotWrite_held hup hload hslot hby hburst hstop hheld ok,
    fun hgate hdue habort hlt => ⟨fun he => slotWrite_erases hup hload hslot hby hburst hstop hgate hdue habort hlt he,
      fun he => ⟨_, exec_slotWriteBurst hup hload hslot hby hburst hdue true, ?_⟩⟩⟩,
    fun s d hup hears => ⟨fun hopen => ⟨_, exec_keydata hup hears d, ?_⟩, fun hclosed => keyClosed hup hears hclosed d⟩,
    fun s hup hears hopen => ⟨fun harm => ?_, fun harm hlen => ⟨_, (exec_keyCmd hup hears).2, ?_⟩,
      fun hbad => keyBroken_spec hup hears hopen hbad⟩, fun s hrun => keyDone hrun⟩
  · have hends := slotWrite_ends hslot hstop hgate habort he
    exact ⟨fun k hk hkl => (slotWrite_bytes hstop hgate habort he _).1 k hk hkl rfl,
      fun a ha => (slotWrite_bytes hstop hgate habort he a).2 ha, fun hmore => slotWrite_goesOn hstop hgate habort he hmore,
      fun hlast => (hends hlast).1, fun hlast => (hends hlast).2,
      slotWrite_bad hup hload hslot hby hburst hstop hgate hdue habort⟩
  · rw [imgKeydataWrite, if_pos hopen]
    exact ⟨rfl, rfl⟩
  · rw [(exec_keyCmd hup hears).1]
    simp only [keyCmd, hopen, harm, Bool.not_true, Bool.false_eq_true, if_false, and_self, if_true]
    rfl
  · simp [keyCmd, hopen, harm, hlen]

end Sys2Proof.Proofs
end

section
/-! SUPPORT. Proofs of doorbells, starts, releases and aborts of long operations (R136, R137, R141, R142, R144). -/
namespace Sys2Proof.Proofs
set_option Elab.async false
open Sys2Proof.Machine Sys2Proof.Safety Sys2Proof.Laws

/-! ### Ticket slots -/

/-- What the end of an operation makes of its slot (R138, R142, R143). -/
theorem endSlot_slot (s : State) (i : Fin 8) (st : OpState) (fail : Nat) : (s.endSlot i st fail).ops.slots[i] =
    { s.ops.slots[i] with
      st := st, fail := fail, abort := none, progress := if st = .done then 255 else (s.ops.slots[i]).progress } := by
  unfold State.endSlot
  extract_lets x s1 s2
  have e : s2.ops.slots = s1.ops.slots := rfl
  rw [raise_ops, e]
  unfold s1
  rw [modSlot_get, if_pos rfl]

theorem endSlot_otherSlot (s : State) {i j : Fin 8} (h : j ≠ i) (st : OpState) (fail : Nat) :
    (s.endSlot i st fail).ops.slots[j] = s.ops.slots[j] := by
  unfold State.endSlot
  extract_lets x s1 s2
  have e : s2.ops.slots = s1.ops.slots := rfl
  rw [raise_ops, e]
  unfold s1
  rw [modSlot_get, if_neg (Ne.symm h)]

theorem endSlot_order (s : State) (i : Fin 8) (st : OpState) (fail : Nat) :
    (s.endSlot i st fail).ops.order = s.ops.order.filter (· != i.val) ∧ (s.endSlot i st fail).ops.gen = s.ops.gen := by
  unfold State.endSlot
  extract_lets x s1 s2
  rw [raise_ops]
  exact ⟨rfl, rfl⟩

/-! ### The start of an operation (R137) -/

/-- The slot of an operation that begins. -/
def begun (s : State) (i : Fin 8) : OpSlot := { s.ops.slots[i] with st := .running, started := s.clk.ticks, deferred := 0 }

/-- The state of the ticket slots once an operation has begun: its slot runs and is queued no more (R137, R138). -/
structure Begins (i : Fin 8) (s t : State) : Prop where
  slot : t.ops.slots[i] = begun s i
  other : ∀ j : Fin 8, j ≠ i → t.ops.slots[j] = s.ops.slots[j]
  order : t.ops.order = s.ops.order.filter (· != i.val)
  gen : t.ops.gen = s.ops.gen
  regs : t.regs = s.regs

theorem Begins.of_ops {i : Fin 8} {s t u : State} (h : Begins i s t) (ho : u.ops = t.ops) (hr : u.regs = t.regs) : Begins i s u :=
  ⟨by rw [ho, h.slot], fun j n => by rw [ho, h.other j n], by rw [ho, h.order], by rw [ho, h.gen], hr.trans h.regs⟩

/-- Any operation but an IMAGE_LOAD under the factory strap runs from its beginning (R83, R137). -/
theorem beginOp_begins {s : State} {i : Fin 8} (h : (s.ops.slots[i]).op ≠ opIMAGE_LOAD ∨ s.lands.bootsel ≠ 3) :
    Begins i s (s.beginOp i) := by
  unfold State.beginOp
  extract_lets x now s1 s2
  have h2 : Begins i s s2 := by
    refine ⟨?_, fun j n => ?_, rfl, rfl, rfl⟩
    · unfold s2
      rw [modSlot_get, if_pos rfl]
      rfl
    · unfold s2
      rw [modSlot_get, if_neg (Ne.symm n)]
      rfl
  split
  next hop =>
    have hb : s2.lands.bootsel ≠ 3 := h.resolve_left (fun c => c hop)
    rw [if_neg hb]
    exact h2.of_ops rfl rfl
  next =>
    split
    · exact h2.of_ops rfl rfl
    · split
      · have hk : ∀ u : State, (u.each x.banks (fun s b => s.modBank b (fun y => { y with calSum := 0, calCnt := 0 }))).ops = u.ops ∧
            (u.each x.banks (fun s b => s.modBank b (fun y => { y with calSum := 0, calCnt := 0 }))).regs = u.regs := fun u =>
          ⟨each_keeps State.ops (f := fun (s : State) b => s.modBank b (fun y => { y with calSum := 0, calCnt := 0 }))
              (fun _ _ => rfl) _ u,
            each_keeps State.regs (f := fun (s : State) b => s.modBank b (fun y => { y with calSum := 0, calCnt := 0 }))
              (fun _ _ => rfl) _ u⟩
        exact h2.of_ops (hk s2).1 (hk s2).2
      · split
        · exact h2.of_ops rfl rfl
        · exact h2

/-- MOTOR_ID takes its axis (R271). -/
theorem beginOp_motor {s : State} {i : Fin 8} (hop : (s.ops.slots[i]).op = opMOTOR_ID) :
    ((s.beginOp i).ax[(s.ops.slots[i]).motor]).st = .ident := by
  unfold State.beginOp
  extract_lets x now s1 s2
  rw [if_neg (by rw [show x.op = opMOTOR_ID from hop]; decide), if_pos (show x.op = opMOTOR_ID from hop), modAx_get,
    if_pos rfl]

/-- A slot whose turn it is starts by its preconditions. -/
theorem opStart_turn {s : State} {i : Fin 8} (hq : (s.ops.slots[i]).st = .queued)
    (hidle : s.classBusy (opClass (s.ops.slots[i]).op) = false) (hturn : s.firstOf (opClass (s.ops.slots[i]).op) = some i.val) :
    opStart i s = if s.opReady (s.ops.slots[i]) then s.beginOp i else s.endSlot i .failed failPRECOND := by
  unfold opStart
  extract_lets x c
  rw [if_pos ⟨hq, hidle, hturn⟩]
  rfl

/-! ### Doorbells (R136, R144) -/

/-- A legal doorbell writes OP_CMD, whose operation is the doorbell (R136). -/
theorem ring_legal {s : State} (hup : s.up = true) (hears : s.hears = true) {op : Nat} (hop : op < 256)
    (hlegal : s.legal A.OP_CMD (w16 (256 * op)) = true) : s.ring op = doorbell op s := by
  have hrow : lookup A.OP_CMD = some (⟨.OP_CMD, 0x0218, [], 0x0000, [fld 15 8 .WO]⟩, []) := by decide
  have hf : field (w16 (256 * op)) 15 8 = op := by
    simp only [field, w16, BitVec.toNat_ofNat]
    omega
  rw [State.ring, State.hostWord, State.hostWordAt, whenHost_of_hears hup hears,
    writeWord_core hrow nofun nofun nofun (by decide) rfl hlegal]
  show doorbell (field (w16 (256 * op)) 15 8) s = _
  rw [hf]

theorem exec_doorbell {s : State} (hup : s.up = true) (hears : s.hears = true) {p : Nat × Instr}
    (hp : p ∈ ([(opIMAGE_LOAD, .imageLoad), (opSHUNT_CAL, .shuntCal), (opDLINE_CAL, .dlineCal), (opSELF_TEST, .selfTest),
      (opMOTOR_ID, .motorId), (opCOMPACT, .compact)] : List (Nat × Instr)))
    (hlegal : s.legal A.OP_CMD (w16 (256 * p.1)) = true) :
    exec p.2 s = .next (doorbell p.1 s) ∧ opCodes.contains p.1 = true := by
  simp only [List.mem_cons, List.not_mem_nil, or_false] at hp
  have hop : p.1 < 256 ∧ opCodes.contains p.1 = true := by
    rcases hp with rfl | rfl | rfl | rfl | rfl | rfl <;> decide
  refine ⟨?_, hop.2⟩
  rw [← ring_legal hup hears hop.1 hlegal]
  rcases hp with rfl | rfl | rfl | rfl | rfl | rfl <;> rfl

/-- A queued slot takes no class and its turn is not the queue's: what the start reads is as before the doorbell. -/
theorem enqueued_busy {s : State} {op : Nat} {i : Fin 8} (hfree : (s.ops.slots[i]).st = .free) {c : Nat}
    (hbusy : s.classBusy c = true) : (enqueued s op i).classBusy c = true := by
  simp only [State.classBusy, Bool.or_eq_true, List.any_eq_true] at hbusy ⊢
  rcases hbusy with h | ⟨j, hj, ha⟩
  · exact Or.inl h
  · refine Or.inr ⟨j, hj, ?_⟩
    have hne : j ≠ i := by
      rintro rfl
      rw [hfree] at ha
      simp [OpState.active] at ha
    rw [enqueued_otherSlot s op i hne]
    exact ha

theorem enqueued_rd {s : State} {op : Nat} {i : Fin 8} (a : Nat) :
    (enqueued s op i).rd a = if a = A.OP_TICKET then w16 (0x4000 + (newSlot s op).ticket i) else s.rd a := by
  unfold enqueued
  rw [rd_wr]
  rfl

/-- What the preconditions read of a doorbell's slot does not depend on the words behind its eight parameters, nor on the
ticket that it returns (R135). -/
theorem enqueued_ready {s : State} {op : Nat} {i : Fin 8} :
    (enqueued s op i).opReady (newSlot s op) = s.opReady { OpSlot.reset with op := op, params := s.opParams } := by
  by_cases him : op = opIMAGE_LOAD
  · rw [opReady_imageLoad _ him, opReady_imageLoad _ him]
  · have hp : ∀ k, (newSlot s op).param k = OpSlot.param { OpSlot.reset with op := op, params := s.opParams } k := by
      intro k
      unfold OpSlot.param newSlot
      rw [if_neg him]
    have hscale : ∀ a : Fin 24, (enqueued s op i).axReg A.AX_ISCALE a = s.axReg A.AX_ISCALE a := by
      intro a
      unfold State.axReg
      rw [enqueued_rd, if_neg]
      unfold axAddr A.AX_ISCALE A.OP_TICKET
      omega
    unfold State.opReady OpSlot.banks OpSlot.masks OpSlot.bankTests OpSlot.motor OpSlot.axis
    simp only [hp, hscale]
    rfl

/-- The other slots are left alone by the start of a slot. -/
theorem beginOp_otherSlot {s : State} {i : Fin 8} :
    (∀ j : Fin 8, j ≠ i → (s.beginOp i).ops.slots[j] = s.ops.slots[j]) ∧ (s.beginOp i).ops.gen = s.ops.gen ∧
      ((s.beginOp i).ops.slots[i]).op = (s.ops.slots[i]).op ∧ ((s.beginOp i).ops.slots[i]).gen = (s.ops.slots[i]).gen ∧
      (s.beginOp i).rd A.OP_TICKET = s.rd A.OP_TICKET := by
  by_cases h : (s.ops.slots[i]).op ≠ opIMAGE_LOAD ∨ s.lands.bootsel ≠ 3
  · have hb := beginOp_begins h
    refine ⟨hb.other, hb.gen, ?_, ?_, ?_⟩
    · rw [hb.slot]; rfl
    · rw [hb.slot]; rfl
    · unfold State.rd
      rw [hb.regs]
  · obtain ⟨hop, hboot⟩ := not_or.1 h
    have hop := Decidable.not_not.1 hop
    have hboot := Decidable.not_not.1 hboot
    unfold State.beginOp
    extract_lets x now s1 s2
    have hb : s2.lands.bootsel = 3 := hboot
    rw [if_pos (show x.op = opIMAGE_LOAD from hop), if_pos hb]
    have hself : s2.ops.slots[i] = begun s i := by
      unfold s2
      rw [modSlot_get, if_pos rfl]
      rfl
    have hops : (s2.imgReject (field (x.param 8) 15 14) 0x02).ops = s2.ops := by
      unfold State.imgReject
      rw [raise_ops]
      rfl
    refine ⟨fun j n => ?_, ?_, ?_, ?_, ?_⟩
    · rw [endSlot_otherSlot _ n, hops]
      unfold s2
      rw [modSlot_get, if_neg (Ne.symm n)]
      rfl
    · rw [(endSlot_order _ _ _ _).2, hops]
      rfl
    · rw [endSlot_slot, hops, hself]
      rfl
    · rw [endSlot_slot, hops, hself]
      rfl
    · rw [endSlot_rd _ _ _ _ _ (by unfold Apart; decide)]
      unfold State.imgReject
      rw [raise_rd _ _ _ _ (by decide) _ (by unfold Apart; decide), rd_wr, if_neg (by decide)]
      rfl

/-- Whatever becomes of a start, the slot keeps its operation and its generation and the others are left alone. -/
theorem opStart_frame (s : State) (i : Fin 8) :
    (∀ j : Fin 8, j ≠ i → (opStart i s).ops.slots[j] = s.ops.slots[j]) ∧ (opStart i s).ops.gen = s.ops.gen ∧
      ((opStart i s).ops.slots[i]).op = (s.ops.slots[i]).op ∧ ((opStart i s).ops.slots[i]).gen = (s.ops.slots[i]).gen ∧
      (opStart i s).rd A.OP_TICKET = s.rd A.OP_TICKET := by
  unfold opStart
  extract_lets x c
  split
  · unfold State.startOp
    split
    · exact beginOp_otherSlot
    · refine ⟨fun j n => endSlot_otherSlot s n _ _, (endSlot_order s i _ _).2, ?_, ?_, ?_⟩
      · rw [endSlot_slot]
      · rw [endSlot_slot]
      · exact endSlot_rd _ _ _ _ _ (by unfold Apart; decide)
  · exact ⟨fun _ _ => rfl, rfl, rfl, rfl, rfl⟩

theorem doorbell_full {s : State} {op : Nat} (hop : opCodes.contains op = true) (hfull : ∀ i : Fin 8, (s.ops.slots[i]).st ≠ .free) :
    doorbell op s = (s.satInc A.OP_QFULLCNT).wr A.OP_TICKET 0x8000 := by
  have hnone : allSlots.find? (fun i => s.ops.slots[i].st == .free) = none := by
    rw [List.find?_eq_none]
    intro i _
    simpa using hfull i
  simp only [doorbell, hop, if_true, hnone]

/-- Settles O28: the doorbell fills the lowest free slot, and the start that follows goes by class and preconditions. -/
theorem doorbells : Obligations.Doorbells := by
  intro s p hup hears hp hlegal
  obtain ⟨hexec, hop⟩ := exec_doorbell hup hears hp hlegal
  refine ⟨fun i hfree hlow => ?_, fun hfull => ?_⟩
  · have hd := doorbell_lowestFree hop hfree hlow
    obtain ⟨hother, hgen, hsop, hsgen, hticket⟩ := opStart_frame (enqueued s p.1 i) i
    have hslot := enqueued_slot s p.1 i
    refine ⟨_, hexec, ?_, ?_, ?_, ?_, fun j n => ?_, fun hbusy => ?_, fun hidle horder hboot => ?_⟩
    · rw [hd, hticket, enqueued_rd, if_pos rfl]
      show w16 (0x4000 + (8 * s.ops.gen + i.val)) = _
      rw [Nat.add_assoc]
    · rw [hd, hgen]
      rfl
    · rw [hd, hsop, hslot]
      rfl
    · rw [hd, hsgen, hslot]
      rfl
    · rw [hd, hother j n, enqueued_otherSlot s p.1 i n]
    · have hstay : opStart i (enqueued s p.1 i) = enqueued s p.1 i := by
        unfold opStart
        extract_lets x c
        refine if_neg ?_
        rintro ⟨-, hc, -⟩
        have hb : (enqueued s p.1 i).classBusy c = true := by
          unfold c x
          rw [hslot]
          exact enqueued_busy hfree hbusy
        exact absurd (hb.symm.trans hc) (by decide)
      rw [hd, hstay, hslot]
      exact ⟨rfl, rfl⟩
    · have hturn : opStart i (enqueued s p.1 i) = if (enqueued s p.1 i).opReady (newSlot s p.1)
          then (enqueued s p.1 i).beginOp i else (enqueued s p.1 i).endSlot i .failed failPRECOND := by
        have hnone : s.firstOf (opClass p.1) = none := by
          unfold State.firstOf
          rw [horder]
          rfl
        have h := opStart_turn (s := enqueued s p.1 i) (i := i) (by rw [hslot]; rfl)
          (by rw [hslot]; exact enqueued_classIdle hidle) (by rw [hslot]; exact enqueued_first hnone)
        rw [hslot] at h
        exact h
      rw [hd, hturn, enqueued_ready]
      refine ⟨fun hready => ?_, fun hnot => ?_⟩
      · rw [if_pos hready]
        have hb := beginOp_begins (s := enqueued s p.1 i) (i := i) (by
          rw [hslot]
          by_cases him : p.1 = opIMAGE_LOAD
          · exact Or.inr (hboot him)
          · exact Or.inl him)
        rw [hb.slot]
        rfl
      · rw [if_neg (by rw [hnot]; decide)]
        exact ⟨endSlot_st _ _ _ _, endSlot_fail _ _ _ _, endSlot_event _ _ _ _⟩
  · refine ⟨_, hexec, ?_⟩
    rw [doorbell_full hop hfull]
    refine ⟨?_, rfl, ?_⟩
    · rw [rd_wr, if_pos rfl]
    · rw [rd_wr, if_neg (by decide), State.satInc, rd_wr, if_pos rfl]

/-! ### Releases and aborts (R141, R142) -/

/-- A word of one byte-wide write-only field is legal by its bits when its high byte is 0. -/
theorem legalBits_lowByte (s : State) (a : Nat) {d : Word} (h : field d 15 8 = 0) : s.legalBits a [fld 7 0 .WO] d = true := by
  have hd : d.toNat < 2 ^ 8 := by
    have := d.isLt
    simp only [field] at h
    omega
  have hmask : d &&& reservedBits [fld 7 0 .WO] = 0 := by
    have hres : reservedBits [fld 7 0 .WO] = 0xFF00 := by decide
    rw [hres]
    refine BitVec.eq_of_getLsbD_eq fun k hk => ?_
    rw [BitVec.getLsbD_and]
    by_cases h8 : k < 8
    · have : BitVec.getLsbD (0xFF00 : Word) k = false :=
        (by decide : ∀ k < 8, BitVec.getLsbD (0xFF00 : Word) k = false) k h8
      rw [this, Bool.and_false]
      simp
    · have : d.getLsbD k = false := Nat.testBit_lt_two_pow (Nat.lt_of_lt_of_le hd (Nat.pow_le_pow_right (by decide) (by omega)))
      rw [this, Bool.false_and]
      simp
  have hrange : field d 7 0 ≤ 255 := by simp only [field]; omega
  simp [State.legalBits, hmask]
  simp [fld, State.writable, Fld.inRange, hrange]

/-- The row of OP_RELEASE and that of OP_ABORT. -/
def releaseRow : RegRow := ⟨.OP_RELEASE, 0x021A, [], 0x0000, [fld 7 0 .WO]⟩
def abortRow : RegRow := ⟨.OP_ABORT, 0x021B, [], 0x0000, [fld 7 0 .WO]⟩

theorem lookup_release : lookup A.OP_RELEASE = some (releaseRow, []) := by decide
theorem lookup_abort : lookup A.OP_ABORT = some (abortRow, []) := by decide

section Ticket
variable {s : State} {d : Word} (hup : s.up = true) (hears : s.hears = true) (hhigh : field d 15 8 = 0)

include hhigh in
theorem legal_release : s.legal A.OP_RELEASE d = s.releaseOk d := by
  have hbits := legalBits_lowByte s A.OP_RELEASE hhigh
  have hblk : blkOf A.OP_RELEASE = .host := by decide
  simp [State.legal, lookup_release, releaseRow, hbits, wordOk, State.legalNow, hblk]

include hhigh in
theorem legal_abort : s.legal A.OP_ABORT d = true := by
  have hbits := legalBits_lowByte s A.OP_ABORT hhigh
  have hblk : blkOf A.OP_ABORT = .host := by decide
  simp [State.legal, lookup_abort, abortRow, hbits, wordOk, State.legalNow, hblk]

include hup hears hhigh

theorem exec_opRelease (hok : s.releaseOk d = true) : exec (.opRelease d) s = .next (opRelease d s) := by
  change execOpRelease d s = _
  rw [execOpRelease, hostWord_of_hears hup hears,
    writeWord_core lookup_release nofun nofun nofun (by decide) rfl ((legal_release hhigh).trans hok)]
  rfl

/-- A release that is not legal is a host error (R21, R141). -/
theorem exec_opRelease_bad (hbad : s.releaseOk d = false) :
    exec (.opRelease d) s = .next (s.hostErr (200 * s.clk.ticks) A.OP_RELEASE) := by
  change execOpRelease d s = _
  have hbar : s.barred A.OP_RELEASE = false := not_barred lookup_release nofun nofun
  have hlegal : s.legal A.OP_RELEASE d = false := (legal_release hhigh).trans hbad
  have hcancel : s.cancelArm A.OP_RELEASE = s := by simp [State.cancelArm, lookup_release, releaseRow]
  have hlate : ∀ u : State, ampLate (200 * s.clk.ticks) A.OP_RELEASE d u = u := by
    intro u
    simp [ampLate, lookup_release, releaseRow]
  rw [execOpRelease, hostWord_of_hears hup hears]
  simp only [State.writeWord, hbar, hlegal, hcancel, hlate, Bool.false_eq_true, if_false]

theorem exec_opAbort : exec (.opAbort d) s = .next (opAbort d s) := by
  change execOpAbort d s = _
  rw [execOpAbort, hostWord_of_hears hup hears,
    writeWord_core lookup_abort nofun nofun nofun (by decide) rfl (legal_abort hhigh)]
  rfl

end Ticket

/-- A ticket names its slot when the generation is the slot's and it is not FREE (R141, R142). -/
theorem ticketSlot_eq {s : State} {d : Word} {i : Fin 8} (hi : i.val = field d 2 0) :
    s.ticketSlot d = if (s.ops.slots[i]).st ≠ .free ∧ (s.ops.slots[i]).gen = field d 7 3 then some i else none := by
  have hix : (⟨field d 2 0 % 8, Nat.mod_lt _ (by decide)⟩ : Fin 8) = i := by
    refine Fin.ext ?_
    show field d 2 0 % 8 = i.val
    rw [← hi, Nat.mod_eq_of_lt i.isLt]
  subst hix
  unfold State.ticketSlot
  dsimp only
  simp only [Bool.and_eq_true, bne_iff_ne, beq_iff_eq, ne_eq]

/-- What an operation that ends without its result leaves in its slot (R138, R142, R143). -/
theorem dropOp_ends (s : State) (i : Fin 8) (st : OpState) (fail : Nat) :
    ((s.dropOp i st fail).ops.slots[i]).st = st ∧ ((s.dropOp i st fail).ops.slots[i]).fail = fail ∧
      eventBit (s.dropOp i st fail) evOP_END = true := by
  unfold State.dropOp
  dsimp only
  split
  · exact ⟨endSlot_st _ _ _ _, endSlot_fail _ _ _ _, endSlot_event _ _ _ _⟩
  · split
    · exact ⟨endSlot_st _ _ _ _, endSlot_fail _ _ _ _, endSlot_event _ _ _ _⟩
    · split
      · exact ⟨endSlot_st _ _ _ _, endSlot_fail _ _ _ _, endSlot_event _ _ _ _⟩
      · exact ⟨endSlot_st _ _ _ _, endSlot_fail _ _ _ _, endSlot_event _ _ _ _⟩

theorem endSlot_ax (s : State) (i : Fin 8) (st : OpState) (fail : Nat) : (s.endSlot i st fail).ax = s.ax := by
  unfold State.endSlot
  rw [raise_ax]
  rfl

/-- MOTOR_ID ends as its slot's end, and its axis in IDENT is parked on its way to STOPPED (Table AXIS-4). -/
theorem dropOp_motor {s : State} {i : Fin 8} (hop : (s.ops.slots[i]).op = opMOTOR_ID) (st : OpState) (fail : Nat)
    (hax : (s.ax[(s.ops.slots[i]).motor]).st = .ident) :
    ((s.dropOp i st fail).ax[(s.ops.slots[i]).motor]).st = .ident ∧
      ((s.dropOp i st fail).ax[(s.ops.slots[i]).motor]).parked = some (if fail = failHOST then .host else .none) := by
  unfold State.dropOp
  dsimp only
  rw [if_neg (by rw [hop]; decide), if_neg (by rw [hop]; decide), if_pos hop, modAx_get, if_pos rfl, endSlot_ax, if_pos hax]
  exact ⟨hax, rfl⟩

/-- Settles O29: starts by `beginOp`, and releases and aborts by the slot that the ticket names. -/
theorem operationStartsAndAborts : Obligations.OperationStartsAndAborts := by
  refine ⟨⟨fun s op hup hears hop => ?_, fun s i hup hq hidle hturn => ⟨fun hfac hready => ?_, fun hnot => ?_⟩⟩,
    fun s d i hup hears hi hhigh => ⟨fun hgen => ⟨fun hterm => ?_, fun hterm hfree => ?_, fun hq => ?_, fun hact hop => ?_,
      fun hact habort hop => ?_⟩, fun hgen => ?_⟩⟩
  · change execOpUnknownCode op s = _
    rw [execOpUnknownCode, whenHost_of_hears hup hears]
    simp only [hop, Bool.false_eq_true, if_false, doorbell]
  · have hb := beginOp_begins hfac
    refine ⟨s.beginOp i, ?_, ?_, ?_, hb.order, beginOp_motor⟩
    · change execOpStart i s = _
      rw [execOpStart, whenUp_of_up hup, opStart_turn hq hidle hturn, if_pos hready]
    · rw [hb.slot]; rfl
    · rw [hb.slot]; rfl
  · refine ⟨s.endSlot i .failed failPRECOND, ?_, endSlot_st _ _ _ _, endSlot_fail _ _ _ _, endSlot_event _ _ _ _⟩
    change execOpStart i s = _
    rw [execOpStart, whenUp_of_up hup, opStart_turn hq hidle hturn, if_neg (by rw [hnot]; decide)]
  · have hfree : (s.ops.slots[i]).st ≠ .free := by
      intro c
      rw [c] at hterm
      exact absurd hterm (by decide)
    have ht : s.ticketSlot d = some i := by rw [ticketSlot_eq hi, if_pos ⟨hfree, hgen⟩]
    have hok : s.releaseOk d = true := by rw [State.releaseOk, ht]; exact hterm
    refine ⟨opRelease d s, exec_opRelease hup hears hhigh hok, ?_, fun j n => ?_, ?_⟩
    · simp only [opRelease, ht, hterm, if_true]
      rw [modSlot_get, if_pos rfl]
    · simp only [opRelease, ht, hterm, if_true]
      rw [modSlot_get, if_neg (Ne.symm n)]
    · simp only [opRelease, ht, hterm, if_true]
      rfl
  · have ht : s.ticketSlot d = some i := by rw [ticketSlot_eq hi, if_pos ⟨hfree, hgen⟩]
    exact exec_opRelease_bad hup hears hhigh (by rw [State.releaseOk, ht]; exact hterm)
  · have ht : s.ticketSlot d = some i := by
      rw [ticketSlot_eq hi, if_pos ⟨by rw [hq]; decide, hgen⟩]
    have ha : opAbort d s = s.endSlot i .aborted failHOST := by
      simp only [opAbort, ht, State.abortSlot, hq, if_true]
    exact ⟨_, by rw [exec_opAbort hup hears hhigh, ha], endSlot_st _ _ _ _, endSlot_fail _ _ _ _, (endSlot_order _ _ _ _).1,
      endSlot_event _ _ _ _⟩
  · have hne : (s.ops.slots[i]).st ≠ .free ∧ (s.ops.slots[i]).st ≠ .queued := by
      constructor <;> (intro c; rw [c] at hact; exact absurd hact (by decide))
    have ht : s.ticketSlot d = some i := by rw [ticketSlot_eq hi, if_pos ⟨hne.1, hgen⟩]
    have ha : opAbort d s = s.dropOp i .aborted failHOST := by
      simp only [opAbort, ht, State.abortSlot]
      rw [if_neg hne.2, if_pos hact, hop]
      rfl
    obtain ⟨h1, h2, h3⟩ := dropOp_ends s i .aborted failHOST
    exact ⟨_, by rw [exec_opAbort hup hears hhigh, ha], h1, h2, h3, dropOp_motor hop .aborted failHOST⟩
  · have hne : (s.ops.slots[i]).st ≠ .free ∧ (s.ops.slots[i]).st ≠ .queued := by
      constructor <;> (intro c; rw [c] at hact; exact absurd hact (by decide))
    have ht : s.ticketSlot d = some i := by rw [ticketSlot_eq hi, if_pos ⟨hne.1, hgen⟩]
    have hwait : (s.ops.slots[i]).op ≠ opIMAGE_LOAD ∧ (s.ops.slots[i]).op ≠ opCOMPACT ∧
        ((s.ops.slots[i]).op != opMOTOR_ID) = true := by
      rcases hop with h | h | h <;> rw [h] <;> decide
    obtain ⟨h1, h2, h3⟩ := hwait
    have ha : opAbort d s = s.modSlot i (fun x => { x with abort := some (x.abort.getD failHOST) }) := by
      simp only [opAbort, ht, State.abortSlot]
      rw [if_neg hne.2, if_pos hact, if_neg h1, if_neg h2, if_pos h3]
    refine ⟨opAbort d s, exec_opAbort hup hears hhigh, ?_, by rw [ha]; rfl⟩
    rw [ha, modSlot_get, if_pos rfl, habort]
    rfl
  · have ht : s.ticketSlot d = none := by
      rw [ticketSlot_eq hi, if_neg]
      rintro ⟨-, c⟩
      exact hgen c
    refine ⟨?_, ?_⟩
    · rw [exec_opRelease hup hears hhigh (by rw [State.releaseOk, ht])]
      simp only [opRelease, ht]
    · rw [exec_opAbort hup hears hhigh]
      simp only [opAbort, ht]

end Sys2Proof.Proofs
end

section
/-! SUPPORT. Proofs of the partial values, the ends and the time-outs of long operations (R138 to R140, R143). -/
namespace Sys2Proof.Proofs
set_option Elab.async false
open Sys2Proof.Machine Sys2Proof.Safety Sys2Proof.Laws

/-! ### Values of a slot (R140) -/

theorem publishFinal_slot (s : State) (i e : Fin 8) (v : Nat) : (s.publishFinal i e v).ops.slots[i] =
    { s.ops.slots[i] with
      res := (s.ops.slots[i]).res.set e { (s.ops.slots[i]).res[e] with valid := true, val := v % 2 ^ 32 } } := by
  unfold State.publishFinal
  rw [modSlot_get, if_pos rfl]

theorem publishFinal_val (s : State) (i e : Fin 8) (v : BitVec 32) :
    (((s.publishFinal i e v.toNat).ops.slots[i]).res[e]).val = v.toNat := by
  rw [publishFinal_slot]
  show (((s.ops.slots[i]).res.set e _)[e]).val = _
  rw [show ((s.ops.slots[i]).res.set e { (s.ops.slots[i]).res[e] with valid := true, val := v.toNat % 2 ^ 32 })[e] = _ from
    Vector.getElem_set_self e.isLt]
  exact Nat.mod_eq_of_lt v.isLt

theorem publishFinal_otherVal (s : State) (i : Fin 8) {e g : Fin 8} (h : g ≠ e) (v : Nat) :
    ((s.publishFinal i e v).ops.slots[i]).res[g] = (s.ops.slots[i]).res[g] := by
  rw [publishFinal_slot]
  exact Vector.getElem_set_ne e.isLt g.isLt (fun c => h (Fin.ext c.symm))

/-- Final values written into the entries of a slot, each its own value. -/
theorem each_publishFinal (i : Fin 8) (vals : List (BitVec 32)) {e : Fin 8} {l : List (Fin 8)} (he : e ∈ l) (s : State) :
    (((s.each l (fun s e => s.publishFinal i e (valAt vals e.val))).ops.slots[i]).res[e]).val = valAt vals e.val := by
  refine each_makes (f := fun (s : State) e => s.publishFinal i e (valAt vals e.val)) (I := fun _ => True)
    (P := fun u => ((u.ops.slots[i]).res[e]).val = valAt vals e.val) (fun _ _ _ => trivial) (fun u g _ h => ?_)
    (fun u _ => publishFinal_val u i e _) he trivial
  by_cases hg : e = g
  · subst hg
    exact publishFinal_val u i e _
  · rw [publishFinal_otherVal u i hg]
    exact h

/-- What final values leave of a slot: its operation and its parameters. -/
theorem each_publishFinal_op (i : Fin 8) (vals : List (BitVec 32)) (l : List (Fin 8)) (s : State) :
    ((s.each l (fun s e => s.publishFinal i e (valAt vals e.val))).ops.slots[i]).op = (s.ops.slots[i]).op ∧
      ((s.each l (fun s e => s.publishFinal i e (valAt vals e.val))).ops.slots[i]).params = (s.ops.slots[i]).params ∧
      (s.each l (fun s e => s.publishFinal i e (valAt vals e.val))).ax = s.ax := by
  refine ⟨?_, ?_, ?_⟩
  · exact each_keeps (fun u : State => (u.ops.slots[i]).op) (fun u e => by rw [publishFinal_slot]) l s
  · exact each_keeps (fun u : State => (u.ops.slots[i]).params) (fun u e => by rw [publishFinal_slot]) l s
  · exact each_keeps State.ax (f := fun (s : State) e => s.publishFinal i e (valAt vals e.val)) (fun _ _ => rfl) l s

/-! ### The ends of operations -/

/-- An operation that ends keeps the values of its entries, and one that is done shows all its progress (R138, R139). -/
theorem dropOp_motor_slot {s : State} {i : Fin 8} (hop : (s.ops.slots[i]).op = opMOTOR_ID) (st : OpState) (fail : Nat) :
    (s.dropOp i st fail).ops.slots[i] = { s.ops.slots[i] with
      st := st, fail := fail, abort := none, progress := if st = .done then 255 else (s.ops.slots[i]).progress } := by
  have h : s.dropOp i st fail = (s.endSlot i st fail).modAx (s.ops.slots[i]).motor (fun y =>
      if y.st = .ident then { y with parked := some (if fail = failHOST then .host else .none) } else y) := by
    unfold State.dropOp
    dsimp only
    rw [if_neg (by rw [hop]; decide), if_neg (by rw [hop]; decide), if_pos hop]
  rw [h, modAx_ops, endSlot_slot]

theorem dropOp_parks {s : State} {i : Fin 8} (hop : (s.ops.slots[i]).op = opMOTOR_ID) (st : OpState) (fail : Nat) {a : Fin 24}
    (ha : (s.ops.slots[i]).motor = a) (hax : (s.ax[a]).st = .ident) :
    ((s.dropOp i st fail).ax[a]).parked = some (if fail = failHOST then .host else .none) := by
  subst ha
  exact (dropOp_motor hop st fail hax).2

section Ends
variable {s : State} {i : Fin 8}

theorem exec_opPartial (hup : s.up = true) (hact : (s.ops.slots[i]).st.active = true) (e : Fin 8) (v : BitVec 32) (g : Byte) :
    ((s.ops.slots[i]).op = opMOTOR_ID → e.val < 4 →
      exec (.opPartial i e v g) s = .next (s.publishPart i e v.toNat g.toNat)) ∧
    ((s.ops.slots[i]).op = opDLINE_CAL ∨ (s.ops.slots[i]).op = opSELF_TEST →
      ((s.ops.slots[i]).abort = none →
        exec (.opPartial i e v g) s = .next (s.modSlot i (fun x => { x with progress := min 254 g.toNat }))) ∧
      ∀ f, (s.ops.slots[i]).abort = some f → exec (.opPartial i e v g) s = .next (s.dropOp i .aborted f)) := by
  have hexec : exec (.opPartial i e v g) s = .next (opPartial i e v.toNat g.toNat s) := by
    change execOpPartial i e v g s = _
    rw [execOpPartial, whenUp_of_up hup]
  rw [hexec]
  unfold opPartial
  dsimp only
  rw [hact]
  refine ⟨fun hop he => ?_, fun hop => ?_⟩
  · rw [hop]
    simp [opMOTOR_ID, opIMAGE_LOAD, opSHUNT_CAL, he]
  · rcases hop with hop | hop <;> rw [hop] <;> refine ⟨fun ha => ?_, fun f ha => ?_⟩ <;> rw [ha] <;>
      simp [opMOTOR_ID, opIMAGE_LOAD, opSHUNT_CAL, opCOMPACT, opDLINE_CAL, opSELF_TEST]

theorem exec_opEnd (hup : s.up = true) (hact : (s.ops.slots[i]).st.active = true) (habort : (s.ops.slots[i]).abort = none)
    (hop : (s.ops.slots[i]).op ≠ opIMAGE_LOAD) (model : Bool) (vals : List (BitVec 32)) :
    exec (.opEnd i model vals) s = .next (s.finishOp i model vals) := by
  have hb : ((s.ops.slots[i]).op == opIMAGE_LOAD) = false := beq_eq_false_iff_ne.mpr hop
  change execOpEnd i model vals s = _
  rw [execOpEnd, whenUp_of_up hup]
  unfold opEnd
  dsimp only
  rw [hact, hb, habort]
  rfl

/-- MOTOR_ID with a result in range publishes its values and ends DONE (R271). -/
theorem finishOp_motor (hop : (s.ops.slots[i]).op = opMOTOR_ID) {vals : List (BitVec 32)} (hout : outOfMot vals = false) :
    s.finishOp i true vals = (s.each (allSlots.filter (fun e => e.val < 4 && (true || e.val < vals.length)))
      (fun s e => s.publishFinal i e (valAt vals e.val))).dropOp i .done 0 := by
  unfold State.finishOp
  dsimp only
  rw [hop, hout]
  simp [opMOTOR_ID, opSHUNT_CAL, opDLINE_CAL, opSELF_TEST]

/-- SELF_TEST ends by the requested tests that failed (R462). -/
theorem finishOp_selfTest (hop : (s.ops.slots[i]).op = opSELF_TEST) (v : BitVec 32) : ∃ u : State,
    s.finishOp i true [v] = if Nat.land v.toNat ((s.ops.slots[i]).param 0).toNat = 0 then u.endSlot i .done 0
      else u.endSlot i .failed failTEST := by
  refine ⟨((s.publishFinal i 0 (Nat.land v.toNat ((s.ops.slots[i]).param 0).toNat)).publishFinal i 1
    (s.testCount s.ops.slots[i])).modSafe (fun y => { y with
      mech := mechAfter y.mech ((s.ops.slots[i]).param 0).toNat (Nat.land v.toNat ((s.ops.slots[i]).param 0).toNat) }), ?_⟩
  unfold State.finishOp
  dsimp only
  rw [if_neg (by rw [hop]; decide), if_neg (by rw [hop]; decide), if_pos hop]
  rfl

end Ends

/-- Settles O30: partial values by operation, ends by `finishOp` or `dropOp`, and the time-out by `dropOp`. -/
theorem operationEnds : Obligations.OperationEnds := by
  intro s i hup hact
  refine ⟨fun hop habort => ⟨fun e v g he => ?_, fun vals hout => ?_⟩, fun hop e v g => ⟨fun habort => ?_, fun f habort => ?_⟩,
    fun hop habort v => ?_, fun hover => ?_, fun hover => ?_⟩
  · refine ⟨_, (exec_opPartial hup hact e v g).1 hop he, ?_⟩
    unfold State.publishPart
    rw [modSlot_get, if_pos rfl]
    refine ⟨rfl, ?_, rfl, rfl⟩
    show (((s.ops.slots[i]).res.set e _)[e]).val = _
    rw [show ((s.ops.slots[i]).res.set e { (s.ops.slots[i]).res[e] with
      tag := min 255 (((s.ops.slots[i]).res[e]).tag + 1), val := v.toNat % 2 ^ 32 })[e] = _ from Vector.getElem_set_self e.isLt]
    exact Nat.mod_eq_of_lt v.isLt
  · have hmem : ∀ e : Fin 8, e.val < 4 → e ∈ allSlots.filter (fun e => e.val < 4 && (true || e.val < vals.length)) := by
      intro e he
      simp [allSlots, he]
    obtain ⟨hkop, hkpar, hkax⟩ := each_publishFinal_op i vals
      (allSlots.filter (fun e => e.val < 4 && (true || e.val < vals.length))) s
    have hval := fun (e : Fin 8) he => each_publishFinal i vals (hmem e he) s
    refine ⟨s.finishOp i true vals, exec_opEnd hup hact habort (by rw [hop]; decide) true vals, ?_⟩
    rw [finishOp_motor hop hout]
    generalize s.each (allSlots.filter (fun e => e.val < 4 && (true || e.val < vals.length)))
      (fun s e => s.publishFinal i e (valAt vals e.val)) = u at *
    have hmotor : (u.ops.slots[i]).motor = (s.ops.slots[i]).motor := by
      unfold OpSlot.motor OpSlot.axis OpSlot.param
      simp only [hkpar]
    obtain ⟨h1, -, h3⟩ := dropOp_ends u i .done 0
    refine ⟨h1, ?_, h3, fun hid => ?_, fun e he => ?_⟩
    · rw [dropOp_motor_slot (hkop.trans hop)]
      rfl
    · exact dropOp_parks (hkop.trans hop) .done 0 hmotor (by rw [hkax]; exact hid)
    · rw [dropOp_motor_slot (hkop.trans hop)]
      exact hval e he
  · exact ((exec_opPartial hup hact e v g).2 hop).1 habort
  · obtain ⟨h1, h2, h3⟩ := dropOp_ends s i .aborted f
    exact ⟨_, ((exec_opPartial hup hact e v g).2 hop).2 f habort, h1, h2, h3⟩
  · obtain ⟨u, hu⟩ := finishOp_selfTest hop v
    refine ⟨s.finishOp i true [v], exec_opEnd hup hact habort (by rw [hop]; decide) true [v], ?_, fun hz => ?_, fun hz => ?_⟩
    · rw [hu]
      split <;> exact endSlot_event _ _ _ _
    · rw [hu, if_pos hz]
      exact endSlot_st _ _ _ _
    · rw [hu, if_neg hz]
      exact ⟨endSlot_st _ _ _ _, endSlot_fail _ _ _ _⟩
  · obtain ⟨h1, h2, h3⟩ := dropOp_ends s i .failed failTIMEOUT
    refine ⟨_, ?_, h1, h2, h3⟩
    change execOpTimeout i s = _
    rw [execOpTimeout, whenUp_of_up hup, if_pos (by rw [hact, hover]; rfl)]
  · change execOpTimeout i s = _
    rw [execOpTimeout, whenUp_of_up hup, if_neg (by rw [hover, Bool.and_false]; decide)]

end Sys2Proof.Proofs
end

section
/-! SUPPORT. Proofs of reception, transmission and fault confinement of a CAN controller (R129 to R133). -/
namespace Sys2Proof.Proofs
set_option Elab.async false
open Sys2Proof.Machine Sys2Proof.Safety Sys2Proof.Laws

/-! ### Words of several words, and series of writes -/

/-- A value that no step of a series over its members changes. -/
theorem each_keeps_mem {α β : Type} (g : State → β) {f : State → α → State} {l : List α}
    (hf : ∀ u, ∀ x ∈ l, g (f u x) = g u) : ∀ s : State, g (s.each l f) = g s := by
  induction l with
  | nil => exact fun _ => rfl
  | cons x xs ih =>
    exact fun s => (ih (fun u y hy => hf u y (List.mem_cons_of_mem x hy)) (f s x)).trans (hf s x List.mem_cons_self)

theorem wrQ_at (s : State) (a n q : Nat) {k : Nat} (hk : k < n) : (s.wrQ a n q).rd (a + k) = wordOf q k := by
  unfold State.wrQ
  rw [rd_wrs_at _ _ _ _ (by simpa using hk)]
  simp

theorem wrQ_out (s : State) (a n q : Nat) {b : Nat} (h : b < a ∨ a + n ≤ b) : (s.wrQ a n q).rd b = s.rd b := by
  unfold State.wrQ
  exact rd_wrs _ _ _ _ (by simpa using h)

theorem wrs_can (l : List Word) : ∀ (s : State) (a : Nat), (s.wrs a l).can = s.can := by
  induction l with
  | nil => exact fun _ _ => rfl
  | cons v vs ih => exact fun s a => ih (s.wr a v) (a + 1)

theorem quant2_words {n : Nat} (h : n < 2 ^ 32) : quant2 (wordOf n 0) (wordOf n 1) = n := by
  unfold quant2 wordOf w16
  simp only [BitVec.toNat_ofNat]
  omega

/-- A bit above a field leaves the field. -/
theorem field_or_bit (w : Word) {hi lo j : Nat} (h : hi < j) : field (w ||| bitW j) hi lo = field w hi lo := by
  refine Nat.eq_of_testBit_eq fun k => ?_
  rw [testBit_field, testBit_field]
  by_cases hk : k < hi + 1 - lo ∧ lo + k < 16
  · have hne : ¬ j = lo + k := by omega
    simp [bit_or, bit_mask j hk.2, hne]
  · by_cases h1 : k < hi + 1 - lo
    · have h16 : ∀ x : Word, bit x (lo + k) = false := fun x => BitVec.getLsbD_of_ge x _ (by omega)
      rw [h16, h16]
    · simp [h1]

/-! ### Reception (R129, R130) -/

theorem dlcBytes_le : ∀ (fdf : Bool) (d : Fin 16), dlcBytes fdf d.val ≤ 64 := by decide

section Buffer
variable (s : State) (c : Fin 2) (m : Fin 32)

/-- The data bytes of a frame reach the data words of their buffer alone. -/
theorem setBytes_rd (data : List Byte) {n : Nat} (hn : n ≤ 64) {a : Nat}
    (ha : a < A.BUF_DATA c.val m.val 0 ∨ A.BUF_DATA c.val m.val 0 + 32 ≤ a) :
    (s.each ((data.take n).zipIdx) (fun s p => s.setByte c m p.2 p.1)).rd a = s.rd a := by
  refine each_keeps_mem (fun u => u.rd a) (fun u p hp => ?_) s
  have hk : p.2 < 64 := by
    have h := List.snd_lt_of_mem_zipIdx hp
    simp only [List.length_take] at h
    omega
  unfold State.setByte
  dsimp only
  rw [rd_wr, if_neg]
  unfold A.BUF_DATA at ha ⊢
  omega

/-- The buffer's status word as a stored frame leaves it (R130). -/
def frameStat (dlc : Nat) (ovr : Bool) : Word :=
  setField (s.bufStat c m) 3 0 dlc ||| bitW 15 ||| (if ovr then bitW 14 else 0)

variable (fdf brs : Bool) (id : BitVec 29) (dlc : Fin 16) (data : List Byte) (sof : Nat) (ovr : Bool)

theorem storeFrame_rd (a : Nat) (ha : a < A.BUF_DATA c.val m.val 0 ∨ A.BUF_DATA c.val m.val 0 + 32 ≤ a) :
    (s.storeFrame c m fdf brs id.toNat dlc.val data sof ovr).rd a =
      ((((s.wrQ (A.BUF_ID_LO c.val m.val) 2 id.toNat).wr (A.BUF_CFG c.val m.val)
        (setField (setField (s.bufCfg c m) 12 12 (b2n fdf)) 11 11 (b2n brs))).wr (A.BUF_STAT c.val m.val)
        (frameStat s c m dlc.val ovr)).wrQ (A.BUF_STAMP0 c.val m.val) 3 (sof % 2 ^ 48)).rd a := by
  unfold State.storeFrame
  exact setBytes_rd _ c m data (dlcBytes_le fdf dlc) ha

theorem storeFrame_stat : (s.storeFrame c m fdf brs id.toNat dlc.val data sof ovr).bufStat c m = frameStat s c m dlc.val ovr := by
  have hc := c.isLt
  have hm := m.isLt
  unfold State.bufStat
  rw [storeFrame_rd _ _ _ _ _ _ _ _ _ _ _ (by unfold A.BUF_STAT A.BUF_DATA; omega),
    wrQ_out _ _ _ _ (by unfold A.BUF_STAT A.BUF_STAMP0; omega), rd_wr, if_pos rfl]

theorem storeFrame_otherStat {m' : Fin 32} (h : m' ≠ m) :
    (s.storeFrame c m fdf brs id.toNat dlc.val data sof ovr).bufStat c m' = s.bufStat c m' := by
  have hc := c.isLt
  have hm := m.isLt
  have hm' := m'.isLt
  have hne : m'.val ≠ m.val := fun e => h (Fin.ext e)
  unfold State.bufStat
  rw [storeFrame_rd _ _ _ _ _ _ _ _ _ _ _ (by unfold A.BUF_STAT A.BUF_DATA; omega),
    wrQ_out _ _ _ _ (by unfold A.BUF_STAT A.BUF_STAMP0; omega), rd_wr, if_neg (by unfold A.BUF_STAT; omega),
    rd_wr, if_neg (by unfold A.BUF_STAT A.BUF_CFG; omega), wrQ_out _ _ _ _ (by unfold A.BUF_STAT A.BUF_ID_LO; omega)]

theorem storeFrame_id :
    (s.storeFrame c m fdf brs id.toNat dlc.val data sof ovr).rdQ2 (A.BUF_ID_LO c.val m.val) = id.toNat := by
  have hc := c.isLt
  have hm := m.isLt
  have hrd : ∀ k, k < 2 →
      (s.storeFrame c m fdf brs id.toNat dlc.val data sof ovr).rd (A.BUF_ID_LO c.val m.val + k) = wordOf id.toNat k := by
    intro k hk
    rw [storeFrame_rd _ _ _ _ _ _ _ _ _ _ _ (by unfold A.BUF_ID_LO A.BUF_DATA; omega),
      wrQ_out _ _ _ _ (by unfold A.BUF_ID_LO A.BUF_STAMP0; omega), rd_wr, if_neg (by unfold A.BUF_ID_LO A.BUF_STAT; omega),
      rd_wr, if_neg (by unfold A.BUF_ID_LO A.BUF_CFG; omega), wrQ_at _ _ _ _ hk]
  unfold State.rdQ2
  rw [hrd 1 (by omega), show A.BUF_ID_LO c.val m.val = A.BUF_ID_LO c.val m.val + 0 from rfl, hrd 0 (by omega)]
  exact quant2_words (Nat.lt_of_lt_of_le id.isLt (by decide))

end Buffer

theorem frameStat_bits (s : State) (c : Fin 2) (m : Fin 32) (dlc : Fin 16) :
    bit (frameStat s c m dlc.val false) 15 = true ∧ field (frameStat s c m dlc.val false) 3 0 = dlc.val := by
  have hz : ∀ w : Word, w ||| (if false = true then bitW 14 else 0) = w := by intro w; simp
  unfold frameStat
  rw [hz]
  constructor
  · rw [bit_or, bit_mask 15 (by decide), decide_eq_true rfl, Bool.or_true]
  · rw [field_or_bit _ (by decide), field_setField _ (by decide) (by decide) dlc.isLt]

theorem mem_allBufs (m : Fin 32) : m ∈ allBufs := List.mem_finRange m

/-- The lowest buffer of which something holds is the first that a search in index order finds. -/
theorem find_lowest {p : Fin 32 → Bool} {m : Fin 32} (hp : p m = true) (hlow : ∀ m' : Fin 32, m' < m → p m' = false) :
    allBufs.find? p = some m := by
  refine List.find?_eq_some_iff_getElem.2 ⟨hp, m.val, by simp [allBufs], by simp [allBufs], fun j hj => ?_⟩
  have h := hlow ⟨j, by omega⟩ hj
  simpa [allBufs] using h

/-- A search through the members of a filter is one for both conditions. -/
theorem find_filter (p q : Fin 32 → Bool) (l : List (Fin 32)) : (l.filter p).find? q = l.find? (fun m => p m && q m) := by
  rw [List.find?_filter]
  congr 1
  funext m
  simp

section Receive
variable {s : State} {c : Fin 2} {ide fdf brs : Bool} {id : BitVec 29} {dlc : Fin 16} {data : List Byte} {sof : Nat}

theorem exec_canRx (hon : s.canOn c = true) (hears : s.hears = true) (hloop : s.canCtl c 13 = false)
    (hfd : fdf = true → s.canCtl c 12 = true) (hsof : sof ≤ s.clk.ticks) :
    exec (.canRx c ide fdf brs id dlc data sof) s = .next (canReceive c ide fdf brs id.toNat dlc.val data sof s) := by
  change execCanRx c ide fdf brs id dlc data sof s = _
  have h : (!fdf || s.canCtl c 12) = true := by
    cases hf : fdf with
    | false => rfl
    | true => rw [hfd hf]; rfl
  rw [execCanRx, hon, hears, hloop, h, decide_eq_true hsof]
  rfl

/-- A frame that matches a buffer that is not new is stored in the lowest such buffer (R129). -/
theorem canReceive_stored {m : Fin 32} (hm : s.canMatches c ide id.toNat m = true) (hnew : bit (s.bufStat c m) 15 = false)
    (hlow : ∀ m' : Fin 32, m' < m → s.canMatches c ide id.toNat m' = true → bit (s.bufStat c m') 15 = true) :
    canReceive c ide fdf brs id.toNat dlc.val data sof s =
      (s.storeFrame c m fdf brs id.toNat dlc.val data sof false).raise (evCAN_RX c) (w16 m.val) 0 := by
  have hfind : (allBufs.filter (s.canMatches c ide id.toNat)).find? (fun m => !bit (s.bufStat c m) 15) = some m := by
    rw [find_filter]
    refine find_lowest (by rw [hm, hnew]; rfl) (fun m' h => ?_)
    cases hm' : s.canMatches c ide id.toNat m' with
    | false => rfl
    | true => rw [hlow m' h hm']; rfl
  unfold canReceive
  dsimp only
  rw [hfind]

/-- A frame that matches no buffer is not taken (R129). -/
theorem canReceive_unmatched (h : ∀ m : Fin 32, s.canMatches c ide id.toNat m = false) :
    canReceive c ide fdf brs id.toNat dlc.val data sof s = s := by
  have hnil : allBufs.filter (s.canMatches c ide id.toNat) = [] := by
    rw [List.filter_eq_nil_iff]
    intro m _
    rw [h m]
    decide
  unfold canReceive
  dsimp only
  rw [hnil]
  rfl

/-- A frame all of whose buffers are new is lost, and counted (R130). -/
theorem canReceive_lost {m : Fin 32} (hm : s.canMatches c ide id.toNat m = true)
    (hlow : ∀ m' : Fin 32, m' < m → s.canMatches c ide id.toNat m' = false)
    (hnew : ∀ m' : Fin 32, s.canMatches c ide id.toNat m' = true → bit (s.bufStat c m') 15 = true)
    (hovw : bit (s.bufCfg c m) 10 = false) :
    canReceive c ide fdf brs id.toNat dlc.val data sof s = s.satInc (A.CAN_RXLOST c.val) := by
  have hfind : (allBufs.filter (s.canMatches c ide id.toNat)).find? (fun m => !bit (s.bufStat c m) 15) = none := by
    rw [List.find?_eq_none]
    intro m' hm'
    rw [hnew m' (List.mem_filter.mp hm').2]
    decide
  obtain ⟨l, hl⟩ : ∃ l, allBufs.filter (s.canMatches c ide id.toNat) = m :: l := by
    have h1 := find_lowest hm hlow
    rw [← List.head?_filter] at h1
    exact List.head?_eq_some_iff.1 h1
  unfold canReceive
  dsimp only
  rw [hfind, hl]
  simp only [hovw, Bool.false_eq_true, if_false]

end Receive

/-! ### Transmission (R131) -/

theorem stop_isPend (x : Can) (m m' : Fin 32) : (x.stop m).isPend m' = (x.isPend m' && !decide (m' = m)) := by
  have hm : m'.val < 32 := m'.isLt
  unfold Can.stop Can.isPend
  simp [hm, Fin.ext_iff, eq_comm]

theorem or_twoPow_bit (x : BitVec 32) (m m' : Fin 32) :
    (x ||| BitVec.twoPow 32 m.val).getLsbD m'.val = (x.getLsbD m'.val || decide (m' = m)) := by
  have hm : m'.val < 32 := m'.isLt
  simp [hm, Fin.ext_iff, eq_comm]

section Request
variable (c : Fin 2) (m : Fin 32)

/-- The step of a TXREQ word for one buffer. -/
def pendBuf (s : State) (n : Fin 32) : State :=
  s.modCan c (fun x => { x with pend := x.pend ||| BitVec.twoPow 32 n.val, since := x.since.set n s.clk.ticks })

/-- The step of a TXABORT word for one buffer. -/
def abortBuf (s : State) (n : Fin 32) : State :=
  s.modCan c (fun x => { x with abort := x.abort ||| BitVec.twoPow 32 n.val })

theorem pendBuf_isPend (s : State) (n : Fin 32) :
    ((pendBuf c s n).can[c]).isPend m = ((s.can[c]).isPend m || decide (m = n)) := by
  unfold pendBuf
  rw [modCan_get, if_pos rfl]
  exact or_twoPow_bit _ n m

theorem abortBuf_isAbort (s : State) (n : Fin 32) :
    ((abortBuf c s n).can[c]).isAbort m = ((s.can[c]).isAbort m || decide (m = n)) := by
  unfold abortBuf
  rw [modCan_get, if_pos rfl]
  exact or_twoPow_bit _ n m

theorem abortBuf_pend (s : State) (n : Fin 32) : ((abortBuf c s n).can[c]).pend = (s.can[c]).pend := by
  unfold abortBuf
  rw [modCan_get, if_pos rfl]

/-- A bit that each step of a series adds for its own buffer. -/
theorem each_adds {f : State → Fin 32 → State} {g : State → Bool} (hf : ∀ u n, g (f u n) = (g u || decide (m = n)))
    (l : List (Fin 32)) : ∀ s : State, g (s.each l f) = (g s || decide (m ∈ l)) := by
  induction l with
  | nil => intro s; show g s = _; simp
  | cons n ns ih =>
    intro s
    show g ((f s n).each ns f) = _
    rw [ih, hf, Bool.or_assoc]
    simp [List.mem_cons]

end Request

theorem setLec_bufs (s : State) (c : Fin 2) (lec : Nat) : (s.setLec c lec).can = s.can ∧
    ∀ m : Fin 32, (s.setLec c lec).bufCfg c m = s.bufCfg c m ∧ (s.setLec c lec).bufStat c m = s.bufStat c m := by
  unfold State.setLec
  split
  · exact ⟨rfl, fun _ => ⟨rfl, rfl⟩⟩
  · have hc := c.isLt
    refine ⟨rfl, fun m => ⟨?_, ?_⟩⟩
    · unfold State.bufCfg
      rw [rd_wr, if_neg (by unfold A.BUF_CFG A.CAN_LEC; omega)]
    · unfold State.bufStat
      rw [rd_wr, if_neg (by unfold A.BUF_STAT A.CAN_LEC; omega)]

/-- A frame that has been sent stops pending with the stamp of its start (R131, R132). -/
theorem canTxDone_sent {s : State} {c : Fin 2} (hloop : s.canCtl c 13 = false) (m : Fin 32) (sof : Nat) :
    ((canTxDone c m sof s).can[c]).isPend m = false ∧
      (canTxDone c m sof s).rd (A.BUF_STAMP0 c.val m.val) = wordOf (sof % 2 ^ 48) 0 ∧
      eventBit (canTxDone c m sof s) (evCAN_TX c) = true ∧
      ∀ m' : Fin 32, m' ≠ m → ((canTxDone c m sof s).can[c]).isPend m' = (s.can[c]).isPend m' := by
  have hc := c.isLt
  have hm := m.isLt
  have hsrc : (evCAN_TX c).src < 128 := by unfold evCAN_TX; dsimp only; omega
  unfold canTxDone
  extract_lets s1 s2 w n
  have hloop2 : s2.canCtl c 13 = false := by
    unfold State.canCtl at hloop ⊢
    unfold s2 s1
    rw [raise_rd _ _ _ _ hsrc _ (by unfold Apart A.CAN_CTL; omega), wrQ_out _ _ _ _ (by unfold A.CAN_CTL A.BUF_STAMP0; omega),
      modCan_rd]
    exact hloop
  have hcan : s2.can[c] = (s.can[c]).stop m := by
    have h1 : s2.can = (s.modCan c (fun x => x.stop m)).can := by
      unfold s2 s1
      rw [raise_can]
      exact wrs_can _ _ _
    rw [h1, modCan_get, if_pos rfl]
  rw [hloop2]
  simp only [Bool.false_eq_true, if_false]
  rw [hcan]
  refine ⟨by rw [stop_isPend]; simp, ?_, raise_self _ _ _ _, fun m' hm' => by rw [stop_isPend]; simp [hm']⟩
  unfold s2 s1
  rw [raise_rd _ _ _ _ hsrc _ (by unfold Apart A.BUF_STAMP0; omega)]
  exact wrQ_at _ (A.BUF_STAMP0 c.val m.val) 3 _ (k := 0) (by decide)

/-- A transmission that fails: a single shot and one whose abort waits stop pending, any other goes on (R131). -/
theorem canTxFail_spec (s : State) (c : Fin 2) (m : Fin 32) (lost : Bool) (lec : Nat) (hpend : (s.can[c]).isPend m = true) :
    (bit (s.bufCfg c m) 9 = true → ((canTxFail c m lost lec s).can[c]).isPend m = false ∧
      bit ((canTxFail c m lost lec s).bufStat c m) (if lost then 13 else 12) = true) ∧
    (bit (s.bufCfg c m) 9 = false → (s.can[c]).isAbort m = true → ((canTxFail c m lost lec s).can[c]).isPend m = false) ∧
    (bit (s.bufCfg c m) 9 = false → (s.can[c]).isAbort m = false → ((canTxFail c m lost lec s).can[c]).isPend m = true) := by
  unfold canTxFail
  extract_lets s1
  have h1 : s1.can = s.can ∧ ∀ m : Fin 32, s1.bufCfg c m = s.bufCfg c m ∧ s1.bufStat c m = s.bufStat c m := by
    unfold s1
    split
    · exact ⟨rfl, fun _ => ⟨rfl, rfl⟩⟩
    · exact setLec_bufs s c lec
  obtain ⟨hcan, hbuf⟩ := h1
  refine ⟨fun h9 => ?_, fun h9 ha => ?_, fun h9 ha => ?_⟩
  · rw [if_pos ((congrArg (bit · 9) (hbuf m).1).trans h9)]
    refine ⟨?_, ?_⟩
    · rw [modCan_get, if_pos rfl, stop_isPend]
      simp
    · show bit (((_ : State).wr (A.BUF_STAT c.val m.val) _).rd (A.BUF_STAT c.val m.val)) _ = true
      rw [rd_wr, if_pos rfl, bit_or]
      cases lost
      · simp [bit_mask 12 (by decide : 12 < 16)]
      · simp [bit_mask 13 (by decide : 13 < 16)]
  · rw [if_neg (by rw [(hbuf m).1, h9]; decide), if_pos (by rw [hcan]; exact ha), modCan_get, if_pos rfl, stop_isPend]
    simp
  · rw [if_neg (by rw [(hbuf m).1, h9]; decide), if_neg (by rw [hcan, ha]; decide), modCan_get, if_pos rfl, hcan]
    split
    · exact hpend
    · exact hpend

/-- The error state of a controller, and the event of its change (R133). -/
theorem canState_spec (s : State) (c : Fin 2) (st : CanSt) (sync : Bool) (rec tec lec : Nat) :
    ((canState c st sync rec tec lec s).can[c]).st = st ∧ ((canState c st sync rec tec lec s).can[c]).recErr = rec ∧
      ((canState c st sync rec tec lec s).can[c]).txErr = tec ∧
      (st ≠ (s.can[c]).st → eventBit (canState c st sync rec tec lec s) (evCAN_ERR c) = true) := by
  unfold canState
  extract_lets old auto s1
  have hcan : s1.can[c] = { (s.can[c]) with
      st := st, sync := sync, recErr := rec, txErr := tec, recovering := st == .busOff && auto } := by
    unfold s1
    rw [modCan_get, if_pos rfl, (setLec_bufs s c lec).1]
  by_cases h : st = old
  · rw [if_pos h]
    exact ⟨by rw [hcan], by rw [hcan], by rw [hcan], fun hne => absurd h hne⟩
  · rw [if_neg h]
    unfold State.raiseCanErr
    rw [raise_can]
    exact ⟨by rw [hcan], by rw [hcan], by rw [hcan], fun _ => raise_self _ _ _ _⟩

/-- Settles O31: reception by the lowest matching buffer, requests and aborts bit by bit, and the ends of a transmission. -/
theorem canControllers : Obligations.CanControllers := by
  intro s c
  refine ⟨fun ide fdf brs id dlc data sof hon hears hloop hfd hsof => ⟨fun m hm hnew hlow => ?_, fun hno => ?_,
      fun m hm hlow hnew hovw => ?_⟩, fun hi d hup hears hdom => ⟨?_, ?_⟩, fun m sof hon hlis hloop hsof hwin => ?_,
    fun m lost lec hon hlis hpend => ?_, fun st sync rec tec lec hon => ?_, fun hdom hst hrec => ?_⟩
  · have hsrc : (evCAN_RX c).src < 128 := by have := c.isLt; unfold evCAN_RX; dsimp only; omega
    have hrd : ∀ (u : State) (m' : Fin 32) (k : Nat), k < 0x40 →
        (u.raise (evCAN_RX c) (w16 m.val) 0).rd (A.BUF_CFG c.val m'.val + k) = u.rd (A.BUF_CFG c.val m'.val + k) := by
      intro u m' k _
      exact raise_rd _ _ _ _ hsrc _ (by unfold Apart A.BUF_CFG; omega)
    have hstat : ∀ (u : State) (m' : Fin 32), (u.raise (evCAN_RX c) (w16 m.val) 0).bufStat c m' = u.bufStat c m' :=
      fun u m' => raise_rd _ _ _ _ hsrc _ (by unfold Apart A.BUF_STAT; omega)
    obtain ⟨h15, h30⟩ := frameStat_bits s c m dlc
    refine ⟨_, exec_canRx hon hears hloop hfd hsof, ?_⟩
    rw [canReceive_stored hm hnew hlow]
    refine ⟨?_, ?_, ?_, raise_self _ _ _ _, fun m' hm' => ?_⟩
    · rw [hstat, storeFrame_stat]
      exact h15
    · rw [hstat, storeFrame_stat]
      exact h30
    · refine Eq.trans ?_ (storeFrame_id s c m fdf brs id dlc data sof false)
      unfold State.rdQ2
      rw [raise_rd _ _ _ _ hsrc _ (by unfold Apart A.BUF_ID_LO; omega), raise_rd _ _ _ _ hsrc _ (by unfold Apart A.BUF_ID_LO; omega)]
    · rw [hstat, storeFrame_otherStat _ _ _ _ _ _ _ _ _ _ hm']
  · rw [exec_canRx hon hears hloop hfd hsof, canReceive_unmatched hno]
  · refine ⟨_, exec_canRx hon hears hloop hfd hsof, ?_⟩
    rw [canReceive_lost hm hlow hnew hovw]
    refine ⟨?_, fun a ha => satInc_rd _ _ _ ha⟩
    rw [State.satInc, rd_wr, if_pos rfl]
  · refine ⟨canTxreq c hi d s, ?_, fun m => ?_⟩
    · change execCanTxreq c hi d s = _
      rw [execCanTxreq, whenHost_of_hears hup hears, if_pos hdom]
    · have hset := each_adds m (f := pendBuf c) (g := fun u => (u.can[c]).isPend m) (fun u n => pendBuf_isPend c m u n)
        ((wordBufs hi d).filter (fun m => bit (s.bufCfg c m) 15 && bit (s.bufCfg c m) 14 && !(s.can[c]).isPend m)) s
      have hres : ((canTxreq c hi d s).can[c]).isPend m = _ := hset
      rw [hres]
      refine ⟨fun hm h15 h14 => ?_, fun hm => ?_⟩
      · cases hp : (s.can[c]).isPend m with
        | true => rfl
        | false => simp [-Fin.getElem_fin, hm, h15, h14, hp]
      · rcases hm with hm | hm <;> simp [-Fin.getElem_fin, hm]
  · refine ⟨canTxabort c hi d s, ?_, ?_, fun m => ?_⟩
    · change execCanTxabort c hi d s = _
      rw [execCanTxabort, whenHost_of_hears hup hears, if_pos hdom]
    · exact each_keeps (f := abortBuf c) (fun u => (u.can[c]).pend) (fun u n => abortBuf_pend c u n) _ s
    · have hset := each_adds m (f := abortBuf c) (g := fun u => (u.can[c]).isAbort m) (fun u n => abortBuf_isAbort c m u n)
        ((wordBufs hi d).filter (s.can[c]).isPend) s
      have hres : ((canTxabort c hi d s).can[c]).isAbort m = _ := hset
      rw [hres]
      refine ⟨fun hm hp => by simp [-Fin.getElem_fin, hm, hp], fun hm => ?_⟩
      rcases hm with hm | hm <;> simp [-Fin.getElem_fin, hm]
  · refine ⟨canTxDone c m sof s, ?_, canTxDone_sent hloop m sof⟩
    change execCanTxDone c m sof s = _
    rw [execCanTxDone, hon, hlis, hwin, decide_eq_true hsof]
    simp
  · refine ⟨canTxFail c m lost lec.val s, ?_, canTxFail_spec s c m lost lec.val hpend⟩
    change execCanTxFail c m lost lec s = _
    rw [execCanTxFail, hon, hlis, hpend]
    rfl
  · refine ⟨_, ?_, canState_spec s c (canStOf st) sync rec.toNat tec.toNat lec.val⟩
    change execCanErrorStateChange c st sync rec tec lec s = _
    rw [execCanErrorStateChange, hon]
    rfl
  · obtain ⟨h1, h2, h3, h4⟩ := canState_spec s c .active (s.can[c]).sync 0 0 0
    refine ⟨_, ?_, h1, h2, h3, h4 (by rw [hst]; decide)⟩
    change execCanBusoffRecovery c s = _
    rw [execCanBusoffRecovery, hdom, hst, hrec]
    rfl

end Sys2Proof.Proofs
end

section
/-! SUPPORT. Proofs of the commands of an axis and of its transitions (R242, R246, R257 to R259, R261, R265, R266). -/
namespace Sys2Proof.Proofs
set_option Elab.async false
open Sys2Proof.Machine Sys2Proof.Safety Sys2Proof.Laws

/-! ### An axis enters STOPPED (R278) -/

theorem warnSrc (b : Fin 8) : (evAXIS_WARN b).src < 128 := by revert b; decide

theorem faultSrc (b : Fin 8) : (evAXIS_FAULT b).src < 128 := by revert b; decide

/-- What STOPPED leaves of an axis: its state, its cause and what the start counts from are as given. -/
def halted (c : AxCause) (x : Axis) : Axis :=
  { x with
    st := .stopped, cause := c, stopping := false, dwell := false, ilim := false, hand := false
    iD := 0, iQ := 0, iS := 0, iC := Vector.replicate 3 0, confAt := none, errAt := none, handAcc := none, stale := 0
    parked := none }

/-- An axis that stops is changed alone, and at most one event goes with it. -/
theorem toStopped_cases (s : State) (a : Fin 24) (c : AxCause) :
    s.toStopped a c = s.modAx a (halted c) ∨
    ∃ (e : EvName) (d0 d1 : Word), e.src < 128 ∧ s.toStopped a c = (s.modAx a (halted c)).raise e d0 d1 := by
  have hraise : ∀ (u : State) (f : Bool) (d0 d1 : Word),
      ∃ (e : EvName), e.src < 128 ∧ u.raiseAxis (axBank a) f d0 d1 = u.raise e d0 d1 := by
    intro u f d0 d1
    cases f with
    | false => exact ⟨_, warnSrc _, rfl⟩
    | true => exact ⟨_, faultSrc _, rfl⟩
  have hev : s.toStopped a c = (s.modAx a (halted c)).raiseAxis (axBank a) c.isFault (w16 a.val) (w16 c.code) →
      ∃ (e : EvName) (d0 d1 : Word), e.src < 128 ∧ s.toStopped a c = (s.modAx a (halted c)).raise e d0 d1 := by
    intro h
    obtain ⟨e, he, hr⟩ := hraise (s.modAx a (halted c)) c.isFault (w16 a.val) (w16 c.code)
    exact ⟨e, _, _, he, h.trans hr⟩
  by_cases h : c = .none ∨ c = .host
  · rcases h with rfl | rfl
    · exact Or.inl rfl
    · exact Or.inl rfl
  · refine Or.inr (hev ?_)
    unfold State.toStopped
    split
    · exact absurd (Or.inl rfl) h
    · exact absurd (Or.inr rfl) h
    · rfl

theorem toStopped_eq_ax (s : State) (a : Fin 24) (c : AxCause) : (s.toStopped a c).ax = (s.modAx a (halted c)).ax := by
  rcases toStopped_cases s a c with h | ⟨e, d0, d1, _, h⟩
  · rw [h]
  · rw [h, raise_ax]

theorem toStopped_self (s : State) (a : Fin 24) (c : AxCause) : (s.toStopped a c).ax[a] = halted c s.ax[a] := by
  rw [toStopped_eq_ax, modAx_get, if_pos rfl]

theorem toStopped_other (s : State) {a a' : Fin 24} (h : a' ≠ a) (c : AxCause) : (s.toStopped a c).ax[a'] = s.ax[a'] := by
  rw [toStopped_eq_ax, modAx_get, if_neg (Ne.symm h)]

theorem toStopped_rd (s : State) (a : Fin 24) (c : AxCause) {n : Nat} (h : Apart n) : (s.toStopped a c).rd n = s.rd n := by
  rcases toStopped_cases s a c with hc | ⟨e, d0, d1, he, hc⟩
  · rw [hc, modAx_rd]
  · rw [hc, raise_rd _ _ _ _ he _ h, modAx_rd]

/-! ### Writes to AX_CMD (R258, R266) -/

/-- `t` has the half-bridges, the clocks and the image of `s`. -/
structure SameStage (s t : State) : Prop where
  hb : t.hb = s.hb
  clk : t.clk = s.clk
  img : t.img = s.img

theorem SameStage.trans {s t u : State} (h : SameStage s t) (h' : SameStage t u) : SameStage s u :=
  ⟨h'.hb.trans h.hb, h'.clk.trans h.clk, h'.img.trans h.img⟩

theorem SameStage.amps {s t : State} (h : SameStage s t) (a : Fin 24) : t.ampsNow a = s.ampsNow a := by
  obtain ⟨hhb, hclk, himg⟩ := h
  unfold State.ampsNow State.hbAxis State.cfg
  rw [hhb, hclk, himg]

theorem toStopped_stage (s : State) (a : Fin 24) (c : AxCause) : SameStage s (s.toStopped a c) := by
  rcases toStopped_cases s a c with h | ⟨e, d0, d1, _, h⟩
  · rw [h]
    exact ⟨rfl, rfl, rfl⟩
  · rw [h]
    exact ⟨raise_hb _ _ _ _, raise_clk _ _ _ _, raise_img _ _ _ _⟩

def axCmdRow : RegRow := ⟨.AX_CMD, 0x2200, [(8, 1024), (3, 96)], 0x0000, [fld 3 3 .WO, fldR 2 0 .WO 0 3]⟩

theorem lookup_axCmd : ∀ a : Fin 24, lookup (axAddr A.AX_CMD a) = some (axCmdRow, [(axBank a).val, (axSlot a).val]) ∧
    domOfAddr (axAddr A.AX_CMD a) = some (axBank a).val ∧ axIx [(axBank a).val, (axSlot a).val] = a ∧
    blkOf (axAddr A.AX_CMD a) = .bank := by decide +kernel

/-- START needs a STOPPED axis (R258). -/
theorem legal_start {s : State} {a : Fin 24} (h : (s.ax[a]).st ≠ .stopped) : s.legal (axAddr A.AX_CMD a) 1 = false := by
  obtain ⟨hrow, _, hix, _⟩ := lookup_axCmd a
  have hnow : s.legalNow (axAddr A.AX_CMD a) .AX_CMD [(axBank a).val, (axSlot a).val] 1 = false := by
    show (field 1 2 0 != 1 || s.ax[axIx [(axBank a).val, (axSlot a).val]].st == .stopped) = false
    simpa only [hix, show (field 1 2 0 != 1) = false from by decide, Bool.false_or, beq_eq_false_iff_ne, ne_eq] using h
  unfold State.legal
  rw [hrow]
  change (_ && s.legalNow (axAddr A.AX_CMD a) .AX_CMD [(axBank a).val, (axSlot a).val] 1 && _) = false
  rw [hnow]
  simp

section Command
variable {s : State} (hup : s.up = true) (hears : s.hears = true) {a : Fin 24} (hon : s.axOn a = true)
include hup hears hon

/-- A legal write to AX_CMD of an axis whose domain is on does what its bits say, unless it starts an axis one of whose
GATE_AMP was written in the same tick (R208). -/
theorem hostWord_axCmd {d : Word} (hl : s.legal (axAddr A.AX_CMD a) d = true)
    (hd : field d 2 0 ≠ 1 ∨ (axCmd a d s).ampsNow a = []) : s.hostWord (axAddr A.AX_CMD a) d = axCmd a d s := by
  obtain ⟨hrow, hdom, hix, _⟩ := lookup_axCmd a
  have hbar : s.barred (axAddr A.AX_CMD a) = false := by simp [State.barred, hrow, axCmdRow]
  have haddr : s.addrOn (axAddr A.AX_CMD a) = true := by
    rw [State.addrOn, hdom]
    exact Bool.or_eq_true_iff.mpr (Or.inl hon)
  have hw : s.writeLegal (200 * s.clk.ticks) (axAddr A.AX_CMD a) d = axCmd a d s := by
    simp [State.writeLegal, hrow, haddr, hdom, axCmdRow, higher, State.writeBlock, State.afterStore, hix]
  have hclash : ampClash (200 * s.clk.ticks) (axAddr A.AX_CMD a) d (axCmd a d s) = axCmd a d s := by
    unfold ampClash
    rw [hrow]
    dsimp only
    split
    · rename_i h
      rw [hix, hd.resolve_left (fun hne => hne h.2.1)]
      rfl
    · rfl
  rw [hostWord_of_hears hup hears, State.writeWord, hbar, if_neg nofun, if_pos hl, hw, hclash]

theorem exec_axisStart (hl : s.legal (axAddr A.AX_CMD a) 1 = true) (hamps : (axisStart a s).ampsNow a = []) :
    exec (.axisStart a) s = .next (axisStart a s) :=
  congrArg Host.Outcome.next (hostWord_axCmd hup hears hon hl (Or.inr hamps))

theorem exec_axisStop (hl : s.legal (axAddr A.AX_CMD a) 2 = true) : exec (.axisStop a) s = .next (axisStop a s) :=
  congrArg Host.Outcome.next (hostWord_axCmd hup hears hon hl (Or.inl (by decide)))

theorem exec_axisCoast (hl : s.legal (axAddr A.AX_CMD a) 3 = true) : exec (.axisCoast a) s = .next (axisCoast a s) :=
  congrArg Host.Outcome.next (hostWord_axCmd hup hears hon hl (Or.inl (by decide)))

theorem exec_axisStallClear (hl : s.legal (axAddr A.AX_CMD a) 8 = true) :
    exec (.axisStallClear a) s = .next (stallClear a s) :=
  congrArg Host.Outcome.next (hostWord_axCmd hup hears hon hl (Or.inl (by decide)))

end Command

/-! ### START (R246, R258) -/

theorem starts_apart (a : Fin 24) : Apart (axAddr A.AX_STARTS a) := by
  unfold Apart axAddr A.AX_STARTS
  omega

theorem mode_apart (a : Fin 24) : Apart (axAddr A.AX_MODE a) := by
  unfold Apart axAddr A.AX_MODE
  omega

/-- An interrupted SHUNT_CAL changes its slot and raises OP_END. -/
theorem cutShuntCal_only (s : State) (b : Fin 8) : Only (raising { ops := true }) s (s.cutShuntCal b) :=
  only_of_forget (cutShuntCal_forget (raising { ops := true }) s b (mayRaise_raising _) rfl)

theorem cutShuntCal_rd (s : State) (b : Fin 8) {n : Nat} (h : Apart n) : (s.cutShuntCal b).rd n = s.rd n := by
  unfold State.cutShuntCal
  split
  · rfl
  · split
    · rfl
    · unfold State.interrupt
      split
      · exact endSlot_rd _ _ _ _ _ h
      · exact endSlot_rd _ _ _ _ _ h

theorem cutShuntCal_stage (s : State) (b : Fin 8) : SameStage s (s.cutShuntCal b) :=
  ⟨(cutShuntCal_only s b).hb rfl, (cutShuntCal_only s b).clk rfl, (cutShuntCal_only s b).img rfl⟩

theorem firstState_of_mode {s t : State} {a : Fin 24} (h : t.rd (axAddr A.AX_MODE a) = s.rd (axAddr A.AX_MODE a)) :
    t.firstState a = s.firstState a := by
  unfold State.firstState State.axMode State.axReg
  rw [h]

theorem startUp_spec (s : State) (a : Fin 24) : ((s.startUp a).ax[a]).st = s.firstState a ∧
    ((s.startUp a).ax[a]).retries = (s.ax[a]).retries ∧ ((s.startUp a).ax[a]).ref = 0 ∧
    ((s.startUp a).ax[a]).stopping = false ∧
    (s.startUp a).rd (axAddr A.AX_STARTS a) = w16 (satU ((s.rd (axAddr A.AX_STARTS a)).toNat + 1)) ∧
    SameStage s (s.startUp a) := by
  unfold State.startUp
  extract_lets st now s1
  have h1 : (s1.satInc (axAddr A.AX_STARTS a)).ax[a] = s1.ax[a] := rfl
  rw [h1]
  unfold s1
  rw [modAx_get, if_pos rfl]
  exact ⟨rfl, rfl, rfl, rfl, by rw [State.satInc, rd_wr, if_pos rfl]; rfl, rfl, rfl, rfl⟩

/-- START on a STOPPED axis of an armed bank. -/
theorem axisStart_armed {s : State} {a : Fin 24} (hst : (s.ax[a]).st = .stopped) (harm : (s.bank[axBank a]).armed = true) :
    axisStart a s =
      if s.startOk a then ((s.cutShuntCal (axBank a)).modAx a (fun x =>
        { x with retries := 0, lastDir := 0, zeroT := 0, startAt := some s.clk.ticks })).startUp a
      else (s.satInc (axAddr A.AX_STARTS a)).toStopped a .config := by
  unfold axisStart
  dsimp only
  rw [if_neg (not_not_intro hst), harm, if_neg (by decide)]

theorem axisStart_unarmed {s : State} {a : Fin 24} (hst : (s.ax[a]).st = .stopped) (harm : (s.bank[axBank a]).armed = false) :
    axisStart a s = s.modAx a (fun x => { x with cause := .disarm }) := by
  unfold axisStart
  dsimp only
  rw [if_neg (not_not_intro hst), harm, if_pos (by decide)]

/-- A check that passes starts the axis (R246, R258). -/
theorem axisStart_passes {s : State} {a : Fin 24} (hst : (s.ax[a]).st = .stopped) (harm : (s.bank[axBank a]).armed = true)
    (hok : s.startOk a = true) : ((axisStart a s).ax[a]).st = s.firstState a ∧ ((axisStart a s).ax[a]).retries = 0 ∧
      ((axisStart a s).ax[a]).ref = 0 ∧ ((axisStart a s).ax[a]).stopping = false ∧
      (axisStart a s).rd (axAddr A.AX_STARTS a) = w16 (satU ((s.rd (axAddr A.AX_STARTS a)).toNat + 1)) ∧
      SameStage s (axisStart a s) := by
  rw [axisStart_armed hst harm, if_pos hok]
  generalize hu : (s.cutShuntCal (axBank a)).modAx a (fun x =>
    { x with retries := 0, lastDir := 0, zeroT := 0, startAt := some s.clk.ticks }) = u
  have hrd : ∀ n, Apart n → u.rd n = s.rd n := fun n hn => by rw [← hu, modAx_rd, cutShuntCal_rd _ _ hn]
  have hret : (u.ax[a]).retries = 0 := by rw [← hu, modAx_get, if_pos rfl]
  have hstage : SameStage s u := by
    rw [← hu]
    exact (cutShuntCal_stage s (axBank a)).trans ⟨rfl, rfl, rfl⟩
  obtain ⟨h1, h2, h3, h4, h5, h6⟩ := startUp_spec u a
  refine ⟨h1.trans (firstState_of_mode (hrd _ (mode_apart a))), h2.trans hret, h3, h4, ?_, hstage.trans h6⟩
  rw [h5, hrd _ (starts_apart a)]

/-- A check that does not pass stops the axis with CONFIG (R246). -/
theorem axisStart_fails {s : State} {a : Fin 24} (hst : (s.ax[a]).st = .stopped) (harm : (s.bank[axBank a]).armed = true)
    (hok : s.startOk a = false) : ((axisStart a s).ax[a]).st = .stopped ∧ ((axisStart a s).ax[a]).cause = .config ∧
      eventBit (axisStart a s) (evAXIS_WARN (axBank a)) = true ∧
      (axisStart a s).rd (axAddr A.AX_STARTS a) = w16 (satU ((s.rd (axAddr A.AX_STARTS a)).toNat + 1)) ∧
      SameStage s (axisStart a s) := by
  rw [axisStart_armed hst harm, hok, if_neg nofun]
  have hstage := toStopped_stage (s.satInc (axAddr A.AX_STARTS a)) a .config
  refine ⟨?_, ?_, raise_self _ _ _ _, ?_, hstage.hb, hstage.clk, hstage.img⟩
  · rw [toStopped_self]
    rfl
  · rw [toStopped_self]
    rfl
  · rw [toStopped_rd _ _ _ (starts_apart a), State.satInc, rd_wr, if_pos rfl]

/-! ### STOP and COAST (R257) -/

theorem axisStop_begins {s : State} {a : Fin 24} (hstop : (s.ax[a]).stopping = false)
    (h : (s.ax[a]).st = .run ∨ (s.ax[a]).st = .ramp ∧ s.axMode a = .openLoop) : axisStop a s = s.beginStop a := by
  unfold axisStop
  dsimp only
  rcases h with h | ⟨h, hm⟩
  · rw [h]
    dsimp only
    rw [hstop, if_neg nofun]
  · rw [h]
    dsimp only
    rw [hstop, if_neg nofun, if_pos hm]

theorem axisStop_immediate {s : State} {a : Fin 24} (h : (s.ax[a]).st = .saliency ∨ (s.ax[a]).st = .align ∨
    (s.ax[a]).st = .retryWait ∨ (s.ax[a]).st = .ramp ∧ (s.ax[a]).stopping = false ∧ s.axMode a ≠ .openLoop) :
    axisStop a s = s.toStopped a .host := by
  unfold axisStop
  dsimp only
  rcases h with h | h | h | ⟨h, hs, hm⟩
  · rw [h]
  · rw [h]
  · rw [h]
  · rw [h]
    dsimp only
    rw [hs, if_neg nofun, if_neg hm]

theorem axisStop_ident {s : State} {a : Fin 24} {i : Fin 8} (h : (s.ax[a]).st = .ident) (hi : s.identSlot a = some i) :
    axisStop a s = (s.endSlot i .aborted failHOST).modAx a (fun x => { x with parked := some .host }) := by
  unfold axisStop
  dsimp only
  rw [h]
  dsimp only
  rw [hi]

theorem axisStop_stopped {s : State} {a : Fin 24} (h : (s.ax[a]).st = .stopped) : axisStop a s = s := by
  unfold axisStop
  dsimp only
  rw [h]

theorem beginStop_spec (s : State) (a : Fin 24) : ((s.beginStop a).ax[a]).st = (s.ax[a]).st ∧
    ((s.beginStop a).ax[a]).stopping = true ∧ ((s.beginStop a).ax[a]).tgt = 0 ∧
    (s.beginStop a).rd (axAddr A.AX_TARGET a) = 0 ∧ ∀ a' : Fin 24, a' ≠ a → (s.beginStop a).ax[a'] = s.ax[a'] := by
  unfold State.beginStop
  rw [wr_ax]
  refine ⟨?_, ?_, ?_, by rw [rd_wr, if_pos rfl], fun a' ha => ?_⟩
  · rw [modAx_get, if_pos rfl]
  · rw [modAx_get, if_pos rfl]
  · rw [modAx_get, if_pos rfl]
  · rw [modAx_get, if_neg (Ne.symm ha)]

/-- COAST takes an axis to STOPPED from every state, and no other axis with it. -/
theorem axisCoast_spec {s : State} {a : Fin 24} (h : (s.ax[a]).st ≠ .stopped) : ((axisCoast a s).ax[a]).st = .stopped ∧
    ((axisCoast a s).ax[a]).cause = .host ∧ ∀ a' : Fin 24, a' ≠ a → (axisCoast a s).ax[a'] = s.ax[a'] := by
  have hstop : ∀ u : State, u.ax = s.ax → ((u.toStopped a .host).ax[a]).st = .stopped ∧
      ((u.toStopped a .host).ax[a]).cause = .host ∧ ∀ a' : Fin 24, a' ≠ a → (u.toStopped a .host).ax[a'] = s.ax[a'] := by
    intro u hu
    refine ⟨?_, ?_, fun a' ha => ?_⟩
    · rw [toStopped_self]
      rfl
    · rw [toStopped_self]
      rfl
    · rw [toStopped_other u ha, hu]
  unfold axisCoast
  split
  · contradiction
  · refine hstop _ ?_
    split
    · rfl
    · exact endSlot_ax _ _ _ _
  · exact hstop s rfl

theorem axisCoast_stopped {s : State} {a : Fin 24} (h : (s.ax[a]).st = .stopped) : axisCoast a s = s := by
  unfold axisCoast
  rw [h]

/-- Settles O32: a legal write to AX_CMD is the command it holds; each command by the state it meets. -/
theorem axisCommands : Obligations.AxisCommands := by
  unfold Obligations.AxisCommands
  intro s a hup hears hon
  refine ⟨fun hl hamps hst => ⟨fun harm hok => ?_, fun harm hok => ?_, fun harm => ?_⟩, fun h => legal_start h,
    fun hl => ⟨fun hs h => ?_, fun h => ?_, fun i hst hi => ?_, fun h => ?_⟩,
    fun hl => ⟨fun h => ?_, fun h => ?_⟩, fun hl => exec_axisStallClear hup hears hon hl⟩
  · obtain ⟨h1, h2, h3, h4, h5, hsame⟩ := axisStart_passes hst harm hok
    exact ⟨_, exec_axisStart hup hears hon hl ((hsame.amps a).trans hamps), h1, h2, h3, h4, h5⟩
  · obtain ⟨h1, h2, h3, h4, hsame⟩ := axisStart_fails hst harm hok
    exact ⟨_, exec_axisStart hup hears hon hl ((hsame.amps a).trans hamps), h1, h2, h3, h4⟩
  · have hsame : SameStage s (s.modAx a (fun x => { x with cause := .disarm })) := ⟨rfl, rfl, rfl⟩
    have he := axisStart_unarmed hst harm
    rw [exec_axisStart hup hears hon hl (by rw [he]; exact (hsame.amps a).trans hamps), he]
  · rw [exec_axisStop hup hears hon hl, axisStop_begins hs h]
    exact ⟨_, rfl, beginStop_spec s a⟩
  · rw [exec_axisStop hup hears hon hl, axisStop_immediate h]
    exact ⟨_, rfl, by rw [toStopped_self]; rfl, by rw [toStopped_self]; rfl⟩
  · rw [exec_axisStop hup hears hon hl, axisStop_ident hst hi]
    exact ⟨_, rfl, endSlot_st _ _ _ _, endSlot_fail _ _ _ _, by rw [modAx_get, if_pos rfl]⟩
  · rw [exec_axisStop hup hears hon hl, axisStop_stopped h]
  · rw [exec_axisCoast hup hears hon hl, axisCoast_stopped h]
  · exact ⟨_, exec_axisCoast hup hears hon hl, axisCoast_spec h⟩

end Sys2Proof.Proofs
end

section
/-! SUPPORT. Proofs of the transitions of an axis by time and by its inputs, and of what an engine step leaves of an axis that
is on its way to STOPPED (R242, R257, R259, R261, R265, R266). -/
namespace Sys2Proof.Proofs
set_option Elab.async false
open Sys2Proof.Machine Sys2Proof.Safety Sys2Proof.Laws

/-! ### Free values reach no axis -/

theorem round_ax (s : State) (x : Rat) : (s.round x).1.ax = s.ax :=
  (only_of_forget (round_forget { free := true } s x rfl)).ax rfl

theorem quant_ax (s : State) (x : Rat) : (s.quant x).1.ax = s.ax :=
  (only_of_forget (quant_forget { free := true } s x rfl)).ax rfl

theorem pick_ax {α : Type} (s : State) (l : List α) : (s.pick l).1.ax = s.ax :=
  (only_of_forget (pick_forget { free := true } s l rfl)).ax rfl

theorem pick_clk {α : Type} (s : State) (l : List α) : (s.pick l).1.clk = s.clk :=
  (only_of_forget (pick_forget { free := true } s l rfl)).clk rfl

/-! ### Saliency, ALIGN, RETRY_WAIT (Table AXIS-4) -/

section Transitions
variable {s : State} {a : Fin 24}

theorem exec_saliencyDone (hf : s.following = false) (peaks : List (BitVec 16)) (h : (s.ax[a]).st = .saliency) :
    exec (.saliencyDone a peaks) s =
      .next (if s.salTicks a ≤ s.clk.ticks - (s.ax[a]).since then saliencyDone a peaks s else s) := by
  change execSaliencyDone a peaks s = _
  rw [execSaliencyDone, h, hf]
  simp

theorem salAngle_frame (s : State) (peaks : List (BitVec 16)) : (s.salAngle peaks).1.clk = s.clk := by
  unfold State.salAngle
  dsimp only
  rw [pick_clk, pick_clk]

theorem saliencyDone_spec (s : State) (a : Fin 24) (peaks : List (BitVec 16)) :
    ((saliencyDone a peaks s).ax[a]).st = .align ∧ ((saliencyDone a peaks s).ax[a]).since = s.clk.ticks := by
  unfold saliencyDone
  dsimp only
  rw [modAx_get, if_pos rfl, salAngle_frame]
  exact ⟨rfl, rfl⟩

theorem exec_alignDone (hf : s.following = false) (h : (s.ax[a]).st = .align) :
    exec (.alignDone a) s =
      .next (if msTicks (s.axReg A.AX_TALIGN a).toNat ≤ s.clk.ticks - (s.ax[a]).since then alignDone a s else s) := by
  change execAlignDone a s = _
  rw [execAlignDone, h, hf]
  simp

theorem alignDone_ramp (h : (s.axMode a).sensorless = true ∨ s.axMode a = .openLoop) :
    ((alignDone a s).ax[a]).st = .ramp ∧ ((alignDone a s).ax[a]).ifs = 0 := by
  unfold alignDone
  extract_lets now m
  have hm : (m.sensorless || m == .openLoop) = true := by
    rcases h with h | h
    · rw [show m.sensorless = true from h, Bool.true_or]
    · rw [show m = .openLoop from h]
      rfl
  rw [if_pos hm, modAx_get, if_pos rfl]
  exact ⟨rfl, rfl⟩

theorem alignDone_run (h : s.axMode a = .focEnc) :
    ((alignDone a s).ax[a]).st = .run ∧ ((alignDone a s).ax[a]).runAt = s.clk.ticks := by
  unfold alignDone
  extract_lets now m
  have hm : ¬ (m.sensorless || m == .openLoop) = true := by
    rw [show m = .focEnc from h]
    decide
  rw [if_neg hm]
  dsimp only
  rw [modAx_get, if_pos rfl]
  exact ⟨rfl, rfl⟩

theorem exec_retryWaitEnd (hf : s.following = false) (h : (s.ax[a]).st = .retryWait)
    (ht : msTicks 100 ≤ s.clk.ticks - (s.ax[a]).since) : exec (.retryWaitEnd a) s = .next (s.startUp a) := by
  change execRetryWaitEnd a s = _
  rw [execRetryWaitEnd, h, hf, decide_eq_true ht]
  rfl

/-! ### Stalls (R265, R266) -/

theorem exec_stallDetected (hf : s.following = false) {crit : Fin 3} (h : s.stallHolds a crit = true) :
    exec (.stallDetected a crit) s = .next (stall a s) := by
  change execStallDetected a crit s = _
  rw [execStallDetected, h, hf]
  rfl

/-- A stall is a stall of RUN. -/
theorem run_of_stall {crit : Fin 3} (h : s.stallHolds a crit = true) : (s.ax[a]).st = .run := by
  unfold State.stallHolds at h
  simp only [Bool.and_eq_true, beq_iff_eq] at h
  exact h.1.2

/-- The stall counted, its criteria begun anew. -/
def stallCounted (a : Fin 24) (s : State) : State :=
  (s.satInc (axAddr A.AX_STALLCNT a)).modAx a (fun x => { x with nminAt := none, confAt := none, errAt := none })

/-- What follows a counted stall, by AX_STALLCFG.react. -/
theorem stall_eq (s : State) (a : Fin 24) : stall a s =
    if field (s.axReg A.AX_STALLCFG a) 1 0 = 2 then
      ((stallCounted a s).modAx a (fun x => { x with stall := true })).raiseAxis (axBank a) false (w16 a.val)
        (w16 (0x8000 + AxCause.stall.code))
    else if field (s.axReg A.AX_STALLCFG a) 1 0 = 1 && ((stallCounted a s).ax[a]).retries < (stallCounted a s).nretry a then
      (stallCounted a s).toRetry a
    else (stallCounted a s).toStopped a .stall := rfl

theorem raiseAxis_warn (s : State) (b : Fin 8) (d0 d1 : Word) :
    s.raiseAxis b false d0 d1 = s.raise (evAXIS_WARN b) d0 d1 := rfl

theorem stallcnt_apart (a : Fin 24) : Apart (axAddr A.AX_STALLCNT a) := by
  unfold Apart axAddr A.AX_STALLCNT
  omega

theorem stallCounted_count (s : State) (a : Fin 24) : (stallCounted a s).rd (axAddr A.AX_STALLCNT a) =
    w16 (satU ((s.rd (axAddr A.AX_STALLCNT a)).toNat + 1)) := by
  unfold stallCounted
  rw [modAx_rd, State.satInc, rd_wr, if_pos rfl]

theorem stallCounted_ax (s : State) (a : Fin 24) :
    (stallCounted a s).ax[a] = { s.ax[a] with nminAt := none, confAt := none, errAt := none } := by
  unfold stallCounted
  rw [modAx_get, if_pos rfl]
  rfl

theorem stallCounted_nretry (s : State) (a : Fin 24) : (stallCounted a s).nretry a = s.nretry a := by
  unfold stallCounted State.nretry State.axReg
  rw [modAx_rd, satInc_rd _ _ _ (by unfold axAddr A.AX_NRETRY A.AX_STALLCNT; omega)]

theorem stall_count (s : State) (a : Fin 24) : (stall a s).rd (axAddr A.AX_STALLCNT a) =
    w16 (satU ((s.rd (axAddr A.AX_STALLCNT a)).toNat + 1)) := by
  rw [stall_eq]
  split
  · rw [raiseAxis_warn, raise_rd _ _ _ _ (warnSrc _) _ (stallcnt_apart a), modAx_rd, stallCounted_count]
  · split
    · rw [State.toRetry, modAx_rd, stallCounted_count]
    · rw [toStopped_rd _ _ _ (stallcnt_apart a), stallCounted_count]

theorem stall_flags {s : State} {a : Fin 24} (h : field (s.axReg A.AX_STALLCFG a) 1 0 = 2) : ((stall a s).ax[a]).stall = true ∧
    ((stall a s).ax[a]).st = (s.ax[a]).st ∧ eventBit (stall a s) (evAXIS_WARN (axBank a)) = true := by
  rw [stall_eq, if_pos h]
  refine ⟨?_, ?_, raise_self _ _ _ _⟩
  · rw [raiseAxis_warn, raise_ax, modAx_get, if_pos rfl]
  · rw [raiseAxis_warn, raise_ax, modAx_get, if_pos rfl, stallCounted_ax]

theorem stall_retries (h : field (s.axReg A.AX_STALLCFG a) 1 0 = 1) (hr : (s.ax[a]).retries < s.nretry a) :
    ((stall a s).ax[a]).st = .retryWait ∧ ((stall a s).ax[a]).retries = (s.ax[a]).retries + 1 := by
  have hlt : ((stallCounted a s).ax[a]).retries < (stallCounted a s).nretry a := by
    rw [stallCounted_ax, stallCounted_nretry]
    exact hr
  rw [stall_eq, h, if_neg (by decide), if_pos (by simpa using hlt), State.toRetry, modAx_get, if_pos rfl, stallCounted_ax]
  exact ⟨rfl, rfl⟩

theorem stall_stops (h : field (s.axReg A.AX_STALLCFG a) 1 0 = 0) :
    ((stall a s).ax[a]).st = .stopped ∧ ((stall a s).ax[a]).cause = .stall := by
  rw [stall_eq, h, if_neg (by decide), if_neg (by simp), toStopped_self]
  exact ⟨rfl, rfl⟩

end Transitions

/-! ### What a current step leaves of an axis (R242) -/

/-- What of an axis says that it is on its way to STOPPED, and when its last step was. -/
def coreOf (x : Axis) : AxSt × Option AxCause × Option Nat := (x.st, x.parked, x.lastCur)

/-- `t` has that of axis `a` as `s` has it. -/
def SameCore (a : Fin 24) (s t : State) : Prop := coreOf t.ax[a] = coreOf s.ax[a]

section Core
variable {a : Fin 24} {s t u : State}

theorem SameCore.trans (h : SameCore a s t) (h' : SameCore a t u) : SameCore a s u := Eq.trans h' h

theorem sameCore_of_ax (h : t.ax = s.ax) : SameCore a s t := by
  unfold SameCore
  rw [h]

theorem sameCore_modAx (s : State) {f : Axis → Axis} (hf : ∀ x, coreOf (f x) = coreOf x) : SameCore a s (s.modAx a f) := by
  unfold SameCore
  rw [modAx_get, if_pos rfl, hf]

theorem wrQuant_ax (s : State) (n : Nat) (x : Rat) : (s.wrQuant n x).ax = s.ax := by
  unfold State.wrQuant
  dsimp only
  rw [wr_ax, quant_ax]

theorem currents_ax (s : State) (a : Fin 24) : (s.currents a).1.ax = s.ax := by
  unfold State.currents
  extract_lets l
  split
  · dsimp only
    rw [pick_ax]
  · rfl

/-- A FOC step changes the integrators of its axis alone (R256). -/
theorem foc_core (s : State) (a : Fin 24) (ang : Rat) (d q : Int) : SameCore a s (s.foc a ang d q).1 := by
  unfold State.foc
  split
  next s1 cur e1 =>
  extract_lets al be c n
  split
  next s2 id e2 =>
  split
  next s3 iq e3 =>
  extract_lets kp ki ed eq vm v0 v1 sq high k raw duties hold u1 u2
  have h1 : s1.ax = s.ax := (congrArg (·.1.ax) e1).symm.trans (currents_ax s a)
  have h2 : s2.ax = s1.ax := (congrArg (·.1.ax) e2).symm.trans (quant_ax _ _)
  have h3 : s3.ax = s2.ax := (congrArg (·.1.ax) e3).symm.trans (quant_ax _ _)
  have h4 : SameCore a s3 u1 := by
    unfold u1
    split
    · rfl
    · exact sameCore_modAx _ (fun _ => rfl)
  refine ((sameCore_of_ax (h3.trans (h2.trans h1))).trans h4).trans (sameCore_of_ax ?_)
  rw [wrQuant_ax, wrQuant_ax]
  rfl

theorem hallAngle_ax (s : State) (a : Fin 24) : (s.hallAngle a).1.ax = s.ax := by
  unfold State.hallAngle
  extract_lets x mid half
  split
  · rfl
  · rfl

theorem measure_ax (s : State) (a : Fin 24) : (s.measure a).ax = s.ax := by
  unfold State.measure
  extract_lets x m put
  have hput : ∀ u v, (put u v).ax = u.ax := fun u v => round_ax u v
  split
  · exact hput _ _
  · clear_value m
    cases m with
    | focObs => rfl
    | _ => exact hput _ _

theorem angleStep_core (hst : (s.ax[a]).st ≠ .ramp) (dt : Nat) : SameCore a s (s.angleStep a dt) := by
  unfold State.angleStep
  extract_lets x m now ang u shown
  have hu : SameCore a s u := by
    unfold u
    split
    · rfl
    · rfl
    · contradiction
    · clear_value m
      cases m with
      | sixHall => exact sameCore_modAx _ (fun _ => rfl)
      | sixBemf =>
        refine sameCore_modAx _ (fun y => ?_)
        dsimp only
        split
        · rfl
        · split
          · rfl
          · rfl
      | focHall =>
        dsimp only
        exact (sameCore_of_ax (hallAngle_ax s a)).trans (sameCore_modAx _ (fun _ => rfl))
      | focEnc => exact sameCore_modAx _ (fun _ => rfl)
      | focObs =>
        dsimp only
        split
        · exact sameCore_modAx s.took (fun _ => rfl)
        · rfl
      | _ => rfl
  exact hu.trans (sameCore_of_ax (round_ax _ _))

theorem confStep_ax (s : State) (a : Fin 24) : (s.confStep a).ax = s.ax := by
  unfold State.confStep
  extract_lets x
  split
  · rfl
  · split
    · rfl
    · exact wrQuant_ax _ _ _
    · rfl

theorem plausStep_core (s : State) (a : Fin 24) : SameCore a s (s.plausStep a) := by
  unfold State.plausStep
  split
  · exact sameCore_modAx _ (fun _ => rfl)
  · exact sameCore_modAx _ (fun _ => rfl)

theorem speedStep_core (hst : (s.ax[a]).st = .stopped ∨ (s.ax[a]).st = .ident) (t : Nat) :
    SameCore a s (s.speedStep t a).1 ∧ (s.speedStep t a).2 = false := by
  unfold State.speedStep
  extract_lets x dt u
  have hx : (x.st == .stopped || x.st == .ident) = true := by
    rcases hst with h | h
    · rw [show x.st = .stopped from h]
      rfl
    · rw [show x.st = .ident from h]
      rfl
  rw [if_pos (by rw [Bool.or_assoc, hx, Bool.or_true])]
  exact ⟨sameCore_modAx _ (fun _ => rfl), rfl⟩

theorem watchStall_core (s : State) (a : Fin 24) : SameCore a s (s.watchStall a) := sameCore_modAx _ (fun _ => rfl)

theorem retryStep_core (s : State) (a : Fin 24) : SameCore a s (s.retryStep a) := by
  unfold State.retryStep
  split
  · exact sameCore_modAx _ (fun _ => rfl)
  · rfl

theorem handoverStep_idle (hst : (s.ax[a]).st ≠ .ramp) (dt : Nat) : s.handoverStep a dt = s := by
  unfold State.handoverStep
  extract_lets x
  rw [if_neg (fun h => hst h.1)]

theorem meterStep_core (s : State) (a : Fin 24) : SameCore a s (s.meterStep a) := by
  unfold State.meterStep
  extract_lets x on ang u
  refine SameCore.trans (sameCore_of_ax ?_) (sameCore_modAx _ (fun _ => rfl))
  unfold u
  split
  · exact each_keeps (f := fun s r => s.meterRow r a x.prevTick x.prevAng ang) (·.ax) (fun v r => (only_of_forget
      (meterRow_forget (raising { regs := [.SOL_EXPOVF], free := true, sol := true }) v r a _ _ _ (mayRaise_raising _) rfl rfl
      (has_of_mem (by decide)))).ax rfl) _ s
  · rfl

/-! ### The steps of MOTOR_ID (R271) -/

theorem identStage_core (s : State) (t : Nat) (a : Fin 24) (i : Fin 8) : SameCore a s (s.identStage t a i) := by
  unfold State.identStage
  extract_lets y seen known go
  have hgo : ∀ v k, SameCore a v (go v k) := fun v k => sameCore_modAx _ (fun _ => rfl)
  split
  · exact hgo s 0
  · split
    · exact hgo s known
    · split
      · exact SameCore.trans (sameCore_of_ax rfl) (hgo s.took (y.stage + 1))
      · rfl

theorem holdOut_core (s : State) (a : Fin 24) : SameCore a s (s.holdOut a).1 := by
  unfold State.holdOut
  extract_lets h
  split
  · rfl
  · split
    · exact foc_core _ _ _ _ _
    · rfl

theorem identHold_core (s : State) (t : Nat) (a : Fin 24) (it : Int) : SameCore a s (s.identHold t a it).1 := by
  unfold State.identHold
  extract_lets y half
  split
  next u ref e =>
  have hu : u.ax = s.ax := (congrArg (·.1.ax) e).symm.trans (quant_ax _ _)
  split
  next v d e' =>
  have hv : SameCore a u v := by
    have h := foc_core u a 0 ref 0
    rwa [e'] at h
  exact ((sameCore_of_ax hu).trans hv).trans (sameCore_modAx _ (fun _ => rfl))

theorem identPulse_core (s : State) (t : Nat) (a : Fin 24) (deg : Nat) : SameCore a s (s.identPulse t a deg).1 := by
  unfold State.identPulse
  extract_lets y cut on rest u
  have hu : SameCore a s u := SameCore.trans (sameCore_of_ax rfl) (sameCore_modAx s.took.took (fun _ => rfl))
  split
  · exact hu
  · exact hu

theorem identSpin_core (s : State) (a : Fin 24) (dt : Nat) (it : Int) : SameCore a s (s.identSpin a dt it).1 := by
  unfold State.identSpin
  extract_lets half adv u
  have hu : SameCore a s u := SameCore.trans (sameCore_of_ax rfl) (sameCore_modAx s.took.took (fun _ => rfl))
  split
  · exact hu
  · exact hu.trans (foc_core _ _ _ _ _)

theorem identOut_core (s : State) (t : Nat) (a : Fin 24) (dt : Nat) : SameCore a s (s.identOut t a dt).1 := by
  unfold State.identOut
  split
  · exact holdOut_core s a
  · rename_i i _
    split
    next u it e =>
    have hu : SameCore a s u := (identStage_core s t a i).trans
      (sameCore_of_ax ((congrArg (·.1.ax) e).symm.trans (round_ax _ _)))
    split
    · exact hu.trans (identHold_core _ _ _ _)
    · exact hu.trans (identPulse_core _ _ _ _)
    · exact hu.trans (identPulse_core _ _ _ _)
    · exact hu.trans (identSpin_core _ _ _ _)

end Core

/-! ### A step of an axis that is on its way to STOPPED -/

/-- Axis `a` had its last step at PWM clock `t` and is STOPPED or, where `id` allows it, parked in IDENT. -/
def Halts (id : Prop) (a : Fin 24) (t : Nat) (s : State) : Prop :=
  (s.ax[a]).lastCur = some t ∧ ((s.ax[a]).st = .stopped ∨ id ∧ (s.ax[a]).st = .ident ∧ ((s.ax[a]).parked).isSome = true)

/-- What a step of an axis up to its output may reach. -/
def stepReach : Parts :=
  raising { regs := [.AX_STALECNT, .AX_SPD, .AX_REF, .AX_STARTS, .AX_TARGET, .AX_ANGLE, .AX_CONF, .AX_ID, .AX_IQ, .AX_VD, .AX_VQ],
            free := true, ops := true, ax := true }

section Halt
variable {id : Prop} {a : Fin 24} {t : Nat} {s u : State}

theorem Halts.of_core (h : Halts id a t s) (hc : SameCore a s u) : Halts id a t u := by
  obtain ⟨h1, h2⟩ := Prod.mk.inj hc
  obtain ⟨h2, h3⟩ := Prod.mk.inj h2
  unfold Halts
  rw [h1, h2, h3]
  exact h

theorem Halts.states (h : Halts id a t s) : (s.ax[a]).st = .stopped ∨ (s.ax[a]).st = .ident :=
  h.2.imp_right (fun h => h.2.1)

theorem Halts.notRamp (h : Halts id a t s) : (s.ax[a]).st ≠ .ramp := by
  rcases h.states with h | h
  · rw [h]; exact nofun
  · rw [h]; exact nofun

theorem stopAxis_halts (h : Halts id a t s) (c : AxCause) : Halts id a t (s.stopAxis a c) := by
  unfold State.stopAxis
  split
  · exact h
  · extract_lets s1
    have h1 : s1.ax = s.ax := by
      unfold s1
      split
      · exact failOp_ax _ _
      · rfl
    refine ⟨?_, Or.inl ?_⟩
    · rw [toStopped_self, h1]
      exact h.1
    · rw [toStopped_self]
      rfl

theorem staleStep_halts (h : Halts id a t s) : Halts id a t (s.staleStep a) := by
  unfold State.staleStep
  extract_lets fresh s1 s2
  have h1 : Halts id a t s1 := h.of_core (sameCore_modAx _ (fun _ => rfl))
  have h2 : Halts id a t s2 := h1.of_core (sameCore_modAx (s1.satInc _) (fun _ => rfl))
  split
  · exact h1.of_core (sameCore_modAx _ (fun _ => rfl))
  · split
    · exact stopAxis_halts h2 _
    · exact h2

theorem hallRead_halts (h : Halts id a t s) (n : Nat) : Halts id a t (s.hallRead a n) := by
  unfold State.hallRead
  extract_lets bad s1 x
  have h1 : Halts id a t s1 := h.of_core (sameCore_modAx _ (fun _ => rfl))
  split
  · exact stopAxis_halts h1 _
  · exact h1

/-- The checks and the measured speed of a step. -/
def stepSensed (t : Nat) (a : Fin 24) (s : State) : State :=
  let s := ((s.modAx a (fun x => { x with lastCur := some t })).staleStep a).plausStep a
  (if (s.axMode a).hall then s.hallRead a (field (s.axReg A.AX_HALL a) 2 0) else s).measure a

/-- A step up to the output: the speed step, the angle and the confidence follow the checks. -/
def stepPlaced (t : Nat) (a : Fin 24) (spd : Bool) (dt : Nat) (s : State) : State × Bool :=
  let p := if spd then (stepSensed t a s).speedStep t a else (stepSensed t a s, false)
  ((p.1.angleStep a dt).confStep a, p.2)

/-- The time since the step before. -/
def stepTime (t : Nat) (a : Fin 24) (s : State) : Nat :=
  match s.ax[a].lastCur with
  | none => 0
  | some p => t - p

/-- What a step does once its speed step is over, and whether that one found the ramp at its end. -/
def stepActs (t : Nat) (a : Fin 24) (spd : Bool) (dt : Nat) (s : State) (ended : Bool) : State :=
  let u := s.handoverStep a dt
  let v := if ended && (u.axMode a).sensorless && u.ax[a].st == .ramp then u.startFail a else u
  let o := ((v.watchStall a).retryStep a).output t a dt
  (o.1.writeCompare t a spd o.2.1 o.2.2).identLeave a

/-- The steps before the output, the output, and the release meter. -/
theorem engineRun_eq (s : State) (t : Nat) (a : Fin 24) (spd : Bool) : s.engineRun t a spd =
    (let p := stepPlaced t a spd (stepTime t a s) s
     (if p.1.following then p.1 else stepActs t a spd (stepTime t a s) p.1 p.2).meterStep a) := by
  unfold State.engineRun stepPlaced
  change (match (if spd then (stepSensed t a s).speedStep t a else (stepSensed t a s, false)) with
    | (u, ended) => (if ((u.angleStep a (stepTime t a s)).confStep a).following then (u.angleStep a (stepTime t a s)).confStep a
        else stepActs t a spd (stepTime t a s) ((u.angleStep a (stepTime t a s)).confStep a) ended).meterStep a) = _
  generalize (if spd then (stepSensed t a s).speedStep t a else (stepSensed t a s, false)) = p
  rfl

theorem stepSensed_halts (h : Halts id a t (s.modAx a (fun x => { x with lastCur := some t }))) :
    Halts id a t (stepSensed t a s) := by
  unfold stepSensed
  extract_lets s1
  have h1 : Halts id a t s1 := (staleStep_halts h).of_core (plausStep_core _ _)
  refine Halts.of_core ?_ (sameCore_of_ax (measure_ax _ a))
  split
  · exact hallRead_halts h1 _
  · exact h1

theorem stepPlaced_halts (h : Halts id a t (s.modAx a (fun x => { x with lastCur := some t }))) (spd : Bool) (dt : Nat) :
    Halts id a t (stepPlaced t a spd dt s).1 ∧ (stepPlaced t a spd dt s).2 = false := by
  unfold stepPlaced
  extract_lets p
  have h1 := stepSensed_halts h
  have hp : Halts id a t p.1 ∧ p.2 = false := by
    unfold p
    split
    · exact ⟨h1.of_core (speedStep_core h1.states t).1, (speedStep_core h1.states t).2⟩
    · exact ⟨h1, rfl⟩
  exact ⟨(hp.1.of_core (angleStep_core hp.1.notRamp dt)).of_core (sameCore_of_ax (confStep_ax _ _)), hp.2⟩

theorem stepPlaced_frame (s : State) (t : Nat) (a : Fin 24) (spd : Bool) (dt : Nat) :
    Only stepReach s (stepPlaced t a spd dt s).1 := by
  have hev : MayRaise stepReach := mayRaise_raising _
  refine only_of_forget ?_
  unfold stepPlaced
  extract_lets p
  have h1 : forget stepReach (stepSensed t a s) = forget stepReach s := by
    unfold stepSensed
    extract_lets s1
    have hs : forget stepReach s1 = forget stepReach s :=
      (plausStep_forget _ _ _ rfl).trans ((staleStep_forget _ _ _ hev rfl rfl (has_of_mem (by decide))).trans
        (modAx_forget _ _ _ _ rfl))
    refine (measure_forget _ _ _ rfl (has_of_mem (by decide))).trans ?_
    split
    · exact (hallRead_forget _ _ _ _ hev rfl rfl).trans hs
    · exact hs
  have hp : forget stepReach p.1 = forget stepReach s := by
    unfold p
    split
    · exact (speedStep_forget _ _ _ _ hev rfl rfl (has_of_mem (by decide)) (has_of_mem (by decide))
        (has_of_mem (by decide))).trans h1
    · exact h1
  exact (confStep_forget _ _ _ rfl (has_of_mem (by decide))).trans
    ((angleStep_forget _ _ _ _ rfl rfl (has_of_mem (by decide))).trans hp)

theorem output_halts (h : Halts id a t s) (dt : Nat) : Halts id a t (s.output t a dt).1 := by
  unfold State.output
  extract_lets x
  rcases h.states with hs | hs
  · rw [show x.st = .stopped from hs]
    exact h
  · rw [show x.st = .ident from hs]
    exact h.of_core (identOut_core s t a dt)

theorem output_stopped (h : (s.ax[a]).st = .stopped) (dt : Nat) : s.output t a dt = (s, [0, 0, 0], 0) := by
  unfold State.output
  extract_lets x
  rw [show x.st = .stopped from h]

theorem meterStep_tim (s : State) (a : Fin 24) : (s.meterStep a).tim = s.tim :=
  (only_of_forget (meterStep_forget (raising { regs := [.SOL_EXPOVF], free := true, ax := true, sol := true }) s a
    (mayRaise_raising _) rfl rfl rfl (has_of_mem (by decide)))).tim rfl

theorem identLeave_tim (s : State) (a : Fin 24) : (s.identLeave a).tim = s.tim :=
  (only_of_forget (identLeave_forget (raising { ax := true }) s a (mayRaise_raising _) rfl)).tim rfl

theorem identLeave_stops (h : Halts id a t s) : Halts False a t (s.identLeave a) := by
  unfold State.identLeave
  split
  · refine ⟨?_, Or.inl ?_⟩
    · rw [toStopped_self]
      exact h.1
    · rw [toStopped_self]
      rfl
  · rename_i hn
    refine ⟨h.1, Or.inl (h.2.resolve_right fun hid => ?_)⟩
    obtain ⟨_, hst, hpark⟩ := hid
    obtain ⟨c, hc⟩ := Option.isSome_iff_exists.mp hpark
    exact hn c hst hc

theorem writeCompare_ax (s : State) (t : Nat) (a : Fin 24) (spd : Bool) (l : List Rat) (n : Nat) :
    (s.writeCompare t a spd l n).ax = s.ax :=
  (only_of_forget (writeCompare_forget { regs := [.AX_LATECNT], free := true, tim := true } s t a spd l n rfl rfl
    (has_of_mem (by decide)))).ax rfl

/-- The state whose output a step that does not follow a partner writes. -/
def stepReady (t : Nat) (a : Fin 24) (spd : Bool) (s : State) : State :=
  ((stepPlaced t a spd (stepTime t a s) s).1.watchStall a).retryStep a

theorem stepReady_halts (h : Halts id a t (s.modAx a (fun x => { x with lastCur := some t }))) (spd : Bool) :
    Halts id a t (stepReady t a spd s) :=
  ((stepPlaced_halts h spd _).1.of_core (watchStall_core _ _)).of_core (retryStep_core _ _)

/-- A step of an axis on its way to STOPPED, in a device that follows no partner. -/
theorem engineRun_halts (hf : s.following = false) (h : Halts id a t (s.modAx a (fun x => { x with lastCur := some t })))
    (spd : Bool) : s.engineRun t a spd =
      ((((stepReady t a spd s).output t a (stepTime t a s)).1.writeCompare t a spd
          ((stepReady t a spd s).output t a (stepTime t a s)).2.1
          ((stepReady t a spd s).output t a (stepTime t a s)).2.2).identLeave a).meterStep a := by
  obtain ⟨hp, hended⟩ := stepPlaced_halts h spd (stepTime t a s)
  have hfol : (stepPlaced t a spd (stepTime t a s) s).1.following = false := by
    rw [← hf]
    unfold State.following
    rw [(stepPlaced_frame s t a spd _).pair rfl]
  rw [engineRun_eq]
  dsimp only
  rw [hfol, if_neg nofun, hended]
  unfold stepActs stepReady
  rw [handoverStep_idle hp.notRamp]
  rfl

theorem engineRun_stops (hf : s.following = false) (h : Halts id a t (s.modAx a (fun x => { x with lastCur := some t })))
    (spd : Bool) : ((s.engineRun t a spd).ax[a]).lastCur = some t ∧ ((s.engineRun t a spd).ax[a]).st = .stopped := by
  have ho := output_halts (stepReady_halts h spd) (stepTime t a s)
  have hw : Halts False a t (s.engineRun t a spd) := by
    rw [engineRun_halts hf h]
    exact (identLeave_stops (ho.of_core (sameCore_of_ax (writeCompare_ax _ _ _ _ _ _)))).of_core (meterStep_core _ _)
  exact ⟨hw.1, hw.2.resolve_right fun hid => hid.1⟩

end Halt

/-! ### The compare stage after a step without a duty (R161, R244) -/

theorem cmpOf_zero (s : State) (a : Fin 24) : (s.cmpOf a 0).2 = (0, 0) := by
  have hq : ∀ n : Int, s.quant ((0 - 0 : Rat) * n) = (s, 0) := by
    intro n
    have h0 : ((0 - 0 : Rat) * n) = 0 := by rw [Rat.sub_self, Rat.zero_mul]
    rw [h0]
    rfl
  unfold State.cmpOf
  extract_lets act x c n
  have hx : x = 0 := Rat.zero_mul _
  have hc : c = 0 := by
    unfold c
    rw [hx]
    rfl
  split
  · rw [hc]
    rfl
  · have hn : (0 : Int) ≠ n := by
      unfold n
      split
      · decide
      · decide
    have := hq n
    rw [hx, hc]
    simp only [Rat.intCast_zero, this, if_neg hn]
    rfl

/-- A bank has two axes beside each of its own. -/
theorem others_le : ∀ a : Fin 24, ((axesOf (axBank a)).filter (fun x => x != a)).length ≤ 2 := by decide

theorem stepClks_le (s : State) (a : Fin 24) (spd : Bool) : s.stepClks a spd ≤ 1200 := by
  have hle : ((axesOf (axBank a)).filter (fun x => x != a && s.isAxis x && (s.routeTo 2 x.val).isSome)).length ≤ 2 := by
    refine Nat.le_trans ?_ (others_le a)
    rw [← List.countP_eq_length_filter, ← List.countP_eq_length_filter]
    refine List.countP_mono_left fun x _ hx => ?_
    simp only [Bool.and_eq_true] at hx
    exact hx.1.1
  unfold State.stepClks
  extract_lets m own
  have hown : own ≤ 400 := by
    unfold own
    split
    · split
      · decide
      · decide
    · split
      · decide
      · decide
  omega

theorem writeStage_last (x : Timer) (t i : Nat) (ws : List Word) : (x.writeStage t i ws).cmpStage.getLast? = some (i, ws) := by
  simp [Timer.writeStage]

theorem writeCompare_idle (s : State) (t : Nat) (a : Fin 24) (spd : Bool) :
    ∃ dly ≤ 1200, (((s.writeCompare t a spd [0, 0, 0] 0).tim[a]).cmpStage).getLast? =
      some (t + dly, List.replicate 9 0) := by
  have hz : ∀ v : State, ∃ u, v.cmpOf a 0 = (u, 0, 0) := fun v => ⟨(v.cmpOf a 0).1, Prod.ext rfl (cmpOf_zero v a)⟩
  unfold State.writeCompare
  extract_lets du
  have h0 : du 0 = 0 := rfl
  have h1 : du 1 = 0 := rfl
  have h2 : du 2 = 0 := rfl
  obtain ⟨u0, e0⟩ := hz s
  obtain ⟨u1, e1⟩ := hz u0
  obtain ⟨u, e2⟩ := hz u1
  rw [h0, e0]
  dsimp only
  rw [h1, e1]
  dsimp only
  rw [h2, e2]
  unfold State.freeUpTo
  dsimp only
  refine ⟨(Config.freeWord u.free).toNat % (u.stepClks a spd + 1), ?_, ?_⟩
  · have hlt : (Config.freeWord u.free).toNat % (u.stepClks a spd + 1) < u.stepClks a spd + 1 := Nat.mod_lt _ (Nat.succ_pos _)
    have hle := stepClks_le u a spd
    omega
  · have hst : ∀ v : State, v.tim[a].cmpStage.getLast? = some (t + (Config.freeWord u.free).toNat % (u.stepClks a spd + 1),
        List.replicate 9 0) → ((if ((u.took.tim[a].run && u.took.tim[a].wrapAfter t < t +
          (Config.freeWord u.free).toNat % (u.stepClks a spd + 1) + 4) && srcAxis v.tim[a].act) then
            v.satInc (axAddr A.AX_LATECNT a) else v).tim[a]).cmpStage.getLast? =
          some (t + (Config.freeWord u.free).toNat % (u.stepClks a spd + 1), List.replicate 9 0) := by
      intro v hv
      split
      · exact hv
      · exact hv
    refine hst _ ?_
    rw [modTim_get, if_pos rfl]
    exact writeStage_last _ _ _ _

/-! ### The loop tick (R242, R243) -/

section Tick
variable {s : State} {a : Fin 24}

theorem exec_engineStep_idle (at' : Fin 200) (h : (s.ax[a]).tickDue = 0) : exec (.engineStep at' a) s = .next s := by
  change execEngineStep at' a s = _
  rw [execEngineStep, h]
  simp

/-- The loop tick that the engine takes is no longer due. -/
def tickTaken (a : Fin 24) (s : State) : State := s.modAx a (fun x => { x with tickDue := x.tickDue - 1 })

theorem exec_engineStep (at' : Fin 200) (hon : s.axOn a = true) (hax : s.isAxis a = true)
    (hroute : (s.routeTo 2 a.val).isSome = true) (hdue : (s.ax[a]).tickDue ≠ 0) :
    exec (.engineStep at' a) s = .next (engineTick (s.clkAt at') a (tickTaken a s)) := by
  change execEngineStep at' a s = _
  rw [execEngineStep, if_pos (by rw [hon, hax, hroute, bne_iff_ne.mpr hdue]; rfl)]
  rfl

/-- The loop counter of an axis moves on as a tick is taken (R242). -/
def loopCounted (a : Fin 24) (s : State) : State :=
  s.modAx a (fun x => { x with loopCnt := if field (s.axReg A.AX_LOOP a) 7 4 = 0 then 0 else 1 })

/-- The last current step is less than 24.8 µs ago (R242). -/
def tooSoon (t : Nat) (a : Fin 24) (s : State) : Bool := (s.ax[a]).lastCur.any (fun p => decide (t < p + 4960))

theorem engineTick_taken {t : Nat} (hcnt : (s.ax[a]).loopCnt = 0) : engineTick t a s =
    if tooSoon t a s then (loopCounted a s).satInc (axAddr A.AX_SKIPCNT a)
    else ((loopCounted a s).modAx a (fun x =>
      { x with spdCnt := if (s.ax[a]).spdCnt = 0 ∨ field (s.axReg A.AX_LOOP a) 3 0 < (s.ax[a]).spdCnt then
          (if field (s.axReg A.AX_LOOP a) 3 0 = 0 then 0 else 1) else (x.spdCnt + 1) % (field (s.axReg A.AX_LOOP a) 3 0 + 1)
      })).engineRun t a (decide ((s.ax[a]).spdCnt = 0 ∨ field (s.axReg A.AX_LOOP a) 3 0 < (s.ax[a]).spdCnt)) := by
  unfold engineTick loopCounted
  extract_lets x loop takes s1 soon spd s2
  have ht : takes := Or.inl hcnt
  have h1 : s1 = s.modAx a (fun x => { x with loopCnt := if field loop 7 4 = 0 then 0 else 1 }) := by
    unfold s1
    simp only [if_pos ht]
  have hsoon : tooSoon t a s = soon := by
    unfold soon x tooSoon
    cases s.ax[a].lastCur with
    | none => rfl
    | some p => rfl
  rw [if_pos ht, ← h1, hsoon]

/-- A tick too soon after the step before is skipped and counted (R242). -/
theorem engineTick_soon {t p : Nat} (hcnt : (s.ax[a]).loopCnt = 0) (hp : (s.ax[a]).lastCur = some p) (ht : t < p + 4960) :
    engineTick t a s = (loopCounted a s).satInc (axAddr A.AX_SKIPCNT a) := by
  rw [engineTick_taken hcnt, tooSoon, hp]
  exact if_pos (decide_eq_true ht)

/-- A tick that is not too soon is a step: the axis is as it was but for its loop counters. -/
theorem engineTick_steps {t : Nat} (hcnt : (s.ax[a]).loopCnt = 0)
    (hp : ∀ p, (s.ax[a]).lastCur = some p → p + 4960 ≤ t) :
    ∃ (u : State) (spd : Bool), engineTick t a s = u.engineRun t a spd ∧ u.pair = s.pair ∧
      (u.ax[a]).st = (s.ax[a]).st ∧ (u.ax[a]).parked = (s.ax[a]).parked := by
  have hsoon : tooSoon t a s = false := by
    unfold tooSoon
    cases hl : s.ax[a].lastCur with
    | none => rfl
    | some p => exact decide_eq_false (Nat.not_lt.mpr (hp p hl))
  rw [engineTick_taken hcnt, hsoon, if_neg nofun]
  refine ⟨_, _, rfl, rfl, ?_, ?_⟩
  · rw [modAx_get, if_pos rfl, loopCounted, modAx_get, if_pos rfl]
  · rw [modAx_get, if_pos rfl, loopCounted, modAx_get, if_pos rfl]

theorem tickTaken_ax (s : State) (a : Fin 24) : (tickTaken a s).ax[a] = { s.ax[a] with tickDue := (s.ax[a]).tickDue - 1 } := by
  unfold tickTaken
  rw [modAx_get, if_pos rfl]

/-- A skipped tick is counted and changes the loop counters of its axis alone. -/
theorem skipped_spec {t p : Nat} (hcnt : (s.ax[a]).loopCnt = 0) (hp : (s.ax[a]).lastCur = some p) (ht : t < p + 4960) :
    (engineTick t a (tickTaken a s)).rd (axAddr A.AX_SKIPCNT a) = w16 (satU ((s.rd (axAddr A.AX_SKIPCNT a)).toNat + 1)) ∧
      ((engineTick t a (tickTaken a s)).ax[a]).lastCur = some p ∧
      ((engineTick t a (tickTaken a s)).ax[a]).tickDue = (s.ax[a]).tickDue - 1 ∧
      (engineTick t a (tickTaken a s)).tim = s.tim := by
  have hax := tickTaken_ax s a
  rw [engineTick_soon (by rw [hax]; exact hcnt) (by rw [hax]; exact hp) ht]
  have hget : ((loopCounted a (tickTaken a s)).satInc (axAddr A.AX_SKIPCNT a)).ax[a] =
      { (tickTaken a s).ax[a] with
        loopCnt := if field ((tickTaken a s).axReg A.AX_LOOP a) 7 4 = 0 then 0 else 1 } := by
    show (loopCounted a (tickTaken a s)).ax[a] = _
    unfold loopCounted
    rw [modAx_get, if_pos rfl]
  rw [hget, hax]
  refine ⟨?_, hp, rfl, rfl⟩
  rw [State.satInc, rd_wr, if_pos rfl]
  rfl

/-- A step of an axis on its way to STOPPED, in a device that follows no partner, ends with it STOPPED; a STOPPED one commands
no duty and no channel. -/
theorem halting_spec {t : Nat} (hf : s.following = false) (hcnt : (s.ax[a]).loopCnt = 0)
    (hp : ∀ p, (s.ax[a]).lastCur = some p → p + 4960 ≤ t)
    (hst : (s.ax[a]).st = .stopped ∨ (s.ax[a]).st = .ident ∧ ((s.ax[a]).parked).isSome = true) :
    ((engineTick t a (tickTaken a s)).ax[a]).lastCur = some t ∧ ((engineTick t a (tickTaken a s)).ax[a]).st = .stopped ∧
      ((s.ax[a]).st = .stopped → ∃ dly ≤ 1200, (((engineTick t a (tickTaken a s)).tim[a]).cmpStage).getLast? =
        some (t + dly, List.replicate 9 0)) := by
  have hax := tickTaken_ax s a
  obtain ⟨u, spd, he, hpair, hust, hupark⟩ := engineTick_steps (s := tickTaken a s) (t := t) (by rw [hax]; exact hcnt)
    (by rw [hax]; exact hp)
  have hfu : u.following = false := by
    unfold State.following
    rw [hpair]
    exact hf
  rw [hax] at hust hupark
  have hstart : ∀ id : Prop, ((s.ax[a]).st = .stopped ∨ id ∧ (s.ax[a]).st = .ident ∧ ((s.ax[a]).parked).isSome = true) →
      Halts id a t (u.modAx a (fun x => { x with lastCur := some t })) := by
    intro id h
    unfold Halts
    rw [modAx_get, if_pos rfl]
    exact ⟨rfl, by rw [hust, hupark]; exact h⟩
  obtain ⟨h1, h2⟩ := engineRun_stops hfu (hstart True (hst.imp_right (fun h => ⟨trivial, h⟩))) spd
  rw [he]
  refine ⟨h1, h2, fun hs => ?_⟩
  have hr := hstart False (Or.inl hs)
  rw [engineRun_halts hfu hr, show ((stepReady t a spd u).output t a (stepTime t a u)) = (stepReady t a spd u, [0, 0, 0], 0)
    from output_stopped ((stepReady_halts hr spd).2.resolve_right (fun h => h.1)) _]
  obtain ⟨dly, hd, hl⟩ := writeCompare_idle (stepReady t a spd u) t a spd
  refine ⟨dly, hd, ?_⟩
  rw [meterStep_tim, identLeave_tim]
  exact hl

end Tick

/-- Settles O33: the transitions by time and stalls by the state they meet, and of a loop tick whether it is too soon, or a step
of an axis that is on its way to STOPPED. -/
theorem axisTransitions : Obligations.AxisTransitions := by
  unfold Obligations.AxisTransitions
  intro s a hf
  refine ⟨fun peaks hst hlt => ?_, fun peaks hst hle => ?_, fun hst hle => ⟨fun hm => ?_, fun hm => ?_⟩, fun hst hlt => ?_,
    fun hst hle => ?_, fun crit h => ?_, fun at' h => exec_engineStep_idle at' h, fun at' hon hax hroute hdue hcnt =>
    ⟨fun p hp ht => ?_, fun hp hst hpark => ?_, fun hp hst => ?_⟩⟩
  · rw [exec_saliencyDone hf peaks hst, if_neg (Nat.not_le.mpr hlt)]
  · rw [exec_saliencyDone hf peaks hst, if_pos hle]
    exact ⟨_, rfl, saliencyDone_spec s a peaks⟩
  · rw [exec_alignDone hf hst, if_pos hle]
    exact ⟨_, rfl, alignDone_ramp hm⟩
  · rw [exec_alignDone hf hst, if_pos hle]
    exact ⟨_, rfl, alignDone_run hm⟩
  · rw [exec_alignDone hf hst, if_neg (Nat.not_le.mpr hlt)]
  · obtain ⟨h1, h2, _, _, h5, _⟩ := startUp_spec s a
    exact ⟨_, exec_retryWaitEnd hf hst hle, h1, h2, h5⟩
  · refine ⟨_, exec_stallDetected hf h, stall_count s a, fun h2 => ?_, stall_retries, stall_stops⟩
    obtain ⟨hflag, hst, hev⟩ := stall_flags h2
    exact ⟨hflag, hst.trans (run_of_stall h), hev⟩
  · exact ⟨_, exec_engineStep at' hon hax hroute hdue, skipped_spec hcnt hp ht⟩
  · obtain ⟨h1, h2, _⟩ := halting_spec hf hcnt hp (Or.inr ⟨hst, hpark⟩)
    exact ⟨_, exec_engineStep at' hon hax hroute hdue, h1, h2⟩
  · obtain ⟨h1, h2, h3⟩ := halting_spec hf hcnt hp (Or.inl hst)
    refine ⟨_, exec_engineStep at' hon hax hroute hdue, h1, h2, fun _ => ?_⟩
    obtain ⟨dly, hd, hl⟩ := h3 hst
    rw [hl]
    simp [hd]

end Sys2Proof.Proofs
end

section
/-! SUPPORT. Proofs of the converters, and of Hall and encoder edges (R247 to R252, R276). -/
namespace Sys2Proof.Proofs
set_option Elab.async false
open Sys2Proof.Machine Sys2Proof.Safety Sys2Proof.Laws

/-! ### What a result leaves of the converters (R250) -/

/-- The converters of `t` are those of `s`. -/
def SameConv (s t : State) : Prop := ∀ b : Fin 8, (t.bank[b]).conv = (s.bank[b]).conv

section Conv
variable {s t u : State}

theorem SameConv.refl (s : State) : SameConv s s := fun _ => rfl

theorem SameConv.trans (h : SameConv s t) (h' : SameConv t u) : SameConv s u := fun b => (h' b).trans (h b)

theorem sameConv_of_bank (h : t.bank = s.bank) : SameConv s t := by
  intro b
  rw [h]

theorem sameConv_of_held (h : SameHeld s t) : SameConv s t := by
  intro b
  rw [h b]

theorem sameConv_modBank (s : State) (b : Fin 8) {f : Bank → Bank} (hf : ∀ k, (f k).conv = k.conv) :
    SameConv s (s.modBank b f) := by
  intro x
  rw [modBank_get]
  split
  · subst x
    exact hf _
  · rfl

theorem sameConv_bankCause (s : State) (n : Nat) (b : Fin 8) {f : Bank → Bank} (hf : ∀ k, (f k).conv = k.conv) :
    SameConv s (s.bankCause n b f) :=
  (sameConv_modBank s b hf).trans (sameConv_of_held (sameHeld_of_same (bankCause_same s n b f)))

theorem sameConv_setFlags (s : State) (a : Nat) (w : Word) : SameConv s (s.setFlags a w) := sameConv_of_bank rfl

theorem vmResult_conv (s : State) (b : Fin 8) (w : Word) : SameConv s (s.vmResult b w) := by
  have hseen : ∀ (v : State) (n : Int), SameConv v (v.vov1Seen b n) := by
    intro v n
    unfold State.vov1Seen
    extract_lets th
    split
    · exact sameConv_modBank _ _ (fun _ => rfl)
    · split
      · exact sameConv_modBank _ _ (fun _ => rfl)
      · exact sameConv_modBank v.took _ (fun _ => rfl)
  unfold State.vmResult
  extract_lets s1
  have h1 : SameConv s s1 := sameConv_modBank _ _ (fun _ => rfl)
  exact (h1.trans (sameConv_of_bank (round_rd _ _ 0).2)).trans (hseen _ _)

theorem judgeOts_conv (s : State) (n : Nat) (b : Fin 8) : SameConv s (s.judgeOts n b) := by
  have hcool : (s.cooled b).1.bank = s.bank := (only_of_forget (cooled_forget { free := true } s b rfl)).bank rfl
  unfold State.judgeOts
  split
  · split
    next v e =>
      have hv : SameConv s v := sameConv_of_bank ((congrArg (·.1.bank) e).symm.trans hcool)
      exact hv.trans (sameConv_bankCause _ _ _ (fun _ => rfl))
    next v e => exact sameConv_of_bank ((congrArg (·.1.bank) e).symm.trans hcool)
  · exact SameConv.refl s

theorem tempResult_conv (s : State) (n : Nat) (b : Fin 8) (x : Nat) : SameConv s (s.tempResult n b x) := by
  unfold State.tempResult
  extract_lets w s1 above rise s2 s3
  have h1 : SameConv s s1 := judgeOts_conv (s.wr (A.PROT_TEMP b.val) w) n b
  have h2 : SameConv s s2 := h1.trans (sameConv_modBank _ _ (fun _ => rfl))
  split
  · exact h2.trans (sameConv_of_bank (raise_bank _ _ _ _))
  · exact h2

theorem refResult_conv (s : State) (n : Nat) (b : Fin 8) (w : Word) : SameConv s (s.refResult n b w) := by
  unfold State.refResult
  extract_lets s1 good s2 k
  have h2 : SameConv s s2 := by
    refine sameConv_modBank s1 b (fun x => ?_)
    split
    · rfl
    · rfl
  split
  · unfold State.convFault
    extract_lets s3
    have h3 : SameConv s2 s3 := sameConv_bankCause _ _ _ (fun _ => rfl)
    refine (h2.trans h3).trans (SameConv.trans (sameConv_of_held (disarm_held s3 n b 8 .disarm)) ?_)
    exact sameConv_of_bank (raise_bank _ _ _ _)
  · split
    · exact h2.trans (sameConv_bankCause _ _ _ (fun _ => rfl))
    · exact h2

theorem bemfCross_bank (s : State) (h : Fin 72) (x y : Word) : (s.bemfCross h x y).bank = s.bank :=
  (only_of_forget (bemfCross_forget { ax := true } s h x y rfl)).bank rfl

theorem loadLatest_conv (s : State) (n : Nat) (b : Fin 8) (entry x : Nat) : SameConv s (s.loadLatest n b entry x) := by
  unfold State.loadLatest
  extract_lets w k
  split
  · exact vmResult_conv _ _ _
  · split
    · exact tempResult_conv _ _ _ _
    · split
      · exact refResult_conv _ _ _ _
      · split
        · extract_lets h s1 old
          split
          · refine sameConv_of_bank ?_
            split
            · rfl
            · rfl
          · exact sameConv_of_bank (bemfCross_bank _ _ _ _)
        · exact SameConv.refl s

end Conv

/-- What a result may reach beside the converters' own words. -/
def resultReach : Parts :=
  raising { reactionReach with
    free := true
    regs := [.CONV_REF, .CONV_SN, .GATE_BSTUVCNT, .GATE_FLT, .PROT_AXSTAT, .PROT_BFLT, .PROT_TEMP, .PROT_VM] }

theorem loadLatest_rd (s : State) (n : Nat) (b : Fin 8) (entry x : Nat) {a : Nat} (ha : resultReach.covers a = false) :
    (s.loadLatest n b entry x).rd a = s.rd a :=
  (only_of_forget (loadLatest_forget resultReach s n b entry x (mayRaise_raising _) rfl rfl rfl rfl rfl rfl
    (has_of_mem (by decide)) (has_of_mem (by decide)) (has_of_mem (by decide)) (has_of_mem (by decide))
    (has_of_mem (by decide)) (has_of_mem (by decide)) (has_of_mem (by decide)) (has_of_mem (by decide)))).regs a ha

/-- A word at which no register of the parts stands, in a block they do not cover. -/
theorem not_covers {m : Parts} {a : Nat} (hb : m.blks.contains (blkOf a) = false)
    (h : ∀ w ∈ allRows.filter (fun w => m.regs.contains w.reg), (w.idx a).isSome = false) : m.covers a = false := by
  have hr : m.regs.any (fun r => isAt r a) = false := by
    refine List.any_eq_false.mpr (fun r hr hat => ?_)
    obtain ⟨w, hw, hat⟩ := List.any_eq_true.mp hat
    obtain ⟨hreg, hidx⟩ := Bool.and_eq_true_iff.mp hat
    have hmem : w ∈ allRows.filter (fun w => m.regs.contains w.reg) :=
      List.mem_filter.mpr ⟨hw, List.contains_iff_mem.mpr (of_decide_eq_true hreg ▸ hr)⟩
    rw [h w hmem] at hidx
    exact nomatch hidx
  rw [Parts.covers, hb, hr]
  rfl

theorem seqcnt_free (c : Fin 24) : resultReach.covers (convAddr A.CONV_SEQCNT c) = false := by
  have h : ∀ w ∈ allRows.filter (fun w => resultReach.regs.contains w.reg), ∀ c : Fin 24,
      (w.idx (convAddr A.CONV_SEQCNT c)).isSome = false := by decide +kernel
  exact not_covers rfl (fun w hw => h w hw c)

theorem convRes_free (c : Fin 24) (k : Fin 16) :
    resultReach.covers (A.CONV_RES (axBank c).val (axSlot c).val k.val) = false := by
  have h : ∀ w ∈ allRows.filter (fun w => resultReach.regs.contains w.reg), ∀ (c : Fin 24) (k : Fin 16),
      (w.idx (A.CONV_RES (axBank c).val (axSlot c).val k.val)).isSome = false := by decide +kernel
  exact not_covers rfl (fun w hw => h w hw c k)

/-! ### Converter sequences (R247, R249) -/

/-- A converter. -/
def convOf (c : Fin 24) (s : State) : Conv := (s.bank[axBank c]).conv[axSlot c]

theorem convOf_same {s t : State} (h : SameConv s t) (c : Fin 24) : convOf c t = convOf c s := by
  unfold convOf
  rw [h]

theorem convOf_modConv (s : State) (c : Fin 24) (f : Conv → Conv) : convOf c (s.modConv c f) = f (convOf c s) := by
  unfold convOf State.modConv
  rw [modBank_get, if_pos rfl]
  simp

section Converter
variable {s : State} {c : Fin 24}

theorem exec_converterStart (hon : s.convOn (axBank c) = true) (hr : (s.routeTo 1 c.val).isSome = true)
    (hd : (convOf c s).due ≠ 0) : exec (.converterStart c) s = .next (convStart c s) := by
  change execConverterStart c s = _
  rw [execConverterStart, if_pos (by rw [hon, hr]; exact bne_iff_ne.mpr hd)]

theorem exec_converterStart_idle (hd : (convOf c s).due = 0) : exec (.converterStart c) s = .next s := by
  change execConverterStart c s = _
  have h0 : ((s.bank[axBank c]).conv[axSlot c].due != 0) = false := bne_eq_false_iff_eq.mpr hd
  rw [execConverterStart, h0, Bool.and_false, if_neg nofun]

theorem convStart_begins (hres : (convOf c s).resv = false) (hrun : (convOf c s).run = none) :
    (convOf c (convStart c s)).run = some 0 ∧ (convOf c (convStart c s)).due = (convOf c s).due - 1 := by
  unfold convStart
  extract_lets v s1
  have hv : ¬ (v.run.isSome || v.resv) = true := by
    rw [show v.run = none from hrun, show v.resv = false from hres]
    decide
  rw [if_neg hv, convOf_modConv]
  unfold s1
  rw [convOf_modConv]
  exact ⟨rfl, rfl⟩

theorem convStart_counts (hrun : (convOf c s).run.isSome = true) :
    (convStart c s).rd (convAddr A.CONV_OVRCNT c) = w16 (satU ((s.rd (convAddr A.CONV_OVRCNT c)).toNat + 1)) ∧
      (convOf c (convStart c s)).run = (convOf c s).run := by
  unfold convStart
  extract_lets v s1
  have hv : (v.run.isSome || v.resv) = true := by rw [show v.run.isSome = true from hrun, Bool.true_or]
  have h1 : convOf c s1 = { convOf c s with due := (convOf c s).due - 1 } := convOf_modConv _ _ _
  rw [if_pos hv]
  refine ⟨?_, ?_⟩
  · rw [State.satInc, rd_wr, if_pos rfl]
    rfl
  · show (convOf c s1).run = _
    rw [h1]

theorem exec_conversionDone (hon : s.convOn (axBank c) = true) {k : Nat} (hrun : (convOf c s).run = some k) (at' : Fin 200)
    (code : BitVec 12) : exec (.conversionDone at' c code) s = .next (seqDone (s.clkAt at') c k code.toNat s) := by
  change execConversionDone at' c code s = _
  rw [execConversionDone, if_pos hon, show (s.bank[axBank c]).conv[axSlot c].run = some k from hrun]

theorem seqDone_spec (n : Nat) (c : Fin 24) {k : Nat} (hk : k < 16) (x : Nat) (s : State) :
    (seqDone n c k x s).rd (A.CONV_RES (axBank c).val (axSlot c).val k) =
      s.convWord (axBank c) ((s.convSeq c)[k]?.getD 0) x ∧
    (k + 1 < (s.convSeq c).length → (convOf c (seqDone n c k x s)).run = some (k + 1)) ∧
    ((s.convSeq c).length ≤ k + 1 → (convOf c (seqDone n c k x s)).run = none ∧
      (seqDone n c k x s).rd (convAddr A.CONV_SEQCNT c) = s.rd (convAddr A.CONV_SEQCNT c) + 1) := by
  have hne : A.CONV_RES (axBank c).val (axSlot c).val k ≠ convAddr A.CONV_SEQCNT c := by
    have := (axSlot c).isLt
    unfold convAddr A.CONV_RES A.CONV_SEQCNT
    omega
  unfold seqDone
  extract_lets seq entry last row s1 s2 s3
  have hconv : convOf c (s3.loadLatest n (axBank c) entry x) = convOf c s2 := by
    rw [convOf_same (loadLatest_conv _ _ _ _ _)]
    unfold s3
    split
    · rfl
    · rfl
  have hrun : (convOf c s2).run = if last then none else some (k + 1) := by
    unfold s2
    rw [convOf_modConv]
  have hk16 : k % 16 = k := Nat.mod_eq_of_lt hk
  have h1 : ∀ a, a ≠ A.CONV_RES (axBank c).val (axSlot c).val k → s2.rd a = s.rd a := by
    intro a ha
    show s1.rd a = _
    unfold s1
    rw [hk16, rd_wr, if_neg ha]
  refine ⟨?_, fun h => ?_, fun h => ⟨?_, ?_⟩⟩
  · rw [loadLatest_rd _ _ _ _ _ (convRes_free c ⟨k, hk⟩)]
    have h2 : s2.rd (A.CONV_RES (axBank c).val (axSlot c).val k) = s.convWord (axBank c) entry x := by
      show s1.rd _ = _
      unfold s1
      rw [hk16, rd_wr, if_pos rfl]
    unfold s3
    split
    · rw [State.wrapInc, rd_wr, if_neg hne, h2]
    · exact h2
  · rw [hconv, hrun, if_neg (Nat.not_le.mpr h)]
  · rw [hconv, hrun, if_pos h]
  · rw [loadLatest_rd _ _ _ _ _ (seqcnt_free c)]
    unfold s3
    rw [if_pos h, State.wrapInc, rd_wr, if_pos rfl, h1 _ (Ne.symm hne)]

end Converter

/-! ### Hall edges (R251, R276) -/

section Hall
variable {s : State} {a : Fin 24}

/-- The filter of a Hall land removes a short pulse and passes a long one (Table AXIS-5). -/
theorem hallPass_short {held : Nat} (h0 : 0 < field (s.axReg A.AX_HALLCFG a) 7 4)
    (h : held + 20 < 200 * field (s.axReg A.AX_HALLCFG a) 7 4) : s.hallPass a held = (s, false) := by
  unfold State.hallPass
  extract_lets w
  have hw : w = 200 * field (s.axReg A.AX_HALLCFG a) 7 4 := rfl
  rw [if_neg (by omega), passes_short (by omega)]

theorem hallPass_long {held : Nat} (h : field (s.axReg A.AX_HALLCFG a) 7 4 = 0 ∨
    200 * field (s.axReg A.AX_HALLCFG a) 7 4 + 20 < held) : s.hallPass a held = (s, true) := by
  unfold State.hallPass
  extract_lets w
  have hw : w = 200 * field (s.axReg A.AX_HALLCFG a) 7 4 := rfl
  by_cases h0 : w = 0
  · rw [if_pos h0]
  · rw [if_neg h0, passes_long (by omega) (by omega)]

variable (hears : s.hears = true) (hon : s.axOn a = true)
include hears hon

theorem exec_hallEdge (h : Fin 8) {held : Nat} {p : Bool} (hp : s.hallPass a held = (s, p)) :
    exec (.hallEdge a ⟨h, held⟩) s = .next (if p then (if s.axMode a = .focEnc then s else hallEdge a h s).setHall a
      (BitVec.ofNat 3 h.val) else s) := by
  change execHallEdge a ⟨h, held⟩ s = _
  rw [execHallEdge, hears, hon, hp]
  cases p with
  | false => rfl
  | true => rfl

theorem exec_encoderEdge (track : Fin 3) (level : Bool) {held : Nat} {p : Bool} (hp : s.hallPass a held = (s, p)) :
    exec (.encoderEdge a track ⟨level, held⟩) s = .next (if p then (if s.axMode a = .focEnc then
      Sys2Proof.Machine.encoderEdge a track level s else s).setHall a (s.hallAfter a track level) else s) := by
  change execEncoderEdge a track ⟨level, held⟩ s = _
  rw [execEncoderEdge, hears, hon, hp]
  cases p with
  | false => rfl
  | true => rfl

end Hall

theorem hallPos_of_sector {s : State} {a : Fin 24} {h k : Nat} (hk : s.hallSector a h = some k) :
    (hallPos h).isNone = false := by
  unfold State.hallSector at hk
  cases hp : hallPos h with
  | none => rw [hp] at hk; cases hk
  | some p => rfl

theorem hallPos_none {s : State} {a : Fin 24} {h : Nat} (hk : s.hallSector a h = none) : (hallPos h).isNone = true := by
  unfold State.hallSector at hk
  cases hp : hallPos h with
  | none => rfl
  | some p => rw [hp] at hk; cases hk

/-- A good reading ends a row of bad ones. -/
theorem hallRead_good {s : State} {a : Fin 24} {h : Nat} (hp : (hallPos h).isNone = false) :
    s.hallRead a h = s.modAx a (fun x => { x with hallBad := 0 }) := by
  unfold State.hallRead
  extract_lets bad s1 x
  have h1 : s1 = s.modAx a (fun x => { x with hallBad := 0 }) := by
    unfold s1 bad
    rw [hp]
    rfl
  have hx : x.hallBad = 0 := by
    unfold x
    rw [h1, modAx_get, if_pos rfl]
  rw [hx, h1]
  rfl

/-- The second bad reading in a row stops an axis in a Hall mode (R276). -/
theorem hallRead_stops {s : State} {a : Fin 24} {h : Nat} (hp : (hallPos h).isNone = true) (hm : (s.axMode a).hall = true)
    (hb : 1 ≤ (s.ax[a]).hallBad) (hst : (s.ax[a]).st ≠ .stopped) (hf : s.following = false) :
    ((s.hallRead a h).ax[a]).st = .stopped ∧ ((s.hallRead a h).ax[a]).cause = .hall := by
  unfold State.hallRead
  extract_lets bad s1 x
  have h1 : s1.ax[a] = { s.ax[a] with hallBad := (s.ax[a]).hallBad + 1 } := by
    unfold s1 bad
    rw [hp, modAx_get, if_pos rfl]
    rfl
  have hx : 2 ≤ x.hallBad := by
    unfold x
    rw [h1]
    show 2 ≤ (s.ax[a]).hallBad + 1
    omega
  have hcond : (decide (2 ≤ x.hallBad) && (s1.axMode a).hall && !s1.following) = true := by
    rw [decide_eq_true hx, show (s1.axMode a).hall = true from hm, show s1.following = false from hf]
    rfl
  rw [if_pos hcond]
  unfold State.stopAxis
  rw [if_neg (by rw [h1]; exact hst), toStopped_self]
  exact ⟨rfl, rfl⟩

/-- A Hall edge to a state of the sequence shows it and its sector. -/
theorem hallEdge_sector {s : State} {a : Fin 24} {h : Fin 8} {k : Nat} (hk : s.hallSector a h.val = some k) :
    (hallEdge a h s).axReg A.AX_HALL a = w16 (k * 16 + h.val) ∧ ((hallEdge a h s).ax[a]).hallBad = 0 ∧
      ((hallEdge a h s).ax[a]).st = (s.ax[a]).st := by
  have hne : axAddr A.AX_HALL a ≠ axAddr A.AX_HALLERR a := by
    unfold axAddr A.AX_HALL A.AX_HALLERR
    omega
  have hshown : ∀ u : State, u.rd (axAddr A.AX_HALL a) = w16 (k * 16 + h.val) → (u.ax[a]).st = (s.ax[a]).st →
      (u.hallRead a h.val).axReg A.AX_HALL a = w16 (k * 16 + h.val) ∧ ((u.hallRead a h.val).ax[a]).hallBad = 0 ∧
        ((u.hallRead a h.val).ax[a]).st = (s.ax[a]).st := by
    intro u hrd hst
    rw [hallRead_good (hallPos_of_sector hk), modAx_get, if_pos rfl]
    exact ⟨hrd, rfl, hst⟩
  have hmod : ∀ (u : State) (f : Axis → Axis), (∀ x, (f x).st = x.st) → ((u.modAx a f).ax[a]).st = (u.ax[a]).st := by
    intro u f hf
    rw [modAx_get, if_pos rfl, hf]
  unfold hallEdge
  extract_lets now old new s2
  obtain ⟨hrd, hst⟩ : s2.rd (axAddr A.AX_HALL a) = w16 (k * 16 + h.val) ∧ (s2.ax[a]).st = (s.ax[a]).st := by
    have hnew : new = some k := hk
    unfold s2
    rw [hnew]
    dsimp only
    generalize hv : (if ((s.wr (axAddr A.AX_HALL a) (w16 (k * 16 + h.val))).axMode a).hall = true then
      (s.wr (axAddr A.AX_HALL a) (w16 (k * 16 + h.val))).modAx a (fun x => { x with sector := k })
      else s.wr (axAddr A.AX_HALL a) (w16 (k * 16 + h.val))) = v
    have h0 : (s.wr (axAddr A.AX_HALL a) (w16 (k * 16 + h.val))).rd (axAddr A.AX_HALL a) = w16 (k * 16 + h.val) := by
      rw [rd_wr, if_pos rfl]
    have hvrd : v.rd (axAddr A.AX_HALL a) = w16 (k * 16 + h.val) := by
      rw [← hv]
      split
      · exact h0
      · exact h0
    have hvst : (v.ax[a]).st = (s.ax[a]).st := by
      rw [← hv]
      split
      · exact hmod _ _ (fun _ => rfl)
      · rfl
    clear_value old
    cases old with
    | none =>
      refine ⟨hvrd, (hmod v _ ?_).trans hvst⟩
      exact fun _ => rfl
    | some j =>
      dsimp only
      split
      · exact ⟨hvrd, hvst⟩
      · split
        · refine ⟨hvrd, (hmod v _ ?_).trans hvst⟩
          exact fun _ => rfl
        · split
          · refine ⟨hvrd, (hmod v _ ?_).trans hvst⟩
            exact fun _ => rfl
          · refine ⟨(satInc_rd _ _ _ hne).trans hvrd, (hmod (v.satInc _) _ ?_).trans hvst⟩
            exact fun _ => rfl
  exact hshown s2 hrd hst

theorem hallEdge_stops {s : State} {a : Fin 24} {h : Fin 8} (hk : s.hallSector a h.val = none)
    (hm : (s.axMode a).hall = true) (hb : 1 ≤ (s.ax[a]).hallBad) (hst : (s.ax[a]).st ≠ .stopped)
    (hf : s.following = false) :
    ((hallEdge a h s).ax[a]).st = .stopped ∧ ((hallEdge a h s).ax[a]).cause = .hall := by
  unfold hallEdge
  rw [hk]
  dsimp only
  refine hallRead_stops (hallPos_none hk) ?_ hb hst hf
  unfold State.axMode State.axReg at hm ⊢
  rw [rd_wr, if_neg (by unfold axAddr A.AX_HALL A.AX_MODE; omega)]
  exact hm

/-! ### Encoder edges (R252) -/

section Encoder
variable {s : State} {a : Fin 24}

theorem setHall_self (s : State) (a : Fin 24) (h : BitVec 3) : (s.setHall a h).lands.hall[a] = h := by
  simp [State.setHall, State.modLands]

/-- An edge of A or B that turns the encoder by `d` counts. -/
theorem encoderCount_spec (hinv : bit (s.axReg A.AX_ENCCFG a) 1 = false) {b level : Bool} {d : Int}
    (hd : (if (quadPos (if b then s.lands.hall[a].getLsbD 0 else level) (if b then level else s.lands.hall[a].getLsbD 1) + 4 -
      quadPos (s.lands.hall[a].getLsbD 0) (s.lands.hall[a].getLsbD 1)) % 4 = 1 then (1 : Int)
      else if (quadPos (if b then s.lands.hall[a].getLsbD 0 else level) (if b then level else s.lands.hall[a].getLsbD 1) + 4 -
      quadPos (s.lands.hall[a].getLsbD 0) (s.lands.hall[a].getLsbD 1)) % 4 = 3 then -1 else 0) = d) :
    (encoderCount a b level s).axReg A.AX_ENCPOS a =
        wInt ((((s.axReg A.AX_ENCPOS a).toNat : Int) + d) % ((s.axReg A.AX_ENC_CPR a).toNat : Int)) ∧
      ((encoderCount a b level s).ax[a]).encTot = (s.ax[a]).encTot + d := by
  unfold encoderCount
  extract_lets oa ob na nb d' st0 st cpr cnt s1
  have hst : st = d := by
    unfold st
    rw [hinv, if_neg nofun]
    exact hd
  rw [hst]
  refine ⟨?_, ?_⟩
  · show s1.rd _ = _
    unfold s1
    rw [rd_wr, if_pos rfl, hst]
  · rw [modAx_get, if_pos rfl]
    rfl

theorem twoPow_bits : (BitVec.twoPow 3 0).getLsbD 0 = true ∧ (BitVec.twoPow 3 0).getLsbD 1 = false ∧
    (BitVec.twoPow 3 1).getLsbD 0 = false ∧ (BitVec.twoPow 3 1).getLsbD 1 = true := by decide

/-- From both tracks low, A leads: the count goes up with A and down with B. -/
theorem encoderEdge_up (hinv : bit (s.axReg A.AX_ENCCFG a) 1 = false) (h0 : (s.lands.hall[a]).getLsbD 0 = false)
    (h1 : (s.lands.hall[a]).getLsbD 1 = false) :
    (Sys2Proof.Machine.encoderEdge a 0 true s).axReg A.AX_ENCPOS a =
        wInt ((((s.axReg A.AX_ENCPOS a).toNat : Int) + 1) % ((s.axReg A.AX_ENC_CPR a).toNat : Int)) ∧
      ((Sys2Proof.Machine.encoderEdge a 0 true s).ax[a]).encTot = (s.ax[a]).encTot + 1 :=
  encoderCount_spec (b := false) (level := true) hinv (by rw [h0, h1]; rfl)

theorem encoderEdge_down (hinv : bit (s.axReg A.AX_ENCCFG a) 1 = false) (h0 : (s.lands.hall[a]).getLsbD 0 = false)
    (h1 : (s.lands.hall[a]).getLsbD 1 = false) :
    (Sys2Proof.Machine.encoderEdge a 1 true s).axReg A.AX_ENCPOS a =
        wInt ((((s.axReg A.AX_ENCPOS a).toNat : Int) + -1) % ((s.axReg A.AX_ENC_CPR a).toNat : Int)) ∧
      ((Sys2Proof.Machine.encoderEdge a 1 true s).ax[a]).encTot = (s.ax[a]).encTot + -1 :=
  encoderCount_spec (b := true) (level := true) hinv (by rw [h0, h1]; rfl)

/-- The first index edge makes the count 0. -/
theorem encoderEdge_index (hidx : bit (s.axReg A.AX_ENCCFG a) 0 = true) (h : (s.ax[a]).encIdx = false) :
    (Sys2Proof.Machine.encoderEdge a 2 true s).axReg A.AX_ENCPOS a = 0 ∧
      ((Sys2Proof.Machine.encoderEdge a 2 true s).ax[a]).encIdx = true := by
  have he : Sys2Proof.Machine.encoderEdge a 2 true s =
      (s.modAx a (fun x => { x with encIdx := true })).wr (axAddr A.AX_ENCPOS a) 0 := by
    unfold Sys2Proof.Machine.encoderEdge encoderIndex
    rw [if_pos rfl, if_pos (by rw [hidx]; rfl)]
    dsimp only
    rw [h]
    rfl
  rw [he]
  refine ⟨?_, ?_⟩
  · show State.rd _ _ = _
    rw [rd_wr, if_pos rfl]
  · rw [wr_ax, modAx_get, if_pos rfl]

end Encoder

/-- Settles O34: what a start and an end of a conversion find at their converter, and what an edge that its filter passes finds
at its axis. -/
theorem convertersAndPosition : Obligations.ConvertersAndPosition := by
  unfold Obligations.ConvertersAndPosition
  refine ⟨fun s c hon => ⟨fun hr hd => ⟨fun hres hrun => ?_, fun hrun => ?_⟩, fun hd => exec_converterStart_idle hd,
    fun at' k code hrun hk => ?_⟩, fun s a held hears hon => ⟨fun h0 hlt => ⟨fun h => ?_, fun track level => ?_⟩, fun hlong =>
    ⟨fun hm h => ⟨fun k hk => ?_, fun hk hhall hb hst hf => ?_⟩, fun hm hinv => ⟨fun h0 h1 => ⟨?_, ?_⟩, fun hidx h => ?_⟩⟩⟩⟩
  · exact ⟨_, exec_converterStart hon hr hd, convStart_begins hres hrun⟩
  · exact ⟨_, exec_converterStart hon hr hd, convStart_counts hrun⟩
  · exact ⟨_, exec_conversionDone hon hrun at' code, seqDone_spec _ c hk _ s⟩
  · rw [exec_hallEdge hears hon h (hallPass_short h0 hlt)]
    rfl
  · rw [exec_encoderEdge hears hon track level (hallPass_short h0 hlt)]
    rfl
  · rw [exec_hallEdge hears hon h (hallPass_long hlong), if_pos rfl, if_neg hm]
    exact ⟨_, rfl, hallEdge_sector hk⟩
  · rw [exec_hallEdge hears hon h (hallPass_long hlong), if_pos rfl, if_neg hm]
    exact ⟨_, rfl, hallEdge_stops hk hhall hb hst hf⟩
  · rw [exec_encoderEdge hears hon 0 true (hallPass_long hlong), if_pos rfl, if_pos hm]
    obtain ⟨hpos, htot⟩ := encoderEdge_up hinv h0 h1
    refine ⟨_, rfl, hpos, htot, ?_, ?_⟩
    · rw [setHall_self]
      simp [State.hallAfter]
    · rw [setHall_self]
      simp only [State.hallAfter, if_true, BitVec.getLsbD_or, h1, Bool.false_or]
      exact twoPow_bits.2.1
  · rw [exec_encoderEdge hears hon 1 true (hallPass_long hlong), if_pos rfl, if_pos hm]
    obtain ⟨hpos, htot⟩ := encoderEdge_down hinv h0 h1
    refine ⟨_, rfl, hpos, htot, ?_, ?_⟩
    · rw [setHall_self]
      simp only [State.hallAfter, if_true, BitVec.getLsbD_or, h0, Bool.false_or]
      exact twoPow_bits.2.2.1
    · rw [setHall_self]
      simp [State.hallAfter]
  · rw [exec_encoderEdge hears hon 2 true (hallPass_long hlong), if_pos rfl, if_pos hm]
    exact ⟨_, rfl, encoderEdge_index hidx h⟩

end Sys2Proof.Proofs
end

section
/-! SUPPORT. Proofs of the inputs of the fusion: wheel counts, GNSS sentences, inertial sequences, SENT frames and host samples
(R284, R286, R287, R290 to R292). -/
namespace Sys2Proof.Proofs
set_option Elab.async false
open Sys2Proof.Machine Sys2Proof.Safety Sys2Proof.Laws

/-! ### Wheel counts (R284, R286) -/

theorem wrs_fus (l : List Word) : ∀ (s : State) (a : Nat), (s.wrs a l).fus = s.fus := by
  induction l with
  | nil => exact fun _ _ => rfl
  | cons v vs ih => exact fun s a => ih (s.wr a v) (a + 1)

theorem wrs_lands (l : List Word) : ∀ (s : State) (a : Nat), (s.wrs a l).lands = s.lands := by
  induction l with
  | nil => exact fun _ _ => rfl
  | cons v vs ih => exact fun s a => ih (s.wr a v) (a + 1)

/-- A wheel with one more accepted count. -/
def Counted (w : Wheel) (d : Int) (t : Nat) (i : Rat) : Wheel :=
  { w with
    cnt := w.cnt + d, log := (t, w.cnt + d) :: w.log, last := some t, iLast := i, sgn := d
    hist := if w.last.isNone then w.hist else if w.sgn = d then pushI i w.hist else [] }

section Wheel
variable (s : State) (n : Fin 4) (d : Int) (t : Nat) (i : Rat)

theorem acceptCount_wheel : (s.acceptCount n d t i).fus.wheels[n] = Counted s.fus.wheels[n] d t i := by
  unfold State.acceptCount State.wrQ
  rw [wrs_fus]
  simp [State.modFus, Counted]

theorem acceptCount_lands : (s.acceptCount n d t i).lands = s.lands := by
  unfold State.acceptCount State.wrQ
  rw [wrs_lands]
  rfl

theorem acceptCount_rd {a : Nat} (h : a < A.FUS_WHL_CNT n.val 0 ∨ A.FUS_WHL_CNT n.val 0 + 2 ≤ a) :
    (s.acceptCount n d t i).rd a = s.rd a := by
  unfold State.acceptCount
  rw [wrQ_out _ _ _ _ h]
  rfl

theorem acceptCount_shown : (s.acceptCount n d t i).rdQ2 (A.FUS_WHL_CNT n.val 0) = u32 ((s.fus.wheels[n]).cnt + d) := by
  have hv : u32 ((s.fus.wheels[n]).cnt + d) < 2 ^ 32 := BitVec.isLt _
  unfold State.rdQ2
  have h0 : (s.acceptCount n d t i).rd (A.FUS_WHL_CNT n.val 0) = wordOf (u32 ((s.fus.wheels[n]).cnt + d)) 0 := by
    unfold State.acceptCount
    have h := wrQ_at (s.modFus (fun f => { f with wheels := f.wheels.set n (Counted f.wheels[n] d t i) }))
      (A.FUS_WHL_CNT n.val 0) 2 (u32 ((s.modFus (fun f => { f with wheels := f.wheels.set n (Counted f.wheels[n] d t i) })).fus.wheels[n]).cnt)
      (k := 0) (by decide)
    simpa [State.modFus, Counted] using h
  have h1 : (s.acceptCount n d t i).rd (A.FUS_WHL_CNT n.val 0 + 1) = wordOf (u32 ((s.fus.wheels[n]).cnt + d)) 1 := by
    unfold State.acceptCount
    have h := wrQ_at (s.modFus (fun f => { f with wheels := f.wheels.set n (Counted f.wheels[n] d t i) }))
      (A.FUS_WHL_CNT n.val 0) 2 (u32 ((s.modFus (fun f => { f with wheels := f.wheels.set n (Counted f.wheels[n] d t i) })).fus.wheels[n]).cnt)
      (k := 1) (by decide)
    simpa [State.modFus, Counted] using h
  rw [h0, h1, quant2_words hv]

end Wheel

section Count
variable {s : State} {n : Fin 4}

theorem newCount_first (h : (s.fus.wheels[n]).last = none) (d : Int) : s.newCount n d = s.acceptCount n d s.clk.ticks 0 := by
  unfold State.newCount
  extract_lets w now
  rw [show w.last = none from h]

/-- What a count of a wheel with four intervals of one direction is judged by (R286). -/
theorem newCount_judged {t0 : Nat} {d : Int} (hl : (s.fus.wheels[n]).last = some t0) (hen : bit (s.whlCfg n) 8 = true)
    (hh : (s.fus.wheels[n]).hist.length = 4) (hs : (s.fus.wheels[n]).sgn = d)
    (hd : 300 * meanI (s.fus.wheels[n]).hist ≤ 1000 * ((s.rd (A.FUS_WHL_DPC n.val)).toNat : Rat)) :
    s.newCount n d =
      if 10 * ((s.clk.ticks - t0 : Nat) : Rat) < 4 * meanI (s.fus.wheels[n]).hist then
        (s.satInc (A.FUS_WHL_NOISE n.val)).raise evWHL_NOISE (w16 n.val) (w16 (satU (s.clk.ticks - t0)))
      else if 16 * meanI (s.fus.wheels[n]).hist ≤ 10 * ((s.clk.ticks - t0 : Nat) : Rat) ∧
          10 * ((s.clk.ticks - t0 : Nat) : Rat) ≤ 24 * meanI (s.fus.wheels[n]).hist then
        (((((s.quant (t0 + ((s.clk.ticks - t0 : Nat) : Rat) / 2)).1.acceptCount n d
          (s.quant (t0 + ((s.clk.ticks - t0 : Nat) : Rat) / 2)).2.toNat (((s.clk.ticks - t0 : Nat) : Rat) / 2)).acceptCount n d
          s.clk.ticks (((s.clk.ticks - t0 : Nat) : Rat) / 2)).satInc (A.FUS_WHL_INS n.val)).raise evWHL_INSERT (w16 n.val)
            (w16 (satU (s.clk.ticks - t0))))
      else s.acceptCount n d s.clk.ticks ((s.clk.ticks - t0 : Nat) : Rat) := by
  unfold State.newCount
  extract_lets w now
  rw [show w.last = some t0 from hl]
  dsimp only
  have hc : (bit (s.whlCfg n) 8 && w.hist.length == 4 && w.sgn == d &&
      decide (300 * meanI w.hist ≤ 1000 * ((s.rd (A.FUS_WHL_DPC n.val)).toNat : Rat))) = true := by
    rw [hen, show w.hist.length = 4 from hh, show w.sgn = d from hs, decide_eq_true hd]
    simp
  rw [if_pos hc]

theorem newCount_noise {t0 : Nat} {d : Int} (hl : (s.fus.wheels[n]).last = some t0) (hen : bit (s.whlCfg n) 8 = true)
    (hh : (s.fus.wheels[n]).hist.length = 4) (hs : (s.fus.wheels[n]).sgn = d)
    (hd : 300 * meanI (s.fus.wheels[n]).hist ≤ 1000 * ((s.rd (A.FUS_WHL_DPC n.val)).toNat : Rat))
    (hi : 10 * ((s.clk.ticks - t0 : Nat) : Rat) < 4 * meanI (s.fus.wheels[n]).hist) :
    ((s.newCount n d).fus.wheels[n]).cnt = (s.fus.wheels[n]).cnt ∧
      (s.newCount n d).rd (A.FUS_WHL_NOISE n.val) = w16 (satU ((s.rd (A.FUS_WHL_NOISE n.val)).toNat + 1)) ∧
      eventBit (s.newCount n d) evWHL_NOISE = true := by
  rw [newCount_judged hl hen hh hs hd, if_pos hi]
  refine ⟨?_, ?_, raise_self _ _ _ _⟩
  · rw [raise_fus]
    rfl
  · rw [raise_rd _ _ _ _ (by decide) _ (by unfold Apart A.FUS_WHL_NOISE; omega), State.satInc, rd_wr, if_pos rfl]

theorem newCount_inserts {t0 : Nat} {d : Int} (hl : (s.fus.wheels[n]).last = some t0) (hen : bit (s.whlCfg n) 8 = true)
    (hh : (s.fus.wheels[n]).hist.length = 4) (hs : (s.fus.wheels[n]).sgn = d)
    (hd : 300 * meanI (s.fus.wheels[n]).hist ≤ 1000 * ((s.rd (A.FUS_WHL_DPC n.val)).toNat : Rat))
    (h4 : 4 * meanI (s.fus.wheels[n]).hist ≤ 10 * ((s.clk.ticks - t0 : Nat) : Rat))
    (h16 : 16 * meanI (s.fus.wheels[n]).hist ≤ 10 * ((s.clk.ticks - t0 : Nat) : Rat))
    (h24 : 10 * ((s.clk.ticks - t0 : Nat) : Rat) ≤ 24 * meanI (s.fus.wheels[n]).hist) :
    ((s.newCount n d).fus.wheels[n]).cnt = (s.fus.wheels[n]).cnt + d + d ∧
      (s.newCount n d).rd (A.FUS_WHL_INS n.val) = w16 (satU ((s.rd (A.FUS_WHL_INS n.val)).toNat + 1)) ∧
      eventBit (s.newCount n d) evWHL_INSERT = true := by
  have hq : ∀ x, (s.quant x).1.fus = s.fus ∧ ∀ a, (s.quant x).1.rd a = s.rd a := fun x =>
    have h := only_of_forget (quant_forget { free := true } s x rfl)
    ⟨h.fus rfl, fun a => h.regs a rfl⟩
  have hout : A.FUS_WHL_INS n.val < A.FUS_WHL_CNT n.val 0 ∨ A.FUS_WHL_CNT n.val 0 + 2 ≤ A.FUS_WHL_INS n.val := by
    unfold A.FUS_WHL_INS A.FUS_WHL_CNT
    omega
  rw [newCount_judged hl hen hh hs hd, if_neg (Rat.not_lt.mpr h4), if_pos ⟨h16, h24⟩]
  obtain ⟨hqf, hqr⟩ := hq (t0 + ((s.clk.ticks - t0 : Nat) : Rat) / 2)
  refine ⟨?_, ?_, raise_self _ _ _ _⟩
  · rw [raise_fus, State.satInc, wr_fus, acceptCount_wheel, acceptCount_wheel, hqf]
    rfl
  · rw [raise_rd _ _ _ _ (by decide) _ (by unfold Apart A.FUS_WHL_INS; omega), State.satInc, rd_wr, if_pos rfl,
      acceptCount_rd _ _ _ _ _ hout, acceptCount_rd _ _ _ _ _ hout, hqr]

variable (hon : s.fusOn = true) (hears : s.hears = true)
include hon hears

theorem exec_wheelCount (trackB level : Bool) {held : Nat} (hcfg : s.fusCfg n.val ≠ 0) :
    exec (.wheelCount n trackB ⟨level, held⟩) s =
      .next (if 1000 * field (s.whlCfg n) 3 0 ≤ held then wheelEdge n trackB level s else s) := by
  change execWheelCount n trackB ⟨level, held⟩ s = _
  rw [execWheelCount, hears, hon, bne_iff_ne.mpr hcfg]
  simp [State.whlPass]

omit hon hears in
/-- A rising edge of A from both tracks low is one count forward. -/
theorem wheelEdge_forward (hcfg : s.fusCfg n.val = 1) (hinv : bit (s.whlCfg n) 4 = false)
    (ha : s.lands.whl.getLsbD (2 * n.val) = false) (hb : s.lands.whl.getLsbD (2 * n.val + 1) = false) :
    wheelEdge n false true s = ((s.setWhl n false true).newCount n 1).redirect s.clk.ticks := by
  have hd : s.edgeCount n false true = 1 := by
    unfold State.edgeCount
    rw [ha, hb, hcfg, hinv]
    rfl
  unfold wheelEdge
  rw [hd]
  rfl

end Count

theorem setWhl_bit (s : State) (n : Fin 4) : (s.setWhl n false true).lands.whl.getLsbD (2 * n.val) = true := by
  have h : 2 * n.val < 8 := by omega
  show (s.lands.whl ||| BitVec.twoPow 8 (2 * n.val + 0)).getLsbD (2 * n.val) = true
  simp [h]

/-- What O35 says of the wheels. -/
theorem wheels_spec {s : State} (hon : s.fusOn = true) (hears : s.hears = true) {n : Fin 4} {held : Nat}
    (hcfg : s.fusCfg n.val = 1) (hinv : bit (s.whlCfg n) 4 = false) (hheld : 1000 * field (s.whlCfg n) 3 0 ≤ held)
    (ha : s.lands.whl.getLsbD (2 * n.val) = false) (hb : s.lands.whl.getLsbD (2 * n.val + 1) = false) :
    exec (.wheelCount n false ⟨true, held⟩) s =
      .next (((s.setWhl n false true).newCount n 1).redirect s.clk.ticks) := by
  rw [exec_wheelCount hon hears false true (by rw [hcfg]; decide), if_pos hheld, wheelEdge_forward hcfg hinv ha hb]

/-! ### GNSS sentences (R287) -/

section Gnss
variable {s : State} {bytes : List Byte} {dollar : Nat}

theorem exec_gnssSentence (hon : s.fusOn = true) (hears : s.hears = true) (hen : natBit (s.fusCfg 4) 0 = true)
    (hd : dollar ≤ s.clk.ticks) : exec (.gnssSentence bytes false dollar) s = .next (gnssSentence bytes false dollar s) := by
  change execGnssSentence bytes false dollar s = _
  rw [execGnssSentence, if_pos (by rw [hon, hears, hen, decide_eq_true hd]; rfl)]

theorem gnssSentence_bad (h : nmeaBody (bytes.map (·.toNat)) = none) :
    (gnssSentence bytes false dollar s).rd A.FUS_GNSS_ERR = w16 (satU ((s.rd A.FUS_GNSS_ERR).toNat + 1)) ∧
      eventBit (gnssSentence bytes false dollar s) evGNSS_ERR = true ∧ (gnssSentence bytes false dollar s).fus = s.fus := by
  unfold gnssSentence
  rw [if_neg nofun, h]
  dsimp only
  refine ⟨?_, raise_self _ _ _ _, ?_⟩
  · rw [raise_rd _ _ _ _ (by decide) _ (by decide), State.satInc, rd_wr, if_pos rfl]
  · rw [raise_fus]
    rfl

theorem fixStamp_rd (s : State) (dollar : Nat) (time : List Nat) (a : Nat) : (s.fixStamp dollar time).1.rd a = s.rd a := by
  unfold State.fixStamp
  split
  · split
    · rfl
    · dsimp only
      exact (only_of_forget (quant_forget { free := true } s _ rfl)).regs a rfl
  · rfl

/-- A GGA sentence sets the fix word (Table MOTION-2). -/
theorem gnssFields_gga {fs : List (List Nat)} {n q : Nat} (h0 : (nmeaField fs 0).length = 5)
    (hname : (nmeaField fs 0).drop 2 = [0x47, 0x47, 0x41]) (h7 : nmeaField fs 7 ≠ []) (hn : decNat (nmeaField fs 7) 0 = some n)
    (h6 : nmeaField fs 6 ≠ []) (hq : decNat (nmeaField fs 6) 0 = some q) (s : State) :
    (s.gnssFields fs dollar).rd A.FUS_GNSS_FIX =
        setField (setField (s.rd A.FUS_GNSS_FIX) 11 4 (sat8 n)) 3 0 (min q 15) ∧
      (s.gnssFields fs dollar).rd A.FUS_GNSS_ERR = s.rd A.FUS_GNSS_ERR := by
  unfold State.gnssFields
  extract_lets fld name
  have hne : ¬ name = [0x52, 0x4D, 0x43] := by
    rw [show name = [0x47, 0x47, 0x41] from hname]
    decide
  rw [if_neg (not_not_intro h0), if_neg hne, if_pos hname]
  split
  next u st e =>
  have hu : ∀ a, u.rd a = s.rd a := fun a => by
    rw [← fixStamp_rd s dollar (fld 1) a, e]
  rw [show decNat (fld 7) 0 = some n from hn, show decNat (fld 6) 0 = some q from hq]
  dsimp only
  rw [if_neg (show ¬ fld 7 = [] from h7), if_neg (show ¬ fld 6 = [] from h6)]
  refine ⟨?_, ?_⟩
  · rw [rd_wr, if_pos rfl]
    show setField (setField (u.rd A.FUS_GNSS_FIX) 11 4 (sat8 n)) 3 0 (min q 15) = _
    rw [hu]
  · rw [rd_wr, if_neg (by decide)]
    exact hu _

theorem gnssSentence_good {body : List Nat} (h : nmeaBody (bytes.map (·.toNat)) = some body) :
    gnssSentence bytes false dollar s = s.gnssFields (nmeaFields body) dollar := by
  unfold gnssSentence
  rw [if_neg nofun, h]

end Gnss

/-! ### Inertial sequences (R290) -/

section Imu
variable {s : State} {c : ImuCfg}

theorem exec_imuTrigger (hon : s.fusOn = true) (hears : s.hears = true) (hc : s.imuCfg = some c) (hen : s.fusCfg 5 = 1)
    (hf : s.following = false) (hmay : s.imuMay c = true) : exec .imuTrigger s = .next (imuTrigger s) := by
  change execImuTrigger s = _
  rw [execImuTrigger, hc]
  dsimp only
  rw [if_pos (by rw [hon, hears, hen, hf, hmay]; rfl)]

theorem imuTrigger_starts (h : s.fus.imu = none) : imuTrigger s = s.modFus (fun f => { f with imu := some s.clk.ticks }) := by
  unfold imuTrigger
  rw [h, if_neg nofun]

theorem imuTrigger_lost (h : s.fus.imu.isSome = true) : (imuTrigger s).fus = s.fus ∧
    (imuTrigger s).rd A.FUS_IMU_LOST = w16 (satU ((s.rd A.FUS_IMU_LOST).toNat + 1)) ∧
    eventBit (imuTrigger s) evIMU_ERR = true := by
  unfold imuTrigger
  rw [if_pos h]
  dsimp only
  refine ⟨?_, ?_, raise_self _ _ _ _⟩
  · rw [raise_fus]
    rfl
  · rw [raise_rd _ _ _ _ (by decide) _ (by decide), State.satInc, rd_wr, if_pos rfl]

theorem exec_imuSeqDone {st : Nat} (hon : s.fusOn = true) (hc : s.imuCfg = some c) (hst : s.fus.imu = some st)
    (rx : List (BitVec 16)) : exec (.imuSeqDone rx) s =
      .next ((s.modFus (fun f => { f with imu := none })).imuSteps st c.steps rx) := by
  change execImuSeqDone rx s = _
  rw [execImuSeqDone, hst, hc]
  dsimp only
  rw [if_pos hon]

/-- An integer needs no rounding. -/
theorem quant_int (s : State) (z : Int) : s.quant (z : Rat) = (s, z) := by
  unfold State.quant
  rw [Rat.floor_intCast, if_pos rfl]

theorem clampI_range (lo hi z : Int) (h : lo ≤ hi) : lo ≤ clampI lo hi z ∧ clampI lo hi z ≤ hi := by
  unfold clampI
  omega

theorem sInt_wInt {z : Int} (h : -32768 ≤ z) (h' : z ≤ 32767) : sInt (wInt z) = z := by
  unfold sInt wInt
  rw [BitVec.toInt_ofInt, Int.bmod_def]
  omega

/-- A yaw-rate step of two bytes with scale 1 and offset 0. -/
theorem imuStep_yaw (st tx : Nat) (w : BitVec 16) (s : State) :
    (s.imuStep st ⟨tx, 2, 1, 256, 0⟩ w) = (s.wr (A.FUS_IMU 0) (wInt (clampI (-32767) 32767 w.toInt))).modFus (fun f =>
      { f with imuYaw := putSample ⟨st, (clampI (-32767) 32767 w.toInt : Int)⟩ f.imuYaw }) := by
  obtain ⟨hlo, hhi⟩ := clampI_range (-32767) 32767 w.toInt (by decide)
  have hq : s.quant ((((imuRaw 2 w + 0) * 256 : Int) : Rat) / 256) = (s, w.toInt) := by
    have hraw : (((imuRaw 2 w + 0) * 256 : Int) : Rat) / 256 = (w.toInt : Rat) := by
      unfold imuRaw
      rw [if_neg (by decide)]
      rw [Int.add_zero, Rat.intCast_mul]
      exact Rat.mul_div_cancel (by decide)
    rw [hraw, quant_int]
  have hfit : s.fitS (clampI (-32767) 32767 w.toInt) = (s, wInt (clampI (-32767) 32767 w.toInt)) := by
    unfold State.fitS
    rw [if_pos ⟨by omega, by omega⟩]
  unfold State.imuStep
  dsimp only
  rw [if_neg (by decide), hq]
  dsimp only
  rw [if_pos rfl, hfit]
  dsimp only
  rw [sInt_wInt (by omega) (by omega)]
  rfl

end Imu

/-! ### SENT frames (R291) -/

section Sent
variable {s : State} {n : Fin 2}

theorem exec_sentFrame (hon : s.fusOn = true) (hears : s.hears = true) (hcfg : s.fusCfg (6 + n.val) ≠ 0) (l : List Nat) :
    exec (.sentFrame n l) s = .next (sentFrame n l s) := by
  change execSentFrame n l s = _
  rw [execSentFrame, if_pos (by rw [hon, hears, bne_iff_ne.mpr hcfg]; rfl)]

theorem sentBad_spec (s : State) (n : Fin 2) :
    (s.sentBad n).rd (A.FUS_SENT_ERR n.val) = w16 (satU ((s.rd (A.FUS_SENT_ERR n.val)).toNat + 1)) ∧
      eventBit (s.sentBad n) evSENT_ERR = true ∧ (s.sentBad n).fus = s.fus := by
  unfold State.sentBad
  dsimp only
  refine ⟨?_, raise_self _ _ _ _, ?_⟩
  · rw [raise_rd _ _ _ _ (by decide) _ (by unfold Apart A.FUS_SENT_ERR; omega), State.satInc, rd_wr, if_pos rfl]
  · rw [raise_fus]
    rfl

theorem round_int (s : State) (z : Int) : s.round (z : Rat) = (s, z) := by
  have hf : ((z : Rat) + 1 / 2).floor = z := by
    have hle : z ≤ ((z : Rat) + 1 / 2).floor := Rat.le_floor_iff.2 (by grind)
    have hlt : ((z : Rat) + 1 / 2).floor < z + 1 := Rat.floor_lt_iff.2 (by rw [Rat.intCast_add]; grind)
    omega
  have hne : ¬ (z : Rat) + 1 / 2 = ((z : Rat) + 1 / 2).floor := by
    rw [hf]
    intro h
    grind
  unfold State.round
  dsimp only
  rw [if_neg hne, hf]

/-- Pulses of whole ticks give their nibbles. -/
theorem sentNibbles_whole (s : State) {u : Nat} (hu : 0 < u) : ∀ l : List Nat, (∀ d ∈ l, d < 16) →
    s.sentNibbles (56 * u) (l.map (fun d => u * (12 + d))) = (s, some l) := by
  intro l
  induction l with
  | nil => exact fun _ => rfl
  | cons d r ih =>
    intro h
    have hd : d < 16 := h d List.mem_cons_self
    have hw : ((u * (12 + d) : Nat) : Rat) * 56 / ((56 * u : Nat) : Rat) = ((12 + d : Nat) : Int) := by
      have hne : ((56 * u : Nat) : Rat) ≠ 0 := fun h => by
        have := Rat.natCast_eq_zero_iff.1 h
        omega
      have hprod : ((u * (12 + d) : Nat) : Rat) * 56 = ((12 + d : Nat) : Rat) * ((56 * u : Nat) : Rat) := by
        rw [show (56 : Rat) = ((56 : Nat) : Rat) from rfl, ← Rat.natCast_mul, ← Rat.natCast_mul]
        congr 1
        rw [Nat.mul_comm u, Nat.mul_assoc, Nat.mul_comm u]
      rw [hprod, Rat.mul_div_cancel hne]
      rfl
    rw [List.map_cons, State.sentNibbles, hw, round_int]
    dsimp only
    rw [ih (fun x hx => h x (List.mem_cons_of_mem d hx))]
    dsimp only
    rw [if_pos ⟨by omega, by omega⟩]
    have : (((12 + d : Nat) : Int) - 12).toNat = d := by omega
    rw [this]

theorem sentCrc_lt (l : List Nat) : sentCrc l < 16 := by
  have h : ∀ k : Fin 16, ([0, 13, 7, 10, 14, 3, 9, 4, 1, 12, 6, 11, 15, 2, 8, 5][k.val]?.getD 0 : Nat) < 16 := by decide
  exact h ⟨_, Nat.mod_lt _ (by decide)⟩

theorem sentGood_spec (s : State) (n : Fin 2) {st : Nat} (hst : st < 16) (d1 d2 d3 : Nat) :
    field ((s.sentGood n st d1 d2 d3).rd A.FUS_SENT_STAT) (4 * n.val + 3) (4 * n.val) = st ∧
      (s.sentGood n st d1 d2 d3).rd (A.FUS_SENT_ERR n.val) = s.rd (A.FUS_SENT_ERR n.val) := by
  unfold State.sentGood
  extract_lets r ang
  split
  next u q e =>
  have hu : ∀ a, u.rd a = s.rd a := fun a => by
    have h := (only_of_forget (quant_forget { free := true } s ((ang : Rat) / 256) rfl)).regs a rfl
    rwa [e] at h
  split
  next v x e' =>
  have hv : ∀ a, v.rd a = u.rd a := fun a => by
    have h : (u.fitS q).1.rd a = u.rd a := by
      unfold State.fitS
      split
      · rfl
      · rfl
    rwa [e'] at h
  refine ⟨?_, ?_⟩
  · show field (State.rd _ A.FUS_SENT_STAT) _ _ = st
    rw [modFus_rd, rd_wr, if_pos rfl]
    refine field_setField _ (by omega) (by omega) ?_
    have : 4 * n.val + 3 + 1 - 4 * n.val = 4 := by omega
    rw [this]
    exact hst
  · show State.rd _ (A.FUS_SENT_ERR n.val) = _
    have h1 : A.FUS_SENT_ERR n.val ≠ A.FUS_SENT_STAT := by unfold A.FUS_SENT_ERR A.FUS_SENT_STAT; omega
    have h2 : A.FUS_SENT_ERR n.val ≠ A.FUS_ANGLE n.val := by unfold A.FUS_SENT_ERR A.FUS_ANGLE; omega
    rw [modFus_rd, rd_wr, if_neg h1, rd_wr, if_neg h2, hv, hu]

/-- A frame of whole ticks with the CRC of its data nibbles is good. -/
theorem sentFrame_good {u st d1 d2 d3 d4 d5 d6 : Nat} (hcal : calOk (56 * u) (s.fusCfg (6 + n.val)) s.fus.sentCal[n] = true)
    (hd : ∀ d ∈ [st, d1, d2, d3, d4, d5, d6], d < 16) :
    sentFrame n (56 * u :: [st, d1, d2, d3, d4, d5, d6, sentCrc [d1, d2, d3, d4, d5, d6]].map (fun d => u * (12 + d))) s =
      (s.modFus (fun f => { f with sentCal := f.sentCal.set n (some (56 * u)) })).sentGood n st d1 d2 d3 := by
  have hu : 0 < u := by
    unfold calOk at hcal
    simp only [Bool.and_eq_true, bne_iff_ne, ne_eq] at hcal
    omega
  unfold sentFrame
  dsimp only
  rw [hcal]
  have hall : ∀ d ∈ [st, d1, d2, d3, d4, d5, d6, sentCrc [d1, d2, d3, d4, d5, d6]], d < 16 := by
    intro d hm
    rcases List.mem_append.mp (show d ∈ [st, d1, d2, d3, d4, d5, d6] ++ [sentCrc [d1, d2, d3, d4, d5, d6]] from hm) with h | h
    · exact hd d h
    · rw [List.mem_singleton.mp h]
      exact sentCrc_lt _
  have hn := sentNibbles_whole (s.modFus (fun f => { f with sentCal := f.sentCal.set n (some (56 * u)) })) hu _ hall
  rw [if_neg (by simp), List.take_of_length_le (by simp), hn]
  exact if_pos rfl

end Sent

/-! ### Host samples (R292) -/

theorem exec_hostInject {s : State} (hup : s.up = true) (hears : s.hears = true) (hon : s.fusOn = true) (d : Word) :
    exec (.hostInject d) s = .next (hostInject d s) := by
  change execHostInject d s = _
  rw [execHostInject, whenHost_of_hears hup hears, if_pos hon]

/-- Settles O35: each input of the fusion by what it finds at its channel. -/
theorem motionInputs : Obligations.MotionInputs := by
  unfold Obligations.MotionInputs
  intro s hon hears
  refine ⟨fun n trackB level held hcfg hlt => ?_, fun n held hcfg hinv hheld ha hb => ⟨fun hl => ?_, fun t0 hl hen hh hs hd =>
    ⟨fun hi => ?_, fun h4 h16 h24 => ?_⟩⟩, fun bytes dollar hen hd => ⟨fun hbad => ?_, fun body n q hbody h0 hname h7 hn h6 hq =>
    ?_⟩, fun c hc => ⟨fun hen hf hmay => ⟨fun h => ?_, fun h => ?_⟩, fun st tx w hst hsteps => ?_⟩, fun n hcfg =>
    ⟨fun u st d1 d2 d3 d4 d5 d6 hcal hd => ?_, ?_⟩, fun d hup hen => ⟨fun hk => ?_, fun hk => ?_⟩⟩
  · rw [exec_wheelCount hon hears trackB level hcfg, if_neg (Nat.not_le.mpr hlt)]
  · refine ⟨_, wheels_spec hon hears hcfg hinv hheld ha hb, ?_⟩
    rw [newCount_first (s := s.setWhl n false true) hl]
    have hw := acceptCount_wheel (s.setWhl n false true) n 1 s.clk.ticks 0
    refine ⟨?_, ?_, ?_, ?_, acceptCount_shown (s.setWhl n false true) n 1 s.clk.ticks 0⟩
    · show (State.acceptCount _ n 1 s.clk.ticks 0).lands.whl.getLsbD (2 * n.val) = true
      rw [acceptCount_lands]
      exact setWhl_bit s n
    · exact congrArg Wheel.cnt hw
    · exact congrArg Wheel.last hw
    · exact congrArg Wheel.sgn hw
  · exact ⟨_, wheels_spec hon hears hcfg hinv hheld ha hb,
      newCount_noise (s := s.setWhl n false true) hl hen hh hs hd hi⟩
  · obtain ⟨h1, h2, h3⟩ := newCount_inserts (s := s.setWhl n false true) hl hen hh hs hd h4 h16 h24
    refine ⟨_, wheels_spec hon hears hcfg hinv hheld ha hb, h1.trans ?_, h2, h3⟩
    exact Int.add_assoc _ _ _
  · exact ⟨_, exec_gnssSentence hon hears hen hd, gnssSentence_bad hbad⟩
  · obtain ⟨hfix, herr⟩ := gnssFields_gga (dollar := dollar) h0 hname h7 hn h6 hq s
    refine ⟨_, (exec_gnssSentence hon hears hen hd).trans (congrArg _ (gnssSentence_good hbody)), ?_, ?_, herr⟩
    · rw [hfix, field_setField_apart _ (by decide) (by decide) (by decide), field_setField _ (by decide) (by decide)]
      unfold sat8
      omega
    · rw [hfix, field_setField _ (by decide) (by decide)]
      omega
  · rw [exec_imuTrigger hon hears hc hen hf hmay, imuTrigger_starts h]
  · exact ⟨_, exec_imuTrigger hon hears hc hen hf hmay, imuTrigger_lost h⟩
  · refine ⟨_, exec_imuSeqDone hon hc hst [w], ?_⟩
    have hone : ∀ (u : State) (p : ImuStep), u.imuSteps st [p] [w] = u.imuStep st p w := fun _ _ => rfl
    rw [hsteps, hone, imuStep_yaw]
    exact ⟨rfl, by rw [modFus_rd, rd_wr, if_pos rfl], rfl, rfl⟩
  · refine ⟨_, exec_sentFrame hon hears hcfg _, ?_⟩
    rw [sentFrame_good hcal hd]
    exact sentGood_spec _ n (hd st List.mem_cons_self) d1 d2 d3
  · exact ⟨_, exec_sentFrame hon hears hcfg [], sentBad_spec s n⟩
  · refine ⟨_, exec_hostInject hup hears hon d, ?_⟩
    unfold hostInject
    rw [if_pos hen, hk]
    exact ⟨rfl, rfl⟩
  · refine ⟨_, exec_hostInject hup hears hon d, ?_⟩
    unfold hostInject
    rw [if_pos hen, hk]
    exact ⟨rfl, rfl⟩

end Sys2Proof.Proofs
end

section
/-! SUPPORT. Proofs of the publication, of the commit and firing of schedule entries, of insertions and of section commands
(R293, R295, R298, R302 to R307). -/
namespace Sys2Proof.Proofs
set_option Elab.async false
open Sys2Proof.Machine Sys2Proof.Safety Sys2Proof.Laws

/-! ### Multiples of the time base (R93) -/

/-- The next multiple of TB modulo 2^48 comes within a step, and is one. -/
theorem tbNext_spec (t : Nat) {step : Nat} (h : 0 < step) :
    tbNext t step % 2 ^ 48 % step = 0 ∧ t < tbNext t step ∧ tbNext t step ≤ t + step := by
  unfold tbNext
  extract_lets tb n
  have htb : tb < 2 ^ 48 := Nat.mod_lt _ (by decide)
  have hle : tb ≤ t := Nat.mod_le _ _
  have hmul : (t - tb) % 2 ^ 48 = 0 := by
    unfold tb
    omega
  have hn : n = tb - tb % step + step := by
    have hd := Nat.div_add_mod tb step
    have hc : step * (tb / step) = tb / step * step := Nat.mul_comm _ _
    unfold n
    rw [Nat.add_mul, Nat.one_mul]
    omega
  have hr : tb % step < step := Nat.mod_lt _ h
  have hrle : tb % step ≤ tb := Nat.mod_le _ _
  split
  · rename_i hlt
    refine ⟨?_, by omega, by omega⟩
    have hm : (t - tb + n) % 2 ^ 48 = n := by omega
    rw [hm]
    exact Nat.mul_mod_left _ _
  · rename_i hge
    refine ⟨?_, by omega, by omega⟩
    have hm : (t - tb + 2 ^ 48) % 2 ^ 48 = 0 := by omega
    rw [hm, Nat.zero_mod]

/-! ### The estimate (R293, R295, R298) -/

theorem foldr_testBit : ∀ (bs : List Bool) (i : Nat),
    (bs.foldr (fun b n => b2n b + 2 * n) 0).testBit i = bs[i]?.getD false := by
  intro bs
  induction bs with
  | nil => simp
  | cons b r ih =>
    intro i
    cases i with
    | zero => cases b <;> simp [b2n, Nat.testBit_zero, Nat.add_mod]
    | succ j =>
      have hdiv : (b2n b + 2 * r.foldr (fun b n => b2n b + 2 * n) 0) / 2 = r.foldr (fun b n => b2n b + 2 * n) 0 := by
        cases b with
        | false => exact (congrArg (· / 2) (Nat.zero_add _)).trans (Nat.mul_div_cancel_left _ (by decide))
        | true => show (1 + 2 * _) / 2 = _; omega
      rw [List.foldr_cons, Nat.testBit_succ, hdiv, ih]
      simp

theorem bit_ofBits (bs : List Bool) {i : Nat} (h : i < 16) : bit (ofBits bs) i = bs[i]?.getD false := by
  unfold bit ofBits w16
  rw [BitVec.getLsbD_ofNat, foldr_testBit]
  simp [h]

theorem round_fus (s : State) (x : Rat) : (s.round x).1.fus = s.fus :=
  (only_of_forget (round_forget { free := true } s x rfl)).fus rfl

theorem wrRound_fus (s : State) (a : Nat) (x : Rat) : (s.wrRound a x).fus = s.fus := round_fus _ _

theorem wrRound_rd (s : State) {a n : Nat} (h : n ≠ a) (x : Rat) : (s.wrRound a x).rd n = s.rd n := by
  unfold State.wrRound
  dsimp only
  rw [rd_wr, if_neg h, (round_rd _ _ _).1]

theorem wrRound_zero (s : State) (a : Nat) : (s.wrRound a 0).rd a = 0 := by
  have h0 : clampQ (-32767) 32767 0 = ((0 : Int) : Rat) := by decide +kernel
  unfold State.wrRound
  rw [h0, round_int]
  dsimp only
  rw [rd_wr, if_pos rfl]
  rfl

/-- One speed source takes its word of FUS_IN_V. -/
def showReading (s : State) (r : Reading) : State := s.wrRound (A.FUS_IN_V (r.x % 6)) r.v

theorem wrInV_eq (s : State) (l : List Reading) : s.wrInV l = s.each l showReading := rfl

theorem wrInV_fus (s : State) (l : List Reading) : (s.wrInV l).fus = s.fus := by
  rw [wrInV_eq]
  exact each_keeps (f := showReading) (·.fus) (fun u r => wrRound_fus u _ _) l s

theorem wrInV_rd (s : State) (l : List Reading) {n : Nat} (h : n < A.FUS_IN_V 0 ∨ A.FUS_IN_V 6 ≤ n) :
    (s.wrInV l).rd n = s.rd n := by
  rw [wrInV_eq]
  refine each_keeps (f := showReading) (fun u => u.rd n) (fun u r => wrRound_rd u ?_ _) l s
  have := Nat.mod_lt r.x (show 0 < 6 by decide)
  unfold A.FUS_IN_V at h ⊢
  omega

theorem wrQ_fus (s : State) (a n q : Nat) : (s.wrQ a n q).fus = s.fus := wrs_fus _ _ _

/-- The next instant of a publication leaves what it was of. -/
theorem advance_tk (f : Fusion) (tk : Nat) : (f.advance tk).tk = f.tk := by
  unfold Fusion.advance
  split
  · split
    · rfl
    · rfl
  · rfl

theorem advance_next {f : Fusion} (tk : Nat) (h : f.newSet = []) :
    (f.advance tk).epoch = f.epoch ∧ (f.advance tk).next = tbNext tk (1000 * f.epoch) := by
  unfold Fusion.advance
  rw [h]
  exact ⟨rfl, rfl⟩

/-- What the estimate of an instant leaves to show. -/
theorem estimate_spec (s : State) (tk : Nat) :
    (∃ f : Fusion, (s.estimate tk).fus = f.advance tk ∧ f.tk = some tk ∧ f.newSet = s.fus.newSet ∧ f.epoch = s.fus.epoch) ∧
    (s.estimate tk).rd A.FUS_PUBCNT = s.rd A.FUS_PUBCNT + 1 ∧
    (s.estimate tk).rd (A.FUS_EST 7) = wordOf (tk % 2 ^ 48) 0 ∧
    ((∀ r ∈ s.readings tk, r.w = 0) → bit ((s.estimate tk).rd (A.FUS_EST 0)) 15 = false ∧
      (s.estimate tk).rd (A.FUS_EST 3) = 0) := by
  unfold State.estimate
  extract_lets s0 all l e v acc a y yaw h fresh before ext qual
  split
  next s1 ds e1 =>
  extract_lets s2 s3 s4 s5 s6 s7 s8
  have hq := only_of_forget (quant_forget { free := true } s0 (256 * mean l (·.δ)) rfl)
  rw [e1] at hq
  have h5 : s5.fus = s2.fus := by
    show (s4.round h.1).1.fus = _
    rw [round_fus]
    unfold s4 s3
    rw [wrRound_fus, wrRound_fus, wrRound_fus, wrQ_fus]
    rfl
  have h6 : s6.fus = s5.fus := by
    unfold s6
    rw [wrInV_fus, wrQ_fus]
  have h8 : s8.fus = s6.fus ∧ ∀ n, Apart n → s8.rd n = s7.rd n := by
    unfold s8
    split
    · exact ⟨rfl, fun _ _ => rfl⟩
    · exact ⟨raise_fus _ _ _ _, fun n hn => raise_rd _ _ _ _ (by decide) n hn⟩
  have h4rd : ∀ n, n ≠ A.FUS_EST 3 → n ≠ A.FUS_EST 4 → n ≠ A.FUS_EST 5 → s4.rd n = s3.rd n := by
    intro n h3 h4 h5
    unfold s4
    rw [wrRound_rd _ h5, wrRound_rd _ h4, wrRound_rd _ h3]
  have h5rd : ∀ n, n ≠ A.FUS_EST 6 → s5.rd n = s4.rd n := by
    intro n hn
    show ((s4.round h.1).1.wr (A.FUS_EST 6) _).rd n = _
    rw [rd_wr, if_neg hn, (round_rd _ _ _).1]
  have h6rd : ∀ n, (n < A.FUS_EST 7 ∨ A.FUS_EST 7 + 3 ≤ n) → (n < A.FUS_IN_V 0 ∨ A.FUS_IN_V 6 ≤ n) → s6.rd n = s5.rd n := by
    intro n hn hv
    unfold s6
    rw [wrInV_rd _ _ hv, wrQ_out _ _ _ _ hn]
  have h7rd : ∀ n, n ≠ A.FUS_PUBCNT → s7.rd n = s6.rd n := by
    intro n hn
    unfold s7
    rw [State.wrapInc, rd_wr, if_neg hn]
  refine ⟨⟨s2.fus, ?_, rfl, ?_, ?_⟩, ?_, ?_, fun hw => ⟨?_, ?_⟩⟩
  · show s8.fus.advance tk = _
    rw [h8.1, h6, h5]
  · show s1.fus.newSet = _
    rw [hq.fus rfl]
    rfl
  · show s1.fus.epoch = _
    rw [hq.fus rfl]
    rfl
  · show s8.rd _ = _
    rw [h8.2 _ (by decide)]
    unfold s7
    rw [State.wrapInc, rd_wr, if_pos rfl, h6rd _ (by decide) (by decide), h5rd _ (by decide),
      h4rd _ (by decide) (by decide) (by decide)]
    have h3 : s3.rd A.FUS_PUBCNT = s1.rd A.FUS_PUBCNT := by
      unfold s3
      rw [wrQ_out _ _ _ _ (by decide), rd_wr, if_neg (by decide)]
      rfl
    rw [h3, hq.regs _ rfl]
    rfl
  · show s8.rd _ = _
    rw [h8.2 _ (by decide), h7rd _ (by decide)]
    unfold s6
    rw [wrInV_rd _ _ (by decide)]
    exact wrQ_at _ (A.FUS_EST 7) 3 _ (k := 0) (by decide)
  · have hl : l = [] := List.filter_eq_nil_iff.mpr (fun r hr => by simpa using hw r hr)
    show bit (s8.rd _) 15 = false
    rw [h8.2 _ (by decide), h7rd _ (by decide), h6rd _ (by decide) (by decide), h5rd _ (by decide),
      h4rd _ (by decide) (by decide) (by decide)]
    have h3 : s3.rd (A.FUS_EST 0) = qual := by
      unfold s3
      rw [wrQ_out _ _ _ _ (by decide), rd_wr, if_pos rfl]
    rw [h3]
    unfold qual fresh State.freshBits
    rw [bit_or, bit_ofBits _ (by decide), bit_ofBits _ (by decide), hl]
    rfl
  · have hl : l = [] := List.filter_eq_nil_iff.mpr (fun r hr => by simpa using hw r hr)
    have hv : v = 0 := by
      unfold v
      rw [hl]
      decide +kernel
    show s8.rd _ = 0
    rw [h8.2 _ (by decide), h7rd _ (by decide), h6rd _ (by decide) (by decide), h5rd _ (by decide)]
    unfold s4
    rw [wrRound_rd _ (by decide), wrRound_rd _ (by decide), hv, wrRound_zero]

theorem reschedule_only (s : State) (tk : Nat) : Only (raising { regs := [.SCH_UNCOMCNT], sched := true }) s (s.reschedule tk) :=
  only_of_forget (reschedule_forget _ s tk (mayRaise_raising _) rfl (has_of_mem (by decide)))

/-- The schedule's part of a publication leaves the estimate. -/
theorem publication_frame (s : State) : (fusionPublication s).fus = (s.estimate s.fus.next).fus ∧
    ∀ a, (raising { regs := [.SCH_UNCOMCNT], sched := true }).covers a = false →
      (fusionPublication s).rd a = (s.estimate s.fus.next).rd a := by
  unfold fusionPublication
  extract_lets tk u
  split
  · exact ⟨rfl, fun _ _ => rfl⟩
  · exact ⟨(reschedule_only u tk).fus rfl, (reschedule_only u tk).regs⟩

theorem exec_fusionPublication {s : State} (hon : s.fusOn = true) : exec .fusionPublication s =
    .next (if s.fus.next + 100 * s.fus.delay ≤ s.clk.ticks then fusionPublication s else s) := by
  change execFusionPublication s = _
  rw [execFusionPublication, hon]
  simp

/-- What O36 says of a publication. -/
theorem publication_spec (s : State) : (fusionPublication s).fus.tk = some s.fus.next ∧
    (fusionPublication s).rd A.FUS_PUBCNT = s.rd A.FUS_PUBCNT + 1 ∧
    (fusionPublication s).rd (A.FUS_EST 7) = wordOf (s.fus.next % 2 ^ 48) 0 ∧
    (s.fus.newSet = [] → 0 < s.fus.epoch → (fusionPublication s).fus.epoch = s.fus.epoch ∧
      (fusionPublication s).fus.next % 2 ^ 48 % (1000 * s.fus.epoch) = 0 ∧ s.fus.next < (fusionPublication s).fus.next ∧
      (fusionPublication s).fus.next ≤ s.fus.next + 1000 * s.fus.epoch) ∧
    ((∀ r ∈ s.readings s.fus.next, r.w = 0) → bit ((fusionPublication s).rd (A.FUS_EST 0)) 15 = false ∧
      (fusionPublication s).rd (A.FUS_EST 3) = 0) := by
  obtain ⟨hfus, hrd⟩ := publication_frame s
  obtain ⟨⟨f, hf, htk, hset, hep⟩, hcnt, h7, hw⟩ := estimate_spec s s.fus.next
  rw [hfus, hf]
  refine ⟨(advance_tk f _).trans htk, ?_, ?_, fun hnew hpos => ?_, fun h => ?_⟩
  · rw [hrd _ (by decide +kernel), hcnt]
  · rw [hrd _ (by decide +kernel), h7]
  · obtain ⟨he, hn⟩ := advance_next s.fus.next (hset.trans hnew)
    rw [he, hn, hep]
    exact ⟨rfl, tbNext_spec _ (by omega)⟩
  · rw [hrd _ (by decide +kernel), hrd _ (by decide +kernel)]
    exact hw h

end Sys2Proof.Proofs
end

section
/-! SUPPORT. Proofs of the commit and firing of schedule entries, of insertions and of section commands (R302 to R307). -/
namespace Sys2Proof.Proofs
set_option Elab.async false
open Sys2Proof.Machine Sys2Proof.Safety Sys2Proof.Laws

/-! ### Targets of an entry (R303) -/

theorem mapGet_replace {α : Type} (l : List (Nat × α)) (k : Nat) (x : α) :
    mapGet (l.map (fun p => if p.1 = k then (k, x) else p)) k = if (mapGet l k).isSome then some x else none := by
  induction l with
  | nil => rfl
  | cons p r ih =>
    obtain ⟨k', v'⟩ := p
    by_cases hk : k' = k
    · simp [mapGet, hk]
    · simp [mapGet, hk, ih]

/-- A target set stands so with its entry, unless the entry retires, which it does with every target fired. -/
theorem setTgt_spec {s : State} {i n : Nat} {e : Entry} (hq : mapGet s.sched.q i = some e) (ht : (e.tgt n).isSome = true)
    (x : TgtSt) : (x = .fired ∧ mapGet (s.setTgt i n x).sched.q i = none) ∨
      (mapGet (s.setTgt i n x).sched.q i).bind (·.tgt n) = some x := by
  unfold State.setTgt
  rw [hq]
  dsimp only
  split
  · rename_i hall
    refine Or.inl ⟨?_, ?_⟩
    · obtain ⟨v, hv⟩ := Option.isSome_iff_exists.mp ht
      have hmem : (n, x) ∈ e.tgts.map (fun p => if p.1 = n then (n, x) else p) :=
        List.mem_map.mpr ⟨(n, v), mem_of_mapGet hv, if_pos rfl⟩
      exact eq_of_beq (List.all_eq_true.mp hall _ hmem)
    · show mapGet (mapDel s.sched.q i) i = none
      rw [mapGet_mapDel, if_pos rfl]
  · refine Or.inr ?_
    show (mapGet (mapPut s.sched.q i _) i).bind _ = _
    rw [mapGet_mapPut, if_pos rfl]
    show mapGet (e.tgts.map _) n = some x
    rw [mapGet_replace, show (mapGet e.tgts n).isSome = true from ht, if_pos rfl]

theorem setTgt_rd (s : State) (i n : Nat) (x : TgtSt) (a : Nat) : (s.setTgt i n x).rd a = s.rd a :=
  (only_of_forget (setTgt_forget { sched := true } s i n x rfl)).regs a rfl

/-! ### Commit (R303, R304) -/

section Commit
variable {s : State} {i : Fin 256} {n : Fin 24} {e : Entry} (hon : s.fusOn = true) (hf : s.following = false)
  (hq : mapGet s.sched.q i.val = some e)
include hon hf

theorem exec_scheduleCommit : exec (.scheduleCommit i n) s = .next (scheduleCommit i n s) := by
  change execScheduleCommit i n s = _
  rw [execScheduleCommit, hon, hf]
  rfl

theorem exec_scheduleFire (at' : Fin 200) : exec (.scheduleFire at' i n) s = .next (scheduleFire (s.clkAt at') i n s) := by
  change execScheduleFire at' i n s = _
  rw [execScheduleFire, hon, hf]
  rfl

theorem exec_schedLateFire (at' : Fin 200) :
    exec (.schedLateFire at' i n) s = .next (schedLateFire (s.clkAt at') i n s) := by
  change execSchedLateFire at' i n s = _
  rw [execSchedLateFire, hon, hf]
  rfl

omit hon hf
include hq

theorem scheduleCommit_eq {p : Rat} (ht : e.tgt n.val = some (.pending (some p))) : scheduleCommit i n s =
    if p - (s.clk.ticks : Rat) ≤ s.tcommit then
      (s.quant p).1.setTgt i.val n.val (.committed (max (s.quant p).2.toNat ((s.quant p).1.clk.ticks + 1)))
    else s := by
  unfold scheduleCommit
  rw [hq, Option.bind_some, ht]

theorem scheduleCommit_spec {p : Rat} (ht : e.tgt n.val = some (.pending (some p)))
    (hp : p - (s.clk.ticks : Rat) ≤ s.tcommit) :
    (mapGet (scheduleCommit i n s).sched.q i.val).bind (·.tgt n.val) =
        some (.committed (max p.floor.toNat (s.clk.ticks + 1))) ∨
      (mapGet (scheduleCommit i n s).sched.q i.val).bind (·.tgt n.val) =
        some (.committed (max (p.floor + 1).toNat (s.clk.ticks + 1))) := by
  have hfree := only_of_forget (quant_forget { free := true } s p rfl)
  have hv : (s.quant p).2 = p.floor ∨ (s.quant p).2 = p.floor + 1 := by
    unfold State.quant
    split
    · exact Or.inl rfl
    · by_cases hb : Config.freeBool s.free = true
      · exact Or.inl (if_pos hb)
      · exact Or.inr (if_neg hb)
  have hset := (setTgt_spec (s := (s.quant p).1) (n := n.val) (x := .committed (max (s.quant p).2.toNat
    ((s.quant p).1.clk.ticks + 1))) (by rw [hfree.sched rfl]; exact hq) (by rw [ht]; rfl)).resolve_left (fun h => nomatch h.1)
  rw [scheduleCommit_eq hq ht, if_pos hp]
  rw [hfree.clk rfl] at hset ⊢
  rcases hv with hv | hv
  · left
    rw [hv] at hset ⊢
    exact hset
  · right
    rw [hv] at hset ⊢
    exact hset

theorem scheduleFire_eq (t : Nat) {c : Nat} (ht : e.tgt n.val = some (.committed c)) : scheduleFire t i n s =
    if c ≤ s.clk.ticks then s.fire t i n e false else s := by
  unfold scheduleFire
  rw [hq]
  dsimp only
  rw [ht]

theorem schedLateFire_eq (t : Nat) {c : Nat} (ht : e.tgt n.val = some (.late c)) : schedLateFire t i n s =
    if c ≤ s.clk.ticks then s.fire t i n e true else s := by
  unfold schedLateFire
  rw [hq]
  dsimp only
  rw [ht]

end Commit

/-! ### Actions on targets (R300, R301) -/

/-- What the registers that an action writes reach (Table MOTION-5). -/
def actReach : Parts :=
  raising { regs := [.AX_CUR_SET, .AX_GS_CTL, .AX_GS_RATE, .IMG_LIMLAST, .IMG_LIMSAT, .PWM_ARMREP, .PWM_CMP, .PWM_FORCE],
            tim := true, hb := true }

theorem actBinding_only (s : State) (t : Nat) (n : Fin 24) (act : Nat) (v : Word) :
    Only actReach s (s.actBinding t n act v) :=
  only_of_forget (actBinding_forget actReach s t n act v (mayRaise_raising _) rfl rfl (has_of_mem (by decide))
    (has_of_mem (by decide)) (has_of_mem (by decide)) (has_of_mem (by decide)) (has_of_mem (by decide))
    (has_of_mem (by decide)) (has_of_mem (by decide)) (has_of_mem (by decide)))

/-- No action writes a word of the schedule itself. -/
theorem actReach_free {a : Nat} (h : a = A.SCH_STATE_LO ∨ a = A.SCH_STATE_HI ∨ a = A.SCH_LATECNT) :
    actReach.covers a = false := by
  rcases h with rfl | rfl | rfl
  · decide +kernel
  · decide +kernel
  · decide +kernel

theorem stateAddr_free (n : Fin 24) : actReach.covers (schStateAddr n) = false := by
  unfold schStateAddr
  split
  · exact actReach_free (Or.inl rfl)
  · exact actReach_free (Or.inr (Or.inl rfl))

theorem applyAct_sched (s : State) (t : Nat) (n : Fin 24) (act : Nat) (v : Word) : (s.applyAct t n act v).sched = s.sched := by
  unfold State.applyAct
  extract_lets u
  have hu : u.sched = s.sched := (actBinding_only s t n act v).sched rfl
  split
  · exact hu
  · exact hu

theorem applyAct_latecnt (s : State) (t : Nat) (n : Fin 24) (act : Nat) (v : Word) :
    (s.applyAct t n act v).rd A.SCH_LATECNT = s.rd A.SCH_LATECNT := by
  unfold State.applyAct
  extract_lets u
  have hu : u.rd A.SCH_LATECNT = s.rd A.SCH_LATECNT := (actBinding_only s t n act v).regs _ (actReach_free (Or.inr (Or.inr rfl)))
  have hne : A.SCH_LATECNT ≠ schStateAddr n := by
    unfold schStateAddr
    split
    · decide
    · decide
  split
  · exact hu
  · rw [rd_wr, if_neg hne, hu]

/-- RATE leaves the states of the targets. -/
theorem applyAct_rate (s : State) (t : Nat) (m n : Fin 24) (v : Word) :
    (s.applyAct t m actRATE v).rd (schStateAddr n) = s.rd (schStateAddr n) := by
  unfold State.applyAct
  rw [if_pos rfl]
  exact (actBinding_only s t m actRATE v).regs _ (stateAddr_free n)

/-- ON and OFF set the state of their target, and of no other (R301). -/
theorem applyAct_bit (s : State) (t : Nat) {act : Nat} (hact : act ≠ actRATE) (v : Word) (m n : Fin 24) :
    bit ((s.applyAct t m act v).rd (schStateAddr n)) (n.val % 16) =
      if n = m then decide (act = actON) else bit (s.rd (schStateAddr n)) (n.val % 16) := by
  unfold State.applyAct
  extract_lets u
  have hu : u.rd (schStateAddr n) = s.rd (schStateAddr n) := (actBinding_only s t m act v).regs _ (stateAddr_free n)
  have hb : (b2n (act = actON)).testBit 0 = decide (act = actON) := by
    by_cases h : act = actON
    · simp [h, b2n]
    · simp [h, b2n]
  rw [if_neg hact, rd_wr]
  by_cases hnm : n = m
  · subst hnm
    rw [if_pos rfl, if_pos rfl, bit_setField _ _ (Nat.le_refl _) (Nat.mod_lt _ (by decide)),
      if_pos ⟨Nat.le_refl _, Nat.le_refl _⟩, Nat.sub_self, hb]
  · rw [if_neg hnm]
    split
    · rename_i hsame
      have hmod : ¬ (m.val % 16 ≤ n.val % 16 ∧ n.val % 16 ≤ m.val % 16) := by
        unfold schStateAddr at hsame
        intro hm
        apply hnm
        have := n.isLt
        have := m.isLt
        split at hsame
        · split at hsame
          · exact Fin.ext (by omega)
          · exact absurd hsame (by decide)
        · split at hsame
          · exact absurd hsame (by decide)
          · exact Fin.ext (by omega)
      rw [bit_setField _ _ (Nat.le_refl _) (Nat.mod_lt _ (by decide)), if_neg hmod, ← hsame, hu]
    · rw [hu]

/-! ### Firing (R305, R306) -/

theorem state_apart (n : Fin 24) : Apart (schStateAddr n) ∧ (schStateAddr n < A.SCH_LAST 0 ∨ A.SCH_LAST 0 + 5 ≤ schStateAddr n) ∧
    schStateAddr n ≠ A.SCH_LATECNT := by revert n; decide

theorem wrs_sched (l : List Word) : ∀ (s : State) (a : Nat), (s.wrs a l).sched = s.sched := by
  induction l with
  | nil => exact fun _ _ => rfl
  | cons v vs ih => exact fun s a => ih (s.wr a v) (a + 1)

/-- A target that fires: its section's state, the words and events that tell of it, and its entry. -/
theorem fire_spec {s : State} (t : Nat) {i : Fin 256} {n : Fin 24} {e : Entry} (hq : mapGet s.sched.q i.val = some e)
    (ht : (e.tgt n.val).isSome = true) (late : Bool) :
    eventBit (s.fire t i n e late) evSCHED_FIRE = true ∧ (late = true → eventBit (s.fire t i n e late) evSCHED_LATE = true) ∧
    (e.act ≠ actRATE → bit ((s.fire t i n e late).rd (schStateAddr n)) (n.val % 16) = decide (e.act = actON)) ∧
    (s.fire t i n e late).rd (A.SCH_LAST 0) = w16 (32768 * b2n late + i.val) ∧
    (s.fire t i n e late).rd (A.SCH_LAST 1) = w16 n.val ∧
    (late = true → (s.fire t i n e late).rd A.SCH_LATECNT = w16 (satU ((s.rd A.SCH_LATECNT).toNat + 1))) ∧
    (mapGet (s.fire t i n e late).sched.q i.val = none ∨
      (mapGet (s.fire t i n e late).sched.q i.val).bind (·.tgt n.val) = some .fired) := by
  unfold State.fire
  extract_lets s1 iw
  split
  next s2 err e2 =>
  extract_lets ew s3 s4
  have hr := only_of_forget (round_forget { free := true } s1 (wrapPos (e.s - (s1.liveS + s1.fus.v * s1.lead n.val / 10000))) rfl)
  rw [e2] at hr
  have h2 : ∀ a, s2.rd a = s1.rd a := fun a => hr.regs a rfl
  have h3q : s3.sched = s.sched := by
    have hw : s3.sched = s2.sched := wrs_sched _ _ _
    rw [hw, hr.sched rfl]
    exact applyAct_sched _ _ _ _ _
  have h4rd : ∀ a, Apart a → s4.rd a = s3.rd a := fun a ha => by
    unfold s4
    rw [setTgt_rd, raise_rd _ _ _ _ (by decide) _ ha]
  have h4ev : eventBit s4 evSCHED_FIRE = true := by
    unfold eventBit s4
    rw [setTgt_rd]
    exact raise_self _ _ _ _
  have h4q := setTgt_spec (s := s3.raise evSCHED_FIRE iw ew) (by rw [raise_sched, h3q]; exact hq) ht .fired
  have hend : ∀ u : State, (∀ a, Apart a → a ≠ A.SCH_LATECNT → u.rd a = s4.rd a) → u.sched = s4.sched →
      (e.act ≠ actRATE → bit (u.rd (schStateAddr n)) (n.val % 16) = decide (e.act = actON)) ∧
      u.rd (A.SCH_LAST 0) = w16 (32768 * b2n late + i.val) ∧ u.rd (A.SCH_LAST 1) = w16 n.val ∧
      (mapGet u.sched.q i.val = none ∨ (mapGet u.sched.q i.val).bind (·.tgt n.val) = some .fired) := by
    intro u hu huq
    obtain ⟨hap, hout, hne⟩ := state_apart n
    refine ⟨fun hact => ?_, ?_, ?_, ?_⟩
    · rw [hu _ hap hne, h4rd _ hap]
      have h3 : s3.rd (schStateAddr n) = s2.rd (schStateAddr n) := rd_wrs _ _ _ _ hout
      rw [h3, h2]
      unfold s1
      rw [applyAct_bit _ _ hact, if_pos rfl]
    · rw [hu _ (by decide) (by decide), h4rd _ (by decide)]
      exact rd_wrs_at _ _ (A.SCH_LAST 0) 0 (by simp)
    · rw [hu _ (by decide) (by decide), h4rd _ (by decide)]
      exact rd_wrs_at _ _ (A.SCH_LAST 0) 1 (by simp)
    · rw [huq]
      exact h4q.imp_left And.right
  cases late with
  | false =>
    obtain ⟨h5, h6, h7, h8⟩ := hend s4 (fun _ _ _ => rfl) rfl
    exact ⟨h4ev, nofun, h5, h6, h7, nofun, h8⟩
  | true =>
    rw [if_pos rfl]
    obtain ⟨h5, h6, h7, h8⟩ := hend ((s4.satInc A.SCH_LATECNT).raise evSCHED_LATE iw ew)
      (fun a ha hne => by rw [raise_rd _ _ _ _ (by decide) _ ha, satInc_rd _ _ _ hne]) (raise_sched _ _ _ _)
    refine ⟨?_, fun _ => raise_self _ _ _ _, h5, h6, h7, fun _ => ?_, h8⟩
    · rw [raise_eventBit]
      refine setEvt_mono _ _ _ ?_
      unfold eventBit at h4ev ⊢
      rw [satInc_rd _ _ _ (by decide)]
      exact h4ev
    · have h3 : s3.rd A.SCH_LATECNT = s2.rd A.SCH_LATECNT := rd_wrs _ _ _ _ (Or.inl (by decide))
      rw [raise_rd _ _ _ _ (by decide) _ (by decide), State.satInc, rd_wr, if_pos rfl, h4rd _ (by decide), h3, h2]
      unfold s1
      rw [applyAct_latecnt]

/-! ### Insertions (R302, R306) -/

theorem exec_scheduleInsert {s : State} (hup : s.up = true) (hears : s.hears = true) (hon : s.fusOn = true) {d : Word}
    (hl : s.legal A.SCH_IN_0 d = true) : exec (.scheduleInsert d) s = .next (scheduleInsert d s) := by
  have hat : regAt A.SCH_IN_0 = some (.SCH_IN_0, []) := by decide +kernel
  change execScheduleInsert d s = _
  rw [execScheduleInsert, hostWord_of_hears hup hears, writeWord_block hat (by decide) rfl (by decide +kernel) hon hl]
  rfl

section Insert
variable {s : State} (act mask se : Nat) (v : Word)

theorem insert_full (h : s.freeIndex = none) : (s.insert act mask se v).sched = s.sched ∧
    (s.insert act mask se v).rd A.SCH_IN_RES = 0x8000 ∧
    (s.insert act mask se v).rd A.SCH_FULLCNT = w16 (satU ((s.rd A.SCH_FULLCNT).toNat + 1)) ∧
    eventBit (s.insert act mask se v) evSCHED_FULL = true := by
  unfold State.insert
  rw [h]
  dsimp only
  refine ⟨?_, ?_, ?_, raise_self _ _ _ _⟩
  · rw [raise_sched]
    rfl
  · rw [raise_rd _ _ _ _ (by decide) _ (by decide), satInc_rd _ _ _ (by decide), rd_wr, if_pos rfl]
  · rw [raise_rd _ _ _ _ (by decide) _ (by decide), State.satInc, rd_wr, if_pos rfl, rd_wr, if_neg (by decide)]

theorem insert_free {i : Nat} (h : s.freeIndex = some i) :
    mapGet (s.insert act mask se v).sched.q i = some ⟨act, v, se, s.newTargets mask se⟩ ∧
    (∀ j, j ≠ i → mapGet (s.insert act mask se v).sched.q j = mapGet s.sched.q j) ∧
    ((∀ n, s.isLate se n = false) → (s.insert act mask se v).rd A.SCH_IN_RES = w16 (0x4000 + i)) := by
  unfold State.insert
  rw [h]
  extract_lets l late
  have hq : ∀ j, mapGet ((s.setEntry i ⟨act, v, se, l⟩).wr A.SCH_IN_RES (w16 ((if late then 49152 else 16384) + i))).sched.q j =
      if j = i then some ⟨act, v, se, l⟩ else mapGet s.sched.q j := fun j => mapGet_mapPut _ _ _ _
  refine ⟨by rw [hq, if_pos rfl], fun j hj => by rw [hq, if_neg hj], fun hn => ?_⟩
  have hlate : late = false := by
    refine List.any_eq_false.mpr (fun p hp => ?_)
    obtain ⟨n, _, rfl⟩ := List.mem_map.mp hp
    simp [hn n]
  rw [rd_wr, if_pos rfl, hlate]
  rfl

end Insert

/-! ### Section commands (R307) -/

section Sect
variable {s : State} (hup : s.up = true) (hears : s.hears = true) (hon : s.fusOn = true) (at' : Fin 200)
include hup hears hon

theorem exec_schSectOn : exec (.schSectOn at') s = .next (schSect (s.clkAt at') actON s) := by
  change execSchSectOn at' s = _
  rw [execSchSectOn, whenHost_of_hears hup hears, if_pos hon]

theorem exec_schSectOff : exec (.schSectOff at') s = .next (schSect (s.clkAt at') actOFF s) := by
  change execSchSectOff at' s = _
  rw [execSchSectOff, whenHost_of_hears hup hears, if_pos hon]

theorem exec_schSectRate : exec (.schSectRate at') s = .next (schSect (s.clkAt at') actRATE s) := by
  change execSchSectRate at' s = _
  rw [execSchSectRate, whenHost_of_hears hup hears, if_pos hon]

end Sect

/-- One target of a section command. -/
def sectAct (t act : Nat) (v : Word) (s : State) (n : Nat) : State := s.applyAct t (fin24 n) act v

theorem sectActs_bit (t : Nat) {act : Nat} (hact : act ≠ actRATE) (v : Word) (n : Fin 24) :
    ∀ (l : List Nat), (∀ m ∈ l, m < 24) → ∀ s : State,
      bit ((s.each l (sectAct t act v)).rd (schStateAddr n)) (n.val % 16) =
        if n.val ∈ l then decide (act = actON) else bit (s.rd (schStateAddr n)) (n.val % 16) := by
  intro l
  induction l with
  | nil => exact fun _ s => rfl
  | cons m r ih =>
    intro h s
    have hm : (n = fin24 m) ↔ n.val = m := by
      have : (fin24 m).val = m := Nat.mod_eq_of_lt (h m List.mem_cons_self)
      rw [Fin.ext_iff, this]
    have hstep := ih (fun x hx => h x (List.mem_cons_of_mem m hx)) (sectAct t act v s m)
    have hone : bit ((sectAct t act v s m).rd (schStateAddr n)) (n.val % 16) =
        if n = fin24 m then decide (act = actON) else bit (s.rd (schStateAddr n)) (n.val % 16) :=
      applyAct_bit s t hact v (fin24 m) n
    refine hstep.trans ?_
    rw [hone]
    by_cases h1 : n.val ∈ r
    · rw [if_pos h1, if_pos (List.mem_cons_of_mem m h1)]
    · rw [if_neg h1]
      by_cases h2 : n.val = m
      · rw [if_pos (hm.mpr h2), if_pos (h2 ▸ List.mem_cons_self)]
      · rw [if_neg (fun h => h2 (hm.mp h)), if_neg (fun h => (List.mem_cons.mp h).elim h2 h1)]

theorem schSect_eq (t act : Nat) (s : State) : schSect t act s =
    (s.each (maskTargets (s.stagedMask A.SCH_SECT_1 A.SCH_SECT_2)) (sectAct t act (s.staged A.SCH_SECT_3))).raise evHOST_SECT
      (wordOf (s.stagedMask A.SCH_SECT_1 A.SCH_SECT_2) 0)
      (w16 (16384 * act + s.stagedMask A.SCH_SECT_1 A.SCH_SECT_2 / 65536)) := rfl

theorem mem_maskTargets {mask : Nat} (n : Fin 24) : n.val ∈ maskTargets mask ↔ natBit mask n.val = true := by
  unfold maskTargets
  simp

/-- A section command sets the state of each target it names and of no other. -/
theorem schSect_bit (t : Nat) {act : Nat} (hact : act ≠ actRATE) (s : State) (n : Fin 24) :
    bit ((schSect t act s).rd (schStateAddr n)) (n.val % 16) =
      if natBit (s.stagedMask A.SCH_SECT_1 A.SCH_SECT_2) n.val = true then decide (act = actON)
      else bit (s.rd (schStateAddr n)) (n.val % 16) := by
  have hlt : ∀ m ∈ maskTargets (s.stagedMask A.SCH_SECT_1 A.SCH_SECT_2), m < 24 := fun m hm =>
    List.mem_range.mp (List.mem_filter.mp hm).1
  rw [schSect_eq, raise_rd _ _ _ _ (by decide) _ (state_apart n).1, sectActs_bit t hact _ n _ hlt]
  simp only [mem_maskTargets]

theorem schSect_event (t act : Nat) (s : State) : eventBit (schSect t act s) evHOST_SECT = true := raise_self _ _ _ _

theorem schSect_rate (t : Nat) (s : State) (n : Fin 24) : (schSect t actRATE s).rd (schStateAddr n) = s.rd (schStateAddr n) := by
  rw [schSect_eq, raise_rd _ _ _ _ (by decide) _ (state_apart n).1]
  exact each_keeps (f := sectAct t actRATE (s.staged A.SCH_SECT_3)) (fun u => u.rd (schStateAddr n))
    (fun u m => applyAct_rate u t (fin24 m) n _) _ s

/-- Settles O36: the publication of an instant, and what each command of the schedule finds: a target within its time, an index
that is free, a section that is named. -/
theorem publicationsAndSections : Obligations.PublicationsAndSections := by
  unfold Obligations.PublicationsAndSections
  refine ⟨⟨fun s hon => ⟨fun hle => ?_, fun hlt => ?_⟩, fun s i n e hon hf hq => ⟨fun p ht => ⟨fun hp => ?_, fun hp => ?_⟩,
    fun at' c ht => ⟨fun hle => ?_, fun hlt => ?_⟩, fun at' c ht hle => ?_⟩⟩, fun s hup hears hon => ⟨fun d hl =>
    ⟨fun i hi => ?_, fun hi => ?_⟩, fun at' => ⟨?_, ?_, ?_⟩⟩⟩
  · rw [exec_fusionPublication hon, if_pos hle]
    exact ⟨_, rfl, publication_spec s⟩
  · rw [exec_fusionPublication hon, if_neg (Nat.not_le.mpr hlt)]
  · exact ⟨_, exec_scheduleCommit hon hf, scheduleCommit_spec hq ht hp⟩
  · rw [exec_scheduleCommit hon hf, scheduleCommit_eq hq ht, if_neg (Rat.not_le.mpr hp)]
  · obtain ⟨h1, _, h3, h4, h5, _, h7⟩ := fire_spec (s.clkAt at') hq (by rw [ht]; rfl) false
    refine ⟨_, exec_scheduleFire hon hf at', ?_⟩
    rw [scheduleFire_eq hq _ ht, if_pos hle]
    exact ⟨h1, h3, h4.trans (congrArg w16 (Nat.zero_add _)), h5, h7⟩
  · rw [exec_scheduleFire hon hf at', scheduleFire_eq hq _ ht, if_neg (Nat.not_le.mpr hlt)]
  · obtain ⟨h1, h2, h3, _, _, h6, h7⟩ := fire_spec (s.clkAt at') hq (by rw [ht]; rfl) true
    refine ⟨_, exec_schedLateFire hon hf at', ?_⟩
    rw [schedLateFire_eq hq _ ht, if_pos hle]
    exact ⟨h1, h2 rfl, h6 rfl, h3, h7⟩
  · exact ⟨_, exec_scheduleInsert hup hears hon hl, insert_free _ _ _ _ hi⟩
  · exact ⟨_, exec_scheduleInsert hup hears hon hl, insert_full _ _ _ _ hi⟩
  · refine ⟨_, exec_schSectOn hup hears hon at', schSect_event _ _ s, fun n => ?_⟩
    rw [schSect_bit _ (by decide)]
    cases natBit (s.stagedMask A.SCH_SECT_1 A.SCH_SECT_2) n.val <;> rfl
  · refine ⟨_, exec_schSectOff hup hears hon at', schSect_event _ _ s, fun n => ?_⟩
    rw [schSect_bit _ (by decide)]
    cases natBit (s.stagedMask A.SCH_SECT_1 A.SCH_SECT_2) n.val <;> rfl
  · exact ⟨_, exec_schSectRate hup hears hon at', schSect_event _ _ s, schSect_rate _ s 0, schSect_rate _ s 16⟩

end Sys2Proof.Proofs
end

section
/-! SUPPORT. Proofs of seed edges, epoch closes, the solver and its clears (R320 to R322, R327, R332, R333, R336, R339). -/
namespace Sys2Proof.Proofs
set_option Elab.async false
open Sys2Proof.Machine Sys2Proof.Safety Sys2Proof.Laws

/-! ### A series over rows, each of which changes its own -/

section Own
variable {β : Type} {f : State → Fin 24 → State} {g : Fin 24 → State → β} {I : State → Prop}
  (hother : ∀ u y r, r ≠ y → g r (f u y) = g r u) (hI : ∀ u y, I u → I (f u y))
include hother

theorem each_spares {r : Fin 24} : ∀ {l : List (Fin 24)}, r ∉ l → ∀ s : State, g r (s.each l f) = g r s := by
  intro l
  induction l with
  | nil => exact fun _ _ => rfl
  | cons y ys ih =>
    intro h s
    exact (ih (fun hm => h (List.mem_cons_of_mem y hm)) (f s y)).trans
      (hother s y r (fun e => h (e ▸ List.mem_cons_self)))

include hI

/-- What a series leaves of a row that it names once is what that row's own step makes of it. -/
theorem each_own {r : Fin 24} : ∀ {l : List (Fin 24)}, l.Nodup → r ∈ l → ∀ {s : State}, I s →
    ∃ u, I u ∧ g r u = g r s ∧ g r (s.each l f) = g r (f u r) := by
  intro l
  induction l with
  | nil => exact fun _ h => nomatch h
  | cons y ys ih =>
    intro hnd hr s hs
    obtain ⟨hy, hnd'⟩ := List.nodup_cons.mp hnd
    by_cases he : r = y
    · subst he
      exact ⟨s, hs, rfl, each_spares hother hy (f s r)⟩
    · obtain ⟨u, hu, hg, hres⟩ := ih hnd' ((List.mem_cons.mp hr).resolve_left he) (hI s y hs)
      exact ⟨u, hu, hg.trans (hother s y r he), hres⟩

end Own

theorem filter_nodup (p : Fin 24 → Bool) : ((List.finRange 24).filter p).Nodup := (List.nodup_finRange 24).filter _

/-! ### Seed edges (R320, R333) -/

theorem seedovf_apart (r : Fin 24) : Apart (A.SOL_SEEDOVF r.val) := by
  unfold Apart A.SOL_SEEDOVF
  omega

theorem seedovf_status (r : Fin 24) : A.EVT_STAT (evSEED_OVF.src / 16) ≠ A.SOL_SEEDOVF r.val := by
  have hst : A.EVT_STAT (evSEED_OVF.src / 16) < 0x1900 := by decide
  intro he
  rw [he] at hst
  unfold A.SOL_SEEDOVF at hst
  omega

theorem observe_room {s : State} {r : Fin 24} (h : (s.sol.rows[r]).obs.length < 64) :
    s.observe r = s.modRow r (fun x => { x with obs := insertDrop ⟨s.clk.ticks, false⟩ x.obs }) := if_pos h

theorem observe_full {s : State} {r : Fin 24} (h : 64 ≤ (s.sol.rows[r]).obs.length) :
    s.observe r = (s.satInc (A.SOL_SEEDOVF r.val)).raise evSEED_OVF (w16 r.val) 0 := if_neg (Nat.not_lt.mpr h)

/-- What an observed event may change of a row. -/
def seedView (r : Fin 24) (s : State) : SolRow × Word := (s.sol.rows[r], s.rd (A.SOL_SEEDOVF r.val))

theorem observe_other (u : State) (y r : Fin 24) (h : r ≠ y) : seedView r (u.observe y) = seedView r u := by
  unfold seedView
  by_cases hlt : (u.sol.rows[y]).obs.length < 64
  · rw [observe_room hlt, modRow_get, if_neg (Ne.symm h), modRow_rd]
  · have hne : A.SOL_SEEDOVF r.val ≠ A.SOL_SEEDOVF y.val := by
      have : r.val ≠ y.val := fun e => h (Fin.ext e)
      unfold A.SOL_SEEDOVF
      omega
    rw [observe_full (Nat.not_lt.mp hlt), raise_sol, raise_rd _ _ _ _ (by decide) _ (seedovf_apart r), satInc_rd _ _ _ hne]
    rfl

theorem observe_clk (u : State) (y : Fin 24) : (u.observe y).clk = u.clk :=
  (only_of_forget (observe_forget (raising { regs := [.SOL_SEEDOVF], sol := true }) u y (mayRaise_raising _) rfl
    (has_of_mem (by decide)))).clk rfl

theorem observe_seeds (u : State) (y : Fin 24) : (u.observe y).sol.seeds = u.sol.seeds := by
  unfold State.observe
  split
  · rfl
  · rw [raise_sol]
    rfl

/-- The rows observe an edge in turn. -/
def observing (s : State) (r : Fin 24) : State := s.observe r

theorem observing_full {s : State} {l : List (Fin 24)} {r : Fin 24} (hr : r ∈ l) (h : 64 ≤ (s.sol.rows[r]).obs.length) :
    eventBit (s.each l observing) evSEED_OVF = true := by
  refine each_makes (I := fun u => 64 ≤ (u.sol.rows[r]).obs.length) (P := fun u => eventBit u evSEED_OVF = true)
    (f := observing) (fun u y hu => ?_) (fun u y _ hp => ?_) (fun u hu => ?_) hr h
  · by_cases he : r = y
    · subst he
      unfold observing
      rw [observe_full hu, raise_sol]
      exact hu
    · have := congrArg Prod.fst (observe_other u y r he)
      exact (congrArg (fun x : SolRow => x.obs.length) this) ▸ hu
  · by_cases hlt : (u.sol.rows[y]).obs.length < 64
    · unfold observing
      rw [observe_room hlt]
      exact hp
    · unfold observing
      rw [observe_full (Nat.not_lt.mp hlt)]
      refine raise_mono _ _ _ _ _ ?_
      unfold eventBit at hp ⊢
      rw [satInc_rd _ _ _ (seedovf_status y)]
      exact hp
  · unfold observing
    rw [observe_full hu]
    exact raise_self _ _ _ _

section Seed
variable {s : State} (hears : s.hears = true) (hon : s.solOn = true) (i : Fin 24)

/-- The input's last accepted edge is the present one. -/
def seedTaken (i : Fin 24) (s : State) : State := s.modSol (fun o => { o with seeds := o.seeds.set i (some s.clk.ticks) })

theorem seedEdge_eq (h : s.seedOpen i = true) : seedEdge i s = (seedTaken i s).each (s.rowsFrom i) observing := if_pos h

include hears hon in
theorem exec_seedEdge (level : Bool) (held : Nat) : exec (.seedEdge ⟨i, level, held⟩) s =
    .next (if s.seedLeads level held then seedEdge i s else s) := by
  change execSeedEdge ⟨i, level, held⟩ s = _
  rw [execSeedEdge, hears, hon]
  rfl

theorem seedLeads_eq (s : State) (level : Bool) (held : Nat) : s.seedLeads level held = true ↔
    level = bit (s.rd A.SOL_SEEDCFG) 15 ∧ 1000 * field (s.rd A.SOL_SEEDCFG) 13 8 ≤ held := by
  unfold State.seedLeads
  simp

/-- An accepted edge reaches the rows that its input feeds and no other. -/
theorem seedEdge_spec (h : s.seedOpen i = true) : (seedEdge i s).sol.seeds[i] = some s.clk.ticks ∧
    (∀ r ∈ s.rowsFrom i, (s.sol.rows[r]).obs.length < 64 →
      ((seedEdge i s).sol.rows[r]).obs = insertDrop ⟨s.clk.ticks, false⟩ (s.sol.rows[r]).obs) ∧
    (∀ r ∈ s.rowsFrom i, 64 ≤ (s.sol.rows[r]).obs.length → ((seedEdge i s).sol.rows[r]).obs = (s.sol.rows[r]).obs ∧
      (seedEdge i s).rd (A.SOL_SEEDOVF r.val) = w16 (satU ((s.rd (A.SOL_SEEDOVF r.val)).toNat + 1)) ∧
      eventBit (seedEdge i s) evSEED_OVF = true) ∧
    ∀ r, r ∉ s.rowsFrom i → (seedEdge i s).sol.rows[r] = s.sol.rows[r] := by
  rw [seedEdge_eq i h]
  have hown : ∀ r ∈ s.rowsFrom i, ∃ u : State, u.clk = s.clk ∧ seedView r u = seedView r s ∧
      seedView r ((seedTaken i s).each (s.rowsFrom i) observing) = seedView r (u.observe r) := fun r hr =>
    each_own (f := observing) (g := seedView) (I := fun u => u.clk = s.clk) observe_other
      (fun u y hu => (observe_clk u y).trans hu) (filter_nodup _) hr (s := seedTaken i s) rfl
  refine ⟨?_, fun r hr hlt => ?_, fun r hr hge => ?_, fun r hr => ?_⟩
  · have hseeds := each_keeps (f := observing) (fun u => u.sol.seeds) (fun u y => observe_seeds u y) (s.rowsFrom i)
      (seedTaken i s)
    rw [hseeds]
    simp [seedTaken, State.modSol]
  · obtain ⟨u, hclk, hu, hres⟩ := hown r hr
    have hrow : u.sol.rows[r] = s.sol.rows[r] := congrArg Prod.fst hu
    have hget : ((seedTaken i s).each (s.rowsFrom i) observing).sol.rows[r] = (u.observe r).sol.rows[r] :=
      congrArg Prod.fst hres
    rw [hget, observe_room (by rw [hrow]; exact hlt), modRow_get, if_pos rfl, hrow, hclk]
  · obtain ⟨u, hclk, hu, hres⟩ := hown r hr
    obtain ⟨hrow, hcnt⟩ := Prod.mk.inj hu
    obtain ⟨hget, hgetc⟩ := Prod.mk.inj hres
    rw [observe_full (by rw [hrow]; exact hge)] at hget hgetc
    refine ⟨?_, ?_, observing_full hr hge⟩
    · rw [hget, raise_sol]
      exact congrArg SolRow.obs hrow
    · rw [hgetc, raise_rd _ _ _ _ (by decide) _ (seedovf_apart r), State.satInc, rd_wr, if_pos rfl, hcnt]
  · exact congrArg Prod.fst (each_spares (f := observing) (g := seedView) observe_other hr (seedTaken i s))

end Seed

/-! ### Epoch closes (R321, R322, R332) -/

theorem buildBatch_only (s : State) (tj : Nat) (r : Fin 24) :
    Only (raising { regs := [.SOL_BATCHOVF, .SOL_LATECNT], sol := true }) s (s.buildBatch tj r) :=
  only_of_forget (buildBatch_forget _ s tj r (mayRaise_raising _) rfl (has_of_mem (by decide)) (has_of_mem (by decide)))

/-- The rows with the batch built, and what else of the solver stands in the queue. -/
theorem buildBatch_sol (s : State) (tj : Nat) (r : Fin 24) : ∃ row : SolRow,
    (s.buildBatch tj r).sol.rows = s.sol.rows.set r row ∧
    ((s.sol.rows[r]).batch = none → row.batch = some ⟨tj, (s.rd A.SOL_GMAX).toNat, batchOf tj (s.sol.rows[r]).exps,
        batchOf tj (s.sol.rows[r]).obs⟩ ∧ row.exps = batchRest tj (s.sol.rows[r]).exps ∧
      row.obs = batchRest tj (s.sol.rows[r]).obs ∧ (s.buildBatch tj r).sol.queue = s.sol.queue ++ [r.val]) := by
  unfold State.buildBatch
  extract_lets x late exps obs many b s1 s2
  have h2 : s2.sol = s1.sol := by
    unfold s2
    split
    · rfl
    · rfl
  refine ⟨{ x with exps := batchRest tj exps, obs := batchRest tj obs, batch := some b }, ?_, fun hb => ?_⟩
  · split
    · rw [raise_sol]
      exact congrArg Solver.rows h2
    · exact congrArg Solver.rows h2
  · have hx : x.batch = none := hb
    have he : exps = x.exps := by
      unfold exps
      rw [hx]
      rfl
    have ho : obs = x.obs := by
      unfold obs
      rw [hx]
      rfl
    have hl : ¬ late = true := by
      unfold late
      rw [hx]
      decide
    refine ⟨?_, ?_, ?_, ?_⟩
    · show some b = _
      unfold b
      rw [he, ho]
    · rw [← he]
    · rw [← ho]
    · rw [if_neg hl]
      show s2.sol.queue ++ [r.val] = _
      rw [h2]
      rfl

/-- The batch of a row in a series of closes. -/
def building (tj : Nat) (s : State) (r : Fin 24) : State := s.buildBatch tj r

theorem building_other (tj : Nat) (u : State) (y r : Fin 24) (h : r ≠ y) :
    (building tj u y).sol.rows[r] = u.sol.rows[r] := by
  obtain ⟨row, hrows, _⟩ := buildBatch_sol u tj y
  unfold building
  rw [hrows]
  exact Vector.getElem_set_ne y.isLt r.isLt (fun e => h (Fin.ext e.symm))

theorem building_row (tj : Nat) (u : State) (r : Fin 24) (h : (u.sol.rows[r]).batch = none) :
    ((building tj u r).sol.rows[r]).batch = some ⟨tj, (u.rd A.SOL_GMAX).toNat, batchOf tj (u.sol.rows[r]).exps,
        batchOf tj (u.sol.rows[r]).obs⟩ ∧ ((building tj u r).sol.rows[r]).exps = batchRest tj (u.sol.rows[r]).exps ∧
      ((building tj u r).sol.rows[r]).obs = batchRest tj (u.sol.rows[r]).obs ∧
      (building tj u r).sol.queue = u.sol.queue ++ [r.val] := by
  obtain ⟨row, hrows, hb⟩ := buildBatch_sol u tj r
  obtain ⟨h1, h2, h3, h4⟩ := hb h
  have hget : (building tj u r).sol.rows[r] = row := by
    unfold building
    rw [hrows]
    exact Vector.getElem_set_self r.isLt
  rw [hget]
  exact ⟨h1, h2, h3, h4⟩

theorem building_queue (tj : Nat) : ∀ (l : List (Fin 24)), l.Nodup → ∀ s : State,
    (∀ r ∈ l, (s.sol.rows[r]).batch = none) → (s.each l (building tj)).sol.queue = s.sol.queue ++ l.map (·.val) := by
  intro l
  induction l with
  | nil => exact fun _ s _ => (List.append_nil _).symm
  | cons y ys ih =>
    intro hnd s h
    obtain ⟨hy, hnd'⟩ := List.nodup_cons.mp hnd
    have hrest : ∀ r ∈ ys, ((building tj s y).sol.rows[r]).batch = none := by
      intro r hr
      rw [building_other tj s y r (fun e => hy (e ▸ hr))]
      exact h r (List.mem_cons_of_mem y hr)
    refine (ih hnd' (building tj s y) hrest).trans ?_
    obtain ⟨_, _, _, hq⟩ := building_row tj s y (h y List.mem_cons_self)
    rw [hq, List.append_assoc]
    rfl

theorem epochClose_eq (s : State) : epochClose s = (s.each s.rowList (building s.sol.next)).modSol (fun o =>
    { o with
      epoch := field ((s.each s.rowList (building s.sol.next)).rd A.SOL_CTL) 6 0
      next := tbNext s.sol.next (1000 * field ((s.each s.rowList (building s.sol.next)).rd A.SOL_CTL) 6 0) }) := rfl

theorem building_rd (tj : Nat) (u : State) (y : Fin 24) {a : Nat} (h : a = A.SOL_CTL ∨ a = A.SOL_GMAX) :
    (building tj u y).rd a = u.rd a := by
  refine (buildBatch_only u tj y).regs a ?_
  rcases h with rfl | rfl
  · decide +kernel
  · decide +kernel

theorem exec_epochClose {s : State} (hon : s.solOn = true) : exec .associationEpochClose s =
    .next (if s.sol.next ≤ s.clk.ticks then epochClose s else s) := by
  change execAssociationEpochClose s = _
  rw [execAssociationEpochClose, hon]
  simp

theorem epochClose_spec (s : State) :
    (0 < field (s.rd A.SOL_CTL) 6 0 → (epochClose s).sol.next % 2 ^ 48 % (1000 * field (s.rd A.SOL_CTL) 6 0) = 0 ∧
      s.sol.next < (epochClose s).sol.next ∧
      (epochClose s).sol.next ≤ s.sol.next + 1000 * field (s.rd A.SOL_CTL) 6 0) ∧
    (∀ r ∈ s.rowList, (s.sol.rows[r]).batch = none →
      ((epochClose s).sol.rows[r]).batch = some ⟨s.sol.next, (s.rd A.SOL_GMAX).toNat, batchOf s.sol.next (s.sol.rows[r]).exps,
        batchOf s.sol.next (s.sol.rows[r]).obs⟩ ∧
      ((epochClose s).sol.rows[r]).exps = batchRest s.sol.next (s.sol.rows[r]).exps ∧
      ((epochClose s).sol.rows[r]).obs = batchRest s.sol.next (s.sol.rows[r]).obs) ∧
    ((∀ r : Fin 24, (s.sol.rows[r]).batch = none) → (epochClose s).sol.queue = s.sol.queue ++ s.rowList.map (·.val)) := by
  have hctl : (s.each s.rowList (building s.sol.next)).rd A.SOL_CTL = s.rd A.SOL_CTL :=
    each_keeps (f := building s.sol.next) (fun u => u.rd A.SOL_CTL) (fun u y => building_rd _ u y (Or.inl rfl)) _ s
  rw [epochClose_eq]
  refine ⟨fun hpos => ?_, fun r hr hb => ?_, fun hb => ?_⟩
  · show tbNext s.sol.next _ % 2 ^ 48 % _ = 0 ∧ s.sol.next < tbNext s.sol.next _ ∧ tbNext s.sol.next _ ≤ _
    rw [hctl]
    exact tbNext_spec _ (by omega)
  · obtain ⟨u, hg, hrow, hres⟩ := each_own (f := building s.sol.next) (g := fun r u => u.sol.rows[r])
      (I := fun u => u.rd A.SOL_GMAX = s.rd A.SOL_GMAX) (building_other s.sol.next)
      (fun u y hu => (building_rd _ u y (Or.inr rfl)).trans hu) (filter_nodup _) hr rfl
    have hrow' : u.sol.rows[r] = s.sol.rows[r] := hrow
    have hres' : (s.each s.rowList (building s.sol.next)).sol.rows[r] = (building s.sol.next u r).sol.rows[r] := hres
    obtain ⟨h1, h2, h3, _⟩ := building_row s.sol.next u r (by rw [hrow']; exact hb)
    rw [hrow', hg] at h1
    rw [hrow'] at h2 h3
    exact ⟨(congrArg SolRow.batch hres').trans h1, (congrArg SolRow.exps hres').trans h2,
      (congrArg SolRow.obs hres').trans h3⟩
  · exact building_queue s.sol.next s.rowList (filter_nodup _) s (fun r _ => hb r)

/-! ### The solver (R332, R336, R339) -/

section Solver
variable {s : State} {n : Nat} {b : Batch} (hon : s.solOn = true)
include hon

theorem exec_solveStart (h : s.sol.solving = none) (hp : s.sol.paused = false) (ht : s.testsSolver = false) :
    exec .solveStart s = .next (solveStart s) := by
  change execSolveStart s = _
  rw [execSolveStart, hon, h, hp, ht]
  rfl

theorem exec_solveDone (ok : Bool) (dur : Word) : exec (.solveDone ok dur) s = .next (solveDone ok dur s) := by
  change execSolveDone ok dur s = _
  rw [execSolveDone, if_pos hon]

theorem exec_solverStoreCleared : exec .solverStoreCleared s = .next (s.modSol (fun o => { o with paused := false })) := by
  change execSolverStoreCleared s = _
  rw [execSolverStoreCleared, if_pos hon]

end Solver

theorem solveStart_spec {s : State} {n : Nat} {q : List Nat} {b : Batch} (hq : s.sol.queue = n :: q)
    (hb : (s.sol.rows[fin24 n]).batch = some b) : (solveStart s).sol.solving = some (n, b) ∧ (solveStart s).sol.queue = q ∧
      ((solveStart s).sol.rows[fin24 n]).batch = none := by
  unfold solveStart
  rw [hq]
  dsimp only
  rw [hb]
  refine ⟨rfl, rfl, ?_⟩
  show ((s.modRow (fin24 n) (fun x => { x with batch := none })).sol.rows[fin24 n]).batch = none
  rw [modRow_get, if_pos rfl]

/-- A solve that ends, once the longest length has been noted. -/
theorem solveDone_eq {s : State} {n : Nat} {b : Batch} (h : s.sol.solving = some (n, b)) (ok : Bool) (dur : Word) :
    solveDone ok dur s =
      if ok then ((s.wr A.SOL_TMAX (w16 (max (s.rd A.SOL_TMAX).toNat dur.toNat))).modSol (fun o =>
        { o with solving := none })).publish (fin24 n) b
      else (s.wr A.SOL_TMAX (w16 (max (s.rd A.SOL_TMAX).toNat dur.toNat))).solverFault n := by
  unfold solveDone
  rw [h]

theorem solverFault_spec (s : State) (n : Nat) : (s.solverFault n).sol.solving = none ∧ (s.solverFault n).sol.paused = true ∧
    (s.solverFault n).rd A.SOL_FAULTCNT = w16 (satU ((s.rd A.SOL_FAULTCNT).toNat + 1)) ∧
    eventBit (s.solverFault n) evSOL_FAULT = true := by
  unfold State.solverFault
  dsimp only
  refine ⟨?_, ?_, ?_, raise_self _ _ _ _⟩
  · rw [raise_sol]
    rfl
  · rw [raise_sol]
    rfl
  · rw [raise_rd _ _ _ _ (by decide) _ (by decide), State.satInc, rd_wr, if_pos rfl, modSol_rd]

/-! ### The results of a solved batch (R326 to R331) -/

theorem spacing_solving (s : State) (r : Fin 24) (t : Nat) : (s.spacing r t).sol.solving = s.sol.solving := by
  unfold State.spacing
  extract_lets x s1
  show s1.sol.solving = _
  unfold s1
  split
  · dsimp only
    split
    · have hfree := (only_of_forget (freeUpTo_forget { free := true } s 15 rfl)).sol rfl
      show (s.freeUpTo 15).1.sol.solving = _
      rw [hfree]
    · rfl
  · rfl

theorem carryExp_solving (s : State) (r : Fin 24) (d : Drop) : (s.carryExp r d).sol.solving = s.sol.solving := by
  unfold State.carryExp
  split
  · rfl
  · rw [raise_sol]
    rfl

theorem carryObs_solving (s : State) (r : Fin 24) (d : Drop) : (s.carryObs r d).sol.solving = s.sol.solving := by
  unfold State.carryObs
  split
  · rfl
  · rw [raise_sol]
    rfl

theorem runSkip_solving (s : State) (r : Fin 24) : (s.runSkip r).sol.solving = s.sol.solving := by
  unfold State.runSkip
  dsimp only
  split
  · rw [raise_sol]
    rfl
  · rfl

/-- One event of a batch in time order: an observed one or a skip (R331). -/
def runStep (r : Fin 24) (s : State) (p : Nat × Bool) : State := if p.2 then s.runObs r else s.runSkip r

theorem runStep_solving (r : Fin 24) (s : State) (p : Nat × Bool) : (runStep r s p).sol.solving = s.sol.solving := by
  unfold runStep
  split
  · rfl
  · exact runSkip_solving s r

theorem adapt_solving (s : State) (r : Fin 24) (mean : Rat) : (s.adapt r mean).sol.solving = s.sol.solving := by
  unfold State.adapt
  dsimp only
  split
  · rfl
  · split
    · rfl
    · rw [raise_sol]
      rfl

/-- What the publication of a batch may change of the words of other results. -/
def besideResults : Parts := raising
  { regs := [.SOL_EXPOVF, .SOL_SEEDOVF, .SOL_RUNSKIP, .SOL_HIST, .SOL_RATES, .SOL_WINCNT, .SOL_RSTAT, .SOL_TRACE_E,
      .SOL_TRACE_N, .SOL_TRACE_O], free := true, sol := true }

/-- Carried events go back into their buffers. -/
def carriedBack (s : State) (r : Fin 24) (es os : List (Drop × Fate)) : State :=
  (s.each (carriedOf es) (fun s d => s.carryExp r d)).each (carriedOf os) (fun s d => s.carryObs r d)

/-- The four cumulative counters (R327). -/
def counted (s : State) (r : Fin 24) (m k x : Nat) : State :=
  (((s.addQ2 (A.SOL_CNT r.val 0) (m + k)).addQ2 (A.SOL_CNT r.val 2) m).addQ2 (A.SOL_CNT r.val 4) k).addQ2 (A.SOL_CNT r.val 6) x

/-- The window, the spacing, the run of skips, the fall time and the trace (R328 to R331). -/
def afterCounts (s : State) (r : Fin 24) (m k x : Nat) (es os : List (Drop × Fate)) : State :=
  let s := s.modRow r (fun y => { y with wE := y.wE + m + k, wM := y.wM + m, wS := y.wS + k, wX := y.wX + x })
  let s := s.each ((os.filter (fun p => p.2 != .carried)).map (·.1.t)) (fun s t => s.spacing r t)
  let s := s.each (runOf es os) (runStep r)
  let s := if (s.rd A.SOL_WIN).toNat ≤ s.sol.rows[r].wE then s.publishWindow r else s
  let s := if (errorsOf es).isEmpty then s else s.adapt r (((errorsOf es).sum : Int) / ((errorsOf es).length : Rat))
  s.trace r es os

theorem publish_eq (s : State) (r : Fin 24) (b : Batch) : s.publish r b =
    (let a := assign b.gate b.exps b.obs
     let es := b.expFates a
     let os := b.obsFates a
     let m := (errorsOf es).length
     let k := countFate (· == .alone) es
     let x := countFate (· == .alone) os
     ((afterCounts (counted ((carriedBack s r es os).lastResults r b.exps.length b.obs.length (errorsOf es)) r m k x) r
       m k x es os).wrapInc (A.SOL_EPOCHCNT r.val)).pruneMade r) := rfl

theorem carriedBack_forget (s : State) (r : Fin 24) (es os : List (Drop × Fate)) :
    forget besideResults (carriedBack s r es os) = forget besideResults s :=
  (each_forget _ _ _ (fun u d => carryObs_forget _ u r d (mayRaise_raising _) rfl (has_of_mem (by decide))) _).trans
    (each_forget _ _ _ (fun u d => carryExp_forget _ u r d (mayRaise_raising _) rfl (has_of_mem (by decide))) s)

theorem carriedBack_solving (s : State) (r : Fin 24) (es os : List (Drop × Fate)) :
    (carriedBack s r es os).sol.solving = s.sol.solving :=
  (each_keeps (fun u => u.sol.solving) (fun u d => carryObs_solving u r d) _ _).trans
    (each_keeps (fun u => u.sol.solving) (fun u d => carryExp_solving u r d) _ s)

theorem runStep_forget (r : Fin 24) (s : State) (p : Nat × Bool) : forget besideResults (runStep r s p) = forget besideResults s := by
  unfold runStep
  split
  · exact runObs_forget _ s r rfl (has_of_mem (by decide))
  · exact runSkip_forget _ s r (mayRaise_raising _) rfl (has_of_mem (by decide))

theorem wrs_sol (l : List Word) : ∀ (s : State) (a : Nat), (s.wrs a l).sol = s.sol := by
  induction l with
  | nil => exact fun _ _ => rfl
  | cons v vs ih => exact fun s a => ih (s.wr a v) (a + 1)

theorem round_sol (s : State) (x : Rat) : (s.round x).1.sol = s.sol :=
  (only_of_forget (round_forget { free := true } s x rfl)).sol rfl

theorem roundSqrt_sol (s : State) (x : Rat) : (s.roundSqrt x).1.sol = s.sol :=
  (only_of_forget (roundSqrt_forget { free := true } s x rfl)).sol rfl

theorem rate_sol (s : State) (a n e : Nat) : (s.rate a n e).sol = s.sol := by
  unfold State.rate
  split
  · rfl
  · exact round_sol _ _

theorem publishWindow_solving (s : State) (r : Fin 24) : (s.publishWindow r).sol.solving = s.sol.solving := by
  unfold State.publishWindow
  extract_lets x s1 mean var s2 s3 s4
  have h1 : s1.sol = s.sol := by rw [show s1 = _ from rfl, rate_sol, rate_sol, rate_sol]
  have h2 : s2.sol = s1.sol := by
    unfold s2
    split
    · rfl
    · dsimp only
      exact (round_sol _ _).trans (roundSqrt_sol _ _)
  have h3 : s3.sol = s2.sol := wrs_sol _ _ _
  show s3.sol.solving = _
  rw [h3, h2, h1]

theorem trace_sol (s : State) (r : Fin 24) (es os : List (Drop × Fate)) : (s.trace r es os).sol = s.sol := by
  unfold State.trace
  dsimp only
  split
  · rw [wr_sol, wrs_sol, wrs_sol]
  · rfl

theorem afterCounts_keeps (s : State) (r : Fin 24) (m k x : Nat) (es os : List (Drop × Fate)) :
    forget besideResults (afterCounts s r m k x es os) = forget besideResults s ∧
      (afterCounts s r m k x es os).sol.solving = s.sol.solving := by
  unfold afterCounts
  extract_lets s1 s2 s3 s4 s5
  have h1 : forget besideResults s1 = forget besideResults s := modRow_forget _ s r _ rfl
  have h2 : forget besideResults s2 = forget besideResults s1 ∧ s2.sol.solving = s1.sol.solving :=
    ⟨each_forget _ _ _ (fun u t => spacing_forget _ u r t rfl rfl) _,
      each_keeps (fun u => u.sol.solving) (fun u t => spacing_solving u r t) _ _⟩
  have h3 : forget besideResults s3 = forget besideResults s2 ∧ s3.sol.solving = s2.sol.solving :=
    ⟨each_forget _ _ _ (runStep_forget r) _, each_keeps (fun u => u.sol.solving) (runStep_solving r) _ _⟩
  have h4 : forget besideResults s4 = forget besideResults s3 ∧ s4.sol.solving = s3.sol.solving := by
    unfold s4
    split
    · exact ⟨publishWindow_forget _ s3 r rfl rfl (has_of_mem (by decide)) (has_of_mem (by decide)) (has_of_mem (by decide)),
        publishWindow_solving s3 r⟩
    · exact ⟨rfl, rfl⟩
  have h5 : forget besideResults s5 = forget besideResults s4 ∧ s5.sol.solving = s4.sol.solving := by
    unfold s5
    split
    · exact ⟨rfl, rfl⟩
    · exact ⟨adapt_forget _ s4 r _ (mayRaise_raising _) rfl (has_of_mem (by decide)), adapt_solving s4 r _⟩
  refine ⟨?_, ?_⟩
  · exact (trace_forget _ s5 r es os (has_of_mem (by decide)) (has_of_mem (by decide)) (has_of_mem (by decide))).trans
      (h5.1.trans (h4.1.trans (h3.1.trans (h2.1.trans h1))))
  · exact (congrArg Solver.solving (trace_sol s5 r es os)).trans (h5.2.trans (h4.2.trans (h3.2.trans h2.2)))

theorem lastResults_sol (s : State) (r : Fin 24) (m k : Nat) (errs : List Int) : (s.lastResults r m k errs).sol = s.sol :=
  (only_of_forget (lastResults_forget { regs := [.SOL_LAST_ERR, .SOL_LAST_M, .SOL_LAST_N, .SOL_LAST_RMS], free := true } s r m k
    errs rfl (has_of_mem (by decide)) (has_of_mem (by decide)) (has_of_mem (by decide)) (has_of_mem (by decide)))).sol rfl

theorem lastResults_rd (s : State) (r : Fin 24) (m k : Nat) (errs : List Int) :
    (s.lastResults r m k errs).rd (A.SOL_LAST_N r.val) = w16 (256 * m + k) ∧
    (s.lastResults r m k errs).rd (A.SOL_LAST_M r.val) = w16 errs.length ∧
    ∀ a, (∀ j < 4, a ≠ A.SOL_LAST_N r.val + j) → (s.lastResults r m k errs).rd a = s.rd a := by
  have htwo : ∀ (u : State) (x y : Word) (a : Nat), a ≠ A.SOL_LAST_ERR r.val → a ≠ A.SOL_LAST_RMS r.val →
      ((u.wr (A.SOL_LAST_ERR r.val) x).wr (A.SOL_LAST_RMS r.val) y).rd a = u.rd a := by
    intro u x y a hx hy
    rw [rd_wr, if_neg hy, rd_wr, if_neg hx]
  have hall : ∀ a, a ≠ A.SOL_LAST_ERR r.val → a ≠ A.SOL_LAST_RMS r.val → (s.lastResults r m k errs).rd a =
      ((s.wr (A.SOL_LAST_N r.val) (w16 (256 * m + k))).wr (A.SOL_LAST_M r.val) (w16 errs.length)).rd a := by
    intro a hx hy
    unfold State.lastResults
    extract_lets s1 n
    split
    · exact htwo _ _ _ a hx hy
    · dsimp only
      rw [htwo _ _ _ a hx hy]
      exact ((only_of_forget (roundSqrt_forget { free := true } _ _ rfl)).regs a rfl).trans (round_rd _ _ a).1
  have hne : A.SOL_LAST_N r.val ≠ A.SOL_LAST_ERR r.val ∧ A.SOL_LAST_N r.val ≠ A.SOL_LAST_RMS r.val ∧
      A.SOL_LAST_M r.val ≠ A.SOL_LAST_ERR r.val ∧ A.SOL_LAST_M r.val ≠ A.SOL_LAST_RMS r.val ∧
      A.SOL_LAST_N r.val ≠ A.SOL_LAST_M r.val := by
    unfold A.SOL_LAST_N A.SOL_LAST_M A.SOL_LAST_ERR A.SOL_LAST_RMS
    omega
  obtain ⟨n1, n2, n3, n4, n5⟩ := hne
  refine ⟨?_, ?_, fun a ha => ?_⟩
  · rw [hall _ n1 n2, rd_wr, if_neg n5, rd_wr, if_pos rfl]
  · rw [hall _ n3 n4, rd_wr, if_pos rfl]
  · have h0 := ha 0 (by omega)
    have h1 := ha 1 (by omega)
    have h2 := ha 2 (by omega)
    have h3 := ha 3 (by omega)
    unfold A.SOL_LAST_N at h0 h1 h2 h3
    rw [hall a (by unfold A.SOL_LAST_ERR; omega) (by unfold A.SOL_LAST_RMS; omega), rd_wr,
      if_neg (by unfold A.SOL_LAST_M; omega), rd_wr, if_neg (by unfold A.SOL_LAST_N; omega)]

theorem addQ2_sol (s : State) (a n : Nat) : (s.addQ2 a n).sol = s.sol := wrs_sol _ _ _

theorem addQ2_out (s : State) (a n : Nat) {c : Nat} (h : c < a ∨ a + 2 ≤ c) : (s.addQ2 a n).rd c = s.rd c := wrQ_out s a 2 _ h

theorem addQ2_sum (s : State) (a n : Nat) : (s.addQ2 a n).rdQ2 a = (s.rdQ2 a + n) % 2 ^ 32 := by
  unfold State.addQ2
  have h0 := wrQ_at s a 2 ((s.rdQ2 a + n) % 2 ^ 32) (k := 0) (by omega)
  have h1 := wrQ_at s a 2 ((s.rdQ2 a + n) % 2 ^ 32) (k := 1) (by omega)
  rw [show (s.wrQ a 2 ((s.rdQ2 a + n) % 2 ^ 32)).rdQ2 a = quant2 _ _ from rfl]
  rw [Nat.add_zero] at h0
  rw [h0, h1]
  exact quant2_words (Nat.mod_lt _ (by decide))

/-- A quantity of two words is known by its words. -/
theorem rdQ2_of_words {s t : State} {a : Nat} (h0 : t.rd a = s.rd a) (h1 : t.rd (a + 1) = s.rd (a + 1)) :
    t.rdQ2 a = s.rdQ2 a := by
  unfold State.rdQ2
  rw [h0, h1]

theorem counted_out (s : State) (r : Fin 24) (m k x : Nat) {a : Nat} (h : a < A.SOL_CNT r.val 0 ∨ A.SOL_CNT r.val 0 + 8 ≤ a) :
    (counted s r m k x).rd a = s.rd a := by
  unfold A.SOL_CNT at h
  unfold counted
  rw [addQ2_out _ _ _ (by unfold A.SOL_CNT; omega), addQ2_out _ _ _ (by unfold A.SOL_CNT; omega),
    addQ2_out _ _ _ (by unfold A.SOL_CNT; omega), addQ2_out _ _ _ (by unfold A.SOL_CNT; omega)]

theorem counted_matches (s : State) (r : Fin 24) (m k x : Nat) :
    (counted s r m k x).rdQ2 (A.SOL_CNT r.val 2) = (s.rdQ2 (A.SOL_CNT r.val 2) + m) % 2 ^ 32 := by
  have hpass : ∀ (u : State) (j n : Nat), j = 0 ∨ 4 ≤ j →
      (u.addQ2 (A.SOL_CNT r.val j) n).rdQ2 (A.SOL_CNT r.val 2) = u.rdQ2 (A.SOL_CNT r.val 2) := by
    intro u j n hj
    refine rdQ2_of_words (addQ2_out _ _ _ ?_) (addQ2_out _ _ _ ?_)
    · unfold A.SOL_CNT
      omega
    · unfold A.SOL_CNT
      omega
  unfold counted
  rw [hpass _ 6 _ (by omega), hpass _ 4 _ (by omega), addQ2_sum, hpass _ 0 _ (by omega)]

theorem counted_sol (s : State) (r : Fin 24) (m k x : Nat) : (counted s r m k x).sol = s.sol := by
  unfold counted
  rw [addQ2_sol, addQ2_sol, addQ2_sol, addQ2_sol]

/-- The words of a row's results that the publication writes once. -/
def resultWord (r : Fin 24) : Fin 6 → Nat
  | 0 => A.SOL_EPOCHCNT r.val
  | 1 => A.SOL_LAST_N r.val
  | 2 => A.SOL_LAST_M r.val
  | 3 => A.SOL_CNT r.val 2
  | 4 => A.SOL_CNT r.val 2 + 1
  | 5 => A.SOL_TMAX

theorem resultWord_free (r : Fin 24) (j : Fin 6) : besideResults.covers (resultWord r j) = false := by
  have h : ∀ w ∈ allRows.filter (fun w => besideResults.regs.contains w.reg), ∀ (r : Fin 24) (j : Fin 6),
      (w.idx (resultWord r j)).isSome = false := by decide +kernel
  exact not_covers rfl (fun w hw => h w hw r j)

theorem resultWord_apart (r : Fin 24) (j : Fin 6) (h : j ≠ 0) : resultWord r j ≠ A.SOL_EPOCHCNT r.val := by
  revert r j
  decide

theorem kept_resultWord {s t : State} (h : forget besideResults t = forget besideResults s) (r : Fin 24) (j : Fin 6) :
    t.rd (resultWord r j) = s.rd (resultWord r j) := (only_of_forget h).regs _ (resultWord_free r j)

theorem resultWord_tmax (r : Fin 24) : A.SOL_TMAX < A.SOL_CNT r.val 0 ∧ ∀ j < 4, A.SOL_TMAX ≠ A.SOL_LAST_N r.val + j := by
  revert r
  decide

/-- What the publication of a solved batch leaves (R326, R327). -/
theorem publish_spec (s : State) (r : Fin 24) (b : Batch) :
    (s.publish r b).sol.solving = s.sol.solving ∧ (s.publish r b).rd A.SOL_TMAX = s.rd A.SOL_TMAX ∧
    (s.publish r b).rd (A.SOL_EPOCHCNT r.val) = s.rd (A.SOL_EPOCHCNT r.val) + 1 ∧
    (s.publish r b).rd (A.SOL_LAST_N r.val) = w16 (256 * b.exps.length + b.obs.length) ∧
    (s.publish r b).rd (A.SOL_LAST_M r.val) = w16 (errorsOf (b.expFates (assign b.gate b.exps b.obs))).length ∧
    (s.publish r b).rdQ2 (A.SOL_CNT r.val 2) = (s.rdQ2 (A.SOL_CNT r.val 2) +
      (errorsOf (b.expFates (assign b.gate b.exps b.obs))).length) % 2 ^ 32 := by
  rw [publish_eq]
  extract_lets a es os m k x
  generalize hA : carriedBack s r es os = sA
  have kA : ∀ j, sA.rd (resultWord r j) = s.rd (resultWord r j) := kept_resultWord (hA ▸ carriedBack_forget s r es os) r
  have vA : sA.sol.solving = s.sol.solving := hA ▸ carriedBack_solving s r es os
  obtain ⟨bN, bM, bO⟩ := lastResults_rd sA r b.exps.length b.obs.length (errorsOf es)
  have vB := congrArg Solver.solving (lastResults_sol sA r b.exps.length b.obs.length (errorsOf es))
  generalize sA.lastResults r b.exps.length b.obs.length (errorsOf es) = sB at bN bM bO vB ⊢
  have vC := congrArg Solver.solving (counted_sol sB r m k x)
  have cO := fun {a : Nat} => counted_out sB r m k x (a := a)
  have cM := counted_matches sB r m k x
  generalize counted sB r m k x = sC at vC cO cM ⊢
  obtain ⟨fD, vD⟩ := afterCounts_keeps sC r m k x es os
  have kD := kept_resultWord fD r
  generalize afterCounts sC r m k x es os = sD at fD vD kD ⊢
  have kE : ∀ a, a ≠ A.SOL_EPOCHCNT r.val → ((sD.wrapInc (A.SOL_EPOCHCNT r.val)).pruneMade r).rd a = sD.rd a := by
    intro a ha
    show (sD.wr (A.SOL_EPOCHCNT r.val) _).rd a = _
    rw [rd_wr, if_neg ha]
  have hkeep : ∀ j, j ≠ 0 → ((sD.wrapInc (A.SOL_EPOCHCNT r.val)).pruneMade r).rd (resultWord r j) = sC.rd (resultWord r j) :=
    fun j hj => (kE _ (resultWord_apart r j hj)).trans (kD j)
  have hone : ((sD.wrapInc (A.SOL_EPOCHCNT r.val)).pruneMade r).rd (A.SOL_EPOCHCNT r.val) = sD.rd (A.SOL_EPOCHCNT r.val) + 1 := by
    show (sD.wr (A.SOL_EPOCHCNT r.val) _).rd _ = _
    rw [rd_wr, if_pos rfl]
  refine ⟨vD.trans (vC.trans (vB.trans vA)), ?_, ?_, ?_, ?_, ?_⟩
  · refine (hkeep 5 (by decide)).trans ((cO ?_).trans ((bO _ ?_).trans (kA 5)))
    · exact Or.inl (resultWord_tmax r).1
    · exact (resultWord_tmax r).2
  · rw [hone]
    refine congrArg (· + 1) ((kD 0).trans ((cO ?_).trans ((bO _ ?_).trans (kA 0))))
    · exact Or.inr (by simp only [resultWord]; unfold A.SOL_CNT A.SOL_EPOCHCNT; omega)
    · intro j hj
      simp only [resultWord]
      unfold A.SOL_LAST_N A.SOL_EPOCHCNT
      omega
  · exact (hkeep 1 (by decide)).trans ((cO (Or.inl (by simp only [resultWord]; unfold A.SOL_CNT A.SOL_LAST_N; omega))).trans bN)
  · exact (hkeep 2 (by decide)).trans ((cO (Or.inl (by simp only [resultWord]; unfold A.SOL_CNT A.SOL_LAST_M; omega))).trans bM)
  · have hS : sB.rdQ2 (A.SOL_CNT r.val 2) = s.rdQ2 (A.SOL_CNT r.val 2) := by
      refine rdQ2_of_words ((bO _ ?_).trans (kA 3)) ((bO _ ?_).trans (kA 4))
      · intro j hj
        unfold A.SOL_LAST_N A.SOL_CNT
        omega
      · intro j hj
        unfold A.SOL_LAST_N A.SOL_CNT
        omega
    exact (rdQ2_of_words (hkeep 3 (by decide)) (hkeep 4 (by decide))).trans (cM.trans (by rw [hS]))

/-! ### The clears (R339) -/

section Clears
variable {s : State} {r : Fin 24} (hup : s.up = true) (hears : s.hears = true) (hon : s.solOn = true) (hr : r.val < s.rowCount)
include hup hears hon hr

theorem exec_solClrCounters : exec (.solClrCounters r) s = .next (solClrCounters r s) := by
  change execSolClrCounters r s = _
  rw [execSolClrCounters, whenHost_of_hears hup hears, hon, decide_eq_true hr]
  rfl

theorem exec_solClrWindow : exec (.solClrWindow r) s = .next (solClrWindow r s) := by
  change execSolClrWindow r s = _
  rw [execSolClrWindow, whenHost_of_hears hup hears, hon, decide_eq_true hr]
  rfl

end Clears

theorem solClrCounters_rd (r : Fin 24) (s : State) {k : Nat} (h : k < 8) : (solClrCounters r s).rd (A.SOL_CNT r.val k) = 0 := by
  have hk := rd_wrs_at (List.replicate 8 (0 : Word)) s (A.SOL_CNT r.val 0) k (by simpa using h)
  rw [List.getElem_replicate] at hk
  exact hk

/-- Settles O37: seed edges row by row, the batches of a close, and the publication of a solved batch. -/
theorem dropAssociation : Obligations.DropAssociation := by
  unfold Obligations.DropAssociation
  refine ⟨fun s hon => ⟨fun i level held hears => ⟨fun hno => ?_, fun hl hf ho => ?_⟩, fun hdue => ?_, fun hnot => ?_,
    fun n q b hidle hgo hnt hq hb => ?_, fun n b dur hsol => ⟨?_, ?_⟩, exec_solverStoreCleared hon⟩,
    fun s r hup hears hon hr => ⟨?_, ?_⟩⟩
  · rw [exec_seedEdge hears hon]
    by_cases hlead : s.seedLeads level held = true
    · obtain ⟨hl, hf⟩ := (seedLeads_eq s level held).mp hlead
      have ho : s.seedOpen i = false := by
        rcases hno with h | h | h
        · exact absurd hl h
        · omega
        · exact h
      rw [if_pos hlead, seedEdge, ho]
      rfl
    · rw [if_neg hlead]
  · exact ⟨_, (exec_seedEdge hears hon i level held).trans (by rw [if_pos ((seedLeads_eq s level held).mpr ⟨hl, hf⟩)]),
      seedEdge_spec i ho⟩
  · exact ⟨_, (exec_epochClose hon).trans (by rw [if_pos hdue]), epochClose_spec s⟩
  · rw [exec_epochClose hon, if_neg (by omega)]
  · exact ⟨_, exec_solveStart hon hidle hgo hnt, solveStart_spec hq hb⟩
  · refine ⟨_, (exec_solveDone hon true dur).trans (by rw [solveDone_eq hsol, if_pos rfl]), ?_⟩
    obtain ⟨h1, h2, h3, h4, h5, h6⟩ := publish_spec ((s.wr A.SOL_TMAX (w16 (max (s.rd A.SOL_TMAX).toNat dur.toNat))).modSol
      (fun o => { o with solving := none })) (fin24 n) b
    have hwr : ∀ (a : Nat) (v : Word), a ≠ A.SOL_TMAX → ((s.wr A.SOL_TMAX v).modSol (fun o => { o with solving := none })).rd a
        = s.rd a := fun a v ha => (modSol_rd _ _ _).trans (by rw [rd_wr, if_neg ha])
    refine ⟨h1, ?_, ?_, h4, h5, ?_⟩
    · rw [h2, modSol_rd, rd_wr, if_pos rfl]
    · rw [h3, hwr _ _ (by unfold A.SOL_EPOCHCNT A.SOL_TMAX; omega)]
    · refine h6.trans ?_
      rw [rdQ2_of_words (hwr _ _ (by unfold A.SOL_CNT A.SOL_TMAX; omega)) (hwr _ _ (by unfold A.SOL_CNT A.SOL_TMAX; omega))]
  · refine ⟨_, (exec_solveDone hon false dur).trans (by rw [solveDone_eq hsol, if_neg (by decide)]), ?_⟩
    obtain ⟨h1, h2, h3, h4⟩ := solverFault_spec (s.wr A.SOL_TMAX (w16 (max (s.rd A.SOL_TMAX).toNat dur.toNat))) n
    refine ⟨h1, h2, ?_, h4⟩
    rw [h3, rd_wr, if_neg (by decide)]
  · exact ⟨_, exec_solClrCounters hup hears hon hr, fun k hk => solClrCounters_rd r s hk⟩
  · refine ⟨_, exec_solClrWindow hup hears hon hr, ?_⟩
    unfold solClrWindow
    rw [modRow_get, if_pos rfl]
    exact ⟨rfl, rfl, rfl, rfl, rfl, rfl⟩

end Sys2Proof.Proofs
end

section
/-! SUPPORT. Proofs of event status, records and repeats, freeze, thaw and drain (R341 to R348, R352 to R355). -/
namespace Sys2Proof.Proofs
set_option Elab.async false
open Sys2Proof.Machine Sys2Proof.Safety Sys2Proof.Laws

/-! ### The next due record (R104, R355) -/

theorem sooner_cases (x y : Raised) : sooner x y = x ∨ sooner x y = y := by
  unfold sooner
  split
  · exact Or.inr rfl
  · exact Or.inl rfl

/-- Of those that precede it in its tick, none is left by the choice. -/
theorem foldl_sooner : ∀ (l : List Raised) (x : Raised), (l.foldl sooner x ∈ x :: l) ∧ (l.foldl sooner x).tb = x.tb ∧
    (l.foldl sooner x).place ≤ x.place ∧ ∀ y ∈ l, y.tb = x.tb → (l.foldl sooner x).place ≤ y.place := by
  intro l
  induction l with
  | nil => exact fun x => ⟨List.mem_cons_self, rfl, Nat.le_refl _, fun y hy => nomatch hy⟩
  | cons z zs ih =>
    intro x
    obtain ⟨hmem, htb, hle, hall⟩ := ih (sooner x z)
    have hs : (sooner x z).tb = x.tb ∧ (sooner x z).place ≤ x.place ∧ (z.tb = x.tb → (sooner x z).place ≤ z.place) := by
      unfold sooner
      split
      next h => exact ⟨h.1, Nat.le_of_lt h.2, fun _ => Nat.le_refl _⟩
      next h => exact ⟨rfl, Nat.le_refl _, fun he => Nat.le_of_not_lt fun hlt => h ⟨he, hlt⟩⟩
    obtain ⟨stb, sle, sz⟩ := hs
    refine ⟨?_, htb.trans stb, Nat.le_trans hle sle, fun y hy he => ?_⟩
    · rw [List.foldl_cons]
      rcases List.mem_cons.mp hmem with h | h
      · rcases sooner_cases x z with hx | hz
        · exact List.mem_cons.mpr (Or.inl (h.trans hx))
        · exact List.mem_cons_of_mem _ (List.mem_cons.mpr (Or.inl (h.trans hz)))
      · exact List.mem_cons_of_mem _ (List.mem_cons_of_mem _ h)
    · rcases List.mem_cons.mp hy with rfl | hy
      · exact Nat.le_trans hle (sz he)
      · exact hall y hy (he.trans stb.symm)

theorem nextDue_first {l : List Raised} {x : Raised} (h : nextDue l = some x) :
    x ∈ l ∧ ∀ y ∈ l, y.tb = x.tb → x.place ≤ y.place := by
  cases l with
  | nil => exact nomatch h
  | cons z zs =>
    obtain ⟨hmem, htb, hle, hall⟩ := foldl_sooner zs z
    have hx : zs.foldl sooner z = x := Option.some.inj h
    rw [hx] at hmem htb hle hall
    refine ⟨hmem, fun y hy he => ?_⟩
    rcases List.mem_cons.mp hy with rfl | hy
    · exact hle
    · exact hall y hy (he.trans htb)

/-! ### The hold FIFO leaves slots and sequence numbers alone (R352) -/

/-- What only a written record may change of the recorder. -/
def written (r : Recorder) : List (Nat × Record) × Nat := (r.slots, r.seq)

theorem raise_written (s : State) (e : EvName) (d0 d1 : Word) : written (s.raise e d0 d1).rcd = written s.rcd := by
  rw [raise_rcd]
  rfl

theorem push_written (r : Recorder) (x : Raised) : written (r.push x).1 = written r := by
  unfold Recorder.push
  split
  · split
    · rfl
    · split
      · rfl
      · rfl
  · rfl

theorem fifoIn_written (s : State) (x : Raised) : written (s.fifoIn x).rcd = written s.rcd := by
  unfold State.fifoIn
  split
  next r h => exact (congrArg (fun p : Recorder × Bool => written p.1) h).symm.trans (push_written s.rcd x)
  next r h =>
    dsimp only
    split
    · rfl
    · rfl

theorem jqueue_written (s : State) (x : Raised) (p h : Bool) (q : Word) : written (s.jqueue x p h q).rcd = written s.rcd := by
  unfold State.jqueue
  split
  · rfl
  · dsimp only
    split
    · rw [raise_written]
      rfl
    · rfl

theorem holdRec_written (s : State) (x : Raised) : written (s.holdRec x).rcd = written s.rcd := by
  unfold State.holdRec
  split
  · exact fifoIn_written s x
  · extract_lets prot rep s1
    refine (fifoIn_written s1 _).trans ?_
    unfold s1
    split
    · rfl
    · exact jqueue_written _ _ _ _ _

/-! ### A record that is written (R345, R346, R348) -/

/-- The slots, the partition size and the last records of a recorder say where a record goes. -/
def slotsView (r : Recorder) : List (Nat × Record) × Nat × Option Nat × Option Nat := (r.slots, r.p, r.lastG, r.lastP)

theorem freeSlot_congr {r r' : Recorder} (h : r'.slots = r.slots) : ∀ (n lo : Nat), r'.freeSlot lo n = r.freeSlot lo n := by
  intro n
  induction n with
  | zero => exact fun _ => rfl
  | succ n ih =>
    intro lo
    unfold Recorder.freeSlot
    rw [ih, Recorder.at, Recorder.at, h]

theorem target_congr {r r' : Recorder} (h : slotsView r' = slotsView r) (p : Bool) (v : Sev) : r'.target p v = r.target p v := by
  obtain ⟨hs, hp, _⟩ := Prod.mk.inj h |>.imp id Prod.mk.inj
  unfold Recorder.target
  rw [hs, hp]
  dsimp only
  rw [freeSlot_congr hs]

theorem last_congr {r r' : Recorder} (h : slotsView r' = slotsView r) (p : Bool) : r'.last p = r.last p := by
  obtain ⟨hs, hrest⟩ := Prod.mk.inj h
  obtain ⟨_, hlast⟩ := Prod.mk.inj hrest
  obtain ⟨hg, hpr⟩ := Prod.mk.inj hlast
  unfold Recorder.last Recorder.at
  rw [hs, hg, hpr]

/-- The record that a raising makes. -/
def newRecord (r : Recorder) (x : Raised) (held : Bool) (n lastTb : Nat) : Record :=
  ⟨r.seq, x, toProt r.p x.sev, held, (x.sev.high && x.jq.isNone) || x.jq == some true, satU n,
    if n = 0 then 0 else repTime x.tb lastTb⟩

/-- The recorder with a record put into a slot of a partition. -/
def entered (r : Recorder) (k : Nat) (prot : Bool) (new : Record) : Recorder :=
  { r with
    slots := mapPut r.slots k new
    seq := r.seq + 1
    head1 := if prot then r.head1 + 1 else r.head1
    lastP := if prot then some k else if r.lastP = some k then none else r.lastP
    lastG := if prot then (if r.lastG = some k then none else r.lastG) else some k }

section Write
variable {u : State} {x : Raised} {k : Nat} (held : Bool) (n lastTb : Nat)

theorem writeRec_new (hno : repeats (u.rcd.last (toProt u.rcd.p x.sev)) x = false)
    (ht : u.rcd.target (toProt u.rcd.p x.sev) x.sev = some k) (hroom : x.sev.high = false ∨ u.store.jq.length < 32) :
    (u.writeRec x held n lastTb).rcd = entered u.rcd k (toProt u.rcd.p x.sev) (newRecord u.rcd x held n lastTb) := by
  unfold State.writeRec
  dsimp only
  rw [hno]
  dsimp only
  rw [ht]
  dsimp only
  by_cases hw : (x.sev.high && x.jq.isNone) = true
  · rw [if_pos hw]
    have hlt : u.store.jq.length < 32 := by
      rcases hroom with h | h
      · rw [h] at hw
        exact nomatch hw
      · exact h
    unfold State.jqueue
    exact congrArg State.rcd (if_pos hlt)
  · rw [if_neg hw]
    rfl

theorem writeRec_repeat (h : repeats (u.rcd.last (toProt u.rcd.p x.sev)) x = true)
    (hk : (if toProt u.rcd.p x.sev then u.rcd.lastP else u.rcd.lastG) = some k) :
    (u.writeRec x held n lastTb).rcd = u.rcd.repeatAt k (n + 1) lastTb := by
  unfold State.writeRec
  dsimp only
  rw [h, hk]
  rfl

end Write

theorem repeats_false {y : Option Raised} {x : Raised} (h : ∀ z, y = some z → sameEv z x = false) : repeats y x = false := by
  cases y with
  | none => rfl
  | some z => exact h z rfl

theorem repeatAt_at {r : Recorder} {k : Nat} {y : Record} (h : r.at k = some y) (n tb : Nat) (j : Nat) :
    (r.repeatAt k n tb).at j = if j = k then some { y with rep := satU (y.rep + n), rtime := repTime y.ev.tb tb } else r.at j := by
  unfold Recorder.repeatAt
  rw [h]
  exact mapGet_mapPut _ _ _ _

theorem entered_at (r : Recorder) (k : Nat) (prot : Bool) (new : Record) (j : Nat) :
    (entered r k prot new).at j = if j = k then some new else r.at j := mapGet_mapPut _ _ _ _

/-- The recorder as a due record finds it. -/
def drawn (s : State) (x : Raised) : State :=
  (s.modRcd (fun r => { r with due := r.due.erase x })).modRcd (fun r => { r with wrote := r.wrote + 1 })

section Due
variable {s : State} {x : Raised} (h : nextDue s.rcd.due = some x)
include h

theorem writeDue_held (hv : s.viaFifo = true) : s.writeDue = (s.modRcd (fun r => { r with due := r.due.erase x })).holdRec x := by
  unfold State.writeDue
  rw [h]
  exact if_pos hv

theorem writeDue_made (hv : s.viaFifo = false) : s.writeDue = (drawn s x).writeRec x false 0 x.tb := by
  unfold State.writeDue
  rw [h]
  exact if_neg (by rw [show (s.modRcd (fun r => { r with due := r.due.erase x })).viaFifo = s.viaFifo from rfl, hv]; decide)

end Due

theorem exec_recordWrite {s : State} (hup : s.up = true) : exec .recordWrite s = .next s.writeDue := by
  change execRecordWrite s = _
  rw [execRecordWrite, whenUp_of_up hup]

/-! ### Freeze, thaw and drain (R352 to R354) -/

theorem flushDue_none {s : State} (h : s.rcd.due = []) : s.flushDue = s := by
  have hw : s.writeDue = s := by
    unfold State.writeDue
    rw [h]
    rfl
  unfold State.flushDue
  rw [h]
  show s.writeDue.writeDue = s
  rw [hw, hw]

theorem drainDone_waits {s : State} (h : s.rcd.fifo ≠ []) : s.drainDone = s := by
  refine if_pos ?_
  cases hf : s.rcd.fifo with
  | nil => exact absurd hf h
  | cons e es => simp

/-- With the FIFO empty and no freeze, a freeze that has ended is reported (R353). -/
theorem drainDone_ends {s : State} {c : ThawCause} (hfz : s.rcd.frozen = false) (hf : s.rcd.fifo = [])
    (hc : s.rcd.thaw = some c) : ∃ u : State, (s.rcd.ovf = true → eventBit u evREC_HOLDOVF = true) ∧
    slotsView u.rcd = slotsView s.rcd ∧ u.rcd.frozen = false ∧ u.rcd.freezePend = s.rcd.freezePend ∧ u.rcd.fifo = [] ∧
    s.drainDone = (u.modRcd (fun r => { r with draining := false, thaw := none, drained := 0 })).raise evREC_THAW (w16 c.code)
      (w16 u.rcd.drained) := by
  unfold State.drainDone
  rw [if_neg (by rw [hfz, hf]; decide)]
  extract_lets s1
  have h1 : slotsView s1.rcd = slotsView s.rcd ∧ s1.rcd.frozen = false ∧ s1.rcd.freezePend = s.rcd.freezePend ∧
      s1.rcd.fifo = [] ∧ s1.rcd.thaw = some c := by
    unfold s1
    split
    · rw [raise_rcd]
      exact ⟨rfl, hfz, rfl, hf, hc⟩
    · exact ⟨rfl, hfz, rfl, hf, hc⟩
  obtain ⟨hv, hfr, hpend, hfifo, hthaw⟩ := h1
  refine ⟨s1, fun ho => ?_, hv, hfr, hpend, hfifo, ?_⟩
  · unfold s1
    rw [if_pos ho]
    exact raise_self _ _ _ _
  · rw [hthaw]

/-- The recorder out of its freeze, its FIFO still to be drained (R353). -/
def thawing (s : State) (c : ThawCause) : State := s.modRcd (fun r =>
  { r with freezePend := false, frozen := false, draining := true, thaw := some c, drained := 0 })

/-- A thaw of a frozen recorder to which no record is due. -/
theorem thaw_frozen {s : State} (hfz : s.rcd.frozen = true) (hdue : s.rcd.due = []) (c : ThawCause) : s.thaw c = (thawing s c).drainDone := by
  unfold State.thaw
  dsimp only
  rw [if_pos (show (s.modRcd (fun r => { r with freezePend := false })).rcd.frozen = true from hfz), flushDue_none (s := s.modRcd (fun r => { r with freezePend := false })) hdue]
  rfl

theorem thaw_free {s : State} (hfz : s.rcd.frozen = false) (c : ThawCause) :
    s.thaw c = s.modRcd (fun r => { r with freezePend := false }) :=
  if_neg (by rw [show (s.modRcd (fun r => { r with freezePend := false })).rcd.frozen = s.rcd.frozen from rfl, hfz]; decide)

/-- What the end of a freeze leaves. -/
theorem thaw_spec {s : State} (hfz : s.rcd.frozen = true) (hdue : s.rcd.due = []) (c : ThawCause) :
    (s.thaw c).rcd.frozen = false ∧ (s.thaw c).rcd.freezePend = false ∧
    (s.rcd.fifo ≠ [] → (s.thaw c).rcd.draining = true ∧ (s.thaw c).rcd.thaw = some c ∧ (s.thaw c).rcd.fifo = s.rcd.fifo) ∧
    (s.rcd.fifo = [] → (s.thaw c).rcd.draining = false ∧ eventBit (s.thaw c) evREC_THAW = true) := by
  rw [thaw_frozen hfz hdue]
  by_cases hf : s.rcd.fifo = []
  · obtain ⟨u, _, _, hfr, hpend, _, heq⟩ := drainDone_ends
      (s := thawing s c)
      rfl hf rfl
    rw [heq]
    refine ⟨?_, ?_, fun h => absurd hf h, fun _ => ⟨?_, raise_self _ _ _ _⟩⟩
    · rw [raise_rcd]
      exact hfr
    · rw [raise_rcd]
      exact hpend
    · rw [raise_rcd]
      rfl
  · rw [drainDone_waits (s := thawing s c) hf]
    exact ⟨rfl, rfl, fun _ => ⟨rfl, rfl, rfl⟩, fun h => absurd h hf⟩

section Host
variable {s : State} (hup : s.up = true) (hears : s.hears = true)
include hup hears

theorem exec_evtStatClear (g : Fin 8) (d : Word) : exec (.evtStatClear g d) s = .next (s.clrFlags (A.EVT_STAT g.val) d) := by
  change execEvtStatClear g d s = _
  rw [execEvtStatClear, whenHost_of_hears hup hears]
  rfl

theorem exec_recClr : exec .recClr s = .next (recClr s) := by
  change execRecClr s = _
  rw [execRecClr, whenHost_of_hears hup hears]

theorem exec_recorderFreeze : exec .recorderFreeze s = .next (recFreeze s) := by
  change execRecorderFreeze s = _
  rw [execRecorderFreeze, whenHost_of_hears hup hears]

theorem exec_recorderThaw : exec .recorderThaw s = .next (s.thaw .host) := by
  change execRecorderThaw s = _
  rw [execRecorderThaw, whenHost_of_hears hup hears]

end Host

theorem exec_freezeTimeout {s : State} (hup : s.up = true) (hfz : s.rcd.frozen = true) : exec .freezeTimeout s =
    .next (if 100000 ≤ s.clk.ticks - s.rcd.frozeAt then s.thaw .timeout else s) := by
  change execFreezeTimeout s = _
  rw [execFreezeTimeout, whenUp_of_up hup, hfz]
  simp

theorem exec_holdFifoDrain {s : State} (hup : s.up = true) : exec .holdFifoDrain s = .next s.drain := by
  change execHoldFifoDrain s = _
  rw [execHoldFifoDrain, whenUp_of_up hup]

/-- The recorder as an entry of the FIFO finds it. -/
def drawnHeld (s : State) (rest : List HoldEntry) : State :=
  s.modRcd (fun r => { r with fifo := rest, wrote := r.wrote + 1, drained := r.drained + 1 })

theorem drain_one {s : State} {e : HoldEntry} (hfz : s.rcd.frozen = false) (hf : s.rcd.fifo = [e]) (hw : s.rcd.wrote < 64) :
    s.drain = ((drawnHeld s []).writeRec e.ev true e.rep e.lastTb).drainDone := by
  have hn : min s.rcd.fifo.length (64 - s.rcd.wrote) = 1 := by
    rw [hf, List.length_singleton]
    omega
  have hone : s.drainOne = (drawnHeld s []).writeRec e.ev true e.rep e.lastTb := by
    unfold State.drainOne
    rw [hf]
    rfl
  unfold State.drain
  rw [if_neg (by rw [hfz]; decide), if_neg (by rw [hf]; simp), hn, ← hone]
  rfl

theorem recClr_at {s : State} (hdue : s.rcd.due = []) (n : Nat) :
    (recClr s).rcd.at n = if n < s.rcd.p then s.rcd.at n else none := by
  unfold recClr
  rw [flushDue_none hdue]
  show mapGet (s.rcd.slots.filter (fun q => q.1 < s.rcd.p)) n = _
  by_cases h : n < s.rcd.p
  · rw [if_pos h]
    exact mapGet_filter _ _ _ (fun _ => decide_eq_true h)
  · rw [if_neg h]
    exact mapGet_filter_out _ _ _ (fun _ => decide_eq_false h)

theorem recClr_seq {s : State} (hdue : s.rcd.due = []) : (recClr s).rcd.seq = s.rcd.seq := by
  unfold recClr
  rw [flushDue_none hdue]
  rfl

/-- R345, R347: a due record that is new to its partition goes to the slot it may take, with the next sequence number. -/
theorem recordWrite_newRecord {s : State} {x : Raised} {k : Nat} (hup : s.up = true) (hnext : nextDue s.rcd.due = some x)
    (hv : s.viaFifo = false) (hno : ∀ y, s.rcd.last (toProt s.rcd.p x.sev) = some y → sameEv y x = false)
    (ht : s.rcd.target (toProt s.rcd.p x.sev) x.sev = some k) (hroom : x.sev.high = false ∨ s.store.jq.length < 32) :
    ∃ t, exec .recordWrite s = .next t ∧ t.rcd.due = s.rcd.due.erase x ∧ t.rcd.seq = s.rcd.seq + 1 ∧
      (∀ n, n ≠ k → t.rcd.at n = s.rcd.at n) ∧
      ∃ r, t.rcd.at k = some r ∧ r.ev = x ∧ r.seq = s.rcd.seq ∧ r.held = false ∧ r.rep = 0 ∧
        r.prot = toProt s.rcd.p x.sev := by
  refine ⟨_, exec_recordWrite hup, ?_⟩
  have hview : slotsView (drawn s x).rcd = slotsView s.rcd := rfl
  have hno' : repeats ((drawn s x).rcd.last (toProt (drawn s x).rcd.p x.sev)) x = false := by
    rw [last_congr hview]
    exact repeats_false hno
  have ht' : (drawn s x).rcd.target (toProt (drawn s x).rcd.p x.sev) x.sev = some k := (target_congr hview _ _).trans ht
  rw [writeDue_made hnext hv, writeRec_new false 0 x.tb hno' ht' hroom]
  refine ⟨rfl, rfl, fun n hn => ?_, newRecord (drawn s x).rcd x false 0 x.tb, ?_, rfl, rfl, rfl, rfl, rfl⟩
  · rw [entered_at, if_neg hn]
    rfl
  · rw [entered_at, if_pos rfl]

/-- R348: a due record that its partition's last record already tells counts as a repeat of it. -/
theorem recordWrite_repeats {s : State} {x : Raised} {k : Nat} {y : Record} (hup : s.up = true)
    (hnext : nextDue s.rcd.due = some x) (hv : s.viaFifo = false)
    (hlast : (if toProt s.rcd.p x.sev then s.rcd.lastP else s.rcd.lastG) = some k) (hat : s.rcd.at k = some y)
    (hsame : sameEv y.ev x = true) :
    ∃ t, exec .recordWrite s = .next t ∧ t.rcd.due = s.rcd.due.erase x ∧ t.rcd.seq = s.rcd.seq ∧
      (t.rcd.at k).map (·.rep) = some (satU (y.rep + 1)) ∧
      (t.rcd.at k).map (·.rtime) = some (repTime y.ev.tb x.tb) ∧ ∀ n, n ≠ k → t.rcd.at n = s.rcd.at n := by
  refine ⟨_, exec_recordWrite hup, ?_⟩
  have hview : slotsView (drawn s x).rcd = slotsView s.rcd := rfl
  have hrep : repeats ((drawn s x).rcd.last (toProt (drawn s x).rcd.p x.sev)) x = true := by
    rw [last_congr hview, show (drawn s x).rcd.p = s.rcd.p from rfl, Recorder.last, hlast]
    dsimp only
    rw [hat]
    exact hsame
  have hat' : (drawn s x).rcd.at k = some y := hat
  rw [writeDue_made hnext hv, writeRec_repeat false 0 x.tb hrep hlast]
  refine ⟨?_, ?_, ?_, ?_, fun n hn => ?_⟩
  · unfold Recorder.repeatAt
    rw [hat']
    rfl
  · unfold Recorder.repeatAt
    rw [hat']
    rfl
  · rw [repeatAt_at hat', if_pos rfl]
    rfl
  · rw [repeatAt_at hat', if_pos rfl]
    rfl
  · rw [repeatAt_at hat', if_neg hn]
    rfl

/-- R353, R354: the drain of the last held entry writes it with `held`, empties the FIFO and reports the thaw. -/
theorem holdFifoDrain_lastEntry {s : State} {e : HoldEntry} {c : ThawCause} {k : Nat} (hup : s.up = true)
    (hfz : s.rcd.frozen = false) (hf : s.rcd.fifo = [e]) (hc : s.rcd.thaw = some c) (hw : s.rcd.wrote < 64)
    (hlow : e.ev.sev.high = false)
    (hno : ∀ y, s.rcd.last (toProt s.rcd.p e.ev.sev) = some y → sameEv y e.ev = false)
    (ht : s.rcd.target (toProt s.rcd.p e.ev.sev) e.ev.sev = some k) :
    ∃ t, exec .holdFifoDrain s = .next t ∧ t.rcd.fifo = [] ∧ t.rcd.draining = false ∧ eventBit t evREC_THAW = true ∧
      (s.rcd.ovf = true → eventBit t evREC_HOLDOVF = true) ∧
      ∃ r, t.rcd.at k = some r ∧ r.ev = e.ev ∧ r.held = true ∧ r.rep = satU e.rep := by
  refine ⟨_, exec_holdFifoDrain hup, ?_⟩
  have hview : slotsView (drawnHeld s []).rcd = slotsView s.rcd := rfl
  have hno' : repeats ((drawnHeld s []).rcd.last (toProt (drawnHeld s []).rcd.p e.ev.sev)) e.ev = false := by
    rw [last_congr hview]
    exact repeats_false hno
  have ht' : (drawnHeld s []).rcd.target (toProt (drawnHeld s []).rcd.p e.ev.sev) e.ev.sev = some k :=
    (target_congr hview _ _).trans ht
  have hrcd := writeRec_new true e.rep e.lastTb hno' ht' (Or.inl hlow)
  rw [drain_one hfz hf hw]
  generalize (drawnHeld s []).writeRec e.ev true e.rep e.lastTb = u at hrcd ⊢
  obtain ⟨v, hovf, hslots, hfr, _, hfifo, heq⟩ := drainDone_ends (s := u) (c := c) (by rw [hrcd]; exact hfz)
    (by rw [hrcd]; rfl) (by rw [hrcd]; exact hc)
  rw [heq]
  refine ⟨?_, ?_, raise_self _ _ _ _, fun ho => raise_mono _ _ _ _ _ (hovf ?_),
    newRecord (drawnHeld s []).rcd e.ev true e.rep e.lastTb, ?_, rfl, rfl, rfl⟩
  · rw [raise_rcd]
    exact hfifo
  · rw [raise_rcd]
    rfl
  · rw [hrcd]
    exact ho
  · rw [raise_rcd]
    show v.rcd.at k = _
    unfold Recorder.at
    rw [show v.rcd.slots = u.rcd.slots from congrArg Prod.fst hslots, hrcd]
    exact (entered_at _ _ _ _ _).trans (if_pos rfl)

/-- Settles O38: the choice among due records, the record written or repeated, and the end of a freeze. -/
theorem eventRecorder : Obligations.EventRecorder := by
  unfold Obligations.EventRecorder
  refine ⟨⟨fun s g d hup hears => ⟨_, exec_evtStatClear hup hears g d, fun i hi => ?_, fun a ha => ?_⟩,
    fun s x hup hnext => ⟨nextDue_first hnext, fun hv => ?_, fun k hv hno ht hroom => ?_, fun k y hv hlast hat hsame => ?_⟩,
    fun s hup hears hdue => ⟨_, exec_recClr hup hears, fun n hn => ?_, fun n hn => ?_, recClr_seq hdue⟩⟩,
    fun s hup hears => ⟨fun hfz => ?_, fun hfz => ?_, fun hfz => ?_, fun hfz hdue => ?_⟩,
    fun s hup hfz => ⟨fun hlt => ?_, fun hge hdue => ?_, ?_⟩,
    fun s e c k hup hfz hf hc hw hlow hno ht => ?_⟩
  · rw [clrFlags_bit _ _ _ hi]
    cases bit d i <;> simp
  · show (s.wr (A.EVT_STAT g.val) _).rd a = _
    rw [rd_wr, if_neg ha]
  · refine ⟨_, exec_recordWrite hup, ?_⟩
    rw [writeDue_held hnext hv]
    exact Prod.mk.inj (holdRec_written _ x)
  · exact recordWrite_newRecord hup hnext hv hno ht hroom
  · exact recordWrite_repeats hup hnext hv hlast hat hsame
  · rw [recClr_at hdue, if_neg (by omega)]
  · rw [recClr_at hdue, if_pos hn]
  · rw [exec_recorderFreeze hup hears, recFreeze, hfz]
    rfl
  · rw [exec_recorderFreeze hup hears, recFreeze, if_pos hfz]
  · rw [exec_recorderThaw hup hears, thaw_free hfz]
  · exact ⟨_, exec_recorderThaw hup hears, thaw_spec hfz hdue .host⟩
  · rw [exec_freezeTimeout hup hfz, if_neg (by omega)]
  · refine ⟨_, (exec_freezeTimeout hup hfz).trans (by rw [if_pos hge]), ?_⟩
    obtain ⟨h1, _, h3, h4⟩ := thaw_spec hfz hdue .timeout
    exact ⟨h1, fun h => (h4 h).2, fun h => (h3 h).2.1⟩
  · rw [exec_holdFifoDrain hup, State.drain, if_pos hfz]
  · exact holdFifoDrain_lastEntry hup hfz hf hc hw hlow hno ht

end Sys2Proof.Proofs
end

section
/-! SUPPORT. Proofs of the energy estimate, the supervision of VIO and the switched domains (R367 to R370, R379 to R384). -/
namespace Sys2Proof.Proofs
set_option Elab.async false
open Sys2Proof.Machine Sys2Proof.Safety Sys2Proof.Laws

/-! ### The estimate of every 1 ms (R379 to R381) -/

theorem satU_lt (n : Nat) : satU n < 65536 := by
  unfold satU
  omega

theorem energy_lt (s : State) (v : Nat) : s.energy v < 65536 := by
  unfold State.energy
  dsimp only
  split
  · split
    · omega
    · omega
  · split
    · exact satU_lt _
    · omega

/-- The state with the measurements stored. -/
def estimated (vmain vbak vio : Word) (s : State) : State := (s.measured vmain vbak).wr A.PWR_VIO vio

theorem estimated_out (vmain vbak vio : Word) (s : State) {a : Nat} (h1 : a ≠ A.PWR_VMAIN) (h2 : a ≠ A.PWR_VBAK)
    (h3 : a ≠ A.PWR_ESTORED) (h4 : a ≠ A.PWR_VIO) : (estimated vmain vbak vio s).rd a = s.rd a := by
  unfold estimated State.measured
  rw [rd_wr, if_neg h4, rd_wr, if_neg h3, rd_wr, if_neg h2, rd_wr, if_neg h1]

theorem measured_stored (vmain vbak : Word) (s : State) :
    (s.measured vmain vbak).rd A.PWR_VMAIN = vmain ∧ (s.measured vmain vbak).rd A.PWR_VBAK = vbak ∧
    (s.measured vmain vbak).rd A.PWR_ESTORED = w16 (s.energy vbak.toNat) := by
  unfold State.measured
  refine ⟨?_, ?_, ?_⟩
  · rw [rd_wr, if_neg (by decide), rd_wr, if_neg (by decide), rd_wr, if_pos rfl]
  · rw [rd_wr, if_neg (by decide), rd_wr, if_pos rfl]
  · rw [rd_wr, if_pos rfl]

theorem estimated_stored (vmain vbak vio : Word) (s : State) :
    (estimated vmain vbak vio s).rd A.PWR_VMAIN = vmain ∧ (estimated vmain vbak vio s).rd A.PWR_VBAK = vbak ∧
    (estimated vmain vbak vio s).rd A.PWR_VIO = vio ∧
    (estimated vmain vbak vio s).rd A.PWR_ESTORED = w16 (s.energy vbak.toNat) := by
  obtain ⟨h1, h2, h3⟩ := measured_stored vmain vbak s
  unfold estimated
  refine ⟨?_, ?_, ?_, ?_⟩
  · rw [rd_wr, if_neg (by decide), h1]
  · rw [rd_wr, if_neg (by decide), h2]
  · rw [rd_wr, if_pos rfl]
  · rw [rd_wr, if_neg (by decide), h3]

theorem ereq_congr {s t : State} (hm : t.rd A.PWR_EMARGIN = s.rd A.PWR_EMARGIN) (hs : t.store = s.store) : t.ereq = s.ereq := by
  unfold State.ereq State.ejq
  rw [hm, hs]

/-- What the estimate's judgements may change. -/
def judging : Parts := raising { pwr := true }

theorem judgeEnergy_only (s : State) : Only judging s s.judgeEnergy :=
  only_of_forget (judgeEnergy_forget _ s (mayRaise_raising _) rfl)

theorem judgeVbak_only (s : State) (v : Nat) : Only judging s (s.judgeVbak v) :=
  only_of_forget (judgeVbak_forget _ s v (mayRaise_raising _) rfl)

theorem retryGate_only (s : State) : Only { store := true, mem := true } s s.retryGate :=
  only_of_forget (retryGate_forget _ s rfl rfl)

theorem judgeEnergy_pwr (s : State) : ∃ low, s.judgeEnergy.pwr = { s.pwr with hlow := low } := by
  unfold State.judgeEnergy
  extract_lets e low fell s1
  split
  · exact ⟨low, by rw [raise_pwr]; rfl⟩
  · exact ⟨low, rfl⟩

theorem judgeEnergy_low {s : State} (hst : s.pwr.st = .main) (hh : s.pwr.hlow = false)
    (hlow : (s.rd A.PWR_ESTORED).toNat < s.ereq) : eventBit s.judgeEnergy evHOLDUP_LOW = true := by
  unfold State.judgeEnergy
  extract_lets e low fell s1
  have hf : fell = true := by
    unfold fell low
    rw [hst, hh, decide_eq_true hlow]
    rfl
  rw [if_pos hf]
  exact raise_self _ _ _ _

theorem judgeVbak_pwr (s : State) (v : Nat) : (s.judgeVbak v).pwr.st = s.pwr.st ∧ (s.judgeVbak v).pwr.charger = s.pwr.charger := by
  unfold State.judgeVbak
  extract_lets thr low fires s1
  split
  · rw [raise_pwr]
    exact ⟨rfl, rfl⟩
  · exact ⟨rfl, rfl⟩

theorem judgeVbak_low {s : State} {v : Nat} (hst : s.pwr.st = .main) (ha : s.pwr.vbakArm = true)
    (hlow : v < (s.rd A.PWR_VBAKLOW).toNat) : eventBit (s.judgeVbak v) evVBAK_LOW = true := by
  unfold State.judgeVbak
  extract_lets thr low fires s1
  have hf : fires = true := by
    unfold fires low thr
    rw [hst, ha, decide_eq_true hlow]
    rfl
  rw [if_pos hf]
  exact raise_self _ _ _ _

theorem judgeVbak_mono {s : State} {v : Nat} {e : EvName} (h : eventBit s e = true) : eventBit (s.judgeVbak v) e = true := by
  unfold State.judgeVbak
  extract_lets thr low fires s1
  split
  · exact raise_mono _ _ _ _ _ h
  · exact h

/-- The charger after its judgement (R381). -/
def charges (s : State) (v : Nat) : Bool :=
  (s.pwr.st == .main && !bit (s.rd A.PWR_CFG) 15 && field (s.rd A.PWR_ICHG) 4 0 != 0) &&
    (if v + 5 < (s.rd A.PWR_VCHG).toNat then true else if (s.rd A.PWR_VCHG).toNat ≤ v then false else s.pwr.charger)

theorem judgeCharger_eq (s : State) (v : Nat) : s.judgeCharger v = s.modPwr (fun p => { p with charger := charges s v }) := rfl

theorem charges_spec (s : State) (v : Nat) :
    (s.pwr.st = .main → bit (s.rd A.PWR_CFG) 15 = false → field (s.rd A.PWR_ICHG) 4 0 ≠ 0 →
      (v + 5 < (s.rd A.PWR_VCHG).toNat → charges s v = true) ∧ ((s.rd A.PWR_VCHG).toNat ≤ v → charges s v = false)) ∧
    (s.pwr.st ≠ .main ∨ bit (s.rd A.PWR_CFG) 15 = true ∨ field (s.rd A.PWR_ICHG) 4 0 = 0 → charges s v = false) := by
  unfold charges
  refine ⟨fun hst hc hi => ⟨fun hv => ?_, fun hv => ?_⟩, fun h => ?_⟩
  · rw [hst, hc, if_pos hv]
    simpa using hi
  · rw [if_neg (by omega), if_pos hv, Bool.and_false]
  · rcases h with h | h | h
    · simp [h]
    · simp [h]
    · simp [h]

theorem charges_congr {s t : State} {v : Nat} (hst : t.pwr.st = s.pwr.st) (hch : t.pwr.charger = s.pwr.charger)
    (hc : t.rd A.PWR_CFG = s.rd A.PWR_CFG) (hi : t.rd A.PWR_ICHG = s.rd A.PWR_ICHG) (hv : t.rd A.PWR_VCHG = s.rd A.PWR_VCHG) :
    charges t v = charges s v := by
  unfold charges
  rw [hst, hch, hc, hi, hv]

/-- The words that the judgements leave: every one but the event status. -/
theorem energyEstimate_rd (vmain vbak vio : Word) (s : State) {a : Nat} (h : judging.covers a = false) :
    (energyEstimate vmain vbak vio s).rd a = (estimated vmain vbak vio s).rd a :=
  ((retryGate_only _).regs a rfl).trans (((judgeVbak_only _ _).regs a h).trans ((judgeEnergy_only _).regs a h))

theorem energyEstimate_spec (vmain vbak vio : Word) (s : State) :
    (energyEstimate vmain vbak vio s).rd A.PWR_VMAIN = vmain ∧ (energyEstimate vmain vbak vio s).rd A.PWR_VBAK = vbak ∧
    (energyEstimate vmain vbak vio s).rd A.PWR_VIO = vio ∧
    (energyEstimate vmain vbak vio s).rd A.PWR_ESTORED = w16 (s.energy vbak.toNat) ∧
    (s.pwr.st = .main → s.pwr.hlow = false → s.energy vbak.toNat < s.ereq →
      eventBit (energyEstimate vmain vbak vio s) evHOLDUP_LOW = true) ∧
    (s.pwr.st = .main → s.pwr.vbakArm = true → vbak.toNat < (s.rd A.PWR_VBAKLOW).toNat →
      eventBit (energyEstimate vmain vbak vio s) evVBAK_LOW = true) ∧
    (energyEstimate vmain vbak vio s).pwr.charger = charges s vbak.toNat := by
  obtain ⟨h1, h2, h3, h4⟩ := estimated_stored vmain vbak vio s
  have hev : ∀ e, eventBit ((estimated vmain vbak vio s).judgeEnergy.judgeVbak vbak.toNat) e = true →
      eventBit (energyEstimate vmain vbak vio s) e = true := by
    intro e he
    unfold eventBit at he ⊢
    rw [show (energyEstimate vmain vbak vio s).rd (A.EVT_STAT (e.src / 16)) = _ from (retryGate_only _).regs _ rfl]
    exact he
  have hjudge : ∀ a, judging.covers a = false → (estimated vmain vbak vio s).judgeEnergy.rd a =
      (estimated vmain vbak vio s).rd a := fun a => (judgeEnergy_only _).regs a
  obtain ⟨low, hpwr⟩ := judgeEnergy_pwr (estimated vmain vbak vio s)
  have hpwr' : (estimated vmain vbak vio s).judgeEnergy.pwr = { s.pwr with hlow := low } := hpwr
  refine ⟨?_, ?_, ?_, ?_, fun hst hh hlt => hev _ (judgeVbak_mono ?_), fun hst ha hlt => hev _ (judgeVbak_low ?_ ?_ ?_), ?_⟩
  · rw [energyEstimate_rd _ _ _ _ (by decide +kernel), h1]
  · rw [energyEstimate_rd _ _ _ _ (by decide +kernel), h2]
  · rw [energyEstimate_rd _ _ _ _ (by decide +kernel), h3]
  · rw [energyEstimate_rd _ _ _ _ (by decide +kernel), h4]
  · have hreq : (estimated vmain vbak vio s).ereq = s.ereq :=
      ereq_congr (estimated_out _ _ _ _ (by decide) (by decide) (by decide) (by decide)) rfl
    refine judgeEnergy_low hst hh ?_
    rw [h4, hreq, w16, BitVec.toNat_ofNat, Nat.mod_eq_of_lt (energy_lt s _)]
    exact hlt
  · rw [hpwr']
    exact hst
  · rw [hpwr']
    exact ha
  · rw [hjudge _ (by decide +kernel), estimated_out _ _ _ _ (by decide) (by decide) (by decide) (by decide)]
    exact hlt
  · have hwords : ∀ a, judging.covers a = false → a ≠ A.PWR_VMAIN → a ≠ A.PWR_VBAK → a ≠ A.PWR_ESTORED → a ≠ A.PWR_VIO →
        ((estimated vmain vbak vio s).judgeEnergy.judgeVbak vbak.toNat).rd a = s.rd a := fun a hc n1 n2 n3 n4 =>
      ((judgeVbak_only _ _).regs a hc).trans ((hjudge a hc).trans (estimated_out _ _ _ _ n1 n2 n3 n4))
    obtain ⟨hst, hch⟩ := judgeVbak_pwr (estimated vmain vbak vio s).judgeEnergy vbak.toNat
    rw [hpwr'] at hst hch
    refine (congrArg Pwr.charger ((retryGate_only _).pwr rfl)).trans ?_
    exact charges_congr hst hch (hwords _ (by decide +kernel) (by decide) (by decide) (by decide) (by decide))
      (hwords _ (by decide +kernel) (by decide) (by decide) (by decide) (by decide))
      (hwords _ (by decide +kernel) (by decide) (by decide) (by decide) (by decide))

/-! ### VIO (R384) -/

/-- Everything but the supplies. -/
def besidesPwr : Parts := recording { everything with lands := true, mem := true, pwr := false }

theorem besidesPwr_raises : MayRaise besidesPwr := (mayRecord_recording _).queue.raises

theorem besidesPwr_all (b : Blk) : b ∈ besidesPwr.blks := mem_allBlocks b

theorem besidesPwr_has (r : Reg) : besidesPwr.Has r := has_all besidesPwr_all r

theorem deviceWide_pwr (s : State) (t cause detail : Nat) : (s.deviceWide t cause detail).pwr = s.pwr :=
  (only_of_forget (deviceWide_forget besidesPwr s t cause detail besidesPwr_raises rfl rfl rfl rfl rfl rfl rfl
    (besidesPwr_has _) (besidesPwr_has _) (besidesPwr_has _) (besidesPwr_has _) (besidesPwr_has _))).pwr rfl

/-- The state that notes the loss of VIO. -/
def vioLost (vio : Word) (s : State) : State := (s.modPwr (fun p => { p with vioOk := false })).wr A.PWR_VIO vio

theorem vioUv_eq {s : State} (hok : s.pwr.vioOk = true) (hup : s.up = true) (t : Nat) (vio : Word) :
    vioUv t vio s = (vioLost vio s).deviceWide t causeVIO vio.toNat := by
  unfold vioUv
  rw [if_pos hok]
  exact whenUp_of_up (s := vioLost vio s) hup _

/-! ### Domains that go off (R45, R369) -/

theorem pwr_of {s t : State} (h : forget besidesPwr t = forget besidesPwr s) : t.pwr = s.pwr := (only_of_forget h).pwr rfl

/-- The end of an operation that uses the bank leaves the supplies alone. -/
theorem bankCuts_pwr (s : State) (b : Fin 8) : (((s.cutShuntCal b).cutDlineCal b).cutSelfTest b).pwr = s.pwr :=
  (pwr_of (cutSelfTest_forget _ _ b besidesPwr_raises rfl rfl)).trans ((pwr_of (cutDlineCal_forget _ _ b besidesPwr_raises rfl rfl
    rfl)).trans (pwr_of (cutShuntCal_forget _ s b besidesPwr_raises rfl)))

/-- The bank's domain off, with its timers, its converters and its chopper. -/
def bankDark (s : State) (b : Fin 8) : State :=
  ((s.modPwr (fun p => { p with on := p.on &&& ~~~ domBit b.val })).stopBank b).modBank b (fun k =>
    { k with conv := Vector.replicate 3 Conv.reset, chop := k.chop && k.hold.isSome })

theorem bankDark_pwr (s : State) (b : Fin 8) : (bankDark s b).pwr = { s.pwr with on := s.pwr.on &&& ~~~ domBit b.val } :=
  pwr_of (stopBank_forget besidesPwr (s.modPwr (fun p => { p with on := p.on &&& ~~~ domBit b.val })) b rfl)

/-- A bank disarmed and in pin float, its operations ended. -/
def bankQuiet (s : State) (t : Nat) (b : Fin 8) : State :=
  ((((s.disarm t b 5 .disarm).floatFirst t b).cutShuntCal b).cutDlineCal b).cutSelfTest b

theorem bankQuiet_pwr (s : State) (t : Nat) (b : Fin 8) : (bankQuiet s t b).pwr = s.pwr :=
  (bankCuts_pwr _ b).trans
    ((pwr_of (floatFirst_forget _ _ t b besidesPwr_raises rfl rfl rfl (besidesPwr_has _) (besidesPwr_has _))).trans
      (pwr_of (disarm_forget _ s t b 5 .disarm besidesPwr_raises rfl rfl rfl rfl rfl (besidesPwr_has _) (besidesPwr_has _))))

theorem bankOff_eq (s : State) (t : Nat) (b : Fin 8) :
    s.bankOff t b = ((bankDark (bankQuiet s t b) b).refloat t b).gateCheck t b := rfl

theorem bankOff_pwr (s : State) (t : Nat) (b : Fin 8) :
    (s.bankOff t b).pwr = { s.pwr with on := s.pwr.on &&& ~~~ domBit b.val } := by
  rw [bankOff_eq]
  refine (pwr_of (gateCheck_forget besidesPwr _ t b rfl)).trans ((pwr_of (refloat_forget besidesPwr _ t b besidesPwr_raises rfl rfl
    rfl (besidesPwr_has _) (besidesPwr_has _))).trans ((bankDark_pwr _ b).trans ?_))
  rw [bankQuiet_pwr]

/-- A domain that goes off clears its bit and nothing else of the supplies. -/
theorem domOff_pwr (s : State) (t d : Nat) : (s.domOff t d).pwr = { s.pwr with on := s.pwr.on &&& ~~~ domBit d } := by
  unfold State.domOff
  split
  · exact bankOff_pwr s t _
  · extract_lets s1
    split
    · exact pwr_of (clearQueue_forget besidesPwr s1 rfl)
    · split
      · exact pwr_of (cutSolverTest_forget besidesPwr s1 besidesPwr_raises rfl rfl)
      · split
        · exact pwr_of (linkOff_forget besidesPwr s1 besidesPwr_raises rfl)
        · rfl

theorem domOff_dom (s : State) (t d e : Nat) : (s.domOff t d).dom e = (s.dom e && !(domBit d).getLsbD e) := by
  unfold State.dom
  rw [domOff_pwr]
  show (s.pwr.on &&& ~~~ domBit d).getLsbD e = _
  by_cases he : e < 12
  · simp [he]
  · simp [BitVec.getLsbD_of_ge _ _ (Nat.le_of_not_lt he)]

theorem domOff_self (s : State) (t : Nat) {d : Nat} (h : d < 12) : (s.domOff t d).dom d = false := by
  rw [domOff_dom, domBit, BitVec.getLsbD_twoPow]
  simp [h]

theorem domOff_stays {s : State} {t d e : Nat} (h : s.dom e = false) : (s.domOff t d).dom e = false := by
  rw [domOff_dom, h, Bool.false_and]

/-- A series of domains that go off. -/
def offStep (t : Nat) (s : State) (d : Nat) : State := s.domOff t d

theorem each_off_stays {t e : Nat} : ∀ (l : List Nat) {s : State}, s.dom e = false → (s.each l (offStep t)).dom e = false := by
  intro l
  induction l with
  | nil => exact fun h => h
  | cons d ds ih => exact fun {s} h => ih (s := s.domOff t d) (domOff_stays h)

theorem each_off_mem {t e : Nat} (he : e < 12) : ∀ {l : List Nat} {s : State}, e ∈ l → (s.each l (offStep t)).dom e = false := by
  intro l
  induction l with
  | nil => exact fun h => nomatch h
  | cons d ds ih =>
    intro s h
    rcases List.mem_cons.mp h with rfl | h
    · exact each_off_stays ds (s := s.domOff t e) (domOff_self s t he)
    · exact ih (s := s.domOff t d) h

/-! ### Domains that come on (R43, R367) -/

theorem clearStatus_pwr (s : State) (lo hi : Nat) : (s.clearStatus lo hi).pwr = s.pwr := rfl

theorem bankOn_pwr (s : State) (t : Nat) (b : Fin 8) : (s.bankOn t b).pwr = { s.pwr with on := s.pwr.on ||| domBit b.val } := by
  unfold State.bankOn
  extract_lets s1
  exact (pwr_of (gateCheck_forget besidesPwr _ t b rfl)).trans (pwr_of (startEngines_forget _ s1 t b besidesPwr_raises rfl rfl rfl
    rfl (besidesPwr_has _) (besidesPwr_has _) (besidesPwr_has _) (besidesPwr_has _)))

theorem domOn_pwr (s : State) (t d : Nat) : (s.domOn t d).pwr = { s.pwr with on := s.pwr.on ||| domBit d } := by
  unfold State.domOn
  split
  · exact bankOn_pwr s t _
  · extract_lets s1
    split
    · exact pwr_of (fusStart_forget besidesPwr _ rfl (besidesPwr_all _) (besidesPwr_has _) (besidesPwr_has _))
    · split
      · exact pwr_of (solStart_forget besidesPwr _ rfl (besidesPwr_all _) (besidesPwr_has _) (besidesPwr_has _) (besidesPwr_has _)
          (besidesPwr_has _) (besidesPwr_has _) (besidesPwr_has _))
      · split
        · exact pwr_of (linkJudge_forget besidesPwr _ besidesPwr_raises rfl)
        · exact (pwr_of (canStart_forget besidesPwr _ 1 rfl (besidesPwr_has _))).trans
            (pwr_of (canStart_forget besidesPwr _ 0 rfl (besidesPwr_has _)))

/-! ### Requests (R367, R370) -/

theorem sayRestored_dom (s : State) (d : Nat) : s.sayRestored.dom d = s.dom d := by
  unfold State.sayRestored State.dom
  split
  · rw [raise_pwr]
    rfl
  · rfl

section Request
variable {s : State} (hst : s.pwr.st = .main) (hidle : s.domBusy = false) (t cause : Nat)

/-- The domains that a request switches off, and those it switches on in their order. -/
def reqOffs (s : State) : List Nat := (List.range 12).filter (fun d => s.pwr.on.getLsbD d && !s.domWant.getLsbD d)
def reqOns (s : State) : List Nat := onOrder.filter (fun d => s.domWant.getLsbD d && !s.pwr.on.getLsbD d)

include hst hidle in
theorem applyReq_eq : s.applyReq t cause =
    if (reqOns s).isEmpty then
      if (reqOffs s).isEmpty && cause = 0 then s.each (reqOffs s) (offStep t)
      else ((s.each (reqOffs s) (offStep t)).raiseDomSw cause).sayRestored
    else (s.each (reqOffs s) (offStep t)).modPwr (fun p =>
      { p with starts := (reqOns s).zipIdx.map (fun q => (q.1, (s.each (reqOffs s) (offStep t)).clk.ticks + 20 * q.2)), swCause := cause }) := by
  unfold State.applyReq
  rw [if_neg (by rw [hst]; decide), if_neg (by rw [hidle]; decide)]
  rfl

end Request

/-- A request written into PWR_DOM_REQ. -/
def requested (w : Word) (s : State) : State := s.wr A.PWR_DOM_REQ (w &&& 0x0FFF)

theorem requested_want (w : Word) (s : State) {d : Nat} (h : d < 12) :
    (requested w s).domWant.getLsbD d = (w.getLsbD d && s.domAvail.getLsbD d) := by
  have hmask : (0x0FFF : Word).getLsbD d = true := by
    have : ∀ d : Fin 12, (0x0FFF : Word).getLsbD d.val = true := by decide
    exact this ⟨d, h⟩
  have hrd : (requested w s).rd A.PWR_DOM_REQ = w &&& 0x0FFF := by
    unfold requested
    rw [rd_wr, if_pos rfl]
  unfold State.domWant
  rw [hrd, show (requested w s).domAvail = s.domAvail from rfl]
  simp only [BitVec.getLsbD_and, BitVec.getLsbD_setWidth, hmask, Bool.and_true, decide_eq_true h, Bool.true_and]

theorem bitW_self {d : Nat} (h : d < 16) : (bitW d).getLsbD d = true := by
  have : ∀ d : Fin 16, (bitW d.val).getLsbD d.val = true := by decide
  exact this ⟨d, h⟩

theorem domReq_kept (s : State) (t cause : Nat) : (s.applyReq t cause).rd A.PWR_DOM_REQ = s.rd A.PWR_DOM_REQ :=
  (only_of_forget (applyReq_forget (raising domainReach) s t cause (mayRaise_raising _) rfl rfl rfl rfl rfl rfl rfl rfl rfl rfl rfl
    rfl (has_of_mem (by decide)) (has_of_mem (by decide)))).regs _ (by decide +kernel)

theorem writeDomReq_rd (t : Nat) (w : Word) (s : State) : (writeDomReq t w s).rd A.PWR_DOM_REQ = w &&& 0x0FFF := by
  unfold writeDomReq
  rw [domReq_kept, rd_wr, if_pos rfl]

theorem mem_onOrder {d : Nat} (h : d < 12) : d ∈ onOrder := by
  have : ∀ d : Fin 12, d.val ∈ onOrder := by decide
  exact this ⟨d, h⟩

section Write
variable {s : State} (hst : s.pwr.st = .main) (hidle : s.domBusy = false) (t : Nat) {d : Nat} (hd : d < 12) {w : Word}
include hst hidle hd

/-- A domain that is requested, can come on and is off enters the sequence. -/
theorem writeDomReq_starts (hw : w.getLsbD d = true) (hav : s.domAvail.getLsbD d = true) (hoff : s.dom d = false) :
    (writeDomReq t w s).pwr.starts.any (fun p => p.1 == d) = true := by
  have hon : d ∈ reqOns (requested w s) := by
    refine List.mem_filter.mpr ⟨mem_onOrder hd, ?_⟩
    rw [requested_want w s hd, hw, hav, show (requested w s).pwr.on.getLsbD d = false from hoff]
    rfl
  unfold writeDomReq
  rw [show (s.wr A.PWR_DOM_REQ (w &&& 0x0FFF)) = requested w s from rfl,
    applyReq_eq (s := requested w s) hst hidle t 0, if_neg (by rw [List.isEmpty_eq_false_iff_exists_mem.mpr ⟨d, hon⟩]; decide)]
  have hfst : d ∈ (reqOns (requested w s)).zipIdx.map Prod.fst := by
    rw [List.zipIdx_map_fst]
    exact hon
  obtain ⟨q, hq, hqd⟩ := List.mem_map.mp hfst
  refine List.any_eq_true.mpr ⟨_, List.mem_map.mpr ⟨q, hq, rfl⟩, ?_⟩
  exact beq_iff_eq.mpr hqd

/-- A domain that is not requested goes off at once. -/
theorem writeDomReq_stops (hw : w.getLsbD d = false) : (writeDomReq t w s).dom d = false := by
  have hgone : ((requested w s).each (reqOffs (requested w s)) (offStep t)).dom d = false := by
    cases hon : s.dom d with
    | false => exact each_off_stays _ hon
    | true =>
      refine each_off_mem hd (List.mem_filter.mpr ⟨List.mem_range.mpr hd, ?_⟩)
      rw [requested_want w s hd, hw, show (requested w s).pwr.on.getLsbD d = true from hon]
      rfl
  unfold writeDomReq
  rw [show (s.wr A.PWR_DOM_REQ (w &&& 0x0FFF)) = requested w s from rfl, applyReq_eq (s := requested w s) hst hidle t 0]
  split
  · split
    · exact hgone
    · rw [sayRestored_dom, State.raiseDomSw, State.dom, raise_pwr]
      exact hgone
  · exact hgone

end Write

theorem exec_domainSwitch {s : State} (hup : s.up = true) (hears : s.hears = true) (at' : Fin 200) (d : Fin 12) :
    exec (.domainSwitchOn at' d) s = .next (writeDomReq (s.clkAt at') (s.rd A.PWR_DOM_REQ ||| bitW d.val) s) ∧
    exec (.domainSwitchOff at' d) s = .next (writeDomReq (s.clkAt at') (s.rd A.PWR_DOM_REQ &&& ~~~ bitW d.val) s) := by
  constructor
  · change execDomainSwitchOn at' d s = _
    rw [execDomainSwitchOn, whenHost_of_hears hup hears]
  · change execDomainSwitchOff at' d s = _
    rw [execDomainSwitchOff, whenHost_of_hears hup hears]

/-! ### The end of a start (R367) -/

/-- The domain on, and out of the list of those that start. -/
def readied (d : Nat) (s : State) : State :=
  (s.domOn (200 * s.clk.ticks) d).modPwr (fun p => { p with begun := p.begun.filter (· != d) })

theorem readied_pwr (d : Nat) (s : State) : (readied d s).pwr =
    { s.pwr with on := s.pwr.on ||| domBit d, begun := s.pwr.begun.filter (· != d) } := by
  show { (s.domOn (200 * s.clk.ticks) d).pwr with begun := (s.domOn (200 * s.clk.ticks) d).pwr.begun.filter (· != d) } = _
  rw [domOn_pwr]

/-- The end of a switch-on sequence, told. -/
def sequenced (s : State) : State :=
  ((s.raiseDomSw s.pwr.swCause).modPwr (fun p => { p with changed := false, swCause := 0 })).sayRestored

theorem domainReady_eq {s : State} (hch : s.pwr.changed = false) (d : Nat) :
    domainReady d s = if (readied d s).domBusy then readied d s else sequenced (readied d s) := by
  have hc : (readied d s).pwr.changed = false := by
    rw [readied_pwr]
    exact hch
  unfold domainReady
  extract_lets t s1 again s2
  have ha : again = false := hc
  rw [ha]
  rfl

theorem sayRestored_begun (s : State) : s.sayRestored.pwr.begun = s.pwr.begun := by
  unfold State.sayRestored
  split
  · rw [raise_pwr]
    rfl
  · rfl

theorem sequenced_spec (s : State) : (∀ d, (sequenced s).dom d = s.dom d) ∧ (sequenced s).pwr.begun = s.pwr.begun ∧
    eventBit (sequenced s) evDOMAIN_SW = true ∧ (s.pwr.restore = true → eventBit (sequenced s) evPWR_RESTORE = true ∧
      (sequenced s).pwr.restore = false) := by
  unfold sequenced
  generalize hu : (s.raiseDomSw s.pwr.swCause).modPwr (fun p => { p with changed := false, swCause := 0 }) = u
  have hpwr : u.pwr = { s.pwr with changed := false, swCause := 0 } := by
    rw [← hu]
    show { (s.raiseDomSw s.pwr.swCause).pwr with changed := false, swCause := 0 } = _
    rw [State.raiseDomSw, raise_pwr]
  have hev : eventBit u evDOMAIN_SW = true := by
    rw [← hu]
    exact raise_self _ _ _ _
  refine ⟨fun d => ?_, ?_, ?_, fun hr => ?_⟩
  · rw [sayRestored_dom, State.dom, hpwr]
    rfl
  · rw [sayRestored_begun, hpwr]
  · unfold State.sayRestored
    split
    · exact raise_mono _ _ _ _ _ hev
    · exact hev
  · have hr' : u.pwr.restore = true := by
      rw [hpwr]
      exact hr
    unfold State.sayRestored
    rw [if_pos hr']
    refine ⟨raise_self _ _ _ _, ?_⟩
    rw [raise_pwr]
    rfl

theorem readied_dom {d : Nat} (h : d < 12) (s : State) : (readied d s).dom d = true := by
  unfold State.dom
  rw [readied_pwr]
  show (s.pwr.on ||| domBit d).getLsbD d = true
  rw [BitVec.getLsbD_or, domBit, BitVec.getLsbD_twoPow]
  simp [h]

theorem domainReady_spec {s : State} (hch : s.pwr.changed = false) {d : Nat} (h : d < 12) :
    (domainReady d s).dom d = true ∧ (domainReady d s).pwr.begun = s.pwr.begun.filter (· != d) ∧
    (s.pwr.starts = [] → s.pwr.begun = [d] → eventBit (domainReady d s) evDOMAIN_SW = true ∧
      (s.pwr.restore = true → eventBit (domainReady d s) evPWR_RESTORE = true ∧ (domainReady d s).pwr.restore = false)) := by
  have hpwr := readied_pwr d s
  obtain ⟨hdom, hbegun, hsw, hrest⟩ := sequenced_spec (readied d s)
  rw [domainReady_eq hch]
  refine ⟨?_, ?_, fun hs hb => ?_⟩
  · split
    · exact readied_dom h s
    · exact (hdom d).trans (readied_dom h s)
  · split
    · rw [hpwr]
    · rw [hbegun, hpwr]
  · have hidle : (readied d s).domBusy = false := by
      unfold State.domBusy
      rw [hpwr]
      simp [hs, hb]
    rw [if_neg (by rw [hidle]; decide)]
    refine ⟨hsw, fun hr => hrest ?_⟩
    rw [hpwr]
    exact hr

theorem exec_domainStart {s : State} {d : Fin 12} {n : Nat} (hm : (d.val, n) ∈ s.pwr.starts) (hn : n ≤ s.clk.ticks) :
    exec (.domainStart d) s = .next (s.modPwr (fun p =>
      { p with starts := p.starts.filter (fun q => q.1 != d.val), begun := p.begun ++ [d.val] })) := by
  change execDomainStart d s = _
  have hany : s.pwr.starts.any (fun p => p.1 == d.val && decide (p.2 ≤ s.clk.ticks)) = true :=
    List.any_eq_true.mpr ⟨_, hm, by simp [hn]⟩
  rw [execDomainStart, if_pos hany]

theorem exec_domainReady {s : State} {d : Fin 12} (h : d.val ∈ s.pwr.begun) :
    exec (.domainReady d) s = .next (domainReady d.val s) := by
  change execDomainReady d s = _
  rw [execDomainReady, if_pos (List.contains_iff_mem.mpr h)]

/-- Settles O39: the estimate's judgements one after the other, the supply reaction, and the domains by their bits. -/
theorem energyAndDomains : Obligations.EnergyAndDomains := by
  unfold Obligations.EnergyAndDomains
  refine ⟨⟨fun s vmain vbak vio => ⟨fun hd => ?_, fun hd => ?_⟩, fun s at' vio => ⟨fun hno => ?_, fun hok hup => ?_⟩,
    fun s hno => ?_⟩, fun s at' d hup hears => ⟨?_, ?_⟩, fun s d n hm hn => exec_domainStart hm hn, fun s d hb hch => ?_⟩
  · change execEnergyEstimate vmain vbak vio s = _
    rw [execEnergyEstimate, if_pos hd]
  · refine ⟨energyEstimate vmain vbak vio s, ?_, ?_⟩
    · change execEnergyEstimate vmain vbak vio s = _
      rw [execEnergyEstimate, if_neg hd]
    · obtain ⟨h1, h2, h3, h4, h5, h6, h7⟩ := energyEstimate_spec vmain vbak vio s
      rw [h7]
      obtain ⟨hon, hoff⟩ := charges_spec s vbak.toNat
      exact ⟨h1, h2, h3, h4, h5, h6, hon, hoff⟩
  · change execVioUv at' vio s = _
    rw [execVioUv, vioUv, if_neg (by rw [hno]; decide)]
  · refine ⟨vioUv (s.clkAt at') vio s, rfl, ?_⟩
    rw [vioUv_eq hok hup]
    obtain ⟨hdev, hsd, harm, hcause⟩ := deviceWide_shows (vioLost vio s) (s.clkAt at') causeVIO vio.toNat (by decide)
    refine ⟨?_, ?_, hdev, hsd, harm, fun h => (hcause h).1⟩
    · rw [deviceWide_pwr]
      rfl
    · rw [deviceWide_keeps _ _ _ _ _ (by decide +kernel) (by decide) (by decide)]
      unfold vioLost
      rw [rd_wr, if_pos rfl]
  · change execVioOkRise s = _
    rw [execVioOkRise, if_neg (by rw [hno]; decide)]
  · refine ⟨_, (exec_domainSwitch hup hears at' d).1, writeDomReq_rd _ _ _, fun hst hidle hav hoff => ?_⟩
    refine writeDomReq_starts hst hidle _ d.isLt ?_ hav hoff
    rw [BitVec.getLsbD_or, bitW_self (by omega), Bool.or_true]
  · refine ⟨_, (exec_domainSwitch hup hears at' d).2, writeDomReq_rd _ _ _, fun hst hidle => ?_⟩
    refine writeDomReq_stops hst hidle _ d.isLt ?_
    rw [BitVec.getLsbD_and, BitVec.getLsbD_not, bitW_self (by omega)]
    simp
  · exact ⟨_, exec_domainReady hb, domainReady_spec hch d.isLt⟩

end Sys2Proof.Proofs
end

section
/-! SUPPORT. Proofs of the hand-over step by step (R371 to R374): what each operation leaves of the supplies beside the domains. -/
namespace Sys2Proof.Proofs
set_option Elab.async false
open Sys2Proof.Machine Sys2Proof.Safety Sys2Proof.Laws

/-! ### The supplies but for their domains -/

/-- The supplies but for the switched domains, their sequence and the report that waits for it. -/
def fixed (p : Pwr) : Pwr := { p with on := 0, starts := [], begun := [], swCause := 0, changed := false, restore := false }

theorem domOff_fixed (s : State) (t d : Nat) : fixed (s.domOff t d).pwr = fixed s.pwr := by rw [domOff_pwr]; rfl

theorem each_off_fixed (t : Nat) (l : List Nat) (s : State) : fixed (s.each l (offStep t)).pwr = fixed s.pwr :=
  each_keeps (f := offStep t) (fun u => fixed u.pwr) (fun u d => domOff_fixed u t d) l s

theorem sayRestored_fixed (s : State) : fixed s.sayRestored.pwr = fixed s.pwr := by
  unfold State.sayRestored
  split
  · rw [raise_pwr]
    rfl
  · rfl

theorem applyReq_fixed (s : State) (t cause : Nat) : fixed (s.applyReq t cause).pwr = fixed s.pwr := by
  by_cases hst : s.pwr.st = .main
  · cases hidle : s.domBusy with
    | true =>
      unfold State.applyReq
      rw [if_neg (by rw [hst]; decide), if_pos hidle]
      rfl
    | false =>
      have hoffs := each_off_fixed t (reqOffs s) s
      rw [applyReq_eq hst hidle]
      split
      · split
        · exact hoffs
        · rw [sayRestored_fixed, State.raiseDomSw, raise_pwr]
          exact hoffs
      · exact hoffs
  · unfold State.applyReq
    rw [if_pos hst]

theorem allOff_fixed (s : State) (t : Nat) : fixed (s.allOff t).pwr = fixed s.pwr := each_off_fixed t _ _

theorem unarm_pwr (s : State) (t : Nat) (b : Fin 8) : (s.unarm t b).pwr = s.pwr :=
  pwr_of (unarm_forget _ s t b besidesPwr_raises rfl rfl rfl rfl rfl (besidesPwr_has _) (besidesPwr_has _))

theorem refloatAll_pwr (s : State) (t : Nat) : (s.refloatAll t).pwr = s.pwr :=
  pwr_of (refloatAll_forget _ s t besidesPwr_raises rfl rfl rfl rfl (besidesPwr_has _) (besidesPwr_has _))

/-- A reset without operations and with every bank disarmed, its switched domains still on. -/
def resetQuiet (s : State) (t : Nat) : State := ((s.modOps (fun _ => Ops.reset)).each allBanks (fun s b => s.unarm t b)).refloatAll t

theorem resetQuiet_pwr (s : State) (t : Nat) : (resetQuiet s t).pwr = s.pwr :=
  (refloatAll_pwr _ t).trans (each_keeps (fun u => u.pwr) (fun u b => unarm_pwr u t b) _ _)

theorem dropCore_eq (s : State) (t : Nat) : s.dropCore t = (((resetQuiet s t).allOff t).wr A.PWR_DOM_REQ 0).modImg (fun x =>
    { x with active := none, src := 0, fallback := false, bankImg := 0, load := none }) := rfl

theorem dropCore_fixed (s : State) (t : Nat) : fixed (s.dropCore t).pwr = fixed s.pwr := by
  rw [dropCore_eq]
  exact (allOff_fixed (resetQuiet s t) t).trans (congrArg fixed (resetQuiet_pwr s t))

/-- CORE's RAM and role lost, its banks and domains still as they were (R374, R407). -/
def coreLost (s : State) : State :=
  ((s.dropItems.modLands (fun l =>
    { l with
      inReset := true, start := startCORE, rstN := false, sw := false, deferred := false
      lastSw := false, lastTap := false })).modPwr (fun p => { p with core := false, flushed := true })).modPair (fun p =>
    { p with owner := false, take := none, claimAt := none })

theorem coreOff_eq (s : State) (t : Nat) : s.coreOff t = ((((coreLost s).dropCore t).ppsBreak .supply).modImg (fun x =>
    { x with window := [] })).modClk (fun c => { c with lowdrive := true }) := rfl

theorem coreLost_pwr (s : State) : (coreLost s).pwr = { s.pwr with core := false, flushed := true } := by
  show { s.dropItems.pwr with core := false, flushed := true } = _
  rw [pwr_of (dropItems_forget besidesPwr s rfl (besidesPwr_has _))]

theorem coreOff_pwr (s : State) (t : Nat) : (s.coreOff t).pwr = ((coreLost s).dropCore t).pwr := by
  rw [coreOff_eq]
  exact pwr_of (ppsBreak_forget besidesPwr _ .supply besidesPwr_raises rfl)

theorem coreOff_fixed (s : State) (t : Nat) : fixed (s.coreOff t).pwr = fixed { s.pwr with core := false, flushed := true } := by
  rw [coreOff_pwr, dropCore_fixed, coreLost_pwr]

theorem resetSafety_pwr (s : State) : s.resetSafety.pwr = s.pwr :=
  pwr_of (resetSafety_forget _ s besidesPwr_raises rfl rfl rfl rfl rfl rfl (besidesPwr_has _) (besidesPwr_has _) (besidesPwr_has _)
    (besidesPwr_has _) (besidesPwr_has _))

theorem announce_pwr (s : State) (kind : Nat) : (s.announce kind).pwr = s.pwr :=
  pwr_of (announce_forget _ s kind (mayRecord_recording _) rfl rfl (besidesPwr_all _) (besidesPwr_has _) (besidesPwr_has _))

theorem restoreLater_fixed (s : State) : fixed s.restoreLater.pwr = fixed s.pwr := by
  unfold State.restoreLater
  split
  · rfl
  · rfl

/-- A warm restart before pin float is judged, its report and the domains' sequence (R377). -/
def warmSafe (s : State) : State :=
  (((s.toMain.modLands (fun l => { l with lastSw := false, lastTap := false })).resetRole).announce startWARM).resetSafety

theorem warmSafe_pwr (s : State) : (warmSafe s).pwr = s.toMain.pwr := (resetSafety_pwr _).trans (announce_pwr _ _)

/-- The warm restart with its outage noted. -/
def warmStarted (s : State) : State := ((warmSafe s).refloatAll (200 * (warmSafe s).clk.ticks)).restoreLater

theorem warmStarted_fixed (s : State) : fixed (warmStarted s).pwr = fixed s.toMain.pwr := by
  rw [warmStarted, restoreLater_fixed, refloatAll_pwr, warmSafe_pwr]

theorem warmRestart_eq {s : State} (h : s.lands.inReset = false) :
    s.warmRestart = (warmStarted s).applyReq (200 * (warmSafe s).clk.ticks) 1 := if_neg (by
  rw [show s.toMain.lands.inReset = s.lands.inReset from rfl, h]
  decide)

/-! ### VMAIN fails (R371, Table PWR-2) -/

/-- A property that every step of a series keeps. -/
theorem each_invariant {α : Type} {P : State → Prop} {f : State → α → State} (h : ∀ u x, P u → P (f u x)) :
    ∀ (l : List α) {s : State}, P s → P (s.each l f) := by
  intro l
  induction l with
  | nil => exact fun hs => hs
  | cons x xs ih => exact fun hs => ih (h _ x hs)

/-- The load that runs is `l`, or none. -/
def LoadAtMost (l : Load) (s : State) : Prop := s.img.load = none ∨ s.img.load = some l

theorem LoadAtMost.of_img {l : Load} {s t : State} (h : t.img = s.img) (hs : LoadAtMost l s) : LoadAtMost l t := by
  unfold LoadAtMost
  rw [h]
  exact hs

theorem dropOp_load {l : Load} {s : State} (i : Fin 8) (st : OpState) (fail : Nat) (hs : LoadAtMost l s) :
    LoadAtMost l (s.dropOp i st fail) := by
  unfold State.dropOp
  extract_lets x
  split
  · exact LoadAtMost.of_img (endSlot_img s.endLoad i st fail) (Or.inl rfl)
  · split
    · exact hs.of_img ((endSlot_img _ i st fail).trans ((only_of_forget (measureLines_forget { free := true, hb := true } s x false rfl rfl)).img
        rfl))
    · split
      · exact hs.of_img (s := s) (t := (s.endSlot i st fail).modAx _ _) (endSlot_img s i st fail)
      · exact hs.of_img (endSlot_img s i st fail)

theorem abortSlot_load {l : Load} {s : State} (i : Fin 8) (fail : Nat) (hs : LoadAtMost l s) : LoadAtMost l (s.abortSlot i fail) := by
  unfold State.abortSlot
  extract_lets x wait
  split
  · exact hs.of_img (endSlot_img s i _ fail)
  · split
    · split
      · exact hs
      · exact dropOp_load i _ fail hs
    · exact hs

theorem abortBoot_load {l : Load} {s : State} (hl : l.slot = none) (hs : LoadAtMost l s) : s.abortBoot.img.load = none := by
  unfold State.abortBoot
  rcases hs with h | h
  · rw [h]
    exact h
  · rw [h]
    dsimp only
    rw [if_pos hl]
    rfl

/-- The loss noted: the state of the supplies, the measurements and the count (R371). -/
def lossNoted (vmain vbak : Word) (s : State) : State :=
  ((s.modPwr (fun p =>
    { p with
      st := .critical, t0 := s.clk.ticks, step := 0, dwell := none, vmainOk := false, bounceArm := false, bounces := 0
      starts := [], begun := [], flushed := false })).measured vmain vbak).satInc A.PWR_LOSSCNT

/-- The loss told, with the operations and the boot load ended and the banks safe. -/
def lossTold (t : Nat) (vmain vbak : Word) (s : State) : State :=
  ((((lossNoted vmain vbak s).abortAll.abortBoot).banksSafe t).thaw .handover).raise evPWR_LOSS vmain vbak

theorem vmainFail_eq {s : State} (h : s.pwr.st = .main) (t : Nat) (vmain vbak : Word) : vmainFail t vmain vbak s =
    if (lossTold t vmain vbak s).retryGate.pair.take.isSome || ((lossTold t vmain vbak s).retryGate.pair.owner && s.partnerOk) then
      (lossTold t vmain vbak s).retryGate.releaseOwner t 5
    else (lossTold t vmain vbak s).retryGate := if_pos h

/-- What the loss does to the banks and the recorder. -/
def tellReach : Parts := recording
  { regs := [.GATE_BSTUVCNT, .GATE_FLT, .PROT_AXSTAT], ops := true, tim := true, hb := true, bank := true, ax := true }

/-- What the start of a hand-over may change behind its own words. -/
def lossReach : Parts := recording
  { regs := [.GATE_BSTUVCNT, .GATE_FLT, .PROT_AXSTAT], free := true, ops := true, tim := true, hb := true, bank := true, ax := true,
    img := true, pair := true, mem := true }

theorem lossReach_records : MayRecord lossReach := mayRecord_recording _

theorem tellReach_records : MayRecord tellReach := mayRecord_recording _

theorem banksTold_img (u : State) (t : Nat) (vmain vbak : Word) :
    (((u.banksSafe t).thaw .handover).raise evPWR_LOSS vmain vbak).img = u.img :=
  (only_of_forget ((raise_forget tellReach _ _ _ _ (by decide) tellReach_records.queue.raises).trans
    ((thaw_forget _ _ .handover tellReach_records).trans (banksSafe_forget _ u t tellReach_records.queue.raises rfl rfl rfl rfl rfl
      (has_of_mem (by decide)) (has_of_mem (by decide)) (has_of_mem (by decide)))))).img rfl

theorem lossTold_only (t : Nat) (vmain vbak : Word) (s : State) :
    Only lossReach (lossNoted vmain vbak s) (lossTold t vmain vbak s) :=
  only_of_forget ((raise_forget _ _ _ _ _ (by decide) lossReach_records.queue.raises).trans
    ((thaw_forget _ _ .handover lossReach_records).trans
      ((banksSafe_forget _ _ t lossReach_records.queue.raises rfl rfl rfl rfl rfl (has_of_mem (by decide)) (has_of_mem (by decide))
        (has_of_mem (by decide))).trans ((abortBoot_forget _ _ rfl).trans
          (abortAll_forget _ _ lossReach_records.queue.raises rfl rfl rfl rfl rfl)))))

theorem lossTold_load {s : State} {l : Load} (hl : s.img.load = some l) (hs : l.slot = none) (t : Nat) (vmain vbak : Word) :
    (lossTold t vmain vbak s).img.load = none := by
  have hboot : ((lossNoted vmain vbak s).abortAll.abortBoot).img.load = none :=
    abortBoot_load hs (each_invariant (P := LoadAtMost l) (fun u i => abortSlot_load i failPOWER) allSlots (Or.inr hl))
  exact (congrArg Img.load (banksTold_img _ t vmain vbak)).trans hboot

theorem banksSafe_off (s : State) (t : Nat) (b : Fin 8) : ((s.banksSafe t).bank[b]).armed = false := by
  unfold State.banksSafe
  refine each_off (fun u b => ?_) (fun u b => disarm_off _ _ _ _ _) allBanks s b (List.mem_finRange b)
  refine disarm_calm ?_
  have haxes : Calm true u (u.each (axesOf b) (fun s a => s.stopAxis a .safe)) :=
    each_calm (fun v a hv => stopAxis_calm hv) (Calm.refl true u)
  split
  · exact bankCause_calm (fun _ h => h) haxes
  · exact haxes

theorem lossTold_off (t : Nat) (vmain vbak : Word) (s : State) (b : Fin 8) :
    ((lossTold t vmain vbak s).bank[b]).armed = false :=
  (raise_calm (thaw_calm (Calm.refl true _))).off (banksSafe_off _ t b)

theorem vmainFail_calm {s : State} (h : s.pwr.st = .main) (t : Nat) (vmain vbak : Word) :
    Calm true (lossTold t vmain vbak s) (vmainFail t vmain vbak s) := by
  rw [vmainFail_eq h]
  split
  · exact releaseOwner_calm (retryGate_calm (Calm.refl true _))
  · exact retryGate_calm (Calm.refl true _)

theorem retryGate_rings (s : State) : Rings s s.retryGate := fun a k _ h => by rw [(retryGate_only s).regs a rfl]; exact h

theorem vmainFail_rings {s : State} (h : s.pwr.st = .main) (t : Nat) (vmain vbak : Word) :
    Rings (lossTold t vmain vbak s) (vmainFail t vmain vbak s) := by
  rw [vmainFail_eq h]
  split
  · exact releaseOwner_rings (retryGate_rings _)
  · exact retryGate_rings _

/-- What the release of ownership and the deferred writes may change. -/
def lossEndReach : Parts := raising
  { regs := [.GATE_BSTUVCNT, .GATE_FLT], tim := true, hb := true, bank := true, pair := true, store := true, mem := true }

/-- The end of the loss changes the pair, the store and pin float alone. -/
theorem vmainFail_only {s : State} (h : s.pwr.st = .main) (t : Nat) (vmain vbak : Word) :
    Only lossEndReach (lossTold t vmain vbak s) (vmainFail t vmain vbak s) := by
  rw [vmainFail_eq h]
  split
  · exact only_of_forget ((releaseOwner_forget _ _ t 5 (mayRaise_raising _) rfl rfl rfl rfl (has_of_mem (by decide))
      (has_of_mem (by decide))).trans (retryGate_forget _ _ rfl rfl))
  · exact only_of_forget (retryGate_forget _ _ rfl rfl)

theorem lossNoted_rd (vmain vbak : Word) (s : State) :
    (lossNoted vmain vbak s).rd A.PWR_LOSSCNT = w16 (satU ((s.rd A.PWR_LOSSCNT).toNat + 1)) ∧
    (lossNoted vmain vbak s).rd A.PWR_VMAIN = vmain ∧ (lossNoted vmain vbak s).rd A.PWR_VBAK = vbak := by
  unfold lossNoted
  refine ⟨?_, ?_, ?_⟩
  · rw [State.satInc, rd_wr, if_pos rfl]
    unfold State.measured
    rw [rd_wr, if_neg (by decide), rd_wr, if_neg (by decide), rd_wr, if_neg (by decide)]
    rfl
  · rw [satInc_rd _ _ _ (by decide)]
    exact (measured_stored vmain vbak _).1
  · rw [satInc_rd _ _ _ (by decide)]
    exact (measured_stored vmain vbak _).2.1

theorem vmainFail_spec {s : State} (h : s.pwr.st = .main) (t : Nat) (vmain vbak : Word) :
    (vmainFail t vmain vbak s).pwr.st = .critical ∧ (vmainFail t vmain vbak s).pwr.t0 = s.clk.ticks ∧
    (vmainFail t vmain vbak s).pwr.step = 0 ∧ (vmainFail t vmain vbak s).pwr.vmainOk = false ∧
    (vmainFail t vmain vbak s).rd A.PWR_LOSSCNT = w16 (satU ((s.rd A.PWR_LOSSCNT).toNat + 1)) ∧
    (vmainFail t vmain vbak s).rd A.PWR_VMAIN = vmain ∧ (vmainFail t vmain vbak s).rd A.PWR_VBAK = vbak ∧
    eventBit (vmainFail t vmain vbak s) evPWR_LOSS = true ∧
    (∀ l, s.img.load = some l → l.slot = none → (vmainFail t vmain vbak s).img.load = none) ∧
    ∀ b : Fin 8, ((vmainFail t vmain vbak s).bank[b]).armed = false := by
  have hlast := vmainFail_only h t vmain vbak
  have htold := lossTold_only t vmain vbak s
  have hpwr : (vmainFail t vmain vbak s).pwr = (lossNoted vmain vbak s).pwr := (hlast.pwr rfl).trans (htold.pwr rfl)
  obtain ⟨hcnt, hvm, hvb⟩ := lossNoted_rd vmain vbak s
  refine ⟨?_, ?_, ?_, ?_, ?_, ?_, ?_, ?_, fun l hl hs => ?_, fun b => (vmainFail_calm h t vmain vbak).off (lossTold_off _ _ _ _ b)⟩
  · rw [hpwr]
    rfl
  · rw [hpwr]
    rfl
  · rw [hpwr]
    rfl
  · rw [hpwr]
    rfl
  · rw [hlast.regs _ (by decide +kernel), htold.regs _ (by decide +kernel), hcnt]
  · rw [hlast.regs _ (by decide +kernel), htold.regs _ (by decide +kernel), hvm]
  · rw [hlast.regs _ (by decide +kernel), htold.regs _ (by decide +kernel), hvb]
  · exact (vmainFail_rings h t vmain vbak).event (by decide) (raise_self _ _ _ _)
  · rw [hlast.img rfl]
    exact lossTold_load hl hs t vmain vbak

/-! ### The steps after t0 (Table PWR-2) -/

theorem downIf_dom (s : State) (t : Nat) {d : Nat} (h : d < 12) : (s.downIf t d).dom d = false := by
  unfold State.downIf
  split
  · exact domOff_self s t h
  next hoff => exact Bool.eq_false_iff.mpr hoff

theorem downIf_stays {s : State} {t d e : Nat} (h : s.dom e = false) : (s.downIf t d).dom e = false := by
  unfold State.downIf
  split
  · exact domOff_stays h
  · exact h

theorem downIf_fixed (s : State) (t d : Nat) : fixed (s.downIf t d).pwr = fixed s.pwr := by
  unfold State.downIf
  split
  · exact domOff_fixed s t d
  · rfl

theorem holdBank_pwr (s : State) (t : Nat) (b : Fin 8) : (s.holdBank t b).pwr = s.pwr :=
  pwr_of (holdBank_forget _ s t b besidesPwr_raises rfl rfl rfl rfl (besidesPwr_has _) (besidesPwr_has _) (besidesPwr_has _))

/-- A bank's hold begins, or ends at once, and its domain goes off. -/
def bankDown (t : Nat) (s : State) (b : Fin 8) : State := (s.holdBank t b).downIf t b.val

theorem banksDown_eq (s : State) (t : Nat) : s.banksDown t = s.each allBanks (bankDown t) := rfl

theorem bankDown_fixed (t : Nat) (s : State) (b : Fin 8) : fixed (bankDown t s b).pwr = fixed s.pwr := by
  rw [bankDown, downIf_fixed, holdBank_pwr]

theorem bankDown_stays {t : Nat} {s : State} {b : Fin 8} {e : Nat} (h : s.dom e = false) : (bankDown t s b).dom e = false := by
  refine downIf_stays ?_
  rw [State.dom, holdBank_pwr]
  exact h

theorem banksDown_dom (s : State) (t : Nat) {d : Nat} (h : d < 8) : (s.banksDown t).dom d = false := by
  rw [banksDown_eq]
  exact each_makes (I := fun _ => True) (P := fun u => u.dom d = false) (f := bankDown t) (fun _ _ _ => trivial)
    (fun u b _ => bankDown_stays) (x := ⟨d, h⟩) (fun u _ => downIf_dom (u.holdBank t ⟨d, h⟩) t (show d < 12 by omega))
    (List.mem_finRange _) trivial

theorem banksDown_fixed (s : State) (t : Nat) : fixed (s.banksDown t).pwr = fixed s.pwr := by
  rw [banksDown_eq]
  exact each_keeps (f := bankDown t) (fun u => fixed u.pwr) (fun u b => bankDown_fixed t u b) allBanks s

theorem handStep_step (s : State) (t : Nat) : (s.handStep t).pwr.step = s.pwr.step + 1 := by
  have hfix : fixed (s.handStep t).pwr = fixed { s.pwr with step := s.pwr.step + 1 } ∨
      fixed (s.handStep t).pwr = fixed { s.pwr with step := s.pwr.step + 1, onVbak := true, charger := false } := by
    unfold State.handStep
    dsimp only
    split
    · exact Or.inr rfl
    · split
      · exact Or.inl ((downIf_fixed _ t 9).trans (downIf_fixed _ t 11))
      · split
        · exact Or.inl (downIf_fixed _ t 8)
        · split
          · exact Or.inl (downIf_fixed _ t 10)
          · rw [State.raiseDomSw, raise_pwr]
            exact Or.inl (banksDown_fixed _ t)
  rcases hfix with h | h
  · exact congrArg Pwr.step h
  · exact congrArg Pwr.step h

/-- What each step switches off. -/
theorem handStep_spec (s : State) (t : Nat) :
    (s.pwr.step = 0 → (s.handStep t).pwr.onVbak = true ∧ (s.handStep t).pwr.charger = false) ∧
    (s.pwr.step = 1 → (s.handStep t).dom 11 = false ∧ (s.handStep t).dom 9 = false) ∧
    (s.pwr.step = 2 → (s.handStep t).dom 8 = false) ∧ (s.pwr.step = 3 → (s.handStep t).dom 10 = false) ∧
    (s.pwr.step = 4 → (∀ d, d < 8 → (s.handStep t).dom d = false) ∧ eventBit (s.handStep t) evDOMAIN_SW = true) := by
  unfold State.handStep
  refine ⟨fun h => ?_, fun h => ?_, fun h => ?_, fun h => ?_, fun h => ?_⟩
  all_goals rw [h]
  · exact ⟨rfl, rfl⟩
  · exact ⟨downIf_stays (downIf_dom _ t (by omega)), downIf_dom _ t (by omega)⟩
  · exact downIf_dom _ t (by omega)
  · exact downIf_dom _ t (by omega)
  · refine ⟨fun d hd => ?_, raise_self _ _ _ _⟩
    show ((State.banksDown _ t).raiseDomSw 1).dom d = false
    rw [State.raiseDomSw, State.dom, raise_pwr]
    exact banksDown_dom _ t hd

/-! ### The end of a driver die's hold (R372) -/

theorem refloat_die (s : State) (t : Nat) (b : Fin 8) :
    ((s.refloat t b).bank[b]).hold = (s.bank[b]).hold ∧ ((s.refloat t b).bank[b]).hand = (s.bank[b]).hand := by
  unfold State.refloat
  split
  · unfold State.enterFloat
    split
    · rw [redriveBank_same _ t b b, modBank_get, if_pos rfl]
      exact ⟨rfl, rfl⟩
    · exact ⟨rfl, rfl⟩
  · exact ⟨rfl, rfl⟩

theorem endHold_spec {s : State} {b : Fin 8} {n : Nat} (h : (s.bank[b]).hold = some n) (t : Nat) :
    ((s.endHold t b).bank[b]).hold = none ∧ ((s.endHold t b).bank[b]).hand = false := by
  unfold State.endHold
  rw [if_pos (by rw [h]; rfl)]
  obtain ⟨hhold, hhand⟩ := refloat_die (s.bankCause t b (fun k => { k with hand := false, hold := none })) t b
  obtain ⟨w, hw⟩ := bankCause_self s t b (fun k => { k with hand := false, hold := none })
  rw [hhold, hhand, hw]
  exact ⟨rfl, rfl⟩

/-! ### The window and the flush (R373, R374) -/

theorem warmRestart_fixed (s : State) : fixed s.warmRestart.pwr = fixed s.toMain.pwr := by
  cases h : s.lands.inReset with
  | true =>
    unfold State.warmRestart
    rw [if_pos (show s.toMain.lands.inReset = true from h)]
  | false => rw [warmRestart_eq h, applyReq_fixed, warmStarted_fixed]

theorem afterFlush_eq {s : State} (h : s.lands.deferred = false) (t : Nat) : s.afterFlush t =
    if s.dwelt then s.warmRestart
    else if s.pwr.dwell.isSome then s.modPwr (fun p => { p with st := .hold, onVbak := false }) else s.toBackup t := by
  unfold State.afterFlush
  rw [h]
  rfl

theorem toBackup_st (s : State) (t : Nat) : (s.toBackup t).pwr.st = .backup := rfl

theorem toBackup_flushed (s : State) (t : Nat) : (s.toBackup t).pwr.flushed = true := congrArg Pwr.flushed (coreOff_fixed s t)

/-- The state a hand-over goes on to (Table PWR-3). -/
theorem afterFlush_spec {s : State} (h : s.lands.deferred = false) (hf : s.pwr.flushed = true) (t : Nat) :
    (s.afterFlush t).pwr.flushed = true ∧ (s.pwr.dwell = none → (s.afterFlush t).pwr.st = .backup) ∧
    (∀ d, s.pwr.dwell = some d → s.clk.ticks < d + 20000 → (s.afterFlush t).pwr.st = .hold) ∧
    (∀ d, s.pwr.dwell = some d → d + 20000 ≤ s.clk.ticks → (s.afterFlush t).pwr.st = .main) := by
  have hdwelt : ∀ d, s.pwr.dwell = some d → s.dwelt = decide (d + 20000 ≤ s.clk.ticks) := by
    intro d hd
    unfold State.dwelt
    rw [hd]
  have hnone : s.pwr.dwell = none → s.dwelt = false := by
    intro hd
    unfold State.dwelt
    rw [hd]
  rw [afterFlush_eq h]
  refine ⟨?_, fun hd => ?_, fun d hd hlt => ?_, fun d hd hle => ?_⟩
  · split
    · exact (congrArg Pwr.flushed (warmRestart_fixed s)).trans hf
    · split
      · exact hf
      · exact toBackup_flushed s t
  · rw [hnone hd, if_neg nofun, hd, if_neg nofun]
    exact toBackup_st s t
  · rw [hdwelt d hd, decide_eq_false (by omega), if_neg nofun, hd]
    rfl
  · rw [hdwelt d hd, decide_eq_true hle, if_pos rfl]
    exact congrArg Pwr.st (warmRestart_fixed s)

/-- What the end of a hand-over may change. -/
def resumeReach : Parts := recording
  { blks := [.evt], regs := [.GATE_BSTUVCNT, .GATE_FLT, .PROT_AXSTAT, .PWR_DOM_REQ, .PWR_LASTBNC, .PWR_LASTOUT, .PWR_START,
      .SAFE_FLTEN, .SAFE_WDCFG, .STORE_JLOST, .SYS_BOOT]
    free := true, clk := true, ops := true, can := true, tim := true, hb := true, bank := true, ax := true, fus := true
    sched := true, sol := true, img := true, pwr := true, pair := true, safe := true, lands := true, win := true }

theorem afterFlush_flusht (s : State) (t : Nat) : (s.afterFlush t).rd A.PWR_FLUSHT = s.rd A.PWR_FLUSHT := by
  refine (only_of_forget (afterFlush_forget resumeReach s t (mayRecord_recording _) rfl rfl rfl rfl rfl rfl rfl rfl rfl rfl rfl rfl
    rfl rfl rfl rfl rfl rfl (by decide) ?_ ?_ ?_ ?_ ?_ ?_ ?_ ?_ ?_ ?_ ?_)).regs _ (by decide +kernel)
  all_goals exact has_of_mem (by decide)

section Window
variable {s : State}

/-- The window's end: the flush goes on, or the state machine does. -/
def windowEnded (s : State) : State :=
  s.modPwr (fun p => { p with st := .flush, dwell := if p.vmainOk then some s.clk.ticks else none })

theorem criticalWindowEnd_eq (s : State) : criticalWindowEnd s =
    if s.pwr.flushed then (windowEnded s).afterFlush (200 * s.clk.ticks) else windowEnded s := rfl

theorem exec_criticalWindowEnd (hst : s.pwr.st = .critical) (hstep : 5 ≤ s.pwr.step) : exec .criticalWindowEnd s =
    .next (if s.pwr.t0 + 200 ≤ s.clk.ticks then criticalWindowEnd s else s) := by
  change execCriticalWindowEnd s = _
  unfold execCriticalWindowEnd
  by_cases h : s.pwr.t0 + 200 ≤ s.clk.ticks
  · rw [if_pos h, if_pos ⟨hst, hstep, h⟩]
  · rw [if_neg h, if_neg (fun hall => h hall.2.2)]

/-- The flush noted as ended. -/
def flushNoted (s : State) : State :=
  (s.wr A.PWR_FLUSHT (w16 (satU ((s.clk.ticks - s.pwr.t0) / 100)))).modPwr (fun p => { p with flushed := true })

theorem flushEnd_eq (t : Nat) (s : State) :
    flushEnd t s = if s.pwr.st = .flush then (flushNoted s).afterFlush t else flushNoted s := rfl

theorem exec_flushEnd (hfl : s.flushing = true)
    (h : s.flushedAll = true ∨ s.flushRefused = true ∨ s.pwr.t0 + 100000 ≤ s.clk.ticks) :
    exec .flushEnd s = .next (flushEnd (200 * s.clk.ticks) s) := by
  change execFlushEnd s = _
  unfold execFlushEnd
  refine congrArg _ (if_pos ?_)
  rw [hfl]
  rcases h with h | h | h
  · simp [h]
  · simp [h]
  · simp [h]

end Window

theorem exec_handoverStep {s : State} (hst : s.pwr.st = .critical) (at' : Fin 200) : exec (.handoverStep at') s =
    .next (if s.pwr.step < 5 ∧ s.pwr.t0 + stepAt s.pwr.step ≤ s.clk.ticks then s.handStep (s.clkAt at') else s) := by
  change execHandoverStep at' s = _
  unfold execHandoverStep
  by_cases h : s.pwr.step < 5 ∧ s.pwr.t0 + stepAt s.pwr.step ≤ s.clk.ticks
  · rw [if_pos h, if_pos ⟨hst, h⟩]
  · rw [if_neg h, if_neg (fun hall => h hall.2)]

theorem exec_bankHoldEnd {s : State} {b : Fin 8} {n : Nat} (h : (s.bank[b]).hold = some n) (at' : Fin 200) :
    exec (.bankHoldEnd at' b) s =
      .next (if s.pwr.st = .down ∨ n ≤ s.clk.ticks then s.endHold (s.clkAt at') b else s) := by
  change execBankHoldEnd at' b s = _
  unfold execBankHoldEnd
  rw [h]

/-- Settles O40: the loss, its steps, the window, the flush and the holds, each by its own lemma. -/
theorem handOver : Obligations.HandOver := by
  unfold Obligations.HandOver
  refine ⟨fun s at' vmain vbak => ⟨fun hst => ⟨_, rfl, vmainFail_spec hst _ vmain vbak⟩, fun hst => ?_⟩,
    fun s at' hst => ⟨fun hlt => ?_, fun hle h5 => ?_⟩, fun s hst h5 => ⟨fun hlt => ?_, fun hle hf => ?_, fun hle hf hd => ?_⟩,
    fun s hfl hend => ⟨fun hst => ?_, fun hst hd => ?_⟩, fun s at' b n hn => ⟨fun hle => ?_, fun hlt hst => ?_⟩⟩
  · change execVmainFail at' vmain vbak s = _
    rw [execVmainFail, vmainFail, if_neg hst]
  · rw [exec_handoverStep hst, if_neg (fun h => Nat.not_le.mpr hlt h.2)]
  · exact ⟨_, (exec_handoverStep hst at').trans (by rw [if_pos ⟨h5, hle⟩]), handStep_step _ _, handStep_spec _ _⟩
  · rw [exec_criticalWindowEnd hst h5, if_neg (by omega)]
  · rw [exec_criticalWindowEnd hst h5, if_pos hle, criticalWindowEnd_eq, if_neg (by rw [hf]; decide)]
    rfl
  · refine ⟨_, (exec_criticalWindowEnd hst h5).trans (by rw [if_pos hle, criticalWindowEnd_eq, if_pos hf]), ?_⟩
    obtain ⟨_, hback, hhold, _⟩ := afterFlush_spec (s := windowEnded s) hd hf (200 * s.clk.ticks)
    cases hv : s.pwr.vmainOk with
    | false => exact hback (by show (if s.pwr.vmainOk then _ else _) = _; rw [hv]; rfl)
    | true =>
      exact hhold s.clk.ticks (by show (if s.pwr.vmainOk then _ else _) = _; rw [hv]; rfl)
        (show s.clk.ticks < s.clk.ticks + 20000 by omega)
  · rw [exec_flushEnd hfl hend, flushEnd_eq, if_neg (by rw [hst]; decide)]
    rfl
  · refine ⟨_, (exec_flushEnd hfl hend).trans (by rw [flushEnd_eq, if_pos hst]), ?_⟩
    obtain ⟨h1, h2, h3, h4⟩ := afterFlush_spec (s := flushNoted s) hd rfl (200 * s.clk.ticks)
    refine ⟨h1, ?_, h2, h3, h4⟩
    rw [afterFlush_flusht]
    show (s.wr A.PWR_FLUSHT _).rd _ = _
    rw [rd_wr, if_pos rfl]
  · exact ⟨_, (exec_bankHoldEnd hn at').trans (by rw [if_pos (Or.inr hle)]), endHold_spec hn _⟩
  · rw [exec_bankHoldEnd hn, if_neg (fun h => h.elim hst (by omega))]

end Sys2Proof.Proofs
end

section
/-! SUPPORT. Proofs of what every start shows (Table LAND-8), and of the restarts and the ways down (R375 to R378, R384, R385). -/
namespace Sys2Proof.Proofs
set_option Elab.async false
open Sys2Proof.Machine Sys2Proof.Safety Sys2Proof.Laws

/-! ### Status bits that domains and restarts leave set (R341) -/

theorem rings_forget {s t : State} (h : forget mute t = forget mute s) : Rings s t := rings_of_forget h (Rings.refl s)

theorem bankOff_rings (s : State) (t : Nat) (b : Fin 8) : Rings s (s.bankOff t b) := by
  have hquiet : Rings s (bankQuiet s t b) := by
    refine cutSelfTest_rings (cutDlineCal_rings (cutShuntCal_rings ?_))
    have hdis : Rings s (s.disarm t b 5 .disarm) := disarm_rings (Rings.refl s)
    unfold State.floatFirst
    split
    · exact hdis
    · exact (enterFloat_rings hdis).trans (rings_forget (disableStages_forget mute _ b rfl rfl))
  have hdark : Rings (bankQuiet s t b) (bankDark (bankQuiet s t b) b) :=
    modBank_rings ((modPwr_rings (Rings.refl _)).trans (rings_forget (stopBank_forget mute _ b rfl)))
  rw [bankOff_eq]
  exact gateCheck_rings (refloat_rings (hquiet.trans hdark))

theorem linkDown_rings (s : State) (next : LinkSt) (cause : Nat) : Rings s (s.linkDown next cause) :=
  raise_rings (modPair_rings (Rings.refl s))

theorem linkOff_rings (s : State) : Rings s s.linkOff := by
  unfold State.linkOff
  refine modPair_rings ?_
  split
  · exact linkDown_rings s .off 3
  · exact Rings.refl s

theorem cutSolverTest_rings (s : State) : Rings s s.cutSolverTest := by
  unfold State.cutSolverTest
  split
  · split
    · exact took_rings (Rings.refl s)
    · exact failOp_rings (took_rings (Rings.refl s))
  · exact Rings.refl s

theorem domOff_rings (s : State) (t d : Nat) : Rings s (s.domOff t d) := by
  unfold State.domOff
  split
  · exact bankOff_rings s t _
  · extract_lets s1
    have h1 : Rings s s1 := modPwr_rings (Rings.refl s)
    split
    · exact modFus_rings (h1.trans (rings_forget (clearQueue_forget mute s1 rfl)))
    · split
      · exact modSol_rings (h1.trans (cutSolverTest_rings s1))
      · split
        · exact h1.trans (linkOff_rings s1)
        · exact modCan_rings (modCan_rings h1)

theorem each_off_rings (t : Nat) (l : List Nat) (s : State) : Rings s (s.each l (offStep t)) :=
  each_rings (fun u d hu => hu.trans (domOff_rings u t d)) (Rings.refl s)

theorem sayRestored_rings (s : State) : Rings s s.sayRestored := by
  unfold State.sayRestored
  split
  · exact raise_rings (modPwr_rings (Rings.refl s))
  · exact Rings.refl s

theorem applyReq_rings (s : State) (t cause : Nat) : Rings s (s.applyReq t cause) := by
  by_cases hst : s.pwr.st = .main
  · cases hidle : s.domBusy with
    | true =>
      unfold State.applyReq
      rw [if_neg (by rw [hst]; decide), if_pos hidle]
      exact modPwr_rings (Rings.refl s)
    | false =>
      have hoffs := each_off_rings t (reqOffs s) s
      rw [applyReq_eq hst hidle]
      split
      · split
        · exact hoffs
        · exact (raise_rings hoffs).trans (sayRestored_rings _)
      · exact modPwr_rings hoffs
  · unfold State.applyReq
    rw [if_pos hst]
    exact Rings.refl s

theorem ns_starts : ∀ a ∈ [A.SAFE_FLTEN, A.SAFE_WDCFG, A.PWR_LASTOUT, A.PWR_LASTBNC], ¬ Sticky a := by
  unfold Sticky
  decide

theorem resetSafety_rings (s : State) : Rings s s.resetSafety := by
  unfold State.resetSafety
  extract_lets low s1 s2 s3
  have h2 : Rings s s2 := wr_rings (ns_starts _ (by decide)) (wr_rings (ns_starts _ (by decide)) (modSafe_rings (Rings.refl s)))
  have h3 : Rings s s3 := each_rings (fun u b hu => bankCause_rings hu) h2
  split
  · exact estop_rings h3
  · exact h3

theorem outage_rings (s : State) : Rings s s.outage :=
  wr_rings (ns_starts _ (by decide)) (wr_rings (ns_starts _ (by decide)) (Rings.refl s))

theorem restored_rings (s : State) : Rings s s.restored := by
  unfold State.restored
  split
  · exact (outage_rings s).trans (raise_rings (Rings.refl _))
  · exact Rings.refl s

theorem boot_rings (s : State) : Rings s s.boot := rings_forget (boot_forget mute s rfl)

theorem restoreLater_rings (s : State) : Rings s s.restoreLater := by
  unfold State.restoreLater
  split
  · exact modPwr_rings (outage_rings s)
  · exact Rings.refl s

/-! ### Every start tells (R479, R481) -/

/-- The straps read once the event registers stand at their reset values (R353, R480). -/
def strapsRead (s : State) : State := ((s.clearRange 0x0400 0x0600).thaw .reset).readStraps.modLands (fun l =>
  { l with inReset := false, rstN := false, sw := false, tapHold := false, deferred := false })

theorem announce_eq (s : State) (kind : Nat) : s.announce kind =
    (((strapsRead s).wr A.SYS_BOOT (w16 (32768 * b2n (strapsRead s).lands.lastSw + 16384 * b2n (strapsRead s).lands.lastTap +
      4 * (strapsRead s).lands.pairId + (strapsRead s).lands.bootsel))).wr A.PWR_START (w16 kind)).raise evRESET
        (w16 (startData kind)) (w16 (2 * (strapsRead s).lands.bootsel + (strapsRead s).lands.pairId)) := rfl

theorem announce_lands (s : State) (kind : Nat) : (s.announce kind).lands = (strapsRead s).lands := by
  rw [announce_eq, raise_lands]
  rfl

theorem announce_shows (s : State) (kind : Nat) : (s.announce kind).rd A.PWR_START = w16 kind ∧
    eventBit (s.announce kind) evRESET = true ∧ (s.announce kind).lands.inReset = false := by
  refine ⟨?_, ?_, ?_⟩
  · rw [announce_eq, raise_rd _ _ _ _ (by decide) _ (by decide), rd_wr, if_pos rfl]
  · rw [announce_eq]
    exact raise_self _ _ _ _
  · rw [announce_lands]
    rfl

/-- What the supervisor's start may change. -/
def safetyReach : Parts := raising
  { regs := [.GATE_BSTUVCNT, .GATE_FLT, .PROT_AXSTAT, .SAFE_FLTEN, .SAFE_WDCFG], ops := true, tim := true, hb := true, bank := true
    ax := true, safe := true }

theorem resetSafety_only (s : State) : Only safetyReach s s.resetSafety :=
  only_of_forget (resetSafety_forget _ s (mayRaise_raising _) rfl rfl rfl rfl rfl rfl (has_of_mem (by decide))
    (has_of_mem (by decide)) (has_of_mem (by decide)) (has_of_mem (by decide)) (has_of_mem (by decide)))

/-- The registers and engines of a release before it is announced (Table LAND-8). -/
def renewed (s : State) (kind : Nat) : State :=
  if kind = startRST then ((s.resetRegs.resetEngines).resetRole).satInc A.SYS_RSTCNT else (s.resetRegs.resetEngines).resetRole

/-- A release before its boot load. -/
def released (s : State) (kind : Nat) : State := ((renewed s kind).announce kind).resetSafety

theorem release'_eq (s : State) (kind : Nat) : s.release' kind = (released s kind).boot := rfl

theorem satInc_pwr (s : State) (a : Nat) : (s.satInc a).pwr = s.pwr := rfl

theorem resetRole_pwr (s : State) : s.resetRole.pwr = s.pwr := rfl

theorem resetEngines_pwr (s : State) : s.resetEngines.pwr = s.pwr :=
  pwr_of (resetEngines_forget besidesPwr s rfl rfl rfl rfl rfl rfl rfl rfl rfl rfl rfl rfl)

theorem resetRegs_pwr (s : State) : s.resetRegs.pwr = s.pwr := pwr_of (resetRegs_forget besidesPwr s besidesPwr_all)

theorem renewed_pwr (s : State) (kind : Nat) : (renewed s kind).pwr = s.pwr := by
  unfold renewed
  split
  · rw [satInc_pwr, resetRole_pwr, resetEngines_pwr, resetRegs_pwr]
  · rw [resetRole_pwr, resetEngines_pwr, resetRegs_pwr]

theorem boot_only (s : State) : Only { img := true } s s.boot := only_of_forget (boot_forget _ s rfl)

theorem release'_pwr (s : State) (kind : Nat) : (s.release' kind).pwr = s.pwr := by
  rw [release'_eq, (boot_only _).pwr rfl, released, resetSafety_pwr, announce_pwr, renewed_pwr]

/-- What a release shows. -/
theorem release'_shows (s : State) (kind : Nat) : (s.release' kind).rd A.PWR_START = w16 kind ∧
    eventBit (s.release' kind) evRESET = true ∧ (s.release' kind).lands = (strapsRead (renewed s kind)).lands := by
  obtain ⟨hstart, hreset, _⟩ := announce_shows (renewed s kind) kind
  rw [release'_eq]
  refine ⟨?_, ?_, ?_⟩
  · rw [(boot_only _).regs _ rfl, released, (resetSafety_only _).regs _ (by decide +kernel), hstart]
  · exact ((resetSafety_rings _).trans (boot_rings _)).event (by decide) hreset
  · rw [(boot_only _).lands rfl, released, (resetSafety_only _).lands rfl, announce_lands]

theorem release'_up (s : State) (kind : Nat) : (s.release' kind).up = s.pwr.core := by
  unfold State.up
  rw [release'_pwr, (release'_shows s kind).2.2]
  show (s.pwr.core && !false) = _
  rw [Bool.not_false, Bool.and_true]

/-! ### The warm restart (R377) -/

theorem warmSafe_shows (s : State) : (warmSafe s).rd A.PWR_START = 3 ∧ eventBit (warmSafe s) evRESET = true := by
  obtain ⟨hstart, hreset, _⟩ := announce_shows
    ((s.toMain.modLands (fun l => { l with lastSw := false, lastTap := false })).resetRole) startWARM
  exact ⟨((resetSafety_only _).regs _ (by decide +kernel)).trans hstart, (resetSafety_rings _).event (by decide) hreset⟩

/-- What an announcement may change beside pin float and the supervisor. -/
def announceReach : Parts := recording { blks := [.evt], regs := [.PWR_START, .SYS_BOOT], free := true, lands := true }

theorem announce_only (s : State) (kind : Nat) : Only announceReach s (s.announce kind) :=
  only_of_forget (announce_forget _ s kind (mayRecord_recording _) rfl rfl (by decide) (has_of_mem (by decide))
    (has_of_mem (by decide)))

theorem warmSafe_ticks (s : State) : (warmSafe s).clk.ticks = s.clk.ticks := by
  have h : (warmSafe s).clk = s.toMain.clk := ((resetSafety_only _).clk rfl).trans ((announce_only _ startWARM).clk rfl)
  rw [h]
  rfl

/-- What the judgement of pin float may change. -/
def floatReach : Parts := raising
  { regs := [.GATE_BSTUVCNT, .GATE_FLT], tim := true, hb := true, bank := true, pair := true }

theorem refloatAll_only (s : State) (t : Nat) : Only floatReach s (s.refloatAll t) :=
  only_of_forget (refloatAll_forget _ s t (mayRaise_raising _) rfl rfl rfl rfl (has_of_mem (by decide)) (has_of_mem (by decide)))

/-- What a request may change. -/
def requestReach : Parts := raising domainReach

theorem applyReq_only (s : State) (t cause : Nat) : Only requestReach s (s.applyReq t cause) :=
  only_of_forget (applyReq_forget _ s t cause (mayRaise_raising _) rfl rfl rfl rfl rfl rfl rfl rfl rfl rfl rfl rfl
    (has_of_mem (by decide)) (has_of_mem (by decide)))

theorem restoreLater_rd (s : State) {a : Nat} (h1 : a ≠ A.PWR_LASTOUT) (h2 : a ≠ A.PWR_LASTBNC) :
    s.restoreLater.rd a = s.rd a := by
  unfold State.restoreLater
  split
  · show ((s.wr A.PWR_LASTOUT _).wr A.PWR_LASTBNC _).rd a = _
    rw [rd_wr, if_neg h2, rd_wr, if_neg h1]
  · rfl

theorem restoreLater_outage {s : State} (h : 5 ≤ s.pwr.step) : s.restoreLater.pwr.restore = true ∧
    s.restoreLater.rd A.PWR_LASTOUT = w16 (satU ((s.clk.ticks - s.pwr.t0) / 1000)) ∧
    s.restoreLater.rd A.PWR_LASTBNC = w16 s.pwr.bounces := by
  unfold State.restoreLater
  rw [if_pos h]
  refine ⟨rfl, ?_, ?_⟩
  · show ((s.wr A.PWR_LASTOUT _).wr A.PWR_LASTBNC _).rd _ = _
    rw [rd_wr, if_neg (by decide), rd_wr, if_pos rfl]
  · show ((s.wr A.PWR_LASTOUT _).wr A.PWR_LASTBNC _).rd _ = _
    rw [rd_wr, if_pos rfl]

theorem each_off_restore (t : Nat) (l : List Nat) (s : State) : (s.each l (offStep t)).pwr.restore = s.pwr.restore :=
  each_keeps (f := offStep t) (fun u => u.pwr.restore) (fun u d => by rw [offStep, domOff_pwr]) l s

/-- A report that is owed stays owed until it is made (R377). -/
theorem applyReq_restores {s : State} (h : s.pwr.restore = true) (t cause : Nat) :
    (s.applyReq t cause).pwr.restore = true ∨ eventBit (s.applyReq t cause) evPWR_RESTORE = true := by
  by_cases hst : s.pwr.st = .main
  · cases hidle : s.domBusy with
    | true =>
      unfold State.applyReq
      rw [if_neg (by rw [hst]; decide), if_pos hidle]
      exact Or.inl h
    | false =>
      have hoffs := (each_off_restore t (reqOffs s) s).trans h
      rw [applyReq_eq hst hidle]
      split
      · split
        · exact Or.inl hoffs
        · refine Or.inr ?_
          unfold State.sayRestored
          rw [if_pos (by rw [State.raiseDomSw, raise_pwr]; exact hoffs)]
          exact raise_self _ _ _ _
      · exact Or.inl hoffs
  · unfold State.applyReq
    rw [if_pos hst]
    exact Or.inl h

theorem warmRestart_spec {s : State} (h : s.lands.inReset = false) : s.warmRestart.pwr.st = .main ∧
    s.warmRestart.rd A.PWR_START = 3 ∧ eventBit s.warmRestart evRESET = true ∧
    (5 ≤ s.pwr.step → (s.warmRestart.pwr.restore = true ∨ eventBit s.warmRestart evPWR_RESTORE = true) ∧
      s.warmRestart.rd A.PWR_LASTOUT = w16 (satU ((s.clk.ticks - s.pwr.t0) / 1000)) ∧
      s.warmRestart.rd A.PWR_LASTBNC = w16 s.pwr.bounces) := by
  obtain ⟨hstart, hreset⟩ := warmSafe_shows s
  have hst := congrArg Pwr.st (warmRestart_fixed s)
  rw [warmRestart_eq h] at hst ⊢
  refine ⟨hst, ?_, ?_, fun hstep => ?_⟩
  · rw [(applyReq_only _ _ _).regs _ (by decide +kernel), warmStarted, restoreLater_rd _ (by decide) (by decide),
      (refloatAll_only _ _).regs _ (by decide +kernel), hstart]
  · exact ((refloatAll_rings (Rings.refl _)).trans ((restoreLater_rings _).trans (applyReq_rings _ _ _))).event (by decide) hreset
  · have hpwr : ((warmSafe s).refloatAll (200 * (warmSafe s).clk.ticks)).pwr = s.toMain.pwr :=
      (refloatAll_pwr _ _).trans (warmSafe_pwr s)
    have hticks : ((warmSafe s).refloatAll (200 * (warmSafe s).clk.ticks)).clk.ticks = s.clk.ticks :=
      (congrArg Clk.ticks ((refloatAll_only _ _).clk rfl)).trans (warmSafe_ticks s)
    obtain ⟨hrest, hout, hbnc⟩ := restoreLater_outage (s := (warmSafe s).refloatAll (200 * (warmSafe s).clk.ticks))
      (by rw [hpwr]; exact hstep)
    refine ⟨applyReq_restores hrest _ _, ?_, ?_⟩
    · rw [(applyReq_only _ _ _).regs _ (by decide +kernel), warmStarted, hout, hticks, hpwr]
      rfl
    · rw [(applyReq_only _ _ _).regs _ (by decide +kernel), warmStarted, hbnc, hpwr]
      rfl

/-! ### The CORE power-on (R378) -/

/-- A CORE power-on before its release. -/
def coreStarted (s : State) : State :=
  (s.toMain.modRcd (fun _ => Recorder.reset)).modStore (fun t => { t with jq := [], stage := none })

theorem corePowerOn_eq {s : State} (hv : s.pwr.vioOk = true) (hr : s.lands.rstN = false) (ht : s.lands.tapHold = false) :
    s.corePowerOn = ((coreStarted s).release' startCORE).restored := by
  unfold State.corePowerOn
  refine if_pos ?_
  show (s.pwr.vioOk && !s.lands.rstN && !s.lands.tapHold) = true
  rw [hv, hr, ht]
  rfl

theorem restored_pwr (s : State) : s.restored.pwr = s.pwr :=
  pwr_of (restored_forget besidesPwr s besidesPwr_raises (besidesPwr_has _) (besidesPwr_has _))

theorem restored_only (s : State) : Only (raising { regs := [.PWR_LASTBNC, .PWR_LASTOUT] }) s s.restored :=
  only_of_forget (restored_forget _ s (mayRaise_raising _) (has_of_mem (by decide)) (has_of_mem (by decide)))

theorem restored_event {s : State} (h : 5 ≤ s.pwr.step) : eventBit s.restored evPWR_RESTORE = true := by
  unfold State.restored
  rw [if_pos h]
  exact raise_self _ _ _ _

theorem corePowerOn_spec {s : State} (hv : s.pwr.vioOk = true) (hr : s.lands.rstN = false) (ht : s.lands.tapHold = false) :
    s.corePowerOn.pwr.st = .main ∧ s.corePowerOn.up = true ∧ s.corePowerOn.rd A.PWR_START = 1 ∧
    eventBit s.corePowerOn evRESET = true ∧ (5 ≤ s.pwr.step → eventBit s.corePowerOn evPWR_RESTORE = true) := by
  obtain ⟨hstart, hreset, _⟩ := release'_shows (coreStarted s) startCORE
  have hpwr := release'_pwr (coreStarted s) startCORE
  have hup := release'_up (coreStarted s) startCORE
  rw [corePowerOn_eq hv hr ht]
  generalize (coreStarted s).release' startCORE = u at hstart hreset hpwr hup ⊢
  refine ⟨?_, ?_, ?_, ?_, fun hstep => restored_event (by rw [hpwr]; exact hstep)⟩
  · rw [restored_pwr, hpwr]
    rfl
  · rw [State.up, restored_pwr, (restored_only u).lands rfl]
    exact hup
  · rw [(restored_only u).regs _ (by decide +kernel), hstart]
    rfl
  · exact (restored_rings u).event (by decide) hreset

/-! ### VMAIN and its bounces (R375, R376) -/

section Outside
variable {s : State} (hm : s.pwr.st ≠ .main) (hd : s.pwr.st ≠ .down)
include hm hd

theorem vmainOkRise_eq (h : s.pwr.vmainOk = false) : vmainOkRise s = s.modPwr (fun p =>
    { p with
      vmainOk := true, bounceArm := p.st != .backup || p.step != 0
      dwell := if p.st = .critical then none else some s.clk.ticks }) := by
  unfold vmainOkRise
  rw [if_neg (by rw [h]; exact fun hc => hc.elim hd nofun), if_neg hm]

/-- VMAIN noted as low. -/
def vmainLow (s : State) : State := s.modPwr (fun p => { p with vmainOk := false, dwell := none })

theorem vmainOkFall_eq : vmainOkFall s =
    if s.pwr.st = .hold then (vmainLow s).toBackup (200 * s.clk.ticks) else vmainLow s := by
  unfold vmainOkFall
  rw [if_neg hd, if_neg hm]
  rfl

end Outside

theorem vmainOkFall_fixed {s : State} (hm : s.pwr.st ≠ .main) (hd : s.pwr.st ≠ .down) :
    fixed (vmainOkFall s).pwr = fixed { s.pwr with
      vmainOk := false, dwell := none, st := if s.pwr.st = .hold then .backup else s.pwr.st
      core := if s.pwr.st = .hold then false else s.pwr.core
      flushed := if s.pwr.st = .hold then true else s.pwr.flushed } := by
  rw [vmainOkFall_eq hm hd]
  split
  · have h := coreOff_fixed (vmainLow s) (200 * s.clk.ticks)
    show fixed { ((vmainLow s).coreOff (200 * s.clk.ticks)).pwr with st := .backup } = _
    exact (congrArg (fun p : Pwr => { p with st := .backup }) h)
  · rfl

/-- What the loss of CORE may change. -/
def coreOffReach : Parts := raising
  { regs := [.GATE_BSTUVCNT, .GATE_FLT, .PWR_DOM_REQ, .STORE_JLOST], free := true, clk := true, ops := true, can := true, tim := true
    hb := true, bank := true, ax := true, fus := true, sched := true, sol := true, img := true, pwr := true, store := true
    pair := true, lands := true, win := true }

theorem vmainOkFall_bounces {s : State} (hm : s.pwr.st ≠ .main) (hd : s.pwr.st ≠ .down) :
    (vmainOkFall s).rd A.PWR_BOUNCECNT = s.rd A.PWR_BOUNCECNT := by
  rw [vmainOkFall_eq hm hd]
  split
  · exact (only_of_forget (toBackup_forget coreOffReach (vmainLow s) (200 * s.clk.ticks) (mayRaise_raising _) rfl rfl rfl rfl rfl rfl
      rfl rfl rfl rfl rfl rfl rfl rfl rfl rfl rfl (has_of_mem (by decide)) (has_of_mem (by decide)) (has_of_mem (by decide))
      (has_of_mem (by decide)))).regs _ (by decide +kernel)
  · rfl

/-- A bounce counted (R376). -/
def bounced (s : State) : State :=
  ((s.modPwr (fun p => { p with bounceArm := false, bounces := satU (p.bounces + 1) })).satInc A.PWR_BOUNCECNT).raise evPWR_BOUNCE 0 0

theorem bounced_pwr (s : State) : (bounced s).pwr = { s.pwr with bounceArm := false, bounces := satU (s.pwr.bounces + 1) } := by
  rw [bounced, raise_pwr]
  rfl

theorem bounced_count (s : State) : (bounced s).rd A.PWR_BOUNCECNT = w16 (satU ((s.rd A.PWR_BOUNCECNT).toNat + 1)) := by
  rw [bounced, raise_rd _ _ _ _ (by decide) _ (by decide), State.satInc, rd_wr, if_pos rfl]
  rfl

theorem vmainBounce_eq {s : State} (hm : s.pwr.st ≠ .main) (hd : s.pwr.st ≠ .down) (ha : s.pwr.bounceArm = true) :
    vmainBounce s = bounced (vmainOkFall s) := by
  have hfix : (vmainOkFall s).pwr.bounceArm = s.pwr.bounceArm := by
    have h := congrArg Pwr.bounceArm (vmainOkFall_fixed hm hd)
    exact h
  have harm : (vmainOkFall s).pwr.bounceArm = true := hfix.trans ha
  unfold vmainBounce
  rw [if_neg (fun h => h.elim hm hd)]
  exact if_pos harm

/-! ### The loss of VBAK (R384) -/

theorem allOff_dom (s : State) (t : Nat) {d : Nat} (h : d < 12) : (s.allOff t).dom d = false := by
  unfold State.allOff
  extract_lets s1
  cases hon : s1.pwr.on.getLsbD d with
  | false => exact each_off_stays (t := t) _ hon
  | true => exact each_off_mem (t := t) h (List.mem_filter.mpr ⟨List.mem_range.mpr h, hon⟩)

theorem on_zero {s : State} (h : ∀ d, d < 12 → s.dom d = false) : s.pwr.on = 0 := by
  refine BitVec.eq_of_getLsbD_eq (fun d hd => ?_)
  exact (h d hd).trans (BitVec.getLsbD_zero (w := 12) (i := d)).symm

theorem allOff_on (s : State) (t : Nat) : (s.allOff t).pwr.on = 0 := on_zero (fun _ h => allOff_dom s t h)

theorem dropCore_on (s : State) (t : Nat) : (s.dropCore t).pwr.on = 0 := by
  rw [dropCore_eq]
  exact allOff_on (resetQuiet s t) t

theorem coreOff_on (s : State) (t : Nat) : (s.coreOff t).pwr.on = 0 := by rw [coreOff_pwr, dropCore_on]

/-- What a reset may change beside the lands. -/
def dropReach : Parts := raising
  { regs := [.GATE_BSTUVCNT, .GATE_FLT, .PWR_DOM_REQ], free := true, ops := true, can := true, tim := true, hb := true, bank := true
    ax := true, fus := true, sched := true, sol := true, img := true, pwr := true, pair := true }

theorem dropCore_only (s : State) (t : Nat) : Only dropReach s (s.dropCore t) :=
  only_of_forget (dropCore_forget _ s t (mayRaise_raising _) rfl rfl rfl rfl rfl rfl rfl rfl rfl rfl rfl rfl rfl
    (has_of_mem (by decide)) (has_of_mem (by decide)) (has_of_mem (by decide)))

theorem ppsBreak_lands (s : State) (r : Rank) : (s.ppsBreak r).lands = s.lands :=
  (only_of_forget (ppsBreak_forget (raising { clk := true }) s r (mayRaise_raising _) rfl)).lands rfl

theorem coreOff_lands (s : State) (t : Nat) : (s.coreOff t).lands.inReset = true := by
  have h : (s.coreOff t).lands = (coreLost s).lands := by
    rw [coreOff_eq]
    exact (ppsBreak_lands _ _).trans ((dropCore_only (coreLost s) t).lands rfl)
  rw [h]
  rfl

theorem vbakMinLoss_spec (s : State) : (vbakMinLoss s).pwr.st = .down ∧ (vbakMinLoss s).pwr.core = false ∧
    (vbakMinLoss s).pwr.on = 0 ∧ (vbakMinLoss s).lands.inReset = true := by
  unfold vbakMinLoss
  extract_lets t s1
  exact ⟨rfl, congrArg Pwr.core (coreOff_fixed _ t), coreOff_on _ t, coreOff_lands _ t⟩

/-! ### The AON power-on (R113, R385) -/

theorem storeCut_only (s : State) : Only { free := true, store := true, mem := true } s s.storeCut :=
  only_of_forget (storeCut_forget _ s rfl rfl rfl)

theorem keyCut_idle {s : State} (h : s.img.keyRun = false) : s.keyCut = s := by
  unfold State.keyCut
  rw [h]
  rfl

theorem storeCut_idle {s : State} (hb : s.store.burst = none) (hc : ∀ c, s.store.comp = some c → c.erasing = false) :
    s.storeCut = s := by
  rw [storeCut_of_not_erasing hc, cutBurst, hb]
  rfl

theorem exec_aonPowerOn {s : State} (h : s.img.keyRun = false) (v : Bool) (x : Straps) :
    exec (.aonPowerOn ⟨v, x⟩) s = .next ((aonPowerOn v s.storeCut).strapped x) := by
  change execAonPowerOn ⟨v, x⟩ s = _
  have hkey : s.storeCut.keyCut = s.storeCut := keyCut_idle (by rw [(storeCut_only s).img rfl]; exact h)
  rw [execAonPowerOn, hkey]

theorem aonPowerOn_rd (v : Bool) (s : State) {a : Nat} (h : a ≠ A.IMG_KEYCHK) : (aonPowerOn v s).rd a = resetOf a := by
  show (mapGet (s.regs.filter (fun p => p.1 == A.IMG_KEYCHK)) a).getD (resetOf a) = resetOf a
  rw [mapGet_filter_out _ _ (fun p => p.1 == A.IMG_KEYCHK) (fun _ => beq_false_of_ne h)]
  rfl

section Exec
variable (s : State)

theorem exec_dwellComplete {d : Nat} (hd : s.pwr.dwell = some d) (hle : d + 20000 ≤ s.clk.ticks) : exec .dwellComplete s =
    .next (if s.pwr.st = .hold then s.warmRestart else if s.pwr.st = .backup then s.corePowerOn else s) := by
  change execDwellComplete s = _
  have hdw : s.dwelt = true := by
    unfold State.dwelt
    rw [hd]
    exact decide_eq_true hle
  rw [execDwellComplete, if_pos hdw]

theorem exec_vbakMinLoss (hm : s.pwr.st ≠ .main) (hd : s.pwr.st ≠ .down) : exec .vbakMinLoss s = .next (vbakMinLoss s) := by
  change execVbakMinLoss s = _
  rw [execVbakMinLoss, if_neg (fun h => h.elim hm hd)]

end Exec

/-- Settles O41: VMAIN's edges by the state of the supply, the restarts by what every start tells, and the ways down. -/
theorem restartsAndDown : Obligations.RestartsAndDown := by
  unfold Obligations.RestartsAndDown
  refine ⟨fun s hm hd => ⟨fun hv => congrArg _ (vmainOkRise_eq hm hd hv), ⟨_, rfl, ?_⟩, fun ha => ⟨vmainBounce s, rfl, ?_⟩,
    ⟨_, exec_vbakMinLoss s hm hd, vbakMinLoss_spec s⟩⟩, fun s hst => ⟨fun hv => ?_, ?_, ?_⟩,
    fun s d hd hle => ⟨fun hst hin => ?_, fun hst hv hr ht => ?_, fun hst => ?_⟩, fun s v x hkey => ?_⟩
  · have h := vmainOkFall_fixed hm hd
    exact ⟨congrArg Pwr.vmainOk h, congrArg Pwr.dwell h, congrArg Pwr.st h⟩
  · have h := vmainOkFall_fixed hm hd
    rw [vmainBounce_eq hm hd ha]
    refine ⟨?_, ?_, ?_, ?_, raise_self _ _ _ _⟩
    · rw [bounced_pwr]
      exact congrArg Pwr.dwell h
    · rw [bounced_pwr]
    · rw [bounced_pwr]
      have hb := congrArg Pwr.bounces h
      exact congrArg (fun n => satU (n + 1)) hb
    · rw [bounced_count, vmainOkFall_bounces hm hd]
  · change execVmainOkRise s = _
    rw [execVmainOkRise, vmainOkRise, if_neg (by rw [hst, hv]; exact fun h => h.elim nofun nofun), if_pos hst]
  · change execVmainOkFall s = _
    rw [execVmainOkFall, vmainOkFall, if_neg (by rw [hst]; exact nofun), if_pos hst]
  · change execVmainBounce s = _
    rw [execVmainBounce, vmainBounce, if_pos (Or.inl hst)]
  · exact ⟨_, (exec_dwellComplete s hd hle).trans (by rw [if_pos hst]), warmRestart_spec hin⟩
  · exact ⟨_, (exec_dwellComplete s hd hle).trans (by rw [if_neg (by rw [hst]; decide), if_pos hst]), corePowerOn_spec hv hr ht⟩
  · rw [exec_dwellComplete s hd hle, if_neg (by rw [hst]; decide), if_neg (by rw [hst]; decide)]
  · refine ⟨_, exec_aonPowerOn hkey v x, fun hb hc => ?_, ?_, ?_, ?_, rfl, rfl, rfl, rfl, rfl, rfl, rfl, rfl, fun a ha => ?_⟩
    · show s.storeCut.store.mem = _
      rw [storeCut_idle hb hc]
    · show s.storeCut.img.key = _
      rw [(storeCut_only s).img rfl]
    · show s.storeCut.img.keySt = _
      rw [(storeCut_only s).img rfl]
    · exact (storeCut_only s).pending
    · exact aonPowerOn_rd v s.storeCut ha

end Sys2Proof.Proofs
end

section
/-! SUPPORT. Proofs of the journal store's host commands (R393, R395, R396): what of the store a key's value depends on. -/
namespace Sys2Proof.Proofs
set_option Elab.async false
open Sys2Proof.Machine Sys2Proof.Safety Sys2Proof.Laws

/-! ### The value of a key depends on the array and on the marker being programmed (R391, R396) -/

/-- What of the store a reading of the array depends on. -/
def arrayView (s : State) : List Host.Cell × Option Burst × Bool × (Nat × Nat) :=
  (s.store.mem, s.store.burst, s.store.gateWait, s.store.span)

section View
variable {s t : State} (h : arrayView t = arrayView s)
include h

theorem arr_congr (a n : Nat) : t.arr a n = s.arr a n := by
  unfold State.arr
  rw [show t.store.mem = s.store.mem from congrArg Prod.fst h]

theorem arr32_congr (a : Nat) : t.arr32 a = s.arr32 a := by
  unfold State.arr32
  rw [arr_congr h]

theorem marking_congr (a : Nat) : t.marking a = s.marking a := by
  obtain ⟨_, h⟩ := Prod.mk.inj h
  obtain ⟨hb, h⟩ := Prod.mk.inj h
  obtain ⟨hg, hs⟩ := Prod.mk.inj h
  unfold State.marking
  rw [hb, hg, hs]

theorem recAt_congr (a : Nat) : t.recAt a = s.recAt a := by
  unfold State.recAt
  simp only [arr_congr h, arr32_congr h, marking_congr h]

theorem scan_congr (fuel a : Nat) : t.scan fuel a = s.scan fuel a := by
  induction fuel generalizing a with
  | zero => rfl
  | succ fuel ih =>
    unfold State.scan
    rw [recAt_congr h, arr_congr h]
    simp only [ih]

theorem secValid_congr (n : Nat) : t.secValid n = s.secValid n := by
  unfold State.secValid State.phase1
  simp only [arr_congr h, arr32_congr h]

theorem allRecs_congr : t.allRecs = s.allRecs := by
  have hv : t.secValid = s.secValid := funext (secValid_congr h)
  have hsc : t.secScan = s.secScan := funext (fun n => scan_congr h 256 _)
  unfold State.allRecs
  rw [hv, hsc]

theorem valueOf_congr (key : Nat) : t.valueOf key = s.valueOf key := by
  unfold State.valueOf
  rw [allRecs_congr h]

theorem payload_congr (x : RecAt) : t.payload x = s.payload x := by
  unfold State.payload
  simp only [arr_congr h]

end View

/-! ### The bounds of a record's fields (R390) -/

theorem leNat_lt (l : List Byte) : leNat l < 256 ^ l.length := by
  induction l with
  | nil => exact Nat.one_pos
  | cons b bs ih =>
    have hb := b.isLt
    show b.toNat + 256 * leNat bs < 256 ^ (bs.length + 1)
    rw [Nat.pow_succ]
    omega

theorem arr32_lt (s : State) (a : Nat) : s.arr32 a < 2 ^ 32 := by
  have h := leNat_lt (s.arr a 4)
  have hl : (s.arr a 4).length = 4 := by simp [State.arr, cellRds]
  rw [hl] at h
  exact h

/-- A record whose fields are in range. -/
def RecBounded (x : RecAt) : Prop := x.n ≤ 128 ∧ x.seq < 2 ^ 32

theorem recAt_bounded {s : State} {a : Nat} {x : RecAt} (h : s.recAt a = some x) : RecBounded x := by
  unfold State.recAt at h
  dsimp only at h
  split at h
  · exact nomatch h
  next hin =>
    have hx := Option.some.inj h
    rw [← hx]
    refine ⟨?_, arr32_lt s _⟩
    exact Nat.le_of_not_lt (fun hlt => hin (Or.inr (Or.inl hlt)))

theorem scan_bounded (s : State) : ∀ (fuel a : Nat), ∀ x ∈ (s.scan fuel a).1, RecBounded x := by
  intro fuel
  induction fuel with
  | zero => exact fun _ _ hx => nomatch hx
  | succ fuel ih =>
    intro a x hx
    unfold State.scan at hx
    split at hx
    · exact nomatch hx
    · split at hx
      · exact nomatch hx
      next y hy =>
        rcases List.mem_cons.mp hx with rfl | hx
        · exact recAt_bounded hy
        · exact ih _ x hx

theorem allRecs_bounded (s : State) : ∀ x ∈ s.allRecs, RecBounded x := by
  intro x hx
  obtain ⟨n, _, hn⟩ := List.mem_flatMap.mp hx
  exact scan_bounded s 256 _ x hn

/-- A choice among records that keeps the one it has or takes the next. -/
theorem foldl_choice_mem (f : Option RecAt → RecAt → Option RecAt) (hf : ∀ m x, f m x = some x ∨ f m x = m) :
    ∀ (l : List RecAt) (m : Option RecAt) {x : RecAt}, l.foldl f m = some x → x ∈ l ∨ m = some x := by
  intro l
  induction l with
  | nil => exact fun m x h => Or.inr h
  | cons y ys ih =>
    intro m x h
    rcases ih (f m y) h with hm | hm
    · exact Or.inl (List.mem_cons_of_mem y hm)
    · rcases hf m y with hy | hy
      · exact Or.inl (List.mem_cons.mpr (Or.inl (Option.some.inj (hm.symm.trans hy))))
      · exact Or.inr (hy.symm.trans hm)

theorem valueOf_bounded {s : State} {key : Nat} {x : RecAt} (h : s.valueOf key = some x) : RecBounded x := by
  obtain ⟨hn, _⟩ := Option.filter_eq_some_iff.mp h
  unfold newestOf at hn
  refine (foldl_choice_mem _ (fun m y => ?_) _ _ hn).elim (fun hm => allRecs_bounded s x (List.mem_filter.mp hm).1) nofun
  cases m with
  | none => exact Or.inl rfl
  | some z =>
    dsimp only
    split
    · exact Or.inl rfl
    · exact Or.inr rfl

/-! ### Writes and deletes (R393, R395) -/

/-- The stage is held, or the mount runs (R393, R405). -/
def stageHeld (s : State) : Prop :=
  s.store.mounting = true ∨ s.store.wst = .pending ∨ s.store.wst = .busy ∨ s.store.wst = .deferred

theorem loadStage_held {s : State} (h : stageHeld s) (words : List Word) :
    s.loadStage words = s.modStore (fun t => { t with refusal := 1 }) := by
  unfold State.loadStage
  refine if_pos ?_
  rcases h with h | h | h | h
  · rw [h, Bool.or_true]
  · rw [h]
    rfl
  · rw [h]
    rfl
  · rw [h]
    rfl

theorem loadStage_free {s : State} (hm : s.store.mounting = false) (h1 : s.store.wst ≠ .pending) (h2 : s.store.wst ≠ .busy)
    (h3 : s.store.wst ≠ .deferred) (words : List Word) : s.loadStage words =
    if 896 ≤ field (s.staged (A.STORE_WR 1)) 9 0 then s.modStore (fun t => { t with refusal := 2 })
    else s.modStore (fun t =>
      { t with
        stage := some ⟨field (s.staged (A.STORE_WR 1)) 9 0, words, t.seq, t.order, false, false⟩, wst := .pending
        refusal := 0, wkey := field (s.staged (A.STORE_WR 1)) 9 0, seq := (t.seq + 1) % 2 ^ 32, order := t.order + 1 }) := by
  unfold State.loadStage
  refine if_neg ?_
  rw [hm]
  cases hw : s.store.wst with
  | none => exact nofun
  | pending => exact absurd hw h1
  | busy => exact absurd hw h2
  | deferred => exact absurd hw h3
  | committed => exact nofun
  | failed => exact nofun

/-- The row of the two words of a write. -/
def storeWrRow : RegRow := ⟨.STORE_WR, 0x0A08, [(2, 1)], 0x0000, [fld 15 0 .WO]⟩

theorem lookup_storeWr : lookup (A.STORE_WR 0) = some (storeWrRow, [0]) := by decide +kernel

theorem writeWord_storeWr {s : State} {d : Word} (hl : s.legal (A.STORE_WR 0) d = true) (t : Nat) :
    s.writeWord t (A.STORE_WR 0) d = if field d 15 14 = 1 then storeWrite (field d 7 0) s else s.loadStage [] :=
  writeWord_core lookup_storeWr nofun nofun nofun (by decide) rfl hl t

theorem writeOp_fields (len : Byte) : field (w16 (0x4000 + len.toNat)) 15 14 = 1 ∧
    field (w16 (0x4000 + len.toNat)) 7 0 = len.toNat := by
  have h : ∀ n : Fin 256, field (w16 (0x4000 + n.val)) 15 14 = 1 ∧ field (w16 (0x4000 + n.val)) 7 0 = n.val := by decide +kernel
  exact h ⟨len.toNat, len.isLt⟩

section Host
variable {s : State} (hup : s.up = true) (hears : s.hears = true)
include hup hears

theorem exec_storeWrite {len : Byte} (hl : s.legal (A.STORE_WR 0) (w16 (0x4000 + len.toNat)) = true) :
    exec (.storeWrite len) s = .next (s.loadStage (s.rds (A.STORE_WBUF 0) len.toNat)) := by
  change execStoreWrite len s = _
  obtain ⟨hop, hlen⟩ := writeOp_fields len
  rw [execStoreWrite, hostWord_of_hears hup hears, writeWord_storeWr hl, hop, if_pos rfl, hlen]
  rfl

theorem exec_storeDelete : exec .storeDelete s = .next (s.loadStage []) := by
  change execStoreDelete s = _
  rw [execStoreDelete, whenHost_of_hears hup hears]

theorem exec_storeRead (key : Fin 1024) : exec (.storeRead key) s = .next (storeRead key.val s) := by
  change execStoreRead key s = _
  rw [execStoreRead, whenHost_of_hears hup hears]

end Host

/-! ### Reads (R396) -/

theorem badRecord_store (s : State) (x : RecAt) : (s.badRecord x).store = s.store := by
  unfold State.badRecord State.storeErr
  rw [raise_store]
  rfl

/-- The bad records of the key reported (R411). -/
def badTold (key : Nat) (s : State) : State :=
  (s.each (s.allRecs.filter (fun x => x.mark && !x.crcOk && x.key == key)) (fun s x => s.badRecord x)).modStore (fun t =>
    { t with rd := none })

theorem badTold_store (key : Nat) (s : State) : (badTold key s).store = { s.store with rd := none } := by
  have h := each_keeps (fun u => u.store) (fun u x => badRecord_store u x)
    (s.allRecs.filter (fun x => x.mark && !x.crcOk && x.key == key)) s
  exact congrArg (fun t : Store => { t with rd := none }) h

theorem badTold_view (key : Nat) (s : State) : arrayView (badTold key s) = arrayView s := by
  unfold arrayView
  rw [badTold_store]

/-- The words of a value read. -/
def valueShown (s : State) (x : RecAt) : State :=
  ((s.wrs (A.STORE_RBUF 0) ((s.payload x ++ List.replicate 128 0).take 128)).wrQ (A.STORE_RSEQ 0) 2 x.seq).wr A.STORE_RRES
    (w16 (32768 + x.n))

theorem storeReadDone_eq (key : Nat) (s : State) : storeReadDone key s =
    match s.valueOf key with
    | none => (badTold key s).wr A.STORE_RRES 0xC000
    | some x => valueShown (badTold key s) x := by
  unfold storeReadDone
  extract_lets s1 s2
  have hv : s2.valueOf key = s.valueOf key := valueOf_congr (badTold_view key s) key
  rw [hv]
  cases s.valueOf key with
  | none => rfl
  | some x => rfl

/-- The words of a value are shown in the read buffer, and its sequence number beside them. -/
theorem valueShown_spec {s : State} {x : RecAt} (h : RecBounded x) :
    (valueShown s x).rd A.STORE_RRES = w16 (32768 + x.n) ∧ (valueShown s x).rdQ2 (A.STORE_RSEQ 0) = x.seq ∧
    ∀ i, i < x.n → (valueShown s x).rd (A.STORE_RBUF i) = w16 (leNat (s.arr (x.addr + 8 + 2 * i) 2)) := by
  obtain ⟨hn, hseq⟩ := h
  unfold valueShown
  refine ⟨by rw [rd_wr, if_pos rfl], ?_, fun i hi => ?_⟩
  · generalize s.wrs (A.STORE_RBUF 0) _ = u
    have h0 := wrQ_at u (A.STORE_RSEQ 0) 2 x.seq (k := 0) (by omega)
    have h1 := wrQ_at u (A.STORE_RSEQ 0) 2 x.seq (k := 1) (by omega)
    unfold State.rdQ2
    rw [rd_wr, if_neg (by decide), rd_wr, if_neg (by decide)]
    rw [Nat.add_zero] at h0
    rw [h0, h1]
    exact quant2_words hseq
  · have hlen : i < ((s.payload x ++ List.replicate 128 0).take 128).length := by
      simp [State.payload]
      omega
    have hat := rd_wrs_at ((s.payload x ++ List.replicate 128 0).take 128) s (A.STORE_RBUF 0) i hlen
    have hrb : A.STORE_RBUF 0 + i = A.STORE_RBUF i := by
      unfold A.STORE_RBUF
      omega
    rw [hrb] at hat
    rw [rd_wr, if_neg (by unfold A.STORE_RBUF A.STORE_RRES; omega),
      wrQ_out _ _ _ _ (Or.inr (by unfold A.STORE_RBUF A.STORE_RSEQ; omega)), hat]
    have hp : i < (s.payload x).length := by simpa [State.payload] using hi
    rw [List.getElem_take, List.getElem_append_left hp]
    simp [State.payload]

theorem exec_storeReadDone {s : State} {key : Nat} (hk : s.store.rd = some key) (hm : s.store.mounting = false) :
    exec .storeReadDone s = .next (storeReadDone key s) := by
  change execStoreReadDone s = _
  unfold execStoreReadDone
  rw [hk]
  dsimp only
  rw [hm]
  rfl

theorem wrs_store (l : List Word) : ∀ (s : State) (a : Nat), (s.wrs a l).store = s.store := by
  induction l with
  | nil => exact fun _ _ => rfl
  | cons v vs ih => exact fun s a => ih (s.wr a v) (a + 1)

theorem valueShown_store (s : State) (x : RecAt) : (valueShown s x).store = s.store :=
  (wrs_store _ _ _).trans (wrs_store _ _ _)

/-- Settles O42: the stage by what holds it, and a read by the record that gives the key's value. -/
theorem storeCommands : Obligations.StoreCommands := by
  unfold Obligations.StoreCommands
  refine ⟨fun s len words i hup hears hi => ?_, fun s key hup hears => ⟨_, exec_storeRead hup hears key, ?_, rfl, rfl⟩,
    fun s key hk hm => ⟨fun hno => ⟨_, exec_storeReadDone hk hm, ?_⟩, fun x hx => ⟨_, exec_storeReadDone hk hm, ?_⟩⟩⟩
  · have hexec : exec i s = .next (s.loadStage words) := by
      rcases hi with ⟨rfl, rfl, hl⟩ | ⟨rfl, rfl⟩
      · exact exec_storeWrite hup hears hl
      · exact exec_storeDelete hup hears
    refine ⟨fun hm h1 h2 h3 => ⟨fun hlt => ?_, fun hge => ?_⟩, fun hheld => ?_⟩
    · rw [hexec, loadStage_free hm h1 h2 h3, if_neg (by omega)]
    · rw [hexec, loadStage_free hm h1 h2 h3, if_pos hge]
    · rw [hexec, loadStage_held hheld]
  · show (s.wr A.STORE_RRES 0x4000).rd _ = _
    rw [rd_wr, if_pos rfl]
  · rw [storeReadDone_eq, hno]
    refine ⟨?_, by rw [rd_wr, if_pos rfl]⟩
    show (badTold key s).store.rd = none
    rw [badTold_store]
  · rw [storeReadDone_eq, hx]
    obtain ⟨hres, hseq, hbuf⟩ := valueShown_spec (s := badTold key s) (valueOf_bounded hx)
    refine ⟨?_, hres, hseq, fun i hi => ?_⟩
    · show (valueShown (badTold key s) x).store.rd = none
      rw [valueShown_store, badTold_store]
    · rw [hbuf i hi, arr_congr (badTold_view key s)]

end Sys2Proof.Proofs
end

section
/-! SUPPORT. Proofs of the journal store's engine (R397 to R405, R412): appends, verified bursts, compaction and the mount. -/
namespace Sys2Proof.Proofs
set_option Elab.async false
open Sys2Proof.Machine Sys2Proof.Safety Sys2Proof.Laws

/-! ### What a raised event leaves of the store's registers -/

/-- A register that no raised event writes. -/
def Unraised (a : Nat) : Prop := (raising {}).covers a = false

theorem raise_keeps (s : State) (e : EvName) (d0 d1 : Word) (he : e.src < 128) {a : Nat} (h : Unraised a) :
    (s.raise e d0 d1).rd a = s.rd a :=
  (only_of_forget (raise_forget (raising {}) s e d0 d1 he (mayRaise_raising _))).regs a h

theorem defcnt_unraised : Unraised A.STORE_DEFCNT := by unfold Unraised; decide +kernel
theorem busycnt_unraised : Unraised A.STORE_BUSYCNT := by unfold Unraised; decide +kernel
theorem errlast_unraised : Unraised A.STORE_ERRLAST := by unfold Unraised; decide +kernel

theorem satInc_self (s : State) (a : Nat) : (s.satInc a).rd a = w16 (satU ((s.rd a).toNat + 1)) := by
  unfold State.satInc
  rw [rd_wr, if_pos rfl]

/-! ### The turn of a host item (R398, R399, R403) -/

theorem deferHost_wst (s : State) (h : HostStage) : (s.deferItem (.host h)).store.wst = .deferred := by
  unfold State.deferItem
  extract_lets d0 d1 s1 s2
  split
  · rfl
  · rw [raise_store]
    rfl

theorem deferHost_told {s : State} {h : HostStage} (ht : h.told = false) :
    eventBit (s.deferItem (.host h)) evCOMMIT_DEFER = true ∧
    (s.deferItem (.host h)).rd A.STORE_DEFCNT = w16 (satU ((s.rd A.STORE_DEFCNT).toNat + 1)) := by
  unfold State.deferItem
  extract_lets d0 d1 s1 s2
  rw [if_neg (by rw [show Item.told (.host h) = h.told from rfl, ht]; exact nofun)]
  refine ⟨raise_self _ _ _ _, ?_⟩
  rw [raise_keeps _ _ _ _ (by decide) defcnt_unraised, satInc_self]
  rfl

theorem busyHost_spec (s : State) (h : HostStage) : (s.busyItem (.host h)).store.wst = .busy ∧
    (s.busyItem (.host h)).store.mem = s.store.mem ∧ eventBit (s.busyItem (.host h)) evSTORE_BUSY = true ∧
    (s.busyItem (.host h)).rd A.STORE_BUSYCNT = w16 (satU ((s.rd A.STORE_BUSYCNT).toNat + 1)) := by
  unfold State.busyItem
  refine ⟨?_, ?_, raise_self _ _ _ _, ?_⟩
  · rw [raise_store]
    rfl
  · rw [raise_store]
    rfl
  · rw [raise_keeps _ _ _ _ (by decide) busycnt_unraised, satInc_self]
    rfl

section Append
variable {s : State} {h : HostStage} (hcomp : s.store.comp = none) (herase : s.store.toErase = [])
include hcomp herase

theorem appendItem_fits {n : Nat} (hfits : s.headFits (recSize h.words.length) = some n) : s.appendItem (.host h) =
    if s.gateOpen (burstCost (recSize h.words.length)) then
      s.putRecord n (recBytes h.key false h.words h.seq) (fun m => .record true n (some m))
    else s.deferItem (.host h) := by
  unfold State.appendItem
  extract_lets ws size
  rw [hcomp, herase]
  dsimp only [Option.any_none]
  rw [if_neg nofun, show s.headFits size = some n from hfits]
  rfl

theorem appendItem_full (hno : s.headFits (recSize h.words.length) = none) (hfree : s.storeFree = 0) :
    s.appendItem (.host h) = s.busyItem (.host h) := by
  unfold State.appendItem
  extract_lets ws size
  rw [hcomp, herase]
  dsimp only [Option.any_none]
  rw [if_neg nofun, show s.headFits size = none from hno]
  dsimp only
  rw [if_pos (by unfold State.storeFree at hfree; omega)]

end Append

section Turn
variable {s : State} {h : HostStage} (hq : s.store.jq = []) (hstage : s.store.stage = some h) (hw : s.store.wst = .pending)
include hq hstage hw

theorem storeAppend_host : storeAppend s =
    if h.words.isEmpty && (s.valueOf h.key).isNone then s.endStage .committed else s.appendItem (.host h) := by
  have hnext : s.nextItem = some (.host h) := by
    unfold State.nextItem
    rw [hq, hstage]
  unfold storeAppend
  rw [hnext]
  dsimp only
  rw [if_neg (by rw [show s.itemSt (.host h) = s.store.wst from rfl, hw]; exact nofun)]

theorem exec_storeAppend_host (hcore : s.pwr.core = true) (hm : s.store.mounting = false) (hburst : s.store.burst = none)
    (hcomp : s.store.comp = none) : exec .storeAppend s =
    .next (if h.words.isEmpty && (s.valueOf h.key).isNone then s.endStage .committed else s.appendItem (.host h)) := by
  change execStoreAppend s = _
  unfold execStoreAppend
  rw [hcore, hm, hburst, hcomp, storeAppend_host hq hstage hw]
  simp

end Turn

/-- The turn of the host's item: at the head when it fits and the gate is open, else deferred or BUSY. -/
theorem hostTurn {s : State} {h : HostStage} (hcore : s.pwr.core = true) (hm : s.store.mounting = false)
    (hburst : s.store.burst = none) (hcomp : s.store.comp = none) (hq : s.store.jq = []) (hstage : s.store.stage = some h)
    (hw : s.store.wst = .pending) :
    (h.words = [] → s.valueOf h.key = none → exec .storeAppend s = .next (s.endStage .committed)) ∧
    (h.words ≠ [] → s.store.toErase = [] →
      (∀ n, s.headFits (recSize h.words.length) = some n →
        (s.gateOpen (burstCost (recSize h.words.length)) = true → ∃ t, exec .storeAppend s = .next t ∧
          t.store.mem = cellWrs 0xFF s.store.mem (secBase n + s.store.pos) (recBytes h.key false h.words h.seq) ∧
          t.store.burst.isSome = true) ∧
        (s.gateOpen (burstCost (recSize h.words.length)) = false → ∃ t, exec .storeAppend s = .next t ∧
          t.store.wst = .deferred ∧ t.store.mem = s.store.mem ∧ (h.told = false → eventBit t evCOMMIT_DEFER = true ∧
            t.rd A.STORE_DEFCNT = w16 (satU ((s.rd A.STORE_DEFCNT).toNat + 1))))) ∧
      (s.headFits (recSize h.words.length) = none → s.storeFree = 0 → ∃ t, exec .storeAppend s = .next t ∧
        t.store.wst = .busy ∧ t.store.mem = s.store.mem ∧ eventBit t evSTORE_BUSY = true ∧
        t.rd A.STORE_BUSYCNT = w16 (satU ((s.rd A.STORE_BUSYCNT).toNat + 1)))) := by
  have hexec := exec_storeAppend_host hq hstage hw hcore hm hburst hcomp
  refine ⟨fun he hno => ?_, fun hne herase => ?_⟩
  · rw [hexec, he, hno]
    rfl
  · have happ : exec .storeAppend s = .next (s.appendItem (.host h)) := by
      rw [hexec, if_neg (by simp [hne])]
    refine ⟨fun n hfits => ⟨fun hopen => ⟨_, happ, ?_⟩, fun hclosed => ⟨_, happ, ?_⟩⟩, fun hno hfree => ⟨_, happ, ?_⟩⟩
    · rw [appendItem_fits hcomp herase hfits, if_pos hopen]
      exact ⟨rfl, rfl⟩
    · rw [appendItem_fits hcomp herase hfits, if_neg (by rw [hclosed]; exact nofun)]
      exact ⟨deferHost_wst s h, deferItem_mem _, deferHost_told⟩
    · rw [appendItem_full hcomp herase hno hfree]
      exact busyHost_spec s h

/-! ### Verified bursts of an item (R400, R412) -/

/-- A failed burst of a sector is shown and reported. -/
structure ErrorShown (n : Nat) (t : State) : Prop where
  burst : t.store.burst = none
  sealed : t.store.sealed = true
  last : t.rd A.STORE_ERRLAST = w16 n
  event : eventBit t evSTORE_ERR = true

/-- The head sealed and the failed burst reported. -/
def sealedTold (s : State) (n : Nat) : State := (s.modStore (fun t => { t with sealed := true })).storeErr n 2

theorem storeErr_store (s : State) (n c : Nat) : (s.storeErr n c).store = s.store := by
  unfold State.storeErr
  rw [raise_store]
  rfl

theorem sealedTold_shown {s : State} (hb : s.store.burst = none) (n : Nat) : ErrorShown n (sealedTold s n) := by
  unfold sealedTold
  refine ⟨?_, ?_, ?_, raise_self _ _ _ _⟩
  · rw [storeErr_store]
    exact hb
  · rw [storeErr_store]
    rfl
  · unfold State.storeErr
    rw [raise_keeps _ _ _ _ (by decide) errlast_unraised, rd_wr, if_pos rfl]

theorem modFront_fixed (s : State) (f : JEvent → JEvent) :
    (s.modFront f).store.burst = s.store.burst ∧ (s.modFront f).store.sealed = s.store.sealed := by
  unfold State.modFront State.modStore
  dsimp only
  split
  · exact ⟨rfl, rfl⟩
  · exact ⟨rfl, rfl⟩

theorem failItem_shown {s : State} (hb : s.store.burst = none) (host : Bool) (n : Nat) : ErrorShown n (s.failItem host n) := by
  have hs : ErrorShown n (sealedTold s n) := sealedTold_shown hb n
  unfold State.failItem
  extract_lets s1
  have h1 : s1 = sealedTold s n := rfl
  rw [h1]
  generalize sealedTold s n = u at hs ⊢
  obtain ⟨hburst, hsealed, hlast, hevent⟩ := hs
  split
  · split
    · exact ⟨hburst, hsealed, hlast, hevent⟩
    · split
      · exact ⟨hburst, hsealed, hlast, hevent⟩
      · exact ⟨hburst, hsealed, hlast, hevent⟩
  · split
    · exact ⟨hburst, hsealed, hlast, hevent⟩
    next e r hq =>
      split
      · refine ⟨hburst, hsealed, ?_, ?_⟩
        · exact (satInc_rd u A.STORE_JLOST A.STORE_ERRLAST (by decide)).trans hlast
        · exact (congrArg (fun w => bit w (evSTORE_ERR.src % 16)) (satInc_rd u A.STORE_JLOST _ (by decide))).trans hevent
      · obtain ⟨hfb, hfs⟩ := modFront_fixed u (fun e => { e with tried := true })
        exact ⟨hfb.trans hburst, hfs.trans hsealed, hlast, hevent⟩

theorem burstTorn_of_mem {s t : State} (h : t.store.mem = (s.tear (s.store.span.2 - 1)).store.mem) : BurstTorn s t := by
  obtain ⟨k, hpart, hk⟩ := tear_torn (s := s)
  refine ⟨k, fun a => ?_, hk⟩
  rw [h]
  exact hpart a

/-- The array torn and the burst over. -/
def tornOff (s : State) : State := (s.tear (s.store.span.2 - 1)).modStore (fun t => { t with burst := none })

section Done
variable {s : State} {b : Burst} (hgate : s.store.gateWait = false) (hb : s.store.burst = some b)
include hgate hb

theorem exec_burstGood : exec (.programBurstDone true) s = .next (s.burstGood b) := by
  rw [show exec (.programBurstDone true) s = .next (programBurstDone true s) from rfl, programBurstDone, hb]
  dsimp only
  rw [hgate, if_neg nofun, if_pos rfl]

theorem exec_burstBad : exec (.programBurstDone false) s = .next (s.burstBad b) := by
  rw [show exec (.programBurstDone false) s = .next (programBurstDone false s) from rfl, programBurstDone, hb]
  dsimp only
  rw [hgate, if_neg nofun, if_neg nofun]

end Done

/-- The bursts of a record: its marker follows, the marker commits it, a failed one is reported. -/
theorem recordBursts {s : State} {host : Bool} {n a : Nat} (hgate : s.store.gateWait = false) :
    (s.store.burst = some (.record host n (some a)) → s.gateOpen 1 = true → ∃ t, exec (.programBurstDone true) s = .next t ∧
      t.store.mem = cellWrs 0xFF s.store.mem a (leBytes 4 markerM) ∧ t.store.burst = some (.record host n none)) ∧
    (s.store.burst = some (.record true n none) → ∃ t, exec (.programBurstDone true) s = .next t ∧ t.store.burst = none ∧
      t.store.wst = .committed ∧ t.store.stage = none ∧ t.store.mem = s.store.mem) ∧
    (s.store.burst = some (.record host n none) ∨ s.store.burst = some (.record host n (some a)) → ∃ t,
      exec (.programBurstDone false) s = .next t ∧ t.store.burst = none ∧ t.store.sealed = true ∧
      t.rd A.STORE_ERRLAST = w16 n ∧ eventBit t evSTORE_ERR = true ∧ BurstTorn s t) := by
  have hbad {m : Option Nat} (hb : s.store.burst = some (.record host n m)) : ∃ t,
      exec (.programBurstDone false) s = .next t ∧ t.store.burst = none ∧ t.store.sealed = true ∧
      t.rd A.STORE_ERRLAST = w16 n ∧ eventBit t evSTORE_ERR = true ∧ BurstTorn s t := by
    obtain ⟨hburst, hsealed, hlast, hevent⟩ := failItem_shown (s := tornOff s) rfl host n
    exact ⟨_, exec_burstBad hgate hb, hburst, hsealed, hlast, hevent, burstTorn_of_mem (burstBad_mem _)⟩
  refine ⟨fun hb hopen => ⟨_, exec_burstGood hgate hb, ?_⟩, fun hb => ⟨_, exec_burstGood hgate hb, ?_⟩, ?_⟩
  · show (s.startMarker a (.record host n none)).store.mem = _ ∧ (s.startMarker a (.record host n none)).store.burst = _
    unfold State.startMarker
    rw [if_pos hopen]
    exact ⟨rfl, rfl⟩
  · exact ⟨rfl, rfl, rfl, rfl⟩
  · rintro (hb | hb)
    · exact hbad hb
    · exact hbad hb

/-! ### The end of a step of compaction, and a copy that fails (R401, R412) -/

theorem exec_compactionStep_running {s : State} {c : Comp} (hcore : s.pwr.core = true) (hm : s.store.mounting = false)
    (hburst : s.store.burst = none) (hc : s.store.comp = some c) (he : c.erasing = false) :
    exec .compactionStep s = .next (s.compBurst c) := by
  change execCompactionStep s = _
  unfold execCompactionStep
  rw [hcore, hm, hburst]
  show Host.Outcome.next (compactionStep s) = _
  unfold compactionStep
  rw [hc]
  dsimp only
  rw [he, if_neg nofun]

theorem eraseBytes_erased (s : State) (n : Nat) : (s.eraseBytes n).secErased n = true :=
  List.all_eq_true.mpr (fun _ hc => (List.mem_filter.mp hc).2)

/-- A step that has copied its sector: the release marker, then the erase. -/
theorem emptiedStep {s : State} {c : Comp} (hcore : s.pwr.core = true) (hm : s.store.mounting = false)
    (hburst : s.store.burst = none) (hc : s.store.comp = some c) (he : c.erasing = false) (htodo : c.todo = []) :
    (c.released = false → s.gateOpen 1 = true → ∃ t, exec .compactionStep s = .next t ∧
      t.store.mem = cellWrs 0xFF s.store.mem (secBase c.victim + 20) (leBytes 4 markerM) ∧
      t.store.burst = some (.release c.victim)) ∧
    (c.released = true → s.gateOpen 2 = true → ∃ t, exec .compactionStep s = .next t ∧ t.secErased c.victim = true ∧
      (∀ a, a < secBase c.victim ∨ secBase (c.victim + 1) ≤ a → cellRd 0xFF t.store.mem a = cellRd 0xFF s.store.mem a) ∧
      ∃ c', t.store.comp = some c' ∧ c'.erasing = true) := by
  have hexec := exec_compactionStep_running hcore hm hburst hc he
  have hcost : s.compCost c = if c.released then 2 else 1 := by
    unfold State.compCost
    rw [htodo]
  refine ⟨fun hr hopen => ⟨_, hexec, ?_⟩, fun hr hopen => ⟨_, hexec, ?_⟩⟩
  · unfold State.compBurst
    rw [hcost, hr, if_neg (c := (false = true)) nofun, if_pos hopen]
    unfold State.compNext
    rw [htodo]
    dsimp only
    rw [hr]
    exact ⟨rfl, rfl⟩
  · unfold State.compBurst
    rw [hcost, hr, if_pos (c := (true = true)) rfl, if_pos hopen]
    unfold State.compNext
    rw [htodo]
    dsimp only
    rw [hr, if_pos rfl]
    refine ⟨eraseBytes_erased s c.victim, fun a ha => ?_, _, rfl, rfl⟩
    show cellRd 0xFF (s.eraseBytes c.victim).store.mem a = _
    rw [eraseBytes_rd, if_pos (by unfold secBase at ha ⊢; omega)]

theorem failComp_shown {s : State} {n : Nat} (h : ErrorShown n s) : ErrorShown n s.failComp ∧ s.failComp.store.comp = none := by
  have hend {u : State} (hu : ErrorShown n u ∧ u.store.comp = none) (i : Fin 8) (st : OpState) (f : Nat) :
      ErrorShown n (u.endSlot i st f) ∧ (u.endSlot i st f).store.comp = none := by
    obtain ⟨⟨hburst, hsealed, hlast, hevent⟩, hcomp⟩ := hu
    have hstore : (u.endSlot i st f).store = u.store :=
      (only_of_forget (endSlot_forget (raising { ops := true }) u i st f (mayRaise_raising _) rfl)).store rfl
    have hreg : (u.endSlot i st f).rd A.STORE_ERRLAST = u.rd A.STORE_ERRLAST :=
      (only_of_forget (endSlot_forget (raising { ops := true }) u i st f (mayRaise_raising _) rfl)).regs _ (by decide +kernel)
    exact ⟨⟨by rw [hstore, hburst], by rw [hstore, hsealed], hreg.trans hlast,
      (endSlot_rings (Rings.refl u)).event (by decide) hevent⟩, by rw [hstore, hcomp]⟩
  have h0 : ErrorShown n (s.modStore (fun t => { t with comp := none })) := ⟨h.burst, h.sealed, h.last, h.event⟩
  unfold State.failComp
  extract_lets op s1
  split
  · split
    · exact ⟨h0, rfl⟩
    · split
      · exact hend ⟨h0, rfl⟩ _ _ _
      · exact hend ⟨h0, rfl⟩ _ _ _
  · exact ⟨h0, rfl⟩

theorem failComp_operation {s : State} {c : Comp} {i : Fin 8} (hc : s.store.comp = some c) (hw : c.why = .operation)
    (hrun : s.running opCOMPACT = some i) (hab : (s.ops.slots[i]).abort = none) :
    (s.failComp.ops.slots[i]).st = .failed ∧ (s.failComp.ops.slots[i]).fail = failSTORE := by
  unfold State.failComp
  extract_lets op s1
  have hop : op = true := by
    show s.store.comp.any (fun c => c.why == .operation) = true
    rw [hc]
    simp [hw]
  have hrun1 : s1.running opCOMPACT = some i := hrun
  have hab1 : (s1.ops.slots[i]).abort = none := hab
  rw [if_pos hop, hrun1]
  dsimp only
  rw [hab1]
  dsimp only
  rw [endSlot_slot]
  exact ⟨rfl, rfl⟩

theorem failCopy_spec {s : State} {c : Comp} {n : Nat} (hb : s.store.burst = none) (hc : s.store.comp = some c) :
    ErrorShown n (s.failCopy n) ∧
    (c.tried = false → (s.failCopy n).store.comp = some { c with tried := true }) ∧
    (c.tried = true → (s.failCopy n).store.comp = none ∧ (c.why = .operation → ∀ i : Fin 8, s.running opCOMPACT = some i →
      (s.ops.slots[i]).abort = none →
      ((s.failCopy n).ops.slots[i]).st = .failed ∧ ((s.failCopy n).ops.slots[i]).fail = failSTORE)) := by
  have hs : ErrorShown n (sealedTold s n) := sealedTold_shown hb n
  have hc1 : (sealedTold s n).store.comp = some c := by
    unfold sealedTold
    rw [storeErr_store]
    exact hc
  have hops : (sealedTold s n).ops = s.ops := by
    unfold sealedTold State.storeErr
    rw [raise_ops]
    rfl
  have hany : (sealedTold s n).store.comp.any (fun c => c.tried) = c.tried := by rw [hc1]; rfl
  unfold State.failCopy
  extract_lets s1
  have h1 : s1 = sealedTold s n := rfl
  rw [h1, hany]
  cases htried : c.tried with
  | false =>
    refine ⟨⟨hs.burst, hs.sealed, hs.last, hs.event⟩, fun _ => ?_, nofun⟩
    show (sealedTold s n).store.comp.map _ = _
    rw [hc1]
    rfl
  | true =>
    rw [if_pos rfl]
    obtain ⟨hshown, hnone⟩ := failComp_shown hs
    refine ⟨hshown, nofun, fun _ => ⟨hnone, fun hw i hrun hab => failComp_operation hc1 hw ?_ ?_⟩⟩
    · unfold State.running at hrun ⊢
      rw [hops]
      exact hrun
    · rw [hops]
      exact hab

/-- A copy that does not read back (R412). -/
theorem copyBad {s : State} {c : Comp} {n : Nat} {m : Option Nat} (hgate : s.store.gateWait = false)
    (hb : s.store.burst = some (.copy n m)) (hc : s.store.comp = some c) : ∃ t, exec (.programBurstDone false) s = .next t ∧
    t.store.burst = none ∧ t.store.sealed = true ∧ t.rd A.STORE_ERRLAST = w16 n ∧ eventBit t evSTORE_ERR = true ∧
    BurstTorn s t ∧ (c.tried = false → t.store.comp = some { c with tried := true }) ∧
    (c.tried = true → t.store.comp = none ∧ (c.why = .operation → ∀ i : Fin 8, s.running opCOMPACT = some i →
      (s.ops.slots[i]).abort = none → (t.ops.slots[i]).st = .failed ∧ (t.ops.slots[i]).fail = failSTORE)) := by
  have hcomp : (tornOff s).store.comp = some c := hc
  have hops : (tornOff s).ops = s.ops := rfl
  obtain ⟨⟨hburst, hsealed, hlast, hevent⟩, honce, htwice⟩ := failCopy_spec (s := tornOff s) (n := n) rfl hcomp
  refine ⟨_, exec_burstBad hgate hb, hburst, hsealed, hlast, hevent, burstTorn_of_mem (burstBad_mem _), honce,
    fun ht => ⟨(htwice ht).1, fun hw i hrun hab => (htwice ht).2 hw i ?_ ?_⟩⟩
  · unfold State.running at hrun ⊢
    rw [hops]
    exact hrun
  · rw [hops]
    exact hab

/-! ### The mount (R405) -/

theorem storeMount_spec (s : State) : (storeMount s).store.mounting = false ∧ (storeMount s).store.mem = s.store.mem ∧
    (storeMount s).store.head = s.mountHead ∧
    (storeMount s).store.toErase = jSectors.filter (fun n => !s.secErased n && !s.secValid n) := by
  unfold storeMount
  extract_lets recs good head stop wears top wear evs last secs s1 s2
  rw [each_keeps (fun u => u.store) (fun u x => badRecord_store u x)]
  exact ⟨rfl, rfl, rfl, rfl⟩

/-- Settles O43: the bursts of appends, of compaction and of the mount, each by what its end stores and reports. -/
theorem storeEngine : Obligations.StoreEngine := by
  unfold Obligations.StoreEngine
  refine ⟨fun s h hcore hm hburst hcomp hq hstage hw => hostTurn hcore hm hburst hcomp hq hstage hw,
    fun s host n a hgate => recordBursts hgate, fun s c hcore hm hburst hc he htodo => emptiedStep hcore hm hburst hc he htodo,
    fun s c n m hgate hb hc => copyBad hgate hb hc, fun s hm hrun => ?_, fun s hm => ⟨_, ?_, storeMount_spec s⟩⟩
  · have hexec : exec .backgroundCompaction s = .next (backgroundCompaction s) := by
      change execBackgroundCompaction s = _
      unfold execBackgroundCompaction
      rw [hm, hrun]
      rfl
    refine ⟨fun hlow => ?_, fun hok => ?_⟩
    · rw [hexec, backgroundCompaction, if_pos hlow]
    · rw [hexec, backgroundCompaction, if_neg (by omega)]
  · change execStoreMountDone s = _
    unfold execStoreMountDone
    rw [if_pos hm]

end Sys2Proof.Proofs
end

section
/-! SUPPORT. Proofs of the pair's ownership (R417 to R422, R435): what of the pair a role change and the gate checks leave. -/
namespace Sys2Proof.Proofs
set_option Elab.async false
open Sys2Proof.Machine Sys2Proof.Safety Sys2Proof.Laws

/-! ### The pair beside its gate checks -/

/-- The pair without its gate checks. -/
def ungated (p : Pair) : Pair := { p with gchk := Vector.replicate 8 none }

theorem gateCheck_ungated (s : State) (t : Nat) (b : Fin 8) : ungated (s.gateCheck t b).pair = ungated s.pair := rfl

theorem gateChecks_ungated (s : State) (t : Nat) (l : List (Fin 8)) :
    ungated (s.each l (fun s b => s.gateCheck t b)).pair = ungated s.pair :=
  each_keeps (f := fun s b => s.gateCheck t b) (fun u => ungated u.pair) (fun u b => gateCheck_ungated u t b) l s

theorem refloatAll_ungated (s : State) (t : Nat) : ungated (s.refloatAll t).pair = ungated s.pair := by
  unfold State.refloatAll
  rw [gateChecks_ungated]
  exact each_keeps (f := fun s b => s.refloat t b) (fun u => ungated u.pair) (fun u b => congrArg ungated (refloat_pair u t b)) _ s

/-- The pair of a device that has become standby. -/
def standbyPair (p : Pair) (cause : Nat) : Pair :=
  { p with
    owner := false, ownCause := if p.take.isSome then 10 else cause, handPend := false, partnerReady := false, take := none
    claimAt := none }

theorem releaseOwner_ungated (s : State) (t cause : Nat) :
    ungated (s.releaseOwner t cause).pair = ungated (standbyPair s.pair cause) := by
  unfold State.releaseOwner
  extract_lets cause' s1
  rw [refloatAll_ungated, raise_pair]
  rfl

theorem releaseOwner_event (s : State) (t cause : Nat) : eventBit (s.releaseOwner t cause) evPAIR_OWNER = true := by
  unfold State.releaseOwner
  exact (refloatAll_rings (Rings.refl _)).event (by decide) (raise_self _ _ _ _)

/-! ### PAIR_OWN_IN (R417, R421) -/

/-- The level of PAIR_OWN_IN taken. -/
def ownTaken (t : Nat) (level : Bool) (s : State) : State :=
  s.modPair (fun p =>
    { p with
      ownIn := level, ownAt := t
      take := if level = true ∧ p.take = some .seen ∧ p.takeCause = 3 then none else p.take })

/-- A collision of claims judged (R421). -/
def claimJudged (t : Nat) (level equal : Bool) (s : State) : State :=
  if level && s.collides t then
    if equal then (s.modPair (fun p => { p with idclash := true })).releaseOwner t 9
    else if s.lands.pairId = 1 then s.releaseOwner t 9
    else s
  else s

theorem pairOwnInChange_eq {s : State} {level : Bool} (h : s.pair.ownIn ≠ level) (t : Nat) (equal : Bool) :
    pairOwnInChange t level equal s =
      (claimJudged t level equal (ownTaken t level s)).each allBanks (fun s b => s.gateCheck t b) := by
  unfold pairOwnInChange
  rw [if_neg h]
  rfl

theorem ownTaken_collides (t u : Nat) (level : Bool) (s : State) : (ownTaken t level s).collides u = s.collides u := rfl

theorem claimJudged_ownIn (t : Nat) (level equal : Bool) (s : State) :
    (claimJudged t level equal s).pair.ownIn = s.pair.ownIn ∧ (claimJudged t level equal s).pair.ownAt = s.pair.ownAt := by
  have hr (u : State) : (u.releaseOwner t 9).pair.ownIn = u.pair.ownIn ∧ (u.releaseOwner t 9).pair.ownAt = u.pair.ownAt := by
    have h := releaseOwner_ungated u t 9
    have h1 := congrArg Pair.ownIn h
    have h2 := congrArg Pair.ownAt h
    exact ⟨h1, h2⟩
  unfold claimJudged
  split
  · split
    · exact hr _
    · split
      · exact hr _
      · exact ⟨rfl, rfl⟩
  · exact ⟨rfl, rfl⟩

/-- A collision of equal straps, or at the device of the lower claim, releases. -/
theorem claimJudged_lost {t : Nat} {equal : Bool} {s : State} (hc : s.collides t = true)
    (h : equal = true ∨ s.lands.pairId = 1) : (claimJudged t true equal s).pair.owner = false ∧
      eventBit (claimJudged t true equal s) evPAIR_OWNER = true ∧
      (equal = true → (claimJudged t true equal s).pair.idclash = true) := by
  unfold claimJudged
  rw [hc, Bool.and_true, if_pos rfl]
  cases equal with
  | true =>
    rw [if_pos rfl]
    have hp := releaseOwner_ungated (s.modPair (fun p => { p with idclash := true })) t 9
    exact ⟨releaseOwner_owner _ _ _, releaseOwner_event _ _ _, fun _ => congrArg Pair.idclash hp⟩
  | false =>
    rw [if_neg nofun, if_pos (h.resolve_left nofun)]
    exact ⟨releaseOwner_owner _ _ _, releaseOwner_event _ _ _, nofun⟩

theorem claimJudged_kept {t : Nat} {level equal : Bool} {s : State}
    (h : level = false ∨ s.collides t = false ∨ (equal = false ∧ s.lands.pairId ≠ 1)) : claimJudged t level equal s = s := by
  unfold claimJudged
  rcases h with h | h | ⟨he, hid⟩
  · rw [h, Bool.false_and, if_neg nofun]
  · rw [h, Bool.and_false, if_neg nofun]
  · rw [he, if_neg (c := (false = true)) nofun, if_neg hid, ite_self]

/-- A new level of PAIR_OWN_IN (R417, R421). -/
theorem ownInChange {s : State} {at' : Fin 200} {level equal : Bool} (hup : s.up = true) :
    (s.hears = false ∨ s.pair.ownIn = level → exec (.pairOwnInChange at' level equal) s = .next s) ∧
    (s.hears = true → s.pair.ownIn ≠ level → ∃ t, exec (.pairOwnInChange at' level equal) s = .next t ∧ t.pair.ownIn = level ∧
      t.pair.ownAt = s.clkAt at' ∧
      (level = true → s.collides (s.clkAt at') = true → (equal = true ∨ s.lands.pairId = 1) →
        t.pair.owner = false ∧ eventBit t evPAIR_OWNER = true ∧ (equal = true → t.pair.idclash = true)) ∧
      (level = false ∨ s.collides (s.clkAt at') = false ∨ (equal = false ∧ s.lands.pairId ≠ 1) →
        t.pair.owner = s.pair.owner)) := by
  have hexec : exec (.pairOwnInChange at' level equal) s =
      .next (if !s.hears then s else pairOwnInChange (s.clkAt at') level equal s) := by
    change execPairOwnInChange at' level equal s = _
    unfold execPairOwnInChange
    rw [if_pos hup]
  refine ⟨fun h => ?_, fun hears hne => ⟨pairOwnInChange (s.clkAt at') level equal s, ?_, ?_⟩⟩
  · rw [hexec]
    rcases h with h | h
    · rw [h]
      rfl
    · rw [pairOwnInChange, if_pos h, ite_self]
  · rw [hexec, hears, if_neg nofun]
  · rw [pairOwnInChange_eq hne]
    generalize s.clkAt at' = t
    have hpair := gateChecks_ungated (claimJudged t level equal (ownTaken t level s)) t allBanks
    obtain ⟨hin, hat⟩ := claimJudged_ownIn t level equal (ownTaken t level s)
    have h1 := congrArg Pair.ownIn hpair
    have h2 := congrArg Pair.ownAt hpair
    have h3 := congrArg Pair.owner hpair
    have h4 := congrArg Pair.idclash hpair
    refine ⟨h1.trans hin, h2.trans hat, fun hl hc he => ?_, fun h => ?_⟩
    · subst hl
      obtain ⟨ho, hev, hid⟩ := claimJudged_lost (s := ownTaken t true s) hc he
      refine ⟨h3.trans ho, ?_, fun h => h4.trans (hid h)⟩
      exact (each_rings (fun _ _ h₁ => gateCheck_rings h₁) (Rings.refl _)).event (by decide) hev
    · rw [claimJudged_kept (s := ownTaken t level s) h] at h3 ⊢
      exact h3

/-! ### The claim (R420) -/

/-- What the end of an arm at a claim may change. -/
def unarmReach : Parts := raising { stageReach with ops := true, ax := true }

theorem unarm_pair (s : State) (t : Nat) (b : Fin 8) : (s.unarm t b).pair = s.pair :=
  (only_of_forget (unarm_forget unarmReach s t b (mayRaise_raising _) rfl rfl rfl rfl rfl (has_of_mem (by decide))
    (has_of_mem (by decide)))).pair rfl

theorem unarm_off (s : State) (t : Nat) (b : Fin 8) : ((s.unarm t b).bank[b]).armed = false := by
  unfold State.unarm
  dsimp only
  split
  · refine Calm.off (redriveBank_calm (Calm.refl true _)) ?_
    rw [modBank_get, if_pos rfl]
  next h => simpa using h

/-- Every bank without its arm, and the claim's instant taken. -/
def claiming (t : Nat) (s : State) : State :=
  (s.each allBanks (fun s b => s.unarm t b)).modPair (fun p => { p with claimAt := some t })

theorem takeRole_pair (s : State) (owner : Bool) (cause : Nat) :
    (s.takeRole owner cause).pair = { s.pair with owner := owner, ownCause := cause } := by
  unfold State.takeRole
  rw [raise_pair]
  rfl

theorem takeRole_event (s : State) (owner : Bool) (cause : Nat) : eventBit (s.takeRole owner cause) evPAIR_OWNER = true :=
  raise_self _ _ _ _

theorem pairClaim_spec (t : Nat) (s : State) : (pairClaim t s).pair.owner = true ∧ (pairClaim t s).pair.ownCause = 1 ∧
    (pairClaim t s).pair.claimAt = some t ∧ eventBit (pairClaim t s) evPAIR_OWNER = true ∧
    ∀ b : Fin 8, ((pairClaim t s).bank[b]).armed = false := by
  have he : pairClaim t s = ((claiming t s).takeRole true 1).refloatAll t := rfl
  have hp := refloatAll_ungated ((claiming t s).takeRole true 1) t
  rw [takeRole_pair] at hp
  rw [he]
  refine ⟨congrArg Pair.owner hp, congrArg Pair.ownCause hp, congrArg Pair.claimAt hp,
    (refloatAll_rings (Rings.refl _)).event (by decide) (takeRole_event _ _ _), fun b => ?_⟩
  have hoff : ((claiming t s).bank[b]).armed = false := by
    unfold claiming
    rw [modPair_bank]
    exact each_off (f := fun u c => u.unarm t c) (fun u _ => unarm_calm (Calm.refl true u)) (fun u c => unarm_off u t c) allBanks
      s b (mem_allBanks b)
  exact Calm.off (s := claiming t s) (refloatAll_calm (takeRole_calm (Calm.refl true _))) hoff

theorem pairClaims {s : State} {at' : Fin 200} (hup : s.up = true) (ho : s.pair.owner = false) (hl : s.pair.lockout = false)
    (hid : s.pair.idclash = false) (hin : s.pair.ownIn = false) (ht : s.pair.take = none)
    (hf : s.pair.ownfault = false ∨ s.pair.link ≠ .up) : exec (.pairClaim at') s =
    .next (if s.pair.ownAt + s.tclaim ≤ s.clkAt at' then pairClaim (s.clkAt at') s else s) := by
  have hfault : (s.pair.ownfault && s.pair.link == .up) = false := by
    rcases hf with h | h
    · rw [h, Bool.false_and]
    · rw [beq_eq_false_iff_ne.mpr h, Bool.and_false]
  change execPairClaim at' s = _
  unfold execPairClaim
  dsimp only
  rw [hfault, hup, ho, hl, hid, hin, ht]
  simp

/-! ### The gate check (R419) and the end of a takeover -/

theorem enableStages_bank (s : State) (b : Fin 8) : (s.enableStages b).bank = s.bank :=
  each_keeps (f := fun s h => s.modHb h (fun x =>
    { x with hs := { x.hs with clamp := true }, ls := { x.ls with clamp := true } })) State.bank (fun _ _ => rfl) (hbsOf b) s

theorem redriveBank_flt (s : State) (t : Nat) (b c : Fin 8) :
    ((s.redriveBank t b).bank[c]).flt = (s.bank[c]).flt := by
  rw [redriveBank_same s t b c]

theorem leaveFloat_leaving (s : State) (t : Nat) (b : Fin 8) : ((s.leaveFloat t b).bank[b]).flt = .leaving := by
  unfold State.leaveFloat
  extract_lets now s1
  rw [redriveBank_flt, enableStages_bank, modBank_get, if_pos rfl]

/-- What leaving pin float may change. -/
def leaveReach : Parts := raising stageReach

theorem leaveFloat_only (s : State) (t : Nat) (b : Fin 8) : Only leaveReach s (s.leaveFloat t b) :=
  only_of_forget (leaveFloat_forget leaveReach s t b (mayRaise_raising _) rfl rfl rfl (has_of_mem (by decide))
    (has_of_mem (by decide)))

theorem takeDone_spec {s : State} (t : Nat) (h : s.pair.take = some .committed) : (s.takeDone t).pair.take = none ∧
    (s.takeDone t).rd A.PAIR_LASTGAP = w16 (satU ((t - s.pair.takeAt) / 20)) := by
  unfold State.takeDone
  rw [if_pos h]
  refine ⟨rfl, ?_⟩
  rw [modPair_rd]
  have hk := (only_of_forget (restartTimers_forget { tim := true } (s.wr A.PAIR_LASTGAP (w16 (satU ((t - s.pair.takeAt) / 20)))) t
    rfl)).regs A.PAIR_LASTGAP (by decide +kernel)
  rw [hk, rd_wr, if_pos rfl]

theorem gateCheckPass_spec (t : Nat) (b : Fin 8) (s : State) : ((gateCheckPass t b s).bank[b]).flt = .leaving ∧
    (gateCheckPass t b s).pair.gchk[b] = none ∧ (s.pair.take = some .committed → (gateCheckPass t b s).pair.take = none ∧
      (gateCheckPass t b s).rd A.PAIR_LASTGAP = w16 (satU ((t - s.pair.takeAt) / 20))) := by
  unfold gateCheckPass
  extract_lets s1 s2
  have honly := leaveFloat_only s2 t b
  have hpair : (s2.leaveFloat t b).pair = s2.pair := honly.pair rfl
  refine ⟨leaveFloat_leaving _ _ _, ?_, fun h => ?_⟩
  · rw [hpair]
    exact Vector.getElem_set_self b.isLt
  · obtain ⟨htake, hgap⟩ := takeDone_spec t h
    refine ⟨?_, ?_⟩
    · rw [hpair]
      exact htake
    · rw [honly.regs _ (by decide +kernel)]
      exact hgap

/-! ### The host's commands (R422, R435) -/

section Host
variable {s : State} (hup : s.up = true) (hears : s.hears = true) (hdom : s.dom 10 = true)
include hup hears hdom

theorem exec_handover : exec .handover s = .next (handover s) := by
  change execHandover s = _
  rw [execHandover, whenHost_of_hears hup hears, if_pos hdom]

theorem exec_clearLock : exec .clearLock s = .next (clearLock s) := by
  change execClearLock s = _
  rw [execClearLock, whenHost_of_hears hup hears, if_pos hdom]

end Host

theorem clearLock_spec {s : State} (h : s.pair.lockout = true) :
    (clearLock s).pair.lockout = false ∧ (clearLock s).rd A.PAIR_CMDRES = 0x4002 := by
  unfold clearLock
  rw [if_pos h]
  refine ⟨refloatAll_lockout _ _, ?_⟩
  rw [(refloatAll_only _ _).regs _ (by decide +kernel)]
  show (s.wr A.PAIR_CMDRES 0x4002).rd A.PAIR_CMDRES = _
  rw [rd_wr, if_pos rfl]

/-- The end of the handover frame (R435). -/
theorem handoverReleases {s : State} {at' : Fin 200} {f : Mirror} (htx : s.pair.tx = some f) (hf : f.handover = true)
    (ho : s.pair.owner = true) (hp : s.pair.handPend = true) (hat : 200 * s.pair.mirrorAt + 15380 ≤ s.clkAt at') :
    exec (.handoverRelease at') s = .next (s.releaseOwner (s.clkAt at') 6) := by
  change execHandoverRelease at' s = _
  unfold execHandoverRelease
  dsimp only
  rw [htx]
  dsimp only
  rw [ho, hp, hf, decide_eq_true hat]
  rfl

/-- Settles O44: each change of a role leaves of the pair what its words and the gate checks do not name. -/
theorem pairOwnership : Obligations.PairOwnership := by
  unfold Obligations.PairOwnership
  refine ⟨fun s at' level equal hup => ownInChange hup, fun s at' hup ho hl hid hin ht hf => ?_, fun s at' b n hg => ?_,
    fun s hup hears hdom => ?_, fun s at' f htx hf ho hp hat => ⟨_, handoverReleases htx hf ho hp hat, ?_⟩⟩
  · have hexec := pairClaims (at' := at') hup ho hl hid hin ht hf
    refine ⟨fun h => ?_, fun h => ⟨_, hexec, ?_⟩⟩
    · rw [hexec, if_neg (by omega)]
    · rw [if_pos h]
      exact pairClaim_spec _ _
  · have hexec : exec (.gateCheckPass at' b) s =
        .next (if n + 400 ≤ s.clkAt at' then gateCheckPass (s.clkAt at') b s else s) := by
      change execGateCheckPass at' b s = _
      unfold execGateCheckPass
      rw [hg]
    refine ⟨fun h => ?_, fun h => ⟨_, hexec, ?_⟩⟩
    · rw [hexec, if_neg (by omega)]
    · rw [if_pos h]
      exact gateCheckPass_spec _ _ _
  · rw [exec_handover hup hears hdom, exec_clearLock hup hears hdom]
    unfold handover
    refine ⟨fun ho => ?_, fun ho hp => ?_, fun ho hp hl hok => ?_, fun ho hp h => ?_, fun hl => ?_,
      fun hl => ⟨_, rfl, clearLock_spec hl⟩⟩
    · rw [ho]
      rfl
    · rw [ho, hp]
      rfl
    · rw [ho, hp, if_pos (c := (_ ∧ _)) ⟨hl, hok⟩]
      rfl
    · rw [ho, hp, if_neg (c := (_ ∧ _)) (fun ⟨h1, h2⟩ => h.elim (fun hn => hn h1) (fun hn => by rw [hn] at h2; exact nomatch h2))]
      rfl
    · rw [clearLock, hl]
      rfl
  · have hpair := releaseOwner_ungated s (s.clkAt at') 6
    have hcause := congrArg Pair.ownCause hpair
    refine ⟨releaseOwner_owner _ _ _, congrArg Pair.handPend hpair, releaseOwner_event _ _ _, fun ht => hcause.trans ?_⟩
    show (if s.pair.take.isSome then 10 else 6) = 6
    rw [ht]
    rfl

end Sys2Proof.Proofs
end

section
/-! SUPPORT. Proofs of the pair link (R424, R425, R428, R434): lanes, slots, HELLO and the frames that are missed. -/
namespace Sys2Proof.Proofs
set_option Elab.async false
open Sys2Proof.Machine Sys2Proof.Safety Sys2Proof.Laws

/-! ### Lanes (R424) -/

theorem lanesAligned {s : State} (h : s.pair.link = .train) :
    (∃ t, exec (.laneAligned 0) s = .next t ∧ t.pair.lane0 = true ∧ t.pair.lane1 = s.pair.lane1 ∧
      t.pair.link = if s.pair.lane1 = true then .hello else .train) ∧
    (∃ t, exec (.laneAligned 1) s = .next t ∧ t.pair.lane1 = true ∧ t.pair.lane0 = s.pair.lane0 ∧
      t.pair.link = if s.pair.lane0 = true then .hello else .train) := by
  have hacts : ¬ (s.pair.link = .off ∨ s.pair.link = .lost) := by
    rw [h]
    exact fun h => h.elim nofun nofun
  refine ⟨⟨_, congrArg Host.Outcome.next (if_neg hacts), ?_⟩, ⟨_, congrArg Host.Outcome.next (if_neg hacts), ?_⟩⟩
  · rw [modPair_pair]
    cases hl : s.pair.lane1 <;> simp [h]
  · rw [modPair_pair]
    cases hl : s.pair.lane0 <;> simp [h]

theorem linkDown_spec (s : State) (next : LinkSt) (cause : Nat) : (s.linkDown next cause).pair =
    { s.pair with
      link := next, sync := false, partnerReady := false, missed := 0, cover := 0, lostAt := s.clk.ticks, tx := none, rdy := 0 } ∧
    eventBit (s.linkDown next cause) evLINK_DOWN = true := by
  unfold State.linkDown
  exact ⟨raise_pair _ _ _ _, raise_self _ _ _ _⟩

/-- The state that notes the loss of a lane. -/
def laneLost (l : Fin 2) (s : State) : State :=
  s.modPair (fun p => if l = 0 then { p with lane0 := false } else { p with lane1 := false })

theorem laneLost_link (l : Fin 2) (s : State) : (laneLost l s).pair.link = s.pair.link := by
  unfold laneLost
  rw [modPair_pair]
  split
  · rfl
  · rfl

theorem exec_laneLost (l : Fin 2) (s : State) : exec (.laneAlignmentLost l) s = .next
    (match s.pair.link with
    | .train => laneLost l s
    | .hello => (laneLost l s).modPair (fun p => { p with link := .train })
    | .up => (laneLost l s).linkDown .lost 2
    | _ => laneLost l s) := by
  change execLaneAlignmentLost l s = _
  unfold execLaneAlignmentLost
  extract_lets s1
  rw [show s1.pair.link = s.pair.link from laneLost_link l s]
  cases s.pair.link <;> rfl

theorem lanesLost (s : State) (l : Fin 2) :
    (s.pair.link = .hello → ∃ t, exec (.laneAlignmentLost l) s = .next t ∧ t.pair.link = .train) ∧
    (s.pair.link = .up → ∃ t, exec (.laneAlignmentLost l) s = .next t ∧ t.pair.link = .lost ∧ t.pair.sync = false ∧
      t.pair.lostAt = s.clk.ticks ∧ eventBit t evLINK_DOWN = true) := by
  refine ⟨fun h => ⟨_, exec_laneLost l s, ?_⟩, fun h => ⟨_, exec_laneLost l s, ?_⟩⟩
  · rw [h]
    rfl
  · rw [h]
    obtain ⟨hp, he⟩ := linkDown_spec (laneLost l s) .lost 2
    exact ⟨congrArg Pair.link hp, congrArg Pair.sync hp, congrArg Pair.lostAt hp, he⟩

/-! ### The slots (R425) -/

theorem sendMirror_pair (s : State) : s.sendMirror.pair =
    { s.pair with
      tx := some s.mirror, fseq := s.mirror.seq, mirrorAt := s.clk.ticks
      robin := (s.pair.robin + (32 - min 32 s.sched.dirty.length)) % 256 } := rfl

/-- The frame of a slot is the one that the link's state and the role call for. -/
theorem sendFrame_spec (s : State) :
    s.sendFrame.pair.txSeq = s.pair.txSeq ∧ s.sendFrame.pair.link = s.pair.link ∧
    (s.pair.link = .hello → s.sendFrame.pair.txHello = some s.helloFrame) ∧
    (s.pair.link = .up → s.pair.owner = false → s.sendFrame.pair.txStatus = some s.statusFrame) ∧
    (s.pair.link = .up → s.pair.owner = true →
      s.sendFrame.pair.tx = some s.mirror ∧ s.sendFrame.pair.mirrorAt = s.clk.ticks) := by
  unfold State.sendFrame
  split
  next hh =>
    rw [modPair_pair]
    exact ⟨rfl, rfl, fun _ => rfl, fun hu => absurd (hh.symm.trans hu) nofun, fun hu => absurd (hh.symm.trans hu) nofun⟩
  next hn =>
    split
    next ho =>
      rw [sendMirror_pair]
      exact ⟨rfl, rfl, fun hh => absurd hh hn, fun _ hf => absurd (ho.symm.trans hf) nofun, fun _ _ => ⟨rfl, rfl⟩⟩
    next ho =>
      rw [modPair_pair]
      exact ⟨rfl, rfl, fun hh => absurd hh hn, fun _ _ => rfl, fun _ ht => absurd ht ho⟩

theorem linkSlot_spec {s : State} (h : s.pair.link = .up ∨ s.pair.link = .hello) :
    (linkSlot s).pair.txSeq = (s.pair.txSeq + 1) % 2 ^ 32 ∧ (linkSlot s).pair.link = s.pair.link ∧
    (s.pair.link = .hello → (linkSlot s).pair.txHello = some s.helloFrame) ∧
    (s.pair.link = .up → s.pair.owner = false → (linkSlot s).pair.txStatus = some s.statusFrame) ∧
    (s.pair.link = .up → s.pair.owner = true →
      (linkSlot s).pair.tx = some s.mirror ∧ (linkSlot s).pair.mirrorAt = s.clk.ticks) := by
  obtain ⟨hseq, hrest⟩ := sendFrame_spec s
  unfold linkSlot
  rw [if_pos h, modPair_pair]
  exact ⟨congrArg (fun n => (n + 1) % 2 ^ 32) hseq, hrest⟩

/-- The states of the link, lane by lane and slot by slot. -/
theorem lanesAndSlots (s : State) :
    (s.pair.link = .off ∨ s.pair.link = .lost → ∀ l : Fin 2, exec (.laneAligned l) s = .next s) ∧
    (s.pair.link = .lost →
      (s.tretry ≤ s.clk.ticks - s.pair.lostAt → exec .linkRetryEnd s =
        .next (s.modPair (fun p => { p with link := .train, lane0 := false, lane1 := false }))) ∧
      (s.clk.ticks - s.pair.lostAt < s.tretry → exec .linkRetryEnd s = .next s)) ∧
    (s.tb % 100 ≠ 0 → exec .linkSlot s = .next s) ∧
    (s.tb % 100 = 0 → exec .linkSlot s = .next (linkSlot s)) := by
  refine ⟨fun h l => congrArg Host.Outcome.next (if_pos h), fun h => ⟨fun hr => ?_, fun hr => ?_⟩,
    fun h => congrArg Host.Outcome.next (if_neg h), fun h => congrArg Host.Outcome.next (if_pos h)⟩
  · exact congrArg Host.Outcome.next (if_pos ⟨h, hr⟩)
  · exact congrArg Host.Outcome.next (if_neg (fun ⟨_, hle⟩ => Nat.not_lt.mpr hle hr))

/-! ### HELLO (R425, R428) -/

/-- What a finding of the pair may change. -/
def pairFound : Parts := raising { pair := true }

theorem ownFault_pair (s : State) : s.ownFault.pair = { s.pair with ownfault := true } := by
  unfold State.ownFault
  split
  next h =>
    rw [← h]
  next => rw [raise_pair]; rfl

theorem idClash_pair (s : State) : s.idClash.pair = { s.pair with idclash := true } := by
  unfold State.idClash
  split
  next h =>
    rw [← h]
  next => rw [raise_pair]; rfl

/-- What a HELLO frame shows of the partner's strap and role. -/
def helloFound (pairId owner : Bool) (s : State) : State :=
  let s := if pairId = (s.lands.pairId == 1) then s.idClash else s
  if !owner && s.pair.ownIn then s.ownFault else s

theorem helloFound_forget (pairId owner : Bool) (s : State) : forget pairFound (helloFound pairId owner s) = forget pairFound s := by
  have hc (u : State) : forget pairFound u.idClash = forget pairFound u := idClash_forget _ u (mayRaise_raising _) rfl
  have hf (u : State) : forget pairFound u.ownFault = forget pairFound u := ownFault_forget _ u (mayRaise_raising _) rfl
  unfold helloFound
  dsimp only
  split
  · split
    · rw [hf, hc]
    · exact hc s
  · split
    · exact hf s
    · rfl

theorem helloFound_pair (pairId owner : Bool) (s : State) : (helloFound pairId owner s).pair =
    { s.pair with
      idclash := s.pair.idclash || (pairId == (s.lands.pairId == 1))
      ownfault := s.pair.ownfault || (!owner && s.pair.ownIn) } := by
  unfold helloFound
  dsimp only
  cases hid : pairId == (s.lands.pairId == 1) with
  | true =>
    rw [if_pos (beq_iff_eq.mp hid), Bool.or_true]
    have hp := idClash_pair s
    generalize s.idClash = u at hp ⊢
    have hin := congrArg Pair.ownIn hp
    rw [show u.pair.ownIn = s.pair.ownIn from hin]
    cases !owner && s.pair.ownIn with
    | true => rw [if_pos rfl, ownFault_pair, hp, Bool.or_true]
    | false => rw [if_neg nofun, hp, Bool.or_false]
  | false =>
    rw [if_neg (beq_eq_false_iff_ne.mp hid), Bool.or_false]
    cases !owner && s.pair.ownIn with
    | true => rw [if_pos rfl, ownFault_pair, Bool.or_true]
    | false => rw [if_neg nofun, Bool.or_false]

/-- What a finding changes is not compared (R425). -/
theorem helloFound_matches (i owner pairId : Bool) (s : State) (imgId imgCrc bankImg : Nat) (tags : List Word) :
    (helloFound i owner s).helloMatches pairId imgId imgCrc bankImg tags = s.helloMatches pairId imgId imgCrc bankImg tags := by
  have honly : Only pairFound s (helloFound i owner s) := only_of_forget (helloFound_forget i owner s)
  have hquant (a : Nat) (h0 : pairFound.covers a = false) (h1 : pairFound.covers (a + 1) = false) :
      (helloFound i owner s).rdQ2 a = s.rdQ2 a := by
    unfold State.rdQ2
    rw [honly.regs a h0, honly.regs (a + 1) h1]
  have htags : (helloFound i owner s).rds (A.IMG_BANKTAG 0) 8 = s.rds (A.IMG_BANKTAG 0) 8 := by
    have hfree : ∀ k ∈ List.range 8, pairFound.covers (A.IMG_BANKTAG 0 + k) = false := by decide +kernel
    exact List.map_congr_left (fun k hk => honly.regs _ (hfree k hk))
  unfold State.helloMatches
  rw [hquant _ (by decide +kernel) (by decide +kernel), hquant _ (by decide +kernel) (by decide +kernel), htags,
    honly.img rfl, honly.lands rfl]

theorem linkUp_spec (s : State) : s.linkUp.pair.compat = true ∧ s.linkUp.pair.link = .up ∧ s.linkUp.pair.sync = false ∧
    s.linkUp.pair.idclash = s.pair.idclash ∧ s.linkUp.pair.ownfault = s.pair.ownfault ∧ eventBit s.linkUp evLINK_UP = true := by
  unfold State.linkUp
  dsimp only
  rw [raise_pair]
  exact ⟨rfl, rfl, rfl, rfl, rfl, raise_self _ _ _ _⟩

theorem helloReceived_eq {pairId owner : Bool} {imgId imgCrc bankImg : Nat} {tags : List Word} {s : State}
    (h : s.pair.link = .hello) : helloReceived pairId imgId imgCrc bankImg tags owner s =
    if s.helloMatches pairId imgId imgCrc bankImg tags then
      ((helloFound pairId owner s).modPair (fun p => { p with compat := true })).linkUp
    else (helloFound pairId owner s).modPair (fun p => { p with compat := false }) := by
  have hlink : (helloFound pairId owner s).pair.link = .hello := (congrArg Pair.link (helloFound_pair pairId owner s)).trans h
  have hm := helloFound_matches pairId owner pairId s imgId imgCrc bankImg tags
  unfold helloReceived
  extract_lets s1 s2 ok s3
  have e2 : s2 = helloFound pairId owner s := rfl
  have hok : ok = s.helloMatches pairId imgId imgCrc bankImg tags := hm
  have hl3 : s3.pair.link = .hello := hlink
  have e3 : s3 = (helloFound pairId owner s).modPair (fun p => { p with compat := ok }) := rfl
  rw [hl3, hok, e3, hok]
  cases s.helloMatches pairId imgId imgCrc bankImg tags <;> rfl

/-- A HELLO frame in HELLO (R425, R440). -/
theorem helloReceived_spec {pairId owner : Bool} {imgId imgCrc bankImg : Nat} {tags : List Word} {s t : State}
    (h : s.pair.link = .hello) (ht : t = helloReceived pairId imgId imgCrc bankImg tags owner s) :
    t.pair.compat = s.helloMatches pairId imgId imgCrc bankImg tags ∧
    t.pair.link = (if t.pair.compat = true then .up else .hello) ∧
    (t.pair.compat = true → eventBit t evLINK_UP = true ∧ t.pair.sync = false) ∧
    (pairId = (s.lands.pairId == 1) → t.pair.idclash = true ∧ t.pair.compat = false) ∧
    (owner = false → s.pair.ownIn = true → t.pair.ownfault = true) := by
  have hp := helloFound_pair pairId owner s
  have hlink := congrArg Pair.link hp
  have hid := congrArg Pair.idclash hp
  have hfault := congrArg Pair.ownfault hp
  have hclash (he : pairId = (s.lands.pairId == 1)) : (helloFound pairId owner s).pair.idclash = true := by
    refine hid.trans ?_
    rw [beq_iff_eq.mpr he]
    exact Bool.or_true _
  have howned (ho : owner = false) (hin : s.pair.ownIn = true) : (helloFound pairId owner s).pair.ownfault = true := by
    refine hfault.trans ?_
    rw [ho, hin]
    exact Bool.or_true _
  have hdiffer (he : pairId = (s.lands.pairId == 1)) : s.helloMatches pairId imgId imgCrc bankImg tags = false := by
    unfold State.helloMatches
    rw [he]
    simp
  rw [ht, helloReceived_eq h]
  cases hok : s.helloMatches pairId imgId imgCrc bankImg tags with
  | true =>
    rw [if_pos rfl]
    obtain ⟨hc, hl, hs, hi, hf, hev⟩ := linkUp_spec ((helloFound pairId owner s).modPair (fun p => { p with compat := true }))
    rw [hc, hl, hs, hi, hf]
    exact ⟨rfl, rfl, fun _ => ⟨hev, rfl⟩, fun he => absurd (hok.symm.trans (hdiffer he)) nofun, howned⟩
  | false =>
    rw [if_neg nofun]
    exact ⟨rfl, hlink.trans h, nofun, fun he => ⟨hclash he, rfl⟩, howned⟩

/-! ### Missed frames (R428, R434) -/

theorem takeOwner_spec (s : State) (t cause : Nat) : (s.takeOwner t cause).pair.owner = true ∧
    (s.takeOwner t cause).pair.ownCause = cause ∧ (s.takeOwner t cause).pair.take = some .owner ∧
    (s.takeOwner t cause).rd A.PAIR_TAKECNT = w16 (satU ((s.rd A.PAIR_TAKECNT).toNat + 1)) ∧
    eventBit (s.takeOwner t cause) evPAIR_OWNER = true := by
  unfold State.takeOwner
  extract_lets now s1
  have hp := refloatAll_ungated (s1.takeRole true cause) t
  rw [takeRole_pair] at hp
  have hreg : (s1.takeRole true cause).rd A.PAIR_TAKECNT = s1.rd A.PAIR_TAKECNT :=
    (only_of_forget (takeRole_forget pairFound s1 true cause (mayRaise_raising _) rfl)).regs _ (by decide +kernel)
  refine ⟨congrArg Pair.owner hp, congrArg Pair.ownCause hp, congrArg Pair.take hp, ?_,
    (refloatAll_rings (Rings.refl _)).event (by decide) (takeRole_event _ _ _)⟩
  rw [(refloatAll_only _ _).regs _ (by decide +kernel), hreg]
  exact satInc_self s A.PAIR_TAKECNT

/-- What a takeover from a silent owner may change. -/
def silentReach : Parts := raising
  { regs := [.GATE_BSTUVCNT, .GATE_FLT, .PAIR_TAKECNT], tim := true, hb := true, bank := true, pair := true }

theorem takeSilent_only (s : State) (t : Nat) : Only silentReach s (s.takeSilent t) :=
  only_of_forget (takeSilent_forget silentReach s t (mayRaise_raising _) rfl rfl rfl rfl (has_of_mem (by decide))
    (has_of_mem (by decide)) (has_of_mem (by decide)))

theorem released_ownIn {s : State} {t u : Nat} (h : s.ownReleased t u = true) : s.pair.ownIn = false := by
  unfold State.ownReleased at h
  cases hin : s.pair.ownIn with
  | false => rfl
  | true =>
    rw [hin] at h
    exact nomatch h

theorem takeSilent_now {s : State} {t : Nat} (hm : s.mayTake = true) (hr : s.ownReleased t 0 = true) :
    s.takeSilent t = (s.modPair (fun p => { p with takeAt := t })).takeOwner t 3 := by
  unfold State.takeSilent
  rw [hm, released_ownIn hr, hr]
  rfl

theorem takeSilent_waits {s : State} {t : Nat} (hm : s.mayTake = true) (hin : s.pair.ownIn = false)
    (hr : s.ownReleased t 0 = false) :
    s.takeSilent t = s.modPair (fun p => { p with take := some .seen, takeAt := p.ownAt, takeCause := 3 }) := by
  unfold State.takeSilent
  rw [hm, hin, hr]
  rfl

theorem takeSilent_owner {s : State} {t : Nat} (h : s.mayTake = false ∨ s.ownReleased t 0 = false) :
    (s.takeSilent t).pair.owner = s.pair.owner := by
  unfold State.takeSilent
  split
  next hm =>
    obtain ⟨hm, _⟩ := Bool.and_eq_true_iff.mp hm
    rw [h.resolve_left (by rw [hm]; exact nofun), if_neg nofun]
    rfl
  next => rfl

/-- The miss counted. -/
def missTold (s : State) : State :=
  (s.satInc A.PAIR_MISSCNT).modPair (fun p => { p with missed := p.missed + 1, frameAt := s.clk.ticks })

theorem frameMissed_eq (t : Nat) (s : State) : frameMissed t s =
    if s.pair.missed + 1 < 3 then missTold s else ((missTold s).takeSilent t).linkDown .lost 1 := rfl

theorem missTold_misses (s : State) : (missTold s).rd A.PAIR_MISSCNT = w16 (satU ((s.rd A.PAIR_MISSCNT).toNat + 1)) :=
  satInc_self s A.PAIR_MISSCNT

theorem missTold_takes (s : State) : (missTold s).rd A.PAIR_TAKECNT = s.rd A.PAIR_TAKECNT :=
  satInc_rd s A.PAIR_MISSCNT A.PAIR_TAKECNT (by decide)

/-- The third miss: the link is lost, and a standby that may takes over from the silent owner. -/
theorem silentOwner (s : State) (t : Nat) {u : State} (hu : u = ((missTold s).takeSilent t).linkDown .lost 1) :
    u.rd A.PAIR_MISSCNT = w16 (satU ((s.rd A.PAIR_MISSCNT).toNat + 1)) ∧
    u.pair.link = .lost ∧ u.pair.sync = false ∧ eventBit u evLINK_DOWN = true ∧
    (s.mayTake = true → s.ownReleased t 0 = true → u.pair.owner = true ∧ u.pair.ownCause = 3 ∧
      u.rd A.PAIR_TAKECNT = w16 (satU ((s.rd A.PAIR_TAKECNT).toNat + 1))) ∧
    (s.mayTake = true → s.pair.ownIn = false → s.ownReleased t 0 = false →
      u.pair.take = some .seen ∧ u.pair.takeAt = s.pair.ownAt ∧ u.pair.takeCause = 3) ∧
    (s.mayTake = false ∨ s.ownReleased t 0 = false → u.pair.owner = s.pair.owner) := by
  have hm : (missTold s).mayTake = s.mayTake := rfl
  have hr : (missTold s).ownReleased t 0 = s.ownReleased t 0 := rfl
  have hin : (missTold s).pair.ownIn = s.pair.ownIn := rfl
  have hat : (missTold s).pair.ownAt = s.pair.ownAt := rfl
  have ho : (missTold s).pair.owner = s.pair.owner := rfl
  have hmiss := missTold_misses s
  have htake := missTold_takes s
  rw [hu, ← hm, ← hr, ← hin, ← hat, ← ho, ← htake]
  rw [← hmiss]
  generalize missTold s = v
  obtain ⟨hp, hev⟩ := linkDown_spec (v.takeSilent t) .lost 1
  have hreg (a : Nat) (h : pairFound.covers a = false) : ((v.takeSilent t).linkDown .lost 1).rd a = (v.takeSilent t).rd a :=
    (only_of_forget (linkDown_forget pairFound _ .lost 1 (mayRaise_raising _) rfl)).regs a h
  refine ⟨?_, congrArg Pair.link hp, congrArg Pair.sync hp, hev, fun hm hr => ?_, fun hm hin hr => ?_, fun h => ?_⟩
  · rw [hreg _ (by decide +kernel), (takeSilent_only v t).regs _ (by decide +kernel)]
  · rw [hreg _ (by decide +kernel)]
    rw [takeSilent_now hm hr] at hp ⊢
    obtain ⟨h1, h2, _, h3, _⟩ := takeOwner_spec (v.modPair (fun p => { p with takeAt := t })) t 3
    have e1 := congrArg Pair.owner hp
    have e2 := congrArg Pair.ownCause hp
    exact ⟨e1.trans h1, e2.trans h2, h3⟩
  · rw [takeSilent_waits hm hin hr] at hp ⊢
    exact ⟨congrArg Pair.take hp, congrArg Pair.takeAt hp, congrArg Pair.takeCause hp⟩
  · have e1 := congrArg Pair.owner hp
    exact e1.trans (takeSilent_owner h)

/-- Settles O45: the lanes, the slots, the HELLO frames and the misses of the link. -/
theorem pairLink : Obligations.PairLink := by
  unfold Obligations.PairLink
  refine ⟨fun s => ?_, fun s pairId imgId imgCrc bankImg tags owner lockout h => ⟨_, ?_, helloReceived_spec h rfl⟩,
    fun s at' h => ⟨fun hlt => ?_, fun hge => ⟨frameMissed (s.clkAt at') s, ?_, ?_⟩⟩⟩
  · obtain ⟨hidle, hretry, hno, hslot⟩ := lanesAndSlots s
    exact ⟨hidle, lanesAligned, lanesLost s, hretry, hno, fun h hl => ⟨_, hslot h, linkSlot_spec hl⟩⟩
  · exact congrArg Host.Outcome.next (if_pos (Or.inl h))
  · exact congrArg Host.Outcome.next (if_neg (fun ⟨_, hle⟩ => Nat.not_lt.mpr hle hlt))
  · exact congrArg Host.Outcome.next (if_pos ⟨h, hge⟩)
  · rw [frameMissed_eq]
    by_cases hm : s.pair.missed < 2
    · rw [if_pos (by omega)]
      exact ⟨missTold_misses s, fun _ => ⟨h, rfl, rfl⟩, fun hle => absurd hm (Nat.not_lt.mpr hle)⟩
    · rw [if_neg (by omega)]
      obtain ⟨hmiss, hrest⟩ := silentOwner s (s.clkAt at') rfl
      exact ⟨hmiss, fun hlt => absurd hlt hm, fun _ => hrest⟩

end Sys2Proof.Proofs
end

section
/-! SUPPORT. Proofs of the frames a standby follows (R429, R430): what a MIRROR frame loads, stage by stage. -/
namespace Sys2Proof.Proofs
set_option Elab.async false
open Sys2Proof.Machine Sys2Proof.Safety Sys2Proof.Laws

/-! ### The stages of a MIRROR frame (R430) -/

/-- The frame's end taken down, with its sequence number and the offset of the time bases. -/
def mirrorStamped (start : Nat) (f : Mirror) (s : State) : State :=
  s.modPair (fun p =>
    { p with
      missed := 0, frameAt := s.clk.ticks, fseq := f.seq % 2 ^ 32
      tbOfs := (start + 2 ^ 48 - 1 + (2 ^ 48 - f.t % 2 ^ 48)) % 2 ^ 48 })

/-- The owner's recorder head and store sequence number shown. -/
def mirrorHeads (f : Mirror) (s : State) : State :=
  (s.wr A.PAIR_PRECHEAD f.recHead0).wrQ (A.PAIR_PSTSEQ 0) 2 f.storeSeq

/-- The part of a bank loaded, where the frame has one. -/
def mirrorBankStep (t : Nat) (f : Mirror) (s : State) (b : Fin 8) : State :=
  match f.banks[b.val]? with
  | none => s
  | some m => s.loadBank t b m

/-- The part of a timer loaded, where the frame has one. -/
def mirrorTimerStep (t : Nat) (f : Mirror) (s : State) (x : Fin 24) : State :=
  match f.timers[x.val]? with
  | none => s
  | some m => s.loadTimer t x m

/-- The part of an axis loaded, where the frame has one. -/
def mirrorAxisStep (f : Mirror) (s : State) (a : Fin 24) : State :=
  match f.axes[a.val]? with
  | none => s
  | some m => s.loadAxis a m

/-- The banks, the timers and the axes of the frame. -/
def mirrorBanks (t : Nat) (f : Mirror) (s : State) : State := s.each allBanks (mirrorBankStep t f)
def mirrorTimers (t : Nat) (f : Mirror) (s : State) : State := s.each (List.finRange 24) (mirrorTimerStep t f)
def mirrorAxes (f : Mirror) (s : State) : State := s.each (List.finRange 24) (mirrorAxisStep f)

/-- The schedule of the frame. -/
def mirrorSchedule (f : Mirror) (s : State) : State := (s.wrQ A.SCH_STATE_LO 2 f.schState).each f.recs State.loadRec

/-- The check words that differ shown. -/
def mirrorChecked (f : Mirror) (s : State) : State :=
  s.wr A.PAIR_CFGMIS (ofBits (s.checkWords.zipIdx.map (fun p => p.1 != f.check[p.2]?.getD 0)))

/-- The indices of the frame covered (R429). -/
def mirrorCovered (f : Mirror) (s : State) : State :=
  s.modPair (fun p => { p with cover := coverWith p.cover f.recs, sync := p.sync || coverWith p.cover f.recs == allCovered })

/-- The parts that follow the motion: banks, timers, axes, schedule and check words. -/
def mirrorLoaded (t : Nat) (f : Mirror) (s : State) : State :=
  mirrorChecked f (mirrorSchedule f (mirrorAxes f (mirrorTimers t f (mirrorBanks t f s))))

theorem applyMirror_eq (t start : Nat) (f : Mirror) (s : State) : s.applyMirror t start f =
    mirrorCovered f (mirrorLoaded t f (((mirrorHeads f (mirrorStamped start f s)).loadFusion f).loadWheels f)) := rfl

/-! ### What each stage leaves -/

def fusedReach : Parts := { regs := [.FUS_EST], fus := true }

theorem fused_only (f : Mirror) (s : State) : Only fusedReach s ((s.loadFusion f).loadWheels f) :=
  only_of_forget ((loadWheels_forget fusedReach _ f rfl).trans (loadFusion_forget _ s f rfl (has_of_mem (by decide))))

def mirrorBankReach : Parts := raising
  { regs := [.GATE_BSTUVCNT, .GATE_FLT, .GSUP_FLT, .PROT_BFLT, .PROT_CHFLT, .PWM_RUN_HI, .PWM_RUN_LO], tim := true, hb := true
    bank := true, ax := true }

theorem mirrorBanks_only (t : Nat) (f : Mirror) (s : State) : Only mirrorBankReach s (mirrorBanks t f s) := by
  refine only_of_forget (each_forget _ _ _ (fun u b => ?_) s)
  unfold mirrorBankStep
  split
  · rfl
  · exact loadBank_forget _ u t b _ (mayRaise_raising _) rfl rfl rfl rfl (has_of_mem (by decide)) (has_of_mem (by decide))
      (has_of_mem (by decide)) (has_of_mem (by decide)) (has_of_mem (by decide)) (has_of_mem (by decide)) (has_of_mem (by decide))

def mirrorTimerReach : Parts := { regs := [.PWM_CHEN, .PWM_CMP, .PWM_CTL, .PWM_FORCE, .PWM_HR], tim := true }

theorem mirrorTimers_only (t : Nat) (f : Mirror) (s : State) : Only mirrorTimerReach s (mirrorTimers t f s) := by
  refine only_of_forget (each_forget _ _ _ (fun u x => ?_) s)
  unfold mirrorTimerStep
  split
  · rfl
  · exact loadTimer_forget _ u t x _ rfl (has_of_mem (by decide)) (has_of_mem (by decide)) (has_of_mem (by decide))
      (has_of_mem (by decide)) (has_of_mem (by decide))

def mirrorAxisReach : Parts :=
  { regs := [.AX_ANGLE, .AX_CONF, .AX_CUR_SET, .AX_GS_CTL, .AX_GS_RATE, .AX_SPD_SET], ax := true }

theorem mirrorAxes_only (f : Mirror) (s : State) : Only mirrorAxisReach s (mirrorAxes f s) := by
  refine only_of_forget (each_forget _ _ _ (fun u a => ?_) s)
  unfold mirrorAxisStep
  split
  · rfl
  · exact loadAxis_forget _ u a _ rfl (has_of_mem (by decide)) (has_of_mem (by decide)) (has_of_mem (by decide))
      (has_of_mem (by decide)) (has_of_mem (by decide)) (has_of_mem (by decide))

def recordReach : Parts := { sched := true }

theorem records_only (l : List MirrorRec) (s : State) : Only recordReach s (s.each l State.loadRec) :=
  only_of_forget (each_forget _ _ _ (fun u r => loadRec_forget _ u r rfl) s)

theorem wrs_pair (l : List Word) : ∀ (s : State) (a : Nat), (s.wrs a l).pair = s.pair := by
  induction l with
  | nil => exact fun _ _ => rfl
  | cons v vs ih => exact fun s a => ih (s.wr a v) (a + 1)

theorem mirrorSchedule_keeps (f : Mirror) (s : State) : (mirrorSchedule f s).pair = s.pair ∧ (mirrorSchedule f s).bank = s.bank ∧
    ∀ a, a < A.SCH_STATE_LO ∨ A.SCH_STATE_LO + 2 ≤ a → (mirrorSchedule f s).rd a = s.rd a := by
  have h := records_only f.recs (s.wrQ A.SCH_STATE_LO 2 f.schState)
  unfold mirrorSchedule
  exact ⟨(h.pair rfl).trans (wrs_pair _ _ _), (h.bank rfl).trans (wrs_bank _ _ _), fun a ha =>
    (h.regs a rfl).trans (wrQ_out s _ _ _ ha)⟩

theorem quant2_low (n : Nat) : quant2 (wordOf n 0) (wordOf n 1) = n % 2 ^ 32 := by
  unfold quant2 wordOf w16
  simp only [BitVec.toNat_ofNat]
  omega

theorem mirrorSchedule_state (f : Mirror) (s : State) : (mirrorSchedule f s).rdQ2 A.SCH_STATE_LO = f.schState % 2 ^ 32 := by
  have h := records_only f.recs (s.wrQ A.SCH_STATE_LO 2 f.schState)
  have h0 := wrQ_at s A.SCH_STATE_LO 2 f.schState (k := 0) (by omega)
  rw [Nat.add_zero] at h0
  have h1 := wrQ_at s A.SCH_STATE_LO 2 f.schState (k := 1) (by omega)
  unfold mirrorSchedule State.rdQ2
  rw [h.regs _ rfl, h.regs _ rfl, h0, h1, quant2_low]

/-! ### The banks of the frame -/

theorem releaseFaults_armed (s : State) (t : Nat) (b c : Fin 8) :
    ((s.releaseFaults t b).bank[c]).armed = (s.bank[c]).armed := by
  unfold State.releaseFaults
  rw [(reRow2_steers s t (hbsOf b) _ 0).bank c]
  have hax (u : State) : (u.each (axesOf b) (fun s a =>
      if (s.axHbs a).any (fun h => s.anyFault h) then s
      else s.modAx a (fun x => { x with react := .none, vcpKeep := false }))).bank = u.bank :=
    each_keeps State.bank (fun v a => by split <;> rfl) _ u
  have hhb (u : State) : (u.each (hbsOf b) (fun s h =>
      if s.anyFault h then s else s.modHb h (fun x => { x with loc := false }))).bank = u.bank :=
    each_keeps State.bank (fun v a => by split <;> rfl) _ u
  dsimp only
  rw [hax, hhb]

theorem setRun_bank (s : State) (a : Nat) (x : Fin 24) (v : Bool) : (s.setRun a x v).bank = s.bank := by
  unfold State.setRun
  dsimp only
  split
  · rfl
  · split
    · rfl
    · rfl

theorem redriveBank_armed (s : State) (t : Nat) (b c : Fin 8) :
    ((s.redriveBank t b).bank[c]).armed = (s.bank[c]).armed := by
  rw [redriveBank_same s t b c]

/-- The detector and stuck flags of a bank's half-bridges taken from the frame. -/
def flagsLoaded (b : Fin 8) (m : MirrorBank) (s : State) : State :=
  s.each (hbsOf b) (fun s h =>
    let n := m.flt[(hbIn h).val]?.getD 0
    let s := s.wr (A.PROT_CHFLT b.val (hbIn h).val) (setField (s.hbReg A.PROT_CHFLT h) 5 0 n)
    s.wr (A.GATE_FLT b.val (hbIn h).val) (setField (s.hbReg A.GATE_FLT h) 1 0 (n / 64)))

theorem flagsLoaded_bank (b : Fin 8) (m : MirrorBank) (s : State) : (flagsLoaded b m s).bank = s.bank := by
  refine each_keeps State.bank (fun u h => ?_) (hbsOf b) s
  dsimp only
  rw [wr_bank, wr_bank]

/-- The reaction flags of a bank taken from the frame, beside the bank's own. -/
def reactionsLoaded (b : Fin 8) (m : MirrorBank) (s : State) : State :=
  let k := s.bank[b]
  let fl (i : Nat) : Bool := natBit m.react i
  let f := s.rd (A.PROT_BFLT b.val)
  let g := s.rd (A.GSUP_FLT b.val)
  let bf := ofBits [false, fl 0 || (k.trip && bit f 1), fl 1 || (k.vov2 && bit f 2), fl 2 || (k.ots && bit f 3)]
  let gf := ofBits [fl 3 || (k.vdrvLock && bit g 0), fl 4 || (k.vcpLock && bit g 1)]
  let s := s.wr (A.PROT_BFLT b.val) ((s.rd (A.PROT_BFLT b.val) &&& ~~~ maskW 3 1) ||| bf)
  s.wr (A.GSUP_FLT b.val) ((s.rd (A.GSUP_FLT b.val) &&& ~~~ maskW 1 0) ||| gf)

theorem reactionsLoaded_bank (b : Fin 8) (m : MirrorBank) (s : State) : (reactionsLoaded b m s).bank = s.bank := rfl

/-- The PWM_RUN bits of a bank's timers taken from the frame. -/
def runsLoaded (t : Nat) (b : Fin 8) (m : MirrorBank) (s : State) : State :=
  s.each (axesOf b) (fun s x => s.setRun t x (m.run[(axSlot x).val]?.getD false))

theorem runsLoaded_bank (t : Nat) (b : Fin 8) (m : MirrorBank) (s : State) : (runsLoaded t b m s).bank = s.bank :=
  each_keeps (f := fun s x => s.setRun t x (m.run[(axSlot x).val]?.getD false)) State.bank (fun u x => setRun_bank u t x _)
    (axesOf b) s

theorem loadBank_eq (s : State) (t : Nat) (b : Fin 8) (m : MirrorBank) : s.loadBank t b m =
    (runsLoaded t b m (((flagsLoaded b m (reactionsLoaded b m s)).modBank b (fun k => { k with armed := m.armed })).releaseFaults
      t b)).redriveBank t b := rfl

theorem loadBank_armed (s : State) (t : Nat) (b c : Fin 8) (m : MirrorBank) :
    ((s.loadBank t b m).bank[c]).armed = if b = c then m.armed else (s.bank[c]).armed := by
  rw [loadBank_eq, redriveBank_armed, runsLoaded_bank, releaseFaults_armed, modBank_get, flagsLoaded_bank, reactionsLoaded_bank]
  split
  · rfl
  · rfl

theorem mirrorBanks_armed {t : Nat} {f : Mirror} {s : State} {b : Fin 8} {m : MirrorBank} (h : f.banks[b.val]? = some m) :
    ((mirrorBanks t f s).bank[b]).armed = m.armed := by
  refine each_makes (I := fun _ => True) (P := fun u => (u.bank[b]).armed = m.armed) (x := b) (fun _ _ _ => trivial)
    (fun u y _ hu => ?_) (fun u _ => ?_) (mem_allBanks b) trivial
  · unfold mirrorBankStep
    split
    · exact hu
    next m' hm' =>
      rw [loadBank_armed]
      split
      next he =>
        subst he
        rw [Option.some.inj (hm'.symm.trans h)]
      next => exact hu
  · unfold mirrorBankStep
    rw [h]
    dsimp only
    rw [loadBank_armed, if_pos rfl]

/-! ### The timers of the frame -/

theorem loadTimer_out (s : State) (t : Nat) (x : Fin 24) (m : MirrorTimer) {a : Nat}
    (h : a < timAddr x 0 ∨ timAddr x 0 + 16 ≤ a) : (s.loadTimer t x m).rd a = s.rd a := by
  have hk (k : Nat) : timAddr x k = timAddr x 0 + k := by unfold timAddr; omega
  have hlen (l : List Word) : (l.take 3).length ≤ 3 := List.length_take_le 3 l
  unfold State.loadTimer
  dsimp only
  rw [modTim_rd, rd_wr, if_neg (by omega), rd_wr, if_neg (by rw [hk]; omega), rd_wr, if_neg (by rw [hk]; omega),
    rd_wrs _ _ _ _ (by rw [hk]; have := hlen m.hr; omega), rd_wrs _ _ _ _ (by rw [hk]; have := hlen m.cmp; omega)]

theorem loadTimer_chen (s : State) (t : Nat) (x : Fin 24) (m : MirrorTimer) : (s.loadTimer t x m).rd (timAddr x 8) = m.chen := by
  unfold State.loadTimer
  dsimp only
  rw [modTim_rd, rd_wr, if_neg (by unfold timAddr; omega), rd_wr, if_neg (by unfold timAddr; omega), rd_wr, if_pos rfl]

theorem mirrorTimers_chen {t : Nat} {f : Mirror} {s : State} {x : Fin 24} {m : MirrorTimer} (h : f.timers[x.val]? = some m) :
    (mirrorTimers t f s).rd (timAddr x 8) = m.chen := by
  refine each_makes (I := fun _ => True) (P := fun u => u.rd (timAddr x 8) = m.chen) (x := x) (fun _ _ _ => trivial)
    (fun u y _ hu => ?_) (fun u _ => ?_) (List.mem_finRange x) trivial
  · unfold mirrorTimerStep
    split
    · exact hu
    next m' hm' =>
      by_cases he : y = x
      · subst he
        rw [loadTimer_chen, Option.some.inj (hm'.symm.trans h)]
      · rw [loadTimer_out]
        · exact hu
        · have hne : y.val ≠ x.val := fun hv => he (Fin.ext hv)
          unfold timAddr A.PWM_CTL axBank axSlot
          dsimp only
          omega
  · unfold mirrorTimerStep
    rw [h]
    exact loadTimer_chen u t x m

/-! ### The frame as a whole -/

theorem chen_kept : ∀ x : Fin 24, mirrorAxisReach.covers (timAddr x 8) = false ∧ timAddr x 8 ≠ A.PAIR_CFGMIS ∧
    (timAddr x 8 < A.SCH_STATE_LO ∨ A.SCH_STATE_LO + 2 ≤ timAddr x 8) := by
  have hrows : ∀ w ∈ allRows.filter (fun w => mirrorAxisReach.regs.contains w.reg), ∀ x : Fin 24,
      (w.idx (timAddr x 8)).isSome = false := by decide +kernel
  intro x
  refine ⟨not_covers rfl (fun w hw => hrows w hw x), ?_, ?_⟩
  · unfold timAddr A.PWM_CTL A.PAIR_CFGMIS
    omega
  · unfold timAddr A.PWM_CTL A.SCH_STATE_LO
    omega

theorem mirrorLoaded_pair (t : Nat) (f : Mirror) (s : State) : (mirrorLoaded t f s).pair = s.pair := by
  unfold mirrorLoaded mirrorChecked
  rw [wr_pair, (mirrorSchedule_keeps f _).1, (mirrorAxes_only f _).pair rfl, (mirrorTimers_only t f _).pair rfl,
    (mirrorBanks_only t f s).pair rfl]

theorem mirrorLoaded_prechead (t : Nat) (f : Mirror) (s : State) :
    (mirrorLoaded t f s).rd A.PAIR_PRECHEAD = s.rd A.PAIR_PRECHEAD := by
  obtain ⟨_, _, hsch⟩ := mirrorSchedule_keeps f (mirrorAxes f (mirrorTimers t f (mirrorBanks t f s)))
  unfold mirrorLoaded mirrorChecked
  rw [rd_wr, if_neg (by decide), hsch _ (Or.inl (by decide)), (mirrorAxes_only f _).regs _ (by decide +kernel),
    (mirrorTimers_only t f _).regs _ (by decide +kernel), (mirrorBanks_only t f s).regs _ (by decide +kernel)]

theorem mirrorLoaded_schedule (t : Nat) (f : Mirror) (s : State) :
    (mirrorLoaded t f s).rdQ2 A.SCH_STATE_LO = f.schState % 2 ^ 32 := by
  have h := mirrorSchedule_state f (mirrorAxes f (mirrorTimers t f (mirrorBanks t f s)))
  unfold mirrorLoaded mirrorChecked
  unfold State.rdQ2 at h ⊢
  rw [rd_wr, if_neg (by decide), rd_wr, if_neg (by decide)]
  exact h

theorem mirrorLoaded_armed {t : Nat} {f : Mirror} {s : State} {b : Fin 8} {m : MirrorBank} (h : f.banks[b.val]? = some m) :
    ((mirrorLoaded t f s).bank[b]).armed = m.armed := by
  unfold mirrorLoaded mirrorChecked
  rw [wr_bank, (mirrorSchedule_keeps f _).2.1, (mirrorAxes_only f _).bank rfl, (mirrorTimers_only t f _).bank rfl]
  exact mirrorBanks_armed h

theorem mirrorLoaded_chen {t : Nat} {f : Mirror} {s : State} {x : Fin 24} {m : MirrorTimer} (h : f.timers[x.val]? = some m) :
    (mirrorLoaded t f s).rd (timAddr x 8) = m.chen := by
  obtain ⟨hax, hcfg, hst⟩ := chen_kept x
  obtain ⟨_, _, hsch⟩ := mirrorSchedule_keeps f (mirrorAxes f (mirrorTimers t f (mirrorBanks t f s)))
  unfold mirrorLoaded mirrorChecked
  rw [rd_wr, if_neg hcfg, hsch _ hst, (mirrorAxes_only f _).regs _ hax]
  exact mirrorTimers_chen h

section Covered
variable (f : Mirror) (s : State)

theorem mirrorCovered_rd (a : Nat) : (mirrorCovered f s).rd a = s.rd a := rfl
theorem mirrorCovered_quant (a : Nat) : (mirrorCovered f s).rdQ2 a = s.rdQ2 a := rfl
theorem mirrorCovered_bank : (mirrorCovered f s).bank = s.bank := rfl

theorem mirrorCovered_pair : (mirrorCovered f s).pair =
    { s.pair with
      cover := coverWith s.pair.cover f.recs, sync := s.pair.sync || coverWith s.pair.cover f.recs == allCovered } := rfl

end Covered

theorem applyMirror_spec (t start : Nat) (f : Mirror) (s : State) : (s.applyMirror t start f).pair.missed = 0 ∧
    (s.applyMirror t start f).pair.frameAt = s.clk.ticks ∧ (s.applyMirror t start f).rd A.PAIR_PRECHEAD = f.recHead0 ∧
    (s.applyMirror t start f).rdQ2 A.SCH_STATE_LO = f.schState % 2 ^ 32 ∧
    (∀ (b : Fin 8) (m : MirrorBank), f.banks[b.val]? = some m → ((s.applyMirror t start f).bank[b]).armed = m.armed) ∧
    (∀ (x : Fin 24) (m : MirrorTimer), f.timers[x.val]? = some m → (s.applyMirror t start f).rd (timAddr x 8) = m.chen) ∧
    (s.applyMirror t start f).pair.cover = coverWith s.pair.cover f.recs ∧
    (s.applyMirror t start f).pair.sync = (s.pair.sync || (s.applyMirror t start f).pair.cover == allCovered) := by
  have hfused := fused_only f (mirrorHeads f (mirrorStamped start f s))
  have hheads : (mirrorHeads f (mirrorStamped start f s)).pair = (mirrorStamped start f s).pair := wrs_pair _ _ _
  have hprec : (mirrorHeads f (mirrorStamped start f s)).rd A.PAIR_PRECHEAD = f.recHead0 := by
    unfold mirrorHeads
    rw [wrQ_out _ _ _ _ (by decide), rd_wr, if_pos rfl]
  rw [applyMirror_eq]
  generalize ((mirrorHeads f (mirrorStamped start f s)).loadFusion f).loadWheels f = u at hfused ⊢
  have hpair := (mirrorLoaded_pair t f u).trans ((hfused.pair rfl).trans hheads)
  have hp := mirrorCovered_pair f (mirrorLoaded t f u)
  rw [hpair] at hp
  rw [hp]
  exact ⟨rfl, rfl,
    (mirrorCovered_rd f _ _).trans ((mirrorLoaded_prechead t f u).trans ((hfused.regs _ (by decide +kernel)).trans hprec)),
    (mirrorCovered_quant f _ _).trans (mirrorLoaded_schedule t f u),
    fun b _ h => (congrArg (fun k => (k[b]).armed) (mirrorCovered_bank f _)).trans (mirrorLoaded_armed h),
    fun _ _ h => (mirrorCovered_rd f _ _).trans (mirrorLoaded_chen h), rfl, rfl⟩

theorem mirrorReceived_bad {s : State} {at' : Fin 200} {start : Nat} {f : Mirror} (hl : s.pair.link = .up)
    (ho : s.pair.owner = false) : exec (.mirrorReceived at' false start f) s = .next (s.satInc A.PAIR_CRCCNT) :=
  congrArg Host.Outcome.next (if_pos ⟨hl, ho⟩)

theorem mirrorReceived_good {s : State} {at' : Fin 200} {start : Nat} {f : Mirror} (hl : s.pair.link = .up)
    (ho : s.pair.owner = false) : ∃ u : State, exec (.mirrorReceived at' true start f) s = .next (u.applyMirror (u.clkAt at') start f) ∧
      u.clk = s.clk ∧ u.pair.cover = s.pair.cover ∧ u.pair.sync = s.pair.sync := by
  have hexec : exec (.mirrorReceived at' true start f) s =
      .next ((if !s.pair.ownIn && s.pair.take.isNone then s.ownFault else s).applyMirror
        ((if !s.pair.ownIn && s.pair.take.isNone then s.ownFault else s).clkAt at') start f) :=
    congrArg Host.Outcome.next (if_pos ⟨hl, ho⟩)
  refine ⟨_, hexec, ?_⟩
  have hclk : s.ownFault.clk = s.clk := (only_of_forget (ownFault_forget pairFound s (mayRaise_raising _) rfl)).clk rfl
  split
  · rw [ownFault_pair]
    exact ⟨hclk, rfl, rfl⟩
  · exact ⟨rfl, rfl, rfl⟩

end Sys2Proof.Proofs
end

section
/-! SUPPORT. Proofs of the hot takeover (R433, R434): the state commit, release sequences and the abandonment. -/
namespace Sys2Proof.Proofs
set_option Elab.async false
open Sys2Proof.Machine Sys2Proof.Safety Sys2Proof.Laws

/-! ### What a protection reaction leaves of the axes' states -/

/-- Every axis is in the state it was in. -/
def SameSt (s t : State) : Prop := ∀ a : Fin 24, (t.ax[a]).st = (s.ax[a]).st

theorem SameSt.refl (s : State) : SameSt s s := fun _ => rfl

theorem SameSt.trans {s t u : State} (h : SameSt s t) (h' : SameSt t u) : SameSt s u := fun a => (h' a).trans (h a)

theorem sameSt_of_ax {s t : State} (h : t.ax = s.ax) : SameSt s t := fun a => by rw [h]

theorem modAx_sameSt (s : State) (a : Fin 24) {f : Axis → Axis} (hf : ∀ x, (f x).st = x.st) : SameSt s (s.modAx a f) := by
  intro c
  rw [modAx_get]
  split
  next h => rw [hf, h]
  next => rfl

theorem each_sameSt {α : Type} {f : State → α → State} (hf : ∀ s x, SameSt s (f s x)) (l : List α) :
    ∀ s : State, SameSt s (s.each l f) := by
  induction l with
  | nil => exact fun s => SameSt.refl s
  | cons x xs ih => exact fun s => (hf s x).trans (ih (f s x))

theorem loseAsc_sameSt (s : State) (a : Fin 24) : SameSt s (s.loseAsc a) := by
  unfold State.loseAsc
  extract_lets b j s1
  have h1 : SameSt s s1 := modAx_sameSt s a (fun _ => rfl)
  refine h1.trans (sameSt_of_ax ?_)
  rw [raise_ax]
  rfl

theorem ascSupply_sameSt (s : State) (a : Fin 24) : SameSt s (s.ascSupply a) := by
  unfold State.ascSupply
  split
  · exact SameSt.trans (sameSt_of_ax (each_keeps State.ax countCut_ax (s.axHbs a) s)) (loseAsc_sameSt _ a)
  · exact SameSt.refl s

theorem sideFor_sameSt (s : State) (a : Fin 24) (before : Bool) : SameSt s (s.sideFor a before) := by
  unfold State.sideFor
  split
  · split
    · exact SameSt.refl s
    · refine SameSt.trans ?_ (ascSupply_sameSt _ a)
      exact modAx_sameSt s a (fun _ => rfl)
  · exact modAx_sameSt s a (fun _ => rfl)

theorem reRow2_sameSt (s : State) (t : Nat) (l : List (Fin 72)) {f : State → State} (hf : SameSt s (f s)) :
    SameSt s (s.reRow2 t l f) := hf.trans (sameSt_of_ax (reRow2_steers s t l f 0).ax)

theorem bankCause_sameSt (s : State) (t : Nat) (b : Fin 8) (f : Bank → Bank) : SameSt s (s.bankCause t b f) := by
  unfold State.bankCause
  extract_lets before
  clear_value before
  have hbank : SameSt s (s.modBank b f) := sameSt_of_ax rfl
  have hsides := each_sameSt (f := fun u (p : Fin 24 × Bool) => u.sideFor p.1 p.2) (fun u p => sideFor_sameSt u p.1 p.2) before
    (s.modBank b f)
  exact reRow2_sameSt (f := fun s => (s.modBank b f).each before (fun s p => s.sideFor p.1 p.2)) s t (hbsOf b)
    (hbank.trans hsides)

theorem takeReaction_sameSt (s : State) (a : Fin 24) (h : Fin 72) (side : Side) : SameSt s (s.takeReaction a h side) := by
  unfold State.takeReaction
  extract_lets r
  split
  · exact SameSt.refl s
  · split
    · exact modAx_sameSt s a (fun _ => rfl)
    · split
      · refine SameSt.trans ?_ (ascSupply_sameSt _ a)
        exact modAx_sameSt s a (fun _ => rfl)
      · exact SameSt.refl s

theorem commitReactions_sameSt (s : State) (t : Nat) (b : Fin 8) : SameSt s (s.commitReactions t b) := by
  unfold State.commitReactions
  extract_lets f g latch s1
  refine (bankCause_sameSt s t b _).trans (reRow2_sameSt s1 t _ (each_sameSt (fun u h => ?_) _ s1))
  split
  · extract_lets side
    split
    · exact SameSt.refl u
    · exact takeReaction_sameSt u _ h side
  · exact SameSt.refl u

/-! ### The axes at the state commit (Table PAIR-6) -/

theorem startUp_other (s : State) {a c : Fin 24} (h : a ≠ c) : ((s.startUp a).ax[c]) = s.ax[c] := by
  unfold State.startUp
  extract_lets st now s1
  show s1.ax[c] = s.ax[c]
  unfold s1
  rw [modAx_get, if_neg h]

theorem commitAxis_other (s : State) {a c : Fin 24} (h : a ≠ c) : ((s.commitAxis a).ax[c]) = s.ax[c] := by
  unfold State.commitAxis
  extract_lets x
  split
  · rfl
  · rw [modAx_get, if_neg h]
  · exact toStopped_other s (Ne.symm h) .safe
  · rw [modAx_get, if_neg h]
    exact startUp_other s h

theorem commitAxis_stops {s : State} {a : Fin 24} (h : (s.ax[a]).st = .ident ∨ (s.ax[a]).st = .stopped) :
    ((s.commitAxis a).ax[a]).st = .stopped := by
  unfold State.commitAxis
  dsimp only
  rcases h with h | h
  · rw [h]
    exact (toStopped_ax s a .safe).1
  · rw [h]
    exact h

/-- An axis in IDENT or STOPPED is STOPPED once every axis has committed. -/
theorem commitAxes_stops {s : State} {a : Fin 24} (h : (s.ax[a]).st = .ident ∨ (s.ax[a]).st = .stopped) :
    ((s.each (List.finRange 24) State.commitAxis).ax[a]).st = .stopped := by
  refine each_makes (I := fun u => (u.ax[a]).st = .ident ∨ (u.ax[a]).st = .stopped) (P := fun u => (u.ax[a]).st = .stopped) (x := a)
    (fun u y hu => ?_) (fun u y _ hu => ?_) (fun u hu => commitAxis_stops hu) (List.mem_finRange a) h
  · by_cases hy : y = a
    · subst hy
      exact Or.inr (commitAxis_stops hu)
    · rw [commitAxis_other u hy]
      exact hu
  · by_cases hy : y = a
    · subst hy
      exact commitAxis_stops (Or.inr hu)
    · rw [commitAxis_other u hy]
      exact hu

/-! ### The state commit (R433) -/

/-- The schedule's targets back to PENDING, or FIRED. -/
def queueUncommitted (s : State) : State := s.modSched (fun q => { q with q := q.q.map (fun p => (p.1, p.2.uncommit)) })

/-- The banks' reactions taken over, and the inertial sequence that the fusion waits for begun. -/
def reactionsCommitted (t : Nat) (s : State) : State := s.each allBanks (fun s b => s.commitReactions t b)

def imuCommitted (s : State) : State :=
  match s.imuCfg with
  | none => s
  | some _ => if s.fusOn && s.fusCfg 5 == 1 && s.fus.imu.isNone then imuTrigger s else s

/-- The parts of the commit that the role's owner follows. -/
def engineCommitted (t : Nat) (s : State) : State := imuCommitted (reactionsCommitted t (s.each (List.finRange 24) State.commitAxis))

/-- The takeover waits for the first bank that leaves pin float, or has ended (R433). -/
def takeCommitted (s : State) : State := s.modPair (fun p => { p with take := if s.anyBankOn then some .committed else none })

theorem takeoverCommit_eq (t : Nat) (s : State) : takeoverCommit t s =
    (takeCommitted (engineCommitted t (queueUncommitted s))).refloatAll t := by
  unfold takeoverCommit
  extract_lets s1 s2 s3 s4 s5
  have e4 : engineCommitted t (queueUncommitted s) = imuCommitted s3 := rfl
  rw [e4]
  show (takeCommitted s4).refloatAll t = _
  unfold s4
  clear_value s3
  rfl

def commitReach : Parts := raising
  { regs := [.AX_STARTS, .GATE_BSTUVCNT, .GATE_FLT, .PROT_AXSTAT, .FUS_IMU_LOST], tim := true, hb := true, bank := true
    ax := true, fus := true }

theorem imuCommitted_forget (s : State) : forget commitReach (imuCommitted s) = forget commitReach s := by
  unfold imuCommitted
  split
  · rfl
  · split
    · exact imuTrigger_forget _ s (mayRaise_raising _) rfl (has_of_mem (by decide))
    · rfl

theorem engineCommitted_only (t : Nat) (s : State) : Only commitReach s (engineCommitted t s) := by
  have haxes : forget commitReach (s.each (List.finRange 24) State.commitAxis) = forget commitReach s :=
    each_forget _ _ _ (fun u a => commitAxis_forget _ u a (mayRaise_raising _) rfl (has_of_mem (by decide))) s
  have hbanks (u : State) : forget commitReach (reactionsCommitted t u) = forget commitReach u :=
    each_forget _ (fun s b => s.commitReactions t b) _ (fun u b => commitReactions_forget _ u t b (mayRaise_raising _) rfl rfl rfl
      rfl (has_of_mem (by decide)) (has_of_mem (by decide)) (has_of_mem (by decide))) u
  exact only_of_forget ((imuCommitted_forget _).trans ((hbanks _).trans haxes))

theorem imuCommitted_ax (s : State) : (imuCommitted s).ax = s.ax := by
  unfold imuCommitted
  split
  · rfl
  · split
    · exact (only_of_forget (imuTrigger_forget (raising { regs := [.FUS_IMU_LOST], fus := true }) s (mayRaise_raising _) rfl
        (has_of_mem (by decide)))).ax rfl
    · rfl

theorem engineCommitted_stops {t : Nat} {s : State} {a : Fin 24} (h : (s.ax[a]).st = .ident ∨ (s.ax[a]).st = .stopped) :
    ((engineCommitted t s).ax[a]).st = .stopped := by
  unfold engineCommitted
  rw [imuCommitted_ax]
  exact (each_sameSt (f := fun s b => s.commitReactions t b) (fun u b => commitReactions_sameSt u t b) allBanks _ a).trans
    (commitAxes_stops h)

theorem takeoverCommit_spec (t : Nat) (s : State) :
    (takeoverCommit t s).pair.take = (if s.anyBankOn = true then some .committed else none) ∧
    (takeoverCommit t s).sched.q = s.sched.q.map (fun p => (p.1, p.2.uncommit)) ∧
    ∀ a : Fin 24, (s.ax[a]).st = .ident ∨ (s.ax[a]).st = .stopped → ((takeoverCommit t s).ax[a]).st = .stopped := by
  have honly := engineCommitted_only t (queueUncommitted s)
  have hstops (a : Fin 24) := engineCommitted_stops (t := t) (s := queueUncommitted s) (a := a)
  rw [takeoverCommit_eq]
  generalize engineCommitted t (queueUncommitted s) = u at honly hstops ⊢
  have hon : u.anyBankOn = s.anyBankOn := by
    have hpwr : u.pwr = s.pwr := honly.pwr rfl
    unfold State.anyBankOn State.dom
    rw [hpwr]
  have hend := refloatAll_only (takeCommitted u) t
  have htake := congrArg Pair.take (refloatAll_ungated (takeCommitted u) t)
  refine ⟨htake.trans ?_, ?_, fun a h => ?_⟩
  · show (if u.anyBankOn = true then some TakeSt.committed else none) = _
    rw [hon]
  · rw [hend.sched rfl]
    exact congrArg Sched.q (honly.sched rfl)
  · rw [hend.ax rfl]
    exact hstops a h

/-! ### Release sequences (R422, R433) -/

theorem releaseSequence_locks (t : Nat) {s : State} (ho : s.pair.owner = false) : (releaseSequence t 7 s).pair.lockout = true ∧
    (releaseSequence t 7 s).pair.take = none ∧ (releaseSequence t 7 s).pair.relCause = 7 := by
  have he : releaseSequence t 7 s =
      (s.modPair (fun p => { p with relCause := 7, lockout := true, take := none })).refloatAll t := by
    unfold releaseSequence
    extract_lets s1
    rw [if_pos rfl, if_neg (by rw [show s1.pair.owner = s.pair.owner from rfl, ho]; exact nofun)]
    rfl
  rw [he]
  have hp := refloatAll_ungated (s.modPair (fun p => { p with relCause := 7, lockout := true, take := none })) t
  exact ⟨congrArg Pair.lockout hp, congrArg Pair.take hp, congrArg Pair.relCause hp⟩

theorem releaseSequence_takes (t : Nat) {s : State} {cause : Nat} (hc : cause = 4 ∨ cause = 5 ∨ cause = 6 ∨ cause = 8)
    (hm : s.mayTake = true) : releaseSequence t cause s =
    s.modPair (fun p => { p with relCause := cause, take := some .seen, takeAt := t, takeCause := 2 }) := by
  unfold releaseSequence
  extract_lets s1
  rw [if_neg (by omega), if_pos ⟨hc, hm⟩]
  rfl

theorem releaseSequence_told (t : Nat) {s : State} {cause : Nat} (hc : cause ≠ 7) (hm : s.mayTake = false) :
    releaseSequence t cause s = s.modPair (fun p => { p with relCause := cause }) := by
  have hm1 : (s.modPair (fun p => { p with relCause := cause })).mayTake = false := hm
  unfold releaseSequence
  extract_lets s1
  rw [if_neg hc, if_neg (fun ⟨_, h⟩ => nomatch hm1.symm.trans h)]

theorem exec_releaseSequence {s : State} (at' : Fin 200) (cause : Byte) (hoff : s.pair.link ≠ .off) (hlost : s.pair.link ≠ .lost) :
    exec (.releaseSequenceReceived at' cause) s = .next (releaseSequence (s.clkAt at') cause.toNat s) :=
  congrArg Host.Outcome.next (if_neg (fun h => h.elim hoff hlost))

/-! ### The abandonment (Table PAIR-8) -/

/-- A release in a takeover abandons it. -/
theorem releaseOwner_abandons {s : State} (t c : Nat) (h : s.pair.take.isSome = true) : (s.releaseOwner t c).pair.owner = false ∧
    (s.releaseOwner t c).pair.take = none ∧ (s.releaseOwner t c).pair.ownCause = 10 ∧
    eventBit (s.releaseOwner t c) evPAIR_OWNER = true := by
  have hp := releaseOwner_ungated s t c
  have hcause := congrArg Pair.ownCause hp
  refine ⟨releaseOwner_owner s t c, congrArg Pair.take hp, hcause.trans ?_, releaseOwner_event s t c⟩
  show (if s.pair.take.isSome then 10 else c) = 10
  rw [if_pos h]

/-- What the loss does but to the pair. -/
def lossAside : Parts := recording
  { regs := [.GATE_BSTUVCNT, .GATE_FLT, .PROT_AXSTAT], free := true, ops := true, tim := true, hb := true, bank := true, ax := true
    img := true, mem := true }

theorem lossTold_pair (t : Nat) (vmain vbak : Word) (s : State) : (lossTold t vmain vbak s).pair = s.pair := by
  have hrec : MayRecord lossAside := mayRecord_recording _
  have hev : MayRaise lossAside := hrec.queue.raises
  exact (only_of_forget ((raise_forget lossAside _ _ _ _ (by decide) hev).trans ((thaw_forget _ _ .handover hrec).trans
    ((banksSafe_forget _ _ t hev rfl rfl rfl rfl rfl (has_of_mem (by decide)) (has_of_mem (by decide))
      (has_of_mem (by decide))).trans ((abortBoot_forget _ _ rfl).trans
        (abortAll_forget _ (lossNoted vmain vbak s) hev rfl rfl rfl rfl rfl)))))).pair rfl

theorem vmainFail_abandons {s : State} (hst : s.pwr.st = .main) (h : s.pair.take.isSome = true) (t : Nat) (vmain vbak : Word) :
    (vmainFail t vmain vbak s).pair.owner = false ∧ (vmainFail t vmain vbak s).pair.take = none ∧
    (vmainFail t vmain vbak s).pair.ownCause = 10 ∧ eventBit (vmainFail t vmain vbak s) evPAIR_OWNER = true := by
  have hpair : (lossTold t vmain vbak s).retryGate.pair = s.pair :=
    ((retryGate_only _).pair rfl).trans (lossTold_pair t vmain vbak s)
  have htake : (lossTold t vmain vbak s).retryGate.pair.take.isSome = true := by
    rw [hpair]
    exact h
  rw [vmainFail_eq hst, htake, Bool.true_or, if_pos rfl]
  exact releaseOwner_abandons t 5 htake

/-- What the device-wide reaction does but to the pair. -/
def deviceAside : Parts := raising
  { regs := [.GATE_BSTUVCNT, .GATE_FLT, .PROT_AXSTAT, .SAFE_CAUSE, .SAFE_DETAIL], ops := true, tim := true, hb := true, bank := true
    ax := true, safe := true }

/-- One bank held and disarmed by the device-wide reaction. -/
def bankHeld (t : Nat) (s : State) (b : Fin 8) : State :=
  ((s.each (axesOf b) (fun s a => s.stopAxis a .safe)).bankCause t b (fun k => { k with dev := true })).disarm t b 3 .safe

theorem bankHeld_forget (t : Nat) (s : State) (b : Fin 8) : forget deviceAside (bankHeld t s b) = forget deviceAside s := by
  have hev : MayRaise deviceAside := mayRaise_raising _
  exact (disarm_forget _ _ t b 3 .safe hev rfl rfl rfl rfl rfl (has_of_mem (by decide)) (has_of_mem (by decide))).trans
    ((bankCause_forget _ _ t b _ hev rfl rfl rfl rfl (has_of_mem (by decide)) (has_of_mem (by decide)) (has_of_mem (by decide))).trans
      (each_forget _ _ _ (fun u a => stopAxis_forget _ u a .safe hev rfl rfl) s))

/-- The device-wide reaction before the release of ownership. -/
def deviceHeld (t cause detail : Nat) (s : State) : State :=
  ((((s.latchCause cause detail).raiseSafeDev cause detail).each allBanks (bankHeld t)).failOp opMOTOR_ID).failOp opSHUNT_CAL

theorem deviceHeld_pair (t cause detail : Nat) (s : State) : (deviceHeld t cause detail s).pair = s.pair := by
  have hev : MayRaise deviceAside := mayRaise_raising _
  exact (only_of_forget ((failOp_forget deviceAside _ _ hev rfl).trans ((failOp_forget _ _ _ hev rfl).trans
    ((each_forget _ _ _ (fun u b => bankHeld_forget t u b) _).trans ((raiseSafeDev_forget _ _ _ _ hev).trans
      (latchCause_forget _ s cause detail rfl (has_of_mem (by decide)) (has_of_mem (by decide)))))))).pair rfl

theorem deviceWide_eq (s : State) (t cause detail : Nat) : s.deviceWide t cause detail =
    if (deviceHeld t cause detail s).pair.take.isSome || ((deviceHeld t cause detail s).pair.owner && s.partnerOk) then
      (deviceHeld t cause detail s).releaseOwner t 4
    else deviceHeld t cause detail s := by
  unfold State.deviceWide
  extract_lets ready s1 s2 s3
  have e3 : s3 = deviceHeld t cause detail s := rfl
  rw [e3]

theorem deviceWide_abandons {s : State} (h : s.pair.take.isSome = true) (t cause detail : Nat) :
    (s.deviceWide t cause detail).pair.owner = false ∧ (s.deviceWide t cause detail).pair.take = none ∧
    (s.deviceWide t cause detail).pair.ownCause = 10 ∧ eventBit (s.deviceWide t cause detail) evPAIR_OWNER = true := by
  have htake : (deviceHeld t cause detail s).pair.take.isSome = true := by
    rw [deviceHeld_pair]
    exact h
  rw [deviceWide_eq, htake, Bool.true_or, if_pos rfl]
  exact releaseOwner_abandons t 4 htake

/-! ### The takeover as a whole -/

theorem takeoverQualified {s : State} {at' : Fin 200} (hs : s.pair.take = some .seen) (hl : s.pair.lockout = false) :
    (s.ownReleased (s.clkAt at') s.pair.takeAt = false → exec (.takeoverQualified at') s = .next s) ∧
    (s.ownReleased (s.clkAt at') s.pair.takeAt = true →
      exec (.takeoverQualified at') s = .next (s.takeOwner (s.clkAt at') s.pair.takeCause)) :=
  ⟨fun h => congrArg Host.Outcome.next (if_neg (fun ⟨_, _, hr⟩ => nomatch h.symm.trans hr)),
    fun h => congrArg Host.Outcome.next (if_pos ⟨hs, hl, h⟩)⟩

/-- Settles O46: the frames a standby follows, the takeover step by step, and the two reactions that abandon it. -/
theorem pairTakeover : Obligations.PairTakeover := by
  unfold Obligations.PairTakeover
  refine ⟨fun s at' start f hl ho => ⟨mirrorReceived_bad hl ho, ?_⟩,
    fun s seq ready cfgmis head0 sync lockout fault hl ho => congrArg Host.Outcome.next (if_pos ⟨hl, ho⟩),
    fun s at' cause hoff hlost => ?_, fun s at' hs hlock => ?_,
    fun s at' ht => ⟨_, congrArg Host.Outcome.next (if_pos ht), takeoverCommit_spec _ s⟩,
    fun s at' group vmain vbak hup hst htake i hi => ?_⟩
  · obtain ⟨u, hexec, hclk, hcover, hsync⟩ := mirrorReceived_good (at' := at') (start := start) (f := f) hl ho
    rw [← hclk, ← hcover, ← hsync]
    exact ⟨_, hexec, applyMirror_spec _ start f u⟩
  · have hexec := exec_releaseSequence at' cause hoff hlost
    rw [hexec]
    refine ⟨fun hc ho => ⟨_, rfl, ?_⟩, fun hc hm => ?_, fun hc hm => ?_⟩
    · rw [hc]
      exact releaseSequence_locks _ ho
    · rw [releaseSequence_takes _ hc hm]
    · rw [releaseSequence_told _ hc hm]
  · obtain ⟨hno, hyes⟩ := takeoverQualified (at' := at') hs hlock
    obtain ⟨h1, h2, h3, h4, h5⟩ := takeOwner_spec s (s.clkAt at') s.pair.takeCause
    exact ⟨hno, fun h => ⟨_, hyes h, h1, h2, h3, h4, h5⟩⟩
  · rcases List.mem_cons.mp hi with rfl | hi
    · exact ⟨_, congrArg Host.Outcome.next (whenUp_of_up hup _), deviceWide_abandons htake _ _ _⟩
    · rw [List.mem_singleton.mp hi]
      exact ⟨_, rfl, vmainFail_abandons hst htake _ _ _⟩

end Sys2Proof.Proofs
end

section
/-! SUPPORT. Proofs of resets, their release and the test port (R480 to R489): what a reset leaves, and what a release shows. -/
namespace Sys2Proof.Proofs
set_option Elab.async false
open Sys2Proof.Machine Sys2Proof.Safety Sys2Proof.Laws

/-! ### The start of a reset (R483) -/

/-- The lands of a device in reset, with what the reset's source was. -/
def resetLands (l : Lands) : Lands :=
  { l with inReset := true, start := startRST, deferred := false, lastSw := l.sw, lastTap := l.tapHold }

/-- What the end of a hold may change. -/
def holdEndReach : Parts := raising
  { regs := [.GATE_BSTUVCNT, .GATE_FLT, .PROT_AXSTAT], tim := true, hb := true, bank := true, ax := true }

theorem holdsEnd_only (s : State) (t : Nat) : Only holdEndReach s (s.each allBanks (fun s b => s.endHold t b)) :=
  only_of_forget (each_forget _ (fun s b => s.endHold t b) _ (fun u b => endHold_forget _ u t b (mayRaise_raising _) rfl rfl rfl rfl
    (has_of_mem (by decide)) (has_of_mem (by decide)) (has_of_mem (by decide))) s)

theorem resetQuiet_off (s : State) (t : Nat) (b : Fin 8) : ((resetQuiet s t).bank[b]).armed = false := by
  unfold resetQuiet
  refine Calm.off (refloatAll_calm (Calm.refl true _)) ?_
  exact each_off (f := fun u c => u.unarm t c) (fun u _ => unarm_calm (Calm.refl true u)) (fun u c => unarm_off u t c) allBanks
    _ b (mem_allBanks b)

theorem dropCore_off (s : State) (t : Nat) (b : Fin 8) : ((s.dropCore t).bank[b]).armed = false := by
  rw [dropCore_eq]
  exact (allOff_calm (Calm.refl true (resetQuiet s t))).off (resetQuiet_off s t b)

theorem dropCore_shows (s : State) (t : Nat) : (s.dropCore t).rd A.PWR_DOM_REQ = 0 ∧ (s.dropCore t).img.active = none := by
  rw [dropCore_eq]
  refine ⟨?_, rfl⟩
  rw [modImg_rd, rd_wr, if_pos rfl]

theorem resetNow_eq (s : State) (t : Nat) : s.resetNow t =
    (((s.modLands resetLands).each allBanks (fun s b => s.endHold t b))).dropCore t := rfl

theorem resetNow_lands (s : State) (t : Nat) : (s.resetNow t).lands = resetLands s.lands := by
  rw [resetNow_eq, (dropCore_only _ t).lands rfl, (holdsEnd_only _ t).lands rfl]
  rfl

/-- A device that a reset has taken down. -/
structure TakenDown (t : State) : Prop where
  inReset : t.lands.inReset = true
  start : t.lands.start = startRST
  up : t.up = false
  on : t.pwr.on = 0
  req : t.rd A.PWR_DOM_REQ = 0
  active : t.img.active = none
  off : ∀ b : Fin 8, (t.bank[b]).armed = false

theorem resetNow_down (s : State) (t : Nat) : TakenDown (s.resetNow t) := by
  have hlands := resetNow_lands s t
  have hin : (s.resetNow t).lands.inReset = true := by
    rw [hlands]
    rfl
  refine ⟨hin, ?_, ?_, ?_, ?_, ?_, fun b => ?_⟩
  · rw [hlands]
    rfl
  · unfold State.up
    rw [hin]
    exact Bool.and_false _
  · rw [resetNow_eq]
    exact dropCore_on _ t
  · rw [resetNow_eq]
    exact (dropCore_shows _ t).1
  · rw [resetNow_eq]
    exact (dropCore_shows _ t).2
  · rw [resetNow_eq]
    exact dropCore_off _ t b

section From
variable {s : State} (hup : s.up = true)
include hup

theorem up_parts : s.pwr.core = true ∧ s.lands.inReset = false := by
  obtain ⟨hcore, hin⟩ := Bool.and_eq_true_iff.mp hup
  exact ⟨hcore, by simpa using hin⟩

theorem resetFrom_now (t : Nat) (hc : s.pwr.st ≠ .critical) (hf : s.pwr.st ≠ .flush) : s.resetFrom t = s.resetNow t := by
  obtain ⟨hcore, hin⟩ := up_parts hup
  unfold State.resetFrom
  rw [hin, if_neg nofun, if_neg (fun h => h.elim hc hf), if_pos hcore]

theorem resetFrom_later (t : Nat) (h : s.pwr.st = .critical ∨ s.pwr.st = .flush) :
    s.resetFrom t = s.modLands (fun l => { l with deferred := true }) := by
  obtain ⟨_, hin⟩ := up_parts hup
  unfold State.resetFrom
  rw [hin, if_neg nofun, if_pos h]

end From

/-- Whatever a source of reset does, the lands keep their straps and the test port's instruction. -/
theorem resetFrom_keeps (s : State) (t : Nat) : (s.resetFrom t).lands.strapBoot = s.lands.strapBoot ∧
    (s.resetFrom t).lands.strapPair = s.lands.strapPair ∧ (s.resetFrom t).lands.strapOpen = s.lands.strapOpen ∧
    (s.resetFrom t).lands.tap = s.lands.tap ∧ (s.resetFrom t).lands.tapHold = s.lands.tapHold := by
  unfold State.resetFrom
  split
  · exact ⟨rfl, rfl, rfl, rfl, rfl⟩
  · split
    · exact ⟨rfl, rfl, rfl, rfl, rfl⟩
    · split
      · rw [resetNow_lands]
        exact ⟨rfl, rfl, rfl, rfl, rfl⟩
      · exact ⟨rfl, rfl, rfl, rfl, rfl⟩

/-! ### The sources: RST_N and a software reset (R482, R489) -/

/-- The lands as a recognised RST_N low finds them. -/
def lowSeen (x : Straps) (s : State) : State := (s.strapped x).modLands (fun l => { l with rstN := s.pwr.core })

section Sources
variable {s : State} (hup : s.up = true) (hears : s.hears = true) (at' : Fin 200)
include hup hears

theorem exec_softwareReset : exec (.softwareReset at') s =
    .next ((s.modLands (fun l => { l with sw := true })).resetFrom (s.clkAt at')) := by
  change execSoftwareReset at' s = _
  rw [execSoftwareReset, whenHost_of_hears hup hears]
  rfl

omit hup in
theorem exec_rstN {low : ResetLow} (hw : 1000 ≤ low.width) :
    exec (.rstNAssert at' low) s = .next ((lowSeen low.straps s).resetFrom (s.clkAt at')) := by
  change execRstNAssert at' low s = _
  rw [execRstNAssert, if_pos hears, passes_long (by omega) (by omega)]
  rfl

omit hup in
theorem exec_rstN_short {low : ResetLow} (hw : low.width < 100) : exec (.rstNAssert at' low) s = .next s := by
  change execRstNAssert at' low s = _
  rw [execRstNAssert, if_pos hears, passes_short hw]

/-- A source of reset sets lands alone before its reset. -/
theorem source_runs {i : Instr} (hi : i = .softwareReset at' ∨ ∃ low, 1000 ≤ low.width ∧ i = .rstNAssert at' low) :
    ∃ f : Lands → Lands, exec i s = .next ((s.modLands f).resetFrom (s.clkAt at')) ∧
      (f s.lands).inReset = s.lands.inReset ∧ (i = .softwareReset at' → (f s.lands).sw = true) := by
  rcases hi with rfl | ⟨low, hw, rfl⟩
  · exact ⟨_, exec_softwareReset hup hears at', rfl, fun _ => rfl⟩
  · exact ⟨fun l =>
      { l with strapBoot := low.straps.boot.val, strapPair := low.straps.id.val, strapOpen := low.straps.opens, rstN := s.pwr.core },
      exec_rstN hears at' hw, rfl, nofun⟩

end Sources

theorem modLands_up {s : State} {f : Lands → Lands} (hup : s.up = true) (hf : (f s.lands).inReset = s.lands.inReset) :
    (s.modLands f).up = true := by
  unfold State.up
  show (s.pwr.core && !(f s.lands).inReset) = true
  rw [hf]
  exact hup

/-- A source of reset starts one, or waits in a hand-over. -/
theorem sourceResets {s : State} (hup : s.up = true) (hears : s.hears = true) {at' : Fin 200} {i : Instr}
    (hi : i = .softwareReset at' ∨ ∃ low, 1000 ≤ low.width ∧ i = .rstNAssert at' low) :
    (s.pwr.st ≠ .critical → s.pwr.st ≠ .flush → ∃ t, exec i s = .next t ∧ t.lands.inReset = true ∧
      t.lands.start = startRST ∧ (i = .softwareReset at' → t.lands.lastSw = true) ∧ t.up = false ∧ t.pwr.on = 0 ∧
      t.rd A.PWR_DOM_REQ = 0 ∧ t.img.active = none ∧ ∀ b : Fin 8, (t.bank[b]).armed = false) ∧
    (s.pwr.st = .critical ∨ s.pwr.st = .flush → ∃ t, exec i s = .next t ∧ t.lands.deferred = true ∧
      t.lands.inReset = false ∧ t.pwr = s.pwr ∧ t.bank = s.bank ∧ t.regs = s.regs) := by
  obtain ⟨f, hexec, hin, hsw⟩ := source_runs hup hears at' hi
  have hup' := modLands_up hup hin
  refine ⟨fun hc hf => ⟨_, hexec, ?_⟩, fun h => ⟨_, hexec, ?_⟩⟩
  · rw [resetFrom_now hup' _ hc hf]
    obtain ⟨h1, h2, h3, h4, h5, h6, h7⟩ := resetNow_down (s.modLands f) (s.clkAt at')
    refine ⟨h1, h2, fun hi => ?_, h3, h4, h5, h6, h7⟩
    rw [resetNow_lands]
    exact hsw hi
  · rw [resetFrom_later hup' _ h]
    exact ⟨rfl, hin.trans (up_parts hup).2, rfl, rfl, rfl⟩

/-! ### The test port (R484, R486) -/

theorem tapHolds_spec {s : State} (hv : s.pwr.vioOk = true) (t : Nat) (i : TapInstr) : (tapHolds t i s).lands.tap = i ∧
    (tapHolds t i s).lands.tapHold = true ∧ (s.up = true → s.pwr.st ≠ .critical → s.pwr.st ≠ .flush →
      (tapHolds t i s).lands.inReset = true ∧ ∀ b : Fin 8, ((tapHolds t i s).bank[b]).armed = false) := by
  have he : tapHolds t i s = (s.modLands (fun l => { l with tap := i, tapHold := true })).resetFrom t := if_pos hv
  obtain ⟨_, _, _, htap, hhold⟩ := resetFrom_keeps (s.modLands (fun l => { l with tap := i, tapHold := true })) t
  rw [he]
  refine ⟨htap, hhold, fun hup hc hf => ?_⟩
  rw [resetFrom_now (modLands_up hup rfl) t hc hf]
  have hdown := resetNow_down (s.modLands (fun l => { l with tap := i, tapHold := true })) t
  exact ⟨hdown.inReset, hdown.off⟩

theorem tapRuns_on {s : State} (hv : s.pwr.vioOk = true) (i : TapInstr) :
    tapRuns i s = s.modLands (fun l => { l with tap := i, tapHold := false }) := if_pos hv

theorem tapRuns_off {s : State} (hv : s.pwr.vioOk = false) (i : TapInstr) : tapRuns i s = s :=
  if_neg (by rw [State.tapOn, hv]; exact nofun)

theorem tapHolds_off {s : State} (hv : s.pwr.vioOk = false) (t : Nat) (i : TapInstr) : tapHolds t i s = s :=
  if_neg (by rw [State.tapOn, hv]; exact nofun)

end Sys2Proof.Proofs
end

section
/-! SUPPORT. Proofs of the release of a reset (R480 to R483): the straps read, and the registers at their reset values. -/
namespace Sys2Proof.Proofs
set_option Elab.async false
open Sys2Proof.Machine Sys2Proof.Safety Sys2Proof.Laws

/-! ### The straps (R479, R480) -/

/-- The state whose straps a start reads. -/
def strapsSeen (s : State) : State := (s.clearRange 0x0400 0x0600).thaw .reset

theorem strapsSeen_lands (s : State) : (strapsSeen s).lands = s.lands := by
  have hrec : MayRecord (recording { blks := [.evt] }) := mayRecord_recording _
  exact (only_of_forget (thaw_forget _ (s.clearRange 0x0400 0x0600) .reset hrec)).lands rfl

theorem strapsRead_boot (s : State) : (strapsRead s).lands.bootsel =
    b2n ((strapsSeen s).strapRead 0 (natBit s.lands.strapBoot 0)) +
      2 * b2n ((strapsSeen s).strapRead 1 (natBit s.lands.strapBoot 1)) := by
  rw [← strapsSeen_lands s]
  rfl

theorem strapsRead_id (s : State) : (strapsRead s).lands.pairId =
    b2n ((strapsSeen s).strapRead 2 (natBit s.lands.strapPair 0)) := by
  rw [← strapsSeen_lands s]
  rfl

/-- The two bits of a number put together from them. -/
theorem natBit_pair (x y : Bool) : natBit (b2n x + 2 * b2n y) 0 = x ∧ natBit (b2n x + 2 * b2n y) 1 = y ∧
    b2n x + 2 * b2n y < 4 := by
  cases x <;> cases y <;> decide

theorem b2n_lt (x : Bool) : b2n x < 2 := by cases x <;> decide

/-- The straps as a start reads them: in range, and at their levels where they are held. -/
theorem strapsRead_spec (s : State) : (strapsRead s).lands.bootsel < 4 ∧ (strapsRead s).lands.pairId < 2 ∧
    (∀ k, k < 2 → s.lands.strapOpen.getLsbD k = false →
      natBit (strapsRead s).lands.bootsel k = natBit s.lands.strapBoot k) ∧
    (s.lands.strapOpen.getLsbD 2 = false → (strapsRead s).lands.pairId = b2n (natBit s.lands.strapPair 0)) := by
  have hheld {k : Nat} (h : s.lands.strapOpen.getLsbD k = false) (level : Bool) : (strapsSeen s).strapRead k level = level :=
    strapRead_held (by rw [strapsSeen_lands]; exact h) level
  rw [strapsRead_boot, strapsRead_id]
  obtain ⟨hlo, hhi, hlt⟩ := natBit_pair ((strapsSeen s).strapRead 0 (natBit s.lands.strapBoot 0))
    ((strapsSeen s).strapRead 1 (natBit s.lands.strapBoot 1))
  refine ⟨hlt, b2n_lt _, fun k hk h => ?_, fun h => by rw [hheld h]⟩
  obtain rfl | rfl : k = 0 ∨ k = 1 := by omega
  · exact hlo.trans (hheld h _)
  · exact hhi.trans (hheld h _)

/-! ### The registers at their reset values (Table LAND-8) -/

theorem clearRange_in (s : State) {lo hi a : Nat} (h1 : lo ≤ a) (h2 : a < hi) : (s.clearRange lo hi).rd a = resetOf a := by
  unfold State.rd State.clearRange
  dsimp only
  rw [mapGet_filter_out _ _ _ (fun _ => by simp [h1, h2])]
  rfl

theorem showKey_out (s : State) (chk : Word) {a : Nat} (h1 : a ≠ A.IMG_KEYSTAT) (h2 : a ≠ A.IMG_KEYCHK) :
    (s.showKey chk).rd a = s.rd a := by
  unfold State.showKey
  split
  · rfl
  · rw [rd_wr, if_neg h2, rd_wr, if_neg h1]
  · rw [rd_wr, if_neg h2, rd_wr, if_neg h1]

theorem resetRegs_high (s : State) {a : Nat} (h1 : 0x0C00 ≤ a) (h2 : a < 0x8000) : s.resetRegs.rd a = resetOf a := by
  unfold State.resetRegs
  extract_lets cnt chk s1
  rw [showKey_out _ _ (by unfold A.IMG_KEYSTAT; omega) (by unfold A.IMG_KEYCHK; omega), rd_wr,
    if_neg (by unfold A.SYS_RSTCNT; omega)]
  exact clearRange_in _ h1 h2

theorem resetRegs_count (s : State) : s.resetRegs.rd A.SYS_RSTCNT = s.rd A.SYS_RSTCNT := by
  unfold State.resetRegs
  extract_lets cnt chk s1
  rw [showKey_out _ _ (by decide) (by decide), rd_wr, if_pos rfl]

/-- What the engines' start changes: no register. -/
def enginesReach : Parts :=
  { clk := true, link := true, ops := true, can := true, tim := true, hb := true, bank := true, ax := true, fus := true
    sched := true, sol := true, img := true, pair := true }

theorem enginesReset_only (s : State) : Only enginesReach s (s.resetEngines).resetRole :=
  only_of_forget ((resetRole_forget _ _ rfl).trans
    (resetEngines_forget enginesReach s rfl rfl rfl rfl rfl rfl rfl rfl rfl rfl rfl rfl))

theorem renewed_rd (s : State) (kind : Nat) {a : Nat} (h : a ≠ A.SYS_RSTCNT) : (renewed s kind).rd a = s.resetRegs.rd a := by
  have hout := (enginesReset_only s.resetRegs).regs a rfl
  unfold renewed
  split
  · rw [satInc_rd _ _ _ h, hout]
  · exact hout

/-- The count of resets stands, and a release from RST_N adds to it (R489). -/
theorem renewed_count (s : State) (kind : Nat) : (renewed s kind).rd A.SYS_RSTCNT =
    if kind = startRST then w16 (satU ((s.rd A.SYS_RSTCNT).toNat + 1)) else s.rd A.SYS_RSTCNT := by
  have hout := ((enginesReset_only s.resetRegs).regs A.SYS_RSTCNT rfl).trans (resetRegs_count s)
  unfold renewed
  split
  · rw [satInc_self, hout]
  · exact hout

theorem satInc_lands (s : State) (a : Nat) : (s.satInc a).lands = s.lands := rfl

theorem renewed_lands (s : State) (kind : Nat) : (renewed s kind).lands = s.lands := by
  have hregs := (frame_img_lands (resetRegs_forget releaseRest s releaseRest_blks)).2
  have hout := (enginesReset_only s.resetRegs).lands rfl
  unfold renewed
  split
  · rw [satInc_lands, hout, hregs]
  · rw [hout, hregs]

theorem renewed_owner (s : State) (kind : Nat) : (renewed s kind).pair.owner = false := by
  unfold renewed
  split
  · rfl
  · rfl

theorem renewed_load (s : State) (kind : Nat) : (renewed s kind).img.load = none := by
  have hload := (resetEngines_img_lands s.resetRegs).1
  unfold renewed
  split
  · exact hload
  · exact hload

/-! ### What follows the reset values (Table LAND-8) -/

/-- The length of a row, from its first address to behind its last. -/
def dimSpan : List (Nat × Nat) → Nat
  | [] => 1
  | (n, st) :: ds => (n - 1) * st + dimSpan ds

theorem dimIdx_lt : ∀ {ds : List (Nat × Nat)} {off : Nat}, (dimIdx ds off).isSome = true → off < dimSpan ds
  | [], off, h => by
    rw [dimIdx] at h
    split at h
    next h0 => rw [h0]; exact Nat.one_pos
    next => exact nomatch h
  | (n, st) :: ds, off, h => by
    rw [dimIdx] at h
    split at h
    next hlt =>
      rw [Option.isSome_map] at h
      have hrest := dimIdx_lt h
      have hwhole : off / st * st ≤ (n - 1) * st := Nat.mul_le_mul_right st (by omega)
      have hoff := Nat.div_add_mod' off st
      unfold dimSpan
      omega
    next => exact nomatch h

theorem idx_bounds {w : RegRow} {a : Nat} (h : (w.idx a).isSome = true) : w.base ≤ a ∧ a < w.base + dimSpan w.dims := by
  unfold RegRow.idx at h
  split at h
  · exact nomatch h
  next hle =>
    have hlt := dimIdx_lt h
    omega

/-- The row stands aside of the blocks of the fusion, the schedule, the solver and CAN. -/
def asideRow (w : RegRow) : Prop :=
  w.base + dimSpan w.dims ≤ 0x1000 ∨ 0x2000 ≤ w.base ∧ w.base + dimSpan w.dims ≤ 0x4000

/-- The addresses of the fusion, the schedule, the solver and CAN. -/
def EngineAddr (a : Nat) : Prop := 0x1000 ≤ a ∧ (a < 0x2000 ∨ 0x4000 ≤ a) ∧ a < 0x8000

theorem engineAddr_blk {a : Nat} (h : 0x1000 ≤ a) : blkOf a ≠ .evt := by
  unfold blkOf
  rw [if_neg (by omega), if_neg (by omega), if_neg (by omega), if_neg (by omega), if_neg (by omega), if_neg (by omega),
    if_neg (by omega), if_neg (by omega), if_neg (by omega)]
  repeat' split
  all_goals exact nofun

theorem engineAddr_uncovered {P : Parts} (hblk : ∀ b ∈ P.blks, b = .evt)
    (hrow : ∀ w ∈ allRows.filter (fun w => P.regs.contains w.reg), asideRow w) {a : Nat} (h : EngineAddr a) :
    P.covers a = false := by
  obtain ⟨hlo, hmid, hhi⟩ := h
  refine not_covers ?_ (fun w hw => ?_)
  · refine Bool.eq_false_iff.mpr (fun hc => ?_)
    exact engineAddr_blk hlo (hblk _ (List.contains_iff_mem.mp hc))
  · refine Bool.eq_false_iff.mpr (fun hs => ?_)
    obtain ⟨hge, hlt⟩ := idx_bounds hs
    rcases hrow w hw with hside | ⟨hside, hend⟩
    · omega
    · omega

theorem release'_rd (s : State) (kind : Nat) {a : Nat} (h1 : announceReach.covers a = false) (h2 : safetyReach.covers a = false) :
    (s.release' kind).rd a = (renewed s kind).rd a := by
  rw [release'_eq, (boot_only _).regs _ rfl, released, (resetSafety_only _).regs _ h2, (announce_only _ _).regs _ h1]

theorem release'_reset (s : State) (kind : Nat) {a : Nat} (h : EngineAddr a) : (s.release' kind).rd a = resetOf a := by
  obtain ⟨hlo, hmid, hhi⟩ := h
  rw [release'_rd s kind (engineAddr_uncovered (by decide) (by unfold asideRow; decide +kernel) ⟨hlo, hmid, hhi⟩)
    (engineAddr_uncovered (by decide) (by unfold asideRow; decide +kernel) ⟨hlo, hmid, hhi⟩), renewed_rd s kind (by unfold A.SYS_RSTCNT; omega),
    resetRegs_high s (by omega) hhi]

theorem release'_count (s : State) (kind : Nat) : (s.release' kind).rd A.SYS_RSTCNT =
    if kind = startRST then w16 (satU ((s.rd A.SYS_RSTCNT).toNat + 1)) else s.rd A.SYS_RSTCNT := by
  rw [release'_rd s kind (by decide +kernel) (by decide +kernel), renewed_count]

theorem release'_owner (s : State) (kind : Nat) : (s.release' kind).pair.owner = false := by
  rw [release'_eq, (boot_only _).pair rfl, released, (resetSafety_only _).pair rfl, (announce_only _ _).pair rfl, renewed_owner]

theorem release'_straps (s : State) (kind : Nat) : (s.release' kind).lands.bootsel < 4 ∧ (s.release' kind).lands.pairId < 2 ∧
    (∀ k, k < 2 → s.lands.strapOpen.getLsbD k = false →
      natBit (s.release' kind).lands.bootsel k = natBit s.lands.strapBoot k) ∧
    (s.lands.strapOpen.getLsbD 2 = false → (s.release' kind).lands.pairId = b2n (natBit s.lands.strapPair 0)) := by
  have hlands := (release'_shows s kind).2.2
  have h := strapsRead_spec (renewed s kind)
  rw [renewed_lands] at h
  rw [hlands]
  exact h

/-- The boot load of a release (R89). -/
theorem release'_load (s : State) (kind : Nat) :
    (s.release' kind).img.load.isSome = true ↔ (s.release' kind).lands.bootsel < 2 := by
  have hload : (released s kind).img.load = none := by
    rw [released, (resetSafety_only _).img rfl, (announce_only _ _).img rfl, renewed_load]
  have hlands : (s.release' kind).lands = (released s kind).lands := by
    rw [release'_eq, (boot_only _).lands rfl]
  rw [hlands, release'_eq]
  generalize released s kind = u at hload ⊢
  unfold State.boot
  split
  next h => exact ⟨fun _ => h, fun _ => rfl⟩
  next h => exact ⟨fun hs => (nomatch (congrArg Option.isSome hload).symm.trans hs), fun hb => absurd hb h⟩

/-! ### The release as a whole -/

/-- What the report of a restored supply writes. -/
def restoreReach : Parts := raising { regs := [.PWR_LASTBNC, .PWR_LASTOUT] }

/-- A release, with the report of a restored supply where one is owed. -/
theorem resetRelease_ends {s : State} (hin : s.lands.inReset = true) (htap : s.lands.tapHold = false) (hcore : s.pwr.core = true)
    (hst : s.pwr.st = .main) (hvio : s.lands.start = startRST ∨ s.pwr.vioOk = true) :
    Only restoreReach (s.release' s.lands.start) (resetRelease s) ∧ Rings (s.release' s.lands.start) (resetRelease s) := by
  have hgo : (s.lands.start == startRST || s.pwr.vioOk) = true := by
    rcases hvio with h | h
    · rw [h]
      rfl
    · rw [h, Bool.or_true]
  unfold resetRelease
  extract_lets kind
  rw [hin, htap, hcore, hst, show (kind == startRST || s.pwr.vioOk) = true from hgo, if_pos (by decide)]
  split
  · exact ⟨restored_only _, restored_rings _⟩
  · exact ⟨only_of_forget rfl, Rings.refl _⟩

theorem resetRelease_spec {s : State} (hin : s.lands.inReset = true) (htap : s.lands.tapHold = false) (hcore : s.pwr.core = true)
    (hst : s.pwr.st = .main) (hvio : s.lands.start = startRST ∨ s.pwr.vioOk = true) :
    (resetRelease s).up = true ∧ (resetRelease s).rd A.PWR_START = w16 s.lands.start ∧
    eventBit (resetRelease s) evRESET = true ∧ (resetRelease s).lands.bootsel < 4 ∧ (resetRelease s).lands.pairId < 2 ∧
    (∀ k, k < 2 → s.lands.strapOpen.getLsbD k = false →
      natBit (resetRelease s).lands.bootsel k = natBit s.lands.strapBoot k) ∧
    (s.lands.strapOpen.getLsbD 2 = false → (resetRelease s).lands.pairId = b2n (natBit s.lands.strapPair 0)) ∧
    (resetRelease s).pair.owner = false ∧ ((resetRelease s).img.load.isSome = true ↔ (resetRelease s).lands.bootsel < 2) ∧
    (s.lands.start = startRST → (resetRelease s).rd A.SYS_RSTCNT = w16 (satU ((s.rd A.SYS_RSTCNT).toNat + 1))) ∧
    (s.lands.start ≠ startRST → (resetRelease s).rd A.SYS_RSTCNT = s.rd A.SYS_RSTCNT) ∧
    ∀ a, 0x1000 ≤ a → (a < 0x2000 ∨ 0x4000 ≤ a) → a < 0x8000 → (resetRelease s).rd a = resetOf a := by
  obtain ⟨honly, hrings⟩ := resetRelease_ends hin htap hcore hst hvio
  obtain ⟨hstart, hreset, _⟩ := release'_shows s s.lands.start
  obtain ⟨hboot, hid, hheld, hheldId⟩ := release'_straps s s.lands.start
  have hup := (release'_up s s.lands.start).trans hcore
  have hcount := release'_count s s.lands.start
  have hlands := honly.lands rfl
  have hpwr := honly.pwr rfl
  have hrst := (honly.regs A.SYS_RSTCNT (by decide +kernel)).trans hcount
  refine ⟨?_, (honly.regs _ (by decide +kernel)).trans hstart, hrings.event (by decide) hreset, by rw [hlands]; exact hboot,
    by rw [hlands]; exact hid, by rw [hlands]; exact hheld, by rw [hlands]; exact hheldId, ?_, ?_, fun h => ?_, fun h => ?_,
    fun a hlo hmid hhi => ?_⟩
  · unfold State.up at hup ⊢
    rw [hlands, hpwr]
    exact hup
  · rw [honly.pair rfl]
    exact release'_owner s _
  · rw [honly.img rfl, hlands]
    exact release'_load s _
  · rw [hrst, if_pos h]
  · rw [hrst, if_neg h]
  · exact (honly.regs a (engineAddr_uncovered (by decide) (by unfold asideRow; decide +kernel) ⟨hlo, hmid, hhi⟩)).trans
      (release'_reset s _ ⟨hlo, hmid, hhi⟩)

/-- What holds a reset (R482, R486). -/
theorem resetRelease_held {s : State} (h : s.lands.tapHold = true ∨ s.pwr.core = false ∨ s.pwr.st ≠ .main ∨
    (s.lands.start ≠ startRST ∧ s.pwr.vioOk = false)) : resetRelease s = s := by
  unfold resetRelease
  extract_lets kind
  refine if_neg (fun hgo => ?_)
  simp only [Bool.and_eq_true, Bool.or_eq_true, beq_iff_eq, Bool.not_eq_true'] at hgo
  obtain ⟨⟨⟨⟨_, htap⟩, hcore⟩, hst⟩, hvio⟩ := hgo
  rcases h with h | h | h | ⟨hs, hv⟩
  · exact nomatch htap.symm.trans h
  · exact nomatch hcore.symm.trans h
  · exact h hst
  · exact hvio.elim hs (fun hv' => nomatch hv'.symm.trans hv)

/-- Settles O47: a source of reset takes the device down or waits, its end shows the reset values, and the test port holds it. -/
theorem resetsAndTestPort : Obligations.ResetsAndTestPort := by
  unfold Obligations.ResetsAndTestPort
  refine ⟨⟨fun s at' hup hears => ⟨fun low hw => exec_rstN_short hears at' hw, fun low hw => ⟨_, exec_rstN hears at' hw, ?_⟩,
    fun i hi => sourceResets hup hears hi⟩, fun s hin => ⟨fun htap hcore hst hvio =>
      ⟨_, rfl, resetRelease_spec hin htap hcore hst hvio⟩, fun h => congrArg Host.Outcome.next (resetRelease_held h)⟩⟩,
    fun s => ⟨fun hv => ⟨fun at' p hp => ?_, ?_, fun cells => ?_, congrArg Host.Outcome.next (tapRuns_on hv .bypass),
      congrArg Host.Outcome.next (tapRuns_on hv .idcode)⟩, fun hv at' i cells hi => ?_⟩⟩
  · obtain ⟨hboot, hid, hopen, _⟩ := resetFrom_keeps (lowSeen low.straps s) (s.clkAt at')
    exact ⟨hboot, hid, hopen⟩
  · simp only [List.mem_cons, List.not_mem_nil, or_false] at hp
    rcases hp with rfl | rfl | rfl
    · exact ⟨_, rfl, tapHolds_spec hv _ .extest⟩
    · exact ⟨_, rfl, tapHolds_spec hv _ .highz⟩
    · exact ⟨_, rfl, tapHolds_spec hv _ .clamp⟩
  · refine congrArg Host.Outcome.next ((if_pos hv).trans ?_)
    rw [tapRuns_on hv]
    rfl
  · refine congrArg Host.Outcome.next ((if_pos hv).trans ?_)
    rw [tapRuns_on hv]
    rfl
  · have hoff : ¬ s.tapOn = true := by
      rw [State.tapOn, hv]
      exact nofun
    simp only [List.mem_cons, List.not_mem_nil, or_false] at hi
    rcases hi with rfl | rfl | rfl | rfl | rfl | rfl | rfl
    · exact congrArg Host.Outcome.next (tapHolds_off hv _ .extest)
    · exact congrArg Host.Outcome.next (tapHolds_off hv _ .highz)
    · exact congrArg Host.Outcome.next (tapHolds_off hv _ .clamp)
    · exact congrArg Host.Outcome.next (if_neg hoff)
    · exact congrArg Host.Outcome.next (if_neg hoff)
    · exact congrArg Host.Outcome.next (tapRuns_off hv .bypass)
    · exact congrArg Host.Outcome.next (tapRuns_off hv .idcode)

end Sys2Proof.Proofs
end
